-- ==== Sys2Proof/Word.lean ====
section
/-! DEFINITION. Bytes, bit fields, signed readings, saturating sums and the two cyclic codes the spec computes. Fields
of registers are numbers below 2 to their width; R10 fixes the little-endian byte order used by `leBytes`. -/

-- The package is also compiled as one text: its theorems are checked one after another, not on threads of their own.
set_option Elab.async false

namespace Sys2Proof

/-- One byte. -/
abbrev Byte := BitVec 8

/-- Bits `lo .. lo + w - 1` of `v` (R10: bit 0 is the least significant). -/
def bits (lo w v : Nat) : Nat := v / 2 ^ lo % 2 ^ w

/-- Bit `i` of `v` as a Boolean. -/
def bitOf (i v : Nat) : Bool := v / 2 ^ i % 2 == 1

/-- `v` with bits `lo .. lo + w - 1` replaced by `x`. -/
def putBits (lo w v x : Nat) : Nat := v - bits lo w v * 2 ^ lo + x % 2 ^ w * 2 ^ lo

/-- A Boolean as a one-bit field. -/
def b2n (b : Bool) : Nat := if b then 1 else 0

/-- The `w`-bit pattern `v` read as a two's-complement number. -/
def sgn (w v : Nat) : Int := if v % 2 ^ w < 2 ^ (w - 1) then (v % 2 ^ w : Nat) else (v % 2 ^ w : Nat) - (2 ^ w : Nat)

/-- The `w`-bit two's-complement pattern of an integer. -/
def pat (w : Nat) (i : Int) : Nat := (i % (2 ^ w : Nat)).toNat

/-- `v` limited to `lo .. hi`. -/
def clampI (lo hi v : Int) : Int := if v < lo then lo else if hi < v then hi else v

/-- An integer saturated to `w` signed bits. -/
def satS (w : Nat) (i : Int) : Int := clampI (-(2 ^ (w - 1) : Nat)) ((2 ^ (w - 1) : Nat) - 1) i

/-- A sum saturated at the largest `w`-bit number. -/
def satAdd (w a b : Nat) : Nat := min (a + b) (2 ^ w - 1)

/-- Division rounded up. -/
def ceilDiv (a b : Nat) : Nat := (a + b - 1) / b

/-- Division of an integer by a positive number rounded to the nearest, ties away from zero. -/
def roundDiv (a : Int) (b : Nat) : Int :=
  if 0 ≤ a then ((a.toNat * 2 + b) / (2 * b) : Nat) else -((((-a).toNat * 2 + b) / (2 * b) : Nat) : Int)

/-- The `n` low bytes of `v`, least significant first. -/
def leBytes : Nat → Nat → List Byte
  | 0, _ => []
  | n + 1, v => BitVec.ofNat 8 v :: leBytes n (v / 256)

/-- The number whose little-endian bytes are given. -/
def leVal : List Byte → Nat
  | [] => 0
  | b :: t => b.toNat + 256 * leVal t

/-- The number whose big-endian bytes are given. -/
def beVal (l : List Byte) : Nat := l.foldl (fun a b => a * 256 + b.toNat) 0

/-- The first `n` bytes of a list, filled with zeros. -/
def padTo (n : Nat) (l : List Byte) : List Byte := (l ++ List.replicate (n - l.length) 0).take n

/-- The little-endian number in `n` bytes from offset `o` of a byte string. -/
def leAt (l : List Byte) (o n : Nat) : Nat := leVal ((l.drop o).take n)

/-- One step of an unreflected CRC-8 over one byte held in the register's bits (R46: x^8 + x^2 + x + 1). -/
def crc8Shift : Nat → Nat → Nat
  | 0, c => c
  | n + 1, c => crc8Shift n (if 128 ≤ c then (c * 2 ^^^ 0x107) % 256 else c * 2)

/-- CHK of R46 and R574: initial value 0xFF, each byte most significant bit first, no final XOR. -/
def crc8 (l : List Byte) : Nat := l.foldl (fun c b => crc8Shift 8 (c ^^^ b.toNat)) 0xFF

/-- One step of the reflected CRC-32C register. -/
def crc32cShift : Nat → Nat → Nat
  | 0, c => c
  | n + 1, c => crc32cShift n (if c % 2 = 1 then (c / 2) ^^^ 0x82F63B78 else c / 2)

/-- CRC-32C continued over more bytes: reflected polynomial 0x82F6_3B78, no final XOR (R482). -/
def crc32cFrom (c : Nat) (l : List Byte) : Nat := l.foldl (fun c b => crc32cShift 8 (c ^^^ b.toNat)) c

/-- CRC-32C of R482 from its initial value 0xFFFF_FFFF. -/
def crc32c (l : List Byte) : Nat := crc32cFrom 0xFFFFFFFF l

/-- The era and the ns of a 64-bit timestamp joined (R11, R12). -/
def stampOf (era ns : Nat) : Nat := era * 2 ^ 32 + ns

/-- The value of a key in an association list. -/
def lookupD {α : Type} (d : α) (k : Nat) : List (Nat × α) → α
  | [] => d
  | (j, v) :: t => if k = j then v else lookupD d k t

/-- A key of an association list set, the list kept in rising order of keys. -/
def assocSet {α : Type} (k : Nat) (v : α) : List (Nat × α) → List (Nat × α)
  | [] => [(k, v)]
  | (j, w) :: t => if k < j then (k, v) :: (j, w) :: t else if k = j then (k, v) :: t else (j, w) :: assocSet k v t

/-- A key removed from an association list. -/
def assocDel {α : Type} (k : Nat) (l : List (Nat × α)) : List (Nat × α) := l.filter (fun p => p.1 != k)

/-- Element `i` of a list replaced, the list otherwise unchanged. -/
def listSet {α : Type} : List α → Nat → α → List α
  | [], _, _ => []
  | _ :: t, 0, v => v :: t
  | x :: t, i + 1, v => x :: listSet t i v

end Sys2Proof
end

