-- ==== Sys2Proof/Types.lean ====
section
/-! DEFINITION. The closed sets of names the spec uses: masters, domains, kinds of block, access types, operating
modes; the shape of a register field and of a register; and the records that commands carry from outside. -/

namespace Sys2Proof

/-- Who makes a bus access: the processors of R74, the host through BAR0 (R470), a JTAG master at debug level FULL
(R502) and a tile at position column × 10 + row (R577). -/
inductive Master where
  | gauntlet | mp | tp | ss | ac0 | ac1 | ac2 | ac3 | host | jtag | tile (pos : Nat)
  deriving DecidableEq, Repr

/-- The master codes of R578. -/
def Master.code : Master → Nat
  | .gauntlet => 0 | .mp => 1 | .tp => 2 | .ss => 3 | .ac0 => 4 | .ac1 => 5 | .ac2 => 6 | .ac3 => 7
  | .host => 8 | .jtag => 9 | .tile p => 0x80 + p

/-- The control and power domains of R31. -/
inductive Dom where
  | aon | sec | time | mgmt | io | fa | fb
  deriving DecidableEq, Repr

/-- The DOMAIN codes of R36. -/
def Dom.code : Dom → Nat
  | .aon => 0 | .sec => 1 | .time => 2 | .mgmt => 3 | .io => 4 | .fa => 5 | .fb => 6

/-- The kinds of register block: island control windows, service blocks and the tile kinds. -/
inductive Blk where
  | isl | dsp | mpc | time | loop | rf | acq | cor | obs | wv | filt | phs | aln | moda | trig | radio | mac | trk
  | eth | pkt | can | pcie | yx | dma | ddr | sec | cry | er | rc | hl | xspi
  deriving DecidableEq, Repr

/-- The access types of R16. -/
inductive Acc where
  | rw | ro | wo | w1c | w1s | rws | rwl
  deriving DecidableEq, Repr

/-- Where a reset value comes from (R15): the value written in the table, the structure image, the fuses, VBAT-backed
storage, or the place of the register (instance, lane, device-wide channel, island number, domain code, slot count,
clock code). -/
inductive Src where
  | val | img | fuse | vbat | inst | lane | chan | isl | dom | slots | clk
  deriving DecidableEq, Repr

/-- A register field: byte offset of its register in the block, lowest bit, width, access type, reset value and the
form of the reset value. -/
structure Fld where
  off : Nat
  lo  : Nat
  w   : Nat
  acc : Acc
  rst : Nat
  src : Src
  deriving DecidableEq, Repr

/-- A register: offset of its first instance in the block, whether it is 64 bits wide, stride and count of each index
of its instances, and its fields. -/
structure RegDesc where
  off  : Nat
  wide : Bool
  dims : List (Nat × Nat)
  flds : List Fld
  deriving DecidableEq, Repr

/-- The operating modes, in the order of MODE_STAT.MODE. -/
inductive Mode where
  | bootstrap | survey | service | holdover | dormant | maintenance
  deriving DecidableEq, Repr

/-- MODE_STAT.MODE codes. -/
def Mode.code : Mode → Nat
  | .bootstrap => 0 | .survey => 1 | .service => 2 | .holdover => 3 | .dormant => 4 | .maintenance => 5

/-- The mode of a code; codes 6 and 7 name no mode and read as BOOTSTRAP. -/
def Mode.ofCode : Nat → Mode
  | 1 => .survey | 2 => .service | 3 => .holdover | 4 => .dormant | 5 => .maintenance | _ => .bootstrap

/-- What a health pass measured on one island (R545): the counts of its four ring oscillators, the margins of its two
replicas as 16-bit patterns in ps, and the projection of R548 in 0.01 year. -/
structure IslMeas where
  isl   : Nat
  ros   : List Nat
  m0    : Nat
  m1    : Nat
  years : Nat
  deriving DecidableEq, Repr

/-- What the echo window of a cable measurement saw (R163), with the time in ps from the launch stamp to the echo stamp. -/
inductive CableEcho where
  | rise (gap : Nat) | fall (gap : Nat) | none | noPlateau
  deriving DecidableEq, Repr

/-- A memory access: `n` bytes read, or bytes written. -/
inductive MemOp where
  | read (n : Nat) | write (l : List Byte)
  deriving DecidableEq, Repr

/-- What a producer gives a packet beside its data words (R46), and whether the packet names a slot of the link's ring
(R86). -/
structure PktHead where
  typ    : Nat
  flow   : Nat
  prio   : Nat
  lane   : Nat
  depCan : Bool
  ring   : Bool
  deriving DecidableEq, Repr

/-- The attributes a key command gives a new key (R508): LEN256, DEST (bits 0–3 CRY, 4–7 MAC, 8 OBS, 9 PKT, 10 Gauntlet),
USAGE (bits 0 ENC, 1 DEC, 2 MAC, 3 DERIVE, 4 WRAP), PARENT (slot, 0x100 root, 0x1FF none), DBG_SENS, EXPORT_NEVER and
PERSIST. -/
structure KeyAttr where
  len256  : Bool
  dest    : Nat
  usage   : Nat
  parent  : Nat
  dbg     : Bool
  noexp   : Bool
  persist : Bool
  deriving DecidableEq, Repr

/-- What an alignment search found (R198): lanes D0 and D1 inverted, lanes exchanged, clock pair swapped, bit offset. -/
structure Alignment where
  invI : Bool
  invQ : Bool
  swap : Bool
  clk  : Bool
  slip : Nat
  deriving DecidableEq, Repr

/-- What a front end presents during R197: bytes 0x00–0x1F over its control SPI, bytes 0x0A–0x10 read again after the band and
format are selected, and the levels of lanes D0 and D1 in training, one bit a clock edge from a rising edge on, the first in bit
0. -/
structure FeProbe where
  desc  : List Byte
  again : List Byte
  d0    : Nat
  d1    : Nat
  deriving DecidableEq, Repr

/-- What a COR lane measured at an epoch (R217): transmit time in 2^−14 ns of the week, carrier phase and Doppler as patterns,
C/N0 in 0.01 dB-Hz. -/
structure ChMeas where
  lane  : Nat
  tx    : Nat
  phase : Nat
  dop   : Nat
  cn0   : Nat
  deriving DecidableEq, Repr

/-- Navigation symbols that a COR lane has demodulated (R217): their number and up to 12 words, the first symbol in bit 0 of the first
word. -/
structure NavSyms where
  lane  : Nat
  count : Nat
  words : List Nat
  deriving DecidableEq, Repr

/-- What the supervision of a waveform input has counted (R258): consecutive clock cycles with the input 1 in the high half and 0 in
the low half, cycles since its last transition and its level, the ones of the last 4,096 cycles (none before so many have passed),
and the consecutive cycles in which no fault has held. -/
structure WvObs where
  swap  : Nat
  still : Nat
  level : Bool
  ones  : Option Nat
  clean : Nat
  deriving DecidableEq, Repr

/-- The cells of a search (R211): the power of every cell not listed, and cells as Doppler bin, sample of the code period and
power. -/
structure AcqCells where
  floor : Nat
  cells : List (Nat × Nat × Nat)
  deriving DecidableEq, Repr

/-- What the encoder's solvers find for an epoch (R233, R237, R238), whose arithmetic the spec leaves to the device: satellites
and PDOP in 0.01 of the reference antenna's solution, its clock offset as a 40-bit pattern in 2^−8 ns, its position in ECEF mm,
its residual against the fixed position in ENU as Q16.16 patterns, the common satellites with fixed ambiguities, and the fixed
baseline in ENU mm. -/
structure EpochSol where
  nsat   : Nat
  pdop   : Nat
  offset : Nat
  x      : Int
  y      : Int
  z      : Int
  re     : Nat
  rn     : Nat
  ru     : Nat
  common : Nat
  be     : Int
  bn     : Int
  bu     : Int
  deriving DecidableEq, Repr

/-- An image as the flash holds it (R129–R131): its type, the 4 KiB update header in front of it, and its stored bytes. -/
structure ImgFile where
  typ  : Nat
  head : List Byte
  body : List Byte
  deriving DecidableEq, Repr

/-- A channel that Cocoon hints at (R221): the channel, its CH_CFG word, its code phase and its Doppler as CH_AID takes them. -/
structure ChHint where
  chan : Nat
  cfg  : Nat
  code : Nat
  dop  : Nat
  deriving DecidableEq, Repr

/-- What start-up finds outside the device's own state: active images the flash already held, the types whose copy fails
verification three times (R139), whether DDR training passes, and the identities of partners found (R551) as kind, index and
identity. -/
structure BootEnv where
  flash    : List ImgFile
  copyBad  : List Nat
  ddrOk    : Bool
  partners : List (Nat × Nat × Nat)
  deriving DecidableEq, Repr

end Sys2Proof
end

