-- ==== Sys2Proof/Syntax.lean ====
section
/-! DEFINITION. The commands the block takes: one constructor per row of spec/opcode_table.json, in its order. The table
gives its rows no operands; each constructor carries what the command needs from outside: the master and the value of an
access, the instance an event happens to, and what was measured or decided outside the block (see NOTES.md). -/

namespace Sys2Proof

/-- The commands. -/
inductive Instr where
  /-- POWER_ON_RESET (R119): VDD_SOC rises or RESET_N is held low for at least 10 µs, which resets every domain and starts BOOTSTRAP. -/
  | powerOnReset (vbat : Bool) (env : Option BootEnv)
  /-- WARM_RESET (R119): A warm reset resets SEC, MGMT, IO, FA and FB while the time core keeps counting, and starts BOOTSTRAP without steps 1 and 2. -/
  | warmReset (env : BootEnv)
  /-- WATCHDOG_EXPIRY (R119): The MP or Gauntlet watchdog expires, which starts an emergency flush and then a warm reset. -/
  | watchdogExpiry (sec : Bool)
  /-- RESET_CTRL_WRITE (R118): A write of RESET_CTRL with KEY 0x5752 requests a warm reset, setting MAINT_BOOT if asked; any other key is ignored. -/
  | resetCtrlWrite (m : Master) (v : Nat)
  /-- REF_CLOCK_LOCK (R121): The TIME island clock locks at ×25 on a valid REF10_IN and the time counter starts, completing boot step 2. -/
  | refClockLock (env : BootEnv)
  /-- REGISTER_WRITE (R16): A write to a register with no row of its own takes effect under its access type, lock and access rights. -/
  | registerWrite (m : Master) (addr : Nat) (wide : Bool) (v same : Nat)
  /-- RWL_LOCK (R18): A write of 1 to a block's LOCK bit locks its RWL fields until power-on reset. -/
  | rwlLock (m : Master) (addr v : Nat)
  /-- COUNTER_CLEAR (R16): A CNT_CLR bit or counter-clearing write clears a block's counters. -/
  | counterClear (m : Master) (addr : Nat) (wide : Bool) (v : Nat)
  /-- LOW_WORD_WRITE (R20): A 32-bit write of the low word of a 64-bit register stages the value for that master. -/
  | lowWordWrite (m : Master) (addr v : Nat)
  /-- HIGH_WORD_WRITE (R20): A 32-bit write of the high word makes the whole 64-bit value take effect with the staged or present low word. -/
  | highWordWrite (m : Master) (addr v same : Nat)
  /-- LOW_WORD_READ (R20): A 32-bit read of the low word captures the high word, and for TIME_NOW the sub-ns fraction, for the same master. -/
  | lowWordRead (m : Master) (addr : Nat)
  /-- HIGH_WORD_READ (R20): A 32-bit read of the high word returns and uses up the captured value, or returns the present high word. -/
  | highWordRead (m : Master) (addr : Nat)
  /-- BUS_ACCESS (R576): A processor or tile access to memory or an unmapped region is resolved by rights, address, domain and instancing in that order. -/
  | busAccess (m : Master) (addr : Nat) (op : MemOp)
  /-- ISL_CLK_WRITE (R37): A FREQ_CODE write on a fabric island starts a relock, or is ignored and sets CLK_RANGE when out of range. -/
  | islClkWrite (m : Master) (isl v : Nat)
  /-- CLOCK_RELOCK_DONE (R37): The island clock locks at the new frequency within 2 µs. -/
  | clockRelockDone (isl : Nat)
  /-- PACKET_SEND (R44): A producer that holds enough credits writes a packet, its length slot last, into a consumer queue. -/
  | packetSend (link : Nat) (h : PktHead) (data : List Nat)
  /-- PACKET_ARRIVE (R49): A packet becomes visible at the consumer, which checks its framing and CRC and holds newer-epoch items. -/
  | packetArrive (link : Nat) (upset : Option (Nat × List Nat))
  /-- CREDIT_RETURN (R43): A returned credit reaches the producer; a surplus return is ignored and sets CREDIT_ERR. -/
  | creditReturn (link : Nat)
  /-- LINK_RESET (R53): A reset of either end discards the consumer's entries, counts them in ISL_QDROP and sets Q_DROP. -/
  | linkReset (link : Nat)
  /-- LINK_RESET_DONE (R53): Both ends acknowledge the link reset and the producer's 14 credits are restored. -/
  | linkResetDone (link : Nat)
  /-- SUBMIT (R66): PORT_OP SUBMIT creates a dispatcher entry, held if HOLD is set, or refuses it. -/
  | submit (m : Master) (port : Nat)
  /-- ADD_DEP (R66): PORT_OP ADD_DEP adds one to a held target's counter for each live predecessor. -/
  | addDep (m : Master) (port handle pred : Nat)
  /-- RELEASE (R66): PORT_OP RELEASE removes the hold of an entry. -/
  | release (m : Master) (port handle : Nat)
  /-- CANCEL (R61): PORT_OP CANCEL removes a waiting or ready entry, optionally releasing its dependents, or is refused. -/
  | cancel (m : Master) (port handle : Nat) (relDeps sameCycle : Bool)
  /-- COMPLETE (R69): PORT_OP COMPLETE ends a software agent's entry in service and schedules its successor decrements. -/
  | complete (m : Master) (port handle : Nat)
  /-- TAKE (R69): PORT_OP TAKE advances PORT_DISP to the next dispatched entry. -/
  | take (m : Master) (port : Nat)
  /-- BAD_OP (R66): A PORT_OP write with OP 6 or 7 is refused with BAD_OP. -/
  | badOp (m : Master) (port op : Nat)
  /-- PORT_OP_DONE (R67): A port operation finishes within 40 dispatcher cycles and PORT_RES leaves PENDING. -/
  | portOpDone (port : Nat)
  /-- HW_SUBMIT (R60): A hardware producer submits an entry at its submit port, stalling while the partition pool is empty. -/
  | hwSubmit (flow prio tag : Nat)
  /-- TILE_COMPLETE (R56): A tile completes the entry it had in service. -/
  | tileComplete (handle : Nat)
  /-- SUCCESSOR_DECREMENT (R56): The dispatcher decrements one successor's counter per cycle, making it ready at zero. -/
  | successorDecrement
  /-- DISPATCH (R58): The dispatcher dispatches the oldest eligible entry of the highest-priority ready list whose consumer can take it. -/
  | dispatch (stalled : List Nat)
  /-- FLOW_DATA_WRITE (R68): A DSP_FLOW_DATA write assigns a flow, or is ignored with FLOW_BUSY while the flow is active. -/
  | flowDataWrite (m : Master) (v : Nat)
  /-- MODE_REQUEST (R110): MP writes MODE_REQ, which starts a change with PREPARE, queues it, supersedes a pending one, or is refused. -/
  | modeRequest (m : Master) (v : Nat)
  /-- MODE_ACK (R112): An island's acknowledgement reaches MP; the last one makes MP send COMMIT. -/
  | modeAck (isl : Nat)
  /-- ACK_WAIT_EXPIRY (R112): ACK_WAIT expires and MP sends COMMIT without the missing acknowledgements. -/
  | ackWaitExpiry
  /-- MODE_COMMIT_INSTANT (R113): The commit instant is reached and every island holding the COMMIT applies the change and its per-mode effects. -/
  | modeCommitInstant (late : List Nat)
  /-- LATE_APPLY (R114): A COMMIT arriving after the commit instant is applied at once, with LATE_APPLY and MODE_LATE set. -/
  | lateApply (isl : Nat)
  /-- MODE_CHANGE_COMPLETE (R112): MP finds every participant's EPOCH equal, clears CHANGING, sets CHANGED and starts any pending request. -/
  | modeChangeComplete (test : Option (Bool × Bool))
  /-- EPOCH_HOLD_TIMEOUT (R115): A stage has held a newer item for more than 1 ms, which raises MODE_SKEW. -/
  | epochHoldTimeout (link : Nat)
  /-- SKEW_TIMEOUT (R117): At commit instant + 1 ms, lagging islands are isolated, MODE_SKEW is raised and the change ends. -/
  | skewTimeout
  /-- ISLAND_READMIT (R117): An isolated island shows the current EPOCH, so MP releases its links and re-admits it. -/
  | islandReadmit (isl : Nat)
  /-- ISOLATION_TIMEOUT (R117): An island still isolated 100 ms after the commit instant stays isolated until reset, and MODE_SKEW is raised again. -/
  | isolationTimeout (isl : Nat)
  /-- SERVICE_CONDITIONS_MET (R105): With AUTO_SVC at 1, MP starts a change to SERVICE by itself once the service conditions hold. -/
  | serviceConditionsMet
  /-- DORMANT_GRACE_EXPIRY (R124): The DORM_GRACE notice ends, and MP writes Cocoon, flushes the recorder, drains DMA and starts the change to DORMANT. -/
  | dormantGraceExpiry (nav : List (Nat × Nat))
  /-- WAKE_TIMER_FIRE (R125): The time core reaches WAKE_TIME with TIMER_EN set and the device wakes. -/
  | wakeTimerFire (env : BootEnv)
  /-- WAKE_PIN (R125): An enabled wake GPIO holds its edge level for 100 µs and the device wakes. -/
  | wakePin (pin : Nat) (rise : Bool) (env : BootEnv)
  /-- WAKE_HOST (R472): A rising edge of PCIE_PERST_N in DORMANT with HOST_EN set wakes the device. -/
  | wakeHost (env : BootEnv)
  /-- COC_DATA_WRITE (R128): A COC_DATA write stores a word, clears VALID and advances COC_ADDR. -/
  | cocDataWrite (m : Master) (v : Nat)
  /-- COC_DATA_READ (R128): A COC_DATA read returns a word and advances COC_ADDR; an uncorrectable word sets UE and clears VALID. -/
  | cocDataRead (m : Master) (bad : Bool)
  /-- COCOON_REFRESH (R219): Every 60 s in SURVEY, SERVICE and HOLDOVER, MP rewrites Cocoon. -/
  | cocoonRefresh (nav : List (Nat × Nat))
  /-- UPD_BEGIN (R133): UPD_BEGIN selects a bank and erases it, or refuses with SESSION_OPEN or BANK_BUSY. -/
  | updBegin
  /-- BANK_ERASE_DONE (R132): The bank erase ends and the session opens. -/
  | bankEraseDone (ok : Bool)
  /-- UPD_HEADER (R134): UPD_HEADER checks an update header in order and accepts or refuses it. -/
  | updHeader
  /-- UPD_BLOCK (R135): UPD_BLOCK stores a 4 KiB block, or reports it DUPLICATE or refuses it. -/
  | updBlock (flashOk : Bool)
  /-- UPD_FINALIZE (R136): UPD_FINALIZE checks bitmaps, hashes, the structure image and interfaces, and makes the bank FINAL. -/
  | updFinalize
  /-- UPD_ABORT (R132): UPD_ABORT ends the open session. -/
  | updAbort
  /-- UPD_STATUS (R132): UPD_STATUS returns bank states, the session and the blocks held. -/
  | updStatus
  /-- SESSION_TIMEOUT (R132): A session with no operation for 600 s is aborted. -/
  | sessionTimeout
  /-- SECOND_BOUNDARY (R143): SEC_PHASE passes 10^9 and anchored grids, loops and leap checks act on this edge. -/
  | secondBoundary
  /-- ERA_WRAP (R146): TIME_NS wraps and the era takes TIME_ERA_NEXT or increments. -/
  | eraWrap
  /-- TIME_INC_WRITE (R144): A TIME_INC write takes effect from the next edge, or is ignored with TINC_RANGE or INC_SRC_VIOL. -/
  | timeIncWrite (m : Master) (v : Nat)
  /-- TIME_ERA_NEXT_WRITE (R147): A TIME_ERA_NEXT write sets ERA_PEND, or is ignored with ERA_LATE in the closed window. -/
  | timeEraNextWrite (m : Master) (v : Nat)
  /-- TIME_ADJ_WRITE (R150): A TIME_ADJ high-word write starts or replaces a slew. -/
  | timeAdjWrite (m : Master) (v : Nat)
  /-- SLEW_DONE (R150): TIME_ADJ_REM reaches zero and the slew ends. -/
  | slewDone
  /-- STEP_ARM (R151): TIME_STEP_CTRL.GO arms a step or refuses it by mode, size or policy. -/
  | stepArm (m : Master) (abs : Bool)
  /-- STEP_CANCEL (R151): TIME_STEP_CTRL.CANCEL disarms any armed step. -/
  | stepCancel (m : Master) (abs : Bool)
  /-- STEP_APPLY (R152): On the first second boundary at least 1 ms after GO, the step is applied and every function reacts to the new generation. -/
  | stepApply
  /-- TIME_STATE_WRITE (R153): TP writes TIME_CTRL.STATE; entering HOLDOVER in SERVICE makes TP request HOLDOVER. -/
  | timeStateWrite (m : Master) (v : Nat)
  /-- TERR_WRITE (R156): A TIME_TERR write sets TERR_W, or in HOLDOVER raises TERR_0 only upward. -/
  | terrWrite (m : Master) (v : Nat)
  /-- TERR_EVAL (R156): Every 1 ms in HOLDOVER the time error estimate is recomputed from the holdover model. -/
  | terrEval
  /-- REF_FAIL (R157): REF10_IN stops or leaves ±100 ppm, so the clock runs free and the state is forced to HOLDOVER. -/
  | refFail
  /-- REF_RECOVER (R157): REF10_IN has been within range for 1 s and REF_OK returns. -/
  | refRecover
  /-- SOURCE_VALID (R154): A discipline source meets its validity rule and TP may select it under its policy. -/
  | sourceValid (src rate : Nat)
  /-- SOURCE_LOST (R154): A discipline source meets its loss rule and TP reselects or enters HOLDOVER. -/
  | sourceLost (src : Nat) (rate : Nat)
  /-- LEAP_APPLY (R164): On the first second boundary at or after LEAP_AT, UTC_OFS takes NEXT_OFS. -/
  | leapApply
  /-- TDC_EDGE (R158): An edge on a TDC input is stamped, or lost with OVR within 100 ns of the previous one. -/
  | tdcEdge (ch : Nat) (falling : Bool) (stamp sub : Nat)
  /-- STAMP_DELIVERY (R158): A TDC stamp reaches its TRIG or MAC tile over the stamp queue. -/
  | stampDelivery (pos : Nat)
  /-- PPS_OUTPUT_EDGE (R160): A PPS output rises at the second boundary plus OFS minus the cable delay, unless a step suppresses it. -/
  | ppsOutputEdge (n : Nat)
  /-- PPS_PULSE_END (R160): WIDTH µs after its rising edge, a PPS pulse falls. -/
  | ppsPulseEnd (n : Nat)
  /-- MEAS_GO (R162): PPS_CFG.MEAS_GO starts a cable measurement, or is refused with BLOCKED. -/
  | measGo (m : Master) (n : Nat)
  /-- CABLE_LAUNCH (R162): After the wait into the low period, the driver launches a test edge into 50 Ω. -/
  | cableLaunch (n : Nat)
  /-- CABLE_RESULT (R163): The echo window ends and DELAY and STATE are written with their events. -/
  | cableResult (n : Nat) (out : CableEcho)
  /-- LOOP_ENABLE (R175): Setting LP_CTRL.EN checks the loop configuration and starts it in MANUAL or AUTO, or refuses it. -/
  | loopEnable (m : Master) (l : Nat) (auto freeze : Bool)
  /-- LOOP_DISABLE (R174): Clearing EN disables the lane and releases its target claim. -/
  | loopDisable (m : Master) (l : Nat) (auto freeze : Bool)
  /-- LOOP_UPDATE (R172): At a grid instant or a new sample the lane runs its control law and sends u to its target. -/
  | loopUpdate (l : Nat)
  /-- LOOP_OUTPUT_APPLY (R191): The output item reaches its target, which applies it to TIME_INC, the EFC DAC or a notch. -/
  | loopOutputApply (l : Nat)
  /-- LOOP_STALE_TIMEOUT (R179): No new measured sample for STALE_MAX × PERIOD puts the lane in HOLD. -/
  | loopStaleTimeout (l : Nat)
  /-- LOOP_SAT_LIMIT (R182): SAT_TIME exceeds SAT_LIM and the lane takes SAT_ACT. -/
  | loopSatLimit (l : Nat)
  /-- RC_CLEAR (R190): LP_CTRL.RC_CLEAR starts zeroing the repetitive-controller memory. -/
  | rcClear (m : Master) (l : Nat)
  /-- RC_CLEAR_DONE (R190): The memory clear ends and RC_BUSY clears. -/
  | rcClearDone (l : Nat)
  /-- LOOKUP_REQUEST (R187): A lookup item reaches a LOOP lane, which answers it from its table. -/
  | lookupRequest (inst : Nat)
  /-- RF_PORT_ENABLE (R197): RF_CFG.EN reads the front-end descriptor, trains the lanes and enters RUN, or stops in FAIL. -/
  | rfPortEnable (m : Master) (p : Nat) (fe : FeProbe)
  /-- RF_RETRAIN (R199): RF_CTRL.RETRAIN repeats the enable sequence and sends the port's channels to REACQ. -/
  | rfRetrain (m : Master) (p : Nat) (fe : FeProbe)
  /-- RF_CLOCK_LOSS (R199): No clock edge for 1 µs in RUN puts the port in FAIL with CLK_LOSS. -/
  | rfClockLoss (p : Nat)
  /-- RF_AUTO_RETRAIN (R199): The clock has been present for 10 ms and AUTO_RETRAIN repeats the enable sequence. -/
  | rfAutoRetrain (p : Nat) (fe : FeProbe)
  /-- RF_RATE_CHECK (R195): Once per second the sample count is compared with the descriptor rate. -/
  | rfRateCheck (p sps : Nat)
  /-- JAM_LEARN (R204): RF_CTRL.LEARN starts a 10 s baseline average. -/
  | jamLearn (m : Master) (p : Nat)
  /-- JAM_LEARN_DONE (R204): The 10 s learning ends and P0 and SFM0 are written. -/
  | jamLearnDone (p : Nat)
  /-- NOTCH_DETECT (R203): Every 10 ms the detector computes the spectrum, places or releases adaptive notches and updates JI. -/
  | notchDetect (p : Nat) (bins : List Nat)
  /-- BIAS_SAMPLE (R205): Every 1 ms the bias current is measured and the bias state updated. -/
  | biasSample (p current : Nat)
  /-- BIAS_RETRY (R205): RETRY_S seconds in SHORT elapse and bias is retried for 10 ms. -/
  | biasRetry (p : Nat)
  /-- ACQ_GO (R210): AQ_CTRL.GO starts a search context, or is ignored while busy. -/
  | acqGo (m : Master) (q : Nat)
  /-- ACQ_ABORT (R213): AQ_CTRL.ABORT ends the search with ABORTED. -/
  | acqAbort (m : Master) (q : Nat)
  /-- ACQ_DONE (R211): The last correlation finishes and the context reports DETECT or NO_SIGNAL, with any handover. -/
  | acqDone (q : Nat) (capture : List Byte) (cells : AcqCells) (cn0 arrive : Nat)
  /-- CH_ENABLE (R214): Setting CH_CTRL.EN checks the channel and starts it, or refuses it. -/
  | chEnable (m : Master) (c : Nat)
  /-- CH_DISABLE (R215): Clearing EN, or disabling the port, returns the channel to IDLE. -/
  | chDisable (m : Master) (c : Nat)
  /-- CH_AID_SUBMIT (R215): A CH_AID_AT write submits aiding, which starts PULL_IN or is ignored with AID_IGN. -/
  | chAidSubmit (m : Master) (c at_ : Nat)
  /-- CH_TRACK_LOCK (R215): A channel in PULL_IN or REACQ meets its lock conditions and enters TRACK. -/
  | chTrackLock (c pli cn0 freqErr : Nat) (dcode ddop : Int)
  /-- CH_PULLIN_FAIL (R215): A channel in PULL_IN loses C/N0 for 200 ms or misses TRACK in 1 s and enters LOST. -/
  | chPullinFail (c cn0 : Nat)
  /-- CH_SYNC (R216): Symbol and frame sync or time aiding move the channel to SYNCED. -/
  | chSync (c : Nat) (frame tow polarity : Bool)
  /-- CH_LOCK_LOSS (R215): Lock indicator or C/N0 loss, or port FAIL, moves the channel to REACQ. -/
  | chLockLoss (c pli cn0 : Nat)
  /-- CH_REACQ_TIMEOUT (R215): REACQ_MAX elapses and the channel enters LOST. -/
  | chReacqTimeout (c : Nat)
  /-- MEAS_EPOCH (R217): At each CH_EPOCH instant the COR tiles latch measurements and send items to OBS. -/
  | measEpoch (inst : Nat) (ms : List ChMeas) (nav : List NavSyms)
  /-- MEAS_ITEM (R227): A measurement item reaches the OBS tile, which files it in a context and may close the epoch. -/
  | measItem (inst : Nat)
  /-- NAV_ITEM (R228): A navigation symbol item reaches the OBS tile and is decoded for orbit data. -/
  | navItem (inst : Nat) (azel : Option (Nat × Int))
  /-- OBS_FORWARD_ITEM (R224): A TYPE 0x22 observable item from the non-encoder tile reaches the encoder. -/
  | obsForwardItem (inst : Nat)
  /-- EPOCH_CLOSE_TIMEOUT (R227): CLOSE µs after the epoch instant, the epoch closes with what it holds. -/
  | epochCloseTimeout (inst : Nat)
  /-- LOOKUP_REPLY (R229): A phase-centre reply reaches the encoder and corrects the satellite's ranges. -/
  | lookupReply (inst : Nat)
  /-- CORRECTION_ENCODE (R244): With the epoch compensated and integrity set, the encoder builds RTCM frames and queues correction items. -/
  | correctionEncode (inst : Nat) (sol : EpochSol)
  /-- SURVEY_START (R232): OB_SV.START begins or restarts the chosen survey method. -/
  | surveyStart (m : Master) (inst : Nat)
  /-- SURVEY_COMPLETE (R233): An AVERAGE survey meets DUR and ACC, or reaches 172,800 s, and the position becomes FIXED. -/
  | surveyComplete (inst : Nat)
  /-- POSITION_CHECK_DONE (R234): The 60 s check of a written position ends in FIXED or CHECK_FAIL. -/
  | positionCheckDone (inst : Nat)
  /-- POSZ_WRITE (R234): An OB_POSZ write takes the position triple and starts its check. -/
  | poszWrite (m : Master) (inst v : Nat)
  /-- BASE_WRITE (R236): An OB_BASE write sets the surveyed baseline, or is ignored with CHECK_FAIL. -/
  | baseWrite (m : Master) (inst v : Nat)
  /-- BASELINE_AVG_DONE (R236): The 300 s baseline average ends and BASE_STATE becomes SET. -/
  | baselineAvgDone (inst : Nat)
  /-- SIDC_COMMIT (R230): An OB_SIDC_U write commits the sidereal vector for the next epoch. -/
  | sidcCommit (m : Master) (inst v : Nat)
  /-- INT_CLEAR (R239): OB_INT.CLEAR clears a latched BASELINE_WH. -/
  | intClear (m : Master) (inst : Nat)
  /-- UNMON_TIMEOUT (R239): No epoch has been monitored for UNMON_S seconds and UNMON_WH sets. -/
  | unmonTimeout (inst : Nat)
  /-- HOLDOVER_TIME_LIMIT (R241): TIME_HO_T.ELAPSED exceeds MAX_S and the TIME cause sets. -/
  | holdoverTimeLimit (inst : Nat)
  /-- OUT_ENABLE (R249): Setting OB_OUTn.EN activates the output or reports it REFUSED. -/
  | outEnable (m : Master) (inst n : Nat)
  /-- WV_INPUT_STATE (R258): An input's supervision count completes and WV_IN_STAT.STATE changes. -/
  | wvInputState (n : Nat) (o : WvObs)
  /-- MCLK_CONTEND (R259): MOD_CLK read-back disagrees on 64 of 256 cycles and CONTEND sets, or clears after 256 agree. -/
  | mclkContend (k wrong : Nat)
  /-- BITSTREAM_ITEM (R257): A 64-bit bitstream item reaches a FILT tile and enters its lanes' CIC. -/
  | bitstreamItem (inst : Nat)
  /-- FILT_ENABLE (R283): FL_CTRL.EN checks the lane and starts filtering, or refuses it. -/
  | filtEnable (m : Master) (c : Nat)
  /-- FILT_SRC_CHANGE (R271): At the next fine-grid instant a new SRC is applied and the lane's registers cleared. -/
  | filtSrcChange (c : Nat)
  /-- FILT_SWAP (R275): FL_CTRL.SWAP requests a bank swap, applied at once, queued, or superseding a queued one. -/
  | filtSwap (m : Master) (c fade : Nat)
  /-- SWAP_APPLY (R277): At the next fine-sample boundary the swap starts, or is refused for a non-symmetric bank. -/
  | swapApply (c : Nat)
  /-- FADE_END (R275): Fade sample F is produced and the new bank alone is active. -/
  | fadeEnd (c : Nat)
  /-- FINE_SAMPLE (R280): A fine sample is produced, flagged, evaluated by thresholds and batched into an item. -/
  | fineSample (c : Nat)
  /-- FAST_SAMPLE (R270): A fast sample is produced every FAST_DEC CIC outputs and batched into an item. -/
  | fastSample (c : Nat)
  /-- THRESHOLD_CHANGE (R279): A threshold's dwell completes and ACTIVE changes, with an event and a threshold item. -/
  | thresholdChange (c : Nat)
  /-- PHASOR_ENABLE (R290): PH_CTRL.EN checks the phasor lane and starts it, or refuses it. -/
  | phasorEnable (m : Master) (c : Nat)
  /-- PHASOR_ESTIMATE (R289): Once its window is complete, a lane estimates the phasor for a reporting instant and queues it. -/
  | phasorEstimate (c : Nat)
  /-- FAST_ESTIMATE (R292): A one-cycle fast estimate is produced at each fast grid instant. -/
  | fastEstimate (c : Nat)
  /-- STREAM_ENABLE (R297): AL_CFG.EN loads the stream's PKT context and starts a quarantine, or refuses it. -/
  | streamEnable (m : Master) (st : Nat)
  /-- STREAM_DISABLE (R313): Clearing AL_CFG.EN returns the owned context to OFF and leaves the stream absent in buckets. -/
  | streamDisable (m : Master) (st : Nat)
  /-- STREAM_FRAME (R300): A TYPE 0x52 frame item reaches the ALN lane, which checks it, updates q and copies it into buckets. -/
  | streamFrame (inst : Nat)
  /-- LOCAL_ESTIMATE_ITEM (R303): A phasor estimate reaches a local stream, and the last one completes its frame. -/
  | localEstimateItem (inst : Nat)
  /-- QUARANTINE_END (R313): A stream's quarantine time ends and QUAR clears. -/
  | quarantineEnd (st : Nat)
  /-- CONC_ENABLE (R311): AC_CFG.EN checks a concentration and distributes its settings from the home, or refuses it. -/
  | concEnable (m : Master) (inst n : Nat)
  /-- CONC_DISABLE (R312): Disabling a concentration discards its open buckets without emission. -/
  | concDisable (m : Master) (inst n : Nat)
  /-- BUCKET_OPEN (R306): At t_k − 100 ms a bucket takes a free slot, or is skipped with NO_SLOT. -/
  | bucketOpen (n : Nat)
  /-- PART_CLOSE (R307): A tile's part of a bucket closes, fills absent members and sends a part item to the home. -/
  | partClose (inst n : Nat)
  /-- PART_ITEM (R308): A part item reaches the home; the last part closes the bucket. -/
  | partItem (inst : Nat)
  /-- BUCKET_CAP_TIMEOUT (R308): At t_k + WAIT_CAP + 1 ms the home closes the bucket with missing parts filled. -/
  | bucketCapTimeout (n : Nat)
  /-- BUCKET_EMIT (R308): A closed bucket with no older open bucket is emitted as TYPE 0x54 items. -/
  | bucketEmit (n : Nat)
  /-- CONC_SLOT_RELEASE (R308): The last destination releases a concentration slot and it returns to the pool. -/
  | concSlotRelease (n slot : Nat)
  /-- GROUP_ENABLE (R321): MG_CTRL.EN checks an analysis group and starts it, or refuses it. -/
  | groupEnable (m : Master) (g : Nat)
  /-- GROUP_FRAME_EVAL (R320): A group evaluates a frame when its inputs arrive, updating the model or clusters and its alarm. -/
  | groupFrameEval (g : Nat)
  /-- GROUP_FRAME_TIMEOUT (R320): At the instant + 0.3 ms a FEED 1 or 2 group evaluates the frame with what has arrived. -/
  | groupFrameTimeout (g : Nat)
  /-- MODEL_RESTART (R325): 2 s of skipped samples restart an OSC model. -/
  | modelRestart (g : Nat)
  /-- MODEL_RESTART_CMD (R325): MG_CTRL.RESTART restarts the model. -/
  | modelRestartCmd (m : Master) (g : Nat)
  /-- GROUP_STALE (R329): No monitored frame for 1 s sets STALE. -/
  | groupStale (g : Nat)
  /-- ALARM_PIN_MIN_EXPIRY (R331): An ALARM_OUT pin's MIN_MS hold ends and the pin may deassert. -/
  | alarmPinMinExpiry (n : Nat)
  /-- ALARM_CLR (R331): AO_CFG.CLR releases a latched alarm pin whose sources have ended. -/
  | alarmClr (m : Master) (n : Nat)
  /-- ENGINE_ARM (R345): TG_CTRL.ARM checks a capture engine and enters FILLING, or refuses it. -/
  | engineArm (m : Master) (e : Nat)
  /-- ENGINE_ABORT (R340): TG_CTRL.ABORT commits a record in POST with ABORTED, or discards frames, and clears ARM. -/
  | engineAbort (m : Master) (e : Nat)
  /-- SWTRIG (R337): TG_CTRL.SWTRIG triggers the engine at the write instant. -/
  | swtrig (m : Master) (e : Nat)
  /-- TRIGGER_RECEIVE (R339): A trigger reaches an engine and fixes the trigger frame, or counts as MISSED or EXTRA_TRIG. -/
  | triggerReceive (e : Nat)
  /-- CAPTURE_FRAME_CLOSE (R336): A capture frame closes when all values arrive or at FRAME_WAIT, and is written to the record. -/
  | captureFrameClose (e : Nat) (behind : Bool)
  /-- CAPTURE_COMMIT (R340): The last post-trigger frame is written and the record commits with its header and measurements. -/
  | captureCommit (e : Nat)
  /-- CAPTURE_REARM (R340): After 2 µs in REARM the engine refills, waits for a slot or goes IDLE. -/
  | captureRearm (e : Nat)
  /-- CAPTURE_SLOT_RELEASE (R342): A TG_CTRL.REL bit frees a FULL slot and may end WAIT_SLOT. -/
  | captureSlotRelease (m : Master) (e rel : Nat)
  /-- TL_DRIVE (R338): TL_CFG.DRIVE pulls a trigger line low for PULSE_US. -/
  | tlDrive (m : Master) (n : Nat)
  /-- TL_PULSE_END (R338): A trigger-line pulse ends and the device releases the line. -/
  | tlPulseEnd (n : Nat)
  /-- TRIG_LINE_EDGE (R338): A filtered falling edge on a trigger line is stamped and triggers engines. -/
  | trigLineEdge (n : Nat)
  /-- TL_STUCK (R338): A trigger line low for more than 1 s sets STUCK. -/
  | tlStuck (n : Nat)
  /-- RADIO_PORT_ENABLE (R350): RP_CFG.EN resets the transceiver, reads its ID, checks the profile and enters RUN, or FAIL. -/
  | radioPortEnable (m : Master) (p : Nat) (id : List Byte)
  /-- RAW_EXCHANGE (R348): RP_RAW.GO exchanges LEN bytes with the transceiver while the port is disabled. -/
  | rawExchange (m : Master) (p rx : Nat)
  /-- ASN_BASE_WRITE (R352): An FR_ASN_BASE write sets the slot origin, or is ignored with BASE_IGN. -/
  | asnBaseWrite (m : Master) (v : Nat)
  /-- MAC_LANE_ENABLE (R375): FR_CTRL.EN checks the MAC lane and starts it, or refuses it. -/
  | macLaneEnable (m : Master) (p : Nat)
  /-- MAC_LANE_DISABLE (R366): Clearing EN stops the lane and completes every downlink queue with FLUSHED. -/
  | macLaneDisable (m : Master) (p : Nat)
  /-- SLOT_CUTOFF (R383): At B − 100 µs a lane samples the latch, sets the stop-window channel and loads a Hawkmoth frame if stopped. -/
  | slotCutoff (p : Nat)
  /-- SLOT_BOUNDARY (R355): At slot start B the lane chooses and sends its slot frame: beacon, fragment, data cell or Hawkmoth. -/
  | slotBoundary (p status : Nat)
  /-- RADIO_FRAME_RECEIVE (R357): A received frame is read from the transceiver, verified and handled by type. -/
  | radioFrameReceive (p : Nat) (f : List Byte) (rssi : Nat) (fcsOk : Bool)
  /-- JOIN_REQ_RECEIVE (R370): A JOIN_REQ is matched to a provisioned entry and a JOIN_RSP is prepared for a SHARED cell. -/
  | joinReqReceive (p : Nat) (f : List Byte)
  /-- JOIN_TIMEOUT (R370): A JOINING entry with no qualifying frame for 2 s returns to PROVISIONED. -/
  | joinTimeout (p k : Nat)
  /-- MACHINE_LOST_TIMEOUT (R372): A JOINED entry silent for 2 s, or a sleepy miss at w = 4, becomes LOST. -/
  | machineLostTimeout (p k : Nat)
  /-- CORR_ITEM_RECEIVE (R362): A TYPE 0x30 item reaches a MAC tile and its frame is copied into the correction buffer. -/
  | corrItemReceive (mac : Nat)
  /-- DOWNLINK_REQUEST (R366): A TYPE 0x61 request is queued for its machine, or completes at once with an error. -/
  | downlinkRequest (mac : Nat)
  /-- DOWNLINK_RESULT (R366): A TYPE 0x62 answer reaches the TRK lane. -/
  | downlinkResult (trk : Nat)
  /-- KEY_ROTATE_APPLY (R368): At the slotframe boundary after a committed key replacement, the lane switches key and resets its counter. -/
  | keyRotateApply (p : Nat)
  /-- STOP_INPUT_CHANGE (R377): A stop pin level holds for 40 µs and is taken, and the decision circuits update. -/
  | stopInputChange (pin : Nat) (level : Bool)
  /-- STOP_DISAG_TIMEOUT (R379): A channel in DIS_HH or DIS_LL for 10 ms sets DISAG and raises STOP_DISAG. -/
  | stopDisagTimeout (ch : Nat)
  /-- STOP_XMIS_TIMEOUT (R379): One channel RUN and the other STOP for XMIS_MS sets XMIS and raises STOP_XMIS. -/
  | stopXmisTimeout
  /-- SW_STOP (R380): FS_CTRL.SW_STOP asserts the SW source. -/
  | swStop (m : Master)
  /-- SS_SLOT_CHECK (R388): Each slot the stop supervisor checks the decision circuits, the latch, Hawkmoth stamps and its lockstep. -/
  | ssSlotCheck (decA decB agree : Bool)
  /-- PATH_TEST (R389): FS_CTRL.TEST_GO forces each stop pin and checks the decision circuits, or is refused. -/
  | pathTest (m : Master) (inputsOk : Bool)
  /-- PATH_TEST_DONE (R389): Ten stopped slots are checked and the test reports PASS or FAIL_PORT. -/
  | pathTestDone
  /-- FSTOP (R394): The Yupex FSTOP operation asserts the NET source. -/
  | fstop (udp : Bool)
  /-- FSTOP_CHAL (R391): FSTOP_CHAL draws and returns a new release challenge. -/
  | fstopChal
  /-- FSTOP_RELEASE (R390): FSTOP_RELEASE checks a release attempt and commits it, advancing the permit epoch, or refuses it. -/
  | fstopRelease (race : Nat)
  /-- FSTOP_STATUS (R394): FSTOP_STATUS returns the fleet stop registers. -/
  | fstopStatus
  /-- TK_ENABLE (R398): TK_CTRL.EN checks a TRK tile and latches IODS, or refuses it. -/
  | tkEnable (m : Master) (trk : Nat)
  /-- TK_DISABLE (R400): Disabling a TRK tile ends every task of its lanes as though by ABORT. -/
  | tkDisable (m : Master) (trk : Nat)
  /-- ORIGIN_CHANGE (R400): IODS changes while enabled, so running tasks pause and no new plan is made. -/
  | originChange (trk : Nat)
  /-- PROFILE_V_WRITE (R402): A TK_PROFV write is accepted, refused or refused with OVERSHOOT for lanes in their ramp. -/
  | profileVWrite (m : Master) (trk j v : Nat)
  /-- PROFILE_A_WRITE (R404): A TK_PROFA write is accepted, refused or refused with OVERSHOOT for lanes in their ramp. -/
  | profileAWrite (m : Master) (trk j v : Nat)
  /-- TASK_SUBMIT (R405): A TK_SUB write starts reading and checking a task record. -/
  | taskSubmit (m : Master) (trk v : Nat)
  /-- TASK_SUBMIT_CHECKED (R405): The task check ends and a fleet entry is created or the status records the failure. -/
  | taskSubmitChecked (trk : Nat)
  /-- TASK_DISPATCH (R406): A task entry is dispatched to its lane, which waits for the machine or enters HOLD. -/
  | taskDispatch (handle : Nat)
  /-- RESERVATION_REQUEST (R413): The home checks a lane's reservation request as a whole and accepts or refuses it. -/
  | reservationRequest (mach : Nat)
  /-- RESERVATION_RETRY (R406): 100 ms after a refusal the lane plans a new T0 and requests again. -/
  | reservationRetry (mach : Nat)
  /-- MACHINE_REPORT (R417): A REPORT payload is accepted, the coverage swept, switch lists computed, DONE or lag handled. -/
  | machineReport (handle : Nat)
  /-- PERMIT_BITMAP (R409): A MAC lane gives its TRK tile the permit bitmap of a slot 0, which may stop or resume lanes. -/
  | permitBitmap (p : Nat)
  /-- TASK_PAUSE (R410): TM_CTRL.PAUSE or another stop request pauses the lane and sends CONTROL PAUSE. -/
  | taskPause (by_ : Option Master) (mach : Nat)
  /-- TASK_RESUME (R411): RESUME, or AUTO_RESUME with permit, replans the rest of the move from REMAIN. -/
  | taskResume (by_ : Option Master) (mach : Nat)
  /-- TASK_ABORT (R408): TM_CTRL.ABORT sends CONTROL ABORT and waits for HALTED. -/
  | taskAbort (m : Master) (mach : Nat)
  /-- ABORT_TIMEOUT (R408): Without a HALTED report for 5 s, the aborted task ends through ENDING. -/
  | abortTimeout (mach : Nat)
  /-- RESERVATION_EXPIRE (R415): An unheld entry is freed within 1 ms after its T_END. -/
  | reservationExpire (id : Nat)
  /-- TR_RESERVE (R415): TR_REQ4.GO with OP RESERVE submits a software reservation. -/
  | trReserve (m : Master)
  /-- TR_FREE (R415): TR_REQ4.GO with OP FREE frees a reservation entry. -/
  | trFree (m : Master)
  /-- ETH_LINK_CHANGE (R424): A port gains or loses block lock or synchronisation and LINK changes. -/
  | ethLinkChange (port : Nat) (up : Bool) (speed word : Nat)
  /-- ETH_FRAME_RECEIVE (R426): A received frame is checked, timestamped and sent to its first claiming destination. -/
  | ethFrameReceive (port : Nat) (f : List Byte) (fcsOk : Bool) (sub : Nat)
  /-- ETH_TX_ITEM (R428): A TYPE 0x70 item reaches a port and its frame is queued for transmission. -/
  | ethTxItem (port : Nat)
  /-- ETH_SWTX_GO (R428): ETH_SWTX_CTL.GO queues a frame from DDR, or is ignored with SWTX_ERR. -/
  | ethSwtxGo (m : Master) (port : Nat)
  /-- ETH_TX_DONE (R430): A frame leaves the port, timestamped if needed, and its ring slot is released. -/
  | ethTxDone (port sub : Nat)
  /-- TSFIFO_POP (R430): A read of ETH_TSINFO pops the timestamp FIFO entry. -/
  | tsfifoPop (m : Master) (port : Nat)
  /-- HEARTBEAT_SEND (R433): Each millisecond each path sends a heartbeat to UP_PEER. -/
  | heartbeatSend (port : Nat)
  /-- HB_WINDOW_END (R434): A 1 ms monitoring window ends; a third miss detects failure and may start fail-over. -/
  | hbWindowEnd
  /-- FAILOVER_FLUSH (R435): 2 ms after detection, the old path's FIFO is flushed and counted. -/
  | failoverFlush
  /-- REPAIR_COMPLETE (R437): A REPAIRING path meets REPAIR_MS and its conditions and becomes STANDBY or ACTIVE. -/
  | repairComplete (port : Nat)
  /-- UPLINK_SWITCH (R438): UP_CTRL.SWITCH swaps ACTIVE and STANDBY, or is refused. -/
  | uplinkSwitch (m : Master)
  /-- PKT_RX_ITEM (R443): A TYPE 0x71 item reaches a PKT tile, which checks headers and passes the payload on. -/
  | pktRxItem (pkt : Nat)
  /-- PKT_TX_ITEM (R446): A TYPE 0x54 or 0x30 item reaches transmit contexts, which build and send their copies. -/
  | pktTxItem (pkt : Nat)
  /-- PKT_CTX_ENABLE (R448): PC_CFG.EN checks a connection context and starts it, or refuses it. -/
  | pktCtxEnable (m : Master) (pkt x : Nat)
  /-- RCV_NXT_WRITE (R445): A PC_TCP.RCV_NXT write sets the TCP sequence, empties the buffer and clears GAP. -/
  | rcvNxtWrite (m : Master) (pkt x v : Nat)
  /-- CAN_ENABLE (R454): CN_CTRL.EN checks timing and TT settings and starts bus integration, or refuses it. -/
  | canEnable (m : Master) (n : Nat)
  /-- CAN_FRAME_RX (R455): A frame becomes valid on the bus and is stored in its object or shadow, or discarded. -/
  | canFrameRx (n id : Nat) (ide fdf brs esi remote : Bool) (dlc : Nat) (data : List Byte) (sof : Nat)
  /-- OBJ_CONFIG (R456): A CN_OBJ_CFG write configures the selected object, or is ignored with a result. -/
  | objConfig (m : Master) (n v : Nat)
  /-- OBJ_SEL_WRITE (R458): A CN_OBJ_SEL write selects an object and releases any lock. -/
  | objSelWrite (m : Master) (n v : Nat)
  /-- OBJ_LOCK_READ (R458): A read of W0 locks the object. -/
  | objLockRead (m : Master) (n : Nat) (wide : Bool)
  /-- OBJ_RELEASE_READ (R458): A read of W19 releases the lock and moves any shadow frame in. -/
  | objReleaseRead (m : Master) (n : Nat) (wide : Bool)
  /-- OBJ_LOCK_TIMEOUT (R459): A lock held for LOCK_MS is released and LOCK_TO set. -/
  | objLockTimeout (n : Nat)
  /-- CAN_TX_REQUEST (R460): A CN_TXREQ write requests a TX object's frame, or is ignored. -/
  | canTxRequest (m : Master) (n obj : Nat) (idle : Bool)
  /-- CAN_TX_CANCEL (R460): CN_TXREQ with CANCEL removes a pending request. -/
  | canTxCancel (m : Master) (n obj : Nat)
  /-- CAN_TX_DONE (R460): A frame is sent, completing its request and measuring bus delays. -/
  | canTxDone (n sof loop dom rec_ : Nat)
  /-- CAN_BUS_OFF (R453): The transmit error count puts the controller in BUS_OFF. -/
  | canBusOff (n : Nat)
  /-- BOR_REQ (R453): CN_CTRL.BOR_REQ starts bus-off recovery. -/
  | borReq (m : Master) (n : Nat)
  /-- BUS_OFF_RECOVERED (R453): 128 occurrences of 11 recessive bits end recovery. -/
  | busOffRecovered (n : Nat)
  /-- ADR_GO (R461): CN_CTRL.ADR_GO starts automatic rate detection, or is refused while enabled. -/
  | adrGo (m : Master) (n : Nat)
  /-- ADR_ABORT (R461): CN_CTRL.ADR_ABORT ends detection with ABORTED. -/
  | adrAbort (m : Master) (n : Nat)
  /-- ADR_DWELL_EXPIRY (R461): An entry's dwell or error count ends and detection moves on or ends. -/
  | adrDwellExpiry (n : Nat)
  /-- TT_CYCLE_START (R463): A time master sends the reference message at each cycle start. -/
  | ttCycleStart (n : Nat)
  /-- TT_REF_TIMEOUT (R463): No reference for 1.1 × CYC_US clears SYNC and sets TT_LOSS. -/
  | ttRefTimeout (n : Nat)
  /-- TT_WINDOW_START (R464): An exclusive window sends its object at START, or counts TT_FAIL. -/
  | ttWindowStart (n w : Nat) (idle : Bool)
  /-- CAN_STUCK_DOMINANT (R465): RX dominant for 32 bit times while driving recessive sets STUCK_DOM. -/
  | canStuckDominant (n : Nat) (dominant : Bool)
  /-- PCIE_PERST_ASSERT (R472): PCIE_PERST_N low resets the endpoint and drops the link. -/
  | pciePerstAssert (low : Bool)
  /-- PCIE_LINK_CHANGE (R468): The PCIe link trains up or goes down and LINK_UP changes. -/
  | pcieLinkChange (up : Bool) (speed width : Nat) (vecs : List Nat)
  /-- HOST_ACCESS (R470): A host BAR0 access is served under the host rights, poison and mapping rules. -/
  | hostAccess (bar2 : Bool) (off : Nat) (op : MemOp) (ep : Bool) (same : Nat)
  /-- YUPEX_GO (R475): YX_CTRL.GO submits the PCIe request, or is ignored with GO_IGN while busy. -/
  | yupexGo (m : Master)
  /-- YUPEX_ACK (R475): YX_CTRL.ACK clears RESP_RDY. -/
  | yupexAck (m : Master)
  /-- YUPEX_REQUEST (R476): A request frame is taken in turn and checked for frame, tag, replay and transport before its operation. -/
  | yupexRequest
  /-- HELLO (R477): HELLO returns the device identity, mode and status. -/
  | hello
  /-- YUPEX_MODE (R477): The MODE operation passes a mode request to MP. -/
  | yupexMode
  /-- YUPEX_RESET (R477): The RESET operation responds and starts a warm reset 1 ms later. -/
  | yupexReset
  /-- REG_READ (R477): REG_READ reads a register with host rights. -/
  | regRead
  /-- REG_WRITE (R477): REG_WRITE writes a register with host rights. -/
  | regWrite
  /-- SET_READ (R477): SET_READ returns a firmware's settings record. -/
  | setRead
  /-- SET_WRITE (R477): SET_WRITE writes both settings copies and hands the record to its firmware. -/
  | setWrite
  /-- DMA_ARM (R481): DM_CTL.ARM checks and starts the active set, or returns HALTED to IDLE. -/
  | dmaArm (m : Master) (ch : Nat)
  /-- DMA_ABORT (R483): DM_CTL.ABORT stops the transfer once outstanding beats drain. -/
  | dmaAbort (m : Master) (ch : Nat)
  /-- DMA_CONTINUE (R485): DM_CTL.CONTINUE copies the shadow set and starts it from HALTED. -/
  | dmaContinue (m : Master) (ch : Nat)
  /-- DMA_RESUME (R486): DM_CTL.RESUME continues a SUSPENDED channel, or is ignored with RESUME_IGN. -/
  | dmaResume (m : Master) (ch : Nat)
  /-- SH_GO (R485): DM_CTL.SH_GO marks the shadow set valid. -/
  | shGo (m : Master) (ch : Nat)
  /-- SH_CLR (R485): DM_CTL.SH_CLR clears SH_VALID. -/
  | shClr (m : Master) (ch : Nat)
  /-- DMA_BEAT_COMPLETE (R483): A beat completes; the last or a failing one ends the transfer, writing its record and starting the shadow. -/
  | dmaBeatComplete (ch : Nat) (host : Option (List Byte))
  /-- DMA_SUSPEND (R486): A domain power-down holds channels, which drain and enter SUSPENDED. -/
  | dmaSuspend (d : Dom)
  /-- DMA_POWER_ABORT (R486): After 20 µs a draining channel ends with POWER_ABORT and the power-down proceeds. -/
  | dmaPowerAbort (d : Dom)
  /-- DDR_SCRUB_LINE (R492): The patrol scrub reads and classifies the next DDR line. -/
  | ddrScrubLine (ups : List (Nat × Nat))
  /-- STAGE_SCRUB (R493): The stage-memory scrub reads and classifies the next word of a half. -/
  | stageScrub (h bitsBad : Nat)
  /-- DDR_INJECT (R491): A DDR_INJ write arms an error injection in MAINTENANCE, or is refused. -/
  | ddrInject (m : Master) (v : Nat)
  /-- KEY_GEN (R511): KEY_GEN generates a key into a slot's live or pending half. -/
  | keyGen (ch slot : Nat) (a : KeyAttr) (pend : Bool)
  /-- KEY_DERIVE (R514): KEY_DERIVE derives a key from its parent under SP 800-108. -/
  | keyDerive (ch slot : Nat) (a : KeyAttr) (pend : Bool) (label ctx : List Byte)
  /-- KEY_IMPORT (R511): KEY_IMPORT unwraps a KW blob into a slot. -/
  | keyImport (ch slot : Nat) (a : KeyAttr) (pend : Bool) (wrap : Nat) (blob : List Byte)
  /-- KEY_EXPORT (R511): KEY_EXPORT wraps a slot's key under a wrap slot. -/
  | keyExport (ch slot wrap : Nat)
  /-- KEY_COMMIT (R516): KEY_COMMIT swaps in the pending half when its check value matches. -/
  | keyCommit (ch slot check : Nat)
  /-- KEY_DISCARD (R511): KEY_DISCARD drops a slot's pending half. -/
  | keyDiscard (ch slot : Nat)
  /-- KEY_INVALIDATE (R517): KEY_INVALIDATE empties a slot and orphans its descendants. -/
  | keyInvalidate (ch slot : Nat)
  /-- KEY_CHECK (R516): KEY_CHECK returns the live and pending check values. -/
  | keyCheck (ch slot : Nat)
  /-- DBG_UNLOCK (R503): DBG_UNLOCK checks a debug token and sets DBG_NEXT. -/
  | dbgUnlock (ch : Nat) (token : List Byte)
  /-- LC_ADVANCE (R495): LC_ADVANCE checks a signed transition, burns fuses and warm-resets. -/
  | lcAdvance (ch target : Nat) (sig : List Byte) (cut : Bool)
  /-- PROVISION (R495): PROVISION writes the key page, burns hashes and generates the roots in BLANK. -/
  | provision (ch : Nat) (keys : List (List Byte)) (compat cut : Bool)
  /-- REROOT (R499): REROOT regenerates the expected roots into the next digest generation. -/
  | reroot (ch : Nat) (sig : List Byte)
  /-- GM_ACK (R511): GM_CTL.ACK clears a channel's DONE. -/
  | gmAck (m : Master) (ch : Nat)
  /-- KEY_PERSIST_DONE (R518): Both settings copies are written and a PERSIST command returns OK. -/
  | keyPersistDone
  /-- KEY_REMASK (R515): Every REMASK × 100 ms each holder renews its key masks. -/
  | keyRemask
  /-- TAMPER_DETECT (R519): An enabled tamper source asserts, latching fleet stop, zeroing roots and keys and logging the entry. -/
  | tamperDetect (src : Nat) (v : Int) (held : Nat) (env : BootEnv)
  /-- CRY_SESSION_ENABLE (R522): CS_CFG.EN checks a cipher session, delivers its key and starts it, or refuses it. -/
  | crySessionEnable (m : Master) (pos q : Nat)
  /-- CRY_JOB (R524): A job reaches a session from software or a tile and starts. -/
  | cryJob (pos q : Nat) (handle : Option Nat)
  /-- CRY_JOB_DONE (R525): A cipher job ends, writing its output, STATUS and completion. -/
  | cryJobDone (pos q : Nat)
  /-- EVENT_PULSE (R531): A source toggle reaches the router, which counts it and sets pending bits or forwards it. -/
  | eventPulse (ev : Nat)
  /-- SW_RAISE (R530): An ER_SWRAISE write pulses a software source. -/
  | swRaise (m : Master) (n : Nat)
  /-- RECORD_GO (R536): An RC_SW GO submits a software record, or reports BAD or LOST. -/
  | recordGo (m : Master) (k : Nat)
  /-- RECORD_REQUEST (R537): A record request is admitted, suppressed or lost by bucket, place and flush rules. -/
  | recordRequest
  /-- BUCKET_REFILL (R537): Each whole millisecond every code's token bucket gains RATE units. -/
  | bucketRefill
  /-- RECORD_ACK (R538): An RC_ACK write acknowledges records up to SEQ. -/
  | recordAck (m : Master) (seq : Nat)
  /-- RECORD_SELECT (R540): An RC_SEL write selects a held record for reading. -/
  | recordSelect (m : Master) (seq : Nat)
  /-- FLUSH_CMD (R542): RC_CTRL.FLUSH starts a background flush now. -/
  | flushCmd (m : Master)
  /-- FLUSH_START (R542): 32 unflushed records or 100 ms of age start a background flush. -/
  | flushStart
  /-- EMERGENCY_FLUSH (R542): A CRITICAL admission, watchdog or PFAIL starts an emergency flush ahead of all xSPI work. -/
  | emergencyFlush
  /-- FLUSH_WRITE_DONE (R541): A flash page program completes and its records are flushed. -/
  | flushWriteDone (ok : Bool)
  /-- PFAIL_ASSERT (R543): PFAIL_N asserts after its filter, admitting a PFAIL record and forcing the power-fail flush. -/
  | pfailAssert
  /-- PFAIL_DEASSERT (R543): PFAIL_N deasserts and the recorder resumes background flushing. -/
  | pfailDeassert
  /-- PF_FLUSH_DONE (R543): The power-fail flush ends and PF_DONE is set. -/
  | pfFlushDone
  /-- HEALTH_PASS (R545): Every 600 s each island's ring oscillators and replicas are measured and margins re-planned. -/
  | healthPass (meas : List IslMeas)
  /-- PMBUS_VERIFY (R547): 1 ms after a rail command, READ_VOUT and the ADC are checked and failures retried or frozen. -/
  | pmbusVerify (d : Dom) (vout adc : Nat)
  /-- RAIL_SAMPLE (R549): Every 1 ms the ADC samples 16 rails and flags those out of range. -/
  | railSample (mv : List Nat)
  /-- TEMP_SAMPLE (R550): Every 10 ms each island's temperature is read and limits checked. -/
  | tempSample (temps : List (Nat × Nat))
  /-- PIN_READBACK (R553): A driven field output is read back and PIN_FAULT set or cleared. -/
  | pinReadback (pin : Nat) (agree : Bool)
  /-- POWER_DOWN (R123): The main supplies are removed, so the device passes to VBAT_ONLY, or to OFF without VBAT, and Cocoon, the time count and every unretained state are lost. -/
  | powerDown
  /-- VBAT_LOSS (R15): VBAT is lost, so VBAT-backed fields, the root SRAM and the tamper log are lost and read 0. -/
  | vbatLoss
  /-- TAMPER_SOURCE_RELEASE (R519): An asserted tamper source stops asserting, so its TAMP_STAT.ACTIVE bit clears and its LATCHED bit may then be cleared. -/
  | tamperSourceRelease (src : Nat)
  /-- TRIG_LINE_HIGH (R338): A trigger line returns high, and after 1 ms high a STUCK line gives triggers again. -/
  | trigLineHigh (n : Nat)
  /-- RUN_MIN_ELAPSED (R390): Both stop channels have been RUN without a break for FS_CFG.RUN_MIN, so FS_STAT.RUN_OK sets. -/
  | runMinElapsed
  /-- CHALLENGE_EXPIRY (R390): A fleet stop release challenge becomes older than 60 s and is no longer valid, so FS_CHAL reads 0. -/
  | challengeExpiry
  /-- CAN_BUS_INTEGRATED (R453): Bus integration completes after 11 recessive bits and the controller passes from INTEGRATING to ERROR_ACTIVE. -/
  | canBusIntegrated (n : Nat)
  /-- CAN_PROTOCOL_ERROR (R453): A protocol error on the bus raises the error counts, sends an error frame, may enter ERROR_PASSIVE, and leads to retransmission. -/
  | canProtocolError (n kind : Nat)
  /-- RING_ERASE_DONE (R541): The erase of the event-log ring block after the one being written completes, so a flush never waits for an erase. -/
  | ringEraseDone (ok : Bool)
  deriving DecidableEq, Repr

end Sys2Proof
end

