-- ==== Sys2Proof/Decode.lean ====
section
/-! DEFINITION. The opcode table gives its rows no bits: commands reach the block as register accesses, packets, frames and
events, not as words of an encoding. So no word spells a command. -/

namespace Sys2Proof

/-- The command a word of `nbits` bits spells by the table's bits: none, since no row of the table has bits. -/
def decodeTableWord (_nbits _w : Nat) : Option Instr := none

end Sys2Proof
end

