-- ==== Sys2Proof/Machine/Hash.lean ====
section
/-! DEFINITION. The hash functions and signatures that the spec names and does not itself spell out: SHA-256 and SHA-384 (FIPS 180-4),
HMAC-SHA-256 (FIPS 198-1), ECDSA P-384 (FIPS 186-4), and CRC-24Q of RTCM 10403.3. PRESUMED from those standards (log entry 6). -/

namespace Sys2Proof.Machine

/-! ### SHA-2 -/

/-- A word of `w` bits rotated right. -/
def rotr (w n x : Nat) : Nat := (x >>> n ||| x <<< (w - n)) % 2 ^ w

/-- The round constants of SHA-384; those of SHA-256 are the high halves of the first 64. -/
def shaK : List Nat :=
  ([0x428A2F98D728AE22, 0x7137449123EF65CD, 0xB5C0FBCFEC4D3B2F, 0xE9B5DBA58189DBBC] ++
   [0x3956C25BF348B538, 0x59F111F1B605D019, 0x923F82A4AF194F9B, 0xAB1C5ED5DA6D8118] ++
   [0xD807AA98A3030242, 0x12835B0145706FBE, 0x243185BE4EE4B28C, 0x550C7DC3D5FFB4E2] ++
   [0x72BE5D74F27B896F, 0x80DEB1FE3B1696B1, 0x9BDC06A725C71235, 0xC19BF174CF692694] ++
   [0xE49B69C19EF14AD2, 0xEFBE4786384F25E3, 0x0FC19DC68B8CD5B5, 0x240CA1CC77AC9C65] ++
   [0x2DE92C6F592B0275, 0x4A7484AA6EA6E483, 0x5CB0A9DCBD41FBD4, 0x76F988DA831153B5] ++
   [0x983E5152EE66DFAB, 0xA831C66D2DB43210, 0xB00327C898FB213F, 0xBF597FC7BEEF0EE4] ++
   [0xC6E00BF33DA88FC2, 0xD5A79147930AA725, 0x06CA6351E003826F, 0x142929670A0E6E70] ++
   [0x27B70A8546D22FFC, 0x2E1B21385C26C926, 0x4D2C6DFC5AC42AED, 0x53380D139D95B3DF] ++
   [0x650A73548BAF63DE, 0x766A0ABB3C77B2A8, 0x81C2C92E47EDAEE6, 0x92722C851482353B] ++
   [0xA2BFE8A14CF10364, 0xA81A664BBC423001, 0xC24B8B70D0F89791, 0xC76C51A30654BE30] ++
   [0xD192E819D6EF5218, 0xD69906245565A910, 0xF40E35855771202A, 0x106AA07032BBD1B8] ++
   [0x19A4C116B8D2D0C8, 0x1E376C085141AB53, 0x2748774CDF8EEB99, 0x34B0BCB5E19B48A8] ++
   [0x391C0CB3C5C95A63, 0x4ED8AA4AE3418ACB, 0x5B9CCA4F7763E373, 0x682E6FF3D6B2B8A3] ++
   [0x748F82EE5DEFB2FC, 0x78A5636F43172F60, 0x84C87814A1F0AB72, 0x8CC702081A6439EC] ++
   [0x90BEFFFA23631E28, 0xA4506CEBDE82BDE9, 0xBEF9A3F7B2C67915, 0xC67178F2E372532B] ++
   [0xCA273ECEEA26619C, 0xD186B8C721C0C207, 0xEADA7DD6CDE0EB1E, 0xF57D4F7FEE6ED178] ++
   [0x06F067AA72176FBA, 0x0A637DC5A2C898A6, 0x113F9804BEF90DAE, 0x1B710B35131C471B] ++
   [0x28DB77F523047D84, 0x32CAAB7B40C72493, 0x3C9EBE0A15C9BEBC, 0x431D67C49C100D4C] ++
   [0x4CC5D4BECB3E42B6, 0x597F299CFC657E2A, 0x5FCB6FAB3AD6FAEC, 0x6C44198C4A475817])

/-- The initial value of SHA-256. -/
def sha256Init : List Nat := [0x6A09E667, 0xBB67AE85, 0x3C6EF372, 0xA54FF53A, 0x510E527F, 0x9B05688C, 0x1F83D9AB, 0x5BE0CD19]

/-- The initial value of SHA-384. -/
def sha384Init : List Nat :=
  ([0xCBBB9D5DC1059ED8, 0x629A292A367CD507, 0x9159015A3070DD17, 0x152FECD8F70E5939] ++
   [0x67332667FFC00B31, 0x8EB44A8768581511, 0xDB0C2E0D64F98FA7, 0x47B5481DBEFA4FA4])

/-- The rotations of one SHA-2 word size: Σ0, Σ1, then σ0 and σ1, whose third number is a shift. -/
structure ShaRots where
  w  : Nat
  s0 : Nat × Nat × Nat
  s1 : Nat × Nat × Nat
  m0 : Nat × Nat × Nat
  m1 : Nat × Nat × Nat
  deriving DecidableEq, Repr

/-- SHA-256's words and rotations. -/
def sha256Rots : ShaRots := ⟨32, (2, 13, 22), (6, 11, 25), (7, 18, 3), (17, 19, 10)⟩
/-- SHA-384's words and rotations. -/
def sha384Rots : ShaRots := ⟨64, (28, 34, 39), (14, 18, 41), (1, 8, 7), (19, 61, 6)⟩

/-- Three rotations joined. -/
def rot3 (w : Nat) (r : Nat × Nat × Nat) (x : Nat) : Nat := rotr w r.1 x ^^^ rotr w r.2.1 x ^^^ rotr w r.2.2 x
/-- Two rotations and a shift joined. -/
def rotSh (w : Nat) (r : Nat × Nat × Nat) (x : Nat) : Nat := rotr w r.1 x ^^^ rotr w r.2.1 x ^^^ x >>> r.2.2

/-- The next word of the message schedule from the last 16. -/
def shaNext (p : ShaRots) (l : List Nat) : Nat :=
  (rotSh p.w p.m1 (l.getD 14 0) + l.getD 9 0 + rotSh p.w p.m0 (l.getD 1 0) + l.getD 0 0) % 2 ^ p.w

/-- One round on the working variables a to h with its constant and its message word. -/
def shaRound (p : ShaRots) (k m : Nat) : List Nat → List Nat
  | [a, b, c, d, e, f, g, h] =>
    let n := 2 ^ p.w
    let t1 := (h + rot3 p.w p.s1 e + ((e &&& f) ^^^ ((n - 1 - e) &&& g)) + k + m) % n
    let t2 := (rot3 p.w p.s0 a + ((a &&& b) ^^^ (a &&& c) ^^^ (b &&& c))) % n
    [(t1 + t2) % n, a, b, c, (d + t1) % n, e, f, g]
  | l => l

/-- The rounds of one block: the constants left, the window of 16 message words and the working variables. -/
def shaRounds (p : ShaRots) : List Nat → List Nat → List Nat → List Nat
  | [], _, v => v
  | k :: t, w, v => shaRounds p t (w.tail ++ [shaNext p w]) (shaRound p k (w.headD 0) v)

/-- `n` bytes of a number, big-endian. -/
def beBytes (n v : Nat) : List Byte := (leBytes n v).reverse

/-- A byte string cut in pieces of `n` bytes; the first argument bounds how many. -/
def chunks (n : Nat) : Nat → List Byte → List (List Byte)
  | 0, _ => []
  | k + 1, l => if l.isEmpty then [] else l.take n :: chunks n k (l.drop n)

/-- A message padded to whole blocks of 16 words: 0x80, zeros and the length in bits in two words. -/
def shaPad (bytes : Nat) (l : List Byte) : List Byte :=
  let block := 16 * bytes
  let z := (2 * block - 1 - 2 * bytes - l.length % block) % block
  l ++ [0x80] ++ List.replicate z 0 ++ beBytes (2 * bytes) (8 * l.length)

/-- A SHA-2 hash as its words. -/
def sha2 (p : ShaRots) (ks iv : List Nat) (l : List Byte) : List Nat :=
  let bytes := p.w / 8
  let m := shaPad bytes l
  (chunks (16 * bytes) m.length m).foldl (fun h b =>
    List.zipWith (fun x y => (x + y) % 2 ^ p.w) h (shaRounds p ks ((chunks bytes 16 b).map beVal) h)) iv

/-- SHA-256 of a byte string as its 32 bytes. -/
def sha256 (l : List Byte) : List Byte :=
  ((sha2 sha256Rots ((shaK.take 64).map (· / 2 ^ 32)) sha256Init l).map (beBytes 4)).flatten

/-- SHA-384 of a byte string as its 48 bytes. -/
def sha384 (l : List Byte) : List Byte := (((sha2 sha384Rots shaK sha384Init l).take 6).map (beBytes 8)).flatten

/-- A key filled up to a block of HMAC-SHA-256 and XORed with a byte. -/
def hmacPad (k : List Byte) (x : Byte) : List Byte :=
  let k := if 64 < k.length then sha256 k else k
  (k ++ List.replicate (64 - k.length) 0).map (fun b => b ^^^ x)

/-- HMAC-SHA-256 of a message under a key. -/
def hmac256 (k m : List Byte) : List Byte := sha256 (hmacPad k 0x5C ++ sha256 (hmacPad k 0x36 ++ m))

/-- The first 8 bytes of SHA-384 of a root as a number, byte 0 lowest (R497). -/
def rootDigest (r : List Byte) : Nat := leVal ((sha384 r).take 8)

/-! ### CRC-24Q -/

/-- One byte taken into CRC-24Q. -/
def crc24qByte (c : Nat) (b : Byte) : Nat :=
  (List.range 8).foldl (fun c _ => let d := c * 2; if 2 ^ 24 ≤ d then (d ^^^ 0x1864CFB) % 2 ^ 24 else d) (c ^^^ (b.toNat * 2 ^ 16))

/-- CRC-24Q of a byte string (R244). -/
def crc24q (l : List Byte) : Nat := l.foldl crc24qByte 0

/-! ### ECDSA P-384 -/

/-- The prime of P-384. -/
def p384 : Nat := 2 ^ 384 - 2 ^ 128 - 2 ^ 96 + 2 ^ 32 - 1
/-- The order of its base point. -/
def p384n : Nat :=
  0xFFFFFFFFFFFFFFFFFFFFFFFFFFFFFFFFFFFFFFFFFFFFFFFFC7634D81F4372DDF581A0DB248B0A77AECEC196ACCC52973
/-- The constant b of its equation. -/
def p384b : Nat :=
  0xB3312FA7E23EE7E4988E056BE3F82D19181D9C6EFE8141120314088F5013875AC656398D8A2ED19D2A85C8EDD3EC2AEF
/-- The base point. -/
def p384g : Nat × Nat :=
  (0xAA87CA22BE8B05378EB1C71EF320AD746E1D3B628BA79B9859F741E082542A385502F25DBF55296C3A545E3872760AB7,
   0x3617DE4A96262C6F5D9E98BF9292DC29F8F41DBD289A147CE9DA3113B5F0B8C00A60B1CE1D7E819D7A431D7C90EA0E5F)

/-- A point in Jacobian coordinates; z = 0 is the point at infinity. -/
structure JPoint where
  x : Nat
  y : Nat
  z : Nat
  deriving DecidableEq, Repr

/-- `a` − `b` modulo the prime, for `b` below it. -/
def subP (a b : Nat) : Nat := (a + p384 - b) % p384

/-- A point doubled (a = −3). -/
def JPoint.dbl (q : JPoint) : JPoint :=
  if q.z = 0 ∨ q.y = 0 then ⟨1, 1, 0⟩
  else
    let d := q.z * q.z % p384
    let g := q.y * q.y % p384
    let b := q.x * g % p384
    let a := 3 * (subP q.x d * ((q.x + d) % p384) % p384) % p384
    let x := subP (a * a) (8 * b % p384)
    let z := subP (subP ((q.y + q.z) * (q.y + q.z)) g) d
    ⟨x, subP (a * subP (4 * b) x) (8 * (g * g % p384) % p384), z⟩

/-- Two points added. -/
def JPoint.add (q r : JPoint) : JPoint :=
  if q.z = 0 then r else if r.z = 0 then q
  else
    let z1 := q.z * q.z % p384
    let z2 := r.z * r.z % p384
    let u1 := q.x * z2 % p384
    let u2 := r.x * z1 % p384
    let s1 := q.y * (r.z * z2 % p384) % p384
    let s2 := r.y * (q.z * z1 % p384) % p384
    let h := subP u2 u1
    let w := subP s2 s1
    if h = 0 then if w = 0 then q.dbl else ⟨1, 1, 0⟩
    else
      let hh := h * h % p384
      let hhh := h * hh % p384
      let v := u1 * hh % p384
      let x := subP (subP (w * w) hhh) (2 * v % p384)
      ⟨x, subP (w * subP v x) (s1 * hhh % p384), q.z * r.z % p384 * h % p384⟩

/-- u·G + v·Q, bits taken from the highest down; the first argument is how many are left. -/
def twoMul (g q gq : JPoint) (u v : Nat) : Nat → JPoint → JPoint
  | 0, r => r
  | n + 1, r =>
    let d := r.dbl
    let d := if u / 2 ^ n % 2 = 1 then (if v / 2 ^ n % 2 = 1 then d.add gq else d.add g)
      else if v / 2 ^ n % 2 = 1 then d.add q else d
    twoMul g q gq u v n d

/-- `b` to the power `e` modulo `m`, bits taken from the highest down; the first argument is how many are left. -/
def powMod (m b e : Nat) : Nat → Nat → Nat
  | 0, r => r
  | n + 1, r =>
    let s := r * r % m
    powMod m b e n (if e / 2 ^ n % 2 = 1 then s * b % m else s)

/-- The inverse of a number modulo a prime of 384 bits. -/
def invMod (m a : Nat) : Nat := powMod m a (m - 2) 384 1

/-- Whether (x, y) is a point of the curve. -/
def onCurve (x y : Nat) : Bool :=
  decide (x < p384 ∧ y < p384) && y * y % p384 == subP ((x * x % p384 * x + p384b) % p384) (3 * x % p384)

/-- Whether a signature verifies over a digest under an uncompressed public key, 0x04 ‖ X ‖ Y (R500). -/
def ecdsaOk (key digest r s : List Byte) : Bool :=
  let x := beVal ((key.drop 1).take 48)
  let y := beVal ((key.drop 49).take 48)
  let r := beVal r
  let s := beVal s
  if key.length = 97 ∧ key.headD 0 = 4 ∧ onCurve x y ∧ 0 < r ∧ r < p384n ∧ 0 < s ∧ s < p384n then
    let w := invMod p384n s
    let g : JPoint := ⟨p384g.1, p384g.2, 1⟩
    let q : JPoint := ⟨x, y, 1⟩
    let t := twoMul g q (g.add q) (beVal digest * w % p384n) (r * w % p384n) 384 ⟨1, 1, 0⟩
    if t.z = 0 then false
    else
      let zi := invMod p384 t.z
      t.x * (zi * zi % p384) % p384 % p384n == r
  else false

/-- Whether a signature over SHA-384 of a message verifies under a key. -/
def sigOk (key msg r s : List Byte) : Bool := ecdsaOk key (sha384 msg) r s

end Sys2Proof.Machine
end

