-- ==== Sys2Proof/Machine/Cipher.lean ====
section
/-! DEFINITION. The ciphers that the spec names and does not itself spell out: AES (FIPS 197), GCM (SP 800-38D), CCM* (IEEE 802.15.4),
key wrap KW (SP 800-38F), HMAC-SHA-384. PRESUMED from those standards (log entry 6). -/

namespace Sys2Proof.Machine

/-! ### AES -/

/-- The S-box as one number, byte x the image of x. -/
def sboxTable : Nat :=
  0x16BB54B00F2D99416842E6BF0D89A18CDF2855CEE9871E9B948ED9691198F8E19E1DC186B95735610EF6034866B53E708A8BBD4B1F74DDE8C6B4A61C2E2578BA08AE7A65EAF4566CA94ED58D6D37C8E779E4959162ACD3C25C2406490A3A32E0DB0B5EDE14B8EE4688902A22DC4F816073195D643D7EA7C41744975FEC130CCDD2F3FF1021DAB6BCF5389D928F40A351A89F3C507F02F94585334D43FBAAEFD0CF584C4A39BECB6A5BB1FC20ED00D153842FE329B3D63B52A05A6E1B1A2C830975B227EBE28012079A059618C323C7041531D871F1E5A534CCF73F362693FDB7C072A49CAFA2D4ADF04759FA7DC982CA76ABD7FE2B670130C56F6BF27B777C63
/-- The inverse S-box. -/
def sboxInvTable : Nat :=
  0x7D0C2155631469E126D677BA7E042B17619953833CBBEBC8B0F52AAE4D3BE0A0EF9CC9939F7AE52D0D4AB519A97F51605FEC8027591012B131C7078833A8DD1FF45ACD78FEC0DB9A2079D2C64B3E56FC1BBE18AA0E62B76F89C5291D711AF1476EDF751CE837F9E28535ADE72274AC9673E6B4F0CECFF297EADC674F4111913A6B8A130103BDAFC1020F3FCA8F1E2CD00645B3B80558E4F70AD3BC8C00ABD890849D8DA75746155EDAB9EDFD5048706C92B6655DCC5CA4D41698688664F6F87225D18B6D49A25B76B224D92866A12E084EC3FA420B954CEE3D23C2A632947B54CBE9DEC444438E3487FF2F9B8239E37CFBD7F3819EA340BF38A53630D56A0952
/-- A byte through a table. -/
def subByte (t x : Nat) : Nat := t / 2 ^ (8 * x) % 256

/-- Multiplication by x in AES's field. -/
def xtime (b : Nat) : Nat := if 128 ≤ b then (b * 2 ^^^ 0x11B) else b * 2

/-- The product of a byte and a factor below 16 in AES's field. -/
def gmul (a b : Nat) : Nat :=
  let x2 := xtime a
  let x4 := xtime x2
  let x8 := xtime x4
  (if bitOf 0 b then a else 0) ^^^ (if bitOf 1 b then x2 else 0) ^^^ (if bitOf 2 b then x4 else 0) ^^^ (if bitOf 3 b then x8 else 0)

/-- Two strings of numbers joined bit by bit. -/
def xorNats (a b : List Nat) : List Nat := List.zipWith (· ^^^ ·) a b

/-- The next round keys: the words so far, newest first, `k` words to a key, `n` still to come, and the round constant. -/
def expandKey (k : Nat) : Nat → Nat → List (List Nat) → List (List Nat)
  | 0, _, l => l
  | n + 1, rc, l =>
    let i := l.length
    let w := l.headD []
    let w := if i % k = 0 then xorNats ((w.drop 1 ++ w.take 1).map (subByte sboxTable)) [rc, 0, 0, 0]
      else if 6 < k ∧ i % k = 4 then w.map (subByte sboxTable) else w
    expandKey k n (if i % k = 0 then xtime rc else rc) (xorNats w (l.getD (k - 1) []) :: l)

/-- The round keys of a key, 16 numbers each, in order. -/
def roundKeys (key : List Byte) : List (List Nat) :=
  let k := key.length / 4
  let first := (chunks 4 k key).map (fun w => w.map BitVec.toNat)
  let ws := (expandKey k (4 * (k + 7) - k) 1 first.reverse).reverse
  (List.range (k + 7)).map (fun i => ((ws.drop (4 * i)).take 4).flatten)

/-- Rows shifted: place i takes the byte of place (i + 4·s·(i mod 4)) mod 16. -/
def shiftRows (s : Nat) (l : List Nat) : List Nat := (List.range 16).map (fun i => l.getD ((i + 4 * s * (i % 4)) % 16) 0)

/-- The columns of a block multiplied by the circulant of a first row. -/
def mixCols (r : List Nat) (l : List Nat) : List Nat :=
  (List.range 16).map (fun i =>
    let c := i / 4 * 4
    (List.range 4).foldl (fun x j => x ^^^ gmul (l.getD (c + j) 0) (r.getD ((j + 4 - i % 4) % 4) 0)) 0)

/-- The middle rounds of an encryption, then the last. -/
def aesRounds : List (List Nat) → List Nat → List Nat
  | [], b => b
  | [k], b => xorNats (shiftRows 1 (b.map (subByte sboxTable))) k
  | k :: t, b => aesRounds t (xorNats (mixCols [2, 3, 1, 1] (shiftRows 1 (b.map (subByte sboxTable)))) k)

/-- A block encrypted under round keys. -/
def encBlock (ks : List (List Nat)) (b : List Nat) : List Nat := aesRounds ks.tail (xorNats b (ks.headD []))

/-- The middle rounds of a decryption, then the last; keys in reverse order. -/
def aesInvRounds : List (List Nat) → List Nat → List Nat
  | [], b => b
  | [k], b => xorNats ((shiftRows 3 b).map (subByte sboxInvTable)) k
  | k :: t, b => aesInvRounds t (mixCols [14, 11, 13, 9] (xorNats ((shiftRows 3 b).map (subByte sboxInvTable)) k))

/-- A block decrypted under round keys. -/
def decBlock (ks : List (List Nat)) (b : List Nat) : List Nat :=
  aesInvRounds ks.reverse.tail (xorNats b (ks.reverse.headD []))

/-- Bytes as numbers. -/
def toNats (l : List Byte) : List Nat := l.map BitVec.toNat
/-- Numbers as bytes. -/
def ofNats (l : List Nat) : List Byte := l.map (BitVec.ofNat 8)

/-- AES encryption of one block (R516). -/
def aes (key block : List Byte) : List Byte := ofNats (encBlock (roundKeys key) (toNats block))

/-- Big-endian bytes of a number as numbers. -/
def beNats (n v : Nat) : List Nat := toNats (beBytes n v)

/-- Data joined with the key stream of counter blocks; `ctr` gives block i. -/
def ctrMode (ks : List (List Nat)) (ctr : Nat → List Nat) : Nat → List (List Byte) → List Byte
  | _, [] => []
  | i, b :: t => ofNats (xorNats (toNats b) (encBlock ks (ctr i))) ++ ctrMode ks ctr (i + 1) t

/-- A byte string in blocks of 16. -/
def blocks (l : List Byte) : List (List Byte) := chunks 16 l.length l

/-- A byte string filled with zeros to whole blocks. -/
def fillBlock (l : List Byte) : List Byte := l ++ List.replicate ((16 - l.length % 16) % 16) 0

/-! ### GCM -/

/-- The product of two blocks in GHASH's field, `n` bits of `x` left. -/
def ghashMul (x : Nat) : Nat → Nat → Nat → Nat
  | 0, _, z => z
  | n + 1, v, z =>
    ghashMul x n (if v % 2 = 1 then v / 2 ^^^ 0xE1 * 2 ^ 120 else v / 2) (if x / 2 ^ n % 2 = 1 then z ^^^ v else z)

/-- GHASH of blocks. -/
def ghash (h : Nat) (l : List (List Byte)) : Nat := l.foldl (fun y b => ghashMul (y ^^^ beVal b) 128 h 0) 0

/-- The data of a GCM job enciphered or deciphered. -/
def gcmCrypt (ks : List (List Nat)) (iv d : List Byte) : List Byte :=
  ctrMode ks (fun i => toNats iv ++ beNats 4 (i + 2)) 0 (blocks d)

/-- The 16-byte tag of a GCM job over its ciphertext. -/
def gcmTag (ks : List (List Nat)) (iv aad c : List Byte) : List Byte :=
  let h := beVal (ofNats (encBlock ks (List.replicate 16 0)))
  let s := ghash h (blocks (fillBlock aad ++ fillBlock c ++ beBytes 8 (8 * aad.length) ++ beBytes 8 (8 * c.length)))
  ofNats (xorNats (beNats 16 s) (encBlock ks (toNats iv ++ beNats 4 1)))

/-! ### CCM* -/

/-- The length of the authenticated data in front of it. -/
def ccmAad (aad : List Byte) : List Byte :=
  if aad = [] then [] else fillBlock ((if aad.length < 0xFF00 then beBytes 2 aad.length else [0xFF, 0xFE] ++ beBytes 4 aad.length) ++ aad)

/-- The CBC-MAC of CCM* with a 13-byte nonce and a tag of `m` bytes. -/
def ccmMac (ks : List (List Nat)) (nonce aad d : List Byte) (m : Nat) : List Nat :=
  let b0 : List Byte := [BitVec.ofNat 8 ((if aad = [] then 0 else 64) + (m - 2) / 2 * 8 + 1)] ++ nonce ++ beBytes 2 d.length
  (blocks (b0 ++ ccmAad aad ++ fillBlock d)).foldl (fun x b => encBlock ks (xorNats x (toNats b))) (List.replicate 16 0)

/-- Counter block i of CCM*. -/
def ccmCtr (nonce : List Byte) (i : Nat) : List Nat := 1 :: (toNats nonce ++ beNats 2 i)

/-- The data of a CCM* job enciphered or deciphered. -/
def ccmCrypt (ks : List (List Nat)) (nonce d : List Byte) : List Byte := ctrMode ks (ccmCtr nonce) 1 (blocks d)

/-- The tag of a CCM* job over its plain data. -/
def ccmTag (ks : List (List Nat)) (nonce aad d : List Byte) (m : Nat) : List Byte :=
  (ofNats (xorNats (ccmMac ks nonce aad d m) (encBlock ks (ccmCtr nonce 0)))).take m

/-- A frame secured by CCM* (R367): the payload as sent with the MIC of `m` bytes behind it. -/
def ccmFrame (key nonce hdr payload : List Byte) (m : Nat) (enc : Bool) : List Byte :=
  let ks := roundKeys key
  if enc then ccmCrypt ks nonce payload ++ ccmTag ks nonce hdr payload m
  else payload ++ ccmTag ks nonce (hdr ++ payload) [] m

/-- A received frame's payload, if its MIC of `m` bytes is right (R367): `body` is the payload as received with its MIC. -/
def ccmOpen (key nonce hdr body : List Byte) (m : Nat) (enc : Bool) : Option (List Byte) :=
  let ks := roundKeys key
  let c := body.take (body.length - m)
  let p := if enc then ccmCrypt ks nonce c else c
  let t := if enc then ccmTag ks nonce hdr p m else ccmTag ks nonce (hdr ++ c) [] m
  if m ≤ body.length ∧ body.drop (body.length - m) = t then some p else none

/-! ### Key wrap -/

/-- One step of a wrapping or an unwrapping: A joined with the step number. -/
def kwStep (a : List Nat) (t : Nat) : List Nat := xorNats a (beNats 8 t)

/-- One pass of the wrapping over the registers, with the number of its first step. -/
def kwPass (ks : List (List Nat)) : Nat → List Nat → List (List Nat) → List Nat × List (List Nat)
  | _, a, [] => (a, [])
  | t, a, r :: l =>
    let b := encBlock ks (a ++ r)
    let q := kwPass ks (t + 1) (kwStep (b.take 8) t) l
    (q.1, b.drop 8 :: q.2)

/-- A key wrapped under a wrapping key (SP 800-38F, R511). -/
def kwWrap (kek key : List Byte) : List Byte :=
  let ks := roundKeys kek
  let n := key.length / 8
  let r := (List.range 6).foldl (fun (x : List Nat × List (List Nat)) j => kwPass ks (n * j + 1) x.1 x.2)
    (List.replicate 8 0xA6, (chunks 8 n key).map toNats)
  ofNats (r.1 ++ r.2.flatten)

/-- One pass of the unwrapping over the registers in reverse order, with the number of its first step. -/
def kwUnpass (ks : List (List Nat)) : Nat → List Nat → List (List Nat) → List Nat × List (List Nat)
  | _, a, [] => (a, [])
  | t, a, r :: l =>
    let b := decBlock ks (kwStep a t ++ r)
    let q := kwUnpass ks (t - 1) (b.take 8) l
    (q.1, b.drop 8 :: q.2)

/-- A wrapped key unwrapped; none when its check value fails. -/
def kwUnwrap (kek blob : List Byte) : Option (List Byte) :=
  let ks := roundKeys kek
  let n := blob.length / 8 - 1
  let r := (List.range 6).foldl (fun (x : List Nat × List (List Nat)) j => kwUnpass ks (n * (6 - j)) x.1 x.2)
    (toNats (blob.take 8), ((chunks 8 n (blob.drop 8)).map toNats).reverse)
  if r.1 = List.replicate 8 0xA6 ∧ blob.length % 8 = 0 ∧ 1 < n then some (ofNats r.2.reverse.flatten) else none

/-! ### HMAC-SHA-384 -/

/-- A key filled up to a block of HMAC-SHA-384 and XORed with a byte. -/
def hmacPad384 (k : List Byte) (x : Byte) : List Byte :=
  let k := if 128 < k.length then sha384 k else k
  (k ++ List.replicate (128 - k.length) 0).map (fun b => b ^^^ x)

/-- HMAC-SHA-384 of a message under a key. -/
def hmac384 (k m : List Byte) : List Byte := sha384 (hmacPad384 k 0x5C ++ sha384 (hmacPad384 k 0x36 ++ m))

end Sys2Proof.Machine
end

