-- ==== Sys2Proof/Machine/Regs.lean ====
section
/-! DEFINITION. The register map: one field constant per field of every register table of spec/, the
registers themselves and the registers of each block, written in the order of the chapters. Offsets count from the
block's own base (a service block, a tile, an island window); `dims` are the strides and counts of the register's
instances. Reserved bits have no field (R19). -/

namespace Sys2Proof.Machine

/-! ### 01_architecture.md -/

/-- ISL_ID.ISLAND (01). -/
def Rg.ISL_ID.ISLAND : Fld := ⟨0x0, 0, 6, .ro, 0x0, .isl⟩
/-- ISL_ID.DOMAIN (01). -/
def Rg.ISL_ID.DOMAIN : Fld := ⟨0x0, 6, 3, .ro, 0x0, .dom⟩
/-- ISL_ID.SLOTS (01). -/
def Rg.ISL_ID.SLOTS : Fld := ⟨0x0, 9, 2, .ro, 0x0, .slots⟩

/-- ISL_CLK.FREQ_CODE (01). -/
def Rg.ISL_CLK.FREQ_CODE : Fld := ⟨0x8, 0, 8, .rw, 0x0, .clk⟩

/-- ISL_STAT.PWR_ON (01). -/
def Rg.ISL_STAT.PWR_ON : Fld := ⟨0x10, 0, 1, .ro, 0x0, .val⟩
/-- ISL_STAT.CLK_LOCK (01). -/
def Rg.ISL_STAT.CLK_LOCK : Fld := ⟨0x10, 1, 1, .ro, 0x0, .val⟩
/-- ISL_STAT.EPOCH (01). -/
def Rg.ISL_STAT.EPOCH : Fld := ⟨0x10, 2, 4, .ro, 0x0, .val⟩

/-- ISL_EVT.LATE_APPLY (01). -/
def Rg.ISL_EVT.LATE_APPLY : Fld := ⟨0x18, 0, 1, .w1c, 0x0, .val⟩
/-- ISL_EVT.Q_FRAME_ERR (01). -/
def Rg.ISL_EVT.Q_FRAME_ERR : Fld := ⟨0x18, 1, 1, .w1c, 0x0, .val⟩
/-- ISL_EVT.CREDIT_ERR (01). -/
def Rg.ISL_EVT.CREDIT_ERR : Fld := ⟨0x18, 2, 1, .w1c, 0x0, .val⟩
/-- ISL_EVT.Q_DROP (01). -/
def Rg.ISL_EVT.Q_DROP : Fld := ⟨0x18, 3, 1, .w1c, 0x0, .val⟩
/-- ISL_EVT.EPOCH_HOLD (01). -/
def Rg.ISL_EVT.EPOCH_HOLD : Fld := ⟨0x18, 4, 1, .w1c, 0x0, .val⟩
/-- ISL_EVT.CLK_RANGE (01). -/
def Rg.ISL_EVT.CLK_RANGE : Fld := ⟨0x18, 5, 1, .w1c, 0x0, .val⟩

/-- ISL_QDROP.COUNT (01). -/
def Rg.ISL_QDROP.COUNT : Fld := ⟨0x20, 0, 32, .ro, 0x0, .val⟩

/-- DSP_ID.VERSION (01). -/
def Rg.DSP_ID.VERSION : Fld := ⟨0x0, 0, 16, .ro, 0x100, .val⟩
/-- DSP_ID.ENTRIES (01). -/
def Rg.DSP_ID.ENTRIES : Fld := ⟨0x0, 16, 16, .ro, 0x4000, .val⟩

/-- DSP_CTRL.ENABLE (01). -/
def Rg.DSP_CTRL.ENABLE : Fld := ⟨0x8, 0, 1, .rw, 0x0, .val⟩
/-- DSP_CTRL.FLEET_RSV (01). -/
def Rg.DSP_CTRL.FLEET_RSV : Fld := ⟨0x8, 1, 8, .rwl, 0x0, .img⟩
/-- DSP_CTRL.LOCK (01). -/
def Rg.DSP_CTRL.LOCK : Fld := ⟨0x8, 9, 1, .w1s, 0x0, .val⟩
/-- DSP_CTRL.LOCK_VIOL (01). -/
def Rg.DSP_CTRL.LOCK_VIOL : Fld := ⟨0x8, 10, 1, .w1c, 0x0, .val⟩

/-- DSP_POOL.FREE_P (01). -/
def Rg.DSP_POOL.FREE_P : Fld := ⟨0x10, 0, 14, .ro, 0x3000, .val⟩
/-- DSP_POOL.FREE_F (01). -/
def Rg.DSP_POOL.FREE_F : Fld := ⟨0x10, 16, 13, .ro, 0x1000, .val⟩

/-- DSP_LOWWATER.LW_P (01). -/
def Rg.DSP_LOWWATER.LW_P : Fld := ⟨0x18, 0, 14, .rw, 0x100, .val⟩
/-- DSP_LOWWATER.LW_F (01). -/
def Rg.DSP_LOWWATER.LW_F : Fld := ⟨0x18, 16, 13, .rw, 0x40, .val⟩

/-- DSP_INSERV.INSERV (01). -/
def Rg.DSP_INSERV.INSERV : Fld := ⟨0x20, 0, 9, .ro, 0x0, .val⟩
/-- DSP_INSERV.INSERV_F (01). -/
def Rg.DSP_INSERV.INSERV_F : Fld := ⟨0x20, 16, 9, .ro, 0x0, .val⟩

/-- DSP_EVT.LOW_P (01). -/
def Rg.DSP_EVT.LOW_P : Fld := ⟨0x28, 0, 1, .w1c, 0x0, .val⟩
/-- DSP_EVT.LOW_F (01). -/
def Rg.DSP_EVT.LOW_F : Fld := ⟨0x28, 1, 1, .w1c, 0x0, .val⟩
/-- DSP_EVT.BUSY_P (01). -/
def Rg.DSP_EVT.BUSY_P : Fld := ⟨0x28, 2, 1, .w1c, 0x0, .val⟩
/-- DSP_EVT.BUSY_F (01). -/
def Rg.DSP_EVT.BUSY_F : Fld := ⟨0x28, 3, 1, .w1c, 0x0, .val⟩
/-- DSP_EVT.DEP_OVF (01). -/
def Rg.DSP_EVT.DEP_OVF : Fld := ⟨0x28, 4, 1, .w1c, 0x0, .val⟩
/-- DSP_EVT.STALE (01). -/
def Rg.DSP_EVT.STALE : Fld := ⟨0x28, 5, 1, .w1c, 0x0, .val⟩
/-- DSP_EVT.CANCEL_WON (01). -/
def Rg.DSP_EVT.CANCEL_WON : Fld := ⟨0x28, 6, 1, .w1c, 0x0, .val⟩
/-- DSP_EVT.FLOW_BUSY (01). -/
def Rg.DSP_EVT.FLOW_BUSY : Fld := ⟨0x28, 7, 1, .w1c, 0x0, .val⟩

/-- DSP_FLOW_SEL.FLOW (01). -/
def Rg.DSP_FLOW_SEL.FLOW : Fld := ⟨0x30, 0, 13, .rw, 0x0, .val⟩

/-- DSP_FLOW_DATA.PART (01). -/
def Rg.DSP_FLOW_DATA.PART : Fld := ⟨0x38, 0, 1, .rw, 0x0, .img⟩
/-- DSP_FLOW_DATA.CONSUMER (01). -/
def Rg.DSP_FLOW_DATA.CONSUMER : Fld := ⟨0x38, 4, 7, .rw, 0x0, .img⟩
/-- DSP_FLOW_DATA.AGENT (01). -/
def Rg.DSP_FLOW_DATA.AGENT : Fld := ⟨0x38, 11, 3, .rw, 0x0, .img⟩
/-- DSP_FLOW_DATA.BUSY (01). -/
def Rg.DSP_FLOW_DATA.BUSY : Fld := ⟨0x38, 14, 1, .ro, 0x0, .val⟩
/-- DSP_FLOW_DATA.WAITING (01). -/
def Rg.DSP_FLOW_DATA.WAITING : Fld := ⟨0x38, 16, 15, .ro, 0x0, .val⟩
/-- DSP_FLOW_DATA.LANE (01). -/
def Rg.DSP_FLOW_DATA.LANE : Fld := ⟨0x38, 32, 16, .rw, 0x0, .img⟩

/-- PORT_DESC.PART (01). -/
def Rg.PORT_DESC.PART : Fld := ⟨0x100, 0, 1, .rw, 0x0, .val⟩
/-- PORT_DESC.PRIO (01). -/
def Rg.PORT_DESC.PRIO : Fld := ⟨0x100, 1, 3, .rw, 0x0, .val⟩
/-- PORT_DESC.FLOW (01). -/
def Rg.PORT_DESC.FLOW : Fld := ⟨0x100, 4, 13, .rw, 0x0, .val⟩
/-- PORT_DESC.HOLD (01). -/
def Rg.PORT_DESC.HOLD : Fld := ⟨0x100, 17, 1, .rw, 0x0, .val⟩
/-- PORT_DESC.TAG (01). -/
def Rg.PORT_DESC.TAG : Fld := ⟨0x100, 32, 32, .rw, 0x0, .val⟩

/-- PORT_OP.OP (01). -/
def Rg.PORT_OP.OP : Fld := ⟨0x108, 0, 3, .wo, 0x0, .val⟩
/-- PORT_OP.RELEASE_DEPENDENTS (01). -/
def Rg.PORT_OP.RELEASE_DEPENDENTS : Fld := ⟨0x108, 3, 1, .wo, 0x0, .val⟩
/-- PORT_OP.HANDLE (01). -/
def Rg.PORT_OP.HANDLE : Fld := ⟨0x108, 4, 22, .wo, 0x0, .val⟩
/-- PORT_OP.PRED (01). -/
def Rg.PORT_OP.PRED : Fld := ⟨0x108, 26, 22, .wo, 0x0, .val⟩

/-- PORT_RES.STATUS (01). -/
def Rg.PORT_RES.STATUS : Fld := ⟨0x110, 0, 4, .ro, 0x0, .val⟩
/-- PORT_RES.HANDLE (01). -/
def Rg.PORT_RES.HANDLE : Fld := ⟨0x110, 4, 22, .ro, 0x0, .val⟩

/-- PORT_DISP.VALID (01). -/
def Rg.PORT_DISP.VALID : Fld := ⟨0x118, 0, 1, .ro, 0x0, .val⟩
/-- PORT_DISP.DEP_CANCELLED (01). -/
def Rg.PORT_DISP.DEP_CANCELLED : Fld := ⟨0x118, 1, 1, .ro, 0x0, .val⟩
/-- PORT_DISP.HANDLE (01). -/
def Rg.PORT_DISP.HANDLE : Fld := ⟨0x118, 4, 22, .ro, 0x0, .val⟩
/-- PORT_DISP.TAG (01). -/
def Rg.PORT_DISP.TAG : Fld := ⟨0x118, 32, 32, .ro, 0x0, .val⟩

/-! ### 02_structure_image.md -/

/-- STRUCT_ID.IMG_VERSION (02). -/
def Rg.STRUCT_ID.IMG_VERSION : Fld := ⟨0x400, 0, 32, .ro, 0x0, .img⟩

/-- STRUCT_STAT.CODE (02). -/
def Rg.STRUCT_STAT.CODE : Fld := ⟨0x408, 0, 8, .ro, 0x0, .val⟩
/-- STRUCT_STAT.SECTION (02). -/
def Rg.STRUCT_STAT.SECTION : Fld := ⟨0x408, 8, 4, .ro, 0x0, .val⟩
/-- STRUCT_STAT.RECORD (02). -/
def Rg.STRUCT_STAT.RECORD : Fld := ⟨0x408, 16, 16, .ro, 0x0, .val⟩

/-- STRUCT_DIGEST.DIGEST (02). -/
def Rg.STRUCT_DIGEST.DIGEST : Fld := ⟨0x410, 0, 64, .ro, 0x0, .img⟩

/-- STRUCT_INST0.INST (02). -/
def Rg.STRUCT_INST0.INST : Fld := ⟨0x418, 0, 64, .ro, 0x0, .img⟩

/-- STRUCT_INST1.INST (02). -/
def Rg.STRUCT_INST1.INST : Fld := ⟨0x420, 0, 16, .ro, 0x0, .img⟩

/-! ### 03_modes_boot_update.md -/

/-- MODE_STAT.MODE (03). -/
def Rg.MODE_STAT.MODE : Fld := ⟨0x0, 0, 3, .ro, 0x0, .val⟩
/-- MODE_STAT.CHANGING (03). -/
def Rg.MODE_STAT.CHANGING : Fld := ⟨0x0, 3, 1, .ro, 0x0, .val⟩
/-- MODE_STAT.TARGET (03). -/
def Rg.MODE_STAT.TARGET : Fld := ⟨0x0, 4, 3, .ro, 0x0, .val⟩
/-- MODE_STAT.FSTOP (03). -/
def Rg.MODE_STAT.FSTOP : Fld := ⟨0x0, 7, 1, .ro, 0x1, .val⟩
/-- MODE_STAT.EPOCH (03). -/
def Rg.MODE_STAT.EPOCH : Fld := ⟨0x0, 8, 16, .ro, 0x0, .val⟩
/-- MODE_STAT.PENDING (03). -/
def Rg.MODE_STAT.PENDING : Fld := ⟨0x0, 24, 3, .ro, 0x7, .val⟩
/-- MODE_STAT.SKEW (03). -/
def Rg.MODE_STAT.SKEW : Fld := ⟨0x0, 27, 1, .ro, 0x0, .val⟩
/-- MODE_STAT.MAINT_DIRTY (03). -/
def Rg.MODE_STAT.MAINT_DIRTY : Fld := ⟨0x0, 28, 1, .ro, 0x0, .val⟩

/-- MODE_REQ.TARGET (03). -/
def Rg.MODE_REQ.TARGET : Fld := ⟨0x8, 0, 3, .wo, 0x0, .val⟩
/-- MODE_REQ.CAUSE (03). -/
def Rg.MODE_REQ.CAUSE : Fld := ⟨0x8, 4, 4, .wo, 0x0, .val⟩

/-- MODE_RES.RESULT (03). -/
def Rg.MODE_RES.RESULT : Fld := ⟨0x10, 0, 4, .ro, 0x0, .val⟩

/-- MODE_CFG.AUTO_SVC (03). -/
def Rg.MODE_CFG.AUTO_SVC : Fld := ⟨0x18, 0, 1, .rwl, 0x0, .img⟩
/-- MODE_CFG.LOCK (03). -/
def Rg.MODE_CFG.LOCK : Fld := ⟨0x18, 1, 1, .w1s, 0x0, .val⟩
/-- MODE_CFG.LOCK_VIOL (03). -/
def Rg.MODE_CFG.LOCK_VIOL : Fld := ⟨0x18, 2, 1, .w1c, 0x0, .val⟩
/-- MODE_CFG.COMMIT_LEAD (03). -/
def Rg.MODE_CFG.COMMIT_LEAD : Fld := ⟨0x18, 8, 8, .rwl, 0x0, .img⟩
/-- MODE_CFG.ACK_WAIT (03). -/
def Rg.MODE_CFG.ACK_WAIT : Fld := ⟨0x18, 16, 8, .rwl, 0x0, .img⟩
/-- MODE_CFG.DORM_GRACE (03). -/
def Rg.MODE_CFG.DORM_GRACE : Fld := ⟨0x18, 24, 8, .rwl, 0x0, .img⟩

/-- MODE_LIM.SVC_TERR (03). -/
def Rg.MODE_LIM.SVC_TERR : Fld := ⟨0x20, 0, 16, .rwl, 0x0, .img⟩
/-- MODE_LIM.FLEET_TERR (03). -/
def Rg.MODE_LIM.FLEET_TERR : Fld := ⟨0x20, 16, 10, .rwl, 0x0, .img⟩

/-- MODE_COMMIT.INSTANT (03). -/
def Rg.MODE_COMMIT.INSTANT : Fld := ⟨0x28, 0, 64, .ro, 0x0, .val⟩

/-- MODE_LATE.ISLANDS (03). -/
def Rg.MODE_LATE.ISLANDS : Fld := ⟨0x30, 0, 44, .ro, 0x0, .val⟩

/-- MODE_SKEWED.ISLANDS (03). -/
def Rg.MODE_SKEWED.ISLANDS : Fld := ⟨0x38, 0, 44, .ro, 0x0, .val⟩

/-- MODE_EVT.CHANGED (03). -/
def Rg.MODE_EVT.CHANGED : Fld := ⟨0x40, 0, 1, .w1c, 0x0, .val⟩
/-- MODE_EVT.LATE_APPLY (03). -/
def Rg.MODE_EVT.LATE_APPLY : Fld := ⟨0x40, 1, 1, .w1c, 0x0, .val⟩
/-- MODE_EVT.MODE_SKEW (03). -/
def Rg.MODE_EVT.MODE_SKEW : Fld := ⟨0x40, 2, 1, .w1c, 0x0, .val⟩
/-- MODE_EVT.REFUSED (03). -/
def Rg.MODE_EVT.REFUSED : Fld := ⟨0x40, 3, 1, .w1c, 0x0, .val⟩
/-- MODE_EVT.WAKE (03). -/
def Rg.MODE_EVT.WAKE : Fld := ⟨0x40, 4, 1, .w1c, 0x0, .val⟩
/-- MODE_EVT.DORMANT_ABORT (03). -/
def Rg.MODE_EVT.DORMANT_ABORT : Fld := ⟨0x40, 5, 1, .w1c, 0x0, .val⟩

/-- RESET_CAUSE.POR (03). -/
def Rg.RESET_CAUSE.POR : Fld := ⟨0x80, 0, 1, .w1c, 0x1, .val⟩
/-- RESET_CAUSE.WARM_SW (03). -/
def Rg.RESET_CAUSE.WARM_SW : Fld := ⟨0x80, 1, 1, .w1c, 0x0, .val⟩
/-- RESET_CAUSE.WARM_HOST (03). -/
def Rg.RESET_CAUSE.WARM_HOST : Fld := ⟨0x80, 2, 1, .w1c, 0x0, .val⟩
/-- RESET_CAUSE.WDOG_MP (03). -/
def Rg.RESET_CAUSE.WDOG_MP : Fld := ⟨0x80, 3, 1, .w1c, 0x0, .val⟩
/-- RESET_CAUSE.WDOG_SEC (03). -/
def Rg.RESET_CAUSE.WDOG_SEC : Fld := ⟨0x80, 4, 1, .w1c, 0x0, .val⟩
/-- RESET_CAUSE.UPDATE (03). -/
def Rg.RESET_CAUSE.UPDATE : Fld := ⟨0x80, 5, 1, .w1c, 0x0, .val⟩
/-- RESET_CAUSE.MAINT_BOOT (03). -/
def Rg.RESET_CAUSE.MAINT_BOOT : Fld := ⟨0x80, 6, 1, .ro, 0x0, .val⟩

/-- RESET_CTRL.KEY (03). -/
def Rg.RESET_CTRL.KEY : Fld := ⟨0x88, 0, 16, .wo, 0x0, .val⟩
/-- RESET_CTRL.MAINT_BOOT (03). -/
def Rg.RESET_CTRL.MAINT_BOOT : Fld := ⟨0x88, 16, 1, .wo, 0x0, .val⟩

/-- PWR_STAT.DOM_ON (03). -/
def Rg.PWR_STAT.DOM_ON : Fld := ⟨0x100, 0, 7, .ro, 0x7, .val⟩
/-- PWR_STAT.PSTATE (03). -/
def Rg.PWR_STAT.PSTATE : Fld := ⟨0x100, 7, 2, .ro, 0x0, .val⟩
/-- PWR_STAT.VBAT_OK (03). -/
def Rg.PWR_STAT.VBAT_OK : Fld := ⟨0x100, 9, 1, .ro, 0x0, .val⟩
/-- PWR_STAT.PFAIL (03). -/
def Rg.PWR_STAT.PFAIL : Fld := ⟨0x100, 10, 1, .ro, 0x0, .val⟩

/-- WAKE_CFG.TIMER_EN (03). -/
def Rg.WAKE_CFG.TIMER_EN : Fld := ⟨0xc0, 0, 1, .rw, 0x0, .val⟩
/-- WAKE_CFG.HOST_EN (03). -/
def Rg.WAKE_CFG.HOST_EN : Fld := ⟨0xc0, 1, 1, .rw, 0x1, .val⟩
/-- WAKE_CFG.PIN_EN (03). -/
def Rg.WAKE_CFG.PIN_EN : Fld := ⟨0xc0, 2, 4, .rw, 0x0, .val⟩
/-- WAKE_CFG.PIN_POL (03). -/
def Rg.WAKE_CFG.PIN_POL : Fld := ⟨0xc0, 6, 4, .rw, 0x0, .val⟩

/-- WAKE_TIME.INSTANT (03). -/
def Rg.WAKE_TIME.INSTANT : Fld := ⟨0xc8, 0, 64, .rw, 0x0, .val⟩

/-- WAKE_STAT.TIMER (03). -/
def Rg.WAKE_STAT.TIMER : Fld := ⟨0xd0, 0, 1, .w1c, 0x0, .val⟩
/-- WAKE_STAT.HOST (03). -/
def Rg.WAKE_STAT.HOST : Fld := ⟨0xd0, 1, 1, .w1c, 0x0, .val⟩
/-- WAKE_STAT.PIN (03). -/
def Rg.WAKE_STAT.PIN : Fld := ⟨0xd0, 2, 4, .w1c, 0x0, .val⟩
/-- WAKE_STAT.TAMPER (03). -/
def Rg.WAKE_STAT.TAMPER : Fld := ⟨0xd0, 6, 1, .w1c, 0x0, .val⟩
/-- WAKE_STAT.EARLY (03). -/
def Rg.WAKE_STAT.EARLY : Fld := ⟨0xd0, 7, 1, .w1c, 0x0, .val⟩

/-- WAKE_TS.INSTANT (03). -/
def Rg.WAKE_TS.INSTANT : Fld := ⟨0xd8, 0, 64, .ro, 0x0, .val⟩

/-- COC_CTRL.VALID (03). -/
def Rg.COC_CTRL.VALID : Fld := ⟨0x140, 0, 1, .rw, 0x0, .val⟩
/-- COC_CTRL.UE (03). -/
def Rg.COC_CTRL.UE : Fld := ⟨0x140, 1, 1, .w1c, 0x0, .val⟩
/-- COC_CTRL.FMT (03). -/
def Rg.COC_CTRL.FMT : Fld := ⟨0x140, 16, 16, .rw, 0x0, .val⟩

/-- COC_ADDR.WORD (03). -/
def Rg.COC_ADDR.WORD : Fld := ⟨0x148, 0, 15, .rw, 0x0, .val⟩

/-- COC_DATA.DATA (03). -/
def Rg.COC_DATA.DATA : Fld := ⟨0x150, 0, 64, .rw, 0x0, .val⟩

/-- COC_TIME.INSTANT (03). -/
def Rg.COC_TIME.INSTANT : Fld := ⟨0x158, 0, 64, .ro, 0x0, .val⟩

/-! ### 04_time_core.md -/

/-- TIME_ID.VERSION (04). -/
def Rg.TIME_ID.VERSION : Fld := ⟨0x0, 0, 16, .ro, 0x100, .val⟩

/-- TIME_CTRL.INC_SRC (04). -/
def Rg.TIME_CTRL.INC_SRC : Fld := ⟨0x8, 0, 1, .rw, 0x0, .val⟩
/-- TIME_CTRL.STATE (04). -/
def Rg.TIME_CTRL.STATE : Fld := ⟨0x8, 1, 3, .rw, 0x0, .val⟩
/-- TIME_CTRL.QUAL (04). -/
def Rg.TIME_CTRL.QUAL : Fld := ⟨0x8, 4, 4, .rw, 0xf, .val⟩

/-- TIME_STAT.GEN (04). -/
def Rg.TIME_STAT.GEN : Fld := ⟨0x10, 0, 4, .ro, 0x0, .val⟩
/-- TIME_STAT.SLEWING (04). -/
def Rg.TIME_STAT.SLEWING : Fld := ⟨0x10, 4, 1, .ro, 0x0, .val⟩
/-- TIME_STAT.STEP_ARMED (04). -/
def Rg.TIME_STAT.STEP_ARMED : Fld := ⟨0x10, 5, 1, .ro, 0x0, .val⟩
/-- TIME_STAT.ERA_PEND (04). -/
def Rg.TIME_STAT.ERA_PEND : Fld := ⟨0x10, 6, 1, .ro, 0x0, .val⟩
/-- TIME_STAT.REF_OK (04). -/
def Rg.TIME_STAT.REF_OK : Fld := ⟨0x10, 7, 1, .ro, 0x1, .val⟩

/-- TIME_NOW.NS (04). -/
def Rg.TIME_NOW.NS : Fld := ⟨0x18, 0, 32, .ro, 0x0, .val⟩
/-- TIME_NOW.ERA (04). -/
def Rg.TIME_NOW.ERA : Fld := ⟨0x18, 32, 32, .ro, 0x0, .val⟩

/-- TIME_NOW_SUB.SUB (04). -/
def Rg.TIME_NOW_SUB.SUB : Fld := ⟨0x20, 0, 8, .ro, 0x0, .val⟩

/-- TIME_INC.INC (04). -/
def Rg.TIME_INC.INC : Fld := ⟨0x28, 0, 64, .rw, 0x400000000, .val⟩

/-- TIME_ERA_NEXT.ERA (04). -/
def Rg.TIME_ERA_NEXT.ERA : Fld := ⟨0x30, 0, 32, .rw, 0x0, .val⟩

/-- TIME_ADJ.FRAC (04). -/
def Rg.TIME_ADJ.FRAC : Fld := ⟨0x38, 0, 32, .wo, 0x0, .val⟩
/-- TIME_ADJ.NS (04). -/
def Rg.TIME_ADJ.NS : Fld := ⟨0x38, 32, 32, .wo, 0x0, .val⟩

/-- TIME_SLEW.RATE (04). -/
def Rg.TIME_SLEW.RATE : Fld := ⟨0x40, 0, 16, .rw, 0x64, .val⟩

/-- TIME_ADJ_REM.REM (04). -/
def Rg.TIME_ADJ_REM.REM : Fld := ⟨0x48, 0, 64, .ro, 0x0, .val⟩

/-- TIME_STEP.VALUE (04). -/
def Rg.TIME_STEP.VALUE : Fld := ⟨0x50, 0, 64, .rw, 0x0, .val⟩

/-- TIME_STEP_CTRL.GO (04). -/
def Rg.TIME_STEP_CTRL.GO : Fld := ⟨0x58, 0, 1, .wo, 0x0, .val⟩
/-- TIME_STEP_CTRL.ABS (04). -/
def Rg.TIME_STEP_CTRL.ABS : Fld := ⟨0x58, 1, 1, .rw, 0x0, .val⟩
/-- TIME_STEP_CTRL.CANCEL (04). -/
def Rg.TIME_STEP_CTRL.CANCEL : Fld := ⟨0x58, 2, 1, .wo, 0x0, .val⟩
/-- TIME_STEP_CTRL.RESULT (04). -/
def Rg.TIME_STEP_CTRL.RESULT : Fld := ⟨0x58, 3, 3, .ro, 0x0, .val⟩

/-- TIME_TERR.TERR (04). -/
def Rg.TIME_TERR.TERR : Fld := ⟨0x60, 0, 32, .rw, 0xffffffff, .val⟩

/-- TIME_HO.RATE (04). -/
def Rg.TIME_HO.RATE : Fld := ⟨0x68, 0, 32, .rw, 0x10000, .val⟩
/-- TIME_HO.DRIFT (04). -/
def Rg.TIME_HO.DRIFT : Fld := ⟨0x68, 32, 32, .rw, 0x0, .val⟩

/-- TIME_HO_T.ELAPSED (04). -/
def Rg.TIME_HO_T.ELAPSED : Fld := ⟨0x70, 0, 32, .ro, 0x0, .val⟩

/-- UTC_CTRL.UTC_OFS (04). -/
def Rg.UTC_CTRL.UTC_OFS : Fld := ⟨0x78, 0, 16, .rw, 0x0, .val⟩
/-- UTC_CTRL.NEXT_OFS (04). -/
def Rg.UTC_CTRL.NEXT_OFS : Fld := ⟨0x78, 16, 16, .rw, 0x0, .val⟩

/-- LEAP_AT.INSTANT (04). -/
def Rg.LEAP_AT.INSTANT : Fld := ⟨0x80, 0, 64, .rw, 0x0, .val⟩

/-- TIME_EVT.ERA_MISS (04). -/
def Rg.TIME_EVT.ERA_MISS : Fld := ⟨0x88, 0, 1, .w1c, 0x0, .val⟩
/-- TIME_EVT.ERA_LATE (04). -/
def Rg.TIME_EVT.ERA_LATE : Fld := ⟨0x88, 1, 1, .w1c, 0x0, .val⟩
/-- TIME_EVT.TINC_RANGE (04). -/
def Rg.TIME_EVT.TINC_RANGE : Fld := ⟨0x88, 2, 1, .w1c, 0x0, .val⟩
/-- TIME_EVT.INC_SRC_VIOL (04). -/
def Rg.TIME_EVT.INC_SRC_VIOL : Fld := ⟨0x88, 3, 1, .w1c, 0x0, .val⟩
/-- TIME_EVT.STEP_DONE (04). -/
def Rg.TIME_EVT.STEP_DONE : Fld := ⟨0x88, 4, 1, .w1c, 0x0, .val⟩
/-- TIME_EVT.STEP_REFUSED (04). -/
def Rg.TIME_EVT.STEP_REFUSED : Fld := ⟨0x88, 5, 1, .w1c, 0x0, .val⟩
/-- TIME_EVT.ADJ_REPLACED (04). -/
def Rg.TIME_EVT.ADJ_REPLACED : Fld := ⟨0x88, 6, 1, .w1c, 0x0, .val⟩
/-- TIME_EVT.REF_FAIL (04). -/
def Rg.TIME_EVT.REF_FAIL : Fld := ⟨0x88, 7, 1, .w1c, 0x0, .val⟩
/-- TIME_EVT.LEAP_DONE (04). -/
def Rg.TIME_EVT.LEAP_DONE : Fld := ⟨0x88, 8, 1, .w1c, 0x0, .val⟩
/-- TIME_EVT.TDC_OVR (04). -/
def Rg.TIME_EVT.TDC_OVR : Fld := ⟨0x88, 9, 1, .w1c, 0x0, .val⟩
/-- TIME_EVT.PPS_CHG (04). -/
def Rg.TIME_EVT.PPS_CHG : Fld := ⟨0x88, 10, 1, .w1c, 0x0, .val⟩
/-- TIME_EVT.PPS_SHORT (04). -/
def Rg.TIME_EVT.PPS_SHORT : Fld := ⟨0x88, 11, 1, .w1c, 0x0, .val⟩

/-- TDC_TS.TS (04). -/
def Rg.TDC_TS.TS : Fld := ⟨0x100, 0, 64, .ro, 0x0, .val⟩

/-- TDC_SUB.SUB (04). -/
def Rg.TDC_SUB.SUB : Fld := ⟨0x108, 0, 8, .ro, 0x0, .val⟩
/-- TDC_SUB.NEW (04). -/
def Rg.TDC_SUB.NEW : Fld := ⟨0x108, 8, 1, .w1c, 0x0, .val⟩
/-- TDC_SUB.OVR (04). -/
def Rg.TDC_SUB.OVR : Fld := ⟨0x108, 9, 1, .w1c, 0x0, .val⟩
/-- TDC_SUB.POL (04). -/
def Rg.TDC_SUB.POL : Fld := ⟨0x108, 10, 1, .rw, 0x0, .val⟩

/-- PPS_CFG.EN (04). -/
def Rg.PPS_CFG.EN : Fld := ⟨0x200, 0, 1, .rw, 0x0, .val⟩
/-- PPS_CFG.UNSET_EN (04). -/
def Rg.PPS_CFG.UNSET_EN : Fld := ⟨0x200, 1, 1, .rw, 0x0, .val⟩
/-- PPS_CFG.COMP_EN (04). -/
def Rg.PPS_CFG.COMP_EN : Fld := ⟨0x200, 2, 1, .rw, 0x0, .val⟩
/-- PPS_CFG.MEAS_GO (04). -/
def Rg.PPS_CFG.MEAS_GO : Fld := ⟨0x200, 3, 1, .wo, 0x0, .val⟩
/-- PPS_CFG.MEAS_AUTO (04). -/
def Rg.PPS_CFG.MEAS_AUTO : Fld := ⟨0x200, 4, 1, .rw, 0x0, .val⟩
/-- PPS_CFG.WIDTH (04). -/
def Rg.PPS_CFG.WIDTH : Fld := ⟨0x200, 5, 19, .rw, 0x186a0, .val⟩

/-- PPS_OFS.OFS (04). -/
def Rg.PPS_OFS.OFS : Fld := ⟨0x208, 0, 32, .rw, 0x0, .val⟩

/-- PPS_CABLE.DELAY (04). -/
def Rg.PPS_CABLE.DELAY : Fld := ⟨0x210, 0, 24, .ro, 0x0, .val⟩
/-- PPS_CABLE.STATE (04). -/
def Rg.PPS_CABLE.STATE : Fld := ⟨0x210, 24, 3, .ro, 0x0, .val⟩

/-- PPS_OUTDLY.DLY (04). -/
def Rg.PPS_OUTDLY.DLY : Fld := ⟨0x218, 0, 16, .ro, 0x0, .fuse⟩

/-- EFC_CFG.BITS (04). -/
def Rg.EFC_CFG.BITS : Fld := ⟨0x300, 0, 2, .rw, 0x0, .val⟩
/-- EFC_CFG.EN (04). -/
def Rg.EFC_CFG.EN : Fld := ⟨0x300, 2, 1, .rw, 0x0, .val⟩
/-- EFC_CFG.DIV (04). -/
def Rg.EFC_CFG.DIV : Fld := ⟨0x300, 3, 4, .rw, 0x4, .val⟩

/-- EFC_VAL.CODE (04). -/
def Rg.EFC_VAL.CODE : Fld := ⟨0x308, 0, 20, .ro, 0x0, .val⟩

/-- TPOL_SRC.PRI0 (04). -/
def Rg.TPOL_SRC.PRI0 : Fld := ⟨0x400, 0, 3, .rw, 0x1, .val⟩
/-- TPOL_SRC.PRI1 (04). -/
def Rg.TPOL_SRC.PRI1 : Fld := ⟨0x400, 3, 3, .rw, 0x0, .val⟩
/-- TPOL_SRC.PRI2 (04). -/
def Rg.TPOL_SRC.PRI2 : Fld := ⟨0x400, 6, 3, .rw, 0x0, .val⟩
/-- TPOL_SRC.PRI3 (04). -/
def Rg.TPOL_SRC.PRI3 : Fld := ⟨0x400, 9, 3, .rw, 0x0, .val⟩
/-- TPOL_SRC.STEP_OK (04). -/
def Rg.TPOL_SRC.STEP_OK : Fld := ⟨0x400, 12, 1, .rw, 0x0, .val⟩
/-- TPOL_SRC.REVERT (04). -/
def Rg.TPOL_SRC.REVERT : Fld := ⟨0x400, 13, 1, .rw, 0x1, .val⟩
/-- TPOL_SRC.HOLD_S (04). -/
def Rg.TPOL_SRC.HOLD_S : Fld := ⟨0x400, 14, 16, .rw, 0x3c, .val⟩

/-! ### 05_loop_engine.md -/

/-- LT_ID.VERSION (05). -/
def Rg.LT_ID.VERSION : Fld := ⟨0x0, 0, 16, .ro, 0x100, .val⟩
/-- LT_ID.INSTANCE (05). -/
def Rg.LT_ID.INSTANCE : Fld := ⟨0x0, 16, 2, .ro, 0x0, .inst⟩
/-- LT_ID.LANES (05). -/
def Rg.LT_ID.LANES : Fld := ⟨0x0, 18, 5, .ro, 0x0, .img⟩

/-- LT_EVT.LANE (05). -/
def Rg.LT_EVT.LANE : Fld := ⟨0x8, 0, 16, .ro, 0x0, .val⟩

/-- LP_CFG.SP_SRC (05). -/
def Rg.LP_CFG.SP_SRC : Fld := ⟨0x1000, 0, 3, .rw, 0x0, .val⟩
/-- LP_CFG.SP_IDX (05). -/
def Rg.LP_CFG.SP_IDX : Fld := ⟨0x1000, 3, 7, .rw, 0x0, .val⟩
/-- LP_CFG.PV_SRC (05). -/
def Rg.LP_CFG.PV_SRC : Fld := ⟨0x1000, 10, 3, .rw, 0x0, .val⟩
/-- LP_CFG.PV_IDX (05). -/
def Rg.LP_CFG.PV_IDX : Fld := ⟨0x1000, 13, 7, .rw, 0x0, .val⟩
/-- LP_CFG.OUT_TGT (05). -/
def Rg.LP_CFG.OUT_TGT : Fld := ⟨0x1000, 20, 3, .rw, 0x0, .val⟩
/-- LP_CFG.NOTCH_SEL (05). -/
def Rg.LP_CFG.NOTCH_SEL : Fld := ⟨0x1000, 23, 5, .rw, 0x0, .val⟩
/-- LP_CFG.TRIG (05). -/
def Rg.LP_CFG.TRIG : Fld := ⟨0x1000, 28, 1, .rw, 0x0, .val⟩
/-- LP_CFG.DERIV_PV (05). -/
def Rg.LP_CFG.DERIV_PV : Fld := ⟨0x1000, 29, 1, .rw, 0x0, .val⟩
/-- LP_CFG.FF_TABLE (05). -/
def Rg.LP_CFG.FF_TABLE : Fld := ⟨0x1000, 30, 1, .rw, 0x0, .val⟩
/-- LP_CFG.FF_RC (05). -/
def Rg.LP_CFG.FF_RC : Fld := ⟨0x1000, 31, 1, .rw, 0x0, .val⟩
/-- LP_CFG.CT_SHAPE (05). -/
def Rg.LP_CFG.CT_SHAPE : Fld := ⟨0x1000, 32, 1, .rw, 0x0, .val⟩
/-- LP_CFG.CT_IDX_SRC (05). -/
def Rg.LP_CFG.CT_IDX_SRC : Fld := ⟨0x1000, 33, 1, .rw, 0x0, .val⟩
/-- LP_CFG.CT_SVC (05). -/
def Rg.LP_CFG.CT_SVC : Fld := ⟨0x1000, 34, 1, .rw, 0x0, .val⟩
/-- LP_CFG.RC_DDR (05). -/
def Rg.LP_CFG.RC_DDR : Fld := ⟨0x1000, 35, 1, .rw, 0x0, .val⟩

/-- LP_CTRL.EN (05). -/
def Rg.LP_CTRL.EN : Fld := ⟨0x1008, 0, 1, .rw, 0x0, .val⟩
/-- LP_CTRL.AUTO (05). -/
def Rg.LP_CTRL.AUTO : Fld := ⟨0x1008, 1, 1, .rw, 0x0, .val⟩
/-- LP_CTRL.RC_CLEAR (05). -/
def Rg.LP_CTRL.RC_CLEAR : Fld := ⟨0x1008, 2, 1, .wo, 0x0, .val⟩
/-- LP_CTRL.RC_FREEZE (05). -/
def Rg.LP_CTRL.RC_FREEZE : Fld := ⟨0x1008, 3, 1, .rw, 0x0, .val⟩

/-- LP_TIMING.PERIOD (05). -/
def Rg.LP_TIMING.PERIOD : Fld := ⟨0x1010, 0, 27, .rw, 0xf4240, .val⟩
/-- LP_TIMING.PHASE (05). -/
def Rg.LP_TIMING.PHASE : Fld := ⟨0x1010, 32, 20, .rw, 0x0, .val⟩
/-- LP_TIMING.STALE_MAX (05). -/
def Rg.LP_TIMING.STALE_MAX : Fld := ⟨0x1010, 56, 8, .rw, 0x3, .val⟩

/-- LP_KP.GAIN (05). -/
def Rg.LP_KP.GAIN : Fld := ⟨0x1018, 0, 32, .rw, 0x0, .val⟩

/-- LP_KI.GAIN (05). -/
def Rg.LP_KI.GAIN : Fld := ⟨0x1020, 0, 32, .rw, 0x0, .val⟩

/-- LP_KD.GAIN (05). -/
def Rg.LP_KD.GAIN : Fld := ⟨0x1028, 0, 32, .rw, 0x0, .val⟩

/-- LP_N.GAIN (05). -/
def Rg.LP_N.GAIN : Fld := ⟨0x1030, 0, 32, .rw, 0x0, .val⟩

/-- LP_SP.VALUE (05). -/
def Rg.LP_SP.VALUE : Fld := ⟨0x1038, 0, 64, .rw, 0x0, .val⟩

/-- LP_PV.VALUE (05). -/
def Rg.LP_PV.VALUE : Fld := ⟨0x1040, 0, 64, .rw, 0x0, .val⟩

/-- LP_MAN.VALUE (05). -/
def Rg.LP_MAN.VALUE : Fld := ⟨0x1048, 0, 64, .rw, 0x0, .val⟩

/-- LP_U.VALUE (05). -/
def Rg.LP_U.VALUE : Fld := ⟨0x1050, 0, 64, .ro, 0x0, .val⟩

/-- LP_E.VALUE (05). -/
def Rg.LP_E.VALUE : Fld := ⟨0x1058, 0, 64, .ro, 0x0, .val⟩

/-- LP_I.VALUE (05). -/
def Rg.LP_I.VALUE : Fld := ⟨0x1060, 0, 64, .ro, 0x0, .val⟩

/-- LP_D.VALUE (05). -/
def Rg.LP_D.VALUE : Fld := ⟨0x1068, 0, 64, .ro, 0x0, .val⟩

/-- LP_OUTLIM.OUT_MIN (05). -/
def Rg.LP_OUTLIM.OUT_MIN : Fld := ⟨0x1070, 0, 32, .rw, 0x0, .val⟩
/-- LP_OUTLIM.OUT_MAX (05). -/
def Rg.LP_OUTLIM.OUT_MAX : Fld := ⟨0x1070, 32, 32, .rw, 0x0, .val⟩

/-- LP_SAT.SAT_LIM (05). -/
def Rg.LP_SAT.SAT_LIM : Fld := ⟨0x1078, 0, 22, .rw, 0x3e8, .val⟩
/-- LP_SAT.SAT_ACT (05). -/
def Rg.LP_SAT.SAT_ACT : Fld := ⟨0x1078, 24, 2, .rw, 0x0, .val⟩
/-- LP_SAT.SAT_TIME (05). -/
def Rg.LP_SAT.SAT_TIME : Fld := ⟨0x1078, 32, 32, .ro, 0x0, .val⟩

/-- LP_STAT.STATE (05). -/
def Rg.LP_STAT.STATE : Fld := ⟨0x1080, 0, 2, .ro, 0x0, .val⟩
/-- LP_STAT.REFUSE (05). -/
def Rg.LP_STAT.REFUSE : Fld := ⟨0x1080, 2, 4, .ro, 0x0, .val⟩
/-- LP_STAT.SAT (05). -/
def Rg.LP_STAT.SAT : Fld := ⟨0x1080, 6, 1, .ro, 0x0, .val⟩
/-- LP_STAT.RC_BUSY (05). -/
def Rg.LP_STAT.RC_BUSY : Fld := ⟨0x1080, 7, 1, .ro, 0x0, .val⟩
/-- LP_STAT.HOLD_CAUSE (05). -/
def Rg.LP_STAT.HOLD_CAUSE : Fld := ⟨0x1080, 8, 2, .ro, 0x0, .val⟩
/-- LP_STAT.STALE (05). -/
def Rg.LP_STAT.STALE : Fld := ⟨0x1080, 16, 8, .ro, 0x0, .val⟩

/-- LP_EVT.SAT_LIMIT (05). -/
def Rg.LP_EVT.SAT_LIMIT : Fld := ⟨0x1088, 0, 1, .w1c, 0x0, .val⟩
/-- LP_EVT.STALE_HOLD (05). -/
def Rg.LP_EVT.STALE_HOLD : Fld := ⟨0x1088, 1, 1, .w1c, 0x0, .val⟩
/-- LP_EVT.PRESET_CLAMP (05). -/
def Rg.LP_EVT.PRESET_CLAMP : Fld := ⟨0x1088, 2, 1, .w1c, 0x0, .val⟩
/-- LP_EVT.REFUSED (05). -/
def Rg.LP_EVT.REFUSED : Fld := ⟨0x1088, 3, 1, .w1c, 0x0, .val⟩
/-- LP_EVT.CFG_LOCKED (05). -/
def Rg.LP_EVT.CFG_LOCKED : Fld := ⟨0x1088, 4, 1, .w1c, 0x0, .val⟩
/-- LP_EVT.CT_CLAMP (05). -/
def Rg.LP_EVT.CT_CLAMP : Fld := ⟨0x1088, 5, 1, .w1c, 0x0, .val⟩
/-- LP_EVT.RC_SAT (05). -/
def Rg.LP_EVT.RC_SAT : Fld := ⟨0x1088, 6, 1, .w1c, 0x0, .val⟩
/-- LP_EVT.STEP_SKIP (05). -/
def Rg.LP_EVT.STEP_SKIP : Fld := ⟨0x1088, 7, 1, .w1c, 0x0, .val⟩

/-- LP_CT.BASE (05). -/
def Rg.LP_CT.BASE : Fld := ⟨0x1090, 0, 21, .rw, 0x0, .val⟩
/-- LP_CT.COUNT (05). -/
def Rg.LP_CT.COUNT : Fld := ⟨0x1090, 32, 13, .rw, 0x2, .val⟩

/-- LP_CT1D.X0 (05). -/
def Rg.LP_CT1D.X0 : Fld := ⟨0x1098, 0, 32, .rw, 0x0, .val⟩
/-- LP_CT1D.STEP (05). -/
def Rg.LP_CT1D.STEP : Fld := ⟨0x1098, 32, 32, .rw, 0x1, .val⟩

/-- LP_IDX.AZ (05). -/
def Rg.LP_IDX.AZ : Fld := ⟨0x10a0, 0, 16, .rw, 0x0, .val⟩
/-- LP_IDX.EL (05). -/
def Rg.LP_IDX.EL : Fld := ⟨0x10a0, 16, 16, .rw, 0x0, .val⟩
/-- LP_IDX.X (05). -/
def Rg.LP_IDX.X : Fld := ⟨0x10a0, 32, 32, .rw, 0x0, .val⟩

/-- LP_RC.LEN (05). -/
def Rg.LP_RC.LEN : Fld := ⟨0x10a8, 0, 17, .rw, 0x2, .val⟩
/-- LP_RC.LEAD (05). -/
def Rg.LP_RC.LEAD : Fld := ⟨0x10a8, 17, 10, .rw, 0x0, .val⟩
/-- LP_RC.Q (05). -/
def Rg.LP_RC.Q : Fld := ⟨0x10a8, 32, 17, .rw, 0x10000, .val⟩

/-- LP_RC_L.L (05). -/
def Rg.LP_RC_L.L : Fld := ⟨0x10b0, 0, 32, .rw, 0x0, .val⟩

/-- LP_RC_ADDR.ADDR (05). -/
def Rg.LP_RC_ADDR.ADDR : Fld := ⟨0x10b8, 0, 40, .rw, 0x0, .val⟩

/-- LP_RC_STAT.POS (05). -/
def Rg.LP_RC_STAT.POS : Fld := ⟨0x10c0, 0, 17, .ro, 0x0, .val⟩
/-- LP_RC_STAT.PASSES (05). -/
def Rg.LP_RC_STAT.PASSES : Fld := ⟨0x10c0, 32, 32, .ro, 0x0, .val⟩

/-! ### 06_gnss_signal_chain.md -/

/-- RF_CFG.EN (06). -/
def Rg.RF_CFG.EN : Fld := ⟨0x0, 0, 1, .rw, 0x0, .val⟩
/-- RF_CFG.BIAS_FEED (06). -/
def Rg.RF_CFG.BIAS_FEED : Fld := ⟨0x0, 1, 1, .rw, 0x0, .val⟩
/-- RF_CFG.AUTO_RETRAIN (06). -/
def Rg.RF_CFG.AUTO_RETRAIN : Fld := ⟨0x0, 2, 1, .rw, 0x1, .val⟩
/-- RF_CFG.FE_MANUAL (06). -/
def Rg.RF_CFG.FE_MANUAL : Fld := ⟨0x0, 3, 1, .rw, 0x0, .val⟩
/-- RF_CFG.SPI_DIV (06). -/
def Rg.RF_CFG.SPI_DIV : Fld := ⟨0x0, 4, 8, .rw, 0x13, .val⟩
/-- RF_CFG.MAN_TRAIN (06). -/
def Rg.RF_CFG.MAN_TRAIN : Fld := ⟨0x0, 12, 1, .rw, 0x0, .val⟩

/-- RF_CTRL.RETRAIN (06). -/
def Rg.RF_CTRL.RETRAIN : Fld := ⟨0x8, 0, 1, .wo, 0x0, .val⟩
/-- RF_CTRL.LEARN (06). -/
def Rg.RF_CTRL.LEARN : Fld := ⟨0x8, 1, 1, .wo, 0x0, .val⟩

/-- RF_STAT.STATE (06). -/
def Rg.RF_STAT.STATE : Fld := ⟨0x10, 0, 3, .ro, 0x0, .val⟩
/-- RF_STAT.FAIL_CODE (06). -/
def Rg.RF_STAT.FAIL_CODE : Fld := ⟨0x10, 3, 3, .ro, 0x0, .val⟩
/-- RF_STAT.INV_I (06). -/
def Rg.RF_STAT.INV_I : Fld := ⟨0x10, 6, 1, .ro, 0x0, .val⟩
/-- RF_STAT.INV_Q (06). -/
def Rg.RF_STAT.INV_Q : Fld := ⟨0x10, 7, 1, .ro, 0x0, .val⟩
/-- RF_STAT.SWAP (06). -/
def Rg.RF_STAT.SWAP : Fld := ⟨0x10, 8, 1, .ro, 0x0, .val⟩
/-- RF_STAT.CLK_INV (06). -/
def Rg.RF_STAT.CLK_INV : Fld := ⟨0x10, 9, 1, .ro, 0x0, .val⟩
/-- RF_STAT.RATE_OK (06). -/
def Rg.RF_STAT.RATE_OK : Fld := ⟨0x10, 10, 1, .ro, 0x0, .val⟩
/-- RF_STAT.SLIP (06). -/
def Rg.RF_STAT.SLIP : Fld := ⟨0x10, 11, 3, .ro, 0x0, .val⟩

/-- RF_FE.VENDOR (06). -/
def Rg.RF_FE.VENDOR : Fld := ⟨0x18, 0, 16, .rw, 0x0, .val⟩
/-- RF_FE.PART (06). -/
def Rg.RF_FE.PART : Fld := ⟨0x18, 16, 16, .rw, 0x0, .val⟩
/-- RF_FE.BANDS (06). -/
def Rg.RF_FE.BANDS : Fld := ⟨0x18, 32, 4, .rw, 0x0, .val⟩
/-- RF_FE.FORMATS (06). -/
def Rg.RF_FE.FORMATS : Fld := ⟨0x18, 36, 2, .rw, 0x0, .val⟩
/-- RF_FE.MAX_RATE (06). -/
def Rg.RF_FE.MAX_RATE : Fld := ⟨0x18, 38, 8, .rw, 0x0, .val⟩

/-- RF_FE_FREQ.CENTRE (06). -/
def Rg.RF_FE_FREQ.CENTRE : Fld := ⟨0x20, 0, 32, .rw, 0x0, .val⟩
/-- RF_FE_FREQ.RATE (06). -/
def Rg.RF_FE_FREQ.RATE : Fld := ⟨0x20, 32, 24, .rw, 0x0, .val⟩
/-- RF_FE_FREQ.INVERT (06). -/
def Rg.RF_FE_FREQ.INVERT : Fld := ⟨0x20, 56, 1, .rw, 0x0, .val⟩

/-- RF_FE_DLY.GRP_DELAY (06). -/
def Rg.RF_FE_DLY.GRP_DELAY : Fld := ⟨0x28, 0, 16, .rw, 0x0, .val⟩
/-- RF_FE_DLY.CAL_DELAY (06). -/
def Rg.RF_FE_DLY.CAL_DELAY : Fld := ⟨0x28, 32, 32, .rw, 0x0, .val⟩

/-- RF_RATE.SPS (06). -/
def Rg.RF_RATE.SPS : Fld := ⟨0x30, 0, 32, .ro, 0x0, .val⟩

/-- RF_JAM.JI (06). -/
def Rg.RF_JAM.JI : Fld := ⟨0x38, 0, 8, .ro, 0x0, .val⟩
/-- RF_JAM.SFM (06). -/
def Rg.RF_JAM.SFM : Fld := ⟨0x38, 8, 8, .ro, 0x0, .val⟩
/-- RF_JAM.PREL (06). -/
def Rg.RF_JAM.PREL : Fld := ⟨0x38, 16, 8, .ro, 0x0, .val⟩
/-- RF_JAM.THR (06). -/
def Rg.RF_JAM.THR : Fld := ⟨0x38, 24, 8, .rw, 0x80, .val⟩

/-- RF_JAM_BASE.P0 (06). -/
def Rg.RF_JAM_BASE.P0 : Fld := ⟨0x40, 0, 16, .rw, 0x0, .val⟩
/-- RF_JAM_BASE.SFM0 (06). -/
def Rg.RF_JAM_BASE.SFM0 : Fld := ⟨0x40, 16, 8, .rw, 0xf7, .val⟩

/-- RF_BIAS.CURRENT (06). -/
def Rg.RF_BIAS.CURRENT : Fld := ⟨0x48, 0, 10, .ro, 0x0, .val⟩
/-- RF_BIAS.STATE (06). -/
def Rg.RF_BIAS.STATE : Fld := ⟨0x48, 10, 2, .ro, 0x0, .val⟩
/-- RF_BIAS.SHORT_MA (06). -/
def Rg.RF_BIAS.SHORT_MA : Fld := ⟨0x48, 12, 8, .rw, 0x64, .val⟩
/-- RF_BIAS.OPEN_MA (06). -/
def Rg.RF_BIAS.OPEN_MA : Fld := ⟨0x48, 20, 6, .rw, 0x5, .val⟩
/-- RF_BIAS.RETRY_S (06). -/
def Rg.RF_BIAS.RETRY_S : Fld := ⟨0x48, 26, 6, .rw, 0x5, .val⟩

/-- RF_NOTCH.MODE (06). -/
def Rg.RF_NOTCH.MODE : Fld := ⟨0x80, 0, 2, .rw, 0x0, .val⟩
/-- RF_NOTCH.RSHIFT (06). -/
def Rg.RF_NOTCH.RSHIFT : Fld := ⟨0x80, 2, 4, .rw, 0x8, .val⟩
/-- RF_NOTCH.MU (06). -/
def Rg.RF_NOTCH.MU : Fld := ⟨0x80, 6, 4, .rw, 0xa, .val⟩
/-- RF_NOTCH.ENGAGED (06). -/
def Rg.RF_NOTCH.ENGAGED : Fld := ⟨0x80, 10, 1, .ro, 0x0, .val⟩
/-- RF_NOTCH.CENTRE (06). -/
def Rg.RF_NOTCH.CENTRE : Fld := ⟨0x80, 16, 24, .rw, 0x0, .val⟩

/-- RF_NOTCH_CFG.DET_THR (06). -/
def Rg.RF_NOTCH_CFG.DET_THR : Fld := ⟨0xa0, 0, 8, .rw, 0xc, .val⟩

/-- RF_EVT.FAIL (06). -/
def Rg.RF_EVT.FAIL : Fld := ⟨0xc0, 0, 1, .w1c, 0x0, .val⟩
/-- RF_EVT.RATE_ERR (06). -/
def Rg.RF_EVT.RATE_ERR : Fld := ⟨0xc0, 1, 1, .w1c, 0x0, .val⟩
/-- RF_EVT.JAM (06). -/
def Rg.RF_EVT.JAM : Fld := ⟨0xc0, 2, 1, .w1c, 0x0, .val⟩
/-- RF_EVT.NOTCH_FULL (06). -/
def Rg.RF_EVT.NOTCH_FULL : Fld := ⟨0xc0, 3, 1, .w1c, 0x0, .val⟩
/-- RF_EVT.NOTCH_IGN (06). -/
def Rg.RF_EVT.NOTCH_IGN : Fld := ⟨0xc0, 4, 1, .w1c, 0x0, .val⟩
/-- RF_EVT.BIAS_SHORT (06). -/
def Rg.RF_EVT.BIAS_SHORT : Fld := ⟨0xc0, 5, 1, .w1c, 0x0, .val⟩
/-- RF_EVT.BIAS_OPEN (06). -/
def Rg.RF_EVT.BIAS_OPEN : Fld := ⟨0xc0, 6, 1, .w1c, 0x0, .val⟩

/-- AQ_REQ.PORT (06). -/
def Rg.AQ_REQ.PORT : Fld := ⟨0x1000, 0, 3, .rw, 0x0, .val⟩
/-- AQ_REQ.SIGNAL (06). -/
def Rg.AQ_REQ.SIGNAL : Fld := ⟨0x1000, 3, 5, .rw, 0x0, .val⟩
/-- AQ_REQ.SVID (06). -/
def Rg.AQ_REQ.SVID : Fld := ⟨0x1000, 8, 8, .rw, 0x0, .val⟩
/-- AQ_REQ.K7 (06). -/
def Rg.AQ_REQ.K7 : Fld := ⟨0x1000, 16, 4, .rw, 0x0, .val⟩
/-- AQ_REQ.NC (06). -/
def Rg.AQ_REQ.NC : Fld := ⟨0x1000, 20, 7, .rw, 0x8, .val⟩
/-- AQ_REQ.AUTO_CH (06). -/
def Rg.AQ_REQ.AUTO_CH : Fld := ⟨0x1000, 27, 1, .rw, 0x0, .val⟩
/-- AQ_REQ.CH (06). -/
def Rg.AQ_REQ.CH : Fld := ⟨0x1000, 28, 9, .rw, 0x0, .val⟩

/-- AQ_DOP.CENTRE (06). -/
def Rg.AQ_DOP.CENTRE : Fld := ⟨0x1008, 0, 17, .rw, 0x0, .val⟩
/-- AQ_DOP.HALF (06). -/
def Rg.AQ_DOP.HALF : Fld := ⟨0x1008, 32, 16, .rw, 0x1388, .val⟩
/-- AQ_DOP.THR (06). -/
def Rg.AQ_DOP.THR : Fld := ⟨0x1008, 48, 16, .rw, 0x96, .val⟩

/-- AQ_CTRL.GO (06). -/
def Rg.AQ_CTRL.GO : Fld := ⟨0x1010, 0, 1, .wo, 0x0, .val⟩
/-- AQ_CTRL.ABORT (06). -/
def Rg.AQ_CTRL.ABORT : Fld := ⟨0x1010, 1, 1, .wo, 0x0, .val⟩
/-- AQ_CTRL.BUSY (06). -/
def Rg.AQ_CTRL.BUSY : Fld := ⟨0x1010, 2, 1, .ro, 0x0, .val⟩
/-- AQ_CTRL.DONE (06). -/
def Rg.AQ_CTRL.DONE : Fld := ⟨0x1010, 3, 1, .w1c, 0x0, .val⟩
/-- AQ_CTRL.RESULT (06). -/
def Rg.AQ_CTRL.RESULT : Fld := ⟨0x1010, 4, 3, .ro, 0x0, .val⟩

/-- AQ_RES.CODE (06). -/
def Rg.AQ_RES.CODE : Fld := ⟨0x1018, 0, 17, .ro, 0x0, .val⟩
/-- AQ_RES.DOP (06). -/
def Rg.AQ_RES.DOP : Fld := ⟨0x1018, 32, 20, .ro, 0x0, .val⟩

/-- AQ_RES2.PNR (06). -/
def Rg.AQ_RES2.PNR : Fld := ⟨0x1020, 0, 16, .ro, 0x0, .val⟩
/-- AQ_RES2.CN0 (06). -/
def Rg.AQ_RES2.CN0 : Fld := ⟨0x1020, 16, 16, .ro, 0x0, .val⟩

/-- AQ_TS.TS (06). -/
def Rg.AQ_TS.TS : Fld := ⟨0x1028, 0, 64, .ro, 0x0, .val⟩

/-- AQ_EVT.BUSY (06). -/
def Rg.AQ_EVT.BUSY : Fld := ⟨0x1030, 0, 1, .w1c, 0x0, .val⟩
/-- AQ_EVT.HALF_CLAMP (06). -/
def Rg.AQ_EVT.HALF_CLAMP : Fld := ⟨0x1030, 1, 1, .w1c, 0x0, .val⟩

/-- CH_CFG.PORT (06). -/
def Rg.CH_CFG.PORT : Fld := ⟨0x1000, 0, 3, .rw, 0x0, .val⟩
/-- CH_CFG.SIGNAL (06). -/
def Rg.CH_CFG.SIGNAL : Fld := ⟨0x1000, 3, 5, .rw, 0x0, .val⟩
/-- CH_CFG.SVID (06). -/
def Rg.CH_CFG.SVID : Fld := ⟨0x1000, 8, 8, .rw, 0x0, .val⟩
/-- CH_CFG.K7 (06). -/
def Rg.CH_CFG.K7 : Fld := ⟨0x1000, 16, 4, .rw, 0x0, .val⟩
/-- CH_CFG.T_INT (06). -/
def Rg.CH_CFG.T_INT : Fld := ⟨0x1000, 20, 5, .rw, 0x1, .val⟩
/-- CH_CFG.EL_SP (06). -/
def Rg.CH_CFG.EL_SP : Fld := ⟨0x1000, 25, 7, .rw, 0xa, .val⟩
/-- CH_CFG.PLL_BW (06). -/
def Rg.CH_CFG.PLL_BW : Fld := ⟨0x1000, 32, 10, .rw, 0x64, .val⟩
/-- CH_CFG.DLL_BW (06). -/
def Rg.CH_CFG.DLL_BW : Fld := ⟨0x1000, 42, 10, .rw, 0xa, .val⟩
/-- CH_CFG.MP_OFS (06). -/
def Rg.CH_CFG.MP_OFS : Fld := ⟨0x1000, 52, 7, .rw, 0x19, .val⟩

/-- CH_CTRL.EN (06). -/
def Rg.CH_CTRL.EN : Fld := ⟨0x1008, 0, 1, .rw, 0x0, .val⟩
/-- CH_CTRL.CN0_MIN (06). -/
def Rg.CH_CTRL.CN0_MIN : Fld := ⟨0x1008, 1, 8, .rw, 0x19, .val⟩
/-- CH_CTRL.REACQ_MAX (06). -/
def Rg.CH_CTRL.REACQ_MAX : Fld := ⟨0x1008, 9, 7, .rw, 0x14, .val⟩

/-- CH_AID.CODE (06). -/
def Rg.CH_AID.CODE : Fld := ⟨0x1010, 0, 32, .rw, 0x0, .val⟩
/-- CH_AID.DOP (06). -/
def Rg.CH_AID.DOP : Fld := ⟨0x1010, 32, 20, .rw, 0x0, .val⟩

/-- CH_AID_AT.AT (06). -/
def Rg.CH_AID_AT.AT : Fld := ⟨0x1018, 0, 64, .rw, 0x0, .val⟩

/-- CH_STAT.STATE (06). -/
def Rg.CH_STAT.STATE : Fld := ⟨0x1020, 0, 3, .ro, 0x0, .val⟩
/-- CH_STAT.REFUSE (06). -/
def Rg.CH_STAT.REFUSE : Fld := ⟨0x1020, 3, 3, .ro, 0x0, .val⟩
/-- CH_STAT.AMBIG (06). -/
def Rg.CH_STAT.AMBIG : Fld := ⟨0x1020, 6, 1, .ro, 0x0, .val⟩
/-- CH_STAT.HALF_CYCLE (06). -/
def Rg.CH_STAT.HALF_CYCLE : Fld := ⟨0x1020, 7, 1, .ro, 0x0, .val⟩
/-- CH_STAT.PLI (06). -/
def Rg.CH_STAT.PLI : Fld := ⟨0x1020, 8, 8, .ro, 0x0, .val⟩
/-- CH_STAT.CN0 (06). -/
def Rg.CH_STAT.CN0 : Fld := ⟨0x1020, 16, 16, .ro, 0x0, .val⟩

/-- CH_EVT.LOST (06). -/
def Rg.CH_EVT.LOST : Fld := ⟨0x1028, 0, 1, .w1c, 0x0, .val⟩
/-- CH_EVT.SLIP (06). -/
def Rg.CH_EVT.SLIP : Fld := ⟨0x1028, 1, 1, .w1c, 0x0, .val⟩
/-- CH_EVT.PORT_OFF (06). -/
def Rg.CH_EVT.PORT_OFF : Fld := ⟨0x1028, 2, 1, .w1c, 0x0, .val⟩
/-- CH_EVT.AID_IGN (06). -/
def Rg.CH_EVT.AID_IGN : Fld := ⟨0x1028, 3, 1, .w1c, 0x0, .val⟩
/-- CH_EVT.CFG_LOCKED (06). -/
def Rg.CH_EVT.CFG_LOCKED : Fld := ⟨0x1028, 4, 1, .w1c, 0x0, .val⟩

/-! ### 07_reference_station.md -/

/-- OB_ID.VERSION (07). -/
def Rg.OB_ID.VERSION : Fld := ⟨0x0, 0, 16, .ro, 0x100, .val⟩
/-- OB_ID.INSTANCE (07). -/
def Rg.OB_ID.INSTANCE : Fld := ⟨0x0, 16, 1, .ro, 0x0, .inst⟩
/-- OB_ID.LANES (07). -/
def Rg.OB_ID.LANES : Fld := ⟨0x0, 17, 8, .ro, 0x0, .img⟩

/-- OB_CFG.ENCODER (07). -/
def Rg.OB_CFG.ENCODER : Fld := ⟨0x8, 0, 1, .rwl, 0x0, .img⟩
/-- OB_CFG.REF_ANT (07). -/
def Rg.OB_CFG.REF_ANT : Fld := ⟨0x8, 1, 1, .rwl, 0x0, .img⟩
/-- OB_CFG.RATE (07). -/
def Rg.OB_CFG.RATE : Fld := ⟨0x8, 2, 3, .rw, 0x0, .img⟩
/-- OB_CFG.ELEV_MASK (07). -/
def Rg.OB_CFG.ELEV_MASK : Fld := ⟨0x8, 5, 7, .rw, 0x5, .val⟩
/-- OB_CFG.CLOSE (07). -/
def Rg.OB_CFG.CLOSE : Fld := ⟨0x8, 12, 10, .rw, 0x190, .val⟩
/-- OB_CFG.LOCK (07). -/
def Rg.OB_CFG.LOCK : Fld := ⟨0x8, 22, 1, .w1s, 0x0, .val⟩
/-- OB_CFG.LOCK_VIOL (07). -/
def Rg.OB_CFG.LOCK_VIOL : Fld := ⟨0x8, 23, 1, .w1c, 0x0, .val⟩
/-- OB_CFG.CNT_CLR (07). -/
def Rg.OB_CFG.CNT_CLR : Fld := ⟨0x8, 24, 1, .wo, 0x0, .val⟩

/-- OB_SV.MODE (07). -/
def Rg.OB_SV.MODE : Fld := ⟨0x10, 0, 2, .rw, 0x0, .val⟩
/-- OB_SV.START (07). -/
def Rg.OB_SV.START : Fld := ⟨0x10, 2, 1, .wo, 0x0, .val⟩
/-- OB_SV.DUR (07). -/
def Rg.OB_SV.DUR : Fld := ⟨0x10, 3, 18, .rw, 0xe10, .val⟩
/-- OB_SV.ACC (07). -/
def Rg.OB_SV.ACC : Fld := ⟨0x10, 32, 16, .rw, 0x0, .val⟩
/-- OB_SV.CHK (07). -/
def Rg.OB_SV.CHK : Fld := ⟨0x10, 48, 16, .rw, 0x1e, .val⟩

/-- OB_SV_STAT.STATE (07). -/
def Rg.OB_SV_STAT.STATE : Fld := ⟨0x18, 0, 3, .ro, 0x0, .val⟩
/-- OB_SV_STAT.ACC_MISS (07). -/
def Rg.OB_SV_STAT.ACC_MISS : Fld := ⟨0x18, 3, 1, .ro, 0x0, .val⟩
/-- OB_SV_STAT.BASE_STATE (07). -/
def Rg.OB_SV_STAT.BASE_STATE : Fld := ⟨0x18, 4, 2, .ro, 0x0, .val⟩
/-- OB_SV_STAT.IODS (07). -/
def Rg.OB_SV_STAT.IODS : Fld := ⟨0x18, 6, 3, .ro, 0x0, .val⟩
/-- OB_SV_STAT.EPOCHS (07). -/
def Rg.OB_SV_STAT.EPOCHS : Fld := ⟨0x18, 16, 16, .ro, 0x0, .val⟩
/-- OB_SV_STAT.ELAPSED (07). -/
def Rg.OB_SV_STAT.ELAPSED : Fld := ⟨0x18, 32, 32, .ro, 0x0, .val⟩

/-- OB_POSX.MM (07). -/
def Rg.OB_POSX.MM : Fld := ⟨0x20, 0, 64, .rw, 0x0, .val⟩

/-- OB_POSY.MM (07). -/
def Rg.OB_POSY.MM : Fld := ⟨0x28, 0, 64, .rw, 0x0, .val⟩

/-- OB_POSZ.MM (07). -/
def Rg.OB_POSZ.MM : Fld := ⟨0x30, 0, 64, .rw, 0x0, .val⟩

/-- OB_POS_UNC.SIGMA (07). -/
def Rg.OB_POS_UNC.SIGMA : Fld := ⟨0x38, 0, 16, .rw, 0xffff, .val⟩
/-- OB_POS_UNC.SOURCE (07). -/
def Rg.OB_POS_UNC.SOURCE : Fld := ⟨0x38, 16, 2, .ro, 0x0, .val⟩

/-- OB_STN.STATION_ID (07). -/
def Rg.OB_STN.STATION_ID : Fld := ⟨0x40, 0, 12, .rw, 0x0, .img⟩
/-- OB_STN.ANT_H (07). -/
def Rg.OB_STN.ANT_H : Fld := ⟨0x40, 12, 16, .rw, 0x0, .val⟩

/-- OB_BASE.E (07). -/
def Rg.OB_BASE.E : Fld := ⟨0x48, 0, 21, .rw, 0x0, .val⟩
/-- OB_BASE.N (07). -/
def Rg.OB_BASE.N : Fld := ⟨0x48, 21, 21, .rw, 0x0, .val⟩
/-- OB_BASE.U (07). -/
def Rg.OB_BASE.U : Fld := ⟨0x48, 42, 21, .rw, 0x0, .val⟩

/-- OB_INT.MON_EN (07). -/
def Rg.OB_INT.MON_EN : Fld := ⟨0x50, 0, 1, .rw, 0x1, .val⟩
/-- OB_INT.LATCH (07). -/
def Rg.OB_INT.LATCH : Fld := ⟨0x50, 1, 1, .rw, 0x0, .val⟩
/-- OB_INT.CLEAR (07). -/
def Rg.OB_INT.CLEAR : Fld := ⟨0x50, 2, 1, .wo, 0x0, .val⟩
/-- OB_INT.THR (07). -/
def Rg.OB_INT.THR : Fld := ⟨0x50, 3, 10, .rw, 0xf, .val⟩
/-- OB_INT.FLAG_N (07). -/
def Rg.OB_INT.FLAG_N : Fld := ⟨0x50, 13, 4, .rw, 0x3, .val⟩
/-- OB_INT.WH_N (07). -/
def Rg.OB_INT.WH_N : Fld := ⟨0x50, 17, 8, .rw, 0x14, .val⟩
/-- OB_INT.OK_N (07). -/
def Rg.OB_INT.OK_N : Fld := ⟨0x50, 25, 7, .rw, 0x1e, .val⟩

/-- OB_INT2.UNMON_S (07). -/
def Rg.OB_INT2.UNMON_S : Fld := ⟨0x58, 0, 16, .rw, 0x0, .val⟩

/-- OB_HO.TERR_MAX (07). -/
def Rg.OB_HO.TERR_MAX : Fld := ⟨0x60, 0, 16, .rw, 0x64, .val⟩
/-- OB_HO.MAX_S (07). -/
def Rg.OB_HO.MAX_S : Fld := ⟨0x60, 16, 16, .rw, 0x258, .val⟩

/-- OB_INT_STAT.STATE (07). -/
def Rg.OB_INT_STAT.STATE : Fld := ⟨0x68, 0, 3, .ro, 0x0, .val⟩
/-- OB_INT_STAT.CAUSE (07). -/
def Rg.OB_INT_STAT.CAUSE : Fld := ⟨0x68, 3, 8, .ro, 0x28, .val⟩
/-- OB_INT_STAT.COMMON (07). -/
def Rg.OB_INT_STAT.COMMON : Fld := ⟨0x68, 11, 5, .ro, 0x0, .val⟩
/-- OB_INT_STAT.DEV (07). -/
def Rg.OB_INT_STAT.DEV : Fld := ⟨0x68, 16, 16, .ro, 0x0, .val⟩

/-- OB_MSG.MSM4 (07). -/
def Rg.OB_MSG.MSM4 : Fld := ⟨0x70, 0, 5, .rw, 0x0, .val⟩
/-- OB_MSG.MSM7 (07). -/
def Rg.OB_MSG.MSM7 : Fld := ⟨0x70, 5, 5, .rw, 0x0, .val⟩
/-- OB_MSG.MSM_DIV (07). -/
def Rg.OB_MSG.MSM_DIV : Fld := ⟨0x70, 10, 4, .rw, 0x1, .val⟩
/-- OB_MSG.BDS3_EN (07). -/
def Rg.OB_MSG.BDS3_EN : Fld := ⟨0x70, 14, 1, .rw, 0x0, .val⟩
/-- OB_MSG.P1005 (07). -/
def Rg.OB_MSG.P1005 : Fld := ⟨0x70, 16, 6, .rw, 0x0, .val⟩
/-- OB_MSG.P1006 (07). -/
def Rg.OB_MSG.P1006 : Fld := ⟨0x70, 22, 6, .rw, 0x0, .val⟩
/-- OB_MSG.P1033 (07). -/
def Rg.OB_MSG.P1033 : Fld := ⟨0x70, 28, 6, .rw, 0x0, .val⟩
/-- OB_MSG.P1008 (07). -/
def Rg.OB_MSG.P1008 : Fld := ⟨0x70, 34, 6, .rw, 0x0, .val⟩
/-- OB_MSG.P1230 (07). -/
def Rg.OB_MSG.P1230 : Fld := ⟨0x70, 40, 6, .rw, 0x0, .val⟩
/-- OB_MSG.STATUS_NUM (07). -/
def Rg.OB_MSG.STATUS_NUM : Fld := ⟨0x70, 46, 12, .rw, 0x0, .val⟩
/-- OB_MSG.P_STATUS (07). -/
def Rg.OB_MSG.P_STATUS : Fld := ⟨0x70, 58, 6, .rw, 0x0, .val⟩

/-- OB_GLO.L1CA (07). -/
def Rg.OB_GLO.L1CA : Fld := ⟨0x78, 0, 16, .rw, 0x0, .val⟩
/-- OB_GLO.L2CA (07). -/
def Rg.OB_GLO.L2CA : Fld := ⟨0x78, 16, 16, .rw, 0x0, .val⟩
/-- OB_GLO.ALIGNED (07). -/
def Rg.OB_GLO.ALIGNED : Fld := ⟨0x78, 32, 1, .rw, 0x0, .val⟩

/-- OB_OUT.EN (07). -/
def Rg.OB_OUT.EN : Fld := ⟨0x80, 0, 1, .rw, 0x0, .val⟩
/-- OB_OUT.DST (07). -/
def Rg.OB_OUT.DST : Fld := ⟨0x80, 1, 7, .rw, 0x0, .val⟩
/-- OB_OUT.CLASS (07). -/
def Rg.OB_OUT.CLASS : Fld := ⟨0x80, 8, 4, .rw, 0x0, .val⟩
/-- OB_OUT.FLOW (07). -/
def Rg.OB_OUT.FLOW : Fld := ⟨0x80, 12, 13, .rw, 0x0, .val⟩
/-- OB_OUT.STATUS (07). -/
def Rg.OB_OUT.STATUS : Fld := ⟨0x80, 25, 2, .ro, 0x0, .val⟩

/-- OB_SIDC.E (07). -/
def Rg.OB_SIDC.E : Fld := ⟨0xa0, 0, 32, .rw, 0x0, .val⟩
/-- OB_SIDC.N (07). -/
def Rg.OB_SIDC.N : Fld := ⟨0xa0, 32, 32, .rw, 0x0, .val⟩

/-- OB_SIDC_U.U (07). -/
def Rg.OB_SIDC_U.U : Fld := ⟨0xa8, 0, 32, .rw, 0x0, .val⟩
/-- OB_SIDC_U.EN (07). -/
def Rg.OB_SIDC_U.EN : Fld := ⟨0xa8, 32, 1, .rw, 0x0, .val⟩

/-- OB_RESID.E (07). -/
def Rg.OB_RESID.E : Fld := ⟨0xb0, 0, 32, .ro, 0x0, .val⟩
/-- OB_RESID.N (07). -/
def Rg.OB_RESID.N : Fld := ⟨0xb0, 32, 32, .ro, 0x0, .val⟩

/-- OB_RESID_U.U (07). -/
def Rg.OB_RESID_U.U : Fld := ⟨0xb8, 0, 32, .ro, 0x0, .val⟩

/-- OB_PCV.MAP (07). -/
def Rg.OB_PCV.MAP : Fld := ⟨0xc0, 0, 64, .rw, 0x0, .val⟩

/-- OB_TSOL.OFFSET (07). -/
def Rg.OB_TSOL.OFFSET : Fld := ⟨0xc8, 0, 40, .ro, 0x0, .val⟩
/-- OB_TSOL.NSAT (07). -/
def Rg.OB_TSOL.NSAT : Fld := ⟨0xc8, 40, 8, .ro, 0x0, .val⟩
/-- OB_TSOL.VALID (07). -/
def Rg.OB_TSOL.VALID : Fld := ⟨0xc8, 48, 1, .ro, 0x0, .val⟩

/-- OB_TSOL_AT.AT (07). -/
def Rg.OB_TSOL_AT.AT : Fld := ⟨0xd0, 0, 64, .ro, 0x0, .val⟩

/-- OB_CNT.OFFGRID (07). -/
def Rg.OB_CNT.OFFGRID : Fld := ⟨0xe0, 0, 16, .ro, 0x0, .val⟩
/-- OB_CNT.LATE (07). -/
def Rg.OB_CNT.LATE : Fld := ⟨0xe0, 16, 16, .ro, 0x0, .val⟩
/-- OB_CNT.CTX_FULL (07). -/
def Rg.OB_CNT.CTX_FULL : Fld := ⟨0xe0, 32, 16, .ro, 0x0, .val⟩
/-- OB_CNT.EXCLUDED (07). -/
def Rg.OB_CNT.EXCLUDED : Fld := ⟨0xe0, 48, 16, .ro, 0x0, .val⟩

/-- OB_CNT2.OUT_DROP (07). -/
def Rg.OB_CNT2.OUT_DROP : Fld := ⟨0xe8, 0, 16, .ro, 0x0, .val⟩
/-- OB_CNT2.PCV_ERR (07). -/
def Rg.OB_CNT2.PCV_ERR : Fld := ⟨0xe8, 16, 16, .ro, 0x0, .val⟩
/-- OB_CNT2.DUP (07). -/
def Rg.OB_CNT2.DUP : Fld := ⟨0xe8, 32, 16, .ro, 0x0, .val⟩

/-- OB_LAT.LAST (07). -/
def Rg.OB_LAT.LAST : Fld := ⟨0xf0, 0, 16, .ro, 0x0, .val⟩
/-- OB_LAT.MAX (07). -/
def Rg.OB_LAT.MAX : Fld := ⟨0xf0, 16, 16, .ro, 0x0, .val⟩

/-- OB_EVT.SURVEY_DONE (07). -/
def Rg.OB_EVT.SURVEY_DONE : Fld := ⟨0xf8, 0, 1, .w1c, 0x0, .val⟩
/-- OB_EVT.ACC_MISS (07). -/
def Rg.OB_EVT.ACC_MISS : Fld := ⟨0xf8, 1, 1, .w1c, 0x0, .val⟩
/-- OB_EVT.CHECK_FAIL (07). -/
def Rg.OB_EVT.CHECK_FAIL : Fld := ⟨0xf8, 2, 1, .w1c, 0x0, .val⟩
/-- OB_EVT.INT_CHG (07). -/
def Rg.OB_EVT.INT_CHG : Fld := ⟨0xf8, 3, 1, .w1c, 0x0, .val⟩
/-- OB_EVT.WITHHELD (07). -/
def Rg.OB_EVT.WITHHELD : Fld := ⟨0xf8, 4, 1, .w1c, 0x0, .val⟩
/-- OB_EVT.LATE_EPOCH (07). -/
def Rg.OB_EVT.LATE_EPOCH : Fld := ⟨0xf8, 5, 1, .w1c, 0x0, .val⟩
/-- OB_EVT.OUT_DROP (07). -/
def Rg.OB_EVT.OUT_DROP : Fld := ⟨0xf8, 6, 1, .w1c, 0x0, .val⟩
/-- OB_EVT.ROLE (07). -/
def Rg.OB_EVT.ROLE : Fld := ⟨0xf8, 7, 1, .w1c, 0x0, .val⟩
/-- OB_EVT.CTX_FULL (07). -/
def Rg.OB_EVT.CTX_FULL : Fld := ⟨0xf8, 8, 1, .w1c, 0x0, .val⟩

/-- OB_CTX.VALID (07). -/
def Rg.OB_CTX.VALID : Fld := ⟨0x1000, 0, 1, .ro, 0x0, .val⟩
/-- OB_CTX.SIGNAL (07). -/
def Rg.OB_CTX.SIGNAL : Fld := ⟨0x1000, 1, 5, .ro, 0x0, .val⟩
/-- OB_CTX.SVID (07). -/
def Rg.OB_CTX.SVID : Fld := ⟨0x1000, 6, 8, .ro, 0x0, .val⟩
/-- OB_CTX.CH_A (07). -/
def Rg.OB_CTX.CH_A : Fld := ⟨0x1000, 14, 9, .ro, 0x0, .val⟩
/-- OB_CTX.CH_B (07). -/
def Rg.OB_CTX.CH_B : Fld := ⟨0x1000, 23, 9, .ro, 0x0, .val⟩
/-- OB_CTX.AZ (07). -/
def Rg.OB_CTX.AZ : Fld := ⟨0x1000, 32, 16, .ro, 0x0, .val⟩
/-- OB_CTX.EL (07). -/
def Rg.OB_CTX.EL : Fld := ⟨0x1000, 48, 16, .ro, 0x0, .val⟩

/-! ### 08_waveform_filters.md -/

/-- WV_ID.VERSION (08). -/
def Rg.WV_ID.VERSION : Fld := ⟨0x0, 0, 16, .ro, 0x100, .val⟩

/-- WV_MCLK_STAT.ON (08). -/
def Rg.WV_MCLK_STAT.ON : Fld := ⟨0x8, 0, 8, .ro, 0x0, .val⟩
/-- WV_MCLK_STAT.CONTEND (08). -/
def Rg.WV_MCLK_STAT.CONTEND : Fld := ⟨0x8, 8, 8, .ro, 0x0, .val⟩

/-- WV_EVT.CHG (08). -/
def Rg.WV_EVT.CHG : Fld := ⟨0x10, 0, 64, .w1c, 0x0, .val⟩

/-- WV_IN_CFG.SAMPLE_DLY (08). -/
def Rg.WV_IN_CFG.SAMPLE_DLY : Fld := ⟨0x100, 0, 5, .rw, 0x0, .val⟩
/-- WV_IN_CFG.EDGE (08). -/
def Rg.WV_IN_CFG.EDGE : Fld := ⟨0x100, 5, 1, .rw, 0x0, .val⟩
/-- WV_IN_CFG.EXT_DLY (08). -/
def Rg.WV_IN_CFG.EXT_DLY : Fld := ⟨0x100, 16, 16, .rw, 0x0, .val⟩

/-- WV_IN_STAT.STATE (08). -/
def Rg.WV_IN_STAT.STATE : Fld := ⟨0x108, 0, 3, .ro, 0x0, .val⟩
/-- WV_IN_STAT.DENSITY (08). -/
def Rg.WV_IN_STAT.DENSITY : Fld := ⟨0x108, 8, 8, .ro, 0x0, .val⟩

/-- FL_CFG.R (08). -/
def Rg.FL_CFG.R : Fld := ⟨0x1000, 0, 11, .rw, 0x40, .val⟩
/-- FL_CFG.HB1 (08). -/
def Rg.FL_CFG.HB1 : Fld := ⟨0x1000, 11, 1, .rw, 0x1, .val⟩
/-- FL_CFG.HB2 (08). -/
def Rg.FL_CFG.HB2 : Fld := ⟨0x1000, 12, 1, .rw, 0x1, .val⟩
/-- FL_CFG.DEC (08). -/
def Rg.FL_CFG.DEC : Fld := ⟨0x1000, 13, 4, .rw, 0x0, .val⟩
/-- FL_CFG.TAPS (08). -/
def Rg.FL_CFG.TAPS : Fld := ⟨0x1000, 17, 7, .rw, 0x7f, .val⟩
/-- FL_CFG.BATCH (08). -/
def Rg.FL_CFG.BATCH : Fld := ⟨0x1000, 24, 3, .rw, 0x0, .val⟩
/-- FL_CFG.COMP_GD (08). -/
def Rg.FL_CFG.COMP_GD : Fld := ⟨0x1000, 27, 1, .rw, 0x1, .val⟩
/-- FL_CFG.FAST_EN (08). -/
def Rg.FL_CFG.FAST_EN : Fld := ⟨0x1000, 28, 1, .rw, 0x1, .val⟩
/-- FL_CFG.FAST_DEC (08). -/
def Rg.FL_CFG.FAST_DEC : Fld := ⟨0x1000, 29, 4, .rw, 0x0, .val⟩
/-- FL_CFG.FINE_ROUTE (08). -/
def Rg.FL_CFG.FINE_ROUTE : Fld := ⟨0x1000, 33, 8, .rw, 0x0, .val⟩
/-- FL_CFG.FAST_ROUTE (08). -/
def Rg.FL_CFG.FAST_ROUTE : Fld := ⟨0x1000, 41, 8, .rw, 0x0, .val⟩
/-- FL_CFG.THR_ROUTE (08). -/
def Rg.FL_CFG.THR_ROUTE : Fld := ⟨0x1000, 49, 8, .rw, 0x0, .val⟩

/-- FL_CTRL.EN (08). -/
def Rg.FL_CTRL.EN : Fld := ⟨0x1008, 0, 1, .rw, 0x0, .val⟩
/-- FL_CTRL.SRC (08). -/
def Rg.FL_CTRL.SRC : Fld := ⟨0x1008, 1, 3, .rw, 0x0, .lane⟩
/-- FL_CTRL.SWAP (08). -/
def Rg.FL_CTRL.SWAP : Fld := ⟨0x1008, 4, 1, .wo, 0x0, .val⟩
/-- FL_CTRL.FADE (08). -/
def Rg.FL_CTRL.FADE : Fld := ⟨0x1008, 5, 11, .wo, 0x0, .val⟩
/-- FL_CTRL.CNT_CLR (08). -/
def Rg.FL_CTRL.CNT_CLR : Fld := ⟨0x1008, 16, 1, .wo, 0x0, .val⟩

/-- FL_STAT.RUN (08). -/
def Rg.FL_STAT.RUN : Fld := ⟨0x1010, 0, 1, .ro, 0x0, .val⟩
/-- FL_STAT.REFUSE (08). -/
def Rg.FL_STAT.REFUSE : Fld := ⟨0x1010, 1, 3, .ro, 0x0, .val⟩
/-- FL_STAT.ACTIVE (08). -/
def Rg.FL_STAT.ACTIVE : Fld := ⟨0x1010, 4, 1, .ro, 0x0, .val⟩
/-- FL_STAT.FADING (08). -/
def Rg.FL_STAT.FADING : Fld := ⟨0x1010, 5, 1, .ro, 0x0, .val⟩
/-- FL_STAT.QUEUED (08). -/
def Rg.FL_STAT.QUEUED : Fld := ⟨0x1010, 6, 1, .ro, 0x0, .val⟩
/-- FL_STAT.FAST_OK (08). -/
def Rg.FL_STAT.FAST_OK : Fld := ⟨0x1010, 7, 1, .ro, 0x0, .val⟩
/-- FL_STAT.ALIGNED (08). -/
def Rg.FL_STAT.ALIGNED : Fld := ⟨0x1010, 8, 1, .ro, 0x0, .val⟩
/-- FL_STAT.FINE_UNSET (08). -/
def Rg.FL_STAT.FINE_UNSET : Fld := ⟨0x1010, 9, 1, .ro, 0x0, .val⟩
/-- FL_STAT.FAST_UNSET (08). -/
def Rg.FL_STAT.FAST_UNSET : Fld := ⟨0x1010, 10, 1, .ro, 0x0, .val⟩
/-- FL_STAT.FAULT (08). -/
def Rg.FL_STAT.FAULT : Fld := ⟨0x1010, 11, 1, .ro, 0x0, .val⟩
/-- FL_STAT.THR_ACTIVE (08). -/
def Rg.FL_STAT.THR_ACTIVE : Fld := ⟨0x1010, 12, 2, .ro, 0x0, .val⟩

/-- FL_CIC.NORM (08). -/
def Rg.FL_CIC.NORM : Fld := ⟨0x1018, 0, 24, .ro, 0x400000, .val⟩
/-- FL_CIC.B (08). -/
def Rg.FL_CIC.B : Fld := ⟨0x1018, 24, 6, .ro, 0x0, .val⟩

/-- FL_GD.GD (08). -/
def Rg.FL_GD.GD : Fld := ⟨0x1020, 0, 32, .ro, 0x0, .val⟩

/-- FL_SETTLE.FAST (08). -/
def Rg.FL_SETTLE.FAST : Fld := ⟨0x1028, 0, 32, .ro, 0x0, .val⟩
/-- FL_SETTLE.FINE (08). -/
def Rg.FL_SETTLE.FINE : Fld := ⟨0x1028, 32, 32, .ro, 0x0, .val⟩

/-- FL_BANK.LIN_A (08). -/
def Rg.FL_BANK.LIN_A : Fld := ⟨0x1030, 0, 1, .rw, 0x1, .val⟩
/-- FL_BANK.LIN_B (08). -/
def Rg.FL_BANK.LIN_B : Fld := ⟨0x1030, 1, 1, .rw, 0x1, .val⟩
/-- FL_BANK.GD_A (08). -/
def Rg.FL_BANK.GD_A : Fld := ⟨0x1030, 16, 16, .rw, 0x0, .val⟩
/-- FL_BANK.GD_B (08). -/
def Rg.FL_BANK.GD_B : Fld := ⟨0x1030, 32, 16, .rw, 0x0, .val⟩

/-- FL_TH.EN (08). -/
def Rg.FL_TH.EN : Fld := ⟨0x1040, 0, 1, .rw, 0x0, .val⟩
/-- FL_TH.PATH (08). -/
def Rg.FL_TH.PATH : Fld := ⟨0x1040, 1, 1, .rw, 0x0, .val⟩
/-- FL_TH.KIND (08). -/
def Rg.FL_TH.KIND : Fld := ⟨0x1040, 2, 2, .rw, 0x0, .val⟩
/-- FL_TH.DWELL (08). -/
def Rg.FL_TH.DWELL : Fld := ⟨0x1040, 4, 8, .rw, 0x1, .val⟩
/-- FL_TH.RATE_W (08). -/
def Rg.FL_TH.RATE_W : Fld := ⟨0x1040, 12, 8, .rw, 0x1, .val⟩
/-- FL_TH.LEVEL (08). -/
def Rg.FL_TH.LEVEL : Fld := ⟨0x1040, 32, 32, .rw, 0x0, .val⟩

/-- FL_THH.HYST (08). -/
def Rg.FL_THH.HYST : Fld := ⟨0x1048, 0, 32, .rw, 0x0, .val⟩

/-- FL_LAST.FINE (08). -/
def Rg.FL_LAST.FINE : Fld := ⟨0x1060, 0, 32, .ro, 0x0, .val⟩
/-- FL_LAST.FAST (08). -/
def Rg.FL_LAST.FAST : Fld := ⟨0x1060, 32, 32, .ro, 0x0, .val⟩

/-- FL_CNT.SAT (08). -/
def Rg.FL_CNT.SAT : Fld := ⟨0x1068, 0, 16, .ro, 0x0, .val⟩
/-- FL_CNT.OUT_DROP (08). -/
def Rg.FL_CNT.OUT_DROP : Fld := ⟨0x1068, 16, 16, .ro, 0x0, .val⟩

/-- FL_EVT.REFUSED (08). -/
def Rg.FL_EVT.REFUSED : Fld := ⟨0x1070, 0, 1, .w1c, 0x0, .val⟩
/-- FL_EVT.CFG_LOCKED (08). -/
def Rg.FL_EVT.CFG_LOCKED : Fld := ⟨0x1070, 1, 1, .w1c, 0x0, .val⟩
/-- FL_EVT.BANK_BUSY (08). -/
def Rg.FL_EVT.BANK_BUSY : Fld := ⟨0x1070, 2, 1, .w1c, 0x0, .val⟩
/-- FL_EVT.SWAP_REFUSED (08). -/
def Rg.FL_EVT.SWAP_REFUSED : Fld := ⟨0x1070, 3, 1, .w1c, 0x0, .val⟩
/-- FL_EVT.SWAP_SUPERSEDED (08). -/
def Rg.FL_EVT.SWAP_SUPERSEDED : Fld := ⟨0x1070, 4, 1, .w1c, 0x0, .val⟩
/-- FL_EVT.THR0 (08). -/
def Rg.FL_EVT.THR0 : Fld := ⟨0x1070, 5, 1, .w1c, 0x0, .val⟩
/-- FL_EVT.THR1 (08). -/
def Rg.FL_EVT.THR1 : Fld := ⟨0x1070, 6, 1, .w1c, 0x0, .val⟩
/-- FL_EVT.OUT_DROP (08). -/
def Rg.FL_EVT.OUT_DROP : Fld := ⟨0x1070, 7, 1, .w1c, 0x0, .val⟩
/-- FL_EVT.SETTLED (08). -/
def Rg.FL_EVT.SETTLED : Fld := ⟨0x1070, 8, 1, .w1c, 0x0, .val⟩

/-! ### 09_phasors_alignment.md -/

/-- PH_ID.VERSION (09). -/
def Rg.PH_ID.VERSION : Fld := ⟨0x0, 0, 16, .ro, 0x100, .val⟩
/-- PH_ID.INSTANCE (09). -/
def Rg.PH_ID.INSTANCE : Fld := ⟨0x0, 16, 2, .ro, 0x0, .inst⟩
/-- PH_ID.LANES (09). -/
def Rg.PH_ID.LANES : Fld := ⟨0x0, 18, 5, .ro, 0x0, .img⟩

/-- PH_CFG.SRC_CH (09). -/
def Rg.PH_CFG.SRC_CH : Fld := ⟨0x1000, 0, 6, .rw, 0x0, .chan⟩
/-- PH_CFG.F0 (09). -/
def Rg.PH_CFG.F0 : Fld := ⟨0x1000, 6, 1, .rw, 0x0, .val⟩
/-- PH_CFG.CLASS (09). -/
def Rg.PH_CFG.CLASS : Fld := ⟨0x1000, 7, 1, .rw, 0x0, .val⟩
/-- PH_CFG.FS (09). -/
def Rg.PH_CFG.FS : Fld := ⟨0x1000, 8, 8, .rw, 0x32, .val⟩
/-- PH_CFG.SEQ (09). -/
def Rg.PH_CFG.SEQ : Fld := ⟨0x1000, 16, 1, .rw, 0x0, .val⟩
/-- PH_CFG.FAST_EN (09). -/
def Rg.PH_CFG.FAST_EN : Fld := ⟨0x1000, 17, 1, .rw, 0x0, .val⟩
/-- PH_CFG.FAST_SRC (09). -/
def Rg.PH_CFG.FAST_SRC : Fld := ⟨0x1000, 18, 1, .rw, 0x0, .val⟩
/-- PH_CFG.OUT_ROUTE (09). -/
def Rg.PH_CFG.OUT_ROUTE : Fld := ⟨0x1000, 19, 8, .rw, 0x0, .val⟩
/-- PH_CFG.FAST_ROUTE (09). -/
def Rg.PH_CFG.FAST_ROUTE : Fld := ⟨0x1000, 27, 8, .rw, 0x0, .val⟩

/-- PH_CTRL.EN (09). -/
def Rg.PH_CTRL.EN : Fld := ⟨0x1008, 0, 1, .rw, 0x0, .val⟩
/-- PH_CTRL.CNT_CLR (09). -/
def Rg.PH_CTRL.CNT_CLR : Fld := ⟨0x1008, 1, 1, .wo, 0x0, .val⟩

/-- PH_SCALE.SCALE (09). -/
def Rg.PH_SCALE.SCALE : Fld := ⟨0x1010, 0, 32, .rw, 0x3f800000, .val⟩
/-- PH_SCALE.ANG_OFS (09). -/
def Rg.PH_SCALE.ANG_OFS : Fld := ⟨0x1010, 32, 32, .rw, 0x0, .val⟩

/-- PH_STAT.RUN (09). -/
def Rg.PH_STAT.RUN : Fld := ⟨0x1018, 0, 1, .ro, 0x0, .val⟩
/-- PH_STAT.REFUSE (09). -/
def Rg.PH_STAT.REFUSE : Fld := ⟨0x1018, 1, 3, .ro, 0x0, .val⟩
/-- PH_STAT.IN_RATE_OK (09). -/
def Rg.PH_STAT.IN_RATE_OK : Fld := ⟨0x1018, 4, 1, .ro, 0x0, .val⟩
/-- PH_STAT.UNSETTLED (09). -/
def Rg.PH_STAT.UNSETTLED : Fld := ⟨0x1018, 5, 1, .ro, 0x0, .val⟩
/-- PH_STAT.FAULT (09). -/
def Rg.PH_STAT.FAULT : Fld := ⟨0x1018, 6, 1, .ro, 0x0, .val⟩
/-- PH_STAT.FRANGE (09). -/
def Rg.PH_STAT.FRANGE : Fld := ⟨0x1018, 7, 1, .ro, 0x0, .val⟩
/-- PH_STAT.SEQ_MEMBER (09). -/
def Rg.PH_STAT.SEQ_MEMBER : Fld := ⟨0x1018, 8, 1, .ro, 0x0, .val⟩
/-- PH_STAT.SPC (09). -/
def Rg.PH_STAT.SPC : Fld := ⟨0x1018, 16, 16, .ro, 0x0, .val⟩

/-- PH_CNT.OUT_DROP (09). -/
def Rg.PH_CNT.OUT_DROP : Fld := ⟨0x1038, 0, 16, .ro, 0x0, .val⟩
/-- PH_CNT.GAP (09). -/
def Rg.PH_CNT.GAP : Fld := ⟨0x1038, 16, 16, .ro, 0x0, .val⟩

/-- PH_EVT.REFUSED (09). -/
def Rg.PH_EVT.REFUSED : Fld := ⟨0x1040, 0, 1, .w1c, 0x0, .val⟩
/-- PH_EVT.CFG_LOCKED (09). -/
def Rg.PH_EVT.CFG_LOCKED : Fld := ⟨0x1040, 1, 1, .w1c, 0x0, .val⟩
/-- PH_EVT.IN_RATE (09). -/
def Rg.PH_EVT.IN_RATE : Fld := ⟨0x1040, 2, 1, .w1c, 0x0, .val⟩
/-- PH_EVT.FRANGE (09). -/
def Rg.PH_EVT.FRANGE : Fld := ⟨0x1040, 3, 1, .w1c, 0x0, .val⟩
/-- PH_EVT.OUT_DROP (09). -/
def Rg.PH_EVT.OUT_DROP : Fld := ⟨0x1040, 4, 1, .w1c, 0x0, .val⟩
/-- PH_EVT.GAP (09). -/
def Rg.PH_EVT.GAP : Fld := ⟨0x1040, 5, 1, .w1c, 0x0, .val⟩

/-- AT_ID.VERSION (09). -/
def Rg.AT_ID.VERSION : Fld := ⟨0x0, 0, 16, .ro, 0x100, .val⟩
/-- AT_ID.INSTANCE (09). -/
def Rg.AT_ID.INSTANCE : Fld := ⟨0x0, 16, 3, .ro, 0x0, .inst⟩
/-- AT_ID.LANES (09). -/
def Rg.AT_ID.LANES : Fld := ⟨0x0, 19, 10, .ro, 0x0, .img⟩

/-- AT_SEL.LANE (09). -/
def Rg.AT_SEL.LANE : Fld := ⟨0x10, 0, 9, .rw, 0x0, .val⟩

/-- AT_EVT.REFUSED (09). -/
def Rg.AT_EVT.REFUSED : Fld := ⟨0x18, 0, 1, .w1c, 0x0, .val⟩
/-- AT_EVT.LATE (09). -/
def Rg.AT_EVT.LATE : Fld := ⟨0x18, 1, 1, .w1c, 0x0, .val⟩
/-- AT_EVT.OLD_USE (09). -/
def Rg.AT_EVT.OLD_USE : Fld := ⟨0x18, 2, 1, .w1c, 0x0, .val⟩
/-- AT_EVT.BADLEN (09). -/
def Rg.AT_EVT.BADLEN : Fld := ⟨0x18, 3, 1, .w1c, 0x0, .val⟩
/-- AT_EVT.NO_SLOT (09). -/
def Rg.AT_EVT.NO_SLOT : Fld := ⟨0x18, 4, 1, .w1c, 0x0, .val⟩
/-- AT_EVT.CAP_CLOSE (09). -/
def Rg.AT_EVT.CAP_CLOSE : Fld := ⟨0x18, 5, 1, .w1c, 0x0, .val⟩
/-- AT_EVT.MEMB_LOCKED (09). -/
def Rg.AT_EVT.MEMB_LOCKED : Fld := ⟨0x18, 6, 1, .w1c, 0x0, .val⟩
/-- AT_EVT.PART_MISS (09). -/
def Rg.AT_EVT.PART_MISS : Fld := ⟨0x18, 7, 1, .w1c, 0x0, .val⟩
/-- AT_EVT.CFG_LOCKED (09). -/
def Rg.AT_EVT.CFG_LOCKED : Fld := ⟨0x18, 8, 1, .w1c, 0x0, .val⟩

/-- AL_CFG.EN (09). -/
def Rg.AL_CFG.EN : Fld := ⟨0x100, 0, 1, .rw, 0x0, .val⟩
/-- AL_CFG.LOCAL (09). -/
def Rg.AL_CFG.LOCAL : Fld := ⟨0x100, 1, 1, .rw, 0x0, .val⟩
/-- AL_CFG.PKT (09). -/
def Rg.AL_CFG.PKT : Fld := ⟨0x100, 2, 3, .rw, 0x0, .val⟩
/-- AL_CFG.CONN (09). -/
def Rg.AL_CFG.CONN : Fld := ⟨0x100, 5, 10, .rw, 0x0, .val⟩
/-- AL_CFG.IDCODE (09). -/
def Rg.AL_CFG.IDCODE : Fld := ⟨0x100, 15, 16, .rw, 0x0, .val⟩
/-- AL_CFG.RATE (09). -/
def Rg.AL_CFG.RATE : Fld := ⟨0x100, 31, 8, .rw, 0x0, .val⟩
/-- AL_CFG.NUM_PMU (09). -/
def Rg.AL_CFG.NUM_PMU : Fld := ⟨0x100, 39, 2, .rw, 0x0, .val⟩
/-- AL_CFG.WAIT_MODE (09). -/
def Rg.AL_CFG.WAIT_MODE : Fld := ⟨0x100, 41, 1, .rw, 0x0, .val⟩
/-- AL_CFG.SW_FLOW (09). -/
def Rg.AL_CFG.SW_FLOW : Fld := ⟨0x100, 42, 13, .rw, 0x0, .val⟩

/-- AL_PORT.SRC_PORT (09). -/
def Rg.AL_PORT.SRC_PORT : Fld := ⟨0x118, 0, 16, .rw, 0x0, .val⟩
/-- AL_PORT.V6 (09). -/
def Rg.AL_PORT.V6 : Fld := ⟨0x118, 16, 1, .rw, 0x0, .val⟩
/-- AL_PORT.TCP (09). -/
def Rg.AL_PORT.TCP : Fld := ⟨0x118, 17, 1, .rw, 0x0, .val⟩
/-- AL_PORT.TIME_BASE (09). -/
def Rg.AL_PORT.TIME_BASE : Fld := ⟨0x118, 32, 24, .rw, 0xf4240, .val⟩

/-- AL_BLK.FORMAT0 (09). -/
def Rg.AL_BLK.FORMAT0 : Fld := ⟨0x120, 0, 4, .rw, 0x0, .val⟩
/-- AL_BLK.PHNMR0 (09). -/
def Rg.AL_BLK.PHNMR0 : Fld := ⟨0x120, 4, 7, .rw, 0x0, .val⟩
/-- AL_BLK.ANNMR0 (09). -/
def Rg.AL_BLK.ANNMR0 : Fld := ⟨0x120, 11, 7, .rw, 0x0, .val⟩
/-- AL_BLK.DGNMR0 (09). -/
def Rg.AL_BLK.DGNMR0 : Fld := ⟨0x120, 18, 5, .rw, 0x0, .val⟩
/-- AL_BLK.FORMAT1 (09). -/
def Rg.AL_BLK.FORMAT1 : Fld := ⟨0x120, 32, 4, .rw, 0x0, .val⟩
/-- AL_BLK.PHNMR1 (09). -/
def Rg.AL_BLK.PHNMR1 : Fld := ⟨0x120, 36, 7, .rw, 0x0, .val⟩
/-- AL_BLK.ANNMR1 (09). -/
def Rg.AL_BLK.ANNMR1 : Fld := ⟨0x120, 43, 7, .rw, 0x0, .val⟩
/-- AL_BLK.DGNMR1 (09). -/
def Rg.AL_BLK.DGNMR1 : Fld := ⟨0x120, 50, 5, .rw, 0x0, .val⟩

/-- AL_WAIT.WMIN (09). -/
def Rg.AL_WAIT.WMIN : Fld := ⟨0x130, 0, 10, .rw, 0xa, .val⟩
/-- AL_WAIT.WMAX (09). -/
def Rg.AL_WAIT.WMAX : Fld := ⟨0x130, 10, 10, .rw, 0x1f4, .val⟩
/-- AL_WAIT.MARGIN (09). -/
def Rg.AL_WAIT.MARGIN : Fld := ⟨0x130, 20, 10, .rw, 0xa, .val⟩
/-- AL_WAIT.Q_STEP (09). -/
def Rg.AL_WAIT.Q_STEP : Fld := ⟨0x130, 32, 8, .rw, 0x14, .val⟩

/-- AL_MEMB.MEMB (09). -/
def Rg.AL_MEMB.MEMB : Fld := ⟨0x140, 0, 16, .rw, 0x0, .val⟩

/-- AL_STAT.RUN (09). -/
def Rg.AL_STAT.RUN : Fld := ⟨0x148, 0, 1, .ro, 0x0, .val⟩
/-- AL_STAT.REFUSE (09). -/
def Rg.AL_STAT.REFUSE : Fld := ⟨0x148, 1, 3, .ro, 0x0, .val⟩
/-- AL_STAT.QUAR (09). -/
def Rg.AL_STAT.QUAR : Fld := ⟨0x148, 4, 1, .ro, 0x0, .val⟩
/-- AL_STAT.LEN (09). -/
def Rg.AL_STAT.LEN : Fld := ⟨0x148, 5, 12, .ro, 0x0, .val⟩
/-- AL_STAT.QUAR_END (09). -/
def Rg.AL_STAT.QUAR_END : Fld := ⟨0x148, 32, 32, .ro, 0x0, .val⟩

/-- AL_Q.Q (09). -/
def Rg.AL_Q.Q : Fld := ⟨0x150, 0, 20, .ro, 0x0, .val⟩
/-- AL_Q.W (09). -/
def Rg.AL_Q.W : Fld := ⟨0x150, 32, 20, .ro, 0x0, .val⟩

/-- AL_CNT.RX (09). -/
def Rg.AL_CNT.RX : Fld := ⟨0x160, 0, 16, .ro, 0x0, .val⟩
/-- AL_CNT.LATE (09). -/
def Rg.AL_CNT.LATE : Fld := ⟨0x160, 16, 16, .ro, 0x0, .val⟩
/-- AL_CNT.OLD_USE (09). -/
def Rg.AL_CNT.OLD_USE : Fld := ⟨0x160, 32, 16, .ro, 0x0, .val⟩
/-- AL_CNT.DUP (09). -/
def Rg.AL_CNT.DUP : Fld := ⟨0x160, 48, 16, .ro, 0x0, .val⟩

/-- AL_CNT2.BADLEN (09). -/
def Rg.AL_CNT2.BADLEN : Fld := ⟨0x168, 0, 16, .ro, 0x0, .val⟩
/-- AL_CNT2.BAD_CHK (09). -/
def Rg.AL_CNT2.BAD_CHK : Fld := ⟨0x168, 16, 16, .ro, 0x0, .val⟩
/-- AL_CNT2.OFFGRID (09). -/
def Rg.AL_CNT2.OFFGRID : Fld := ⟨0x168, 32, 16, .ro, 0x0, .val⟩
/-- AL_CNT2.FUTURE (09). -/
def Rg.AL_CNT2.FUTURE : Fld := ⟨0x168, 48, 16, .ro, 0x0, .val⟩

/-- AC_CFG.EN (09). -/
def Rg.AC_CFG.EN : Fld := ⟨0x400, 0, 1, .rw, 0x0, .val⟩
/-- AC_CFG.RATE (09). -/
def Rg.AC_CFG.RATE : Fld := ⟨0x400, 1, 8, .rw, 0x32, .val⟩
/-- AC_CFG.WAIT_CAP (09). -/
def Rg.AC_CFG.WAIT_CAP : Fld := ⟨0x400, 9, 10, .rw, 0xc8, .val⟩
/-- AC_CFG.TOL (09). -/
def Rg.AC_CFG.TOL : Fld := ⟨0x400, 19, 10, .rw, 0x64, .val⟩
/-- AC_CFG.IDCODE (09). -/
def Rg.AC_CFG.IDCODE : Fld := ⟨0x400, 29, 16, .rw, 0x0, .val⟩
/-- AC_CFG.ROUTE (09). -/
def Rg.AC_CFG.ROUTE : Fld := ⟨0x400, 45, 8, .rw, 0x0, .val⟩
/-- AC_CFG.FLOW_EN (09). -/
def Rg.AC_CFG.FLOW_EN : Fld := ⟨0x400, 53, 1, .rw, 0x0, .val⟩

/-- AC_BUF.ADDR (09). -/
def Rg.AC_BUF.ADDR : Fld := ⟨0x408, 0, 40, .rw, 0x0, .val⟩
/-- AC_BUF.SLOT64 (09). -/
def Rg.AC_BUF.SLOT64 : Fld := ⟨0x408, 40, 11, .rw, 0x0, .val⟩
/-- AC_BUF.NSLOT (09). -/
def Rg.AC_BUF.NSLOT : Fld := ⟨0x408, 51, 9, .rw, 0x0, .val⟩

/-- AC_FLOW.FLOW (09). -/
def Rg.AC_FLOW.FLOW : Fld := ⟨0x410, 0, 13, .rw, 0x0, .val⟩
/-- AC_FLOW.TIME_BASE (09). -/
def Rg.AC_FLOW.TIME_BASE : Fld := ⟨0x410, 32, 24, .rw, 0xf4240, .val⟩

/-- AC_STAT.RUN (09). -/
def Rg.AC_STAT.RUN : Fld := ⟨0x418, 0, 1, .ro, 0x0, .val⟩
/-- AC_STAT.REFUSE (09). -/
def Rg.AC_STAT.REFUSE : Fld := ⟨0x418, 1, 3, .ro, 0x0, .val⟩
/-- AC_STAT.HOME (09). -/
def Rg.AC_STAT.HOME : Fld := ⟨0x418, 4, 1, .ro, 0x0, .val⟩
/-- AC_STAT.MEMBERS (09). -/
def Rg.AC_STAT.MEMBERS : Fld := ⟨0x418, 5, 13, .ro, 0x0, .val⟩
/-- AC_STAT.PAYLOAD (09). -/
def Rg.AC_STAT.PAYLOAD : Fld := ⟨0x418, 18, 17, .ro, 0x0, .val⟩
/-- AC_STAT.FREE (09). -/
def Rg.AC_STAT.FREE : Fld := ⟨0x418, 35, 9, .ro, 0x0, .val⟩

/-- AC_CNT.EMITTED (09). -/
def Rg.AC_CNT.EMITTED : Fld := ⟨0x420, 0, 32, .ro, 0x0, .val⟩
/-- AC_CNT.PARTIAL (09). -/
def Rg.AC_CNT.PARTIAL : Fld := ⟨0x420, 32, 16, .ro, 0x0, .val⟩
/-- AC_CNT.NO_SLOT (09). -/
def Rg.AC_CNT.NO_SLOT : Fld := ⟨0x420, 48, 16, .ro, 0x0, .val⟩

/-! ### 10_grid_analysis_capture.md -/

/-- MG_SIG.EN (10). -/
def Rg.MG_SIG.EN : Fld := ⟨0x2000, 0, 1, .rw, 0x0, .val⟩
/-- MG_SIG.CH (10). -/
def Rg.MG_SIG.CH : Fld := ⟨0x2000, 1, 6, .rw, 0x0, .val⟩
/-- MG_SIG.QTY (10). -/
def Rg.MG_SIG.QTY : Fld := ⟨0x2000, 7, 2, .rw, 0x0, .val⟩
/-- MG_SIG.FORMAT (10). -/
def Rg.MG_SIG.FORMAT : Fld := ⟨0x2000, 9, 4, .rw, 0x0, .val⟩
/-- MG_SIG.FNOM (10). -/
def Rg.MG_SIG.FNOM : Fld := ⟨0x2000, 13, 1, .rw, 0x0, .val⟩
/-- MG_SIG.VAL_OFS (10). -/
def Rg.MG_SIG.VAL_OFS : Fld := ⟨0x2000, 14, 16, .rw, 0x0, .val⟩
/-- MG_SIG.STAT_OFS (10). -/
def Rg.MG_SIG.STAT_OFS : Fld := ⟨0x2000, 30, 16, .rw, 0x0, .val⟩

/-- MD_ID.VERSION (10). -/
def Rg.MD_ID.VERSION : Fld := ⟨0x0, 0, 16, .ro, 0x100, .val⟩
/-- MD_ID.INSTANCE (10). -/
def Rg.MD_ID.INSTANCE : Fld := ⟨0x0, 16, 2, .ro, 0x0, .inst⟩
/-- MD_ID.LANES (10). -/
def Rg.MD_ID.LANES : Fld := ⟨0x0, 18, 5, .ro, 0x0, .img⟩

/-- MG_CFG.KIND (10). -/
def Rg.MG_CFG.KIND : Fld := ⟨0x1000, 0, 1, .rw, 0x0, .val⟩
/-- MG_CFG.FEED (10). -/
def Rg.MG_CFG.FEED : Fld := ⟨0x1000, 1, 2, .rw, 0x0, .val⟩
/-- MG_CFG.CONC (10). -/
def Rg.MG_CFG.CONC : Fld := ⟨0x1000, 3, 4, .rw, 0x0, .val⟩
/-- MG_CFG.DECIM (10). -/
def Rg.MG_CFG.DECIM : Fld := ⟨0x1000, 7, 6, .rw, 0x0, .val⟩
/-- MG_CFG.P (10). -/
def Rg.MG_CFG.P : Fld := ⟨0x1000, 13, 5, .rw, 0x8, .val⟩
/-- MG_CFG.Q (10). -/
def Rg.MG_CFG.Q : Fld := ⟨0x1000, 18, 2, .rw, 0x1, .val⟩
/-- MG_CFG.ALARM_ROUTE (10). -/
def Rg.MG_CFG.ALARM_ROUTE : Fld := ⟨0x1000, 20, 8, .rw, 0x0, .val⟩

/-- MG_CTRL.EN (10). -/
def Rg.MG_CTRL.EN : Fld := ⟨0x1008, 0, 1, .rw, 0x0, .val⟩
/-- MG_CTRL.RESTART (10). -/
def Rg.MG_CTRL.RESTART : Fld := ⟨0x1008, 1, 1, .wo, 0x0, .val⟩
/-- MG_CTRL.CNT_CLR (10). -/
def Rg.MG_CTRL.CNT_CLR : Fld := ⟨0x1008, 2, 1, .wo, 0x0, .val⟩

/-- MG_OSC.FLO (10). -/
def Rg.MG_OSC.FLO : Fld := ⟨0x1010, 0, 13, .rw, 0x64, .val⟩
/-- MG_OSC.FHI (10). -/
def Rg.MG_OSC.FHI : Fld := ⟨0x1010, 13, 13, .rw, 0x7d0, .val⟩
/-- MG_OSC.ROOT_DIV (10). -/
def Rg.MG_OSC.ROOT_DIV : Fld := ⟨0x1010, 26, 6, .rw, 0xa, .val⟩
/-- MG_OSC.ZTHR (10). -/
def Rg.MG_OSC.ZTHR : Fld := ⟨0x1010, 32, 12, .rw, 0x1f4, .val⟩
/-- MG_OSC.ZHYST (10). -/
def Rg.MG_OSC.ZHYST : Fld := ⟨0x1010, 44, 8, .rw, 0x64, .val⟩
/-- MG_OSC.DWELL (10). -/
def Rg.MG_OSC.DWELL : Fld := ⟨0x1010, 52, 12, .rw, 0x64, .val⟩

/-- MG_MEM.MEM_S (10). -/
def Rg.MG_MEM.MEM_S : Fld := ⟨0x1018, 0, 12, .rw, 0x258, .val⟩

/-- MG_ISL.FDIFF (10). -/
def Rg.MG_ISL.FDIFF : Fld := ⟨0x1020, 0, 12, .rw, 0x32, .val⟩
/-- MG_ISL.SLIP_MAX (10). -/
def Rg.MG_ISL.SLIP_MAX : Fld := ⟨0x1020, 12, 12, .rw, 0x12c, .val⟩
/-- MG_ISL.NFR (10). -/
def Rg.MG_ISL.NFR : Fld := ⟨0x1020, 24, 4, .rw, 0x2, .val⟩
/-- MG_ISL.MIN_SITES (10). -/
def Rg.MG_ISL.MIN_SITES : Fld := ⟨0x1020, 28, 6, .rw, 0x2, .val⟩
/-- MG_ISL.REF_SITE (10). -/
def Rg.MG_ISL.REF_SITE : Fld := ⟨0x1020, 34, 5, .rw, 0x0, .val⟩

/-- MG_STAT.RUN (10). -/
def Rg.MG_STAT.RUN : Fld := ⟨0x1028, 0, 1, .ro, 0x0, .val⟩
/-- MG_STAT.REFUSE (10). -/
def Rg.MG_STAT.REFUSE : Fld := ⟨0x1028, 1, 3, .ro, 0x0, .val⟩
/-- MG_STAT.VALID (10). -/
def Rg.MG_STAT.VALID : Fld := ⟨0x1028, 4, 1, .ro, 0x0, .val⟩
/-- MG_STAT.ALARM (10). -/
def Rg.MG_STAT.ALARM : Fld := ⟨0x1028, 5, 1, .ro, 0x0, .val⟩
/-- MG_STAT.STALE (10). -/
def Rg.MG_STAT.STALE : Fld := ⟨0x1028, 6, 1, .ro, 0x0, .val⟩
/-- MG_STAT.MONITORED (10). -/
def Rg.MG_STAT.MONITORED : Fld := ⟨0x1028, 7, 1, .ro, 0x0, .val⟩
/-- MG_STAT.NMODE (10). -/
def Rg.MG_STAT.NMODE : Fld := ⟨0x1028, 8, 4, .ro, 0x0, .val⟩
/-- MG_STAT.RATE (10). -/
def Rg.MG_STAT.RATE : Fld := ⟨0x1028, 16, 9, .ro, 0x0, .val⟩

/-- MG_ISLR.NCLU (10). -/
def Rg.MG_ISLR.NCLU : Fld := ⟨0x1050, 0, 3, .ro, 0x0, .val⟩
/-- MG_ISLR.MORE (10). -/
def Rg.MG_ISLR.MORE : Fld := ⟨0x1050, 3, 1, .ro, 0x0, .val⟩
/-- MG_ISLR.DF (10). -/
def Rg.MG_ISLR.DF : Fld := ⟨0x1050, 4, 12, .ro, 0x0, .val⟩
/-- MG_ISLR.SLIP (10). -/
def Rg.MG_ISLR.SLIP : Fld := ⟨0x1050, 16, 16, .ro, 0x0, .val⟩

/-- MG_CNT.SKIP (10). -/
def Rg.MG_CNT.SKIP : Fld := ⟨0x1068, 0, 16, .ro, 0x0, .val⟩
/-- MG_CNT.ABSENT (10). -/
def Rg.MG_CNT.ABSENT : Fld := ⟨0x1068, 16, 16, .ro, 0x0, .val⟩
/-- MG_CNT.RESTARTS (10). -/
def Rg.MG_CNT.RESTARTS : Fld := ⟨0x1068, 32, 16, .ro, 0x0, .val⟩
/-- MG_CNT.SOLVE_FAIL (10). -/
def Rg.MG_CNT.SOLVE_FAIL : Fld := ⟨0x1068, 48, 16, .ro, 0x0, .val⟩

/-- MG_EVT.REFUSED (10). -/
def Rg.MG_EVT.REFUSED : Fld := ⟨0x1070, 0, 1, .w1c, 0x0, .val⟩
/-- MG_EVT.CFG_LOCKED (10). -/
def Rg.MG_EVT.CFG_LOCKED : Fld := ⟨0x1070, 1, 1, .w1c, 0x0, .val⟩
/-- MG_EVT.ALARM_CHG (10). -/
def Rg.MG_EVT.ALARM_CHG : Fld := ⟨0x1070, 2, 1, .w1c, 0x0, .val⟩
/-- MG_EVT.RESTART (10). -/
def Rg.MG_EVT.RESTART : Fld := ⟨0x1070, 3, 1, .w1c, 0x0, .val⟩
/-- MG_EVT.STALE (10). -/
def Rg.MG_EVT.STALE : Fld := ⟨0x1070, 4, 1, .w1c, 0x0, .val⟩
/-- MG_EVT.SOLVE_FAIL (10). -/
def Rg.MG_EVT.SOLVE_FAIL : Fld := ⟨0x1070, 5, 1, .w1c, 0x0, .val⟩
/-- MG_EVT.OUT_DROP (10). -/
def Rg.MG_EVT.OUT_DROP : Fld := ⟨0x1070, 6, 1, .w1c, 0x0, .val⟩

/-- TG_ID.VERSION (10). -/
def Rg.TG_ID.VERSION : Fld := ⟨0x0, 0, 16, .ro, 0x100, .val⟩
/-- TG_ID.INSTANCE (10). -/
def Rg.TG_ID.INSTANCE : Fld := ⟨0x0, 16, 1, .ro, 0x0, .inst⟩
/-- TG_ID.LANES (10). -/
def Rg.TG_ID.LANES : Fld := ⟨0x0, 17, 3, .ro, 0x0, .img⟩

/-- TG_CFG.CLASS (10). -/
def Rg.TG_CFG.CLASS : Fld := ⟨0x1000, 0, 2, .rw, 0x0, .val⟩
/-- TG_CFG.CONC (10). -/
def Rg.TG_CFG.CONC : Fld := ⟨0x1000, 2, 4, .rw, 0x0, .val⟩
/-- TG_CFG.AUTO (10). -/
def Rg.TG_CFG.AUTO : Fld := ⟨0x1000, 6, 1, .rw, 0x0, .val⟩
/-- TG_CFG.DMA (10). -/
def Rg.TG_CFG.DMA : Fld := ⟨0x1000, 7, 2, .rw, 0x0, .val⟩
/-- TG_CFG.LINE_OUT (10). -/
def Rg.TG_CFG.LINE_OUT : Fld := ⟨0x1000, 9, 2, .rw, 0x0, .val⟩
/-- TG_CFG.IGN_OWN (10). -/
def Rg.TG_CFG.IGN_OWN : Fld := ⟨0x1000, 11, 1, .rw, 0x0, .val⟩
/-- TG_CFG.FRAME_WAIT (10). -/
def Rg.TG_CFG.FRAME_WAIT : Fld := ⟨0x1000, 12, 10, .rw, 0x32, .val⟩

/-- TG_AREA.ADDR (10). -/
def Rg.TG_AREA.ADDR : Fld := ⟨0x1010, 0, 40, .rw, 0x0, .val⟩
/-- TG_AREA.NSLOT (10). -/
def Rg.TG_AREA.NSLOT : Fld := ⟨0x1010, 40, 4, .rw, 0x0, .val⟩

/-- TG_SLOT.SLOT_BYTES (10). -/
def Rg.TG_SLOT.SLOT_BYTES : Fld := ⟨0x1018, 0, 31, .rw, 0x0, .val⟩

/-- TG_LVL.LIDX (10). -/
def Rg.TG_LVL.LIDX : Fld := ⟨0x1038, 0, 4, .rw, 0x0, .val⟩
/-- TG_LVL.LQTY (10). -/
def Rg.TG_LVL.LQTY : Fld := ⟨0x1038, 4, 2, .rw, 0x0, .val⟩
/-- TG_LVL.LOFS (10). -/
def Rg.TG_LVL.LOFS : Fld := ⟨0x1038, 6, 16, .rw, 0x0, .val⟩
/-- TG_LVL.DIR (10). -/
def Rg.TG_LVL.DIR : Fld := ⟨0x1038, 22, 1, .rw, 0x0, .val⟩
/-- TG_LVL.LEVEL (10). -/
def Rg.TG_LVL.LEVEL : Fld := ⟨0x1038, 32, 32, .rw, 0x0, .val⟩

/-- TG_MEAS.EN (10). -/
def Rg.TG_MEAS.EN : Fld := ⟨0x1048, 0, 1, .rw, 0x0, .val⟩
/-- TG_MEAS.IDX (10). -/
def Rg.TG_MEAS.IDX : Fld := ⟨0x1048, 1, 4, .rw, 0x0, .val⟩
/-- TG_MEAS.QTY (10). -/
def Rg.TG_MEAS.QTY : Fld := ⟨0x1048, 5, 2, .rw, 0x0, .val⟩
/-- TG_MEAS.MLEVEL (10). -/
def Rg.TG_MEAS.MLEVEL : Fld := ⟨0x1048, 32, 32, .rw, 0x0, .val⟩

/-- TG_CTRL.ARM (10). -/
def Rg.TG_CTRL.ARM : Fld := ⟨0x1088, 0, 1, .rw, 0x0, .val⟩
/-- TG_CTRL.SWTRIG (10). -/
def Rg.TG_CTRL.SWTRIG : Fld := ⟨0x1088, 1, 1, .wo, 0x0, .val⟩
/-- TG_CTRL.ABORT (10). -/
def Rg.TG_CTRL.ABORT : Fld := ⟨0x1088, 2, 1, .wo, 0x0, .val⟩
/-- TG_CTRL.REL (10). -/
def Rg.TG_CTRL.REL : Fld := ⟨0x1088, 3, 16, .wo, 0x0, .val⟩
/-- TG_CTRL.CNT_CLR (10). -/
def Rg.TG_CTRL.CNT_CLR : Fld := ⟨0x1088, 19, 1, .wo, 0x0, .val⟩

/-- TG_STAT.STATE (10). -/
def Rg.TG_STAT.STATE : Fld := ⟨0x1090, 0, 3, .ro, 0x0, .val⟩
/-- TG_STAT.REFUSE (10). -/
def Rg.TG_STAT.REFUSE : Fld := ⟨0x1090, 3, 4, .ro, 0x0, .val⟩
/-- TG_STAT.FULL (10). -/
def Rg.TG_STAT.FULL : Fld := ⟨0x1090, 7, 16, .ro, 0x0, .val⟩
/-- TG_STAT.CUR (10). -/
def Rg.TG_STAT.CUR : Fld := ⟨0x1090, 23, 4, .ro, 0x0, .val⟩
/-- TG_STAT.SEQ (10). -/
def Rg.TG_STAT.SEQ : Fld := ⟨0x1090, 32, 32, .ro, 0x0, .val⟩

/-- TG_EVT.REFUSED (10). -/
def Rg.TG_EVT.REFUSED : Fld := ⟨0x10b0, 0, 1, .w1c, 0x0, .val⟩
/-- TG_EVT.CFG_LOCKED (10). -/
def Rg.TG_EVT.CFG_LOCKED : Fld := ⟨0x10b0, 1, 1, .w1c, 0x0, .val⟩
/-- TG_EVT.RECORD (10). -/
def Rg.TG_EVT.RECORD : Fld := ⟨0x10b0, 2, 1, .w1c, 0x0, .val⟩
/-- TG_EVT.MISSED (10). -/
def Rg.TG_EVT.MISSED : Fld := ⟨0x10b0, 3, 1, .w1c, 0x0, .val⟩
/-- TG_EVT.TRUNC (10). -/
def Rg.TG_EVT.TRUNC : Fld := ⟨0x10b0, 4, 1, .w1c, 0x0, .val⟩
/-- TG_EVT.SHORT_PRE (10). -/
def Rg.TG_EVT.SHORT_PRE : Fld := ⟨0x10b0, 5, 1, .w1c, 0x0, .val⟩
/-- TG_EVT.OVERRUN (10). -/
def Rg.TG_EVT.OVERRUN : Fld := ⟨0x10b0, 6, 1, .w1c, 0x0, .val⟩
/-- TG_EVT.ABORTED (10). -/
def Rg.TG_EVT.ABORTED : Fld := ⟨0x10b0, 7, 1, .w1c, 0x0, .val⟩

/-- AO_CFG.EN (10). -/
def Rg.AO_CFG.EN : Fld := ⟨0x800, 0, 1, .rw, 0x0, .val⟩
/-- AO_CFG.POL (10). -/
def Rg.AO_CFG.POL : Fld := ⟨0x800, 1, 1, .rw, 0x0, .val⟩
/-- AO_CFG.LATCH (10). -/
def Rg.AO_CFG.LATCH : Fld := ⟨0x800, 2, 1, .rw, 0x0, .val⟩
/-- AO_CFG.CLR (10). -/
def Rg.AO_CFG.CLR : Fld := ⟨0x800, 3, 1, .wo, 0x0, .val⟩
/-- AO_CFG.MIN_MS (10). -/
def Rg.AO_CFG.MIN_MS : Fld := ⟨0x800, 4, 8, .rw, 0xa, .val⟩
/-- AO_CFG.TRIG_SEL (10). -/
def Rg.AO_CFG.TRIG_SEL : Fld := ⟨0x800, 12, 8, .rw, 0x0, .val⟩
/-- AO_CFG.STATE (10). -/
def Rg.AO_CFG.STATE : Fld := ⟨0x800, 20, 1, .ro, 0x0, .val⟩

/-- TL_CFG.RX_EN (10). -/
def Rg.TL_CFG.RX_EN : Fld := ⟨0x900, 0, 1, .rw, 0x0, .val⟩
/-- TL_CFG.PULSE_US (10). -/
def Rg.TL_CFG.PULSE_US : Fld := ⟨0x900, 1, 10, .rw, 0xa, .val⟩
/-- TL_CFG.DRIVE (10). -/
def Rg.TL_CFG.DRIVE : Fld := ⟨0x900, 11, 1, .wo, 0x0, .val⟩
/-- TL_CFG.LOW (10). -/
def Rg.TL_CFG.LOW : Fld := ⟨0x900, 12, 1, .ro, 0x0, .val⟩
/-- TL_CFG.DRIVING (10). -/
def Rg.TL_CFG.DRIVING : Fld := ⟨0x900, 13, 1, .ro, 0x0, .val⟩
/-- TL_CFG.STUCK (10). -/
def Rg.TL_CFG.STUCK : Fld := ⟨0x900, 14, 1, .ro, 0x0, .val⟩

/-! ### 11_fleet_radio.md -/

/-- RP_ID.VERSION (11). -/
def Rg.RP_ID.VERSION : Fld := ⟨0x0, 0, 16, .ro, 0x100, .val⟩

/-- FR_ASN_BASE.INSTANT (11). -/
def Rg.FR_ASN_BASE.INSTANT : Fld := ⟨0x8, 0, 64, .rw, 0x0, .val⟩

/-- FR_PEPOCH.EPOCH (11). -/
def Rg.FR_PEPOCH.EPOCH : Fld := ⟨0x10, 0, 16, .ro, 0x0, .val⟩

/-- RP_CEVT.BASE_IGN (11). -/
def Rg.RP_CEVT.BASE_IGN : Fld := ⟨0x18, 0, 1, .w1c, 0x0, .val⟩

/-- RP_CFG.EN (11). -/
def Rg.RP_CFG.EN : Fld := ⟨0x1000, 0, 1, .rw, 0x0, .val⟩
/-- RP_CFG.SPI_DIV (11). -/
def Rg.RP_CFG.SPI_DIV : Fld := ⟨0x1000, 1, 4, .rw, 0x7, .val⟩
/-- RP_CFG.PRE_US (11). -/
def Rg.RP_CFG.PRE_US : Fld := ⟨0x1000, 5, 8, .rw, 0x0, .val⟩
/-- RP_CFG.TXLAT (11). -/
def Rg.RP_CFG.TXLAT : Fld := ⟨0x1000, 13, 6, .rw, 0x0, .val⟩
/-- RP_CFG.CH_US (11). -/
def Rg.RP_CFG.CH_US : Fld := ⟨0x1000, 19, 6, .rw, 0x0, .val⟩
/-- RP_CFG.SFD_DLY (11). -/
def Rg.RP_CFG.SFD_DLY : Fld := ⟨0x1000, 25, 12, .rw, 0x0, .val⟩
/-- RP_CFG.RATE (11). -/
def Rg.RP_CFG.RATE : Fld := ⟨0x1000, 37, 12, .rw, 0x0, .val⟩
/-- RP_CFG.FCS4 (11). -/
def Rg.RP_CFG.FCS4 : Fld := ⟨0x1000, 49, 1, .rw, 0x1, .val⟩

/-- RP_RAW.LEN (11). -/
def Rg.RP_RAW.LEN : Fld := ⟨0x1010, 0, 3, .rw, 0x0, .val⟩
/-- RP_RAW.GO (11). -/
def Rg.RP_RAW.GO : Fld := ⟨0x1010, 3, 1, .wo, 0x0, .val⟩
/-- RP_RAW.BUSY (11). -/
def Rg.RP_RAW.BUSY : Fld := ⟨0x1010, 4, 1, .ro, 0x0, .val⟩
/-- RP_RAW.DATA (11). -/
def Rg.RP_RAW.DATA : Fld := ⟨0x1010, 8, 48, .rw, 0x0, .val⟩

/-- RP_STAT.STATE (11). -/
def Rg.RP_STAT.STATE : Fld := ⟨0x1018, 0, 2, .ro, 0x0, .val⟩
/-- RP_STAT.FAIL_CODE (11). -/
def Rg.RP_STAT.FAIL_CODE : Fld := ⟨0x1018, 2, 2, .ro, 0x0, .val⟩
/-- RP_STAT.MAXPSDU_B (11). -/
def Rg.RP_STAT.MAXPSDU_B : Fld := ⟨0x1018, 5, 11, .ro, 0x0, .val⟩
/-- RP_STAT.MAXPSDU_A (11). -/
def Rg.RP_STAT.MAXPSDU_A : Fld := ⟨0x1018, 16, 11, .ro, 0x0, .val⟩

/-- RP_TRX.VENDOR (11). -/
def Rg.RP_TRX.VENDOR : Fld := ⟨0x1020, 0, 16, .ro, 0x0, .val⟩
/-- RP_TRX.PART (11). -/
def Rg.RP_TRX.PART : Fld := ⟨0x1020, 16, 16, .ro, 0x0, .val⟩
/-- RP_TRX.FLAGS (11). -/
def Rg.RP_TRX.FLAGS : Fld := ⟨0x1020, 32, 8, .ro, 0x0, .val⟩

/-- RP_EVT.FAIL (11). -/
def Rg.RP_EVT.FAIL : Fld := ⟨0x1028, 0, 1, .w1c, 0x0, .val⟩
/-- RP_EVT.TX_LATE (11). -/
def Rg.RP_EVT.TX_LATE : Fld := ⟨0x1028, 1, 1, .w1c, 0x0, .val⟩
/-- RP_EVT.RAW_IGN (11). -/
def Rg.RP_EVT.RAW_IGN : Fld := ⟨0x1028, 2, 1, .w1c, 0x0, .val⟩

/-- RP_CNT.TX (11). -/
def Rg.RP_CNT.TX : Fld := ⟨0x1030, 0, 32, .ro, 0x0, .val⟩
/-- RP_CNT.RX_BAD (11). -/
def Rg.RP_CNT.RX_BAD : Fld := ⟨0x1030, 32, 16, .ro, 0x0, .val⟩
/-- RP_CNT.TX_LATE (11). -/
def Rg.RP_CNT.TX_LATE : Fld := ⟨0x1030, 48, 16, .ro, 0x0, .val⟩

/-- FR_CFG.NET (11). -/
def Rg.FR_CFG.NET : Fld := ⟨0x1000, 0, 16, .rw, 0x0, .val⟩
/-- FR_CFG.BC_OFS (11). -/
def Rg.FR_CFG.BC_OFS : Fld := ⟨0x1000, 16, 4, .rw, 0x0, .val⟩
/-- FR_CFG.CORR_EN (11). -/
def Rg.FR_CFG.CORR_EN : Fld := ⟨0x1000, 20, 1, .rw, 0x0, .val⟩
/-- FR_CFG.CORR_ENC (11). -/
def Rg.FR_CFG.CORR_ENC : Fld := ⟨0x1000, 21, 1, .rw, 0x0, .val⟩
/-- FR_CFG.RETRY (11). -/
def Rg.FR_CFG.RETRY : Fld := ⟨0x1000, 22, 3, .rw, 0x3, .val⟩
/-- FR_CFG.RXG (11). -/
def Rg.FR_CFG.RXG : Fld := ⟨0x1000, 25, 8, .rw, 0x64, .val⟩
/-- FR_CFG.NET_SLOT (11). -/
def Rg.FR_CFG.NET_SLOT : Fld := ⟨0x1000, 33, 8, .rw, 0x0, .val⟩
/-- FR_CFG.PROFILE_ID (11). -/
def Rg.FR_CFG.PROFILE_ID : Fld := ⟨0x1000, 41, 4, .rw, 0x0, .val⟩

/-- FR_CTRL.EN (11). -/
def Rg.FR_CTRL.EN : Fld := ⟨0x1008, 0, 1, .rw, 0x0, .val⟩
/-- FR_CTRL.JOIN_OPEN (11). -/
def Rg.FR_CTRL.JOIN_OPEN : Fld := ⟨0x1008, 1, 1, .rw, 0x0, .val⟩
/-- FR_CTRL.CNT_CLR (11). -/
def Rg.FR_CTRL.CNT_CLR : Fld := ⟨0x1008, 2, 1, .wo, 0x0, .val⟩

/-- FR_GRANT.GRANT (11). -/
def Rg.FR_GRANT.GRANT : Fld := ⟨0x1010, 0, 32, .rw, 0x0, .val⟩

/-- FR_STAT.RUN (11). -/
def Rg.FR_STAT.RUN : Fld := ⟨0x1018, 0, 1, .ro, 0x0, .val⟩
/-- FR_STAT.REFUSE (11). -/
def Rg.FR_STAT.REFUSE : Fld := ⟨0x1018, 1, 3, .ro, 0x0, .val⟩
/-- FR_STAT.STOP (11). -/
def Rg.FR_STAT.STOP : Fld := ⟨0x1018, 4, 1, .ro, 0x0, .val⟩
/-- FR_STAT.PERMIT (11). -/
def Rg.FR_STAT.PERMIT : Fld := ⟨0x1018, 32, 32, .ro, 0x0, .val⟩

/-- FR_ASN.ASN (11). -/
def Rg.FR_ASN.ASN : Fld := ⟨0x1020, 0, 40, .ro, 0x0, .val⟩

/-- FR_HOP.HOP (11). -/
def Rg.FR_HOP.HOP : Fld := ⟨0x1028, 0, 64, .rw, 0x0, .val⟩

/-- FR_SCHED.ID (11). -/
def Rg.FR_SCHED.ID : Fld := ⟨0x1038, 0, 8, .rw, 0x0, .val⟩

/-- FR_CNT.REPLAY (11). -/
def Rg.FR_CNT.REPLAY : Fld := ⟨0x1040, 0, 16, .ro, 0x0, .val⟩
/-- FR_CNT.DUP (11). -/
def Rg.FR_CNT.DUP : Fld := ⟨0x1040, 16, 16, .ro, 0x0, .val⟩
/-- FR_CNT.MIC_FAIL (11). -/
def Rg.FR_CNT.MIC_FAIL : Fld := ⟨0x1040, 32, 16, .ro, 0x0, .val⟩
/-- FR_CNT.CORR_DROP (11). -/
def Rg.FR_CNT.CORR_DROP : Fld := ⟨0x1040, 48, 16, .ro, 0x0, .val⟩

/-- FR_CNT2.NOACK (11). -/
def Rg.FR_CNT2.NOACK : Fld := ⟨0x1048, 0, 16, .ro, 0x0, .val⟩
/-- FR_CNT2.CLASH (11). -/
def Rg.FR_CNT2.CLASH : Fld := ⟨0x1048, 16, 16, .ro, 0x0, .val⟩
/-- FR_CNT2.WIDEN_SKIP (11). -/
def Rg.FR_CNT2.WIDEN_SKIP : Fld := ⟨0x1048, 32, 16, .ro, 0x0, .val⟩
/-- FR_CNT2.CORR_LONG (11). -/
def Rg.FR_CNT2.CORR_LONG : Fld := ⟨0x1048, 48, 16, .ro, 0x0, .val⟩

/-- FR_EVT.REFUSED (11). -/
def Rg.FR_EVT.REFUSED : Fld := ⟨0x1050, 0, 1, .w1c, 0x0, .val⟩
/-- FR_EVT.CFG_LOCKED (11). -/
def Rg.FR_EVT.CFG_LOCKED : Fld := ⟨0x1050, 1, 1, .w1c, 0x0, .val⟩
/-- FR_EVT.JOIN (11). -/
def Rg.FR_EVT.JOIN : Fld := ⟨0x1050, 2, 1, .w1c, 0x0, .val⟩
/-- FR_EVT.LOST (11). -/
def Rg.FR_EVT.LOST : Fld := ⟨0x1050, 3, 1, .w1c, 0x0, .val⟩
/-- FR_EVT.REPLAY (11). -/
def Rg.FR_EVT.REPLAY : Fld := ⟨0x1050, 4, 1, .w1c, 0x0, .val⟩
/-- FR_EVT.CLASH (11). -/
def Rg.FR_EVT.CLASH : Fld := ⟨0x1050, 5, 1, .w1c, 0x0, .val⟩
/-- FR_EVT.CORR_DROP (11). -/
def Rg.FR_EVT.CORR_DROP : Fld := ⟨0x1050, 6, 1, .w1c, 0x0, .val⟩
/-- FR_EVT.FCNT_WARN (11). -/
def Rg.FR_EVT.FCNT_WARN : Fld := ⟨0x1050, 7, 1, .w1c, 0x0, .val⟩
/-- FR_EVT.MIC_FAIL (11). -/
def Rg.FR_EVT.MIC_FAIL : Fld := ⟨0x1050, 8, 1, .w1c, 0x0, .val⟩

/-- FR_TXFCNT.FCNT (11). -/
def Rg.FR_TXFCNT.FCNT : Fld := ⟨0x1058, 0, 32, .ro, 0x0, .val⟩

/-- FR_EUI.EUI (11). -/
def Rg.FR_EUI.EUI : Fld := ⟨0x1060, 0, 64, .rw, 0x0, .val⟩

/-- FR_CELL.EN (11). -/
def Rg.FR_CELL.EN : Fld := ⟨0x1400, 0, 1, .rw, 0x0, .val⟩
/-- FR_CELL.SLOT (11). -/
def Rg.FR_CELL.SLOT : Fld := ⟨0x1400, 1, 4, .rw, 0x2, .val⟩
/-- FR_CELL.DIR (11). -/
def Rg.FR_CELL.DIR : Fld := ⟨0x1400, 5, 2, .rw, 0x0, .val⟩
/-- FR_CELL.OWNER (11). -/
def Rg.FR_CELL.OWNER : Fld := ⟨0x1400, 7, 5, .rw, 0x0, .val⟩
/-- FR_CELL.CHOFS (11). -/
def Rg.FR_CELL.CHOFS : Fld := ⟨0x1400, 12, 4, .rw, 0x0, .val⟩
/-- FR_CELL.PERIOD (11). -/
def Rg.FR_CELL.PERIOD : Fld := ⟨0x1400, 16, 6, .rw, 0x1, .val⟩
/-- FR_CELL.SFOFS (11). -/
def Rg.FR_CELL.SFOFS : Fld := ⟨0x1400, 22, 6, .rw, 0x0, .val⟩

/-- MID.EUI (11). -/
def Rg.MID.EUI : Fld := ⟨0x1800, 0, 64, .rw, 0x0, .val⟩

/-- MCFG.JKEY (11). -/
def Rg.MCFG.JKEY : Fld := ⟨0x1808, 0, 8, .rw, 0x0, .val⟩
/-- MCFG.FLOW (11). -/
def Rg.MCFG.FLOW : Fld := ⟨0x1808, 8, 13, .rw, 0x0, .val⟩
/-- MCFG.PROV (11). -/
def Rg.MCFG.PROV : Fld := ⟨0x1808, 21, 1, .rw, 0x0, .val⟩

/-- MSTAT.STATE (11). -/
def Rg.MSTAT.STATE : Fld := ⟨0x1810, 0, 3, .ro, 0x0, .val⟩
/-- MSTAT.SEQ_MODE (11). -/
def Rg.MSTAT.SEQ_MODE : Fld := ⟨0x1810, 3, 1, .ro, 0x0, .val⟩
/-- MSTAT.LAST_SEQ (11). -/
def Rg.MSTAT.LAST_SEQ : Fld := ⟨0x1810, 4, 8, .ro, 0x0, .val⟩
/-- MSTAT.WIDEN (11). -/
def Rg.MSTAT.WIDEN : Fld := ⟨0x1810, 12, 3, .ro, 0x0, .val⟩
/-- MSTAT.RX_FCNT (11). -/
def Rg.MSTAT.RX_FCNT : Fld := ⟨0x1810, 32, 32, .ro, 0x0, .val⟩

/-- MLAST.INSTANT (11). -/
def Rg.MLAST.INSTANT : Fld := ⟨0x1818, 0, 64, .ro, 0x0, .val⟩

/-- MCAP.CAP (11). -/
def Rg.MCAP.CAP : Fld := ⟨0x1820, 0, 64, .ro, 0x0, .val⟩

/-! ### 12_fleet_stop.md -/

/-- FS_STAT.LATCHED (12). -/
def Rg.FS_STAT.LATCHED : Fld := ⟨0x200, 0, 1, .ro, 0x1, .val⟩
/-- FS_STAT.CH0 (12). -/
def Rg.FS_STAT.CH0 : Fld := ⟨0x200, 1, 2, .ro, 0x1, .val⟩
/-- FS_STAT.CH1 (12). -/
def Rg.FS_STAT.CH1 : Fld := ⟨0x200, 3, 2, .ro, 0x1, .val⟩
/-- FS_STAT.DEC_A (12). -/
def Rg.FS_STAT.DEC_A : Fld := ⟨0x200, 5, 1, .ro, 0x1, .val⟩
/-- FS_STAT.DEC_B (12). -/
def Rg.FS_STAT.DEC_B : Fld := ⟨0x200, 6, 1, .ro, 0x1, .val⟩
/-- FS_STAT.SS_OK (12). -/
def Rg.FS_STAT.SS_OK : Fld := ⟨0x200, 7, 1, .ro, 0x1, .val⟩
/-- FS_STAT.TEST (12). -/
def Rg.FS_STAT.TEST : Fld := ⟨0x200, 8, 3, .ro, 0x0, .val⟩
/-- FS_STAT.RUN_OK (12). -/
def Rg.FS_STAT.RUN_OK : Fld := ⟨0x200, 11, 1, .ro, 0x0, .val⟩

/-- FS_CAUSE.CAUSE (12). -/
def Rg.FS_CAUSE.CAUSE : Fld := ⟨0x208, 0, 6, .ro, 0x10, .val⟩
/-- FS_CAUSE.STOP_ID (12). -/
def Rg.FS_CAUSE.STOP_ID : Fld := ⟨0x208, 16, 16, .ro, 0x1, .val⟩

/-- FS_CTRL.SW_STOP (12). -/
def Rg.FS_CTRL.SW_STOP : Fld := ⟨0x210, 0, 1, .wo, 0x0, .val⟩
/-- FS_CTRL.TEST_GO (12). -/
def Rg.FS_CTRL.TEST_GO : Fld := ⟨0x210, 1, 1, .wo, 0x0, .val⟩

/-- FS_CFG.RUN_MIN (12). -/
def Rg.FS_CFG.RUN_MIN : Fld := ⟨0x218, 0, 16, .rwl, 0x64, .val⟩
/-- FS_CFG.XMIS_MS (12). -/
def Rg.FS_CFG.XMIS_MS : Fld := ⟨0x218, 16, 16, .rwl, 0x1f4, .val⟩
/-- FS_CFG.REL_SLOT (12). -/
def Rg.FS_CFG.REL_SLOT : Fld := ⟨0x218, 32, 8, .rwl, 0x0, .img⟩
/-- FS_CFG.NET_EN (12). -/
def Rg.FS_CFG.NET_EN : Fld := ⟨0x218, 40, 1, .rwl, 0x0, .val⟩

/-- FS_PORT.ACTIVE (12). -/
def Rg.FS_PORT.ACTIVE : Fld := ⟨0x238, 0, 8, .ro, 0x0, .val⟩
/-- FS_PORT.MISS (12). -/
def Rg.FS_PORT.MISS : Fld := ⟨0x238, 8, 8, .w1c, 0x0, .val⟩
/-- FS_PORT.SEEN (12). -/
def Rg.FS_PORT.SEEN : Fld := ⟨0x238, 16, 8, .ro, 0x0, .val⟩

/-- FS_EVT.LATCH (12). -/
def Rg.FS_EVT.LATCH : Fld := ⟨0x240, 0, 1, .w1c, 0x1, .val⟩
/-- FS_EVT.RELEASE (12). -/
def Rg.FS_EVT.RELEASE : Fld := ⟨0x240, 1, 1, .w1c, 0x0, .val⟩
/-- FS_EVT.REL_REFUSED (12). -/
def Rg.FS_EVT.REL_REFUSED : Fld := ⟨0x240, 2, 1, .w1c, 0x0, .val⟩
/-- FS_EVT.DISAG0 (12). -/
def Rg.FS_EVT.DISAG0 : Fld := ⟨0x240, 3, 1, .w1c, 0x0, .val⟩
/-- FS_EVT.DISAG1 (12). -/
def Rg.FS_EVT.DISAG1 : Fld := ⟨0x240, 4, 1, .w1c, 0x0, .val⟩
/-- FS_EVT.XMIS (12). -/
def Rg.FS_EVT.XMIS : Fld := ⟨0x240, 5, 1, .w1c, 0x0, .val⟩
/-- FS_EVT.HM_MISS (12). -/
def Rg.FS_EVT.HM_MISS : Fld := ⟨0x240, 6, 1, .w1c, 0x0, .val⟩
/-- FS_EVT.SS_MISMATCH (12). -/
def Rg.FS_EVT.SS_MISMATCH : Fld := ⟨0x240, 7, 1, .w1c, 0x0, .val⟩
/-- FS_EVT.SS_FAULT (12). -/
def Rg.FS_EVT.SS_FAULT : Fld := ⟨0x240, 8, 1, .w1c, 0x0, .val⟩
/-- FS_EVT.TEST_DONE (12). -/
def Rg.FS_EVT.TEST_DONE : Fld := ⟨0x240, 9, 1, .w1c, 0x0, .val⟩

/-- FS_RES.RESULT (12). -/
def Rg.FS_RES.RESULT : Fld := ⟨0x248, 0, 4, .ro, 0x0, .val⟩

/-- FS_PEPOCH.EPOCH (12). -/
def Rg.FS_PEPOCH.EPOCH : Fld := ⟨0x250, 0, 16, .ro, 0x0, .val⟩

/-! ### 13_tracks_tasks.md -/

/-- TK_ID.VERSION (13). -/
def Rg.TK_ID.VERSION : Fld := ⟨0x0, 0, 16, .ro, 0x100, .val⟩
/-- TK_ID.INSTANCE (13). -/
def Rg.TK_ID.INSTANCE : Fld := ⟨0x0, 16, 2, .ro, 0x0, .inst⟩
/-- TK_ID.LANES (13). -/
def Rg.TK_ID.LANES : Fld := ⟨0x0, 18, 7, .ro, 0x0, .img⟩

/-- TK_CFG.CLEAR (13). -/
def Rg.TK_CFG.CLEAR : Fld := ⟨0x8, 0, 12, .rw, 0x1f4, .val⟩
/-- TK_CFG.T_MARGIN (13). -/
def Rg.TK_CFG.T_MARGIN : Fld := ⟨0x8, 12, 12, .rw, 0x3e8, .val⟩
/-- TK_CFG.LEAD (13). -/
def Rg.TK_CFG.LEAD : Fld := ⟨0x8, 24, 12, .rw, 0x7d0, .val⟩
/-- TK_CFG.START_TOL (13). -/
def Rg.TK_CFG.START_TOL : Fld := ⟨0x8, 36, 12, .rw, 0x32, .val⟩
/-- TK_CFG.LOOK (13). -/
def Rg.TK_CFG.LOOK : Fld := ⟨0x8, 48, 8, .rw, 0x32, .val⟩
/-- TK_CFG.OVL (13). -/
def Rg.TK_CFG.OVL : Fld := ⟨0x8, 56, 7, .rw, 0xa, .val⟩

/-- TK_CTRL.EN (13). -/
def Rg.TK_CTRL.EN : Fld := ⟨0x10, 0, 1, .rw, 0x0, .val⟩
/-- TK_CTRL.CNT_CLR (13). -/
def Rg.TK_CTRL.CNT_CLR : Fld := ⟨0x10, 1, 1, .wo, 0x0, .val⟩

/-- TK_STAT.RUN (13). -/
def Rg.TK_STAT.RUN : Fld := ⟨0x18, 0, 1, .ro, 0x0, .val⟩
/-- TK_STAT.REFUSE (13). -/
def Rg.TK_STAT.REFUSE : Fld := ⟨0x18, 1, 2, .ro, 0x0, .val⟩
/-- TK_STAT.HOME (13). -/
def Rg.TK_STAT.HOME : Fld := ⟨0x18, 3, 1, .ro, 0x0, .val⟩
/-- TK_STAT.IODS (13). -/
def Rg.TK_STAT.IODS : Fld := ⟨0x18, 4, 3, .ro, 0x0, .val⟩

/-- TK_AREA.ADDR (13). -/
def Rg.TK_AREA.ADDR : Fld := ⟨0x20, 0, 40, .rw, 0x0, .val⟩
/-- TK_AREA.COUNT (13). -/
def Rg.TK_AREA.COUNT : Fld := ⟨0x20, 40, 20, .rw, 0x0, .val⟩

/-- TK_SUB.INDEX (13). -/
def Rg.TK_SUB.INDEX : Fld := ⟨0x28, 0, 20, .wo, 0x0, .val⟩
/-- TK_SUB.LANE (13). -/
def Rg.TK_SUB.LANE : Fld := ⟨0x28, 20, 6, .wo, 0x0, .val⟩
/-- TK_SUB.HOLD (13). -/
def Rg.TK_SUB.HOLD : Fld := ⟨0x28, 26, 1, .wo, 0x0, .val⟩
/-- TK_SUB.PRIO (13). -/
def Rg.TK_SUB.PRIO : Fld := ⟨0x28, 27, 3, .wo, 0x0, .val⟩

/-- TK_SUBRES.STATUS (13). -/
def Rg.TK_SUBRES.STATUS : Fld := ⟨0x30, 0, 4, .ro, 0x0, .val⟩
/-- TK_SUBRES.HANDLE (13). -/
def Rg.TK_SUBRES.HANDLE : Fld := ⟨0x30, 4, 22, .ro, 0x0, .val⟩

/-- TK_PRES.RESULT (13). -/
def Rg.TK_PRES.RESULT : Fld := ⟨0x38, 0, 2, .ro, 0x0, .val⟩
/-- TK_PRES.PROFILE (13). -/
def Rg.TK_PRES.PROFILE : Fld := ⟨0x38, 2, 5, .ro, 0x0, .val⟩
/-- TK_PRES.LANE (13). -/
def Rg.TK_PRES.LANE : Fld := ⟨0x38, 7, 6, .ro, 0x0, .val⟩

/-- TK_EVT.REFUSED (13). -/
def Rg.TK_EVT.REFUSED : Fld := ⟨0x40, 0, 1, .w1c, 0x0, .val⟩
/-- TK_EVT.ORIGIN_CHG (13). -/
def Rg.TK_EVT.ORIGIN_CHG : Fld := ⟨0x40, 1, 1, .w1c, 0x0, .val⟩
/-- TK_EVT.PROF_REFUSED (13). -/
def Rg.TK_EVT.PROF_REFUSED : Fld := ⟨0x40, 2, 1, .w1c, 0x0, .val⟩
/-- TK_EVT.CONFLICT (13). -/
def Rg.TK_EVT.CONFLICT : Fld := ⟨0x40, 3, 1, .w1c, 0x0, .val⟩
/-- TK_EVT.LATE_SW (13). -/
def Rg.TK_EVT.LATE_SW : Fld := ⟨0x40, 4, 1, .w1c, 0x0, .val⟩
/-- TK_EVT.LAG (13). -/
def Rg.TK_EVT.LAG : Fld := ⟨0x40, 5, 1, .w1c, 0x0, .val⟩
/-- TK_EVT.CFG_LOCKED (13). -/
def Rg.TK_EVT.CFG_LOCKED : Fld := ⟨0x40, 6, 1, .w1c, 0x0, .val⟩
/-- TK_EVT.TABLE_FULL (13). -/
def Rg.TK_EVT.TABLE_FULL : Fld := ⟨0x40, 7, 1, .w1c, 0x0, .val⟩

/-- TK_CNT.CONFLICT (13). -/
def Rg.TK_CNT.CONFLICT : Fld := ⟨0x48, 0, 16, .ro, 0x0, .val⟩
/-- TK_CNT.LAG (13). -/
def Rg.TK_CNT.LAG : Fld := ⟨0x48, 16, 16, .ro, 0x0, .val⟩
/-- TK_CNT.GAP (13). -/
def Rg.TK_CNT.GAP : Fld := ⟨0x48, 32, 16, .ro, 0x0, .val⟩
/-- TK_CNT.LATE_SW (13). -/
def Rg.TK_CNT.LATE_SW : Fld := ⟨0x48, 48, 16, .ro, 0x0, .val⟩

/-- TK_PROFV.V_START (13). -/
def Rg.TK_PROFV.V_START : Fld := ⟨0x100, 0, 16, .rw, 0x0, .val⟩
/-- TK_PROFV.V_STOP (13). -/
def Rg.TK_PROFV.V_STOP : Fld := ⟨0x100, 16, 16, .rw, 0x0, .val⟩
/-- TK_PROFV.V_KNEE (13). -/
def Rg.TK_PROFV.V_KNEE : Fld := ⟨0x100, 32, 16, .rw, 0x0, .val⟩
/-- TK_PROFV.V_MAX (13). -/
def Rg.TK_PROFV.V_MAX : Fld := ⟨0x100, 48, 16, .rw, 0x0, .val⟩

/-- TK_PROFA.A1 (13). -/
def Rg.TK_PROFA.A1 : Fld := ⟨0x108, 0, 16, .rw, 0x0, .val⟩
/-- TK_PROFA.A2 (13). -/
def Rg.TK_PROFA.A2 : Fld := ⟨0x108, 16, 16, .rw, 0x0, .val⟩
/-- TK_PROFA.D1 (13). -/
def Rg.TK_PROFA.D1 : Fld := ⟨0x108, 32, 16, .rw, 0x0, .val⟩
/-- TK_PROFA.D2 (13). -/
def Rg.TK_PROFA.D2 : Fld := ⟨0x108, 48, 16, .rw, 0x0, .val⟩

/-- TR_REQ4.HALF_W (13). -/
def Rg.TR_REQ4.HALF_W : Fld := ⟨0x428, 0, 16, .rw, 0x0, .val⟩
/-- TR_REQ4.OP (13). -/
def Rg.TR_REQ4.OP : Fld := ⟨0x428, 16, 1, .rw, 0x0, .val⟩
/-- TR_REQ4.GO (13). -/
def Rg.TR_REQ4.GO : Fld := ⟨0x428, 17, 1, .wo, 0x0, .val⟩
/-- TR_REQ4.ID (13). -/
def Rg.TR_REQ4.ID : Fld := ⟨0x428, 18, 16, .rw, 0x0, .val⟩

/-- TR_RES.STATUS (13). -/
def Rg.TR_RES.STATUS : Fld := ⟨0x430, 0, 4, .ro, 0x0, .val⟩
/-- TR_RES.ID (13). -/
def Rg.TR_RES.ID : Fld := ⟨0x430, 4, 16, .ro, 0x0, .val⟩
/-- TR_RES.WITH (13). -/
def Rg.TR_RES.WITH : Fld := ⟨0x430, 20, 16, .ro, 0x0, .val⟩
/-- TR_RES.OWNER (13). -/
def Rg.TR_RES.OWNER : Fld := ⟨0x430, 36, 9, .ro, 0x0, .val⟩

/-- CV_GEOM.NX (13). -/
def Rg.CV_GEOM.NX : Fld := ⟨0x510, 0, 16, .rw, 0x0, .val⟩
/-- CV_GEOM.NY (13). -/
def Rg.CV_GEOM.NY : Fld := ⟨0x510, 16, 16, .rw, 0x0, .val⟩
/-- CV_GEOM.CS (13). -/
def Rg.CV_GEOM.CS : Fld := ⟨0x510, 32, 10, .rw, 0x64, .val⟩

/-- TM_CFG.TASK_FLOW (13). -/
def Rg.TM_CFG.TASK_FLOW : Fld := ⟨0x1000, 0, 13, .rw, 0x0, .val⟩
/-- TM_CFG.SW_FLOW (13). -/
def Rg.TM_CFG.SW_FLOW : Fld := ⟨0x1000, 13, 13, .rw, 0x0, .val⟩
/-- TM_CFG.BACK (13). -/
def Rg.TM_CFG.BACK : Fld := ⟨0x1000, 26, 16, .rw, 0x0, .val⟩
/-- TM_CFG.AUTO_RESUME (13). -/
def Rg.TM_CFG.AUTO_RESUME : Fld := ⟨0x1000, 42, 1, .rw, 0x0, .val⟩

/-- TM_CTRL.PAUSE (13). -/
def Rg.TM_CTRL.PAUSE : Fld := ⟨0x1008, 0, 1, .wo, 0x0, .val⟩
/-- TM_CTRL.RESUME (13). -/
def Rg.TM_CTRL.RESUME : Fld := ⟨0x1008, 1, 1, .wo, 0x0, .val⟩
/-- TM_CTRL.ABORT (13). -/
def Rg.TM_CTRL.ABORT : Fld := ⟨0x1008, 2, 1, .wo, 0x0, .val⟩

/-- TM_STAT.STATE (13). -/
def Rg.TM_STAT.STATE : Fld := ⟨0x1010, 0, 3, .ro, 0x0, .val⟩
/-- TM_STAT.PERMIT (13). -/
def Rg.TM_STAT.PERMIT : Fld := ⟨0x1010, 3, 1, .ro, 0x0, .val⟩
/-- TM_STAT.JOINED (13). -/
def Rg.TM_STAT.JOINED : Fld := ⟨0x1010, 4, 1, .ro, 0x0, .val⟩
/-- TM_STAT.HALTED (13). -/
def Rg.TM_STAT.HALTED : Fld := ⟨0x1010, 5, 1, .ro, 0x0, .val⟩
/-- TM_STAT.HOLD_CAUSE (13). -/
def Rg.TM_STAT.HOLD_CAUSE : Fld := ⟨0x1010, 6, 2, .ro, 0x0, .val⟩
/-- TM_STAT.FIX (13). -/
def Rg.TM_STAT.FIX : Fld := ⟨0x1010, 8, 1, .ro, 0x0, .val⟩
/-- TM_STAT.HANDLE (13). -/
def Rg.TM_STAT.HANDLE : Fld := ⟨0x1010, 10, 22, .ro, 0x0, .val⟩
/-- TM_STAT.SEG (13). -/
def Rg.TM_STAT.SEG : Fld := ⟨0x1010, 32, 16, .ro, 0x0, .val⟩

/-- TM_DONE.HANDLE (13). -/
def Rg.TM_DONE.HANDLE : Fld := ⟨0x1030, 0, 22, .ro, 0x0, .val⟩
/-- TM_DONE.STATUS (13). -/
def Rg.TM_DONE.STATUS : Fld := ⟨0x1030, 22, 1, .ro, 0x0, .val⟩

/-- TM_EVT.DONE (13). -/
def Rg.TM_EVT.DONE : Fld := ⟨0x1040, 0, 1, .w1c, 0x0, .val⟩
/-- TM_EVT.PAUSED (13). -/
def Rg.TM_EVT.PAUSED : Fld := ⟨0x1040, 1, 1, .w1c, 0x0, .val⟩
/-- TM_EVT.WAIT_RES (13). -/
def Rg.TM_EVT.WAIT_RES : Fld := ⟨0x1040, 2, 1, .w1c, 0x0, .val⟩
/-- TM_EVT.HOLD (13). -/
def Rg.TM_EVT.HOLD : Fld := ⟨0x1040, 3, 1, .w1c, 0x0, .val⟩
/-- TM_EVT.CFG_LOCKED (13). -/
def Rg.TM_EVT.CFG_LOCKED : Fld := ⟨0x1040, 4, 1, .w1c, 0x0, .val⟩

/-! ### 14_ethernet_failover.md -/

/-- ETH_CFG.EN (14). -/
def Rg.ETH_CFG.EN : Fld := ⟨0x0, 0, 1, .rw, 0x0, .val⟩
/-- ETH_CFG.PAIR_EN (14). -/
def Rg.ETH_CFG.PAIR_EN : Fld := ⟨0x0, 1, 1, .rw, 0x0, .val⟩
/-- ETH_CFG.MAXFRAME (14). -/
def Rg.ETH_CFG.MAXFRAME : Fld := ⟨0x0, 2, 14, .rw, 0x5ee, .val⟩
/-- ETH_CFG.PTP_ROLE (14). -/
def Rg.ETH_CFG.PTP_ROLE : Fld := ⟨0x0, 16, 2, .rw, 0x0, .val⟩
/-- ETH_CFG.ONE_STEP (14). -/
def Rg.ETH_CFG.ONE_STEP : Fld := ⟨0x0, 18, 1, .rw, 0x0, .val⟩
/-- ETH_CFG.P2P (14). -/
def Rg.ETH_CFG.P2P : Fld := ⟨0x0, 19, 1, .rw, 0x0, .val⟩
/-- ETH_CFG.PTP_TRANSPORT (14). -/
def Rg.ETH_CFG.PTP_TRANSPORT : Fld := ⟨0x0, 20, 2, .rw, 0x0, .val⟩
/-- ETH_CFG.PTP_DOMAIN (14). -/
def Rg.ETH_CFG.PTP_DOMAIN : Fld := ⟨0x0, 22, 8, .rw, 0x0, .val⟩

/-- ETH_MAC.MAC (14). -/
def Rg.ETH_MAC.MAC : Fld := ⟨0x8, 0, 48, .rw, 0x0, .fuse⟩

/-- ETH_STAT.LINK (14). -/
def Rg.ETH_STAT.LINK : Fld := ⟨0x10, 0, 1, .ro, 0x0, .val⟩
/-- ETH_STAT.SPEED (14). -/
def Rg.ETH_STAT.SPEED : Fld := ⟨0x10, 1, 2, .ro, 0x0, .val⟩
/-- ETH_STAT.UP_ROLE (14). -/
def Rg.ETH_STAT.UP_ROLE : Fld := ⟨0x10, 3, 3, .ro, 0x0, .val⟩
/-- ETH_STAT.MISS (14). -/
def Rg.ETH_STAT.MISS : Fld := ⟨0x10, 6, 2, .ro, 0x0, .val⟩
/-- ETH_STAT.PTP_STATE (14). -/
def Rg.ETH_STAT.PTP_STATE : Fld := ⟨0x10, 8, 4, .rw, 0x0, .val⟩

/-- ETH_EVT.LINK_CHG (14). -/
def Rg.ETH_EVT.LINK_CHG : Fld := ⟨0x18, 0, 1, .w1c, 0x0, .val⟩
/-- ETH_EVT.HB_LOSS (14). -/
def Rg.ETH_EVT.HB_LOSS : Fld := ⟨0x18, 1, 1, .w1c, 0x0, .val⟩
/-- ETH_EVT.FAILOVER (14). -/
def Rg.ETH_EVT.FAILOVER : Fld := ⟨0x18, 2, 1, .w1c, 0x0, .val⟩
/-- ETH_EVT.STANDBY (14). -/
def Rg.ETH_EVT.STANDBY : Fld := ⟨0x18, 3, 1, .w1c, 0x0, .val⟩
/-- ETH_EVT.FLUSH (14). -/
def Rg.ETH_EVT.FLUSH : Fld := ⟨0x18, 4, 1, .w1c, 0x0, .val⟩
/-- ETH_EVT.TX_DROP (14). -/
def Rg.ETH_EVT.TX_DROP : Fld := ⟨0x18, 5, 1, .w1c, 0x0, .val⟩
/-- ETH_EVT.TS_OVF (14). -/
def Rg.ETH_EVT.TS_OVF : Fld := ⟨0x18, 6, 1, .w1c, 0x0, .val⟩
/-- ETH_EVT.SWTX_ERR (14). -/
def Rg.ETH_EVT.SWTX_ERR : Fld := ⟨0x18, 7, 1, .w1c, 0x0, .val⟩
/-- ETH_EVT.CFG_LOCKED (14). -/
def Rg.ETH_EVT.CFG_LOCKED : Fld := ⟨0x18, 8, 1, .w1c, 0x0, .val⟩

/-- ETH_CNT.RX_OK (14). -/
def Rg.ETH_CNT.RX_OK : Fld := ⟨0x20, 0, 32, .ro, 0x0, .val⟩
/-- ETH_CNT.TX_OK (14). -/
def Rg.ETH_CNT.TX_OK : Fld := ⟨0x20, 32, 32, .ro, 0x0, .val⟩

/-- ETH_CNT2.RX_DROP (14). -/
def Rg.ETH_CNT2.RX_DROP : Fld := ⟨0x28, 0, 16, .ro, 0x0, .val⟩
/-- ETH_CNT2.TX_DROP (14). -/
def Rg.ETH_CNT2.TX_DROP : Fld := ⟨0x28, 16, 16, .ro, 0x0, .val⟩
/-- ETH_CNT2.FLUSHED (14). -/
def Rg.ETH_CNT2.FLUSHED : Fld := ⟨0x28, 32, 16, .ro, 0x0, .val⟩
/-- ETH_CNT2.DUP_TX (14). -/
def Rg.ETH_CNT2.DUP_TX : Fld := ⟨0x28, 48, 16, .ro, 0x0, .val⟩

/-- ETH_RULE.EN (14). -/
def Rg.ETH_RULE.EN : Fld := ⟨0x100, 0, 1, .rw, 0x0, .val⟩
/-- ETH_RULE.MATCH (14). -/
def Rg.ETH_RULE.MATCH : Fld := ⟨0x100, 1, 2, .rw, 0x0, .val⟩
/-- ETH_RULE.LOW (14). -/
def Rg.ETH_RULE.LOW : Fld := ⟨0x100, 3, 16, .rw, 0x0, .val⟩
/-- ETH_RULE.HIGH (14). -/
def Rg.ETH_RULE.HIGH : Fld := ⟨0x100, 19, 16, .rw, 0x0, .val⟩
/-- ETH_RULE.KIND (14). -/
def Rg.ETH_RULE.KIND : Fld := ⟨0x100, 35, 1, .rw, 0x0, .val⟩
/-- ETH_RULE.POS (14). -/
def Rg.ETH_RULE.POS : Fld := ⟨0x100, 36, 7, .rw, 0x0, .val⟩
/-- ETH_RULE.FLOW (14). -/
def Rg.ETH_RULE.FLOW : Fld := ⟨0x100, 43, 13, .rw, 0x0, .val⟩

/-- ETH_DEF.DROP (14). -/
def Rg.ETH_DEF.DROP : Fld := ⟨0x200, 0, 1, .rw, 0x1, .val⟩
/-- ETH_DEF.FLOW (14). -/
def Rg.ETH_DEF.FLOW : Fld := ⟨0x200, 1, 13, .rw, 0x0, .val⟩

/-- ETH_TSFIFO.TS (14). -/
def Rg.ETH_TSFIFO.TS : Fld := ⟨0x300, 0, 64, .ro, 0x0, .val⟩

/-- ETH_TSINFO.SUB (14). -/
def Rg.ETH_TSINFO.SUB : Fld := ⟨0x308, 0, 8, .ro, 0x0, .val⟩
/-- ETH_TSINFO.SEQID (14). -/
def Rg.ETH_TSINFO.SEQID : Fld := ⟨0x308, 8, 16, .ro, 0x0, .val⟩
/-- ETH_TSINFO.MSGTYPE (14). -/
def Rg.ETH_TSINFO.MSGTYPE : Fld := ⟨0x308, 24, 4, .ro, 0x0, .val⟩
/-- ETH_TSINFO.GEN (14). -/
def Rg.ETH_TSINFO.GEN : Fld := ⟨0x308, 28, 4, .ro, 0x0, .val⟩
/-- ETH_TSINFO.VALID (14). -/
def Rg.ETH_TSINFO.VALID : Fld := ⟨0x308, 32, 1, .ro, 0x0, .val⟩
/-- ETH_TSINFO.OVF (14). -/
def Rg.ETH_TSINFO.OVF : Fld := ⟨0x308, 33, 1, .ro, 0x0, .val⟩

/-- ETH_SWTX.ADDR (14). -/
def Rg.ETH_SWTX.ADDR : Fld := ⟨0x400, 0, 40, .rw, 0x0, .val⟩
/-- ETH_SWTX.LEN (14). -/
def Rg.ETH_SWTX.LEN : Fld := ⟨0x400, 40, 14, .rw, 0x0, .val⟩

/-- ETH_SWTX_CTL.GO (14). -/
def Rg.ETH_SWTX_CTL.GO : Fld := ⟨0x408, 0, 1, .wo, 0x0, .val⟩
/-- ETH_SWTX_CTL.FREE (14). -/
def Rg.ETH_SWTX_CTL.FREE : Fld := ⟨0x408, 1, 5, .ro, 0x10, .val⟩

/-- ETH_LP.AN_WORD (14). -/
def Rg.ETH_LP.AN_WORD : Fld := ⟨0x500, 0, 16, .ro, 0x0, .val⟩
/-- ETH_LP.AN_DONE (14). -/
def Rg.ETH_LP.AN_DONE : Fld := ⟨0x500, 16, 1, .ro, 0x0, .val⟩
/-- ETH_LP.LLDP_SEEN (14). -/
def Rg.ETH_LP.LLDP_SEEN : Fld := ⟨0x500, 17, 1, .ro, 0x0, .val⟩
/-- ETH_LP.GM_CLASS (14). -/
def Rg.ETH_LP.GM_CLASS : Fld := ⟨0x500, 18, 8, .rw, 0xff, .val⟩
/-- ETH_LP.GM_ACC (14). -/
def Rg.ETH_LP.GM_ACC : Fld := ⟨0x500, 26, 8, .rw, 0xfe, .val⟩

/-- ETH_LP_ID.CHASSIS (14). -/
def Rg.ETH_LP_ID.CHASSIS : Fld := ⟨0x508, 0, 64, .ro, 0x0, .val⟩

/-- UP_CFG.HB_EN (14). -/
def Rg.UP_CFG.HB_EN : Fld := ⟨0x800, 0, 1, .rw, 0x1, .val⟩
/-- UP_CFG.REPAIR_MS (14). -/
def Rg.UP_CFG.REPAIR_MS : Fld := ⟨0x800, 1, 10, .rw, 0x3e8, .val⟩
/-- UP_CFG.PTP_REQ (14). -/
def Rg.UP_CFG.PTP_REQ : Fld := ⟨0x800, 11, 1, .rw, 0x1, .val⟩

/-- UP_PEER.MAC (14). -/
def Rg.UP_PEER.MAC : Fld := ⟨0x808, 0, 48, .rw, 0x0, .val⟩

/-- UP_CTRL.SWITCH (14). -/
def Rg.UP_CTRL.SWITCH : Fld := ⟨0x810, 0, 1, .wo, 0x0, .val⟩

/-- UP_STAT.ACTIVE (14). -/
def Rg.UP_STAT.ACTIVE : Fld := ⟨0x818, 0, 1, .ro, 0x0, .val⟩
/-- UP_STAT.STATE (14). -/
def Rg.UP_STAT.STATE : Fld := ⟨0x818, 1, 2, .ro, 0x2, .val⟩
/-- UP_STAT.SW_RES (14). -/
def Rg.UP_STAT.SW_RES : Fld := ⟨0x818, 3, 2, .ro, 0x0, .val⟩
/-- UP_STAT.SWITCHES (14). -/
def Rg.UP_STAT.SWITCHES : Fld := ⟨0x818, 16, 16, .ro, 0x0, .val⟩

/-- UP_LAST.INSTANT (14). -/
def Rg.UP_LAST.INSTANT : Fld := ⟨0x820, 0, 64, .ro, 0x0, .val⟩

/-- PK_ID.VERSION (14). -/
def Rg.PK_ID.VERSION : Fld := ⟨0x0, 0, 16, .ro, 0x100, .val⟩
/-- PK_ID.INSTANCE (14). -/
def Rg.PK_ID.INSTANCE : Fld := ⟨0x0, 16, 3, .ro, 0x0, .inst⟩
/-- PK_ID.LANES (14). -/
def Rg.PK_ID.LANES : Fld := ⟨0x0, 19, 11, .ro, 0x0, .img⟩

/-- PK_CFG.DEF_EN (14). -/
def Rg.PK_CFG.DEF_EN : Fld := ⟨0x8, 0, 1, .rw, 0x0, .val⟩
/-- PK_CFG.DEF_FLOW (14). -/
def Rg.PK_CFG.DEF_FLOW : Fld := ⟨0x8, 1, 13, .rw, 0x0, .val⟩

/-- PK_EVT.REFUSED (14). -/
def Rg.PK_EVT.REFUSED : Fld := ⟨0x18, 0, 1, .w1c, 0x0, .val⟩
/-- PK_EVT.OWNED (14). -/
def Rg.PK_EVT.OWNED : Fld := ⟨0x18, 1, 1, .w1c, 0x0, .val⟩
/-- PK_EVT.TX_DROP (14). -/
def Rg.PK_EVT.TX_DROP : Fld := ⟨0x18, 2, 1, .w1c, 0x0, .val⟩
/-- PK_EVT.TOO_LONG (14). -/
def Rg.PK_EVT.TOO_LONG : Fld := ⟨0x18, 3, 1, .w1c, 0x0, .val⟩
/-- PK_EVT.HDR_ERR (14). -/
def Rg.PK_EVT.HDR_ERR : Fld := ⟨0x18, 4, 1, .w1c, 0x0, .val⟩
/-- PK_EVT.CFG_LOCKED (14). -/
def Rg.PK_EVT.CFG_LOCKED : Fld := ⟨0x18, 5, 1, .w1c, 0x0, .val⟩

/-- PK_CNT.HDR_ERR (14). -/
def Rg.PK_CNT.HDR_ERR : Fld := ⟨0x20, 0, 16, .ro, 0x0, .val⟩
/-- PK_CNT.NOMATCH (14). -/
def Rg.PK_CNT.NOMATCH : Fld := ⟨0x20, 16, 16, .ro, 0x0, .val⟩
/-- PK_CNT.TX_DROP (14). -/
def Rg.PK_CNT.TX_DROP : Fld := ⟨0x20, 32, 16, .ro, 0x0, .val⟩
/-- PK_CNT.TOO_LONG (14). -/
def Rg.PK_CNT.TOO_LONG : Fld := ⟨0x20, 48, 16, .ro, 0x0, .val⟩

/-- PC_CFG.EN (14). -/
def Rg.PC_CFG.EN : Fld := ⟨0x100, 0, 1, .rw, 0x0, .val⟩
/-- PC_CFG.KIND (14). -/
def Rg.PC_CFG.KIND : Fld := ⟨0x100, 1, 3, .rw, 0x0, .val⟩
/-- PC_CFG.PROTO (14). -/
def Rg.PC_CFG.PROTO : Fld := ⟨0x100, 4, 2, .rw, 0x0, .val⟩
/-- PC_CFG.V6 (14). -/
def Rg.PC_CFG.V6 : Fld := ⟨0x100, 6, 1, .rw, 0x0, .val⟩
/-- PC_CFG.WILD (14). -/
def Rg.PC_CFG.WILD : Fld := ⟨0x100, 7, 1, .rw, 0x0, .val⟩
/-- PC_CFG.OWNED (14). -/
def Rg.PC_CFG.OWNED : Fld := ⟨0x100, 8, 1, .ro, 0x0, .val⟩
/-- PC_CFG.IN_PORT (14). -/
def Rg.PC_CFG.IN_PORT : Fld := ⟨0x100, 9, 3, .rw, 0x0, .val⟩
/-- PC_CFG.CONC (14). -/
def Rg.PC_CFG.CONC : Fld := ⟨0x100, 12, 4, .rw, 0x0, .val⟩
/-- PC_CFG.SW_FLOW (14). -/
def Rg.PC_CFG.SW_FLOW : Fld := ⟨0x100, 16, 13, .rw, 0x0, .val⟩
/-- PC_CFG.DST_POS (14). -/
def Rg.PC_CFG.DST_POS : Fld := ⟨0x100, 29, 7, .rw, 0x0, .val⟩
/-- PC_CFG.DST_LANE (14). -/
def Rg.PC_CFG.DST_LANE : Fld := ⟨0x100, 36, 9, .rw, 0x0, .val⟩

/-- PC_PORTS.LPORT (14). -/
def Rg.PC_PORTS.LPORT : Fld := ⟨0x128, 0, 16, .rw, 0x0, .val⟩
/-- PC_PORTS.RPORT (14). -/
def Rg.PC_PORTS.RPORT : Fld := ⟨0x128, 16, 16, .rw, 0x0, .val⟩

/-- PC_TX.PORT (14). -/
def Rg.PC_TX.PORT : Fld := ⟨0x130, 0, 7, .rw, 0x54, .val⟩
/-- PC_TX.DSCP (14). -/
def Rg.PC_TX.DSCP : Fld := ⟨0x130, 7, 6, .rw, 0x0, .val⟩
/-- PC_TX.TTL (14). -/
def Rg.PC_TX.TTL : Fld := ⟨0x130, 13, 8, .rw, 0x40, .val⟩

/-- PC_STAT.RUN (14). -/
def Rg.PC_STAT.RUN : Fld := ⟨0x148, 0, 1, .ro, 0x0, .val⟩
/-- PC_STAT.REFUSE (14). -/
def Rg.PC_STAT.REFUSE : Fld := ⟨0x148, 1, 2, .ro, 0x0, .val⟩
/-- PC_STAT.GAP (14). -/
def Rg.PC_STAT.GAP : Fld := ⟨0x148, 3, 1, .ro, 0x0, .val⟩

/-- PC_CNT.RX (14). -/
def Rg.PC_CNT.RX : Fld := ⟨0x150, 0, 24, .ro, 0x0, .val⟩
/-- PC_CNT.TX (14). -/
def Rg.PC_CNT.TX : Fld := ⟨0x150, 24, 24, .ro, 0x0, .val⟩
/-- PC_CNT.DROP (14). -/
def Rg.PC_CNT.DROP : Fld := ⟨0x150, 48, 16, .ro, 0x0, .val⟩

/-! ### 15_can.md -/

/-- CN_ID.VERSION (15). -/
def Rg.CN_ID.VERSION : Fld := ⟨0x0, 0, 16, .ro, 0x100, .val⟩
/-- CN_ID.INSTANCE (15). -/
def Rg.CN_ID.INSTANCE : Fld := ⟨0x0, 16, 2, .ro, 0x0, .inst⟩

/-- CN_CFG.OPMODE (15). -/
def Rg.CN_CFG.OPMODE : Fld := ⟨0x8, 0, 2, .rw, 0x0, .val⟩
/-- CN_CFG.FD_EN (15). -/
def Rg.CN_CFG.FD_EN : Fld := ⟨0x8, 2, 1, .rw, 0x0, .val⟩
/-- CN_CFG.DAR (15). -/
def Rg.CN_CFG.DAR : Fld := ⟨0x8, 3, 1, .rw, 0x0, .val⟩
/-- CN_CFG.AUTO_BOR (15). -/
def Rg.CN_CFG.AUTO_BOR : Fld := ⟨0x8, 4, 1, .rw, 0x1, .val⟩
/-- CN_CFG.TDC_EN (15). -/
def Rg.CN_CFG.TDC_EN : Fld := ⟨0x8, 5, 1, .rw, 0x1, .val⟩
/-- CN_CFG.LOCK_MS (15). -/
def Rg.CN_CFG.LOCK_MS : Fld := ⟨0x8, 6, 4, .rw, 0x2, .val⟩
/-- CN_CFG.TT_EN (15). -/
def Rg.CN_CFG.TT_EN : Fld := ⟨0x8, 10, 1, .rw, 0x0, .val⟩
/-- CN_CFG.TT_MASTER (15). -/
def Rg.CN_CFG.TT_MASTER : Fld := ⟨0x8, 11, 1, .rw, 0x0, .val⟩

/-- CN_CTRL.EN (15). -/
def Rg.CN_CTRL.EN : Fld := ⟨0x10, 0, 1, .rw, 0x0, .val⟩
/-- CN_CTRL.BOR_REQ (15). -/
def Rg.CN_CTRL.BOR_REQ : Fld := ⟨0x10, 1, 1, .wo, 0x0, .val⟩
/-- CN_CTRL.ADR_GO (15). -/
def Rg.CN_CTRL.ADR_GO : Fld := ⟨0x10, 2, 1, .wo, 0x0, .val⟩
/-- CN_CTRL.ADR_ABORT (15). -/
def Rg.CN_CTRL.ADR_ABORT : Fld := ⟨0x10, 3, 1, .wo, 0x0, .val⟩
/-- CN_CTRL.CNT_CLR (15). -/
def Rg.CN_CTRL.CNT_CLR : Fld := ⟨0x10, 4, 1, .wo, 0x0, .val⟩

/-- CN_NBT.BRP (15). -/
def Rg.CN_NBT.BRP : Fld := ⟨0x18, 0, 8, .rw, 0x3, .val⟩
/-- CN_NBT.TSEG1 (15). -/
def Rg.CN_NBT.TSEG1 : Fld := ⟨0x18, 8, 8, .rw, 0x1e, .val⟩
/-- CN_NBT.TSEG2 (15). -/
def Rg.CN_NBT.TSEG2 : Fld := ⟨0x18, 16, 7, .rw, 0x7, .val⟩
/-- CN_NBT.SJW (15). -/
def Rg.CN_NBT.SJW : Fld := ⟨0x18, 23, 7, .rw, 0x0, .val⟩

/-- CN_DBT.BRP (15). -/
def Rg.CN_DBT.BRP : Fld := ⟨0x20, 0, 5, .rw, 0x0, .val⟩
/-- CN_DBT.TSEG1 (15). -/
def Rg.CN_DBT.TSEG1 : Fld := ⟨0x20, 5, 5, .rw, 0xe, .val⟩
/-- CN_DBT.TSEG2 (15). -/
def Rg.CN_DBT.TSEG2 : Fld := ⟨0x20, 10, 4, .rw, 0x3, .val⟩
/-- CN_DBT.SJW (15). -/
def Rg.CN_DBT.SJW : Fld := ⟨0x20, 14, 4, .rw, 0x3, .val⟩
/-- CN_DBT.TDCO (15). -/
def Rg.CN_DBT.TDCO : Fld := ⟨0x20, 18, 8, .rw, 0xf, .val⟩

/-- CN_STAT.STATE (15). -/
def Rg.CN_STAT.STATE : Fld := ⟨0x28, 0, 3, .ro, 0x0, .val⟩
/-- CN_STAT.REFUSE (15). -/
def Rg.CN_STAT.REFUSE : Fld := ⟨0x28, 3, 3, .ro, 0x0, .val⟩
/-- CN_STAT.REC (15). -/
def Rg.CN_STAT.REC : Fld := ⟨0x28, 6, 8, .ro, 0x0, .val⟩
/-- CN_STAT.TEC (15). -/
def Rg.CN_STAT.TEC : Fld := ⟨0x28, 14, 9, .ro, 0x0, .val⟩
/-- CN_STAT.LOCKED (15). -/
def Rg.CN_STAT.LOCKED : Fld := ⟨0x28, 23, 1, .ro, 0x0, .val⟩
/-- CN_STAT.SHADOW (15). -/
def Rg.CN_STAT.SHADOW : Fld := ⟨0x28, 24, 1, .ro, 0x0, .val⟩

/-- CN_BUS.LOOP_NS (15). -/
def Rg.CN_BUS.LOOP_NS : Fld := ⟨0x40, 0, 10, .ro, 0x0, .val⟩
/-- CN_BUS.DOM_NS (15). -/
def Rg.CN_BUS.DOM_NS : Fld := ⟨0x40, 10, 10, .ro, 0x0, .val⟩
/-- CN_BUS.REC_NS (15). -/
def Rg.CN_BUS.REC_NS : Fld := ⟨0x40, 20, 10, .ro, 0x0, .val⟩
/-- CN_BUS.STUCK_DOM (15). -/
def Rg.CN_BUS.STUCK_DOM : Fld := ⟨0x40, 30, 1, .ro, 0x0, .val⟩
/-- CN_BUS.NO_TERM (15). -/
def Rg.CN_BUS.NO_TERM : Fld := ⟨0x40, 31, 1, .ro, 0x0, .val⟩
/-- CN_BUS.TERM_THR (15). -/
def Rg.CN_BUS.TERM_THR : Fld := ⟨0x40, 32, 10, .rw, 0xc8, .val⟩

/-- CN_ADR.COUNT (15). -/
def Rg.CN_ADR.COUNT : Fld := ⟨0x48, 0, 3, .rw, 0x0, .val⟩
/-- CN_ADR.DWELL_MS (15). -/
def Rg.CN_ADR.DWELL_MS : Fld := ⟨0x48, 3, 8, .rw, 0x64, .val⟩
/-- CN_ADR.ROUNDS (15). -/
def Rg.CN_ADR.ROUNDS : Fld := ⟨0x48, 11, 4, .rw, 0x3, .val⟩
/-- CN_ADR.RESULT (15). -/
def Rg.CN_ADR.RESULT : Fld := ⟨0x48, 15, 3, .ro, 0x0, .val⟩
/-- CN_ADR.INDEX (15). -/
def Rg.CN_ADR.INDEX : Fld := ⟨0x48, 18, 3, .ro, 0x0, .val⟩

/-- CN_OBJ_CFG.ID (15). -/
def Rg.CN_OBJ_CFG.ID : Fld := ⟨0x108, 0, 29, .rw, 0x0, .val⟩
/-- CN_OBJ_CFG.IDE (15). -/
def Rg.CN_OBJ_CFG.IDE : Fld := ⟨0x108, 29, 1, .rw, 0x0, .val⟩
/-- CN_OBJ_CFG.EN (15). -/
def Rg.CN_OBJ_CFG.EN : Fld := ⟨0x108, 30, 1, .rw, 0x0, .val⟩
/-- CN_OBJ_CFG.DIR (15). -/
def Rg.CN_OBJ_CFG.DIR : Fld := ⟨0x108, 31, 1, .rw, 0x0, .val⟩
/-- CN_OBJ_CFG.DLC (15). -/
def Rg.CN_OBJ_CFG.DLC : Fld := ⟨0x108, 32, 4, .rw, 0x0, .val⟩
/-- CN_OBJ_CFG.FDF (15). -/
def Rg.CN_OBJ_CFG.FDF : Fld := ⟨0x108, 36, 1, .rw, 0x0, .val⟩
/-- CN_OBJ_CFG.BRS (15). -/
def Rg.CN_OBJ_CFG.BRS : Fld := ⟨0x108, 37, 1, .rw, 0x0, .val⟩
/-- CN_OBJ_CFG.IRQ (15). -/
def Rg.CN_OBJ_CFG.IRQ : Fld := ⟨0x108, 38, 1, .rw, 0x0, .val⟩

/-- CN_TXREQ.OBJ (15). -/
def Rg.CN_TXREQ.OBJ : Fld := ⟨0x118, 0, 9, .wo, 0x0, .val⟩
/-- CN_TXREQ.CANCEL (15). -/
def Rg.CN_TXREQ.CANCEL : Fld := ⟨0x118, 9, 1, .wo, 0x0, .val⟩
/-- CN_TXREQ.PENDING (15). -/
def Rg.CN_TXREQ.PENDING : Fld := ⟨0x118, 16, 10, .ro, 0x0, .val⟩

/-- CN_TT_CFG.CYC_US (15). -/
def Rg.CN_TT_CFG.CYC_US : Fld := ⟨0x180, 0, 16, .rw, 0x2710, .val⟩
/-- CN_TT_CFG.REF_OBJ (15). -/
def Rg.CN_TT_CFG.REF_OBJ : Fld := ⟨0x180, 16, 9, .rw, 0x0, .val⟩
/-- CN_TT_CFG.CYCLES (15). -/
def Rg.CN_TT_CFG.CYCLES : Fld := ⟨0x180, 25, 3, .rw, 0x0, .val⟩

/-- CN_TT_WIN.EN (15). -/
def Rg.CN_TT_WIN.EN : Fld := ⟨0x400, 0, 1, .rw, 0x0, .val⟩
/-- CN_TT_WIN.KIND (15). -/
def Rg.CN_TT_WIN.KIND : Fld := ⟨0x400, 1, 1, .rw, 0x0, .val⟩
/-- CN_TT_WIN.OBJ (15). -/
def Rg.CN_TT_WIN.OBJ : Fld := ⟨0x400, 2, 9, .rw, 0x0, .val⟩
/-- CN_TT_WIN.BASE (15). -/
def Rg.CN_TT_WIN.BASE : Fld := ⟨0x400, 11, 6, .rw, 0x0, .val⟩
/-- CN_TT_WIN.REP (15). -/
def Rg.CN_TT_WIN.REP : Fld := ⟨0x400, 17, 3, .rw, 0x0, .val⟩
/-- CN_TT_WIN.START (15). -/
def Rg.CN_TT_WIN.START : Fld := ⟨0x400, 20, 16, .rw, 0x0, .val⟩
/-- CN_TT_WIN.LEN (15). -/
def Rg.CN_TT_WIN.LEN : Fld := ⟨0x400, 36, 16, .rw, 0x0, .val⟩

/-! ### 16_host_dma_memory.md -/

/-- PCIE_STAT.LINK_UP (16). -/
def Rg.PCIE_STAT.LINK_UP : Fld := ⟨0x0, 0, 1, .ro, 0x0, .val⟩
/-- PCIE_STAT.SPEED (16). -/
def Rg.PCIE_STAT.SPEED : Fld := ⟨0x0, 1, 2, .ro, 0x0, .val⟩
/-- PCIE_STAT.WIDTH (16). -/
def Rg.PCIE_STAT.WIDTH : Fld := ⟨0x0, 3, 3, .ro, 0x0, .val⟩
/-- PCIE_STAT.PERST (16). -/
def Rg.PCIE_STAT.PERST : Fld := ⟨0x0, 6, 1, .ro, 0x0, .val⟩

/-- PCIE_CFG.BAR0_WR (16). -/
def Rg.PCIE_CFG.BAR0_WR : Fld := ⟨0x8, 0, 1, .rwl, 0x1, .val⟩
/-- PCIE_CFG.LOCK (16). -/
def Rg.PCIE_CFG.LOCK : Fld := ⟨0x8, 1, 1, .w1s, 0x0, .val⟩
/-- PCIE_CFG.LOCK_VIOL (16). -/
def Rg.PCIE_CFG.LOCK_VIOL : Fld := ⟨0x8, 2, 1, .w1c, 0x0, .val⟩
/-- PCIE_CFG.OB_HI (16). -/
def Rg.PCIE_CFG.OB_HI : Fld := ⟨0x8, 40, 24, .rw, 0x0, .val⟩

/-- PCIE_EVT.LINK_CHG (16). -/
def Rg.PCIE_EVT.LINK_CHG : Fld := ⟨0x10, 0, 1, .w1c, 0x0, .val⟩
/-- PCIE_EVT.PERST (16). -/
def Rg.PCIE_EVT.PERST : Fld := ⟨0x10, 1, 1, .w1c, 0x0, .val⟩
/-- PCIE_EVT.HOST_VIOL (16). -/
def Rg.PCIE_EVT.HOST_VIOL : Fld := ⟨0x10, 2, 1, .w1c, 0x0, .val⟩
/-- PCIE_EVT.CPL_ERR (16). -/
def Rg.PCIE_EVT.CPL_ERR : Fld := ⟨0x10, 3, 1, .w1c, 0x0, .val⟩

/-- YX_CTRL.GO (16). -/
def Rg.YX_CTRL.GO : Fld := ⟨0x0, 0, 1, .wo, 0x0, .val⟩
/-- YX_CTRL.ACK (16). -/
def Rg.YX_CTRL.ACK : Fld := ⟨0x0, 1, 1, .wo, 0x0, .val⟩

/-- YX_STAT.BUSY (16). -/
def Rg.YX_STAT.BUSY : Fld := ⟨0x8, 0, 1, .ro, 0x0, .val⟩
/-- YX_STAT.RESP_RDY (16). -/
def Rg.YX_STAT.RESP_RDY : Fld := ⟨0x8, 1, 1, .ro, 0x0, .val⟩
/-- YX_STAT.QUEUED (16). -/
def Rg.YX_STAT.QUEUED : Fld := ⟨0x8, 2, 3, .ro, 0x0, .val⟩

/-- YX_CFG.UDP_EN (16). -/
def Rg.YX_CFG.UDP_EN : Fld := ⟨0x10, 0, 1, .rwl, 0x0, .img⟩
/-- YX_CFG.UDP_AUTH (16). -/
def Rg.YX_CFG.UDP_AUTH : Fld := ⟨0x10, 1, 1, .rwl, 0x1, .val⟩
/-- YX_CFG.KEY_SLOT (16). -/
def Rg.YX_CFG.KEY_SLOT : Fld := ⟨0x10, 2, 8, .rwl, 0x0, .img⟩
/-- YX_CFG.LOCK (16). -/
def Rg.YX_CFG.LOCK : Fld := ⟨0x10, 10, 1, .w1s, 0x0, .val⟩
/-- YX_CFG.LOCK_VIOL (16). -/
def Rg.YX_CFG.LOCK_VIOL : Fld := ⟨0x10, 11, 1, .w1c, 0x0, .val⟩

/-- YX_CNT.UDP_DROP (16). -/
def Rg.YX_CNT.UDP_DROP : Fld := ⟨0x28, 0, 16, .ro, 0x0, .val⟩
/-- YX_CNT.AUTH_FAIL (16). -/
def Rg.YX_CNT.AUTH_FAIL : Fld := ⟨0x28, 16, 16, .ro, 0x0, .val⟩
/-- YX_CNT.REPLAY (16). -/
def Rg.YX_CNT.REPLAY : Fld := ⟨0x28, 32, 16, .ro, 0x0, .val⟩
/-- YX_CNT.BAD_FRAME (16). -/
def Rg.YX_CNT.BAD_FRAME : Fld := ⟨0x28, 48, 16, .ro, 0x0, .val⟩

/-- YX_EVT.GO_IGN (16). -/
def Rg.YX_EVT.GO_IGN : Fld := ⟨0x30, 0, 1, .w1c, 0x0, .val⟩
/-- YX_EVT.AUTH_FAIL (16). -/
def Rg.YX_EVT.AUTH_FAIL : Fld := ⟨0x30, 1, 1, .w1c, 0x0, .val⟩

/-- DM_SRC.ADDR (16). -/
def Rg.DM_SRC.ADDR : Fld := ⟨0x1000, 0, 40, .rw, 0x0, .val⟩
/-- DM_SRC.HOST (16). -/
def Rg.DM_SRC.HOST : Fld := ⟨0x1000, 40, 1, .rw, 0x0, .val⟩
/-- DM_SRC.LIST (16). -/
def Rg.DM_SRC.LIST : Fld := ⟨0x1000, 41, 1, .rw, 0x0, .val⟩
/-- DM_SRC.ENTRIES (16). -/
def Rg.DM_SRC.ENTRIES : Fld := ⟨0x1000, 42, 16, .rw, 0x0, .val⟩

/-- DM_DST.ADDR (16). -/
def Rg.DM_DST.ADDR : Fld := ⟨0x1008, 0, 40, .rw, 0x0, .val⟩
/-- DM_DST.HOST (16). -/
def Rg.DM_DST.HOST : Fld := ⟨0x1008, 40, 1, .rw, 0x0, .val⟩
/-- DM_DST.LIST (16). -/
def Rg.DM_DST.LIST : Fld := ⟨0x1008, 41, 1, .rw, 0x0, .val⟩
/-- DM_DST.ENTRIES (16). -/
def Rg.DM_DST.ENTRIES : Fld := ⟨0x1008, 42, 16, .rw, 0x0, .val⟩

/-- DS_SRC.ADDR (16). -/
def Rg.DS_SRC.ADDR : Fld := ⟨0x1040, 0, 40, .rw, 0x0, .val⟩
/-- DS_SRC.HOST (16). -/
def Rg.DS_SRC.HOST : Fld := ⟨0x1040, 40, 1, .rw, 0x0, .val⟩
/-- DS_SRC.LIST (16). -/
def Rg.DS_SRC.LIST : Fld := ⟨0x1040, 41, 1, .rw, 0x0, .val⟩
/-- DS_SRC.ENTRIES (16). -/
def Rg.DS_SRC.ENTRIES : Fld := ⟨0x1040, 42, 16, .rw, 0x0, .val⟩

/-- DS_DST.ADDR (16). -/
def Rg.DS_DST.ADDR : Fld := ⟨0x1048, 0, 40, .rw, 0x0, .val⟩
/-- DS_DST.HOST (16). -/
def Rg.DS_DST.HOST : Fld := ⟨0x1048, 40, 1, .rw, 0x0, .val⟩
/-- DS_DST.LIST (16). -/
def Rg.DS_DST.LIST : Fld := ⟨0x1048, 41, 1, .rw, 0x0, .val⟩
/-- DS_DST.ENTRIES (16). -/
def Rg.DS_DST.ENTRIES : Fld := ⟨0x1048, 42, 16, .rw, 0x0, .val⟩

/-- DM_COUNT.COUNT (16). -/
def Rg.DM_COUNT.COUNT : Fld := ⟨0x1010, 0, 40, .rw, 0x0, .val⟩

/-- DS_COUNT.COUNT (16). -/
def Rg.DS_COUNT.COUNT : Fld := ⟨0x1050, 0, 40, .rw, 0x0, .val⟩

/-- DM_CREC.ADDR (16). -/
def Rg.DM_CREC.ADDR : Fld := ⟨0x1018, 0, 40, .rw, 0x0, .val⟩
/-- DM_CREC.HOST (16). -/
def Rg.DM_CREC.HOST : Fld := ⟨0x1018, 40, 1, .rw, 0x0, .val⟩
/-- DM_CREC.CREC_EN (16). -/
def Rg.DM_CREC.CREC_EN : Fld := ⟨0x1018, 41, 1, .rw, 0x0, .val⟩
/-- DM_CREC.IRQ (16). -/
def Rg.DM_CREC.IRQ : Fld := ⟨0x1018, 42, 1, .rw, 0x0, .val⟩

/-- DS_CREC.ADDR (16). -/
def Rg.DS_CREC.ADDR : Fld := ⟨0x1058, 0, 40, .rw, 0x0, .val⟩
/-- DS_CREC.HOST (16). -/
def Rg.DS_CREC.HOST : Fld := ⟨0x1058, 40, 1, .rw, 0x0, .val⟩
/-- DS_CREC.CREC_EN (16). -/
def Rg.DS_CREC.CREC_EN : Fld := ⟨0x1058, 41, 1, .rw, 0x0, .val⟩
/-- DS_CREC.IRQ (16). -/
def Rg.DS_CREC.IRQ : Fld := ⟨0x1058, 42, 1, .rw, 0x0, .val⟩

/-- DM_CTL.ARM (16). -/
def Rg.DM_CTL.ARM : Fld := ⟨0x1080, 0, 1, .wo, 0x0, .val⟩
/-- DM_CTL.ABORT (16). -/
def Rg.DM_CTL.ABORT : Fld := ⟨0x1080, 1, 1, .wo, 0x0, .val⟩
/-- DM_CTL.CONTINUE (16). -/
def Rg.DM_CTL.CONTINUE : Fld := ⟨0x1080, 2, 1, .wo, 0x0, .val⟩
/-- DM_CTL.RESUME (16). -/
def Rg.DM_CTL.RESUME : Fld := ⟨0x1080, 3, 1, .wo, 0x0, .val⟩
/-- DM_CTL.SH_GO (16). -/
def Rg.DM_CTL.SH_GO : Fld := ⟨0x1080, 4, 1, .wo, 0x0, .val⟩
/-- DM_CTL.SH_CLR (16). -/
def Rg.DM_CTL.SH_CLR : Fld := ⟨0x1080, 5, 1, .wo, 0x0, .val⟩
/-- DM_CTL.PRIO (16). -/
def Rg.DM_CTL.PRIO : Fld := ⟨0x1080, 6, 2, .rw, 0x0, .val⟩

/-- DM_STAT.STATE (16). -/
def Rg.DM_STAT.STATE : Fld := ⟨0x1088, 0, 3, .ro, 0x0, .val⟩
/-- DM_STAT.SH_VALID (16). -/
def Rg.DM_STAT.SH_VALID : Fld := ⟨0x1088, 3, 1, .ro, 0x0, .val⟩
/-- DM_STAT.REFUSE (16). -/
def Rg.DM_STAT.REFUSE : Fld := ⟨0x1088, 4, 2, .ro, 0x0, .val⟩

/-- DM_LAST.STATUS (16). -/
def Rg.DM_LAST.STATUS : Fld := ⟨0x1098, 0, 4, .ro, 0x0, .val⟩
/-- DM_LAST.CRC (16). -/
def Rg.DM_LAST.CRC : Fld := ⟨0x1098, 32, 32, .ro, 0x0, .val⟩

/-- DM_EVT.DONE (16). -/
def Rg.DM_EVT.DONE : Fld := ⟨0x10a8, 0, 1, .w1c, 0x0, .val⟩
/-- DM_EVT.REFUSED (16). -/
def Rg.DM_EVT.REFUSED : Fld := ⟨0x10a8, 1, 1, .w1c, 0x0, .val⟩
/-- DM_EVT.SH_BUSY (16). -/
def Rg.DM_EVT.SH_BUSY : Fld := ⟨0x10a8, 2, 1, .w1c, 0x0, .val⟩
/-- DM_EVT.CFG_LOCKED (16). -/
def Rg.DM_EVT.CFG_LOCKED : Fld := ⟨0x10a8, 3, 1, .w1c, 0x0, .val⟩
/-- DM_EVT.SUSPENDED (16). -/
def Rg.DM_EVT.SUSPENDED : Fld := ⟨0x10a8, 4, 1, .w1c, 0x0, .val⟩
/-- DM_EVT.RESUME_IGN (16). -/
def Rg.DM_EVT.RESUME_IGN : Fld := ⟨0x10a8, 5, 1, .w1c, 0x0, .val⟩

/-- DDR_CFG.SIZE (16). -/
def Rg.DDR_CFG.SIZE : Fld := ⟨0x8, 0, 2, .ro, 0x0, .fuse⟩
/-- DDR_CFG.CE_WB (16). -/
def Rg.DDR_CFG.CE_WB : Fld := ⟨0x8, 2, 1, .rw, 0x1, .val⟩
/-- DDR_CFG.SCRUB_EN (16). -/
def Rg.DDR_CFG.SCRUB_EN : Fld := ⟨0x8, 3, 1, .rw, 0x1, .val⟩
/-- DDR_CFG.SCRUB_H (16). -/
def Rg.DDR_CFG.SCRUB_H : Fld := ⟨0x8, 4, 8, .rw, 0x18, .val⟩

/-- DDR_STAT.TRAINED (16). -/
def Rg.DDR_STAT.TRAINED : Fld := ⟨0x10, 0, 1, .ro, 0x0, .val⟩

/-- DDR_ECC.CE (16). -/
def Rg.DDR_ECC.CE : Fld := ⟨0x18, 0, 32, .ro, 0x0, .val⟩
/-- DDR_ECC.UE (16). -/
def Rg.DDR_ECC.UE : Fld := ⟨0x18, 32, 16, .ro, 0x0, .val⟩
/-- DDR_ECC.POISON_RD (16). -/
def Rg.DDR_ECC.POISON_RD : Fld := ⟨0x18, 48, 16, .ro, 0x0, .val⟩

/-- DDR_SCRUB.LINE (16). -/
def Rg.DDR_SCRUB.LINE : Fld := ⟨0x30, 0, 28, .ro, 0x0, .val⟩
/-- DDR_SCRUB.PASSES (16). -/
def Rg.DDR_SCRUB.PASSES : Fld := ⟨0x30, 32, 32, .ro, 0x0, .val⟩

/-- DDR_INJ.ADDR (16). -/
def Rg.DDR_INJ.ADDR : Fld := ⟨0x38, 0, 40, .rw, 0x0, .val⟩
/-- DDR_INJ.BITS (16). -/
def Rg.DDR_INJ.BITS : Fld := ⟨0x38, 40, 2, .rw, 0x0, .val⟩
/-- DDR_INJ.POISON (16). -/
def Rg.DDR_INJ.POISON : Fld := ⟨0x38, 42, 1, .rw, 0x0, .val⟩
/-- DDR_INJ.ARMED (16). -/
def Rg.DDR_INJ.ARMED : Fld := ⟨0x38, 43, 1, .ro, 0x0, .val⟩

/-- SM_ECC.CE (16). -/
def Rg.SM_ECC.CE : Fld := ⟨0x100, 0, 16, .ro, 0x0, .val⟩
/-- SM_ECC.UE (16). -/
def Rg.SM_ECC.UE : Fld := ⟨0x100, 16, 16, .ro, 0x0, .val⟩
/-- SM_ECC.LAST (16). -/
def Rg.SM_ECC.LAST : Fld := ⟨0x100, 32, 21, .ro, 0x0, .val⟩
/-- SM_ECC.LAST_UE (16). -/
def Rg.SM_ECC.LAST_UE : Fld := ⟨0x100, 53, 1, .ro, 0x0, .val⟩

/-- DDR_EVT.CE (16). -/
def Rg.DDR_EVT.CE : Fld := ⟨0x40, 0, 1, .w1c, 0x0, .val⟩
/-- DDR_EVT.UE (16). -/
def Rg.DDR_EVT.UE : Fld := ⟨0x40, 1, 1, .w1c, 0x0, .val⟩
/-- DDR_EVT.SM_CE (16). -/
def Rg.DDR_EVT.SM_CE : Fld := ⟨0x40, 2, 1, .w1c, 0x0, .val⟩
/-- DDR_EVT.SM_UE (16). -/
def Rg.DDR_EVT.SM_UE : Fld := ⟨0x40, 3, 1, .w1c, 0x0, .val⟩
/-- DDR_EVT.PASS (16). -/
def Rg.DDR_EVT.PASS : Fld := ⟨0x40, 4, 1, .w1c, 0x0, .val⟩
/-- DDR_EVT.TRAIN_FAIL (16). -/
def Rg.DDR_EVT.TRAIN_FAIL : Fld := ⟨0x40, 5, 1, .w1c, 0x0, .val⟩

/-! ### 17_security.md -/

/-- SEC_STAT.LC (17). -/
def Rg.SEC_STAT.LC : Fld := ⟨0x0, 0, 3, .ro, 0x0, .fuse⟩
/-- SEC_STAT.DEBUG (17). -/
def Rg.SEC_STAT.DEBUG : Fld := ⟨0x0, 3, 2, .ro, 0x0, .val⟩
/-- SEC_STAT.DBG_NEXT (17). -/
def Rg.SEC_STAT.DBG_NEXT : Fld := ⟨0x0, 5, 2, .ro, 0x0, .val⟩
/-- SEC_STAT.COMPAT_3300 (17). -/
def Rg.SEC_STAT.COMPAT_3300 : Fld := ⟨0x0, 7, 1, .ro, 0x0, .fuse⟩
/-- SEC_STAT.ROOT (17). -/
def Rg.SEC_STAT.ROOT : Fld := ⟨0x0, 8, 2, .ro, 0x0, .val⟩
/-- SEC_STAT.KS_EN (17). -/
def Rg.SEC_STAT.KS_EN : Fld := ⟨0x0, 10, 1, .ro, 0x0, .val⟩
/-- SEC_STAT.REROOT_LEFT (17). -/
def Rg.SEC_STAT.REROOT_LEFT : Fld := ⟨0x0, 11, 2, .ro, 0x0, .fuse⟩

/-- BOOT_STAT.CODE (17). -/
def Rg.BOOT_STAT.CODE : Fld := ⟨0x18, 0, 4, .ro, 0x0, .val⟩
/-- BOOT_STAT.TYPE (17). -/
def Rg.BOOT_STAT.TYPE : Fld := ⟨0x18, 4, 4, .ro, 0x0, .val⟩

/-- KS_CFG.REMASK (17). -/
def Rg.KS_CFG.REMASK : Fld := ⟨0x20, 0, 10, .rwl, 0xa, .val⟩
/-- KS_CFG.LOCK (17). -/
def Rg.KS_CFG.LOCK : Fld := ⟨0x20, 10, 1, .w1s, 0x0, .val⟩
/-- KS_CFG.LOCK_VIOL (17). -/
def Rg.KS_CFG.LOCK_VIOL : Fld := ⟨0x20, 11, 1, .w1c, 0x0, .val⟩

/-- TAMP_CFG.PIN_EN (17). -/
def Rg.TAMP_CFG.PIN_EN : Fld := ⟨0x100, 0, 4, .rw, 0x0, .val⟩
/-- TAMP_CFG.POL (17). -/
def Rg.TAMP_CFG.POL : Fld := ⟨0x100, 4, 4, .rw, 0x0, .val⟩
/-- TAMP_CFG.FILT_US (17). -/
def Rg.TAMP_CFG.FILT_US : Fld := ⟨0x100, 8, 8, .rw, 0xa, .val⟩
/-- TAMP_CFG.SHIELD_EN (17). -/
def Rg.TAMP_CFG.SHIELD_EN : Fld := ⟨0x100, 16, 1, .rw, 0x1, .val⟩
/-- TAMP_CFG.VOLT_EN (17). -/
def Rg.TAMP_CFG.VOLT_EN : Fld := ⟨0x100, 17, 1, .rw, 0x1, .val⟩
/-- TAMP_CFG.CLK_EN (17). -/
def Rg.TAMP_CFG.CLK_EN : Fld := ⟨0x100, 18, 1, .rw, 0x1, .val⟩
/-- TAMP_CFG.TEMP_EN (17). -/
def Rg.TAMP_CFG.TEMP_EN : Fld := ⟨0x100, 19, 1, .rw, 0x1, .val⟩

/-- TAMP_STAT.ACTIVE (17). -/
def Rg.TAMP_STAT.ACTIVE : Fld := ⟨0x108, 0, 8, .ro, 0x0, .val⟩
/-- TAMP_STAT.LATCHED (17). -/
def Rg.TAMP_STAT.LATCHED : Fld := ⟨0x108, 8, 8, .w1c, 0x0, .val⟩
/-- TAMP_STAT.TAMP_LOGCNT (17). -/
def Rg.TAMP_STAT.TAMP_LOGCNT : Fld := ⟨0x108, 16, 16, .ro, 0x0, .vbat⟩

/-- TAMP_LOG_I.SOURCE (17). -/
def Rg.TAMP_LOG_I.SOURCE : Fld := ⟨0x208, 0, 8, .ro, 0x0, .vbat⟩
/-- TAMP_LOG_I.LC (17). -/
def Rg.TAMP_LOG_I.LC : Fld := ⟨0x208, 8, 3, .ro, 0x0, .vbat⟩
/-- TAMP_LOG_I.PSTATE (17). -/
def Rg.TAMP_LOG_I.PSTATE : Fld := ⟨0x208, 11, 2, .ro, 0x0, .vbat⟩
/-- TAMP_LOG_I.NO_TIME (17). -/
def Rg.TAMP_LOG_I.NO_TIME : Fld := ⟨0x208, 13, 1, .ro, 0x0, .vbat⟩
/-- TAMP_LOG_I.BOOT (17). -/
def Rg.TAMP_LOG_I.BOOT : Fld := ⟨0x208, 14, 1, .ro, 0x0, .vbat⟩
/-- TAMP_LOG_I.INDEX (17). -/
def Rg.TAMP_LOG_I.INDEX : Fld := ⟨0x208, 16, 16, .ro, 0x0, .vbat⟩

/-- GM_CTL.GO (17). -/
def Rg.GM_CTL.GO : Fld := ⟨0x13f0, 0, 1, .wo, 0x0, .val⟩
/-- GM_CTL.ACK (17). -/
def Rg.GM_CTL.ACK : Fld := ⟨0x13f0, 1, 1, .wo, 0x0, .val⟩

/-- GM_STAT.BUSY (17). -/
def Rg.GM_STAT.BUSY : Fld := ⟨0x13f8, 0, 1, .ro, 0x0, .val⟩
/-- GM_STAT.DONE (17). -/
def Rg.GM_STAT.DONE : Fld := ⟨0x13f8, 1, 1, .ro, 0x0, .val⟩

/-- KS_ATTR.STATE (17). -/
def Rg.KS_ATTR.STATE : Fld := ⟨0x4000, 0, 2, .ro, 0x0, .val⟩
/-- KS_ATTR.PENDING (17). -/
def Rg.KS_ATTR.PENDING : Fld := ⟨0x4000, 2, 1, .ro, 0x0, .val⟩
/-- KS_ATTR.LEN256 (17). -/
def Rg.KS_ATTR.LEN256 : Fld := ⟨0x4000, 3, 1, .ro, 0x0, .val⟩
/-- KS_ATTR.DEST (17). -/
def Rg.KS_ATTR.DEST : Fld := ⟨0x4000, 4, 11, .ro, 0x0, .val⟩
/-- KS_ATTR.USAGE (17). -/
def Rg.KS_ATTR.USAGE : Fld := ⟨0x4000, 15, 5, .ro, 0x0, .val⟩
/-- KS_ATTR.PARENT (17). -/
def Rg.KS_ATTR.PARENT : Fld := ⟨0x4000, 20, 9, .ro, 0x1ff, .val⟩
/-- KS_ATTR.DBG_SENS (17). -/
def Rg.KS_ATTR.DBG_SENS : Fld := ⟨0x4000, 29, 1, .ro, 0x0, .val⟩
/-- KS_ATTR.EXPORT_NEVER (17). -/
def Rg.KS_ATTR.EXPORT_NEVER : Fld := ⟨0x4000, 30, 1, .ro, 0x0, .val⟩
/-- KS_ATTR.PERSIST (17). -/
def Rg.KS_ATTR.PERSIST : Fld := ⟨0x4000, 31, 1, .ro, 0x0, .val⟩
/-- KS_ATTR.OWNER (17). -/
def Rg.KS_ATTR.OWNER : Fld := ⟨0x4000, 32, 3, .ro, 0x0, .val⟩
/-- KS_ATTR.FROM_TEST (17). -/
def Rg.KS_ATTR.FROM_TEST : Fld := ⟨0x4000, 35, 1, .ro, 0x0, .val⟩
/-- KS_ATTR.CHECK (17). -/
def Rg.KS_ATTR.CHECK : Fld := ⟨0x4000, 36, 24, .ro, 0x0, .val⟩

/-- CY_ID.VERSION (17). -/
def Rg.CY_ID.VERSION : Fld := ⟨0x0, 0, 16, .ro, 0x100, .val⟩
/-- CY_ID.INSTANCE (17). -/
def Rg.CY_ID.INSTANCE : Fld := ⟨0x0, 16, 2, .ro, 0x0, .inst⟩
/-- CY_ID.LANES (17). -/
def Rg.CY_ID.LANES : Fld := ⟨0x0, 18, 6, .ro, 0x0, .img⟩

/-- CS_CFG.EN (17). -/
def Rg.CS_CFG.EN : Fld := ⟨0x1000, 0, 1, .rw, 0x0, .val⟩
/-- CS_CFG.ALG (17). -/
def Rg.CS_CFG.ALG : Fld := ⟨0x1000, 1, 3, .rw, 0x0, .val⟩
/-- CS_CFG.KEY_SLOT (17). -/
def Rg.CS_CFG.KEY_SLOT : Fld := ⟨0x1000, 4, 8, .rw, 0x0, .val⟩
/-- CS_CFG.DONE_EN (17). -/
def Rg.CS_CFG.DONE_EN : Fld := ⟨0x1000, 12, 1, .rw, 0x0, .val⟩
/-- CS_CFG.DONE_FLOW (17). -/
def Rg.CS_CFG.DONE_FLOW : Fld := ⟨0x1000, 13, 13, .rw, 0x0, .val⟩

/-- CS_JOBS.ADDR (17). -/
def Rg.CS_JOBS.ADDR : Fld := ⟨0x1008, 0, 40, .rw, 0x0, .val⟩
/-- CS_JOBS.COUNT (17). -/
def Rg.CS_JOBS.COUNT : Fld := ⟨0x1008, 40, 16, .rw, 0x0, .val⟩

/-- CS_STAT.RUN (17). -/
def Rg.CS_STAT.RUN : Fld := ⟨0x1010, 0, 1, .ro, 0x0, .val⟩
/-- CS_STAT.REFUSE (17). -/
def Rg.CS_STAT.REFUSE : Fld := ⟨0x1010, 1, 3, .ro, 0x0, .val⟩
/-- CS_STAT.BUSY (17). -/
def Rg.CS_STAT.BUSY : Fld := ⟨0x1010, 4, 1, .ro, 0x0, .val⟩
/-- CS_STAT.LAST (17). -/
def Rg.CS_STAT.LAST : Fld := ⟨0x1010, 8, 8, .ro, 0x0, .val⟩

/-- CS_CNT.JOBS (17). -/
def Rg.CS_CNT.JOBS : Fld := ⟨0x1018, 0, 32, .ro, 0x0, .val⟩
/-- CS_CNT.TAG_FAIL (17). -/
def Rg.CS_CNT.TAG_FAIL : Fld := ⟨0x1018, 32, 16, .ro, 0x0, .val⟩
/-- CS_CNT.ERR (17). -/
def Rg.CS_CNT.ERR : Fld := ⟨0x1018, 48, 16, .ro, 0x0, .val⟩

/-- CS_EVT.REFUSED (17). -/
def Rg.CS_EVT.REFUSED : Fld := ⟨0x1020, 0, 1, .w1c, 0x0, .val⟩
/-- CS_EVT.CFG_LOCKED (17). -/
def Rg.CS_EVT.CFG_LOCKED : Fld := ⟨0x1020, 1, 1, .w1c, 0x0, .val⟩
/-- CS_EVT.TAG_FAIL (17). -/
def Rg.CS_EVT.TAG_FAIL : Fld := ⟨0x1020, 2, 1, .w1c, 0x0, .val⟩
/-- CS_EVT.ERR (17). -/
def Rg.CS_EVT.ERR : Fld := ⟨0x1020, 3, 1, .w1c, 0x0, .val⟩

/-! ### 18_events_health.md -/

/-- ER_ID.VERSION (18). -/
def Rg.ER_ID.VERSION : Fld := ⟨0x0, 0, 16, .ro, 0x100, .val⟩

/-- ER_CTRL.LOCK (18). -/
def Rg.ER_CTRL.LOCK : Fld := ⟨0x8, 0, 1, .w1s, 0x0, .val⟩
/-- ER_CTRL.LOCK_VIOL (18). -/
def Rg.ER_CTRL.LOCK_VIOL : Fld := ⟨0x8, 1, 1, .w1c, 0x0, .val⟩
/-- ER_CTRL.CNT_CLR (18). -/
def Rg.ER_CTRL.CNT_CLR : Fld := ⟨0x8, 2, 1, .wo, 0x0, .val⟩

/-- ER_SWRAISE.N (18). -/
def Rg.ER_SWRAISE.N : Fld := ⟨0x10, 0, 4, .wo, 0x0, .val⟩

/-- ER_PEND.BITS (18). -/
def Rg.ER_PEND.BITS : Fld := ⟨0x100, 0, 64, .w1c, 0x0, .val⟩

/-- ER_MASK.BITS (18). -/
def Rg.ER_MASK.BITS : Fld := ⟨0x120, 0, 64, .rw, 0x0, .val⟩

/-- ER_ROUTE.TARGET (18). -/
def Rg.ER_ROUTE.TARGET : Fld := ⟨0x1000, 0, 7, .rwl, 0x0, .img⟩

/-- ER_CNT.COUNT (18). -/
def Rg.ER_CNT.COUNT : Fld := ⟨0x2000, 0, 16, .ro, 0x0, .val⟩

/-- RC_CTRL.ACK_EN (18). -/
def Rg.RC_CTRL.ACK_EN : Fld := ⟨0x8, 0, 1, .rwl, 0x0, .img⟩
/-- RC_CTRL.FLUSH (18). -/
def Rg.RC_CTRL.FLUSH : Fld := ⟨0x8, 1, 1, .wo, 0x0, .val⟩
/-- RC_CTRL.LOCK (18). -/
def Rg.RC_CTRL.LOCK : Fld := ⟨0x8, 2, 1, .w1s, 0x0, .val⟩
/-- RC_CTRL.LOCK_VIOL (18). -/
def Rg.RC_CTRL.LOCK_VIOL : Fld := ⟨0x8, 3, 1, .w1c, 0x0, .val⟩

/-- RC_STAT.HELD (18). -/
def Rg.RC_STAT.HELD : Fld := ⟨0x10, 0, 16, .ro, 0x0, .val⟩
/-- RC_STAT.UNFLUSHED (18). -/
def Rg.RC_STAT.UNFLUSHED : Fld := ⟨0x10, 16, 9, .ro, 0x0, .val⟩
/-- RC_STAT.EMERG (18). -/
def Rg.RC_STAT.EMERG : Fld := ⟨0x10, 25, 1, .ro, 0x0, .val⟩
/-- RC_STAT.PF_DONE (18). -/
def Rg.RC_STAT.PF_DONE : Fld := ⟨0x10, 26, 1, .ro, 0x0, .val⟩

/-- RC_LOSS.FULL (18). -/
def Rg.RC_LOSS.FULL : Fld := ⟨0x30, 0, 16, .ro, 0x0, .val⟩
/-- RC_LOSS.FLUSH_BUSY (18). -/
def Rg.RC_LOSS.FLUSH_BUSY : Fld := ⟨0x30, 16, 16, .ro, 0x0, .val⟩
/-- RC_LOSS.INPUT (18). -/
def Rg.RC_LOSS.INPUT : Fld := ⟨0x30, 32, 16, .ro, 0x0, .val⟩
/-- RC_LOSS.OVERWRITTEN (18). -/
def Rg.RC_LOSS.OVERWRITTEN : Fld := ⟨0x30, 48, 16, .ro, 0x0, .val⟩

/-- RC_EVT.LOSS (18). -/
def Rg.RC_EVT.LOSS : Fld := ⟨0x40, 0, 1, .w1c, 0x0, .val⟩
/-- RC_EVT.PF_DONE (18). -/
def Rg.RC_EVT.PF_DONE : Fld := ⟨0x40, 1, 1, .w1c, 0x0, .val⟩
/-- RC_EVT.FLASH_ERR (18). -/
def Rg.RC_EVT.FLASH_ERR : Fld := ⟨0x40, 2, 1, .w1c, 0x0, .val⟩

/-- RC_SW_HDR.CODE (18). -/
def Rg.RC_SW_HDR.CODE : Fld := ⟨0x400, 0, 12, .rw, 0x0, .val⟩
/-- RC_SW_HDR.SEV (18). -/
def Rg.RC_SW_HDR.SEV : Fld := ⟨0x400, 12, 3, .rw, 0x0, .val⟩
/-- RC_SW_HDR.DLEN (18). -/
def Rg.RC_SW_HDR.DLEN : Fld := ⟨0x400, 16, 6, .rw, 0x0, .val⟩

/-- RC_SW_DATA.DATA (18). -/
def Rg.RC_SW_DATA.DATA : Fld := ⟨0x408, 0, 64, .rw, 0x0, .val⟩

/-- RC_SW_GO.GO (18). -/
def Rg.RC_SW_GO.GO : Fld := ⟨0x430, 0, 1, .wo, 0x0, .val⟩
/-- RC_SW_GO.STATUS (18). -/
def Rg.RC_SW_GO.STATUS : Fld := ⟨0x430, 1, 2, .ro, 0x0, .val⟩

/-- RC_RATE.RATE (18). -/
def Rg.RC_RATE.RATE : Fld := ⟨0x8000, 0, 10, .rw, 0x64, .val⟩
/-- RC_RATE.BURST (18). -/
def Rg.RC_RATE.BURST : Fld := ⟨0x8000, 10, 8, .rw, 0x10, .val⟩
/-- RC_RATE.SUPPR (18). -/
def Rg.RC_RATE.SUPPR : Fld := ⟨0x8000, 32, 16, .ro, 0x0, .val⟩

/-- HL_CFG.AUTO (18). -/
def Rg.HL_CFG.AUTO : Fld := ⟨0x8, 0, 1, .rwl, 0x1, .val⟩
/-- HL_CFG.TGT (18). -/
def Rg.HL_CFG.TGT : Fld := ⟨0x8, 1, 8, .rwl, 0x3c, .val⟩
/-- HL_CFG.HYST (18). -/
def Rg.HL_CFG.HYST : Fld := ⟨0x8, 9, 8, .rwl, 0x28, .val⟩
/-- HL_CFG.TDER (18). -/
def Rg.HL_CFG.TDER : Fld := ⟨0x8, 17, 4, .rwl, 0x2, .val⟩
/-- HL_CFG.LOCK (18). -/
def Rg.HL_CFG.LOCK : Fld := ⟨0x8, 21, 1, .w1s, 0x0, .val⟩
/-- HL_CFG.LOCK_VIOL (18). -/
def Rg.HL_CFG.LOCK_VIOL : Fld := ⟨0x8, 22, 1, .w1c, 0x0, .val⟩

/-- HL_STAT.V_FA (18). -/
def Rg.HL_STAT.V_FA : Fld := ⟨0x28, 0, 10, .ro, 0x0, .val⟩
/-- HL_STAT.V_FB (18). -/
def Rg.HL_STAT.V_FB : Fld := ⟨0x28, 10, 10, .ro, 0x0, .val⟩
/-- HL_STAT.FROZEN_FA (18). -/
def Rg.HL_STAT.FROZEN_FA : Fld := ⟨0x28, 20, 1, .ro, 0x0, .val⟩
/-- HL_STAT.FROZEN_FB (18). -/
def Rg.HL_STAT.FROZEN_FB : Fld := ⟨0x28, 21, 1, .ro, 0x0, .val⟩
/-- HL_STAT.RAIL_BAD (18). -/
def Rg.HL_STAT.RAIL_BAD : Fld := ⟨0x28, 32, 16, .ro, 0x0, .val⟩
/-- HL_STAT.PASSES (18). -/
def Rg.HL_STAT.PASSES : Fld := ⟨0x28, 48, 16, .ro, 0x0, .val⟩

/-- HL_EVT.PASS (18). -/
def Rg.HL_EVT.PASS : Fld := ⟨0x30, 0, 1, .w1c, 0x0, .val⟩
/-- HL_EVT.REPLAN (18). -/
def Rg.HL_EVT.REPLAN : Fld := ⟨0x30, 1, 1, .w1c, 0x0, .val⟩
/-- HL_EVT.RAIL (18). -/
def Rg.HL_EVT.RAIL : Fld := ⟨0x30, 2, 1, .w1c, 0x0, .val⟩
/-- HL_EVT.TEMP (18). -/
def Rg.HL_EVT.TEMP : Fld := ⟨0x30, 3, 1, .w1c, 0x0, .val⟩
/-- HL_EVT.PMBUS (18). -/
def Rg.HL_EVT.PMBUS : Fld := ⟨0x30, 4, 1, .w1c, 0x0, .val⟩
/-- HL_EVT.PIN (18). -/
def Rg.HL_EVT.PIN : Fld := ⟨0x30, 5, 1, .w1c, 0x0, .val⟩

/-- HL_ISL_RO.RO0 (18). -/
def Rg.HL_ISL_RO.RO0 : Fld := ⟨0x1000, 0, 16, .ro, 0x0, .val⟩
/-- HL_ISL_RO.RO1 (18). -/
def Rg.HL_ISL_RO.RO1 : Fld := ⟨0x1000, 16, 16, .ro, 0x0, .val⟩
/-- HL_ISL_RO.RO2 (18). -/
def Rg.HL_ISL_RO.RO2 : Fld := ⟨0x1000, 32, 16, .ro, 0x0, .val⟩
/-- HL_ISL_RO.RO3 (18). -/
def Rg.HL_ISL_RO.RO3 : Fld := ⟨0x1000, 48, 16, .ro, 0x0, .val⟩

/-- HL_ISL.MARGIN (18). -/
def Rg.HL_ISL.MARGIN : Fld := ⟨0x1008, 0, 16, .ro, 0x0, .val⟩
/-- HL_ISL.YEARS (18). -/
def Rg.HL_ISL.YEARS : Fld := ⟨0x1008, 16, 16, .ro, 0x0, .val⟩
/-- HL_ISL.TEMP (18). -/
def Rg.HL_ISL.TEMP : Fld := ⟨0x1008, 32, 10, .ro, 0x0, .val⟩
/-- HL_ISL.TMAX (18). -/
def Rg.HL_ISL.TMAX : Fld := ⟨0x1008, 42, 10, .ro, 0x0, .val⟩

/-- HL_ISL_AT.AT (18). -/
def Rg.HL_ISL_AT.AT : Fld := ⟨0x1010, 0, 64, .ro, 0x0, .val⟩

/-- HL_RAIL.MV (18). -/
def Rg.HL_RAIL.MV : Fld := ⟨0x2000, 0, 16, .ro, 0x0, .val⟩
/-- HL_RAIL.LO (18). -/
def Rg.HL_RAIL.LO : Fld := ⟨0x2000, 16, 16, .rw, 0x0, .fuse⟩
/-- HL_RAIL.HI (18). -/
def Rg.HL_RAIL.HI : Fld := ⟨0x2000, 32, 16, .rw, 0x0, .fuse⟩

/-! ### 02_structure_image.md -/

/-- STRUCT_STAGED.CODE (02). -/
def Rg.STRUCT_STAGED.CODE : Fld := ⟨0x40c, 0, 8, .ro, 0xff, .val⟩
/-- STRUCT_STAGED.SECTION (02). -/
def Rg.STRUCT_STAGED.SECTION : Fld := ⟨0x40c, 8, 4, .ro, 0x0, .val⟩
/-- STRUCT_STAGED.RECORD (02). -/
def Rg.STRUCT_STAGED.RECORD : Fld := ⟨0x40c, 16, 16, .ro, 0x0, .val⟩

/-! ### 06_gnss_signal_chain.md -/

/-- CH_EPOCH.PERIOD (06). -/
def Rg.CH_EPOCH.PERIOD : Fld := ⟨0x10, 0, 3, .rw, 0x0, .img⟩

/-! ### 07_reference_station.md -/

/-- OB_DESC.DATA (07). -/
def Rg.OB_DESC.DATA : Fld := ⟨0x400, 0, 64, .rw, 0x0, .val⟩

/-! ### 08_waveform_filters.md -/

/-- FL_BANKA.C (08). -/
def Rg.FL_BANKA.C : Fld := ⟨0x2000, 0, 32, .rw, 0x0, .val⟩

/-- FL_BANKB.C (08). -/
def Rg.FL_BANKB.C : Fld := ⟨0x2200, 0, 32, .rw, 0x0, .val⟩

/-! ### 09_phasors_alignment.md -/

/-- PH_VAL.W (09). -/
def Rg.PH_VAL.W : Fld := ⟨0x1020, 0, 64, .ro, 0x0, .val⟩

/-- PH_FRQ.W (09). -/
def Rg.PH_FRQ.W : Fld := ⟨0x1028, 0, 64, .ro, 0x0, .val⟩

/-- PH_FVAL.MAG (09). -/
def Rg.PH_FVAL.MAG : Fld := ⟨0x1030, 0, 32, .ro, 0x0, .val⟩
/-- PH_FVAL.FREQ (09). -/
def Rg.PH_FVAL.FREQ : Fld := ⟨0x1030, 32, 32, .ro, 0x0, .val⟩

/-- AL_ADDR.ADDR (09). -/
def Rg.AL_ADDR.ADDR : Fld := ⟨0x108, 0, 64, .rw, 0x0, .val⟩

/-- AL_RECONF.AT (09). -/
def Rg.AL_RECONF.AT : Fld := ⟨0x138, 0, 64, .rw, 0x0, .val⟩

/-- AL_LAST.AT (09). -/
def Rg.AL_LAST.AT : Fld := ⟨0x158, 0, 64, .ro, 0x0, .val⟩

/-- AC_LAST.AT (09). -/
def Rg.AC_LAST.AT : Fld := ⟨0x428, 0, 64, .ro, 0x0, .val⟩

/-! ### 10_grid_analysis_capture.md -/

/-- MD_LEVT.BITS (10). -/
def Rg.MD_LEVT.BITS : Fld := ⟨0x8, 0, 16, .ro, 0x0, .val⟩

/-- MG_MODES.F0 (10). -/
def Rg.MG_MODES.F0 : Fld := ⟨0x1030, 0, 16, .ro, 0x0, .val⟩
/-- MG_MODES.Z0 (10). -/
def Rg.MG_MODES.Z0 : Fld := ⟨0x1030, 16, 16, .ro, 0x0, .val⟩
/-- MG_MODES.F1 (10). -/
def Rg.MG_MODES.F1 : Fld := ⟨0x1030, 32, 16, .ro, 0x0, .val⟩
/-- MG_MODES.Z1 (10). -/
def Rg.MG_MODES.Z1 : Fld := ⟨0x1030, 48, 16, .ro, 0x0, .val⟩

/-- MG_CLU.C0 (10). -/
def Rg.MG_CLU.C0 : Fld := ⟨0x1058, 0, 32, .ro, 0x0, .val⟩
/-- MG_CLU.C1 (10). -/
def Rg.MG_CLU.C1 : Fld := ⟨0x1058, 32, 32, .ro, 0x0, .val⟩

/-- MG_ALTS.AT (10). -/
def Rg.MG_ALTS.AT : Fld := ⟨0x1078, 0, 64, .ro, 0x0, .val⟩

/-- TG_CH.MASK (10). -/
def Rg.TG_CH.MASK : Fld := ⟨0x1008, 0, 64, .rw, 0x0, .val⟩

/-- TG_LEN.PRE (10). -/
def Rg.TG_LEN.PRE : Fld := ⟨0x1020, 0, 32, .rw, 0x0, .val⟩
/-- TG_LEN.POST (10). -/
def Rg.TG_LEN.POST : Fld := ⟨0x1020, 32, 32, .rw, 0x0, .val⟩

/-- TG_TSRC.SRC (10). -/
def Rg.TG_TSRC.SRC : Fld := ⟨0x1028, 0, 10, .rw, 0x0, .val⟩

/-- TG_MSEL.GROUPS (10). -/
def Rg.TG_MSEL.GROUPS : Fld := ⟨0x1030, 0, 64, .rw, 0x0, .val⟩

/-- TG_LHYS.HYST (10). -/
def Rg.TG_LHYS.HYST : Fld := ⟨0x1040, 0, 32, .rw, 0x0, .val⟩

/-- TG_MRT.RT_LO (10). -/
def Rg.TG_MRT.RT_LO : Fld := ⟨0x1050, 0, 32, .rw, 0x0, .val⟩
/-- TG_MRT.RT_HI (10). -/
def Rg.TG_MRT.RT_HI : Fld := ⟨0x1050, 32, 32, .rw, 0x0, .val⟩

/-- TG_MISS.MISSED (10). -/
def Rg.TG_MISS.MISSED : Fld := ⟨0x1098, 0, 32, .ro, 0x0, .val⟩
/-- TG_MISS.EXTRA_TRIG (10). -/
def Rg.TG_MISS.EXTRA_TRIG : Fld := ⟨0x1098, 32, 32, .ro, 0x0, .val⟩

/-- TG_MISS_TS.AT (10). -/
def Rg.TG_MISS_TS.AT : Fld := ⟨0x10a0, 0, 64, .ro, 0x0, .val⟩

/-- TG_LAST.AT (10). -/
def Rg.TG_LAST.AT : Fld := ⟨0x10a8, 0, 64, .ro, 0x0, .val⟩

/-- AO_SEL.GROUPS (10). -/
def Rg.AO_SEL.GROUPS : Fld := ⟨0x808, 0, 64, .rw, 0x0, .val⟩

/-- TL_TS.AT (10). -/
def Rg.TL_TS.AT : Fld := ⟨0x908, 0, 64, .ro, 0x0, .val⟩

/-- TL_EVT.STUCK0 (10). -/
def Rg.TL_EVT.STUCK0 : Fld := ⟨0x980, 0, 1, .w1c, 0x0, .val⟩
/-- TL_EVT.STUCK1 (10). -/
def Rg.TL_EVT.STUCK1 : Fld := ⟨0x980, 1, 1, .w1c, 0x0, .val⟩

/-! ### 12_fleet_stop.md -/

/-- FS_LATCH_AT.AT (12). -/
def Rg.FS_LATCH_AT.AT : Fld := ⟨0x220, 0, 64, .ro, 0x0, .val⟩

/-- FS_REL_AT.AT (12). -/
def Rg.FS_REL_AT.AT : Fld := ⟨0x228, 0, 64, .ro, 0x0, .val⟩

/-- FS_CHAL.CHAL (12). -/
def Rg.FS_CHAL.CHAL : Fld := ⟨0x230, 0, 64, .ro, 0x0, .val⟩

/-! ### 13_tracks_tasks.md -/

/-- TR_AREA.ADDR (13). -/
def Rg.TR_AREA.ADDR : Fld := ⟨0x400, 0, 40, .rw, 0x0, .val⟩

/-- TR_REQ0.E (13). -/
def Rg.TR_REQ0.E : Fld := ⟨0x408, 0, 32, .rw, 0x0, .val⟩
/-- TR_REQ0.N (13). -/
def Rg.TR_REQ0.N : Fld := ⟨0x408, 32, 32, .rw, 0x0, .val⟩

/-- TR_REQ1.E (13). -/
def Rg.TR_REQ1.E : Fld := ⟨0x410, 0, 32, .rw, 0x0, .val⟩
/-- TR_REQ1.N (13). -/
def Rg.TR_REQ1.N : Fld := ⟨0x410, 32, 32, .rw, 0x0, .val⟩

/-- TR_REQ2.T_START (13). -/
def Rg.TR_REQ2.T_START : Fld := ⟨0x418, 0, 64, .rw, 0x0, .val⟩

/-- TR_REQ3.T_END (13). -/
def Rg.TR_REQ3.T_END : Fld := ⟨0x420, 0, 64, .rw, 0x0, .val⟩

/-- TR_STAT.USED (13). -/
def Rg.TR_STAT.USED : Fld := ⟨0x438, 0, 17, .ro, 0x0, .val⟩

/-- CV_AREA.ADDR (13). -/
def Rg.CV_AREA.ADDR : Fld := ⟨0x500, 0, 40, .rw, 0x0, .val⟩
/-- CV_AREA.EN (13). -/
def Rg.CV_AREA.EN : Fld := ⟨0x500, 40, 1, .rw, 0x0, .val⟩

/-- CV_ORG.E0 (13). -/
def Rg.CV_ORG.E0 : Fld := ⟨0x508, 0, 32, .rw, 0x0, .val⟩
/-- CV_ORG.N0 (13). -/
def Rg.CV_ORG.N0 : Fld := ⟨0x508, 32, 32, .rw, 0x0, .val⟩

/-- TM_POS.E (13). -/
def Rg.TM_POS.E : Fld := ⟨0x1018, 0, 32, .ro, 0x0, .val⟩
/-- TM_POS.N (13). -/
def Rg.TM_POS.N : Fld := ⟨0x1018, 32, 32, .ro, 0x0, .val⟩

/-- TM_PROG.S (13). -/
def Rg.TM_PROG.S : Fld := ⟨0x1020, 0, 32, .ro, 0x0, .val⟩
/-- TM_PROG.REMAIN (13). -/
def Rg.TM_PROG.REMAIN : Fld := ⟨0x1020, 32, 32, .ro, 0x0, .val⟩

/-- TM_T0.AT (13). -/
def Rg.TM_T0.AT : Fld := ⟨0x1028, 0, 64, .ro, 0x0, .val⟩

/-! ### 14_ethernet_failover.md -/

/-- PK_SEL.CTX (14). -/
def Rg.PK_SEL.CTX : Fld := ⟨0x10, 0, 10, .rw, 0x0, .val⟩

/-- PC_LADDR.ADDR (14). -/
def Rg.PC_LADDR.ADDR : Fld := ⟨0x108, 0, 64, .rw, 0x0, .val⟩

/-- PC_RADDR.ADDR (14). -/
def Rg.PC_RADDR.ADDR : Fld := ⟨0x118, 0, 64, .rw, 0x0, .val⟩

/-- PC_DMAC.MAC (14). -/
def Rg.PC_DMAC.MAC : Fld := ⟨0x138, 0, 48, .rw, 0x0, .val⟩

/-- PC_TCP.RCV_NXT (14). -/
def Rg.PC_TCP.RCV_NXT : Fld := ⟨0x140, 0, 32, .rw, 0x0, .val⟩

/-! ### 15_can.md -/

/-- CN_EVT.REFUSED (15). -/
def Rg.CN_EVT.REFUSED : Fld := ⟨0x30, 0, 1, .w1c, 0x0, .val⟩
/-- CN_EVT.CFG_LOCKED (15). -/
def Rg.CN_EVT.CFG_LOCKED : Fld := ⟨0x30, 1, 1, .w1c, 0x0, .val⟩
/-- CN_EVT.RX (15). -/
def Rg.CN_EVT.RX : Fld := ⟨0x30, 2, 1, .w1c, 0x0, .val⟩
/-- CN_EVT.LOST (15). -/
def Rg.CN_EVT.LOST : Fld := ⟨0x30, 3, 1, .w1c, 0x0, .val⟩
/-- CN_EVT.TX_DONE (15). -/
def Rg.CN_EVT.TX_DONE : Fld := ⟨0x30, 4, 1, .w1c, 0x0, .val⟩
/-- CN_EVT.ERR_PASSIVE (15). -/
def Rg.CN_EVT.ERR_PASSIVE : Fld := ⟨0x30, 5, 1, .w1c, 0x0, .val⟩
/-- CN_EVT.BUS_OFF (15). -/
def Rg.CN_EVT.BUS_OFF : Fld := ⟨0x30, 6, 1, .w1c, 0x0, .val⟩
/-- CN_EVT.LOCK_TO (15). -/
def Rg.CN_EVT.LOCK_TO : Fld := ⟨0x30, 7, 1, .w1c, 0x0, .val⟩
/-- CN_EVT.ADR_DONE (15). -/
def Rg.CN_EVT.ADR_DONE : Fld := ⟨0x30, 8, 1, .w1c, 0x0, .val⟩
/-- CN_EVT.STUCK_DOM (15). -/
def Rg.CN_EVT.STUCK_DOM : Fld := ⟨0x30, 9, 1, .w1c, 0x0, .val⟩
/-- CN_EVT.NO_TERM (15). -/
def Rg.CN_EVT.NO_TERM : Fld := ⟨0x30, 10, 1, .w1c, 0x0, .val⟩
/-- CN_EVT.TT_LOSS (15). -/
def Rg.CN_EVT.TT_LOSS : Fld := ⟨0x30, 11, 1, .w1c, 0x0, .val⟩
/-- CN_EVT.TT_FAIL (15). -/
def Rg.CN_EVT.TT_FAIL : Fld := ⟨0x30, 12, 1, .w1c, 0x0, .val⟩
/-- CN_EVT.PXE (15). -/
def Rg.CN_EVT.PXE : Fld := ⟨0x30, 13, 1, .w1c, 0x0, .val⟩
/-- CN_EVT.TXREQ_IGN (15). -/
def Rg.CN_EVT.TXREQ_IGN : Fld := ⟨0x30, 14, 1, .w1c, 0x0, .val⟩

/-- CN_CNT.NOMATCH (15). -/
def Rg.CN_CNT.NOMATCH : Fld := ⟨0x38, 0, 16, .ro, 0x0, .val⟩
/-- CN_CNT.LOST (15). -/
def Rg.CN_CNT.LOST : Fld := ⟨0x38, 16, 16, .ro, 0x0, .val⟩
/-- CN_CNT.TT_FAIL (15). -/
def Rg.CN_CNT.TT_FAIL : Fld := ⟨0x38, 32, 16, .ro, 0x0, .val⟩
/-- CN_CNT.PXE (15). -/
def Rg.CN_CNT.PXE : Fld := ⟨0x38, 48, 16, .ro, 0x0, .val⟩

/-- CN_ADR_TAB.NBT (15). -/
def Rg.CN_ADR_TAB.NBT : Fld := ⟨0x80, 0, 32, .rw, 0x0, .val⟩
/-- CN_ADR_TAB.DBT (15). -/
def Rg.CN_ADR_TAB.DBT : Fld := ⟨0x80, 32, 18, .rw, 0x0, .val⟩
/-- CN_ADR_TAB.FD (15). -/
def Rg.CN_ADR_TAB.FD : Fld := ⟨0x80, 50, 1, .rw, 0x0, .val⟩

/-- CN_OBJ_SEL.OBJ (15). -/
def Rg.CN_OBJ_SEL.OBJ : Fld := ⟨0x100, 0, 9, .rw, 0x0, .val⟩

/-- CN_OBJ_RES.RESULT (15). -/
def Rg.CN_OBJ_RES.RESULT : Fld := ⟨0x110, 0, 2, .ro, 0x0, .val⟩

/-- CN_OBJ_W.W (15). -/
def Rg.CN_OBJ_W.W : Fld := ⟨0x200, 0, 32, .rw, 0x0, .val⟩

/-- CN_TT_STAT.CYCLE (15). -/
def Rg.CN_TT_STAT.CYCLE : Fld := ⟨0x188, 0, 6, .ro, 0x0, .val⟩
/-- CN_TT_STAT.SYNC (15). -/
def Rg.CN_TT_STAT.SYNC : Fld := ⟨0x188, 6, 1, .ro, 0x0, .val⟩

/-! ### 16_host_dma_memory.md -/

/-- YX_EPOCH.EPOCH (16). -/
def Rg.YX_EPOCH.EPOCH : Fld := ⟨0x18, 0, 32, .ro, 0x0, .val⟩

/-- YX_SEQ.SEQ (16). -/
def Rg.YX_SEQ.SEQ : Fld := ⟨0x20, 0, 32, .ro, 0x0, .val⟩

/-- DM_TAG.TAG (16). -/
def Rg.DM_TAG.TAG : Fld := ⟨0x1020, 0, 32, .rw, 0x0, .val⟩

/-- DS_TAG.TAG (16). -/
def Rg.DS_TAG.TAG : Fld := ⟨0x1060, 0, 32, .rw, 0x0, .val⟩

/-- DM_CRC.CRC (16). -/
def Rg.DM_CRC.CRC : Fld := ⟨0x1090, 0, 32, .ro, 0xffffffff, .val⟩

/-- DM_LAST_BYTES.BYTES (16). -/
def Rg.DM_LAST_BYTES.BYTES : Fld := ⟨0x10a0, 0, 40, .ro, 0x0, .val⟩

/-- DDR_CE_ADDR.ADDR (16). -/
def Rg.DDR_CE_ADDR.ADDR : Fld := ⟨0x20, 0, 40, .ro, 0x0, .val⟩

/-- DDR_UE_ADDR.ADDR (16). -/
def Rg.DDR_UE_ADDR.ADDR : Fld := ⟨0x28, 0, 40, .ro, 0x0, .val⟩

/-- YX_REQBUF.DATA (16). -/
def Rg.YX_REQBUF.DATA : Fld := ⟨0x1000, 0, 64, .rw, 0x0, .val⟩

/-- YX_RESPBUF.DATA (16). -/
def Rg.YX_RESPBUF.DATA : Fld := ⟨0x3000, 0, 64, .ro, 0x0, .val⟩

/-! ### 17_security.md -/

/-- SEC_CHAL.CHAL (17). -/
def Rg.SEC_CHAL.CHAL : Fld := ⟨0x8, 0, 64, .ro, 0x0, .val⟩

/-- SEC_BOOTCNT.COUNT (17). -/
def Rg.SEC_BOOTCNT.COUNT : Fld := ⟨0x10, 0, 32, .ro, 0x0, .val⟩

/-- TAMP_LOG_T.AT (17). -/
def Rg.TAMP_LOG_T.AT : Fld := ⟨0x200, 0, 64, .ro, 0x0, .vbat⟩

/-- GM_REQ.DATA (17). -/
def Rg.GM_REQ.DATA : Fld := ⟨0x1000, 0, 64, .rw, 0x0, .val⟩

/-- GM_RESULT.DATA (17). -/
def Rg.GM_RESULT.DATA : Fld := ⟨0x1200, 0, 64, .ro, 0x0, .val⟩

/-- CY_LEVT.BITS (17). -/
def Rg.CY_LEVT.BITS : Fld := ⟨0x8, 0, 32, .ro, 0x0, .val⟩

/-! ### 18_events_health.md -/

/-- RC_SEQ.OLDEST (18). -/
def Rg.RC_SEQ.OLDEST : Fld := ⟨0x18, 0, 32, .ro, 0x0, .val⟩
/-- RC_SEQ.NEWEST (18). -/
def Rg.RC_SEQ.NEWEST : Fld := ⟨0x18, 32, 32, .ro, 0x0, .val⟩

/-- RC_ACK.SEQ (18). -/
def Rg.RC_ACK.SEQ : Fld := ⟨0x20, 0, 32, .wo, 0x0, .val⟩

/-- RC_SEL.SEQ (18). -/
def Rg.RC_SEL.SEQ : Fld := ⟨0x28, 0, 32, .rw, 0x0, .val⟩

/-- RC_SELSTAT.HELD (18). -/
def Rg.RC_SELSTAT.HELD : Fld := ⟨0x2c, 0, 1, .ro, 0x0, .val⟩

/-- RC_RING.BLOCK (18). -/
def Rg.RC_RING.BLOCK : Fld := ⟨0x38, 0, 10, .ro, 0x0, .val⟩
/-- RC_RING.BSEQ (18). -/
def Rg.RC_RING.BSEQ : Fld := ⟨0x38, 32, 32, .ro, 0x0, .val⟩

/-- RC_REC.W (18). -/
def Rg.RC_REC.W : Fld := ⟨0x80, 0, 64, .ro, 0x0, .val⟩

/-- HL_VLIM.VMIN_FA (18). -/
def Rg.HL_VLIM.VMIN_FA : Fld := ⟨0x10, 0, 10, .rwl, 0x2bc, .val⟩
/-- HL_VLIM.VMAX_FA (18). -/
def Rg.HL_VLIM.VMAX_FA : Fld := ⟨0x10, 16, 10, .rwl, 0x352, .val⟩
/-- HL_VLIM.VMIN_FB (18). -/
def Rg.HL_VLIM.VMIN_FB : Fld := ⟨0x10, 32, 10, .rwl, 0x2bc, .val⟩
/-- HL_VLIM.VMAX_FB (18). -/
def Rg.HL_VLIM.VMAX_FB : Fld := ⟨0x10, 48, 10, .rwl, 0x352, .val⟩

/-- HL_FMIN.FA (18). -/
def Rg.HL_FMIN.FA : Fld := ⟨0x18, 0, 8, .rwl, 0x78, .val⟩
/-- HL_FMIN.FB (18). -/
def Rg.HL_FMIN.FB : Fld := ⟨0x18, 8, 8, .rwl, 0x78, .val⟩

/-- HL_PMB.FA_ADDR (18). -/
def Rg.HL_PMB.FA_ADDR : Fld := ⟨0x20, 0, 7, .rwl, 0x0, .img⟩
/-- HL_PMB.FA_PAGE (18). -/
def Rg.HL_PMB.FA_PAGE : Fld := ⟨0x20, 8, 8, .rwl, 0x0, .img⟩
/-- HL_PMB.FB_ADDR (18). -/
def Rg.HL_PMB.FB_ADDR : Fld := ⟨0x20, 16, 7, .rwl, 0x0, .img⟩
/-- HL_PMB.FB_PAGE (18). -/
def Rg.HL_PMB.FB_PAGE : Fld := ⟨0x20, 24, 8, .rwl, 0x0, .img⟩

/-- HL_TLIM.WARN (18). -/
def Rg.HL_TLIM.WARN : Fld := ⟨0x38, 0, 10, .rw, 0x190, .val⟩
/-- HL_TLIM.CRIT (18). -/
def Rg.HL_TLIM.CRIT : Fld := ⟨0x38, 16, 10, .rw, 0x1b8, .val⟩

/-- HL_PINFLT.ALARM_OUT (18). -/
def Rg.HL_PINFLT.ALARM_OUT : Fld := ⟨0x40, 0, 8, .ro, 0x0, .val⟩
/-- HL_PINFLT.PPS_OUT (18). -/
def Rg.HL_PINFLT.PPS_OUT : Fld := ⟨0x40, 8, 4, .ro, 0x0, .val⟩
/-- HL_PINFLT.TRIG_LINE (18). -/
def Rg.HL_PINFLT.TRIG_LINE : Fld := ⟨0x40, 12, 2, .ro, 0x0, .val⟩
/-- HL_PINFLT.GPIO (18). -/
def Rg.HL_PINFLT.GPIO : Fld := ⟨0x40, 32, 32, .ro, 0x0, .val⟩

/-- The registers of the spec's register tables. -/
inductive Reg where
  | ISL_ID | ISL_CLK | ISL_STAT | ISL_EVT | ISL_QDROP | DSP_ID
  | DSP_CTRL | DSP_POOL | DSP_LOWWATER | DSP_INSERV | DSP_EVT | DSP_FLOW_SEL
  | DSP_FLOW_DATA | PORT_DESC | PORT_OP | PORT_RES | PORT_DISP | STRUCT_ID
  | STRUCT_STAT | STRUCT_DIGEST | STRUCT_INST0 | STRUCT_INST1 | MODE_STAT | MODE_REQ
  | MODE_RES | MODE_CFG | MODE_LIM | MODE_COMMIT | MODE_LATE | MODE_SKEWED
  | MODE_EVT | RESET_CAUSE | RESET_CTRL | PWR_STAT | WAKE_CFG | WAKE_TIME
  | WAKE_STAT | WAKE_TS | COC_CTRL | COC_ADDR | COC_DATA | COC_TIME
  | TIME_ID | TIME_CTRL | TIME_STAT | TIME_NOW | TIME_NOW_SUB | TIME_INC
  | TIME_ERA_NEXT | TIME_ADJ | TIME_SLEW | TIME_ADJ_REM | TIME_STEP | TIME_STEP_CTRL
  | TIME_TERR | TIME_HO | TIME_HO_T | UTC_CTRL | LEAP_AT | TIME_EVT
  | TDC_TS | TDC_SUB | PPS_CFG | PPS_OFS | PPS_CABLE | PPS_OUTDLY
  | EFC_CFG | EFC_VAL | TPOL_SRC | LT_ID | LT_EVT | LP_CFG
  | LP_CTRL | LP_TIMING | LP_KP | LP_KI | LP_KD | LP_N
  | LP_SP | LP_PV | LP_MAN | LP_U | LP_E | LP_I
  | LP_D | LP_OUTLIM | LP_SAT | LP_STAT | LP_EVT | LP_CT
  | LP_CT1D | LP_IDX | LP_RC | LP_RC_L | LP_RC_ADDR | LP_RC_STAT
  | RF_CFG | RF_CTRL | RF_STAT | RF_FE | RF_FE_FREQ | RF_FE_DLY
  | RF_RATE | RF_JAM | RF_JAM_BASE | RF_BIAS | RF_NOTCH | RF_NOTCH_CFG
  | RF_EVT | AQ_REQ | AQ_DOP | AQ_CTRL | AQ_RES | AQ_RES2
  | AQ_TS | AQ_EVT | CH_CFG | CH_CTRL | CH_AID | CH_AID_AT
  | CH_STAT | CH_EVT | OB_ID | OB_CFG | OB_SV | OB_SV_STAT
  | OB_POSX | OB_POSY | OB_POSZ | OB_POS_UNC | OB_STN | OB_BASE
  | OB_INT | OB_INT2 | OB_HO | OB_INT_STAT | OB_MSG | OB_GLO
  | OB_OUT | OB_SIDC | OB_SIDC_U | OB_RESID | OB_RESID_U | OB_PCV
  | OB_TSOL | OB_TSOL_AT | OB_CNT | OB_CNT2 | OB_LAT | OB_EVT
  | OB_CTX | WV_ID | WV_MCLK_STAT | WV_EVT | WV_IN_CFG | WV_IN_STAT
  | FL_CFG | FL_CTRL | FL_STAT | FL_CIC | FL_GD | FL_SETTLE
  | FL_BANK | FL_TH | FL_THH | FL_LAST | FL_CNT | FL_EVT
  | PH_ID | PH_CFG | PH_CTRL | PH_SCALE | PH_STAT | PH_CNT
  | PH_EVT | AT_ID | AT_SEL | AT_EVT | AL_CFG | AL_PORT
  | AL_BLK | AL_WAIT | AL_MEMB | AL_STAT | AL_Q | AL_CNT
  | AL_CNT2 | AC_CFG | AC_BUF | AC_FLOW | AC_STAT | AC_CNT
  | MG_SIG | MD_ID | MG_CFG | MG_CTRL | MG_OSC | MG_MEM
  | MG_ISL | MG_STAT | MG_ISLR | MG_CNT | MG_EVT | TG_ID
  | TG_CFG | TG_AREA | TG_SLOT | TG_LVL | TG_MEAS | TG_CTRL
  | TG_STAT | TG_EVT | AO_CFG | TL_CFG | RP_ID | FR_ASN_BASE
  | FR_PEPOCH | RP_CEVT | RP_CFG | RP_RAW | RP_STAT | RP_TRX
  | RP_EVT | RP_CNT | FR_CFG | FR_CTRL | FR_GRANT | FR_STAT
  | FR_ASN | FR_HOP | FR_SCHED | FR_CNT | FR_CNT2 | FR_EVT
  | FR_TXFCNT | FR_EUI | FR_CELL | MID | MCFG | MSTAT
  | MLAST | MCAP | FS_STAT | FS_CAUSE | FS_CTRL | FS_CFG
  | FS_PORT | FS_EVT | FS_RES | FS_PEPOCH | TK_ID | TK_CFG
  | TK_CTRL | TK_STAT | TK_AREA | TK_SUB | TK_SUBRES | TK_PRES
  | TK_EVT | TK_CNT | TK_PROFV | TK_PROFA | TR_REQ4 | TR_RES
  | CV_GEOM | TM_CFG | TM_CTRL | TM_STAT | TM_DONE | TM_EVT
  | ETH_CFG | ETH_MAC | ETH_STAT | ETH_EVT | ETH_CNT | ETH_CNT2
  | ETH_RULE | ETH_DEF | ETH_TSFIFO | ETH_TSINFO | ETH_SWTX | ETH_SWTX_CTL
  | ETH_LP | ETH_LP_ID | UP_CFG | UP_PEER | UP_CTRL | UP_STAT
  | UP_LAST | PK_ID | PK_CFG | PK_EVT | PK_CNT | PC_CFG
  | PC_PORTS | PC_TX | PC_STAT | PC_CNT | CN_ID | CN_CFG
  | CN_CTRL | CN_NBT | CN_DBT | CN_STAT | CN_BUS | CN_ADR
  | CN_OBJ_CFG | CN_TXREQ | CN_TT_CFG | CN_TT_WIN | PCIE_STAT | PCIE_CFG
  | PCIE_EVT | YX_CTRL | YX_STAT | YX_CFG | YX_CNT | YX_EVT
  | DM_SRC | DM_DST | DS_SRC | DS_DST | DM_COUNT | DS_COUNT
  | DM_CREC | DS_CREC | DM_CTL | DM_STAT | DM_LAST | DM_EVT
  | DDR_CFG | DDR_STAT | DDR_ECC | DDR_SCRUB | DDR_INJ | SM_ECC
  | DDR_EVT | SEC_STAT | BOOT_STAT | KS_CFG | TAMP_CFG | TAMP_STAT
  | TAMP_LOG_I | GM_CTL | GM_STAT | KS_ATTR | CY_ID | CS_CFG
  | CS_JOBS | CS_STAT | CS_CNT | CS_EVT | ER_ID | ER_CTRL
  | ER_SWRAISE | ER_PEND | ER_MASK | ER_ROUTE | ER_CNT | RC_CTRL
  | RC_STAT | RC_LOSS | RC_EVT | RC_SW_HDR | RC_SW_DATA | RC_SW_GO
  | RC_RATE | HL_CFG | HL_STAT | HL_EVT | HL_ISL_RO | HL_ISL
  | HL_ISL_AT | HL_RAIL | STRUCT_STAGED | CH_EPOCH | OB_DESC | FL_BANKA
  | FL_BANKB | PH_VAL | PH_FRQ | PH_FVAL | AL_ADDR | AL_RECONF
  | AL_LAST | AC_LAST | MD_LEVT | MG_MODES | MG_CLU | MG_ALTS
  | TG_CH | TG_LEN | TG_TSRC | TG_MSEL | TG_LHYS | TG_MRT
  | TG_MISS | TG_MISS_TS | TG_LAST | AO_SEL | TL_TS | TL_EVT
  | FS_LATCH_AT | FS_REL_AT | FS_CHAL | TR_AREA | TR_REQ0 | TR_REQ1
  | TR_REQ2 | TR_REQ3 | TR_STAT | CV_AREA | CV_ORG | TM_POS
  | TM_PROG | TM_T0 | PK_SEL | PC_LADDR | PC_RADDR | PC_DMAC
  | PC_TCP | CN_EVT | CN_CNT | CN_ADR_TAB | CN_OBJ_SEL | CN_OBJ_RES
  | CN_OBJ_W | CN_TT_STAT | YX_EPOCH | YX_SEQ | DM_TAG | DS_TAG
  | DM_CRC | DM_LAST_BYTES | DDR_CE_ADDR | DDR_UE_ADDR | YX_REQBUF | YX_RESPBUF
  | SEC_CHAL | SEC_BOOTCNT | TAMP_LOG_T | GM_REQ | GM_RESULT | CY_LEVT
  | RC_SEQ | RC_ACK | RC_SEL | RC_SELSTAT | RC_RING | RC_REC
  | HL_VLIM | HL_FMIN | HL_PMB | HL_TLIM | HL_PINFLT
  deriving DecidableEq, Repr

/-- Where each register sits in its block, its width, its instances and its fields. -/
def Reg.desc : Reg → RegDesc
  | .ISL_ID => ⟨0x0, false, [], [Rg.ISL_ID.ISLAND, Rg.ISL_ID.DOMAIN, Rg.ISL_ID.SLOTS]⟩
  | .ISL_CLK => ⟨0x8, false, [], [Rg.ISL_CLK.FREQ_CODE]⟩
  | .ISL_STAT => ⟨0x10, false, [], [Rg.ISL_STAT.PWR_ON, Rg.ISL_STAT.CLK_LOCK, Rg.ISL_STAT.EPOCH]⟩
  | .ISL_EVT => ⟨0x18, false, [], [Rg.ISL_EVT.LATE_APPLY, Rg.ISL_EVT.Q_FRAME_ERR, Rg.ISL_EVT.CREDIT_ERR, Rg.ISL_EVT.Q_DROP, Rg.ISL_EVT.EPOCH_HOLD, Rg.ISL_EVT.CLK_RANGE]⟩
  | .ISL_QDROP => ⟨0x20, false, [], [Rg.ISL_QDROP.COUNT]⟩
  | .DSP_ID => ⟨0x0, false, [], [Rg.DSP_ID.VERSION, Rg.DSP_ID.ENTRIES]⟩
  | .DSP_CTRL => ⟨0x8, false, [], [Rg.DSP_CTRL.ENABLE, Rg.DSP_CTRL.FLEET_RSV, Rg.DSP_CTRL.LOCK, Rg.DSP_CTRL.LOCK_VIOL]⟩
  | .DSP_POOL => ⟨0x10, false, [], [Rg.DSP_POOL.FREE_P, Rg.DSP_POOL.FREE_F]⟩
  | .DSP_LOWWATER => ⟨0x18, false, [], [Rg.DSP_LOWWATER.LW_P, Rg.DSP_LOWWATER.LW_F]⟩
  | .DSP_INSERV => ⟨0x20, false, [], [Rg.DSP_INSERV.INSERV, Rg.DSP_INSERV.INSERV_F]⟩
  | .DSP_EVT => ⟨0x28, false, [], [Rg.DSP_EVT.LOW_P, Rg.DSP_EVT.LOW_F, Rg.DSP_EVT.BUSY_P, Rg.DSP_EVT.BUSY_F, Rg.DSP_EVT.DEP_OVF, Rg.DSP_EVT.STALE, Rg.DSP_EVT.CANCEL_WON, Rg.DSP_EVT.FLOW_BUSY]⟩
  | .DSP_FLOW_SEL => ⟨0x30, false, [], [Rg.DSP_FLOW_SEL.FLOW]⟩
  | .DSP_FLOW_DATA => ⟨0x38, true, [], [Rg.DSP_FLOW_DATA.PART, Rg.DSP_FLOW_DATA.CONSUMER, Rg.DSP_FLOW_DATA.AGENT, Rg.DSP_FLOW_DATA.BUSY, Rg.DSP_FLOW_DATA.WAITING, Rg.DSP_FLOW_DATA.LANE]⟩
  | .PORT_DESC => ⟨0x100, true, [(0x40, 6)], [Rg.PORT_DESC.PART, Rg.PORT_DESC.PRIO, Rg.PORT_DESC.FLOW, Rg.PORT_DESC.HOLD, Rg.PORT_DESC.TAG]⟩
  | .PORT_OP => ⟨0x108, true, [(0x40, 6)], [Rg.PORT_OP.OP, Rg.PORT_OP.RELEASE_DEPENDENTS, Rg.PORT_OP.HANDLE, Rg.PORT_OP.PRED]⟩
  | .PORT_RES => ⟨0x110, true, [(0x40, 6)], [Rg.PORT_RES.STATUS, Rg.PORT_RES.HANDLE]⟩
  | .PORT_DISP => ⟨0x118, true, [(0x40, 6)], [Rg.PORT_DISP.VALID, Rg.PORT_DISP.DEP_CANCELLED, Rg.PORT_DISP.HANDLE, Rg.PORT_DISP.TAG]⟩
  | .STRUCT_ID => ⟨0x400, false, [], [Rg.STRUCT_ID.IMG_VERSION]⟩
  | .STRUCT_STAT => ⟨0x408, false, [], [Rg.STRUCT_STAT.CODE, Rg.STRUCT_STAT.SECTION, Rg.STRUCT_STAT.RECORD]⟩
  | .STRUCT_DIGEST => ⟨0x410, true, [], [Rg.STRUCT_DIGEST.DIGEST]⟩
  | .STRUCT_INST0 => ⟨0x418, true, [], [Rg.STRUCT_INST0.INST]⟩
  | .STRUCT_INST1 => ⟨0x420, false, [], [Rg.STRUCT_INST1.INST]⟩
  | .MODE_STAT => ⟨0x0, false, [], [Rg.MODE_STAT.MODE, Rg.MODE_STAT.CHANGING, Rg.MODE_STAT.TARGET, Rg.MODE_STAT.FSTOP, Rg.MODE_STAT.EPOCH, Rg.MODE_STAT.PENDING, Rg.MODE_STAT.SKEW, Rg.MODE_STAT.MAINT_DIRTY]⟩
  | .MODE_REQ => ⟨0x8, false, [], [Rg.MODE_REQ.TARGET, Rg.MODE_REQ.CAUSE]⟩
  | .MODE_RES => ⟨0x10, false, [], [Rg.MODE_RES.RESULT]⟩
  | .MODE_CFG => ⟨0x18, false, [], [Rg.MODE_CFG.AUTO_SVC, Rg.MODE_CFG.LOCK, Rg.MODE_CFG.LOCK_VIOL, Rg.MODE_CFG.COMMIT_LEAD, Rg.MODE_CFG.ACK_WAIT, Rg.MODE_CFG.DORM_GRACE]⟩
  | .MODE_LIM => ⟨0x20, false, [], [Rg.MODE_LIM.SVC_TERR, Rg.MODE_LIM.FLEET_TERR]⟩
  | .MODE_COMMIT => ⟨0x28, true, [], [Rg.MODE_COMMIT.INSTANT]⟩
  | .MODE_LATE => ⟨0x30, true, [], [Rg.MODE_LATE.ISLANDS]⟩
  | .MODE_SKEWED => ⟨0x38, true, [], [Rg.MODE_SKEWED.ISLANDS]⟩
  | .MODE_EVT => ⟨0x40, false, [], [Rg.MODE_EVT.CHANGED, Rg.MODE_EVT.LATE_APPLY, Rg.MODE_EVT.MODE_SKEW, Rg.MODE_EVT.REFUSED, Rg.MODE_EVT.WAKE, Rg.MODE_EVT.DORMANT_ABORT]⟩
  | .RESET_CAUSE => ⟨0x80, false, [], [Rg.RESET_CAUSE.POR, Rg.RESET_CAUSE.WARM_SW, Rg.RESET_CAUSE.WARM_HOST, Rg.RESET_CAUSE.WDOG_MP, Rg.RESET_CAUSE.WDOG_SEC, Rg.RESET_CAUSE.UPDATE, Rg.RESET_CAUSE.MAINT_BOOT]⟩
  | .RESET_CTRL => ⟨0x88, false, [], [Rg.RESET_CTRL.KEY, Rg.RESET_CTRL.MAINT_BOOT]⟩
  | .PWR_STAT => ⟨0x100, false, [], [Rg.PWR_STAT.DOM_ON, Rg.PWR_STAT.PSTATE, Rg.PWR_STAT.VBAT_OK, Rg.PWR_STAT.PFAIL]⟩
  | .WAKE_CFG => ⟨0xc0, false, [], [Rg.WAKE_CFG.TIMER_EN, Rg.WAKE_CFG.HOST_EN, Rg.WAKE_CFG.PIN_EN, Rg.WAKE_CFG.PIN_POL]⟩
  | .WAKE_TIME => ⟨0xc8, true, [], [Rg.WAKE_TIME.INSTANT]⟩
  | .WAKE_STAT => ⟨0xd0, false, [], [Rg.WAKE_STAT.TIMER, Rg.WAKE_STAT.HOST, Rg.WAKE_STAT.PIN, Rg.WAKE_STAT.TAMPER, Rg.WAKE_STAT.EARLY]⟩
  | .WAKE_TS => ⟨0xd8, true, [], [Rg.WAKE_TS.INSTANT]⟩
  | .COC_CTRL => ⟨0x140, false, [], [Rg.COC_CTRL.VALID, Rg.COC_CTRL.UE, Rg.COC_CTRL.FMT]⟩
  | .COC_ADDR => ⟨0x148, false, [], [Rg.COC_ADDR.WORD]⟩
  | .COC_DATA => ⟨0x150, true, [], [Rg.COC_DATA.DATA]⟩
  | .COC_TIME => ⟨0x158, true, [], [Rg.COC_TIME.INSTANT]⟩
  | .TIME_ID => ⟨0x0, false, [], [Rg.TIME_ID.VERSION]⟩
  | .TIME_CTRL => ⟨0x8, false, [], [Rg.TIME_CTRL.INC_SRC, Rg.TIME_CTRL.STATE, Rg.TIME_CTRL.QUAL]⟩
  | .TIME_STAT => ⟨0x10, false, [], [Rg.TIME_STAT.GEN, Rg.TIME_STAT.SLEWING, Rg.TIME_STAT.STEP_ARMED, Rg.TIME_STAT.ERA_PEND, Rg.TIME_STAT.REF_OK]⟩
  | .TIME_NOW => ⟨0x18, true, [], [Rg.TIME_NOW.NS, Rg.TIME_NOW.ERA]⟩
  | .TIME_NOW_SUB => ⟨0x20, false, [], [Rg.TIME_NOW_SUB.SUB]⟩
  | .TIME_INC => ⟨0x28, true, [], [Rg.TIME_INC.INC]⟩
  | .TIME_ERA_NEXT => ⟨0x30, false, [], [Rg.TIME_ERA_NEXT.ERA]⟩
  | .TIME_ADJ => ⟨0x38, true, [], [Rg.TIME_ADJ.FRAC, Rg.TIME_ADJ.NS]⟩
  | .TIME_SLEW => ⟨0x40, false, [], [Rg.TIME_SLEW.RATE]⟩
  | .TIME_ADJ_REM => ⟨0x48, true, [], [Rg.TIME_ADJ_REM.REM]⟩
  | .TIME_STEP => ⟨0x50, true, [], [Rg.TIME_STEP.VALUE]⟩
  | .TIME_STEP_CTRL => ⟨0x58, false, [], [Rg.TIME_STEP_CTRL.GO, Rg.TIME_STEP_CTRL.ABS, Rg.TIME_STEP_CTRL.CANCEL, Rg.TIME_STEP_CTRL.RESULT]⟩
  | .TIME_TERR => ⟨0x60, false, [], [Rg.TIME_TERR.TERR]⟩
  | .TIME_HO => ⟨0x68, true, [], [Rg.TIME_HO.RATE, Rg.TIME_HO.DRIFT]⟩
  | .TIME_HO_T => ⟨0x70, false, [], [Rg.TIME_HO_T.ELAPSED]⟩
  | .UTC_CTRL => ⟨0x78, false, [], [Rg.UTC_CTRL.UTC_OFS, Rg.UTC_CTRL.NEXT_OFS]⟩
  | .LEAP_AT => ⟨0x80, true, [], [Rg.LEAP_AT.INSTANT]⟩
  | .TIME_EVT => ⟨0x88, false, [], [Rg.TIME_EVT.ERA_MISS, Rg.TIME_EVT.ERA_LATE, Rg.TIME_EVT.TINC_RANGE, Rg.TIME_EVT.INC_SRC_VIOL, Rg.TIME_EVT.STEP_DONE, Rg.TIME_EVT.STEP_REFUSED, Rg.TIME_EVT.ADJ_REPLACED, Rg.TIME_EVT.REF_FAIL, Rg.TIME_EVT.LEAP_DONE, Rg.TIME_EVT.TDC_OVR, Rg.TIME_EVT.PPS_CHG, Rg.TIME_EVT.PPS_SHORT]⟩
  | .TDC_TS => ⟨0x100, true, [(0x10, 13)], [Rg.TDC_TS.TS]⟩
  | .TDC_SUB => ⟨0x108, false, [(0x10, 13)], [Rg.TDC_SUB.SUB, Rg.TDC_SUB.NEW, Rg.TDC_SUB.OVR, Rg.TDC_SUB.POL]⟩
  | .PPS_CFG => ⟨0x200, false, [(0x20, 4)], [Rg.PPS_CFG.EN, Rg.PPS_CFG.UNSET_EN, Rg.PPS_CFG.COMP_EN, Rg.PPS_CFG.MEAS_GO, Rg.PPS_CFG.MEAS_AUTO, Rg.PPS_CFG.WIDTH]⟩
  | .PPS_OFS => ⟨0x208, false, [(0x20, 4)], [Rg.PPS_OFS.OFS]⟩
  | .PPS_CABLE => ⟨0x210, false, [(0x20, 4)], [Rg.PPS_CABLE.DELAY, Rg.PPS_CABLE.STATE]⟩
  | .PPS_OUTDLY => ⟨0x218, false, [(0x20, 4)], [Rg.PPS_OUTDLY.DLY]⟩
  | .EFC_CFG => ⟨0x300, false, [], [Rg.EFC_CFG.BITS, Rg.EFC_CFG.EN, Rg.EFC_CFG.DIV]⟩
  | .EFC_VAL => ⟨0x308, false, [], [Rg.EFC_VAL.CODE]⟩
  | .TPOL_SRC => ⟨0x400, false, [], [Rg.TPOL_SRC.PRI0, Rg.TPOL_SRC.PRI1, Rg.TPOL_SRC.PRI2, Rg.TPOL_SRC.PRI3, Rg.TPOL_SRC.STEP_OK, Rg.TPOL_SRC.REVERT, Rg.TPOL_SRC.HOLD_S]⟩
  | .LT_ID => ⟨0x0, false, [], [Rg.LT_ID.VERSION, Rg.LT_ID.INSTANCE, Rg.LT_ID.LANES]⟩
  | .LT_EVT => ⟨0x8, false, [], [Rg.LT_EVT.LANE]⟩
  | .LP_CFG => ⟨0x1000, true, [(0x200, 16)], [Rg.LP_CFG.SP_SRC, Rg.LP_CFG.SP_IDX, Rg.LP_CFG.PV_SRC, Rg.LP_CFG.PV_IDX, Rg.LP_CFG.OUT_TGT, Rg.LP_CFG.NOTCH_SEL, Rg.LP_CFG.TRIG, Rg.LP_CFG.DERIV_PV, Rg.LP_CFG.FF_TABLE, Rg.LP_CFG.FF_RC, Rg.LP_CFG.CT_SHAPE, Rg.LP_CFG.CT_IDX_SRC, Rg.LP_CFG.CT_SVC, Rg.LP_CFG.RC_DDR]⟩
  | .LP_CTRL => ⟨0x1008, false, [(0x200, 16)], [Rg.LP_CTRL.EN, Rg.LP_CTRL.AUTO, Rg.LP_CTRL.RC_CLEAR, Rg.LP_CTRL.RC_FREEZE]⟩
  | .LP_TIMING => ⟨0x1010, true, [(0x200, 16)], [Rg.LP_TIMING.PERIOD, Rg.LP_TIMING.PHASE, Rg.LP_TIMING.STALE_MAX]⟩
  | .LP_KP => ⟨0x1018, false, [(0x200, 16)], [Rg.LP_KP.GAIN]⟩
  | .LP_KI => ⟨0x1020, false, [(0x200, 16)], [Rg.LP_KI.GAIN]⟩
  | .LP_KD => ⟨0x1028, false, [(0x200, 16)], [Rg.LP_KD.GAIN]⟩
  | .LP_N => ⟨0x1030, false, [(0x200, 16)], [Rg.LP_N.GAIN]⟩
  | .LP_SP => ⟨0x1038, true, [(0x200, 16)], [Rg.LP_SP.VALUE]⟩
  | .LP_PV => ⟨0x1040, true, [(0x200, 16)], [Rg.LP_PV.VALUE]⟩
  | .LP_MAN => ⟨0x1048, true, [(0x200, 16)], [Rg.LP_MAN.VALUE]⟩
  | .LP_U => ⟨0x1050, true, [(0x200, 16)], [Rg.LP_U.VALUE]⟩
  | .LP_E => ⟨0x1058, true, [(0x200, 16)], [Rg.LP_E.VALUE]⟩
  | .LP_I => ⟨0x1060, true, [(0x200, 16)], [Rg.LP_I.VALUE]⟩
  | .LP_D => ⟨0x1068, true, [(0x200, 16)], [Rg.LP_D.VALUE]⟩
  | .LP_OUTLIM => ⟨0x1070, true, [(0x200, 16)], [Rg.LP_OUTLIM.OUT_MIN, Rg.LP_OUTLIM.OUT_MAX]⟩
  | .LP_SAT => ⟨0x1078, true, [(0x200, 16)], [Rg.LP_SAT.SAT_LIM, Rg.LP_SAT.SAT_ACT, Rg.LP_SAT.SAT_TIME]⟩
  | .LP_STAT => ⟨0x1080, false, [(0x200, 16)], [Rg.LP_STAT.STATE, Rg.LP_STAT.REFUSE, Rg.LP_STAT.SAT, Rg.LP_STAT.RC_BUSY, Rg.LP_STAT.HOLD_CAUSE, Rg.LP_STAT.STALE]⟩
  | .LP_EVT => ⟨0x1088, false, [(0x200, 16)], [Rg.LP_EVT.SAT_LIMIT, Rg.LP_EVT.STALE_HOLD, Rg.LP_EVT.PRESET_CLAMP, Rg.LP_EVT.REFUSED, Rg.LP_EVT.CFG_LOCKED, Rg.LP_EVT.CT_CLAMP, Rg.LP_EVT.RC_SAT, Rg.LP_EVT.STEP_SKIP]⟩
  | .LP_CT => ⟨0x1090, true, [(0x200, 16)], [Rg.LP_CT.BASE, Rg.LP_CT.COUNT]⟩
  | .LP_CT1D => ⟨0x1098, true, [(0x200, 16)], [Rg.LP_CT1D.X0, Rg.LP_CT1D.STEP]⟩
  | .LP_IDX => ⟨0x10a0, true, [(0x200, 16)], [Rg.LP_IDX.AZ, Rg.LP_IDX.EL, Rg.LP_IDX.X]⟩
  | .LP_RC => ⟨0x10a8, true, [(0x200, 16)], [Rg.LP_RC.LEN, Rg.LP_RC.LEAD, Rg.LP_RC.Q]⟩
  | .LP_RC_L => ⟨0x10b0, false, [(0x200, 16)], [Rg.LP_RC_L.L]⟩
  | .LP_RC_ADDR => ⟨0x10b8, true, [(0x200, 16)], [Rg.LP_RC_ADDR.ADDR]⟩
  | .LP_RC_STAT => ⟨0x10c0, true, [(0x200, 16)], [Rg.LP_RC_STAT.POS, Rg.LP_RC_STAT.PASSES]⟩
  | .RF_CFG => ⟨0x0, false, [(0x1000, 8)], [Rg.RF_CFG.EN, Rg.RF_CFG.BIAS_FEED, Rg.RF_CFG.AUTO_RETRAIN, Rg.RF_CFG.FE_MANUAL, Rg.RF_CFG.SPI_DIV, Rg.RF_CFG.MAN_TRAIN]⟩
  | .RF_CTRL => ⟨0x8, false, [(0x1000, 8)], [Rg.RF_CTRL.RETRAIN, Rg.RF_CTRL.LEARN]⟩
  | .RF_STAT => ⟨0x10, false, [(0x1000, 8)], [Rg.RF_STAT.STATE, Rg.RF_STAT.FAIL_CODE, Rg.RF_STAT.INV_I, Rg.RF_STAT.INV_Q, Rg.RF_STAT.SWAP, Rg.RF_STAT.CLK_INV, Rg.RF_STAT.RATE_OK, Rg.RF_STAT.SLIP]⟩
  | .RF_FE => ⟨0x18, true, [(0x1000, 8)], [Rg.RF_FE.VENDOR, Rg.RF_FE.PART, Rg.RF_FE.BANDS, Rg.RF_FE.FORMATS, Rg.RF_FE.MAX_RATE]⟩
  | .RF_FE_FREQ => ⟨0x20, true, [(0x1000, 8)], [Rg.RF_FE_FREQ.CENTRE, Rg.RF_FE_FREQ.RATE, Rg.RF_FE_FREQ.INVERT]⟩
  | .RF_FE_DLY => ⟨0x28, true, [(0x1000, 8)], [Rg.RF_FE_DLY.GRP_DELAY, Rg.RF_FE_DLY.CAL_DELAY]⟩
  | .RF_RATE => ⟨0x30, false, [(0x1000, 8)], [Rg.RF_RATE.SPS]⟩
  | .RF_JAM => ⟨0x38, false, [(0x1000, 8)], [Rg.RF_JAM.JI, Rg.RF_JAM.SFM, Rg.RF_JAM.PREL, Rg.RF_JAM.THR]⟩
  | .RF_JAM_BASE => ⟨0x40, false, [(0x1000, 8)], [Rg.RF_JAM_BASE.P0, Rg.RF_JAM_BASE.SFM0]⟩
  | .RF_BIAS => ⟨0x48, false, [(0x1000, 8)], [Rg.RF_BIAS.CURRENT, Rg.RF_BIAS.STATE, Rg.RF_BIAS.SHORT_MA, Rg.RF_BIAS.OPEN_MA, Rg.RF_BIAS.RETRY_S]⟩
  | .RF_NOTCH => ⟨0x80, true, [(0x1000, 8), (0x8, 4)], [Rg.RF_NOTCH.MODE, Rg.RF_NOTCH.RSHIFT, Rg.RF_NOTCH.MU, Rg.RF_NOTCH.ENGAGED, Rg.RF_NOTCH.CENTRE]⟩
  | .RF_NOTCH_CFG => ⟨0xa0, false, [(0x1000, 8)], [Rg.RF_NOTCH_CFG.DET_THR]⟩
  | .RF_EVT => ⟨0xc0, false, [(0x1000, 8)], [Rg.RF_EVT.FAIL, Rg.RF_EVT.RATE_ERR, Rg.RF_EVT.JAM, Rg.RF_EVT.NOTCH_FULL, Rg.RF_EVT.NOTCH_IGN, Rg.RF_EVT.BIAS_SHORT, Rg.RF_EVT.BIAS_OPEN]⟩
  | .AQ_REQ => ⟨0x1000, true, [(0x100, 8)], [Rg.AQ_REQ.PORT, Rg.AQ_REQ.SIGNAL, Rg.AQ_REQ.SVID, Rg.AQ_REQ.K7, Rg.AQ_REQ.NC, Rg.AQ_REQ.AUTO_CH, Rg.AQ_REQ.CH]⟩
  | .AQ_DOP => ⟨0x1008, true, [(0x100, 8)], [Rg.AQ_DOP.CENTRE, Rg.AQ_DOP.HALF, Rg.AQ_DOP.THR]⟩
  | .AQ_CTRL => ⟨0x1010, false, [(0x100, 8)], [Rg.AQ_CTRL.GO, Rg.AQ_CTRL.ABORT, Rg.AQ_CTRL.BUSY, Rg.AQ_CTRL.DONE, Rg.AQ_CTRL.RESULT]⟩
  | .AQ_RES => ⟨0x1018, true, [(0x100, 8)], [Rg.AQ_RES.CODE, Rg.AQ_RES.DOP]⟩
  | .AQ_RES2 => ⟨0x1020, true, [(0x100, 8)], [Rg.AQ_RES2.PNR, Rg.AQ_RES2.CN0]⟩
  | .AQ_TS => ⟨0x1028, true, [(0x100, 8)], [Rg.AQ_TS.TS]⟩
  | .AQ_EVT => ⟨0x1030, false, [(0x100, 8)], [Rg.AQ_EVT.BUSY, Rg.AQ_EVT.HALF_CLAMP]⟩
  | .CH_CFG => ⟨0x1000, true, [(0x80, 32)], [Rg.CH_CFG.PORT, Rg.CH_CFG.SIGNAL, Rg.CH_CFG.SVID, Rg.CH_CFG.K7, Rg.CH_CFG.T_INT, Rg.CH_CFG.EL_SP, Rg.CH_CFG.PLL_BW, Rg.CH_CFG.DLL_BW, Rg.CH_CFG.MP_OFS]⟩
  | .CH_CTRL => ⟨0x1008, false, [(0x80, 32)], [Rg.CH_CTRL.EN, Rg.CH_CTRL.CN0_MIN, Rg.CH_CTRL.REACQ_MAX]⟩
  | .CH_AID => ⟨0x1010, true, [(0x80, 32)], [Rg.CH_AID.CODE, Rg.CH_AID.DOP]⟩
  | .CH_AID_AT => ⟨0x1018, true, [(0x80, 32)], [Rg.CH_AID_AT.AT]⟩
  | .CH_STAT => ⟨0x1020, false, [(0x80, 32)], [Rg.CH_STAT.STATE, Rg.CH_STAT.REFUSE, Rg.CH_STAT.AMBIG, Rg.CH_STAT.HALF_CYCLE, Rg.CH_STAT.PLI, Rg.CH_STAT.CN0]⟩
  | .CH_EVT => ⟨0x1028, false, [(0x80, 32)], [Rg.CH_EVT.LOST, Rg.CH_EVT.SLIP, Rg.CH_EVT.PORT_OFF, Rg.CH_EVT.AID_IGN, Rg.CH_EVT.CFG_LOCKED]⟩
  | .OB_ID => ⟨0x0, false, [], [Rg.OB_ID.VERSION, Rg.OB_ID.INSTANCE, Rg.OB_ID.LANES]⟩
  | .OB_CFG => ⟨0x8, false, [], [Rg.OB_CFG.ENCODER, Rg.OB_CFG.REF_ANT, Rg.OB_CFG.RATE, Rg.OB_CFG.ELEV_MASK, Rg.OB_CFG.CLOSE, Rg.OB_CFG.LOCK, Rg.OB_CFG.LOCK_VIOL, Rg.OB_CFG.CNT_CLR]⟩
  | .OB_SV => ⟨0x10, true, [], [Rg.OB_SV.MODE, Rg.OB_SV.START, Rg.OB_SV.DUR, Rg.OB_SV.ACC, Rg.OB_SV.CHK]⟩
  | .OB_SV_STAT => ⟨0x18, true, [], [Rg.OB_SV_STAT.STATE, Rg.OB_SV_STAT.ACC_MISS, Rg.OB_SV_STAT.BASE_STATE, Rg.OB_SV_STAT.IODS, Rg.OB_SV_STAT.EPOCHS, Rg.OB_SV_STAT.ELAPSED]⟩
  | .OB_POSX => ⟨0x20, true, [], [Rg.OB_POSX.MM]⟩
  | .OB_POSY => ⟨0x28, true, [], [Rg.OB_POSY.MM]⟩
  | .OB_POSZ => ⟨0x30, true, [], [Rg.OB_POSZ.MM]⟩
  | .OB_POS_UNC => ⟨0x38, false, [], [Rg.OB_POS_UNC.SIGMA, Rg.OB_POS_UNC.SOURCE]⟩
  | .OB_STN => ⟨0x40, false, [], [Rg.OB_STN.STATION_ID, Rg.OB_STN.ANT_H]⟩
  | .OB_BASE => ⟨0x48, true, [], [Rg.OB_BASE.E, Rg.OB_BASE.N, Rg.OB_BASE.U]⟩
  | .OB_INT => ⟨0x50, false, [], [Rg.OB_INT.MON_EN, Rg.OB_INT.LATCH, Rg.OB_INT.CLEAR, Rg.OB_INT.THR, Rg.OB_INT.FLAG_N, Rg.OB_INT.WH_N, Rg.OB_INT.OK_N]⟩
  | .OB_INT2 => ⟨0x58, false, [], [Rg.OB_INT2.UNMON_S]⟩
  | .OB_HO => ⟨0x60, false, [], [Rg.OB_HO.TERR_MAX, Rg.OB_HO.MAX_S]⟩
  | .OB_INT_STAT => ⟨0x68, false, [], [Rg.OB_INT_STAT.STATE, Rg.OB_INT_STAT.CAUSE, Rg.OB_INT_STAT.COMMON, Rg.OB_INT_STAT.DEV]⟩
  | .OB_MSG => ⟨0x70, true, [], [Rg.OB_MSG.MSM4, Rg.OB_MSG.MSM7, Rg.OB_MSG.MSM_DIV, Rg.OB_MSG.BDS3_EN, Rg.OB_MSG.P1005, Rg.OB_MSG.P1006, Rg.OB_MSG.P1033, Rg.OB_MSG.P1008, Rg.OB_MSG.P1230, Rg.OB_MSG.STATUS_NUM, Rg.OB_MSG.P_STATUS]⟩
  | .OB_GLO => ⟨0x78, true, [], [Rg.OB_GLO.L1CA, Rg.OB_GLO.L2CA, Rg.OB_GLO.ALIGNED]⟩
  | .OB_OUT => ⟨0x80, false, [(0x8, 4)], [Rg.OB_OUT.EN, Rg.OB_OUT.DST, Rg.OB_OUT.CLASS, Rg.OB_OUT.FLOW, Rg.OB_OUT.STATUS]⟩
  | .OB_SIDC => ⟨0xa0, true, [], [Rg.OB_SIDC.E, Rg.OB_SIDC.N]⟩
  | .OB_SIDC_U => ⟨0xa8, true, [], [Rg.OB_SIDC_U.U, Rg.OB_SIDC_U.EN]⟩
  | .OB_RESID => ⟨0xb0, true, [], [Rg.OB_RESID.E, Rg.OB_RESID.N]⟩
  | .OB_RESID_U => ⟨0xb8, true, [], [Rg.OB_RESID_U.U]⟩
  | .OB_PCV => ⟨0xc0, true, [], [Rg.OB_PCV.MAP]⟩
  | .OB_TSOL => ⟨0xc8, true, [], [Rg.OB_TSOL.OFFSET, Rg.OB_TSOL.NSAT, Rg.OB_TSOL.VALID]⟩
  | .OB_TSOL_AT => ⟨0xd0, true, [], [Rg.OB_TSOL_AT.AT]⟩
  | .OB_CNT => ⟨0xe0, true, [], [Rg.OB_CNT.OFFGRID, Rg.OB_CNT.LATE, Rg.OB_CNT.CTX_FULL, Rg.OB_CNT.EXCLUDED]⟩
  | .OB_CNT2 => ⟨0xe8, true, [], [Rg.OB_CNT2.OUT_DROP, Rg.OB_CNT2.PCV_ERR, Rg.OB_CNT2.DUP]⟩
  | .OB_LAT => ⟨0xf0, false, [], [Rg.OB_LAT.LAST, Rg.OB_LAT.MAX]⟩
  | .OB_EVT => ⟨0xf8, false, [], [Rg.OB_EVT.SURVEY_DONE, Rg.OB_EVT.ACC_MISS, Rg.OB_EVT.CHECK_FAIL, Rg.OB_EVT.INT_CHG, Rg.OB_EVT.WITHHELD, Rg.OB_EVT.LATE_EPOCH, Rg.OB_EVT.OUT_DROP, Rg.OB_EVT.ROLE, Rg.OB_EVT.CTX_FULL]⟩
  | .OB_CTX => ⟨0x1000, true, [(0x40, 128)], [Rg.OB_CTX.VALID, Rg.OB_CTX.SIGNAL, Rg.OB_CTX.SVID, Rg.OB_CTX.CH_A, Rg.OB_CTX.CH_B, Rg.OB_CTX.AZ, Rg.OB_CTX.EL]⟩
  | .WV_ID => ⟨0x0, false, [], [Rg.WV_ID.VERSION]⟩
  | .WV_MCLK_STAT => ⟨0x8, false, [], [Rg.WV_MCLK_STAT.ON, Rg.WV_MCLK_STAT.CONTEND]⟩
  | .WV_EVT => ⟨0x10, true, [], [Rg.WV_EVT.CHG]⟩
  | .WV_IN_CFG => ⟨0x100, false, [(0x10, 64)], [Rg.WV_IN_CFG.SAMPLE_DLY, Rg.WV_IN_CFG.EDGE, Rg.WV_IN_CFG.EXT_DLY]⟩
  | .WV_IN_STAT => ⟨0x108, false, [(0x10, 64)], [Rg.WV_IN_STAT.STATE, Rg.WV_IN_STAT.DENSITY]⟩
  | .FL_CFG => ⟨0x1000, true, [(0x100, 8)], [Rg.FL_CFG.R, Rg.FL_CFG.HB1, Rg.FL_CFG.HB2, Rg.FL_CFG.DEC, Rg.FL_CFG.TAPS, Rg.FL_CFG.BATCH, Rg.FL_CFG.COMP_GD, Rg.FL_CFG.FAST_EN, Rg.FL_CFG.FAST_DEC, Rg.FL_CFG.FINE_ROUTE, Rg.FL_CFG.FAST_ROUTE, Rg.FL_CFG.THR_ROUTE]⟩
  | .FL_CTRL => ⟨0x1008, false, [(0x100, 8)], [Rg.FL_CTRL.EN, Rg.FL_CTRL.SRC, Rg.FL_CTRL.SWAP, Rg.FL_CTRL.FADE, Rg.FL_CTRL.CNT_CLR]⟩
  | .FL_STAT => ⟨0x1010, false, [(0x100, 8)], [Rg.FL_STAT.RUN, Rg.FL_STAT.REFUSE, Rg.FL_STAT.ACTIVE, Rg.FL_STAT.FADING, Rg.FL_STAT.QUEUED, Rg.FL_STAT.FAST_OK, Rg.FL_STAT.ALIGNED, Rg.FL_STAT.FINE_UNSET, Rg.FL_STAT.FAST_UNSET, Rg.FL_STAT.FAULT, Rg.FL_STAT.THR_ACTIVE]⟩
  | .FL_CIC => ⟨0x1018, false, [(0x100, 8)], [Rg.FL_CIC.NORM, Rg.FL_CIC.B]⟩
  | .FL_GD => ⟨0x1020, false, [(0x100, 8)], [Rg.FL_GD.GD]⟩
  | .FL_SETTLE => ⟨0x1028, true, [(0x100, 8)], [Rg.FL_SETTLE.FAST, Rg.FL_SETTLE.FINE]⟩
  | .FL_BANK => ⟨0x1030, true, [(0x100, 8)], [Rg.FL_BANK.LIN_A, Rg.FL_BANK.LIN_B, Rg.FL_BANK.GD_A, Rg.FL_BANK.GD_B]⟩
  | .FL_TH => ⟨0x1040, true, [(0x100, 8), (0x10, 2)], [Rg.FL_TH.EN, Rg.FL_TH.PATH, Rg.FL_TH.KIND, Rg.FL_TH.DWELL, Rg.FL_TH.RATE_W, Rg.FL_TH.LEVEL]⟩
  | .FL_THH => ⟨0x1048, false, [(0x100, 8), (0x10, 2)], [Rg.FL_THH.HYST]⟩
  | .FL_LAST => ⟨0x1060, true, [(0x100, 8)], [Rg.FL_LAST.FINE, Rg.FL_LAST.FAST]⟩
  | .FL_CNT => ⟨0x1068, false, [(0x100, 8)], [Rg.FL_CNT.SAT, Rg.FL_CNT.OUT_DROP]⟩
  | .FL_EVT => ⟨0x1070, false, [(0x100, 8)], [Rg.FL_EVT.REFUSED, Rg.FL_EVT.CFG_LOCKED, Rg.FL_EVT.BANK_BUSY, Rg.FL_EVT.SWAP_REFUSED, Rg.FL_EVT.SWAP_SUPERSEDED, Rg.FL_EVT.THR0, Rg.FL_EVT.THR1, Rg.FL_EVT.OUT_DROP, Rg.FL_EVT.SETTLED]⟩
  | .PH_ID => ⟨0x0, false, [], [Rg.PH_ID.VERSION, Rg.PH_ID.INSTANCE, Rg.PH_ID.LANES]⟩
  | .PH_CFG => ⟨0x1000, true, [(0x80, 16)], [Rg.PH_CFG.SRC_CH, Rg.PH_CFG.F0, Rg.PH_CFG.CLASS, Rg.PH_CFG.FS, Rg.PH_CFG.SEQ, Rg.PH_CFG.FAST_EN, Rg.PH_CFG.FAST_SRC, Rg.PH_CFG.OUT_ROUTE, Rg.PH_CFG.FAST_ROUTE]⟩
  | .PH_CTRL => ⟨0x1008, false, [(0x80, 16)], [Rg.PH_CTRL.EN, Rg.PH_CTRL.CNT_CLR]⟩
  | .PH_SCALE => ⟨0x1010, true, [(0x80, 16)], [Rg.PH_SCALE.SCALE, Rg.PH_SCALE.ANG_OFS]⟩
  | .PH_STAT => ⟨0x1018, false, [(0x80, 16)], [Rg.PH_STAT.RUN, Rg.PH_STAT.REFUSE, Rg.PH_STAT.IN_RATE_OK, Rg.PH_STAT.UNSETTLED, Rg.PH_STAT.FAULT, Rg.PH_STAT.FRANGE, Rg.PH_STAT.SEQ_MEMBER, Rg.PH_STAT.SPC]⟩
  | .PH_CNT => ⟨0x1038, false, [(0x80, 16)], [Rg.PH_CNT.OUT_DROP, Rg.PH_CNT.GAP]⟩
  | .PH_EVT => ⟨0x1040, false, [(0x80, 16)], [Rg.PH_EVT.REFUSED, Rg.PH_EVT.CFG_LOCKED, Rg.PH_EVT.IN_RATE, Rg.PH_EVT.FRANGE, Rg.PH_EVT.OUT_DROP, Rg.PH_EVT.GAP]⟩
  | .AT_ID => ⟨0x0, false, [], [Rg.AT_ID.VERSION, Rg.AT_ID.INSTANCE, Rg.AT_ID.LANES]⟩
  | .AT_SEL => ⟨0x10, false, [], [Rg.AT_SEL.LANE]⟩
  | .AT_EVT => ⟨0x18, false, [], [Rg.AT_EVT.REFUSED, Rg.AT_EVT.LATE, Rg.AT_EVT.OLD_USE, Rg.AT_EVT.BADLEN, Rg.AT_EVT.NO_SLOT, Rg.AT_EVT.CAP_CLOSE, Rg.AT_EVT.MEMB_LOCKED, Rg.AT_EVT.PART_MISS, Rg.AT_EVT.CFG_LOCKED]⟩
  | .AL_CFG => ⟨0x100, true, [], [Rg.AL_CFG.EN, Rg.AL_CFG.LOCAL, Rg.AL_CFG.PKT, Rg.AL_CFG.CONN, Rg.AL_CFG.IDCODE, Rg.AL_CFG.RATE, Rg.AL_CFG.NUM_PMU, Rg.AL_CFG.WAIT_MODE, Rg.AL_CFG.SW_FLOW]⟩
  | .AL_PORT => ⟨0x118, true, [], [Rg.AL_PORT.SRC_PORT, Rg.AL_PORT.V6, Rg.AL_PORT.TCP, Rg.AL_PORT.TIME_BASE]⟩
  | .AL_BLK => ⟨0x120, true, [(0x8, 2)], [Rg.AL_BLK.FORMAT0, Rg.AL_BLK.PHNMR0, Rg.AL_BLK.ANNMR0, Rg.AL_BLK.DGNMR0, Rg.AL_BLK.FORMAT1, Rg.AL_BLK.PHNMR1, Rg.AL_BLK.ANNMR1, Rg.AL_BLK.DGNMR1]⟩
  | .AL_WAIT => ⟨0x130, true, [], [Rg.AL_WAIT.WMIN, Rg.AL_WAIT.WMAX, Rg.AL_WAIT.MARGIN, Rg.AL_WAIT.Q_STEP]⟩
  | .AL_MEMB => ⟨0x140, false, [], [Rg.AL_MEMB.MEMB]⟩
  | .AL_STAT => ⟨0x148, true, [], [Rg.AL_STAT.RUN, Rg.AL_STAT.REFUSE, Rg.AL_STAT.QUAR, Rg.AL_STAT.LEN, Rg.AL_STAT.QUAR_END]⟩
  | .AL_Q => ⟨0x150, true, [], [Rg.AL_Q.Q, Rg.AL_Q.W]⟩
  | .AL_CNT => ⟨0x160, true, [], [Rg.AL_CNT.RX, Rg.AL_CNT.LATE, Rg.AL_CNT.OLD_USE, Rg.AL_CNT.DUP]⟩
  | .AL_CNT2 => ⟨0x168, true, [], [Rg.AL_CNT2.BADLEN, Rg.AL_CNT2.BAD_CHK, Rg.AL_CNT2.OFFGRID, Rg.AL_CNT2.FUTURE]⟩
  | .AC_CFG => ⟨0x400, true, [(0x40, 16)], [Rg.AC_CFG.EN, Rg.AC_CFG.RATE, Rg.AC_CFG.WAIT_CAP, Rg.AC_CFG.TOL, Rg.AC_CFG.IDCODE, Rg.AC_CFG.ROUTE, Rg.AC_CFG.FLOW_EN]⟩
  | .AC_BUF => ⟨0x408, true, [(0x40, 16)], [Rg.AC_BUF.ADDR, Rg.AC_BUF.SLOT64, Rg.AC_BUF.NSLOT]⟩
  | .AC_FLOW => ⟨0x410, true, [(0x40, 16)], [Rg.AC_FLOW.FLOW, Rg.AC_FLOW.TIME_BASE]⟩
  | .AC_STAT => ⟨0x418, true, [(0x40, 16)], [Rg.AC_STAT.RUN, Rg.AC_STAT.REFUSE, Rg.AC_STAT.HOME, Rg.AC_STAT.MEMBERS, Rg.AC_STAT.PAYLOAD, Rg.AC_STAT.FREE]⟩
  | .AC_CNT => ⟨0x420, true, [(0x40, 16)], [Rg.AC_CNT.EMITTED, Rg.AC_CNT.PARTIAL, Rg.AC_CNT.NO_SLOT]⟩
  | .MG_SIG => ⟨0x2000, true, [(0x200, 16), (0x8, 64)], [Rg.MG_SIG.EN, Rg.MG_SIG.CH, Rg.MG_SIG.QTY, Rg.MG_SIG.FORMAT, Rg.MG_SIG.FNOM, Rg.MG_SIG.VAL_OFS, Rg.MG_SIG.STAT_OFS]⟩
  | .MD_ID => ⟨0x0, false, [], [Rg.MD_ID.VERSION, Rg.MD_ID.INSTANCE, Rg.MD_ID.LANES]⟩
  | .MG_CFG => ⟨0x1000, true, [(0x80, 16)], [Rg.MG_CFG.KIND, Rg.MG_CFG.FEED, Rg.MG_CFG.CONC, Rg.MG_CFG.DECIM, Rg.MG_CFG.P, Rg.MG_CFG.Q, Rg.MG_CFG.ALARM_ROUTE]⟩
  | .MG_CTRL => ⟨0x1008, false, [(0x80, 16)], [Rg.MG_CTRL.EN, Rg.MG_CTRL.RESTART, Rg.MG_CTRL.CNT_CLR]⟩
  | .MG_OSC => ⟨0x1010, true, [(0x80, 16)], [Rg.MG_OSC.FLO, Rg.MG_OSC.FHI, Rg.MG_OSC.ROOT_DIV, Rg.MG_OSC.ZTHR, Rg.MG_OSC.ZHYST, Rg.MG_OSC.DWELL]⟩
  | .MG_MEM => ⟨0x1018, false, [(0x80, 16)], [Rg.MG_MEM.MEM_S]⟩
  | .MG_ISL => ⟨0x1020, true, [(0x80, 16)], [Rg.MG_ISL.FDIFF, Rg.MG_ISL.SLIP_MAX, Rg.MG_ISL.NFR, Rg.MG_ISL.MIN_SITES, Rg.MG_ISL.REF_SITE]⟩
  | .MG_STAT => ⟨0x1028, false, [(0x80, 16)], [Rg.MG_STAT.RUN, Rg.MG_STAT.REFUSE, Rg.MG_STAT.VALID, Rg.MG_STAT.ALARM, Rg.MG_STAT.STALE, Rg.MG_STAT.MONITORED, Rg.MG_STAT.NMODE, Rg.MG_STAT.RATE]⟩
  | .MG_ISLR => ⟨0x1050, false, [(0x80, 16)], [Rg.MG_ISLR.NCLU, Rg.MG_ISLR.MORE, Rg.MG_ISLR.DF, Rg.MG_ISLR.SLIP]⟩
  | .MG_CNT => ⟨0x1068, true, [(0x80, 16)], [Rg.MG_CNT.SKIP, Rg.MG_CNT.ABSENT, Rg.MG_CNT.RESTARTS, Rg.MG_CNT.SOLVE_FAIL]⟩
  | .MG_EVT => ⟨0x1070, false, [(0x80, 16)], [Rg.MG_EVT.REFUSED, Rg.MG_EVT.CFG_LOCKED, Rg.MG_EVT.ALARM_CHG, Rg.MG_EVT.RESTART, Rg.MG_EVT.STALE, Rg.MG_EVT.SOLVE_FAIL, Rg.MG_EVT.OUT_DROP]⟩
  | .TG_ID => ⟨0x0, false, [], [Rg.TG_ID.VERSION, Rg.TG_ID.INSTANCE, Rg.TG_ID.LANES]⟩
  | .TG_CFG => ⟨0x1000, true, [(0x100, 4)], [Rg.TG_CFG.CLASS, Rg.TG_CFG.CONC, Rg.TG_CFG.AUTO, Rg.TG_CFG.DMA, Rg.TG_CFG.LINE_OUT, Rg.TG_CFG.IGN_OWN, Rg.TG_CFG.FRAME_WAIT]⟩
  | .TG_AREA => ⟨0x1010, true, [(0x100, 4)], [Rg.TG_AREA.ADDR, Rg.TG_AREA.NSLOT]⟩
  | .TG_SLOT => ⟨0x1018, false, [(0x100, 4)], [Rg.TG_SLOT.SLOT_BYTES]⟩
  | .TG_LVL => ⟨0x1038, true, [(0x100, 4)], [Rg.TG_LVL.LIDX, Rg.TG_LVL.LQTY, Rg.TG_LVL.LOFS, Rg.TG_LVL.DIR, Rg.TG_LVL.LEVEL]⟩
  | .TG_MEAS => ⟨0x1048, true, [(0x100, 4), (0x10, 4)], [Rg.TG_MEAS.EN, Rg.TG_MEAS.IDX, Rg.TG_MEAS.QTY, Rg.TG_MEAS.MLEVEL]⟩
  | .TG_CTRL => ⟨0x1088, false, [(0x100, 4)], [Rg.TG_CTRL.ARM, Rg.TG_CTRL.SWTRIG, Rg.TG_CTRL.ABORT, Rg.TG_CTRL.REL, Rg.TG_CTRL.CNT_CLR]⟩
  | .TG_STAT => ⟨0x1090, true, [(0x100, 4)], [Rg.TG_STAT.STATE, Rg.TG_STAT.REFUSE, Rg.TG_STAT.FULL, Rg.TG_STAT.CUR, Rg.TG_STAT.SEQ]⟩
  | .TG_EVT => ⟨0x10b0, false, [(0x100, 4)], [Rg.TG_EVT.REFUSED, Rg.TG_EVT.CFG_LOCKED, Rg.TG_EVT.RECORD, Rg.TG_EVT.MISSED, Rg.TG_EVT.TRUNC, Rg.TG_EVT.SHORT_PRE, Rg.TG_EVT.OVERRUN, Rg.TG_EVT.ABORTED]⟩
  | .AO_CFG => ⟨0x800, false, [(0x10, 8)], [Rg.AO_CFG.EN, Rg.AO_CFG.POL, Rg.AO_CFG.LATCH, Rg.AO_CFG.CLR, Rg.AO_CFG.MIN_MS, Rg.AO_CFG.TRIG_SEL, Rg.AO_CFG.STATE]⟩
  | .TL_CFG => ⟨0x900, false, [(0x10, 2)], [Rg.TL_CFG.RX_EN, Rg.TL_CFG.PULSE_US, Rg.TL_CFG.DRIVE, Rg.TL_CFG.LOW, Rg.TL_CFG.DRIVING, Rg.TL_CFG.STUCK]⟩
  | .RP_ID => ⟨0x0, false, [], [Rg.RP_ID.VERSION]⟩
  | .FR_ASN_BASE => ⟨0x8, true, [], [Rg.FR_ASN_BASE.INSTANT]⟩
  | .FR_PEPOCH => ⟨0x10, false, [], [Rg.FR_PEPOCH.EPOCH]⟩
  | .RP_CEVT => ⟨0x18, false, [], [Rg.RP_CEVT.BASE_IGN]⟩
  | .RP_CFG => ⟨0x1000, true, [(0x1000, 8)], [Rg.RP_CFG.EN, Rg.RP_CFG.SPI_DIV, Rg.RP_CFG.PRE_US, Rg.RP_CFG.TXLAT, Rg.RP_CFG.CH_US, Rg.RP_CFG.SFD_DLY, Rg.RP_CFG.RATE, Rg.RP_CFG.FCS4]⟩
  | .RP_RAW => ⟨0x1010, true, [(0x1000, 8)], [Rg.RP_RAW.LEN, Rg.RP_RAW.GO, Rg.RP_RAW.BUSY, Rg.RP_RAW.DATA]⟩
  | .RP_STAT => ⟨0x1018, false, [(0x1000, 8)], [Rg.RP_STAT.STATE, Rg.RP_STAT.FAIL_CODE, Rg.RP_STAT.MAXPSDU_B, Rg.RP_STAT.MAXPSDU_A]⟩
  | .RP_TRX => ⟨0x1020, true, [(0x1000, 8)], [Rg.RP_TRX.VENDOR, Rg.RP_TRX.PART, Rg.RP_TRX.FLAGS]⟩
  | .RP_EVT => ⟨0x1028, false, [(0x1000, 8)], [Rg.RP_EVT.FAIL, Rg.RP_EVT.TX_LATE, Rg.RP_EVT.RAW_IGN]⟩
  | .RP_CNT => ⟨0x1030, true, [(0x1000, 8)], [Rg.RP_CNT.TX, Rg.RP_CNT.RX_BAD, Rg.RP_CNT.TX_LATE]⟩
  | .FR_CFG => ⟨0x1000, true, [(0x1000, 2)], [Rg.FR_CFG.NET, Rg.FR_CFG.BC_OFS, Rg.FR_CFG.CORR_EN, Rg.FR_CFG.CORR_ENC, Rg.FR_CFG.RETRY, Rg.FR_CFG.RXG, Rg.FR_CFG.NET_SLOT, Rg.FR_CFG.PROFILE_ID]⟩
  | .FR_CTRL => ⟨0x1008, false, [(0x1000, 2)], [Rg.FR_CTRL.EN, Rg.FR_CTRL.JOIN_OPEN, Rg.FR_CTRL.CNT_CLR]⟩
  | .FR_GRANT => ⟨0x1010, false, [(0x1000, 2)], [Rg.FR_GRANT.GRANT]⟩
  | .FR_STAT => ⟨0x1018, true, [(0x1000, 2)], [Rg.FR_STAT.RUN, Rg.FR_STAT.REFUSE, Rg.FR_STAT.STOP, Rg.FR_STAT.PERMIT]⟩
  | .FR_ASN => ⟨0x1020, true, [(0x1000, 2)], [Rg.FR_ASN.ASN]⟩
  | .FR_HOP => ⟨0x1028, true, [(0x1000, 2), (0x8, 2)], [Rg.FR_HOP.HOP]⟩
  | .FR_SCHED => ⟨0x1038, false, [(0x1000, 2)], [Rg.FR_SCHED.ID]⟩
  | .FR_CNT => ⟨0x1040, true, [(0x1000, 2)], [Rg.FR_CNT.REPLAY, Rg.FR_CNT.DUP, Rg.FR_CNT.MIC_FAIL, Rg.FR_CNT.CORR_DROP]⟩
  | .FR_CNT2 => ⟨0x1048, true, [(0x1000, 2)], [Rg.FR_CNT2.NOACK, Rg.FR_CNT2.CLASH, Rg.FR_CNT2.WIDEN_SKIP, Rg.FR_CNT2.CORR_LONG]⟩
  | .FR_EVT => ⟨0x1050, false, [(0x1000, 2)], [Rg.FR_EVT.REFUSED, Rg.FR_EVT.CFG_LOCKED, Rg.FR_EVT.JOIN, Rg.FR_EVT.LOST, Rg.FR_EVT.REPLAY, Rg.FR_EVT.CLASH, Rg.FR_EVT.CORR_DROP, Rg.FR_EVT.FCNT_WARN, Rg.FR_EVT.MIC_FAIL]⟩
  | .FR_TXFCNT => ⟨0x1058, false, [(0x1000, 2)], [Rg.FR_TXFCNT.FCNT]⟩
  | .FR_EUI => ⟨0x1060, true, [(0x1000, 2)], [Rg.FR_EUI.EUI]⟩
  | .FR_CELL => ⟨0x1400, true, [(0x1000, 2), (0x8, 64)], [Rg.FR_CELL.EN, Rg.FR_CELL.SLOT, Rg.FR_CELL.DIR, Rg.FR_CELL.OWNER, Rg.FR_CELL.CHOFS, Rg.FR_CELL.PERIOD, Rg.FR_CELL.SFOFS]⟩
  | .MID => ⟨0x1800, true, [(0x1000, 2), (0x40, 32)], [Rg.MID.EUI]⟩
  | .MCFG => ⟨0x1808, true, [(0x1000, 2), (0x40, 32)], [Rg.MCFG.JKEY, Rg.MCFG.FLOW, Rg.MCFG.PROV]⟩
  | .MSTAT => ⟨0x1810, true, [(0x1000, 2), (0x40, 32)], [Rg.MSTAT.STATE, Rg.MSTAT.SEQ_MODE, Rg.MSTAT.LAST_SEQ, Rg.MSTAT.WIDEN, Rg.MSTAT.RX_FCNT]⟩
  | .MLAST => ⟨0x1818, true, [(0x1000, 2), (0x40, 32)], [Rg.MLAST.INSTANT]⟩
  | .MCAP => ⟨0x1820, true, [(0x1000, 2), (0x40, 32), (0x8, 4)], [Rg.MCAP.CAP]⟩
  | .FS_STAT => ⟨0x200, false, [], [Rg.FS_STAT.LATCHED, Rg.FS_STAT.CH0, Rg.FS_STAT.CH1, Rg.FS_STAT.DEC_A, Rg.FS_STAT.DEC_B, Rg.FS_STAT.SS_OK, Rg.FS_STAT.TEST, Rg.FS_STAT.RUN_OK]⟩
  | .FS_CAUSE => ⟨0x208, false, [], [Rg.FS_CAUSE.CAUSE, Rg.FS_CAUSE.STOP_ID]⟩
  | .FS_CTRL => ⟨0x210, false, [], [Rg.FS_CTRL.SW_STOP, Rg.FS_CTRL.TEST_GO]⟩
  | .FS_CFG => ⟨0x218, true, [], [Rg.FS_CFG.RUN_MIN, Rg.FS_CFG.XMIS_MS, Rg.FS_CFG.REL_SLOT, Rg.FS_CFG.NET_EN]⟩
  | .FS_PORT => ⟨0x238, false, [], [Rg.FS_PORT.ACTIVE, Rg.FS_PORT.MISS, Rg.FS_PORT.SEEN]⟩
  | .FS_EVT => ⟨0x240, false, [], [Rg.FS_EVT.LATCH, Rg.FS_EVT.RELEASE, Rg.FS_EVT.REL_REFUSED, Rg.FS_EVT.DISAG0, Rg.FS_EVT.DISAG1, Rg.FS_EVT.XMIS, Rg.FS_EVT.HM_MISS, Rg.FS_EVT.SS_MISMATCH, Rg.FS_EVT.SS_FAULT, Rg.FS_EVT.TEST_DONE]⟩
  | .FS_RES => ⟨0x248, false, [], [Rg.FS_RES.RESULT]⟩
  | .FS_PEPOCH => ⟨0x250, false, [], [Rg.FS_PEPOCH.EPOCH]⟩
  | .TK_ID => ⟨0x0, false, [], [Rg.TK_ID.VERSION, Rg.TK_ID.INSTANCE, Rg.TK_ID.LANES]⟩
  | .TK_CFG => ⟨0x8, true, [], [Rg.TK_CFG.CLEAR, Rg.TK_CFG.T_MARGIN, Rg.TK_CFG.LEAD, Rg.TK_CFG.START_TOL, Rg.TK_CFG.LOOK, Rg.TK_CFG.OVL]⟩
  | .TK_CTRL => ⟨0x10, false, [], [Rg.TK_CTRL.EN, Rg.TK_CTRL.CNT_CLR]⟩
  | .TK_STAT => ⟨0x18, false, [], [Rg.TK_STAT.RUN, Rg.TK_STAT.REFUSE, Rg.TK_STAT.HOME, Rg.TK_STAT.IODS]⟩
  | .TK_AREA => ⟨0x20, true, [], [Rg.TK_AREA.ADDR, Rg.TK_AREA.COUNT]⟩
  | .TK_SUB => ⟨0x28, true, [], [Rg.TK_SUB.INDEX, Rg.TK_SUB.LANE, Rg.TK_SUB.HOLD, Rg.TK_SUB.PRIO]⟩
  | .TK_SUBRES => ⟨0x30, true, [], [Rg.TK_SUBRES.STATUS, Rg.TK_SUBRES.HANDLE]⟩
  | .TK_PRES => ⟨0x38, false, [], [Rg.TK_PRES.RESULT, Rg.TK_PRES.PROFILE, Rg.TK_PRES.LANE]⟩
  | .TK_EVT => ⟨0x40, false, [], [Rg.TK_EVT.REFUSED, Rg.TK_EVT.ORIGIN_CHG, Rg.TK_EVT.PROF_REFUSED, Rg.TK_EVT.CONFLICT, Rg.TK_EVT.LATE_SW, Rg.TK_EVT.LAG, Rg.TK_EVT.CFG_LOCKED, Rg.TK_EVT.TABLE_FULL]⟩
  | .TK_CNT => ⟨0x48, true, [], [Rg.TK_CNT.CONFLICT, Rg.TK_CNT.LAG, Rg.TK_CNT.GAP, Rg.TK_CNT.LATE_SW]⟩
  | .TK_PROFV => ⟨0x100, true, [(0x10, 32)], [Rg.TK_PROFV.V_START, Rg.TK_PROFV.V_STOP, Rg.TK_PROFV.V_KNEE, Rg.TK_PROFV.V_MAX]⟩
  | .TK_PROFA => ⟨0x108, true, [(0x10, 32)], [Rg.TK_PROFA.A1, Rg.TK_PROFA.A2, Rg.TK_PROFA.D1, Rg.TK_PROFA.D2]⟩
  | .TR_REQ4 => ⟨0x428, true, [], [Rg.TR_REQ4.HALF_W, Rg.TR_REQ4.OP, Rg.TR_REQ4.GO, Rg.TR_REQ4.ID]⟩
  | .TR_RES => ⟨0x430, true, [], [Rg.TR_RES.STATUS, Rg.TR_RES.ID, Rg.TR_RES.WITH, Rg.TR_RES.OWNER]⟩
  | .CV_GEOM => ⟨0x510, true, [], [Rg.CV_GEOM.NX, Rg.CV_GEOM.NY, Rg.CV_GEOM.CS]⟩
  | .TM_CFG => ⟨0x1000, true, [(0x80, 64)], [Rg.TM_CFG.TASK_FLOW, Rg.TM_CFG.SW_FLOW, Rg.TM_CFG.BACK, Rg.TM_CFG.AUTO_RESUME]⟩
  | .TM_CTRL => ⟨0x1008, false, [(0x80, 64)], [Rg.TM_CTRL.PAUSE, Rg.TM_CTRL.RESUME, Rg.TM_CTRL.ABORT]⟩
  | .TM_STAT => ⟨0x1010, true, [(0x80, 64)], [Rg.TM_STAT.STATE, Rg.TM_STAT.PERMIT, Rg.TM_STAT.JOINED, Rg.TM_STAT.HALTED, Rg.TM_STAT.HOLD_CAUSE, Rg.TM_STAT.FIX, Rg.TM_STAT.HANDLE, Rg.TM_STAT.SEG]⟩
  | .TM_DONE => ⟨0x1030, true, [(0x80, 64)], [Rg.TM_DONE.HANDLE, Rg.TM_DONE.STATUS]⟩
  | .TM_EVT => ⟨0x1040, false, [(0x80, 64)], [Rg.TM_EVT.DONE, Rg.TM_EVT.PAUSED, Rg.TM_EVT.WAIT_RES, Rg.TM_EVT.HOLD, Rg.TM_EVT.CFG_LOCKED]⟩
  | .ETH_CFG => ⟨0x0, true, [(0x4000, 4)], [Rg.ETH_CFG.EN, Rg.ETH_CFG.PAIR_EN, Rg.ETH_CFG.MAXFRAME, Rg.ETH_CFG.PTP_ROLE, Rg.ETH_CFG.ONE_STEP, Rg.ETH_CFG.P2P, Rg.ETH_CFG.PTP_TRANSPORT, Rg.ETH_CFG.PTP_DOMAIN]⟩
  | .ETH_MAC => ⟨0x8, true, [(0x4000, 4)], [Rg.ETH_MAC.MAC]⟩
  | .ETH_STAT => ⟨0x10, false, [(0x4000, 4)], [Rg.ETH_STAT.LINK, Rg.ETH_STAT.SPEED, Rg.ETH_STAT.UP_ROLE, Rg.ETH_STAT.MISS, Rg.ETH_STAT.PTP_STATE]⟩
  | .ETH_EVT => ⟨0x18, false, [(0x4000, 4)], [Rg.ETH_EVT.LINK_CHG, Rg.ETH_EVT.HB_LOSS, Rg.ETH_EVT.FAILOVER, Rg.ETH_EVT.STANDBY, Rg.ETH_EVT.FLUSH, Rg.ETH_EVT.TX_DROP, Rg.ETH_EVT.TS_OVF, Rg.ETH_EVT.SWTX_ERR, Rg.ETH_EVT.CFG_LOCKED]⟩
  | .ETH_CNT => ⟨0x20, true, [(0x4000, 4)], [Rg.ETH_CNT.RX_OK, Rg.ETH_CNT.TX_OK]⟩
  | .ETH_CNT2 => ⟨0x28, true, [(0x4000, 4)], [Rg.ETH_CNT2.RX_DROP, Rg.ETH_CNT2.TX_DROP, Rg.ETH_CNT2.FLUSHED, Rg.ETH_CNT2.DUP_TX]⟩
  | .ETH_RULE => ⟨0x100, true, [(0x4000, 4), (0x10, 16)], [Rg.ETH_RULE.EN, Rg.ETH_RULE.MATCH, Rg.ETH_RULE.LOW, Rg.ETH_RULE.HIGH, Rg.ETH_RULE.KIND, Rg.ETH_RULE.POS, Rg.ETH_RULE.FLOW]⟩
  | .ETH_DEF => ⟨0x200, false, [(0x4000, 4)], [Rg.ETH_DEF.DROP, Rg.ETH_DEF.FLOW]⟩
  | .ETH_TSFIFO => ⟨0x300, true, [(0x4000, 4)], [Rg.ETH_TSFIFO.TS]⟩
  | .ETH_TSINFO => ⟨0x308, true, [(0x4000, 4)], [Rg.ETH_TSINFO.SUB, Rg.ETH_TSINFO.SEQID, Rg.ETH_TSINFO.MSGTYPE, Rg.ETH_TSINFO.GEN, Rg.ETH_TSINFO.VALID, Rg.ETH_TSINFO.OVF]⟩
  | .ETH_SWTX => ⟨0x400, true, [(0x4000, 4)], [Rg.ETH_SWTX.ADDR, Rg.ETH_SWTX.LEN]⟩
  | .ETH_SWTX_CTL => ⟨0x408, false, [(0x4000, 4)], [Rg.ETH_SWTX_CTL.GO, Rg.ETH_SWTX_CTL.FREE]⟩
  | .ETH_LP => ⟨0x500, true, [(0x4000, 4)], [Rg.ETH_LP.AN_WORD, Rg.ETH_LP.AN_DONE, Rg.ETH_LP.LLDP_SEEN, Rg.ETH_LP.GM_CLASS, Rg.ETH_LP.GM_ACC]⟩
  | .ETH_LP_ID => ⟨0x508, true, [(0x4000, 4)], [Rg.ETH_LP_ID.CHASSIS]⟩
  | .UP_CFG => ⟨0x800, false, [], [Rg.UP_CFG.HB_EN, Rg.UP_CFG.REPAIR_MS, Rg.UP_CFG.PTP_REQ]⟩
  | .UP_PEER => ⟨0x808, true, [], [Rg.UP_PEER.MAC]⟩
  | .UP_CTRL => ⟨0x810, false, [], [Rg.UP_CTRL.SWITCH]⟩
  | .UP_STAT => ⟨0x818, false, [], [Rg.UP_STAT.ACTIVE, Rg.UP_STAT.STATE, Rg.UP_STAT.SW_RES, Rg.UP_STAT.SWITCHES]⟩
  | .UP_LAST => ⟨0x820, true, [], [Rg.UP_LAST.INSTANT]⟩
  | .PK_ID => ⟨0x0, false, [], [Rg.PK_ID.VERSION, Rg.PK_ID.INSTANCE, Rg.PK_ID.LANES]⟩
  | .PK_CFG => ⟨0x8, false, [], [Rg.PK_CFG.DEF_EN, Rg.PK_CFG.DEF_FLOW]⟩
  | .PK_EVT => ⟨0x18, false, [], [Rg.PK_EVT.REFUSED, Rg.PK_EVT.OWNED, Rg.PK_EVT.TX_DROP, Rg.PK_EVT.TOO_LONG, Rg.PK_EVT.HDR_ERR, Rg.PK_EVT.CFG_LOCKED]⟩
  | .PK_CNT => ⟨0x20, true, [], [Rg.PK_CNT.HDR_ERR, Rg.PK_CNT.NOMATCH, Rg.PK_CNT.TX_DROP, Rg.PK_CNT.TOO_LONG]⟩
  | .PC_CFG => ⟨0x100, true, [], [Rg.PC_CFG.EN, Rg.PC_CFG.KIND, Rg.PC_CFG.PROTO, Rg.PC_CFG.V6, Rg.PC_CFG.WILD, Rg.PC_CFG.OWNED, Rg.PC_CFG.IN_PORT, Rg.PC_CFG.CONC, Rg.PC_CFG.SW_FLOW, Rg.PC_CFG.DST_POS, Rg.PC_CFG.DST_LANE]⟩
  | .PC_PORTS => ⟨0x128, false, [], [Rg.PC_PORTS.LPORT, Rg.PC_PORTS.RPORT]⟩
  | .PC_TX => ⟨0x130, false, [], [Rg.PC_TX.PORT, Rg.PC_TX.DSCP, Rg.PC_TX.TTL]⟩
  | .PC_STAT => ⟨0x148, false, [], [Rg.PC_STAT.RUN, Rg.PC_STAT.REFUSE, Rg.PC_STAT.GAP]⟩
  | .PC_CNT => ⟨0x150, true, [], [Rg.PC_CNT.RX, Rg.PC_CNT.TX, Rg.PC_CNT.DROP]⟩
  | .CN_ID => ⟨0x0, false, [(0x4000, 4)], [Rg.CN_ID.VERSION, Rg.CN_ID.INSTANCE]⟩
  | .CN_CFG => ⟨0x8, false, [(0x4000, 4)], [Rg.CN_CFG.OPMODE, Rg.CN_CFG.FD_EN, Rg.CN_CFG.DAR, Rg.CN_CFG.AUTO_BOR, Rg.CN_CFG.TDC_EN, Rg.CN_CFG.LOCK_MS, Rg.CN_CFG.TT_EN, Rg.CN_CFG.TT_MASTER]⟩
  | .CN_CTRL => ⟨0x10, false, [(0x4000, 4)], [Rg.CN_CTRL.EN, Rg.CN_CTRL.BOR_REQ, Rg.CN_CTRL.ADR_GO, Rg.CN_CTRL.ADR_ABORT, Rg.CN_CTRL.CNT_CLR]⟩
  | .CN_NBT => ⟨0x18, false, [(0x4000, 4)], [Rg.CN_NBT.BRP, Rg.CN_NBT.TSEG1, Rg.CN_NBT.TSEG2, Rg.CN_NBT.SJW]⟩
  | .CN_DBT => ⟨0x20, false, [(0x4000, 4)], [Rg.CN_DBT.BRP, Rg.CN_DBT.TSEG1, Rg.CN_DBT.TSEG2, Rg.CN_DBT.SJW, Rg.CN_DBT.TDCO]⟩
  | .CN_STAT => ⟨0x28, false, [(0x4000, 4)], [Rg.CN_STAT.STATE, Rg.CN_STAT.REFUSE, Rg.CN_STAT.REC, Rg.CN_STAT.TEC, Rg.CN_STAT.LOCKED, Rg.CN_STAT.SHADOW]⟩
  | .CN_BUS => ⟨0x40, true, [(0x4000, 4)], [Rg.CN_BUS.LOOP_NS, Rg.CN_BUS.DOM_NS, Rg.CN_BUS.REC_NS, Rg.CN_BUS.STUCK_DOM, Rg.CN_BUS.NO_TERM, Rg.CN_BUS.TERM_THR]⟩
  | .CN_ADR => ⟨0x48, false, [(0x4000, 4)], [Rg.CN_ADR.COUNT, Rg.CN_ADR.DWELL_MS, Rg.CN_ADR.ROUNDS, Rg.CN_ADR.RESULT, Rg.CN_ADR.INDEX]⟩
  | .CN_OBJ_CFG => ⟨0x108, true, [(0x4000, 4)], [Rg.CN_OBJ_CFG.ID, Rg.CN_OBJ_CFG.IDE, Rg.CN_OBJ_CFG.EN, Rg.CN_OBJ_CFG.DIR, Rg.CN_OBJ_CFG.DLC, Rg.CN_OBJ_CFG.FDF, Rg.CN_OBJ_CFG.BRS, Rg.CN_OBJ_CFG.IRQ]⟩
  | .CN_TXREQ => ⟨0x118, false, [(0x4000, 4)], [Rg.CN_TXREQ.OBJ, Rg.CN_TXREQ.CANCEL, Rg.CN_TXREQ.PENDING]⟩
  | .CN_TT_CFG => ⟨0x180, true, [(0x4000, 4)], [Rg.CN_TT_CFG.CYC_US, Rg.CN_TT_CFG.REF_OBJ, Rg.CN_TT_CFG.CYCLES]⟩
  | .CN_TT_WIN => ⟨0x400, true, [(0x4000, 4), (0x8, 32)], [Rg.CN_TT_WIN.EN, Rg.CN_TT_WIN.KIND, Rg.CN_TT_WIN.OBJ, Rg.CN_TT_WIN.BASE, Rg.CN_TT_WIN.REP, Rg.CN_TT_WIN.START, Rg.CN_TT_WIN.LEN]⟩
  | .PCIE_STAT => ⟨0x0, false, [], [Rg.PCIE_STAT.LINK_UP, Rg.PCIE_STAT.SPEED, Rg.PCIE_STAT.WIDTH, Rg.PCIE_STAT.PERST]⟩
  | .PCIE_CFG => ⟨0x8, true, [], [Rg.PCIE_CFG.BAR0_WR, Rg.PCIE_CFG.LOCK, Rg.PCIE_CFG.LOCK_VIOL, Rg.PCIE_CFG.OB_HI]⟩
  | .PCIE_EVT => ⟨0x10, false, [], [Rg.PCIE_EVT.LINK_CHG, Rg.PCIE_EVT.PERST, Rg.PCIE_EVT.HOST_VIOL, Rg.PCIE_EVT.CPL_ERR]⟩
  | .YX_CTRL => ⟨0x0, false, [], [Rg.YX_CTRL.GO, Rg.YX_CTRL.ACK]⟩
  | .YX_STAT => ⟨0x8, false, [], [Rg.YX_STAT.BUSY, Rg.YX_STAT.RESP_RDY, Rg.YX_STAT.QUEUED]⟩
  | .YX_CFG => ⟨0x10, false, [], [Rg.YX_CFG.UDP_EN, Rg.YX_CFG.UDP_AUTH, Rg.YX_CFG.KEY_SLOT, Rg.YX_CFG.LOCK, Rg.YX_CFG.LOCK_VIOL]⟩
  | .YX_CNT => ⟨0x28, true, [], [Rg.YX_CNT.UDP_DROP, Rg.YX_CNT.AUTH_FAIL, Rg.YX_CNT.REPLAY, Rg.YX_CNT.BAD_FRAME]⟩
  | .YX_EVT => ⟨0x30, false, [], [Rg.YX_EVT.GO_IGN, Rg.YX_EVT.AUTH_FAIL]⟩
  | .DM_SRC => ⟨0x1000, true, [(0x100, 16)], [Rg.DM_SRC.ADDR, Rg.DM_SRC.HOST, Rg.DM_SRC.LIST, Rg.DM_SRC.ENTRIES]⟩
  | .DM_DST => ⟨0x1008, true, [(0x100, 16)], [Rg.DM_DST.ADDR, Rg.DM_DST.HOST, Rg.DM_DST.LIST, Rg.DM_DST.ENTRIES]⟩
  | .DS_SRC => ⟨0x1040, true, [(0x100, 16)], [Rg.DS_SRC.ADDR, Rg.DS_SRC.HOST, Rg.DS_SRC.LIST, Rg.DS_SRC.ENTRIES]⟩
  | .DS_DST => ⟨0x1048, true, [(0x100, 16)], [Rg.DS_DST.ADDR, Rg.DS_DST.HOST, Rg.DS_DST.LIST, Rg.DS_DST.ENTRIES]⟩
  | .DM_COUNT => ⟨0x1010, true, [(0x100, 16)], [Rg.DM_COUNT.COUNT]⟩
  | .DS_COUNT => ⟨0x1050, true, [(0x100, 16)], [Rg.DS_COUNT.COUNT]⟩
  | .DM_CREC => ⟨0x1018, true, [(0x100, 16)], [Rg.DM_CREC.ADDR, Rg.DM_CREC.HOST, Rg.DM_CREC.CREC_EN, Rg.DM_CREC.IRQ]⟩
  | .DS_CREC => ⟨0x1058, true, [(0x100, 16)], [Rg.DS_CREC.ADDR, Rg.DS_CREC.HOST, Rg.DS_CREC.CREC_EN, Rg.DS_CREC.IRQ]⟩
  | .DM_CTL => ⟨0x1080, false, [(0x100, 16)], [Rg.DM_CTL.ARM, Rg.DM_CTL.ABORT, Rg.DM_CTL.CONTINUE, Rg.DM_CTL.RESUME, Rg.DM_CTL.SH_GO, Rg.DM_CTL.SH_CLR, Rg.DM_CTL.PRIO]⟩
  | .DM_STAT => ⟨0x1088, false, [(0x100, 16)], [Rg.DM_STAT.STATE, Rg.DM_STAT.SH_VALID, Rg.DM_STAT.REFUSE]⟩
  | .DM_LAST => ⟨0x1098, true, [(0x100, 16)], [Rg.DM_LAST.STATUS, Rg.DM_LAST.CRC]⟩
  | .DM_EVT => ⟨0x10a8, false, [(0x100, 16)], [Rg.DM_EVT.DONE, Rg.DM_EVT.REFUSED, Rg.DM_EVT.SH_BUSY, Rg.DM_EVT.CFG_LOCKED, Rg.DM_EVT.SUSPENDED, Rg.DM_EVT.RESUME_IGN]⟩
  | .DDR_CFG => ⟨0x8, false, [], [Rg.DDR_CFG.SIZE, Rg.DDR_CFG.CE_WB, Rg.DDR_CFG.SCRUB_EN, Rg.DDR_CFG.SCRUB_H]⟩
  | .DDR_STAT => ⟨0x10, false, [], [Rg.DDR_STAT.TRAINED]⟩
  | .DDR_ECC => ⟨0x18, true, [], [Rg.DDR_ECC.CE, Rg.DDR_ECC.UE, Rg.DDR_ECC.POISON_RD]⟩
  | .DDR_SCRUB => ⟨0x30, true, [], [Rg.DDR_SCRUB.LINE, Rg.DDR_SCRUB.PASSES]⟩
  | .DDR_INJ => ⟨0x38, true, [], [Rg.DDR_INJ.ADDR, Rg.DDR_INJ.BITS, Rg.DDR_INJ.POISON, Rg.DDR_INJ.ARMED]⟩
  | .SM_ECC => ⟨0x100, true, [(0x8, 16)], [Rg.SM_ECC.CE, Rg.SM_ECC.UE, Rg.SM_ECC.LAST, Rg.SM_ECC.LAST_UE]⟩
  | .DDR_EVT => ⟨0x40, false, [], [Rg.DDR_EVT.CE, Rg.DDR_EVT.UE, Rg.DDR_EVT.SM_CE, Rg.DDR_EVT.SM_UE, Rg.DDR_EVT.PASS, Rg.DDR_EVT.TRAIN_FAIL]⟩
  | .SEC_STAT => ⟨0x0, false, [], [Rg.SEC_STAT.LC, Rg.SEC_STAT.DEBUG, Rg.SEC_STAT.DBG_NEXT, Rg.SEC_STAT.COMPAT_3300, Rg.SEC_STAT.ROOT, Rg.SEC_STAT.KS_EN, Rg.SEC_STAT.REROOT_LEFT]⟩
  | .BOOT_STAT => ⟨0x18, false, [], [Rg.BOOT_STAT.CODE, Rg.BOOT_STAT.TYPE]⟩
  | .KS_CFG => ⟨0x20, false, [], [Rg.KS_CFG.REMASK, Rg.KS_CFG.LOCK, Rg.KS_CFG.LOCK_VIOL]⟩
  | .TAMP_CFG => ⟨0x100, false, [], [Rg.TAMP_CFG.PIN_EN, Rg.TAMP_CFG.POL, Rg.TAMP_CFG.FILT_US, Rg.TAMP_CFG.SHIELD_EN, Rg.TAMP_CFG.VOLT_EN, Rg.TAMP_CFG.CLK_EN, Rg.TAMP_CFG.TEMP_EN]⟩
  | .TAMP_STAT => ⟨0x108, false, [], [Rg.TAMP_STAT.ACTIVE, Rg.TAMP_STAT.LATCHED, Rg.TAMP_STAT.TAMP_LOGCNT]⟩
  | .TAMP_LOG_I => ⟨0x208, false, [(0x10, 16)], [Rg.TAMP_LOG_I.SOURCE, Rg.TAMP_LOG_I.LC, Rg.TAMP_LOG_I.PSTATE, Rg.TAMP_LOG_I.NO_TIME, Rg.TAMP_LOG_I.BOOT, Rg.TAMP_LOG_I.INDEX]⟩
  | .GM_CTL => ⟨0x13f0, false, [(0x400, 4)], [Rg.GM_CTL.GO, Rg.GM_CTL.ACK]⟩
  | .GM_STAT => ⟨0x13f8, false, [(0x400, 4)], [Rg.GM_STAT.BUSY, Rg.GM_STAT.DONE]⟩
  | .KS_ATTR => ⟨0x4000, true, [(0x8, 256)], [Rg.KS_ATTR.STATE, Rg.KS_ATTR.PENDING, Rg.KS_ATTR.LEN256, Rg.KS_ATTR.DEST, Rg.KS_ATTR.USAGE, Rg.KS_ATTR.PARENT, Rg.KS_ATTR.DBG_SENS, Rg.KS_ATTR.EXPORT_NEVER, Rg.KS_ATTR.PERSIST, Rg.KS_ATTR.OWNER, Rg.KS_ATTR.FROM_TEST, Rg.KS_ATTR.CHECK]⟩
  | .CY_ID => ⟨0x0, false, [], [Rg.CY_ID.VERSION, Rg.CY_ID.INSTANCE, Rg.CY_ID.LANES]⟩
  | .CS_CFG => ⟨0x1000, true, [(0x40, 32)], [Rg.CS_CFG.EN, Rg.CS_CFG.ALG, Rg.CS_CFG.KEY_SLOT, Rg.CS_CFG.DONE_EN, Rg.CS_CFG.DONE_FLOW]⟩
  | .CS_JOBS => ⟨0x1008, true, [(0x40, 32)], [Rg.CS_JOBS.ADDR, Rg.CS_JOBS.COUNT]⟩
  | .CS_STAT => ⟨0x1010, false, [(0x40, 32)], [Rg.CS_STAT.RUN, Rg.CS_STAT.REFUSE, Rg.CS_STAT.BUSY, Rg.CS_STAT.LAST]⟩
  | .CS_CNT => ⟨0x1018, true, [(0x40, 32)], [Rg.CS_CNT.JOBS, Rg.CS_CNT.TAG_FAIL, Rg.CS_CNT.ERR]⟩
  | .CS_EVT => ⟨0x1020, false, [(0x40, 32)], [Rg.CS_EVT.REFUSED, Rg.CS_EVT.CFG_LOCKED, Rg.CS_EVT.TAG_FAIL, Rg.CS_EVT.ERR]⟩
  | .ER_ID => ⟨0x0, false, [], [Rg.ER_ID.VERSION]⟩
  | .ER_CTRL => ⟨0x8, false, [], [Rg.ER_CTRL.LOCK, Rg.ER_CTRL.LOCK_VIOL, Rg.ER_CTRL.CNT_CLR]⟩
  | .ER_SWRAISE => ⟨0x10, false, [], [Rg.ER_SWRAISE.N]⟩
  | .ER_PEND => ⟨0x100, true, [(0x40, 5), (0x8, 4)], [Rg.ER_PEND.BITS]⟩
  | .ER_MASK => ⟨0x120, true, [(0x40, 5), (0x8, 4)], [Rg.ER_MASK.BITS]⟩
  | .ER_ROUTE => ⟨0x1000, false, [(0x8, 256)], [Rg.ER_ROUTE.TARGET]⟩
  | .ER_CNT => ⟨0x2000, false, [(0x4, 256)], [Rg.ER_CNT.COUNT]⟩
  | .RC_CTRL => ⟨0x8, false, [], [Rg.RC_CTRL.ACK_EN, Rg.RC_CTRL.FLUSH, Rg.RC_CTRL.LOCK, Rg.RC_CTRL.LOCK_VIOL]⟩
  | .RC_STAT => ⟨0x10, false, [], [Rg.RC_STAT.HELD, Rg.RC_STAT.UNFLUSHED, Rg.RC_STAT.EMERG, Rg.RC_STAT.PF_DONE]⟩
  | .RC_LOSS => ⟨0x30, true, [], [Rg.RC_LOSS.FULL, Rg.RC_LOSS.FLUSH_BUSY, Rg.RC_LOSS.INPUT, Rg.RC_LOSS.OVERWRITTEN]⟩
  | .RC_EVT => ⟨0x40, false, [], [Rg.RC_EVT.LOSS, Rg.RC_EVT.PF_DONE, Rg.RC_EVT.FLASH_ERR]⟩
  | .RC_SW_HDR => ⟨0x400, false, [(0x40, 6)], [Rg.RC_SW_HDR.CODE, Rg.RC_SW_HDR.SEV, Rg.RC_SW_HDR.DLEN]⟩
  | .RC_SW_DATA => ⟨0x408, true, [(0x40, 6), (0x8, 5)], [Rg.RC_SW_DATA.DATA]⟩
  | .RC_SW_GO => ⟨0x430, false, [(0x40, 6)], [Rg.RC_SW_GO.GO, Rg.RC_SW_GO.STATUS]⟩
  | .RC_RATE => ⟨0x8000, true, [(0x8, 4096)], [Rg.RC_RATE.RATE, Rg.RC_RATE.BURST, Rg.RC_RATE.SUPPR]⟩
  | .HL_CFG => ⟨0x8, false, [], [Rg.HL_CFG.AUTO, Rg.HL_CFG.TGT, Rg.HL_CFG.HYST, Rg.HL_CFG.TDER, Rg.HL_CFG.LOCK, Rg.HL_CFG.LOCK_VIOL]⟩
  | .HL_STAT => ⟨0x28, true, [], [Rg.HL_STAT.V_FA, Rg.HL_STAT.V_FB, Rg.HL_STAT.FROZEN_FA, Rg.HL_STAT.FROZEN_FB, Rg.HL_STAT.RAIL_BAD, Rg.HL_STAT.PASSES]⟩
  | .HL_EVT => ⟨0x30, false, [], [Rg.HL_EVT.PASS, Rg.HL_EVT.REPLAN, Rg.HL_EVT.RAIL, Rg.HL_EVT.TEMP, Rg.HL_EVT.PMBUS, Rg.HL_EVT.PIN]⟩
  | .HL_ISL_RO => ⟨0x1000, true, [(0x20, 44)], [Rg.HL_ISL_RO.RO0, Rg.HL_ISL_RO.RO1, Rg.HL_ISL_RO.RO2, Rg.HL_ISL_RO.RO3]⟩
  | .HL_ISL => ⟨0x1008, true, [(0x20, 44)], [Rg.HL_ISL.MARGIN, Rg.HL_ISL.YEARS, Rg.HL_ISL.TEMP, Rg.HL_ISL.TMAX]⟩
  | .HL_ISL_AT => ⟨0x1010, true, [(0x20, 44)], [Rg.HL_ISL_AT.AT]⟩
  | .HL_RAIL => ⟨0x2000, true, [(0x8, 16)], [Rg.HL_RAIL.MV, Rg.HL_RAIL.LO, Rg.HL_RAIL.HI]⟩
  | .STRUCT_STAGED => ⟨0x40c, false, [], [Rg.STRUCT_STAGED.CODE, Rg.STRUCT_STAGED.SECTION, Rg.STRUCT_STAGED.RECORD]⟩
  | .CH_EPOCH => ⟨0x10, false, [], [Rg.CH_EPOCH.PERIOD]⟩
  | .OB_DESC => ⟨0x400, true, [(0x8, 21)], [Rg.OB_DESC.DATA]⟩
  | .FL_BANKA => ⟨0x2000, false, [(0x400, 8), (0x4, 128)], [Rg.FL_BANKA.C]⟩
  | .FL_BANKB => ⟨0x2200, false, [(0x400, 8), (0x4, 128)], [Rg.FL_BANKB.C]⟩
  | .PH_VAL => ⟨0x1020, true, [(0x80, 16)], [Rg.PH_VAL.W]⟩
  | .PH_FRQ => ⟨0x1028, true, [(0x80, 16)], [Rg.PH_FRQ.W]⟩
  | .PH_FVAL => ⟨0x1030, true, [(0x80, 16)], [Rg.PH_FVAL.MAG, Rg.PH_FVAL.FREQ]⟩
  | .AL_ADDR => ⟨0x108, true, [(0x8, 2)], [Rg.AL_ADDR.ADDR]⟩
  | .AL_RECONF => ⟨0x138, true, [], [Rg.AL_RECONF.AT]⟩
  | .AL_LAST => ⟨0x158, true, [], [Rg.AL_LAST.AT]⟩
  | .AC_LAST => ⟨0x428, true, [(0x40, 16)], [Rg.AC_LAST.AT]⟩
  | .MD_LEVT => ⟨0x8, false, [], [Rg.MD_LEVT.BITS]⟩
  | .MG_MODES => ⟨0x1030, true, [(0x80, 16), (0x8, 4)], [Rg.MG_MODES.F0, Rg.MG_MODES.Z0, Rg.MG_MODES.F1, Rg.MG_MODES.Z1]⟩
  | .MG_CLU => ⟨0x1058, true, [(0x80, 16), (0x8, 2)], [Rg.MG_CLU.C0, Rg.MG_CLU.C1]⟩
  | .MG_ALTS => ⟨0x1078, true, [(0x80, 16)], [Rg.MG_ALTS.AT]⟩
  | .TG_CH => ⟨0x1008, true, [(0x100, 4)], [Rg.TG_CH.MASK]⟩
  | .TG_LEN => ⟨0x1020, true, [(0x100, 4)], [Rg.TG_LEN.PRE, Rg.TG_LEN.POST]⟩
  | .TG_TSRC => ⟨0x1028, false, [(0x100, 4)], [Rg.TG_TSRC.SRC]⟩
  | .TG_MSEL => ⟨0x1030, true, [(0x100, 4)], [Rg.TG_MSEL.GROUPS]⟩
  | .TG_LHYS => ⟨0x1040, false, [(0x100, 4)], [Rg.TG_LHYS.HYST]⟩
  | .TG_MRT => ⟨0x1050, true, [(0x100, 4), (0x10, 4)], [Rg.TG_MRT.RT_LO, Rg.TG_MRT.RT_HI]⟩
  | .TG_MISS => ⟨0x1098, true, [(0x100, 4)], [Rg.TG_MISS.MISSED, Rg.TG_MISS.EXTRA_TRIG]⟩
  | .TG_MISS_TS => ⟨0x10a0, true, [(0x100, 4)], [Rg.TG_MISS_TS.AT]⟩
  | .TG_LAST => ⟨0x10a8, true, [(0x100, 4)], [Rg.TG_LAST.AT]⟩
  | .AO_SEL => ⟨0x808, true, [(0x10, 8)], [Rg.AO_SEL.GROUPS]⟩
  | .TL_TS => ⟨0x908, true, [(0x10, 2)], [Rg.TL_TS.AT]⟩
  | .TL_EVT => ⟨0x980, false, [], [Rg.TL_EVT.STUCK0, Rg.TL_EVT.STUCK1]⟩
  | .FS_LATCH_AT => ⟨0x220, true, [], [Rg.FS_LATCH_AT.AT]⟩
  | .FS_REL_AT => ⟨0x228, true, [], [Rg.FS_REL_AT.AT]⟩
  | .FS_CHAL => ⟨0x230, true, [], [Rg.FS_CHAL.CHAL]⟩
  | .TR_AREA => ⟨0x400, true, [], [Rg.TR_AREA.ADDR]⟩
  | .TR_REQ0 => ⟨0x408, true, [], [Rg.TR_REQ0.E, Rg.TR_REQ0.N]⟩
  | .TR_REQ1 => ⟨0x410, true, [], [Rg.TR_REQ1.E, Rg.TR_REQ1.N]⟩
  | .TR_REQ2 => ⟨0x418, true, [], [Rg.TR_REQ2.T_START]⟩
  | .TR_REQ3 => ⟨0x420, true, [], [Rg.TR_REQ3.T_END]⟩
  | .TR_STAT => ⟨0x438, false, [], [Rg.TR_STAT.USED]⟩
  | .CV_AREA => ⟨0x500, true, [], [Rg.CV_AREA.ADDR, Rg.CV_AREA.EN]⟩
  | .CV_ORG => ⟨0x508, true, [], [Rg.CV_ORG.E0, Rg.CV_ORG.N0]⟩
  | .TM_POS => ⟨0x1018, true, [(0x80, 64)], [Rg.TM_POS.E, Rg.TM_POS.N]⟩
  | .TM_PROG => ⟨0x1020, true, [(0x80, 64)], [Rg.TM_PROG.S, Rg.TM_PROG.REMAIN]⟩
  | .TM_T0 => ⟨0x1028, true, [(0x80, 64)], [Rg.TM_T0.AT]⟩
  | .PK_SEL => ⟨0x10, false, [], [Rg.PK_SEL.CTX]⟩
  | .PC_LADDR => ⟨0x108, true, [(0x8, 2)], [Rg.PC_LADDR.ADDR]⟩
  | .PC_RADDR => ⟨0x118, true, [(0x8, 2)], [Rg.PC_RADDR.ADDR]⟩
  | .PC_DMAC => ⟨0x138, true, [], [Rg.PC_DMAC.MAC]⟩
  | .PC_TCP => ⟨0x140, false, [], [Rg.PC_TCP.RCV_NXT]⟩
  | .CN_EVT => ⟨0x30, false, [(0x4000, 4)], [Rg.CN_EVT.REFUSED, Rg.CN_EVT.CFG_LOCKED, Rg.CN_EVT.RX, Rg.CN_EVT.LOST, Rg.CN_EVT.TX_DONE, Rg.CN_EVT.ERR_PASSIVE, Rg.CN_EVT.BUS_OFF, Rg.CN_EVT.LOCK_TO, Rg.CN_EVT.ADR_DONE, Rg.CN_EVT.STUCK_DOM, Rg.CN_EVT.NO_TERM, Rg.CN_EVT.TT_LOSS, Rg.CN_EVT.TT_FAIL, Rg.CN_EVT.PXE, Rg.CN_EVT.TXREQ_IGN]⟩
  | .CN_CNT => ⟨0x38, true, [(0x4000, 4)], [Rg.CN_CNT.NOMATCH, Rg.CN_CNT.LOST, Rg.CN_CNT.TT_FAIL, Rg.CN_CNT.PXE]⟩
  | .CN_ADR_TAB => ⟨0x80, true, [(0x4000, 4), (0x8, 8)], [Rg.CN_ADR_TAB.NBT, Rg.CN_ADR_TAB.DBT, Rg.CN_ADR_TAB.FD]⟩
  | .CN_OBJ_SEL => ⟨0x100, false, [(0x4000, 4)], [Rg.CN_OBJ_SEL.OBJ]⟩
  | .CN_OBJ_RES => ⟨0x110, false, [(0x4000, 4)], [Rg.CN_OBJ_RES.RESULT]⟩
  | .CN_OBJ_W => ⟨0x200, false, [(0x4000, 4), (0x4, 20)], [Rg.CN_OBJ_W.W]⟩
  | .CN_TT_STAT => ⟨0x188, false, [(0x4000, 4)], [Rg.CN_TT_STAT.CYCLE, Rg.CN_TT_STAT.SYNC]⟩
  | .YX_EPOCH => ⟨0x18, false, [], [Rg.YX_EPOCH.EPOCH]⟩
  | .YX_SEQ => ⟨0x20, false, [], [Rg.YX_SEQ.SEQ]⟩
  | .DM_TAG => ⟨0x1020, false, [(0x100, 16)], [Rg.DM_TAG.TAG]⟩
  | .DS_TAG => ⟨0x1060, false, [(0x100, 16)], [Rg.DS_TAG.TAG]⟩
  | .DM_CRC => ⟨0x1090, false, [(0x100, 16)], [Rg.DM_CRC.CRC]⟩
  | .DM_LAST_BYTES => ⟨0x10a0, true, [(0x100, 16)], [Rg.DM_LAST_BYTES.BYTES]⟩
  | .DDR_CE_ADDR => ⟨0x20, true, [], [Rg.DDR_CE_ADDR.ADDR]⟩
  | .DDR_UE_ADDR => ⟨0x28, true, [], [Rg.DDR_UE_ADDR.ADDR]⟩
  | .YX_REQBUF => ⟨0x1000, true, [(0x8, 1024)], [Rg.YX_REQBUF.DATA]⟩
  | .YX_RESPBUF => ⟨0x3000, true, [(0x8, 1024)], [Rg.YX_RESPBUF.DATA]⟩
  | .SEC_CHAL => ⟨0x8, true, [], [Rg.SEC_CHAL.CHAL]⟩
  | .SEC_BOOTCNT => ⟨0x10, false, [], [Rg.SEC_BOOTCNT.COUNT]⟩
  | .TAMP_LOG_T => ⟨0x200, true, [(0x10, 16)], [Rg.TAMP_LOG_T.AT]⟩
  | .GM_REQ => ⟨0x1000, true, [(0x400, 4), (0x8, 32)], [Rg.GM_REQ.DATA]⟩
  | .GM_RESULT => ⟨0x1200, true, [(0x400, 4), (0x8, 32)], [Rg.GM_RESULT.DATA]⟩
  | .CY_LEVT => ⟨0x8, false, [], [Rg.CY_LEVT.BITS]⟩
  | .RC_SEQ => ⟨0x18, true, [], [Rg.RC_SEQ.OLDEST, Rg.RC_SEQ.NEWEST]⟩
  | .RC_ACK => ⟨0x20, false, [], [Rg.RC_ACK.SEQ]⟩
  | .RC_SEL => ⟨0x28, false, [], [Rg.RC_SEL.SEQ]⟩
  | .RC_SELSTAT => ⟨0x2c, false, [], [Rg.RC_SELSTAT.HELD]⟩
  | .RC_RING => ⟨0x38, true, [], [Rg.RC_RING.BLOCK, Rg.RC_RING.BSEQ]⟩
  | .RC_REC => ⟨0x80, true, [(0x8, 8)], [Rg.RC_REC.W]⟩
  | .HL_VLIM => ⟨0x10, true, [], [Rg.HL_VLIM.VMIN_FA, Rg.HL_VLIM.VMAX_FA, Rg.HL_VLIM.VMIN_FB, Rg.HL_VLIM.VMAX_FB]⟩
  | .HL_FMIN => ⟨0x18, false, [], [Rg.HL_FMIN.FA, Rg.HL_FMIN.FB]⟩
  | .HL_PMB => ⟨0x20, false, [], [Rg.HL_PMB.FA_ADDR, Rg.HL_PMB.FA_PAGE, Rg.HL_PMB.FB_ADDR, Rg.HL_PMB.FB_PAGE]⟩
  | .HL_TLIM => ⟨0x38, false, [], [Rg.HL_TLIM.WARN, Rg.HL_TLIM.CRIT]⟩
  | .HL_PINFLT => ⟨0x40, true, [], [Rg.HL_PINFLT.ALARM_OUT, Rg.HL_PINFLT.PPS_OUT, Rg.HL_PINFLT.TRIG_LINE, Rg.HL_PINFLT.GPIO]⟩

/-- The registers of each kind of block, in the order of the spec. -/
def blkRegs : Blk → List Reg
  | .isl => [.ISL_ID, .ISL_CLK, .ISL_STAT, .ISL_EVT, .ISL_QDROP]
  | .dsp => [.DSP_ID, .DSP_CTRL, .DSP_POOL, .DSP_LOWWATER, .DSP_INSERV, .DSP_EVT, .DSP_FLOW_SEL, .DSP_FLOW_DATA,
      .PORT_DESC, .PORT_OP, .PORT_RES, .PORT_DISP]
  | .mpc => [.STRUCT_ID, .STRUCT_STAT, .STRUCT_DIGEST, .STRUCT_INST0, .STRUCT_INST1, .MODE_STAT, .MODE_REQ, .MODE_RES,
      .MODE_CFG, .MODE_LIM, .MODE_COMMIT, .MODE_LATE, .MODE_SKEWED, .MODE_EVT, .RESET_CAUSE, .RESET_CTRL,
      .PWR_STAT, .WAKE_CFG, .WAKE_TIME, .WAKE_STAT, .WAKE_TS, .COC_CTRL, .COC_ADDR, .COC_DATA,
      .COC_TIME, .FS_STAT, .FS_CAUSE, .FS_CTRL, .FS_CFG, .FS_PORT, .FS_EVT, .FS_RES,
      .FS_PEPOCH, .STRUCT_STAGED, .FS_LATCH_AT, .FS_REL_AT, .FS_CHAL]
  | .time => [.TIME_ID, .TIME_CTRL, .TIME_STAT, .TIME_NOW, .TIME_NOW_SUB, .TIME_INC, .TIME_ERA_NEXT, .TIME_ADJ,
      .TIME_SLEW, .TIME_ADJ_REM, .TIME_STEP, .TIME_STEP_CTRL, .TIME_TERR, .TIME_HO, .TIME_HO_T, .UTC_CTRL,
      .LEAP_AT, .TIME_EVT, .TDC_TS, .TDC_SUB, .PPS_CFG, .PPS_OFS, .PPS_CABLE, .PPS_OUTDLY,
      .EFC_CFG, .EFC_VAL, .TPOL_SRC]
  | .loop => [.LT_ID, .LT_EVT, .LP_CFG, .LP_CTRL, .LP_TIMING, .LP_KP, .LP_KI, .LP_KD,
      .LP_N, .LP_SP, .LP_PV, .LP_MAN, .LP_U, .LP_E, .LP_I, .LP_D,
      .LP_OUTLIM, .LP_SAT, .LP_STAT, .LP_EVT, .LP_CT, .LP_CT1D, .LP_IDX, .LP_RC,
      .LP_RC_L, .LP_RC_ADDR, .LP_RC_STAT]
  | .rf => [.RF_CFG, .RF_CTRL, .RF_STAT, .RF_FE, .RF_FE_FREQ, .RF_FE_DLY, .RF_RATE, .RF_JAM,
      .RF_JAM_BASE, .RF_BIAS, .RF_NOTCH, .RF_NOTCH_CFG, .RF_EVT]
  | .acq => [.AQ_REQ, .AQ_DOP, .AQ_CTRL, .AQ_RES, .AQ_RES2, .AQ_TS, .AQ_EVT]
  | .cor => [.CH_CFG, .CH_CTRL, .CH_AID, .CH_AID_AT, .CH_STAT, .CH_EVT, .CH_EPOCH]
  | .obs => [.OB_ID, .OB_CFG, .OB_SV, .OB_SV_STAT, .OB_POSX, .OB_POSY, .OB_POSZ, .OB_POS_UNC,
      .OB_STN, .OB_BASE, .OB_INT, .OB_INT2, .OB_HO, .OB_INT_STAT, .OB_MSG, .OB_GLO,
      .OB_OUT, .OB_SIDC, .OB_SIDC_U, .OB_RESID, .OB_RESID_U, .OB_PCV, .OB_TSOL, .OB_TSOL_AT,
      .OB_CNT, .OB_CNT2, .OB_LAT, .OB_EVT, .OB_CTX, .OB_DESC]
  | .wv => [.WV_ID, .WV_MCLK_STAT, .WV_EVT, .WV_IN_CFG, .WV_IN_STAT, .AO_CFG, .TL_CFG, .AO_SEL,
      .TL_TS, .TL_EVT]
  | .filt => [.FL_CFG, .FL_CTRL, .FL_STAT, .FL_CIC, .FL_GD, .FL_SETTLE, .FL_BANK, .FL_TH,
      .FL_THH, .FL_LAST, .FL_CNT, .FL_EVT, .FL_BANKA, .FL_BANKB]
  | .phs => [.PH_ID, .PH_CFG, .PH_CTRL, .PH_SCALE, .PH_STAT, .PH_CNT, .PH_EVT, .PH_VAL,
      .PH_FRQ, .PH_FVAL]
  | .aln => [.AT_ID, .AT_SEL, .AT_EVT, .AL_CFG, .AL_PORT, .AL_BLK, .AL_WAIT, .AL_MEMB,
      .AL_STAT, .AL_Q, .AL_CNT, .AL_CNT2, .AC_CFG, .AC_BUF, .AC_FLOW, .AC_STAT,
      .AC_CNT, .AL_ADDR, .AL_RECONF, .AL_LAST, .AC_LAST]
  | .moda => [.MG_SIG, .MD_ID, .MG_CFG, .MG_CTRL, .MG_OSC, .MG_MEM, .MG_ISL, .MG_STAT,
      .MG_ISLR, .MG_CNT, .MG_EVT, .MD_LEVT, .MG_MODES, .MG_CLU, .MG_ALTS]
  | .trig => [.TG_ID, .TG_CFG, .TG_AREA, .TG_SLOT, .TG_LVL, .TG_MEAS, .TG_CTRL, .TG_STAT,
      .TG_EVT, .TG_CH, .TG_LEN, .TG_TSRC, .TG_MSEL, .TG_LHYS, .TG_MRT, .TG_MISS,
      .TG_MISS_TS, .TG_LAST]
  | .radio => [.RP_ID, .FR_ASN_BASE, .FR_PEPOCH, .RP_CEVT, .RP_CFG, .RP_RAW, .RP_STAT, .RP_TRX,
      .RP_EVT, .RP_CNT]
  | .mac => [.FR_CFG, .FR_CTRL, .FR_GRANT, .FR_STAT, .FR_ASN, .FR_HOP, .FR_SCHED, .FR_CNT,
      .FR_CNT2, .FR_EVT, .FR_TXFCNT, .FR_EUI, .FR_CELL, .MID, .MCFG, .MSTAT,
      .MLAST, .MCAP]
  | .trk => [.TK_ID, .TK_CFG, .TK_CTRL, .TK_STAT, .TK_AREA, .TK_SUB, .TK_SUBRES, .TK_PRES,
      .TK_EVT, .TK_CNT, .TK_PROFV, .TK_PROFA, .TR_REQ4, .TR_RES, .CV_GEOM, .TM_CFG,
      .TM_CTRL, .TM_STAT, .TM_DONE, .TM_EVT, .TR_AREA, .TR_REQ0, .TR_REQ1, .TR_REQ2,
      .TR_REQ3, .TR_STAT, .CV_AREA, .CV_ORG, .TM_POS, .TM_PROG, .TM_T0]
  | .eth => [.ETH_CFG, .ETH_MAC, .ETH_STAT, .ETH_EVT, .ETH_CNT, .ETH_CNT2, .ETH_RULE, .ETH_DEF,
      .ETH_TSFIFO, .ETH_TSINFO, .ETH_SWTX, .ETH_SWTX_CTL, .ETH_LP, .ETH_LP_ID, .UP_CFG, .UP_PEER,
      .UP_CTRL, .UP_STAT, .UP_LAST]
  | .pkt => [.PK_ID, .PK_CFG, .PK_EVT, .PK_CNT, .PC_CFG, .PC_PORTS, .PC_TX, .PC_STAT,
      .PC_CNT, .PK_SEL, .PC_LADDR, .PC_RADDR, .PC_DMAC, .PC_TCP]
  | .can => [.CN_ID, .CN_CFG, .CN_CTRL, .CN_NBT, .CN_DBT, .CN_STAT, .CN_BUS, .CN_ADR,
      .CN_OBJ_CFG, .CN_TXREQ, .CN_TT_CFG, .CN_TT_WIN, .CN_EVT, .CN_CNT, .CN_ADR_TAB, .CN_OBJ_SEL,
      .CN_OBJ_RES, .CN_OBJ_W, .CN_TT_STAT]
  | .pcie => [.PCIE_STAT, .PCIE_CFG, .PCIE_EVT]
  | .yx => [.YX_CTRL, .YX_STAT, .YX_CFG, .YX_CNT, .YX_EVT, .YX_EPOCH, .YX_SEQ, .YX_REQBUF,
      .YX_RESPBUF]
  | .dma => [.DM_SRC, .DM_DST, .DS_SRC, .DS_DST, .DM_COUNT, .DS_COUNT, .DM_CREC, .DS_CREC,
      .DM_CTL, .DM_STAT, .DM_LAST, .DM_EVT, .DM_TAG, .DS_TAG, .DM_CRC, .DM_LAST_BYTES]
  | .ddr => [.DDR_CFG, .DDR_STAT, .DDR_ECC, .DDR_SCRUB, .DDR_INJ, .SM_ECC, .DDR_EVT, .DDR_CE_ADDR,
      .DDR_UE_ADDR]
  | .sec => [.SEC_STAT, .BOOT_STAT, .KS_CFG, .TAMP_CFG, .TAMP_STAT, .TAMP_LOG_I, .GM_CTL, .GM_STAT,
      .KS_ATTR, .SEC_CHAL, .SEC_BOOTCNT, .TAMP_LOG_T, .GM_REQ, .GM_RESULT]
  | .cry => [.CY_ID, .CS_CFG, .CS_JOBS, .CS_STAT, .CS_CNT, .CS_EVT, .CY_LEVT]
  | .er => [.ER_ID, .ER_CTRL, .ER_SWRAISE, .ER_PEND, .ER_MASK, .ER_ROUTE, .ER_CNT]
  | .rc => [.RC_CTRL, .RC_STAT, .RC_LOSS, .RC_EVT, .RC_SW_HDR, .RC_SW_DATA, .RC_SW_GO, .RC_RATE,
      .RC_SEQ, .RC_ACK, .RC_SEL, .RC_SELSTAT, .RC_RING, .RC_REC]
  | .hl => [.HL_CFG, .HL_STAT, .HL_EVT, .HL_ISL_RO, .HL_ISL, .HL_ISL_AT, .HL_RAIL, .HL_VLIM,
      .HL_FMIN, .HL_PMB, .HL_TLIM, .HL_PINFLT]
  | .xspi => []

end Sys2Proof.Machine
end

