-- ==== Sys2Proof/Machine/Map.lean ====
section
/-! DEFINITION. The address map: the tile table (R25, R34, R40), islands and domains (R31, R33, R35), the service blocks
(R70) and what an address of a register window names (R36, R71). Positions are column × 10 + row (R46). -/

namespace Sys2Proof.Machine

/-- The positions of each tile kind in instance order (R25). -/
def tilePositions : Blk → List Nat
  | .acq => [0, 10, 20, 21]
  | .cor => [1, 2, 3, 4, 5, 6, 7, 8, 11, 12, 13, 14, 15, 16, 17, 18]
  | .loop => [9, 19, 25, 26]
  | .obs => [22, 23]
  | .filt => [40, 41, 42, 43, 46, 47, 48, 49]
  | .phs => [44, 45, 54, 55]
  | .aln => [50, 51, 52, 53, 56, 57, 58, 59]
  | .moda => [60, 61, 65, 66]
  | .trig => [62, 67]
  | .trk => [32, 33, 37, 38]
  | .mac => [30, 31, 35, 36]
  | .cry => [28, 39, 72, 77]
  | .pkt => [27, 34, 63, 64, 68, 69, 71, 76]
  | .dma => [24, 70, 75, 78]
  | _ => []

/-- The lanes of one tile of a kind (R25). -/
def tileLanes : Blk → Nat
  | .acq => 8 | .cor => 32 | .loop => 16 | .obs => 128 | .filt => 8 | .phs => 16 | .aln => 512 | .moda => 16
  | .trig => 4 | .trk => 64 | .mac => 2 | .cry => 32 | .pkt => 1024 | .dma => 16 | _ => 0

/-- The tile kinds. -/
def tileKinds : List Blk :=
  [.acq, .cor, .loop, .obs, .filt, .phs, .aln, .moda, .trig, .trk, .mac, .cry, .pkt, .dma]

/-- The kind of the tile at a position, if one is fitted there (R24, R25). -/
def kindAt (pos : Nat) : Option Blk := tileKinds.find? (fun k => (tilePositions k).contains pos)

/-- The instance number of the tile at a position within its kind (R25). -/
def instAt (pos : Nat) : Nat :=
  match kindAt pos with
  | some k => (tilePositions k).idxOf pos
  | none => 0

/-- The island of a row of a column (R34). -/
def islandOf (pos : Nat) : Nat :=
  let c := pos / 10
  let r := pos % 10
  if r < 3 then 13 + 2 * c else if r < 5 then 14 + 2 * c else if r < 8 then 28 + 2 * c else 29 + 2 * c

/-- The slot of a row within its island (R34). -/
def slotOf (pos : Nat) : Nat :=
  let r := pos % 10
  if r < 3 then r else if r < 5 then r - 3 else if r < 8 then r - 5 else r - 8

/-- The register base of an island's window (R36). -/
def islBase (i : Nat) : Nat := 0x2000_0000 + i * 0x1_0000 + 0xC000

/-- The register base of a tile (R40). -/
def tileBase (pos : Nat) : Nat := 0x2000_0000 + islandOf pos * 0x1_0000 + slotOf pos * 0x4000

/-- The domain of an island (R31). -/
def domOf (i : Nat) : Dom :=
  if i ≤ 1 then .aon else if i = 2 then .sec else if i = 3 then .time else if i ≤ 7 then .mgmt
  else if i ≤ 12 then .io else if i ≤ 27 then .fa else .fb

/-- The populated positions in the row order of the tile table, 76 in all (R24, R40). -/
def allPositions : List Nat := (List.range 80).filter (fun p => p != 29 && p != 73 && p != 74 && p != 79)

/-- The number of populated tile slots of an island (R34, R36). -/
def slotCount (i : Nat) : Nat := (allPositions.filter (fun p => islandOf p == i)).length

/-- The position of an island's slot, if a tile is fitted there. -/
def posAt (isl slot : Nat) : Option Nat := allPositions.find? (fun p => islandOf p == isl && slotOf p == slot)

/-- The fixed clock codes of islands I00–I12 in 5 MHz units, rounded down (R35). -/
def clockCode (i : Nat) : Nat := [20, 40, 80, 50, 120, 240, 160, 80, 240, 62, 100, 80, 40].getD i 0

/-- The service blocks with their base, island and domain (R70). -/
def serviceBase : Blk → Nat
  | .time => 0x3000_0000 | .rc => 0x3001_0000 | .dsp => 0x3002_0000 | .ddr => 0x3003_0000 | .eth => 0x3004_0000
  | .can => 0x3005_0000 | .pcie => 0x3006_0000 | .hl => 0x3007_0000 | .mpc => 0x3008_0000 | .sec => 0x3009_0000
  | .yx => 0x300A_0000 | .radio => 0x300B_0000 | .rf => 0x300C_0000 | .wv => 0x300D_0000 | .xspi => 0x300E_0000
  | .er => 0x300F_0000 | _ => 0

/-- The block of a 64 KiB service window. -/
def serviceAt (n : Nat) : Option Blk :=
  [Blk.time, .rc, .dsp, .ddr, .eth, .can, .pcie, .hl, .mpc, .sec, .yx, .radio, .rf, .wv, .xspi, .er][n]?

/-- The island of a service block (R70). -/
def serviceIsland : Blk → Nat
  | .time => 3 | .rc => 7 | .dsp => 6 | .ddr => 8 | .eth => 9 | .can => 12 | .pcie => 10 | .hl => 7 | .mpc => 0
  | .sec => 2 | .yx => 10 | .radio => 11 | .rf => 11 | .wv => 11 | .xspi => 12 | .er => 7 | _ => 0

/-- What a register window address names: the block's kind, its base and island, and the position of a tile. -/
structure Place where
  blk  : Blk
  base : Nat
  isl  : Nat
  pos  : Option Nat
  deriving DecidableEq, Repr

/-- The block at an address of a register window; none is the address error of R71. -/
def placeOf (a : Nat) : Option Place :=
  if 0x2000_0000 ≤ a ∧ a < 0x202C_0000 then
    let i := (a - 0x2000_0000) / 0x1_0000
    let o := a % 0x1_0000
    if 0xC000 ≤ o then some ⟨.isl, islBase i, i, none⟩
    else match posAt i (o / 0x4000) with
      | some p => (kindAt p).map (fun k => ⟨k, tileBase p, i, some p⟩)
      | none => none
  else if 0x3000_0000 ≤ a ∧ a < 0x3010_0000 then
    (serviceAt ((a - 0x3000_0000) / 0x1_0000)).map (fun b => ⟨b, serviceBase b, serviceIsland b, none⟩)
  else none

/-- A device-wide instance of a tile kind: the base of its tile. -/
def kindBase (k : Blk) (inst : Nat) : Nat := tileBase ((tilePositions k).getD inst 0)

/-- The base to which a lane register's offset is added: the tile base moved by the lane's stride. -/
def laneBase (k : Blk) (stride chan : Nat) : Nat := kindBase k (chan / tileLanes k) + chan % tileLanes k * stride

/-- The tile event source of a position: EV076 plus its row in the tile table (R530). -/
def tileEv (pos : Nat) : Nat := 76 + allPositions.idxOf pos

/-- The event source of a service block (R530). -/
def islEv (i : Nat) : Nat := 32 + i

/-- The value a position-form reset takes at a base (R15). -/
def posValue (src : Src) (base : Nat) : Nat :=
  match placeOf (base % 2 ^ 40) with
  | none => 0
  | some p =>
    match src with
    | .isl => p.isl
    | .dom => (domOf p.isl).code
    | .slots => slotCount p.isl
    | .clk => clockCode p.isl
    | .inst => match p.pos with
        | some q => instAt q
        | none => (base - p.base) / 0x4000
    | .lane => (base - p.base) / 0x100
    | .chan => match p.pos with
        | some q => instAt q * 16 + (base - p.base) / 0x80
        | none => 0
    | _ => 0

/-- The fused limits of HL_RAILn, LO and HI in mV (R570). -/
def railLimit : Nat → Nat × Nat
  | 2 | 8 | 9 | 10 => (776, 824)
  | 3 => (1067, 1133)
  | 4 => (1710, 1890)
  | 5 | 15 => (3135, 3465)
  | 6 => (873, 927)
  | 7 => (2000, 3600)
  | 13 => (1188, 1212)
  | 14 => (0, 10)
  | _ => (686, 867)

/-- The value a field holds when nothing has changed it (R15). The limits of HL_RAIL restart at the fused
limits of R570; every other field loaded from outside reads 0 until it is loaded. -/
def fldDflt (f : Fld) (base : Nat) : Nat :=
  match f.src with
  | .val => f.rst
  | .img | .vbat => 0
  | .fuse => if f.acc = .rw ∧ f.off = 0x2000 then
      (if f.lo = 16 then (railLimit ((base - serviceBase .hl) / 8)).1 else (railLimit ((base - serviceBase .hl) / 8)).2)
    else 0
  | s => posValue s base

/-- The key under which a field's value is kept: the address of its register and its lowest bit. -/
def fldKey (f : Fld) (base : Nat) : Nat := (base + f.off) * 64 + f.lo

/-- The index values of an offset within a register's instances, outermost first, if it names one. -/
def indexIn : List (Nat × Nat) → Nat → Nat → Option (List Nat)
  | [], d, size => if d < size then some [] else none
  | (st, n) :: t, d, size =>
    if d / st < n then (indexIn t (d % st) size).map (fun l => d / st :: l) else none

/-- The offset of an instance from the first, given its index values. -/
def indexOff : List (Nat × Nat) → List Nat → Nat
  | (st, _) :: t, i :: l => st * i + indexOff t l
  | _, _ => 0

/-- A register instance found at an address. -/
structure Hit where
  reg  : Reg
  base : Nat
  idx  : List Nat
  high : Bool
  deriving DecidableEq, Repr

/-- The register instance of a block that covers a byte offset, if any. -/
def findReg (base off : Nat) : List Reg → Option Hit
  | [] => none
  | r :: t =>
    let d := r.desc
    if off < d.off then findReg base off t
    else match indexIn d.dims (off - d.off) (if d.wide then 8 else 4) with
      | some l => some ⟨r, base + indexOff d.dims l, l, decide (4 ≤ off - d.off - indexOff d.dims l)⟩
      | none => findReg base off t

end Sys2Proof.Machine
end

