-- ==== Sys2Proof/Config.lean ====
section
/-! DEFINITION. What the spec leaves open, as constants without a body: nothing can prove a value of one. A value that
may differ each time it is drawn takes the counter `free` of State. -/

namespace Sys2Proof

/-- The n-th value drawn from the TRNG, 64 bits (R478, R497, R504, R515): the spec gives no value. -/
opaque Config.trng : Nat → BitVec 64

/-- The provisioning key of the boot ROM (R500): the spec does not give it. -/
opaque Config.provKey : List Byte

/-- The test root of the boot ROM (R506): the spec fixes it but does not give it. -/
opaque Config.testRoot : List Byte

/-- Whether a value that falls between two neighbours of its number format becomes the upper one, where the spec gives no
rounding: the place in the model, the numerator and the denominator. -/
opaque Config.roundUp : Nat → Int → Nat → Bool

/-- A quotient held in whole units where the spec gives no rounding: exact when it divides, otherwise one of its two
neighbours. -/
def rnd (place : Nat) (num : Int) (den : Nat) : Int :=
  if num % (den : Int) = 0 then num / (den : Int) else num / (den : Int) + (b2n (Config.roundUp place num den) : Int)

/-- A phase to which the second-order fit of an estimate is made (R290), in 2^−80 of a turn: F0, the class, whether the estimate is
a fast one, the samples of the window per phase with their instants from the window's centre in ns, and which of the points. The
spec names the unwrapped phase over the window and does not say how it is formed there. -/
opaque Config.phase : List Nat → List (List (Int × Int)) → Nat → Int

/-- A binary32 result whose operands give it no number: an infinity or NaN in a scaling register, the angle of a phasor of 0
(R289, R319), a window whose samples have no weight. The place, and the operands. -/
opaque Config.noNumber : Nat → List Int → BitVec 32

/-- Where the high-pass mean m of an entry of an oscillation group starts (R322), in the unit of its values: the spec gives its
recursion and no starting value. -/
opaque Config.meanStart : Nat → Int

/-- The coefficients a1 to aP, in 2^−80, that recursive extended least squares fits to an oscillation group's high-passed samples
(R322): P, Q, the numerator and denominator of 1 − λ, and the samples of every entry with the newest first. The spec gives no
starting values, no window of the running RMS and no value for a sample in which an entry is absent. -/
opaque Config.arFit : List Nat → List (List (Option Int)) → List Int

/-- The complex roots of A(z) with a positive imaginary part, as real and imaginary part in 2^−80 (R323); none when the solve does
not converge in 100 iterations. The spec does not say how roots are sought. -/
opaque Config.arRoots : List Int → Option (List (Int × Int))

/-- The TYPE of the item that the dispatcher sends to a tile for an entry submitted without an item (R46, R64): the spec gives the
codes that consuming kinds define and none for such an entry. -/
opaque Config.dispatchType : Nat → BitVec 8

/-- The silicon stepping (R96, R98, R477): the spec gives the device one and does not say which. -/
opaque Config.stepping : BitVec 8

/-- The settings size of the image of a type (R477), in bytes: the spec names it and gives no value. -/
opaque Config.settingsSize : Nat → Nat

/-- The n-th SESSION number that UPD_BEGIN returns (R131): the spec gives it 16 bits and no value. -/
opaque Config.sessionId : Nat → BitVec 16

/-- The n-th 64-bit word that something outside the device answers to a register write carried by a command that brings no
answer with it (a front end's descriptor, a transceiver's identity, the state of a pin). -/
opaque Config.outside : Nat → BitVec 64

/-- The fused delay of an RF sample port in ps (R200): calibration of the device. -/
opaque Config.portDelay : Nat → Nat

/-- The fused internal path delay of a cable measurement on a PPS output in ps (R163): calibration of the device. -/
opaque Config.cablePath : Nat → Nat

/-- A byte of the boot ROM (R74): the spec gives no contents. -/
opaque Config.bootRom : Nat → BitVec 8

end Sys2Proof
end

