-- ==== Sys2Proof/Machine/State.lean ====
section
/-! DEFINITION. The state of the block as plain data: the register fields (`cells`), the queue of waiting commands, and
beside the registers everything else the spec has the device remember, by chapter. -/

namespace Sys2Proof.Machine

/-! ### Bus (R20, R21, R576) -/

/-- How an access completed: without error, or with an error response; the value returned to a read. A host read without
right or outside the mapped regions completes with Unsupported Request (R469, R576), and a host read of a poisoned word
has EP set (R471). -/
inductive Done where
  | ok | err | unsupported | poisoned
  deriving DecidableEq, Repr

/-- The completion of the last access. -/
structure Completion where
  how : Done
  val : Nat
  deriving DecidableEq, Repr

/-- A low word staged by a master for a 64-bit register, or a high word captured by its read (R20). -/
structure WordHold where
  who  : Master
  blk  : Nat
  addr : Nat
  val  : Nat
  deriving DecidableEq, Repr

/-! ### Structure image (R78–R95) -/

/-- A LINKS record. -/
structure LinkRec where
  id : Nat
  src : Nat
  dst : Nat
  port : Nat
  route : Nat
  slSrc : Bool
  slDst : Bool
  maxlen : Nat
  bw : Nat
  ring : Nat
  deriving DecidableEq, Repr

/-- A MEMMAP record. -/
structure MemRec where
  use : Nat
  id : Nat
  bank : Nat
  half : Nat
  offset : Nat
  size : Nat
  slotBytes : Nat
  slots : Nat
  deriving DecidableEq, Repr

/-- A flow's assignment: a FLOWS record or a DSP_FLOW_DATA write. -/
structure FlowRec where
  flow : Nat
  part : Nat
  consumer : Nat
  agent : Nat
  lane : Nat
  deriving DecidableEq, Repr

/-- A REGINIT record. -/
structure RegInit where
  addr : Nat
  wide : Bool
  val : Nat
  deriving DecidableEq, Repr

/-- The instanced image: lanes enabled at each position, starting clocks of I13–I43, links, areas, IOBANK words 0–3,
and owner and NOTCH_OK of each loop. -/
structure Img where
  lanes  : List (Nat × Nat)
  links  : List LinkRec
  areas  : List MemRec
  io0    : Nat
  sdEn   : Nat
  modclk : Nat
  gpio   : Nat
  loops  : List (Nat × Bool)
  deriving DecidableEq, Repr

/-! ### Links (R41–R53, R86) -/

/-- A packet as it stands in a queue: its length word and its data words (R46), and whether it refers to a slot of the link's
ring (R86). -/
structure QPkt where
  lw   : Nat
  data : List Nat
  ring : Bool
  deriving DecidableEq, Repr

/-- A link at run time: the credits its producer holds, credits on their way back, the slots of its ring, those in use in the
order they were taken and the one tried next, the packets of the consumer's queue with the oldest first, which ends have
acknowledged a link reset (none when no reset is in progress), and whether isolation holds it in reset (R117). -/
structure Link where
  rc       : LinkRec
  credits  : Nat
  retn     : Nat
  slots    : Nat
  busy     : List Nat
  ringPos  : Nat
  queue    : List QPkt
  resetAck : Option (Bool × Bool)
  isolated : Bool
  deriving DecidableEq, Repr

/-- An item a producer holds back until it has the credits to send it (R52): both ends, TYPE, FLOW, PRIO, LANE, DEP_CANCELLED and
words. -/
structure OutItem where
  src  : Nat
  dst  : Nat
  typ  : Nat
  flow : Nat
  prio : Nat
  lane : Nat
  depCan : Bool
  data : List Nat
  deriving DecidableEq, Repr

/-! ### Dispatcher (R54–R69) -/

/-- Where a live entry stands. -/
inductive EState where
  | waiting | ready | inService
  deriving DecidableEq, Repr

/-- A live dispatcher entry. `seq` orders entries by when they became ready; `agent` is the software agent it was
dispatched to; `succ` are the handles of its successors in the order their links were added; `owner` is the software port
that submitted it; `ring` is the link and the slot of its ring released when the entry ends (R86, R250); `lost` counts its
predecessors cancelled without RELEASE_DEPENDENTS (R63); `item` are TYPE and words of the item that a hardware producer
submitted. -/
structure Entry where
  idx     : Nat
  gen     : Nat
  part    : Nat
  flow    : Nat
  prio    : Nat
  tag     : Nat
  counter : Nat
  held    : Bool
  depCan  : Bool
  st      : EState
  seq     : Nat
  agent   : Option Nat
  succ    : List Nat
  owner   : Option Nat
  ring    : Option (Nat × Nat)
  lost    : Nat
  item    : Option (Nat × List Nat)
  deriving DecidableEq, Repr

/-- The result of a port operation that has not yet left PENDING (R67), and the handle of the entry that a SUBMIT made. -/
structure PortPend where
  port   : Nat
  status : Nat
  handle : Option Nat
  deriving DecidableEq, Repr

/-- A submit that a hardware producer holds back (R60): flow, priority, TAG, and TYPE and words of its item. -/
structure HwWait where
  flow : Nat
  prio : Nat
  tag  : Nat
  item : Option (Nat × List Nat)
  deriving DecidableEq, Repr

/-- The dispatcher's inner state: live entries, generations of the entry indices that were freed, extension entries in
use per partition, assigned flows, the dispatch queues of the six agents, results not yet shown, the next ready number
and the successor decrements still to be made (R56), and the submits that hardware producers hold back while a pool is empty
(R60). -/
structure Disp where
  entries : List Entry
  gens    : List (Nat × Nat)
  extP    : Nat
  extF    : Nat
  flows   : List FlowRec
  loaded  : Bool
  queues  : List (List Nat)
  pend    : List PortPend
  seq     : Nat
  work    : List (Nat × Bool)
  hwq     : List HwWait
  deriving DecidableEq, Repr

/-! ### Modes, start-up, updates (R103–R141) -/

/-- A mode change under way (R112): its target, CAUSE, the mode it leaves, the islands that take part, those that have
acknowledged, the commit instant once COMMIT has been sent, whether MAINT_DIRTY is set at its commit (R107), and the instant of
its PREPARE. -/
structure Change where
  target : Mode
  cause  : Nat
  from_  : Mode
  parts  : List Nat
  acks   : List Nat
  commit : Option Nat
  dirty  : Bool
  prep   : Nat
  deriving DecidableEq, Repr

/-- What the host asks for with a target of SURVEY (R103): SURVEY out of SERVICE or HOLDOVER, EXIT out of MAINTENANCE, or either. -/
inductive Ask where
  | any | survey | exit
  deriving DecidableEq, Repr

/-- A request in the pending slot (R110): the code of its target, CAUSE, what the host asked for, and its precedence. -/
structure ModeWait where
  code   : Nat
  cause  : Nat
  ask    : Ask
  prec   : Nat
  deriving DecidableEq, Repr

/-- MP's side of mode changes: the change under way, the pending slot, the isolated islands with the commit instant of the
change that isolated each and whether the isolation is final (R117), the instant and CAUSE of a SLEEP request whose notice
runs (R124), the instant of the last such request, the wake sources, as WAKE_STAT bits, that asserted after COMMIT to DORMANT was
sent with what the start that follows finds (R126), and the islands that have not applied the present mode, each with the mode it
is in (R114). -/
structure ModeCtl where
  change   : Option Change
  slot     : Option ModeWait
  isolated : List (Nat × Nat × Bool)
  sleep    : Option (Nat × Nat)
  asked    : Nat
  woken    : Nat
  wakeEnv  : Option BootEnv
  behind   : List (Nat × Mode)
  deriving DecidableEq, Repr

/-- What a start keeps from Cocoon for a port until its front end is known (R220): the port, the digest of its front end's identity,
its notches as (MODE, RSHIFT, CENTRE pattern), and its JI baseline as (P0 pattern, SFM0). -/
structure PortKeep where
  port   : Nat
  digest : Nat
  notch  : List (Nat × Nat × Nat)
  jam    : Nat × Nat
  deriving DecidableEq, Repr

/-- Start-up beside its registers: whether boot step 2 waits for the reference clock, whether SS and AC0–AC3 are held in reset
(R501), the uncorrectable words of Cocoon, whether REF_OK has stayed 1 since COC_TIME (R220), what is kept from Cocoon for ports
whose front end is not known yet, and the channel hints of a hot start whose ports do not run yet (R221). -/
structure BootCtl where
  waitRef : Bool
  ssHeld  : Bool
  acHeld  : Bool
  coBad   : List Nat
  refKept : Bool
  keeps   : List PortKeep
  hints   : List ChHint
  deriving DecidableEq, Repr

/-- A Chrysalis bank (R129–R139): its state, accepted update headers by type, blocks held by type and offset, the types whose
copies are verified, and the number of its set in the order sets were applied. -/
structure Bank where
  st     : Nat
  heads  : List (Nat × List Byte)
  blocks : List (Nat × Nat × List Byte)
  copied : List Nat
  order  : Nat
  deriving DecidableEq, Repr

/-- A stored settings record of a firmware (R140, R477): image type, format version and record. -/
structure Settings where
  typ : Nat
  fmt : Nat
  rec_ : List Byte
  deriving DecidableEq, Repr

/-- The open update session (R132): SESSION, its bank, whether the erase has ended, and the instant of its last operation. -/
structure UpdSess where
  id   : Nat
  bank : Nat
  open_ : Bool
  last : Nat
  deriving DecidableEq, Repr

/-- Updates and the flash: the two banks, the open session, the last status, the sets applied so far, the active images by type with the update header in front of each, the stored settings, the types
whose firmware starts for the first time after an update (R140), and the types that this start took from a Chrysalis bank, each with
its bank (R501). -/
structure Upd where
  banks    : List Bank
  sess     : Option UpdSess
  last     : Nat
  applied  : Nat
  active   : List ImgFile
  settings : List Settings
  fresh    : List Nat
  fell     : List (Nat × Nat)
  deriving DecidableEq, Repr

/-- An empty bank. -/
def Bank.empty : Bank := ⟨0, [], [], [], 0⟩

/-! ### Time core (R142–R164) -/

/-- A step armed by TIME_STEP_CTRL.GO: what it captured, and how much of the scale must still pass before a second
boundary may apply it, in 2^−32 ns (R151, R152). -/
structure StepArm where
  abs  : Bool
  val  : Nat
  wait : Nat
  deriving DecidableEq, Repr

/-- A TDC stamp on its way to a tile, or delivered there (R51, R158): channel, instant and sub-ns fraction, and the GEN of
the scale it was taken on. -/
structure Stamp where
  chan : Nat
  at_  : Nat
  sub  : Nat
  gen  : Nat
  deriving DecidableEq, Repr

/-- One PPS output (R160–R163): the pin and the instant of its last rise; whether the pulse of the last second boundary is still to
come, and whether that of the next one has come already (an instant E + OFS − C may lie before E); the OFS and cable delay that the
next pulse uses in ps; where the last pulse was placed from its second boundary in 1/32 ns, and the instant from it at which the
driver was switched in 1/4 ps; the measurement under way: waiting for a rising edge, or for the launch 500 ms after the one at an
instant; whether the test edge has been launched; and the last result's STATE and DELAY. -/
structure PpsOut where
  high   : Bool
  rose   : Nat
  due    : Bool
  early  : Bool
  ofs    : Int
  comp   : Nat
  placed : Int
  drive  : Int
  meas   : Option (Option Nat)
  launch : Bool
  last   : Nat × Nat
  deriving DecidableEq, Repr

/-- An output after reset. -/
def PpsOut.off : PpsOut := ⟨false, 0, false, false, 0, 0, 0, 0, none, false, (0, 0)⟩

/-- A discipline source that is valid (R154, R155): its code, since when, and whether it had been lost before. -/
structure SrcValid where
  src   : Nat
  since : Nat
  again : Bool
  deriving DecidableEq, Repr

/-- The time core beside its registers: era, TIME_NS, the 32-bit fraction, SEC_PHASE in 2^−32 ns, the instant of the last
second boundary on the label, the slew remainder in 2^−32 ns with what its rate leaves over in 1/(250·10^6) of that, TERR_W, TERR_0
and the HOLDOVER estimate of R156, the armed step, the offset in ns of a step just applied, the shift of the label at a wrap just
passed (R146), whether LEAP_AT is armed, whether a wrap has carried the label past it, the instant in ns of the last leap and the
TAI − UTC offset before it (R302), the sources valid now, those that have been lost, and the one selected (R154, R155), the last
stamps of PPS_IN, newest first, and the last one in its window, the TDC's last rising and falling edges per channel in 1/256 ns, the
stamps on their way to each tile, oldest first, and the last one there of each channel (R51), and the PPS outputs. -/
structure TimeCore where
  era     : Nat
  ns      : Nat
  frac    : Nat
  sec     : Nat
  bound   : Nat
  rem     : Int
  spare   : Nat
  terrW   : Nat
  terr0   : Nat
  terr    : Nat
  armed   : Option StepArm
  stepped : Option Int
  relab   : Option Int
  leap    : Bool
  leapDue : Bool
  leapAt  : Nat
  oldOfs  : Nat
  valid   : List SrcValid
  lost    : List Nat
  sel     : Nat
  ppsIn   : List Nat
  ppsGood : Nat
  edges   : List (Option Nat × Option Nat)
  flying  : List (Nat × Stamp)
  arrived : List (Nat × Stamp)
  pps     : List PpsOut
  deriving DecidableEq, Repr

/-! ### Loop engine (R166–R192) -/

/-- A loop lane beside its registers: whether the last sample of the measured value is new since the last update, the instants in ns
of that sample and of the last update since the enable, the PERIOD and PHASE in force and whether a write of them waits for the next
second boundary (R171), the next grid instant (none until a second boundary anchors it), xprev, whether a time step has been seen
(R183), the entry to AUTO under way (true from HOLD), the last update in AUTO from which saturation counts, the time in saturation
in ns and whether its event was raised (R182), and the output item on its way, with its target and NOTCH_SEL. -/
structure LoopLane where
  fresh    : Bool
  sampleAt : Nat
  lastUpd  : Option Nat
  period   : Nat
  phase    : Nat
  retime   : Bool
  nxt      : Option Nat
  xprev    : Int
  stepSeen : Bool
  enter    : Option Bool
  satAt    : Option Nat
  satNs    : Nat
  satFired : Bool
  out      : Option (Nat × Nat × Int)
  deriving DecidableEq, Repr

/-- A lane that is disabled. -/
def LoopLane.off : LoopLane := ⟨false, 0, none, 0, 0, false, none, 0, false, none, none, 0, false, none⟩

/-! ### Satellite signal chain (R193–R223) -/

/-- An RF sample port beside its registers: what it has written to its front end's BIAS_CTRL, BAND_SEL, FORMAT_SEL and TRAIN, and
the divider of the last access over the control SPI (R196); milliseconds in a row with the bias current below OPEN_MA and between
the limits, the retry under way as milliseconds left with whether every sample so far stayed above SHORT_MA, the instant of the
last entry to SHORT (R205), consecutive 10 ms spectra in which each notch's peak was low (R203), whether JI has to fall before JAM
is set again (R204), and the learning under way: sums of P and SFM and their number. -/
structure RfPort where
  bias  : Nat
  band  : Nat
  fmt   : Nat
  train : Nat
  spi   : Nat
  low   : Nat
  mid   : Nat
  retry : Option (Nat × Bool)
  short : Nat
  under : List Nat
  jam   : Bool
  learn : Option (Int × Nat × Nat)
  deriving DecidableEq, Repr

/-- A port that is off. -/
def RfPort.off : RfPort := ⟨0, 0, 0, 0, 0, 0, 0, none, 0, [0, 0, 0, 0], false, none⟩

/-- A COR tile's measurement grid (R217): the PERIOD in force and the next epoch in ns (none until a second boundary anchors
it). -/
structure Grid where
  period : Nat
  nxt    : Option Nat
  deriving DecidableEq, Repr

/-- A tracking channel beside its registers: the aiding submitted (code, Doppler, instant), the instant of the last entry to
PULL_IN or REACQ, the window around the aiding or the prediction in which it searches (code in 2^−16 chip, Doppler in mHz; R215,
R221), the instant of the last entry to TRACK, whether a slip has occurred since its last item, and its last measurement: epoch,
transmit time and Doppler in mHz. -/
structure TrkChan where
  aid    : Option (Nat × Nat × Nat)
  since  : Nat
  win    : Option (Nat × Nat)
  lockAt : Nat
  slip   : Bool
  meas   : Option (Nat × Nat × Int)
  deriving DecidableEq, Repr

/-- The chain: ports, grids of the COR tiles, channels that differ from one never aided. -/
structure Gnss where
  ports : List RfPort
  grids : List Grid
  chans : List (Nat × TrkChan)
  deriving DecidableEq, Repr

/-! ### Reference station (R224–R252) -/

/-- One antenna's measurement in an observable context: the words of its item (R217), empty when none has come this epoch;
whether one came at the previous epoch; the channel and the epoch of the last item; the instant in ns from which the encoded lock
time counts; and the whole cycles that align the phaserange (R227). -/
structure ObsArm where
  item   : List Nat
  prev   : Bool
  chan   : Option Nat
  last   : Nat
  since  : Nat
  cycles : Int
  deriving DecidableEq, Repr

/-- An observable context beside OB_CTX: its index, epochs in a row without an item, and both antennas. -/
structure ObsCtx where
  idx  : Nat
  miss : Nat
  a    : ObsArm
  b    : ObsArm
  deriving DecidableEq, Repr

/-- The direction that orbit data give for a satellite (R228): system, SVID, azimuth and signed elevation in 0.01°. -/
structure SatDir where
  sys  : Nat
  svid : Nat
  az   : Nat
  el   : Int
  deriving DecidableEq, Repr

/-- A formed observable (R227): epoch, antenna (0 A, 1 B), signal, SVID, K + 7, HALF_CYCLE, slip, whether it is excluded,
azimuth and elevation, pseudorange and phaserange in 2^−16 mm, phaserange rate in 2^−10 mm/s, C/N0 and lock time in ms. -/
structure ObsRec where
  epoch : Nat
  ant   : Nat
  sig   : Nat
  svid  : Nat
  k7    : Nat
  half  : Bool
  slip  : Bool
  excl  : Bool
  az    : Nat
  el    : Int
  rng   : Int
  phr   : Int
  rate  : Int
  cn0   : Nat
  lock  : Nat
  deriving DecidableEq, Repr

/-- A phase-centre lookup (R229): the epoch and the TAG it serves, and its reply once there is one, which is none for CLAMP. -/
structure PcvLook where
  epoch : Nat
  tag   : Nat
  reply : Option (Option Int)
  deriving DecidableEq, Repr

/-- A correction message waiting on an output (R250, R251): its frame and the item's word 0 without SLOT, and the epoch. -/
structure CorrOut where
  frame : List Byte
  head  : Nat
  epoch : Nat
  deriving DecidableEq, Repr

/-- Sums of positions or baselines: number, components, squared lengths. -/
structure VecSum where
  n  : Nat
  x  : Int
  y  : Int
  z  : Int
  sq : Int
  deriving DecidableEq, Repr

/-- An OBS tile beside its registers: its epoch grid with the last second boundary, the epoch being collected and the last one
closed, contexts, the directions known, the observables of closed epochs that wait for encoding, their lookups, the epoch ready to
be encoded, the sidereal vector in force and the one committed, the survey, check and baseline accumulations, the start of the
check, the triple taken (R234) and the fixed position, the integrity counts (epochs over THR, at or under THR, since BASELINE_FLAG
set), the instant of the last monitored epoch and whether the last epoch was unmonitored, the messages waiting on each output, the
epoch whose last item is not queued yet (R252), the epoch sequence, whether the tile is idle for want of one encoder, and whether
lock times restart at the next epoch (R243). -/
structure ObsTile where
  grid     : Grid
  open_    : Option Nat
  closed   : Nat
  ctxs     : List ObsCtx
  dirs     : List SatDir
  recs     : List ObsRec
  looks    : List PcvLook
  ready    : Option Nat
  sidc     : Int × Int × Int
  sidcNext : Int × Int × Int
  survey   : VecSum
  check    : VecSum
  checkAt  : Nat
  base     : VecSum
  triple   : Int × Int × Int
  fixed    : Option (Int × Int × Int)
  over_    : Nat
  okRun    : Nat
  flagRun  : Nat
  monAt    : Nat
  unmon    : Bool
  outs     : List (List CorrOut)
  late     : Option Nat
  seq      : Nat
  idle     : Bool
  restart  : Bool
  deriving DecidableEq, Repr

/-- An empty sum. -/
def VecSum.zero : VecSum := ⟨0, 0, 0, 0, 0⟩

/-- A tile that has just been powered. -/
def ObsTile.off : ObsTile :=
  ⟨⟨0, none⟩, none, 0, [], [], [], [], none, (0, 0, 0), (0, 0, 0), .zero, .zero, 0, .zero, (0, 0, 0), none, 0, 0, 0, 0, false,
   [[], [], [], []], none, 0, false, false⟩

/-! ### Waveform inputs and filter chain (R253–R285) -/

/-- A normalised CIC output: the modulator clock edge of its last bit, counted on the device time scale, and its value. -/
structure CicOut where
  edge : Nat
  val  : Int
  sat  : Bool
  deriving DecidableEq, Repr

/-- Samples being collected for an item: the flags of word 0, SEQ and timestamp of the first, and the samples in order. -/
structure Batch where
  flags : Nat
  seq   : Nat
  ts    : Nat
  vals  : List Int
  deriving DecidableEq, Repr

/-- A threshold: whether it is asserted, and its dwell count. -/
structure ThrSt where
  act : Bool
  cnt : Nat
  deriving DecidableEq, Repr

/-- A change of a threshold not yet shown: which, its KIND and PATH, its new state, the sample and its timestamp. -/
structure ThrEv where
  k    : Nat
  kind : Nat
  path : Nat
  new  : Bool
  y    : Int
  ts   : Nat
  deriving DecidableEq, Repr

/-- One path of a lane: the edge from which its output grid counts, CIC outputs not yet consumed, SEQ of the next sample, the
batch being collected, whether the next item is the first after a settling event, and the samples of the last 256 outputs with
whether they were settled, newest first. -/
structure FiltPath where
  org   : Nat
  q     : List CicOut
  seq   : Nat
  batch : Option Batch
  disc  : Bool
  hist  : List (Int × Bool)
  deriving DecidableEq, Repr

/-- A FILT lane beside its registers: the input in force, the edge of the bit it takes next, the edge from which its CIC counts, the
integrators and combs, the
delay lines of HB1, HB2, FIR and the fast filter (newest first), the edge of the last settling event, both paths, the fade in
progress as samples made and length, the swap queued during a fade, the one that was queued and is due at the next boundary, and the
ordinary request (R276), the thresholds and the changes to be shown. -/
structure FiltLane where
  src    : Nat
  next   : Nat
  org    : Nat
  integ  : List Int
  comb   : List Int
  h1     : List Int
  h2     : List Int
  fir    : List Int
  fastH  : List Int
  ev     : Nat
  fine   : FiltPath
  fast   : FiltPath
  fade   : Option (Nat × Nat)
  queued : Option Nat
  due    : Option Nat
  req    : Option Nat
  thr    : List ThrSt
  pend   : List ThrEv
  deriving DecidableEq, Repr

/-- The chain: the lanes that are not idle, by channel; for each input the edge of its next bit and its last bitstream word; and the
instant in ns from which the edges of every clock count, a second boundary (R254). -/
structure Waves where
  lanes : List (Nat × FiltLane)
  pos   : List Nat
  words : List Nat
  shift : Int
  deriving DecidableEq, Repr

/-- An idle path. -/
def FiltPath.off : FiltPath := ⟨0, [], 0, none, true, []⟩
/-- An idle lane. -/
def FiltLane.off : FiltLane :=
  ⟨0, 0, 0, [0, 0, 0, 0, 0], [0, 0, 0, 0, 0], [], [], [], [], 0, .off, .off, none, none, none, none, [⟨false, 0⟩, ⟨false, 0⟩], []⟩

/-! ### Phasors and streams (R286–R316) -/

/-- An item handed to a tile whose commands take it later: the tile, the end that sent it, the packet, the instant in ns. -/
structure Inbound where
  dst : Nat
  src : Nat
  q   : QPkt
  at_ : Nat
  deriving DecidableEq, Repr

/-- A sample in a phasor lane's window: instant in ns, value, its marks (bit 0 UNSETTLED, 1 FAULT, 2 SAT, 3 TFLAG) and whether
the sample sequence breaks before it (R293). -/
structure PhsSample where
  ts    : Nat
  val   : Int
  marks : Nat
  brk   : Bool
  deriving DecidableEq, Repr

/-- A phasor lane beside its registers: the samples of both paths, oldest first, the SEQ expected next on each, the next
reporting instant and the next fast instant in ns, the sequence numbers of both kinds of estimate, the instant before which no
window may begin, and when a fine sample item last came, or the lane was enabled. -/
structure PhsLane where
  fine    : List PhsSample
  fast    : List PhsSample
  fineSeq : Nat
  fastSeq : Nat
  nxt     : Nat
  fnxt    : Nat
  seq     : Nat
  fseq    : Nat
  since   : Nat
  heard   : Nat
  deriving DecidableEq, Repr

/-- A lane that is off. -/
def PhsLane.off : PhsLane := ⟨[], [], 0, 0, 0, 0, 0, 0, 0, 0⟩

/-- A frame of a local stream being completed (R303): its instant, and the words of the estimates that have come. -/
structure LocalFrame where
  tk   : Nat
  ests : List (Nat × List Nat)
  deriving DecidableEq, Repr

/-- An enabled stream beside its registers: its number, the reconfiguration instant and the end of the quarantine in ns, and
the frames of a local stream not yet complete. -/
structure Stream where
  st     : Nat
  reconf : Nat
  quar   : Nat
  loc    : List LocalFrame
  deriving DecidableEq, Repr

/-- A member of a running concentration: its stream, the offset of its blocks in a slot and their length. -/
structure Member where
  st  : Nat
  ofs : Nat
  len : Nat
  deriving DecidableEq, Repr

/-- An open or closed bucket (R306–R308): its instant in ns, its slot, the streams present, the ALN instances whose part has
closed, those whose part the home has, and the instant the home closed it. -/
structure Bucket where
  tk      : Nat
  slot    : Nat
  present : List Nat
  closed  : List Nat
  parts   : List Nat
  done    : Option Nat
  deriving DecidableEq, Repr

/-- A running concentration: its number and home instance, its members in ascending stream order, the next instant for which a
bucket opens, its buckets with the oldest first, slots in use with the releases they still wait for, and the bucket sequence. -/
structure Conc where
  n       : Nat
  home    : Nat
  members : List Member
  nxt     : Nat
  buckets : List Bucket
  slots   : List (Nat × Nat)
  seq     : Nat
  deriving DecidableEq, Repr

/-- Alignment: enabled streams, running
concentrations, and the instant in ns until which frames do not update q after a time step (R305). -/
structure Align where
  streams : List Stream
  concs   : List Conc
  noQ     : Nat
  deriving DecidableEq, Repr

/-! ### Detection and capture (R317–R347) -/

/-- A frame of an analysis group that waits to be evaluated: its instant in ns, the estimates that have come by channel (FEED 1
and 2), the values read from a bucket by entry (FEED 0), and TFLAG. -/
structure GridFrame where
  tk    : Nat
  ests  : List (Nat × List Nat)
  vals  : List (Option Int)
  tflag : Bool
  deriving DecidableEq, Repr

/-- An analysis group beside its registers: frames waiting, the instant of the last one evaluated; for OSC the frames of the
present analysis sample with how many have passed, the analysis samples of the model with the newest first, the skipped samples
in a row and the dwell counts in solves towards assertion and deassertion; for ISLAND the values of the frame before, the counts of
frames that separate and of frames with one cluster, and the instant of the last monitored frame. -/
structure Group where
  pend   : List GridFrame
  last   : Nat
  frames : List (List (Option Int))
  passed : Nat
  hist   : List (List (Option Int))
  skips  : Nat
  dwOn   : Nat
  dwOff  : Nat
  prev   : List (Option Int)
  sep    : Nat
  one    : Nat
  monAt  : Nat
  deriving DecidableEq, Repr

/-- A group that has just been enabled. -/
def Group.off : Group := ⟨[], 0, [], 0, [], 0, 0, 0, [], 0, 0, 0⟩

/-- An ALARM_OUT pin beside AO_CFG (R331): the ends in ns of its minimum time and of a trigger pulse, and whether it is latched. -/
structure AlarmPin where
  minEnd   : Nat
  pulseEnd : Nat
  latched  : Bool
  deriving DecidableEq, Repr

/-- A trigger line beside TL_CFG (R338): the end of the device's pulse, the instants at which it went low and high, and whether
its next falling edge is the device's own. -/
structure TrigLine where
  pulseEnd : Nat
  lowAt    : Nat
  highAt   : Nat
  own      : Bool
  deriving DecidableEq, Repr

/-- A trigger (R337): source, instant in ns, sub-ns fraction, whether it is the device's own line edge. -/
structure Trig where
  src : Nat
  at_ : Nat
  sub : Nat
  own : Bool
  deriving DecidableEq, Repr

/-- A capture frame (R336): its instant in ns, its flags (bits 38:32 of word 0), the data by place in recorded order, whether a value
that the frame needs is still to come, and MISSING once it has closed. -/
structure CapFrame where
  tk    : Nat
  flags : Nat
  parts : List (Nat × List Byte)
  miss  : Nat
  deriving DecidableEq, Repr

/-- A capture engine beside its registers: PRE, POST and the measurement settings in force since FILLING, open frames, frames of
the record held (pre-trigger and post-trigger, oldest first), the place the next pre-trigger frame takes, the trigger with the
sources that fired, whether its trigger frame has closed, the flags of the record, counts of missed and extra triggers since the
last record with the first missed instant, the level trigger's readiness and last frame, the end of REARM, the last slot used,
triggers on their way. -/
structure Engine where
  pre     : Nat
  post    : Nat
  meas    : List (Nat × Nat)
  frames  : List CapFrame
  pres    : List CapFrame
  posts   : List CapFrame
  place   : Nat
  start   : Nat
  trig    : Option Trig
  tsrc    : Nat
  fixed   : Bool
  before  : Option Nat
  flags   : Nat
  missed  : Nat
  extra   : Nat
  firstM  : Nat
  armed   : Bool
  lastV   : Option (Nat × Int)
  rearm   : Nat
  slot    : Option Nat
  way     : List Trig
  since   : Nat
  deriving DecidableEq, Repr

/-- An engine that has not been armed since BOOTSTRAP. -/
def Engine.off : Engine :=
  ⟨0, 0, [], [], [], [], 0, 0, none, 0, false, none, 0, 0, 0, 0, false, none, 0, none, [], 0⟩

/-! ### Fleet radio (R348–R375) -/

/-- The last join exchange of an entry (R369, R370): SEQ and FCNT of its JOIN_REQ, the machine nonce, STATUS, the instant of the
last such request and since when the entry is JOINING, FCNT_START, the JOIN_RSP once sent, and whether a response still waits for
a SHARED cell. -/
structure JoinRec where
  k      : Nat
  seq    : Nat
  fcnt   : Nat
  nonce  : Nat
  status : Nat
  at_    : Nat
  since  : Nat
  start  : Nat
  rsp    : Option (List Byte)
  due    : Bool
  deriving DecidableEq, Repr

/-- A downlink request in an entry's queue (R366): entry, TAG, the TRK position that sent it, ACKREQ, payload, attempts made,
its frame once sent, and the ASN of the last attempt. -/
structure DlReq where
  k        : Nat
  tag      : Nat
  src      : Nat
  ack      : Bool
  payload  : List Byte
  attempts : Nat
  frame    : Option (List Byte)
  asn      : Nat
  deriving DecidableEq, Repr

/-- A message of the correction buffer (R362, R363): SEQ, index within the epoch, INT, DEGRADED, LAST, the RTCM frame, the
instant it arrived, and for each lane of the tile the next fragment to send (none: sent or discarded). -/
structure CorrMsg where
  mac   : Nat
  seq   : Nat
  idx   : Nat
  int   : Nat
  deg   : Bool
  last  : Bool
  frame : List Byte
  at_   : Nat
  nxt   : List (Option Nat)
  deriving DecidableEq, Repr

/-- What the sending of a frame brings about: a Hawkmoth frame or an acknowledgement nothing, a beacon the bitmap shown, a
correction fragment (SEQ, message index, fragment) the next one, a downlink frame an attempt of its entry's first request, a
JOIN_RSP the end of its entry's wait. -/
inductive AirAct where
  | hawk
  | ack
  | beacon
  | corr (seq idx frag : Nat)
  | data (k : Nat)
  | join (k : Nat)
  deriving DecidableEq, Repr

/-- A frame that a lane has scheduled or sent: the instant of its SHR, the transceiver channel, its PSDU without FCS, what its
sending brings about, whether it takes a new transmit counter, whether it belongs to a stop (R383), and whether its stamp has been
seen (R351). -/
structure AirFrame where
  at_   : Nat
  chan  : Nat
  bytes : List Byte
  act   : AirAct
  new   : Bool
  stop  : Bool
  seen  : Bool
  deriving DecidableEq, Repr

/-- A payload that waits for a slot of the ring to the dispatcher (R365): entry, FCNT, SHR instant, RSSI, ASN, and its bytes. -/
structure UpItem where
  k     : Nat
  fcnt  : Nat
  shr   : Nat
  rssi  : Nat
  asn   : Nat
  bytes : List Byte
  deriving DecidableEq, Repr

/-- A MAC lane beside its registers: whether the present slot is a stopped slot (R383), REPEAT of the present stop with its
STOP_ID, the instant before which it sends nothing (R356), the slots whose cut-off and whose boundary it ran last, the cells in
force (R364), join exchanges, downlink requests oldest first, the entry whose ACK is awaited, the agreed windows of sleepy entries
with their beginning and end (R374), sleepy entries that missed at w = 4, KEYPHASE, SEQ per neighbour, consecutive bad STATUS reads
(R351), the frames scheduled and those sent of late, the SHR instant of the frame being received, and payloads not yet
delivered. -/
structure MacLane where
  stopped : Bool
  rep     : Nat
  repId   : Option Nat
  silent  : Nat
  cut     : Option Nat
  slot    : Option Nat
  cells   : List Nat
  joins   : List JoinRec
  reqs    : List DlReq
  waiting : Option Nat
  agreed  : List (Nat × Nat × Nat)
  miss4   : List Nat
  phase   : Bool
  seqs    : List (Nat × Nat)
  bad     : Nat
  pend    : List AirFrame
  sent    : List AirFrame
  shr     : Option Nat
  box     : List UpItem
  deriving DecidableEq, Repr

/-- The lane without the frames that a stop drops: those not yet triggered, but for those of a stop (R383). -/
def MacLane.stopped_ (l : MacLane) : MacLane := { l with pend := l.pend.filter (·.stop) }

/-- The eight lanes, the correction buffers, and the SEQ of each tile's last item with the index of its next message. -/
structure Radio where
  lanes : List MacLane
  corr  : List CorrMsg
  idx   : List (Nat × Nat)
  deriving DecidableEq, Repr

/-- A lane that is off. -/
def MacLane.off : MacLane :=
  ⟨false, 0, none, 0, none, none, [], [], [], none, [], [], false, [], 0, [], [], none, []⟩

/-! ### Fleet stop (R376–R395) -/

/-- Fleet stop beside its registers: the pin levels taken (bit 0 STOP0_H, 1 STOP0_L, 2 STOP1_H, 3 STOP1_L), whether
SS_MISMATCH has been set since the latch set (R390), whether the challenge is valid (R391), the stopped slots checked
by the path test under way with whether all of them passed, and the first slot it counts (R389); since when each channel
stays in DIS_HH or DIS_LL without having been reported, one channel RUN with the other STOP likewise, both channels RUN
(R379, R390), and the challenge is held; the slot and the ports whose SHR was seen in it in time for a Hawkmoth frame, and
the slot last checked (R388). -/
structure Stop where
  pins     : Nat
  mismatch : Bool
  chal     : Bool
  test     : Option (Nat × Bool)
  testFrom : Nat
  disAt    : List (Option Nat)
  xmisAt   : Option Nat
  runAt    : Option Nat
  chalAt   : Nat
  seen     : Nat × Nat
  checked  : Option Nat
  deriving DecidableEq, Repr

/-! ### Tracks, coverage and tasks (R396–R422) -/

/-- A speed profile (R402): vs, ve, vk, vm in mm/s and a1, a2, d1, d2 in mm/s². -/
structure Prof where
  vs : Nat
  ve : Nat
  vk : Nat
  vm : Nat
  a1 : Nat
  a2 : Nat
  d1 : Nat
  d2 : Nat
  deriving DecidableEq, Repr

/-- A phase of a plan: where it starts in mm of S, the square of the speed there, the acceleration and its length. -/
structure Phase where
  s   : Rat
  w   : Rat
  acc : Int
  len : Rat
  deriving DecidableEq, Repr

/-- A segment read from its record (R401): the ends, RADIUS, FLAGS, the S of its start and its length. -/
structure TrkSeg where
  e0  : Int
  n0  : Int
  e1  : Int
  n1  : Int
  rad : Int
  flg : Nat
  s0  : Nat
  len : Nat
  deriving DecidableEq, Repr

/-- A planned move (R403): T0 in ns, S of its start, its length, whether it is driven in reverse, and its phases. -/
structure MovePlan where
  at_ : Nat
  s0  : Nat
  len : Nat
  rev : Bool
  phs : List Phase
  deriving DecidableEq, Repr

/-- A task in service (R405): the handle of its entry and the fields of its record. -/
structure TrkTask where
  handle : Nat
  kind   : Nat
  layer  : Nat
  prof   : Nat
  flags  : Nat
  nseg   : Nat
  e0     : Int
  n0     : Int
  track  : Nat
  hold   : Nat
  deriving DecidableEq, Repr

/-- An accepted report: its instant in ns, position, heading in 0.01°, FLAGS, S, TAG and section bitmap. -/
structure Report where
  at_  : Nat
  e    : Int
  n    : Int
  hdg  : Nat
  flg  : Nat
  s    : Nat
  tag  : Nat
  secs : Nat
  deriving DecidableEq, Repr

/-- A section change of a switch list: S_b, S_cmd, the section and whether it turns on (R418). -/
structure SwCmd where
  sb  : Nat
  cmd : Nat
  sec : Nat
  on  : Bool
  deriving DecidableEq, Repr

/-- A downlink frame of a lane (R366): its payload and whether SENT waits for it. -/
structure DlFrame where
  payload : List Byte
  must    : Bool
  deriving DecidableEq, Repr

/-- A machine lane beside its registers: the task, its segments, the plans of the present move and those after it, whether a
reservation request waits, the instant of its last refusal, frames not yet sent, frames under way by TAG, the number of segments
delivered or on their way, the last accepted report, REMAIN once known, the instant of an ABORT, whether the machine has left
JOINED since the task began, whether the present plan resumes a move, the section states commanded up to the reported S, the
last list and when a SWITCH frame was last sent, the serial number of requests, and whether the task's dependences were
cancelled (R64). -/
structure TrkLane where
  task    : Option TrkTask
  segs    : List TrkSeg
  plans   : List MovePlan
  req     : Bool
  refused : Option Nat
  out     : List DlFrame
  way     : List (Nat × DlFrame)
  given   : Nat
  last    : Option Report
  remain  : Option Int
  abortAt : Option Nat
  rejoin  : Bool
  resume  : Bool
  base    : Nat
  list    : List SwCmd
  swAt    : Option Nat
  serial  : Nat
  depCan  : Bool
  deriving DecidableEq, Repr

/-- A reservation (R412): its number, owner, P0 and P1 in mm, twice HALF_W, its window, whether it is held, and whether it is a
park reservation. -/
structure Resv where
  id    : Nat
  owner : Nat
  e0    : Int
  n0    : Int
  e1    : Int
  n1    : Int
  half2 : Nat
  from_ : Nat
  till  : Nat
  held  : Bool
  park  : Bool
  deriving DecidableEq, Repr

/-- The TRK tiles: lanes by machine number, the reservation table of the home, the tiles whose origin has changed, and the
submissions being checked (tile and TK_SUB value). -/
structure Tracks where
  lanes  : List (Nat × TrkLane)
  table  : List Resv
  frozen : List Nat
  subs   : List (Nat × Nat)
  deriving DecidableEq, Repr

/-- A lane without a task. -/
def TrkLane.off : TrkLane :=
  ⟨none, [], [], false, none, [], [], 0, none, none, none, false, false, 0, [], none, 0, false⟩


/-! ### Ethernet and packet tiles (R423–R451) -/

/-- A frame waiting in a port: the producer it came from (0 software, 1 + the position of a link's source), the software queue whose
place it holds, the link and the slot of its ring that it holds, TS_REQ, ONE_STEP, the number of a copy made by a fail-over, and its bytes
without FCS. -/
structure TxFrame where
  prod : Nat
  sw   : Option Nat
  ring : Option (Nat × Nat)
  ts   : Bool
  one  : Bool
  copy : Option Nat
  data : List Byte
  deriving DecidableEq, Repr

/-- An entry of a timestamp FIFO (R430): instant, sub-ns fraction, sequenceId, messageType, generation, OVF. -/
structure TsEntry where
  ts   : Nat
  sub  : Nat
  seq  : Nat
  typ  : Nat
  gen  : Nat
  ovf  : Bool
  deriving DecidableEq, Repr

/-- An Ethernet port beside its registers: frames waiting in order of arrival, the producer served last, timestamps, whether one
was lost since the last entry, SEQ of the next heartbeat, SEQ of the last valid heartbeat received, whether one has come in this
window, the instant in ns from which a repair counts, the event message last handed to the time processor with its ingress timestamp,
the last frame sent, and the instant of the last heartbeat. -/
structure EthPort where
  fifo  : List TxFrame
  prod  : Nat
  stamps : List TsEntry
  lost  : Bool
  hbSeq : Nat
  seen  : Option Nat
  hit   : Bool
  since : Nat
  ptp   : Option (List Byte × Stamp)
  line  : List Byte
  hbAt  : Option Nat
  deriving DecidableEq, Repr

/-- The block: ports, frames of the pair that wait while it is DOWN, the path that still drains after a fail-over or switch with
its instant in ns, numbers of copies that have left on one path, the next copy number, and the instant at which the last monitoring
window ended. -/
structure Eth where
  ports  : List EthPort
  queue  : List TxFrame
  drain  : Option (Nat × Nat)
  copies : List Nat
  next   : Nat
  winAt  : Option Nat
  deriving DecidableEq, Repr

/-- A connection context beside its registers: the reassembly buffer, whether a frame start is being searched for, and the IPv4
identification of the next datagram. -/
structure PktCtx where
  buf    : List Byte
  search : Bool
  ident  : Nat
  deriving DecidableEq, Repr

/-- A port that is off. -/
def EthPort.off : EthPort := ⟨[], 0, [], false, 0, none, false, 0, none, [], none⟩
/-- A context that is off. -/
def PktCtx.off : PktCtx := ⟨[], false, 0⟩


/-! ### CAN (R452–R467) -/

/-- A frame: identifier and IDE, DLC, FDF, BRS, ESI, data bytes, the instant of its SOF and the generation of that stamp. -/
structure CanFrame where
  id   : Nat
  ide  : Bool
  dlc  : Nat
  fdf  : Bool
  brs  : Bool
  esi  : Bool
  data : List Byte
  sof  : Nat
  gen  : Nat
  deriving DecidableEq, Repr

/-- An enabled message object (R455): its configuration, its state bits, the frame it holds, its data bytes, the shadow with its
LOST mark, and the frames stored since it was enabled. -/
structure CanObj where
  id     : Nat
  ide    : Bool
  tx     : Bool
  irq    : Bool
  dlc    : Nat
  fdf    : Bool
  brs    : Bool
  isNew  : Bool
  lost   : Bool
  pend   : Bool
  frame  : Option CanFrame
  data   : List Byte
  shadow : Option (CanFrame × Bool)
  stored : Nat
  deriving DecidableEq, Repr

/-- Why a frame is being sent. -/
inductive CanTx where
  | request | reference | window
  deriving DecidableEq, Repr

/-- Automatic rate detection (R461): the entry tried, the round, the instant in ns its dwell began, protocol errors in it, and
whether a frame without BRS was received without error. -/
structure CanAdr where
  idx   : Nat
  round : Nat
  since : Nat
  errs  : Nat
  good  : Bool
  deriving DecidableEq, Repr

/-- A controller beside its registers: enabled objects by number, the locked object with the instant of its lock, the object whose
frame is in arbitration or on the bus with the data copied and the instant it was offered, rate detection, the SOF of the present
cycle's reference message, the last cycle start taken, the windows begun in the cycle, the instant before which no reference is
sent, and consecutive frames beyond and within TERM_THR. -/
structure Can where
  objs  : List (Nat × CanObj)
  lock  : Option (Nat × Nat)
  tx    : Option (Nat × CanTx × List Byte)
  adr   : Option CanAdr
  txAt  : Nat
  cycAt : Option Nat
  startAt : Option Nat
  begun : List Nat
  hold  : Nat
  far   : Nat
  near  : Nat
  deriving DecidableEq, Repr

/-- A controller that is off. -/
def Can.off : Can := ⟨[], none, none, none, 0, none, none, [], 0, 0, 0⟩


/-! ### Host and Yupex (R468–R478) -/

/-- The UDP address of a Yupex requester: Ethernet port, source address and source port (R475). -/
structure UdpSrc where
  port : Nat
  addr : Nat
  udp  : Nat
  deriving DecidableEq, Repr

/-- A Yupex request: its transport (none is PCIe) and its frame. -/
structure YxReq where
  src   : Option UdpSrc
  frame : List Byte
  deriving DecidableEq, Repr

/-- The last request of a source that was executed, with the present state of its response: FSTAT and payload (R476). -/
structure YxLast where
  req     : YxReq
  fstat   : Nat
  payload : List Byte
  deriving DecidableEq, Repr

/-- The mailbox beside its registers: the PCIe request not yet taken, the UDP requests held, which transport is taken next
(true: UDP), the request whose operation runs now, the last request of each source, the last UDP response sent, and
whether the PCIe request being served was abandoned (R472). -/
structure Yupex where
  pcie      : Option YxReq
  queue     : List YxReq
  udpNext   : Bool
  serving   : Option YxReq
  last      : List YxLast
  sent      : Option (UdpSrc × List Byte)
  abandoned : Bool
  deriving DecidableEq, Repr

/-- The patrol scrubs: the instant before which DDR's next line is not read, in 2^-28 ns, at which SCRUB_H gives whole numbers
(R492); and by stage-memory half the next word and the start of its pass (R493). -/
structure Scrub where
  ddr  : Nat
  half : List (Nat × Nat × Nat)
  deriving DecidableEq, Repr

/-- The endpoint beside its registers: whether PCIE_PERST_N is low (R472), whether it has started (R468), whether the image allows
it, the MSI-X vectors the host has enabled and those fired, oldest first (R473). -/
structure Pcie where
  perst   : Bool
  started : Bool
  allowed : Bool
  msixEn  : List Nat
  fired   : List Nat
  deriving DecidableEq, Repr

/-! ### DMA channels (R479–R487) -/

/-- A scatter-gather list entry read ahead (R480); `bad` when it is a LIST_ERR. -/
structure DmaEnt where
  addr : Nat
  len  : Nat
  host : Bool
  stop : Bool
  bad  : Bool
  deriving DecidableEq, Repr

/-- One side of a transfer: the next address, the bytes left in the block or entry, whether it is host memory, whether the
entry ends the list, and the entries read ahead. -/
structure DmaSide where
  cur  : Nat
  left : Nat
  host : Bool
  fin  : Bool
  ents : List DmaEnt
  deriving DecidableEq, Repr

/-- What a beat moves: data, or entries of the source's or the destination's list. -/
inductive DmaKind where
  | data | srcList | dstList
  deriving DecidableEq, Repr

/-- A beat outstanding (R479): source and destination addresses, whether each is in host memory, and its bytes. -/
structure DmaBeat where
  kind : DmaKind
  src  : Nat
  dst  : Nat
  sh   : Bool
  dh   : Bool
  n    : Nat
  deriving DecidableEq, Repr

/-- A channel beside its registers: both sides, outstanding beats in transfer order, the status that ends the transfer when the
beats have drained (`stop`), the status of a failed beat after which data are discarded (`fail`), bytes accepted, and the
completions since power-on of its domain (R484). -/
structure DmaLane where
  src   : DmaSide
  dst   : DmaSide
  beats : List DmaBeat
  stop  : Option Nat
  fail  : Option Nat
  bytes : Nat
  comps : Nat
  deriving DecidableEq, Repr

/-- A channel that has never run. -/
def DmaLane.off : DmaLane := ⟨⟨0, 0, false, false, []⟩, ⟨0, 0, false, false, []⟩, [], none, none, 0, 0⟩

/-- The DMA tiles: channels that have run, by number; the lane served last, by tile; and the writes posted to host memory, as
host bus address and bytes, oldest first. -/
structure Dma where
  lanes  : List (Nat × DmaLane)
  turn   : List (Nat × Nat)
  posted : List (Nat × List Byte)
  deriving DecidableEq, Repr

/-! ### Gauntlet (R494–R529) -/

/-- A key as it is held: the pair (K ⊕ M, M) of R515 and the check value of R516, cipher byte 0 lowest. -/
structure Key where
  x   : List Byte
  m   : List Byte
  chk : Nat
  deriving DecidableEq, Repr

/-- The key halves of a slot; its attributes stand in KS_ATTRs. -/
structure KeySlot where
  slot : Nat
  live : Key
  pend : Option Key
  deriving DecidableEq, Repr

/-- A live half delivered to an engine (R510): the tile position and lane, the slot, the key in use, the key that replaces it
at the engine's next boundary (R516), and whether it is to be cleared there (R517). -/
structure KeyCopy where
  pos  : Nat
  lane : Nat
  slot : Nat
  key  : Key
  nxt  : Option Key
  gone : Bool
  deriving DecidableEq, Repr

/-- A slot stored in the SECFW settings record (R518): its attributes as KS_ATTRs holds them, its key, and the root it is
wrapped under. -/
structure StoredSlot where
  slot : Nat
  attr : Nat
  key  : List Byte
  root : List Byte
  deriving DecidableEq, Repr

/-- A command whose flash write is in progress (R518): its channel, the code and data of its result. -/
structure GmPend where
  ch   : Nat
  data : List Byte
  snap : List StoredSlot
  deriving DecidableEq, Repr

/-- A job of a cipher session (R523, R524): tile position, session, the record's bytes and its address when it comes from
software, the index and handle of its entry or the link that brought it, and the key it was admitted with. -/
structure CryJob where
  pos    : Nat
  lane   : Nat
  rec_   : List Byte
  at_    : Option Nat
  handle : Nat
  link   : Nat
  key    : Option Key
  status : Nat
  deriving DecidableEq, Repr

/-- Gauntlet beside its registers: key slots, delivered copies, stored slots, the roots DEVELOP, FIELD and RETURN (none when
zeroed), their fused digests by generation with the oldest first, the burned key hashes and the key page, the serial number
of the fuses, the stored boot counter, the command whose flash write is in progress, the channel served last, whether the
key store is disabled after a tamper (R519), whether the device is halted (R501), the running cipher jobs, how many tamper entries were ever written (R521), the life-cycle code in the
fuses, which applies from the next start (R494), and the instant of the last renewal of masks (R515). -/
structure Sec where
  slots    : List KeySlot
  copies   : List KeyCopy
  stored   : List StoredSlot
  roots    : List (Option (List Byte))
  digests  : List (List Nat)
  hashes   : List (List Byte)
  keyPage  : List (List Byte)
  serial   : Nat
  boots    : Nat
  cur      : Option GmPend
  served   : Nat
  disabled : Bool
  halted   : Bool
  jobs     : List CryJob
  tampers  : Nat
  burned   : Nat
  maskAt   : Nat
  deriving DecidableEq, Repr

/-! ### Events, recorder, health (R530–R553) -/

/-- A record request on its way to the recorder (R536): the instant, code, severity, TFLAG, SOURCE and ORIGIN bytes and
data; `sw` is the staging area of a software record. -/
structure RecReq where
  time   : Nat
  code   : Nat
  sev    : Nat
  tflag  : Bool
  source : Nat
  origin : Nat
  data   : List Byte
  sw     : Option Nat
  deriving DecidableEq, Repr

/-- A record held in MGMT SRAM (R534) with its flushed mark (R538) and the instant of its admission. -/
structure Rec where
  req     : RecReq
  seq     : Nat
  suppr   : Nat
  loss    : Bool
  flushed : Bool
  at_     : Nat
  deriving DecidableEq, Repr

/-- A block of the event log ring in flash (R541): its number, what its header holds (block sequence, SEQ of its first record,
SEC_BOOTCNT), and the bytes of its records. -/
structure RingBlock where
  block : Nat
  bseq  : Nat
  first : Nat
  boots : Nat
  recs  : List (List Byte)
  deriving DecidableEq, Repr

/-- What the recorder is flushing. -/
inductive Flush where
  | none | background | emergency
  deriving DecidableEq, Repr

/-- The recorder: whether it runs (R544), waiting requests, Gauntlet's records from before it runs (R577), buckets
that are not full in 1/1,000 token, the last whole millisecond refilled (R537), held records oldest first, the last
SEQ, the acknowledged SEQ, the pending LOSS flag (R539), the flush, whether a power-fail flush runs (R543), and the flash
ring: block being written, its sequence, places used, the block to be written next and whether it is erased, and what the
blocks hold (R541). -/
structure Recorder where
  running : Bool
  reqs    : List RecReq
  early   : List RecReq
  buckets : List (Nat × Nat)
  ms      : Nat
  recs    : List Rec
  seq     : Nat
  acked   : Nat
  loss    : Bool
  flush   : Flush
  pfail   : Bool
  block   : Nat
  bseq    : Nat
  place   : Nat
  nxt     : Nat
  erased  : Bool
  ring    : List RingBlock
  deriving DecidableEq, Repr

/-- Health: consecutive samples of each rail out of and within range (R549), islands whose WARN or CRIT crossing awaits
re-arming (R550), consecutive passes with margin to spare in FA and FB (R546), islands' image clock codes, failed PMBus
checks and whether one is due in FA and FB (R547), passes measured per island (R548), checks and disagreements in the
present read-back window of each output and its run of agreeing checks (R553), the partner identities MP has saved
(R551), the saved plan: voltages of FA and FB and clock codes (R546), the instants of the next health pass (R545), of the last
samples of rails and temperatures (R549, R550), and of the last VOUT_COMMAND of FA and FB (R547). -/
structure Health where
  railOut  : List Nat
  railIn   : List Nat
  warned   : List Nat
  crit     : List Nat
  spare    : Nat × Nat
  imgFreq  : List (Nat × Nat)
  pmbFails : Nat × Nat
  pmbWait  : Bool × Bool
  passes   : List (Nat × Nat)
  pinChk   : List (Nat × Nat)
  pinBad   : List (Nat × Nat)
  pinGood  : List (Nat × Nat)
  partners : List (Nat × Nat)
  planV    : Nat × Nat
  planF    : List (Nat × Nat)
  passAt   : Nat
  railAt   : Nat
  tempAt   : Nat
  pmbAt    : Nat × Nat
  deriving DecidableEq, Repr

/-! ### The whole state -/

/-- The power of the switched domains (R31, R123); AON and TIME are powered while VDD_SOC is present. `due` are the warm
resets asked for and not yet taken (R119), as bit numbers of RESET_CAUSE; `hostAt` the instant at which the one of a RESET operation
starts (R477); `dormPrep` whether a PREPARE for DORMANT has been sent and not cancelled (R124); `holdAt` the instant at which a
power-down began to hold DMA channels (R486). -/
structure Power where
  vdd  : Bool
  vbat : Bool
  sec  : Bool
  mgmt : Bool
  io   : Bool
  fa   : Bool
  fb   : Bool
  due  : List Nat
  hostAt : Nat
  dormPrep : Bool
  holdAt : Option Nat
  deriving DecidableEq, Repr

/-- The state of the block. -/
structure State where
  /-- Commands waiting, first in first out. -/
  pending : List Instr
  /-- The register fields that differ from the value `fldDflt` gives them: key and value, keys rising. -/
  cells   : List (Nat × Nat)
  /-- Bytes of stage memory and DDR that are not zero, addresses rising. -/
  mem     : List Host.Cell
  /-- Word addresses (address / 8) that hold P 1, rising (R489). -/
  poison  : List (Nat × Unit)
  /-- Words with stored bits in error and how many (R489). -/
  flips   : List (Nat × Nat)
  power   : Power
  modes   : ModeCtl
  boot    : BootCtl
  upd     : Upd
  /-- What the local memories of the processors hold that is not 0 (R75), by island: the SRAM of SS, Gauntlet, TP and MP, and the
  caches of AC0–AC3. Only firmware reaches them. -/
  cores   : List (Nat × List Host.Cell)
  /-- Words of Cocoon that are not 0, by index. -/
  cocoon  : List (Nat × Nat)
  resp    : Completion
  staged  : List WordHold
  caught  : List WordHold
  img     : Img
  links   : List Link
  /-- Items read from their queues and not yet taken by a command of their stage, oldest first, each with its link. -/
  rx      : List (Nat × QPkt)
  /-- Items held back by producers without credits, oldest first. -/
  outq    : List OutItem
  disp    : Disp
  /-- Toggles on their way to the event router (R51, R530). -/
  toggles : List Nat
  /-- Pulses forwarded to TP and to SS, whose firmware keeps its own pending state (R531). -/
  toTp    : List Nat
  toSs    : List Nat
  log     : Recorder
  health  : Health
  time    : TimeCore
  stop    : Stop
  radio   : Radio
  loops   : List LoopLane
  /-- The last value of each sampled source of the loops (R167, R168), by source code × 128 + index. -/
  samples : List (Nat × Int)
  gnss    : Gnss
  obs     : List ObsTile
  waves   : Waves
  /-- Items handed to tiles that take them when one of their own commands runs, oldest first. -/
  inbox   : List Inbound
  phs     : List (Nat × PhsLane)
  align   : Align
  groups  : List (Nat × Group)
  engines : List Engine
  pins    : List AlarmPin
  lines   : List TrigLine
  tracks  : Tracks
  eth     : Eth
  cans    : List Can
  pkt     : List (Nat × PktCtx)
  sec     : Sec
  pcie    : Pcie
  yx      : Yupex
  dma     : Dma
  scrub   : Scrub
  /-- The counter of free values: the model's own field, not the spec's. -/
  free    : Nat
  deriving DecidableEq, Repr

/-- Why the machine stops with a fault. No command of this block does: an access error is a completion with an error
response (R73, R74), not a stop. The constructor exists because the interface asks for a type. -/
inductive Fault where
  /-- Raised by no meaning. Safe. -/
  | none
  deriving DecidableEq, Repr

/-- Why a command has no meaning. -/
inductive Refusal where
  /-- Raised by an arm of `exec` whose command is not modelled; safe. -/
  | notModelled (mnemonic : String)
  deriving DecidableEq, Repr

/-- The state right after reset: every register field at its reset value, AON, TIME and SEC powered (PWR_STAT.DOM_ON), the other domains off, nothing instanced. -/
def State.reset : State := {
  pending := [], cells := [], mem := [], poison := [], flips := [],
  power := ⟨true, true, true, false, false, false, false, [], 0, false, none⟩,
  modes := ⟨none, none, [], none, 0, 0, none, []⟩, boot := ⟨false, false, true, [], false, [], []⟩,
  upd := ⟨[.empty, .empty], none, 0, 0, [], [], [], []⟩, cores := [], cocoon := [],
  resp := ⟨.ok, 0⟩, staged := [], caught := [],
  img := ⟨[], [], [], 0, 0, 0, 0, []⟩, links := [], rx := [], outq := [],
  disp := ⟨[], [], 0, 0, [], false, [[], [], [], [], [], []], [], 0, [], []⟩,
  toggles := [], toTp := [], toSs := [],
  log := ⟨false, [], [], [], 0, [], 0, 0, false, .none, false, 0, 0, 0, 1, true, []⟩,
  health := ⟨List.replicate 16 0, List.replicate 16 0, [], [], (0, 0), [], (0, 0), (false, false), [], [], [], [], [],
    (0, 0), [], 0, 0, 0, (0, 0)⟩,
  time := ⟨0, 0, 0, 0, 0, 0, 0, 0xFFFF_FFFF, 0xFFFF_FFFF, 0xFFFF_FFFF, none, none, none, false, false, 0, 0, [], [], 0, [], 0,
    List.replicate 13 (none, none), [], [], List.replicate 4 .off⟩,
  stop := ⟨10, false, false, none, 0, [none, none], none, none, 0, (0, 0), none⟩,
  radio := ⟨List.replicate 8 .off, [], []⟩,
  loops := List.replicate 64 .off, samples := [],
  obs := [.off, .off],
  waves := ⟨[], List.replicate 64 0, List.replicate 64 0, 0⟩,
  inbox := [], phs := [], align := ⟨[], [], 0⟩,
  groups := [], engines := List.replicate 8 .off, pins := List.replicate 8 ⟨0, 0, false⟩, lines := List.replicate 2 ⟨0, 0, 0, false⟩,
  tracks := ⟨[], [], [], []⟩,
  cans := List.replicate 4 .off,
  eth := ⟨List.replicate 4 .off, [], none, [], 0, none⟩, pkt := [],
  gnss := ⟨List.replicate 8 .off, List.replicate 16 ⟨0, none⟩, []⟩,
  sec := ⟨[], [], [], [none, none, none], [], [], [], 0, 0, none, 3, false, false, [], 0, 0, 0⟩,
  pcie := ⟨false, false, false, [], []⟩,
  yx := ⟨none, [], false, none, [], none, false⟩,
  dma := ⟨[], [], []⟩,
  scrub := ⟨0, []⟩,
  free := 0 }

end Sys2Proof.Machine
end

