-- ==== Sys2Proof/Machine/Ops.lean ====
section
/-! DEFINITION. The named operations on the state: register fields, events and records, domains, the present instant, and
bytes of memory. Every meaning reads and writes the state through these. -/

namespace Sys2Proof.Machine

/-! ### Register fields -/

/-- The value of a key in the register cells. -/
def cellGet (k : Nat) : List (Nat × Nat) → Option Nat
  | [] => none
  | (j, v) :: t => if k = j then some v else cellGet k t

/-- The value of a field of the register instance at `base`. -/
def State.get (s : State) (base : Nat) (f : Fld) : Nat := (cellGet (fldKey f base) s.cells).getD (fldDflt f base)

/-- A field set to a value, truncated to its width. -/
def State.set (s : State) (base : Nat) (f : Fld) (v : Nat) : State :=
  let x := v % 2 ^ f.w
  { s with cells := if x = fldDflt f base then assocDel (fldKey f base) s.cells else assocSet (fldKey f base) x s.cells }

/-- Whether a one-bit field is 1. -/
def State.flag (s : State) (base : Nat) (f : Fld) : Bool := s.get base f == 1

/-- A one-bit field set to a Boolean. -/
def State.setB (s : State) (base : Nat) (f : Fld) (b : Bool) : State := s.set base f (b2n b)

/-- A field read as a two's-complement number. -/
def State.getS (s : State) (base : Nat) (f : Fld) : Int := sgn f.w (s.get base f)

/-- A field set to the pattern of an integer. -/
def State.setS (s : State) (base : Nat) (f : Fld) (i : Int) : State := s.set base f (pat f.w i)

/-- A saturating counter field raised by `n`. -/
def State.count (s : State) (base : Nat) (f : Fld) (n : Nat) : State := s.set base f (satAdd f.w (s.get base f) n)

/-- Several fields of one register instance set. -/
def State.sets (s : State) (base : Nat) (l : List (Fld × Nat)) : State :=
  l.foldl (fun t p => t.set base p.1 p.2) s

/-- Every field of a register's list that a predicate on keys selects returned to its reset value. -/
def State.clearCells (s : State) (p : Nat → Bool) : State := { s with cells := s.cells.filter (fun c => !p c.1) }

/-- The address of a cell key, without its bank. -/
def keyAddr (k : Nat) : Nat := k / 64 % 2 ^ 40

/-- The base of a banked (selected) register: bank `n` behind a window (the selected stream, context, object). -/
def banked (base n : Nat) : Nat := base + (n + 1) * 2 ^ 48

/-- The value of a register instance from its stored fields. -/
def State.word (s : State) (base : Nat) (r : Reg) : Nat :=
  (r.desc.flds.map (fun f => s.get base f * 2 ^ f.lo)).sum

/-- Bytes written into consecutive 64-bit words of a buffer register, from byte `8 i`. -/
def State.putBuf (s : State) (base : Nat) (f : Fld) (i : Nat) : List Byte → State
  | b0 :: b1 :: b2 :: b3 :: b4 :: b5 :: b6 :: b7 :: t =>
    (s.set (base + i * 8) f (leVal [b0, b1, b2, b3, b4, b5, b6, b7])).putBuf base f (i + 1) t
  | [] => s
  | l => s.set (base + i * 8) f (leVal l)

/-- The first `n` words of a buffer register as bytes. -/
def State.getBuf (s : State) (base : Nat) (f : Fld) (n : Nat) : List Byte :=
  ((List.range n).map (fun i => leBytes 8 (s.get (base + i * 8) f))).flatten

/-! ### Bases of the service blocks -/

/-- Time core. -/
def bTime : Nat := 0x3000_0000
/-- Event recorder. -/
def bRc : Nat := 0x3001_0000
/-- Dispatcher. -/
def bDsp : Nat := 0x3002_0000
/-- DDR controller. -/
def bDdr : Nat := 0x3003_0000
/-- Ethernet block. -/
def bEth : Nat := 0x3004_0000
/-- CAN block. -/
def bCan : Nat := 0x3005_0000
/-- PCIe endpoint. -/
def bPcie : Nat := 0x3006_0000
/-- Health block. -/
def bHl : Nat := 0x3007_0000
/-- Mode and power controller. -/
def bMpc : Nat := 0x3008_0000
/-- Gauntlet mailbox. -/
def bSec : Nat := 0x3009_0000
/-- Yupex mailbox. -/
def bYx : Nat := 0x300A_0000
/-- Radio port I/O. -/
def bRadio : Nat := 0x300B_0000
/-- RF sample ports. -/
def bRf : Nat := 0x300C_0000
/-- Waveform I/O. -/
def bWv : Nat := 0x300D_0000
/-- Event router. -/
def bEr : Nat := 0x300F_0000

/-- The LOCK and LOCK_VIOL bits of a block, with the base of their register (R18). -/
def lockOf (b : Blk) (base : Nat) : Option (Nat × Fld × Fld) :=
  match b with
  | .mpc => some (bMpc, Rg.MODE_CFG.LOCK, Rg.MODE_CFG.LOCK_VIOL)
  | .dsp => some (bDsp, Rg.DSP_CTRL.LOCK, Rg.DSP_CTRL.LOCK_VIOL)
  | .obs => some (base, Rg.OB_CFG.LOCK, Rg.OB_CFG.LOCK_VIOL)
  | .pcie => some (bPcie, Rg.PCIE_CFG.LOCK, Rg.PCIE_CFG.LOCK_VIOL)
  | .yx => some (bYx, Rg.YX_CFG.LOCK, Rg.YX_CFG.LOCK_VIOL)
  | .sec => some (bSec, Rg.KS_CFG.LOCK, Rg.KS_CFG.LOCK_VIOL)
  | .er => some (bEr, Rg.ER_CTRL.LOCK, Rg.ER_CTRL.LOCK_VIOL)
  | .rc => some (bRc, Rg.RC_CTRL.LOCK, Rg.RC_CTRL.LOCK_VIOL)
  | .hl => some (bHl, Rg.HL_CFG.LOCK, Rg.HL_CFG.LOCK_VIOL)
  | _ => none

/-! ### Mode, time, domains -/

/-- The present operating mode (MODE_STAT.MODE). -/
def State.mode (s : State) : Mode := .ofCode (s.get bMpc Rg.MODE_STAT.MODE)

/-- The present instant, era : ns (R11, R12). -/
def State.now (s : State) : Nat := stampOf s.time.era s.time.ns

/-- The present instant in ns of the device time scale. -/
def State.nowNs (s : State) : Nat := s.time.era * 2 ^ 32 + s.time.ns

/-- Whether TIME_CTRL.STATE is LOCKED (R153). -/
def State.locked (s : State) : Bool := s.get bTime Rg.TIME_CTRL.STATE == 2

/-- The debug level (R503): in BLANK and SCRAP it is FULL whatever is requested. -/
def State.debugLevel (s : State) : Nat :=
  let lc := s.get bSec Rg.SEC_STAT.LC
  if lc = 0 ∨ lc = 4 then 2 else s.get bSec Rg.SEC_STAT.DEBUG

/-- Whether a JTAG master has Gauntlet's rights (R502). -/
def State.debugFull (s : State) : Bool := s.debugLevel == 2

/-- Whether a domain is powered (R31). -/
def State.on (s : State) : Dom → Bool
  | .aon => s.power.vdd | .time => s.power.vdd | .sec => s.power.vdd && s.power.sec
  | .mgmt => s.power.vdd && s.power.mgmt | .io => s.power.vdd && s.power.io
  | .fa => s.power.vdd && s.power.fa | .fb => s.power.vdd && s.power.fb

/-- Whether the device time scale runs: the TIME island's clock is locked (R121, R141). -/
def State.timeRuns (s : State) : Bool := s.power.vdd && s.get (islBase 3) Rg.ISL_STAT.CLK_LOCK == 1

/-- The lanes the image enables at a position; 0 where it instances no tile (R80, R81). -/
def State.lanesAt (s : State) (pos : Nat) : Nat := lookupD 0 pos s.img.lanes

/-- Whether the tile at a position is instanced. -/
def State.instanced (s : State) (pos : Nat) : Bool := s.lanesAt pos != 0

/-- Whether lane `l` of the tile at a position is enabled and its domain powered. -/
def State.laneOn (s : State) (pos l : Nat) : Bool := decide (l < s.lanesAt pos) && s.on (domOf (islandOf pos))

/-- The position of device-wide channel `c` of a kind, and its lane (R25). -/
def chanPos (k : Blk) (c : Nat) : Nat := (tilePositions k).getD (c / tileLanes k) 99

/-- Whether device-wide channel `c` of a kind is instanced, enabled and powered. -/
def State.chanOn (s : State) (k : Blk) (c : Nat) : Bool :=
  decide (c / tileLanes k < (tilePositions k).length) && s.laneOn (chanPos k c) (c % tileLanes k)

/-- Whether the input of a TDC channel is there (R91): IOBANK enables TRIG_IN 0–3 for channels 1–4 and ports FRP0–FRP7 for channels
5–12. -/
def State.tdcFitted (s : State) (ch : Nat) : Bool :=
  if ch = 0 then true else if ch ≤ 4 then bitOf (48 + ch - 1) s.img.io0 else bitOf (16 + ch - 5) s.img.io0

/-! ### Events and records -/

/-- A source toggles (R51, R530): a toggle already on its way merges with it; with MGMT off no source is routed (R532). -/
def State.toggle (s : State) (ev : Nat) : State :=
  if !s.on .mgmt || s.toggles.contains ev then s else { s with toggles := s.toggles ++ [ev] }

/-- An event bit set by hardware: the source toggles when the bit was 0 (R530). -/
def State.event (s : State) (ev base : Nat) (f : Fld) : State :=
  if s.get base f = 1 then s else (s.set base f 1).toggle ev

/-- An event bit set when a condition holds. -/
def State.eventIf (s : State) (c : Bool) (ev base : Nat) (f : Fld) : State := if c then s.event ev base f else s

/-- A record request handed to the recorder (R536): a block holds at most 4, a fifth is dropped and counted, which is a
loss under R539. Before the recorder runs, only Gauntlet's requests are held, at most 8 (R577). -/
def State.request (s : State) (r : RecReq) : State :=
  if s.log.running then
    if 4 ≤ (s.log.reqs.filter (fun q => q.source == r.source && q.sw == none)).length then
      { (s.count bRc Rg.RC_LOSS.INPUT 1).event 17 bRc Rg.RC_EVT.LOSS with log := { s.log with loss := true } }
    else { s with log := { s.log with reqs := s.log.reqs ++ [r] } }
  else if r.source = 34 ∧ s.log.early.length < 8 then { s with log := { s.log with early := s.log.early ++ [r] } }
  else s

/-- A device record: code, severity, source and data, dated now (R534, R577). -/
def State.record (s : State) (code sev source : Nat) (data : List Byte) : State :=
  s.request ⟨s.now, code, sev, !s.locked, source, 0, data, none⟩

/-- A record raised by a processor's firmware: ORIGIN names it (R534). -/
def State.recordBy (s : State) (origin code sev source : Nat) (data : List Byte) : State :=
  s.request ⟨s.now, code, sev, !s.locked, source, origin, data, none⟩

/-- A block raises an event with a record: its source pulses and the record is requested. -/
def State.raise (s : State) (code sev ev : Nat) (data : List Byte) : State := (s.toggle ev).record code sev ev data

/-- The island of the master of an access (R577). -/
def masterIsland : Master → Nat
  | .gauntlet => 2 | .mp => 4 | .tp => 3 | .ss => 1 | .ac0 => 5 | .ac1 => 5 | .ac2 => 5 | .ac3 => 5
  | .host => 10 | .jtag => 12 | .tile p => islandOf p

/-- An access error recorded under the source of the master's island, without a pulse (R577, R578). -/
def State.accessEvent (s : State) (code : Nat) (m : Master) (addr : Nat) : State :=
  s.record code 2 (islEv (masterIsland m)) (leBytes 8 (addr % 2 ^ 40) ++ [BitVec.ofNat 8 m.code])

/-- The completion given to the master. -/
def State.answer (s : State) (how : Done) (val : Nat) : State := { s with resp := ⟨how, val⟩ }

/-- ACCESS_VIOL: an error response and the record (R65, R74). -/
def State.violation (s : State) (m : Master) (addr : Nat) : State := (s.accessEvent 0x061 m addr).answer .err 0

/-- An island's clock relocks at a code (R37): CLK_LOCK clears until the clock locks. -/
def State.relock (s : State) (isl code : Nat) : State :=
  (s.set (islBase isl) Rg.ISL_CLK.FREQ_CODE code).set (islBase isl) Rg.ISL_STAT.CLK_LOCK 0

/-- An MSI-X vector fires on a rising edge of its condition while the host has enabled it (R473). -/
def State.msix (s : State) (v : Nat) : State :=
  if s.pcie.msixEn.contains v then { s with pcie := { s.pcie with fired := s.pcie.fired ++ [v] } } else s

/-- `n` words of 8 bytes drawn from the TRNG, starting with the next free value. -/
def trngBytes : Nat → Nat → List Byte
  | 0, _ => []
  | n + 1, i => leBytes 8 (Config.trng i).toNat ++ trngBytes n (i + 1)

/-- The counter of free values moved past `n` of them. -/
def State.drawn (s : State) (n : Nat) : State := { s with free := s.free + n }

/-- The next free value. -/
def State.fresh (s : State) : State := { s with free := s.free + 1 }

/-! ### Bytes of memory -/

/-- The byte at an address; an address that is not listed reads 0. -/
def memGet (a : Nat) : List Host.Cell → Byte
  | [] => 0
  | (b, v) :: t => if a = b then v else memGet a t

/-- A byte placed in the list in rising order of addresses. -/
def memPut (a : Nat) (v : Byte) : List Host.Cell → List Host.Cell
  | [] => [(a, v)]
  | (b, w) :: t => if a < b then (a, v) :: (b, w) :: t else if a = b then (a, v) :: t else (b, w) :: memPut a v t

/-- One byte of memory written; writing 0 removes its entry. -/
def memSet (a : Nat) (v : Byte) (m : List Host.Cell) : List Host.Cell :=
  if v = 0 then m.filter (fun c => c.1 != a) else memPut a v m

/-- The canonical form: addresses strictly rising and no zero byte listed. -/
abbrev Memory.wf (m : List Host.Cell) : Prop := m.Pairwise (fun a b => a.1 < b.1) ∧ ∀ c ∈ m, c.2 ≠ 0

/-- The byte of memory at an address. -/
def State.byte (s : State) (a : Nat) : Byte := memGet a s.mem

/-- `n` bytes of memory from an address. -/
def State.bytes (s : State) (a : Nat) : Nat → List Byte
  | 0 => []
  | n + 1 => s.byte a :: s.bytes (a + 1) n

/-- Bytes written in the memory list from an address on. -/
def memPutAll (a : Nat) : List Byte → List Host.Cell → List Host.Cell
  | [], m => m
  | b :: t, m => memPutAll (a + 1) t (memSet a b m)

/-- Bytes written to memory from an address on. -/
def State.store (s : State) (a : Nat) (l : List Byte) : State := { s with mem := memPutAll a l s.mem }

end Sys2Proof.Machine
end

