-- ==== Sys2Proof/Machine/Events.lean ====
section
/-! DEFINITION. The event router (R530–R533) and the event recorder (R534–R544). -/

namespace Sys2Proof.Machine

/-! ### Router -/

/-- The target bits of a source that are fixed at 1 (R531): SS for EV001 and EV003, MP for EV000, EV017 and EV018. -/
def fixedTargets (n : Nat) : Nat :=
  if n = 1 ∨ n = 3 then 64 else if n = 0 ∨ n = 17 ∨ n = 18 then 16 else 0

/-- The targets of a source: ER_ROUTEn.TARGET with its fixed bits. -/
def State.targets (s : State) (n : Nat) : Nat := s.get (bEr + n * 8) Rg.ER_ROUTE.TARGET ||| fixedTargets n

/-- The base of word `w` of target `t`'s pending and mask registers. -/
def erBase (t w : Nat) : Nat := bEr + t * 0x40 + w * 8

/-- A pulse of source `n` set pending at target `t`. -/
def State.setPend (s : State) (t n : Nat) : State :=
  let b := erBase t (n / 64)
  s.set b Rg.ER_PEND.BITS (s.get b Rg.ER_PEND.BITS ||| 2 ^ (n % 64))

/-- Pending bits set at each of targets 0–4 whose bit is set. -/
def State.pendAll (s : State) (n tg : Nat) : Nat → State
  | 0 => s
  | t + 1 => let s' := s.pendAll n tg t
             if bitOf t tg then s'.setPend t n else s'

/-- A pulse of source `n` reaches the router: it is counted, pends at AC0–AC3 and MP as routed, and is forwarded to TP and
SS as routed (R531, R532). -/
def State.route (s : State) (n : Nat) : State :=
  let tg := s.targets n
  let s := (s.count (bEr + n * 4) Rg.ER_CNT.COUNT 1).pendAll n tg 5
  { s with toTp := if bitOf 5 tg then s.toTp ++ [n] else s.toTp,
           toSs := if bitOf 6 tg then s.toSs ++ [n] else s.toSs }

/-- Whether target `t` of AC0–AC3 and MP has its interrupt asserted: ER_PEND AND ER_MASK is not 0 (R531). -/
def State.irq (s : State) (t : Nat) : Bool :=
  (List.range 4).any (fun w => s.get (erBase t w) Rg.ER_PEND.BITS &&& s.get (erBase t w) Rg.ER_MASK.BITS != 0)

/-- EVENT_PULSE: a toggle on its way reaches the router. Without a toggle of that source under way nothing arrives. -/
def execEventPulse (ev : Nat) (s : State) : Host.Outcome State Fault Refusal :=
  if s.on .mgmt ∧ s.toggles.contains ev then
    .next ({ s with toggles := s.toggles.filter (· != ev) }.route ev)
  else .next s

/-- The masters that may write the other service blocks (R74); the host through R470. -/
def mayWriteService (s : State) (m : Master) : Bool :=
  match m with
  | .gauntlet | .mp | .ac0 | .ac1 | .ac2 | .ac3 => true
  | .jtag => s.debugFull
  | .host => s.flag bPcie Rg.PCIE_CFG.BAR0_WR
  | _ => false

/-- A write of an action register by a master that has the right, in a powered domain; a refused write has the outcome of
R576. -/
def State.actWrite (s : State) (m : Master) (ok : Bool) (d : Dom) (addr : Nat) (f : State → State) : State :=
  if !ok then
    if m = .host then (s.event 24 bPcie Rg.PCIE_EVT.HOST_VIOL).answer .ok 0 else s.violation m addr
  else if !s.on d then (s.accessEvent 0x063 m addr).answer .err 0
  else (f s).answer .ok 0

/-- A write of an action register of lane `lane` of the tile at `pos`: it does nothing where the lane is not enabled (R2,
R81, R576). -/
def State.tileWrite (s : State) (m : Master) (pos lane off : Nat) (f : State → State) : State :=
  s.actWrite m (mayWriteService s m) (domOf (islandOf pos)) (tileBase pos + off)
    (fun t => if lane < t.lanesAt pos then f t else t)

/-- The software pulse of ER_SWRAISE. -/
def State.swPulse (s : State) (n : Nat) : State := s.toggle (240 + n % 16)

/-- SW_RAISE: ER_SWRAISE pulses EV(240 + N). -/
def execSwRaise (m : Master) (n : Nat) (s : State) : Host.Outcome State Fault Refusal :=
  .next (s.actWrite m (mayWriteService s m) .mgmt (bEr + 0x10) (fun t => t.swPulse n))

/-! ### Records -/

/-- The base of RC_RATEc. -/
def rcRate (c : Nat) : Nat := bRc + c * 8

/-- RC_RATEc.RATE as it acts: 1 to 1,000 tokens a second. -/
def State.rcRateOf (s : State) (c : Nat) : Nat := min (max (s.get (rcRate c) Rg.RC_RATE.RATE) 1) 1000

/-- The capacity of a code's bucket in 1/1,000 token. -/
def State.rcCap (s : State) (c : Nat) : Nat := max (s.get (rcRate c) Rg.RC_RATE.BURST) 1 * 1000

/-- The content of a code's bucket; one that is not listed is full. -/
def State.bucket (s : State) (c : Nat) : Nat := lookupD (s.rcCap c) c s.log.buckets

/-- A code's bucket set. -/
def State.setBucket (s : State) (c v : Nat) : State := { s with log := { s.log with buckets := assocSet c v s.log.buckets } }

/-- A code's bucket with content `v` after a write of its RC_RATE: the content stands until the next refill (R537). -/
def State.keepBucket (s : State) (c v : Nat) : State :=
  if v = s.rcCap c then { s with log := { s.log with buckets := assocDel c s.log.buckets } } else s.setBucket c v

/-- The refill of the buckets for every whole millisecond that the device time scale has passed since the last one refilled; after
a backward step none until the scale passes it again (R537). -/
def State.refill (s : State) : State :=
  let m := s.nowNs / 1000000
  let n := m - s.log.ms
  if n = 0 then s
  else
    let up := s.log.buckets.map (fun p => (p.1, min (p.2 + n * s.rcRateOf p.1) (s.rcCap p.1)))
    { s with log := { s.log with ms := m, buckets := up.filter (fun p => p.2 != s.rcCap p.1) } }

/-- The records not yet flushed. -/
def Recorder.unflushed (r : Recorder) : Nat := (r.recs.filter (fun q => !q.flushed)).length

/-- The 60 bytes of a record before its CRC (R534). -/
def recHead (r : Rec) : List Byte :=
  leBytes 8 r.req.time ++ leBytes 2 (r.req.code + r.req.sev * 4096 + b2n r.req.tflag * 32768) ++
  leBytes 1 r.req.source ++ leBytes 1 r.req.origin ++ leBytes 4 r.seq ++ leBytes 2 r.suppr ++
  leBytes 1 (min r.req.data.length 40) ++ leBytes 1 (b2n r.loss) ++ padTo 40 r.req.data

/-- The 64 bytes of a record (R534). -/
def recBytes (r : Rec) : List Byte := recHead r ++ leBytes 4 (crc32c (recHead r))

/-- The value of RC_LOSS. -/
def State.rcLoss (s : State) : Nat :=
  s.get bRc Rg.RC_LOSS.FULL + s.get bRc Rg.RC_LOSS.FLUSH_BUSY * 2 ^ 16 + s.get bRc Rg.RC_LOSS.INPUT * 2 ^ 32 +
  s.get bRc Rg.RC_LOSS.OVERWRITTEN * 2 ^ 48

/-- A loss counted in one of RC_LOSS's counters, remembered for FLAGS.LOSS and shown in RC_EVT.LOSS (R539). -/
def State.lose (s : State) (f : Fld) : State :=
  { (s.count bRc f 1).event 17 bRc Rg.RC_EVT.LOSS with log := { s.log with loss := true } }

/-- Whether a record's place is free (R538). -/
def State.placeFree (s : State) (r : Rec) : Bool :=
  r.flushed && (!s.flag bRc Rg.RC_CTRL.ACK_EN || decide (r.seq ≤ s.log.acked))

/-- The SEQ of the record whose place a new record of a severity takes when all places are held: a free place first,
then the victims of R538; and whether an unflushed record is lost with it. -/
def State.victim (s : State) (sev : Nat) : Option (Nat × Bool) :=
  match s.log.recs.find? (fun r => s.placeFree r) with
  | some r => some (r.seq, false)
  | none =>
    match s.log.recs.find? (fun r => r.flushed && decide (r.req.sev ≤ sev) && r.req.sev != 4) with
    | some r => some (r.seq, false)
    | none => (s.log.recs.find? (fun r => !r.flushed && decide (r.req.sev ≤ sev) && r.req.sev != 4)).map
        (fun r => (r.seq, true))

/-- A record written into the recorder, if a place can be had (R538, R540). -/
def State.placeRec (s : State) (q : RecReq) (suppr : Nat) : Option State :=
  let put (t : State) : State :=
    let r : Rec := ⟨q, t.log.seq + 1, suppr, t.log.loss, false, t.nowNs⟩
    { t with log := { t.log with recs := t.log.recs ++ [r], seq := t.log.seq + 1, loss := false } }
  if s.log.recs.length < 32768 then some (put s)
  else match s.victim q.sev with
    | none => none
    | some (sq, lost) =>
      let t := { s with log := { s.log with recs := s.log.recs.filter (fun r => r.seq != sq) } }
      some (put (if lost then t.lose Rg.RC_LOSS.OVERWRITTEN else t))

/-- What an admission starts (R542): a CRITICAL record an emergency flush, 32 unflushed records a background flush. -/
def State.flushAfter (s : State) (sev : Nat) : State :=
  if sev = 4 then { s with log := { s.log with flush := .emergency } }
  else if s.log.flush = .none ∧ 32 ≤ s.log.unflushed then { s with log := { s.log with flush := .background } }
  else s

/-- The REC_LOSS record that precedes the first admission after losses (R539). -/
def State.lossRecord (s : State) : State :=
  if s.log.loss then
    ((s.placeRec ⟨s.now, 0x070, 2, !s.locked, 17, 0, leBytes 8 s.rcLoss, none⟩ 0).getD s)
  else s

/-- A request whose tokens have been taken: lost to the flush limit or for want of a place, or admitted (R538, R539).
The number is the outcome, as RC_SWk.STATUS gives it. -/
def State.admitPlace (s : State) (q : RecReq) : State × Nat :=
  if (if q.sev = 4 then 288 else 256) ≤ s.log.unflushed then (s.lose Rg.RC_LOSS.FLUSH_BUSY, 2)
  else if 32768 ≤ s.log.recs.length ∧ (s.victim q.sev).isNone then (s.lose Rg.RC_LOSS.FULL, 2)
  else
    let t := s.lossRecord
    match t.placeRec q (t.get (rcRate q.code) Rg.RC_RATE.SUPPR) with
    | none => (t.lose Rg.RC_LOSS.FULL, 2)
    | some u => ((u.set (rcRate q.code) Rg.RC_RATE.SUPPR 0).flushAfter q.sev, 0)

/-- A request admitted, suppressed or lost (R537–R539); the refill of a millisecond applies before it. -/
def State.takeReq (s : State) (q : RecReq) : State × Nat :=
  let s := s.refill
  let b := s.bucket q.code
  if b < 1000 ∧ q.sev ≠ 4 then (s.count (rcRate q.code) Rg.RC_RATE.SUPPR 1, 1)
  else (s.setBucket q.code (b - 1000)).admitPlace q

/-- The base of staging area `k`. -/
def rcSw (k : Nat) : Nat := bRc + k * 0x40

/-- The next waiting request handled, and its outcome shown in its staging area if software made it (R536). -/
def State.admitNext (s : State) : State :=
  match s.log.reqs with
  | [] => s
  | q :: t =>
    let r := { s with log := { s.log with reqs := t } }.takeReq q
    match q.sw with
    | some k => r.1.set (rcSw k) Rg.RC_SW_GO.STATUS r.2
    | none => r.1

/-- Every waiting request handled. -/
def State.admitAll : Nat → State → State
  | 0, s => s
  | n + 1, s => State.admitAll n s.admitNext

/-- RECORD_REQUEST: the oldest waiting request is admitted, suppressed or lost. -/
def execRecordRequest (s : State) : Host.Outcome State Fault Refusal :=
  if s.log.running then .next s.admitNext else .next s

/-- The master that owns a staging area (R65): 0 MP, 1 Gauntlet, 2–5 AC0–AC3. -/
def swOwner : Nat → Option Master
  | 0 => some .mp | 1 => some .gauntlet | 2 => some .ac0 | 3 => some .ac1 | 4 => some .ac2 | 5 => some .ac3
  | _ => none

/-- The data bytes of a staging area. -/
def State.swData (s : State) (k : Nat) : List Byte :=
  ((List.range 5).map (fun i => leBytes 8 (s.get (rcSw k + i * 8) Rg.RC_SW_DATA.DATA))).flatten

/-- GO of a staging area (R536): BAD for a code its owner may not use, DLEN above 40 or severity above 4; LOST when the
input queue is full; otherwise the record waits for admission. -/
def State.swGo (s : State) (k : Nat) : State :=
  let b := rcSw k
  let code := s.get b Rg.RC_SW_HDR.CODE
  let sev := s.get b Rg.RC_SW_HDR.SEV
  let dlen := s.get b Rg.RC_SW_HDR.DLEN
  if code = 0 ∨ (2 ≤ k ∧ code < 0x800) ∨ 40 < dlen ∨ 4 < sev then s.set b Rg.RC_SW_GO.STATUS 3
  else if 64 ≤ s.log.reqs.length then (s.lose Rg.RC_LOSS.INPUT).set b Rg.RC_SW_GO.STATUS 2
  else
    let q : RecReq := ⟨s.now, code, sev, !s.locked, 0xFF, k + 1, (s.swData k).take dlen, some k⟩
    { s with log := { s.log with reqs := s.log.reqs ++ [q] } }

/-- RECORD_GO: RC_SWk.GO written by the area's own master. -/
def execRecordGo (m : Master) (k : Nat) (s : State) : Host.Outcome State Fault Refusal :=
  .next (s.actWrite m (swOwner k == some m) .mgmt (rcSw k + 0x430) (fun t => t.swGo k))

/-- BUCKET_REFILL: a whole millisecond of the device time scale passes. -/
def execBucketRefill (s : State) : Host.Outcome State Fault Refusal :=
  if s.log.running then .next s.refill else .next s

/-- RC_ACK: every record up to SEQ is acknowledged (R538). -/
def State.ackTo (s : State) (seq : Nat) : State :=
  { s with log := { s.log with acked := max s.log.acked (seq % 2 ^ 32) } }

/-- RECORD_ACK. -/
def execRecordAck (m : Master) (seq : Nat) (s : State) : Host.Outcome State Fault Refusal :=
  .next (s.actWrite m (mayWriteService s m) .mgmt (bRc + 0x20) (fun t => t.ackTo seq))

/-- RECORD_SELECT: RC_SEL names the record shown in RC_REC0–RC_REC7 (R540). -/
def execRecordSelect (m : Master) (seq : Nat) (s : State) : Host.Outcome State Fault Refusal :=
  .next (s.actWrite m (mayWriteService s m) .mgmt (bRc + 0x28) (fun t => t.set bRc Rg.RC_SEL.SEQ seq))

/-- The record RC_SEL names, if it is held. -/
def State.selected (s : State) : Option Rec := s.log.recs.find? (fun r => r.seq == s.get bRc Rg.RC_SEL.SEQ)

/-- A background flush begins when records are unflushed and none runs. -/
def State.startFlush (s : State) : State :=
  if s.log.running ∧ s.log.flush = .none ∧ 0 < s.log.unflushed then
    { s with log := { s.log with flush := .background } }
  else s

/-- FLUSH_CMD: RC_CTRL.FLUSH. -/
def execFlushCmd (m : Master) (s : State) : Host.Outcome State Fault Refusal :=
  .next (s.actWrite m (mayWriteService s m) .mgmt (bRc + 0x08) State.startFlush)

/-- FLUSH_START (R542): 32 unflushed records, or 100 ms since the oldest was admitted. -/
def execFlushStart (s : State) : Host.Outcome State Fault Refusal :=
  let old := (s.log.recs.find? (fun r => !r.flushed)).any (fun r => decide (r.at_ + 100000000 ≤ s.nowNs))
  if 32 ≤ s.log.unflushed ∨ old then .next s.startFlush else .next s

/-- Starts an emergency flush (R542). -/
def State.startEmergency (s : State) : State :=
  if s.log.running then { s with log := { s.log with flush := .emergency } } else s

/-- EMERGENCY_FLUSH: its cause stands, an unflushed CRITICAL record or PFAIL_N asserted. -/
def execEmergencyFlush (s : State) : Host.Outcome State Fault Refusal :=
  if s.log.recs.any (fun r => !r.flushed && r.req.sev == 4) ∨ s.flag bMpc Rg.PWR_STAT.PFAIL then
    .next s.startEmergency
  else .next s

/-- The oldest `n` unflushed records marked flushed. -/
def markFlushed : Nat → List Rec → List Rec
  | _, [] => []
  | 0, l => l
  | n + 1, r :: t => if r.flushed then r :: markFlushed (n + 1) t else { r with flushed := true } :: markFlushed n t

/-- The ring moves on to the next block, whose successor must then be erased (R541). -/
def Recorder.nextBlock (r : Recorder) : Recorder :=
  { r with block := r.nxt, bseq := r.bseq + 1, place := 0, nxt := (r.nxt + 1) % 1024, erased := false }

/-- Records written into the block of the ring that is being filled; the first of a block writes its header (R541). -/
def Recorder.program (r : Recorder) (boots : Nat) (l : List Rec) : Recorder :=
  match l with
  | [] => r
  | q :: _ =>
    let b : RingBlock := if r.place = 0 then ⟨r.block, r.bseq, q.seq, boots, []⟩
      else (r.ring.find? (fun b => b.block == r.block)).getD ⟨r.block, r.bseq, q.seq, boots, []⟩
    { r with ring := r.ring.filter (fun b => b.block != r.block) ++ [{ b with recs := b.recs ++ l.map recBytes }] }

/-- One page of the flush programmed: the records that fit the page are flushed (R541, R542). When none remains and no
power-fail flush awaits its read-back, the flush is over. -/
def Recorder.pageDone (r : Recorder) (boots : Nat) : Recorder :=
  let r : Recorder := if 1023 ≤ r.place then r.nextBlock else r
  let n := min (min (4 - (r.place + 1) % 4) r.unflushed) (1023 - r.place)
  let w : Recorder := r.program boots ((r.recs.filter (fun q => !q.flushed)).take n)
  let w : Recorder := { w with recs := markFlushed n r.recs, place := r.place + n }
  if w.unflushed = 0 ∧ !w.pfail then { w with flush := .none } else w

/-- FLUSH_WRITE_DONE: a page program of the flush ends; a failed program skips the block (RC_EVT.FLASH_ERR). -/
def execFlushWriteDone (ok : Bool) (s : State) : Host.Outcome State Fault Refusal :=
  if s.log.flush = .none then .next s
  else if ok then .next { s with log := s.log.pageDone s.sec.boots }
  else
    let t := (s.event 17 bRc Rg.RC_EVT.FLASH_ERR).toggle 27
    .next { t with log := t.log.nextBlock }

/-- PFAIL_ASSERT (R543): PFAIL is set, a PFAIL record admitted, and every unflushed record is written ahead of all else. -/
def execPfailAssert (s : State) : Host.Outcome State Fault Refusal :=
  let t := s.setB bMpc Rg.PWR_STAT.PFAIL true
  if s.log.running then
    let u := (t.set bRc Rg.RC_STAT.PF_DONE 0).startEmergency
    let u := { u with log := { u.log with pfail := true } }
    .next (u.takeReq ⟨u.now, 0x079, 2, !u.locked, 0, 0, leBytes 2 u.log.unflushed, none⟩).1
  else .next t

/-- PFAIL_DEASSERT (R543): background flushing resumes; PF_DONE keeps its value and no reset follows. -/
def execPfailDeassert (s : State) : Host.Outcome State Fault Refusal :=
  let t := s.setB bMpc Rg.PWR_STAT.PFAIL false
  let f := if t.log.flush = .none ∨ t.log.unflushed = 0 then Flush.none else Flush.background
  .next { t with log := { t.log with pfail := false, flush := f } }

/-- PF_FLUSH_DONE (R543, step 4): the last record has been written and its position read back. -/
def execPfFlushDone (s : State) : Host.Outcome State Fault Refusal :=
  if s.log.pfail ∧ s.log.unflushed = 0 then
    let t := (s.set bRc Rg.RC_STAT.PF_DONE 1).event 17 bRc Rg.RC_EVT.PF_DONE
    .next { t with log := { t.log with flush := .none } }
  else .next s

/-- RING_ERASE_DONE: the block after the one being written is erased; a failed erase skips that block. -/
def execRingEraseDone (ok : Bool) (s : State) : Host.Outcome State Fault Refusal :=
  if s.log.erased then .next s
  else if ok then .next { s with log := { s.log with erased := true, ring := s.log.ring.filter (fun b => b.block != s.log.nxt) } }
  else
    let t := (s.event 17 bRc Rg.RC_EVT.FLASH_ERR).toggle 27
    .next { t with log := { t.log with nxt := (t.log.nxt + 1) % 1024 } }

end Sys2Proof.Machine
end

