-- ==== Sys2Proof/Machine/Memory.lean ====
section
/-! DEFINITION. Stage memory and DDR: the regions (R28, R22), the memory code and poison (R489–R491), the patrol scrubs
(R492, R493) and the injection of errors. -/

namespace Sys2Proof.Machine

/-- What an address of the memory space names: a byte of a stage-memory half (h = column × 2 + half), or of DDR. -/
inductive Region where
  | stage (h off : Nat) | ddr (off : Nat) | other
  deriving DecidableEq, Repr

/-- The first byte of stage memory. -/
def stageBase : Nat := 0x1000_0000
/-- The size of a stage-memory half. -/
def halfSize : Nat := 0x18_0000
/-- The first byte of DDR. -/
def ddrBase : Nat := 0x1_0000_0000

/-- The region of an address (R28 and the address map). -/
def regionOf (a : Nat) : Region :=
  if stageBase ≤ a ∧ a < stageBase + 16 * halfSize then .stage ((a - stageBase) / halfSize) ((a - stageBase) % halfSize)
  else if ddrBase ≤ a ∧ a < 0x5_0000_0000 then .ddr (a - ddrBase)
  else .other

/-- The domain of stage-memory half `h` (R28). -/
def halfDom (h : Nat) : Dom := if h % 2 = 0 then .fa else .fb

/-- The fitted DDR size in bytes (R488). -/
def State.ddrSize (s : State) : Nat := 4 * 2 ^ 30 * 2 ^ (min (s.get bDdr Rg.DDR_CFG.SIZE) 2)

/-- Why an access to memory does not reach it. -/
inductive MemFault where
  | addr | stageOff | domainOff
  deriving DecidableEq, Repr

/-- The fault of an access of `n` bytes at `a`, in the order of R576; none when the memory takes it. DDR answers while IO is
powered and its training has passed. -/
def State.memFault (s : State) (a n : Nat) : Option MemFault :=
  match regionOf a, regionOf (a + (n - 1)) with
  | .stage h _, .stage k _ =>
    if !s.on (halfDom h) || !s.on (halfDom k) then some .stageOff else none
  | .ddr _, .ddr j =>
    if s.ddrSize ≤ j then some .addr
    else if !s.on .io || !s.flag bDdr Rg.DDR_STAT.TRAINED then some .domainOff else none
  | _, _ => some .addr

/-- A corrected error at word `w` (R489): counted, dated by its address, and MEM_CE raised. -/
def State.memCE (s : State) (w : Nat) : State :=
  let a := w * 8
  let s := match regionOf a with
    | .stage h off =>
      let b := bDdr + h * 8
      ((s.count b Rg.SM_ECC.CE 1).sets b [(Rg.SM_ECC.LAST, off), (Rg.SM_ECC.LAST_UE, 0)]).event 19 bDdr Rg.DDR_EVT.SM_CE
    | _ => ((s.count bDdr Rg.DDR_ECC.CE 1).set bDdr Rg.DDR_CE_ADDR.ADDR a).event 19 bDdr Rg.DDR_EVT.CE
  s.record 0x040 1 19 (leBytes 8 (a % 2 ^ 40))

/-- An uncorrectable error at word `w` (R489): counted, and MEM_UE raised. -/
def State.memUE (s : State) (w : Nat) : State :=
  let a := w * 8
  let s := match regionOf a with
    | .stage h off =>
      let b := bDdr + h * 8
      ((s.count b Rg.SM_ECC.UE 1).sets b [(Rg.SM_ECC.LAST, off), (Rg.SM_ECC.LAST_UE, 1)]).event 19 bDdr Rg.DDR_EVT.SM_UE
    | _ => ((s.count bDdr Rg.DDR_ECC.UE 1).set bDdr Rg.DDR_UE_ADDR.ADDR a).event 19 bDdr Rg.DDR_EVT.UE
  s.record 0x041 3 19 (leBytes 8 (a % 2 ^ 40))

/-- Whether word `w` holds P 1. -/
def State.poisoned (s : State) (w : Nat) : Bool := s.poison.any (fun p => p.1 == w)

/-- Word `w` marked with P 1. -/
def State.setPoison (s : State) (w : Nat) : State := { s with poison := assocSet w () s.poison, flips := assocDel w s.flips }

/-- Word `w` stored without error and with P 0. -/
def State.clean (s : State) (w : Nat) : State := { s with poison := assocDel w s.poison, flips := assocDel w s.flips }

/-- A read of word `w` classified (R489): whether data are returned; a poisoned word returns none. -/
def State.readWord (s : State) (w : Nat) : State × Bool :=
  let n := lookupD 0 w s.flips
  if 3 ≤ n then ((s.setPoison w).memUE w, false)
  else if s.poisoned w then
    (match regionOf (w * 8) with
     | .ddr _ => s.count bDdr Rg.DDR_ECC.POISON_RD 1
     | _ => s, false)
  else if n = 0 then (s, true)
  else
    let u := s.memCE w
    (if s.flag bDdr Rg.DDR_CFG.CE_WB then { u with flips := assocDel w u.flips } else u, true)

/-- Reads of `n` words from word `w` on. -/
def readWords : Nat → Nat → State → State × Bool
  | 0, _, s => (s, true)
  | n + 1, w, s =>
    let r := s.readWord w
    let q := readWords n (w + 1) r.1
    (q.1, r.2 && q.2)

/-- The number of words that `n` bytes at `a` touch. -/
def wordsOf (a n : Nat) : Nat := if n = 0 then 0 else (a + n - 1) / 8 - a / 8 + 1

/-- A read of `n` bytes at `a`: the bytes, or none when a word is returned poisoned (R490). -/
def State.memRead (s : State) (a n : Nat) : State × Option (List Byte) :=
  let r := readWords (wordsOf a n) (a / 8) s
  (r.1, if r.2 then some (r.1.bytes a n) else none)

/-- What an armed DDR_INJ does to the full write of word `w`. -/
def State.inject (s : State) (w : Nat) : State :=
  if s.flag bDdr Rg.DDR_INJ.ARMED ∧ s.get bDdr Rg.DDR_INJ.ADDR / 8 = w then
    let t := s.set bDdr Rg.DDR_INJ.ARMED 0
    let t := if s.get bDdr Rg.DDR_INJ.BITS = 0 then t
             else { t with flips := assocSet w (s.get bDdr Rg.DDR_INJ.BITS) t.flips }
    if s.flag bDdr Rg.DDR_INJ.POISON then { t with poison := assocSet w () t.poison } else t
  else s

/-- A write within one word (R491): all 8 bytes set P 0; fewer are a read-modify-write, not applied when the word reads
poisoned or uncorrectable. -/
def State.writeWord (s : State) (a : Nat) (l : List Byte) : State × Bool :=
  let w := a / 8
  if l.length = 8 then (((s.clean w).store a l).inject w, true)
  else
    let r := s.readWord w
    if r.2 then ((r.1.clean w).store a l, true) else (r.1, false)

/-- A write of bytes from `a` on, word by word; whether every word took it. -/
def memWriteN : Nat → Nat → List Byte → State → State × Bool
  | 0, _, _, s => (s, true)
  | f + 1, a, l, s =>
    match l with
    | [] => (s, true)
    | _ =>
      let n := 8 - a % 8
      let r := s.writeWord a (l.take n)
      let q := memWriteN f (a + n) (l.drop n) r.1
      (q.1, r.2 && q.2)

/-- A write of bytes from `a` on. -/
def State.memWrite (s : State) (a : Nat) (l : List Byte) : State × Bool := memWriteN l.length a l s

/-- The words of a write marked with P 1: a write that carries poison (R471, R491). -/
def poisonWords : Nat → Nat → State → State
  | 0, _, s => s
  | n + 1, w, s => poisonWords n (w + 1) (s.setPoison w)

/-- A write that carries poison. -/
def State.memPoison (s : State) (a : Nat) (l : List Byte) : State := poisonWords (wordsOf a l.length) (a / 8) (s.store a l)

/-- A tile drops what needed a poisoned word and raises MEM_POISON (R490). -/
def State.poisonDrop (s : State) (pos a : Nat) : State := s.record 0x042 3 19 (leBytes 1 pos ++ leBytes 8 a)

/-- Bits found in error since the word was stored (the word's soft errors). -/
def State.upset (s : State) (l : List (Nat × Nat)) : State :=
  { s with flips := l.foldl (fun f p => if p.2 = 0 then f else assocSet p.1 (lookupD 0 p.1 f + p.2) f) s.flips }

/-- The time of one line of the DDR scrub in 2^-28 ns: SCRUB_H hours over the lines of the fitted size (R492). -/
def State.scrubLine (s : State) : Nat :=
  min (max (s.get bDdr Rg.DDR_CFG.SCRUB_H) 1) 168 * 3600000000000 * 2 ^ 34 / s.ddrSize

/-- DDR_SCRUB_LINE: the next line of the patrol scrub is read and classified (R492). `ups` are words of the line that have
come to hold bits in error, as word offset in the line and number of bits. A line is not read before its time. -/
def execDdrScrubLine (ups : List (Nat × Nat)) (s : State) : Host.Outcome State Fault Refusal :=
  let now := s.nowNs * 2 ^ 28
  if s.on .io ∧ s.flag bDdr Rg.DDR_STAT.TRAINED ∧ s.flag bDdr Rg.DDR_CFG.SCRUB_EN ∧ s.scrub.ddr ≤ now then
    let s := { s with scrub := { s.scrub with ddr := max s.scrub.ddr (now - s.scrubLine) + s.scrubLine } }
    let line := s.get bDdr Rg.DDR_SCRUB.LINE
    let w := ddrBase / 8 + line * 8
    let t := s.upset ((ups.filter (fun p => p.1 < 8)).map (fun p => (w + p.1, p.2)))
    let t := (readWords 8 w t).1
    if s.ddrSize ≤ (line + 1) * 64 then
      let n := (t.get bDdr Rg.DDR_SCRUB.PASSES + 1) % 2 ^ 32
      .next ((t.sets bDdr [(Rg.DDR_SCRUB.LINE, 0), (Rg.DDR_SCRUB.PASSES, n)]).event 19 bDdr Rg.DDR_EVT.PASS)
    else .next (t.set bDdr Rg.DDR_SCRUB.LINE (line + 1))
  else .next s

/-- STAGE_SCRUB: the scrub of half `h` reads and classifies its next word, which has come to hold `bitsBad` bits in error; a pass
starts 10 min after the one before it (R493). -/
def execStageScrub (h bitsBad : Nat) (s : State) : Host.Outcome State Fault Refusal :=
  let p := lookupD (0, 0) h s.scrub.half
  if h < 16 ∧ s.on (halfDom h) ∧ (p.1 ≠ 0 ∨ p.2 = 0 ∨ p.2 + 600000000000 ≤ s.nowNs) then
    let w := (stageBase + h * halfSize) / 8 + p.1
    let q := ((p.1 + 1) % (halfSize / 8), if p.1 = 0 then s.nowNs else p.2)
    .next (({ s with scrub := { s.scrub with half := assocSet h q s.scrub.half } }.upset [(w, bitsBad)]).readWord w).1
  else .next s

/-- The scrubs' instants at a change of the scale's label. -/
def State.scrubShift (s : State) (off : Int) : State :=
  let half := s.scrub.half.map (fun p : Nat × Nat × Nat => (p.1, p.2.1, ((p.2.2 : Int) + off).toNat))
  { s with scrub := ⟨((s.scrub.ddr : Int) + off * 2 ^ 28).toNat, half⟩ }

/-- A DDR_INJ value taken: the injection waits for the next full write at its address. -/
def State.armInject (s : State) (v : Nat) : State :=
  s.sets bDdr [(Rg.DDR_INJ.ADDR, bits 0 40 v), (Rg.DDR_INJ.BITS, bits 40 2 v), (Rg.DDR_INJ.POISON, bits 42 1 v),
    (Rg.DDR_INJ.ARMED, 1)]

/-- Whether a master may write DDR_INJ: MP and Gauntlet, only in MAINTENANCE; a JTAG master at FULL has Gauntlet's rights. -/
def mayInject (s : State) (m : Master) : Bool :=
  (m == .mp || m == .gauntlet || (m == .jtag && s.debugFull)) && decide (s.mode = .maintenance)

/-- DDR_INJECT: a write of DDR_INJ; any other than those allowed is ignored and raises ACCESS_VIOL. -/
def execDdrInject (m : Master) (v : Nat) (s : State) : Host.Outcome State Fault Refusal :=
  .next (s.actWrite m (mayInject s m) .io (bDdr + 0x38) (fun t => t.armInject v))

/-- The contents of a stage-memory half are lost with its domain and read as zeros when it is powered again (R30, R493). -/
def State.loseHalf (s : State) (h : Nat) : State :=
  let inHalf := fun a => decide (stageBase + h * halfSize ≤ a ∧ a < stageBase + (h + 1) * halfSize)
  { s with mem := s.mem.filter (fun c => !inHalf c.1), poison := s.poison.filter (fun c => !inHalf (c.1 * 8)),
           flips := s.flips.filter (fun c => !inHalf (c.1 * 8)) }

/-- The contents of DDR are lost (R488). -/
def State.loseDdr (s : State) : State :=
  { s with mem := s.mem.filter (fun c => decide (c.1 < ddrBase)), poison := s.poison.filter (fun c => decide (c.1 * 8 < ddrBase)),
           flips := s.flips.filter (fun c => decide (c.1 * 8 < ddrBase)) }

end Sys2Proof.Machine
end

