-- ==== Sys2Proof/Machine/Dispatcher.lean ====
section
/-! DEFINITION. The dispatcher (R54–R69, R89). -/

namespace Sys2Proof.Machine

/-- The base of port `p`'s registers. -/
def portBase (p : Nat) : Nat := bDsp + p * 0x40

/-- The agent that owns a port (R65). -/
def portAgent : Nat → Option Master
  | 0 => some .ac0 | 1 => some .ac1 | 2 => some .ac2 | 3 => some .ac3 | 4 => some .mp | 5 => some .tp | _ => none

/-- The handle of an entry (R54). -/
def Entry.handle (e : Entry) : Nat := e.idx + e.gen * 2 ^ 14

/-- The live entry a handle names. -/
def Disp.find (d : Disp) (h : Nat) : Option Entry := d.entries.find? (fun e => e.handle == h)

/-- An entry replaced. -/
def Disp.put (d : Disp) (e : Entry) : Disp :=
  { d with entries := d.entries.map (fun x => if x.idx = e.idx then e else x) }

/-- The assignment of a flow: unassigned flows of a loaded table read CONSUMER 0x7E (R89). -/
def Disp.flowOf (d : Disp) (f : Nat) : FlowRec :=
  match d.flows.find? (fun r => r.flow == f) with
  | some r => r
  | none => ⟨f, 0, if d.loaded then 0x7E else 0, 0, 0⟩

/-- Whether a flow is assigned. -/
def Disp.assigned (d : Disp) (f : Nat) : Bool := d.flows.any (fun r => r.flow == f && r.consumer != 0x7E)

/-- Extension entries a predecessor holds (R56): 4 links inline, then one entry for each further 6. -/
def extOf (links : Nat) : Nat := (links - 4 + 5) / 6

/-- Entries of a partition in use, extension entries included. -/
def Disp.used (d : Disp) (part : Nat) : Nat :=
  (d.entries.filter (fun e => e.part == part)).length + (if part = 0 then d.extP else d.extF)

/-- The size of a partition (R54). -/
def partSize (part : Nat) : Nat := if part = 0 then 12288 else 4096

/-- Free entries of a partition. -/
def Disp.freeCount (d : Disp) (part : Nat) : Nat := partSize part - d.used part

/-- Entries in service, of one partition or of both. -/
def Disp.inserv (d : Disp) (part : Option Nat) : Nat :=
  (d.entries.filter (fun e => e.st == .inService && (part.isNone || part == some e.part))).length

/-- The least entry index of a partition that no live entry has. -/
def Disp.freeIdx (d : Disp) (part : Nat) : Nat :=
  let start := if part = 0 then 0 else 12288
  start + ((List.range (d.entries.length + 1)).find? (fun i => !d.entries.any (fun e => e.idx == start + i))).getD 0

/-- An entry freed: its generation increments, its extension entries return, its successors are its caller's business. -/
def Disp.free (d : Disp) (e : Entry) : Disp :=
  { d with entries := d.entries.filter (fun x => x.idx != e.idx),
           gens := assocSet e.idx ((e.gen + 1) % 256) d.gens,
           extP := if e.part = 0 then d.extP - extOf e.succ.length else d.extP,
           extF := if e.part = 0 then d.extF else d.extF - extOf e.succ.length }

/-- The pool of a partition is empty: the push-back bit (R60). -/
def State.busyPool (s : State) (part : Nat) : State :=
  s.event 10 bDsp (if part = 0 then Rg.DSP_EVT.BUSY_P else Rg.DSP_EVT.BUSY_F)

/-- The low-water bit when the free count has just fallen below its mark (R60). -/
def State.lowMark (s : State) (before : Disp) (part : Nat) : State :=
  let lw := s.get bDsp (if part = 0 then Rg.DSP_LOWWATER.LW_P else Rg.DSP_LOWWATER.LW_F)
  if s.disp.freeCount part < lw ∧ lw ≤ before.freeCount part then
    s.event 10 bDsp (if part = 0 then Rg.DSP_EVT.LOW_P else Rg.DSP_EVT.LOW_F)
  else s

/-- An entry made ready: it joins the ready list of its priority behind those before it (R55). -/
def Disp.makeReady (d : Disp) (e : Entry) : Disp := { d.put { e with st := .ready, seq := d.seq } with seq := d.seq + 1 }

/-- A new entry in a partition, held with counter 1 or ready with counter 0 (R66); none when the pool is empty. -/
def State.create (s : State) (part flow prio tag : Nat) (hold : Bool) (owner : Option Nat) (item : Option (Nat × List Nat)) :
    Option (State × Nat) :=
  if s.disp.freeCount part = 0 then none
  else
    let i := s.disp.freeIdx part
    let e : Entry := ⟨i, lookupD 0 i s.disp.gens, part, flow, prio, tag, if hold then 1 else 0, hold, false, .waiting, 0,
      none, [], owner, none, 0, item⟩
    let d := { s.disp with entries := s.disp.entries ++ [e] }
    let d := if hold then d else d.makeReady e
    some (({ s with disp := d }).lowMark s.disp part, e.handle)

/-- The status codes of PORT_RES. -/
def stOk : Nat := 0
/-- BUSY. -/
def stBusy : Nat := 1
/-- BAD_FLOW. -/
def stBadFlow : Nat := 2
/-- STALE. -/
def stStale : Nat := 3
/-- DEP_OVF. -/
def stDepOvf : Nat := 4
/-- IN_SERVICE. -/
def stInService : Nat := 5
/-- BAD_OP. -/
def stBadOp : Nat := 6
/-- NOT_INSTANCED. -/
def stNotInst : Nat := 7
/-- NOT_OWNER. -/
def stNotOwner : Nat := 8
/-- NOT_HELD. -/
def stNotHeld : Nat := 9

/-- SUBMIT with the descriptor of port `p` (R60, R66, R89). -/
def State.doSubmit (s : State) (p : Nat) : State × Nat × Option Nat :=
  let b := portBase p
  let flow := s.get b Rg.PORT_DESC.FLOW
  let part := s.get b Rg.PORT_DESC.PART
  let r := s.disp.flowOf flow
  if !s.disp.assigned flow ∨ r.part ≠ part ∨ (r.consumer = 0x7F ∧ 5 < r.agent) then (s, stBadFlow, none)
  else if r.consumer ≠ 0x7F ∧ s.lanesAt r.consumer ≤ r.lane then (s, stNotInst, none)
  else match s.create part flow (s.get b Rg.PORT_DESC.PRIO) (s.get b Rg.PORT_DESC.TAG)
      (s.flag b Rg.PORT_DESC.HOLD) (some p) none with
    | none => (s.busyPool part, stBusy, none)
    | some (t, h) => (t, stOk, some h)

/-- ADD_DEP (R54–R56, R60, R66). With the pool of the target's partition empty, or that of the predecessor without the extension
entry that the link needs, it is BUSY. -/
def State.doAddDep (s : State) (h pred : Nat) : State × Nat × Option Nat :=
  match s.disp.find h with
  | none => (s, stStale, none)
  | some e =>
    if !e.held then (s, stNotHeld, none)
    else if s.disp.freeCount e.part = 0 then (s.busyPool e.part, stBusy, none)
    else match s.disp.find pred with
      | none => (s, stOk, none)
      | some q =>
        if 4095 ≤ e.counter then (s, stDepOvf, none)
        else
          let more := extOf (q.succ.length + 1) - extOf q.succ.length
          if s.disp.freeCount q.part < more then (s.busyPool q.part, stBusy, none)
          else
            let d := s.disp.put { e with counter := e.counter + 1 }
            let q' := (d.find pred).getD q
            let d := d.put { q' with succ := q'.succ ++ [h] }
            let d := if q.part = 0 then { d with extP := d.extP + more } else { d with extF := d.extF + more }
            (({ s with disp := d }).lowMark s.disp q.part, stOk, none)

/-- `n` taken off a waiting entry's counter; at 0 it becomes ready (R55). -/
def Disp.lowerBy (d : Disp) (n : Nat) (e : Entry) : Disp :=
  if e.counter ≤ n then d.makeReady { e with counter := 0 } else d.put { e with counter := e.counter - n }

/-- One taken off a waiting entry's counter. -/
def Disp.lower (d : Disp) (e : Entry) : Disp := d.lowerBy 1 e

/-- RELEASE removes the hold (R66), and with it the counts that predecessors cancelled without RELEASE_DEPENDENTS have left on the
entry, which only software can remove (R63). -/
def State.doRelease (s : State) (h : Nat) : State × Nat × Option Nat :=
  match s.disp.find h with
  | none => (s, stStale, none)
  | some e =>
    if !e.held ∧ e.lost = 0 then (s, stNotHeld, none)
    else ({ s with disp := s.disp.lowerBy (b2n e.held + e.lost) { e with held := false, lost := 0 } }, stOk, none)

/-- A slot of a link's ring goes back to its producer (R86). -/
def State.freeSlot (s : State) (id slot : Nat) : State :=
  { s with links := s.links.map (fun l => if l.rc.id = id then { l with busy := l.busy.erase slot } else l) }

/-- The ring slot that an ended entry refers to goes back to its producer (R86). -/
def State.freeRing (s : State) (e : Entry) : State :=
  match e.ring with
  | none => s
  | some r => s.freeSlot r.1 r.2

/-! ### Slots of a concentration's buffer (R308) -/

/-- The base of ALN instance `i`. -/
def atBase (i : Nat) : Nat := kindBase .aln i
/-- The base of concentration `n`'s registers in ALN instance `i`. -/
def acBase (i n : Nat) : Nat := atBase i + n * 0x40
/-- The alignment record replaced. -/
def State.setAln (s : State) (a : Align) : State := { s with align := a }
/-- A running concentration. -/
def State.conc (s : State) (n : Nat) : Option Conc := s.align.concs.find? (fun c => c.n == n)
/-- A concentration's record replaced. -/
def State.setConc (s : State) (c : Conc) : State :=
  s.setAln { s.align with concs := s.align.concs.map (fun d => if d.n = c.n then c else d) }

/-- The slots of a concentration's buffer. -/
def State.slotCount (s : State) (c : Conc) : Nat := min (s.get (acBase c.home c.n) Rg.AC_BUF.NSLOT) 256

/-- AC_STAT.FREE shown. -/
def State.showFree (s : State) (n : Nat) : State :=
  match s.conc n with
  | none => s
  | some c => s.set (acBase c.home n) Rg.AC_STAT.FREE (s.slotCount c - c.slots.length)

/-- One release of a slot of concentration `n`; the last returns it to the pool. -/
def State.slotRelease (s : State) (n slot : Nat) : State :=
  match s.conc n with
  | none => s
  | some c =>
    let k := lookupD 0 slot c.slots
    if k = 0 then s
    else if k = 1 then (s.setConc { c with slots := c.slots.filter (fun p => p.1 != slot) }).showFree n
    else s.setConc { c with slots := c.slots.map (fun p => if p.1 = slot then (slot, k - 1) else p) }

/-- The slot that a bucket's item names is released when the agent completes the entry it came in. -/
def State.freeBucket (s : State) (e : Entry) : State :=
  match e.item with
  | some (0x54, w :: _) => s.slotRelease (bits 8 4 w) (bits 0 8 w)
  | _ => s

/-- A hardware producer's entry on an assigned flow, in the flow's partition (R60). With the pool empty the push-back bit is
set and the producer waits at its submit port. -/
def State.hwSubmit (s : State) (flow prio tag : Nat) (item : Option (Nat × List Nat)) : State :=
  if !s.on .mgmt ∨ !s.disp.assigned flow then s
  else
    let part := (s.disp.flowOf flow).part
    match s.create part flow (prio % 8) (tag % 2 ^ 32) false none item with
    | none => { s.busyPool part with disp := { s.disp with hwq := s.disp.hwq ++ [⟨flow, prio, tag, item⟩] } }
    | some (t, _) => t

/-- The producer that has waited longest for a pool with a free entry submits, when an entry has been freed. -/
def State.hwRetry (s : State) : State :=
  match s.disp.hwq.find? (fun w => s.disp.freeCount (s.disp.flowOf w.flow).part != 0) with
  | none => s
  | some w => { s with disp := { s.disp with hwq := s.disp.hwq.erase w } }.hwSubmit w.flow w.prio w.tag w.item

/-- One predecessor of an entry is gone for good: its count stays until software releases the entry (R63). -/
def Disp.lose (d : Disp) (h : Nat) : Disp :=
  match d.find h with
  | none => d
  | some e => d.put { e with lost := e.lost + 1 }

/-- CANCEL (R61–R64). `same` says that the entry was made ready in this dispatcher cycle. PORT_RES has no code CANCELLED: the port
shows OK (DESIGN CHOICE, log entry 20). -/
def State.doCancel (s : State) (h : Nat) (rel same : Bool) : State × Nat × Option Nat :=
  match s.disp.find h with
  | none => (s, stStale, none)
  | some e =>
    if e.st = .inService then (s, stInService, none)
    else
      let d := s.disp.free e
      let d := if rel then { d with work := d.work ++ e.succ.map (fun x => (x, true)) } else e.succ.foldl Disp.lose d
      let t := { s with disp := d }.freeRing e
      ((t.eventIf (same && e.st == .ready) 10 bDsp Rg.DSP_EVT.CANCEL_WON).hwRetry, stOk, none)

/-- An entry in service completes: it is freed and its successors are queued for their decrements, in link order (R56). An entry
that its agent has not taken leaves the agent's queue too (DESIGN CHOICE, log entry 20). -/
def Disp.finish (d : Disp) (e : Entry) : Disp :=
  let d := d.free e
  { d with work := d.work ++ e.succ.map (fun x => (x, false)),
           queues := d.queues.map (fun q => q.filter (· != e.handle)) }

/-- COMPLETE from agent `p` (R69). -/
def State.doComplete (s : State) (p h : Nat) : State × Nat × Option Nat :=
  match s.disp.find h with
  | none => (s, stStale, none)
  | some e =>
    if e.st ≠ .inService then (s, stStale, none)
    else if e.agent ≠ some p then (s, stNotOwner, none)
    else ((({ s with disp := s.disp.finish e }.freeRing e).freeBucket e).hwRetry, stOk, none)

/-- TAKE advances agent `p`'s dispatch queue (R69). -/
def State.doTake (s : State) (p : Nat) : State × Nat × Option Nat :=
  let q := (s.disp.queues.getD p []).tail
  ({ s with disp := { s.disp with queues := listSet s.disp.queues p q } }, stOk, none)

/-- A port operation of R65–R67: accepted from the port's own agent unless the port is PENDING; the status and the handle
wait for PORT_OP_DONE, the event bits of R54 and R66 do not. -/
def State.portOp (s : State) (m : Master) (p : Nat) (f : State → State × Nat × Option Nat) : State :=
  s.actWrite m (portAgent p == some m) .mgmt (portBase p + 0x108) (fun s =>
    if s.get (portBase p) Rg.PORT_RES.STATUS = 0xF then s
    else
      let r := f s
      let t := r.1.eventIf (r.2.1 == stStale) 10 bDsp Rg.DSP_EVT.STALE
      let t := t.eventIf (r.2.1 == stDepOvf) 10 bDsp Rg.DSP_EVT.DEP_OVF
      let t := t.set (portBase p) Rg.PORT_RES.STATUS 0xF
      { t with disp := { t.disp with pend := t.disp.pend ++ [⟨p, r.2.1, r.2.2⟩] } })

/-- SUBMIT. -/
def execSubmit (m : Master) (port : Nat) (s : State) : Host.Outcome State Fault Refusal :=
  .next (s.portOp m port (fun t => t.doSubmit port))

/-- ADD_DEP. -/
def execAddDep (m : Master) (port handle pred : Nat) (s : State) : Host.Outcome State Fault Refusal :=
  .next (s.portOp m port (fun t => t.doAddDep handle pred))

/-- RELEASE. -/
def execRelease (m : Master) (port handle : Nat) (s : State) : Host.Outcome State Fault Refusal :=
  .next (s.portOp m port (fun t => t.doRelease handle))

/-- CANCEL. -/
def execCancel (m : Master) (port handle : Nat) (relDeps sameCycle : Bool) (s : State) :
    Host.Outcome State Fault Refusal :=
  .next (s.portOp m port (fun t => t.doCancel handle relDeps sameCycle))

/-- COMPLETE. -/
def execComplete (m : Master) (port handle : Nat) (s : State) : Host.Outcome State Fault Refusal :=
  .next (s.portOp m port (fun t => t.doComplete port handle))

/-- TAKE. -/
def execTake (m : Master) (port : Nat) (s : State) : Host.Outcome State Fault Refusal :=
  .next (s.portOp m port (fun t => t.doTake port))

/-- BAD_OP: OP 6 or 7. -/
def execBadOp (m : Master) (port op : Nat) (s : State) : Host.Outcome State Fault Refusal :=
  if op = 6 ∨ op = 7 then .next (s.portOp m port (fun t => (t, stBadOp, none))) else .next s

/-- A PORT_OP value written: the operation its OP field names. -/
def State.portOpWrite (s : State) (m : Master) (p v : Nat) : State :=
  let h := bits 4 22 v
  match bits 0 3 v with
  | 0 => s.portOp m p (fun t => t.doSubmit p)
  | 1 => s.portOp m p (fun t => t.doAddDep h (bits 26 22 v))
  | 2 => s.portOp m p (fun t => t.doRelease h)
  | 3 => s.portOp m p (fun t => t.doCancel h (bitOf 3 v) false)
  | 4 => s.portOp m p (fun t => t.doComplete p h)
  | 5 => s.portOp m p (fun t => t.doTake p)
  | _ => s.portOp m p (fun t => (t, stBadOp, none))

/-- PORT_OP_DONE: PORT_RES leaves PENDING with the operation's outcome; a handle is shown for a SUBMIT that made one. -/
def execPortOpDone (port : Nat) (s : State) : Host.Outcome State Fault Refusal :=
  match s.disp.pend.find? (fun r => r.port == port) with
  | none => .next s
  | some r =>
    let t := { s with disp := { s.disp with pend := s.disp.pend.erase r } }
    let t := t.set (portBase port) Rg.PORT_RES.STATUS r.status
    .next (match r.handle with | some h => t.set (portBase port) Rg.PORT_RES.HANDLE h | none => t)

/-- HW_SUBMIT. -/
def execHwSubmit (flow prio tag : Nat) (s : State) : Host.Outcome State Fault Refusal := .next (s.hwSubmit flow prio tag none)

/-- The entry with a handle completed by the tile that serves it (R56). -/
def State.tileDone (s : State) (h : Nat) : State :=
  match s.disp.find h with
  | some e => if e.st = .inService ∧ e.agent = none then ({ s with disp := s.disp.finish e }.freeRing e).hwRetry else s
  | none => s

/-- TILE_COMPLETE: a tile completes the entry it had in service. -/
def execTileComplete (handle : Nat) (s : State) : Host.Outcome State Fault Refusal := .next (s.tileDone handle)

/-- One successor's counter decremented, marked DEP_CANCELLED after a cancel (R56, R64). A successor freed meanwhile is
passed over. -/
def Disp.decrement (d : Disp) : Disp :=
  match d.work with
  | [] => d
  | (h, mark) :: t =>
    let d := { d with work := t }
    match d.find h with
    | none => d
    | some e => if e.st = .waiting then d.lower { e with depCan := e.depCan || mark } else d

/-- SUCCESSOR_DECREMENT. -/
def execSuccessorDecrement (s : State) : Host.Outcome State Fault Refusal := .next { s with disp := s.disp.decrement }

/-- Whether a ready entry is at the head of its flow, and no entry of the flow is in service (R57). -/
def Disp.headOfFlow (d : Disp) (e : Entry) : Bool :=
  !d.entries.any (fun x => x.flow == e.flow && (x.st == .inService || (x.st == .ready && decide (x.seq < e.seq))))

/-- The oldest of the eligible entries of highest priority (R58). -/
def bestEntry : List Entry → Option Entry
  | [] => none
  | e :: t => match bestEntry t with
    | none => some e
    | some b => if e.prio < b.prio ∨ (e.prio = b.prio ∧ e.seq < b.seq) then some e else some b

/-- Who may write at an offset of the dispatcher below its ports (R74, R576): Gauntlet, and MP the general registers, which are
DSP_CTRL, DSP_LOWWATER, DSP_EVT, DSP_FLOW_SEL and DSP_FLOW_DATA. -/
def mayDispatcher (s : State) (m : Master) (off : Nat) : Bool :=
  m == .gauntlet || (m == .jtag && s.debugFull) || (m == .mp && [1, 3, 5, 6, 7].contains (off / 8))

/-- Ready entries of a flow (WAITING). -/
def Disp.waitingOf (d : Disp) (f : Nat) : Nat :=
  (d.entries.filter (fun e => e.flow == f && e.st == .ready)).length

/-- Whether an entry of a flow is in service (BUSY). -/
def Disp.busyFlow (d : Disp) (f : Nat) : Bool := d.entries.any (fun e => e.flow == f && e.st == .inService)

/-- A DSP_FLOW_DATA value written to the selected flow (R68, R89). -/
def State.flowData (s : State) (v : Nat) : State :=
  let f := s.get bDsp Rg.DSP_FLOW_SEL.FLOW
  if s.disp.busyFlow f ∨ 0 < s.disp.waitingOf f then s.event 10 bDsp Rg.DSP_EVT.FLOW_BUSY
  else
    let r : FlowRec := ⟨f, bits 0 1 v, bits 4 7 v, bits 11 3 v, bits 32 16 v⟩
    { s with disp := { s.disp with flows := r :: s.disp.flows.filter (fun x => x.flow != f) } }

/-- FLOW_DATA_WRITE. -/
def execFlowDataWrite (m : Master) (v : Nat) (s : State) : Host.Outcome State Fault Refusal :=
  .next (s.actWrite m (mayDispatcher s m 0x38) .mgmt (bDsp + 0x38) (fun t => t.flowData v))

end Sys2Proof.Machine
end

