-- ==== Sys2Proof/Machine/Struct.lean ====
section
/-! DEFINITION. Structure images (R78–R98): the sections of an image, the checks of R96 in their order, and what an accepted
image gives the device. An image is its bytes as they are stored, padding included (R131). -/

namespace Sys2Proof.Machine

/-- A refusal: code of R98, directory entry, record. -/
structure StructRes where
  code : Nat
  sect : Nat
  rec_ : Nat
  deriving DecidableEq, Repr

/-- A directory entry: section type, reserved byte, COUNT and OFFSET. -/
structure SecEnt where
  typ   : Nat
  rsv   : Nat
  count : Nat
  off   : Nat
  deriving DecidableEq, Repr

/-- Directory entry `i` of an image. -/
def secEnt (l : List Byte) (i : Nat) : SecEnt :=
  let w := leAt l (0x40 + 8 * i) 8
  ⟨bits 0 8 w, bits 8 8 w, bits 16 16 w, bits 32 32 w⟩

/-- SEC_COUNT of an image. -/
def secCount (l : List Byte) : Nat := leAt l 0x0D 1
/-- TOTAL_LEN of an image. -/
def totalLen (l : List Byte) : Nat := leAt l 0x30 4
/-- The directory entries in use. -/
def secEnts (l : List Byte) : List SecEnt := (List.range (min (secCount l) 16)).map (secEnt l)

/-- The record size of a section type (R79); 0 for an unknown type. -/
def recSize : Nat → Nat
  | 1 => 8 | 2 => 4 | 3 => 8 | 4 => 16 | 5 => 8 | 6 => 48 | 7 => 4 | 8 => 16 | _ => 0

/-- The least and the most records of a section type (R79). -/
def recRange : Nat → Nat × Nat
  | 1 => (76, 76) | 2 => (31, 31) | 3 => (0, 1024) | 4 => (0, 512) | 5 => (1, 8193) | 6 => (1, 1) | 7 => (64, 64)
  | 8 => (0, 16384) | _ => (0, 0)

/-- Records of `size` bytes from a byte string, each as its little-endian number. -/
def splitRecs (size : Nat) : Nat → List Byte → List Nat
  | 0, _ => []
  | n + 1, l => leVal (l.take size) :: splitRecs size n (l.drop size)

/-- The records of a section of an image; none where the section is absent. -/
def recsOf (l : List Byte) (typ : Nat) : List Nat :=
  match (secEnts l).find? (fun e => e.typ == typ) with
  | some e => splitRecs (recSize typ) e.count (l.drop e.off)
  | none => []

/-- The directory entry of a section type. -/
def sectOf (l : List Byte) (typ : Nat) : Nat := (secEnts l).findIdx (fun e => e.typ == typ)

/-- Whether bytes `a .. b − 1` of an image are all 0. -/
def zeroIn (l : List Byte) (a b : Nat) : Bool := ((l.drop a).take (b - a)).all (fun x => x == 0)

/-- The code of the first check that fails. -/
def firstBad : List (Bool × Nat) → Option Nat
  | [] => none
  | (bad, c) :: t => if bad then some c else firstBad t

/-! ### Records -/

/-- A TILES record: position, kind code, INST, LANES. -/
structure TileRec where
  pos   : Nat
  kind  : Nat
  inst  : Bool
  lanes : Nat
  deriving DecidableEq, Repr

/-- A TILES record read. -/
def tileRec (w : Nat) : TileRec := ⟨bits 0 7 w, bits 8 4 w, bitOf 12 w, bits 16 16 w⟩

/-- A LINKS record read. -/
def linkRec (w : Nat) : LinkRec :=
  ⟨bits 0 10 w, bits 10 7 w, bits 17 7 w, bits 24 4 w, bits 28 3 w, bitOf 32 w, bitOf 33 w, bits 36 4 w, bits 40 16 w, bits 56 8 w⟩

/-- A MEMMAP record read. -/
def memRec (w : Nat) : MemRec :=
  ⟨bits 0 2 w, bits 8 8 w, bits 16 3 w, bits 19 1 w, bits 32 21 w, bits 64 21 w, bits 96 16 w, bits 112 12 w⟩

/-- A FLOWS record read. -/
def flowRec (w : Nat) : FlowRec := ⟨bits 0 13 w, bits 13 1 w, bits 14 7 w, bits 21 3 w, bits 24 16 w⟩

/-- A REGINIT record read. -/
def regInit (w : Nat) : RegInit := ⟨bits 0 40 w, bitOf 40 w, bits 64 64 w⟩

/-- Lanes enabled by the TILES section, by position. -/
def imgLanes (l : List Byte) : List (Nat × Nat) :=
  ((recsOf l 1).map tileRec).filterMap (fun t => if t.inst then some (t.pos, t.lanes) else none)

/-- The lanes an image enables at a position. -/
def lanesIn (l : List Byte) (pos : Nat) : Nat := lookupD 0 pos (imgLanes l)

/-- Whether an image instances a tile of a kind. -/
def hasKind (l : List Byte) (k : Blk) : Bool := (tilePositions k).any (fun p => lanesIn l p != 0)

/-- IOBANK word `i`. -/
def ioWord (l : List Byte) (i : Nat) : Nat := bits (64 * i) 64 ((recsOf l 6).headD 0)

/-! ### Items 1 to 5 of R96 -/

/-- The length of a stored image (R131): TOTAL_LEN rounded up to a multiple of 4,096. -/
def paddedLen (n : Nat) : Nat := ceilDiv n 4096 * 4096

/-- Item 1: the header. `imgLen` is the IMG_LEN of the update header in front of the image. -/
def headerBad (l : List Byte) (imgLen : Nat) : Option Nat :=
  let n := totalLen l
  firstBad [
    (leAt l 0 4 != 0x49535841, 0x01),
    (leAt l 4 2 != 0x0100 || leAt l 6 2 != 0x0100, 0x02),
    (leAt l 8 4 != 0x7740, 0x03),
    (leAt l 0x0C 1 != 0x04, 0x04),
    (n % 16 != 0 || decide (n < 1024) || decide (4 * 2 ^ 20 < n) || imgLen != paddedLen n || l.length != imgLen || !zeroIn l n l.length,
      0x05),
    (!(zeroIn l 0x0E 0x10 && zeroIn l 0x16 0x18 && zeroIn l 0x34 0x40 && zeroIn l 0xC0 0x100) || leAt l 0x28 8 / 2 ^ 18 != 0, 0x0A)]

/-- Item 3: COMPAT against the silicon and the fitted DDR (0 4 GiB, 1 8 GiB, 2 16 GiB). -/
def compatBad (compat ddr : Nat) : Bool :=
  let st := Config.stepping.toNat
  decide (st < bits 0 8 compat) || decide (bits 8 8 compat < st) || decide (bits 8 8 compat < bits 0 8 compat) ||
  bits 16 2 compat == 3 || decide (ddr < bits 16 2 compat)

/-- The IF_VER of an update header (R130). -/
def hdrIf (h : List Byte) : Nat := leAt h 0x14 2
/-- Whether an interface version lies in pair `i` of a list of ranges at byte `o`. -/
def ifIn (l : List Byte) (o i v : Nat) : Bool := decide (leAt l (o + 4 * i) 2 ≤ v ∧ v ≤ leAt l (o + 4 * i + 2) 2)

/-- Item 4: interface versions against the other images, given by type and update header. A structure image requires MGMTFW,
TIMEFW, STOPFW and SECFW, in that order; the STRUCT pair of an update header is its fourth. -/
def ifBad (l : List Byte) (others : List (Nat × List Byte)) : Bool :=
  others.any (fun o =>
    let i : Option Nat := match o.1 with | 2 => some 0 | 3 => some 1 | 5 => some 2 | 1 => some 3 | _ => none
    match i with
    | some k => !ifIn l 0x18 k (hdrIf o.2) || !ifIn o.2 0x18 3 (leAt l 0x14 2)
    | none => o.1 == 6 && !ifIn o.2 0x18 3 (leAt l 0x14 2))

/-- Whether a directory entry in use is malformed or overlaps an earlier one (R78, R79). -/
def entBad (total : Nat) (before : List SecEnt) (e : SecEnt) : Bool :=
  let z := recSize e.typ
  let stop := e.off + e.count * z
  z == 0 || before.any (fun b => b.typ == e.typ) || decide (e.count < (recRange e.typ).1) || decide ((recRange e.typ).2 < e.count) ||
  e.off % 16 != 0 || decide (e.off < 0x100) || decide (total - 128 < stop) ||
  before.any (fun b => decide (0 < b.count ∧ 0 < e.count ∧ b.off < stop ∧ e.off < b.off + b.count * recSize b.typ))

/-- Directory entries checked one after another. A reserved byte of an entry in use that is not 0 gives 0x0A, where an unused entry
gives 0x09 (DESIGN CHOICE, log entry 29). -/
def entsBad (total : Nat) : List SecEnt → List SecEnt → Option Nat
  | _, [] => none
  | before, e :: t =>
    if e.rsv ≠ 0 then some 0x0A else if entBad total before e then some 0x09 else entsBad total (before ++ [e]) t

/-- Whether byte `i` lies in a section in use. -/
def inSect (es : List SecEnt) (i : Nat) : Bool := es.any (fun e => decide (e.off ≤ i ∧ i < e.off + e.count * recSize e.typ))

/-- Bytes from index `i` on that lie in no section are 0. -/
def gapsZero (es : List SecEnt) : Nat → List Byte → Bool
  | _, [] => true
  | i, b :: t => (b == 0 || inSect es i) && gapsZero es (i + 1) t

/-- Item 5: the directory, then the gap bytes and the trailing bytes of the signature block. -/
def directoryBad (l : List Byte) : Option Nat :=
  let n := totalLen l
  let es := secEnts l
  if secCount l < 5 ∨ 16 < secCount l then some 0x09
  else match entsBad n [] es with
    | some c => some c
    | none => firstBad [
        (!zeroIn l (0x40 + 8 * secCount l) 0xC0, 0x09),
        (!([1, 2, 5, 6, 7].all (fun t => es.any (fun e => e.typ == t))), 0x09),
        (!gapsZero es 0x100 ((l.drop 0x100).take (n - 128 - 0x100)) || !zeroIn l (n - 32) n, 0x0A)]

/-! ### Item 6: the sections -/

/-- The first record of a section that fails, with its code; `f` sees the records before it. -/
def scanRecs (f : List Nat → Nat → Nat → Option Nat) : List Nat → Nat → List Nat → Option (Nat × Nat)
  | _, _, [] => none
  | before, i, w :: t =>
    match f before i w with
    | some c => some (c, i)
    | none => scanRecs f (before ++ [w]) (i + 1) t

/-- A TILES record (R80). -/
def tileBad (i w : Nat) : Option Nat :=
  let t := tileRec w
  let pos := allPositions.getD i 99
  let kind := (kindAt pos).getD .acq
  firstBad [
    (t.pos != pos || t.kind != tileKinds.idxOf kind + 1, 0x10),
    (bits 7 1 w != 0 || bits 13 3 w != 0 || bits 32 32 w != 0, 0x0A),
    (if t.inst then t.lanes == 0 || decide (tileLanes kind < t.lanes) else t.lanes != 0, 0x11)]

/-- An ISLANDS record (R82). -/
def islandBad (i w : Nat) : Option Nat :=
  firstBad [(bits 0 6 w != 13 + i, 0x12), (bits 6 2 w != 0 || bits 16 16 w != 0, 0x0A),
    (decide (bits 8 8 w < 120) || decide (240 < bits 8 8 w), 0x12)]

/-- Whether a position is a valid end of a link (R83). -/
def endOk (l : List Byte) (p : Nat) : Bool := decide (80 ≤ p ∧ p ≤ 98) || (decide (p < 80) && lanesIn l p != 0)

/-- The segment of a tile position: FA or FB. -/
def segOf (p : Nat) : Dom := if p % 10 < 5 then .fa else .fb

/-- The domain of bridge route 1–4. -/
def bridgeDom (route : Nat) : Dom := if route ≤ 2 then .fa else .fb

/-- Whether a link's route agrees with its ends (R84). -/
def routeOk (k : LinkRec) : Bool :=
  let a := k.src
  let b := k.dst
  if a < 80 ∧ b < 80 ∧ islandOf a = islandOf b then k.route == 5 && !k.slSrc && !k.slDst
  else if a < 80 ∧ b < 80 ∧ a / 10 = b / 10 then k.route == 0 && k.slSrc == (segOf a != segOf b) && !k.slDst
  else decide (1 ≤ k.route ∧ k.route ≤ 4) && k.slSrc == (decide (a < 80) && segOf a != bridgeDom k.route) &&
       k.slDst == (decide (b < 80) && segOf b != bridgeDom k.route)

/-- What a route traverses (R87): a bridge, a segment link in the direction away from a segment, a segment. -/
inductive Element where
  | bridge (n : Nat) | link (col : Nat) (from_ : Dom) | segment (col : Nat) (d : Dom)
  deriving DecidableEq, Repr

/-- The capacity of an element in MB/s (R87). -/
def Element.cap : Element → Nat
  | .segment _ _ => 32000
  | _ => 16000

/-- The elements a link's route traverses, each once (R87). -/
def elements (k : LinkRec) : List Element :=
  let a := k.src
  let b := k.dst
  let l : List Element :=
    if k.route = 5 then []
    else if k.route = 0 then
      [Element.segment (a / 10) (segOf a)] ++
      (if k.slSrc then [Element.link (a / 10) (segOf a), Element.segment (b / 10) (segOf b)] else [])
    else
      let d := bridgeDom k.route
      (if a < 80 then [Element.segment (a / 10) (segOf a)] ++
        (if k.slSrc then [Element.link (a / 10) (segOf a), Element.segment (a / 10) d] else []) else []) ++
      [Element.bridge k.route] ++
      (if b < 80 then (if k.slDst then [Element.segment (b / 10) d, Element.link (b / 10) d] else []) ++
        [Element.segment (b / 10) (segOf b)] else [])
  l.eraseDups

/-- The bandwidth declared over an element. -/
def loadOn (e : Element) (ks : List LinkRec) : Nat := ((ks.filter (fun k => (elements k).contains e)).map (·.bw)).sum

/-- A LINKS record (R83–R88). The spec orders the codes of one record only by their rows: bandwidth before MAXLEN, and overlap before
the ring and the work area, are the model's order (DESIGN CHOICE, log entry 29). -/
def linkBad (l : List Byte) (before : List Nat) (_i w : Nat) : Option Nat :=
  let k := linkRec w
  let ks := before.map linkRec
  firstBad [
    (ks.any (fun b => decide (k.id ≤ b.id)), 0x21),
    (bits 31 1 w != 0 || bits 34 2 w != 0, 0x0A),
    (k.src == k.dst || !endOk l k.src || !endOk l k.dst, 0x20),
    (decide ((if k.dst < 80 then 8 else 16) ≤ k.port) || ks.any (fun b => b.dst == k.dst && b.port == k.port), 0x21),
    (!routeOk k, 0x22),
    ((elements k).any (fun e => decide (e.cap < loadOn e (ks ++ [k]))), 0x23),
    (k.maxlen == 0 || decide (13 < k.maxlen), 0x24),
    (k.ring != 0xFF && (!((recsOf l 4).any (fun m => (memRec m).use == 0 && (memRec m).id == k.ring)) ||
      ks.any (fun b => b.ring == k.ring)), 0x25)]

/-- Whether two areas overlap. -/
def areasMeet (a b : MemRec) : Bool :=
  a.bank == b.bank && a.half == b.half && decide (a.offset < b.offset + b.size) && decide (b.offset < a.offset + a.size)

/-- A MEMMAP record (R88). -/
def memBad (l : List Byte) (before : List Nat) (_i w : Nat) : Option Nat :=
  let m := memRec w
  let ms := before.map memRec
  firstBad [
    (bits 2 6 w != 0 || bits 20 12 w != 0 || bits 53 11 w != 0 || bits 85 11 w != 0 || bits 124 4 w != 0, 0x0A),
    (m.use == 3, 0x30),
    (m.offset % 64 != 0 || m.size % 64 != 0 || decide (m.size < 64) || decide (0x18_0000 < m.offset + m.size), 0x30),
    (if m.use = 0 then decide (m.slotBytes < 64) || decide (16384 < m.slotBytes) || m.slotBytes % 64 != 0 || decide (m.slots < 2) ||
        decide (4095 < m.slots) || m.size != m.slotBytes * m.slots || m.id == 255
     else m.slotBytes != 0 || m.slots != 0, 0x30),
    (ms.any (areasMeet m), 0x31),
    (m.use == 0 && ms.any (fun b => b.use == 0 && b.id == m.id), 0x31),
    (m.use == 0 && !((recsOf l 3).any (fun k => (linkRec k).ring == m.id)), 0x25),
    (m.use == 1 && !(decide (m.id < 80) && lanesIn l m.id != 0), 0x30)]

/-- A FLOWS record, the head first (R89, R90). -/
def flowBad (l : List Byte) (before : List Nat) (i w : Nat) : Option Nat :=
  if i = 0 then firstBad [(w / 2 ^ 7 != 0, 0x0A), (decide (64 < bits 0 7 w) || (bits 0 7 w != 0 && !hasKind l .trk), 0x42)]
  else
    let f := flowRec w
    let soft := f.consumer == 0x7F
    firstBad [
      ((before.drop 1).any (fun b => decide (f.flow ≤ (flowRec b).flow)), 0x40),
      (bits 40 24 w != 0, 0x0A),
      (if soft then decide (5 < f.agent) || f.lane != 0
       else decide (80 ≤ f.consumer) || f.agent != 0 || decide (lanesIn l f.consumer ≤ f.lane), 0x41),
      (f.part == 1 && (!hasKind l .trk || !(soft || kindAt f.consumer == some .trk)), 0x41)]

/-- The IOBANK record. -/
def ioBad (w : Nat) : Option Nat :=
  firstBad [
    (bits 29 3 w != 0 || bits 58 6 w != 0 || bits 256 128 w != 0, 0x0A),
    (decide (1 < bits 32 2 w) || decide (1 < bits 34 2 w) || bits 36 2 w == 3 || bits 38 2 w == 3 ||
      (List.range 8).any (fun k => let c := bits (128 + 8 * k) 8 w; c != 0 && (decide (c < 50) || decide (200 < c))), 0x50)]

/-- A LOOPS record (R92). -/
def loopBad (l : List Byte) (i w : Nat) : Option Nat :=
  let own := bits 0 3 w
  let on := decide (i % 16 < lanesIn l ((tilePositions .loop).getD (i / 16) 99))
  firstBad [
    (bits 4 28 w != 0, 0x0A),
    (own == 7 || on == (own == 6) || (i == 0 && on && own != 5) || (i != 0 && own == 5), 0x60)]

/-- Whether an address is a REGINIT target (R94). -/
def regTarget (l : List Byte) (a : Nat) : Bool :=
  match placeOf a with
  | none => false
  | some p =>
    match p.pos with
    | some q => lanesIn l q != 0
    | none =>
      if p.blk = .isl ∨ p.blk = .dsp ∨ (p.blk = .mpc ∧ 0x400 ≤ a - p.base) then false
      else match findReg p.base (a - p.base) (blkRegs p.blk) with
        | some h => h.reg.desc.flds.any (fun f => f.src == .img)
        | none => false

/-- A REGINIT record (R94). -/
def initBad (l : List Byte) (w : Nat) : Option Nat :=
  let r := regInit w
  firstBad [(bits 41 23 w != 0, 0x0A), (r.addr % (if r.wide then 8 else 4) != 0 || !regTarget l r.addr, 0x70)]

/-- Sections in ascending type order; the first failing record. -/
def sectionsBad (l : List Byte) : Option StructRes :=
  let check (typ : Nat) (f : List Nat → Nat → Nat → Option Nat) : Option StructRes :=
    (scanRecs f [] 0 (recsOf l typ)).map (fun r => ⟨r.1, sectOf l typ, r.2⟩)
  ((((((((check 1 (fun _ i w => tileBad i w)).orElse fun _ => check 2 (fun _ i w => islandBad i w)).orElse
    fun _ => check 3 (linkBad l)).orElse fun _ => check 4 (memBad l)).orElse fun _ => check 5 (flowBad l)).orElse
    fun _ => check 6 (fun _ _ w => ioBad w)).orElse fun _ => check 7 (fun _ i w => loopBad l i w)).orElse
    fun _ => check 8 (fun _ _ w => initBad l w))

/-! ### Item 7: the instancing limits of R95 -/

/-- Whether a tile has a link from an instanced tile of a kind. -/
def fedBy (l : List Byte) (pos : Nat) (k : Blk) : Bool :=
  (recsOf l 3).any (fun w => (linkRec w).dst == pos && kindAt (linkRec w).src == some k && lanesIn l (linkRec w).src != 0)

/-- Every instanced tile of kind `k` is fed by one of kind `f`. -/
def allFed (l : List Byte) (k f : Blk) : Bool :=
  (tilePositions k).all (fun p => lanesIn l p == 0 || fedBy l p f)

/-- The rows of R95 in table order, each true where it holds. -/
def limitRows (l : List Byte) : List Bool :=
  let io := ioWord l 0
  let has := hasKind l
  let lanes (k : Blk) (n : Nat) : Nat := lanesIn l ((tilePositions k).getD n 99)
  [ lanes .loop 0 != 0,
    !has .cor || (has .acq && bits 0 8 io != 0),
    bits 0 8 io == 0 || has .cor,
    !has .obs || has .cor,
    !has .mac || (has .cry && has .trk),
    !has .trk || has .mac,
    (List.range 8).all (fun p => !bitOf (16 + p) io || decide (p % 2 < lanes .mac (p / 2))),
    (List.range 64).all (fun n => !bitOf n (ioWord l 1) ||
      (decide (n % 8 < lanes .filt (n / 8)) && bits (8 * (n / 8)) 8 (ioWord l 2) != 0)),
    allFed l .phs .filt,
    allFed l .aln .pkt,
    !has .moda || has .aln || has .phs,
    !has .trig || has .dma,
    bits 48 6 io == 0 || has .trig,
    bits 40 8 io == 0 || has .moda || has .trig ]

/-- Item 7: the failing row of R95, counted from 1. -/
def limitsBad (l : List Byte) : Option Nat :=
  let i := (limitRows l).findIdx (fun b => !b)
  if i < (limitRows l).length then some (i + 1) else none

/-! ### The whole check -/

/-- The checks of R96 in their order: the refusal of the first that fails; none for an accepted image. `sigOk` says that the
signature verifies, `ddr` is the fitted DDR, `others` the update headers of the other images by type. -/
def structCheck (l : List Byte) (imgLen : Nat) (sigOk : Bool) (ddr : Nat) (others : List (Nat × List Byte)) : Option StructRes :=
  let at0 (c : Option Nat) : Option StructRes := c.map (fun c => ⟨c, 0, 0⟩)
  ((((((at0 (headerBad l imgLen)).orElse
    fun _ => if sigOk then none else some ⟨0x06, 0, 0⟩).orElse
    fun _ => if compatBad (leAt l 0x28 8) ddr then some ⟨0x07, 0, 0⟩ else none).orElse
    fun _ => if ifBad l others then some ⟨0x08, 0, 0⟩ else none).orElse
    fun _ => at0 (directoryBad l)).orElse
    fun _ => sectionsBad l).orElse
    fun _ => (limitsBad l).map (fun r => ⟨0x13, 0, r⟩)

/-! ### What an accepted image gives -/

/-- The instanced image of an accepted structure image (R80–R92). -/
def imgOf (l : List Byte) : Img := {
  lanes := imgLanes l,
  links := (recsOf l 3).map linkRec,
  areas := (recsOf l 4).map memRec,
  io0 := ioWord l 0, sdEn := ioWord l 1, modclk := ioWord l 2, gpio := ioWord l 3,
  loops := (recsOf l 7).map (fun w => (bits 0 3 w, bitOf 3 w)) }

/-- The flows an image assigns (R89). -/
def flowsOf (l : List Byte) : List FlowRec := ((recsOf l 5).drop 1).map flowRec
/-- FLEET_RSV of an image (R88). -/
def fleetRsv (l : List Byte) : Nat := bits 0 7 ((recsOf l 5).headD 0)
/-- The REGINIT writes of an image in order (R94). -/
def initsOf (l : List Byte) : List RegInit := (recsOf l 8).map regInit
/-- The starting clocks of the fabric islands, by island (R82). -/
def freqsOf (l : List Byte) : List (Nat × Nat) := (recsOf l 2).map (fun w => (bits 0 6 w, bits 8 8 w))

end Sys2Proof.Machine
end

