-- ==== Sys2Proof/Machine/Fabric.lean ====
section
/-! DEFINITION. Islands' clocks, the asynchronous queues and their packets (R35–R37, R41–R53, R86). -/

namespace Sys2Proof.Machine

/-- Whether an island is powered (ISL_STAT.PWR_ON): its domain is on and, in the fabric, a tile is instanced in it. -/
def State.islOn (s : State) (i : Nat) : Bool :=
  s.on (domOf i) && (decide (i < 13) || allPositions.any (fun q => islandOf q == i && s.instanced q))

/-- Who may write the island control windows (R74). -/
def mayIsland (s : State) (m : Master) : Bool :=
  m == .gauntlet || m == .mp || (m == .jtag && s.debugFull)

/-- A FREQ_CODE write (R37): outside 120–240 on a fabric island it is ignored with CLK_RANGE; islands I00–I12 are fixed. -/
def State.freqWrite (s : State) (isl code : Nat) : State :=
  if isl < 13 ∨ 43 < isl then s
  else if 120 ≤ code ∧ code ≤ 240 then s.relock isl code
  else s.event (islEv isl) (islBase isl) Rg.ISL_EVT.CLK_RANGE

/-- ISL_CLK_WRITE. -/
def execIslClkWrite (m : Master) (isl v : Nat) (s : State) : Host.Outcome State Fault Refusal :=
  .next (s.actWrite m (mayIsland s m) (domOf isl) (islBase isl + 8) (fun t => t.freqWrite isl (v % 256)))

/-- CLOCK_RELOCK_DONE: a powered island's clock locks at FREQ_CODE; an island without an instanced tile has no clock (R82). -/
def execClockRelockDone (isl : Nat) (s : State) : Host.Outcome State Fault Refusal :=
  if isl ≤ 43 ∧ s.islOn isl then .next (s.set (islBase isl) Rg.ISL_STAT.CLK_LOCK 1) else .next s

/-! ### Packets -/

/-- The island of a link end: a tile position, or a service-block code of R83. -/
def endIsland (p : Nat) : Nat :=
  if p < 80 then islandOf p
  else [3, 7, 6, 8, 9, 9, 9, 9, 12, 10, 7, 0, 2, 10, 11, 11, 11, 12, 7].getD (p - 80) 0

/-- The bytes CHK covers: the length word's low 56 bits, then the data words (R574). -/
def chkBytes (lw : Nat) (data : List Nat) : List Byte := leBytes 7 lw ++ (data.map (leBytes 8)).flatten

/-- The length word of a packet (R46). -/
def lengthWord (h : PktHead) (epoch src : Nat) (data : List Nat) : Nat :=
  let w := data.length % 16 + epoch % 16 * 2 ^ 4 + h.typ % 256 * 2 ^ 8 + h.flow % 8192 * 2 ^ 16 + h.prio % 8 * 2 ^ 29 +
    h.lane % 65536 * 2 ^ 32 + src % 128 * 2 ^ 48 + b2n h.depCan * 2 ^ 55
  w + crc8 (chkBytes w data) * 2 ^ 56

/-- LEN of a length word. -/
def pktLen (lw : Nat) : Nat := bits 0 4 lw
/-- EPOCH of a length word. -/
def pktEpoch (lw : Nat) : Nat := bits 4 4 lw
/-- TYPE of a length word. -/
def pktType (lw : Nat) : Nat := bits 8 8 lw
/-- LANE of a length word. -/
def pktLane (lw : Nat) : Nat := bits 32 16 lw
/-- FLOW of a length word. -/
def pktFlow (lw : Nat) : Nat := bits 16 13 lw

/-- Whether a packet is well formed (R47): LEN 1–13, as many data words, and CHK right. -/
def pktOk (lw : Nat) (data : List Nat) : Bool :=
  decide (1 ≤ pktLen lw ∧ pktLen lw ≤ 13) && decide (data.length = pktLen lw) &&
  decide (crc8 (chkBytes (lw % 2 ^ 56) data) = lw / 2 ^ 56)

/-- Whether an item of an epoch is newer than a stage (R48). -/
def newer (item stage : Nat) : Bool := let d := (item + 16 - stage % 16) % 16; decide (1 ≤ d ∧ d ≤ 7)

/-- The link with an id. -/
def State.link (s : State) (id : Nat) : Option Link := s.links.find? (fun l => l.rc.id == id)

/-- A link replaced. -/
def State.setLink (s : State) (l : Link) : State :=
  { s with links := s.links.map (fun k => if k.rc.id = l.rc.id then l else k) }

/-- Whether a service-block end's function is enabled by IOBANK (R83). -/
def State.endOn (s : State) (p : Nat) : Bool :=
  match p with
  | 84 => bits 32 2 s.img.io0 != 0 | 85 => bits 34 2 s.img.io0 != 0 | 86 => bits 36 2 s.img.io0 != 0
  | 87 => bits 38 2 s.img.io0 != 0 | 88 => bits 24 4 s.img.io0 != 0 | 89 => bitOf 28 s.img.io0
  | 94 => bits 16 8 s.img.io0 != 0 | 95 => bits 0 8 s.img.io0 != 0
  | 96 => bits 40 8 s.img.io0 != 0 || bits 52 2 s.img.io0 != 0 || s.img.sdEn != 0 || s.img.modclk != 0
  | _ => true

/-- The domain of an element of a route (R87). -/
def Element.dom : Element → Dom
  | .bridge n => bridgeDom n
  | .link _ d => d
  | .segment _ d => d

/-- Whether a link exists for its ends: both functions enabled, no reset in progress, not isolated. -/
def State.linkSet_ (s : State) (l : Link) : Bool := l.resetAck.isNone && !l.isolated && s.endOn l.rc.src && s.endOn l.rc.dst

/-- Whether the producer of a link can write: its domain is on. A consumer that has stopped does not hold it back until its
credits are used up (R52). -/
def State.sendable (s : State) (l : Link) : Bool := s.linkSet_ l && s.on (domOf (endIsland l.rc.src))

/-- Whether the consumer of a link can read: its domain and every domain on the route are on. -/
def State.readable (s : State) (l : Link) : Bool :=
  s.linkSet_ l && s.on (domOf (endIsland l.rc.dst)) && (elements l.rc).all (fun e => s.on e.dom)

/-- The link after a packet of `data` words is written into it; `slot` is the ring slot it takes with it. -/
def Link.push (l : Link) (q : QPkt) (slot : Option Nat) : Link :=
  { l with queue := l.queue ++ [q], credits := l.credits - (1 + q.data.length),
           busy := match slot with | some k => l.busy ++ [k] | none => l.busy }

/-- The item types that name a ring slot (R250, R301, R365, R366, R427, R428, R449). -/
def slotItem (typ : Nat) : Bool := [0x30, 0x52, 0x60, 0x61, 0x70, 0x71, 0x72].contains typ

/-- The ring slot that the first data word of an item names. -/
def slotIn (typ w : Nat) : Nat := if typ = 0x60 ∨ typ = 0x61 then bits 19 12 w else bits 0 12 w

/-- The ring slot of a packet, if it refers to one. -/
def QPkt.slot (q : QPkt) : Option Nat := if q.ring then some (slotIn (pktType q.lw) (q.data.headD 0)) else none

/-- A packet of 1 to MAXLEN data words written into a link, its length word last, by a producer that holds credits for every
entry, and a ring credit where it uses a slot (R43–R46, R86); none when the producer must stall (R52). -/
def State.trySend (s : State) (l : Link) (h : PktHead) (data : List Nat) : Option State :=
  let slot := slotIn (h.typ % 256) (data.headD 0 % 2 ^ 64)
  if s.sendable l ∧ 1 ≤ data.length ∧ data.length ≤ l.rc.maxlen ∧ 1 + data.length ≤ l.credits ∧
      (h.ring = false ∨ (slot < l.slots ∧ slot ∉ l.busy)) then
    let words := data.map (· % 2 ^ 64)
    let ep := s.get (islBase (endIsland l.rc.src)) Rg.ISL_STAT.EPOCH
    some (s.setLink (l.push ⟨lengthWord h ep l.rc.src words, words, h.ring || slotItem h.typ⟩ (if h.ring then some slot else none)))
  else none

/-- PACKET_SEND: a producer writes a packet, or stalls without its credits. -/
def execPacketSend (link : Nat) (h : PktHead) (data : List Nat) (s : State) : Host.Outcome State Fault Refusal :=
  match s.link link with
  | none => .next s
  | some l => .next ((s.trySend l h data).getD s)

/-- The first link from one end to another. -/
def State.linkTo (s : State) (src dst : Nat) : Option Link := s.links.find? (fun l => l.rc.src == src && l.rc.dst == dst)

/-- Whether two ends share links in both directions. -/
def State.linked (s : State) (a b : Nat) : Bool := (s.linkTo a b).isSome && (s.linkTo b a).isSome

/-- An item sent from one end to another; none when there is no link or the producer must stall. -/
def State.sendItem (s : State) (src dst typ flow prio lane : Nat) (depCan : Bool) (data : List Nat) : Option State :=
  match s.linkTo src dst with
  | none => none
  | some l => s.trySend l ⟨typ, flow, prio, lane, depCan, false⟩ data

/-- Queued items of one link sent while its producer has the credits; the first argument bounds how many. -/
def drainLink (src dst : Nat) : Nat → State → State
  | 0, s => s
  | n + 1, s =>
    match s.outq.find? (fun o => o.src == src && o.dst == dst) with
    | none => s
    | some o =>
      match s.sendItem o.src o.dst o.typ o.flow o.prio o.lane o.depCan o.data with
      | none => s
      | some t => drainLink src dst n { t with outq := t.outq.erase o }

/-- An item handed to its link behind those the producer already holds back for it (R52); without a link it goes nowhere. -/
def State.emitDep (s : State) (src dst typ flow prio lane : Nat) (depCan : Bool) (data : List Nat) : State :=
  match s.linkTo src dst with
  | none => s
  | some _ =>
    let t := { s with outq := s.outq ++ [⟨src, dst, typ, flow, prio, lane, depCan, data⟩] }
    drainLink src dst t.outq.length t

/-- An item without the mark DEP_CANCELLED handed to its link. -/
def State.emit (s : State) (src dst typ flow prio lane : Nat) (data : List Nat) : State :=
  s.emitDep src dst typ flow prio lane false data

/-- The links whose producer is a tile, in LINK_ID order. -/
def State.linksFrom (s : State) (pos : Nat) : List Link := s.links.filter (fun l => l.rc.src == pos)

/-- An item sent on every link of a tile that a route mask selects (R280); one whose link is out of credits is dropped. With
the number of drops. -/
def State.sendMask (s : State) (pos mask typ : Nat) (data : List Nat) : State × Nat :=
  let ls := s.linksFrom pos
  (List.range 8).foldl (fun t j =>
    match ls[j]? with
    | none => t
    | some l =>
      if !bitOf j mask then t
      else match t.1.link l.rc.id with
        | none => t
        | some k => match t.1.trySend k ⟨typ, 0, 0, 0, false, false⟩ data with
          | some u => (u, t.2)
          | none => (t.1, t.2 + 1)) (s, 0)

/-- The address of an area of MEMMAP (R28, R88). -/
def areaAddr (a : MemRec) : Nat := 0x1000_0000 + (a.bank * 2 + a.half) * 0x18_0000 + a.offset

/-- The area of a ring. -/
def State.ringArea (s : State) (ring : Nat) : Option MemRec := s.img.areas.find? (fun a => a.use == 0 && a.id == ring)

/-- The address of a slot of the ring of the link from one end to another. -/
def State.slotAddr (s : State) (src dst slot : Nat) : Nat :=
  match s.linkTo src dst with
  | none => 0
  | some l =>
    match s.ringArea l.rc.ring with
    | none => 0
    | some a => areaAddr a + slot * a.slotBytes

/-- The bytes of a slot of the link's ring; 0 when it has no ring. -/
def State.slotBytes (s : State) (src dst : Nat) : Nat :=
  match s.linkTo src dst with
  | none => 0
  | some l => match s.ringArea l.rc.ring with
    | none => 0
    | some a => a.slotBytes

/-- The next slot of a ring of `n` from place `p` on that is not in use. -/
def nextSlot (n p : Nat) (busy : List Nat) : Option Nat := ((List.range n).map (fun i => (p + i) % n)).find? (fun k => k ∉ busy)

/-- A slot of the link's ring taken by its producer (R86): its index, or none when no ring credit is left. -/
def State.takeSlot (s : State) (src dst : Nat) : Option (State × Nat) :=
  match s.linkTo src dst with
  | none => none
  | some l =>
    match nextSlot l.slots l.ringPos l.busy with
    | none => none
    | some k => some (s.setLink { l with busy := l.busy ++ [k], ringPos := (k + 1) % l.slots }, k)

/-- Whether a waiting item is for the stage at `pos` and of one type. -/
def State.isItem (s : State) (pos typ : Nat) (p : Nat × QPkt) : Bool :=
  match s.link p.1 with
  | none => false
  | some l => l.rc.dst == pos && pktType p.2.lw == typ

/-- The oldest waiting item of one type for the stage at `pos`, with its link. -/
def State.waitingItem (s : State) (pos typ : Nat) : Option (Nat × QPkt) := s.rx.find? (s.isItem pos typ)

/-- The producer of the link with an id. -/
def State.producer (s : State) (id : Nat) : Nat := ((s.link id).map (fun l => l.rc.src)).getD 0

/-- The oldest item of one type that waits for the stage at `pos`, with the end that sent it. -/
def State.item (s : State) (pos typ : Nat) : Option (Nat × QPkt) :=
  (s.waitingItem pos typ).map (fun p => (s.producer p.1, p.2))

/-- The ring slot that an item refers to, on its link, given back (R86). -/
def State.freeItem (s : State) (p : Nat × QPkt) : State :=
  match p.2.slot with
  | some k => s.freeSlot p.1 k
  | none => s

/-- The oldest waiting item of one type taken by its stage, which holds on to the ring slot. -/
def State.pulled (s : State) (pos typ : Nat) : State :=
  match s.waitingItem pos typ with
  | some p => { s with rx := s.rx.erase p }
  | none => s

/-- The oldest waiting item of one type used up: its ring slot is free again (R86). -/
def State.taken (s : State) (pos typ : Nat) : State :=
  match s.waitingItem pos typ with
  | some p => { s with rx := s.rx.erase p }.freeItem p
  | none => s

/-- The link after its oldest packet has left the queue: its entries' credits start back to the producer. -/
def Link.pop (l : Link) (n : Nat) : Link := { l with queue := l.queue.tail, retn := l.retn + n }

/-- An item taken by the dispatcher (R60): an entry on its flow in the flow's partition, TAG the low word of its first data
word. With the pool empty the item stays in its queue and the push-back bit is set; its ring slot goes back when the entry
ends. -/
def State.dispatchItem (s : State) (l : Link) (q : QPkt) (n : Nat) : State :=
  let f := pktFlow q.lw
  if !s.disp.assigned f then (s.setLink (l.pop n)).freeItem (l.rc.id, q)
  else
    let part := (s.disp.flowOf f).part
    match s.create part f (bits 29 3 q.lw) (q.data.headD 0 % 2 ^ 32) false none (some (pktType q.lw, q.data)) with
    | none => s.busyPool part
    | some (t, h) =>
      let t := t.setLink (l.pop n)
      match t.disp.find h with
      | some e => { t with disp := t.disp.put { e with ring := q.slot.map (fun k => (l.rc.id, k)) } }
      | none => t

/-- The kinds of tile whose commands take the items that have arrived since the last one. -/
def keepsItems (pos : Nat) : Bool :=
  kindAt pos == some .phs || kindAt pos == some .moda || kindAt pos == some .trig

/-- The item types that a stage takes when its own command runs. -/
def takesType (pos typ : Nat) : Bool :=
  match kindAt pos with
  | some .aln => [0x50, 0x52, 0x53].contains typ
  | some .cry => typ == 0x80
  | some .obs => [0x11, 0x20, 0x21, 0x22].contains typ
  | some .loop => typ == 0x10
  | some .pkt => [0x30, 0x54, 0x71].contains typ
  | some .mac => typ == 0x30 || typ == 0x61
  | some .trk => typ == 0x62
  | some .filt => true
  | _ => decide (84 ≤ pos ∧ pos ≤ 87) && typ == 0x70

/-- A packet read by its stage: it waits for the stage's own command; an item of another type is used up. -/
def State.keep (s : State) (l : Link) (q : QPkt) : State :=
  if keepsItems l.rc.dst then { s.freeItem (l.rc.id, q) with inbox := s.inbox ++ [⟨l.rc.dst, l.rc.src, q, s.nowNs⟩] }
  else if takesType l.rc.dst (pktType q.lw) then { s with rx := s.rx ++ [(l.rc.id, q)] }
  else s.freeItem (l.rc.id, q)

/-- The items kept for a tile, and the state without them. -/
def State.collect (s : State) (pos : Nat) : State × List Inbound :=
  ({ s with inbox := s.inbox.filter (fun i => i.dst != pos) }, s.inbox.filter (fun i => i.dst == pos))

/-- PACKET_ARRIVE: the oldest packet is visible at the consumer, as sent or as `upset` says it reads. A malformed one is
discarded with Q_FRAME_ERR (R47); one of a newer epoch is held with EPOCH_HOLD (R48); any other is handed to the stage. -/
def execPacketArrive (link : Nat) (upset : Option (Nat × List Nat)) (s : State) : Host.Outcome State Fault Refusal :=
  match s.link link with
  | none => .next s
  | some l =>
    match l.queue with
    | [] => .next s
    | q :: _ =>
      if !s.readable l then .next s else
      let i := endIsland l.rc.dst
      let seen : QPkt := match upset with
        | some u => ⟨u.1, u.2, q.ring⟩
        | none => q
      let n := 1 + q.data.length
      if !pktOk seen.lw seen.data then
        .next (((s.setLink (l.pop n)).freeItem (link, q)).event (islEv i) (islBase i) Rg.ISL_EVT.Q_FRAME_ERR)
      else if newer (pktEpoch seen.lw) (s.get (islBase i) Rg.ISL_STAT.EPOCH) then
        .next (s.event (islEv i) (islBase i) Rg.ISL_EVT.EPOCH_HOLD)
      else if l.rc.dst = 82 then .next (s.dispatchItem l seen n)
      else .next ((s.setLink (l.pop n)).keep l seen)

/-- A returned credit reaches the producer; one that would raise its count above 14 is ignored and sets CREDIT_ERR in the producer's
island (R43). -/
def State.creditBack (s : State) (link : Nat) : State :=
  match s.link link with
  | none => s
  | some l =>
    let i := endIsland l.rc.src
    if 14 ≤ l.credits then s.event (islEv i) (islBase i) Rg.ISL_EVT.CREDIT_ERR
    else
      let t := s.setLink { l with credits := l.credits + 1, retn := l.retn - 1 }
      drainLink l.rc.src l.rc.dst t.outq.length t

/-- The entries a queue holds: one per length slot and data word. -/
def queueEntries (q : List QPkt) : Nat := (q.map (fun p => 1 + p.data.length)).sum

/-- A link reset (R53): the consumer discards and counts its entries and sets Q_DROP. -/
def State.resetLink (s : State) (l : Link) : State :=
  let i := endIsland l.rc.dst
  let t := s.setLink { l with queue := [], retn := 0, resetAck := some (false, false) }
  (t.count (islBase i) Rg.ISL_QDROP.COUNT (queueEntries l.queue)).event (islEv i) (islBase i) Rg.ISL_EVT.Q_DROP

/-- LINK_RESET: either end of the link is reset. -/
def execLinkReset (link : Nat) (s : State) : Host.Outcome State Fault Refusal :=
  match s.link link with
  | none => .next s
  | some l => .next (s.resetLink l)

/-- LINK_RESET_DONE: both ends have acknowledged, and the producer's credits are restored to 14. A link that isolation holds
in reset stays there (R117). -/
def execLinkResetDone (link : Nat) (s : State) : Host.Outcome State Fault Refusal :=
  match s.link link with
  | none => .next s
  | some l =>
    if l.resetAck.isSome ∧ !l.isolated then
      .next (s.setLink { l with resetAck := none, credits := 14, busy := [], ringPos := 0 })
    else .next s

/-- Links when a domain goes off (R52, R53, R123). A link whose producer is in it is reset: a consumer that is still on discards
and counts its entries. A link whose consumer is in it loses the entries that its queue held; its producer keeps the credits it
has left. -/
def State.linksDown (s : State) (d : Dom) : State :=
  let src (l : Link) : Bool := domOf (endIsland l.rc.src) == d
  let dst (l : Link) : Bool := domOf (endIsland l.rc.dst) == d
  let t := (s.links.filter (fun l => src l && !dst l && s.on (domOf (endIsland l.rc.dst)))).foldl State.resetLink s
  { t with links := (t.links.filter (fun l => !src l)).map (fun l => if dst l then { l with queue := [], retn := 0 } else l),
           rx := t.rx.filter (fun p => match s.link p.1 with | some l => !src l && !dst l | none => false),
           outq := t.outq.filter (fun o => domOf (endIsland o.src) != d) }

/-! ### Dispatching to a consumer -/

/-- Whether a tile can accept an item from the dispatcher: it is instanced, and a link to it has the credits. -/
def State.accepts (s : State) (pos n : Nat) : Bool :=
  s.instanced pos && (match s.linkTo 82 pos with
    | some l => decide (1 + n ≤ l.credits ∧ n ≤ l.rc.maxlen) && s.linkSet_ l
    | none => true)

/-- The item of an entry (R46, R64): TYPE and words as submitted. For an entry that software or another block submitted without an
item the spec gives none: its TYPE is a free value and its one word holds TAG and handle (log entry 20). -/
def Entry.words (e : Entry) (pos : Nat) : Nat × List Nat :=
  e.item.getD ((Config.dispatchType pos).toNat, [e.tag % 2 ^ 32 + e.handle * 2 ^ 32])

/-- Whether a ready entry can be dispatched now: head of its flow, a service place of its partition free, and a consumer
that can take it (R57–R59). `stalled` are the tile positions that cannot accept an item. -/
def State.eligible (s : State) (stalled : List Nat) (e : Entry) : Bool :=
  let d := s.disp
  let r := d.flowOf e.flow
  e.st == .ready && d.headOfFlow e && decide (d.inserv none < 256) &&
  (e.part != 0 || decide (d.inserv (some 0) < 256 - s.get bDsp Rg.DSP_CTRL.FLEET_RSV)) &&
  (if r.consumer = 0x7F then decide (r.agent ≤ 5 ∧ (d.queues.getD r.agent []).length < 64)
   else r.consumer != 0x7E && !stalled.contains r.consumer && s.accepts r.consumer (e.words r.consumer).2.length)

/-- An entry put in service at its consumer: an agent's queue, whose PORT_DISP.VALID pulses its source when it was empty, or a
tile, which gets the entry's item with DEP_CANCELLED in its length word (R64). -/
def State.serve (s : State) (e : Entry) : State :=
  let r := s.disp.flowOf e.flow
  if r.consumer = 0x7F then
    let q := s.disp.queues.getD r.agent []
    let d := s.disp.put { e with st := .inService, agent := some r.agent }
    let t := { s with disp := { d with queues := listSet d.queues r.agent (q ++ [e.handle]) } }
    if q = [] then t.toggle (11 + r.agent) else t
  else
    let w := e.words r.consumer
    { s with disp := s.disp.put { e with st := .inService } }.emitDep 82 r.consumer w.1 e.flow e.prio r.lane e.depCan w.2

/-- DISPATCH. -/
def execDispatch (stalled : List Nat) (s : State) : Host.Outcome State Fault Refusal :=
  if !s.flag bDsp Rg.DSP_CTRL.ENABLE then .next s
  else match bestEntry (s.disp.entries.filter (s.eligible stalled)) with
    | none => .next s
    | some e => .next (s.serve e)

end Sys2Proof.Machine
end

