-- ==== Sys2Proof/Machine/Time.lean ====
section
/-! DEFINITION. The time core's operations (R141–R164). The commands that call them stand in TimeRows, after the
functions that react to a step. -/

namespace Sys2Proof.Machine

/-- The slew rate in ns/s as it acts (R150): 0 acts as 1, and outside SURVEY at most 100. -/
def State.slewRate (s : State) : Nat :=
  let r := max (s.get bTime Rg.TIME_SLEW.RATE) 1
  if s.mode = .survey then r else min r 100

/-- What a slew adds on one TIME edge of 4 ns, in 1/(250·10^6) of 2^−32 ns: RATE ns per second over 250·10^6 edges. -/
def State.slewStep (s : State) : Nat := s.slewRate * 2 ^ 32

/-- TIME edges in a second. -/
def edgeHz : Nat := 250000000

/-- The sign of the slew. -/
def State.slewSign (s : State) : Int := if s.time.rem < 0 then -1 else 1

/-- TIME_INC. -/
def State.inc (s : State) : Nat := s.get bTime Rg.TIME_INC.INC

/-- What `n` edges slew, in 2^−32 ns: the parts that the rate gives, up to the remainder (R150). -/
def State.slewed (s : State) (n : Nat) : Nat := min s.time.rem.natAbs ((s.time.spare + n * s.slewStep) / edgeHz)

/-- What `n` edges add to the scale while no special edge lies among them, in 2^−32 ns (R142, R150). -/
def State.edgeSum (s : State) (n : Nat) : Nat := ((n * s.inc : Nat) + s.slewSign * (s.slewed n : Nat)).toNat

/-- The least number of edges that adds `d` to the scale. -/
def State.edgesFor (s : State) (d : Nat) : Nat :=
  let up := ceilDiv (d * edgeHz - s.time.spare) (s.inc * edgeHz + s.slewStep)
  let down := (d * edgeHz + s.time.spare - edgeHz) / (s.inc * edgeHz - s.slewStep) + 1
  let n := if s.time.rem = 0 then ceilDiv d s.inc else if 0 ≤ s.time.rem then up else down
  if s.time.rem = 0 ∨ (s.time.spare + n * s.slewStep) / edgeHz ≤ s.time.rem.natAbs then n
  else ceilDiv ((d : Int) - s.time.rem).toNat s.inc

/-- One second in 2^−32 ns. -/
def secUnits : Nat := 1000000000 * 2 ^ 32

/-- Edges up to the second boundary (R143). -/
def State.edgesToSecond (s : State) : Nat := max 1 (s.edgesFor (secUnits - s.time.sec))

/-- Edges up to the wrap of TIME_NS (R146). -/
def State.edgesToWrap (s : State) : Nat := max 1 (s.edgesFor (2 ^ 64 - (s.time.ns * 2 ^ 32 + s.time.frac)))

/-- Edges up to the end of the slew; none when no slew is in progress. -/
def State.edgesToSlewEnd (s : State) : Option Nat :=
  if s.time.rem = 0 then none else some (max 1 (ceilDiv (s.time.rem.natAbs * edgeHz - s.time.spare) s.slewStep))

/-- The wrap edge (R146): the era takes TIME_ERA_NEXT, or increments with ERA_MISS. A label other than the old era + 1 moves no
second boundary; a leap that it has already passed takes effect on the next TIME edge. -/
def State.wrapEra (s : State) : State :=
  if s.flag bTime Rg.TIME_STAT.ERA_PEND then
    let e := s.get bTime Rg.TIME_ERA_NEXT.ERA
    let off : Int := ((e : Int) - s.time.era - 1) * 2 ^ 32
    let t := { s with time := { s.time with era := e } }
    let due := s.time.leap && decide (t.get bTime Rg.LEAP_AT.INSTANT ≤ t.now ∧ off ≠ 0)
    { t with time := { t.time with bound := ((t.time.bound : Int) + off).toNat, relab := if off = 0 then none else some off,
                                   leapDue := due } }.set bTime Rg.TIME_STAT.ERA_PEND 0
  else
    let e := (s.time.era + 1) % 2 ^ 32
    let t := ({ s with time := { s.time with era := e } }).event 8 bTime Rg.TIME_EVT.ERA_MISS
    t.raise 0x010 2 8 (leBytes 4 e)

/-- SEC_PHASE recomputed from era : ns (R143). -/
def secOf (era ns frac : Nat) : Nat := (era * 2 ^ 32 + ns) % 1000000000 * 2 ^ 32 + frac

/-- An armed step applied on its second boundary (R152): the pulses of that boundary that have not come yet are suppressed. -/
def State.applyStep (s : State) (a : StepArm) : State :=
  let before := s.now
  let total : Int := if a.abs then a.val else (s.nowNs : Int) + sgn 64 a.val
  let n := (total % (2 ^ 64 : Nat)).toNat
  let fr := if a.abs then 0 else s.time.frac
  let off : Int := (n : Int) - s.nowNs
  let tc := { s.time with era := n / 2 ^ 32, ns := n % 2 ^ 32, frac := fr, sec := secOf (n / 2 ^ 32) (n % 2 ^ 32) fr,
                          bound := n / 1000000000 * 1000000000, rem := 0, spare := 0, armed := none, stepped := some off,
                          pps := s.time.pps.map (fun o => { o with due := false }) }
  let t := { s with time := tc }
  let t := t.sets bTime [(Rg.TIME_STAT.ERA_PEND, 0), (Rg.TIME_STAT.GEN, s.get bTime Rg.TIME_STAT.GEN + 1),
    (Rg.TIME_STEP_CTRL.RESULT, 2), (Rg.TIME_STAT.STEP_ARMED, 0)]
  let t := t.event 8 bTime Rg.TIME_EVT.STEP_DONE
  t.raise 0x011 1 8 (leBytes 8 before ++ leBytes 8 t.now)

/-- A due leap taken on a second boundary at or after LEAP_AT (R164). -/
def State.takeLeap (s : State) : State :=
  if s.time.leap ∧ s.get bTime Rg.LEAP_AT.INSTANT ≤ s.now then
    let t := { s with time := { s.time with leap := false, leapAt := s.nowNs, oldOfs := s.get bTime Rg.UTC_CTRL.UTC_OFS } }
    (t.set bTime Rg.UTC_CTRL.UTC_OFS (t.get bTime Rg.UTC_CTRL.NEXT_OFS)).event 8 bTime Rg.TIME_EVT.LEAP_DONE
  else s

/-- The second boundary: a due leap, then a step armed at least 1 ms before (R152, R164). -/
def State.second (s : State) : State :=
  let sec := s.time.sec - secUnits
  let pps := s.time.pps.map (fun o => { o with due := !o.early, early := false })
  let s := { s with time := { s.time with sec := sec, bound := (s.nowNs * 2 ^ 32 + s.time.frac - sec) / 2 ^ 32, pps := pps } }
  let s := s.takeLeap
  match s.time.armed with
  | some a => if a.wait = 0 then s.applyStep a else s
  | none => s

/-- `n` edges added, none of them special but possibly the last (R142). -/
def State.addEdges (s : State) (n : Nat) : State :=
  let d := s.edgeSum n
  let acc := s.time.ns * 2 ^ 32 + s.time.frac + d
  let part : Int := (s.slewed n : Nat)
  let wrapped := decide (2 ^ 64 ≤ acc)
  let left := s.time.rem - s.slewSign * part
  let tc := { s.time with ns := acc / 2 ^ 32 % 2 ^ 32, frac := acc % 2 ^ 32, sec := s.time.sec + d,
                          rem := left, spare := if left = 0 then 0 else (s.time.spare + n * s.slewStep) % edgeHz,
                          armed := s.time.armed.map (fun a => { a with wait := a.wait - d }), leapDue := false }
  let leap := s.time.leapDue
  let s := { s with time := tc }
  let s := if leap then s.takeLeap else s
  let s := if wrapped then s.wrapEra else s
  if secUnits ≤ s.time.sec then s.second else s

/-! ### Register writes of the time core -/

/-- Who may write the time core (R74). -/
def mayTime (s : State) (m : Master) : Bool :=
  m == .gauntlet || m == .tp || (m == .jtag && s.debugFull)

/-- A TIME_INC value taken if it lies within nominal ±200 ppm (R144). -/
def State.takeInc (s : State) (v : Nat) : State :=
  if 0x3_FFCB_923A ≤ v ∧ v ≤ 0x4_0034_6DC6 then s.set bTime Rg.TIME_INC.INC v
  else s.event 8 bTime Rg.TIME_EVT.TINC_RANGE

/-- A register write of TIME_INC (R144, R145). -/
def State.incWrite (s : State) (v : Nat) : State :=
  if s.flag bTime Rg.TIME_CTRL.INC_SRC then s.event 8 bTime Rg.TIME_EVT.INC_SRC_VIOL else s.takeInc v

/-- A write of TIME_ERA_NEXT (R147): ignored in the closed window. -/
def State.eraNextWrite (s : State) (v : Nat) : State :=
  if 0xFFF0_BDC0 ≤ s.time.ns then s.event 8 bTime Rg.TIME_EVT.ERA_LATE
  else (s.set bTime Rg.TIME_ERA_NEXT.ERA v).set bTime Rg.TIME_STAT.ERA_PEND 1

/-- A write of TIME_ADJ starts or replaces a slew (R150). -/
def State.adjWrite (s : State) (v : Nat) : State :=
  let s := if s.time.rem = 0 then s else s.event 8 bTime Rg.TIME_EVT.ADJ_REPLACED
  { s with time := { s.time with rem := sgn 64 v, spare := 0 } }

/-- A write of TIME_STEP_CTRL with CANCEL: any armed step is disarmed (R151). -/
def State.stepCancelOp (s : State) (abs : Bool) : State :=
  let s := (s.setB bTime Rg.TIME_STEP_CTRL.ABS abs).sets bTime [(Rg.TIME_STEP_CTRL.RESULT, 6), (Rg.TIME_STAT.STEP_ARMED, 0)]
  { s with time := { s.time with armed := none } }

/-- The refusal of a step, in the order of R151: 0 when it is accepted. -/
def State.stepRefusal (s : State) (abs : Bool) (v : Nat) : Nat :=
  match s.mode with
  | .bootstrap | .dormant => 3
  | .survey => 0
  | _ => if abs then 3 else if (sgn 64 v).natAbs ≤ 10000 then 4
         else if s.flag bTime Rg.TPOL_SRC.STEP_OK then 0 else 5

/-- A write of TIME_STEP_CTRL with GO (R151): the step is armed with the values of that instant, or refused. -/
def State.stepGo (s : State) (abs : Bool) : State :=
  let s := s.setB bTime Rg.TIME_STEP_CTRL.ABS abs
  let v := s.get bTime Rg.TIME_STEP.VALUE
  let r := s.stepRefusal abs v
  if r = 0 then
    let t := s.sets bTime [(Rg.TIME_STEP_CTRL.RESULT, 1), (Rg.TIME_STAT.STEP_ARMED, 1)]
    { t with time := { t.time with armed := some ⟨abs, v, 1000000 * 2 ^ 32⟩ } }
  else (s.set bTime Rg.TIME_STEP_CTRL.RESULT r).event 8 bTime Rg.TIME_EVT.STEP_REFUSED

/-- The estimate TIME_TERR (R156). -/
def State.terr (s : State) : Nat :=
  match s.get bTime Rg.TIME_CTRL.STATE with
  | 0 => 0xFFFF_FFFF
  | 3 => s.time.terr
  | _ => min (s.time.terrW + ceilDiv s.time.rem.natAbs (2 ^ 32)) 0xFFFF_FFFF

/-- A write of TIME_TERR (R156): in HOLDOVER only upward. -/
def State.terrW (s : State) (v : Nat) : State :=
  let v := v % 2 ^ 32
  if s.get bTime Rg.TIME_CTRL.STATE = 3 then
    if s.time.terr < v then
      { s with time := { s.time with terr0 := s.time.terr0 + (v - s.time.terr), terr := v, terrW := v } }
    else s
  else { s with time := { s.time with terrW := v } }

/-- The estimate of HOLDOVER after `ms` milliseconds (R156): RATE in 2^−16 ns/s, DRIFT in 2^−32 ns/s². -/
def State.holdEstimate (s : State) (ms : Nat) : Nat :=
  let num := s.get bTime Rg.TIME_HO.RATE * ms * (2 * 1000 * 2 ^ 16) + s.get bTime Rg.TIME_HO.DRIFT * ms * ms
  min (s.time.terr0 + num / (2 * 1000000 * 2 ^ 32)) 0xFFFF_FFFF

/-- The millisecond evaluation of HOLDOVER (R156). -/
def State.terrStep (s : State) : State :=
  if s.get bTime Rg.TIME_CTRL.STATE = 3 then
    let t := s.count bTime Rg.TIME_HO_T.ELAPSED 1
    { t with time := { t.time with terr := t.holdEstimate (t.get bTime Rg.TIME_HO_T.ELAPSED) } }
  else s

/-- TIME_CTRL.STATE set (R153): HOLDOVER starts from the present estimate with ELAPSED 0, and leaving it clears ELAPSED.
Codes 5–7 are ignored, and STATE stays HOLDOVER while REF10_IN is out of range (R157). -/
def State.setTimeState (s : State) (c : Nat) : State :=
  let old := s.get bTime Rg.TIME_CTRL.STATE
  if 5 ≤ c ∨ c = old ∨ (old = 3 ∧ !s.flag bTime Rg.TIME_STAT.REF_OK) then s
  else if c = 3 then
    let e := s.terr
    let t := (s.set bTime Rg.TIME_CTRL.STATE 3).set bTime Rg.TIME_HO_T.ELAPSED 0
    { t with time := { t.time with terr0 := e, terr := e } }
  else (s.set bTime Rg.TIME_CTRL.STATE c).set bTime Rg.TIME_HO_T.ELAPSED 0

/-- Whether STATE has just become HOLDOVER while the mode is SERVICE, so that TP requests HOLDOVER (R153). -/
def heldOver (s t : State) : Bool :=
  s.get bTime Rg.TIME_CTRL.STATE != 3 && t.get bTime Rg.TIME_CTRL.STATE == 3 && decide (t.mode = .service)

/-- A write of TIME_CTRL: INC_SRC and QUAL as RW, STATE under R153. -/
def State.ctrlWrite (s : State) (v : Nat) : State :=
  ((s.set bTime Rg.TIME_CTRL.INC_SRC (bits 0 1 v)).set bTime Rg.TIME_CTRL.QUAL (bits 4 4 v)).setTimeState (bits 1 3 v)

/-- REF10_IN fails (R157). -/
def State.refLost (s : State) : State :=
  let t := (s.setTimeState 3).sets bTime [(Rg.TIME_STAT.REF_OK, 0), (Rg.TIME_HO.RATE, 20000 * 65536)]
  let t := { t with boot := { t.boot with refKept := false } }.event 8 bTime Rg.TIME_EVT.REF_FAIL
  t.raise 0x012 4 8 (leBytes 4 (t.get bTime Rg.TIME_STAT.GEN + b2n (t.time.rem != 0) * 16 +
    b2n t.time.armed.isSome * 32 + t.get bTime Rg.TIME_STAT.ERA_PEND * 64))

/-! ### Discipline sources (R154, R155) -/

/-- The position of a source in TPOL_SRC, 0 highest; 4 when it is not configured. -/
def State.srcRank (s : State) (src : Nat) : Nat :=
  let p := [s.get bTime Rg.TPOL_SRC.PRI0, s.get bTime Rg.TPOL_SRC.PRI1, s.get bTime Rg.TPOL_SRC.PRI2,
            s.get bTime Rg.TPOL_SRC.PRI3]
  if src = 0 then 4 else p.idxOf src

/-- Whether a source is valid. -/
def State.srcIs (s : State) (src : Nat) : Bool := s.time.valid.any (fun v => v.src == src)

/-- The source of highest priority among phase sources (codes 1–4) that a test admits; 0 for none. -/
def State.bestOf (s : State) (ok : Nat → Bool) : Nat :=
  ([1, 2, 3, 4].filter (fun c => ok c && decide (s.srcRank c < 4))).foldl
    (fun b c => if b = 0 ∨ s.srcRank c < s.srcRank b then c else b) 0

/-- The valid, configured phase source of highest priority; 0 for none. -/
def State.bestSource (s : State) : Nat := s.bestOf s.srcIs

/-- Whether a source may be selected beside a valid one (R155): one that was lost only with REVERT and after HOLD_S seconds. -/
def State.mayTake (s : State) (src : Nat) : Bool :=
  s.time.valid.any (fun v => v.src == src && (!v.again ||
    (s.flag bTime Rg.TPOL_SRC.REVERT && decide (v.since + s.get bTime Rg.TPOL_SRC.HOLD_S * 1000000000 ≤ s.nowNs))))

/-- TP selects a source and moves the state on (R153): from UNSET to ACQUIRING, from HOLDOVER to RECOVERING. -/
def State.select (s : State) (src : Nat) : State :=
  let t := { s with time := { s.time with sel := src } }
  match s.get bTime Rg.TIME_CTRL.STATE with
  | 0 => t.setTimeState 1
  | 3 => t.setTimeState 4
  | _ => t

/-- TP selects the highest-priority valid phase source (R155): any valid one while none is selected, else one that may take over.
In BOOTSTRAP and DORMANT the scale runs free, and TP selects none (R108). -/
def State.reselect (s : State) : State :=
  if s.mode = .bootstrap ∨ s.mode = .dormant then s
  else if s.time.sel = 0 then if s.bestSource = 0 then s else s.select s.bestSource
  else
    let b := s.bestOf s.mayTake
    if b ≠ 0 ∧ s.srcRank b < s.srcRank s.time.sel then s.select b else s

/-- Whether two instants lie a whole second apart, within 1 µs; `k` the seconds. -/
def secondApart (a b k : Nat) : Bool := decide (((a : Int) - b - (k * 1000000000 : Nat)).natAbs ≤ 1000)

/-- Whether the last three edges of PPS_IN lie 1 s ± 1 µs apart (R154). -/
def ppsSteady : List Nat → Bool
  | a :: b :: c :: _ => secondApart a b 1 && secondApart b c 1
  | _ => false

/-- Whether an OBS tile reports a time solution that is not older than 3 s (R154, R237). -/
def State.solved (s : State) : Bool :=
  (List.range 2).any (fun i => let b := kindBase .obs i
                               s.flag b Rg.OB_TSOL.VALID && decide (s.nowNs ≤ s.get b Rg.OB_TSOL_AT.AT + 3000000000))

/-- Whether a source meets its validity rule as far as the device's own state shows it: the GNSS solution and the stamps of PPS_IN;
the PTP port's state and the frequency of 10MHZ_IN come with the command. -/
def State.srcMeets (s : State) (src : Nat) : Bool :=
  match src with
  | 1 => s.solved
  | 4 => ppsSteady s.time.ppsIn
  | _ => true

/-- Whether a source meets its loss rule, as `srcMeets`. -/
def State.srcGone (s : State) (src : Nat) : Bool :=
  match src with
  | 1 => !s.solved
  | 4 => decide (s.time.ppsGood + 3000000000 ≤ s.nowNs)
  | _ => true

/-- While 10MHZ_IN alone is valid, RATE takes that source's declared uncertainty (R154). -/
def State.holdRate (s : State) (rate : Nat) : State :=
  if s.get bTime Rg.TIME_CTRL.STATE = 3 ∧ s.srcIs 5 ∧ s.bestSource = 0 then s.set bTime Rg.TIME_HO.RATE rate else s

/-- A source meets its validity rule. -/
def State.srcValid (s : State) (src rate : Nat) : State :=
  if src = 0 ∨ 5 < src ∨ !s.srcMeets src then s
  else
    let v := if s.srcIs src then s.time.valid else ⟨src, s.nowNs, s.time.lost.contains src⟩ :: s.time.valid
    let t := { s with time := { s.time with valid := v } }
    (if src = 5 then t.holdRate rate else t).reselect

/-- A source meets its loss rule: TP reselects, or the state becomes HOLDOVER when every configured phase source is lost
(R154). -/
def State.srcLost (s : State) (src rate : Nat) : State :=
  if !s.srcIs src ∨ !s.srcGone src then s
  else
    let t := { s with time := { s.time with valid := s.time.valid.filter (fun v => v.src != src),
                                            lost := if s.time.lost.contains src then s.time.lost else src :: s.time.lost } }
    if t.time.sel ≠ src then t
    else if t.bestSource ≠ 0 then t.select t.bestSource
    else
      let u := { t with time := { t.time with sel := 0 } }
      (if u.get bTime Rg.TIME_CTRL.STATE = 0 then u else u.setTimeState 3).holdRate rate

/-- A stamp of PPS_IN seen by TP (R154, R159). -/
def State.ppsStamp (s : State) (at_ : Nat) : State :=
  let l := (at_ :: s.time.ppsIn).take 3
  let d := ((at_ : Int) - s.time.ppsGood) % 1000000000
  let good := ppsSteady l || decide (d ≤ 1000) || decide (1000000000 - 1000 ≤ d)
  { s with time := { s.time with ppsIn := l, ppsGood := if good then at_ else s.time.ppsGood } }

/-! ### TDC (R158) -/

/-- Whether an edge on channel `ch` is stamped (R158): its polarity is the channel's, and no edge of that polarity came within the
100 ns before it. `at_` in 1/256 ns. -/
def State.tdcTakes (s : State) (ch : Nat) (falling : Bool) (at_ : Nat) : Bool :=
  let e := s.time.edges.getD ch (none, none)
  decide (ch ≤ 12) && s.flag (bTime + ch * 0x10) Rg.TDC_SUB.POL == falling &&
  (match if falling then e.2 else e.1 with
   | some p => !decide (((at_ : Int) - p).natAbs ≤ 25600)
   | none => true)

/-- The tiles that take the stamps of a channel (R51, R158): the TRIG tiles those of channels 1–4, the MAC tiles those of channels
5–12. A stamp for a tile that is not instanced or not powered is not sent. -/
def State.stampTiles (s : State) (ch : Nat) : List Nat :=
  (if ch = 0 then [] else if ch ≤ 4 then tilePositions .trig else tilePositions .mac).filter
    (fun p => s.instanced p && s.on (domOf (islandOf p)))

/-- A stamp put into the queue of each of its tiles: a queue holds 14 (R42); a stamp that finds no credit is not queued (DESIGN CHOICE,
log entry 36). -/
def State.fly (s : State) (x : Stamp) : State :=
  let put (l : List (Nat × Stamp)) (p : Nat) : List (Nat × Stamp) :=
    if (l.filter (fun y => y.1 == p)).length < 14 then l ++ [(p, x)] else l
  { s with time := { s.time with flying := (s.stampTiles x.chan).foldl put s.time.flying } }

/-- An edge on TDC channel `ch`: of the other polarity it plays no part; within 100 ns of the previous edge it is lost. -/
def State.tdc (s : State) (ch : Nat) (falling : Bool) (stamp sub : Nat) : State :=
  let b := bTime + ch * 0x10
  if 12 < ch then s
  else
    let e := s.time.edges.getD ch (none, none)
    let at_ := stamp * 256 + sub % 256
    let t := { s with time := { s.time with edges := listSet s.time.edges ch (if falling then (e.1, some at_) else (some at_, e.2)) } }
    if s.flag b Rg.TDC_SUB.POL != falling then t
    else if !s.tdcTakes ch falling at_ then (t.set b Rg.TDC_SUB.OVR 1).event 8 bTime Rg.TIME_EVT.TDC_OVR
    else
      let t := if t.flag b Rg.TDC_SUB.NEW then (t.set b Rg.TDC_SUB.OVR 1).event 8 bTime Rg.TIME_EVT.TDC_OVR else t
      let t := (t.set b Rg.TDC_TS.TS stamp).set b Rg.TDC_SUB.SUB sub
      let t := t.event 9 b Rg.TDC_SUB.NEW
      if ch = 0 then t.ppsStamp stamp else t.fly ⟨ch, stamp, sub % 256, t.get bTime Rg.TIME_STAT.GEN⟩

/-- The oldest stamp on its way to a tile arrives there. -/
def State.deliver (s : State) (pos : Nat) (x : Nat × Stamp) : State :=
  let arr := s.time.arrived.filter (fun y => !(y.1 == pos && y.2.chan == x.2.chan)) ++ [x]
  { s with time := { s.time with flying := s.time.flying.erase x, arrived := arr } }

/-! ### PPS outputs (R160–R163) -/

/-- The base of PPS output `n`. -/
def ppsBase (n : Nat) : Nat := bTime + n * 0x20

/-- Output `n`'s state. -/
def State.ppsOut (s : State) (n : Nat) : PpsOut := s.time.pps.getD n .off

/-- Output `n`'s state replaced. -/
def State.setPps (s : State) (n : Nat) (o : PpsOut) : State :=
  { s with time := { s.time with pps := listSet s.time.pps n o } }

/-- Whether output `n` is enabled by PPS_CFGn.EN and IOBANK (R161). -/
def State.ppsEn (s : State) (n : Nat) : Bool := s.flag (ppsBase n) Rg.PPS_CFG.EN && bitOf (54 + n) s.img.io0

/-- Whether output `n` pulses (R161). -/
def State.ppsPulses (s : State) (n : Nat) : Bool :=
  s.ppsEn n && (s.get bTime Rg.TIME_CTRL.STATE != 0 || s.flag (ppsBase n) Rg.PPS_CFG.UNSET_EN)

/-- The cable delay an output compensates, in ps (R160): DELAY while COMP_EN is 1 and STATE is OPEN. -/
def State.ppsComp (s : State) (n : Nat) : Nat :=
  if s.flag (ppsBase n) Rg.PPS_CFG.COMP_EN ∧ s.get (ppsBase n) Rg.PPS_CABLE.STATE = 1 then s.get (ppsBase n) Rg.PPS_CABLE.DELAY else 0

/-- OFS of an output in ps, as its register holds it. -/
def State.ppsOfs (s : State) (n : Nat) : Int := s.getS (ppsBase n) Rg.PPS_OFS.OFS * 1000

/-- Whether the settings that move an output's pulse differ from those its next pulse uses. -/
def State.ppsMoved (s : State) (n : Nat) : Bool := (s.ppsOut n).ofs != s.ppsOfs n || (s.ppsOut n).comp != s.ppsComp n

/-- E + OFS − C of an output's next pulse, from E in ps (R160). -/
def PpsOut.shift (o : PpsOut) : Int := o.ofs - o.comp

/-- Whether the instant of an output's next rising edge has come: for the last second boundary, or for the next one when the edge
lies before it. -/
def State.ppsReady (s : State) (n : Nat) : Bool :=
  let o := s.ppsOut n
  let phase : Int := (s.time.sec * 1000 / 2 ^ 32 : Nat)
  if o.due then decide (o.shift ≤ phase) else decide (o.shift < 0 ∧ 1000000000000 + o.shift ≤ phase) && !o.early

/-- Whether the armed step applies on the next second boundary (R152). -/
def State.stepNext (s : State) : Bool :=
  match s.time.armed with
  | some a => decide (a.wait ≤ secUnits - s.time.sec)
  | none => false

/-- The rising edge of output `n` (R160, R161): placed at E + OFS − C on the 31.25 ps grid, a half step going to the later step, its
driver switched PPS_OUTDLY earlier; the settings written since the last rising edge apply from the next pulse, and a measurement
that waits counts from here unless they move it (R162). The pulse of a boundary on which a step applies is suppressed. -/
def State.ppsRise (s : State) (n : Nat) : State :=
  let o := s.ppsOut n
  let wait := match o.meas with
    | some none => if s.ppsMoved n then some none else some (some s.nowNs)
    | some (some t) => if s.ppsMoved n then some none else some (some t)
    | none => none
  let next := { o with ofs := s.ppsOfs n, comp := s.ppsComp n, due := false, early := o.early || !o.due, meas := wait }
  if !s.ppsPulses n ∨ (!o.due ∧ s.stepNext) then s.setPps n next
  else
    let p := (o.shift * 64 + 1000) / 2000
    s.setPps n { next with high := true, rose := s.nowNs, placed := p,
                           drive := p * 125 - 4 * s.get (ppsBase n) Rg.PPS_OUTDLY.DLY }

/-- A cable measurement asked for on output `n` (R162). -/
def State.measure (s : State) (n : Nat) : State :=
  let b := ppsBase n
  if 3 < n then s
  else if 400000 < s.get b Rg.PPS_CFG.WIDTH ∨ !s.ppsEn n then s.set b Rg.PPS_CABLE.STATE 6
  else (s.set b Rg.PPS_CABLE.STATE 4).setPps n { s.ppsOut n with meas := some none, launch := false }

/-- What the echo window saw, as STATE and DELAY (R163): half the time from the launch to the echo, less the fused internal path
delay; no crossing within 20 µs is a matched far end. -/
def cableResult (n : Nat) : CableEcho → Nat × Nat
  | .rise gap => if 20000000 < gap then (3, 0) else (1, (rnd 90 ((gap : Int) - 2 * Config.cablePath n) 2).toNat)
  | .fall gap => if 20000000 < gap then (3, 0) else (2, (rnd 90 ((gap : Int) - 2 * Config.cablePath n) 2).toNat)
  | .none => (3, 0)
  | .noPlateau => (5, 0)

/-- The result of a measurement (R163). The first result differs from no previous one and sets no PPS_CHG (DESIGN CHOICE, log entry
37). -/
def State.cable (s : State) (n : Nat) (e : CableEcho) : State :=
  let b := ppsBase n
  let o := s.ppsOut n
  let r := cableResult n e
  let chg := o.last.1 != 0 && (o.last.1 != r.1 || decide (2000 < r.2 - o.last.2 ∨ 2000 < o.last.2 - r.2))
  let s := (s.setPps n { o with meas := none, launch := false, last := r }).sets b [(Rg.PPS_CABLE.DELAY, r.2), (Rg.PPS_CABLE.STATE, r.1)]
  let s := s.eventIf (r.1 == 2) 8 bTime Rg.TIME_EVT.PPS_SHORT
  s.eventIf chg 8 bTime Rg.TIME_EVT.PPS_CHG

end Sys2Proof.Machine
end

