-- ==== Sys2Proof/Machine/Loop.lean ====
section
/-! DEFINITION. The loop engine (R166–R192). A loop signal is an integer in 2^−16 units (Q47.16). -/

namespace Sys2Proof.Machine

/-- The tile position of loop `l`. -/
def loopPos (l : Nat) : Nat := chanPos .loop l
/-- The base of loop `l`'s registers. -/
def lpBase (l : Nat) : Nat := laneBase .loop 0x200 l

/-- Loop `l` beside its registers. -/
def State.loop (s : State) (l : Nat) : LoopLane := s.loops.getD l .off
/-- Loop `l`'s lane replaced. -/
def State.setLoop (s : State) (l : Nat) (a : LoopLane) : State := { s with loops := listSet s.loops l a }

/-- Whether loop `l` is enabled. -/
def State.loopEn (s : State) (l : Nat) : Bool := s.chanOn .loop l && s.flag (lpBase l) Rg.LP_CTRL.EN

/-- The master that owns loop `l` (R92): 0–3 AC0–AC3, 4 MP, 5 TP; loop 0 is TP's. -/
def State.loopOwner (s : State) (l : Nat) : Option Master :=
  if l = 0 then some .tp else [Master.ac0, .ac1, .ac2, .ac3, .mp, .tp][(s.img.loops.getD l (6, false)).1]?

/-- Who may write a loop's lane registers (R93). -/
def mayLoop (s : State) (m : Master) (l : Nat) : Bool :=
  m == .gauntlet || (m == .jtag && s.debugFull) || s.loopOwner l == some m

/-- A result limited to the Q47.16 range (R166). -/
def q64 (i : Int) : Int := satS 64 i

/-- A tile event of loop `l`. -/
def State.loopEvent (s : State) (l : Nat) (f : Fld) : State := s.event (tileEv (loopPos l)) (lpBase l) f
/-- A tile event of loop `l` set when a condition holds. -/
def State.loopEventIf (s : State) (c : Bool) (l : Nat) (f : Fld) : State := if c then s.loopEvent l f else s

/-! ### The work area and the tables (R184–R190) -/

/-- The tile's work area: address and size (R88). -/
def State.workArea (s : State) (pos : Nat) : Option (Nat × Nat) :=
  (s.img.areas.find? (fun a => a.use == 1 && a.id == pos)).map (fun a => (areaAddr a, a.size))

/-- The bytes loop `l`'s compensation table occupies. -/
def State.tableSize (s : State) (l : Nat) : Nat :=
  if s.flag (lpBase l) Rg.LP_CFG.CT_SHAPE then s.get (lpBase l) Rg.LP_CT.COUNT * 4 else 5472

/-- Whether the table of a lane is in order (R186). -/
def State.tableOk (s : State) (l : Nat) : Bool :=
  match s.workArea (loopPos l) with
  | none => false
  | some (_, size) =>
    let base := s.get (lpBase l) Rg.LP_CT.BASE
    decide (base % 64 = 0) && decide (base + s.tableSize l ≤ size)

/-- A signed 32-bit word of memory, and whether it was returned poisoned. -/
def State.word32 (s : State) (a : Nat) : State × Int × Bool :=
  let r := s.memRead a 4
  match r.2 with
  | some l => (r.1, sgn 32 (leVal l), false)
  | none => (r.1, 0, true)

/-- A looked-up value: whether the index was clamped, and the address of a poisoned word if one was met. -/
structure Look where
  val   : Int
  clamp : Bool
  bad   : Option Nat
  deriving DecidableEq, Repr

/-- Table words read in turn. -/
def readTable : List Nat → State → State × List Int × Option Nat
  | [], s => (s, [], none)
  | a :: t, s =>
    let r := s.word32 a
    let q := readTable t r.1
    (q.1, r.2.1 :: q.2.1, if r.2.2 then some a else q.2.2)

/-- The bilinear value of a 2-D table at an azimuth and an elevation (R184). -/
def State.look2 (s : State) (base az : Nat) (el : Int) : State × Look :=
  let e := (clampI 0 9000 el).toNat
  let a := az % 36000 / 500
  let fa : Int := ((az % 36000 % 500 : Nat) : Int)
  let r := e / 500
  let fr : Int := ((e % 500 : Nat) : Int)
  let adr (r a : Nat) := base + (min r 18 * 72 + a % 72) * 4
  let q := readTable [adr r a, adr r (a + 1), adr (r + 1) a, adr (r + 1) (a + 1)] s
  let t (i : Nat) : Int := q.2.1.getD i 0
  let v := (500 - fa) * (500 - fr) * t 0 + fa * (500 - fr) * t 1 + (500 - fa) * fr * t 2 + fa * fr * t 3
  (q.1, ⟨rnd 1 v 250000, decide (el < 0 ∨ 9000 < el), q.2.2⟩)

/-- The linear value of a 1-D table at an index (R185). -/
def State.look1 (s : State) (base count step : Nat) (x0 x : Int) : State × Look :=
  let n := count - 1
  let k := max step 1
  let d := x - x0
  if d < 0 then
    let q := readTable [base] s
    (q.1, ⟨q.2.1.getD 0 0, true, q.2.2⟩)
  else
    let j := d.toNat / k
    if n ≤ j then
      let q := readTable [base + n * 4] s
      (q.1, ⟨q.2.1.getD 0 0, decide (n * k < d.toNat), q.2.2⟩)
    else
      let q := readTable [base + j * 4, base + (j + 1) * 4] s
      let a := q.2.1.getD 0 0
      let b := q.2.1.getD 1 0
      (q.1, ⟨a + rnd 2 ((b - a) * ((d.toNat % k : Nat) : Int)) k, false, q.2.2⟩)

/-- Loop `l`'s table at given indices. -/
def State.lookAt (s : State) (l az : Nat) (el x : Int) : State × Look :=
  let b := lpBase l
  match s.workArea (loopPos l) with
  | none => (s, ⟨0, true, none⟩)
  | some (area, _) =>
    let base := area + s.get b Rg.LP_CT.BASE
    if s.flag b Rg.LP_CFG.CT_SHAPE then
      s.look1 base (s.get b Rg.LP_CT.COUNT) (s.get b Rg.LP_CT1D.STEP) (s.getS b Rg.LP_CT1D.X0) x
    else s.look2 base az el

/-- The table feed-forward of an update (R185); `pv` is the measured value. -/
def State.tableFF (s : State) (l : Nat) (pv : Int) : State × Look :=
  let b := lpBase l
  if s.flag b Rg.LP_CFG.FF_TABLE then
    s.lookAt l (s.get b Rg.LP_IDX.AZ) (s.getS b Rg.LP_IDX.EL)
      (if s.flag b Rg.LP_CFG.CT_IDX_SRC then pv / 65536 else s.getS b Rg.LP_IDX.X)
  else (s, ⟨0, false, none⟩)

/-- The address of word `i` of the repetitive-controller memory (R189). -/
def State.rcAddr (s : State) (l i : Nat) : Nat :=
  let a := s.get (lpBase l) Rg.LP_RC_ADDR.ADDR
  if s.flag (lpBase l) Rg.LP_CFG.RC_DDR then a + i * 4
  else match s.workArea (loopPos l) with
    | some (area, _) => area + a + i * 4
    | none => a + i * 4

/-- Whether the memory of a lane's repetitive controller lies where R189 allows it. -/
def State.rcPlace (s : State) (l : Nat) : Bool :=
  let b := lpBase l
  let len := s.get b Rg.LP_RC.LEN
  let a := s.get b Rg.LP_RC_ADDR.ADDR
  if s.flag b Rg.LP_CFG.RC_DDR then decide (ddrBase ≤ a ∧ a + len * 4 ≤ ddrBase + s.ddrSize)
  else match s.workArea (loopPos l) with
    | some (_, size) => decide (len ≤ 65536 ∧ a + len * 4 ≤ size)
    | none => false

/-- Whether the repetitive controller of a lane is in order (R188, R189). -/
def State.rcOk (s : State) (l : Nat) : Bool :=
  let b := lpBase l
  let len := s.get b Rg.LP_RC.LEN
  decide (2 ≤ len ∧ len ≤ 86164 ∧ s.get b Rg.LP_RC.LEAD < len ∧ s.get b Rg.LP_RC.Q ≤ 0x10000 ∧
    s.get b Rg.LP_RC_ADDR.ADDR % 64 = 0) && s.rcPlace l &&
  (!s.flag b Rg.LP_CFG.RC_DDR || decide (1000 ≤ s.get b Rg.LP_TIMING.PERIOD))

/-- The repetitive feed-forward of an update: 0 while the memory is being cleared (R190). -/
def State.rcFF (s : State) (l : Nat) : State × Int × Option Nat :=
  let b := lpBase l
  if s.flag b Rg.LP_CFG.FF_RC ∧ !s.flag b Rg.LP_STAT.RC_BUSY then
    let i := (s.get b Rg.LP_RC_STAT.POS + s.get b Rg.LP_RC.LEAD) % max (s.get b Rg.LP_RC.LEN) 1
    let a := s.rcAddr l i
    let r := s.word32 a
    (r.1, r.2.1, if r.2.2 ∧ !s.flag b Rg.LP_CFG.RC_DDR then some a else none)
  else (s, 0, none)

/-- The repetitive controller learns into m[pos] (R172, R188). -/
def State.rcLearn (s : State) (l : Nat) (e : Int) : State :=
  let b := lpBase l
  let a := s.rcAddr l (s.get b Rg.LP_RC_STAT.POS)
  let r := s.word32 a
  let v := rnd 3 (s.get b Rg.LP_RC.Q * r.2.1 + s.getS b Rg.LP_RC_L.L * e) 65536
  let w := satS 32 v
  ((r.1.memWrite a (leBytes 4 (pat 32 w))).1).loopEventIf (w != v) l Rg.LP_EVT.RC_SAT

/-- pos moves on; a completed period is counted. -/
def State.rcNext (s : State) (l : Nat) : State :=
  let b := lpBase l
  let p := s.get b Rg.LP_RC_STAT.POS + 1
  if s.get b Rg.LP_RC.LEN ≤ p then (s.set b Rg.LP_RC_STAT.POS 0).count b Rg.LP_RC_STAT.PASSES 1
  else s.set b Rg.LP_RC_STAT.POS p

/-! ### Enable (R169, R173–R175) -/

/-- Whether a source selection is allowed and its link there (R167, R169). -/
def State.loopSrcOk (s : State) (l code idx : Nat) : Bool :=
  match code with
  | 0 => true
  | 1 => decide (idx ≤ 12) && (s.linkTo 80 (loopPos l)).isSome
  | 2 | 3 => decide (idx ≤ 63) && (s.linkTo (chanPos .filt idx) (loopPos l)).isSome
  | 4 => decide (idx ≤ 15 ∧ idx ≠ l % 16)
  | _ => false

/-- Whether the links of a repetitive-controller memory in DDR are there (R169). -/
def State.rcLinks (s : State) (l : Nat) : Bool :=
  !(s.flag (lpBase l) Rg.LP_CFG.FF_RC && s.flag (lpBase l) Rg.LP_CFG.RC_DDR) || s.linked (loopPos l) 83

/-- Whether a loop may drive the target it selects, and every link beside its sources' is there (R169, R173). -/
def State.loopTgtOk (s : State) (l : Nat) : Bool :=
  s.rcLinks l &&
  (match s.get (lpBase l) Rg.LP_CFG.OUT_TGT with
   | 0 => true
   | 1 | 2 => decide (l = 0) && (s.linkTo (loopPos l) 80).isSome
   | 3 => (s.img.loops.getD l (6, false)).2 && (s.linkTo (loopPos l) 95).isSome
   | _ => false)

/-- Whether two loops name the same target; REG is nobody's. -/
def State.sameTgt (s : State) (l k : Nat) : Bool :=
  let t := s.get (lpBase l) Rg.LP_CFG.OUT_TGT
  t != 0 && s.get (lpBase k) Rg.LP_CFG.OUT_TGT == t &&
  (t != 3 || s.get (lpBase l) Rg.LP_CFG.NOTCH_SEL == s.get (lpBase k) Rg.LP_CFG.NOTCH_SEL)

/-- Whether the target is already claimed by an enabled lane (R174). -/
def State.tgtBusy (s : State) (l : Nat) : Bool :=
  (List.range 64).any (fun k => k != l && s.loopEn k && s.sameTgt l k)

/-- The width in bits of the EFC DAC. -/
def State.efcBits (s : State) : Nat :=
  match s.get bTime Rg.EFC_CFG.BITS with
  | 1 => 18 | 2 => 20 | _ => 16

/-- Whether the output limits are in order for the target (R173). -/
def State.loopLimOk (s : State) (l : Nat) : Bool :=
  let lo := s.getS (lpBase l) Rg.LP_OUTLIM.OUT_MIN
  let hi := s.getS (lpBase l) Rg.LP_OUTLIM.OUT_MAX
  decide (lo ≤ hi) &&
  (match s.get (lpBase l) Rg.LP_CFG.OUT_TGT with
   | 1 => decide (0 ≤ lo ∧ hi < (2 ^ s.efcBits : Nat))
   | 2 => decide (-3435974 ≤ lo ∧ hi ≤ 3435974)
   | 3 => decide (-(2 ^ 23 : Nat) ≤ lo ∧ hi < (2 ^ 23 : Nat))
   | _ => true)

/-- The first check an enable fails, as LP_STAT.REFUSE; 0 when it passes them all (R175). -/
def State.loopRefusal (s : State) (l : Nat) : Nat :=
  let b := lpBase l
  if !(s.loopSrcOk l (s.get b Rg.LP_CFG.SP_SRC) (s.get b Rg.LP_CFG.SP_IDX) &&
       s.loopSrcOk l (s.get b Rg.LP_CFG.PV_SRC) (s.get b Rg.LP_CFG.PV_IDX)) then 1
  else if !s.loopTgtOk l then 2
  else if s.tgtBusy l then 3
  else if !s.loopLimOk l then 4
  else if (s.flag b Rg.LP_CFG.FF_TABLE || s.flag b Rg.LP_CFG.CT_SVC) && !s.tableOk l then 5
  else if s.flag b Rg.LP_CFG.FF_RC && !s.rcOk l then 6
  else 0

/-- The lane as an accepted enable starts it. -/
def State.startLane (s : State) (l : Nat) : LoopLane :=
  { s.loop l with
    fresh := false, sampleAt := s.nowNs, lastUpd := none, period := s.get (lpBase l) Rg.LP_TIMING.PERIOD,
    phase := s.get (lpBase l) Rg.LP_TIMING.PHASE, retime := false, nxt := none, stepSeen := false,
    enter := if s.flag (lpBase l) Rg.LP_CTRL.AUTO then some false else none, satAt := none, satNs := 0, satFired := false }

/-- EN set on a disabled lane (R175). Loop 0 enabled while the device is in HOLDOVER already starts without the MODE hold, which
R180 ties to the commit of a change (DESIGN CHOICE, log entry 38). -/
def State.loopStart (s : State) (l : Nat) : State :=
  let b := lpBase l
  let r := s.loopRefusal l
  if r = 0 then
    let t := s.setLoop l (s.startLane l)
    t.sets b [(Rg.LP_CTRL.EN, 1), (Rg.LP_STAT.REFUSE, 0), (Rg.LP_STAT.STATE, if s.flag b Rg.LP_CTRL.AUTO then 2 else 1),
      (Rg.LP_STAT.HOLD_CAUSE, 0), (Rg.LP_STAT.SAT, 0), (Rg.LP_STAT.STALE, 0)]
  else (s.set b Rg.LP_STAT.REFUSE r).loopEvent l Rg.LP_EVT.REFUSED

/-- EN cleared: the lane is DISABLED and its claim is released (R174). -/
def State.loopStop (s : State) (l : Nat) : State :=
  (s.sets (lpBase l) [(Rg.LP_CTRL.EN, 0), (Rg.LP_STAT.STATE, 0), (Rg.LP_STAT.HOLD_CAUSE, 0), (Rg.LP_SAT.SAT_TIME, 0)]).setLoop l
    { s.loop l with nxt := none, enter := none, satAt := none, satNs := 0, satFired := false }

/-- RC_CLEAR: the clear starts unless one runs (R190). -/
def State.rcClear (s : State) (l : Nat) : State := s.set (lpBase l) Rg.LP_STAT.RC_BUSY 1

/-- The fields of LP_CTRL that a write stores. -/
def State.loopCtl (s : State) (l : Nat) (auto freeze : Bool) : State :=
  (s.setB (lpBase l) Rg.LP_CTRL.AUTO auto).setB (lpBase l) Rg.LP_CTRL.RC_FREEZE freeze

/-- A write of LP_CTRL with EN at 1. -/
def State.loopEnWrite (s : State) (l : Nat) (auto freeze : Bool) : State :=
  let t := s.loopCtl l auto freeze
  if s.flag (lpBase l) Rg.LP_CTRL.EN then t else t.loopStart l

/-- A write of LP_CTRL with EN at 0. -/
def State.loopDisWrite (s : State) (l : Nat) (auto freeze : Bool) : State := (s.loopCtl l auto freeze).loopStop l

/-- An LP_CTRL value written. -/
def State.loopCtrlWrite (s : State) (l v : Nat) : State :=
  let t := if bitOf 0 v then s.loopEnWrite l (bitOf 1 v) (bitOf 3 v) else s.loopDisWrite l (bitOf 1 v) (bitOf 3 v)
  if bitOf 2 v then t.rcClear l else t

/-- A write to a loop's registers: refused with an error response to a master that may not (R93). -/
def State.loopWrite (s : State) (m : Master) (l off : Nat) (f : State → State) : State :=
  s.actWrite m (decide (l < 64) && mayLoop s m l) .fb (lpBase l + 0x1000 + off) (fun t => if t.chanOn .loop l then f t else t)

/-- LOOP_ENABLE: LP_CTRL written with EN 1. -/
def execLoopEnable (m : Master) (l : Nat) (auto freeze : Bool) (s : State) : Host.Outcome State Fault Refusal :=
  .next (s.loopWrite m l 8 (fun t => t.loopEnWrite l auto freeze))

/-- LOOP_DISABLE: LP_CTRL written with EN 0. -/
def execLoopDisable (m : Master) (l : Nat) (auto freeze : Bool) (s : State) : Host.Outcome State Fault Refusal :=
  .next (s.loopWrite m l 8 (fun t => t.loopDisWrite l auto freeze))

/-- RC_CLEAR. -/
def execRcClear (m : Master) (l : Nat) (s : State) : Host.Outcome State Fault Refusal :=
  .next (s.loopWrite m l 8 (fun t => t.rcClear l))

/-- `n` words of 4 bytes zeroed from an address on. -/
def zeroWords : Nat → Nat → State → State
  | 0, _, s => s
  | n + 1, a, s => zeroWords n (a + 4) (s.memWrite a [0, 0, 0, 0]).1

/-- RC_CLEAR_DONE: the memory is zero, pos is 0 and PASSES is cleared (R190). Only a memory that lies where it may is written. -/
def execRcClearDone (l : Nat) (s : State) : Host.Outcome State Fault Refusal :=
  let b := lpBase l
  if s.chanOn .loop l ∧ s.flag b Rg.LP_STAT.RC_BUSY then
    let t := if s.rcPlace l then zeroWords (s.get b Rg.LP_RC.LEN) (s.rcAddr l 0) s else s
    .next (t.sets b [(Rg.LP_STAT.RC_BUSY, 0), (Rg.LP_RC_STAT.POS, 0), (Rg.LP_RC_STAT.PASSES, 0)])
  else .next s

/-! ### Samples (R167, R168, R179) -/

/-- HOLD ends for the state AUTO selects, once no cause is left (R179, R180). -/
def State.leaveHold (s : State) (l : Nat) : State :=
  let b := lpBase l
  if s.get b Rg.LP_STAT.STATE = 3 ∧ s.get b Rg.LP_STAT.HOLD_CAUSE = 0 then
    let auto := s.flag b Rg.LP_CTRL.AUTO
    (s.set b Rg.LP_STAT.STATE (if auto then 2 else 1)).setLoop l { s.loop l with enter := if auto then some true else none }
  else s

/-- A new sample of the measured value of loop `l`. -/
def State.pvSample (s : State) (l : Nat) : State :=
  let t := s.setLoop l { s.loop l with fresh := true, sampleAt := s.nowNs }
  let c := s.get (lpBase l) Rg.LP_STAT.HOLD_CAUSE
  ((t.set (lpBase l) Rg.LP_STAT.STALE 0).set (lpBase l) Rg.LP_STAT.HOLD_CAUSE (c / 2 * 2)).leaveHold l

/-- A sample of a source told to loop `l`. -/
def State.offer (s : State) (code idx l : Nat) : State :=
  let b := lpBase l
  if s.loopEn l ∧ s.get b Rg.LP_CFG.PV_SRC = code ∧ s.get b Rg.LP_CFG.PV_IDX = idx then s.pvSample l else s

/-- A sample of a source told to the first `n` loops from `l`. -/
def offerAll (code idx l : Nat) : Nat → State → State
  | 0, s => s
  | n + 1, s => offerAll code idx l n (s.offer code idx (l + n))

/-- A sample of a source that is no lane: it holds until the next one (R168). -/
def State.sample (s : State) (code idx : Nat) (v : Int) : State :=
  offerAll code idx 0 64 { s with samples := assocSet (code * 128 + idx) v s.samples }

/-- A stamp minus the nearest second boundary in 1/256 ns, a half going to the earlier one (R159, R167). -/
def State.phaseOf (s : State) (x : Stamp) : Int :=
  let p : Int := (((x.at_ : Int) - s.time.bound) * 256 + x.sub) % 256000000000
  if p * 2 ≤ 256000000000 then p else p - 256000000000

/-- A sample of a TDC channel (R167). -/
def State.tdcSample (s : State) (x : Stamp) : State := s.sample 1 x.chan (s.phaseOf x * 256)

/-- A fast-path output of waveform channel `ch`. -/
def State.fastSample (s : State) (ch : Nat) (code : Int) : State := s.sample 2 ch (q64 (code * 65536))
/-- A settled fine-path output of waveform channel `ch`. -/
def State.fineSample (s : State) (ch : Nat) (code : Int) : State := s.sample 3 ch (q64 (code * 65536))

/-- A write of LP_PV of loop `l` is a sample of a REG source. -/
def State.regSample (s : State) (l : Nat) : State :=
  if s.loopEn l ∧ s.get (lpBase l) Rg.LP_CFG.PV_SRC = 0 then s.pvSample l else s

/-! ### The control law (R170–R172, R177, R178, R182) -/

/-- The value of a source: the register, the last value of another lane's LP_U, or the last sample (R167, R168). A source without a
sample yet reads 0 (DESIGN CHOICE, log entry 38). -/
def State.srcValue (s : State) (l code idx : Nat) (reg : Fld) : Int :=
  match code with
  | 0 => s.getS (lpBase l) reg
  | 4 => s.getS (lpBase (l / 16 * 16 + idx)) Rg.LP_U.VALUE
  | c => lookupD 0 (c * 128 + idx) s.samples

/-- The set-point at an update. -/
def State.spIn (s : State) (l : Nat) : Int :=
  s.srcValue l (s.get (lpBase l) Rg.LP_CFG.SP_SRC) (s.get (lpBase l) Rg.LP_CFG.SP_IDX) Rg.LP_SP.VALUE
/-- The measured value at an update. -/
def State.pvIn (s : State) (l : Nat) : Int :=
  s.srcValue l (s.get (lpBase l) Rg.LP_CFG.PV_SRC) (s.get (lpBase l) Rg.LP_CFG.PV_IDX) Rg.LP_PV.VALUE

/-- beta = N·T / (1 + N·T) in 2^−32, N in 2^−16 / s and T in µs; 0 for N at 0 or below. -/
def loopBeta (n : Int) (period : Nat) : Int :=
  if n ≤ 0 then 0 else rnd 4 (2 ^ 32 * (n * period)) (65536000000 + n.toNat * period)

/-- The filtered derivative after an update. -/
def loopDeriv (kd n d dx : Int) (period : Nat) : Int :=
  if n ≤ 0 then 0
  else q64 (d + rnd 5 (loopBeta n period * (kd * dx * 1000000 - d * 65536 * period)) (2 ^ 48 * max period 1))

/-- What an update reads once at its start: error, derivative, feed-forward, gains, limits and the derivative's input. -/
structure LoopIn where
  e   : Int
  d   : Int
  ff  : Int
  kp  : Int
  ki  : Int
  lo  : Int
  hi  : Int
  per : Nat
  deriving DecidableEq, Repr

/-- kp × e + i + d + ff. -/
def LoopIn.sum (a : LoopIn) (i : Int) : Int := q64 (rnd 6 (a.kp * a.e) 65536 + i + a.d + a.ff)

/-- The integrator after an update that does not enter AUTO: not integrated further into saturation. -/
def LoopIn.integ (a : LoopIn) (i : Int) : Int :=
  let j := q64 (i + rnd 7 (a.ki * a.e * a.per) 65536000000)
  if (a.hi < a.sum j ∧ i < j) ∨ (a.sum j < a.lo ∧ j < i) then i else clampI a.lo a.hi j

/-- The preset of the integrator on the update that enters AUTO, before it is clamped (R178). -/
def LoopIn.preset (a : LoopIn) (uFrom : Int) : Int := q64 (uFrom - rnd 6 (a.kp * a.e) 65536 - a.d - a.ff)

/-- The state an update runs in: HOLD while a cause stands, otherwise as AUTO selects. -/
def State.loopState (s : State) (l : Nat) : Nat :=
  if s.get (lpBase l) Rg.LP_STAT.HOLD_CAUSE ≠ 0 then 3 else if s.flag (lpBase l) Rg.LP_CTRL.AUTO then 2 else 1

/-- Time in saturation added, or cleared (R182): an update that is not in AUTO ends the count. -/
def State.satTime (s : State) (l : Nat) (auto sat : Bool) : State :=
  let a := s.loop l
  let n := if sat then a.satNs + (match a.satAt with | some t => s.nowNs - t | none => 0) else 0
  (s.setLoop l { a with satAt := if auto then some s.nowNs else none, satNs := n, satFired := sat && a.satFired }).sets (lpBase l)
    [(Rg.LP_SAT.SAT_TIME, min (n / 1000000) (2 ^ 32 - 1)), (Rg.LP_STAT.SAT, b2n sat)]

/-- The count of saturation cleared at an entry to MANUAL or HOLD (R182). -/
def State.satClear (s : State) (l : Nat) : State :=
  (s.setLoop l { s.loop l with satAt := none, satNs := 0 }).set (lpBase l) Rg.LP_SAT.SAT_TIME 0

/-- The outcome of an update taken: registers, saturation time, the output item, learning, the samples of lanes that follow
this one, and the next grid instant. While RC_BUSY is 1 the lane does not learn into the memory that is being zeroed (DESIGN CHOICE,
log entry 38). -/
def State.loopOut (s : State) (l st : Nat) (a : LoopIn) (i u raw x : Int) : State :=
  let b := lpBase l
  let s := s.sets b [(Rg.LP_STAT.STATE, st), (Rg.LP_E.VALUE, pat 64 a.e), (Rg.LP_I.VALUE, pat 64 i),
    (Rg.LP_D.VALUE, pat 64 a.d), (Rg.LP_U.VALUE, pat 64 u)]
  let s := if st = 2 then s.set b Rg.LP_MAN.VALUE (pat 64 u) else s
  let s := s.satTime l (st == 2) (st == 2 && u != raw)
  let rc := s.flag b Rg.LP_CFG.FF_RC
  let s := if st = 2 ∧ rc ∧ !s.flag b Rg.LP_CTRL.RC_FREEZE ∧ u = raw ∧ !s.flag b Rg.LP_STAT.RC_BUSY then s.rcLearn l a.e else s
  let s := if rc then s.rcNext l else s
  let c := s.loop l
  let tgt := s.get b Rg.LP_CFG.OUT_TGT
  let out := if tgt = 0 then none else some (tgt, s.get b Rg.LP_CFG.NOTCH_SEL, roundDiv u 65536)
  let nxt := c.nxt.map (· + c.period * 1000)
  let s := s.setLoop l { c with xprev := x, stepSeen := false, enter := none, fresh := false, lastUpd := some s.nowNs,
                                nxt := nxt, out := out }
  offerAll 4 (l % 16) (l / 16 * 16) 16 s

/-- The control law of loop `l` (R172). -/
def State.loopLaw (s : State) (l : Nat) : State :=
  let b := lpBase l
  let c := s.loop l
  let pv := s.pvIn l
  let e := q64 (s.spIn l - pv)
  let x := if s.flag b Rg.LP_CFG.DERIV_PV then q64 (-pv) else e
  let xp := if c.stepSeen then x else c.xprev
  let s := s.loopEventIf c.stepSeen l Rg.LP_EVT.STEP_SKIP
  let s := if c.fresh then s.set b Rg.LP_STAT.STALE 0 else s.count b Rg.LP_STAT.STALE 1
  let n := s.getS b Rg.LP_N.GAIN
  let d := loopDeriv (s.getS b Rg.LP_KD.GAIN) n (s.getS b Rg.LP_D.VALUE) (x - xp) c.period
  let tb := s.tableFF l pv
  let rc := tb.1.rcFF l
  let s := rc.1.loopEventIf tb.2.clamp l Rg.LP_EVT.CT_CLAMP
  match tb.2.bad.or rc.2.2 with
  | some adr => (s.poisonDrop (loopPos l) adr).setLoop l { c with nxt := c.nxt.map (· + c.period * 1000), fresh := false }
  | none =>
    let a : LoopIn := ⟨e, d, q64 (tb.2.val + rc.2.1), s.getS b Rg.LP_KP.GAIN, s.getS b Rg.LP_KI.GAIN,
      s.getS b Rg.LP_OUTLIM.OUT_MIN * 65536, s.getS b Rg.LP_OUTLIM.OUT_MAX * 65536, c.period⟩
    let i := s.getS b Rg.LP_I.VALUE
    match s.loopState l with
    | 2 =>
      let entering := c.enter.isSome || s.get b Rg.LP_STAT.STATE != 2
      if entering then
        let uf := if c.enter = some true then s.getS b Rg.LP_U.VALUE else s.getS b Rg.LP_MAN.VALUE
        let p := a.preset uf
        let j := clampI a.lo a.hi p
        let raw := a.sum j
        (s.loopEventIf (j != p) l Rg.LP_EVT.PRESET_CLAMP).loopOut l 2 a j (clampI a.lo a.hi raw) raw x
      else
        let j := a.integ i
        let raw := a.sum j
        s.loopOut l 2 a j (clampI a.lo a.hi raw) raw x
    | 1 => let u := s.getS b Rg.LP_MAN.VALUE; s.loopOut l 1 a i u u x
    | _ => let u := s.getS b Rg.LP_U.VALUE; s.loopOut l 3 a i u u x

/-- The instant at which loop `l` is due (R170): its grid instant, or that of a sample that waits, but not within 100 µs of the last
update. -/
def State.loopAt (s : State) (l : Nat) : Option Nat :=
  let c := s.loop l
  if !s.loopEn l then none
  else if s.flag (lpBase l) Rg.LP_CFG.TRIG then
    if c.fresh then some (max c.sampleAt (match c.lastUpd with | some t => t + 100000 | none => 0)) else none
  else c.nxt

/-- Whether loop `l` is due. -/
def State.loopDue (s : State) (l : Nat) : Bool :=
  match s.loopAt l with
  | some t => decide (t ≤ s.nowNs)
  | none => false

/-- Whether a lane of the tile comes before loop `l`: one due earlier, or at the same instant with a lower number (R191). -/
def State.loopTurn (s : State) (l k : Nat) : Bool :=
  match s.loopAt l, s.loopAt k with
  | some t, some u => decide (u < t ∨ (u = t ∧ k < l))
  | _, _ => false

/-- LOOP_UPDATE: lanes of a tile run in the order in which they are due. -/
def execLoopUpdate (l : Nat) (s : State) : Host.Outcome State Fault Refusal :=
  if s.loopDue l ∧ !(List.range 16).any (fun k => s.loopTurn l (l / 16 * 16 + k)) then .next (s.loopLaw l) else .next s

/-- The output item applied to its target (R173, R191, R202). -/
def State.loopApply (s : State) (tgt sel : Nat) (u : Int) : State :=
  match tgt with
  | 1 => if s.flag bTime Rg.EFC_CFG.EN then s.set bTime Rg.EFC_VAL.CODE (pat 20 u) else s
  | 2 => if s.flag bTime Rg.TIME_CTRL.INC_SRC then s.takeInc (0x4_0000_0000 + u).toNat else s
  | 3 =>
    let p := bRf + sel / 4 * 0x1000
    let k := p + sel % 4 * 8
    if s.get k Rg.RF_NOTCH.MODE = 3 then s.setS k Rg.RF_NOTCH.CENTRE u else s.event 28 p Rg.RF_EVT.NOTCH_IGN
  | _ => s

/-- LOOP_OUTPUT_APPLY: the output item of loop `l` reaches the target it was sent to. -/
def execLoopOutputApply (l : Nat) (s : State) : Host.Outcome State Fault Refusal :=
  match (s.loop l).out with
  | none => .next s
  | some x => .next ((s.loopApply x.1 x.2.1 x.2.2).setLoop l { s.loop l with out := none })

/-- LOOP_STALE_TIMEOUT (R179). -/
def execLoopStaleTimeout (l : Nat) (s : State) : Host.Outcome State Fault Refusal :=
  let b := lpBase l
  let m := s.get b Rg.LP_TIMING.STALE_MAX
  let c := s.get b Rg.LP_STAT.HOLD_CAUSE
  if s.loopEn l ∧ m ≠ 0 ∧ c % 2 = 0 ∧ (s.loop l).sampleAt + m * (s.loop l).period * 1000 ≤ s.nowNs then
    .next (((s.satClear l).sets b [(Rg.LP_STAT.STATE, 3), (Rg.LP_STAT.HOLD_CAUSE, c + 1)]).loopEvent l Rg.LP_EVT.STALE_HOLD)
  else .next s

/-- SAT_LIM as it acts. -/
def State.satLim (s : State) (l : Nat) : Nat := min (max (s.get (lpBase l) Rg.LP_SAT.SAT_LIM) 1) 3600000

/-- LOOP_SAT_LIMIT (R182): once per saturation episode. -/
def execLoopSatLimit (l : Nat) (s : State) : Host.Outcome State Fault Refusal :=
  let b := lpBase l
  if s.loopEn l ∧ s.satLim l < s.get b Rg.LP_SAT.SAT_TIME ∧ !(s.loop l).satFired then
    let t := (s.setLoop l { s.loop l with satFired := true }).loopEvent l Rg.LP_EVT.SAT_LIMIT
    match s.get b Rg.LP_SAT.SAT_ACT with
    | 1 => .next ((t.satClear l).sets b [(Rg.LP_CTRL.AUTO, 0), (Rg.LP_STAT.STATE, 1), (Rg.LP_MAN.VALUE, t.get b Rg.LP_U.VALUE)])
    | 2 => .next (t.loopStop l)
    | _ => .next t
  else .next s

/-! ### Reactions -/

/-- A second boundary: lanes whose grid is not anchored, or whose PERIOD or PHASE was written, take a new anchor (R170, R171,
R183). -/
def State.loopSecond (s : State) : State :=
  let anchor (l : Nat) : LoopLane :=
    let c := s.loop l
    let p := s.get (lpBase l) Rg.LP_TIMING.PERIOD
    let f := s.get (lpBase l) Rg.LP_TIMING.PHASE
    if s.loopEn l ∧ (c.nxt = none ∨ c.retime) then
      { c with period := p, phase := f, retime := false, nxt := some (s.time.bound + f * 1000) }
    else c
  { s with loops := (List.range 64).map anchor }

/-- Every instant of the lanes moved with the label of the scale. -/
def State.loopRelabel (s : State) (off : Int) : State :=
  let mv (n : Nat) : Nat := ((n : Int) + off).toNat
  { s with loops := s.loops.map (fun c => { c with
      nxt := c.nxt.map mv, sampleAt := mv c.sampleAt, lastUpd := c.lastUpd.map mv, satAt := c.satAt.map mv }) }

/-- A time step of `off` ns seen by every lane (R183): no periodic update before the next second boundary. -/
def State.loopStepped (s : State) (off : Int) : State :=
  let t := s.loopRelabel off
  { t with loops := t.loops.map (fun c => { c with nxt := none, stepSeen := true }) }

/-- The commit of a mode change (R108, R180): loop 0 holds in HOLDOVER, and leaves HOLD for SURVEY or SERVICE. -/
def State.loopMode (s : State) (new : Mode) : State :=
  let b := lpBase 0
  let c := s.get b Rg.LP_STAT.HOLD_CAUSE
  if !s.loopEn 0 then s
  else if new = .holdover ∧ c / 2 = 0 then (s.satClear 0).sets b [(Rg.LP_STAT.STATE, 3), (Rg.LP_STAT.HOLD_CAUSE, c + 2)]
  else if new = .survey ∨ new = .service then (s.set b Rg.LP_STAT.HOLD_CAUSE (c % 2)).leaveHold 0
  else s

/-- LOOKUP_REQUEST (R187): a lookup item at LOOP tile `inst` is answered from its lane's table. -/
def execLookupRequest (inst : Nat) (s : State) : Host.Outcome State Fault Refusal :=
  let pos := (tilePositions .loop).getD inst 99
  match s.item pos 0x10 with
  | none => .next s
  | some (src, q) =>
    let lane := pktLane q.lw
    let l := inst * 16 + lane
    let w := q.data.headD 0
    let s := s.taken pos 0x10
    let send (t : State) (v : Int) (clamp : Bool) : State :=
      t.emit pos src 0x11 (pktFlow q.lw) (bits 29 3 q.lw) lane
        [pat 32 v + bits 32 16 w * 2 ^ 32 + b2n clamp * 2 ^ 48]
    if lane < 16 ∧ s.chanOn .loop l ∧ s.flag (lpBase l) Rg.LP_CFG.CT_SVC ∧ s.tableOk l then
      let r := s.lookAt l (bits 0 16 w) (sgn 16 (bits 16 16 w)) (sgn 32 (bits 0 32 w))
      match r.2.bad with
      | some a => .next (r.1.poisonDrop pos a)
      | none => .next (send (r.1.loopEventIf r.2.clamp l Rg.LP_EVT.CT_CLAMP) r.2.val r.2.clamp)
    else .next (send s 0 true)

end Sys2Proof.Machine
end

