-- ==== Sys2Proof/Machine/Filter.lean ====
section
/-! DEFINITION. Waveform inputs and the filter chain (R253–R285). Samples are integers in 2^−31 of full scale. -/

namespace Sys2Proof.Machine

/-- The base of channel `c`'s lane. -/
def flBase (c : Nat) : Nat := laneBase .filt 0x100 c
/-- The position of channel `c`'s tile. -/
def flPos (c : Nat) : Nat := chanPos .filt c
/-- Channel `c` beside its registers. -/
def State.fl (s : State) (c : Nat) : FiltLane := lookupD .off c s.waves.lanes
/-- Channel `c`'s record replaced. -/
def State.setFl (s : State) (c : Nat) (a : FiltLane) : State :=
  { s with waves := { s.waves with lanes := assocSet c a s.waves.lanes } }
/-- Whether channel `c` is enabled. -/
def State.flEn (s : State) (c : Nat) : Bool := s.chanOn .filt c && s.flag (flBase c) Rg.FL_CTRL.EN
/-- An event of channel `c`. -/
def State.flEvent (s : State) (c : Nat) (f : Fld) : State := s.event (tileEv (flPos c)) (flBase c) f
/-- An event of channel `c` set when a condition holds. -/
def State.flEventIf (s : State) (b : Bool) (c : Nat) (f : Fld) : State := if b then s.flEvent c f else s

/-! ### Configuration -/

/-- The frequency of MOD_CLK `k` in Hz (R254): its MODCLK byte in 100 kHz. -/
def State.modHz (s : State) (k : Nat) : Nat := bits (8 * k) 8 s.img.modclk * 100000

/-- R. -/
def State.flR (s : State) (c : Nat) : Nat := s.get (flBase c) Rg.FL_CFG.R
/-- Whether half-band `1` or `2` is enabled, as 0 or 1. -/
def State.flH1 (s : State) (c : Nat) : Nat := s.get (flBase c) Rg.FL_CFG.HB1
/-- HB2. -/
def State.flH2 (s : State) (c : Nat) : Nat := s.get (flBase c) Rg.FL_CFG.HB2
/-- D, the FIR decimation. -/
def State.flD (s : State) (c : Nat) : Nat := s.get (flBase c) Rg.FL_CFG.DEC + 1
/-- TAPS. -/
def State.flTaps (s : State) (c : Nat) : Nat := s.get (flBase c) Rg.FL_CFG.TAPS + 1
/-- FAST_DEC. -/
def State.flFastDec (s : State) (c : Nat) : Nat := s.get (flBase c) Rg.FL_CFG.FAST_DEC + 1
/-- R × 2^h, the input period of the FIR in clock periods. -/
def State.flFirStep (s : State) (c : Nat) : Nat := s.flR c * 2 ^ (s.flH1 c + s.flH2 c)
/-- M = R × 2^h × D. -/
def State.flM (s : State) (c : Nat) : Nat := s.flFirStep c * s.flD c
/-- The modulator clock of channel `c` in Hz. -/
def State.flHz (s : State) (c : Nat) : Nat := s.modHz (c / 8)

/-- B = 1 + ceil(5 × log2 R) (R262). -/
def cicBits (r : Nat) : Nat := 1 + Nat.clog 2 (r ^ 5)

/-- NORM = 2^(B − 1) / R^5 in 2^−22 (R263), to the nearest, as the chapter's worked example has it (DEDUCED, log entry 42). -/
def cicNorm (r : Nat) : Nat := (roundDiv (2 ^ (cicBits r - 1) * 2 ^ 22) (r ^ 5)).toNat

/-- The active bank of a lane: 0 A, 1 B. -/
def State.flActive (s : State) (c : Nat) : Nat := s.get (flBase c) Rg.FL_STAT.ACTIVE

/-- Coefficient `j` of bank `k`, signed Q1.23 (R265). -/
def State.coef (s : State) (c k j : Nat) : Int :=
  sgn 24 (s.get (kindBase .filt (c / 8) + c % 8 * 0x400 + j * 4) (if k = 0 then Rg.FL_BANKA.C else Rg.FL_BANKB.C))

/-- The coefficients of a bank over TAPS entries. -/
def State.coefs (s : State) (c k : Nat) : List Int := (List.range (s.flTaps c)).map (s.coef c k)

/-- Whether bank `k` is declared linear-phase. -/
def State.flLin (s : State) (c k : Nat) : Bool := s.flag (flBase c) (if k = 0 then Rg.FL_BANK.LIN_A else Rg.FL_BANK.LIN_B)

/-- Whether a bank meets R266: symmetric if it is declared linear-phase. -/
def State.bankOk (s : State) (c k : Nat) : Bool := !s.flLin c k || s.coefs c k == (s.coefs c k).reverse

/-- The FIR group delay of bank `k` in 1/16 FIR input samples (R266). -/
def State.firDelay (s : State) (c k : Nat) : Nat :=
  if s.flLin c k then (s.flTaps c - 1) * 8 else s.get (flBase c) (if k = 0 then Rg.FL_BANK.GD_A else Rg.FL_BANK.GD_B)

/-- GD of R267 with bank `k`, in 1/16 clock periods. -/
def State.groupDelay (s : State) (c k : Nat) : Nat :=
  5 * (s.flR c - 1) * 8 + (s.flH1 c * 3 * s.flR c + s.flH2 c * 5 * s.flR c * 2 ^ s.flH1 c) * 16 + s.firDelay c k * s.flFirStep c

/-- The span in clock periods of a fine sample's inputs. -/
def State.fineSpan (s : State) (c : Nat) : Nat :=
  5 * (s.flR c - 1) + 1 + s.flH1 c * 6 * s.flR c + s.flH2 c * 10 * s.flR c * 2 ^ s.flH1 c + (s.flTaps c - 1) * s.flFirStep c
/-- The span of a fast sample's inputs. -/
def State.fastSpan (s : State) (c : Nat) : Nat := 20 * s.flR c - 4

/-- Clock periods as whole ns. -/
def State.periodsNs (s : State) (c n : Nat) : Nat := (rnd 31 ((n * 1000000000 : Nat) : Int) (max (s.flHz c) 1)).toNat

/-! ### Clocks (R254, R255) -/

/-- The first edge of a clock of `hz` at or after an instant in ns: `hz` edges in every second, one on each second boundary. -/
def State.edgeAt (s : State) (hz ns : Nat) : Nat := ceilDiv (((ns : Int) - s.waves.shift).toNat * hz) 1000000000

/-- Whether MOD_CLK `k` is to be driven (R255). -/
def State.clkWanted (s : State) (k : Nat) : Bool :=
  s.modHz k != 0 && (s.mode == .survey || s.mode == .service || s.mode == .holdover) &&
  (List.range 8).any (fun l => s.flEn (k * 8 + l))

/-- Whether MOD_CLK `k` is driven. -/
def State.clkOn (s : State) (k : Nat) : Bool := bitOf k (s.get bWv Rg.WV_MCLK_STAT.ON)

/-- The inputs of group `k` start at the first edge from now on. -/
def State.clkStart (s : State) (k : Nat) : State :=
  let e := s.edgeAt (s.modHz k) s.nowNs
  { s with waves := { s.waves with pos := (List.range 64).map (fun n => if n / 8 = k then e else s.waves.pos.getD n 0) } }

/-- The clock of group `k` started or stopped as R255 says. -/
def State.clkUpdate (s : State) (k : Nat) : State :=
  let w := s.clkWanted k
  if w = s.clkOn k then s
  else
    let t := s.set bWv Rg.WV_MCLK_STAT.ON (putBits k 1 (s.get bWv Rg.WV_MCLK_STAT.ON) (b2n w))
    if w then t.clkStart k else t

/-! ### Settling (R271–R273) -/

/-- The input a lane takes, 0–63. -/
def State.flInput (s : State) (c : Nat) : Nat := c / 8 * 8 + (s.fl c).src

/-- The lane's filter registers cleared. -/
def FiltLane.cleared (a : FiltLane) : FiltLane :=
  { a with integ := [0, 0, 0, 0, 0], comb := [0, 0, 0, 0, 0], h1 := [], h2 := [], fir := [], fastH := [],
           fine := { a.fine with q := [] }, fast := { a.fast with q := [] } }

/-- The grids of CIC and both paths set at enable (R269): a grid whose period divides the clock counts from a second boundary, another
from the lane's first edge. -/
def State.flGrid (s : State) (c : Nat) : State :=
  let a := s.fl c
  let hz := s.flHz c
  let r := s.flR c
  let e := a.next
  let org := if hz % r = 0 then 0 else e
  let at_ (n : Nat) : Nat := if hz % n = 0 then 0 else if hz % r = 0 then ceilDiv e r * r else e
  s.setFl c { a with org := org, fine := { a.fine with org := at_ (s.flM c) }, fast := { a.fast with org := at_ (r * s.flFastDec c) } }

/-- A settling event at edge `e`: both paths are unsettled from it on, and dwell counts restart (R278). -/
def State.settle (s : State) (c e : Nat) : State :=
  let a := s.fl c
  let t := s.setFl c { a with ev := e, fine := { a.fine with disc := true }, fast := { a.fast with disc := true },
                              thr := a.thr.map (fun x => { x with cnt := 0 }) }
  t.sets (flBase c) [(Rg.FL_STAT.FINE_UNSET, 1), (Rg.FL_STAT.FAST_UNSET, 1)]

/-- FL_STAT.FAULT from the state of the lane's input. -/
def State.flFault (s : State) (c : Nat) : State :=
  s.set (flBase c) Rg.FL_STAT.FAULT (b2n (s.get (bWv + s.flInput c * 0x10) Rg.WV_IN_STAT.STATE != 1))

/-! ### Enable (R283) -/

/-- Whether input `n` is enabled in IOBANK. -/
def State.sdOn (s : State) (n : Nat) : Bool := bitOf n s.img.sdEn

/-- The first check an enable fails, as FL_STAT.REFUSE; 0 when it passes them all. -/
def State.flRefusal (s : State) (c : Nat) : Nat :=
  let b := flBase c
  let n := c / 8 * 8 + s.get b Rg.FL_CTRL.SRC
  let hz := s.flHz c
  if !s.sdOn n || hz == 0 then 1
  else if !s.links.any (fun l => l.rc.src == 96 && l.rc.dst == flPos c && l.rc.port == 0) then 2
  else if s.flR c < 16 ∨ 1024 < s.flR c then 3
  else if 32000000 * s.flM c < s.flTaps c * hz ∨
      (s.flag b Rg.FL_CFG.FAST_EN ∧ 100000 * (s.flR c * s.flFastDec c) < hz) then 4
  else if !s.bankOk c (s.flActive c) then 5
  else 0

/-- The figures an accepted enable computes (R263, R267, R269, R272, R273). -/
def State.flFigures (s : State) (c : Nat) : State :=
  let fast := s.periodsNs c (20 * s.flR c - 5 + s.flR c * s.flFastDec c)
  s.sets (flBase c) [(Rg.FL_CIC.NORM, cicNorm (s.flR c)), (Rg.FL_CIC.B, cicBits (s.flR c)),
    (Rg.FL_GD.GD, s.periodsNs c (s.groupDelay c (s.flActive c))), (Rg.FL_SETTLE.FAST, fast),
    (Rg.FL_SETTLE.FINE, s.periodsNs c (s.fineSpan c + s.flM c - 1)), (Rg.FL_STAT.FAST_OK, b2n (decide (fast ≤ 1000000))),
    (Rg.FL_STAT.ALIGNED, b2n (decide (s.flHz c % s.flM c = 0)))]

/-- EN set on channel `c`. -/
def State.flEnable (s : State) (c : Nat) : State :=
  let b := flBase c
  if s.flag b Rg.FL_CTRL.EN then s
  else
    let r := s.flRefusal c
    if r ≠ 0 then (s.set b Rg.FL_STAT.REFUSE r).flEvent c Rg.FL_EVT.REFUSED
    else
      let t := (s.sets b [(Rg.FL_CTRL.EN, 1), (Rg.FL_STAT.RUN, 1), (Rg.FL_STAT.REFUSE, 0)]).clkUpdate (c / 8)
      let n := s.get b Rg.FL_CTRL.SRC
      let e := t.waves.pos.getD (c / 8 * 8 + n) 0
      let t := t.setFl c { FiltLane.off with src := n, next := e, thr := (s.fl c).thr }
      (((t.flFigures c).flGrid c).settle c e).flFault c

/-! ### Thresholds shown (R279) -/

/-- The base of threshold `k` of a lane. -/
def thBase (c k : Nat) : Nat := flBase c + k * 0x10

/-- An item sent on every link a route mask selects; drops are counted. -/
def State.routeItem (s : State) (c mask typ : Nat) (data : List Nat) : State :=
  let r := s.sendMask (flPos c) mask typ data
  if r.2 = 0 then r.1 else (r.1.count (flBase c) Rg.FL_CNT.OUT_DROP r.2).flEvent c Rg.FL_EVT.OUT_DROP

/-- A completed dwell shown: THR_ACTIVE, the event and its item. -/
def State.showThr (s : State) (c : Nat) (e : ThrEv) : State :=
  let b := flBase c
  let s := s.set b Rg.FL_STAT.THR_ACTIVE (putBits e.k 1 (s.get b Rg.FL_STAT.THR_ACTIVE) (b2n e.new))
  let s := s.flEvent c (if e.k = 0 then Rg.FL_EVT.THR0 else Rg.FL_EVT.THR1)
  s.routeItem c (s.get b Rg.FL_CFG.THR_ROUTE) 0x42
    [c + e.k * 2 ^ 6 + e.kind * 2 ^ 7 + e.path * 2 ^ 9 + b2n e.new * 2 ^ 10 + pat 32 e.y * 2 ^ 32, e.ts]

/-- THRESHOLD_CHANGE: the oldest completed dwell of channel `c` is shown (R279). -/
def execThresholdChange (c : Nat) (s : State) : Host.Outcome State Fault Refusal :=
  match (s.fl c).pend with
  | [] => .next s
  | e :: t => .next ((s.setFl c { s.fl c with pend := t }).showThr c e)

/-- EN cleared on channel `c`: completed dwells are shown first, and its state is lost but for what the thresholds hold. -/
def State.flDisable (s : State) (c : Nat) : State :=
  let s := (s.fl c).pend.foldl (fun u e => u.showThr c e) s
  let t := s.sets (flBase c) [(Rg.FL_CTRL.EN, 0), (Rg.FL_STAT.RUN, 0), (Rg.FL_STAT.FADING, 0), (Rg.FL_STAT.QUEUED, 0),
    (Rg.FL_STAT.FINE_UNSET, 0), (Rg.FL_STAT.FAST_UNSET, 0), (Rg.FL_STAT.FAULT, 0)]
  (t.setFl c { FiltLane.off with thr := (s.fl c).thr }).clkUpdate (c / 8)

/-- A write of an action register of a FILT lane. -/
def State.flWrite (s : State) (m : Master) (c off : Nat) (f : State → State) : State :=
  s.tileWrite m (flPos c) (c % 8) (0x1000 + c % 8 * 0x100 + off) f

/-- FILT_ENABLE. -/
def execFiltEnable (m : Master) (c : Nat) (s : State) : Host.Outcome State Fault Refusal :=
  .next (s.flWrite m c 8 (fun t => t.flEnable c))

/-! ### Input supervision (R258–R260) -/

/-- An input's new state: WV_EVT's bit, FAULT of the lanes it feeds, and their settling when it returns to OK. -/
def State.wvSet (s : State) (n st : Nat) : State :=
  let b := bWv + n * 0x10
  if s.get b Rg.WV_IN_STAT.STATE = st then s
  else
    let ev := s.get bWv Rg.WV_EVT.CHG
    let t := s.set b Rg.WV_IN_STAT.STATE st
    let t := if bitOf n ev then t else (t.set bWv Rg.WV_EVT.CHG (ev + 2 ^ n)).toggle 30
    (List.range 8).foldl (fun u l =>
      let c := n / 8 * 8 + l
      if u.flEn c ∧ u.flInput c = n then
        let u := u.set (flBase c) Rg.FL_STAT.FAULT (b2n (st != 1))
        if st = 1 then u.settle c (max (u.fl c).next (u.edgeAt (u.flHz c) u.nowNs)) else u
      else u) t

/-- The state that the counts of an input give by the first row of R258 that holds, its group in contention or not; none where no row
holds. -/
def wvState (o : WvObs) (contend : Bool) : Option Nat :=
  if contend then some 5
  else if 256 ≤ o.swap then some 4
  else if 1024 ≤ o.still then some (if o.level then 3 else 2)
  else if o.ones.any (fun n => decide (3840 < n ∨ n < 256)) then some 6
  else if 4096 ≤ o.clean then some 1
  else none

/-- WV_INPUT_STATE: what the supervision of input `n` has counted; the first row of R258 that holds gives its state. -/
def execWvInputState (n : Nat) (o : WvObs) (s : State) : Host.Outcome State Fault Refusal :=
  if n < 64 ∧ s.sdOn n ∧ s.clkOn (n / 8) then
    let t := match o.ones with
      | some x => s.set (bWv + n * 0x10) Rg.WV_IN_STAT.DENSITY (min (rnd 35 x 16).toNat 255)
      | none => s
    match wvState o (bitOf (n / 8) (s.get bWv Rg.WV_MCLK_STAT.CONTEND)) with
    | some st => .next (t.wvSet n st)
    | none => .next t
  else .next s

/-- MCLK_CONTEND: `wrong` of 256 cycles read back of MOD_CLK `k` disagreed (R259). -/
def execMclkContend (k wrong : Nat) (s : State) : Host.Outcome State Fault Refusal :=
  if k < 8 ∧ s.clkOn k then
    let c := s.get bWv Rg.WV_MCLK_STAT.CONTEND
    if 64 ≤ wrong then
      let t := s.set bWv Rg.WV_MCLK_STAT.CONTEND (putBits k 1 c 1)
      .next ((List.range 8).foldl (fun u i => if u.sdOn (k * 8 + i) then u.wvSet (k * 8 + i) 5 else u) t)
    else if wrong = 0 then .next (s.set bWv Rg.WV_MCLK_STAT.CONTEND (putBits k 1 c 0))
    else .next s
  else .next s

/-! ### CIC (R261–R263) -/

/-- A 56-bit register's wrapped value. -/
def wrap56 (i : Int) : Int := sgn 56 (pat 56 i)

/-- One bit through a chain of integrators: each adds the one before it. -/
def integrate (x : Int) : List Int → List Int
  | [] => []
  | i :: t => let y := wrap56 (i + x); y :: integrate y t

/-- One value through a chain of combs of delay 1: the output, and the values kept. -/
def combs (x : Int) : List Int → Int × List Int
  | [] => (x, [])
  | z :: t => let r := combs (wrap56 (x - z)) t; (r.1, x :: r.2)

/-- The CIC output normalised to 32 bits (R263), and whether it saturated. -/
def normalise (r : Nat) (y : Int) : Int × Bool :=
  let b := cicBits r
  let v := if 32 < b then (y + 2 ^ (b - 33)) / 2 ^ (b - 32) else y * 2 ^ (32 - b)
  let w := rnd 32 (v * cicNorm r) (2 ^ 22)
  (satS 32 w, satS 32 w != w)

/-- One bit fed to a lane at an edge; a CIC output is queued for both paths every R bits. -/
def FiltLane.bit (a : FiltLane) (r e : Nat) (one fast : Bool) : FiltLane :=
  let g := integrate (if one then 1 else -1) a.integ
  if (e + r - a.org % r) % r = 0 then
    let k := combs (g.getLastD 0) a.comb
    let y := normalise r k.1
    let o : CicOut := ⟨e, y.1, y.2⟩
    { a with integ := g, comb := k.2, fine := { a.fine with q := a.fine.q ++ [o] },
             fast := if fast then { a.fast with q := a.fast.q ++ [o] } else a.fast }
  else { a with integ := g }

/-- `n` bits of a word fed to a lane, the first in bit `i`. -/
def feedBits (r w e : Nat) (fast : Bool) : Nat → Nat → FiltLane → FiltLane
  | 0, _, a => a
  | n + 1, i, a => feedBits r w e fast n (i + 1) (a.bit r (e + i) (bitOf i w) fast)

/-- The number of saturated CIC outputs a lane has queued. -/
def FiltLane.cicSat (a : FiltLane) : Nat := (a.fine.q.filter (·.sat)).length

/-- Whether a new SRC waits for the lane's next fine-grid instant. -/
def State.srcWaits (s : State) (c : Nat) : Bool := (s.fl c).src != s.get (flBase c) Rg.FL_CTRL.SRC

/-- The bits a lane takes up to its next fine-grid instant; 0 when it stands at one. -/
def State.toGrid (s : State) (c : Nat) : Nat :=
  let m := s.flM c
  let a := s.fl c
  (m - (a.next + m - 1 + m - a.fine.org % m) % m) % m

/-- A lane takes the bits that its input's last word still has for it; with a new SRC waiting it stops at the fine-grid instant. -/
def State.feedLane (s : State) (c : Nat) : State :=
  let a := s.fl c
  let p := s.waves.pos.getD (s.flInput c) 0
  let w := s.waves.words.getD (s.flInput c) 0
  let e := max a.next (p - 64)
  let n := if s.srcWaits c then min (p - e) (s.toGrid c) else p - e
  let x := feedBits (s.flR c) (w / 2 ^ (e + 64 - p)) e (s.flag (flBase c) Rg.FL_CFG.FAST_EN) n 0 { a with next := e + n }
  (s.setFl c x).count (flBase c) Rg.FL_CNT.SAT (x.cicSat - a.cicSat)

/-- The new SRC applied at a fine-grid instant: every filter register of the lane is cleared, its grids run on (R269, R271). -/
def State.srcApply (s : State) (c : Nat) : State :=
  if s.flEn c ∧ s.srcWaits c ∧ s.toGrid c = 0 then
    let a := s.fl c
    let t := s.setFl c { a.cleared with src := s.get (flBase c) Rg.FL_CTRL.SRC }
    ((t.settle c a.next).flFault c).feedLane c
  else s

/-- FILT_SRC_CHANGE (R271): at a fine-grid instant the new SRC is applied. -/
def execFiltSrcChange (c : Nat) (s : State) : Host.Outcome State Fault Refusal := .next (s.srcApply c)

/-- BITSTREAM_ITEM (R257): 64 bits of one input reach a FILT tile on its port 0; LANE names the input in the group. Every enabled lane
that takes the input runs its CIC over them; a lane that waits at a fine-grid instant for its new SRC takes it first. -/
def execBitstreamItem (inst : Nat) (s : State) : Host.Outcome State Fault Refusal :=
  let pos := (tilePositions .filt).getD inst 99
  match s.rx.find? (fun p => (s.link p.1).any (fun l => l.rc.dst == pos && l.rc.src == 96 && l.rc.port == 0)) with
  | none => .next s
  | some (id, q) =>
    if inst < 8 then
      let n := inst * 8 + pktLane q.lw % 8
      let t := (List.range 8).foldl (fun u k => u.srcApply (inst * 8 + k)) { s with rx := s.rx.erase (id, q) }
      let e := t.waves.pos.getD n 0
      let t := { t with waves := { t.waves with pos := listSet t.waves.pos n (e + 64), words := listSet t.waves.words n (q.data.headD 0) } }
      .next ((List.range 8).foldl (fun u k =>
        let c := inst * 8 + k
        if u.flEn c ∧ u.flInput c = n then u.feedLane c else u) t)
    else .next s

/-! ### Items (R280, R281) -/

/-- Samples packed two to a word, the earlier in the low half. -/
def packSamples : List Int → List Nat
  | [] => []
  | [a] => [pat 32 a]
  | a :: b :: t => (pat 32 a + pat 32 b * 2 ^ 32) :: packSamples t

/-- The data words of a sample item. -/
def Batch.words (b : Batch) : List Nat := [b.flags + b.vals.length * 2 ^ 13 + b.seq % 2 ^ 32 * 2 ^ 32, b.ts] ++ packSamples b.vals

/-- A path of a lane. -/
def FiltLane.path (a : FiltLane) (fast : Bool) : FiltPath := if fast then a.fast else a.fine
/-- A path of a lane replaced. -/
def FiltLane.setPath (a : FiltLane) (fast : Bool) (p : FiltPath) : FiltLane := if fast then { a with fast := p } else { a with fine := p }

/-- The batch of a path sent. -/
def State.closeBatch (s : State) (c : Nat) (fast : Bool) : State :=
  let p := (s.fl c).path fast
  match p.batch with
  | none => s
  | some b =>
    let mask := s.get (flBase c) (if fast then Rg.FL_CFG.FAST_ROUTE else Rg.FL_CFG.FINE_ROUTE)
    (s.setFl c ((s.fl c).setPath fast { p with batch := none })).routeItem c mask (if fast then 0x41 else 0x40) b.words

/-- A sample added to its path's batch (R281): an item closes early before a sample whose flags differ, and when it holds BATCH
samples. -/
def State.addSample (s : State) (c : Nat) (fast : Bool) (flags ts : Nat) (y : Int) : State :=
  let p := (s.fl c).path fast
  let s := if p.disc ∨ (p.batch.any (fun b => b.flags != flags + bits 11 1 b.flags * 2048)) then
    s.closeBatch c fast else s
  let p := (s.fl c).path fast
  let b : Batch := match p.batch with
    | some b => { b with vals := b.vals ++ [y] }
    | none => ⟨flags + b2n p.disc * 2048, p.seq, ts, [y]⟩
  let s := s.setFl c ((s.fl c).setPath fast { p with batch := some b, disc := false, seq := (p.seq + 1) % 2 ^ 32 })
  if s.get (flBase c) Rg.FL_CFG.BATCH + 1 ≤ b.vals.length then s.closeBatch c fast else s

/-- Whether items carry TFLAG: HOLDOVER, or the time core not LOCKED. -/
def State.tflag (s : State) : Bool := s.mode == .holdover || !s.locked

/-! ### Thresholds (R278, R279) -/

/-- Whether a quantity crosses the limit that would change a threshold's state. -/
def thrCross (kind : Nat) (act : Bool) (x level hyst : Int) : Bool :=
  if kind = 1 then (if act then decide (level + hyst < x) else decide (x < level))
  else if act then decide (x < level - hyst) else decide (level < x)

/-- One threshold evaluated on the newest sample of its path. -/
def State.thrEval (s : State) (c k ts : Nat) (fast : Bool) : State :=
  let b := thBase c k
  let a := s.fl c
  let h := (a.path fast).hist
  let kind := s.get b Rg.FL_TH.KIND
  let old := h.getD (max (s.get b Rg.FL_TH.RATE_W) 1) (0, false)
  let new := h.headD (0, false)
  if !s.flag b Rg.FL_TH.EN ∨ s.flag b Rg.FL_TH.PATH ≠ fast ∨ !new.2 ∨ (kind = 2 ∧ !old.2) then s
  else
    let x : Int := if kind = 2 then (new.1 - old.1).natAbs else new.1
    let t := a.thr.getD k ⟨false, 0⟩
    if thrCross kind t.act x (s.getS b Rg.FL_TH.LEVEL) (s.get b Rg.FL_THH.HYST) then
      if max (s.get b Rg.FL_TH.DWELL) 1 ≤ t.cnt + 1 then
        s.setFl c { a with thr := listSet a.thr k ⟨!t.act, 0⟩, pend := a.pend ++ [⟨k, kind, s.get b Rg.FL_TH.PATH, !t.act, new.1, ts⟩] }
      else s.setFl c { a with thr := listSet a.thr k { t with cnt := t.cnt + 1 } }
    else s.setFl c { a with thr := listSet a.thr k { t with cnt := 0 } }

/-! ### Samples (R264, R268–R275) -/

/-- The sum of products of two lists. -/
def dot : List Int → List Int → Int
  | a :: s, b :: t => a * b + dot s t
  | _, _ => 0

/-- A stage's accumulator rounded to 32 bits, halves away from zero, and whether it saturated (R264). -/
def stageOut (acc : Int) (den : Nat) : Int × Bool :=
  let v := roundDiv acc den
  (satS 32 v, satS 32 v != v)

/-- The instant in ns of an edge of channel `c`'s clock, less its input's aperture delay (R256). -/
def State.edgeNs (s : State) (c e : Nat) : Int :=
  s.waves.shift + rnd 33 ((e * 1000000000 : Nat) : Int) (max (s.flHz c) 1) - s.get (bWv + s.flInput c * 0x10) Rg.WV_IN_CFG.EXT_DLY

/-- An instant as a timestamp. -/
def stampNs (i : Int) : Nat := i.toNat % 2 ^ 64

/-- A fast sample from the fast filter's delay line. -/
def fastOut (l : List Int) : Int × Bool := stageOut ((l.take 16).sum) 16

/-- CIC outputs of the fast path consumed up to the next sample: the lane, the edge, and whether one was saturated. -/
def fastTake (step : Nat) : List CicOut → FiltLane → Bool → Option (FiltLane × Nat × Bool)
  | [], _, _ => none
  | o :: t, a, sat =>
    let a := { a with fastH := (o.val :: a.fastH).take 16, fast := { a.fast with q := t } }
    if (o.edge + step - a.fast.org % step) % step = 0 then some (a, o.edge, sat || o.sat) else fastTake step t a (sat || o.sat)

/-- A sample's marks: whether its span follows the last settling event. -/
def settledAt (e span ev : Nat) : Bool := decide (ev + span ≤ e + 1)

/-- The path leaves UNSETTLED at its first settled sample. -/
def State.leaveUnset (s : State) (c : Nat) (fast ok : Bool) : State :=
  let f := if fast then Rg.FL_STAT.FAST_UNSET else Rg.FL_STAT.FINE_UNSET
  if ok ∧ s.flag (flBase c) f then (s.set (flBase c) f 0).flEventIf (!fast) c Rg.FL_EVT.SETTLED else s

/-- What every sample does once its value is known: history, marks, thresholds, item. -/
def State.sampleOut (s : State) (c : Nat) (fast ok sat fade : Bool) (ts : Nat) (y : Int) : State :=
  let b := flBase c
  let a := s.fl c
  let p := a.path fast
  let s := s.setFl c (a.setPath fast { p with hist := ((y, ok) :: p.hist).take 256 })
  let s := (s.set b (if fast then Rg.FL_LAST.FAST else Rg.FL_LAST.FINE) (pat 32 y)).leaveUnset c fast ok
  let s := (s.thrEval c 0 ts fast).thrEval c 1 ts fast
  let flags := c + b2n (!ok) * 2 ^ 6 + b2n fade * 2 ^ 7 + b2n sat * 2 ^ 8 + s.get b Rg.FL_STAT.FAULT * 2 ^ 9 +
    b2n s.tflag * 2 ^ 10 + s.flActive c * 2 ^ 12
  s.addSample c fast flags ts y

/-- FAST_SAMPLE (R270). -/
def execFastSample (c : Nat) (s : State) : Host.Outcome State Fault Refusal :=
  if !s.flEn c then .next s
  else match fastTake (s.flR c * s.flFastDec c) (s.fl c).fast.q (s.fl c) false with
    | none => .next s
    | some (a, e, sat) =>
      let y := fastOut a.fastH
      let t := (s.setFl c a).count (flBase c) Rg.FL_CNT.SAT (b2n y.2)
      let ok := settledAt e (s.fastSpan c) a.ev
      .next ((t.sampleOut c true ok (sat || y.2) false (stampNs (s.edgeNs c e)) y.1).fastSample c y.1)

/-- What the fine stages carry while they consume CIC outputs: the lane, and saturations met. -/
structure FineRun where
  a   : FiltLane
  sat : Bool
  n   : Nat
  deriving DecidableEq, Repr

/-- A saturation noted. -/
def FineRun.note (r : FineRun) (b : Bool) : FineRun := { r with sat := r.sat || b, n := r.n + b2n b }

/-- HB1 of R264. -/
def hb1Coef : List Int := [-1, 0, 9, 16, 9, 0, -1]
/-- HB2. -/
def hb2Coef : List Int := [3, 0, -25, 0, 150, 256, 150, 0, -25, 0, 3]

/-- A value enters the FIR's delay line. -/
def FineRun.toFir (r : FineRun) (v : Int) : FineRun := { r with a := { r.a with fir := (v :: r.a.fir).take 128 } }

/-- A value enters HB2, whose output every second input goes to the FIR. -/
def FineRun.toHb2 (r : FineRun) (on due : Bool) (v : Int) : FineRun :=
  if !on then r.toFir v
  else
    let r := { r with a := { r.a with h2 := (v :: r.a.h2).take 11 } }
    if due then let y := stageOut (dot hb2Coef r.a.h2) 512; (r.note y.2).toFir y.1 else r

/-- A CIC output enters HB1, whose output every second input goes on. -/
def FineRun.toHb1 (r : FineRun) (on due on2 due2 : Bool) (v : Int) : FineRun :=
  if !on then r.toHb2 on2 due2 v
  else
    let r := { r with a := { r.a with h1 := (v :: r.a.h1).take 7 } }
    if due then let y := stageOut (dot hb1Coef r.a.h1) 32; (r.note y.2).toHb2 on2 due2 y.1 else r

/-- CIC outputs of the fine path consumed up to the next fine sample: what the stages carry then, and the edge. -/
def fineTake (r m h1 h2 : Nat) : List CicOut → FineRun → Option (FineRun × Nat)
  | [], _ => none
  | o :: t, x =>
    let k := o.edge + m - x.a.fine.org % m
    let x := { x with a := { x.a with fine := { x.a.fine with q := t } }, sat := x.sat || o.sat }
    let x := x.toHb1 (h1 == 1) (k % (2 * r) == 0) (h2 == 1) (k % (r * 2 ^ h1 * 2) == 0) o.val
    if k % m = 0 then some (x, o.edge) else fineTake r m h1 h2 t x

/-- The FIR output of a bank. -/
def State.firOut (s : State) (c k : Nat) (l : List Int) : Int × Bool := stageOut (dot (s.coefs c k) l) (2 ^ 23)

/-- The value of a fine sample, its saturation, and whether it is a fade sample (R275): the lane's fade moves on. -/
def State.fineValue (s : State) (c : Nat) (l : List Int) : Int × Bool × Bool × Option (Nat × Nat) :=
  let k := s.flActive c
  let y := s.firOut c k l
  match (s.fl c).fade with
  | none => (y.1, y.2, false, none)
  | some (n, f) =>
    let i := n + 1
    let o := s.firOut c (1 - k) l
    if f < i then (y.1, y.2, false, some (n, f))
    else (roundDiv ((f - i : Nat) * o.1 + i * y.1) f, y.2 || o.2, true, some (i, f))

/-- FINE_SAMPLE (R261–R269, R275, R280). -/
def execFineSample (c : Nat) (s : State) : Host.Outcome State Fault Refusal :=
  if !s.flEn c then .next s
  else match fineTake (s.flR c) (s.flM c) (s.flH1 c) (s.flH2 c) (s.fl c).fine.q ⟨s.fl c, false, 0⟩ with
    | none => .next s
    | some (x, e) =>
      let v := s.fineValue c x.a.fir
      let t := (s.setFl c { x.a with fade := v.2.2.2 }).count (flBase c) Rg.FL_CNT.SAT (x.n + b2n v.2.1)
      let ok := settledAt e (s.fineSpan c) x.a.ev
      let bank := if s.flag (flBase c) Rg.FL_STAT.FADING then 1 - s.flActive c else s.flActive c
      let gd : Int := if s.flag (flBase c) Rg.FL_CFG.COMP_GD then
        rnd 34 ((s.groupDelay c bank * 1000000000 : Nat) : Int) (16 * max (s.flHz c) 1) else 0
      let t := t.sampleOut c false ok (x.sat || v.2.1) v.2.2.1 (stampNs (s.edgeNs c e - gd)) v.1
      .next (if ok then t.fineSample c v.1 else t)

/-! ### Bank swap (R275–R277) -/

/-- The other bank becomes active, over F fade samples or at once; refused for a bank that fails R266. -/
def State.swapNow (s : State) (c f : Nat) : State :=
  let b := flBase c
  let k := 1 - s.flActive c
  if !s.bankOk c k then s.flEvent c Rg.FL_EVT.SWAP_REFUSED
  else
    let t := s.sets b [(Rg.FL_STAT.ACTIVE, k), (Rg.FL_STAT.FADING, b2n (f != 0))]
    let t := t.setFl c { t.fl c with fade := if f = 0 then none else some (0, f) }
    if f = 0 then t.set b Rg.FL_GD.GD (t.periodsNs c (t.groupDelay c k)) else t

/-- SWAP with FADE. -/
def State.swapAsk (s : State) (c fade : Nat) : State :=
  let f := min fade 1024
  let a := s.fl c
  if !s.flag (flBase c) Rg.FL_CTRL.EN then s.swapNow c 0
  else match a.fade with
    | some (n, k) =>
      if n < k then
        (s.flEventIf a.queued.isSome c Rg.FL_EVT.SWAP_SUPERSEDED).setFl c { a with queued := some f } |>.set (flBase c)
          Rg.FL_STAT.QUEUED 1
      else s.setFl c { a with req := some f }
    | none => s.setFl c { a with req := some f }

/-- FILT_SWAP: FL_CTRL written with SWAP. -/
def execFiltSwap (m : Master) (c fade : Nat) (s : State) : Host.Outcome State Fault Refusal :=
  .next (s.flWrite m c 8 (fun t => t.swapAsk c fade))

/-- SWAP_APPLY: the next fine-sample boundary comes with no fade in progress. A request that was queued goes first; an ordinary one
beside it then waits for the next boundary, or is queued behind the fade that has begun (R276). -/
def execSwapApply (c : Nat) (s : State) : Host.Outcome State Fault Refusal :=
  let a := s.fl c
  if !s.flEn c ∨ a.fade ≠ none then .next s
  else match a.due, a.req with
    | some f, r =>
      let t := (s.setFl c { a with due := none }).swapNow c f
      (match r, (t.fl c).fade with
       | some g, some _ => .next ((t.setFl c { t.fl c with req := none, queued := some g }).set (flBase c) Rg.FL_STAT.QUEUED 1)
       | _, _ => .next t)
    | none, some f => .next ((s.setFl c { a with req := none }).swapNow c f)
    | none, none => .next s

/-- FADE_END: fade sample F has been produced; the new bank alone is active, and a queued request waits for the next
boundary. -/
def execFadeEnd (c : Nat) (s : State) : Host.Outcome State Fault Refusal :=
  let a := s.fl c
  match a.fade with
  | none => .next s
  | some (n, f) =>
    if f ≤ n then
      let t := s.setFl c { a with fade := none, due := a.queued, queued := none }
      let t := t.sets (flBase c) [(Rg.FL_STAT.FADING, 0), (Rg.FL_STAT.QUEUED, 0)]
      .next (t.set (flBase c) Rg.FL_GD.GD (t.periodsNs c (t.groupDelay c (t.flActive c))))
    else .next s

/-! ### Reactions -/

/-- Edges go on under another label of the scale (R146). -/
def State.filtRelabel (s : State) (off : Int) : State := { s with waves := { s.waves with shift := s.waves.shift + off } }

/-- A time step (R271): clocks re-anchor to the new second boundaries, the registers of enabled lanes are cleared, and a grid that is
not anchored to them runs on (R269). -/
def State.filtStepped (s : State) : State :=
  let t := { s with waves := { s.waves with shift := 0 } }
  let t := (List.range 8).foldl (fun u k => if u.clkOn k then u.clkStart k else u) t
  (List.range 64).foldl (fun u c =>
    if u.flEn c then
      let a := (u.fl c).cleared
      let e := u.waves.pos.getD (u.flInput c) 0
      let mv (n m : Nat) : Nat := if u.flHz c % m = 0 then 0 else ((n : Int) + e - a.next).toNat
      let a := { a with next := e, org := mv a.org (u.flR c), fine := { a.fine with org := mv a.fine.org (u.flM c) },
                        fast := { a.fast with org := mv a.fast.org (u.flR c * u.flFastDec c) } }
      (u.setFl c a).settle c e
    else u) t

/-- The commit of a mode change (R255, R285). -/
def State.filtMode (s : State) (new : Mode) : State :=
  let t := if new = .dormant ∨ new = .maintenance then
    (List.range 64).foldl (fun u c => if u.flEn c then u.flDisable c else u) s else s
  (List.range 8).foldl (fun u k => u.clkUpdate k) t

end Sys2Proof.Machine
end

