-- ==== Sys2Proof/Machine/TrackMath.lean ====
section
/-! DEFINITION. The arithmetic of tracks: speed plans (R403, R404), track geometry (R401), rectangles (R412) and the fixed-point
functions the geometry needs. Fixed-point numbers carry 80 fractional bits. -/

namespace Sys2Proof.Machine

/-! ### Roots -/

/-- The floor of a root: Newton's iteration from above. -/
def isqrtStep (n : Nat) : Nat → Nat → Nat
  | 0, x => x
  | k + 1, x => let y := (x + n / x) / 2
                if y < x then isqrtStep n k y else x

/-- The floor of the square root. -/
def isqrt (n : Nat) : Nat := if n = 0 then 0 else isqrtStep n 64 (2 ^ (Nat.log2 n / 2 + 1))

/-- A root in whole units: exact where it is a whole number, otherwise one of its two neighbours. -/
def rootRnd (place n : Nat) : Nat :=
  let r := isqrt n
  if r * r = n then r else r + b2n (Config.roundUp place n 1)

/-- The square root of a rational in whole units: exact where it is a whole number, otherwise one of its two neighbours, which the
spec does not choose. -/
def sqrtRnd (place : Nat) (q : Rat) : Nat :=
  let n := isqrt (q.num.toNat / q.den)
  if n * n * q.den = q.num.toNat then n else n + b2n (Config.roundUp place q.num q.den)

/-- A rational in whole units: exact where it is a whole number, otherwise one of its two neighbours. -/
def ratRnd (place : Nat) (q : Rat) : Int := rnd place q.num q.den

/-- A speed from its square, to 10^−6 mm/s. -/
def speedOf (w : Rat) : Rat := (sqrtRnd 63 (w * 1000000000000) : Rat) / 1000000

/-! ### Plans -/

/-- Distance in mm that a rise from rest to a speed with square `w` takes: a1 below vk, a2 at and above it (R403). -/
def accPot (p : Prof) (w : Rat) : Rat :=
  let k : Rat := (p.vk * p.vk : Nat)
  if w ≤ k then w / (2 * p.a1 : Nat) else k / (2 * p.a1 : Nat) + (w - k) / (2 * p.a2 : Nat)

/-- Distance in mm that a fall to rest from a speed with square `w` takes: d2 above vk, d1 at and below it (R403). -/
def decPot (p : Prof) (w : Rat) : Rat :=
  let k : Rat := (p.vk * p.vk : Nat)
  if w ≤ k then w / (2 * p.d1 : Nat) else k / (2 * p.d1 : Nat) + (w - k) / (2 * p.d2 : Nat)

/-- dacc of R403, from squares of speeds. -/
def dacc (p : Prof) (x y : Rat) : Rat := accPot p y - accPot p x

/-- ddec of R403, from squares of speeds. -/
def ddec (p : Prof) (y x : Rat) : Rat := decPot p y - decPot p x

/-- dacc(v0, v) + ddec(v, min(v, ve)) for a peak with square `w`. -/
def needed (p : Prof) (w0 w : Rat) : Rat :=
  let x : Rat := (p.ve * p.ve : Nat)
  dacc p w0 w + ddec p w (min w x)

/-- The largest square of a peak speed that needs at most `len`, which grows linearly between the corners given in rising
order. -/
def climb (p : Prof) (w0 len cur : Rat) : List Rat → Rat
  | [] => cur
  | b :: t =>
    if b ≤ cur then climb p w0 len cur t
    else if needed p w0 b ≤ len then climb p w0 len b t
    else cur + (len - needed p w0 cur) * (b - cur) / (needed p w0 b - needed p w0 cur)

/-- The square of v0 (R403): vs, or the lower speed from which ve can be reached in `len`. -/
def startW (p : Prof) (len : Rat) : Rat :=
  let w : Rat := (p.vs * p.vs : Nat)
  let x : Rat := (p.ve * p.ve : Nat)
  if x < w ∧ len < ddec p w x then x + (2 * p.d1 : Nat) * len else w

/-- The square of vp for a start with square `w0` (R403). -/
def peakW (p : Prof) (w0 len : Rat) : Rat :=
  let x : Rat := (p.ve * p.ve : Nat)
  let k : Rat := (p.vk * p.vk : Nat)
  climb p w0 len w0 [min x k, k, (p.vm * p.vm : Nat)]

/-- A rise from `w` to `y` as phases from S `s`. -/
def risePhases (p : Prof) (s w y : Rat) : List Phase :=
  let k : Rat := (p.vk * p.vk : Nat)
  let m := min (max w k) y
  [⟨s, w, p.a1, dacc p w m⟩, ⟨s + dacc p w m, m, p.a2, dacc p m y⟩]

/-- A fall from `y` to `x` as phases from S `s`. -/
def fallPhases (p : Prof) (s y x : Rat) : List Phase :=
  let k : Rat := (p.vk * p.vk : Nat)
  let m := max (min y k) x
  [⟨s, y, -(p.d2 : Int), ddec p y m⟩, ⟨s + ddec p y m, m, -(p.d1 : Int), ddec p m x⟩]

/-- The phases of a plan from S `s` at a speed with square `w0` over a distance `len` (R403). -/
def phasesFrom (p : Prof) (s w0 len : Rat) : List Phase :=
  let x : Rat := (p.ve * p.ve : Nat)
  let y := peakW p w0 len
  let r := dacc p w0 y
  let f := ddec p y (min y x)
  (risePhases p s w0 y ++ ⟨s + r, y, 0, len - r - f⟩ :: fallPhases p (s + len - f) y (min y x)).filter (fun q => 0 < q.len)

/-- A plan that keeps the speed with square `w` until the fall that ends at `s + len` begins (R404). -/
def holdFrom (p : Prof) (s w len : Rat) : List Phase :=
  let f := ddec p w (min w ((p.ve * p.ve : Nat) : Rat))
  (⟨s, w, 0, len - f⟩ :: fallPhases p (s + len - f) w (min w ((p.ve * p.ve : Nat) : Rat))).filter (fun q => 0 < q.len)

/-- The time in µs that a phase takes over its first `d` mm: kept to 1 µs (R403). -/
def Phase.time (q : Phase) (d : Rat) : Nat :=
  let v := speedOf q.w
  if q.acc = 0 then (if v = 0 then 0 else (ratRnd 60 (d * 1000000 / v)).toNat)
  else (ratRnd 60 ((speedOf (q.w + 2 * q.acc * d) - v) * 1000000 / q.acc)).toNat

/-- The planned time of a point in µs after T0. -/
def MovePlan.timeAt (m : MovePlan) (s : Rat) : Nat :=
  (m.phs.map (fun q => if s ≤ q.s then 0 else q.time (min q.len (s - q.s)))).sum

/-- The planned duration of a move in µs. -/
def MovePlan.dur (m : MovePlan) : Nat := (m.phs.map (fun q => q.time q.len)).sum

/-- The square of the planned speed at a point. -/
def MovePlan.speedAt (m : MovePlan) (s : Rat) : Rat :=
  match m.phs.find? (fun q => decide (s < q.s + q.len)) with
  | some q => q.w + 2 * q.acc * (max s q.s - q.s)
  | none => 0

/-- The planned state at an instant given in µs after T0: S, square of the speed, and the acceleration in force. -/
def planState : Nat → List Phase → Option (Rat × Rat × Int)
  | _, [] => none
  | us, q :: t =>
    if q.time q.len ≤ us then planState (us - q.time q.len) t
    else
      let x : Rat := (us : Rat) / 1000000
      let v := speedOf q.w + q.acc * x
      some (q.s + speedOf q.w * x + q.acc * x * x / 2, v * v, q.acc)

/-- The phases before a point, the last one cut there. -/
def cutPhases (s : Rat) (l : List Phase) : List Phase :=
  ((l.filter (fun q => q.s < s)).map (fun q => { q with len := min q.len (s - q.s) }))

/-! ### Fixed-point functions -/

/-- One. -/
def fxOne : Nat := 2 ^ 80
/-- A whole number of mm. -/
def fx (i : Int) : Int := i * fxOne
/-- A product. -/
def fxMul (a b : Int) : Int := a * b / fxOne
/-- A quotient. -/
def fxDiv (a b : Int) : Int := if b = 0 then 0 else a * fxOne / b
/-- The root of a natural number. -/
def fxSqrt (n : Nat) : Int := (isqrt (n * fxOne * fxOne) : Nat)
/-- π. -/
def fxPi : Int := 3797952473636338580787994

/-- A Taylor sum: the term, what each next term is multiplied with apart from its divisor, and the divisors' start. -/
def taylor (x2 : Int) : Nat → Int → Int → Int
  | 0, _, _ => 0
  | f + 1, k, term => term + taylor x2 f (k + 2) (-(fxMul term x2) / ((k + 1) * (k + 2)))

/-- The sine of an angle between 0 and π. -/
def fxSin (x : Int) : Int := taylor (fxMul x x) 24 1 x
/-- The cosine of an angle between 0 and π. -/
def fxCos (x : Int) : Int := taylor (fxMul x x) 24 0 fxOne

/-- A sum of t − t³/3 + t⁵/5 − …. -/
def atanSum (t2 : Int) : Nat → Int → Int → Int
  | 0, _, _ => 0
  | f + 1, k, pow => pow / k + atanSum t2 f (k + 2) (-(fxMul pow t2))

/-- tan(x/2) from tan x. -/
def tanHalf (t : Int) : Int := fxDiv t (fxOne + (isqrt (fxOne * fxOne + (t * t).toNat) : Nat))

/-- The length in mm of the minor arc of radius `r` over a chord with square `c2` (R401): 2 r asin(c / 2r), rounded. -/
def arcLen (r c2 : Nat) : Nat :=
  let t := fxDiv (fxSqrt c2) (2 * fx r + fxSqrt (4 * r * r - c2))
  let t := tanHalf (tanHalf (tanHalf t))
  (roundDiv (32 * r * atanSum (fxMul t t) 20 1 t) fxOne).toNat

/-- The unit vector east and north of a heading in 0.01° clockwise from north. -/
def headingVec (h : Nat) : Int × Int :=
  let a := fxPi * (h % 9000 : Nat) / 18000
  let s := if h % 9000 = 0 then 0 else fxSin a
  let c := if h % 9000 = 0 then (fxOne : Int) else fxCos a
  match h / 9000 % 4 with
  | 0 => (s, c) | 1 => (c, -s) | 2 => (-s, -c) | _ => (-c, s)

/-! ### Segments -/

/-- The square of a segment's chord. -/
def TrkSeg.chord2 (g : TrkSeg) : Nat := ((g.e1 - g.e0) * (g.e1 - g.e0) + (g.n1 - g.n0) * (g.n1 - g.n0)).toNat

/-- The length of a segment: its chord, or the arc over it (R401). -/
def segLen (c2 : Nat) (rad : Int) : Nat := if rad = 0 then sqrtRnd 61 (c2 : Nat) else arcLen rad.natAbs c2

/-- The point at `d` mm along a segment and the direction of travel there, in fixed point (R401). -/
def TrkSeg.at_ (g : TrkSeg) (d : Nat) : (Int × Int) × (Int × Int) :=
  let c := fxSqrt g.chord2
  let u := (fxDiv (fx (g.e1 - g.e0)) c, fxDiv (fx (g.n1 - g.n0)) c)
  if g.rad = 0 then ((fx g.e0 + u.1 * d, fx g.n0 + u.2 * d), u)
  else
    let r := g.rad.natAbs
    let sg : Int := if 0 < g.rad then 1 else -1
    let h := fxSqrt (4 * r * r - g.chord2) / 2
    let ce := (fx (g.e0 + g.e1)) / 2 - sg * fxMul u.2 h
    let cn := (fx (g.n0 + g.n1)) / 2 + sg * fxMul u.1 h
    let ae := fx g.e0 - ce
    let an := fx g.n0 - cn
    let th := (fx d) / r
    let co := fxCos th
    let si := sg * fxSin th
    let pe := fxMul ae co - fxMul an si
    let pn := fxMul ae si + fxMul an co
    ((ce + pe, cn + pn), (-(sg * pn) / r, sg * pe / r))

/-- The segment in which a point S lies, with its index. -/
def segAt (l : List TrkSeg) (s : Nat) : Option (Nat × TrkSeg) :=
  match (l.zipIdx).find? (fun g => decide (s < g.1.s0 + g.1.len)) with
  | some g => some (g.2, g.1)
  | none => (l.zipIdx).getLast?.map (fun g => (g.2, g.1))

/-- The point of the track at S, in fixed point, and the direction of travel there. -/
def trackAt (l : List TrkSeg) (s : Nat) : (Int × Int) × (Int × Int) :=
  match segAt l s with
  | some (_, g) => g.at_ (min (s - g.s0) g.len)
  | none => ((0, 0), (0, 0))

/-- The moves of a track: maximal runs of segments with one REV flag, as S, length and REV (R401). -/
def movesOf : List TrkSeg → List (Nat × Nat × Bool)
  | [] => []
  | g :: t =>
    let rev := bitOf 0 g.flg
    match movesOf t with
    | (_, len, r) :: ms => if r = rev then (g.s0, g.len + len, rev) :: ms else (g.s0, g.len, rev) :: (g.s0 + g.len, len, r) :: ms
    | [] => [(g.s0, g.len, rev)]

/-! ### Rectangles -/

/-- Whether a + b √m is above 0. -/
def posRoot (a b : Int) (m : Nat) : Bool :=
  if 0 ≤ a ∧ 0 ≤ b then decide (0 < a ∨ (0 < b ∧ 0 < m))
  else if 0 ≤ a then decide (b * b * m < a * a)
  else if 0 ≤ b then decide (a * a < b * b * m)
  else false

/-- Whether c0 + √n (c2 + c3 √m) is above 0, for c0 not below 0. -/
def posRoots (c0 c2 c3 : Int) (m n : Nat) : Bool :=
  if posRoot c2 c3 m then decide (0 < c0 ∨ 0 < n)
  else if posRoot (-c2) (-c3) m then posRoot (c0 * c0 - n * c2 * c2 - n * c3 * c3 * m) (-2 * n * c2 * c3) m
  else decide (0 < c0)

/-- The direction of a reservation's centreline; a square lies along the axes. -/
def Resv.dir (r : Resv) : Int × Int :=
  if r.e0 = r.e1 ∧ r.n0 = r.n1 then (1, 0) else (r.e1 - r.e0, r.n1 - r.n0)

/-- Whether two rectangles overlap along both axes of the first (R412): projections compared in lengths of √(Na Nb). -/
def axesMeet (a b : Resv) : Bool :=
  let da := a.dir
  let db := b.dir
  let na := (da.1 * da.1 + da.2 * da.2).toNat
  let nb := (db.1 * db.1 + db.2 * db.2).toNat
  let za : Int := if a.e0 = a.e1 ∧ a.n0 = a.n1 then 0 else 1
  let zb : Int := if b.e0 = b.e1 ∧ b.n0 = b.n1 then 0 else 1
  let de := (b.e0 + b.e1) - (a.e0 + a.e1)
  let dn := (b.n0 + b.n1) - (a.n0 + a.n1)
  let dot : Int := (da.1 * db.1 + da.2 * db.2).natAbs
  let cro : Int := (da.1 * db.2 - da.2 * db.1).natAbs
  let al : Int := (de * da.1 + dn * da.2).natAbs
  let ac : Int := (de * da.2 - dn * da.1).natAbs
  posRoots (b.half2 * (dot + cro)) (za * na + zb * dot - al) a.half2 na nb &&
  posRoots (b.half2 * (dot + cro)) (zb * cro - ac) a.half2 na nb

/-- Whether the interiors of two rectangles intersect. -/
def rectsMeet (a b : Resv) : Bool :=
  decide (0 < a.half2 ∧ 0 < b.half2) && axesMeet a b && axesMeet b a

/-- The owner of software's reservations. -/
def ownerSw : Nat := 0x100

/-- Whether two reservations conflict (R412). -/
def Resv.conflicts (a b : Resv) : Bool :=
  (a.owner != b.owner || a.owner == ownerSw) && decide (a.from_ < b.till ∧ b.from_ < a.till) && rectsMeet a b

/-! ### Raster geometry -/

/-- Which side of the line from `a` to `b` a point lies on: above 0 on the left. -/
def sideOf (a b p : Int × Int) : Int := (b.1 - a.1) * (p.2 - a.2) - (b.2 - a.2) * (p.1 - a.1)

/-- Whether a point lies on the segment from `a` to `b`. -/
def onSeg (a b p : Int × Int) : Bool :=
  sideOf a b p == 0 && decide (min a.1 b.1 ≤ p.1 ∧ p.1 ≤ max a.1 b.1 ∧ min a.2 b.2 ≤ p.2 ∧ p.2 ≤ max a.2 b.2)

/-- Whether the ray east of a point crosses the segment from `a` to `b`. -/
def crosses (a b p : Int × Int) : Bool :=
  (decide (a.2 ≤ p.2 ∧ p.2 < b.2) && decide (0 < sideOf a b p)) || (decide (b.2 ≤ p.2 ∧ p.2 < a.2) && decide (0 < sideOf b a p))

/-- Whether a cell centre counts as swept (R417): in the quadrilateral from the earlier edge `a0 b0` to the later `a1 b1` (left
ends `a`), or on its earlier or left edge; not on its later or right edge. -/
def swept (a0 b0 a1 b1 p : Int × Int) : Bool :=
  if onSeg a1 b1 p || onSeg b0 b1 p then false
  else if onSeg a0 b0 p || onSeg a0 a1 p then true
  else ([(a0, b0), (b0, b1), (b1, a1), (a1, a0)].filter (fun e => crosses e.1 e.2 p)).length % 2 == 1

/-- The cells of one column range that the segment from `a` to `b` passes, in cell units of `cs` fixed-point mm from the raster's
corner: for each column the rows between where the segment enters and leaves it. -/
def cellsUnder (cs : Int) (a b : Int × Int) : List (Int × Int) :=
  let l := if a.1 ≤ b.1 then a else b
  let r := if a.1 ≤ b.1 then b else a
  let yAt (x : Int) : Int := if r.1 = l.1 then l.2 else l.2 + (r.2 - l.2) * (x - l.1) / (r.1 - l.1)
  let c0 := l.1 / cs
  ((List.range ((r.1 / cs - c0).toNat + 1)).map (fun (k : Nat) =>
    let c : Int := c0 + k
    let y0 := if r.1 = l.1 then l.2 else yAt (max l.1 (c * cs))
    let y1 := if r.1 = l.1 then r.2 else yAt (min r.1 ((c + 1) * cs))
    let j0 := min y0 y1 / cs
    (List.range ((max y0 y1 / cs - j0).toNat + 1)).map (fun (j : Nat) => (c, j0 + (j : Int))))).flatten

end Sys2Proof.Machine
end

