-- ==== Sys2Proof/Machine/Float.lean ====
section
/-! DEFINITION. Numbers of IEEE 754 binary32 (R296, R319, R343) and the angles of phasors. Intermediate values are rationals and
fixed-point numbers with 80 fractional bits; a result that falls between two binary32 numbers is one of the two. -/

namespace Sys2Proof.Machine

/-! ### binary32 -/

/-- A finite binary32 number in 2^−149; none for infinities and NaN. -/
def f32 (p : Nat) : Option Int :=
  let e := bits 23 8 p
  let m := bits 0 23 p
  let v : Int := if e = 0 then m else ((m + 2 ^ 23) * 2 ^ (e - 1) : Nat)
  if e = 255 then none else if bitOf 31 p then some (-v) else some v

/-- A binary32 number in 2^−149 for comparisons: infinity lies above every finite number; none for NaN. -/
def f32Ord (p : Nat) : Option Int :=
  if bits 0 31 p = 0x7F800000 then some (if bitOf 31 p then -(2 ^ 277) else 2 ^ 277) else f32 p

/-- A finite binary32 number as a rational. -/
def f32Rat (p : Nat) : Option Rat := (f32 p).map (fun v => (v : Rat) / 2 ^ 149)

/-- The floor of the binary logarithm of n / d, for n and d above 0. -/
def expOf (n d : Nat) : Int :=
  let k := (Nat.log2 n : Int) - Nat.log2 d
  if n * 2 ^ (-k).toNat < d * 2 ^ k.toNat then k - 1 else k

/-- The binary32 pattern of a rational: exact where there is one, otherwise a neighbour; beyond the largest finite number,
infinity. -/
def f32Of (place : Nat) (q : Rat) : Nat :=
  let n := q.num.natAbs
  if n = 0 then 0
  else
    let u := max (expOf n q.den - 23) (-149)
    let m := (rnd place (q.num * 2 ^ (-u).toNat) (q.den * 2 ^ u.toNat)).natAbs
    min (if m < 2 ^ 23 then m else (u + 150).toNat * 2 ^ 23 + (m - 2 ^ 23)) 0x7F800000 + b2n (decide (q.num < 0)) * 2 ^ 31

/-- The root of a rational, rounded down to 2^−100. -/
def ratRoot (q : Rat) : Rat := (isqrt (q.num.toNat * 2 ^ 200 / q.den) : Rat) / 2 ^ 100

/-! ### Angles -/

/-- Cosine and sine of 2π n / d, in fixed point. -/
def cis (n : Int) (d : Nat) : Int × Int :=
  let q := n * 4
  let r := q % d
  let a := fxPi * r / (2 * d)
  let c := if r = 0 then (fxOne : Int) else fxCos a
  let s := if r = 0 then 0 else fxSin a
  match (q / d % 4).toNat with
  | 0 => (c, s) | 1 => (-s, c) | 2 => (-c, -s) | _ => (s, -c)

/-- The angle of a number from 0 to 1 whose tangent it is. -/
def fxAtan (t : Int) : Int :=
  let h := tanHalf (tanHalf (tanHalf t))
  8 * atanSum (fxMul h h) 24 1 h

/-- The angle of the point (x, y), from −π to π, in fixed point; 0 for the origin. -/
def fxArg (x y : Int) : Int :=
  let a : Int := x.natAbs
  let b : Int := y.natAbs
  let r := if a < b then fxPi / 2 - fxAtan (fxDiv a b) else fxAtan (fxDiv b a)
  let r := if x < 0 then fxPi - r else r
  if y < 0 then -r else r

/-- π × 2^256, rounded down. -/
def piBig : Int := 363771576891766324280234942777729862653393377328392429958772151117938894466185

/-- An angle in radians brought into (−π, π]. -/
def wrapRad (q : Rat) : Rat :=
  let t := (q * 2 ^ 256).floor
  ((t + 2 * piBig * ((piBig - t) / (2 * piBig)) : Int) : Rat) / 2 ^ 256

/-- An angle in radians as 2^−20 °. -/
def degOf (place : Nat) (q : Rat) : Int := rnd place (q.num * 180 * 2 ^ 276) (q.den * piBig.toNat)

/-! ### Logarithms -/

/-- A sum of t + t³/3 + t⁵/5 + …. -/
def atanhSum (t2 : Int) : Nat → Int → Int → Int
  | 0, _, _ => 0
  | f + 1, k, pow => pow / k + atanhSum t2 f (k + 2) (fxMul pow t2)

/-- ln 2. -/
def fxLn2 : Int := 837963523372001241319907

/-- The natural logarithm of a positive number, in fixed point. -/
def fxLn (n : Nat) : Int :=
  let k : Int := (Nat.log2 n : Int) - 80
  let m : Int := n * 2 ^ (-k).toNat / 2 ^ k.toNat
  let u := fxDiv (m - fxOne) (m + fxOne)
  k * fxLn2 + 2 * atanhSum (fxMul u u) 32 1 u

end Sys2Proof.Machine
end

