-- ==== Sys2Proof/Machine/Phasor.lean ====
section
/-! DEFINITION. Phasor estimation (R286–R296). What the spec does not say of an estimate's arithmetic (log 43) is how the phase is
formed to which frequency and ROCOF are fitted: Config.phase. -/

namespace Sys2Proof.Machine

/-- The base of phasor channel `c`. -/
def phBase (c : Nat) : Nat := laneBase .phs 0x80 c
/-- The position of its tile. -/
def phPos (c : Nat) : Nat := chanPos .phs c
/-- Whether phasor channel `c` is enabled. -/
def State.phEn (s : State) (c : Nat) : Bool := s.chanOn .phs c && s.flag (phBase c) Rg.PH_CTRL.EN
/-- Channel `c` beside its registers. -/
def State.ph (s : State) (c : Nat) : PhsLane := lookupD .off c s.phs
/-- Channel `c`'s record replaced. -/
def State.setPh (s : State) (c : Nat) (a : PhsLane) : State := { s with phs := assocSet c a s.phs }
/-- An event of channel `c`. -/
def State.phEvent (s : State) (c : Nat) (f : Fld) : State := s.event (tileEv (phPos c)) (phBase c) f
/-- A configuration field of channel `c`. -/
def State.phCfg (s : State) (c : Nat) (f : Fld) : Nat := s.get (phBase c) f
/-- F0 in Hz. -/
def State.phF0 (s : State) (c : Nat) : Nat := if s.flag (phBase c) Rg.PH_CFG.F0 then 60 else 50
/-- FS. -/
def State.phFs (s : State) (c : Nat) : Nat := s.phCfg c Rg.PH_CFG.FS
/-- The waveform channel that feeds it. -/
def State.phSrc (s : State) (c : Nat) : Nat := s.phCfg c Rg.PH_CFG.SRC_CH

/-! ### Grids -/

/-- The last second boundary of the device time scale in ns. -/
def State.lastSecond (s : State) : Nat := s.time.bound

/-- round(k × 10^9 / fs). -/
def gridOfs (fs k : Nat) : Nat := (2 * k * 1000000000 + fs) / (2 * fs)

/-- The least k for which instant k of the grid lies after `d` ns of its second, sought from k on. -/
def gridFind (fs d : Nat) : Nat → Nat → Nat
  | 0, k => gridOfs fs k
  | n + 1, k => if d < gridOfs fs k then gridOfs fs k else gridFind fs d n (k + 1)

/-- The second boundary at or before an instant. -/
def State.secondBefore (s : State) (t : Nat) : Nat :=
  let b := s.lastSecond
  if b ≤ t then b + (t - b) / 1000000000 * 1000000000 else b - ceilDiv (b - t) 1000000000 * 1000000000

/-- The first instant after `t` of the grid of `fs` instants a second anchored at the second boundaries (R289). -/
def State.gridAfter (s : State) (fs t : Nat) : Nat :=
  let b := s.secondBefore t
  let d := t - b
  b + gridFind fs d fs (d * fs / 1000000000)

/-! ### Windows (R290) -/

/-- The window in cycles of a combination of class, F0 (0 50 Hz, 1 60 Hz) and FS; none for any other combination. -/
def phCycles (cls f0 fs : Nat) : Option Nat :=
  match cls, f0 with
  | 0, 0 => if [10, 25, 50, 100, 200].contains fs then some 2 else none
  | 0, _ => if [10, 12, 15, 20, 30, 60, 120, 240].contains fs then some 2 else none
  | _, 0 => if fs = 10 then some 14 else if fs = 25 then some 7 else if fs = 50 then some 4 else none
  | _, _ => if fs = 10 then some 16 else if fs = 12 then some 14 else if fs = 15 then some 11
            else if fs = 20 then some 9 else if fs = 30 then some 6 else if fs = 60 then some 4 else none

/-- The window of channel `c` in cycles. -/
def State.phWindow (s : State) (c : Nat) : Option Nat :=
  phCycles (s.phCfg c Rg.PH_CFG.CLASS) (s.phCfg c Rg.PH_CFG.F0) (s.phFs c)

/-- Whether a frequency lies outside its class range: F0 ± 2 Hz for P, ± 5 Hz for M. -/
def outOfRange (cls f0 : Nat) (f : Rat) : Bool :=
  let d : Rat := f - f0
  let w : Rat := if cls = 0 then 2 else 5
  decide (w < d ∨ d < -w)

/-! ### Input rate (R288) -/

/-- Samples in the last nominal cycle of those that have reached the tile; none before samples reach over a cycle, and 0 when none
has come for a cycle. -/
def State.phMeasured (s : State) (c : Nat) : Option Nat :=
  let a := s.ph c
  let f0 := s.phF0 c
  match a.fine with
  | [] => if 1000000000 < (s.nowNs - a.heard) * f0 then some 0 else none
  | x :: _ =>
    let last := ((a.fine.getLast?).getD x).ts
    if 1000000000 < (s.nowNs - a.heard) * f0 then some 0
    else if (last - x.ts) * f0 < 1000000000 then none
    else some (a.fine.filter (fun p => decide ((last - p.ts) * f0 < 1000000000))).length

/-- Whether the source delivers 32 to 2,000 samples per cycle. -/
def State.phRateOk (s : State) (c : Nat) : Bool := (s.phMeasured c).any (fun n => decide (32 ≤ n ∧ n ≤ 2000))

/-- The measured rate shown. -/
def State.phShow (s : State) (c : Nat) : State :=
  s.sets (phBase c) [(Rg.PH_STAT.SPC, min ((s.phMeasured c).getD 0) 0xFFFF), (Rg.PH_STAT.IN_RATE_OK, b2n (s.phRateOk c))]

/-- The measured rate shown; while it is outside the range no window may begin. -/
def State.phRate (s : State) (c : Nat) : State :=
  let t := s.phShow c
  match s.phMeasured c with
  | none => t
  | some n =>
    if 32 ≤ n ∧ n ≤ 2000 then t
    else
      let a := t.ph c
      (t.phEvent c Rg.PH_EVT.IN_RATE).setPh c { a with since := max a.since (((a.fine.getLast?).map (fun p => p.ts)).getD 0) }

/-! ### Enable -/

/-- Whether channel `c` may report the positive sequence (R291). -/
def State.phSeqOk (s : State) (c : Nat) : Bool :=
  decide (c % 16 ≤ 13) && (List.range 2).all (fun i =>
    let p := c + i + 1
    s.phEn p && !s.flag (phBase p) Rg.PH_CFG.SEQ && s.phCfg p Rg.PH_CFG.F0 == s.phCfg c Rg.PH_CFG.F0 &&
    s.phCfg p Rg.PH_CFG.CLASS == s.phCfg c Rg.PH_CFG.CLASS && s.phFs p == s.phFs c)

/-- The first check an enable fails, as PH_STAT.REFUSE. -/
def State.phRefusal (s : State) (c : Nat) : Nat :=
  if (s.linkTo (flPos (s.phSrc c)) (phPos c)).isNone then 1
  else if (s.phWindow c).isNone then 2
  else if s.flag (phBase c) Rg.PH_CFG.SEQ ∧ !s.phSeqOk c then 3
  else 0

/-- Phase lanes B and C of a sequence lane marked, or no longer (R291). -/
def State.phMembers (s : State) (c v : Nat) : State :=
  if s.flag (phBase c) Rg.PH_CFG.SEQ then
    (s.set (phBase (c + 1)) Rg.PH_STAT.SEQ_MEMBER v).set (phBase (c + 2)) Rg.PH_STAT.SEQ_MEMBER v
  else s

/-- EN set on channel `c`. -/
def State.phEnable (s : State) (c : Nat) : State :=
  let b := phBase c
  if s.flag b Rg.PH_CTRL.EN then s
  else
    let r := s.phRefusal c
    if r ≠ 0 then (s.set b Rg.PH_STAT.REFUSE r).phEvent c Rg.PH_EVT.REFUSED
    else
      let t := (s.sets b [(Rg.PH_CTRL.EN, 1), (Rg.PH_STAT.RUN, 1), (Rg.PH_STAT.REFUSE, 0)]).phMembers c 1
      let a := { PhsLane.off with nxt := t.gridAfter (t.phFs c) t.nowNs, fnxt := t.gridAfter (8 * t.phF0 c) t.nowNs, heard := t.nowNs }
      (t.setPh c a).phRate c

/-- EN cleared on channel `c`: ignored on a partner lane while its sequence lane runs (R291). -/
def State.phDisable (s : State) (c : Nat) : State :=
  let b := phBase c
  if !s.flag b Rg.PH_CTRL.EN then s
  else if s.flag b Rg.PH_STAT.SEQ_MEMBER then s.phEvent c Rg.PH_EVT.CFG_LOCKED
  else
    let t := (s.phMembers c 0).sets b [(Rg.PH_CTRL.EN, 0), (Rg.PH_STAT.RUN, 0), (Rg.PH_STAT.IN_RATE_OK, 0)]
    { t with phs := assocDel c t.phs }

/-- PHASOR_ENABLE: PH_CTRL written with EN 1. -/
def execPhasorEnable (m : Master) (c : Nat) (s : State) : Host.Outcome State Fault Refusal :=
  .next (s.tileWrite m (phPos c) (c % 16) (0x1008 + c % 16 * 0x80) (fun t => t.phEnable c))

/-! ### Samples -/

/-- The 32-bit values of the data words of a sample item. -/
def unpackSamples : List Nat → List Int
  | [] => []
  | w :: t => sgn 32 (w % 2 ^ 32) :: sgn 32 (w / 2 ^ 32) :: unpackSamples t

/-- The marks of word 0 of a sample item: UNSETTLED, FAULT, SAT, TFLAG. -/
def itemMarks (w : Nat) : Nat := bits 6 1 w + bits 9 1 w * 2 + bits 8 1 w * 4 + bits 10 1 w * 8

/-- The samples of an item of channel `x`, the i-th a sample period of `step` clock periods behind the one before (R280, R281). -/
def State.itemSamples (s : State) (x step : Nat) (brk : Bool) (q : QPkt) : List PhsSample :=
  let w := q.data.headD 0
  ((unpackSamples (q.data.drop 2)).take (bits 13 4 w)).mapIdx (fun i v =>
    let d := (rnd 40 ((i * step * 1000000000 : Nat) : Int) (max (s.flHz x) 1)).toNat
    ⟨q.data.getD 1 0 + d, v, itemMarks w, brk && i == 0⟩)

/-- Samples put behind those of a window: what a backward step has overtaken goes, and nothing older than a second is kept. -/
def windowAdd (old new : List PhsSample) : List PhsSample :=
  match new with
  | [] => old
  | a :: _ =>
    let last := ((new.getLast?).getD a).ts
    (old.filter (fun p => decide (p.ts < a.ts ∧ last ≤ p.ts + 1000000000))) ++ new

/-- Whether an item's samples do not follow those before: a gap in SEQ, or SEQ starting over after DISC (R293). -/
def seqBreaks (w want : Nat) : Bool := bits 32 32 w != want || (bitOf 11 w && bits 32 32 w == 0)

/-- A sample item that arrived at `at_` taken into the windows of channel `c`. -/
def State.phTake (s : State) (c at_ : Nat) (q : QPkt) : State :=
  let a := s.ph c
  let x := s.phSrc c
  let w := q.data.headD 0
  let nxt := (bits 32 32 w + bits 13 4 w) % 2 ^ 32
  if bits 0 6 w ≠ x then s
  else if pktType q.lw = 0x41 then
    let new := s.itemSamples x (s.flR x * s.flFastDec x) (!a.fast.isEmpty && seqBreaks w a.fastSeq) q
    s.setPh c { a with fastSeq := nxt, fast := windowAdd a.fast new }
  else if pktType q.lw = 0x40 then
    let new := s.itemSamples x (s.flM x) (!a.fine.isEmpty && seqBreaks w a.fineSeq) q
    s.setPh c { a with fineSeq := nxt, heard := at_, fine := windowAdd a.fine new }
  else s

/-- The items that have reached a PHS tile taken by its enabled lanes. -/
def State.phAbsorb (s : State) (pos : Nat) : State :=
  let r := s.collect pos
  r.2.foldl (fun t i => (List.range 16).foldl (fun u l =>
    let c := instAt pos * 16 + l
    if u.phEn c then u.phTake c i.at_ i.q else u) t) r.1

/-- PH_STAT as it reads now: the rate is measured continuously. -/
def State.phStat (s : State) (c : Nat) : Nat :=
  if s.phEn c then (((s.phAbsorb (phPos c)).phShow c).word (phBase c) .PH_STAT) else s.word (phBase c) .PH_STAT

/-! ### Estimates -/

/-- The channels whose samples an estimate of channel `c` takes: three for the positive sequence. -/
def State.phPhases (s : State) (c : Nat) : List Nat :=
  if s.flag (phBase c) Rg.PH_CFG.SEQ then [c, c + 1, c + 2] else [c]

/-- Whether an instant lies in the window of an estimate: centred on `k`, or for a fast one the nominal cycle that ends at `k`. -/
def State.phIn (s : State) (c k : Nat) (fast : Bool) (ts : Nat) : Bool :=
  if fast then decide (ts ≤ k ∧ (k - ts) * s.phF0 c < 1000000000)
  else decide (2 * ((ts : Int) - k).natAbs * s.phF0 c ≤ (s.phWindow c).getD 2 * 1000000000)

/-- Whether a lane's samples reach over a whole window. -/
def covers (lo hi : Nat) (l : List PhsSample) : Bool := l.any (fun p => decide (p.ts ≤ lo)) && l.any (fun p => decide (hi ≤ p.ts))

/-- The samples of one path. -/
def PhsLane.path (a : PhsLane) (fast : Bool) : List PhsSample := if fast then a.fast else a.fine

/-- The samples of channel `p` in the window of an estimate of channel `c`. -/
def State.phWin (s : State) (c k : Nat) (fast : Bool) (p : Nat) : List PhsSample :=
  ((s.ph p).path (fast && s.flag (phBase c) Rg.PH_CFG.FAST_SRC)).filter (fun x => s.phIn c k fast x.ts)

/-- The weight of a sample `d` ns from the centre of a window (R290, R292): rectangular, triangular or Hamming. The scale of the
weights is free, since the filter has unity gain at DC. -/
def State.phWeight (s : State) (c : Nat) (fast : Bool) (d : Int) : Int :=
  let n := (s.phWindow c).getD 2 * 1000000000
  if fast then 1
  else if s.phCfg c Rg.PH_CFG.CLASS = 0 then n - 2 * d.natAbs * s.phF0 c
  else 54 * fxOne + 46 * (cis (d * s.phF0 c) n).1

/-- The filtered phasor of one phase in fixed point, without the factor √2 (R289): the samples weighted and turned back by the
phase that a cosine at F0 has since the second boundary. None where the weights have no sum. -/
def State.phFiltered (s : State) (c k : Nat) (fast : Bool) (p : Nat) : Option (Int × Int) :=
  let r := (s.phWin c k fast p).foldl (fun (r : Int × Int × Int) x =>
    let w := s.phWeight c fast ((x.ts : Int) - k)
    let e := cis (-(((x.ts : Int) - s.lastSecond) * s.phF0 c)) 1000000000
    (r.1 + w, r.2.1 + w * x.val * e.1, r.2.2 + w * x.val * e.2)) (0, 0, 0)
  if r.1 = 0 then none else some (r.2.1 / r.1, r.2.2 / r.1)

/-- A product of complex numbers in fixed point. -/
def fxTurn (a b : Int × Int) : Int × Int := (fxMul a.1 b.1 - fxMul a.2 b.2, fxMul a.1 b.2 + fxMul a.2 b.1)

/-- The phasor of an estimate: that of the one phase, or X1 = (Xa + a Xb + a² Xc) / 3 with a = e^(j2π/3) (R291). -/
def State.phX (s : State) (c k : Nat) (fast : Bool) : Option (Int × Int) :=
  match (s.phPhases c).map (s.phFiltered c k fast) with
  | [some x] => some x
  | [some x, some y, some z] =>
    let y := fxTurn (cis 1 3) y
    let z := fxTurn (cis 2 3) z
    some ((x.1 + y.1 + z.1) / 3, (x.2 + y.2 + z.2) / 3)
  | _ => none

/-- The magnitude of an estimate, RMS in primary units, as binary32: √2 times the filtered phasor, times SCALE / 2^31. -/
def State.phMag (s : State) (c k : Nat) (fast : Bool) : Nat :=
  let sc := s.get (phBase c) Rg.PH_SCALE.SCALE
  match s.phX c k fast, f32Rat sc with
  | some x, some m => f32Of 93 (ratRoot (2 * ((x.1 * x.1 + x.2 * x.2 : Int) : Rat) / 2 ^ 160) * m / 2 ^ 31)
  | x, _ => (Config.noNumber 0 [sc, (x.getD (0, 0)).1, (x.getD (0, 0)).2]).toNat

/-- The angle of an estimate as binary32: arg X + ANG_OFS, wrapped to (−π, π]. -/
def State.phAng (s : State) (c k : Nat) (fast : Bool) : Nat :=
  let ofs := s.get (phBase c) Rg.PH_SCALE.ANG_OFS
  match s.phX c k fast, f32Rat ofs with
  | some (0, 0), _ => (Config.noNumber 1 [ofs]).toNat
  | some x, some o => f32Of 94 (wrapRad (((fxArg x.1 x.2 : Int) : Rat) / 2 ^ 80 + o))
  | x, _ => (Config.noNumber 2 [ofs, (x.getD (0, 0)).1, (x.getD (0, 0)).2]).toNat

/-- Phases in 2^−80 turns unwrapped: each within half a turn of the one before. -/
def unwrap : Int → List Int → List Int
  | _, [] => []
  | a, x :: t =>
    let d := (x - a + 2 ^ 79) % 2 ^ 80 - 2 ^ 79
    (a + d) :: unwrap (a + d) t

/-- The first and second coefficient of the least-squares fit of a + b d + c d² to points (d, y); none where the points fix no such
curve. -/
def fit2 (l : List (Int × Int)) : Option (Rat × Rat) :=
  let s (i j : Nat) : Int := (l.map (fun p => p.1 ^ i * p.2 ^ j)).sum
  let det (a b c d e f g h i : Int) : Int := a * (e * i - f * h) - b * (d * i - f * g) + c * (d * h - e * g)
  let m := det (s 0 0) (s 1 0) (s 2 0) (s 1 0) (s 2 0) (s 3 0) (s 2 0) (s 3 0) (s 4 0)
  if m = 0 then none
  else some ((det (s 0 0) (s 0 1) (s 2 0) (s 1 0) (s 1 1) (s 3 0) (s 2 0) (s 2 1) (s 4 0) : Rat) / m,
             (det (s 0 0) (s 1 0) (s 0 1) (s 1 0) (s 2 0) (s 1 1) (s 2 0) (s 3 0) (s 2 1) : Rat) / m)

/-- Frequency in Hz and ROCOF in Hz/s of an estimate (R290): the second-order fit to the unwrapped phase over its window, at the
window's centre. Where the points fix no curve both are free. -/
def State.phRates (s : State) (c k : Nat) (fast : Bool) : Rat × Rat :=
  let f0 := s.phF0 c
  let mid (ts : Nat) : Int := (ts : Int) - k + (if fast then (500000000 / f0 : Nat) else 0)
  let wins := (s.phPhases c).map (fun p => (s.phWin c k fast p).map (fun x => (mid x.ts, x.val)))
  let ph := Config.phase [f0, s.phCfg c Rg.PH_CFG.CLASS, b2n fast] wins
  let at_ := (wins.headD []).map (fun x => x.1)
  let y := unwrap 0 ((List.range at_.length).map ph)
  let r := (fit2 (at_.zip y)).getD ((ph at_.length : Rat), (ph (at_.length + 1) : Rat))
  ((f0 : Rat) + r.1 * 1000000000 / 2 ^ 80, r.2 * 2 * 1000000000000000000 / 2 ^ 80)

/-- The values of an estimate: words 2 and 3 of its item and whether its frequency lies outside the class range. ROCOF in a fast
estimate is 0. -/
def State.phValues (s : State) (c k : Nat) (fast : Bool) : Nat × Nat × Bool :=
  let r := s.phRates c k fast
  (s.phMag c k fast + s.phAng c k fast * 2 ^ 32, f32Of 95 r.1 + (if fast then 0 else f32Of 96 r.2) * 2 ^ 32,
   outOfRange (s.phCfg c Rg.PH_CFG.CLASS) (s.phF0 c) r.1)

/-- Whether the sample sequence breaks between `lo` and `hi`: a break lies between the sample before it and the one that shows
it. -/
def breaksIn (lo hi : Nat) : Nat → List PhsSample → Bool
  | _, [] => false
  | a, x :: t => (x.brk && decide (a < hi ∧ lo < x.ts)) || breaksIn lo hi x.ts t

/-- The marks of the samples of a window (R293): UNSETTLED, FAULT, SAT, TFLAG as four bits, and whether the sequence breaks. -/
def State.phMarks (s : State) (c k : Nat) (fast : Bool) (lo hi : Nat) : Nat × Bool :=
  let src := fast && s.flag (phBase c) Rg.PH_CFG.FAST_SRC
  (((s.phPhases c).map (s.phWin c k fast)).flatten.foldl (fun m x => m ||| x.marks) 0,
   (s.phPhases c).any (fun p => breaksIn lo hi 0 ((s.ph p).path src)))

/-- Word 0 of an estimate item (R296); TFLAG also in HOLDOVER (R315). -/
def State.phHead (s : State) (c seq marks : Nat) (gap frange unref : Bool) : Nat :=
  let b := phBase c
  c + s.get b Rg.PH_CFG.CLASS * 2 ^ 6 + s.get b Rg.PH_CFG.F0 * 2 ^ 7 + s.get b Rg.PH_CFG.SEQ * 2 ^ 8 +
    b2n (bitOf 0 marks || gap) * 2 ^ 9 + bits 1 1 marks * 2 ^ 10 + bits 2 1 marks * 2 ^ 11 +
    b2n (bitOf 3 marks || s.mode == .holdover) * 2 ^ 12 + b2n frange * 2 ^ 13 + b2n unref * 2 ^ 14 + b2n gap * 2 ^ 15 + seq * 2 ^ 32

/-- An estimate item sent; a drop is counted (R296). -/
def State.phSend (s : State) (c mask typ : Nat) (data : List Nat) : State :=
  let r := s.sendMask (phPos c) mask typ data
  if r.2 = 0 then r.1 else (r.1.count (phBase c) Rg.PH_CNT.OUT_DROP r.2).phEvent c Rg.PH_EVT.OUT_DROP

/-- What both kinds of estimate note: FRANGE, GAP. -/
def State.phNote (s : State) (c : Nat) (frange gap : Bool) : State :=
  let t := if frange then s.phEvent c Rg.PH_EVT.FRANGE else s
  if gap then (t.count (phBase c) Rg.PH_CNT.GAP 1).phEvent c Rg.PH_EVT.GAP else t

/-- The estimate for `tk` over its window of `lo` to `hi`. -/
def State.phEstimate (s : State) (c tk lo hi : Nat) : State :=
  let a := s.ph c
  let m := s.phMarks c tk false lo hi
  let v := s.phValues c tk false
  let t := s.setPh c { a with nxt := s.gridAfter (s.phFs c) tk, seq := (a.seq + 1) % 2 ^ 32 }
  let t := t.sets (phBase c) [(Rg.PH_VAL.W, v.1), (Rg.PH_FRQ.W, v.2.1), (Rg.PH_STAT.UNSETTLED, b2n (bitOf 0 m.1 || m.2)),
    (Rg.PH_STAT.FAULT, bits 1 1 m.1), (Rg.PH_STAT.FRANGE, b2n v.2.2)]
  (t.phNote c v.2.2 m.2).phSend c (s.phCfg c Rg.PH_CFG.OUT_ROUTE) 0x50 [s.phHead c a.seq m.1 m.2 v.2.2 false, tk, v.1, v.2.1]

/-- Half the window of channel `c` in ns, rounded up. -/
def State.phHalf (s : State) (c : Nat) : Nat := ceilDiv ((s.phWindow c).getD 2 * 1000000000) (2 * s.phF0 c)

/-- The first reporting instant from `t` on whose window starts no earlier than the samples held; the first argument bounds the
search. -/
def State.phSkip (s : State) (c half first : Nat) : Nat → Nat → Nat
  | 0, t => t
  | n + 1, t => if first + half ≤ t then t else s.phSkip c half first n (s.gridAfter (s.phFs c) t)

/-- PHASOR_ESTIMATE: a lane's next window is complete (R289). -/
def execPhasorEstimate (c : Nat) (s : State) : Host.Outcome State Fault Refusal :=
  if !s.phEn c then .next s
  else
    let t := (s.phAbsorb (phPos c)).phRate c
    if !t.phRateOk c then .next t
    else
      let h := t.phHalf c
      let a := t.ph c
      match a.fine with
      | [] => .next t
      | x :: _ =>
        let tk := t.phSkip c h (max x.ts a.since) 512 a.nxt
        let t := t.setPh c { a with nxt := tk }
        if (t.phPhases c).all (fun p => covers (tk - h) (tk + h) (t.ph p).fine) then .next (t.phEstimate c tk (tk - h) (tk + h))
        else .next t

/-- The fast estimate at `g`, over the cycle that ends there. -/
def State.phFast (s : State) (c g lo : Nat) : State :=
  let a := s.ph c
  let src := s.flag (phBase c) Rg.PH_CFG.FAST_SRC
  let m := s.phMarks c g true lo g
  let v := s.phValues c g true
  let t := s.setPh c { a with fnxt := s.gridAfter (8 * s.phF0 c) g, fseq := (a.fseq + 1) % 2 ^ 32 }
  let t := t.sets (phBase c) [(Rg.PH_FVAL.MAG, v.1 % 2 ^ 32), (Rg.PH_FVAL.FREQ, v.2.1)]
  (t.phNote c v.2.2 m.2).phSend c (s.phCfg c Rg.PH_CFG.FAST_ROUTE) 0x51 [s.phHead c a.fseq m.1 m.2 v.2.2 src, g, v.1, v.2.1]

/-- One nominal cycle in ns, rounded up. -/
def State.phCycle (s : State) (c : Nat) : Nat := ceilDiv 1000000000 (s.phF0 c)

/-- The first fast instant from `t` on whose window starts no earlier than the samples held. -/
def State.phFastSkip (s : State) (c first : Nat) : Nat → Nat → Nat
  | 0, t => t
  | n + 1, t => if first + s.phCycle c ≤ t then t else s.phFastSkip c first n (s.gridAfter (8 * s.phF0 c) t)

/-- FAST_ESTIMATE: the cycle before the next fast grid instant is complete (R292). -/
def execFastEstimate (c : Nat) (s : State) : Host.Outcome State Fault Refusal :=
  if !s.phEn c ∨ !s.flag (phBase c) Rg.PH_CFG.FAST_EN then .next s
  else
    let t := (s.phAbsorb (phPos c)).phRate c
    if !t.phRateOk c then .next t
    else
      let src := t.flag (phBase c) Rg.PH_CFG.FAST_SRC
      let a := t.ph c
      match a.path src with
      | [] => .next t
      | x :: _ =>
        let g := t.phFastSkip c (max x.ts a.since) 512 a.fnxt
        let t := t.setPh c { a with fnxt := g }
        let lo := g - t.phCycle c
        if (t.phPhases c).all (fun p => covers lo g ((t.ph p).path src)) then .next (t.phFast c g lo) else .next t

/-! ### Reactions -/

/-- A wrap to a label other than the old era + 1: what a lane holds is named anew (R146). -/
def State.phRelabel (s : State) (off : Int) : State :=
  let mv (n : Nat) : Nat := ((n : Int) + off).toNat
  let sm (x : PhsSample) : PhsSample := { x with ts := mv x.ts }
  { s with phs := s.phs.map (fun p => (p.1, { p.2 with
      fine := p.2.fine.map sm, fast := p.2.fast.map sm, nxt := mv p.2.nxt, fnxt := mv p.2.fnxt, since := mv p.2.since,
      heard := mv p.2.heard })) }

/-- A time step: the grids count from the boundaries of the new scale (R289, R293). -/
def State.phStepped (s : State) : State :=
  (List.range 64).foldl (fun t c =>
    if t.phEn c then t.setPh c { t.ph c with nxt := t.gridAfter (t.phFs c) t.nowNs, fnxt := t.gridAfter (8 * t.phF0 c) t.nowNs,
                                             since := 0, heard := t.nowNs }
    else t) s

/-- Every lane disabled, sequence lanes before their partners (R315). -/
def State.phOff (s : State) : State :=
  let off (q : Bool) (t : State) := (List.range 64).foldl (fun u c =>
    if u.phEn c ∧ u.flag (phBase c) Rg.PH_STAT.SEQ_MEMBER = q then u.phDisable c else u) t
  off true (off false s)

end Sys2Proof.Machine
end

