-- ==== Sys2Proof/Machine/Align.lean ====
section
/-! DEFINITION. Stream alignment: streams, concentrations and buckets (R297–R316). -/

namespace Sys2Proof.Machine

/-- The position of ALN instance `i`. -/
def atPos (i : Nat) : Nat := (tilePositions .aln).getD i 99
/-- The base of the registers of stream `st`. -/
def alBase (st : Nat) : Nat := banked (atBase (st / 512)) (st % 512)
/-- The base of context `x` of PKT instance `p`. -/
def pcBase (p x : Nat) : Nat := banked (kindBase .pkt p) x
/-- The position of PKT instance `p`. -/
def pkPos (p : Nat) : Nat := (tilePositions .pkt).getD p 99

/-- An event of ALN instance `i`. -/
def State.atEvent (s : State) (i : Nat) (f : Fld) : State := s.event (tileEv (atPos i)) (atBase i) f
/-- The record of an enabled stream. -/
def State.stream (s : State) (st : Nat) : Option Stream := s.align.streams.find? (fun x => x.st == st)
/-- A stream's record replaced. -/
def State.setStream (s : State) (x : Stream) : State :=
  s.setAln { s.align with streams := s.align.streams.map (fun y => if y.st = x.st then x else y) }
/-! ### Layout (R299) -/

/-- FORMAT, PHNMR, ANNMR and DGNMR of block `d` of a stream. -/
def State.block (s : State) (st d : Nat) : Nat × Nat × Nat × Nat :=
  let b := alBase st + d / 2 * 8
  if d % 2 = 0 then (s.get b Rg.AL_BLK.FORMAT0, s.get b Rg.AL_BLK.PHNMR0, s.get b Rg.AL_BLK.ANNMR0, s.get b Rg.AL_BLK.DGNMR0)
  else (s.get b Rg.AL_BLK.FORMAT1, s.get b Rg.AL_BLK.PHNMR1, s.get b Rg.AL_BLK.ANNMR1, s.get b Rg.AL_BLK.DGNMR1)

/-- The bytes of a block. -/
def blockLen (k : Nat × Nat × Nat × Nat) : Nat :=
  let f := k.1
  2 + k.2.1 * (if bitOf 1 f then 8 else 4) + (if bitOf 3 f then 8 else 4) + k.2.2.1 * (if bitOf 2 f then 4 else 2) + 2 * k.2.2.2

/-- The channels a local stream selects, in lane order (R303). -/
def State.localChans (s : State) (st : Nat) : List Nat :=
  let b := alBase st
  ((List.range 16).filter (fun l => bitOf l (s.get b Rg.AL_ADDR.ADDR))).map (fun l => s.get b Rg.AL_CFG.PKT * 16 + l)

/-- The lane whose frequency and ROCOF a local stream reports. -/
def State.localFreq (s : State) (st : Nat) : Nat :=
  s.get (alBase st) Rg.AL_CFG.PKT * 16 + bits 16 4 (s.get (alBase st) Rg.AL_ADDR.ADDR)

/-- Whether a stream is local. -/
def State.isLocal (s : State) (st : Nat) : Bool := s.flag (alBase st) Rg.AL_CFG.LOCAL

/-- The PMU blocks of a stream: as AL_BLK gives them, or the one block of a local stream. -/
def State.blocks (s : State) (st : Nat) : List (Nat × Nat × Nat × Nat) :=
  if s.isLocal st then [(0xB, (s.localChans st).length, 0, 0)]
  else (List.range (s.get (alBase st) Rg.AL_CFG.NUM_PMU + 1)).map (s.block st)

/-- LEN of a stream. -/
def State.streamLen (s : State) (st : Nat) : Nat := ((s.blocks st).map blockLen).sum

/-- A list repeated. -/
def rep (n : Nat) (l : List Byte) : List Byte := (List.replicate n l).flatten

/-- The block of an absent member (R307). -/
def absentBlock (k : Nat × Nat × Nat × Nat) : List Byte :=
  let nan := beBytes 4 0x7FC00000
  let bad := beBytes 2 0x8000
  beBytes 2 0x8000 ++ rep k.2.1 (if bitOf 1 k.1 then nan ++ nan else bad ++ bad) ++
  (if bitOf 3 k.1 then nan ++ nan else bad ++ bad) ++ rep k.2.2.1 (if bitOf 2 k.1 then nan else bad) ++ rep k.2.2.2 (beBytes 2 0)

/-! ### Stream enable (R297, R303, R312, R313) -/

/-- Whether two remote streams have the same IDCODE, address, port and transport. -/
def State.sameKey (s : State) (x y : Nat) : Bool :=
  let a := alBase x
  let b := alBase y
  s.get a Rg.AL_CFG.IDCODE == s.get b Rg.AL_CFG.IDCODE && s.get a Rg.AL_ADDR.ADDR == s.get b Rg.AL_ADDR.ADDR &&
  s.get (a + 8) Rg.AL_ADDR.ADDR == s.get (b + 8) Rg.AL_ADDR.ADDR && s.get a Rg.AL_PORT.SRC_PORT == s.get b Rg.AL_PORT.SRC_PORT &&
  s.get a Rg.AL_PORT.V6 == s.get b Rg.AL_PORT.V6 && s.get a Rg.AL_PORT.TCP == s.get b Rg.AL_PORT.TCP

/-- The base of the connection context a stream names. -/
def State.connBase (s : State) (st : Nat) : Nat := pcBase (s.get (alBase st) Rg.AL_CFG.PKT) (s.get (alBase st) Rg.AL_CFG.CONN)

/-- Whether an enable of a remote stream meets KEY_DUP. -/
def State.keyDup (s : State) (st : Nat) : Bool :=
  (s.flag (s.connBase st) Rg.PC_CFG.EN && !s.flag (s.connBase st) Rg.PC_CFG.OWNED) ||
  s.align.streams.any (fun x => x.st != st && !s.isLocal x.st && (s.sameKey x.st st || s.connBase x.st == s.connBase st))

/-- Whether a local stream's configuration is refused (R303). -/
def State.localBad (s : State) (st : Nat) : Bool :=
  let l := s.localChans st
  let a := l.headD 0
  l.isEmpty || l.any (fun c => !s.phEn c) || !l.contains (s.localFreq st) ||
  l.any (fun c => s.phFs c != s.phFs a || s.phF0 c != s.phF0 a) || s.phFs a != s.get (alBase st) Rg.AL_CFG.RATE

/-- Whether the figures of a stream lie outside their ranges. -/
def State.streamRange (s : State) (st : Nat) : Bool :=
  let b := alBase st
  let g := s.get b
  decide (g Rg.AL_CFG.RATE < 1 ∨ 240 < g Rg.AL_CFG.RATE ∨ g Rg.AL_WAIT.WMIN < 1 ∨ g Rg.AL_WAIT.WMAX < g Rg.AL_WAIT.WMIN ∨
    1000 < g Rg.AL_WAIT.WMAX ∨ 1000 < g Rg.AL_WAIT.MARGIN ∨ 3240 < s.streamLen st) ||
  (s.blocks st).any (fun k => decide (64 < k.2.1 ∨ 64 < k.2.2.1 ∨ 16 < k.2.2.2))

/-- The first check a stream's enable fails, as AL_STAT.REFUSE. -/
def State.streamRefusal (s : State) (st : Nat) : Nat :=
  let p := s.get (alBase st) Rg.AL_CFG.PKT
  let src := if s.isLocal st then (if p < 4 then (tilePositions .phs).getD p 99 else 99) else pkPos p
  if (s.linkTo src (atPos (st / 512))).isNone then 1
  else if s.streamRange st then 2
  else if !s.isLocal st ∧ s.keyDup st then 3
  else if s.align.concs.any (fun c => c.members.any (fun m => m.st == st && m.len != s.streamLen st)) then 4
  else if s.isLocal st ∧ s.localBad st then 5
  else 0

/-- WAIT_CAP of concentration `n` as a stream's tile knows it: of its home while it runs. -/
def State.waitCap (s : State) (i n : Nat) : Nat :=
  let home := match s.conc n with
    | some c => c.home
    | none => i
  s.get (acBase home n) Rg.AC_CFG.WAIT_CAP

/-- The quarantine of a stream in ns (R313). -/
def State.quarTime (s : State) (st : Nat) : Nat :=
  let caps := ((List.range 16).filter (fun n => bitOf n (s.get (alBase st) Rg.AL_MEMB.MEMB))).map (s.waitCap (st / 512))
  ((s.get (alBase st) Rg.AL_WAIT.WMAX :: caps).foldl max 0 + 2) * 1000000

/-- The wait time from the latency estimate, in µs (R305). -/
def State.waitOf (s : State) (st q : Nat) : Nat :=
  let b := alBase st
  let wmax := s.get b Rg.AL_WAIT.WMAX * 1000
  if s.flag b Rg.AL_CFG.WAIT_MODE then wmax
  else min (max (q + s.get b Rg.AL_WAIT.MARGIN * 1000) (s.get b Rg.AL_WAIT.WMIN * 1000)) wmax

/-- The latency estimate set with its wait time. -/
def State.setQ (s : State) (st q : Nat) : State := s.sets (alBase st) [(Rg.AL_Q.Q, q), (Rg.AL_Q.W, s.waitOf st q)]

/-- The connection context loaded for a stream that owns it (R444). -/
def State.ownContext (s : State) (st : Nat) : State :=
  let b := alBase st
  let c := s.connBase st
  let t := s.sets c [(Rg.PC_CFG.KIND, if s.flag b Rg.AL_PORT.TCP then 2 else 1), (Rg.PC_CFG.PROTO, 1),
    (Rg.PC_CFG.V6, s.get b Rg.AL_PORT.V6), (Rg.PC_CFG.SW_FLOW, s.get b Rg.AL_CFG.SW_FLOW), (Rg.PC_CFG.DST_POS, atPos (st / 512)),
    (Rg.PC_CFG.DST_LANE, st % 512), (Rg.PC_PORTS.RPORT, s.get b Rg.AL_PORT.SRC_PORT),
    (Rg.PC_RADDR.ADDR, s.get b Rg.AL_ADDR.ADDR), (Rg.PC_CFG.EN, 1), (Rg.PC_CFG.OWNED, 1), (Rg.PC_STAT.RUN, 1), (Rg.PC_STAT.REFUSE, 0)]
  let t := t.set (c + 8) Rg.PC_RADDR.ADDR (s.get (b + 8) Rg.AL_ADDR.ADDR)
  { t with pkt := assocDel (s.get b Rg.AL_CFG.PKT * 1024 + s.get b Rg.AL_CFG.CONN) t.pkt }

/-- AL_BLK0 of a local stream reads its layout (R303). -/
def State.localLayout (s : State) (st : Nat) : State :=
  s.sets (alBase st) [(Rg.AL_BLK.FORMAT0, 0xB), (Rg.AL_BLK.PHNMR0, (s.localChans st).length), (Rg.AL_BLK.ANNMR0, 0),
    (Rg.AL_BLK.DGNMR0, 0), (Rg.AL_BLK.FORMAT1, 0), (Rg.AL_BLK.PHNMR1, 0), (Rg.AL_BLK.ANNMR1, 0), (Rg.AL_BLK.DGNMR1, 0),
    (Rg.AL_CFG.NUM_PMU, 0)]

/-- EN set on stream `st`: a reconfiguration that starts a quarantine. -/
def State.streamOn (s : State) (st : Nat) : State :=
  let b := alBase st
  if s.flag b Rg.AL_CFG.EN then s
  else
    let r := s.streamRefusal st
    if r ≠ 0 then (s.set b Rg.AL_STAT.REFUSE r).atEvent (st / 512) Rg.AT_EVT.REFUSED
    else
      let at_ := max (s.get b Rg.AL_RECONF.AT) s.nowNs
      let stop := at_ + s.quarTime st
      let len := s.streamLen st
      let t := if s.isLocal st then s.localLayout st else s.ownContext st
      let t := t.sets b [(Rg.AL_CFG.EN, 1), (Rg.AL_STAT.RUN, 1), (Rg.AL_STAT.REFUSE, 0), (Rg.AL_STAT.QUAR, 1), (Rg.AL_STAT.LEN, len),
        (Rg.AL_STAT.QUAR_END, stop)]
      let t := t.setQ st ((t.get b Rg.AL_WAIT.WMAX - t.get b Rg.AL_WAIT.MARGIN) * 1000)
      t.setAln { t.align with streams := t.align.streams ++ [⟨st, at_, stop, []⟩] }

/-- EN cleared on stream `st`: its context is OFF, and its blocks will be absent. -/
def State.streamOff (s : State) (st : Nat) : State :=
  let b := alBase st
  if !s.flag b Rg.AL_CFG.EN then s
  else
    let t := if s.isLocal st then s else
      s.sets (s.connBase st) [(Rg.PC_CFG.EN, 0), (Rg.PC_CFG.KIND, 0), (Rg.PC_CFG.OWNED, 0), (Rg.PC_STAT.RUN, 0)]
    let t := t.sets b [(Rg.AL_CFG.EN, 0), (Rg.AL_STAT.RUN, 0), (Rg.AL_STAT.QUAR, 0)]
    t.setAln { t.align with streams := t.align.streams.filter (fun x => x.st != st) }

/-- A write of AL_CFG of the selected stream. -/
def State.streamWrite (s : State) (m : Master) (st : Nat) (f : State → State) : State :=
  s.tileWrite m (atPos (st / 512)) (st % 512) 0x100 f

/-- STREAM_ENABLE: AL_CFG written with EN 1. -/
def execStreamEnable (m : Master) (st : Nat) (s : State) : Host.Outcome State Fault Refusal :=
  .next (s.streamWrite m st (fun t => t.streamOn st))

/-- STREAM_DISABLE: AL_CFG written with EN 0. -/
def execStreamDisable (m : Master) (st : Nat) (s : State) : Host.Outcome State Fault Refusal :=
  .next (s.streamWrite m st (fun t => t.streamOff st))

/-- QUARANTINE_END: the quarantine time of a stream has passed. -/
def execQuarantineEnd (st : Nat) (s : State) : Host.Outcome State Fault Refusal :=
  match s.stream st with
  | none => .next s
  | some x => if x.quar ≤ s.nowNs then .next (s.set (alBase st) Rg.AL_STAT.QUAR 0) else .next s

/-! ### Frames (R300–R306) -/

/-- The address of a slot's byte. -/
def State.slotOf (s : State) (c : Conc) (slot : Nat) : Nat :=
  let b := acBase c.home c.n
  s.get b Rg.AC_BUF.ADDR + slot * (s.get b Rg.AC_BUF.SLOT64 * 64)

/-- What a frame meets in one concentration (R306). -/
inductive Match where
  | offgrid | future | late | dup | put (b : Bucket)
  deriving DecidableEq, Repr

/-- A frame of stream `st` with a timestamp matched to the buckets of a concentration. -/
def State.matchFrame (s : State) (c : Conc) (st ts : Nat) : Match :=
  let b := acBase c.home c.n
  let tol := s.get b Rg.AC_CFG.TOL * 1000
  let tk := s.gridAfter (s.get b Rg.AC_CFG.RATE) (ts - tol - 1)
  if ts + tol < tk then .offgrid
  else match c.buckets.find? (fun x => x.tk == tk) with
    | none => if c.nxt ≤ tk then .future else .late
    | some x =>
      if x.done.isSome || x.closed.contains (st / 512) then .late
      else if x.present.contains st then .dup
      else .put x

/-- The concentrations a stream is a member of, with the member. -/
def State.memberOf (s : State) (st : Nat) : List (Conc × Member) :=
  s.align.concs.filterMap (fun c => (c.members.find? (fun m => m.st == st)).map (fun m => (c, m)))

/-- A bucket of a concentration replaced. -/
def Conc.put (c : Conc) (b : Bucket) : Conc := { c with buckets := c.buckets.map (fun x => if x.tk = b.tk then b else x) }

/-- Blocks copied to a member's place in a bucket's slot; the stream is present. -/
def State.copyTo (s : State) (c : Conc) (m : Member) (b : Bucket) (blocks : List Byte) : State :=
  ((s.memWrite (s.slotOf c b.slot + m.ofs) blocks).1).setConc (c.put { b with present := b.present ++ [m.st] })

/-- q after a latency in µs (R305). -/
def nextQ (q l step : Nat) : Nat := if q < l then min (q + 99 * step) 1000000 else q - step

/-- The latency of a frame in µs. -/
def latencyOf (arrival ts : Nat) : Nat := (clampI 0 1000000 (rnd 41 ((arrival : Int) - ts) 1000)).toNat

/-- A frame that passes step 7 of R300 (R305, R306). -/
def State.frameIn (s : State) (x : Stream) (ts arrival : Nat) (blocks : List Byte) : State :=
  let b := alBase x.st
  let i := x.st / 512
  let found := (s.memberOf x.st).map (fun p => (p, s.matchFrame p.1 x.st ts))
  let has (k : Match) : Bool := found.any (fun r => decide (r.2 = k))
  let t := (s.count b Rg.AL_CNT.RX 1).set b Rg.AL_LAST.AT ts
  let t := if has .dup || decide (arrival < t.align.noQ) then t
    else t.setQ x.st (nextQ (t.get b Rg.AL_Q.Q) (latencyOf arrival ts) (max (t.get b Rg.AL_WAIT.Q_STEP) 1))
  let t := if has .offgrid then t.count b Rg.AL_CNT2.OFFGRID 1 else t
  let t := if has .future then t.count b Rg.AL_CNT2.FUTURE 1 else t
  let t := if has .late then (t.count b Rg.AL_CNT.LATE 1).atEvent i Rg.AT_EVT.LATE else t
  let t := if has .dup then t.count b Rg.AL_CNT.DUP 1 else t
  found.foldl (fun u r => match r.2 with
    | .put k => (match u.conc r.1.1.n with
      | some c => u.copyTo c r.1.2 k blocks
      | none => u)
    | _ => u) t

/-- Steps 7 and 8 of R300. -/
def State.frameAt (s : State) (x : Stream) (ts arrival : Nat) (blocks : List Byte) : State :=
  if ts < x.reconf then (s.count (alBase x.st) Rg.AL_CNT.OLD_USE 1).atEvent (x.st / 512) Rg.AT_EVT.OLD_USE
  else s.frameIn x ts arrival blocks

/-- The instant of a frame in ns from SOC and FRACSEC (R302): an offset that a leap has replaced is kept for 2 s after it. -/
def State.frameTime (s : State) (soc frac base : Nat) : Nat :=
  let ns := (2 * frac * 1000000000 + base) / (2 * base)
  let old := (soc + s.time.oldOfs) * 1000000000 + ns
  if s.nowNs < s.time.leapAt + 2000000000 ∧ old < s.time.leapAt then old
  else (soc + s.get bTime Rg.UTC_CTRL.UTC_OFS) * 1000000000 + ns

/-- STREAM_FRAME: a frame item at ALN instance `inst`, steps 6–8 of R300. -/
def execStreamFrame (inst : Nat) (s : State) : Host.Outcome State Fault Refusal :=
  match s.item (atPos inst) 0x52 with
  | none => .next s
  | some (src, q) =>
    let t := s.taken (atPos inst) 0x52
    match t.stream (inst * 512 + pktLane q.lw) with
    | none => .next t
    | some x =>
      let a := t.slotAddr src (atPos inst) (bits 0 12 (q.data.headD 0))
      let r := t.memRead a (bits 12 14 (q.data.headD 0))
      match r.2 with
      | none => .next (r.1.poisonDrop (atPos inst) a)
      | some f =>
        let base := r.1.get (alBase x.st) Rg.AL_PORT.TIME_BASE
        let frac := beVal ((f.drop 11).take 3)
        if base ≤ frac then .next (r.1.count (alBase x.st) Rg.AL_CNT2.FUTURE 1)
        else .next (r.1.frameAt x (r.1.frameTime (beVal ((f.drop 6).take 4)) frac base) (q.data.getD 1 0)
          ((f.drop 14).take (r.1.get (alBase x.st) Rg.AL_STAT.LEN)))

/-! ### Local streams (R303, R304) -/

/-- PMU time quality from TIME_TERR. -/
def pmuQuality (terr : Nat) : Nat :=
  if terr ≤ 100 then 1 else if terr ≤ 1000 then 2 else if terr ≤ 10000 then 3 else if terr ≤ 100000 then 4
  else if terr ≤ 1000000 then 5 else if terr ≤ 10000000 then 6 else 7

/-- Unlocked time of STAT from HOLDOVER's elapsed time in ms. -/
def State.unlockedTime (s : State) : Nat :=
  let e := s.get bTime Rg.TIME_HO_T.ELAPSED
  if s.mode ≠ .holdover ∨ e < 10000 then 0 else if e < 100000 then 1 else if e < 1000000 then 2 else 3

/-- The STAT word of a local block from the word 0 of its estimates (R304). -/
def State.localStat (s : State) (ws : List Nat) : Nat :=
  let has (i : Nat) : Bool := ws.any (fun w => bitOf i w)
  let err := if has 10 || has 11 then 3 else if has 9 || has 15 then 1 else 0
  err * 2 ^ 14 + b2n (has 12) * 2 ^ 13 + pmuQuality s.terr * 2 ^ 6 + s.unlockedTime * 2 ^ 4

/-- A binary32 word most significant byte first. -/
def beF32 (v : Nat) : List Byte := beBytes 4 (v % 2 ^ 32)

/-- The block of a complete local frame: STAT, the phasors in lane order, FREQ and DFREQ of the named lane. -/
def State.localBlock (s : State) (st : Nat) (f : LocalFrame) : List Byte :=
  let est (c : Nat) : List Nat := lookupD [] c f.ests
  let ph := ((s.localChans st).map (fun c => beF32 ((est c).getD 2 0) ++ beF32 ((est c).getD 2 0 / 2 ^ 32))).flatten
  let w3 := (est (s.localFreq st)).getD 3 0
  beBytes 2 (s.localStat (f.ests.map (fun e => e.2.headD 0))) ++ ph ++ beF32 w3 ++ beF32 (w3 / 2 ^ 32)

/-- An estimate of channel `c` added to a local stream's frame for its instant; the last one completes the frame. -/
def State.localEst (s : State) (x : Stream) (c : Nat) (ws : List Nat) : State :=
  let tk := ws.getD 1 0
  let f := match x.loc.find? (fun g => g.tk == tk) with
    | some g => { g with ests := assocSet c ws g.ests }
    | none => ⟨tk, [(c, ws)]⟩
  let rest := x.loc.filter (fun g => g.tk != tk)
  if (s.localChans x.st).all (fun k => f.ests.any (fun e => e.1 == k)) then
    let x := { x with loc := rest.filter (fun g => decide (tk < g.tk)) }
    (s.setStream x).frameAt x tk s.nowNs (s.localBlock x.st f)
  else s.setStream { x with loc := rest ++ [f] }

/-- LOCAL_ESTIMATE_ITEM: an estimate reaches the local streams of ALN instance `inst` that select its channel. -/
def execLocalEstimateItem (inst : Nat) (s : State) : Host.Outcome State Fault Refusal :=
  match s.item (atPos inst) 0x50 with
  | none => .next s
  | some (_, q) =>
    let c := bits 0 6 (q.data.headD 0)
    .next (s.align.streams.foldl (fun t y =>
      if y.st / 512 = inst ∧ t.isLocal y.st ∧ (t.localChans y.st).contains c then
        (match t.stream y.st with
         | some x => t.localEst x c q.data
         | none => t)
      else t) (s.taken (atPos inst) 0x50))

/-! ### Concentrations (R306–R312) -/

/-- The streams whose AL_MEMB bit `n` is set, in ascending order. -/
def State.memberStreams (s : State) (n : Nat) : List Nat :=
  ((List.range 8).map (fun i => ((List.range (s.lanesAt (atPos i))).map (fun l => i * 512 + l)).filter
    (fun st => bitOf n (s.get (alBase st) Rg.AL_MEMB.MEMB)))).flatten

/-- Members with the offsets of their blocks. -/
def State.layout (s : State) : Nat → List Nat → List Member
  | _, [] => []
  | o, st :: t => let n := s.streamLen st
                  ⟨st, o, n⟩ :: s.layout (o + n) t

/-- The ALN instances that hold a member. -/
def memberTiles (l : List Member) : List Nat := (List.range 8).filter (fun i => l.any (fun m => m.st / 512 == i))

/-- The payload of a frame. -/
def payloadOf (l : List Member) : Nat := (l.map (fun m => m.len)).sum

/-- The first check a concentration's enable fails, as AC_STAT.REFUSE (R311). -/
def State.concRefusal (s : State) (i n : Nat) (l : List Member) : Nat :=
  let b := acBase i n
  let g := s.get b
  let tiles := memberTiles l
  let rate := g Rg.AC_CFG.RATE
  let addr := g Rg.AC_BUF.ADDR
  if tiles.any (fun k => (k != i && !s.linked (atPos k) (atPos i)) || (s.linkTo (atPos k) 83).isNone) then 1
  else if rate < 10 ∨ 240 < rate ∨ g Rg.AC_CFG.WAIT_CAP < 1 ∨ 1000 < g Rg.AC_CFG.WAIT_CAP ∨ g Rg.AC_CFG.TOL < 1 ∨
      1000 < g Rg.AC_CFG.TOL ∨ addr % 64 ≠ 0 ∨ addr < ddrBase ∨ ddrBase + s.ddrSize ≤ addr ∨ l.isEmpty then 2
  else if l.any (fun m => s.get (alBase m.st) Rg.AL_CFG.RATE % rate != 0) then 3
  else if g Rg.AC_BUF.SLOT64 * 64 < payloadOf l ∨ 65519 < payloadOf l then 4
  else if g Rg.AC_BUF.NSLOT < ceilDiv (rate * (101 + g Rg.AC_CFG.WAIT_CAP)) 1000 + 2 then 5
  else if (s.conc n).isSome then 6
  else 0

/-- The settings of a concentration copied from its home to another tile. -/
def State.copyConc (s : State) (home n : Nat) (l : List Member) (i : Nat) : State :=
  let b := acBase home n
  let fs := [Rg.AC_CFG.RATE, Rg.AC_CFG.WAIT_CAP, Rg.AC_CFG.TOL, Rg.AC_CFG.IDCODE, Rg.AC_CFG.ROUTE, Rg.AC_CFG.FLOW_EN,
    Rg.AC_BUF.ADDR, Rg.AC_BUF.SLOT64, Rg.AC_BUF.NSLOT, Rg.AC_FLOW.FLOW, Rg.AC_FLOW.TIME_BASE]
  let t := s.sets (acBase i n) (fs.map (fun f => (f, s.get b f)))
  t.sets (acBase i n) [(Rg.AC_CFG.EN, 1), (Rg.AC_STAT.RUN, 1), (Rg.AC_STAT.HOME, b2n (i == home)), (Rg.AC_STAT.MEMBERS, l.length),
    (Rg.AC_STAT.PAYLOAD, payloadOf l)]

/-- The first instant whose bucket opens no earlier than now. -/
def State.firstBucket (s : State) (rate : Nat) : Nat := s.gridAfter rate (s.nowNs + 100000000 - 1)

/-- EN set on concentration `n` in ALN instance `i`. -/
def State.concOn (s : State) (i n : Nat) : State :=
  let b := acBase i n
  if s.flag b Rg.AC_CFG.EN then s
  else
    let l := s.layout 0 (s.memberStreams n)
    let r := s.concRefusal i n l
    if r ≠ 0 then (s.set b Rg.AC_STAT.REFUSE r).atEvent i Rg.AT_EVT.REFUSED
    else
      let t := ((memberTiles l).filter (· != i) ++ [i]).foldl (fun u k => u.copyConc i n l k) s
      let t := t.set b Rg.AC_STAT.REFUSE 0
      (t.setAln { t.align with concs := t.align.concs ++ [⟨n, i, l, t.firstBucket (t.get b Rg.AC_CFG.RATE), [], [], 0⟩] }).showFree n

/-- A running concentration stopped: its open buckets are discarded. -/
def State.concStop (s : State) (c : Conc) : State :=
  let t := ((memberTiles c.members).filter (· != c.home) ++ [c.home]).foldl (fun u k =>
    u.sets (acBase k c.n) [(Rg.AC_CFG.EN, 0), (Rg.AC_STAT.RUN, 0), (Rg.AC_STAT.HOME, 0), (Rg.AC_STAT.FREE, 0)]) s
  t.setAln { t.align with concs := t.align.concs.filter (fun d => d.n != c.n) }

/-- EN cleared on concentration `n` in ALN instance `i`: other tiles than the home ignore it (R312). -/
def State.concOff (s : State) (i n : Nat) : State :=
  match s.conc n with
  | none => s
  | some c => if c.home = i then s.concStop c else s

/-- A write of a concentration's AC_CFG. -/
def State.concWrite (s : State) (m : Master) (i n : Nat) (f : State → State) : State :=
  s.actWrite m (mayWriteService s m) (domOf (islandOf (atPos i))) (acBase i n + 0x400)
    (fun t => if t.instanced (atPos i) ∧ n < 16 then f t else t)

/-- CONC_ENABLE: AC_CFG written with EN 1. -/
def execConcEnable (m : Master) (inst n : Nat) (s : State) : Host.Outcome State Fault Refusal :=
  .next (s.concWrite m inst n (fun t => t.concOn inst n))

/-- CONC_DISABLE: AC_CFG written with EN 0. -/
def execConcDisable (m : Master) (inst n : Nat) (s : State) : Host.Outcome State Fault Refusal :=
  .next (s.concWrite m inst n (fun t => t.concOff inst n))

/-- BUCKET_OPEN: the instant of the next bucket is 100 ms away (R306, R310). -/
def execBucketOpen (n : Nat) (s : State) : Host.Outcome State Fault Refusal :=
  match s.conc n with
  | none => .next s
  | some c =>
    if s.nowNs + 100000000 < c.nxt then .next s
    else
      let b := acBase c.home n
      let d := { c with nxt := s.gridAfter (s.get b Rg.AC_CFG.RATE) c.nxt }
      match (List.range (s.slotCount c)).find? (fun k => !c.slots.any (fun p => p.1 == k)) with
      | none => .next (((s.setConc d).count b Rg.AC_CNT.NO_SLOT 1).atEvent c.home Rg.AT_EVT.NO_SLOT)
      | some k =>
        .next ((s.setConc { d with buckets := c.buckets ++ [⟨c.nxt, k, [], [], [], none⟩], slots := (k, 0) :: c.slots }).showFree n)

/-- The blocks of absent members of a list written into a bucket's slot (R307). -/
def State.fillAbsent (s : State) (c : Conc) (b : Bucket) (l : List Member) : State :=
  l.foldl (fun t m => if b.present.contains m.st then t
    else (t.memWrite (t.slotOf c b.slot + m.ofs) ((t.blocks m.st).map absentBlock).flatten).1) s

/-- The members an ALN instance holds. -/
def Conc.membersAt (c : Conc) (i : Nat) : List Member := c.members.filter (fun m => m.st / 512 == i)

/-- The absent members of a list. -/
def absentOf (b : Bucket) (l : List Member) : List Member := l.filter (fun m => !b.present.contains m.st)

/-- Whether the part of a bucket that instance `i` holds is due to close (R307). -/
def State.partDue (s : State) (c : Conc) (i : Nat) (b : Bucket) : Bool :=
  let a := absentOf b (c.membersAt i)
  let w := (a.map (fun m => s.get (alBase m.st) Rg.AL_Q.W * 1000)).foldl max 0
  let cap := s.get (acBase c.home c.n) Rg.AC_CFG.WAIT_CAP * 1000000
  !b.closed.contains i && b.done.isNone && !(c.membersAt i).isEmpty &&
  (a.isEmpty || decide (b.tk + w ≤ s.nowNs) || decide (b.tk + cap ≤ s.nowNs))

/-- A part the home has; the last one closes the bucket (R308). -/
def State.partHome (s : State) (n i tk at_ : Nat) : State :=
  match s.conc n with
  | none => s
  | some c => match c.buckets.find? (fun b => b.tk == tk) with
    | none => s
    | some b =>
      if b.done.isSome ∨ b.parts.contains i then s
      else
        let parts := i :: b.parts
        let all := (memberTiles c.members).all (fun k => parts.contains k)
        s.setConc (c.put { b with parts := parts, done := if all then some at_ else none })

/-- A part closed: its absent members are filled and the home is told. -/
def State.closePart (s : State) (c : Conc) (i : Nat) (b : Bucket) : State :=
  let a := absentOf b (c.membersAt i)
  let cap := s.get (acBase c.home c.n) Rg.AC_CFG.WAIT_CAP * 1000000
  let t := (s.fillAbsent c b (c.membersAt i)).setConc (c.put { b with closed := i :: b.closed })
  let t := if !a.isEmpty && decide (b.tk + cap ≤ s.nowNs) then t.atEvent i Rg.AT_EVT.CAP_CLOSE else t
  if c.home = i then t.partHome c.n i b.tk s.nowNs
  else t.emit (atPos i) (atPos c.home) 0x53 0 0 0 [c.n + i * 2 ^ 8 + a.length * 2 ^ 16, b.tk]

/-- PART_CLOSE: the oldest part of ALN instance `inst` of concentration `n` that is due closes. -/
def execPartClose (inst n : Nat) (s : State) : Host.Outcome State Fault Refusal :=
  match s.conc n with
  | none => .next s
  | some c => match c.buckets.find? (s.partDue c inst) with
    | none => .next s
    | some b => .next (s.closePart c inst b)

/-- PART_ITEM: a part item reaches the home. -/
def execPartItem (inst : Nat) (s : State) : Host.Outcome State Fault Refusal :=
  match s.item (atPos inst) 0x53 with
  | none => .next s
  | some (_, q) => .next ((s.taken (atPos inst) 0x53).partHome (bits 0 4 (q.data.headD 0)) (bits 8 3 (q.data.headD 0)) (q.data.getD 1 0) s.nowNs)

/-- A bucket closed with parts missing: the home fills the members of those parts (R308). -/
def State.closeMissing (s : State) (c : Conc) (b : Bucket) (at_ : Nat) : State :=
  let gone := c.members.filter (fun m => !b.parts.contains (m.st / 512))
  let b := { b with present := b.present.filter (fun st => !gone.any (fun m => m.st == st)), done := some at_ }
  (s.fillAbsent c b gone).setConc (c.put b)

/-- BUCKET_CAP_TIMEOUT: t_k + WAIT_CAP + 1 ms with parts still missing. -/
def execBucketCapTimeout (n : Nat) (s : State) : Host.Outcome State Fault Refusal :=
  match s.conc n with
  | none => .next s
  | some c =>
    let cap := (s.get (acBase c.home n) Rg.AC_CFG.WAIT_CAP + 1) * 1000000
    match c.buckets.find? (fun b => b.done.isNone && decide (b.tk + cap ≤ s.nowNs)) with
    | none => .next s
    | some b => .next ((s.closeMissing c b s.nowNs).atEvent c.home Rg.AT_EVT.PART_MISS)

/-- TQ (R309). -/
def State.timeQuality (s : State) : Nat :=
  if s.locked ∧ s.mode ≠ .holdover then 0
  else if s.get bTime Rg.TIME_CTRL.STATE = 0 then 0xF
  else ((List.range 11).find? (fun c => decide (s.terr ≤ 10 ^ c))).elim 0xF (· + 1)

/-- The positions a concentration's items go to, one for each link its ROUTE selects. -/
def State.concDests (s : State) (c : Conc) : List Nat :=
  let ls := s.linksFrom (atPos c.home)
  (List.range 8).filterMap (fun j => if bitOf j (s.get (acBase c.home c.n) Rg.AC_CFG.ROUTE) then (ls[j]?).map (fun l => l.rc.dst) else none)

/-- The words of a bucket's item (R308). -/
def State.bucketWords (s : State) (c : Conc) (b : Bucket) (at_ : Nat) : List Nat :=
  let cap := s.get (acBase c.home c.n) Rg.AC_CFG.WAIT_CAP * 1000000
  let abs := (absentOf b c.members).length
  [b.slot + c.n * 2 ^ 8 + payloadOf c.members * 2 ^ 12 + b2n (abs != 0) * 2 ^ 29 + b2n (decide (b.tk + cap ≤ at_)) * 2 ^ 30 +
     b2n s.tflag * 2 ^ 31 + abs * 2 ^ 32 + s.timeQuality * 2 ^ 45,
   b.tk, (at_ - b.tk) / 1000 % 2 ^ 32 + c.seq * 2 ^ 32]

/-- A closed bucket emitted. -/
def State.emitBucket (s : State) (c : Conc) (b : Bucket) (at_ : Nat) : State :=
  let r := acBase c.home c.n
  let ws := s.bucketWords c b at_
  let ds := s.concDests c
  let fl := s.flag r Rg.AC_CFG.FLOW_EN
  let refs := ds.length + b2n fl
  let slots := c.slots.filter (fun p => p.1 != b.slot)
  let t := s.setConc { c with buckets := c.buckets.filter (fun x => x.tk != b.tk), seq := (c.seq + 1) % 2 ^ 16,
                              slots := if refs = 0 then slots else (b.slot, refs) :: slots }
  let t := (t.count r Rg.AC_CNT.EMITTED 1).count r Rg.AC_CNT.PARTIAL (b2n (!(absentOf b c.members).isEmpty))
  let t := (t.set r Rg.AC_LAST.AT b.tk).showFree c.n
  let t := ds.foldl (fun u d => u.emit (atPos c.home) d 0x54 0 0 0 ws) t
  if fl then t.hwSubmit (s.get r Rg.AC_FLOW.FLOW) 0 (ws.headD 0 % 2 ^ 32) (some (0x54, ws)) else t

/-- BUCKET_EMIT: the oldest bucket is closed. -/
def execBucketEmit (n : Nat) (s : State) : Host.Outcome State Fault Refusal :=
  match s.conc n with
  | none => .next s
  | some c => match c.buckets with
    | [] => .next s
    | b :: _ => match b.done with
      | none => .next s
      | some at_ => .next (s.emitBucket c b at_)

/-- CONC_SLOT_RELEASE: a destination of an emitted bucket releases its slot (R308). -/
def execConcSlotRelease (n slot : Nat) (s : State) : Host.Outcome State Fault Refusal := .next (s.slotRelease n slot)

/-! ### Reactions -/

/-- Every open bucket of a concentration closed and emitted in order, at an instant of the old scale (R314). -/
def flushBuckets (n at_ : Nat) : Nat → State → State
  | 0, s => s
  | f + 1, s =>
    match s.conc n with
    | none => s
    | some c => match c.buckets with
      | [] => s
      | b :: _ =>
        let gone := { b with parts := memberTiles c.members, done := some (b.done.getD at_) }
        let t := (s.fillAbsent c b c.members).setConc (c.put gone)
        match t.conc n with
        | none => t
        | some d => flushBuckets n at_ f (t.emitBucket d gone (b.done.getD at_))

/-- A time step of `off` ns. -/
def State.alignStepped (s : State) (off : Int) : State :=
  let old := ((s.nowNs : Int) - off).toNat
  let t := s.align.concs.foldl (fun u c =>
    let v := flushBuckets c.n old c.buckets.length u
    match v.conc c.n with
    | none => v
    | some d => v.setConc { d with nxt := v.firstBucket (v.get (acBase d.home d.n) Rg.AC_CFG.RATE) }) s
  t.setAln { t.align with noQ := t.nowNs + 2000000000, streams := t.align.streams.map (fun x => { x with loc := [] }) }

/-- A wrap to a label other than the old era + 1: what streams and concentrations hold is named anew (R146). -/
def State.alignRelabel (s : State) (off : Int) : State :=
  let mv (n : Nat) : Nat := ((n : Int) + off).toNat
  s.setAln { s.align with
    noQ := mv s.align.noQ,
    streams := s.align.streams.map (fun x => { x with
      reconf := mv x.reconf, quar := mv x.quar, loc := x.loc.map (fun f => { f with tk := mv f.tk }) }),
    concs := s.align.concs.map (fun c => { c with
      nxt := mv c.nxt, buckets := c.buckets.map (fun b => { b with tk := mv b.tk, done := b.done.map mv }) }) }

/-- The commit of a change to DORMANT or MAINTENANCE (R315). -/
def State.alignOff (s : State) : State :=
  let t := s.align.concs.foldl (fun u c => u.concStop c) s
  (t.align.streams.foldl (fun u x => u.streamOff x.st) t).phOff

end Sys2Proof.Machine
end

