-- ==== Sys2Proof/Machine/Can.lean ====
section
/-! DEFINITION. CAN FD controllers (R452–R467). -/

namespace Sys2Proof.Machine

/-- The base of controller `n`. -/
def cnBase (n : Nat) : Nat := bCan + n * 0x4000
/-- A controller beside its registers. -/
def State.can (s : State) (n : Nat) : Can := s.cans.getD n .off
/-- A controller replaced. -/
def State.setCan (s : State) (n : Nat) (c : Can) : State := { s with cans := listSet s.cans n c }
/-- An event of a controller. -/
def State.cnEvent (s : State) (n : Nat) (f : Fld) : State := s.event 26 (cnBase n) f
/-- Whether the image gives the device controller `n` (R452). -/
def State.canFitted (s : State) (n : Nat) : Bool := decide (n < 4) && s.on .io && bitOf (24 + n) s.img.io0
/-- Whether a controller is enabled. -/
def State.canOn (s : State) (n : Nat) : Bool := s.canFitted n && s.flag (cnBase n) Rg.CN_CTRL.EN
/-- CN_STAT.STATE. -/
def State.cnState (s : State) (n : Nat) : Nat := s.get (cnBase n) Rg.CN_STAT.STATE
/-- Whether a controller takes part in the bus: ERROR_ACTIVE or ERROR_PASSIVE. -/
def State.canActive (s : State) (n : Nat) : Bool := s.canOn n && (s.cnState n == 2 || s.cnState n == 3)
/-- Whether a controller may send: active, not LISTEN_ONLY, and TEC not past 255 (ISO 11898-1). -/
def State.canSends (s : State) (n : Nat) : Bool :=
  s.canActive n && s.get (cnBase n) Rg.CN_CFG.OPMODE != 1 && decide (s.get (cnBase n) Rg.CN_STAT.TEC < 256)
/-- Whether the controller runs a schedule (R462). -/
def State.ttOn (s : State) (n : Nat) : Bool := s.flag (cnBase n) Rg.CN_CFG.TT_EN
/-- Whether it is the time master. -/
def State.ttMaster (s : State) (n : Nat) : Bool := s.ttOn n && s.flag (cnBase n) Rg.CN_CFG.TT_MASTER

/-- An enabled object. -/
def Can.obj (c : Can) (o : Nat) : Option CanObj := (c.objs.find? (fun p => p.1 == o)).map (fun p => p.2)
/-- An object set. -/
def Can.put (c : Can) (o : Nat) (x : CanObj) : Can := { c with objs := assocSet o x c.objs }
/-- An object of a controller set. -/
def State.putObj (s : State) (n o : Nat) (x : CanObj) : State := s.setCan n ((s.can n).put o x)

/-- The bytes of a length code. -/
def dlcLen (dlc : Nat) (fdf : Bool) : Nat :=
  if fdf then [0, 1, 2, 3, 4, 5, 6, 7, 8, 12, 16, 20, 24, 32, 48, 64].getD dlc 0 else min dlc 8

/-- Pending requests shown in CN_TXREQ.PENDING. -/
def State.showPend (s : State) (n : Nat) : State :=
  s.set (cnBase n) Rg.CN_TXREQ.PENDING ((s.can n).objs.filter (fun p => p.2.pend)).length

/-- CN_STAT.LOCKED and SHADOW shown. -/
def State.showLock (s : State) (n : Nat) : State :=
  match (s.can n).lock with
  | none => s.sets (cnBase n) [(Rg.CN_STAT.LOCKED, 0), (Rg.CN_STAT.SHADOW, 0)]
  | some (o, _) => s.sets (cnBase n) [(Rg.CN_STAT.LOCKED, 1),
      (Rg.CN_STAT.SHADOW, b2n ((((s.can n).obj o).map (fun x => x.shadow.isSome)).getD false))]

/-! ### Reception (R455, R457–R459) -/

/-- A frame moved into an object: NEW set, its data bytes written; a shadow's mark or a frame not yet read sets LOST. -/
def CanObj.take (x : CanObj) (f : CanFrame) (lost : Bool) : CanObj :=
  { x with isNew := true, lost := x.lost || lost, frame := some f, data := f.data ++ x.data.drop f.data.length,
           stored := (x.stored + 1) % 2 ^ 32 }

/-- A frame lost by an overwrite: counted and flagged. -/
def State.lostFrame (s : State) (n : Nat) : State := (s.count (cnBase n) Rg.CN_CNT.LOST 1).cnEvent n Rg.CN_EVT.LOST

/-- A frame for RX object `o`: into its shadow while it is locked, otherwise into the object (R457, R458). -/
def State.storeFrame (s : State) (n o : Nat) (x : CanObj) (f : CanFrame) : State :=
  if ((s.can n).lock.map (fun l => l.1)) = some o then
    let t := s.putObj n o { x with shadow := some (f, x.shadow.isSome) }
    (if x.shadow.isSome then t.lostFrame n else t).showLock n
  else
    let t := s.putObj n o (x.take f x.isNew)
    let t := if x.isNew then t.lostFrame n else t
    t.eventIf x.irq 26 (cnBase n) Rg.CN_EVT.RX

/-- The present lock released: NEW and LOST are cleared, then the shadow moves in (R458). -/
def State.release_ (s : State) (n : Nat) : State :=
  let c := s.can n
  match c.lock with
  | none => s
  | some (o, _) =>
    let t := s.setCan n { c with lock := none }
    match c.obj o with
    | none => t.showLock n
    | some x =>
      let y := { x with isNew := false, lost := false, shadow := none }
      match x.shadow with
      | none => (t.putObj n o y).showLock n
      | some (f, l) => ((t.putObj n o (y.take f l)).eventIf x.irq 26 (cnBase n) Rg.CN_EVT.RX).showLock n

/-- A reference message received by a follower starts a cycle (R463). -/
def State.refRx (s : State) (n o : Nat) (f : CanFrame) : State :=
  if s.ttOn n ∧ !s.ttMaster n ∧ o = s.get (cnBase n) Rg.CN_TT_CFG.REF_OBJ then
    let t := s.sets (cnBase n) [(Rg.CN_TT_STAT.CYCLE, leAt f.data 0 1 % 64), (Rg.CN_TT_STAT.SYNC, 1)]
    t.setCan n { t.can n with cycAt := some f.sof, begun := [] }
  else s

/-- REC after a frame received without error (ISO 11898-1): down by 1, or from above 127 to a value between 119 and 127. -/
def State.rxGood (s : State) (n : Nat) : State :=
  let r := s.get (cnBase n) Rg.CN_STAT.REC
  if 127 < r then (s.set (cnBase n) Rg.CN_STAT.REC (119 + (Config.trng s.free).toNat % 9)).fresh
  else s.set (cnBase n) Rg.CN_STAT.REC (r - 1)

/-- ERROR_ACTIVE or ERROR_PASSIVE as the counts give it. -/
def State.confine (s : State) (n : Nat) : State :=
  let b := cnBase n
  let passive := decide (127 < s.get b Rg.CN_STAT.TEC ∨ 127 < s.get b Rg.CN_STAT.REC)
  if s.cnState n = 2 ∧ passive then (s.set b Rg.CN_STAT.STATE 3).cnEvent n Rg.CN_EVT.ERR_PASSIVE
  else if s.cnState n = 3 ∧ !passive then s.set b Rg.CN_STAT.STATE 2
  else s

/-! ### What may be sent (R460, R462–R464) -/

/-- A nominal or data bit in ns from BRP, TSEG1 and TSEG2, each less 1 (R454). -/
def bitNs (brp t1 t2 : Nat) : Nat := (brp + 1) * (3 + t1 + t2) * 25
/-- The nominal bit of a controller. -/
def State.nomBit (s : State) (n : Nat) : Nat :=
  let b := cnBase n
  bitNs (s.get b Rg.CN_NBT.BRP) (s.get b Rg.CN_NBT.TSEG1) (s.get b Rg.CN_NBT.TSEG2)
/-- The data bit of a controller. -/
def State.datBit (s : State) (n : Nat) : Nat :=
  let b := cnBase n
  bitNs (s.get b Rg.CN_DBT.BRP) (s.get b Rg.CN_DBT.TSEG1) (s.get b Rg.CN_DBT.TSEG2)

/-- The worst-case length in ns of an object's frame with full stuffing at the controller's rates (ISO 11898-1). -/
def State.worstNs (s : State) (n : Nat) (x : CanObj) : Nat :=
  let len := 8 * dlcLen x.dlc x.fdf
  if x.fdf then
    let a := if x.ide then 36 else 17
    let crc := if len ≤ 128 then 4 + 17 + 6 else 4 + 21 + 7
    let dat := 5 + len + (5 + len) / 4 + 1 + crc + 1
    (a + (a - 1) / 4 + 9) * s.nomBit n + dat * (if x.brs then s.datBit n else s.nomBit n)
  else
    let a := (if x.ide then 54 else 34) + len
    (a + (a - 1) / 4 + 10) * s.nomBit n

/-- Window `w` as EN, KIND, OBJ, BASE, REP, START and LEN. -/
def State.ttWin (s : State) (n w : Nat) : Bool × Nat × Nat × Nat × Nat × Nat × Nat :=
  let b := cnBase n + w * 8
  (s.flag b Rg.CN_TT_WIN.EN, s.get b Rg.CN_TT_WIN.KIND, s.get b Rg.CN_TT_WIN.OBJ, s.get b Rg.CN_TT_WIN.BASE,
   min (s.get b Rg.CN_TT_WIN.REP) 6, s.get b Rg.CN_TT_WIN.START, s.get b Rg.CN_TT_WIN.LEN)

/-- Whether window `w` is active in cycle `c` (R462). -/
def State.winIn (s : State) (n w c : Nat) : Bool :=
  let x := s.ttWin n w
  x.1 && c % 2 ^ x.2.2.2.2.1 == x.2.2.2.1 % 2 ^ x.2.2.2.2.1

/-- Whether a frame may start now: always without a schedule; with one, only in an arbitrating window that its worst case leaves in
time (R464). -/
def State.mayStart (s : State) (n : Nat) (x : CanObj) : Bool :=
  if !s.ttOn n then true
  else match (s.can n).cycAt with
    | none => false
    | some a =>
      (List.range 32).any (fun w =>
        let v := s.ttWin n w
        s.winIn n w (s.get (cnBase n) Rg.CN_TT_STAT.CYCLE) && v.2.1 == 1 && decide (a + v.2.2.2.2.2.1 * 1000 ≤ s.nowNs) &&
        decide (s.nowNs + s.worstNs n x ≤ a + (v.2.2.2.2.2.1 + v.2.2.2.2.2.2) * 1000))

/-- The order of arbitration: the base identifier, a base frame before an extended one, then the rest of the identifier. -/
def arbKey (x : CanObj) : Nat := if x.ide then x.id / 2 ^ 18 * 2 ^ 19 + 2 ^ 18 + x.id % 2 ^ 18 else x.id % 2 ^ 11 * 2 ^ 19

/-- The pending object that would win arbitration (R460). -/
def bestObj : List (Nat × CanObj) → Option (Nat × CanObj)
  | [] => none
  | p :: t => match bestObj t with
    | none => some p
    | some q => if arbKey p.2 < arbKey q.2 then some p else some q

/-- The payload of an object's frame. -/
def CanObj.payload (x : CanObj) : List Byte := padTo (dlcLen x.dlc x.fdf) x.data

/-- With the bus idle and nothing offered, the pending frame that wins is offered; its data are copied. -/
def State.busOffer (s : State) (n : Nat) : State :=
  let c := s.can n
  if c.tx.isSome ∨ !s.canSends n then s
  else match bestObj (c.objs.filter (fun p => p.2.pend && s.mayStart n p.2)) with
    | none => s
    | some (o, x) => s.setCan n { c with tx := some (o, .request, x.payload), txAt := s.nowNs }

/-- A scheduled frame that was not sent: counted and flagged (R463, R464). -/
def State.ttFail (s : State) (n : Nat) : State := (s.count (cnBase n) Rg.CN_CNT.TT_FAIL 1).cnEvent n Rg.CN_EVT.TT_FAIL

/-- A request ended without completion. -/
def State.endRequest (s : State) (n o : Nat) : State :=
  match (s.can n).obj o with
  | some x => (s.putObj n o { x with pend := false }).showPend n
  | none => s

/-- The frame offered lost arbitration or met an error: a scheduled one has failed, a request ends with DAR and is otherwise offered
again (R460, R463, R464). -/
def State.txLost (s : State) (n : Nat) : State :=
  let c := s.can n
  match c.tx with
  | none => s
  | some (o, k, _) =>
    let t := s.setCan n { c with tx := none }
    match k with
    | .request => if t.flag (cnBase n) Rg.CN_CFG.DAR then t.endRequest n o else t
    | _ => t.ttFail n

/-! ### Rate detection (R461) -/

/-- Detection ended with a result. -/
def State.adrEnd (s : State) (n r : Nat) : State :=
  let t := s.sets (cnBase n) [(Rg.CN_ADR.RESULT, r), (Rg.CN_STAT.STATE, 0)]
  (t.setCan n { t.can n with adr := none }).cnEvent n Rg.CN_EVT.ADR_DONE

/-- An entry copied into the timing registers and named. -/
def State.adrFound (s : State) (n i r : Nat) : State :=
  let b := cnBase n
  let v := s.get (b + i * 8) Rg.CN_ADR_TAB.NBT
  let d := s.get (b + i * 8) Rg.CN_ADR_TAB.DBT
  let t := s.sets b [(Rg.CN_NBT.BRP, bits 0 8 v), (Rg.CN_NBT.TSEG1, bits 8 8 v), (Rg.CN_NBT.TSEG2, bits 16 7 v), (Rg.CN_NBT.SJW, bits 23 7 v),
    (Rg.CN_DBT.BRP, bits 0 5 d), (Rg.CN_DBT.TSEG1, bits 5 5 d), (Rg.CN_DBT.TSEG2, bits 10 4 d), (Rg.CN_DBT.SJW, bits 14 4 d),
    (Rg.CN_ADR.INDEX, i)]
  t.adrEnd n r

/-- A frame received without error during detection; a classical entry receives no FD frame. -/
def State.adrFrame (s : State) (n : Nat) (a : CanAdr) (fdf brs : Bool) : State :=
  if fdf ∧ !s.flag (cnBase n + a.idx * 8) Rg.CN_ADR_TAB.FD then s
  else if !s.flag (cnBase n + a.idx * 8) Rg.CN_ADR_TAB.FD ∨ brs then s.adrFound n a.idx 2
  else s.setCan n { s.can n with adr := some { a with good := true } }

/-- The next entry, the next round, or FAIL. -/
def State.adrNext (s : State) (n : Nat) (a : CanAdr) : State :=
  let b := cnBase n
  if a.idx < s.get b Rg.CN_ADR.COUNT then s.setCan n { s.can n with adr := some ⟨a.idx + 1, a.round, s.nowNs, 0, false⟩ }
  else if a.round + 1 < max (s.get b Rg.CN_ADR.ROUNDS) 1 then s.setCan n { s.can n with adr := some ⟨0, a.round + 1, s.nowNs, 0, false⟩ }
  else s.adrEnd n 4

/-- ADR_DWELL_EXPIRY: the dwell of the present entry has ended, or it has met 8 protocol errors. -/
def execAdrDwellExpiry (n : Nat) (s : State) : Host.Outcome State Fault Refusal :=
  match (s.can n).adr with
  | none => .next s
  | some a =>
    let over_ := decide (a.since + max (s.get (cnBase n) Rg.CN_ADR.DWELL_MS) 1 * 1000000 ≤ s.nowNs)
    if !over_ ∧ a.errs < 8 then .next s
    else if over_ ∧ a.good then .next (s.adrFound n a.idx 3)
    else .next (s.adrNext n a)

/-- A write of an action register of controller `n`, which does nothing where the image leaves it off (R2, R91). -/
def State.canWrite (s : State) (m : Master) (n off : Nat) (f : State → State) : State :=
  s.actWrite m (mayWriteService s m) .io (cnBase n + off) (fun t => if t.canFitted n then f t else t)

/-- CN_CTRL.ADR_GO. -/
def State.adrGo (s : State) (n : Nat) : State :=
  if s.flag (cnBase n) Rg.CN_CTRL.EN then s.cnEvent n Rg.CN_EVT.REFUSED
  else if (s.can n).adr.isSome then s
  else
    let t := s.sets (cnBase n) [(Rg.CN_ADR.RESULT, 1), (Rg.CN_ADR.INDEX, 0), (Rg.CN_STAT.STATE, 6)]
    t.setCan n { t.can n with adr := some ⟨0, 0, t.nowNs, 0, false⟩ }

/-- ADR_GO. -/
def execAdrGo (m : Master) (n : Nat) (s : State) : Host.Outcome State Fault Refusal :=
  .next (s.canWrite m n 0x10 (fun t => t.adrGo n))

/-- ADR_ABORT: detection under way ends with ABORTED. -/
def execAdrAbort (m : Master) (n : Nat) (s : State) : Host.Outcome State Fault Refusal :=
  .next (s.canWrite m n 0x10 (fun t => if (t.can n).adr.isSome then t.adrEnd n 5 else t))

/-! ### Frames on the bus -/

/-- A data frame valid for a receiver (R455, R457, R463). -/
def State.rxFrameCan (s : State) (n : Nat) (f : CanFrame) : State :=
  match (s.can n).objs.find? (fun p => !p.2.tx && p.2.id == f.id && p.2.ide == f.ide) with
  | some (o, x) => (s.storeFrame n o x f).refRx n o f
  | none => s.count (cnBase n) Rg.CN_CNT.NOMATCH 1

/-- CAN_FRAME_RX: a frame becomes valid on the bus; a remote frame is discarded (R453). A frame offered before its SOF
has lost arbitration; one offered later waits for its end. -/
def execCanFrameRx (n id : Nat) (ide fdf brs esi remote : Bool) (dlc : Nat) (data : List Byte) (sof : Nat) (s : State) :
    Host.Outcome State Fault Refusal :=
  match (s.can n).adr with
  | some a => .next (s.adrFrame n a fdf (fdf && brs))
  | none =>
    if !s.canActive n ∨ (fdf ∧ !s.flag (cnBase n) Rg.CN_CFG.FD_EN) ∨ s.get (cnBase n) Rg.CN_CFG.OPMODE = 2 then .next s
    else
      let f : CanFrame := ⟨id, ide, dlc % 16, fdf, brs, esi, padTo (dlcLen (dlc % 16) fdf) data, sof, s.get bTime Rg.TIME_STAT.GEN⟩
      let t := ((if (s.can n).txAt ≤ sof then s.txLost n else s).rxGood n).confine n
      .next ((if remote then t else t.rxFrameCan n f).busOffer n)

/-- NO_TERM from the two delays of a frame sent (R465). -/
def State.termCheck (s : State) (n dom rec_ : Nat) : State :=
  let b := cnBase n
  let c := s.can n
  let beyond := decide (s.get b Rg.CN_BUS.TERM_THR + dom < rec_)
  let c' := { c with far := if beyond then c.far + 1 else 0, near := if beyond then 0 else c.near + 1 }
  let t := s.setCan n c'
  if beyond ∧ 8 ≤ c'.far ∧ !s.flag b Rg.CN_BUS.NO_TERM then (t.set b Rg.CN_BUS.NO_TERM 1).cnEvent n Rg.CN_EVT.NO_TERM
  else if !beyond ∧ 8 ≤ c'.near then t.set b Rg.CN_BUS.NO_TERM 0
  else t

/-- The frame on the bus has been sent (R460): its request completes, W1 and W2 are written, the bus delays are shown. -/
def State.txSent (s : State) (n sof loop dom rec_ : Nat) : State :=
  let b := cnBase n
  let c := s.can n
  match c.tx with
  | none => s
  | some (o, k, d) =>
    let t := s.setCan n { c with tx := none }
    let t := match c.obj o with
      | none => t
      | some x =>
        let f : CanFrame := ⟨x.id, x.ide, x.dlc, x.fdf, x.brs, s.cnState n == 3, d, sof, s.get bTime Rg.TIME_STAT.GEN⟩
        let u := t.putObj n o { x with pend := if k = CanTx.request then false else x.pend, frame := some f }
        (u.showPend n).eventIf x.irq 26 b Rg.CN_EVT.TX_DONE
    let t := t.set b Rg.CN_STAT.TEC (t.get b Rg.CN_STAT.TEC - 1)
    let t := if k = CanTx.reference then t.setCan n { t.can n with cycAt := some sof } else t
    let t := if s.get b Rg.CN_CFG.OPMODE = 2 then t.count b Rg.CN_CNT.NOMATCH 1
      else (t.sets b [(Rg.CN_BUS.LOOP_NS, loop), (Rg.CN_BUS.DOM_NS, dom), (Rg.CN_BUS.REC_NS, rec_)]).termCheck n dom rec_
    (t.confine n).busOffer n

/-- CAN_TX_DONE: the frame on the bus has been sent. `loop`, `dom` and `rec_` are the delays in ns measured on it. -/
def execCanTxDone (n sof loop dom rec_ : Nat) (s : State) : Host.Outcome State Fault Refusal :=
  if s.canSends n then .next (s.txSent n sof loop dom rec_) else .next s

/-- CAN_PROTOCOL_ERROR: an error on the bus (R453, ISO 11898-1): kind 0 raises REC by 1, 1 raises REC by 8, 2 raises TEC by 8,
3 is the protocol exception of an FD frame's recessive res bit, any other raises no count. -/
def State.busError (s : State) (n kind : Nat) : State :=
  let b := cnBase n
  match kind with
  | 0 => ((s.count b Rg.CN_STAT.REC 1).confine n).busOffer n
  | 1 => ((s.count b Rg.CN_STAT.REC 8).confine n).busOffer n
  | 2 => (((s.count b Rg.CN_STAT.TEC 8).confine n).txLost n).busOffer n
  | 3 => (((s.txLost n).count b Rg.CN_CNT.PXE 1).cnEvent n Rg.CN_EVT.PXE).set b Rg.CN_STAT.STATE 1
  | _ => (s.txLost n).busOffer n

/-- CAN_PROTOCOL_ERROR. -/
def execCanProtocolError (n kind : Nat) (s : State) : Host.Outcome State Fault Refusal :=
  match (s.can n).adr with
  | some a => .next (s.setCan n { s.can n with adr := some { a with errs := a.errs + 1 } })
  | none => if s.canActive n then .next (s.busError n kind) else .next s

/-- CAN_BUS_OFF: TEC has passed 255; recovery starts by itself with AUTO_BOR. -/
def execCanBusOff (n : Nat) (s : State) : Host.Outcome State Fault Refusal :=
  if s.canActive n ∧ 255 < s.get (cnBase n) Rg.CN_STAT.TEC then
    let t := s.setCan n { s.can n with tx := none }
    .next ((t.set (cnBase n) Rg.CN_STAT.STATE (if t.flag (cnBase n) Rg.CN_CFG.AUTO_BOR then 5 else 4)).cnEvent n Rg.CN_EVT.BUS_OFF)
  else .next s

/-- BOR_REQ: CN_CTRL.BOR_REQ starts recovery from BUS_OFF. -/
def execBorReq (m : Master) (n : Nat) (s : State) : Host.Outcome State Fault Refusal :=
  .next (s.canWrite m n 0x10 (fun t => if t.canOn n ∧ t.cnState n = 4 then t.set (cnBase n) Rg.CN_STAT.STATE 5 else t))

/-- BUS_OFF_RECOVERED: 128 occurrences of 11 recessive bits; pending requests are offered again. -/
def execBusOffRecovered (n : Nat) (s : State) : Host.Outcome State Fault Refusal :=
  if s.canOn n ∧ s.cnState n = 5 then
    .next ((s.sets (cnBase n) [(Rg.CN_STAT.STATE, 2), (Rg.CN_STAT.TEC, 0), (Rg.CN_STAT.REC, 0)]).busOffer n)
  else .next s

/-- CAN_BUS_INTEGRATED: 11 recessive bits end bus integration. -/
def execCanBusIntegrated (n : Nat) (s : State) : Host.Outcome State Fault Refusal :=
  if s.canOn n ∧ s.cnState n = 1 then .next (((s.set (cnBase n) Rg.CN_STAT.STATE 2).confine n).busOffer n) else .next s

/-- CAN_STUCK_DOMINANT: CANn_RX has been dominant for more than 32 nominal bit times while the controller drives recessive, or
(`dominant` false) recessive for 11 bits again (R465). -/
def execCanStuckDominant (n : Nat) (dominant : Bool) (s : State) : Host.Outcome State Fault Refusal :=
  let b := cnBase n
  if !s.canOn n then .next s
  else if dominant then
    .next (if s.flag b Rg.CN_BUS.STUCK_DOM then s else (s.set b Rg.CN_BUS.STUCK_DOM 1).cnEvent n Rg.CN_EVT.STUCK_DOM)
  else .next (s.set b Rg.CN_BUS.STUCK_DOM 0)

/-! ### Enable (R454, R462) -/

/-- Whether the timing is refused (R454). -/
def State.badTiming (s : State) (n : Nat) : Bool :=
  let b := cnBase n
  decide (s.nomBit n < 1000) || (s.flag b Rg.CN_CFG.FD_EN && decide (s.datBit n < 125)) ||
  decide (s.get b Rg.CN_NBT.TSEG2 < s.get b Rg.CN_NBT.SJW ∨ s.get b Rg.CN_DBT.TSEG2 < s.get b Rg.CN_DBT.SJW ∨
    s.get b Rg.CN_NBT.TSEG1 + 1 < 2)

/-- Whether windows `v` and `w` overlap in some cycle. -/
def State.winsMeet (s : State) (n v w : Nat) : Bool :=
  let a := s.ttWin n v
  let b := s.ttWin n w
  let c := min (s.get (cnBase n) Rg.CN_TT_CFG.CYCLES) 6
  decide (a.2.2.2.2.2.1 < b.2.2.2.2.2.1 + b.2.2.2.2.2.2 ∧ b.2.2.2.2.2.1 < a.2.2.2.2.2.1 + a.2.2.2.2.2.2) &&
  (List.range (2 ^ c)).any (fun k => s.winIn n v k && s.winIn n w k)

/-- Whether the schedule is refused (R462). -/
def State.badTt (s : State) (n : Nat) : Bool :=
  let b := cnBase n
  let cyc := s.get b Rg.CN_TT_CFG.CYC_US
  let ref := (s.can n).obj (s.get b Rg.CN_TT_CFG.REF_OBJ)
  s.ttOn n && (cyc == 0 || 1000000 % cyc != 0 || (match ref with | some x => x.tx != s.ttMaster n | none => true) ||
    (List.range 32).any (fun w => let x := s.ttWin n w
                                  x.1 && decide (cyc < x.2.2.2.2.2.1 + x.2.2.2.2.2.2)) ||
    (List.range 32).any (fun w => (List.range w).any (fun v => s.winsMeet n v w)))

/-- EN set on a controller: refused, or bus integration. -/
def State.canEnable (s : State) (n : Nat) : State :=
  let b := cnBase n
  if s.flag b Rg.CN_CTRL.EN then s
  else
    let r := if s.badTiming n then 2 else if s.badTt n then 3 else 0
    if r ≠ 0 then (s.set b Rg.CN_STAT.REFUSE r).cnEvent n Rg.CN_EVT.REFUSED
    else
      let t := if (s.can n).adr.isSome then s.adrEnd n 5 else s
      let t := t.sets b [(Rg.CN_CTRL.EN, 1), (Rg.CN_STAT.REFUSE, 0), (Rg.CN_STAT.STATE, 1), (Rg.CN_STAT.TEC, 0), (Rg.CN_STAT.REC, 0),
        (Rg.CN_TT_STAT.CYCLE, 0), (Rg.CN_TT_STAT.SYNC, 0)]
      t.setCan n { t.can n with tx := none, cycAt := none, startAt := none, begun := [], far := 0, near := 0 }

/-- CAN_ENABLE: CN_CTRL.EN written 1. -/
def execCanEnable (m : Master) (n : Nat) (s : State) : Host.Outcome State Fault Refusal :=
  .next (s.canWrite m n 0x10 (fun t => t.canEnable n))

/-- EN cleared: the controller is off, its lock released. -/
def State.canDisable (s : State) (n : Nat) : State :=
  if !s.flag (cnBase n) Rg.CN_CTRL.EN then s
  else
    let t := (s.release_ n).sets (cnBase n) [(Rg.CN_CTRL.EN, 0), (Rg.CN_STAT.STATE, 0), (Rg.CN_TT_STAT.SYNC, 0)]
    t.setCan n { t.can n with tx := none, cycAt := none }

/-! ### Objects (R456, R458, R460) -/

/-- The selected object. -/
def State.canSel (s : State) (n : Nat) : Nat := s.get (cnBase n) Rg.CN_OBJ_SEL.OBJ

/-- CN_OBJ_CFG of an object. -/
def CanObj.cfg (x : CanObj) : Nat :=
  x.id % 2 ^ 29 + b2n x.ide * 2 ^ 29 + 2 ^ 30 + b2n x.tx * 2 ^ 31 + x.dlc % 16 * 2 ^ 32 + b2n x.fdf * 2 ^ 36 + b2n x.brs * 2 ^ 37 +
  b2n x.irq * 2 ^ 38

/-- A CN_OBJ_CFG value written to the selected object (R456). -/
def State.objConfig (s : State) (n v : Nat) : State :=
  let b := cnBase n
  let o := s.canSel n
  let c := s.can n
  let x : CanObj := ⟨bits 0 29 v, bitOf 29 v, bitOf 31 v, bitOf 38 v, bits 32 4 v, bitOf 36 v, bitOf 37 v, false, false, false, none,
    List.replicate 64 0, none, 0⟩
  let en := bitOf 30 v
  let bad := (!x.ide && decide (0x7FF < x.id)) || (!x.fdf && decide (8 < x.dlc)) ||
    ((x.fdf || x.brs) && !s.flag b Rg.CN_CFG.FD_EN)
  let res (t : State) (r : Nat) : State := t.set b Rg.CN_OBJ_RES.RESULT r
  if en ∧ c.objs.any (fun p => p.1 != o && p.2.id == x.id && p.2.ide == x.ide) then res s 1
  else if en ∧ (c.obj o).isSome then (res s 2).cnEvent n Rg.CN_EVT.CFG_LOCKED
  else if bad then res s 3
  else if en then res ((s.putObj n o x).showPend n) 0
  else
    let c' := { c with objs := assocDel o c.objs, lock := if (c.lock.map (fun l => l.1)) = some o then none else c.lock }
    res (((s.setCan n c').showPend n).showLock n) 0

/-- OBJ_CONFIG: CN_OBJ_CFG written. -/
def execObjConfig (m : Master) (n v : Nat) (s : State) : Host.Outcome State Fault Refusal :=
  .next (s.canWrite m n 0x108 (fun t => t.objConfig n v))

/-- OBJ_SEL_WRITE: CN_OBJ_SEL written: the lock is released, and the object selected. -/
def execObjSelWrite (m : Master) (n v : Nat) (s : State) : Host.Outcome State Fault Refusal :=
  .next (s.canWrite m n 0x100 (fun t => (t.release_ n).set (cnBase n) Rg.CN_OBJ_SEL.OBJ v))

/-- Word `w` of the selected object's window (R458). -/
def State.objWord (s : State) (n w : Nat) : Nat :=
  match (s.can n).obj (s.canSel n) with
  | none => 0
  | some x =>
    if w = 0 then
      let d := match x.frame with | some f => if x.tx then (x.dlc, x.fdf, x.brs, f.esi, f.gen) else (f.dlc, f.fdf, f.brs, f.esi, f.gen)
                                  | none => if x.tx then (x.dlc, x.fdf, x.brs, false, 0) else (0, false, false, false, 0)
      d.1 + b2n x.isNew * 2 ^ 4 + b2n x.lost * 2 ^ 5 + b2n d.2.1 * 2 ^ 6 + b2n d.2.2.1 * 2 ^ 7 + b2n d.2.2.2.1 * 2 ^ 8 + b2n x.pend * 2 ^ 9 +
        d.2.2.2.2 * 2 ^ 10
    else if w = 1 then (x.frame.map (fun f => f.sof % 2 ^ 32)).getD 0
    else if w = 2 then (x.frame.map (fun f => f.sof / 2 ^ 32 % 2 ^ 32)).getD 0
    else if w = 19 then x.stored
    else leAt x.data ((w - 3) * 4) 4

/-- Word `w` of the selected TX object written; the other words take no write. -/
def State.objWordWrite (s : State) (n w v : Nat) : State :=
  let o := s.canSel n
  match (s.can n).obj o with
  | some x =>
    if x.tx ∧ 3 ≤ w ∧ w ≤ 18 then
      s.putObj n o { x with data := x.data.take ((w - 3) * 4) ++ leBytes 4 v ++ x.data.drop ((w - 3) * 4 + 4) }
    else s
  | none => s

/-- A read of W0: it returns the word and locks the object; a lock on another is released (R458). -/
def State.lockRead (s : State) (n : Nat) : State :=
  let o := s.canSel n
  match (s.can n).obj o with
  | none => s
  | some _ =>
    if ((s.can n).lock.map (fun l => l.1)) = some o then s
    else
      let t := s.release_ n
      (t.setCan n { t.can n with lock := some (o, t.nowNs) }).showLock n

/-- A read access of controller `n`'s registers; with IO off it is an error (R576). -/
def State.canRead (s : State) (m : Master) (n off : Nat) (val : Nat) (f : State → State) : State :=
  if !s.on .io then (s.accessEvent 0x063 m (cnBase n + off)).answer .err 0
  else if s.canFitted n then (f s).answer .ok val else s.answer .ok 0

/-- OBJ_LOCK_READ: W0 read; a 64-bit read covers W0 and W1. -/
def execObjLockRead (m : Master) (n : Nat) (wide : Bool) (s : State) : Host.Outcome State Fault Refusal :=
  .next (s.canRead m n 0x200 (s.objWord n 0 + if wide then s.objWord n 1 * 2 ^ 32 else 0) (fun t => t.lockRead n))

/-- OBJ_RELEASE_READ: W19 read; a 64-bit read covers W18 and W19. -/
def execObjReleaseRead (m : Master) (n : Nat) (wide : Bool) (s : State) : Host.Outcome State Fault Refusal :=
  .next (s.canRead m n (if wide then 0x248 else 0x24C) (if wide then s.objWord n 18 + s.objWord n 19 * 2 ^ 32 else s.objWord n 19)
    (fun t => if ((t.can n).lock.map (fun l => l.1)) = some (t.canSel n) then t.release_ n else t))

/-- OBJ_LOCK_TIMEOUT: a lock held for LOCK_MS (R459). -/
def execObjLockTimeout (n : Nat) (s : State) : Host.Outcome State Fault Refusal :=
  match (s.can n).lock with
  | none => .next s
  | some (_, a) =>
    if a + max (s.get (cnBase n) Rg.CN_CFG.LOCK_MS) 1 * 1000000 ≤ s.nowNs then .next ((s.release_ n).cnEvent n Rg.CN_EVT.LOCK_TO)
    else .next s

/-- A transmit request for object `o` (R460); with the bus idle it is offered at once. -/
def State.txRequest (s : State) (n o : Nat) (idle : Bool) : State :=
  match (s.can n).obj o with
  | none => s.cnEvent n Rg.CN_EVT.TXREQ_IGN
  | some x =>
    if !x.tx then s.cnEvent n Rg.CN_EVT.TXREQ_IGN
    else if x.pend then s
    else
      let t := (s.putObj n o { x with pend := true }).showPend n
      if idle then t.busOffer n else t

/-- CAN_TX_REQUEST: CN_TXREQ written with CANCEL 0. -/
def execCanTxRequest (m : Master) (n obj : Nat) (idle : Bool) (s : State) : Host.Outcome State Fault Refusal :=
  .next (s.canWrite m n 0x118 (fun t => t.txRequest n (obj % 512) idle))

/-- A pending request removed, unless its frame is in arbitration or on the bus. -/
def State.txCancel (s : State) (n o : Nat) : State :=
  if ((s.can n).tx.map (fun p => p.1)) = some o then s else s.endRequest n o

/-- CAN_TX_CANCEL: CN_TXREQ written with CANCEL 1. -/
def execCanTxCancel (m : Master) (n obj : Nat) (s : State) : Host.Outcome State Fault Refusal :=
  .next (s.canWrite m n 0x118 (fun t => t.txCancel n (obj % 512)))

/-! ### Time-triggered transmission (R462–R464, R466) -/

/-- The data of a reference message of cycle `c`. -/
def refData (x : CanObj) (c : Nat) : List Byte :=
  match x.payload with
  | [] => []
  | b :: t => BitVec.ofNat 8 (putBits 0 6 b.toNat c) :: t

/-- Whether a cycle start of a time master lies in this cycle of the clock: second boundary + k × CYC_US (R463), not a second time
for one start, and not before the hold after a step is over (R466). -/
def State.cycleDue (s : State) (n : Nat) : Bool :=
  let c := s.can n
  let per : Int := s.get (cnBase n) Rg.CN_TT_CFG.CYC_US * 1000
  decide (((s.nowNs : Int) - s.time.bound) % per < 5 ∧ c.startAt ≠ some s.nowNs ∧ c.hold ≤ s.nowNs)

/-- TT_CYCLE_START: a cycle start of a time master: the reference message is offered; where it cannot be, the cycle runs
without it (R463). -/
def execTtCycleStart (n : Nat) (s : State) : Host.Outcome State Fault Refusal :=
  let b := cnBase n
  let c := s.can n
  let o := s.get b Rg.CN_TT_CFG.REF_OBJ
  if !s.ttMaster n ∨ !s.canSends n ∨ !s.cycleDue n then .next s
  else
    let cyc := if c.cycAt.isNone ∧ !s.flag b Rg.CN_TT_STAT.SYNC then s.get b Rg.CN_TT_STAT.CYCLE
      else (s.get b Rg.CN_TT_STAT.CYCLE + 1) % 2 ^ min (s.get b Rg.CN_TT_CFG.CYCLES) 6
    let t := s.sets b [(Rg.CN_TT_STAT.CYCLE, cyc), (Rg.CN_TT_STAT.SYNC, 1)]
    let c := { c with cycAt := some s.nowNs, startAt := some s.nowNs, begun := [] }
    let t := t.setCan n c
    match c.obj o with
    | none => .next (t.ttFail n)
    | some x =>
      if c.tx.isSome then .next (t.ttFail n)
      else .next (t.setCan n { c with tx := some (o, .reference, refData x cyc), txAt := s.nowNs })

/-- TT_REF_TIMEOUT: a follower has had no reference message for 1.1 × CYC_US. -/
def execTtRefTimeout (n : Nat) (s : State) : Host.Outcome State Fault Refusal :=
  match (s.can n).cycAt with
  | none => .next s
  | some a =>
    if s.ttOn n ∧ !s.ttMaster n ∧ s.flag (cnBase n) Rg.CN_TT_STAT.SYNC ∧
        a * 10 + s.get (cnBase n) Rg.CN_TT_CFG.CYC_US * 11000 ≤ s.nowNs * 10 then
      .next ((s.set (cnBase n) Rg.CN_TT_STAT.SYNC 0).cnEvent n Rg.CN_EVT.TT_LOSS)
    else .next s

/-- Whether the START of window `w` of the present cycle lies in this cycle of the clock, and has not begun already (R462). -/
def State.windowDue (s : State) (n w : Nat) : Bool :=
  let c := s.can n
  match c.cycAt with
  | none => false
  | some a =>
    let at_ := a + (s.ttWin n w).2.2.2.2.2.1 * 1000
    s.winIn n w (s.get (cnBase n) Rg.CN_TT_STAT.CYCLE) && decide (at_ ≤ s.nowNs ∧ s.nowNs < at_ + 5) && !c.begun.contains w

/-- TT_WINDOW_START: the START of window `w` in the present cycle; `idle` says whether the bus is idle (R464). -/
def execTtWindowStart (n w : Nat) (idle : Bool) (s : State) : Host.Outcome State Fault Refusal :=
  let v := s.ttWin n w
  if !s.ttOn n ∨ !s.canSends n ∨ 32 ≤ w ∨ !s.windowDue n w then .next s
  else
    let c := { s.can n with begun := w :: (s.can n).begun }
    let t := s.setCan n c
    if v.2.1 = 1 then .next (if idle then t.busOffer n else t)
    else if !s.flag (cnBase n) Rg.CN_TT_STAT.SYNC then .next t
    else match c.obj v.2.2.1 with
      | none => .next (t.ttFail n)
      | some x =>
        if !idle ∨ c.tx.isSome ∨ !x.tx then .next (t.ttFail n)
        else .next (t.setCan n { c with tx := some (v.2.2.1, .window, x.payload), txAt := s.nowNs })

/-- The instants a controller holds named anew: intervals go on over a change of the scale's label. -/
def State.canShift (s : State) (off : Int) : State :=
  let f := fun t : Nat => ((t : Int) + off).toNat
  let cans := s.cans.map (fun c : Can =>
    { c with lock := c.lock.map (fun l => (l.1, f l.2)), txAt := f c.txAt, adr := c.adr.map (fun a : CanAdr => { a with since := f a.since }),
             cycAt := c.cycAt.map f, startAt := c.startAt.map f, hold := f c.hold })
  { s with cans := cans }

/-- At a step a time master ends its cycle and sends no reference for 1 ms (R466); a follower's cycle and the other intervals
go on. -/
def State.canStepped (s : State) (off : Int) : State :=
  let s := s.canShift off
  (List.range 4).foldl (fun (t : State) (n : Nat) =>
    if t.ttMaster n then t.setCan n { t.can n with cycAt := none, hold := t.nowNs + 1000000 } else t) s

/-- The commit of a change to DORMANT (R467): controllers stop; objects, shadows, counters and registers return to their reset
values. -/
def State.canOff (s : State) : State :=
  { s.clearCells (fun k => decide (bCan ≤ keyAddr k ∧ keyAddr k < bCan + 0x1_0000)) with cans := List.replicate 4 .off }

end Sys2Proof.Machine
end

