-- ==== Sys2Proof/Machine/Grid.lean ====
section
/-! DEFINITION. Oscillation and island detection, alarm pins (R317–R334). Frequencies are integers in 2^−149 mHz, magnitudes in
2^−149, angles in 2^−20 °. -/

namespace Sys2Proof.Machine

/-- The base of analysis group `g`. -/
def mgBase (g : Nat) : Nat := laneBase .moda 0x80 g
/-- The position of its tile. -/
def mgPos (g : Nat) : Nat := chanPos .moda g
/-- The base of signal entry `j` of group `g`. -/
def mgSig (g j : Nat) : Nat := laneBase .moda 0x200 g + j * 8
/-- Whether group `g` is enabled. -/
def State.mgEn (s : State) (g : Nat) : Bool := s.chanOn .moda g && s.flag (mgBase g) Rg.MG_CTRL.EN
/-- Group `g` beside its registers. -/
def State.grp (s : State) (g : Nat) : Group := lookupD .off g s.groups
/-- Group `g`'s record replaced. -/
def State.setGrp (s : State) (g : Nat) (x : Group) : State := { s with groups := assocSet g x s.groups }
/-- An event of group `g`. -/
def State.mgEvent (s : State) (g : Nat) (f : Fld) : State := s.event (tileEv (mgPos g)) (mgBase g) f
/-- A field of group `g`. -/
def State.mg (s : State) (g : Nat) (f : Fld) : Nat := s.get (mgBase g) f

/-! ### Signals (R318, R319) -/

/-- The enabled entries of group `g`. -/
def State.entries (s : State) (g : Nat) : List Nat := (List.range 64).filter (fun j => s.flag (mgSig g j) Rg.MG_SIG.EN)
/-- QTY of an entry. -/
def State.qty (s : State) (g j : Nat) : Nat := s.get (mgSig g j) Rg.MG_SIG.QTY
/-- The channel of an entry. -/
def State.sigCh (s : State) (g j : Nat) : Nat := s.get (mgSig g j) Rg.MG_SIG.CH

/-- `n` bytes at an offset as a big-endian number; none beyond the end. -/
def beAt (l : List Byte) (o n : Nat) : Option Nat := if o + n ≤ l.length then some (beVal ((l.drop o).take n)) else none

/-- A 32-bit field that is not the absent pattern. -/
def present32 (l : List Byte) (o : Nat) : Option Nat := (beAt l o 4).filter (· != 0x7FC00000)
/-- A 16-bit field that is not the absent pattern. -/
def present16 (l : List Byte) (o : Nat) : Option Nat := (beAt l o 2).filter (· != 0x8000)

/-- Two fields of a phasor, if both are present. -/
def twoFields (fl : Bool) (l : List Byte) (o : Nat) : Option (Nat × Nat) :=
  if fl then (present32 l o).bind (fun a => (present32 l (o + 4)).map (fun b => (a, b)))
  else (present16 l o).bind (fun a => (present16 l (o + 2)).map (fun b => (a, b)))

/-- A field of a phasor as a rational: binary32, or a 16-bit number as it stands; none for a binary32 that is no number. -/
def fieldRat (fl signed : Bool) (p : Nat) : Option Rat :=
  if fl then f32Rat p else some (if signed then ((sgn 16 p : Int) : Rat) else (p : Rat))

/-- A rational angle in radians, in fixed point, from the two parts of a rectangular phasor; the angle of 0 is free. -/
def rectAngle (x y : Rat) : Rat :=
  let d := 2 ^ 149
  let a := (x * d).floor
  let b := (y * d).floor
  if a = 0 ∧ b = 0 then ((Config.noNumber 3 []).toInt : Rat) / 2 ^ 30 else (fxArg a b : Rat) / 2 ^ 80

/-- The value of a phasor quantity from its two fields (R319): the angle in 2^−20 °, the magnitude in 2^−149. -/
def phasorValue (qty : Nat) (polar fl : Bool) (p : Nat × Nat) : Option Int :=
  match fieldRat fl (!polar) p.1, fieldRat fl true p.2 with
  | some x, some y =>
    some (if qty = 1 then degOf 45 (if polar then (if fl then y else y / 10000) else rectAngle x y)
          else if polar then (x * 2 ^ 149).floor
          else (rootRnd 46 ((x * x + y * y) * 2 ^ 298).floor.toNat : Nat))
  | _, _ => none

/-- The value of entry `j` in a slot's payload (R319). -/
def State.slotValue (s : State) (g j : Nat) (l : List Byte) : Option Int :=
  let b := mgSig g j
  let o := s.get b Rg.MG_SIG.VAL_OFS
  let fm := s.get b Rg.MG_SIG.FORMAT
  match beAt l (s.get b Rg.MG_SIG.STAT_OFS) 2 with
  | none => none
  | some st =>
    if bits 14 2 st ≠ 0 ∨ (s.qty g j = 1 ∧ bitOf 13 st) then none
    else if s.qty g j = 0 then
      if bitOf 3 fm then ((present32 l o).bind f32).map (· * 1000)
      else (present16 l o).map (fun v => ((if s.flag b Rg.MG_SIG.FNOM then 60000 else 50000) + sgn 16 v) * 2 ^ 149)
    else (twoFields (bitOf 1 fm) l o).bind (phasorValue (s.qty g j) (bitOf 0 fm) (bitOf 1 fm))

/-- The value of entry `j` from an estimate's words. -/
def State.estValue (s : State) (g j : Nat) (ws : List Nat) : Option Int :=
  let w0 := ws.headD 0
  if bitOf 9 w0 || bitOf 10 w0 || bitOf 11 w0 || bitOf 15 w0 then none
  else if s.qty g j = 0 then (f32 (ws.getD 3 0 % 2 ^ 32)).map (· * 1000)
  else if s.qty g j = 1 then (if bitOf 14 w0 then none else (f32Rat (ws.getD 2 0 / 2 ^ 32)).map (degOf 45))
  else f32 (ws.getD 2 0 % 2 ^ 32)

/-! ### Enable (R321) -/

/-- Frames a second of group `g`. -/
def State.mgRate (s : State) (g : Nat) : Nat :=
  match s.mg g Rg.MG_CFG.FEED with
  | 0 => match s.conc (s.mg g Rg.MG_CFG.CONC) with
    | some c => s.get (acBase c.home c.n) Rg.AC_CFG.RATE
    | none => 0
  | 1 => s.phFs (s.sigCh g ((s.entries g).headD 0))
  | _ => 8 * s.phF0 (s.sigCh g ((s.entries g).headD 0))

/-- Frames in one analysis sample. -/
def State.decim (s : State) (g : Nat) : Nat := s.mg g Rg.MG_CFG.DECIM + 1

/-- Whether links that the group needs are missing. -/
def State.mgNoLink (s : State) (g : Nat) : Bool :=
  let pos := mgPos g
  match s.mg g Rg.MG_CFG.FEED with
  | 0 => (s.linkTo pos 83).isNone || (match s.conc (s.mg g Rg.MG_CFG.CONC) with
      | some c => (s.linkTo (atPos c.home) pos).isNone
      | none => false)
  | 3 => false
  | _ => (s.entries g).any (fun j => (s.linkTo (phPos (s.sigCh g j)) pos).isNone)

/-- Whether the group's source is not running as it must. -/
def State.mgBadSource (s : State) (g : Nat) : Bool :=
  let es := s.entries g
  let a := s.sigCh g (es.headD 0)
  match s.mg g Rg.MG_CFG.FEED with
  | 0 => match s.conc (s.mg g Rg.MG_CFG.CONC) with
    | some c => !(s.concDests c).contains (mgPos g)
    | none => true
  | 3 => false
  | f => es.any (fun j => let c := s.sigCh g j
      !s.phEn c || s.phF0 c != s.phF0 a || s.phFs c != s.phFs a || (f == 2 && !s.flag (phBase c) Rg.PH_CFG.FAST_EN))

/-- Whether the group's figures lie outside their ranges. -/
def State.mgRange (s : State) (g : Nat) : Bool :=
  let es := s.entries g
  let fr := s.mgRate g
  let d := s.decim g
  es.isEmpty || s.mg g Rg.MG_CFG.FEED == 3 || es.any (fun j => s.qty g j == 3) ||
  (s.mg g Rg.MG_CFG.KIND == 0 && decide (fr < 10 * d ∨ 60 * d < fr ∨ s.mg g Rg.MG_CFG.P < 2 ∨ 16 < s.mg g Rg.MG_CFG.P ∨
    s.mg g Rg.MG_MEM.MEM_S < 10 ∨ 3600 < s.mg g Rg.MG_MEM.MEM_S ∨ s.mg g Rg.MG_OSC.FLO < 10 ∨
    s.mg g Rg.MG_OSC.FHI ≤ s.mg g Rg.MG_OSC.FLO ∨ 400 * fr < s.mg g Rg.MG_OSC.FHI * d))

/-- A field of MG_ISL, in which 0 acts as 1. -/
def State.isl (s : State) (g : Nat) (f : Fld) : Nat := max (s.mg g f) 1

/-- Whether an ISLAND group's layout breaks R326. -/
def State.mgSites (s : State) (g : Nat) : Bool :=
  let on (j : Nat) : Bool := s.flag (mgSig g j) Rg.MG_SIG.EN
  let r := s.isl g Rg.MG_ISL.REF_SITE
  s.mg g Rg.MG_CFG.KIND == 1 && ((List.range 32).any (fun i =>
    (on (2 * i) && s.qty g (2 * i) != 0) || (on (2 * i + 1) && (s.qty g (2 * i + 1) != 1 || !on (2 * i)))) ||
    !(on (2 * r) && on (2 * r + 1)))

/-- The first check a group's enable fails, as MG_STAT.REFUSE. -/
def State.mgRefusal (s : State) (g : Nat) : Nat :=
  if s.mgNoLink g then 1 else if s.mgBadSource g then 2 else if s.mgRange g then 3 else if s.mgSites g then 4 else 0

/-- EN set on group `g`. -/
def State.groupOn (s : State) (g : Nat) : State :=
  let b := mgBase g
  if s.flag b Rg.MG_CTRL.EN then s
  else
    let r := s.mgRefusal g
    if r ≠ 0 then (s.set b Rg.MG_STAT.REFUSE r).mgEvent g Rg.MG_EVT.REFUSED
    else
      let rate := if s.mg g Rg.MG_CFG.KIND = 0 then (rnd 50 (s.mgRate g) (s.decim g)).toNat else s.mgRate g
      let t := s.sets b [(Rg.MG_CTRL.EN, 1), (Rg.MG_STAT.RUN, 1), (Rg.MG_STAT.REFUSE, 0), (Rg.MG_STAT.VALID, 0), (Rg.MG_STAT.ALARM, 0),
        (Rg.MG_STAT.STALE, 0), (Rg.MG_STAT.MONITORED, 0), (Rg.MG_STAT.NMODE, 0), (Rg.MG_STAT.RATE, rate)]
      t.setGrp g { Group.off with last := t.nowNs, monAt := t.nowNs }

/-! ### Alarm pins (R331) -/

/-- The base of AO_CFGn. -/
def aoBase (n : Nat) : Nat := bWv + n * 0x10
/-- Pin `n` beside its register. -/
def State.pin (s : State) (n : Nat) : AlarmPin := s.pins.getD n ⟨0, 0, false⟩
/-- Pin `n`'s record replaced. -/
def State.setPin (s : State) (n : Nat) (p : AlarmPin) : State := { s with pins := listSet s.pins n p }
/-- MIN_MS in ns; 0 acts as 1. -/
def State.pinMin (s : State) (n : Nat) : Nat := max (s.get (aoBase n) Rg.AO_CFG.MIN_MS) 1 * 1000000

/-- Whether a source of pin `n` stands: a selected group's ALARM, or a trigger pulse. -/
def State.pinSource (s : State) (n : Nat) : Bool :=
  decide (s.nowNs < (s.pin n).pulseEnd) ||
  (List.range 64).any (fun g => bitOf g (s.get (aoBase n) Rg.AO_SEL.GROUPS) && s.flag (mgBase g) Rg.MG_STAT.ALARM)

/-- Whether pin `n` is an output at all. -/
def State.pinOn (s : State) (n : Nat) : Bool := s.flag (aoBase n) Rg.AO_CFG.EN && bitOf (40 + n) s.img.io0 && s.on .io

/-- Pin `n` follows its sources, its minimum time and its latch. -/
def State.pinUpdate (s : State) (n : Nat) : State :=
  let p := s.pin n
  let was := s.flag (aoBase n) Rg.AO_CFG.STATE
  if !s.pinOn n then (s.set (aoBase n) Rg.AO_CFG.STATE 0).setPin n ⟨0, p.pulseEnd, false⟩
  else if s.pinSource n then
    (s.set (aoBase n) Rg.AO_CFG.STATE 1).setPin n { p with minEnd := if was then p.minEnd else s.nowNs + s.pinMin n, latched := true }
  else if was ∧ (s.nowNs < p.minEnd ∨ (p.latched ∧ s.flag (aoBase n) Rg.AO_CFG.LATCH)) then s
  else (s.set (aoBase n) Rg.AO_CFG.STATE 0).setPin n { p with latched := false }

/-- Every pin follows its sources. -/
def State.pinsUpdate (s : State) : State := (List.range 8).foldl (fun t n => t.pinUpdate n) s

/-- A trigger of engine `e` pulses the pins that select it. -/
def State.pinPulse (s : State) (e : Nat) : State :=
  (List.range 8).foldl (fun t n =>
    if bitOf e (t.get (aoBase n) Rg.AO_CFG.TRIG_SEL) then
      (t.setPin n { t.pin n with pulseEnd := t.nowNs + t.pinMin n }).pinUpdate n
    else t) s

/-- ALARM_PIN_MIN_EXPIRY: pin `n` is held no longer than its sources and latch ask. -/
def execAlarmPinMinExpiry (n : Nat) (s : State) : Host.Outcome State Fault Refusal :=
  if n < 8 then .next (s.pinUpdate n) else .next s

/-- CLR of pin `n`: a latched pin whose sources have ended is released. -/
def State.pinClear (s : State) (n : Nat) : State :=
  if s.pinSource n then s else (s.setPin n { s.pin n with latched := false }).pinUpdate n

/-- ALARM_CLR: AO_CFGn written with CLR. -/
def execAlarmClr (m : Master) (n : Nat) (s : State) : Host.Outcome State Fault Refusal :=
  .next (s.actWrite m (mayWriteService s m) .io (aoBase n + 0x800) (fun t => if n < 8 then t.pinClear n else t))

/-! ### Alarms (R330) -/

/-- A group's ALARM set to a value, with the figures of the alarm item: word 0 above TFLAG, and the instant of the frame. -/
def State.setAlarm (s : State) (g : Nat) (v tflag : Bool) (w tk : Nat) : State :=
  let b := mgBase g
  if s.flag b Rg.MG_STAT.ALARM = v then s
  else
    let t := s.sets b [(Rg.MG_STAT.ALARM, b2n v), (Rg.MG_ALTS.AT, s.now)]
    let t := (t.mgEvent g Rg.MG_EVT.ALARM_CHG).toggle (152 + g)
    let w0 := g + t.mg g Rg.MG_CFG.KIND * 2 ^ 6 + b2n v * 2 ^ 7 + b2n tflag * 2 ^ 8 + w
    let r := t.pinsUpdate.sendMask (mgPos g) (t.mg g Rg.MG_CFG.ALARM_ROUTE) 0x55 [w0, tk]
    if r.2 = 0 then r.1 else r.1.mgEvent g Rg.MG_EVT.OUT_DROP

/-! ### Oscillation (R322–R325) -/

/-- Angles in 2^−20 ° unwrapped: each within half a turn of the one before. -/
def unwrapDeg : Option Int → List Int → List Int
  | _, [] => []
  | none, x :: t => x :: unwrapDeg (some x) t
  | some a, x :: t =>
    let turn : Int := 360 * 2 ^ 20
    let d := (x - a) % turn
    let y := a + (if turn < 2 * d then d - turn else d)
    y :: unwrapDeg (some y) t

/-- The analysis sample of an entry from its values in the frames of one sample, oldest first (R322, step 1): the mean of those
present; angles are unwrapped first, from the sample before. -/
def State.entryMean (s : State) (g j : Nat) (before : Option Int) (l : List (Option Int)) : Option Int :=
  let v := l.filterMap id
  let v := if s.qty g j = 1 then unwrapDeg before v else v
  if v = [] then none else some (rnd 47 v.sum v.length)

/-- The analysis sample of a group's frames, oldest first. -/
def State.analysis (s : State) (g : Nat) (before : List (Option Int)) (fs : List (List (Option Int))) : List (Option Int) :=
  (List.range 64).map (fun j => s.entryMean g j (before.getD j none) (fs.map (fun f => f.getD j none)))

/-- The high-pass of an entry's samples, oldest first (R322, step 2): h := y − m with m := m + (y − m) / (100 r_a), where r_a is
`num` / `den`. -/
def highPass (num den : Nat) : Int → List (Option Int) → List (Option Int)
  | _, [] => []
  | m, none :: t => none :: highPass num den m t
  | m, some y :: t =>
    let m := m + rnd 48 ((y - m) * den) (100 * max num 1)
    some (y - m) :: highPass num den m t

/-- The coefficients of A(z) fitted to a group's samples since the last restart (R322). -/
def State.arCoeffs (s : State) (g : Nat) : List Int :=
  let h := (s.grp g).hist.reverse
  let e (j : Nat) : List (Option Int) :=
    (highPass (s.mgRate g) (s.decim g) (Config.meanStart j) (h.map (fun x => x.getD j none))).reverse
  Config.arFit [s.mg g Rg.MG_CFG.P, s.mg g Rg.MG_CFG.Q, s.decim g, s.mg g Rg.MG_MEM.MEM_S * s.mgRate g] ((s.entries g).map e)

/-- A root as a mode: f = |arg z| r_a / 2π in mHz and ζ = −ln|z| / √(ln²|z| + arg²z) in 0.01 % (R323). -/
def State.modeOf (s : State) (g : Nat) (z : Int × Int) : Nat × Int :=
  let a := fxArg z.1 z.2
  let n := fxLn ((z.1 * z.1 + z.2 * z.2) / fxOne).toNat / 2
  let r : Int := isqrt (n * n + a * a).toNat
  ((rnd 49 ((a.natAbs * s.mgRate g * 1000 : Nat) : Int) (2 * fxPi.toNat * s.decim g)).toNat, if r = 0 then 0 else rnd 97 (-n * 10000) r.toNat)

/-- The modes of a group's model; none when the solve does not converge. -/
def State.modes_ (s : State) (g : Nat) : Option (List (Nat × Int)) :=
  (Config.arRoots (s.arCoeffs g)).map (fun l => (l.filter (fun z => decide (0 < z.2))).map (s.modeOf g))

/-- Insertion of a mode by ascending ζ, then ascending f. -/
def insMode (x : Nat × Int) : List (Nat × Int) → List (Nat × Int)
  | [] => [x]
  | y :: t => if x.2 < y.2 ∨ (x.2 = y.2 ∧ x.1 ≤ y.1) then x :: y :: t else y :: insMode x t

/-- The modes reported: those from FLO to FHI, at most 8, in order (R323). -/
def State.reported (s : State) (g : Nat) (l : List (Nat × Int)) : List (Nat × Int) :=
  ((l.filter (fun m => decide (s.mg g Rg.MG_OSC.FLO ≤ m.1 ∧ m.1 ≤ s.mg g Rg.MG_OSC.FHI))).foldr insMode []).take 8

/-- The modes shown. -/
def State.showModes (s : State) (g : Nat) (l : List (Nat × Int)) : State :=
  let at_ (i : Nat) : Nat × Int := l.getD i (0, 0)
  ((List.range 4).foldl (fun t r => t.sets (mgBase g + r * 8) [(Rg.MG_MODES.F0, (at_ (2 * r)).1), (Rg.MG_MODES.Z0, pat 16 (at_ (2 * r)).2),
    (Rg.MG_MODES.F1, (at_ (2 * r + 1)).1), (Rg.MG_MODES.Z1, pat 16 (at_ (2 * r + 1)).2)]) s).set (mgBase g) Rg.MG_STAT.NMODE l.length

/-- Whether a count of solves spans DWELL (R324). -/
def State.dwelt (s : State) (g n : Nat) : Bool :=
  decide (max (s.mg g Rg.MG_OSC.DWELL) 1 * s.mgRate g ≤ n * max (s.mg g Rg.MG_OSC.ROOT_DIV) 1 * s.decim g * 10)

/-- The damping alarm after a solve. -/
def State.damping (s : State) (g tk : Nat) (tflag : Bool) (l : List (Nat × Int)) : State :=
  let x := s.grp g
  let thr : Int := s.mg g Rg.MG_OSC.ZTHR
  let low := decide (∃ m ∈ l.head?, m.2 < thr)
  let clear := decide (∀ m ∈ l.head?, thr + s.mg g Rg.MG_OSC.ZHYST ≤ m.2)
  let x := { x with dwOn := if low then x.dwOn + 1 else 0, dwOff := if clear then x.dwOff + 1 else 0 }
  let s := s.setGrp g x
  let m := l.headD (0, 0)
  let w := m.1 * 2 ^ 32 + pat 16 m.2 * 2 ^ 48
  let al := s.flag (mgBase g) Rg.MG_STAT.ALARM
  if !al && low && s.dwelt g x.dwOn then s.setAlarm g true tflag w tk
  else if al && clear && s.dwelt g x.dwOff then s.setAlarm g false tflag w tk
  else s

/-- A solve (R323). -/
def State.solve (s : State) (g tk : Nat) (tflag : Bool) : State :=
  match s.modes_ g with
  | none => (s.count (mgBase g) Rg.MG_CNT.SOLVE_FAIL 1).mgEvent g Rg.MG_EVT.SOLVE_FAIL
  | some l => let r := s.reported g l
              (s.showModes g r).damping g tk tflag r

/-- An analysis sample completed at a frame: skipped when no frame is left, otherwise taken by the model (R325). -/
def State.sampleDone (s : State) (g tk : Nat) (tflag : Bool) : State :=
  let x := s.grp g
  let b := mgBase g
  if x.frames.isEmpty then
    ((s.setGrp g { x with passed := 0, skips := x.skips + 1 }).count b Rg.MG_CNT.SKIP 1).set b Rg.MG_STAT.MONITORED 0
  else
    let h := s.analysis g (x.hist.headD []) x.frames.reverse :: x.hist
    let t := (s.setGrp g { x with frames := [], passed := 0, skips := 0, hist := h }).set b Rg.MG_STAT.MONITORED 1
    let t := if 3 * t.mg g Rg.MG_MEM.MEM_S * t.mgRate g ≤ h.length * t.decim g then t.set b Rg.MG_STAT.VALID 1 else t
    if t.flag b Rg.MG_STAT.VALID ∧ h.length % max (t.mg g Rg.MG_OSC.ROOT_DIV) 1 = 0 then t.solve g tk tflag else t

/-- A frame of an OSC group. -/
def State.oscFrame (s : State) (g tk : Nat) (tflag : Bool) (v : List (Option Int)) : State :=
  let es := s.entries g
  let gone := (es.filter (fun j => (v.getD j none).isNone)).length
  let x := s.grp g
  let x := { x with passed := x.passed + 1, frames := if es.length < 4 * gone then x.frames else v :: x.frames }
  let t := s.setGrp g x
  if s.decim g ≤ x.passed then t.sampleDone g tk tflag else t

/-- The model restarted (R325). -/
def State.restart (s : State) (g : Nat) : State :=
  let t := s.setGrp g { s.grp g with frames := [], passed := 0, hist := [], skips := 0 }
  ((t.set (mgBase g) Rg.MG_STAT.VALID 0).count (mgBase g) Rg.MG_CNT.RESTARTS 1).mgEvent g Rg.MG_EVT.RESTART

/-- MODEL_RESTART: 2 s of skipped samples in a row. -/
def execModelRestart (g : Nat) (s : State) : Host.Outcome State Fault Refusal :=
  if s.mgEn g ∧ s.mg g Rg.MG_CFG.KIND = 0 ∧ 0 < (s.grp g).skips ∧ 2 * s.mgRate g ≤ (s.grp g).skips * s.decim g then
    .next (s.restart g)
  else .next s

/-- RESTART of group `g`. -/
def State.restartCmd (s : State) (g : Nat) : State :=
  if s.mgEn g ∧ s.mg g Rg.MG_CFG.KIND = 0 then s.restart g else s

/-- A write of MG_CTRL. -/
def State.mgWrite (s : State) (m : Master) (g : Nat) (f : State → State) : State :=
  s.tileWrite m (mgPos g) (g % 16) (0x1008 + g % 16 * 0x80) f

/-- GROUP_ENABLE: MG_CTRL written with EN 1. -/
def execGroupEnable (m : Master) (g : Nat) (s : State) : Host.Outcome State Fault Refusal :=
  .next (s.mgWrite m g (fun t => t.groupOn g))

/-- MODEL_RESTART_CMD: MG_CTRL written with RESTART. -/
def execModelRestartCmd (m : Master) (g : Nat) (s : State) : Host.Outcome State Fault Refusal :=
  .next (s.mgWrite m g (fun t => t.restartCmd g))

/-- EN cleared on group `g`. -/
def State.groupOff (s : State) (g : Nat) : State :=
  let t := s.sets (mgBase g) [(Rg.MG_CTRL.EN, 0), (Rg.MG_STAT.RUN, 0), (Rg.MG_STAT.VALID, 0), (Rg.MG_STAT.ALARM, 0), (Rg.MG_STAT.STALE, 0)]
  { t with groups := assocDel g t.groups }.pinsUpdate

/-! ### Islands (R326–R329) -/

/-- The present sites of a frame: site, frequency, slip in 2^−20 °/s. -/
def State.sites (s : State) (g : Nat) (v : List (Option Int)) : List (Nat × Int × Option Int) :=
  let p := (s.grp g).prev
  let r := s.isl g Rg.MG_ISL.REF_SITE
  let rel (l : List (Option Int)) (i : Nat) : Option Int :=
    (l.getD (2 * i + 1) none).bind (fun a => (l.getD (2 * r + 1) none).map (fun b => a - b))
  let turn : Int := 360 * 2 ^ 20
  (List.range 32).filterMap (fun i => (v.getD (2 * i) none).map (fun f =>
    (i, f, (rel v i).bind (fun a => (rel p i).map (fun b =>
      let d := (a - b) % turn
      (if turn < 2 * d then d - turn else d) * s.mgRate g)))))

/-- Whether two sites are coherent. -/
def State.coherent (s : State) (g : Nat) (a b : Nat × Int × Option Int) : Bool :=
  decide (2 * (a.2.1 - b.2.1).natAbs ≤ s.isl g Rg.MG_ISL.FDIFF * 2 ^ 149) &&
  (match a.2.2, b.2.2 with
   | some x, some y => decide (20 * (x - y).natAbs ≤ s.isl g Rg.MG_ISL.SLIP_MAX * 2 ^ 20)
   | _, _ => true)

/-- The connected sets of coherent sites. -/
def State.clusters (s : State) (g : Nat) (l : List (Nat × Int × Option Int)) : List (List (Nat × Int × Option Int)) :=
  l.foldl (fun cs x => (x :: (cs.filter (fun c => c.any (s.coherent g x))).flatten) :: cs.filter (fun c => !c.any (s.coherent g x))) []

/-- Insertion in rising order. -/
def insInt (x : Int) : List Int → List Int
  | [] => [x]
  | y :: t => if x ≤ y then x :: y :: t else y :: insInt x t

/-- The median of a list; of an even number the mean of the middle two. -/
def median (l : List Int) : Option Int :=
  let o := l.foldr insInt []
  let n := o.length
  if n = 0 then none
  else if n % 2 = 1 then o[n / 2]? else some (rnd 51 (o.getD (n / 2 - 1) 0 + o.getD (n / 2) 0) 2)

/-- A counted cluster: its site bits, frequency and slip. -/
structure Clu where
  bits_ : Nat
  low   : Nat
  f     : Int
  slip  : Option Int
  deriving DecidableEq, Repr

/-- Insertion by lowest site. -/
def insClu (x : Clu) : List Clu → List Clu
  | [] => [x]
  | y :: t => if x.low ≤ y.low then x :: y :: t else y :: insClu x t

/-- The counted clusters of a frame, the one with REF_SITE first, then by lowest site. -/
def State.counted (s : State) (g : Nat) (l : List (Nat × Int × Option Int)) : List Clu :=
  let cs := (s.clusters g l).filter (fun c => decide (s.isl g Rg.MG_ISL.MIN_SITES ≤ c.length))
  let mk (c : List (Nat × Int × Option Int)) : Clu :=
    ⟨(c.map (fun x => 2 ^ x.1)).sum, (c.map (fun x => x.1)).foldl min 32, (median (c.map (fun x => x.2.1))).getD 0,
     median (c.filterMap (fun x => x.2.2))⟩
  let o := (cs.map mk).foldr insClu []
  let r := s.isl g Rg.MG_ISL.REF_SITE
  o.filter (fun c => bitOf r c.bits_) ++ o.filter (fun c => !bitOf r c.bits_)

/-- The largest difference of frequency and of known slip between two clusters. -/
def spread (cs : List Clu) : Nat × Nat :=
  cs.foldl (fun m a => cs.foldl (fun m b =>
    (max m.1 (a.f - b.f).natAbs,
     match a.slip, b.slip with
     | some x, some y => max m.2 (x - y).natAbs
     | _, _ => m.2)) m) (0, 0)

/-- A monitored frame's clusters shown, and the alarm (R328). -/
def State.islandSeen (s : State) (g tk : Nat) (tflag : Bool) (cs : List Clu) : State :=
  let b := mgBase g
  let d := spread cs
  let df := (rnd 52 (d.1 : Int) (2 ^ 149)).toNat
  let sl := (rnd 53 ((10 * d.2 : Nat) : Int) (2 ^ 20)).toNat
  let at_ (i : Nat) : Nat := (cs[i]?).elim 0 (·.bits_)
  let s := s.sets b [(Rg.MG_ISLR.NCLU, min cs.length 4), (Rg.MG_ISLR.MORE, b2n (decide (4 < cs.length))), (Rg.MG_ISLR.DF, min df 0xFFF),
    (Rg.MG_ISLR.SLIP, min sl 0xFFFF), (Rg.MG_CLU.C0, at_ 0), (Rg.MG_CLU.C1, at_ 1), (Rg.MG_STAT.MONITORED, 1), (Rg.MG_STAT.STALE, 0)]
  let s := s.sets (b + 8) [(Rg.MG_CLU.C0, at_ 2), (Rg.MG_CLU.C1, at_ 3)]
  let sep := decide (s.isl g Rg.MG_ISL.FDIFF * 2 ^ 149 < d.1 ∨ s.isl g Rg.MG_ISL.SLIP_MAX * 2 ^ 20 < 10 * d.2)
  let x := s.grp g
  let x := { x with sep := if sep then x.sep + 1 else 0, one := if cs.length = 1 then x.one + 1 else 0, monAt := s.nowNs }
  let s := s.setGrp g x
  let w := min cs.length 7 * 2 ^ 9 + min df 0xFFFF * 2 ^ 32 + min sl 0xFFFF * 2 ^ 48
  let al := s.flag b Rg.MG_STAT.ALARM
  let n := s.isl g Rg.MG_ISL.NFR
  if !al && decide (n ≤ x.sep) then s.setAlarm g true tflag w tk
  else if al && decide (n ≤ x.one) then s.setAlarm g false tflag w tk
  else s

/-- A frame of an ISLAND group. -/
def State.islandFrame (s : State) (g tk : Nat) (tflag : Bool) (v : List (Option Int)) : State :=
  let l := s.sites g v
  let t := if l.length < 2 then s.set (mgBase g) Rg.MG_STAT.MONITORED 0 else s.islandSeen g tk tflag (s.counted g l)
  t.setGrp g { t.grp g with prev := v }

/-- GROUP_STALE: no monitored frame for 1 s. -/
def execGroupStale (g : Nat) (s : State) : Host.Outcome State Fault Refusal :=
  if s.mgEn g ∧ s.mg g Rg.MG_CFG.KIND = 1 ∧ (s.grp g).monAt + 1000000000 ≤ s.nowNs then
    .next ((s.set (mgBase g) Rg.MG_STAT.STALE 1).mgEvent g Rg.MG_EVT.STALE)
  else .next s

/-! ### Frames (R320) -/

/-- The values of a bucket's item for group `g`, queued as a frame. -/
def State.queueBucket (s : State) (g tk : Nat) (tflag : Bool) (l : List Byte) : State :=
  let x := s.grp g
  s.setGrp g { x with pend := x.pend ++ [⟨tk, [], (List.range 64).map (fun j => if s.flag (mgSig g j) Rg.MG_SIG.EN then s.slotValue g j l else none),
                                         tflag⟩] }

/-- A concentration's item taken by a MODA tile: its groups' values are read and the slot is released (R308, R320). -/
def State.takeBucket (s : State) (inst : Nat) (q : QPkt) : State :=
  let w := q.data.headD 0
  let n := bits 8 4 w
  match s.conc n with
  | none => s
  | some c =>
    let a := s.slotOf c (bits 0 8 w)
    let r := s.memRead a (bits 12 17 w)
    let t := match r.2 with
      | none => r.1.poisonDrop ((tilePositions .moda).getD inst 99) a
      | some l => (List.range 16).foldl (fun u k =>
          let g := inst * 16 + k
          if u.mgEn g ∧ u.mg g Rg.MG_CFG.FEED = 0 ∧ u.mg g Rg.MG_CFG.CONC = n then u.queueBucket g (q.data.getD 1 0) (bitOf 31 w) l
          else u) r.1
    t.slotRelease n (bits 0 8 w)

/-- An estimate added to the frames of a group that uses its channel; one whose frame has been evaluated comes too late. -/
def State.queueEst (s : State) (g : Nat) (ws : List Nat) : State :=
  let x := s.grp g
  let c := bits 0 6 (ws.headD 0)
  let tk := ws.getD 1 0
  if tk ≤ x.last ∨ !(s.entries g).any (fun j => s.sigCh g j == c) then s
  else
    let f := (x.pend.find? (fun f => f.tk == tk)).getD ⟨tk, [], [], false⟩
    let f := { f with ests := assocSet c ws f.ests, tflag := f.tflag || bitOf 12 (ws.headD 0) }
    s.setGrp g { x with pend := x.pend.filter (fun h => decide (h.tk < tk)) ++ [f] ++ x.pend.filter (fun h => decide (tk < h.tk)) }

/-- The items that have reached a MODA tile taken by its groups. -/
def State.mgAbsorb (s : State) (inst : Nat) : State :=
  let r := s.collect ((tilePositions .moda).getD inst 99)
  r.2.foldl (fun t i =>
    let ty := pktType i.q.lw
    if ty = 0x54 then t.takeBucket inst i.q
    else if ty = 0x50 ∨ ty = 0x51 then
      (List.range 16).foldl (fun u k =>
        let g := inst * 16 + k
        if u.mgEn g ∧ u.mg g Rg.MG_CFG.FEED = ty - 0x4F then u.queueEst g i.q.data else u) t
    else t) r.1

/-- The values of a frame by entry. -/
def State.frameValues (s : State) (g : Nat) (f : GridFrame) : List (Option Int) :=
  if s.mg g Rg.MG_CFG.FEED = 0 then f.vals
  else (List.range 64).map (fun j => if s.flag (mgSig g j) Rg.MG_SIG.EN then
      (match lookupD [] (s.sigCh g j) f.ests with
       | [] => none
       | ws => s.estValue g j ws)
    else none)

/-- A frame evaluated. -/
def State.evalFrame (s : State) (g : Nat) (f : GridFrame) : State :=
  let v := s.frameValues g f
  let x := s.grp g
  let gone := ((s.entries g).filter (fun j => (v.getD j none).isNone)).length
  let t := (s.setGrp g { x with last := f.tk, pend := x.pend.filter (fun h => decide (f.tk < h.tk)) }).count (mgBase g) Rg.MG_CNT.ABSENT gone
  if t.mg g Rg.MG_CFG.KIND = 0 then t.oscFrame g f.tk f.tflag v else t.islandFrame g f.tk f.tflag v

/-- The next frame of a FEED 1 or 2 group: that of the first instant after the last one evaluated. -/
def State.nextFrame (s : State) (g : Nat) : GridFrame :=
  let tk := s.gridAfter (s.mgRate g) (s.grp g).last
  ((s.grp g).pend.find? (fun f => f.tk == tk)).getD ⟨tk, [], [], false⟩

/-- Whether every enabled entry's estimate of a frame has come. -/
def State.frameFull (s : State) (g : Nat) (f : GridFrame) : Bool :=
  (s.entries g).all (fun j => f.ests.any (fun e => e.1 == s.sigCh g j))

/-- GROUP_FRAME_EVAL: the inputs of a frame have come. -/
def execGroupFrameEval (g : Nat) (s : State) : Host.Outcome State Fault Refusal :=
  if !s.mgEn g then .next s
  else
    let t := s.mgAbsorb (g / 16)
    if t.mg g Rg.MG_CFG.FEED = 0 then
      match (t.grp g).pend with
      | [] => .next t
      | f :: _ => .next (t.evalFrame g f)
    else
      let f := t.nextFrame g
      if t.frameFull g f then .next (t.evalFrame g f) else .next t

/-- GROUP_FRAME_TIMEOUT: 0.3 ms after the instant of a FEED 1 or 2 group's next frame. -/
def execGroupFrameTimeout (g : Nat) (s : State) : Host.Outcome State Fault Refusal :=
  if !s.mgEn g ∨ s.mg g Rg.MG_CFG.FEED = 0 then .next s
  else
    let t := s.mgAbsorb (g / 16)
    let f := t.nextFrame g
    if f.tk + 300000 ≤ t.nowNs then .next (t.evalFrame g f) else .next t

/-! ### Reactions -/

/-- A time step (R334). -/
def State.groupsStepped (s : State) : State :=
  (List.range 64).foldl (fun t g =>
    if !t.mgEn g then t
    else
      let u := if t.mg g Rg.MG_CFG.KIND = 0 then t.restart g else t
      u.setGrp g { u.grp g with sep := 0, one := 0, pend := [], last := u.nowNs, monAt := u.nowNs, prev := [] }) s

/-- A wrap to a label other than the old era + 1: what groups and alarm pins hold is named anew (R146). -/
def State.groupsRelabel (s : State) (off : Int) : State :=
  let mv (n : Nat) : Nat := ((n : Int) + off).toNat
  { s with
    groups := s.groups.map (fun p => (p.1, { p.2 with
      pend := p.2.pend.map (fun f => { f with tk := mv f.tk }), last := mv p.2.last, monAt := mv p.2.monAt })),
    pins := s.pins.map (fun x => { x with minEnd := mv x.minEnd, pulseEnd := mv x.pulseEnd }) }

/-- The commit of a change to DORMANT or MAINTENANCE (R347): groups are disabled and the pins go to their deasserted level. -/
def State.groupsOff (s : State) : State :=
  let t := (List.range 64).foldl (fun u g => if u.mgEn g then u.groupOff g else u) s
  (List.range 8).foldl (fun u n => (u.set (aoBase n) Rg.AO_CFG.STATE 0).setPin n ⟨0, 0, false⟩) t

end Sys2Proof.Machine
end

