-- ==== Sys2Proof/Machine/Capture.lean ====
section
/-! DEFINITION. Capture engines and trigger lines (R335–R347). -/

namespace Sys2Proof.Machine

/-- The base of engine `e`. -/
def tgBase (e : Nat) : Nat := laneBase .trig 0x100 e
/-- The position of its tile. -/
def tgPos (e : Nat) : Nat := chanPos .trig e
/-- Engine `e` beside its registers. -/
def State.eng (s : State) (e : Nat) : Engine := s.engines.getD e .off
/-- Engine `e`'s record replaced. -/
def State.setEng (s : State) (e : Nat) (x : Engine) : State := { s with engines := listSet s.engines e x }
/-- A field of engine `e`. -/
def State.tg (s : State) (e : Nat) (f : Fld) : Nat := s.get (tgBase e) f
/-- An event of engine `e`: its own source and its tile's. -/
def State.tgEvent (s : State) (e : Nat) (f : Fld) : State :=
  if s.tg e f = 1 then s else ((s.set (tgBase e) f 1).toggle (tileEv (tgPos e))).toggle (216 + e)
/-- The state of R340. -/
def State.tgState (s : State) (e : Nat) : Nat := s.tg e Rg.TG_STAT.STATE
/-- The state set. -/
def State.setTg (s : State) (e v : Nat) : State := s.set (tgBase e) Rg.TG_STAT.STATE v

/-! ### Trigger lines (R338) -/

/-- The base of TL_CFGm. -/
def tlBase (n : Nat) : Nat := bWv + n * 0x10
/-- Line `n` beside its register. -/
def State.line (s : State) (n : Nat) : TrigLine := s.lines.getD n ⟨0, 0, 0, false⟩
/-- Line `n`'s record replaced. -/
def State.setLine (s : State) (n : Nat) (x : TrigLine) : State := { s with lines := listSet s.lines n x }
/-- Whether line `n` is enabled in IOBANK. -/
def State.lineOn (s : State) (n : Nat) : Bool := decide (n < 2) && bitOf (52 + n) s.img.io0 && s.on .io

/-- The device pulls line `n` low for PULSE_US µs; the edge that results is its own if the line was high. -/
def State.lineDrive (s : State) (n : Nat) : State :=
  if !s.lineOn n then s
  else
    let x := s.line n
    let t := s.setLine n { x with pulseEnd := s.nowNs + max (s.get (tlBase n) Rg.TL_CFG.PULSE_US) 1 * 1000,
                                  own := if s.flag (tlBase n) Rg.TL_CFG.LOW then x.own else true }
    t.set (tlBase n) Rg.TL_CFG.DRIVING 1

/-- TL_DRIVE: TL_CFGm written with DRIVE. -/
def execTlDrive (m : Master) (n : Nat) (s : State) : Host.Outcome State Fault Refusal :=
  .next (s.actWrite m (mayWriteService s m) .io (tlBase n + 0x900) (fun t => t.lineDrive n))

/-- TL_PULSE_END: the device's pulse on line `n` is over. -/
def execTlPulseEnd (n : Nat) (s : State) : Host.Outcome State Fault Refusal :=
  if s.flag (tlBase n) Rg.TL_CFG.DRIVING ∧ (s.line n).pulseEnd ≤ s.nowNs ∧ n < 2 then
    .next (s.set (tlBase n) Rg.TL_CFG.DRIVING 0)
  else .next s

/-- A trigger on its way to engine `e`, if its source is enabled there. -/
def State.sendTrig (s : State) (e : Nat) (x : Trig) : State :=
  if bitOf x.src (s.tg e Rg.TG_TSRC.SRC) then s.setEng e { s.eng e with way := (s.eng e).way ++ [x] } else s

/-- A trigger on its way to every engine. -/
def State.sendTrigs (s : State) (x : Trig) : State := (List.range 8).foldl (fun t e => t.sendTrig e x) s

/-- A line that has been high for 1 ms after STUCK gives triggers again. -/
def State.unstick (s : State) (n : Nat) : State :=
  if s.flag (tlBase n) Rg.TL_CFG.STUCK ∧ !s.flag (tlBase n) Rg.TL_CFG.LOW ∧ (s.line n).highAt + 1000000 ≤ s.nowNs then
    s.set (tlBase n) Rg.TL_CFG.STUCK 0
  else s

/-- TRIG_LINE_EDGE: a filtered falling edge on line `n`. -/
def execTrigLineEdge (n : Nat) (s : State) : Host.Outcome State Fault Refusal :=
  if !s.lineOn n ∨ s.flag (tlBase n) Rg.TL_CFG.LOW then .next s
  else
    let t := s.unstick n
    let x := t.line n
    let u := (t.setLine n { x with lowAt := t.nowNs, own := false }).set (tlBase n) Rg.TL_CFG.LOW 1
    if !t.flag (tlBase n) Rg.TL_CFG.RX_EN then .next u
    else
      let u := u.set (tlBase n) Rg.TL_TS.AT t.now
      .next (if t.flag (tlBase n) Rg.TL_CFG.STUCK then u
             else u.sendTrigs ⟨4 + n, t.nowNs, 0, x.own && t.flag (tlBase n) Rg.TL_CFG.DRIVING⟩)

/-- TL_STUCK: line `n` has been low for more than 1 s. -/
def execTlStuck (n : Nat) (s : State) : Host.Outcome State Fault Refusal :=
  if s.lineOn n ∧ s.flag (tlBase n) Rg.TL_CFG.LOW ∧ (s.line n).lowAt + 1000000000 < s.nowNs then
    .next ((s.set (tlBase n) Rg.TL_CFG.STUCK 1).event 30 bWv (if n = 0 then Rg.TL_EVT.STUCK0 else Rg.TL_EVT.STUCK1))
  else .next s

/-- TRIG_LINE_HIGH: line `n` returns high, or has been high for 1 ms. -/
def execTrigLineHigh (n : Nat) (s : State) : Host.Outcome State Fault Refusal :=
  if !s.lineOn n ∨ s.flag (tlBase n) Rg.TL_CFG.DRIVING then .next s
  else if s.flag (tlBase n) Rg.TL_CFG.LOW then
    .next ((s.set (tlBase n) Rg.TL_CFG.LOW 0).setLine n { s.line n with highAt := s.nowNs })
  else .next (s.unstick n)

/-! ### Sizes -/

/-- CLASS. -/
def State.tgClass (s : State) (e : Nat) : Nat := s.tg e Rg.TG_CFG.CLASS
/-- The recorded channels in ascending order. -/
def State.tgChans (s : State) (e : Nat) : List Nat :=
  if s.tgClass e = 3 then [] else (List.range 64).filter (fun c => bitOf c (s.tg e Rg.TG_CH.MASK))
/-- The home of the engine's concentration. -/
def State.tgConc (s : State) (e : Nat) : Option Conc := s.conc (s.tg e Rg.TG_CFG.CONC)
/-- Data bytes of a frame. -/
def State.tgData (s : State) (e : Nat) : Nat :=
  match s.tgClass e with
  | 3 => match s.tgConc e with
    | some c => payloadOf c.members
    | none => 0
  | 2 => 16 * (s.tgChans e).length
  | _ => 4 * (s.tgChans e).length
/-- FRAME_BYTES (R336). -/
def State.frameBytes (s : State) (e : Nat) : Nat := 8 + 8 * ceilDiv (s.tgData e) 8
/-- CAP (R341). -/
def State.tgCap (s : State) (e : Nat) : Nat := (s.tg e Rg.TG_SLOT.SLOT_BYTES - 256) / s.frameBytes e

/-- Frames a second of a channel for a class, as a quotient. -/
def State.chanRate (s : State) (cls c : Nat) : Nat × Nat :=
  match cls with
  | 0 => (s.flHz c, s.flM c)
  | 1 => (s.flHz c, s.flR c * s.flFastDec c)
  | _ => (s.phFs c, 1)

/-- Frames a second of engine `e`, as a quotient. -/
def State.tgRate (s : State) (e : Nat) : Nat × Nat :=
  match s.tgClass e with
  | 3 => match s.tgConc e with
    | some c => (s.get (acBase c.home c.n) Rg.AC_CFG.RATE, 1)
    | none => (0, 1)
  | k => s.chanRate k ((s.tgChans e).headD 0)

/-! ### Arming (R345) -/

/-- The tile of a channel of a class. -/
def chanTile (cls c : Nat) : Nat := if cls < 2 then flPos c else phPos c

/-- Whether a link the engine needs is missing. -/
def State.tgNoLink (s : State) (e : Nat) : Bool :=
  let pos := tgPos e
  (s.tgChans e).any (fun c => (s.linkTo (chanTile (s.tgClass e) c) pos).isNone) ||
  (s.tgClass e == 3 && (match s.tgConc e with
    | some c => (s.linkTo (atPos c.home) pos).isNone
    | none => false)) ||
  (List.range 64).any (fun g => bitOf g (s.tg e Rg.TG_MSEL.GROUPS) && (s.linkTo (mgPos g) pos).isNone) ||
  (s.linkTo pos ((tilePositions .dma).getD (s.tg e Rg.TG_CFG.DMA) 99)).isNone

/-- Whether a source is not enabled, or the grids differ (R335). -/
def State.tgBadSource (s : State) (e : Nat) : Bool :=
  let l := s.tgChans e
  let a := l.headD 0
  match s.tgClass e with
  | 3 => match s.tgConc e with
    | some c => !(s.concDests c).contains (tgPos e)
    | none => true
  | 2 => l.any (fun c => !s.phEn c || s.phF0 c != s.phF0 a || s.phFs c != s.phFs a)
  | k => l.any (fun c => !s.flEn c || !s.flag (flBase c) Rg.FL_STAT.ALIGNED ||
      (s.chanRate k c).1 * (s.chanRate k a).2 != (s.chanRate k a).1 * (s.chanRate k c).2)

/-- A 32-bit value of a class in the format of LEVEL. -/
def tgNum (cls p : Nat) : Option Int := if cls < 2 then some (sgn 32 p) else f32Ord p

/-- Whether the engine's figures lie outside their ranges. -/
def State.tgRange (s : State) (e : Nat) : Bool :=
  let cls := s.tgClass e
  let n := (s.tgChans e).length
  let slot := s.tg e Rg.TG_SLOT.SLOT_BYTES
  let addr := s.tg e Rg.TG_AREA.ADDR
  let badMeas := (List.range 4).any (fun k =>
    let b := tgBase e + k * 0x10
    s.flag b Rg.TG_MEAS.EN && (match tgNum cls (s.get b Rg.TG_MRT.RT_HI), tgNum cls (s.get b Rg.TG_MRT.RT_LO) with
      | some hi, some lo => decide (hi ≤ lo)
      | _, _ => false))
  decide ((cls ≠ 3 ∧ (n = 0 ∨ 16 < n ∨ n ≤ s.tg e Rg.TG_LVL.LIDX)) ∨ s.tg e Rg.TG_CFG.FRAME_WAIT = 0 ∨
    (s.tgCap e < s.tg e Rg.TG_LEN.PRE ∧ 0 < s.tg e Rg.TG_LEN.POST) ∨ addr % 64 ≠ 0 ∨ slot % 64 ≠ 0 ∨
    slot < 256 + s.frameBytes e ∨ 2 ^ 30 < slot ∨ addr < ddrBase ∨
    ddrBase + s.ddrSize < addr + (s.tg e Rg.TG_AREA.NSLOT + 1) * slot) || badMeas

/-- Whether the tile's engines would exceed 1,000 MB/s. -/
def State.tgLoad (s : State) (e : Nat) : Bool :=
  let l := ((List.range 4).map (fun i => e / 4 * 4 + i)).filter (fun k => k == e || s.flag (tgBase k) Rg.TG_CTRL.ARM)
  let bps (k : Nat) : Rat := (s.frameBytes k * (s.tgRate k).1 : Nat) / (max (s.tgRate k).2 1 : Nat)
  decide (1000000000 < (l.map bps).sum)

/-- The first check an arm fails, as TG_STAT.REFUSE. -/
def State.tgRefusal (s : State) (e : Nat) : Nat :=
  if s.tgNoLink e then 1 else if s.tgBadSource e then 2 else if s.tgRange e then 3 else if s.tgLoad e then 4 else 0

/-- The next free slot in ring order from the last one used. -/
def State.nextSlot (s : State) (e : Nat) : Option Nat :=
  let n := s.tg e Rg.TG_AREA.NSLOT + 1
  let from_ := match (s.eng e).slot with
    | some k => k + 1
    | none => 0
  ((List.range n).map (fun i => (from_ + i) % n)).find? (fun k => !bitOf k (s.tg e Rg.TG_STAT.FULL))

/-- The address of the slot in use. -/
def State.tgSlot (s : State) (e : Nat) : Nat := s.tg e Rg.TG_AREA.ADDR + s.tg e Rg.TG_STAT.CUR * s.tg e Rg.TG_SLOT.SLOT_BYTES

/-- FILLING entered in a slot: lengths and measurements are taken, and MAGIC reads 0 while capture runs. -/
def State.fill (s : State) (e k : Nat) : State :=
  let b := tgBase e
  let ms := (List.range 4).map (fun i =>
    (s.word (b + i * 0x10) .TG_MEAS, s.get (b + i * 0x10) Rg.TG_MRT.RT_LO + s.get (b + i * 0x10) Rg.TG_MRT.RT_HI * 2 ^ 32))
  let x := s.eng e
  let y : Engine :=
    { Engine.off with pre := s.tg e Rg.TG_LEN.PRE, post := s.tg e Rg.TG_LEN.POST, meas := ms, missed := x.missed, extra := x.extra,
                      firstM := x.firstM, rearm := x.rearm, slot := some k, way := x.way, since := s.nowNs }
  let t := (s.setEng e y).sets b [(Rg.TG_STAT.STATE, 1), (Rg.TG_STAT.CUR, k)]
  (t.memWrite (t.tgSlot e) [0, 0, 0, 0]).1

/-- A free slot is filled, or one is waited for. -/
def State.fillOrWait (s : State) (e : Nat) : State :=
  match s.nextSlot e with
  | some k => s.fill e k
  | none => s.setTg e 5

/-- ARM set on engine `e`. -/
def State.arm (s : State) (e : Nat) : State :=
  let b := tgBase e
  if s.flag b Rg.TG_CTRL.ARM then s
  else
    let r := s.tgRefusal e
    if r ≠ 0 then (s.set b Rg.TG_STAT.REFUSE r).tgEvent e Rg.TG_EVT.REFUSED
    else ((s.sets b [(Rg.TG_CTRL.ARM, 1), (Rg.TG_STAT.REFUSE, 0)]).setEng e { s.eng e with rearm := 0, way := [] }).fillOrWait e

/-- A write of TG_CTRL. -/
def State.tgWrite (s : State) (m : Master) (e : Nat) (f : State → State) : State :=
  s.tileWrite m (tgPos e) (e % 4) (0x1088 + e % 4 * 0x100) f

/-- ENGINE_ARM: TG_CTRL written with ARM. -/
def execEngineArm (m : Master) (e : Nat) (s : State) : Host.Outcome State Fault Refusal := .next (s.tgWrite m e (fun t => t.arm e))

/-! ### Frames (R336) -/

/-- The data of a part that is missing. -/
def missingPart (cls : Nat) : List Byte := if cls < 2 then leBytes 4 0x80000000 else rep 4 (leBytes 4 0x7FC00000)

/-- The bytes of a frame in its place. -/
def State.capBytes (s : State) (e : Nat) (f : CapFrame) : List Byte :=
  let n := if s.tgClass e = 3 then 1 else (s.tgChans e).length
  let data := ((List.range n).map (fun k => lookupD (missingPart (s.tgClass e)) k f.parts)).flatten
  leBytes 8 (f.tk % 2 ^ 32 + f.flags * 2 ^ 32 + f.miss * 2 ^ 48) ++ padTo (s.frameBytes e - 8) data

/-- A frame written in place `i` of the slot in use. -/
def State.writePlace (s : State) (e i : Nat) (f : CapFrame) : State :=
  (s.memWrite (s.tgSlot e + 0x100 + i * s.frameBytes e) (s.capBytes e f)).1

/-- Frames written in consecutive places. -/
def writePlaces (e : Nat) : Nat → List CapFrame → State → State
  | _, [], s => s
  | i, f :: t, s => writePlaces e (i + 1) t (s.writePlace e i f)

/-- A value for part `k` of the frame of an instant; one whose frame has closed comes too late. -/
def State.addPart (s : State) (e tk k flags : Nat) (d : List Byte) : State :=
  let x := s.eng e
  if tk < x.since then s
  else
    let f := (x.frames.find? (fun f => f.tk == tk)).getD ⟨tk, 0, [], 0⟩
    let f := { f with flags := f.flags ||| flags, parts := assocSet k d f.parts }
    s.setEng e { x with frames := x.frames.filter (fun h => decide (h.tk < tk)) ++ [f] ++ x.frames.filter (fun h => decide (tk < h.tk)) }

/-- The frame flags of a sample item's word 0: UNSETTLED, FAULT, SAT, TFLAG, FADE. -/
def sampleFlags (w : Nat) : Nat := bits 6 1 w + bits 9 1 w * 2 + bits 8 1 w * 4 + bits 10 1 w * 8 + bits 7 1 w * 16
/-- The frame flags of an estimate's word 0: UNSETTLED, FAULT, SAT, TFLAG, GAP. -/
def estFlags (w : Nat) : Nat := bits 9 1 w + bits 10 1 w * 2 + bits 11 1 w * 4 + bits 12 1 w * 8 + bits 15 1 w * 32

/-- An item taken by engine `e` while it records. -/
def State.tgTake (s : State) (e : Nat) (q : QPkt) : State :=
  let ty := pktType q.lw
  let w := q.data.headD 0
  let c := bits 0 6 w
  let cls := s.tgClass e
  let k := (s.tgChans e).idxOf c
  let run := s.tgState e == 1 || s.tgState e == 2
  if ty = 0x42 then (if bitOf 10 w then s.sendTrig e ⟨8, q.data.getD 1 0, 0, false⟩ else s)
  else if ty = 0x55 then
    (if bitOf 7 w ∧ bitOf c (s.tg e Rg.TG_MSEL.GROUPS) then s.sendTrig e ⟨9, q.data.getD 1 0, 0, false⟩ else s)
  else if !run ∨ !(s.tgChans e).contains c then s
  else if (ty = 0x40 ∧ cls = 0) ∨ (ty = 0x41 ∧ cls = 1) then
    (s.itemSamples c (s.chanRate cls c).2 false q).foldl (fun t x => t.addPart e x.ts k (sampleFlags w) (leBytes 4 (pat 32 x.val))) s
  else if ty = 0x50 ∧ cls = 2 then s.addPart e (q.data.getD 1 0) k (estFlags w) (leBytes 8 (q.data.getD 2 0) ++ leBytes 8 (q.data.getD 3 0))
  else s

/-- A concentration's item taken by a TRIG tile: its engines copy the payload and the slot is released. -/
def State.tgBucket (s : State) (inst : Nat) (q : QPkt) : State :=
  let w := q.data.headD 0
  let n := bits 8 4 w
  match s.conc n with
  | none => s
  | some c =>
    let a := s.slotOf c (bits 0 8 w)
    let r := s.memRead a (bits 12 17 w)
    let t := match r.2 with
      | none => r.1.poisonDrop ((tilePositions .trig).getD inst 99) a
      | some l => (List.range 4).foldl (fun u i =>
          let e := inst * 4 + i
          if (u.tgState e = 1 ∨ u.tgState e = 2) ∧ u.tgClass e = 3 ∧ u.tg e Rg.TG_CFG.CONC = n then
            u.addPart e (q.data.getD 1 0) 0 (bits 31 1 w * 8 + bits 29 1 w * 64) l
          else u) r.1
    t.slotRelease n (bits 0 8 w)

/-- The items that have reached a TRIG tile taken by its engines. -/
def State.tgAbsorb (s : State) (inst : Nat) : State :=
  let r := s.collect ((tilePositions .trig).getD inst 99)
  r.2.foldl (fun t i => if pktType i.q.lw = 0x54 then t.tgBucket inst i.q
    else (List.range 4).foldl (fun u k => u.tgTake (inst * 4 + k) i.q) t) r.1

/-! ### Triggers (R339–R341) -/

/-- A missed trigger counted; the first instant is kept for the next header. -/
def State.tgMissed (s : State) (e at_ : Nat) : State :=
  let x := s.eng e
  let t := s.setEng e { x with missed := x.missed + 1, firstM := if x.missed = 0 then at_ else x.firstM }
  let t := if x.missed = 0 then t.set (tgBase e) Rg.TG_MISS_TS.AT at_ else t
  (t.count (tgBase e) Rg.TG_MISS.MISSED 1).tgEvent e Rg.TG_EVT.MISSED

/-- A stamp of TDC channels 1–4 reaches the engines of a TRIG tile (R337). One of the scale before a step is missed (R346). -/
def State.tdcTrig (s : State) (pos : Nat) (x : Stamp) : State :=
  match (tilePositions .trig).idxOf? pos with
  | some i =>
    if 1 ≤ x.chan ∧ x.chan ≤ 4 then (List.range 4).foldl (fun t k =>
      let e := 4 * i + k
      if x.gen = t.get bTime Rg.TIME_STAT.GEN then t.sendTrig e ⟨x.chan - 1, x.at_, x.sub, false⟩
      else if t.tgState e ≠ 0 ∧ bitOf (x.chan - 1) (t.tg e Rg.TG_TSRC.SRC) then t.tgMissed e x.at_
      else t) s else s
  | none => s

/-- Flags of a record set. -/
def Engine.flag (x : Engine) (n : Nat) : Engine := { x with flags := x.flags ||| n }

/-- What POST allows behind `a` pre-trigger frames: CAP − A at most. -/
def State.tgRoom (s : State) (e a : Nat) : Nat := min (s.eng e).post (s.tgCap e - a)

/-- The record's frames once its trigger frame is known: `rest` are held frames from the trigger instant on, which become
post-trigger frames. -/
def State.tgFix (s : State) (e : Nat) (keep rest : List CapFrame) (late : Bool) : State :=
  let x := s.eng e
  let a := keep.length
  let full := x.pres.length == x.pre
  let room := s.tgRoom e a
  let posts := rest.take room
  let y := { x with pres := keep, posts := posts, fixed := true, before := (keep.getLast?).map (fun f : CapFrame => f.tk),
                    start := if rest.isEmpty && full then x.place else 0 }
  let y := y.flag ((if room < x.post then 1 else 0) ||| (if a < x.pre then 2 else 0) ||| (if late then 64 else 0))
  let t := s.setEng e y
  let t := if rest.isEmpty then t else writePlaces e a posts (writePlaces e 0 keep t)
  let t := if room < x.post then t.tgEvent e Rg.TG_EVT.TRUNC else t
  let t := if a < x.pre then t.tgEvent e Rg.TG_EVT.SHORT_PRE else t
  t.setTg e (if posts.length < room then 2 else 3)

/-- Whether a held frame is the trigger frame already; if so the record is fixed. A header-only record needs none. -/
def State.tgPlace (s : State) (e : Nat) : State :=
  let x := s.eng e
  match x.trig with
  | none => s
  | some g =>
    if x.post = 0 then (s.setEng e ({ x with pres := [], posts := [], fixed := true }.flag 4)).setTg e 3
    else
      let keep := x.pres.filter (fun f => decide (f.tk < g.at_))
      let rest := x.pres.filter (fun f => decide (g.at_ ≤ f.tk))
      if rest.isEmpty then s else s.tgFix e keep rest (keep.isEmpty && rest.any (fun f => decide (g.at_ < f.tk)) &&
        decide (∀ f ∈ rest.head?, g.at_ < f.tk))

/-- What an engine does outside when it triggers: lines are pulled and alarm pins pulse. -/
def State.tgAct (s : State) (e : Nat) : State :=
  let t := (List.range 2).foldl (fun u m => if bitOf m (u.tg e Rg.TG_CFG.LINE_OUT) then u.lineDrive m else u) s
  t.pinPulse e

/-- A trigger reaches engine `e`. -/
def State.trigger (s : State) (e : Nat) (g : Trig) : State :=
  let x := s.eng e
  let st := s.tgState e
  if st = 0 ∨ !bitOf g.src (s.tg e Rg.TG_TSRC.SRC) ∨ (g.own ∧ s.flag (tgBase e) Rg.TG_CFG.IGN_OWN) then s
  else if st ≥ 3 ∨ g.at_ < x.rearm then s.tgMissed e g.at_
  else if x.fixed then
    (s.setEng e { x with extra := x.extra + 1 }).count (tgBase e) Rg.TG_MISS.EXTRA_TRIG 1
  else
    let src := x.tsrc ||| 2 ^ g.src
    match x.trig with
    | none =>
      let t := ((s.setEng e { x with trig := some g, tsrc := src }).setTg e 2).set (tgBase e) Rg.TG_LAST.AT g.at_
      (t.tgAct e).tgPlace e
    | some h =>
      if g.at_ < h.at_ then ((s.setEng e { x with trig := some g, tsrc := src }).set (tgBase e) Rg.TG_LAST.AT g.at_).tgPlace e
      else s.setEng e { x with tsrc := src }

/-- SWTRIG: TG_CTRL written with SWTRIG, at the time-bus replica's instant. -/
def execSwtrig (m : Master) (e : Nat) (s : State) : Host.Outcome State Fault Refusal :=
  .next (s.tgWrite m e (fun t => t.trigger e ⟨7, t.nowNs, 0, false⟩))

/-- TRIGGER_RECEIVE: the oldest trigger on its way reaches engine `e`. -/
def execTriggerReceive (e : Nat) (s : State) : Host.Outcome State Fault Refusal :=
  if 8 ≤ e then .next s
  else
    let t := s.tgAbsorb (e / 4)
    match (t.eng e).way with
    | [] => .next t
    | g :: w => .next ((t.setEng e { t.eng e with way := w }).trigger e g)

/-! ### Level trigger (R337) -/

/-- The 32-bit value of a frame: of recorded channel `k`, of quantity `q` for class 2; of class 3 at a payload offset. -/
def capValue (cls k q ofs : Nat) (f : CapFrame) : Option Int :=
  match lookupD [] (if cls = 3 then 0 else k) f.parts with
  | [] => none
  | d => if cls = 3 then ((beAt d ofs 4).filter (· != 0x7FC00000)).bind f32Ord
         else tgNum cls (leVal (if cls = 2 then (d.drop (4 * q)).take 4 else d))

/-- The level trigger on a frame that closes. -/
def State.level (s : State) (e : Nat) (f : CapFrame) : State :=
  let x := s.eng e
  let cls := s.tgClass e
  match capValue cls (s.tg e Rg.TG_LVL.LIDX) (s.tg e Rg.TG_LVL.LQTY) (s.tg e Rg.TG_LVL.LOFS) f,
      tgNum cls (s.tg e Rg.TG_LVL.LEVEL), tgNum cls (s.tg e Rg.TG_LHYS.HYST) with
  | some v, some lv, some hy =>
    let down := s.flag (tgBase e) Rg.TG_LVL.DIR
    let h : Int := hy.natAbs
    let beyond := if down then decide (lv + h < v) else decide (v < lv - h)
    let hit := if down then decide (v ≤ lv) else decide (lv ≤ v)
    let t := s.setEng e { x with armed := (x.armed && !hit) || beyond, lastV := some (f.tk, v) }
    if !(x.armed && hit) then t
    else match x.lastV with
      | none => t
      | some (t0, v0) =>
        let d : Int := ((f.tk - t0 : Nat) : Int) * (if down then v0 - lv else lv - v0)
        t.trigger e ⟨6, t0 + (rnd 54 d (v - v0).natAbs).toNat, 0, false⟩
  | _, _, _ => s

/-! ### Closing frames -/

/-- A pre-trigger frame in the next of its PRE places; a header-only record keeps none. -/
def State.prePlace (s : State) (e : Nat) (f : CapFrame) : State :=
  let x := s.eng e
  if x.pre = 0 ∨ x.post = 0 then s
  else
    let l := if x.pre ≤ x.pres.length then x.pres.tail else x.pres
    (s.setEng e { x with pres := l ++ [f], place := (x.place + 1) % x.pre }).writePlace e x.place f

/-- A frame taken into the record. -/
def State.putFrame (s : State) (e : Nat) (f : CapFrame) : State :=
  let x := s.eng e
  if x.fixed then
    let a := x.pres.length
    let t := (s.setEng e { x with posts := x.posts ++ [f] }).writePlace e (a + x.posts.length) f
    if s.tgRoom e a ≤ x.posts.length + 1 then t.setTg e 3 else t
  else match x.trig with
    | some g => if g.at_ ≤ f.tk then
        let t := s.tgFix e x.pres [] false
        if t.tgState e = 3 then t
        else
          let y := t.eng e
          let u := (t.setEng e { y with posts := [f] }).writePlace e y.pres.length f
          if t.tgRoom e y.pres.length ≤ 1 then u.setTg e 3 else u
      else s.prePlace e f
    | none => s.prePlace e f

/-- MISSING of a frame as it closes: a bit for each recorded channel without a value. -/
def State.missingOf (s : State) (e : Nat) (f : CapFrame) : Nat :=
  ((List.range (s.tgChans e).length).map (fun k => if f.parts.any (fun p => p.1 == k) then 0 else 2 ^ k)).sum

/-- The oldest open frame closes. -/
def State.closeFrame (s : State) (e : Nat) (f : CapFrame) : State :=
  let x := s.eng e
  let f := { f with miss := s.missingOf e f }
  let t := s.setEng e { x with frames := x.frames.filter (fun h => h.tk != f.tk), since := f.tk + 1 }
  let t := t.level e f
  if t.tgState e = 1 ∨ t.tgState e = 2 then t.putFrame e f else t

/-- CAPTURE_FRAME_CLOSE: the oldest open frame has all its values, or FRAME_WAIT is over. `behind` says that frame writes have
fallen 64 KiB behind: the record ends at the last frame written (R341). -/
def execCaptureFrameClose (e : Nat) (behind : Bool) (s : State) : Host.Outcome State Fault Refusal :=
  if 8 ≤ e then .next s
  else
    let t := s.tgAbsorb (e / 4)
    if t.tgState e ≠ 1 ∧ t.tgState e ≠ 2 then .next t
    else if behind ∧ (t.eng e).fixed then
      .next (((t.setEng e ((t.eng e).flag 16)).setTg e 3).tgEvent e Rg.TG_EVT.OVERRUN)
    else match (t.eng e).frames with
      | [] => .next t
      | f :: _ =>
        let n := if t.tgClass e = 3 then 1 else (t.tgChans e).length
        if n ≤ f.parts.length ∨ f.tk + t.tg e Rg.TG_CFG.FRAME_WAIT * 100000 ≤ t.nowNs then .next (t.closeFrame e f) else .next t

/-! ### Measurements and header (R343, R344) -/

/-- The place of frame `i` of the record. -/
def Engine.placeOf (x : Engine) (i : Nat) : Nat :=
  let a := x.pres.length
  if i < a then (x.start + i) % a else i

/-- The instant at which the line from one point to the next passes a level. -/
def crossAt (lv : Int) (a b : Nat × Int) : Rat := (a.1 : Rat) + ((b.1 : Rat) - a.1) * (lv - a.2 : Int) / (b.2 - a.2 : Int)

/-- The instants of the rising crossings of a level, each after a value below the level by H = `h`/8 (8 times the values are
compared). -/
def crossings (ml h : Int) : Bool → Option (Nat × Int) → List (Nat × Int) → List Rat
  | _, _, [] => []
  | ready, prev, p :: t =>
    match ready && decide (ml ≤ p.2), prev with
    | true, some a => crossAt ml a p :: crossings ml h false (some p) t
    | _, _ => crossings ml h (ready || decide (8 * p.2 < 8 * ml - h)) (some p) t

/-- The time of the first completed rise: from the first rising crossing of `lo` after the trigger instant to the next crossing of
`hi`; a fall below `lo` before that starts it over. -/
def riseTime (lo hi : Int) (trig : Nat) : Option Rat → Option (Nat × Int) → List (Nat × Int) → Option Rat
  | _, _, [] => none
  | rise, prev, p :: l =>
    let begun := match rise, prev with
      | some r, _ => if p.2 < lo then none else some r
      | none, some a => if a.2 < lo ∧ lo ≤ p.2 ∧ (trig : Rat) < crossAt lo a p then some (crossAt lo a p) else none
      | none, none => none
    match begun, prev with
    | some r, some a => if hi ≤ p.2 then some (crossAt hi a p - r) else riseTime lo hi trig begun (some p) l
    | _, _ => riseTime lo hi trig begun (some p) l

/-- The place of the first of the largest magnitudes, and that magnitude. -/
def peakOf : List (Nat × Int) → Nat → Int → Nat × Int
  | [], best, mx => (best, mx)
  | (i, v) :: t, best, mx => if mx < v.natAbs then peakOf t i v.natAbs else peakOf t best mx

/-- A value in the unit of a class as a number: classes 0 and 1 count ones, class 2 counts 2^−149. -/
def unitOf (cls : Nat) (q : Rat) : Rat := if cls < 2 then q else q / 2 ^ 149

/-- The 28 bytes of a measurement block from its settings (R343). A limit that is no number is crossed by no value. -/
def State.measBlock (s : State) (e : Nat) (p : Nat × Nat) : List Byte :=
  let x := s.eng e
  let cls := s.tgClass e
  let w := p.1
  if !bitOf 0 w ∨ cls = 3 then leBytes 1 0xFF ++ leBytes 3 0 ++ leBytes 24 0
  else
    let vals := (x.pres ++ x.posts).mapIdx (fun i f => (capValue cls (bits 1 4 w) (bits 5 2 w) 0 f).map (fun v => (x.placeOf i, f.tk, v)))
    let vs := vals.filterMap id
    let l := vs.map (fun v => v.2)
    let pk := peakOf (vs.map (fun v => (v.1, v.2.2))) 0 (-1)
    let lim := (tgNum cls (w / 2 ^ 32), tgNum cls (p.2 % 2 ^ 32), tgNum cls (p.2 / 2 ^ 32))
    let cs := match lim with
      | (some ml, some lo, some hi) => crossings ml (hi - lo) false none l
      | _ => []
    let per := match cs, cs.getLast? with
      | a :: _ :: _, some b => some ((b - a) / (cs.length - 1 : Nat))
      | _, _ => none
    let rise := match lim with
      | (_, some lo, some hi) => riseTime lo hi ((x.trig.map (·.at_)).getD 0) none none l
      | _ => none
    let val (place : Nat) (q : Option Rat) : List Byte := leBytes 4 (q.elim 0 (f32Of place))
    let rms : Option Rat := if l = [] then none else some (unitOf cls (ratRoot ((((l.map (fun v => v.2 * v.2)).sum : Int) : Rat) / l.length)))
    leBytes 1 (bits 1 4 w) ++ leBytes 1 (bits 5 2 w) ++ leBytes 2 (b2n l.isEmpty + b2n per.isNone * 2 + b2n rise.isNone * 4) ++
    val 98 rms ++ val 99 (if l = [] then none else some (unitOf cls pk.2)) ++ leBytes 4 pk.1 ++
    val 100 per ++ val 101 (per.map (fun q => 1000000000 / q)) ++ val 102 rise

/-- TFRAC: the trigger instant behind the preceding frame, in 2^−16 of a period. -/
def State.tfrac (s : State) (e : Nat) : Nat :=
  let x := s.eng e
  let r := s.tgRate e
  match x.trig, x.before with
  | some g, some t0 => (rnd 55 (((g.at_ - t0) * 65536 * r.1 : Nat) : Int) (max (1000000000 * r.2) 1)).toNat % 2 ^ 16
  | _, _ => 0

/-- The first 240 bytes of a record's header; TFLAG also in HOLDOVER (R347). -/
def State.recHeader (s : State) (e : Nat) : List Byte :=
  let x := s.eng e
  let fs := x.pres ++ x.posts
  let r := s.tgRate e
  let chans := s.tgChans e
  let any (p : CapFrame → Bool) : Bool := fs.any p
  let flags := x.flags ||| (if any (fun f => bitOf 3 f.flags) || s.mode == .holdover then 128 else 0) |||
    (if any (fun f => f.miss != 0 || bitOf 5 f.flags) then 256 else 0)
  let g : Trig := x.trig.getD ⟨0, 0, 0, false⟩
  leBytes 4 0x52435841 ++ leBytes 2 0x0100 ++ leBytes 2 0x0100 ++ leBytes 1 e ++ leBytes 1 (s.tgClass e) ++ leBytes 1 chans.length ++
  leBytes 1 0 ++ leBytes 4 (s.frameBytes e) ++ leBytes 4 (s.tg e Rg.TG_STAT.SEQ) ++ leBytes 2 flags ++ leBytes 2 0 ++
  leBytes 4 x.missed ++ leBytes 4 x.extra ++ leBytes 8 (if x.missed = 0 then 0 else x.firstM) ++ leBytes 8 g.at_ ++
  leBytes 1 g.sub ++ leBytes 1 g.src ++ leBytes 2 (s.tfrac e) ++ leBytes 4 x.tsrc ++ leBytes 8 ((fs.head?).elim 0 (·.tk)) ++
  leBytes 8 (rnd 56 ((1000000000 * r.2 * 2 ^ 32 : Nat) : Int) (max r.1 1)).toNat ++ leBytes 4 x.pres.length ++ leBytes 4 x.start ++
  leBytes 4 x.posts.length ++ leBytes 4 x.post ++ (chans.map (fun c => BitVec.ofNat 8 c) ++ List.replicate 16 (0xFF : Byte)).take 16 ++
  leBytes 8 s.now ++ leBytes 16 0 ++ (x.meas.map (s.measBlock e)).flatten

/-- The record committed with further flags: header written, slot FULL; REARM is entered (R340). -/
def State.commitRec (s : State) (e flags : Nat) : State :=
  let b := tgBase e
  let s := s.setEng e ((s.eng e).flag flags)
  let h := s.recHeader e
  let t := (s.memWrite (s.tgSlot e) (padTo 256 (h ++ leBytes 4 (crc32c h)))).1
  let t := t.sets b [(Rg.TG_STAT.FULL, t.tg e Rg.TG_STAT.FULL ||| 2 ^ t.tg e Rg.TG_STAT.CUR), (Rg.TG_STAT.SEQ, t.tg e Rg.TG_STAT.SEQ + 1),
    (Rg.TG_STAT.STATE, 4), (Rg.TG_MISS_TS.AT, 0)]
  let t := t.setEng e { t.eng e with missed := 0, extra := 0, firstM := 0, rearm := t.nowNs + 2000, frames := [], pres := [], posts := [] }
  let t := if flags = 8 then t.tgEvent e Rg.TG_EVT.ABORTED else t
  t.tgEvent e Rg.TG_EVT.RECORD

/-- CAPTURE_COMMIT: the record's last frame is written. -/
def execCaptureCommit (e : Nat) (s : State) : Host.Outcome State Fault Refusal :=
  if e < 8 ∧ s.tgState e = 3 then .next (s.commitRec e 0) else .next s

/-- The engine IDLE with ARM at 0. -/
def State.tgIdle (s : State) (e : Nat) : State :=
  let x := s.eng e
  (s.sets (tgBase e) [(Rg.TG_CTRL.ARM, 0), (Rg.TG_STAT.STATE, 0)]).setEng e { x with frames := [], pres := [], posts := [], trig := none, fixed := false, way := [] }

/-- CAPTURE_REARM: 2 µs in REARM are over. -/
def execCaptureRearm (e : Nat) (s : State) : Host.Outcome State Fault Refusal :=
  if e < 8 ∧ s.tgState e = 4 ∧ (s.eng e).rearm ≤ s.nowNs then
    .next (if s.flag (tgBase e) Rg.TG_CFG.AUTO then s.fillOrWait e else s.tgIdle e)
  else .next s

/-- ABORT of engine `e`. -/
def State.tgAbort (s : State) (e : Nat) : State :=
  if s.tgState e = 0 then s
  else if s.tgState e = 2 then (s.commitRec e 8).tgIdle e
  else s.tgIdle e

/-- ENGINE_ABORT: TG_CTRL written with ABORT. -/
def execEngineAbort (m : Master) (e : Nat) (s : State) : Host.Outcome State Fault Refusal := .next (s.tgWrite m e (fun t => t.tgAbort e))

/-- Slots released. -/
def State.tgRelease (s : State) (e rel : Nat) : State :=
  let full := s.tg e Rg.TG_STAT.FULL
  let t := s.set (tgBase e) Rg.TG_STAT.FULL (full - (full &&& rel % 2 ^ 16))
  if t.tgState e = 5 then t.fillOrWait e else t

/-- CAPTURE_SLOT_RELEASE: TG_CTRL written with REL. -/
def execCaptureSlotRelease (m : Master) (e rel : Nat) (s : State) : Host.Outcome State Fault Refusal :=
  .next (s.tgWrite m e (fun t => t.tgRelease e rel))

/-! ### Reactions -/

/-- A time step (R346): a record in POST commits with TSTEP, FILLING starts over, triggers under way are missed. -/
def State.captureStepped (s : State) : State :=
  (List.range 8).foldl (fun t e =>
    let st := t.tgState e
    if st = 0 then t
    else
      let t := if st = 2 then t.commitRec e 32 else if st = 1 then t.fill e (t.tg e Rg.TG_STAT.CUR) else t
      let t := (t.eng e).way.foldl (fun u g => u.tgMissed e g.at_) t
      t.setEng e { t.eng e with way := [], rearm := max (if st = 1 then t.nowNs else 0) (t.eng e).rearm }) s

/-- A wrap to a label other than the old era + 1: what engines and lines hold is named anew (R146). -/
def State.captureRelabel (s : State) (off : Int) : State :=
  let mv (n : Nat) : Nat := ((n : Int) + off).toNat
  let fr (l : List CapFrame) : List CapFrame := l.map (fun f => { f with tk := mv f.tk })
  { s with
    engines := s.engines.map (fun x => { x with
      frames := fr x.frames, pres := fr x.pres, posts := fr x.posts, trig := x.trig.map (fun g => { g with at_ := mv g.at_ }),
      before := x.before.map mv, lastV := x.lastV.map (fun p => (mv p.1, p.2)), rearm := mv x.rearm, since := mv x.since,
      way := x.way.map (fun g => { g with at_ := mv g.at_ }) }),
    lines := s.lines.map (fun x => { x with pulseEnd := mv x.pulseEnd, lowAt := mv x.lowAt, highAt := mv x.highAt }) }

/-- The commit of a change to DORMANT or MAINTENANCE (R347). -/
def State.captureOff (s : State) : State :=
  let t := (List.range 8).foldl (fun u e => u.tgAbort e) s
  (List.range 2).foldl (fun u n => u.set (tlBase n) Rg.TL_CFG.DRIVING 0) t

end Sys2Proof.Machine
end

