-- ==== Sys2Proof/Machine/Health.lean ====
section
/-! DEFINITION. Ageing and margins, supplies, temperatures, partner identities and field-output read-back
(R545–R553, R570). -/

namespace Sys2Proof.Machine

/-- The base of HL_ISLi. -/
def hlIsl (i : Nat) : Nat := bHl + i * 0x20

/-- One island's measurement taken into its registers (R545, R548). -/
def State.measureIsl (s : State) (m : IslMeas) : State :=
  if !s.on (domOf m.isl) ∨ s.get (islBase m.isl) Rg.ISL_STAT.CLK_LOCK = 0 then s
  else
    let b := hlIsl m.isl
    let n := lookupD 0 m.isl s.health.passes + 1
    let mg := if sgn 16 m.m0 ≤ sgn 16 m.m1 then m.m0 else m.m1
    let t := s.sets b [(Rg.HL_ISL_RO.RO0, m.ros.getD 0 0), (Rg.HL_ISL_RO.RO1, m.ros.getD 1 0),
      (Rg.HL_ISL_RO.RO2, m.ros.getD 2 0), (Rg.HL_ISL_RO.RO3, m.ros.getD 3 0), (Rg.HL_ISL.MARGIN, mg),
      (Rg.HL_ISL.YEARS, if n < 6 then 0 else min m.years 65535), (Rg.HL_ISL_AT.AT, s.now)]
    { t with health := { t.health with passes := assocSet m.isl n t.health.passes } }

/-- The islands of a fabric domain that hold an instanced tile (R546). -/
def State.planIsles (s : State) (d : Dom) : List Nat :=
  (List.range 44).filter (fun i => domOf i == d && allPositions.any (fun p => islandOf p == i && s.instanced p))

/-- An island's derated margin in 1/16 ps: margin − TDER × max(0, 105 °C − temperature) (R546). -/
def State.derated (s : State) (i : Nat) : Int :=
  let warm : Int := max 0 (420 - s.getS (hlIsl i) Rg.HL_ISL.TEMP)
  s.getS (hlIsl i) Rg.HL_ISL.MARGIN * 16 - (s.get bHl Rg.HL_CFG.TDER : Int) * warm

/-- The island of least derated margin, the lowest-numbered of several. -/
def State.worst (s : State) : List Nat → Option Nat
  | [] => none
  | i :: t => match s.worst t with
    | none => some i
    | some j => if s.derated i ≤ s.derated j then some i else some j

/-- A voltage limit as it acts (HL_VLIM): outside 700–850 mV the nearer limit. -/
def vlim (v : Nat) : Nat := min (max v 700) 850

/-- HL_VLIM, HL_FMIN, HL_STAT fields of FA or FB. -/
def vmaxF (d : Dom) : Fld := if d = .fa then Rg.HL_VLIM.VMAX_FA else Rg.HL_VLIM.VMAX_FB
/-- The lower voltage limit's field. -/
def vminF (d : Dom) : Fld := if d = .fa then Rg.HL_VLIM.VMIN_FA else Rg.HL_VLIM.VMIN_FB
/-- The lower clock limit's field. -/
def fminF (d : Dom) : Fld := if d = .fa then Rg.HL_FMIN.FA else Rg.HL_FMIN.FB
/-- The planned voltage's field. -/
def planF (d : Dom) : Fld := if d = .fa then Rg.HL_STAT.V_FA else Rg.HL_STAT.V_FB
/-- The frozen bit's field. -/
def frozenF (d : Dom) : Fld := if d = .fa then Rg.HL_STAT.FROZEN_FA else Rg.HL_STAT.FROZEN_FB

/-- The planned voltage of a fabric domain; before the first plan the power-up voltage of 750 mV (R568). -/
def State.volt (s : State) (d : Dom) : Nat := if s.get bHl (planF d) = 0 then 750 else s.get bHl (planF d)

/-- The pair component of FA or FB. -/
def pairGet {α : Type} (d : Dom) (p : α × α) : α := if d = .fa then p.1 else p.2
/-- The pair component of FA or FB replaced. -/
def pairSet {α : Type} (d : Dom) (p : α × α) (v : α) : α × α := if d = .fa then (v, p.2) else (p.1, v)

/-- A plan step recorded: MARGIN_REPLAN by MP and HL_EVT.REPLAN (R546, R578). -/
def State.replanned (s : State) (d : Dom) (isl old new : Nat) : State :=
  (s.event 18 bHl Rg.HL_EVT.REPLAN).recordBy 1 0x074 1 18
    (leBytes 1 d.code ++ leBytes 1 isl ++ leBytes 2 old ++ leBytes 2 new)

/-- A voltage step: VOUT_COMMAND is sent and its check awaited (R547). -/
def State.setVolt (s : State) (d : Dom) (v : Nat) : State :=
  let t := (s.set bHl (planF d) v).replanned d 0xFF (s.volt d) v
  { t with health := { t.health with pmbWait := pairSet d t.health.pmbWait true,
                                     planV := pairSet d t.health.planV v, pmbAt := pairSet d t.health.pmbAt t.nowNs } }

/-- A clock step of an island under R37. -/
def State.setFreq (s : State) (d : Dom) (i c : Nat) : State :=
  let old := s.get (islBase i) Rg.ISL_CLK.FREQ_CODE
  let t := (s.relock i c).replanned d i old c
  { t with health := { t.health with planF := assocSet i c t.health.planF } }

/-- The plan of one fabric domain after a pass: at most one step (R546). -/
def State.replan (s : State) (d : Dom) : State :=
  if s.flag bHl (frozenF d) then s else
  match s.worst (s.planIsles d) with
  | none => s
  | some w =>
    let m := s.derated w
    let tgt : Int := s.get bHl Rg.HL_CFG.TGT * 16
    let hyst : Int := s.get bHl Rg.HL_CFG.HYST * 16
    if m < tgt then
      let s := { s with health := { s.health with spare := pairSet d s.health.spare 0 } }
      if s.volt d + 5 ≤ vlim (s.get bHl (vmaxF d)) then s.setVolt d (s.volt d + 5)
      else
        let c := s.get (islBase w) Rg.ISL_CLK.FREQ_CODE
        if s.get bHl (fminF d) < c then s.setFreq d w (c - 1)
        else s.recordBy 1 0x075 3 18 (leBytes 1 w ++ leBytes 2 (s.get (hlIsl w) Rg.HL_ISL.MARGIN))
    else if tgt + hyst ≤ m then
      let n := pairGet d s.health.spare + 1
      let s := { s with health := { s.health with spare := pairSet d s.health.spare n } }
      if n < 6 then s else
      match (s.planIsles d).find? (fun i =>
          decide (s.get (islBase i) Rg.ISL_CLK.FREQ_CODE < lookupD 0 i s.health.imgFreq)) with
      | some i => s.setFreq d i (s.get (islBase i) Rg.ISL_CLK.FREQ_CODE + 1)
      | none => if vlim (s.get bHl (vminF d)) + 5 ≤ s.volt d then s.setVolt d (s.volt d - 5) else s
    else { s with health := { s.health with spare := pairSet d s.health.spare 0 } }

/-- HEALTH_PASS: the islands are measured, the pass counted, and FA and FB re-planned unless deferred (R545, R546). A pass runs every
600 s from the end of BOOTSTRAP. -/
def execHealthPass (meas : List IslMeas) (s : State) : Host.Outcome State Fault Refusal :=
  if !s.on .mgmt ∨ s.mode = .bootstrap ∨ s.nowNs < s.health.passAt then .next s else
  let s := { s with health := { s.health with passAt := s.health.passAt + 600000000000 } }
  let t := meas.foldl State.measureIsl s
  let t := (t.count bHl Rg.HL_STAT.PASSES 1).event 18 bHl Rg.HL_EVT.PASS
  if s.flag bHl Rg.HL_CFG.AUTO ∧ !s.flag bMpc Rg.MODE_STAT.CHANGING ∧ !s.flag bMpc Rg.MODE_STAT.MAINT_DIRTY then
    .next ((t.replan .fa).replan .fb)
  else .next t

/-- Whether a read voltage lies within ±10 mV of a target (R547). -/
def near10 (v t : Nat) : Bool := decide (v ≤ t + 10 ∧ t ≤ v + 10)

/-- PMBUS_VERIFY: READ_VOUT and the ADC checked 1 ms after VOUT_COMMAND; a third failure freezes the domain (R547). The
PMBus code of VOUT_COMMAND is 0x21. -/
def execPmbusVerify (d : Dom) (vout adc : Nat) (s : State) : Host.Outcome State Fault Refusal :=
  if (d = .fa ∨ d = .fb) ∧ pairGet d s.health.pmbWait = true ∧ pairGet d s.health.pmbAt + 1000000 ≤ s.nowNs then
    if near10 vout (s.volt d) ∧ near10 adc (s.volt d) then
      .next { s with health := { s.health with pmbWait := pairSet d s.health.pmbWait false,
                                               pmbFails := pairSet d s.health.pmbFails 0 } }
    else if pairGet d s.health.pmbFails < 2 then
      let n := pairGet d s.health.pmbFails + 1
      .next { s with health := { s.health with pmbFails := pairSet d s.health.pmbFails n } }
    else
      let t := ((s.setB bHl (frozenF d) true).event 18 bHl Rg.HL_EVT.PMBUS).recordBy 1 0x076 3 18
        (leBytes 1 d.code ++ [0x21])
      .next { t with health := { t.health with pmbWait := pairSet d t.health.pmbWait false,
                                               pmbFails := pairSet d t.health.pmbFails 0 } }
  else .next s

/-- Whether a rail channel is checked: one behind a switch only while the switch is on (R549). -/
def State.railChecked (s : State) : Nat → Bool
  | 8 => s.on .sec | 9 => s.on .mgmt | 10 => s.on .io | 11 => s.on .fa | 12 => s.on .fb | _ => true

/-- One sample of a rail channel (R549). -/
def State.railOne (s : State) (n mv : Nat) : State :=
  let b := bHl + n * 8
  let s := s.set b Rg.HL_RAIL.MV mv
  if !s.railChecked n then s else
  let bad := decide (mv < s.get b Rg.HL_RAIL.LO ∨ s.get b Rg.HL_RAIL.HI < mv)
  let o := if bad then s.health.railOut.getD n 0 + 1 else 0
  let i := if bad then 0 else s.health.railIn.getD n 0 + 1
  let s := { s with health := { s.health with railOut := listSet s.health.railOut n (min o 3),
                                              railIn := listSet s.health.railIn n (min i 3) } }
  let cur := s.get bHl Rg.HL_STAT.RAIL_BAD
  let s := if n = 7 then s.setB bMpc Rg.PWR_STAT.VBAT_OK (!bad) else s
  if o = 3 ∧ !bitOf n cur then
    ((s.set bHl Rg.HL_STAT.RAIL_BAD (cur + 2 ^ n)).event 18 bHl Rg.HL_EVT.RAIL).record 0x071 3 18
      (leBytes 1 n ++ leBytes 2 mv)
  else if i = 3 ∧ bitOf n cur then s.set bHl Rg.HL_STAT.RAIL_BAD (cur - 2 ^ n)
  else s

/-- Samples of the channels from `n` on. -/
def State.rails (s : State) (n : Nat) : List Nat → State
  | [] => s
  | v :: t => if n < 16 then (s.railOne n v).rails (n + 1) t else s

/-- RAIL_SAMPLE: the ADC's 16 samples, 1 ms after the last ones (R549). -/
def execRailSample (mv : List Nat) (s : State) : Host.Outcome State Fault Refusal :=
  if s.on .mgmt ∧ s.health.railAt + 1000000 ≤ s.nowNs then
    .next ({ s with health := { s.health with railAt := s.nowNs } }.rails 0 mv)
  else .next s

/-- A crossing of one temperature limit: reported once, re-armed 2 °C below (R550). -/
def crossing (seen : List Nat) (i : Nat) (t lim : Int) : Bool × List Nat :=
  if lim < t then (!seen.contains i, if seen.contains i then seen else i :: seen)
  else if t ≤ lim - 8 then (false, seen.filter (· != i))
  else (false, seen)

/-- One island's temperature in 0.25 °C (R550). -/
def State.tempOne (s : State) (i raw : Nat) : State :=
  let b := hlIsl i
  let t := sgn 10 raw
  let s := s.set b Rg.HL_ISL.TEMP raw
  let s := if s.getS b Rg.HL_ISL.TMAX < t then s.set b Rg.HL_ISL.TMAX raw else s
  let w := crossing s.health.warned i t (s.getS bHl Rg.HL_TLIM.WARN)
  let c := crossing s.health.crit i t (s.getS bHl Rg.HL_TLIM.CRIT)
  let s := { s with health := { s.health with warned := w.2, crit := c.2 } }
  let d := leBytes 1 i ++ leBytes 2 (pat 16 t)
  let s := if w.1 then (s.event 18 bHl Rg.HL_EVT.TEMP).record 0x072 2 18 d else s
  if c.1 then (s.event 18 bHl Rg.HL_EVT.TEMP).record 0x073 4 18 d else s

/-- TEMP_SAMPLE: the islands' sensors, 10 ms after the last reading, as island number and 10-bit pattern (R550). -/
def execTempSample (temps : List (Nat × Nat)) (s : State) : Host.Outcome State Fault Refusal :=
  if s.on .mgmt ∧ s.health.tempAt + 10000000 ≤ s.nowNs then
    .next (temps.foldl (fun t p => t.tempOne p.1 p.2) { s with health := { s.health with tempAt := s.nowNs } })
  else .next s

/-- The field of HL_PINFLT that holds output `p` (bit numbers of HL_PINFLT), and the bit in it. -/
def pinFld (p : Nat) : Option (Fld × Nat) :=
  if p < 8 then some (Rg.HL_PINFLT.ALARM_OUT, p)
  else if p < 12 then some (Rg.HL_PINFLT.PPS_OUT, p - 8)
  else if p < 14 then some (Rg.HL_PINFLT.TRIG_LINE, p - 12)
  else if 32 ≤ p ∧ p < 64 then some (Rg.HL_PINFLT.GPIO, p - 32)
  else none

/-- Whether an output is driven (R553): IOBANK enables its function, and the domain of its pin is powered. -/
def State.pinDriven (s : State) (p : Nat) : Bool :=
  if p < 8 then bitOf (40 + p) s.img.io0 && s.on .io
  else if p < 12 then bitOf (54 + (p - 8)) s.img.io0
  else if p < 14 then bitOf (52 + (p - 12)) s.img.io0 && s.on .io
  else decide (32 ≤ p) && bitOf (p - 32) (s.img.gpio % 2 ^ 32) && s.on .io

/-- The value of HL_PINFLT. -/
def State.pinflt (s : State) : Nat :=
  s.get bHl Rg.HL_PINFLT.ALARM_OUT + s.get bHl Rg.HL_PINFLT.PPS_OUT * 2 ^ 8 +
  s.get bHl Rg.HL_PINFLT.TRIG_LINE * 2 ^ 12 + s.get bHl Rg.HL_PINFLT.GPIO * 2 ^ 32

/-- PIN_READBACK: one check of a driven output against its read-back (R553): 64 disagreements of 256 checks set its bit,
256 agreeing checks clear it. -/
def execPinReadback (pin : Nat) (agree : Bool) (s : State) : Host.Outcome State Fault Refusal :=
  match pinFld pin with
  | none => .next s
  | some (f, i) =>
    if !s.on .mgmt ∨ !s.pinDriven pin then .next s else
    let h := s.health
    let n := lookupD 0 pin h.pinChk + 1
    let bad := lookupD 0 pin h.pinBad + (if agree then 0 else 1)
    let good := if agree then lookupD 0 pin h.pinGood + 1 else 0
    let wrap := decide (256 ≤ n)
    let h := { h with pinChk := assocSet pin (if wrap then 0 else n) h.pinChk,
                      pinBad := assocSet pin (if wrap then 0 else bad) h.pinBad,
                      pinGood := assocSet pin (min good 256) h.pinGood }
    let t := { s with health := h }
    let cur := t.get bHl f
    if 64 ≤ bad ∧ !bitOf i cur then
      let u := (t.set bHl f (cur + 2 ^ i)).event 18 bHl Rg.HL_EVT.PIN
      .next (u.record 0x078 3 18 (leBytes 8 u.pinflt))
    else if 256 ≤ good ∧ bitOf i cur then .next (t.set bHl f (cur - 2 ^ i))
    else .next t

/-- MP compares a partner's identity with the one it saved; a difference raises PARTNER_CHG (R551, R578). Kinds: 0 RF front
end, 1 radio transceiver, 2 Ethernet link partner, 3 PCIe link, 4 machine. -/
def State.partner (s : State) (kind idx new : Nat) : State :=
  if !s.on .mgmt then s else
  let k := kind * 1024 + idx
  let old := lookupD 0 k s.health.partners
  if old = new then s
  else
    let t := { s with health := { s.health with partners := assocSet k new s.health.partners } }
    t.recordBy 1 0x077 1 18 (leBytes 1 kind ++ leBytes 1 idx ++ leBytes 8 old ++ leBytes 8 new)

end Sys2Proof.Machine
end

