-- ==== Sys2Proof/Machine/Integrity.lean ====
section
/-! DEFINITION. The OBS tiles' records, and the integrity state of the encoder with its causes (R239, R240), which the RF ports
change too. -/

namespace Sys2Proof.Machine

/-- The position of OBS tile `i`. -/
def obPos (i : Nat) : Nat := (tilePositions .obs).getD i 99
/-- The register base of OBS tile `i`. -/
def obBase (i : Nat) : Nat := kindBase .obs i
/-- OBS tile `i` beside its registers. -/
def State.ob (s : State) (i : Nat) : ObsTile := s.obs.getD i .off
/-- OBS tile `i`'s record replaced. -/
def State.setOb (s : State) (i : Nat) (o : ObsTile) : State := { s with obs := listSet s.obs i o }
/-- An event of OBS tile `i`. -/
def State.obEvent (s : State) (i : Nat) (f : Fld) : State := s.event (tileEv (obPos i)) (obBase i) f
/-- An event of OBS tile `i` set when a condition holds. -/
def State.obEventIf (s : State) (c : Bool) (i : Nat) (f : Fld) : State := if c then s.obEvent i f else s

/-- Whether OBS tile `i` is the encoder. -/
def State.isEnc (s : State) (i : Nat) : Bool := s.instanced (obPos i) && s.flag (obBase i) Rg.OB_CFG.ENCODER
/-- The tile that is the encoder. -/
def State.encoder (s : State) : Option Nat := [0, 1].find? (fun i => s.isEnc i)

/-- The base of context `k` of tile `i`. -/
def ctxBase (i k : Nat) : Nat := obBase i + k * 0x40

/-! ### Causes and the integrity state -/

/-- Cause bits of OB_INT_STAT.CAUSE. -/
def cFlag : Nat := 0
/-- BASELINE_WH. -/
def cWh : Nat := 1
/-- UNMON_WH. -/
def cUnmon : Nat := 2
/-- POS. -/
def cPos : Nat := 3
/-- TIME. -/
def cTime : Nat := 4
/-- MODE. -/
def cMode : Nat := 5
/-- REF_PORT. -/
def cRef : Nat := 6
/-- LATCHED. -/
def cLatched : Nat := 7

/-- A cause bit of tile `i`. -/
def State.cause (s : State) (i n : Nat) : Bool := bitOf n (s.get (obBase i) Rg.OB_INT_STAT.CAUSE)
/-- A cause bit set or cleared. -/
def State.setCause (s : State) (i n : Nat) (b : Bool) : State :=
  s.set (obBase i) Rg.OB_INT_STAT.CAUSE (putBits n 1 (s.get (obBase i) Rg.OB_INT_STAT.CAUSE) (b2n b))

/-- The integrity state the causes give (R240). -/
def State.intState (s : State) (i : Nat) : Nat :=
  let b := obBase i
  if s.cause i cPos || s.cause i cMode then 0
  else if s.cause i cWh || s.cause i cUnmon || s.cause i cTime || s.cause i cRef then 4
  else if s.cause i cFlag then 3
  else if s.flag b Rg.OB_INT.MON_EN && ((s.ob i).unmon || s.get b Rg.OB_SV_STAT.BASE_STATE != 2) then 2
  else 1

/-- The integrity state brought up to date, with its events and CORR_WITHHELD (R240). -/
def State.intUpdate (s : State) (i : Nat) : State :=
  let b := obBase i
  let n := s.intState i
  if n = s.get b Rg.OB_INT_STAT.STATE then s
  else
    let t := (s.set b Rg.OB_INT_STAT.STATE n).obEvent i Rg.OB_EVT.INT_CHG
    if n = 4 then
      let t := t.obEvent i Rg.OB_EVT.WITHHELD
      t.record 0x030 3 (tileEv (obPos i)) (leBytes 4 (t.word b .OB_INT_STAT))
    else t

end Sys2Proof.Machine
end

