-- ==== Sys2Proof/Machine/Gnss.lean ====
section
/-! DEFINITION. The satellite signal chain (R193–R223): RF sample ports, search contexts, tracking channels. -/

namespace Sys2Proof.Machine

/-! ### Signals (R206, R207) -/

/-- A signal: system (0 GPS, 1 Galileo, 2 BeiDou, 3 GLONASS, 4 QZSS), band, carrier in 100 Hz for K 0, step of the carrier
with K in 100 Hz, code period in ms, chip rate in 100 Hz, whether it is a BOC signal, and whether ACQ can search for it. -/
structure Signal where
  sys  : Nat
  band : Nat
  car  : Nat
  kst  : Nat
  per  : Nat
  chip : Nat
  boc  : Bool
  acq  : Bool
  deriving DecidableEq, Repr

/-- The signal table of R206. -/
def signals : List Signal := [
  ⟨0, 0, 15754200, 0, 1, 10230, false, true⟩, ⟨0, 0, 15754200, 0, 10, 10230, true, false⟩,
  ⟨0, 1, 12276000, 0, 20, 5115, false, false⟩, ⟨0, 2, 11764500, 0, 1, 102300, false, true⟩,
  ⟨1, 0, 15754200, 0, 4, 10230, true, true⟩, ⟨1, 2, 11764500, 0, 1, 102300, false, true⟩,
  ⟨1, 2, 12071400, 0, 1, 102300, false, true⟩, ⟨1, 3, 12787500, 0, 1, 51150, false, true⟩,
  ⟨2, 0, 15610980, 0, 1, 20460, false, true⟩, ⟨2, 0, 15754200, 0, 10, 10230, true, false⟩,
  ⟨2, 2, 11764500, 0, 1, 102300, false, true⟩, ⟨2, 3, 12685200, 0, 1, 102300, false, true⟩,
  ⟨3, 0, 16020000, 5625, 1, 5110, false, true⟩, ⟨3, 1, 12460000, 4375, 1, 5110, false, true⟩,
  ⟨4, 0, 15754200, 0, 1, 10230, false, true⟩, ⟨4, 0, 15754200, 0, 10, 10230, true, false⟩,
  ⟨4, 1, 12276000, 0, 20, 5115, false, false⟩, ⟨4, 2, 11764500, 0, 1, 102300, false, true⟩]

/-- Half the main lobe in 100 Hz (R207): the chip rate, twice it for BOC. -/
def Signal.lobe (g : Signal) : Nat := if g.boc then 2 * g.chip else g.chip

/-- The chips of a code period. -/
def Signal.chips (g : Signal) : Nat := g.chip * g.per / 10

/-- Whether an SVID is one of the system's (R206). -/
def svidOk (sys svid : Nat) : Bool :=
  match sys with
  | 0 => decide (1 ≤ svid ∧ svid ≤ 32)
  | 1 => decide (1 ≤ svid ∧ svid ≤ 36)
  | 2 => decide (1 ≤ svid ∧ svid ≤ 63)
  | 3 => decide (1 ≤ svid ∧ svid ≤ 24)
  | _ => decide (193 ≤ svid ∧ svid ≤ 202)

/-- Whether a signal code, SVID and K are in order (R206). -/
def signalOk (sig svid k7 : Nat) : Bool :=
  match signals[sig]? with
  | none => false
  | some g => svidOk g.sys svid && (g.sys != 3 || decide (k7 ≤ 13))

/-- The carrier of a signal in 100 Hz. -/
def Signal.carrier (g : Signal) (k7 : Nat) : Int := (g.car : Int) + ((k7 : Int) - 7) * g.kst

/-! ### RF sample ports (R193–R200) -/

/-- The base of RF sample port `p`. -/
def rfBase (p : Nat) : Nat := bRf + p * 0x1000

/-- Port `p` beside its registers. -/
def State.rfPort (s : State) (p : Nat) : RfPort := s.gnss.ports.getD p .off
/-- Port `p`'s record replaced. -/
def State.setRf (s : State) (p : Nat) (x : RfPort) : State := { s with gnss := { s.gnss with ports := listSet s.gnss.ports p x } }

/-- Whether the image enables port `p`. -/
def State.rfFitted (s : State) (p : Nat) : Bool := decide (p < 8) && bitOf p s.img.io0
/-- Whether port `p` is in RUN. -/
def State.rfRun (s : State) (p : Nat) : Bool := s.rfFitted p && s.get (rfBase p) Rg.RF_STAT.STATE == 3

/-- Whether the chain is held off (R223): in BOOTSTRAP and DORMANT, and in MAINTENANCE except for a diagnostic of MP. -/
def State.chainOff (s : State) (m : Master) : Bool :=
  match s.mode with
  | .bootstrap | .dormant => true
  | .maintenance => m != .mp
  | _ => false

/-- Whether a signal fits port `p` (R207); a code that names no signal is not judged here. -/
def State.fits (s : State) (p sig k7 : Nat) : Bool :=
  match signals[sig]? with
  | none => true
  | some g =>
    let d := g.carrier k7 - s.get (rfBase p) Rg.RF_FE_FREQ.CENTRE * 10
    decide (g.band = p % 4) && decide (d.natAbs + g.lobe ≤ 4 * s.get (rfBase p) Rg.RF_FE_FREQ.RATE)

/-- The base of channel `c`. -/
def chBase (c : Nat) : Nat := laneBase .cor 0x80 c
/-- The position of channel `c`'s tile. -/
def chPos (c : Nat) : Nat := chanPos .cor c
/-- The base of search context `q`. -/
def aqBase (q : Nat) : Nat := laneBase .acq 0x100 q
/-- The position of context `q`'s tile. -/
def aqPos (q : Nat) : Nat := chanPos .acq q

/-- The REF_PORT cause of the encoder brought up to date (R239): a port of the reference antenna that feeds an enabled context of an OBS
tile is in FAIL, or its bias is SHORT. -/
def State.refPorts (s : State) : State :=
  match s.encoder with
  | none => s
  | some i =>
    let ant := s.get (obBase i) Rg.OB_CFG.REF_ANT
    let chans := s.obs.flatMap (fun o => o.ctxs.filterMap (fun c => if ant = 0 then c.a.chan else c.b.chan))
    let bad (p : Nat) : Bool := s.get (rfBase p) Rg.RF_STAT.STATE == 4 || s.get (rfBase p) Rg.RF_BIAS.STATE == 3
    (s.setCause i cRef (chans.any (fun c => let p := s.get (chBase c) Rg.CH_CFG.PORT; p / 4 == ant && bad p))).intUpdate i

/-- Channel `c` beside its registers. -/
def State.trk (s : State) (c : Nat) : TrkChan := lookupD ⟨none, 0, none, 0, false, none⟩ c s.gnss.chans
/-- Channel `c`'s record replaced. -/
def State.setTrk (s : State) (c : Nat) (x : TrkChan) : State := { s with gnss := { s.gnss with chans := assocSet c x s.gnss.chans } }

/-- The state of channel `c`. -/
def State.chState (s : State) (c : Nat) : Nat := s.get (chBase c) Rg.CH_STAT.STATE
/-- Channel `c` moved to a state. -/
def State.chTo (s : State) (c st : Nat) : State := s.set (chBase c) Rg.CH_STAT.STATE st
/-- An event of channel `c`. -/
def State.chEvent (s : State) (c : Nat) (f : Fld) : State := s.event (tileEv (chPos c)) (chBase c) f

/-- A change applied to each of `n` numbered things from number 0 on. -/
def eachOf (f : Nat → State → State) : Nat → State → State
  | 0, s => s
  | n + 1, s => f n (eachOf f n s)

/-- A channel enters REACQ: it searches ±2 chips and ±25 Hz around what its last Doppler predicts (R215). -/
def State.toReacq (s : State) (c : Nat) : State :=
  (s.setTrk c { s.trk c with since := s.nowNs, win := some (2 * 65536, 25000) }).chTo c 4

/-- The channels of a port that track enter REACQ (R199, R215). -/
def State.portReacq (s : State) (p : Nat) : State :=
  eachOf (fun c t =>
    if t.get (chBase c) Rg.CH_CFG.PORT = p ∧ t.chanOn .cor c ∧ (t.chState c = 2 ∨ t.chState c = 3) then t.toReacq c else t) 512 s

/-- Context `q` ends with a result (R211, R213). -/
def State.acqEnd (s : State) (q r : Nat) : State :=
  let b := aqBase q
  (s.sets b [(Rg.AQ_CTRL.BUSY, 0), (Rg.AQ_CTRL.RESULT, r)]).event (tileEv (aqPos q)) b Rg.AQ_CTRL.DONE

/-- The searches of a port end with ABORTED (R213). -/
def State.portAbort (s : State) (p : Nat) : State :=
  eachOf (fun q t => if t.get (aqBase q) Rg.AQ_REQ.PORT = p ∧ t.flag (aqBase q) Rg.AQ_CTRL.BUSY then t.acqEnd q 3 else t) 32 s

/-- Port `p` in FAIL with a code (R197, R199): its searches end and its channels enter REACQ. -/
def State.rfFail (s : State) (p code : Nat) : State :=
  let t := (s.sets (rfBase p) [(Rg.RF_STAT.STATE, 4), (Rg.RF_STAT.FAIL_CODE, code)]).event 28 (rfBase p) Rg.RF_EVT.FAIL
  ((t.portReacq p).portAbort p).refPorts

/-- The descriptor as RF_FE, RF_FE_FREQ and RF_FE_DLY show it. -/
def State.takeDesc (s : State) (p : Nat) (d : List Byte) : State :=
  s.sets (rfBase p) [(Rg.RF_FE.VENDOR, leAt d 3 2), (Rg.RF_FE.PART, leAt d 5 2), (Rg.RF_FE.BANDS, leAt d 7 1),
    (Rg.RF_FE.FORMATS, leAt d 8 1), (Rg.RF_FE.MAX_RATE, leAt d 9 1), (Rg.RF_FE_FREQ.CENTRE, leAt d 10 4),
    (Rg.RF_FE_FREQ.RATE, leAt d 14 3), (Rg.RF_FE_DLY.GRP_DELAY, leAt d 17 2), (Rg.RF_FE_FREQ.INVERT, leAt d 19 1 % 2)]

/-- Step 1: MAGIC, DESC_VER and CHECK. -/
def descKnown (d : List Byte) : Bool :=
  decide (d.length = 32 ∧ leAt d 0 2 = 0x4546 ∧ leAt d 2 1 = 1 ∧ (d.map BitVec.toNat).sum % 256 = 0)

/-- Whether a rate in kHz lies within R194 and the front end's maximum. -/
def rateOk (rate maxRate : Nat) : Bool := decide (4000 ≤ rate ∧ rate ≤ 80000 ∧ rate ≤ maxRate * 1000)

/-- Step 2: band, format and rates. -/
def State.descFits (s : State) (p : Nat) (d : List Byte) : Bool :=
  bitOf (p % 4) (leAt d 7 1) && bitOf (b2n (bitOf (8 + p) s.img.io0)) (leAt d 8 1) && rateOk (leAt d 14 3) (leAt d 9 1)

/-- The frames of the control SPI use the clock of SPI_DIV, at most 10 MHz (R196): divisors below 19 act as 19. -/
def State.feSpi (s : State) (p : Nat) (f : RfPort → RfPort) : State :=
  s.setRf p { f (s.rfPort p) with spi := max 19 (s.get (rfBase p) Rg.RF_CFG.SPI_DIV) }

/-- BIAS_CTRL written over the control SPI (R205). -/
def State.feBias (s : State) (p v : Nat) : State := s.feSpi p (fun r => { r with bias := v })

/-- 64 training bytes as the bits of a lane, the first bit sent in bit 0: `b` is the byte with its bits turned round. -/
def trainBits (b : Nat) : Nat := b * ((2 ^ 512 - 1) / 255)

/-- Whether a lane carries the training byte `b` from bit `off` on, with its pair swapped or not (R198). -/
def laneInv (v off b : Nat) : Option Bool :=
  let w := bits off 512 v
  if w = trainBits b then some false else if w = trainBits (255 - b) then some true else none

/-- The setting with which both lanes show their patterns at bit offset `off` (R198): 0xE4 on D0 and 0xE8 on D1, or the lanes
exchanged. An odd offset begins on a falling edge: the clock pair is swapped. SLIP shows the offset found (DESIGN CHOICE, log
entry 39). -/
def alignAt (d0 d1 off : Nat) : Option Alignment :=
  match laneInv d0 off 0x27, laneInv d1 off 0x17 with
  | some i, some q => some ⟨i, q, false, off % 2 == 1, off⟩
  | _, _ =>
    match laneInv d0 off 0x17, laneInv d1 off 0x27 with
    | some i, some q => some ⟨i, q, true, off % 2 == 1, off⟩
    | _, _ => none

/-- The search of R198 over the 8 bit offsets on both clock edges. -/
def alignOf (fe : FeProbe) : Option Alignment := ((List.range 8).filterMap (alignAt fe.d0 fe.d1)).head?

/-- What alignment found, shown in RF_STAT (R198). -/
def State.setAlign (s : State) (p : Nat) (a : Alignment) : State :=
  s.sets (rfBase p) [(Rg.RF_STAT.INV_I, b2n a.invI), (Rg.RF_STAT.INV_Q, b2n a.invQ), (Rg.RF_STAT.SWAP, b2n a.swap),
    (Rg.RF_STAT.CLK_INV, b2n a.clk), (Rg.RF_STAT.SLIP, a.slip)]

/-- A channel starts PULL_IN from aiding (R215), in a window if one is given (R221). -/
def State.pullIn (s : State) (c code dop inst : Nat) (win : Option (Nat × Nat)) : State :=
  (s.setTrk c { s.trk c with aid := some (code, dop, inst), since := s.nowNs, win := win, meas := none }).sets (chBase c)
    [(Rg.CH_STAT.STATE, 1), (Rg.CH_STAT.AMBIG, 1), (Rg.CH_STAT.HALF_CYCLE, 1)]

/-- The signal of channel `c`. -/
def State.chSig (s : State) (c : Nat) : Option Signal := signals[s.get (chBase c) Rg.CH_CFG.SIGNAL]?

/-- A channel that tracks another signal of the same satellite (R206). -/
def State.sameSat (s : State) (c : Nat) : Option Nat :=
  let sysOf (k : Nat) : Option Nat := (s.chSig k).map Signal.sys
  (List.range 512).find? (fun k => k != c && s.chanOn .cor k && (s.chState k == 2 || s.chState k == 3) &&
    sysOf k == sysOf c && s.get (chBase k) Rg.CH_CFG.SVID == s.get (chBase c) Rg.CH_CFG.SVID)

/-- A code phase in 2^−16 chip after a time in ns at a Doppler in mHz (R212, R215). -/
def Signal.advance (g : Signal) (k7 code : Nat) (dns : Int) (dop : Int) : Nat :=
  let car : Int := g.carrier k7 * 100000
  let step : Rat := (dns * (g.chip * 6553600 : Nat) * (car + dop) : Int) / ((1000000000 : Int) * car : Int)
  ((code + ratRnd 80 step) % (g.chips * 65536 : Nat)).toNat

/-- The transmit time modulo the code period that a channel shows, in ns, and its Doppler in mHz, both at the present instant: from
its last measurement, or from its aiding when it has none yet. -/
def State.chPhase (s : State) (k : Nat) : Option (Rat × Int) :=
  match (s.trk k).meas, (s.trk k).aid, s.chSig k with
  | some (e, tx, dop), _, some g =>
    let car : Int := g.carrier (s.get (chBase k) Rg.CH_CFG.K7) * 100000
    some ((tx : Rat) / 16384 + (((s.nowNs : Int) - e) * (car + dop) : Int) / (car : Rat), dop)
  | none, some (code, dop, e), some g =>
    let d := sgn 20 dop * 125
    let c := g.advance (s.get (chBase k) Rg.CH_CFG.K7) code ((s.nowNs : Int) - e) d
    some ((c * 1000000000 : Nat) / (g.chip * 6553600 : Nat), d)
  | _, _, _ => none

/-- The aiding that a handover signal takes from channel `k` (R206): code phase and Doppler of the same satellite on the signal of
`c`. -/
def State.aidFrom (s : State) (c k : Nat) : Option (Nat × Nat) :=
  match s.chPhase k, s.chSig k, s.chSig c with
  | some (tx, dop), some gk, some gc =>
    let code := (ratRnd 81 (tx * (gc.chip * 6553600 : Nat) / 1000000000) % (gc.chips * 65536 : Nat)).toNat
    let d := rnd 82 (dop * gc.carrier (s.get (chBase c) Rg.CH_CFG.K7)) ((gk.carrier (s.get (chBase k) Rg.CH_CFG.K7)).toNat * 125)
    some (code, pat 20 d)
  | _, _, _ => none

/-- Whether the channel's signal is a handover signal. -/
def State.handover (s : State) (c : Nat) : Bool :=
  ((s.chSig c).map (fun g => !g.acq)).getD false

/-- The first check an enable fails, as CH_STAT.REFUSE; 0 when it passes them all (R214). -/
def State.chRefusal (s : State) (c : Nat) : Nat :=
  let b := chBase c
  let p := s.get b Rg.CH_CFG.PORT
  let sig := s.get b Rg.CH_CFG.SIGNAL
  if !s.rfRun p then 1
  else if !s.fits p sig (s.get b Rg.CH_CFG.K7) then 2
  else if !signalOk sig (s.get b Rg.CH_CFG.SVID) (s.get b Rg.CH_CFG.K7) then 3
  else if (s.linkTo 95 (chPos c)).isNone then 4
  else if s.handover c && (s.trk c).aid.isNone && (s.sameSat c).isNone then 5
  else 0

/-- EN set on channel `c` (R214, R215): with aiding it starts PULL_IN, otherwise it waits in IDLE. -/
def State.chEnable (s : State) (m : Master) (c : Nat) : State :=
  let b := chBase c
  if s.flag b Rg.CH_CTRL.EN ∨ s.chainOff m then s
  else
    let r := s.chRefusal c
    if r ≠ 0 then s.set b Rg.CH_STAT.REFUSE r
    else
      let t := s.sets b [(Rg.CH_CTRL.EN, 1), (Rg.CH_STAT.REFUSE, 0)]
      match (s.trk c).aid with
      | some a => t.pullIn c a.1 a.2.1 a.2.2 none
      | none =>
        match (s.sameSat c).bind (s.aidFrom c) with
        | some a => if s.handover c then t.pullIn c a.1 a.2 s.now none else t
        | none => t

/-- A channel that Cocoon hints at starts directly in PULL_IN (R221): MP writes its configuration and aiding, and enables it. The
code window is TIME_TERR and 2 chips to each side, the Doppler window 50 Hz. -/
def State.hintStart (s : State) (x : ChHint) : State :=
  let b := chBase x.chan
  if !s.chanOn .cor x.chan ∨ s.flag b Rg.CH_CTRL.EN then s
  else
    let t := Reg.CH_CFG.desc.flds.foldl (fun u f => u.set b f (bits f.lo f.w x.cfg)) s
    let t := t.sets b [(Rg.CH_AID.CODE, x.code), (Rg.CH_AID.DOP, x.dop), (Rg.CH_AID_AT.AT, s.now)]
    let t := (t.setTrk x.chan { t.trk x.chan with aid := some (x.code, x.dop, s.now) }).chEnable .mp x.chan
    let chips := ((t.chSig x.chan).map (fun g => ceilDiv (s.terr * g.chip * 65536) 10000000)).getD 0
    if t.chState x.chan = 1 then t.setTrk x.chan { t.trk x.chan with win := some (chips + 2 * 65536, 50000) } else t

/-- The hints of a hot start whose port is `p` are used when that port comes to RUN. -/
def State.useHints (s : State) (p : Nat) : State :=
  let mine (x : ChHint) : Bool := bits 0 3 x.cfg == p
  let t := { s with boot := { s.boot with hints := s.boot.hints.filter (fun x => !mine x) } }
  (s.boot.hints.filter mine).foldl State.hintStart t

/-- The digest of the front end's identity that Cocoon keeps (R218): CRC-32C of VENDOR, PART, CENTRE and RATE (DESIGN CHOICE, log
entry 27). -/
def State.feDigest (s : State) (p : Nat) : Nat :=
  let b := rfBase p
  crc32c (leBytes 2 (s.get b Rg.RF_FE.VENDOR) ++ leBytes 2 (s.get b Rg.RF_FE.PART) ++ leBytes 4 (s.get b Rg.RF_FE_FREQ.CENTRE) ++
    leBytes 3 (s.get b Rg.RF_FE_FREQ.RATE))

/-- The notches and the JI baseline that Cocoon kept are restored to a port whose front end is the same (R220). -/
def State.useKeep (s : State) (p : Nat) : State :=
  match s.boot.keeps.find? (fun k => k.port == p) with
  | none => s
  | some k =>
    let t := { s with boot := { s.boot with keeps := s.boot.keeps.filter (fun x => x.port != p) } }
    if k.digest ≠ s.feDigest p then t
    else
      let t := t.sets (rfBase p) [(Rg.RF_JAM_BASE.P0, k.jam.1), (Rg.RF_JAM_BASE.SFM0, k.jam.2)]
      (List.range 4).foldl (fun u i =>
        let n := k.notch.getD i (0, 8, 0)
        u.sets (rfBase p + i * 8) [(Rg.RF_NOTCH.MODE, n.1), (Rg.RF_NOTCH.RSHIFT, n.2.1), (Rg.RF_NOTCH.CENTRE, n.2.2)]) t

/-- Step 5: bias on if the port feeds, and RUN; a port in SHORT stays in fold-back (R205). What Cocoon kept for the port, and the
channels that a hot start hints at, start with it. -/
def State.rfGoRun (s : State) (p : Nat) : State :=
  let feed := s.flag (rfBase p) Rg.RF_CFG.BIAS_FEED
  let t := s.sets (rfBase p) [(Rg.RF_STAT.STATE, 3), (Rg.RF_STAT.FAIL_CODE, 0), (Rg.RF_STAT.RATE_OK, 1)]
  let t := if feed ∧ t.get (rfBase p) Rg.RF_BIAS.STATE ≠ 3 then
      t.feSpi p (fun r => { r with bias := 1, low := 0, mid := 0, retry := none }) else t
  ((t.useKeep p).useHints p).refPorts

/-- Steps 4 and 5: TRAIN is written 1, the lanes are aligned, TRAIN is written 0. -/
def State.rfTrain (s : State) (p : Nat) (fe : FeProbe) (train : Bool) : State :=
  if train then
    let t := s.feSpi p (fun r => { r with train := 0 })
    match alignOf fe with
    | none => (s.feSpi p (fun r => { r with train := 1 })).rfFail p 3
    | some a => (t.setAlign p a).rfGoRun p
  else (s.setAlign p ⟨false, false, false, false, 0⟩).rfGoRun p

/-- Whether another port of the same antenna feeds bias (R205). -/
def State.feedDup (s : State) (p : Nat) : Bool :=
  s.flag (rfBase p) Rg.RF_CFG.BIAS_FEED &&
  (List.range 8).any (fun k => k != p && k / 4 == p / 4 && s.rfFitted k && (s.rfPort k).bias != 0)

/-- The enable sequence of R197, with the feed checked first (R205). Of the values read again in step 3 the rate alone has a
condition to meet. -/
def State.rfSequence (s : State) (p : Nat) (fe : FeProbe) : State :=
  let b := rfBase p
  if s.feedDup p then s.rfFail p 5
  else if s.flag b Rg.RF_CFG.FE_MANUAL then s.rfTrain p fe (s.flag b Rg.RF_CFG.MAN_TRAIN)
  else
    let t := s.feSpi p id
    if !descKnown fe.desc then t.rfFail p 1
    else
      let t := t.takeDesc p fe.desc
      let t := t.partner 0 p (t.word b .RF_FE)
      if !s.descFits p fe.desc then t.rfFail p 2
      else
        let u := t.feSpi p (fun r => { r with band := p % 4, fmt := b2n (bitOf (8 + p) s.img.io0) })
        let u := u.sets b [(Rg.RF_FE_FREQ.CENTRE, leAt fe.again 0 4), (Rg.RF_FE_FREQ.RATE, leAt fe.again 4 3)]
        if !rateOk (leAt fe.again 4 3) (leAt fe.desc 9 1) then u.rfFail p 2 else u.rfTrain p fe true

/-- EN set on port `p`. -/
def State.rfEnable (s : State) (m : Master) (p : Nat) (fe : FeProbe) : State :=
  if s.flag (rfBase p) Rg.RF_CFG.EN ∨ s.chainOff m then s else (s.set (rfBase p) Rg.RF_CFG.EN 1).rfSequence p fe

/-- A write of an action register of port `p`: nothing happens where the image leaves the port off (R2). -/
def State.rfWrite (s : State) (m : Master) (p off : Nat) (f : State → State) : State :=
  s.actWrite m (mayWriteService s m) .io (rfBase p + off) (fun t => if t.rfFitted p then f t else t)

/-- RF_PORT_ENABLE: RF_CFG written with EN 1. -/
def execRfPortEnable (m : Master) (p : Nat) (fe : FeProbe) (s : State) : Host.Outcome State Fault Refusal :=
  .next (s.rfWrite m p 0 (fun t => t.rfEnable m p fe))

/-- RETRAIN: the port's channels enter REACQ and the sequence runs again (R199), unless the chain is held off (R223). -/
def State.rfRetrain (s : State) (m : Master) (p : Nat) (fe : FeProbe) : State :=
  if s.flag (rfBase p) Rg.RF_CFG.EN ∧ !s.chainOff m then (s.portReacq p).rfSequence p fe else s

/-- RF_RETRAIN. -/
def execRfRetrain (m : Master) (p : Nat) (fe : FeProbe) (s : State) : Host.Outcome State Fault Refusal :=
  .next (s.rfWrite m p 8 (fun t => t.rfRetrain m p fe))

/-- RF_CLOCK_LOSS (R199). -/
def execRfClockLoss (p : Nat) (s : State) : Host.Outcome State Fault Refusal :=
  if s.rfRun p then .next (s.rfFail p 4) else .next s

/-- RF_AUTO_RETRAIN (R199). -/
def execRfAutoRetrain (p : Nat) (fe : FeProbe) (s : State) : Host.Outcome State Fault Refusal :=
  let b := rfBase p
  if s.rfFitted p ∧ s.get b Rg.RF_STAT.STATE = 4 ∧ s.get b Rg.RF_STAT.FAIL_CODE = 4 ∧ s.flag b Rg.RF_CFG.AUTO_RETRAIN then
    .next (s.rfRetrain .host p fe)
  else .next s

/-- RF_RATE_CHECK (R195): `sps` samples in the last second. -/
def execRfRateCheck (p sps : Nat) (s : State) : Host.Outcome State Fault Refusal :=
  if s.rfRun p then
    let b := rfBase p
    let want := s.get b Rg.RF_FE_FREQ.RATE * 1000
    let t := s.set b Rg.RF_RATE.SPS sps
    if 100 * want < 1000000 * ((sps : Int) - want).natAbs then
      .next ((t.set b Rg.RF_STAT.RATE_OK 0).event 28 b Rg.RF_EVT.RATE_ERR)
    else .next (t.set b Rg.RF_STAT.RATE_OK 1)
  else .next s

/-! ### Channels and contexts of a port that is disabled (R213, R215) -/

/-- Channel `c` to IDLE because its port is disabled. -/
def State.chPortOff (s : State) (c : Nat) : State :=
  if s.chState c = 0 then s else (s.chTo c 0).chEvent c Rg.CH_EVT.PORT_OFF

/-- EN of port `p` cleared: it is OFF, its searches end and its channels go to IDLE; its bias goes off. -/
def State.rfDisable (s : State) (p : Nat) : State :=
  let t := s.sets (rfBase p) [(Rg.RF_CFG.EN, 0), (Rg.RF_STAT.STATE, 0), (Rg.RF_STAT.FAIL_CODE, 0), (Rg.RF_STAT.RATE_OK, 0),
    (Rg.RF_BIAS.STATE, 0)]
  let t := t.feSpi p (fun r => { r with bias := 0, retry := none, learn := none })
  (eachOf (fun c u => if u.get (chBase c) Rg.CH_CFG.PORT = p then u.chPortOff c else u) 512 t).portAbort p |>.refPorts

/-! ### Notches, jamming, bias (R201–R205) -/

/-- JAM_LEARN: a 10 s average starts. -/
def State.jamLearn (s : State) (p : Nat) : State :=
  if s.rfRun p then s.setRf p { s.rfPort p with learn := some (0, 0, 0) } else s

/-- JAM_LEARN. -/
def execJamLearn (m : Master) (p : Nat) (s : State) : Host.Outcome State Fault Refusal :=
  .next (s.rfWrite m p 8 (fun t => t.jamLearn p))

/-- JAM_LEARN_DONE: after 10 s of spectra, 1,000 of them, P0 and SFM0 take the averages (R204). -/
def execJamLearnDone (p : Nat) (s : State) : Host.Outcome State Fault Refusal :=
  match (s.rfPort p).learn with
  | none => .next s
  | some (a, f, n) =>
    let t := s.setRf p { s.rfPort p with learn := none }
    if n < 1000 then .next s
    else .next ((t.setS (rfBase p) Rg.RF_JAM_BASE.P0 (satS 16 (rnd 10 a n))).set (rfBase p) Rg.RF_JAM_BASE.SFM0
      (min 255 (rnd 11 ((f * 255 : Nat) : Int) (n * 65536)).toNat))

/-- JI from P in 0.01 dB and SFM in 2^−16 against the baseline (R204). -/
def jamIndex (pow p0 : Int) (sfm sfm0 : Nat) : Nat :=
  let a : Int := max 0 (pow - p0) * 8 * (255 * 65536)
  let b : Int := max 0 ((sfm0 * 65536 : Nat) - (sfm * 255 : Nat) : Int) * 512 * 100
  (clampI 0 255 (roundDiv (a + b) (100 * 255 * 65536))).toNat

/-- The jamming indicator updated (R204): JAM is set on a rise through THR once JI has fallen below THR − 16 since. -/
def State.jamUpdate (s : State) (p : Nat) (pow : Int) (sfm : Nat) : State :=
  let b := rfBase p
  let p0 := s.getS b Rg.RF_JAM_BASE.P0
  let ji := jamIndex pow p0 sfm (s.get b Rg.RF_JAM_BASE.SFM0)
  let thr := s.get b Rg.RF_JAM.THR
  let r := s.rfPort p
  let rise := decide (thr ≤ ji ∧ s.get b Rg.RF_JAM.JI < thr) && !r.jam
  let t := s.sets b [(Rg.RF_JAM.JI, ji), (Rg.RF_JAM.SFM, min 255 (rnd 12 ((sfm * 255 : Nat) : Int) 65536).toNat),
    (Rg.RF_JAM.PREL, (clampI 0 255 (rnd 13 (pow - p0) 25)).toNat)]
  let learn := r.learn.map (fun x => if x.2.2 < 1000 then (x.1 + pow, x.2.1 + sfm, x.2.2 + 1) else x)
  (t.setRf p { r with jam := (r.jam || rise) && !decide (ji + 16 < thr), learn := learn }).eventIf rise 28 b Rg.RF_EVT.JAM

/-! #### The spectrum (R203, R204) -/

/-- The largest n below 2^16 with 10^n ≤ (num / den)^k: k times the decimal logarithm of a ratio, rounded down; 0 for a ratio below
1. -/
def logFloor (k num den : Nat) : Nat :=
  let a := num ^ k
  let c := den ^ k
  (List.range 16).foldl (fun n i => let m := n + 2 ^ (15 - i)
                                    if 10 ^ m * c ≤ a then m else n) 0

/-- k times the decimal logarithm of a ratio, to one of its two neighbours where it is no whole number. -/
def logRnd (place k num den : Nat) : Nat :=
  let n := logFloor k num den
  if 10 ^ n * den ^ k = num ^ k then n else n + b2n (Config.roundUp place num den)

/-- P in 0.01 dB: the power of all bins, in the unit in which the bins come. -/
def specPower (bins : List Nat) : Int := if bins.sum = 0 then 0 else (logRnd 83 1000 bins.sum 1 : Nat)

/-- SFM in 2^−16, rounded down: the geometric over the arithmetic mean of the 1,024 bins; ten square roots make the 1,024th. -/
def specFlat (bins : List Nat) : Nat :=
  if bins.sum = 0 then 0
  else
    let scaled := bins.foldl (fun a b => a * b) 1 * (65536 * 1024) ^ 1024 / bins.sum ^ 1024
    (List.range 10).foldl (fun x _ => isqrt x) scaled

/-- The median bin: the lower of the two in the middle. -/
def specMedian (bins : List Nat) : Nat :=
  (List.range 48).foldl (fun m i => let c := m + 2 ^ (47 - i)
                                    if bins.length / 2 < (bins.filter (fun b => decide (c ≤ b))).length then c else m) 0

/-- Whether a bin is more than `db` dB above another. -/
def aboveBy (db a b : Nat) : Bool := decide (10 ^ db * b ^ 10 < a ^ 10)

/-- Whether a bin comes up to `db` − 3 dB above another. -/
def reaches (db a b : Nat) : Bool := decide (10 ^ db * b ^ 10 ≤ a ^ 10 * 1000)

/-- The bin of a frequency word: 2^14 units of fs / 2^24 a bin. -/
def binOf (centre : Int) : Nat := ((centre + 8192) / 16384 % 1024).toNat

/-- The frequency word of a bin. -/
def wordOf (j : Nat) : Nat := pat 24 (((if j < 512 then (j : Int) else j - 1024) * 16384))

/-- Peaks put in descending order. -/
def insertPeak (x : Nat × Nat) : List (Nat × Nat) → List (Nat × Nat)
  | [] => [x]
  | y :: t => if y.2 < x.2 then x :: y :: t else y :: insertPeak x t

/-- The peaks of a spectrum more than `db` dB above its median, the strongest first, as bin and level: bins above the one before
them and not below the one after. -/
def specPeaks (db : Nat) (bins : List Nat) : List (Nat × Nat) :=
  let m := specMedian bins
  let prev := bins.getLastD 0 :: bins
  let next := bins.drop 1 ++ [bins.headD 0]
  (((List.range 1024).zip (bins.zip (prev.zip next))).filter (fun x =>
    decide (x.2.2.1 < x.2.1 ∧ x.2.2.2 ≤ x.2.1 ∧ m < x.2.1) && aboveBy db x.2.1 m)).foldl (fun l x => insertPeak (x.1, x.2.1) l) []

/-- The base of notch `k` of port `p`. -/
def notchBase (p k : Nat) : Nat := rfBase p + k * 8

/-- Whether a notch is ADAPTIVE and placed, or free. -/
def State.notchHeld (s : State) (p k : Nat) : Bool :=
  s.get (notchBase p k) Rg.RF_NOTCH.MODE == 2 && s.flag (notchBase p k) Rg.RF_NOTCH.ENGAGED

/-- RSHIFT as it acts: 4–12, other values act as 8 (R201). -/
def State.rshift (s : State) (p k : Nat) : Nat :=
  let r := s.get (notchBase p k) Rg.RF_NOTCH.RSHIFT
  if 4 ≤ r ∧ r ≤ 12 then r else 8

/-- The bins on each side of its centre that a notch covers: half of its −3 dB width 2^−RSHIFT fs / π (R201), and one at least. -/
def State.notchReach (s : State) (p k : Nat) : Nat := max 1 (512 * 113 / (2 ^ s.rshift p k * 355))

/-- Whether a bin lies under a notch. -/
def State.underNotch (s : State) (p k j : Nat) : Bool :=
  let d := ((j : Int) - binOf (s.getS (notchBase p k) Rg.RF_NOTCH.CENTRE)) % 1024
  decide (d ≤ s.notchReach p k) || decide (1024 - (s.notchReach p k : Int) ≤ d)

/-- The centre to which the gradient tracker moves an engaged notch: one step of 2^−MU times a gradient that the spec does not give
(R202), which is a free value. -/
def State.tracked (s : State) (p k : Nat) : Int :=
  let b := notchBase p k
  let g := sgn 32 (Config.outside s.free).toNat
  satS 24 (s.getS b Rg.RF_NOTCH.CENTRE + g / (2 ^ s.get b Rg.RF_NOTCH.MU : Nat))

/-- An engaged ADAPTIVE notch followed by its tracker, and released after 100 ms in which no bin under it comes up to DET_THR − 3 dB
above the median (R203). -/
def State.notchTrack (s : State) (p : Nat) (bins : List Nat) (k : Nat) : State :=
  if s.notchHeld p k then
    let b := notchBase p k
    let r := s.rfPort p
    let top : Nat := ((List.range 1024).zip bins).foldl (fun a x => if s.underNotch p k x.1 then max a x.2 else a) 0
    let m : Nat := specMedian bins
    let n := if reaches (s.get (rfBase p) Rg.RF_NOTCH_CFG.DET_THR) top m then 0 else r.under.getD k 0 + 1
    let t := s.setRf p { r with under := listSet r.under k (if 10 ≤ n then 0 else n) }
    if 10 ≤ n then t.set b Rg.RF_NOTCH.ENGAGED 0 else (t.setS b Rg.RF_NOTCH.CENTRE (t.tracked p k)).fresh
  else s

/-- The free ADAPTIVE notches of a port. -/
def State.freeNotches (s : State) (p : Nat) : List Nat :=
  (List.range 4).filter (fun k => s.get (notchBase p k) Rg.RF_NOTCH.MODE == 2 && !s.notchHeld p k)

/-- Peaks given to free notches, the strongest first. -/
def placeNotches (p : Nat) : List Nat → List Nat → State → State
  | k :: ks, c :: cs, s =>
    let t := s.sets (notchBase p k) [(Rg.RF_NOTCH.CENTRE, c), (Rg.RF_NOTCH.ENGAGED, 1)]
    placeNotches p ks cs (t.setRf p { t.rfPort p with under := listSet (t.rfPort p).under k 0 })
  | _, _, s => s

/-- NOTCH_DETECT (R203, R204): `bins` is the averaged power spectrum of the port input, from 16 transforms of 1,024 samples. Peaks
under a notch already engaged are that notch's. -/
def execNotchDetect (p : Nat) (bins : List Nat) (s : State) : Host.Outcome State Fault Refusal :=
  if s.rfRun p then
    let mine (j : Nat) : Bool := (List.range 4).any (fun k => s.notchHeld p k && s.underNotch p k j)
    let t := (List.range 4).foldl (fun u k => u.notchTrack p bins k) s
    let peaks := specPeaks (s.get (rfBase p) Rg.RF_NOTCH_CFG.DET_THR) bins
    let found := (peaks.filter (fun x => !mine x.1)).map (fun x => wordOf x.1)
    let free := t.freeNotches p
    let u := (placeNotches p free found t).eventIf (decide (free.length < found.length)) 28 (rfBase p) Rg.RF_EVT.NOTCH_FULL
    .next (u.jamUpdate p (specPower bins) (specFlat bins))
  else .next s

/-- A port found short: BIAS_CTRL := 2, and RETRY_S begins (R205). -/
def State.biasShort (s : State) (p : Nat) : State :=
  (s.feSpi p (fun r => { r with bias := 2, low := 0, mid := 0, retry := none, short := s.nowNs })).set (rfBase p) Rg.RF_BIAS.STATE 3 |>.refPorts

/-- The end of a bias retry of 10 ms, or its progress by one sample. -/
def State.biasTry (s : State) (p left : Nat) (all hi : Bool) : State :=
  let r := s.rfPort p
  if 1 < left then s.setRf p { r with retry := some (left - 1, all && hi) }
  else if all && hi then s.biasShort p
  else (s.setRf p { r with retry := none }).set (rfBase p) Rg.RF_BIAS.STATE 1 |>.refPorts

/-- Whether port `p` feeds bias and measures it (R205): a port in FAIL goes on feeding. -/
def State.feeding (s : State) (p : Nat) : Bool :=
  s.rfFitted p && s.flag (rfBase p) Rg.RF_CFG.BIAS_FEED && (s.rfPort p).bias != 0

/-- BIAS_SAMPLE (R205): `current` in 0.25 mA. -/
def execBiasSample (p current : Nat) (s : State) : Host.Outcome State Fault Refusal :=
  let b := rfBase p
  if s.feeding p then
    let cur := min current 1023
    let t := s.set b Rg.RF_BIAS.CURRENT cur
    let r := t.rfPort p
    let hi := decide (s.get b Rg.RF_BIAS.SHORT_MA * 4 < cur)
    let under := decide (cur < s.get b Rg.RF_BIAS.OPEN_MA * 4)
    match r.retry with
    | some (left, all) => .next (t.biasTry p left all hi)
    | none =>
      if s.get b Rg.RF_BIAS.STATE = 3 then .next t
      else if hi then .next ((t.biasShort p).event 28 b Rg.RF_EVT.BIAS_SHORT)
      else if under then
        let u := t.setRf p { r with low := r.low + 1, mid := 0 }
        if 100 ≤ r.low + 1 ∧ s.get b Rg.RF_BIAS.STATE ≠ 2 then
          .next ((u.set b Rg.RF_BIAS.STATE 2).event 28 b Rg.RF_EVT.BIAS_OPEN)
        else .next u
      else
        let u := t.setRf p { r with low := 0, mid := r.mid + 1 }
        if 100 ≤ r.mid + 1 then .next (u.set b Rg.RF_BIAS.STATE 1) else .next u
  else .next s

/-- BIAS_RETRY (R205): RETRY_S seconds in SHORT have elapsed, 0 acting as 1; the bias is on for 10 ms. -/
def execBiasRetry (p : Nat) (s : State) : Host.Outcome State Fault Refusal :=
  let wait := max 1 (s.get (rfBase p) Rg.RF_BIAS.RETRY_S) * 1000000000
  if s.feeding p ∧ s.get (rfBase p) Rg.RF_BIAS.STATE = 3 ∧ (s.rfPort p).retry = none ∧ (s.rfPort p).short + wait ≤ s.nowNs then
    .next (s.feSpi p (fun r => { r with retry := some (10, true), bias := 1 }))
  else .next s

/-! ### Acquisition (R208–R213) -/

/-- The slice of the work area of context `q` (R209): its address and its bytes. -/
def State.acqSlice (s : State) (q : Nat) : Nat × Nat :=
  match s.workArea (aqPos q) with
  | some (a, size) => (a + q % 8 * (size / 8), size / 8)
  | none => (0, 0)

/-- NC as it acts. -/
def State.acqNc (s : State) (q : Nat) : Nat := min (max (s.get (aqBase q) Rg.AQ_REQ.NC) 1) 64

/-- The result that refuses a search, in the order of the codes; 0 when it may start. -/
def State.acqRefusal (s : State) (q : Nat) : Nat :=
  let b := aqBase q
  let sig := s.get b Rg.AQ_REQ.SIGNAL
  let p := s.get b Rg.AQ_REQ.PORT
  if !s.rfRun p then 3
  else if (s.acqSlice q).2 < s.acqNc q * 16384 then 4
  else if !s.fits p sig (s.get b Rg.AQ_REQ.K7) then 5
  else if !(signalOk sig (s.get b Rg.AQ_REQ.SVID) (s.get b Rg.AQ_REQ.K7) && (signals[sig]?.map Signal.acq).getD false) then 6
  else 0

/-- The code period of context `q`'s signal in ms. -/
def State.acqPer (s : State) (q : Nat) : Nat := (signals[s.get (aqBase q) Rg.AQ_REQ.SIGNAL]?.map Signal.per).getD 1

/-- The Doppler bins to each side of the centre that the half-width asks for (R208). -/
def State.acqSide (s : State) (q : Nat) : Nat := ceilDiv (s.get (aqBase q) Rg.AQ_DOP.HALF) (500 / s.acqPer q)

/-- Whether the half-width gives more than 1,025 bins (R208). -/
def State.halfLarge (s : State) (q : Nat) : Bool := decide (1025 < 2 * s.acqSide q + 1)

/-- The bins to each side of the centre as they act: 512 at most. -/
def State.acqBins (s : State) (q : Nat) : Nat := min 512 (s.acqSide q)

/-- GO of context `q`. -/
def State.acqGo (s : State) (m : Master) (q : Nat) : State :=
  let b := aqBase q
  let ev := tileEv (aqPos q)
  if s.chainOff m then s
  else if s.flag b Rg.AQ_CTRL.BUSY then s.event ev b Rg.AQ_EVT.BUSY
  else
    let r := s.acqRefusal q
    if r = 0 then
      (s.sets b [(Rg.AQ_CTRL.BUSY, 1), (Rg.AQ_CTRL.RESULT, 0)]).eventIf (s.halfLarge q) ev b Rg.AQ_EVT.HALF_CLAMP
    else s.acqEnd q r

/-- ABORT of context `q` (R213). -/
def State.acqAbort (s : State) (q : Nat) : State :=
  if s.flag (aqBase q) Rg.AQ_CTRL.BUSY then s.acqEnd q 3 else s

/-- ACQ_GO. -/
def execAcqGo (m : Master) (q : Nat) (s : State) : Host.Outcome State Fault Refusal :=
  .next (s.tileWrite m (aqPos q) (q % 8) (0x1010 + q % 8 * 0x100) (fun t => t.acqGo m q))

/-- ACQ_ABORT. -/
def execAcqAbort (m : Master) (q : Nat) (s : State) : Host.Outcome State Fault Refusal :=
  .next (s.tileWrite m (aqPos q) (q % 8) (0x1010 + q % 8 * 0x100) (fun t => t.acqAbort q))

/-- Whether a channel takes aiding: IDLE or LOST with EN at 1. -/
def State.takesAid (s : State) (c : Nat) : Bool :=
  s.chanOn .cor c && s.flag (chBase c) Rg.CH_CTRL.EN && (s.chState c == 0 || s.chState c == 5)

/-- The time of the centre of a sample at the antenna from its arrival at the ball, both in ps (R200): less the fused port delay,
GRP_DELAY and CAL_DELAY. -/
def State.sampleTag (s : State) (p arrive : Nat) : Int :=
  let b := rfBase p
  (arrive : Int) - Config.portDelay p - s.get b Rg.RF_FE_DLY.GRP_DELAY * 100 - s.get b Rg.RF_FE_DLY.CAL_DELAY

/-- The power of a cell. -/
def cellAt (a : AcqCells) (bin code : Nat) : Nat :=
  match a.cells.find? (fun c => c.1 == bin && c.2.1 == code) with
  | some c => c.2.2
  | none => a.floor

/-- The largest listed cell as bin, code and power (R211): the first of several; cell (0, 0) when none is above the rest. -/
def cellTop (a : AcqCells) (nb : Nat) : Nat × Nat × Nat :=
  (a.cells.filter (fun c => decide (c.1 < nb ∧ c.2.1 < 16384))).foldl (fun m c => if m.2.2 < c.2.2 then c else m) (0, 0, a.floor)

/-- Samples between two code phases round the period. -/
def codeGap (x y : Nat) : Nat :=
  let d := if x ≤ y then y - x else x - y
  min d (16384 - d)

/-- The power and the number of the cells that lie more than 2 samples in code phase from the largest, in every bin (R211). -/
def cellRest (a : AcqCells) (nb code : Nat) : Nat × Nat :=
  let far := a.cells.filter (fun c => decide (c.1 < nb ∧ c.2.1 < 16384 ∧ 2 < codeGap c.2.1 code))
  let n := nb * (16384 - 5)
  ((far.map (fun c => c.2.2)).sum + (n - far.length) * a.floor, n)

/-- The place of the top of a parabola through three cells, in 1/8 of their spacing from the middle one (R211). -/
def parabola (place : Nat) (l m r : Nat) : Int :=
  let den : Int := 2 * ((l : Int) - 2 * m + r)
  if den < 0 then clampI (-4) 4 (rnd place (8 * ((r : Int) - l)) (-den).toNat) else 0

/-- The code phase in 2^−16 chip of a code phase in 1/8 sample of an acquisition (R208, R212). -/
def Signal.ofSample (g : Signal) (code : Nat) : Nat := code * g.chips / 2

/-- A detection handed to a channel (R212): code phase and Doppler propagated from AQ_TS to the present instant. -/
def State.acqHand (s : State) (q c : Nat) : State :=
  let b := aqBase q
  match signals[s.get b Rg.AQ_REQ.SIGNAL]? with
  | none => s
  | some g =>
    let dop := s.get b Rg.AQ_RES.DOP
    let code := g.advance (s.get b Rg.AQ_REQ.K7) (g.ofSample (s.get b Rg.AQ_RES.CODE)) ((s.nowNs : Int) - s.get b Rg.AQ_TS.TS)
      (sgn 20 dop * 125)
    s.pullIn c code dop s.now none

/-- ACQ_DONE (R209–R212): the stored periods of the capture, the cells of the search, the C/N0 measured in 0.01 dB-Hz and the
arrival of the first captured sample in ps. A channel of a handover signal starts only from a tracked signal (R206): the context
reports HANDOVER_BUSY (DESIGN CHOICE, log entry 39). -/
def execAcqDone (q : Nat) (capture : List Byte) (cells : AcqCells) (cn0 arrive : Nat) (s : State) :
    Host.Outcome State Fault Refusal :=
  let b := aqBase q
  if s.chanOn .acq q ∧ s.flag b Rg.AQ_CTRL.BUSY then
    let s := (s.memWrite (s.acqSlice q).1 (capture.take (s.acqNc q * 16384))).1
    let side := s.acqBins q
    let nb := 2 * side + 1
    let m := cellTop cells nb
    let r := cellRest cells nb m.2.1
    let hit := decide (10 ^ s.get b Rg.AQ_DOP.THR * r.1 ^ 100 ≤ (m.2.2 * r.2) ^ 100) && m.2.2 != 0
    let t := s.set b Rg.AQ_RES2.PNR (if r.1 = 0 then 0xFFFF else logRnd 84 100 (m.2.2 * r.2) r.1)
    if hit then
      let at_ (i j : Int) : Nat := cellAt cells (m.1 + i).toNat ((m.2.1 + j) % 16384).toNat
      let code := ((8 * (m.2.1 : Int) + parabola 85 (at_ 0 (-1)) m.2.2 (at_ 0 1)) % 131072).toNat
      let edge := decide (m.1 = 0 ∨ m.1 + 1 = nb)
      let step : Int := (500 / s.acqPer q : Nat)
      let fine := if edge then 0 else parabola 86 (at_ (-1) 0) m.2.2 (at_ 1 0)
      let dop := 8 * (s.getS b Rg.AQ_DOP.CENTRE + ((m.1 : Int) - side) * step) + fine * step
      let t := t.sets b [(Rg.AQ_RES.CODE, code), (Rg.AQ_RES.DOP, pat 20 dop), (Rg.AQ_RES2.CN0, cn0),
        (Rg.AQ_TS.TS, (rnd 87 (s.sampleTag (s.get b Rg.AQ_REQ.PORT) arrive) 1000).toNat)]
      let c := s.get b Rg.AQ_REQ.CH
      if !s.flag b Rg.AQ_REQ.AUTO_CH then .next (t.acqEnd q 1)
      else if s.takesAid c ∧ !s.handover c then .next ((t.acqHand q c).acqEnd q 1)
      else .next (t.acqEnd q 7)
    else .next (t.acqEnd q 2)
  else .next s

/-! ### Tracking channels (R214–R216) -/

/-- EN cleared on channel `c`. -/
def State.chDisable (s : State) (c : Nat) : State :=
  ((s.set (chBase c) Rg.CH_CTRL.EN 0).chTo c 0).setTrk c { s.trk c with aid := none }

/-- CH_ENABLE. -/
def execChEnable (m : Master) (c : Nat) (s : State) : Host.Outcome State Fault Refusal :=
  .next (s.tileWrite m (chPos c) (c % 32) (0x1008 + c % 32 * 0x80) (fun t => t.chEnable m c))

/-- CH_DISABLE. -/
def execChDisable (m : Master) (c : Nat) (s : State) : Host.Outcome State Fault Refusal :=
  .next (s.tileWrite m (chPos c) (c % 32) (0x1008 + c % 32 * 0x80) (fun t => t.chDisable c))

/-- A write of CH_AID_AT submits the aiding of CH_AID (R215): it is ignored while the channel runs. -/
def State.chAid (s : State) (m : Master) (c at_ : Nat) : State :=
  let b := chBase c
  if s.chState c = 0 ∨ s.chState c = 5 then
    let t := s.set b Rg.CH_AID_AT.AT at_
    let code := s.get b Rg.CH_AID.CODE
    let dop := s.get b Rg.CH_AID.DOP
    if s.flag b Rg.CH_CTRL.EN ∧ !s.chainOff m then t.pullIn c code dop at_ none
    else t.setTrk c { t.trk c with aid := some (code, dop, at_) }
  else s.chEvent c Rg.CH_EVT.AID_IGN

/-- CH_AID_SUBMIT. -/
def execChAidSubmit (m : Master) (c at_ : Nat) (s : State) : Host.Outcome State Fault Refusal :=
  .next (s.tileWrite m (chPos c) (c % 32) (0x1018 + c % 32 * 0x80) (fun t => t.chAid m c at_))

/-- The lock indicator and C/N0 of a channel shown. -/
def State.chShow (s : State) (c pli cn0 : Nat) : State := s.sets (chBase c) [(Rg.CH_STAT.PLI, pli), (Rg.CH_STAT.CN0, cn0)]

/-- Whether a C/N0 in 0.01 dB-Hz lies below CN0_MIN. -/
def State.cn0Low (s : State) (c cn0 : Nat) : Bool := decide (cn0 < s.get (chBase c) Rg.CH_CTRL.CN0_MIN * 100)

/-- The instant at which REACQ_MAX elapses. -/
def State.reacqEnd (s : State) (c : Nat) : Nat := (s.trk c).since + s.get (chBase c) Rg.CH_CTRL.REACQ_MAX * 100000000

/-- CH_TRACK_LOCK (R215): the lock indicator in 1/255 that has held for 100 ms, C/N0 in 0.01 dB-Hz, the frequency error in mHz, and
how far the code in 2^−16 chip and the Doppler in mHz were found from the aiding or the prediction. From REACQ the lock time starts
again with SLIP set. -/
def execChTrackLock (c pli cn0 freqErr : Nat) (dcode ddop : Int) (s : State) : Host.Outcome State Fault Refusal :=
  let st := s.chState c
  let within := match (s.trk c).win with
    | some w => decide (dcode.natAbs ≤ w.1 ∧ ddop.natAbs ≤ w.2)
    | none => true
  let t := (s.chTo c 2).chShow c pli cn0
  if !s.chanOn .cor c ∨ !within then .next s
  else if st = 1 ∧ freqErr < 5000 ∧ 204 ≤ pli then .next (t.setTrk c { t.trk c with lockAt := s.nowNs, win := none })
  else if st = 4 ∧ s.nowNs ≤ s.reacqEnd c then
    .next ((t.setTrk c { t.trk c with lockAt := s.nowNs, slip := true, win := none }).chEvent c Rg.CH_EVT.SLIP)
  else .next s

/-- CH_PULLIN_FAIL (R215): C/N0 below CN0_MIN for 200 ms, or a second without TRACK. -/
def execChPullinFail (c cn0 : Nat) (s : State) : Host.Outcome State Fault Refusal :=
  if s.chanOn .cor c ∧ s.chState c = 1 ∧ (s.cn0Low c cn0 ∨ (s.trk c).since + 1000000000 ≤ s.nowNs) then
    .next (((s.chTo c 5).set (chBase c) Rg.CH_STAT.CN0 cn0).chEvent c Rg.CH_EVT.LOST)
  else .next s

/-- Whether time aiding resolves the ambiguity (R216): TIME_TERR at most a quarter of the code period, base position known. -/
def State.timeAids (s : State) (c : Nat) : Bool :=
  let per := ((s.chSig c).map Signal.per).getD 1
  decide (s.terr * 4 ≤ per * 1000000) &&
  (List.range 2).any (fun i => s.get (kindBase .obs i) Rg.OB_POS_UNC.SOURCE != 0)

/-- Time aiding (R215, R216): the ambiguity is resolved, and a channel in TRACK becomes SYNCED. -/
def State.aidTime (s : State) (c : Nat) : State :=
  if (s.chState c = 2 ∨ s.chState c = 3) ∧ s.timeAids c then (s.chTo c 3).set (chBase c) Rg.CH_STAT.AMBIG 0 else s

/-- CH_SYNC (R215, R216): symbol and frame synchronisation found, the time of week decoded, the data polarity resolved. -/
def execChSync (c : Nat) (frame tow polarity : Bool) (s : State) : Host.Outcome State Fault Refusal :=
  if s.chanOn .cor c ∧ (s.chState c = 2 ∨ s.chState c = 3) then
    let t := if frame then s.chTo c 3 else s
    let t := if tow then t.set (chBase c) Rg.CH_STAT.AMBIG 0 else t
    .next ((if polarity then t.set (chBase c) Rg.CH_STAT.HALF_CYCLE 0 else t).aidTime c)
  else .next s

/-- CH_LOCK_LOSS (R215): the lock indicator below 0.5 for 20 ms, or C/N0 below CN0_MIN for 100 ms. -/
def execChLockLoss (c pli cn0 : Nat) (s : State) : Host.Outcome State Fault Refusal :=
  if s.chanOn .cor c ∧ (s.chState c = 2 ∨ s.chState c = 3) ∧ (2 * pli < 255 ∨ s.cn0Low c cn0) then
    .next ((s.toReacq c).chShow c pli cn0)
  else .next s

/-- CH_REACQ_TIMEOUT (R215): REACQ_MAX has elapsed. -/
def execChReacqTimeout (c : Nat) (s : State) : Host.Outcome State Fault Refusal :=
  if s.chanOn .cor c ∧ s.chState c = 4 ∧ s.reacqEnd c ≤ s.nowNs then .next ((s.chTo c 5).chEvent c Rg.CH_EVT.LOST) else .next s

/-! ### Measurements (R217) -/

/-- Whether a notch acts: FIXED, LOOP, or ADAPTIVE and placed. -/
def State.notchActs (s : State) (p k : Nat) : Bool :=
  match s.get (notchBase p k) Rg.RF_NOTCH.MODE with
  | 0 => false
  | 2 => s.flag (notchBase p k) Rg.RF_NOTCH.ENGAGED
  | _ => true

/-- Whether a notch acts within a signal's main lobe. -/
def State.notched (s : State) (p sig k7 : Nat) : Bool :=
  match signals[sig]? with
  | none => false
  | some g =>
    let off : Int := (g.carrier k7 - s.get (rfBase p) Rg.RF_FE_FREQ.CENTRE * 10) * 2 ^ 24
    (List.range 4).any (fun k => s.notchActs p k &&
      decide ((s.getS (notchBase p k) Rg.RF_NOTCH.CENTRE * (s.get (rfBase p) Rg.RF_FE_FREQ.RATE * 10 : Nat) - off).natAbs ≤
        g.lobe * 2 ^ 24))

/-- The data words of a measurement item of channel `c` at an epoch. -/
def State.measWords (s : State) (c epoch : Nat) (x : ChMeas) : List Nat :=
  let b := chBase c
  let sig := s.get b Rg.CH_CFG.SIGNAL
  let p := s.get b Rg.CH_CFG.PORT
  let k7 := s.get b Rg.CH_CFG.K7
  let amb := s.flag b Rg.CH_STAT.AMBIG
  let per := (signals[sig]?.map Signal.per).getD 1
  let lock := min ((epoch - (s.trk c).lockAt) / 1000000) (2 ^ 32 - 1)
  let glo := sig == 12 || sig == 13
  [c + sig * 2 ^ 9 + s.get b Rg.CH_CFG.SVID * 2 ^ 14 + (if glo then k7 else 0) * 2 ^ 22 +
     s.get b Rg.CH_STAT.HALF_CYCLE * 2 ^ 26 + b2n (s.trk c).slip * 2 ^ 27 + b2n amb * 2 ^ 28 +
     b2n (!s.flag (rfBase p) Rg.RF_STAT.RATE_OK) * 2 ^ 29 + b2n (s.notched p sig k7) * 2 ^ 30 + lock * 2 ^ 32,
   epoch, if amb then x.tx % (per * 1000000 * 2 ^ 14) else x.tx % 2 ^ 64, x.phase % 2 ^ 64,
   x.dop % 2 ^ 32 + x.cn0 % 2 ^ 16 * 2 ^ 32]

/-- The OBS tile a COR tile is linked to. -/
def State.obsOf (s : State) (pos : Nat) : Option Nat := (tilePositions .obs).find? (fun o => (s.linkTo pos o).isSome)

/-- What a channel's correlators hold when the command brings no measurement of a channel that tracks: free values. -/
def State.freeMeas (s : State) (lane : Nat) : ChMeas :=
  let v (i : Nat) : Nat := (Config.outside (s.free + i)).toNat
  ⟨lane, v 0, v 1, v 2, v 3⟩

/-- A channel's item sent at an epoch, if it tracks; time aiding is judged at the epoch (R216). -/
def State.measItem (s : State) (inst epoch : Nat) (ms : List ChMeas) (lane : Nat) : State :=
  let c := inst * 32 + lane
  if s.chanOn .cor c ∧ (s.chState c = 2 ∨ s.chState c = 3) then
    let s := s.aidTime c
    let r := match ms.find? (fun x => x.lane == lane) with
      | some x => (s, x)
      | none => (s.drawn 4, s.freeMeas lane)
    let x := r.2
    let t := r.1.setTrk c { r.1.trk c with slip := false, meas := some (epoch, x.tx, sgn 32 x.dop) }
    let t := t.set (chBase c) Rg.CH_STAT.CN0 x.cn0
    match s.obsOf (chPos c) with
    | none => t
    | some o => t.emit (chPos c) o 0x20 0 0 0 (s.measWords c epoch x)
  else s

/-- Navigation symbols of a channel that tracks sent to the OBS tile (R217). -/
def State.navSyms (s : State) (inst : Nat) (n : NavSyms) : State :=
  let c := inst * 32 + n.lane
  let b := chBase c
  match s.obsOf (chPos c) with
  | some o =>
    if n.lane < 32 ∧ s.chanOn .cor c ∧ (s.chState c = 2 ∨ s.chState c = 3) then
      s.emit (chPos c) o 0x21 0 0 0 ((c + s.get b Rg.CH_CFG.SIGNAL * 2 ^ 9 + s.get b Rg.CH_CFG.SVID * 2 ^ 14 +
        n.count % 256 * 2 ^ 32) :: n.words.take 12)
    else s
  | none => s

/-- The spacing of a grid code in ns. -/
def epochStep : Nat → Nat
  | 0 => 50000000 | 1 => 100000000 | 2 => 200000000 | 3 => 500000000 | _ => 1000000000

/-- MEAS_EPOCH: the next epoch of COR tile `inst`'s grid has come. The table has no row for navigation symbols on their way to OBS:
`nav` brings those demodulated since the last epoch (DESIGN CHOICE, log entry 39). -/
def execMeasEpoch (inst : Nat) (ms : List ChMeas) (nav : List NavSyms) (s : State) : Host.Outcome State Fault Refusal :=
  let g := s.gnss.grids.getD inst ⟨0, none⟩
  match g.nxt with
  | none => .next s
  | some e =>
    if inst < 16 ∧ e ≤ s.nowNs ∧ s.instanced ((tilePositions .cor).getD inst 99) then
      let t := (List.range 32).foldl (fun u l => u.measItem inst e ms l) s
      let t := nav.foldl (fun u n => u.navSyms inst n) t
      let g' : Grid := { g with nxt := some (e + epochStep g.period) }
      .next { t with gnss := { t.gnss with grids := listSet t.gnss.grids inst g' } }
    else .next s

/-! ### Reactions -/

/-- A second boundary: grids not anchored, or whose PERIOD was written, start at it (R217). -/
def State.gnssSecond (s : State) : State :=
  let anchor (i : Nat) : Grid :=
    let g := s.gnss.grids.getD i ⟨0, none⟩
    let p := s.get (kindBase .cor i) Rg.CH_EPOCH.PERIOD
    if g.nxt = none ∨ g.period ≠ p then ⟨p, some s.time.bound⟩ else g
  { s with gnss := { s.gnss with grids := (List.range 16).map anchor } }

/-- Every instant of the chain moved with the label of the scale. -/
def State.gnssRelabel (s : State) (off : Int) : State :=
  let mv (n : Nat) : Nat := ((n : Int) + off).toNat
  { s with gnss := { s.gnss with
      ports := s.gnss.ports.map (fun r => { r with short := mv r.short }),
      grids := s.gnss.grids.map (fun g => { g with nxt := g.nxt.map mv }),
      chans := s.gnss.chans.map (fun p => (p.1, { p.2 with
        aid := p.2.aid.map (fun a => (a.1, a.2.1, mv a.2.2)), lockAt := mv p.2.lockAt, since := mv p.2.since,
        meas := p.2.meas.map (fun m => (mv m.1, m.2)) })) } }

/-- A time step: no item until the next second boundary (R217); lock times go on. -/
def State.gnssStepped (s : State) (off : Int) : State :=
  let t := s.gnssRelabel off
  { t with gnss := { t.gnss with grids := t.gnss.grids.map (fun g => { g with nxt := none }) } }

/-- The commit of a change to DORMANT or MAINTENANCE (R223): ports off, searches ABORTED, channels IDLE. -/
def State.gnssOff (s : State) : State :=
  let t := eachOf (fun q u => u.acqAbort q) 32 s
  let t := eachOf (fun c u => if u.chState c = 0 then u else u.chTo c 0) 512 t
  eachOf (fun p u => if u.rfFitted p ∧ u.get (rfBase p) Rg.RF_STAT.STATE ≠ 0 then
    (u.sets (rfBase p) [(Rg.RF_STAT.STATE, 0), (Rg.RF_BIAS.STATE, 0)]).feSpi p (fun r => { r with bias := 0, retry := none, learn := none })
    else u) 8 t |>.refPorts

end Sys2Proof.Machine
end

