-- ==== Sys2Proof/Machine/Rtcm.lean ====
section
/-! DEFINITION. RTCM 10403.3 (R244–R248): the transport frame, the multiple signal messages MSM4 and MSM7 and the station messages,
field by field. The spec names the standard and gives the widths (R246 and the worked example of chapter 07); the order of the
fields and their resolutions are the standard's (PRESUMED, log entry 6). -/

namespace Sys2Proof.Machine

/-! ### Frames -/

/-- The RTCM frame of a payload (R244). -/
def rtcmFrame (payload : List Byte) : List Byte :=
  let n := payload.length
  let head := [0xD3, BitVec.ofNat 8 (n / 256 % 4), BitVec.ofNat 8 n] ++ payload
  let c := crc24q head
  head ++ [BitVec.ofNat 8 (c / 65536), BitVec.ofNat 8 (c / 256), BitVec.ofNat 8 c]

/-- Bits of fields, first sent first, packed into bytes most significant bit first. -/
def packBits (fs : List (Nat × Nat)) : List Byte :=
  let len := (fs.map (·.1)).sum
  let v := fs.foldl (fun a f => a * 2 ^ f.1 + f.2 % 2 ^ f.1) 0
  let n := ceilDiv len 8
  (leBytes n (v * 2 ^ (n * 8 - len))).reverse

/-- A signed field, or the value that marks it invalid where it does not fit: the most negative number. -/
def fitS (w : Nat) (i : Int) : Nat × Nat := (w, if satS w i = i then pat w i else 2 ^ (w - 1))

/-! ### Multiple signal messages -/

/-- The system of a record's signal. -/
def recSys (r : ObsRec) : Nat := (signals[r.sig]?.map Signal.sys).getD 0
/-- The band of a record's signal. -/
def recBand (r : ObsRec) : Nat := (signals[r.sig]?.map Signal.band).getD 0

/-- The satellite ID of a record: its SVID, for QZSS less 192 (R245). -/
def recSat (r : ObsRec) : Nat := if recSys r = 4 then r.svid - 192 else r.svid

/-- The signal mask number that the standard gives to the observation code of each signal (R245): 1C, 1L, 2S, 5Q; 1C, 5Q, 7Q, 6C;
2I, 1P, 5P, 6I; 1C, 2C; 1C, 1L, 2S, 5Q. -/
def sigMask : List Nat := [2, 31, 15, 23, 2, 23, 15, 8, 2, 31, 23, 8, 2, 8, 2, 31, 15, 23]

/-- The signal ID of a record. -/
def recSig (r : ObsRec) : Nat := sigMask.getD r.sig 0

/-- The distinct numbers of a list in rising order. -/
def distinct (l : List Nat) : List Nat := (l.mergeSort (· ≤ ·)).dedup

/-- A mask of `n` bits, number 1 first. -/
def maskOf (n : Nat) (l : List Nat) : List (Nat × Nat) := (List.range n).map (fun i => (1, b2n (l.contains (i + 1))))

/-- A range of 2^−16 mm in 2^−`k` ms, to the nearest. -/
def inMs (k : Nat) (r : Int) : Int := roundDiv (r * 2 ^ k) (65536 * 299792458)

/-- DF402 from a lock time in ms. -/
def lock4 (t : Nat) : Nat := if t < 32 then 0 else min 15 (Nat.log2 t - 4)

/-- DF407 from a lock time in ms. -/
def lock10 (t : Nat) : Nat :=
  if t < 64 then t else let k := min (Nat.log2 t) 26 - 5; min 704 (32 * k + t / 2 ^ k)

/-- The rough range of a satellite in 2^−10 ms: that of its first cell, to the nearest. -/
def roughRange (l : List ObsRec) : Int := inMs 10 ((l.head?.map (·.rng)).getD 0)

/-- The rough phaserange rate of a satellite in m/s, from a rate in 2^−10 mm/s. -/
def roughRate (l : List ObsRec) : Int := roundDiv ((l.head?.map (·.rate)).getD 0) (1024 * 1000)

/-- DF397 of a rough range: whole ms, 255 where it does not fit. -/
def wholeMs (x : Int) : Nat × Nat := (8, if 0 ≤ x ∧ x < 255 * 1024 then (x / 1024).toNat else 255)

/-- The satellite fields of an MSM4 (`cls` 0) or MSM7: each inner list is one satellite's cells. -/
def satFields (cls : Nat) (g : List (List ObsRec)) : List (Nat × Nat) :=
  g.map (fun l => wholeMs (roughRange l)) ++
  (if cls = 0 then [] else g.map (fun l => (4, (l.head?.map (fun r => if recSys r = 3 then r.k7 else 0)).getD 0))) ++
  g.map (fun l => (10, (roughRange l % 1024).toNat)) ++
  (if cls = 0 then [] else g.map (fun l => fitS 14 (roughRate l)))

/-- The cells of a message with the rough range and rate of their satellite. -/
def roughCells (g : List (List ObsRec)) : List (ObsRec × Int × Int) :=
  g.flatMap (fun l => l.map (fun r => (r, roughRange l, roughRate l)))

/-- The signal fields of an MSM4: fine pseudorange, fine phaserange, lock time, HALF_CYCLE, C/N0. -/
def cells4 (c : List (ObsRec × Int × Int)) : List (Nat × Nat) :=
  c.map (fun x => fitS 15 (inMs 24 x.1.rng - x.2.1 * 2 ^ 14)) ++ c.map (fun x => fitS 22 (inMs 29 x.1.phr - x.2.1 * 2 ^ 19)) ++
  c.map (fun x => (4, lock4 x.1.lock)) ++ c.map (fun x => (1, b2n x.1.half)) ++
  c.map (fun x => (6, min 63 ((x.1.cn0 + 50) / 100)))

/-- The signal fields of an MSM7, with the extended resolutions and the fine phaserange rate. -/
def cells7 (c : List (ObsRec × Int × Int)) : List (Nat × Nat) :=
  c.map (fun x => fitS 20 (inMs 29 x.1.rng - x.2.1 * 2 ^ 19)) ++ c.map (fun x => fitS 24 (inMs 31 x.1.phr - x.2.1 * 2 ^ 21)) ++
  c.map (fun x => (10, lock10 x.1.lock)) ++ c.map (fun x => (1, b2n x.1.half)) ++
  c.map (fun x => (10, min 1023 ((x.1.cn0 * 16 + 50) / 100))) ++
  c.map (fun x => fitS 15 (roundDiv (x.1.rate * 10) 1024 - x.2.2 * 10000))

/-- What the MSMs of one constellation and epoch share: number, station, epoch time with its width, IODS, DF411 and DF412. -/
structure MsmHead where
  num     : Nat
  station : Nat
  time    : List (Nat × Nat)
  iods    : Nat
  clock   : Nat
  extClk  : Nat
  deriving DecidableEq, Repr

/-- One satellite's cells in rising order of signal, one per signal. -/
def satCells (cells : List ObsRec) (sat : Nat) : List ObsRec :=
  (distinct ((cells.filter (fun r => recSat r == sat)).map recSig)).filterMap
    (fun g => cells.find? (fun r => recSat r == sat && recSig r == g))

/-- The payload of an MSM: 169 header bits with DF393 `more` and DF417 and DF418 at 0, the cell mask, satellite and signal fields
(R245). -/
def msmPayload (h : MsmHead) (cls : Nat) (more : Bool) (sats sigs : List Nat) (cells : List ObsRec) : List Byte :=
  let g := sats.map (satCells cells)
  let mask := sats.flatMap (fun s => sigs.map (fun x => (1, b2n ((satCells cells s).any (fun r => recSig r == x)))))
  packBits ([(12, h.num), (12, h.station)] ++ h.time ++
    [(1, b2n more), (3, h.iods), (7, 0), (2, h.clock), (2, h.extClk), (1, 0), (3, 0)] ++ maskOf 64 sats ++ maskOf 32 sigs ++ mask ++
    satFields cls g ++ (if cls = 0 then cells4 (roughCells g) else cells7 (roughCells g)))

/-! ### Station messages -/

/-- A text of a descriptor slot: its character count, then the characters. -/
def textFields (slot : List Byte) : List (Nat × Nat) :=
  let n := min 31 (slot.headD 0).toNat
  (8, n) :: ((slot.drop 1).take n).map (fun b => (8, b.toNat))

/-- The body of 1005, which begins 1006 too: station, indicators of the constellations encoded, ECEF in 0.1 mm. The single-oscillator,
reference-station and quarter-cycle indicators are 0 (DESIGN CHOICE, log entry 40). -/
def arpFields (num station sel : Nat) (p : Int × Int × Int) : List (Nat × Nat) :=
  [(12, num), (12, station), (6, 0), (1, bits 0 1 sel), (1, bits 1 1 sel), (1, bits 2 1 sel), (1, 0), (38, pat 38 (p.1 * 10)), (1, 0),
   (1, 0), (38, pat 38 (p.2.1 * 10)), (2, 0), (38, pat 38 (p.2.2 * 10))]

/-- 1008: antenna descriptor, setup ID and serial number. -/
def antennaFields (num station setup : Nat) (d : List (List Byte)) : List (Nat × Nat) :=
  [(12, num), (12, station)] ++ textFields (d.getD 0 []) ++ [(8, setup)] ++ textFields (d.getD 1 [])

/-- 1033: as 1008, then receiver type, firmware and serial number. -/
def receiverFields (num station setup : Nat) (d : List (List Byte)) : List (Nat × Nat) :=
  antennaFields num station setup d ++ textFields (d.getD 2 []) ++ textFields (d.getD 3 []) ++ textFields (d.getD 4 [])

/-- 1230: GLONASS code-phase biases of L1 C/A and L2 C/A. -/
def biasFields (num station aligned l1 l2 : Nat) : List (Nat × Nat) :=
  [(12, num), (12, station), (1, aligned), (3, 0), (4, 0b1010), (16, l1), (16, l2)]

end Sys2Proof.Machine
end

