-- ==== Sys2Proof/Machine/Obs.lean ====
section
/-! DEFINITION. The reference station (R224–R252): contexts and epochs, survey, integrity, corrections. -/

namespace Sys2Proof.Machine

/-- Whether the mode lets the OBS tiles run (R242). -/
def State.obMode (s : State) : Bool := s.mode == .survey || s.mode == .service || s.mode == .holdover
/-- Whether OBS tile `i` runs: instanced, powered, in a mode that runs it, one encoder in the device (R224). -/
def State.obOn (s : State) (i : Nat) : Bool :=
  decide (i < 2) && s.instanced (obPos i) && s.on .fa && s.obMode && !(s.ob i).idle

/-! ### Messages on the way out (R249–R252) -/

/-- The base of output `n` of tile `i`. -/
def outBase (i n : Nat) : Nat := obBase i + n * 8

/-- The first waiting message of an output placed in a ring slot and its item sent; none when the output stalls. -/
def State.outSend (s : State) (i n : Nat) (c : CorrOut) : Option State :=
  let dst := s.get (outBase i n) Rg.OB_OUT.DST
  match s.takeSlot (obPos i) dst with
  | none => none
  | some (t, slot) =>
    let t := (t.memWrite (s.slotAddr (obPos i) dst slot) c.frame).1
    t.sendItem (obPos i) dst 0x30 (if dst = 82 then s.get (outBase i n) Rg.OB_OUT.FLOW else 0) 0 0 false
      [slot % 4096 + c.head * 2 ^ 12, c.epoch]

/-- The waiting messages of an output sent while it can take them. -/
def outDrain (i n : Nat) : Nat → State → State
  | 0, s => s
  | f + 1, s =>
    match (s.ob i).outs.getD n [] with
    | [] => s
    | c :: t =>
      match s.outSend i n c with
      | none => s
      | some u => outDrain i n f (u.setOb i { u.ob i with outs := listSet (u.ob i).outs n t })

/-- The latency of epoch `e` as it ends now (R252): OB_LAT in µs, and LATE_EPOCH past 5 ms. -/
def State.latency (s : State) (i e : Nat) : State :=
  let b := obBase i
  let ns := s.nowNs - e
  let us := min (rnd 91 ns 1000).toNat 0xFFFF
  (s.sets b [(Rg.OB_LAT.LAST, us), (Rg.OB_LAT.MAX, max us (s.get b Rg.OB_LAT.MAX))]).obEventIf (decide (5000000 < ns)) i
    Rg.OB_EVT.LATE_EPOCH

/-- The epoch under way is through once every output has taken its last item (R252). -/
def State.queued (s : State) (i : Nat) : State :=
  match (s.ob i).late with
  | none => s
  | some e => if (s.ob i).outs.all (fun l => l.isEmpty) then (s.setOb i { s.ob i with late := none }).latency i e else s

/-- Every output of tile `i` served. -/
def State.outsDrain (s : State) (i : Nat) : State :=
  if s.obOn i then
    ((List.range 4).foldl (fun t n => outDrain i n ((t.ob i).outs.getD n []).length t) s).queued i
  else s

/-- The messages of an epoch put on output `n`; those of an older epoch that still wait are discarded (R251). -/
def State.outPut (s : State) (i n : Nat) (l : List CorrOut) : State :=
  let old := ((s.ob i).outs.getD n []).length
  let t := (s.count (obBase i) Rg.OB_CNT2.OUT_DROP old).obEventIf (old != 0) i Rg.OB_EVT.OUT_DROP
  let u := t.setOb i { t.ob i with outs := listSet (t.ob i).outs n l }
  outDrain i n l.length u

/-- CREDIT_RETURN: a returned credit reaches the producer (R43); an output of the encoder that stalled for it goes on (R251). -/
def execCreditReturn (link : Nat) (s : State) : Host.Outcome State Fault Refusal :=
  .next (((s.creditBack link).outsDrain 0).outsDrain 1)

/-! ### Observables (R227) -/

/-- The time of week in ns of a signal's system at an instant of the device scale. -/
def State.weekNs (s : State) (sys t : Nat) : Nat :=
  let sec : Int := match sys with
    | 2 => -(315964800 + 33)
    | 3 => 10800 - 315964800 - s.getS bTime Rg.UTC_CTRL.UTC_OFS
    | _ => -(315964800 + 19)
  (((t : Int) + sec * 1000000000) % (604800 * 1000000000 : Nat)).toNat

/-- A pseudorange in 2^−16 mm: c × (epoch in the signal's system time − transmit time), taken within half a week. -/
def pseudorange (week tx : Nat) : Int :=
  let w : Int := 604800 * 1000000000 * 2 ^ 14
  let d := (((week : Int) * 2 ^ 14 - tx) + w / 2) % w - w / 2
  rnd 20 (d * 299792458) 250000

/-- Cycles in 2^−24 as a range in 2^−16 mm: carrier in 100 Hz. -/
def cyclesToRange (c car : Int) : Int := rnd 21 (c * 299792458000) (2 ^ 8 * 100 * car.toNat)

/-- The whole cycles nearest to a difference of ranges in 2^−16 mm. -/
def wholeCycles (d car : Int) : Int := roundDiv (d * (car * 100)) (299792458000 * 65536)

/-- Word 0 of an item: channel, signal, SVID, K + 7. -/
def itemChan (w : Nat) : Nat := bits 0 9 w
/-- The signal code of an item. -/
def itemSig (w : Nat) : Nat := bits 9 5 w
/-- The SVID of an item. -/
def itemSvid (w : Nat) : Nat := bits 14 8 w

/-- The antenna of a channel, from its port (R193). -/
def State.chAnt (s : State) (c : Nat) : Nat := s.get (chBase c) Rg.CH_CFG.PORT / 4

/-- The direction that orbit data give for a satellite. -/
def ObsTile.dir (o : ObsTile) (sys svid : Nat) : Option SatDir := o.dirs.find? (fun d => d.sys == sys && d.svid == svid)

/-- Whether a lock begins with an item: the first of its channel, one whose lock time is shorter than the time since the item
before, or one with a slip, which restarts the encoded lock (R228; DEDUCED, log entry 41). -/
def ObsArm.starts (m : ObsArm) (e : Nat) (slip : Bool) : Bool :=
  let w := m.item.headD 0
  slip || m.last == 0 || m.chan != some (itemChan w) || decide (m.last + bits 32 32 w * 1000000 < e)

/-- An observable formed from an antenna's item at an epoch; the arm carries its lock and cycle state on. A measurement with AMBIG
or RATE, without orbit data or below the mask is excluded (R228). -/
def State.formRec (s : State) (i e ant : Nat) (c : ObsCtx) (m : ObsArm) : ObsRec × ObsArm :=
  let w := m.item.headD 0
  let sig := itemSig w
  let car := (signals[sig]?.map (fun g => g.carrier (if g.sys = 3 then bits 22 4 w else 7))).getD 1
  let sys := (signals[sig]?.map Signal.sys).getD 0
  let rng := pseudorange (s.weekNs sys e) (m.item.getD 2 0)
  let ph := -(sgn 64 (m.item.getD 3 0))
  let slip := bitOf 27 w || (s.ob i).restart
  let n := if m.starts e slip then wholeCycles (rng - cyclesToRange ph car) car else m.cycles
  let since := if slip then e else m.since
  let lock := min (bits 32 32 w) ((e - since) / 1000000)
  let el := sgn 16 (s.get (ctxBase i c.idx) Rg.OB_CTX.EL)
  let excl := bitOf 28 w || bitOf 29 w || ((s.ob i).dir sys (itemSvid w)).isNone ||
    decide (el < min (s.get (obBase i) Rg.OB_CFG.ELEV_MASK) 90 * 100)
  (⟨e, ant, sig, itemSvid w, bits 22 4 w, bitOf 26 w, slip, excl, s.get (ctxBase i c.idx) Rg.OB_CTX.AZ, el, rng,
    cyclesToRange (ph + n * 2 ^ 24) car, rnd 22 (-(sgn 32 (bits 0 32 (m.item.getD 4 0))) * 299792458000 * 1024) (100000 * car.toNat),
    bits 32 16 (m.item.getD 4 0), lock⟩,
   { item := [], prev := true, chan := some (itemChan w), last := e, since := since, cycles := n })

/-- The observables of both antennas of a context at an epoch, and the context carried to the next epoch. -/
def State.formCtx (s : State) (i e : Nat) (c : ObsCtx) : List ObsRec × ObsCtx :=
  let one (ant : Nat) (m : ObsArm) : List ObsRec × ObsArm :=
    if m.item = [] then ([], { m with prev := false })
    else let r := s.formRec i e ant c m; ([r.1], r.2)
  let a := one 0 c.a
  let b := one 1 c.b
  let none_ := a.1 = [] ∧ b.1 = []
  (a.1 ++ b.1, { c with a := a.2, b := b.2, miss := if none_ then c.miss + 1 else 0 })

/-- The data words of a TYPE 0x22 item: the model's layout of an observable record. -/
def recWords (r : ObsRec) : List Nat :=
  [r.sig + r.svid * 2 ^ 5 + r.k7 * 2 ^ 13 + r.ant * 2 ^ 17 + b2n r.half * 2 ^ 18 + b2n r.slip * 2 ^ 19 + b2n r.excl * 2 ^ 20 +
     r.lock % 2 ^ 32 * 2 ^ 32, r.epoch, pat 64 r.rng, pat 64 r.phr, pat 32 r.rate + r.cn0 * 2 ^ 32, r.az + pat 16 r.el * 2 ^ 16]

/-- The record of a TYPE 0x22 item. -/
def wordsRec (l : List Nat) : ObsRec :=
  let w := l.getD 0 0
  ⟨l.getD 1 0, bits 17 1 w, bits 0 5 w, bits 5 8 w, bits 13 4 w, bitOf 18 w, bitOf 19 w, bitOf 20 w, bits 0 16 (l.getD 5 0),
   sgn 16 (bits 16 16 (l.getD 5 0)), sgn 64 (l.getD 2 0), sgn 64 (l.getD 3 0), sgn 32 (bits 0 32 (l.getD 4 0)),
   bits 32 16 (l.getD 4 0), bits 32 32 w⟩

/-! ### Phase-centre compensation (R229) -/

/-- The TAG of the lookup that serves a record: antenna × 4 + band, system and SVID. -/
def recTag (r : ObsRec) : Nat := r.ant * 4 + recBand r + recSys r * 8 + r.svid * 64

/-- The OB_PCV byte of a record's antenna and band. -/
def State.pcvByte (s : State) (i : Nat) (r : ObsRec) : Nat := bits ((r.ant * 4 + recBand r) * 8) 8 (s.get (obBase i) Rg.OB_PCV.MAP)

/-- A reply applied to a record: pseudorange and phaserange reduced by a value in Q16.16 mm; CLAMP excludes it. -/
def ObsRec.pcv (r : ObsRec) (v : Option Int) : ObsRec :=
  match v with
  | some x => { r with rng := r.rng - x, phr := r.phr - x }
  | none => { r with excl := true }

/-- A reply to the lookup of an epoch and TAG: the records it serves are compensated, those that CLAMP excludes counted. -/
def State.pcvReply (s : State) (i e tag : Nat) (v : Option Int) : State :=
  let o := s.ob i
  let hit (r : ObsRec) : Bool := r.epoch == e && recTag r == tag
  let looks := o.looks.map (fun l => if l.epoch = e ∧ l.tag = tag then { l with reply := some v } else l)
  let t := s.setOb i { o with recs := o.recs.map (fun r => if hit r then r.pcv v else r), looks := looks }
  if v = none then t.count (obBase i) Rg.OB_CNT2.PCV_ERR (o.recs.filter hit).length else t

/-- The lookup sent, or answered with CLAMP at once where the lane is not enabled or a link is missing. -/
def State.askPcv (s : State) (i : Nat) (r : ObsRec) : State :=
  let l := bits 0 6 (s.pcvByte i r)
  let t := s.setOb i { s.ob i with looks := (s.ob i).looks ++ [⟨r.epoch, recTag r, none⟩] }
  if s.chanOn .loop l ∧ s.linked (obPos i) (loopPos l) then
    t.emit (obPos i) (loopPos l) 0x10 0 0 (l % 16) [r.az + pat 16 r.el * 2 ^ 16 + recTag r * 2 ^ 32]
  else t.pcvReply i r.epoch (recTag r) none

/-- A record taken by the encoder: its lookup is sent unless one of its satellite, antenna and band has been, whose reply then serves
it too. -/
def State.addRec (s : State) (i : Nat) (r : ObsRec) : State :=
  let keep (t : State) (x : ObsRec) : State := t.setOb i { t.ob i with recs := (t.ob i).recs ++ [x] }
  if !bitOf 7 (s.pcvByte i r) then keep s r
  else match (s.ob i).looks.find? (fun l => l.epoch == r.epoch && l.tag == recTag r) with
    | some l =>
      (match l.reply with
       | none => keep s r
       | some v => (keep s (r.pcv v)).count (obBase i) Rg.OB_CNT2.PCV_ERR (if v = none then 1 else 0))
    | none => (keep s r).askPcv i r

/-! ### Closing an epoch (R225, R227) -/

/-- The fields of a context that is freed. -/
def ctxZero : List (Fld × Nat) :=
  [(Rg.OB_CTX.VALID, 0), (Rg.OB_CTX.SIGNAL, 0), (Rg.OB_CTX.SVID, 0), (Rg.OB_CTX.CH_A, 0), (Rg.OB_CTX.CH_B, 0), (Rg.OB_CTX.AZ, 0),
   (Rg.OB_CTX.EL, 0)]

/-- Contexts without an item for 3 epochs freed. -/
def State.freeCtxs (s : State) (i : Nat) : State :=
  let o := s.ob i
  let gone := o.ctxs.filter (fun c => 3 ≤ c.miss)
  let t := gone.foldl (fun u c => u.sets (ctxBase i c.idx) ctxZero) s
  t.setOb i { o with ctxs := o.ctxs.filter (fun c => c.miss < 3) }

/-- Records of a tile that is not the encoder sent to the encoder. -/
def State.forward (s : State) (i : Nat) (l : List ObsRec) : State :=
  match s.encoder with
  | none => s
  | some k => l.foldl (fun t r => t.emit (obPos i) (obPos k) 0x22 0 0 0 (recWords r)) s

/-- Epoch `e` of tile `i` closes: each exclusion counts, the encoder keeps its observables and sends their lookups, the other tile
forwards them. -/
def State.closeAt (s : State) (i e : Nat) : State :=
  let o := s.ob i
  let fs := o.ctxs.map (s.formCtx i e)
  let recs := (fs.map (·.1)).flatten
  let t := s.setOb i { o with open_ := none, closed := e, ctxs := fs.map (·.2), restart := false }
  let t := (t.freeCtxs i).count (obBase i) Rg.OB_CNT.EXCLUDED (recs.filter (·.excl)).length
  if s.isEnc i then
    let o := t.ob i
    let u := t.setOb i { o with recs := o.recs.filter (fun r => e ≤ r.epoch), looks := o.looks.filter (fun l => e ≤ l.epoch),
                                ready := some e, sidc := o.sidcNext }
    recs.foldl (fun u r => u.addRec i r) u
  else t.forward i recs

/-- The open epoch of tile `i` closes. -/
def State.closeEpoch (s : State) (i : Nat) : State :=
  match (s.ob i).open_ with
  | none => s
  | some e => s.closeAt i e

/-- Whether every antenna of every context that held an item at the previous epoch has one now. Where none held an item, CLOSE alone
ends the epoch (DEDUCED, log entry 41). -/
def ObsTile.complete (o : ObsTile) : Bool :=
  o.ctxs.any (fun c => c.a.prev || c.b.prev) &&
  o.ctxs.all (fun c => (!c.a.prev || c.a.item != []) && (!c.b.prev || c.b.item != []))

/-- The ns from the last second boundary of the grid to an epoch, within a second; none before the first boundary. -/
def ObsTile.inSecond (o : ObsTile) (e : Nat) : Option Nat := o.grid.nxt.map (fun a => (((e : Int) - a) % 1000000000).toNat)

/-- Whether an epoch lies on the grid anchored at the second boundary. -/
def ObsTile.onGrid (o : ObsTile) (e : Nat) : Bool :=
  match o.inSecond e with
  | some x => x % epochStep o.grid.period == 0
  | none => false

/-- Whether an epoch lies on a second boundary. -/
def ObsTile.whole (o : ObsTile) (e : Nat) : Bool := o.inSecond e == some 0

/-- The epoch that closes next: the one that collects items, or the first of the grid after the last one closed. -/
def ObsTile.nextEpoch (o : ObsTile) : Option Nat :=
  match o.open_ with
  | some e => some e
  | none => o.grid.nxt.map (fun a =>
      let d := epochStep o.grid.period
      if o.closed < a then a else a + ((o.closed - a) / d + 1) * d)

/-- The context of a key. -/
def State.ctxFor (s : State) (i sig svid : Nat) : Option ObsCtx :=
  (s.ob i).ctxs.find? (fun c => s.get (ctxBase i c.idx) Rg.OB_CTX.SIGNAL == sig && s.get (ctxBase i c.idx) Rg.OB_CTX.SVID == svid)

/-- A context replaced, or added. -/
def ObsTile.putCtx (o : ObsTile) (c : ObsCtx) : ObsTile := { o with ctxs := c :: o.ctxs.filter (fun x => x.idx != c.idx) }

/-- A free context for a key, if one is left. -/
def State.newCtx (s : State) (i sig svid : Nat) : Option (State × ObsCtx) :=
  match (List.range (s.lanesAt (obPos i))).find? (fun k => !(s.ob i).ctxs.any (fun c => c.idx == k)) with
  | none => none
  | some k =>
    let d := ((s.ob i).dir ((signals[sig]?.map Signal.sys).getD 0) svid).getD ⟨0, svid, 0, 0⟩
    let arm : ObsArm := ⟨[], false, none, 0, 0, 0⟩
    some (s.sets (ctxBase i k) [(Rg.OB_CTX.VALID, 1), (Rg.OB_CTX.SIGNAL, sig), (Rg.OB_CTX.SVID, svid), (Rg.OB_CTX.AZ, d.az % 36000),
      (Rg.OB_CTX.EL, pat 16 d.el)], ⟨k, 0, arm, arm⟩)

/-- An item filed in an antenna's arm of a context; of two channels the lower number is used (R225). -/
def State.fileIn (s : State) (i : Nat) (c : ObsCtx) (words : List Nat) : State :=
  let ch := itemChan (words.headD 0)
  let ant := s.chAnt ch
  let arm := if ant = 0 then c.a else c.b
  let old := itemChan (arm.item.headD 0)
  let t := if arm.item ≠ [] ∧ old ≠ ch then s.count (obBase i) Rg.OB_CNT2.DUP 1 else s
  if arm.item ≠ [] ∧ old < ch then t
  else
    let arm := { arm with item := words }
    let t := t.set (ctxBase i c.idx) (if ant = 0 then Rg.OB_CTX.CH_A else Rg.OB_CTX.CH_B) ch
    t.setOb i ((t.ob i).putCtx (if ant = 0 then { c with a := arm } else { c with b := arm }))

/-- The epochs before `e` that have not closed close, so that a context without an item for 3 epochs is freed. -/
def State.catchUp (i e : Nat) : Nat → State → State
  | 0, s => s
  | f + 1, s =>
    match (s.ob i).nextEpoch with
    | some x => if x < e then State.catchUp i e f (s.closeAt i x) else s
    | none => s

/-- A measurement item taken by tile `i`. -/
def State.fileItem (s : State) (i : Nat) (words : List Nat) : State :=
  let e := words.getD 1 0
  let o := s.ob i
  if !o.onGrid e then s.count (obBase i) Rg.OB_CNT.OFFGRID 1
  else if e ≤ o.closed ∨ e < o.open_.getD 0 then s.count (obBase i) Rg.OB_CNT.LATE 1
  else
    let s := State.catchUp i e 20 s
    let s := s.setOb i { s.ob i with open_ := some e }
    let sig := itemSig (words.headD 0)
    let svid := itemSvid (words.headD 0)
    let t := match s.ctxFor i sig svid with
      | some c => s.fileIn i c words
      | none => match s.newCtx i sig svid with
        | some (u, c) => u.fileIn i c words
        | none => (s.count (obBase i) Rg.OB_CNT.CTX_FULL 1).obEvent i Rg.OB_EVT.CTX_FULL
    if (t.ob i).complete then t.closeEpoch i else t

/-- MEAS_ITEM. -/
def execMeasItem (inst : Nat) (s : State) : Host.Outcome State Fault Refusal :=
  match s.item (obPos inst) 0x20 with
  | none => .next s
  | some (_, q) =>
    let t := s.taken (obPos inst) 0x20
    .next (if s.obOn inst then (t.outsDrain inst).fileItem inst q.data else t)

/-- A direction taken: the satellite's contexts show it. -/
def State.setDir (s : State) (i : Nat) (d : SatDir) : State :=
  let o := s.ob i
  let same (c : ObsCtx) : Bool := s.get (ctxBase i c.idx) Rg.OB_CTX.SVID == d.svid &&
    (signals[s.get (ctxBase i c.idx) Rg.OB_CTX.SIGNAL]?.map Signal.sys) == some d.sys
  let t := (o.ctxs.filter same).foldl (fun u c => u.sets (ctxBase i c.idx) [(Rg.OB_CTX.AZ, d.az % 36000), (Rg.OB_CTX.EL, pat 16 d.el)]) s
  t.setOb i { o with dirs := d :: o.dirs.filter (fun x => !(x.sys == d.sys && x.svid == d.svid)) }

/-- NAV_ITEM: navigation symbols decoded. `azel` is what the decoded orbit gives for the satellite, azimuth in 0.01° and signed
elevation in 0.01°; none when no orbit data result. -/
def execNavItem (inst : Nat) (azel : Option (Nat × Int)) (s : State) : Host.Outcome State Fault Refusal :=
  match s.item (obPos inst) 0x21 with
  | none => .next s
  | some (_, q) =>
    let t := s.taken (obPos inst) 0x21
    match azel, signals[itemSig (q.data.headD 0)]? with
    | some (az, el), some g => .next (if s.obOn inst then t.setDir inst ⟨g.sys, itemSvid (q.data.headD 0), az, el⟩ else t)
    | _, _ => .next t

/-- OBS_FORWARD_ITEM: an observable of the other tile reaches the encoder. -/
def execObsForwardItem (inst : Nat) (s : State) : Host.Outcome State Fault Refusal :=
  match s.item (obPos inst) 0x22 with
  | none => .next s
  | some (_, q) =>
    let r := wordsRec q.data
    let o := s.ob inst
    let t := s.taken (obPos inst) 0x22
    .next (if s.obOn inst ∧ s.isEnc inst ∧ (o.ready = some r.epoch ∨ o.closed < r.epoch) then t.addRec inst r else t)

/-- CLOSE as it acts, in µs. -/
def State.closeUs (s : State) (i : Nat) : Nat :=
  let c := s.get (obBase i) Rg.OB_CFG.CLOSE
  if 100 ≤ c ∧ c ≤ 1000 then c else 400

/-- EPOCH_CLOSE_TIMEOUT: an epoch whose CLOSE has passed ends, with or without items. -/
def execEpochCloseTimeout (inst : Nat) (s : State) : Host.Outcome State Fault Refusal :=
  match (s.ob inst).nextEpoch with
  | none => .next s
  | some e =>
    if s.obOn inst ∧ e + s.closeUs inst * 1000 ≤ s.nowNs then .next ((s.outsDrain inst).closeAt inst e) else .next s

/-- LOOKUP_REPLY: the value in Q16.16 mm, or CLAMP. -/
def execLookupReply (inst : Nat) (s : State) : Host.Outcome State Fault Refusal :=
  match s.item (obPos inst) 0x11 with
  | none => .next s
  | some (_, q) =>
    let w := q.data.headD 0
    let t := s.taken (obPos inst) 0x11
    match (s.ob inst).looks.find? (fun l => l.tag == bits 32 16 w && l.reply == none) with
    | some l =>
      .next (if s.obOn inst then t.pcvReply inst l.epoch l.tag (if bitOf 48 w then none else some (sgn 32 (bits 0 32 w))) else t)
    | none => .next t

/-! ### Integrity (R238–R241) -/

/-- The survey state set, with the POS cause that follows it (R239). -/
def State.svState (s : State) (i st : Nat) : State :=
  ((s.set (obBase i) Rg.OB_SV_STAT.STATE st).setCause i cPos (st != 3)).intUpdate i

/-- The TIME cause of HOLDOVER (R241). -/
def State.timeCause (s : State) (i : Nat) : State :=
  let b := obBase i
  let far := decide (max 1 (s.get b Rg.OB_HO.TERR_MAX) * 100 < s.terr)
  let long := s.get b Rg.OB_HO.MAX_S != 0 && decide (s.get b Rg.OB_HO.MAX_S * 1000 < s.get bTime Rg.TIME_HO_T.ELAPSED)
  if s.mode = .holdover ∧ (far ∨ long) then s.setCause i cTime true else s

/-- A count that acts as 1 when it is 0. -/
def atLeast1 (n : Nat) : Nat := max n 1

/-- The square of the deviation in mm: the distance from the surveyed baseline to the fixed solution of an epoch (R238). -/
def State.dev2 (s : State) (i : Nat) (x : EpochSol) : Nat :=
  let b := obBase i
  let e := x.be - s.getS b Rg.OB_BASE.E
  let n := x.bn - s.getS b Rg.OB_BASE.N
  let u := x.bu - s.getS b Rg.OB_BASE.U
  (e * e + n * n + u * u).toNat

/-- The monitor on an epoch (R238, R239). A deviation exceeds a limit where its square exceeds the limit's. -/
def State.monitor (s : State) (i : Nat) (x : EpochSol) : State :=
  let b := obBase i
  let thr := atLeast1 (s.get b Rg.OB_INT.THR)
  let seen := s.flag b Rg.OB_INT.MON_EN && s.get b Rg.OB_SV_STAT.BASE_STATE == 2 && decide (5 ≤ x.common)
  let d2 := s.dev2 i x
  let s := s.set b Rg.OB_INT_STAT.COMMON (min x.common 31)
  let o := s.ob i
  let hi := decide (thr * thr < d2)
  let ov := if seen then (if hi then o.over_ + 1 else 0) else o.over_
  let ok := if seen then (if hi then 0 else o.okRun + 1) else o.okRun
  let clr := seen && decide (atLeast1 (s.get b Rg.OB_INT.OK_N) ≤ ok)
  let had := s.cause i cFlag
  let fl := (had || decide (atLeast1 (s.get b Rg.OB_INT.FLAG_N) ≤ ov)) && !clr
  let run := if fl ∧ had then o.flagRun + 1 else 0
  let wh := s.cause i cWh || (fl && decide (atLeast1 (s.get b Rg.OB_INT.WH_N) ≤ run)) || (seen && decide (16 * (thr * thr) < d2))
  let latch := s.flag b Rg.OB_INT.LATCH
  let held := wh && clr && latch
  let t := s.setOb i { o with over_ := ov, okRun := ok, flagRun := run, unmon := !seen, monAt := if seen then s.nowNs else o.monAt }
  let t := if seen then (t.set b Rg.OB_INT_STAT.DEV (min (rootRnd 92 d2) 65535)).setCause i cUnmon false else t
  let t := t.setCause i cFlag fl
  let t := t.setCause i cWh (wh && (!clr || latch))
  t.setCause i cLatched (held || (s.cause i cLatched && wh && !(seen && hi)))

/-- A write to a register of the encoder (R224). -/
def State.obWrite (s : State) (m : Master) (i off : Nat) (f : State → State) : State :=
  s.actWrite m (decide (i < 2) && mayWriteService s m) .fa (obBase i + off) (fun t => if t.isEnc i then f t else t)

/-- INT_CLEAR. -/
def State.intClear (s : State) (i : Nat) : State :=
  if s.cause i cLatched then ((s.setCause i cWh false).setCause i cLatched false).intUpdate i else s

/-- INT_CLEAR: OB_INT written with CLEAR. -/
def execIntClear (m : Master) (inst : Nat) (s : State) : Host.Outcome State Fault Refusal :=
  .next (s.obWrite m inst 0x50 (fun t => t.intClear inst))

/-- UNMON_TIMEOUT. -/
def execUnmonTimeout (inst : Nat) (s : State) : Host.Outcome State Fault Refusal :=
  let n := s.get (obBase inst) Rg.OB_INT2.UNMON_S
  if s.obOn inst ∧ s.isEnc inst ∧ n ≠ 0 ∧ (s.ob inst).monAt + n * 1000000000 ≤ s.nowNs then
    .next ((s.setCause inst cUnmon true).intUpdate inst)
  else .next s

/-- HOLDOVER_TIME_LIMIT. -/
def execHoldoverTimeLimit (inst : Nat) (s : State) : Host.Outcome State Fault Refusal :=
  if s.obOn inst ∧ s.isEnc inst then .next ((s.timeCause inst).intUpdate inst) else .next s

/-! ### Survey (R232–R236) -/

/-- A vector added to a sum. -/
def VecSum.add (v : VecSum) (x y z : Int) : VecSum := ⟨v.n + 1, v.x + x, v.y + y, v.z + z, v.sq + x * x + y * y + z * z⟩

/-- The mean of a sum, rounded to whole mm. -/
def VecSum.mean (v : VecSum) : Int × Int × Int := (rnd 23 v.x v.n, rnd 23 v.y v.n, rnd 23 v.z v.n)

/-- The square of SIGMA as a fraction: the sample variance divided by max(1, N / 60) (R233). -/
def VecSum.var (v : VecSum) : Nat × Nat :=
  let num := ((v.n : Int) * v.sq - (v.x * v.x + v.y * v.y + v.z * v.z)).toNat
  (num * 60, v.n * (v.n - 1) * max 60 v.n)

/-- SIGMA in whole mm, saturating. -/
def VecSum.sigma (v : VecSum) : Nat :=
  if v.n < 2 then 0xFFFF
  else
    let r := isqrt (v.var.1 / v.var.2)
    min 0xFFFF (if r * r * v.var.2 = v.var.1 then r else r + b2n (Config.roundUp 24 v.var.1 v.var.2))

/-- Whether SIGMA meets ACC. -/
def VecSum.accurate (v : VecSum) (acc : Nat) : Bool :=
  acc == 0 || (decide (2 ≤ v.n) && decide (v.var.1 ≤ acc * acc * v.var.2))

/-- The position as OB_POSX, OB_POSY and OB_POSZ hold it, a staged value among them. -/
def State.posRegs (s : State) (i : Nat) : Int × Int × Int :=
  (s.getS (obBase i) Rg.OB_POSX.MM, s.getS (obBase i) Rg.OB_POSY.MM, s.getS (obBase i) Rg.OB_POSZ.MM)

/-- The position becomes fixed (R235, R236): a new one increments IODS, and an unset baseline is measured. -/
def State.fixPos (s : State) (i src : Nat) (p : Int × Int × Int) : State :=
  let b := obBase i
  let o := s.ob i
  let t := s.sets b [(Rg.OB_POSX.MM, pat 64 p.1), (Rg.OB_POSY.MM, pat 64 p.2.1), (Rg.OB_POSZ.MM, pat 64 p.2.2),
    (Rg.OB_POS_UNC.SOURCE, src)]
  let t := if o.fixed = some p then t else t.set b Rg.OB_SV_STAT.IODS (s.get b Rg.OB_SV_STAT.IODS + 1)
  let t := if s.get b Rg.OB_SV_STAT.BASE_STATE = 0 then t.set b Rg.OB_SV_STAT.BASE_STATE 1 else t
  ((t.setOb i { o with triple := p, fixed := some p, base := if s.get b Rg.OB_SV_STAT.BASE_STATE = 0 then .zero else o.base }).obEvent i
    Rg.OB_EVT.SURVEY_DONE).svState i 3

/-- The triple is taken and its check begins, or fails at once (R234). -/
def State.checkStart (s : State) (i : Nat) : State :=
  let p := s.posRegs i
  let r2 := (p.1 * p.1 + p.2.1 * p.2.1 + p.2.2 * p.2.2).toNat
  if 6355000000 * 6355000000 ≤ r2 ∧ r2 ≤ 6390000000 * 6390000000 then
    (s.setOb i { s.ob i with triple := p, check := .zero, checkAt := s.nowNs }).svState i 2
  else ((s.setOb i { s.ob i with triple := p }).obEvent i Rg.OB_EVT.CHECK_FAIL).svState i 4

/-- START (R232). -/
def State.surveyStart (s : State) (i : Nat) : State :=
  let b := obBase i
  match s.get b Rg.OB_SV.MODE with
  | 0 => ((s.sets b [(Rg.OB_SV_STAT.ELAPSED, 0), (Rg.OB_SV_STAT.EPOCHS, 0), (Rg.OB_SV_STAT.ACC_MISS, 0)]).setOb i
      { s.ob i with survey := .zero }).svState i 1
  | 3 => s.obEvent i Rg.OB_EVT.CHECK_FAIL
  | _ => s.checkStart i

/-- SURVEY_START: OB_SV written with START. -/
def execSurveyStart (m : Master) (inst : Nat) (s : State) : Host.Outcome State Fault Refusal :=
  .next (s.obWrite m inst 0x10 (fun t => t.surveyStart inst))

/-- DUR as it acts. -/
def State.surveyDur (s : State) (i : Nat) : Nat := min (max (s.get (obBase i) Rg.OB_SV.DUR) 60) 172800

/-- SURVEY_COMPLETE (R233). -/
def execSurveyComplete (inst : Nat) (s : State) : Host.Outcome State Fault Refusal :=
  let b := obBase inst
  let v := (s.ob inst).survey
  let el := s.get b Rg.OB_SV_STAT.ELAPSED
  let acc := v.accurate (s.get b Rg.OB_SV.ACC)
  if s.obOn inst ∧ s.isEnc inst ∧ s.get b Rg.OB_SV_STAT.STATE = 1 ∧ 1 ≤ v.n ∧
      ((s.surveyDur inst ≤ el ∧ acc) ∨ 172800 ≤ el) then
    let t := if acc then s else (s.set b Rg.OB_SV_STAT.ACC_MISS 1).obEvent inst Rg.OB_EVT.ACC_MISS
    .next (t.fixPos inst 1 v.mean)
  else .next s

/-- The SOURCE a check that passes gives: STORED restores a survey. -/
def State.checkSource (s : State) (i : Nat) : Nat := if s.get (obBase i) Rg.OB_SV.MODE = 2 then 1 else 2

/-- Whether the mean of the check's solutions lies within CHK m of the triple taken. -/
def State.checkPass (s : State) (i : Nat) : Bool :=
  let v := (s.ob i).check
  let p := (s.ob i).triple
  let lim : Int := s.get (obBase i) Rg.OB_SV.CHK * 1000 * v.n
  let dx := v.x - p.1 * v.n
  let dy := v.y - p.2.1 * v.n
  let dz := v.z - p.2.2 * v.n
  decide (0 < v.n) && decide (dx * dx + dy * dy + dz * dz ≤ lim * lim)

/-- POSITION_CHECK_DONE (R234): 60 s have passed. -/
def execPositionCheckDone (inst : Nat) (s : State) : Host.Outcome State Fault Refusal :=
  if s.obOn inst ∧ s.get (obBase inst) Rg.OB_SV_STAT.STATE = 2 ∧ (s.ob inst).checkAt + 60000000000 ≤ s.nowNs then
    if s.checkPass inst then .next (s.fixPos inst (s.checkSource inst) (s.ob inst).triple)
    else .next ((s.obEvent inst Rg.OB_EVT.CHECK_FAIL).svState inst 4)
  else .next s

/-- A write of OB_POSZ (R234): in FIXED it takes the triple and starts the check; otherwise it stages it for START. -/
def State.poszWrite (s : State) (i v : Nat) : State :=
  let t := s.set (obBase i) Rg.OB_POSZ.MM v
  if s.get (obBase i) Rg.OB_SV_STAT.STATE = 3 then t.checkStart i else t

/-- POSZ_WRITE. -/
def execPoszWrite (m : Master) (inst v : Nat) (s : State) : Host.Outcome State Fault Refusal :=
  .next (s.obWrite m inst 0x30 (fun t => t.poszWrite inst v))

/-- A write of OB_BASE (R236). -/
def State.baseWrite (s : State) (i v : Nat) : State :=
  let e := sgn 21 (bits 0 21 v)
  let n := sgn 21 (bits 21 21 v)
  let u := sgn 21 (bits 42 21 v)
  if e.natAbs ≤ 1000000 ∧ n.natAbs ≤ 1000000 ∧ u.natAbs ≤ 1000000 ∧ 40000 ≤ e * e + n * n + u * u then
    (s.sets (obBase i) [(Rg.OB_BASE.E, bits 0 21 v), (Rg.OB_BASE.N, bits 21 21 v), (Rg.OB_BASE.U, bits 42 21 v),
      (Rg.OB_SV_STAT.BASE_STATE, 2)]).intUpdate i
  else s.obEvent i Rg.OB_EVT.CHECK_FAIL

/-- BASE_WRITE. -/
def execBaseWrite (m : Master) (inst v : Nat) (s : State) : Host.Outcome State Fault Refusal :=
  .next (s.obWrite m inst 0x48 (fun t => t.baseWrite inst v))

/-- BASELINE_AVG_DONE (R236): 300 s of epochs have been averaged. -/
def execBaselineAvgDone (inst : Nat) (s : State) : Host.Outcome State Fault Refusal :=
  let b := obBase inst
  let v := (s.ob inst).base
  if s.obOn inst ∧ s.get b Rg.OB_SV_STAT.BASE_STATE = 1 ∧ 300000000000 ≤ v.n * epochStep (s.ob inst).grid.period then
    let m := v.mean
    .next ((s.sets b [(Rg.OB_BASE.E, pat 21 m.1), (Rg.OB_BASE.N, pat 21 m.2.1), (Rg.OB_BASE.U, pat 21 m.2.2),
      (Rg.OB_SV_STAT.BASE_STATE, 2)]).intUpdate inst)
  else .next s

/-- A write of OB_SIDC_U commits the vector for the next epoch that closes (R230). -/
def State.sidcCommit (s : State) (i v : Nat) : State :=
  let b := obBase i
  let t := s.sets b [(Rg.OB_SIDC_U.U, bits 0 32 v), (Rg.OB_SIDC_U.EN, bits 32 1 v)]
  t.setOb i { t.ob i with sidcNext := (t.getS b Rg.OB_SIDC.E, t.getS b Rg.OB_SIDC.N, t.getS b Rg.OB_SIDC_U.U) }

/-- SIDC_COMMIT. -/
def execSidcCommit (m : Master) (inst v : Nat) (s : State) : Host.Outcome State Fault Refusal :=
  .next (s.obWrite m inst 0xA8 (fun t => t.sidcCommit inst v))

/-- Whether an output's destination, classes and link are in order (R249). -/
def State.outOk (s : State) (i n : Nat) : Bool :=
  let b := outBase i n
  let dst := s.get b Rg.OB_OUT.DST
  let kind := kindAt dst
  (kind == some .pkt || (kind == some .mac && !bitOf 1 (s.get b Rg.OB_OUT.CLASS)) ||
    (dst == 82 && (s.disp.flowOf (s.get b Rg.OB_OUT.FLOW)).consumer == 0x7F)) &&
  decide (1088 ≤ s.slotBytes (obPos i) dst)

/-- EN of output `n` set (R249). -/
def State.outEnable (s : State) (i n : Nat) : State :=
  if s.outOk i n then s.sets (outBase i n) [(Rg.OB_OUT.EN, 1), (Rg.OB_OUT.STATUS, 1)]
  else s.sets (outBase i n) [(Rg.OB_OUT.EN, 0), (Rg.OB_OUT.STATUS, 2)]

/-- EN of output `n` cleared: it is off and what waited on it is gone. -/
def State.outDisable (s : State) (i n : Nat) : State :=
  (s.sets (outBase i n) [(Rg.OB_OUT.EN, 0), (Rg.OB_OUT.STATUS, 0)]).setOb i { s.ob i with outs := listSet (s.ob i).outs n [] }

/-- OUT_ENABLE. -/
def execOutEnable (m : Master) (inst n : Nat) (s : State) : Host.Outcome State Fault Refusal :=
  .next (s.obWrite m inst (0x80 + n * 8) (fun t => if n < 4 then t.outEnable inst n else t))

/-! ### Encoding (R244–R248) -/

/-- A message of an epoch: its number, its class (0 MSM4, 1 MSM7, 2 station, 3 status) and its payload. -/
structure RtcmMsg where
  num     : Nat
  cls     : Nat
  payload : List Byte
  deriving DecidableEq, Repr

/-- Systems in sending order (R246). -/
def sysOrder : List Nat := [0, 3, 1, 4, 2]

/-- The observables of one constellation that are encoded: of the reference antenna, not excluded, BeiDou 1P and 5P only with
BDS3_EN (R226, R228, R245). -/
def State.cellsOf (s : State) (i sys : Nat) (l : List ObsRec) : List ObsRec :=
  l.filter (fun r => recSys r == sys && r.ant == s.get (obBase i) Rg.OB_CFG.REF_ANT && !r.excl &&
    (!(r.sig == 9 || r.sig == 10) || s.flag (obBase i) Rg.OB_MSG.BDS3_EN))

/-- Groups of at most `n` members. -/
def groupsOf (n : Nat) : Nat → List Nat → List (List Nat)
  | 0, _ => []
  | f + 1, l => if l = [] then [] else l.take (max n 1) :: groupsOf n f (l.drop (max n 1))

/-- The part of a vector (E, N, U) along the line of sight to azimuth and elevation in 0.01° (R230), in the vector's unit. -/
def alongSight (az : Nat) (el : Int) (c : Int × Int × Int) : Int :=
  let a := headingVec az
  let h := headingVec el.natAbs
  let up := if 0 ≤ el then h.1 else -h.1
  roundDiv (fxMul a.1 h.2 * c.1 + fxMul a.2 h.2 * c.2.1 + up * c.2.2) fxOne

/-- Sidereal compensation of a record (R230): s · c less, in pseudorange and phaserange. -/
def State.sidereal (s : State) (i : Nat) (r : ObsRec) : ObsRec :=
  if s.flag (obBase i) Rg.OB_SIDC_U.EN then
    let d := alongSight r.az r.el (s.ob i).sidc
    { r with rng := r.rng - d, phr := r.phr - d }
  else r

/-- What the MSMs of a constellation share in an epoch (R241, R245). -/
def State.msmHead (s : State) (i cls sys e : Nat) : MsmHead :=
  let b := obBase i
  let held := s.mode == .holdover
  let tow := s.weekNs sys e / 1000000
  ⟨(if cls = 0 then 1074 else 1077) + (sysOrder.idxOf sys + (if sys = 4 ∨ sys = 2 then 1 else 0)) * 10,
   s.get b Rg.OB_STN.STATION_ID, if sys = 3 then [(3, tow / 86400000), (27, tow % 86400000)] else [(30, tow)],
   s.get b Rg.OB_SV_STAT.IODS, if held then 0 else 1, if held then 2 else 1⟩

/-- A message of a set before DF393 is known: its constellation, satellites and signals, and the constellation's cells (R246). -/
structure MsmPart where
  sys   : Nat
  sats  : List Nat
  sigs  : List Nat
  cells : List ObsRec
  deriving DecidableEq, Repr

/-- The messages of one constellation: as many whole satellites in each as fit in 64 cells (R246). -/
def State.msmParts (s : State) (i sys : Nat) (l : List ObsRec) : List MsmPart :=
  let cells := s.cellsOf i sys l
  let sigs := distinct (cells.map recSig)
  let sats := distinct (cells.map recSat)
  (groupsOf (64 / max sigs.length 1) sats.length sats).map (fun g => ⟨sys, g, sigs, cells⟩)

/-- The set of MSMs of one kind in an epoch: DF393 is 1 in every message but the last (R246). -/
def State.msmSet (s : State) (i e cls : Nat) (l : List ObsRec) : List RtcmMsg :=
  let sel := s.get (obBase i) (if cls = 0 then Rg.OB_MSG.MSM4 else Rg.OB_MSG.MSM7)
  let order := sysOrder.filter (fun y => bitOf (sysOrder.idxOf y) sel)
  let ps := order.flatMap (fun y => s.msmParts i y l)
  (ps.zipIdx).map (fun p =>
    let h := s.msmHead i cls p.1.sys e
    ⟨h.num, cls, msmPayload h cls (decide (p.2 + 1 < ps.length)) p.1.sats p.1.sigs p.1.cells⟩)

/-- The status message (R248). -/
def State.statusMsg (s : State) (i e : Nat) : RtcmMsg :=
  let b := obBase i
  let num := s.get b Rg.OB_MSG.STATUS_NUM
  let ant := s.get b Rg.OB_CFG.REF_ANT
  let ji := ((List.range 4).map (fun k => s.get (rfBase (ant * 4 + k)) Rg.RF_JAM.JI)).foldl max 0
  ⟨num, 3, packBits [(12, num), (12, s.get b Rg.OB_STN.STATION_ID), (30, s.weekNs 0 e / 1000000),
    (3, s.get b Rg.OB_INT_STAT.STATE), (8, s.get b Rg.OB_INT_STAT.CAUSE), (16, s.get b Rg.OB_INT_STAT.DEV), (32, s.terr),
    (8, ji), (7, 0)]⟩

/-- A station message (R244): the position is the triple in force, not a staged one (R234). -/
def State.stationMsg (s : State) (i num : Nat) : RtcmMsg :=
  let b := obBase i
  let st := s.get b Rg.OB_STN.STATION_ID
  let sel := s.get b Rg.OB_MSG.MSM4 ||| s.get b Rg.OB_MSG.MSM7
  let desc := (List.range 5).map (fun k => s.getBuf (b + k * 32) Rg.OB_DESC.DATA 4)
  let setup := s.get (b + 160) Rg.OB_DESC.DATA % 256
  let f := match num with
    | 1005 => arpFields 1005 st sel (s.ob i).triple
    | 1006 => arpFields 1006 st sel (s.ob i).triple ++ [(16, s.get b Rg.OB_STN.ANT_H)]
    | 1008 => antennaFields 1008 st setup desc
    | 1033 => receiverFields 1033 st setup desc
    | _ => biasFields 1230 st (s.get b Rg.OB_GLO.ALIGNED) (s.get b Rg.OB_GLO.L1CA) (s.get b Rg.OB_GLO.L2CA)
  ⟨num, 2, packBits f⟩

/-- Whether a message of period `p` s is due at an epoch: the first of a TAI second that is a multiple of `p` (R247). -/
def State.stationDue (s : State) (i p e : Nat) : Bool := p != 0 && (s.ob i).whole e && roundDiv (e : Nat) 1000000000 % (p : Int) == 0

/-- The station messages due at an epoch, in order, then the status message. -/
def State.stationMsgs (s : State) (i e : Nat) : List RtcmMsg :=
  let b := obBase i
  let l := [(1005, s.get b Rg.OB_MSG.P1005), (1006, s.get b Rg.OB_MSG.P1006), (1008, s.get b Rg.OB_MSG.P1008),
    (1033, s.get b Rg.OB_MSG.P1033), (1230, s.get b Rg.OB_MSG.P1230)]
  let st := (l.filter (fun x => s.stationDue i x.2 e)).map (fun x => s.stationMsg i x.1)
  let n := s.get b Rg.OB_MSG.STATUS_NUM
  if s.stationDue i (s.get b Rg.OB_MSG.P_STATUS) e ∧ 4001 ≤ n ∧ n ≤ 4095 then st ++ [s.statusMsg i e] else st

/-- The messages of an epoch in order (R240, R247), from its compensated observables. -/
def State.epochMsgs (s : State) (i e : Nat) (l : List ObsRec) : List RtcmMsg :=
  let st := s.get (obBase i) Rg.OB_INT_STAT.STATE
  let idx := ((s.ob i).inSecond e).getD 0 / epochStep (s.ob i).grid.period
  let msm := if (st = 1 ∨ st = 2 ∨ st = 3) ∧ idx % atLeast1 (s.get (obBase i) Rg.OB_MSG.MSM_DIV) = 0 then
    s.msmSet i e 0 l ++ s.msmSet i e 1 l else []
  s.stationMsgs i e ++ msm

/-- The items of one output for an epoch's messages (R249, R250). -/
def State.outItems (s : State) (i e n : Nat) (ms : List RtcmMsg) : List CorrOut :=
  let cls := s.get (outBase i n) Rg.OB_OUT.CLASS
  let sel := ms.filter (fun m => bitOf m.cls cls)
  (List.range sel.length).map (fun k =>
    let m := sel.getD k ⟨0, 0, []⟩
    let f := rtcmFrame m.payload
    let deg := s.mode == .holdover
    ⟨f, f.length % 2048 + m.num % 4096 * 2 ^ 11 + s.get (obBase i) Rg.OB_INT_STAT.STATE * 2 ^ 23 +
      b2n (decide (k + 1 = sel.length)) * 2 ^ 26 + b2n deg * 2 ^ 27 + (s.ob i).seq % 256 * 2 ^ 28, e⟩)

/-- The epoch's messages put on every active output. -/
def State.outAll (s : State) (i e : Nat) (ms : List RtcmMsg) : State :=
  (List.range 4).foldl (fun t n =>
    if t.get (outBase i n) Rg.OB_OUT.STATUS = 1 then
      let l := s.outItems i e n ms
      if l = [] then t else t.outPut i n l
    else t) s

/-- The satellites that observables can serve: those of an antenna with a measurement that is not excluded. -/
def satsOf (ant : Nat) (l : List ObsRec) : List (Nat × Nat) :=
  ((l.filter (fun r => r.ant == ant && !r.excl)).map (fun r => (recSys r, r.svid))).dedup

/-- What the solvers of an epoch can find (R228, R231): the survey and the time solution use the reference antenna's measurements
with phase-centre compensation alone (`l`), the baseline those with sidereal compensation too (`m`); neither counts a satellite
whose measurements are excluded. -/
def State.solution (s : State) (i : Nat) (l m : List ObsRec) (x : EpochSol) : EpochSol :=
  let ref := s.get (obBase i) Rg.OB_CFG.REF_ANT
  { x with nsat := min x.nsat (satsOf ref l).length,
           common := min x.common ((satsOf ref m).filter (fun k => (satsOf (1 - ref) m).contains k)).length }

/-- The solution of an epoch reported (R230, R237). -/
def State.report (s : State) (i e : Nat) (x : EpochSol) : State :=
  let b := obBase i
  let t := s.sets b [(Rg.OB_TSOL.OFFSET, x.offset), (Rg.OB_TSOL.NSAT, min x.nsat 255),
    (Rg.OB_TSOL.VALID, b2n (decide (4 ≤ x.nsat ∧ x.pdop ≤ 600))), (Rg.OB_TSOL_AT.AT, e)]
  if (s.ob i).whole e ∧ s.get b Rg.OB_SV_STAT.STATE = 3 then
    t.sets b [(Rg.OB_RESID.E, x.re), (Rg.OB_RESID.N, x.rn), (Rg.OB_RESID_U.U, x.ru)]
  else t

/-- The survey, check and baseline accumulations take an epoch (R233, R234, R236). -/
def State.accumulate (s : State) (i e : Nat) (x : EpochSol) : State :=
  let b := obBase i
  let o := s.ob i
  let whole := o.whole e
  let st := s.get b Rg.OB_SV_STAT.STATE
  let sv := if whole ∧ st = 1 ∧ 5 ≤ x.nsat ∧ x.pdop ≤ 600 then o.survey.add x.x x.y x.z else o.survey
  let ck := if whole ∧ st = 2 ∧ 4 ≤ x.nsat then o.check.add x.x x.y x.z else o.check
  let ba := if s.get b Rg.OB_SV_STAT.BASE_STATE = 1 ∧ 5 ≤ x.common then o.base.add x.be x.bn x.bu else o.base
  let t := s.setOb i { o with survey := sv, check := ck, base := ba }
  if sv.n ≠ o.survey.n then
    t.sets b [(Rg.OB_POS_UNC.SIGMA, sv.sigma), (Rg.OB_SV_STAT.EPOCHS, min (sv.n / 60) 0xFFFF)]
  else t

/-- The messages of an epoch queued; the epoch before, if an output still waits for its last item, ends with its items (R251, R252). -/
def State.outEpoch (s : State) (i e : Nat) (ms : List RtcmMsg) : State :=
  let t := match (s.ob i).late with
    | some e' => s.latency i e'
    | none => s
  ((t.setOb i { t.ob i with late := some e }).outAll i e ms).queued i

/-- CORRECTION_ENCODE: the closed epoch, once its lookups are answered, is solved, the integrity state set, and its messages built and
queued. -/
def execCorrectionEncode (inst : Nat) (sol : EpochSol) (s : State) : Host.Outcome State Fault Refusal :=
  match (s.ob inst).ready with
  | none => .next s
  | some e =>
    if s.obOn inst ∧ s.isEnc inst ∧ (s.ob inst).looks.all (fun l => l.epoch != e || l.reply.isSome) then
      let l := (s.ob inst).recs.filter (fun r => r.epoch == e)
      let m := l.map (s.sidereal inst)
      let x := s.solution inst l m sol
      let t := (s.report inst e x).accumulate inst e x
      let t := (((t.monitor inst x).timeCause inst).intUpdate inst).refPorts
      let t := t.outEpoch inst e (t.epochMsgs inst e m)
      let o := t.ob inst
      .next (t.setOb inst { o with ready := none, recs := o.recs.filter (fun r => e < r.epoch),
                                   looks := o.looks.filter (fun l => e < l.epoch), seq := (o.seq + 1) % 256 })
    else .next s

/-! ### Reactions -/

/-- A second boundary: the epoch grid takes RATE, and a running survey's time counts (R227, R233). -/
def State.obsSecond (s : State) : State :=
  [0, 1].foldl (fun t i =>
    let b := obBase i
    let t := t.setOb i { t.ob i with grid := ⟨t.get b Rg.OB_CFG.RATE, some t.time.bound⟩ }
    if t.obOn i ∧ t.get b Rg.OB_SV_STAT.STATE = 1 ∧ (t.mode = .survey ∨ t.mode = .holdover) then
      t.count b Rg.OB_SV_STAT.ELAPSED 1
    else t) s

/-- Every instant of a tile moved with the label of the scale. -/
def ObsTile.moved (o : ObsTile) (off : Int) : ObsTile :=
  let mv (n : Nat) : Nat := ((n : Int) + off).toNat
  let arm (m : ObsArm) : ObsArm := { m with last := if m.last = 0 then 0 else mv m.last, since := mv m.since }
  { o with grid := { o.grid with nxt := o.grid.nxt.map mv }, open_ := o.open_.map mv, closed := mv o.closed,
           ctxs := o.ctxs.map (fun c => { c with a := arm c.a, b := arm c.b }), recs := o.recs.map (fun r => { r with epoch := mv r.epoch }),
           looks := o.looks.map (fun l => { l with epoch := mv l.epoch }), ready := o.ready.map mv, monAt := mv o.monAt,
           checkAt := mv o.checkAt, late := o.late.map mv }

/-- Every instant of the OBS tiles moved with the label of the scale. -/
def State.obsRelabel (s : State) (off : Int) : State := { s with obs := s.obs.map (fun o => o.moved off) }

/-- A time step (R243): lock times restart, what is not encoded is dropped with the items it holds, and no epoch is formed until the
next second boundary. -/
def State.obsStepped (s : State) (off : Int) : State :=
  let arm (m : ObsArm) : ObsArm := { m with item := [] }
  let one (o : ObsTile) : ObsTile :=
    let o := o.moved off
    { o with restart := true, grid := { o.grid with nxt := none }, open_ := none, ready := none, recs := [], looks := [],
             ctxs := o.ctxs.map (fun c => { c with a := arm c.a, b := arm c.b }) }
  { s with obs := s.obs.map one }

/-- The contexts of a tile freed and its accumulations cleared. -/
def State.obsClear (s : State) (i : Nat) : State :=
  let t := (s.ob i).ctxs.foldl (fun u c => u.sets (ctxBase i c.idx) ctxZero) s
  t.setOb i { s.ob i with ctxs := [], dirs := [], recs := [], looks := [], open_ := none, ready := none, late := none,
                          outs := [[], [], [], []], survey := .zero }

/-- The commit of a mode change in tile `i` (R224, R239, R241, R242). -/
def State.obsModeAt (s : State) (i : Nat) (old new : Mode) : State :=
  let b := obBase i
  let one := ([0, 1].filter (fun k => s.isEnc k)).length = 1
  let t := if new = .survey ∧ s.instanced (obPos i) then
    (s.setOb i { s.ob i with idle := !one, monAt := s.nowNs }).obEventIf (!one) i Rg.OB_EVT.ROLE else s
  let t := if new = .dormant ∨ new = .maintenance then
    (if old = .survey ∨ old = .holdover then (t.obsClear i).svState i 0 else t.obsClear i) else t
  let t := t.setCause i cMode (new != .service && new != .holdover)
  let t := if old = .holdover ∧ new ≠ .holdover then t.setCause i cTime false else t
  if t.isEnc i then
    let u := t.intUpdate i
    if new = .survey ∧ one ∧ u.get b Rg.OB_SV_STAT.STATE ≠ 3 then u.surveyStart i else u
  else t

/-- The commit of a mode change. -/
def State.obsMode (s : State) (old new : Mode) : State := (s.obsModeAt 0 old new).obsModeAt 1 old new

end Sys2Proof.Machine
end

