-- ==== Sys2Proof/Machine/Cocoon.lean ====
section
/-! DEFINITION. Cocoon: its words (R128), format 0x0001 (R218, R219) and the checks of a start (R220, R221). Inside the ranges of
R218 the order of the items and the units are the model's (DESIGN CHOICE, log entry 27). -/

namespace Sys2Proof.Machine

/-! ### Access -/

/-- Word `i` of Cocoon. -/
def State.coWord (s : State) (i : Nat) : Nat := lookupD 0 i s.cocoon

/-- COC_ADDR moves on after an access of COC_DATA. -/
def State.coNext (s : State) : State := s.set bMpc Rg.COC_ADDR.WORD ((s.get bMpc Rg.COC_ADDR.WORD + 1) % 32768)

/-- A write of COC_DATA: the word is stored, VALID clears, COC_ADDR moves on. -/
def State.coPut (s : State) (v : Nat) : State :=
  let i := s.get bMpc Rg.COC_ADDR.WORD
  let w := if v % 2 ^ 64 = 0 then assocDel i s.cocoon else assocSet i (v % 2 ^ 64) s.cocoon
  ({ s with cocoon := w, boot := { s.boot with coBad := s.boot.coBad.filter (· != i) } }.set bMpc Rg.COC_CTRL.VALID 0).coNext

/-- A read of COC_DATA (R128): the word, or 0 with UE set and VALID cleared when it is uncorrectable; COC_ADDR moves on. -/
def State.coGet (s : State) : State × Nat :=
  let i := s.get bMpc Rg.COC_ADDR.WORD
  if s.boot.coBad.contains i then ((s.sets bMpc [(Rg.COC_CTRL.UE, 1), (Rg.COC_CTRL.VALID, 0)]).coNext, 0)
  else (s.coNext, s.coWord i)

/-- COC_DATA_WRITE: a 64-bit write of COC_DATA by a master with the right of R74. -/
def execCocDataWrite (m : Master) (v : Nat) (s : State) : Host.Outcome State Fault Refusal :=
  let ok := m == .mp || m == .gauntlet || (m == .jtag && s.debugFull)
  .next (s.actWrite m ok .aon (bMpc + 0x150) (fun t => t.coPut v))

/-- COC_DATA_READ: a 64-bit read of COC_DATA, which every processor and the host may read; `bad` says that the word has become
uncorrectable. -/
def execCocDataRead (m : Master) (bad : Bool) (s : State) : Host.Outcome State Fault Refusal :=
  let ok := match m with
    | .tile _ => false
    | .jtag => s.debugFull
    | _ => true
  let i := s.get bMpc Rg.COC_ADDR.WORD
  let t := if bad then { s with boot := { s.boot with coBad := s.boot.coBad ++ [i] } } else s
  if ok then .next (t.coGet.1.answer .ok t.coGet.2) else .next (s.violation m (bMpc + 0x150))

/-! ### Format 0x0001 (R218) -/

/-- The words that MP writes from what firmware holds and no register shows: the oscillator's temperature coefficient and
temperature, ionospheric, UTC and leap parameters, ephemerides and almanac. -/
def navWord (i : Nat) : Bool :=
  i == 0x16 || i == 0x17 || (decide (0x44 ≤ i ∧ i ≤ 0x83)) || decide (0x100 ≤ i ∧ i ≤ 0x18FF) || decide (0x1900 ≤ i ∧ i ≤ 0x1EFF)

/-- The OBS tile whose base position is known. -/
def State.baseObs (s : State) : Option Nat :=
  (List.range 2).find? (fun i => s.instanced (obPos i) && s.get (obBase i) Rg.OB_POS_UNC.SOURCE != 0)

/-- Position words 0x10–0x13: X, Y, Z, and the uncertainty with the source in bits 33–32. -/
def State.posWords (s : State) : List (Nat × Nat) :=
  match s.baseObs with
  | some i =>
    let b := obBase i
    [(0x10, s.get b Rg.OB_POSX.MM), (0x11, s.get b Rg.OB_POSY.MM), (0x12, s.get b Rg.OB_POSZ.MM),
     (0x13, s.get b Rg.OB_POS_UNC.SIGMA + s.get b Rg.OB_POS_UNC.SOURCE * 2 ^ 32)]
  | none => []

/-- The hint of a channel in TRACK or SYNCED: its CH_CFG word with bit 63 set, and its last Doppler as CH_AID takes it. -/
def State.hintWords (s : State) (c : Nat) : List (Nat × Nat) :=
  if s.chanOn .cor c ∧ (s.chState c = 2 ∨ s.chState c = 3) then
    let d := match s.chPhase c with
      | some x => pat 20 (rnd 88 x.2 125)
      | none => 0
    [(0x2100 + 2 * c, s.word (chBase c) .CH_CFG % 2 ^ 63 + 2 ^ 63), (0x2101 + 2 * c, d)]
  else []

/-- Words 0x0010–0x24FF. -/
def State.cocBody (s : State) (nav : List (Nat × Nat)) : List (Nat × Nat) :=
  let osc := [(0x14, s.word bTime .TIME_HO), (0x15, s.get bTime Rg.EFC_VAL.CODE)]
  let notch := (List.range 32).map (fun i => (0x1C + i,
    let b := notchBase (i / 4) (i % 4)
    s.get b Rg.RF_NOTCH.MODE + s.get b Rg.RF_NOTCH.RSHIFT * 4 + s.get b Rg.RF_NOTCH.CENTRE * 2 ^ 16))
  let jam := (List.range 8).map (fun p => (0x3C + p, s.get (rfBase p) Rg.RF_JAM_BASE.P0 + s.get (rfBase p) Rg.RF_JAM_BASE.SFM0 * 2 ^ 16))
  s.posWords ++ osc ++ notch ++ jam ++ nav.filter (fun w => navWord w.1) ++ (List.range 512).flatMap s.hintWords

/-- CRC-32C of words 0x0010–0x24FF as bytes. -/
def cocCrc (w : List (Nat × Nat)) : Nat := crc32c ((List.range 0x24F0).flatMap (fun i => leBytes 8 (lookupD 0 (i + 0x10) w)))

/-- Words put into the store, those that are 0 left out. -/
def putWords (l m : List (Nat × Nat)) : List (Nat × Nat) :=
  l.foldl (fun m w => if w.2 % 2 ^ 64 = 0 then assocDel w.1 m else assocSet w.1 (w.2 % 2 ^ 64) m) m

/-- The header: word 0 TIME_TERR with GEN from bit 32, word 1 STRUCT_DIGEST, words 2–5 the digests of the front ends, two a word,
word 6 the CRC. -/
def State.cocHeader (s : State) (body : List (Nat × Nat)) : List (Nat × Nat) :=
  [(0, s.terr + s.get bTime Rg.TIME_STAT.GEN * 2 ^ 32), (1, s.get bMpc Rg.STRUCT_DIGEST.DIGEST)] ++
  (List.range 4).map (fun i => (2 + i, s.feDigest (2 * i) + s.feDigest (2 * i + 1) * 2 ^ 32)) ++ [(6, cocCrc body)]

/-- MP writes Cocoon whole and sets VALID (R124, R218, R219). The write leaves COC_ADDR at 0. -/
def State.cocoonWrite (s : State) (nav : List (Nat × Nat)) : State :=
  let body := putWords (s.cocBody nav) []
  let t := s.sets bMpc [(Rg.COC_CTRL.VALID, 1), (Rg.COC_CTRL.FMT, 1), (Rg.COC_ADDR.WORD, 0), (Rg.COC_TIME.INSTANT, s.now)]
  { t with cocoon := putWords (s.cocHeader body) body,
           boot := { t.boot with coBad := [], refKept := s.flag bTime Rg.TIME_STAT.REF_OK } }

/-! ### The checks of a start (R220) -/

/-- A satellite slot: its system as R206 numbers them, and the half-width of its fit interval in s. -/
def slotSys (n : Nat) : Option (Nat × Nat) :=
  if n < 32 then some (0, 7200) else if n < 56 then some (3, 900) else if n < 92 then some (1, 7200)
  else if n < 155 then some (2, 3600) else if n < 165 then some (4, 7200) else none

/-- Whether an instant lies within `d` seconds of the present one. -/
def State.within (s : State) (at_ d : Nat) : Bool := decide (((s.now : Int) - at_).natAbs ≤ d * 1000000000)

/-- Whether signals of a system are enabled: the image enables a port in whose band the system has one. -/
def State.sysOn (s : State) (sys : Nat) : Bool :=
  signals.any (fun g => g.sys == sys && (List.range 8).any (fun p => s.rfFitted p && p % 4 == g.band))

/-- The slots whose ephemeris is valid and whose system is enabled; word 0 of a slot is its toe or tb on the device's scale. -/
def State.ephsOk (s : State) : List Nat :=
  (List.range 165).filter (fun n =>
    match slotSys n with
    | some (sys, w) => s.coWord (0x100 + 32 * n) != 0 && s.within (s.coWord (0x100 + 32 * n)) w && s.sysOn sys
    | none => false)

/-- Whether the whole store is in order: CRC and FMT. -/
def State.storeOk (s : State) : Bool :=
  s.get bMpc Rg.COC_CTRL.FMT == 1 && s.coWord 6 == cocCrc s.cocoon

/-- Whether the position is valid: its source is 1 or 2. -/
def State.cocPosOk (s : State) : Bool := bits 32 32 (s.coWord 0x13) == 1 || bits 32 32 (s.coWord 0x13) == 2

/-- Whether the time is valid: REF_OK has stayed 1, and TIME_TERR is at most 10,000 ns. -/
def State.cocTimeOk (s : State) : Bool := s.boot.refKept && decide (s.terr ≤ 10000)

/-- Whether the almanac of a slot is less than 90 days old; word 0 of a slot is its reference instant. -/
def State.almanacAt (s : State) (n : Nat) : Bool :=
  s.coWord (0x1900 + 8 * n) != 0 && decide (s.now < s.coWord (0x1900 + 8 * n) + 90 * 86400 * 1000000000)

/-- Whether some almanac slot passes. -/
def State.almanacOk (s : State) : Bool := (List.range 165).any s.almanacAt

/-- The SVID of a satellite slot. -/
def slotSvid (n : Nat) : Nat :=
  if n < 32 then n + 1 else if n < 56 then n - 31 else if n < 92 then n - 55 else if n < 155 then n - 91 else n + 38

/-- The directions that the ephemerides and almanacs that pass give the OBS tiles (R228): the spec does not give the computation, and
each direction is a free value. -/
def State.cocDirs (s : State) : List SatDir :=
  let eph := s.ephsOk
  (List.range 165).filterMap (fun n =>
    match slotSys n with
    | some (sys, _) =>
      if eph.contains n || s.almanacAt n then
        some ⟨sys, slotSvid n, (Config.outside (s.free + 2 * n)).toNat % 36000, ((Config.outside (s.free + 2 * n + 1)).toNat % 18001 : Nat) - 9000⟩
      else none
    | none => none)

/-- The directions of Cocoon put into every instanced OBS tile. -/
def State.takeDirs (s : State) : State :=
  let d := s.cocDirs
  ((List.range 2).foldl (fun t i => if t.instanced (obPos i) then t.setOb i { t.ob i with dirs := d } else t) s).drawn 330

/-- Whether a start is hot (R221). -/
def State.hotStart (s : State) : Bool := s.cocTimeOk && s.cocPosOk && decide (4 ≤ s.ephsOk.length)

/-- The digest of a port's front end in the header. -/
def State.cocDigest (s : State) (p : Nat) : Nat := bits (p % 2 * 32) 32 (s.coWord (2 + p / 2))

/-- What Cocoon keeps for a port. -/
def State.cocKeep (s : State) (p : Nat) : PortKeep :=
  ⟨p, s.cocDigest p, (List.range 4).map (fun k => let w := s.coWord (0x1C + 4 * p + k)
                                                  (bits 0 2 w, bits 2 4 w, bits 16 24 w)),
   (bits 0 16 (s.coWord (0x3C + p)), bits 16 8 (s.coWord (0x3C + p)))⟩

/-- The hint of a channel, its code phase as MP works it out from time, position and ephemeris: a free value, which the spec does not
give. -/
def State.cocHint (s : State) (c : Nat) : Option ChHint :=
  let w := s.coWord (0x2100 + 2 * c)
  if w = 0 then none else some ⟨c, w % 2 ^ 63, (Config.outside (s.free + c)).toNat % 2 ^ 32, s.coWord (0x2101 + 2 * c) % 2 ^ 20⟩

end Sys2Proof.Machine
end

