-- ==== Sys2Proof/Machine/Dma.lean ====
section
/-! DEFINITION. The DMA channels (R479–R487). Channel c is lane c mod 16 of DMA(c div 16). -/

namespace Sys2Proof.Machine

/-- The tile position of a DMA channel. -/
def dmPos (ch : Nat) : Nat := chanPos .dma ch
/-- The base of a DMA channel's registers. -/
def dmBase (ch : Nat) : Nat := laneBase .dma 0x100 ch
/-- The event source of a DMA channel. -/
def dmEv (ch : Nat) : Nat := tileEv (dmPos ch)

/-- A channel beside its registers. -/
def State.dm (s : State) (ch : Nat) : DmaLane := lookupD .off ch s.dma.lanes
/-- A channel replaced. -/
def State.setDm (s : State) (ch : Nat) (l : DmaLane) : State := { s with dma := { s.dma with lanes := assocSet ch l s.dma.lanes } }

/-- DM_STAT.STATE of a channel. -/
def State.dmState (s : State) (ch : Nat) : Nat := s.get (dmBase ch) Rg.DM_STAT.STATE

/-- The domain an address lies in; none outside every region. -/
def addrDom (a : Nat) : Option Dom :=
  match regionOf a with
  | .stage h _ => some (halfDom h)
  | .ddr _ => some .io
  | .other => (placeOf a).map (fun p => domOf p.isl)

/-- Whether a device address lies in a domain that is off. -/
def State.addrOff (s : State) (a : Nat) : Bool :=
  match addrDom a with
  | some d => !s.on d
  | none => false

/-- Whether an address a channel names, unless it is a host bus address, lies in a domain that is off. -/
def State.namedOff (s : State) (host : Bool) (a : Nat) : Bool := !host && s.addrOff a

/-- Whether a channel's block, list or record address lies in a domain that is off (R481). -/
def State.dmDomainOff (s : State) (ch : Nat) : Bool :=
  let b := dmBase ch
  s.namedOff (s.flag b Rg.DM_SRC.HOST) (s.get b Rg.DM_SRC.ADDR) || s.namedOff (s.flag b Rg.DM_DST.HOST) (s.get b Rg.DM_DST.ADDR) ||
  (s.flag b Rg.DM_CREC.CREC_EN && s.namedOff (s.flag b Rg.DM_CREC.HOST) (s.get b Rg.DM_CREC.ADDR))

/-- The first check of R481 that fails; 0 when the start is allowed. -/
def State.dmRefusal (s : State) (ch : Nat) : Nat :=
  let b := dmBase ch
  let bad (l : Bool) (e a : Nat) : Bool := l && (e == 0 || a % 16 != 0)
  if bad (s.flag b Rg.DM_SRC.LIST) (s.get b Rg.DM_SRC.ENTRIES) (s.get b Rg.DM_SRC.ADDR) ||
     bad (s.flag b Rg.DM_DST.LIST) (s.get b Rg.DM_DST.ENTRIES) (s.get b Rg.DM_DST.ADDR) then 1
  else if s.flag b Rg.DM_CREC.CREC_EN && s.get b Rg.DM_CREC.ADDR % 32 != 0 then 2
  else if s.dmDomainOff ch then 3
  else 0

/-- A write posted to host memory (R479): the address carries PCIE_CFG.OB_HI; an error at the host is not seen. -/
def State.post (s : State) (a : Nat) (l : List Byte) : State :=
  { s with dma := { s.dma with posted := s.dma.posted ++ [(s.get bPcie Rg.PCIE_CFG.OB_HI * 2 ^ 40 + a, l)] } }

/-- The 32-byte completion record of a channel (R484). -/
def State.dmRecord (s : State) (ch status comps : Nat) (l : DmaLane) : List Byte :=
  leBytes 1 status ++ leBytes 1 ch ++ leBytes 2 0 ++ leBytes 4 (s.get (dmBase ch) Rg.DM_CRC.CRC) ++ leBytes 8 l.bytes ++
  leBytes 8 s.now ++ leBytes 4 (s.get (dmBase ch) Rg.DM_TAG.TAG) ++ leBytes 4 comps

/-- The record written where CREC_EN is 1; a target that does not take it stays as it is. -/
def State.dmWriteRec (s : State) (ch : Nat) (r : List Byte) : State :=
  let b := dmBase ch
  if s.flag b Rg.DM_CREC.CREC_EN then
    let a := s.get b Rg.DM_CREC.ADDR
    if s.flag b Rg.DM_CREC.HOST then s.post a r
    else if (s.memFault a 32).isNone then (s.memWrite a r).1 else s
  else s

/-- A transfer ends (R483, R484): its record, DM_EVT.DONE, the tile event and vector 2, DM_LAST; IDLE after OK, else HALTED. -/
def State.dmEnd (s : State) (ch status : Nat) : State :=
  let b := dmBase ch
  let l := s.dm ch
  let comps := (l.comps + 1) % 2 ^ 32
  let irq := s.flag b Rg.DM_CREC.IRQ
  let t := s.dmWriteRec ch (s.dmRecord ch status comps l)
  let t := t.sets b [(Rg.DM_EVT.DONE, 1), (Rg.DM_LAST.STATUS, status), (Rg.DM_LAST.CRC, s.get b Rg.DM_CRC.CRC),
    (Rg.DM_LAST_BYTES.BYTES, l.bytes), (Rg.DM_STAT.STATE, if status = 0 then 0 else 2)]
  let t := t.setDm ch { l with beats := [], stop := none, fail := none, comps := comps }
  let t := if irq then t.toggle (dmEv ch) else t
  if irq && s.flag b Rg.DM_CREC.CREC_EN && s.flag b Rg.DM_CREC.HOST then t.msix 2 else t

/-- A side of the active set at its start. -/
def State.dmSide (s : State) (ch : Nat) (fa fh fl : Fld) : DmaSide :=
  let b := dmBase ch
  if s.flag b fl then ⟨0, 0, false, false, []⟩ else ⟨s.get b fa, s.get b Rg.DM_COUNT.COUNT, s.flag b fh, true, []⟩

/-- The active set starts, if the checks of R481 pass; with COUNT 0 it completes at once. -/
def State.dmStart (s : State) (ch : Nat) : State :=
  let b := dmBase ch
  let c := s.dmRefusal ch
  if c ≠ 0 then (s.sets b [(Rg.DM_STAT.STATE, 0), (Rg.DM_STAT.REFUSE, c)]).event (dmEv ch) b Rg.DM_EVT.REFUSED
  else
    let l : DmaLane := { src := s.dmSide ch Rg.DM_SRC.ADDR Rg.DM_SRC.HOST Rg.DM_SRC.LIST,
                         dst := s.dmSide ch Rg.DM_DST.ADDR Rg.DM_DST.HOST Rg.DM_DST.LIST,
                         beats := [], stop := none, fail := none, bytes := 0, comps := (s.dm ch).comps }
    let t := (s.sets b [(Rg.DM_CRC.CRC, 0xFFFFFFFF), (Rg.DM_STAT.STATE, 1)]).setDm ch l
    if s.get b Rg.DM_COUNT.COUNT = 0 then t.dmEnd ch 0 else t

/-- The shadow set copied to the active set (R485). -/
def State.dmCopy (s : State) (ch : Nat) : State :=
  let b := dmBase ch
  s.sets b ([(Rg.DM_SRC.ADDR, Rg.DS_SRC.ADDR), (Rg.DM_SRC.HOST, Rg.DS_SRC.HOST), (Rg.DM_SRC.LIST, Rg.DS_SRC.LIST),
    (Rg.DM_SRC.ENTRIES, Rg.DS_SRC.ENTRIES), (Rg.DM_DST.ADDR, Rg.DS_DST.ADDR), (Rg.DM_DST.HOST, Rg.DS_DST.HOST),
    (Rg.DM_DST.LIST, Rg.DS_DST.LIST), (Rg.DM_DST.ENTRIES, Rg.DS_DST.ENTRIES), (Rg.DM_COUNT.COUNT, Rg.DS_COUNT.COUNT),
    (Rg.DM_CREC.ADDR, Rg.DS_CREC.ADDR), (Rg.DM_CREC.HOST, Rg.DS_CREC.HOST), (Rg.DM_CREC.CREC_EN, Rg.DS_CREC.CREC_EN),
    (Rg.DM_CREC.IRQ, Rg.DS_CREC.IRQ), (Rg.DM_TAG.TAG, Rg.DS_TAG.TAG)].map (fun p => (p.1, s.get b p.2)) ++
    [(Rg.DM_STAT.SH_VALID, 0)])

/-- A transfer ends and, after OK with SH_VALID at 1, the shadow set starts (R485). -/
def State.dmFinish (s : State) (ch status : Nat) : State :=
  let t := s.dmEnd ch status
  if status = 0 ∧ t.flag (dmBase ch) Rg.DM_STAT.SH_VALID then (t.dmCopy ch).dmStart ch else t

/-- What a side of a transfer has to offer: bytes to move, entries to be read, the end of its list, or a bad entry. -/
inductive SideOut where
  | ready | fetch | ended | bad
  deriving DecidableEq, Repr

/-- The side moved on past entries that are used up or empty (R480), with the list address and the entries left. -/
def takeEnts : List DmaEnt → DmaSide → Nat → Nat → DmaSide × Nat × Nat × SideOut
  | ents, sd, a, n =>
    if 0 < sd.left then ({ sd with ents := ents }, a, n, .ready)
    else if sd.fin then ({ sd with ents := ents }, a, n, .ended)
    else match ents with
      | [] => ({ sd with ents := [] }, a, n, if n = 0 then .ended else .fetch)
      | e :: t => if e.bad then ({ sd with ents := ents }, a, n, .bad)
                  else takeEnts t ⟨e.addr, e.len, e.host, e.stop, []⟩ (a + 16) (n - 1)

/-- Whether a channel may issue beats. -/
def State.dmIssues (s : State) (ch : Nat) : Bool :=
  s.dmState ch == 1 && (s.dm ch).stop.isNone && (s.dm ch).fail.isNone && s.get (dmBase ch) Rg.DM_COUNT.COUNT != 0

/-- One side prepared: the side, and what it offers; the active set shows the next entry of a list. -/
def State.dmPrepSide (s : State) (ch : Nat) (fa fl fe : Fld) (sd : DmaSide) : State × DmaSide × SideOut :=
  let b := dmBase ch
  let r := takeEnts sd.ents sd (s.get b fa) (s.get b fe)
  if s.flag b fl then (s.sets b [(fa, r.2.1), (fe, r.2.2.1)], r.1, r.2.2.2) else (s, sd, if sd.left = 0 then .ended else .ready)

/-- A channel prepared for its next beat: what each side offers; a list that has ended or is bad stops the channel once its
beats have drained (R483). -/
def State.dmPrep (s : State) (ch : Nat) : State × SideOut × SideOut :=
  if s.dmIssues ch then
    let p := s.dmPrepSide ch Rg.DM_SRC.ADDR Rg.DM_SRC.LIST Rg.DM_SRC.ENTRIES (s.dm ch).src
    let q := p.1.dmPrepSide ch Rg.DM_DST.ADDR Rg.DM_DST.LIST Rg.DM_DST.ENTRIES (s.dm ch).dst
    let stop := if p.2.2 = .bad ∨ q.2.2 = .bad then some 4 else if p.2.2 = .ended ∨ q.2.2 = .ended then some 5 else none
    (q.1.setDm ch { s.dm ch with src := p.2.1, dst := q.2.1, stop := stop }, p.2.2, q.2.2)
  else (s, .ended, .ended)

/-- A read of up to 4 list entries in one transaction (R479, R480). -/
def State.dmFetch (s : State) (ch : Nat) (k : DmaKind) (fa fh fe : Fld) : DmaBeat :=
  let b := dmBase ch
  let a := s.get b fa
  ⟨k, a, 0, s.flag b fh, false, 16 * min (4 - a / 16 % 4) (s.get b fe)⟩

/-- The next beat a prepared channel issues, if any: the entries it lacks, or data that cross no 64-byte boundary on either
side. A channel holds at most 16 beats (R479). -/
def State.dmNext (s : State) (ch : Nat) (a d : SideOut) : Option DmaBeat :=
  let l := s.dm ch
  let has (k : DmaKind) : Bool := l.beats.any (fun b => b.kind == k)
  if !s.dmIssues ch || 16 ≤ l.beats.length then none
  else if a = .fetch && !has .srcList then some (s.dmFetch ch .srcList Rg.DM_SRC.ADDR Rg.DM_SRC.HOST Rg.DM_SRC.ENTRIES)
  else if d = .fetch && !has .dstList then some (s.dmFetch ch .dstList Rg.DM_DST.ADDR Rg.DM_DST.HOST Rg.DM_DST.ENTRIES)
  else if a = .ready && d = .ready then
    let n := min (min (64 - l.src.cur % 64) (64 - l.dst.cur % 64))
      (min (min l.src.left l.dst.left) (s.get (dmBase ch) Rg.DM_COUNT.COUNT))
    some ⟨.data, l.src.cur, l.dst.cur, l.src.host, l.dst.host, n⟩
  else none

/-- A beat issued: the count falls and the next addresses move on (R483, R485). -/
def State.dmIssue (s : State) (ch : Nat) (x : DmaBeat) : State :=
  let b := dmBase ch
  let l := s.dm ch
  match x.kind with
  | .data =>
    let on (d : DmaSide) : DmaSide := { d with cur := d.cur + x.n, left := d.left - x.n }
    let t := s.set b Rg.DM_COUNT.COUNT (s.get b Rg.DM_COUNT.COUNT - x.n)
    let t := if s.flag b Rg.DM_SRC.LIST then t else t.set b Rg.DM_SRC.ADDR (l.src.cur + x.n)
    let t := if s.flag b Rg.DM_DST.LIST then t else t.set b Rg.DM_DST.ADDR (l.dst.cur + x.n)
    t.setDm ch { l with src := on l.src, dst := on l.dst, beats := l.beats ++ [x] }
  | _ => s.setDm ch { l with beats := l.beats ++ [x] }

/-- The beats a tile has outstanding. -/
def State.dmHeld (s : State) (tile : Nat) : Nat :=
  ((List.range 16).map (fun l => (s.dm (tile * 16 + l)).beats.length)).sum

/-- The channel a tile serves next: of those that can issue a beat, the highest PRIO, and the next in turn among equals. -/
def State.dmPick (s : State) (tile : Nat) : Option (Nat × State × DmaBeat) :=
  let last := lookupD 15 tile s.dma.turn
  let turn := (List.range 16).map (fun k => tile * 16 + (last + 1 + k) % 16)
  let cand := turn.filterMap (fun ch =>
    let p := s.dmPrep ch
    (p.1.dmNext ch p.2.1 p.2.2).map (fun x => (ch, p.1, x)))
  let best := (cand.map (fun c => s.get (dmBase c.1) Rg.DM_CTL.PRIO)).foldl max 0
  cand.find? (fun c => s.get (dmBase c.1) Rg.DM_CTL.PRIO == best)

/-- A tile issues beats while it holds fewer than 64 and a channel is ready (R479). -/
def State.dmServe (s : State) (tile : Nat) : Nat → State
  | 0 => s
  | n + 1 =>
    if 64 ≤ s.dmHeld tile then s
    else match s.dmPick tile with
      | some (ch, t, x) =>
        let u := t.dmIssue ch x
        { u with dma := { u.dma with turn := assocSet tile (ch % 16) u.dma.turn } }.dmServe tile n
      | none => s

/-- With its beats drained, a channel ends, or enters SUSPENDED while a power-down holds it (R483, R486). -/
def State.dmSettle (s : State) (ch : Nat) : State :=
  let l := s.dm ch
  let st := s.dmState ch
  if (st = 1 ∨ st = 3) ∧ l.beats = [] then
    match l.fail, l.stop with
    | some f, _ => s.dmFinish ch f
    | none, some f => s.dmFinish ch f
    | none, none =>
      if s.get (dmBase ch) Rg.DM_COUNT.COUNT = 0 then s.dmFinish ch 0
      else if st = 3 then (s.set (dmBase ch) Rg.DM_STAT.STATE 4).event (dmEv ch) (dmBase ch) Rg.DM_EVT.SUSPENDED
      else s
  else s

/-- A channel whose state has changed: its tile issues what it can, and a drained channel settles. -/
def State.dmRound (s : State) (ch : Nat) : State := (((s.dmPrep ch).1).dmServe (ch / 16) 64).dmSettle ch

/-- The rounds after a change: a shadow set that starts at the end of one transfer issues its beats in the second. -/
def State.dmKick (s : State) (ch : Nat) : State := (s.dmRound ch).dmRound ch

/-! ### Beats -/

/-- What a source answers to a beat: an error, or its bytes up to the first poisoned word and whether there was one. -/
structure DmaRead where
  err    : Bool
  data   : List Byte
  poison : Bool
  deriving DecidableEq, Repr

/-- The words of a beat read in order: how many come before the first poisoned one. -/
def readUntil : Nat → Nat → State → State × Nat
  | 0, _, s => (s, 0)
  | n + 1, w, s =>
    let r := s.readWord w
    let q := readUntil n (w + 1) r.1
    (q.1, if r.2 then q.2 + 1 else 0)

/-- An access error of a DMA tile at a device address: a register window is not one of the memories it moves data between,
and R74 gives a tile no right there. -/
def State.dmAccess (s : State) (ch a n : Nat) : Option State :=
  let m := Master.tile (dmPos ch)
  if (placeOf a).isSome then some (s.accessEvent 0x061 m a)
  else (s.memFault a n).map (fun f => s.accessEvent (match f with | .addr => 0x060 | .stageOff => 0x062 | .domainOff => 0x063) m a)

/-- A source read: `host` is what a host read returned, none with an error. -/
def State.dmRead (s : State) (ch a n : Nat) (h : Bool) (host : Option (List Byte)) : State × DmaRead :=
  if h then
    match host with
    | some l => (s, ⟨false, padTo n l, false⟩)
    | none => (s.event 24 bPcie Rg.PCIE_EVT.CPL_ERR, ⟨true, [], false⟩)
  else match s.dmAccess ch a n with
    | some t => (t, ⟨true, [], false⟩)
    | none =>
      let words := wordsOf a n
      let r := readUntil words (a / 8) s
      if r.2 = words then (r.1, ⟨false, r.1.bytes a n, false⟩)
      else (r.1, ⟨false, r.1.bytes a ((a / 8 + r.2) * 8 - a), true⟩)

/-- A destination write: whether it was accepted. -/
def State.dmWrite (s : State) (ch a : Nat) (h : Bool) (l : List Byte) : State × Bool :=
  if l = [] then (s, true)
  else if h then (s.post a l, true)
  else match s.dmAccess ch a l.length with
    | some t => (t, false)
    | none => s.memWrite a l

/-- A list entry of 16 bytes (R480, R483). -/
def dmEnt (l : List Byte) : DmaEnt :=
  let a := leAt l 0 5
  let f := leAt l 8 1
  let h := bitOf 0 f
  ⟨a, leAt l 5 3, h, bitOf 1 f, (l.drop 9).take 7 != List.replicate 7 0 || (!h && (addrDom a).isNone)⟩

/-- The entries in a list read. -/
def dmEnts : Nat → List Byte → List DmaEnt
  | 0, _ => []
  | n + 1, l => dmEnt (l.take 16) :: dmEnts n (l.drop 16)

/-- The status of a beat answered with an error: BUS_ERR, or BUS_ERR_TAIL once the count has reached zero. -/
def State.dmErr (s : State) (ch : Nat) : Nat := if s.get (dmBase ch) Rg.DM_COUNT.COUNT = 0 then 2 else 1

/-- The oldest beat of a channel, taken from its beats, has its answer. -/
def State.dmAnswer (s : State) (ch : Nat) (x : DmaBeat) (host : Option (List Byte)) : State :=
  let r := s.dmRead ch x.src x.n x.sh host
  let l := r.1.dm ch
  let failed (t : State) (c : Nat) : State := t.setDm ch { t.dm ch with fail := some c }
  if r.2.err then failed r.1 (r.1.dmErr ch)
  else match x.kind with
    | .data =>
      let w := r.1.dmWrite ch x.dst x.dh r.2.data
      if w.2 then
        let b := dmBase ch
        let t := (w.1.set b Rg.DM_CRC.CRC (crc32cFrom (w.1.get b Rg.DM_CRC.CRC) r.2.data)).setDm ch
          { l with bytes := l.bytes + r.2.data.length }
        if r.2.poison then failed t 3 else t
      else failed w.1 (w.1.dmErr ch)
    | k =>
      if r.2.poison then failed r.1 3
      else
        let es := dmEnts (x.n / 16) r.2.data
        r.1.setDm ch (match k with
          | .srcList => { l with src := { l.src with ents := l.src.ents ++ es } }
          | _ => { l with dst := { l.dst with ents := l.dst.ents ++ es } })

/-- DMA_BEAT_COMPLETE: the oldest outstanding beat of a channel completes; after a failed beat the data of later ones are
discarded (R483). `host` is the data of a read of host memory, none where it completed with an error. -/
def execDmaBeatComplete (ch : Nat) (host : Option (List Byte)) (s : State) : Host.Outcome State Fault Refusal :=
  let l := s.dm ch
  match l.beats with
  | [] => .next s
  | x :: t =>
    let u := s.setDm ch { l with beats := t }
    .next ((if l.fail.isSome then u else u.dmAnswer ch x host).dmKick ch)

/-! ### DM_CTL -/

/-- ARM (R481, R485): starts an IDLE channel, returns a HALTED one to IDLE, else ignored. -/
def State.dmArm (s : State) (ch : Nat) : State :=
  if s.dmState ch = 0 then (s.dmStart ch).dmKick ch
  else if s.dmState ch = 2 then s.set (dmBase ch) Rg.DM_STAT.STATE 0
  else s

/-- ABORT (R483): the transfer ends ABORTED once outstanding beats have drained. -/
def State.dmAbort (s : State) (ch : Nat) : State :=
  let st := s.dmState ch
  if st = 1 ∨ st = 3 then (s.setDm ch { s.dm ch with stop := some 7 }).dmSettle ch
  else if st = 4 then s.dmFinish ch 7
  else s

/-- CONTINUE (R485): from HALTED, the shadow set is copied and started. -/
def State.dmContinue (s : State) (ch : Nat) : State :=
  if s.dmState ch = 2 ∧ s.flag (dmBase ch) Rg.DM_STAT.SH_VALID then ((s.dmCopy ch).dmStart ch).dmKick ch else s

/-- RESUME (R486): a SUSPENDED channel goes on from the next beat, unless a domain it names is off. -/
def State.dmResume (s : State) (ch : Nat) : State :=
  let l := s.dm ch
  if s.dmState ch = 4 then
    if s.dmDomainOff ch || (l.src.left != 0 && s.namedOff l.src.host l.src.cur) ||
        (l.dst.left != 0 && s.namedOff l.dst.host l.dst.cur) then
      s.event (dmEv ch) (dmBase ch) Rg.DM_EVT.RESUME_IGN
    else (s.set (dmBase ch) Rg.DM_STAT.STATE 1).dmKick ch
  else s

/-- SH_GO (R485): SH_VALID is set. -/
def State.dmShGo (s : State) (ch : Nat) : State := s.set (dmBase ch) Rg.DM_STAT.SH_VALID 1
/-- SH_CLR (R485): SH_VALID is cleared. -/
def State.dmShClr (s : State) (ch : Nat) : State := s.set (dmBase ch) Rg.DM_STAT.SH_VALID 0

/-- A write of DM_CTL of channel `ch`. -/
def State.dmCtl (s : State) (m : Master) (ch : Nat) (f : State → State) : State :=
  s.tileWrite m (dmPos ch) (ch % 16) (0x1080 + ch % 16 * 0x100) f

/-- DMA_ARM: DM_CTL.ARM written. -/
def execDmaArm (m : Master) (ch : Nat) (s : State) : Host.Outcome State Fault Refusal :=
  if ch < 64 then .next (s.dmCtl m ch (fun t => t.dmArm ch)) else .next s
/-- DMA_ABORT: DM_CTL.ABORT written. -/
def execDmaAbort (m : Master) (ch : Nat) (s : State) : Host.Outcome State Fault Refusal :=
  if ch < 64 then .next (s.dmCtl m ch (fun t => t.dmAbort ch)) else .next s
/-- DMA_CONTINUE: DM_CTL.CONTINUE written. -/
def execDmaContinue (m : Master) (ch : Nat) (s : State) : Host.Outcome State Fault Refusal :=
  if ch < 64 then .next (s.dmCtl m ch (fun t => t.dmContinue ch)) else .next s
/-- DMA_RESUME: DM_CTL.RESUME written. -/
def execDmaResume (m : Master) (ch : Nat) (s : State) : Host.Outcome State Fault Refusal :=
  if ch < 64 then .next (s.dmCtl m ch (fun t => t.dmResume ch)) else .next s
/-- SH_GO: DM_CTL.SH_GO written. -/
def execShGo (m : Master) (ch : Nat) (s : State) : Host.Outcome State Fault Refusal :=
  if ch < 64 then .next (s.dmCtl m ch (fun t => t.dmShGo ch)) else .next s
/-- SH_CLR: DM_CTL.SH_CLR written. -/
def execShClr (m : Master) (ch : Nat) (s : State) : Host.Outcome State Fault Refusal :=
  if ch < 64 then .next (s.dmCtl m ch (fun t => t.dmShClr ch)) else .next s

/-! ### Power-down of a domain -/

/-- Whether a beat is in flight to or from a domain; host memory is reached through IO. -/
def beatIn (d : Dom) (x : DmaBeat) : Bool :=
  let at_ (h : Bool) (a : Nat) : Bool := if h then d == .io else addrDom a == some d
  at_ x.sh x.src || (x.kind == .data && at_ x.dh x.dst)

/-- Whether a channel is held by the power-down of a domain (R486). -/
def State.dmAffected (s : State) (d : Dom) (ch : Nat) : Bool :=
  domOf (islandOf (dmPos ch)) == d || (s.dm ch).beats.any (beatIn d)

/-- Every channel of a list held by a power-down issues no new beat, waits for its beats, and enters SUSPENDED. -/
def State.dmHoldAll (s : State) (d : Dom) : List Nat → State
  | [] => s
  | ch :: t =>
    (if s.dmState ch = 1 ∧ s.dmAffected d ch then (s.set (dmBase ch) Rg.DM_STAT.STATE 3).dmSettle ch else s).dmHoldAll d t

/-- DMA_SUSPEND: a power-down under way holds the channels that use the domain (R486). -/
def execDmaSuspend (d : Dom) (s : State) : Host.Outcome State Fault Refusal :=
  if s.power.holdAt.isSome then .next (s.dmHoldAll d (List.range 64)) else .next s

/-- A channel still draining after 20 µs ends with POWER_ABORT (R486). -/
def State.dmAbortAll (s : State) (d : Dom) : List Nat → State
  | [] => s
  | ch :: t => (if s.dmState ch = 3 ∧ s.dmAffected d ch then s.dmFinish ch 6 else s).dmAbortAll d t

/-- DMA_POWER_ABORT: 20 µs after a power-down began to hold channels, those still draining end with POWER_ABORT. -/
def execDmaPowerAbort (d : Dom) (s : State) : Host.Outcome State Fault Refusal :=
  if s.power.holdAt.any (fun a => decide (a + 20000 ≤ s.nowNs)) then .next (s.dmAbortAll d (List.range 64)) else .next s

/-- A power-down taken at once: channels are held, and those still draining end with POWER_ABORT (R486). -/
def State.dmPowerDown (s : State) (ds : List Dom) : State :=
  ds.foldl (fun u d => (u.dmHoldAll d (List.range 64)).dmAbortAll d (List.range 64)) s

/-- Channels of tiles in a domain that loses its power, or of every tile at BOOTSTRAP, lose their state (R486, R487). -/
def State.dmaOff (s : State) (d : Dom) : State :=
  let keep (ch : Nat) : Bool := domOf (islandOf (dmPos ch)) != d
  { s with dma := { s.dma with lanes := s.dma.lanes.filter (fun p => keep p.1) } }

end Sys2Proof.Machine
end

