-- ==== Sys2Proof/Machine/Ethernet.lean ====
section
/-! DEFINITION. Ethernet ports and the uplink pair (R423–R441). Ports are 0 A, 1 B, 2 C, 3 D. -/

namespace Sys2Proof.Machine

/-- The base of a port's registers. -/
def ethBase (p : Nat) : Nat := bEth + p * 0x4000
/-- The position of a port as a link end (R83). -/
def ethPos (p : Nat) : Nat := 84 + p
/-- A port beside its registers. -/
def State.port (s : State) (p : Nat) : EthPort := s.eth.ports.getD p .off
/-- A port replaced. -/
def State.setPort (s : State) (p : Nat) (e : EthPort) : State := { s with eth := { s.eth with ports := listSet s.eth.ports p e } }
/-- An event of a port. -/
def State.ethEvent (s : State) (p : Nat) (f : Fld) : State := s.event (20 + p) (ethBase p) f
/-- The PCS that the image gives a port (R423). -/
def State.ethPcs (s : State) (p : Nat) : Nat := bits (32 + 2 * p) 2 s.img.io0
/-- Whether a port is on. -/
def State.ethOn (s : State) (p : Nat) : Bool :=
  decide (p < 4) && s.on .io && s.ethPcs p != 0 && s.flag (ethBase p) Rg.ETH_CFG.EN
/-- Whether a port's link is up. -/
def State.linkOn (s : State) (p : Nat) : Bool := s.ethOn p && s.flag (ethBase p) Rg.ETH_STAT.LINK
/-- Whether A and B form the uplink pair. -/
def State.paired (s : State) : Bool :=
  s.flag (ethBase 0) Rg.ETH_CFG.PAIR_EN && s.ethOn 0 && s.ethPcs 0 == 1 && s.ethPcs 1 == 1
/-- Whether a port belongs to the uplink pair. -/
def State.inPair (s : State) (p : Nat) : Bool := decide (p < 2) && s.paired
/-- MAXFRAME as it acts. -/
def State.maxFrame (s : State) (p : Nat) : Nat :=
  let m := s.get (ethBase p) Rg.ETH_CFG.MAXFRAME
  if 64 ≤ m ∧ m ≤ 9216 then m else 1518

/-! ### Headers -/

/-- The big-endian number in `n` bytes at an offset. -/
def beNat (l : List Byte) (o n : Nat) : Nat := beVal ((l.drop o).take n)
/-- The EtherType of a frame. -/
def etherType (f : List Byte) : Nat := beNat f 12 2

/-- The transport of an unfragmented IP datagram in a frame: protocol and the offset of its header; none where the frame carries no
such datagram. -/
def ipTransport (f : List Byte) : Option (Nat × Nat) :=
  if etherType f = 0x0800 ∧ beNat f 14 1 / 16 = 4 then
    if beNat f 20 2 % 0x2000 ≠ 0 then none else some (beNat f 23 1, 14 + beNat f 14 1 % 16 * 4)
  else if etherType f = 0x86DD ∧ beNat f 14 1 / 16 = 6 then some (beNat f 20 1, 54)
  else none

/-- The UDP destination port of a frame. -/
def udpDst (f : List Byte) : Option Nat :=
  match ipTransport f with
  | some (17, o) => some (beNat f (o + 2) 2)
  | _ => none

/-- Where a PTP message begins in a frame, for a port's transport (R426, R429). -/
def ptpOffset (transport : Nat) (f : List Byte) : Option Nat :=
  let udp := udpDst f == some 319 || udpDst f == some 320
  match transport with
  | 1 => if udp && etherType f == 0x0800 then (ipTransport f).map (fun t => t.2 + 8) else none
  | 2 => if udp && etherType f == 0x86DD then (ipTransport f).map (fun t => t.2 + 8) else none
  | _ => if etherType f = 0x88F7 then some 14 else none

/-- The PTP message of a frame for a port. -/
def State.ptpAt (s : State) (p : Nat) (f : List Byte) : Option Nat := ptpOffset (s.get (ethBase p) Rg.ETH_CFG.PTP_TRANSPORT) f

/-! ### The pair's roles (R432, R439) -/

/-- UP_ROLE of a path: 0 NONE, 1 ACTIVE, 2 STANDBY, 3 FAILED, 4 REPAIRING. -/
def State.role (s : State) (p : Nat) : Nat := s.get (ethBase p) Rg.ETH_STAT.UP_ROLE

/-- UP_STAT.ACTIVE and STATE as the roles give them. -/
def State.showPair (s : State) : State :=
  let a := s.role 0
  let b := s.role 1
  let st := if a ≠ 1 ∧ b ≠ 1 then 2 else if a = 2 ∨ b = 2 then 0 else 1
  let t := s.set (ethBase 0) Rg.UP_STAT.STATE st
  if st = 2 then t else t.set (ethBase 0) Rg.UP_STAT.ACTIVE (b2n (b == 1))

/-- A path's role set. -/
def State.setRole (s : State) (p r : Nat) : State := (s.set (ethBase p) Rg.ETH_STAT.UP_ROLE r).showPair

/-- The path that carries data. -/
def State.activePath (s : State) : Option Nat := [0, 1].find? (fun p => s.role p == 1)

/-- The roles at the enable of the pair (R432). -/
def State.pairStart (s : State) : State :=
  let a := s.linkOn 0
  let b := s.linkOn 1
  let t := (s.setRole 0 (if a then 1 else 3)).setRole 1 (if b then (if a then 2 else 1) else 3)
  { t with eth := { t.eth with queue := [], drain := none, copies := [] } }

/-- The pair dissolved. -/
def State.pairEnd (s : State) : State :=
  let t := (s.setRole 0 0).setRole 1 0
  { t with eth := { t.eth with queue := [], drain := none, copies := [] } }

/-- A frame's holdings given back: its ring slot and its place in a software queue. -/
def State.txFree (s : State) (f : TxFrame) : State :=
  let s := match f.ring with
    | some r => s.freeSlot r.1 r.2
    | none => s
  match f.sw with
  | some p => s.set (ethBase p) Rg.ETH_SWTX_CTL.FREE (s.get (ethBase p) Rg.ETH_SWTX_CTL.FREE + 1)
  | none => s

/-- The bytes of waiting frames. -/
def txBytes (l : List TxFrame) : Nat := (l.map (fun f => f.data.length)).sum

/-- The frames at the head of a queue that a transmit FIFO of 32 KiB holds. -/
def fifoPart (room : Nat) : List TxFrame → List TxFrame
  | [] => []
  | f :: t => if f.data.length ≤ room then f :: fifoPart (room - f.data.length) t else []

/-- Copies numbered from `n`. -/
def numbered (n : Nat) : List TxFrame → List TxFrame
  | [] => []
  | f :: t => { f with copy := some n } :: numbered (n + 1) t

/-- A copy on the new path: the original keeps the slot and the queue place. -/
def copyOf (f : TxFrame) : TxFrame := { f with ring := none, sw := none }

/-- Steps 1–4 of R435 from path `p` to its standby: the FIFO is copied to the head of the new path's queue and drains. -/
def State.moveTo (s : State) (p q oldRole : Nat) : State :=
  let o := s.port p
  let head := numbered s.eth.next (fifoPart 32768 o.fifo)
  let rest := o.fifo.drop head.length
  let t := (s.setPort p { o with fifo := head }).setPort q { s.port q with fifo := head.map copyOf ++ (s.port q).fifo ++ rest }
  let t := { t with eth := { t.eth with drain := some (p, t.nowNs), copies := [], next := t.eth.next + head.length } }
  let t := (t.setRole p oldRole).setRole q 1
  t.count (ethBase 0) Rg.UP_STAT.SWITCHES 1

/-- What the ACTIVE path still holds when no STANDBY path is left waits for the pair (R439). -/
def State.pairDown (s : State) (p : Nat) : State :=
  let o := s.port p
  let t := (s.setPort p { o with fifo := [] }).setRole p 3
  { t with eth := { t.eth with queue := t.eth.queue ++ o.fifo } }

/-- A path failure detected on the paths of a mask in one cycle (R434, R435, R439); UP_LAST shows the instant of the last detection on
a path that was not FAILED already. -/
def State.detect (s : State) (a b : Bool) : State :=
  let hit (p : Nat) : Bool := if p = 0 then a else b
  let live (p : Nat) : Bool := hit p && s.role p != 0 && s.role p != 3
  let s := if live 0 || live 1 then s.set (ethBase 0) Rg.UP_LAST.INSTANT s.now else s
  let s := [0, 1].foldl (fun t p => if hit p && t.role p != 1 && t.role p != 0 then t.setRole p 3 else t) s
  match s.activePath with
  | none => s
  | some p =>
    if !hit p then s
    else
      if s.role (1 - p) = 2 then
        let t := (s.moveTo p (1 - p) 3).ethEvent 0 Rg.ETH_EVT.FAILOVER
        t.record 0x031 2 20 (leBytes 4 (t.word (ethBase 0) .UP_STAT) ++ leBytes 8 (t.get (ethBase 0) Rg.UP_LAST.INSTANT))
      else s.pairDown p

/-- A path begins to repair (R432). -/
def State.repairing (s : State) (p : Nat) : State :=
  (s.setPort p { s.port p with since := s.nowNs, hit := true }).setRole p 4

/-! ### Links (R424, R440) -/

/-- A change of the link taken: 10GBASE-R and 1000BASE-X have one speed, SGMII that of its control word (R423). -/
def State.linkChange (s : State) (p : Nat) (up : Bool) (speed word : Nat) : State :=
  let b := ethBase p
  let rate := if p < 2 then 0 else if s.ethPcs p = 1 then 1 else max 1 (speed % 4)
  let s := if up then s.sets b [(Rg.ETH_STAT.LINK, 1), (Rg.ETH_STAT.SPEED, rate)]
    else s.set b Rg.ETH_STAT.LINK 0
  let s := if 2 ≤ p then s.sets b [(Rg.ETH_LP.AN_WORD, if up then word else s.get b Rg.ETH_LP.AN_WORD), (Rg.ETH_LP.AN_DONE, b2n up)] else s
  let s := s.ethEvent p Rg.ETH_EVT.LINK_CHG
  if !s.inPair p then s
  else if !up then s.detect (p == 0) (p == 1)
  else if s.role p = 3 ∧ !s.flag (ethBase 0) Rg.UP_CFG.HB_EN then s.repairing p
  else s

/-- ETH_LINK_CHANGE: a port that is on has lost block lock or synchronisation for 50 µs, or has it and has completed
auto-negotiation with the page or control word given. -/
def execEthLinkChange (port : Nat) (up : Bool) (speed word : Nat) (s : State) : Host.Outcome State Fault Refusal :=
  if s.ethOn port ∧ s.flag (ethBase port) Rg.ETH_STAT.LINK ≠ up then .next (s.linkChange port up speed word) else .next s

/-! ### Reception (R425–R427, R433) -/

/-- Whether a heartbeat is valid on a path (R433): MAGIC, VER and PATH right and SEQ not the last valid one. -/
def State.hbValid (s : State) (p : Nat) (f : List Byte) : Bool :=
  beNat f 14 2 == 0x4842 && beNat f 16 1 == 1 && beNat f 17 1 == p && (s.port p).seen != some (beNat f 18 4)

/-- A heartbeat taken by the monitor. -/
def State.heartbeat (s : State) (p : Nat) (f : List Byte) : State :=
  if s.hbValid p f then
    let t := s.setPort p { s.port p with hit := true, seen := some (beNat f 18 4) }
    if t.role p = 3 ∧ t.linkOn p then t.repairing p else t
  else s

/-- Whether a frame matches a rule (R426). -/
def ruleMatch (kind lo hi : Nat) (f : List Byte) : Bool :=
  match kind with
  | 0 => etherType f == lo
  | 3 => (match ipTransport f with | some (k, _) => k == lo | none => etherType f == 0x0800 && beNat f 23 1 == lo)
  | _ =>
    match ipTransport f with
    | some (k, o) => k == (if kind = 1 then 17 else 6) && decide (lo ≤ beNat f (o + 2) 2 ∧ beNat f (o + 2) 2 ≤ hi)
    | none => false

/-- The port whose rules and default a port uses: A's in a pair. -/
def State.rulePort (s : State) (p : Nat) : Nat := if s.inPair p then 0 else p

/-- The first enabled rule that matches. -/
def State.ruleFor (s : State) (p : Nat) (f : List Byte) : Option Nat :=
  let g (r : Nat) (x : Fld) : Nat := s.get (ethBase (s.rulePort p) + r * 0x10) x
  (List.range 16).find? (fun r => g r Rg.ETH_RULE.EN == 1 &&
    ruleMatch (g r Rg.ETH_RULE.MATCH) (g r Rg.ETH_RULE.LOW) (g r Rg.ETH_RULE.HIGH) f)

/-- A payload put in a slot of the link's ring and the item that names it sent; none when the link has no ring slot, no credit, or
a slot too short. `w0` is word 0 without the slot. -/
def State.sendRing (s : State) (src dst typ flow lane : Nat) (payload : List Byte) (w0 w1 : Nat) (len : Nat) : Option State :=
  if s.slotBytes src dst < payload.length then none
  else match s.takeSlot src dst with
    | none => none
    | some (t, slot) =>
      let t := (t.memWrite (s.slotAddr src dst slot) payload).1
      t.sendItem src dst typ flow 0 lane false ([slot % 4096 + w0, w1].take len)

/-- A frame delivered as a TYPE 0x71 item (R427), or dropped. -/
def State.deliver71 (s : State) (p dst flow rule : Nat) (f : List Byte) : State :=
  match s.sendRing (ethPos p) dst 0x71 flow 0 f (f.length % 2 ^ 14 * 2 ^ 12 + p * 2 ^ 26 + rule * 2 ^ 28) s.now 2 with
  | some t => t
  | none => s.count (ethBase p) Rg.ETH_CNT2.RX_DROP 1

/-- The source of a UDP datagram: source address and port. -/
def udpSource (p : Nat) (f : List Byte) : UdpSrc :=
  match ipTransport f with
  | some (_, o) => ⟨p, if etherType f = 0x0800 then beNat f 26 4 else beNat f 22 16, beNat f o 2⟩
  | none => ⟨p, 0, 0⟩

/-- The payload of a UDP datagram in a frame. -/
def udpPayload (f : List Byte) : List Byte :=
  match ipTransport f with
  | some (_, o) => (f.drop (o + 8)).take (beNat f (o + 4) 2 - 8)
  | none => []

/-- A datagram for the Yupex mailbox, which holds up to 4 (R475). -/
def State.udpYupex (s : State) (p : Nat) (f : List Byte) : State :=
  if 4 ≤ s.yx.queue.length then s.count bYx Rg.YX_CNT.UDP_DROP 1
  else { s with yx := { s.yx with queue := s.yx.queue ++ [⟨some (udpSource p f), udpPayload f⟩] } }

/-- The first 8 bytes of the chassis ID TLV of an LLDP frame, shorter ones filled with zeros. -/
def lldpChassis (f : List Byte) : Nat :=
  if beNat f 14 2 / 512 = 1 then leVal (((f.drop 16).take (min (beNat f 14 2 % 512) 8))) else 0

/-- An LLDP frame recorded (R440). -/
def State.lldp (s : State) (p : Nat) (f : List Byte) : State :=
  if etherType f ≠ 0x88CC then s
  else
    let id := lldpChassis f
    ((s.set (ethBase p) Rg.ETH_LP.LLDP_SEEN 1).set (ethBase p) Rg.ETH_LP_ID.CHASSIS id).partner 2 p id

/-- A frame that passed R425 given to the first destination that claims it (R426). -/
def State.claim (s : State) (p sub : Nat) (f : List Byte) : State :=
  if etherType f = 0x88B5 ∧ beNat f 6 6 = s.get (ethBase 0) Rg.UP_PEER.MAC ∧ s.inPair p then s.heartbeat p f
  else if (s.ptpAt p f).isSome then
    s.setPort p { s.port p with ptp := some (f, ⟨p, s.now, sub % 256, s.get bTime Rg.TIME_STAT.GEN⟩) }
  else if udpDst f = some 4742 then s.udpYupex p f
  else
    let s := s.lldp p f
    let b := ethBase (s.rulePort p)
    match s.ruleFor p f with
    | some r =>
      if s.flag (b + r * 0x10) Rg.ETH_RULE.KIND then s.deliver71 p 82 (s.get (b + r * 0x10) Rg.ETH_RULE.FLOW) r f
      else s.deliver71 p (s.get (b + r * 0x10) Rg.ETH_RULE.POS) 0 r f
    | none => if s.flag b Rg.ETH_DEF.DROP then s else s.deliver71 p 82 (s.get b Rg.ETH_DEF.FLOW) 0 f

/-- ETH_FRAME_RECEIVE: a frame without its FCS, whether the FCS was right, and the sub-ns fraction of its ingress timestamp (R165). -/
def execEthFrameReceive (port : Nat) (f : List Byte) (fcsOk : Bool) (sub : Nat) (s : State) : Host.Outcome State Fault Refusal :=
  if !s.linkOn port then .next s
  else if s.maxFrame port < f.length + 4 ∨ !fcsOk then .next (s.count (ethBase port) Rg.ETH_CNT2.RX_DROP 1)
  else .next ((s.count (ethBase port) Rg.ETH_CNT.RX_OK 1).claim port sub f)

/-! ### Transmission (R425, R428, R430) -/

/-- A frame dropped before transmission: counted, its holdings given back. -/
def State.txDrop (s : State) (p : Nat) (f : TxFrame) : State :=
  (((s.count (ethBase p) Rg.ETH_CNT2.TX_DROP 1).ethEvent p Rg.ETH_EVT.TX_DROP)).txFree f

/-- A frame queued at its port, or for the pair on the active path (R428, R439). -/
def State.txQueue (s : State) (p : Nat) (own : Bool) (f : TxFrame) : State :=
  if s.maxFrame p < f.data.length + 4 then s.txDrop p f
  else if s.inPair p && !own then
    match s.activePath with
    | some q => s.setPort q { s.port q with fifo := (s.port q).fifo ++ [f] }
    | none =>
      if 32768 < txBytes s.eth.queue + f.data.length then s.txDrop p f
      else { s with eth := { s.eth with queue := s.eth.queue ++ [f] } }
  else s.setPort p { s.port p with fifo := (s.port p).fifo ++ [f] }

/-- ETH_TX_ITEM: the TYPE 0x70 item handed to a port, which releases its slot when the frame has left. -/
def execEthTxItem (port : Nat) (s : State) : Host.Outcome State Fault Refusal :=
  match s.waitingItem (ethPos port) 0x70 with
  | some (id, q) =>
    let src := s.producer id
    let w := q.data.headD 0
    let s := s.pulled (ethPos port) 0x70
    let a := s.slotAddr src (ethPos port) (bits 0 12 w)
    match s.memRead a (bits 12 14 w) with
    | (t, none) =>
      .next ((((t.freeItem (id, q)).poisonDrop (ethPos port) a).count (ethBase port) Rg.ETH_CNT2.TX_DROP 1).ethEvent port Rg.ETH_EVT.TX_DROP)
    | (t, some d) =>
      let f : TxFrame := ⟨1 + src, none, q.slot.map (fun k => (id, k)), bitOf 26 w, bitOf 27 w, none, d⟩
      if t.ethOn port then .next (t.txQueue port (src == 80 && (t.ptpAt port d).isSome) f) else .next (t.freeItem (id, q))
  | none => .next s

/-- ETH_SWTX_CTL.GO (R428). -/
def State.swtxGo (s : State) (p : Nat) : State :=
  let b := ethBase p
  let free := s.get b Rg.ETH_SWTX_CTL.FREE
  let a := s.get b Rg.ETH_SWTX.ADDR
  let n := s.get b Rg.ETH_SWTX.LEN
  if free = 0 ∨ a < ddrBase ∨ (s.memFault a (max n 1)).isSome then s.ethEvent p Rg.ETH_EVT.SWTX_ERR
  else
    match s.memRead a n with
    | (t, none) => ((t.poisonDrop (ethPos p) a).count b Rg.ETH_CNT2.TX_DROP 1).ethEvent p Rg.ETH_EVT.TX_DROP
    | (t, some d) => (t.set b Rg.ETH_SWTX_CTL.FREE (free - 1)).txQueue p false ⟨0, some p, none, false, false, none, d⟩

/-- The masters that may write a port's action registers, on a port the image enables (R2). -/
def State.ethWrite (s : State) (m : Master) (p off : Nat) (f : State → State) : State :=
  s.actWrite m (mayWriteService s m || m == .tp) .io (ethBase p + off) (fun t => if p < 4 ∧ t.ethPcs p ≠ 0 then f t else t)

/-- ETH_SWTX_GO: ETH_SWTX_CTL.GO written. -/
def execEthSwtxGo (m : Master) (port : Nat) (s : State) : Host.Outcome State Fault Refusal :=
  .next (s.ethWrite m port 0x408 (fun t => if t.ethOn port then t.swtxGo port else t))

/-- The frame a port sends next: of the producer after the one served last, in turn (R428). -/
def nextTx (last : Nat) (l : List TxFrame) : Option TxFrame :=
  match l.find? (fun f => decide (last < f.prod) && l.all (fun g => !decide (last < g.prod) || decide (f.prod ≤ g.prod))) with
  | some f => some f
  | none => l.find? (fun f => l.all (fun g => decide (f.prod ≤ g.prod)))

/-- A port's timestamp head shown in ETH_TSFIFO and ETH_TSINFO. -/
def State.showStamp (s : State) (p : Nat) : State :=
  let b := ethBase p
  match (s.port p).stamps with
  | [] => s.sets b [(Rg.ETH_TSFIFO.TS, 0), (Rg.ETH_TSINFO.SUB, 0), (Rg.ETH_TSINFO.SEQID, 0), (Rg.ETH_TSINFO.MSGTYPE, 0),
      (Rg.ETH_TSINFO.GEN, 0), (Rg.ETH_TSINFO.VALID, 0), (Rg.ETH_TSINFO.OVF, 0)]
  | e :: _ => s.sets b [(Rg.ETH_TSFIFO.TS, e.ts), (Rg.ETH_TSINFO.SUB, e.sub), (Rg.ETH_TSINFO.SEQID, e.seq), (Rg.ETH_TSINFO.MSGTYPE, e.typ),
      (Rg.ETH_TSINFO.GEN, e.gen), (Rg.ETH_TSINFO.VALID, 1), (Rg.ETH_TSINFO.OVF, b2n e.ovf)]

/-- A timestamp entered in a port's FIFO of 64, or lost (R430). -/
def State.stampIn (s : State) (p ts sub seq typ : Nat) : State :=
  let e := s.port p
  if 64 ≤ e.stamps.length then (s.setPort p { e with lost := true }).ethEvent p Rg.ETH_EVT.TS_OVF
  else
    (s.setPort p { e with stamps := e.stamps ++ [⟨ts, sub % 256, seq, typ, s.get bTime Rg.TIME_STAT.GEN, e.lost⟩], lost := false }).showStamp p

/-- Bytes written over others from an offset. -/
def overlay (l : List Byte) (o : Nat) (x : List Byte) : List Byte := l.take o ++ x ++ l.drop (o + x.length)

/-- The ones' complement sum of a byte string as 16-bit words, most significant byte first. -/
def sum16 (l : List Byte) : Nat :=
  let v := match l with
    | [] => 0
    | _ => (List.range ((l.length + 1) / 2)).foldl (fun a i => a + beVal (padTo 2 ((l.drop (2 * i)).take 2))) 0
  let f := v / 65536 + v % 65536
  f / 65536 + f % 65536

/-- The Internet checksum of a byte string. -/
def inetSum (l : List Byte) : Nat := 65535 - sum16 l

/-- The number of bytes of a byte string, most significant byte first. -/
def be (n v : Nat) : List Byte := (leBytes n v).reverse

/-- The UDP checksum of a datagram over IPv6: pseudo-header and datagram with its checksum field 0; a sum of 0 is sent as all ones. -/
def udp6Sum (src dst dgram : List Byte) : Nat :=
  let c := inetSum (src ++ dst ++ be 4 dgram.length ++ be 4 17 ++ overlay dgram 6 [0, 0])
  if c = 0 then 65535 else c

/-- A Sync message rewritten by a one-step port (R430): originTimestamp, the sub-ns fraction added to correctionField in 2^−16 ns,
and the UDP checksum. `o` is where the message begins. -/
def oneStep (f : List Byte) (o t sub : Nat) : List Byte :=
  let f := overlay f (o + 34) (be 6 (t / 1000000000) ++ be 4 (t % 1000000000))
  let f := overlay f (o + 8) (be 8 ((beNat f (o + 8) 8 + sub % 256 * 256) % 2 ^ 64))
  if etherType f = 0x0800 then overlay f (o - 2) [0, 0]
  else if etherType f = 0x86DD then overlay f (o - 2) (be 2 (udp6Sum ((f.drop 22).take 16) ((f.drop 38).take 16) (f.drop (o - 8))))
  else f

/-- The timestamp work of an event message that leaves a port (R430). -/
def State.egress (s : State) (p sub : Nat) (f : TxFrame) : State × List Byte :=
  match s.ptpAt p f.data with
  | none => (s, f.data)
  | some o =>
    let typ := beNat f.data o 1 % 16
    if 4 ≤ typ ∨ !(f.ts || f.prod == 81) then (s, f.data)
    else if f.one && s.flag (ethBase p) Rg.ETH_CFG.ONE_STEP && typ == 0 then (s, oneStep f.data o s.nowNs sub)
    else (s.stampIn p s.now sub (beNat f.data (o + 30) 2) typ, f.data)

/-- The copy of a frame that a fail-over put on both paths: the second to leave counts in DUP_TX of the new path (R436). -/
def State.dupCount (s : State) (f : TxFrame) : State :=
  match f.copy, s.eth.drain with
  | some n, some (old, _) =>
    if s.eth.copies.contains n then s.count (ethBase (1 - old)) Rg.ETH_CNT2.DUP_TX 1
    else { s with eth := { s.eth with copies := n :: s.eth.copies } }
  | _, _ => s

/-- The next frame of a port leaves it. -/
def State.txDone (s : State) (p sub : Nat) : State :=
  let e := s.port p
  match nextTx e.prod e.fifo with
  | none => s
  | some f =>
    let t := s.setPort p { e with fifo := e.fifo.erase f, prod := f.prod }
    let r := t.egress p sub f
    let t := r.1.setPort p { r.1.port p with line := r.2 }
    ((t.count (ethBase p) Rg.ETH_CNT.TX_OK 1).dupCount f).txFree f

/-- ETH_TX_DONE: the next frame has left a port whose link is up; `sub` is the sub-ns fraction of its egress timestamp. -/
def execEthTxDone (port sub : Nat) (s : State) : Host.Outcome State Fault Refusal :=
  if s.linkOn port then .next (s.txDone port sub) else .next s

/-- TSFIFO_POP: ETH_TSINFO read: the entry shown is returned and popped. -/
def execTsfifoPop (m : Master) (port : Nat) (s : State) : Host.Outcome State Fault Refusal :=
  if !s.on .io then .next ((s.accessEvent 0x063 m (ethBase port + 0x308)).answer .err 0)
  else if 4 ≤ port then .next s
  else
    let e := s.port port
    let t := s.answer .ok (s.word (ethBase port) .ETH_TSINFO)
    .next ((t.setPort port { e with stamps := e.stamps.tail }).showStamp port)

/-! ### The uplink pair (R433–R438) -/

/-- The heartbeat of a path (R433). -/
def State.hbFrame (s : State) (p : Nat) : List Byte :=
  be 6 (s.get (ethBase 0) Rg.UP_PEER.MAC) ++ be 6 (s.get (ethBase p) Rg.ETH_MAC.MAC) ++ be 2 0x88B5 ++ be 2 0x4842 ++ be 1 1 ++
  be 1 p ++ be 4 (s.port p).hbSeq ++ be 8 s.now ++ be 30 0

/-- Whether a millisecond of the device time scale has just begun (R433, R434). -/
def State.onMilli (s : State) : Bool := decide (((s.nowNs : Int) - s.time.bound) % 1000000 < 5)

/-- HEARTBEAT_SEND: a millisecond of the device time scale, once; the path's heartbeat leaves on its own port. -/
def execHeartbeatSend (port : Nat) (s : State) : Host.Outcome State Fault Refusal :=
  if s.inPair port ∧ s.linkOn port ∧ s.flag (ethBase 0) Rg.UP_CFG.HB_EN ∧ s.onMilli ∧ (s.port port).hbAt ≠ some s.nowNs then
    let e := s.port port
    let t := s.setPort port { e with hbSeq := (e.hbSeq + 1) % 2 ^ 32, line := s.hbFrame port, hbAt := some s.nowNs }
    .next (t.count (ethBase port) Rg.ETH_CNT.TX_OK 1)
  else .next s

/-- The end of a monitoring window on one path: the new count of missed windows, shown, and whether the third in a row is
missed. A missed window fails a REPAIRING path (R432, R434). -/
def State.windowEnd (s : State) (p : Nat) : State × Bool :=
  let e := s.port p
  let n := s.get (ethBase p) Rg.ETH_STAT.MISS
  let t := s.setPort p { e with hit := false }
  if e.hit then (t.set (ethBase p) Rg.ETH_STAT.MISS 0, false)
  else
    let t := t.set (ethBase p) Rg.ETH_STAT.MISS (min (n + 1) 3)
    let third := n == 2 && s.role p != 3 && s.role p != 0
    let t := if third then t.ethEvent p Rg.ETH_EVT.HB_LOSS else t
    (if s.role p = 4 then t.setRole p 3 else t, third)

/-- HB_WINDOW_END: a 1 ms window ends on both paths, aligned to the millisecond, once. -/
def execHbWindowEnd (s : State) : Host.Outcome State Fault Refusal :=
  if s.paired ∧ s.flag (ethBase 0) Rg.UP_CFG.HB_EN ∧ s.onMilli ∧ s.eth.winAt ≠ some s.nowNs then
    let a := { s with eth := { s.eth with winAt := some s.nowNs } }.windowEnd 0
    let b := a.1.windowEnd 1
    .next (b.1.detect a.2 b.2)
  else .next s

/-- FAILOVER_FLUSH: 2 ms after a fail-over or switch the old path's FIFO is flushed (R435). -/
def execFailoverFlush (s : State) : Host.Outcome State Fault Refusal :=
  match s.eth.drain with
  | none => .next s
  | some (p, a) =>
    if s.nowNs < a + 2000000 then .next s
    else
      let e := s.port p
      let t := (s.setPort p { e with fifo := [] }).count (ethBase p) Rg.ETH_CNT2.FLUSHED e.fifo.length
      let t := e.fifo.foldl (fun u f => u.txFree f) t
      .next ({ t with eth := { t.eth with drain := none, copies := [] } }.ethEvent p Rg.ETH_EVT.FLUSH)

/-- REPAIR_MS as it acts, in ns. -/
def State.repairTime (s : State) : Nat :=
  let r := s.get (ethBase 0) Rg.UP_CFG.REPAIR_MS
  (if 10 ≤ r ∧ r ≤ 1000 then r else 1000) * 1000000

/-- Whether the time processor's port state lets a path finish its repair (R437): MASTER 6, PASSIVE 7 or SLAVE 9. -/
def State.ptpReady (s : State) (p : Nat) : Bool :=
  let st := s.get (ethBase p) Rg.ETH_STAT.PTP_STATE
  !s.flag (ethBase 0) Rg.UP_CFG.PTP_REQ || s.get (ethBase p) Rg.ETH_CFG.PTP_ROLE == 0 || st == 6 || st == 7 || st == 9

/-- A path repaired: STANDBY, or ACTIVE when the pair is DOWN, when the frames that waited leave on it (R437, R439). -/
def State.repaired (s : State) (p : Nat) : State :=
  let t := s.setPort p { s.port p with seen := none }
  match s.activePath with
  | some _ => (t.setRole p 2).ethEvent p Rg.ETH_EVT.STANDBY
  | none =>
    let t := (t.setPort p { t.port p with fifo := (t.port p).fifo ++ t.eth.queue }).setRole p 1
    { t with eth := { t.eth with queue := [] } }

/-- REPAIR_COMPLETE: a REPAIRING path meets the conditions of R437. -/
def execRepairComplete (port : Nat) (s : State) : Host.Outcome State Fault Refusal :=
  if s.inPair port ∧ s.role port = 4 ∧ s.linkOn port ∧ (s.port port).since + s.repairTime ≤ s.nowNs ∧ s.ptpReady port then
    .next (s.repaired port)
  else .next s

/-- UP_CTRL.SWITCH (R438). -/
def State.uplinkSwitch (s : State) : State :=
  if s.eth.drain.isSome then s.set (ethBase 0) Rg.UP_STAT.SW_RES 2
  else match s.activePath with
    | none => s.set (ethBase 0) Rg.UP_STAT.SW_RES 1
    | some p => if s.role (1 - p) = 2 then (s.moveTo p (1 - p) 2).set (ethBase 0) Rg.UP_STAT.SW_RES 0
                else s.set (ethBase 0) Rg.UP_STAT.SW_RES 1

/-- UPLINK_SWITCH: UP_CTRL.SWITCH written. -/
def execUplinkSwitch (m : Master) (s : State) : Host.Outcome State Fault Refusal :=
  .next (s.ethWrite m 0 0x810 (fun t => t.uplinkSwitch))

/-! ### Enable, modes and steps -/

/-- A port's EN as it changes: off, its link drops and its frames are discarded; the pair follows port A. -/
def State.ethEnable (s : State) (p : Nat) (on : Bool) : State :=
  let was := s.paired
  let t := s.set (ethBase p) Rg.ETH_CFG.EN (b2n on)
  let t := if on then t else
    let u := (t.port p).fifo.foldl (fun v f => v.txFree f) (t.sets (ethBase p) [(Rg.ETH_STAT.LINK, 0), (Rg.ETH_STAT.MISS, 0)])
    let u := u.setPort p { u.port p with fifo := [], hit := false }
    if was && decide (p = 1) then u.detect false true else u
  if t.paired && !was then t.pairStart else if was && !t.paired then t.pairEnd else t

/-- The commit of a change to DORMANT (R441). -/
def State.ethOff (s : State) : State :=
  let t := (List.range 4).foldl (fun u p =>
    u.sets (ethBase p) [(Rg.ETH_STAT.LINK, 0), (Rg.ETH_STAT.UP_ROLE, 0), (Rg.ETH_STAT.MISS, 0), (Rg.ETH_SWTX_CTL.FREE, 16)]) s
  let t := t.sets (ethBase 0) [(Rg.UP_STAT.ACTIVE, 0), (Rg.UP_STAT.STATE, 2), (Rg.UP_STAT.SW_RES, 0), (Rg.UP_STAT.SWITCHES, 0)]
  { t with eth := State.reset.eth }

/-- The block's intervals kept over a change of the scale's label: of a repair and of a drain. -/
def State.ethShift (s : State) (off : Int) : State :=
  let f := fun t : Nat => ((t : Int) + off).toNat
  let ports := s.eth.ports.map (fun e : EthPort => { e with since := f e.since })
  let drain := s.eth.drain.map (fun d => (d.1, f d.2))
  { s with eth := { s.eth with ports := ports, drain := drain } }

/-- At a step the monitoring windows restart and the counts clear (R434), and the time processor drops a timestamp of the old
generation (R165, R431). -/
def State.ethStepped (s : State) (off : Int) : State :=
  let ports := s.eth.ports.map (fun e : EthPort => { e with ptp := none })
  let t : State := { s with eth := { s.eth with ports := ports } }
  ([0, 1].foldl (fun (u : State) (p : Nat) => (u.setPort p { u.port p with hit := true }).set (ethBase p) Rg.ETH_STAT.MISS 0) t).ethShift off

end Sys2Proof.Machine
end

