-- ==== Sys2Proof/Machine/Packet.lean ====
section
/-! DEFINITION. Packet tiles (R298, R300, R301, R309, R442–R451). Context x of PKT t is written t:x. -/

namespace Sys2Proof.Machine

/-- An event of a PKT tile. -/
def State.pkEvent (s : State) (p : Nat) (f : Fld) : State := s.event (tileEv (pkPos p)) (kindBase .pkt p) f
/-- A context beside its registers. -/
def State.ctx (s : State) (p x : Nat) : PktCtx := lookupD .off (p * 1024 + x) s.pkt
/-- A context replaced. -/
def State.setCtx (s : State) (p x : Nat) (c : PktCtx) : State := { s with pkt := assocSet (p * 1024 + x) c s.pkt }
/-- Whether a context is enabled. -/
def State.ctxOn (s : State) (p x : Nat) : Bool := s.flag (pcBase p x) Rg.PC_CFG.EN
/-- The enabled contexts of a tile in ascending order. -/
def State.ctxsOn (s : State) (p : Nat) : List Nat := (List.range (s.lanesAt (pkPos p))).filter (fun x => s.ctxOn p x)
/-- KIND of a context. -/
def State.ctxKind (s : State) (p x : Nat) : Nat := s.get (pcBase p x) Rg.PC_CFG.KIND
/-- PROTO of a context. -/
def State.ctxProto (s : State) (p x : Nat) : Nat := s.get (pcBase p x) Rg.PC_CFG.PROTO

/-! ### Headers (R443) -/

/-- An IP datagram of a frame: its bytes, whether IPv6, source and destination, protocol, whether it is a fragment, and its
payload. -/
structure IpGram where
  bytes : List Byte
  v6    : Bool
  src   : List Byte
  dst   : List Byte
  proto : Nat
  frag  : Bool
  body  : List Byte
  deriving DecidableEq, Repr

/-- The IP datagram of a frame whose IP header is right (R443, step 1). -/
def ipGram (f : List Byte) : Option IpGram :=
  let d := f.drop 14
  if beNat d 0 1 / 16 = 4 ∧ etherType f = 0x0800 then
    let h := beNat d 0 1 % 16 * 4
    let n := beNat d 2 2
    if h < 20 ∨ n < h ∨ d.length < n ∨ sum16 (d.take h) ≠ 65535 then none
    else some ⟨d.take n, false, (d.drop 12).take 4, (d.drop 16).take 4, beNat d 9 1, bitOf 13 (beNat d 6 2) || beNat d 6 2 % 0x2000 != 0,
      (d.take n).drop h⟩
  else if beNat d 0 1 / 16 = 6 ∧ etherType f = 0x86DD then
    let n := 40 + beNat d 4 2
    if d.length < n then none
    else some ⟨d.take n, true, (d.drop 8).take 16, (d.drop 24).take 16, beNat d 6 1, beNat d 6 1 == 44, (d.take n).drop 40⟩
  else none

/-- The pseudo-header of a datagram's transport. -/
def IpGram.pseudo (g : IpGram) : List Byte :=
  g.src ++ g.dst ++ (if g.v6 then be 4 g.body.length ++ be 4 g.proto else be 2 g.proto ++ be 2 g.body.length)

/-- Whether the UDP or TCP checksum of an unfragmented datagram is right (R443, step 1). -/
def IpGram.sumOk (g : IpGram) : Bool :=
  if g.frag then true
  else if g.proto = 17 then
    decide (8 ≤ g.body.length) && decide (8 ≤ beNat g.body 4 2 ∧ beNat g.body 4 2 ≤ g.body.length) &&
    ((beNat g.body 6 2 == 0 && !g.v6) || (beNat g.body 6 2 != 0 && sum16 (g.pseudo ++ g.body) == 65535))
  else if g.proto = 6 then decide (20 ≤ g.body.length) && sum16 (g.pseudo ++ g.body) == 65535
  else true

/-- An address as the registers hold it: low and high word. -/
def addrWords (l : List Byte) : Nat × Nat := (beVal l % 2 ^ 64, beVal l / 2 ^ 64)

/-- The receive context of a datagram (R443, step 3): an exact match first, then a wildcard, the lowest number among equals. -/
def State.rxContext (s : State) (p : Nat) (g : IpGram) : Option Nat :=
  let sp := beNat g.body 0 2
  let dp := beNat g.body 2 2
  let a := addrWords g.src
  let ok (x : Nat) : Bool :=
    let b := pcBase p x
    s.ctxKind p x == (if g.proto = 17 then 1 else if g.proto = 6 then 2 else 9) && s.get b Rg.PC_CFG.V6 == b2n g.v6 &&
    s.get b Rg.PC_PORTS.LPORT == dp
  let exact (x : Nat) : Bool :=
    let b := pcBase p x
    !s.flag b Rg.PC_CFG.WILD && s.get b Rg.PC_PORTS.RPORT == sp && s.get b Rg.PC_RADDR.ADDR == a.1 &&
    s.get (b + 8) Rg.PC_RADDR.ADDR == a.2
  let l := (s.ctxsOn p).filter ok
  match l.find? exact with
  | some x => some x
  | none => l.find? (fun x => s.flag (pcBase p x) Rg.PC_CFG.WILD)

/-! ### Software copies (R449) -/

/-- The lowest context number that is OFF. -/
def State.offContext (s : State) (p : Nat) : Nat := ((List.range 1024).find? (fun x => !s.ctxOn p x)).getD 0

/-- A TYPE 0x72 item with its bytes in the ring of the link to position 82; none when it finds no credit or slot. -/
def State.toSoft (s : State) (p x flow reason port w1 : Nat) (bytes : List Byte) : Option State :=
  s.sendRing (pkPos p) 82 0x72 flow 0 bytes (bytes.length % 2 ^ 14 * 2 ^ 12 + x % 1024 * 2 ^ 26 + reason * 2 ^ 36 + port * 2 ^ 40) w1 2

/-- A received copy for software, dropped where it finds no credit or slot (R443). -/
def State.rxSoft (s : State) (p x flow reason port w1 : Nat) (bytes : List Byte) : State :=
  match s.toSoft p x flow reason port w1 bytes with
  | some t => t
  | none => s.count (pcBase p x) Rg.PC_CNT.DROP 1

/-! ### C37.118.2 frames (R298–R301) -/

/-- One step of CRC-CCITT over the bits of a byte. -/
def ccittShift : Nat → Nat → Nat
  | 0, c => c
  | n + 1, c => ccittShift n (if 32768 ≤ c then (c * 2 ^^^ 0x11021) % 65536 else c * 2)

/-- CRC-CCITT with initial value 0xFFFF (R300). -/
def crcCcitt (l : List Byte) : Nat := l.foldl (fun c b => ccittShift 8 (c ^^^ b.toNat * 256)) 0xFFFF

/-- FRAMESIZE of a frame. -/
def c37Size (f : List Byte) : Nat := beNat f 2 2
/-- Step 1 of R300: SYNC, version and FRAMESIZE. -/
def c37Head (f : List Byte) : Bool :=
  beNat f 0 1 == 0xAA && (beNat f 1 1 % 16 == 1 || beNat f 1 1 % 16 == 2) && decide (18 ≤ c37Size f ∧ c37Size f ≤ 8192)
/-- Step 2 of R300: CHK. -/
def c37Sum (f : List Byte) : Bool := crcCcitt (f.take (c37Size f - 2)) == beNat f (c37Size f - 2) 2

/-- The stream of a C37 receive context. -/
def State.ctxStream (s : State) (p x : Nat) : Nat :=
  let b := pcBase p x
  (tilePositions .aln).idxOf (s.get b Rg.PC_CFG.DST_POS) * 512 + s.get b Rg.PC_CFG.DST_LANE

/-- A count of a context's stream. -/
def State.streamCount (s : State) (p x : Nat) (f : Fld) : State := s.count (alBase (s.ctxStream p x)) f 1

/-- Steps 2–5 of R300 for a frame of context x that passed step 1; one that finds no credit or slot counts as BAD_CHK (R316); `w1` is the ingress timestamp of the first byte of the frame
it came in, `last` that of its last byte. -/
def State.c37Frame (s : State) (p x port w1 last : Nat) (f : List Byte) : State :=
  let b := pcBase p x
  let st := s.ctxStream p x
  if f.length < c37Size f ∨ !c37Sum f then s.streamCount p x Rg.AL_CNT2.BAD_CHK
  else
    let f := f.take (c37Size f)
    if !s.flag (alBase st) Rg.AL_CFG.EN ∨ s.isLocal st ∨ beNat f 4 2 ≠ s.get (alBase st) Rg.AL_CFG.IDCODE then
      s.rxSoft p x (s.get (kindBase .pkt p) Rg.PK_CFG.DEF_FLOW) 2 port w1 f
    else if bits 4 3 (beNat f 1 1) ≠ 0 then s.rxSoft p x (s.get b Rg.PC_CFG.SW_FLOW) 3 port w1 f
    else if f.length ≠ 16 + s.get (alBase st) Rg.AL_STAT.LEN then
      (s.streamCount p x Rg.AL_CNT2.BADLEN).atEvent (st / 512) Rg.AT_EVT.BADLEN
    else
      match s.sendRing (pkPos p) (s.get b Rg.PC_CFG.DST_POS) 0x52 0 (s.get b Rg.PC_CFG.DST_LANE) f
          (f.length * 2 ^ 12 + x * 2 ^ 26) last 2 with
      | some t => t
      | none => s.streamCount p x Rg.AL_CNT2.BAD_CHK

/-- The instant of a frame's last byte from that of its first, the port's speed and the number of bytes between them. -/
def State.lastByte (s : State) (port w1 n : Nat) : Nat :=
  let per := match s.get (ethBase port) Rg.ETH_STAT.SPEED with | 0 => 8 | 1 => 80 | 2 => 800 | _ => 8000
  (w1 + rnd 70 (((n - 1) * per : Nat) : Int) 10).toNat

/-- A TCP stream cut into frames (R298). A SYNC byte other than 0xAA where a frame must begin starts a search: bytes go until a 0xAA
begins a frame with a valid CHK. A frame with 0xAA whose version is not 1 or 2 goes uncounted with its FRAMESIZE bytes; one whose
FRAMESIZE is out of range cannot be delimited, and the search starts uncounted (R300, step 1; DESIGN CHOICE, log entry 44). -/
def delimit (p x port w1 last : Nat) : Nat → State → State
  | 0, s => s
  | fuel + 1, s =>
    let c := s.ctx p x
    let cut (n : Nat) (search : Bool) : State := s.setCtx p x { c with buf := c.buf.drop n, search := search }
    if c.buf = [] then s
    else if c.search then
      if beNat c.buf 0 1 = 0xAA ∧ c.buf.length < 4 then s
      else if !c37Head c.buf then delimit p x port w1 last fuel (cut 1 true)
      else if c.buf.length < c37Size c.buf then s
      else if !c37Sum c.buf then delimit p x port w1 last fuel (cut 1 true)
      else delimit p x port w1 last fuel ((cut (c37Size c.buf) false).c37Frame p x port w1 last (c.buf.take (c37Size c.buf)))
    else if beNat c.buf 0 1 ≠ 0xAA then delimit p x port w1 last fuel ((cut 1 true).streamCount p x Rg.AL_CNT2.BAD_CHK)
    else if c.buf.length < 4 then s
    else if c37Size c.buf < 18 ∨ 8192 < c37Size c.buf then delimit p x port w1 last fuel (cut 1 true)
    else if c.buf.length < c37Size c.buf then s
    else if !c37Head c.buf then delimit p x port w1 last fuel (cut (c37Size c.buf) false)
    else delimit p x port w1 last fuel ((cut (c37Size c.buf) false).c37Frame p x port w1 last (c.buf.take (c37Size c.buf)))

/-- The bytes of a TCP segment taken into a C37 context (R445). -/
def State.takeSegment (s : State) (p x port w1 last seq : Nat) (pl : List Byte) : State :=
  let b := pcBase p x
  let nxt := s.get b Rg.PC_TCP.RCV_NXT
  let back := (nxt + 2 ^ 32 - seq % 2 ^ 32) % 2 ^ 32
  if pl = [] then s
  else if back < 2 ^ 31 then
    let new := pl.drop back
    if new = [] then s
    else
      let c := s.ctx p x
      let t := (s.setCtx p x { c with buf := c.buf ++ new }).set b Rg.PC_TCP.RCV_NXT (nxt + new.length)
      delimit p x port w1 last (2 * (c.buf.length + new.length) + 2) t
  else
    let t := ((s.setCtx p x { s.ctx p x with buf := pl, search := true }).streamCount p x Rg.AL_CNT2.BAD_CHK)
    let t := t.sets b [(Rg.PC_TCP.RCV_NXT, seq + pl.length), (Rg.PC_STAT.GAP, 1)]
    delimit p x port w1 last (2 * pl.length + 2) t

/-! ### Receiving (R443, R445) -/

/-- A datagram given to context x (R443, step 5; R445). -/
def State.rxData (s : State) (p x port w1 flen : Nat) (g : IpGram) : State :=
  let b := pcBase p x
  let s := s.count b Rg.PC_CNT.RX 1
  let flow := s.get b Rg.PC_CFG.SW_FLOW
  let last := s.lastByte port w1 flen
  if g.proto = 6 then
    let t := s.rxSoft p x flow 4 port w1 g.bytes
    if s.ctxProto p x = 1 then t.takeSegment p x port w1 last (beNat g.body 4 4) (g.body.drop (beNat g.body 12 1 / 16 * 4)) else t
  else
    let pl := (g.body.take (beNat g.body 4 2)).drop 8
    if s.ctxProto p x = 1 then (if c37Head pl then s.c37Frame p x port w1 last pl else s)
    else s.rxSoft p x flow 1 port w1 pl

/-- A frame that a rule handed to a PKT tile. -/
def State.rxFrame (s : State) (p port w1 : Nat) (f : List Byte) : State :=
  let k := kindBase .pkt p
  let soft (t : State) (reason : Nat) (bytes : List Byte) : State :=
    t.rxSoft p (t.offContext p) (t.get k Rg.PK_CFG.DEF_FLOW) reason port w1 bytes
  match ipGram f with
  | none => (s.count k Rg.PK_CNT.HDR_ERR 1).pkEvent p Rg.PK_EVT.HDR_ERR
  | some g =>
    if !g.sumOk then (s.count k Rg.PK_CNT.HDR_ERR 1).pkEvent p Rg.PK_EVT.HDR_ERR
    else if g.frag then soft s 6 g.bytes
    else match s.rxContext p g with
      | some x => s.rxData p x port w1 f.length g
      | none =>
        if s.flag k Rg.PK_CFG.DEF_EN then soft s 0 (if g.proto = 17 then (g.body.take (beNat g.body 4 2)).drop 8
          else if g.proto = 6 then g.body.drop (beNat g.body 12 1 / 16 * 4) else g.body)
        else s.count k Rg.PK_CNT.NOMATCH 1

/-- PKT_RX_ITEM: the TYPE 0x71 item handed to PKT tile `pkt`. -/
def execPktRxItem (pkt : Nat) (s : State) : Host.Outcome State Fault Refusal :=
  match s.item (pkPos pkt) 0x71 with
  | none => .next s
  | some (src, q) =>
    let w := q.data.headD 0
    let s := s.taken (pkPos pkt) 0x71
    let a := s.slotAddr src (pkPos pkt) (bits 0 12 w)
    match s.memRead a (bits 12 14 w) with
    | (t, none) => .next (t.poisonDrop (pkPos pkt) a)
    | (t, some f) => .next (t.rxFrame pkt (bits 26 2 w) (q.data.getD 1 0) f)

/-! ### Transmitting (R309, R446, R447) -/

/-- The time-quality byte of a frame at `tk` (R309): leap bits as C37.118.2 places them (6 direction, 5 occurred, 4 pending), and
TQ. -/
def State.leapByte (s : State) (tk tq : Nat) : Nat :=
  let at_ := s.get bTime Rg.LEAP_AT.INSTANT
  let occ := decide (s.time.leapAt ≠ 0 ∧ s.time.leapAt ≤ tk ∧ tk < s.time.leapAt + 86400000000000)
  let pend := s.time.leap && decide (tk < at_ ∧ at_ ≤ tk + 60000000000)
  let ofs := s.get bTime Rg.UTC_CTRL.UTC_OFS
  let del := (pend && decide (s.get bTime Rg.UTC_CTRL.NEXT_OFS < ofs)) || (!pend && occ && decide (ofs < s.time.oldOfs))
  tq % 16 + b2n pend * 16 + b2n occ * 32 + b2n del * 64

/-- The C37.118.2 data frame of an emitted bucket (R309). -/
def State.buildFrame (s : State) (c : Conc) (tk tq : Nat) (payload : List Byte) : List Byte :=
  let b := acBase c.home c.n
  let base := s.get b Rg.AC_FLOW.TIME_BASE
  let soc := tk / 1000000000 - s.get bTime Rg.UTC_CTRL.UTC_OFS
  let frac := (roundDiv ((tk % 1000000000 * base : Nat) : Int) 1000000000).toNat
  let f := be 2 0xAA02 ++ be 2 (payload.length + 16) ++ be 2 (s.get b Rg.AC_CFG.IDCODE) ++ be 4 soc ++ be 1 (s.leapByte tk tq) ++ be 3 frac ++
    payload
  f ++ be 2 (crcCcitt f)

/-- The datagram of a TX_UDP context with its Ethernet header (R446). -/
def State.wrap (s : State) (p x : Nat) (payload : List Byte) : List Byte :=
  let b := pcBase p x
  let v6 := s.flag b Rg.PC_CFG.V6
  let ttl := let t := s.get b Rg.PC_TX.TTL
             if t = 0 then 64 else t
  let dscp := s.get b Rg.PC_TX.DSCP
  let addr (f : Fld) : List Byte :=
    if v6 then be 8 (s.get (b + 8) f) ++ be 8 (s.get b f) else be 4 (s.get b f)
  let src := addr Rg.PC_LADDR.ADDR
  let dst := addr Rg.PC_RADDR.ADDR
  let n := 8 + payload.length
  let udp0 := be 2 (s.get b Rg.PC_PORTS.LPORT) ++ be 2 (s.get b Rg.PC_PORTS.RPORT) ++ be 2 n ++ be 2 0 ++ payload
  let g : IpGram := ⟨[], v6, src, dst, 17, false, udp0⟩
  let c := inetSum (g.pseudo ++ udp0)
  let udp := overlay udp0 6 (be 2 (if c = 0 then 65535 else c))
  let mac := be 6 (s.get b Rg.PC_DMAC.MAC) ++ be 6 (s.get (ethBase (s.get b Rg.PC_TX.PORT - 84)) Rg.ETH_MAC.MAC)
  if v6 then mac ++ be 2 0x86DD ++ be 4 (6 * 2 ^ 28 + dscp * 4 * 2 ^ 20) ++ be 2 n ++ be 1 17 ++ be 1 ttl ++ src ++ dst ++ udp
  else
    let h0 := be 1 0x45 ++ be 1 (dscp * 4) ++ be 2 (20 + n) ++ be 2 (s.ctx p x).ident ++ be 2 0x4000 ++ be 1 ttl ++ be 1 17 ++ be 2 0 ++
      src ++ dst
    mac ++ be 2 0x0800 ++ overlay h0 10 (be 2 (inetSum h0)) ++ udp

/-- A transmit copy dropped (R447). -/
def State.copyDrop (s : State) (p x : Nat) (long : Bool) : State :=
  let t := (s.count (pcBase p x) Rg.PC_CNT.DROP 1).count (kindBase .pkt p) Rg.PK_CNT.TX_DROP 1
  if long then (t.count (kindBase .pkt p) Rg.PK_CNT.TOO_LONG 1).pkEvent p Rg.PK_EVT.TOO_LONG else t.pkEvent p Rg.PK_EVT.TX_DROP

/-- One transmit context's copy of a payload, whose instant is `w1` (R446, R447). -/
def State.txCopy (s : State) (p : Nat) (payload : List Byte) (w1 : Nat) (x : Nat) : State :=
  let b := pcBase p x
  if s.ctxKind p x = 3 then
    let dst := s.get b Rg.PC_TX.PORT
    let f := s.wrap p x payload
    let s := s.setCtx p x { s.ctx p x with ident := ((s.ctx p x).ident + 1) % 65536 }
    if s.maxFrame (dst - 84) < f.length + 4 then s.copyDrop p x true
    else match s.sendRing (pkPos p) dst 0x70 0 0 f (f.length % 2 ^ 14 * 2 ^ 12) 0 1 with
      | some t => t.count b Rg.PC_CNT.TX 1
      | none => s.copyDrop p x false
  else
    match s.toSoft p x (s.get b Rg.PC_CFG.SW_FLOW) 5 0 w1 payload with
    | some t => t.count b Rg.PC_CNT.TX 1
    | none => s.copyDrop p x false

/-- The input port of a link into a tile: its place among the links into that tile in LINK_ID order. -/
def State.inputPort (s : State) (pos id : Nat) : Nat := (s.links.filter (fun l => l.rc.dst == pos)).findIdx (fun l => l.rc.id == id)

/-- The transmit contexts that take an item of an input port: for concentrations (PROTO 1) those of concentration n. -/
def State.txContexts (s : State) (p port proto n : Nat) : List Nat :=
  (s.ctxsOn p).filter (fun x => (s.ctxKind p x == 3 || s.ctxKind p x == 4) && s.ctxProto p x == proto &&
    s.get (pcBase p x) Rg.PC_CFG.IN_PORT == port && (proto != 1 || s.get (pcBase p x) Rg.PC_CFG.CONC == n))

/-- A TYPE 0x54 item served: every context that takes it builds its copy, and the slot is released (R308, R446). -/
def State.txConc (s : State) (p port : Nat) (data : List Nat) : State :=
  let w := data.headD 0
  let n := bits 8 4 w
  let tk := data.getD 1 0
  match s.conc n with
  | none => s
  | some c =>
    let a := s.slotOf c (bits 0 8 w)
    match s.memRead a (bits 12 17 w) with
    | (t, none) => (t.poisonDrop (pkPos p) a).slotRelease n (bits 0 8 w)
    | (t, some pl) =>
      let f := t.buildFrame c tk (bits 45 4 w) pl
      ((t.txContexts p port 1 n).foldl (fun u x => u.txCopy p f tk x) t).slotRelease n (bits 0 8 w)

/-- A TYPE 0x30 item served: every RTCM context that takes it sends its copy. -/
def State.txCorr (s : State) (p port src : Nat) (data : List Nat) : State :=
  let w := data.headD 0
  let a := s.slotAddr src (pkPos p) (bits 0 12 w)
  match s.memRead a (bits 12 11 w) with
  | (t, none) => t.poisonDrop (pkPos p) a
  | (t, some pl) => (t.txContexts p port 2 0).foldl (fun u x => u.txCopy p pl (data.getD 1 0) x) t

/-- PKT_TX_ITEM: the TYPE 0x54 or 0x30 item handed to PKT tile `pkt`. -/
def execPktTxItem (pkt : Nat) (s : State) : Host.Outcome State Fault Refusal :=
  match s.rx.find? (fun p => s.isItem (pkPos pkt) 0x54 p || s.isItem (pkPos pkt) 0x30 p) with
  | none => .next s
  | some (id, q) =>
    let port := s.inputPort (pkPos pkt) id
    if pktType q.lw = 0x54 then .next ((s.taken (pkPos pkt) 0x54).txConc pkt port q.data)
    else .next ((s.taken (pkPos pkt) 0x30).txCorr pkt port (s.producer id) q.data)

/-! ### Enable (R442, R448) -/

/-- Whether KIND and PROTO form a combination of R442. -/
def kindOk (kind proto : Nat) : Bool :=
  ((kind == 1 || kind == 2) && (proto == 0 || proto == 1)) || ((kind == 3 || kind == 4) && (proto == 1 || proto == 2))

/-- Whether two contexts have the same key (R448). -/
def State.sameCtxKey (s : State) (p x y : Nat) : Bool :=
  let a := pcBase p x
  let b := pcBase p y
  s.ctxKind p x == s.ctxKind p y && s.get a Rg.PC_CFG.V6 == s.get b Rg.PC_CFG.V6 && s.get a Rg.PC_CFG.WILD == s.get b Rg.PC_CFG.WILD &&
  s.get a Rg.PC_PORTS.LPORT == s.get b Rg.PC_PORTS.LPORT && s.get a Rg.PC_PORTS.RPORT == s.get b Rg.PC_PORTS.RPORT &&
  s.get a Rg.PC_RADDR.ADDR == s.get b Rg.PC_RADDR.ADDR && s.get (a + 8) Rg.PC_RADDR.ADDR == s.get (b + 8) Rg.PC_RADDR.ADDR

/-- The first check an enable fails, as PC_STAT.REFUSE. -/
def State.ctxRefusal (s : State) (p x : Nat) : Nat :=
  let b := pcBase p x
  let k := s.ctxKind p x
  let pos := pkPos p
  let soft := (s.linkTo pos 82).isSome
  if !kindOk k (s.ctxProto p x) then 1
  else if k ≤ 2 ∧ (!soft ∨ !([84, 85, 86, 87].any (fun e => (s.linkTo e pos).isSome)) ∨
      (s.ctxProto p x = 1 ∧ (s.linkTo pos (s.get b Rg.PC_CFG.DST_POS)).isNone)) then 2
  else if k = 3 ∧ (s.linkTo pos (s.get b Rg.PC_TX.PORT)).isNone then 2
  else if k = 4 ∧ (!soft ∨ s.slotBytes pos 82 < 8192) then 2
  else if k ≤ 2 ∧ (s.ctxsOn p).any (fun y => y != x && s.sameCtxKey p x y) then 3
  else 0

/-- EN set on a context. -/
def State.ctxEnable (s : State) (p x : Nat) : State :=
  let b := pcBase p x
  if s.ctxOn p x then s
  else
    let r := s.ctxRefusal p x
    if r ≠ 0 then (s.set b Rg.PC_STAT.REFUSE r).pkEvent p Rg.PK_EVT.REFUSED
    else (s.sets b [(Rg.PC_CFG.EN, 1), (Rg.PC_STAT.RUN, 1), (Rg.PC_STAT.REFUSE, 0)]).setCtx p x .off

/-- EN cleared on a context. -/
def State.ctxDisable (s : State) (p x : Nat) : State :=
  let t := s.sets (pcBase p x) [(Rg.PC_CFG.EN, 0), (Rg.PC_STAT.RUN, 0)]
  { t with pkt := assocDel (p * 1024 + x) t.pkt }

/-- A write of a register of context x. -/
def State.ctxWrite (s : State) (m : Master) (p x off : Nat) (f : State → State) : State :=
  s.tileWrite m (pkPos p) x off f

/-- PKT_CTX_ENABLE: PC_CFG written with EN 1. A context that a stream owns takes no software write (R444). -/
def execPktCtxEnable (m : Master) (pkt x : Nat) (s : State) : Host.Outcome State Fault Refusal :=
  if pkt < 8 then .next (s.ctxWrite m pkt x 0x100 (fun t =>
    if t.flag (pcBase pkt x) Rg.PC_CFG.OWNED then t.pkEvent pkt Rg.PK_EVT.OWNED else t.ctxEnable pkt x)) else .next s

/-- PC_TCP.RCV_NXT written: the buffer is emptied and GAP clears (R445). -/
def State.rcvNxt (s : State) (p x v : Nat) : State :=
  (s.sets (pcBase p x) [(Rg.PC_TCP.RCV_NXT, v), (Rg.PC_STAT.GAP, 0)]).setCtx p x { s.ctx p x with buf := [], search := false }

/-- RCV_NXT_WRITE. -/
def execRcvNxtWrite (m : Master) (pkt x v : Nat) (s : State) : Host.Outcome State Fault Refusal :=
  if pkt < 8 then .next (s.ctxWrite m pkt x 0x140 (fun t => t.rcvNxt pkt x v)) else .next s

/-- Every context disabled and its state lost (R451). -/
def State.pktOff (s : State) : State :=
  let here := fun k => (List.range 8).any (fun p => decide (kindBase .pkt p + 0x100 ≤ k % 2 ^ 40 ∧ k % 2 ^ 40 < kindBase .pkt p + 0x158))
  { s.clearCells (fun k => here (keyAddr k)) with pkt := [] }

end Sys2Proof.Machine
end

