-- ==== Sys2Proof/Machine/Keys.lean ====
section
/-! DEFINITION. Life cycle, roots, the key store and its mailbox commands (R494–R518). -/

namespace Sys2Proof.Machine

/-! ### Boot authentication (R500) -/

/-- A key of the key page: 0 boot-authentication, 1 application, 2 debug. In BLANK it is the provisioning key of the boot ROM; one
that disagrees with its fused digest verifies nothing. -/
def State.pageKey (s : State) (i : Nat) : List Byte :=
  let k := s.sec.keyPage.getD i []
  if s.get bSec Rg.SEC_STAT.LC = 0 then Config.provKey
  else if s.sec.hashes[i]? = some (sha384 k) then k else []

/-- Whether every key of the key page agrees with its fused digest. -/
def State.keyPageOk (s : State) : Bool :=
  [0, 1, 2].all (fun i => s.sec.hashes[i]? == some (sha384 (s.sec.keyPage.getD i [])))

/-- Whether a signature R ‖ S of 96 bytes over a message verifies under a key of the key page. -/
def State.signed (s : State) (i : Nat) (msg sig : List Byte) : Bool :=
  sig.length == 96 && sigOk (s.pageKey i) msg (sig.take 48) (sig.drop 48)

/-- The bytes that LC_ADVANCE and REROOT sign (R495, R499): AXLC, the serial number, the target code and the present challenge. -/
def State.lcBytes (s : State) (target : Nat) : List Byte :=
  [0x41, 0x58, 0x4C, 0x43] ++ leBytes 8 s.sec.serial ++ leBytes 1 target ++ leBytes 8 (s.get bSec Rg.SEC_CHAL.CHAL)

/-- Whether the header of an image verifies (R130). -/
def State.headSigned (s : State) (typ : Nat) (h : List Byte) : Bool :=
  s.signed (if typ = 6 then 1 else 0) (h.take 0xF80) ((h.drop 0xF80).take 96)

/-- Whether a structure image's own signature verifies: it covers every byte before the signature block (R78, R79). -/
def State.structSigned (s : State) (l : List Byte) : Bool :=
  let n := leAt l 0x30 4 - 128
  s.signed 0 (l.take n) ((l.drop n).take 96)

/-! ### Keys and slots -/

/-- The bytes of a key: (K ⊕ M) ⊕ M. -/
def Key.bytes (k : Key) : List Byte := List.zipWith (· ^^^ ·) k.x k.m

/-- The check value of key bytes: the first 3 bytes of AES of 16 zero bytes (R516). -/
def checkOf (k : List Byte) : Nat := leVal ((aes k (List.replicate 16 0)).take 3)

/-- A key masked with a mask of its own length (R515). -/
def maskKey (k m : List Byte) : Key := ⟨List.zipWith (· ^^^ ·) k m, m, checkOf k⟩

/-- A key renewed with a new mask (R515): both words of the pair in one cycle. -/
def Key.remask (k : Key) (m : List Byte) : Key := { k with x := List.zipWith (· ^^^ ·) k.bytes m, m := m }

/-- The base of KS_ATTRs. -/
def ksBase (s : Nat) : Nat := bSec + s * 8

/-- The key halves of a slot. -/
def State.keySlot (s : State) (n : Nat) : Option KeySlot := s.sec.slots.find? (fun k => k.slot == n)

/-- The key halves of a slot replaced. -/
def State.setSlot (s : State) (k : KeySlot) : State :=
  { s with sec := { s.sec with slots := s.sec.slots.filter (fun x => x.slot != k.slot) ++ [k] } }

/-- STATE of a slot: 0 EMPTY, 1 VALID, 2 ORPHANED. -/
def State.ksState (s : State) (n : Nat) : Nat := s.get (ksBase n) Rg.KS_ATTR.STATE

/-- The expected roots of the life-cycle state (R498), as indices 0 DEVELOP, 1 FIELD, 2 RETURN. -/
def expectedRoots : Nat → List Nat
  | 1 => [0, 1, 2] | 2 => [1, 2] | 3 => [2] | _ => []

/-- Whether every expected root is held. -/
def State.rootsHeld (s : State) : Bool :=
  (expectedRoots (s.get bSec Rg.SEC_STAT.LC)).all (fun i => (s.sec.roots.getD i none).isSome)

/-- Whether the test root is substituted (R505): at FULL, and at APP under AX-3300 selection. -/
def State.testRootOn (s : State) : Bool :=
  s.debugLevel == 2 || (s.debugLevel == 1 && s.flag bSec Rg.SEC_STAT.COMPAT_3300)

/-- The selected root (R505). -/
def State.selRoot (s : State) : Option (List Byte) :=
  let lc := s.get bSec Rg.SEC_STAT.LC
  if expectedRoots lc = [] then none
  else if s.testRootOn then some Config.testRoot
  else if s.rootsHeld then s.sec.roots.getD (lc - 1) none else none

/-- SEC_STAT.ROOT: 0 NONE, 1 OK, 2 LOST, 3 TEST. -/
def State.rootCode (s : State) : Nat :=
  if expectedRoots (s.get bSec Rg.SEC_STAT.LC) = [] then 0
  else if s.testRootOn then 3 else if s.rootsHeld then 1 else 2

/-- Whether debug-sensitive slots are refused with DEBUG: native APP (R505). -/
def State.debugRefused (s : State) : Bool := s.debugLevel == 1 && !s.flag bSec Rg.SEC_STAT.COMPAT_3300

/-- SEC_STAT.KS_EN: the key store is usable. -/
def State.ksOn (s : State) : Bool := s.on .sec && s.selRoot.isSome && !s.sec.disabled

/-- Whether a slot is usable (R508). -/
def State.slotUsable (s : State) (n : Nat) : Bool :=
  s.ksOn && s.ksState n == 1 && !(s.debugRefused && s.flag (ksBase n) Rg.KS_ATTR.DBG_SENS) &&
  (!s.flag (ksBase n) Rg.KS_ATTR.FROM_TEST || s.rootCode == 3)

/-- Whether a slot may be used by an engine (DEST bit) for every usage class of a mask (R509). -/
def State.keyFor (s : State) (n dest usage : Nat) : Bool :=
  s.slotUsable n && bitOf dest (s.get (ksBase n) Rg.KS_ATTR.DEST) && s.get (ksBase n) Rg.KS_ATTR.USAGE &&& usage == usage

/-- DEST of Gauntlet. -/
def destGauntlet : Nat := 10
/-- Usage masks. -/
def useEnc : Nat := 1
/-- DEC. -/
def useDec : Nat := 2
/-- MAC. -/
def useMac : Nat := 4
/-- DERIVE. -/
def useDerive : Nat := 8
/-- WRAP. -/
def useWrap : Nat := 16

/-- The live half of a slot. -/
def State.liveKey (s : State) (n : Nat) : Option Key := (s.keySlot n).map (·.live)

/-- The live half delivered to lane `lane` of the tile at `pos` (R510). -/
def State.deliverKey (s : State) (pos lane slot : Nat) : State :=
  match s.liveKey slot with
  | none => s
  | some k =>
    let c := s.sec.copies.filter (fun x => !(x.pos == pos && x.lane == lane))
    { s with sec := { s.sec with copies := c ++ [⟨pos, lane, slot, k, none, false⟩] } }

/-- The copy a lane holds. -/
def State.keyCopy (s : State) (pos lane : Nat) : Option KeyCopy :=
  s.sec.copies.find? (fun c => c.pos == pos && c.lane == lane)

/-- A lane's copy dropped when its function is disabled (R510). -/
def State.dropKey (s : State) (pos lane : Nat) : State :=
  { s with sec := { s.sec with copies := s.sec.copies.filter (fun c => !(c.pos == pos && c.lane == lane)) } }

/-- A lane's own boundary: a committed replacement is taken, a revoked copy cleared (R516, R517). -/
def State.keyBoundary (s : State) (pos lane : Nat) : State :=
  let f := fun c : KeyCopy => if c.pos = pos ∧ c.lane = lane then
    (match c.nxt with | some k => { c with key := k, nxt := none } | none => c) else c
  { s with sec := { s.sec with copies :=
      (s.sec.copies.filter (fun c => !(c.pos == pos && c.lane == lane && c.gone))).map f } }

/-- Copies of a slot marked to be cleared at their engines' boundaries (R517). -/
def State.revoke (s : State) (slot : Nat) : State :=
  { s with sec := { s.sec with copies := s.sec.copies.map (fun c => if c.slot = slot then { c with gone := true } else c) } }

/-! ### Mailbox channels (R511, R512) -/

/-- The base of channel `c`'s registers. -/
def gmBase (c : Nat) : Nat := bSec + c * 0x400

/-- Whether a master belongs to channel `c` (R511). -/
def gmOwner (c : Nat) (m : Master) : Bool :=
  match c with
  | 0 => m == .mp
  | 1 => m == .tp
  | 2 => m == .ac0 || m == .ac1 || m == .ac2 || m == .ac3
  | 3 => m == .jtag
  | _ => false

/-- Who has the right to write in channel `c` (R74; JTAG: R502); a channel takes the writes of its own masters only (R511). -/
def mayChannel (s : State) (m : Master) (c : Nat) : Bool :=
  match m with
  | .gauntlet | .mp | .tp | .ac0 | .ac1 | .ac2 | .ac3 => true
  | .jtag => s.debugFull || decide (c = 3)
  | _ => false

/-- The result of a command given to its channel: BUSY clears, DONE sets and pulses EV(004 + c). -/
def State.gmFinish (s : State) (c code : Nat) (data : List Byte) : State :=
  let b := gmBase c
  let s := s.putBuf b Rg.GM_RESULT.DATA 0 (padTo 256 (BitVec.ofNat 8 code :: data))
  (s.set b Rg.GM_STAT.BUSY 0).event (4 + c) b Rg.GM_STAT.DONE

/-- The first busy channel after `last`, in turn. -/
def State.nextBusy (s : State) (last : Nat) : Option Nat :=
  ([1, 2, 3, 4].map (fun i => (last + i) % 4)).find? (fun c => s.flag (gmBase c) Rg.GM_STAT.BUSY)

/-- Gauntlet serves busy channels round-robin, one command at a time (R511). -/
def State.gmTurn (s : State) (c : Nat) : Bool := s.sec.cur.isNone && s.nextBusy s.sec.served == some c

/-- GO written to channel `c`: ignored while BUSY; an unknown command code is answered BAD_REQ. -/
def State.gmGo (s : State) (c : Nat) : State :=
  let b := gmBase c
  if s.flag b Rg.GM_STAT.BUSY then s
  else
    let code := s.get b Rg.GM_REQ.DATA % 256
    let s := s.set b Rg.GM_STAT.BUSY 1
    if [1, 2, 3, 4, 5, 6, 7, 8, 0x10, 0x11, 0x12, 0x13].contains code then s else s.gmFinish c 2 []

/-- ACK written to channel `c`. -/
def State.gmAck (s : State) (c : Nat) : State := s.set (gmBase c) Rg.GM_STAT.DONE 0

/-- GM_ACK. -/
def execGmAck (m : Master) (ch : Nat) (s : State) : Host.Outcome State Fault Refusal :=
  .next (s.actWrite m (mayChannel s m ch) .sec (gmBase ch + 0x13F0) (fun t => if gmOwner ch m then t.gmAck ch else t))

/-- The slots as they would be stored (R518): under the life-cycle root the PERSIST slots; otherwise what is stored stays. -/
def State.persistSnap (s : State) : List StoredSlot :=
  match s.selRoot, s.rootCode with
  | some r, 1 => (s.sec.slots.filter (fun k => s.flag (ksBase k.slot) Rg.KS_ATTR.PERSIST)).map
      (fun k => ⟨k.slot, s.word (ksBase k.slot) .KS_ATTR - s.get (ksBase k.slot) Rg.KS_ATTR.PENDING * 4, k.live.bytes, r⟩)
  | _, _ => s.sec.stored

/-- A command of channel `c` with a code served in its turn. A command that changes a PERSIST slot answers PENDING until both
settings copies are written (R518). -/
def State.gmServe (s : State) (c code : Nat) (f : State → State × Nat × List Byte) : State :=
  if !s.on .sec ∨ !s.gmTurn c ∨ s.get (gmBase c) Rg.GM_REQ.DATA % 256 ≠ code then s
  else
    let s := { s with sec := { s.sec with served := c } }
    let r := f s
    if r.2.1 = 0 ∧ r.1.persistSnap ≠ s.persistSnap then
      let t := r.1.putBuf (gmBase c) Rg.GM_RESULT.DATA 0 (padTo 256 [1])
      { t with sec := { t.sec with cur := some ⟨c, r.2.2, r.1.persistSnap⟩ } }
    else r.1.gmFinish c r.2.1 r.2.2

/-- KEY_PERSIST_DONE: both settings copies are written. -/
def execKeyPersistDone (s : State) : Host.Outcome State Fault Refusal :=
  match s.sec.cur with
  | none => .next s
  | some p => .next ({ s with sec := { s.sec with cur := none, stored := p.snap } }.gmFinish p.ch 0 p.data)

/-! ### Key commands -/

/-- A named slot checked for a command of channel `c`: EMPTY, owner, DEBUG, ORPHANED (R511, R512). 0 lets it pass. -/
def State.slotCheck (s : State) (c n : Nat) (owned orphanOk : Bool) : Nat :=
  if !s.ksOn then 0x0B
  else if s.ksState n = 0 then 4
  else if owned ∧ s.get (ksBase n) Rg.KS_ATTR.OWNER ≠ c then 3
  else if s.debugRefused ∧ s.flag (ksBase n) Rg.KS_ATTR.DBG_SENS then 8
  else if s.ksState n = 2 ∧ !orphanOk then 7
  else 0

/-- A slot that serves as parent or wrapping key: the usage it needs (R512). -/
def State.helperCheck (s : State) (n usage : Nat) : Nat :=
  if s.ksState n = 2 then 7
  else if s.ksState n = 0 then 6
  else if s.debugRefused ∧ s.flag (ksBase n) Rg.KS_ATTR.DBG_SENS then 8
  else if s.get (ksBase n) Rg.KS_ATTR.USAGE &&& usage = usage then 0 else 6

/-- The attributes a child takes from its parent (R513). -/
def State.inherit (s : State) (a : KeyAttr) : KeyAttr :=
  if a.parent < 256 then
    { a with dbg := a.dbg || s.flag (ksBase a.parent) Rg.KS_ATTR.DBG_SENS,
             noexp := a.noexp || s.flag (ksBase a.parent) Rg.KS_ATTR.EXPORT_NEVER }
  else a

/-- Whether attributes break R513, or name a parent that is no slot, root or none. -/
def State.attrBad (s : State) (a : KeyAttr) : Bool :=
  a.dest % 2048 == 0 || a.usage % 32 == 0 || (!a.len256 && a.usage % 32 / 4 != 0) ||
  !(decide (a.parent ≤ 0x100) || a.parent == 0x1FF) ||
  (decide (a.parent < 256) && s.ksState a.parent == 0) ||
  (a.persist && !(a.parent == 0x100 || (decide (a.parent < 256) && s.flag (ksBase a.parent) Rg.KS_ATTR.PERSIST)))

/-- A new key's command checked: 0 lets it pass (R512, R513). With PEND the staged half keeps its slot's attributes. -/
def State.newKeyCheck (s : State) (c n : Nat) (a : KeyAttr) (pend derive : Bool) : Nat :=
  if 255 < n then 2
  else if !s.ksOn then 0x0B
  else if !pend ∧ s.ksState n ≠ 0 then 4
  else if pend ∧ s.slotCheck c n true false ≠ 0 then s.slotCheck c n true false
  else
    let par := if pend then s.get (ksBase n) Rg.KS_ATTR.PARENT else a.parent
    let persist := if pend then s.flag (ksBase n) Rg.KS_ATTR.PERSIST else a.persist
    if !pend ∧ s.attrBad a then 5
    else if derive ∧ par = 0x1FF then 5
    else if par < 256 ∧ s.ksState par = 2 then 7
    else if par < 256 ∧ s.debugRefused ∧ s.flag (ksBase par) Rg.KS_ATTR.DBG_SENS then 8
    else if derive ∧ par < 256 ∧ s.helperCheck par useDerive ≠ 0 then s.helperCheck par useDerive
    else if persist ∧ s.rootCode = 3 then 0x0F
    else 0

/-- The length in bytes of the key a command makes. -/
def State.newLen (s : State) (n : Nat) (a : KeyAttr) (pend : Bool) : Nat :=
  if (if pend then s.flag (ksBase n) Rg.KS_ATTR.LEN256 else a.len256) then 32 else 16

/-- A key put into a slot's pending half, or into an EMPTY slot with its attributes (R508, R513, R516). The mask is drawn
from the TRNG (R515). -/
def State.placeKey (s : State) (c n : Nat) (a : KeyAttr) (pend : Bool) (k : List Byte) : State :=
  let key := maskKey k (trngBytes (k.length / 8) s.free)
  let s := s.drawn (k.length / 8)
  if pend then
    match s.keySlot n with
    | some o => (s.setSlot { o with pend := some key }).set (ksBase n) Rg.KS_ATTR.PENDING 1
    | none => s
  else
    let a := s.inherit a
    (s.setSlot ⟨n, key, none⟩).sets (ksBase n) [(Rg.KS_ATTR.STATE, 1), (Rg.KS_ATTR.PENDING, 0),
      (Rg.KS_ATTR.LEN256, b2n a.len256), (Rg.KS_ATTR.DEST, a.dest), (Rg.KS_ATTR.USAGE, a.usage),
      (Rg.KS_ATTR.PARENT, a.parent), (Rg.KS_ATTR.DBG_SENS, b2n a.dbg), (Rg.KS_ATTR.EXPORT_NEVER, b2n a.noexp),
      (Rg.KS_ATTR.PERSIST, b2n a.persist), (Rg.KS_ATTR.OWNER, c), (Rg.KS_ATTR.FROM_TEST, b2n (s.rootCode == 3)),
      (Rg.KS_ATTR.CHECK, key.chk)]

/-- KEY_GEN: a key from the TRNG. -/
def State.keyGen (s : State) (c n : Nat) (a : KeyAttr) (pend : Bool) : State × Nat × List Byte :=
  let e := s.newKeyCheck c n a pend false
  if e ≠ 0 then (s, e, [])
  else
    let w := s.newLen n a pend / 8
    ((s.drawn w).placeKey c n a pend (trngBytes w s.free), 0, [])

/-- KEY_GEN. -/
def execKeyGen (ch slot : Nat) (a : KeyAttr) (pend : Bool) (s : State) : Host.Outcome State Fault Refusal :=
  .next (s.gmServe ch 1 (fun t => t.keyGen ch slot a pend))

/-- The key of SP 800-108 in counter mode with HMAC-SHA-256 (R514): one block of 32 bytes is enough for 128 and 256 bits. -/
def kdf (parent label context : List Byte) (len : Nat) : List Byte :=
  padTo len (hmac256 parent ([0, 0, 0, 1] ++ label ++ [0] ++ context ++ (leBytes 4 (len * 8)).reverse))

/-- KEY_DERIVE. -/
def State.keyDerive (s : State) (c n : Nat) (a : KeyAttr) (pend : Bool) (label ctx : List Byte) :
    State × Nat × List Byte :=
  let e := s.newKeyCheck c n a pend true
  if label.length < 1 ∨ 32 < label.length ∨ 64 < ctx.length then (s, 2, [])
  else if e ≠ 0 then (s, e, [])
  else
    let par := if pend then s.get (ksBase n) Rg.KS_ATTR.PARENT else a.parent
    match (if par = 0x100 then s.selRoot else (s.liveKey par).map Key.bytes) with
    | none => (s, 0x0B, [])
    | some p => (s.placeKey c n a pend (kdf p label ctx (s.newLen n a pend)), 0, [])

/-- KEY_DERIVE. -/
def execKeyDerive (ch slot : Nat) (a : KeyAttr) (pend : Bool) (label ctx : List Byte) (s : State) :
    Host.Outcome State Fault Refusal :=
  .next (s.gmServe ch 2 (fun t => t.keyDerive ch slot a pend label ctx))

/-- KEY_IMPORT: the KW blob is unwrapped under the wrap slot's key. -/
def State.keyImport (s : State) (c n : Nat) (a : KeyAttr) (pend : Bool) (wrap : Nat) (blob : List Byte) :
    State × Nat × List Byte :=
  let e := s.newKeyCheck c n a pend false
  if e ≠ 0 then (s, e, [])
  else if s.helperCheck wrap useWrap ≠ 0 then (s, s.helperCheck wrap useWrap, [])
  else if blob.length ≠ 24 ∧ blob.length ≠ 40 then (s, 2, [])
  else match (s.liveKey wrap).bind (fun w => kwUnwrap w.bytes blob) with
    | none => (s, 0x10, [])
    | some k => if k.length = s.newLen n a pend then (s.placeKey c n a pend k, 0, []) else (s, 2, [])

/-- KEY_IMPORT. -/
def execKeyImport (ch slot : Nat) (a : KeyAttr) (pend : Bool) (wrap : Nat) (blob : List Byte) (s : State) :
    Host.Outcome State Fault Refusal :=
  .next (s.gmServe ch 3 (fun t => t.keyImport ch slot a pend wrap blob))

/-- KEY_EXPORT: the slot's key wrapped under the wrap slot. -/
def State.keyExport (s : State) (c n wrap : Nat) : State × Nat × List Byte :=
  let e := s.slotCheck c n true false
  if e ≠ 0 then (s, e, [])
  else if s.flag (ksBase n) Rg.KS_ATTR.EXPORT_NEVER then (s, 9, [])
  else if s.helperCheck wrap useWrap ≠ 0 then (s, s.helperCheck wrap useWrap, [])
  else match s.liveKey n, s.liveKey wrap with
    | some k, some w => (s, 0, kwWrap w.bytes k.bytes)
    | _, _ => (s, 4, [])

/-- KEY_EXPORT. -/
def execKeyExport (ch slot wrap : Nat) (s : State) : Host.Outcome State Fault Refusal :=
  .next (s.gmServe ch 4 (fun t => t.keyExport ch slot wrap))

/-- The committed key of a slot waits at every engine that holds the old one (R516). -/
def State.offerKey (s : State) (n : Nat) (k : Key) : State :=
  { s with sec := { s.sec with copies := s.sec.copies.map (fun c => if c.slot = n then { c with nxt := some k } else c) } }

/-- KEY_COMMIT (R516). -/
def State.keyCommit (s : State) (c n check : Nat) : State × Nat × List Byte :=
  let e := s.slotCheck c n true false
  if e ≠ 0 then (s, e, [])
  else match s.keySlot n with
    | none => (s, 4, [])
    | some k =>
      match k.pend with
      | none => (s, 4, [])
      | some p =>
        let t := s.set (ksBase n) Rg.KS_ATTR.PENDING 0
        if check ≠ p.chk then (t.setSlot { k with pend := none }, 0x0A, [])
        else (((t.setSlot ⟨n, p, none⟩).set (ksBase n) Rg.KS_ATTR.CHECK p.chk).offerKey n p, 0, [])

/-- KEY_COMMIT. -/
def execKeyCommit (ch slot check : Nat) (s : State) : Host.Outcome State Fault Refusal :=
  .next (s.gmServe ch 5 (fun t => t.keyCommit ch slot check))

/-- KEY_DISCARD. -/
def State.keyDiscard (s : State) (c n : Nat) : State × Nat × List Byte :=
  let e := s.slotCheck c n true false
  if e ≠ 0 then (s, e, [])
  else match s.keySlot n with
    | none => (s, 4, [])
    | some k => if k.pend.isNone then (s, 4, [])
                else ((s.setSlot { k with pend := none }).set (ksBase n) Rg.KS_ATTR.PENDING 0, 0, [])

/-- KEY_DISCARD. -/
def execKeyDiscard (ch slot : Nat) (s : State) : Host.Outcome State Fault Refusal :=
  .next (s.gmServe ch 6 (fun t => t.keyDiscard ch slot))

/-- A slot made EMPTY: both halves gone, its attributes at their reset values. -/
def State.emptySlot (s : State) (n : Nat) : State :=
  let t := Reg.KS_ATTR.desc.flds.foldl (fun t f => t.set (ksBase n) f f.rst) s
  { t with sec := { t.sec with slots := t.sec.slots.filter (fun k => k.slot != n) } }.revoke n

/-- The slots whose parents lie in a set, the set included; `f` bounds the generations followed. -/
def State.descend (s : State) : Nat → List Nat → List Nat
  | 0, l => l
  | f + 1, l =>
    let more := (s.sec.slots.map (·.slot)).filter
      (fun n => !l.contains n && l.contains (s.get (ksBase n) Rg.KS_ATTR.PARENT))
    if more = [] then l else s.descend f (l ++ more)

/-- A slot made ORPHANED (R517). -/
def State.orphan (s : State) (n : Nat) : State := (s.set (ksBase n) Rg.KS_ATTR.STATE 2).revoke n

/-- KEY_INVALIDATE: the slot EMPTY, every slot that descends from it ORPHANED; how many were orphaned (R517). -/
def State.keyInvalidate (s : State) (c n : Nat) : State × Nat × List Byte :=
  let e := s.slotCheck c n true true
  if e ≠ 0 then (s, e, [])
  else
    let kids := ((s.descend 256 [n]).filter (· != n)).filter (fun k => s.ksState k == 1)
    ((kids.foldl State.orphan s).emptySlot n, 0, leBytes 2 kids.length)

/-- KEY_INVALIDATE. -/
def execKeyInvalidate (ch slot : Nat) (s : State) : Host.Outcome State Fault Refusal :=
  .next (s.gmServe ch 7 (fun t => t.keyInvalidate ch slot))

/-- KEY_CHECK: live and pending check values, 3 bytes each; 0 for no pending half. -/
def State.keyCheck (s : State) (c n : Nat) : State × Nat × List Byte :=
  let e := s.slotCheck c n false false
  if e ≠ 0 then (s, e, [])
  else match s.keySlot n with
    | none => (s, 4, [])
    | some k => (s, 0, leBytes 3 k.live.chk ++ leBytes 3 (match k.pend with | some p => p.chk | none => 0))

/-- KEY_CHECK. -/
def execKeyCheck (ch slot : Nat) (s : State) : Host.Outcome State Fault Refusal :=
  .next (s.gmServe ch 8 (fun t => t.keyCheck ch slot))

/-- A new challenge (R504). -/
def State.newChal (s : State) : State := (s.set bSec Rg.SEC_CHAL.CHAL (Config.trng s.free).toNat).drawn 1

/-- DBG_UNLOCK: a token is accepted on channel 3 when its fields fit and its signature verifies (R503). -/
def State.dbgUnlock (s : State) (token : List Byte) : State × Nat × List Byte :=
  let lvl := leAt token 4 1
  let ok := s.signed 2 (token.take 0x20) (token.drop 0x20) && decide (token.length = 128) && leAt token 0 4 == 0x5444_5841 && (lvl == 1 || lvl == 2) &&
    leAt token 5 1 == s.get bSec Rg.SEC_STAT.LC && leAt token 6 2 == 0 && leAt token 8 8 == s.sec.serial &&
    leAt token 0x10 8 == s.get bSec Rg.SEC_CHAL.CHAL && leAt token 0x18 8 == 0
  if token.length ≠ 128 then (s.newChal, 2, [])
  else if ok then ((s.set bSec Rg.SEC_STAT.DBG_NEXT lvl).newChal, 0, []) else (s.newChal, 0x0C, [])

/-- DBG_UNLOCK. -/
def execDbgUnlock (ch : Nat) (token : List Byte) (s : State) : Host.Outcome State Fault Refusal :=
  .next (s.gmServe ch 0x10 (fun t => if ch = 3 then t.dbgUnlock token else (t.newChal, 2, [])))

/-- The slots whose parent is the root ORPHANED (R517). -/
def State.orphanRoot (s : State) : State :=
  let kids := (s.sec.slots.map (·.slot)).filter
    (fun n => s.get (ksBase n) Rg.KS_ATTR.PARENT == 0x100 && s.ksState n == 1 &&
      !s.flag (ksBase n) Rg.KS_ATTR.FROM_TEST)
  kids.foldl State.orphan s

/-- The root of the life-cycle state zeroed: the slots whose parent it is become ORPHANED (R517). -/
def State.zeroRoot (s : State) (i : Nat) : State :=
  let t := s.orphanRoot
  { t with sec := { t.sec with roots := listSet t.sec.roots i none } }

/-- Every root zeroed. -/
def State.zeroRoots (s : State) : State :=
  let t := s.orphanRoot
  { t with sec := { t.sec with roots := [none, none, none] } }

/-- A warm reset asked for (R119): RESET_CAUSE bits are set when it is taken. -/
def State.askReset (s : State) (cause : Nat) : State := { s with power := { s.power with due := s.power.due ++ [cause] } }

/-- A life-cycle transition (R494–R496, R503): the fuses are burned, debug is CLOSED at once, and the warm reset from which the new
state applies is asked for. -/
def State.lcMove (s : State) (target : Nat) : State :=
  let t := s.sets bSec [(Rg.SEC_STAT.DEBUG, 0), (Rg.SEC_STAT.DBG_NEXT, 0)]
  { t with sec := { t.sec with burned := max t.sec.burned target } }.askReset 1

/-- LC_ADVANCE (R495) with its signature R ‖ S. `cut` says that power was lost or a reset came before the life-cycle word (R496). -/
def State.lcAdvance (s : State) (target : Nat) (sig : List Byte) (cut : Bool) : State × Nat × List Byte :=
  let lc := s.get bSec Rg.SEC_STAT.LC
  let allowed := (lc == 1 && target == 2) || (lc == 2 && target == 3) || ((lc == 1 || lc == 2 || lc == 3) && target == 4)
  if !allowed ∨ target ≤ s.sec.burned then (s.newChal, 0x0D, [])
  else if !s.signed 0 (s.lcBytes target) sig then (s.newChal, 0x0C, [])
  else if cut then (s.newChal, 0x0E, [])
  else
    let t := s.newChal
    let t := if target = 4 then t.zeroRoots else t.zeroRoot (lc - 1)
    let t := if target = 2 then t else { t with sec := { t.sec with stored := [] } }
    (t.lcMove target, 0, [])

/-- LC_ADVANCE. -/
def execLcAdvance (ch target : Nat) (sig : List Byte) (cut : Bool) (s : State) : Host.Outcome State Fault Refusal :=
  .next (s.gmServe ch 0x11 (fun t => t.lcAdvance target sig cut))

/-- New roots drawn from the TRNG for a list of indices, the others kept. -/
def State.drawRoots (s : State) : List Nat → State
  | [] => s
  | i :: l =>
    let r := trngBytes 4 s.free
    { s.drawn 4 with sec := { s.sec with roots := listSet s.sec.roots i (some r) } }.drawRoots l

/-- The digests of the held roots burned into the next generation (R497); 0 where no root is held. -/
def State.burnDigests (s : State) : State :=
  let d := s.sec.roots.map (fun r => match r with | some b => rootDigest b | none => 0)
  let n := s.sec.digests.length + 1
  { s with sec := { s.sec with digests := s.sec.digests ++ [d] } }.set bSec Rg.SEC_STAT.REROOT_LEFT (4 - min n 4)

/-- PROVISION (R495, R496): BLANK only; repeated after an interruption only with the key hashes already burned. -/
def State.provision (s : State) (keys : List (List Byte)) (compat cut : Bool) : State × Nat × List Byte :=
  let h := keys.map sha384
  if s.get bSec Rg.SEC_STAT.LC ≠ 0 ∨ s.sec.burned ≠ 0 ∨ 4 ≤ s.sec.digests.length then (s, 0x0D, [])
  else if keys.length ≠ 3 ∨ keys.any (fun k => k.length != 97) then (s, 2, [])
  else if s.sec.hashes ≠ [] ∧ s.sec.hashes ≠ h then (s, 0x0D, [])
  else
    let t := { s with sec := { s.sec with keyPage := keys, hashes := h } }
    let t := (t.setB bSec Rg.SEC_STAT.COMPAT_3300 compat).drawRoots [0, 1, 2]
    let t := t.burnDigests
    if cut then (t.zeroRoots, 0x0E, []) else (t.lcMove 1, 0, [])

/-- PROVISION. -/
def execProvision (ch : Nat) (keys : List (List Byte)) (compat cut : Bool) (s : State) :
    Host.Outcome State Fault Refusal :=
  .next (s.gmServe ch 0x12 (fun t => t.provision keys compat cut))

/-- REROOT (R499) with its signature R ‖ S: the expected roots regenerated, their digests burned, the stored and the held slots emptied. -/
def State.reroot (s : State) (sig : List Byte) : State × Nat × List Byte :=
  if s.rootsHeld ∨ s.get bSec Rg.SEC_STAT.REROOT_LEFT = 0 ∨ s.get bSec Rg.TAMP_STAT.LATCHED ≠ 0 then (s.newChal, 0x0D, [])
  else if !s.signed 0 (s.lcBytes 0xFF) sig then (s.newChal, 0x0C, [])
  else
    let t := (s.newChal.drawRoots (expectedRoots (s.get bSec Rg.SEC_STAT.LC))).burnDigests
    let t := (t.sec.slots.map (·.slot)).foldl State.emptySlot t
    ({ t with sec := { t.sec with stored := [], disabled := false } }, 0, [])

/-- REROOT. -/
def execReroot (ch : Nat) (sig : List Byte) (s : State) : Host.Outcome State Fault Refusal :=
  .next (s.gmServe ch 0x13 (fun t => t.reroot sig))

/-! ### Re-masking -/

/-- Keys renewed in turn, each with a mask of its own. -/
def remaskAll (upd : Nat → Key → Key) : Nat → List KeySlot → List KeySlot
  | _, [] => []
  | i, k :: t => { k with live := upd i k.live, pend := k.pend.map (upd (i + 4)) } :: remaskAll upd (i + 8) t

/-- Delivered copies renewed in turn. -/
def remaskCopies (upd : Nat → Key → Key) : Nat → List KeyCopy → List KeyCopy
  | _, [] => []
  | i, c :: t => { c with key := upd i c.key, nxt := c.nxt.map (upd (i + 4)) } :: remaskCopies upd (i + 8) t

/-- KEY_REMASK: every holder renews its masks from the TRNG, not before REMASK × 100 ms have passed since the last renewal (R515). -/
def execKeyRemask (s : State) : Host.Outcome State Fault Refusal :=
  let period := min (max (s.get bSec Rg.KS_CFG.REMASK) 1) 600 * 100000000
  if !s.on .sec ∨ s.nowNs < s.sec.maskAt + period then .next s
  else
    let upd := fun i (k : Key) => k.remask (trngBytes (k.m.length / 8) i)
    let n := s.sec.slots.length
    let t := { s with sec := { s.sec with slots := remaskAll upd s.free s.sec.slots,
                                          copies := remaskCopies upd (s.free + 8 * n) s.sec.copies, maskAt := s.nowNs } }
    .next (t.drawn (8 * n + 8 * s.sec.copies.length))

end Sys2Proof.Machine
end

