-- ==== Sys2Proof/Machine/Yupex.lean ====
section
/-! DEFINITION. Yupex frames: the request being served and its response (R474–R478). -/

namespace Sys2Proof.Machine

/-- OP of a frame. -/
def yxOp (f : List Byte) : Nat := leAt f 3 1
/-- LEN of a frame. -/
def yxLen (f : List Byte) : Nat := leAt f 6 2
/-- SEQ of a frame. -/
def yxSeq (f : List Byte) : Nat := leAt f 8 4
/-- The payload of a frame. -/
def yxPayload (f : List Byte) : List Byte := f.drop 32

/-- A response frame (R474): OP and SEQ of the request repeated; with `tag` a tag of R478 and FLAGS.AUTH. -/
def yxFrame (op seq fstat : Nat) (payload : List Byte) (tag : Option (List Byte → List Byte)) : List Byte :=
  let hdr := leBytes 2 0x5859 ++ [1, BitVec.ofNat 8 op, if tag.isSome then 3 else 1, BitVec.ofNat 8 fstat] ++
    leBytes 2 payload.length ++ leBytes 4 seq ++ leBytes 4 0
  let t := match tag with
    | some f => padTo 16 (f (hdr ++ payload))
    | none => List.replicate 16 0
  hdr ++ t ++ payload

/-- Operations whose UDP requests need no tag (R477). -/
def yxTagFree (op : Nat) : Bool := op == 0x01 || op == 0x45 || op == 0x50 || op == 0x53

/-- The tag of R478 over a frame's header bytes 0–15 and payload under a key. -/
def State.yxTagOf (s : State) (k : Key) (m : List Byte) : List Byte :=
  (hmac256 k.bytes (leBytes 4 (s.get bYx Rg.YX_EPOCH.EPOCH) ++ m)).take 16

/-- The key of YX_CFG.KEY_SLOT, if the slot has usage MAC and destination Gauntlet (R478). -/
def State.yxKey (s : State) : Option Key :=
  let k := s.get bYx Rg.YX_CFG.KEY_SLOT
  if s.keyFor k destGauntlet useMac then s.liveKey k else none

/-- Whether a request needs a tag: over UDP, while tags are required, for an operation that asks for one. -/
def State.yxNeedsTag (s : State) (r : YxReq) : Bool :=
  r.src.isSome && s.flag bYx Rg.YX_CFG.UDP_AUTH && !yxTagFree (yxOp r.frame)

/-- Whether a request carries the tag it needs (R478). -/
def State.yxTagOk (s : State) (r : YxReq) : Bool :=
  bitOf 1 (leAt r.frame 4 1) &&
  (match s.yxKey with
   | some k => (r.frame.drop 16).take 16 == s.yxTagOf k (r.frame.take 16 ++ yxPayload r.frame)
   | none => false)

/-- The tag function of a response to an authenticated request. -/
def State.yxTag (s : State) (r : YxReq) : Option (List Byte → List Byte) :=
  if s.yxNeedsTag r && s.yxTagOk r then s.yxKey.map (fun k => s.yxTagOf k) else none

/-- A response sent (R475): to the response buffer with RESP_RDY, or to the requester's UDP address. A PCIe request that was
abandoned gets none (R472). -/
def State.yxSend (s : State) (r : YxReq) (fstat : Nat) (payload : List Byte) : State :=
  let f := yxFrame (yxOp r.frame) (yxSeq r.frame) fstat payload (s.yxTag r)
  match r.src with
  | some u => { s with yx := { s.yx with sent := some (u, f) } }
  | none =>
    if s.yx.abandoned then { s with yx := { s.yx with abandoned := false } }.set bYx Rg.YX_STAT.BUSY 0
    else
      let t := (s.putBuf bYx Rg.YX_RESPBUF.DATA 0 f).set bYx Rg.YX_STAT.BUSY 0
      if t.flag bYx Rg.YX_STAT.RESP_RDY then t
      else ((t.set bYx Rg.YX_STAT.RESP_RDY 1).toggle 25).msix 0

/-- The response of a request kept as its source's last (R476). -/
def State.yxKeep (s : State) (r : YxReq) (fstat : Nat) (payload : List Byte) : State :=
  { s with yx := { s.yx with last := s.yx.last.filter (fun l => l.req.src != r.src) ++ [⟨r, fstat, payload⟩] } }

/-- The payload of the request now served, if its operation is `op`. -/
def State.yxServing (s : State) (op : Nat) : Option (List Byte) :=
  match s.yx.serving with
  | some r => if yxOp r.frame = op then some (yxPayload r.frame) else none
  | none => none

/-- The operation now served is answered: its status code and the data after it; `fstat` 0 DONE or 1 PENDING. -/
def State.yxReply (s : State) (op fstat status : Nat) (data : List Byte) : State :=
  match s.yx.serving with
  | some r =>
    if yxOp r.frame = op then
      let p := BitVec.ofNat 8 status :: data
      let t := (s.yxSend r fstat p).yxKeep r fstat p
      { t with yx := { t.yx with serving := none } }
    else s
  | none => s

/-- A PENDING operation has finished: a requester that polls it now sees DONE (R476). -/
def State.yxFinish (s : State) (op status : Nat) (data : List Byte) : State :=
  let f := fun l : YxLast => if yxOp l.req.frame = op ∧ l.fstat = 1 then
    { l with fstat := 0, payload := BitVec.ofNat 8 status :: data } else l
  { s with yx := { s.yx with last := s.yx.last.map f } }

end Sys2Proof.Machine
end

