-- ==== Sys2Proof/Machine/Stop.lean ====
section
/-! DEFINITION. Fleet stop: inputs, latch, supervision, path test and release (R376–R395). -/

namespace Sys2Proof.Machine

/-- A channel's state from the levels of its pins H and L (R376): 0 RUN, 1 STOP, 2 DIS_HH, 3 DIS_LL. -/
def stopChan (h l : Bool) : Nat :=
  match h, l with
  | true, false => 0 | false, true => 1 | true, true => 2 | false, false => 3

/-- Sources assert (R380, R381): with the latch clear it sets and is dated, counted and reported; with the latch set their
bits are added. A PASS of the path test lapses when the latch sets (R389), and the lanes drop every frame not yet triggered but
those of a stop (R383). -/
def State.stopLatch (s : State) (srcs : Nat) : State :=
  let c := s.get bMpc Rg.FS_CAUSE.CAUSE ||| srcs
  let t := s.set bMpc Rg.FS_CAUSE.CAUSE c
  if s.flag bMpc Rg.FS_STAT.LATCHED then t
  else
    let id := s.get bMpc Rg.FS_CAUSE.STOP_ID + 1
    let t := t.sets bMpc [(Rg.FS_STAT.LATCHED, 1), (Rg.MODE_STAT.FSTOP, 1), (Rg.FS_CAUSE.STOP_ID, id),
      (Rg.FS_LATCH_AT.AT, s.now), (Rg.FS_STAT.TEST, 0)]
    let t := { t with stop := { t.stop with mismatch := false, test := none },
                      radio := { t.radio with lanes := t.radio.lanes.map MacLane.stopped_ } }
    let t := (t.event 1 bMpc Rg.FS_EVT.LATCH).msix 1
    t.record 0x020 4 1 (leBytes 2 (id % 65536) ++ leBytes 4 (t.word bMpc .FS_CAUSE))

/-- The state of channel `n` as the pins taken give it. -/
def State.chanOf (s : State) (n : Nat) : Nat := stopChan (bitOf (2 * n) s.stop.pins) (bitOf (2 * n + 1) s.stop.pins)

/-- Whether `ms` milliseconds have passed since an instant, as far as TIME tells: the timers of AON run on without it. -/
def State.passed (s : State) (since ms : Nat) : Bool := !s.timeRuns || decide (since + ms * 1000000 ≤ s.nowNs)

/-- Since when a condition holds: kept while it goes on, dropped when it ends. -/
def sinceWhen (was is_ : Bool) (since : Option Nat) (now : Nat) : Option Nat :=
  if is_ then (if was then since else some now) else none

/-- Whether one channel is RUN and the other STOP. -/
def crossed (a b : Nat) : Bool := (a == 0 && b == 1) || (a == 1 && b == 0)

/-- A pin level is taken (R377, R378): channel states, the intervals that R379 and R390 measure, decision circuits, and the sources
CH0 and CH1. -/
def State.stopPin (s : State) (pin : Nat) (level : Bool) : State :=
  let t := { s with stop := { s.stop with pins := putBits pin 1 s.stop.pins (b2n level) } }
  let a := t.chanOf 0
  let b := t.chanOf 1
  let a0 := s.chanOf 0
  let b0 := s.chanOf 1
  let now := s.nowNs
  let dis := [sinceWhen (decide (2 ≤ a0)) (decide (2 ≤ a)) (s.stop.disAt.getD 0 none) now,
              sinceWhen (decide (2 ≤ b0)) (decide (2 ≤ b)) (s.stop.disAt.getD 1 none) now]
  let x := sinceWhen (crossed a0 b0 && a0 == a) (crossed a b) s.stop.xmisAt now
  let run := sinceWhen (a0 == 0 && b0 == 0) (a == 0 && b == 0) s.stop.runAt now
  let t := { t with stop := { t.stop with disAt := dis, xmisAt := x, runAt := run } }
  let call := b2n (a != 0 || b != 0)
  let t := t.sets bMpc [(Rg.FS_STAT.CH0, a), (Rg.FS_STAT.CH1, b), (Rg.FS_STAT.DEC_A, call), (Rg.FS_STAT.DEC_B, call)]
  let t := if a ≠ 0 ∨ b ≠ 0 then t.set bMpc Rg.FS_STAT.RUN_OK 0 else t
  let src := b2n (a != 0) + 2 * b2n (b != 0)
  if src = 0 then t else t.stopLatch src

/-- STOP_INPUT_CHANGE: pin 0 STOP0_H, 1 STOP0_L, 2 STOP1_H, 3 STOP1_L has held a new level for 40 µs. -/
def execStopInputChange (pin : Nat) (level : Bool) (s : State) : Host.Outcome State Fault Refusal :=
  if pin < 4 ∧ s.on .aon then .next (s.stopPin pin level) else .next s

/-- STOP_DISAG_TIMEOUT: channel `ch` has stayed in DIS_HH or DIS_LL for 10 ms (R379), reported once a stay. -/
def execStopDisagTimeout (ch : Nat) (s : State) : Host.Outcome State Fault Refusal :=
  match s.stop.disAt.getD ch none with
  | none => .next s
  | some a =>
    if ch < 2 ∧ 2 ≤ s.chanOf ch ∧ s.passed a 10 then
      let t := s.event 1 bMpc (if ch = 0 then Rg.FS_EVT.DISAG0 else Rg.FS_EVT.DISAG1)
      let t := t.record 0x021 3 1 (leBytes 4 (t.word bMpc .FS_STAT))
      .next { t with stop := { t.stop with disAt := listSet t.stop.disAt ch none } }
    else .next s

/-- STOP_XMIS_TIMEOUT: one channel RUN and the other STOP for XMIS_MS, 0 acting as 1 (R379). -/
def execStopXmisTimeout (s : State) : Host.Outcome State Fault Refusal :=
  match s.stop.xmisAt with
  | none => .next s
  | some a =>
    if crossed (s.chanOf 0) (s.chanOf 1) ∧ s.passed a (max 1 (s.get bMpc Rg.FS_CFG.XMIS_MS)) then
      let t := s.event 1 bMpc Rg.FS_EVT.XMIS
      let t := t.record 0x022 2 1 (leBytes 4 (t.word bMpc .FS_STAT))
      .next { t with stop := { t.stop with xmisAt := none } }
    else .next s

/-- SW_STOP: FS_CTRL.SW_STOP written by MP or Gauntlet (R380). -/
def execSwStop (m : Master) (s : State) : Host.Outcome State Fault Refusal :=
  .next (s.actWrite m (mayIsland s m) .aon (bMpc + 0x210) (fun t => t.stopLatch 4))

/-- The slot that holds an instant, counted from the last second boundary (R352, R353): every second boundary begins a slot. -/
def State.slotRel (s : State) (t : Nat) : Int := ((t : Int) - s.time.bound) / 2000000

/-- The instant at which the slot that holds an instant begins. -/
def State.slotStart (s : State) (t : Nat) : Nat := ((s.time.bound : Int) + s.slotRel t * 2000000).toNat

/-- The absolute slot number at an instant (R352). -/
def State.asnAt (s : State) (t : Nat) : Nat :=
  ((((s.time.bound : Int) - s.get bRadio Rg.FR_ASN_BASE.INSTANT) / 1000000000 * 500 + s.slotRel t) % (2 ^ 40 : Nat)).toNat

/-- The absolute slot number of the present instant. -/
def State.asn (s : State) : Nat := s.asnAt s.nowNs

/-- How far the present instant lies in its slot, in ns. -/
def State.slotPhase (s : State) : Nat := s.nowNs - s.slotStart s.nowNs

/-- TEST_GO (R389): refused unless the latch is set and both channels are RUN. `inputsOk` says that step 1 saw both decision
circuits and the latch's set input follow each forced pin; step 3 counts the slots after the one in which step 1 ends. -/
def State.pathTest (s : State) (inputsOk : Bool) : State :=
  if !s.flag bMpc Rg.FS_STAT.LATCHED ∨ s.get bMpc Rg.FS_STAT.CH0 ≠ 0 ∨ s.get bMpc Rg.FS_STAT.CH1 ≠ 0 then
    s.set bMpc Rg.FS_STAT.TEST 5
  else if inputsOk then
    { s.set bMpc Rg.FS_STAT.TEST 1 with stop := { s.stop with test := some (0, true), testFrom := s.asnAt (s.nowNs + 800000) + 1 } }
  else (s.set bMpc Rg.FS_STAT.TEST 3).event 1 bMpc Rg.FS_EVT.TEST_DONE

/-- PATH_TEST. -/
def execPathTest (m : Master) (inputsOk : Bool) (s : State) : Host.Outcome State Fault Refusal :=
  .next (s.actWrite m (mayIsland s m) .aon (bMpc + 0x210) (fun t => t.pathTest inputsOk))

/-- PATH_TEST_DONE: ten stopped slots have been checked (R389, step 3). -/
def execPathTestDone (s : State) : Host.Outcome State Fault Refusal :=
  match s.stop.test with
  | none => .next s
  | some (n, ok) =>
    if n < 10 ∨ s.get bMpc Rg.FS_STAT.TEST ≠ 1 then .next s
    else
      let t := { s with stop := { s.stop with test := none } }
      .next ((t.set bMpc Rg.FS_STAT.TEST (if ok then 2 else 4)).event 1 bMpc Rg.FS_EVT.TEST_DONE)

/-- A PASS lapses (R389). -/
def State.lapsePass (s : State) : State :=
  if s.get bMpc Rg.FS_STAT.TEST = 2 then s.set bMpc Rg.FS_STAT.TEST 0 else s

/-- A supervision mismatch (R388). -/
def State.ssMismatch (s : State) : State :=
  let t := (s.event 1 bMpc Rg.FS_EVT.SS_MISMATCH).lapsePass
  { t with stop := { t.stop with mismatch := true } }

/-- The Hawkmoth check of one stopped slot (R388): `seen` are the ports whose SHR instant lies within B + 20 µs ± 2 µs. -/
def State.hawkCheck (s : State) (seen : Nat) : State :=
  let act := s.get bMpc Rg.FS_PORT.ACTIVE
  let miss := act - (act &&& seen)
  let t := s.set bMpc Rg.FS_PORT.SEEN (act &&& seen)
  let t := match t.stop.test with
    | some (n, ok) => if s.asn < t.stop.testFrom then t
                      else { t with stop := { t.stop with test := some (n + 1, ok && miss == 0) } }
    | none => t
  if miss = 0 then t
  else
    let t := (t.set bMpc Rg.FS_PORT.MISS (t.get bMpc Rg.FS_PORT.MISS ||| miss)).event 1 bMpc Rg.FS_EVT.HM_MISS
    t.record 0x024 3 1 (leBytes 1 (t.get bMpc Rg.FS_PORT.MISS) ++ leBytes 5 t.asn)

/-- A stamp of SFD_TS on TDC channel 5 + `p` (R349, R388): its SHR instant, in 1/256 ns, noted when it lies within
B + 20 µs ± 2 µs. -/
def State.sfdSeen (s : State) (p stamp sub : Nat) : State :=
  let shr := stamp * 256 + sub - s.get (bRadio + p * 0x1000) Rg.RP_CFG.SFD_DLY * 25600
  let b := s.slotStart (shr / 256)
  if 18000 * 256 ≤ shr - b * 256 ∧ shr - b * 256 ≤ 22000 * 256 then
    let a := s.asnAt (shr / 256)
    let m := if s.stop.seen.1 = a then s.stop.seen.2 else 0
    { s with stop := { s.stop with seen := (a, putBits p 1 m 1) } }
  else s

/-- Whether the present slot is a stopped slot (R383): as the running lanes took it at its cut-off; with no lane running, while the
latch is set. -/
def State.slotStopped (s : State) : Bool :=
  let run := (List.range 8).filter (fun p => s.flag (laneBase .mac 0x1000 p) Rg.FR_STAT.RUN)
  if run = [] then s.flag bMpc Rg.FS_STAT.LATCHED else run.any (fun p => (s.radio.lanes.getD p .off).stopped)

/-- SS_SLOT_CHECK: the supervisor's check of a slot, once, when every stamp of a Hawkmoth frame of that slot has had its time
(R388): what the decision circuits call for, and whether its two cores agree. -/
def execSsSlotCheck (decA decB agree : Bool) (s : State) : Host.Outcome State Fault Refusal :=
  if !s.flag bMpc Rg.FS_STAT.SS_OK ∨ s.slotPhase < 500000 ∨ 1900000 ≤ s.slotPhase ∨ s.stop.checked = some s.asn then .next s
  else
    let t := { s with stop := { s.stop with checked := some s.asn } }
    let t := t.sets bMpc [(Rg.FS_STAT.DEC_A, b2n decA), (Rg.FS_STAT.DEC_B, b2n decB)]
    let t := if decA != decB then
        let u := t.ssMismatch
        u.record 0x023 3 1 (leBytes 4 (u.word bMpc .FS_STAT))
      else t
    let t := if (decA || decB) && !t.flag bMpc Rg.FS_STAT.LATCHED then t.ssMismatch else t
    let t := if t.slotStopped then t.hawkCheck (if t.stop.seen.1 = t.asn then t.stop.seen.2 else 0) else t
    if agree then .next t
    else .next (((t.set bMpc Rg.FS_STAT.SS_OK 0).event 1 bMpc Rg.FS_EVT.SS_FAULT).record 0x025 4 1 [])

/-- Whether an FSTOP request is accepted (R394, R475): from PCIe always, over UDP only while it is allowed. -/
def State.fstopOk (s : State) (udp : Bool) : Bool :=
  !udp || (s.flag bMpc Rg.FS_CFG.NET_EN && s.flag bYx Rg.YX_CFG.UDP_EN)

/-- FSTOP: the mailbox hardware decodes the operation and asserts the NET source; the request, when served, is answered. -/
def execFstop (udp : Bool) (s : State) : Host.Outcome State Fault Refusal :=
  if s.on .io ∧ s.fstopOk udp then .next ((s.stopLatch 8).yxReply 0x50 0 0 []) else .next s

/-- A new release challenge (R391). -/
def State.drawChallenge (s : State) : State :=
  let t := s.set bMpc Rg.FS_CHAL.CHAL (Config.trng s.free).toNat
  { t.drawn 1 with stop := { t.stop with chal := true, chalAt := t.nowNs } }

/-- FSTOP_CHAL: a challenge is drawn and returned. -/
def execFstopChal (s : State) : Host.Outcome State Fault Refusal :=
  if (s.yxServing 0x51).isSome then
    let t := s.drawChallenge
    .next (t.yxReply 0x51 0 0 (leBytes 8 (t.get bMpc Rg.FS_CHAL.CHAL)))
  else .next s

/-- CHALLENGE_EXPIRY: the challenge is older than 60 s. -/
def execChallengeExpiry (s : State) : Host.Outcome State Fault Refusal :=
  if s.stop.chal ∧ s.passed s.stop.chalAt 60000 then
    let t := s.set bMpc Rg.FS_CHAL.CHAL 0
    .next { t with stop := { t.stop with chal := false } }
  else .next s

/-- The tag of R391 over the challenge, STOP_ID and the next epoch, if slot REL_SLOT can make one. -/
def State.relTag (s : State) : Option (List Byte) :=
  let slot := s.get bMpc Rg.FS_CFG.REL_SLOT
  if s.keyFor slot destGauntlet useMac then
    (s.liveKey slot).map (fun k => (hmac256 k.bytes ([0x46, 0x53, 0x52, 0x4C] ++ leBytes 8 (s.get bMpc Rg.FS_CHAL.CHAL) ++
      leBytes 2 (s.get bMpc Rg.FS_CAUSE.STOP_ID) ++ leBytes 2 (s.get bMpc Rg.FS_PEPOCH.EPOCH + 1))).take 16)
  else none

/-- Whether the challenge is there and not older than 60 s. -/
def State.chalOk (s : State) : Bool := s.stop.chal && !(s.timeRuns && decide (s.stop.chalAt + 60000000000 < s.nowNs))

/-- The first check of R390 that a release attempt fails; 0 when all pass. `race` are sources that assert in the cycle of the
commit. -/
def State.releaseCheck (s : State) (tag : List Byte) (race : Nat) : Nat :=
  if !s.flag bMpc Rg.FS_STAT.LATCHED then 1
  else if s.mode = .bootstrap ∨ s.mode = .dormant ∨ s.mode = .maintenance ∨ s.flag bMpc Rg.MODE_STAT.CHANGING then 2
  else if !s.flag bMpc Rg.FS_STAT.RUN_OK then 3
  else if !s.flag bMpc Rg.FS_STAT.SS_OK ∨ s.stop.mismatch then 4
  else if s.get bMpc Rg.FS_STAT.TEST ≠ 2 then 5
  else if !s.chalOk ∨ s.relTag ≠ some tag then 6
  else if race % 64 ≠ 0 then 7
  else 0

/-- The commit of an accepted release (R392). -/
def State.releaseCommit (s : State) : State :=
  let t := s.sets bMpc [(Rg.FS_STAT.LATCHED, 0), (Rg.MODE_STAT.FSTOP, 0), (Rg.FS_CAUSE.CAUSE, 0),
    (Rg.FS_PEPOCH.EPOCH, s.get bMpc Rg.FS_PEPOCH.EPOCH + 1), (Rg.FS_REL_AT.AT, s.now)]
  let u := t.event 1 bMpc Rg.FS_EVT.RELEASE
  if t.flag bMpc Rg.FS_EVT.RELEASE then u else u.msix 1

/-- A release attempt (R390–R392): the challenge is consumed whatever the result. -/
def State.release (s : State) (tag : List Byte) (race : Nat) : State :=
  let r := s.releaseCheck tag race
  let t := (s.set bMpc Rg.FS_RES.RESULT r).set bMpc Rg.FS_CHAL.CHAL 0
  let t := { t with stop := { t.stop with chal := false } }
  if r = 0 then t.releaseCommit
  else
    let u := t.event 1 bMpc Rg.FS_EVT.REL_REFUSED
    if r = 7 then u.stopLatch (race % 64) else u

/-- FSTOP_RELEASE: a release with the tag that the operation carries. -/
def execFstopRelease (race : Nat) (s : State) : Host.Outcome State Fault Refusal :=
  match s.yxServing 0x52 with
  | none => .next s
  | some a =>
    let t := s.release (a.take 16) race
    .next (t.yxReply 0x52 0 (t.get bMpc Rg.FS_RES.RESULT) [])

/-- FSTOP_STATUS: FS_STAT, FS_CAUSE, FS_PORT and FS_PEPOCH. -/
def execFstopStatus (s : State) : Host.Outcome State Fault Refusal :=
  .next (s.yxReply 0x53 0 0 (leBytes 4 (s.word bMpc .FS_STAT) ++ leBytes 4 (s.word bMpc .FS_CAUSE) ++
    leBytes 4 (s.word bMpc .FS_PORT) ++ leBytes 4 (s.word bMpc .FS_PEPOCH)))

/-- RUN_MIN as it acts, in ms. -/
def State.runMin (s : State) : Nat :=
  let n := s.get bMpc Rg.FS_CFG.RUN_MIN
  if 10 ≤ n ∧ n ≤ 60000 then n else 100

/-- RUN_MIN_ELAPSED: both channels have been RUN without a break for FS_CFG.RUN_MIN. -/
def execRunMinElapsed (s : State) : Host.Outcome State Fault Refusal :=
  match s.stop.runAt with
  | none => .next s
  | some a =>
    if s.get bMpc Rg.FS_STAT.CH0 = 0 ∧ s.get bMpc Rg.FS_STAT.CH1 = 0 ∧ s.passed a s.runMin then .next (s.set bMpc Rg.FS_STAT.RUN_OK 1)
    else .next s

/-- Instants moved with the device time scale, by a step or a new era label: the timers of AON do not notice either. -/
def State.stopShift (s : State) (off : Int) : State :=
  let f := fun t : Nat => ((t : Int) + off).toNat
  { s with stop := { s.stop with disAt := s.stop.disAt.map (Option.map f), xmisAt := s.stop.xmisAt.map f,
                                 runAt := s.stop.runAt.map f, chalAt := f s.stop.chalAt } }

/-- The ports whose lanes run, published for the supervisor (FS_PORT.ACTIVE); a change lapses a PASS (R389). -/
def State.portActive (s : State) (p : Nat) (on : Bool) : State :=
  let a := s.get bMpc Rg.FS_PORT.ACTIVE
  let b := putBits p 1 a (b2n on)
  if a = b then s else (s.set bMpc Rg.FS_PORT.ACTIVE b).lapsePass

end Sys2Proof.Machine
end

