-- ==== Sys2Proof/Machine/Power.lean ====
section
/-! DEFINITION. Domains losing and gaining power (R16, R31, R36, R119, R123): which register fields and which inner state go with
a domain, and what resets leave. -/

namespace Sys2Proof.Machine

/-- The field kept under a cell key. -/
def fieldAt (k : Nat) : Option Fld :=
  let a := keyAddr k
  match placeOf a with
  | none => none
  | some p =>
    match findReg p.base (a - p.base) (blkRegs p.blk) with
    | some h => h.reg.desc.flds.find? (fun f => f.lo == k % 64)
    | none => none

/-- Whether a cell is held in VBAT-backed storage: fields whose reset is VBAT, and TAMP_CFG. -/
def inVbat (k : Nat) : Bool :=
  keyAddr k == bSec + Rg.TAMP_CFG.PIN_EN.off ||
  match fieldAt k with
  | some f => f.src == .vbat
  | none => false

/-- Whether a cell is held in AON though its register is SEC's: the debug level and the level requested for the next warm reset
(R503). -/
def inAon (k : Nat) : Bool := k == fldKey Rg.SEC_STAT.DEBUG bSec || k == fldKey Rg.SEC_STAT.DBG_NEXT bSec

/-- Whether a cell is the LOCK bit of a block whose RWL fields stay locked until a power-on reset (R16): every one but
MODE_CFG.LOCK, which R118 clears at each BOOTSTRAP. -/
def isLock (k : Nat) : Bool :=
  match placeOf (keyAddr k) with
  | some p => (match lockOf p.blk p.base with
    | some (b, f, _) => b != bMpc && k == fldKey f b
    | none => false)
  | none => false

/-- Whether a field outlives the power of its domain (R15, R16): RWS and VBAT fields, fused fields that nothing writes, LOCK bits
and the debug levels. -/
def outlives (k : Nat) : Bool :=
  inVbat k || inAon k || isLock k ||
  match fieldAt k with
  | some f => f.acc == .rws || (f.src == .fuse && f.acc == .ro)
  | none => false

/-- Whether a field outlives a power-on reset: VBAT fields, and fused fields that nothing writes. -/
def outlivesPor (k : Nat) : Bool :=
  inVbat k ||
  match fieldAt k with
  | some f => (f.src == .fuse && f.acc == .ro)
  | none => false

/-- Whether a cell key lies in a domain. -/
def keyIn (d : Dom) (k : Nat) : Bool :=
  match placeOf (keyAddr k) with
  | some p => domOf p.isl == d
  | none => false

/-- The registers of a domain return to their reset values (R119). -/
def State.resetRegs (s : State) (d : Dom) : State := s.clearCells (fun k => keyIn d k && !outlives k)

/-- Words staged or captured in blocks of a domain are gone (R20). -/
def State.dropHeld (s : State) (d : Dom) : State :=
  let keep (h : WordHold) : Bool := match placeOf h.addr with
    | some p => domOf p.isl != d
    | none => true
  { s with staged := s.staged.filter keep, caught := s.caught.filter keep }

/-- The clocks of the islands of a domain locked: at its power-up every island of a domain below the fabric locks. -/
def State.lockIslands (s : State) (l : List Nat) : State :=
  l.foldl (fun t i => t.set (islBase i) Rg.ISL_STAT.CLK_LOCK 1) s

/-- What stays of the image without the fabric: the PPS outputs that IOBANK enables keep pulsing (R161). -/
def Img.ppsOnly (g : Img) : Img := { State.reset.img with io0 := bits 54 4 g.io0 * 2 ^ 54 }

/-- Everything FA and FB hold is lost (R31, R123, R486): tiles, links, both halves of stage memory. -/
def State.fabricDown (s : State) : State :=
  let t := (s.linksDown .fa).linksDown .fb
  let t := ((t.resetRegs .fa).resetRegs .fb).dropHeld .fa |>.dropHeld .fb
  let t := (List.range 16).foldl (fun u h => u.loseHalf h) t
  { t with
    power := { t.power with fa := false, fb := false },
    img := t.img.ppsOnly, inbox := [], boot := { t.boot with hints := [], keeps := [] },
    radio := State.reset.radio, loops := State.reset.loops, samples := [], gnss := State.reset.gnss, obs := State.reset.obs,
    waves := State.reset.waves, phs := [], align := State.reset.align, groups := [], engines := State.reset.engines,
    pins := State.reset.pins, lines := State.reset.lines, tracks := State.reset.tracks, pkt := [],
    dma := { State.reset.dma with posted := t.dma.posted }, scrub := { t.scrub with half := [] },
    time := { t.time with flying := [], arrived := [] },
    sec := { t.sec with copies := [], jobs := [] } }

/-- Everything IO holds is lost: DDR, Ethernet, CAN, the endpoint and the mailbox. -/
def State.ioDown (s : State) : State :=
  let t := (((s.linksDown .io).resetRegs .io).dropHeld .io).loseDdr
  { t with power := { t.power with io := false }, eth := State.reset.eth, cans := State.reset.cans, pcie := { State.reset.pcie with perst := t.pcie.perst },
           yx := State.reset.yx, boot := { t.boot with acHeld := true } }

/-- Everything MGMT holds is lost: dispatcher, router, recorder and health, but for what the flash keeps: the ring's position
(R541), the identities and the plan that MP has saved (R546, R551). -/
def State.mgmtDown (s : State) : State :=
  let t := ((s.linksDown .mgmt).resetRegs .mgmt).dropHeld .mgmt
  let g := t.log
  let r : Recorder := { State.reset.log with block := g.block, bseq := g.bseq, place := g.place, nxt := g.nxt, erased := g.erased, ring := g.ring }
  { t with power := { t.power with mgmt := false }, cores := t.cores.filter (fun c => domOf c.1 != .mgmt), disp := State.reset.disp, toggles := [], toTp := [], toSs := [],
           boot := { t.boot with acHeld := true },
           log := r,
           health := { State.reset.health with partners := t.health.partners, planV := t.health.planV, planF := t.health.planF } }

/-- Everything SEC holds is lost (R507): slots, the command in progress. Roots, digests, fuses and the stored record stay. -/
def State.secDown (s : State) : State :=
  let t := ((s.linksDown .sec).resetRegs .sec).dropHeld .sec
  { t with power := { t.power with sec := false }, cores := t.cores.filter (fun c => domOf c.1 != .sec),
           sec := { t.sec with slots := [], copies := [], cur := none, served := 3, halted := false, jobs := [] },
           log := { t.log with early := [] } }

/-- The switched domains lose their power in the order of R124 step 6: FA and FB, IO, MGMT, SEC. -/
def State.switchOff (s : State) : State := s.fabricDown.ioDown.mgmtDown.secDown

/-- The open bank found at BOOTSTRAP becomes ABORTED, and the session is gone (R132). -/
def Upd.closed (u : Upd) : Upd :=
  { u with sess := none, banks := u.banks.map (fun b => if b.st = 1 then { b with st := 7 } else b) }

/-- What every BOOTSTRAP starts from, a wake included (R15, R103, R118): fields loaded from the image read 0 until it is loaded,
MODE_CFG is unlocked, and no mode change is under way. -/
def State.bootstrap (s : State) : State :=
  let img (k : Nat) : Bool := match fieldAt k with
    | some f => f.src == .img
    | none => false
  let t := s.clearCells img
  let t := t.sets bMpc [(Rg.MODE_STAT.MODE, 0), (Rg.MODE_STAT.CHANGING, 0), (Rg.MODE_CFG.LOCK, 0), (Rg.MODE_CFG.LOCK_VIOL, 0),
    (Rg.PWR_STAT.PSTATE, 0), (Rg.FS_PORT.ACTIVE, 0)]
  { t with modes := { t.modes with change := none, sleep := none, woken := 0 }, power := { t.power with dormPrep := false, holdAt := none },
           img := t.img.ppsOnly, boot := { t.boot with waitRef := false, ssHeld := false, acHeld := true }, upd := t.upd.closed }

/-- What a reset clears of the mode controller (R117, R118): the mode epoch is 0 and no island is isolated. -/
def State.resetEpochs (s : State) : State :=
  let t := (List.range 44).foldl (fun u i => u.set (islBase i) Rg.ISL_STAT.EPOCH 0) s
  let t := t.sets bMpc [(Rg.MODE_STAT.EPOCH, 0), (Rg.MODE_STAT.PENDING, 7), (Rg.MODE_STAT.SKEW, 0), (Rg.MODE_STAT.MAINT_DIRTY, 0)]
  { t with modes := State.reset.modes }

/-- A warm reset (R119): SEC, MGMT, IO, FA and FB are reset; the time core keeps counting, AON keeps its registers, and fleet
stop is latched (R106). -/
def State.warmDown (s : State) : State := (s.switchOff.bootstrap.resetEpochs).stopLatch 16

/-- A power-on reset (R119, R120): every domain is reset, the time core restarts, Cocoon is invalid and its words are lost;
fused and VBAT-backed fields stay. -/
def State.powerUp (s : State) (vbat : Bool) : State :=
  let t := s.switchOff
  let t := t.clearCells (fun k => !outlivesPor k)
  let t := { t with
    power := { State.reset.power with vbat := vbat }, modes := State.reset.modes, boot := State.reset.boot,
    img := State.reset.img, links := [], outq := [], rx := [], cores := [], time := State.reset.time, stop := State.reset.stop, cocoon := [], staged := [], caught := [],
    log := { t.log with running := false }, upd := t.upd.closed }
  (t.lockIslands [0, 1]).setB bMpc Rg.PWR_STAT.VBAT_OK vbat

/-- VBAT is lost (R15, R123, R521): VBAT-backed fields, the roots and the tamper log read 0. -/
def State.vbatDown (s : State) : State :=
  let t := s.clearCells inVbat
  { t.set bMpc Rg.PWR_STAT.VBAT_OK 0 with power := { t.power with vbat := false },
                                          sec := { t.sec with roots := [none, none, none], tampers := 0 } }

/-- VBAT_LOSS: VBAT is lost. -/
def execVbatLoss (s : State) : Host.Outcome State Fault Refusal := .next s.vbatDown

/-- POWER_DOWN: the main supplies are removed (R123): to VBAT_ONLY while VBAT is present, else to OFF. Cocoon, the time count and
every register that VBAT or the fuses do not hold are lost. -/
def execPowerDown (s : State) : Host.Outcome State Fault Refusal :=
  let t := s.powerUp s.power.vbat
  let t := if s.power.vbat then t else t.vbatDown
  .next { t with power := { t.power with vdd := false } }

end Sys2Proof.Machine
end

