-- ==== Sys2Proof/Machine/Crypto.lean ====
section
/-! DEFINITION. The tamper response (R519–R521) and the cipher tiles (R522–R529). -/

namespace Sys2Proof.Machine

/-- Whether a tamper source is enabled in TAMP_CFG, and watched in the present power state (R507, R519). -/
def State.tamperOn (s : State) (src : Nat) : Bool :=
  let en := if src < 4 then bitOf src (s.get bSec Rg.TAMP_CFG.PIN_EN)
    else if src = 4 then s.flag bSec Rg.TAMP_CFG.SHIELD_EN
    else if src = 5 then s.flag bSec Rg.TAMP_CFG.VOLT_EN
    else if src = 6 then s.flag bSec Rg.TAMP_CFG.CLK_EN
    else if src = 7 then s.flag bSec Rg.TAMP_CFG.TEMP_EN else false
  en && (s.power.vdd || (s.power.vbat && decide (src ≤ 4)))

/-- Whether what a source's detector sees is a tamper (R519). `v` is the level of a TAMPER pin, 1 for a mismatch of the shield, VDD_SOC
in mV, the period of the clock in thousandths of the nominal one, or the junction temperature in °C; `held` is how long it has
been seen, in ns. -/
def State.tamperSees (s : State) (src : Nat) (v : Int) (held : Nat) : Bool :=
  if src < 4 then bitOf src (s.get bSec Rg.TAMP_CFG.POL) == decide (v ≠ 0) &&
    decide (max (s.get bSec Rg.TAMP_CFG.FILT_US) 1 * 1000 ≤ held)
  else if src = 4 then decide (v ≠ 0)
  else if src = 5 then decide ((v < 700 ∨ 900 < v) ∧ 50 ≤ held)
  else if src = 6 then decide (v < 500)
  else decide (v < -55 ∨ 130 < v)

/-- The power state (R507): 0 ACTIVE, 1 DORMANT, 2 VBAT_ONLY. -/
def State.pstate (s : State) : Nat := if !s.power.vdd then 2 else if s.mode = .dormant then 1 else 0

/-- The next entry of the tamper log (R521), and its LATCHED bit. -/
def State.tamperLog (s : State) (src : Nat) : State :=
  let k := bSec + s.sec.tampers % 16 * 0x10
  let n := s.sec.tampers + 1
  let cnt := min n 65535
  let ps := s.pstate
  let noTime := ps = 2 ∨ !s.timeRuns
  let t := s.sets k [(Rg.TAMP_LOG_T.AT, if noTime then 0 else s.now), (Rg.TAMP_LOG_I.SOURCE, 2 ^ src),
    (Rg.TAMP_LOG_I.LC, s.get bSec Rg.SEC_STAT.LC), (Rg.TAMP_LOG_I.PSTATE, ps), (Rg.TAMP_LOG_I.NO_TIME, b2n noTime),
    (Rg.TAMP_LOG_I.BOOT, b2n (ps = 0 ∧ s.mode = .bootstrap)), (Rg.TAMP_LOG_I.INDEX, cnt)]
  let t := { t with sec := { t.sec with tampers := n } }
  let old := t.get bSec Rg.TAMP_STAT.LATCHED
  let t := t.sets bSec [(Rg.TAMP_STAT.TAMP_LOGCNT, cnt), (Rg.TAMP_STAT.LATCHED, old ||| 2 ^ src)]
  let t := if bitOf src old then t else t.toggle 3
  if ps = 2 then t
  else t.record 0x054 4 3 (leBytes 8 (t.get k Rg.TAMP_LOG_T.AT) ++ leBytes 4 (t.word k .TAMP_LOG_I))

/-- The response to a tamper source that asserts (R519): a source already active is logged once. -/
def State.tamper (s : State) (src : Nat) : State :=
  let act := s.get bSec Rg.TAMP_STAT.ACTIVE
  if !s.tamperOn src ∨ bitOf src act then s
  else
    let t := s.set bSec Rg.TAMP_STAT.ACTIVE (act + 2 ^ src)
    let t := if t.power.vdd then t.stopLatch 32 else t
    let t := t.sets bSec [(Rg.SEC_STAT.DEBUG, 0), (Rg.SEC_STAT.DBG_NEXT, 0)]
    let t := match t.sec.cur with
      | some p => { t with sec := { t.sec with cur := none } }.gmFinish p.ch 0x0E []
      | none => t
    let t := (t.sec.slots.map (·.slot)).foldl State.emptySlot t
    let jobs := t.sec.jobs.map (fun j => { j with status := 7 })
    let t := { t with sec := { t.sec with roots := [none, none, none], copies := [], disabled := true, jobs := jobs } }
    t.tamperLog src

/-- TAMPER_SOURCE_RELEASE: an asserted source stops asserting. -/
def execTamperSourceRelease (src : Nat) (s : State) : Host.Outcome State Fault Refusal :=
  let act := s.get bSec Rg.TAMP_STAT.ACTIVE
  if src < 8 ∧ bitOf src act then .next (s.set bSec Rg.TAMP_STAT.ACTIVE (act - 2 ^ src)) else .next s

/-! ### Cipher sessions -/

/-- The base of session `q` of the CRY tile at a position. -/
def csBase (pos q : Nat) : Nat := tileBase pos + q * 0x40

/-- The position of the DDR block as a link end (R83). -/
def posDdr : Nat := 83

/-- Whether `n` bytes at `a` lie in stage memory or in the fitted DDR. -/
def State.memRange (s : State) (a n : Nat) : Bool :=
  match regionOf a, regionOf (a + (n - 1)) with
  | .stage _ _, .stage _ _ => true
  | .ddr _, .ddr j => decide (j < s.ddrSize)
  | _, _ => false

/-- The usage classes a keyed algorithm needs (R509, R522). -/
def algUse (alg : Nat) : Nat := if alg < 2 then useEnc + useDec else useMac

/-- Whether a session's slot fits its algorithm (R522). -/
def State.cryKeyOk (s : State) (pos alg slot : Nat) : Bool :=
  alg == 2 || alg == 3 ||
  (s.keyFor slot (instAt pos) (algUse alg) && (decide (alg < 2) || s.flag (ksBase slot) Rg.KS_ATTR.LEN256))

/-- The refusal of a session's enable, in the order of CS_STAT.REFUSE. -/
def State.cryRefusal (s : State) (pos q : Nat) : Nat :=
  let b := csBase pos q
  let alg := s.get b Rg.CS_CFG.ALG
  if 6 ≤ alg then 1
  else if !s.cryKeyOk pos alg (s.get b Rg.CS_CFG.KEY_SLOT) then 2
  else if 28 ≤ q then 3
  else
    let a := s.get b Rg.CS_JOBS.ADDR
    let n := s.get b Rg.CS_JOBS.COUNT
    if a % 64 ≠ 0 ∨ (0 < n ∧ !s.memRange a (n * 64)) then 4 else 0

/-- A session enabled or refused. -/
def State.cryEnable (s : State) (pos q : Nat) : State :=
  let b := csBase pos q
  let r := s.cryRefusal pos q
  if s.flag b Rg.CS_CFG.EN then s
  else if r = 0 then
    let t := s.sets b [(Rg.CS_CFG.EN, 1), (Rg.CS_STAT.RUN, 1), (Rg.CS_STAT.REFUSE, 0)]
    if s.get b Rg.CS_CFG.ALG = 2 ∨ s.get b Rg.CS_CFG.ALG = 3 then t
    else t.deliverKey pos q (s.get b Rg.CS_CFG.KEY_SLOT)
  else (s.set b Rg.CS_STAT.REFUSE r).event (tileEv pos) b Rg.CS_EVT.REFUSED

/-- A session disabled: its key cleared, its job lost without a status (R510, R529). -/
def State.cryDisable (s : State) (pos q : Nat) : State :=
  let b := csBase pos q
  let t := (s.sets b [(Rg.CS_CFG.EN, 0), (Rg.CS_STAT.RUN, 0), (Rg.CS_STAT.BUSY, 0)]).dropKey pos q
  { t with sec := { t.sec with jobs := t.sec.jobs.filter (fun j => !(j.pos == pos && j.lane == q)) } }

/-- CRY_SESSION_ENABLE: CS_CFG.EN written 1. -/
def execCrySessionEnable (m : Master) (pos q : Nat) (s : State) : Host.Outcome State Fault Refusal :=
  if kindAt pos = some .cry then .next (s.tileWrite m pos q (0x1000 + q * 0x40) (fun t => t.cryEnable pos q)) else .next s

/-- The end of a job counted (R525). -/
def State.cryCount (s : State) (pos q status : Nat) : State :=
  let b := csBase pos q
  let t := ((s.count b Rg.CS_CNT.JOBS 1).set b Rg.CS_STAT.LAST status).set b Rg.CS_STAT.BUSY 0
  if status = 0 then t
  else if status = 1 then (t.count b Rg.CS_CNT.TAG_FAIL 1).event (tileEv pos) b Rg.CS_EVT.TAG_FAIL
  else (t.count b Rg.CS_CNT.ERR 1).event (tileEv pos) b Rg.CS_EVT.ERR

/-- A software job's entry completed, and its completion submitted when DONE_EN is 1 (R524). -/
def State.cryComplete (s : State) (pos q h : Nat) : State :=
  let b := csBase pos q
  let tag := match s.disp.find h with | some e => e.tag | none => 0
  let prio := match s.disp.find h with | some e => e.prio | none => 0
  let t := s.tileDone h
  if s.flag b Rg.CS_CFG.DONE_EN then t.hwSubmit (s.get b Rg.CS_CFG.DONE_FLOW) prio tag none else t

/-- The status a job starts with: 6 ORPHANED and 2 KEY refuse it at admission (R517, R525, R526). -/
def State.cryAdmit (s : State) (pos q : Nat) : Nat :=
  let b := csBase pos q
  let alg := s.get b Rg.CS_CFG.ALG
  let slot := s.get b Rg.CS_CFG.KEY_SLOT
  if alg = 2 ∨ alg = 3 then 0
  else if s.ksState slot = 2 then 6
  else if !s.cryKeyOk pos alg slot ∨ (s.keyCopy pos q).isNone then 2 else 0

/-- A job started with the key the session holds at its boundary (R526). -/
def State.cryStart (s : State) (pos q : Nat) (rec_ : List Byte) (at_ : Option Nat) (h link : Nat) : State :=
  let st := s.cryAdmit pos q
  let t := (s.keyBoundary pos q).set (csBase pos q) Rg.CS_STAT.BUSY 1
  let j : CryJob := ⟨pos, q, rec_, at_, h, link, (t.keyCopy pos q).map (·.key), st⟩
  { t with sec := { t.sec with jobs := t.sec.jobs ++ [j] } }

/-- A job from software (R524): the entry in service at the session names the record by its index. -/
def State.crySoft (s : State) (pos q h : Nat) : State :=
  let b := csBase pos q
  match s.disp.find h with
  | none => s
  | some e =>
    let r := s.disp.flowOf e.flow
    if e.st ≠ .inService ∨ e.agent.isSome ∨ r.consumer ≠ pos ∨ r.lane ≠ q then s
    else if s.get b Rg.CS_JOBS.COUNT ≤ e.tag then (s.cryCount pos q 3).cryComplete pos q h
    else
      let a := s.get b Rg.CS_JOBS.ADDR + e.tag * 64
      if (s.memFault a 64).isSome then (s.cryCount pos q 8).cryComplete pos q h
      else
        let m := s.memRead a 64
        match m.2 with
        | none => (m.1.cryCount pos q 5).cryComplete pos q h
        | some l => m.1.cryStart pos q l (some a) h 0

/-- CRY_JOB: a job reaches a running session that has none, from software (its entry's handle) or as the TYPE 0x80 item last
handed to the tile. -/
def execCryJob (pos q : Nat) (handle : Option Nat) (s : State) : Host.Outcome State Fault Refusal :=
  if kindAt pos ≠ some .cry ∨ !s.laneOn pos q ∨ !s.flag (csBase pos q) Rg.CS_STAT.RUN ∨
      s.flag (csBase pos q) Rg.CS_STAT.BUSY then .next s
  else match handle with
    | some h => .next (s.crySoft pos q h)
    | none =>
      match s.item pos 0x80 with
      | none => .next s
      | some (src, p) =>
        if p.data.length = 8 ∧ pktLane p.lw = q then
          .next ((s.taken pos 0x80).cryStart pos q ((p.data.map (leBytes 8)).flatten) none 0 src)
        else .next s

/-- Whether a tag length is allowed for an algorithm (R522); SHA ignores it. -/
def tagOkFor (alg n : Nat) : Bool :=
  match alg with
  | 0 => n == 12 || n == 16
  | 1 => n == 0 || n == 4 || n == 8 || n == 16
  | 4 => n == 16 || n == 32
  | 5 => n == 24 || n == 48
  | _ => true

/-- The tag or digest bytes a job moves. -/
def tagBytes (alg n : Nat) : Nat := if alg = 2 then 32 else if alg = 3 then 48 else n

/-- Whether a job record is BAD (R525). -/
def cryBad (alg : Nat) (r : List Byte) : Bool :=
  decide (1 < leAt r 0 1) || !tagOkFor alg (leAt r 1 1) ||
  (alg == 0 && decide (16777215 < leAt r 4 4)) || (alg == 1 && decide (65535 < leAt r 4 4)) ||
  leAt r 3 1 != 0 || leAt r 30 2 != 0 || leAt r 60 4 != 0

/-- Whether a range of a job can be reached (R525, RANGE): in memory, powered, and for DDR with links both ways. -/
def State.cryReach (s : State) (pos a n : Nat) : Bool :=
  n == 0 || (s.memRange a n && (s.memFault a n).isNone &&
    (match regionOf a with | .ddr _ => s.linked pos posDdr | _ => true))

/-- The ranges of a job: whether they can be reached and do not overlap other than by being equal. -/
def State.cryRanges (s : State) (pos alg : Nat) (r : List Byte) : Bool :=
  let n := leAt r 4 4
  let i := leAt r 8 5
  let o := leAt r 13 5
  let ciphers := decide (alg < 2)
  s.cryReach pos i n && (!ciphers || s.cryReach pos o n) && (!ciphers || s.cryReach pos (leAt r 18 5) (leAt r 23 2)) &&
  s.cryReach pos (leAt r 25 5) (tagBytes alg (leAt r 1 1)) &&
  (!ciphers || i == o || decide (i + n ≤ o ∨ o + n ≤ i))

/-- The tag, digest or MAC of a job: GCM takes it over the enciphered data, CCM* over the plain. -/
def cryTag (alg : Nat) (k nonce aad data : List Byte) (n : Nat) : List Byte :=
  match alg with
  | 0 => (gcmTag (roundKeys k) nonce aad data).take n
  | 1 => ccmTag (roundKeys k) nonce aad data n
  | 2 => sha256 data
  | 3 => sha384 data
  | 4 => (hmac256 k data).take n
  | _ => (hmac384 k data).take n

/-- The output of a cipher job: the same key stream enciphers and deciphers. -/
def cryOut (alg : Nat) (k nonce data : List Byte) : List Byte :=
  if alg = 0 then gcmCrypt (roundKeys k) nonce data else ccmCrypt (roundKeys k) nonce data

/-- A job carried out over its input (R523): the state with its output written, and its status. UNPROTECT
compares the tag at TAG_ADDR. -/
def State.cryWork (s : State) (pos alg : Nat) (r k : List Byte) : State × Nat :=
  let op := leAt r 0 1
  let n := leAt r 4 4
  let tn := tagBytes alg (leAt r 1 1)
  if cryBad alg r then (s, 3)
  else if !s.cryRanges pos alg r then (s, 4)
  else
    let di := s.memRead (leAt r 8 5) n
    let da := di.1.memRead (leAt r 18 5) (if alg < 2 then leAt r 23 2 else 0)
    let dt := da.1.memRead (leAt r 25 5) (if op = 1 then tn else 0)
    match di.2, da.2, dt.2 with
    | some d, some a, some tag =>
      let t := dt.1
      let nonce := (r.drop 32).take (if alg = 0 then 12 else 13)
      let out := if alg < 2 then cryOut alg k nonce d else []
      let cover := if alg = 0 then (if op = 0 then out else d) else if alg = 1 then (if op = 0 then d else out) else d
      let made := cryTag alg k nonce a cover tn
      let tagOk := made == tag
      let w := if alg < 2 then
          t.memWrite (leAt r 13 5) (if op = 1 ∧ !tagOk then List.replicate n 0 else out)
        else (t, true)
      let u := if op = 0 then w.1.memWrite (leAt r 25 5) made else (w.1, true)
      (u.1, if !(w.2 && u.2) then 8 else if op = 1 ∧ !tagOk then 1 else 0)
    | _, _, _ => (dt.1, 5)

/-- CRY_JOB_DONE: the session's job ends (R523–R525). A tile's job waits while its answer cannot be sent. -/
def execCryJobDone (pos q : Nat) (s : State) : Host.Outcome State Fault Refusal :=
  match s.sec.jobs.find? (fun j => j.pos == pos && j.lane == q) with
  | none => .next s
  | some j =>
    let alg := s.get (csBase pos q) Rg.CS_CFG.ALG
    let k := match j.key with | some k => k.bytes | none => []
    let r := if j.status ≠ 0 then (s, j.status) else s.cryWork pos alg j.rec_ k
    let t := { r.1 with sec := { r.1.sec with jobs := r.1.sec.jobs.erase j } }
    match j.at_ with
    | some a =>
      let t := (t.memWrite (a + 2) [BitVec.ofNat 8 r.2]).1
      let t := (t.memWrite (a + 48) (leBytes 8 s.now)).1
      .next ((t.cryCount pos q r.2).cryComplete pos q j.handle)
    | none =>
      match t.sendItem pos j.link 0x81 0 0 q false [r.2 + leAt j.rec_ 56 4 * 2 ^ 32, s.now] with
      | some u => .next (u.cryCount pos q r.2)
      | none => .next s

end Sys2Proof.Machine
end

