-- ==== Sys2Proof/Machine/Radio.lean ====
section
/-! DEFINITION. Fleet radio access (R348–R375, R383, R386). -/

namespace Sys2Proof.Machine

/-- The base of radio port `p`. -/
def rpBase (p : Nat) : Nat := bRadio + p * 0x1000
/-- The position of the MAC tile of port `p`. -/
def macPos (p : Nat) : Nat := chanPos .mac p
/-- The base of the lane of port `p`. -/
def macBase (p : Nat) : Nat := laneBase .mac 0x1000 p
/-- The base of entry `k` of a lane. -/
def entBase (p k : Nat) : Nat := macBase p + k * 0x40
/-- The position of the radio port I/O block as a link end. -/
def posRadio : Nat := 94
/-- The position of the dispatcher as a link end. -/
def posDsp : Nat := 82

/-- The state of a lane. -/
def State.mac (s : State) (p : Nat) : MacLane := s.radio.lanes.getD p .off
/-- The state of a lane replaced. -/
def State.setMac (s : State) (p : Nat) (l : MacLane) : State :=
  { s with radio := { s.radio with lanes := listSet s.radio.lanes p l } }

/-! ### Ports -/

/-- Airtime of a PSDU of `n` bytes with its FCS, in µs (R349). -/
def State.airtime (s : State) (p n : Nat) : Nat :=
  s.get (rpBase p) Rg.RP_CFG.PRE_US + ceilDiv (8000 * n) (max (s.get (rpBase p) Rg.RP_CFG.RATE) 1)

/-- The largest `n` up to a bound whose airtime with an addition stays within 1,600 µs (R350). -/
def maxPsdu (s : State) (p add : Nat) : Nat → Nat
  | 0 => 0
  | n + 1 => if s.airtime p (n + 1) + add ≤ 1600 then n + 1 else maxPsdu s p add n

/-- MAXPSDU_B. -/
def State.psduB (s : State) (p : Nat) : Nat := maxPsdu s p 0 2047
/-- MAXPSDU_A. -/
def State.psduA (s : State) (p : Nat) : Nat := maxPsdu s p (100 + s.airtime p 23) 2047

/-- The profile checks of R350. -/
def State.profileOk (s : State) (p flags : Nat) : Bool :=
  let b := rpBase p
  decide (20 ≤ s.get b Rg.RP_CFG.PRE_US ∧ s.get b Rg.RP_CFG.PRE_US ≤ 230) &&
  decide (s.get b Rg.RP_CFG.TXLAT ≤ 60) &&
  decide (1 ≤ s.get b Rg.RP_CFG.CH_US ∧ s.get b Rg.RP_CFG.CH_US ≤ 40) &&
  decide (50 ≤ s.get b Rg.RP_CFG.RATE) && (!s.flag b Rg.RP_CFG.FCS4 || bitOf 0 flags) &&
  decide (96 ≤ s.psduB p) && decide (s.airtime p 48 + 100 + s.airtime p 35 ≤ 1880)

/-- Whether a port is in RUN. -/
def State.portRuns (s : State) (p : Nat) : Bool := s.get (rpBase p) Rg.RP_STAT.STATE == 2

/-- A lane's scheduled frames dropped. -/
def State.dropPend (s : State) (p : Nat) : State := s.setMac p { s.mac p with pend := [] }

/-- A port stopped in FAIL with a code (R350, R351). -/
def State.portFail (s : State) (p code : Nat) : State :=
  (((s.dropPend p).sets (rpBase p) [(Rg.RP_STAT.STATE, 3), (Rg.RP_STAT.FAIL_CODE, code)]).event 29 (rpBase p) Rg.RP_EVT.FAIL).portActive p false

/-- EN of a port set: the steps of R350. `id` are the 8 bytes READ_ID returns. A port whose EN is 1 already changes nothing, but one
in FAIL starts again (R351). -/
def State.portEnable (s : State) (p : Nat) (id : List Byte) : State :=
  let b := rpBase p
  if s.flag b Rg.RP_CFG.EN && s.get b Rg.RP_STAT.STATE != 3 then s
  else
  let s := s.sets b [(Rg.RP_CFG.EN, 1), (Rg.RP_STAT.STATE, 1), (Rg.RP_STAT.FAIL_CODE, 0)]
  if leAt id 0 1 ≠ 0x53 ∨ leAt id 1 1 ≠ 0x46 ∨ leAt id 2 1 ≠ 1 then s.portFail p 1
  else
    let t := s.sets b [(Rg.RP_TRX.VENDOR, leAt id 3 2), (Rg.RP_TRX.PART, leAt id 5 2), (Rg.RP_TRX.FLAGS, leAt id 7 1)]
    let t := t.partner 1 p (t.word b .RP_TRX)
    if t.profileOk p (leAt id 7 1) then
      let u := t.sets b [(Rg.RP_STAT.STATE, 2), (Rg.RP_STAT.MAXPSDU_B, t.psduB p), (Rg.RP_STAT.MAXPSDU_A, t.psduA p)]
      u.setMac p { u.mac p with bad := 0 }
    else t.portFail p 2

/-- EN of a port cleared: RESET_N low. -/
def State.portDisable (s : State) (p : Nat) : State :=
  ((s.dropPend p).sets (rpBase p) [(Rg.RP_CFG.EN, 0), (Rg.RP_STAT.STATE, 0), (Rg.RP_STAT.FAIL_CODE, 0)]).portActive p false

/-- A write of an action register of port `p`, which does nothing where IOBANK leaves the port off (R2). -/
def State.portWrite (s : State) (m : Master) (p off : Nat) (f : State → State) : State :=
  s.actWrite m (mayWriteService s m) .io (rpBase p + off) (fun t => if p < 8 ∧ bitOf (16 + p) t.img.io0 then f t else t)

/-- RADIO_PORT_ENABLE: RP_CFG.EN written 1. -/
def execRadioPortEnable (m : Master) (p : Nat) (id : List Byte) (s : State) : Host.Outcome State Fault Refusal :=
  .next (s.portWrite m p 0x1000 (fun t => t.portEnable p id))

/-- RP_RAW.GO: LEN bytes exchanged while the port is disabled (R348). -/
def State.rawGo (s : State) (p rx : Nat) : State :=
  let b := rpBase p
  if s.flag b Rg.RP_CFG.EN then s.event 29 b Rg.RP_EVT.RAW_IGN
  else
    let n := s.get b Rg.RP_RAW.LEN
    if n = 0 ∨ 6 < n then s
    else s.set b Rg.RP_RAW.DATA (putBits 0 (8 * n) (s.get b Rg.RP_RAW.DATA) rx)

/-- RAW_EXCHANGE: `rx` are the bytes received, the first lowest. -/
def execRawExchange (m : Master) (p rx : Nat) (s : State) : Host.Outcome State Fault Refusal :=
  .next (s.portWrite m p 0x1010 (fun t => t.rawGo p rx))

/-- A write of FR_ASN_BASE (R352): a whole TAI second, while no lane is enabled. -/
def State.asnBaseWrite (s : State) (v : Nat) : State :=
  if v % 1000000000 ≠ 0 ∨ (List.range 8).any (fun p => s.flag (macBase p) Rg.FR_CTRL.EN) then
    s.event 29 bRadio Rg.RP_CEVT.BASE_IGN
  else s.set bRadio Rg.FR_ASN_BASE.INSTANT v

/-- ASN_BASE_WRITE. -/
def execAsnBaseWrite (m : Master) (v : Nat) (s : State) : Host.Outcome State Fault Refusal :=
  .next (s.actWrite m (mayWriteService s m) .io (bRadio + 8) (fun t => t.asnBaseWrite v))

/-! ### Lanes -/

/-- Whether a lane's network key is usable by its MAC tile (R509). -/
def State.netKeyOk (s : State) (p : Nat) : Bool :=
  s.keyFor (s.get (macBase p) Rg.FR_CFG.NET_SLOT) (4 + p / 2) (useEnc + useDec)

/-- The refusal of a lane's enable, in the order of FR_STAT.REFUSE. -/
def State.laneRefusal (s : State) (p : Nat) : Nat :=
  let b := macBase p
  if !s.portRuns p then 1
  else if !s.linked (macPos p) posRadio ∨ (s.linkTo (macPos p) posDsp).isNone then 2
  else if !s.netKeyOk p ∨ (List.range 8).any (fun q => q != p && s.flag (macBase q) Rg.FR_CTRL.EN &&
      s.get (macBase q) Rg.FR_CFG.NET_SLOT == s.get b Rg.FR_CFG.NET_SLOT) then 3
  else if s.now < s.get bRadio Rg.FR_ASN_BASE.INSTANT ∨
      2 ^ 40 ≤ (s.now - s.get bRadio Rg.FR_ASN_BASE.INSTANT) / 2000000 then 4
  else 0

/-- The words of a lane's cell table. -/
def State.cellWords (s : State) (p : Nat) : List Nat :=
  (List.range 64).map (fun j => s.word (macBase p + j * 8) .FR_CELL)

/-- A lane enabled or refused. -/
def State.laneEnable (s : State) (p : Nat) : State :=
  let b := macBase p
  if s.flag b Rg.FR_CTRL.EN then s
  else
    let r := s.laneRefusal p
    if r = 0 then
      let t := s.sets b [(Rg.FR_CTRL.EN, 1), (Rg.FR_STAT.RUN, 1), (Rg.FR_STAT.REFUSE, 0)]
      let t := (t.deliverKey (macPos p) (p % 2) (s.get b Rg.FR_CFG.NET_SLOT)).portActive p true
      t.setMac p { t.mac p with cells := t.cellWords p, silent := 0 }
    else (s.set b Rg.FR_STAT.REFUSE r).event (tileEv (macPos p)) b Rg.FR_EVT.REFUSED

/-- MAC_LANE_ENABLE: FR_CTRL.EN written 1. -/
def execMacLaneEnable (m : Master) (p : Nat) (s : State) : Host.Outcome State Fault Refusal :=
  if p < 8 then .next (s.tileWrite m (macPos p) (p % 2) (0x1008 + p % 2 * 0x1000) (fun t => t.laneEnable p)) else .next s

/-- A downlink request completed with a status: the TYPE 0x62 answer on the return link (R366). -/
def State.dlDone (s : State) (p : Nat) (r : DlReq) (status : Nat) : State :=
  s.emit (macPos p) r.src 0x62 0 0 (p % 2)
    [r.tag + status * 2 ^ 32 + r.attempts % 16 * 2 ^ 36 + r.asn % 2 ^ 24 * 2 ^ 40]

/-- Whether a frame is one of entry `k`'s requests. -/
def AirFrame.isFor (f : AirFrame) (k : Nat) : Bool := f.act == .data k

/-- Every request of a lane that a predicate selects completed with a status, a frame of one not yet triggered with it. -/
def State.dlFlush (s : State) (p status : Nat) (sel : DlReq → Bool) : State :=
  let l := s.mac p
  let t := s.setMac p { l with reqs := l.reqs.filter (fun r => !sel r),
                               pend := l.pend.filter (fun f => !l.reqs.any (fun r => sel r && f.isFor r.k)),
                               waiting := if l.waiting.any (fun k => l.reqs.any (fun r => r.k == k && sel r)) then none
                                          else l.waiting }
  (l.reqs.filter sel).foldl (fun u r => u.dlDone p r status) t

/-- The correction buffers without what one lane still has to send. -/
def State.corrLeave (s : State) (p : Nat) : State :=
  let f := fun c : CorrMsg => if c.mac = p / 2 then { c with nxt := listSet c.nxt (p % 2) none } else c
  { s with radio := { s.radio with corr := (s.radio.corr.map f).filter (fun c => c.nxt.any Option.isSome) } }

/-- A lane disabled: its queues completed with FLUSHED (R366). -/
def State.laneDisable (s : State) (p : Nat) : State :=
  let b := macBase p
  let t := s.sets b [(Rg.FR_CTRL.EN, 0), (Rg.FR_STAT.RUN, 0)]
  let t := (((t.dropKey (macPos p) (p % 2)).portActive p false).dlFlush p 5 (fun _ => true)).corrLeave p
  t.setMac p { t.mac p with stopped := false, agreed := [], pend := [], sent := [], shr := none, box := [] }

/-- MAC_LANE_DISABLE: FR_CTRL.EN written 0. -/
def execMacLaneDisable (m : Master) (p : Nat) (s : State) : Host.Outcome State Fault Refusal :=
  if p < 8 then .next (s.tileWrite m (macPos p) (p % 2) (0x1008 + p % 2 * 0x1000)
    (fun t => if t.flag (macBase p) Rg.FR_CTRL.EN then t.laneDisable p else t)) else .next s

/-- An entry's STATE. -/
def State.entState (s : State) (p k : Nat) : Nat := s.get (entBase p k) Rg.MSTAT.STATE

/-- An entry leaves JOINED or JOINING for a state: its queue completes with NOT_JOINED when it leaves JOINED (R366). -/
def State.entLeave (s : State) (p k st : Nat) : State :=
  let was := s.entState p k
  let t := s.sets (entBase p k) [(Rg.MSTAT.STATE, st), (Rg.MSTAT.SEQ_MODE, 0)]
  if was = 3 then t.dlFlush p 2 (fun r => r.k == k) else t

/-- Whether an entry's capability record declares SLEEPY (R371). -/
def State.sleepy (s : State) (p k : Nat) : Bool := bitOf 56 (s.get (entBase p k) Rg.MCAP.CAP)

/-! ### Frames -/

/-- The header of R357. -/
def frameHdr (fctl net dst seq fcnt : Nat) : List Byte :=
  leBytes 1 fctl ++ leBytes 2 net ++ [0xFE] ++ leBytes 1 dst ++ leBytes 1 seq ++ leBytes 4 fcnt

/-- The nonce of R367: EUI-64 and FCNT most significant byte first, then FCTL. -/
def frameNonce (eui fcnt fctl : Nat) : List Byte :=
  (leBytes 8 eui).reverse ++ (leBytes 4 fcnt).reverse ++ leBytes 1 fctl

/-- FCTL of a frame. -/
def fctlOf (ftype mic : Nat) (enc ack phase : Bool) : Nat :=
  ftype + mic * 8 + b2n enc * 32 + b2n ack * 64 + b2n phase * 128

/-- Whether a lane may send at all (R351, R368, R385): it runs, its port is in RUN and its key is usable. -/
def State.mayAir (s : State) (p : Nat) : Bool :=
  s.flag (macBase p) Rg.FR_STAT.RUN && s.portRuns p && s.netKeyOk p &&
  (match s.keyCopy (macPos p) (p % 2) with | some c => !c.gone | none => false)

/-- The transmit counter that the next new frame takes: FR_TXFCNT past the frames already scheduled. -/
def State.nextFcnt (s : State) (p : Nat) : Nat :=
  s.get (macBase p) Rg.FR_TXFCNT.FCNT + ((s.mac p).pend.filter (·.new)).length

/-- The key with which a lane sends under the network key: none once the counter is exhausted (R368). -/
def State.sendKey (s : State) (p : Nat) : Option Key :=
  if s.mayAir p && decide (s.nextFcnt p < 0xFFFFFFFF) then (s.keyCopy (macPos p) (p % 2)).map (·.key) else none

/-- The SEQ of the next frame to a neighbour (R357): it counts the new frames sent to it, from 0. -/
def State.nextSeq (s : State) (p dst : Nat) : Nat :=
  let l := s.mac p
  (lookupD 0 dst l.seqs + (l.pend.filter (fun f => f.new && f.act != .hawk && leAt f.bytes 4 1 == dst)).length) % 256

/-- A new frame under the network key (R367, R368), with the next counter. -/
def State.netFrame (s : State) (p ftype mic : Nat) (enc ack : Bool) (dst seq : Nat) (payload : List Byte) : Option (List Byte) :=
  match s.sendKey p with
  | none => none
  | some k =>
    let b := macBase p
    let n := s.nextFcnt p
    let fctl := fctlOf ftype mic enc ack (s.mac p).phase
    let hdr := frameHdr fctl (s.get b Rg.FR_CFG.NET) dst seq n
    let len := if mic = 1 then 4 else 8
    some (hdr ++ padTo (payload.length + len)
      (ccmFrame k.bytes (frameNonce (s.get b Rg.FR_EUI.EUI) n fctl) hdr payload len enc))

/-- The transceiver channel of a slot with an offset (R354). -/
def State.hopChan (s : State) (p asn ofs : Nat) : Nat :=
  let i := (asn + ofs) % 16
  bits (i % 8 * 8) 8 (s.get (macBase p + i / 8 * 8) Rg.FR_HOP.HOP)

/-- BC_OFS, the channel offset of stop window, beacon and correction fragment. -/
def State.bcOfs (s : State) (p : Nat) : Nat := s.get (macBase p) Rg.FR_CFG.BC_OFS

/-- Airtime in ns of a frame without its FCS. -/
def State.airNs (s : State) (p : Nat) (f : List Byte) : Nat :=
  s.airtime p (f.length + (if s.flag (rpBase p) Rg.RP_CFG.FCS4 then 4 else 2)) * 1000

/-- A frame scheduled (R355, R383): not one that cannot end by B + 1,900 µs, and while the latch is set only one of a stop. -/
def State.schedule (s : State) (p : Nat) (f : AirFrame) : State :=
  if (f.stop = false ∧ s.flag bMpc Rg.FS_STAT.LATCHED) ∨ s.slotStart f.at_ + 1900000 < f.at_ + s.airNs p f.bytes then s
  else s.setMac p { s.mac p with pend := (s.mac p).pend ++ [f] }

/-- A new frame under the network key made and scheduled. -/
def State.sendNet (s : State) (p ftype mic : Nat) (enc ack : Bool) (dst at_ chan : Nat) (act : AirAct) (stop : Bool)
    (payload : List Byte) : State :=
  match s.netFrame p ftype mic enc ack dst (s.nextSeq p dst) payload with
  | some f => s.schedule p ⟨at_, chan, f, act, true, stop, false⟩
  | none => s

/-- The next fragment of a message for a lane: none after the last (R363). -/
def CorrMsg.sent (c : CorrMsg) (i frag n : Nat) : CorrMsg :=
  { c with nxt := listSet c.nxt i (if frag + 1 < n then some (frag + 1) else none) }

/-- The payload bytes of a correction fragment. -/
def State.fragBytes (s : State) (p : Nat) : Nat := s.get (rpBase p) Rg.RP_STAT.MAXPSDU_B - 26

/-- What the sending of a frame brings about (R358, R363, R366, R370). -/
def State.airDone (s : State) (p : Nat) (f : AirFrame) : State :=
  let l := s.mac p
  match f.act with
  | .hawk => s
  | .ack => s
  | .beacon => s.set (macBase p) Rg.FR_STAT.PERMIT (leAt f.bytes 15 4)
  | .corr seq idx frag =>
    let g := fun c : CorrMsg =>
      if c.mac = p / 2 ∧ c.seq = seq ∧ c.idx = idx then c.sent (p % 2) frag (ceilDiv c.frame.length (s.fragBytes p)) else c
    { s with radio := { s.radio with corr := (s.radio.corr.map g).filter (fun c => c.nxt.any Option.isSome) } }
  | .data k =>
    match l.reqs.find? (fun r => r.k == k) with
    | none => s
    | some r =>
      let r' := { r with attempts := r.attempts + 1, frame := some f.bytes, asn := s.asnAt f.at_ }
      if r.ack then s.setMac p { l with reqs := l.reqs.map (fun x => if x = r then r' else x), waiting := some k }
      else (s.setMac p { l with reqs := l.reqs.erase r }).dlDone p r' 0
  | .join k =>
    s.setMac p { l with joins := l.joins.map (fun x => if x.k = k then { x with due := false, rsp := some f.bytes } else x) }

/-- A scheduled frame triggered (R349, R368): it is counted, a new one under the network key takes its counter and its SEQ, and what
it brings about happens. A lane that may not send drops it. -/
def State.fire (s : State) (p : Nat) (f : AirFrame) : State :=
  if !s.mayAir p then s
  else
    let b := macBase p
    let t := s.count (rpBase p) Rg.RP_CNT.TX 1
    let l := t.mac p
    let dst := leAt f.bytes 4 1
    let n := leAt f.bytes 6 4 + 1
    let seqs := if f.new && f.act != .hawk then assocSet dst ((leAt f.bytes 5 1 + 1) % 256) l.seqs else l.seqs
    let t := t.setMac p { l with sent := l.sent.filter (fun g => decide (t.nowNs ≤ g.at_ + 6000000)) ++ [f], seqs := seqs }
    let t := if f.new then (t.set b Rg.FR_TXFCNT.FCNT n).eventIf (n == 0xF0000000) (tileEv (macPos p)) b Rg.FR_EVT.FCNT_WARN else t
    t.airDone p f

/-- Whether permits may be given at all (R359). -/
def State.permitsOk (s : State) : Bool :=
  (s.mode == .service ||
    (s.mode == .holdover && decide (s.terr ≤
      (let f := s.get bMpc Rg.MODE_LIM.FLEET_TERR; if 1 ≤ f ∧ f ≤ 1000 then f else 20) * 1000))) &&
  !s.flag bMpc Rg.FS_STAT.LATCHED && !s.power.dormPrep

/-- The permit bitmap sampled at a beacon (R359). -/
def State.permitMap (s : State) (p : Nat) : Nat :=
  if !s.permitsOk then 0
  else ((List.range 32).map (fun k =>
    if s.entState p k = 3 ∧ !s.sleepy p k ∧ bitOf k (s.get (macBase p) Rg.FR_GRANT.GRANT) then 2 ^ k else 0)).sum

/-- A beacon with a bitmap, sent at `at_` (R358); `stop` says that it is the stop beacon of R360. -/
def State.beacon (s : State) (p map at_ : Nat) (stop : Bool) : State :=
  let b := macBase p
  let flags := b2n stop + 2 * b2n (s.mode == .holdover) + 4 * s.get b Rg.FR_CTRL.JOIN_OPEN
  let body := leBytes 5 s.asn ++ leBytes 4 map ++ leBytes 2 (s.get bMpc Rg.FS_PEPOCH.EPOCH) ++ leBytes 1 flags ++
    leBytes 1 (s.get b Rg.FR_SCHED.ID)
  s.sendNet p 0 2 false false 0xFF at_ (s.hopChan p s.asn (s.bcOfs p)) .beacon stop body

/-- The Hawkmoth frame of the slot that begins at `b` (R386), on the stop-window channel at B + 20 µs: the fields of the stop are
given once they have had 50 µs to arrive. -/
def State.hawk (s : State) (p b rep : Nat) : State :=
  let asn := s.asnAt b
  let at_ := s.get bMpc Rg.FS_LATCH_AT.AT
  let info := decide (at_ + 50000 ≤ s.now)
  let body := leBytes 5 asn ++ leBytes 2 (s.get bMpc Rg.FS_PEPOCH.EPOCH) ++
    (if info then leBytes 2 (s.get bMpc Rg.FS_CAUSE.STOP_ID) ++ leBytes 1 (s.get bMpc Rg.FS_CAUSE.CAUSE) else [0, 0, 0]) ++
    leBytes 1 (b2n (s.mode == .maintenance) + 2 * b2n info) ++
    (if info then leBytes 8 at_ else leBytes 8 0) ++ leBytes 2 rep ++ leBytes 5 0
  match s.netFrame p 6 2 false false 0xFF (rep % 256) body with
  | some f => s.schedule p ⟨b + 20000, s.hopChan p asn (s.bcOfs p), f, .hawk, true, true, false⟩
  | none => s

/-! ### Slots -/

/-- A request whose ACK has not come by B + 1,900 µs (R366): another attempt later, or NOACK. -/
def State.dlTimeout (s : State) (p : Nat) : State :=
  let l := s.mac p
  match l.waiting with
  | none => s
  | some k =>
    let s := s.setMac p { l with waiting := none }
    match l.reqs.find? (fun r => r.k == k) with
    | none => s
    | some r =>
      if r.attempts ≤ s.get (macBase p) Rg.FR_CFG.RETRY then s
      else
        let t := s.setMac p { s.mac p with reqs := (s.mac p).reqs.erase r }
        (t.count (macBase p) Rg.FR_CNT2.NOACK 1).dlDone p r 1

/-- The agreed windows of sleepy entries that have closed (R374): without a verified frame in one, the next is widened, and a miss at
w = 4 makes the entry LOST. -/
def State.sleepyMiss (s : State) (p : Nat) : State :=
  let l := s.mac p
  let t := s.setMac p { l with agreed := l.agreed.filter (fun x => decide (s.nowNs ≤ x.2.2)) }
  (l.agreed.filter (fun x => decide (x.2.2 < s.nowNs))).foldl (fun u x =>
    let e := entBase p x.1
    if x.2.1 ≤ u.get e Rg.MLAST.INSTANT ∨ !u.sleepy p x.1 ∨ u.entState p x.1 ≠ 3 then u
    else
      let w := u.get e Rg.MSTAT.WIDEN
      if w < 4 then u.set e Rg.MSTAT.WIDEN (w + 1)
      else u.setMac p { u.mac p with miss4 := (u.mac p).miss4 ++ [x.1] }) t

/-- REPEAT of the stopped slot that begins at `b` (R386): one more than in the last stopped slot of this stop; for a lane's first, the
cut-offs since the latch set. -/
def State.nextRep (s : State) (p b : Nat) : Nat :=
  let l := s.mac p
  min 65535 (if l.repId = some (s.get bMpc Rg.FS_CAUSE.STOP_ID) then l.rep + 1
             else (b - 100000 - s.get bMpc Rg.FS_LATCH_AT.AT) / 2000000)

/-- SLOT_CUTOFF: the instant B − 100 µs of a slot (R355, R383), once. A slot whose cut-off finds the latch set is a stopped slot. -/
def execSlotCutoff (p : Nat) (s : State) : Host.Outcome State Fault Refusal :=
  let b := s.slotStart (s.nowNs + 100000)
  let l := s.mac p
  if 8 ≤ p ∨ !s.flag (macBase p) Rg.FR_STAT.RUN ∨ 5 ≤ s.nowNs + 100000 - b ∨ l.cut = some (s.asnAt b) then .next s
  else
    let s := s.setMac p { l with cut := some (s.asnAt b) }
    let s := (s.dlTimeout p).sleepyMiss p
    let l := s.mac p
    let rep := s.nextRep p b
    if s.flag bMpc Rg.FS_STAT.LATCHED ∧ l.silent ≤ b then
      .next ((s.setMac p { l with stopped := true, rep := rep, repId := some (s.get bMpc Rg.FS_CAUSE.STOP_ID) }).hawk p b rep)
    else .next (s.setMac p { l with stopped := s.flag bMpc Rg.FS_STAT.LATCHED })

/-- EN of a cell word, if the cell is used at all. -/
def cellOn (w : Nat) : Bool := bitOf 0 w && decide (2 ≤ bits 1 4 w ∧ bits 1 4 w ≤ 9) && bits 5 2 w != 3
/-- Whether a cell is active in slot `asn` (R364). -/
def cellIn (w asn : Nat) : Bool :=
  let per := max (bits 16 6 w) 1
  cellOn w && bits 1 4 w == asn % 10 && asn / 10 % per == bits 22 6 w % per
/-- DIR of a cell. -/
def cellDir (w : Nat) : Nat := bits 5 2 w
/-- OWNER of a cell. -/
def cellOwner (w : Nat) : Nat := bits 7 5 w

/-- The half-width in ns of an UP cell's receive window in the slot at instant `b` (R365, R373, R374). -/
def State.guard (s : State) (p k b : Nat) : Nat :=
  if s.sleepy p k then
    let i := b - s.get (entBase p k) Rg.MLAST.INSTANT
    let g := max 300000 (2 * bits 32 16 (s.get (entBase p k + 8) Rg.MCAP.CAP) * i / 10000000 + 150000)
    min (g * 2 ^ s.get (entBase p k) Rg.MSTAT.WIDEN) 10000000
  else max (s.get (macBase p) Rg.FR_CFG.RXG) 20 * 1000

/-- The cell used in a slot: the lowest of those active. -/
def State.usedCell (s : State) (p asn : Nat) : Option Nat := (s.mac p).cells.find? (fun w => cellIn w asn)

/-- The slots whose agreed windows may reach the slot that begins at `b`: 10 ms to each side. -/
def nearSlots (b : Nat) : List Nat := (List.range 13).map (fun d => b + d * 2000000 - 12000000)

/-- Whether a widened window of a sleepy entry's agreed slot in another slot covers the slot that begins at `b` (R373). -/
def State.covered (s : State) (p b : Nat) : Bool :=
  (nearSlots b).any (fun a => a != b &&
    (match s.usedCell p (s.asnAt a) with
     | none => false
     | some w => cellDir w == 0 && s.sleepy p (cellOwner w) && s.entState p (cellOwner w) == 3 &&
        (let c := a + 300000
         let g := s.guard p (cellOwner w) a
         decide (c < b + 2000000 + g ∧ b < c + g))))

/-- The data cell of a slot: the lowest of those active; the others counted as clashes (R364). -/
def State.cellOf (s : State) (p asn : Nat) : State × Option Nat :=
  let l := (s.mac p).cells.filter (fun w => cellIn w asn)
  let n := l.length - 1
  let t := s.count (macBase p) Rg.FR_CNT2.CLASH n
  (t.eventIf (decide (0 < n)) (tileEv (macPos p)) (macBase p) Rg.FR_EVT.CLASH, l.head?)

/-- The first request of an entry that a DOWN cell sends at `at_`: a new frame, or its frame again (R366). -/
def State.dlSend (s : State) (p k at_ chan : Nat) : State :=
  match (s.mac p).reqs.find? (fun r => r.k == k) with
  | none => s
  | some r =>
    match r.frame with
    | some f => if (s.sendKey p).isSome then s.schedule p ⟨at_, chan, f, .data k, false, false, false⟩ else s
    | none => s.sendNet p 2 2 true r.ack k at_ chan (.data k) false r.payload

/-- The JOIN_RSP payload (R370). -/
def State.joinRsp (s : State) (p : Nat) (j : JoinRec) : List Byte :=
  let b := macBase p
  let key := match s.keyCopy (macPos p) (p % 2) with | some c => c.key.bytes | none => []
  leBytes 8 j.nonce ++ leBytes 1 j.status ++ leBytes 1 j.k ++
    leBytes 1 (b2n (s.mac p).phase + 2 * b2n (key.length == 32)) ++
    (if j.status = 0 then padTo 32 key else List.replicate 32 0) ++ leBytes 4 j.start ++
    leBytes 4 (s.get b Rg.FR_TXFCNT.FCNT) ++ leBytes 5 s.asn ++ leBytes 2 (s.get bMpc Rg.FS_PEPOCH.EPOCH) ++
    leBytes 1 (s.get b Rg.FR_SCHED.ID)

/-- The CRY tile whose session serves a MAC tile's join exchanges (R527). -/
def State.joinCry (s : State) (p : Nat) : Option Nat :=
  (tilePositions .cry).find? (fun q => s.instanced q && s.linked (macPos p) q)

/-- The join key of an entry, usable by that CRY tile. -/
def State.joinKey (s : State) (p k : Nat) : Option Key :=
  match s.joinCry p with
  | none => none
  | some q =>
    let slot := s.get (entBase p k) Rg.MCFG.JKEY
    if s.keyFor slot (instAt q) (useEnc + useDec) then s.liveKey slot else none

/-- The JOIN_RSP that a SHARED cell carries: the oldest whose request is at least 10 ms old (R370). -/
def State.joinSend (s : State) (p at_ chan : Nat) : State :=
  match (s.mac p).joins.find? (fun j => j.due && decide (j.at_ + 10000000 ≤ s.nowNs)) with
  | none => s
  | some j =>
    match s.joinKey p j.k with
    | none => s
    | some key =>
      let b := macBase p
      let fctl := fctlOf 5 2 true false (s.mac p).phase
      let n := bits 0 32 (Config.trng s.free).toNat
      let hdr := frameHdr fctl (s.get b Rg.FR_CFG.NET) j.k j.seq n
      let pl := s.joinRsp p j
      let f := match j.rsp with
        | some f => f
        | none => hdr ++ padTo (pl.length + 8)
            (ccmFrame key.bytes (frameNonce (s.get b Rg.FR_EUI.EUI) n fctl) hdr pl 8 true)
      (s.drawn 1).schedule p ⟨at_, chan, f, .join j.k, false, false, false⟩

/-- A correction fragment (R363): the oldest message of the tile with a fragment left for this lane that arrived before this
slot's boundary. -/
def State.corrSend (s : State) (p at_ chan : Nat) : State :=
  let per := s.fragBytes p
  match s.radio.corr.find? (fun c => c.mac == p / 2 && (c.nxt.getD (p % 2) none).isSome && decide (c.at_ < s.nowNs)) with
  | none => s
  | some c =>
    let i := (c.nxt.getD (p % 2) none).getD 0
    let n := ceilDiv c.frame.length per
    let hd := leBytes 1 c.seq ++ leBytes 1 (c.idx % 16 + c.int * 16 + b2n c.deg * 128) ++
      leBytes 1 (i % 16 + (n - 1) * 16) ++ leBytes 1 (b2n c.last)
    s.sendNet p 1 2 (s.flag (macBase p) Rg.FR_CFG.CORR_ENC) false 0xFF at_ chan (.corr c.seq c.idx i) false
      (hd ++ (c.frame.drop (i * per)).take per)

/-- The slot frame of a slot that is not stopped, at B + 300 µs (R353, R355, R359, R363–R366, R375). -/
def State.slotFrame (s : State) (p : Nat) : State :=
  let b := s.slotStart s.nowNs
  let asn := s.asn
  let at_ := b + 300000
  let bc := s.hopChan p asn (s.bcOfs p)
  if asn % 10 = 0 then s.beacon p (s.permitMap p) at_ false
  else if asn % 10 = 1 then
    if s.flag (macBase p) Rg.FR_CFG.CORR_EN && (s.mode == .service || s.mode == .holdover) then s.corrSend p at_ bc else s
  else
    match s.cellOf p asn with
    | (t, none) => t
    | (t, some w) =>
      let k := cellOwner w
      let chan := t.hopChan p asn (bits 12 4 w)
      if t.covered p b then t.count (macBase p) Rg.FR_CNT2.WIDEN_SKIP 1
      else
        match cellDir w with
        | 0 =>
          if t.sleepy p k ∧ t.entState p k = 3 then
            t.setMac p { t.mac p with agreed := (t.mac p).agreed ++ [(k, at_ - t.guard p k b, at_ + t.guard p k b)] }
          else t
        | 1 => if t.entState p k = 3 then t.dlSend p k at_ chan else t
        | _ => t.joinSend p at_ chan

/-- The STATUS read of a slot (R351): three bad reads in a row put the port in FAIL. -/
def State.statusPoll (s : State) (p status : Nat) : State :=
  if status = 0xFF ∨ bitOf 2 status then
    let n := (s.mac p).bad + 1
    let t := s.setMac p { s.mac p with bad := n }
    if n < 3 then t else t.portFail p 3
  else s.setMac p { s.mac p with bad := 0 }

/-- The new network key taken at a slotframe boundary (R368): KEYPHASE inverts, the counter restarts, every JOINED entry returns to
PROVISIONED, and a Hawkmoth frame already loaded is made anew under the new key. -/
def State.keyRotate (s : State) (p : Nat) : State :=
  match s.keyCopy (macPos p) (p % 2) with
  | none => s
  | some c =>
    if c.nxt.isNone ∨ !s.flag (macBase p) Rg.FR_STAT.RUN then s
    else
      let t := (s.keyBoundary (macPos p) (p % 2)).set (macBase p) Rg.FR_TXFCNT.FCNT 0
      let l := t.mac p
      let t := t.setMac p { l with phase := !l.phase, pend := [] }
      let t := if l.pend.any (fun f => f.act == .hawk) then t.hawk p (t.slotStart t.nowNs) l.rep else t
      ((List.range 32).filter (fun k => t.entState p k == 3)).foldl (fun u k => u.entLeave p k 1) t

/-- SLOT_BOUNDARY: the instant B of a slot, once. `status` is the transceiver's STATUS byte. -/
def execSlotBoundary (p status : Nat) (s : State) : Host.Outcome State Fault Refusal :=
  if 8 ≤ p ∨ !s.portRuns p ∨ 5 ≤ s.slotPhase ∨ (s.mac p).slot = some s.asn then .next s
  else
    let s := s.setMac p { s.mac p with slot := some s.asn }
    let s := s.statusPoll p status
    if !s.flag (macBase p) Rg.FR_STAT.RUN ∨ !s.portRuns p then .next s
    else
      let s := if s.asn % 10 = 0 then (s.keyRotate p).setMac p { (s.keyRotate p).mac p with cells := s.cellWords p } else s
      let s := s.portActive p (s.mayAir p)
      let l := s.mac p
      let b := s.slotStart s.nowNs
      if b < l.silent then .next s
      else if l.stopped then
        match l.pend.find? (fun f => f.act == .hawk) with
        | some f => .next (if s.asn % 10 = 0 then s.beacon p 0 (f.at_ + s.airNs p f.bytes + 100000) true else s)
        | none => .next s
      else if s.flag bMpc Rg.FS_STAT.LATCHED then .next s
      else .next (s.slotFrame p)

/-! ### Reception -/

/-- A received frame's security failed (R367). -/
def State.micFail (s : State) (p : Nat) : State :=
  (s.count (macBase p) Rg.FR_CNT.MIC_FAIL 1).event (tileEv (macPos p)) (macBase p) Rg.FR_EVT.MIC_FAIL

/-- A payload delivered as a TYPE 0x60 item to the dispatcher on MCFG.FLOW (R365); none while the ring has no free slot. -/
def State.deliverData (s : State) (p : Nat) (u : UpItem) : Option State :=
  match s.takeSlot (macPos p) posDsp with
  | none => none
  | some (t, slot) =>
    let t := (t.memWrite (t.slotAddr (macPos p) posDsp slot) u.bytes).1
    some (t.emit (macPos p) posDsp 0x60 (s.get (entBase p u.k) Rg.MCFG.FLOW) 0 (p % 2)
      [(p * 32 + u.k) % 256 + u.bytes.length % 2048 * 2 ^ 8 + slot % 4096 * 2 ^ 19 + u.fcnt % 2 ^ 32 * 2 ^ 32, u.shr,
       u.rssi % 256 + u.asn * 2 ^ 8])

/-- The payloads that wait for a ring slot delivered, oldest first, while there is one (R52, R86). -/
def State.unbox (s : State) (p : Nat) : Nat → State
  | 0 => s
  | n + 1 =>
    match (s.mac p).box with
    | [] => s
    | u :: r =>
      match s.deliverData p u with
      | none => s
      | some t => (t.setMac p { t.mac p with box := r }).unbox p n

/-- What a lane does as time goes on: frames are triggered TXLAT before their SHR instants (R349), and payloads that wait are
delivered. -/
def State.laneDue (s : State) (p : Nat) : State :=
  let l := s.mac p
  if l.pend = [] ∧ l.box = [] then s
  else
    let due := fun f : AirFrame => decide (f.at_ ≤ s.nowNs + s.get (rpBase p) Rg.RP_CFG.TXLAT * 1000)
    let t := s.setMac p { l with pend := l.pend.filter (fun f => !due f) }
    let t := (l.pend.filter due).foldl (fun u f => u.fire p f) t
    t.unbox p (t.mac p).box.length

/-- The same for every lane. -/
def State.radioDue (s : State) : State := (List.range 8).foldl State.laneDue s

/-- An entry becomes JOINED (R370, R372). -/
def State.entJoin (s : State) (p k : Nat) : State :=
  (s.sets (entBase p k) [(Rg.MSTAT.STATE, 3), (Rg.MSTAT.SEQ_MODE, 0)]).event (tileEv (macPos p)) (macBase p) Rg.FR_EVT.JOIN

/-- Whether the lane's Hawkmoth frame or beacon was on air at an instant. -/
def State.wasBusy (s : State) (p t : Nat) : Bool :=
  (s.mac p).sent.any (fun f => (f.act == .hawk || f.act == .beacon) && decide (f.at_ ≤ t ∧ t < f.at_ + s.airNs p f.bytes))

/-- Whether the slot that begins at `b` was a stopped one of the lane, as a Hawkmoth frame sent in it shows. -/
def State.wasStopped (s : State) (p b : Nat) : Bool :=
  (s.mac p).sent.any (fun f => f.act == .hawk && s.slotStart f.at_ == b)

/-- The beginning of the slot whose UP cell of entry `k` has its receive window over a SHR instant, with its cell (R365, R373): a
window lies around B + 300 µs; one of a sleepy entry may reach over other slots, but closes in a stop window and while a beacon or
a Hawkmoth frame is on air. -/
def State.upWindow (s : State) (p k shr : Nat) : Option (Nat × Nat) :=
  let here := s.slotStart shr
  let sleepy := s.sleepy p k
  if sleepy ∧ (shr - here ≤ 250000 ∨ s.wasBusy p shr) then none
  else ((nearSlots here).filterMap (fun a =>
    match s.usedCell p (s.asnAt a) with
    | none => none
    | some w => if cellDir w = 0 ∧ cellOwner w = k ∧ !s.wasStopped p a ∧
        ((shr : Int) - (a + 300000 : Nat)).natAbs ≤ s.guard p k a then some (a, w) else none)).head?

/-- A verified frame of an entry (R370, R372, R374): its SHR instant is kept, the widening ends, and a LOST entry, or a JOINING one
from FCNT_START on, becomes JOINED. -/
def State.verified (s : State) (p k n shr : Nat) : State :=
  let e := entBase p k
  let st := s.entState p k
  let start := match (s.mac p).joins.find? (fun j => j.k == k) with | some j => j.start | none => 0
  let t := (s.set e Rg.MLAST.INSTANT shr).set e Rg.MSTAT.WIDEN 0
  if st = 4 ∨ (st = 2 ∧ start ≤ n) then t.entJoin p k else t

/-- Whether an entry takes frames under the network key: it is JOINING, JOINED or LOST. -/
def State.entTakes (s : State) (p k : Nat) : Bool := decide (k < 32 ∧ 2 ≤ s.entState p k ∧ s.entState p k ≤ 4)

/-- The ACK of a DATA frame (R365), 100 µs after its end on the cell's channel: TCORR from the cell's slot `b`, and the low byte of its
FCNT. -/
def State.ackData (s : State) (p k fcnt shr len b cell : Nat) : State :=
  s.sendNet p 3 1 false false k (shr + s.airtime p len * 1000 + 100000) (s.hopChan p (s.asnAt b) (bits 12 4 cell)) .ack false
    (leBytes 4 (pat 32 ((shr : Int) - (b + 300000 : Nat))) ++ leBytes 1 fcnt)

/-- A DATA frame that verifies, of `len` bytes with its FCS, in its owner's window (R365). -/
def State.dataFrame (s : State) (p k : Nat) (f payload : List Byte) (shr rssi len b cell : Nat) : State :=
  let e := entBase p k
  let n := leAt f 6 4
  let s := s.verified p k n shr
  let rx := s.get e Rg.MSTAT.RX_FCNT
  if n < rx then
    (s.count (macBase p) Rg.FR_CNT.REPLAY 1).event (tileEv (macPos p)) (macBase p) Rg.FR_EVT.REPLAY
  else
    let t := if rx < n then
        let u := s.set e Rg.MSTAT.RX_FCNT n
        let u := u.setMac p { u.mac p with box := (u.mac p).box ++ [⟨k, n, shr, rssi, u.asnAt shr, payload⟩] }
        u.unbox p (u.mac p).box.length
      else s.count (macBase p) Rg.FR_CNT.DUP 1
    if bitOf 6 (leAt f 0 1) then t.ackData p k n shr len b cell else t

/-- An ACK of the machine whose acknowledgement is awaited (R366). -/
def State.ackFrame (s : State) (p k : Nat) (body : List Byte) : State :=
  let l := s.mac p
  if l.waiting ≠ some k then s
  else match l.reqs.find? (fun r => r.k == k) with
    | none => s
    | some r =>
      let low := match r.frame with | some f => leAt f 6 1 | none => 0
      if leAt body 4 1 ≠ low then s
      else (s.setMac p { l with reqs := l.reqs.erase r, waiting := none }).dlDone p r 0

/-- The security level of a frame type (R367): MIC and ENC. -/
def State.levelOf (s : State) (p ftype : Nat) : Nat × Bool :=
  match ftype with
  | 1 => (2, s.flag (macBase p) Rg.FR_CFG.CORR_ENC)
  | 3 => (1, false)
  | 0 => (2, false)
  | 6 => (2, false)
  | _ => (2, true)

/-- The EUI-64 of the sender of a frame under the network key: an entry's, or the base's own. -/
def State.senderEui (s : State) (p src : Nat) : Option Nat :=
  if src < 32 then if s.flag (entBase p src) Rg.MCFG.PROV then some (s.get (entBase p src) Rg.MID.EUI) else none
  else if src = 0xFE then some (s.get (macBase p) Rg.FR_EUI.EUI) else none

/-- The payload of a received frame under the network key, if its MIC is right (R367). -/
def State.netOpen (s : State) (p : Nat) (f : List Byte) : Option (List Byte) :=
  let fctl := leAt f 0 1
  let lv := s.levelOf p (fctl % 8)
  match s.keyCopy (macPos p) (p % 2), s.senderEui p (leAt f 3 1) with
  | some c, some e =>
    ccmOpen c.key.bytes (frameNonce e (leAt f 6 4) fctl) (f.take 10) (f.drop 10) (if lv.1 = 1 then 4 else 8) lv.2
  | _, _ => none

/-- The SHR instant of the frame just received: that of its stamp, which it uses up; without one it is not known (free value). -/
def State.takeShr (s : State) (p : Nat) : State × Nat :=
  match (s.mac p).shr with
  | some t => (s.setMac p { s.mac p with shr := none }, t)
  | none => (s.fresh, (Config.outside s.free).toNat)

/-- A received frame other than a JOIN_REQ, with a good FCS, for this lane (R357, R365–R367). -/
def State.netReceive (s : State) (p : Nat) (f : List Byte) (rssi shr : Nat) : State :=
  let fctl := leAt f 0 1
  let lv := s.levelOf p (fctl % 8)
  let k := leAt f 3 1
  if bits 3 2 fctl ≠ lv.1 ∨ bitOf 5 fctl ≠ lv.2 ∨ fctl % 8 = 5 then s.micFail p
  else match s.netOpen p f with
    | none => s.micFail p
    | some pl =>
      if !s.entTakes p k then s
      else if fctl % 8 = 3 then (s.verified p k (leAt f 6 4) shr).ackFrame p k pl
      else if fctl % 8 = 2 then
        match s.upWindow p k shr with
        | none => s
        | some (b, w) =>
          s.dataFrame p k f pl shr rssi (f.length + (if s.flag (rpBase p) Rg.RP_CFG.FCS4 then 4 else 2)) b w
      else s

/-- Whether a capability record fails the checks of R371. -/
def capBad (c : List Byte) : Bool :=
  leAt c 0 1 != 1 || decide (64 < leAt c 6 1) || decide (2 ≤ leAt c 7 1) || decide (16 ≤ leAt c 18 1) || leVal ((c.drop 19).take 13) != 0

/-- The words of a capability record shown in MCAP0–MCAP3; a new MCAP0 is a new partner identity (R371, R551). -/
def State.setCap (s : State) (p k : Nat) (c : List Byte) : State :=
  let e := entBase p k
  let t := ((((s.set e Rg.MCAP.CAP (leAt c 0 8)).set (e + 8) Rg.MCAP.CAP (leAt c 8 8)).set (e + 16) Rg.MCAP.CAP
    (leAt c 16 8)).set (e + 24) Rg.MCAP.CAP (leAt c 24 8))
  t.partner 4 (p * 32 + k) (leAt c 0 8)

/-- A verified JOIN_REQ of entry `k` (R369, R370). -/
def State.joinReq (s : State) (p k seq fcnt nonce : Nat) (cap : List Byte) (shr : Nat) : State :=
  let e := entBase p k
  let l := s.mac p
  match l.joins.find? (fun j => j.k == k && j.seq == seq && j.fcnt == fcnt) with
  | some j => s.setMac p { l with joins := l.joins.map (fun x => if x = j then { x with due := true, at_ := shr } else x) }
  | none =>
    let st := if !s.flag (macBase p) Rg.FR_CTRL.JOIN_OPEN then 1 else if capBad cap then 2
      else if leAt cap 18 1 % 16 ≠ s.get (macBase p) Rg.FR_CFG.PROFILE_ID then 3 else 0
    let j : JoinRec := ⟨k, seq, fcnt, nonce, st, shr, s.nowNs, (s.get e Rg.MSTAT.RX_FCNT + 1) % 2 ^ 32, none, true⟩
    let s := s.setMac p { l with joins := l.joins.filter (fun x => x.k != k) ++ [j] }
    let s := s.set e Rg.MSTAT.LAST_SEQ seq
    if st = 0 then ((s.entLeave p k 2).set e Rg.MSTAT.SEQ_MODE 1).setCap p k cap else s

/-- A received JOIN_REQ for this lane (R367, R370, R527): 10 bytes of header, the EUI-64 with its most significant byte first, then 40
bytes enciphered under the entry's join key and the MIC. -/
def State.joinReceive (s : State) (p : Nat) (f : List Byte) (shr : Nat) : State :=
  let fctl := leAt f 0 1
  let eui := leVal ((f.drop 10).take 8).reverse
  if leAt f 3 1 ≠ 0xFD then s
  else if (s.joinCry p).isNone then s.count (macBase p) Rg.FR_CNT.MIC_FAIL 1
  else if bits 3 2 fctl ≠ 2 ∨ !bitOf 5 fctl then s.micFail p
  else match (List.range 32).find? (fun k => s.flag (entBase p k) Rg.MCFG.PROV && s.get (entBase p k) Rg.MID.EUI == eui) with
    | none => s
    | some k =>
      match (s.joinKey p k).bind (fun key => ccmOpen key.bytes (frameNonce eui (leAt f 6 4) fctl) (f.take 18) (f.drop 18) 8 true) with
      | none => s.micFail p
      | some pl =>
        if pl.length = 40 then s.joinReq p k (leAt f 5 1) (leAt f 6 4) (leVal (pl.take 8)) (pl.drop 8) shr else s

/-- A frame read from the transceiver (R357): its PSDU without FCS. One with FCS_OK 0 is counted; one of another network, to another
destination or of FTYPE 7 is dropped. -/
def State.receive (s : State) (p : Nat) (f : List Byte) (rssi : Nat) (fcsOk : Bool) : State :=
  if 8 ≤ p ∨ !s.flag (macBase p) Rg.FR_STAT.RUN ∨ !s.portRuns p then s
  else
    let r := s.takeShr p
    let t := r.1
    let dst := leAt f 4 1
    if !fcsOk then t.count (rpBase p) Rg.RP_CNT.RX_BAD 1
    else if leAt f 1 2 ≠ s.get (macBase p) Rg.FR_CFG.NET ∨ (dst ≠ 0xFE ∧ dst ≠ 0xFF) ∨ leAt f 0 1 % 8 = 7 then t
    else if leAt f 0 1 % 8 = 4 then t.joinReceive p f r.2
    else t.netReceive p f rssi r.2

/-- RADIO_FRAME_RECEIVE: a frame read from the transceiver: its PSDU without FCS, RSSI and FCS_OK. -/
def execRadioFrameReceive (p : Nat) (f : List Byte) (rssi : Nat) (fcsOk : Bool) (s : State) : Host.Outcome State Fault Refusal :=
  .next (s.receive p f rssi fcsOk)

/-- JOIN_REQ_RECEIVE: a JOIN_REQ read from the transceiver with a good FCS. -/
def execJoinReqReceive (p : Nat) (f : List Byte) (s : State) : Host.Outcome State Fault Refusal :=
  if leAt f 0 1 % 8 = 4 then .next (s.receive p f 0 true) else .next s

/-- A stamp of SFD_TS at the lane (R349, R351): the SHR instant of a frame the lane sends, while one is on air, checked against its
schedule; otherwise that of a frame it receives. -/
def State.sfdStamp (s : State) (x : Stamp) : State :=
  let p := x.chan - 5
  if x.chan < 5 ∨ 12 < x.chan ∨ x.gen ≠ s.get bTime Rg.TIME_STAT.GEN then s
  else
    let fine := x.at_ * 256 + x.sub - s.get (rpBase p) Rg.RP_CFG.SFD_DLY * 25600
    let shr := fine / 256
    let l := s.mac p
    let early := s.get (rpBase p) Rg.RP_CFG.TXLAT * 1000 + 1000
    match l.sent.find? (fun f => !f.seen && decide (f.at_ ≤ shr + early ∧ shr ≤ f.at_ + s.airNs p f.bytes)) with
    | none => s.setMac p { l with shr := some shr }
    | some f =>
      let t := s.setMac p { l with sent := l.sent.map (fun g => if g = f then { g with seen := true } else g) }
      if 2000 * 256 < ((fine : Int) - (f.at_ * 256 : Nat)).natAbs then
        (t.count (rpBase p) Rg.RP_CNT.TX_LATE 1).event 29 (rpBase p) Rg.RP_EVT.TX_LATE
      else t

/-- JOIN_TIMEOUT: a JOINING entry has sent no qualifying frame for 2 s (R370). -/
def execJoinTimeout (p k : Nat) (s : State) : Host.Outcome State Fault Refusal :=
  let late := (s.mac p).joins.any (fun j => j.k == k && decide (j.since + 2000000000 ≤ s.nowNs))
  if p < 8 ∧ k < 32 ∧ s.entState p k = 2 ∧ late then .next (s.entLeave p k 1) else .next s

/-- MACHINE_LOST_TIMEOUT: an entry with an active UP cell silent for 2 s, or a sleepy entry that missed at w = 4
(R372, R374). -/
def execMachineLostTimeout (p k : Nat) (s : State) : Host.Outcome State Fault Refusal :=
  let l := s.mac p
  let due := if s.sleepy p k then l.miss4.contains k
    else l.cells.any (fun w => cellOn w && cellDir w == 0 && cellOwner w == k) &&
      decide (s.get (entBase p k) Rg.MLAST.INSTANT + 2000000000 ≤ s.nowNs)
  if p < 8 ∧ k < 32 ∧ s.entState p k = 3 ∧ due then
    let t := s.setMac p { l with miss4 := l.miss4.filter (· != k) }
    .next ((t.entLeave p k 4).event (tileEv (macPos p)) (macBase p) Rg.FR_EVT.LOST)
  else .next s

/-- A message's unsent fragments discarded in lane `i` of its tile because a newer epoch arrived (R363). -/
def dropOld (c : CorrMsg) (i : Nat) : CorrMsg := { c with nxt := listSet c.nxt i none }

/-- The messages of a tile that a new SEQ makes old, per lane: counted and discarded (R363). -/
def State.corrNewer (s : State) (mac seq : Nat) : Nat → State
  | 0 => s
  | i + 1 =>
    let t := s.corrNewer mac seq i
    let old := t.radio.corr.filter (fun c => c.mac == mac && c.seq != seq && (c.nxt.getD i none).isSome)
    let p := mac * 2 + i
    let left := (t.radio.corr.map (fun c => if c.mac = mac ∧ c.seq ≠ seq then dropOld c i else c)).filter
        (fun x => x.nxt.any Option.isSome)
    let u := { t with radio := { t.radio with corr := left } }
    let stale := fun f : AirFrame => match f.act with | .corr q _ _ => q != seq | _ => false
    let u := u.setMac p { u.mac p with pend := (u.mac p).pend.filter (fun f => !stale f) }
    (u.count (macBase p) Rg.FR_CNT.CORR_DROP old.length).eventIf (decide (old ≠ [])) (tileEv (macPos p)) (macBase p)
      Rg.FR_EVT.CORR_DROP

/-- The bytes held in a tile's correction buffer (R362). -/
def State.corrHeld (s : State) (mac : Nat) : Nat :=
  ((s.radio.corr.filter (fun c => c.mac == mac)).map (fun c => c.frame.length)).sum

/-- The first fragment a lane sends of a message of `n` bytes: none when the lane sends no corrections, or when the message
needs more than 16 fragments. -/
def State.corrFirst (s : State) (p n : Nat) : Option Nat :=
  let per := s.fragBytes p
  if s.flag (macBase p) Rg.FR_CFG.CORR_EN ∧ s.flag (macBase p) Rg.FR_STAT.RUN ∧ 0 < per ∧ ceilDiv n per ≤ 16 then some 0
  else none

/-- Whether a lane that sends corrections must discard a message for its length (R363). -/
def State.corrLong (s : State) (p n : Nat) : Bool :=
  let per := s.fragBytes p
  s.flag (macBase p) Rg.FR_CFG.CORR_EN && s.flag (macBase p) Rg.FR_STAT.RUN && (per == 0 || decide (16 < ceilDiv n per))

/-- CORR_ITEM_RECEIVE: the TYPE 0x30 item handed to MAC tile `mac` is copied into the correction buffer, if it has room
(R362, R363). -/
def execCorrItemReceive (mac : Nat) (s : State) : Host.Outcome State Fault Refusal :=
  let pos := (tilePositions .mac).getD mac 99
  match s.item pos 0x30 with
  | none => .next s
  | some (src, q) =>
    let w := q.data.headD 0
    let n := bits 12 11 w
    if 16384 < s.corrHeld mac + n then .next s
    else
      let seq := bits 40 8 w
      let t := (s.taken pos 0x30).corrNewer mac seq 2
      let r := t.memRead (t.slotAddr src pos (bits 0 12 w)) n
      match r.2 with
      | none => .next (r.1.poisonDrop pos (t.slotAddr src pos (bits 0 12 w)))
      | some f =>
        let t := r.1
        let t := if t.corrLong (mac * 2) n then t.count (macBase (mac * 2)) Rg.FR_CNT2.CORR_LONG 1 else t
        let t := if t.corrLong (mac * 2 + 1) n then t.count (macBase (mac * 2 + 1)) Rg.FR_CNT2.CORR_LONG 1 else t
        let at_ := lookupD 0 mac t.radio.idx
        let idx := if at_ / 16 = seq + 1 then at_ % 16 else 0
        let t := { t with radio := { t.radio with idx := assocSet mac ((seq + 1) * 16 + (idx + 1) % 16) t.radio.idx } }
        let nxt := [t.corrFirst (mac * 2) n, t.corrFirst (mac * 2 + 1) n]
        if nxt.any Option.isSome then
          let c : CorrMsg := ⟨mac, seq, idx, bits 35 3 w, bitOf 39 w, bitOf 38 w, f, t.nowNs, nxt⟩
          .next { t with radio := { t.radio with corr := t.radio.corr ++ [c] } }
        else .next t

/-- DOWNLINK_REQUEST: the TYPE 0x61 item handed to MAC tile `mac` is queued for its machine, or completes at once (R366). -/
def execDownlinkRequest (mac : Nat) (s : State) : Host.Outcome State Fault Refusal :=
  let pos := (tilePositions .mac).getD mac 99
  match s.item pos 0x61 with
  | none => .next s
  | some (src, q) =>
    let w := q.data.headD 0
    let p := bits 0 8 w / 32
    let k := bits 0 8 w % 32
    let n := bits 8 11 w
    let ack := bitOf 31 w
    let r0 : DlReq := ⟨k, w / 2 ^ 32, src, ack, [], 0, none, 0⟩
    let s := s.taken pos 0x61
    let lim := (if ack then s.get (rpBase p) Rg.RP_STAT.MAXPSDU_A else s.get (rpBase p) Rg.RP_STAT.MAXPSDU_B) - 22
    if p / 2 ≠ mac then .next s
    else if !s.flag (macBase p) Rg.FR_STAT.RUN then .next (s.dlDone p r0 5)
    else if s.entState p k ≠ 3 then .next (s.dlDone p r0 2)
    else if lim < n then .next (s.dlDone p r0 3)
    else if 4 ≤ ((s.mac p).reqs.filter (fun r => r.k == k)).length then .next (s.dlDone p r0 4)
    else
      let m := s.memRead (s.slotAddr src pos (bits 19 12 w)) n
      match m.2 with
      | none => .next (m.1.poisonDrop pos (s.slotAddr src pos (bits 19 12 w)))
      | some pl => .next (m.1.setMac p { m.1.mac p with reqs := (m.1.mac p).reqs ++ [{ r0 with payload := pl }] })

/-- KEY_ROTATE_APPLY: at the slotframe boundary after a committed replacement the lane takes the new key (R368). -/
def execKeyRotateApply (p : Nat) (s : State) : Host.Outcome State Fault Refusal :=
  if p < 8 ∧ s.asn % 10 = 0 ∧ s.slotPhase < 5 then .next (s.keyRotate p) else .next s

/-- A step of the time scale: each lane ends its slot, aborts its frames and sends nothing for 1 ms (R356). -/
def State.radioStepped (s : State) : State :=
  { s with radio := { s.radio with lanes := s.radio.lanes.map (fun l =>
    { l with stopped := false, cut := none, slot := none, agreed := [], pend := [], sent := [], shr := none,
             silent := s.nowNs + 1000000 }) } }

/-- A lane's instants moved with the label of the scale (R146). -/
def MacLane.shift (l : MacLane) (off : Int) : MacLane :=
  let f := fun t : Nat => ((t : Int) + off).toNat
  let air := fun x : AirFrame => { x with at_ := f x.at_ }
  { l with silent := f l.silent, joins := l.joins.map (fun j => { j with at_ := f j.at_, since := f j.since }),
           agreed := l.agreed.map (fun x => (x.1, f x.2.1, f x.2.2)), pend := l.pend.map air, sent := l.sent.map air,
           shr := l.shr.map f, cut := none, slot := none }

/-- What a new era label does to the lanes and the correction buffers. -/
def State.radioRelabel (s : State) (off : Int) : State :=
  { s with radio := { s.radio with lanes := s.radio.lanes.map (·.shift off),
                                   corr := s.radio.corr.map (fun c => { c with at_ := ((c.at_ : Int) + off).toNat }) } }

/-- Every lane and port disabled, every entry, cell and counter at its reset value (R375). -/
def State.radioOff (s : State) : State :=
  let inRadio := fun a => (decide (bRadio ≤ a ∧ a < bRadio + 0x1_0000)) ||
    (tilePositions .mac).any (fun q => decide (tileBase q ≤ a ∧ a < tileBase q + 0x4000))
  let t := { s with radio := ⟨List.replicate 8 .off, [], []⟩ }
  (t.clearCells (fun k => inRadio (keyAddr k))).set bMpc Rg.FS_PORT.ACTIVE 0

end Sys2Proof.Machine
end

