-- ==== Sys2Proof/Machine/Tracks.lean ====
section
/-! DEFINITION. Tracks, coverage and tasks (R396–R422). Machine M is lane M mod 64 of TRK(M / 64) and entry M mod 32 of port
M / 32 (R396). -/

namespace Sys2Proof.Machine

/-- The position of TRK tile `t`. -/
def trkPos (t : Nat) : Nat := (tilePositions .trk).getD t 99
/-- The register base of TRK tile `t`. -/
def trkBase (t : Nat) : Nat := kindBase .trk t
/-- The register base of machine `m`'s lane. -/
def tmBase (m : Nat) : Nat := laneBase .trk 0x80 m
/-- The home (R397). -/
def State.trkHome (s : State) : Option Nat := (List.range 4).find? (fun t => s.instanced (trkPos t))
/-- The register base of the home; that of TRK0 where no tile is instanced. -/
def State.homeBase (s : State) : Nat := trkBase (s.trkHome.getD 0)
/-- Whether TRK tile `t` is enabled. -/
def State.trkOn (s : State) (t : Nat) : Bool := decide (t < 4) && s.flag (trkBase t) Rg.TK_CTRL.EN
/-- A lane beside its registers. -/
def State.mach (s : State) (m : Nat) : TrkLane := lookupD .off m s.tracks.lanes
/-- A lane replaced. -/
def State.setMach (s : State) (m : Nat) (l : TrkLane) : State :=
  { s with tracks := { s.tracks with lanes := assocSet m l s.tracks.lanes } }
/-- An event of TRK tile `t`. -/
def State.tkEvent (s : State) (t : Nat) (f : Fld) : State := s.event (tileEv (trkPos t)) (trkBase t) f
/-- An event of machine `m`'s lane. -/
def State.tmEvent (s : State) (m : Nat) (f : Fld) : State := s.event (tileEv (trkPos (m / 64))) (tmBase m) f
/-- An event of the home. -/
def State.homeEvent (s : State) (f : Fld) : State := s.tkEvent (s.trkHome.getD 0) f
/-- TM_STAT.STATE. -/
def State.tmState (s : State) (m : Nat) : Nat := s.get (tmBase m) Rg.TM_STAT.STATE
/-- TM_STAT.STATE set. -/
def State.setTm (s : State) (m st : Nat) : State := s.set (tmBase m) Rg.TM_STAT.STATE st
/-- Whether a machine's entry is JOINED. -/
def State.machJoined (s : State) (m : Nat) : Bool := s.entState (m / 32) (m % 32) == 3
/-- Word `i` of a machine's capability record (R371). -/
def State.cap (s : State) (m i : Nat) : Nat := s.get (entBase (m / 32) (m % 32) + i * 8) Rg.MCAP.CAP
/-- WIDTH of a machine's capability record, in mm. -/
def State.implWidth (s : State) (m : Nat) : Nat := bits 0 16 (s.cap m 2)
/-- SECTIONS of a machine's capability record. -/
def State.sections (s : State) (m : Nat) : Nat := bits 48 8 (s.cap m 0)
/-- A lane's T_MARGIN in ns. -/
def State.margin (s : State) (m : Nat) : Nat := max (s.get (trkBase (m / 64)) Rg.TK_CFG.T_MARGIN) 1 * 1000000
/-- A lane's LOOK in mm. -/
def State.look (s : State) (m : Nat) : Nat := max (s.get (trkBase (m / 64)) Rg.TK_CFG.LOOK) 10 * 1000
/-- A number of 32 bits of a byte string, signed. -/
def s32At (l : List Byte) (o : Nat) : Int := sgn 32 (leAt l o 4)

/-! ### Frames to the machine (R366, R419) -/

/-- Frames of a lane sent while its machine is JOINED, fewer than four are under way and the ring has a slot. -/
def trkPump (m : Nat) : Nat → State → State
  | 0, s => s
  | f + 1, s =>
    let l := s.mach m
    let src := trkPos (m / 64)
    let dst := macPos (m / 32)
    match l.out with
    | [] => s
    | d :: t =>
      if 4 ≤ l.way.length ∨ !s.machJoined m then s
      else match s.takeSlot src dst with
        | none => s
        | some (u, slot) =>
          let tag := (m % 32 + l.serial * 32) % 2 ^ 32
          let u := (u.memWrite (s.slotAddr src dst slot) d.payload).1
          let u := u.emit src dst 0x61 0 0 (m / 32 % 2)
            [m % 256 + d.payload.length % 2048 * 2 ^ 8 + slot % 4096 * 2 ^ 19 + 2 ^ 31 + tag * 2 ^ 32]
          trkPump m f (u.setMach m { l with out := t, way := l.way ++ [(tag, d)], serial := l.serial + 1 })

/-- Frames given to a lane to send. -/
def State.trkSend (s : State) (m : Nat) (fs : List DlFrame) : State :=
  let l := s.mach m
  let t := s.setMach m { l with out := l.out ++ fs }
  trkPump m (t.mach m).out.length t

/-- The TAG bytes of a message: the handle of the task in service. -/
def TrkLane.tag4 (l : TrkLane) : List Byte := leBytes 4 ((l.task.map (fun t => t.handle)).getD 0)

/-- A CONTROL message: 0 PAUSE, 1 RESUME, 2 ABORT, with T0 and REMAIN. -/
def controlMsg (l : TrkLane) (op t0 remain : Nat) : List Byte :=
  leBytes 1 0x13 ++ l.tag4 ++ leBytes 1 op ++ leBytes 8 t0 ++ leBytes 4 remain

/-- A CONTROL frame sent. -/
def State.sendControl (s : State) (m op : Nat) (must : Bool) : State :=
  let l := s.mach m
  let t0 := (l.plans.head?.map (fun p => p.at_)).getD 0
  let rm := pat 32 (l.remain.getD 0)
  s.trkSend m [⟨controlMsg l op (if op = 1 then t0 else 0) (if op = 1 then rm else 0), must⟩]

/-- Profile `j` as TK_PROFV and TK_PROFA give it. -/
def State.profile (s : State) (t j : Nat) : Prof :=
  let b := trkBase t + j * 0x10
  ⟨s.get b Rg.TK_PROFV.V_START, s.get b Rg.TK_PROFV.V_STOP, s.get b Rg.TK_PROFV.V_KNEE, s.get b Rg.TK_PROFV.V_MAX,
   s.get b Rg.TK_PROFA.A1, s.get b Rg.TK_PROFA.A2, s.get b Rg.TK_PROFA.D1, s.get b Rg.TK_PROFA.D2⟩

/-- A profile with each speed reduced to at most the machine's VMAX_FWD, or VMAX_REV for a REV move (R402). -/
def State.reduced (s : State) (m : Nat) (rev : Bool) (p : Prof) : Prof :=
  let v := if rev then bits 32 16 (s.cap m 0) else bits 16 16 (s.cap m 0)
  { p with vs := min p.vs v, ve := min p.ve v, vk := min p.vk v, vm := min p.vm v }

/-- The profile of a lane's task, as reduced for a move. -/
def State.taskProfile (s : State) (m : Nat) (rev : Bool) : Prof :=
  s.reduced m rev (s.profile (m / 64) (((s.mach m).task.map (fun t => t.prof)).getD 0))

/-- The two profile words of a TASK message. -/
def profBytes (p : Prof) : List Byte :=
  leBytes 2 p.vs ++ leBytes 2 p.ve ++ leBytes 2 p.vk ++ leBytes 2 p.vm ++
  leBytes 2 p.a1 ++ leBytes 2 p.a2 ++ leBytes 2 p.d1 ++ leBytes 2 p.d2

/-- The TASK message. -/
def State.taskMsg (s : State) (m : Nat) (t : TrkTask) : List Byte :=
  let l := s.mach m
  let pl := l.plans.head?
  leBytes 1 0x10 ++ l.tag4 ++ leBytes 1 t.kind ++ leBytes 1 t.layer ++ leBytes 2 t.nseg ++
  leBytes 4 (pat 32 t.e0) ++ leBytes 4 (pat 32 t.n0) ++ leBytes 8 ((pl.map (fun p => p.at_)).getD 0) ++
  profBytes (s.taskProfile m ((pl.map (fun p => p.rev)).getD false))

/-- A segment record (R401). -/
def segBytes (g : TrkSeg) : List Byte :=
  leBytes 4 (pat 32 g.e1) ++ leBytes 4 (pat 32 g.n1) ++ leBytes 4 (pat 32 g.rad) ++ leBytes 1 g.flg ++ leBytes 3 0

/-- The largest payload of a frame to machine `m` (R419). -/
def State.maxPayload (s : State) (m : Nat) : Nat := s.get (rpBase (m / 32)) Rg.RP_STAT.MAXPSDU_A - 22

/-- SEGS frames queued until the segments given reach S + LOOK (R419). -/
def State.giveSegs (s : State) (m sNow : Nat) (must : Bool) : Nat → State
  | 0 => s
  | f + 1 =>
    let l := s.mach m
    let n := min (min 4 ((s.maxPayload m - 8) / 16)) (l.segs.length - l.given)
    match l.segs[l.given]? with
    | none => s
    | some g =>
      if n = 0 ∨ sNow + s.look m < g.s0 then s
      else
        let gs := (l.segs.drop l.given).take n
        let p := leBytes 1 0x11 ++ l.tag4 ++ leBytes 2 l.given ++ leBytes 1 n ++ (gs.map segBytes).flatten
        ((s.setMach m { l with given := l.given + n }).trkSend m [⟨p, must⟩]).giveSegs m sNow must f

/-! ### Planning and reservations (R403, R412–R415) -/

/-- Consecutive moves planned, each from the end of the one before. -/
def State.planMoves (s : State) (m : Nat) : Nat → List (Nat × Nat × Bool) → List MovePlan
  | _, [] => []
  | t0, (s0, len, rev) :: t =>
    let p := s.taskProfile m rev
    let pl : MovePlan := ⟨t0, s0, len, rev, phasesFrom p s0 (startW p len) len⟩
    pl :: s.planMoves m (t0 + pl.dur * 1000) t

/-- The moves still to be made: all of the task, or from the halt point (R410, R411). -/
def TrkLane.movesLeft (l : TrkLane) : List (Nat × Nat × Bool) :=
  let ms := movesOf l.segs
  if l.resume then
    match l.plans with
    | [] => []
    | p :: _ =>
      let e := p.s0 + p.len
      let rest := ms.filter (fun q => decide (e ≤ q.1))
      match l.remain with
      | some r => if r ≤ 0 then rest else (((e : Int) - r).toNat, r.toNat, p.rev) :: rest
      | none => rest
  else ms

/-- The reservation of the part of a segment from S on, with its window (R414). -/
def State.segResv (s : State) (m : Nat) (plans : List MovePlan) (from_ : Nat) (g : TrkSeg) : Option Resv :=
  match plans.find? (fun p => decide (p.s0 ≤ max g.s0 from_ ∧ max g.s0 from_ < p.s0 + p.len)) with
  | none => none
  | some p =>
    let a := max g.s0 from_ - g.s0
    let q := (g.at_ a).1
    let e0 := if a = 0 then g.e0 else roundDiv q.1 fxOne
    let n0 := if a = 0 then g.n0 else roundDiv q.2 fxOne
    let c2 := ((g.e1 - e0) * (g.e1 - e0) + (g.n1 - n0) * (g.n1 - n0)).toNat
    let r := g.rad.natAbs
    let sag := if g.rad = 0 then 0 else 2 * r - sqrtRnd 62 ((4 * r * r - c2 : Nat) : Rat)
    let half2 := s.implWidth m + 2 * s.get (trkBase (m / 64)) Rg.TK_CFG.CLEAR + sag
    let t0 := p.at_ + p.timeAt (g.s0 + a : Nat) * 1000
    let t1 := p.at_ + p.timeAt (g.s0 + g.len : Nat) * 1000
    some ⟨0, m, e0, n0, g.e1, g.n1, half2, t0 - s.margin m, t1 + s.margin m, false, false⟩

/-- The rectangles a lane's plan needs. -/
def State.resvOf (s : State) (m : Nat) : List Resv :=
  let l := s.mach m
  let from_ := (l.plans.head?.map (fun p => p.s0)).getD 0
  (l.segs.filter (fun (g : TrkSeg) => decide (from_ < g.s0 + g.len))).filterMap (s.segResv m l.plans from_)

/-- A lane plans with T0 := now + LEAD and asks for its reservations; a tile whose origin has changed makes no plan (R400). -/
def State.planLane (s : State) (m : Nat) : State :=
  if s.tracks.frozen.contains (m / 64) then s
  else
    let l := s.mach m
    let t0 := s.nowNs + max (s.get (trkBase (m / 64)) Rg.TK_CFG.LEAD) 1 * 1000000
    let ms := s.planMoves m t0 l.movesLeft
    let pl := if ms = [] then [⟨t0, (l.plans.head?.map (fun p => p.s0 + p.len)).getD 0, 0, false, []⟩] else ms
    s.setMach m { l with plans := pl, req := true, refused := none }

/-- The table with its number of entries shown. -/
def State.setTable (s : State) (l : List Resv) : State :=
  { s.set s.homeBase Rg.TR_STAT.USED l.length with tracks := { s.tracks with table := l } }

/-- The lowest numbers no entry of the table has. -/
def freeIds (l : List Resv) (n : Nat) : List Nat :=
  ((List.range (l.length + n)).filter (fun i => !l.any (fun r => r.id == i))).take n

/-- The outcome of a request: 0 accepted, 1 CONFLICT with an entry, 2 FULL. -/
def State.tryReserve (s : State) (rs : List Resv) : State × Nat × Option Resv :=
  let tab := s.tracks.table
  match tab.find? (fun e => rs.any (fun r => r.conflicts e)) with
  | some e => (s, 1, some e)
  | none =>
    if 65536 < tab.length + rs.length then (s, 2, none)
    else
      let ids := freeIds tab rs.length
      (s.setTable (tab ++ (rs.zip ids).map (fun p => { p.1 with id := p.2 })), 0, none)

/-- A refused request counted and shown; 2 is FULL (R413). -/
def State.refusedResv (s : State) (r : Nat) : State :=
  let t := (s.count s.homeBase Rg.TK_CNT.CONFLICT 1).homeEvent Rg.TK_EVT.CONFLICT
  if r = 2 then t.homeEvent Rg.TK_EVT.TABLE_FULL else t

/-- A lane whose request is accepted enters SENT: the frames it must deliver are sent (R406, R411). -/
def State.accepted (s : State) (m : Nat) : State :=
  let l := s.mach m
  match l.task with
  | none => s
  | some t =>
    let sNow := (l.plans.head?.map (fun p => p.s0)).getD 0
    let whole := !l.resume || l.rejoin
    let first := if l.resume then ((segAt l.segs sNow).map (fun g => g.1)).getD 0 else 0
    let u := (s.setMach m { l with req := false, refused := none, given := if whole then first else l.given }).setTm m 3
    let u := u.set (tmBase m) Rg.TM_T0.AT ((l.plans.head?.map (fun p => p.at_)).getD 0)
    let u := if whole then (u.trkSend m [⟨u.taskMsg m t, true⟩]).giveSegs m sNow true l.segs.length else u
    let u := if l.resume then u.sendControl m 1 true else u
    u.setMach m { u.mach m with rejoin := false }

/-- A lane's request checked by the home (R413, R415): accepted or refused as a whole. -/
def State.reserveLane (s : State) (m : Nat) : State :=
  let l := s.mach m
  if !l.req ∨ s.tmState m ≠ 2 ∨ s.tracks.frozen.contains (m / 64) then s
  else if bitOf 0 ((l.task.map (fun t => t.flags)).getD 0) then s.accepted m
  else
    let old := (s.tracks.table.filter (fun e => e.owner == m && (e.held || e.park))).map (fun e => e.id)
    match s.tryReserve (s.resvOf m) with
    | (t, 0, _) => (t.setTable (t.tracks.table.filter (fun e => !old.contains e.id))).accepted m
    | (t, r, _) =>
      let t := t.setMach m { l with req := false, refused := some t.nowNs }
      (t.refusedResv r).tmEvent m Rg.TM_EVT.WAIT_RES

/-- RESERVATION_REQUEST: the request of machine `mach`'s lane reaches the home. -/
def execReservationRequest (mach : Nat) (s : State) : Host.Outcome State Fault Refusal :=
  if mach < 256 then .next (s.reserveLane mach) else .next s

/-- RESERVATION_RETRY: 100 ms after a refusal the lane plans a new T0 and asks again. -/
def execReservationRetry (mach : Nat) (s : State) : Host.Outcome State Fault Refusal :=
  match (s.mach mach).refused with
  | some a => if mach < 256 ∧ s.tmState mach = 2 ∧ a + 100000000 ≤ s.nowNs then .next (s.planLane mach) else .next s
  | none => .next s

/-- RESERVATION_EXPIRE: an entry whose T_END has passed and that is not held is freed (R415). -/
def execReservationExpire (id : Nat) (s : State) : Host.Outcome State Fault Refusal :=
  .next (if s.tracks.table.any (fun e => e.id == id && !e.held && decide (e.till ≤ s.nowNs)) then
    s.setTable (s.tracks.table.filter (fun e => e.id != id)) else s)

/-! ### Lane states (R406–R411) -/

/-- Whether a machine may be given work: JOINED and its last beacon bit set (R406). -/
def State.machReady (s : State) (m : Nat) : Bool := s.machJoined m && s.flag (tmBase m) Rg.TM_STAT.PERMIT

/-- Whether the last accepted report lies more than START_TOL from the task's start point. -/
def State.offStart (s : State) (m : Nat) (t : TrkTask) : Bool :=
  match (s.mach m).last with
  | none => false
  | some r =>
    let d := s.get (trkBase (m / 64)) Rg.TK_CFG.START_TOL * 10
    decide (((d * d : Nat) : Int) < (r.e - t.e0) * (r.e - t.e0) + (r.n - t.n0) * (r.n - t.n0))

/-- A lane enters HOLD with its causes: bit 0 DEP_CANCELLED, bit 1 off start. -/
def State.holdLane (s : State) (m cause : Nat) : State :=
  ((s.setTm m 7).set (tmBase m) Rg.TM_STAT.HOLD_CAUSE cause).tmEvent m Rg.TM_EVT.HOLD

/-- A lane in WAIT_MACH goes on when its machine may be given work: to HOLD if the task's dependences were cancelled or the machine is
off start, else to WAIT_RES. -/
def State.leaveWait (s : State) (m : Nat) : State :=
  let l := s.mach m
  match l.task with
  | none => s
  | some t =>
    if s.tmState m ≠ 1 ∨ !s.machReady m ∨ l.abortAt.isSome then s
    else if l.depCan ∨ s.offStart m t then s.holdLane m (b2n l.depCan + 2 * b2n (s.offStart m t))
    else (s.setTm m 2).planLane m

/-- A task ends through ENDING (R407, R408, R415): its reservations are freed, the park reservation is made, and its entry
completes. -/
def State.endTask (s : State) (m : Nat) (aborted : Bool) : State :=
  let l := s.mach m
  match l.task with
  | none => s
  | some t =>
    let tab := s.tracks.table.filter (fun e => e.owner != m || e.park)
    let half2 := s.implWidth m + 2 * s.get (trkBase (m / 64)) Rg.TK_CFG.CLEAR
    let s := s.setTable (match l.last with
      | none => tab
      | some r => if bitOf 0 t.flags ∨ 65536 ≤ tab.length then tab
        else tab.filter (fun e => e.owner != m) ++
          [⟨(freeIds tab 1).headD 0, m, r.e, r.n, r.e, r.n, half2, s.nowNs, 2 ^ 64 - 1, false, true⟩])
    let s := s.setMach m { TrkLane.off with last := l.last, out := l.out.filter (fun f => !f.must), way := l.way, serial := l.serial }
    let s := s.sets (tmBase m) [(Rg.TM_STAT.STATE, 0), (Rg.TM_STAT.HOLD_CAUSE, 0), (Rg.TM_STAT.HANDLE, 0), (Rg.TM_STAT.SEG, 0),
      (Rg.TM_DONE.HANDLE, t.handle), (Rg.TM_DONE.STATUS, b2n aborted)]
    (s.tileDone t.handle).tmEvent m Rg.TM_EVT.DONE

/-- A lane in RUN stops (R410, R415): its begun reservations become held, those not yet begun are freed, and the machine is told
to pause. -/
def State.pauseLane (s : State) (m : Nat) : State :=
  if s.tmState m ≠ 4 then s
  else
    let tab := (s.tracks.table.filter (fun e => e.owner != m || e.park || decide (e.from_ ≤ s.nowNs))).map (fun e =>
      if e.owner = m ∧ !e.park then { e with held := true, till := 2 ^ 64 - 1 } else e)
    let s := (s.setTable tab).setMach m { s.mach m with remain := none, resume := false }
    let s := ((s.setTm m 5).set (tmBase m) (Rg.TM_PROG.REMAIN) 0xFFFFFFFF).tmEvent m Rg.TM_EVT.PAUSED
    s.sendControl m 0 false

/-- A paused lane plans the rest of its move, when it may (R411). -/
def State.resumeLane (s : State) (m : Nat) : State :=
  let l := s.mach m
  if s.tmState m ≠ 5 ∨ l.remain.isNone ∨ l.abortAt.isSome ∨ !s.machReady m ∨ s.flag bMpc Rg.FS_STAT.LATCHED ∨
      s.mode = .maintenance then s
  else ((s.setMach m { l with resume := true }).setTm m 2).planLane m

/-- The level conditions of R409 for a lane in RUN, with AUTO_RESUME for a paused one. -/
def State.levels (s : State) (m : Nat) : State :=
  let s := if !s.machJoined m ∧ (s.mach m).task.isSome then s.setMach m { s.mach m with rejoin := true } else s
  let s := if s.tmState m = 4 ∧ (s.flag bMpc Rg.FS_STAT.LATCHED ∨ !s.machReady m ∨ s.tracks.frozen.contains (m / 64)) then
      s.pauseLane m else s
  if s.flag (tmBase m) Rg.TM_CFG.AUTO_RESUME then s.resumeLane m else s

/-- Whether machine `m` has a lane that acts: its tile enabled, its lane enabled. -/
def State.trkLaneOn (s : State) (m : Nat) : Bool := decide (m < 256) && s.trkOn (m / 64) && s.laneOn (trkPos (m / 64)) (m % 64)

/-- A write of an action register of a lane. -/
def State.laneWrite (s : State) (w : Master) (m off : Nat) (f : State → State) : State :=
  s.tileWrite w (trkPos (m / 64)) (m % 64) (0x1000 + m % 64 * 0x80 + off) (fun t => if t.trkLaneOn m then f t else t)

/-- TASK_PAUSE: TM_CTRL.PAUSE written by a master, or one of the levels of R409 has changed. -/
def execTaskPause (by_ : Option Master) (mach : Nat) (s : State) : Host.Outcome State Fault Refusal :=
  match by_ with
  | some w => .next (s.laneWrite w mach 8 (fun t => t.pauseLane mach))
  | none => .next (if s.trkLaneOn mach then s.levels mach else s)

/-- RESUME of a lane: from HOLD to WAIT_MACH, where cancelled dependences no longer hold it back, or the resume of R411. -/
def State.resumeWrite (s : State) (m : Nat) : State :=
  if s.tmState m = 7 then
    (((s.setTm m 1).set (tmBase m) Rg.TM_STAT.HOLD_CAUSE 0).setMach m { s.mach m with depCan := false }).leaveWait m
  else s.resumeLane m

/-- TASK_RESUME: TM_CTRL.RESUME written by a master, or AUTO_RESUME acts. -/
def execTaskResume (by_ : Option Master) (mach : Nat) (s : State) : Host.Outcome State Fault Refusal :=
  match by_ with
  | some w => .next (s.laneWrite w mach 8 (fun t => t.resumeWrite mach))
  | none => .next (if s.trkLaneOn mach ∧ s.flag (tmBase mach) Rg.TM_CFG.AUTO_RESUME then s.resumeLane mach else s)

/-- ABORT of a lane (R406, R408): ignored in IDLE; a task in HOLD ends at once. -/
def State.abortLane (s : State) (m : Nat) : State :=
  let st := s.tmState m
  if st = 0 ∨ (s.mach m).abortAt.isSome then s
  else if st = 7 then s.endTask m true
  else
    let t := s.setMach m { s.mach m with abortAt := some s.nowNs, req := false, refused := none }
    t.sendControl m 2 false

/-- TASK_ABORT: TM_CTRL.ABORT written. -/
def execTaskAbort (m : Master) (mach : Nat) (s : State) : Host.Outcome State Fault Refusal :=
  .next (s.laneWrite m mach 8 (fun t => t.abortLane mach))

/-- ABORT_TIMEOUT: no HALTED report for 5 s after ABORT. -/
def execAbortTimeout (mach : Nat) (s : State) : Host.Outcome State Fault Refusal :=
  match (s.mach mach).abortAt with
  | some a => if mach < 256 ∧ a + 5000000000 ≤ s.nowNs then .next (s.endTask mach true) else .next s
  | none => .next s

/-- What a lane's levels bring about as soon as they hold (R406, R409, R411), and frames that wait for the machine or a ring slot. -/
def State.laneActs (s : State) (m : Nat) : State :=
  if s.trkLaneOn m then
    let t := (s.levels m).leaveWait m
    trkPump m (t.mach m).out.length t
  else s

/-- The same for every lane that has a task or frames. -/
def State.tracksDue (s : State) : State :=
  (s.tracks.lanes.filter (fun p => p.2.task.isSome || p.2.out != [])).foldl (fun t p => t.laneActs p.1) s

/-- The bitmap of the present slot 0 of port `p`: that of its beacon, 0 while none has been sent (R409). -/
def State.permitSent (s : State) (p : Nat) : Nat :=
  match (s.mac p).sent.find? (fun f => f.act == .beacon && s.slotStart f.at_ == s.slotStart s.nowNs) with
  | some f => leAt f.bytes 15 4
  | none => 0

/-- PERMIT_BITMAP: the lane of port `p` gives its TRK tile the bitmap of a slot 0, which is 0 where no beacon was sent (R409); the
beacon's instant has come. -/
def execPermitBitmap (p : Nat) (s : State) : Host.Outcome State Fault Refusal :=
  if 8 ≤ p ∨ s.asn % 10 ≠ 0 ∨ s.slotPhase < 300000 then .next s
  else
    let map := s.permitSent p
    .next ((List.range 32).foldl (fun t k =>
      let m := p * 32 + k
      if t.trkLaneOn m then ((t.setB (tmBase m) Rg.TM_STAT.PERMIT (bitOf k map)).levels m).leaveWait m else t) s)

/-- DOWNLINK_RESULT: the TYPE 0x62 answer handed to TRK tile `trk` (R366). A frame that did not reach the machine is sent again,
except a list of sections, which is made anew, and one that is too long, which can never be sent; the last frame that SENT waits for
puts the lane in RUN. -/
def execDownlinkResult (trk : Nat) (s : State) : Host.Outcome State Fault Refusal :=
  match s.item (trkPos trk) 0x62 with
  | none => .next s
  | some (_, q) =>
    let w := q.data.headD 0
    let tag := bits 0 32 w
    let m := trk * 64 + pktLane q.lw % 2 * 32 + tag % 32
    let s := s.taken (trkPos trk) 0x62
    let l := s.mach m
    match l.way.find? (fun p => p.1 == tag) with
    | none => .next s
    | some (_, d) =>
      let ok := bits 32 4 w == 0
      let sw := leAt d.payload 0 1 == 0x12
      let never := bits 32 4 w == 3
      let l' := { l with way := if never && d.must then l.way else l.way.filter (fun p => p.1 != tag),
                         out := if ok || sw || never then l.out else d :: l.out,
                         list := if sw && !ok then [] else l.list }
      let t := s.setMach m l'
      let t := trkPump m (t.mach m).out.length t
      let l := t.mach m
      .next (if t.tmState m = 3 ∧ !l.out.any (fun f => f.must) ∧ !l.way.any (fun p => p.2.must) then t.setTm m 4 else t)

/-! ### Tiles (R397, R398, R400, R420) -/

/-- Whether the area of `n` bytes at `a` lies in the fitted DDR. -/
def State.inDdr (s : State) (a n : Nat) : Bool := decide (ddrBase ≤ a ∧ a + n ≤ ddrBase + s.ddrSize)

/-- Whether the home's own areas are valid. -/
def State.homeAreas (s : State) (b : Nat) : Bool :=
  let nx := s.get b Rg.CV_GEOM.NX + 1
  let ny := s.get b Rg.CV_GEOM.NY + 1
  let cs := s.get b Rg.CV_GEOM.CS
  s.get b Rg.TR_AREA.ADDR % 64 == 0 && s.inDdr (s.get b Rg.TR_AREA.ADDR) 0x30_0000 &&
  decide (nx * ny ≤ 2 ^ 28 ∧ 100 ≤ cs ∧ cs ≤ 1000) && s.inDdr (s.get b Rg.CV_AREA.ADDR) (nx * ny)

/-- The first reason to refuse the enable of a TRK tile (R398). -/
def State.trkRefusal (s : State) (t : Nat) : Nat :=
  let p := trkPos t
  let b := trkBase t
  let mac := (tilePositions .mac).getD t 99
  let home := s.trkHome.getD t
  if !s.linked p 83 ∨ !s.linked p posDsp ∨ !s.linked p mac ∨ (home ≠ t ∧ !s.linked p (trkPos home)) then 1
  else if (match s.encoder with | some i => s.get (obBase i) Rg.OB_SV_STAT.STATE != 3 | none => true) then 2
  else if s.get b Rg.TK_AREA.ADDR % 64 ≠ 0 ∨ !s.inDdr (s.get b Rg.TK_AREA.ADDR) (s.get b Rg.TK_AREA.COUNT * 64) ∨
      (home = t ∧ !s.homeAreas b) then 3
  else 0

/-- IODS of the encoder. -/
def State.iods (s : State) : Nat := match s.encoder with | some i => s.get (obBase i) Rg.OB_SV_STAT.IODS | none => 0

/-- A TRK tile enabled or refused. -/
def State.trkEnable (s : State) (t : Nat) : State :=
  let b := trkBase t
  if s.flag b Rg.TK_CTRL.EN then s
  else
    let r := s.trkRefusal t
    if r = 0 then
      s.sets b [(Rg.TK_CTRL.EN, 1), (Rg.TK_STAT.RUN, 1), (Rg.TK_STAT.REFUSE, 0), (Rg.TK_STAT.HOME, b2n (s.trkHome == some t)),
        (Rg.TK_STAT.IODS, s.iods)]
    else (s.set b Rg.TK_STAT.REFUSE r).tkEvent t Rg.TK_EVT.REFUSED

/-- A write of an action register of a TRK tile. -/
def State.trkWrite (s : State) (m : Master) (t off : Nat) (f : State → State) : State :=
  s.tileWrite m (trkPos t) 0 off f

/-- TK_ENABLE: TK_CTRL.EN written 1. -/
def execTkEnable (m : Master) (trk : Nat) (s : State) : Host.Outcome State Fault Refusal :=
  if trk < 4 then .next (s.trkWrite m trk 0x10 (fun t => t.trkEnable trk)) else .next s

/-- A TRK tile disabled: every task of its lanes ends as by ABORT (R400). -/
def State.trkDisable (s : State) (t : Nat) : State :=
  let b := trkBase t
  if !s.flag b Rg.TK_CTRL.EN then s
  else
    let s := (List.range 64).foldl (fun u l =>
      let m := t * 64 + l
      if u.tmState m = 0 then u else (if u.tmState m = 7 then u else u.sendControl m 2 false).endTask m true) s
    let s := s.sets b [(Rg.TK_CTRL.EN, 0), (Rg.TK_STAT.RUN, 0)]
    { s with tracks := { s.tracks with frozen := s.tracks.frozen.filter (· != t), subs := s.tracks.subs.filter (fun p => p.1 != t) } }

/-- TK_DISABLE: TK_CTRL.EN written 0. -/
def execTkDisable (m : Master) (trk : Nat) (s : State) : Host.Outcome State Fault Refusal :=
  if trk < 4 then .next (s.trkWrite m trk 0x10 (fun t => t.trkDisable trk)) else .next s

/-- Every lane of a tile in RUN paused. -/
def State.pauseTile (s : State) (t : Nat) : State := (List.range 64).foldl (fun u l => u.pauseLane (t * 64 + l)) s

/-- ORIGIN_CHANGE: IODS differs from the value latched at enable (R400). -/
def execOriginChange (trk : Nat) (s : State) : Host.Outcome State Fault Refusal :=
  if s.trkOn trk ∧ s.iods ≠ s.get (trkBase trk) Rg.TK_STAT.IODS ∧ !s.tracks.frozen.contains trk then
    let t := (s.tkEvent trk Rg.TK_EVT.ORIGIN_CHG).pauseTile trk
    .next { t with tracks := { t.tracks with frozen := t.tracks.frozen ++ [trk] } }
  else .next s

/-- A change of mode (R420): in MAINTENANCE every RUN task is paused. -/
def State.tracksMode (s : State) (md : Mode) : State :=
  if md = .maintenance then (List.range 4).foldl (fun t i => t.pauseTile i) s else s

/-- The TRK tiles off: lanes, table and registers lost (R420). -/
def State.tracksOff (s : State) : State :=
  let here := fun a => (tilePositions .trk).any (fun q => decide (tileBase q ≤ a ∧ a < tileBase q + 0x4000))
  { s.clearCells (fun k => here (keyAddr k)) with tracks := ⟨[], [], [], []⟩ }

/-- An instant in ns moved by a step. -/
def movedBy (ofs : Int) (a : Nat) : Nat := ((a : Int) + ofs).toNat

/-- A lane's plans moved by a step. -/
def TrkLane.moved (ofs : Int) (l : TrkLane) : TrkLane :=
  { l with plans := l.plans.map (fun p => { p with at_ := movedBy ofs p.at_ }) }

/-- A lane's intervals kept over a change of the scale's label: since a refusal, an ABORT, the last SWITCH frame. -/
def TrkLane.later (ofs : Int) (l : TrkLane) : TrkLane :=
  { l with refused := l.refused.map (movedBy ofs), abortAt := l.abortAt.map (movedBy ofs), swAt := l.swAt.map (movedBy ofs) }

/-- What a new era label does to the TRK tiles (R146): plans and windows are instants on the label and wait for it; intervals go
on. -/
def State.tracksRelabel (s : State) (ofs : Int) : State :=
  { s with tracks := { s.tracks with lanes := s.tracks.lanes.map (fun p => (p.1, p.2.later ofs)) } }

/-- A reservation's window moved by a step; a held T_END is not. -/
def Resv.moved (ofs : Int) (e : Resv) : Resv :=
  { e with from_ := movedBy ofs e.from_, till := if e.held || e.park then e.till else movedBy ofs e.till }

/-- At a step every plan instant and every window moves with the scale (R421). -/
def State.tracksStepped (s : State) (ofs : Int) : State :=
  let lanes := s.tracks.lanes.map (fun p => (p.1, (p.2.moved ofs).later ofs))
  let tr : Tracks := ⟨lanes, s.tracks.table.map (fun e => e.moved ofs), s.tracks.frozen, s.tracks.subs⟩
  lanes.foldl (fun t p => match p.2.plans.head? with
    | some q => if t.tmState p.1 = 0 then t else t.set (tmBase p.1) Rg.TM_T0.AT q.at_
    | none => t) { s with tracks := tr }

/-! ### Profiles (R402, R404) -/

/-- The move a lane in RUN is making, with what the plan gives for now. -/
def State.inMove (s : State) (m : Nat) : Option (MovePlan × Rat × Rat × Int) :=
  if s.tmState m ≠ 4 then none
  else match (s.mach m).plans.find? (fun p => decide (p.at_ ≤ s.nowNs ∧ s.nowNs < p.at_ + p.dur * 1000)) with
    | none => none
    | some p => (planState ((s.nowNs - p.at_) / 1000) p.phs).map (fun q => (p, q.1, q.2.1, q.2.2))

/-- Whether a lane's task uses profile `j`. -/
def TrkLane.uses (l : TrkLane) (j : Nat) : Bool := (l.task.map (fun t => t.prof == j)).getD false

/-- The lanes of a tile whose present move uses a profile. -/
def State.lanesUsing (s : State) (t j : Nat) : List Nat :=
  ((List.range 64).map (fun l => t * 64 + l)).filter (fun m => (s.mach m).uses j && (s.inMove m).isSome)

/-- Whether a lane in its fall would now stop beyond the end of its move (R404). -/
def State.overshoots (s : State) (m : Nat) (p : Prof) : Bool :=
  match s.inMove m with
  | some (mv, x, w, a) =>
    let q := s.reduced m mv.rev p
    decide (a < 0) && decide (((mv.s0 + mv.len : Nat) : Rat) < x + ddec q w (min w ((q.ve * q.ve : Nat) : Rat)))
  | none => false

/-- A lane's present move planned anew from its present planned state (R404). -/
def State.replanMove (s : State) (m : Nat) (p : Prof) : State :=
  match s.inMove m with
  | none => s
  | some (mv, x, w, a) =>
    let q := s.reduced m mv.rev p
    let rest := ((mv.s0 + mv.len : Nat) : Rat) - x
    let mv' := { mv with phs := cutPhases x mv.phs ++ (if a < 0 then holdFrom q x w rest else phasesFrom q x w rest) }
    let l := s.mach m
    s.setMach m { l with plans := l.plans.map (fun y => if y = mv then mv' else y) }

/-- The result of a profile write shown (R402, R404). -/
def State.profResult (s : State) (t r j lane : Nat) : State :=
  let u := s.sets (trkBase t) [(Rg.TK_PRES.RESULT, r), (Rg.TK_PRES.PROFILE, j), (Rg.TK_PRES.LANE, lane)]
  if r = 0 then u else u.tkEvent t Rg.TK_EVT.PROF_REFUSED

/-- A profile that passed its own checks is stored, unless a lane in its fall would overshoot (R404). -/
def State.profStore (s : State) (t j : Nat) (p : Prof) (fs : List (Fld × Nat)) : State :=
  let ls := s.lanesUsing t j
  match ls.find? (fun m => s.overshoots m p) with
  | some m => s.profResult t 3 j (m % 64)
  | none => (ls.foldl (fun u m => u.replanMove m p) (s.sets (trkBase t + j * 0x10) fs)).profResult t 0 j 0

/-- A TK_PROFV value written (R402). -/
def State.profV (s : State) (t j v : Nat) : State :=
  let vs := bits 0 16 v
  let ve := bits 16 16 v
  let vk := bits 32 16 v
  let vm := bits 48 16 v
  if vm = 0 then s.profResult t 1 j 0
  else if vk < vs ∨ vk < ve ∨ vm < vk then s.profResult t 2 j 0
  else s.profStore t j { s.profile t j with vs := vs, ve := ve, vk := vk, vm := vm }
    [(Rg.TK_PROFV.V_START, vs), (Rg.TK_PROFV.V_STOP, ve), (Rg.TK_PROFV.V_KNEE, vk), (Rg.TK_PROFV.V_MAX, vm)]

/-- A TK_PROFA value written (R402). -/
def State.profA (s : State) (t j v : Nat) : State :=
  let a1 := bits 0 16 v
  let a2 := bits 16 16 v
  let d1 := bits 32 16 v
  let d2 := bits 48 16 v
  if a1 = 0 ∨ a2 = 0 ∨ d1 = 0 ∨ d2 = 0 then s.profResult t 1 j 0
  else s.profStore t j { s.profile t j with a1 := a1, a2 := a2, d1 := d1, d2 := d2 }
    [(Rg.TK_PROFA.A1, a1), (Rg.TK_PROFA.A2, a2), (Rg.TK_PROFA.D1, d1), (Rg.TK_PROFA.D2, d2)]

/-- PROFILE_V_WRITE: TK_PROFV `j` of TRK tile `trk` written. -/
def execProfileVWrite (m : Master) (trk j v : Nat) (s : State) : Host.Outcome State Fault Refusal :=
  if trk < 4 ∧ j < 32 then .next (s.trkWrite m trk (0x100 + j * 0x10) (fun t => t.profV trk j v)) else .next s

/-- PROFILE_A_WRITE: TK_PROFA `j` of TRK tile `trk` written. -/
def execProfileAWrite (m : Master) (trk j v : Nat) (s : State) : Host.Outcome State Fault Refusal :=
  if trk < 4 ∧ j < 32 then .next (s.trkWrite m trk (0x108 + j * 0x10) (fun t => t.profA trk j v)) else .next s

/-! ### Submission and dispatch (R405, R406) -/

/-- A TK_SUB value written: the check begins, unless one is in progress. -/
def State.submitTask (s : State) (t v : Nat) : State :=
  let b := trkBase t
  if s.get b Rg.TK_SUBRES.STATUS = 15 then s
  else
    let u := s.sets b [(Rg.TK_SUBRES.STATUS, 15), (Rg.TK_SUBRES.HANDLE, 0)]
    { u with tracks := { u.tracks with subs := u.tracks.subs ++ [(t, v)] } }

/-- TASK_SUBMIT: TK_SUB written. -/
def execTaskSubmit (m : Master) (trk v : Nat) (s : State) : Host.Outcome State Fault Refusal :=
  if trk < 4 then .next (s.trkWrite m trk 0x28 (fun t => t.submitTask trk v)) else .next s

/-- The fields of a task record (R405). -/
def taskOf (handle : Nat) (l : List Byte) : TrkTask :=
  ⟨handle, leAt l 0 1, leAt l 1 1, leAt l 2 1, leAt l 3 1, leAt l 4 2, s32At l 8, s32At l 12, leAt l 16 8, leAt l 24 8⟩

/-- The segments in a byte string of records, each from the end of the one before (R401). -/
def segsOf (e n : Int) (s0 : Nat) : Nat → List Byte → List TrkSeg
  | 0, _ => []
  | k + 1, l =>
    let e1 := s32At l 0
    let n1 := s32At l 4
    let rad := s32At l 8
    let c2 := ((e1 - e) * (e1 - e) + (n1 - n) * (n1 - n)).toNat
    let len := segLen c2 rad
    ⟨e, n, e1, n1, rad, leAt l 12 1, s0, len⟩ :: segsOf e1 n1 (s0 + len) k (l.drop 16)

/-- The first failure of R405's checks of a record and its segments, in the order of the codes. -/
def State.recordCode (s : State) (t : Nat) (raw : List Byte) (k : TrkTask) (track : List Byte) : Nat :=
  let gs := segsOf k.e0 k.n0 0 k.nseg track
  let rsv := (List.range k.nseg).any (fun i => decide (4 ≤ leAt track (i * 16 + 12) 1) || leAt track (i * 16 + 13) 3 != 0)
  if 2 < k.kind ∨ 3 < k.layer ∨ 4 ≤ k.flags ∨ leAt raw 6 2 ≠ 0 ∨ leVal ((raw.drop 32).take 32) ≠ 0 ∨ 1024 < k.nseg ∨
      (k.kind ≠ 2 ∧ (k.track % 16 ≠ 0 ∨ !s.inDdr k.track (k.nseg * 16))) ∨ rsv then 3
  else if (k.kind ≠ 2 ∧ k.nseg = 0) ∨ gs.any (fun g => g.chord2 == 0) ∨ (k.kind = 2 ∧ k.hold = 0) then 4
  else if gs.any (fun g => g.rad != 0 && decide (4 * g.rad.natAbs * g.rad.natAbs < g.chord2)) then 5
  else if 31 < k.prof ∨ (s.profile t k.prof).vm = 0 then 6
  else 0

/-- A task record and its track read from DDR; none when a word is poisoned, which is reported (R490). -/
def State.readTask (s : State) (t index handle : Nat) : State × Option (TrkTask × List Byte × List Byte) :=
  let a := s.get (trkBase t) Rg.TK_AREA.ADDR + index * 64
  match s.memRead a 64 with
  | (s, none) => (s.poisonDrop (trkPos t) a, none)
  | (s, some raw) =>
    let k := taskOf handle raw
    if k.kind = 2 ∨ 1024 < k.nseg ∨ k.track % 16 ≠ 0 ∨ !s.inDdr k.track (k.nseg * 16) then (s, some (k, raw, []))
    else match s.memRead k.track (k.nseg * 16) with
      | (s, none) => (s.poisonDrop (trkPos t) k.track, none)
      | (s, some g) => (s, some (k, raw, g))

/-- The end of a task check: the status, or the entry created (R405). -/
def State.checkTask (s : State) (t v : Nat) : State :=
  let b := trkBase t
  let m := t * 64 + bits 20 6 v
  let flow := s.get (tmBase m) Rg.TM_CFG.TASK_FLOW
  let done (u : State) (c h : Nat) : State := u.sets b [(Rg.TK_SUBRES.STATUS, c), (Rg.TK_SUBRES.HANDLE, h)]
  if s.disp.freeCount 1 = 0 then done (s.busyPool 1) 1 0
  else if s.get b Rg.TK_AREA.COUNT ≤ bits 0 20 v ∨ !s.trkLaneOn m ∨ !s.disp.assigned flow then done s 2 0
  else match s.readTask t (bits 0 20 v) 0 with
    | (u, none) => done u 3 0
    | (u, some (k, raw, g)) =>
      let c := u.recordCode t raw k g
      if c ≠ 0 then done u c 0
      else match u.create (u.disp.flowOf flow).part flow (bits 27 3 v) (bits 0 20 v) (bitOf 26 v) none none with
        | none => done (u.busyPool (u.disp.flowOf flow).part) 1 0
        | some (w, h) => done w 0 h

/-- TASK_SUBMIT_CHECKED: the check of the oldest submission of TRK tile `trk` ends. -/
def execTaskSubmitChecked (trk : Nat) (s : State) : Host.Outcome State Fault Refusal :=
  match s.tracks.subs.find? (fun p => p.1 == trk) with
  | none => .next s
  | some p =>
    .next ({ s with tracks := { s.tracks with subs := s.tracks.subs.erase p } }.checkTask trk p.2)

/-- The machine whose lane consumes a flow, if a TRK tile does. -/
def State.flowMachine (s : State) (flow : Nat) : Option Nat :=
  let r := s.disp.flowOf flow
  match (tilePositions .trk).idxOf? r.consumer with
  | some t => some (t * 64 + r.lane % 64)
  | none => none

/-- A dispatched task occupies its lane (R406). -/
def State.takeTask (s : State) (m : Nat) (e : Entry) : State :=
  let s := s.sets (tmBase m) [(Rg.TM_STAT.HANDLE, e.handle), (Rg.TM_STAT.STATE, 1), (Rg.TM_STAT.SEG, 0)]
  match s.readTask (m / 64) e.tag e.handle with
  | (s, none) => (s.setMach m { s.mach m with task := some ⟨e.handle, 0, 0, 0, 0, 0, 0, 0, 0, 0⟩ }).holdLane m 0
  | (s, some (k, _, g)) =>
    let l : TrkLane := { TrkLane.off with last := (s.mach m).last, out := (s.mach m).out, way := (s.mach m).way,
                                          serial := (s.mach m).serial, task := some k, segs := segsOf k.e0 k.n0 0 k.nseg g, depCan := e.depCan }
    (s.setMach m l).leaveWait m

/-- TASK_DISPATCH: an entry of a lane's task flow that the dispatcher has put in service. -/
def execTaskDispatch (handle : Nat) (s : State) : Host.Outcome State Fault Refusal :=
  match s.disp.find handle with
  | none => .next s
  | some e =>
    match s.flowMachine e.flow with
    | none => .next s
    | some m =>
      .next (if e.st = .inService ∧ s.trkLaneOn m ∧ s.get (tmBase m) Rg.TM_CFG.TASK_FLOW = e.flow ∧ s.tmState m = 0 ∧
          s.mode ≠ .maintenance then s.takeTask m e else s)

/-! ### Reports, coverage and section switching (R407, R409, R416–R419) -/

/-- The fields of a REPORT (R419) whose SHR instant in ns is `shr`. -/
def reportOf (l : List Byte) (shr : Nat) : Report :=
  ⟨shr - leAt l 34 4, s32At l 2, s32At l 6, leAt l 14 2, leAt l 1 1, leAt l 18 4, leAt l 22 4, leAt l 26 8⟩

/-- The direction of travel of a report: along the heading, or against it in reverse. -/
def Report.travel (r : Report) : Int × Int :=
  let h := headingVec r.hdg
  if bitOf 1 r.flg then (-h.1, -h.2) else h

/-- An end of a section's line (R416): `off` mm to the right of the direction of travel `t`, BACK behind a point along the heading
`h`. -/
def lineEnd (p t h : Int × Int) (back off : Int) : Int × Int :=
  (p.1 - back * h.1 + off * t.2, p.2 - back * h.2 - off * t.1)

/-- The lateral offset of the left end of section `i` of `n` (R416). -/
def sectionOff (w n i : Nat) : Int := roundDiv (2 * (i : Int) * w - (w : Int) * n) (2 * n)

/-- The line of section `i` for a report. -/
def State.sectionLine (s : State) (m : Nat) (r : Report) (i : Nat) : (Int × Int) × (Int × Int) :=
  let w := s.implWidth m
  let n := s.sections m
  let back := s.getS (tmBase m) Rg.TM_CFG.BACK
  let p := (fx r.e, fx r.n)
  (lineEnd p r.travel (headingVec r.hdg) back (sectionOff w n i), lineEnd p r.travel (headingVec r.hdg) back (sectionOff w n (i + 1)))

/-- The raster: its address, columns, rows, cell size in mm and its corner. -/
structure Raster where
  addr : Nat
  nx   : Nat
  ny   : Nat
  cs   : Nat
  e0   : Int
  n0   : Int
  deriving DecidableEq, Repr

/-- The raster as the home's registers give it. -/
def State.raster (s : State) : Raster :=
  let b := s.homeBase
  ⟨s.get b Rg.CV_AREA.ADDR, s.get b Rg.CV_GEOM.NX + 1, s.get b Rg.CV_GEOM.NY + 1, s.get b Rg.CV_GEOM.CS,
   s.getS b Rg.CV_ORG.E0, s.getS b Rg.CV_ORG.N0⟩

/-- Whether a position lies in the raster. -/
def Raster.has (g : Raster) (e n : Int) : Bool :=
  decide (g.e0 ≤ e ∧ e < g.e0 + g.nx * g.cs ∧ g.n0 ≤ n ∧ n < g.n0 + g.ny * g.cs)

/-- One cell stepped on a layer: 0 to 1, 1 to 2; 2 and 3 stay (R417). -/
def State.coverCell (s : State) (a layer : Nat) : State :=
  match s.memRead a 1 with
  | (s, none) => s
  | (s, some l) =>
    let b := leVal l
    let c := bits (2 * layer) 2 b
    if c < 2 then (s.memWrite a (leBytes 1 (putBits (2 * layer) 2 b (c + 1)))).1 else s

/-- The cells whose centre section `i` swept between two reports. -/
def State.sweepSection (s : State) (m : Nat) (g : Raster) (layer : Nat) (p r : Report) (i : Nat) : State :=
  let a := s.sectionLine m p i
  let b := s.sectionLine m r i
  let cs := fx g.cs
  let rel (q : Int × Int) : Int × Int := (q.1 - fx g.e0, q.2 - fx g.n0)
  let a0 := rel a.1
  let b0 := rel a.2
  let a1 := rel b.1
  let b1 := rel b.2
  let lo (x y z w : Int) : Nat := (min (min x y) (min z w) / cs).toNat
  let hi (x y z w : Int) : Nat := (max (max x y) (max z w) / cs + 1).toNat
  let i0 := lo a0.1 b0.1 a1.1 b1.1
  let j0 := lo a0.2 b0.2 a1.2 b1.2
  let ni := min g.nx (hi a0.1 b0.1 a1.1 b1.1) - i0
  let nj := min g.ny (hi a0.2 b0.2 a1.2 b1.2) - j0
  (List.range ni).foldl (fun t x => (List.range nj).foldl (fun u y =>
    let c := (cs * (i0 + x : Nat) + cs / 2, cs * (j0 + y : Nat) + cs / 2)
    if swept a0 b0 a1 b1 c then u.coverCell (g.addr + (j0 + y) * g.nx + (i0 + x)) layer else u) t) s

/-- The sweep of a report (R417), or its count in GAP. -/
def State.sweep (s : State) (m : Nat) (r : Report) : State :=
  let l := s.mach m
  match l.task, l.last with
  | some t, some p =>
    if t.kind ≠ 1 ∨ bitOf 1 t.flags ∨ !s.flag s.homeBase Rg.CV_AREA.EN ∨ s.mode = .maintenance then s
    else
      let g := s.raster
      let far := decide ((10000 : Int) * 10000 < (r.e - p.e) * (r.e - p.e) + (r.n - p.n) * (r.n - p.n))
      let late := decide (p.at_ + 1000000000 < r.at_ ∨ r.at_ + 1000000000 < p.at_)
      if far || late || !bitOf 2 r.flg || !bitOf 2 p.flg || !g.has p.e p.n || !g.has r.e r.n then
        s.count s.homeBase Rg.TK_CNT.GAP 1
      else ((List.range (s.sections m)).filter (fun i => bitOf i r.secs)).foldl (fun u i => u.sweepSection m g t.layer p r i) s
  | _, _ => s

/-- The layer's value of a raster cell, given by its column and row; a cell outside the raster is NOT_COVERED. -/
def State.cellVal (s : State) (g : Raster) (layer : Nat) (c : Int × Int) : Nat :=
  if 0 ≤ c.1 ∧ c.1 < g.nx ∧ 0 ≤ c.2 ∧ c.2 < g.ny then
    bits (2 * layer) 2 (s.byte (g.addr + c.2.toNat * g.nx + c.1.toNat)).toNat
  else 0

/-- Whether section `i` is to be on with the reference point at S (R418). -/
def State.wantSection (s : State) (m : Nat) (g : Raster) (t : TrkTask) (rev : Bool) (p u : Int × Int) (i : Nat) : Bool :=
  let h := if rev then (-u.1, -u.2) else u
  let back := s.getS (tmBase m) Rg.TM_CFG.BACK
  let rel (q : Int × Int) : Int × Int := (q.1 - fx g.e0, q.2 - fx g.n0)
  let a := rel (lineEnd p u h back (sectionOff (s.implWidth m) (s.sections m) i))
  let b := rel (lineEnd p u h back (sectionOff (s.implWidth m) (s.sections m) (i + 1)))
  let vals := (cellsUnder (fx g.cs) a b).map (s.cellVal g t.layer)
  let ovl := min (s.get (trkBase (m / 64)) Rg.TK_CFG.OVL) 100
  !vals.contains 3 && decide (100 * (vals.filter (fun v => v == 1 || v == 2)).length ≤ ovl * vals.length)

/-- The sections to be on with the reference point at S: none on segments without WORK (R418). -/
def State.wantAt (s : State) (m : Nat) (g : Raster) (t : TrkTask) (x : Nat) : Nat :=
  match segAt (s.mach m).segs x with
  | none => 0
  | some (_, sg) =>
    if !bitOf 1 sg.flg then 0
    else
      let q := trackAt (s.mach m).segs x
      ((List.range (s.sections m)).map (fun i =>
        if !s.flag s.homeBase Rg.CV_AREA.EN ∨ s.wantSection m g t (bitOf 0 sg.flg) q.1 q.2 i then 2 ^ i else 0)).sum

/-- S_cmd of a change at S_b as the plan gives it (R418). -/
def State.cmdPoint (s : State) (m sb : Nat) (on : Bool) : Int :=
  let t := if on then bits 0 16 (s.cap m 1) else bits 16 16 (s.cap m 1)
  match (s.mach m).plans.find? (fun p => decide (p.s0 ≤ sb ∧ sb < p.s0 + p.len)) with
  | none => sb
  | some p => sb - sqrtRnd 65 (p.speedAt sb * ((t * t : Nat) : Rat) / 1000000)

/-- The changes over samples at S_b in rising order, from the sections on before the first. -/
def State.changes (s : State) (m : Nat) (g : Raster) (t : TrkTask) : Nat → List Nat → List (Nat × Nat × Bool)
  | _, [] => []
  | was, sb :: rest =>
    let want := s.wantAt m g t sb
    ((List.range (s.sections m)).filter (fun i => bitOf i was != bitOf i want)).map (fun i => (sb, i, bitOf i want)) ++
      s.changes m g t want rest

/-- Whether a command of a lane's list makes a change. -/
def SwCmd.makes (c : SwCmd) (x : Nat × Nat × Bool) : Bool := c.sb == x.1 && c.sec == x.2.1 && c.on == x.2.2

/-- A command put into a list in rising order of S_cmd. -/
def putCmd (c : SwCmd) : List SwCmd → List SwCmd
  | [] => [c]
  | d :: t => if c.cmd < d.cmd then c :: d :: t else d :: putCmd c t

/-- The SWITCH message with the first `n` commands of a list. -/
def switchMsg (l : TrkLane) (cs : List SwCmd) : List Byte :=
  leBytes 1 0x12 ++ l.tag4 ++ leBytes 1 cs.length ++
    (cs.map (fun c => leBytes 4 c.cmd ++ leBytes 1 c.sec ++ leBytes 1 (b2n c.on))).flatten

/-- The commands of a list that change something, in their order, from the sections on before. -/
def effective : Nat → List SwCmd → List SwCmd
  | _, [] => []
  | was, c :: t => if bitOf c.sec was = c.on then effective was t else c :: effective (putBits c.sec 1 was (b2n c.on)) t

/-- How many commands two lists begin with in common. -/
def common : List SwCmd → List SwCmd → Nat
  | a :: s, b :: t => if a = b then common s t + 1 else 0
  | _, _ => 0

/-- What a SWITCH frame must carry to turn the list `old` that a machine holds into `new`: what follows the part in common; where the
new list only ends earlier, a command that undoes the first of the rest. -/
def switchDiff (old new : List SwCmd) : List SwCmd :=
  let n := common old new
  match new.drop n, old.drop n with
  | [], c :: _ => [{ c with on := !c.on }]
  | d, _ => d

/-- The switch list computed from the reported S over samples at the multiples of CS up to S + LOOK, and a SWITCH frame when it has
changed (R418, R419). A change already commanded behind the reported S is not commanded again; one that is no longer wanted is
undone. -/
def State.switchList (s : State) (m x : Nat) : State :=
  let l := s.mach m
  match l.task with
  | none => s
  | some t =>
    if t.kind ≠ 1 then s
    else
      let g := s.raster
      let cs := max g.cs 1
      let base := (l.list.filter (fun c => decide (c.sb < x))).foldl (fun b c => putBits c.sec 1 b (b2n c.on)) l.base
      let total := (l.segs.getLast?.map (fun q => q.s0 + q.len)).getD 0
      let far := min (x + s.look m) total
      let raw := s.changes m g t base (((List.range (s.look m / cs + 2)).map (fun k => (ceilDiv x cs + k) * cs)).filter
        (fun y => decide (y ≤ far)))
      let held := l.list.filter (fun c => decide (x ≤ c.sb ∧ c.cmd < x))
      let done := held.filter (fun c => raw.any c.makes)
      let undo := (held.filter (fun c => !raw.any c.makes)).map (fun c => (x, c.sec, !c.on))
      let new : List ((Nat × Nat × Bool) × Int) := (undo ++ raw.filter (fun r => !held.any (fun c => c.makes r))).map (fun r => (r, s.cmdPoint m r.1 r.2.2))
      let late := (new.filter (fun p => decide (p.2 < (x : Int)))).length
      let list := new.foldl (fun (acc : List SwCmd) (p : (Nat × Nat × Bool) × Int) => putCmd ⟨p.1.1, (max p.2 (x : Int)).toNat, p.1.2.1, p.1.2.2⟩ acc) []
      let on := done.foldl (fun b c => putBits c.sec 1 b (b2n c.on)) base
      let old := effective on (l.list.filter (fun c => decide (x ≤ c.sb ∧ x ≤ c.cmd)))
      let ready := match l.swAt with | some a => decide (a + 100000000 ≤ s.nowNs) | none => true
      if list = old ∨ !ready then s
      else
        let k := min 16 ((s.maxPayload m - 6) / 6)
        let sent := (switchDiff old list).take k
        let s := s.count (trkBase (m / 64)) Rg.TK_CNT.LATE_SW late
        let s := if late = 0 then s else s.tkEvent (m / 64) Rg.TK_EVT.LATE_SW
        let s := s.setMach m { l with base := base, list := done ++ list.take (common old list) ++ sent, swAt := some s.nowNs }
        s.trkSend m [⟨switchMsg l sent, false⟩]

/-- Whether a report's instant differs from the planned time of its S by more than T_MARGIN (R409). -/
def State.lags (s : State) (m : Nat) (r : Report) : Bool :=
  match (s.mach m).plans.find? (fun p => decide (p.s0 ≤ r.s ∧ r.s < p.s0 + p.len)) with
  | none => false
  | some p =>
    let t := p.at_ + p.timeAt r.s * 1000
    decide (t + s.margin m < r.at_ ∨ r.at_ + s.margin m < t)

/-- The present move of a report: plans of moves that end before its S are behind it. -/
def pastMoves (x : Nat) (l : List MovePlan) : List MovePlan :=
  match l with
  | p :: q :: t => if p.s0 + p.len ≤ x then pastMoves x (q :: t) else l
  | _ => l

/-- A report of a lane in RUN (R407, R409, R418, R419). -/
def State.runReport (s : State) (m : Nat) (r : Report) : State :=
  let l := s.mach m
  let h := (l.task.map (fun t => t.handle)).getD 0
  if bitOf 4 r.flg ∧ r.tag = h then s.endTask m false
  else if s.lags m r then
    (((s.count (trkBase (m / 64)) Rg.TK_CNT.LAG 1).tkEvent (m / 64) Rg.TK_EVT.LAG)).pauseLane m
  else
    let s := s.setMach m { l with plans := pastMoves r.s l.plans }
    let s := s.set (tmBase m) Rg.TM_T0.AT (((s.mach m).plans.head?.map (fun p => p.at_)).getD 0)
    (s.giveSegs m r.s false l.segs.length).switchList m r.s

/-- A HALTED report of a lane: an aborted task ends; a paused lane's REMAIN is known (R408, R410). -/
def State.haltReport (s : State) (m : Nat) (r : Report) : State :=
  let l := s.mach m
  if !bitOf 3 r.flg then s
  else if l.abortAt.isSome then s.endTask m true
  else if s.tmState m = 5 ∧ l.remain.isNone then
    match pastMoves r.s l.plans with
    | [] => s.setMach m { l with remain := some 0 }
    | p :: t =>
      let rm : Int := ((p.s0 + p.len : Nat) : Int) - r.s
      (s.setMach m { l with remain := some rm, plans := p :: t }).setS (tmBase m) Rg.TM_PROG.REMAIN rm
  else s

/-- A REPORT accepted from machine `m`. -/
def State.takeReport (s : State) (m : Nat) (r : Report) : State :=
  let b := tmBase m
  let s := s.sets b [(Rg.TM_POS.E, pat 32 r.e), (Rg.TM_POS.N, pat 32 r.n), (Rg.TM_PROG.S, r.s),
    (Rg.TM_STAT.HALTED, b2n (bitOf 3 r.flg)), (Rg.TM_STAT.FIX, b2n (bitOf 2 r.flg)),
    (Rg.TM_STAT.SEG, ((segAt (s.mach m).segs r.s).map (fun g => g.1)).getD 0)]
  let s := s.sweep m r
  let s := s.setMach m { s.mach m with last := some r }
  let s := s.haltReport m r
  let s := if s.tmState m = 4 then s.runReport m r else s
  s.levels m

/-- An uplink payload of another KIND resubmitted unchanged on SW_FLOW, its ring slot held until that entry completes (R419); the
entry waits in service while the pool is empty. -/
def State.resubmit (s : State) (m : Nat) (e : Entry) : State :=
  let f := s.get (tmBase m) Rg.TM_CFG.SW_FLOW
  if !s.disp.assigned f then s.tileDone e.handle
  else
    let part := (s.disp.flowOf f).part
    match s.create part f e.prio e.tag false none e.item with
    | none => s.busyPool part
    | some (t, h) =>
      let d := match t.disp.find h with | some x => t.disp.put { x with ring := e.ring } | none => t.disp
      { t with disp := d.finish { e with ring := none } }.hwRetry

/-- MACHINE_REPORT: an entry of a report flow in service, whose TYPE 0x60 item names the MAC tile's ring slot with the payload and the
SHR instant of its frame (R365, R419). -/
def execMachineReport (handle : Nat) (s : State) : Host.Outcome State Fault Refusal :=
  match s.disp.find handle with
  | none => .next s
  | some e =>
    let m := e.tag % 256
    let shr := match e.item with | some (_, d) => d.getD 1 0 | none => 0
    if e.st ≠ .inService ∨ s.flowMachine e.flow ≠ some m ∨ !s.trkLaneOn m ∨ s.get (tmBase m) Rg.TM_CFG.TASK_FLOW = e.flow then
      .next s
    else
      let a := s.slotAddr (macPos (m / 32)) posDsp (bits 19 12 e.tag)
      match s.memRead a (bits 8 11 e.tag) with
      | (t, none) => .next ((t.poisonDrop (trkPos (m / 64)) a).tileDone handle)
      | (t, some pl) =>
        if leAt pl 0 1 ≠ 1 then .next (t.resubmit m e)
        else if pl.length < 38 then .next (t.tileDone handle)
        else .next ((t.takeReport m (reportOf pl shr)).tileDone handle)

/-! ### Software reservations (R415) -/

/-- Whether the home's reservation registers can act. -/
def State.homeWrite (s : State) (m : Master) (f : State → State) : State :=
  match s.trkHome with
  | none => s
  | some t => s.trkWrite m t 0x428 (fun u => if u.get (trkBase t) Rg.TR_RES.STATUS = 15 then u else f u)

/-- TR_RES written. -/
def State.trResult (s : State) (st id with_ owner : Nat) : State :=
  s.sets s.homeBase [(Rg.TR_RES.STATUS, st), (Rg.TR_RES.ID, id), (Rg.TR_RES.WITH, with_), (Rg.TR_RES.OWNER, owner)]

/-- A software reservation from TR_REQ0–TR_REQ4. -/
def State.swReserve (s : State) : State :=
  let b := s.homeBase
  let r : Resv := ⟨0, ownerSw, s.getS b Rg.TR_REQ0.E, s.getS b Rg.TR_REQ0.N, s.getS b Rg.TR_REQ1.E, s.getS b Rg.TR_REQ1.N,
    2 * s.get b Rg.TR_REQ4.HALF_W, s.get b Rg.TR_REQ2.T_START, s.get b Rg.TR_REQ3.T_END, false, false⟩
  if r.till ≤ r.from_ ∨ r.half2 = 0 then s.trResult 3 0 0 0
  else match s.tryReserve [r] with
    | (t, 0, _) => t.trResult 0 ((t.tracks.table.getLast?.map (fun e => e.id)).getD 0) 0 0
    | (t, 1, some e) => (t.refusedResv 1).trResult 1 0 e.id e.owner
    | (t, _, _) => (t.refusedResv 2).trResult 2 0 0 0

/-- TR_RESERVE: TR_REQ4.GO written with OP RESERVE. -/
def execTrReserve (m : Master) (s : State) : Host.Outcome State Fault Refusal := .next (s.homeWrite m (fun t => t.swReserve))

/-- An entry freed by software. -/
def State.swFree (s : State) : State :=
  let id := s.get s.homeBase Rg.TR_REQ4.ID
  if s.tracks.table.any (fun e => e.id == id) then
    (s.setTable (s.tracks.table.filter (fun e => e.id != id))).trResult 0 0 0 0
  else s.trResult 4 0 0 0

/-- TR_FREE: TR_REQ4.GO written with OP FREE. -/
def execTrFree (m : Master) (s : State) : Host.Outcome State Fault Refusal := .next (s.homeWrite m (fun t => t.swFree))

end Sys2Proof.Machine
end

