-- ==== Sys2Proof/Machine/Modes.lean ====
section
/-! DEFINITION. Mode changes (R103–R117), entry to DORMANT (R124, R126) and the refresh of Cocoon (R219). -/

namespace Sys2Proof.Machine

/-! ### Requests -/

/-- The precedence of a target (R110). -/
def modePrec : Mode → Nat
  | .maintenance => 5 | .holdover => 4 | .dormant => 3 | .service => 2 | .survey => 1 | .bootstrap => 0

/-- The service conditions (R105): with an OBS tile instanced the position is fixed, which is STATE FIXED of the one encoder (R224, R235). -/
def State.serviceOk (s : State) : Bool :=
  s.locked && decide (s.terr ≤ max 1 (s.get bMpc Rg.MODE_LIM.SVC_TERR)) &&
  ((tilePositions .obs).all (fun p => !s.instanced p) ||
    (match s.encoder with
     | some i => !(s.ob i).idle && s.get (obBase i) Rg.OB_SV_STAT.STATE == 3
     | none => false))

/-- The causes with which R103 lists a transition: 0 host, 1 application, 2 TP, 3 MODE_SKEW, 4 MP policy. -/
def modeCauses : Mode → Mode → List Nat
  | .survey, .service => [0, 4]
  | .holdover, .service => [0, 4]
  | .survey, .holdover => [3]
  | .service, .holdover => [2, 3]
  | .service, .survey => [0]
  | .holdover, .survey => [0]
  | .maintenance, .survey => [0]
  | .survey, .dormant => [0, 1]
  | .service, .dormant => [0, 1]
  | .holdover, .dormant => [0, 1]
  | .survey, .maintenance => [0]
  | .service, .maintenance => [0]
  | .holdover, .maintenance => [0]
  | _, _ => []

/-- Whether what the host asks for fits the present mode (R103): EXIT leaves MAINTENANCE alone, SURVEY never does. -/
def askFits (old : Mode) : Ask → Bool
  | .any => true
  | .survey => old != .maintenance
  | .exit => old == .maintenance

/-- What R103, R104 and R107 answer to a request from the present mode: 0 allowed, 2 REFUSED_TRANSITION, 3 NEEDS_RESET. -/
def State.modeCheckAs (s : State) (target : Mode) (cause : Nat) (ask : Ask) : Nat :=
  if !(modeCauses s.mode target).contains cause ∨ !askFits s.mode ask then 2
  else if target = .service ∧ (!s.serviceOk ∨ (cause = 4 ∧ !s.flag bMpc Rg.MODE_CFG.AUTO_SVC) ∨
      (s.mode = .holdover ∧ s.flag bMpc Rg.MODE_STAT.SKEW)) then 2
  else if s.mode = .maintenance ∧ s.flag bMpc Rg.MODE_STAT.MAINT_DIRTY then 3
  else 0

/-- R103, R104 and R107 for a request that names only its target and CAUSE. -/
def State.modeCheck (s : State) (target : Mode) (cause : Nat) : Nat := s.modeCheckAs target cause .any

/-- MODE_RES.RESULT. -/
def State.modeRes (s : State) (r : Nat) : State := s.set bMpc Rg.MODE_RES.RESULT r

/-- A refusal (R104, R107). -/
def State.modeRefuse (s : State) (r : Nat) : State := (s.modeRes r).event 0 bMpc Rg.MODE_EVT.REFUSED

/-- The islands that take part in a change (R111, R117). -/
def State.participants (s : State) : List Nat :=
  (List.range 44).filter (fun i => s.on (domOf i) &&
    (decide (i < 13) || allPositions.any (fun p => islandOf p == i && s.instanced p)) && !s.modes.isolated.any (fun x => x.1 == i))

/-- The mode epoch. -/
def State.epoch (s : State) : Nat := s.get bMpc Rg.MODE_STAT.EPOCH

/-- Step 1 of R112: PREPARE with the target and a new epoch to every participant. -/
def State.prepare (s : State) (target : Mode) (cause : Nat) (dirty : Bool) : State :=
  let t := s.sets bMpc [(Rg.MODE_STAT.EPOCH, s.epoch + 1), (Rg.MODE_STAT.CHANGING, 1), (Rg.MODE_STAT.TARGET, target.code),
    (Rg.MODE_LATE.ISLANDS, 0), (Rg.MODE_SKEWED.ISLANDS, 0)]
  { t with modes := { t.modes with change := some ⟨target, cause, s.mode, s.participants, [], none, dirty, s.now⟩, sleep := none },
           power := { t.power with dormPrep := target == .dormant } }

/-- An accepted request starts: the notice of a SLEEP request (R124), or PREPARE. -/
def State.modeBegin (s : State) (target : Mode) (cause : Nat) : State :=
  if target = .dormant then { s with modes := { s.modes with sleep := some (s.now, cause), asked := s.now } } else s.prepare target cause false

/-- Whether MP is busy with a change or with an entry to DORMANT (R110). -/
def State.modeBusy (s : State) : Bool := s.flag bMpc Rg.MODE_STAT.CHANGING || s.modes.sleep.isSome

/-- The pending slot set (R110). -/
def State.setPending (s : State) (w : Option ModeWait) : State :=
  { s.set bMpc Rg.MODE_STAT.PENDING (match w with | some x => x.code % 8 | none => 7) with modes := { s.modes with slot := w } }

/-- A request made while MP is busy: the one of higher precedence is kept, the later of two equals (R110). MODE_RES is one register and
shows the outcome of the request just made; that the request it displaces is SUPERSEDED shows nowhere (DESIGN CHOICE, log entry
25). -/
def State.modeQueue (s : State) (w : ModeWait) : State :=
  match s.modes.slot with
  | some x => if w.prec < x.prec then s.modeRes 4 else (s.setPending (some w)).modeRes 1
  | none => (s.setPending (some w)).modeRes 1

/-- A request with the code of its target, its CAUSE and what the host asked for (R110); codes above 5 name no mode. -/
def State.modeAsk (s : State) (code cause : Nat) (ask : Ask) : State :=
  let target := Mode.ofCode code
  if s.modeBusy then s.modeQueue ⟨code, cause, ask, modePrec target⟩
  else
    let r := if 5 < code then 2 else s.modeCheckAs target cause ask
    if r ≠ 0 then s.modeRefuse r else (s.modeBegin target cause).modeRes 5

/-- A request of MODE_REQ (R110), whose SURVEY out of MAINTENANCE is EXIT. -/
def State.modeReq (s : State) (code cause : Nat) : State := s.modeAsk code cause .any

/-- MODE_REQUEST: a write of MODE_REQ; MP is the only master that writes it. -/
def execModeRequest (m : Master) (v : Nat) (s : State) : Host.Outcome State Fault Refusal :=
  .next (s.actWrite m (m == .mp) .aon (bMpc + 0x8) (fun t => t.modeReq (bits 0 3 v) (bits 4 4 v)))

/-- SERVICE_CONDITIONS_MET: MP starts a change to SERVICE by itself under AUTO_SVC. -/
def execServiceConditionsMet (s : State) : Host.Outcome State Fault Refusal :=
  if !s.modeBusy ∧ (s.mode = .survey ∨ s.mode = .holdover) ∧ s.modeCheck .service 4 = 0 then .next (s.modeReq 2 4) else .next s

/-! ### Commit -/

/-- COMMIT is sent (R112 step 3): the commit instant is now plus COMMIT_LEAD. -/
def State.sendCommit (s : State) (c : Change) : State :=
  let lead := max 2 (s.get bMpc Rg.MODE_CFG.COMMIT_LEAD) * 10000
  { s.set bMpc Rg.MODE_COMMIT.INSTANT (s.now + lead) with modes := { s.modes with change := some { c with commit := some (s.now + lead) } } }

/-- MODE_ACK: a participant acknowledges PREPARE; the last acknowledgement sends COMMIT. -/
def execModeAck (isl : Nat) (s : State) : Host.Outcome State Fault Refusal :=
  match s.modes.change with
  | some c =>
    if c.commit.isNone ∧ c.parts.contains isl ∧ !c.acks.contains isl then
      let c := { c with acks := c.acks ++ [isl] }
      let t := { s with modes := { s.modes with change := some c } }
      .next (if c.parts.all (fun i => c.acks.contains i) then t.sendCommit c else t)
    else .next s
  | none => .next s

/-- ACK_WAIT after PREPARE (R112): 10 µs a unit, 0 acts as 1. -/
def State.ackWait (s : State) : Nat := max 1 (s.get bMpc Rg.MODE_CFG.ACK_WAIT) * 10000

/-- ACK_WAIT_EXPIRY: COMMIT is sent without the missing acknowledgements. -/
def execAckWaitExpiry (s : State) : Host.Outcome State Fault Refusal :=
  match s.modes.change with
  | some c => if c.commit.isNone ∧ c.prep + s.ackWait ≤ s.now then .next (s.sendCommit c) else .next s
  | none => .next s

/-- What the time core does at the commit of a change: STATE becomes HOLDOVER with DORMANT (R153), each output with MEAS_AUTO
measures its cable at an entry to SURVEY (R162), and out of BOOTSTRAP and at an entry to SURVEY TP takes the best source (R155). -/
def State.timeMode (s : State) (old new : Mode) : State :=
  if new = .dormant then { s.setTimeState 3 with time := { (s.setTimeState 3).time with sel := 0 } }
  else
    let t := if new = .survey then
        (List.range 4).foldl (fun u n => if u.flag (ppsBase n) Rg.PPS_CFG.MEAS_AUTO then u.measure n else u) s else s
    if old = .bootstrap ∨ new = .survey then t.reselect else t

/-- What each function does at the commit of a change (R108, R106, R174–R487 as their chapters state). -/
def State.modeEffects (s : State) (old new : Mode) : State :=
  let t := (s.timeMode old new).loopMode new
  let t := if new = .dormant ∨ new = .maintenance then t.gnssOff.captureOff.groupsOff.alignOff else t
  let t := ((t.obsMode old new).filtMode new).tracksMode new
  if new = .dormant then t.radioOff.tracksOff.ethOff.pktOff.canOff
  else if new = .maintenance then t.stopLatch 4 else t

/-- The items of a list by index taken from one of two lists. -/
def pickIdx {α : Type} (sel : Nat → Bool) (old new : List α) : List α :=
  (List.range new.length).filterMap (fun i => if sel i then old[i]? else new[i]?)

/-- The entries of a keyed list taken from one of two lists. -/
def pickKey {α : Type} (sel : Nat → Bool) (old new : List (Nat × α)) : List (Nat × α) :=
  (old.filter (fun p => sel p.1)).foldl (fun l p => assocSet p.1 p.2 l) (new.filter (fun p => !sel p.1))

/-- What the islands of a set hold taken from one state, all else from another (R113, R114): the islands that have not applied a
change keep what they do. -/
def State.keepIsles (sel : Nat → Bool) (old new : State) : State :=
  let at_ (f : Nat → Nat) (i : Nat) : Bool := sel (islandOf (f i))
  { new with
    cells := pickKey (fun k => (placeOf (keyAddr k)).any (fun p => sel p.isl)) old.cells new.cells,
    loops := pickIdx (at_ loopPos) old.loops new.loops,
    gnss := { new.gnss with chans := pickKey (at_ chPos) old.gnss.chans new.gnss.chans,
                            ports := if sel 11 then old.gnss.ports else new.gnss.ports },
    obs := pickIdx (at_ obPos) old.obs new.obs,
    waves := { new.waves with lanes := pickKey (at_ flPos) old.waves.lanes new.waves.lanes },
    phs := pickKey (at_ phPos) old.phs new.phs,
    align := { new.align with
      streams := old.align.streams.filter (fun x => at_ atPos (x.st / 512)) ++
        new.align.streams.filter (fun x => !at_ atPos (x.st / 512)),
      concs := old.align.concs.filter (fun x => at_ atPos x.home) ++ new.align.concs.filter (fun x => !at_ atPos x.home) },
    groups := pickKey (at_ mgPos) old.groups new.groups,
    engines := pickIdx (at_ tgPos) old.engines new.engines,
    radio := { new.radio with lanes := pickIdx (at_ macPos) old.radio.lanes new.radio.lanes },
    tracks := { new.tracks with lanes := pickKey (fun m => at_ trkPos (m / 64)) old.tracks.lanes new.tracks.lanes },
    eth := if sel 9 then old.eth else new.eth,
    cans := if sel 12 then old.cans else new.cans,
    pkt := pickKey (fun k => at_ pkPos (k / 1024)) old.pkt new.pkt,
    time := if sel 3 then old.time else new.time }

/-- The power-down of DORMANT (R124 step 6): channels of DMA still draining end, and FA, FB, IO, MGMT and SEC are switched off. -/
def State.dormantOff (s : State) : State :=
  (s.dmPowerDown [.fa, .fb, .io, .mgmt, .sec]).switchOff.set bMpc Rg.PWR_STAT.PSTATE 1

/-- Islands apply the change: they show the new epoch (R113). -/
def State.showEpoch (s : State) (l : List Nat) : State :=
  l.foldl (fun t i => t.set (islBase i) Rg.ISL_STAT.EPOCH (s.epoch % 16)) s

/-- The participants that do not show the present epoch. -/
def State.lagging (s : State) (l : List Nat) : List Nat :=
  l.filter (fun i => s.on (domOf i) && s.get (islBase i) Rg.ISL_STAT.EPOCH != s.epoch % 16)

/-- SKEW clears when every participant has applied the present epoch and no island is isolated (R115, R117). -/
def State.skewClear (s : State) : State :=
  if s.modes.isolated = [] ∧ s.lagging s.participants = [] then s.set bMpc Rg.MODE_STAT.SKEW 0 else s

/-- The pending request starts, checked again from the new mode (R110). -/
def State.startPending (s : State) : State :=
  match s.modes.slot with
  | none => s
  | some w =>
    let t := s.setPending none
    let target := Mode.ofCode w.code
    let r := if 5 < w.code then 2 else t.modeCheckAs target w.cause w.ask
    if r ≠ 0 then t.modeRefuse r else (t.modeBegin target w.cause).modeRes 5

/-- The change ends (R112 step 5, R117): CHANGING clears, CHANGED is set with vector 3, MODE_CHANGE is recorded, and a pending
request starts. -/
def State.modeFinish (s : State) (c : Change) : State :=
  let t := { s.set bMpc Rg.MODE_STAT.CHANGING 0 with modes := { s.modes with change := none } }
  let t := if t.flag bMpc Rg.MODE_EVT.CHANGED then t else (t.event 0 bMpc Rg.MODE_EVT.CHANGED).msix 3
  let t := t.record 0x001 1 0 (leBytes 1 c.from_.code ++ leBytes 1 c.target.code ++ leBytes 2 t.epoch ++ leBytes 1 c.cause)
  let t := if t.get bMpc Rg.MODE_RES.RESULT = 5 then t.modeRes 0 else t
  t.skewClear.startPending

/-- The change ends if every participant shows the new epoch. -/
def State.modeSettle (s : State) : State :=
  match s.modes.change with
  | some c => if c.commit.any (fun k => decide (k ≤ s.now)) ∧ s.lagging c.parts = [] then s.modeFinish c else s
  | none => s

/-- The commit instant (R112 step 4, R113): islands holding the COMMIT apply the change; the others keep what they do until it
arrives. -/
def State.commitApply (s : State) (c : Change) (late : List Nat) : State :=
  let t := s.showEpoch (c.parts.filter (fun i => !late.contains i))
  let t := t.set bMpc Rg.MODE_STAT.MODE c.target.code
  let t := if c.from_ = .bootstrap then
      { t.set bMpc Rg.RESET_CAUSE.MAINT_BOOT 0 with health := { t.health with passAt := t.nowNs + 600000000000 } } else t
  let t := if c.dirty then t.set bMpc Rg.MODE_STAT.MAINT_DIRTY 1 else t
  if c.from_ = c.target then t
  else
    let out := late.filter (fun i => c.parts.contains i) ++ t.modes.isolated.map (fun x => x.1)
    let u := t.modeEffects c.from_ c.target
    let u := if out = [] then u else t.keepIsles out.contains u
    { u with modes := { u.modes with
        behind := u.modes.behind ++ (out.filter (fun i => !u.modes.behind.any (fun x => x.1 == i))).map (fun i => (i, c.from_)) } }

/-- An island that applies the present mode late: the change acts on what it holds (R114). -/
def State.applyLate (s : State) (isl : Nat) : State :=
  match s.modes.behind.find? (fun x => x.1 == isl) with
  | none => s
  | some x =>
    let u := if x.2 = s.mode then s else s.keepIsles (fun i => i != isl) (s.modeEffects x.2 s.mode)
    { u with modes := { u.modes with behind := u.modes.behind.filter (fun y => y.1 != isl) } }

/-- LATE_APPLY: an island applies the change when its COMMIT arrives after the commit instant (R114), an isolated one too. -/
def execLateApply (isl : Nat) (s : State) : Host.Outcome State Fault Refusal :=
  let due : Bool := match s.modes.change with
    | some c => c.parts.contains isl && c.commit.any (fun k => decide (k ≤ s.now))
    | none => s.modes.isolated.any (fun x => x.1 == isl)
  if due ∧ isl < 44 ∧ s.lagging [isl] ≠ [] then
    let t := ((s.applyLate isl).showEpoch [isl]).event (islEv isl) (islBase isl) Rg.ISL_EVT.LATE_APPLY
    let t := t.set bMpc Rg.MODE_LATE.ISLANDS (t.get bMpc Rg.MODE_LATE.ISLANDS ||| 2 ^ isl)
    .next ((t.event 0 bMpc Rg.MODE_EVT.LATE_APPLY).skewClear)
  else .next s

/-- A structure test in MAINTENANCE (R32, R107): MP powers the fabric domains as it names them, one alone or both; what they held is
lost, no tile is instanced, and MAINT_DIRTY is set. -/
def State.structTest (s : State) (fa fb : Bool) : State :=
  if s.mode = .maintenance ∧ !s.modeBusy then
    let t := (s.dmPowerDown [.fa, .fb]).fabricDown.set bMpc Rg.MODE_STAT.MAINT_DIRTY 1
    { t with power := { t.power with fa := fa, fb := fb } }
  else s

/-- MODE_CHANGE_COMPLETE: MP finds every participant's EPOCH equal. The table has no row for what MP does by itself in MAINTENANCE:
`test` brings the structure test that MP then runs (DESIGN CHOICE, log entry 32). -/
def execModeChangeComplete (test : Option (Bool × Bool)) (s : State) : Host.Outcome State Fault Refusal :=
  match test with
  | some d => .next (s.modeSettle.structTest d.1 d.2)
  | none => .next s.modeSettle

/-! ### Skew and isolation -/

/-- MODE_SKEW (R115, R116): raised with its islands; where R116 asks for it, HOLDOVER is requested at MAINTENANCE-level precedence. -/
def State.modeSkew (s : State) (isls : List Nat) : State :=
  let m := isls.foldl (fun a i => a ||| 2 ^ i) (s.get bMpc Rg.MODE_SKEWED.ISLANDS)
  let t := (s.sets bMpc [(Rg.MODE_SKEWED.ISLANDS, m), (Rg.MODE_STAT.SKEW, 1)]).event 0 bMpc Rg.MODE_EVT.MODE_SKEW
  let t := t.record 0x002 3 0 (leBytes 8 m)
  let kept (md : Mode) : Bool := md == .dormant || md == .maintenance || md == .holdover
  match s.modes.change with
  | some c => if kept c.target || s.mode == .holdover then t else t.setPending (some ⟨3, 3, .any, 5⟩)
  | none =>
    if s.mode = .survey ∨ s.mode = .service then
      (if s.modes.sleep.isSome then t else t.modeReq 3 3)
    else t

/-- EPOCH_HOLD_TIMEOUT: the stage behind `link` has held a newer item for more than 1 ms (R115). -/
def execEpochHoldTimeout (link : Nat) (s : State) : Host.Outcome State Fault Refusal :=
  match s.link link with
  | some l =>
    match l.queue with
    | q :: _ =>
      let i := endIsland l.rc.dst
      if newer (pktEpoch q.lw) (s.get (islBase i) Rg.ISL_STAT.EPOCH) then .next (s.modeSkew [i]) else .next s
    | [] => .next s
  | none => .next s

/-- The links into and out of an island, by number. -/
def State.islandLinks (s : State) (isl : Nat) : List Nat :=
  (s.links.filter (fun l => endIsland l.rc.src == isl || endIsland l.rc.dst == isl)).map (fun l => l.rc.id)

/-- An island is isolated (R117): its links are reset and held in reset. -/
def State.isolate (s : State) (isl at_ : Nat) : State :=
  let t := (s.islandLinks isl).foldl (fun u id =>
    match u.link id with
    | some l => let v := u.resetLink l
                match v.link id with
                | some k => v.setLink { k with isolated := true }
                | none => v
    | none => u) s
  { t with modes := { t.modes with isolated := t.modes.isolated ++ [(isl, at_, false)] } }

/-- SKEW_TIMEOUT: 1 ms after the commit instant MP ends the change, isolating each island that lags (R117). -/
def execSkewTimeout (s : State) : Host.Outcome State Fault Refusal :=
  match s.modes.change with
  | some c =>
    match c.commit with
    | some k =>
      if k + 1000000 ≤ s.now then
        let lag := s.lagging c.parts
        if lag = [] then .next (s.modeFinish c)
        else .next (((lag.foldl (fun u i => u.isolate i k) s).modeSkew lag).modeFinish c)
      else .next s
    | none => .next s
  | none => .next s

/-- ISLAND_READMIT: an isolated island shows the present epoch; MP releases its links and it takes part again (R117). -/
def execIslandReadmit (isl : Nat) (s : State) : Host.Outcome State Fault Refusal :=
  if s.modes.isolated.any (fun x => x.1 == isl && !x.2.2) ∧ s.lagging [isl] = [] then
    let rest := s.modes.isolated.filter (fun x => x.1 != isl)
    let free (l : Link) : Bool := !rest.any (fun x => x.1 == endIsland l.rc.src || x.1 == endIsland l.rc.dst)
    .next ({ s with modes := { s.modes with isolated := rest },
                    links := s.links.map (fun l => if free l then { l with isolated := false } else l) }.skewClear)
  else .next s

/-- ISOLATION_TIMEOUT: an island still isolated 100 ms after the commit instant stays so until the next reset (R117). -/
def execIsolationTimeout (isl : Nat) (s : State) : Host.Outcome State Fault Refusal :=
  match s.modes.isolated.find? (fun x => x.1 == isl && !x.2.2) with
  | some x =>
    if x.2.1 + 100000000 ≤ s.now then
      let f (y : Nat × Nat × Bool) : Nat × Nat × Bool := if y.1 = isl then (y.1, y.2.1, true) else y
      .next ({ s with modes := { s.modes with isolated := s.modes.isolated.map f } }.modeSkew [isl])
    else .next s
  | none => .next s

/-! ### DORMANT -/

/-- Records flushed page by page until none is left. -/
def flushPages (boots : Nat) : Nat → Recorder → Recorder
  | 0, r => r
  | n + 1, r => if r.unflushed = 0 then r else flushPages boots n (r.pageDone boots)

/-- The recorder flushed to xSPI (R124 step 3). -/
def State.flushAll (s : State) : State :=
  if s.log.running then { s with log := { flushPages s.sec.boots s.log.unflushed s.log with flush := .none } } else s

/-- DORMANT_GRACE_EXPIRY: the notice has ended. MP writes Cocoon with `nav`, the recorder is flushed, DMA channels drain or
suspend, and the change to DORMANT is prepared (R124). -/
def execDormantGraceExpiry (nav : List (Nat × Nat)) (s : State) : Host.Outcome State Fault Refusal :=
  match s.modes.sleep with
  | some (at_, cause) =>
    if at_ + s.get bMpc Rg.MODE_CFG.DORM_GRACE * 10000000 ≤ s.now then
      let t := (s.cocoonWrite nav).flushAll
      let t := [Dom.fa, .fb, .io, .mgmt, .sec].foldl (fun u d => u.dmHoldAll d (List.range 64)) t
      let t := { t with power := { t.power with holdAt := some s.nowNs } }
      .next (t.prepare .dormant cause false)
    else .next s
  | none => .next s

/-- Whether an entry to DORMANT runs whose COMMIT has not been sent (R126). -/
def State.entering (s : State) : Bool :=
  s.modes.sleep.isSome || (match s.modes.change with | some c => c.target == .dormant && c.commit.isNone | none => false)

/-- Whether COMMIT to DORMANT has been sent and the entry has not ended. -/
def State.committing (s : State) : Bool :=
  match s.modes.change with
  | some c => c.target == .dormant && c.commit.isSome && s.mode != .dormant
  | none => false

/-- A wake source before COMMIT cancels the entry (R126): the present mode is committed under a new epoch. WAKE_STAT.EARLY is set here,
and not by a source that asserts after COMMIT (DEDUCED, log entry 26). -/
def State.dormantAbort (s : State) : State :=
  let t := (s.event 0 bMpc Rg.MODE_EVT.DORMANT_ABORT).event 2 bMpc Rg.WAKE_STAT.EARLY
  let t := { t with power := { t.power with holdAt := none } }
  match s.modes.change with
  | some c =>
    let u := { t with modes := { t.modes with change := some { c with target := s.mode } }, power := { t.power with dormPrep := false } }
    u.set bMpc Rg.MODE_STAT.TARGET s.mode.code
  | none => t.prepare s.mode 4 false

/-- COCOON_REFRESH: in SURVEY, SERVICE and HOLDOVER, MP rewrites Cocoon (R219). -/
def execCocoonRefresh (nav : List (Nat × Nat)) (s : State) : Host.Outcome State Fault Refusal :=
  if s.mode = .survey ∨ s.mode = .service ∨ s.mode = .holdover then .next (s.cocoonWrite nav) else .next s

end Sys2Proof.Machine
end

