-- ==== Sys2Proof/Machine/Update.lean ====
section
/-! DEFINITION. Updates: sessions, headers, blocks and the checks of FINALIZE (R129–R136). Banks are 0 CH0 and 1 CH1. -/

namespace Sys2Proof.Machine

/-- A bank. -/
def Upd.bank (u : Upd) (b : Nat) : Bank := u.banks.getD b .empty
/-- A bank replaced. -/
def Upd.setBank (u : Upd) (b : Nat) (x : Bank) : Upd := { u with banks := listSet u.banks b x }

/-- The bank UPD_BEGIN selects (R133); none gives BANK_BUSY. -/
def Upd.pick (u : Upd) : Option Nat :=
  let held (b : Nat) : Bool := (u.bank b).st == 2 || (u.bank b).st == 3
  if held 0 && held 1 then none
  else if held 0 then some 1
  else if held 1 then some 0
  else if (u.bank 0).st ≠ 4 then some 0
  else if (u.bank 1).st ≠ 4 then some 1
  else if (u.bank 0).order ≤ (u.bank 1).order then some 0 else some 1

/-- Whether the mode accepts staging (R132). -/
def State.staging (s : State) : Bool :=
  s.mode == .survey || s.mode == .service || s.mode == .holdover || s.mode == .maintenance

/-- An update operation answered: its status is the last status. -/
def State.updReply (s : State) (op status : Nat) (data : List Byte) : State :=
  let t := s.yxReply op (b2n (status == 1)) status data
  { t with upd := { t.upd with last := status } }

/-- Outside the modes of R132 an update operation is denied: FSTAT DENIED. -/
def State.updDeny (s : State) (op : Nat) : State :=
  match s.yx.serving with
  | some r => if yxOp r.frame = op then
      let t := (s.yxSend r 6 []).yxKeep r 6 []
      { t with yx := { t.yx with serving := none } } else s
  | none => s

/-- An update operation of the request now served: `f` sees its payload. -/
def State.updOp (s : State) (op : Nat) (f : List Byte → State) : State :=
  match s.yxServing op with
  | some p => if s.staging then f p else s.updDeny op
  | none => s

/-- UPD_BEGIN: a bank is selected and its erase begins, or the operation is refused. -/
def State.updBegin (s : State) : State :=
  if s.upd.sess.isSome then s.updReply 0x40 0x21 []
  else match s.upd.pick with
    | none => s.updReply 0x40 0x25 []
    | some b =>
      let id := (Config.sessionId s.free).toNat
      let t := { s.fresh with upd := { s.upd.setBank b { (Bank.empty) with st := 1 } with sess := some ⟨id, b, false, s.now⟩ } }
      t.updReply 0x40 1 []

/-- UPD_BEGIN: the row. -/
def execUpdBegin (s : State) : Host.Outcome State Fault Refusal := .next (s.updOp 0x40 (fun _ => s.updBegin))

/-- BANK_ERASE_DONE: the erase ends and the session opens; an erase that fails gives FLASH_FAIL and pulses EV027. -/
def execBankEraseDone (ok : Bool) (s : State) : Host.Outcome State Fault Refusal :=
  match s.upd.sess with
  | some x =>
    if x.open_ then .next s
    else if ok then
      let t := { s with upd := { s.upd with sess := some { x with open_ := true, last := s.now }, last := 0 } }
      .next (t.yxFinish 0x40 0 (leBytes 2 x.id ++ leBytes 1 x.bank))
    else
      let b := s.upd.bank x.bank
      let t := { s with upd := { s.upd.setBank x.bank { b with st := 7 } with sess := none, last := 0x41 } }
      .next ((t.toggle 27).yxFinish 0x40 0x41 [])
  | none => .next s

/-- The session of an operation, if its SESSION names the open one; the operation renews its 600 s. -/
def State.session (s : State) (p : List Byte) : Option (State × UpdSess) :=
  match s.upd.sess with
  | some x => if x.open_ ∧ leAt p 0 2 = x.id then
      some ({ s with upd := { s.upd with sess := some { x with last := s.now } } }, { x with last := s.now }) else none
  | none => none

/-- IMG_LEN of an update header. -/
def hdrLen (h : List Byte) : Nat := leAt h 0x38 4
/-- IMG_TYPE of an update header. -/
def hdrType (h : List Byte) : Nat := leAt h 0x0C 1

/-- The place of an image type among the five pairs of IF_REQ (R130). -/
def ifPair : Nat → Option Nat
  | 2 => some 0 | 3 => some 1 | 5 => some 2 | 4 => some 3 | 1 => some 4 | _ => none

/-- The status of the header checks of R134, in their order; 0 when the header is accepted. -/
def State.headerStatus (s : State) (b : Bank) (h : List Byte) : Nat :=
  let t := hdrType h
  let n := hdrLen h
  let own := match ifPair t with
    | some k => leAt h (0x18 + 4 * k) 4 != 0
    | none => false
  let zeros := zeroIn h 0x0D 0x10 && zeroIn h 0x2C 0x30 && zeroIn h 0x70 0xF80 && zeroIn h 0xFE0 0x1000 &&
    leAt h 0x30 8 / 2 ^ 18 == 0 && !own
  (firstBad [
    (leAt h 0 4 != 0x48435841 || leAt h 4 2 != 0x0100 || leAt h 6 2 != 0x1000 || n % 4096 != 0 || decide (n < 4096) ||
      decide (24 * 2 ^ 20 < n) || !zeros, 0x10),
    (!s.headSigned t h, 0x11),
    (leAt h 8 4 != 0x7740, 0x12),
    (t == 0 || decide (6 < t) || b.heads.any (fun x => x.1 == t), 0x13),
    (compatBad (leAt h 0x30 8) (s.get bDdr Rg.DDR_CFG.SIZE), 0x14),
    (decide (32 * 2 ^ 20 < ((b.heads.map (fun x => 4096 + hdrLen x.2)).sum + 4096 + n)), 0x15)]).getD 0

/-- UPD_HEADER: Gauntlet checks a header in the order of R134. -/
def execUpdHeader (s : State) : Host.Outcome State Fault Refusal :=
  .next (s.updOp 0x41 (fun p =>
    match s.session p with
    | none => s.updReply 0x41 0x20 []
    | some (t, x) =>
      let h := padTo 4096 (p.drop 2)
      let b := t.upd.bank x.bank
      let c := t.headerStatus b h
      let t := if c = 0 then { t with upd := t.upd.setBank x.bank { b with heads := b.heads ++ [(hdrType h, h)] } } else t
      t.updReply 0x41 c []))

/-- The header of an image type in a bank. -/
def Bank.head (b : Bank) (typ : Nat) : Option (List Byte) := (b.heads.find? (fun x => x.1 == typ)).map (·.2)
/-- The block held at an offset of an image. -/
def Bank.block (b : Bank) (typ off : Nat) : Option (List Byte) :=
  (b.blocks.find? (fun x => x.1 == typ && x.2.1 == off)).map (·.2.2)

/-- UPD_BLOCK: a 4 KiB block is stored, is found identical to the one held, or is refused (R135); `flashOk` says whether the flash
takes it; during an emergency flush it does not (R542). -/
def execUpdBlock (flashOk : Bool) (s : State) : Host.Outcome State Fault Refusal :=
  .next (s.updOp 0x42 (fun p =>
    match s.session p with
    | none => s.updReply 0x42 0x20 []
    | some (t, x) =>
      let typ := leAt p 2 1
      let off := leAt p 3 4
      let data := padTo 4096 (p.drop 7)
      let b := t.upd.bank x.bank
      match b.head typ with
      | none => t.updReply 0x42 0x22 []
      | some h =>
        if off % 4096 ≠ 0 ∨ hdrLen h ≤ off then t.updReply 0x42 0x23 []
        else match b.block typ off with
          | some d => t.updReply 0x42 (if d = data then 2 else 0x24) []
          | none =>
            if flashOk ∧ s.log.flush ≠ .emergency then
              { t with upd := t.upd.setBank x.bank { b with blocks := b.blocks ++ [(typ, off, data)] } }.updReply 0x42 0 []
            else (t.toggle 27).updReply 0x42 0x41 []))

/-- The offsets of an image's blocks. -/
def blockOffs (h : List Byte) : List Nat := (List.range (hdrLen h / 4096)).map (· * 4096)
/-- Whether every block of an image is held. -/
def Bank.full (b : Bank) (typ : Nat) (h : List Byte) : Bool := (blockOffs h).all (fun o => (b.block typ o).isSome)
/-- The bytes of an image in a bank. -/
def Bank.image (b : Bank) (typ : Nat) (h : List Byte) : List Byte :=
  ((blockOffs h).map (fun o => (b.block typ o).getD (List.replicate 4096 0))).flatten

/-- Whether an image has the hash its header names. -/
def hashOk (h img : List Byte) : Bool := sha384 img == (h.drop 0x40).take 48

/-- Whether a STRUCT image disagrees with its update header (R131, R136): type, length, padding, version, interface version and ranges,
COMPAT. -/
def structHdrBad (h l : List Byte) : Bool :=
  leAt h 0x0C 1 != leAt l 0x0C 1 || hdrLen h != paddedLen (totalLen l) || !zeroIn l (totalLen l) l.length || leAt h 8 4 != leAt l 8 4 ||
  leAt h 0x10 4 != leAt l 0x10 4 || leAt h 0x14 2 != leAt l 0x14 2 || leAt h 0x18 12 != leAt l 0x18 12 ||
  leAt h 0x28 4 != leAt l 0x24 4 || leAt h 0x30 8 != leAt l 0x28 8

/-- The update headers of the active images by type. -/
def Upd.activeHeads (u : Upd) : List (Nat × List Byte) := u.active.map (fun f => (f.typ, f.head))
/-- The headers of a set together with those of the active images it does not replace. -/
def Upd.merged (u : Upd) (heads : List (Nat × List Byte)) : List (Nat × List Byte) :=
  heads ++ u.activeHeads.filter (fun a => !heads.any (fun x => x.1 == a.1))

/-- The type of the first image whose IF_REQ ranges exclude another image's IF_VER (R136 item 4). -/
def ifConflict (hs : List (Nat × List Byte)) : Option Nat :=
  (hs.find? (fun x => hs.any (fun y => x.1 != y.1 && (match ifPair y.1 with
    | some k => !ifIn x.2 0x18 k (hdrIf y.2)
    | none => false)))).map (·.1)

/-- STRUCT_STAT or STRUCT_STAGED written (R98, R530). -/
def State.structRes (s : State) (stat : Bool) (r : StructRes) : State :=
  let f := if stat then [(Rg.STRUCT_STAT.CODE, r.code), (Rg.STRUCT_STAT.SECTION, r.sect), (Rg.STRUCT_STAT.RECORD, min r.rec_ 0xFFFF)]
    else [(Rg.STRUCT_STAGED.CODE, r.code), (Rg.STRUCT_STAGED.SECTION, r.sect), (Rg.STRUCT_STAGED.RECORD, min r.rec_ 0xFFFF)]
  (s.sets bMpc f).toggle 31

/-- The checks of UPD_FINALIZE in their order (R136): the status, the failing image type, and the state with STRUCT_STAGED written
where the structure image was checked. -/
def State.finalCheck (s : State) (b : Bank) : State × Nat × Nat :=
  if b.heads = [] then (s, 0x35, 0)
  else match b.heads.find? (fun x => !b.full x.1 x.2) with
  | some x => (s, 0x30, x.1)
  | none =>
    match b.heads.find? (fun x => !hashOk x.2 (b.image x.1 x.2)) with
    | some x => (s, 0x31, x.1)
    | none =>
      let hs := s.upd.merged b.heads
      let pairs (t : State) : State × Nat × Nat := match ifConflict hs with
        | some k => (t, 0x32, k)
        | none => (t, 0, 0)
      match b.head 4 with
      | none => pairs s
      | some h =>
        let l := b.image 4 h
        if structHdrBad h l then (s, 0x33, 4)
        else match structCheck l (hdrLen h) (s.structSigned l) (s.get bDdr Rg.DDR_CFG.SIZE) (hs.filter (fun x => x.1 != 4)) with
          | some r => (s.structRes false r, 0x34, 4)
          | none => pairs (s.structRes false ⟨0, 0, 0⟩)

/-- UPD_FINALIZE: on success the bank becomes FINAL, an earlier FINAL bank SUPERSEDED, and the session closes; on failure the session
stays open. -/
def execUpdFinalize (s : State) : Host.Outcome State Fault Refusal :=
  .next (s.updOp 0x43 (fun p =>
    match s.session p with
    | none => s.updReply 0x43 0x20 (leBytes 1 0)
    | some (t, x) =>
      let b := t.upd.bank x.bank
      let r := t.finalCheck b
      let u := r.1
      let u := if r.2.1 = 0 then
        let banks := u.upd.banks.map (fun k => if k.st = 2 then { k with st := 6 } else k)
        { u with upd := { ({ u.upd with banks := banks }).setBank x.bank { b with st := 2 } with sess := none } } else u
      u.updReply 0x43 r.2.1 (leBytes 1 r.2.2)))

/-- The open session ends and its bank becomes ABORTED (R132). -/
def State.updAbort (s : State) : State :=
  match s.upd.sess with
  | some x => { s with upd := { s.upd.setBank x.bank { s.upd.bank x.bank with st := 7 } with sess := none } }
  | none => s

/-- UPD_ABORT: the open session is ended. -/
def execUpdAbort (s : State) : Host.Outcome State Fault Refusal :=
  .next (s.updOp 0x44 (fun p =>
    match s.session p with
    | none => s.updReply 0x44 0x20 []
    | some (t, _) => t.updAbort.updReply 0x44 0 []))

/-- SESSION_TIMEOUT: a session with no operation for 600 s is aborted. -/
def execSessionTimeout (s : State) : Host.Outcome State Fault Refusal :=
  match s.upd.sess with
  | some x => if x.last + 600000000000 ≤ s.now then .next s.updAbort else .next s
  | none => .next s

/-- UPD_STATUS: bank states, SESSION of the open session or 0, blocks held of types 1–6 in the open or last staged bank, last
status. -/
def State.updStatus (s : State) : List Byte :=
  let k := match s.upd.sess with
    | some x => x.bank
    | none => 0
  let b := s.upd.bank k
  leBytes 1 (s.upd.bank 0).st ++ leBytes 1 (s.upd.bank 1).st ++
  leBytes 2 (match s.upd.sess with | some x => x.id | none => 0) ++
  ([1, 2, 3, 4, 5, 6].map (fun t => leBytes 2 ((b.blocks.filter (fun x => x.1 == t)).length))).flatten ++ leBytes 1 s.upd.last

/-- UPD_STATUS: the row. -/
def execUpdStatus (s : State) : Host.Outcome State Fault Refusal :=
  match s.yxServing 0x45 with
  | some _ => .next (s.yxReply 0x45 0 0 s.updStatus)
  | none => .next s

end Sys2Proof.Machine
end

