-- ==== Sys2Proof/Machine/Mailbox.lean ====
section
/-! DEFINITION. The PCIe endpoint's link and the Yupex mailbox: submission, the checks of a request, and the operations that need no
register access (R468, R472–R478). -/

namespace Sys2Proof.Machine

/-! ### Endpoint -/

/-- The link goes down or trains up (R468): LINK_UP, its speed and width, and LINK_CHG and MP's
comparison of the partner (R551) on a change. -/
def State.linkSet (s : State) (up : Bool) (speed width : Nat) : State :=
  let was := s.flag bPcie Rg.PCIE_STAT.LINK_UP
  let t := s.sets bPcie [(Rg.PCIE_STAT.LINK_UP, b2n up), (Rg.PCIE_STAT.SPEED, if up then speed else 0),
    (Rg.PCIE_STAT.WIDTH, if up then width else 0)]
  if was = up then t else (t.event 24 bPcie Rg.PCIE_EVT.LINK_CHG).partner 3 0 (t.word bPcie .PCIE_STAT)

/-- PCIE_PERST_ASSERT: PCIE_PERST_N goes low, which holds the endpoint in reset, drops the link and abandons the request in progress
(R472); `low` false is the pin's release. The vectors the host has enabled are lost with the endpoint's reset. -/
def execPciePerstAssert (low : Bool) (s : State) : Host.Outcome State Fault Refusal :=
  let s := { s with pcie := { s.pcie with perst := low } }
  if !s.on .io then .next s
  else if low then
    let t := (s.set bPcie Rg.PCIE_STAT.PERST 1).event 24 bPcie Rg.PCIE_EVT.PERST
    let t := t.linkSet false 0 0
    let busy := t.flag bYx Rg.YX_STAT.BUSY
    .next { t with pcie := { t.pcie with msixEn := [] }, yx := { t.yx with abandoned := t.yx.abandoned || busy } }
  else .next (s.set bPcie Rg.PCIE_STAT.PERST 0)

/-- PCIE_LINK_CHANGE: the link trains up, where the endpoint has started, is allowed and is not held in reset, or goes down. `vecs` are
the MSI-X vectors that the host has enabled on a link that is up (DESIGN CHOICE, log entry 71: no row brings the host's configuration). -/
def execPcieLinkChange (up : Bool) (speed width : Nat) (vecs : List Nat) (s : State) : Host.Outcome State Fault Refusal :=
  if !s.on .io then .next s
  else if up then
    if s.pcie.started ∧ s.pcie.allowed ∧ !s.flag bPcie Rg.PCIE_STAT.PERST ∧ 1 ≤ speed ∧ speed ≤ 3 ∧ (width = 1 ∨ width = 2 ∨ width = 4) then
      let t := s.linkSet true speed width
      .next { t with pcie := { t.pcie with msixEn := vecs.filter (fun v => decide (v < 16)) } }
    else .next s
  else .next (s.linkSet false 0 0)

/-! ### Submission -/

/-- The request in the request buffer: its header, and the payload its LEN names where LEN is allowed. -/
def State.yxBuffer (s : State) : List Byte :=
  let h := s.getBuf bYx Rg.YX_REQBUF.DATA 4
  let n := yxLen h
  if 4160 < n then h else (s.getBuf bYx Rg.YX_REQBUF.DATA (4 + (n + 7) / 8)).take (32 + n)

/-- YX_CTRL.GO (R475): the PCIe request is submitted, or ignored with GO_IGN while BUSY. -/
def State.yxGo (s : State) : State :=
  if s.flag bYx Rg.YX_STAT.BUSY then s.event 25 bYx Rg.YX_EVT.GO_IGN
  else { s.set bYx Rg.YX_STAT.BUSY 1 with yx := { s.yx with pcie := some ⟨none, s.yxBuffer⟩, abandoned := false } }

/-- YX_CTRL.ACK: RESP_RDY clears. -/
def State.yxAck (s : State) : State := s.set bYx Rg.YX_STAT.RESP_RDY 0

/-- Who may write the mailbox block: the host through BAR2 while the link is up, and the masters of R74. -/
def mayMailbox (s : State) (m : Master) : Bool := m == .host || mayWriteService s m

/-- A write of YX_CTRL: a host reaches it only while the link is up (R468). -/
def State.yxCtl (s : State) (m : Master) (f : State → State) : State :=
  if m = .host ∧ !s.flag bPcie Rg.PCIE_STAT.LINK_UP then s else s.actWrite m (mayMailbox s m) .io bYx f

/-- YUPEX_GO: YX_CTRL.GO is written. -/
def execYupexGo (m : Master) (s : State) : Host.Outcome State Fault Refusal := .next (s.yxCtl m State.yxGo)
/-- YUPEX_ACK: YX_CTRL.ACK is written. -/
def execYupexAck (m : Master) (s : State) : Host.Outcome State Fault Refusal := .next (s.yxCtl m State.yxAck)

/-! ### Checks of a request -/

/-- The payload length an operation takes; none for an operation that checks its own, or is unknown. -/
def yxArgLen : Nat → Option Nat
  | 0x01 => some 0 | 0x10 => some 1 | 0x11 => some 1 | 0x20 => some 6 | 0x21 => some 14 | 0x30 => some 1
  | 0x40 => some 0 | 0x41 => some 4098 | 0x42 => some 4103 | 0x43 => some 2 | 0x44 => some 2 | 0x45 => some 0
  | 0x50 => some 0 | 0x51 => some 0 | 0x52 => some 16 | 0x53 => some 0 | _ => none

/-- Whether OP is an operation of R477. -/
def yxKnown (op : Nat) : Bool := op == 0x31 || (yxArgLen op).isSome

/-- Whether a frame is malformed (R476): LEN above 4,160 or disagreeing with the frame or its operation, or a byte that a request
holds at 0. -/
def yxBad (f : List Byte) : Bool :=
  let n := yxLen f
  decide (4160 < n) || f.length != 32 + n || leAt f 5 1 != 0 || leAt f 12 4 != 0 || leAt f 4 1 / 4 != 0 || bitOf 0 (leAt f 4 1) ||
  (match yxArgLen (yxOp f) with
   | some k => n != k
   | none => yxOp f == 0x31 && (decide (n < 5) || n != 5 + leAt f 35 2))

/-- The frame status that refuses a request before its operation (R476); none when the operation runs. -/
def State.yxRefusal (s : State) (r : YxReq) : Option Nat :=
  let op := yxOp r.frame
  firstBad [
    (yxBad r.frame, 2),
    (!yxKnown op, 3),
    (r.src.isSome && (!s.flag bYx Rg.YX_CFG.UDP_EN || (op == 0x50 && !s.flag bMpc Rg.FS_CFG.NET_EN)), 6),
    (s.yxNeedsTag r && !s.yxTagOk r, 4),
    (s.yxNeedsTag r && decide (yxSeq r.frame ≤ s.get bYx Rg.YX_SEQ.SEQ), 5)]

/-- A refused request: its counter and event, and its response. -/
def State.yxRefuse (s : State) (r : YxReq) (c : Nat) : State :=
  let t := if c = 2 then s.count bYx Rg.YX_CNT.BAD_FRAME 1
    else if c = 4 then (s.count bYx Rg.YX_CNT.AUTH_FAIL 1).event 25 bYx Rg.YX_EVT.AUTH_FAIL
    else if c = 5 then s.count bYx Rg.YX_CNT.REPLAY 1 else s
  t.yxSend r c []

/-- A request taken (R475, R476): dropped for its MAGIC or VER, answered as a repetition, refused, or put to its operation. -/
def State.yxTake (s : State) (r : YxReq) : State :=
  if leAt r.frame 0 3 ≠ 0x015859 then
    let t := s.count bYx Rg.YX_CNT.BAD_FRAME 1
    if r.src.isNone then { t.set bYx Rg.YX_STAT.BUSY 0 with yx := { t.yx with abandoned := false } } else t
  else match s.yx.last.find? (fun l => l.req == r) with
    | some l => s.yxSend r l.fstat l.payload
    | none =>
      match s.yxRefusal r with
      | some c => s.yxRefuse r c
      | none =>
        let t := if s.yxNeedsTag r then s.set bYx Rg.YX_SEQ.SEQ (yxSeq r.frame) else s
        { t with yx := { t.yx with serving := some r } }

/-- YUPEX_REQUEST: the mailbox, serving no request, takes the next: the PCIe transport and the UDP queue in turn. -/
def execYupexRequest (s : State) : Host.Outcome State Fault Refusal :=
  if !s.on .io ∨ s.yx.serving.isSome then .next s
  else match s.yx.pcie, s.yx.queue with
    | none, [] => .next s
    | some p, [] => .next ({ s with yx := { s.yx with pcie := none, udpNext := true } }.yxTake p)
    | none, u :: t => .next ({ s with yx := { s.yx with queue := t, udpNext := false } }.yxTake u)
    | some p, u :: t =>
      if s.yx.udpNext then .next ({ s with yx := { s.yx with queue := t, udpNext := false } }.yxTake u)
      else .next ({ s with yx := { s.yx with pcie := none, udpNext := true } }.yxTake p)

/-! ### Operations -/

/-- HELLO: the device's identity, mode and status. -/
def execHello (s : State) : Host.Outcome State Fault Refusal :=
  .next (s.yxReply 0x01 0 0 (leBytes 4 0x7740 ++ leBytes 1 Config.stepping.toNat ++ leBytes 4 (s.word bMpc .MODE_STAT) ++
    leBytes 4 (s.word bMpc .FS_STAT) ++ leBytes 4 (s.word bMpc .STRUCT_ID) ++ leBytes 4 (s.get bYx Rg.YX_EPOCH.EPOCH)))

/-- A host mode command passed to MP, which writes MODE_REQ with CAUSE 0 (R103, R477): SURVEY is no command of MAINTENANCE and EXIT is
one of MAINTENANCE only. -/
def State.hostMode (s : State) (target : Nat) : State :=
  match target with
  | 1 => s.modeAsk 1 0 .survey
  | 2 => s.modeReq 2 0
  | 4 => s.modeReq 4 0
  | 5 => s.modeReq 5 0
  | 6 => s.modeAsk 1 0 .exit
  | _ => s.modeReq 7 0

/-- YUPEX_MODE: the MODE operation; its answer carries MODE_RES.RESULT. -/
def execYupexMode (s : State) : Host.Outcome State Fault Refusal :=
  match s.yxServing 0x10 with
  | some p =>
    let t := s.hostMode (leAt p 0 1)
    .next (t.yxReply 0x10 0 0 (leBytes 1 (t.get bMpc Rg.MODE_RES.RESULT)))
  | none => .next s

/-- YUPEX_RESET: the RESET operation: the DONE response is sent, and a warm reset with WARM_HOST is due 1 ms later. -/
def execYupexReset (s : State) : Host.Outcome State Fault Refusal :=
  match s.yxServing 0x11 with
  | some p =>
    let t := s.yxReply 0x11 0 0 []
    let t := if bitOf 0 (leAt p 0 1) then t.set bMpc Rg.RESET_CAUSE.MAINT_BOOT 1 else t
    let t := (t.set bMpc Rg.RESET_CAUSE.WARM_HOST 1).askReset 2
    .next { t with power := { t.power with hostAt := s.nowNs + 1000000 } }
  | none => .next s

/-- The update header of the image that a type runs: of the Chrysalis bank where the start took it from one (R501), else the active. -/
def Upd.running (u : Upd) (typ : Nat) : Option (List Byte) :=
  match u.fell.find? (fun x => x.1 == typ) with
  | some x => (u.bank x.2).head typ
  | none => (u.active.find? (fun f => f.typ == typ)).map (fun f => f.head)

/-- SETTINGS_FMT of the image that a type runs. -/
def Upd.settingsFmt (u : Upd) (typ : Nat) : Option Nat := (u.running typ).map (fun l => leAt l 0x16 2)

/-- The stored settings of an image type. -/
def Upd.setting (u : Upd) (typ : Nat) : Option Settings := u.settings.find? (fun x => x.typ == typ)

/-- Settings of an image type stored in both copies. -/
def Upd.store (u : Upd) (x : Settings) : Upd := { u with settings := u.settings.filter (fun y => y.typ != x.typ) ++ [x] }

/-- SET_READ: the settings record of an image type; a type with no active image gives BAD_FMT. -/
def execSetRead (s : State) : Host.Outcome State Fault Refusal :=
  match s.yxServing 0x30 with
  | some p =>
    let typ := leAt p 0 1
    match s.upd.setting typ, s.upd.settingsFmt typ with
    | some x, _ => .next (s.yxReply 0x30 0 0 (leBytes 2 x.fmt ++ leBytes 2 x.rec_.length ++ x.rec_))
    | none, some f => .next (s.yxReply 0x30 0 0 (leBytes 2 f ++ leBytes 2 0))
    | none, none => .next (s.yxReply 0x30 0 2 [])
  | none => .next s

/-- SET_WRITE: both settings copies are written and the record is handed to its firmware, or BAD_FMT or TOO_LONG. -/
def execSetWrite (s : State) : Host.Outcome State Fault Refusal :=
  match s.yxServing 0x31 with
  | some p =>
    let typ := leAt p 0 1
    let fmt := leAt p 1 2
    let data := p.drop 5
    if s.upd.settingsFmt typ ≠ some fmt then .next (s.yxReply 0x31 0 2 [])
    else if Config.settingsSize typ < data.length ∨ 4096 < data.length then .next (s.yxReply 0x31 0 3 [])
    else .next ({ s with upd := s.upd.store ⟨typ, fmt, data⟩ }.yxReply 0x31 0 0 [])
  | none => .next s

end Sys2Proof.Machine
end

