-- ==== Sys2Proof/Machine/BusWrite.lean ====
section
/-! DEFINITION. What a register write does once the bus has let it through (R16–R20, R37 and every chapter's register tables): the
fields by their access types and locks, the registers that write-protect themselves, and the operations that a write starts. -/

namespace Sys2Proof.Machine

/-! ### Fields (R16–R19) -/

/-- One field written under its access type, RWL and the read-only types left alone. -/
def State.putFld (s : State) (base v : Nat) (f : Fld) : State :=
  let x := bits f.lo f.w v
  match f.acc with
  | .rw | .rws => s.set base f x
  | .w1c => s.set base f (s.get base f - (s.get base f &&& x))
  | .w1s => s.set base f (s.get base f ||| x)
  | .ro | .wo | .rwl => s

/-- The RWL fields of a write, with the block locked or not when it was made (R18). -/
def State.putRwl (s : State) (lock : Option (Nat × Fld × Fld)) (locked : Bool) (base v : Nat) (l : List Fld) : State :=
  if locked then
    match lock with
    | some (b, _, viol) => if l.any (fun f => s.get base f != bits f.lo f.w v) then s.set b viol 1 else s
    | none => s
  else l.foldl (fun t f => t.set base f (bits f.lo f.w v)) s

/-- A register written by the access types of its fields. -/
def State.putWord (s : State) (p : Place) (base : Nat) (r : Reg) (v : Nat) : State :=
  let lock := lockOf p.blk p.base
  let locked := match lock with
    | some (b, f, _) => s.flag b f
    | none => false
  let t := r.desc.flds.foldl (fun u f => u.putFld base v f) s
  t.putRwl lock locked base v (r.desc.flds.filter (fun f => f.acc == .rwl))

/-- A written value with one field replaced by what the register holds, so that the write leaves the field alone. -/
def State.keeping (s : State) (base v : Nat) (f : Fld) : Nat := putBits f.lo f.w v (s.get base f)

/-- A written value whose field keeps the present value unless a condition holds. -/
def State.keepUnless (s : State) (ok : Bool) (base v : Nat) (f : Fld) : Nat := if ok then v else s.keeping base v f

/-- Whether a write would change a field of the register other than one. -/
def State.changes_ (s : State) (base v : Nat) (r : Reg) (but : Fld) : Bool :=
  r.desc.flds.any (fun f => f != but && (f.acc == .rw) && s.get base f != bits f.lo f.w v)

/-- Every field of a register set to 0: counters cleared. -/
def State.zeroReg (s : State) (base : Nat) (r : Reg) : State := r.desc.flds.foldl (fun t f => t.set base f 0) s

/-- The number of a tile's lane or context counted over its kind. -/
def laneNo (p : Place) (h : Hit) : Nat :=
  (match p.pos with
   | some q => instAt q * tileLanes p.blk
   | none => 0) + h.idx.headD 0

/-- The instance number of a tile. -/
def Place.inst (p : Place) : Nat := match p.pos with
  | some q => instAt q
  | none => 0

/-- The index of a register within a lane or a controller. -/
def Hit.sub (h : Hit) : Nat := h.idx.getD 1 0

/-- A structural register: while it is locked a write is ignored and sets its event. -/
def State.structural (s : State) (locked : Bool) (ev : State → State) (f : State → State) : State := if locked then ev s else f s

/-! ### Answers from outside -/

/-- `n` words of 8 bytes that the outside presents. -/
def outsideBytes : Nat → Nat → List Byte
  | 0, _ => []
  | n + 1, i => leBytes 8 (Config.outside i).toNat ++ outsideBytes n (i + 1)

/-- What the outside presents next, as a number. -/
def State.outside (s : State) : Nat := (Config.outside s.free).toNat

/-- What a front end presents to an enable that brings no probe. -/
def State.probe (s : State) : FeProbe :=
  ⟨outsideBytes 4 s.free, (outsideBytes 1 (s.free + 4)).take 7, leVal (outsideBytes 9 (s.free + 5)), leVal (outsideBytes 9 (s.free + 14))⟩

/-! ### Service blocks -/

/-- COC_CTRL written: setting VALID dates the contents. -/
def State.cocCtrl (s : State) (p : Place) (v : Nat) : State :=
  let t := s.putWord p bMpc .COC_CTRL v
  if bitOf 0 v then
    let u := t.set bMpc Rg.COC_TIME.INSTANT t.now
    { u with boot := { u.boot with refKept := s.flag bTime Rg.TIME_STAT.REF_OK } }
  else t

/-- RESET_CTRL written (R118): only the key asks for a warm reset. -/
def State.resetCtrl (s : State) (v : Nat) : State :=
  if bits 0 16 v = 0x5752 then
    let t := if bitOf 16 v then s.set bMpc Rg.RESET_CAUSE.MAINT_BOOT 1 else s
    (t.set bMpc Rg.RESET_CAUSE.WARM_SW 1).askReset 1
  else s

/-- FS_CTRL written: SW_STOP latches; TEST_GO starts the path test with the pins as the outside presents them. -/
def State.fsCtrl (s : State) (v : Nat) : State :=
  let t := if bitOf 0 v then s.stopLatch 4 else s
  if bitOf 1 v then (t.pathTest (bitOf 0 t.outside)).fresh else t

/-- A register of the mode and power controller written. -/
def State.wMpc (s : State) (p : Place) (h : Hit) (v : Nat) : State :=
  match h.reg with
  | .MODE_REQ => s.modeReq (bits 0 3 v) (bits 4 4 v)
  | .RESET_CTRL => s.resetCtrl v
  | .COC_CTRL => s.cocCtrl p v
  | .COC_DATA => s.coPut v
  | .FS_CTRL => s.fsCtrl v
  | r => s.putWord p h.base r v

/-- A register of the dispatcher written. -/
def State.wDsp (s : State) (m : Master) (p : Place) (h : Hit) (v : Nat) : State :=
  match h.reg with
  | .DSP_CTRL => s.putWord p bDsp .DSP_CTRL (s.keepUnless (decide (bits 1 8 v ≤ 64)) bDsp v Rg.DSP_CTRL.FLEET_RSV)
  | .DSP_FLOW_DATA => s.flowData v
  | .PORT_OP => s.portOpWrite m (h.idx.headD 0) v
  | r => s.putWord p h.base r v

/-- TIME_CTRL written; a HOLDOVER that begins in SERVICE makes TP ask for the mode (R153). -/
def State.timeCtrl (s : State) (v : Nat) : State :=
  let t := s.ctrlWrite v
  if heldOver s t then t.modeReq 3 2 else t

/-- TIME_STEP_CTRL written: CANCEL wins over GO (R151). -/
def State.stepCtrl (s : State) (v : Nat) : State :=
  if bitOf 2 v then s.stepCancelOp (bitOf 1 v) else if bitOf 0 v then s.stepGo (bitOf 1 v)
  else s.setB bTime Rg.TIME_STEP_CTRL.ABS (bitOf 1 v)

/-- LEAP_AT written: it arms the leap, and 0 disarms it (R164). -/
def State.leapWrite (s : State) (v : Nat) : State :=
  { s.set bTime Rg.LEAP_AT.INSTANT v with time := { s.time with leap := v % 2 ^ 64 != 0 } }

/-- A register of the time core written. -/
def State.wTime (s : State) (p : Place) (h : Hit) (v : Nat) : State :=
  match h.reg with
  | .TIME_CTRL => s.timeCtrl v
  | .TIME_INC => s.incWrite v
  | .TIME_ERA_NEXT => s.eraNextWrite v
  | .TIME_ADJ => s.adjWrite v
  | .TIME_STEP_CTRL => s.stepCtrl v
  | .TIME_TERR => s.terrW v
  | .LEAP_AT => s.leapWrite v
  | .TPOL_SRC => (s.putWord p h.base .TPOL_SRC v).reselect
  | .PPS_CFG =>
    let t := s.putWord p h.base .PPS_CFG v
    if bitOf 3 v then t.measure (h.idx.headD 0) else t
  | .PPS_OFS =>
    s.putWord p h.base .PPS_OFS (s.keepUnless (decide ((sgn 32 v).natAbs ≤ 400000000)) h.base v Rg.PPS_OFS.OFS)
  | r => s.putWord p h.base r v

/-- RF_CFG written. -/
def State.rfCfg (s : State) (m : Master) (p : Place) (n v : Nat) : State :=
  let b := rfBase n
  let t := s.putWord p b .RF_CFG (s.keeping b v Rg.RF_CFG.EN)
  if bitOf 0 v then if t.flag b Rg.RF_CFG.EN then t else (t.rfEnable m n t.probe).drawn 23
  else if t.flag b Rg.RF_CFG.EN then t.rfDisable n else t

/-- RF_CTRL written. -/
def State.rfCtrl (s : State) (m : Master) (n v : Nat) : State :=
  let t := if bitOf 0 v then (s.rfRetrain m n s.probe).drawn 23 else s
  if bitOf 1 v then t.jamLearn n else t

/-- A register of an RF sample port written. -/
def State.wRf (s : State) (m : Master) (p : Place) (h : Hit) (v : Nat) : State :=
  let n := h.idx.headD 0
  let man := s.flag (rfBase n) Rg.RF_CFG.FE_MANUAL
  match h.reg with
  | .RF_CFG => s.rfCfg m p n v
  | .RF_CTRL => s.rfCtrl m n v
  | .RF_FE => if man then s.putWord p h.base .RF_FE v else s.set h.base Rg.RF_FE.MAX_RATE (bits 38 8 v)
  | .RF_NOTCH =>
    s.putWord p h.base .RF_NOTCH (s.keepUnless (decide (s.get h.base Rg.RF_NOTCH.MODE < 2)) h.base v Rg.RF_NOTCH.CENTRE)
  | .RF_FE_DLY => s.putWord p h.base .RF_FE_DLY (s.keepUnless man h.base v Rg.RF_FE_DLY.GRP_DELAY)
  | r => s.putWord p h.base r v

/-- A register of the waveform I/O block written. -/
def State.wWv (s : State) (p : Place) (h : Hit) (v : Nat) : State :=
  let n := h.idx.headD 0
  match h.reg with
  | .AO_CFG =>
    let t := s.putWord p h.base .AO_CFG v
    (if bitOf 3 v then t.pinClear n else t).pinUpdate n
  | .AO_SEL => (s.putWord p h.base .AO_SEL v).pinUpdate n
  | .TL_CFG =>
    let t := s.putWord p h.base .TL_CFG v
    if bitOf 11 v then t.lineDrive n else t
  | r => s.putWord p h.base r v

/-- RP_CFG written: while EN is 1 a write changes only EN. -/
def State.rpCfg (s : State) (p : Place) (n v : Nat) : State :=
  let b := rpBase n
  if s.flag b Rg.RP_CFG.EN then if bitOf 0 v then s else s.portDisable n
  else
    let t := s.putWord p b .RP_CFG (putBits 0 1 v 0)
    if bitOf 0 v then (t.portEnable n (outsideBytes 1 t.free)).fresh else t

/-- A register of the radio port I/O block written. -/
def State.wRadio (s : State) (p : Place) (h : Hit) (v : Nat) : State :=
  let n := h.idx.headD 0
  match h.reg with
  | .FR_ASN_BASE => s.asnBaseWrite v
  | .RP_CFG => s.rpCfg p n v
  | .RP_RAW =>
    let t := s.putWord p h.base .RP_RAW v
    if bitOf 3 v then (t.rawGo n t.outside).fresh else t
  | r => s.putWord p h.base r v

/-- ETH_CFG written: while EN is 1 only EN changes. PAIR_EN exists on port A alone. -/
def State.ethCfg (s : State) (p : Place) (n v : Nat) : State :=
  let b := ethBase n
  let v := if n = 0 then v else putBits 1 1 v 0
  if s.flag b Rg.ETH_CFG.EN then
    let t := s.ethEvent n Rg.ETH_EVT.CFG_LOCKED
    if bitOf 0 v then t else t.ethEnable n false
  else
    let t := s.putWord p b .ETH_CFG (putBits 0 1 v 0)
    if bitOf 0 v then t.ethEnable n true else t

/-- A register of an Ethernet port written: only TP writes what IEEE 1588 gives it. -/
def State.wEth (s : State) (m : Master) (p : Place) (h : Hit) (v : Nat) : State :=
  let n := h.idx.headD 0
  let tp := m == .tp
  match h.reg with
  | .ETH_CFG => s.ethCfg p n v
  | .ETH_STAT => if tp then s.putWord p h.base .ETH_STAT v else s
  | .ETH_LP => if tp then s.putWord p h.base .ETH_LP v else s
  | .ETH_RULE => if s.paired ∧ n = 1 then s else s.putWord p h.base .ETH_RULE v
  | .ETH_DEF => if s.paired ∧ n = 1 then s else s.putWord p h.base .ETH_DEF v
  | .ETH_CNT => (s.zeroReg h.base .ETH_CNT).zeroReg h.base .ETH_CNT2
  | .ETH_SWTX_CTL => if bitOf 0 v ∧ s.ethOn n then s.swtxGo n else s
  | .UP_CTRL => if bitOf 0 v then s.uplinkSwitch else s
  | r => s.putWord p h.base r v

/-- CN_CTRL written. -/
def State.cnCtrl (s : State) (n v : Nat) : State :=
  let t := if bitOf 3 v ∧ (s.can n).adr.isSome then s.adrEnd n 5 else s
  let t := if bitOf 2 v then t.adrGo n else t
  let t := if bitOf 0 v then t.canEnable n else t.canDisable n
  let t := if bitOf 1 v ∧ t.canOn n ∧ t.cnState n = 4 then t.set (cnBase n) Rg.CN_STAT.STATE 5 else t
  if bitOf 4 v then t.zeroReg (cnBase n) .CN_CNT else t

/-- A register of a CAN controller written. -/
def State.wCan (s : State) (p : Place) (h : Hit) (v : Nat) : State :=
  let n := h.idx.headD 0
  let lock (t : State) : State :=
    t.structural (s.flag (cnBase n) Rg.CN_CTRL.EN) (fun u => u.cnEvent n Rg.CN_EVT.CFG_LOCKED) (fun u => u.putWord p h.base h.reg v)
  match h.reg with
  | .CN_CFG => lock s
  | .CN_NBT => lock s
  | .CN_DBT => lock s
  | .CN_TT_CFG => lock s
  | .CN_TT_WIN => lock s
  | .CN_CTRL => s.cnCtrl n v
  | .CN_OBJ_SEL => (s.release_ n).set (cnBase n) Rg.CN_OBJ_SEL.OBJ (bits 0 9 v)
  | .CN_OBJ_CFG => s.objConfig n v
  | .CN_OBJ_W => s.objWordWrite n h.sub (v % 2 ^ 32)
  | .CN_TXREQ => if bitOf 9 v then s.txCancel n (bits 0 9 v) else (s.txRequest n (bits 0 9 v) (bitOf 0 s.outside)).fresh
  | r => s.putWord p h.base r v

/-- A register of the Yupex mailbox written. -/
def State.wYx (s : State) (p : Place) (h : Hit) (v : Nat) : State :=
  match h.reg with
  | .YX_CTRL =>
    let t := if bitOf 1 v then s.yxAck else s
    if bitOf 0 v then t.yxGo else t
  | r => s.putWord p h.base r v

/-- A register of the DDR controller written. -/
def State.wDdr (s : State) (p : Place) (h : Hit) (v : Nat) : State :=
  match h.reg with
  | .DDR_ECC => s.zeroReg bDdr .DDR_ECC
  | .DDR_INJ => s.armInject v
  | r => s.putWord p h.base r v

/-- A register of the Gauntlet mailbox written: in FIELD and RETURN no enable of TAMP_CFG is cleared, and a LATCHED bit stays while
its source asserts. -/
def State.wSec (s : State) (p : Place) (h : Hit) (v : Nat) : State :=
  match h.reg with
  | .TAMP_CFG =>
    let lc := s.get bSec Rg.SEC_STAT.LC
    let en := s.get bSec Rg.TAMP_CFG.PIN_EN + bits 16 4 (s.word bSec .TAMP_CFG) * 2 ^ 16
    s.putWord p bSec .TAMP_CFG (if lc = 2 ∨ lc = 3 then v ||| en else v)
  | .TAMP_STAT =>
    let act := s.get bSec Rg.TAMP_STAT.ACTIVE
    let clr := bits 8 8 v
    s.putWord p bSec .TAMP_STAT ((clr - (clr &&& act)) * 2 ^ 8)
  | .GM_CTL =>
    let c := h.idx.headD 0
    let t := if bitOf 1 v then s.gmAck c else s
    if bitOf 0 v then t.gmGo c else t
  | r => s.putWord p h.base r v

/-- A register of the event router written: fixed target bits stay 1 (R531). -/
def State.wEr (s : State) (p : Place) (h : Hit) (v : Nat) : State :=
  match h.reg with
  | .ER_CTRL =>
    let t := s.putWord p bEr .ER_CTRL v
    if bitOf 2 v then (List.range 256).foldl (fun u n => u.set (bEr + n * 4) Rg.ER_CNT.COUNT 0) t else t
  | .ER_SWRAISE => s.swPulse (bits 0 4 v)
  | .ER_ROUTE =>
    let fx := fixedTargets (h.idx.headD 0)
    (s.set h.base Rg.ER_ROUTE.TARGET (s.get h.base Rg.ER_ROUTE.TARGET ||| fx)).putWord p h.base .ER_ROUTE (v ||| fx)
  | r => s.putWord p h.base r v

/-- A register of the event recorder written. -/
def State.wRc (s : State) (p : Place) (h : Hit) (v : Nat) : State :=
  match h.reg with
  | .RC_CTRL =>
    let t := s.putWord p bRc .RC_CTRL v
    if bitOf 1 v then t.startFlush else t
  | .RC_ACK => s.ackTo v
  | .RC_LOSS => s.zeroReg bRc .RC_LOSS
  | .RC_SW_GO => if bitOf 0 v then s.swGo (h.idx.headD 0) else s
  | .RC_RATE => (s.refill.putWord p h.base .RC_RATE v).keepBucket (h.idx.headD 0) (s.refill.bucket (h.idx.headD 0))
  | r => s.putWord p h.base r v

/-! ### Tiles -/

/-- A register of a loop lane written (R171, R176). -/
def State.wLoop (s : State) (p : Place) (h : Hit) (v : Nat) : State :=
  let l := laneNo p h
  let lock (t : State) : State :=
    t.structural (s.loopEn l) (fun u => u.loopEvent l Rg.LP_EVT.CFG_LOCKED) (fun u => u.putWord p h.base h.reg v)
  match h.reg with
  | .LP_CFG => lock s
  | .LP_RC => lock s
  | .LP_RC_ADDR => lock s
  | .LP_CTRL => s.loopCtrlWrite l v
  | .LP_TIMING =>
    let per := decide (100 ≤ bits 0 27 v ∧ bits 0 27 v ≤ 100000000)
    let pha := decide (bits 32 20 v ≤ 999999)
    let w := s.keepUnless pha h.base (s.keepUnless per h.base v Rg.LP_TIMING.PERIOD) Rg.LP_TIMING.PHASE
    let t := s.putWord p h.base .LP_TIMING w
    if per || pha then t.setLoop l { t.loop l with retime := true } else t
  | .LP_PV => (s.putWord p h.base .LP_PV v).regSample l
  | .LP_CT1D => s.putWord p h.base .LP_CT1D (s.keepUnless (bits 32 32 v != 0) h.base v Rg.LP_CT1D.STEP)
  | r => s.putWord p h.base r v

/-- A register of a search context written: ABORT wins over GO (R213). -/
def State.wAcq (s : State) (m : Master) (p : Place) (h : Hit) (v : Nat) : State :=
  let q := laneNo p h
  match h.reg with
  | .AQ_CTRL =>
    let t := s.putWord p h.base .AQ_CTRL v
    if bitOf 1 v then t.acqAbort q else if bitOf 0 v then t.acqGo m q else t
  | r => s.putWord p h.base r v

/-- A register of a tracking channel written (R214, R215). -/
def State.wCor (s : State) (m : Master) (p : Place) (h : Hit) (v : Nat) : State :=
  let c := laneNo p h
  match h.reg with
  | .CH_CFG =>
    s.structural (s.flag h.base Rg.CH_CTRL.EN) (fun u => u.chEvent c Rg.CH_EVT.CFG_LOCKED) (fun u => u.putWord p h.base .CH_CFG v)
  | .CH_CTRL =>
    let t := s.putWord p h.base .CH_CTRL (s.keeping h.base v Rg.CH_CTRL.EN)
    if bitOf 0 v then t.chEnable m c else if t.flag h.base Rg.CH_CTRL.EN then t.chDisable c else t
  | .CH_AID => if s.chState c = 0 ∨ s.chState c = 5 then s.putWord p h.base .CH_AID v else s.chEvent c Rg.CH_EVT.AID_IGN
  | .CH_AID_AT => s.chAid m c v
  | r => s.putWord p h.base r v

/-- A register of an OBS tile written. -/
def State.wObs (s : State) (p : Place) (h : Hit) (v : Nat) : State :=
  let i := p.inst
  match h.reg with
  | .OB_CFG =>
    let t := s.putWord p h.base .OB_CFG v
    if bitOf 24 v then ((t.zeroReg h.base .OB_CNT).zeroReg h.base .OB_CNT2).set h.base Rg.OB_LAT.MAX 0 else t
  | .OB_SV =>
    let t := s.putWord p h.base .OB_SV v
    if bitOf 2 v then t.surveyStart i else t
  | .OB_POSZ => s.poszWrite i v
  | .OB_BASE => s.baseWrite i v
  | .OB_INT =>
    let t := s.putWord p h.base .OB_INT v
    if bitOf 2 v then t.intClear i else t
  | .OB_SIDC_U => s.sidcCommit i v
  | .OB_OUT =>
    let n := h.idx.headD 0
    let t := s.putWord p h.base .OB_OUT (s.keeping h.base v Rg.OB_OUT.EN)
    if bitOf 0 v then if t.flag h.base Rg.OB_OUT.EN then t else t.outEnable i n else t.outDisable i n
  | r => s.putWord p h.base r v

/-- FL_BANK written: the fields of an active bank stay (R265, R284). -/
def State.flBank (s : State) (p : Place) (c base v : Nat) : State :=
  let busy (k : Nat) : Bool := s.flActive c == k || s.flag base Rg.FL_STAT.FADING
  let keepA (x : Nat) : Nat := s.keeping base (s.keeping base x Rg.FL_BANK.LIN_A) Rg.FL_BANK.GD_A
  let keepB (x : Nat) : Nat := s.keeping base (s.keeping base x Rg.FL_BANK.LIN_B) Rg.FL_BANK.GD_B
  let x := if busy 0 then keepA v else v
  let y := if busy 1 then keepB x else x
  (s.flEventIf (y != v) c Rg.FL_EVT.BANK_BUSY).putWord p base .FL_BANK y

/-- A coefficient written: bits 31–24 are ignored, and the active bank takes no write (R265). -/
def State.flCoef (s : State) (c k base : Nat) (f : Fld) (v : Nat) : State :=
  if s.flActive c = k ∨ s.flag (flBase c) Rg.FL_STAT.FADING then s.flEvent c Rg.FL_EVT.BANK_BUSY
  else s.set base f (pat 32 (sgn 24 v))

/-- FL_CTRL written. -/
def State.flCtrl (s : State) (p : Place) (c v : Nat) : State :=
  let b := flBase c
  let t := s.putWord p b .FL_CTRL (s.keeping b v Rg.FL_CTRL.EN)
  let t := if bitOf 0 v then t.flEnable c else if t.flag b Rg.FL_CTRL.EN then t.flDisable c else t
  let t := if bitOf 4 v then t.swapAsk c (bits 5 11 v) else t
  if bitOf 16 v then t.zeroReg b .FL_CNT else t

/-- A register of a waveform channel written. -/
def State.wFilt (s : State) (p : Place) (h : Hit) (v : Nat) : State :=
  let c := laneNo p h
  match h.reg with
  | .FL_CFG => s.structural (s.flEn c) (fun u => u.flEvent c Rg.FL_EVT.CFG_LOCKED) (fun u => u.putWord p h.base .FL_CFG v)
  | .FL_CTRL => s.flCtrl p c v
  | .FL_BANK => s.flBank p c h.base v
  | .FL_BANKA => s.flCoef c 0 h.base Rg.FL_BANKA.C v
  | .FL_BANKB => s.flCoef c 1 h.base Rg.FL_BANKB.C v
  | r => s.putWord p h.base r v

/-- A register of a phasor channel written. -/
def State.wPhs (s : State) (p : Place) (h : Hit) (v : Nat) : State :=
  let c := laneNo p h
  match h.reg with
  | .PH_CFG => s.structural (s.phEn c) (fun u => u.phEvent c Rg.PH_EVT.CFG_LOCKED) (fun u => u.putWord p h.base .PH_CFG v)
  | .PH_CTRL =>
    let t := if bitOf 0 v then s.phEnable c else s.phDisable c
    if bitOf 1 v then t.zeroReg h.base .PH_CNT else t
  | r => s.putWord p h.base r v

/-- AL_CFG written: with EN at 1 only EN can change. -/
def State.alCfg (s : State) (p : Place) (st v : Nat) : State :=
  let b := alBase st
  if s.flag b Rg.AL_CFG.EN then
    let t := if bitOf 0 v ∨ s.changes_ b v .AL_CFG Rg.AL_CFG.EN then s.atEvent p.inst Rg.AT_EVT.CFG_LOCKED else s
    if bitOf 0 v then t else t.streamOff st
  else
    let t := s.putWord p b .AL_CFG (putBits 0 1 v 0)
    if bitOf 0 v then t.streamOn st else t

/-- AL_MEMB written: the bit of a running concentration stays. -/
def State.alMemb (s : State) (p : Place) (b v : Nat) : State :=
  let run := ((List.range 16).filter (fun n => (s.conc n).isSome)).foldl (fun x n => x + 2 ^ n) 0
  let v := v % 2 ^ 16
  let x := (v - (v &&& run)) ||| (s.get b Rg.AL_MEMB.MEMB &&& run)
  (if x = v then s else s.atEvent p.inst Rg.AT_EVT.MEMB_LOCKED).set b Rg.AL_MEMB.MEMB x

/-- AC_CFG written. -/
def State.acCfg (s : State) (p : Place) (n base v : Nat) : State :=
  if s.flag base Rg.AC_STAT.RUN then
    if s.flag base Rg.AC_STAT.HOME then
      let t := if bitOf 0 v ∨ s.changes_ base v .AC_CFG Rg.AC_CFG.EN then s.atEvent p.inst Rg.AT_EVT.CFG_LOCKED else s
      if bitOf 0 v then t else t.concOff p.inst n
    else s
  else
    let t := s.putWord p base .AC_CFG (putBits 0 1 v 0)
    if bitOf 0 v then t.concOn p.inst n else t

/-- A register of an ALN tile written; `b` is its base in the selected stream. -/
def State.wAln (s : State) (p : Place) (h : Hit) (b v : Nat) : State :=
  let st := p.inst * 512 + s.get p.base Rg.AT_SEL.LANE
  let n := h.idx.headD 0
  let ev (u : State) : State := u.atEvent p.inst Rg.AT_EVT.CFG_LOCKED
  let lock (t : State) : State := t.structural (s.flag (alBase st) Rg.AL_CFG.EN) ev (fun u => u.putWord p b h.reg v)
  let conc (t : State) : State :=
    if s.flag h.base Rg.AC_STAT.RUN then if s.flag h.base Rg.AC_STAT.HOME then ev t else t else t.putWord p h.base h.reg v
  match h.reg with
  | .AL_CFG => s.alCfg p st v
  | .AL_ADDR => lock s
  | .AL_PORT => lock s
  | .AL_BLK => lock s
  | .AL_WAIT => lock s
  | .AL_MEMB => s.alMemb p b v
  | .AL_CNT => (s.zeroReg b .AL_CNT).zeroReg b .AL_CNT2
  | .AC_CFG => s.acCfg p n h.base v
  | .AC_BUF => conc s
  | .AC_FLOW => conc s
  | r => s.putWord p b r v

/-- A register of an analysis group written. -/
def State.wModa (s : State) (p : Place) (h : Hit) (v : Nat) : State :=
  let g := laneNo p h
  let lock (t : State) : State :=
    t.structural (s.mgEn g) (fun u => u.mgEvent g Rg.MG_EVT.CFG_LOCKED) (fun u => u.putWord p h.base h.reg v)
  match h.reg with
  | .MG_CFG => lock s
  | .MG_SIG => lock s
  | .MG_CTRL =>
    let t := if bitOf 0 v then s.groupOn g else if s.mgEn g then s.groupOff g else s
    let t := if bitOf 1 v then t.restartCmd g else t
    if bitOf 2 v then t.zeroReg h.base .MG_CNT else t
  | r => s.putWord p h.base r v

/-- TG_CTRL written. -/
def State.tgCtrl (s : State) (e v : Nat) : State :=
  let b := tgBase e
  let t := if bits 3 16 v = 0 then s else s.tgRelease e (bits 3 16 v)
  let t := if bitOf 2 v then t.tgAbort e
    else if bitOf 0 v then t.arm e
    else if t.flag b Rg.TG_CTRL.ARM then t.tgAbort e else t
  let t := if bitOf 1 v then t.trigger e ⟨7, t.nowNs, 0, false⟩ else t
  if bitOf 19 v then t.zeroReg b .TG_MISS else t

/-- A register of a capture engine written. -/
def State.wTrig (s : State) (p : Place) (h : Hit) (v : Nat) : State :=
  let e := laneNo p h
  let lock (t : State) : State :=
    t.structural (s.flag (tgBase e) Rg.TG_CTRL.ARM) (fun u => u.tgEvent e Rg.TG_EVT.CFG_LOCKED) (fun u => u.putWord p h.base h.reg v)
  match h.reg with
  | .TG_CFG => lock s
  | .TG_CH => lock s
  | .TG_AREA => lock s
  | .TG_SLOT => lock s
  | .TG_CTRL => s.tgCtrl e v
  | r => s.putWord p h.base r v

/-- MCFG written: while PROV is 1 only a write that clears PROV is taken, and it empties the entry. -/
def State.mcfg (s : State) (p : Place) (l k base v : Nat) : State :=
  if s.flag base Rg.MCFG.PROV then if bitOf 21 v then s else (s.putWord p base .MCFG v).entLeave l k 0
  else
    let t := s.putWord p base .MCFG v
    if bitOf 21 v then t.set base Rg.MSTAT.STATE 1 else t

/-- A register of a radio lane written. -/
def State.wMac (s : State) (p : Place) (h : Hit) (v : Nat) : State :=
  let l := laneNo p h
  let lock (t : State) : State :=
    t.structural (s.flag (macBase l) Rg.FR_CTRL.EN) (fun u => u.event (tileEv (macPos l)) (macBase l) Rg.FR_EVT.CFG_LOCKED)
      (fun u => u.putWord p h.base h.reg v)
  match h.reg with
  | .FR_CFG => lock s
  | .FR_HOP => lock s
  | .FR_EUI => lock s
  | .FR_CTRL =>
    let t := s.putWord p h.base .FR_CTRL (s.keeping h.base v Rg.FR_CTRL.EN)
    let t := if bitOf 0 v then t.laneEnable l else if t.flag h.base Rg.FR_CTRL.EN then t.laneDisable l else t
    if bitOf 2 v then (t.zeroReg h.base .FR_CNT).zeroReg h.base .FR_CNT2 else t
  | .MID => if s.flag h.base Rg.MCFG.PROV then s else s.putWord p h.base .MID v
  | .MCFG => s.mcfg p l h.sub h.base v
  | r => s.putWord p h.base r v

/-- TR_REQ4 written: GO acts unless a request is pending. -/
def State.trReq (s : State) (p : Place) (base v : Nat) : State :=
  let t := s.putWord p base .TR_REQ4 v
  if bitOf 17 v ∧ t.get base Rg.TR_RES.STATUS ≠ 15 then if bitOf 16 v then t.swFree else t.swReserve else t

/-- TM_CTRL written: ABORT first, then PAUSE, then RESUME. -/
def State.tmCtrl (s : State) (m v : Nat) : State :=
  if !s.trkLaneOn m then s
  else if bitOf 2 v then s.abortLane m else if bitOf 0 v then s.pauseLane m else if bitOf 1 v then s.resumeWrite m else s

/-- A register of a TRK tile written. -/
def State.wTrk (s : State) (p : Place) (h : Hit) (v : Nat) : State :=
  let t := p.inst
  let m := laneNo p h
  let lock (x : State) : State :=
    x.structural (s.flag p.base Rg.TK_CTRL.EN) (fun u => u.tkEvent t Rg.TK_EVT.CFG_LOCKED) (fun u => u.putWord p h.base h.reg v)
  match h.reg with
  | .TK_CFG => lock s
  | .TR_AREA => lock s
  | .CV_AREA => lock s
  | .CV_ORG => lock s
  | .CV_GEOM => lock s
  | .TK_CTRL =>
    let x := if bitOf 0 v then s.trkEnable t else s.trkDisable t
    if bitOf 1 v then x.zeroReg p.base .TK_CNT else x
  | .TK_SUB => s.submitTask t v
  | .TK_PROFV => s.profV t (h.idx.headD 0) v
  | .TK_PROFA => s.profA t (h.idx.headD 0) v
  | .TR_REQ4 => s.trReq p h.base v
  | .TM_CFG => s.structural (s.tmState m != 0) (fun u => u.tmEvent m Rg.TM_EVT.CFG_LOCKED) (fun u => u.putWord p h.base .TM_CFG v)
  | .TM_CTRL => s.tmCtrl m v
  | r => s.putWord p h.base r v

/-- A register of the selected context written by software (R444, R448). -/
def State.wCtx (s : State) (p : Place) (r : Reg) (b v : Nat) : State :=
  let n := p.inst
  let x := s.get p.base Rg.PK_SEL.CTX
  let owned := s.flag (pcBase n x) Rg.PC_CFG.OWNED
  let own (t : State) : State := t.pkEvent n Rg.PK_EVT.OWNED
  match r with
  | .PC_TCP => s.rcvNxt n x (bits 0 32 v)
  | .PC_PORTS =>
    if owned then
      let t := s.set b Rg.PC_PORTS.LPORT (bits 0 16 v)
      if s.get b Rg.PC_PORTS.RPORT = bits 16 16 v then t else own t
    else s.putWord p b .PC_PORTS v
  | .PC_CNT => s.zeroReg b .PC_CNT
  | .PC_CFG =>
    if owned then own s
    else if s.ctxOn n x then
      let t := s.pkEvent n Rg.PK_EVT.CFG_LOCKED
      if bitOf 0 v then t else t.ctxDisable n x
    else
      let t := s.putWord p b .PC_CFG (putBits 0 1 v 0)
      if bitOf 0 v then t.ctxEnable n x else t
  | r => if owned then own s else s.putWord p b r v

/-- A register of a PKT tile written. -/
def State.wPkt (s : State) (p : Place) (h : Hit) (b v : Nat) : State :=
  if 0x100 ≤ h.reg.desc.off then s.wCtx p h.reg b v
  else match h.reg with
  | .PK_CNT => s.zeroReg p.base .PK_CNT
  | r => s.putWord p h.base r v

/-- DM_CTL written. -/
def State.dmCtlWrite (s : State) (ch v : Nat) : State :=
  let t := s.set (dmBase ch) Rg.DM_CTL.PRIO (bits 6 2 v)
  let t := if bitOf 1 v then t.dmAbort ch else t
  let t := if bitOf 5 v then t.dmShClr ch else t
  let t := if bitOf 4 v then t.dmShGo ch else t
  let t := if bitOf 0 v then t.dmArm ch else t
  let t := if bitOf 2 v then t.dmContinue ch else t
  if bitOf 3 v then t.dmResume ch else t

/-- A register of a DMA channel written (R485). -/
def State.wDma (s : State) (p : Place) (h : Hit) (v : Nat) : State :=
  let ch := laneNo p h
  let st := s.dmState ch
  let put (t : State) : State := t.putWord p h.base h.reg v
  let act (t : State) : State :=
    t.structural (st == 1 || st == 3 || st == 4) (fun u => u.event (dmEv ch) (dmBase ch) Rg.DM_EVT.CFG_LOCKED) put
  let shd (t : State) : State :=
    t.structural (s.flag (dmBase ch) Rg.DM_STAT.SH_VALID) (fun u => u.event (dmEv ch) (dmBase ch) Rg.DM_EVT.SH_BUSY) put
  match h.reg with
  | .DM_SRC => act s
  | .DM_DST => act s
  | .DM_COUNT => act s
  | .DM_CREC => act s
  | .DM_TAG => act s
  | .DS_SRC => shd s
  | .DS_DST => shd s
  | .DS_COUNT => shd s
  | .DS_CREC => shd s
  | .DS_TAG => shd s
  | .DM_CTL => s.dmCtlWrite ch v
  | _ => put s

/-- A register of a cipher session written: while EN is 1 a write of CS_CFG changes only EN, and CS_JOBS takes none. -/
def State.wCry (s : State) (p : Place) (h : Hit) (v : Nat) : State :=
  let pos := p.pos.getD 0
  let q := h.idx.headD 0
  let en := s.flag h.base Rg.CS_CFG.EN
  let ev (u : State) : State := u.event (tileEv pos) h.base Rg.CS_EVT.CFG_LOCKED
  match h.reg with
  | .CS_CFG =>
    if en then if bitOf 0 v then ev s else (ev s).cryDisable pos q
    else
      let t := s.putWord p h.base .CS_CFG (putBits 0 1 v 0)
      if bitOf 0 v then t.cryEnable pos q else t
  | .CS_JOBS => s.structural en ev (fun u => u.putWord p h.base .CS_JOBS v)
  | .CS_CNT => s.zeroReg h.base .CS_CNT
  | r => s.putWord p h.base r v

/-! ### Every block -/

/-- The base of a register in the bank that its tile's select register names. -/
def State.regBase (s : State) (p : Place) (h : Hit) : Nat :=
  match p.blk with
  | .aln => if 0x100 ≤ h.reg.desc.off ∧ h.reg.desc.off < 0x400 then banked h.base (s.get p.base Rg.AT_SEL.LANE) else h.base
  | .pkt => if 0x100 ≤ h.reg.desc.off then banked h.base (s.get p.base Rg.PK_SEL.CTX) else h.base
  | _ => h.base

/-- A whole register written with a value. -/
def State.regWrite (s : State) (m : Master) (p : Place) (h : Hit) (v : Nat) : State :=
  match p.blk with
  | .isl => if h.reg = .ISL_CLK then s.freqWrite p.isl (v % 256) else s.putWord p h.base h.reg v
  | .mpc => s.wMpc p h v
  | .dsp => s.wDsp m p h v
  | .time => s.wTime p h v
  | .rf => s.wRf m p h v
  | .wv => s.wWv p h v
  | .radio => s.wRadio p h v
  | .eth => s.wEth m p h v
  | .can => s.wCan p h v
  | .yx => s.wYx p h v
  | .ddr => s.wDdr p h v
  | .sec => s.wSec p h v
  | .er => s.wEr p h v
  | .rc => s.wRc p h v
  | .hl | .pcie | .xspi => s.putWord p h.base h.reg v
  | .loop => s.wLoop p h v
  | .acq => s.wAcq m p h v
  | .cor => s.wCor m p h v
  | .obs => s.wObs p h v
  | .filt => s.wFilt p h v
  | .phs => s.wPhs p h v
  | .aln => s.wAln p h (s.regBase p h) v
  | .moda => s.wModa p h v
  | .trig => s.wTrig p h v
  | .mac => s.wMac p h v
  | .trk => s.wTrk p h v
  | .pkt => s.wPkt p h (s.regBase p h) v
  | .dma => s.wDma p h v
  | .cry => s.wCry p h v

end Sys2Proof.Machine
end

