-- ==== Sys2Proof/Machine/Bus.lean ====
section
/-! DEFINITION. The bus: rights (R74, R470, R502, R576), address errors (R71), reads, 32-bit halves of 64-bit registers (R20), and the
commands that are plain accesses. -/

namespace Sys2Proof.Machine

/-! ### Rights -/

/-- The application cores. -/
def isAc : Master → Bool
  | .ac0 | .ac1 | .ac2 | .ac3 => true
  | _ => false

/-- Gauntlet, or a JTAG master with its rights (R502). -/
def State.isRoot (s : State) (m : Master) : Bool := m == .gauntlet || (m == .jtag && s.debugFull)

/-- Who reads the register windows that every processor reads: the processors, the host, and a JTAG master at level FULL. -/
def State.looks (s : State) (m : Master) : Bool :=
  match m with
  | .tile _ => false
  | .jtag => s.debugFull
  | _ => true

/-- Who reaches stage memory and DDR (R29, R74), the host apart. -/
def State.reaches (s : State) (m : Master) : Bool :=
  match m with
  | .tile _ => true
  | _ => s.isRoot m || m == .mp || isAc m

/-- Whether an offset of the Gauntlet mailbox lies in channel 3, which JTAG reaches at every level (R502). -/
def inChan3 (off : Nat) : Bool := decide (0x1C00 ≤ off ∧ off < 0x2000)

/-- Whether an address lies in the tile and island windows. -/
def inTiles (a : Nat) : Bool := decide (0x2000_0000 ≤ a ∧ a < 0x202C_0000)
/-- Whether an address lies in the service blocks. -/
def inServices (a : Nat) : Bool := decide (0x3000_0000 ≤ a ∧ a < 0x3010_0000)

/-- Whether a master may read at an address (R74, R470, R576). MP reads every dispatcher register, though its cell of R74 names only
those it writes (DESIGN CHOICE, log entry 20). -/
def mayRead (s : State) (m : Master) (a : Nat) : Bool :=
  if a < 0x1_0000 then s.isRoot m
  else match regionOf a with
    | .stage _ _ => s.reaches m || m == .host
    | .ddr _ => s.reaches m
    | .other =>
      if inServices a ∧ serviceAt ((a - 0x3000_0000) / 0x1_0000) = some .sec then
        s.isRoot m || m == .mp || m == .tp || isAc m || (m == .jtag && inChan3 (a % 0x1_0000))
      else if inTiles a ∨ inServices a then s.looks m
      else m != .jtag || s.debugFull

/-- Who may write at an offset of the Gauntlet mailbox (R74). -/
def maySec (s : State) (m : Master) (off : Nat) : Bool :=
  if 0x1000 ≤ off ∧ off < 0x2000 then mayChannel s m ((off - 0x1000) / 0x400)
  else s.isRoot m || m == .mp || m == .tp || isAc m

/-- Who may write at an offset of the event router: a target's pending and mask words belong to its own agent. -/
def mayRouter (s : State) (m : Master) (off : Nat) : Bool :=
  if 0x100 ≤ off ∧ off < 0x240 then
    [Master.ac0, .ac1, .ac2, .ac3, .mp][(off - 0x100) / 0x40]? == some m
  else mayWriteService s m

/-- Who may write at an offset of a service block (R65, R74, R470, R576). -/
def mayService (s : State) (m : Master) (b : Blk) (off : Nat) : Bool :=
  match b with
  | .time => mayTime s m
  | .mpc => if off / 8 = 1 then m == .mp else s.isRoot m || m == .mp
  | .sec => maySec s m off
  | .dsp =>
    if 0x100 ≤ off ∧ off < 0x280 then portAgent ((off - 0x100) / 0x40) == some m else mayDispatcher s m off
  | .eth => mayWriteService s m || m == .tp
  | .rc => if 0x400 ≤ off ∧ off < 0x580 ∧ off % 0x40 = 0x30 then swOwner ((off - 0x400) / 0x40) == some m else mayWriteService s m
  | .er => mayRouter s m off
  | .ddr => if off / 8 = 7 then mayInject s m else mayWriteService s m
  | _ => mayWriteService s m

/-- Who may write at an address of the tile windows (R74, R93). -/
def mayTile (s : State) (m : Master) (a : Nat) : Bool :=
  match placeOf a with
  | some p =>
    if p.blk = .loop ∧ 0x1000 ≤ a - p.base then mayLoop s m (p.inst * 16 + (a - p.base - 0x1000) / 0x200)
    else mayWriteService s m
  | none => mayWriteService s m

/-- Whether a master may write at an address (R74, R470, R576). -/
def mayWrite (s : State) (m : Master) (a : Nat) : Bool :=
  if a < 0x1_0000 then false
  else match regionOf a with
    | .stage _ _ => s.reaches m || (m == .host && s.flag bPcie Rg.PCIE_CFG.BAR0_WR)
    | .ddr _ => s.reaches m
    | .other =>
      if inTiles a then if 0xC000 ≤ a % 0x1_0000 then mayIsland s m else mayTile s m a
      else if inServices a then
        match serviceAt ((a - 0x3000_0000) / 0x1_0000) with
        | some b => mayService s m b (a % 0x1_0000)
        | none => false
      else m != .jtag || s.debugFull

/-- The outcome of an access without right (R470, R576). -/
def State.noRight (s : State) (m : Master) (a : Nat) (write : Bool) : State :=
  if m = .host then (s.event 24 bPcie Rg.PCIE_EVT.HOST_VIOL).answer (if write then .ok else .unsupported) 0
  else s.violation m a

/-- The outcome of an address error (R71). -/
def State.addrErr (s : State) (m : Master) (a : Nat) : State := (s.accessEvent 0x060 m a).answer .err 0
/-- The outcome of an access to a domain that is off (R73). -/
def State.domOff (s : State) (m : Master) (a : Nat) : State := (s.accessEvent 0x063 m a).answer .err 0
/-- The outcome of an access to a stage-memory half whose domain is off (R30). -/
def State.stageOff (s : State) (m : Master) (a : Nat) : State := (s.accessEvent 0x062 m a).answer .err 0

/-! ### What is instanced and enabled -/

/-- Whether the lane, stream or context that a tile register belongs to is enabled (R2, R81). -/
def State.tileEnabled (s : State) (p : Place) (h : Hit) : Bool :=
  let n := s.lanesAt (p.pos.getD 99)
  let off := h.reg.desc.off
  match p.blk with
  | .aln => n != 0 && (off < 0x100 || 0x400 ≤ off || decide (s.get p.base Rg.AT_SEL.LANE < n))
  | .pkt => n != 0 && (off < 0x100 || decide (s.get p.base Rg.PK_SEL.CTX < n))
  | .trk => n != 0 && (if 0x1000 ≤ off then decide (h.idx.headD 0 < n) else off < 0x400 || s.trkHome == some p.inst)
  | _ => n != 0 && (off < 0x1000 || decide (h.idx.headD 0 < n))

/-- Whether IOBANK enables the function of a register of the waveform I/O block (R91): a register that several pins share follows
them together. -/
def State.wvEnabled (s : State) (r : Reg) (n : Nat) : Bool :=
  match r with
  | .WV_IN_CFG | .WV_IN_STAT => bitOf n s.img.sdEn
  | .AO_CFG | .AO_SEL => bitOf (40 + n) s.img.io0
  | .TL_CFG | .TL_TS => bitOf (52 + n) s.img.io0
  | .TL_EVT => bits 52 2 s.img.io0 != 0
  | .WV_EVT => s.img.sdEn != 0
  | .WV_MCLK_STAT => s.img.sdEn != 0 || s.img.modclk != 0
  | _ => s.img.sdEn != 0 || s.img.modclk != 0 || bits 40 8 s.img.io0 != 0 || bits 52 2 s.img.io0 != 0

/-- Whether the function a register belongs to is instanced and enabled (R2, R72, R81); IOBANK names the pins (R91). The registers
that a block's functions share follow them together (DEDUCED, log entry 12). -/
def State.enabled (s : State) (p : Place) (h : Hit) : Bool :=
  let n := h.idx.headD 0
  match p.blk with
  | .isl | .dsp | .mpc | .ddr | .sec | .er | .rc | .hl | .yx | .xspi => true
  | .pcie => s.pcie.allowed
  | .time => match h.reg with
    | .PPS_CFG | .PPS_OFS | .PPS_CABLE | .PPS_OUTDLY => bitOf (54 + n) s.img.io0
    | .TDC_TS | .TDC_SUB => s.tdcFitted n
    | _ => true
  | .rf => s.rfFitted n
  | .radio => if 0x1000 ≤ h.reg.desc.off then bitOf (16 + n) s.img.io0 else bits 16 8 s.img.io0 != 0
  | .eth =>
    if 0x800 ≤ h.reg.desc.off ∧ h.reg.desc.off < 0x1000 then s.ethPcs 0 != 0 || s.ethPcs 1 != 0 else s.ethPcs n != 0
  | .can => s.canFitted n
  | .wv => s.wvEnabled h.reg n
  | _ => s.tileEnabled p h

/-- The registers that both OBS tiles have; the others exist in the encoder alone (R224). OB_EVT is one of them, since ROLE and
CTX_FULL are set in either tile (DEDUCED, log entry 12). -/
def obsBoth (r : Reg) : Bool :=
  match r with
  | .OB_ID | .OB_CFG | .OB_CNT | .OB_CNT2 | .OB_LAT | .OB_CTX | .OB_EVT => true
  | _ => false

/-- Whether a register of an OBS tile reads its reset value and takes no write: it is the encoder's, and this tile is not. -/
def State.obsShadow (s : State) (p : Place) (h : Hit) : Bool :=
  decide (p.blk = .obs) && !obsBoth h.reg && s.encoder != some p.inst

/-! ### Reads -/

/-- What the fields of a register read, WO fields as 0. -/
def State.fieldsOf (s : State) (base : Nat) (r : Reg) : Nat :=
  ((r.desc.flds.filter (fun f => f.acc != .wo)).map (fun f => s.get base f * 2 ^ f.lo)).sum

/-- The reset value of a register. -/
def resetOf (base : Nat) (r : Reg) : Nat := (r.desc.flds.map (fun f => fldDflt f base * 2 ^ f.lo)).sum

/-- A word with bit `i` set for each of `n` lanes whose event register is not 0. -/
def State.laneBits (s : State) (base n stride : Nat) (r : Reg) : Nat :=
  ((List.range n).map (fun i => if s.word (base + i * stride) r = 0 then 0 else 2 ^ i)).sum

/-- PWR_STAT.DOM_ON. -/
def State.domBits (s : State) : Nat :=
  ([Dom.aon, .sec, .time, .mgmt, .io, .fa, .fb].map (fun d => if s.on d then 2 ^ d.code else 0)).sum

/-- DSP_FLOW_DATA: the selected flow. -/
def State.flowView (s : State) : Nat :=
  let f := s.get bDsp Rg.DSP_FLOW_SEL.FLOW
  let r := s.disp.flowOf f
  r.part % 2 + r.consumer % 128 * 2 ^ 4 + r.agent % 8 * 2 ^ 11 + b2n (s.disp.busyFlow f) * 2 ^ 14 +
    s.disp.waitingOf f % 2 ^ 15 * 2 ^ 16 + r.lane % 2 ^ 16 * 2 ^ 32

/-- PORT_DISP: the head of an agent's queue. -/
def State.dispView (s : State) (n : Nat) : Nat :=
  match (s.disp.queues.getD n []).head?.bind s.disp.find with
  | some e => 1 + b2n e.depCan * 2 + e.handle * 2 ^ 4 + e.tag % 2 ^ 32 * 2 ^ 32
  | none => 0

/-- RC_STAT. -/
def State.recStat (s : State) : Nat :=
  s.log.recs.length % 2 ^ 16 + s.log.unflushed % 2 ^ 9 * 2 ^ 16 + b2n (s.log.flush == .emergency) * 2 ^ 25 +
    s.get bRc Rg.RC_STAT.PF_DONE * 2 ^ 26

/-- RC_SEQ: the oldest and the newest SEQ held. -/
def State.recSeq (s : State) : Nat :=
  match s.log.recs with
  | [] => 0
  | r :: t => r.seq % 2 ^ 32 + (t.getLast?.getD r).seq % 2 ^ 32 * 2 ^ 32

/-- Word `i` of the selected record. -/
def State.recWord (s : State) (i : Nat) : Nat :=
  match s.selected with
  | some r => leAt (recBytes r) (8 * i) 8
  | none => 0

/-- SEC_STAT. -/
def State.secStat (s : State) : Nat :=
  putBits 10 1 (putBits 8 2 (putBits 3 2 (s.word bSec .SEC_STAT) s.debugLevel) s.rootCode) (b2n s.ksOn)

/-- CN_OBJ_CFG: the selected object's configuration, 0 for one that is not enabled. -/
def State.objCfg (s : State) (n : Nat) : Nat :=
  match (s.can n).obj (s.canSel n) with
  | some x => x.cfg
  | none => 0

/-- The sub-nanosecond fraction a master last captured (R148). -/
def State.subOf (s : State) (m : Master) : Nat :=
  match s.caught.find? (fun w => w.who == m && w.blk == bTime && w.addr == bTime + 0x20) with
  | some w => w.val
  | none => 0

/-- What a register reads: from its fields, or computed from the state where the register shows something the state holds. -/
def State.view (s : State) (m : Master) (p : Place) (h : Hit) : Nat :=
  let n := h.idx.headD 0
  match h.reg with
  | .ISL_STAT => putBits 0 1 (s.word h.base .ISL_STAT) (b2n (s.islOn p.isl))
  | .PWR_STAT => putBits 0 7 (s.word bMpc .PWR_STAT) s.domBits
  | .COC_DATA => s.coGet.2
  | .TIME_STAT => putBits 4 1 (s.word bTime .TIME_STAT) (b2n (s.time.rem != 0))
  | .TIME_NOW => s.now
  | .TIME_NOW_SUB => s.subOf m
  | .TIME_ADJ_REM => pat 64 s.time.rem
  | .TIME_TERR => s.terr
  | .DSP_POOL => s.disp.freeCount 0 + s.disp.freeCount 1 * 2 ^ 16
  | .DSP_INSERV => s.disp.inserv none + s.disp.inserv (some 1) * 2 ^ 16
  | .DSP_FLOW_DATA => s.flowView
  | .PORT_DISP => s.dispView n
  | .RC_STAT => s.recStat
  | .RC_SEQ => s.recSeq
  | .RC_SELSTAT => b2n s.selected.isSome
  | .RC_RING => s.log.block % 2 ^ 10 + s.log.bseq % 2 ^ 32 * 2 ^ 32
  | .RC_REC => s.recWord n
  | .SEC_STAT => s.secStat
  | .FR_PEPOCH => s.get bMpc Rg.FS_PEPOCH.EPOCH
  | .PH_STAT => s.phStat (laneNo p h)
  | .FR_ASN => if s.flag h.base Rg.FR_STAT.RUN then s.asn else 0
  | .FR_STAT => putBits 4 1 (s.word h.base .FR_STAT)
      (b2n (s.flag h.base Rg.FR_STAT.RUN && s.flag bMpc Rg.FS_STAT.LATCHED))
  | .LT_EVT => s.laneBits p.base 16 0x200 .LP_EVT
  | .MD_LEVT => s.laneBits p.base 16 0x80 .MG_EVT
  | .CY_LEVT => s.laneBits p.base 32 0x40 .CS_EVT
  | .TM_STAT => putBits 4 1 (s.word h.base .TM_STAT) (b2n (s.machJoined (laneNo p h)))
  | .YX_STAT => putBits 2 3 (s.word bYx .YX_STAT) s.yx.queue.length
  | .CN_OBJ_CFG => s.objCfg n
  | .CN_OBJ_W => s.objWord n h.sub
  | .ER_ROUTE => s.word h.base .ER_ROUTE ||| fixedTargets n
  | r => s.fieldsOf (s.regBase p h) r

/-- What reading a register does: a timestamp leaves its FIFO, COC_ADDR advances, an object is locked or released. -/
def State.readEffect (s : State) (h : Hit) : State :=
  let n := h.idx.headD 0
  match h.reg with
  | .COC_DATA => s.coGet.1
  | .ETH_TSINFO => (s.setPort n { s.port n with stamps := (s.port n).stamps.tail }).showStamp n
  | .CN_OBJ_W =>
    if h.sub = 0 then s.lockRead n
    else if h.sub = 19 ∧ ((s.can n).lock.map (fun l => l.1)) = some (s.canSel n) then s.release_ n else s
  | _ => s

/-- A read of RC_SWk.STATUS by the area's own master is held until the outcome of its GO is written (R536). -/
def State.readWait (s : State) (m : Master) (h : Hit) : State :=
  let k := h.idx.headD 0
  if h.reg = .RC_SW_GO ∧ swOwner k = some m ∧ s.log.reqs.any (fun q => q.sw == some k) then
    State.admitAll s.log.reqs.length s
  else s

/-- A whole register read: its value, and the state after it. -/
def State.regRead (s : State) (m : Master) (p : Place) (h : Hit) : State × Nat :=
  if !s.enabled p h then (s, 0)
  else if s.obsShadow p h then (s, resetOf h.base h.reg)
  else
    let t := s.readWait m h
    (t.readEffect h, t.view m p h)

/-- Whether a register takes no write of a master that may write its block: a channel takes writes only from its own masters
(R511), and some registers are written only by Gauntlet and MP (chapters 17 and 18). The write is ignored. -/
def State.shut (s : State) (m : Master) (h : Hit) : Bool :=
  match h.reg with
  | .GM_REQ | .GM_RESULT | .GM_CTL | .GM_STAT => !gmOwner (h.idx.headD 0) m
  | .TAMP_CFG | .KS_CFG | .HL_CFG | .HL_VLIM | .HL_FMIN | .HL_PMB => !(s.isRoot m || m == .mp)
  | _ => false

/-- A whole register written. -/
def State.regStore (s : State) (m : Master) (p : Place) (h : Hit) (v : Nat) : State :=
  if !s.enabled p h ∨ s.obsShadow p h ∨ s.shut m h then s else s.regWrite m p h v

/-! ### Halves of 64-bit registers (R20) -/

/-- What a master staged or captured for a 64-bit register. -/
def held (l : List WordHold) (m : Master) (blk a : Nat) : Option Nat :=
  (l.find? (fun w => w.who == m && w.blk == blk && w.addr == a)).map (fun w => w.val)

/-- What a master holds for a 64-bit register dropped. -/
def unhold (l : List WordHold) (m : Master) (blk a : Nat) : List WordHold :=
  l.filter (fun w => !(w.who == m && w.blk == blk && w.addr == a))

/-- What a master holds in a block for other 64-bit registers dropped; TIME_NOW_SUB is no such holding register. -/
def onlyFor (l : List WordHold) (m : Master) (blk a : Nat) : List WordHold :=
  l.filter (fun w => !(w.who == m && w.blk == blk && w.addr != a && w.addr != bTime + 0x20))

/-- A 32-bit access to the 64-bit register at `a` discards what the master holds for other 64-bit registers of the block. -/
def State.attend (s : State) (m : Master) (blk a : Nat) : State :=
  { s with staged := onlyFor s.staged m blk a, caught := onlyFor s.caught m blk a }

/-- The low word read: it captures the high word, and for TIME_NOW the sub-nanosecond fraction. -/
def State.lowRead (s : State) (m : Master) (p : Place) (h : Hit) (a : Nat) : State × Nat :=
  let r := (s.attend m p.base a).regRead m p h
  let c := ⟨m, p.base, a, r.2 / 2 ^ 32⟩ :: unhold r.1.caught m p.base a
  let c := if h.reg = .TIME_NOW then ⟨m, bTime, bTime + 0x20, s.time.frac / 2 ^ 24⟩ :: unhold c m bTime (bTime + 0x20) else c
  ({ r.1 with caught := c }, r.2 % 2 ^ 32)

/-- The high word read: the captured word, which is used up, or the present one. -/
def State.highRead (s : State) (m : Master) (p : Place) (h : Hit) (a : Nat) : State × Nat :=
  let t := s.attend m p.base a
  match held t.caught m p.base a with
  | some v => ({ t with caught := unhold t.caught m p.base a }, v)
  | none =>
    let r := t.regRead m p h
    (r.1, r.2 / 2 ^ 32)

/-- The low word written: staged. -/
def State.lowWrite (s : State) (m : Master) (p : Place) (a v : Nat) : State :=
  let t := s.attend m p.base a
  { t with staged := ⟨m, p.base, a, v % 2 ^ 32⟩ :: unhold t.staged m p.base a }

/-- The present low word of a register, every WO, W1C and W1S bit 0. -/
def State.lowNow (s : State) (m : Master) (p : Place) (h : Hit) : Nat :=
  (h.reg.desc.flds.foldl (fun v f => if f.acc = .wo ∨ f.acc = .w1c ∨ f.acc = .w1s then putBits f.lo f.w v 0 else v) (s.view m p h)) % 2 ^ 32

/-- The high word written: the whole value takes effect with the staged or the present low word. -/
def State.highWrite (s : State) (m : Master) (p : Place) (h : Hit) (a v : Nat) : State :=
  let t := s.attend m p.base a
  let low := (held t.staged m p.base a).getD (t.lowNow m p h)
  { t with staged := unhold t.staged m p.base a }.regStore m p h (low + v % 2 ^ 32 * 2 ^ 32)

/-! ### Accesses to a block -/

/-- The register of a block at an offset. -/
def regAt (p : Place) (a : Nat) : Option Hit := findReg p.base (a - p.base) (blkRegs p.blk)

/-- The request and response buffers of the mailboxes (R475, R511): bytes, which 32-bit accesses reach word by word. -/
def Reg.isBuffer : Reg → Bool
  | .YX_REQBUF | .YX_RESPBUF | .GM_REQ | .GM_RESULT => true
  | _ => false

/-- Whether 32-bit accesses to a register go by halves (R20). -/
def Reg.halved (r : Reg) : Bool := r.desc.wide && !r.isBuffer

/-- A 32-bit read of a buffer. -/
def State.bufRead (s : State) (m : Master) (p : Place) (h : Hit) : State × Nat :=
  let r := s.regRead m p h
  (r.1, if h.high then r.2 / 2 ^ 32 else r.2 % 2 ^ 32)

/-- A 32-bit write of a buffer: the other word keeps its value. -/
def State.bufWrite (s : State) (m : Master) (p : Place) (h : Hit) (v : Nat) : State :=
  s.regStore m p h (putBits (if h.high then 32 else 0) 32 (s.view m p h) v)

/-- An aligned 32-bit read of a block; an offset without a register reads 0. -/
def State.read32 (s : State) (m : Master) (p : Place) (a : Nat) : State × Nat :=
  match regAt p a with
  | none => (s, 0)
  | some h =>
    if h.reg.isBuffer then s.bufRead m p h
    else if h.reg.desc.wide then if h.high then s.highRead m p h (a - 4) else s.lowRead m p h a
    else s.regRead m p h

/-- An aligned 32-bit write of a block. -/
def State.write32 (s : State) (m : Master) (p : Place) (a v : Nat) : State :=
  match regAt p a with
  | none => s
  | some h =>
    if h.reg.isBuffer then s.bufWrite m p h v
    else if h.reg.desc.wide then if h.high then s.highWrite m p h (a - 4) v else s.lowWrite m p a v
    else s.regStore m p h (v % 2 ^ 32)

/-- An aligned 64-bit read: of a 64-bit register at once, else of two words. -/
def State.read64 (s : State) (m : Master) (p : Place) (a : Nat) : State × Nat :=
  match regAt p a with
  | some h =>
    if h.reg.desc.wide then s.regRead m p h
    else
      let r := s.regRead m p h
      let q := r.1.read32 m p (a + 4)
      (q.1, r.2 + q.2 * 2 ^ 32)
  | none =>
    let q := s.read32 m p (a + 4)
    (q.1, q.2 * 2 ^ 32)

/-- An aligned 64-bit write: of a 64-bit register at once, else of two words. -/
def State.write64 (s : State) (m : Master) (p : Place) (a v : Nat) : State :=
  match regAt p a with
  | some h =>
    if h.reg.desc.wide then s.regStore m p h (v % 2 ^ 64)
    else (s.regStore m p h (v % 2 ^ 32)).write32 m p (a + 4) (v / 2 ^ 32)
  | none => s.write32 m p (a + 4) (v / 2 ^ 32)

/-! ### Accesses by address (R576) -/

/-- An access to a register window that has passed its right: the address error of R71, the domain of R73, then the block. -/
def State.window (s : State) (m : Master) (a n : Nat) (f : State → Place → State) : State :=
  if (n = 4 ∧ a % 4 ≠ 0) ∨ (n = 8 ∧ a % 8 ≠ 0) then s.addrErr m a
  else match placeOf a with
    | none => s.addrErr m a
    | some p => if !s.on (domOf p.isl) then s.domOff m a else f s p

/-- A read of `n` bytes of a register window; only 4 and 8 bytes are accepted (R21). -/
def State.winRead (s : State) (m : Master) (a n : Nat) : State :=
  s.window m a n (fun t p =>
    if n = 4 then (t.read32 m p a).1.answer .ok (t.read32 m p a).2
    else if n = 8 then (t.read64 m p a).1.answer .ok (t.read64 m p a).2
    else t.answer .ok 0)

/-- A write of `n` bytes of a register window. -/
def State.winWrite (s : State) (m : Master) (a n v : Nat) : State :=
  s.window m a n (fun t p =>
    (if n = 4 then t.write32 m p a v else if n = 8 then t.write64 m p a v else t).answer .ok 0)

/-- An access to memory that has passed its right. -/
def State.memory (s : State) (m : Master) (a n : Nat) (f : State → State) : State :=
  match s.memFault a n with
  | some .addr => s.addrErr m a
  | some .stageOff => s.stageOff m a
  | some .domainOff => s.domOff m a
  | none => f s

/-- Whether an address names stage memory or DDR. -/
def inMemory (a : Nat) : Bool := regionOf a != .other

/-- `n` bytes of the boot ROM. -/
def romBytes (a n : Nat) : List Byte := (List.range n).map (fun i => Config.bootRom (a + i))

/-- A read of memory: a poisoned word is never returned as data (R490, R471). -/
def State.memLoad (s : State) (m : Master) (a n : Nat) : State :=
  let r := s.memRead a n
  match r.2 with
  | some l => r.1.answer .ok (leVal l)
  | none => r.1.answer (if m = .host then .poisoned else .err) 0

/-- A read access of `n` bytes. -/
def State.busRead (s : State) (m : Master) (a n : Nat) : State :=
  if !mayRead s m a then s.noRight m a false
  else if inMemory a then s.memory m a n (fun t => t.memLoad m a n)
  else if a < 0x1_0000 then if a + n ≤ 0x1_0000 then s.answer .ok (leVal (romBytes a n)) else s.addrErr m a
  else s.winRead m a n

/-- A write of memory, which a poisoned word does not take in part (R491). -/
def State.memSave (s : State) (a : Nat) (l : List Byte) : State :=
  let r := s.memWrite a l
  r.1.answer (if r.2 then .ok else .err) 0

/-- A write access of bytes. -/
def State.busWrite (s : State) (m : Master) (a : Nat) (l : List Byte) : State :=
  if !mayWrite s m a then s.noRight m a true
  else if inMemory a then s.memory m a l.length (fun t => t.memSave a l)
  else s.winWrite m a l.length (leVal l)

/-- A register write of 4 or 8 bytes. -/
def State.busPut (s : State) (m : Master) (a : Nat) (wide : Bool) (v : Nat) : State :=
  s.busWrite m a (leBytes (if wide then 8 else 4) v)

/-! ### A hardware set and a clearing write in the same cycle (R17) -/

/-- The register at an address with its W1C bits that were 1 in `s` and that the hardware sets, among the bits of `same`, in the
cycle of the write that led to `t`: they stay 1 (R17). -/
def State.keepSet (s t : State) (p : Place) (h : Hit) (same : Nat) : State :=
  (h.reg.desc.flds.filter (fun f => f.acc == .w1c)).foldl
    (fun u f => u.set (s.regBase p h) f (u.get (s.regBase p h) f ||| (s.get (s.regBase p h) f &&& bits f.lo f.w same))) t

/-- The same by address. `same` counts from bit 0 of the register the address lies in; of two 32-bit registers written together the
second takes its upper half. -/
def State.keepAt (s t : State) (a : Nat) (wide : Bool) (same : Nat) : State :=
  match placeOf a with
  | none => t
  | some p =>
    let u := match regAt p a with
      | some h => s.keepSet t p h same
      | none => t
    if !wide then u
    else match regAt p (a + 4) with
      | some h => if h.high then u else s.keepSet u p h (same / 2 ^ 32)
      | none => u

/-! ### Commands -/

/-- BUS_ACCESS: an access to memory, to an unmapped region or to a register window. -/
def execBusAccess (m : Master) (addr : Nat) (op : MemOp) (s : State) : Host.Outcome State Fault Refusal :=
  match op with
  | .read n => .next (s.busRead m addr n)
  | .write l => .next (s.busWrite m addr l)

/-- REGISTER_WRITE: a register written under its access types, lock and rights; the hardware sets the W1C bits of `same` in the same
cycle. -/
def execRegisterWrite (m : Master) (addr : Nat) (wide : Bool) (v same : Nat) (s : State) : Host.Outcome State Fault Refusal :=
  .next (s.keepAt (s.busPut m addr wide v) addr wide same)

/-- Whether a value sets a LOCK bit of the register at an address. -/
def setsLock (addr v : Nat) : Bool :=
  match placeOf addr with
  | some p =>
    (match lockOf p.blk p.base, regAt p addr with
     | some (b, f, _), some h => h.base == b && h.reg.desc.flds.contains f && bitOf f.lo v
     | _, _ => false)
  | none => false

/-- RWL_LOCK: a write that sets a block's LOCK bit (R18). -/
def execRwlLock (m : Master) (addr v : Nat) (s : State) : Host.Outcome State Fault Refusal :=
  if setsLock addr v then .next (s.busPut m addr false v) else .next s

/-- Whether a write of a value clears counters: a CNT_CLR bit set, or a counter register that any write clears. -/
def clearsCounters (r : Reg) (v : Nat) : Bool :=
  match r with
  | .OB_CFG => bitOf 24 v
  | .FL_CTRL => bitOf 16 v
  | .PH_CTRL | .TK_CTRL => bitOf 1 v
  | .MG_CTRL | .FR_CTRL | .ER_CTRL => bitOf 2 v
  | .CN_CTRL => bitOf 4 v
  | .TG_CTRL => bitOf 19 v
  | .ETH_CNT | .PK_CNT | .PC_CNT | .AL_CNT | .CS_CNT | .DDR_ECC | .RC_LOSS => true
  | _ => false

/-- COUNTER_CLEAR: a write that clears a block's counters. -/
def execCounterClear (m : Master) (addr : Nat) (wide : Bool) (v : Nat) (s : State) : Host.Outcome State Fault Refusal :=
  match (placeOf addr).bind (fun p => regAt p addr) with
  | some h => if clearsCounters h.reg v then .next (s.busPut m addr wide v) else .next s
  | none => .next s

/-- Whether an address is the low (`high` false) or the high word of a 64-bit register. -/
def isHalf (addr : Nat) (high : Bool) : Bool :=
  match (placeOf addr).bind (fun p => regAt p addr) with
  | some h => h.reg.halved && h.high == high && addr % 4 == 0
  | none => false

/-- LOW_WORD_WRITE. -/
def execLowWordWrite (m : Master) (addr v : Nat) (s : State) : Host.Outcome State Fault Refusal :=
  if isHalf addr false then .next (s.busPut m addr false v) else .next s

/-- HIGH_WORD_WRITE; the hardware sets the W1C bits of `same` in the same cycle. -/
def execHighWordWrite (m : Master) (addr v same : Nat) (s : State) : Host.Outcome State Fault Refusal :=
  if isHalf addr true then .next (s.keepAt (s.busPut m addr false v) addr false same) else .next s

/-- LOW_WORD_READ. -/
def execLowWordRead (m : Master) (addr : Nat) (s : State) : Host.Outcome State Fault Refusal :=
  if isHalf addr false then .next (s.busRead m addr 4) else .next s

/-- HIGH_WORD_READ. -/
def execHighWordRead (m : Master) (addr : Nat) (s : State) : Host.Outcome State Fault Refusal :=
  if isHalf addr true then .next (s.busRead m addr 4) else .next s

/-- RESET_CTRL_WRITE. -/
def execResetCtrlWrite (m : Master) (v : Nat) (s : State) : Host.Outcome State Fault Refusal :=
  .next (s.actWrite m (s.isRoot m || m == .mp) .aon (bMpc + 0x88) (fun t => t.resetCtrl v))

end Sys2Proof.Machine
end

