-- ==== Sys2Proof/Machine/Boot.lean ====
section
/-! DEFINITION. Start-up (R119–R122, R137–R140, R500, R501), the instancing of a structure image (R99–R101), the hot start (R220,
R221), resets and wakes. -/

namespace Sys2Proof.Machine

/-! ### Step 3: SEC, the roots and a waiting update set -/

/-- The roots that the life-cycle state expects checked against the newest digests (R498); one mismatch zeroes every root. -/
def State.rootCheck (s : State) : State :=
  let want := expectedRoots (s.get bSec Rg.SEC_STAT.LC)
  let dig := s.sec.digests.getLastD []
  if want.all (fun i => (s.sec.roots.getD i none).map rootDigest == some (dig.getD i 0)) then s
  else
    let t := { s with sec := { s.sec with roots := [none, none, none] } }
    t.record 0x050 4 34 (leBytes 1 ((want.map (fun i => 2 ^ i)).sum))

/-- The level of an accepted token applies from a warm reset (R503). -/
def State.takeDebug (s : State) : State :=
  let n := s.get bSec Rg.SEC_STAT.DBG_NEXT
  if n = 0 then s else s.sets bSec [(Rg.SEC_STAT.DEBUG, n), (Rg.SEC_STAT.DBG_NEXT, 0)]

/-- The life-cycle state that the fuses hold applies from a start (R494). -/
def State.takeLc (s : State) : State := s.set bSec Rg.SEC_STAT.LC (max (s.get bSec Rg.SEC_STAT.LC) s.sec.burned)

/-- SEC is powered; the boot ROM checks the roots, draws SEC_CHAL and counts the start (R121, R498, R504, R518). The flash shows the
active images it already held. -/
def State.bootSec (s : State) (env : BootEnv) : State :=
  let t := ({ s with power := { s.power with sec := true } }.lockIslands [2]).takeLc.rootCheck.newChal
  let held := t.upd.active
  let n := (t.sec.boots + 1) % 2 ^ 32
  let t := t.sets bSec [(Rg.SEC_BOOTCNT.COUNT, n), (Rg.BOOT_STAT.CODE, 0), (Rg.BOOT_STAT.TYPE, 0)]
  { t with sec := { t.sec with boots := n, halted := false },
           upd := { t.upd with active := held ++ env.flash.filter (fun f => !held.any (fun x => x.typ == f.typ)) } }

/-- An active image replaced: its firmware starts for the first time. -/
def Upd.replace (u : Upd) (f : ImgFile) : Upd :=
  { u with active := u.active.filter (fun x => x.typ != f.typ) ++ [f], fresh := u.fresh ++ [f.typ] }

/-- The images of a set copied in order (R137–R139); one that fails its verification three times ends the copying, and starts from
Chrysalis. The Boolean says that every image is verified. -/
def copySet (bad : List Nat) (b : Nat) : List Nat → State → State × Bool
  | [], s => (s, true)
  | t :: l, s =>
    let k := s.upd.bank b
    match k.head t with
    | none => copySet bad b l s
    | some h =>
      if k.copied.contains t then copySet bad b l s
      else
        let u := { s with upd := s.upd.replace ⟨t, h, k.image t h⟩ }
        if bad.contains t then (u.record 0x005 4 34 (leBytes 1 b ++ leBytes 1 t), false)
        else copySet bad b l { u with upd := u.upd.setBank b { k with copied := k.copied ++ [t] } }

/-- A set copied to its end, or stopped by an image that fails. The Boolean says that a copy failed. -/
def State.copyBank (s : State) (bad : List Nat) (b : Nat) : State × Bool :=
  let r := copySet bad b [2, 3, 5, 4, 1, 6] s
  if r.2 then
    let u := r.1.upd
    let n := u.applied + 1
    ({ r.1.set bMpc Rg.RESET_CAUSE.UPDATE 1 with
        upd := { u.setBank b { u.bank b with st := 4, order := n } with applied := n } }, false)
  else (r.1, true)

/-- The first bank in a state. -/
def Upd.bankIn (u : Upd) (st : Nat) : Option Nat := [0, 1].find? (fun b => (u.bank b).st == st)

/-- A FINAL set is applied, or the copying of one resumes (R133, R137, R138). The Boolean says that a copy failed. -/
def State.applyUpdate (s : State) (env : BootEnv) : State × Bool :=
  match s.upd.bankIn 2 with
  | some b =>
    let u := { s.upd with banks := s.upd.banks.map (fun (k : Bank) => if k.st = 3 then { k with st := 6 } else k) }
    let k := u.bank b
    match ifConflict (u.merged k.heads) with
    | some t => ({ s with upd := u.setBank b { k with st := 5 } }.record 0x004 3 34 (leBytes 1 b ++ leBytes 1 t), false)
    | none => { s with upd := u.setBank b { k with st := 3, copied := [] } }.copyBank env.copyBad b
  | none =>
    match s.upd.bankIn 3 with
    | some b => s.copyBank env.copyBad b
    | none => (s, false)

/-! ### Verification (R500, R501) -/

/-- How an active image fails, as BOOT_STAT.CODE: 2 header signature, or no image; 3 hash. 0 when it verifies. -/
def State.imgFault (s : State) (typ : Nat) : Nat :=
  match s.upd.active.find? (fun f => f.typ == typ) with
  | none => 2
  | some f => if !s.headSigned typ f.head then 2 else if hashOk f.head f.body then 0 else 3

/-- BOOT_STAT written. -/
def State.bootStat (s : State) (code typ : Nat) : State := s.sets bSec [(Rg.BOOT_STAT.CODE, code), (Rg.BOOT_STAT.TYPE, typ)]

/-- The device halts in BOOTSTRAP. -/
def State.halt (s : State) (code typ : Nat) : State :=
  let t := s.bootStat code typ
  { t with sec := { t.sec with halted := true } }

/-- The FINAL or APPLIED bank whose image of a type verifies. -/
def State.fallback (s : State) (typ : Nat) : Option Nat :=
  [0, 1].find? (fun b =>
    let k := s.upd.bank b
    (k.st == 2 || k.st == 4) && (match k.head typ with | some h => s.headSigned typ h && hashOk h (k.image typ h) | none => false))

/-- SECFW, MGMTFW or TIMEFW verified: a failing one starts from Chrysalis, or the device halts. -/
def State.verifyFw (s : State) (typ : Nat) : State :=
  if s.imgFault typ = 0 then s
  else match s.fallback typ with
    | some b =>
      let t := { s with upd := { s.upd with fell := s.upd.fell ++ [(typ, b)] } }
      (t.bootStat 4 typ).record 0x051 3 34 (leBytes 1 typ ++ leBytes 1 b)
    | none => s.halt 5 typ

/-- STOPFW verified: SS starts, or is held in reset. -/
def State.verifyStop (s : State) : State :=
  let c := s.imgFault 5
  if c = 0 then { s.set bMpc Rg.FS_STAT.SS_OK 1 with boot := { s.boot with ssHeld := false } }
  else
    let t := (s.set bMpc Rg.FS_STAT.SS_OK 0).bootStat c 5
    { t with boot := { t.boot with ssHeld := true } }.record 0x052 4 34 (leBytes 4 (t.word bSec .BOOT_STAT))

/-- The source of the processor island that runs an image type. -/
def fwSource : Nat → Nat
  | 1 => 34 | 3 => 35 | 5 => 33 | 6 => 37 | _ => 36

/-- The processor that a record of an image type's firmware names as ORIGIN. -/
def fwOrigin : Nat → Nat
  | 1 => 2 | 2 => 1 | _ => 0

/-- Settings at a firmware's start (R140): at its first start after an update, settings of another format return to their
defaults. MP's settings hold the margin plan and the partner identities, Gauntlet's the stored slots. -/
def State.newSettings (s : State) (typ : Nat) : State :=
  match s.upd.settingsFmt typ with
  | none => s
  | some f =>
    match s.upd.setting typ with
    | none => { s with upd := s.upd.store ⟨typ, f, []⟩ }
    | some x =>
      if !s.upd.fresh.contains typ ∨ x.fmt = f then s
      else
        let t := { s with upd := s.upd.store ⟨typ, f, []⟩ }
        let t := if typ = 1 then { t with sec := { t.sec with stored := [] } }
          else if typ = 2 then { t with health := { t.health with partners := [], planV := (0, 0), planF := [] } } else t
        t.recordBy (fwOrigin typ) 0x006 2 (fwSource typ) (leBytes 1 typ ++ leBytes 2 x.fmt ++ leBytes 2 f)

/-- A firmware started: it is no longer new. -/
def State.started (s : State) (typ : Nat) : State :=
  let t := s.newSettings typ
  { t with upd := { t.upd with fresh := t.upd.fresh.filter (· != typ) } }

/-! ### Steps 4 and 5 -/

/-- A stored slot loaded, its mask drawn from the TRNG (R515, R518). -/
def State.loadSlot (s : State) (x : StoredSlot) : State :=
  let b := ksBase x.slot
  let t := Reg.KS_ATTR.desc.flds.foldl (fun u f => u.set b f (bits f.lo f.w x.attr)) s
  let w := x.key.length / 8
  let t := (t.drawn w).setSlot ⟨x.slot, maskKey x.key (trngBytes w t.free), none⟩
  let p := t.get b Rg.KS_ATTR.PARENT
  if p < 256 ∧ t.ksState p ≠ 1 then t.set b Rg.KS_ATTR.STATE 2 else t

/-- The stored slots loaded in ascending order under the life-cycle root they are wrapped under (R505, R506, R518). -/
def State.loadSlots (s : State) : State :=
  match s.selRoot with
  | some r =>
    if s.rootCode = 1 then
      (List.range 256).foldl (fun t n => match s.sec.stored.find? (fun x => x.slot == n && x.root == r) with
        | some x => t.loadSlot x
        | none => t) s
    else s
  | none => s

/-- Steps 4 and 5: SECFW, then TIMEFW and STOPFW. -/
def State.bootFw (s : State) : State :=
  let t := s.verifyFw 1
  if t.sec.halted then t
  else
    let t := (t.started 1).loadSlots.verifyFw 3
    if t.sec.halted then t else t.verifyStop

/-! ### Steps 6 and 7 -/

/-- Step 6: MGMT is powered, MGMTFW verified, the recorder started and Gauntlet's early records delivered (R577). -/
def State.bootMgmt (s : State) : State :=
  let t := { s with power := { s.power with mgmt := true } }.lockIslands [4, 5, 6, 7]
  let t := t.verifyFw 2
  if t.sec.halted then t
  else
    let t := { t with log := { t.log with running := true, ms := t.nowNs / 1000000, reqs := t.log.reqs ++ t.log.early, early := [] } }
    let t := t.started 3
    (if t.boot.ssHeld then t else t.started 5).started 2

/-- Step 7: IO is powered, DDR trained, Ethernet, PCIe and CAN started (R468, R488); YX_EPOCH is drawn and the sequence starts
again (R478). -/
def State.bootIo (s : State) (env : BootEnv) : State :=
  let t := { s with power := { s.power with io := true } }.lockIslands [8, 9, 10, 11, 12]
  let t := if env.ddrOk then t.set bDdr Rg.DDR_STAT.TRAINED 1
    else ((t.set bDdr Rg.DDR_STAT.TRAINED 0).event 19 bDdr Rg.DDR_EVT.TRAIN_FAIL).record 0x043 4 19 []
  let t := (t.sets bYx [(Rg.YX_EPOCH.EPOCH, (Config.trng t.free).toNat), (Rg.YX_SEQ.SEQ, 0)]).drawn 1
  let t := t.setB bPcie Rg.PCIE_STAT.PERST t.pcie.perst
  { t with pcie := { t.pcie with started := true, allowed := true }, scrub := { t.scrub with ddr := t.nowNs * 2 ^ 28 } }

/-! ### Step 8: the structure image -/

/-- The active structure image and its stored length; no image at all has no byte, so that R96 refuses it with BAD_MAGIC (DESIGN
CHOICE, log entry 28). -/
def State.structImg (s : State) : List Byte × Nat :=
  match s.upd.active.find? (fun f => f.typ == 4) with
  | some f => (f.body, hdrLen f.head)
  | none => ([], 0)

/-- A refused image (R99): no tile is instanced, FA and FB are off, and no function that IOBANK controls is enabled but the
endpoint. -/
def State.structRefused (s : State) (r : StructRes) : State :=
  let t := ({ s with img := State.reset.img }.structRes true r).set bMpc Rg.STRUCT_ID.IMG_VERSION 0
  let t := t.record 0x003 4 31 (leBytes 4 (t.word bMpc .STRUCT_STAT))
  { t with pcie := { t.pcie with allowed := true } }

/-- The field that shows the enabled lanes of a kind of tile. -/
def lanesFld : Blk → Option Fld
  | .loop => some Rg.LT_ID.LANES | .obs => some Rg.OB_ID.LANES | .phs => some Rg.PH_ID.LANES | .aln => some Rg.AT_ID.LANES
  | .moda => some Rg.MD_ID.LANES | .trig => some Rg.TG_ID.LANES | .trk => some Rg.TK_ID.LANES | .pkt => some Rg.PK_ID.LANES
  | .cry => some Rg.CY_ID.LANES
  | _ => none

/-- The lanes of a tile shown in its ID register. -/
def State.showLanes (s : State) (p : Nat × Nat) : State :=
  match (kindAt p.1).bind lanesFld with
  | some f => s.set (tileBase p.1) f p.2
  | none => s

/-- A link with its queue empty, all its credits, and the slots of its ring free (R53, R86); one of an isolated island is held in
reset (R117). -/
def freshLink (isolated : List Nat) (areas : List MemRec) (r : LinkRec) : Link :=
  let slots := match areas.find? (fun a => a.use == 0 && a.id == r.ring) with
    | some a => a.slots
    | none => 0
  ⟨r, 14, 0, slots, [], 0, [], none, isolated.contains (endIsland r.src) || isolated.contains (endIsland r.dst)⟩

/-- Steps 4 to 7 of R101: FA and FB powered, the islands with an instanced tile locked at FREQ_CODE, lanes enabled, links reset,
rings and flows loaded. -/
def State.instance_ (s : State) (l : List Byte) : State :=
  let g := imgOf l
  let fr := freqsOf l
  let isl := (List.range 44).filter (fun i => g.lanes.any (fun p => islandOf p.1 == i))
  let out : List Nat := s.modes.isolated.map (fun (x : Nat × Nat × Bool) => x.1)
  let t := { s with
    power := { s.power with fa := true, fb := true }, img := g, links := g.links.map (freshLink out g.areas), rx := [],
    outq := s.outq.filter (fun o => g.links.any (fun l => l.src == o.src && l.dst == o.dst)),
    disp := { s.disp with flows := flowsOf l, loaded := true }, health := { s.health with imgFreq := fr } }
  let t := fr.foldl (fun u p => u.set (islBase p.1) Rg.ISL_CLK.FREQ_CODE p.2) t
  let t := (t.lockIslands isl).set bDsp Rg.DSP_CTRL.FLEET_RSV (fleetRsv l)
  g.lanes.foldl State.showLanes t

/-- The LOCK bits lifted for REGINIT: fields loaded from the image take their values at every BOOTSTRAP (R15). -/
def State.unlocked (s : State) : State := s.clearCells isLock

/-- The LOCK bits of another state set again. -/
def State.relocked (s old : State) : State :=
  { s with cells := (old.cells.filter (fun c => isLock c.1)).foldl (fun l c => assocSet c.1 c.2 l) s.cells }

/-- The fields of the service blocks and the flows as they were in another state: what REGINIT wrote is lost (R100). Event bits and
status that the fault itself has set stay. -/
def State.uninit (s old : State) (l : List RegInit) : State :=
  let of_ (c : Nat × Nat) : Bool :=
    decide (serviceBase .time ≤ keyAddr c.1) && l.any (fun r => r.addr / 8 == keyAddr c.1 / 8)
  let kept : List (Nat × Nat) := s.cells.filter (fun c => !of_ c)
  let back : List (Nat × Nat) := old.cells.filter of_
  let t := { s with cells := back.foldl (fun (x : List (Nat × Nat)) (c : Nat × Nat) => assocSet c.1 c.2 x) kept,
                    disp := { s.disp with flows := old.disp.flows, loaded := old.disp.loaded },
                    health := { s.health with imgFreq := old.health.imgFreq } }
  t.set bDsp Rg.DSP_CTRL.FLEET_RSV (old.get bDsp Rg.DSP_CTRL.FLEET_RSV)

/-- REGINIT records written by Gauntlet in order, up to the first that completes with an error (R94, R100). -/
def runInits : List RegInit → Nat → State → State × Option Nat
  | [], _, s => (s, none)
  | r :: t, i, s =>
    let u := s.busPut .gauntlet r.addr r.wide r.val
    if u.resp.how = .ok then runInits t (i + 1) u else (u, some i)

/-- Step 9 of R101: the STRUCT registers are written, the endpoint follows PCIE_EN (R468) and MP enables the dispatcher. -/
def State.structDone (s : State) (l : List Byte) : State :=
  let inst := (s.img.lanes.map (fun p => 2 ^ p.1)).sum
  let t := s.sets bMpc [(Rg.STRUCT_ID.IMG_VERSION, leAt l 0x10 4),
    (Rg.STRUCT_DIGEST.DIGEST, leVal ((sha384 (l.take (totalLen l))).take 8)), (Rg.STRUCT_INST0.INST, inst),
    (Rg.STRUCT_INST1.INST, inst / 2 ^ 64)]
  let t := t.structRes true ⟨0, 0, 0⟩
  let on := bitOf 28 t.img.io0
  let t := if on then t else { t with pcie := { t.pcie with allowed := false } }.linkSet false 0 0
  t.set bDsp Rg.DSP_CTRL.ENABLE 1

/-- Step 8: the active structure image checked (R96, R97) and instanced (R99–R101). The Boolean says that it is in force. SECTION and
RECORD shown with REGINIT_FAULT are REGINIT's directory entry and the record that failed (DESIGN CHOICE, log entry 29). -/
def State.bootStruct (s : State) : State × Bool :=
  let im := s.structImg
  let others := s.upd.activeHeads.filter (fun x => x.1 != 4)
  match structCheck im.1 im.2 (s.structSigned im.1) (s.get bDdr Rg.DDR_CFG.SIZE) others with
  | some r => (s.structRefused r, false)
  | none =>
    let r := runInits (initsOf im.1) 0 (s.instance_ im.1).unlocked
    let t := { r.1.relocked s with resp := s.resp, staged := r.1.staged.filter (fun w => w.who != Master.gauntlet) }
    match r.2 with
    | none => (t.structDone im.1, true)
    | some i => (((t.fabricDown.uninit s (initsOf im.1)).structRefused ⟨0x71, sectOf im.1 8, i⟩), false)

/-! ### Steps 9 and 10 -/

/-- Step 9: ACIMG verified and AC0–AC3 released; without DDR they stay in reset. The Boolean says that the image fails. -/
def State.bootApp (s : State) (env : BootEnv) : State × Bool :=
  if !env.ddrOk then (s, false)
  else
    let c := s.imgFault 6
    if c = 0 then ({ s with boot := { s.boot with acHeld := false } }.started 6, false)
    else
      let t := s.bootStat c 6
      (t.record 0x053 4 34 (leBytes 4 (t.word bSec .BOOT_STAT)), true)

/-- MP applies the saved margin plan (R546). -/
def State.applyPlan (s : State) : State :=
  let volt (t : State) (d : Dom) : State :=
    let v := pairGet d t.health.planV
    if v = 0 then t
    else
      let h : Health := { t.health with pmbWait := pairSet d t.health.pmbWait true, pmbAt := pairSet d t.health.pmbAt t.nowNs }
      { t.set bHl (planF d) v with health := h }
  let t := volt (volt s .fa) .fb
  let mine := (s.planIsles .fa) ++ (s.planIsles .fb)
  (t.health.planF.filter (fun p => mine.contains p.1)).foldl (fun u p => u.set (islBase p.1) Rg.ISL_CLK.FREQ_CODE p.2) t

/-- MP's writes from Cocoon items that passed their checks; the last completion stays as it was. -/
def State.restoreRegs (s : State) (l : List (Nat × Nat)) : State :=
  { l.foldl (fun u p => u.busPut .mp p.1 true p.2) s with resp := s.resp }

/-- The oscillator model and the position restored (R220): TIME_HO less than 30 days after COC_TIME; the survey by START in mode
STORED, fixed coordinates in mode FIXED (R232). -/
def State.cocoonItems (s : State) : State :=
  let t := if s.now < s.get bMpc Rg.COC_TIME.INSTANT + 30 * 86400 * 1000000000 then
      s.restoreRegs [(bTime + Rg.TIME_HO.RATE.off, s.coWord 0x14)] else s
  match (List.range 2).find? (fun i => s.instanced (obPos i)) with
  | some i =>
    if s.cocPosOk then
      let b := obBase i
      let mode := if bits 32 32 (s.coWord 0x13) = 2 then 1 else 2
      let sv := putBits Rg.OB_SV.START.lo 1 (putBits Rg.OB_SV.MODE.lo Rg.OB_SV.MODE.w (t.word b .OB_SV) mode) 1
      (t.restoreRegs [(b + 0x20, s.coWord 0x10), (b + 0x28, s.coWord 0x11), (b + 0x30, s.coWord 0x12),
        (b + Rg.OB_POS_UNC.SIGMA.off, s.coWord 0x13 % 2 ^ 16), (b + Rg.OB_SV.START.off, sv)]).takeDirs
    else t
  | none => t

/-- MP's half-width of a narrowed cold search, 500 Hz, in every search context of an instanced tile (R221). -/
def State.narrowSearch (s : State) : State :=
  (List.range 32).foldl (fun t q => if t.chanOn .acq q then t.set (aqBase q) Rg.AQ_DOP.HALF 500 else t) s

/-- A start with Cocoon valid (R220, R221): an unreadable word, or a store whose CRC or format is wrong, makes the start cold and
nothing is used. Else VALID clears before anything is restored unless the start is hot; the items that pass are restored, those of a
port when its front end is known; a hot start keeps the channel hints for the ports that come to RUN, a cold one narrows its
search. -/
def State.cocoonStart (s : State) : State :=
  if !s.flag bMpc Rg.COC_CTRL.VALID then s
  else if s.boot.coBad ≠ [] then s.sets bMpc [(Rg.COC_CTRL.UE, 1), (Rg.COC_CTRL.VALID, 0)]
  else if !s.storeOk then s.set bMpc Rg.COC_CTRL.VALID 0
  else
    let hot := s.hotStart
    let hints := if hot then (List.range 512).filterMap s.cocHint else []
    let keeps := (List.range 8).map s.cocKeep
    let t := if hot then s.drawn 512 else s.set bMpc Rg.COC_CTRL.VALID 0
    let t := { t with boot := { t.boot with hints := hints, keeps := keeps } }.cocoonItems
    if hot ∨ !s.almanacOk then t else t.narrowSearch

/-- Steps 8 to 10: the structure, the application image, the saved plan, the partners, and the change to SURVEY or
MAINTENANCE (R103, R107). `bad` are the causes found before. -/
def State.bootEnd (s : State) (env : BootEnv) (bad : Bool) : State :=
  let r := s.bootStruct
  let a := r.1.bootApp env
  let t := if r.2 then a.1.applyPlan else a.1
  let t := env.partners.foldl (fun u p => u.partner p.1 p.2.1 p.2.2) t
  let dirty := bad || !r.2 || a.2 || !env.ddrOk || t.get bSec Rg.SEC_STAT.LC == 0
  if dirty ∨ t.flag bMpc Rg.RESET_CAUSE.MAINT_BOOT then t.prepare .maintenance 4 dirty else t.prepare .survey 4 false

/-- Steps 3 to 10 of R121. A wake applies no update set (R127); `fresh` says that a reset came before. -/
def State.boot3 (s : State) (env : BootEnv) (fresh : Bool) : State :=
  let t := ({ s with upd := { s.upd with fell := [] } }).bootSec env
  let r := if fresh then t.applyUpdate env else (t, false)
  if !r.1.keyPageOk ∧ r.1.get bSec Rg.SEC_STAT.LC ≠ 0 then r.1.halt 1 0
  else
    let t := r.1.bootFw
    if t.sec.halted then t
    else
      let t := t.bootMgmt
      if t.sec.halted then t else (t.bootIo env).bootEnd env r.2

/-! ### Resets -/

/-- Step 2: the TIME island locks and the time counter runs. -/
def State.timeLock (s : State) : State := { s.lockIslands [3] with boot := { s.boot with waitRef := false } }

/-- POWER_ON_RESET: VDD_SOC rises, or RESET_N was low for at least 10 µs (R119, R120). Every domain is reset and BOOTSTRAP runs from
step 1; with no valid clock on REF10_IN (`env` none) it waits in step 2. -/
def execPowerOnReset (vbat : Bool) (env : Option BootEnv) (s : State) : Host.Outcome State Fault Refusal :=
  let t := s.powerUp vbat
  let t := if vbat then t else t.vbatDown
  match env with
  | none => .next { t with boot := { t.boot with waitRef := true } }
  | some e => .next (t.timeLock.boot3 e true)

/-- REF_CLOCK_LOCK: the clock that step 2 waits for is there, and BOOTSTRAP goes on (R121, R141). -/
def execRefClockLock (env : BootEnv) (s : State) : Host.Outcome State Fault Refusal :=
  if s.boot.waitRef ∧ s.power.vdd then .next (s.timeLock.boot3 env true) else .next s

/-- The RESET_CAUSE bit of a warm reset. -/
def causeFld : Nat → Fld
  | 2 => Rg.RESET_CAUSE.WARM_HOST | 3 => Rg.RESET_CAUSE.WDOG_MP | 4 => Rg.RESET_CAUSE.WDOG_SEC | _ => Rg.RESET_CAUSE.WARM_SW

/-- WARM_RESET: a warm reset that has been asked for, and whose instant has come (R477), takes place (R119): its causes are shown, and BOOTSTRAP runs from step 3. -/
def execWarmReset (env : BootEnv) (s : State) : Host.Outcome State Fault Refusal :=
  if !s.power.due.any (fun c => c != 2 || decide (s.power.hostAt ≤ s.nowNs)) ∨ !s.power.vdd then .next s
  else
    let t := s.power.due.foldl (fun u c => u.set bMpc (causeFld c) 1) s
    let t := { t with power := { t.power with due := [] } }.warmDown
    .next (t.takeDebug.boot3 env true)

/-- WATCHDOG_EXPIRY: the watchdog of MP, or of Gauntlet (`sec`), expires; the recorder is flushed and a warm reset is asked for
(R119, R542). -/
def execWatchdogExpiry (sec : Bool) (s : State) : Host.Outcome State Fault Refusal :=
  if s.on (if sec then .sec else .mgmt) then .next (s.startEmergency.flushAll.askReset (if sec then 4 else 3)) else .next s

/-! ### The commit of a mode change (R112) -/

/-- The commit instant: the change applies; an entry to DORMANT ends here, before MGMT is switched off, and SURVEY reached from
BOOTSTRAP lets MP restore what Cocoon holds (R127). -/
def State.commitNow (s : State) (c : Change) (late : List Nat) : State :=
  let t := s.commitApply c late
  if c.target = .dormant ∧ c.from_ ≠ .dormant then t.modeSettle.dormantOff.modeSettle
  else if c.from_ = .bootstrap ∧ c.target = .survey then t.cocoonStart else t

/-! ### Wakes (R125–R127) -/

/-- A wake source shown in WAKE_STAT, by its bit. -/
def State.wakeMark (s : State) (bit : Nat) : State :=
  if bit = 0 then s.event 2 bMpc Rg.WAKE_STAT.TIMER
  else if bit = 1 then s.event 2 bMpc Rg.WAKE_STAT.HOST
  else if bit = 6 then s.event 2 bMpc Rg.WAKE_STAT.TAMPER
  else (s.set bMpc Rg.WAKE_STAT.PIN (s.get bMpc Rg.WAKE_STAT.PIN ||| 2 ^ (bit - 2))).toggle 2

/-- The wake of R127: the sources shown, and a start from step 3. -/
def State.wakeUp (s : State) (bits_ : Nat) (env : BootEnv) : State :=
  let t := ((List.range 7).filter (fun i => bitOf i bits_)).foldl State.wakeMark s
  let t := (t.set bMpc Rg.WAKE_TS.INSTANT t.now).event 0 bMpc Rg.MODE_EVT.WAKE
  t.bootstrap.boot3 env false

/-- MODE_COMMIT_INSTANT: the commit instant is reached; `late` are the participants that do not yet hold the COMMIT. The epoch check
that ends a change is MODE_CHANGE_COMPLETE. A wake source that asserted after COMMIT starts the wake when the entry to DORMANT has
ended (R126). -/
def execModeCommitInstant (late : List Nat) (s : State) : Host.Outcome State Fault Refusal :=
  match s.modes.change with
  | some c =>
    if c.commit.any (fun k => decide (k ≤ s.now)) ∧ (s.mode ≠ c.target ∨ (c.from_ = c.target ∧ s.lagging c.parts ≠ [])) then
      let t := s.commitNow c late
      match c.target, s.modes.wakeEnv with
      | .dormant, some env => .next (if s.modes.woken = 0 ∨ c.from_ = .dormant then t else t.wakeUp s.modes.woken env)
      | _, _ => .next t
    else .next s
  | none => .next s

/-- A wake source asserts: before COMMIT it cancels the entry to DORMANT, after COMMIT it is kept until the entry ends, and in
DORMANT it wakes the device (R126, R127). -/
def State.wake (s : State) (bit : Nat) (env : BootEnv) : State :=
  if s.entering then s.dormantAbort
  else if s.committing then { s with modes := { s.modes with woken := s.modes.woken ||| 2 ^ bit, wakeEnv := some env } }
  else if s.mode = .dormant then s.wakeUp (2 ^ bit) env
  else s

/-- WAKE_TIMER_FIRE: the time core has reached WAKE_TIME. An instant that passed before the SLEEP request wakes at the commit
instant and cancels no entry (R125). -/
def execWakeTimerFire (env : BootEnv) (s : State) : Host.Outcome State Fault Refusal :=
  let at_ := s.get bMpc Rg.WAKE_TIME.INSTANT
  if s.flag bMpc Rg.WAKE_CFG.TIMER_EN ∧ at_ ≤ s.now ∧ (!s.entering ∨ s.modes.asked < at_) then .next (s.wake 0 env)
  else .next s

/-- WAKE_PIN: GPIO(28 + pin) has held a new level for 100 µs. -/
def execWakePin (pin : Nat) (rise : Bool) (env : BootEnv) (s : State) : Host.Outcome State Fault Refusal :=
  if pin < 4 ∧ bitOf pin (s.get bMpc Rg.WAKE_CFG.PIN_EN) ∧ bitOf pin (s.get bMpc Rg.WAKE_CFG.PIN_POL) = rise then .next (s.wake (2 + pin) env)
  else .next s

/-- WAKE_HOST: a rising edge of PCIE_PERST_N. -/
def execWakeHost (env : BootEnv) (s : State) : Host.Outcome State Fault Refusal :=
  if s.flag bMpc Rg.WAKE_CFG.HOST_EN then .next (s.wake 1 env) else .next s

/-- TAMPER_DETECT: an enabled source's detector sees a tamper, and the source asserts (R519–R521); in DORMANT and during the entry to it, it is a wake source whatever
WAKE_CFG holds (R125). -/
def execTamperDetect (src : Nat) (v : Int) (held : Nat) (env : BootEnv) (s : State) : Host.Outcome State Fault Refusal :=
  if s.tamperOn src ∧ s.tamperSees src v held ∧ !bitOf src (s.get bSec Rg.TAMP_STAT.ACTIVE) then .next ((s.tamper src).wake 6 env)
  else .next s

end Sys2Proof.Machine
end

