-- ==== Sys2Proof/Machine/HostBus.lean ====
section
/-! DEFINITION. The host's own accesses (R469–R471) and the Yupex operations that read and write registers (R477). -/

namespace Sys2Proof.Machine

/-- The device address behind an offset of BAR0; none for a reserved offset (R469). -/
def bar0 (off : Nat) : Option Nat :=
  if off < 0x180_0000 then some (0x1000_0000 + off)
  else if 0x200_0000 ≤ off ∧ off < 0x22C_0000 then some (0x2000_0000 + (off - 0x200_0000))
  else if 0x300_0000 ≤ off ∧ off < 0x310_0000 then some (0x3000_0000 + (off - 0x300_0000))
  else none

/-- Unsupported Request. -/
def State.unsupported (s : State) : State := s.answer .unsupported 0

/-- A host read through BAR0: stage memory takes 1 to 8 bytes (R470). -/
def State.hostRead (s : State) (a n : Nat) : State :=
  if inMemory a ∧ (n = 0 ∨ 8 < n) then s.unsupported else s.busRead .host a n

/-- A host write through BAR0. With EP set every word of memory it covers is written poisoned (R471), and a register is not
written. -/
def State.hostWrite (s : State) (a : Nat) (l : List Byte) (ep : Bool) : State :=
  if inMemory a ∧ (l = [] ∨ 8 < l.length) then s.unsupported
  else if !ep then s.busWrite .host a l
  else if !mayWrite s .host a then s.noRight .host a true
  else if inMemory a then s.memory .host a l.length (fun t => (t.memPoison a l).answer .ok 0)
  else s.answer .ok 0

/-- HOST_ACCESS: a host request to BAR0, or to BAR2, which is the mailbox block; none reaches the device while the link is down
(R468). The hardware sets the W1C bits of `same` in the same cycle. -/
def execHostAccess (bar2 : Bool) (off : Nat) (op : MemOp) (ep : Bool) (same : Nat) (s : State) : Host.Outcome State Fault Refusal :=
  if !s.on .io ∨ !s.flag bPcie Rg.PCIE_STAT.LINK_UP then .next s
  else if bar2 then
    if 0x1_0000 ≤ off then .next s.unsupported
    else match op with
      | .read n => .next (s.winRead .host (bYx + off) n)
      | .write l => if ep then .next (s.answer .ok 0) else .next (s.keepAt (s.winWrite .host (bYx + off) l.length (leVal l)) (bYx + off) (l.length == 8) same)
  else match bar0 off with
    | none => .next s.unsupported
    | some a =>
      match op with
      | .read n => .next (s.hostRead a n)
      | .write l => .next (s.keepAt (s.hostWrite a l ep) a (l.length == 8) same)

/-! ### REG_READ and REG_WRITE -/

/-- Whether an address lies in the regions of R469. -/
def inBar0 (a : Nat) : Bool := decide (0x1000_0000 ≤ a ∧ a < 0x1180_0000) || inTiles a || inServices a

/-- Whether an address names a function that is not instanced (R2): a tile the image does not instance, or a register whose
function, lane or pin is not enabled. -/
def State.absent (s : State) (a : Nat) : Bool :=
  match placeOf a with
  | some p =>
    (match p.pos with
     | some q => !s.instanced q
     | none => false) ||
    (match regAt p a with
     | some h => !s.enabled p h
     | none => false)
  | none => false

/-- The request now served is answered with a frame status and no payload. -/
def State.yxStop (s : State) (op fstat : Nat) : State :=
  match s.yx.serving with
  | some r =>
    if yxOp r.frame = op then
      let t := (s.yxSend r fstat []).yxKeep r fstat []
      { t with yx := { t.yx with serving := none } }
    else s
  | none => s

/-- A register operation with the host's rights: `f` makes the access. Outside the regions of R469, with a width other than 4 or 8,
or on an access that completes with an error, the status is ADDR_ERR; a tile that is not instanced gives NOT_INSTANCED. The last
completion of the bus stays as it was. -/
def State.regOp (s : State) (op : Nat) (p : List Byte) (f : Nat → Nat → State → State) (data : State → List Byte) : State :=
  let a := leAt p 0 5
  let n := leAt p 5 1
  if s.absent a then s.yxStop op 7
  else if !inBar0 a ∨ (n ≠ 4 ∧ n ≠ 8) then s.yxReply op 0 1 (data (s.answer .err 0))
  else
    let t := f a n s
    let c := if t.resp.how = .err ∨ t.resp.how = .unsupported then 1 else 0
    { t with resp := s.resp }.yxReply op 0 c (data t)

/-- REG_READ: the value read, in 8 bytes. -/
def execRegRead (s : State) : Host.Outcome State Fault Refusal :=
  match s.yxServing 0x20 with
  | some p => .next (s.regOp 0x20 p (fun a n t => t.busRead .host a n) (fun t => leBytes 8 t.resp.val))
  | none => .next s

/-- REG_WRITE. -/
def execRegWrite (s : State) : Host.Outcome State Fault Refusal :=
  match s.yxServing 0x21 with
  | some p => .next (s.regOp 0x21 p (fun a n t => t.busWrite .host a (leBytes n (leAt p 6 8))) (fun _ => []))
  | none => .next s

end Sys2Proof.Machine
end

