-- ==== Sys2Proof/Machine/TimeRows.lean ====
section
/-! DEFINITION. The commands of the time core (R142–R164), and what every function does on a second boundary and on the edge of a
step. -/

namespace Sys2Proof.Machine

/-! ### Edges -/

/-- Instants of PREPARE, of a SLEEP request, of isolations, of the update session, of power-downs, of renewed masks, of admissions, of
samples, of the RESET operation and of the scrubs, at a change of the scale's label: each counts a duration. -/
def State.shiftPower (s : State) (off : Int) : State :=
  let f := fun t : Nat => ((t : Int) + off).toNat
  let recs := s.log.recs.map (fun r : Rec => { r with at_ := f r.at_ })
  let change := s.modes.change.map (fun c : Change => { c with prep := f c.prep })
  let sess := s.upd.sess.map (fun u : UpdSess => { u with last := f u.last })
  { s with modes := { s.modes with change := change, sleep := s.modes.sleep.map (fun p : Nat × Nat => (f p.1, p.2)),
                                   isolated := s.modes.isolated.map (fun x : Nat × Nat × Bool => (x.1, f x.2.1, x.2.2)) },
           upd := { s.upd with sess := sess },
           power := { s.power with hostAt := f s.power.hostAt, holdAt := s.power.holdAt.map f },
           sec := { s.sec with maskAt := f s.sec.maskAt },
           log := { s.log with recs := recs },
           health := { s.health with passAt := f s.health.passAt, railAt := f s.health.railAt, tempAt := f s.health.tempAt,
                                     pmbAt := (f s.health.pmbAt.1, f s.health.pmbAt.2) } }.scrubShift off

/-- The last millisecond refilled, named anew at an era relabel (R146, R537). -/
def State.relabelMs (s : State) (off : Int) : State :=
  let old := (((s.nowNs : Int) - off).toNat / 1000000 : Nat)
  { s with log := { s.log with ms := ((s.log.ms : Int) + (s.nowNs / 1000000 : Nat) - old).toNat } }

/-- What every function does on the edge of a step by `off` ns (R152, R183, R217, R243, R255, R305, R326, R341, R359,
R398, R431, R464, R537). -/
def State.reacted (s : State) (off : Int) : State :=
  let t := { s with time := { s.time with stepped := none } }
  let t := ((((t.loopStepped off).gnssStepped off).obsStepped off).filtStepped.phStepped).alignStepped off
  let t := ((t.groupsStepped.captureStepped.radioStepped.stopShift off).tracksStepped off).ethStepped off
  ((if t.on .io then t.canStepped off else t).shiftPower off).refill

/-- What a wrap to a label other than the old era + 1 does: grids go on, at instants that the label names anew (R146). -/
def State.relabelled (s : State) (off : Int) : State :=
  let t := { s with time := { s.time with relab := none } }
  let t := (((((t.loopRelabel off).gnssRelabel off).obsRelabel off).filtRelabel off).phRelabel off).alignRelabel off
  (((t.groupsRelabel off).captureRelabel off).radioRelabel off).stopShift off |>.tracksRelabel off |>.ethShift off |>.canShift off |>.shiftPower off |>.relabelMs off

/-- What the update grids do on a second boundary (R167, R217, R233, R239); TP looks for a source that may take over (R155). -/
def State.secondActs (s : State) : State := s.reselect.loopSecond.gnssSecond.obsSecond

/-- `n` edges, of which only the last may be a second boundary, a wrap or the end of a slew, with all that happens on it. -/
def State.runEdges (s : State) (n : Nat) : State :=
  let t := s.addEdges n
  let t := match t.time.relab with
    | some off => t.relabelled off
    | none => t
  let t := match t.time.stepped with
    | some off => t.reacted off
    | none => if t.time.bound = s.time.bound then t else t.secondActs
  t.radioDue.tracksDue

/-- Edges up to the next special one. -/
def State.edgesToNext (s : State) : Nat :=
  let k := if s.time.leapDue then 1 else min s.edgesToSecond s.edgesToWrap
  match s.edgesToSlewEnd with
  | some e => min e k
  | none => k

/-- `n` edges; the first argument bounds the special ones among them. -/
def State.ticks : Nat → Nat → State → State
  | 0, _, s => s
  | f + 1, n, s =>
    if n = 0 then s
    else
      let k := min n s.edgesToNext
      State.ticks f (n - k) (s.runEdges k)

/-- The run up to and including the next second boundary; a wrap and the end of a slew may lie before it. -/
def State.toSecond : Nat → State → State
  | 0, s => s
  | f + 1, s =>
    let k := s.edgesToNext
    if k = s.edgesToSecond then s.runEdges k else State.toSecond f (s.runEdges k)

/-- The run up to and including the wrap of TIME_NS; second boundaries and the end of a slew may lie before it. -/
def State.toWrap : Nat → State → State
  | 0, s => s
  | f + 1, s =>
    let k := s.edgesToNext
    if k = s.edgesToWrap then s.runEdges k else State.toWrap f (s.runEdges k)

/-- The run up to the end of the slew. -/
def State.toSlewEnd : Nat → State → State
  | 0, s => s
  | f + 1, s => if s.time.rem = 0 then s else State.toSlewEnd f (s.runEdges s.edgesToNext)

/-- One TIME edge, which is what a step does when no command waits. -/
def State.idle (s : State) : State := if s.timeRuns then s.ticks 1 1 else s

/-- SECOND_BOUNDARY: the scale runs up to SEC_PHASE passing 10^9 (R143). -/
def execSecondBoundary (s : State) : Host.Outcome State Fault Refusal :=
  if s.timeRuns then .next (s.toSecond 4) else .next s

/-- ERA_WRAP: the scale runs up to the wrap of TIME_NS (R146). -/
def execEraWrap (s : State) : Host.Outcome State Fault Refusal :=
  if s.timeRuns then .next (s.toWrap 16) else .next s

/-- SLEW_DONE: the scale runs up to the end of the slew (R150). -/
def execSlewDone (s : State) : Host.Outcome State Fault Refusal :=
  if s.timeRuns then .next (s.toSlewEnd (s.time.rem.natAbs / secUnits + s.time.rem.natAbs / (s.slewRate * 2 ^ 32) + 16)) else .next s

/-- STEP_APPLY: the scale runs up to the boundary on which the armed step applies, the next that falls at least 1 ms after GO
(R152). -/
def execStepApply (s : State) : Host.Outcome State Fault Refusal :=
  if s.timeRuns ∧ s.time.armed.isSome then
    let t := s.toSecond 4
    .next (if t.time.armed.isSome then t.toSecond 4 else t)
  else .next s

/-- LEAP_APPLY: the scale runs up to the next second boundary, if the armed leap is taken there (R164). -/
def execLeapApply (s : State) : Host.Outcome State Fault Refusal :=
  let t := s.toSecond 4
  if s.timeRuns ∧ s.time.leap ∧ !t.time.leap then .next t else .next s

/-! ### Register writes -/

/-- A write of a register of the time core. -/
def State.timeWrite (s : State) (m : Master) (off : Nat) (f : State → State) : State :=
  s.actWrite m (mayTime s m) .time (bTime + off) f

/-- TIME_INC_WRITE: a 64-bit value, or the high word after a staged low word (R144, R145). -/
def execTimeIncWrite (m : Master) (v : Nat) (s : State) : Host.Outcome State Fault Refusal :=
  .next (s.timeWrite m 0x28 (fun t => t.incWrite v))

/-- TIME_ERA_NEXT_WRITE (R146, R147). -/
def execTimeEraNextWrite (m : Master) (v : Nat) (s : State) : Host.Outcome State Fault Refusal :=
  .next (s.timeWrite m 0x30 (fun t => t.eraNextWrite v))

/-- TIME_ADJ_WRITE (R150). -/
def execTimeAdjWrite (m : Master) (v : Nat) (s : State) : Host.Outcome State Fault Refusal :=
  .next (s.timeWrite m 0x38 (fun t => t.adjWrite v))

/-- STEP_ARM: TIME_STEP_CTRL written with GO (R151). -/
def execStepArm (m : Master) (abs : Bool) (s : State) : Host.Outcome State Fault Refusal :=
  .next (s.timeWrite m 0x58 (fun t => t.stepGo abs))

/-- STEP_CANCEL: TIME_STEP_CTRL written with CANCEL (R151). -/
def execStepCancel (m : Master) (abs : Bool) (s : State) : Host.Outcome State Fault Refusal :=
  .next (s.timeWrite m 0x58 (fun t => t.stepCancelOp abs))

/-- TIME_STATE_WRITE: TIME_CTRL written (R145, R153). -/
def execTimeStateWrite (m : Master) (v : Nat) (s : State) : Host.Outcome State Fault Refusal :=
  .next (s.timeWrite m 0x08 (fun t => t.timeCtrl v))

/-- TERR_WRITE: TIME_TERR written (R156). -/
def execTerrWrite (m : Master) (v : Nat) (s : State) : Host.Outcome State Fault Refusal :=
  .next (s.timeWrite m 0x60 (fun t => t.terrW v))

/-! ### Estimate, reference and sources -/

/-- TERR_EVAL: the estimate of HOLDOVER is evaluated, every 1 ms (R156). -/
def execTerrEval (s : State) : Host.Outcome State Fault Refusal := .next s.terrStep

/-- A HOLDOVER that began in SERVICE makes TP ask for the mode (R153). -/
def State.askHoldover (s t : State) : State := if heldOver s t then t.modeReq 3 2 else t

/-- REF_FAIL: REF10_IN stops or leaves ±100 ppm (R157). -/
def execRefFail (s : State) : Host.Outcome State Fault Refusal :=
  if s.power.vdd ∧ s.flag bTime Rg.TIME_STAT.REF_OK then .next (s.askHoldover s.refLost) else .next s

/-- REF_RECOVER: REF10_IN has been within range for 1 s (R157); with a phase source valid TP goes on to RECOVERING (R153). -/
def execRefRecover (s : State) : Host.Outcome State Fault Refusal :=
  if s.power.vdd ∧ !s.flag bTime Rg.TIME_STAT.REF_OK then
    let t := s.set bTime Rg.TIME_STAT.REF_OK 1
    if t.get bTime Rg.TIME_CTRL.STATE = 3 ∧ t.bestSource ≠ 0 ∧ t.mode ≠ .bootstrap ∧ t.mode ≠ .dormant then
      .next (t.select t.bestSource)
    else .next t
  else .next s

/-- SOURCE_VALID: source `src` meets its validity rule; `rate` is the declared uncertainty of 10MHZ_IN in TIME_HO.RATE's form (R154,
R155). -/
def execSourceValid (src rate : Nat) (s : State) : Host.Outcome State Fault Refusal := .next (s.srcValid src rate)

/-- SOURCE_LOST: source `src` meets its loss rule; `rate` is the declared uncertainty of 10MHZ_IN in TIME_HO.RATE's form (R154). -/
def execSourceLost (src : Nat) (rate : Nat) (s : State) : Host.Outcome State Fault Refusal :=
  .next (s.askHoldover (s.srcLost src rate))

/-! ### TDC, PPS outputs and cables -/

/-- TDC_EDGE: an edge on channel `ch`, rising or falling, at `stamp` with its fraction in 1/256 ns (R158). A stamp is a phase sample
of the loops that take the channel as their source (R167), and one of channels 5–12 is seen by the supervisor (R388). -/
def execTdcEdge (ch : Nat) (falling : Bool) (stamp sub : Nat) (s : State) : Host.Outcome State Fault Refusal :=
  if s.timeRuns ∧ s.tdcFitted ch then
    let t := s.tdc ch falling stamp sub
    let u := t.tdcSample ⟨ch, stamp, sub % 256, t.get bTime Rg.TIME_STAT.GEN⟩
    .next (if s.tdcTakes ch falling (stamp * 256 + sub % 256) then (if 5 ≤ ch then u.sfdSeen (ch - 5) stamp (sub % 256) else u) else t)
  else .next s

/-- STAMP_DELIVERY: the oldest stamp on its way to the tile at `pos` arrives (R51, R158): a MAC tile, or a TRIG tile, whose engines
take it as a trigger (R337). -/
def execStampDelivery (pos : Nat) (s : State) : Host.Outcome State Fault Refusal :=
  match s.time.flying.find? (fun x => x.1 == pos) with
  | none => .next s
  | some x =>
    let t := (s.deliver pos x).tdcTrig pos x.2
    .next (if 5 ≤ x.2.chan ∧ macPos (x.2.chan - 5) = pos then t.sfdStamp x.2 else t)

/-- PPS_OUTPUT_EDGE: the instant of output `n`'s rising edge has come (R160, R161). -/
def execPpsOutputEdge (n : Nat) (s : State) : Host.Outcome State Fault Refusal :=
  if n < 4 ∧ s.timeRuns ∧ s.ppsReady n then .next (s.ppsRise n) else .next s

/-- PPS_PULSE_END: WIDTH µs after output `n`'s rising edge, 0 acting as 1 (R160). -/
def execPpsPulseEnd (n : Nat) (s : State) : Host.Outcome State Fault Refusal :=
  let o := s.ppsOut n
  if n < 4 ∧ o.high ∧ o.rose + max 1 (s.get (ppsBase n) Rg.PPS_CFG.WIDTH) * 1000 ≤ s.nowNs then
    .next (s.setPps n { o with high := false })
  else .next s

/-- MEAS_GO: PPS_CFGn.MEAS_GO written (R162). -/
def execMeasGo (m : Master) (n : Nat) (s : State) : Host.Outcome State Fault Refusal :=
  .next (s.timeWrite m (0x200 + n * 0x20) (fun t => t.measure n))

/-- CABLE_LAUNCH: 500,000,000 ns after the rising edge that the measurement counts from, the test edge is launched; a change of OFS,
COMP_EN or DELAY in between makes it wait for an edge under the new setting (R162). -/
def execCableLaunch (n : Nat) (s : State) : Host.Outcome State Fault Refusal :=
  let o := s.ppsOut n
  match o.meas with
  | some (some t) =>
    if n < 4 ∧ t + 500000000 ≤ s.nowNs ∧ !o.launch then
      .next (s.setPps n (if s.ppsMoved n then { o with meas := some none } else { o with launch := true }))
    else .next s
  | _ => .next s

/-- CABLE_RESULT: what the echo window of a launched edge saw (R162, R163). -/
def execCableResult (n : Nat) (out : CableEcho) (s : State) : Host.Outcome State Fault Refusal :=
  if n < 4 ∧ (s.ppsOut n).launch then .next (s.cable n out) else .next s

end Sys2Proof.Machine
end

