-- ==== Sys2Proof/Machine/Dispatch.lean ====
section
/-! DEFINITION. One arm per command: a direct call of its meaning. -/

namespace Sys2Proof.Machine

/-- The effect of a command on everything but the queue. -/
def exec (i : Instr) (s : State) : Host.Outcome State Fault Refusal :=
  match i with
  | .powerOnReset vbat env => Sys2Proof.Machine.execPowerOnReset vbat env s
  | .warmReset env => Sys2Proof.Machine.execWarmReset env s
  | .watchdogExpiry sec => Sys2Proof.Machine.execWatchdogExpiry sec s
  | .resetCtrlWrite m v => Sys2Proof.Machine.execResetCtrlWrite m v s
  | .refClockLock env => Sys2Proof.Machine.execRefClockLock env s
  | .registerWrite m addr wide v same => Sys2Proof.Machine.execRegisterWrite m addr wide v same s
  | .rwlLock m addr v => Sys2Proof.Machine.execRwlLock m addr v s
  | .counterClear m addr wide v => Sys2Proof.Machine.execCounterClear m addr wide v s
  | .lowWordWrite m addr v => Sys2Proof.Machine.execLowWordWrite m addr v s
  | .highWordWrite m addr v same => Sys2Proof.Machine.execHighWordWrite m addr v same s
  | .lowWordRead m addr => Sys2Proof.Machine.execLowWordRead m addr s
  | .highWordRead m addr => Sys2Proof.Machine.execHighWordRead m addr s
  | .busAccess m addr op => Sys2Proof.Machine.execBusAccess m addr op s
  | .islClkWrite m isl v => Sys2Proof.Machine.execIslClkWrite m isl v s
  | .clockRelockDone isl => Sys2Proof.Machine.execClockRelockDone isl s
  | .packetSend link h data => Sys2Proof.Machine.execPacketSend link h data s
  | .packetArrive link upset => Sys2Proof.Machine.execPacketArrive link upset s
  | .creditReturn link => Sys2Proof.Machine.execCreditReturn link s
  | .linkReset link => Sys2Proof.Machine.execLinkReset link s
  | .linkResetDone link => Sys2Proof.Machine.execLinkResetDone link s
  | .submit m port => Sys2Proof.Machine.execSubmit m port s
  | .addDep m port handle pred => Sys2Proof.Machine.execAddDep m port handle pred s
  | .release m port handle => Sys2Proof.Machine.execRelease m port handle s
  | .cancel m port handle relDeps sameCycle => Sys2Proof.Machine.execCancel m port handle relDeps sameCycle s
  | .complete m port handle => Sys2Proof.Machine.execComplete m port handle s
  | .take m port => Sys2Proof.Machine.execTake m port s
  | .badOp m port op => Sys2Proof.Machine.execBadOp m port op s
  | .portOpDone port => Sys2Proof.Machine.execPortOpDone port s
  | .hwSubmit flow prio tag => Sys2Proof.Machine.execHwSubmit flow prio tag s
  | .tileComplete handle => Sys2Proof.Machine.execTileComplete handle s
  | .successorDecrement => Sys2Proof.Machine.execSuccessorDecrement s
  | .dispatch stalled => Sys2Proof.Machine.execDispatch stalled s
  | .flowDataWrite m v => Sys2Proof.Machine.execFlowDataWrite m v s
  | .modeRequest m v => Sys2Proof.Machine.execModeRequest m v s
  | .modeAck isl => Sys2Proof.Machine.execModeAck isl s
  | .ackWaitExpiry => Sys2Proof.Machine.execAckWaitExpiry s
  | .modeCommitInstant late => Sys2Proof.Machine.execModeCommitInstant late s
  | .lateApply isl => Sys2Proof.Machine.execLateApply isl s
  | .modeChangeComplete test => Sys2Proof.Machine.execModeChangeComplete test s
  | .epochHoldTimeout link => Sys2Proof.Machine.execEpochHoldTimeout link s
  | .skewTimeout => Sys2Proof.Machine.execSkewTimeout s
  | .islandReadmit isl => Sys2Proof.Machine.execIslandReadmit isl s
  | .isolationTimeout isl => Sys2Proof.Machine.execIsolationTimeout isl s
  | .serviceConditionsMet => Sys2Proof.Machine.execServiceConditionsMet s
  | .dormantGraceExpiry nav => Sys2Proof.Machine.execDormantGraceExpiry nav s
  | .wakeTimerFire env => Sys2Proof.Machine.execWakeTimerFire env s
  | .wakePin pin rise env => Sys2Proof.Machine.execWakePin pin rise env s
  | .wakeHost env => Sys2Proof.Machine.execWakeHost env s
  | .cocDataWrite m v => Sys2Proof.Machine.execCocDataWrite m v s
  | .cocDataRead m bad => Sys2Proof.Machine.execCocDataRead m bad s
  | .cocoonRefresh nav => Sys2Proof.Machine.execCocoonRefresh nav s
  | .updBegin => Sys2Proof.Machine.execUpdBegin s
  | .bankEraseDone ok => Sys2Proof.Machine.execBankEraseDone ok s
  | .updHeader => Sys2Proof.Machine.execUpdHeader s
  | .updBlock flashOk => Sys2Proof.Machine.execUpdBlock flashOk s
  | .updFinalize => Sys2Proof.Machine.execUpdFinalize s
  | .updAbort => Sys2Proof.Machine.execUpdAbort s
  | .updStatus => Sys2Proof.Machine.execUpdStatus s
  | .sessionTimeout => Sys2Proof.Machine.execSessionTimeout s
  | .secondBoundary => Sys2Proof.Machine.execSecondBoundary s
  | .eraWrap => Sys2Proof.Machine.execEraWrap s
  | .timeIncWrite m v => Sys2Proof.Machine.execTimeIncWrite m v s
  | .timeEraNextWrite m v => Sys2Proof.Machine.execTimeEraNextWrite m v s
  | .timeAdjWrite m v => Sys2Proof.Machine.execTimeAdjWrite m v s
  | .slewDone => Sys2Proof.Machine.execSlewDone s
  | .stepArm m abs => Sys2Proof.Machine.execStepArm m abs s
  | .stepCancel m abs => Sys2Proof.Machine.execStepCancel m abs s
  | .stepApply => Sys2Proof.Machine.execStepApply s
  | .timeStateWrite m v => Sys2Proof.Machine.execTimeStateWrite m v s
  | .terrWrite m v => Sys2Proof.Machine.execTerrWrite m v s
  | .terrEval => Sys2Proof.Machine.execTerrEval s
  | .refFail => Sys2Proof.Machine.execRefFail s
  | .refRecover => Sys2Proof.Machine.execRefRecover s
  | .sourceValid src rate => Sys2Proof.Machine.execSourceValid src rate s
  | .sourceLost src rate => Sys2Proof.Machine.execSourceLost src rate s
  | .leapApply => Sys2Proof.Machine.execLeapApply s
  | .tdcEdge ch falling stamp sub => Sys2Proof.Machine.execTdcEdge ch falling stamp sub s
  | .stampDelivery pos => Sys2Proof.Machine.execStampDelivery pos s
  | .ppsOutputEdge n => Sys2Proof.Machine.execPpsOutputEdge n s
  | .ppsPulseEnd n => Sys2Proof.Machine.execPpsPulseEnd n s
  | .measGo m n => Sys2Proof.Machine.execMeasGo m n s
  | .cableLaunch n => Sys2Proof.Machine.execCableLaunch n s
  | .cableResult n out => Sys2Proof.Machine.execCableResult n out s
  | .loopEnable m l auto freeze => Sys2Proof.Machine.execLoopEnable m l auto freeze s
  | .loopDisable m l auto freeze => Sys2Proof.Machine.execLoopDisable m l auto freeze s
  | .loopUpdate l => Sys2Proof.Machine.execLoopUpdate l s
  | .loopOutputApply l => Sys2Proof.Machine.execLoopOutputApply l s
  | .loopStaleTimeout l => Sys2Proof.Machine.execLoopStaleTimeout l s
  | .loopSatLimit l => Sys2Proof.Machine.execLoopSatLimit l s
  | .rcClear m l => Sys2Proof.Machine.execRcClear m l s
  | .rcClearDone l => Sys2Proof.Machine.execRcClearDone l s
  | .lookupRequest inst => Sys2Proof.Machine.execLookupRequest inst s
  | .rfPortEnable m p fe => Sys2Proof.Machine.execRfPortEnable m p fe s
  | .rfRetrain m p fe => Sys2Proof.Machine.execRfRetrain m p fe s
  | .rfClockLoss p => Sys2Proof.Machine.execRfClockLoss p s
  | .rfAutoRetrain p fe => Sys2Proof.Machine.execRfAutoRetrain p fe s
  | .rfRateCheck p sps => Sys2Proof.Machine.execRfRateCheck p sps s
  | .jamLearn m p => Sys2Proof.Machine.execJamLearn m p s
  | .jamLearnDone p => Sys2Proof.Machine.execJamLearnDone p s
  | .notchDetect p bins => Sys2Proof.Machine.execNotchDetect p bins s
  | .biasSample p current => Sys2Proof.Machine.execBiasSample p current s
  | .biasRetry p => Sys2Proof.Machine.execBiasRetry p s
  | .acqGo m q => Sys2Proof.Machine.execAcqGo m q s
  | .acqAbort m q => Sys2Proof.Machine.execAcqAbort m q s
  | .acqDone q capture cells cn0 arrive => Sys2Proof.Machine.execAcqDone q capture cells cn0 arrive s
  | .chEnable m c => Sys2Proof.Machine.execChEnable m c s
  | .chDisable m c => Sys2Proof.Machine.execChDisable m c s
  | .chAidSubmit m c at_ => Sys2Proof.Machine.execChAidSubmit m c at_ s
  | .chTrackLock c pli cn0 freqErr dcode ddop => Sys2Proof.Machine.execChTrackLock c pli cn0 freqErr dcode ddop s
  | .chPullinFail c cn0 => Sys2Proof.Machine.execChPullinFail c cn0 s
  | .chSync c frame tow polarity => Sys2Proof.Machine.execChSync c frame tow polarity s
  | .chLockLoss c pli cn0 => Sys2Proof.Machine.execChLockLoss c pli cn0 s
  | .chReacqTimeout c => Sys2Proof.Machine.execChReacqTimeout c s
  | .measEpoch inst ms nav => Sys2Proof.Machine.execMeasEpoch inst ms nav s
  | .measItem inst => Sys2Proof.Machine.execMeasItem inst s
  | .navItem inst azel => Sys2Proof.Machine.execNavItem inst azel s
  | .obsForwardItem inst => Sys2Proof.Machine.execObsForwardItem inst s
  | .epochCloseTimeout inst => Sys2Proof.Machine.execEpochCloseTimeout inst s
  | .lookupReply inst => Sys2Proof.Machine.execLookupReply inst s
  | .correctionEncode inst sol => Sys2Proof.Machine.execCorrectionEncode inst sol s
  | .surveyStart m inst => Sys2Proof.Machine.execSurveyStart m inst s
  | .surveyComplete inst => Sys2Proof.Machine.execSurveyComplete inst s
  | .positionCheckDone inst => Sys2Proof.Machine.execPositionCheckDone inst s
  | .poszWrite m inst v => Sys2Proof.Machine.execPoszWrite m inst v s
  | .baseWrite m inst v => Sys2Proof.Machine.execBaseWrite m inst v s
  | .baselineAvgDone inst => Sys2Proof.Machine.execBaselineAvgDone inst s
  | .sidcCommit m inst v => Sys2Proof.Machine.execSidcCommit m inst v s
  | .intClear m inst => Sys2Proof.Machine.execIntClear m inst s
  | .unmonTimeout inst => Sys2Proof.Machine.execUnmonTimeout inst s
  | .holdoverTimeLimit inst => Sys2Proof.Machine.execHoldoverTimeLimit inst s
  | .outEnable m inst n => Sys2Proof.Machine.execOutEnable m inst n s
  | .wvInputState n o => Sys2Proof.Machine.execWvInputState n o s
  | .mclkContend k wrong => Sys2Proof.Machine.execMclkContend k wrong s
  | .bitstreamItem inst => Sys2Proof.Machine.execBitstreamItem inst s
  | .filtEnable m c => Sys2Proof.Machine.execFiltEnable m c s
  | .filtSrcChange c => Sys2Proof.Machine.execFiltSrcChange c s
  | .filtSwap m c fade => Sys2Proof.Machine.execFiltSwap m c fade s
  | .swapApply c => Sys2Proof.Machine.execSwapApply c s
  | .fadeEnd c => Sys2Proof.Machine.execFadeEnd c s
  | .fineSample c => Sys2Proof.Machine.execFineSample c s
  | .fastSample c => Sys2Proof.Machine.execFastSample c s
  | .thresholdChange c => Sys2Proof.Machine.execThresholdChange c s
  | .phasorEnable m c => Sys2Proof.Machine.execPhasorEnable m c s
  | .phasorEstimate c => Sys2Proof.Machine.execPhasorEstimate c s
  | .fastEstimate c => Sys2Proof.Machine.execFastEstimate c s
  | .streamEnable m st => Sys2Proof.Machine.execStreamEnable m st s
  | .streamDisable m st => Sys2Proof.Machine.execStreamDisable m st s
  | .streamFrame inst => Sys2Proof.Machine.execStreamFrame inst s
  | .localEstimateItem inst => Sys2Proof.Machine.execLocalEstimateItem inst s
  | .quarantineEnd st => Sys2Proof.Machine.execQuarantineEnd st s
  | .concEnable m inst n => Sys2Proof.Machine.execConcEnable m inst n s
  | .concDisable m inst n => Sys2Proof.Machine.execConcDisable m inst n s
  | .bucketOpen n => Sys2Proof.Machine.execBucketOpen n s
  | .partClose inst n => Sys2Proof.Machine.execPartClose inst n s
  | .partItem inst => Sys2Proof.Machine.execPartItem inst s
  | .bucketCapTimeout n => Sys2Proof.Machine.execBucketCapTimeout n s
  | .bucketEmit n => Sys2Proof.Machine.execBucketEmit n s
  | .concSlotRelease n slot => Sys2Proof.Machine.execConcSlotRelease n slot s
  | .groupEnable m g => Sys2Proof.Machine.execGroupEnable m g s
  | .groupFrameEval g => Sys2Proof.Machine.execGroupFrameEval g s
  | .groupFrameTimeout g => Sys2Proof.Machine.execGroupFrameTimeout g s
  | .modelRestart g => Sys2Proof.Machine.execModelRestart g s
  | .modelRestartCmd m g => Sys2Proof.Machine.execModelRestartCmd m g s
  | .groupStale g => Sys2Proof.Machine.execGroupStale g s
  | .alarmPinMinExpiry n => Sys2Proof.Machine.execAlarmPinMinExpiry n s
  | .alarmClr m n => Sys2Proof.Machine.execAlarmClr m n s
  | .engineArm m e => Sys2Proof.Machine.execEngineArm m e s
  | .engineAbort m e => Sys2Proof.Machine.execEngineAbort m e s
  | .swtrig m e => Sys2Proof.Machine.execSwtrig m e s
  | .triggerReceive e => Sys2Proof.Machine.execTriggerReceive e s
  | .captureFrameClose e behind => Sys2Proof.Machine.execCaptureFrameClose e behind s
  | .captureCommit e => Sys2Proof.Machine.execCaptureCommit e s
  | .captureRearm e => Sys2Proof.Machine.execCaptureRearm e s
  | .captureSlotRelease m e rel => Sys2Proof.Machine.execCaptureSlotRelease m e rel s
  | .tlDrive m n => Sys2Proof.Machine.execTlDrive m n s
  | .tlPulseEnd n => Sys2Proof.Machine.execTlPulseEnd n s
  | .trigLineEdge n => Sys2Proof.Machine.execTrigLineEdge n s
  | .tlStuck n => Sys2Proof.Machine.execTlStuck n s
  | .radioPortEnable m p id => Sys2Proof.Machine.execRadioPortEnable m p id s
  | .rawExchange m p rx => Sys2Proof.Machine.execRawExchange m p rx s
  | .asnBaseWrite m v => Sys2Proof.Machine.execAsnBaseWrite m v s
  | .macLaneEnable m p => Sys2Proof.Machine.execMacLaneEnable m p s
  | .macLaneDisable m p => Sys2Proof.Machine.execMacLaneDisable m p s
  | .slotCutoff p => Sys2Proof.Machine.execSlotCutoff p s
  | .slotBoundary p status => Sys2Proof.Machine.execSlotBoundary p status s
  | .radioFrameReceive p f rssi fcsOk => Sys2Proof.Machine.execRadioFrameReceive p f rssi fcsOk s
  | .joinReqReceive p f => Sys2Proof.Machine.execJoinReqReceive p f s
  | .joinTimeout p k => Sys2Proof.Machine.execJoinTimeout p k s
  | .machineLostTimeout p k => Sys2Proof.Machine.execMachineLostTimeout p k s
  | .corrItemReceive mac => Sys2Proof.Machine.execCorrItemReceive mac s
  | .downlinkRequest mac => Sys2Proof.Machine.execDownlinkRequest mac s
  | .downlinkResult trk => Sys2Proof.Machine.execDownlinkResult trk s
  | .keyRotateApply p => Sys2Proof.Machine.execKeyRotateApply p s
  | .stopInputChange pin level => Sys2Proof.Machine.execStopInputChange pin level s
  | .stopDisagTimeout ch => Sys2Proof.Machine.execStopDisagTimeout ch s
  | .stopXmisTimeout => Sys2Proof.Machine.execStopXmisTimeout s
  | .swStop m => Sys2Proof.Machine.execSwStop m s
  | .ssSlotCheck decA decB agree => Sys2Proof.Machine.execSsSlotCheck decA decB agree s
  | .pathTest m inputsOk => Sys2Proof.Machine.execPathTest m inputsOk s
  | .pathTestDone => Sys2Proof.Machine.execPathTestDone s
  | .fstop udp => Sys2Proof.Machine.execFstop udp s
  | .fstopChal => Sys2Proof.Machine.execFstopChal s
  | .fstopRelease race => Sys2Proof.Machine.execFstopRelease race s
  | .fstopStatus => Sys2Proof.Machine.execFstopStatus s
  | .tkEnable m trk => Sys2Proof.Machine.execTkEnable m trk s
  | .tkDisable m trk => Sys2Proof.Machine.execTkDisable m trk s
  | .originChange trk => Sys2Proof.Machine.execOriginChange trk s
  | .profileVWrite m trk j v => Sys2Proof.Machine.execProfileVWrite m trk j v s
  | .profileAWrite m trk j v => Sys2Proof.Machine.execProfileAWrite m trk j v s
  | .taskSubmit m trk v => Sys2Proof.Machine.execTaskSubmit m trk v s
  | .taskSubmitChecked trk => Sys2Proof.Machine.execTaskSubmitChecked trk s
  | .taskDispatch handle => Sys2Proof.Machine.execTaskDispatch handle s
  | .reservationRequest mach => Sys2Proof.Machine.execReservationRequest mach s
  | .reservationRetry mach => Sys2Proof.Machine.execReservationRetry mach s
  | .machineReport handle => Sys2Proof.Machine.execMachineReport handle s
  | .permitBitmap p => Sys2Proof.Machine.execPermitBitmap p s
  | .taskPause by_ mach => Sys2Proof.Machine.execTaskPause by_ mach s
  | .taskResume by_ mach => Sys2Proof.Machine.execTaskResume by_ mach s
  | .taskAbort m mach => Sys2Proof.Machine.execTaskAbort m mach s
  | .abortTimeout mach => Sys2Proof.Machine.execAbortTimeout mach s
  | .reservationExpire id => Sys2Proof.Machine.execReservationExpire id s
  | .trReserve m => Sys2Proof.Machine.execTrReserve m s
  | .trFree m => Sys2Proof.Machine.execTrFree m s
  | .ethLinkChange port up speed word => Sys2Proof.Machine.execEthLinkChange port up speed word s
  | .ethFrameReceive port f fcsOk sub => Sys2Proof.Machine.execEthFrameReceive port f fcsOk sub s
  | .ethTxItem port => Sys2Proof.Machine.execEthTxItem port s
  | .ethSwtxGo m port => Sys2Proof.Machine.execEthSwtxGo m port s
  | .ethTxDone port sub => Sys2Proof.Machine.execEthTxDone port sub s
  | .tsfifoPop m port => Sys2Proof.Machine.execTsfifoPop m port s
  | .heartbeatSend port => Sys2Proof.Machine.execHeartbeatSend port s
  | .hbWindowEnd => Sys2Proof.Machine.execHbWindowEnd s
  | .failoverFlush => Sys2Proof.Machine.execFailoverFlush s
  | .repairComplete port => Sys2Proof.Machine.execRepairComplete port s
  | .uplinkSwitch m => Sys2Proof.Machine.execUplinkSwitch m s
  | .pktRxItem pkt => Sys2Proof.Machine.execPktRxItem pkt s
  | .pktTxItem pkt => Sys2Proof.Machine.execPktTxItem pkt s
  | .pktCtxEnable m pkt x => Sys2Proof.Machine.execPktCtxEnable m pkt x s
  | .rcvNxtWrite m pkt x v => Sys2Proof.Machine.execRcvNxtWrite m pkt x v s
  | .canEnable m n => Sys2Proof.Machine.execCanEnable m n s
  | .canFrameRx n id ide fdf brs esi remote dlc data sof => Sys2Proof.Machine.execCanFrameRx n id ide fdf brs esi remote dlc data sof s
  | .objConfig m n v => Sys2Proof.Machine.execObjConfig m n v s
  | .objSelWrite m n v => Sys2Proof.Machine.execObjSelWrite m n v s
  | .objLockRead m n wide => Sys2Proof.Machine.execObjLockRead m n wide s
  | .objReleaseRead m n wide => Sys2Proof.Machine.execObjReleaseRead m n wide s
  | .objLockTimeout n => Sys2Proof.Machine.execObjLockTimeout n s
  | .canTxRequest m n obj idle => Sys2Proof.Machine.execCanTxRequest m n obj idle s
  | .canTxCancel m n obj => Sys2Proof.Machine.execCanTxCancel m n obj s
  | .canTxDone n sof loop dom rec_ => Sys2Proof.Machine.execCanTxDone n sof loop dom rec_ s
  | .canBusOff n => Sys2Proof.Machine.execCanBusOff n s
  | .borReq m n => Sys2Proof.Machine.execBorReq m n s
  | .busOffRecovered n => Sys2Proof.Machine.execBusOffRecovered n s
  | .adrGo m n => Sys2Proof.Machine.execAdrGo m n s
  | .adrAbort m n => Sys2Proof.Machine.execAdrAbort m n s
  | .adrDwellExpiry n => Sys2Proof.Machine.execAdrDwellExpiry n s
  | .ttCycleStart n => Sys2Proof.Machine.execTtCycleStart n s
  | .ttRefTimeout n => Sys2Proof.Machine.execTtRefTimeout n s
  | .ttWindowStart n w idle => Sys2Proof.Machine.execTtWindowStart n w idle s
  | .canStuckDominant n dominant => Sys2Proof.Machine.execCanStuckDominant n dominant s
  | .pciePerstAssert low => Sys2Proof.Machine.execPciePerstAssert low s
  | .pcieLinkChange up speed width vecs => Sys2Proof.Machine.execPcieLinkChange up speed width vecs s
  | .hostAccess bar2 off op ep same => Sys2Proof.Machine.execHostAccess bar2 off op ep same s
  | .yupexGo m => Sys2Proof.Machine.execYupexGo m s
  | .yupexAck m => Sys2Proof.Machine.execYupexAck m s
  | .yupexRequest => Sys2Proof.Machine.execYupexRequest s
  | .hello => Sys2Proof.Machine.execHello s
  | .yupexMode => Sys2Proof.Machine.execYupexMode s
  | .yupexReset => Sys2Proof.Machine.execYupexReset s
  | .regRead => Sys2Proof.Machine.execRegRead s
  | .regWrite => Sys2Proof.Machine.execRegWrite s
  | .setRead => Sys2Proof.Machine.execSetRead s
  | .setWrite => Sys2Proof.Machine.execSetWrite s
  | .dmaArm m ch => Sys2Proof.Machine.execDmaArm m ch s
  | .dmaAbort m ch => Sys2Proof.Machine.execDmaAbort m ch s
  | .dmaContinue m ch => Sys2Proof.Machine.execDmaContinue m ch s
  | .dmaResume m ch => Sys2Proof.Machine.execDmaResume m ch s
  | .shGo m ch => Sys2Proof.Machine.execShGo m ch s
  | .shClr m ch => Sys2Proof.Machine.execShClr m ch s
  | .dmaBeatComplete ch host => Sys2Proof.Machine.execDmaBeatComplete ch host s
  | .dmaSuspend d => Sys2Proof.Machine.execDmaSuspend d s
  | .dmaPowerAbort d => Sys2Proof.Machine.execDmaPowerAbort d s
  | .ddrScrubLine ups => Sys2Proof.Machine.execDdrScrubLine ups s
  | .stageScrub h bitsBad => Sys2Proof.Machine.execStageScrub h bitsBad s
  | .ddrInject m v => Sys2Proof.Machine.execDdrInject m v s
  | .keyGen ch slot a pend => Sys2Proof.Machine.execKeyGen ch slot a pend s
  | .keyDerive ch slot a pend label ctx => Sys2Proof.Machine.execKeyDerive ch slot a pend label ctx s
  | .keyImport ch slot a pend wrap blob => Sys2Proof.Machine.execKeyImport ch slot a pend wrap blob s
  | .keyExport ch slot wrap => Sys2Proof.Machine.execKeyExport ch slot wrap s
  | .keyCommit ch slot check => Sys2Proof.Machine.execKeyCommit ch slot check s
  | .keyDiscard ch slot => Sys2Proof.Machine.execKeyDiscard ch slot s
  | .keyInvalidate ch slot => Sys2Proof.Machine.execKeyInvalidate ch slot s
  | .keyCheck ch slot => Sys2Proof.Machine.execKeyCheck ch slot s
  | .dbgUnlock ch token => Sys2Proof.Machine.execDbgUnlock ch token s
  | .lcAdvance ch target sig cut => Sys2Proof.Machine.execLcAdvance ch target sig cut s
  | .provision ch keys compat cut => Sys2Proof.Machine.execProvision ch keys compat cut s
  | .reroot ch sig => Sys2Proof.Machine.execReroot ch sig s
  | .gmAck m ch => Sys2Proof.Machine.execGmAck m ch s
  | .keyPersistDone => Sys2Proof.Machine.execKeyPersistDone s
  | .keyRemask => Sys2Proof.Machine.execKeyRemask s
  | .tamperDetect src v held env => Sys2Proof.Machine.execTamperDetect src v held env s
  | .crySessionEnable m pos q => Sys2Proof.Machine.execCrySessionEnable m pos q s
  | .cryJob pos q handle => Sys2Proof.Machine.execCryJob pos q handle s
  | .cryJobDone pos q => Sys2Proof.Machine.execCryJobDone pos q s
  | .eventPulse ev => Sys2Proof.Machine.execEventPulse ev s
  | .swRaise m n => Sys2Proof.Machine.execSwRaise m n s
  | .recordGo m k => Sys2Proof.Machine.execRecordGo m k s
  | .recordRequest => Sys2Proof.Machine.execRecordRequest s
  | .bucketRefill => Sys2Proof.Machine.execBucketRefill s
  | .recordAck m seq => Sys2Proof.Machine.execRecordAck m seq s
  | .recordSelect m seq => Sys2Proof.Machine.execRecordSelect m seq s
  | .flushCmd m => Sys2Proof.Machine.execFlushCmd m s
  | .flushStart => Sys2Proof.Machine.execFlushStart s
  | .emergencyFlush => Sys2Proof.Machine.execEmergencyFlush s
  | .flushWriteDone ok => Sys2Proof.Machine.execFlushWriteDone ok s
  | .pfailAssert => Sys2Proof.Machine.execPfailAssert s
  | .pfailDeassert => Sys2Proof.Machine.execPfailDeassert s
  | .pfFlushDone => Sys2Proof.Machine.execPfFlushDone s
  | .healthPass meas => Sys2Proof.Machine.execHealthPass meas s
  | .pmbusVerify d vout adc => Sys2Proof.Machine.execPmbusVerify d vout adc s
  | .railSample mv => Sys2Proof.Machine.execRailSample mv s
  | .tempSample temps => Sys2Proof.Machine.execTempSample temps s
  | .pinReadback pin agree => Sys2Proof.Machine.execPinReadback pin agree s
  | .powerDown => Sys2Proof.Machine.execPowerDown s
  | .vbatLoss => Sys2Proof.Machine.execVbatLoss s
  | .tamperSourceRelease src => Sys2Proof.Machine.execTamperSourceRelease src s
  | .trigLineHigh n => Sys2Proof.Machine.execTrigLineHigh n s
  | .runMinElapsed => Sys2Proof.Machine.execRunMinElapsed s
  | .challengeExpiry => Sys2Proof.Machine.execChallengeExpiry s
  | .canBusIntegrated n => Sys2Proof.Machine.execCanBusIntegrated n s
  | .canProtocolError n kind => Sys2Proof.Machine.execCanProtocolError n kind s
  | .ringEraseDone ok => Sys2Proof.Machine.execRingEraseDone ok s

end Sys2Proof.Machine
end

