-- ==== Sys2Proof/WellFormed.lean ====
section
/-! DEFINITION. Which operands a command may carry: those the block's registers, buses, pins and numberings can present.
The meanings are total and do not rest on it; statements and tests use it to speak of the commands that can come. -/

namespace Sys2Proof

open Sys2Proof.Machine

/-- A number below a bound. -/
def below (n v : Nat) : Bool := decide (v < n)
/-- A value of `w` bits. -/
def isBits (w v : Nat) : Bool := decide (v < 2 ^ w)
/-- A value of `w` bits, if there is one. -/
def isBitsOpt (w : Nat) (v : Option Nat) : Bool := v.all (isBits w)
/-- Values of `w` bits. -/
def allBits (w : Nat) (l : List Nat) : Bool := l.all (isBits w)
/-- A device address: 40 bits (R71). -/
def isAddr (a : Nat) : Bool := isBits 40 a
/-- An island, I00–I43 (R31). -/
def isIsland (i : Nat) : Bool := below 44 i
/-- Islands. -/
def allIslands (l : List Nat) : Bool := l.all isIsland
/-- A lane of a tile kind by its device-wide number (R25). -/
def chanOf (k : Blk) (c : Nat) : Bool := below (tileLanes k * (tilePositions k).length) c
/-- An instance of a tile kind (R25). -/
def instOf (k : Blk) (i : Nat) : Bool := below (tilePositions k).length i
/-- A position with a tile of a kind. -/
def isPos (k : Blk) (p : Nat) : Bool := (tilePositions k).contains p
/-- A master: a tile only at a populated position. -/
def isMaster : Master → Bool
  | .tile p => (kindAt p).isSome
  | _ => true
/-- A master, if there is one. -/
def isMasterOpt (m : Option Master) : Bool := m.all isMaster
/-- A source of phase or frequency, 1–5 (R154). -/
def isSource (n : Nat) : Bool := decide (1 ≤ n) && below 6 n
/-- A power domain of R31 that can be off while the device runs. -/
def isDom (d : Dom) : Bool := d != .aon && d != .time
/-- The operation codes 6 and 7 of PORT_OP (R66). -/
def isOp67 (n : Nat) : Bool := n == 6 || n == 7
/-- A memory access of 1 to 64 bytes (R70). -/
def isMemOp : MemOp → Bool
  | .read n => decide (1 ≤ n) && below 65 n
  | .write l => decide (1 ≤ l.length) && below 65 l.length
/-- A packet's head (R46). -/
def isPktHead (h : PktHead) : Bool := isBits 8 h.typ && isBits 13 h.flow && below 8 h.prio && below 1024 h.lane
/-- A packet's data words: at most 13 of 64 bits (R86). -/
def isData (l : List Nat) : Bool := decide (l.length ≤ 13) && allBits 64 l
/-- What a disturbed packet reads as: a length word and data words. -/
def isUpset (u : Option (Nat × List Nat)) : Bool := u.all (fun p => isBits 64 p.1 && isData p.2)
/-- Key attributes within their fields (R508). -/
def isKeyAttr (a : KeyAttr) : Bool := isBits 11 a.dest && isBits 5 a.usage && isBits 9 a.parent
/-- A signature R ‖ S of two numbers of 48 bytes (R500). -/
def isSig (l : List Byte) : Bool := l.length == 96
/-- What the supervision of an input has counted: at most 4,096 ones (R258). -/
def isSeen (o : WvObs) : Bool := o.ones.all (below 4097)
/-- The keys of a key page: 16 at most. -/
def isKeys (l : List (List Byte)) : Bool := below 17 l.length
/-- A byte string short enough for a frame or a mailbox. -/
def isFrame (l : List Byte) : Bool := isBits 14 l.length
/-- The data bytes of a CAN FD frame: 64 at most (R455). -/
def isCanData (l : List Byte) : Bool := below 65 l.length
/-- The identity bytes of a transceiver. -/
def isId (l : List Byte) : Bool := below 65 l.length
/-- Words of Cocoon by their number. -/
def isWords (l : List (Nat × Nat)) : Bool := l.all (fun p => isBits 16 p.1 && isBits 64 p.2)
/-- Words of a DDR line with bits in error: eight words of a 64-byte line (R492). -/
def isUpsets (l : List (Nat × Nat)) : Bool := l.all (fun p => below 8 p.1 && below 73 p.2)
/-- Temperatures by island, as 10-bit patterns (R550). -/
def isTemps (l : List (Nat × Nat)) : Bool := l.all (fun p => isIsland p.1 && isBits 10 p.2)
/-- A power spectrum of 1,024 bins (R203). -/
def isBins (l : List Nat) : Bool := l.length == 1024 && allBits 48 l
/-- Navigation symbols: at most 12 words of them (R217). -/
def isNav (l : List NavSyms) : Bool := l.all (fun n => below 32 n.lane && below 769 n.count && below 13 n.words.length && allBits 64 n.words)
/-- Cells of a search: bins and samples of R208. -/
def isCells (a : AcqCells) : Bool := a.cells.all (fun c => below 1025 c.1 && below 16384 c.2.1)
/-- A satellite's azimuth and elevation in 0.01°, if known. -/
def isAzEl (p : Option (Nat × Int)) : Bool := p.all (fun x => below 36000 x.1)
/-- Measurements of one COR tile: its 32 lanes (R217). -/
def isMeas (l : List ChMeas) : Bool := l.all (fun m => below 32 m.lane && isBits 64 m.tx && isBits 64 m.phase && isBits 32 m.dop && isBits 16 m.cn0)
/-- What a health pass measured, of islands (R545). -/
def isMeasures (l : List IslMeas) : Bool := l.all (fun m => isIsland m.isl && m.ros.length == 4 && isBits 16 m.m0 && isBits 16 m.m1)
/-- A solution with at most 255 satellites (R238). -/
def isSol (e : EpochSol) : Bool := isBits 8 e.nsat && isBits 40 e.offset
/-- What a front end presents: 32 bytes, and bytes 0x0A–0x10 again (R197). -/
def isProbe (f : FeProbe) : Bool := f.desc.length == 32 && f.again.length == 7
/-- A DMA beat: at most 64 bytes (R483). -/
def isBeat (b : Option (List Byte)) : Bool := b.all (fun l => below 65 l.length)
/-- A cable echo with a delay that DELAY can hold (R163). -/
def isEcho : CableEcho → Bool
  | .rise n => isBits 32 n
  | .fall n => isBits 32 n
  | .none => true
  | .noPlateau => true
/-- What start-up found: image types in range, update headers whole, identities of 64 bits. -/
def isEnv (e : BootEnv) : Bool := allBits 8 e.copyBad && e.flash.all (fun i => isBits 8 i.typ && i.head.length == 4096) && e.partners.all (fun p => isBits 64 p.2.2)
/-- What start-up found, if it went that far. -/
def isEnvOpt (e : Option BootEnv) : Bool := e.all isEnv

/-- A well-formed command. -/
def Instr.wf : Instr → Bool
  | .powerOnReset _ env => isEnvOpt env
  | .warmReset env => isEnv env
  | .watchdogExpiry _ => true
  | .resetCtrlWrite m v => isMaster m && isBits 32 v
  | .refClockLock env => isEnv env
  | .registerWrite m addr _ v same => isMaster m && isAddr addr && isBits 64 v && isBits 64 same
  | .rwlLock m addr v => isMaster m && isAddr addr && isBits 32 v
  | .counterClear m addr _ v => isMaster m && isAddr addr && isBits 64 v
  | .lowWordWrite m addr v => isMaster m && isAddr addr && isBits 32 v
  | .highWordWrite m addr v same => isMaster m && isAddr addr && isBits 32 v && isBits 64 same
  | .lowWordRead m addr => isMaster m && isAddr addr
  | .highWordRead m addr => isMaster m && isAddr addr
  | .busAccess m addr op => isMaster m && isAddr addr && isMemOp op
  | .islClkWrite m isl v => isMaster m && isIsland isl && isBits 32 v
  | .clockRelockDone isl => isIsland isl
  | .packetSend link h data => isBits 16 link && isPktHead h && isData data
  | .packetArrive link upset => isBits 16 link && isUpset upset
  | .creditReturn link => isBits 16 link
  | .linkReset link => isBits 16 link
  | .linkResetDone link => isBits 16 link
  | .submit m port => isMaster m && below 6 port
  | .addDep m port handle pred => isMaster m && below 6 port && isBits 22 handle && isBits 22 pred
  | .release m port handle => isMaster m && below 6 port && isBits 22 handle
  | .cancel m port handle _ _ => isMaster m && below 6 port && isBits 22 handle
  | .complete m port handle => isMaster m && below 6 port && isBits 22 handle
  | .take m port => isMaster m && below 6 port
  | .badOp m port op => isMaster m && below 6 port && isOp67 op
  | .portOpDone port => below 6 port
  | .hwSubmit flow prio tag => below 8192 flow && below 8 prio && isBits 32 tag
  | .tileComplete handle => isBits 22 handle
  | .successorDecrement => true
  | .dispatch stalled => allBits 16 stalled
  | .flowDataWrite m v => isMaster m && isBits 64 v
  | .modeRequest m v => isMaster m && isBits 32 v
  | .modeAck isl => isIsland isl
  | .ackWaitExpiry => true
  | .modeCommitInstant late => allIslands late
  | .lateApply isl => isIsland isl
  | .modeChangeComplete _ => true
  | .epochHoldTimeout link => isBits 16 link
  | .skewTimeout => true
  | .islandReadmit isl => isIsland isl
  | .isolationTimeout isl => isIsland isl
  | .serviceConditionsMet => true
  | .dormantGraceExpiry words => isWords words
  | .wakeTimerFire env => isEnv env
  | .wakePin pin _ env => below 4 pin && isEnv env
  | .wakeHost env => isEnv env
  | .cocDataWrite m v => isMaster m && isBits 32 v
  | .cocDataRead m _ => isMaster m
  | .cocoonRefresh nav => isWords nav
  | .updBegin => true
  | .bankEraseDone _ => true
  | .updHeader => true
  | .updBlock _ => true
  | .updFinalize => true
  | .updAbort => true
  | .updStatus => true
  | .sessionTimeout => true
  | .secondBoundary => true
  | .eraWrap => true
  | .timeIncWrite m v => isMaster m && isBits 64 v
  | .timeEraNextWrite m v => isMaster m && isBits 32 v
  | .timeAdjWrite m v => isMaster m && isBits 64 v
  | .slewDone => true
  | .stepArm m _ => isMaster m
  | .stepCancel m _ => isMaster m
  | .stepApply => true
  | .timeStateWrite m v => isMaster m && isBits 32 v
  | .terrWrite m v => isMaster m && isBits 64 v
  | .terrEval => true
  | .refFail => true
  | .refRecover => true
  | .sourceValid src rate => isSource src && isBits 32 rate
  | .sourceLost src rate => isSource src && isBits 32 rate
  | .leapApply => true
  | .tdcEdge ch _ stamp sub => below 13 ch && isBits 64 stamp && isBits 8 sub
  | .stampDelivery ch => below 13 ch
  | .ppsOutputEdge n => below 4 n
  | .ppsPulseEnd n => below 4 n
  | .measGo m n => isMaster m && below 4 n
  | .cableLaunch n => below 4 n
  | .cableResult n out => below 4 n && isEcho out
  | .loopEnable m l _ _ => isMaster m && chanOf .loop l
  | .loopDisable m l _ _ => isMaster m && chanOf .loop l
  | .loopUpdate l => chanOf .loop l
  | .loopOutputApply l => chanOf .loop l
  | .loopStaleTimeout l => chanOf .loop l
  | .loopSatLimit l => chanOf .loop l
  | .rcClear m l => isMaster m && chanOf .loop l
  | .rcClearDone l => chanOf .loop l
  | .lookupRequest inst => instOf .loop inst
  | .rfPortEnable m p fe => isMaster m && below 8 p && isProbe fe
  | .rfRetrain m p fe => isMaster m && below 8 p && isProbe fe
  | .rfClockLoss p => below 8 p
  | .rfAutoRetrain p fe => below 8 p && isProbe fe
  | .rfRateCheck p sps => below 8 p && isBits 32 sps
  | .jamLearn m p => isMaster m && below 8 p
  | .jamLearnDone p => below 8 p
  | .notchDetect p bins => below 8 p && isBins bins
  | .biasSample p current => below 8 p && isBits 16 current
  | .biasRetry p => below 8 p
  | .acqGo m q => isMaster m && chanOf .acq q
  | .acqAbort m q => isMaster m && chanOf .acq q
  | .acqDone q _ cells cn0 arrive => chanOf .acq q && isCells cells && isBits 16 cn0 && isBits 64 arrive
  | .chEnable m c => isMaster m && chanOf .cor c
  | .chDisable m c => isMaster m && chanOf .cor c
  | .chAidSubmit m c at_ => isMaster m && chanOf .cor c && isBits 64 at_
  | .chTrackLock c pli cn0 freqErr _ _ => chanOf .cor c && isBits 16 pli && isBits 16 cn0 && isBits 32 freqErr
  | .chPullinFail c cn0 => chanOf .cor c && isBits 16 cn0
  | .chSync c _ _ _ => chanOf .cor c
  | .chLockLoss c pli cn0 => chanOf .cor c && isBits 16 pli && isBits 16 cn0
  | .chReacqTimeout c => chanOf .cor c
  | .measEpoch inst ms nav => instOf .cor inst && isMeas ms && isNav nav
  | .measItem inst => instOf .obs inst
  | .navItem inst azel => instOf .obs inst && isAzEl azel
  | .obsForwardItem inst => instOf .obs inst
  | .epochCloseTimeout inst => instOf .obs inst
  | .lookupReply inst => instOf .obs inst
  | .correctionEncode inst sol => instOf .obs inst && isSol sol
  | .surveyStart m inst => isMaster m && instOf .obs inst
  | .surveyComplete inst => instOf .obs inst
  | .positionCheckDone inst => instOf .obs inst
  | .poszWrite m inst v => isMaster m && instOf .obs inst && isBits 64 v
  | .baseWrite m inst v => isMaster m && instOf .obs inst && isBits 64 v
  | .baselineAvgDone inst => instOf .obs inst
  | .sidcCommit m inst v => isMaster m && instOf .obs inst && isBits 64 v
  | .intClear m inst => isMaster m && instOf .obs inst
  | .unmonTimeout inst => instOf .obs inst
  | .holdoverTimeLimit inst => instOf .obs inst
  | .outEnable m inst n => isMaster m && instOf .obs inst && below 4 n
  | .wvInputState n o => below 64 n && isSeen o
  | .mclkContend k wrong => below 8 k && isBits 16 wrong
  | .bitstreamItem inst => instOf .filt inst
  | .filtEnable m c => isMaster m && chanOf .filt c
  | .filtSrcChange c => chanOf .filt c
  | .filtSwap m c fade => isMaster m && chanOf .filt c && isBits 32 fade
  | .swapApply c => chanOf .filt c
  | .fadeEnd c => chanOf .filt c
  | .fineSample c => chanOf .filt c
  | .fastSample c => chanOf .filt c
  | .thresholdChange c => chanOf .filt c
  | .phasorEnable m c => isMaster m && chanOf .phs c
  | .phasorEstimate c => chanOf .phs c
  | .fastEstimate c => chanOf .phs c
  | .streamEnable m st => isMaster m && chanOf .aln st
  | .streamDisable m st => isMaster m && chanOf .aln st
  | .streamFrame inst => instOf .aln inst
  | .localEstimateItem inst => instOf .aln inst
  | .quarantineEnd st => chanOf .aln st
  | .concEnable m inst n => isMaster m && instOf .aln inst && below 16 n
  | .concDisable m inst n => isMaster m && instOf .aln inst && below 16 n
  | .bucketOpen n => below 16 n
  | .partClose inst n => instOf .aln inst && below 16 n
  | .partItem inst => instOf .aln inst
  | .bucketCapTimeout n => below 16 n
  | .bucketEmit n => below 16 n
  | .concSlotRelease n slot => below 16 n && isBits 16 slot
  | .groupEnable m g => isMaster m && chanOf .moda g
  | .groupFrameEval g => chanOf .moda g
  | .groupFrameTimeout g => chanOf .moda g
  | .modelRestart g => chanOf .moda g
  | .modelRestartCmd m g => isMaster m && chanOf .moda g
  | .groupStale g => chanOf .moda g
  | .alarmPinMinExpiry n => below 8 n
  | .alarmClr m n => isMaster m && below 8 n
  | .engineArm m e => isMaster m && chanOf .trig e
  | .engineAbort m e => isMaster m && chanOf .trig e
  | .swtrig m e => isMaster m && chanOf .trig e
  | .triggerReceive e => chanOf .trig e
  | .captureFrameClose e _ => chanOf .trig e
  | .captureCommit e => chanOf .trig e
  | .captureRearm e => chanOf .trig e
  | .captureSlotRelease m e rel => isMaster m && chanOf .trig e && isBits 32 rel
  | .tlDrive m n => isMaster m && below 2 n
  | .tlPulseEnd n => below 2 n
  | .trigLineEdge n => below 2 n
  | .tlStuck n => below 2 n
  | .radioPortEnable m p id => isMaster m && below 8 p && isId id
  | .rawExchange m p rx => isMaster m && below 8 p && isBits 32 rx
  | .asnBaseWrite m v => isMaster m && isBits 64 v
  | .macLaneEnable m p => isMaster m && below 8 p
  | .macLaneDisable m p => isMaster m && below 8 p
  | .slotCutoff p => below 8 p
  | .slotBoundary p status => below 8 p && isBits 32 status
  | .radioFrameReceive p f rssi _ => below 8 p && isFrame f && isBits 8 rssi
  | .joinReqReceive p f => below 8 p && isFrame f
  | .joinTimeout p k => below 8 p && below 32 k
  | .machineLostTimeout p k => below 8 p && below 32 k
  | .corrItemReceive mac => instOf .mac mac
  | .downlinkRequest mac => instOf .mac mac
  | .downlinkResult trk => instOf .trk trk
  | .keyRotateApply p => below 8 p
  | .stopInputChange pin _ => below 4 pin
  | .stopDisagTimeout ch => below 2 ch
  | .stopXmisTimeout => true
  | .swStop m => isMaster m
  | .ssSlotCheck _ _ _ => true
  | .pathTest m _ => isMaster m
  | .pathTestDone => true
  | .fstop _ => true
  | .fstopChal => true
  | .fstopRelease race => isBits 8 race
  | .fstopStatus => true
  | .tkEnable m trk => isMaster m && instOf .trk trk
  | .tkDisable m trk => isMaster m && instOf .trk trk
  | .originChange trk => instOf .trk trk
  | .profileVWrite m trk j v => isMaster m && instOf .trk trk && below 32 j && isBits 64 v
  | .profileAWrite m trk j v => isMaster m && instOf .trk trk && below 32 j && isBits 64 v
  | .taskSubmit m trk v => isMaster m && instOf .trk trk && isBits 32 v
  | .taskSubmitChecked trk => instOf .trk trk
  | .taskDispatch handle => isBits 22 handle
  | .reservationRequest mach => chanOf .trk mach
  | .reservationRetry mach => chanOf .trk mach
  | .machineReport handle => isBits 22 handle
  | .permitBitmap p => below 8 p
  | .taskPause by_ mach => isMasterOpt by_ && chanOf .trk mach
  | .taskResume by_ mach => isMasterOpt by_ && chanOf .trk mach
  | .taskAbort m mach => isMaster m && chanOf .trk mach
  | .abortTimeout mach => chanOf .trk mach
  | .reservationExpire id => isBits 16 id
  | .trReserve m => isMaster m
  | .trFree m => isMaster m
  | .ethLinkChange port _ speed word => below 4 port && isBits 8 speed && isBits 32 word
  | .ethFrameReceive port f _ sub => below 4 port && isFrame f && isBits 8 sub
  | .ethTxItem port => below 4 port
  | .ethSwtxGo m port => isMaster m && below 4 port
  | .ethTxDone port sub => below 4 port && isBits 8 sub
  | .tsfifoPop m port => isMaster m && below 4 port
  | .heartbeatSend port => below 4 port
  | .hbWindowEnd => true
  | .failoverFlush => true
  | .repairComplete port => below 4 port
  | .uplinkSwitch m => isMaster m
  | .pktRxItem pkt => instOf .pkt pkt
  | .pktTxItem pkt => instOf .pkt pkt
  | .pktCtxEnable m pkt x => isMaster m && instOf .pkt pkt && below 1024 x
  | .rcvNxtWrite m pkt x v => isMaster m && instOf .pkt pkt && below 1024 x && isBits 32 v
  | .canEnable m n => isMaster m && below 4 n
  | .canFrameRx n id _ _ _ _ _ dlc data sof => below 4 n && isBits 29 id && below 16 dlc && isCanData data && isBits 64 sof
  | .objConfig m n v => isMaster m && below 4 n && isBits 32 v
  | .objSelWrite m n v => isMaster m && below 4 n && isBits 32 v
  | .objLockRead m n _ => isMaster m && below 4 n
  | .objReleaseRead m n _ => isMaster m && below 4 n
  | .objLockTimeout n => below 4 n
  | .canTxRequest m n obj _ => isMaster m && below 4 n && below 512 obj
  | .canTxCancel m n obj => isMaster m && below 4 n && below 512 obj
  | .canTxDone n sof loop dom rec_ => below 4 n && isBits 64 sof && isBits 32 loop && isBits 32 dom && isBits 32 rec_
  | .canBusOff n => below 4 n
  | .borReq m n => isMaster m && below 4 n
  | .busOffRecovered n => below 4 n
  | .adrGo m n => isMaster m && below 4 n
  | .adrAbort m n => isMaster m && below 4 n
  | .adrDwellExpiry n => below 4 n
  | .ttCycleStart n => below 4 n
  | .ttRefTimeout n => below 4 n
  | .ttWindowStart n w _ => below 4 n && below 32 w
  | .canStuckDominant n _ => below 4 n
  | .pciePerstAssert _ => true
  | .pcieLinkChange _ speed width vecs => below 8 speed && below 32 width && vecs.all (below 16)
  | .hostAccess _ off op _ same => isBits 32 off && isMemOp op && isBits 64 same
  | .yupexGo m => isMaster m
  | .yupexAck m => isMaster m
  | .yupexRequest => true
  | .hello => true
  | .yupexMode => true
  | .yupexReset => true
  | .regRead => true
  | .regWrite => true
  | .setRead => true
  | .setWrite => true
  | .dmaArm m ch => isMaster m && chanOf .dma ch
  | .dmaAbort m ch => isMaster m && chanOf .dma ch
  | .dmaContinue m ch => isMaster m && chanOf .dma ch
  | .dmaResume m ch => isMaster m && chanOf .dma ch
  | .shGo m ch => isMaster m && chanOf .dma ch
  | .shClr m ch => isMaster m && chanOf .dma ch
  | .dmaBeatComplete ch host => chanOf .dma ch && isBeat host
  | .dmaSuspend d => isDom d
  | .dmaPowerAbort d => isDom d
  | .ddrScrubLine ups => isUpsets ups
  | .stageScrub h bitsBad => below 16 h && isBits 72 bitsBad
  | .ddrInject m v => isMaster m && isBits 64 v
  | .keyGen ch slot a _ => below 4 ch && below 256 slot && isKeyAttr a
  | .keyDerive ch slot a _ label ctx => below 4 ch && below 256 slot && isKeyAttr a && isFrame label && isFrame ctx
  | .keyImport ch slot a _ wrap blob => below 4 ch && below 256 slot && isKeyAttr a && below 256 wrap && isFrame blob
  | .keyExport ch slot wrap => below 4 ch && below 256 slot && below 256 wrap
  | .keyCommit ch slot check => below 4 ch && below 256 slot && isBits 64 check
  | .keyDiscard ch slot => below 4 ch && below 256 slot
  | .keyInvalidate ch slot => below 4 ch && below 256 slot
  | .keyCheck ch slot => below 4 ch && below 256 slot
  | .dbgUnlock ch token => below 4 ch && isFrame token
  | .lcAdvance ch target sig _ => below 4 ch && below 256 target && isSig sig
  | .provision ch keys _ _ => below 4 ch && isKeys keys
  | .reroot ch sig => below 4 ch && isSig sig
  | .gmAck m ch => isMaster m && below 4 ch
  | .keyPersistDone => true
  | .keyRemask => true
  | .tamperDetect src _ held env => below 8 src && isBits 64 held && isEnv env
  | .crySessionEnable m pos q => isMaster m && isPos .cry pos && below 32 q
  | .cryJob pos q handle => isPos .cry pos && below 32 q && isBitsOpt 22 handle
  | .cryJobDone pos q => isPos .cry pos && below 32 q
  | .eventPulse ev => isBits 8 ev
  | .swRaise m n => isMaster m && isBits 8 n
  | .recordGo m k => isMaster m && below 6 k
  | .recordRequest => true
  | .bucketRefill => true
  | .recordAck m seq => isMaster m && isBits 64 seq
  | .recordSelect m seq => isMaster m && isBits 64 seq
  | .flushCmd m => isMaster m
  | .flushStart => true
  | .emergencyFlush => true
  | .flushWriteDone _ => true
  | .pfailAssert => true
  | .pfailDeassert => true
  | .pfFlushDone => true
  | .healthPass meas => isMeasures meas
  | .pmbusVerify d vout adc => isDom d && isBits 16 vout && isBits 16 adc
  | .railSample mv => allBits 16 mv
  | .tempSample temps => isTemps temps
  | .pinReadback pin _ => isBits 8 pin
  | .powerDown => true
  | .vbatLoss => true
  | .tamperSourceRelease src => below 8 src
  | .trigLineHigh n => below 2 n
  | .runMinElapsed => true
  | .challengeExpiry => true
  | .canBusIntegrated n => below 4 n
  | .canProtocolError n kind => below 4 n && below 5 kind
  | .ringEraseDone _ => true

end Sys2Proof
end

