-- ==== Sys2Proof/Safety.lean ====
section
/-! DEFINITION. What claims are stated in: which registers and bytes a command leaves alone, the canonical form of what the
state stores, and what a safe run is. -/

namespace Sys2Proof.Machine

/-- Register fields outside the address ranges `ws` read after as they read before. A field lies at the address of its register
(the low 48 bits of its key's address: above them stands the bank of an indirect window). -/
def RegsKept (ws : List (Nat × Nat)) (s t : State) : Prop :=
  ∀ (b : Nat) (f : Fld), f.lo < 64 → (∀ w ∈ ws, ¬ (w.1 ≤ (b + f.off) % 2 ^ 48 ∧ (b + f.off) % 2 ^ 48 < w.2)) →
    t.get b f = s.get b f

/-- Every byte of memory reads after as it read before. -/
def BytesKept (s t : State) : Prop := ∀ a : Nat, t.byte a = s.byte a

/-- Every byte of memory outside `n` bytes from `a` reads after as it read before. -/
def BytesKeptBut (a n : Nat) (s t : State) : Prop := ∀ x : Nat, (x < a ∨ a + n ≤ x) → t.byte x = s.byte x

/-- The frame of a command that stores nothing: registers outside `ws` and every byte of memory are as before, and of the
other parts of the state only those in which `u` differs from `s` may change. -/
def Frame (ws : List (Nat × Nat)) (s t u : State) : Prop := t = u ∧ BytesKept s t ∧ RegsKept ws s t

/-- The window of the dispatcher. -/
def wDsp : Nat × Nat := (0x3002_0000, 0x3003_0000)
/-- The window of the time core. -/
def wTime : Nat × Nat := (0x3000_0000, 0x3001_0000)
/-- The window of the event recorder. -/
def wRc : Nat × Nat := (0x3001_0000, 0x3002_0000)
/-- The window of the DDR controller. -/
def wDdr : Nat × Nat := (0x3003_0000, 0x3004_0000)
/-- The window of the Ethernet block. -/
def wEth : Nat × Nat := (0x3004_0000, 0x3005_0000)
/-- The window of the CAN block. -/
def wCan : Nat × Nat := (0x3005_0000, 0x3006_0000)
/-- The window of the PCIe endpoint. -/
def wPcie : Nat × Nat := (0x3006_0000, 0x3007_0000)
/-- The window of the health block. -/
def wHl : Nat × Nat := (0x3007_0000, 0x3008_0000)
/-- The window of the mode and power controller. -/
def wMpc : Nat × Nat := (0x3008_0000, 0x3009_0000)
/-- The window of the Gauntlet mailbox. -/
def wSec : Nat × Nat := (0x3009_0000, 0x300A_0000)
/-- The window of the Yupex mailbox. -/
def wYx : Nat × Nat := (0x300A_0000, 0x300B_0000)
/-- The window of the radio ports. -/
def wRadio : Nat × Nat := (0x300B_0000, 0x300C_0000)
/-- The window of the RF sample ports. -/
def wRf : Nat × Nat := (0x300C_0000, 0x300D_0000)
/-- The window of the waveform inputs. -/
def wWv : Nat × Nat := (0x300D_0000, 0x300E_0000)
/-- The window of the event router. -/
def wEr : Nat × Nat := (0x300F_0000, 0x3010_0000)
/-- The windows of the islands and tiles. -/
def wTiles : Nat × Nat := (0x2000_0000, 0x3000_0000)
/-- The window of one tile. -/
def wTile (pos : Nat) : Nat × Nat := (tileBase pos, tileBase pos + 0x4000)

/-- Keys of an association list in strictly rising order. -/
abbrev Rising {α : Type} (l : List (Nat × α)) : Prop := l.Pairwise (fun a b => a.1 < b.1)

/-- The canonical form of what the state stores sparsely: bytes of memory, register fields, poisoned words, words in error and
words of Cocoon. -/
def Canonical (s : State) : Prop :=
  Memory.wf s.mem ∧ Rising s.cells ∧ Rising s.poison ∧ Rising s.flips ∧ Rising s.cocoon

/-- Nothing waits for an instant in the radio and in the TRK tiles: no frame is scheduled, no payload waits for a slot, and no machine
lane has a task or a frame. -/
abbrev Quiet (s : State) : Prop :=
  (∀ p < 8, (s.mac p).pend = [] ∧ (s.mac p).box = []) ∧ ∀ x ∈ s.tracks.lanes, x.2.task = none ∧ x.2.out = []

/-- How a start ends (R121, R500): the device halts in BOOTSTRAP with BOOT_STAT.CODE 1 or 5, or MP prepares the change to SURVEY or
MAINTENANCE with CAUSE 4. -/
def Started (t : State) : Prop :=
  (t.sec.halted = true ∧ (t.get bSec Rg.BOOT_STAT.CODE = 1 ∨ t.get bSec Rg.BOOT_STAT.CODE = 5)) ∨
  (∃ c, t.modes.change = some c ∧ c.commit = none ∧ c.acks = [] ∧ c.cause = 4 ∧ (c.target = .survey ∨ c.target = .maintenance) ∧
    t.get bMpc Rg.MODE_STAT.CHANGING = 1 ∧ t.get bMpc Rg.MODE_STAT.TARGET = c.target.code)

/-- A safe run: whatever commands wait, no step stops. -/
def Safe (s : State) : Prop := ∀ k, ∃ t, Sys2Proof.core.run k s = .next t

end Sys2Proof.Machine
end

