-- ==== Sys2Proof/Certificates/Slice0/Obligations.lean ====
section
/-! DEFINITION. The statements for the provers. -/

open Sys2Proof Sys2Proof.Machine


/-- A step is exec of the front command with the queue's rest (R474, R511, R536). -/
def Obligations.StepRunsTheFrontCommand : Prop :=
  ∀ (c : Instr) (l : List Instr) (s : State), Sys2Proof.Machine.step { s with pending := c :: l } = exec c { s with pending := l }

/-- With no command waiting a step is one edge of the time core (model's choice, log entry 3) (R142, R143). -/
def Obligations.IdleStepTakesOneEdge : Prop :=
  ∀ s : State, s.pending = [] →
    (s.timeRuns = true → Sys2Proof.Machine.step s = .next (s.ticks 1 1)) ∧ (s.timeRuns = false → Sys2Proof.Machine.step s = .next s)

/-- Reset: every field at its reset value, the mode BOOTSTRAP, fleet stop latched, MGMT, IO, FA and FB off, canonical (R15, R31, R106, R119, R495). -/
def Obligations.ResetStateIsAsStated : Prop :=
  (∀ (b : Nat) (f : Fld), f.src = .val → State.reset.get b f = f.rst) ∧ (∀ (b : Nat) (f : Fld), f.src = .img → State.reset.get b f = 0) ∧
    State.reset.pending = [] ∧ State.reset.mem = [] ∧ State.reset.mode = .bootstrap ∧ State.reset.get bMpc Rg.FS_STAT.LATCHED = 1 ∧
    State.reset.on .aon = true ∧ State.reset.on .time = true ∧ State.reset.on .sec = true ∧ State.reset.on .mgmt = false ∧
    State.reset.on .io = false ∧ State.reset.on .fa = false ∧ State.reset.on .fb = false ∧ State.reset.sec.slots = [] ∧
    State.reset.sec.roots = [none, none, none] ∧ Canonical State.reset

/-- Every step keeps the canonical form of memory, register cells, poison, errors and Cocoon (R10, R15, R489). -/
def Obligations.EveryStepKeepsTheStateCanonical : Prop :=
  ∀ s t : State, Canonical s → Sys2Proof.Machine.step s = .next t → Canonical t

/-- No command ever stops the machine: every run of any length answers a next state (R16, R19, R71, R72, R73, R576). -/
def Obligations.EveryRunContinues : Prop :=
  ∀ s : State, Safe s

/-- A step takes exactly the front command out of the queue (R474, R511, R536). -/
def Obligations.StepTakesOneCommand : Prop :=
  ∀ s t : State, Sys2Proof.Machine.step s = .next t → t.pending = s.pending.tail

/-- The life-cycle fuses never move back, and burned digest generations stay (R494, R496, R497, R499). -/
def Obligations.FusesAreOnlyEverBurned : Prop :=
  ∀ s t : State, Sys2Proof.Machine.step s = .next t →
    s.sec.burned ≤ t.sec.burned ∧ s.sec.digests <+: t.sec.digests

/-- A write to DSP_FLOW_DATA while its flow is active is ignored and sets FLOW_BUSY (R68). -/
def Obligations.FlowDataWriteWhileActiveIsIgnored : Prop :=
  (∀ (m : Master) (v : Nat) (s : State),
    mayDispatcher s m 0x38 = true ∧ s.on .mgmt = true →
    s.disp.busyFlow (s.get bDsp Rg.DSP_FLOW_SEL.FLOW) = true ∨ 0 < s.disp.waitingOf (s.get bDsp Rg.DSP_FLOW_SEL.FLOW) →
    ∃ t, exec (.flowDataWrite m v) s = .next t ∧
      t.get bDsp Rg.DSP_EVT.FLOW_BUSY = 1 ∧
      Frame [wDsp] s t { s with cells := t.cells, toggles := t.toggles, resp := ⟨.ok, 0⟩ }) ∧
  (∀ (m : Master) (v : Nat) (s : State),
    (m = .mp ∨ m = .gauntlet) ∧ s.on .mgmt = true →
    s.disp.busyFlow (s.get bDsp Rg.DSP_FLOW_SEL.FLOW) = true ∨ 0 < s.disp.waitingOf (s.get bDsp Rg.DSP_FLOW_SEL.FLOW) →
    ∃ t, exec (.busAccess m 0x30020038 (.write (leBytes 8 v))) s = .next t ∧
      t.get bDsp Rg.DSP_EVT.FLOW_BUSY = 1 ∧
      Frame [wDsp] s t { s with cells := t.cells, toggles := t.toggles, staged := t.staged, resp := ⟨.ok, 0⟩ })

/-- TAKE shows the next dispatched entry; COMPLETE of another's entry is NOT_OWNER, of one not in service STALE (R69). -/
def Obligations.TakeAndCompleteAnswerByTheirRule : Prop :=
  (∀ (m : Master) (port hd nx : Nat) (l : List Nat) (s : State),
    port < 6 ∧ portAgent port = some m ∧ s.on .mgmt = true ∧ s.get (portBase port) Rg.PORT_RES.STATUS ≠ 15 ∧ port < s.disp.queues.length ∧ s.disp.queues.getD port [] = hd :: nx :: l →
    ∃ t, exec (.take m port) s = .next t ∧
      (t.disp.queues.getD port [] = nx :: l ∧ t.dispView port = (match s.disp.find nx with | some y => 1 + b2n y.depCan * 2 + y.handle * 2 ^ 4 + y.tag % 2 ^ 32 * 2 ^ 32 | none => 0)) ∧
      Frame [wDsp] s t { s with cells := t.cells, disp := t.disp, resp := ⟨.ok, 0⟩ }) ∧
  (∀ (m : Master) (port handle : Nat) (y : Entry) (s : State),
    port < 6 ∧ portAgent port = some m ∧ s.on .mgmt = true ∧ s.get (portBase port) Rg.PORT_RES.STATUS ≠ 15 ∧ s.disp.find handle = some y ∧ y.st = EState.inService ∧ y.agent ≠ some port →
    ∃ t, exec (.complete m port handle) s = .next t ∧
      t.get (portBase port) Rg.PORT_RES.STATUS = 15 ∧ t.disp = { s.disp with pend := s.disp.pend ++ [(⟨port, stNotOwner, none⟩ : PortPend)] } ∧
      Frame [wDsp] s t { s with cells := t.cells, disp := t.disp, resp := ⟨.ok, 0⟩ }) ∧
  (∀ (m : Master) (port handle : Nat) (y : Entry) (s : State),
    port < 6 ∧ portAgent port = some m ∧ s.on .mgmt = true ∧ s.get (portBase port) Rg.PORT_RES.STATUS ≠ 15 ∧ s.disp.find handle = some y ∧ y.st ≠ EState.inService →
    ∃ t, exec (.complete m port handle) s = .next t ∧
      t.get (portBase port) Rg.PORT_RES.STATUS = 15 ∧ t.disp = { s.disp with pend := s.disp.pend ++ [(⟨port, stStale, none⟩ : PortPend)] } ∧ t.get bDsp Rg.DSP_EVT.STALE = 1 ∧
      Frame [wDsp] s t { s with cells := t.cells, disp := t.disp, toggles := t.toggles, resp := ⟨.ok, 0⟩ })

/-- What each accepted port operation does to the dispatcher and to the port's result (R65, R66, R69, R60). -/
def Obligations.PortOperationsTakeEffect : Prop :=
  (∀ (m : Master) (port : Nat) (r : FlowRec) (s : State),
    port < 6 →
    portAgent port = some m →
    s.on .mgmt = true →
    s.get (portBase port) Rg.PORT_RES.STATUS ≠ 15 →
    s.disp.flows.find? (fun x => x.flow == s.get (portBase port) Rg.PORT_DESC.FLOW) = some r →
    r.part = s.get (portBase port) Rg.PORT_DESC.PART ∧ r.consumer = 127 ∧ r.agent ≤ 5 →
    0 < s.disp.freeCount r.part →
    ∃ t, exec (.submit m port) s = .next t ∧
      (∃ e ∈ t.disp.entries, e.part = r.part ∧ e.tag = s.get (portBase port) Rg.PORT_DESC.TAG ∧ e.held = s.flag (portBase port) Rg.PORT_DESC.HOLD ∧ e.owner = some port ∧ e.st = (if s.flag (portBase port) Rg.PORT_DESC.HOLD then EState.waiting else EState.ready) ∧ t.disp.pend = s.disp.pend ++ [(⟨port, 0, some e.handle⟩ : PortPend)]) ∧
      t.get (portBase port) Rg.PORT_RES.STATUS = 15 ∧
      Frame [wDsp] s t { s with cells := t.cells, toggles := t.toggles, disp := t.disp, resp := ⟨.ok, 0⟩ }) ∧
  (∀ (m : Master) (port handle pred : Nat) (e q : Entry) (s : State),
    port < 6 →
    portAgent port = some m →
    s.on .mgmt = true →
    s.get (portBase port) Rg.PORT_RES.STATUS ≠ 15 →
    s.disp.find handle = some e ∧ e.held = true ∧ e.counter < 4095 ∧ s.disp.freeCount e.part ≠ 0 →
    s.disp.find pred = some q ∧ q.succ.length < 4 ∧ q.idx ≠ e.idx →
    ∃ t, exec (.addDep m port handle pred) s = .next t ∧
      { e with counter := e.counter + 1 } ∈ t.disp.entries ∧
      t.disp.pend = s.disp.pend ++ [(⟨port, 0, none⟩ : PortPend)] ∧
      t.get (portBase port) Rg.PORT_RES.STATUS = 15 ∧
      Frame [wDsp] s t { s with cells := t.cells, toggles := t.toggles, disp := t.disp, resp := ⟨.ok, 0⟩ }) ∧
  (∀ (m : Master) (port handle : Nat) (e : Entry) (s : State),
    port < 6 →
    portAgent port = some m →
    s.on .mgmt = true →
    s.get (portBase port) Rg.PORT_RES.STATUS ≠ 15 →
    s.disp.find handle = some e ∧ e.held = true →
    ∃ t, exec (.release m port handle) s = .next t ∧
      (∃ x ∈ t.disp.entries, x.idx = e.idx ∧ x.held = false ∧ x.lost = 0 ∧ (if e.counter ≤ 1 + e.lost then x.st = EState.ready ∧ x.counter = 0 else x.st = e.st ∧ x.counter = e.counter - (1 + e.lost))) ∧
      t.disp.pend = s.disp.pend ++ [(⟨port, 0, none⟩ : PortPend)] ∧
      Frame [wDsp] s t { s with cells := t.cells, disp := t.disp, resp := ⟨.ok, 0⟩ }) ∧
  (∀ (m : Master) (port handle : Nat) (relDeps sameCycle : Bool) (e : Entry) (s : State),
    port < 6 →
    portAgent port = some m →
    s.on .mgmt = true →
    s.get (portBase port) Rg.PORT_RES.STATUS ≠ 15 →
    s.disp.find handle = some e ∧ e.st ≠ EState.inService →
    s.disp.hwq = [] →
    ∃ t, exec (.cancel m port handle relDeps sameCycle) s = .next t ∧
      (∀ x ∈ t.disp.entries, x.idx ≠ e.idx) ∧
      (t.disp.work = s.disp.work ++ (if relDeps then e.succ.map (fun y => (y, true)) else [])) ∧
      t.disp.pend = s.disp.pend ++ [(⟨port, 0, none⟩ : PortPend)] ∧
      Frame [wDsp] s t { s with cells := t.cells, toggles := t.toggles, disp := t.disp, links := t.links, resp := ⟨.ok, 0⟩ }) ∧
  (∀ (m : Master) (port handle : Nat) (e : Entry) (s : State),
    port < 6 →
    portAgent port = some m →
    s.on .mgmt = true →
    s.get (portBase port) Rg.PORT_RES.STATUS ≠ 15 →
    s.disp.find handle = some e ∧ e.st = EState.inService ∧ e.agent = some port →
    s.disp.hwq = [] →
    ∃ t, exec (.complete m port handle) s = .next t ∧
      (∀ x ∈ t.disp.entries, x.idx ≠ e.idx) ∧
      t.disp.work = s.disp.work ++ e.succ.map (fun y => (y, false)) ∧
      t.disp.pend = s.disp.pend ++ [(⟨port, 0, none⟩ : PortPend)] ∧
      Frame [wDsp, wTiles] s t { s with cells := t.cells, disp := t.disp, links := t.links, align := t.align, resp := ⟨.ok, 0⟩ }) ∧
  (∀ (m : Master) (port : Nat) (s : State),
    port < 6 →
    portAgent port = some m →
    s.on .mgmt = true →
    s.get (portBase port) Rg.PORT_RES.STATUS ≠ 15 →
    port < s.disp.queues.length →
    ∃ t, exec (.take m port) s = .next t ∧
      t.disp.queues.getD port [] = (s.disp.queues.getD port []).tail ∧
      t.disp.entries = s.disp.entries ∧ t.disp.pend = s.disp.pend ++ [(⟨port, 0, none⟩ : PortPend)] ∧
      Frame [wDsp] s t { s with cells := t.cells, disp := t.disp, resp := ⟨.ok, 0⟩ }) ∧
  (∀ (m : Master) (port op : Nat) (s : State),
    port < 6 →
    portAgent port = some m →
    s.on .mgmt = true →
    s.get (portBase port) Rg.PORT_RES.STATUS ≠ 15 →
    op = 6 ∨ op = 7 →
    ∃ t, exec (.badOp m port op) s = .next t ∧
      t.disp = { s.disp with pend := s.disp.pend ++ [(⟨port, 6, none⟩ : PortPend)] } ∧
      Frame [wDsp] s t { s with cells := t.cells, disp := t.disp, resp := ⟨.ok, 0⟩ })

/-- How the dispatcher shows results, takes hardware submits, completes, decrements, dispatches and assigns flows (R55, R56, R57, R58, R60, R67, R68). -/
def Obligations.DispatcherMovesEntriesOn : Prop :=
  (∀ (port : Nat) (r : PortPend) (s : State),
    port < 6 ∧ s.disp.pend.find? (fun x => x.port == port) = some r →
    r.status < 16 →
    ∃ t, exec (.portOpDone port) s = .next t ∧
      t.get (portBase port) Rg.PORT_RES.STATUS = r.status ∧ t.disp.pend = s.disp.pend.erase r ∧
      t.disp.entries = s.disp.entries ∧
      Frame [wDsp] s t { s with cells := t.cells, disp := t.disp }) ∧
  (∀ (flow prio tag : Nat) (s : State),
    s.on .mgmt = true ∧ s.disp.assigned flow = true →
    0 < s.disp.freeCount (s.disp.flowOf flow).part →
    ∃ t, exec (.hwSubmit flow prio tag) s = .next t ∧
      (∃ e ∈ t.disp.entries, e.flow = flow ∧ e.part = (s.disp.flowOf flow).part ∧ e.tag = tag % 2 ^ 32 ∧ e.prio = prio % 8 ∧ e.st = EState.ready ∧ e.owner = none) ∧
      Frame [wDsp] s t { s with cells := t.cells, toggles := t.toggles, disp := t.disp }) ∧
  (∀ (handle : Nat) (e : Entry) (s : State),
    s.disp.find handle = some e ∧ e.st = EState.inService ∧ e.agent = none →
    s.disp.hwq = [] →
    ∃ t, exec (.tileComplete handle) s = .next t ∧
      (∀ x ∈ t.disp.entries, x.idx ≠ e.idx) ∧
      t.disp.work = s.disp.work ++ e.succ.map (fun y => (y, false)) ∧
      Frame [] s t { s with disp := t.disp, links := t.links }) ∧
  (∀ (h : Nat) (mark : Bool) (l : List (Nat × Bool)) (e : Entry) (s : State),
    s.disp.work = (h, mark) :: l →
    s.disp.find h = some e ∧ e.st = EState.waiting →
    ∃ t, exec .successorDecrement s = .next t ∧
      (t.disp.work = l ∧ ∃ x ∈ t.disp.entries, x.idx = e.idx ∧ x.depCan = (e.depCan || mark) ∧ (if e.counter ≤ 1 then x.st = EState.ready ∧ x.counter = 0 else x.st = EState.waiting ∧ x.counter = e.counter - 1)) ∧
      Frame [] s t { s with disp := t.disp }) ∧
  (∀ (stalled : List Nat) (e : Entry) (s : State),
    s.flag bDsp Rg.DSP_CTRL.ENABLE = true →
    bestEntry (s.disp.entries.filter (s.eligible stalled)) = some e →
    ∃ t, exec (.dispatch stalled) s = .next t ∧
      (∃ x ∈ t.disp.entries, x.idx = e.idx ∧ x.flow = e.flow ∧ x.st = EState.inService) ∧
      Frame [] s t { s with disp := t.disp, toggles := t.toggles, links := t.links, outq := t.outq }) ∧
  (∀ (m : Master) (v : Nat) (s : State),
    mayDispatcher s m 0x38 = true ∧ s.on .mgmt = true →
    s.disp.busyFlow (s.get bDsp Rg.DSP_FLOW_SEL.FLOW) = false ∧ s.disp.waitingOf (s.get bDsp Rg.DSP_FLOW_SEL.FLOW) = 0 →
    ∃ t, exec (.flowDataWrite m v) s = .next t ∧
      t.disp.flowOf (s.get bDsp Rg.DSP_FLOW_SEL.FLOW) = (⟨s.get bDsp Rg.DSP_FLOW_SEL.FLOW, v % 2, v / 2 ^ 4 % 2 ^ 7, v / 2 ^ 11 % 2 ^ 3, v / 2 ^ 32 % 2 ^ 16⟩ : FlowRec) ∧
      t.disp.entries = s.disp.entries ∧
      Frame [] s t { s with disp := t.disp, resp := ⟨.ok, 0⟩ })

/-- Sending, arrival, credits and resets of a link (R43, R44, R46, R49, R53). -/
def Obligations.LinksCarryPackets : Prop :=
  (∀ (link : Nat) (h : PktHead) (data : List Nat) (l : Link) (s : State),
    s.link link = some l ∧ s.sendable l = true →
    1 ≤ data.length ∧ data.length ≤ l.rc.maxlen ∧ 1 + data.length ≤ l.credits ∧ h.ring = false →
    ∃ t, exec (.packetSend link h data) s = .next t ∧
      t.link link = some { l with queue := l.queue ++ [(⟨lengthWord h (s.get (islBase (endIsland l.rc.src)) Rg.ISL_STAT.EPOCH) l.rc.src (data.map (· % 2 ^ 64)), data.map (· % 2 ^ 64), slotItem h.typ⟩ : QPkt)], credits := l.credits - (1 + data.length) } ∧
      Frame [] s t { s with links := t.links }) ∧
  (∀ (link : Nat) (l : Link) (q : QPkt) (rest : List QPkt) (s : State),
    s.link link = some l ∧ s.readable l = true ∧ l.queue = q :: rest →
    pktOk q.lw q.data = true ∧ newer (pktEpoch q.lw) (s.get (islBase (endIsland l.rc.dst)) Rg.ISL_STAT.EPOCH) = false ∧ l.rc.dst ≠ 82 →
    ∃ t, exec (.packetArrive link none) s = .next t ∧
      (if keepsItems l.rc.dst then t.inbox = s.inbox ++ [(⟨l.rc.dst, l.rc.src, q, s.nowNs⟩ : Inbound)] ∧ t.rx = s.rx else if takesType l.rc.dst (pktType q.lw) then t.rx = s.rx ++ [(link, q)] ∧ t.inbox = s.inbox else t.rx = s.rx ∧ t.inbox = s.inbox) ∧
      (∃ k, t.link link = some k ∧ k.queue = rest ∧ k.retn = l.retn + (1 + q.data.length) ∧ k.credits = l.credits) ∧
      Frame [] s t { s with links := t.links, rx := t.rx, inbox := t.inbox }) ∧
  (∀ (link : Nat) (l : Link) (s : State),
    s.link link = some l ∧ l.credits < 14 →
    s.outq = [] →
    ∃ t, exec (.creditReturn link) s = .next t ∧
      t.link link = some { l with credits := l.credits + 1, retn := l.retn - 1 } ∧
      Frame [] s t { s with links := t.links }) ∧
  (∀ (link : Nat) (l : Link) (s : State),
    s.link link = some l →
    ∃ t, exec (.linkReset link) s = .next t ∧
      t.link link = some { l with queue := [], retn := 0, resetAck := some (false, false) } ∧
      t.get (islBase (endIsland l.rc.dst)) Rg.ISL_EVT.Q_DROP = 1 ∧
      Frame [wTiles] s t { s with cells := t.cells, toggles := t.toggles, links := t.links }) ∧
  (∀ (link : Nat) (l : Link) (s : State),
    s.link link = some l ∧ l.resetAck.isSome = true ∧ l.isolated = false →
    ∃ t, exec (.linkResetDone link) s = .next t ∧
      t.link link = some { l with resetAck := none, credits := 14, busy := [], ringPos := 0 } ∧
      Frame [] s t { s with links := t.links })

/-- What accesses to registers and memory do, and what they leave alone (R16, R17, R18, R20, R22, R29, R30, R37, R71, R74, R576). -/
def Obligations.BusAccessesTakeEffect : Prop :=
  (∀ (m : Master) (v same : Nat) (s : State),
    mayDispatcher s m 0x18 = true ∧ s.on .mgmt = true →
    ∃ t, exec (.registerWrite m 0x30020018 false v same) s = .next t ∧
      t.get bDsp Rg.DSP_LOWWATER.LW_P = v % 2 ^ 14 ∧ t.get bDsp Rg.DSP_LOWWATER.LW_F = v / 2 ^ 16 % 2 ^ 13 ∧
      Frame [wDsp] s t { s with cells := t.cells, resp := ⟨.ok, 0⟩ }) ∧
  (∀ (m : Master) (v same : Nat) (s : State),
    mayDispatcher s m 0x28 = true ∧ s.on .mgmt = true ∧ s.get bDsp Rg.DSP_EVT.STALE ≤ 1 →
    ∃ t, exec (.registerWrite m 0x30020028 false v same) s = .next t ∧
      (t.get bDsp Rg.DSP_EVT.STALE = if v / 2 ^ 5 % 2 = 1 ∧ same / 2 ^ 5 % 2 = 0 then 0 else s.get bDsp Rg.DSP_EVT.STALE) ∧
      Frame [wDsp] s t { s with cells := t.cells, resp := ⟨.ok, 0⟩ }) ∧
  (∀ (m : Master) (v : Nat) (s : State),
    mayDispatcher s m 0x08 = true ∧ s.on .mgmt = true →
    s.flag bDsp Rg.DSP_CTRL.LOCK = false ∧ v < 2 ^ 32 ∧ v / 2 ^ 9 % 2 = 1 ∧ v / 2 ^ 10 % 2 = 0 →
    ∃ t, exec (.rwlLock m 0x30020008 v) s = .next t ∧
      t.get bDsp Rg.DSP_CTRL.LOCK = 1 ∧ t.get bDsp Rg.DSP_CTRL.FLEET_RSV = v / 2 % 2 ^ 8 ∧ t.get bDsp Rg.DSP_CTRL.ENABLE = v % 2 ∧
      Frame [wDsp] s t { s with cells := t.cells, resp := ⟨.ok, 0⟩ }) ∧
  (∀ (m : Master) (v : Nat) (s : State),
    mayWriteService s m = true ∧ s.on .mgmt = true →
    ∃ t, exec (.counterClear m 0x30010030 true v) s = .next t ∧
      t.get bRc Rg.RC_LOSS.FULL = 0 ∧ t.get bRc Rg.RC_LOSS.FLUSH_BUSY = 0 ∧ t.get bRc Rg.RC_LOSS.INPUT = 0 ∧ t.get bRc Rg.RC_LOSS.OVERWRITTEN = 0 ∧
      Frame [wRc] s t { s with cells := t.cells, resp := ⟨.ok, 0⟩ }) ∧
  (∀ (m : Master) (v : Nat) (s : State),
    mayTime s m = true ∧ s.on .time = true →
    ∃ t, exec (.lowWordWrite m 0x30000028 v) s = .next t ∧
      held t.staged m bTime 0x30000028 = some (v % 2 ^ 32) ∧
      Frame [] s t { s with staged := t.staged, caught := t.caught, resp := ⟨.ok, 0⟩ }) ∧
  (∀ (m : Master) (v same low : Nat) (s : State),
    mayTime s m = true ∧ s.on .time = true ∧ s.flag bTime Rg.TIME_CTRL.INC_SRC = false →
    held s.staged m bTime 0x30000028 = some low ∧ low < 2 ^ 32 →
    0x3_FFCB_923A ≤ low + v % 2 ^ 32 * 2 ^ 32 ∧ low + v % 2 ^ 32 * 2 ^ 32 ≤ 0x4_0034_6DC6 →
    ∃ t, exec (.highWordWrite m 0x3000002C v same) s = .next t ∧
      t.get bTime Rg.TIME_INC.INC = low + v % 2 ^ 32 * 2 ^ 32 ∧ held t.staged m bTime 0x30000028 = none ∧
      Frame [wTime] s t { s with cells := t.cells, staged := t.staged, caught := t.caught, resp := ⟨.ok, 0⟩ }) ∧
  (∀ (m : Master) (s : State),
    s.looks m = true ∧ s.on .time = true →
    ∃ t, exec (.lowWordRead m 0x30000018) s = .next t ∧
      t.resp = (⟨.ok, s.now % 2 ^ 32⟩ : Completion) ∧ held t.caught m bTime 0x30000018 = some (s.now / 2 ^ 32) ∧
      Frame [] s t { s with staged := t.staged, caught := t.caught, resp := t.resp }) ∧
  (∀ (m : Master) (hi : Nat) (s : State),
    s.looks m = true ∧ s.on .time = true →
    held s.caught m bTime 0x30000018 = some hi →
    ∃ t, exec (.highWordRead m 0x3000001C) s = .next t ∧
      t.resp = (⟨.ok, hi⟩ : Completion) ∧ held t.caught m bTime 0x30000018 = none ∧
      Frame [] s t { s with staged := t.staged, caught := t.caught, resp := t.resp }) ∧
  (∀ (m : Master) (a i : Nat) (b : List Byte) (s : State),
    s.reaches m = true →
    0x1000_0000 ≤ a ∧ a + 8 ≤ 0x1180_0000 ∧ a % 8 = 0 ∧ b.length = 8 →
    s.on .fa = true ∧ s.on .fb = true ∧ s.flag bDdr Rg.DDR_INJ.ARMED = false ∧ i < 8 →
    ∃ t, exec (.busAccess m a (.write b)) s = .next t ∧
      some (t.byte (a + i)) = b[i]? ∧
      BytesKeptBut a 8 s t ∧ RegsKept [] s t ∧
      t = { s with mem := t.mem, poison := t.poison, flips := t.flips, resp := ⟨.ok, 0⟩ }) ∧
  (∀ (m : Master) (isl v : Nat) (s : State),
    mayIsland s m = true ∧ s.on (domOf isl) = true →
    13 ≤ isl ∧ isl ≤ 43 ∧ 120 ≤ v % 256 ∧ v % 256 ≤ 240 →
    ∃ t, exec (.islClkWrite m isl v) s = .next t ∧
      t.get (islBase isl) Rg.ISL_CLK.FREQ_CODE = v % 256 ∧ t.get (islBase isl) Rg.ISL_STAT.CLK_LOCK = 0 ∧
      Frame [wTiles] s t { s with cells := t.cells, resp := ⟨.ok, 0⟩ }) ∧
  (∀ (isl : Nat) (s : State),
    isl ≤ 43 ∧ s.islOn isl = true →
    ∃ t, exec (.clockRelockDone isl) s = .next t ∧
      t.get (islBase isl) Rg.ISL_STAT.CLK_LOCK = 1 ∧
      Frame [wTiles] s t { s with cells := t.cells }) ∧
  (∀ (m : Master) (a n k : Nat) (s : State),
    s.reaches m = true ∧ m ≠ .host ∧ k < 16 ∧ 0 < n ∧ n ≤ 8 ∧ stageBase + k * halfSize ≤ a ∧ a + n ≤ stageBase + (k + 1) * halfSize ∧ s.on (halfDom k) = false →
    ∃ t, exec (.busAccess m a (.read n)) s = .next t ∧
      t = (s.accessEvent 0x062 m a).answer .err 0 ∧ t.resp = (⟨.err, 0⟩ : Completion) ∧
      BytesKept s t ∧ RegsKept [wRc] s t) ∧
  (∀ (m : Master) (a k : Nat) (l : List Byte) (s : State),
    s.reaches m = true ∧ m ≠ .host ∧ k < 16 ∧ 0 < l.length ∧ l.length ≤ 8 ∧ stageBase + k * halfSize ≤ a ∧ a + l.length ≤ stageBase + (k + 1) * halfSize ∧ s.on (halfDom k) = false →
    ∃ t, exec (.busAccess m a (.write l)) s = .next t ∧
      t = (s.accessEvent 0x062 m a).answer .err 0 ∧
      BytesKept s t ∧ RegsKept [wRc] s t) ∧
  (∀ (m : Master) (a n : Nat) (s : State),
    s.reaches m = true ∧ m ≠ .host ∧ 0 < n ∧ n ≤ 8 ∧ ddrBase + s.ddrSize ≤ a ∧ a + n ≤ 0x5_0000_0000 →
    ∃ t, exec (.busAccess m a (.read n)) s = .next t ∧
      t = (s.accessEvent 0x060 m a).answer .err 0 ∧ t.resp = (⟨.err, 0⟩ : Completion) ∧
      BytesKept s t ∧ RegsKept [wRc] s t)

/-- Request, acknowledgement, COMMIT, commit instant, late apply and completion of a mode change (R103, R105, R110, R107, R112, R113, R114, R115). -/
def Obligations.ModeChangesRunTheirSteps : Prop :=
  (∀ (m : Master) (v : Nat) (s : State),
    m = .mp →
    s.power.vdd = true ∧ s.modeBusy = false ∧ v % 8 ≤ 5 ∧ v % 8 ≠ 4 →
    s.modeCheck (.ofCode (v % 8)) (v / 2 ^ 4 % 2 ^ 4) = 0 →
    ∃ t, exec (.modeRequest m v) s = .next t ∧
      t.modes.change = some (⟨.ofCode (v % 8), v / 2 ^ 4 % 2 ^ 4, s.mode, s.participants, [], none, false, s.now⟩ : Change) ∧
      t.get bMpc Rg.MODE_STAT.CHANGING = 1 ∧ t.get bMpc Rg.MODE_STAT.TARGET = v % 8 ∧ t.get bMpc Rg.MODE_STAT.EPOCH = (s.get bMpc Rg.MODE_STAT.EPOCH + 1) % 2 ^ 16 ∧ t.get bMpc Rg.MODE_RES.RESULT = 5 ∧
      Frame [wMpc] s t { s with cells := t.cells, modes := t.modes, power := t.power, resp := ⟨.ok, 0⟩ }) ∧
  (∀ (s : State),
    s.modeBusy = false ∧ (s.mode = .survey ∨ s.mode = .holdover) →
    s.modeCheck .service 4 = 0 →
    ∃ t, exec .serviceConditionsMet s = .next t ∧
      t.modes.change = some (⟨.service, 4, s.mode, s.participants, [], none, false, s.now⟩ : Change) ∧ t.get bMpc Rg.MODE_STAT.TARGET = 2 ∧
      Frame [wMpc] s t { s with cells := t.cells, modes := t.modes, power := t.power }) ∧
  (∀ (isl : Nat) (c : Change) (s : State),
    s.modes.change = some c ∧ c.commit = none ∧ c.parts.contains isl = true ∧ c.acks.contains isl = false →
    c.parts.all (fun i => (c.acks ++ [isl]).contains i) = false →
    ∃ t, exec (.modeAck isl) s = .next t ∧
      t.modes = { s.modes with change := some { c with acks := c.acks ++ [isl] } } ∧
      Frame [] s t { s with modes := t.modes }) ∧
  (∀ (c : Change) (s : State),
    s.modes.change = some c ∧ c.commit = none ∧ c.prep + max 1 (s.get bMpc Rg.MODE_CFG.ACK_WAIT) * 10000 ≤ s.now →
    ∃ t, exec .ackWaitExpiry s = .next t ∧
      t.modes.change = some { c with commit := some (s.now + max 2 (s.get bMpc Rg.MODE_CFG.COMMIT_LEAD) * 10000) } ∧
      t.get bMpc Rg.MODE_COMMIT.INSTANT = (s.now + max 2 (s.get bMpc Rg.MODE_CFG.COMMIT_LEAD) * 10000) % 2 ^ 64 ∧
      Frame [wMpc] s t { s with cells := t.cells, modes := t.modes }) ∧
  (∀ (late : List Nat) (c : Change) (k i : Nat) (s : State),
    s.modes.change = some c ∧ c.commit = some k ∧ k ≤ s.now ∧ s.mode = c.target ∧ c.from_ = c.target →
    s.lagging c.parts ≠ [] →
    c.target = .survey ∨ c.target = .service ∨ c.target = .holdover →
    i < 44 ∧ i ∈ c.parts ∧ i ∉ late ∧ c.dirty = false →
    ∃ t, exec (.modeCommitInstant late) s = .next t ∧
      t.get bMpc Rg.MODE_STAT.MODE = c.target.code ∧
      ((∀ j ∈ c.parts, j < 44) → t.get (islBase i) Rg.ISL_STAT.EPOCH = s.epoch % 16)) ∧
  (∀ (late : List Nat) (c : Change) (k : Nat) (s : State),
    s.modes.change = some c ∧ c.commit = some k ∧ k ≤ s.now ∧ s.mode ≠ c.target ∧ c.from_ ≠ c.target ∧ c.from_ ≠ .bootstrap →
    c.target = .survey ∨ c.target = .service ∨ c.target = .holdover ∨ c.target = .maintenance →
    ∃ t, exec (.modeCommitInstant late) s = .next t ∧
      t.get bMpc Rg.MODE_STAT.MODE = c.target.code ∧ t.modes.change = some c ∧ t.pending = s.pending) ∧
  (∀ (isl : Nat) (c : Change) (k : Nat) (s : State),
    s.modes.change = some c ∧ c.parts.contains isl = true ∧ c.commit = some k ∧ k ≤ s.now →
    isl < 44 ∧ s.lagging [isl] ≠ [] →
    ∃ t, exec (.lateApply isl) s = .next t ∧
      t.get (islBase isl) Rg.ISL_STAT.EPOCH = s.epoch % 16 ∧ t.get (islBase isl) Rg.ISL_EVT.LATE_APPLY = 1 ∧
      t.get bMpc Rg.MODE_EVT.LATE_APPLY = 1 ∧ bitOf isl (t.get bMpc Rg.MODE_LATE.ISLANDS) = true ∧
      Frame [wMpc, wTiles] s t { s with cells := t.cells, toggles := t.toggles }) ∧
  (∀ (fa fb : Bool) (s : State),
    s.mode = .maintenance ∧ s.modeBusy = false ∧ s.modes.change = none →
    ∃ t, exec (.modeChangeComplete (some (fa, fb))) s = .next t ∧
      t.power.fa = fa ∧ t.power.fb = fb ∧ t.get bMpc Rg.MODE_STAT.MAINT_DIRTY = 1 ∧ t.img.lanes = [] ∧ t.pending = s.pending) ∧
  (∀ (c : Change) (k : Nat) (s : State),
    s.modes.change = some c ∧ c.commit = some k ∧ k ≤ s.now ∧ s.modes.slot = none →
    s.lagging c.parts = [] →
    ∃ t, exec (.modeChangeComplete none) s = .next t ∧
      t.modes = { s.modes with change := none } ∧ t.get bMpc Rg.MODE_STAT.CHANGING = 0 ∧ t.get bMpc Rg.MODE_EVT.CHANGED = 1 ∧
      Frame [wMpc, wRc] s t { s with cells := t.cells, toggles := t.toggles, modes := t.modes, log := t.log, pcie := t.pcie })

/-- Mode skew, isolation, re-admission and the isolation limit (R115, R116, R117). -/
def Obligations.SkewAndIsolationRun : Prop :=
  (∀ (link : Nat) (l : Link) (q : QPkt) (rest : List QPkt) (s : State),
    s.link link = some l ∧ l.queue = q :: rest →
    newer (pktEpoch q.lw) (s.get (islBase (endIsland l.rc.dst)) Rg.ISL_STAT.EPOCH) = true →
    s.modes.change = none ∧ s.mode = .holdover →
    ∃ t, exec (.epochHoldTimeout link) s = .next t ∧
      t.get bMpc Rg.MODE_STAT.SKEW = 1 ∧ t.get bMpc Rg.MODE_EVT.MODE_SKEW = 1 ∧
      (endIsland l.rc.dst < 44 → bitOf (endIsland l.rc.dst) (t.get bMpc Rg.MODE_SKEWED.ISLANDS) = true) ∧
      Frame [wMpc, wRc] s t { s with cells := t.cells, toggles := t.toggles, log := t.log }) ∧
  (∀ (c : Change) (k : Nat) (s : State),
    s.modes.change = some c ∧ c.commit = some k ∧ k + 1000000 ≤ s.now ∧ s.modes.slot = none →
    s.lagging c.parts = [] →
    ∃ t, exec .skewTimeout s = .next t ∧
      t.modes = { s.modes with change := none } ∧ t.get bMpc Rg.MODE_STAT.CHANGING = 0 ∧ t.get bMpc Rg.MODE_EVT.CHANGED = 1 ∧
      Frame [wMpc, wRc] s t { s with cells := t.cells, toggles := t.toggles, modes := t.modes, log := t.log, pcie := t.pcie }) ∧
  (∀ (isl at_ : Nat) (s : State),
    s.modes.isolated = [(isl, at_, false)] →
    s.lagging [isl] = [] →
    ∃ t, exec (.islandReadmit isl) s = .next t ∧
      (t.modes = { s.modes with isolated := [] } ∧ ∀ l ∈ t.links, l.isolated = false) ∧
      Frame [wMpc] s t { s with cells := t.cells, modes := t.modes, links := t.links }) ∧
  (∀ (isl at_ : Nat) (s : State),
    s.modes.isolated = [(isl, at_, false)] ∧ at_ + 100000000 ≤ s.now →
    s.modes.change = none ∧ s.mode = .holdover →
    ∃ t, exec (.isolationTimeout isl) s = .next t ∧
      t.modes = { s.modes with isolated := [(isl, at_, true)] } ∧ t.get bMpc Rg.MODE_STAT.SKEW = 1 ∧ t.get bMpc Rg.MODE_EVT.MODE_SKEW = 1 ∧
      Frame [wMpc, wRc] s t { s with cells := t.cells, toggles := t.toggles, modes := t.modes, log := t.log })

/-- Requests for resets, what a power-on reset and a power-down leave, and loss of VBAT (R15, R37, R118, R119, R120, R121, R123). -/
def Obligations.ResetsAndPower : Prop :=
  (∀ (m : Master) (v : Nat) (s : State),
    m = .mp ∧ s.power.vdd = true ∧ v % 2 ^ 16 = 0x5752 →
    ∃ t, exec (.resetCtrlWrite m v) s = .next t ∧
      t.power.due = s.power.due ++ [1] ∧ t.get bMpc Rg.RESET_CAUSE.WARM_SW = 1 ∧ t.resp = (⟨.ok, 0⟩ : Completion) ∧
      Frame [wMpc] s t { s with cells := t.cells, power := t.power, resp := ⟨.ok, 0⟩ }) ∧
  (∀ (sec : Bool) (s : State),
    s.on (if sec then .sec else .mgmt) = true →
    ∃ t, exec (.watchdogExpiry sec) s = .next t ∧
      ((if sec then 4 else 3) ∈ t.power.due) ∧
      Frame [wRc] s t { s with cells := t.cells, toggles := t.toggles, log := t.log, power := t.power }) ∧
  (∀ (vb : Bool) (s : State),
    ∃ t, exec (.powerOnReset vb none) s = .next t ∧
      t.power = { State.reset.power with vbat := vb } ∧ t.cocoon = [] ∧ t.links = [] ∧ t.boot.waitRef = true ∧
      t.time = State.reset.time ∧ t.pending = s.pending ∧ t.sec.digests = s.sec.digests) ∧
  (∀ (vb : Bool) (env : BootEnv) (s : State),
    ∃ t, exec (.powerOnReset vb (some env)) s = .next t ∧
      Started t ∧ t.pending = s.pending) ∧
  (∀ (env : BootEnv) (s : State),
    s.boot.waitRef = true ∧ s.power.vdd = true →
    ∃ t, exec (.refClockLock env) s = .next t ∧
      Started t ∧ t.pending = s.pending) ∧
  (∀ (env : BootEnv) (s : State),
    s.power.vdd = true ∧ s.power.due.any (fun c => c != 2 || decide (s.power.hostAt ≤ s.nowNs)) = true →
    ∃ t, exec (.warmReset env) s = .next t ∧
      Started t ∧ t.pending = s.pending) ∧
  (∀ (env : BootEnv) (c : Nat) (s : State),
    s.power.due = [c] ∧ s.power.vdd = true ∧ (c ≠ 2 ∨ s.power.hostAt ≤ s.nowNs) →
    s.keyPageOk = false ∧ s.get bSec Rg.SEC_STAT.LC ≠ 0 ∧ s.upd.bankIn 2 = none ∧ s.upd.bankIn 3 = none →
    ∃ t, exec (.warmReset env) s = .next t ∧
      t.sec.halted = true ∧ t.get bSec Rg.BOOT_STAT.CODE = 1 ∧ t.mode = .bootstrap ∧ t.get bMpc Rg.FS_STAT.LATCHED = 1 ∧
      t.power.due = [] ∧ t.power.mgmt = false ∧ t.power.io = false ∧ t.power.fa = false ∧ t.power.fb = false ∧ t.power.sec = true ∧
      t.time.era = s.time.era ∧ t.time.ns = s.time.ns) ∧
  (∀ (s : State),
    s.power.vdd = true →
    ∃ t, exec .powerDown s = .next t ∧
      t.power.vdd = false ∧ t.on .aon = false ∧ t.on .time = false ∧ t.on .sec = false ∧ t.on .mgmt = false ∧ t.on .io = false ∧ t.on .fa = false ∧ t.on .fb = false ∧
      t.cocoon = [] ∧ t.time = State.reset.time ∧ t.pending = s.pending) ∧
  (∀ (s : State),
    s.power.vbat = true →
    ∃ t, exec .vbatLoss s = .next t ∧
      t.power.vbat = false ∧ t.sec.roots = [none, none, none] ∧ t.sec.tampers = 0 ∧ t.get bMpc Rg.PWR_STAT.VBAT_OK = 0 ∧
      t.mem = s.mem ∧ t.time = s.time ∧ t.pending = s.pending)

/-- The notice before DORMANT, wake sources during the entry, and the Cocoon store (R124, R125, R126, R127, R128, R219, R472). -/
def Obligations.DormantEntryAndWake : Prop :=
  (∀ (nav : List (Nat × Nat)) (at_ cause : Nat) (s : State),
    s.modes.sleep = some (at_, cause) ∧ at_ + s.get bMpc Rg.MODE_CFG.DORM_GRACE * 10000000 ≤ s.now →
    ∃ t, exec (.dormantGraceExpiry nav) s = .next t ∧
      t.modes.sleep = none ∧ t.modes.change = some (⟨.dormant, cause, s.mode, s.participants, [], none, false, s.now⟩ : Change) ∧ t.power.dormPrep = true ∧
      t.boot.coBad = [] ∧ t.pending = s.pending) ∧
  (∀ (env : BootEnv) (at_ cause : Nat) (s : State),
    s.modes.sleep = some (at_, cause) ∧ s.modes.change = none →
    s.flag bMpc Rg.WAKE_CFG.TIMER_EN = true ∧ s.get bMpc Rg.WAKE_TIME.INSTANT ≤ s.now ∧ s.modes.asked < s.get bMpc Rg.WAKE_TIME.INSTANT →
    ∃ t, exec (.wakeTimerFire env) s = .next t ∧
      t.modes.sleep = none ∧ t.modes.change = some (⟨s.mode, 4, s.mode, s.participants, [], none, false, s.now⟩ : Change) ∧ t.get bMpc Rg.MODE_EVT.DORMANT_ABORT = 1 ∧ t.get bMpc Rg.WAKE_STAT.EARLY = 1 ∧
      Frame [wMpc] s t { s with cells := t.cells, toggles := t.toggles, modes := t.modes, power := t.power }) ∧
  (∀ (pin : Nat) (rise : Bool) (env : BootEnv) (at_ cause : Nat) (s : State),
    s.modes.sleep = some (at_, cause) ∧ s.modes.change = none →
    pin < 4 ∧ bitOf pin (s.get bMpc Rg.WAKE_CFG.PIN_EN) = true ∧ bitOf pin (s.get bMpc Rg.WAKE_CFG.PIN_POL) = rise →
    ∃ t, exec (.wakePin pin rise env) s = .next t ∧
      t.modes.sleep = none ∧ t.modes.change = some (⟨s.mode, 4, s.mode, s.participants, [], none, false, s.now⟩ : Change) ∧ t.get bMpc Rg.MODE_EVT.DORMANT_ABORT = 1 ∧ t.get bMpc Rg.WAKE_STAT.EARLY = 1 ∧
      Frame [wMpc] s t { s with cells := t.cells, toggles := t.toggles, modes := t.modes, power := t.power }) ∧
  (∀ (env : BootEnv) (at_ cause : Nat) (s : State),
    s.modes.sleep = some (at_, cause) ∧ s.modes.change = none →
    s.flag bMpc Rg.WAKE_CFG.HOST_EN = true →
    ∃ t, exec (.wakeHost env) s = .next t ∧
      t.modes.sleep = none ∧ t.modes.change = some (⟨s.mode, 4, s.mode, s.participants, [], none, false, s.now⟩ : Change) ∧ t.get bMpc Rg.MODE_EVT.DORMANT_ABORT = 1 ∧ t.get bMpc Rg.WAKE_STAT.EARLY = 1 ∧
      Frame [wMpc] s t { s with cells := t.cells, toggles := t.toggles, modes := t.modes, power := t.power }) ∧
  (∀ (env : BootEnv) (s : State),
    s.mode = .dormant ∧ s.modes.sleep = none ∧ s.modes.change = none →
    s.flag bMpc Rg.WAKE_CFG.TIMER_EN = true ∧ s.get bMpc Rg.WAKE_TIME.INSTANT ≤ s.now →
    ∃ t, exec (.wakeTimerFire env) s = .next t ∧
      Started t ∧ t.pending = s.pending) ∧
  (∀ (pin : Nat) (rise : Bool) (env : BootEnv) (s : State),
    s.mode = .dormant ∧ s.modes.sleep = none ∧ s.modes.change = none →
    pin < 4 ∧ bitOf pin (s.get bMpc Rg.WAKE_CFG.PIN_EN) = true ∧ bitOf pin (s.get bMpc Rg.WAKE_CFG.PIN_POL) = rise →
    ∃ t, exec (.wakePin pin rise env) s = .next t ∧
      Started t ∧ t.pending = s.pending) ∧
  (∀ (env : BootEnv) (s : State),
    s.mode = .dormant ∧ s.modes.sleep = none ∧ s.modes.change = none →
    s.flag bMpc Rg.WAKE_CFG.HOST_EN = true →
    ∃ t, exec (.wakeHost env) s = .next t ∧
      Started t ∧ t.pending = s.pending) ∧
  (∀ (m : Master) (v : Nat) (s : State),
    (m = .mp ∨ m = .gauntlet) ∧ s.power.vdd = true →
    v % 2 ^ 64 ≠ 0 →
    ∃ t, exec (.cocDataWrite m v) s = .next t ∧
      lookupD 0 (s.get bMpc Rg.COC_ADDR.WORD) t.cocoon = v % 2 ^ 64 ∧
      t.get bMpc Rg.COC_CTRL.VALID = 0 ∧ t.get bMpc Rg.COC_ADDR.WORD = (s.get bMpc Rg.COC_ADDR.WORD + 1) % 32768 ∧
      Frame [wMpc] s t { s with cells := t.cells, cocoon := t.cocoon, boot := t.boot, resp := ⟨.ok, 0⟩ }) ∧
  (∀ (m : Master) (s : State),
    m = .mp ∨ m = .tp ∨ m = .host →
    s.boot.coBad.contains (s.get bMpc Rg.COC_ADDR.WORD) = false →
    ∃ t, exec (.cocDataRead m false) s = .next t ∧
      t.resp = (⟨.ok, lookupD 0 (s.get bMpc Rg.COC_ADDR.WORD) s.cocoon⟩ : Completion) ∧ t.get bMpc Rg.COC_ADDR.WORD = (s.get bMpc Rg.COC_ADDR.WORD + 1) % 32768 ∧
      Frame [wMpc] s t { s with cells := t.cells, resp := t.resp }) ∧
  (∀ (nav : List (Nat × Nat)) (s : State),
    s.mode = .survey ∨ s.mode = .service ∨ s.mode = .holdover →
    ∃ t, exec (.cocoonRefresh nav) s = .next t ∧
      t.get bMpc Rg.COC_CTRL.VALID = 1 ∧ t.get bMpc Rg.COC_TIME.INSTANT = s.now % 2 ^ 64 ∧ t.boot.coBad = [] ∧
      Frame [wMpc] s t { s with cells := t.cells, cocoon := t.cocoon, boot := t.boot })

/-- Update sessions: begin, erase, headers, blocks, abort, status and the 600 s limit (R132, R133, R134, R135, R476, R477). -/
def Obligations.UpdateSessionsRun : Prop :=
  (∀ (r : YxReq) (b : Nat) (s : State),
    s.yx.serving = some r ∧ yxOp r.frame = 0x40 ∧ s.staging = true →
    s.upd.sess = none ∧ s.upd.pick = some b ∧ b < s.upd.banks.length →
    ∃ t, exec .updBegin s = .next t ∧
      t.upd.sess = some (⟨(Config.sessionId s.free).toNat, b, false, s.now⟩ : UpdSess) ∧ (t.upd.bank b).st = 1 ∧ (t.upd.bank b).blocks = [] ∧
      t.yx.serving = none ∧ t.yx.last.getLast? = some (⟨r, 1, [1]⟩ : YxLast) ∧ t.upd.last = 1 ∧
      Frame [wYx] s t { s with cells := t.cells, upd := t.upd, yx := t.yx, toggles := t.toggles, pcie := t.pcie, free := s.free + 1 }) ∧
  (∀ (ok : Bool) (u : UpdSess) (s : State),
    ok = true ∧ s.upd.sess = some u ∧ u.open_ = false →
    ∃ t, exec (.bankEraseDone ok) s = .next t ∧
      t.upd = { s.upd with sess := some { u with open_ := true, last := s.now }, last := 0 } ∧ t.yx.serving = s.yx.serving ∧
      Frame [] s t { s with upd := t.upd, yx := t.yx }) ∧
  (∀ (r : YxReq) (u : UpdSess) (s : State),
    s.yx.serving = some r ∧ yxOp r.frame = 0x41 ∧ s.staging = true →
    s.upd.sess = some u ∧ u.open_ = true ∧ leAt (yxPayload r.frame) 0 2 = u.id ∧ u.bank < s.upd.banks.length →
    s.headerStatus (s.upd.bank u.bank) (padTo 4096 ((yxPayload r.frame).drop 2)) ≠ 0 →
    ∃ t, exec .updHeader s = .next t ∧
      t.upd = { s.upd with sess := some { u with last := s.now }, last := s.headerStatus (s.upd.bank u.bank) (padTo 4096 ((yxPayload r.frame).drop 2)) } ∧
      t.yx.serving = none ∧
      Frame [wYx] s t { s with cells := t.cells, upd := t.upd, yx := t.yx, toggles := t.toggles, pcie := t.pcie }) ∧
  (∀ (r : YxReq) (u : UpdSess) (s : State),
    s.yx.serving = some r ∧ yxOp r.frame = 0x41 ∧ s.staging = true →
    s.upd.sess = some u ∧ u.open_ = true ∧ leAt (yxPayload r.frame) 0 2 = u.id ∧ u.bank < s.upd.banks.length →
    s.headerStatus (s.upd.bank u.bank) (padTo 4096 ((yxPayload r.frame).drop 2)) = 0 →
    ∃ t, exec .updHeader s = .next t ∧
      (t.upd.bank u.bank).heads = (s.upd.bank u.bank).heads ++ [(hdrType (padTo 4096 ((yxPayload r.frame).drop 2)), padTo 4096 ((yxPayload r.frame).drop 2))] ∧
      t.yx.serving = none ∧ t.upd.last = 0 ∧ t.upd.sess = some ({ u with last := s.now } : UpdSess) ∧
      Frame [wYx] s t { s with cells := t.cells, upd := t.upd, yx := t.yx, toggles := t.toggles, pcie := t.pcie }) ∧
  (∀ (flashOk : Bool) (r : YxReq) (u : UpdSess) (hd : List Byte) (s : State),
    flashOk = true ∧ s.log.flush ≠ .emergency ∧ s.yx.serving = some r ∧ yxOp r.frame = 0x42 ∧ s.staging = true →
    s.upd.sess = some u ∧ u.open_ = true ∧ leAt (yxPayload r.frame) 0 2 = u.id ∧ u.bank < s.upd.banks.length →
    (s.upd.bank u.bank).head (leAt (yxPayload r.frame) 2 1) = some hd ∧ leAt (yxPayload r.frame) 3 4 % 4096 = 0 ∧ leAt (yxPayload r.frame) 3 4 < hdrLen hd →
    (s.upd.bank u.bank).block (leAt (yxPayload r.frame) 2 1) (leAt (yxPayload r.frame) 3 4) = none →
    ∃ t, exec (.updBlock flashOk) s = .next t ∧
      (t.upd.bank u.bank).block (leAt (yxPayload r.frame) 2 1) (leAt (yxPayload r.frame) 3 4) = some (padTo 4096 ((yxPayload r.frame).drop 7)) ∧
      t.yx.serving = none ∧ t.upd.last = 0 ∧
      Frame [wYx] s t { s with cells := t.cells, upd := t.upd, yx := t.yx, toggles := t.toggles, pcie := t.pcie }) ∧
  (∀ (r : YxReq) (u : UpdSess) (s : State),
    s.yx.serving = some r ∧ yxOp r.frame = 0x44 ∧ s.staging = true →
    s.upd.sess = some u ∧ u.open_ = true ∧ leAt (yxPayload r.frame) 0 2 = u.id ∧ u.bank < s.upd.banks.length →
    ∃ t, exec .updAbort s = .next t ∧
      t.upd.sess = none ∧ (t.upd.bank u.bank).st = 7 ∧ t.upd.last = 0 ∧ t.yx.serving = none ∧
      Frame [wYx] s t { s with cells := t.cells, upd := t.upd, yx := t.yx, toggles := t.toggles, pcie := t.pcie }) ∧
  (∀ (r : YxReq) (s : State),
    s.yx.serving = some r ∧ yxOp r.frame = 0x45 →
    ∃ t, exec .updStatus s = .next t ∧
      t.yx.serving = none ∧ t.yx.last.getLast? = some (⟨r, 0, 0 :: s.updStatus⟩ : YxLast) ∧
      Frame [wYx] s t { s with cells := t.cells, yx := t.yx, toggles := t.toggles, pcie := t.pcie }) ∧
  (∀ (u : UpdSess) (s : State),
    s.upd.sess = some u ∧ u.last + 600000000000 ≤ s.now ∧ u.bank < s.upd.banks.length →
    ∃ t, exec .sessionTimeout s = .next t ∧
      t.upd.sess = none ∧ (t.upd.bank u.bank).st = 7 ∧ t.upd.active = s.upd.active ∧
      Frame [] s t { s with upd := t.upd })

/-- UPD_FINALIZE makes the bank FINAL when every check of R136 passes, and otherwise answers the first failing check (R132, R136). -/
def Obligations.FinalizeChecksTheSet : Prop :=
  (∀ (r : YxReq) (u : UpdSess) (s : State),
    s.yx.serving = some r ∧ yxOp r.frame = 0x43 ∧ s.staging = true →
    s.upd.sess = some u ∧ u.open_ = true ∧ leAt (yxPayload r.frame) 0 2 = u.id →
    (s.upd.bank u.bank).heads = [] →
    ∃ t, exec .updFinalize s = .next t ∧
      t.upd = { s.upd with sess := some { u with last := s.now }, last := 0x35 } ∧ t.yx.serving = none ∧
      Frame [wYx] s t { s with cells := t.cells, upd := t.upd, yx := t.yx, toggles := t.toggles, pcie := t.pcie }) ∧
  (∀ (r : YxReq) (u : UpdSess) (s : State),
    s.yx.serving = some r ∧ yxOp r.frame = 0x43 ∧ s.staging = true ∧ s.upd.sess = some u ∧ u.open_ = true ∧ leAt (yxPayload r.frame) 0 2 = u.id ∧ u.bank < 2 ∧ s.upd.banks.length = 2 →
    (s.upd.bank u.bank).heads ≠ [] ∧ (s.upd.bank u.bank).heads.all (fun y => (s.upd.bank u.bank).full y.1 y.2) = true ∧ (s.upd.bank u.bank).head 4 = none ∧ ifConflict (s.upd.merged (s.upd.bank u.bank).heads) = none →
    (s.upd.bank u.bank).heads.all (fun y => hashOk y.2 ((s.upd.bank u.bank).image y.1 y.2)) = true →
    ∃ t, exec .updFinalize s = .next t ∧
      (t.upd.bank u.bank = { s.upd.bank u.bank with st := 2 } ∧ (t.upd.bank (1 - u.bank)).st = (if (s.upd.bank (1 - u.bank)).st = 2 then 6 else (s.upd.bank (1 - u.bank)).st)) ∧
      t.upd.sess = none ∧ t.upd.last = 0 ∧ t.upd.active = s.upd.active ∧ t.yx.serving = none ∧
      Frame [wYx] s t { s with cells := t.cells, upd := t.upd, yx := t.yx, toggles := t.toggles, pcie := t.pcie })

/-- HELLO, MODE, RESET, REG_READ, REG_WRITE and the settings operations take effect and answer their request (R104, R118, R475, R476, R477). -/
def Obligations.YupexOperationsAnswer : Prop :=
  (∀ (r : YxReq) (s : State),
    s.yx.serving = some r ∧ yxOp r.frame = 0x01 →
    ∃ t, exec .hello s = .next t ∧
      t.yx.serving = none ∧ t.yx.last.getLast? = some (⟨r, 0, 0 :: (leBytes 4 0x7740 ++ leBytes 1 Config.stepping.toNat ++ leBytes 4 (s.word bMpc .MODE_STAT) ++ leBytes 4 (s.word bMpc .FS_STAT) ++ leBytes 4 (s.word bMpc .STRUCT_ID) ++ leBytes 4 (s.get bYx Rg.YX_EPOCH.EPOCH))⟩ : YxLast) ∧
      Frame [wYx] s t { s with cells := t.cells, yx := t.yx, toggles := t.toggles, pcie := t.pcie }) ∧
  (∀ (r : YxReq) (s : State),
    s.yx.serving = some r ∧ yxOp r.frame = 0x10 →
    leAt (yxPayload r.frame) 0 1 = 6 ∧ s.mode ≠ .maintenance ∧ s.modeBusy = false →
    ∃ t, exec .yupexMode s = .next t ∧
      t.yx.serving = none ∧ t.yx.last.getLast? = some (⟨r, 0, [0, 2]⟩ : YxLast) ∧ t.get bMpc Rg.MODE_RES.RESULT = 2 ∧ t.get bMpc Rg.MODE_EVT.REFUSED = 1 ∧
      Frame [wYx, wMpc] s t { s with cells := t.cells, yx := t.yx, toggles := t.toggles, pcie := t.pcie }) ∧
  (∀ (r : YxReq) (s : State),
    s.yx.serving = some r ∧ yxOp r.frame = 0x10 →
    leAt (yxPayload r.frame) 0 1 = 5 ∧ s.modeBusy = false ∧ s.modeCheck .maintenance 0 = 0 →
    ∃ t, exec .yupexMode s = .next t ∧
      t.yx.serving = none ∧ t.yx.last.getLast? = some (⟨r, 0, [0, 5]⟩ : YxLast) ∧ t.modes.change = some (⟨.maintenance, 0, s.mode, s.participants, [], none, false, s.now⟩ : Change) ∧
      Frame [wYx, wMpc] s t { s with cells := t.cells, yx := t.yx, toggles := t.toggles, pcie := t.pcie, modes := t.modes, power := t.power }) ∧
  (∀ (r : YxReq) (s : State),
    s.yx.serving = some r ∧ yxOp r.frame = 0x11 →
    ∃ t, exec .yupexReset s = .next t ∧
      t.yx.serving = none ∧ t.get bMpc Rg.RESET_CAUSE.WARM_HOST = 1 ∧ t.power.due = s.power.due ++ [2] ∧ t.power.hostAt = s.nowNs + 1000000 ∧
      Frame [wYx, wMpc] s t { s with cells := t.cells, yx := t.yx, toggles := t.toggles, pcie := t.pcie, power := t.power }) ∧
  (∀ (r : YxReq) (s : State),
    s.yx.serving = some r ∧ yxOp r.frame = 0x20 ∧ s.on .mgmt = true ∧ s.looks .host = true →
    leAt (yxPayload r.frame) 0 5 = 0x30020018 ∧ leAt (yxPayload r.frame) 5 1 = 4 →
    ∃ t, exec .regRead s = .next t ∧
      t.yx.serving = none ∧ t.yx.last.getLast? = some (⟨r, 0, 0 :: leBytes 8 (s.get bDsp Rg.DSP_LOWWATER.LW_P + s.get bDsp Rg.DSP_LOWWATER.LW_F * 2 ^ 16)⟩ : YxLast) ∧
      Frame [wYx] s t { s with cells := t.cells, yx := t.yx, toggles := t.toggles, pcie := t.pcie }) ∧
  (∀ (r : YxReq) (s : State),
    s.yx.serving = some r ∧ yxOp r.frame = 0x21 ∧ s.on .mgmt = true ∧ mayWriteService s .host = true →
    leAt (yxPayload r.frame) 0 5 = 0x30010028 ∧ leAt (yxPayload r.frame) 5 1 = 4 →
    ∃ t, exec .regWrite s = .next t ∧
      t.yx.serving = none ∧ t.yx.last.getLast? = some (⟨r, 0, [0]⟩ : YxLast) ∧ t.get bRc Rg.RC_SEL.SEQ = leAt (yxPayload r.frame) 6 4 ∧
      Frame [wYx, wRc] s t { s with cells := t.cells, yx := t.yx, toggles := t.toggles, pcie := t.pcie }) ∧
  (∀ (r : YxReq) (x : Settings) (s : State),
    s.yx.serving = some r ∧ yxOp r.frame = 0x30 →
    s.upd.setting (leAt (yxPayload r.frame) 0 1) = some x ∧ x.rec_.length ≤ 4096 →
    ∃ t, exec .setRead s = .next t ∧
      t.yx.serving = none ∧ t.yx.last.getLast? = some (⟨r, 0, 0 :: (leBytes 2 x.fmt ++ leBytes 2 x.rec_.length ++ x.rec_)⟩ : YxLast) ∧
      Frame [wYx] s t { s with cells := t.cells, yx := t.yx, toggles := t.toggles, pcie := t.pcie }) ∧
  (∀ (r : YxReq) (s : State),
    s.yx.serving = some r ∧ yxOp r.frame = 0x31 →
    s.upd.settingsFmt (leAt (yxPayload r.frame) 0 1) = some (leAt (yxPayload r.frame) 1 2) ∧ (yxPayload r.frame).length ≤ 5 →
    ∃ t, exec .setWrite s = .next t ∧
      t.yx.serving = none ∧ t.yx.last.getLast? = some (⟨r, 0, [0]⟩ : YxLast) ∧ t.upd.setting (leAt (yxPayload r.frame) 0 1) = some (⟨leAt (yxPayload r.frame) 0 1, leAt (yxPayload r.frame) 1 2, []⟩ : Settings) ∧
      Frame [wYx] s t { s with cells := t.cells, upd := t.upd, yx := t.yx, toggles := t.toggles, pcie := t.pcie })

/-- The Yupex mailbox and the host's accesses (R468, R469, R472, R475, R476). -/
def Obligations.MailboxTakesRequests : Prop :=
  (∀ (m : Master) (s : State),
    mayMailbox s m = true ∧ s.on .io = true ∧ (m = .host → s.flag bPcie Rg.PCIE_STAT.LINK_UP = true) →
    s.flag bYx Rg.YX_STAT.BUSY = false →
    ∃ t, exec (.yupexGo m) s = .next t ∧
      t.get bYx Rg.YX_STAT.BUSY = 1 ∧ t.yx = { s.yx with pcie := some ⟨none, s.yxBuffer⟩, abandoned := false } ∧
      Frame [wYx] s t { s with cells := t.cells, yx := t.yx, resp := ⟨.ok, 0⟩ }) ∧
  (∀ (m : Master) (s : State),
    mayMailbox s m = true ∧ s.on .io = true ∧ (m = .host → s.flag bPcie Rg.PCIE_STAT.LINK_UP = true) →
    ∃ t, exec (.yupexAck m) s = .next t ∧
      t.get bYx Rg.YX_STAT.RESP_RDY = 0 ∧
      Frame [wYx] s t { s with cells := t.cells, resp := ⟨.ok, 0⟩ }) ∧
  (∀ (r : YxReq) (s : State),
    s.on .io = true ∧ s.yx.serving = none ∧ s.yx.queue = [] ∧ s.yx.pcie = some r ∧ r.src = none →
    leAt r.frame 0 3 = 0x015859 ∧ yxBad r.frame = false ∧ s.yx.last.find? (fun l => l.req == r) = none →
    yxOp r.frame ≠ 0x31 ∧ yxKnown (yxOp r.frame) = true →
    ∃ t, exec .yupexRequest s = .next t ∧
      t.yx = { s.yx with pcie := none, udpNext := true, serving := some r } ∧
      Frame [] s t { s with yx := t.yx }) ∧
  (∀ (low : Bool) (s : State),
    low = true ∧ s.on .io = true →
    ∃ t, exec (.pciePerstAssert low) s = .next t ∧
      t.get bPcie Rg.PCIE_STAT.PERST = 1 ∧ t.get bPcie Rg.PCIE_STAT.LINK_UP = 0 ∧ t.get bPcie Rg.PCIE_EVT.PERST = 1 ∧
      t.pcie.msixEn = [] ∧ t.yx.abandoned = (s.yx.abandoned || s.flag bYx Rg.YX_STAT.BUSY) ∧
      Frame [wPcie, wRc] s t { s with cells := t.cells, toggles := t.toggles, pcie := t.pcie, yx := t.yx, health := t.health, log := t.log }) ∧
  (∀ (up : Bool) (speed width : Nat) (vecs : List Nat) (s : State),
    up = true ∧ s.on .io = true ∧ s.pcie.started = true ∧ s.pcie.allowed = true ∧ s.flag bPcie Rg.PCIE_STAT.PERST = false →
    1 ≤ speed ∧ speed ≤ 3 ∧ (width = 1 ∨ width = 2 ∨ width = 4) →
    ∃ t, exec (.pcieLinkChange up speed width vecs) s = .next t ∧
      t.get bPcie Rg.PCIE_STAT.LINK_UP = 1 ∧ t.get bPcie Rg.PCIE_STAT.SPEED = speed ∧ t.get bPcie Rg.PCIE_STAT.WIDTH = width ∧
      t.pcie = { s.pcie with msixEn := vecs.filter (fun v => decide (v < 16)) } ∧
      Frame [wPcie, wRc] s t { s with cells := t.cells, toggles := t.toggles, pcie := t.pcie, health := t.health, log := t.log }) ∧
  (∀ (off same : Nat) (s : State),
    s.on .io = true ∧ s.on .mgmt = true ∧ s.flag bPcie Rg.PCIE_STAT.LINK_UP = true ∧ s.looks .host = true →
    off = 0x3020018 →
    ∃ t, exec (.hostAccess false off (.read 4) false same) s = .next t ∧
      t.resp = (⟨.ok, s.get bDsp Rg.DSP_LOWWATER.LW_P + s.get bDsp Rg.DSP_LOWWATER.LW_F * 2 ^ 16⟩ : Completion) ∧
      Frame [] s t { s with resp := t.resp }) ∧
  (∀ (off n same : Nat) (s : State),
    s.on .io = true ∧ s.flag bPcie Rg.PCIE_STAT.LINK_UP = true ∧ bar0 off = none →
    ∃ t, exec (.hostAccess false off (.read n) false same) s = .next t ∧
      t.resp = (⟨.unsupported, 0⟩ : Completion) ∧
      Frame [] s t { s with resp := t.resp })

/-- The scale runs to the second boundary, the wrap, the end of a slew, an armed step and an armed leap (R142, R143, R146, R150, R152, R164, R183). -/
def Obligations.ScaleRunsToItsInstants : Prop :=
  (∀ (k : Nat) (s : State),
    s.timeRuns = true ∧ s.edgesToNext = k ∧ s.edgesToSecond = k ∧ Quiet s →
    s.time.rem = 0 ∧ s.time.armed = none ∧ s.time.leap = false ∧ s.time.leapDue = false ∧ s.time.stepped = none ∧ s.time.relab = none ∧ s.time.valid = [] →
    secUnits ≤ s.time.sec + k * s.inc ∧ s.time.ns * 2 ^ 32 + s.time.frac + k * s.inc < 2 ^ 64 →
    ∃ t, exec .secondBoundary s = .next t ∧
      t.time = { s.time with ns := (s.time.ns * 2 ^ 32 + s.time.frac + k * s.inc) / 2 ^ 32, frac := (s.time.ns * 2 ^ 32 + s.time.frac + k * s.inc) % 2 ^ 32, sec := s.time.sec + k * s.inc - secUnits, spare := 0, bound := (t.nowNs * 2 ^ 32 + t.time.frac - t.time.sec) / 2 ^ 32, pps := s.time.pps.map (fun o => { o with due := !o.early, early := false }) } ∧
      Frame [wTiles] s t { s with cells := t.cells, time := t.time, loops := t.loops, gnss := t.gnss, obs := t.obs }) ∧
  (∀ (k : Nat) (s : State),
    s.timeRuns = true ∧ s.edgesToNext = k ∧ s.edgesToWrap = k ∧ s.time.rem = 0 ∧ s.time.armed = none ∧ s.time.leapDue = false ∧ s.time.stepped = none ∧ s.time.relab = none ∧ Quiet s →
    2 ^ 64 ≤ s.time.ns * 2 ^ 32 + s.time.frac + k * s.inc ∧ s.time.sec + k * s.inc < secUnits →
    s.flag bTime Rg.TIME_STAT.ERA_PEND = true ∧ s.get bTime Rg.TIME_ERA_NEXT.ERA = s.time.era + 1 →
    ∃ t, exec .eraWrap s = .next t ∧
      t.time.era = s.time.era + 1 ∧ t.time.ns = (s.time.ns * 2 ^ 32 + s.time.frac + k * s.inc) / 2 ^ 32 % 2 ^ 32 ∧ t.get bTime Rg.TIME_STAT.ERA_PEND = 0 ∧ t.time.bound = s.time.bound ∧
      Frame [wTime] s t { s with cells := t.cells, time := t.time }) ∧
  (∀ (k : Nat) (s : State),
    s.timeRuns = true ∧ s.edgesToNext = k ∧ s.edgesToWrap = k ∧ s.time.rem = 0 ∧ s.time.armed = none ∧ s.time.leapDue = false ∧ s.time.stepped = none ∧ s.time.relab = none ∧ Quiet s →
    2 ^ 64 ≤ s.time.ns * 2 ^ 32 + s.time.frac + k * s.inc ∧ s.time.sec + k * s.inc < secUnits →
    s.flag bTime Rg.TIME_STAT.ERA_PEND = true →
    ∃ t, exec .eraWrap s = .next t ∧
      t.time.era = s.get bTime Rg.TIME_ERA_NEXT.ERA ∧ t.time.ns = (s.time.ns * 2 ^ 32 + s.time.frac + k * s.inc) / 2 ^ 32 % 2 ^ 32 ∧ t.time.sec = s.time.sec + k * s.inc ∧
      t.mem = s.mem ∧ t.pending = s.pending ∧ t.links = s.links ∧ t.disp = s.disp) ∧
  (∀ (k : Nat) (s : State),
    s.timeRuns = true ∧ s.time.rem ≠ 0 ∧ s.edgesToNext = k ∧ s.slewed k = s.time.rem.natAbs ∧ Quiet s →
    s.time.armed = none ∧ s.time.leapDue = false ∧ s.time.stepped = none ∧ s.time.relab = none ∧ s.time.ns * 2 ^ 32 + s.time.frac + s.edgeSum k < 2 ^ 64 ∧ s.time.sec + s.edgeSum k < secUnits →
    ∃ t, exec .slewDone s = .next t ∧
      t.time.rem = 0 ∧ t.time.sec = s.time.sec + s.edgeSum k ∧ t.time.bound = s.time.bound ∧
      Frame [] s t { s with time := t.time }) ∧
  (∀ (k : Nat) (a : StepArm) (s : State),
    s.timeRuns = true ∧ s.edgesToNext = k ∧ s.edgesToSecond = k ∧ s.time.rem = 0 ∧ s.time.leap = false ∧ s.time.leapDue = false ∧ s.time.stepped = none ∧ s.time.relab = none →
    s.time.armed = some a ∧ a.abs = true ∧ a.wait ≤ k * s.inc →
    secUnits ≤ s.time.sec + k * s.inc ∧ s.time.ns * 2 ^ 32 + s.time.frac + k * s.inc < 2 ^ 64 →
    ∃ t, exec .stepApply s = .next t ∧
      t.time.era * 2 ^ 32 + t.time.ns = a.val % 2 ^ 64 ∧ t.time.frac = 0 ∧ t.time.armed = none ∧ t.time.stepped = none ∧
      t.get bTime Rg.TIME_STEP_CTRL.RESULT = 2 ∧ t.get bTime Rg.TIME_STAT.GEN = (s.get bTime Rg.TIME_STAT.GEN + 1) % 16 ∧ t.get bTime Rg.TIME_EVT.STEP_DONE = 1) ∧
  (∀ (k : Nat) (s : State),
    s.timeRuns = true ∧ s.edgesToNext = k ∧ s.edgesToSecond = k ∧ s.time.rem = 0 ∧ s.time.armed = none ∧ s.time.leapDue = false ∧ s.time.stepped = none ∧ s.time.relab = none ∧ s.time.valid = [] ∧ Quiet s →
    secUnits ≤ s.time.sec + k * s.inc ∧ s.time.ns * 2 ^ 32 + s.time.frac + k * s.inc < 2 ^ 64 →
    s.time.leap = true ∧ s.get bTime Rg.LEAP_AT.INSTANT ≤ s.now →
    ∃ t, exec .leapApply s = .next t ∧
      t.time.leap = false ∧ t.get bTime Rg.UTC_CTRL.UTC_OFS = s.get bTime Rg.UTC_CTRL.NEXT_OFS ∧ t.get bTime Rg.TIME_EVT.LEAP_DONE = 1 ∧
      Frame [wTime, wTiles] s t { s with cells := t.cells, time := t.time, toggles := t.toggles, loops := t.loops, gnss := t.gnss, obs := t.obs })

/-- Writes of the time core's registers (R74, R144, R145, R147, R150, R151, R153, R156). -/
def Obligations.TimeRegistersTakeWrites : Prop :=
  (∀ (m : Master) (v : Nat) (s : State),
    mayTime s m = true ∧ s.on .time = true ∧ s.flag bTime Rg.TIME_CTRL.INC_SRC = false →
    0x3_FFCB_923A ≤ v ∧ v ≤ 0x4_0034_6DC6 →
    ∃ t, exec (.timeIncWrite m v) s = .next t ∧
      t.get bTime Rg.TIME_INC.INC = v ∧
      Frame [wTime] s t { s with cells := t.cells, resp := ⟨.ok, 0⟩ }) ∧
  (∀ (m : Master) (v : Nat) (s : State),
    mayTime s m = true ∧ s.on .time = true ∧ s.time.ns < 0xFFF0_BDC0 →
    ∃ t, exec (.timeEraNextWrite m v) s = .next t ∧
      t.get bTime Rg.TIME_ERA_NEXT.ERA = v % 2 ^ 32 ∧ t.get bTime Rg.TIME_STAT.ERA_PEND = 1 ∧
      Frame [wTime] s t { s with cells := t.cells, resp := ⟨.ok, 0⟩ }) ∧
  (∀ (m : Master) (v : Nat) (s : State),
    mayTime s m = true ∧ s.on .time = true →
    ∃ t, exec (.timeAdjWrite m v) s = .next t ∧
      t.time = { s.time with rem := sgn 64 v, spare := 0 } ∧
      (s.time.rem ≠ 0 → t.get bTime Rg.TIME_EVT.ADJ_REPLACED = 1) ∧
      Frame [wTime] s t { s with cells := t.cells, time := t.time, toggles := t.toggles, resp := ⟨.ok, 0⟩ }) ∧
  (∀ (m : Master) (abs : Bool) (s : State),
    mayTime s m = true ∧ s.on .time = true ∧ s.stepRefusal abs (s.get bTime Rg.TIME_STEP.VALUE) = 0 →
    ∃ t, exec (.stepArm m abs) s = .next t ∧
      t.time = { s.time with armed := some ⟨abs, s.get bTime Rg.TIME_STEP.VALUE, 1000000 * 2 ^ 32⟩ } ∧
      t.get bTime Rg.TIME_STEP_CTRL.RESULT = 1 ∧ t.get bTime Rg.TIME_STAT.STEP_ARMED = 1 ∧
      Frame [wTime] s t { s with cells := t.cells, time := t.time, resp := ⟨.ok, 0⟩ }) ∧
  (∀ (m : Master) (abs : Bool) (s : State),
    mayTime s m = true ∧ s.on .time = true →
    ∃ t, exec (.stepCancel m abs) s = .next t ∧
      t.time = { s.time with armed := none } ∧ t.get bTime Rg.TIME_STEP_CTRL.RESULT = 6 ∧ t.get bTime Rg.TIME_STAT.STEP_ARMED = 0 ∧
      Frame [wTime] s t { s with cells := t.cells, time := t.time, resp := ⟨.ok, 0⟩ }) ∧
  (∀ (m : Master) (v : Nat) (s : State),
    mayTime s m = true ∧ s.on .time = true ∧ s.get bTime Rg.TIME_CTRL.STATE = 0 ∧ v / 2 % 8 = 1 →
    ∃ t, exec (.timeStateWrite m v) s = .next t ∧
      t.get bTime Rg.TIME_CTRL.STATE = 1 ∧ t.get bTime Rg.TIME_CTRL.INC_SRC = v % 2 ∧ t.get bTime Rg.TIME_CTRL.QUAL = v / 16 % 16 ∧
      Frame [wTime] s t { s with cells := t.cells, resp := ⟨.ok, 0⟩ }) ∧
  (∀ (m : Master) (v : Nat) (s : State),
    mayTime s m = true ∧ s.on .time = true ∧ s.get bTime Rg.TIME_CTRL.STATE ≠ 3 →
    ∃ t, exec (.terrWrite m v) s = .next t ∧
      t.time = { s.time with terrW := v % 2 ^ 32 } ∧
      Frame [] s t { s with time := t.time, resp := ⟨.ok, 0⟩ }) ∧
  (∀ (m : Master) (v : Nat) (s : State),
    mayTime s m = true ∧ s.on .time = true ∧ s.get bTime Rg.TIME_CTRL.STATE = 3 ∧ v % 2 ^ 32 ≤ s.time.terr →
    ∃ t, exec (.terrWrite m v) s = .next t ∧
      Frame [] s t { s with resp := ⟨.ok, 0⟩ })

/-- HOLDOVER's estimate, loss and return of the reference, and the choice of sources (R108, R153, R154, R155, R156, R157). -/
def Obligations.DisciplineFollowsItsSources : Prop :=
  (∀ (s : State),
    s.get bTime Rg.TIME_CTRL.STATE = 3 →
    ∃ t, exec .terrEval s = .next t ∧
      t.get bTime Rg.TIME_HO_T.ELAPSED = satAdd Rg.TIME_HO_T.ELAPSED.w (s.get bTime Rg.TIME_HO_T.ELAPSED) 1 ∧ t.time.terr = t.holdEstimate (t.get bTime Rg.TIME_HO_T.ELAPSED) ∧
      Frame [wTime] s t { s with cells := t.cells, time := { s.time with terr := t.time.terr } }) ∧
  (∀ (s : State),
    s.power.vdd = true ∧ s.flag bTime Rg.TIME_STAT.REF_OK = true ∧ s.mode ≠ .service →
    ∃ t, exec .refFail s = .next t ∧
      t.get bTime Rg.TIME_CTRL.STATE = 3 ∧ t.get bTime Rg.TIME_STAT.REF_OK = 0 ∧ t.get bTime Rg.TIME_HO.RATE = 20000 * 65536 ∧ t.get bTime Rg.TIME_EVT.REF_FAIL = 1 ∧
      Frame [wTime, wRc] s t { s with cells := t.cells, time := t.time, boot := t.boot, toggles := t.toggles, log := t.log }) ∧
  (∀ (s : State),
    s.power.vdd = true ∧ s.flag bTime Rg.TIME_STAT.REF_OK = true ∧ s.mode = .service ∧ s.modeBusy = false ∧ s.get bTime Rg.TIME_CTRL.STATE = 2 →
    ∃ t, exec .refFail s = .next t ∧
      t.get bTime Rg.TIME_CTRL.STATE = 3 ∧ t.modes.change = some (⟨.holdover, 2, .service, s.participants, [], none, false, s.now⟩ : Change) ∧
      Frame [wTime, wRc, wMpc] s t { s with cells := t.cells, time := t.time, boot := t.boot, toggles := t.toggles, log := t.log, modes := t.modes, power := t.power }) ∧
  (∀ (s : State),
    s.power.vdd = true ∧ s.flag bTime Rg.TIME_STAT.REF_OK = false ∧ s.time.valid = [] →
    ∃ t, exec .refRecover s = .next t ∧
      t.get bTime Rg.TIME_STAT.REF_OK = 1 ∧
      Frame [wTime] s t { s with cells := t.cells }) ∧
  (∀ (src rate : Nat) (s : State),
    1 ≤ src ∧ src ≤ 4 ∧ s.srcRank src < 4 ∧ s.srcMeets src = true ∧ s.time.valid = [] ∧ s.time.sel = 0 →
    s.mode ≠ .bootstrap ∧ s.mode ≠ .dormant ∧ s.get bTime Rg.TIME_CTRL.STATE = 0 →
    ∃ t, exec (.sourceValid src rate) s = .next t ∧
      t.time = { s.time with valid := [⟨src, s.nowNs, s.time.lost.contains src⟩], sel := src } ∧ t.get bTime Rg.TIME_CTRL.STATE = 1 ∧
      Frame [wTime] s t { s with cells := t.cells, time := t.time }) ∧
  (∀ (src rate : Nat) (v : SrcValid) (s : State),
    src ≠ 0 ∧ src ≠ 5 ∧ s.time.sel = src ∧ s.time.valid = [v] ∧ v.src = src ∧ s.srcGone src = true ∧ s.get bTime Rg.TIME_CTRL.STATE = 2 ∧ s.mode ≠ .service →
    ∃ t, exec (.sourceLost src rate) s = .next t ∧
      t.time.valid = [] ∧ t.time.lost.contains src = true ∧ t.time.sel = 0 ∧ t.get bTime Rg.TIME_CTRL.STATE = 3 ∧ t.get bTime Rg.TIME_HO_T.ELAPSED = 0 ∧
      Frame [wTime] s t { s with cells := t.cells, time := t.time })

/-- TDC stamps and their delivery, pulse outputs and cable measurements (R51, R158, R160, R161, R162, R163). -/
def Obligations.StampsAndPulses : Prop :=
  (∀ (ch stamp sub : Nat) (falling : Bool) (s : State),
    s.timeRuns = true ∧ ch ≤ 12 ∧ s.tdcFitted ch = true ∧ s.flag (bTime + ch * 0x10) Rg.TDC_SUB.POL = falling ∧ s.time.edges.getD ch (none, none) = (none, none) →
    ∃ t, exec (.tdcEdge ch falling stamp sub) s = .next t ∧
      t.get (bTime + ch * 0x10) Rg.TDC_TS.TS = stamp % 2 ^ 64 ∧ t.get (bTime + ch * 0x10) Rg.TDC_SUB.SUB = sub % 2 ^ 8 ∧ t.get (bTime + ch * 0x10) Rg.TDC_SUB.NEW = 1 ∧
      Frame [wTime, wTiles] s t { s with cells := t.cells, time := t.time, toggles := t.toggles, loops := t.loops, samples := t.samples, stop := t.stop }) ∧
  (∀ (pos : Nat) (y : Nat × Stamp) (s : State),
    s.time.flying.find? (fun x => x.1 == pos) = some y →
    ∃ t, exec (.stampDelivery pos) s = .next t ∧
      t.time = { s.time with flying := s.time.flying.erase y, arrived := s.time.arrived.filter (fun z => !(z.1 == pos && z.2.chan == y.2.chan)) ++ [y] } ∧
      Frame [wTiles, wRadio] s t { s with cells := t.cells, time := t.time, toggles := t.toggles, radio := t.radio, engines := t.engines }) ∧
  (∀ (n : Nat) (s : State),
    n < 4 ∧ n < s.time.pps.length ∧ s.timeRuns = true ∧ s.ppsReady n = true ∧ s.ppsPulses n = true →
    (s.ppsOut n).due = true ∨ s.stepNext = false →
    ∃ t, exec (.ppsOutputEdge n) s = .next t ∧
      (t.ppsOut n).high = true ∧ (t.ppsOut n).rose = s.nowNs ∧ (t.ppsOut n).placed = ((s.ppsOut n).shift * 64 + 1000) / 2000 ∧ (t.ppsOut n).drive = (t.ppsOut n).placed * 125 - 4 * s.get (ppsBase n) Rg.PPS_OUTDLY.DLY ∧
      (t.ppsOut n).ofs = s.getS (ppsBase n) Rg.PPS_OFS.OFS * 1000 ∧ (t.ppsOut n).comp = s.ppsComp n ∧
      Frame [] s t { s with time := { s.time with pps := t.time.pps } }) ∧
  (∀ (n : Nat) (s : State),
    n < 4 ∧ n < s.time.pps.length ∧ (s.ppsOut n).high = true ∧ (s.ppsOut n).rose + max 1 (s.get (ppsBase n) Rg.PPS_CFG.WIDTH) * 1000 ≤ s.nowNs →
    ∃ t, exec (.ppsPulseEnd n) s = .next t ∧
      t.ppsOut n = { s.ppsOut n with high := false } ∧
      Frame [] s t { s with time := { s.time with pps := t.time.pps } }) ∧
  (∀ (m : Master) (n : Nat) (s : State),
    mayTime s m = true ∧ s.on .time = true ∧ n < 4 ∧ n < s.time.pps.length →
    s.get (ppsBase n) Rg.PPS_CFG.WIDTH ≤ 400000 ∧ s.ppsEn n = true →
    ∃ t, exec (.measGo m n) s = .next t ∧
      t.get (ppsBase n) Rg.PPS_CABLE.STATE = 4 ∧ (t.ppsOut n).meas = some none ∧ (t.ppsOut n).launch = false ∧
      Frame [wTime] s t { s with cells := t.cells, time := { s.time with pps := t.time.pps }, resp := ⟨.ok, 0⟩ }) ∧
  (∀ (n a : Nat) (s : State),
    n < 4 ∧ n < s.time.pps.length ∧ (s.ppsOut n).meas = some (some a) ∧ a + 500000000 ≤ s.nowNs ∧ (s.ppsOut n).launch = false ∧ s.ppsMoved n = false →
    ∃ t, exec (.cableLaunch n) s = .next t ∧
      t.ppsOut n = { s.ppsOut n with launch := true } ∧
      Frame [] s t { s with time := { s.time with pps := t.time.pps } }) ∧
  (∀ (n gap : Nat) (s : State),
    n < 4 ∧ n < s.time.pps.length ∧ (s.ppsOut n).launch = true ∧ gap ≤ 20000000 →
    ∃ t, exec (.cableResult n (.rise gap)) s = .next t ∧
      t.get (ppsBase n) Rg.PPS_CABLE.STATE = 1 ∧ t.get (ppsBase n) Rg.PPS_CABLE.DELAY = (rnd 90 ((gap : Int) - 2 * Config.cablePath n) 2).toNat % 2 ^ Rg.PPS_CABLE.DELAY.w ∧
      (t.ppsOut n).meas = none ∧ (t.ppsOut n).launch = false ∧ (t.ppsOut n).last = (1, (rnd 90 ((gap : Int) - 2 * Config.cablePath n) 2).toNat) ∧
      Frame [wTime] s t { s with cells := t.cells, time := { s.time with pps := t.time.pps }, toggles := t.toggles })

/-- Enabling, updating and holding a control loop (R93, R167, R172, R174, R175, R177, R179, R182, R190, R191). -/
def Obligations.LoopCommandsTakeEffect : Prop :=
  (∀ (m : Master) (l : Nat) (auto freeze : Bool) (s : State),
    l < 64 ∧ mayLoop s m l = true ∧ s.on .fb = true ∧ s.chanOn .loop l = true →
    s.flag (lpBase l) Rg.LP_CTRL.EN = false ∧ (s.loopCtl l auto freeze).loopRefusal l = 0 →
    ∃ t, exec (.loopEnable m l auto freeze) s = .next t ∧
      (t.get (lpBase l) Rg.LP_CTRL.EN = 1 ∧ t.get (lpBase l) Rg.LP_CTRL.AUTO = b2n auto ∧ t.get (lpBase l) Rg.LP_STAT.STATE = (if auto then 2 else 1) ∧ t.get (lpBase l) Rg.LP_STAT.REFUSE = 0) ∧
      Frame [wTile (loopPos l)] s t { s with cells := t.cells, loops := t.loops, resp := ⟨.ok, 0⟩ }) ∧
  (∀ (m : Master) (l : Nat) (auto freeze : Bool) (s : State),
    l < 64 ∧ mayLoop s m l = true ∧ s.on .fb = true ∧ s.chanOn .loop l = true →
    ∃ t, exec (.loopDisable m l auto freeze) s = .next t ∧
      t.get (lpBase l) Rg.LP_CTRL.EN = 0 ∧ t.get (lpBase l) Rg.LP_CTRL.RC_FREEZE = b2n freeze ∧ t.get (lpBase l) Rg.LP_STAT.STATE = 0 ∧ t.get (lpBase l) Rg.LP_STAT.HOLD_CAUSE = 0 ∧ t.get (lpBase l) Rg.LP_SAT.SAT_TIME = 0 ∧
      Frame [wTile (loopPos l)] s t { s with cells := t.cells, loops := t.loops, resp := ⟨.ok, 0⟩ }) ∧
  (∀ (l : Nat) (s : State),
    l < 64 ∧ s.loopEn l = true ∧ s.loopDue l = true ∧ s.loopState l = 1 ∧ (List.range 16).any (fun k => s.loopTurn l (l / 16 * 16 + k)) = false →
    s.flag (lpBase l) Rg.LP_CFG.FF_TABLE = false ∧ s.flag (lpBase l) Rg.LP_CFG.FF_RC = false →
    ∃ t, exec (.loopUpdate l) s = .next t ∧
      t.get (lpBase l) Rg.LP_U.VALUE = s.get (lpBase l) Rg.LP_MAN.VALUE ∧ t.get (lpBase l) Rg.LP_STAT.STATE = 1 ∧ t.get (lpBase l) Rg.LP_E.VALUE = pat 64 (q64 (s.spIn l - s.pvIn l)) ∧
      Frame [wTile (loopPos l)] s t { s with cells := t.cells, loops := t.loops, toggles := t.toggles }) ∧
  (∀ (l : Nat) (a : LoopIn) (s : State),
    l < 64 ∧ s.loopEn l = true ∧ s.loopDue l = true ∧ s.loopState l = 2 ∧ s.get (lpBase l) Rg.LP_STAT.STATE = 2 ∧ (s.loop l).enter = none ∧ (s.loop l).stepSeen = false ∧ (List.range 16).any (fun k => s.loopTurn l (l / 16 * 16 + k)) = false →
    s.flag (lpBase l) Rg.LP_CFG.FF_TABLE = false ∧ s.flag (lpBase l) Rg.LP_CFG.FF_RC = false ∧ s.flag (lpBase l) Rg.LP_CFG.DERIV_PV = false →
    a = ⟨q64 (s.spIn l - s.pvIn l), loopDeriv (s.getS (lpBase l) Rg.LP_KD.GAIN) (s.getS (lpBase l) Rg.LP_N.GAIN) (s.getS (lpBase l) Rg.LP_D.VALUE) (q64 (s.spIn l - s.pvIn l) - (s.loop l).xprev) (s.loop l).period, 0, s.getS (lpBase l) Rg.LP_KP.GAIN, s.getS (lpBase l) Rg.LP_KI.GAIN, s.getS (lpBase l) Rg.LP_OUTLIM.OUT_MIN * 65536, s.getS (lpBase l) Rg.LP_OUTLIM.OUT_MAX * 65536, (s.loop l).period⟩ →
    ∃ t, exec (.loopUpdate l) s = .next t ∧
      t.get (lpBase l) Rg.LP_U.VALUE = pat 64 (clampI a.lo a.hi (a.sum (a.integ (s.getS (lpBase l) Rg.LP_I.VALUE)))) ∧ t.get (lpBase l) Rg.LP_I.VALUE = pat 64 (a.integ (s.getS (lpBase l) Rg.LP_I.VALUE)) ∧
      t.get (lpBase l) Rg.LP_E.VALUE = pat 64 a.e ∧ t.get (lpBase l) Rg.LP_D.VALUE = pat 64 a.d ∧
      Frame [wTile (loopPos l)] s t { s with cells := t.cells, loops := t.loops, toggles := t.toggles }) ∧
  (∀ (l k : Nat) (u : Int) (s : State),
    l < 64 ∧ (s.loop l).out = some (1, k, u) ∧ s.flag bTime Rg.EFC_CFG.EN = true →
    ∃ t, exec (.loopOutputApply l) s = .next t ∧
      t.get bTime Rg.EFC_VAL.CODE = pat 20 u ∧ t.loops = listSet s.loops l { s.loop l with out := none } ∧
      Frame [wTime] s t { s with cells := t.cells, loops := t.loops }) ∧
  (∀ (l : Nat) (s : State),
    l < 64 ∧ s.loopEn l = true ∧ s.get (lpBase l) Rg.LP_TIMING.STALE_MAX ≠ 0 ∧ s.get (lpBase l) Rg.LP_STAT.HOLD_CAUSE % 2 = 0 →
    (s.loop l).sampleAt + s.get (lpBase l) Rg.LP_TIMING.STALE_MAX * (s.loop l).period * 1000 ≤ s.nowNs →
    ∃ t, exec (.loopStaleTimeout l) s = .next t ∧
      t.get (lpBase l) Rg.LP_STAT.STATE = 3 ∧ t.get (lpBase l) Rg.LP_STAT.HOLD_CAUSE % 2 = 1 ∧ t.get (lpBase l) Rg.LP_EVT.STALE_HOLD = 1 ∧ t.get (lpBase l) Rg.LP_SAT.SAT_TIME = 0 ∧ t.loops = listSet s.loops l { s.loop l with satAt := none, satNs := 0 } ∧
      Frame [wTile (loopPos l)] s t { s with cells := t.cells, toggles := t.toggles, loops := t.loops }) ∧
  (∀ (l : Nat) (s : State),
    l < 64 ∧ s.loopEn l = true ∧ s.satLim l < s.get (lpBase l) Rg.LP_SAT.SAT_TIME ∧ (s.loop l).satFired = false ∧ s.get (lpBase l) Rg.LP_SAT.SAT_ACT = 1 →
    ∃ t, exec (.loopSatLimit l) s = .next t ∧
      t.get (lpBase l) Rg.LP_EVT.SAT_LIMIT = 1 ∧ t.get (lpBase l) Rg.LP_CTRL.AUTO = 0 ∧ t.get (lpBase l) Rg.LP_STAT.STATE = 1 ∧ t.get (lpBase l) Rg.LP_MAN.VALUE = s.get (lpBase l) Rg.LP_U.VALUE ∧ t.get (lpBase l) Rg.LP_SAT.SAT_TIME = 0 ∧
      Frame [wTile (loopPos l)] s t { s with cells := t.cells, toggles := t.toggles, loops := t.loops }) ∧
  (∀ (m : Master) (l : Nat) (s : State),
    l < 64 ∧ mayLoop s m l = true ∧ s.on .fb = true ∧ s.chanOn .loop l = true →
    ∃ t, exec (.rcClear m l) s = .next t ∧
      t.get (lpBase l) Rg.LP_STAT.RC_BUSY = 1 ∧
      Frame [wTile (loopPos l)] s t { s with cells := t.cells, resp := ⟨.ok, 0⟩ }) ∧
  (∀ (l : Nat) (s : State),
    l < 64 ∧ s.chanOn .loop l = true ∧ s.flag (lpBase l) Rg.LP_STAT.RC_BUSY = true ∧ s.rcPlace l = false →
    ∃ t, exec (.rcClearDone l) s = .next t ∧
      t.get (lpBase l) Rg.LP_STAT.RC_BUSY = 0 ∧ t.get (lpBase l) Rg.LP_RC_STAT.POS = 0 ∧ t.get (lpBase l) Rg.LP_RC_STAT.PASSES = 0 ∧
      Frame [wTile (loopPos l)] s t { s with cells := t.cells }) ∧
  (∀ (l : Nat) (s : State),
    l < 64 ∧ s.chanOn .loop l = true ∧ s.flag (lpBase l) Rg.LP_STAT.RC_BUSY = true ∧ s.rcPlace l = true →
    ∃ t, exec (.rcClearDone l) s = .next t ∧
      t.get (lpBase l) Rg.LP_STAT.RC_BUSY = 0 ∧ t.get (lpBase l) Rg.LP_RC_STAT.POS = 0 ∧ t.get (lpBase l) Rg.LP_RC_STAT.PASSES = 0 ∧
      ((∀ x, (x < s.rcAddr l 0 ∨ s.rcAddr l 0 + 4 * s.get (lpBase l) Rg.LP_RC.LEN ≤ x) → t.byte x = s.byte x))) ∧
  (∀ (inst src : Nat) (q : QPkt) (s : State),
    inst < 4 ∧ s.item ((tilePositions .loop).getD inst 99) 0x10 = some (src, q) →
    pktLane q.lw < 16 → s.flag (lpBase (inst * 16 + pktLane q.lw)) Rg.LP_CFG.CT_SVC = false →
    ∃ t, exec (.lookupRequest inst) s = .next t ∧
      t = (s.taken ((tilePositions .loop).getD inst 99) 0x10).emit ((tilePositions .loop).getD inst 99) src 0x11 (pktFlow q.lw) (q.lw / 2 ^ 29 % 8) (pktLane q.lw) [bits 32 16 (q.data.headD 0) * 2 ^ 32 + 2 ^ 48]) ∧
  (∀ (inst src l : Nat) (q : QPkt) (v : Look) (u : State) (s : State),
    inst < 4 ∧ s.item ((tilePositions .loop).getD inst 99) 0x10 = some (src, q) ∧ l = inst * 16 + pktLane q.lw ∧ pktLane q.lw < 16 →
    s.chanOn .loop l = true ∧ s.flag (lpBase l) Rg.LP_CFG.CT_SVC = true ∧ s.tableOk l = true →
    (s.taken ((tilePositions .loop).getD inst 99) 0x10).lookAt l (bits 0 16 (q.data.headD 0)) (sgn 16 (bits 16 16 (q.data.headD 0))) (sgn 32 (bits 0 32 (q.data.headD 0))) = (u, v) ∧ v.bad = none →
    ∃ t, exec (.lookupRequest inst) s = .next t ∧
      t = (u.loopEventIf v.clamp l Rg.LP_EVT.CT_CLAMP).emit ((tilePositions .loop).getD inst 99) src 0x11 (pktFlow q.lw) (q.lw / 2 ^ 29 % 8) (pktLane q.lw) [pat 32 v.val + bits 32 16 (q.data.headD 0) * 2 ^ 32 + b2n v.clamp * 2 ^ 48])

/-- RF sample ports: the enable sequence, retraining, clock loss, rates, jamming, notches and antenna bias (R195, R197, R198, R199, R201, R203, R204, R205, R223). -/
def Obligations.RfPortsRunAndFail : Prop :=
  (∀ (m : Master) (p : Nat) (fe : FeProbe) (a : Sys2Proof.Alignment) (s : State),
    mayWriteService s m = true ∧ s.on .io = true ∧ s.rfFitted p = true ∧ s.chainOff m = false ∧ s.feedDup p = false →
    s.flag (rfBase p) Rg.RF_CFG.EN = false ∧ s.flag (rfBase p) Rg.RF_CFG.FE_MANUAL = false →
    descKnown fe.desc = true ∧ s.descFits p fe.desc = true ∧ rateOk (leAt fe.again 4 3) (leAt fe.desc 9 1) = true ∧ alignOf fe = some a →
    ∃ t, exec (.rfPortEnable m p fe) s = .next t ∧
      t.get (rfBase p) Rg.RF_STAT.STATE = 3 ∧ t.get (rfBase p) Rg.RF_CFG.EN = 1 ∧ t.get (rfBase p) Rg.RF_STAT.FAIL_CODE = 0 ∧ t.get (rfBase p) Rg.RF_STAT.RATE_OK = 1 ∧
      t.get (rfBase p) Rg.RF_FE_FREQ.CENTRE = leAt fe.again 0 4 ∧ t.get (rfBase p) Rg.RF_FE.VENDOR = leAt fe.desc 3 2 ∧ t.get (rfBase p) Rg.RF_STAT.INV_I = b2n a.invI ∧ t.get (rfBase p) Rg.RF_STAT.SLIP = a.slip % 2 ^ Rg.RF_STAT.SLIP.w ∧
      Frame [wRf, wRc, wTiles] s t { s with cells := t.cells, gnss := t.gnss, boot := t.boot, health := t.health, log := t.log, toggles := t.toggles, resp := ⟨.ok, 0⟩ }) ∧
  (∀ (m : Master) (p : Nat) (fe : FeProbe) (s : State),
    mayWriteService s m = true ∧ s.on .io = true ∧ s.rfFitted p = true ∧ s.chainOff m = false ∧ s.feedDup p = false →
    s.flag (rfBase p) Rg.RF_CFG.EN = true ∧ s.flag (rfBase p) Rg.RF_CFG.FE_MANUAL = true ∧ s.flag (rfBase p) Rg.RF_CFG.MAN_TRAIN = false →
    ∃ t, exec (.rfRetrain m p fe) s = .next t ∧
      t.get (rfBase p) Rg.RF_STAT.STATE = 3 ∧ t.get (rfBase p) Rg.RF_STAT.FAIL_CODE = 0 ∧ t.get (rfBase p) Rg.RF_STAT.SLIP = 0 ∧
      Frame [wRf, wRc, wTiles] s t { s with cells := t.cells, gnss := t.gnss, boot := t.boot, log := t.log, toggles := t.toggles, resp := ⟨.ok, 0⟩ }) ∧
  (∀ (p : Nat) (s : State),
    s.rfRun p = true →
    ∃ t, exec (.rfClockLoss p) s = .next t ∧
      t.get (rfBase p) Rg.RF_STAT.STATE = 4 ∧ t.get (rfBase p) Rg.RF_STAT.FAIL_CODE = 4 ∧ t.get (rfBase p) Rg.RF_EVT.FAIL = 1 ∧
      Frame [wRf, wRc, wTiles] s t { s with cells := t.cells, gnss := t.gnss, log := t.log, toggles := t.toggles }) ∧
  (∀ (p : Nat) (fe : FeProbe) (s : State),
    s.rfFitted p = true ∧ s.get (rfBase p) Rg.RF_STAT.STATE = 4 ∧ s.get (rfBase p) Rg.RF_STAT.FAIL_CODE = 4 ∧ s.flag (rfBase p) Rg.RF_CFG.AUTO_RETRAIN = true →
    s.flag (rfBase p) Rg.RF_CFG.EN = true ∧ s.flag (rfBase p) Rg.RF_CFG.FE_MANUAL = true ∧ s.flag (rfBase p) Rg.RF_CFG.MAN_TRAIN = false ∧ s.feedDup p = false ∧ s.chainOff .host = false →
    ∃ t, exec (.rfAutoRetrain p fe) s = .next t ∧
      t.get (rfBase p) Rg.RF_STAT.STATE = 3 ∧ t.get (rfBase p) Rg.RF_STAT.FAIL_CODE = 0 ∧
      Frame [wRf, wRc, wTiles] s t { s with cells := t.cells, gnss := t.gnss, boot := t.boot, log := t.log, toggles := t.toggles }) ∧
  (∀ (p sps : Nat) (s : State),
    s.rfRun p = true →
    ∃ t, exec (.rfRateCheck p sps) s = .next t ∧
      (t.get (rfBase p) Rg.RF_STAT.RATE_OK = (if 100 * (s.get (rfBase p) Rg.RF_FE_FREQ.RATE * 1000) < 1000000 * ((sps : Int) - (s.get (rfBase p) Rg.RF_FE_FREQ.RATE * 1000 : Nat)).natAbs then 0 else 1) ∧ t.get (rfBase p) Rg.RF_RATE.SPS = sps % 2 ^ Rg.RF_RATE.SPS.w) ∧
      Frame [wRf] s t { s with cells := t.cells, toggles := t.toggles }) ∧
  (∀ (m : Master) (p : Nat) (s : State),
    mayWriteService s m = true ∧ s.on .io = true ∧ s.rfRun p = true ∧ p < s.gnss.ports.length →
    ∃ t, exec (.jamLearn m p) s = .next t ∧
      (t.rfPort p).learn = some (0, 0, 0) ∧
      Frame [] s t { s with gnss := t.gnss, resp := ⟨.ok, 0⟩ }) ∧
  (∀ (p n f : Nat) (a : Int) (s : State),
    (s.rfPort p).learn = some (a, f, n) ∧ 1000 ≤ n ∧ p < 8 →
    ∃ t, exec (.jamLearnDone p) s = .next t ∧
      t.get (rfBase p) Rg.RF_JAM_BASE.P0 = pat 16 (satS 16 (rnd 10 a n)) ∧ t.get (rfBase p) Rg.RF_JAM_BASE.SFM0 = min 255 (rnd 11 ((f * 255 : Nat) : Int) (n * 65536)).toNat ∧ (t.rfPort p).learn = none ∧
      Frame [wRf] s t { s with cells := t.cells, gnss := t.gnss }) ∧
  (∀ (p lvl j : Nat) (bins : List Nat) (ps : List (Nat × Nat)) (s : State),
    s.rfRun p = true ∧ s.get (notchBase p 0) Rg.RF_NOTCH.MODE = 2 ∧ s.get (notchBase p 0) Rg.RF_NOTCH.ENGAGED = 0 →
    s.get (notchBase p 1) Rg.RF_NOTCH.MODE ≠ 2 ∧ s.get (notchBase p 2) Rg.RF_NOTCH.MODE ≠ 2 ∧ s.get (notchBase p 3) Rg.RF_NOTCH.MODE ≠ 2 →
    specPeaks (s.get (rfBase p) Rg.RF_NOTCH_CFG.DET_THR) bins = (j, lvl) :: ps →
    ∃ t, exec (.notchDetect p bins) s = .next t ∧
      t.get (notchBase p 0) Rg.RF_NOTCH.ENGAGED = 1 ∧ t.get (notchBase p 0) Rg.RF_NOTCH.CENTRE = wordOf j % 2 ^ Rg.RF_NOTCH.CENTRE.w ∧
      t.get (rfBase p) Rg.RF_JAM.JI = jamIndex (specPower bins) (s.getS (rfBase p) Rg.RF_JAM_BASE.P0) (specFlat bins) (s.get (rfBase p) Rg.RF_JAM_BASE.SFM0) ∧
      Frame [wRf] s t { s with cells := t.cells, gnss := t.gnss, toggles := t.toggles }) ∧
  (∀ (p current : Nat) (s : State),
    s.feeding p = true ∧ (s.rfPort p).retry = none ∧ s.get (rfBase p) Rg.RF_BIAS.STATE ≠ 3 →
    s.get (rfBase p) Rg.RF_BIAS.SHORT_MA * 4 < min current 1023 →
    ∃ t, exec (.biasSample p current) s = .next t ∧
      t.get (rfBase p) Rg.RF_BIAS.STATE = 3 ∧ t.get (rfBase p) Rg.RF_EVT.BIAS_SHORT = 1 ∧ t.get (rfBase p) Rg.RF_BIAS.CURRENT = min current 1023 ∧
      (p < s.gnss.ports.length → (t.rfPort p).bias = 2 ∧ (t.rfPort p).short = s.nowNs) ∧
      Frame [wRf, wRc, wTiles] s t { s with cells := t.cells, gnss := t.gnss, log := t.log, toggles := t.toggles }) ∧
  (∀ (p : Nat) (s : State),
    s.feeding p = true ∧ s.get (rfBase p) Rg.RF_BIAS.STATE = 3 ∧ (s.rfPort p).retry = none ∧ p < s.gnss.ports.length →
    (s.rfPort p).short + max 1 (s.get (rfBase p) Rg.RF_BIAS.RETRY_S) * 1000000000 ≤ s.nowNs →
    ∃ t, exec (.biasRetry p) s = .next t ∧
      (t.rfPort p).retry = some (10, true) ∧ (t.rfPort p).bias = 1 ∧
      Frame [] s t { s with gnss := t.gnss })

/-- Search contexts and tracking channels (R206, R208, R211, R212, R213, R214, R215, R216, R217). -/
def Obligations.SearchesAndChannelsRun : Prop :=
  (∀ (m : Master) (q : Nat) (s : State),
    q < 32 ∧ mayWriteService s m = true ∧ s.chanOn .acq q = true →
    s.chainOff m = false ∧ s.flag (aqBase q) Rg.AQ_CTRL.BUSY = false ∧ s.acqRefusal q = 0 →
    ∃ t, exec (.acqGo m q) s = .next t ∧
      t.get (aqBase q) Rg.AQ_CTRL.BUSY = 1 ∧ t.get (aqBase q) Rg.AQ_CTRL.RESULT = 0 ∧
      Frame [wTile (aqPos q)] s t { s with cells := t.cells, toggles := t.toggles, resp := ⟨.ok, 0⟩ }) ∧
  (∀ (m : Master) (q : Nat) (s : State),
    q < 32 ∧ mayWriteService s m = true ∧ s.chanOn .acq q = true →
    s.flag (aqBase q) Rg.AQ_CTRL.BUSY = true →
    ∃ t, exec (.acqAbort m q) s = .next t ∧
      t.get (aqBase q) Rg.AQ_CTRL.BUSY = 0 ∧ t.get (aqBase q) Rg.AQ_CTRL.RESULT = 3 ∧ t.get (aqBase q) Rg.AQ_CTRL.DONE = 1 ∧
      Frame [wTile (aqPos q)] s t { s with cells := t.cells, toggles := t.toggles, resp := ⟨.ok, 0⟩ }) ∧
  (∀ (q bin code pow far n cn0 arrive : Nat) (capture : List Byte) (cells : AcqCells) (s : State),
    q < 32 ∧ s.chanOn .acq q = true ∧ s.flag (aqBase q) Rg.AQ_CTRL.BUSY = true ∧ s.flag (aqBase q) Rg.AQ_REQ.AUTO_CH = false →
    cellTop cells (2 * s.acqBins q + 1) = (bin, code, pow) ∧ cellRest cells (2 * s.acqBins q + 1) code = (far, n) →
    pow ≠ 0 ∧ 10 ^ s.get (aqBase q) Rg.AQ_DOP.THR * far ^ 100 ≤ (pow * n) ^ 100 →
    ∃ t, exec (.acqDone q capture cells cn0 arrive) s = .next t ∧
      t.get (aqBase q) Rg.AQ_CTRL.BUSY = 0 ∧ t.get (aqBase q) Rg.AQ_CTRL.RESULT = 1 ∧ t.get (aqBase q) Rg.AQ_CTRL.DONE = 1 ∧
      t.get (aqBase q) Rg.AQ_RES.CODE = ((8 * (code : Int) + parabola 85 (cellAt cells bin (((code : Int) - 1) % 16384).toNat) pow (cellAt cells bin ((code + 1) % 16384))) % 131072).toNat % 2 ^ Rg.AQ_RES.CODE.w ∧
      t.get (aqBase q) Rg.AQ_RES2.CN0 = cn0 % 2 ^ Rg.AQ_RES2.CN0.w ∧ t.gnss = s.gnss ∧ t.time = s.time ∧ t.links = s.links ∧ t.resp = s.resp ∧ t.pending = s.pending ∧
      BytesKeptBut (s.acqSlice q).1 (s.acqNc q * 16384) s t ∧ RegsKept [wTile (aqPos q), wDdr, wRc, wHl] s t) ∧
  (∀ (m : Master) (c : Nat) (s : State),
    c < 512 ∧ mayWriteService s m = true ∧ s.chanOn .cor c = true →
    s.flag (chBase c) Rg.CH_CTRL.EN = false ∧ s.chainOff m = false ∧ s.chRefusal c = 0 ∧ (s.trk c).aid = none ∧ s.handover c = false →
    ∃ t, exec (.chEnable m c) s = .next t ∧
      t.get (chBase c) Rg.CH_CTRL.EN = 1 ∧ t.get (chBase c) Rg.CH_STAT.REFUSE = 0 ∧ t.chState c = s.chState c ∧
      Frame [wTile (chPos c)] s t { s with cells := t.cells, resp := ⟨.ok, 0⟩ }) ∧
  (∀ (m : Master) (c code dop a : Nat) (s : State),
    c < 512 ∧ mayWriteService s m = true ∧ s.chanOn .cor c = true →
    s.flag (chBase c) Rg.CH_CTRL.EN = false ∧ s.chainOff m = false ∧ s.chRefusal c = 0 ∧ (s.trk c).aid = some (code, dop, a) →
    ∃ t, exec (.chEnable m c) s = .next t ∧
      t.get (chBase c) Rg.CH_CTRL.EN = 1 ∧ t.get (chBase c) Rg.CH_STAT.REFUSE = 0 ∧ t.chState c = 1 ∧ t.get (chBase c) Rg.CH_STAT.AMBIG = 1 ∧ t.get (chBase c) Rg.CH_STAT.HALF_CYCLE = 1 ∧ (t.trk c).since = s.nowNs ∧
      Frame [wTile (chPos c)] s t { s with cells := t.cells, gnss := t.gnss, resp := ⟨.ok, 0⟩ }) ∧
  (∀ (m : Master) (c : Nat) (s : State),
    c < 512 ∧ mayWriteService s m = true ∧ s.chanOn .cor c = true →
    ∃ t, exec (.chDisable m c) s = .next t ∧
      t.get (chBase c) Rg.CH_CTRL.EN = 0 ∧ t.chState c = 0 ∧ (t.trk c).aid = none ∧
      Frame [wTile (chPos c)] s t { s with cells := t.cells, gnss := t.gnss, resp := ⟨.ok, 0⟩ }) ∧
  (∀ (m : Master) (c at_ : Nat) (s : State),
    c < 512 ∧ mayWriteService s m = true ∧ s.chanOn .cor c = true →
    (s.chState c = 0 ∨ s.chState c = 5) ∧ s.flag (chBase c) Rg.CH_CTRL.EN = true ∧ s.chainOff m = false →
    ∃ t, exec (.chAidSubmit m c at_) s = .next t ∧
      t.chState c = 1 ∧ t.get (chBase c) Rg.CH_STAT.AMBIG = 1 ∧ t.get (chBase c) Rg.CH_AID_AT.AT = at_ % 2 ^ 64 ∧ (t.trk c).aid = some (s.get (chBase c) Rg.CH_AID.CODE, s.get (chBase c) Rg.CH_AID.DOP, at_) ∧
      Frame [wTile (chPos c)] s t { s with cells := t.cells, gnss := t.gnss, resp := ⟨.ok, 0⟩ }) ∧
  (∀ (c pli cn0 freqErr : Nat) (dcode ddop : Int) (s : State),
    c < 512 ∧ s.chanOn .cor c = true ∧ s.chState c = 1 ∧ freqErr < 5000 ∧ 204 ≤ pli ∧ (s.trk c).win = none →
    ∃ t, exec (.chTrackLock c pli cn0 freqErr dcode ddop) s = .next t ∧
      t.chState c = 2 ∧ t.get (chBase c) Rg.CH_STAT.CN0 = cn0 % 2 ^ Rg.CH_STAT.CN0.w ∧ (t.trk c).lockAt = s.nowNs ∧
      Frame [wTile (chPos c)] s t { s with cells := t.cells, gnss := t.gnss }) ∧
  (∀ (c pli cn0 freqErr wc wd : Nat) (dcode ddop : Int) (s : State),
    c < 512 ∧ s.chanOn .cor c = true ∧ s.chState c = 4 ∧ (s.trk c).win = some (wc, wd) ∧ dcode.natAbs ≤ wc ∧ ddop.natAbs ≤ wd ∧ s.nowNs ≤ s.reacqEnd c →
    ∃ t, exec (.chTrackLock c pli cn0 freqErr dcode ddop) s = .next t ∧
      t.chState c = 2 ∧ (t.trk c).lockAt = s.nowNs ∧ (t.trk c).slip = true ∧ t.get (chBase c) Rg.CH_EVT.SLIP = 1 ∧
      Frame [wTile (chPos c)] s t { s with cells := t.cells, gnss := t.gnss, toggles := t.toggles }) ∧
  (∀ (c cn0 : Nat) (s : State),
    c < 512 ∧ s.chanOn .cor c = true ∧ s.chState c = 1 ∧ (s.cn0Low c cn0 = true ∨ (s.trk c).since + 1000000000 ≤ s.nowNs) →
    ∃ t, exec (.chPullinFail c cn0) s = .next t ∧
      t.chState c = 5 ∧ t.get (chBase c) Rg.CH_EVT.LOST = 1 ∧
      Frame [wTile (chPos c)] s t { s with cells := t.cells, toggles := t.toggles }) ∧
  (∀ (c : Nat) (polarity : Bool) (s : State),
    c < 512 ∧ s.chanOn .cor c = true ∧ (s.chState c = 2 ∨ s.chState c = 3) →
    ∃ t, exec (.chSync c true true polarity) s = .next t ∧
      (t.chState c = 3 ∧ t.get (chBase c) Rg.CH_STAT.AMBIG = 0 ∧ t.get (chBase c) Rg.CH_STAT.HALF_CYCLE = (if polarity then 0 else s.get (chBase c) Rg.CH_STAT.HALF_CYCLE)) ∧
      Frame [wTile (chPos c)] s t { s with cells := t.cells }) ∧
  (∀ (c pli cn0 : Nat) (s : State),
    c < 512 ∧ s.chanOn .cor c = true ∧ (s.chState c = 2 ∨ s.chState c = 3) ∧ (2 * pli < 255 ∨ s.cn0Low c cn0 = true) →
    ∃ t, exec (.chLockLoss c pli cn0) s = .next t ∧
      t.chState c = 4 ∧ (t.trk c).since = s.nowNs ∧ (t.trk c).win = some (131072, 25000) ∧ (t.trk c).aid = (s.trk c).aid ∧ t.get (chBase c) Rg.CH_STAT.CN0 = cn0 % 2 ^ Rg.CH_STAT.CN0.w ∧
      Frame [wTile (chPos c)] s t { s with cells := t.cells, gnss := t.gnss }) ∧
  (∀ (c : Nat) (s : State),
    c < 512 ∧ s.chanOn .cor c = true ∧ s.chState c = 4 ∧ s.reacqEnd c ≤ s.nowNs →
    ∃ t, exec (.chReacqTimeout c) s = .next t ∧
      t.chState c = 5 ∧ t.get (chBase c) Rg.CH_EVT.LOST = 1 ∧
      Frame [wTile (chPos c)] s t { s with cells := t.cells, toggles := t.toggles }) ∧
  (∀ (inst e : Nat) (g : Grid) (x : ChMeas) (s : State),
    inst < 16 ∧ s.gnss.grids[inst]? = some g ∧ g.nxt = some e ∧ e ≤ s.nowNs ∧ s.instanced (chPos (inst * 32)) = true →
    ∀ k ∈ List.range 32, k = x.lane ∨ s.chState (inst * 32 + k) ≠ 2 ∧ s.chState (inst * 32 + k) ≠ 3 →
    x.lane < 32 ∧ s.chanOn .cor (inst * 32 + x.lane) = true ∧ s.chState (inst * 32 + x.lane) = 3 →
    ∃ t, exec (.measEpoch inst [x] []) s = .next t ∧
      t.gnss.grids[inst]? = some { g with nxt := some (e + epochStep g.period) } ∧ (t.trk (inst * 32 + x.lane)).slip = false ∧ (t.trk (inst * 32 + x.lane)).meas = some (e, x.tx, sgn 32 x.dop) ∧
      t.get (chBase (inst * 32 + x.lane)) Rg.CH_STAT.CN0 = x.cn0 % 2 ^ Rg.CH_STAT.CN0.w ∧
      Frame [wTile (chPos (inst * 32 + x.lane))] s t { s with cells := t.cells, gnss := t.gnss, links := t.links, outq := t.outq })

/-- Measurement, navigation, forwarded and lookup items, the end of an epoch, and its encoding (R225, R226, R227, R228, R229, R245, R252). -/
def Obligations.ObservablesAreCollected : Prop :=
  (∀ (inst src : Nat) (q : QPkt) (c d : ObsCtx) (v u : State) (s : State),
    s.item (obPos inst) 0x20 = some (src, q) ∧ s.obOn inst = true ∧ inst < s.obs.length →
    (s.taken (obPos inst) 0x20).outsDrain inst = v ∧ v.lanesAt (obPos inst) ≤ 128 ∧ inst < v.obs.length →
    (v.ob inst).onGrid (q.data.getD 1 0) = true ∧ (v.ob inst).closed < q.data.getD 1 0 ∧ (v.ob inst).open_ = some (q.data.getD 1 0) →
    v.ctxFor inst (itemSig (q.data.headD 0)) (itemSvid (q.data.headD 0)) = none ∧ v.newCtx inst (itemSig (q.data.headD 0)) (itemSvid (q.data.headD 0)) = some (u, c) →
    v.chAnt (itemChan (q.data.headD 0)) = 0 ∧ d ∈ (v.ob inst).ctxs ∧ d.b.prev = true ∧ d.b.item = [] →
    ∃ t, exec (.measItem inst) s = .next t ∧
      (∃ x ∈ (t.ob inst).ctxs, x.idx = c.idx ∧ x.a.item = q.data) ∧
      t.get (ctxBase inst c.idx) Rg.OB_CTX.VALID = 1 ∧ t.get (ctxBase inst c.idx) Rg.OB_CTX.SVID = itemSvid (q.data.headD 0) ∧ t.get (ctxBase inst c.idx) Rg.OB_CTX.CH_A = itemChan (q.data.headD 0) ∧
      Frame [wTile (obPos inst)] v t { v with cells := t.cells, obs := t.obs }) ∧
  (∀ (inst src az : Nat) (el : Int) (q : QPkt) (c : ObsCtx) (g : Signal) (s : State),
    s.item (obPos inst) 0x21 = some (src, q) ∧ s.obOn inst = true ∧ inst < s.obs.length ∧ signals[itemSig (q.data.headD 0)]? = some g →
    ∀ d ∈ (s.ob inst).ctxs, d.idx < 128 →
    c ∈ (s.ob inst).ctxs ∧ s.get (ctxBase inst c.idx) Rg.OB_CTX.SVID = itemSvid (q.data.headD 0) →
    signals[s.get (ctxBase inst c.idx) Rg.OB_CTX.SIGNAL]?.map Signal.sys = some g.sys →
    ∃ t, exec (.navItem inst (some (az, el))) s = .next t ∧
      t.get (ctxBase inst c.idx) Rg.OB_CTX.AZ = az % 36000 ∧ t.get (ctxBase inst c.idx) Rg.OB_CTX.EL = pat 16 el ∧ (t.ob inst).dir g.sys (itemSvid (q.data.headD 0)) = some ⟨g.sys, itemSvid (q.data.headD 0), az, el⟩ ∧
      Frame [wTile (obPos inst)] (s.taken (obPos inst) 0x21) t { s.taken (obPos inst) 0x21 with cells := t.cells, obs := t.obs }) ∧
  (∀ (inst src : Nat) (q : QPkt) (s : State),
    s.item (obPos inst) 0x22 = some (src, q) ∧ s.obOn inst = true ∧ inst < s.obs.length ∧ s.isEnc inst = true →
    ((s.ob inst).ready = some (wordsRec q.data).epoch ∨ (s.ob inst).closed < (wordsRec q.data).epoch) ∧ bitOf 7 (s.pcvByte inst (wordsRec q.data)) = false →
    ∃ t, exec (.obsForwardItem inst) s = .next t ∧
      (t.ob inst).recs = (s.ob inst).recs ++ [wordsRec q.data] ∧
      Frame [] (s.taken (obPos inst) 0x22) t { s.taken (obPos inst) 0x22 with obs := t.obs }) ∧
  (∀ (inst ep : Nat) (s : State),
    (s.ob inst).nextEpoch = some ep ∧ s.obOn inst = true ∧ inst < s.obs.length ∧ ep + s.closeUs inst * 1000 ≤ s.nowNs ∧ s.isEnc inst = true →
    ∃ t, exec (.epochCloseTimeout inst) s = .next t ∧
      (t.ob inst).open_ = none ∧ (t.ob inst).closed = ep ∧ (t.ob inst).ready = some ep ∧ (t.ob inst).sidc = (s.ob inst).sidcNext ∧ (t.ob inst).restart = false ∧
      t.time = s.time ∧ t.gnss = s.gnss ∧ t.loops = s.loops ∧ t.pending = s.pending) ∧
  (∀ (inst src : Nat) (q : QPkt) (l : PcvLook) (s : State),
    s.item (obPos inst) 0x11 = some (src, q) ∧ s.obOn inst = true ∧ inst < s.obs.length ∧ bitOf 48 (q.data.headD 0) = false →
    (s.ob inst).looks.find? (fun k => k.tag == bits 32 16 (q.data.headD 0) && k.reply == none) = some l →
    ∃ t, exec (.lookupReply inst) s = .next t ∧
      ((t.ob inst).recs = (s.ob inst).recs.map (fun r => if r.epoch == l.epoch && recTag r == l.tag then { r with rng := r.rng - sgn 32 (bits 0 32 (q.data.headD 0)), phr := r.phr - sgn 32 (bits 0 32 (q.data.headD 0)) } else r)) ∧
      ((t.ob inst).looks = (s.ob inst).looks.map (fun k => if k.epoch = l.epoch ∧ k.tag = l.tag then { k with reply := some (some (sgn 32 (bits 0 32 (q.data.headD 0)))) } else k)) ∧
      Frame [] (s.taken (obPos inst) 0x11) t { s.taken (obPos inst) 0x11 with obs := t.obs }) ∧
  (∀ (inst src : Nat) (q : QPkt) (l : PcvLook) (s : State),
    s.item (obPos inst) 0x11 = some (src, q) ∧ s.obOn inst = true ∧ inst < s.obs.length ∧ bitOf 48 (q.data.headD 0) = true →
    (s.ob inst).looks.find? (fun k => k.tag == bits 32 16 (q.data.headD 0) && k.reply == none) = some l →
    ∃ t, exec (.lookupReply inst) s = .next t ∧
      ((t.ob inst).recs = (s.ob inst).recs.map (fun r => if r.epoch == l.epoch && recTag r == l.tag then { r with excl := true } else r)) ∧
      Frame [wTile (obPos inst)] (s.taken (obPos inst) 0x11) t { s.taken (obPos inst) 0x11 with cells := t.cells, obs := t.obs }) ∧
  (∀ (inst ep : Nat) (sol x : EpochSol) (s : State),
    (s.ob inst).ready = some ep ∧ s.obOn inst = true ∧ inst < s.obs.length ∧ s.isEnc inst = true ∧ (s.ob inst).outs = [[], [], [], []] ∧ (s.ob inst).late = none →
    (s.ob inst).looks.all (fun l => l.epoch != ep || l.reply.isSome) = true →
    ∀ n ∈ List.range 4, s.get (outBase inst n) Rg.OB_OUT.STATUS ≠ 1 →
    x = s.solution inst ((s.ob inst).recs.filter (fun r => r.epoch == ep)) (((s.ob inst).recs.filter (fun r => r.epoch == ep)).map (s.sidereal inst)) sol →
    ∃ t, exec (.correctionEncode inst sol) s = .next t ∧
      (t.ob inst).ready = none ∧ (t.ob inst).seq = ((s.ob inst).seq + 1) % 256 ∧ t.get (obBase inst) Rg.OB_TSOL.OFFSET = x.offset % 2 ^ Rg.OB_TSOL.OFFSET.w ∧ t.get (obBase inst) Rg.OB_TSOL_AT.AT = ep % 2 ^ 64 ∧
      t.get (obBase inst) Rg.OB_TSOL.VALID = b2n (decide (4 ≤ x.nsat ∧ x.pdop ≤ 600)) ∧ t.get (obBase inst) Rg.OB_LAT.LAST = min (rnd 91 ((s.nowNs - ep : Nat) : Int) 1000).toNat 0xFFFF ∧
      Frame [wTiles, wRc] s t { s with cells := t.cells, obs := t.obs, toggles := t.toggles, log := t.log })

/-- Survey, written positions, the baseline, the sidereal vector and the outputs of the encoder (R224, R230, R232, R233, R234, R235, R236, R249). -/
def Obligations.SurveyAndPositionRun : Prop :=
  (∀ (m : Master) (inst : Nat) (s : State),
    inst < 2 ∧ inst < s.obs.length ∧ mayWriteService s m = true ∧ s.on .fa = true ∧ s.isEnc inst = true ∧ s.get (obBase inst) Rg.OB_SV.MODE = 0 →
    ∃ t, exec (.surveyStart m inst) s = .next t ∧
      t.get (obBase inst) Rg.OB_SV_STAT.STATE = 1 ∧ t.get (obBase inst) Rg.OB_SV_STAT.ELAPSED = 0 ∧ t.get (obBase inst) Rg.OB_SV_STAT.EPOCHS = 0 ∧ (t.ob inst).survey = VecSum.zero ∧ t.cause inst cPos = true ∧
      Frame [wTile (obPos inst), wRc] s t { s with cells := t.cells, obs := t.obs, toggles := t.toggles, log := t.log, resp := ⟨.ok, 0⟩ }) ∧
  (∀ (inst : Nat) (s : State),
    s.obOn inst = true ∧ inst < s.obs.length ∧ s.isEnc inst = true ∧ s.get (obBase inst) Rg.OB_SV_STAT.STATE = 1 →
    1 ≤ (s.ob inst).survey.n ∧ (s.ob inst).survey.accurate (s.get (obBase inst) Rg.OB_SV.ACC) = true ∧ s.surveyDur inst ≤ s.get (obBase inst) Rg.OB_SV_STAT.ELAPSED →
    ∃ t, exec (.surveyComplete inst) s = .next t ∧
      t.get (obBase inst) Rg.OB_SV_STAT.STATE = 3 ∧ (t.ob inst).fixed = some (s.ob inst).survey.mean ∧ (t.ob inst).triple = (s.ob inst).survey.mean ∧ t.get (obBase inst) Rg.OB_POS_UNC.SOURCE = 1 ∧ t.get (obBase inst) Rg.OB_EVT.SURVEY_DONE = 1 ∧ t.cause inst cPos = false ∧
      t.posRegs inst = (sgn 64 (pat 64 (s.ob inst).survey.mean.1), sgn 64 (pat 64 (s.ob inst).survey.mean.2.1), sgn 64 (pat 64 (s.ob inst).survey.mean.2.2)) ∧
      Frame [wTile (obPos inst), wRc] s t { s with cells := t.cells, obs := t.obs, toggles := t.toggles, log := t.log }) ∧
  (∀ (inst : Nat) (s : State),
    s.obOn inst = true ∧ inst < s.obs.length ∧ s.get (obBase inst) Rg.OB_SV_STAT.STATE = 2 ∧ (s.ob inst).checkAt + 60000000000 ≤ s.nowNs ∧ s.checkPass inst = true →
    ∃ t, exec (.positionCheckDone inst) s = .next t ∧
      t.get (obBase inst) Rg.OB_SV_STAT.STATE = 3 ∧ (t.ob inst).fixed = some (s.ob inst).triple ∧ t.get (obBase inst) Rg.OB_POS_UNC.SOURCE = s.checkSource inst ∧
      Frame [wTile (obPos inst), wRc] s t { s with cells := t.cells, obs := t.obs, toggles := t.toggles, log := t.log }) ∧
  (∀ (m : Master) (inst v : Nat) (s : State),
    inst < 2 ∧ mayWriteService s m = true ∧ s.on .fa = true ∧ s.isEnc inst = true ∧ s.get (obBase inst) Rg.OB_SV_STAT.STATE ≠ 3 →
    ∃ t, exec (.poszWrite m inst v) s = .next t ∧
      t.get (obBase inst) Rg.OB_POSZ.MM = v % 2 ^ 64 ∧
      Frame [wTile (obPos inst)] s t { s with cells := t.cells, resp := ⟨.ok, 0⟩ }) ∧
  (∀ (m : Master) (inst v : Nat) (p : Int × Int × Int) (s : State),
    inst < 2 ∧ inst < s.obs.length ∧ mayWriteService s m = true ∧ s.on .fa = true ∧ s.isEnc inst = true ∧ s.get (obBase inst) Rg.OB_SV_STAT.STATE = 3 →
    p = (s.getS (obBase inst) Rg.OB_POSX.MM, s.getS (obBase inst) Rg.OB_POSY.MM, sgn 64 (v % 2 ^ 64)) →
    6355000000 * 6355000000 ≤ (p.1 * p.1 + p.2.1 * p.2.1 + p.2.2 * p.2.2).toNat ∧ (p.1 * p.1 + p.2.1 * p.2.1 + p.2.2 * p.2.2).toNat ≤ 6390000000 * 6390000000 →
    ∃ t, exec (.poszWrite m inst v) s = .next t ∧
      t.get (obBase inst) Rg.OB_SV_STAT.STATE = 2 ∧ (t.ob inst).triple = p ∧ (t.ob inst).checkAt = s.nowNs ∧ (t.ob inst).fixed = (s.ob inst).fixed ∧ t.cause inst cPos = true ∧
      Frame [wTile (obPos inst), wRc] s t { s with cells := t.cells, obs := t.obs, toggles := t.toggles, log := t.log, resp := ⟨.ok, 0⟩ }) ∧
  (∀ (m : Master) (inst v : Nat) (s : State),
    inst < 2 ∧ mayWriteService s m = true ∧ s.on .fa = true ∧ s.isEnc inst = true →
    (sgn 21 (bits 0 21 v)).natAbs ≤ 1000000 ∧ (sgn 21 (bits 21 21 v)).natAbs ≤ 1000000 ∧ (sgn 21 (bits 42 21 v)).natAbs ≤ 1000000 →
    40000 ≤ sgn 21 (bits 0 21 v) * sgn 21 (bits 0 21 v) + sgn 21 (bits 21 21 v) * sgn 21 (bits 21 21 v) + sgn 21 (bits 42 21 v) * sgn 21 (bits 42 21 v) →
    ∃ t, exec (.baseWrite m inst v) s = .next t ∧
      t.get (obBase inst) Rg.OB_BASE.E = v % 2 ^ 21 ∧ t.get (obBase inst) Rg.OB_BASE.N = v / 2 ^ 21 % 2 ^ 21 ∧ t.get (obBase inst) Rg.OB_BASE.U = v / 2 ^ 42 % 2 ^ 21 ∧ t.get (obBase inst) Rg.OB_SV_STAT.BASE_STATE = 2 ∧
      Frame [wTile (obPos inst), wRc] s t { s with cells := t.cells, toggles := t.toggles, log := t.log, resp := ⟨.ok, 0⟩ }) ∧
  (∀ (inst : Nat) (s : State),
    s.obOn inst = true ∧ s.get (obBase inst) Rg.OB_SV_STAT.BASE_STATE = 1 ∧ 300000000000 ≤ (s.ob inst).base.n * epochStep (s.ob inst).grid.period →
    ∃ t, exec (.baselineAvgDone inst) s = .next t ∧
      t.get (obBase inst) Rg.OB_BASE.E = pat 21 (s.ob inst).base.mean.1 ∧ t.get (obBase inst) Rg.OB_BASE.U = pat 21 (s.ob inst).base.mean.2.2 ∧ t.get (obBase inst) Rg.OB_SV_STAT.BASE_STATE = 2 ∧
      Frame [wTile (obPos inst), wRc] s t { s with cells := t.cells, toggles := t.toggles, log := t.log }) ∧
  (∀ (m : Master) (inst v : Nat) (s : State),
    inst < 2 ∧ inst < s.obs.length ∧ mayWriteService s m = true ∧ s.on .fa = true ∧ s.isEnc inst = true →
    ∃ t, exec (.sidcCommit m inst v) s = .next t ∧
      t.get (obBase inst) Rg.OB_SIDC_U.U = v % 2 ^ 32 ∧ t.get (obBase inst) Rg.OB_SIDC_U.EN = v / 2 ^ 32 % 2 ∧ (t.ob inst).sidcNext = (s.getS (obBase inst) Rg.OB_SIDC.E, s.getS (obBase inst) Rg.OB_SIDC.N, sgn 32 (v % 2 ^ 32)) ∧ (t.ob inst).sidc = (s.ob inst).sidc ∧
      Frame [wTile (obPos inst)] s t { s with cells := t.cells, obs := t.obs, resp := ⟨.ok, 0⟩ }) ∧
  (∀ (m : Master) (inst n : Nat) (s : State),
    inst < 2 ∧ n < 4 ∧ mayWriteService s m = true ∧ s.on .fa = true ∧ s.isEnc inst = true →
    ∃ t, exec (.outEnable m inst n) s = .next t ∧
      (t.get (outBase inst n) Rg.OB_OUT.EN = (if s.outOk inst n then 1 else 0) ∧ t.get (outBase inst n) Rg.OB_OUT.STATUS = (if s.outOk inst n then 1 else 2)) ∧
      Frame [wTile (obPos inst)] s t { s with cells := t.cells, resp := ⟨.ok, 0⟩ })

/-- A cleared latch, an unmonitored encoder and the limits of HOLDOVER (R238, R239, R240, R241). -/
def Obligations.IntegrityFollowsItsCauses : Prop :=
  (∀ (m : Master) (inst : Nat) (s : State),
    inst < 2 ∧ mayWriteService s m = true ∧ s.on .fa = true ∧ s.isEnc inst = true ∧ s.cause inst cLatched = true →
    ∃ t, exec (.intClear m inst) s = .next t ∧
      t.cause inst cWh = false ∧ t.cause inst cLatched = false ∧ t.get (obBase inst) Rg.OB_INT_STAT.STATE = t.intState inst ∧
      Frame [wTile (obPos inst), wRc] s t { s with cells := t.cells, toggles := t.toggles, log := t.log, resp := ⟨.ok, 0⟩ }) ∧
  (∀ (inst : Nat) (s : State),
    s.obOn inst = true ∧ s.isEnc inst = true ∧ s.get (obBase inst) Rg.OB_INT2.UNMON_S ≠ 0 →
    (s.ob inst).monAt + s.get (obBase inst) Rg.OB_INT2.UNMON_S * 1000000000 ≤ s.nowNs →
    ∃ t, exec (.unmonTimeout inst) s = .next t ∧
      t.cause inst cUnmon = true ∧ t.get (obBase inst) Rg.OB_INT_STAT.STATE = t.intState inst ∧
      Frame [wTile (obPos inst), wRc] s t { s with cells := t.cells, toggles := t.toggles, log := t.log }) ∧
  (∀ (inst : Nat) (s : State),
    s.obOn inst = true ∧ s.isEnc inst = true ∧ s.mode = .holdover ∧ max 1 (s.get (obBase inst) Rg.OB_HO.TERR_MAX) * 100 < s.terr →
    ∃ t, exec (.holdoverTimeLimit inst) s = .next t ∧
      t.cause inst cTime = true ∧ t.get (obBase inst) Rg.OB_INT_STAT.STATE = t.intState inst ∧
      Frame [wTile (obPos inst), wRc] s t { s with cells := t.cells, toggles := t.toggles, log := t.log })

/-- Enabling a filter lane, its input, supervision, bank swaps and thresholds (R255, R258, R259, R263, R271, R275, R276, R277, R279, R283). -/
def Obligations.FilterLanesAreControlled : Prop :=
  (∀ (m : Master) (c : Nat) (s : State),
    c < 64 ∧ mayWriteService s m = true ∧ s.chanOn .filt c = true ∧ s.flag (flBase c) Rg.FL_CTRL.EN = false ∧ s.flRefusal c = 0 →
    ∃ t, exec (.filtEnable m c) s = .next t ∧
      t.get (flBase c) Rg.FL_CTRL.EN = 1 ∧ t.get (flBase c) Rg.FL_STAT.RUN = 1 ∧ t.get (flBase c) Rg.FL_STAT.REFUSE = 0 ∧ t.get (flBase c) Rg.FL_CIC.NORM = cicNorm (s.flR c) % 2 ^ Rg.FL_CIC.NORM.w ∧
      t.get (flBase c) Rg.FL_STAT.FINE_UNSET = 1 ∧ t.get (flBase c) Rg.FL_STAT.FAST_UNSET = 1 ∧ (t.fl c).src = s.get (flBase c) Rg.FL_CTRL.SRC ∧
      Frame [wTile (flPos c), wWv] s t { s with cells := t.cells, waves := t.waves, resp := ⟨.ok, 0⟩ }) ∧
  (∀ (c : Nat) (s : State),
    c < 64 ∧ s.flEn c = true ∧ s.srcWaits c = true ∧ s.toGrid c = 0 →
    ∃ t, exec (.filtSrcChange c) s = .next t ∧
      (t.fl c).src = s.get (flBase c) Rg.FL_CTRL.SRC ∧ t.get (flBase c) Rg.FL_STAT.FINE_UNSET = 1 ∧ t.get (flBase c) Rg.FL_STAT.FAST_UNSET = 1 ∧ (t.fl c).ev = (s.fl c).next ∧ (t.fl c).org = (s.fl c).org ∧ (t.fl c).fine.org = (s.fl c).fine.org ∧
      Frame [wTile (flPos c)] s t { s with cells := t.cells, waves := t.waves }) ∧
  (∀ (n x st : Nat) (o : WvObs) (s : State),
    n < 64 ∧ s.sdOn n = true ∧ s.clkOn (n / 8) = true ∧ o.ones = some x →
    wvState o (bitOf (n / 8) (s.get bWv Rg.WV_MCLK_STAT.CONTEND)) = some st →
    ∃ t, exec (.wvInputState n o) s = .next t ∧
      t.get (bWv + n * 0x10) Rg.WV_IN_STAT.STATE = st ∧ t.get (bWv + n * 0x10) Rg.WV_IN_STAT.DENSITY = min (rnd 35 x 16).toNat 255 ∧
      Frame [wWv, wTiles] s t { s with cells := t.cells, waves := t.waves, toggles := t.toggles }) ∧
  (∀ (k wrong : Nat) (s : State),
    k < 8 ∧ s.clkOn k = true ∧ 64 ≤ wrong →
    ∃ t, exec (.mclkContend k wrong) s = .next t ∧
      bitOf k (t.get bWv Rg.WV_MCLK_STAT.CONTEND) = true ∧
      Frame [wWv, wTiles] s t { s with cells := t.cells, waves := t.waves, toggles := t.toggles }) ∧
  (∀ (m : Master) (c fade : Nat) (s : State),
    c < 64 ∧ mayWriteService s m = true ∧ s.chanOn .filt c = true ∧ s.flag (flBase c) Rg.FL_CTRL.EN = true ∧ (s.fl c).fade = none →
    ∃ t, exec (.filtSwap m c fade) s = .next t ∧
      (t.fl c).req = some (min fade 1024) ∧
      Frame [] s t { s with waves := t.waves, resp := ⟨.ok, 0⟩ }) ∧
  (∀ (c f : Nat) (s : State),
    c < 64 ∧ (s.fl c).due = none ∧ (s.fl c).req = some f ∧ s.flEn c = true ∧ (s.fl c).fade = none ∧ s.bankOk c (1 - s.flActive c) = true →
    ∃ t, exec (.swapApply c) s = .next t ∧
      (t.flActive c = 1 - s.flActive c ∧ t.get (flBase c) Rg.FL_STAT.FADING = b2n (f != 0) ∧ (t.fl c).req = none ∧ (t.fl c).fade = (if f = 0 then none else some (0, f))) ∧
      Frame [wTile (flPos c)] s t { s with cells := t.cells, waves := t.waves }) ∧
  (∀ (c f : Nat) (s : State),
    c < 64 ∧ (s.fl c).due = some f ∧ (s.fl c).req = none ∧ s.flEn c = true ∧ (s.fl c).fade = none ∧ s.bankOk c (1 - s.flActive c) = true →
    ∃ t, exec (.swapApply c) s = .next t ∧
      (t.flActive c = 1 - s.flActive c ∧ t.get (flBase c) Rg.FL_STAT.FADING = b2n (f != 0) ∧ (t.fl c).due = none ∧ (t.fl c).fade = (if f = 0 then none else some (0, f))) ∧
      Frame [wTile (flPos c)] s t { s with cells := t.cells, waves := t.waves }) ∧
  (∀ (c n f : Nat) (s : State),
    c < 64 ∧ (s.fl c).fade = some (n, f) ∧ f ≤ n →
    ∃ t, exec (.fadeEnd c) s = .next t ∧
      (t.fl c).fade = none ∧ (t.fl c).req = (s.fl c).req ∧ (t.fl c).due = (s.fl c).queued ∧ (t.fl c).queued = none ∧ t.get (flBase c) Rg.FL_STAT.FADING = 0 ∧ t.get (flBase c) Rg.FL_STAT.QUEUED = 0 ∧
      Frame [wTile (flPos c)] s t { s with cells := t.cells, waves := t.waves }) ∧
  (∀ (c : Nat) (d : ThrEv) (rest : List ThrEv) (s : State),
    c < 64 ∧ (s.fl c).pend = d :: rest ∧ d.k < 2 →
    ∃ t, exec (.thresholdChange c) s = .next t ∧
      (bitOf d.k (t.get (flBase c) Rg.FL_STAT.THR_ACTIVE) = d.new ∧ t.get (flBase c) (if d.k = 0 then Rg.FL_EVT.THR0 else Rg.FL_EVT.THR1) = 1 ∧ (t.fl c).pend = rest) ∧
      Frame [wTile (flPos c)] s t { s with cells := t.cells, waves := t.waves, toggles := t.toggles, links := t.links })

/-- A word of a bit stream through the CIC, and fine and fast samples (R257, R261, R262, R264, R268, R269, R270, R275). -/
def Obligations.SamplesAreComputed : Prop :=
  (∀ (inst id k n p : Nat) (q : QPkt) (s : State),
    inst < 8 ∧ k < 8 ∧ s.rx.find? (fun x => (s.link x.1).any (fun l => l.rc.dst == flPos (inst * 8) && l.rc.src == 96 && l.rc.port == 0)) = some (id, q) →
    n = inst * 8 + pktLane q.lw % 8 ∧ s.waves.pos[n]? = some p ∧ n < s.waves.words.length ∧ (s.fl (inst * 8 + k)).next = p →
    s.flEn (inst * 8 + k) = true ∧ s.flInput (inst * 8 + k) = n ∧ s.srcWaits (inst * 8 + k) = false →
    ∃ t, exec (.bitstreamItem inst) s = .next t ∧
      t.fl (inst * 8 + k) = feedBits (s.flR (inst * 8 + k)) (q.data.headD 0) p (s.flag (flBase (inst * 8 + k)) Rg.FL_CFG.FAST_EN) 64 0 { s.fl (inst * 8 + k) with next := p + 64 } ∧
      t.waves.pos = listSet s.waves.pos n (p + 64) ∧ t.waves.words = listSet s.waves.words n (q.data.headD 0) ∧
      Frame [wTile (flPos (inst * 8))] s t { s with cells := t.cells, waves := t.waves, rx := s.rx.erase (id, q) }) ∧
  (∀ (c ed : Nat) (z : FineRun) (s : State),
    c < 64 ∧ s.flEn c = true ∧ fineTake (s.flR c) (s.flM c) (s.flH1 c) (s.flH2 c) (s.fl c).fine.q ⟨s.fl c, false, 0⟩ = some (z, ed) ∧ (s.fl c).fade = none →
    ∃ t, exec (.fineSample c) s = .next t ∧
      t.get (flBase c) Rg.FL_LAST.FINE = pat 32 (s.firOut c (s.flActive c) z.a.fir).1 ∧ (t.fl c).fine.q = z.a.fine.q ∧
      Frame [wTiles] s t { s with cells := t.cells, waves := t.waves, links := t.links, loops := t.loops, samples := t.samples, toggles := t.toggles }) ∧
  (∀ (c ed : Nat) (a : FiltLane) (sat : Bool) (s : State),
    c < 64 ∧ s.flEn c = true ∧ fastTake (s.flR c * s.flFastDec c) (s.fl c).fast.q (s.fl c) false = some (a, ed, sat) →
    ∃ t, exec (.fastSample c) s = .next t ∧
      t.get (flBase c) Rg.FL_LAST.FAST = pat 32 (fastOut a.fastH).1 ∧ (t.fl c).fast.q = a.fast.q ∧
      Frame [wTiles] s t { s with cells := t.cells, waves := t.waves, links := t.links, loops := t.loops, samples := t.samples, toggles := t.toggles })

/-- Phasor channels: enable, reporting estimates and fast estimates (R288, R289, R290, R291, R292, R296). -/
def Obligations.PhasorsAreEstimated : Prop :=
  (∀ (m : Master) (c : Nat) (s : State),
    c < 64 ∧ mayWriteService s m = true ∧ s.chanOn .phs c = true ∧ s.flag (phBase c) Rg.PH_CTRL.EN = false ∧ s.phRefusal c = 0 →
    ∃ t, exec (.phasorEnable m c) s = .next t ∧
      t.get (phBase c) Rg.PH_CTRL.EN = 1 ∧ t.get (phBase c) Rg.PH_STAT.RUN = 1 ∧ t.get (phBase c) Rg.PH_STAT.REFUSE = 0 ∧
      (t.ph c).nxt = s.gridAfter (s.phFs c) s.nowNs ∧ (t.ph c).fnxt = s.gridAfter (8 * s.phF0 c) s.nowNs ∧ (t.ph c).seq = 0 ∧
      Frame [wTile (phPos c)] s t { s with cells := t.cells, phs := t.phs, toggles := t.toggles, resp := ⟨.ok, 0⟩ }) ∧
  (∀ (c tk hw : Nat) (x : PhsSample) (l : List PhsSample) (u : State) (s : State),
    c < 64 ∧ s.phEn c = true ∧ u = (s.phAbsorb (phPos c)).phRate c ∧ u.phRateOk c = true ∧ (u.ph c).fine = x :: l →
    tk = (u.ph c).nxt ∧ hw = u.phHalf c ∧ max x.ts (u.ph c).since + hw ≤ tk →
    (u.phPhases c).all (fun p => covers (tk - hw) (tk + hw) (u.ph p).fine) = true →
    ∃ t, exec (.phasorEstimate c) s = .next t ∧
      (t.ph c).seq = ((u.ph c).seq + 1) % 2 ^ 32 ∧ (t.ph c).nxt = u.gridAfter (u.phFs c) tk ∧
      t.get (phBase c) Rg.PH_VAL.W = (u.phValues c tk false).1 % 2 ^ 64 ∧ t.get (phBase c) Rg.PH_FRQ.W = (u.phValues c tk false).2.1 % 2 ^ 64 ∧ t.get (phBase c) Rg.PH_STAT.IN_RATE_OK = 1 ∧
      Frame [wTile (phPos c)] u t { u with cells := t.cells, phs := t.phs, toggles := t.toggles, links := t.links }) ∧
  (∀ (c g : Nat) (x : PhsSample) (l : List PhsSample) (u : State) (s : State),
    c < 64 ∧ s.phEn c = true ∧ s.flag (phBase c) Rg.PH_CFG.FAST_EN = true ∧ u = (s.phAbsorb (phPos c)).phRate c ∧ u.phRateOk c = true →
    (u.ph c).path (u.flag (phBase c) Rg.PH_CFG.FAST_SRC) = x :: l ∧ g = (u.ph c).fnxt ∧ max x.ts (u.ph c).since + u.phCycle c ≤ g →
    (u.phPhases c).all (fun p => covers (g - u.phCycle c) g ((u.ph p).path (u.flag (phBase c) Rg.PH_CFG.FAST_SRC))) = true →
    ∃ t, exec (.fastEstimate c) s = .next t ∧
      (t.ph c).fseq = ((u.ph c).fseq + 1) % 2 ^ 32 ∧ (t.ph c).fnxt = u.gridAfter (8 * u.phF0 c) g ∧
      t.get (phBase c) Rg.PH_FVAL.FREQ = (u.phValues c g true).2.1 % 2 ^ 32 ∧ t.get (phBase c) Rg.PH_FVAL.MAG = (u.phValues c g true).1 % 2 ^ 32 ∧
      Frame [wTile (phPos c)] u t { u with cells := t.cells, phs := t.phs, toggles := t.toggles, links := t.links })

/-- Streams: enable, disable, frames received and estimates of local streams, and the end of the quarantine (R297, R300, R302, R303, R305, R306, R312, R313). -/
def Obligations.StreamsTakeFrames : Prop :=
  (∀ (m : Master) (st : Nat) (s : State),
    st < 4096 ∧ mayWriteService s m = true ∧ st % 512 < s.lanesAt (atPos (st / 512)) ∧ s.on (domOf (islandOf (atPos (st / 512)))) = true →
    s.flag (alBase st) Rg.AL_CFG.EN = false ∧ s.streamRefusal st = 0 →
    ∃ t, exec (.streamEnable m st) s = .next t ∧
      t.get (alBase st) Rg.AL_CFG.EN = 1 ∧ t.get (alBase st) Rg.AL_STAT.RUN = 1 ∧ t.get (alBase st) Rg.AL_STAT.QUAR = 1 ∧ t.get (alBase st) Rg.AL_STAT.REFUSE = 0 ∧
      t.align.streams = s.align.streams ++ [(⟨st, max (s.get (alBase st) Rg.AL_RECONF.AT) s.nowNs, max (s.get (alBase st) Rg.AL_RECONF.AT) s.nowNs + s.quarTime st, []⟩ : Stream)] ∧
      Frame [wTiles] s t { s with cells := t.cells, align := t.align, pkt := t.pkt, resp := ⟨.ok, 0⟩ }) ∧
  (∀ (m : Master) (st : Nat) (s : State),
    st < 4096 ∧ mayWriteService s m = true ∧ st % 512 < s.lanesAt (atPos (st / 512)) ∧ s.on (domOf (islandOf (atPos (st / 512)))) = true →
    s.flag (alBase st) Rg.AL_CFG.EN = true →
    ∃ t, exec (.streamDisable m st) s = .next t ∧
      t.get (alBase st) Rg.AL_CFG.EN = 0 ∧ t.get (alBase st) Rg.AL_STAT.RUN = 0 ∧ t.align.streams = s.align.streams.filter (fun y => y.st != st) ∧
      Frame [wTiles] s t { s with cells := t.cells, align := t.align, resp := ⟨.ok, 0⟩ }) ∧
  (∀ (inst src ts : Nat) (q : QPkt) (u : State) (z : Stream) (f : List Byte) (s : State),
    inst < 8 ∧ s.item (atPos inst) 0x52 = some (src, q) ∧ s.stream (inst * 512 + pktLane q.lw) = some z ∧ z.st = inst * 512 + pktLane q.lw →
    (s.taken (atPos inst) 0x52).memRead (s.slotAddr src (atPos inst) (bits 0 12 (q.data.headD 0))) (bits 12 14 (q.data.headD 0)) = (u, some f) →
    beVal ((f.drop 11).take 3) < u.get (alBase z.st) Rg.AL_PORT.TIME_BASE →
    ts = u.frameTime (beVal ((f.drop 6).take 4)) (beVal ((f.drop 11).take 3)) (u.get (alBase z.st) Rg.AL_PORT.TIME_BASE) ∧ z.reconf ≤ ts ∧ s.memberOf z.st = [] →
    ∃ t, exec (.streamFrame inst) s = .next t ∧
      t.get (alBase z.st) Rg.AL_CNT.RX = satAdd Rg.AL_CNT.RX.w (s.get (alBase z.st) Rg.AL_CNT.RX) 1 ∧ t.get (alBase z.st) Rg.AL_LAST.AT = ts % 2 ^ 64 ∧
      Frame [wTiles] u t { u with cells := t.cells }) ∧
  (∀ (inst src ts : Nat) (q : QPkt) (u : State) (z : Stream) (f : List Byte) (c : Conc) (m : Member) (b : Bucket) (s : State),
    inst < 8 ∧ s.item (atPos inst) 0x52 = some (src, q) ∧ s.stream (inst * 512 + pktLane q.lw) = some z ∧ z.st = inst * 512 + pktLane q.lw →
    (s.taken (atPos inst) 0x52).memRead (s.slotAddr src (atPos inst) (bits 0 12 (q.data.headD 0))) (bits 12 14 (q.data.headD 0)) = (u, some f) →
    beVal ((f.drop 11).take 3) < u.get (alBase z.st) Rg.AL_PORT.TIME_BASE →
    ts = u.frameTime (beVal ((f.drop 6).take 4)) (beVal ((f.drop 11).take 3)) (u.get (alBase z.st) Rg.AL_PORT.TIME_BASE) ∧ z.reconf ≤ ts →
    s.align.concs = [c] ∧ c.members.find? (fun x => x.st == z.st) = some m ∧ m.st = z.st ∧ s.matchFrame c z.st ts = .put b ∧ b ∈ c.buckets →
    ∃ t, exec (.streamFrame inst) s = .next t ∧
      (∃ d ∈ t.align.concs, d.n = c.n ∧ ∃ k ∈ d.buckets, k.tk = b.tk ∧ z.st ∈ k.present)) ∧
  (∀ (inst src tk : Nat) (q : QPkt) (y : Stream) (s : State),
    inst < 8 ∧ s.item (atPos inst) 0x50 = some (src, q) ∧ s.align.streams = [y] ∧ y.st / 512 = inst ∧ s.isLocal y.st = true →
    s.localChans y.st = [bits 0 6 (q.data.headD 0)] ∧ tk = q.data.getD 1 0 ∧ y.reconf ≤ tk ∧ s.memberOf y.st = [] →
    ∃ t, exec (.localEstimateItem inst) s = .next t ∧
      t.get (alBase y.st) Rg.AL_CNT.RX = satAdd Rg.AL_CNT.RX.w (s.get (alBase y.st) Rg.AL_CNT.RX) 1 ∧ t.get (alBase y.st) Rg.AL_LAST.AT = tk % 2 ^ 64 ∧
      Frame [wTiles] (s.taken (atPos inst) 0x50) t { s.taken (atPos inst) 0x50 with cells := t.cells, align := t.align }) ∧
  (∀ (st : Nat) (y : Stream) (s : State),
    st < 4096 ∧ s.stream st = some y ∧ y.quar ≤ s.nowNs →
    ∃ t, exec (.quarantineEnd st) s = .next t ∧
      t.get (alBase st) Rg.AL_STAT.QUAR = 0 ∧
      Frame [wTiles] s t { s with cells := t.cells })

/-- Concentrations: enable, disable, buckets opened, parts closed and collected, emission and slots (R306, R307, R308, R310, R311, R312). -/
def Obligations.ConcentrationsFillBuckets : Prop :=
  (∀ (m : Master) (inst n : Nat) (s : State),
    inst < 8 ∧ n < 16 ∧ mayWriteService s m = true ∧ s.instanced (atPos inst) = true ∧ s.on (domOf (islandOf (atPos inst))) = true →
    s.flag (acBase inst n) Rg.AC_CFG.EN = false ∧ s.concRefusal inst n (s.layout 0 (s.memberStreams n)) = 0 →
    ∃ t, exec (.concEnable m inst n) s = .next t ∧
      t.get (acBase inst n) Rg.AC_CFG.EN = 1 ∧ t.get (acBase inst n) Rg.AC_STAT.RUN = 1 ∧ t.get (acBase inst n) Rg.AC_STAT.HOME = 1 ∧ t.get (acBase inst n) Rg.AC_STAT.REFUSE = 0 ∧
      t.align.concs = s.align.concs ++ [(⟨n, inst, s.layout 0 (s.memberStreams n), s.firstBucket (s.get (acBase inst n) Rg.AC_CFG.RATE), [], [], 0⟩ : Conc)] ∧
      Frame [wTiles] s t { s with cells := t.cells, align := t.align, resp := ⟨.ok, 0⟩ }) ∧
  (∀ (m : Master) (inst n : Nat) (c : Conc) (s : State),
    inst < 8 ∧ n < 16 ∧ mayWriteService s m = true ∧ s.instanced (atPos inst) = true ∧ s.on (domOf (islandOf (atPos inst))) = true →
    s.conc n = some c ∧ c.home = inst →
    ∃ t, exec (.concDisable m inst n) s = .next t ∧
      t.get (acBase inst n) Rg.AC_CFG.EN = 0 ∧ t.get (acBase inst n) Rg.AC_STAT.RUN = 0 ∧ t.conc n = none ∧
      Frame [wTiles] s t { s with cells := t.cells, align := t.align, resp := ⟨.ok, 0⟩ }) ∧
  (∀ (n k : Nat) (c : Conc) (s : State),
    n < 16 ∧ s.conc n = some c ∧ c.home < 8 ∧ c.nxt ≤ s.nowNs + 100000000 →
    (List.range (s.slotCount c)).find? (fun j => !c.slots.any (fun p => p.1 == j)) = some k →
    ∃ t, exec (.bucketOpen n) s = .next t ∧
      t.conc n = some { c with nxt := s.gridAfter (s.get (acBase c.home n) Rg.AC_CFG.RATE) c.nxt, buckets := c.buckets ++ [⟨c.nxt, k, [], [], [], none⟩], slots := (k, 0) :: c.slots } ∧
      Frame [wTiles] s t { s with cells := t.cells, align := t.align }) ∧
  (∀ (inst n : Nat) (c : Conc) (b : Bucket) (s : State),
    inst < 8 ∧ s.conc n = some c ∧ c.buckets.find? (s.partDue c inst) = some b →
    ∃ t, exec (.partClose inst n) s = .next t ∧
      (∃ d ∈ t.align.concs, d.n = n ∧ ∃ k ∈ d.buckets, k.tk = b.tk ∧ inst ∈ k.closed)) ∧
  (∀ (inst src : Nat) (q : QPkt) (c : Conc) (b : Bucket) (s : State),
    s.item (atPos inst) 0x53 = some (src, q) ∧ s.conc (bits 0 4 (q.data.headD 0)) = some c ∧ c.buckets = [b] ∧ b.tk = q.data.getD 1 0 →
    b.done = none ∧ b.parts = [] ∧ memberTiles c.members = [bits 8 3 (q.data.headD 0)] →
    ∃ t, exec (.partItem inst) s = .next t ∧
      (∃ d ∈ t.align.concs, d.n = c.n ∧ d.buckets = [{ b with parts := [bits 8 3 (q.data.headD 0)], done := some s.nowNs }]) ∧
      Frame [] (s.taken (atPos inst) 0x53) t { s.taken (atPos inst) 0x53 with align := t.align }) ∧
  (∀ (n : Nat) (c : Conc) (b : Bucket) (s : State),
    s.conc n = some c ∧ c.home < 8 →
    c.buckets.find? (fun y => y.done.isNone && decide (y.tk + (s.get (acBase c.home n) Rg.AC_CFG.WAIT_CAP + 1) * 1000000 ≤ s.nowNs)) = some b →
    ∃ t, exec (.bucketCapTimeout n) s = .next t ∧
      t.get (atBase c.home) Rg.AT_EVT.PART_MISS = 1 ∧
      (∃ d ∈ t.align.concs, d.n = n ∧ ∃ k ∈ d.buckets, k.tk = b.tk ∧ k.done = some s.nowNs)) ∧
  (∀ (n at_ : Nat) (c : Conc) (b : Bucket) (l : List Bucket) (s : State),
    n < 16 ∧ s.conc n = some c ∧ c.home < 8 ∧ c.buckets = b :: l ∧ b.done = some at_ →
    ∃ t, exec (.bucketEmit n) s = .next t ∧
      (∃ d ∈ t.align.concs, d.n = n ∧ d.seq = (c.seq + 1) % 2 ^ 16 ∧ d.buckets = c.buckets.filter (fun x => x.tk != b.tk)) ∧
      t.get (acBase c.home n) Rg.AC_CNT.EMITTED = satAdd Rg.AC_CNT.EMITTED.w (s.get (acBase c.home n) Rg.AC_CNT.EMITTED) 1 ∧ t.get (acBase c.home n) Rg.AC_LAST.AT = b.tk % 2 ^ 64 ∧
      Frame [wTiles, wDsp] s t { s with cells := t.cells, align := t.align, links := t.links, outq := t.outq, disp := t.disp, toggles := t.toggles }) ∧
  (∀ (n slot : Nat) (c : Conc) (s : State),
    n < 16 ∧ s.conc n = some c ∧ c.home < 8 ∧ lookupD 0 slot c.slots = 1 →
    ∃ t, exec (.concSlotRelease n slot) s = .next t ∧
      t.conc n = some { c with slots := c.slots.filter (fun p => p.1 != slot) } ∧
      Frame [wTiles] s t { s with cells := t.cells, align := t.align })

/-- Analysis groups: enable, frames evaluated, restarts of the model and STALE (R318, R320, R321, R323, R324, R325, R326, R328, R329, R330). -/
def Obligations.GroupsEvaluateFrames : Prop :=
  (∀ (m : Master) (g : Nat) (s : State),
    g < 64 ∧ mayWriteService s m = true ∧ g % 16 < s.lanesAt (mgPos g) ∧ s.on (domOf (islandOf (mgPos g))) = true →
    s.flag (mgBase g) Rg.MG_CTRL.EN = false ∧ s.mgRefusal g = 0 →
    ∃ t, exec (.groupEnable m g) s = .next t ∧
      t.get (mgBase g) Rg.MG_CTRL.EN = 1 ∧ t.get (mgBase g) Rg.MG_STAT.RUN = 1 ∧ t.get (mgBase g) Rg.MG_STAT.REFUSE = 0 ∧ t.get (mgBase g) Rg.MG_STAT.VALID = 0 ∧ t.get (mgBase g) Rg.MG_STAT.ALARM = 0 ∧
      (t.get (mgBase g) Rg.MG_STAT.RATE = (if s.mg g Rg.MG_CFG.KIND = 0 then (rnd 50 (s.mgRate g) (s.decim g)).toNat else s.mgRate g) % 2 ^ Rg.MG_STAT.RATE.w) ∧
      t.grp g = { Group.off with last := s.nowNs, monAt := s.nowNs } ∧
      Frame [wTile (mgPos g)] s t { s with cells := t.cells, groups := t.groups, resp := ⟨.ok, 0⟩ }) ∧
  (∀ (g : Nat) (y : GridFrame) (l : List GridFrame) (s : State),
    g < 64 ∧ s.mgEn g = true ∧ s.inbox = [] ∧ s.mg g Rg.MG_CFG.FEED = 0 ∧ s.mg g Rg.MG_CFG.KIND = 1 ∧ (s.grp g).pend = y :: l →
    ∃ t, exec (.groupFrameEval g) s = .next t ∧
      (t.grp g).last = y.tk ∧ (t.grp g).pend = (s.grp g).pend.filter (fun k => decide (y.tk < k.tk)) ∧ (t.grp g).prev = y.vals ∧
      t.get (mgBase g) Rg.MG_CNT.ABSENT = satAdd Rg.MG_CNT.ABSENT.w (s.get (mgBase g) Rg.MG_CNT.ABSENT) ((s.entries g).filter (fun j => (y.vals.getD j none).isNone)).length ∧
      (t.get (mgBase g) Rg.MG_STAT.MONITORED = (if (s.sites g y.vals).length < 2 then 0 else 1)) ∧
      Frame [wTile (mgPos g), wWv, wTiles] s t { s with cells := t.cells, groups := t.groups, pins := t.pins, links := t.links, outq := t.outq, disp := t.disp, toggles := t.toggles }) ∧
  (∀ (g : Nat) (y : GridFrame) (s : State),
    g < 64 ∧ s.mgEn g = true ∧ s.inbox = [] ∧ s.mg g Rg.MG_CFG.FEED = 1 ∧ s.mg g Rg.MG_CFG.KIND = 0 ∧ (s.grp g).pend = [] ∧ s.entries g ≠ [] →
    y = ⟨s.gridAfter (s.mgRate g) (s.grp g).last, [], [], false⟩ ∧ y.tk + 300000 ≤ s.nowNs ∧ (s.grp g).passed + 1 < s.decim g →
    ∃ t, exec (.groupFrameTimeout g) s = .next t ∧
      (t.grp g).last = y.tk ∧ (t.grp g).passed = (s.grp g).passed + 1 ∧ (t.grp g).frames = (s.grp g).frames ∧
      t.get (mgBase g) Rg.MG_CNT.ABSENT = satAdd Rg.MG_CNT.ABSENT.w (s.get (mgBase g) Rg.MG_CNT.ABSENT) (s.entries g).length ∧
      Frame [wTile (mgPos g)] s t { s with cells := t.cells, groups := t.groups }) ∧
  (∀ (g : Nat) (s : State),
    g < 64 ∧ s.mgEn g = true ∧ s.mg g Rg.MG_CFG.KIND = 0 ∧ 0 < (s.grp g).skips ∧ 2 * s.mgRate g ≤ (s.grp g).skips * s.decim g →
    ∃ t, exec (.modelRestart g) s = .next t ∧
      t.grp g = { s.grp g with frames := [], passed := 0, hist := [], skips := 0 } ∧
      t.get (mgBase g) Rg.MG_STAT.VALID = 0 ∧ t.get (mgBase g) Rg.MG_EVT.RESTART = 1 ∧ t.get (mgBase g) Rg.MG_CNT.RESTARTS = satAdd Rg.MG_CNT.RESTARTS.w (s.get (mgBase g) Rg.MG_CNT.RESTARTS) 1 ∧
      Frame [wTile (mgPos g)] s t { s with cells := t.cells, groups := t.groups, toggles := t.toggles }) ∧
  (∀ (m : Master) (g : Nat) (s : State),
    g < 64 ∧ mayWriteService s m = true ∧ g % 16 < s.lanesAt (mgPos g) ∧ s.on (domOf (islandOf (mgPos g))) = true →
    s.mgEn g = true ∧ s.mg g Rg.MG_CFG.KIND = 0 →
    ∃ t, exec (.modelRestartCmd m g) s = .next t ∧
      t.grp g = { s.grp g with frames := [], passed := 0, hist := [], skips := 0 } ∧
      t.get (mgBase g) Rg.MG_STAT.VALID = 0 ∧ t.get (mgBase g) Rg.MG_EVT.RESTART = 1 ∧ t.get (mgBase g) Rg.MG_CNT.RESTARTS = satAdd Rg.MG_CNT.RESTARTS.w (s.get (mgBase g) Rg.MG_CNT.RESTARTS) 1 ∧
      Frame [wTile (mgPos g)] s t { s with cells := t.cells, groups := t.groups, toggles := t.toggles, resp := ⟨.ok, 0⟩ }) ∧
  (∀ (g : Nat) (s : State),
    g < 64 ∧ s.mgEn g = true ∧ s.mg g Rg.MG_CFG.KIND = 1 ∧ (s.grp g).monAt + 1000000000 ≤ s.nowNs →
    ∃ t, exec (.groupStale g) s = .next t ∧
      t.get (mgBase g) Rg.MG_STAT.STALE = 1 ∧ t.get (mgBase g) Rg.MG_EVT.STALE = 1 ∧
      Frame [wTile (mgPos g)] s t { s with cells := t.cells, toggles := t.toggles })

/-- Alarm pins released, and the trigger lines driven, released, observed and stuck (R331, R338). -/
def Obligations.AlarmPinsAndLines : Prop :=
  (∀ (n : Nat) (s : State),
    n < 8 ∧ s.pins.length = 8 ∧ s.pinOn n = true ∧ s.pinSource n = false ∧ s.flag (aoBase n) Rg.AO_CFG.STATE = true →
    (s.pin n).minEnd ≤ s.nowNs ∧ ((s.pin n).latched && s.flag (aoBase n) Rg.AO_CFG.LATCH) = false →
    ∃ t, exec (.alarmPinMinExpiry n) s = .next t ∧
      t.get (aoBase n) Rg.AO_CFG.STATE = 0 ∧ t.pin n = { s.pin n with latched := false } ∧
      Frame [wWv] s t { s with cells := t.cells, pins := t.pins }) ∧
  (∀ (m : Master) (n : Nat) (s : State),
    n < 8 ∧ s.pins.length = 8 ∧ mayWriteService s m = true ∧ s.pinOn n = true ∧ s.pinSource n = false ∧ (s.pin n).minEnd ≤ s.nowNs →
    ∃ t, exec (.alarmClr m n) s = .next t ∧
      t.get (aoBase n) Rg.AO_CFG.STATE = 0 ∧ t.pin n = { s.pin n with latched := false } ∧
      Frame [wWv] s t { s with cells := t.cells, pins := t.pins, resp := ⟨.ok, 0⟩ }) ∧
  (∀ (m : Master) (n : Nat) (s : State),
    n < 2 ∧ s.lines.length = 2 ∧ mayWriteService s m = true ∧ s.lineOn n = true →
    ∃ t, exec (.tlDrive m n) s = .next t ∧
      t.get (tlBase n) Rg.TL_CFG.DRIVING = 1 ∧ (t.line n).pulseEnd = s.nowNs + max (s.get (tlBase n) Rg.TL_CFG.PULSE_US) 1 * 1000 ∧
      ((t.line n).own = (if s.flag (tlBase n) Rg.TL_CFG.LOW then (s.line n).own else true)) ∧
      Frame [wWv] s t { s with cells := t.cells, lines := t.lines, resp := ⟨.ok, 0⟩ }) ∧
  (∀ (n : Nat) (s : State),
    n < 2 ∧ s.flag (tlBase n) Rg.TL_CFG.DRIVING = true ∧ (s.line n).pulseEnd ≤ s.nowNs →
    ∃ t, exec (.tlPulseEnd n) s = .next t ∧
      t.get (tlBase n) Rg.TL_CFG.DRIVING = 0 ∧
      Frame [wWv] s t { s with cells := t.cells }) ∧
  (∀ (n e : Nat) (s : State),
    n < 2 ∧ e < 8 ∧ s.lines.length = 2 ∧ s.engines.length = 8 ∧ s.lineOn n = true ∧ s.flag (tlBase n) Rg.TL_CFG.LOW = false ∧ s.flag (tlBase n) Rg.TL_CFG.RX_EN = true →
    s.flag (tlBase n) Rg.TL_CFG.STUCK = false ∧ bitOf (4 + n) (s.tg e Rg.TG_TSRC.SRC) = true →
    ∃ t, exec (.trigLineEdge n) s = .next t ∧
      t.get (tlBase n) Rg.TL_CFG.LOW = 1 ∧ t.get (tlBase n) Rg.TL_TS.AT = s.now % 2 ^ 64 ∧ (t.line n).lowAt = s.nowNs ∧
      (t.eng e).way = (s.eng e).way ++ [(⟨4 + n, s.nowNs, 0, (s.line n).own && s.flag (tlBase n) Rg.TL_CFG.DRIVING⟩ : Trig)] ∧
      Frame [wWv] s t { s with cells := t.cells, lines := t.lines, engines := t.engines }) ∧
  (∀ (n : Nat) (s : State),
    n < 2 ∧ s.lineOn n = true ∧ s.flag (tlBase n) Rg.TL_CFG.LOW = true ∧ (s.line n).lowAt + 1000000000 < s.nowNs →
    ∃ t, exec (.tlStuck n) s = .next t ∧
      (t.get (tlBase n) Rg.TL_CFG.STUCK = 1 ∧ t.get bWv (if n = 0 then Rg.TL_EVT.STUCK0 else Rg.TL_EVT.STUCK1) = 1) ∧
      Frame [wWv] s t { s with cells := t.cells, toggles := t.toggles }) ∧
  (∀ (n : Nat) (s : State),
    n < 2 ∧ s.lines.length = 2 ∧ s.lineOn n = true ∧ s.flag (tlBase n) Rg.TL_CFG.DRIVING = false ∧ s.flag (tlBase n) Rg.TL_CFG.LOW = true →
    ∃ t, exec (.trigLineHigh n) s = .next t ∧
      t.get (tlBase n) Rg.TL_CFG.LOW = 0 ∧ t.line n = { s.line n with highAt := s.nowNs } ∧
      Frame [wWv] s t { s with cells := t.cells, lines := t.lines })

/-- Capture engines: arm, triggers, frames closed, the record committed, rearmed, aborted and its slot released (R336, R337, R339, R340, R341, R342, R344, R345). -/
def Obligations.CaptureEnginesRecord : Prop :=
  (∀ (m : Master) (e k : Nat) (s : State),
    e < 8 ∧ s.engines.length = 8 ∧ mayWriteService s m = true ∧ e % 4 < s.lanesAt (tgPos e) ∧ s.on (domOf (islandOf (tgPos e))) = true →
    s.flag (tgBase e) Rg.TG_CTRL.ARM = false ∧ s.tgRefusal e = 0 ∧ s.nextSlot e = some k →
    ∃ t, exec (.engineArm m e) s = .next t ∧
      t.get (tgBase e) Rg.TG_CTRL.ARM = 1 ∧ t.get (tgBase e) Rg.TG_STAT.REFUSE = 0 ∧ t.get (tgBase e) Rg.TG_STAT.STATE = 1 ∧ t.get (tgBase e) Rg.TG_STAT.CUR = k ∧
      (t.eng e).pre = s.tg e Rg.TG_LEN.PRE ∧ (t.eng e).post = s.tg e Rg.TG_LEN.POST ∧ (t.eng e).slot = some k ∧ (t.eng e).way = [] ∧ (t.eng e).trig = none ∧
      BytesKeptBut (s.tg e Rg.TG_AREA.ADDR + k * s.tg e Rg.TG_SLOT.SLOT_BYTES) 4 s t ∧ RegsKept [wTile (tgPos e), wDdr, wRc] s t) ∧
  (∀ (m : Master) (e : Nat) (s : State),
    e < 8 ∧ s.engines.length = 8 ∧ mayWriteService s m = true ∧ e % 4 < s.lanesAt (tgPos e) ∧ s.on (domOf (islandOf (tgPos e))) = true →
    s.tgState e ≠ 0 ∧ s.tgState e ≠ 2 →
    ∃ t, exec (.engineAbort m e) s = .next t ∧
      t.get (tgBase e) Rg.TG_CTRL.ARM = 0 ∧ t.get (tgBase e) Rg.TG_STAT.STATE = 0 ∧
      t.eng e = { s.eng e with frames := [], pres := [], posts := [], trig := none, fixed := false, way := [] } ∧
      Frame [wTile (tgPos e)] s t { s with cells := t.cells, engines := t.engines, resp := ⟨.ok, 0⟩ }) ∧
  (∀ (m : Master) (e : Nat) (s : State),
    e < 8 ∧ s.engines.length = 8 ∧ mayWriteService s m = true ∧ e % 4 < s.lanesAt (tgPos e) ∧ s.on (domOf (islandOf (tgPos e))) = true →
    s.tgState e = 1 ∧ bitOf 7 (s.tg e Rg.TG_TSRC.SRC) = true ∧ (s.eng e).rearm ≤ s.nowNs ∧ (s.eng e).fixed = false ∧ (s.eng e).trig = none →
    s.get (tgBase e) Rg.TG_CFG.LINE_OUT = 0 ∧ (List.range 8).all (fun n => !bitOf e (s.get (aoBase n) Rg.AO_CFG.TRIG_SEL)) = true ∧ (s.eng e).pres = [] ∧ (s.eng e).post ≠ 0 →
    ∃ t, exec (.swtrig m e) s = .next t ∧
      t.get (tgBase e) Rg.TG_STAT.STATE = 2 ∧ t.get (tgBase e) Rg.TG_LAST.AT = s.nowNs % 2 ^ 64 ∧
      t.eng e = { s.eng e with trig := some ⟨7, s.nowNs, 0, false⟩, tsrc := (s.eng e).tsrc ||| 128 } ∧
      Frame [wTile (tgPos e)] s t { s with cells := t.cells, engines := t.engines, resp := ⟨.ok, 0⟩ }) ∧
  (∀ (e : Nat) (y : Trig) (l : List Trig) (s : State),
    e < 8 ∧ s.engines.length = 8 ∧ s.inbox = [] ∧ (s.eng e).way = y :: l ∧ bitOf y.src (s.tg e Rg.TG_TSRC.SRC) = true ∧ (y.own && s.flag (tgBase e) Rg.TG_CFG.IGN_OWN) = false →
    3 ≤ s.tgState e ∨ (s.tgState e ≠ 0 ∧ y.at_ < (s.eng e).rearm) →
    ∃ t, exec (.triggerReceive e) s = .next t ∧
      t.get (tgBase e) Rg.TG_MISS.MISSED = satAdd Rg.TG_MISS.MISSED.w (s.get (tgBase e) Rg.TG_MISS.MISSED) 1 ∧ t.get (tgBase e) Rg.TG_EVT.MISSED = 1 ∧
      (t.eng e = { s.eng e with way := l, missed := (s.eng e).missed + 1, firstM := if (s.eng e).missed = 0 then y.at_ else (s.eng e).firstM }) ∧
      Frame [wTile (tgPos e)] s t { s with cells := t.cells, engines := t.engines, toggles := t.toggles }) ∧
  (∀ (e : Nat) (y : Trig) (l : List Trig) (s : State),
    e < 8 ∧ s.engines.length = 8 ∧ s.inbox = [] ∧ (s.eng e).way = y :: l ∧ bitOf y.src (s.tg e Rg.TG_TSRC.SRC) = true ∧ (y.own && s.flag (tgBase e) Rg.TG_CFG.IGN_OWN) = false →
    s.tgState e = 1 ∧ (s.eng e).rearm ≤ y.at_ ∧ (s.eng e).fixed = false ∧ (s.eng e).trig = none →
    s.get (tgBase e) Rg.TG_CFG.LINE_OUT = 0 ∧ (List.range 8).all (fun n => !bitOf e (s.get (aoBase n) Rg.AO_CFG.TRIG_SEL)) = true ∧ (s.eng e).pres = [] ∧ (s.eng e).post ≠ 0 →
    ∃ t, exec (.triggerReceive e) s = .next t ∧
      t.get (tgBase e) Rg.TG_STAT.STATE = 2 ∧ t.get (tgBase e) Rg.TG_LAST.AT = y.at_ % 2 ^ 64 ∧
      t.eng e = { s.eng e with way := l, trig := some y, tsrc := (s.eng e).tsrc ||| 2 ^ y.src } ∧
      Frame [wTile (tgPos e)] s t { s with cells := t.cells, engines := t.engines }) ∧
  (∀ (e : Nat) (behind : Bool) (y : CapFrame) (l : List CapFrame) (s : State),
    e < 8 ∧ s.engines.length = 8 ∧ s.inbox = [] ∧ s.tgState e = 1 ∧ s.tgClass e ≠ 3 ∧ (s.eng e).fixed = false ∧ (s.eng e).frames = y :: l →
    (s.tgChans e).length ≤ y.parts.length ∧ (s.eng e).pre = 0 ∧ (s.eng e).trig = none ∧ capValue (s.tgClass e) (s.tg e Rg.TG_LVL.LIDX) (s.tg e Rg.TG_LVL.LQTY) (s.tg e Rg.TG_LVL.LOFS) y = none →
    ∃ t, exec (.captureFrameClose e behind) s = .next t ∧
      t.eng e = { s.eng e with frames := (y :: l).filter (fun k => k.tk != y.tk), since := y.tk + 1 } ∧
      Frame [] s t { s with engines := t.engines }) ∧
  (∀ (e : Nat) (s : State),
    e < 8 ∧ s.engines.length = 8 ∧ s.tgState e = 3 →
    ∃ t, exec (.captureCommit e) s = .next t ∧
      t.get (tgBase e) Rg.TG_STAT.STATE = 4 ∧ t.get (tgBase e) Rg.TG_STAT.SEQ = (s.get (tgBase e) Rg.TG_STAT.SEQ + 1) % 2 ^ 32 ∧ t.get (tgBase e) Rg.TG_EVT.RECORD = 1 ∧
      bitOf (s.get (tgBase e) Rg.TG_STAT.CUR) (t.get (tgBase e) Rg.TG_STAT.FULL) = true ∧ (t.eng e).rearm = s.nowNs + 2000 ∧ (t.eng e).missed = 0 ∧
      BytesKeptBut (s.tgSlot e) 256 s t ∧ RegsKept [wTile (tgPos e), wDdr, wRc] s t) ∧
  (∀ (e : Nat) (s : State),
    e < 8 ∧ s.engines.length = 8 ∧ s.tgState e = 4 ∧ (s.eng e).rearm ≤ s.nowNs ∧ s.flag (tgBase e) Rg.TG_CFG.AUTO = false →
    ∃ t, exec (.captureRearm e) s = .next t ∧
      t.get (tgBase e) Rg.TG_CTRL.ARM = 0 ∧ t.get (tgBase e) Rg.TG_STAT.STATE = 0 ∧
      Frame [wTile (tgPos e)] s t { s with cells := t.cells, engines := t.engines }) ∧
  (∀ (e k : Nat) (s : State),
    e < 8 ∧ s.engines.length = 8 ∧ s.tgState e = 4 ∧ (s.eng e).rearm ≤ s.nowNs ∧ s.flag (tgBase e) Rg.TG_CFG.AUTO = true ∧ s.nextSlot e = some k →
    ∃ t, exec (.captureRearm e) s = .next t ∧
      t.get (tgBase e) Rg.TG_STAT.STATE = 1 ∧ t.get (tgBase e) Rg.TG_STAT.CUR = k ∧ (t.eng e).slot = some k ∧
      BytesKeptBut (s.tg e Rg.TG_AREA.ADDR + k * s.tg e Rg.TG_SLOT.SLOT_BYTES) 4 s t ∧ RegsKept [wTile (tgPos e), wDdr, wRc] s t) ∧
  (∀ (m : Master) (e rel : Nat) (s : State),
    e < 8 ∧ mayWriteService s m = true ∧ e % 4 < s.lanesAt (tgPos e) ∧ s.on (domOf (islandOf (tgPos e))) = true ∧ s.tgState e ≠ 5 →
    ∃ t, exec (.captureSlotRelease m e rel) s = .next t ∧
      (List.range 16).all (fun k => bitOf k (t.get (tgBase e) Rg.TG_STAT.FULL) == (bitOf k (s.get (tgBase e) Rg.TG_STAT.FULL) && !bitOf k rel)) = true ∧
      Frame [wTile (tgPos e)] s t { s with cells := t.cells, resp := ⟨.ok, 0⟩ })

/-- Radio ports and MAC lanes: enable, disable, raw exchange, the slot base and the key rotation (R348, R350, R352, R353, R364, R366, R368, R510, R516). -/
def Obligations.RadioPortsAndLanes : Prop :=
  (∀ (m : Master) (p : Nat) (id : List Byte) (s : State),
    p < 8 ∧ s.radio.lanes.length = 8 ∧ mayWriteService s m = true ∧ s.on .io = true ∧ bitOf (16 + p) s.img.io0 = true →
    (s.flag (rpBase p) Rg.RP_CFG.EN = false ∨ s.get (rpBase p) Rg.RP_STAT.STATE = 3) ∧ id.length = 8 ∧ leAt id 0 1 = 0x53 ∧ leAt id 1 1 = 0x46 ∧ leAt id 2 1 = 1 ∧ s.profileOk p (leAt id 7 1) = true →
    ∃ t, exec (.radioPortEnable m p id) s = .next t ∧
      t.get (rpBase p) Rg.RP_CFG.EN = 1 ∧ t.get (rpBase p) Rg.RP_STAT.STATE = 2 ∧ t.get (rpBase p) Rg.RP_STAT.FAIL_CODE = 0 ∧
      t.get (rpBase p) Rg.RP_TRX.VENDOR = leAt id 3 2 ∧ t.get (rpBase p) Rg.RP_TRX.PART = leAt id 5 2 ∧ t.get (rpBase p) Rg.RP_TRX.FLAGS = leAt id 7 1 ∧
      t.get (rpBase p) Rg.RP_STAT.MAXPSDU_B = s.psduB p ∧ t.get (rpBase p) Rg.RP_STAT.MAXPSDU_A = s.psduA p ∧ t.mac p = { s.mac p with bad := 0 } ∧
      Frame [wRadio, wRc] s t { s with cells := t.cells, radio := t.radio, health := t.health, log := t.log, toggles := t.toggles, resp := ⟨.ok, 0⟩ }) ∧
  (∀ (m : Master) (p rx n : Nat) (s : State),
    p < 8 ∧ mayWriteService s m = true ∧ s.on .io = true ∧ bitOf (16 + p) s.img.io0 = true →
    s.flag (rpBase p) Rg.RP_CFG.EN = false ∧ n = s.get (rpBase p) Rg.RP_RAW.LEN ∧ 0 < n ∧ n ≤ 6 →
    ∃ t, exec (.rawExchange m p rx) s = .next t ∧
      t.get (rpBase p) Rg.RP_RAW.DATA = s.get (rpBase p) Rg.RP_RAW.DATA / 2 ^ (8 * n) * 2 ^ (8 * n) + rx % 2 ^ (8 * n) ∧
      Frame [wRadio] s t { s with cells := t.cells, resp := ⟨.ok, 0⟩ }) ∧
  (∀ (m : Master) (v : Nat) (s : State),
    mayWriteService s m = true ∧ s.on .io = true ∧ v % 1000000000 = 0 ∧ ((List.range 8).map macBase).all (fun y => !s.flag y Rg.FR_CTRL.EN) = true →
    ∃ t, exec (.asnBaseWrite m v) s = .next t ∧
      t.get bRadio Rg.FR_ASN_BASE.INSTANT = v % 2 ^ 64 ∧
      Frame [wRadio] s t { s with cells := t.cells, resp := ⟨.ok, 0⟩ }) ∧
  (∀ (m : Master) (p : Nat) (k : Key) (s : State),
    p < 8 ∧ s.radio.lanes.length = 8 ∧ mayWriteService s m = true ∧ p % 2 < s.lanesAt (macPos p) ∧ s.on (domOf (islandOf (macPos p))) = true →
    s.flag (macBase p) Rg.FR_CTRL.EN = false ∧ s.laneRefusal p = 0 ∧ s.liveKey (s.get (macBase p) Rg.FR_CFG.NET_SLOT) = some k →
    ∃ t, exec (.macLaneEnable m p) s = .next t ∧
      t.get (macBase p) Rg.FR_CTRL.EN = 1 ∧ t.get (macBase p) Rg.FR_STAT.RUN = 1 ∧ t.get (macBase p) Rg.FR_STAT.REFUSE = 0 ∧
      t.keyCopy (macPos p) (p % 2) = some ⟨macPos p, p % 2, s.get (macBase p) Rg.FR_CFG.NET_SLOT, k, none, false⟩ ∧
      (t.mac p).cells = s.cellWords p ∧ (t.mac p).silent = 0 ∧ bitOf p (t.get bMpc Rg.FS_PORT.ACTIVE) = true ∧
      Frame [wTile (macPos p), wMpc] s t { s with cells := t.cells, radio := t.radio, sec := t.sec, resp := ⟨.ok, 0⟩ }) ∧
  (∀ (m : Master) (p : Nat) (s : State),
    p < 8 ∧ s.radio.lanes.length = 8 ∧ mayWriteService s m = true ∧ p % 2 < s.lanesAt (macPos p) ∧ s.on (domOf (islandOf (macPos p))) = true →
    s.flag (macBase p) Rg.FR_CTRL.EN = true →
    ∃ t, exec (.macLaneDisable m p) s = .next t ∧
      t.get (macBase p) Rg.FR_CTRL.EN = 0 ∧ t.get (macBase p) Rg.FR_STAT.RUN = 0 ∧ t.keyCopy (macPos p) (p % 2) = none ∧
      t.mac p = { s.mac p with reqs := [], waiting := (t.mac p).waiting, stopped := false, agreed := [], pend := [], sent := [], shr := none, box := [] } ∧ bitOf p (t.get bMpc Rg.FS_PORT.ACTIVE) = false ∧
      Frame [wTiles, wMpc, wDsp] s t { s with cells := t.cells, radio := t.radio, sec := t.sec, links := t.links, outq := t.outq, disp := t.disp, toggles := t.toggles, resp := ⟨.ok, 0⟩ }) ∧
  (∀ (p : Nat) (c : KeyCopy) (k : Key) (s : State),
    p < 8 ∧ s.radio.lanes.length = 8 ∧ s.flag (macBase p) Rg.FR_STAT.RUN = true ∧ s.keyCopy (macPos p) (p % 2) = some c ∧ c.nxt = some k ∧ c.gone = false ∧ s.asn % 10 = 0 ∧ s.slotPhase < 5 →
    s.sec.copies.all (fun y => !y.gone) = true →
    ∃ t, exec (.keyRotateApply p) s = .next t ∧
      t.keyCopy (macPos p) (p % 2) = some { c with key := k, nxt := none } ∧ t.get (macBase p) Rg.FR_TXFCNT.FCNT = 0 ∧ (t.mac p).phase = !(s.mac p).phase ∧
      ((List.range 32).all (fun n => t.entState p n == (if s.entState p n = 3 then 1 else s.entState p n)) = true) ∧
      Frame [wTiles, wDsp] s t { s with cells := t.cells, radio := t.radio, sec := t.sec, links := t.links, outq := t.outq, disp := t.disp, toggles := t.toggles })

/-- Slots and radio frames: cutoff, beacon, UP cells, data, joins, corrections and downlinks (R351, R353, R355, R358, R359, R365, R366, R369, R370, R371, R383, R386). -/
def Obligations.SlotsAndFramesRun : Prop :=
  (∀ (p b : Nat) (s : State),
    p < 8 ∧ s.radio.lanes.length = 8 ∧ b = s.slotStart (s.nowNs + 100000) ∧ s.nowNs + 100000 - b < 5 ∧ (s.mac p).cut ≠ some (s.asnAt b) →
    s.flag (macBase p) Rg.FR_STAT.RUN = true ∧ (s.mac p).waiting = none ∧ (s.mac p).agreed = [] ∧ s.flag bMpc Rg.FS_STAT.LATCHED = false →
    ∃ t, exec (.slotCutoff p) s = .next t ∧
      t.mac p = { s.mac p with cut := some (s.asnAt b), stopped := false } ∧
      Frame [] s t { s with radio := t.radio }) ∧
  (∀ (p b : Nat) (s : State),
    p < 8 ∧ s.radio.lanes.length = 8 ∧ b = s.slotStart (s.nowNs + 100000) ∧ s.nowNs + 100000 - b < 5 ∧ (s.mac p).cut ≠ some (s.asnAt b) →
    s.flag (macBase p) Rg.FR_STAT.RUN = true ∧ (s.mac p).waiting = none ∧ (s.mac p).agreed = [] ∧ s.flag bMpc Rg.FS_STAT.LATCHED = true ∧ (s.mac p).silent ≤ b →
    (s.sendKey p).isSome = true ∧ s.airtime p 48 ≤ 1880 ∧ s.slotStart (b + 20000) = b →
    ∃ t, exec (.slotCutoff p) s = .next t ∧
      (t.mac p).stopped = true ∧ (t.mac p).cut = some (s.asnAt b) ∧ (t.mac p).rep = s.nextRep p b ∧ (t.mac p).repId = some (s.get bMpc Rg.FS_CAUSE.STOP_ID) ∧
      (t.mac p).pend.map (fun y => (y.at_, y.chan, y.act, y.stop)) = (s.mac p).pend.map (fun y => (y.at_, y.chan, y.act, y.stop)) ++ [(b + 20000, s.hopChan p (s.asnAt b) (s.bcOfs p), AirAct.hawk, true)] ∧
      Frame [] s t { s with radio := t.radio }) ∧
  (∀ (p status b : Nat) (k : Key) (c : KeyCopy) (s : State),
    p < 8 ∧ s.radio.lanes.length = 8 ∧ s.flag (macBase p) Rg.FR_STAT.RUN = true ∧ s.portRuns p = true ∧ status ≠ 0xFF ∧ bitOf 2 status = false ∧ s.asn % 10 = 0 →
    s.slotPhase < 5 ∧ (s.mac p).slot ≠ some s.asn ∧ b = s.slotStart s.nowNs ∧ s.slotStart (b + 300000) = b ∧ s.airtime p 35 ≤ 1600 →
    (s.mac p).silent ≤ b ∧ (s.mac p).stopped = false ∧ s.flag bMpc Rg.FS_STAT.LATCHED = false ∧ s.sendKey p = some k ∧ s.keyCopy (macPos p) (p % 2) = some c ∧ c.nxt = none →
    ∃ t, exec (.slotBoundary p status) s = .next t ∧
      (t.mac p).slot = some s.asn ∧ (t.mac p).bad = 0 ∧ (t.mac p).cells = s.cellWords p ∧
      (t.mac p).pend.map (fun y => (y.at_, y.chan, y.act, leAt y.bytes 6 4, leAt y.bytes 15 4)) = (s.mac p).pend.map (fun y => (y.at_, y.chan, y.act, leAt y.bytes 6 4, leAt y.bytes 15 4)) ++ [(b + 300000, s.hopChan p s.asn (s.bcOfs p), AirAct.beacon, s.nextFcnt p, s.permitMap p)] ∧
      Frame [wMpc] s t { s with cells := t.cells, radio := t.radio }) ∧
  (∀ (p status w b : Nat) (s : State),
    p < 8 ∧ s.radio.lanes.length = 8 ∧ s.flag (macBase p) Rg.FR_STAT.RUN = true ∧ s.portRuns p = true ∧ status ≠ 0xFF ∧ bitOf 2 status = false ∧ 2 ≤ s.asn % 10 →
    s.slotPhase < 5 ∧ (s.mac p).slot ≠ some s.asn ∧ b = s.slotStart s.nowNs ∧ (s.mac p).silent ≤ b ∧ (s.mac p).stopped = false ∧ s.flag bMpc Rg.FS_STAT.LATCHED = false →
    (s.mac p).cells.filter (fun y => cellIn y s.asn) = [w] ∧ cellDir w = 0 ∧ s.covered p b = false →
    ∃ t, exec (.slotBoundary p status) s = .next t ∧
      t.mac p = { s.mac p with bad := 0, slot := some s.asn, agreed := (t.mac p).agreed } ∧
      ((t.mac p).agreed = (if s.sleepy p (cellOwner w) = true ∧ s.entState p (cellOwner w) = 3 then (s.mac p).agreed ++ [(cellOwner w, b + 300000 - s.guard p (cellOwner w) b, b + 300000 + s.guard p (cellOwner w) b)] else (s.mac p).agreed)) ∧
      Frame [wMpc, wTile (macPos p)] s t { s with cells := t.cells, radio := t.radio }) ∧
  (∀ (p : Nat) (y : List Byte) (rssi : Nat) (s : State),
    p < 8 ∧ s.flag (macBase p) Rg.FR_STAT.RUN = true ∧ s.portRuns p = true →
    ∃ t, exec (.radioFrameReceive p y rssi false) s = .next t ∧
      t.get (rpBase p) Rg.RP_CNT.RX_BAD = satAdd Rg.RP_CNT.RX_BAD.w (s.get (rpBase p) Rg.RP_CNT.RX_BAD) 1 ∧ (t.mac p).shr = none ∧
      Frame [wRadio] s t { s with cells := t.cells, radio := t.radio, free := t.free }) ∧
  (∀ (p k : Nat) (y pl : List Byte) (bw : Nat × Nat) (rssi si : Nat) (s : State),
    p < 8 ∧ s.radio.lanes.length = 8 ∧ s.flag (macBase p) Rg.FR_STAT.RUN = true ∧ s.portRuns p = true ∧ (s.mac p).shr = some si ∧ leAt y 0 1 = 0x32 ∧ leAt y 1 2 = s.get (macBase p) Rg.FR_CFG.NET ∧ leAt y 3 1 = k ∧ leAt y 4 1 = 0xFE →
    k < 32 ∧ s.netOpen p y = some pl ∧ s.upWindow p k si = some bw ∧ s.entState p k = 3 →
    s.get (entBase p k) Rg.MSTAT.RX_FCNT < leAt y 6 4 ∧ (s.mac p).box = [] ∧ (s.linkTo (macPos p) posDsp).isNone = true →
    ∃ t, exec (.radioFrameReceive p y rssi true) s = .next t ∧
      t.get (entBase p k) Rg.MSTAT.RX_FCNT = leAt y 6 4 ∧ t.get (entBase p k) Rg.MLAST.INSTANT = si % 2 ^ 64 ∧ t.get (entBase p k) Rg.MSTAT.WIDEN = 0 ∧ t.entState p k = 3 ∧
      t.mac p = { s.mac p with shr := none, box := [⟨k, leAt y 6 4, si, rssi, s.asnAt si, pl⟩] } ∧
      Frame [wTile (macPos p)] s t { s with cells := t.cells, radio := t.radio }) ∧
  (∀ (p k : Nat) (y pl : List Byte) (bw : Nat × Nat) (rssi si : Nat) (l : Link) (s : State),
    p < 8 ∧ s.radio.lanes.length = 8 ∧ s.flag (macBase p) Rg.FR_STAT.RUN = true ∧ s.portRuns p = true ∧ (s.mac p).shr = some si ∧ leAt y 0 1 = 0x32 ∧ leAt y 1 2 = s.get (macBase p) Rg.FR_CFG.NET ∧ leAt y 3 1 = k ∧ leAt y 4 1 = 0xFE →
    k < 32 ∧ s.netOpen p y = some pl ∧ s.upWindow p k si = some bw ∧ s.entState p k = 3 →
    s.get (entBase p k) Rg.MSTAT.RX_FCNT < leAt y 6 4 ∧ (s.mac p).box = [] ∧ s.linkTo (macPos p) posDsp = some l ∧ (s.takeSlot (macPos p) posDsp).isSome = true →
    ∃ t, exec (.radioFrameReceive p y rssi true) s = .next t ∧
      t.get (entBase p k) Rg.MSTAT.RX_FCNT = leAt y 6 4 ∧ t.get (entBase p k) Rg.MLAST.INSTANT = si % 2 ^ 64 ∧ t.get (entBase p k) Rg.MSTAT.WIDEN = 0 ∧ t.entState p k = 3 ∧
      t.mac p = { s.mac p with shr := none, box := [] } ∧
      RegsKept [wTile (macPos p), wDdr, wTiles, wRc] s t) ∧
  (∀ (p k : Nat) (y pl : List Byte) (bw : Nat × Nat) (rssi si : Nat) (s : State),
    p < 8 ∧ s.radio.lanes.length = 8 ∧ s.flag (macBase p) Rg.FR_STAT.RUN = true ∧ s.portRuns p = true ∧ (s.mac p).shr = some si ∧ leAt y 0 1 = 0x32 ∧ leAt y 1 2 = s.get (macBase p) Rg.FR_CFG.NET ∧ leAt y 3 1 = k ∧ leAt y 4 1 = 0xFE →
    k < 32 ∧ s.netOpen p y = some pl ∧ s.upWindow p k si = some bw ∧ s.entState p k = 3 →
    leAt y 6 4 < s.get (entBase p k) Rg.MSTAT.RX_FCNT →
    ∃ t, exec (.radioFrameReceive p y rssi true) s = .next t ∧
      t.get (macBase p) Rg.FR_CNT.REPLAY = satAdd Rg.FR_CNT.REPLAY.w (s.get (macBase p) Rg.FR_CNT.REPLAY) 1 ∧ t.get (macBase p) Rg.FR_EVT.REPLAY = 1 ∧ t.get (entBase p k) Rg.MLAST.INSTANT = si % 2 ^ 64 ∧
      t.mac p = { s.mac p with shr := none } ∧
      Frame [wTile (macPos p)] s t { s with cells := t.cells, radio := t.radio, toggles := t.toggles }) ∧
  (∀ (p k si : Nat) (y pl : List Byte) (key : Key) (s : State),
    p < 8 ∧ s.radio.lanes.length = 8 ∧ s.flag (macBase p) Rg.FR_STAT.RUN = true ∧ s.portRuns p = true ∧ (s.mac p).shr = some si ∧ leAt y 0 1 % 128 = 0x34 ∧ leAt y 1 2 = s.get (macBase p) Rg.FR_CFG.NET ∧ leAt y 3 1 = 0xFD ∧ leAt y 4 1 = 0xFE →
    k < 32 ∧ (List.range 32).find? (fun n => s.flag (entBase p n) Rg.MCFG.PROV && s.get (entBase p n) Rg.MID.EUI == leVal ((y.drop 10).take 8).reverse) = some k →
    (s.joinCry p).isSome = true ∧ s.joinKey p k = some key ∧ ccmOpen key.bytes (frameNonce (leVal ((y.drop 10).take 8).reverse) (leAt y 6 4) (leAt y 0 1)) (y.take 18) (y.drop 18) 8 true = some pl ∧ pl.length = 40 →
    (s.mac p).joins.find? (fun j => j.k == k && j.seq == leAt y 5 1 && j.fcnt == leAt y 6 4) = none ∧ s.entState p k ≠ 3 →
    s.flag (macBase p) Rg.FR_CTRL.JOIN_OPEN = true ∧ capBad (pl.drop 8) = false ∧ leAt (pl.drop 8) 18 1 % 16 = s.get (macBase p) Rg.FR_CFG.PROFILE_ID →
    ∃ t, exec (.joinReqReceive p y) s = .next t ∧
      t.entState p k = 2 ∧ t.get (entBase p k) Rg.MSTAT.SEQ_MODE = 1 ∧ t.get (entBase p k) Rg.MSTAT.LAST_SEQ = leAt y 5 1 ∧ t.get (entBase p k) Rg.MCAP.CAP = leAt pl 8 8 ∧
      (t.mac p).joins = (s.mac p).joins.filter (fun j => j.k != k) ++ [(⟨k, leAt y 5 1, leAt y 6 4, leAt pl 0 8, 0, si, s.nowNs, (s.get (entBase p k) Rg.MSTAT.RX_FCNT + 1) % 2 ^ 32, none, true⟩ : JoinRec)] ∧
      Frame [wTile (macPos p), wRc] s t { s with cells := t.cells, radio := t.radio, health := t.health, log := t.log, toggles := t.toggles }) ∧
  (∀ (p k : Nat) (s : State),
    p < 8 ∧ k < 32 ∧ s.entState p k = 2 ∧ (s.mac p).joins.any (fun j => j.k == k && decide (j.since + 2000000000 ≤ s.nowNs)) = true →
    ∃ t, exec (.joinTimeout p k) s = .next t ∧
      t.entState p k = 1 ∧ t.get (entBase p k) Rg.MSTAT.SEQ_MODE = 0 ∧
      Frame [wTile (macPos p)] s t { s with cells := t.cells }) ∧
  (∀ (p k : Nat) (s : State),
    p < 8 ∧ k < 32 ∧ s.radio.lanes.length = 8 ∧ s.entState p k = 3 →
    (if s.sleepy p k then (s.mac p).miss4.contains k = true else (s.mac p).cells.any (fun w => cellOn w && cellDir w == 0 && cellOwner w == k) = true ∧ s.get (entBase p k) Rg.MLAST.INSTANT + 2000000000 ≤ s.nowNs) →
    ∃ t, exec (.machineLostTimeout p k) s = .next t ∧
      t.entState p k = 4 ∧ t.get (macBase p) Rg.FR_EVT.LOST = 1 ∧ (t.mac p).reqs = (s.mac p).reqs.filter (fun r => r.k != k) ∧ (t.mac p).miss4 = (s.mac p).miss4.filter (· != k) ∧
      Frame [wTiles, wDsp] s t { s with cells := t.cells, radio := t.radio, links := t.links, outq := t.outq, disp := t.disp, toggles := t.toggles }) ∧
  (∀ (mac src : Nat) (q : QPkt) (y : List Byte) (u : State) (s : State),
    mac < 4 ∧ s.item ((tilePositions .mac).getD mac 99) 0x30 = some (src, q) ∧ s.radio.corr = [] ∧ lookupD 0 mac s.radio.idx = 0 ∧ bits 12 11 (q.data.headD 0) ≤ 16384 →
    s.corrFirst (mac * 2) (bits 12 11 (q.data.headD 0)) = some 0 ∧ s.corrFirst (mac * 2 + 1) (bits 12 11 (q.data.headD 0)) = none ∧ s.corrLong (mac * 2 + 1) (bits 12 11 (q.data.headD 0)) = false →
    ((s.taken ((tilePositions .mac).getD mac 99) 0x30).corrNewer mac (bits 40 8 (q.data.headD 0)) 2).memRead (s.slotAddr src ((tilePositions .mac).getD mac 99) (bits 0 12 (q.data.headD 0))) (bits 12 11 (q.data.headD 0)) = (u, some y) →
    ∃ t, exec (.corrItemReceive mac) s = .next t ∧
      t.radio.corr = [⟨mac, bits 40 8 (q.data.headD 0), 0, bits 35 3 (q.data.headD 0), bitOf 39 (q.data.headD 0), bitOf 38 (q.data.headD 0), y, s.nowNs, [some 0, none]⟩] ∧ t.rx = (s.taken ((tilePositions .mac).getD mac 99) 0x30).rx ∧
      t = { u with radio := t.radio }) ∧
  (∀ (mac src p k : Nat) (q : QPkt) (y : List Byte) (u : State) (s : State),
    mac < 4 ∧ s.radio.lanes.length = 8 ∧ s.item ((tilePositions .mac).getD mac 99) 0x61 = some (src, q) ∧ p = bits 0 8 (q.data.headD 0) / 32 ∧ k = bits 0 8 (q.data.headD 0) % 32 ∧ p / 2 = mac →
    s.flag (macBase p) Rg.FR_STAT.RUN = true ∧ s.entState p k = 3 ∧ ((s.mac p).reqs.filter (fun r => r.k == k)).length < 4 →
    bits 8 11 (q.data.headD 0) ≤ (if bitOf 31 (q.data.headD 0) then s.get (rpBase p) Rg.RP_STAT.MAXPSDU_A else s.get (rpBase p) Rg.RP_STAT.MAXPSDU_B) - 22 →
    (s.taken ((tilePositions .mac).getD mac 99) 0x61).memRead (s.slotAddr src ((tilePositions .mac).getD mac 99) (bits 19 12 (q.data.headD 0))) (bits 8 11 (q.data.headD 0)) = (u, some y) →
    ∃ t, exec (.downlinkRequest mac) s = .next t ∧
      t.mac p = { s.mac p with reqs := (s.mac p).reqs ++ [⟨k, q.data.headD 0 / 2 ^ 32, src, bitOf 31 (q.data.headD 0), y, 0, none, 0⟩] } ∧ t.rx = (s.taken ((tilePositions .mac).getD mac 99) 0x61).rx ∧
      t = { u with radio := t.radio }) ∧
  (∀ (trk src m : Nat) (q : QPkt) (d : DlFrame) (s : State),
    trk < 4 ∧ s.item (trkPos trk) 0x62 = some (src, q) ∧ m = trk * 64 + pktLane q.lw % 2 * 32 + bits 0 32 (q.data.headD 0) % 32 →
    (s.mach m).way.find? (fun p => p.1 == bits 0 32 (q.data.headD 0)) = some (bits 0 32 (q.data.headD 0), d) ∧ bits 32 4 (q.data.headD 0) = 0 ∧ (s.mach m).out = [] →
    ∃ t, exec (.downlinkResult trk) s = .next t ∧
      t.mach m = { s.mach m with way := (s.mach m).way.filter (fun p => p.1 != bits 0 32 (q.data.headD 0)) } ∧
      (t.tmState m = (if s.tmState m = 3 ∧ ((s.mach m).way.filter (fun p => p.1 != bits 0 32 (q.data.headD 0))).all (fun p => !p.2.must) then 4 else s.tmState m)) ∧
      Frame [wTile (trkPos trk)] (s.taken (trkPos trk) 0x62) t { s.taken (trkPos trk) 0x62 with cells := t.cells, tracks := t.tracks })

/-- Fleet stop: inputs, the latch, the timeouts, supervision and the path test (R376, R377, R378, R379, R380, R381, R388, R389). -/
def Obligations.StopLatchesAtOnce : Prop :=
  (∀ (pin : Nat) (level : Bool) (a b y : Nat) (s : State),
    pin < 4 ∧ s.on .aon = true ∧ y = putBits pin 1 s.stop.pins (b2n level) ∧ a = stopChan (bitOf 0 y) (bitOf 1 y) ∧ b = stopChan (bitOf 2 y) (bitOf 3 y) ∧ (a ≠ 0 ∨ b ≠ 0) →
    ∃ t, exec (.stopInputChange pin level) s = .next t ∧
      t.stop.pins = y ∧ t.get bMpc Rg.FS_STAT.CH0 = a ∧ t.get bMpc Rg.FS_STAT.CH1 = b ∧ t.get bMpc Rg.FS_STAT.DEC_A = 1 ∧ t.get bMpc Rg.FS_STAT.DEC_B = 1 ∧ t.get bMpc Rg.FS_STAT.RUN_OK = 0 ∧
      (t.get bMpc Rg.FS_STAT.LATCHED = 1 ∧ t.get bMpc Rg.FS_CAUSE.CAUSE = s.get bMpc Rg.FS_CAUSE.CAUSE ||| ((if a = 0 then 0 else 1) + (if b = 0 then 0 else 2))) ∧
      (t.get bMpc Rg.FS_CAUSE.STOP_ID = (if s.flag bMpc Rg.FS_STAT.LATCHED then s.get bMpc Rg.FS_CAUSE.STOP_ID else (s.get bMpc Rg.FS_CAUSE.STOP_ID + 1) % 2 ^ 16)) ∧
      (t.get bMpc Rg.FS_LATCH_AT.AT = (if s.flag bMpc Rg.FS_STAT.LATCHED then s.get bMpc Rg.FS_LATCH_AT.AT else s.now % 2 ^ 64)) ∧
      Frame [wMpc, wRc] s t { s with cells := t.cells, stop := t.stop, radio := t.radio, toggles := t.toggles, log := t.log, pcie := t.pcie }) ∧
  (∀ (pin : Nat) (level : Bool) (y : Nat) (s : State),
    pin < 4 ∧ s.on .aon = true ∧ y = putBits pin 1 s.stop.pins (b2n level) ∧ stopChan (bitOf 0 y) (bitOf 1 y) = 0 ∧ stopChan (bitOf 2 y) (bitOf 3 y) = 0 →
    ∃ t, exec (.stopInputChange pin level) s = .next t ∧
      t.stop.pins = y ∧ t.get bMpc Rg.FS_STAT.CH0 = 0 ∧ t.get bMpc Rg.FS_STAT.CH1 = 0 ∧ t.get bMpc Rg.FS_STAT.DEC_A = 0 ∧ t.get bMpc Rg.FS_STAT.DEC_B = 0 ∧
      t.get bMpc Rg.FS_STAT.LATCHED = s.get bMpc Rg.FS_STAT.LATCHED ∧ t.get bMpc Rg.FS_CAUSE.CAUSE = s.get bMpc Rg.FS_CAUSE.CAUSE ∧
      Frame [wMpc] s t { s with cells := t.cells, stop := t.stop }) ∧
  (∀ (ch a : Nat) (s : State),
    ch < 2 ∧ 2 ≤ s.chanOf ch ∧ s.stop.disAt.getD ch none = some a ∧ s.passed a 10 = true →
    ∃ t, exec (.stopDisagTimeout ch) s = .next t ∧
      (t.get bMpc (if ch = 0 then Rg.FS_EVT.DISAG0 else Rg.FS_EVT.DISAG1) = 1 ∧ t.stop = { s.stop with disAt := listSet s.stop.disAt ch none }) ∧
      Frame [wMpc, wRc] s t { s with cells := t.cells, stop := t.stop, toggles := t.toggles, log := t.log }) ∧
  (∀ (a : Nat) (s : State),
    ((s.chanOf 0 = 0 ∧ s.chanOf 1 = 1) ∨ (s.chanOf 0 = 1 ∧ s.chanOf 1 = 0)) ∧ s.stop.xmisAt = some a ∧ s.passed a (max 1 (s.get bMpc Rg.FS_CFG.XMIS_MS)) = true →
    ∃ t, exec .stopXmisTimeout s = .next t ∧
      t.get bMpc Rg.FS_EVT.XMIS = 1 ∧ t.stop = { s.stop with xmisAt := none } ∧
      Frame [wMpc, wRc] s t { s with cells := t.cells, stop := t.stop, toggles := t.toggles, log := t.log }) ∧
  (∀ (m : Master) (s : State),
    mayIsland s m = true ∧ s.on .aon = true →
    ∃ t, exec (.swStop m) s = .next t ∧
      t.get bMpc Rg.FS_STAT.LATCHED = 1 ∧ t.get bMpc Rg.FS_CAUSE.CAUSE = s.get bMpc Rg.FS_CAUSE.CAUSE ||| 4 ∧
      (t.radio = (if s.flag bMpc Rg.FS_STAT.LATCHED then s.radio else { s.radio with lanes := s.radio.lanes.map MacLane.stopped_ })) ∧
      (s.flag bMpc Rg.FS_STAT.LATCHED = true ∨ (t.get bMpc Rg.MODE_STAT.FSTOP = 1 ∧ t.get bMpc Rg.FS_CAUSE.STOP_ID = (s.get bMpc Rg.FS_CAUSE.STOP_ID + 1) % 2 ^ 16 ∧ t.get bMpc Rg.FS_LATCH_AT.AT = s.now % 2 ^ 64 ∧ t.get bMpc Rg.FS_EVT.LATCH = 1 ∧ t.get bMpc Rg.FS_STAT.TEST = 0)) ∧
      Frame [wMpc, wRc] s t { s with cells := t.cells, stop := t.stop, radio := t.radio, toggles := t.toggles, log := t.log, pcie := t.pcie, resp := ⟨.ok, 0⟩ }) ∧
  (∀ (decA decB agree : Bool) (s : State),
    s.flag bMpc Rg.FS_STAT.SS_OK = true ∧ 500000 ≤ s.slotPhase ∧ s.slotPhase < 1900000 ∧ s.stop.checked ≠ some s.asn ∧ s.slotStopped = false →
    ∃ t, exec (.ssSlotCheck decA decB agree) s = .next t ∧
      t.get bMpc Rg.FS_STAT.DEC_A = b2n decA ∧ t.get bMpc Rg.FS_STAT.DEC_B = b2n decB ∧ t.get bMpc Rg.FS_STAT.SS_OK = b2n agree ∧
      (t.stop.checked = some s.asn ∧ t.stop.mismatch = (s.stop.mismatch || decA != decB || ((decA || decB) && !s.flag bMpc Rg.FS_STAT.LATCHED))) ∧
      Frame [wMpc, wRc] s t { s with cells := t.cells, stop := t.stop, toggles := t.toggles, log := t.log }) ∧
  (∀ (decA decB agree : Bool) (seen n : Nat) (good : Bool) (miss : Nat) (s : State),
    s.flag bMpc Rg.FS_STAT.SS_OK = true ∧ 500000 ≤ s.slotPhase ∧ s.slotPhase < 1900000 ∧ s.stop.checked ≠ some s.asn ∧ s.slotStopped = true ∧ seen = (if s.stop.seen.1 = s.asn then s.stop.seen.2 else 0) →
    s.stop.testFrom ≤ s.asn ∧ s.flag bMpc Rg.FS_STAT.LATCHED = true ∧ s.stop.test = some (n, good) ∧ miss = s.get bMpc Rg.FS_PORT.ACTIVE - (s.get bMpc Rg.FS_PORT.ACTIVE &&& seen) →
    ∃ t, exec (.ssSlotCheck decA decB agree) s = .next t ∧
      t.get bMpc Rg.FS_PORT.SEEN = s.get bMpc Rg.FS_PORT.ACTIVE &&& seen ∧ t.get bMpc Rg.FS_PORT.MISS = s.get bMpc Rg.FS_PORT.MISS ||| miss ∧
      t.stop.test = some (n + 1, good && miss == 0) ∧
      Frame [wMpc, wRc] s t { s with cells := t.cells, stop := t.stop, toggles := t.toggles, log := t.log }) ∧
  (∀ (m : Master) (inputsOk : Bool) (s : State),
    mayIsland s m = true ∧ s.on .aon = true ∧ s.flag bMpc Rg.FS_STAT.LATCHED = true ∧ s.get bMpc Rg.FS_STAT.CH0 = 0 ∧ s.get bMpc Rg.FS_STAT.CH1 = 0 →
    ∃ t, exec (.pathTest m inputsOk) s = .next t ∧
      (t.get bMpc Rg.FS_STAT.TEST = (if inputsOk then 1 else 3) ∧ t.stop.test = (if inputsOk then some (0, true) else s.stop.test) ∧ (inputsOk = true → t.stop.testFrom = s.asnAt (s.nowNs + 800000) + 1)) ∧
      Frame [wMpc] s t { s with cells := t.cells, stop := t.stop, toggles := t.toggles, resp := ⟨.ok, 0⟩ }) ∧
  (∀ (n : Nat) (good : Bool) (s : State),
    s.stop.test = some (n, good) ∧ 10 ≤ n ∧ s.get bMpc Rg.FS_STAT.TEST = 1 →
    ∃ t, exec .pathTestDone s = .next t ∧
      (t.get bMpc Rg.FS_STAT.TEST = (if good then 2 else 4) ∧ t.get bMpc Rg.FS_EVT.TEST_DONE = 1 ∧ t.stop.test = none) ∧
      Frame [wMpc] s t { s with cells := t.cells, stop := t.stop, toggles := t.toggles }) ∧
  (∀ (udp : Bool) (r : YxReq) (s : State),
    s.on .io = true ∧ s.fstopOk udp = true ∧ s.yx.serving = some r ∧ yxOp r.frame = 0x50 →
    ∃ t, exec (.fstop udp) s = .next t ∧
      t.get bMpc Rg.FS_STAT.LATCHED = 1 ∧ t.get bMpc Rg.FS_CAUSE.CAUSE = s.get bMpc Rg.FS_CAUSE.CAUSE ||| 8 ∧ t.yx.serving = none ∧ t.yx.last.getLast? = some (⟨r, 0, [0]⟩ : YxLast) ∧
      Frame [wMpc, wRc, wYx] s t { s with cells := t.cells, stop := t.stop, radio := t.radio, toggles := t.toggles, log := t.log, pcie := t.pcie, yx := t.yx }) ∧
  (∀ (a : Nat) (s : State),
    s.stop.runAt = some a ∧ s.passed a s.runMin = true ∧ s.get bMpc Rg.FS_STAT.CH0 = 0 ∧ s.get bMpc Rg.FS_STAT.CH1 = 0 →
    ∃ t, exec .runMinElapsed s = .next t ∧
      t.get bMpc Rg.FS_STAT.RUN_OK = 1 ∧
      Frame [wMpc] s t { s with cells := t.cells })

/-- Release of a fleet stop: the challenge, the checks and the commit (R390, R391, R392, R394). -/
def Obligations.StopReleaseIsChecked : Prop :=
  (∀ (r : YxReq) (s : State),
    s.yx.serving = some r ∧ yxOp r.frame = 0x51 →
    ∃ t, exec .fstopChal s = .next t ∧
      t.get bMpc Rg.FS_CHAL.CHAL = (Config.trng s.free).toNat % 2 ^ 64 ∧ t.stop.chal = true ∧ t.free = s.free + 1 ∧ t.yx.serving = none ∧
      t.yx.last.getLast? = some (⟨r, 0, 0 :: leBytes 8 ((Config.trng s.free).toNat % 2 ^ 64)⟩ : YxLast) ∧
      Frame [wMpc, wYx] s t { s with cells := t.cells, stop := { s.stop with chal := true, chalAt := s.nowNs }, toggles := t.toggles, pcie := t.pcie, yx := t.yx, free := s.free + 1 }) ∧
  (∀ (s : State),
    s.stop.chal = true ∧ s.passed s.stop.chalAt 60000 = true →
    ∃ t, exec .challengeExpiry s = .next t ∧
      t.get bMpc Rg.FS_CHAL.CHAL = 0 ∧
      Frame [wMpc] s t { s with cells := t.cells, stop := { s.stop with chal := false } }) ∧
  (∀ (race : Nat) (r : YxReq) (a : List Byte) (s : State),
    s.yx.serving = some r ∧ s.yxServing 0x52 = some a ∧ s.releaseCheck (a.take 16) race = 0 →
    ∃ t, exec (.fstopRelease race) s = .next t ∧
      t.get bMpc Rg.FS_STAT.LATCHED = 0 ∧ t.get bMpc Rg.MODE_STAT.FSTOP = 0 ∧ t.get bMpc Rg.FS_CAUSE.CAUSE = 0 ∧ t.get bMpc Rg.FS_RES.RESULT = 0 ∧ t.get bMpc Rg.FS_CHAL.CHAL = 0 ∧
      t.get bMpc Rg.FS_PEPOCH.EPOCH = (s.get bMpc Rg.FS_PEPOCH.EPOCH + 1) % 2 ^ 16 ∧ t.get bMpc Rg.FS_REL_AT.AT = s.now % 2 ^ 64 ∧ t.get bMpc Rg.FS_EVT.RELEASE = 1 ∧
      t.yx.last.getLast? = some (⟨r, 0, [0]⟩ : YxLast) ∧
      Frame [wMpc, wYx] s t { s with cells := t.cells, stop := { s.stop with chal := false }, toggles := t.toggles, pcie := t.pcie, yx := t.yx }) ∧
  (∀ (race n : Nat) (r : YxReq) (a : List Byte) (s : State),
    s.yx.serving = some r ∧ s.yxServing 0x52 = some a ∧ n = s.releaseCheck (a.take 16) race ∧ 0 < n ∧ n < 7 →
    ∃ t, exec (.fstopRelease race) s = .next t ∧
      t.get bMpc Rg.FS_RES.RESULT = n ∧ t.get bMpc Rg.FS_CHAL.CHAL = 0 ∧ t.get bMpc Rg.FS_EVT.REL_REFUSED = 1 ∧ t.get bMpc Rg.FS_STAT.LATCHED = s.get bMpc Rg.FS_STAT.LATCHED ∧ t.get bMpc Rg.FS_CAUSE.CAUSE = s.get bMpc Rg.FS_CAUSE.CAUSE ∧
      t.yx.last.getLast? = some (⟨r, 0, [BitVec.ofNat 8 n]⟩ : YxLast) ∧
      Frame [wMpc, wYx] s t { s with cells := t.cells, stop := { s.stop with chal := false }, toggles := t.toggles, pcie := t.pcie, yx := t.yx }) ∧
  (∀ (r : YxReq) (s : State),
    s.yx.serving = some r ∧ yxOp r.frame = 0x53 →
    ∃ t, exec .fstopStatus s = .next t ∧
      t.yx.serving = none ∧ t.yx.last.getLast? = some (⟨r, 0, 0 :: (leBytes 4 (s.word bMpc .FS_STAT) ++ leBytes 4 (s.word bMpc .FS_CAUSE) ++ leBytes 4 (s.word bMpc .FS_PORT) ++ leBytes 4 (s.word bMpc .FS_PEPOCH))⟩ : YxLast) ∧
      Frame [wYx] s t { s with cells := t.cells, toggles := t.toggles, pcie := t.pcie, yx := t.yx })

/-- TRK tiles: enable, disable, the origin, speed profiles, submissions and software reservations (R397, R398, R400, R402, R404, R405, R415). -/
def Obligations.TrackTilesAreControlled : Prop :=
  (∀ (m : Master) (trk : Nat) (s : State),
    trk < 4 ∧ mayWriteService s m = true ∧ 0 < s.lanesAt (trkPos trk) ∧ s.on (domOf (islandOf (trkPos trk))) = true →
    s.flag (trkBase trk) Rg.TK_CTRL.EN = false ∧ s.trkRefusal trk = 0 →
    ∃ t, exec (.tkEnable m trk) s = .next t ∧
      t.get (trkBase trk) Rg.TK_CTRL.EN = 1 ∧ t.get (trkBase trk) Rg.TK_STAT.RUN = 1 ∧ t.get (trkBase trk) Rg.TK_STAT.REFUSE = 0 ∧ t.get (trkBase trk) Rg.TK_STAT.HOME = b2n (s.trkHome == some trk) ∧ t.get (trkBase trk) Rg.TK_STAT.IODS = s.iods % 8 ∧
      Frame [wTile (trkPos trk)] s t { s with cells := t.cells, resp := ⟨.ok, 0⟩ }) ∧
  (∀ (m : Master) (trk : Nat) (s : State),
    trk < 4 ∧ mayWriteService s m = true ∧ 0 < s.lanesAt (trkPos trk) ∧ s.on (domOf (islandOf (trkPos trk))) = true →
    s.flag (trkBase trk) Rg.TK_CTRL.EN = true ∧ (List.range 64).all (fun n => s.tmState (trk * 64 + n) == 0) = true →
    ∃ t, exec (.tkDisable m trk) s = .next t ∧
      t.get (trkBase trk) Rg.TK_CTRL.EN = 0 ∧ t.get (trkBase trk) Rg.TK_STAT.RUN = 0 ∧
      t.tracks = { s.tracks with frozen := s.tracks.frozen.filter (fun n => n != trk), subs := s.tracks.subs.filter (fun p => p.1 != trk) } ∧
      Frame [wTile (trkPos trk)] s t { s with cells := t.cells, tracks := t.tracks, resp := ⟨.ok, 0⟩ }) ∧
  (∀ (trk : Nat) (s : State),
    s.trkOn trk = true ∧ s.iods ≠ s.get (trkBase trk) Rg.TK_STAT.IODS ∧ s.tracks.frozen.contains trk = false ∧ (List.range 64).all (fun n => s.tmState (trk * 64 + n) != 4) = true →
    ∃ t, exec (.originChange trk) s = .next t ∧
      t.get (trkBase trk) Rg.TK_EVT.ORIGIN_CHG = 1 ∧ t.tracks = { s.tracks with frozen := s.tracks.frozen ++ [trk] } ∧
      Frame [wTile (trkPos trk)] s t { s with cells := t.cells, tracks := t.tracks, toggles := t.toggles }) ∧
  (∀ (m : Master) (trk j v : Nat) (s : State),
    trk < 4 ∧ j < 32 ∧ mayWriteService s m = true ∧ 0 < s.lanesAt (trkPos trk) ∧ s.on (domOf (islandOf (trkPos trk))) = true →
    bits 48 16 v ≠ 0 ∧ bits 0 16 v ≤ bits 32 16 v ∧ bits 16 16 v ≤ bits 32 16 v ∧ bits 32 16 v ≤ bits 48 16 v ∧ s.lanesUsing trk j = [] →
    ∃ t, exec (.profileVWrite m trk j v) s = .next t ∧
      t.get (trkBase trk + j * 0x10) Rg.TK_PROFV.V_START = bits 0 16 v ∧ t.get (trkBase trk + j * 0x10) Rg.TK_PROFV.V_STOP = bits 16 16 v ∧ t.get (trkBase trk + j * 0x10) Rg.TK_PROFV.V_KNEE = bits 32 16 v ∧ t.get (trkBase trk + j * 0x10) Rg.TK_PROFV.V_MAX = bits 48 16 v ∧
      t.get (trkBase trk) Rg.TK_PRES.RESULT = 0 ∧ t.get (trkBase trk) Rg.TK_PRES.PROFILE = j ∧
      Frame [wTile (trkPos trk)] s t { s with cells := t.cells, resp := ⟨.ok, 0⟩ }) ∧
  (∀ (m : Master) (trk j v : Nat) (s : State),
    trk < 4 ∧ j < 32 ∧ mayWriteService s m = true ∧ 0 < s.lanesAt (trkPos trk) ∧ s.on (domOf (islandOf (trkPos trk))) = true ∧ bits 48 16 v = 0 →
    ∃ t, exec (.profileVWrite m trk j v) s = .next t ∧
      t.get (trkBase trk) Rg.TK_PRES.RESULT = 1 ∧ t.get (trkBase trk) Rg.TK_PRES.PROFILE = j ∧ t.get (trkBase trk) Rg.TK_EVT.PROF_REFUSED = 1 ∧ t.get (trkBase trk + j * 0x10) Rg.TK_PROFV.V_MAX = s.get (trkBase trk + j * 0x10) Rg.TK_PROFV.V_MAX ∧
      Frame [wTile (trkPos trk)] s t { s with cells := t.cells, toggles := t.toggles, resp := ⟨.ok, 0⟩ }) ∧
  (∀ (m : Master) (trk j v : Nat) (s : State),
    trk < 4 ∧ j < 32 ∧ mayWriteService s m = true ∧ 0 < s.lanesAt (trkPos trk) ∧ s.on (domOf (islandOf (trkPos trk))) = true →
    bits 0 16 v ≠ 0 ∧ bits 16 16 v ≠ 0 ∧ bits 32 16 v ≠ 0 ∧ bits 48 16 v ≠ 0 ∧ s.lanesUsing trk j = [] →
    ∃ t, exec (.profileAWrite m trk j v) s = .next t ∧
      t.get (trkBase trk + j * 0x10) Rg.TK_PROFA.A1 = bits 0 16 v ∧ t.get (trkBase trk + j * 0x10) Rg.TK_PROFA.A2 = bits 16 16 v ∧ t.get (trkBase trk + j * 0x10) Rg.TK_PROFA.D1 = bits 32 16 v ∧ t.get (trkBase trk + j * 0x10) Rg.TK_PROFA.D2 = bits 48 16 v ∧
      t.get (trkBase trk) Rg.TK_PRES.RESULT = 0 ∧ t.get (trkBase trk) Rg.TK_PRES.PROFILE = j ∧
      Frame [wTile (trkPos trk)] s t { s with cells := t.cells, resp := ⟨.ok, 0⟩ }) ∧
  (∀ (m : Master) (trk v : Nat) (s : State),
    trk < 4 ∧ mayWriteService s m = true ∧ 0 < s.lanesAt (trkPos trk) ∧ s.on (domOf (islandOf (trkPos trk))) = true ∧ s.get (trkBase trk) Rg.TK_SUBRES.STATUS ≠ 15 →
    ∃ t, exec (.taskSubmit m trk v) s = .next t ∧
      t.get (trkBase trk) Rg.TK_SUBRES.STATUS = 15 ∧ t.get (trkBase trk) Rg.TK_SUBRES.HANDLE = 0 ∧ t.tracks = { s.tracks with subs := s.tracks.subs ++ [(trk, v)] } ∧
      Frame [wTile (trkPos trk)] s t { s with cells := t.cells, tracks := t.tracks, resp := ⟨.ok, 0⟩ }) ∧
  (∀ (trk v n : Nat) (k : TrkTask) (raw g : List Byte) (s : State),
    trk < 4 ∧ s.tracks.subs.find? (fun p => p.1 == trk) = some (trk, v) ∧ n = trk * 64 + bits 20 6 v ∧ 0 < s.disp.freeCount 1 ∧ bits 0 20 v < s.get (trkBase trk) Rg.TK_AREA.COUNT →
    s.trkLaneOn n = true ∧ s.disp.assigned (s.get (tmBase n) Rg.TM_CFG.TASK_FLOW) = true ∧ (s.readTask trk (bits 0 20 v) 0).2 = some (k, raw, g) ∧ s.recordCode trk raw k g = 0 →
    0 < s.disp.freeCount (s.disp.flowOf (s.get (tmBase n) Rg.TM_CFG.TASK_FLOW)).part ∧ s.disp.entries = [] →
    ∃ t, exec (.taskSubmitChecked trk) s = .next t ∧
      t.get (trkBase trk) Rg.TK_SUBRES.STATUS = 0 ∧ t.tracks.subs = s.tracks.subs.erase (trk, v) ∧
      (∃ y ∈ t.disp.entries, t.disp.entries = [y] ∧ y.tag = bits 0 20 v ∧ y.flow = s.get (tmBase n) Rg.TM_CFG.TASK_FLOW ∧ y.prio = bits 27 3 v ∧ y.held = bitOf 26 v ∧ t.get (trkBase trk) Rg.TK_SUBRES.HANDLE = y.handle % 2 ^ 22) ∧
      BytesKept s t ∧ RegsKept [wTile (trkPos trk), wDdr, wDsp] s t) ∧
  (∀ (m : Master) (n : Nat) (r : Resv) (s : State),
    s.trkHome = some n ∧ mayWriteService s m = true ∧ 0 < s.lanesAt (trkPos n) ∧ s.on (domOf (islandOf (trkPos n))) = true ∧ s.get (trkBase n) Rg.TR_RES.STATUS ≠ 15 →
    r = ⟨0, ownerSw, s.getS (trkBase n) Rg.TR_REQ0.E, s.getS (trkBase n) Rg.TR_REQ0.N, s.getS (trkBase n) Rg.TR_REQ1.E, s.getS (trkBase n) Rg.TR_REQ1.N, 2 * s.get (trkBase n) Rg.TR_REQ4.HALF_W, s.get (trkBase n) Rg.TR_REQ2.T_START, s.get (trkBase n) Rg.TR_REQ3.T_END, false, false⟩ →
    r.from_ < r.till ∧ r.half2 ≠ 0 ∧ s.tracks.table.all (fun y => !r.conflicts y) = true ∧ s.tracks.table.length < 65536 →
    ∃ t, exec (.trReserve m) s = .next t ∧
      (t.get (trkBase n) Rg.TR_RES.STATUS = 0 ∧ ∃ k ∈ t.tracks.table, t.tracks.table = s.tracks.table ++ [k] ∧ { k with id := 0 } = r ∧ t.get (trkBase n) Rg.TR_RES.ID = k.id % 2 ^ 16 ∧ s.tracks.table.all (fun y => y.id != k.id) = true) ∧
      Frame [wTile (trkPos n)] s t { s with cells := t.cells, tracks := t.tracks, resp := ⟨.ok, 0⟩ }) ∧
  (∀ (m : Master) (n j : Nat) (s : State),
    s.trkHome = some n ∧ mayWriteService s m = true ∧ 0 < s.lanesAt (trkPos n) ∧ s.on (domOf (islandOf (trkPos n))) = true ∧ s.get (trkBase n) Rg.TR_RES.STATUS ≠ 15 →
    j = s.get (trkBase n) Rg.TR_REQ4.ID →
    ∃ t, exec (.trFree m) s = .next t ∧
      (t.get (trkBase n) Rg.TR_RES.STATUS = (if s.tracks.table.any (fun y => y.id == j) then 0 else 4) ∧ t.tracks.table = s.tracks.table.filter (fun y => y.id != j)) ∧
      Frame [wTile (trkPos n)] s t { s with cells := t.cells, tracks := t.tracks, resp := ⟨.ok, 0⟩ }) ∧
  (∀ (id : Nat) (s : State),
    (s.tracks.table.any (fun y => y.id == id && !y.held && decide (y.till ≤ s.nowNs))) = true →
    ∃ t, exec (.reservationExpire id) s = .next t ∧
      t.tracks = { s.tracks with table := s.tracks.table.filter (fun y => y.id != id) } ∧ t.get s.homeBase Rg.TR_STAT.USED = (s.tracks.table.filter (fun y => y.id != id)).length % 2 ^ 17 ∧
      Frame [wTiles] s t { s with cells := t.cells, tracks := t.tracks })

/-- Machine lanes: dispatch, reservations, permits, pause, resume, abort and reports (R406, R407, R408, R409, R410, R411, R413, R414, R415, R419). -/
def Obligations.MachineLanesFollowTheirTasks : Prop :=
  (∀ (handle m : Nat) (e : Entry) (k : TrkTask) (raw g : List Byte) (s : State),
    s.disp.find handle = some e ∧ e.handle = handle ∧ s.flowMachine e.flow = some m ∧ e.st = EState.inService ∧ s.trkLaneOn m = true ∧ s.get (tmBase m) Rg.TM_CFG.TASK_FLOW = e.flow ∧ s.tmState m = 0 ∧ s.mode ≠ .maintenance →
    (s.readTask (m / 64) e.tag e.handle).2 = some (k, raw, g) ∧ e.depCan = false ∧ s.machReady m = false →
    ∃ t, exec (.taskDispatch handle) s = .next t ∧
      t.tmState m = 1 ∧ t.get (tmBase m) Rg.TM_STAT.HANDLE = handle % 2 ^ 22 ∧ t.get (tmBase m) Rg.TM_STAT.SEG = 0 ∧
      (t.mach m).task = some k ∧ (t.mach m).segs = segsOf k.e0 k.n0 0 k.nseg g ∧ (t.mach m).plans = [] ∧ (t.mach m).req = false ∧
      BytesKept s t ∧ RegsKept [wTile (trkPos (m / 64)), wDdr] s t) ∧
  (∀ (mach : Nat) (k : TrkTask) (s : State),
    mach < 256 ∧ (s.mach mach).req = true ∧ s.tmState mach = 2 ∧ (s.mach mach).task = some k ∧ bitOf 0 k.flags = false →
    s.tracks.table.all (fun y => (s.resvOf mach).all (fun r => !r.conflicts y)) = true ∧ s.tracks.table.length + (s.resvOf mach).length ≤ 65536 →
    ∃ t, exec (.reservationRequest mach) s = .next t ∧
      t.tmState mach = 3 ∧ t.get (tmBase mach) Rg.TM_T0.AT = ((s.mach mach).plans.head?.map (fun p => p.at_)).getD 0 % 2 ^ 64 ∧ (t.mach mach).req = false ∧ (t.mach mach).refused = none ∧
      (s.resvOf mach).all (fun r => t.tracks.table.any (fun y => { y with id := 0 } == r)) = true ∧
      RegsKept [wTiles, wDdr, wDsp] s t) ∧
  (∀ (mach : Nat) (k : TrkTask) (s : State),
    mach < 256 ∧ (s.mach mach).req = true ∧ s.tmState mach = 2 ∧ (s.mach mach).task = some k ∧ bitOf 0 k.flags = false →
    s.tracks.table.any (fun y => (s.resvOf mach).any (fun r => r.conflicts y)) = true →
    ∃ t, exec (.reservationRequest mach) s = .next t ∧
      t.tmState mach = 2 ∧ (t.mach mach).req = false ∧ (t.mach mach).refused = some s.nowNs ∧ t.tracks.table = s.tracks.table ∧
      t.get s.homeBase Rg.TK_CNT.CONFLICT = satAdd Rg.TK_CNT.CONFLICT.w (s.get s.homeBase Rg.TK_CNT.CONFLICT) 1 ∧ t.get s.homeBase Rg.TK_EVT.CONFLICT = 1 ∧ t.get (tmBase mach) Rg.TM_EVT.WAIT_RES = 1 ∧
      Frame [wTiles] s t { s with cells := t.cells, tracks := t.tracks, toggles := t.toggles }) ∧
  (∀ (mach a : Nat) (s : State),
    mach < 256 ∧ (s.mach mach).refused = some a ∧ s.tmState mach = 2 ∧ a + 100000000 ≤ s.nowNs ∧ s.tracks.frozen.contains (mach / 64) = false →
    ∃ t, exec (.reservationRetry mach) s = .next t ∧
      (t.mach mach).req = true ∧ (t.mach mach).refused = none ∧ ((t.mach mach).plans.head?.map (fun y => y.at_)) = some (s.nowNs + max (s.get (trkBase (mach / 64)) Rg.TK_CFG.LEAD) 1 * 1000000) ∧
      Frame [] s t { s with tracks := t.tracks }) ∧
  (∀ (handle shr m typ : Nat) (e : Entry) (pl : List Byte) (ws : List Nat) (s : State),
    s.disp.find handle = some e ∧ e.st = EState.inService ∧ e.item = some (typ, ws) ∧ shr = ws.getD 1 0 ∧ m = e.tag % 256 ∧ s.flowMachine e.flow = some m ∧ s.trkLaneOn m = true ∧ s.get (tmBase m) Rg.TM_CFG.TASK_FLOW ≠ e.flow →
    (s.memRead (s.slotAddr (macPos (m / 32)) posDsp (bits 19 12 e.tag)) (bits 8 11 e.tag)).2 = some pl ∧ leAt pl 0 1 = 1 ∧ 38 ≤ pl.length ∧ s.disp.hwq = [] ∧ s.tmState m = 0 ∧ (s.mach m).task = none ∧ (s.mach m).abortAt = none →
    ∃ t, exec (.machineReport handle) s = .next t ∧
      t.get (tmBase m) Rg.TM_POS.E = leAt pl 2 4 ∧ t.get (tmBase m) Rg.TM_POS.N = leAt pl 6 4 ∧ t.get (tmBase m) Rg.TM_PROG.S = leAt pl 18 4 ∧ t.get (tmBase m) Rg.TM_STAT.HALTED = bits 3 1 (leAt pl 1 1) ∧ t.get (tmBase m) Rg.TM_STAT.FIX = bits 2 1 (leAt pl 1 1) ∧
      (t.mach m).last = some (reportOf pl shr) ∧ t.disp.entries.all (fun y => y.idx != e.idx) = true ∧
      BytesKept s t ∧ RegsKept [wTile (trkPos (m / 64)), wDdr, wDsp] s t) ∧
  (∀ (p : Nat) (s : State),
    p < 8 ∧ s.asn % 10 = 0 ∧ 300000 ≤ s.slotPhase ∧ (List.range 32).all (fun n => s.trkLaneOn (p * 32 + n) && s.tmState (p * 32 + n) == 0 && (s.mach (p * 32 + n)).task == none) = true →
    ∃ t, exec (.permitBitmap p) s = .next t ∧
      (List.range 32).all (fun n => t.flag (tmBase (p * 32 + n)) Rg.TM_STAT.PERMIT == bitOf n (s.permitSent p)) = true ∧
      Frame [wTile (trkPos (p / 2))] s t { s with cells := t.cells }) ∧
  (∀ (y : Master) (mach : Nat) (s : State),
    mach < 256 ∧ mayWriteService s y = true ∧ s.on (domOf (islandOf (trkPos (mach / 64)))) = true ∧ s.trkLaneOn mach = true ∧ s.tmState mach = 4 →
    ∃ t, exec (.taskPause (some y) mach) s = .next t ∧
      t.tmState mach = 5 ∧ t.get (tmBase mach) Rg.TM_PROG.REMAIN = 0xFFFFFFFF ∧ t.get (tmBase mach) Rg.TM_EVT.PAUSED = 1 ∧ (t.mach mach).remain = none ∧ (t.mach mach).resume = false ∧
      (t.tracks.table = (s.tracks.table.filter (fun k => k.owner != mach || k.park || decide (k.from_ ≤ s.nowNs))).map (fun k => if k.owner = mach ∧ !k.park then { k with held := true, till := 2 ^ 64 - 1 } else k)) ∧
      RegsKept [wTiles, wDdr, wDsp] s t) ∧
  (∀ (y : Master) (mach : Nat) (s : State),
    mach < 256 ∧ mayWriteService s y = true ∧ s.on (domOf (islandOf (trkPos (mach / 64)))) = true ∧ s.trkLaneOn mach = true ∧ s.tmState mach = 7 ∧ s.machReady mach = false →
    ∃ t, exec (.taskResume (some y) mach) s = .next t ∧
      t.tmState mach = 1 ∧ t.get (tmBase mach) Rg.TM_STAT.HOLD_CAUSE = 0 ∧ t.mach mach = { s.mach mach with depCan := false } ∧
      Frame [wTile (trkPos (mach / 64))] s t { s with cells := t.cells, tracks := t.tracks, resp := ⟨.ok, 0⟩ }) ∧
  (∀ (mach : Nat) (s : State),
    mach < 256 ∧ s.trkLaneOn mach = true ∧ s.flag (tmBase mach) Rg.TM_CFG.AUTO_RESUME = true ∧ s.tmState mach = 5 ∧ s.machReady mach = true ∧ (s.mach mach).remain.isSome = true ∧ (s.mach mach).abortAt = none →
    s.flag bMpc Rg.FS_STAT.LATCHED = false ∧ s.mode ≠ .maintenance ∧ s.tracks.frozen.contains (mach / 64) = false →
    ∃ t, exec (.taskResume none mach) s = .next t ∧
      t.tmState mach = 2 ∧ (t.mach mach).req = true ∧ (t.mach mach).resume = true ∧
      Frame [wTile (trkPos (mach / 64))] s t { s with cells := t.cells, tracks := t.tracks }) ∧
  (∀ (m : Master) (mach : Nat) (k : TrkTask) (s : State),
    mach < 256 ∧ mayWriteService s m = true ∧ s.on (domOf (islandOf (trkPos (mach / 64)))) = true ∧ s.trkLaneOn mach = true ∧ s.tmState mach = 7 ∧ (s.mach mach).abortAt = none ∧ (s.mach mach).task = some k →
    ∃ t, exec (.taskAbort m mach) s = .next t ∧
      t.tmState mach = 0 ∧ t.get (tmBase mach) Rg.TM_DONE.HANDLE = k.handle % 2 ^ 22 ∧ t.get (tmBase mach) Rg.TM_DONE.STATUS = 1 ∧ t.get (tmBase mach) Rg.TM_EVT.DONE = 1 ∧ (t.mach mach).task = none ∧
      Frame [wTiles, wDsp] s t { s with cells := t.cells, tracks := t.tracks, disp := t.disp, links := t.links, toggles := t.toggles, resp := ⟨.ok, 0⟩ }) ∧
  (∀ (m : Master) (mach : Nat) (s : State),
    mach < 256 ∧ mayWriteService s m = true ∧ s.on (domOf (islandOf (trkPos (mach / 64)))) = true ∧ s.trkLaneOn mach = true ∧ s.tmState mach ≠ 0 ∧ s.tmState mach ≠ 7 ∧ (s.mach mach).abortAt = none →
    ∃ t, exec (.taskAbort m mach) s = .next t ∧
      t.tmState mach = s.tmState mach ∧ (t.mach mach).abortAt = some s.nowNs ∧ (t.mach mach).req = false ∧
      RegsKept [wTiles, wDdr, wDsp] s t) ∧
  (∀ (mach a : Nat) (k : TrkTask) (s : State),
    mach < 256 ∧ (s.mach mach).abortAt = some a ∧ a + 5000000000 ≤ s.nowNs ∧ (s.mach mach).task = some k →
    ∃ t, exec (.abortTimeout mach) s = .next t ∧
      t.tmState mach = 0 ∧ t.get (tmBase mach) Rg.TM_DONE.HANDLE = k.handle % 2 ^ 22 ∧ t.get (tmBase mach) Rg.TM_DONE.STATUS = 1 ∧ t.get (tmBase mach) Rg.TM_EVT.DONE = 1 ∧ (t.mach mach).task = none ∧
      Frame [wTiles, wDsp] s t { s with cells := t.cells, tracks := t.tracks, disp := t.disp, links := t.links, toggles := t.toggles })

/-- Ethernet ports: links, frames received, queued, sent and stamped (R424, R425, R426, R427, R428, R430, R475). -/
def Obligations.EthernetPortsCarryFrames : Prop :=
  (∀ (port : Nat) (up : Bool) (speed word : Nat) (s : State),
    port < 4 ∧ s.ethOn port = true ∧ s.flag (ethBase port) Rg.ETH_STAT.LINK ≠ up ∧ s.inPair port = false →
    ∃ t, exec (.ethLinkChange port up speed word) s = .next t ∧
      t.get (ethBase port) Rg.ETH_STAT.LINK = b2n up ∧ t.get (ethBase port) Rg.ETH_EVT.LINK_CHG = 1 ∧
      (t.get (ethBase port) Rg.ETH_STAT.SPEED = (if up then (if port < 2 then 0 else if s.ethPcs port = 1 then 1 else max 1 (speed % 4)) else s.get (ethBase port) Rg.ETH_STAT.SPEED)) ∧
      (port < 2 ∨ t.get (ethBase port) Rg.ETH_LP.AN_DONE = b2n up) ∧
      Frame [wEth] s t { s with cells := t.cells, toggles := t.toggles }) ∧
  (∀ (port sub : Nat) (y : List Byte) (s : State),
    port < 4 ∧ s.linkOn port = true →
    ∃ t, exec (.ethFrameReceive port y false sub) s = .next t ∧
      t.get (ethBase port) Rg.ETH_CNT2.RX_DROP = satAdd Rg.ETH_CNT2.RX_DROP.w (s.get (ethBase port) Rg.ETH_CNT2.RX_DROP) 1 ∧
      Frame [wEth] s t { s with cells := t.cells }) ∧
  (∀ (port sub : Nat) (y : List Byte) (s : State),
    port < 4 ∧ s.eth.ports.length = 4 ∧ s.linkOn port = true ∧ y.length + 4 ≤ s.maxFrame port ∧ etherType y ≠ 0x88B5 ∧ (s.ptpAt port y).isSome = true →
    ∃ t, exec (.ethFrameReceive port y true sub) s = .next t ∧
      t.get (ethBase port) Rg.ETH_CNT.RX_OK = satAdd Rg.ETH_CNT.RX_OK.w (s.get (ethBase port) Rg.ETH_CNT.RX_OK) 1 ∧ t.port port = { s.port port with ptp := some (y, (⟨port, s.now, sub % 256, s.get bTime Rg.TIME_STAT.GEN⟩ : Stamp)) } ∧
      Frame [wEth] s t { s with cells := t.cells, eth := t.eth }) ∧
  (∀ (port sub : Nat) (y : List Byte) (s : State),
    port < 4 ∧ s.linkOn port = true ∧ y.length + 4 ≤ s.maxFrame port ∧ etherType y ≠ 0x88B5 ∧ (s.ptpAt port y).isSome = false ∧ udpDst y = some 4742 ∧ s.yx.queue.length < 4 →
    ∃ t, exec (.ethFrameReceive port y true sub) s = .next t ∧
      t.get (ethBase port) Rg.ETH_CNT.RX_OK = satAdd Rg.ETH_CNT.RX_OK.w (s.get (ethBase port) Rg.ETH_CNT.RX_OK) 1 ∧ t.yx.queue = s.yx.queue ++ [⟨some (udpSource port y), udpPayload y⟩] ∧
      Frame [wEth] s t { s with cells := t.cells, yx := { s.yx with queue := t.yx.queue } }) ∧
  (∀ (port src id : Nat) (q : QPkt) (d : List Byte) (u : State) (s : State),
    port < 4 ∧ s.eth.ports.length = 4 ∧ s.waitingItem (ethPos port) 0x70 = some (id, q) ∧ s.producer id = src ∧ s.ethOn port = true ∧ s.inPair port = false →
    (s.pulled (ethPos port) 0x70).memRead (s.slotAddr src (ethPos port) (bits 0 12 (q.data.headD 0))) (bits 12 14 (q.data.headD 0)) = (u, some d) ∧ d.length + 4 ≤ s.maxFrame port →
    ∃ t, exec (.ethTxItem port) s = .next t ∧
      t.rx = s.rx.erase (id, q) ∧ t.port port = { s.port port with fifo := (s.port port).fifo ++ [(⟨1 + src, none, q.slot.map (fun k => (id, k)), bitOf 26 (q.data.headD 0), bitOf 27 (q.data.headD 0), none, d⟩ : TxFrame)] } ∧
      t = { u with eth := t.eth }) ∧
  (∀ (m : Master) (port : Nat) (d : List Byte) (s : State),
    port < 4 ∧ s.eth.ports.length = 4 ∧ (mayWriteService s m || m == .tp) = true ∧ s.ethOn port = true ∧ s.inPair port = false →
    0 < s.get (ethBase port) Rg.ETH_SWTX_CTL.FREE ∧ ddrBase ≤ s.get (ethBase port) Rg.ETH_SWTX.ADDR ∧ s.memFault (s.get (ethBase port) Rg.ETH_SWTX.ADDR) (max (s.get (ethBase port) Rg.ETH_SWTX.LEN) 1) = none →
    (s.memRead (s.get (ethBase port) Rg.ETH_SWTX.ADDR) (s.get (ethBase port) Rg.ETH_SWTX.LEN)).2 = some d ∧ d.length + 4 ≤ s.maxFrame port →
    ∃ t, exec (.ethSwtxGo m port) s = .next t ∧
      t.get (ethBase port) Rg.ETH_SWTX_CTL.FREE = s.get (ethBase port) Rg.ETH_SWTX_CTL.FREE - 1 ∧ t.port port = { s.port port with fifo := (s.port port).fifo ++ [(⟨0, some port, none, false, false, none, d⟩ : TxFrame)] } ∧
      BytesKept s t ∧ RegsKept [wDdr, wEth, wRc] s t) ∧
  (∀ (port sub p : Nat) (y : TxFrame) (s : State),
    port < 4 ∧ s.eth.ports.length = 4 ∧ s.linkOn port = true ∧ nextTx (s.port port).prod (s.port port).fifo = some y ∧ (s.ptpAt port y.data).isSome = false ∧ y.sw = some p ∧ p < 4 →
    ∃ t, exec (.ethTxDone port sub) s = .next t ∧
      t.port port = { s.port port with fifo := (s.port port).fifo.erase y, prod := y.prod, line := y.data } ∧ t.get (ethBase port) Rg.ETH_CNT.TX_OK = satAdd Rg.ETH_CNT.TX_OK.w (s.get (ethBase port) Rg.ETH_CNT.TX_OK) 1 ∧
      t.get (ethBase p) Rg.ETH_SWTX_CTL.FREE = (s.get (ethBase p) Rg.ETH_SWTX_CTL.FREE + 1) % 2 ^ Rg.ETH_SWTX_CTL.FREE.w ∧
      (t.links = (match y.ring with | some r => (s.freeSlot r.1 r.2).links | none => s.links) ∧ RegsKept [wEth] s t)) ∧
  (∀ (port sub : Nat) (y : TxFrame) (s : State),
    port < 4 ∧ s.eth.ports.length = 4 ∧ s.linkOn port = true ∧ nextTx (s.port port).prod (s.port port).fifo = some y ∧ (s.ptpAt port y.data).isSome = false ∧ y.sw = none →
    ∃ t, exec (.ethTxDone port sub) s = .next t ∧
      t.port port = { s.port port with fifo := (s.port port).fifo.erase y, prod := y.prod, line := y.data } ∧ t.get (ethBase port) Rg.ETH_CNT.TX_OK = satAdd Rg.ETH_CNT.TX_OK.w (s.get (ethBase port) Rg.ETH_CNT.TX_OK) 1 ∧
      (t.links = (match y.ring with | some r => (s.freeSlot r.1 r.2).links | none => s.links) ∧ RegsKept [wEth] s t)) ∧
  (∀ (m : Master) (port : Nat) (s : State),
    port < 4 ∧ s.eth.ports.length = 4 ∧ s.on .io = true →
    ∃ t, exec (.tsfifoPop m port) s = .next t ∧
      t.resp = ⟨.ok, s.word (ethBase port) .ETH_TSINFO⟩ ∧ t.port port = { s.port port with stamps := (s.port port).stamps.tail } ∧
      t.get (ethBase port) Rg.ETH_TSINFO.VALID = b2n ((s.port port).stamps.tail != []) ∧ t.get (ethBase port) Rg.ETH_TSFIFO.TS = ((s.port port).stamps.tail.head?.map (fun y => y.ts)).getD 0 % 2 ^ 64 ∧
      Frame [wEth] s t { s with cells := t.cells, eth := t.eth, resp := t.resp })

/-- The uplink pair: heartbeats, windows, fail-over, flush, repair and switch (R432, R433, R434, R435, R437, R438, R439). -/
def Obligations.UplinkPairFailsOver : Prop :=
  (∀ (port : Nat) (s : State),
    s.eth.ports.length = 4 ∧ s.inPair port = true ∧ s.linkOn port = true ∧ s.flag (ethBase 0) Rg.UP_CFG.HB_EN = true ∧ s.onMilli = true ∧ (s.port port).hbAt ≠ some s.nowNs →
    ∃ t, exec (.heartbeatSend port) s = .next t ∧
      t.port port = { s.port port with hbSeq := ((s.port port).hbSeq + 1) % 2 ^ 32, line := s.hbFrame port, hbAt := some s.nowNs } ∧ t.get (ethBase port) Rg.ETH_CNT.TX_OK = satAdd Rg.ETH_CNT.TX_OK.w (s.get (ethBase port) Rg.ETH_CNT.TX_OK) 1 ∧
      Frame [wEth] s t { s with cells := t.cells, eth := t.eth }) ∧
  (∀ (n : Nat) (s : State),
    s.eth.ports.length = 4 ∧ s.paired = true ∧ s.flag (ethBase 0) Rg.UP_CFG.HB_EN = true ∧ s.onMilli = true ∧ s.eth.winAt ≠ some s.nowNs ∧ (s.port 0).hit = true ∧ (s.port 1).hit = false ∧ n = s.get (ethBase 1) Rg.ETH_STAT.MISS ∧ n ≠ 2 ∧ s.role 1 ≠ 4 →
    ∃ t, exec .hbWindowEnd s = .next t ∧
      t.get (ethBase 0) Rg.ETH_STAT.MISS = 0 ∧ t.get (ethBase 1) Rg.ETH_STAT.MISS = min (n + 1) 3 ∧ (t.port 0).hit = false ∧ t.role 0 = s.role 0 ∧ t.role 1 = s.role 1 ∧
      Frame [wEth] s t { s with cells := t.cells, eth := t.eth }) ∧
  (∀ (s : State),
    s.eth.ports.length = 4 ∧ s.paired = true ∧ s.flag (ethBase 0) Rg.UP_CFG.HB_EN = true ∧ s.onMilli = true ∧ s.eth.winAt ≠ some s.nowNs ∧ (s.port 0).hit = false ∧ (s.port 1).hit = true ∧ s.get (ethBase 0) Rg.ETH_STAT.MISS = 2 ∧ s.role 0 = 1 ∧ s.role 1 = 2 →
    ∃ t, exec .hbWindowEnd s = .next t ∧
      t.role 0 = 3 ∧ t.role 1 = 1 ∧ t.get (ethBase 0) Rg.ETH_EVT.HB_LOSS = 1 ∧ t.get (ethBase 0) Rg.ETH_EVT.FAILOVER = 1 ∧ t.get (ethBase 0) Rg.UP_LAST.INSTANT = s.now % 2 ^ 64 ∧
      t.get (ethBase 0) Rg.UP_STAT.SWITCHES = satAdd Rg.UP_STAT.SWITCHES.w (s.get (ethBase 0) Rg.UP_STAT.SWITCHES) 1 ∧ t.get (ethBase 0) Rg.UP_STAT.ACTIVE = 1 ∧ t.eth.drain = some (0, s.nowNs) ∧
      Frame [wEth, wRc] s t { s with cells := t.cells, eth := t.eth, toggles := t.toggles, log := t.log }) ∧
  (∀ (p a : Nat) (s : State),
    s.eth.ports.length = 4 ∧ s.eth.drain = some (p, a) ∧ p < 4 ∧ a + 2000000 ≤ s.nowNs →
    ∃ t, exec .failoverFlush s = .next t ∧
      t.eth.drain = none ∧ (t.port p).fifo = [] ∧ t.get (ethBase p) Rg.ETH_EVT.FLUSH = 1 ∧ t.get (ethBase p) Rg.ETH_CNT2.FLUSHED = satAdd Rg.ETH_CNT2.FLUSHED.w (s.get (ethBase p) Rg.ETH_CNT2.FLUSHED) (s.port p).fifo.length ∧ RegsKept [wEth] s t) ∧
  (∀ (port p : Nat) (s : State),
    s.eth.ports.length = 4 ∧ s.inPair port = true ∧ s.role port = 4 ∧ s.linkOn port = true ∧ (s.port port).since + s.repairTime ≤ s.nowNs ∧ s.ptpReady port = true ∧ s.activePath = some p →
    ∃ t, exec (.repairComplete port) s = .next t ∧
      t.role port = 2 ∧ t.get (ethBase port) Rg.ETH_EVT.STANDBY = 1 ∧ t.port port = { s.port port with seen := none } ∧
      Frame [wEth] s t { s with cells := t.cells, eth := t.eth, toggles := t.toggles }) ∧
  (∀ (port : Nat) (s : State),
    s.eth.ports.length = 4 ∧ s.inPair port = true ∧ s.role port = 4 ∧ s.linkOn port = true ∧ (s.port port).since + s.repairTime ≤ s.nowNs ∧ s.ptpReady port = true ∧ s.activePath = none →
    ∃ t, exec (.repairComplete port) s = .next t ∧
      t.role port = 1 ∧ t.port port = { s.port port with seen := none, fifo := (s.port port).fifo ++ s.eth.queue } ∧ t.eth.queue = [] ∧
      Frame [wEth] s t { s with cells := t.cells, eth := t.eth }) ∧
  (∀ (m : Master) (p : Nat) (s : State),
    s.eth.ports.length = 4 ∧ (mayWriteService s m || m == .tp) = true ∧ s.on .io = true ∧ s.ethPcs 0 ≠ 0 ∧ s.eth.drain = none ∧ s.activePath = some p ∧ s.role (1 - p) = 2 →
    ∃ t, exec (.uplinkSwitch m) s = .next t ∧
      t.role p = 2 ∧ t.role (1 - p) = 1 ∧ t.get (ethBase 0) Rg.UP_STAT.SW_RES = 0 ∧ t.get (ethBase 0) Rg.UP_STAT.SWITCHES = satAdd Rg.UP_STAT.SWITCHES.w (s.get (ethBase 0) Rg.UP_STAT.SWITCHES) 1 ∧ t.eth.drain = some (p, s.nowNs) ∧
      Frame [wEth] s t { s with cells := t.cells, eth := t.eth, resp := ⟨.ok, 0⟩ }) ∧
  (∀ (m : Master) (s : State),
    (mayWriteService s m || m == .tp) = true ∧ s.on .io = true ∧ s.ethPcs 0 ≠ 0 ∧ s.eth.drain.isSome = true →
    ∃ t, exec (.uplinkSwitch m) s = .next t ∧
      t.get (ethBase 0) Rg.UP_STAT.SW_RES = 2 ∧
      Frame [wEth] s t { s with cells := t.cells, resp := ⟨.ok, 0⟩ })

/-- Packet tiles: contexts enabled, frames taken by their context, payloads copied out, and RCV_NXT written (R442, R443, R445, R446, R447, R448). -/
def Obligations.PacketContextsTakeFrames : Prop :=
  (∀ (pk src x : Nat) (q : QPkt) (y : List Byte) (g : IpGram) (u : State) (s : State),
    pk < 8 ∧ x < 1024 ∧ s.item (pkPos pk) 0x71 = some (src, q) ∧ (s.taken (pkPos pk) 0x71).memRead (s.slotAddr src (pkPos pk) (bits 0 12 (q.data.headD 0))) (bits 12 14 (q.data.headD 0)) = (u, some y) →
    ipGram y = some g ∧ g.sumOk = true ∧ g.frag = false ∧ g.proto = 17 ∧ u.rxContext pk g = some x ∧ u.ctxProto pk x = 0 →
    ∃ t, exec (.pktRxItem pk) s = .next t ∧
      t.rx = u.rx ∧ t.get (pcBase pk x) Rg.PC_CNT.RX = satAdd Rg.PC_CNT.RX.w (s.get (pcBase pk x) Rg.PC_CNT.RX) 1 ∧
      RegsKept [wTile (pkPos pk), wTiles, wDsp, wDdr] u t) ∧
  (∀ (pk src : Nat) (q : QPkt) (y : List Byte) (u : State) (s : State),
    pk < 8 ∧ s.item (pkPos pk) 0x71 = some (src, q) ∧ (s.taken (pkPos pk) 0x71).memRead (s.slotAddr src (pkPos pk) (bits 0 12 (q.data.headD 0))) (bits 12 14 (q.data.headD 0)) = (u, some y) ∧ ipGram y = none →
    ∃ t, exec (.pktRxItem pk) s = .next t ∧
      t.get (kindBase .pkt pk) Rg.PK_CNT.HDR_ERR = satAdd Rg.PK_CNT.HDR_ERR.w (u.get (kindBase .pkt pk) Rg.PK_CNT.HDR_ERR) 1 ∧ t.get (kindBase .pkt pk) Rg.PK_EVT.HDR_ERR = 1 ∧
      Frame [wTile (pkPos pk)] u t { u with cells := t.cells, toggles := t.toggles }) ∧
  (∀ (pk id x : Nat) (q : QPkt) (y : List Byte) (u : State) (s : State),
    pk < 8 ∧ x < 1024 ∧ s.rx.find? (fun p => s.isItem (pkPos pk) 0x54 p || s.isItem (pkPos pk) 0x30 p) = some (id, q) ∧ pktType q.lw = 0x30 →
    (s.taken (pkPos pk) 0x30).memRead (s.slotAddr (s.producer id) (pkPos pk) (bits 0 12 (q.data.headD 0))) (bits 12 11 (q.data.headD 0)) = (u, some y) →
    u.txContexts pk (s.inputPort (pkPos pk) id) 2 0 = [x] ∧ u.ctxKind pk x = 4 →
    ∃ t, exec (.pktTxItem pk) s = .next t ∧
      (t.rx = u.rx ∧ ((t.get (pcBase pk x) Rg.PC_CNT.TX = satAdd Rg.PC_CNT.TX.w (s.get (pcBase pk x) Rg.PC_CNT.TX) 1 ∧ t.get (pcBase pk x) Rg.PC_CNT.DROP = s.get (pcBase pk x) Rg.PC_CNT.DROP) ∨ (t.get (pcBase pk x) Rg.PC_CNT.TX = s.get (pcBase pk x) Rg.PC_CNT.TX ∧ t.get (pcBase pk x) Rg.PC_CNT.DROP = satAdd Rg.PC_CNT.DROP.w (s.get (pcBase pk x) Rg.PC_CNT.DROP) 1))) ∧
      RegsKept [wTiles, wDdr, wDsp, wRc] s t) ∧
  (∀ (m : Master) (pk x : Nat) (s : State),
    pk < 8 ∧ x < 1024 ∧ mayWriteService s m = true ∧ x < s.lanesAt (pkPos pk) ∧ s.on (domOf (islandOf (pkPos pk))) = true →
    s.flag (pcBase pk x) Rg.PC_CFG.OWNED = false ∧ s.ctxOn pk x = false ∧ s.ctxRefusal pk x = 0 →
    ∃ t, exec (.pktCtxEnable m pk x) s = .next t ∧
      t.get (pcBase pk x) Rg.PC_CFG.EN = 1 ∧ t.get (pcBase pk x) Rg.PC_STAT.RUN = 1 ∧ t.get (pcBase pk x) Rg.PC_STAT.REFUSE = 0 ∧ t.ctx pk x = PktCtx.off ∧
      Frame [wTile (pkPos pk)] s t { s with cells := t.cells, pkt := t.pkt, resp := ⟨.ok, 0⟩ }) ∧
  (∀ (m : Master) (pk x v : Nat) (s : State),
    pk < 8 ∧ x < 1024 ∧ mayWriteService s m = true ∧ x < s.lanesAt (pkPos pk) ∧ s.on (domOf (islandOf (pkPos pk))) = true →
    ∃ t, exec (.rcvNxtWrite m pk x v) s = .next t ∧
      t.get (pcBase pk x) Rg.PC_TCP.RCV_NXT = v % 2 ^ 32 ∧ t.get (pcBase pk x) Rg.PC_STAT.GAP = 0 ∧ t.ctx pk x = { s.ctx pk x with buf := [], search := false } ∧
      Frame [wTile (pkPos pk)] s t { s with cells := t.cells, pkt := t.pkt, resp := ⟨.ok, 0⟩ })

/-- CAN: enable, frames received and sent, errors, bus off and recovery, rate detection (R452, R453, R454, R457, R460, R461, R465). -/
def Obligations.CanControllersTakePart : Prop :=
  (∀ (m : Master) (n : Nat) (s : State),
    n < 4 ∧ s.cans.length = 4 ∧ mayWriteService s m = true ∧ s.canFitted n = true ∧ s.flag (cnBase n) Rg.CN_CTRL.EN = false ∧ s.badTiming n = false ∧ s.badTt n = false ∧ (s.can n).adr = none →
    ∃ t, exec (.canEnable m n) s = .next t ∧
      t.get (cnBase n) Rg.CN_CTRL.EN = 1 ∧ t.get (cnBase n) Rg.CN_STAT.REFUSE = 0 ∧ t.cnState n = 1 ∧ t.get (cnBase n) Rg.CN_STAT.TEC = 0 ∧ t.get (cnBase n) Rg.CN_STAT.REC = 0 ∧ t.get (cnBase n) Rg.CN_TT_STAT.SYNC = 0 ∧
      t.can n = { s.can n with tx := none, cycAt := none, startAt := none, begun := [], far := 0, near := 0 } ∧
      Frame [wCan] s t { s with cells := t.cells, cans := t.cans, resp := ⟨.ok, 0⟩ }) ∧
  (∀ (m : Master) (n : Nat) (s : State),
    n < 4 ∧ mayWriteService s m = true ∧ s.canFitted n = true ∧ s.flag (cnBase n) Rg.CN_CTRL.EN = false ∧ s.badTiming n = true →
    ∃ t, exec (.canEnable m n) s = .next t ∧
      t.get (cnBase n) Rg.CN_CTRL.EN = 0 ∧ t.get (cnBase n) Rg.CN_STAT.REFUSE = 2 ∧ t.get (cnBase n) Rg.CN_EVT.REFUSED = 1 ∧
      Frame [wCan] s t { s with cells := t.cells, toggles := t.toggles, resp := ⟨.ok, 0⟩ }) ∧
  (∀ (n : Nat) (s : State),
    s.cans.length = 4 ∧ s.canOn n = true ∧ s.cnState n = 1 ∧ s.get (cnBase n) Rg.CN_STAT.TEC ≤ 127 ∧ s.get (cnBase n) Rg.CN_STAT.REC ≤ 127 ∧ (s.can n).objs = [] →
    ∃ t, exec (.canBusIntegrated n) s = .next t ∧
      t.cnState n = 2 ∧
      Frame [wCan] s t { s with cells := t.cells }) ∧
  (∀ (n id : Nat) (ide fdf brs esi : Bool) (dlc : Nat) (data : List Byte) (sof o : Nat) (y : CanObj) (s : State),
    n < 4 ∧ s.cans.length = 4 ∧ s.canActive n = true ∧ (s.can n).adr = none ∧ (fdf = false ∨ s.flag (cnBase n) Rg.CN_CFG.FD_EN = true) ∧ s.get (cnBase n) Rg.CN_CFG.OPMODE ≠ 2 →
    (s.can n).tx = none ∧ (s.can n).lock = none ∧ s.ttOn n = false ∧ (s.can n).objs = [(o, y)] ∧ y.tx = false ∧ y.id = id ∧ y.ide = ide →
    ∃ t, exec (.canFrameRx n id ide fdf brs esi false dlc data sof) s = .next t ∧
      ((t.can n).obj o = some (y.take ⟨id, ide, dlc % 16, fdf, brs, esi, padTo (dlcLen (dlc % 16) fdf) data, sof, s.get bTime Rg.TIME_STAT.GEN⟩ y.isNew) ∨ y.pend = true) ∧
      (t.get (cnBase n) Rg.CN_CNT.LOST = (if y.isNew then satAdd Rg.CN_CNT.LOST.w (s.get (cnBase n) Rg.CN_CNT.LOST) 1 else s.get (cnBase n) Rg.CN_CNT.LOST)) ∧
      Frame [wCan] s t { s with cells := t.cells, cans := t.cans, toggles := t.toggles, free := t.free }) ∧
  (∀ (n id : Nat) (ide fdf brs esi : Bool) (dlc : Nat) (data : List Byte) (sof : Nat) (s : State),
    n < 4 ∧ s.cans.length = 4 ∧ s.canActive n = true ∧ (s.can n).adr = none ∧ (fdf = false ∨ s.flag (cnBase n) Rg.CN_CFG.FD_EN = true) ∧ s.get (cnBase n) Rg.CN_CFG.OPMODE ≠ 2 →
    (s.can n).objs = [] ∧ (s.can n).tx = none →
    ∃ t, exec (.canFrameRx n id ide fdf brs esi false dlc data sof) s = .next t ∧
      t.get (cnBase n) Rg.CN_CNT.NOMATCH = satAdd Rg.CN_CNT.NOMATCH.w (s.get (cnBase n) Rg.CN_CNT.NOMATCH) 1 ∧
      Frame [wCan] s t { s with cells := t.cells, toggles := t.toggles, free := t.free }) ∧
  (∀ (n sof loop dom rec_ o : Nat) (y : CanObj) (d : List Byte) (s : State),
    n < 4 ∧ s.cans.length = 4 ∧ s.canSends n = true ∧ (s.can n).tx = some (o, CanTx.request, d) ∧ (s.can n).objs = [(o, y)] ∧ s.get (cnBase n) Rg.CN_CFG.OPMODE ≠ 2 →
    ∃ t, exec (.canTxDone n sof loop dom rec_) s = .next t ∧
      (t.can n).tx = none ∧ (t.can n).obj o = some { y with pend := false, frame := some ⟨y.id, y.ide, y.dlc, y.fdf, y.brs, s.cnState n == 3, d, sof, s.get bTime Rg.TIME_STAT.GEN⟩ } ∧ t.get (cnBase n) Rg.CN_TXREQ.PENDING = 0 ∧
      t.get (cnBase n) Rg.CN_STAT.TEC = s.get (cnBase n) Rg.CN_STAT.TEC - 1 ∧ t.get (cnBase n) Rg.CN_BUS.LOOP_NS = loop % 2 ^ 10 ∧ t.get (cnBase n) Rg.CN_BUS.DOM_NS = dom % 2 ^ 10 ∧ t.get (cnBase n) Rg.CN_BUS.REC_NS = rec_ % 2 ^ 10 ∧
      Frame [wCan] s t { s with cells := t.cells, cans := t.cans, toggles := t.toggles }) ∧
  (∀ (n : Nat) (s : State),
    n < 4 ∧ s.cans.length = 4 ∧ (s.can n).adr = none ∧ s.canActive n = true ∧ (s.can n).objs = [] ∧ (s.can n).tx = none →
    ∃ t, exec (.canProtocolError n 2) s = .next t ∧
      t.get (cnBase n) Rg.CN_STAT.TEC = satAdd Rg.CN_STAT.TEC.w (s.get (cnBase n) Rg.CN_STAT.TEC) 8 ∧
      (t.cnState n = (if 127 < satAdd Rg.CN_STAT.TEC.w (s.get (cnBase n) Rg.CN_STAT.TEC) 8 ∨ 127 < s.get (cnBase n) Rg.CN_STAT.REC then 3 else 2)) ∧
      Frame [wCan] s t { s with cells := t.cells, toggles := t.toggles }) ∧
  (∀ (n kind : Nat) (a : CanAdr) (s : State),
    n < 4 ∧ s.cans.length = 4 ∧ (s.can n).adr = some a →
    ∃ t, exec (.canProtocolError n kind) s = .next t ∧
      t.can n = { s.can n with adr := some { a with errs := a.errs + 1 } } ∧
      Frame [] s t { s with cans := t.cans }) ∧
  (∀ (n : Nat) (s : State),
    n < 4 ∧ s.cans.length = 4 ∧ s.canActive n = true ∧ 255 < s.get (cnBase n) Rg.CN_STAT.TEC →
    ∃ t, exec (.canBusOff n) s = .next t ∧
      (t.cnState n = (if s.flag (cnBase n) Rg.CN_CFG.AUTO_BOR then 5 else 4) ∧ t.get (cnBase n) Rg.CN_EVT.BUS_OFF = 1 ∧ t.can n = { s.can n with tx := none }) ∧
      Frame [wCan] s t { s with cells := t.cells, cans := t.cans, toggles := t.toggles }) ∧
  (∀ (m : Master) (n : Nat) (s : State),
    n < 4 ∧ mayWriteService s m = true ∧ s.canOn n = true ∧ s.cnState n = 4 →
    ∃ t, exec (.borReq m n) s = .next t ∧
      t.cnState n = 5 ∧
      Frame [wCan] s t { s with cells := t.cells, resp := ⟨.ok, 0⟩ }) ∧
  (∀ (n : Nat) (s : State),
    s.cans.length = 4 ∧ s.canOn n = true ∧ s.cnState n = 5 →
    ∃ t, exec (.busOffRecovered n) s = .next t ∧
      t.cnState n = 2 ∧ t.get (cnBase n) Rg.CN_STAT.TEC = 0 ∧ t.get (cnBase n) Rg.CN_STAT.REC = 0 ∧
      Frame [wCan] s t { s with cells := t.cells, cans := t.cans }) ∧
  (∀ (m : Master) (n : Nat) (s : State),
    n < 4 ∧ s.cans.length = 4 ∧ mayWriteService s m = true ∧ s.canFitted n = true ∧ s.flag (cnBase n) Rg.CN_CTRL.EN = false ∧ (s.can n).adr = none →
    ∃ t, exec (.adrGo m n) s = .next t ∧
      t.get (cnBase n) Rg.CN_ADR.RESULT = 1 ∧ t.get (cnBase n) Rg.CN_ADR.INDEX = 0 ∧ t.cnState n = 6 ∧ t.can n = { s.can n with adr := some ⟨0, 0, s.nowNs, 0, false⟩ } ∧
      Frame [wCan] s t { s with cells := t.cells, cans := t.cans, resp := ⟨.ok, 0⟩ }) ∧
  (∀ (m : Master) (n : Nat) (a : CanAdr) (s : State),
    n < 4 ∧ s.cans.length = 4 ∧ mayWriteService s m = true ∧ s.canFitted n = true ∧ (s.can n).adr = some a →
    ∃ t, exec (.adrAbort m n) s = .next t ∧
      t.get (cnBase n) Rg.CN_ADR.RESULT = 5 ∧ t.cnState n = 0 ∧ t.get (cnBase n) Rg.CN_EVT.ADR_DONE = 1 ∧ t.can n = { s.can n with adr := none } ∧
      Frame [wCan] s t { s with cells := t.cells, cans := t.cans, toggles := t.toggles, resp := ⟨.ok, 0⟩ }) ∧
  (∀ (n : Nat) (a : CanAdr) (s : State),
    n < 4 ∧ s.cans.length = 4 ∧ (s.can n).adr = some a ∧ (8 ≤ a.errs ∨ a.since + max (s.get (cnBase n) Rg.CN_ADR.DWELL_MS) 1 * 1000000 ≤ s.nowNs) ∧ a.good = false ∧ a.idx < s.get (cnBase n) Rg.CN_ADR.COUNT →
    ∃ t, exec (.adrDwellExpiry n) s = .next t ∧
      t.can n = { s.can n with adr := some ⟨a.idx + 1, a.round, s.nowNs, 0, false⟩ } ∧
      Frame [] s t { s with cans := t.cans }) ∧
  (∀ (n : Nat) (dominant : Bool) (s : State),
    n < 4 ∧ s.canOn n = true →
    ∃ t, exec (.canStuckDominant n dominant) s = .next t ∧
      t.get (cnBase n) Rg.CN_BUS.STUCK_DOM = b2n dominant ∧
      Frame [wCan] s t { s with cells := t.cells, toggles := t.toggles })

/-- CAN objects, locks, requests and the time-triggered schedule (R455, R456, R458, R459, R460, R462, R463, R464). -/
def Obligations.CanObjectsAndSchedules : Prop :=
  (∀ (m : Master) (n v o : Nat) (s : State),
    n < 4 ∧ s.cans.length = 4 ∧ mayWriteService s m = true ∧ s.canFitted n = true ∧ o = s.canSel n ∧ bitOf 30 v = true ∧ (s.can n).obj o = none ∧ (s.can n).objs.all (fun p => p.2.id != bits 0 29 v || p.2.ide != bitOf 29 v) = true →
    (bitOf 29 v = true ∨ bits 0 29 v ≤ 0x7FF) ∧ (bitOf 36 v = true ∨ bits 32 4 v ≤ 8) ∧ ((bitOf 36 v = false ∧ bitOf 37 v = false) ∨ s.flag (cnBase n) Rg.CN_CFG.FD_EN = true) →
    ∃ t, exec (.objConfig m n v) s = .next t ∧
      t.get (cnBase n) Rg.CN_OBJ_RES.RESULT = 0 ∧ (t.can n).obj o = some ⟨bits 0 29 v, bitOf 29 v, bitOf 31 v, bitOf 38 v, bits 32 4 v, bitOf 36 v, bitOf 37 v, false, false, false, none, List.replicate 64 0, none, 0⟩ ∧
      Frame [wCan] s t { s with cells := t.cells, cans := t.cans, resp := ⟨.ok, 0⟩ }) ∧
  (∀ (m : Master) (n v : Nat) (s : State),
    n < 4 ∧ s.cans.length = 4 ∧ mayWriteService s m = true ∧ s.canFitted n = true →
    ∃ t, exec (.objSelWrite m n v) s = .next t ∧
      (t.canSel n = v % 2 ^ 9 ∧ (t.can n).lock = none ∧ t.get (cnBase n) Rg.CN_STAT.LOCKED = (if (s.can n).lock.isSome then 0 else s.get (cnBase n) Rg.CN_STAT.LOCKED)) ∧
      Frame [wCan] s t { s with cells := t.cells, cans := t.cans, toggles := t.toggles, resp := ⟨.ok, 0⟩ }) ∧
  (∀ (m : Master) (n o : Nat) (wide : Bool) (y : CanObj) (s : State),
    n < 4 ∧ s.cans.length = 4 ∧ s.canFitted n = true ∧ o = s.canSel n ∧ (s.can n).obj o = some y ∧ (s.can n).lock = none →
    ∃ t, exec (.objLockRead m n wide) s = .next t ∧
      (t.resp = ⟨.ok, s.objWord n 0 + if wide then s.objWord n 1 * 2 ^ 32 else 0⟩ ∧ t.can n = { s.can n with lock := some (o, s.nowNs) } ∧ t.get (cnBase n) Rg.CN_STAT.LOCKED = 1 ∧ t.get (cnBase n) Rg.CN_STAT.SHADOW = b2n y.shadow.isSome) ∧
      Frame [wCan] s t { s with cells := t.cells, cans := t.cans, resp := t.resp }) ∧
  (∀ (m : Master) (n o a : Nat) (wide : Bool) (y : CanObj) (s : State),
    n < 4 ∧ s.cans.length = 4 ∧ s.canFitted n = true ∧ o = s.canSel n ∧ (s.can n).obj o = some y ∧ (s.can n).lock = some (o, a) ∧ y.shadow = none →
    ∃ t, exec (.objReleaseRead m n wide) s = .next t ∧
      (t.resp = ⟨.ok, if wide then s.objWord n 18 + s.objWord n 19 * 2 ^ 32 else s.objWord n 19⟩ ∧ (t.can n).lock = none ∧ (t.can n).obj o = some { y with isNew := false, lost := false } ∧ t.get (cnBase n) Rg.CN_STAT.LOCKED = 0) ∧
      Frame [wCan] s t { s with cells := t.cells, cans := t.cans, resp := t.resp }) ∧
  (∀ (n o a : Nat) (y : CanObj) (g : CanFrame) (mk : Bool) (s : State),
    n < 4 ∧ s.cans.length = 4 ∧ (s.can n).lock = some (o, a) ∧ a + max (s.get (cnBase n) Rg.CN_CFG.LOCK_MS) 1 * 1000000 ≤ s.nowNs ∧ (s.can n).obj o = some y ∧ y.shadow = some (g, mk) →
    ∃ t, exec (.objLockTimeout n) s = .next t ∧
      (t.can n).lock = none ∧ t.get (cnBase n) Rg.CN_EVT.LOCK_TO = 1 ∧ (t.can n).obj o = some ({ y with isNew := false, lost := false, shadow := none }.take g mk) ∧
      Frame [wCan] s t { s with cells := t.cells, cans := t.cans, toggles := t.toggles }) ∧
  (∀ (m : Master) (n obj : Nat) (y : CanObj) (s : State),
    n < 4 ∧ s.cans.length = 4 ∧ mayWriteService s m = true ∧ s.canSends n = true ∧ s.ttOn n = false ∧ (s.can n).objs = [(obj % 512, y)] ∧ y.tx = true ∧ y.pend = false ∧ (s.can n).tx = none →
    ∃ t, exec (.canTxRequest m n obj true) s = .next t ∧
      (t.can n).obj (obj % 512) = some { y with pend := true } ∧ (t.can n).tx = some (obj % 512, CanTx.request, y.payload) ∧ t.get (cnBase n) Rg.CN_TXREQ.PENDING = 1 ∧
      Frame [wCan] s t { s with cells := t.cells, cans := t.cans, resp := ⟨.ok, 0⟩ }) ∧
  (∀ (m : Master) (n obj : Nat) (y : CanObj) (s : State),
    n < 4 ∧ s.cans.length = 4 ∧ mayWriteService s m = true ∧ s.canFitted n = true ∧ (s.can n).obj (obj % 512) = some y ∧ (s.can n).tx = none →
    ∃ t, exec (.canTxCancel m n obj) s = .next t ∧
      (t.can n).obj (obj % 512) = some { y with pend := false } ∧ t.get (cnBase n) Rg.CN_TXREQ.PENDING = ((t.can n).objs.filter (fun p => p.2.pend)).length % 2 ^ 10 ∧
      Frame [wCan] s t { s with cells := t.cells, cans := t.cans, resp := ⟨.ok, 0⟩ }) ∧
  (∀ (n o : Nat) (y : CanObj) (s : State),
    n < 4 ∧ s.cans.length = 4 ∧ s.ttMaster n = true ∧ s.canSends n = true ∧ s.cycleDue n = true ∧ o = s.get (cnBase n) Rg.CN_TT_CFG.REF_OBJ ∧ (s.can n).obj o = some y ∧ (s.can n).tx = none ∧ (s.can n).cycAt.isSome = true →
    ∃ t, exec (.ttCycleStart n) s = .next t ∧
      t.get (cnBase n) Rg.CN_TT_STAT.CYCLE = (s.get (cnBase n) Rg.CN_TT_STAT.CYCLE + 1) % 2 ^ min (s.get (cnBase n) Rg.CN_TT_CFG.CYCLES) 6 ∧ t.get (cnBase n) Rg.CN_TT_STAT.SYNC = 1 ∧
      t.can n = { s.can n with tx := some (o, CanTx.reference, refData y ((s.get (cnBase n) Rg.CN_TT_STAT.CYCLE + 1) % 2 ^ min (s.get (cnBase n) Rg.CN_TT_CFG.CYCLES) 6)), txAt := s.nowNs, cycAt := some s.nowNs, startAt := some s.nowNs, begun := [] } ∧
      Frame [wCan] s t { s with cells := t.cells, cans := t.cans }) ∧
  (∀ (n a : Nat) (s : State),
    n < 4 ∧ (s.can n).cycAt = some a ∧ s.ttOn n = true ∧ s.ttMaster n = false ∧ s.flag (cnBase n) Rg.CN_TT_STAT.SYNC = true ∧ a * 10 + s.get (cnBase n) Rg.CN_TT_CFG.CYC_US * 11000 ≤ s.nowNs * 10 →
    ∃ t, exec (.ttRefTimeout n) s = .next t ∧
      t.get (cnBase n) Rg.CN_TT_STAT.SYNC = 0 ∧ t.get (cnBase n) Rg.CN_EVT.TT_LOSS = 1 ∧
      Frame [wCan] s t { s with cells := t.cells, toggles := t.toggles }) ∧
  (∀ (n w o : Nat) (y : CanObj) (s : State),
    n < 4 ∧ w < 32 ∧ s.cans.length = 4 ∧ s.ttOn n = true ∧ s.canSends n = true ∧ s.windowDue n w = true ∧ s.flag (cnBase n) Rg.CN_TT_STAT.SYNC = true →
    s.get (cnBase n + w * 8) Rg.CN_TT_WIN.KIND = 0 ∧ o = s.get (cnBase n + w * 8) Rg.CN_TT_WIN.OBJ ∧ (s.can n).obj o = some y ∧ y.tx = true ∧ (s.can n).tx = none →
    ∃ t, exec (.ttWindowStart n w true) s = .next t ∧
      t.can n = { s.can n with tx := some (o, CanTx.window, y.payload), txAt := s.nowNs, begun := w :: (s.can n).begun } ∧
      Frame [] s t { s with cans := t.cans })

/-- DMA channels: start, beats, end, abort, the shadow set, suspension and resumption (R479, R481, R483, R484, R485, R486). -/
def Obligations.DmaChannelsMoveData : Prop :=
  (∀ (m : Master) (ch : Nat) (s : State),
    ch < 64 ∧ mayWriteService s m = true ∧ ch % 16 < s.lanesAt (dmPos ch) ∧ s.on (domOf (islandOf (dmPos ch))) = true ∧ (List.range 16).all (fun n => s.dmState (ch / 16 * 16 + n) != 1) = true →
    s.dmState ch = 0 ∧ s.dmRefusal ch = 0 ∧ s.get (dmBase ch) Rg.DM_COUNT.COUNT = 0 ∧ s.flag (dmBase ch) Rg.DM_CREC.CREC_EN = false ∧ s.flag (dmBase ch) Rg.DM_CREC.IRQ = false →
    ∃ t, exec (.dmaArm m ch) s = .next t ∧
      t.dmState ch = 0 ∧ t.get (dmBase ch) Rg.DM_LAST.STATUS = 0 ∧ t.get (dmBase ch) Rg.DM_EVT.DONE = 1 ∧ t.get (dmBase ch) Rg.DM_LAST_BYTES.BYTES = 0 ∧ t.get (dmBase ch) Rg.DM_LAST.CRC = 0xFFFFFFFF ∧
      (t.dm ch).comps = ((s.dm ch).comps + 1) % 2 ^ 32 ∧ (t.dm ch).beats = [] ∧
      Frame [wTile (dmPos ch)] s t { s with cells := t.cells, dma := t.dma, resp := ⟨.ok, 0⟩ }) ∧
  (∀ (m : Master) (ch : Nat) (s : State),
    ch < 64 ∧ mayWriteService s m = true ∧ ch % 16 < s.lanesAt (dmPos ch) ∧ s.on (domOf (islandOf (dmPos ch))) = true ∧ (List.range 16).all (fun n => s.dmState (ch / 16 * 16 + n) != 1 && (s.dm (ch / 16 * 16 + n)).beats == []) = true →
    s.dmState ch = 0 ∧ s.dmRefusal ch = 0 ∧ 0 < s.get (dmBase ch) Rg.DM_COUNT.COUNT ∧ s.flag (dmBase ch) Rg.DM_SRC.LIST = false ∧ s.flag (dmBase ch) Rg.DM_DST.LIST = false →
    ∃ t, exec (.dmaArm m ch) s = .next t ∧
      t.dmState ch = 1 ∧ t.get (dmBase ch) Rg.DM_CRC.CRC = 0xFFFFFFFF ∧ (t.dm ch).bytes = 0 ∧ (t.dm ch).stop = none ∧ (t.dm ch).fail = none ∧
      (t.dm ch).beats ≠ [] ∧ ((t.dm ch).beats.map (fun y => y.n)).sum + t.get (dmBase ch) Rg.DM_COUNT.COUNT = s.get (dmBase ch) Rg.DM_COUNT.COUNT ∧
      Frame [wTile (dmPos ch)] s t { s with cells := t.cells, dma := t.dma, resp := ⟨.ok, 0⟩ }) ∧
  (∀ (m : Master) (ch : Nat) (s : State),
    ch < 64 ∧ mayWriteService s m = true ∧ ch % 16 < s.lanesAt (dmPos ch) ∧ s.on (domOf (islandOf (dmPos ch))) = true ∧ s.dmState ch = 2 →
    ∃ t, exec (.dmaArm m ch) s = .next t ∧
      t.dmState ch = 0 ∧
      Frame [wTile (dmPos ch)] s t { s with cells := t.cells, resp := ⟨.ok, 0⟩ }) ∧
  (∀ (m : Master) (ch : Nat) (s : State),
    ch < 64 ∧ mayWriteService s m = true ∧ ch % 16 < s.lanesAt (dmPos ch) ∧ s.on (domOf (islandOf (dmPos ch))) = true →
    (s.dmState ch = 1 ∨ s.dmState ch = 3) ∧ (s.dm ch).beats = [] ∧ (s.dm ch).fail = none ∧ s.flag (dmBase ch) Rg.DM_CREC.CREC_EN = false →
    ∃ t, exec (.dmaAbort m ch) s = .next t ∧
      t.dmState ch = 2 ∧ t.get (dmBase ch) Rg.DM_LAST.STATUS = 7 ∧ t.get (dmBase ch) Rg.DM_EVT.DONE = 1 ∧ t.get (dmBase ch) Rg.DM_LAST_BYTES.BYTES = (s.dm ch).bytes % 2 ^ 40 ∧ (t.dm ch).stop = none ∧
      Frame [wTile (dmPos ch)] s t { s with cells := t.cells, dma := t.dma, toggles := t.toggles, resp := ⟨.ok, 0⟩ }) ∧
  (∀ (m : Master) (ch : Nat) (s : State),
    ch < 64 ∧ mayWriteService s m = true ∧ ch % 16 < s.lanesAt (dmPos ch) ∧ s.on (domOf (islandOf (dmPos ch))) = true ∧ (List.range 16).all (fun n => s.dmState (ch / 16 * 16 + n) != 1 && (s.dm (ch / 16 * 16 + n)).beats == []) = true →
    s.dmState ch = 2 ∧ s.flag (dmBase ch) Rg.DM_STAT.SH_VALID = true ∧ (s.dmCopy ch).dmRefusal ch = 0 ∧ 0 < s.get (dmBase ch) Rg.DS_COUNT.COUNT ∧ s.flag (dmBase ch) Rg.DS_SRC.LIST = false ∧ s.flag (dmBase ch) Rg.DS_DST.LIST = false →
    ∃ t, exec (.dmaContinue m ch) s = .next t ∧
      t.dmState ch = 1 ∧ t.get (dmBase ch) Rg.DM_STAT.SH_VALID = 0 ∧ t.get (dmBase ch) Rg.DM_TAG.TAG = s.get (dmBase ch) Rg.DS_TAG.TAG ∧ t.get (dmBase ch) Rg.DM_CREC.ADDR = s.get (dmBase ch) Rg.DS_CREC.ADDR ∧
      ((t.dm ch).beats.map (fun y => y.n)).sum + t.get (dmBase ch) Rg.DM_COUNT.COUNT = s.get (dmBase ch) Rg.DS_COUNT.COUNT ∧
      Frame [wTile (dmPos ch)] s t { s with cells := t.cells, dma := t.dma, resp := ⟨.ok, 0⟩ }) ∧
  (∀ (m : Master) (ch : Nat) (s : State),
    ch < 64 ∧ mayWriteService s m = true ∧ ch % 16 < s.lanesAt (dmPos ch) ∧ s.on (domOf (islandOf (dmPos ch))) = true ∧ (List.range 16).all (fun n => s.dmState (ch / 16 * 16 + n) != 1 && (s.dm (ch / 16 * 16 + n)).beats == []) = true →
    s.dmState ch = 4 ∧ s.dmDomainOff ch = false ∧ s.namedOff (s.dm ch).src.host (s.dm ch).src.cur = false ∧ s.namedOff (s.dm ch).dst.host (s.dm ch).dst.cur = false →
    0 < s.get (dmBase ch) Rg.DM_COUNT.COUNT ∧ s.flag (dmBase ch) Rg.DM_SRC.LIST = false ∧ s.flag (dmBase ch) Rg.DM_DST.LIST = false ∧ 0 < (s.dm ch).src.left ∧ 0 < (s.dm ch).dst.left ∧ (s.dm ch).stop = none ∧ (s.dm ch).fail = none →
    ∃ t, exec (.dmaResume m ch) s = .next t ∧
      t.dmState ch = 1 ∧ (t.dm ch).beats ≠ [] ∧ (t.dm ch).bytes = (s.dm ch).bytes ∧ ((t.dm ch).beats.map (fun y => y.n)).sum + t.get (dmBase ch) Rg.DM_COUNT.COUNT = s.get (dmBase ch) Rg.DM_COUNT.COUNT ∧
      Frame [wTile (dmPos ch)] s t { s with cells := t.cells, dma := t.dma, resp := ⟨.ok, 0⟩ }) ∧
  (∀ (m : Master) (ch : Nat) (s : State),
    ch < 64 ∧ mayWriteService s m = true ∧ ch % 16 < s.lanesAt (dmPos ch) ∧ s.on (domOf (islandOf (dmPos ch))) = true ∧ s.dmState ch = 4 ∧ s.dmDomainOff ch = true →
    ∃ t, exec (.dmaResume m ch) s = .next t ∧
      t.dmState ch = 4 ∧ t.get (dmBase ch) Rg.DM_EVT.RESUME_IGN = 1 ∧
      Frame [wTile (dmPos ch)] s t { s with cells := t.cells, toggles := t.toggles, resp := ⟨.ok, 0⟩ }) ∧
  (∀ (m : Master) (ch : Nat) (s : State),
    ch < 64 ∧ mayWriteService s m = true ∧ ch % 16 < s.lanesAt (dmPos ch) ∧ s.on (domOf (islandOf (dmPos ch))) = true →
    ∃ t, exec (.shGo m ch) s = .next t ∧
      t.get (dmBase ch) Rg.DM_STAT.SH_VALID = 1 ∧
      Frame [wTile (dmPos ch)] s t { s with cells := t.cells, resp := ⟨.ok, 0⟩ }) ∧
  (∀ (m : Master) (ch : Nat) (s : State),
    ch < 64 ∧ mayWriteService s m = true ∧ ch % 16 < s.lanesAt (dmPos ch) ∧ s.on (domOf (islandOf (dmPos ch))) = true →
    ∃ t, exec (.shClr m ch) s = .next t ∧
      t.get (dmBase ch) Rg.DM_STAT.SH_VALID = 0 ∧
      Frame [wTile (dmPos ch)] s t { s with cells := t.cells, resp := ⟨.ok, 0⟩ }) ∧
  (∀ (ch : Nat) (host : Option (List Byte)) (y : DmaBeat) (s : State),
    ch < 64 ∧ s.dmState ch = 1 ∧ (s.dm ch).beats = [y] ∧ (s.dm ch).fail = none ∧ (s.dm ch).stop = none ∧ s.get (dmBase ch) Rg.DM_COUNT.COUNT = 0 ∧ s.flag (dmBase ch) Rg.DM_CREC.CREC_EN = false ∧ s.flag (dmBase ch) Rg.DM_STAT.SH_VALID = false →
    y.kind = DmaKind.data ∧ y.sh = false ∧ y.dh = false ∧ 0 < y.n ∧ (s.dmAccess ch y.src y.n).isNone = true ∧ (s.dmAccess ch y.dst y.n).isNone = true ∧ s.poison = [] ∧ s.flips = [] ∧ s.flag bDdr Rg.DDR_INJ.ARMED = false →
    ∃ t, exec (.dmaBeatComplete ch host) s = .next t ∧
      t.bytes y.dst y.n = s.bytes y.src y.n ∧ t.dmState ch = 0 ∧ t.get (dmBase ch) Rg.DM_LAST.STATUS = 0 ∧ t.get (dmBase ch) Rg.DM_LAST_BYTES.BYTES = ((s.dm ch).bytes + y.n) % 2 ^ 40 ∧ t.get (dmBase ch) Rg.DM_EVT.DONE = 1 ∧
      t.get (dmBase ch) Rg.DM_LAST.CRC = crc32cFrom (s.get (dmBase ch) Rg.DM_CRC.CRC) (s.bytes y.src y.n) ∧
      BytesKeptBut y.dst y.n s t ∧ RegsKept [wTiles] s t) ∧
  (∀ (d : Dom) (ch : Nat) (s : State),
    ch < 64 ∧ s.dmState ch = 1 ∧ s.dmAffected d ch = true ∧ (s.dm ch).beats ≠ [] ∧ s.power.holdAt.isSome = true →
    ∃ t, exec (.dmaSuspend d) s = .next t ∧
      t.dmState ch = 3 ∧ (t.dm ch).beats = (s.dm ch).beats ∧
      RegsKept [wTiles, wDdr, wRc] s t) ∧
  (∀ (d : Dom) (ch a : Nat) (s : State),
    ch < 64 ∧ s.power.holdAt = some a ∧ a + 20000 ≤ s.nowNs ∧ s.dmState ch = 3 ∧ s.dmAffected d ch = true →
    ∃ t, exec (.dmaPowerAbort d) s = .next t ∧
      t.dmState ch = 2 ∧ t.get (dmBase ch) Rg.DM_LAST.STATUS = 6 ∧ t.get (dmBase ch) Rg.DM_EVT.DONE = 1 ∧ (t.dm ch).beats = [] ∧
      RegsKept [wTiles, wDdr, wRc] s t)

/-- DDR and stage memory: the scrubs and the injection (R489, R491, R492, R493). -/
def Obligations.MemoryIsScrubbed : Prop :=
  (∀ (ups : List (Nat × Nat)) (n : Nat) (s : State),
    s.on .io = true ∧ s.flag bDdr Rg.DDR_STAT.TRAINED = true ∧ s.flag bDdr Rg.DDR_CFG.SCRUB_EN = true ∧ n = s.get bDdr Rg.DDR_SCRUB.LINE ∧ s.scrub.ddr ≤ s.nowNs * 2 ^ 28 →
    ∃ t, exec (.ddrScrubLine ups) s = .next t ∧
      (t.get bDdr Rg.DDR_SCRUB.LINE = (if s.ddrSize ≤ (n + 1) * 64 then 0 else (n + 1) % 2 ^ Rg.DDR_SCRUB.LINE.w) ∧ t.get bDdr Rg.DDR_SCRUB.PASSES = (if s.ddrSize ≤ (n + 1) * 64 then (s.get bDdr Rg.DDR_SCRUB.PASSES + 1) % 2 ^ 32 else s.get bDdr Rg.DDR_SCRUB.PASSES)) ∧
      t.scrub = { s.scrub with ddr := max s.scrub.ddr (s.nowNs * 2 ^ 28 - s.scrubLine) + s.scrubLine } ∧
      Frame [wDdr, wRc] s t { s with cells := t.cells, flips := t.flips, poison := t.poison, scrub := t.scrub, toggles := t.toggles, log := t.log }) ∧
  (∀ (h o i : Nat) (s : State),
    h < 16 ∧ lookupD (0, 0) h s.scrub.half = (o, i) ∧ o < halfSize / 8 ∧ (o ≠ 0 ∨ i = 0 ∨ i + 600000000000 ≤ s.nowNs) ∧ s.on (halfDom h) = true ∧ s.flips = [] ∧ s.poison = [] →
    ∃ t, exec (.stageScrub h 1) s = .next t ∧
      t.get (bDdr + h * 8) Rg.SM_ECC.CE = satAdd Rg.SM_ECC.CE.w (s.get (bDdr + h * 8) Rg.SM_ECC.CE) 1 ∧ t.get (bDdr + h * 8) Rg.SM_ECC.LAST = o * 8 ∧ t.get (bDdr + h * 8) Rg.SM_ECC.LAST_UE = 0 ∧ t.get bDdr Rg.DDR_EVT.SM_CE = 1 ∧ t.poison = [] ∧
      (lookupD (0, 0) h t.scrub.half = ((o + 1) % (halfSize / 8), if o = 0 then s.nowNs else i)) ∧
      Frame [wDdr, wRc] s t { s with cells := t.cells, flips := t.flips, scrub := t.scrub, toggles := t.toggles, log := t.log }) ∧
  (∀ (h o i n : Nat) (s : State),
    h < 16 ∧ lookupD (0, 0) h s.scrub.half = (o, i) ∧ o < halfSize / 8 ∧ (o ≠ 0 ∨ i = 0 ∨ i + 600000000000 ≤ s.nowNs) ∧ s.on (halfDom h) = true ∧ s.flips = [] ∧ s.poison = [] ∧ 3 ≤ n →
    ∃ t, exec (.stageScrub h n) s = .next t ∧
      t.get (bDdr + h * 8) Rg.SM_ECC.UE = satAdd Rg.SM_ECC.UE.w (s.get (bDdr + h * 8) Rg.SM_ECC.UE) 1 ∧ t.get (bDdr + h * 8) Rg.SM_ECC.LAST_UE = 1 ∧ t.get bDdr Rg.DDR_EVT.SM_UE = 1 ∧ t.poisoned ((stageBase + h * halfSize) / 8 + o) = true ∧
      Frame [wDdr, wRc] s t { s with cells := t.cells, poison := t.poison, scrub := t.scrub, toggles := t.toggles, log := t.log }) ∧
  (∀ (m : Master) (v : Nat) (s : State),
    mayInject s m = true ∧ s.on .io = true →
    ∃ t, exec (.ddrInject m v) s = .next t ∧
      t.get bDdr Rg.DDR_INJ.ADDR = bits 0 40 v ∧ t.get bDdr Rg.DDR_INJ.BITS = bits 40 2 v ∧ t.get bDdr Rg.DDR_INJ.POISON = bits 42 1 v ∧ t.get bDdr Rg.DDR_INJ.ARMED = 1 ∧
      Frame [wDdr] s t { s with cells := t.cells, resp := ⟨.ok, 0⟩ })

/-- The key store: GEN, DERIVE, IMPORT, EXPORT (R508, R511, R512, R513, R514, R515, R516, R518). -/
def Obligations.KeysAreMadeAndPlaced : Prop :=
  (∀ (ch slot w : Nat) (a : KeyAttr) (s : State),
    s.on .sec = true ∧ s.gmTurn ch = true ∧ s.get (gmBase ch) Rg.GM_REQ.DATA % 256 = 1 ∧ s.keySlot slot = none ∧ s.newKeyCheck ch slot a false false = 0 ∧ a.persist = false ∧ a.parent = 0x1FF →
    w = (if a.len256 then 4 else 2) →
    ∃ t, exec (.keyGen ch slot a false) s = .next t ∧
      t.ksState slot = 1 ∧ t.get (ksBase slot) Rg.KS_ATTR.OWNER = ch ∧ t.get (ksBase slot) Rg.KS_ATTR.LEN256 = b2n a.len256 ∧ t.get (ksBase slot) Rg.KS_ATTR.DEST = a.dest % 2 ^ Rg.KS_ATTR.DEST.w ∧ t.get (ksBase slot) Rg.KS_ATTR.USAGE = a.usage % 2 ^ Rg.KS_ATTR.USAGE.w ∧ t.get (ksBase slot) Rg.KS_ATTR.PARENT = a.parent ∧
      t.keySlot slot = some (⟨slot, maskKey (trngBytes w s.free) (trngBytes w (s.free + w)), none⟩ : KeySlot) ∧ t.free = s.free + 2 * w ∧
      t.get (gmBase ch) Rg.GM_STAT.BUSY = 0 ∧ t.get (gmBase ch) Rg.GM_STAT.DONE = 1 ∧ t.get (gmBase ch) Rg.GM_RESULT.DATA % 256 = 0 ∧ t.sec.served = ch ∧
      Frame [wSec] s t { s with cells := t.cells, sec := t.sec, free := t.free, toggles := t.toggles }) ∧
  (∀ (ch slot w : Nat) (a : KeyAttr) (k : KeySlot) (s : State),
    ch < 4 ∧ s.on .sec = true ∧ s.gmTurn ch = true ∧ s.get (gmBase ch) Rg.GM_REQ.DATA % 256 = 1 ∧ s.keySlot slot = some k ∧ s.newKeyCheck ch slot a true false = 0 ∧ s.flag (ksBase slot) Rg.KS_ATTR.PERSIST = false →
    w = (if s.flag (ksBase slot) Rg.KS_ATTR.LEN256 then 4 else 2) ∧ s.sec.slots = [k] ∧ k.slot = slot ∧ s.ksState slot = 1 →
    ∃ t, exec (.keyGen ch slot a true) s = .next t ∧
      t.ksState slot = 1 ∧ t.get (ksBase slot) Rg.KS_ATTR.PENDING = 1 ∧ t.sec.slots = [({ k with pend := some (maskKey (trngBytes w s.free) (trngBytes w (s.free + w))) } : KeySlot)] ∧
      t.get (ksBase slot) Rg.KS_ATTR.CHECK = s.get (ksBase slot) Rg.KS_ATTR.CHECK ∧ t.get (gmBase ch) Rg.GM_STAT.BUSY = 0 ∧ t.get (gmBase ch) Rg.GM_RESULT.DATA % 256 = 0 ∧
      Frame [wSec] s t { s with cells := t.cells, sec := t.sec, free := t.free, toggles := t.toggles }) ∧
  (∀ (ch slot : Nat) (a : KeyAttr) (pend : Bool) (s : State),
    ch < 4 ∧ s.on .sec = true ∧ s.gmTurn ch = true ∧ s.get (gmBase ch) Rg.GM_REQ.DATA % 256 = 1 ∧ s.newKeyCheck ch slot a pend false ≠ 0 →
    ∃ t, exec (.keyGen ch slot a pend) s = .next t ∧
      t.get (gmBase ch) Rg.GM_STAT.BUSY = 0 ∧ t.get (gmBase ch) Rg.GM_STAT.DONE = 1 ∧ t.get (gmBase ch) Rg.GM_RESULT.DATA % 256 = s.newKeyCheck ch slot a pend false ∧ t.sec = { s.sec with served := ch } ∧
      Frame [wSec] s t { s with cells := t.cells, sec := t.sec, toggles := t.toggles }) ∧
  (∀ (ch slot : Nat) (a : KeyAttr) (label ctx : List Byte) (k : KeySlot) (s : State),
    s.on .sec = true ∧ s.gmTurn ch = true ∧ s.get (gmBase ch) Rg.GM_REQ.DATA % 256 = 2 ∧ s.keySlot slot = none ∧ s.newKeyCheck ch slot a false true = 0 ∧ a.persist = false ∧ a.parent < 256 ∧ s.keySlot a.parent = some k →
    1 ≤ label.length ∧ label.length ≤ 32 ∧ ctx.length ≤ 64 →
    ∃ t, exec (.keyDerive ch slot a false label ctx) s = .next t ∧
      t.ksState slot = 1 ∧ t.get (ksBase slot) Rg.KS_ATTR.OWNER = ch ∧ t.get (ksBase slot) Rg.KS_ATTR.PARENT = a.parent ∧ t.get (ksBase slot) Rg.KS_ATTR.DBG_SENS = b2n (a.dbg || s.flag (ksBase a.parent) Rg.KS_ATTR.DBG_SENS) ∧
      ((t.keySlot slot).map (fun y => y.live.chk) = some (checkOf (kdf k.live.bytes label ctx (if a.len256 then 32 else 16))) ∧ t.get (gmBase ch) Rg.GM_STAT.BUSY = 0 ∧ t.get (gmBase ch) Rg.GM_RESULT.DATA % 256 = 0) ∧
      Frame [wSec] s t { s with cells := t.cells, sec := t.sec, free := t.free, toggles := t.toggles }) ∧
  (∀ (ch slot : Nat) (a : KeyAttr) (label ctx : List Byte) (r : List Byte) (s : State),
    s.on .sec = true ∧ s.gmTurn ch = true ∧ s.get (gmBase ch) Rg.GM_REQ.DATA % 256 = 2 ∧ s.sec.slots = [] ∧ s.newKeyCheck ch slot a false true = 0 ∧ a.parent = 0x100 ∧ s.selRoot = some r ∧ s.rootCode = 1 ∧ a.persist = true →
    1 ≤ label.length ∧ label.length ≤ 32 ∧ ctx.length ≤ 64 →
    ∃ t, exec (.keyDerive ch slot a false label ctx) s = .next t ∧
      (t.ksState slot = 1 ∧ (t.keySlot slot).map (fun y => y.live.chk) = some (checkOf (kdf r label ctx (if a.len256 then 32 else 16)))) ∧
      t.get (gmBase ch) Rg.GM_STAT.BUSY = s.get (gmBase ch) Rg.GM_STAT.BUSY ∧ t.get (gmBase ch) Rg.GM_RESULT.DATA % 256 = 1 ∧ t.sec.cur = some (⟨ch, [], t.persistSnap⟩ : GmPend) ∧ t.sec.stored = s.sec.stored ∧
      Frame [wSec] s t { s with cells := t.cells, sec := t.sec, free := t.free }) ∧
  (∀ (ch slot wrap : Nat) (a : KeyAttr) (blob key : List Byte) (v : Key) (s : State),
    s.on .sec = true ∧ s.gmTurn ch = true ∧ s.get (gmBase ch) Rg.GM_REQ.DATA % 256 = 3 ∧ s.keySlot slot = none ∧ s.newKeyCheck ch slot a false false = 0 ∧ a.persist = false ∧ a.parent = 0x1FF →
    s.helperCheck wrap useWrap = 0 ∧ s.liveKey wrap = some v ∧ (blob.length = 24 ∨ blob.length = 40) ∧ kwUnwrap v.bytes blob = some key ∧ key.length = (if a.len256 then 32 else 16) →
    ∃ t, exec (.keyImport ch slot a false wrap blob) s = .next t ∧
      t.ksState slot = 1 ∧ t.get (ksBase slot) Rg.KS_ATTR.OWNER = ch ∧ (t.keySlot slot).map (fun y => (y.live.bytes, y.live.chk)) = some (key, checkOf key) ∧
      t.get (gmBase ch) Rg.GM_STAT.BUSY = 0 ∧ t.get (gmBase ch) Rg.GM_RESULT.DATA % 256 = 0 ∧
      Frame [wSec] s t { s with cells := t.cells, sec := t.sec, free := t.free, toggles := t.toggles }) ∧
  (∀ (ch slot wrap : Nat) (a : KeyAttr) (pend : Bool) (blob : List Byte) (v : Key) (s : State),
    ch < 4 ∧ s.on .sec = true ∧ s.gmTurn ch = true ∧ s.get (gmBase ch) Rg.GM_REQ.DATA % 256 = 3 ∧ s.newKeyCheck ch slot a pend false = 0 ∧ s.helperCheck wrap useWrap = 0 ∧ s.liveKey wrap = some v ∧ (blob.length = 24 ∨ blob.length = 40) ∧ kwUnwrap v.bytes blob = none →
    ∃ t, exec (.keyImport ch slot a pend wrap blob) s = .next t ∧
      t.get (gmBase ch) Rg.GM_STAT.BUSY = 0 ∧ t.get (gmBase ch) Rg.GM_RESULT.DATA % 256 = 0x10 ∧ t.sec = { s.sec with served := ch } ∧
      Frame [wSec] s t { s with cells := t.cells, sec := t.sec, toggles := t.toggles }) ∧
  (∀ (ch slot wrap : Nat) (k v : KeySlot) (s : State),
    ch < 4 ∧ s.on .sec = true ∧ s.gmTurn ch = true ∧ s.get (gmBase ch) Rg.GM_REQ.DATA % 256 = 4 ∧ s.slotCheck ch slot true false = 0 ∧ s.flag (ksBase slot) Rg.KS_ATTR.EXPORT_NEVER = false ∧ s.helperCheck wrap useWrap = 0 ∧ s.keySlot slot = some k ∧ s.keySlot wrap = some v →
    ∃ t, exec (.keyExport ch slot wrap) s = .next t ∧
      t.get (gmBase ch) Rg.GM_STAT.BUSY = 0 ∧ t.get (gmBase ch) Rg.GM_STAT.DONE = 1 ∧ t.getBuf (gmBase ch) Rg.GM_RESULT.DATA 32 = padTo 256 (0 :: kwWrap v.live.bytes k.live.bytes) ∧ t.sec = { s.sec with served := ch } ∧
      Frame [wSec] s t { s with cells := t.cells, sec := t.sec, toggles := t.toggles }) ∧
  (∀ (p : GmPend) (s : State),
    s.sec.cur = some p ∧ p.ch < 4 →
    ∃ t, exec .keyPersistDone s = .next t ∧
      t.sec.cur = none ∧ t.sec.stored = p.snap ∧ t.get (gmBase p.ch) Rg.GM_STAT.BUSY = 0 ∧ t.get (gmBase p.ch) Rg.GM_STAT.DONE = 1 ∧ t.get (gmBase p.ch) Rg.GM_RESULT.DATA % 256 = 0 ∧
      Frame [wSec] s t { s with cells := t.cells, sec := t.sec, toggles := t.toggles })

/-- The key store: COMMIT, DISCARD, INVALIDATE, CHECK, the acknowledgement and the renewal of masks (R511, R512, R515, R516, R517). -/
def Obligations.KeysAreReplacedAndRevoked : Prop :=
  (∀ (ch slot : Nat) (k : KeySlot) (p : Key) (s : State),
    ch < 4 ∧ slot < 256 ∧ s.on .sec = true ∧ s.gmTurn ch = true ∧ s.get (gmBase ch) Rg.GM_REQ.DATA % 256 = 5 ∧ s.slotCheck ch slot true false = 0 ∧ s.sec.slots = [k] ∧ k.slot = slot ∧ k.pend = some p ∧ s.flag (ksBase slot) Rg.KS_ATTR.PERSIST = false →
    ∃ t, exec (.keyCommit ch slot p.chk) s = .next t ∧
      t.sec.slots = [(⟨slot, p, none⟩ : KeySlot)] ∧ t.get (ksBase slot) Rg.KS_ATTR.PENDING = 0 ∧ t.get (ksBase slot) Rg.KS_ATTR.CHECK = p.chk % 2 ^ 24 ∧
      (t.sec.copies = s.sec.copies.map (fun c => if c.slot = slot then { c with nxt := some p } else c) ∧ t.get (gmBase ch) Rg.GM_RESULT.DATA % 256 = 0 ∧ t.get (gmBase ch) Rg.GM_STAT.BUSY = 0) ∧
      Frame [wSec] s t { s with cells := t.cells, sec := t.sec, toggles := t.toggles }) ∧
  (∀ (ch slot check : Nat) (k : KeySlot) (p : Key) (s : State),
    ch < 4 ∧ slot < 256 ∧ s.on .sec = true ∧ s.gmTurn ch = true ∧ s.get (gmBase ch) Rg.GM_REQ.DATA % 256 = 5 ∧ s.slotCheck ch slot true false = 0 ∧ s.sec.slots = [k] ∧ k.slot = slot ∧ k.pend = some p ∧ s.flag (ksBase slot) Rg.KS_ATTR.PERSIST = false ∧ check ≠ p.chk →
    ∃ t, exec (.keyCommit ch slot check) s = .next t ∧
      t.sec.slots = [({ k with pend := none } : KeySlot)] ∧ t.get (ksBase slot) Rg.KS_ATTR.PENDING = 0 ∧ t.sec.copies = s.sec.copies ∧ t.get (gmBase ch) Rg.GM_RESULT.DATA % 256 = 0x0A ∧ t.get (gmBase ch) Rg.GM_STAT.BUSY = 0 ∧
      Frame [wSec] s t { s with cells := t.cells, sec := t.sec, toggles := t.toggles }) ∧
  (∀ (ch slot : Nat) (k : KeySlot) (s : State),
    ch < 4 ∧ slot < 256 ∧ s.on .sec = true ∧ s.gmTurn ch = true ∧ s.get (gmBase ch) Rg.GM_REQ.DATA % 256 = 6 ∧ s.slotCheck ch slot true false = 0 ∧ s.sec.slots = [k] ∧ k.slot = slot ∧ k.pend ≠ none ∧ s.flag (ksBase slot) Rg.KS_ATTR.PERSIST = false →
    ∃ t, exec (.keyDiscard ch slot) s = .next t ∧
      t.sec.slots = [({ k with pend := none } : KeySlot)] ∧ t.get (ksBase slot) Rg.KS_ATTR.PENDING = 0 ∧ t.get (gmBase ch) Rg.GM_RESULT.DATA % 256 = 0 ∧ t.get (gmBase ch) Rg.GM_STAT.BUSY = 0 ∧
      Frame [wSec] s t { s with cells := t.cells, sec := t.sec, toggles := t.toggles }) ∧
  (∀ (ch slot kid : Nat) (k v : KeySlot) (s : State),
    ch < 4 ∧ slot < 256 ∧ kid < 256 ∧ slot ≠ kid ∧ s.on .sec = true ∧ s.gmTurn ch = true ∧ s.get (gmBase ch) Rg.GM_REQ.DATA % 256 = 7 ∧ s.slotCheck ch slot true true = 0 ∧ s.sec.slots = [k, v] ∧ k.slot = slot ∧ v.slot = kid ∧ s.ksState kid = 1 ∧ s.get (ksBase kid) Rg.KS_ATTR.PARENT = slot →
    s.flag (ksBase slot) Rg.KS_ATTR.PERSIST = false ∧ s.flag (ksBase kid) Rg.KS_ATTR.PERSIST = false →
    ∃ t, exec (.keyInvalidate ch slot) s = .next t ∧
      (t.sec.slots = [v] ∧ t.ksState slot = 0 ∧ t.ksState kid = 2 ∧ t.sec.copies = s.sec.copies.map (fun c => if c.slot = slot ∨ c.slot = kid then { c with gone := true } else c)) ∧
      t.getBuf (gmBase ch) Rg.GM_RESULT.DATA 1 = [0, 1, 0, 0, 0, 0, 0, 0] ∧ t.get (gmBase ch) Rg.GM_STAT.BUSY = 0 ∧
      Frame [wSec] s t { s with cells := t.cells, sec := t.sec, toggles := t.toggles }) ∧
  (∀ (ch slot : Nat) (k : KeySlot) (s : State),
    ch < 4 ∧ s.on .sec = true ∧ s.gmTurn ch = true ∧ s.get (gmBase ch) Rg.GM_REQ.DATA % 256 = 8 ∧ s.slotCheck ch slot false false = 0 ∧ s.keySlot slot = some k →
    ∃ t, exec (.keyCheck ch slot) s = .next t ∧
      t.getBuf (gmBase ch) Rg.GM_RESULT.DATA 1 = 0 :: (leBytes 3 k.live.chk ++ leBytes 3 ((k.pend.map (fun y => y.chk)).getD 0) ++ [0]) ∧ t.get (gmBase ch) Rg.GM_STAT.BUSY = 0 ∧ t.sec = { s.sec with served := ch } ∧
      Frame [wSec] s t { s with cells := t.cells, sec := t.sec, toggles := t.toggles }) ∧
  (∀ (m : Master) (ch : Nat) (s : State),
    ch < 4 ∧ gmOwner ch m = true ∧ s.on .sec = true →
    ∃ t, exec (.gmAck m ch) s = .next t ∧
      t.get (gmBase ch) Rg.GM_STAT.DONE = 0 ∧ t.get (gmBase ch) Rg.GM_STAT.BUSY = s.get (gmBase ch) Rg.GM_STAT.BUSY ∧
      Frame [wSec] s t { s with cells := t.cells, resp := ⟨.ok, 0⟩ }) ∧
  (∀ (s : State),
    s.on .sec = true ∧ s.sec.maskAt + min (max (s.get bSec Rg.KS_CFG.REMASK) 1) 600 * 100000000 ≤ s.nowNs ∧ s.sec.slots.all (fun y => y.live.x.length == y.live.m.length && y.live.m.length % 8 == 0 && (y.pend.all (fun z => z.x.length == z.m.length && z.m.length % 8 == 0))) = true →
    ∃ t, exec .keyRemask s = .next t ∧
      t.sec.slots.map (fun y => (y.slot, y.live.bytes, y.live.chk, y.pend.map (fun z => (z.bytes, z.chk)))) = s.sec.slots.map (fun y => (y.slot, y.live.bytes, y.live.chk, y.pend.map (fun z => (z.bytes, z.chk)))) ∧
      t.sec.copies.map (fun y => (y.pos, y.lane, y.slot, y.gone)) = s.sec.copies.map (fun y => (y.pos, y.lane, y.slot, y.gone)) ∧
      t.sec.maskAt = s.nowNs ∧
      Frame [] s t { s with sec := t.sec, free := t.free }) ∧
  (∀ (s : State),
    s.nowNs < s.sec.maskAt + min (max (s.get bSec Rg.KS_CFG.REMASK) 1) 600 * 100000000 →
    ∃ t, exec .keyRemask s = .next t ∧
      Frame [] s t s)

/-- Debug tokens, life-cycle transitions, roots and tampers (R494, R495, R496, R497, R499, R503, R504, R517, R519, R521). -/
def Obligations.LifeCycleAndTamper : Prop :=
  (∀ (token : List Byte) (s : State),
    s.on .sec = true ∧ s.gmTurn 3 = true ∧ s.get (gmBase 3) Rg.GM_REQ.DATA % 256 = 0x10 ∧ s.signed 2 (token.take 0x20) (token.drop 0x20) = true ∧ token.length = 128 ∧ leAt token 0 4 = 0x5444_5841 ∧ (leAt token 4 1 = 1 ∨ leAt token 4 1 = 2) ∧ leAt token 5 1 = s.get bSec Rg.SEC_STAT.LC ∧ leAt token 6 2 = 0 ∧ leAt token 8 8 = s.sec.serial ∧ leAt token 0x10 8 = s.get bSec Rg.SEC_CHAL.CHAL ∧ leAt token 0x18 8 = 0 →
    ∃ t, exec (.dbgUnlock 3 token) s = .next t ∧
      t.get bSec Rg.SEC_STAT.DBG_NEXT = leAt token 4 1 ∧ t.get bSec Rg.SEC_STAT.DEBUG = s.get bSec Rg.SEC_STAT.DEBUG ∧ t.get (gmBase 3) Rg.GM_RESULT.DATA % 256 = 0 ∧ t.get (gmBase 3) Rg.GM_STAT.BUSY = 0 ∧ t.free = s.free + 1 ∧ t.get bSec Rg.SEC_CHAL.CHAL = (Config.trng s.free).toNat ∧
      Frame [wSec] s t { s with cells := t.cells, sec := t.sec, free := t.free, toggles := t.toggles }) ∧
  (∀ (token : List Byte) (s : State),
    s.on .sec = true ∧ s.gmTurn 3 = true ∧ s.get (gmBase 3) Rg.GM_REQ.DATA % 256 = 0x10 ∧ token.length = 128 ∧ s.signed 2 (token.take 0x20) (token.drop 0x20) = false →
    ∃ t, exec (.dbgUnlock 3 token) s = .next t ∧
      t.get bSec Rg.SEC_STAT.DBG_NEXT = s.get bSec Rg.SEC_STAT.DBG_NEXT ∧ t.get (gmBase 3) Rg.GM_RESULT.DATA % 256 = 0x0C ∧ t.get (gmBase 3) Rg.GM_STAT.BUSY = 0 ∧ t.free = s.free + 1 ∧ t.get bSec Rg.SEC_CHAL.CHAL = (Config.trng s.free).toNat ∧
      Frame [wSec] s t { s with cells := t.cells, sec := t.sec, free := t.free, toggles := t.toggles }) ∧
  (∀ (ch : Nat) (token : List Byte) (s : State),
    ch < 4 ∧ s.on .sec = true ∧ s.gmTurn ch = true ∧ s.get (gmBase ch) Rg.GM_REQ.DATA % 256 = 0x10 ∧ (ch ≠ 3 ∨ token.length ≠ 128) →
    ∃ t, exec (.dbgUnlock ch token) s = .next t ∧
      t.get bSec Rg.SEC_STAT.DBG_NEXT = s.get bSec Rg.SEC_STAT.DBG_NEXT ∧ t.get (gmBase ch) Rg.GM_RESULT.DATA % 256 = 2 ∧ t.get (gmBase ch) Rg.GM_STAT.BUSY = 0 ∧ t.get bSec Rg.SEC_CHAL.CHAL = (Config.trng s.free).toNat ∧
      Frame [wSec] s t { s with cells := t.cells, sec := t.sec, free := t.free, toggles := t.toggles }) ∧
  (∀ (ch target : Nat) (sig : List Byte) (s : State),
    ch < 4 ∧ s.on .sec = true ∧ s.gmTurn ch = true ∧ s.get (gmBase ch) Rg.GM_REQ.DATA % 256 = 0x11 ∧ s.sec.slots = [] ∧ s.sec.stored = [] ∧ s.sec.burned < target ∧ s.sec.roots.length = 3 →
    (s.get bSec Rg.SEC_STAT.LC = 1 ∧ target = 2) ∨ (s.get bSec Rg.SEC_STAT.LC = 2 ∧ target = 3) →
    s.signed 0 (s.lcBytes target) sig = true →
    ∃ t, exec (.lcAdvance ch target sig false) s = .next t ∧
      t.sec.burned = target ∧ t.get bSec Rg.SEC_STAT.LC = s.get bSec Rg.SEC_STAT.LC ∧ t.sec.roots.getD (target - 2) (some []) = none ∧ (List.range 3).all (fun i => i == target - 2 || t.sec.roots.getD i none == s.sec.roots.getD i none) = true ∧
      t.get bSec Rg.SEC_STAT.DEBUG = 0 ∧ t.get bSec Rg.SEC_STAT.DBG_NEXT = 0 ∧ t.power.due = s.power.due ++ [1] ∧ t.get (gmBase ch) Rg.GM_RESULT.DATA % 256 = 0 ∧ t.get (gmBase ch) Rg.GM_STAT.BUSY = 0 ∧
      Frame [wSec] s t { s with cells := t.cells, sec := t.sec, free := t.free, toggles := t.toggles, power := t.power }) ∧
  (∀ (ch : Nat) (sig : List Byte) (s : State),
    ch < 4 ∧ s.on .sec = true ∧ s.gmTurn ch = true ∧ s.get (gmBase ch) Rg.GM_REQ.DATA % 256 = 0x11 ∧ s.sec.slots = [] ∧ s.sec.burned < 4 ∧ 1 ≤ s.get bSec Rg.SEC_STAT.LC ∧ s.get bSec Rg.SEC_STAT.LC ≤ 3 ∧ s.sec.stored = [] →
    s.signed 0 (s.lcBytes 4) sig = true →
    ∃ t, exec (.lcAdvance ch 4 sig false) s = .next t ∧
      t.sec.burned = 4 ∧ t.sec.roots = [none, none, none] ∧ t.sec.stored = [] ∧ t.power.due = s.power.due ++ [1] ∧ t.get (gmBase ch) Rg.GM_RESULT.DATA % 256 = 0 ∧
      Frame [wSec] s t { s with cells := t.cells, sec := t.sec, free := t.free, toggles := t.toggles, power := t.power }) ∧
  (∀ (ch target : Nat) (sig : List Byte) (cut : Bool) (s : State),
    ch < 4 ∧ s.on .sec = true ∧ s.gmTurn ch = true ∧ s.get (gmBase ch) Rg.GM_REQ.DATA % 256 = 0x11 ∧ s.sec.burned < target →
    (s.get bSec Rg.SEC_STAT.LC = 1 ∧ target = 2) ∨ (s.get bSec Rg.SEC_STAT.LC = 2 ∧ target = 3) →
    s.signed 0 (s.lcBytes target) sig = false ∨ cut = true →
    ∃ t, exec (.lcAdvance ch target sig cut) s = .next t ∧
      (t.sec = { s.sec with served := ch } ∧ t.get (gmBase ch) Rg.GM_RESULT.DATA % 256 = (if s.signed 0 (s.lcBytes target) sig = true then 0x0E else 0x0C) ∧ t.free = s.free + 1) ∧
      Frame [wSec] s t { s with cells := t.cells, sec := t.sec, free := t.free, toggles := t.toggles }) ∧
  (∀ (ch : Nat) (keys : List (List Byte)) (compat : Bool) (s : State),
    ch < 4 ∧ s.on .sec = true ∧ s.gmTurn ch = true ∧ s.get (gmBase ch) Rg.GM_REQ.DATA % 256 = 0x12 ∧ s.get bSec Rg.SEC_STAT.LC = 0 ∧ s.sec.burned = 0 ∧ s.sec.digests = [] ∧ s.sec.hashes = [] ∧ keys.length = 3 ∧ keys.all (fun k => k.length == 97) = true ∧ s.sec.roots.length = 3 →
    ∃ t, exec (.provision ch keys compat false) s = .next t ∧
      t.sec.burned = 1 ∧ t.sec.keyPage = keys ∧ t.sec.hashes = keys.map sha384 ∧ t.get bSec Rg.SEC_STAT.COMPAT_3300 = b2n compat ∧ t.get bSec Rg.SEC_STAT.REROOT_LEFT = 3 ∧
      t.sec.roots = [some (trngBytes 4 s.free), some (trngBytes 4 (s.free + 4)), some (trngBytes 4 (s.free + 8))] ∧ t.sec.digests = [[rootDigest (trngBytes 4 s.free), rootDigest (trngBytes 4 (s.free + 4)), rootDigest (trngBytes 4 (s.free + 8))]] ∧
      t.power.due = s.power.due ++ [1] ∧ t.get (gmBase ch) Rg.GM_RESULT.DATA % 256 = 0 ∧ t.get (gmBase ch) Rg.GM_STAT.BUSY = 0 ∧
      Frame [wSec] s t { s with cells := t.cells, sec := t.sec, free := t.free, toggles := t.toggles, power := t.power }) ∧
  (∀ (ch : Nat) (sig : List Byte) (s : State),
    ch < 4 ∧ s.on .sec = true ∧ s.gmTurn ch = true ∧ s.get (gmBase ch) Rg.GM_REQ.DATA % 256 = 0x13 ∧ s.rootsHeld = false ∧ 0 < s.get bSec Rg.SEC_STAT.REROOT_LEFT ∧ s.get bSec Rg.TAMP_STAT.LATCHED = 0 ∧ s.sec.slots = [] ∧ s.sec.stored = [] ∧ s.get bSec Rg.SEC_STAT.LC = 2 ∧ s.sec.roots = [none, none, none] →
    s.signed 0 (s.lcBytes 0xFF) sig = true →
    ∃ t, exec (.reroot ch sig) s = .next t ∧
      t.sec.roots = [none, some (trngBytes 4 (s.free + 1)), some (trngBytes 4 (s.free + 5))] ∧ t.sec.digests = s.sec.digests ++ [[0, rootDigest (trngBytes 4 (s.free + 1)), rootDigest (trngBytes 4 (s.free + 5))]] ∧
      t.rootsHeld = true ∧ t.sec.slots = [] ∧ t.sec.disabled = false ∧ t.get (gmBase ch) Rg.GM_RESULT.DATA % 256 = 0 ∧ t.get (gmBase ch) Rg.GM_STAT.BUSY = 0 ∧
      Frame [wSec] s t { s with cells := t.cells, sec := t.sec, free := t.free, toggles := t.toggles }) ∧
  (∀ (src : Nat) (v : Int) (held : Nat) (env : BootEnv) (s : State),
    src < 8 ∧ s.tamperOn src = true ∧ s.tamperSees src v held = true ∧ bitOf src (s.get bSec Rg.TAMP_STAT.ACTIVE) = false ∧ s.power.vdd = true ∧ s.sec.cur = none ∧ s.mode ≠ .dormant ∧ s.entering = false ∧ s.committing = false →
    ∃ t, exec (.tamperDetect src v held env) s = .next t ∧
      t.get bMpc Rg.FS_STAT.LATCHED = 1 ∧ t.get bSec Rg.SEC_STAT.DEBUG = 0 ∧ t.get bSec Rg.SEC_STAT.DBG_NEXT = 0 ∧ bitOf src (t.get bSec Rg.TAMP_STAT.ACTIVE) = true ∧ bitOf src (t.get bSec Rg.TAMP_STAT.LATCHED) = true ∧
      t.sec.roots = [none, none, none] ∧ t.sec.copies = [] ∧ t.sec.disabled = true ∧ t.ksOn = false ∧ t.sec.jobs = s.sec.jobs.map (fun j => { j with status := 7 }) ∧ t.sec.tampers = s.sec.tampers + 1 ∧ s.sec.slots.all (fun y => t.ksState y.slot == 0 && (t.keySlot y.slot).isNone) = true ∧
      t.get (bSec + s.sec.tampers % 16 * 0x10) Rg.TAMP_LOG_I.SOURCE = 2 ^ src ∧ t.get (bSec + s.sec.tampers % 16 * 0x10) Rg.TAMP_LOG_I.INDEX = min (s.sec.tampers + 1) 65535 ∧
      Frame [wSec, wMpc, wRc] s t { s with cells := t.cells, sec := t.sec, stop := t.stop, radio := t.radio, toggles := t.toggles, log := t.log, pcie := t.pcie }) ∧
  (∀ (src : Nat) (v : Int) (held : Nat) (env : BootEnv) (s : State),
    (src < 8 ∧ bitOf src (s.get bSec Rg.TAMP_STAT.ACTIVE) = true) ∨ s.tamperSees src v held = false ∨ s.tamperOn src = false →
    ∃ t, exec (.tamperDetect src v held env) s = .next t ∧
      Frame [] s t s) ∧
  (∀ (src : Nat) (s : State),
    src < 8 ∧ bitOf src (s.get bSec Rg.TAMP_STAT.ACTIVE) = true →
    ∃ t, exec (.tamperSourceRelease src) s = .next t ∧
      t.get bSec Rg.TAMP_STAT.ACTIVE = s.get bSec Rg.TAMP_STAT.ACTIVE - 2 ^ src ∧ t.get bSec Rg.TAMP_STAT.LATCHED = s.get bSec Rg.TAMP_STAT.LATCHED ∧
      Frame [wSec] s t { s with cells := t.cells })

/-- CRY tiles: sessions and jobs (R509, R510, R522, R523, R524, R525, R526). -/
def Obligations.CipherSessionsRun : Prop :=
  (∀ (m : Master) (pos q : Nat) (k : Key) (s : State),
    pos < 100 ∧ q < 32 ∧ kindAt pos = some .cry ∧ mayWriteService s m = true ∧ q < s.lanesAt pos ∧ s.on (domOf (islandOf pos)) = true ∧ s.flag (csBase pos q) Rg.CS_CFG.EN = false ∧ s.cryRefusal pos q = 0 ∧ s.get (csBase pos q) Rg.CS_CFG.ALG < 2 ∧ s.liveKey (s.get (csBase pos q) Rg.CS_CFG.KEY_SLOT) = some k →
    ∃ t, exec (.crySessionEnable m pos q) s = .next t ∧
      t.get (csBase pos q) Rg.CS_CFG.EN = 1 ∧ t.get (csBase pos q) Rg.CS_STAT.RUN = 1 ∧ t.get (csBase pos q) Rg.CS_STAT.REFUSE = 0 ∧ t.keyCopy pos q = some (⟨pos, q, s.get (csBase pos q) Rg.CS_CFG.KEY_SLOT, k, none, false⟩ : KeyCopy) ∧
      Frame [wTile pos] s t { s with cells := t.cells, sec := t.sec, resp := ⟨.ok, 0⟩ }) ∧
  (∀ (m : Master) (pos q : Nat) (s : State),
    pos < 100 ∧ q < 32 ∧ kindAt pos = some .cry ∧ mayWriteService s m = true ∧ q < s.lanesAt pos ∧ s.on (domOf (islandOf pos)) = true ∧ s.flag (csBase pos q) Rg.CS_CFG.EN = false ∧ 28 ≤ q ∧ (s.get (csBase pos q) Rg.CS_CFG.ALG = 2 ∨ s.get (csBase pos q) Rg.CS_CFG.ALG = 3) →
    ∃ t, exec (.crySessionEnable m pos q) s = .next t ∧
      t.get (csBase pos q) Rg.CS_CFG.EN = 0 ∧ t.get (csBase pos q) Rg.CS_STAT.REFUSE = 3 ∧ t.get (csBase pos q) Rg.CS_EVT.REFUSED = 1 ∧
      Frame [wTile pos] s t { s with cells := t.cells, toggles := t.toggles, resp := ⟨.ok, 0⟩ }) ∧
  (∀ (pos q hd : Nat) (y : Entry) (l : List Byte) (s : State),
    pos < 100 ∧ q < 32 ∧ kindAt pos = some .cry ∧ s.laneOn pos q = true ∧ s.flag (csBase pos q) Rg.CS_STAT.RUN = true ∧ s.flag (csBase pos q) Rg.CS_STAT.BUSY = false →
    s.disp.find hd = some y ∧ y.st = EState.inService ∧ y.agent = none ∧ (s.disp.flowOf y.flow).consumer = pos ∧ (s.disp.flowOf y.flow).lane = q ∧ y.tag < s.get (csBase pos q) Rg.CS_JOBS.COUNT →
    s.memFault (s.get (csBase pos q) Rg.CS_JOBS.ADDR + y.tag * 64) 64 = none ∧ s.memRead (s.get (csBase pos q) Rg.CS_JOBS.ADDR + y.tag * 64) 64 = (s, some l) →
    ∃ t, exec (.cryJob pos q (some hd)) s = .next t ∧
      t.get (csBase pos q) Rg.CS_STAT.BUSY = 1 ∧ t.sec.jobs = s.sec.jobs ++ [(⟨pos, q, l, some (s.get (csBase pos q) Rg.CS_JOBS.ADDR + y.tag * 64), hd, 0, (t.keyCopy pos q).map (fun c => c.key), s.cryAdmit pos q⟩ : CryJob)] ∧
      Frame [wTile pos] s t { s with cells := t.cells, sec := t.sec }) ∧
  (∀ (pos q src : Nat) (z : QPkt) (s : State),
    pos < 100 ∧ q < 32 ∧ kindAt pos = some .cry ∧ s.laneOn pos q = true ∧ s.flag (csBase pos q) Rg.CS_STAT.RUN = true ∧ s.flag (csBase pos q) Rg.CS_STAT.BUSY = false →
    s.item pos 0x80 = some (src, z) ∧ z.data.length = 8 ∧ pktLane z.lw = q ∧ s.sec.copies = [] →
    ∃ t, exec (.cryJob pos q none) s = .next t ∧
      Frame [wTile pos] (s.taken pos 0x80) t { s.taken pos 0x80 with cells := t.cells, sec := t.sec } ∧
      t.get (csBase pos q) Rg.CS_STAT.BUSY = 1 ∧ t.sec.jobs = s.sec.jobs ++ [(⟨pos, q, (z.data.map (leBytes 8)).flatten, none, 0, src, none, s.cryAdmit pos q⟩ : CryJob)]) ∧
  (∀ (pos q a tag src n : Nat) (j : CryJob) (d : List Byte) (s : State),
    pos < 100 ∧ q < 32 ∧ s.sec.jobs.find? (fun z => z.pos == pos && z.lane == q) = some j ∧ j.status = 0 ∧ j.at_ = some a ∧ s.get (csBase pos q) Rg.CS_CFG.ALG = 2 ∧ s.flag (csBase pos q) Rg.CS_CFG.DONE_EN = false ∧ s.disp.entries = [] →
    cryBad 2 j.rec_ = false ∧ s.cryRanges pos 2 j.rec_ = true ∧ leAt j.rec_ 0 1 = 0 ∧ tag = leAt j.rec_ 25 5 ∧ src = leAt j.rec_ 8 5 ∧ n = leAt j.rec_ 4 4 ∧ s.memRead src n = (s, some d) ∧ s.memFault a 64 = none ∧ (a + 64 ≤ tag ∨ tag + 32 ≤ a) ∧ s.poison = [] ∧ s.flips = [] →
    ∃ t, exec (.cryJobDone pos q) s = .next t ∧
      t.get (csBase pos q) Rg.CS_STAT.LAST = 0 ∧ t.get (csBase pos q) Rg.CS_STAT.BUSY = 0 ∧ t.get (csBase pos q) Rg.CS_CNT.JOBS = satAdd Rg.CS_CNT.JOBS.w (s.get (csBase pos q) Rg.CS_CNT.JOBS) 1 ∧ t.get (csBase pos q) Rg.CS_CNT.ERR = s.get (csBase pos q) Rg.CS_CNT.ERR ∧ t.sec.jobs = s.sec.jobs.erase j ∧
      (List.range 32).map (fun i => t.byte (tag + i)) = padTo 32 (sha256 d) ∧ t.byte (a + 2) = 0 ∧ (List.range 8).map (fun i => t.byte (a + 48 + i)) = leBytes 8 s.now ∧
      (∀ y : Nat, (y < a ∨ a + 64 ≤ y) → (y < tag ∨ tag + 32 ≤ y) → t.byte y = s.byte y) ∧
      RegsKept [wTile pos, wDdr, wRc] s t) ∧
  (∀ (pos q a : Nat) (j : CryJob) (s : State),
    pos < 100 ∧ q < 32 ∧ s.sec.jobs.find? (fun z => z.pos == pos && z.lane == q) = some j ∧ 1 < j.status ∧ j.at_ = some a ∧ s.flag (csBase pos q) Rg.CS_CFG.DONE_EN = false ∧ s.disp.entries = [] →
    ∃ t, exec (.cryJobDone pos q) s = .next t ∧
      t.get (csBase pos q) Rg.CS_STAT.LAST = j.status % 256 ∧ t.get (csBase pos q) Rg.CS_STAT.BUSY = 0 ∧ t.get (csBase pos q) Rg.CS_CNT.ERR = satAdd Rg.CS_CNT.ERR.w (s.get (csBase pos q) Rg.CS_CNT.ERR) 1 ∧ t.get (csBase pos q) Rg.CS_EVT.ERR = 1 ∧ t.sec.jobs = s.sec.jobs.erase j ∧
      BytesKeptBut a 64 s t ∧ RegsKept [wTile pos, wDdr, wRc] s t) ∧
  (∀ (pos q : Nat) (j : CryJob) (u : State) (s : State),
    pos < 100 ∧ q < 32 ∧ s.sec.jobs.find? (fun z => z.pos == pos && z.lane == q) = some j ∧ 1 < j.status ∧ j.at_ = none →
    ({ s with sec := { s.sec with jobs := s.sec.jobs.erase j } } : State).sendItem pos j.link 0x81 0 0 q false [j.status + leAt j.rec_ 56 4 * 2 ^ 32, s.now] = some u →
    ∃ t, exec (.cryJobDone pos q) s = .next t ∧
      t.get (csBase pos q) Rg.CS_STAT.LAST = j.status % 256 ∧ t.get (csBase pos q) Rg.CS_STAT.BUSY = 0 ∧ t.get (csBase pos q) Rg.CS_EVT.ERR = 1 ∧ t.sec.jobs = s.sec.jobs.erase j ∧ t.links = u.links ∧
      BytesKept s t ∧ RegsKept [wTile pos] s t)

/-- The event router: a pulse on its way and the software pulse (R530, R531, R532, R533). -/
def Obligations.EventsReachTheirTargets : Prop :=
  (∀ (ev tg : Nat) (s : State),
    s.on .mgmt = true ∧ s.toggles.contains ev = true ∧ ev < 256 ∧ tg = s.targets ev →
    ∃ t, exec (.eventPulse ev) s = .next t ∧
      t.get (bEr + ev * 4) Rg.ER_CNT.COUNT = satAdd Rg.ER_CNT.COUNT.w (s.get (bEr + ev * 4) Rg.ER_CNT.COUNT) 1 ∧ t.toggles = s.toggles.filter (fun y => y != ev) ∧
      ((List.range 5).all (fun y => (List.range 4).all (fun i => t.get (erBase y i) Rg.ER_PEND.BITS == (if bitOf y tg ∧ i = ev / 64 then s.get (erBase y i) Rg.ER_PEND.BITS ||| 2 ^ (ev % 64) else s.get (erBase y i) Rg.ER_PEND.BITS))) = true) ∧
      (t.toTp = (if bitOf 5 tg then s.toTp ++ [ev] else s.toTp) ∧ t.toSs = (if bitOf 6 tg then s.toSs ++ [ev] else s.toSs)) ∧
      Frame [wEr] s t { s with cells := t.cells, toggles := t.toggles, toTp := t.toTp, toSs := t.toSs }) ∧
  (∀ (ev : Nat) (s : State),
    s.on .mgmt = false ∨ s.toggles.contains ev = false →
    ∃ t, exec (.eventPulse ev) s = .next t ∧
      Frame [] s t s) ∧
  (∀ (m : Master) (n : Nat) (s : State),
    mayWriteService s m = true ∧ s.on .mgmt = true →
    ∃ t, exec (.swRaise m n) s = .next t ∧
      t.toggles.contains (240 + n % 16) = true ∧
      Frame [] s t { s with toggles := t.toggles, resp := ⟨.ok, 0⟩ })

/-- The recorder: requests, admission, buckets and the selected record (R534, R535, R536, R537, R538, R539, R540, R542). -/
def Obligations.RecordsAreAdmitted : Prop :=
  (∀ (m : Master) (k : Nat) (s : State),
    k < 6 ∧ swOwner k = some m ∧ s.on .mgmt = true ∧ s.log.reqs.length < 64 ∧ s.get (rcSw k) Rg.RC_SW_HDR.CODE ≠ 0 ∧ (k < 2 ∨ 0x800 ≤ s.get (rcSw k) Rg.RC_SW_HDR.CODE) ∧ s.get (rcSw k) Rg.RC_SW_HDR.DLEN ≤ 40 ∧ s.get (rcSw k) Rg.RC_SW_HDR.SEV ≤ 4 →
    ∃ t, exec (.recordGo m k) s = .next t ∧
      t.log.reqs = s.log.reqs ++ [(⟨s.now, s.get (rcSw k) Rg.RC_SW_HDR.CODE, s.get (rcSw k) Rg.RC_SW_HDR.SEV, !s.locked, 0xFF, k + 1, (s.swData k).take (s.get (rcSw k) Rg.RC_SW_HDR.DLEN), some k⟩ : RecReq)] ∧
      Frame [] s t { s with log := { s.log with reqs := t.log.reqs }, resp := ⟨.ok, 0⟩ }) ∧
  (∀ (m : Master) (k : Nat) (s : State),
    k < 6 ∧ swOwner k = some m ∧ s.on .mgmt = true ∧ (s.get (rcSw k) Rg.RC_SW_HDR.CODE = 0 ∨ (2 ≤ k ∧ s.get (rcSw k) Rg.RC_SW_HDR.CODE < 0x800) ∨ 40 < s.get (rcSw k) Rg.RC_SW_HDR.DLEN ∨ 4 < s.get (rcSw k) Rg.RC_SW_HDR.SEV) →
    ∃ t, exec (.recordGo m k) s = .next t ∧
      t.get (rcSw k) Rg.RC_SW_GO.STATUS = 3 ∧
      Frame [wRc] s t { s with cells := t.cells, resp := ⟨.ok, 0⟩ }) ∧
  (∀ (r : RecReq) (l : List RecReq) (k : Nat) (s : State),
    s.log.running = true ∧ s.log.reqs = r :: l ∧ r.sw = some k ∧ k < 6 ∧ r.code < 4096 ∧ r.sev < 4 ∧ 1000 ≤ s.refill.bucket r.code ∧ s.log.unflushed < 31 ∧ s.log.recs.length < 32768 ∧ s.log.loss = false →
    ∃ t, exec .recordRequest s = .next t ∧
      t.log.recs = s.log.recs ++ [(⟨r, s.log.seq + 1, s.get (rcRate r.code) Rg.RC_RATE.SUPPR, false, false, s.nowNs⟩ : Rec)] ∧ t.log.seq = s.log.seq + 1 ∧ t.log.reqs = l ∧ t.bucket r.code = s.refill.bucket r.code - 1000 ∧ t.log.flush = s.log.flush ∧
      t.get (rcSw k) Rg.RC_SW_GO.STATUS = 0 ∧ t.get (rcRate r.code) Rg.RC_RATE.SUPPR = 0 ∧
      Frame [wRc] s t { s with cells := t.cells, log := t.log }) ∧
  (∀ (r : RecReq) (l : List RecReq) (k : Nat) (s : State),
    s.log.running = true ∧ s.log.reqs = r :: l ∧ r.sw = some k ∧ k < 6 ∧ r.code < 4096 ∧ r.sev ≠ 4 ∧ s.refill.bucket r.code < 1000 →
    ∃ t, exec .recordRequest s = .next t ∧
      t.log = { s.refill.log with reqs := l } ∧ t.get (rcSw k) Rg.RC_SW_GO.STATUS = 1 ∧ t.get (rcRate r.code) Rg.RC_RATE.SUPPR = satAdd 16 (s.get (rcRate r.code) Rg.RC_RATE.SUPPR) 1 ∧
      Frame [wRc] s t { s with cells := t.cells, log := t.log }) ∧
  (∀ (r : RecReq) (l : List RecReq) (s : State),
    s.log.running = true ∧ s.log.reqs = r :: l ∧ r.sw = none ∧ r.code < 4096 ∧ r.sev < 4 ∧ 1000 ≤ s.refill.bucket r.code ∧ 256 ≤ s.log.unflushed →
    ∃ t, exec .recordRequest s = .next t ∧
      t.get bRc Rg.RC_LOSS.FLUSH_BUSY = satAdd 16 (s.get bRc Rg.RC_LOSS.FLUSH_BUSY) 1 ∧ t.log.loss = true ∧ t.log.recs = s.log.recs ∧ t.log.seq = s.log.seq ∧ t.get bRc Rg.RC_EVT.LOSS = 1 ∧
      Frame [wRc] s t { s with cells := t.cells, log := t.log, toggles := t.toggles }) ∧
  (∀ (c : Nat) (s : State),
    s.log.running = true ∧ Rising s.log.buckets →
    ∃ t, exec .bucketRefill s = .next t ∧
      (t.bucket c = (if s.nowNs / 1000000 ≤ s.log.ms then s.bucket c else min (s.bucket c + (s.nowNs / 1000000 - s.log.ms) * s.rcRateOf c) (s.rcCap c)) ∧ t.log.ms = max s.log.ms (s.nowNs / 1000000)) ∧
      Frame [] s t { s with log := { s.log with buckets := t.log.buckets, ms := t.log.ms } }) ∧
  (∀ (m : Master) (seq : Nat) (s : State),
    mayWriteService s m = true ∧ s.on .mgmt = true →
    ∃ t, exec (.recordAck m seq) s = .next t ∧
      Frame [] s t { s with log := { s.log with acked := max s.log.acked (seq % 2 ^ 32) }, resp := ⟨.ok, 0⟩ }) ∧
  (∀ (m : Master) (seq : Nat) (s : State),
    mayWriteService s m = true ∧ s.on .mgmt = true →
    ∃ t, exec (.recordSelect m seq) s = .next t ∧
      t.get bRc Rg.RC_SEL.SEQ = seq % 2 ^ Rg.RC_SEL.SEQ.w ∧
      Frame [wRc] s t { s with cells := t.cells, resp := ⟨.ok, 0⟩ })

/-- The recorder: flushes, the ring in flash and the power failure (R538, R540, R541, R542, R543). -/
def Obligations.RecordsAreFlushed : Prop :=
  (∀ (m : Master) (s : State),
    mayWriteService s m = true ∧ s.on .mgmt = true ∧ s.log.running = true ∧ s.log.flush = .none ∧ 0 < s.log.unflushed →
    ∃ t, exec (.flushCmd m) s = .next t ∧
      Frame [] s t { s with log := { s.log with flush := .background }, resp := ⟨.ok, 0⟩ }) ∧
  (∀ (s : State),
    s.log.running = true ∧ s.log.flush = .none ∧ (32 ≤ s.log.unflushed ∨ (s.log.recs.find? (fun r => !r.flushed)).any (fun r => decide (r.at_ + 100000000 ≤ s.nowNs)) = true) →
    ∃ t, exec .flushStart s = .next t ∧
      Frame [] s t { s with log := { s.log with flush := .background } }) ∧
  (∀ (s : State),
    s.log.running = true ∧ (s.flag bMpc Rg.PWR_STAT.PFAIL = true ∨ s.log.recs.any (fun r => !r.flushed && r.req.sev == 4) = true) →
    ∃ t, exec .emergencyFlush s = .next t ∧
      Frame [] s t { s with log := { s.log with flush := .emergency } }) ∧
  (∀ (n : Nat) (s : State),
    s.log.flush ≠ .none ∧ s.log.place < 1023 ∧ n = min (min (4 - (s.log.place + 1) % 4) s.log.unflushed) (1023 - s.log.place) →
    ∃ t, exec (.flushWriteDone true) s = .next t ∧
      t.log.recs.map (fun r => (r.seq, r.req)) = s.log.recs.map (fun r => (r.seq, r.req)) ∧ t.log.unflushed = s.log.unflushed - n ∧ t.log.place = s.log.place + n ∧ t.log.block = s.log.block ∧
      (t.log.flush = (if s.log.unflushed = n ∧ s.log.pfail = false then .none else s.log.flush)) ∧
      Frame [] s t { s with log := t.log }) ∧
  (∀ (n : Nat) (q : Rec) (l : List Rec) (s : State),
    s.log.flush ≠ .none ∧ 1023 ≤ s.log.place ∧ n = min 3 s.log.unflushed ∧ (s.log.recs.filter (fun r => !r.flushed)).take n = q :: l →
    ∃ t, exec (.flushWriteDone true) s = .next t ∧
      t.log.unflushed = s.log.unflushed - n ∧ t.log.place = n ∧ t.log.block = s.log.nxt ∧ t.log.bseq = s.log.bseq + 1 ∧ t.log.nxt = (s.log.nxt + 1) % 1024 ∧ t.log.erased = false ∧
      t.log.ring = s.log.ring.filter (fun b => b.block != s.log.nxt) ++ [(⟨s.log.nxt, s.log.bseq + 1, q.seq, s.sec.boots, (q :: l).map recBytes⟩ : RingBlock)] ∧
      Frame [] s t { s with log := t.log }) ∧
  (∀ (s : State),
    s.log.flush ≠ .none →
    ∃ t, exec (.flushWriteDone false) s = .next t ∧
      t.get bRc Rg.RC_EVT.FLASH_ERR = 1 ∧ t.log = { s.log with block := s.log.nxt, bseq := s.log.bseq + 1, place := 0, nxt := (s.log.nxt + 1) % 1024, erased := false } ∧
      Frame [wRc] s t { s with cells := t.cells, log := t.log, toggles := t.toggles }) ∧
  (∀ (s : State),
    s.log.erased = false →
    ∃ t, exec (.ringEraseDone true) s = .next t ∧
      Frame [] s t { s with log := { s.log with erased := true, ring := s.log.ring.filter (fun b => b.block != s.log.nxt) } }) ∧
  (∀ (s : State),
    s.log.erased = false →
    ∃ t, exec (.ringEraseDone false) s = .next t ∧
      t.get bRc Rg.RC_EVT.FLASH_ERR = 1 ∧ t.log = { s.log with nxt := (s.log.nxt + 1) % 1024 } ∧
      Frame [wRc] s t { s with cells := t.cells, log := t.log, toggles := t.toggles }) ∧
  (∀ (s : State),
    s.log.running = true ∧ 1000 ≤ s.refill.bucket 0x079 ∧ s.log.unflushed < 256 ∧ s.log.recs.length < 32768 ∧ s.log.loss = false →
    ∃ t, exec .pfailAssert s = .next t ∧
      t.get bMpc Rg.PWR_STAT.PFAIL = 1 ∧ t.get bRc Rg.RC_STAT.PF_DONE = 0 ∧ t.log.flush = .emergency ∧ t.log.pfail = true ∧ t.log.seq = s.log.seq + 1 ∧
      t.log.recs = s.log.recs ++ [(⟨⟨s.now, 0x079, 2, !s.locked, 0, 0, leBytes 2 s.log.unflushed, none⟩, s.log.seq + 1, s.get (rcRate 0x079) Rg.RC_RATE.SUPPR, false, false, s.nowNs⟩ : Rec)] ∧
      Frame [wMpc, wRc] s t { s with cells := t.cells, log := t.log }) ∧
  (∀ (s : State),
    s.log.flush = .emergency ∧ 0 < s.log.unflushed →
    ∃ t, exec .pfailDeassert s = .next t ∧
      t.get bMpc Rg.PWR_STAT.PFAIL = 0 ∧ t.log = { s.log with pfail := false, flush := .background } ∧ t.get bRc Rg.RC_STAT.PF_DONE = s.get bRc Rg.RC_STAT.PF_DONE ∧
      Frame [wMpc] s t { s with cells := t.cells, log := t.log }) ∧
  (∀ (s : State),
    s.log.pfail = true ∧ s.log.unflushed = 0 →
    ∃ t, exec .pfFlushDone s = .next t ∧
      t.get bRc Rg.RC_STAT.PF_DONE = 1 ∧ t.get bRc Rg.RC_EVT.PF_DONE = 1 ∧ t.log = { s.log with flush := .none } ∧
      Frame [wRc] s t { s with cells := t.cells, log := t.log, toggles := t.toggles })

/-- Health: passes, rails, temperatures, output read-back and voltage checks (R545, R546, R547, R549, R550, R553). -/
def Obligations.HealthIsMeasured : Prop :=
  (∀ (y : IslMeas) (s : State),
    s.on .mgmt = true ∧ s.mode ≠ .bootstrap ∧ s.health.passAt ≤ s.nowNs ∧ s.on (domOf y.isl) = true ∧ y.isl < 44 ∧ s.get (islBase y.isl) Rg.ISL_STAT.CLK_LOCK ≠ 0 ∧ s.flag bHl Rg.HL_CFG.AUTO = false →
    ∃ t, exec (.healthPass [y]) s = .next t ∧
      (t.get (hlIsl y.isl) Rg.HL_ISL.MARGIN = (if sgn 16 y.m0 ≤ sgn 16 y.m1 then y.m0 else y.m1) % 2 ^ 16 ∧ t.get (hlIsl y.isl) Rg.HL_ISL_AT.AT = s.now % 2 ^ 64 ∧ t.get bHl Rg.HL_STAT.PASSES = satAdd 16 (s.get bHl Rg.HL_STAT.PASSES) 1 ∧ t.get bHl Rg.HL_EVT.PASS = 1) ∧
      (t.get (hlIsl y.isl) Rg.HL_ISL.YEARS = (if lookupD 0 y.isl s.health.passes < 5 then 0 else min y.years 65535) ∧ t.health.passAt = s.health.passAt + 600000000000) ∧
      Frame [wHl] s t { s with cells := t.cells, health := t.health, toggles := t.toggles }) ∧
  (∀ (i : Nat) (s : State),
    s.on .mgmt = true ∧ s.mode ≠ .bootstrap ∧ s.health.passAt ≤ s.nowNs ∧ s.flag bHl Rg.HL_CFG.AUTO = true ∧ s.flag bMpc Rg.MODE_STAT.CHANGING = false ∧ s.flag bMpc Rg.MODE_STAT.MAINT_DIRTY = false ∧ s.flag bHl Rg.HL_STAT.FROZEN_FA = false ∧ s.flag bHl Rg.HL_STAT.FROZEN_FB = true →
    s.worst (s.planIsles .fa) = some i ∧ s.derated i < (s.get bHl Rg.HL_CFG.TGT * 16 : Int) ∧ s.volt .fa + 5 ≤ vlim (s.get bHl Rg.HL_VLIM.VMAX_FA) →
    ∃ t, exec (.healthPass []) s = .next t ∧
      t.get bHl Rg.HL_STAT.V_FA = s.volt .fa + 5 ∧ t.get bHl Rg.HL_EVT.REPLAN = 1 ∧ t.health.pmbWait.1 = true ∧ t.health.planV.1 = s.volt .fa + 5 ∧ t.get bHl Rg.HL_STAT.V_FB = s.get bHl Rg.HL_STAT.V_FB ∧
      Frame [wHl, wRc] s t { s with cells := t.cells, health := t.health, toggles := t.toggles, log := t.log }) ∧
  (∀ (d : Dom) (vout adc : Nat) (s : State),
    (d = .fa ∨ d = .fb) ∧ pairGet d s.health.pmbWait = true ∧ near10 vout (s.volt d) = true ∧ near10 adc (s.volt d) = true ∧ pairGet d s.health.pmbAt + 1000000 ≤ s.nowNs →
    ∃ t, exec (.pmbusVerify d vout adc) s = .next t ∧
      Frame [] s t { s with health := { s.health with pmbWait := pairSet d s.health.pmbWait false, pmbFails := pairSet d s.health.pmbFails 0 } }) ∧
  (∀ (d : Dom) (vout adc : Nat) (s : State),
    (d = .fa ∨ d = .fb) ∧ pairGet d s.health.pmbWait = true ∧ near10 vout (s.volt d) = false ∧ pairGet d s.health.pmbFails = 2 ∧ pairGet d s.health.pmbAt + 1000000 ≤ s.nowNs →
    ∃ t, exec (.pmbusVerify d vout adc) s = .next t ∧
      t.get bHl (frozenF d) = 1 ∧ t.get bHl Rg.HL_EVT.PMBUS = 1 ∧ pairGet d t.health.pmbWait = false ∧ pairGet d t.health.pmbFails = 0 ∧
      Frame [wHl, wRc] s t { s with cells := t.cells, health := { s.health with pmbWait := pairSet d s.health.pmbWait false, pmbFails := pairSet d s.health.pmbFails 0 }, toggles := t.toggles, log := t.log }) ∧
  (∀ (d : Dom) (vout adc : Nat) (s : State),
    (d = .fa ∨ d = .fb) ∧ pairGet d s.health.pmbWait = true ∧ near10 adc (s.volt d) = false ∧ pairGet d s.health.pmbFails < 2 ∧ pairGet d s.health.pmbAt + 1000000 ≤ s.nowNs →
    ∃ t, exec (.pmbusVerify d vout adc) s = .next t ∧
      Frame [] s t { s with health := { s.health with pmbFails := pairSet d s.health.pmbFails (pairGet d s.health.pmbFails + 1) } }) ∧
  (∀ (v : Nat) (s : State),
    s.on .mgmt = true ∧ s.health.railAt + 1000000 ≤ s.nowNs ∧ v < 65536 ∧ (v < s.get bHl Rg.HL_RAIL.LO ∨ s.get bHl Rg.HL_RAIL.HI < v) ∧ s.health.railOut.getD 0 0 = 2 ∧ bitOf 0 (s.get bHl Rg.HL_STAT.RAIL_BAD) = false ∧ 0 < s.health.railOut.length ∧ 0 < s.health.railIn.length →
    ∃ t, exec (.railSample [v]) s = .next t ∧
      t.get bHl Rg.HL_RAIL.MV = v ∧ t.get bHl Rg.HL_STAT.RAIL_BAD = s.get bHl Rg.HL_STAT.RAIL_BAD + 1 ∧ t.get bHl Rg.HL_EVT.RAIL = 1 ∧ t.health.railIn.getD 0 9 = 0 ∧
      Frame [wHl, wRc] s t { s with cells := t.cells, health := { s.health with railOut := t.health.railOut, railIn := t.health.railIn, railAt := s.nowNs }, toggles := t.toggles, log := t.log }) ∧
  (∀ (v : Nat) (s : State),
    s.on .mgmt = true ∧ s.health.railAt + 1000000 ≤ s.nowNs ∧ v < 65536 ∧ s.get bHl Rg.HL_RAIL.LO ≤ v ∧ v ≤ s.get bHl Rg.HL_RAIL.HI ∧ s.health.railIn.getD 0 0 = 2 ∧ bitOf 0 (s.get bHl Rg.HL_STAT.RAIL_BAD) = true ∧ 0 < s.health.railOut.length ∧ 0 < s.health.railIn.length →
    ∃ t, exec (.railSample [v]) s = .next t ∧
      t.get bHl Rg.HL_RAIL.MV = v ∧ t.get bHl Rg.HL_STAT.RAIL_BAD = s.get bHl Rg.HL_STAT.RAIL_BAD - 1 ∧ t.health.railOut.getD 0 9 = 0 ∧
      Frame [wHl] s t { s with cells := t.cells, health := { s.health with railOut := t.health.railOut, railIn := t.health.railIn, railAt := s.nowNs } }) ∧
  (∀ (i raw : Nat) (s : State),
    s.on .mgmt = true ∧ s.health.tempAt + 10000000 ≤ s.nowNs ∧ i < 44 ∧ raw < 1024 ∧ s.getS bHl Rg.HL_TLIM.WARN < sgn 10 raw ∧ sgn 10 raw ≤ s.getS bHl Rg.HL_TLIM.CRIT - 8 ∧ s.health.warned.contains i = false →
    ∃ t, exec (.tempSample [(i, raw)]) s = .next t ∧
      (t.get (hlIsl i) Rg.HL_ISL.TEMP = raw ∧ t.get (hlIsl i) Rg.HL_ISL.TMAX = (if s.getS (hlIsl i) Rg.HL_ISL.TMAX < sgn 10 raw then raw else s.get (hlIsl i) Rg.HL_ISL.TMAX) ∧ t.get bHl Rg.HL_EVT.TEMP = 1 ∧ t.health.warned.contains i = true) ∧
      Frame [wHl, wRc] s t { s with cells := t.cells, health := { s.health with warned := t.health.warned, crit := t.health.crit, tempAt := s.nowNs }, toggles := t.toggles, log := t.log }) ∧
  (∀ (i raw : Nat) (s : State),
    s.on .mgmt = true ∧ s.health.tempAt + 10000000 ≤ s.nowNs ∧ i < 44 ∧ raw < 1024 ∧ sgn 10 raw ≤ s.getS bHl Rg.HL_TLIM.WARN ∧ sgn 10 raw ≤ s.getS bHl Rg.HL_TLIM.CRIT →
    ∃ t, exec (.tempSample [(i, raw)]) s = .next t ∧
      t.get (hlIsl i) Rg.HL_ISL.TEMP = raw ∧ t.health.warned.contains i = (s.health.warned.contains i && decide (s.getS bHl Rg.HL_TLIM.WARN - 8 < sgn 10 raw)) ∧
      Frame [wHl] s t { s with cells := t.cells, health := { s.health with warned := t.health.warned, crit := t.health.crit, tempAt := s.nowNs } }) ∧
  (∀ (pin : Nat) (s : State),
    pin < 8 ∧ s.on .mgmt = true ∧ s.pinDriven pin = true ∧ lookupD 0 pin s.health.pinBad = 63 ∧ bitOf pin (s.get bHl Rg.HL_PINFLT.ALARM_OUT) = false →
    ∃ t, exec (.pinReadback pin false) s = .next t ∧
      t.get bHl Rg.HL_PINFLT.ALARM_OUT = s.get bHl Rg.HL_PINFLT.ALARM_OUT + 2 ^ pin ∧ t.get bHl Rg.HL_EVT.PIN = 1 ∧ lookupD 9 pin t.health.pinGood = 0 ∧
      Frame [wHl, wRc] s t { s with cells := t.cells, health := { s.health with pinChk := t.health.pinChk, pinBad := t.health.pinBad, pinGood := t.health.pinGood }, toggles := t.toggles, log := t.log }) ∧
  (∀ (pin : Nat) (s : State),
    pin < 8 ∧ s.on .mgmt = true ∧ s.pinDriven pin = true ∧ lookupD 0 pin s.health.pinGood = 255 ∧ bitOf pin (s.get bHl Rg.HL_PINFLT.ALARM_OUT) = true →
    ∃ t, exec (.pinReadback pin true) s = .next t ∧
      t.get bHl Rg.HL_PINFLT.ALARM_OUT = s.get bHl Rg.HL_PINFLT.ALARM_OUT - 2 ^ pin ∧
      Frame [wHl] s t { s with cells := t.cells, health := { s.health with pinChk := t.health.pinChk, pinBad := t.health.pinBad, pinGood := t.health.pinGood } })
end

