-- ==== Sys2Proof/Laws/State.lean ====
section
/-! SUPPORT. What each update of the state leaves alone, one lemma per field and update, so that no proof unfolds a record
update. -/

set_option Elab.async false

namespace Sys2Proof.Machine

/-! ### set -/

@[simp] theorem State.set_pending (s : State) (b : Nat) (f : Fld) (v : Nat) : (s.set b f v).pending = s.pending := rfl
@[simp] theorem State.set_mem (s : State) (b : Nat) (f : Fld) (v : Nat) : (s.set b f v).mem = s.mem := rfl
@[simp] theorem State.set_poison (s : State) (b : Nat) (f : Fld) (v : Nat) : (s.set b f v).poison = s.poison := rfl
@[simp] theorem State.set_flips (s : State) (b : Nat) (f : Fld) (v : Nat) : (s.set b f v).flips = s.flips := rfl
@[simp] theorem State.set_power (s : State) (b : Nat) (f : Fld) (v : Nat) : (s.set b f v).power = s.power := rfl
@[simp] theorem State.set_modes (s : State) (b : Nat) (f : Fld) (v : Nat) : (s.set b f v).modes = s.modes := rfl
@[simp] theorem State.set_boot (s : State) (b : Nat) (f : Fld) (v : Nat) : (s.set b f v).boot = s.boot := rfl
@[simp] theorem State.set_upd (s : State) (b : Nat) (f : Fld) (v : Nat) : (s.set b f v).upd = s.upd := rfl
@[simp] theorem State.set_cores (s : State) (b : Nat) (f : Fld) (v : Nat) : (s.set b f v).cores = s.cores := rfl
@[simp] theorem State.set_cocoon (s : State) (b : Nat) (f : Fld) (v : Nat) : (s.set b f v).cocoon = s.cocoon := rfl
@[simp] theorem State.set_resp (s : State) (b : Nat) (f : Fld) (v : Nat) : (s.set b f v).resp = s.resp := rfl
@[simp] theorem State.set_staged (s : State) (b : Nat) (f : Fld) (v : Nat) : (s.set b f v).staged = s.staged := rfl
@[simp] theorem State.set_caught (s : State) (b : Nat) (f : Fld) (v : Nat) : (s.set b f v).caught = s.caught := rfl
@[simp] theorem State.set_img (s : State) (b : Nat) (f : Fld) (v : Nat) : (s.set b f v).img = s.img := rfl
@[simp] theorem State.set_links (s : State) (b : Nat) (f : Fld) (v : Nat) : (s.set b f v).links = s.links := rfl
@[simp] theorem State.set_rx (s : State) (b : Nat) (f : Fld) (v : Nat) : (s.set b f v).rx = s.rx := rfl
@[simp] theorem State.set_outq (s : State) (b : Nat) (f : Fld) (v : Nat) : (s.set b f v).outq = s.outq := rfl
@[simp] theorem State.set_disp (s : State) (b : Nat) (f : Fld) (v : Nat) : (s.set b f v).disp = s.disp := rfl
@[simp] theorem State.set_toggles (s : State) (b : Nat) (f : Fld) (v : Nat) : (s.set b f v).toggles = s.toggles := rfl
@[simp] theorem State.set_toTp (s : State) (b : Nat) (f : Fld) (v : Nat) : (s.set b f v).toTp = s.toTp := rfl
@[simp] theorem State.set_toSs (s : State) (b : Nat) (f : Fld) (v : Nat) : (s.set b f v).toSs = s.toSs := rfl
@[simp] theorem State.set_log (s : State) (b : Nat) (f : Fld) (v : Nat) : (s.set b f v).log = s.log := rfl
@[simp] theorem State.set_health (s : State) (b : Nat) (f : Fld) (v : Nat) : (s.set b f v).health = s.health := rfl
@[simp] theorem State.set_time (s : State) (b : Nat) (f : Fld) (v : Nat) : (s.set b f v).time = s.time := rfl
@[simp] theorem State.set_stop (s : State) (b : Nat) (f : Fld) (v : Nat) : (s.set b f v).stop = s.stop := rfl
@[simp] theorem State.set_radio (s : State) (b : Nat) (f : Fld) (v : Nat) : (s.set b f v).radio = s.radio := rfl
@[simp] theorem State.set_loops (s : State) (b : Nat) (f : Fld) (v : Nat) : (s.set b f v).loops = s.loops := rfl
@[simp] theorem State.set_samples (s : State) (b : Nat) (f : Fld) (v : Nat) : (s.set b f v).samples = s.samples := rfl
@[simp] theorem State.set_gnss (s : State) (b : Nat) (f : Fld) (v : Nat) : (s.set b f v).gnss = s.gnss := rfl
@[simp] theorem State.set_obs (s : State) (b : Nat) (f : Fld) (v : Nat) : (s.set b f v).obs = s.obs := rfl
@[simp] theorem State.set_waves (s : State) (b : Nat) (f : Fld) (v : Nat) : (s.set b f v).waves = s.waves := rfl
@[simp] theorem State.set_inbox (s : State) (b : Nat) (f : Fld) (v : Nat) : (s.set b f v).inbox = s.inbox := rfl
@[simp] theorem State.set_phs (s : State) (b : Nat) (f : Fld) (v : Nat) : (s.set b f v).phs = s.phs := rfl
@[simp] theorem State.set_align (s : State) (b : Nat) (f : Fld) (v : Nat) : (s.set b f v).align = s.align := rfl
@[simp] theorem State.set_groups (s : State) (b : Nat) (f : Fld) (v : Nat) : (s.set b f v).groups = s.groups := rfl
@[simp] theorem State.set_engines (s : State) (b : Nat) (f : Fld) (v : Nat) : (s.set b f v).engines = s.engines := rfl
@[simp] theorem State.set_pins (s : State) (b : Nat) (f : Fld) (v : Nat) : (s.set b f v).pins = s.pins := rfl
@[simp] theorem State.set_lines (s : State) (b : Nat) (f : Fld) (v : Nat) : (s.set b f v).lines = s.lines := rfl
@[simp] theorem State.set_tracks (s : State) (b : Nat) (f : Fld) (v : Nat) : (s.set b f v).tracks = s.tracks := rfl
@[simp] theorem State.set_eth (s : State) (b : Nat) (f : Fld) (v : Nat) : (s.set b f v).eth = s.eth := rfl
@[simp] theorem State.set_cans (s : State) (b : Nat) (f : Fld) (v : Nat) : (s.set b f v).cans = s.cans := rfl
@[simp] theorem State.set_pkt (s : State) (b : Nat) (f : Fld) (v : Nat) : (s.set b f v).pkt = s.pkt := rfl
@[simp] theorem State.set_sec (s : State) (b : Nat) (f : Fld) (v : Nat) : (s.set b f v).sec = s.sec := rfl
@[simp] theorem State.set_pcie (s : State) (b : Nat) (f : Fld) (v : Nat) : (s.set b f v).pcie = s.pcie := rfl
@[simp] theorem State.set_yx (s : State) (b : Nat) (f : Fld) (v : Nat) : (s.set b f v).yx = s.yx := rfl
@[simp] theorem State.set_dma (s : State) (b : Nat) (f : Fld) (v : Nat) : (s.set b f v).dma = s.dma := rfl
@[simp] theorem State.set_scrub (s : State) (b : Nat) (f : Fld) (v : Nat) : (s.set b f v).scrub = s.scrub := rfl
@[simp] theorem State.set_free (s : State) (b : Nat) (f : Fld) (v : Nat) : (s.set b f v).free = s.free := rfl

/-! ### setB -/

@[simp] theorem State.setB_pending (s : State) (b : Nat) (f : Fld) (v : Bool) : (s.setB b f v).pending = s.pending := rfl
@[simp] theorem State.setB_mem (s : State) (b : Nat) (f : Fld) (v : Bool) : (s.setB b f v).mem = s.mem := rfl
@[simp] theorem State.setB_poison (s : State) (b : Nat) (f : Fld) (v : Bool) : (s.setB b f v).poison = s.poison := rfl
@[simp] theorem State.setB_flips (s : State) (b : Nat) (f : Fld) (v : Bool) : (s.setB b f v).flips = s.flips := rfl
@[simp] theorem State.setB_power (s : State) (b : Nat) (f : Fld) (v : Bool) : (s.setB b f v).power = s.power := rfl
@[simp] theorem State.setB_modes (s : State) (b : Nat) (f : Fld) (v : Bool) : (s.setB b f v).modes = s.modes := rfl
@[simp] theorem State.setB_boot (s : State) (b : Nat) (f : Fld) (v : Bool) : (s.setB b f v).boot = s.boot := rfl
@[simp] theorem State.setB_upd (s : State) (b : Nat) (f : Fld) (v : Bool) : (s.setB b f v).upd = s.upd := rfl
@[simp] theorem State.setB_cores (s : State) (b : Nat) (f : Fld) (v : Bool) : (s.setB b f v).cores = s.cores := rfl
@[simp] theorem State.setB_cocoon (s : State) (b : Nat) (f : Fld) (v : Bool) : (s.setB b f v).cocoon = s.cocoon := rfl
@[simp] theorem State.setB_resp (s : State) (b : Nat) (f : Fld) (v : Bool) : (s.setB b f v).resp = s.resp := rfl
@[simp] theorem State.setB_staged (s : State) (b : Nat) (f : Fld) (v : Bool) : (s.setB b f v).staged = s.staged := rfl
@[simp] theorem State.setB_caught (s : State) (b : Nat) (f : Fld) (v : Bool) : (s.setB b f v).caught = s.caught := rfl
@[simp] theorem State.setB_img (s : State) (b : Nat) (f : Fld) (v : Bool) : (s.setB b f v).img = s.img := rfl
@[simp] theorem State.setB_links (s : State) (b : Nat) (f : Fld) (v : Bool) : (s.setB b f v).links = s.links := rfl
@[simp] theorem State.setB_rx (s : State) (b : Nat) (f : Fld) (v : Bool) : (s.setB b f v).rx = s.rx := rfl
@[simp] theorem State.setB_outq (s : State) (b : Nat) (f : Fld) (v : Bool) : (s.setB b f v).outq = s.outq := rfl
@[simp] theorem State.setB_disp (s : State) (b : Nat) (f : Fld) (v : Bool) : (s.setB b f v).disp = s.disp := rfl
@[simp] theorem State.setB_toggles (s : State) (b : Nat) (f : Fld) (v : Bool) : (s.setB b f v).toggles = s.toggles := rfl
@[simp] theorem State.setB_toTp (s : State) (b : Nat) (f : Fld) (v : Bool) : (s.setB b f v).toTp = s.toTp := rfl
@[simp] theorem State.setB_toSs (s : State) (b : Nat) (f : Fld) (v : Bool) : (s.setB b f v).toSs = s.toSs := rfl
@[simp] theorem State.setB_log (s : State) (b : Nat) (f : Fld) (v : Bool) : (s.setB b f v).log = s.log := rfl
@[simp] theorem State.setB_health (s : State) (b : Nat) (f : Fld) (v : Bool) : (s.setB b f v).health = s.health := rfl
@[simp] theorem State.setB_time (s : State) (b : Nat) (f : Fld) (v : Bool) : (s.setB b f v).time = s.time := rfl
@[simp] theorem State.setB_stop (s : State) (b : Nat) (f : Fld) (v : Bool) : (s.setB b f v).stop = s.stop := rfl
@[simp] theorem State.setB_radio (s : State) (b : Nat) (f : Fld) (v : Bool) : (s.setB b f v).radio = s.radio := rfl
@[simp] theorem State.setB_loops (s : State) (b : Nat) (f : Fld) (v : Bool) : (s.setB b f v).loops = s.loops := rfl
@[simp] theorem State.setB_samples (s : State) (b : Nat) (f : Fld) (v : Bool) : (s.setB b f v).samples = s.samples := rfl
@[simp] theorem State.setB_gnss (s : State) (b : Nat) (f : Fld) (v : Bool) : (s.setB b f v).gnss = s.gnss := rfl
@[simp] theorem State.setB_obs (s : State) (b : Nat) (f : Fld) (v : Bool) : (s.setB b f v).obs = s.obs := rfl
@[simp] theorem State.setB_waves (s : State) (b : Nat) (f : Fld) (v : Bool) : (s.setB b f v).waves = s.waves := rfl
@[simp] theorem State.setB_inbox (s : State) (b : Nat) (f : Fld) (v : Bool) : (s.setB b f v).inbox = s.inbox := rfl
@[simp] theorem State.setB_phs (s : State) (b : Nat) (f : Fld) (v : Bool) : (s.setB b f v).phs = s.phs := rfl
@[simp] theorem State.setB_align (s : State) (b : Nat) (f : Fld) (v : Bool) : (s.setB b f v).align = s.align := rfl
@[simp] theorem State.setB_groups (s : State) (b : Nat) (f : Fld) (v : Bool) : (s.setB b f v).groups = s.groups := rfl
@[simp] theorem State.setB_engines (s : State) (b : Nat) (f : Fld) (v : Bool) : (s.setB b f v).engines = s.engines := rfl
@[simp] theorem State.setB_pins (s : State) (b : Nat) (f : Fld) (v : Bool) : (s.setB b f v).pins = s.pins := rfl
@[simp] theorem State.setB_lines (s : State) (b : Nat) (f : Fld) (v : Bool) : (s.setB b f v).lines = s.lines := rfl
@[simp] theorem State.setB_tracks (s : State) (b : Nat) (f : Fld) (v : Bool) : (s.setB b f v).tracks = s.tracks := rfl
@[simp] theorem State.setB_eth (s : State) (b : Nat) (f : Fld) (v : Bool) : (s.setB b f v).eth = s.eth := rfl
@[simp] theorem State.setB_cans (s : State) (b : Nat) (f : Fld) (v : Bool) : (s.setB b f v).cans = s.cans := rfl
@[simp] theorem State.setB_pkt (s : State) (b : Nat) (f : Fld) (v : Bool) : (s.setB b f v).pkt = s.pkt := rfl
@[simp] theorem State.setB_sec (s : State) (b : Nat) (f : Fld) (v : Bool) : (s.setB b f v).sec = s.sec := rfl
@[simp] theorem State.setB_pcie (s : State) (b : Nat) (f : Fld) (v : Bool) : (s.setB b f v).pcie = s.pcie := rfl
@[simp] theorem State.setB_yx (s : State) (b : Nat) (f : Fld) (v : Bool) : (s.setB b f v).yx = s.yx := rfl
@[simp] theorem State.setB_dma (s : State) (b : Nat) (f : Fld) (v : Bool) : (s.setB b f v).dma = s.dma := rfl
@[simp] theorem State.setB_scrub (s : State) (b : Nat) (f : Fld) (v : Bool) : (s.setB b f v).scrub = s.scrub := rfl
@[simp] theorem State.setB_free (s : State) (b : Nat) (f : Fld) (v : Bool) : (s.setB b f v).free = s.free := rfl

/-! ### setS -/

@[simp] theorem State.setS_pending (s : State) (b : Nat) (f : Fld) (v : Int) : (s.setS b f v).pending = s.pending := rfl
@[simp] theorem State.setS_mem (s : State) (b : Nat) (f : Fld) (v : Int) : (s.setS b f v).mem = s.mem := rfl
@[simp] theorem State.setS_poison (s : State) (b : Nat) (f : Fld) (v : Int) : (s.setS b f v).poison = s.poison := rfl
@[simp] theorem State.setS_flips (s : State) (b : Nat) (f : Fld) (v : Int) : (s.setS b f v).flips = s.flips := rfl
@[simp] theorem State.setS_power (s : State) (b : Nat) (f : Fld) (v : Int) : (s.setS b f v).power = s.power := rfl
@[simp] theorem State.setS_modes (s : State) (b : Nat) (f : Fld) (v : Int) : (s.setS b f v).modes = s.modes := rfl
@[simp] theorem State.setS_boot (s : State) (b : Nat) (f : Fld) (v : Int) : (s.setS b f v).boot = s.boot := rfl
@[simp] theorem State.setS_upd (s : State) (b : Nat) (f : Fld) (v : Int) : (s.setS b f v).upd = s.upd := rfl
@[simp] theorem State.setS_cores (s : State) (b : Nat) (f : Fld) (v : Int) : (s.setS b f v).cores = s.cores := rfl
@[simp] theorem State.setS_cocoon (s : State) (b : Nat) (f : Fld) (v : Int) : (s.setS b f v).cocoon = s.cocoon := rfl
@[simp] theorem State.setS_resp (s : State) (b : Nat) (f : Fld) (v : Int) : (s.setS b f v).resp = s.resp := rfl
@[simp] theorem State.setS_staged (s : State) (b : Nat) (f : Fld) (v : Int) : (s.setS b f v).staged = s.staged := rfl
@[simp] theorem State.setS_caught (s : State) (b : Nat) (f : Fld) (v : Int) : (s.setS b f v).caught = s.caught := rfl
@[simp] theorem State.setS_img (s : State) (b : Nat) (f : Fld) (v : Int) : (s.setS b f v).img = s.img := rfl
@[simp] theorem State.setS_links (s : State) (b : Nat) (f : Fld) (v : Int) : (s.setS b f v).links = s.links := rfl
@[simp] theorem State.setS_rx (s : State) (b : Nat) (f : Fld) (v : Int) : (s.setS b f v).rx = s.rx := rfl
@[simp] theorem State.setS_outq (s : State) (b : Nat) (f : Fld) (v : Int) : (s.setS b f v).outq = s.outq := rfl
@[simp] theorem State.setS_disp (s : State) (b : Nat) (f : Fld) (v : Int) : (s.setS b f v).disp = s.disp := rfl
@[simp] theorem State.setS_toggles (s : State) (b : Nat) (f : Fld) (v : Int) : (s.setS b f v).toggles = s.toggles := rfl
@[simp] theorem State.setS_toTp (s : State) (b : Nat) (f : Fld) (v : Int) : (s.setS b f v).toTp = s.toTp := rfl
@[simp] theorem State.setS_toSs (s : State) (b : Nat) (f : Fld) (v : Int) : (s.setS b f v).toSs = s.toSs := rfl
@[simp] theorem State.setS_log (s : State) (b : Nat) (f : Fld) (v : Int) : (s.setS b f v).log = s.log := rfl
@[simp] theorem State.setS_health (s : State) (b : Nat) (f : Fld) (v : Int) : (s.setS b f v).health = s.health := rfl
@[simp] theorem State.setS_time (s : State) (b : Nat) (f : Fld) (v : Int) : (s.setS b f v).time = s.time := rfl
@[simp] theorem State.setS_stop (s : State) (b : Nat) (f : Fld) (v : Int) : (s.setS b f v).stop = s.stop := rfl
@[simp] theorem State.setS_radio (s : State) (b : Nat) (f : Fld) (v : Int) : (s.setS b f v).radio = s.radio := rfl
@[simp] theorem State.setS_loops (s : State) (b : Nat) (f : Fld) (v : Int) : (s.setS b f v).loops = s.loops := rfl
@[simp] theorem State.setS_samples (s : State) (b : Nat) (f : Fld) (v : Int) : (s.setS b f v).samples = s.samples := rfl
@[simp] theorem State.setS_gnss (s : State) (b : Nat) (f : Fld) (v : Int) : (s.setS b f v).gnss = s.gnss := rfl
@[simp] theorem State.setS_obs (s : State) (b : Nat) (f : Fld) (v : Int) : (s.setS b f v).obs = s.obs := rfl
@[simp] theorem State.setS_waves (s : State) (b : Nat) (f : Fld) (v : Int) : (s.setS b f v).waves = s.waves := rfl
@[simp] theorem State.setS_inbox (s : State) (b : Nat) (f : Fld) (v : Int) : (s.setS b f v).inbox = s.inbox := rfl
@[simp] theorem State.setS_phs (s : State) (b : Nat) (f : Fld) (v : Int) : (s.setS b f v).phs = s.phs := rfl
@[simp] theorem State.setS_align (s : State) (b : Nat) (f : Fld) (v : Int) : (s.setS b f v).align = s.align := rfl
@[simp] theorem State.setS_groups (s : State) (b : Nat) (f : Fld) (v : Int) : (s.setS b f v).groups = s.groups := rfl
@[simp] theorem State.setS_engines (s : State) (b : Nat) (f : Fld) (v : Int) : (s.setS b f v).engines = s.engines := rfl
@[simp] theorem State.setS_pins (s : State) (b : Nat) (f : Fld) (v : Int) : (s.setS b f v).pins = s.pins := rfl
@[simp] theorem State.setS_lines (s : State) (b : Nat) (f : Fld) (v : Int) : (s.setS b f v).lines = s.lines := rfl
@[simp] theorem State.setS_tracks (s : State) (b : Nat) (f : Fld) (v : Int) : (s.setS b f v).tracks = s.tracks := rfl
@[simp] theorem State.setS_eth (s : State) (b : Nat) (f : Fld) (v : Int) : (s.setS b f v).eth = s.eth := rfl
@[simp] theorem State.setS_cans (s : State) (b : Nat) (f : Fld) (v : Int) : (s.setS b f v).cans = s.cans := rfl
@[simp] theorem State.setS_pkt (s : State) (b : Nat) (f : Fld) (v : Int) : (s.setS b f v).pkt = s.pkt := rfl
@[simp] theorem State.setS_sec (s : State) (b : Nat) (f : Fld) (v : Int) : (s.setS b f v).sec = s.sec := rfl
@[simp] theorem State.setS_pcie (s : State) (b : Nat) (f : Fld) (v : Int) : (s.setS b f v).pcie = s.pcie := rfl
@[simp] theorem State.setS_yx (s : State) (b : Nat) (f : Fld) (v : Int) : (s.setS b f v).yx = s.yx := rfl
@[simp] theorem State.setS_dma (s : State) (b : Nat) (f : Fld) (v : Int) : (s.setS b f v).dma = s.dma := rfl
@[simp] theorem State.setS_scrub (s : State) (b : Nat) (f : Fld) (v : Int) : (s.setS b f v).scrub = s.scrub := rfl
@[simp] theorem State.setS_free (s : State) (b : Nat) (f : Fld) (v : Int) : (s.setS b f v).free = s.free := rfl

/-! ### count -/

@[simp] theorem State.count_pending (s : State) (b : Nat) (f : Fld) (n : Nat) : (s.count b f n).pending = s.pending := rfl
@[simp] theorem State.count_mem (s : State) (b : Nat) (f : Fld) (n : Nat) : (s.count b f n).mem = s.mem := rfl
@[simp] theorem State.count_poison (s : State) (b : Nat) (f : Fld) (n : Nat) : (s.count b f n).poison = s.poison := rfl
@[simp] theorem State.count_flips (s : State) (b : Nat) (f : Fld) (n : Nat) : (s.count b f n).flips = s.flips := rfl
@[simp] theorem State.count_power (s : State) (b : Nat) (f : Fld) (n : Nat) : (s.count b f n).power = s.power := rfl
@[simp] theorem State.count_modes (s : State) (b : Nat) (f : Fld) (n : Nat) : (s.count b f n).modes = s.modes := rfl
@[simp] theorem State.count_boot (s : State) (b : Nat) (f : Fld) (n : Nat) : (s.count b f n).boot = s.boot := rfl
@[simp] theorem State.count_upd (s : State) (b : Nat) (f : Fld) (n : Nat) : (s.count b f n).upd = s.upd := rfl
@[simp] theorem State.count_cores (s : State) (b : Nat) (f : Fld) (n : Nat) : (s.count b f n).cores = s.cores := rfl
@[simp] theorem State.count_cocoon (s : State) (b : Nat) (f : Fld) (n : Nat) : (s.count b f n).cocoon = s.cocoon := rfl
@[simp] theorem State.count_resp (s : State) (b : Nat) (f : Fld) (n : Nat) : (s.count b f n).resp = s.resp := rfl
@[simp] theorem State.count_staged (s : State) (b : Nat) (f : Fld) (n : Nat) : (s.count b f n).staged = s.staged := rfl
@[simp] theorem State.count_caught (s : State) (b : Nat) (f : Fld) (n : Nat) : (s.count b f n).caught = s.caught := rfl
@[simp] theorem State.count_img (s : State) (b : Nat) (f : Fld) (n : Nat) : (s.count b f n).img = s.img := rfl
@[simp] theorem State.count_links (s : State) (b : Nat) (f : Fld) (n : Nat) : (s.count b f n).links = s.links := rfl
@[simp] theorem State.count_rx (s : State) (b : Nat) (f : Fld) (n : Nat) : (s.count b f n).rx = s.rx := rfl
@[simp] theorem State.count_outq (s : State) (b : Nat) (f : Fld) (n : Nat) : (s.count b f n).outq = s.outq := rfl
@[simp] theorem State.count_disp (s : State) (b : Nat) (f : Fld) (n : Nat) : (s.count b f n).disp = s.disp := rfl
@[simp] theorem State.count_toggles (s : State) (b : Nat) (f : Fld) (n : Nat) : (s.count b f n).toggles = s.toggles := rfl
@[simp] theorem State.count_toTp (s : State) (b : Nat) (f : Fld) (n : Nat) : (s.count b f n).toTp = s.toTp := rfl
@[simp] theorem State.count_toSs (s : State) (b : Nat) (f : Fld) (n : Nat) : (s.count b f n).toSs = s.toSs := rfl
@[simp] theorem State.count_log (s : State) (b : Nat) (f : Fld) (n : Nat) : (s.count b f n).log = s.log := rfl
@[simp] theorem State.count_health (s : State) (b : Nat) (f : Fld) (n : Nat) : (s.count b f n).health = s.health := rfl
@[simp] theorem State.count_time (s : State) (b : Nat) (f : Fld) (n : Nat) : (s.count b f n).time = s.time := rfl
@[simp] theorem State.count_stop (s : State) (b : Nat) (f : Fld) (n : Nat) : (s.count b f n).stop = s.stop := rfl
@[simp] theorem State.count_radio (s : State) (b : Nat) (f : Fld) (n : Nat) : (s.count b f n).radio = s.radio := rfl
@[simp] theorem State.count_loops (s : State) (b : Nat) (f : Fld) (n : Nat) : (s.count b f n).loops = s.loops := rfl
@[simp] theorem State.count_samples (s : State) (b : Nat) (f : Fld) (n : Nat) : (s.count b f n).samples = s.samples := rfl
@[simp] theorem State.count_gnss (s : State) (b : Nat) (f : Fld) (n : Nat) : (s.count b f n).gnss = s.gnss := rfl
@[simp] theorem State.count_obs (s : State) (b : Nat) (f : Fld) (n : Nat) : (s.count b f n).obs = s.obs := rfl
@[simp] theorem State.count_waves (s : State) (b : Nat) (f : Fld) (n : Nat) : (s.count b f n).waves = s.waves := rfl
@[simp] theorem State.count_inbox (s : State) (b : Nat) (f : Fld) (n : Nat) : (s.count b f n).inbox = s.inbox := rfl
@[simp] theorem State.count_phs (s : State) (b : Nat) (f : Fld) (n : Nat) : (s.count b f n).phs = s.phs := rfl
@[simp] theorem State.count_align (s : State) (b : Nat) (f : Fld) (n : Nat) : (s.count b f n).align = s.align := rfl
@[simp] theorem State.count_groups (s : State) (b : Nat) (f : Fld) (n : Nat) : (s.count b f n).groups = s.groups := rfl
@[simp] theorem State.count_engines (s : State) (b : Nat) (f : Fld) (n : Nat) : (s.count b f n).engines = s.engines := rfl
@[simp] theorem State.count_pins (s : State) (b : Nat) (f : Fld) (n : Nat) : (s.count b f n).pins = s.pins := rfl
@[simp] theorem State.count_lines (s : State) (b : Nat) (f : Fld) (n : Nat) : (s.count b f n).lines = s.lines := rfl
@[simp] theorem State.count_tracks (s : State) (b : Nat) (f : Fld) (n : Nat) : (s.count b f n).tracks = s.tracks := rfl
@[simp] theorem State.count_eth (s : State) (b : Nat) (f : Fld) (n : Nat) : (s.count b f n).eth = s.eth := rfl
@[simp] theorem State.count_cans (s : State) (b : Nat) (f : Fld) (n : Nat) : (s.count b f n).cans = s.cans := rfl
@[simp] theorem State.count_pkt (s : State) (b : Nat) (f : Fld) (n : Nat) : (s.count b f n).pkt = s.pkt := rfl
@[simp] theorem State.count_sec (s : State) (b : Nat) (f : Fld) (n : Nat) : (s.count b f n).sec = s.sec := rfl
@[simp] theorem State.count_pcie (s : State) (b : Nat) (f : Fld) (n : Nat) : (s.count b f n).pcie = s.pcie := rfl
@[simp] theorem State.count_yx (s : State) (b : Nat) (f : Fld) (n : Nat) : (s.count b f n).yx = s.yx := rfl
@[simp] theorem State.count_dma (s : State) (b : Nat) (f : Fld) (n : Nat) : (s.count b f n).dma = s.dma := rfl
@[simp] theorem State.count_scrub (s : State) (b : Nat) (f : Fld) (n : Nat) : (s.count b f n).scrub = s.scrub := rfl
@[simp] theorem State.count_free (s : State) (b : Nat) (f : Fld) (n : Nat) : (s.count b f n).free = s.free := rfl

/-! ### answer -/

@[simp] theorem State.answer_pending (s : State) (h : Done) (v : Nat) : (s.answer h v).pending = s.pending := rfl
@[simp] theorem State.answer_cells (s : State) (h : Done) (v : Nat) : (s.answer h v).cells = s.cells := rfl
@[simp] theorem State.answer_mem (s : State) (h : Done) (v : Nat) : (s.answer h v).mem = s.mem := rfl
@[simp] theorem State.answer_poison (s : State) (h : Done) (v : Nat) : (s.answer h v).poison = s.poison := rfl
@[simp] theorem State.answer_flips (s : State) (h : Done) (v : Nat) : (s.answer h v).flips = s.flips := rfl
@[simp] theorem State.answer_power (s : State) (h : Done) (v : Nat) : (s.answer h v).power = s.power := rfl
@[simp] theorem State.answer_modes (s : State) (h : Done) (v : Nat) : (s.answer h v).modes = s.modes := rfl
@[simp] theorem State.answer_boot (s : State) (h : Done) (v : Nat) : (s.answer h v).boot = s.boot := rfl
@[simp] theorem State.answer_upd (s : State) (h : Done) (v : Nat) : (s.answer h v).upd = s.upd := rfl
@[simp] theorem State.answer_cores (s : State) (h : Done) (v : Nat) : (s.answer h v).cores = s.cores := rfl
@[simp] theorem State.answer_cocoon (s : State) (h : Done) (v : Nat) : (s.answer h v).cocoon = s.cocoon := rfl
@[simp] theorem State.answer_staged (s : State) (h : Done) (v : Nat) : (s.answer h v).staged = s.staged := rfl
@[simp] theorem State.answer_caught (s : State) (h : Done) (v : Nat) : (s.answer h v).caught = s.caught := rfl
@[simp] theorem State.answer_img (s : State) (h : Done) (v : Nat) : (s.answer h v).img = s.img := rfl
@[simp] theorem State.answer_links (s : State) (h : Done) (v : Nat) : (s.answer h v).links = s.links := rfl
@[simp] theorem State.answer_rx (s : State) (h : Done) (v : Nat) : (s.answer h v).rx = s.rx := rfl
@[simp] theorem State.answer_outq (s : State) (h : Done) (v : Nat) : (s.answer h v).outq = s.outq := rfl
@[simp] theorem State.answer_disp (s : State) (h : Done) (v : Nat) : (s.answer h v).disp = s.disp := rfl
@[simp] theorem State.answer_toggles (s : State) (h : Done) (v : Nat) : (s.answer h v).toggles = s.toggles := rfl
@[simp] theorem State.answer_toTp (s : State) (h : Done) (v : Nat) : (s.answer h v).toTp = s.toTp := rfl
@[simp] theorem State.answer_toSs (s : State) (h : Done) (v : Nat) : (s.answer h v).toSs = s.toSs := rfl
@[simp] theorem State.answer_log (s : State) (h : Done) (v : Nat) : (s.answer h v).log = s.log := rfl
@[simp] theorem State.answer_health (s : State) (h : Done) (v : Nat) : (s.answer h v).health = s.health := rfl
@[simp] theorem State.answer_time (s : State) (h : Done) (v : Nat) : (s.answer h v).time = s.time := rfl
@[simp] theorem State.answer_stop (s : State) (h : Done) (v : Nat) : (s.answer h v).stop = s.stop := rfl
@[simp] theorem State.answer_radio (s : State) (h : Done) (v : Nat) : (s.answer h v).radio = s.radio := rfl
@[simp] theorem State.answer_loops (s : State) (h : Done) (v : Nat) : (s.answer h v).loops = s.loops := rfl
@[simp] theorem State.answer_samples (s : State) (h : Done) (v : Nat) : (s.answer h v).samples = s.samples := rfl
@[simp] theorem State.answer_gnss (s : State) (h : Done) (v : Nat) : (s.answer h v).gnss = s.gnss := rfl
@[simp] theorem State.answer_obs (s : State) (h : Done) (v : Nat) : (s.answer h v).obs = s.obs := rfl
@[simp] theorem State.answer_waves (s : State) (h : Done) (v : Nat) : (s.answer h v).waves = s.waves := rfl
@[simp] theorem State.answer_inbox (s : State) (h : Done) (v : Nat) : (s.answer h v).inbox = s.inbox := rfl
@[simp] theorem State.answer_phs (s : State) (h : Done) (v : Nat) : (s.answer h v).phs = s.phs := rfl
@[simp] theorem State.answer_align (s : State) (h : Done) (v : Nat) : (s.answer h v).align = s.align := rfl
@[simp] theorem State.answer_groups (s : State) (h : Done) (v : Nat) : (s.answer h v).groups = s.groups := rfl
@[simp] theorem State.answer_engines (s : State) (h : Done) (v : Nat) : (s.answer h v).engines = s.engines := rfl
@[simp] theorem State.answer_pins (s : State) (h : Done) (v : Nat) : (s.answer h v).pins = s.pins := rfl
@[simp] theorem State.answer_lines (s : State) (h : Done) (v : Nat) : (s.answer h v).lines = s.lines := rfl
@[simp] theorem State.answer_tracks (s : State) (h : Done) (v : Nat) : (s.answer h v).tracks = s.tracks := rfl
@[simp] theorem State.answer_eth (s : State) (h : Done) (v : Nat) : (s.answer h v).eth = s.eth := rfl
@[simp] theorem State.answer_cans (s : State) (h : Done) (v : Nat) : (s.answer h v).cans = s.cans := rfl
@[simp] theorem State.answer_pkt (s : State) (h : Done) (v : Nat) : (s.answer h v).pkt = s.pkt := rfl
@[simp] theorem State.answer_sec (s : State) (h : Done) (v : Nat) : (s.answer h v).sec = s.sec := rfl
@[simp] theorem State.answer_pcie (s : State) (h : Done) (v : Nat) : (s.answer h v).pcie = s.pcie := rfl
@[simp] theorem State.answer_yx (s : State) (h : Done) (v : Nat) : (s.answer h v).yx = s.yx := rfl
@[simp] theorem State.answer_dma (s : State) (h : Done) (v : Nat) : (s.answer h v).dma = s.dma := rfl
@[simp] theorem State.answer_scrub (s : State) (h : Done) (v : Nat) : (s.answer h v).scrub = s.scrub := rfl
@[simp] theorem State.answer_free (s : State) (h : Done) (v : Nat) : (s.answer h v).free = s.free := rfl

/-! ### store -/

@[simp] theorem State.store_pending (s : State) (a : Nat) (l : List Byte) : (s.store a l).pending = s.pending := rfl
@[simp] theorem State.store_cells (s : State) (a : Nat) (l : List Byte) : (s.store a l).cells = s.cells := rfl
@[simp] theorem State.store_poison (s : State) (a : Nat) (l : List Byte) : (s.store a l).poison = s.poison := rfl
@[simp] theorem State.store_flips (s : State) (a : Nat) (l : List Byte) : (s.store a l).flips = s.flips := rfl
@[simp] theorem State.store_power (s : State) (a : Nat) (l : List Byte) : (s.store a l).power = s.power := rfl
@[simp] theorem State.store_modes (s : State) (a : Nat) (l : List Byte) : (s.store a l).modes = s.modes := rfl
@[simp] theorem State.store_boot (s : State) (a : Nat) (l : List Byte) : (s.store a l).boot = s.boot := rfl
@[simp] theorem State.store_upd (s : State) (a : Nat) (l : List Byte) : (s.store a l).upd = s.upd := rfl
@[simp] theorem State.store_cores (s : State) (a : Nat) (l : List Byte) : (s.store a l).cores = s.cores := rfl
@[simp] theorem State.store_cocoon (s : State) (a : Nat) (l : List Byte) : (s.store a l).cocoon = s.cocoon := rfl
@[simp] theorem State.store_resp (s : State) (a : Nat) (l : List Byte) : (s.store a l).resp = s.resp := rfl
@[simp] theorem State.store_staged (s : State) (a : Nat) (l : List Byte) : (s.store a l).staged = s.staged := rfl
@[simp] theorem State.store_caught (s : State) (a : Nat) (l : List Byte) : (s.store a l).caught = s.caught := rfl
@[simp] theorem State.store_img (s : State) (a : Nat) (l : List Byte) : (s.store a l).img = s.img := rfl
@[simp] theorem State.store_links (s : State) (a : Nat) (l : List Byte) : (s.store a l).links = s.links := rfl
@[simp] theorem State.store_rx (s : State) (a : Nat) (l : List Byte) : (s.store a l).rx = s.rx := rfl
@[simp] theorem State.store_outq (s : State) (a : Nat) (l : List Byte) : (s.store a l).outq = s.outq := rfl
@[simp] theorem State.store_disp (s : State) (a : Nat) (l : List Byte) : (s.store a l).disp = s.disp := rfl
@[simp] theorem State.store_toggles (s : State) (a : Nat) (l : List Byte) : (s.store a l).toggles = s.toggles := rfl
@[simp] theorem State.store_toTp (s : State) (a : Nat) (l : List Byte) : (s.store a l).toTp = s.toTp := rfl
@[simp] theorem State.store_toSs (s : State) (a : Nat) (l : List Byte) : (s.store a l).toSs = s.toSs := rfl
@[simp] theorem State.store_log (s : State) (a : Nat) (l : List Byte) : (s.store a l).log = s.log := rfl
@[simp] theorem State.store_health (s : State) (a : Nat) (l : List Byte) : (s.store a l).health = s.health := rfl
@[simp] theorem State.store_time (s : State) (a : Nat) (l : List Byte) : (s.store a l).time = s.time := rfl
@[simp] theorem State.store_stop (s : State) (a : Nat) (l : List Byte) : (s.store a l).stop = s.stop := rfl
@[simp] theorem State.store_radio (s : State) (a : Nat) (l : List Byte) : (s.store a l).radio = s.radio := rfl
@[simp] theorem State.store_loops (s : State) (a : Nat) (l : List Byte) : (s.store a l).loops = s.loops := rfl
@[simp] theorem State.store_samples (s : State) (a : Nat) (l : List Byte) : (s.store a l).samples = s.samples := rfl
@[simp] theorem State.store_gnss (s : State) (a : Nat) (l : List Byte) : (s.store a l).gnss = s.gnss := rfl
@[simp] theorem State.store_obs (s : State) (a : Nat) (l : List Byte) : (s.store a l).obs = s.obs := rfl
@[simp] theorem State.store_waves (s : State) (a : Nat) (l : List Byte) : (s.store a l).waves = s.waves := rfl
@[simp] theorem State.store_inbox (s : State) (a : Nat) (l : List Byte) : (s.store a l).inbox = s.inbox := rfl
@[simp] theorem State.store_phs (s : State) (a : Nat) (l : List Byte) : (s.store a l).phs = s.phs := rfl
@[simp] theorem State.store_align (s : State) (a : Nat) (l : List Byte) : (s.store a l).align = s.align := rfl
@[simp] theorem State.store_groups (s : State) (a : Nat) (l : List Byte) : (s.store a l).groups = s.groups := rfl
@[simp] theorem State.store_engines (s : State) (a : Nat) (l : List Byte) : (s.store a l).engines = s.engines := rfl
@[simp] theorem State.store_pins (s : State) (a : Nat) (l : List Byte) : (s.store a l).pins = s.pins := rfl
@[simp] theorem State.store_lines (s : State) (a : Nat) (l : List Byte) : (s.store a l).lines = s.lines := rfl
@[simp] theorem State.store_tracks (s : State) (a : Nat) (l : List Byte) : (s.store a l).tracks = s.tracks := rfl
@[simp] theorem State.store_eth (s : State) (a : Nat) (l : List Byte) : (s.store a l).eth = s.eth := rfl
@[simp] theorem State.store_cans (s : State) (a : Nat) (l : List Byte) : (s.store a l).cans = s.cans := rfl
@[simp] theorem State.store_pkt (s : State) (a : Nat) (l : List Byte) : (s.store a l).pkt = s.pkt := rfl
@[simp] theorem State.store_sec (s : State) (a : Nat) (l : List Byte) : (s.store a l).sec = s.sec := rfl
@[simp] theorem State.store_pcie (s : State) (a : Nat) (l : List Byte) : (s.store a l).pcie = s.pcie := rfl
@[simp] theorem State.store_yx (s : State) (a : Nat) (l : List Byte) : (s.store a l).yx = s.yx := rfl
@[simp] theorem State.store_dma (s : State) (a : Nat) (l : List Byte) : (s.store a l).dma = s.dma := rfl
@[simp] theorem State.store_scrub (s : State) (a : Nat) (l : List Byte) : (s.store a l).scrub = s.scrub := rfl
@[simp] theorem State.store_free (s : State) (a : Nat) (l : List Byte) : (s.store a l).free = s.free := rfl

/-! ### drawn -/

@[simp] theorem State.drawn_pending (s : State) (n : Nat) : (s.drawn n).pending = s.pending := rfl
@[simp] theorem State.drawn_cells (s : State) (n : Nat) : (s.drawn n).cells = s.cells := rfl
@[simp] theorem State.drawn_mem (s : State) (n : Nat) : (s.drawn n).mem = s.mem := rfl
@[simp] theorem State.drawn_poison (s : State) (n : Nat) : (s.drawn n).poison = s.poison := rfl
@[simp] theorem State.drawn_flips (s : State) (n : Nat) : (s.drawn n).flips = s.flips := rfl
@[simp] theorem State.drawn_power (s : State) (n : Nat) : (s.drawn n).power = s.power := rfl
@[simp] theorem State.drawn_modes (s : State) (n : Nat) : (s.drawn n).modes = s.modes := rfl
@[simp] theorem State.drawn_boot (s : State) (n : Nat) : (s.drawn n).boot = s.boot := rfl
@[simp] theorem State.drawn_upd (s : State) (n : Nat) : (s.drawn n).upd = s.upd := rfl
@[simp] theorem State.drawn_cores (s : State) (n : Nat) : (s.drawn n).cores = s.cores := rfl
@[simp] theorem State.drawn_cocoon (s : State) (n : Nat) : (s.drawn n).cocoon = s.cocoon := rfl
@[simp] theorem State.drawn_resp (s : State) (n : Nat) : (s.drawn n).resp = s.resp := rfl
@[simp] theorem State.drawn_staged (s : State) (n : Nat) : (s.drawn n).staged = s.staged := rfl
@[simp] theorem State.drawn_caught (s : State) (n : Nat) : (s.drawn n).caught = s.caught := rfl
@[simp] theorem State.drawn_img (s : State) (n : Nat) : (s.drawn n).img = s.img := rfl
@[simp] theorem State.drawn_links (s : State) (n : Nat) : (s.drawn n).links = s.links := rfl
@[simp] theorem State.drawn_rx (s : State) (n : Nat) : (s.drawn n).rx = s.rx := rfl
@[simp] theorem State.drawn_outq (s : State) (n : Nat) : (s.drawn n).outq = s.outq := rfl
@[simp] theorem State.drawn_disp (s : State) (n : Nat) : (s.drawn n).disp = s.disp := rfl
@[simp] theorem State.drawn_toggles (s : State) (n : Nat) : (s.drawn n).toggles = s.toggles := rfl
@[simp] theorem State.drawn_toTp (s : State) (n : Nat) : (s.drawn n).toTp = s.toTp := rfl
@[simp] theorem State.drawn_toSs (s : State) (n : Nat) : (s.drawn n).toSs = s.toSs := rfl
@[simp] theorem State.drawn_log (s : State) (n : Nat) : (s.drawn n).log = s.log := rfl
@[simp] theorem State.drawn_health (s : State) (n : Nat) : (s.drawn n).health = s.health := rfl
@[simp] theorem State.drawn_time (s : State) (n : Nat) : (s.drawn n).time = s.time := rfl
@[simp] theorem State.drawn_stop (s : State) (n : Nat) : (s.drawn n).stop = s.stop := rfl
@[simp] theorem State.drawn_radio (s : State) (n : Nat) : (s.drawn n).radio = s.radio := rfl
@[simp] theorem State.drawn_loops (s : State) (n : Nat) : (s.drawn n).loops = s.loops := rfl
@[simp] theorem State.drawn_samples (s : State) (n : Nat) : (s.drawn n).samples = s.samples := rfl
@[simp] theorem State.drawn_gnss (s : State) (n : Nat) : (s.drawn n).gnss = s.gnss := rfl
@[simp] theorem State.drawn_obs (s : State) (n : Nat) : (s.drawn n).obs = s.obs := rfl
@[simp] theorem State.drawn_waves (s : State) (n : Nat) : (s.drawn n).waves = s.waves := rfl
@[simp] theorem State.drawn_inbox (s : State) (n : Nat) : (s.drawn n).inbox = s.inbox := rfl
@[simp] theorem State.drawn_phs (s : State) (n : Nat) : (s.drawn n).phs = s.phs := rfl
@[simp] theorem State.drawn_align (s : State) (n : Nat) : (s.drawn n).align = s.align := rfl
@[simp] theorem State.drawn_groups (s : State) (n : Nat) : (s.drawn n).groups = s.groups := rfl
@[simp] theorem State.drawn_engines (s : State) (n : Nat) : (s.drawn n).engines = s.engines := rfl
@[simp] theorem State.drawn_pins (s : State) (n : Nat) : (s.drawn n).pins = s.pins := rfl
@[simp] theorem State.drawn_lines (s : State) (n : Nat) : (s.drawn n).lines = s.lines := rfl
@[simp] theorem State.drawn_tracks (s : State) (n : Nat) : (s.drawn n).tracks = s.tracks := rfl
@[simp] theorem State.drawn_eth (s : State) (n : Nat) : (s.drawn n).eth = s.eth := rfl
@[simp] theorem State.drawn_cans (s : State) (n : Nat) : (s.drawn n).cans = s.cans := rfl
@[simp] theorem State.drawn_pkt (s : State) (n : Nat) : (s.drawn n).pkt = s.pkt := rfl
@[simp] theorem State.drawn_sec (s : State) (n : Nat) : (s.drawn n).sec = s.sec := rfl
@[simp] theorem State.drawn_pcie (s : State) (n : Nat) : (s.drawn n).pcie = s.pcie := rfl
@[simp] theorem State.drawn_yx (s : State) (n : Nat) : (s.drawn n).yx = s.yx := rfl
@[simp] theorem State.drawn_dma (s : State) (n : Nat) : (s.drawn n).dma = s.dma := rfl
@[simp] theorem State.drawn_scrub (s : State) (n : Nat) : (s.drawn n).scrub = s.scrub := rfl

/-! ### fresh -/

@[simp] theorem State.fresh_pending (s : State)  : (s.fresh).pending = s.pending := rfl
@[simp] theorem State.fresh_cells (s : State)  : (s.fresh).cells = s.cells := rfl
@[simp] theorem State.fresh_mem (s : State)  : (s.fresh).mem = s.mem := rfl
@[simp] theorem State.fresh_poison (s : State)  : (s.fresh).poison = s.poison := rfl
@[simp] theorem State.fresh_flips (s : State)  : (s.fresh).flips = s.flips := rfl
@[simp] theorem State.fresh_power (s : State)  : (s.fresh).power = s.power := rfl
@[simp] theorem State.fresh_modes (s : State)  : (s.fresh).modes = s.modes := rfl
@[simp] theorem State.fresh_boot (s : State)  : (s.fresh).boot = s.boot := rfl
@[simp] theorem State.fresh_upd (s : State)  : (s.fresh).upd = s.upd := rfl
@[simp] theorem State.fresh_cores (s : State)  : (s.fresh).cores = s.cores := rfl
@[simp] theorem State.fresh_cocoon (s : State)  : (s.fresh).cocoon = s.cocoon := rfl
@[simp] theorem State.fresh_resp (s : State)  : (s.fresh).resp = s.resp := rfl
@[simp] theorem State.fresh_staged (s : State)  : (s.fresh).staged = s.staged := rfl
@[simp] theorem State.fresh_caught (s : State)  : (s.fresh).caught = s.caught := rfl
@[simp] theorem State.fresh_img (s : State)  : (s.fresh).img = s.img := rfl
@[simp] theorem State.fresh_links (s : State)  : (s.fresh).links = s.links := rfl
@[simp] theorem State.fresh_rx (s : State)  : (s.fresh).rx = s.rx := rfl
@[simp] theorem State.fresh_outq (s : State)  : (s.fresh).outq = s.outq := rfl
@[simp] theorem State.fresh_disp (s : State)  : (s.fresh).disp = s.disp := rfl
@[simp] theorem State.fresh_toggles (s : State)  : (s.fresh).toggles = s.toggles := rfl
@[simp] theorem State.fresh_toTp (s : State)  : (s.fresh).toTp = s.toTp := rfl
@[simp] theorem State.fresh_toSs (s : State)  : (s.fresh).toSs = s.toSs := rfl
@[simp] theorem State.fresh_log (s : State)  : (s.fresh).log = s.log := rfl
@[simp] theorem State.fresh_health (s : State)  : (s.fresh).health = s.health := rfl
@[simp] theorem State.fresh_time (s : State)  : (s.fresh).time = s.time := rfl
@[simp] theorem State.fresh_stop (s : State)  : (s.fresh).stop = s.stop := rfl
@[simp] theorem State.fresh_radio (s : State)  : (s.fresh).radio = s.radio := rfl
@[simp] theorem State.fresh_loops (s : State)  : (s.fresh).loops = s.loops := rfl
@[simp] theorem State.fresh_samples (s : State)  : (s.fresh).samples = s.samples := rfl
@[simp] theorem State.fresh_gnss (s : State)  : (s.fresh).gnss = s.gnss := rfl
@[simp] theorem State.fresh_obs (s : State)  : (s.fresh).obs = s.obs := rfl
@[simp] theorem State.fresh_waves (s : State)  : (s.fresh).waves = s.waves := rfl
@[simp] theorem State.fresh_inbox (s : State)  : (s.fresh).inbox = s.inbox := rfl
@[simp] theorem State.fresh_phs (s : State)  : (s.fresh).phs = s.phs := rfl
@[simp] theorem State.fresh_align (s : State)  : (s.fresh).align = s.align := rfl
@[simp] theorem State.fresh_groups (s : State)  : (s.fresh).groups = s.groups := rfl
@[simp] theorem State.fresh_engines (s : State)  : (s.fresh).engines = s.engines := rfl
@[simp] theorem State.fresh_pins (s : State)  : (s.fresh).pins = s.pins := rfl
@[simp] theorem State.fresh_lines (s : State)  : (s.fresh).lines = s.lines := rfl
@[simp] theorem State.fresh_tracks (s : State)  : (s.fresh).tracks = s.tracks := rfl
@[simp] theorem State.fresh_eth (s : State)  : (s.fresh).eth = s.eth := rfl
@[simp] theorem State.fresh_cans (s : State)  : (s.fresh).cans = s.cans := rfl
@[simp] theorem State.fresh_pkt (s : State)  : (s.fresh).pkt = s.pkt := rfl
@[simp] theorem State.fresh_sec (s : State)  : (s.fresh).sec = s.sec := rfl
@[simp] theorem State.fresh_pcie (s : State)  : (s.fresh).pcie = s.pcie := rfl
@[simp] theorem State.fresh_yx (s : State)  : (s.fresh).yx = s.yx := rfl
@[simp] theorem State.fresh_dma (s : State)  : (s.fresh).dma = s.dma := rfl
@[simp] theorem State.fresh_scrub (s : State)  : (s.fresh).scrub = s.scrub := rfl

/-! ### relock -/

@[simp] theorem State.relock_pending (s : State) (i c : Nat) : (s.relock i c).pending = s.pending := rfl
@[simp] theorem State.relock_mem (s : State) (i c : Nat) : (s.relock i c).mem = s.mem := rfl
@[simp] theorem State.relock_poison (s : State) (i c : Nat) : (s.relock i c).poison = s.poison := rfl
@[simp] theorem State.relock_flips (s : State) (i c : Nat) : (s.relock i c).flips = s.flips := rfl
@[simp] theorem State.relock_power (s : State) (i c : Nat) : (s.relock i c).power = s.power := rfl
@[simp] theorem State.relock_modes (s : State) (i c : Nat) : (s.relock i c).modes = s.modes := rfl
@[simp] theorem State.relock_boot (s : State) (i c : Nat) : (s.relock i c).boot = s.boot := rfl
@[simp] theorem State.relock_upd (s : State) (i c : Nat) : (s.relock i c).upd = s.upd := rfl
@[simp] theorem State.relock_cores (s : State) (i c : Nat) : (s.relock i c).cores = s.cores := rfl
@[simp] theorem State.relock_cocoon (s : State) (i c : Nat) : (s.relock i c).cocoon = s.cocoon := rfl
@[simp] theorem State.relock_resp (s : State) (i c : Nat) : (s.relock i c).resp = s.resp := rfl
@[simp] theorem State.relock_staged (s : State) (i c : Nat) : (s.relock i c).staged = s.staged := rfl
@[simp] theorem State.relock_caught (s : State) (i c : Nat) : (s.relock i c).caught = s.caught := rfl
@[simp] theorem State.relock_img (s : State) (i c : Nat) : (s.relock i c).img = s.img := rfl
@[simp] theorem State.relock_links (s : State) (i c : Nat) : (s.relock i c).links = s.links := rfl
@[simp] theorem State.relock_rx (s : State) (i c : Nat) : (s.relock i c).rx = s.rx := rfl
@[simp] theorem State.relock_outq (s : State) (i c : Nat) : (s.relock i c).outq = s.outq := rfl
@[simp] theorem State.relock_disp (s : State) (i c : Nat) : (s.relock i c).disp = s.disp := rfl
@[simp] theorem State.relock_toggles (s : State) (i c : Nat) : (s.relock i c).toggles = s.toggles := rfl
@[simp] theorem State.relock_toTp (s : State) (i c : Nat) : (s.relock i c).toTp = s.toTp := rfl
@[simp] theorem State.relock_toSs (s : State) (i c : Nat) : (s.relock i c).toSs = s.toSs := rfl
@[simp] theorem State.relock_log (s : State) (i c : Nat) : (s.relock i c).log = s.log := rfl
@[simp] theorem State.relock_health (s : State) (i c : Nat) : (s.relock i c).health = s.health := rfl
@[simp] theorem State.relock_time (s : State) (i c : Nat) : (s.relock i c).time = s.time := rfl
@[simp] theorem State.relock_stop (s : State) (i c : Nat) : (s.relock i c).stop = s.stop := rfl
@[simp] theorem State.relock_radio (s : State) (i c : Nat) : (s.relock i c).radio = s.radio := rfl
@[simp] theorem State.relock_loops (s : State) (i c : Nat) : (s.relock i c).loops = s.loops := rfl
@[simp] theorem State.relock_samples (s : State) (i c : Nat) : (s.relock i c).samples = s.samples := rfl
@[simp] theorem State.relock_gnss (s : State) (i c : Nat) : (s.relock i c).gnss = s.gnss := rfl
@[simp] theorem State.relock_obs (s : State) (i c : Nat) : (s.relock i c).obs = s.obs := rfl
@[simp] theorem State.relock_waves (s : State) (i c : Nat) : (s.relock i c).waves = s.waves := rfl
@[simp] theorem State.relock_inbox (s : State) (i c : Nat) : (s.relock i c).inbox = s.inbox := rfl
@[simp] theorem State.relock_phs (s : State) (i c : Nat) : (s.relock i c).phs = s.phs := rfl
@[simp] theorem State.relock_align (s : State) (i c : Nat) : (s.relock i c).align = s.align := rfl
@[simp] theorem State.relock_groups (s : State) (i c : Nat) : (s.relock i c).groups = s.groups := rfl
@[simp] theorem State.relock_engines (s : State) (i c : Nat) : (s.relock i c).engines = s.engines := rfl
@[simp] theorem State.relock_pins (s : State) (i c : Nat) : (s.relock i c).pins = s.pins := rfl
@[simp] theorem State.relock_lines (s : State) (i c : Nat) : (s.relock i c).lines = s.lines := rfl
@[simp] theorem State.relock_tracks (s : State) (i c : Nat) : (s.relock i c).tracks = s.tracks := rfl
@[simp] theorem State.relock_eth (s : State) (i c : Nat) : (s.relock i c).eth = s.eth := rfl
@[simp] theorem State.relock_cans (s : State) (i c : Nat) : (s.relock i c).cans = s.cans := rfl
@[simp] theorem State.relock_pkt (s : State) (i c : Nat) : (s.relock i c).pkt = s.pkt := rfl
@[simp] theorem State.relock_sec (s : State) (i c : Nat) : (s.relock i c).sec = s.sec := rfl
@[simp] theorem State.relock_pcie (s : State) (i c : Nat) : (s.relock i c).pcie = s.pcie := rfl
@[simp] theorem State.relock_yx (s : State) (i c : Nat) : (s.relock i c).yx = s.yx := rfl
@[simp] theorem State.relock_dma (s : State) (i c : Nat) : (s.relock i c).dma = s.dma := rfl
@[simp] theorem State.relock_scrub (s : State) (i c : Nat) : (s.relock i c).scrub = s.scrub := rfl
@[simp] theorem State.relock_free (s : State) (i c : Nat) : (s.relock i c).free = s.free := rfl

/-! ### clearCells -/

@[simp] theorem State.clearCells_pending (s : State) (p : Nat → Bool) : (s.clearCells p).pending = s.pending := rfl
@[simp] theorem State.clearCells_mem (s : State) (p : Nat → Bool) : (s.clearCells p).mem = s.mem := rfl
@[simp] theorem State.clearCells_poison (s : State) (p : Nat → Bool) : (s.clearCells p).poison = s.poison := rfl
@[simp] theorem State.clearCells_flips (s : State) (p : Nat → Bool) : (s.clearCells p).flips = s.flips := rfl
@[simp] theorem State.clearCells_power (s : State) (p : Nat → Bool) : (s.clearCells p).power = s.power := rfl
@[simp] theorem State.clearCells_modes (s : State) (p : Nat → Bool) : (s.clearCells p).modes = s.modes := rfl
@[simp] theorem State.clearCells_boot (s : State) (p : Nat → Bool) : (s.clearCells p).boot = s.boot := rfl
@[simp] theorem State.clearCells_upd (s : State) (p : Nat → Bool) : (s.clearCells p).upd = s.upd := rfl
@[simp] theorem State.clearCells_cores (s : State) (p : Nat → Bool) : (s.clearCells p).cores = s.cores := rfl
@[simp] theorem State.clearCells_cocoon (s : State) (p : Nat → Bool) : (s.clearCells p).cocoon = s.cocoon := rfl
@[simp] theorem State.clearCells_resp (s : State) (p : Nat → Bool) : (s.clearCells p).resp = s.resp := rfl
@[simp] theorem State.clearCells_staged (s : State) (p : Nat → Bool) : (s.clearCells p).staged = s.staged := rfl
@[simp] theorem State.clearCells_caught (s : State) (p : Nat → Bool) : (s.clearCells p).caught = s.caught := rfl
@[simp] theorem State.clearCells_img (s : State) (p : Nat → Bool) : (s.clearCells p).img = s.img := rfl
@[simp] theorem State.clearCells_links (s : State) (p : Nat → Bool) : (s.clearCells p).links = s.links := rfl
@[simp] theorem State.clearCells_rx (s : State) (p : Nat → Bool) : (s.clearCells p).rx = s.rx := rfl
@[simp] theorem State.clearCells_outq (s : State) (p : Nat → Bool) : (s.clearCells p).outq = s.outq := rfl
@[simp] theorem State.clearCells_disp (s : State) (p : Nat → Bool) : (s.clearCells p).disp = s.disp := rfl
@[simp] theorem State.clearCells_toggles (s : State) (p : Nat → Bool) : (s.clearCells p).toggles = s.toggles := rfl
@[simp] theorem State.clearCells_toTp (s : State) (p : Nat → Bool) : (s.clearCells p).toTp = s.toTp := rfl
@[simp] theorem State.clearCells_toSs (s : State) (p : Nat → Bool) : (s.clearCells p).toSs = s.toSs := rfl
@[simp] theorem State.clearCells_log (s : State) (p : Nat → Bool) : (s.clearCells p).log = s.log := rfl
@[simp] theorem State.clearCells_health (s : State) (p : Nat → Bool) : (s.clearCells p).health = s.health := rfl
@[simp] theorem State.clearCells_time (s : State) (p : Nat → Bool) : (s.clearCells p).time = s.time := rfl
@[simp] theorem State.clearCells_stop (s : State) (p : Nat → Bool) : (s.clearCells p).stop = s.stop := rfl
@[simp] theorem State.clearCells_radio (s : State) (p : Nat → Bool) : (s.clearCells p).radio = s.radio := rfl
@[simp] theorem State.clearCells_loops (s : State) (p : Nat → Bool) : (s.clearCells p).loops = s.loops := rfl
@[simp] theorem State.clearCells_samples (s : State) (p : Nat → Bool) : (s.clearCells p).samples = s.samples := rfl
@[simp] theorem State.clearCells_gnss (s : State) (p : Nat → Bool) : (s.clearCells p).gnss = s.gnss := rfl
@[simp] theorem State.clearCells_obs (s : State) (p : Nat → Bool) : (s.clearCells p).obs = s.obs := rfl
@[simp] theorem State.clearCells_waves (s : State) (p : Nat → Bool) : (s.clearCells p).waves = s.waves := rfl
@[simp] theorem State.clearCells_inbox (s : State) (p : Nat → Bool) : (s.clearCells p).inbox = s.inbox := rfl
@[simp] theorem State.clearCells_phs (s : State) (p : Nat → Bool) : (s.clearCells p).phs = s.phs := rfl
@[simp] theorem State.clearCells_align (s : State) (p : Nat → Bool) : (s.clearCells p).align = s.align := rfl
@[simp] theorem State.clearCells_groups (s : State) (p : Nat → Bool) : (s.clearCells p).groups = s.groups := rfl
@[simp] theorem State.clearCells_engines (s : State) (p : Nat → Bool) : (s.clearCells p).engines = s.engines := rfl
@[simp] theorem State.clearCells_pins (s : State) (p : Nat → Bool) : (s.clearCells p).pins = s.pins := rfl
@[simp] theorem State.clearCells_lines (s : State) (p : Nat → Bool) : (s.clearCells p).lines = s.lines := rfl
@[simp] theorem State.clearCells_tracks (s : State) (p : Nat → Bool) : (s.clearCells p).tracks = s.tracks := rfl
@[simp] theorem State.clearCells_eth (s : State) (p : Nat → Bool) : (s.clearCells p).eth = s.eth := rfl
@[simp] theorem State.clearCells_cans (s : State) (p : Nat → Bool) : (s.clearCells p).cans = s.cans := rfl
@[simp] theorem State.clearCells_pkt (s : State) (p : Nat → Bool) : (s.clearCells p).pkt = s.pkt := rfl
@[simp] theorem State.clearCells_sec (s : State) (p : Nat → Bool) : (s.clearCells p).sec = s.sec := rfl
@[simp] theorem State.clearCells_pcie (s : State) (p : Nat → Bool) : (s.clearCells p).pcie = s.pcie := rfl
@[simp] theorem State.clearCells_yx (s : State) (p : Nat → Bool) : (s.clearCells p).yx = s.yx := rfl
@[simp] theorem State.clearCells_dma (s : State) (p : Nat → Bool) : (s.clearCells p).dma = s.dma := rfl
@[simp] theorem State.clearCells_scrub (s : State) (p : Nat → Bool) : (s.clearCells p).scrub = s.scrub := rfl
@[simp] theorem State.clearCells_free (s : State) (p : Nat → Bool) : (s.clearCells p).free = s.free := rfl

/-! ### toggle -/

@[simp] theorem State.toggle_pending (s : State) (e : Nat) : (s.toggle e).pending = s.pending := by unfold State.toggle; split <;> rfl
@[simp] theorem State.toggle_cells (s : State) (e : Nat) : (s.toggle e).cells = s.cells := by unfold State.toggle; split <;> rfl
@[simp] theorem State.toggle_mem (s : State) (e : Nat) : (s.toggle e).mem = s.mem := by unfold State.toggle; split <;> rfl
@[simp] theorem State.toggle_poison (s : State) (e : Nat) : (s.toggle e).poison = s.poison := by unfold State.toggle; split <;> rfl
@[simp] theorem State.toggle_flips (s : State) (e : Nat) : (s.toggle e).flips = s.flips := by unfold State.toggle; split <;> rfl
@[simp] theorem State.toggle_power (s : State) (e : Nat) : (s.toggle e).power = s.power := by unfold State.toggle; split <;> rfl
@[simp] theorem State.toggle_modes (s : State) (e : Nat) : (s.toggle e).modes = s.modes := by unfold State.toggle; split <;> rfl
@[simp] theorem State.toggle_boot (s : State) (e : Nat) : (s.toggle e).boot = s.boot := by unfold State.toggle; split <;> rfl
@[simp] theorem State.toggle_upd (s : State) (e : Nat) : (s.toggle e).upd = s.upd := by unfold State.toggle; split <;> rfl
@[simp] theorem State.toggle_cores (s : State) (e : Nat) : (s.toggle e).cores = s.cores := by unfold State.toggle; split <;> rfl
@[simp] theorem State.toggle_cocoon (s : State) (e : Nat) : (s.toggle e).cocoon = s.cocoon := by unfold State.toggle; split <;> rfl
@[simp] theorem State.toggle_resp (s : State) (e : Nat) : (s.toggle e).resp = s.resp := by unfold State.toggle; split <;> rfl
@[simp] theorem State.toggle_staged (s : State) (e : Nat) : (s.toggle e).staged = s.staged := by unfold State.toggle; split <;> rfl
@[simp] theorem State.toggle_caught (s : State) (e : Nat) : (s.toggle e).caught = s.caught := by unfold State.toggle; split <;> rfl
@[simp] theorem State.toggle_img (s : State) (e : Nat) : (s.toggle e).img = s.img := by unfold State.toggle; split <;> rfl
@[simp] theorem State.toggle_links (s : State) (e : Nat) : (s.toggle e).links = s.links := by unfold State.toggle; split <;> rfl
@[simp] theorem State.toggle_rx (s : State) (e : Nat) : (s.toggle e).rx = s.rx := by unfold State.toggle; split <;> rfl
@[simp] theorem State.toggle_outq (s : State) (e : Nat) : (s.toggle e).outq = s.outq := by unfold State.toggle; split <;> rfl
@[simp] theorem State.toggle_disp (s : State) (e : Nat) : (s.toggle e).disp = s.disp := by unfold State.toggle; split <;> rfl
@[simp] theorem State.toggle_toTp (s : State) (e : Nat) : (s.toggle e).toTp = s.toTp := by unfold State.toggle; split <;> rfl
@[simp] theorem State.toggle_toSs (s : State) (e : Nat) : (s.toggle e).toSs = s.toSs := by unfold State.toggle; split <;> rfl
@[simp] theorem State.toggle_log (s : State) (e : Nat) : (s.toggle e).log = s.log := by unfold State.toggle; split <;> rfl
@[simp] theorem State.toggle_health (s : State) (e : Nat) : (s.toggle e).health = s.health := by unfold State.toggle; split <;> rfl
@[simp] theorem State.toggle_time (s : State) (e : Nat) : (s.toggle e).time = s.time := by unfold State.toggle; split <;> rfl
@[simp] theorem State.toggle_stop (s : State) (e : Nat) : (s.toggle e).stop = s.stop := by unfold State.toggle; split <;> rfl
@[simp] theorem State.toggle_radio (s : State) (e : Nat) : (s.toggle e).radio = s.radio := by unfold State.toggle; split <;> rfl
@[simp] theorem State.toggle_loops (s : State) (e : Nat) : (s.toggle e).loops = s.loops := by unfold State.toggle; split <;> rfl
@[simp] theorem State.toggle_samples (s : State) (e : Nat) : (s.toggle e).samples = s.samples := by unfold State.toggle; split <;> rfl
@[simp] theorem State.toggle_gnss (s : State) (e : Nat) : (s.toggle e).gnss = s.gnss := by unfold State.toggle; split <;> rfl
@[simp] theorem State.toggle_obs (s : State) (e : Nat) : (s.toggle e).obs = s.obs := by unfold State.toggle; split <;> rfl
@[simp] theorem State.toggle_waves (s : State) (e : Nat) : (s.toggle e).waves = s.waves := by unfold State.toggle; split <;> rfl
@[simp] theorem State.toggle_inbox (s : State) (e : Nat) : (s.toggle e).inbox = s.inbox := by unfold State.toggle; split <;> rfl
@[simp] theorem State.toggle_phs (s : State) (e : Nat) : (s.toggle e).phs = s.phs := by unfold State.toggle; split <;> rfl
@[simp] theorem State.toggle_align (s : State) (e : Nat) : (s.toggle e).align = s.align := by unfold State.toggle; split <;> rfl
@[simp] theorem State.toggle_groups (s : State) (e : Nat) : (s.toggle e).groups = s.groups := by unfold State.toggle; split <;> rfl
@[simp] theorem State.toggle_engines (s : State) (e : Nat) : (s.toggle e).engines = s.engines := by unfold State.toggle; split <;> rfl
@[simp] theorem State.toggle_pins (s : State) (e : Nat) : (s.toggle e).pins = s.pins := by unfold State.toggle; split <;> rfl
@[simp] theorem State.toggle_lines (s : State) (e : Nat) : (s.toggle e).lines = s.lines := by unfold State.toggle; split <;> rfl
@[simp] theorem State.toggle_tracks (s : State) (e : Nat) : (s.toggle e).tracks = s.tracks := by unfold State.toggle; split <;> rfl
@[simp] theorem State.toggle_eth (s : State) (e : Nat) : (s.toggle e).eth = s.eth := by unfold State.toggle; split <;> rfl
@[simp] theorem State.toggle_cans (s : State) (e : Nat) : (s.toggle e).cans = s.cans := by unfold State.toggle; split <;> rfl
@[simp] theorem State.toggle_pkt (s : State) (e : Nat) : (s.toggle e).pkt = s.pkt := by unfold State.toggle; split <;> rfl
@[simp] theorem State.toggle_sec (s : State) (e : Nat) : (s.toggle e).sec = s.sec := by unfold State.toggle; split <;> rfl
@[simp] theorem State.toggle_pcie (s : State) (e : Nat) : (s.toggle e).pcie = s.pcie := by unfold State.toggle; split <;> rfl
@[simp] theorem State.toggle_yx (s : State) (e : Nat) : (s.toggle e).yx = s.yx := by unfold State.toggle; split <;> rfl
@[simp] theorem State.toggle_dma (s : State) (e : Nat) : (s.toggle e).dma = s.dma := by unfold State.toggle; split <;> rfl
@[simp] theorem State.toggle_scrub (s : State) (e : Nat) : (s.toggle e).scrub = s.scrub := by unfold State.toggle; split <;> rfl
@[simp] theorem State.toggle_free (s : State) (e : Nat) : (s.toggle e).free = s.free := by unfold State.toggle; split <;> rfl

/-! ### event -/

@[simp] theorem State.event_pending (s : State) (e b : Nat) (f : Fld) : (s.event e b f).pending = s.pending := by unfold State.event; split <;> simp
@[simp] theorem State.event_mem (s : State) (e b : Nat) (f : Fld) : (s.event e b f).mem = s.mem := by unfold State.event; split <;> simp
@[simp] theorem State.event_poison (s : State) (e b : Nat) (f : Fld) : (s.event e b f).poison = s.poison := by unfold State.event; split <;> simp
@[simp] theorem State.event_flips (s : State) (e b : Nat) (f : Fld) : (s.event e b f).flips = s.flips := by unfold State.event; split <;> simp
@[simp] theorem State.event_power (s : State) (e b : Nat) (f : Fld) : (s.event e b f).power = s.power := by unfold State.event; split <;> simp
@[simp] theorem State.event_modes (s : State) (e b : Nat) (f : Fld) : (s.event e b f).modes = s.modes := by unfold State.event; split <;> simp
@[simp] theorem State.event_boot (s : State) (e b : Nat) (f : Fld) : (s.event e b f).boot = s.boot := by unfold State.event; split <;> simp
@[simp] theorem State.event_upd (s : State) (e b : Nat) (f : Fld) : (s.event e b f).upd = s.upd := by unfold State.event; split <;> simp
@[simp] theorem State.event_cores (s : State) (e b : Nat) (f : Fld) : (s.event e b f).cores = s.cores := by unfold State.event; split <;> simp
@[simp] theorem State.event_cocoon (s : State) (e b : Nat) (f : Fld) : (s.event e b f).cocoon = s.cocoon := by unfold State.event; split <;> simp
@[simp] theorem State.event_resp (s : State) (e b : Nat) (f : Fld) : (s.event e b f).resp = s.resp := by unfold State.event; split <;> simp
@[simp] theorem State.event_staged (s : State) (e b : Nat) (f : Fld) : (s.event e b f).staged = s.staged := by unfold State.event; split <;> simp
@[simp] theorem State.event_caught (s : State) (e b : Nat) (f : Fld) : (s.event e b f).caught = s.caught := by unfold State.event; split <;> simp
@[simp] theorem State.event_img (s : State) (e b : Nat) (f : Fld) : (s.event e b f).img = s.img := by unfold State.event; split <;> simp
@[simp] theorem State.event_links (s : State) (e b : Nat) (f : Fld) : (s.event e b f).links = s.links := by unfold State.event; split <;> simp
@[simp] theorem State.event_rx (s : State) (e b : Nat) (f : Fld) : (s.event e b f).rx = s.rx := by unfold State.event; split <;> simp
@[simp] theorem State.event_outq (s : State) (e b : Nat) (f : Fld) : (s.event e b f).outq = s.outq := by unfold State.event; split <;> simp
@[simp] theorem State.event_disp (s : State) (e b : Nat) (f : Fld) : (s.event e b f).disp = s.disp := by unfold State.event; split <;> simp
@[simp] theorem State.event_toTp (s : State) (e b : Nat) (f : Fld) : (s.event e b f).toTp = s.toTp := by unfold State.event; split <;> simp
@[simp] theorem State.event_toSs (s : State) (e b : Nat) (f : Fld) : (s.event e b f).toSs = s.toSs := by unfold State.event; split <;> simp
@[simp] theorem State.event_log (s : State) (e b : Nat) (f : Fld) : (s.event e b f).log = s.log := by unfold State.event; split <;> simp
@[simp] theorem State.event_health (s : State) (e b : Nat) (f : Fld) : (s.event e b f).health = s.health := by unfold State.event; split <;> simp
@[simp] theorem State.event_time (s : State) (e b : Nat) (f : Fld) : (s.event e b f).time = s.time := by unfold State.event; split <;> simp
@[simp] theorem State.event_stop (s : State) (e b : Nat) (f : Fld) : (s.event e b f).stop = s.stop := by unfold State.event; split <;> simp
@[simp] theorem State.event_radio (s : State) (e b : Nat) (f : Fld) : (s.event e b f).radio = s.radio := by unfold State.event; split <;> simp
@[simp] theorem State.event_loops (s : State) (e b : Nat) (f : Fld) : (s.event e b f).loops = s.loops := by unfold State.event; split <;> simp
@[simp] theorem State.event_samples (s : State) (e b : Nat) (f : Fld) : (s.event e b f).samples = s.samples := by unfold State.event; split <;> simp
@[simp] theorem State.event_gnss (s : State) (e b : Nat) (f : Fld) : (s.event e b f).gnss = s.gnss := by unfold State.event; split <;> simp
@[simp] theorem State.event_obs (s : State) (e b : Nat) (f : Fld) : (s.event e b f).obs = s.obs := by unfold State.event; split <;> simp
@[simp] theorem State.event_waves (s : State) (e b : Nat) (f : Fld) : (s.event e b f).waves = s.waves := by unfold State.event; split <;> simp
@[simp] theorem State.event_inbox (s : State) (e b : Nat) (f : Fld) : (s.event e b f).inbox = s.inbox := by unfold State.event; split <;> simp
@[simp] theorem State.event_phs (s : State) (e b : Nat) (f : Fld) : (s.event e b f).phs = s.phs := by unfold State.event; split <;> simp
@[simp] theorem State.event_align (s : State) (e b : Nat) (f : Fld) : (s.event e b f).align = s.align := by unfold State.event; split <;> simp
@[simp] theorem State.event_groups (s : State) (e b : Nat) (f : Fld) : (s.event e b f).groups = s.groups := by unfold State.event; split <;> simp
@[simp] theorem State.event_engines (s : State) (e b : Nat) (f : Fld) : (s.event e b f).engines = s.engines := by unfold State.event; split <;> simp
@[simp] theorem State.event_pins (s : State) (e b : Nat) (f : Fld) : (s.event e b f).pins = s.pins := by unfold State.event; split <;> simp
@[simp] theorem State.event_lines (s : State) (e b : Nat) (f : Fld) : (s.event e b f).lines = s.lines := by unfold State.event; split <;> simp
@[simp] theorem State.event_tracks (s : State) (e b : Nat) (f : Fld) : (s.event e b f).tracks = s.tracks := by unfold State.event; split <;> simp
@[simp] theorem State.event_eth (s : State) (e b : Nat) (f : Fld) : (s.event e b f).eth = s.eth := by unfold State.event; split <;> simp
@[simp] theorem State.event_cans (s : State) (e b : Nat) (f : Fld) : (s.event e b f).cans = s.cans := by unfold State.event; split <;> simp
@[simp] theorem State.event_pkt (s : State) (e b : Nat) (f : Fld) : (s.event e b f).pkt = s.pkt := by unfold State.event; split <;> simp
@[simp] theorem State.event_sec (s : State) (e b : Nat) (f : Fld) : (s.event e b f).sec = s.sec := by unfold State.event; split <;> simp
@[simp] theorem State.event_pcie (s : State) (e b : Nat) (f : Fld) : (s.event e b f).pcie = s.pcie := by unfold State.event; split <;> simp
@[simp] theorem State.event_yx (s : State) (e b : Nat) (f : Fld) : (s.event e b f).yx = s.yx := by unfold State.event; split <;> simp
@[simp] theorem State.event_dma (s : State) (e b : Nat) (f : Fld) : (s.event e b f).dma = s.dma := by unfold State.event; split <;> simp
@[simp] theorem State.event_scrub (s : State) (e b : Nat) (f : Fld) : (s.event e b f).scrub = s.scrub := by unfold State.event; split <;> simp
@[simp] theorem State.event_free (s : State) (e b : Nat) (f : Fld) : (s.event e b f).free = s.free := by unfold State.event; split <;> simp

/-! ### eventIf -/

@[simp] theorem State.eventIf_pending (s : State) (c : Bool) (e b : Nat) (f : Fld) : (s.eventIf c e b f).pending = s.pending := by unfold State.eventIf; split <;> simp
@[simp] theorem State.eventIf_mem (s : State) (c : Bool) (e b : Nat) (f : Fld) : (s.eventIf c e b f).mem = s.mem := by unfold State.eventIf; split <;> simp
@[simp] theorem State.eventIf_poison (s : State) (c : Bool) (e b : Nat) (f : Fld) : (s.eventIf c e b f).poison = s.poison := by unfold State.eventIf; split <;> simp
@[simp] theorem State.eventIf_flips (s : State) (c : Bool) (e b : Nat) (f : Fld) : (s.eventIf c e b f).flips = s.flips := by unfold State.eventIf; split <;> simp
@[simp] theorem State.eventIf_power (s : State) (c : Bool) (e b : Nat) (f : Fld) : (s.eventIf c e b f).power = s.power := by unfold State.eventIf; split <;> simp
@[simp] theorem State.eventIf_modes (s : State) (c : Bool) (e b : Nat) (f : Fld) : (s.eventIf c e b f).modes = s.modes := by unfold State.eventIf; split <;> simp
@[simp] theorem State.eventIf_boot (s : State) (c : Bool) (e b : Nat) (f : Fld) : (s.eventIf c e b f).boot = s.boot := by unfold State.eventIf; split <;> simp
@[simp] theorem State.eventIf_upd (s : State) (c : Bool) (e b : Nat) (f : Fld) : (s.eventIf c e b f).upd = s.upd := by unfold State.eventIf; split <;> simp
@[simp] theorem State.eventIf_cores (s : State) (c : Bool) (e b : Nat) (f : Fld) : (s.eventIf c e b f).cores = s.cores := by unfold State.eventIf; split <;> simp
@[simp] theorem State.eventIf_cocoon (s : State) (c : Bool) (e b : Nat) (f : Fld) : (s.eventIf c e b f).cocoon = s.cocoon := by unfold State.eventIf; split <;> simp
@[simp] theorem State.eventIf_resp (s : State) (c : Bool) (e b : Nat) (f : Fld) : (s.eventIf c e b f).resp = s.resp := by unfold State.eventIf; split <;> simp
@[simp] theorem State.eventIf_staged (s : State) (c : Bool) (e b : Nat) (f : Fld) : (s.eventIf c e b f).staged = s.staged := by unfold State.eventIf; split <;> simp
@[simp] theorem State.eventIf_caught (s : State) (c : Bool) (e b : Nat) (f : Fld) : (s.eventIf c e b f).caught = s.caught := by unfold State.eventIf; split <;> simp
@[simp] theorem State.eventIf_img (s : State) (c : Bool) (e b : Nat) (f : Fld) : (s.eventIf c e b f).img = s.img := by unfold State.eventIf; split <;> simp
@[simp] theorem State.eventIf_links (s : State) (c : Bool) (e b : Nat) (f : Fld) : (s.eventIf c e b f).links = s.links := by unfold State.eventIf; split <;> simp
@[simp] theorem State.eventIf_rx (s : State) (c : Bool) (e b : Nat) (f : Fld) : (s.eventIf c e b f).rx = s.rx := by unfold State.eventIf; split <;> simp
@[simp] theorem State.eventIf_outq (s : State) (c : Bool) (e b : Nat) (f : Fld) : (s.eventIf c e b f).outq = s.outq := by unfold State.eventIf; split <;> simp
@[simp] theorem State.eventIf_disp (s : State) (c : Bool) (e b : Nat) (f : Fld) : (s.eventIf c e b f).disp = s.disp := by unfold State.eventIf; split <;> simp
@[simp] theorem State.eventIf_toTp (s : State) (c : Bool) (e b : Nat) (f : Fld) : (s.eventIf c e b f).toTp = s.toTp := by unfold State.eventIf; split <;> simp
@[simp] theorem State.eventIf_toSs (s : State) (c : Bool) (e b : Nat) (f : Fld) : (s.eventIf c e b f).toSs = s.toSs := by unfold State.eventIf; split <;> simp
@[simp] theorem State.eventIf_log (s : State) (c : Bool) (e b : Nat) (f : Fld) : (s.eventIf c e b f).log = s.log := by unfold State.eventIf; split <;> simp
@[simp] theorem State.eventIf_health (s : State) (c : Bool) (e b : Nat) (f : Fld) : (s.eventIf c e b f).health = s.health := by unfold State.eventIf; split <;> simp
@[simp] theorem State.eventIf_time (s : State) (c : Bool) (e b : Nat) (f : Fld) : (s.eventIf c e b f).time = s.time := by unfold State.eventIf; split <;> simp
@[simp] theorem State.eventIf_stop (s : State) (c : Bool) (e b : Nat) (f : Fld) : (s.eventIf c e b f).stop = s.stop := by unfold State.eventIf; split <;> simp
@[simp] theorem State.eventIf_radio (s : State) (c : Bool) (e b : Nat) (f : Fld) : (s.eventIf c e b f).radio = s.radio := by unfold State.eventIf; split <;> simp
@[simp] theorem State.eventIf_loops (s : State) (c : Bool) (e b : Nat) (f : Fld) : (s.eventIf c e b f).loops = s.loops := by unfold State.eventIf; split <;> simp
@[simp] theorem State.eventIf_samples (s : State) (c : Bool) (e b : Nat) (f : Fld) : (s.eventIf c e b f).samples = s.samples := by unfold State.eventIf; split <;> simp
@[simp] theorem State.eventIf_gnss (s : State) (c : Bool) (e b : Nat) (f : Fld) : (s.eventIf c e b f).gnss = s.gnss := by unfold State.eventIf; split <;> simp
@[simp] theorem State.eventIf_obs (s : State) (c : Bool) (e b : Nat) (f : Fld) : (s.eventIf c e b f).obs = s.obs := by unfold State.eventIf; split <;> simp
@[simp] theorem State.eventIf_waves (s : State) (c : Bool) (e b : Nat) (f : Fld) : (s.eventIf c e b f).waves = s.waves := by unfold State.eventIf; split <;> simp
@[simp] theorem State.eventIf_inbox (s : State) (c : Bool) (e b : Nat) (f : Fld) : (s.eventIf c e b f).inbox = s.inbox := by unfold State.eventIf; split <;> simp
@[simp] theorem State.eventIf_phs (s : State) (c : Bool) (e b : Nat) (f : Fld) : (s.eventIf c e b f).phs = s.phs := by unfold State.eventIf; split <;> simp
@[simp] theorem State.eventIf_align (s : State) (c : Bool) (e b : Nat) (f : Fld) : (s.eventIf c e b f).align = s.align := by unfold State.eventIf; split <;> simp
@[simp] theorem State.eventIf_groups (s : State) (c : Bool) (e b : Nat) (f : Fld) : (s.eventIf c e b f).groups = s.groups := by unfold State.eventIf; split <;> simp
@[simp] theorem State.eventIf_engines (s : State) (c : Bool) (e b : Nat) (f : Fld) : (s.eventIf c e b f).engines = s.engines := by unfold State.eventIf; split <;> simp
@[simp] theorem State.eventIf_pins (s : State) (c : Bool) (e b : Nat) (f : Fld) : (s.eventIf c e b f).pins = s.pins := by unfold State.eventIf; split <;> simp
@[simp] theorem State.eventIf_lines (s : State) (c : Bool) (e b : Nat) (f : Fld) : (s.eventIf c e b f).lines = s.lines := by unfold State.eventIf; split <;> simp
@[simp] theorem State.eventIf_tracks (s : State) (c : Bool) (e b : Nat) (f : Fld) : (s.eventIf c e b f).tracks = s.tracks := by unfold State.eventIf; split <;> simp
@[simp] theorem State.eventIf_eth (s : State) (c : Bool) (e b : Nat) (f : Fld) : (s.eventIf c e b f).eth = s.eth := by unfold State.eventIf; split <;> simp
@[simp] theorem State.eventIf_cans (s : State) (c : Bool) (e b : Nat) (f : Fld) : (s.eventIf c e b f).cans = s.cans := by unfold State.eventIf; split <;> simp
@[simp] theorem State.eventIf_pkt (s : State) (c : Bool) (e b : Nat) (f : Fld) : (s.eventIf c e b f).pkt = s.pkt := by unfold State.eventIf; split <;> simp
@[simp] theorem State.eventIf_sec (s : State) (c : Bool) (e b : Nat) (f : Fld) : (s.eventIf c e b f).sec = s.sec := by unfold State.eventIf; split <;> simp
@[simp] theorem State.eventIf_pcie (s : State) (c : Bool) (e b : Nat) (f : Fld) : (s.eventIf c e b f).pcie = s.pcie := by unfold State.eventIf; split <;> simp
@[simp] theorem State.eventIf_yx (s : State) (c : Bool) (e b : Nat) (f : Fld) : (s.eventIf c e b f).yx = s.yx := by unfold State.eventIf; split <;> simp
@[simp] theorem State.eventIf_dma (s : State) (c : Bool) (e b : Nat) (f : Fld) : (s.eventIf c e b f).dma = s.dma := by unfold State.eventIf; split <;> simp
@[simp] theorem State.eventIf_scrub (s : State) (c : Bool) (e b : Nat) (f : Fld) : (s.eventIf c e b f).scrub = s.scrub := by unfold State.eventIf; split <;> simp
@[simp] theorem State.eventIf_free (s : State) (c : Bool) (e b : Nat) (f : Fld) : (s.eventIf c e b f).free = s.free := by unfold State.eventIf; split <;> simp

/-! ### request -/

@[simp] theorem State.request_pending (s : State) (r : RecReq) : (s.request r).pending = s.pending := by unfold State.request; (repeat' split) <;> simp
@[simp] theorem State.request_mem (s : State) (r : RecReq) : (s.request r).mem = s.mem := by unfold State.request; (repeat' split) <;> simp
@[simp] theorem State.request_poison (s : State) (r : RecReq) : (s.request r).poison = s.poison := by unfold State.request; (repeat' split) <;> simp
@[simp] theorem State.request_flips (s : State) (r : RecReq) : (s.request r).flips = s.flips := by unfold State.request; (repeat' split) <;> simp
@[simp] theorem State.request_power (s : State) (r : RecReq) : (s.request r).power = s.power := by unfold State.request; (repeat' split) <;> simp
@[simp] theorem State.request_modes (s : State) (r : RecReq) : (s.request r).modes = s.modes := by unfold State.request; (repeat' split) <;> simp
@[simp] theorem State.request_boot (s : State) (r : RecReq) : (s.request r).boot = s.boot := by unfold State.request; (repeat' split) <;> simp
@[simp] theorem State.request_upd (s : State) (r : RecReq) : (s.request r).upd = s.upd := by unfold State.request; (repeat' split) <;> simp
@[simp] theorem State.request_cores (s : State) (r : RecReq) : (s.request r).cores = s.cores := by unfold State.request; (repeat' split) <;> simp
@[simp] theorem State.request_cocoon (s : State) (r : RecReq) : (s.request r).cocoon = s.cocoon := by unfold State.request; (repeat' split) <;> simp
@[simp] theorem State.request_resp (s : State) (r : RecReq) : (s.request r).resp = s.resp := by unfold State.request; (repeat' split) <;> simp
@[simp] theorem State.request_staged (s : State) (r : RecReq) : (s.request r).staged = s.staged := by unfold State.request; (repeat' split) <;> simp
@[simp] theorem State.request_caught (s : State) (r : RecReq) : (s.request r).caught = s.caught := by unfold State.request; (repeat' split) <;> simp
@[simp] theorem State.request_img (s : State) (r : RecReq) : (s.request r).img = s.img := by unfold State.request; (repeat' split) <;> simp
@[simp] theorem State.request_links (s : State) (r : RecReq) : (s.request r).links = s.links := by unfold State.request; (repeat' split) <;> simp
@[simp] theorem State.request_rx (s : State) (r : RecReq) : (s.request r).rx = s.rx := by unfold State.request; (repeat' split) <;> simp
@[simp] theorem State.request_outq (s : State) (r : RecReq) : (s.request r).outq = s.outq := by unfold State.request; (repeat' split) <;> simp
@[simp] theorem State.request_disp (s : State) (r : RecReq) : (s.request r).disp = s.disp := by unfold State.request; (repeat' split) <;> simp
@[simp] theorem State.request_toTp (s : State) (r : RecReq) : (s.request r).toTp = s.toTp := by unfold State.request; (repeat' split) <;> simp
@[simp] theorem State.request_toSs (s : State) (r : RecReq) : (s.request r).toSs = s.toSs := by unfold State.request; (repeat' split) <;> simp
@[simp] theorem State.request_health (s : State) (r : RecReq) : (s.request r).health = s.health := by unfold State.request; (repeat' split) <;> simp
@[simp] theorem State.request_time (s : State) (r : RecReq) : (s.request r).time = s.time := by unfold State.request; (repeat' split) <;> simp
@[simp] theorem State.request_stop (s : State) (r : RecReq) : (s.request r).stop = s.stop := by unfold State.request; (repeat' split) <;> simp
@[simp] theorem State.request_radio (s : State) (r : RecReq) : (s.request r).radio = s.radio := by unfold State.request; (repeat' split) <;> simp
@[simp] theorem State.request_loops (s : State) (r : RecReq) : (s.request r).loops = s.loops := by unfold State.request; (repeat' split) <;> simp
@[simp] theorem State.request_samples (s : State) (r : RecReq) : (s.request r).samples = s.samples := by unfold State.request; (repeat' split) <;> simp
@[simp] theorem State.request_gnss (s : State) (r : RecReq) : (s.request r).gnss = s.gnss := by unfold State.request; (repeat' split) <;> simp
@[simp] theorem State.request_obs (s : State) (r : RecReq) : (s.request r).obs = s.obs := by unfold State.request; (repeat' split) <;> simp
@[simp] theorem State.request_waves (s : State) (r : RecReq) : (s.request r).waves = s.waves := by unfold State.request; (repeat' split) <;> simp
@[simp] theorem State.request_inbox (s : State) (r : RecReq) : (s.request r).inbox = s.inbox := by unfold State.request; (repeat' split) <;> simp
@[simp] theorem State.request_phs (s : State) (r : RecReq) : (s.request r).phs = s.phs := by unfold State.request; (repeat' split) <;> simp
@[simp] theorem State.request_align (s : State) (r : RecReq) : (s.request r).align = s.align := by unfold State.request; (repeat' split) <;> simp
@[simp] theorem State.request_groups (s : State) (r : RecReq) : (s.request r).groups = s.groups := by unfold State.request; (repeat' split) <;> simp
@[simp] theorem State.request_engines (s : State) (r : RecReq) : (s.request r).engines = s.engines := by unfold State.request; (repeat' split) <;> simp
@[simp] theorem State.request_pins (s : State) (r : RecReq) : (s.request r).pins = s.pins := by unfold State.request; (repeat' split) <;> simp
@[simp] theorem State.request_lines (s : State) (r : RecReq) : (s.request r).lines = s.lines := by unfold State.request; (repeat' split) <;> simp
@[simp] theorem State.request_tracks (s : State) (r : RecReq) : (s.request r).tracks = s.tracks := by unfold State.request; (repeat' split) <;> simp
@[simp] theorem State.request_eth (s : State) (r : RecReq) : (s.request r).eth = s.eth := by unfold State.request; (repeat' split) <;> simp
@[simp] theorem State.request_cans (s : State) (r : RecReq) : (s.request r).cans = s.cans := by unfold State.request; (repeat' split) <;> simp
@[simp] theorem State.request_pkt (s : State) (r : RecReq) : (s.request r).pkt = s.pkt := by unfold State.request; (repeat' split) <;> simp
@[simp] theorem State.request_sec (s : State) (r : RecReq) : (s.request r).sec = s.sec := by unfold State.request; (repeat' split) <;> simp
@[simp] theorem State.request_pcie (s : State) (r : RecReq) : (s.request r).pcie = s.pcie := by unfold State.request; (repeat' split) <;> simp
@[simp] theorem State.request_yx (s : State) (r : RecReq) : (s.request r).yx = s.yx := by unfold State.request; (repeat' split) <;> simp
@[simp] theorem State.request_dma (s : State) (r : RecReq) : (s.request r).dma = s.dma := by unfold State.request; (repeat' split) <;> simp
@[simp] theorem State.request_scrub (s : State) (r : RecReq) : (s.request r).scrub = s.scrub := by unfold State.request; (repeat' split) <;> simp
@[simp] theorem State.request_free (s : State) (r : RecReq) : (s.request r).free = s.free := by unfold State.request; (repeat' split) <;> simp

/-! ### record -/

@[simp] theorem State.record_pending (s : State) (c v o : Nat) (d : List Byte) : (s.record c v o d).pending = s.pending := by simp [State.record]
@[simp] theorem State.record_mem (s : State) (c v o : Nat) (d : List Byte) : (s.record c v o d).mem = s.mem := by simp [State.record]
@[simp] theorem State.record_poison (s : State) (c v o : Nat) (d : List Byte) : (s.record c v o d).poison = s.poison := by simp [State.record]
@[simp] theorem State.record_flips (s : State) (c v o : Nat) (d : List Byte) : (s.record c v o d).flips = s.flips := by simp [State.record]
@[simp] theorem State.record_power (s : State) (c v o : Nat) (d : List Byte) : (s.record c v o d).power = s.power := by simp [State.record]
@[simp] theorem State.record_modes (s : State) (c v o : Nat) (d : List Byte) : (s.record c v o d).modes = s.modes := by simp [State.record]
@[simp] theorem State.record_boot (s : State) (c v o : Nat) (d : List Byte) : (s.record c v o d).boot = s.boot := by simp [State.record]
@[simp] theorem State.record_upd (s : State) (c v o : Nat) (d : List Byte) : (s.record c v o d).upd = s.upd := by simp [State.record]
@[simp] theorem State.record_cores (s : State) (c v o : Nat) (d : List Byte) : (s.record c v o d).cores = s.cores := by simp [State.record]
@[simp] theorem State.record_cocoon (s : State) (c v o : Nat) (d : List Byte) : (s.record c v o d).cocoon = s.cocoon := by simp [State.record]
@[simp] theorem State.record_resp (s : State) (c v o : Nat) (d : List Byte) : (s.record c v o d).resp = s.resp := by simp [State.record]
@[simp] theorem State.record_staged (s : State) (c v o : Nat) (d : List Byte) : (s.record c v o d).staged = s.staged := by simp [State.record]
@[simp] theorem State.record_caught (s : State) (c v o : Nat) (d : List Byte) : (s.record c v o d).caught = s.caught := by simp [State.record]
@[simp] theorem State.record_img (s : State) (c v o : Nat) (d : List Byte) : (s.record c v o d).img = s.img := by simp [State.record]
@[simp] theorem State.record_links (s : State) (c v o : Nat) (d : List Byte) : (s.record c v o d).links = s.links := by simp [State.record]
@[simp] theorem State.record_rx (s : State) (c v o : Nat) (d : List Byte) : (s.record c v o d).rx = s.rx := by simp [State.record]
@[simp] theorem State.record_outq (s : State) (c v o : Nat) (d : List Byte) : (s.record c v o d).outq = s.outq := by simp [State.record]
@[simp] theorem State.record_disp (s : State) (c v o : Nat) (d : List Byte) : (s.record c v o d).disp = s.disp := by simp [State.record]
@[simp] theorem State.record_toTp (s : State) (c v o : Nat) (d : List Byte) : (s.record c v o d).toTp = s.toTp := by simp [State.record]
@[simp] theorem State.record_toSs (s : State) (c v o : Nat) (d : List Byte) : (s.record c v o d).toSs = s.toSs := by simp [State.record]
@[simp] theorem State.record_health (s : State) (c v o : Nat) (d : List Byte) : (s.record c v o d).health = s.health := by simp [State.record]
@[simp] theorem State.record_time (s : State) (c v o : Nat) (d : List Byte) : (s.record c v o d).time = s.time := by simp [State.record]
@[simp] theorem State.record_stop (s : State) (c v o : Nat) (d : List Byte) : (s.record c v o d).stop = s.stop := by simp [State.record]
@[simp] theorem State.record_radio (s : State) (c v o : Nat) (d : List Byte) : (s.record c v o d).radio = s.radio := by simp [State.record]
@[simp] theorem State.record_loops (s : State) (c v o : Nat) (d : List Byte) : (s.record c v o d).loops = s.loops := by simp [State.record]
@[simp] theorem State.record_samples (s : State) (c v o : Nat) (d : List Byte) : (s.record c v o d).samples = s.samples := by simp [State.record]
@[simp] theorem State.record_gnss (s : State) (c v o : Nat) (d : List Byte) : (s.record c v o d).gnss = s.gnss := by simp [State.record]
@[simp] theorem State.record_obs (s : State) (c v o : Nat) (d : List Byte) : (s.record c v o d).obs = s.obs := by simp [State.record]
@[simp] theorem State.record_waves (s : State) (c v o : Nat) (d : List Byte) : (s.record c v o d).waves = s.waves := by simp [State.record]
@[simp] theorem State.record_inbox (s : State) (c v o : Nat) (d : List Byte) : (s.record c v o d).inbox = s.inbox := by simp [State.record]
@[simp] theorem State.record_phs (s : State) (c v o : Nat) (d : List Byte) : (s.record c v o d).phs = s.phs := by simp [State.record]
@[simp] theorem State.record_align (s : State) (c v o : Nat) (d : List Byte) : (s.record c v o d).align = s.align := by simp [State.record]
@[simp] theorem State.record_groups (s : State) (c v o : Nat) (d : List Byte) : (s.record c v o d).groups = s.groups := by simp [State.record]
@[simp] theorem State.record_engines (s : State) (c v o : Nat) (d : List Byte) : (s.record c v o d).engines = s.engines := by simp [State.record]
@[simp] theorem State.record_pins (s : State) (c v o : Nat) (d : List Byte) : (s.record c v o d).pins = s.pins := by simp [State.record]
@[simp] theorem State.record_lines (s : State) (c v o : Nat) (d : List Byte) : (s.record c v o d).lines = s.lines := by simp [State.record]
@[simp] theorem State.record_tracks (s : State) (c v o : Nat) (d : List Byte) : (s.record c v o d).tracks = s.tracks := by simp [State.record]
@[simp] theorem State.record_eth (s : State) (c v o : Nat) (d : List Byte) : (s.record c v o d).eth = s.eth := by simp [State.record]
@[simp] theorem State.record_cans (s : State) (c v o : Nat) (d : List Byte) : (s.record c v o d).cans = s.cans := by simp [State.record]
@[simp] theorem State.record_pkt (s : State) (c v o : Nat) (d : List Byte) : (s.record c v o d).pkt = s.pkt := by simp [State.record]
@[simp] theorem State.record_sec (s : State) (c v o : Nat) (d : List Byte) : (s.record c v o d).sec = s.sec := by simp [State.record]
@[simp] theorem State.record_pcie (s : State) (c v o : Nat) (d : List Byte) : (s.record c v o d).pcie = s.pcie := by simp [State.record]
@[simp] theorem State.record_yx (s : State) (c v o : Nat) (d : List Byte) : (s.record c v o d).yx = s.yx := by simp [State.record]
@[simp] theorem State.record_dma (s : State) (c v o : Nat) (d : List Byte) : (s.record c v o d).dma = s.dma := by simp [State.record]
@[simp] theorem State.record_scrub (s : State) (c v o : Nat) (d : List Byte) : (s.record c v o d).scrub = s.scrub := by simp [State.record]
@[simp] theorem State.record_free (s : State) (c v o : Nat) (d : List Byte) : (s.record c v o d).free = s.free := by simp [State.record]

/-! ### recordBy -/

@[simp] theorem State.recordBy_pending (s : State) (w c v o : Nat) (d : List Byte) : (s.recordBy w c v o d).pending = s.pending := by simp [State.recordBy]
@[simp] theorem State.recordBy_mem (s : State) (w c v o : Nat) (d : List Byte) : (s.recordBy w c v o d).mem = s.mem := by simp [State.recordBy]
@[simp] theorem State.recordBy_poison (s : State) (w c v o : Nat) (d : List Byte) : (s.recordBy w c v o d).poison = s.poison := by simp [State.recordBy]
@[simp] theorem State.recordBy_flips (s : State) (w c v o : Nat) (d : List Byte) : (s.recordBy w c v o d).flips = s.flips := by simp [State.recordBy]
@[simp] theorem State.recordBy_power (s : State) (w c v o : Nat) (d : List Byte) : (s.recordBy w c v o d).power = s.power := by simp [State.recordBy]
@[simp] theorem State.recordBy_modes (s : State) (w c v o : Nat) (d : List Byte) : (s.recordBy w c v o d).modes = s.modes := by simp [State.recordBy]
@[simp] theorem State.recordBy_boot (s : State) (w c v o : Nat) (d : List Byte) : (s.recordBy w c v o d).boot = s.boot := by simp [State.recordBy]
@[simp] theorem State.recordBy_upd (s : State) (w c v o : Nat) (d : List Byte) : (s.recordBy w c v o d).upd = s.upd := by simp [State.recordBy]
@[simp] theorem State.recordBy_cores (s : State) (w c v o : Nat) (d : List Byte) : (s.recordBy w c v o d).cores = s.cores := by simp [State.recordBy]
@[simp] theorem State.recordBy_cocoon (s : State) (w c v o : Nat) (d : List Byte) : (s.recordBy w c v o d).cocoon = s.cocoon := by simp [State.recordBy]
@[simp] theorem State.recordBy_resp (s : State) (w c v o : Nat) (d : List Byte) : (s.recordBy w c v o d).resp = s.resp := by simp [State.recordBy]
@[simp] theorem State.recordBy_staged (s : State) (w c v o : Nat) (d : List Byte) : (s.recordBy w c v o d).staged = s.staged := by simp [State.recordBy]
@[simp] theorem State.recordBy_caught (s : State) (w c v o : Nat) (d : List Byte) : (s.recordBy w c v o d).caught = s.caught := by simp [State.recordBy]
@[simp] theorem State.recordBy_img (s : State) (w c v o : Nat) (d : List Byte) : (s.recordBy w c v o d).img = s.img := by simp [State.recordBy]
@[simp] theorem State.recordBy_links (s : State) (w c v o : Nat) (d : List Byte) : (s.recordBy w c v o d).links = s.links := by simp [State.recordBy]
@[simp] theorem State.recordBy_rx (s : State) (w c v o : Nat) (d : List Byte) : (s.recordBy w c v o d).rx = s.rx := by simp [State.recordBy]
@[simp] theorem State.recordBy_outq (s : State) (w c v o : Nat) (d : List Byte) : (s.recordBy w c v o d).outq = s.outq := by simp [State.recordBy]
@[simp] theorem State.recordBy_disp (s : State) (w c v o : Nat) (d : List Byte) : (s.recordBy w c v o d).disp = s.disp := by simp [State.recordBy]
@[simp] theorem State.recordBy_toTp (s : State) (w c v o : Nat) (d : List Byte) : (s.recordBy w c v o d).toTp = s.toTp := by simp [State.recordBy]
@[simp] theorem State.recordBy_toSs (s : State) (w c v o : Nat) (d : List Byte) : (s.recordBy w c v o d).toSs = s.toSs := by simp [State.recordBy]
@[simp] theorem State.recordBy_health (s : State) (w c v o : Nat) (d : List Byte) : (s.recordBy w c v o d).health = s.health := by simp [State.recordBy]
@[simp] theorem State.recordBy_time (s : State) (w c v o : Nat) (d : List Byte) : (s.recordBy w c v o d).time = s.time := by simp [State.recordBy]
@[simp] theorem State.recordBy_stop (s : State) (w c v o : Nat) (d : List Byte) : (s.recordBy w c v o d).stop = s.stop := by simp [State.recordBy]
@[simp] theorem State.recordBy_radio (s : State) (w c v o : Nat) (d : List Byte) : (s.recordBy w c v o d).radio = s.radio := by simp [State.recordBy]
@[simp] theorem State.recordBy_loops (s : State) (w c v o : Nat) (d : List Byte) : (s.recordBy w c v o d).loops = s.loops := by simp [State.recordBy]
@[simp] theorem State.recordBy_samples (s : State) (w c v o : Nat) (d : List Byte) : (s.recordBy w c v o d).samples = s.samples := by simp [State.recordBy]
@[simp] theorem State.recordBy_gnss (s : State) (w c v o : Nat) (d : List Byte) : (s.recordBy w c v o d).gnss = s.gnss := by simp [State.recordBy]
@[simp] theorem State.recordBy_obs (s : State) (w c v o : Nat) (d : List Byte) : (s.recordBy w c v o d).obs = s.obs := by simp [State.recordBy]
@[simp] theorem State.recordBy_waves (s : State) (w c v o : Nat) (d : List Byte) : (s.recordBy w c v o d).waves = s.waves := by simp [State.recordBy]
@[simp] theorem State.recordBy_inbox (s : State) (w c v o : Nat) (d : List Byte) : (s.recordBy w c v o d).inbox = s.inbox := by simp [State.recordBy]
@[simp] theorem State.recordBy_phs (s : State) (w c v o : Nat) (d : List Byte) : (s.recordBy w c v o d).phs = s.phs := by simp [State.recordBy]
@[simp] theorem State.recordBy_align (s : State) (w c v o : Nat) (d : List Byte) : (s.recordBy w c v o d).align = s.align := by simp [State.recordBy]
@[simp] theorem State.recordBy_groups (s : State) (w c v o : Nat) (d : List Byte) : (s.recordBy w c v o d).groups = s.groups := by simp [State.recordBy]
@[simp] theorem State.recordBy_engines (s : State) (w c v o : Nat) (d : List Byte) : (s.recordBy w c v o d).engines = s.engines := by simp [State.recordBy]
@[simp] theorem State.recordBy_pins (s : State) (w c v o : Nat) (d : List Byte) : (s.recordBy w c v o d).pins = s.pins := by simp [State.recordBy]
@[simp] theorem State.recordBy_lines (s : State) (w c v o : Nat) (d : List Byte) : (s.recordBy w c v o d).lines = s.lines := by simp [State.recordBy]
@[simp] theorem State.recordBy_tracks (s : State) (w c v o : Nat) (d : List Byte) : (s.recordBy w c v o d).tracks = s.tracks := by simp [State.recordBy]
@[simp] theorem State.recordBy_eth (s : State) (w c v o : Nat) (d : List Byte) : (s.recordBy w c v o d).eth = s.eth := by simp [State.recordBy]
@[simp] theorem State.recordBy_cans (s : State) (w c v o : Nat) (d : List Byte) : (s.recordBy w c v o d).cans = s.cans := by simp [State.recordBy]
@[simp] theorem State.recordBy_pkt (s : State) (w c v o : Nat) (d : List Byte) : (s.recordBy w c v o d).pkt = s.pkt := by simp [State.recordBy]
@[simp] theorem State.recordBy_sec (s : State) (w c v o : Nat) (d : List Byte) : (s.recordBy w c v o d).sec = s.sec := by simp [State.recordBy]
@[simp] theorem State.recordBy_pcie (s : State) (w c v o : Nat) (d : List Byte) : (s.recordBy w c v o d).pcie = s.pcie := by simp [State.recordBy]
@[simp] theorem State.recordBy_yx (s : State) (w c v o : Nat) (d : List Byte) : (s.recordBy w c v o d).yx = s.yx := by simp [State.recordBy]
@[simp] theorem State.recordBy_dma (s : State) (w c v o : Nat) (d : List Byte) : (s.recordBy w c v o d).dma = s.dma := by simp [State.recordBy]
@[simp] theorem State.recordBy_scrub (s : State) (w c v o : Nat) (d : List Byte) : (s.recordBy w c v o d).scrub = s.scrub := by simp [State.recordBy]
@[simp] theorem State.recordBy_free (s : State) (w c v o : Nat) (d : List Byte) : (s.recordBy w c v o d).free = s.free := by simp [State.recordBy]

/-! ### raise -/

@[simp] theorem State.raise_pending (s : State) (c v e : Nat) (d : List Byte) : (s.raise c v e d).pending = s.pending := by simp [State.raise]
@[simp] theorem State.raise_mem (s : State) (c v e : Nat) (d : List Byte) : (s.raise c v e d).mem = s.mem := by simp [State.raise]
@[simp] theorem State.raise_poison (s : State) (c v e : Nat) (d : List Byte) : (s.raise c v e d).poison = s.poison := by simp [State.raise]
@[simp] theorem State.raise_flips (s : State) (c v e : Nat) (d : List Byte) : (s.raise c v e d).flips = s.flips := by simp [State.raise]
@[simp] theorem State.raise_power (s : State) (c v e : Nat) (d : List Byte) : (s.raise c v e d).power = s.power := by simp [State.raise]
@[simp] theorem State.raise_modes (s : State) (c v e : Nat) (d : List Byte) : (s.raise c v e d).modes = s.modes := by simp [State.raise]
@[simp] theorem State.raise_boot (s : State) (c v e : Nat) (d : List Byte) : (s.raise c v e d).boot = s.boot := by simp [State.raise]
@[simp] theorem State.raise_upd (s : State) (c v e : Nat) (d : List Byte) : (s.raise c v e d).upd = s.upd := by simp [State.raise]
@[simp] theorem State.raise_cores (s : State) (c v e : Nat) (d : List Byte) : (s.raise c v e d).cores = s.cores := by simp [State.raise]
@[simp] theorem State.raise_cocoon (s : State) (c v e : Nat) (d : List Byte) : (s.raise c v e d).cocoon = s.cocoon := by simp [State.raise]
@[simp] theorem State.raise_resp (s : State) (c v e : Nat) (d : List Byte) : (s.raise c v e d).resp = s.resp := by simp [State.raise]
@[simp] theorem State.raise_staged (s : State) (c v e : Nat) (d : List Byte) : (s.raise c v e d).staged = s.staged := by simp [State.raise]
@[simp] theorem State.raise_caught (s : State) (c v e : Nat) (d : List Byte) : (s.raise c v e d).caught = s.caught := by simp [State.raise]
@[simp] theorem State.raise_img (s : State) (c v e : Nat) (d : List Byte) : (s.raise c v e d).img = s.img := by simp [State.raise]
@[simp] theorem State.raise_links (s : State) (c v e : Nat) (d : List Byte) : (s.raise c v e d).links = s.links := by simp [State.raise]
@[simp] theorem State.raise_rx (s : State) (c v e : Nat) (d : List Byte) : (s.raise c v e d).rx = s.rx := by simp [State.raise]
@[simp] theorem State.raise_outq (s : State) (c v e : Nat) (d : List Byte) : (s.raise c v e d).outq = s.outq := by simp [State.raise]
@[simp] theorem State.raise_disp (s : State) (c v e : Nat) (d : List Byte) : (s.raise c v e d).disp = s.disp := by simp [State.raise]
@[simp] theorem State.raise_toTp (s : State) (c v e : Nat) (d : List Byte) : (s.raise c v e d).toTp = s.toTp := by simp [State.raise]
@[simp] theorem State.raise_toSs (s : State) (c v e : Nat) (d : List Byte) : (s.raise c v e d).toSs = s.toSs := by simp [State.raise]
@[simp] theorem State.raise_health (s : State) (c v e : Nat) (d : List Byte) : (s.raise c v e d).health = s.health := by simp [State.raise]
@[simp] theorem State.raise_time (s : State) (c v e : Nat) (d : List Byte) : (s.raise c v e d).time = s.time := by simp [State.raise]
@[simp] theorem State.raise_stop (s : State) (c v e : Nat) (d : List Byte) : (s.raise c v e d).stop = s.stop := by simp [State.raise]
@[simp] theorem State.raise_radio (s : State) (c v e : Nat) (d : List Byte) : (s.raise c v e d).radio = s.radio := by simp [State.raise]
@[simp] theorem State.raise_loops (s : State) (c v e : Nat) (d : List Byte) : (s.raise c v e d).loops = s.loops := by simp [State.raise]
@[simp] theorem State.raise_samples (s : State) (c v e : Nat) (d : List Byte) : (s.raise c v e d).samples = s.samples := by simp [State.raise]
@[simp] theorem State.raise_gnss (s : State) (c v e : Nat) (d : List Byte) : (s.raise c v e d).gnss = s.gnss := by simp [State.raise]
@[simp] theorem State.raise_obs (s : State) (c v e : Nat) (d : List Byte) : (s.raise c v e d).obs = s.obs := by simp [State.raise]
@[simp] theorem State.raise_waves (s : State) (c v e : Nat) (d : List Byte) : (s.raise c v e d).waves = s.waves := by simp [State.raise]
@[simp] theorem State.raise_inbox (s : State) (c v e : Nat) (d : List Byte) : (s.raise c v e d).inbox = s.inbox := by simp [State.raise]
@[simp] theorem State.raise_phs (s : State) (c v e : Nat) (d : List Byte) : (s.raise c v e d).phs = s.phs := by simp [State.raise]
@[simp] theorem State.raise_align (s : State) (c v e : Nat) (d : List Byte) : (s.raise c v e d).align = s.align := by simp [State.raise]
@[simp] theorem State.raise_groups (s : State) (c v e : Nat) (d : List Byte) : (s.raise c v e d).groups = s.groups := by simp [State.raise]
@[simp] theorem State.raise_engines (s : State) (c v e : Nat) (d : List Byte) : (s.raise c v e d).engines = s.engines := by simp [State.raise]
@[simp] theorem State.raise_pins (s : State) (c v e : Nat) (d : List Byte) : (s.raise c v e d).pins = s.pins := by simp [State.raise]
@[simp] theorem State.raise_lines (s : State) (c v e : Nat) (d : List Byte) : (s.raise c v e d).lines = s.lines := by simp [State.raise]
@[simp] theorem State.raise_tracks (s : State) (c v e : Nat) (d : List Byte) : (s.raise c v e d).tracks = s.tracks := by simp [State.raise]
@[simp] theorem State.raise_eth (s : State) (c v e : Nat) (d : List Byte) : (s.raise c v e d).eth = s.eth := by simp [State.raise]
@[simp] theorem State.raise_cans (s : State) (c v e : Nat) (d : List Byte) : (s.raise c v e d).cans = s.cans := by simp [State.raise]
@[simp] theorem State.raise_pkt (s : State) (c v e : Nat) (d : List Byte) : (s.raise c v e d).pkt = s.pkt := by simp [State.raise]
@[simp] theorem State.raise_sec (s : State) (c v e : Nat) (d : List Byte) : (s.raise c v e d).sec = s.sec := by simp [State.raise]
@[simp] theorem State.raise_pcie (s : State) (c v e : Nat) (d : List Byte) : (s.raise c v e d).pcie = s.pcie := by simp [State.raise]
@[simp] theorem State.raise_yx (s : State) (c v e : Nat) (d : List Byte) : (s.raise c v e d).yx = s.yx := by simp [State.raise]
@[simp] theorem State.raise_dma (s : State) (c v e : Nat) (d : List Byte) : (s.raise c v e d).dma = s.dma := by simp [State.raise]
@[simp] theorem State.raise_scrub (s : State) (c v e : Nat) (d : List Byte) : (s.raise c v e d).scrub = s.scrub := by simp [State.raise]
@[simp] theorem State.raise_free (s : State) (c v e : Nat) (d : List Byte) : (s.raise c v e d).free = s.free := by simp [State.raise]

/-! ### msix -/

@[simp] theorem State.msix_pending (s : State) (v : Nat) : (s.msix v).pending = s.pending := by unfold State.msix; split <;> rfl
@[simp] theorem State.msix_cells (s : State) (v : Nat) : (s.msix v).cells = s.cells := by unfold State.msix; split <;> rfl
@[simp] theorem State.msix_mem (s : State) (v : Nat) : (s.msix v).mem = s.mem := by unfold State.msix; split <;> rfl
@[simp] theorem State.msix_poison (s : State) (v : Nat) : (s.msix v).poison = s.poison := by unfold State.msix; split <;> rfl
@[simp] theorem State.msix_flips (s : State) (v : Nat) : (s.msix v).flips = s.flips := by unfold State.msix; split <;> rfl
@[simp] theorem State.msix_power (s : State) (v : Nat) : (s.msix v).power = s.power := by unfold State.msix; split <;> rfl
@[simp] theorem State.msix_modes (s : State) (v : Nat) : (s.msix v).modes = s.modes := by unfold State.msix; split <;> rfl
@[simp] theorem State.msix_boot (s : State) (v : Nat) : (s.msix v).boot = s.boot := by unfold State.msix; split <;> rfl
@[simp] theorem State.msix_upd (s : State) (v : Nat) : (s.msix v).upd = s.upd := by unfold State.msix; split <;> rfl
@[simp] theorem State.msix_cores (s : State) (v : Nat) : (s.msix v).cores = s.cores := by unfold State.msix; split <;> rfl
@[simp] theorem State.msix_cocoon (s : State) (v : Nat) : (s.msix v).cocoon = s.cocoon := by unfold State.msix; split <;> rfl
@[simp] theorem State.msix_resp (s : State) (v : Nat) : (s.msix v).resp = s.resp := by unfold State.msix; split <;> rfl
@[simp] theorem State.msix_staged (s : State) (v : Nat) : (s.msix v).staged = s.staged := by unfold State.msix; split <;> rfl
@[simp] theorem State.msix_caught (s : State) (v : Nat) : (s.msix v).caught = s.caught := by unfold State.msix; split <;> rfl
@[simp] theorem State.msix_img (s : State) (v : Nat) : (s.msix v).img = s.img := by unfold State.msix; split <;> rfl
@[simp] theorem State.msix_links (s : State) (v : Nat) : (s.msix v).links = s.links := by unfold State.msix; split <;> rfl
@[simp] theorem State.msix_rx (s : State) (v : Nat) : (s.msix v).rx = s.rx := by unfold State.msix; split <;> rfl
@[simp] theorem State.msix_outq (s : State) (v : Nat) : (s.msix v).outq = s.outq := by unfold State.msix; split <;> rfl
@[simp] theorem State.msix_disp (s : State) (v : Nat) : (s.msix v).disp = s.disp := by unfold State.msix; split <;> rfl
@[simp] theorem State.msix_toggles (s : State) (v : Nat) : (s.msix v).toggles = s.toggles := by unfold State.msix; split <;> rfl
@[simp] theorem State.msix_toTp (s : State) (v : Nat) : (s.msix v).toTp = s.toTp := by unfold State.msix; split <;> rfl
@[simp] theorem State.msix_toSs (s : State) (v : Nat) : (s.msix v).toSs = s.toSs := by unfold State.msix; split <;> rfl
@[simp] theorem State.msix_log (s : State) (v : Nat) : (s.msix v).log = s.log := by unfold State.msix; split <;> rfl
@[simp] theorem State.msix_health (s : State) (v : Nat) : (s.msix v).health = s.health := by unfold State.msix; split <;> rfl
@[simp] theorem State.msix_time (s : State) (v : Nat) : (s.msix v).time = s.time := by unfold State.msix; split <;> rfl
@[simp] theorem State.msix_stop (s : State) (v : Nat) : (s.msix v).stop = s.stop := by unfold State.msix; split <;> rfl
@[simp] theorem State.msix_radio (s : State) (v : Nat) : (s.msix v).radio = s.radio := by unfold State.msix; split <;> rfl
@[simp] theorem State.msix_loops (s : State) (v : Nat) : (s.msix v).loops = s.loops := by unfold State.msix; split <;> rfl
@[simp] theorem State.msix_samples (s : State) (v : Nat) : (s.msix v).samples = s.samples := by unfold State.msix; split <;> rfl
@[simp] theorem State.msix_gnss (s : State) (v : Nat) : (s.msix v).gnss = s.gnss := by unfold State.msix; split <;> rfl
@[simp] theorem State.msix_obs (s : State) (v : Nat) : (s.msix v).obs = s.obs := by unfold State.msix; split <;> rfl
@[simp] theorem State.msix_waves (s : State) (v : Nat) : (s.msix v).waves = s.waves := by unfold State.msix; split <;> rfl
@[simp] theorem State.msix_inbox (s : State) (v : Nat) : (s.msix v).inbox = s.inbox := by unfold State.msix; split <;> rfl
@[simp] theorem State.msix_phs (s : State) (v : Nat) : (s.msix v).phs = s.phs := by unfold State.msix; split <;> rfl
@[simp] theorem State.msix_align (s : State) (v : Nat) : (s.msix v).align = s.align := by unfold State.msix; split <;> rfl
@[simp] theorem State.msix_groups (s : State) (v : Nat) : (s.msix v).groups = s.groups := by unfold State.msix; split <;> rfl
@[simp] theorem State.msix_engines (s : State) (v : Nat) : (s.msix v).engines = s.engines := by unfold State.msix; split <;> rfl
@[simp] theorem State.msix_pins (s : State) (v : Nat) : (s.msix v).pins = s.pins := by unfold State.msix; split <;> rfl
@[simp] theorem State.msix_lines (s : State) (v : Nat) : (s.msix v).lines = s.lines := by unfold State.msix; split <;> rfl
@[simp] theorem State.msix_tracks (s : State) (v : Nat) : (s.msix v).tracks = s.tracks := by unfold State.msix; split <;> rfl
@[simp] theorem State.msix_eth (s : State) (v : Nat) : (s.msix v).eth = s.eth := by unfold State.msix; split <;> rfl
@[simp] theorem State.msix_cans (s : State) (v : Nat) : (s.msix v).cans = s.cans := by unfold State.msix; split <;> rfl
@[simp] theorem State.msix_pkt (s : State) (v : Nat) : (s.msix v).pkt = s.pkt := by unfold State.msix; split <;> rfl
@[simp] theorem State.msix_sec (s : State) (v : Nat) : (s.msix v).sec = s.sec := by unfold State.msix; split <;> rfl
@[simp] theorem State.msix_yx (s : State) (v : Nat) : (s.msix v).yx = s.yx := by unfold State.msix; split <;> rfl
@[simp] theorem State.msix_dma (s : State) (v : Nat) : (s.msix v).dma = s.dma := by unfold State.msix; split <;> rfl
@[simp] theorem State.msix_scrub (s : State) (v : Nat) : (s.msix v).scrub = s.scrub := by unfold State.msix; split <;> rfl
@[simp] theorem State.msix_free (s : State) (v : Nat) : (s.msix v).free = s.free := by unfold State.msix; split <;> rfl

/-! ### accessEvent -/

@[simp] theorem State.accessEvent_pending (s : State) (c : Nat) (m : Master) (a : Nat) : (s.accessEvent c m a).pending = s.pending := by simp [State.accessEvent]
@[simp] theorem State.accessEvent_mem (s : State) (c : Nat) (m : Master) (a : Nat) : (s.accessEvent c m a).mem = s.mem := by simp [State.accessEvent]
@[simp] theorem State.accessEvent_poison (s : State) (c : Nat) (m : Master) (a : Nat) : (s.accessEvent c m a).poison = s.poison := by simp [State.accessEvent]
@[simp] theorem State.accessEvent_flips (s : State) (c : Nat) (m : Master) (a : Nat) : (s.accessEvent c m a).flips = s.flips := by simp [State.accessEvent]
@[simp] theorem State.accessEvent_power (s : State) (c : Nat) (m : Master) (a : Nat) : (s.accessEvent c m a).power = s.power := by simp [State.accessEvent]
@[simp] theorem State.accessEvent_modes (s : State) (c : Nat) (m : Master) (a : Nat) : (s.accessEvent c m a).modes = s.modes := by simp [State.accessEvent]
@[simp] theorem State.accessEvent_boot (s : State) (c : Nat) (m : Master) (a : Nat) : (s.accessEvent c m a).boot = s.boot := by simp [State.accessEvent]
@[simp] theorem State.accessEvent_upd (s : State) (c : Nat) (m : Master) (a : Nat) : (s.accessEvent c m a).upd = s.upd := by simp [State.accessEvent]
@[simp] theorem State.accessEvent_cores (s : State) (c : Nat) (m : Master) (a : Nat) : (s.accessEvent c m a).cores = s.cores := by simp [State.accessEvent]
@[simp] theorem State.accessEvent_cocoon (s : State) (c : Nat) (m : Master) (a : Nat) : (s.accessEvent c m a).cocoon = s.cocoon := by simp [State.accessEvent]
@[simp] theorem State.accessEvent_resp (s : State) (c : Nat) (m : Master) (a : Nat) : (s.accessEvent c m a).resp = s.resp := by simp [State.accessEvent]
@[simp] theorem State.accessEvent_staged (s : State) (c : Nat) (m : Master) (a : Nat) : (s.accessEvent c m a).staged = s.staged := by simp [State.accessEvent]
@[simp] theorem State.accessEvent_caught (s : State) (c : Nat) (m : Master) (a : Nat) : (s.accessEvent c m a).caught = s.caught := by simp [State.accessEvent]
@[simp] theorem State.accessEvent_img (s : State) (c : Nat) (m : Master) (a : Nat) : (s.accessEvent c m a).img = s.img := by simp [State.accessEvent]
@[simp] theorem State.accessEvent_links (s : State) (c : Nat) (m : Master) (a : Nat) : (s.accessEvent c m a).links = s.links := by simp [State.accessEvent]
@[simp] theorem State.accessEvent_rx (s : State) (c : Nat) (m : Master) (a : Nat) : (s.accessEvent c m a).rx = s.rx := by simp [State.accessEvent]
@[simp] theorem State.accessEvent_outq (s : State) (c : Nat) (m : Master) (a : Nat) : (s.accessEvent c m a).outq = s.outq := by simp [State.accessEvent]
@[simp] theorem State.accessEvent_disp (s : State) (c : Nat) (m : Master) (a : Nat) : (s.accessEvent c m a).disp = s.disp := by simp [State.accessEvent]
@[simp] theorem State.accessEvent_toTp (s : State) (c : Nat) (m : Master) (a : Nat) : (s.accessEvent c m a).toTp = s.toTp := by simp [State.accessEvent]
@[simp] theorem State.accessEvent_toSs (s : State) (c : Nat) (m : Master) (a : Nat) : (s.accessEvent c m a).toSs = s.toSs := by simp [State.accessEvent]
@[simp] theorem State.accessEvent_health (s : State) (c : Nat) (m : Master) (a : Nat) : (s.accessEvent c m a).health = s.health := by simp [State.accessEvent]
@[simp] theorem State.accessEvent_time (s : State) (c : Nat) (m : Master) (a : Nat) : (s.accessEvent c m a).time = s.time := by simp [State.accessEvent]
@[simp] theorem State.accessEvent_stop (s : State) (c : Nat) (m : Master) (a : Nat) : (s.accessEvent c m a).stop = s.stop := by simp [State.accessEvent]
@[simp] theorem State.accessEvent_radio (s : State) (c : Nat) (m : Master) (a : Nat) : (s.accessEvent c m a).radio = s.radio := by simp [State.accessEvent]
@[simp] theorem State.accessEvent_loops (s : State) (c : Nat) (m : Master) (a : Nat) : (s.accessEvent c m a).loops = s.loops := by simp [State.accessEvent]
@[simp] theorem State.accessEvent_samples (s : State) (c : Nat) (m : Master) (a : Nat) : (s.accessEvent c m a).samples = s.samples := by simp [State.accessEvent]
@[simp] theorem State.accessEvent_gnss (s : State) (c : Nat) (m : Master) (a : Nat) : (s.accessEvent c m a).gnss = s.gnss := by simp [State.accessEvent]
@[simp] theorem State.accessEvent_obs (s : State) (c : Nat) (m : Master) (a : Nat) : (s.accessEvent c m a).obs = s.obs := by simp [State.accessEvent]
@[simp] theorem State.accessEvent_waves (s : State) (c : Nat) (m : Master) (a : Nat) : (s.accessEvent c m a).waves = s.waves := by simp [State.accessEvent]
@[simp] theorem State.accessEvent_inbox (s : State) (c : Nat) (m : Master) (a : Nat) : (s.accessEvent c m a).inbox = s.inbox := by simp [State.accessEvent]
@[simp] theorem State.accessEvent_phs (s : State) (c : Nat) (m : Master) (a : Nat) : (s.accessEvent c m a).phs = s.phs := by simp [State.accessEvent]
@[simp] theorem State.accessEvent_align (s : State) (c : Nat) (m : Master) (a : Nat) : (s.accessEvent c m a).align = s.align := by simp [State.accessEvent]
@[simp] theorem State.accessEvent_groups (s : State) (c : Nat) (m : Master) (a : Nat) : (s.accessEvent c m a).groups = s.groups := by simp [State.accessEvent]
@[simp] theorem State.accessEvent_engines (s : State) (c : Nat) (m : Master) (a : Nat) : (s.accessEvent c m a).engines = s.engines := by simp [State.accessEvent]
@[simp] theorem State.accessEvent_pins (s : State) (c : Nat) (m : Master) (a : Nat) : (s.accessEvent c m a).pins = s.pins := by simp [State.accessEvent]
@[simp] theorem State.accessEvent_lines (s : State) (c : Nat) (m : Master) (a : Nat) : (s.accessEvent c m a).lines = s.lines := by simp [State.accessEvent]
@[simp] theorem State.accessEvent_tracks (s : State) (c : Nat) (m : Master) (a : Nat) : (s.accessEvent c m a).tracks = s.tracks := by simp [State.accessEvent]
@[simp] theorem State.accessEvent_eth (s : State) (c : Nat) (m : Master) (a : Nat) : (s.accessEvent c m a).eth = s.eth := by simp [State.accessEvent]
@[simp] theorem State.accessEvent_cans (s : State) (c : Nat) (m : Master) (a : Nat) : (s.accessEvent c m a).cans = s.cans := by simp [State.accessEvent]
@[simp] theorem State.accessEvent_pkt (s : State) (c : Nat) (m : Master) (a : Nat) : (s.accessEvent c m a).pkt = s.pkt := by simp [State.accessEvent]
@[simp] theorem State.accessEvent_sec (s : State) (c : Nat) (m : Master) (a : Nat) : (s.accessEvent c m a).sec = s.sec := by simp [State.accessEvent]
@[simp] theorem State.accessEvent_pcie (s : State) (c : Nat) (m : Master) (a : Nat) : (s.accessEvent c m a).pcie = s.pcie := by simp [State.accessEvent]
@[simp] theorem State.accessEvent_yx (s : State) (c : Nat) (m : Master) (a : Nat) : (s.accessEvent c m a).yx = s.yx := by simp [State.accessEvent]
@[simp] theorem State.accessEvent_dma (s : State) (c : Nat) (m : Master) (a : Nat) : (s.accessEvent c m a).dma = s.dma := by simp [State.accessEvent]
@[simp] theorem State.accessEvent_scrub (s : State) (c : Nat) (m : Master) (a : Nat) : (s.accessEvent c m a).scrub = s.scrub := by simp [State.accessEvent]
@[simp] theorem State.accessEvent_free (s : State) (c : Nat) (m : Master) (a : Nat) : (s.accessEvent c m a).free = s.free := by simp [State.accessEvent]

/-! ### violation -/

@[simp] theorem State.violation_pending (s : State) (m : Master) (a : Nat) : (s.violation m a).pending = s.pending := by simp [State.violation]
@[simp] theorem State.violation_mem (s : State) (m : Master) (a : Nat) : (s.violation m a).mem = s.mem := by simp [State.violation]
@[simp] theorem State.violation_poison (s : State) (m : Master) (a : Nat) : (s.violation m a).poison = s.poison := by simp [State.violation]
@[simp] theorem State.violation_flips (s : State) (m : Master) (a : Nat) : (s.violation m a).flips = s.flips := by simp [State.violation]
@[simp] theorem State.violation_power (s : State) (m : Master) (a : Nat) : (s.violation m a).power = s.power := by simp [State.violation]
@[simp] theorem State.violation_modes (s : State) (m : Master) (a : Nat) : (s.violation m a).modes = s.modes := by simp [State.violation]
@[simp] theorem State.violation_boot (s : State) (m : Master) (a : Nat) : (s.violation m a).boot = s.boot := by simp [State.violation]
@[simp] theorem State.violation_upd (s : State) (m : Master) (a : Nat) : (s.violation m a).upd = s.upd := by simp [State.violation]
@[simp] theorem State.violation_cores (s : State) (m : Master) (a : Nat) : (s.violation m a).cores = s.cores := by simp [State.violation]
@[simp] theorem State.violation_cocoon (s : State) (m : Master) (a : Nat) : (s.violation m a).cocoon = s.cocoon := by simp [State.violation]
@[simp] theorem State.violation_staged (s : State) (m : Master) (a : Nat) : (s.violation m a).staged = s.staged := by simp [State.violation]
@[simp] theorem State.violation_caught (s : State) (m : Master) (a : Nat) : (s.violation m a).caught = s.caught := by simp [State.violation]
@[simp] theorem State.violation_img (s : State) (m : Master) (a : Nat) : (s.violation m a).img = s.img := by simp [State.violation]
@[simp] theorem State.violation_links (s : State) (m : Master) (a : Nat) : (s.violation m a).links = s.links := by simp [State.violation]
@[simp] theorem State.violation_rx (s : State) (m : Master) (a : Nat) : (s.violation m a).rx = s.rx := by simp [State.violation]
@[simp] theorem State.violation_outq (s : State) (m : Master) (a : Nat) : (s.violation m a).outq = s.outq := by simp [State.violation]
@[simp] theorem State.violation_disp (s : State) (m : Master) (a : Nat) : (s.violation m a).disp = s.disp := by simp [State.violation]
@[simp] theorem State.violation_toTp (s : State) (m : Master) (a : Nat) : (s.violation m a).toTp = s.toTp := by simp [State.violation]
@[simp] theorem State.violation_toSs (s : State) (m : Master) (a : Nat) : (s.violation m a).toSs = s.toSs := by simp [State.violation]
@[simp] theorem State.violation_health (s : State) (m : Master) (a : Nat) : (s.violation m a).health = s.health := by simp [State.violation]
@[simp] theorem State.violation_time (s : State) (m : Master) (a : Nat) : (s.violation m a).time = s.time := by simp [State.violation]
@[simp] theorem State.violation_stop (s : State) (m : Master) (a : Nat) : (s.violation m a).stop = s.stop := by simp [State.violation]
@[simp] theorem State.violation_radio (s : State) (m : Master) (a : Nat) : (s.violation m a).radio = s.radio := by simp [State.violation]
@[simp] theorem State.violation_loops (s : State) (m : Master) (a : Nat) : (s.violation m a).loops = s.loops := by simp [State.violation]
@[simp] theorem State.violation_samples (s : State) (m : Master) (a : Nat) : (s.violation m a).samples = s.samples := by simp [State.violation]
@[simp] theorem State.violation_gnss (s : State) (m : Master) (a : Nat) : (s.violation m a).gnss = s.gnss := by simp [State.violation]
@[simp] theorem State.violation_obs (s : State) (m : Master) (a : Nat) : (s.violation m a).obs = s.obs := by simp [State.violation]
@[simp] theorem State.violation_waves (s : State) (m : Master) (a : Nat) : (s.violation m a).waves = s.waves := by simp [State.violation]
@[simp] theorem State.violation_inbox (s : State) (m : Master) (a : Nat) : (s.violation m a).inbox = s.inbox := by simp [State.violation]
@[simp] theorem State.violation_phs (s : State) (m : Master) (a : Nat) : (s.violation m a).phs = s.phs := by simp [State.violation]
@[simp] theorem State.violation_align (s : State) (m : Master) (a : Nat) : (s.violation m a).align = s.align := by simp [State.violation]
@[simp] theorem State.violation_groups (s : State) (m : Master) (a : Nat) : (s.violation m a).groups = s.groups := by simp [State.violation]
@[simp] theorem State.violation_engines (s : State) (m : Master) (a : Nat) : (s.violation m a).engines = s.engines := by simp [State.violation]
@[simp] theorem State.violation_pins (s : State) (m : Master) (a : Nat) : (s.violation m a).pins = s.pins := by simp [State.violation]
@[simp] theorem State.violation_lines (s : State) (m : Master) (a : Nat) : (s.violation m a).lines = s.lines := by simp [State.violation]
@[simp] theorem State.violation_tracks (s : State) (m : Master) (a : Nat) : (s.violation m a).tracks = s.tracks := by simp [State.violation]
@[simp] theorem State.violation_eth (s : State) (m : Master) (a : Nat) : (s.violation m a).eth = s.eth := by simp [State.violation]
@[simp] theorem State.violation_cans (s : State) (m : Master) (a : Nat) : (s.violation m a).cans = s.cans := by simp [State.violation]
@[simp] theorem State.violation_pkt (s : State) (m : Master) (a : Nat) : (s.violation m a).pkt = s.pkt := by simp [State.violation]
@[simp] theorem State.violation_sec (s : State) (m : Master) (a : Nat) : (s.violation m a).sec = s.sec := by simp [State.violation]
@[simp] theorem State.violation_pcie (s : State) (m : Master) (a : Nat) : (s.violation m a).pcie = s.pcie := by simp [State.violation]
@[simp] theorem State.violation_yx (s : State) (m : Master) (a : Nat) : (s.violation m a).yx = s.yx := by simp [State.violation]
@[simp] theorem State.violation_dma (s : State) (m : Master) (a : Nat) : (s.violation m a).dma = s.dma := by simp [State.violation]
@[simp] theorem State.violation_scrub (s : State) (m : Master) (a : Nat) : (s.violation m a).scrub = s.scrub := by simp [State.violation]
@[simp] theorem State.violation_free (s : State) (m : Master) (a : Nat) : (s.violation m a).free = s.free := by simp [State.violation]

/-! ### sets -/

@[simp] theorem State.sets_pending (b : Nat) (l : List (Fld × Nat)) : ∀ s : State, (s.sets b l).pending = s.pending := by
  induction l with
  | nil => intro s; rfl
  | cons p t ih => intro s; exact (ih (s.set b p.1 p.2)).trans rfl
@[simp] theorem State.sets_mem (b : Nat) (l : List (Fld × Nat)) : ∀ s : State, (s.sets b l).mem = s.mem := by
  induction l with
  | nil => intro s; rfl
  | cons p t ih => intro s; exact (ih (s.set b p.1 p.2)).trans rfl
@[simp] theorem State.sets_poison (b : Nat) (l : List (Fld × Nat)) : ∀ s : State, (s.sets b l).poison = s.poison := by
  induction l with
  | nil => intro s; rfl
  | cons p t ih => intro s; exact (ih (s.set b p.1 p.2)).trans rfl
@[simp] theorem State.sets_flips (b : Nat) (l : List (Fld × Nat)) : ∀ s : State, (s.sets b l).flips = s.flips := by
  induction l with
  | nil => intro s; rfl
  | cons p t ih => intro s; exact (ih (s.set b p.1 p.2)).trans rfl
@[simp] theorem State.sets_power (b : Nat) (l : List (Fld × Nat)) : ∀ s : State, (s.sets b l).power = s.power := by
  induction l with
  | nil => intro s; rfl
  | cons p t ih => intro s; exact (ih (s.set b p.1 p.2)).trans rfl
@[simp] theorem State.sets_modes (b : Nat) (l : List (Fld × Nat)) : ∀ s : State, (s.sets b l).modes = s.modes := by
  induction l with
  | nil => intro s; rfl
  | cons p t ih => intro s; exact (ih (s.set b p.1 p.2)).trans rfl
@[simp] theorem State.sets_boot (b : Nat) (l : List (Fld × Nat)) : ∀ s : State, (s.sets b l).boot = s.boot := by
  induction l with
  | nil => intro s; rfl
  | cons p t ih => intro s; exact (ih (s.set b p.1 p.2)).trans rfl
@[simp] theorem State.sets_upd (b : Nat) (l : List (Fld × Nat)) : ∀ s : State, (s.sets b l).upd = s.upd := by
  induction l with
  | nil => intro s; rfl
  | cons p t ih => intro s; exact (ih (s.set b p.1 p.2)).trans rfl
@[simp] theorem State.sets_cores (b : Nat) (l : List (Fld × Nat)) : ∀ s : State, (s.sets b l).cores = s.cores := by
  induction l with
  | nil => intro s; rfl
  | cons p t ih => intro s; exact (ih (s.set b p.1 p.2)).trans rfl
@[simp] theorem State.sets_cocoon (b : Nat) (l : List (Fld × Nat)) : ∀ s : State, (s.sets b l).cocoon = s.cocoon := by
  induction l with
  | nil => intro s; rfl
  | cons p t ih => intro s; exact (ih (s.set b p.1 p.2)).trans rfl
@[simp] theorem State.sets_resp (b : Nat) (l : List (Fld × Nat)) : ∀ s : State, (s.sets b l).resp = s.resp := by
  induction l with
  | nil => intro s; rfl
  | cons p t ih => intro s; exact (ih (s.set b p.1 p.2)).trans rfl
@[simp] theorem State.sets_staged (b : Nat) (l : List (Fld × Nat)) : ∀ s : State, (s.sets b l).staged = s.staged := by
  induction l with
  | nil => intro s; rfl
  | cons p t ih => intro s; exact (ih (s.set b p.1 p.2)).trans rfl
@[simp] theorem State.sets_caught (b : Nat) (l : List (Fld × Nat)) : ∀ s : State, (s.sets b l).caught = s.caught := by
  induction l with
  | nil => intro s; rfl
  | cons p t ih => intro s; exact (ih (s.set b p.1 p.2)).trans rfl
@[simp] theorem State.sets_img (b : Nat) (l : List (Fld × Nat)) : ∀ s : State, (s.sets b l).img = s.img := by
  induction l with
  | nil => intro s; rfl
  | cons p t ih => intro s; exact (ih (s.set b p.1 p.2)).trans rfl
@[simp] theorem State.sets_links (b : Nat) (l : List (Fld × Nat)) : ∀ s : State, (s.sets b l).links = s.links := by
  induction l with
  | nil => intro s; rfl
  | cons p t ih => intro s; exact (ih (s.set b p.1 p.2)).trans rfl
@[simp] theorem State.sets_rx (b : Nat) (l : List (Fld × Nat)) : ∀ s : State, (s.sets b l).rx = s.rx := by
  induction l with
  | nil => intro s; rfl
  | cons p t ih => intro s; exact (ih (s.set b p.1 p.2)).trans rfl
@[simp] theorem State.sets_outq (b : Nat) (l : List (Fld × Nat)) : ∀ s : State, (s.sets b l).outq = s.outq := by
  induction l with
  | nil => intro s; rfl
  | cons p t ih => intro s; exact (ih (s.set b p.1 p.2)).trans rfl
@[simp] theorem State.sets_disp (b : Nat) (l : List (Fld × Nat)) : ∀ s : State, (s.sets b l).disp = s.disp := by
  induction l with
  | nil => intro s; rfl
  | cons p t ih => intro s; exact (ih (s.set b p.1 p.2)).trans rfl
@[simp] theorem State.sets_toggles (b : Nat) (l : List (Fld × Nat)) : ∀ s : State, (s.sets b l).toggles = s.toggles := by
  induction l with
  | nil => intro s; rfl
  | cons p t ih => intro s; exact (ih (s.set b p.1 p.2)).trans rfl
@[simp] theorem State.sets_toTp (b : Nat) (l : List (Fld × Nat)) : ∀ s : State, (s.sets b l).toTp = s.toTp := by
  induction l with
  | nil => intro s; rfl
  | cons p t ih => intro s; exact (ih (s.set b p.1 p.2)).trans rfl
@[simp] theorem State.sets_toSs (b : Nat) (l : List (Fld × Nat)) : ∀ s : State, (s.sets b l).toSs = s.toSs := by
  induction l with
  | nil => intro s; rfl
  | cons p t ih => intro s; exact (ih (s.set b p.1 p.2)).trans rfl
@[simp] theorem State.sets_log (b : Nat) (l : List (Fld × Nat)) : ∀ s : State, (s.sets b l).log = s.log := by
  induction l with
  | nil => intro s; rfl
  | cons p t ih => intro s; exact (ih (s.set b p.1 p.2)).trans rfl
@[simp] theorem State.sets_health (b : Nat) (l : List (Fld × Nat)) : ∀ s : State, (s.sets b l).health = s.health := by
  induction l with
  | nil => intro s; rfl
  | cons p t ih => intro s; exact (ih (s.set b p.1 p.2)).trans rfl
@[simp] theorem State.sets_time (b : Nat) (l : List (Fld × Nat)) : ∀ s : State, (s.sets b l).time = s.time := by
  induction l with
  | nil => intro s; rfl
  | cons p t ih => intro s; exact (ih (s.set b p.1 p.2)).trans rfl
@[simp] theorem State.sets_stop (b : Nat) (l : List (Fld × Nat)) : ∀ s : State, (s.sets b l).stop = s.stop := by
  induction l with
  | nil => intro s; rfl
  | cons p t ih => intro s; exact (ih (s.set b p.1 p.2)).trans rfl
@[simp] theorem State.sets_radio (b : Nat) (l : List (Fld × Nat)) : ∀ s : State, (s.sets b l).radio = s.radio := by
  induction l with
  | nil => intro s; rfl
  | cons p t ih => intro s; exact (ih (s.set b p.1 p.2)).trans rfl
@[simp] theorem State.sets_loops (b : Nat) (l : List (Fld × Nat)) : ∀ s : State, (s.sets b l).loops = s.loops := by
  induction l with
  | nil => intro s; rfl
  | cons p t ih => intro s; exact (ih (s.set b p.1 p.2)).trans rfl
@[simp] theorem State.sets_samples (b : Nat) (l : List (Fld × Nat)) : ∀ s : State, (s.sets b l).samples = s.samples := by
  induction l with
  | nil => intro s; rfl
  | cons p t ih => intro s; exact (ih (s.set b p.1 p.2)).trans rfl
@[simp] theorem State.sets_gnss (b : Nat) (l : List (Fld × Nat)) : ∀ s : State, (s.sets b l).gnss = s.gnss := by
  induction l with
  | nil => intro s; rfl
  | cons p t ih => intro s; exact (ih (s.set b p.1 p.2)).trans rfl
@[simp] theorem State.sets_obs (b : Nat) (l : List (Fld × Nat)) : ∀ s : State, (s.sets b l).obs = s.obs := by
  induction l with
  | nil => intro s; rfl
  | cons p t ih => intro s; exact (ih (s.set b p.1 p.2)).trans rfl
@[simp] theorem State.sets_waves (b : Nat) (l : List (Fld × Nat)) : ∀ s : State, (s.sets b l).waves = s.waves := by
  induction l with
  | nil => intro s; rfl
  | cons p t ih => intro s; exact (ih (s.set b p.1 p.2)).trans rfl
@[simp] theorem State.sets_inbox (b : Nat) (l : List (Fld × Nat)) : ∀ s : State, (s.sets b l).inbox = s.inbox := by
  induction l with
  | nil => intro s; rfl
  | cons p t ih => intro s; exact (ih (s.set b p.1 p.2)).trans rfl
@[simp] theorem State.sets_phs (b : Nat) (l : List (Fld × Nat)) : ∀ s : State, (s.sets b l).phs = s.phs := by
  induction l with
  | nil => intro s; rfl
  | cons p t ih => intro s; exact (ih (s.set b p.1 p.2)).trans rfl
@[simp] theorem State.sets_align (b : Nat) (l : List (Fld × Nat)) : ∀ s : State, (s.sets b l).align = s.align := by
  induction l with
  | nil => intro s; rfl
  | cons p t ih => intro s; exact (ih (s.set b p.1 p.2)).trans rfl
@[simp] theorem State.sets_groups (b : Nat) (l : List (Fld × Nat)) : ∀ s : State, (s.sets b l).groups = s.groups := by
  induction l with
  | nil => intro s; rfl
  | cons p t ih => intro s; exact (ih (s.set b p.1 p.2)).trans rfl
@[simp] theorem State.sets_engines (b : Nat) (l : List (Fld × Nat)) : ∀ s : State, (s.sets b l).engines = s.engines := by
  induction l with
  | nil => intro s; rfl
  | cons p t ih => intro s; exact (ih (s.set b p.1 p.2)).trans rfl
@[simp] theorem State.sets_pins (b : Nat) (l : List (Fld × Nat)) : ∀ s : State, (s.sets b l).pins = s.pins := by
  induction l with
  | nil => intro s; rfl
  | cons p t ih => intro s; exact (ih (s.set b p.1 p.2)).trans rfl
@[simp] theorem State.sets_lines (b : Nat) (l : List (Fld × Nat)) : ∀ s : State, (s.sets b l).lines = s.lines := by
  induction l with
  | nil => intro s; rfl
  | cons p t ih => intro s; exact (ih (s.set b p.1 p.2)).trans rfl
@[simp] theorem State.sets_tracks (b : Nat) (l : List (Fld × Nat)) : ∀ s : State, (s.sets b l).tracks = s.tracks := by
  induction l with
  | nil => intro s; rfl
  | cons p t ih => intro s; exact (ih (s.set b p.1 p.2)).trans rfl
@[simp] theorem State.sets_eth (b : Nat) (l : List (Fld × Nat)) : ∀ s : State, (s.sets b l).eth = s.eth := by
  induction l with
  | nil => intro s; rfl
  | cons p t ih => intro s; exact (ih (s.set b p.1 p.2)).trans rfl
@[simp] theorem State.sets_cans (b : Nat) (l : List (Fld × Nat)) : ∀ s : State, (s.sets b l).cans = s.cans := by
  induction l with
  | nil => intro s; rfl
  | cons p t ih => intro s; exact (ih (s.set b p.1 p.2)).trans rfl
@[simp] theorem State.sets_pkt (b : Nat) (l : List (Fld × Nat)) : ∀ s : State, (s.sets b l).pkt = s.pkt := by
  induction l with
  | nil => intro s; rfl
  | cons p t ih => intro s; exact (ih (s.set b p.1 p.2)).trans rfl
@[simp] theorem State.sets_sec (b : Nat) (l : List (Fld × Nat)) : ∀ s : State, (s.sets b l).sec = s.sec := by
  induction l with
  | nil => intro s; rfl
  | cons p t ih => intro s; exact (ih (s.set b p.1 p.2)).trans rfl
@[simp] theorem State.sets_pcie (b : Nat) (l : List (Fld × Nat)) : ∀ s : State, (s.sets b l).pcie = s.pcie := by
  induction l with
  | nil => intro s; rfl
  | cons p t ih => intro s; exact (ih (s.set b p.1 p.2)).trans rfl
@[simp] theorem State.sets_yx (b : Nat) (l : List (Fld × Nat)) : ∀ s : State, (s.sets b l).yx = s.yx := by
  induction l with
  | nil => intro s; rfl
  | cons p t ih => intro s; exact (ih (s.set b p.1 p.2)).trans rfl
@[simp] theorem State.sets_dma (b : Nat) (l : List (Fld × Nat)) : ∀ s : State, (s.sets b l).dma = s.dma := by
  induction l with
  | nil => intro s; rfl
  | cons p t ih => intro s; exact (ih (s.set b p.1 p.2)).trans rfl
@[simp] theorem State.sets_scrub (b : Nat) (l : List (Fld × Nat)) : ∀ s : State, (s.sets b l).scrub = s.scrub := by
  induction l with
  | nil => intro s; rfl
  | cons p t ih => intro s; exact (ih (s.set b p.1 p.2)).trans rfl
@[simp] theorem State.sets_free (b : Nat) (l : List (Fld × Nat)) : ∀ s : State, (s.sets b l).free = s.free := by
  induction l with
  | nil => intro s; rfl
  | cons p t ih => intro s; exact (ih (s.set b p.1 p.2)).trans rfl

end Sys2Proof.Machine
end

