-- ==== Sys2Proof/Laws/Ops.lean ====
section
/-! SUPPORT. What the operations on register fields, memory and events do, said once. -/

set_option Elab.async false

namespace Sys2Proof

/-! ### Association lists -/

theorem assocDel_sublist {α : Type} (k : Nat) (l : List (Nat × α)) : (assocDel k l).Sublist l := List.filter_sublist

theorem assocSet_mem {α : Type} (k : Nat) (v : α) (l : List (Nat × α)) (p : Nat × α) (h : p ∈ assocSet k v l) :
    p = (k, v) ∨ p ∈ l := by
  induction l with
  | nil => simp [assocSet] at h; exact .inl h
  | cons c t ih =>
    obtain ⟨j, w⟩ := c
    rw [assocSet] at h
    split at h
    · simpa using h
    · split at h
      · rcases List.mem_cons.1 h with h | h
        · exact .inl h
        · exact .inr (List.mem_cons_of_mem _ h)
      · rcases List.mem_cons.1 h with h | h
        · exact .inr (by simp [h])
        · rcases ih h with h | h
          · exact .inl h
          · exact .inr (List.mem_cons_of_mem _ h)

theorem assocSet_rising {α : Type} (k : Nat) (v : α) (l : List (Nat × α)) (h : l.Pairwise (fun a b => a.1 < b.1)) :
    (assocSet k v l).Pairwise (fun a b => a.1 < b.1) := by
  induction l with
  | nil => simp [assocSet]
  | cons c t ih =>
    obtain ⟨j, w⟩ := c
    rw [List.pairwise_cons] at h
    rw [assocSet]
    split
    · rename_i hk
      refine List.pairwise_cons.2 ⟨fun p hp => ?_, List.pairwise_cons.2 h⟩
      rcases List.mem_cons.1 hp with hp | hp
      · simpa [hp] using hk
      · exact lt_trans hk (h.1 p hp)
    · split
      · rename_i hk
        subst hk
        exact List.pairwise_cons.2 ⟨fun p hp => h.1 p hp, h.2⟩
      · refine List.pairwise_cons.2 ⟨fun p hp => ?_, ih h.2⟩
        rcases assocSet_mem k v t p hp with hp | hp
        · subst hp; dsimp only at *; omega
        · exact h.1 p hp

end Sys2Proof

namespace Sys2Proof.Machine

/-! ### Register fields -/

theorem cellGet_assocSet (k j v : Nat) (l : List (Nat × Nat)) :
    cellGet j (assocSet k v l) = if j = k then some v else cellGet j l := by
  induction l with
  | nil => simp [assocSet, cellGet]
  | cons c t ih =>
    obtain ⟨i, w⟩ := c
    simp only [assocSet]
    split
    · simp [cellGet]
    · split
      · simp only [cellGet]; subst_vars; split <;> rfl
      · simp only [cellGet, ih]; split
        · rename_i h1; subst h1; rw [if_neg]; omega
        · rfl

theorem cellGet_assocDel (k j : Nat) (l : List (Nat × Nat)) :
    cellGet j (assocDel k l) = if j = k then none else cellGet j l := by
  induction l with
  | nil => simp [assocDel, cellGet]
  | cons c t ih =>
    obtain ⟨i, w⟩ := c
    simp only [assocDel, List.filter_cons] at ih ⊢
    by_cases h : i = k
    · subst h; simp only [bne_self_eq_false, Bool.false_eq_true, if_false, ih, cellGet]; split <;> rfl
    · simp only [bne_iff_ne, ne_eq, h, not_false_eq_true, if_true, cellGet, ih]
      split
      · rename_i h1; subst h1; rw [if_neg h]
      · rfl

/-- A field reads what was written to it, within its width. -/
@[simp] theorem State.get_set_same (s : State) (b v : Nat) (f : Fld) : (s.set b f v).get b f = v % 2 ^ f.w := by
  unfold State.get State.set
  dsimp only
  split
  · rename_i h; rw [cellGet_assocDel]; simpa using h.symm
  · rw [cellGet_assocSet]; simp

/-- A write of one field leaves every field with another key alone. -/
theorem State.get_set_ne (s : State) (b c v : Nat) (f g : Fld) (h : fldKey g c ≠ fldKey f b) :
    (s.set b f v).get c g = s.get c g := by
  unfold State.get State.set
  dsimp only
  split
  · rw [cellGet_assocDel, if_neg h]
  · rw [cellGet_assocSet, if_neg h]

/-- Two fields of one register block are kept apart by their offsets. -/
theorem State.get_set_off (s : State) (b v : Nat) (f g : Fld) (h : g.off * 64 + g.lo ≠ f.off * 64 + f.lo) :
    (s.set b f v).get b g = s.get b g := by
  apply State.get_set_ne; unfold fldKey; omega

/-- A field's value depends on the register cells alone. -/
theorem State.get_congr_cells (s t : State) (h : t.cells = s.cells) (b : Nat) (f : Fld) : t.get b f = s.get b f := by
  unfold State.get; rw [h]

@[simp] theorem State.get_toggle (s : State) (e b : Nat) (f : Fld) : (s.toggle e).get b f = s.get b f := by simp [State.get]
@[simp] theorem State.get_answer (s : State) (h : Done) (v b : Nat) (f : Fld) : (s.answer h v).get b f = s.get b f := rfl
@[simp] theorem State.get_store (s : State) (a : Nat) (l : List Byte) (b : Nat) (f : Fld) : (s.store a l).get b f = s.get b f := rfl
@[simp] theorem State.get_fresh (s : State) (b : Nat) (f : Fld) : s.fresh.get b f = s.get b f := rfl
@[simp] theorem State.get_drawn (s : State) (n b : Nat) (f : Fld) : (s.drawn n).get b f = s.get b f := rfl
@[simp] theorem State.get_msix (s : State) (v b : Nat) (f : Fld) : (s.msix v).get b f = s.get b f := by simp [State.get]

/-- An event bit reads 1 once its event has happened. -/
theorem State.get_event_same (s : State) (e b : Nat) (f : Fld) (h : f.w ≠ 0) : (s.event e b f).get b f = 1 := by
  unfold State.event
  split
  · assumption
  · rw [State.get_toggle, State.get_set_same]
    exact Nat.mod_eq_of_lt (Nat.one_lt_two_pow h)

theorem State.get_event_ne (s : State) (e b c : Nat) (f g : Fld) (h : fldKey g c ≠ fldKey f b) :
    (s.event e b f).get c g = s.get c g := by
  unfold State.event
  split
  · rfl
  · rw [State.get_toggle, State.get_set_ne _ _ _ _ _ _ h]

/-- A record request touches no register but the two that count and show a loss at the recorder. -/
theorem State.get_request_ne (s : State) (r : RecReq) (c : Nat) (g : Fld) (h1 : fldKey g c ≠ fldKey Rg.RC_LOSS.INPUT bRc)
    (h2 : fldKey g c ≠ fldKey Rg.RC_EVT.LOSS bRc) : (s.request r).get c g = s.get c g := by
  have h : ∀ t u : State, t.cells = u.cells → t.get c g = u.get c g := fun t u e => by unfold State.get; rw [e]
  unfold State.request
  (repeat' split)
  · refine (h _ ((s.count bRc Rg.RC_LOSS.INPUT 1).event 17 bRc Rg.RC_EVT.LOSS) rfl).trans ?_
    rw [State.get_event_ne _ _ _ _ _ _ h2]
    exact State.get_set_ne _ _ _ _ _ _ h1
  · exact h _ _ rfl
  · exact h _ _ rfl
  · rfl

/-! ### Memory -/

theorem memGet_memPut (a x : Nat) (v : Byte) (m : List Host.Cell) : memGet x (memPut a v m) = if x = a then v else memGet x m := by
  induction m with
  | nil => simp [memPut, memGet]
  | cons c t ih =>
    obtain ⟨b, w⟩ := c
    simp only [memPut]
    split
    · simp [memGet]
    · split
      · simp only [memGet]; subst_vars; split <;> rfl
      · simp only [memGet, ih]; split
        · rename_i h1; subst h1; rw [if_neg]; omega
        · rfl

theorem memGet_filter (a x : Nat) (m : List Host.Cell) :
    memGet x (m.filter (fun c => c.1 != a)) = if x = a then 0 else memGet x m := by
  induction m with
  | nil => simp [memGet]
  | cons c t ih =>
    obtain ⟨b, w⟩ := c
    simp only [List.filter_cons]
    by_cases h : b = a
    · subst h; simp only [bne_self_eq_false, Bool.false_eq_true, if_false, ih, memGet]; split <;> rfl
    · simp only [bne_iff_ne, ne_eq, h, not_false_eq_true, if_true, memGet, ih]
      split
      · rename_i h1; subst h1; rw [if_neg h]
      · rfl

/-- A byte written reads back, and every other byte is as before. -/
theorem memGet_memSet (a x : Nat) (v : Byte) (m : List Host.Cell) : memGet x (memSet a v m) = if x = a then v else memGet x m := by
  unfold memSet
  split
  · rename_i h; rw [memGet_filter, h]
  · exact memGet_memPut a x v m

/-- Bytes outside the ones written are as before. -/
theorem memGet_memPutAll_out (x : Nat) (l : List Byte) : ∀ (a : Nat) (m : List Host.Cell), (x < a ∨ a + l.length ≤ x) →
    memGet x (memPutAll a l m) = memGet x m := by
  induction l with
  | nil => intro a m _; rfl
  | cons b t ih =>
    intro a m h
    simp only [List.length_cons] at h
    rw [memPutAll, ih _ _ (by omega), memGet_memSet, if_neg (by omega)]

/-- The bytes written read back. -/
theorem memGet_memPutAll_in (l : List Byte) : ∀ (a i : Nat) (m : List Host.Cell) (h : i < l.length),
    memGet (a + i) (memPutAll a l m) = l[i] := by
  induction l with
  | nil => intro a i m h; simp at h
  | cons b t ih =>
    intro a i m h
    rw [memPutAll]
    cases i with
    | zero => rw [Nat.add_zero, memGet_memPutAll_out _ _ _ _ (by omega), memGet_memSet]; simp
    | succ j =>
      have h' : j < t.length := by simpa using h
      have := ih (a + 1) j (memSet a b m) h'
      rw [show a + (j + 1) = a + 1 + j by omega, this]; simp

theorem memPut_mem (a : Nat) (v : Byte) (m : List Host.Cell) (p : Host.Cell) (h : p ∈ memPut a v m) : p = (a, v) ∨ p ∈ m := by
  induction m with
  | nil => simp [memPut] at h; exact .inl h
  | cons c t ih =>
    obtain ⟨j, w⟩ := c
    rw [memPut] at h
    split at h
    · simpa using h
    · split at h
      · rcases List.mem_cons.1 h with h | h
        · exact .inl h
        · exact .inr (List.mem_cons_of_mem _ h)
      · rcases List.mem_cons.1 h with h | h
        · exact .inr (by simp [h])
        · rcases ih h with h | h
          · exact .inl h
          · exact .inr (List.mem_cons_of_mem _ h)

theorem memPut_rising (a : Nat) (v : Byte) (m : List Host.Cell) (h : m.Pairwise (fun a b => a.1 < b.1)) :
    (memPut a v m).Pairwise (fun a b => a.1 < b.1) := by
  induction m with
  | nil => simp [memPut]
  | cons c t ih =>
    obtain ⟨j, w⟩ := c
    rw [List.pairwise_cons] at h
    rw [memPut]
    split
    · rename_i hk
      refine List.pairwise_cons.2 ⟨fun p hp => ?_, List.pairwise_cons.2 h⟩
      rcases List.mem_cons.1 hp with hp | hp
      · simpa [hp] using hk
      · exact lt_trans hk (h.1 p hp)
    · split
      · rename_i hk
        subst hk
        exact List.pairwise_cons.2 ⟨fun p hp => h.1 p hp, h.2⟩
      · refine List.pairwise_cons.2 ⟨fun p hp => ?_, ih h.2⟩
        rcases memPut_mem a v t p hp with hp | hp
        · subst hp; dsimp only at *; omega
        · exact h.1 p hp

/-- Removing entries keeps the canonical form of memory. -/
theorem Memory.wf_filter (q : Host.Cell → Bool) (m : List Host.Cell) (h : Memory.wf m) : Memory.wf (m.filter q) :=
  ⟨h.1.sublist List.filter_sublist, fun c hc => h.2 c (List.mem_filter.1 hc).1⟩

/-- Writing a byte keeps the canonical form of memory. -/
theorem Memory.wf_memSet (a : Nat) (v : Byte) (m : List Host.Cell) (h : Memory.wf m) : Memory.wf (memSet a v m) := by
  unfold memSet
  split
  · exact Memory.wf_filter _ m h
  · rename_i hv
    refine ⟨memPut_rising a v m h.1, fun c hc => ?_⟩
    rcases memPut_mem a v m c hc with hc | hc
    · subst hc; exact hv
    · exact h.2 c hc

/-- Writing bytes keeps the canonical form of memory. -/
theorem Memory.wf_memPutAll (l : List Byte) : ∀ (a : Nat) (m : List Host.Cell), Memory.wf m → Memory.wf (memPutAll a l m) := by
  induction l with
  | nil => intro a m h; exact h
  | cons b t ih => intro a m h; exact ih _ _ (Memory.wf_memSet a b m h)

theorem Memory.wf_store (s : State) (a : Nat) (l : List Byte) (h : Memory.wf s.mem) : Memory.wf (s.store a l).mem :=
  Memory.wf_memPutAll l a s.mem h

/-- The bytes a store does not cover read as before. -/
theorem State.byte_store_out (s : State) (a x : Nat) (l : List Byte) (h : x < a ∨ a + l.length ≤ x) :
    (s.store a l).byte x = s.byte x := memGet_memPutAll_out x l a s.mem h

/-- The bytes a store covers read as stored. -/
theorem State.byte_store_in (s : State) (a i : Nat) (l : List Byte) (h : i < l.length) : (s.store a l).byte (a + i) = l[i] :=
  memGet_memPutAll_in l a i s.mem h

/-! ### Writes of action registers -/

/-- A write of an action register by a master that has the right, in a powered domain: the action, then an answer without error. -/
theorem State.actWrite_ok (s : State) (m : Master) (ok : Bool) (d : Dom) (a : Nat) (f : State → State) (h : ok = true)
    (hd : s.on d = true) : s.actWrite m ok d a f = (f s).answer .ok 0 := by
  simp [State.actWrite, h, hd]

/-- The same for a lane that is enabled. -/
theorem State.tileWrite_ok (s : State) (m : Master) (pos lane off : Nat) (f : State → State) (h : mayWriteService s m = true)
    (hl : s.laneOn pos lane = true) : s.tileWrite m pos lane off f = (f s).answer .ok 0 := by
  have h1 : lane < s.lanesAt pos ∧ s.on (domOf (islandOf pos)) = true := by simpa [State.laneOn] using hl
  rw [State.tileWrite, State.actWrite_ok _ _ _ _ _ _ h h1.2, if_pos h1.1]

end Sys2Proof.Machine
end

