-- ==== Sys2Proof/Laws/Frame.lean ====
section
/-! SUPPORT. How the frame of a command is put together from the frames of the operations it is made of. -/

namespace Sys2Proof.Machine

theorem RegsKept.refl (ws : List (Nat × Nat)) (s : State) : RegsKept ws s s := fun _ _ _ _ => rfl

theorem RegsKept.trans {ws : List (Nat × Nat)} {s t u : State} (h : RegsKept ws s t) (g : RegsKept ws t u) : RegsKept ws s u :=
  fun b f hl hw => (g b f hl hw).trans (h b f hl hw)

/-- Operations that leave the register cells alone. -/
theorem RegsKept.cells {ws : List (Nat × Nat)} {s t u : State} (h : RegsKept ws s t) (e : u.cells = t.cells) : RegsKept ws s u :=
  fun b f hl hw => (State.get_congr_cells t u e b f).trans (h b f hl hw)

/-- A field written inside one of the windows. -/
theorem RegsKept.set {ws : List (Nat × Nat)} {s t : State} (h : RegsKept ws s t) (b v : Nat) (f : Fld) (w : Nat × Nat) (hm : w ∈ ws)
    (h1 : w.1 ≤ (b + f.off) % 2 ^ 48) (h2 : (b + f.off) % 2 ^ 48 < w.2) (hl : f.lo < 64) : RegsKept ws s (t.set b f v) := by
  intro c g hg hw
  rw [State.get_set_ne _ _ _ _ _ _ ?_, h c g hg hw]
  intro hk
  have : c + g.off = b + f.off := by unfold fldKey at hk; omega
  exact hw w hm ⟨by rw [this]; exact h1, by rw [this]; exact h2⟩

/-- An event bit inside one of the windows. -/
theorem RegsKept.event {ws : List (Nat × Nat)} {s t : State} (h : RegsKept ws s t) (e b : Nat) (f : Fld) (w : Nat × Nat)
    (hm : w ∈ ws) (h1 : w.1 ≤ (b + f.off) % 2 ^ 48) (h2 : (b + f.off) % 2 ^ 48 < w.2) (hl : f.lo < 64) :
    RegsKept ws s (t.event e b f) := by
  unfold State.event
  split
  · exact h
  · exact (h.set b 1 f w hm h1 h2 hl).cells (by simp)

/-- A record requested, where the recorder is one of the windows. -/
theorem RegsKept.request {ws : List (Nat × Nat)} {s t : State} (h : RegsKept ws s t) (r : RecReq) (hm : wRc ∈ ws) :
    RegsKept ws s (t.request r) := by
  unfold State.request
  (repeat' split)
  · refine RegsKept.cells (RegsKept.event (RegsKept.set h bRc _ Rg.RC_LOSS.INPUT wRc hm ?_ ?_ ?_) 17 bRc Rg.RC_EVT.LOSS wRc hm
      ?_ ?_ ?_) rfl <;> decide
  · exact h.cells rfl
  · exact h.cells rfl
  · exact h

/-- Memory that is the same list keeps every byte. -/
theorem BytesKept.of_mem {s t : State} (h : t.mem = s.mem) : BytesKept s t := fun a => by unfold State.byte; rw [h]

end Sys2Proof.Machine
end

