-- ==== Sys2Proof/Tests/World.lean ====
section
/-! SUPPORT. A state for tests: every domain powered, every tile instanced with all its lanes, the recorder and the time core
running, SERVICE mode. -/

namespace Sys2Proof.Tests

open Sys2Proof Sys2Proof.Machine

/-- Fields set, each as base, field and value. -/
def put (s : State) (l : List (Nat × Fld × Nat)) : State := l.foldl (fun t p => t.set p.1 p.2.1 p.2.2) s

/-- The image of the test state: every fitted tile with all its lanes, every pin function, no links, no areas. -/
def fullImg : Img :=
  ⟨allPositions.filterMap (fun p => (kindAt p).map (fun k => (p, tileLanes k))), [], [], 2 ^ 64 - 1, 2 ^ 64 - 1, 0, 0,
    List.replicate 64 (3, true)⟩

/-- The test state. -/
def world : State :=
  put { State.reset with
    power := ⟨true, true, true, true, true, true, true, [], 0, false, none⟩, img := fullImg,
    log := { State.reset.log with running := true },
    disp := { State.reset.disp with loaded := true } }
    [(bMpc, Rg.MODE_STAT.MODE, 2), (islBase 3, Rg.ISL_STAT.CLK_LOCK, 1)]

/-- The test state with dispatcher entries. -/
def withEntries (l : List Entry) : State := { world with disp := { world.disp with entries := l } }

/-- A link from tile 40 to tile 44, with all its credits. -/
def testLink : Link := ⟨⟨1, 40, 44, 0, 0, false, false, 13, 0, 0xFF⟩, 14, 0, 0, [], 0, [], none, false⟩

/-- A packet of one data word. -/
def goodPkt : QPkt := ⟨lengthWord ⟨0x51, 0, 0, 0, false, false⟩ 0 40 [7], [7], false⟩

/-- The link with a packet in its queue. -/
def fullLink : Link := { testLink with queue := [goodPkt], credits := 12 }

/-- The test state with one link. -/
def withLink (l : Link) : State := { world with links := [l] }

/-- A start that finds nothing wrong and nothing beside the device's own state. -/
def noEnv : BootEnv := ⟨[], [], true, []⟩

/-- A Yupex request of the PCIe transport with an operation and a payload. -/
def yxReq (op : Nat) (p : List Byte) : YxReq :=
  ⟨none, [0x59, 0x58, 1, BitVec.ofNat 8 op, 0, 0] ++ leBytes 2 p.length ++ leBytes 4 1 ++ List.replicate 20 0 ++ p⟩

/-- The test state serving a request. -/
def serving (op : Nat) (p : List Byte) : State := { world with yx := { world.yx with serving := some (yxReq op p) } }

/-- A boot-authentication key: 4, x and y. -/
def testKey : List Byte := [
  4, 251, 249, 96, 149, 145, 94, 181, 135, 57, 15, 133, 14, 201, 91, 53, 246, 24, 174, 18, 28, 114, 167, 8,
  8, 173, 143, 159, 76, 38, 27, 96, 43, 99, 84, 23, 67, 227, 149, 247, 199, 120, 229, 43, 178, 140, 24, 220,
  131, 1, 106, 111, 243, 247, 44, 147, 104, 50, 106, 213, 10, 59, 209, 72, 165, 60, 210, 33, 59, 180, 128, 228,
  115, 10, 208, 25, 219, 135, 174, 16, 9, 149, 236, 101, 223, 1, 30, 25, 129, 26, 21, 220, 157, 223, 201, 171,
  60]

/-- Its signature R ‖ S of the header below, up to offset 0xF80. -/
def testSig : List Byte := [
  61, 62, 116, 212, 195, 130, 78, 27, 179, 247, 144, 162, 145, 214, 70, 147, 177, 102, 25, 9, 104, 136, 125, 20,
  232, 233, 2, 72, 168, 105, 181, 251, 121, 206, 139, 186, 9, 21, 225, 49, 186, 28, 85, 48, 171, 152, 78, 9,
  45, 76, 178, 43, 34, 122, 121, 205, 113, 98, 228, 253, 116, 139, 178, 99, 1, 69, 53, 224, 180, 92, 174, 36,
  39, 195, 82, 78, 231, 90, 18, 29, 136, 44, 188, 117, 176, 238, 169, 109, 253, 92, 138, 136, 217, 115, 254, 18]

/-- The first 60 bytes of an update header of an image of one block, of type 1. -/
def headStart : List Byte :=
  leBytes 4 0x48435841 ++ leBytes 2 0x0100 ++ leBytes 2 0x1000 ++ leBytes 4 0x7740 ++ [1] ++ List.replicate 36 0 ++ [255] ++ List.replicate 6 0 ++
  leBytes 4 4096

/-- An update header of such an image with nothing wrong in it. -/
def goodHead : List Byte := headStart ++ (List.replicate 3908 0 ++ (testSig ++ List.replicate 32 0))

/-- The test state in FIELD with the key of this header fused, serving UPD_HEADER with it. -/
def headWorld : State :=
  put { serving 0x41 ([5, 0] ++ goodHead) with
    upd := { world.upd with banks := [Bank.empty, Bank.empty], sess := some ⟨5, 0, true, 0⟩ },
    sec := { world.sec with keyPage := [testKey, [], []], hashes := [sha384 testKey, [], []] } } [(bSec, Rg.SEC_STAT.LC, 1)]

theorem headWorld_signed : headWorld.headSigned 1 goodHead = true := by decide +kernel

theorem zeroIn_mid (p q : List Byte) (n a b : Nat) (h : p.length ≤ a) (k : b ≤ p.length + n) :
    zeroIn (p ++ (List.replicate n 0 ++ q)) a b = true := by
  unfold zeroIn
  by_cases c : b ≤ a
  · rw [Nat.sub_eq_zero_of_le c, List.take_zero, List.all_nil]
  rw [List.drop_append, List.drop_of_length_le h, List.nil_append, List.drop_append_of_le_length (by rw [List.length_replicate]; omega),
    List.drop_replicate, List.take_append_of_le_length (by rw [List.length_replicate]; omega), List.take_replicate,
    List.all_replicate]
  simp

theorem headStart_len : headStart.length = 60 := by decide
theorem testSig_len : testSig.length = 96 := by decide

theorem goodHead_len : goodHead.length = 4096 := by
  unfold goodHead
  rw [List.length_append, List.length_append, List.length_append, List.length_replicate, List.length_replicate, headStart_len, testSig_len]

theorem yxReq_payload (op : Nat) (p : List Byte) : yxPayload (yxReq op p).frame = p := by
  simp [yxPayload, yxReq, leBytes]

theorem headWorld_status : headWorld.headerStatus (headWorld.upd.bank 0)
    (padTo 4096 ((yxPayload (yxReq 0x41 ([5, 0] ++ goodHead)).frame).drop 2)) = 0 := by
  have e : padTo 4096 ((yxPayload (yxReq 0x41 ([5, 0] ++ goodHead)).frame).drop 2) = goodHead := by
    rw [yxReq_payload]
    simp [padTo, goodHead_len, List.take_of_length_le]
  rw [e]
  unfold State.headerStatus
  have c : compatBad 0xFF00 (headWorld.get bDdr Rg.DDR_CFG.SIZE) = false := by
    have d : headWorld.get bDdr Rg.DDR_CFG.SIZE = 0 := by decide +kernel
    have lt : Config.stepping.toNat < 256 := Config.stepping.isLt
    rw [d]
    simp only [compatBad, bits, Bool.or_eq_false_iff]
    refine ⟨⟨⟨⟨?_, ?_⟩, ?_⟩, ?_⟩, ?_⟩ <;> first | decide | exact decide_eq_false (by norm_num; omega)
  have l : leAt goodHead 0x30 8 = 0xFF00 := by decide +kernel
  have k : hdrType goodHead = 1 := by decide +kernel
  have g := headWorld_signed
  have z : zeroIn goodHead 0x70 0xF80 = true :=
    zeroIn_mid _ _ _ _ _ (by rw [headStart_len]; decide) (by rw [headStart_len])
  have y : zeroIn goodHead 0xFE0 0x1000 = true := by
    have : goodHead = (headStart ++ (List.replicate 3908 0 ++ testSig)) ++ (List.replicate 32 0 ++ []) := by
      unfold goodHead
      rw [List.append_nil, List.append_assoc, List.append_assoc]
    have n : (headStart ++ (List.replicate 3908 (0 : Byte) ++ testSig)).length = 4064 := by
      rw [List.length_append, List.length_append, List.length_replicate, headStart_len, testSig_len]
    rw [this]
    exact zeroIn_mid _ _ _ _ _ (by rw [n]) (by rw [n])
  dsimp only
  rw [l, c, k, g, z, y]
  decide +kernel

/-- The hash of a block of zeros. -/
def zeroHash : List Byte := [
  192, 229, 154, 62, 63, 251, 211, 181, 199, 84, 40, 251, 54, 67, 47, 172, 171, 199, 69, 148, 66, 150, 255, 81,
  95, 115, 124, 79, 239, 78, 252, 100, 88, 104, 9, 247, 161, 111, 86, 53, 74, 30, 174, 207, 42, 168, 215, 116]

/-- The header of such an image whose hash is that of a block of zeros. -/
def finalHead : List Byte := goodHead.take 0x40 ++ (zeroHash ++ List.replicate 3984 0)

/-- The test state serving UPD_FINALIZE for a bank that holds this image beside a FINAL bank. -/
def finalWorld : State :=
  { serving 0x43 [5, 0] with upd := { world.upd with
      banks := [{ Bank.empty with st := 1, heads := [(1, finalHead)], blocks := [(1, 0, List.replicate 4096 0)] },
                { Bank.empty with st := 2 }], sess := some ⟨5, 0, true, 0⟩ } }

theorem zeroBlock_words : (sha2 sha384Rots shaK sha384Init (List.replicate 4096 0)).take 6 =
    [13899685417101022133, 14363150171003629484, 12377938603925765969,
      6877977738684071012, 6370352632085567029, 5340898412905158516] := by decide +kernel

theorem zeroBlock_hash : sha384 (List.replicate 4096 0) = zeroHash := by unfold sha384; rw [zeroBlock_words]; decide +kernel

theorem finalHead_hash : (finalHead.drop 0x40).take 48 = zeroHash := by decide +kernel

theorem finalWorld_hash : (finalWorld.upd.bank 0).heads.all (fun y => hashOk y.2 ((finalWorld.upd.bank 0).image y.1 y.2)) = true := by
  have h : (finalWorld.upd.bank 0).heads = [(1, finalHead)] := by rfl
  have g : (finalWorld.upd.bank 0).image 1 finalHead = List.replicate 4096 0 := by
    have : blockOffs finalHead = [0] := by
      have e : hdrLen finalHead = 4096 := by decide +kernel
      unfold blockOffs; rw [e]; rfl
    have b : finalWorld.upd.bank 0 = { Bank.empty with st := 1, heads := [(1, finalHead)], blocks := [(1, 0, List.replicate 4096 0)] } := rfl
    unfold Bank.image
    rw [this, b]
    simp only [Bank.block, List.map_cons, List.map_nil, List.find?_cons, List.flatten_cons, List.flatten_nil, List.append_nil,
      beq_self_eq_true, Bool.and_self, Option.map_some, Option.getD_some]
  rw [h, List.all_cons, List.all_nil, Bool.and_true]
  unfold hashOk
  rw [g, finalHead_hash, zeroBlock_hash]
  exact beq_self_eq_true _

/-- The test state with a link from a tracking tile to observables tile 0, an item handed over, the tile's record and fields. -/
def obsWorld (rx : List (Nat × QPkt)) (o : ObsTile) (l : List (Nat × Fld × Nat)) : State :=
  put { withLink { testLink with rc := ⟨1, 2, 22, 0, 0, false, false, 13, 0, 0xFF⟩ } with rx := rx, obs := [o, ObsTile.off] } l

/-- A state with a usable key in slot `n`, delivered to every engine for every use. -/
def keyed (w : State) (n : Nat) : State :=
  put { w with sec := { w.sec with slots := [⟨n, ⟨List.replicate 32 7, List.replicate 32 1, 0⟩, none⟩], roots := [some [], some [], some []] } }
    [(bSec, Rg.SEC_STAT.LC, 1), (ksBase n, Rg.KS_ATTR.STATE, 1), (ksBase n, Rg.KS_ATTR.DEST, 0x7FF), (ksBase n, Rg.KS_ATTR.USAGE, 0xFF)]

/-- The key of such a slot, copied to a lane. -/
def keyedCopy (w : State) (pos lane n : Nat) : State := (keyed w n).deliverKey pos lane n

/-- The test state with ports A and B as the uplink pair: both links up, roles as given. -/
def pairWorld (a b : Nat) : State :=
  put { world with img := { fullImg with io0 := 2 ^ 64 - 1 - 2 ^ 33 - 2 ^ 35 } }
    [(ethBase 0, Rg.ETH_CFG.EN, 1), (ethBase 1, Rg.ETH_CFG.EN, 1), (ethBase 0, Rg.ETH_CFG.PAIR_EN, 1), (ethBase 0, Rg.ETH_STAT.LINK, 1),
     (ethBase 1, Rg.ETH_STAT.LINK, 1), (ethBase 0, Rg.ETH_STAT.UP_ROLE, a), (ethBase 1, Rg.ETH_STAT.UP_ROLE, b),
     (ethBase 0, Rg.UP_CFG.HB_EN, 1)]

/-- A frame with an IPv4 UDP datagram without a checksum. -/
def udpFrame (sp dp : Nat) (pl : List Byte) : List Byte :=
  let h := be 1 0x45 ++ be 1 0 ++ be 2 (28 + pl.length) ++ be 2 0 ++ be 2 0 ++ be 1 64 ++ be 1 17 ++ be 2 0 ++ be 4 0x0A000001 ++ be 4 0x0A000002
  List.replicate 12 0 ++ be 2 0x0800 ++ overlay h 10 (be 2 (inetSum h)) ++ be 2 sp ++ be 2 dp ++ be 2 (8 + pl.length) ++ be 2 0 ++ pl

/-- A state with one link with a ring of four slots of 8 KiB, its slot 0 holding bytes, and an item on it handed over. -/
def ringWorld (src dst : Nat) (bytes : List Byte) (w : List Nat) (typ : Nat) : State :=
  { ({ withLink { testLink with rc := ⟨1, src, dst, 0, 3, false, false, 13, 0, 5⟩, slots := 4 } with
       img := { fullImg with areas := [⟨0, 5, 0, 0, 0, 32768, 8192, 4⟩] } }.memWrite 0x10000000 bytes).1 with
    rx := [(1, ⟨typ * 256, w, false⟩)] }

/-- A receive object of identifier 0x100. -/
def rxObj : CanObj := ⟨0x100, false, false, false, 8, false, false, false, false, false, none, List.replicate 64 0, none, 0⟩
/-- A transmit object of identifier 0x101. -/
def txObj : CanObj := ⟨0x101, false, true, true, 2, false, false, false, false, false, none, List.replicate 64 5, none, 0⟩
/-- The test state with CAN controller 1 active, its record and fields. -/
def canWorld (c : Can) (l : List (Nat × Fld × Nat)) : State :=
  put { world with cans := listSet world.cans 1 c } ([(cnBase 1, Rg.CN_CTRL.EN, 1), (cnBase 1, Rg.CN_STAT.STATE, 2)] ++ l)

/-- The tag of a release of a stop numbered 1 in epoch 0 with challenge 0, under the test key. -/
def relPay : List Byte := [199, 74, 246, 0, 74, 174, 169, 36, 186, 55, 0, 153, 230, 252, 40, 137]

/-- Signatures R ‖ S under the test key: 2 of a token for level 2 in FIELD, else of the life-cycle bytes of a target; serial number 0
and challenge 99. -/
def fusedSig (i : Nat) : List Byte :=
  let v := match i with
    | 2 => 0x66c4345d163d4a2801de158663c915c3349b524c443a7562dce86082463cd2682d25cc0b225636691b10850a85499cd
    | 3 => 0x588f59794f07ec4b6e608bb6718dcf6e74f8b04e559136e671881810540ac56524a310ec1a2369f7a495f323b98bd256
    | 4 => 0x39d1a204f4249cee74e156029532334634ad6fcfbe4c9620ea1d655b1c8ce0dbb36f81ca663288d6e49714fd8d269f49
    | _ => 0xf97589e3228ec444740cee9f671914e8a2a83260e7f86de260ff8f35efc3266660f56975d373c116e73c9bfc52bfd123
  testSig.take 48 ++ be 48 v

/-- A state with the test key fused as every key, the challenge 99 and a command waiting in a channel. -/
def fused (w : State) (ch req lc : Nat) : State :=
  put { w with sec := { w.sec with keyPage := List.replicate 3 testKey, hashes := List.replicate 3 (sha384 testKey) } }
    [(gmBase ch, Rg.GM_REQ.DATA, req), (gmBase ch, Rg.GM_STAT.BUSY, 1), (bSec, Rg.SEC_STAT.LC, lc), (bSec, Rg.SEC_CHAL.CHAL, 99)]

end Sys2Proof.Tests
end

