-- ==== Sys2Proof/Tests/Slice0.lean ====
section
/-! SUPPORT. Small tests: each check of WellFormed refuses an ill-formed command, no word spells a command, and single steps whose
results are worked out by hand from the spec. -/

set_option Elab.async false

open Sys2Proof Sys2Proof.Machine

namespace Sys2Proof.Tests

/-! ### Well-formed and ill-formed commands -/

theorem test_wf_submit : (Instr.submit .mp 5).wf = true := by decide
theorem test_wf_below : (Instr.submit .mp 6).wf = false := by decide
theorem test_wf_isBits : (Instr.release .mp 0 (2 ^ 22)).wf = false := by decide
theorem test_wf_isBitsOpt : (Instr.cryJob 28 0 (some (2 ^ 22))).wf = false := by decide +kernel
theorem test_wf_allBits : (Instr.dispatch [2 ^ 16]).wf = false := by decide
theorem test_wf_isAddr : (Instr.lowWordRead .mp (2 ^ 40)).wf = false := by decide
theorem test_wf_isIsland : (Instr.modeAck 44).wf = false := by decide
theorem test_wf_allIslands : (Instr.modeCommitInstant [3, 44]).wf = false := by decide
theorem test_wf_chanOf : (Instr.loopUpdate 64).wf = false := by decide +kernel
theorem test_wf_instOf : (Instr.originChange 4).wf = false := by decide +kernel
theorem test_wf_isPos : (Instr.cryJobDone 29 0).wf = false := by decide +kernel
theorem test_wf_isMaster : (Instr.swStop (.tile 29)).wf = false := by decide +kernel
theorem test_wf_isMasterOpt : (Instr.taskPause (some (.tile 29)) 0).wf = false := by decide +kernel
theorem test_wf_isSource : (Instr.sourceValid 6 0).wf = false := by decide
theorem test_wf_isDom : (Instr.dmaSuspend .aon).wf = false := by decide
theorem test_wf_isOp67 : (Instr.badOp .mp 0 5).wf = false := by decide
theorem test_wf_isMemOp : (Instr.busAccess .mp 0 (.read 0)).wf = false := by decide
theorem test_wf_isPktHead : (Instr.packetSend 1 ⟨256, 0, 0, 0, false, false⟩ [0]).wf = false := by decide
theorem test_wf_isData : (Instr.packetSend 1 ⟨0, 0, 0, 0, false, false⟩ (List.replicate 14 0)).wf = false := by decide
theorem test_wf_isUpset : (Instr.packetArrive 1 (some (2 ^ 64, []))).wf = false := by decide
theorem test_wf_isKeyAttr : (Instr.keyGen 0 0 ⟨false, 2 ^ 11, 0, 0, false, false, false⟩ false).wf = false := by decide
theorem test_wf_isSig : (Instr.reroot 0 [1]).wf = false := by decide
theorem test_wf_isSeen : (Instr.wvInputState 0 ⟨0, 0, false, some 4097, 0⟩).wf = false := by decide
theorem test_wf_isKeys : (Instr.provision 0 (List.replicate 17 []) false false).wf = false := by decide
theorem test_wf_isFrame : isFrame (List.replicate 16384 0) = false := by
  unfold isFrame isBits
  rw [List.length_replicate]
  decide
theorem test_wf_isCanData : isCanData (List.replicate 65 0) = false := by decide
theorem test_wf_isId : (Instr.radioPortEnable .mp 0 (List.replicate 65 0)).wf = false := by decide
theorem test_wf_isWords : (Instr.cocoonRefresh [(2 ^ 16, 0)]).wf = false := by decide
theorem test_wf_isUpsets : (Instr.ddrScrubLine [(8, 1)]).wf = false := by decide
theorem test_wf_isTemps : (Instr.tempSample [(3, 1024)]).wf = false := by decide
theorem test_wf_isBins : (Instr.notchDetect 0 [0]).wf = false := by decide
theorem test_wf_isNav : (Instr.measEpoch 0 [] [⟨0, 769, []⟩]).wf = false := by decide +kernel
theorem test_wf_isCells : (Instr.acqDone 0 [] ⟨0, [(1025, 0, 0)]⟩ 0 0).wf = false := by decide +kernel
theorem test_wf_isAzEl : (Instr.navItem 0 (some (36000, 0))).wf = false := by decide +kernel
theorem test_wf_isMeas : (Instr.measEpoch 0 [⟨32, 0, 0, 0, 0⟩] []).wf = false := by decide +kernel
theorem test_wf_isMeasures : (Instr.healthPass [⟨3, [1, 2, 3], 0, 0, 0⟩]).wf = false := by decide
theorem test_wf_isSol : (Instr.correctionEncode 0 ⟨256, 0, 0, 0, 0, 0, 0, 0, 0, 0, 0, 0, 0⟩).wf = false := by decide +kernel
theorem test_wf_isProbe : (Instr.rfPortEnable .mp 0 ⟨[], [], 0, 0⟩).wf = false := by decide
theorem test_wf_isBeat : (Instr.dmaBeatComplete 0 (some (List.replicate 65 0))).wf = false := by decide +kernel
theorem test_wf_isEcho : (Instr.cableResult 0 (.rise (2 ^ 32))).wf = false := by decide
theorem test_wf_isEnv : (Instr.warmReset { noEnv with copyBad := [256] }).wf = false := by decide +kernel
theorem test_wf_isEnvOpt : (Instr.powerOnReset true (some { noEnv with copyBad := [256] })).wf = false := by decide +kernel

/-! ### Words and the queue -/

/-- The table's rows have no bits, so no word spells a command and a word placed leaves the state as it is. -/
theorem test_no_word_spells : decodeTableWord 32 0x1234 = none ∧ State.reset.withFetchWord 32 0x1234 = State.reset := ⟨rfl, rfl⟩
/-- Two commands wait: a step runs the first and leaves the second. -/
theorem test_fifo : (match Sys2Proof.Machine.step { world with pending := [.recordSelect .mp 7, .recordSelect .mp 9] } with
    | .next t => decide (t.get bRc Rg.RC_SEL.SEQ = 7 ∧ t.pending = [.recordSelect .mp 9])
    | _ => false) = true := by decide +kernel

/-! ### Single steps -/

/-- The next state of a command, if it has one. -/
def after (c : Instr) (s : State) : State := match exec c s with | .next t => t | _ => s

/-- R482: the stored value is the standard check value of CRC-32C over "123456789", 0xE3069283, XOR 0xFFFFFFFF. -/
theorem test_crc32c_check : crc32c [0x31, 0x32, 0x33, 0x34, 0x35, 0x36, 0x37, 0x38, 0x39] = 0x1CF96D7C := by decide +kernel
/-- R9, R10: bytes are little-endian in registers and memory. -/
theorem test_little_endian : leBytes 4 0x11223344 = [0x44, 0x33, 0x22, 0x11] ∧ leVal [0x44, 0x33, 0x22, 0x11] = 0x11223344 := by decide
/-- R37: a FREQ_CODE outside 120–240 is ignored and CLK_RANGE is set. -/
theorem test_freq_code_range : (after (.islClkWrite .mp 13 241) world).get (islBase 13) Rg.ISL_EVT.CLK_RANGE = 1 ∧
    (after (.islClkWrite .mp 13 241) world).get (islBase 13) Rg.ISL_CLK.FREQ_CODE = world.get (islBase 13) Rg.ISL_CLK.FREQ_CODE := by
  decide +kernel
/-- R54: index in bits 13–0, generation in bits 21–14. -/
theorem test_handle : Entry.handle ⟨5, 2, 0, 0, 0, 0, 0, false, false, .ready, 0, none, [], none, none, 0, none⟩ = 5 + 2 * 16384 := by decide
/-- R12: the era in bits 63–32 of a stamp. -/
theorem test_stamp : stampOf 3 7 = 3 * 2 ^ 32 + 7 := by decide
/-- R2 and R81: a session's enable does nothing where the tile is not instanced. -/
theorem test_not_instanced : (after (.crySessionEnable .mp 28 0) { world with img := State.reset.img }).get (csBase 28 0) Rg.CS_CFG.EN = 0 := by
  decide +kernel
/-- R65: a port ignores a master that is not its own. -/
theorem test_port_other_master : (after (.take .mp 1) world).disp = world.disp ∧ (after (.take .mp 1) world).resp = ⟨.err, 0⟩ := by
  decide +kernel
/-- R376: a released stop input of one channel asserts the stop. -/
theorem test_stop_input : (after (.stopInputChange 1 true) { world with stop := { world.stop with pins := 9 } }).get bMpc Rg.FS_STAT.LATCHED = 1 := by
  decide +kernel
/-- R516: the check value's cipher byte 0 lies lowest. -/
theorem test_le_first : leVal [1, 2, 3] = 0x030201 := by decide
/-- R537: a bucket without a token suppresses, and the outcome reads SUPPRESSED. -/
theorem test_suppressed : (after .recordRequest { world with log := { world.log with
    reqs := [⟨5, 0x801, 2, true, 255, 4, [], some 3⟩], buckets := [(0x801, 999)] } }).get (rcSw 3) Rg.RC_SW_GO.STATUS = 1 := by
  decide +kernel

end Sys2Proof.Tests
end

