-- ==== Sys2Proof/Tests/Witness00.lean ====
section
/-! SUPPORT. Witnesses: for each clause of a statement a state and operands that meet its hypotheses. -/

set_option Elab.async false

open Sys2Proof Sys2Proof.Machine

namespace Sys2Proof.Tests

theorem witness_IdleStepTakesOneEdge_1 : world.pending = [] ∧ world.timeRuns = true := by decide +kernel

theorem witness_IdleStepTakesOneEdge_2 : State.reset.pending = [] ∧ State.reset.timeRuns = false := by decide +kernel

theorem witness_ResetStateIsAsStated : Rg.DSP_LOWWATER.LW_P.src = .val ∧ Rg.DSP_CTRL.FLEET_RSV.src = .img := by decide

theorem witness_EveryStepKeepsTheStateCanonical : Canonical State.reset ∧ Sys2Proof.Machine.step State.reset = .next State.reset := by
  refine ⟨⟨by decide +kernel, ?_, ?_, ?_, ?_⟩, rfl⟩ <;> exact List.Pairwise.nil

theorem witness_StepTakesOneCommand : ∃ t, Sys2Proof.Machine.step { State.reset with pending := [.flushStart, .flushStart] } = .next t ∧ t.pending = [.flushStart] :=
  ⟨_, rfl, rfl⟩

theorem witness_FusesAreOnlyEverBurned : ∃ t, Sys2Proof.Machine.step { State.reset with pending := [.flushStart] } = .next t := ⟨_, rfl⟩

theorem witness_FlowDataWriteWhileActiveIsIgnored_1 :
    mayDispatcher (withEntries [⟨7, 0, 0, 0, 0, 2, 0, false, false, .inService, 0, none, [], none, none, 0, none⟩] : State) (.mp : Master) 0x38 = true ∧ (withEntries [⟨7, 0, 0, 0, 0, 2, 0, false, false, .inService, 0, none, [], none, none, 0, none⟩] : State).on .mgmt = true ∧
    ((withEntries [⟨7, 0, 0, 0, 0, 2, 0, false, false, .inService, 0, none, [], none, none, 0, none⟩] : State).disp.busyFlow ((withEntries [⟨7, 0, 0, 0, 0, 2, 0, false, false, .inService, 0, none, [], none, none, 0, none⟩] : State).get bDsp Rg.DSP_FLOW_SEL.FLOW) = true ∨ 0 < (withEntries [⟨7, 0, 0, 0, 0, 2, 0, false, false, .inService, 0, none, [], none, none, 0, none⟩] : State).disp.waitingOf ((withEntries [⟨7, 0, 0, 0, 0, 2, 0, false, false, .inService, 0, none, [], none, none, 0, none⟩] : State).get bDsp Rg.DSP_FLOW_SEL.FLOW)) := by decide +kernel

theorem witness_FlowDataWriteWhileActiveIsIgnored_2 :
    (((.mp : Master) = .mp ∨ (.mp : Master) = .gauntlet) ∧ (withEntries [⟨7, 0, 0, 0, 0, 2, 0, false, false, .waiting, 0, none, [], none, none, 0, none⟩, ⟨8, 0, 0, 0, 0, 2, 0, false, false, .ready, 0, none, [], none, none, 0, none⟩] : State).on .mgmt = true) ∧
    ((withEntries [⟨7, 0, 0, 0, 0, 2, 0, false, false, .waiting, 0, none, [], none, none, 0, none⟩, ⟨8, 0, 0, 0, 0, 2, 0, false, false, .ready, 0, none, [], none, none, 0, none⟩] : State).disp.busyFlow ((withEntries [⟨7, 0, 0, 0, 0, 2, 0, false, false, .waiting, 0, none, [], none, none, 0, none⟩, ⟨8, 0, 0, 0, 0, 2, 0, false, false, .ready, 0, none, [], none, none, 0, none⟩] : State).get bDsp Rg.DSP_FLOW_SEL.FLOW) = true ∨ 0 < (withEntries [⟨7, 0, 0, 0, 0, 2, 0, false, false, .waiting, 0, none, [], none, none, 0, none⟩, ⟨8, 0, 0, 0, 0, 2, 0, false, false, .ready, 0, none, [], none, none, 0, none⟩] : State).disp.waitingOf ((withEntries [⟨7, 0, 0, 0, 0, 2, 0, false, false, .waiting, 0, none, [], none, none, 0, none⟩, ⟨8, 0, 0, 0, 0, 2, 0, false, false, .ready, 0, none, [], none, none, 0, none⟩] : State).get bDsp Rg.DSP_FLOW_SEL.FLOW)) := by decide +kernel

theorem witness_TakeAndCompleteAnswerByTheirRule_1 :
    1 < 6 ∧ portAgent 1 = some (.ac1 : Master) ∧ ({ (withEntries [⟨7, 0, 0, 0, 0, 2, 0, false, false, .inService, 0, some 1, [], none, none, 0, none⟩, ⟨8, 0, 0, 1, 0, 5, 0, false, false, .inService, 0, some 1, [], none, none, 0, none⟩]) with disp := { (withEntries [⟨7, 0, 0, 0, 0, 2, 0, false, false, .inService, 0, some 1, [], none, none, 0, none⟩, ⟨8, 0, 0, 1, 0, 5, 0, false, false, .inService, 0, some 1, [], none, none, 0, none⟩]).disp with queues := [[], [7, 8], [], [], [], []] } } : State).on .mgmt = true ∧ ({ (withEntries [⟨7, 0, 0, 0, 0, 2, 0, false, false, .inService, 0, some 1, [], none, none, 0, none⟩, ⟨8, 0, 0, 1, 0, 5, 0, false, false, .inService, 0, some 1, [], none, none, 0, none⟩]) with disp := { (withEntries [⟨7, 0, 0, 0, 0, 2, 0, false, false, .inService, 0, some 1, [], none, none, 0, none⟩, ⟨8, 0, 0, 1, 0, 5, 0, false, false, .inService, 0, some 1, [], none, none, 0, none⟩]).disp with queues := [[], [7, 8], [], [], [], []] } } : State).get (portBase 1) Rg.PORT_RES.STATUS ≠ 15 ∧ 1 < ({ (withEntries [⟨7, 0, 0, 0, 0, 2, 0, false, false, .inService, 0, some 1, [], none, none, 0, none⟩, ⟨8, 0, 0, 1, 0, 5, 0, false, false, .inService, 0, some 1, [], none, none, 0, none⟩]) with disp := { (withEntries [⟨7, 0, 0, 0, 0, 2, 0, false, false, .inService, 0, some 1, [], none, none, 0, none⟩, ⟨8, 0, 0, 1, 0, 5, 0, false, false, .inService, 0, some 1, [], none, none, 0, none⟩]).disp with queues := [[], [7, 8], [], [], [], []] } } : State).disp.queues.length ∧ ({ (withEntries [⟨7, 0, 0, 0, 0, 2, 0, false, false, .inService, 0, some 1, [], none, none, 0, none⟩, ⟨8, 0, 0, 1, 0, 5, 0, false, false, .inService, 0, some 1, [], none, none, 0, none⟩]) with disp := { (withEntries [⟨7, 0, 0, 0, 0, 2, 0, false, false, .inService, 0, some 1, [], none, none, 0, none⟩, ⟨8, 0, 0, 1, 0, 5, 0, false, false, .inService, 0, some 1, [], none, none, 0, none⟩]).disp with queues := [[], [7, 8], [], [], [], []] } } : State).disp.queues.getD 1 [] = 7 :: 8 :: ([] : List Nat) := by decide +kernel

theorem witness_TakeAndCompleteAnswerByTheirRule_2 :
    1 < 6 ∧ portAgent 1 = some (.ac1 : Master) ∧ (withEntries [⟨7, 0, 0, 0, 0, 2, 0, false, false, .inService, 0, some 2, [], none, none, 0, none⟩] : State).on .mgmt = true ∧ (withEntries [⟨7, 0, 0, 0, 0, 2, 0, false, false, .inService, 0, some 2, [], none, none, 0, none⟩] : State).get (portBase 1) Rg.PORT_RES.STATUS ≠ 15 ∧ (withEntries [⟨7, 0, 0, 0, 0, 2, 0, false, false, .inService, 0, some 2, [], none, none, 0, none⟩] : State).disp.find 7 = some (⟨7, 0, 0, 0, 0, 2, 0, false, false, .inService, 0, some 2, [], none, none, 0, none⟩ : Entry) ∧ (⟨7, 0, 0, 0, 0, 2, 0, false, false, .inService, 0, some 2, [], none, none, 0, none⟩ : Entry).st = EState.inService ∧ (⟨7, 0, 0, 0, 0, 2, 0, false, false, .inService, 0, some 2, [], none, none, 0, none⟩ : Entry).agent ≠ some 1 := by decide +kernel

theorem witness_TakeAndCompleteAnswerByTheirRule_3 :
    1 < 6 ∧ portAgent 1 = some (.ac1 : Master) ∧ (withEntries [⟨7, 0, 0, 0, 0, 2, 0, false, false, .ready, 0, none, [], none, none, 0, none⟩] : State).on .mgmt = true ∧ (withEntries [⟨7, 0, 0, 0, 0, 2, 0, false, false, .ready, 0, none, [], none, none, 0, none⟩] : State).get (portBase 1) Rg.PORT_RES.STATUS ≠ 15 ∧ (withEntries [⟨7, 0, 0, 0, 0, 2, 0, false, false, .ready, 0, none, [], none, none, 0, none⟩] : State).disp.find 7 = some (⟨7, 0, 0, 0, 0, 2, 0, false, false, .ready, 0, none, [], none, none, 0, none⟩ : Entry) ∧ (⟨7, 0, 0, 0, 0, 2, 0, false, false, .ready, 0, none, [], none, none, 0, none⟩ : Entry).st ≠ EState.inService := by decide +kernel

end Sys2Proof.Tests
end

