-- ==== Sys2Proof/Tests/Witness01.lean ====
section
/-! SUPPORT. Witnesses: for each clause of a statement a state and operands that meet its hypotheses. -/

set_option Elab.async false

open Sys2Proof Sys2Proof.Machine

namespace Sys2Proof.Tests

theorem witness_PortOperationsTakeEffect_1 :
    4 < 6 ∧
    portAgent 4 = some (.mp : Master) ∧
    ({ world with disp := { world.disp with flows := [⟨0, 0, 127, 4, 0⟩] } } : State).on .mgmt = true ∧
    ({ world with disp := { world.disp with flows := [⟨0, 0, 127, 4, 0⟩] } } : State).get (portBase 4) Rg.PORT_RES.STATUS ≠ 15 ∧
    ({ world with disp := { world.disp with flows := [⟨0, 0, 127, 4, 0⟩] } } : State).disp.flows.find? (fun x => x.flow == ({ world with disp := { world.disp with flows := [⟨0, 0, 127, 4, 0⟩] } } : State).get (portBase 4) Rg.PORT_DESC.FLOW) = some (⟨0, 0, 127, 4, 0⟩ : FlowRec) ∧
    (⟨0, 0, 127, 4, 0⟩ : FlowRec).part = ({ world with disp := { world.disp with flows := [⟨0, 0, 127, 4, 0⟩] } } : State).get (portBase 4) Rg.PORT_DESC.PART ∧ (⟨0, 0, 127, 4, 0⟩ : FlowRec).consumer = 127 ∧ (⟨0, 0, 127, 4, 0⟩ : FlowRec).agent ≤ 5 ∧
    0 < ({ world with disp := { world.disp with flows := [⟨0, 0, 127, 4, 0⟩] } } : State).disp.freeCount (⟨0, 0, 127, 4, 0⟩ : FlowRec).part := by decide +kernel

theorem witness_PortOperationsTakeEffect_2 :
    0 < 6 ∧
    portAgent 0 = some (.ac0 : Master) ∧
    (withEntries [⟨0, 0, 0, 0, 0, 0, 1, true, false, .waiting, 0, none, [], some 0, none, 0, none⟩, ⟨1, 0, 0, 0, 0, 0, 1, true, false, .waiting, 0, none, [], some 0, none, 0, none⟩] : State).on .mgmt = true ∧
    (withEntries [⟨0, 0, 0, 0, 0, 0, 1, true, false, .waiting, 0, none, [], some 0, none, 0, none⟩, ⟨1, 0, 0, 0, 0, 0, 1, true, false, .waiting, 0, none, [], some 0, none, 0, none⟩] : State).get (portBase 0) Rg.PORT_RES.STATUS ≠ 15 ∧
    (withEntries [⟨0, 0, 0, 0, 0, 0, 1, true, false, .waiting, 0, none, [], some 0, none, 0, none⟩, ⟨1, 0, 0, 0, 0, 0, 1, true, false, .waiting, 0, none, [], some 0, none, 0, none⟩] : State).disp.find 0 = some (⟨0, 0, 0, 0, 0, 0, 1, true, false, .waiting, 0, none, [], some 0, none, 0, none⟩ : Entry) ∧ (⟨0, 0, 0, 0, 0, 0, 1, true, false, .waiting, 0, none, [], some 0, none, 0, none⟩ : Entry).held = true ∧ (⟨0, 0, 0, 0, 0, 0, 1, true, false, .waiting, 0, none, [], some 0, none, 0, none⟩ : Entry).counter < 4095 ∧ (withEntries [⟨0, 0, 0, 0, 0, 0, 1, true, false, .waiting, 0, none, [], some 0, none, 0, none⟩, ⟨1, 0, 0, 0, 0, 0, 1, true, false, .waiting, 0, none, [], some 0, none, 0, none⟩] : State).disp.freeCount (⟨0, 0, 0, 0, 0, 0, 1, true, false, .waiting, 0, none, [], some 0, none, 0, none⟩ : Entry).part ≠ 0 ∧
    (withEntries [⟨0, 0, 0, 0, 0, 0, 1, true, false, .waiting, 0, none, [], some 0, none, 0, none⟩, ⟨1, 0, 0, 0, 0, 0, 1, true, false, .waiting, 0, none, [], some 0, none, 0, none⟩] : State).disp.find 1 = some (⟨1, 0, 0, 0, 0, 0, 1, true, false, .waiting, 0, none, [], some 0, none, 0, none⟩ : Entry) ∧ (⟨1, 0, 0, 0, 0, 0, 1, true, false, .waiting, 0, none, [], some 0, none, 0, none⟩ : Entry).succ.length < 4 ∧ (⟨1, 0, 0, 0, 0, 0, 1, true, false, .waiting, 0, none, [], some 0, none, 0, none⟩ : Entry).idx ≠ (⟨0, 0, 0, 0, 0, 0, 1, true, false, .waiting, 0, none, [], some 0, none, 0, none⟩ : Entry).idx := by decide +kernel

theorem witness_PortOperationsTakeEffect_3 :
    1 < 6 ∧
    portAgent 1 = some (.ac1 : Master) ∧
    (withEntries [⟨0, 0, 0, 0, 0, 0, 1, true, false, .waiting, 0, none, [], some 0, none, 0, none⟩] : State).on .mgmt = true ∧
    (withEntries [⟨0, 0, 0, 0, 0, 0, 1, true, false, .waiting, 0, none, [], some 0, none, 0, none⟩] : State).get (portBase 1) Rg.PORT_RES.STATUS ≠ 15 ∧
    (withEntries [⟨0, 0, 0, 0, 0, 0, 1, true, false, .waiting, 0, none, [], some 0, none, 0, none⟩] : State).disp.find 0 = some (⟨0, 0, 0, 0, 0, 0, 1, true, false, .waiting, 0, none, [], some 0, none, 0, none⟩ : Entry) ∧ (⟨0, 0, 0, 0, 0, 0, 1, true, false, .waiting, 0, none, [], some 0, none, 0, none⟩ : Entry).held = true := by decide +kernel

theorem witness_PortOperationsTakeEffect_4 :
    2 < 6 ∧
    portAgent 2 = some (.ac2 : Master) ∧
    (withEntries [⟨0, 0, 0, 0, 0, 0, 0, false, false, .ready, 0, none, [1], some 0, none, 0, none⟩] : State).on .mgmt = true ∧
    (withEntries [⟨0, 0, 0, 0, 0, 0, 0, false, false, .ready, 0, none, [1], some 0, none, 0, none⟩] : State).get (portBase 2) Rg.PORT_RES.STATUS ≠ 15 ∧
    (withEntries [⟨0, 0, 0, 0, 0, 0, 0, false, false, .ready, 0, none, [1], some 0, none, 0, none⟩] : State).disp.find 0 = some (⟨0, 0, 0, 0, 0, 0, 0, false, false, .ready, 0, none, [1], some 0, none, 0, none⟩ : Entry) ∧ (⟨0, 0, 0, 0, 0, 0, 0, false, false, .ready, 0, none, [1], some 0, none, 0, none⟩ : Entry).st ≠ EState.inService ∧
    (withEntries [⟨0, 0, 0, 0, 0, 0, 0, false, false, .ready, 0, none, [1], some 0, none, 0, none⟩] : State).disp.hwq = [] := by decide +kernel

theorem witness_PortOperationsTakeEffect_5 :
    3 < 6 ∧
    portAgent 3 = some (.ac3 : Master) ∧
    (withEntries [⟨0, 0, 0, 0, 0, 0, 0, false, false, .inService, 0, some 3, [1], some 3, none, 0, none⟩] : State).on .mgmt = true ∧
    (withEntries [⟨0, 0, 0, 0, 0, 0, 0, false, false, .inService, 0, some 3, [1], some 3, none, 0, none⟩] : State).get (portBase 3) Rg.PORT_RES.STATUS ≠ 15 ∧
    (withEntries [⟨0, 0, 0, 0, 0, 0, 0, false, false, .inService, 0, some 3, [1], some 3, none, 0, none⟩] : State).disp.find 0 = some (⟨0, 0, 0, 0, 0, 0, 0, false, false, .inService, 0, some 3, [1], some 3, none, 0, none⟩ : Entry) ∧ (⟨0, 0, 0, 0, 0, 0, 0, false, false, .inService, 0, some 3, [1], some 3, none, 0, none⟩ : Entry).st = EState.inService ∧ (⟨0, 0, 0, 0, 0, 0, 0, false, false, .inService, 0, some 3, [1], some 3, none, 0, none⟩ : Entry).agent = some 3 ∧
    (withEntries [⟨0, 0, 0, 0, 0, 0, 0, false, false, .inService, 0, some 3, [1], some 3, none, 0, none⟩] : State).disp.hwq = [] := by decide +kernel

theorem witness_PortOperationsTakeEffect_6 :
    5 < 6 ∧
    portAgent 5 = some (.tp : Master) ∧
    world.on .mgmt = true ∧
    world.get (portBase 5) Rg.PORT_RES.STATUS ≠ 15 ∧
    5 < world.disp.queues.length := by decide +kernel

theorem witness_PortOperationsTakeEffect_7 :
    4 < 6 ∧
    portAgent 4 = some (.mp : Master) ∧
    world.on .mgmt = true ∧
    world.get (portBase 4) Rg.PORT_RES.STATUS ≠ 15 ∧
    (6 = 6 ∨ 6 = 7) := by decide +kernel

theorem witness_DispatcherMovesEntriesOn_1 :
    4 < 6 ∧ ({ world with disp := { world.disp with pend := [⟨4, 0, some 77⟩] } } : State).disp.pend.find? (fun x => x.port == 4) = some (⟨4, 0, some 77⟩ : PortPend) ∧
    (⟨4, 0, some 77⟩ : PortPend).status < 16 := by decide +kernel

theorem witness_DispatcherMovesEntriesOn_2 :
    ({ world with disp := { world.disp with flows := [⟨3, 1, 127, 4, 0⟩] } } : State).on .mgmt = true ∧ ({ world with disp := { world.disp with flows := [⟨3, 1, 127, 4, 0⟩] } } : State).disp.assigned 3 = true ∧
    0 < ({ world with disp := { world.disp with flows := [⟨3, 1, 127, 4, 0⟩] } } : State).disp.freeCount (({ world with disp := { world.disp with flows := [⟨3, 1, 127, 4, 0⟩] } } : State).disp.flowOf 3).part := by decide +kernel

theorem witness_DispatcherMovesEntriesOn_3 :
    (withEntries [⟨0, 0, 0, 0, 0, 0, 0, false, false, .inService, 0, none, [1], none, none, 0, none⟩] : State).disp.find 0 = some (⟨0, 0, 0, 0, 0, 0, 0, false, false, .inService, 0, none, [1], none, none, 0, none⟩ : Entry) ∧ (⟨0, 0, 0, 0, 0, 0, 0, false, false, .inService, 0, none, [1], none, none, 0, none⟩ : Entry).st = EState.inService ∧ (⟨0, 0, 0, 0, 0, 0, 0, false, false, .inService, 0, none, [1], none, none, 0, none⟩ : Entry).agent = none ∧
    (withEntries [⟨0, 0, 0, 0, 0, 0, 0, false, false, .inService, 0, none, [1], none, none, 0, none⟩] : State).disp.hwq = [] := by decide +kernel

theorem witness_DispatcherMovesEntriesOn_4 :
    ({ withEntries [⟨0, 0, 0, 0, 0, 0, 2, false, false, .waiting, 0, none, [], none, none, 0, none⟩] with disp := { (withEntries [⟨0, 0, 0, 0, 0, 0, 2, false, false, .waiting, 0, none, [], none, none, 0, none⟩]).disp with work := [(0, true)] } } : State).disp.work = (0, true) :: ([] : List (Nat × Bool)) ∧
    ({ withEntries [⟨0, 0, 0, 0, 0, 0, 2, false, false, .waiting, 0, none, [], none, none, 0, none⟩] with disp := { (withEntries [⟨0, 0, 0, 0, 0, 0, 2, false, false, .waiting, 0, none, [], none, none, 0, none⟩]).disp with work := [(0, true)] } } : State).disp.find 0 = some (⟨0, 0, 0, 0, 0, 0, 2, false, false, .waiting, 0, none, [], none, none, 0, none⟩ : Entry) ∧ (⟨0, 0, 0, 0, 0, 0, 2, false, false, .waiting, 0, none, [], none, none, 0, none⟩ : Entry).st = EState.waiting := by decide +kernel

theorem witness_DispatcherMovesEntriesOn_5 :
    (put { world with disp := { world.disp with flows := [⟨5, 0, 127, 1, 0⟩], entries := [⟨0, 0, 0, 5, 0, 0, 0, false, false, .ready, 0, none, [], none, none, 0, none⟩] } } [(bDsp, Rg.DSP_CTRL.ENABLE, 1)] : State).flag bDsp Rg.DSP_CTRL.ENABLE = true ∧
    bestEntry ((put { world with disp := { world.disp with flows := [⟨5, 0, 127, 1, 0⟩], entries := [⟨0, 0, 0, 5, 0, 0, 0, false, false, .ready, 0, none, [], none, none, 0, none⟩] } } [(bDsp, Rg.DSP_CTRL.ENABLE, 1)] : State).disp.entries.filter ((put { world with disp := { world.disp with flows := [⟨5, 0, 127, 1, 0⟩], entries := [⟨0, 0, 0, 5, 0, 0, 0, false, false, .ready, 0, none, [], none, none, 0, none⟩] } } [(bDsp, Rg.DSP_CTRL.ENABLE, 1)] : State).eligible ([] : List Nat))) = some (⟨0, 0, 0, 5, 0, 0, 0, false, false, .ready, 0, none, [], none, none, 0, none⟩ : Entry) := by decide +kernel

theorem witness_DispatcherMovesEntriesOn_6 :
    mayDispatcher world (.mp : Master) 0x38 = true ∧ world.on .mgmt = true ∧
    world.disp.busyFlow (world.get bDsp Rg.DSP_FLOW_SEL.FLOW) = false ∧ world.disp.waitingOf (world.get bDsp Rg.DSP_FLOW_SEL.FLOW) = 0 := by decide +kernel

theorem witness_LinksCarryPackets_1 :
    (withLink testLink : State).link 1 = some testLink ∧ (withLink testLink : State).sendable testLink = true ∧
    1 ≤ ([7, 8] : List Nat).length ∧ ([7, 8] : List Nat).length ≤ testLink.rc.maxlen ∧ 1 + ([7, 8] : List Nat).length ≤ testLink.credits ∧ (⟨0x51, 0, 0, 0, false, false⟩ : PktHead).ring = false := by decide +kernel

theorem witness_LinksCarryPackets_2 :
    (withLink fullLink : State).link 1 = some fullLink ∧ (withLink fullLink : State).readable fullLink = true ∧ fullLink.queue = goodPkt :: ([] : List QPkt) ∧
    pktOk goodPkt.lw goodPkt.data = true ∧ newer (pktEpoch goodPkt.lw) ((withLink fullLink : State).get (islBase (endIsland fullLink.rc.dst)) Rg.ISL_STAT.EPOCH) = false ∧ fullLink.rc.dst ≠ 82 := by decide +kernel

theorem witness_LinksCarryPackets_3 :
    (withLink { testLink with credits := 3 } : State).link 1 = some ({ testLink with credits := 3 } : Link) ∧ ({ testLink with credits := 3 } : Link).credits < 14 ∧
    (withLink { testLink with credits := 3 } : State).outq = [] := by decide +kernel

theorem witness_LinksCarryPackets_4 :
    (withLink fullLink : State).link 1 = some fullLink := by decide +kernel

theorem witness_LinksCarryPackets_5 :
    (withLink { testLink with resetAck := some (true, true) } : State).link 1 = some ({ testLink with resetAck := some (true, true) } : Link) ∧ ({ testLink with resetAck := some (true, true) } : Link).resetAck.isSome = true ∧ ({ testLink with resetAck := some (true, true) } : Link).isolated = false := by decide +kernel

end Sys2Proof.Tests
end

