-- ==== Sys2Proof/Tests/Witness02.lean ====
section
/-! SUPPORT. Witnesses: for each clause of a statement a state and operands that meet its hypotheses. -/

set_option Elab.async false

open Sys2Proof Sys2Proof.Machine

namespace Sys2Proof.Tests

theorem witness_BusAccessesTakeEffect_1 :
    mayDispatcher world (.mp : Master) 0x18 = true ∧ world.on .mgmt = true := by decide +kernel

theorem witness_BusAccessesTakeEffect_2 :
    mayDispatcher (put world [(bDsp, Rg.DSP_EVT.STALE, 1)] : State) (.mp : Master) 0x28 = true ∧ (put world [(bDsp, Rg.DSP_EVT.STALE, 1)] : State).on .mgmt = true ∧ (put world [(bDsp, Rg.DSP_EVT.STALE, 1)] : State).get bDsp Rg.DSP_EVT.STALE ≤ 1 := by decide +kernel

theorem witness_BusAccessesTakeEffect_3 :
    mayDispatcher world (.gauntlet : Master) 0x08 = true ∧ world.on .mgmt = true ∧
    world.flag bDsp Rg.DSP_CTRL.LOCK = false ∧ (0x211 : Nat) < 2 ^ 32 ∧ (0x211 : Nat) / 2 ^ 9 % 2 = 1 ∧ (0x211 : Nat) / 2 ^ 10 % 2 = 0 := by decide +kernel

theorem witness_BusAccessesTakeEffect_4 :
    mayWriteService (put world [(bRc, Rg.RC_LOSS.INPUT, 9)] : State) (.ac0 : Master) = true ∧ (put world [(bRc, Rg.RC_LOSS.INPUT, 9)] : State).on .mgmt = true := by decide +kernel

theorem witness_BusAccessesTakeEffect_5 :
    mayTime world (.tp : Master) = true ∧ world.on .time = true := by decide +kernel

theorem witness_BusAccessesTakeEffect_6 :
    mayTime ({ world with staged := [⟨.tp, bTime, 0x30000028, 9⟩] } : State) (.tp : Master) = true ∧ ({ world with staged := [⟨.tp, bTime, 0x30000028, 9⟩] } : State).on .time = true ∧ ({ world with staged := [⟨.tp, bTime, 0x30000028, 9⟩] } : State).flag bTime Rg.TIME_CTRL.INC_SRC = false ∧
    held ({ world with staged := [⟨.tp, bTime, 0x30000028, 9⟩] } : State).staged (.tp : Master) bTime 0x30000028 = some 9 ∧ 9 < 2 ^ 32 ∧
    0x3_FFCB_923A ≤ 9 + 4 % 2 ^ 32 * 2 ^ 32 ∧ 9 + 4 % 2 ^ 32 * 2 ^ 32 ≤ 0x4_0034_6DC6 := by decide +kernel

theorem witness_BusAccessesTakeEffect_7 :
    ({ world with time := { world.time with era := 5, ns := 77 } } : State).looks (.host : Master) = true ∧ ({ world with time := { world.time with era := 5, ns := 77 } } : State).on .time = true := by decide +kernel

theorem witness_BusAccessesTakeEffect_8 :
    ({ world with caught := [⟨.mp, bTime, 0x30000018, 3⟩] } : State).looks (.mp : Master) = true ∧ ({ world with caught := [⟨.mp, bTime, 0x30000018, 3⟩] } : State).on .time = true ∧
    held ({ world with caught := [⟨.mp, bTime, 0x30000018, 3⟩] } : State).caught (.mp : Master) bTime 0x30000018 = some 3 := by decide +kernel

theorem witness_BusAccessesTakeEffect_9 :
    world.reaches (.mp : Master) = true ∧
    0x1000_0000 ≤ (0x10000010 : Nat) ∧ (0x10000010 : Nat) + 8 ≤ 0x1180_0000 ∧ (0x10000010 : Nat) % 8 = 0 ∧ ([1, 2, 3, 4, 5, 6, 7, 8] : List Byte).length = 8 ∧
    world.on .fa = true ∧ world.on .fb = true ∧ world.flag bDdr Rg.DDR_INJ.ARMED = false ∧ 3 < 8 := by decide +kernel

theorem witness_BusAccessesTakeEffect_10 :
    mayIsland world (.mp : Master) = true ∧ world.on (domOf 20) = true ∧
    13 ≤ 20 ∧ 20 ≤ 43 ∧ 120 ≤ 130 % 256 ∧ 130 % 256 ≤ 240 := by decide +kernel

theorem witness_BusAccessesTakeEffect_11 :
    20 ≤ 43 ∧ world.islOn 20 = true := by decide +kernel

theorem witness_BusAccessesTakeEffect_12 :
    ({ world with power := { world.power with fb := false } } : State).reaches (.mp : Master) = true ∧ (.mp : Master) ≠ .host ∧ 1 < 16 ∧ 0 < 8 ∧ 8 ≤ 8 ∧ stageBase + 1 * halfSize ≤ (0x10180000 : Nat) ∧ (0x10180000 : Nat) + 8 ≤ stageBase + (1 + 1) * halfSize ∧ ({ world with power := { world.power with fb := false } } : State).on (halfDom 1) = false := by decide +kernel

theorem witness_BusAccessesTakeEffect_13 :
    ({ world with power := { world.power with fb := false } } : State).reaches (.mp : Master) = true ∧ (.mp : Master) ≠ .host ∧ 1 < 16 ∧ 0 < ([1, 2, 3] : List Byte).length ∧ ([1, 2, 3] : List Byte).length ≤ 8 ∧ stageBase + 1 * halfSize ≤ (0x10180000 : Nat) ∧ (0x10180000 : Nat) + ([1, 2, 3] : List Byte).length ≤ stageBase + (1 + 1) * halfSize ∧ ({ world with power := { world.power with fb := false } } : State).on (halfDom 1) = false := by decide +kernel

theorem witness_BusAccessesTakeEffect_14 :
    world.reaches (.mp : Master) = true ∧ (.mp : Master) ≠ .host ∧ 0 < 8 ∧ 8 ≤ 8 ∧ ddrBase + world.ddrSize ≤ (0x2_0000_0000 : Nat) ∧ (0x2_0000_0000 : Nat) + 8 ≤ 0x5_0000_0000 := by decide +kernel

end Sys2Proof.Tests
end

