-- ==== Sys2Proof/Tests/Witness03.lean ====
section
/-! SUPPORT. Witnesses: for each clause of a statement a state and operands that meet its hypotheses. -/

set_option Elab.async false

open Sys2Proof Sys2Proof.Machine

namespace Sys2Proof.Tests

theorem witness_ModeChangesRunTheirSteps_1 :
    (.mp : Master) = .mp ∧
    world.power.vdd = true ∧ world.modeBusy = false ∧ 1 % 8 ≤ 5 ∧ 1 % 8 ≠ 4 ∧
    world.modeCheck (.ofCode (1 % 8)) (1 / 2 ^ 4 % 2 ^ 4) = 0 := by decide +kernel

theorem witness_ModeChangesRunTheirSteps_2 :
    ((put { world with img := State.reset.img, time := { world.time with terr := 5, terrW := 5 } } [(bMpc, Rg.MODE_STAT.MODE, 1), (bMpc, Rg.MODE_CFG.AUTO_SVC, 1), (bMpc, Rg.MODE_LIM.SVC_TERR, 100), (bTime, Rg.TIME_CTRL.STATE, 2)] : State).modeBusy = false ∧ ((put { world with img := State.reset.img, time := { world.time with terr := 5, terrW := 5 } } [(bMpc, Rg.MODE_STAT.MODE, 1), (bMpc, Rg.MODE_CFG.AUTO_SVC, 1), (bMpc, Rg.MODE_LIM.SVC_TERR, 100), (bTime, Rg.TIME_CTRL.STATE, 2)] : State).mode = .survey ∨ (put { world with img := State.reset.img, time := { world.time with terr := 5, terrW := 5 } } [(bMpc, Rg.MODE_STAT.MODE, 1), (bMpc, Rg.MODE_CFG.AUTO_SVC, 1), (bMpc, Rg.MODE_LIM.SVC_TERR, 100), (bTime, Rg.TIME_CTRL.STATE, 2)] : State).mode = .holdover)) ∧
    (put { world with img := State.reset.img, time := { world.time with terr := 5, terrW := 5 } } [(bMpc, Rg.MODE_STAT.MODE, 1), (bMpc, Rg.MODE_CFG.AUTO_SVC, 1), (bMpc, Rg.MODE_LIM.SVC_TERR, 100), (bTime, Rg.TIME_CTRL.STATE, 2)] : State).modeCheck .service 4 = 0 := by decide +kernel

theorem witness_ModeChangesRunTheirSteps_3 :
    ({ world with modes := { world.modes with change := some ⟨.survey, 0, .service, [4, 5], [], none, false, 0⟩ } } : State).modes.change = some (⟨.survey, 0, .service, [4, 5], [], none, false, 0⟩ : Change) ∧ (⟨.survey, 0, .service, [4, 5], [], none, false, 0⟩ : Change).commit = none ∧ (⟨.survey, 0, .service, [4, 5], [], none, false, 0⟩ : Change).parts.contains 4 = true ∧ (⟨.survey, 0, .service, [4, 5], [], none, false, 0⟩ : Change).acks.contains 4 = false ∧
    (⟨.survey, 0, .service, [4, 5], [], none, false, 0⟩ : Change).parts.all (fun i => ((⟨.survey, 0, .service, [4, 5], [], none, false, 0⟩ : Change).acks ++ [4]).contains i) = false := by decide +kernel

theorem witness_ModeChangesRunTheirSteps_4 :
    ({ world with time := { world.time with ns := 9000000 }, modes := { world.modes with change := some ⟨.survey, 0, .service, [4, 5], [], none, false, 0⟩ } } : State).modes.change = some (⟨.survey, 0, .service, [4, 5], [], none, false, 0⟩ : Change) ∧ (⟨.survey, 0, .service, [4, 5], [], none, false, 0⟩ : Change).commit = none ∧ (⟨.survey, 0, .service, [4, 5], [], none, false, 0⟩ : Change).prep + max 1 (({ world with time := { world.time with ns := 9000000 }, modes := { world.modes with change := some ⟨.survey, 0, .service, [4, 5], [], none, false, 0⟩ } } : State).get bMpc Rg.MODE_CFG.ACK_WAIT) * 10000 ≤ ({ world with time := { world.time with ns := 9000000 }, modes := { world.modes with change := some ⟨.survey, 0, .service, [4, 5], [], none, false, 0⟩ } } : State).now := by decide +kernel

theorem witness_ModeChangesRunTheirSteps_5 :
    (put { world with modes := { world.modes with change := some ⟨.service, 4, .service, [4, 5], [4, 5], some 0, false, 0⟩ } } [(bMpc, Rg.MODE_STAT.EPOCH, 7)] : State).modes.change = some (⟨.service, 4, .service, [4, 5], [4, 5], some 0, false, 0⟩ : Change) ∧ (⟨.service, 4, .service, [4, 5], [4, 5], some 0, false, 0⟩ : Change).commit = some 0 ∧ 0 ≤ (put { world with modes := { world.modes with change := some ⟨.service, 4, .service, [4, 5], [4, 5], some 0, false, 0⟩ } } [(bMpc, Rg.MODE_STAT.EPOCH, 7)] : State).now ∧ (put { world with modes := { world.modes with change := some ⟨.service, 4, .service, [4, 5], [4, 5], some 0, false, 0⟩ } } [(bMpc, Rg.MODE_STAT.EPOCH, 7)] : State).mode = (⟨.service, 4, .service, [4, 5], [4, 5], some 0, false, 0⟩ : Change).target ∧ (⟨.service, 4, .service, [4, 5], [4, 5], some 0, false, 0⟩ : Change).from_ = (⟨.service, 4, .service, [4, 5], [4, 5], some 0, false, 0⟩ : Change).target ∧
    (put { world with modes := { world.modes with change := some ⟨.service, 4, .service, [4, 5], [4, 5], some 0, false, 0⟩ } } [(bMpc, Rg.MODE_STAT.EPOCH, 7)] : State).lagging (⟨.service, 4, .service, [4, 5], [4, 5], some 0, false, 0⟩ : Change).parts ≠ [] ∧
    ((⟨.service, 4, .service, [4, 5], [4, 5], some 0, false, 0⟩ : Change).target = .survey ∨ (⟨.service, 4, .service, [4, 5], [4, 5], some 0, false, 0⟩ : Change).target = .service ∨ (⟨.service, 4, .service, [4, 5], [4, 5], some 0, false, 0⟩ : Change).target = .holdover) ∧
    4 < 44 ∧ 4 ∈ (⟨.service, 4, .service, [4, 5], [4, 5], some 0, false, 0⟩ : Change).parts ∧ 4 ∉ ([5] : List Nat) ∧ (⟨.service, 4, .service, [4, 5], [4, 5], some 0, false, 0⟩ : Change).dirty = false := by decide +kernel

theorem witness_ModeChangesRunTheirSteps_6 :
    ({ world with modes := { world.modes with change := some ⟨.holdover, 2, .service, [4, 5], [4, 5], some 0, false, 0⟩ } } : State).modes.change = some (⟨.holdover, 2, .service, [4, 5], [4, 5], some 0, false, 0⟩ : Change) ∧ (⟨.holdover, 2, .service, [4, 5], [4, 5], some 0, false, 0⟩ : Change).commit = some 0 ∧ 0 ≤ ({ world with modes := { world.modes with change := some ⟨.holdover, 2, .service, [4, 5], [4, 5], some 0, false, 0⟩ } } : State).now ∧ ({ world with modes := { world.modes with change := some ⟨.holdover, 2, .service, [4, 5], [4, 5], some 0, false, 0⟩ } } : State).mode ≠ (⟨.holdover, 2, .service, [4, 5], [4, 5], some 0, false, 0⟩ : Change).target ∧ (⟨.holdover, 2, .service, [4, 5], [4, 5], some 0, false, 0⟩ : Change).from_ ≠ (⟨.holdover, 2, .service, [4, 5], [4, 5], some 0, false, 0⟩ : Change).target ∧ (⟨.holdover, 2, .service, [4, 5], [4, 5], some 0, false, 0⟩ : Change).from_ ≠ .bootstrap ∧
    ((⟨.holdover, 2, .service, [4, 5], [4, 5], some 0, false, 0⟩ : Change).target = .survey ∨ (⟨.holdover, 2, .service, [4, 5], [4, 5], some 0, false, 0⟩ : Change).target = .service ∨ (⟨.holdover, 2, .service, [4, 5], [4, 5], some 0, false, 0⟩ : Change).target = .holdover ∨ (⟨.holdover, 2, .service, [4, 5], [4, 5], some 0, false, 0⟩ : Change).target = .maintenance) := by decide +kernel

theorem witness_ModeChangesRunTheirSteps_7 :
    (put { world with modes := { world.modes with change := some ⟨.service, 4, .service, [4, 5], [4, 5], some 0, false, 0⟩ } } [(bMpc, Rg.MODE_STAT.EPOCH, 7)] : State).modes.change = some (⟨.service, 4, .service, [4, 5], [4, 5], some 0, false, 0⟩ : Change) ∧ (⟨.service, 4, .service, [4, 5], [4, 5], some 0, false, 0⟩ : Change).parts.contains 4 = true ∧ (⟨.service, 4, .service, [4, 5], [4, 5], some 0, false, 0⟩ : Change).commit = some 0 ∧ 0 ≤ (put { world with modes := { world.modes with change := some ⟨.service, 4, .service, [4, 5], [4, 5], some 0, false, 0⟩ } } [(bMpc, Rg.MODE_STAT.EPOCH, 7)] : State).now ∧
    4 < 44 ∧ (put { world with modes := { world.modes with change := some ⟨.service, 4, .service, [4, 5], [4, 5], some 0, false, 0⟩ } } [(bMpc, Rg.MODE_STAT.EPOCH, 7)] : State).lagging [4] ≠ [] := by decide +kernel

theorem witness_ModeChangesRunTheirSteps_8 :
    (put world [(bMpc, Rg.MODE_STAT.MODE, 5)] : State).mode = .maintenance ∧ (put world [(bMpc, Rg.MODE_STAT.MODE, 5)] : State).modeBusy = false ∧ (put world [(bMpc, Rg.MODE_STAT.MODE, 5)] : State).modes.change = none := by decide +kernel

theorem witness_ModeChangesRunTheirSteps_9 :
    ({ world with modes := { world.modes with change := some ⟨.service, 4, .service, [4, 5], [4, 5], some 0, false, 0⟩ } } : State).modes.change = some (⟨.service, 4, .service, [4, 5], [4, 5], some 0, false, 0⟩ : Change) ∧ (⟨.service, 4, .service, [4, 5], [4, 5], some 0, false, 0⟩ : Change).commit = some 0 ∧ 0 ≤ ({ world with modes := { world.modes with change := some ⟨.service, 4, .service, [4, 5], [4, 5], some 0, false, 0⟩ } } : State).now ∧ ({ world with modes := { world.modes with change := some ⟨.service, 4, .service, [4, 5], [4, 5], some 0, false, 0⟩ } } : State).modes.slot = none ∧
    ({ world with modes := { world.modes with change := some ⟨.service, 4, .service, [4, 5], [4, 5], some 0, false, 0⟩ } } : State).lagging (⟨.service, 4, .service, [4, 5], [4, 5], some 0, false, 0⟩ : Change).parts = [] := by decide +kernel

theorem witness_SkewAndIsolationRun_1 :
    (put (withLink { testLink with queue := [⟨lengthWord ⟨0x51, 0, 0, 0, false, false⟩ 1 40 [7], [7], false⟩], credits := 12 }) [(bMpc, Rg.MODE_STAT.MODE, 3)] : State).link 1 = some ({ testLink with queue := [⟨lengthWord ⟨0x51, 0, 0, 0, false, false⟩ 1 40 [7], [7], false⟩], credits := 12 } : Link) ∧ ({ testLink with queue := [⟨lengthWord ⟨0x51, 0, 0, 0, false, false⟩ 1 40 [7], [7], false⟩], credits := 12 } : Link).queue = (⟨lengthWord ⟨0x51, 0, 0, 0, false, false⟩ 1 40 [7], [7], false⟩ : QPkt) :: ([] : List QPkt) ∧
    newer (pktEpoch (⟨lengthWord ⟨0x51, 0, 0, 0, false, false⟩ 1 40 [7], [7], false⟩ : QPkt).lw) ((put (withLink { testLink with queue := [⟨lengthWord ⟨0x51, 0, 0, 0, false, false⟩ 1 40 [7], [7], false⟩], credits := 12 }) [(bMpc, Rg.MODE_STAT.MODE, 3)] : State).get (islBase (endIsland ({ testLink with queue := [⟨lengthWord ⟨0x51, 0, 0, 0, false, false⟩ 1 40 [7], [7], false⟩], credits := 12 } : Link).rc.dst)) Rg.ISL_STAT.EPOCH) = true ∧
    (put (withLink { testLink with queue := [⟨lengthWord ⟨0x51, 0, 0, 0, false, false⟩ 1 40 [7], [7], false⟩], credits := 12 }) [(bMpc, Rg.MODE_STAT.MODE, 3)] : State).modes.change = none ∧ (put (withLink { testLink with queue := [⟨lengthWord ⟨0x51, 0, 0, 0, false, false⟩ 1 40 [7], [7], false⟩], credits := 12 }) [(bMpc, Rg.MODE_STAT.MODE, 3)] : State).mode = .holdover := by decide +kernel

theorem witness_SkewAndIsolationRun_2 :
    ({ world with time := { world.time with ns := 2000000 }, modes := { world.modes with change := some ⟨.service, 4, .service, [4, 5], [4, 5], some 0, false, 0⟩ } } : State).modes.change = some (⟨.service, 4, .service, [4, 5], [4, 5], some 0, false, 0⟩ : Change) ∧ (⟨.service, 4, .service, [4, 5], [4, 5], some 0, false, 0⟩ : Change).commit = some 0 ∧ 0 + 1000000 ≤ ({ world with time := { world.time with ns := 2000000 }, modes := { world.modes with change := some ⟨.service, 4, .service, [4, 5], [4, 5], some 0, false, 0⟩ } } : State).now ∧ ({ world with time := { world.time with ns := 2000000 }, modes := { world.modes with change := some ⟨.service, 4, .service, [4, 5], [4, 5], some 0, false, 0⟩ } } : State).modes.slot = none ∧
    ({ world with time := { world.time with ns := 2000000 }, modes := { world.modes with change := some ⟨.service, 4, .service, [4, 5], [4, 5], some 0, false, 0⟩ } } : State).lagging (⟨.service, 4, .service, [4, 5], [4, 5], some 0, false, 0⟩ : Change).parts = [] := by decide +kernel

theorem witness_SkewAndIsolationRun_3 :
    ({ withLink { testLink with isolated := true } with modes := { world.modes with isolated := [(20, 0, false)] } } : State).modes.isolated = [(20, 0, false)] ∧
    ({ withLink { testLink with isolated := true } with modes := { world.modes with isolated := [(20, 0, false)] } } : State).lagging [20] = [] := by decide +kernel

theorem witness_SkewAndIsolationRun_4 :
    (put { world with time := { world.time with ns := 200000000 }, modes := { world.modes with isolated := [(20, 0, false)] } } [(bMpc, Rg.MODE_STAT.MODE, 3)] : State).modes.isolated = [(20, 0, false)] ∧ 0 + 100000000 ≤ (put { world with time := { world.time with ns := 200000000 }, modes := { world.modes with isolated := [(20, 0, false)] } } [(bMpc, Rg.MODE_STAT.MODE, 3)] : State).now ∧
    (put { world with time := { world.time with ns := 200000000 }, modes := { world.modes with isolated := [(20, 0, false)] } } [(bMpc, Rg.MODE_STAT.MODE, 3)] : State).modes.change = none ∧ (put { world with time := { world.time with ns := 200000000 }, modes := { world.modes with isolated := [(20, 0, false)] } } [(bMpc, Rg.MODE_STAT.MODE, 3)] : State).mode = .holdover := by decide +kernel

theorem witness_ResetsAndPower_1 :
    (.mp : Master) = .mp ∧ world.power.vdd = true ∧ (0x15752 : Nat) % 2 ^ 16 = 0x5752 := by decide +kernel

theorem witness_ResetsAndPower_2 :
    (world.on (if true then .sec else .mgmt) = true) := by decide +kernel

theorem witness_ResetsAndPower_5 :
    ({ State.reset with boot := { State.reset.boot with waitRef := true } } : State).boot.waitRef = true ∧ ({ State.reset with boot := { State.reset.boot with waitRef := true } } : State).power.vdd = true := by decide +kernel

theorem witness_ResetsAndPower_6 :
    ({ world with power := { world.power with due := [1] } } : State).power.vdd = true ∧ ({ world with power := { world.power with due := [1] } } : State).power.due.any (fun c => c != 2 || decide (({ world with power := { world.power with due := [1] } } : State).power.hostAt ≤ ({ world with power := { world.power with due := [1] } } : State).nowNs)) = true := by decide +kernel

theorem witness_ResetsAndPower_7 :
    ((put { world with power := { world.power with due := [2] } } [(bSec, Rg.SEC_STAT.LC, 2)] : State).power.due = [2] ∧ (put { world with power := { world.power with due := [2] } } [(bSec, Rg.SEC_STAT.LC, 2)] : State).power.vdd = true ∧ (2 ≠ 2 ∨ (put { world with power := { world.power with due := [2] } } [(bSec, Rg.SEC_STAT.LC, 2)] : State).power.hostAt ≤ (put { world with power := { world.power with due := [2] } } [(bSec, Rg.SEC_STAT.LC, 2)] : State).nowNs)) ∧
    (put { world with power := { world.power with due := [2] } } [(bSec, Rg.SEC_STAT.LC, 2)] : State).keyPageOk = false ∧ (put { world with power := { world.power with due := [2] } } [(bSec, Rg.SEC_STAT.LC, 2)] : State).get bSec Rg.SEC_STAT.LC ≠ 0 ∧ (put { world with power := { world.power with due := [2] } } [(bSec, Rg.SEC_STAT.LC, 2)] : State).upd.bankIn 2 = none ∧ (put { world with power := { world.power with due := [2] } } [(bSec, Rg.SEC_STAT.LC, 2)] : State).upd.bankIn 3 = none := by decide +kernel

theorem witness_ResetsAndPower_8 :
    world.power.vdd = true := by decide +kernel

theorem witness_ResetsAndPower_9 :
    world.power.vbat = true := by decide +kernel

theorem witness_DormantEntryAndWake_1 :
    ({ world with time := { world.time with ns := 2000000000 }, modes := { world.modes with sleep := some (0, 0) } } : State).modes.sleep = some (0, 0) ∧ 0 + ({ world with time := { world.time with ns := 2000000000 }, modes := { world.modes with sleep := some (0, 0) } } : State).get bMpc Rg.MODE_CFG.DORM_GRACE * 10000000 ≤ ({ world with time := { world.time with ns := 2000000000 }, modes := { world.modes with sleep := some (0, 0) } } : State).now := by decide +kernel

theorem witness_DormantEntryAndWake_2 :
    (put { world with time := { world.time with ns := 9 }, modes := { world.modes with sleep := some (0, 0) } } [(bMpc, Rg.WAKE_CFG.TIMER_EN, 1), (bMpc, Rg.WAKE_TIME.INSTANT, 5)] : State).modes.sleep = some (0, 0) ∧ (put { world with time := { world.time with ns := 9 }, modes := { world.modes with sleep := some (0, 0) } } [(bMpc, Rg.WAKE_CFG.TIMER_EN, 1), (bMpc, Rg.WAKE_TIME.INSTANT, 5)] : State).modes.change = none ∧
    (put { world with time := { world.time with ns := 9 }, modes := { world.modes with sleep := some (0, 0) } } [(bMpc, Rg.WAKE_CFG.TIMER_EN, 1), (bMpc, Rg.WAKE_TIME.INSTANT, 5)] : State).flag bMpc Rg.WAKE_CFG.TIMER_EN = true ∧ (put { world with time := { world.time with ns := 9 }, modes := { world.modes with sleep := some (0, 0) } } [(bMpc, Rg.WAKE_CFG.TIMER_EN, 1), (bMpc, Rg.WAKE_TIME.INSTANT, 5)] : State).get bMpc Rg.WAKE_TIME.INSTANT ≤ (put { world with time := { world.time with ns := 9 }, modes := { world.modes with sleep := some (0, 0) } } [(bMpc, Rg.WAKE_CFG.TIMER_EN, 1), (bMpc, Rg.WAKE_TIME.INSTANT, 5)] : State).now ∧ (put { world with time := { world.time with ns := 9 }, modes := { world.modes with sleep := some (0, 0) } } [(bMpc, Rg.WAKE_CFG.TIMER_EN, 1), (bMpc, Rg.WAKE_TIME.INSTANT, 5)] : State).modes.asked < (put { world with time := { world.time with ns := 9 }, modes := { world.modes with sleep := some (0, 0) } } [(bMpc, Rg.WAKE_CFG.TIMER_EN, 1), (bMpc, Rg.WAKE_TIME.INSTANT, 5)] : State).get bMpc Rg.WAKE_TIME.INSTANT := by decide +kernel

theorem witness_DormantEntryAndWake_3 :
    (put { world with modes := { world.modes with sleep := some (0, 0) } } [(bMpc, Rg.WAKE_CFG.PIN_EN, 2), (bMpc, Rg.WAKE_CFG.PIN_POL, 2)] : State).modes.sleep = some (0, 0) ∧ (put { world with modes := { world.modes with sleep := some (0, 0) } } [(bMpc, Rg.WAKE_CFG.PIN_EN, 2), (bMpc, Rg.WAKE_CFG.PIN_POL, 2)] : State).modes.change = none ∧
    1 < 4 ∧ bitOf 1 ((put { world with modes := { world.modes with sleep := some (0, 0) } } [(bMpc, Rg.WAKE_CFG.PIN_EN, 2), (bMpc, Rg.WAKE_CFG.PIN_POL, 2)] : State).get bMpc Rg.WAKE_CFG.PIN_EN) = true ∧ bitOf 1 ((put { world with modes := { world.modes with sleep := some (0, 0) } } [(bMpc, Rg.WAKE_CFG.PIN_EN, 2), (bMpc, Rg.WAKE_CFG.PIN_POL, 2)] : State).get bMpc Rg.WAKE_CFG.PIN_POL) = true := by decide +kernel

theorem witness_DormantEntryAndWake_4 :
    (put { world with modes := { world.modes with sleep := some (0, 0) } } [(bMpc, Rg.WAKE_CFG.HOST_EN, 1)] : State).modes.sleep = some (0, 0) ∧ (put { world with modes := { world.modes with sleep := some (0, 0) } } [(bMpc, Rg.WAKE_CFG.HOST_EN, 1)] : State).modes.change = none ∧
    (put { world with modes := { world.modes with sleep := some (0, 0) } } [(bMpc, Rg.WAKE_CFG.HOST_EN, 1)] : State).flag bMpc Rg.WAKE_CFG.HOST_EN = true := by decide +kernel

theorem witness_DormantEntryAndWake_5 :
    (put world [(bMpc, Rg.MODE_STAT.MODE, 4), (bMpc, Rg.WAKE_CFG.TIMER_EN, 1)] : State).mode = .dormant ∧ (put world [(bMpc, Rg.MODE_STAT.MODE, 4), (bMpc, Rg.WAKE_CFG.TIMER_EN, 1)] : State).modes.sleep = none ∧ (put world [(bMpc, Rg.MODE_STAT.MODE, 4), (bMpc, Rg.WAKE_CFG.TIMER_EN, 1)] : State).modes.change = none ∧
    (put world [(bMpc, Rg.MODE_STAT.MODE, 4), (bMpc, Rg.WAKE_CFG.TIMER_EN, 1)] : State).flag bMpc Rg.WAKE_CFG.TIMER_EN = true ∧ (put world [(bMpc, Rg.MODE_STAT.MODE, 4), (bMpc, Rg.WAKE_CFG.TIMER_EN, 1)] : State).get bMpc Rg.WAKE_TIME.INSTANT ≤ (put world [(bMpc, Rg.MODE_STAT.MODE, 4), (bMpc, Rg.WAKE_CFG.TIMER_EN, 1)] : State).now := by decide +kernel

theorem witness_DormantEntryAndWake_6 :
    (put world [(bMpc, Rg.MODE_STAT.MODE, 4), (bMpc, Rg.WAKE_CFG.PIN_EN, 2), (bMpc, Rg.WAKE_CFG.PIN_POL, 2)] : State).mode = .dormant ∧ (put world [(bMpc, Rg.MODE_STAT.MODE, 4), (bMpc, Rg.WAKE_CFG.PIN_EN, 2), (bMpc, Rg.WAKE_CFG.PIN_POL, 2)] : State).modes.sleep = none ∧ (put world [(bMpc, Rg.MODE_STAT.MODE, 4), (bMpc, Rg.WAKE_CFG.PIN_EN, 2), (bMpc, Rg.WAKE_CFG.PIN_POL, 2)] : State).modes.change = none ∧
    1 < 4 ∧ bitOf 1 ((put world [(bMpc, Rg.MODE_STAT.MODE, 4), (bMpc, Rg.WAKE_CFG.PIN_EN, 2), (bMpc, Rg.WAKE_CFG.PIN_POL, 2)] : State).get bMpc Rg.WAKE_CFG.PIN_EN) = true ∧ bitOf 1 ((put world [(bMpc, Rg.MODE_STAT.MODE, 4), (bMpc, Rg.WAKE_CFG.PIN_EN, 2), (bMpc, Rg.WAKE_CFG.PIN_POL, 2)] : State).get bMpc Rg.WAKE_CFG.PIN_POL) = true := by decide +kernel

theorem witness_DormantEntryAndWake_7 :
    (put world [(bMpc, Rg.MODE_STAT.MODE, 4), (bMpc, Rg.WAKE_CFG.HOST_EN, 1)] : State).mode = .dormant ∧ (put world [(bMpc, Rg.MODE_STAT.MODE, 4), (bMpc, Rg.WAKE_CFG.HOST_EN, 1)] : State).modes.sleep = none ∧ (put world [(bMpc, Rg.MODE_STAT.MODE, 4), (bMpc, Rg.WAKE_CFG.HOST_EN, 1)] : State).modes.change = none ∧
    (put world [(bMpc, Rg.MODE_STAT.MODE, 4), (bMpc, Rg.WAKE_CFG.HOST_EN, 1)] : State).flag bMpc Rg.WAKE_CFG.HOST_EN = true := by decide +kernel

theorem witness_DormantEntryAndWake_8 :
    (((.mp : Master) = .mp ∨ (.mp : Master) = .gauntlet) ∧ world.power.vdd = true) ∧
    77 % 2 ^ 64 ≠ 0 := by decide +kernel

theorem witness_DormantEntryAndWake_9 :
    ((.host : Master) = .mp ∨ (.host : Master) = .tp ∨ (.host : Master) = .host) ∧
    ({ world with cocoon := [(0, 5)] } : State).boot.coBad.contains (({ world with cocoon := [(0, 5)] } : State).get bMpc Rg.COC_ADDR.WORD) = false := by decide +kernel

theorem witness_DormantEntryAndWake_10 :
    (world.mode = .survey ∨ world.mode = .service ∨ world.mode = .holdover) := by decide +kernel

end Sys2Proof.Tests
end

