-- ==== Sys2Proof/Tests/Witness04.lean ====
section
/-! SUPPORT. Witnesses: for each clause of a statement a state and operands that meet its hypotheses. -/

set_option Elab.async false

open Sys2Proof Sys2Proof.Machine

namespace Sys2Proof.Tests

theorem witness_UpdateSessionsRun_1 :
    ({ serving 0x40 [] with upd := { world.upd with banks := [Bank.empty, Bank.empty], sess := none } } : State).yx.serving = some (yxReq 0x40 [] : YxReq) ∧ yxOp (yxReq 0x40 [] : YxReq).frame = 0x40 ∧ ({ serving 0x40 [] with upd := { world.upd with banks := [Bank.empty, Bank.empty], sess := none } } : State).staging = true ∧
    ({ serving 0x40 [] with upd := { world.upd with banks := [Bank.empty, Bank.empty], sess := none } } : State).upd.sess = none ∧ ({ serving 0x40 [] with upd := { world.upd with banks := [Bank.empty, Bank.empty], sess := none } } : State).upd.pick = some 0 ∧ 0 < ({ serving 0x40 [] with upd := { world.upd with banks := [Bank.empty, Bank.empty], sess := none } } : State).upd.banks.length := by decide +kernel

theorem witness_UpdateSessionsRun_2 :
    true = true ∧ ({ world with upd := { world.upd with sess := some ⟨5, 0, false, 0⟩ } } : State).upd.sess = some (⟨5, 0, false, 0⟩ : UpdSess) ∧ (⟨5, 0, false, 0⟩ : UpdSess).open_ = false := by decide +kernel

theorem witness_UpdateSessionsRun_3 :
    ({ serving 0x41 [5, 0, 1] with upd := { world.upd with banks := [Bank.empty, Bank.empty], sess := some ⟨5, 0, true, 0⟩ } } : State).yx.serving = some (yxReq 0x41 [5, 0, 1] : YxReq) ∧ yxOp (yxReq 0x41 [5, 0, 1] : YxReq).frame = 0x41 ∧ ({ serving 0x41 [5, 0, 1] with upd := { world.upd with banks := [Bank.empty, Bank.empty], sess := some ⟨5, 0, true, 0⟩ } } : State).staging = true ∧
    ({ serving 0x41 [5, 0, 1] with upd := { world.upd with banks := [Bank.empty, Bank.empty], sess := some ⟨5, 0, true, 0⟩ } } : State).upd.sess = some (⟨5, 0, true, 0⟩ : UpdSess) ∧ (⟨5, 0, true, 0⟩ : UpdSess).open_ = true ∧ leAt (yxPayload (yxReq 0x41 [5, 0, 1] : YxReq).frame) 0 2 = (⟨5, 0, true, 0⟩ : UpdSess).id ∧ (⟨5, 0, true, 0⟩ : UpdSess).bank < ({ serving 0x41 [5, 0, 1] with upd := { world.upd with banks := [Bank.empty, Bank.empty], sess := some ⟨5, 0, true, 0⟩ } } : State).upd.banks.length ∧
    ({ serving 0x41 [5, 0, 1] with upd := { world.upd with banks := [Bank.empty, Bank.empty], sess := some ⟨5, 0, true, 0⟩ } } : State).headerStatus (({ serving 0x41 [5, 0, 1] with upd := { world.upd with banks := [Bank.empty, Bank.empty], sess := some ⟨5, 0, true, 0⟩ } } : State).upd.bank (⟨5, 0, true, 0⟩ : UpdSess).bank) (padTo 4096 ((yxPayload (yxReq 0x41 [5, 0, 1] : YxReq).frame).drop 2)) ≠ 0 := by decide +kernel

theorem witness_UpdateSessionsRun_4 :
    headWorld.yx.serving = some (yxReq 0x41 ([5, 0] ++ goodHead) : YxReq) ∧ yxOp (yxReq 0x41 ([5, 0] ++ goodHead) : YxReq).frame = 0x41 ∧ headWorld.staging = true ∧
    headWorld.upd.sess = some (⟨5, 0, true, 0⟩ : UpdSess) ∧ (⟨5, 0, true, 0⟩ : UpdSess).open_ = true ∧ leAt (yxPayload (yxReq 0x41 ([5, 0] ++ goodHead) : YxReq).frame) 0 2 = (⟨5, 0, true, 0⟩ : UpdSess).id ∧ (⟨5, 0, true, 0⟩ : UpdSess).bank < headWorld.upd.banks.length ∧
    headWorld.headerStatus (headWorld.upd.bank (⟨5, 0, true, 0⟩ : UpdSess).bank) (padTo 4096 ((yxPayload (yxReq 0x41 ([5, 0] ++ goodHead) : YxReq).frame).drop 2)) = 0 := by
  exact ⟨rfl, by decide +kernel, by decide +kernel, by decide +kernel, rfl, by decide +kernel, by decide +kernel, headWorld_status⟩

theorem witness_UpdateSessionsRun_5 :
    true = true ∧ ({ serving 0x42 [5, 0, 1, 0, 0, 0, 0, 9] with upd := { world.upd with banks := [{ (Bank.empty) with heads := [(1, goodHead.take 64)] }, Bank.empty], sess := some ⟨5, 0, true, 0⟩ } } : State).log.flush ≠ .emergency ∧ ({ serving 0x42 [5, 0, 1, 0, 0, 0, 0, 9] with upd := { world.upd with banks := [{ (Bank.empty) with heads := [(1, goodHead.take 64)] }, Bank.empty], sess := some ⟨5, 0, true, 0⟩ } } : State).yx.serving = some (yxReq 0x42 [5, 0, 1, 0, 0, 0, 0, 9] : YxReq) ∧ yxOp (yxReq 0x42 [5, 0, 1, 0, 0, 0, 0, 9] : YxReq).frame = 0x42 ∧ ({ serving 0x42 [5, 0, 1, 0, 0, 0, 0, 9] with upd := { world.upd with banks := [{ (Bank.empty) with heads := [(1, goodHead.take 64)] }, Bank.empty], sess := some ⟨5, 0, true, 0⟩ } } : State).staging = true ∧
    ({ serving 0x42 [5, 0, 1, 0, 0, 0, 0, 9] with upd := { world.upd with banks := [{ (Bank.empty) with heads := [(1, goodHead.take 64)] }, Bank.empty], sess := some ⟨5, 0, true, 0⟩ } } : State).upd.sess = some (⟨5, 0, true, 0⟩ : UpdSess) ∧ (⟨5, 0, true, 0⟩ : UpdSess).open_ = true ∧ leAt (yxPayload (yxReq 0x42 [5, 0, 1, 0, 0, 0, 0, 9] : YxReq).frame) 0 2 = (⟨5, 0, true, 0⟩ : UpdSess).id ∧ (⟨5, 0, true, 0⟩ : UpdSess).bank < ({ serving 0x42 [5, 0, 1, 0, 0, 0, 0, 9] with upd := { world.upd with banks := [{ (Bank.empty) with heads := [(1, goodHead.take 64)] }, Bank.empty], sess := some ⟨5, 0, true, 0⟩ } } : State).upd.banks.length ∧
    (({ serving 0x42 [5, 0, 1, 0, 0, 0, 0, 9] with upd := { world.upd with banks := [{ (Bank.empty) with heads := [(1, goodHead.take 64)] }, Bank.empty], sess := some ⟨5, 0, true, 0⟩ } } : State).upd.bank (⟨5, 0, true, 0⟩ : UpdSess).bank).head (leAt (yxPayload (yxReq 0x42 [5, 0, 1, 0, 0, 0, 0, 9] : YxReq).frame) 2 1) = some (goodHead.take 64 : List Byte) ∧ leAt (yxPayload (yxReq 0x42 [5, 0, 1, 0, 0, 0, 0, 9] : YxReq).frame) 3 4 % 4096 = 0 ∧ leAt (yxPayload (yxReq 0x42 [5, 0, 1, 0, 0, 0, 0, 9] : YxReq).frame) 3 4 < hdrLen (goodHead.take 64 : List Byte) ∧
    (({ serving 0x42 [5, 0, 1, 0, 0, 0, 0, 9] with upd := { world.upd with banks := [{ (Bank.empty) with heads := [(1, goodHead.take 64)] }, Bank.empty], sess := some ⟨5, 0, true, 0⟩ } } : State).upd.bank (⟨5, 0, true, 0⟩ : UpdSess).bank).block (leAt (yxPayload (yxReq 0x42 [5, 0, 1, 0, 0, 0, 0, 9] : YxReq).frame) 2 1) (leAt (yxPayload (yxReq 0x42 [5, 0, 1, 0, 0, 0, 0, 9] : YxReq).frame) 3 4) = none := by decide +kernel

theorem witness_UpdateSessionsRun_6 :
    ({ serving 0x44 [5, 0] with upd := { world.upd with banks := [Bank.empty, Bank.empty], sess := some ⟨5, 0, true, 0⟩ } } : State).yx.serving = some (yxReq 0x44 [5, 0] : YxReq) ∧ yxOp (yxReq 0x44 [5, 0] : YxReq).frame = 0x44 ∧ ({ serving 0x44 [5, 0] with upd := { world.upd with banks := [Bank.empty, Bank.empty], sess := some ⟨5, 0, true, 0⟩ } } : State).staging = true ∧
    ({ serving 0x44 [5, 0] with upd := { world.upd with banks := [Bank.empty, Bank.empty], sess := some ⟨5, 0, true, 0⟩ } } : State).upd.sess = some (⟨5, 0, true, 0⟩ : UpdSess) ∧ (⟨5, 0, true, 0⟩ : UpdSess).open_ = true ∧ leAt (yxPayload (yxReq 0x44 [5, 0] : YxReq).frame) 0 2 = (⟨5, 0, true, 0⟩ : UpdSess).id ∧ (⟨5, 0, true, 0⟩ : UpdSess).bank < ({ serving 0x44 [5, 0] with upd := { world.upd with banks := [Bank.empty, Bank.empty], sess := some ⟨5, 0, true, 0⟩ } } : State).upd.banks.length := by decide +kernel

theorem witness_UpdateSessionsRun_7 :
    (serving 0x45 [] : State).yx.serving = some (yxReq 0x45 [] : YxReq) ∧ yxOp (yxReq 0x45 [] : YxReq).frame = 0x45 := by decide +kernel

theorem witness_UpdateSessionsRun_8 :
    ({ world with time := { world.time with era := 200 }, upd := { world.upd with banks := [Bank.empty, Bank.empty], sess := some ⟨5, 0, true, 0⟩ } } : State).upd.sess = some (⟨5, 0, true, 0⟩ : UpdSess) ∧ (⟨5, 0, true, 0⟩ : UpdSess).last + 600000000000 ≤ ({ world with time := { world.time with era := 200 }, upd := { world.upd with banks := [Bank.empty, Bank.empty], sess := some ⟨5, 0, true, 0⟩ } } : State).now ∧ (⟨5, 0, true, 0⟩ : UpdSess).bank < ({ world with time := { world.time with era := 200 }, upd := { world.upd with banks := [Bank.empty, Bank.empty], sess := some ⟨5, 0, true, 0⟩ } } : State).upd.banks.length := by decide +kernel

theorem witness_FinalizeChecksTheSet_1 :
    ({ serving 0x43 [5, 0] with upd := { world.upd with banks := [Bank.empty, Bank.empty], sess := some ⟨5, 0, true, 0⟩ } } : State).yx.serving = some (yxReq 0x43 [5, 0] : YxReq) ∧ yxOp (yxReq 0x43 [5, 0] : YxReq).frame = 0x43 ∧ ({ serving 0x43 [5, 0] with upd := { world.upd with banks := [Bank.empty, Bank.empty], sess := some ⟨5, 0, true, 0⟩ } } : State).staging = true ∧
    ({ serving 0x43 [5, 0] with upd := { world.upd with banks := [Bank.empty, Bank.empty], sess := some ⟨5, 0, true, 0⟩ } } : State).upd.sess = some (⟨5, 0, true, 0⟩ : UpdSess) ∧ (⟨5, 0, true, 0⟩ : UpdSess).open_ = true ∧ leAt (yxPayload (yxReq 0x43 [5, 0] : YxReq).frame) 0 2 = (⟨5, 0, true, 0⟩ : UpdSess).id ∧
    (({ serving 0x43 [5, 0] with upd := { world.upd with banks := [Bank.empty, Bank.empty], sess := some ⟨5, 0, true, 0⟩ } } : State).upd.bank (⟨5, 0, true, 0⟩ : UpdSess).bank).heads = [] := by decide +kernel

theorem witness_FinalizeChecksTheSet_2 :
    finalWorld.yx.serving = some (yxReq 0x43 [5, 0] : YxReq) ∧ yxOp (yxReq 0x43 [5, 0] : YxReq).frame = 0x43 ∧ finalWorld.staging = true ∧ finalWorld.upd.sess = some (⟨5, 0, true, 0⟩ : UpdSess) ∧ (⟨5, 0, true, 0⟩ : UpdSess).open_ = true ∧ leAt (yxPayload (yxReq 0x43 [5, 0] : YxReq).frame) 0 2 = (⟨5, 0, true, 0⟩ : UpdSess).id ∧ (⟨5, 0, true, 0⟩ : UpdSess).bank < 2 ∧ finalWorld.upd.banks.length = 2 ∧
    (finalWorld.upd.bank (⟨5, 0, true, 0⟩ : UpdSess).bank).heads ≠ [] ∧ (finalWorld.upd.bank (⟨5, 0, true, 0⟩ : UpdSess).bank).heads.all (fun y => (finalWorld.upd.bank (⟨5, 0, true, 0⟩ : UpdSess).bank).full y.1 y.2) = true ∧ (finalWorld.upd.bank (⟨5, 0, true, 0⟩ : UpdSess).bank).head 4 = none ∧ ifConflict (finalWorld.upd.merged (finalWorld.upd.bank (⟨5, 0, true, 0⟩ : UpdSess).bank).heads) = none ∧
    (finalWorld.upd.bank (⟨5, 0, true, 0⟩ : UpdSess).bank).heads.all (fun y => hashOk y.2 ((finalWorld.upd.bank (⟨5, 0, true, 0⟩ : UpdSess).bank).image y.1 y.2)) = true := by
  refine ⟨?_, ?_, ?_, ?_, ?_, ?_, ?_, ?_, ?_, ?_, ?_, ?_, finalWorld_hash⟩ <;> decide +kernel

theorem witness_YupexOperationsAnswer_1 :
    (serving 0x01 [] : State).yx.serving = some (yxReq 0x01 [] : YxReq) ∧ yxOp (yxReq 0x01 [] : YxReq).frame = 0x01 := by decide +kernel

theorem witness_YupexOperationsAnswer_2 :
    (serving 0x10 [6] : State).yx.serving = some (yxReq 0x10 [6] : YxReq) ∧ yxOp (yxReq 0x10 [6] : YxReq).frame = 0x10 ∧
    leAt (yxPayload (yxReq 0x10 [6] : YxReq).frame) 0 1 = 6 ∧ (serving 0x10 [6] : State).mode ≠ .maintenance ∧ (serving 0x10 [6] : State).modeBusy = false := by decide +kernel

theorem witness_YupexOperationsAnswer_3 :
    (serving 0x10 [5] : State).yx.serving = some (yxReq 0x10 [5] : YxReq) ∧ yxOp (yxReq 0x10 [5] : YxReq).frame = 0x10 ∧
    leAt (yxPayload (yxReq 0x10 [5] : YxReq).frame) 0 1 = 5 ∧ (serving 0x10 [5] : State).modeBusy = false ∧ (serving 0x10 [5] : State).modeCheck .maintenance 0 = 0 := by decide +kernel

theorem witness_YupexOperationsAnswer_4 :
    (serving 0x11 [0] : State).yx.serving = some (yxReq 0x11 [0] : YxReq) ∧ yxOp (yxReq 0x11 [0] : YxReq).frame = 0x11 := by decide +kernel

theorem witness_YupexOperationsAnswer_5 :
    (put (serving 0x20 [0x18, 0, 2, 0x30, 0, 4]) [(bDsp, Rg.DSP_LOWWATER.LW_P, 77)] : State).yx.serving = some (yxReq 0x20 [0x18, 0, 2, 0x30, 0, 4] : YxReq) ∧ yxOp (yxReq 0x20 [0x18, 0, 2, 0x30, 0, 4] : YxReq).frame = 0x20 ∧ (put (serving 0x20 [0x18, 0, 2, 0x30, 0, 4]) [(bDsp, Rg.DSP_LOWWATER.LW_P, 77)] : State).on .mgmt = true ∧ (put (serving 0x20 [0x18, 0, 2, 0x30, 0, 4]) [(bDsp, Rg.DSP_LOWWATER.LW_P, 77)] : State).looks .host = true ∧
    leAt (yxPayload (yxReq 0x20 [0x18, 0, 2, 0x30, 0, 4] : YxReq).frame) 0 5 = 0x30020018 ∧ leAt (yxPayload (yxReq 0x20 [0x18, 0, 2, 0x30, 0, 4] : YxReq).frame) 5 1 = 4 := by decide +kernel

theorem witness_YupexOperationsAnswer_6 :
    (put (serving 0x21 [0x28, 0, 1, 0x30, 0, 4, 5, 0, 0, 0, 0, 0, 0, 0]) [(bPcie, Rg.PCIE_CFG.BAR0_WR, 1)] : State).yx.serving = some (yxReq 0x21 [0x28, 0, 1, 0x30, 0, 4, 5, 0, 0, 0, 0, 0, 0, 0] : YxReq) ∧ yxOp (yxReq 0x21 [0x28, 0, 1, 0x30, 0, 4, 5, 0, 0, 0, 0, 0, 0, 0] : YxReq).frame = 0x21 ∧ (put (serving 0x21 [0x28, 0, 1, 0x30, 0, 4, 5, 0, 0, 0, 0, 0, 0, 0]) [(bPcie, Rg.PCIE_CFG.BAR0_WR, 1)] : State).on .mgmt = true ∧ mayWriteService (put (serving 0x21 [0x28, 0, 1, 0x30, 0, 4, 5, 0, 0, 0, 0, 0, 0, 0]) [(bPcie, Rg.PCIE_CFG.BAR0_WR, 1)] : State) .host = true ∧
    leAt (yxPayload (yxReq 0x21 [0x28, 0, 1, 0x30, 0, 4, 5, 0, 0, 0, 0, 0, 0, 0] : YxReq).frame) 0 5 = 0x30010028 ∧ leAt (yxPayload (yxReq 0x21 [0x28, 0, 1, 0x30, 0, 4, 5, 0, 0, 0, 0, 0, 0, 0] : YxReq).frame) 5 1 = 4 := by decide +kernel

theorem witness_YupexOperationsAnswer_7 :
    ({ serving 0x30 [2] with upd := { world.upd with settings := [⟨2, 7, [1, 2]⟩] } } : State).yx.serving = some (yxReq 0x30 [2] : YxReq) ∧ yxOp (yxReq 0x30 [2] : YxReq).frame = 0x30 ∧
    ({ serving 0x30 [2] with upd := { world.upd with settings := [⟨2, 7, [1, 2]⟩] } } : State).upd.setting (leAt (yxPayload (yxReq 0x30 [2] : YxReq).frame) 0 1) = some (⟨2, 7, [1, 2]⟩ : Settings) ∧ (⟨2, 7, [1, 2]⟩ : Settings).rec_.length ≤ 4096 := by decide +kernel

theorem witness_YupexOperationsAnswer_8 :
    ({ serving 0x31 [2, 0, 0, 0, 0] with upd := { world.upd with active := [⟨2, [], []⟩] } } : State).yx.serving = some (yxReq 0x31 [2, 0, 0, 0, 0] : YxReq) ∧ yxOp (yxReq 0x31 [2, 0, 0, 0, 0] : YxReq).frame = 0x31 ∧
    ({ serving 0x31 [2, 0, 0, 0, 0] with upd := { world.upd with active := [⟨2, [], []⟩] } } : State).upd.settingsFmt (leAt (yxPayload (yxReq 0x31 [2, 0, 0, 0, 0] : YxReq).frame) 0 1) = some (leAt (yxPayload (yxReq 0x31 [2, 0, 0, 0, 0] : YxReq).frame) 1 2) ∧ (yxPayload (yxReq 0x31 [2, 0, 0, 0, 0] : YxReq).frame).length ≤ 5 := by decide +kernel

theorem witness_MailboxTakesRequests_1 :
    (mayMailbox world (.mp : Master) = true ∧ world.on .io = true ∧ ((.mp : Master) = .host → world.flag bPcie Rg.PCIE_STAT.LINK_UP = true)) ∧
    world.flag bYx Rg.YX_STAT.BUSY = false := by decide +kernel

theorem witness_MailboxTakesRequests_2 :
    (mayMailbox (put world [(bPcie, Rg.PCIE_STAT.LINK_UP, 1), (bYx, Rg.YX_STAT.RESP_RDY, 1)] : State) (.host : Master) = true ∧ (put world [(bPcie, Rg.PCIE_STAT.LINK_UP, 1), (bYx, Rg.YX_STAT.RESP_RDY, 1)] : State).on .io = true ∧ ((.host : Master) = .host → (put world [(bPcie, Rg.PCIE_STAT.LINK_UP, 1), (bYx, Rg.YX_STAT.RESP_RDY, 1)] : State).flag bPcie Rg.PCIE_STAT.LINK_UP = true)) := by decide +kernel

theorem witness_MailboxTakesRequests_3 :
    ({ world with yx := { world.yx with pcie := some (yxReq 0x01 []) } } : State).on .io = true ∧ ({ world with yx := { world.yx with pcie := some (yxReq 0x01 []) } } : State).yx.serving = none ∧ ({ world with yx := { world.yx with pcie := some (yxReq 0x01 []) } } : State).yx.queue = [] ∧ ({ world with yx := { world.yx with pcie := some (yxReq 0x01 []) } } : State).yx.pcie = some (yxReq 0x01 [] : YxReq) ∧ (yxReq 0x01 [] : YxReq).src = none ∧
    leAt (yxReq 0x01 [] : YxReq).frame 0 3 = 0x015859 ∧ yxBad (yxReq 0x01 [] : YxReq).frame = false ∧ ({ world with yx := { world.yx with pcie := some (yxReq 0x01 []) } } : State).yx.last.find? (fun l => l.req == (yxReq 0x01 [] : YxReq)) = none ∧
    yxOp (yxReq 0x01 [] : YxReq).frame ≠ 0x31 ∧ yxKnown (yxOp (yxReq 0x01 [] : YxReq).frame) = true := by decide +kernel

theorem witness_MailboxTakesRequests_4 :
    true = true ∧ world.on .io = true := by decide +kernel

theorem witness_MailboxTakesRequests_5 :
    true = true ∧ ({ world with pcie := { world.pcie with started := true, allowed := true } } : State).on .io = true ∧ ({ world with pcie := { world.pcie with started := true, allowed := true } } : State).pcie.started = true ∧ ({ world with pcie := { world.pcie with started := true, allowed := true } } : State).pcie.allowed = true ∧ ({ world with pcie := { world.pcie with started := true, allowed := true } } : State).flag bPcie Rg.PCIE_STAT.PERST = false ∧
    (1 ≤ 3 ∧ 3 ≤ 3 ∧ (4 = 1 ∨ 4 = 2 ∨ 4 = 4)) := by decide +kernel

theorem witness_MailboxTakesRequests_6 :
    (put world [(bPcie, Rg.PCIE_STAT.LINK_UP, 1), (bDsp, Rg.DSP_LOWWATER.LW_P, 5)] : State).on .io = true ∧ (put world [(bPcie, Rg.PCIE_STAT.LINK_UP, 1), (bDsp, Rg.DSP_LOWWATER.LW_P, 5)] : State).on .mgmt = true ∧ (put world [(bPcie, Rg.PCIE_STAT.LINK_UP, 1), (bDsp, Rg.DSP_LOWWATER.LW_P, 5)] : State).flag bPcie Rg.PCIE_STAT.LINK_UP = true ∧ (put world [(bPcie, Rg.PCIE_STAT.LINK_UP, 1), (bDsp, Rg.DSP_LOWWATER.LW_P, 5)] : State).looks .host = true ∧
    (0x3020018 : Nat) = 0x3020018 := by decide +kernel

theorem witness_MailboxTakesRequests_7 :
    (put world [(bPcie, Rg.PCIE_STAT.LINK_UP, 1)] : State).on .io = true ∧ (put world [(bPcie, Rg.PCIE_STAT.LINK_UP, 1)] : State).flag bPcie Rg.PCIE_STAT.LINK_UP = true ∧ bar0 (0x1800000 : Nat) = none := by decide +kernel

end Sys2Proof.Tests
end

