-- ==== Sys2Proof/Tests/Witness05.lean ====
section
/-! SUPPORT. Witnesses: for each clause of a statement a state and operands that meet its hypotheses. -/

set_option Elab.async false

open Sys2Proof Sys2Proof.Machine

namespace Sys2Proof.Tests

theorem witness_ScaleRunsToItsInstants_1 :
    world.timeRuns = true ∧ world.edgesToNext = 250000000 ∧ world.edgesToSecond = 250000000 ∧ Quiet world ∧
    world.time.rem = 0 ∧ world.time.armed = none ∧ world.time.leap = false ∧ world.time.leapDue = false ∧ world.time.stepped = none ∧ world.time.relab = none ∧ world.time.valid = [] ∧
    secUnits ≤ world.time.sec + 250000000 * world.inc ∧ world.time.ns * 2 ^ 32 + world.time.frac + 250000000 * world.inc < 2 ^ 64 := by decide +kernel

theorem witness_ScaleRunsToItsInstants_2 :
    (put { world with time := { world.time with ns := 2 ^ 32 - 4 } } [(bTime, Rg.TIME_STAT.ERA_PEND, 1), (bTime, Rg.TIME_ERA_NEXT.ERA, 1)] : State).timeRuns = true ∧ (put { world with time := { world.time with ns := 2 ^ 32 - 4 } } [(bTime, Rg.TIME_STAT.ERA_PEND, 1), (bTime, Rg.TIME_ERA_NEXT.ERA, 1)] : State).edgesToNext = 1 ∧ (put { world with time := { world.time with ns := 2 ^ 32 - 4 } } [(bTime, Rg.TIME_STAT.ERA_PEND, 1), (bTime, Rg.TIME_ERA_NEXT.ERA, 1)] : State).edgesToWrap = 1 ∧ (put { world with time := { world.time with ns := 2 ^ 32 - 4 } } [(bTime, Rg.TIME_STAT.ERA_PEND, 1), (bTime, Rg.TIME_ERA_NEXT.ERA, 1)] : State).time.rem = 0 ∧ (put { world with time := { world.time with ns := 2 ^ 32 - 4 } } [(bTime, Rg.TIME_STAT.ERA_PEND, 1), (bTime, Rg.TIME_ERA_NEXT.ERA, 1)] : State).time.armed = none ∧ (put { world with time := { world.time with ns := 2 ^ 32 - 4 } } [(bTime, Rg.TIME_STAT.ERA_PEND, 1), (bTime, Rg.TIME_ERA_NEXT.ERA, 1)] : State).time.leapDue = false ∧ (put { world with time := { world.time with ns := 2 ^ 32 - 4 } } [(bTime, Rg.TIME_STAT.ERA_PEND, 1), (bTime, Rg.TIME_ERA_NEXT.ERA, 1)] : State).time.stepped = none ∧ (put { world with time := { world.time with ns := 2 ^ 32 - 4 } } [(bTime, Rg.TIME_STAT.ERA_PEND, 1), (bTime, Rg.TIME_ERA_NEXT.ERA, 1)] : State).time.relab = none ∧ Quiet (put { world with time := { world.time with ns := 2 ^ 32 - 4 } } [(bTime, Rg.TIME_STAT.ERA_PEND, 1), (bTime, Rg.TIME_ERA_NEXT.ERA, 1)] : State) ∧
    2 ^ 64 ≤ (put { world with time := { world.time with ns := 2 ^ 32 - 4 } } [(bTime, Rg.TIME_STAT.ERA_PEND, 1), (bTime, Rg.TIME_ERA_NEXT.ERA, 1)] : State).time.ns * 2 ^ 32 + (put { world with time := { world.time with ns := 2 ^ 32 - 4 } } [(bTime, Rg.TIME_STAT.ERA_PEND, 1), (bTime, Rg.TIME_ERA_NEXT.ERA, 1)] : State).time.frac + 1 * (put { world with time := { world.time with ns := 2 ^ 32 - 4 } } [(bTime, Rg.TIME_STAT.ERA_PEND, 1), (bTime, Rg.TIME_ERA_NEXT.ERA, 1)] : State).inc ∧ (put { world with time := { world.time with ns := 2 ^ 32 - 4 } } [(bTime, Rg.TIME_STAT.ERA_PEND, 1), (bTime, Rg.TIME_ERA_NEXT.ERA, 1)] : State).time.sec + 1 * (put { world with time := { world.time with ns := 2 ^ 32 - 4 } } [(bTime, Rg.TIME_STAT.ERA_PEND, 1), (bTime, Rg.TIME_ERA_NEXT.ERA, 1)] : State).inc < secUnits ∧
    (put { world with time := { world.time with ns := 2 ^ 32 - 4 } } [(bTime, Rg.TIME_STAT.ERA_PEND, 1), (bTime, Rg.TIME_ERA_NEXT.ERA, 1)] : State).flag bTime Rg.TIME_STAT.ERA_PEND = true ∧ (put { world with time := { world.time with ns := 2 ^ 32 - 4 } } [(bTime, Rg.TIME_STAT.ERA_PEND, 1), (bTime, Rg.TIME_ERA_NEXT.ERA, 1)] : State).get bTime Rg.TIME_ERA_NEXT.ERA = (put { world with time := { world.time with ns := 2 ^ 32 - 4 } } [(bTime, Rg.TIME_STAT.ERA_PEND, 1), (bTime, Rg.TIME_ERA_NEXT.ERA, 1)] : State).time.era + 1 := by decide +kernel

theorem witness_ScaleRunsToItsInstants_3 :
    (put { world with time := { world.time with ns := 2 ^ 32 - 4 } } [(bTime, Rg.TIME_STAT.ERA_PEND, 1), (bTime, Rg.TIME_ERA_NEXT.ERA, 9)] : State).timeRuns = true ∧ (put { world with time := { world.time with ns := 2 ^ 32 - 4 } } [(bTime, Rg.TIME_STAT.ERA_PEND, 1), (bTime, Rg.TIME_ERA_NEXT.ERA, 9)] : State).edgesToNext = 1 ∧ (put { world with time := { world.time with ns := 2 ^ 32 - 4 } } [(bTime, Rg.TIME_STAT.ERA_PEND, 1), (bTime, Rg.TIME_ERA_NEXT.ERA, 9)] : State).edgesToWrap = 1 ∧ (put { world with time := { world.time with ns := 2 ^ 32 - 4 } } [(bTime, Rg.TIME_STAT.ERA_PEND, 1), (bTime, Rg.TIME_ERA_NEXT.ERA, 9)] : State).time.rem = 0 ∧ (put { world with time := { world.time with ns := 2 ^ 32 - 4 } } [(bTime, Rg.TIME_STAT.ERA_PEND, 1), (bTime, Rg.TIME_ERA_NEXT.ERA, 9)] : State).time.armed = none ∧ (put { world with time := { world.time with ns := 2 ^ 32 - 4 } } [(bTime, Rg.TIME_STAT.ERA_PEND, 1), (bTime, Rg.TIME_ERA_NEXT.ERA, 9)] : State).time.leapDue = false ∧ (put { world with time := { world.time with ns := 2 ^ 32 - 4 } } [(bTime, Rg.TIME_STAT.ERA_PEND, 1), (bTime, Rg.TIME_ERA_NEXT.ERA, 9)] : State).time.stepped = none ∧ (put { world with time := { world.time with ns := 2 ^ 32 - 4 } } [(bTime, Rg.TIME_STAT.ERA_PEND, 1), (bTime, Rg.TIME_ERA_NEXT.ERA, 9)] : State).time.relab = none ∧ Quiet (put { world with time := { world.time with ns := 2 ^ 32 - 4 } } [(bTime, Rg.TIME_STAT.ERA_PEND, 1), (bTime, Rg.TIME_ERA_NEXT.ERA, 9)] : State) ∧
    2 ^ 64 ≤ (put { world with time := { world.time with ns := 2 ^ 32 - 4 } } [(bTime, Rg.TIME_STAT.ERA_PEND, 1), (bTime, Rg.TIME_ERA_NEXT.ERA, 9)] : State).time.ns * 2 ^ 32 + (put { world with time := { world.time with ns := 2 ^ 32 - 4 } } [(bTime, Rg.TIME_STAT.ERA_PEND, 1), (bTime, Rg.TIME_ERA_NEXT.ERA, 9)] : State).time.frac + 1 * (put { world with time := { world.time with ns := 2 ^ 32 - 4 } } [(bTime, Rg.TIME_STAT.ERA_PEND, 1), (bTime, Rg.TIME_ERA_NEXT.ERA, 9)] : State).inc ∧ (put { world with time := { world.time with ns := 2 ^ 32 - 4 } } [(bTime, Rg.TIME_STAT.ERA_PEND, 1), (bTime, Rg.TIME_ERA_NEXT.ERA, 9)] : State).time.sec + 1 * (put { world with time := { world.time with ns := 2 ^ 32 - 4 } } [(bTime, Rg.TIME_STAT.ERA_PEND, 1), (bTime, Rg.TIME_ERA_NEXT.ERA, 9)] : State).inc < secUnits ∧
    (put { world with time := { world.time with ns := 2 ^ 32 - 4 } } [(bTime, Rg.TIME_STAT.ERA_PEND, 1), (bTime, Rg.TIME_ERA_NEXT.ERA, 9)] : State).flag bTime Rg.TIME_STAT.ERA_PEND = true := by decide +kernel

theorem witness_ScaleRunsToItsInstants_4 :
    ({ world with time := { world.time with rem := -100 } } : State).timeRuns = true ∧ ({ world with time := { world.time with rem := -100 } } : State).time.rem ≠ 0 ∧ ({ world with time := { world.time with rem := -100 } } : State).edgesToNext = 1 ∧ ({ world with time := { world.time with rem := -100 } } : State).slewed 1 = ({ world with time := { world.time with rem := -100 } } : State).time.rem.natAbs ∧ Quiet ({ world with time := { world.time with rem := -100 } } : State) ∧
    ({ world with time := { world.time with rem := -100 } } : State).time.armed = none ∧ ({ world with time := { world.time with rem := -100 } } : State).time.leapDue = false ∧ ({ world with time := { world.time with rem := -100 } } : State).time.stepped = none ∧ ({ world with time := { world.time with rem := -100 } } : State).time.relab = none ∧ ({ world with time := { world.time with rem := -100 } } : State).time.ns * 2 ^ 32 + ({ world with time := { world.time with rem := -100 } } : State).time.frac + ({ world with time := { world.time with rem := -100 } } : State).edgeSum 1 < 2 ^ 64 ∧ ({ world with time := { world.time with rem := -100 } } : State).time.sec + ({ world with time := { world.time with rem := -100 } } : State).edgeSum 1 < secUnits := by decide +kernel

theorem witness_ScaleRunsToItsInstants_5 :
    ({ world with time := { world.time with armed := some ⟨true, 77, 5⟩ } } : State).timeRuns = true ∧ ({ world with time := { world.time with armed := some ⟨true, 77, 5⟩ } } : State).edgesToNext = 250000000 ∧ ({ world with time := { world.time with armed := some ⟨true, 77, 5⟩ } } : State).edgesToSecond = 250000000 ∧ ({ world with time := { world.time with armed := some ⟨true, 77, 5⟩ } } : State).time.rem = 0 ∧ ({ world with time := { world.time with armed := some ⟨true, 77, 5⟩ } } : State).time.leap = false ∧ ({ world with time := { world.time with armed := some ⟨true, 77, 5⟩ } } : State).time.leapDue = false ∧ ({ world with time := { world.time with armed := some ⟨true, 77, 5⟩ } } : State).time.stepped = none ∧ ({ world with time := { world.time with armed := some ⟨true, 77, 5⟩ } } : State).time.relab = none ∧
    ({ world with time := { world.time with armed := some ⟨true, 77, 5⟩ } } : State).time.armed = some (⟨true, 77, 5⟩ : StepArm) ∧ (⟨true, 77, 5⟩ : StepArm).abs = true ∧ (⟨true, 77, 5⟩ : StepArm).wait ≤ 250000000 * ({ world with time := { world.time with armed := some ⟨true, 77, 5⟩ } } : State).inc ∧
    secUnits ≤ ({ world with time := { world.time with armed := some ⟨true, 77, 5⟩ } } : State).time.sec + 250000000 * ({ world with time := { world.time with armed := some ⟨true, 77, 5⟩ } } : State).inc ∧ ({ world with time := { world.time with armed := some ⟨true, 77, 5⟩ } } : State).time.ns * 2 ^ 32 + ({ world with time := { world.time with armed := some ⟨true, 77, 5⟩ } } : State).time.frac + 250000000 * ({ world with time := { world.time with armed := some ⟨true, 77, 5⟩ } } : State).inc < 2 ^ 64 := by decide +kernel

theorem witness_ScaleRunsToItsInstants_6 :
    (put { world with time := { world.time with leap := true } } [(bTime, Rg.UTC_CTRL.NEXT_OFS, 38)] : State).timeRuns = true ∧ (put { world with time := { world.time with leap := true } } [(bTime, Rg.UTC_CTRL.NEXT_OFS, 38)] : State).edgesToNext = 250000000 ∧ (put { world with time := { world.time with leap := true } } [(bTime, Rg.UTC_CTRL.NEXT_OFS, 38)] : State).edgesToSecond = 250000000 ∧ (put { world with time := { world.time with leap := true } } [(bTime, Rg.UTC_CTRL.NEXT_OFS, 38)] : State).time.rem = 0 ∧ (put { world with time := { world.time with leap := true } } [(bTime, Rg.UTC_CTRL.NEXT_OFS, 38)] : State).time.armed = none ∧ (put { world with time := { world.time with leap := true } } [(bTime, Rg.UTC_CTRL.NEXT_OFS, 38)] : State).time.leapDue = false ∧ (put { world with time := { world.time with leap := true } } [(bTime, Rg.UTC_CTRL.NEXT_OFS, 38)] : State).time.stepped = none ∧ (put { world with time := { world.time with leap := true } } [(bTime, Rg.UTC_CTRL.NEXT_OFS, 38)] : State).time.relab = none ∧ (put { world with time := { world.time with leap := true } } [(bTime, Rg.UTC_CTRL.NEXT_OFS, 38)] : State).time.valid = [] ∧ Quiet (put { world with time := { world.time with leap := true } } [(bTime, Rg.UTC_CTRL.NEXT_OFS, 38)] : State) ∧
    secUnits ≤ (put { world with time := { world.time with leap := true } } [(bTime, Rg.UTC_CTRL.NEXT_OFS, 38)] : State).time.sec + 250000000 * (put { world with time := { world.time with leap := true } } [(bTime, Rg.UTC_CTRL.NEXT_OFS, 38)] : State).inc ∧ (put { world with time := { world.time with leap := true } } [(bTime, Rg.UTC_CTRL.NEXT_OFS, 38)] : State).time.ns * 2 ^ 32 + (put { world with time := { world.time with leap := true } } [(bTime, Rg.UTC_CTRL.NEXT_OFS, 38)] : State).time.frac + 250000000 * (put { world with time := { world.time with leap := true } } [(bTime, Rg.UTC_CTRL.NEXT_OFS, 38)] : State).inc < 2 ^ 64 ∧
    (put { world with time := { world.time with leap := true } } [(bTime, Rg.UTC_CTRL.NEXT_OFS, 38)] : State).time.leap = true ∧ (put { world with time := { world.time with leap := true } } [(bTime, Rg.UTC_CTRL.NEXT_OFS, 38)] : State).get bTime Rg.LEAP_AT.INSTANT ≤ (put { world with time := { world.time with leap := true } } [(bTime, Rg.UTC_CTRL.NEXT_OFS, 38)] : State).now := by decide +kernel

theorem witness_TimeRegistersTakeWrites_1 :
    mayTime world (.tp : Master) = true ∧ world.on .time = true ∧ world.flag bTime Rg.TIME_CTRL.INC_SRC = false ∧
    0x3_FFCB_923A ≤ (0x4_0000_0001 : Nat) ∧ (0x4_0000_0001 : Nat) ≤ 0x4_0034_6DC6 := by decide +kernel

theorem witness_TimeRegistersTakeWrites_2 :
    mayTime world (.tp : Master) = true ∧ world.on .time = true ∧ world.time.ns < 0xFFF0_BDC0 := by decide +kernel

theorem witness_TimeRegistersTakeWrites_3 :
    mayTime ({ world with time := { world.time with rem := 7 } } : State) (.tp : Master) = true ∧ ({ world with time := { world.time with rem := 7 } } : State).on .time = true := by decide +kernel

theorem witness_TimeRegistersTakeWrites_4 :
    mayTime (put world [(bMpc, Rg.MODE_STAT.MODE, 1)] : State) (.tp : Master) = true ∧ (put world [(bMpc, Rg.MODE_STAT.MODE, 1)] : State).on .time = true ∧ (put world [(bMpc, Rg.MODE_STAT.MODE, 1)] : State).stepRefusal true ((put world [(bMpc, Rg.MODE_STAT.MODE, 1)] : State).get bTime Rg.TIME_STEP.VALUE) = 0 := by decide +kernel

theorem witness_TimeRegistersTakeWrites_5 :
    mayTime world (.tp : Master) = true ∧ world.on .time = true := by decide +kernel

theorem witness_TimeRegistersTakeWrites_6 :
    mayTime world (.tp : Master) = true ∧ world.on .time = true ∧ world.get bTime Rg.TIME_CTRL.STATE = 0 ∧ (0x33 : Nat) / 2 % 8 = 1 := by decide +kernel

theorem witness_TimeRegistersTakeWrites_7 :
    mayTime world (.tp : Master) = true ∧ world.on .time = true ∧ world.get bTime Rg.TIME_CTRL.STATE ≠ 3 := by decide +kernel

theorem witness_TimeRegistersTakeWrites_8 :
    mayTime (put { world with time := { world.time with terr := 9 } } [(bTime, Rg.TIME_CTRL.STATE, 3)] : State) (.tp : Master) = true ∧ (put { world with time := { world.time with terr := 9 } } [(bTime, Rg.TIME_CTRL.STATE, 3)] : State).on .time = true ∧ (put { world with time := { world.time with terr := 9 } } [(bTime, Rg.TIME_CTRL.STATE, 3)] : State).get bTime Rg.TIME_CTRL.STATE = 3 ∧ 5 % 2 ^ 32 ≤ (put { world with time := { world.time with terr := 9 } } [(bTime, Rg.TIME_CTRL.STATE, 3)] : State).time.terr := by decide +kernel

theorem witness_DisciplineFollowsItsSources_1 :
    (put world [(bTime, Rg.TIME_CTRL.STATE, 3), (bTime, Rg.TIME_HO.RATE, 6553600)] : State).get bTime Rg.TIME_CTRL.STATE = 3 := by decide +kernel

theorem witness_DisciplineFollowsItsSources_2 :
    (put world [(bTime, Rg.TIME_STAT.REF_OK, 1), (bTime, Rg.TIME_CTRL.STATE, 2), (bMpc, Rg.MODE_STAT.MODE, 1)] : State).power.vdd = true ∧ (put world [(bTime, Rg.TIME_STAT.REF_OK, 1), (bTime, Rg.TIME_CTRL.STATE, 2), (bMpc, Rg.MODE_STAT.MODE, 1)] : State).flag bTime Rg.TIME_STAT.REF_OK = true ∧ (put world [(bTime, Rg.TIME_STAT.REF_OK, 1), (bTime, Rg.TIME_CTRL.STATE, 2), (bMpc, Rg.MODE_STAT.MODE, 1)] : State).mode ≠ .service := by decide +kernel

theorem witness_DisciplineFollowsItsSources_3 :
    (put world [(bTime, Rg.TIME_STAT.REF_OK, 1), (bTime, Rg.TIME_CTRL.STATE, 2)] : State).power.vdd = true ∧ (put world [(bTime, Rg.TIME_STAT.REF_OK, 1), (bTime, Rg.TIME_CTRL.STATE, 2)] : State).flag bTime Rg.TIME_STAT.REF_OK = true ∧ (put world [(bTime, Rg.TIME_STAT.REF_OK, 1), (bTime, Rg.TIME_CTRL.STATE, 2)] : State).mode = .service ∧ (put world [(bTime, Rg.TIME_STAT.REF_OK, 1), (bTime, Rg.TIME_CTRL.STATE, 2)] : State).modeBusy = false ∧ (put world [(bTime, Rg.TIME_STAT.REF_OK, 1), (bTime, Rg.TIME_CTRL.STATE, 2)] : State).get bTime Rg.TIME_CTRL.STATE = 2 := by decide +kernel

theorem witness_DisciplineFollowsItsSources_4 :
    (put world [(bTime, Rg.TIME_STAT.REF_OK, 0)] : State).power.vdd = true ∧ (put world [(bTime, Rg.TIME_STAT.REF_OK, 0)] : State).flag bTime Rg.TIME_STAT.REF_OK = false ∧ (put world [(bTime, Rg.TIME_STAT.REF_OK, 0)] : State).time.valid = [] := by decide +kernel

theorem witness_DisciplineFollowsItsSources_5 :
    1 ≤ 2 ∧ 2 ≤ 4 ∧ (put world [(bTime, Rg.TPOL_SRC.PRI0, 2)] : State).srcRank 2 < 4 ∧ (put world [(bTime, Rg.TPOL_SRC.PRI0, 2)] : State).srcMeets 2 = true ∧ (put world [(bTime, Rg.TPOL_SRC.PRI0, 2)] : State).time.valid = [] ∧ (put world [(bTime, Rg.TPOL_SRC.PRI0, 2)] : State).time.sel = 0 ∧
    (put world [(bTime, Rg.TPOL_SRC.PRI0, 2)] : State).mode ≠ .bootstrap ∧ (put world [(bTime, Rg.TPOL_SRC.PRI0, 2)] : State).mode ≠ .dormant ∧ (put world [(bTime, Rg.TPOL_SRC.PRI0, 2)] : State).get bTime Rg.TIME_CTRL.STATE = 0 := by decide +kernel

theorem witness_DisciplineFollowsItsSources_6 :
    2 ≠ 0 ∧ 2 ≠ 5 ∧ (put { world with time := { world.time with valid := [⟨2, 0, false⟩], sel := 2 } } [(bTime, Rg.TIME_CTRL.STATE, 2), (bMpc, Rg.MODE_STAT.MODE, 1)] : State).time.sel = 2 ∧ (put { world with time := { world.time with valid := [⟨2, 0, false⟩], sel := 2 } } [(bTime, Rg.TIME_CTRL.STATE, 2), (bMpc, Rg.MODE_STAT.MODE, 1)] : State).time.valid = [(⟨2, 0, false⟩ : SrcValid)] ∧ (⟨2, 0, false⟩ : SrcValid).src = 2 ∧ (put { world with time := { world.time with valid := [⟨2, 0, false⟩], sel := 2 } } [(bTime, Rg.TIME_CTRL.STATE, 2), (bMpc, Rg.MODE_STAT.MODE, 1)] : State).srcGone 2 = true ∧ (put { world with time := { world.time with valid := [⟨2, 0, false⟩], sel := 2 } } [(bTime, Rg.TIME_CTRL.STATE, 2), (bMpc, Rg.MODE_STAT.MODE, 1)] : State).get bTime Rg.TIME_CTRL.STATE = 2 ∧ (put { world with time := { world.time with valid := [⟨2, 0, false⟩], sel := 2 } } [(bTime, Rg.TIME_CTRL.STATE, 2), (bMpc, Rg.MODE_STAT.MODE, 1)] : State).mode ≠ .service := by decide +kernel

theorem witness_StampsAndPulses_1 :
    world.timeRuns = true ∧ 2 ≤ 12 ∧ world.tdcFitted 2 = true ∧ world.flag (bTime + 2 * 0x10) Rg.TDC_SUB.POL = false ∧ world.time.edges.getD 2 (none, none) = (none, none) := by decide +kernel

theorem witness_StampsAndPulses_2 :
    ({ world with time := { world.time with flying := [(6, ⟨6, 9, 0, 0⟩)] } } : State).time.flying.find? (fun x => x.1 == 6) = some ((6, ⟨6, 9, 0, 0⟩) : Nat × Stamp) := by decide +kernel

theorem witness_StampsAndPulses_3 :
    1 < 4 ∧ 1 < (put { world with time := { world.time with pps := List.replicate 4 ⟨false, 0, true, false, 0, 0, 0, 0, none, false, (0, 0)⟩ } } [(bTime + 0x20, Rg.PPS_CFG.EN, 1), (bTime, Rg.TIME_CTRL.STATE, 2)] : State).time.pps.length ∧ (put { world with time := { world.time with pps := List.replicate 4 ⟨false, 0, true, false, 0, 0, 0, 0, none, false, (0, 0)⟩ } } [(bTime + 0x20, Rg.PPS_CFG.EN, 1), (bTime, Rg.TIME_CTRL.STATE, 2)] : State).timeRuns = true ∧ (put { world with time := { world.time with pps := List.replicate 4 ⟨false, 0, true, false, 0, 0, 0, 0, none, false, (0, 0)⟩ } } [(bTime + 0x20, Rg.PPS_CFG.EN, 1), (bTime, Rg.TIME_CTRL.STATE, 2)] : State).ppsReady 1 = true ∧ (put { world with time := { world.time with pps := List.replicate 4 ⟨false, 0, true, false, 0, 0, 0, 0, none, false, (0, 0)⟩ } } [(bTime + 0x20, Rg.PPS_CFG.EN, 1), (bTime, Rg.TIME_CTRL.STATE, 2)] : State).ppsPulses 1 = true ∧
    (((put { world with time := { world.time with pps := List.replicate 4 ⟨false, 0, true, false, 0, 0, 0, 0, none, false, (0, 0)⟩ } } [(bTime + 0x20, Rg.PPS_CFG.EN, 1), (bTime, Rg.TIME_CTRL.STATE, 2)] : State).ppsOut 1).due = true ∨ (put { world with time := { world.time with pps := List.replicate 4 ⟨false, 0, true, false, 0, 0, 0, 0, none, false, (0, 0)⟩ } } [(bTime + 0x20, Rg.PPS_CFG.EN, 1), (bTime, Rg.TIME_CTRL.STATE, 2)] : State).stepNext = false) := by decide +kernel

theorem witness_StampsAndPulses_4 :
    1 < 4 ∧ 1 < ({ world with time := { world.time with era := 9, pps := List.replicate 4 ⟨true, 0, false, false, 0, 0, 0, 0, none, false, (0, 0)⟩ } } : State).time.pps.length ∧ (({ world with time := { world.time with era := 9, pps := List.replicate 4 ⟨true, 0, false, false, 0, 0, 0, 0, none, false, (0, 0)⟩ } } : State).ppsOut 1).high = true ∧ (({ world with time := { world.time with era := 9, pps := List.replicate 4 ⟨true, 0, false, false, 0, 0, 0, 0, none, false, (0, 0)⟩ } } : State).ppsOut 1).rose + max 1 (({ world with time := { world.time with era := 9, pps := List.replicate 4 ⟨true, 0, false, false, 0, 0, 0, 0, none, false, (0, 0)⟩ } } : State).get (ppsBase 1) Rg.PPS_CFG.WIDTH) * 1000 ≤ ({ world with time := { world.time with era := 9, pps := List.replicate 4 ⟨true, 0, false, false, 0, 0, 0, 0, none, false, (0, 0)⟩ } } : State).nowNs := by decide +kernel

theorem witness_StampsAndPulses_5 :
    mayTime (put world [(bTime + 0x20, Rg.PPS_CFG.EN, 1)] : State) (.tp : Master) = true ∧ (put world [(bTime + 0x20, Rg.PPS_CFG.EN, 1)] : State).on .time = true ∧ 1 < 4 ∧ 1 < (put world [(bTime + 0x20, Rg.PPS_CFG.EN, 1)] : State).time.pps.length ∧
    (put world [(bTime + 0x20, Rg.PPS_CFG.EN, 1)] : State).get (ppsBase 1) Rg.PPS_CFG.WIDTH ≤ 400000 ∧ (put world [(bTime + 0x20, Rg.PPS_CFG.EN, 1)] : State).ppsEn 1 = true := by decide +kernel

theorem witness_StampsAndPulses_6 :
    1 < 4 ∧ 1 < ({ world with time := { world.time with era := 9, pps := List.replicate 4 ⟨true, 0, false, false, 0, 0, 0, 0, some (some 0), false, (0, 0)⟩ } } : State).time.pps.length ∧ (({ world with time := { world.time with era := 9, pps := List.replicate 4 ⟨true, 0, false, false, 0, 0, 0, 0, some (some 0), false, (0, 0)⟩ } } : State).ppsOut 1).meas = some (some 0) ∧ 0 + 500000000 ≤ ({ world with time := { world.time with era := 9, pps := List.replicate 4 ⟨true, 0, false, false, 0, 0, 0, 0, some (some 0), false, (0, 0)⟩ } } : State).nowNs ∧ (({ world with time := { world.time with era := 9, pps := List.replicate 4 ⟨true, 0, false, false, 0, 0, 0, 0, some (some 0), false, (0, 0)⟩ } } : State).ppsOut 1).launch = false ∧ ({ world with time := { world.time with era := 9, pps := List.replicate 4 ⟨true, 0, false, false, 0, 0, 0, 0, some (some 0), false, (0, 0)⟩ } } : State).ppsMoved 1 = false := by decide +kernel

theorem witness_StampsAndPulses_7 :
    1 < 4 ∧ 1 < ({ world with time := { world.time with pps := List.replicate 4 ⟨true, 0, false, false, 0, 0, 0, 0, some none, true, (0, 0)⟩ } } : State).time.pps.length ∧ (({ world with time := { world.time with pps := List.replicate 4 ⟨true, 0, false, false, 0, 0, 0, 0, some none, true, (0, 0)⟩ } } : State).ppsOut 1).launch = true ∧ 40000 ≤ 20000000 := by decide +kernel

end Sys2Proof.Tests
end

