-- ==== Sys2Proof/Tests/Witness06.lean ====
section
/-! SUPPORT. Witnesses: for each clause of a statement a state and operands that meet its hypotheses. -/

set_option Elab.async false

open Sys2Proof Sys2Proof.Machine

namespace Sys2Proof.Tests

theorem witness_LoopCommandsTakeEffect_1 :
    17 < 64 ∧ mayLoop world (.gauntlet : Master) 17 = true ∧ world.on .fb = true ∧ world.chanOn .loop 17 = true ∧
    world.flag (lpBase 17) Rg.LP_CTRL.EN = false ∧ (world.loopCtl 17 true false).loopRefusal 17 = 0 := by decide +kernel

theorem witness_LoopCommandsTakeEffect_2 :
    17 < 64 ∧ mayLoop (put world [(lpBase 17, Rg.LP_CTRL.EN, 1)] : State) (.gauntlet : Master) 17 = true ∧ (put world [(lpBase 17, Rg.LP_CTRL.EN, 1)] : State).on .fb = true ∧ (put world [(lpBase 17, Rg.LP_CTRL.EN, 1)] : State).chanOn .loop 17 = true := by decide +kernel

theorem witness_LoopCommandsTakeEffect_3 :
    17 < 64 ∧ (put { world with loops := List.replicate 64 { (LoopLane.off) with nxt := some 0 } } [(lpBase 17, Rg.LP_CTRL.EN, 1), (lpBase 17, Rg.LP_MAN.VALUE, 99), (lpBase 17, Rg.LP_SP.VALUE, 50)] : State).loopEn 17 = true ∧ (put { world with loops := List.replicate 64 { (LoopLane.off) with nxt := some 0 } } [(lpBase 17, Rg.LP_CTRL.EN, 1), (lpBase 17, Rg.LP_MAN.VALUE, 99), (lpBase 17, Rg.LP_SP.VALUE, 50)] : State).loopDue 17 = true ∧ (put { world with loops := List.replicate 64 { (LoopLane.off) with nxt := some 0 } } [(lpBase 17, Rg.LP_CTRL.EN, 1), (lpBase 17, Rg.LP_MAN.VALUE, 99), (lpBase 17, Rg.LP_SP.VALUE, 50)] : State).loopState 17 = 1 ∧ (List.range 16).any (fun k => (put { world with loops := List.replicate 64 { (LoopLane.off) with nxt := some 0 } } [(lpBase 17, Rg.LP_CTRL.EN, 1), (lpBase 17, Rg.LP_MAN.VALUE, 99), (lpBase 17, Rg.LP_SP.VALUE, 50)] : State).loopTurn 17 (17 / 16 * 16 + k)) = false ∧
    (put { world with loops := List.replicate 64 { (LoopLane.off) with nxt := some 0 } } [(lpBase 17, Rg.LP_CTRL.EN, 1), (lpBase 17, Rg.LP_MAN.VALUE, 99), (lpBase 17, Rg.LP_SP.VALUE, 50)] : State).flag (lpBase 17) Rg.LP_CFG.FF_TABLE = false ∧ (put { world with loops := List.replicate 64 { (LoopLane.off) with nxt := some 0 } } [(lpBase 17, Rg.LP_CTRL.EN, 1), (lpBase 17, Rg.LP_MAN.VALUE, 99), (lpBase 17, Rg.LP_SP.VALUE, 50)] : State).flag (lpBase 17) Rg.LP_CFG.FF_RC = false := by decide +kernel

theorem witness_LoopCommandsTakeEffect_4 :
    17 < 64 ∧ (put { world with loops := List.replicate 64 { (LoopLane.off) with nxt := some 0 } } [(lpBase 17, Rg.LP_CTRL.EN, 1), (lpBase 17, Rg.LP_CTRL.AUTO, 1), (lpBase 17, Rg.LP_STAT.STATE, 2), (lpBase 17, Rg.LP_KP.GAIN, 65536), (lpBase 17, Rg.LP_SP.VALUE, 50), (lpBase 17, Rg.LP_OUTLIM.OUT_MIN, 2 ^ 32 - 1), (lpBase 17, Rg.LP_OUTLIM.OUT_MAX, 10)] : State).loopEn 17 = true ∧ (put { world with loops := List.replicate 64 { (LoopLane.off) with nxt := some 0 } } [(lpBase 17, Rg.LP_CTRL.EN, 1), (lpBase 17, Rg.LP_CTRL.AUTO, 1), (lpBase 17, Rg.LP_STAT.STATE, 2), (lpBase 17, Rg.LP_KP.GAIN, 65536), (lpBase 17, Rg.LP_SP.VALUE, 50), (lpBase 17, Rg.LP_OUTLIM.OUT_MIN, 2 ^ 32 - 1), (lpBase 17, Rg.LP_OUTLIM.OUT_MAX, 10)] : State).loopDue 17 = true ∧ (put { world with loops := List.replicate 64 { (LoopLane.off) with nxt := some 0 } } [(lpBase 17, Rg.LP_CTRL.EN, 1), (lpBase 17, Rg.LP_CTRL.AUTO, 1), (lpBase 17, Rg.LP_STAT.STATE, 2), (lpBase 17, Rg.LP_KP.GAIN, 65536), (lpBase 17, Rg.LP_SP.VALUE, 50), (lpBase 17, Rg.LP_OUTLIM.OUT_MIN, 2 ^ 32 - 1), (lpBase 17, Rg.LP_OUTLIM.OUT_MAX, 10)] : State).loopState 17 = 2 ∧ (put { world with loops := List.replicate 64 { (LoopLane.off) with nxt := some 0 } } [(lpBase 17, Rg.LP_CTRL.EN, 1), (lpBase 17, Rg.LP_CTRL.AUTO, 1), (lpBase 17, Rg.LP_STAT.STATE, 2), (lpBase 17, Rg.LP_KP.GAIN, 65536), (lpBase 17, Rg.LP_SP.VALUE, 50), (lpBase 17, Rg.LP_OUTLIM.OUT_MIN, 2 ^ 32 - 1), (lpBase 17, Rg.LP_OUTLIM.OUT_MAX, 10)] : State).get (lpBase 17) Rg.LP_STAT.STATE = 2 ∧ ((put { world with loops := List.replicate 64 { (LoopLane.off) with nxt := some 0 } } [(lpBase 17, Rg.LP_CTRL.EN, 1), (lpBase 17, Rg.LP_CTRL.AUTO, 1), (lpBase 17, Rg.LP_STAT.STATE, 2), (lpBase 17, Rg.LP_KP.GAIN, 65536), (lpBase 17, Rg.LP_SP.VALUE, 50), (lpBase 17, Rg.LP_OUTLIM.OUT_MIN, 2 ^ 32 - 1), (lpBase 17, Rg.LP_OUTLIM.OUT_MAX, 10)] : State).loop 17).enter = none ∧ ((put { world with loops := List.replicate 64 { (LoopLane.off) with nxt := some 0 } } [(lpBase 17, Rg.LP_CTRL.EN, 1), (lpBase 17, Rg.LP_CTRL.AUTO, 1), (lpBase 17, Rg.LP_STAT.STATE, 2), (lpBase 17, Rg.LP_KP.GAIN, 65536), (lpBase 17, Rg.LP_SP.VALUE, 50), (lpBase 17, Rg.LP_OUTLIM.OUT_MIN, 2 ^ 32 - 1), (lpBase 17, Rg.LP_OUTLIM.OUT_MAX, 10)] : State).loop 17).stepSeen = false ∧ (List.range 16).any (fun k => (put { world with loops := List.replicate 64 { (LoopLane.off) with nxt := some 0 } } [(lpBase 17, Rg.LP_CTRL.EN, 1), (lpBase 17, Rg.LP_CTRL.AUTO, 1), (lpBase 17, Rg.LP_STAT.STATE, 2), (lpBase 17, Rg.LP_KP.GAIN, 65536), (lpBase 17, Rg.LP_SP.VALUE, 50), (lpBase 17, Rg.LP_OUTLIM.OUT_MIN, 2 ^ 32 - 1), (lpBase 17, Rg.LP_OUTLIM.OUT_MAX, 10)] : State).loopTurn 17 (17 / 16 * 16 + k)) = false ∧
    (put { world with loops := List.replicate 64 { (LoopLane.off) with nxt := some 0 } } [(lpBase 17, Rg.LP_CTRL.EN, 1), (lpBase 17, Rg.LP_CTRL.AUTO, 1), (lpBase 17, Rg.LP_STAT.STATE, 2), (lpBase 17, Rg.LP_KP.GAIN, 65536), (lpBase 17, Rg.LP_SP.VALUE, 50), (lpBase 17, Rg.LP_OUTLIM.OUT_MIN, 2 ^ 32 - 1), (lpBase 17, Rg.LP_OUTLIM.OUT_MAX, 10)] : State).flag (lpBase 17) Rg.LP_CFG.FF_TABLE = false ∧ (put { world with loops := List.replicate 64 { (LoopLane.off) with nxt := some 0 } } [(lpBase 17, Rg.LP_CTRL.EN, 1), (lpBase 17, Rg.LP_CTRL.AUTO, 1), (lpBase 17, Rg.LP_STAT.STATE, 2), (lpBase 17, Rg.LP_KP.GAIN, 65536), (lpBase 17, Rg.LP_SP.VALUE, 50), (lpBase 17, Rg.LP_OUTLIM.OUT_MIN, 2 ^ 32 - 1), (lpBase 17, Rg.LP_OUTLIM.OUT_MAX, 10)] : State).flag (lpBase 17) Rg.LP_CFG.FF_RC = false ∧ (put { world with loops := List.replicate 64 { (LoopLane.off) with nxt := some 0 } } [(lpBase 17, Rg.LP_CTRL.EN, 1), (lpBase 17, Rg.LP_CTRL.AUTO, 1), (lpBase 17, Rg.LP_STAT.STATE, 2), (lpBase 17, Rg.LP_KP.GAIN, 65536), (lpBase 17, Rg.LP_SP.VALUE, 50), (lpBase 17, Rg.LP_OUTLIM.OUT_MIN, 2 ^ 32 - 1), (lpBase 17, Rg.LP_OUTLIM.OUT_MAX, 10)] : State).flag (lpBase 17) Rg.LP_CFG.DERIV_PV = false ∧
    (⟨50, 0, 0, 65536, 0, -65536, 655360, 0⟩ : LoopIn) = ⟨q64 ((put { world with loops := List.replicate 64 { (LoopLane.off) with nxt := some 0 } } [(lpBase 17, Rg.LP_CTRL.EN, 1), (lpBase 17, Rg.LP_CTRL.AUTO, 1), (lpBase 17, Rg.LP_STAT.STATE, 2), (lpBase 17, Rg.LP_KP.GAIN, 65536), (lpBase 17, Rg.LP_SP.VALUE, 50), (lpBase 17, Rg.LP_OUTLIM.OUT_MIN, 2 ^ 32 - 1), (lpBase 17, Rg.LP_OUTLIM.OUT_MAX, 10)] : State).spIn 17 - (put { world with loops := List.replicate 64 { (LoopLane.off) with nxt := some 0 } } [(lpBase 17, Rg.LP_CTRL.EN, 1), (lpBase 17, Rg.LP_CTRL.AUTO, 1), (lpBase 17, Rg.LP_STAT.STATE, 2), (lpBase 17, Rg.LP_KP.GAIN, 65536), (lpBase 17, Rg.LP_SP.VALUE, 50), (lpBase 17, Rg.LP_OUTLIM.OUT_MIN, 2 ^ 32 - 1), (lpBase 17, Rg.LP_OUTLIM.OUT_MAX, 10)] : State).pvIn 17), loopDeriv ((put { world with loops := List.replicate 64 { (LoopLane.off) with nxt := some 0 } } [(lpBase 17, Rg.LP_CTRL.EN, 1), (lpBase 17, Rg.LP_CTRL.AUTO, 1), (lpBase 17, Rg.LP_STAT.STATE, 2), (lpBase 17, Rg.LP_KP.GAIN, 65536), (lpBase 17, Rg.LP_SP.VALUE, 50), (lpBase 17, Rg.LP_OUTLIM.OUT_MIN, 2 ^ 32 - 1), (lpBase 17, Rg.LP_OUTLIM.OUT_MAX, 10)] : State).getS (lpBase 17) Rg.LP_KD.GAIN) ((put { world with loops := List.replicate 64 { (LoopLane.off) with nxt := some 0 } } [(lpBase 17, Rg.LP_CTRL.EN, 1), (lpBase 17, Rg.LP_CTRL.AUTO, 1), (lpBase 17, Rg.LP_STAT.STATE, 2), (lpBase 17, Rg.LP_KP.GAIN, 65536), (lpBase 17, Rg.LP_SP.VALUE, 50), (lpBase 17, Rg.LP_OUTLIM.OUT_MIN, 2 ^ 32 - 1), (lpBase 17, Rg.LP_OUTLIM.OUT_MAX, 10)] : State).getS (lpBase 17) Rg.LP_N.GAIN) ((put { world with loops := List.replicate 64 { (LoopLane.off) with nxt := some 0 } } [(lpBase 17, Rg.LP_CTRL.EN, 1), (lpBase 17, Rg.LP_CTRL.AUTO, 1), (lpBase 17, Rg.LP_STAT.STATE, 2), (lpBase 17, Rg.LP_KP.GAIN, 65536), (lpBase 17, Rg.LP_SP.VALUE, 50), (lpBase 17, Rg.LP_OUTLIM.OUT_MIN, 2 ^ 32 - 1), (lpBase 17, Rg.LP_OUTLIM.OUT_MAX, 10)] : State).getS (lpBase 17) Rg.LP_D.VALUE) (q64 ((put { world with loops := List.replicate 64 { (LoopLane.off) with nxt := some 0 } } [(lpBase 17, Rg.LP_CTRL.EN, 1), (lpBase 17, Rg.LP_CTRL.AUTO, 1), (lpBase 17, Rg.LP_STAT.STATE, 2), (lpBase 17, Rg.LP_KP.GAIN, 65536), (lpBase 17, Rg.LP_SP.VALUE, 50), (lpBase 17, Rg.LP_OUTLIM.OUT_MIN, 2 ^ 32 - 1), (lpBase 17, Rg.LP_OUTLIM.OUT_MAX, 10)] : State).spIn 17 - (put { world with loops := List.replicate 64 { (LoopLane.off) with nxt := some 0 } } [(lpBase 17, Rg.LP_CTRL.EN, 1), (lpBase 17, Rg.LP_CTRL.AUTO, 1), (lpBase 17, Rg.LP_STAT.STATE, 2), (lpBase 17, Rg.LP_KP.GAIN, 65536), (lpBase 17, Rg.LP_SP.VALUE, 50), (lpBase 17, Rg.LP_OUTLIM.OUT_MIN, 2 ^ 32 - 1), (lpBase 17, Rg.LP_OUTLIM.OUT_MAX, 10)] : State).pvIn 17) - ((put { world with loops := List.replicate 64 { (LoopLane.off) with nxt := some 0 } } [(lpBase 17, Rg.LP_CTRL.EN, 1), (lpBase 17, Rg.LP_CTRL.AUTO, 1), (lpBase 17, Rg.LP_STAT.STATE, 2), (lpBase 17, Rg.LP_KP.GAIN, 65536), (lpBase 17, Rg.LP_SP.VALUE, 50), (lpBase 17, Rg.LP_OUTLIM.OUT_MIN, 2 ^ 32 - 1), (lpBase 17, Rg.LP_OUTLIM.OUT_MAX, 10)] : State).loop 17).xprev) ((put { world with loops := List.replicate 64 { (LoopLane.off) with nxt := some 0 } } [(lpBase 17, Rg.LP_CTRL.EN, 1), (lpBase 17, Rg.LP_CTRL.AUTO, 1), (lpBase 17, Rg.LP_STAT.STATE, 2), (lpBase 17, Rg.LP_KP.GAIN, 65536), (lpBase 17, Rg.LP_SP.VALUE, 50), (lpBase 17, Rg.LP_OUTLIM.OUT_MIN, 2 ^ 32 - 1), (lpBase 17, Rg.LP_OUTLIM.OUT_MAX, 10)] : State).loop 17).period, 0, (put { world with loops := List.replicate 64 { (LoopLane.off) with nxt := some 0 } } [(lpBase 17, Rg.LP_CTRL.EN, 1), (lpBase 17, Rg.LP_CTRL.AUTO, 1), (lpBase 17, Rg.LP_STAT.STATE, 2), (lpBase 17, Rg.LP_KP.GAIN, 65536), (lpBase 17, Rg.LP_SP.VALUE, 50), (lpBase 17, Rg.LP_OUTLIM.OUT_MIN, 2 ^ 32 - 1), (lpBase 17, Rg.LP_OUTLIM.OUT_MAX, 10)] : State).getS (lpBase 17) Rg.LP_KP.GAIN, (put { world with loops := List.replicate 64 { (LoopLane.off) with nxt := some 0 } } [(lpBase 17, Rg.LP_CTRL.EN, 1), (lpBase 17, Rg.LP_CTRL.AUTO, 1), (lpBase 17, Rg.LP_STAT.STATE, 2), (lpBase 17, Rg.LP_KP.GAIN, 65536), (lpBase 17, Rg.LP_SP.VALUE, 50), (lpBase 17, Rg.LP_OUTLIM.OUT_MIN, 2 ^ 32 - 1), (lpBase 17, Rg.LP_OUTLIM.OUT_MAX, 10)] : State).getS (lpBase 17) Rg.LP_KI.GAIN, (put { world with loops := List.replicate 64 { (LoopLane.off) with nxt := some 0 } } [(lpBase 17, Rg.LP_CTRL.EN, 1), (lpBase 17, Rg.LP_CTRL.AUTO, 1), (lpBase 17, Rg.LP_STAT.STATE, 2), (lpBase 17, Rg.LP_KP.GAIN, 65536), (lpBase 17, Rg.LP_SP.VALUE, 50), (lpBase 17, Rg.LP_OUTLIM.OUT_MIN, 2 ^ 32 - 1), (lpBase 17, Rg.LP_OUTLIM.OUT_MAX, 10)] : State).getS (lpBase 17) Rg.LP_OUTLIM.OUT_MIN * 65536, (put { world with loops := List.replicate 64 { (LoopLane.off) with nxt := some 0 } } [(lpBase 17, Rg.LP_CTRL.EN, 1), (lpBase 17, Rg.LP_CTRL.AUTO, 1), (lpBase 17, Rg.LP_STAT.STATE, 2), (lpBase 17, Rg.LP_KP.GAIN, 65536), (lpBase 17, Rg.LP_SP.VALUE, 50), (lpBase 17, Rg.LP_OUTLIM.OUT_MIN, 2 ^ 32 - 1), (lpBase 17, Rg.LP_OUTLIM.OUT_MAX, 10)] : State).getS (lpBase 17) Rg.LP_OUTLIM.OUT_MAX * 65536, ((put { world with loops := List.replicate 64 { (LoopLane.off) with nxt := some 0 } } [(lpBase 17, Rg.LP_CTRL.EN, 1), (lpBase 17, Rg.LP_CTRL.AUTO, 1), (lpBase 17, Rg.LP_STAT.STATE, 2), (lpBase 17, Rg.LP_KP.GAIN, 65536), (lpBase 17, Rg.LP_SP.VALUE, 50), (lpBase 17, Rg.LP_OUTLIM.OUT_MIN, 2 ^ 32 - 1), (lpBase 17, Rg.LP_OUTLIM.OUT_MAX, 10)] : State).loop 17).period⟩ := by decide +kernel

theorem witness_LoopCommandsTakeEffect_5 :
    0 < 64 ∧ ((put { world with loops := List.replicate 64 { (LoopLane.off) with out := some (1, 0, -5) } } [(bTime, Rg.EFC_CFG.EN, 1)] : State).loop 0).out = some (1, 0, (-5 : Int)) ∧ (put { world with loops := List.replicate 64 { (LoopLane.off) with out := some (1, 0, -5) } } [(bTime, Rg.EFC_CFG.EN, 1)] : State).flag bTime Rg.EFC_CFG.EN = true := by decide +kernel

theorem witness_LoopCommandsTakeEffect_6 :
    17 < 64 ∧ (put world [(lpBase 17, Rg.LP_CTRL.EN, 1), (lpBase 17, Rg.LP_TIMING.STALE_MAX, 4)] : State).loopEn 17 = true ∧ (put world [(lpBase 17, Rg.LP_CTRL.EN, 1), (lpBase 17, Rg.LP_TIMING.STALE_MAX, 4)] : State).get (lpBase 17) Rg.LP_TIMING.STALE_MAX ≠ 0 ∧ (put world [(lpBase 17, Rg.LP_CTRL.EN, 1), (lpBase 17, Rg.LP_TIMING.STALE_MAX, 4)] : State).get (lpBase 17) Rg.LP_STAT.HOLD_CAUSE % 2 = 0 ∧
    ((put world [(lpBase 17, Rg.LP_CTRL.EN, 1), (lpBase 17, Rg.LP_TIMING.STALE_MAX, 4)] : State).loop 17).sampleAt + (put world [(lpBase 17, Rg.LP_CTRL.EN, 1), (lpBase 17, Rg.LP_TIMING.STALE_MAX, 4)] : State).get (lpBase 17) Rg.LP_TIMING.STALE_MAX * ((put world [(lpBase 17, Rg.LP_CTRL.EN, 1), (lpBase 17, Rg.LP_TIMING.STALE_MAX, 4)] : State).loop 17).period * 1000 ≤ (put world [(lpBase 17, Rg.LP_CTRL.EN, 1), (lpBase 17, Rg.LP_TIMING.STALE_MAX, 4)] : State).nowNs := by decide +kernel

theorem witness_LoopCommandsTakeEffect_7 :
    17 < 64 ∧ (put world [(lpBase 17, Rg.LP_CTRL.EN, 1), (lpBase 17, Rg.LP_SAT.SAT_TIME, 400000), (lpBase 17, Rg.LP_SAT.SAT_ACT, 1), (lpBase 17, Rg.LP_SAT.SAT_LIM, 5), (lpBase 17, Rg.LP_U.VALUE, 77)] : State).loopEn 17 = true ∧ (put world [(lpBase 17, Rg.LP_CTRL.EN, 1), (lpBase 17, Rg.LP_SAT.SAT_TIME, 400000), (lpBase 17, Rg.LP_SAT.SAT_ACT, 1), (lpBase 17, Rg.LP_SAT.SAT_LIM, 5), (lpBase 17, Rg.LP_U.VALUE, 77)] : State).satLim 17 < (put world [(lpBase 17, Rg.LP_CTRL.EN, 1), (lpBase 17, Rg.LP_SAT.SAT_TIME, 400000), (lpBase 17, Rg.LP_SAT.SAT_ACT, 1), (lpBase 17, Rg.LP_SAT.SAT_LIM, 5), (lpBase 17, Rg.LP_U.VALUE, 77)] : State).get (lpBase 17) Rg.LP_SAT.SAT_TIME ∧ ((put world [(lpBase 17, Rg.LP_CTRL.EN, 1), (lpBase 17, Rg.LP_SAT.SAT_TIME, 400000), (lpBase 17, Rg.LP_SAT.SAT_ACT, 1), (lpBase 17, Rg.LP_SAT.SAT_LIM, 5), (lpBase 17, Rg.LP_U.VALUE, 77)] : State).loop 17).satFired = false ∧ (put world [(lpBase 17, Rg.LP_CTRL.EN, 1), (lpBase 17, Rg.LP_SAT.SAT_TIME, 400000), (lpBase 17, Rg.LP_SAT.SAT_ACT, 1), (lpBase 17, Rg.LP_SAT.SAT_LIM, 5), (lpBase 17, Rg.LP_U.VALUE, 77)] : State).get (lpBase 17) Rg.LP_SAT.SAT_ACT = 1 := by decide +kernel

theorem witness_LoopCommandsTakeEffect_8 :
    17 < 64 ∧ mayLoop world (.gauntlet : Master) 17 = true ∧ world.on .fb = true ∧ world.chanOn .loop 17 = true := by decide +kernel

theorem witness_LoopCommandsTakeEffect_9 :
    17 < 64 ∧ (put world [(lpBase 17, Rg.LP_STAT.RC_BUSY, 1), (lpBase 17, Rg.LP_RC_STAT.POS, 9)] : State).chanOn .loop 17 = true ∧ (put world [(lpBase 17, Rg.LP_STAT.RC_BUSY, 1), (lpBase 17, Rg.LP_RC_STAT.POS, 9)] : State).flag (lpBase 17) Rg.LP_STAT.RC_BUSY = true ∧ (put world [(lpBase 17, Rg.LP_STAT.RC_BUSY, 1), (lpBase 17, Rg.LP_RC_STAT.POS, 9)] : State).rcPlace 17 = false := by decide +kernel

theorem witness_LoopCommandsTakeEffect_10 :
    17 < 64 ∧ (put { world with img := { fullImg with areas := [⟨1, 19, 0, 0, 0, 4096, 0, 0⟩] } } [(lpBase 17, Rg.LP_STAT.RC_BUSY, 1), (lpBase 17, Rg.LP_RC.LEN, 4), (lpBase 17, Rg.LP_RC.LEAD, 1)] : State).chanOn .loop 17 = true ∧ (put { world with img := { fullImg with areas := [⟨1, 19, 0, 0, 0, 4096, 0, 0⟩] } } [(lpBase 17, Rg.LP_STAT.RC_BUSY, 1), (lpBase 17, Rg.LP_RC.LEN, 4), (lpBase 17, Rg.LP_RC.LEAD, 1)] : State).flag (lpBase 17) Rg.LP_STAT.RC_BUSY = true ∧ (put { world with img := { fullImg with areas := [⟨1, 19, 0, 0, 0, 4096, 0, 0⟩] } } [(lpBase 17, Rg.LP_STAT.RC_BUSY, 1), (lpBase 17, Rg.LP_RC.LEN, 4), (lpBase 17, Rg.LP_RC.LEAD, 1)] : State).rcPlace 17 = true := by decide +kernel

theorem witness_LoopCommandsTakeEffect_11 :
    0 < 4 ∧ ({ withLink { testLink with rc := ⟨1, 22, 9, 0, 0, false, false, 13, 0, 0xFF⟩ } with rx := [(1, ⟨0x1000, [7], false⟩)] } : State).item ((tilePositions .loop).getD 0 99) 0x10 = some (22, (⟨0x1000, [7], false⟩ : QPkt)) ∧
    (pktLane (⟨0x1000, [7], false⟩ : QPkt).lw < 16 → ({ withLink { testLink with rc := ⟨1, 22, 9, 0, 0, false, false, 13, 0, 0xFF⟩ } with rx := [(1, ⟨0x1000, [7], false⟩)] } : State).flag (lpBase (0 * 16 + pktLane (⟨0x1000, [7], false⟩ : QPkt).lw)) Rg.LP_CFG.CT_SVC = false) := by decide +kernel

theorem witness_LoopCommandsTakeEffect_12 :
    0 < 4 ∧ (put { withLink { testLink with rc := ⟨1, 22, 9, 0, 0, false, false, 13, 0, 0xFF⟩ } with img := { fullImg with areas := [⟨1, 9, 0, 0, 0, 8192, 0, 0⟩] }, rx := [(1, ⟨0x1000, [0], false⟩)] } [(lpBase 0, Rg.LP_CFG.CT_SVC, 1)] : State).item ((tilePositions .loop).getD 0 99) 0x10 = some (22, (⟨0x1000, [0], false⟩ : QPkt)) ∧ 0 = 0 * 16 + pktLane (⟨0x1000, [0], false⟩ : QPkt).lw ∧ pktLane (⟨0x1000, [0], false⟩ : QPkt).lw < 16 ∧
    (put { withLink { testLink with rc := ⟨1, 22, 9, 0, 0, false, false, 13, 0, 0xFF⟩ } with img := { fullImg with areas := [⟨1, 9, 0, 0, 0, 8192, 0, 0⟩] }, rx := [(1, ⟨0x1000, [0], false⟩)] } [(lpBase 0, Rg.LP_CFG.CT_SVC, 1)] : State).chanOn .loop 0 = true ∧ (put { withLink { testLink with rc := ⟨1, 22, 9, 0, 0, false, false, 13, 0, 0xFF⟩ } with img := { fullImg with areas := [⟨1, 9, 0, 0, 0, 8192, 0, 0⟩] }, rx := [(1, ⟨0x1000, [0], false⟩)] } [(lpBase 0, Rg.LP_CFG.CT_SVC, 1)] : State).flag (lpBase 0) Rg.LP_CFG.CT_SVC = true ∧ (put { withLink { testLink with rc := ⟨1, 22, 9, 0, 0, false, false, 13, 0, 0xFF⟩ } with img := { fullImg with areas := [⟨1, 9, 0, 0, 0, 8192, 0, 0⟩] }, rx := [(1, ⟨0x1000, [0], false⟩)] } [(lpBase 0, Rg.LP_CFG.CT_SVC, 1)] : State).tableOk 0 = true ∧
    ((put { withLink { testLink with rc := ⟨1, 22, 9, 0, 0, false, false, 13, 0, 0xFF⟩ } with img := { fullImg with areas := [⟨1, 9, 0, 0, 0, 8192, 0, 0⟩] }, rx := [(1, ⟨0x1000, [0], false⟩)] } [(lpBase 0, Rg.LP_CFG.CT_SVC, 1)] : State).taken ((tilePositions .loop).getD 0 99) 0x10).lookAt 0 (bits 0 16 ((⟨0x1000, [0], false⟩ : QPkt).data.headD 0)) (sgn 16 (bits 16 16 ((⟨0x1000, [0], false⟩ : QPkt).data.headD 0))) (sgn 32 (bits 0 32 ((⟨0x1000, [0], false⟩ : QPkt).data.headD 0))) = (((State.taken (put { withLink { testLink with rc := ⟨1, 22, 9, 0, 0, false, false, 13, 0, 0xFF⟩ } with img := { fullImg with areas := [⟨1, 9, 0, 0, 0, 8192, 0, 0⟩] }, rx := [(1, ⟨0x1000, [0], false⟩)] } [(lpBase 0, Rg.LP_CFG.CT_SVC, 1)]) 9 0x10) : State), (⟨0, false, none⟩ : Look)) ∧ (⟨0, false, none⟩ : Look).bad = none := by decide +kernel

end Sys2Proof.Tests
end

