-- ==== Sys2Proof/Tests/Witness07.lean ====
section
/-! SUPPORT. Witnesses: for each clause of a statement a state and operands that meet its hypotheses. -/

set_option Elab.async false

open Sys2Proof Sys2Proof.Machine

namespace Sys2Proof.Tests

theorem witness_RfPortsRunAndFail_1 :
    mayWriteService world (.mp : Master) = true ∧ world.on .io = true ∧ world.rfFitted 0 = true ∧ world.chainOff (.mp : Master) = false ∧ world.feedDup 0 = false ∧
    world.flag (rfBase 0) Rg.RF_CFG.EN = false ∧ world.flag (rfBase 0) Rg.RF_CFG.FE_MANUAL = false ∧
    descKnown (⟨[0x46, 0x45, 1, 0, 0, 0, 0, 0xFF, 0xFF, 80, 0, 0, 0, 0, 0x40, 0x1F, 0, 0, 0, 0, 0, 0, 0, 0, 0, 0, 0, 0, 0, 0, 0, 0xC7], [1, 0, 0, 0, 0x40, 0x1F, 0], trainBits 0xD8 * 8, trainBits 0x17 * 8⟩ : FeProbe).desc = true ∧ world.descFits 0 (⟨[0x46, 0x45, 1, 0, 0, 0, 0, 0xFF, 0xFF, 80, 0, 0, 0, 0, 0x40, 0x1F, 0, 0, 0, 0, 0, 0, 0, 0, 0, 0, 0, 0, 0, 0, 0, 0xC7], [1, 0, 0, 0, 0x40, 0x1F, 0], trainBits 0xD8 * 8, trainBits 0x17 * 8⟩ : FeProbe).desc = true ∧ rateOk (leAt (⟨[0x46, 0x45, 1, 0, 0, 0, 0, 0xFF, 0xFF, 80, 0, 0, 0, 0, 0x40, 0x1F, 0, 0, 0, 0, 0, 0, 0, 0, 0, 0, 0, 0, 0, 0, 0, 0xC7], [1, 0, 0, 0, 0x40, 0x1F, 0], trainBits 0xD8 * 8, trainBits 0x17 * 8⟩ : FeProbe).again 4 3) (leAt (⟨[0x46, 0x45, 1, 0, 0, 0, 0, 0xFF, 0xFF, 80, 0, 0, 0, 0, 0x40, 0x1F, 0, 0, 0, 0, 0, 0, 0, 0, 0, 0, 0, 0, 0, 0, 0, 0xC7], [1, 0, 0, 0, 0x40, 0x1F, 0], trainBits 0xD8 * 8, trainBits 0x17 * 8⟩ : FeProbe).desc 9 1) = true ∧ alignOf (⟨[0x46, 0x45, 1, 0, 0, 0, 0, 0xFF, 0xFF, 80, 0, 0, 0, 0, 0x40, 0x1F, 0, 0, 0, 0, 0, 0, 0, 0, 0, 0, 0, 0, 0, 0, 0, 0xC7], [1, 0, 0, 0, 0x40, 0x1F, 0], trainBits 0xD8 * 8, trainBits 0x17 * 8⟩ : FeProbe) = some (⟨true, false, false, true, 3⟩ : Sys2Proof.Alignment) := by decide +kernel

theorem witness_RfPortsRunAndFail_2 :
    mayWriteService (put world [(rfBase 1, Rg.RF_CFG.EN, 1), (rfBase 1, Rg.RF_CFG.FE_MANUAL, 1)] : State) (.mp : Master) = true ∧ (put world [(rfBase 1, Rg.RF_CFG.EN, 1), (rfBase 1, Rg.RF_CFG.FE_MANUAL, 1)] : State).on .io = true ∧ (put world [(rfBase 1, Rg.RF_CFG.EN, 1), (rfBase 1, Rg.RF_CFG.FE_MANUAL, 1)] : State).rfFitted 1 = true ∧ (put world [(rfBase 1, Rg.RF_CFG.EN, 1), (rfBase 1, Rg.RF_CFG.FE_MANUAL, 1)] : State).chainOff (.mp : Master) = false ∧ (put world [(rfBase 1, Rg.RF_CFG.EN, 1), (rfBase 1, Rg.RF_CFG.FE_MANUAL, 1)] : State).feedDup 1 = false ∧
    (put world [(rfBase 1, Rg.RF_CFG.EN, 1), (rfBase 1, Rg.RF_CFG.FE_MANUAL, 1)] : State).flag (rfBase 1) Rg.RF_CFG.EN = true ∧ (put world [(rfBase 1, Rg.RF_CFG.EN, 1), (rfBase 1, Rg.RF_CFG.FE_MANUAL, 1)] : State).flag (rfBase 1) Rg.RF_CFG.FE_MANUAL = true ∧ (put world [(rfBase 1, Rg.RF_CFG.EN, 1), (rfBase 1, Rg.RF_CFG.FE_MANUAL, 1)] : State).flag (rfBase 1) Rg.RF_CFG.MAN_TRAIN = false := by decide +kernel

theorem witness_RfPortsRunAndFail_3 :
    (put world [(rfBase 1, Rg.RF_STAT.STATE, 3)] : State).rfRun 1 = true := by decide +kernel

theorem witness_RfPortsRunAndFail_4 :
    (put world [(rfBase 1, Rg.RF_CFG.EN, 1), (rfBase 1, Rg.RF_CFG.FE_MANUAL, 1), (rfBase 1, Rg.RF_STAT.STATE, 4), (rfBase 1, Rg.RF_STAT.FAIL_CODE, 4), (rfBase 1, Rg.RF_CFG.AUTO_RETRAIN, 1)] : State).rfFitted 1 = true ∧ (put world [(rfBase 1, Rg.RF_CFG.EN, 1), (rfBase 1, Rg.RF_CFG.FE_MANUAL, 1), (rfBase 1, Rg.RF_STAT.STATE, 4), (rfBase 1, Rg.RF_STAT.FAIL_CODE, 4), (rfBase 1, Rg.RF_CFG.AUTO_RETRAIN, 1)] : State).get (rfBase 1) Rg.RF_STAT.STATE = 4 ∧ (put world [(rfBase 1, Rg.RF_CFG.EN, 1), (rfBase 1, Rg.RF_CFG.FE_MANUAL, 1), (rfBase 1, Rg.RF_STAT.STATE, 4), (rfBase 1, Rg.RF_STAT.FAIL_CODE, 4), (rfBase 1, Rg.RF_CFG.AUTO_RETRAIN, 1)] : State).get (rfBase 1) Rg.RF_STAT.FAIL_CODE = 4 ∧ (put world [(rfBase 1, Rg.RF_CFG.EN, 1), (rfBase 1, Rg.RF_CFG.FE_MANUAL, 1), (rfBase 1, Rg.RF_STAT.STATE, 4), (rfBase 1, Rg.RF_STAT.FAIL_CODE, 4), (rfBase 1, Rg.RF_CFG.AUTO_RETRAIN, 1)] : State).flag (rfBase 1) Rg.RF_CFG.AUTO_RETRAIN = true ∧
    (put world [(rfBase 1, Rg.RF_CFG.EN, 1), (rfBase 1, Rg.RF_CFG.FE_MANUAL, 1), (rfBase 1, Rg.RF_STAT.STATE, 4), (rfBase 1, Rg.RF_STAT.FAIL_CODE, 4), (rfBase 1, Rg.RF_CFG.AUTO_RETRAIN, 1)] : State).flag (rfBase 1) Rg.RF_CFG.EN = true ∧ (put world [(rfBase 1, Rg.RF_CFG.EN, 1), (rfBase 1, Rg.RF_CFG.FE_MANUAL, 1), (rfBase 1, Rg.RF_STAT.STATE, 4), (rfBase 1, Rg.RF_STAT.FAIL_CODE, 4), (rfBase 1, Rg.RF_CFG.AUTO_RETRAIN, 1)] : State).flag (rfBase 1) Rg.RF_CFG.FE_MANUAL = true ∧ (put world [(rfBase 1, Rg.RF_CFG.EN, 1), (rfBase 1, Rg.RF_CFG.FE_MANUAL, 1), (rfBase 1, Rg.RF_STAT.STATE, 4), (rfBase 1, Rg.RF_STAT.FAIL_CODE, 4), (rfBase 1, Rg.RF_CFG.AUTO_RETRAIN, 1)] : State).flag (rfBase 1) Rg.RF_CFG.MAN_TRAIN = false ∧ (put world [(rfBase 1, Rg.RF_CFG.EN, 1), (rfBase 1, Rg.RF_CFG.FE_MANUAL, 1), (rfBase 1, Rg.RF_STAT.STATE, 4), (rfBase 1, Rg.RF_STAT.FAIL_CODE, 4), (rfBase 1, Rg.RF_CFG.AUTO_RETRAIN, 1)] : State).feedDup 1 = false ∧ (put world [(rfBase 1, Rg.RF_CFG.EN, 1), (rfBase 1, Rg.RF_CFG.FE_MANUAL, 1), (rfBase 1, Rg.RF_STAT.STATE, 4), (rfBase 1, Rg.RF_STAT.FAIL_CODE, 4), (rfBase 1, Rg.RF_CFG.AUTO_RETRAIN, 1)] : State).chainOff .host = false := by decide +kernel

theorem witness_RfPortsRunAndFail_5 :
    (put world [(rfBase 1, Rg.RF_STAT.STATE, 3), (rfBase 1, Rg.RF_FE_FREQ.RATE, 8000)] : State).rfRun 1 = true := by decide +kernel

theorem witness_RfPortsRunAndFail_6 :
    mayWriteService (put { world with gnss := { world.gnss with ports := List.replicate 8 RfPort.off } } [(rfBase 1, Rg.RF_STAT.STATE, 3)] : State) (.mp : Master) = true ∧ (put { world with gnss := { world.gnss with ports := List.replicate 8 RfPort.off } } [(rfBase 1, Rg.RF_STAT.STATE, 3)] : State).on .io = true ∧ (put { world with gnss := { world.gnss with ports := List.replicate 8 RfPort.off } } [(rfBase 1, Rg.RF_STAT.STATE, 3)] : State).rfRun 1 = true ∧ 1 < (put { world with gnss := { world.gnss with ports := List.replicate 8 RfPort.off } } [(rfBase 1, Rg.RF_STAT.STATE, 3)] : State).gnss.ports.length := by decide +kernel

theorem witness_RfPortsRunAndFail_7 :
    (({ world with gnss := { world.gnss with ports := List.replicate 8 { (RfPort.off) with learn := some (-7, 5, 1000) } } } : State).rfPort 1).learn = some ((-7 : Int), 5, 1000) ∧ 1000 ≤ 1000 ∧ 1 < 8 := by decide +kernel

theorem witness_RfPortsRunAndFail_8 :
    (put { world with gnss := { world.gnss with ports := List.replicate 8 RfPort.off } } [(rfBase 1, Rg.RF_STAT.STATE, 3), (notchBase 1 0, Rg.RF_NOTCH.MODE, 2)] : State).rfRun 1 = true ∧ (put { world with gnss := { world.gnss with ports := List.replicate 8 RfPort.off } } [(rfBase 1, Rg.RF_STAT.STATE, 3), (notchBase 1 0, Rg.RF_NOTCH.MODE, 2)] : State).get (notchBase 1 0) Rg.RF_NOTCH.MODE = 2 ∧ (put { world with gnss := { world.gnss with ports := List.replicate 8 RfPort.off } } [(rfBase 1, Rg.RF_STAT.STATE, 3), (notchBase 1 0, Rg.RF_NOTCH.MODE, 2)] : State).get (notchBase 1 0) Rg.RF_NOTCH.ENGAGED = 0 ∧
    (put { world with gnss := { world.gnss with ports := List.replicate 8 RfPort.off } } [(rfBase 1, Rg.RF_STAT.STATE, 3), (notchBase 1 0, Rg.RF_NOTCH.MODE, 2)] : State).get (notchBase 1 1) Rg.RF_NOTCH.MODE ≠ 2 ∧ (put { world with gnss := { world.gnss with ports := List.replicate 8 RfPort.off } } [(rfBase 1, Rg.RF_STAT.STATE, 3), (notchBase 1 0, Rg.RF_NOTCH.MODE, 2)] : State).get (notchBase 1 2) Rg.RF_NOTCH.MODE ≠ 2 ∧ (put { world with gnss := { world.gnss with ports := List.replicate 8 RfPort.off } } [(rfBase 1, Rg.RF_STAT.STATE, 3), (notchBase 1 0, Rg.RF_NOTCH.MODE, 2)] : State).get (notchBase 1 3) Rg.RF_NOTCH.MODE ≠ 2 ∧
    specPeaks ((put { world with gnss := { world.gnss with ports := List.replicate 8 RfPort.off } } [(rfBase 1, Rg.RF_STAT.STATE, 3), (notchBase 1 0, Rg.RF_NOTCH.MODE, 2)] : State).get (rfBase 1) Rg.RF_NOTCH_CFG.DET_THR) (List.replicate 512 1 ++ 1000 :: List.replicate 511 1 : List Nat) = (512, 1000) :: ([] : List (Nat × Nat)) := by decide +kernel

theorem witness_RfPortsRunAndFail_9 :
    (put { world with gnss := { world.gnss with ports := List.replicate 8 { (RfPort.off) with bias := 1 } } } [(rfBase 1, Rg.RF_STAT.STATE, 3), (rfBase 1, Rg.RF_CFG.BIAS_FEED, 1), (rfBase 1, Rg.RF_BIAS.SHORT_MA, 100)] : State).feeding 1 = true ∧ ((put { world with gnss := { world.gnss with ports := List.replicate 8 { (RfPort.off) with bias := 1 } } } [(rfBase 1, Rg.RF_STAT.STATE, 3), (rfBase 1, Rg.RF_CFG.BIAS_FEED, 1), (rfBase 1, Rg.RF_BIAS.SHORT_MA, 100)] : State).rfPort 1).retry = none ∧ (put { world with gnss := { world.gnss with ports := List.replicate 8 { (RfPort.off) with bias := 1 } } } [(rfBase 1, Rg.RF_STAT.STATE, 3), (rfBase 1, Rg.RF_CFG.BIAS_FEED, 1), (rfBase 1, Rg.RF_BIAS.SHORT_MA, 100)] : State).get (rfBase 1) Rg.RF_BIAS.STATE ≠ 3 ∧
    (put { world with gnss := { world.gnss with ports := List.replicate 8 { (RfPort.off) with bias := 1 } } } [(rfBase 1, Rg.RF_STAT.STATE, 3), (rfBase 1, Rg.RF_CFG.BIAS_FEED, 1), (rfBase 1, Rg.RF_BIAS.SHORT_MA, 100)] : State).get (rfBase 1) Rg.RF_BIAS.SHORT_MA * 4 < min 900 1023 := by decide +kernel

theorem witness_RfPortsRunAndFail_10 :
    (put { world with gnss := { world.gnss with ports := List.replicate 8 { (RfPort.off) with bias := 2 } }, time := { world.time with ns := 2000000000 } } [(rfBase 1, Rg.RF_CFG.BIAS_FEED, 1), (rfBase 1, Rg.RF_BIAS.STATE, 3), (rfBase 1, Rg.RF_BIAS.RETRY_S, 0)] : State).feeding 1 = true ∧ (put { world with gnss := { world.gnss with ports := List.replicate 8 { (RfPort.off) with bias := 2 } }, time := { world.time with ns := 2000000000 } } [(rfBase 1, Rg.RF_CFG.BIAS_FEED, 1), (rfBase 1, Rg.RF_BIAS.STATE, 3), (rfBase 1, Rg.RF_BIAS.RETRY_S, 0)] : State).get (rfBase 1) Rg.RF_BIAS.STATE = 3 ∧ ((put { world with gnss := { world.gnss with ports := List.replicate 8 { (RfPort.off) with bias := 2 } }, time := { world.time with ns := 2000000000 } } [(rfBase 1, Rg.RF_CFG.BIAS_FEED, 1), (rfBase 1, Rg.RF_BIAS.STATE, 3), (rfBase 1, Rg.RF_BIAS.RETRY_S, 0)] : State).rfPort 1).retry = none ∧ 1 < (put { world with gnss := { world.gnss with ports := List.replicate 8 { (RfPort.off) with bias := 2 } }, time := { world.time with ns := 2000000000 } } [(rfBase 1, Rg.RF_CFG.BIAS_FEED, 1), (rfBase 1, Rg.RF_BIAS.STATE, 3), (rfBase 1, Rg.RF_BIAS.RETRY_S, 0)] : State).gnss.ports.length ∧
    ((put { world with gnss := { world.gnss with ports := List.replicate 8 { (RfPort.off) with bias := 2 } }, time := { world.time with ns := 2000000000 } } [(rfBase 1, Rg.RF_CFG.BIAS_FEED, 1), (rfBase 1, Rg.RF_BIAS.STATE, 3), (rfBase 1, Rg.RF_BIAS.RETRY_S, 0)] : State).rfPort 1).short + max 1 ((put { world with gnss := { world.gnss with ports := List.replicate 8 { (RfPort.off) with bias := 2 } }, time := { world.time with ns := 2000000000 } } [(rfBase 1, Rg.RF_CFG.BIAS_FEED, 1), (rfBase 1, Rg.RF_BIAS.STATE, 3), (rfBase 1, Rg.RF_BIAS.RETRY_S, 0)] : State).get (rfBase 1) Rg.RF_BIAS.RETRY_S) * 1000000000 ≤ (put { world with gnss := { world.gnss with ports := List.replicate 8 { (RfPort.off) with bias := 2 } }, time := { world.time with ns := 2000000000 } } [(rfBase 1, Rg.RF_CFG.BIAS_FEED, 1), (rfBase 1, Rg.RF_BIAS.STATE, 3), (rfBase 1, Rg.RF_BIAS.RETRY_S, 0)] : State).nowNs := by decide +kernel

theorem witness_SearchesAndChannelsRun_1 :
    9 < 32 ∧ mayWriteService (put { world with img := { fullImg with areas := [⟨1, 10, 0, 0, 0, 1048576, 0, 0⟩] } } [(rfBase 0, Rg.RF_STAT.STATE, 3), (rfBase 0, Rg.RF_FE_FREQ.CENTRE, 1575420), (rfBase 0, Rg.RF_FE_FREQ.RATE, 8000), (aqBase 9, Rg.AQ_REQ.SVID, 5)] : State) (.mp : Master) = true ∧ (put { world with img := { fullImg with areas := [⟨1, 10, 0, 0, 0, 1048576, 0, 0⟩] } } [(rfBase 0, Rg.RF_STAT.STATE, 3), (rfBase 0, Rg.RF_FE_FREQ.CENTRE, 1575420), (rfBase 0, Rg.RF_FE_FREQ.RATE, 8000), (aqBase 9, Rg.AQ_REQ.SVID, 5)] : State).chanOn .acq 9 = true ∧
    (put { world with img := { fullImg with areas := [⟨1, 10, 0, 0, 0, 1048576, 0, 0⟩] } } [(rfBase 0, Rg.RF_STAT.STATE, 3), (rfBase 0, Rg.RF_FE_FREQ.CENTRE, 1575420), (rfBase 0, Rg.RF_FE_FREQ.RATE, 8000), (aqBase 9, Rg.AQ_REQ.SVID, 5)] : State).chainOff (.mp : Master) = false ∧ (put { world with img := { fullImg with areas := [⟨1, 10, 0, 0, 0, 1048576, 0, 0⟩] } } [(rfBase 0, Rg.RF_STAT.STATE, 3), (rfBase 0, Rg.RF_FE_FREQ.CENTRE, 1575420), (rfBase 0, Rg.RF_FE_FREQ.RATE, 8000), (aqBase 9, Rg.AQ_REQ.SVID, 5)] : State).flag (aqBase 9) Rg.AQ_CTRL.BUSY = false ∧ (put { world with img := { fullImg with areas := [⟨1, 10, 0, 0, 0, 1048576, 0, 0⟩] } } [(rfBase 0, Rg.RF_STAT.STATE, 3), (rfBase 0, Rg.RF_FE_FREQ.CENTRE, 1575420), (rfBase 0, Rg.RF_FE_FREQ.RATE, 8000), (aqBase 9, Rg.AQ_REQ.SVID, 5)] : State).acqRefusal 9 = 0 := by decide +kernel

theorem witness_SearchesAndChannelsRun_2 :
    9 < 32 ∧ mayWriteService (put world [(aqBase 9, Rg.AQ_CTRL.BUSY, 1)] : State) (.mp : Master) = true ∧ (put world [(aqBase 9, Rg.AQ_CTRL.BUSY, 1)] : State).chanOn .acq 9 = true ∧
    (put world [(aqBase 9, Rg.AQ_CTRL.BUSY, 1)] : State).flag (aqBase 9) Rg.AQ_CTRL.BUSY = true := by decide +kernel

theorem witness_SearchesAndChannelsRun_3 :
    9 < 32 ∧ (put world [(aqBase 9, Rg.AQ_CTRL.BUSY, 1)] : State).chanOn .acq 9 = true ∧ (put world [(aqBase 9, Rg.AQ_CTRL.BUSY, 1)] : State).flag (aqBase 9) Rg.AQ_CTRL.BUSY = true ∧ (put world [(aqBase 9, Rg.AQ_CTRL.BUSY, 1)] : State).flag (aqBase 9) Rg.AQ_REQ.AUTO_CH = false ∧
    cellTop (⟨1, [(0, 77, 1000)]⟩ : AcqCells) (2 * (put world [(aqBase 9, Rg.AQ_CTRL.BUSY, 1)] : State).acqBins 9 + 1) = (0, 77, 1000) ∧ cellRest (⟨1, [(0, 77, 1000)]⟩ : AcqCells) (2 * (put world [(aqBase 9, Rg.AQ_CTRL.BUSY, 1)] : State).acqBins 9 + 1) 77 = (343959, 343959) ∧
    1000 ≠ 0 ∧ 10 ^ (put world [(aqBase 9, Rg.AQ_CTRL.BUSY, 1)] : State).get (aqBase 9) Rg.AQ_DOP.THR * 343959 ^ 100 ≤ (1000 * 343959) ^ 100 := by decide +kernel

theorem witness_SearchesAndChannelsRun_4 :
    40 < 512 ∧ mayWriteService (put (withLink { testLink with rc := ⟨1, 95, 2, 0, 0, false, false, 13, 0, 0xFF⟩ }) [(rfBase 0, Rg.RF_STAT.STATE, 3), (rfBase 0, Rg.RF_FE_FREQ.CENTRE, 1575420), (rfBase 0, Rg.RF_FE_FREQ.RATE, 8000), (chBase 40, Rg.CH_CFG.SVID, 5)] : State) (.mp : Master) = true ∧ (put (withLink { testLink with rc := ⟨1, 95, 2, 0, 0, false, false, 13, 0, 0xFF⟩ }) [(rfBase 0, Rg.RF_STAT.STATE, 3), (rfBase 0, Rg.RF_FE_FREQ.CENTRE, 1575420), (rfBase 0, Rg.RF_FE_FREQ.RATE, 8000), (chBase 40, Rg.CH_CFG.SVID, 5)] : State).chanOn .cor 40 = true ∧
    (put (withLink { testLink with rc := ⟨1, 95, 2, 0, 0, false, false, 13, 0, 0xFF⟩ }) [(rfBase 0, Rg.RF_STAT.STATE, 3), (rfBase 0, Rg.RF_FE_FREQ.CENTRE, 1575420), (rfBase 0, Rg.RF_FE_FREQ.RATE, 8000), (chBase 40, Rg.CH_CFG.SVID, 5)] : State).flag (chBase 40) Rg.CH_CTRL.EN = false ∧ (put (withLink { testLink with rc := ⟨1, 95, 2, 0, 0, false, false, 13, 0, 0xFF⟩ }) [(rfBase 0, Rg.RF_STAT.STATE, 3), (rfBase 0, Rg.RF_FE_FREQ.CENTRE, 1575420), (rfBase 0, Rg.RF_FE_FREQ.RATE, 8000), (chBase 40, Rg.CH_CFG.SVID, 5)] : State).chainOff (.mp : Master) = false ∧ (put (withLink { testLink with rc := ⟨1, 95, 2, 0, 0, false, false, 13, 0, 0xFF⟩ }) [(rfBase 0, Rg.RF_STAT.STATE, 3), (rfBase 0, Rg.RF_FE_FREQ.CENTRE, 1575420), (rfBase 0, Rg.RF_FE_FREQ.RATE, 8000), (chBase 40, Rg.CH_CFG.SVID, 5)] : State).chRefusal 40 = 0 ∧ ((put (withLink { testLink with rc := ⟨1, 95, 2, 0, 0, false, false, 13, 0, 0xFF⟩ }) [(rfBase 0, Rg.RF_STAT.STATE, 3), (rfBase 0, Rg.RF_FE_FREQ.CENTRE, 1575420), (rfBase 0, Rg.RF_FE_FREQ.RATE, 8000), (chBase 40, Rg.CH_CFG.SVID, 5)] : State).trk 40).aid = none ∧ (put (withLink { testLink with rc := ⟨1, 95, 2, 0, 0, false, false, 13, 0, 0xFF⟩ }) [(rfBase 0, Rg.RF_STAT.STATE, 3), (rfBase 0, Rg.RF_FE_FREQ.CENTRE, 1575420), (rfBase 0, Rg.RF_FE_FREQ.RATE, 8000), (chBase 40, Rg.CH_CFG.SVID, 5)] : State).handover 40 = false := by decide +kernel

theorem witness_SearchesAndChannelsRun_5 :
    40 < 512 ∧ mayWriteService (put { withLink { testLink with rc := ⟨1, 95, 2, 0, 0, false, false, 13, 0, 0xFF⟩ } with gnss := { world.gnss with chans := [(40, ⟨some (5, 6, 7), 0, none, 0, false, none⟩)] } } [(rfBase 0, Rg.RF_STAT.STATE, 3), (rfBase 0, Rg.RF_FE_FREQ.CENTRE, 1575420), (rfBase 0, Rg.RF_FE_FREQ.RATE, 8000), (chBase 40, Rg.CH_CFG.SVID, 5)] : State) (.mp : Master) = true ∧ (put { withLink { testLink with rc := ⟨1, 95, 2, 0, 0, false, false, 13, 0, 0xFF⟩ } with gnss := { world.gnss with chans := [(40, ⟨some (5, 6, 7), 0, none, 0, false, none⟩)] } } [(rfBase 0, Rg.RF_STAT.STATE, 3), (rfBase 0, Rg.RF_FE_FREQ.CENTRE, 1575420), (rfBase 0, Rg.RF_FE_FREQ.RATE, 8000), (chBase 40, Rg.CH_CFG.SVID, 5)] : State).chanOn .cor 40 = true ∧
    (put { withLink { testLink with rc := ⟨1, 95, 2, 0, 0, false, false, 13, 0, 0xFF⟩ } with gnss := { world.gnss with chans := [(40, ⟨some (5, 6, 7), 0, none, 0, false, none⟩)] } } [(rfBase 0, Rg.RF_STAT.STATE, 3), (rfBase 0, Rg.RF_FE_FREQ.CENTRE, 1575420), (rfBase 0, Rg.RF_FE_FREQ.RATE, 8000), (chBase 40, Rg.CH_CFG.SVID, 5)] : State).flag (chBase 40) Rg.CH_CTRL.EN = false ∧ (put { withLink { testLink with rc := ⟨1, 95, 2, 0, 0, false, false, 13, 0, 0xFF⟩ } with gnss := { world.gnss with chans := [(40, ⟨some (5, 6, 7), 0, none, 0, false, none⟩)] } } [(rfBase 0, Rg.RF_STAT.STATE, 3), (rfBase 0, Rg.RF_FE_FREQ.CENTRE, 1575420), (rfBase 0, Rg.RF_FE_FREQ.RATE, 8000), (chBase 40, Rg.CH_CFG.SVID, 5)] : State).chainOff (.mp : Master) = false ∧ (put { withLink { testLink with rc := ⟨1, 95, 2, 0, 0, false, false, 13, 0, 0xFF⟩ } with gnss := { world.gnss with chans := [(40, ⟨some (5, 6, 7), 0, none, 0, false, none⟩)] } } [(rfBase 0, Rg.RF_STAT.STATE, 3), (rfBase 0, Rg.RF_FE_FREQ.CENTRE, 1575420), (rfBase 0, Rg.RF_FE_FREQ.RATE, 8000), (chBase 40, Rg.CH_CFG.SVID, 5)] : State).chRefusal 40 = 0 ∧ ((put { withLink { testLink with rc := ⟨1, 95, 2, 0, 0, false, false, 13, 0, 0xFF⟩ } with gnss := { world.gnss with chans := [(40, ⟨some (5, 6, 7), 0, none, 0, false, none⟩)] } } [(rfBase 0, Rg.RF_STAT.STATE, 3), (rfBase 0, Rg.RF_FE_FREQ.CENTRE, 1575420), (rfBase 0, Rg.RF_FE_FREQ.RATE, 8000), (chBase 40, Rg.CH_CFG.SVID, 5)] : State).trk 40).aid = some (5, 6, 7) := by decide +kernel

theorem witness_SearchesAndChannelsRun_6 :
    40 < 512 ∧ mayWriteService (put world [(chBase 40, Rg.CH_CTRL.EN, 1), (chBase 40, Rg.CH_STAT.STATE, 3)] : State) (.mp : Master) = true ∧ (put world [(chBase 40, Rg.CH_CTRL.EN, 1), (chBase 40, Rg.CH_STAT.STATE, 3)] : State).chanOn .cor 40 = true := by decide +kernel

theorem witness_SearchesAndChannelsRun_7 :
    40 < 512 ∧ mayWriteService (put world [(chBase 40, Rg.CH_CTRL.EN, 1)] : State) (.mp : Master) = true ∧ (put world [(chBase 40, Rg.CH_CTRL.EN, 1)] : State).chanOn .cor 40 = true ∧
    (((put world [(chBase 40, Rg.CH_CTRL.EN, 1)] : State).chState 40 = 0 ∨ (put world [(chBase 40, Rg.CH_CTRL.EN, 1)] : State).chState 40 = 5) ∧ (put world [(chBase 40, Rg.CH_CTRL.EN, 1)] : State).flag (chBase 40) Rg.CH_CTRL.EN = true ∧ (put world [(chBase 40, Rg.CH_CTRL.EN, 1)] : State).chainOff (.mp : Master) = false) := by decide +kernel

theorem witness_SearchesAndChannelsRun_8 :
    40 < 512 ∧ (put world [(chBase 40, Rg.CH_CTRL.EN, 1), (chBase 40, Rg.CH_STAT.STATE, 1)] : State).chanOn .cor 40 = true ∧ (put world [(chBase 40, Rg.CH_CTRL.EN, 1), (chBase 40, Rg.CH_STAT.STATE, 1)] : State).chState 40 = 1 ∧ 100 < 5000 ∧ 204 ≤ 250 ∧ ((put world [(chBase 40, Rg.CH_CTRL.EN, 1), (chBase 40, Rg.CH_STAT.STATE, 1)] : State).trk 40).win = none := by decide +kernel

theorem witness_SearchesAndChannelsRun_9 :
    40 < 512 ∧ (put { world with gnss := { world.gnss with chans := [(40, ⟨none, 0, some (9, 8), 0, false, none⟩)] } } [(chBase 40, Rg.CH_CTRL.EN, 1), (chBase 40, Rg.CH_STAT.STATE, 4)] : State).chanOn .cor 40 = true ∧ (put { world with gnss := { world.gnss with chans := [(40, ⟨none, 0, some (9, 8), 0, false, none⟩)] } } [(chBase 40, Rg.CH_CTRL.EN, 1), (chBase 40, Rg.CH_STAT.STATE, 4)] : State).chState 40 = 4 ∧ ((put { world with gnss := { world.gnss with chans := [(40, ⟨none, 0, some (9, 8), 0, false, none⟩)] } } [(chBase 40, Rg.CH_CTRL.EN, 1), (chBase 40, Rg.CH_STAT.STATE, 4)] : State).trk 40).win = some (9, 8) ∧ (9 : Int).natAbs ≤ 9 ∧ (-8 : Int).natAbs ≤ 8 ∧ (put { world with gnss := { world.gnss with chans := [(40, ⟨none, 0, some (9, 8), 0, false, none⟩)] } } [(chBase 40, Rg.CH_CTRL.EN, 1), (chBase 40, Rg.CH_STAT.STATE, 4)] : State).nowNs ≤ (put { world with gnss := { world.gnss with chans := [(40, ⟨none, 0, some (9, 8), 0, false, none⟩)] } } [(chBase 40, Rg.CH_CTRL.EN, 1), (chBase 40, Rg.CH_STAT.STATE, 4)] : State).reacqEnd 40 := by decide +kernel

theorem witness_SearchesAndChannelsRun_10 :
    (40 < 512 ∧ (put world [(chBase 40, Rg.CH_CTRL.EN, 1), (chBase 40, Rg.CH_CTRL.CN0_MIN, 30), (chBase 40, Rg.CH_STAT.STATE, 1)] : State).chanOn .cor 40 = true ∧ (put world [(chBase 40, Rg.CH_CTRL.EN, 1), (chBase 40, Rg.CH_CTRL.CN0_MIN, 30), (chBase 40, Rg.CH_STAT.STATE, 1)] : State).chState 40 = 1 ∧ ((put world [(chBase 40, Rg.CH_CTRL.EN, 1), (chBase 40, Rg.CH_CTRL.CN0_MIN, 30), (chBase 40, Rg.CH_STAT.STATE, 1)] : State).cn0Low 40 2999 = true ∨ ((put world [(chBase 40, Rg.CH_CTRL.EN, 1), (chBase 40, Rg.CH_CTRL.CN0_MIN, 30), (chBase 40, Rg.CH_STAT.STATE, 1)] : State).trk 40).since + 1000000000 ≤ (put world [(chBase 40, Rg.CH_CTRL.EN, 1), (chBase 40, Rg.CH_CTRL.CN0_MIN, 30), (chBase 40, Rg.CH_STAT.STATE, 1)] : State).nowNs)) := by decide +kernel

theorem witness_SearchesAndChannelsRun_11 :
    (40 < 512 ∧ (put world [(chBase 40, Rg.CH_CTRL.EN, 1), (chBase 40, Rg.CH_STAT.STATE, 2), (chBase 40, Rg.CH_STAT.AMBIG, 1)] : State).chanOn .cor 40 = true ∧ ((put world [(chBase 40, Rg.CH_CTRL.EN, 1), (chBase 40, Rg.CH_STAT.STATE, 2), (chBase 40, Rg.CH_STAT.AMBIG, 1)] : State).chState 40 = 2 ∨ (put world [(chBase 40, Rg.CH_CTRL.EN, 1), (chBase 40, Rg.CH_STAT.STATE, 2), (chBase 40, Rg.CH_STAT.AMBIG, 1)] : State).chState 40 = 3)) := by decide +kernel

theorem witness_SearchesAndChannelsRun_12 :
    (40 < 512 ∧ (put world [(chBase 40, Rg.CH_CTRL.EN, 1), (chBase 40, Rg.CH_STAT.STATE, 3)] : State).chanOn .cor 40 = true ∧ ((put world [(chBase 40, Rg.CH_CTRL.EN, 1), (chBase 40, Rg.CH_STAT.STATE, 3)] : State).chState 40 = 2 ∨ (put world [(chBase 40, Rg.CH_CTRL.EN, 1), (chBase 40, Rg.CH_STAT.STATE, 3)] : State).chState 40 = 3) ∧ (2 * 127 < 255 ∨ (put world [(chBase 40, Rg.CH_CTRL.EN, 1), (chBase 40, Rg.CH_STAT.STATE, 3)] : State).cn0Low 40 0 = true)) := by decide +kernel

theorem witness_SearchesAndChannelsRun_13 :
    40 < 512 ∧ (put world [(chBase 40, Rg.CH_CTRL.EN, 1), (chBase 40, Rg.CH_CTRL.REACQ_MAX, 0), (chBase 40, Rg.CH_STAT.STATE, 4)] : State).chanOn .cor 40 = true ∧ (put world [(chBase 40, Rg.CH_CTRL.EN, 1), (chBase 40, Rg.CH_CTRL.REACQ_MAX, 0), (chBase 40, Rg.CH_STAT.STATE, 4)] : State).chState 40 = 4 ∧ (put world [(chBase 40, Rg.CH_CTRL.EN, 1), (chBase 40, Rg.CH_CTRL.REACQ_MAX, 0), (chBase 40, Rg.CH_STAT.STATE, 4)] : State).reacqEnd 40 ≤ (put world [(chBase 40, Rg.CH_CTRL.EN, 1), (chBase 40, Rg.CH_CTRL.REACQ_MAX, 0), (chBase 40, Rg.CH_STAT.STATE, 4)] : State).nowNs := by decide +kernel

theorem witness_SearchesAndChannelsRun_14 :
    1 < 16 ∧ (put { world with gnss := { world.gnss with grids := List.replicate 16 ⟨2, some 0⟩ } } [(chBase 40, Rg.CH_CTRL.EN, 1), (chBase 40, Rg.CH_STAT.STATE, 3)] : State).gnss.grids[1]? = some (⟨2, some 0⟩ : Grid) ∧ (⟨2, some 0⟩ : Grid).nxt = some 0 ∧ 0 ≤ (put { world with gnss := { world.gnss with grids := List.replicate 16 ⟨2, some 0⟩ } } [(chBase 40, Rg.CH_CTRL.EN, 1), (chBase 40, Rg.CH_STAT.STATE, 3)] : State).nowNs ∧ (put { world with gnss := { world.gnss with grids := List.replicate 16 ⟨2, some 0⟩ } } [(chBase 40, Rg.CH_CTRL.EN, 1), (chBase 40, Rg.CH_STAT.STATE, 3)] : State).instanced (chPos (1 * 32)) = true ∧
    (∀ k ∈ List.range 32, k = (⟨8, 5, 6, 7, 4000⟩ : ChMeas).lane ∨ (put { world with gnss := { world.gnss with grids := List.replicate 16 ⟨2, some 0⟩ } } [(chBase 40, Rg.CH_CTRL.EN, 1), (chBase 40, Rg.CH_STAT.STATE, 3)] : State).chState (1 * 32 + k) ≠ 2 ∧ (put { world with gnss := { world.gnss with grids := List.replicate 16 ⟨2, some 0⟩ } } [(chBase 40, Rg.CH_CTRL.EN, 1), (chBase 40, Rg.CH_STAT.STATE, 3)] : State).chState (1 * 32 + k) ≠ 3) ∧
    (⟨8, 5, 6, 7, 4000⟩ : ChMeas).lane < 32 ∧ (put { world with gnss := { world.gnss with grids := List.replicate 16 ⟨2, some 0⟩ } } [(chBase 40, Rg.CH_CTRL.EN, 1), (chBase 40, Rg.CH_STAT.STATE, 3)] : State).chanOn .cor (1 * 32 + (⟨8, 5, 6, 7, 4000⟩ : ChMeas).lane) = true ∧ (put { world with gnss := { world.gnss with grids := List.replicate 16 ⟨2, some 0⟩ } } [(chBase 40, Rg.CH_CTRL.EN, 1), (chBase 40, Rg.CH_STAT.STATE, 3)] : State).chState (1 * 32 + (⟨8, 5, 6, 7, 4000⟩ : ChMeas).lane) = 3 := by decide +kernel

end Sys2Proof.Tests
end

