-- ==== Sys2Proof/Tests/Witness08.lean ====
section
/-! SUPPORT. Witnesses: for each clause of a statement a state and operands that meet its hypotheses. -/

set_option Elab.async false

open Sys2Proof Sys2Proof.Machine

namespace Sys2Proof.Tests

theorem witness_ObservablesAreCollected_1 :
    (obsWorld [(1, ⟨0x2000, [5 * 2 ^ 14 + 3, 1000000000, 0, 0, 0], false⟩)] { ObsTile.off with grid := ⟨4, some 0⟩, open_ := some 1000000000, ctxs := [⟨1, 0, ⟨[], false, none, 0, 0, 0⟩, { (⟨[], false, none, 0, 0, 0⟩ : ObsArm) with prev := true }⟩] } [] : State).item (obPos 0) 0x20 = some (2, (⟨0x2000, [5 * 2 ^ 14 + 3, 1000000000, 0, 0, 0], false⟩ : QPkt)) ∧ (obsWorld [(1, ⟨0x2000, [5 * 2 ^ 14 + 3, 1000000000, 0, 0, 0], false⟩)] { ObsTile.off with grid := ⟨4, some 0⟩, open_ := some 1000000000, ctxs := [⟨1, 0, ⟨[], false, none, 0, 0, 0⟩, { (⟨[], false, none, 0, 0, 0⟩ : ObsArm) with prev := true }⟩] } [] : State).obOn 0 = true ∧ 0 < (obsWorld [(1, ⟨0x2000, [5 * 2 ^ 14 + 3, 1000000000, 0, 0, 0], false⟩)] { ObsTile.off with grid := ⟨4, some 0⟩, open_ := some 1000000000, ctxs := [⟨1, 0, ⟨[], false, none, 0, 0, 0⟩, { (⟨[], false, none, 0, 0, 0⟩ : ObsArm) with prev := true }⟩] } [] : State).obs.length ∧
    ((obsWorld [(1, ⟨0x2000, [5 * 2 ^ 14 + 3, 1000000000, 0, 0, 0], false⟩)] { ObsTile.off with grid := ⟨4, some 0⟩, open_ := some 1000000000, ctxs := [⟨1, 0, ⟨[], false, none, 0, 0, 0⟩, { (⟨[], false, none, 0, 0, 0⟩ : ObsArm) with prev := true }⟩] } [] : State).taken (obPos 0) 0x20).outsDrain 0 = ((((obsWorld [(1, ⟨0x2000, [5 * 2 ^ 14 + 3, 1000000000, 0, 0, 0], false⟩)] { ObsTile.off with grid := ⟨4, some 0⟩, open_ := some 1000000000, ctxs := [⟨1, 0, ⟨[], false, none, 0, 0, 0⟩, { (⟨[], false, none, 0, 0, 0⟩ : ObsArm) with prev := true }⟩] } []).taken 22 0x20).outsDrain 0) : State) ∧ ((((obsWorld [(1, ⟨0x2000, [5 * 2 ^ 14 + 3, 1000000000, 0, 0, 0], false⟩)] { ObsTile.off with grid := ⟨4, some 0⟩, open_ := some 1000000000, ctxs := [⟨1, 0, ⟨[], false, none, 0, 0, 0⟩, { (⟨[], false, none, 0, 0, 0⟩ : ObsArm) with prev := true }⟩] } []).taken 22 0x20).outsDrain 0) : State).lanesAt (obPos 0) ≤ 128 ∧ 0 < ((((obsWorld [(1, ⟨0x2000, [5 * 2 ^ 14 + 3, 1000000000, 0, 0, 0], false⟩)] { ObsTile.off with grid := ⟨4, some 0⟩, open_ := some 1000000000, ctxs := [⟨1, 0, ⟨[], false, none, 0, 0, 0⟩, { (⟨[], false, none, 0, 0, 0⟩ : ObsArm) with prev := true }⟩] } []).taken 22 0x20).outsDrain 0) : State).obs.length ∧
    (((((obsWorld [(1, ⟨0x2000, [5 * 2 ^ 14 + 3, 1000000000, 0, 0, 0], false⟩)] { ObsTile.off with grid := ⟨4, some 0⟩, open_ := some 1000000000, ctxs := [⟨1, 0, ⟨[], false, none, 0, 0, 0⟩, { (⟨[], false, none, 0, 0, 0⟩ : ObsArm) with prev := true }⟩] } []).taken 22 0x20).outsDrain 0) : State).ob 0).onGrid ((⟨0x2000, [5 * 2 ^ 14 + 3, 1000000000, 0, 0, 0], false⟩ : QPkt).data.getD 1 0) = true ∧ (((((obsWorld [(1, ⟨0x2000, [5 * 2 ^ 14 + 3, 1000000000, 0, 0, 0], false⟩)] { ObsTile.off with grid := ⟨4, some 0⟩, open_ := some 1000000000, ctxs := [⟨1, 0, ⟨[], false, none, 0, 0, 0⟩, { (⟨[], false, none, 0, 0, 0⟩ : ObsArm) with prev := true }⟩] } []).taken 22 0x20).outsDrain 0) : State).ob 0).closed < (⟨0x2000, [5 * 2 ^ 14 + 3, 1000000000, 0, 0, 0], false⟩ : QPkt).data.getD 1 0 ∧ (((((obsWorld [(1, ⟨0x2000, [5 * 2 ^ 14 + 3, 1000000000, 0, 0, 0], false⟩)] { ObsTile.off with grid := ⟨4, some 0⟩, open_ := some 1000000000, ctxs := [⟨1, 0, ⟨[], false, none, 0, 0, 0⟩, { (⟨[], false, none, 0, 0, 0⟩ : ObsArm) with prev := true }⟩] } []).taken 22 0x20).outsDrain 0) : State).ob 0).open_ = some ((⟨0x2000, [5 * 2 ^ 14 + 3, 1000000000, 0, 0, 0], false⟩ : QPkt).data.getD 1 0) ∧
    ((((obsWorld [(1, ⟨0x2000, [5 * 2 ^ 14 + 3, 1000000000, 0, 0, 0], false⟩)] { ObsTile.off with grid := ⟨4, some 0⟩, open_ := some 1000000000, ctxs := [⟨1, 0, ⟨[], false, none, 0, 0, 0⟩, { (⟨[], false, none, 0, 0, 0⟩ : ObsArm) with prev := true }⟩] } []).taken 22 0x20).outsDrain 0) : State).ctxFor 0 (itemSig ((⟨0x2000, [5 * 2 ^ 14 + 3, 1000000000, 0, 0, 0], false⟩ : QPkt).data.headD 0)) (itemSvid ((⟨0x2000, [5 * 2 ^ 14 + 3, 1000000000, 0, 0, 0], false⟩ : QPkt).data.headD 0)) = none ∧ ((((obsWorld [(1, ⟨0x2000, [5 * 2 ^ 14 + 3, 1000000000, 0, 0, 0], false⟩)] { ObsTile.off with grid := ⟨4, some 0⟩, open_ := some 1000000000, ctxs := [⟨1, 0, ⟨[], false, none, 0, 0, 0⟩, { (⟨[], false, none, 0, 0, 0⟩ : ObsArm) with prev := true }⟩] } []).taken 22 0x20).outsDrain 0) : State).newCtx 0 (itemSig ((⟨0x2000, [5 * 2 ^ 14 + 3, 1000000000, 0, 0, 0], false⟩ : QPkt).data.headD 0)) (itemSvid ((⟨0x2000, [5 * 2 ^ 14 + 3, 1000000000, 0, 0, 0], false⟩ : QPkt).data.headD 0)) = some (((((((obsWorld [(1, ⟨0x2000, [5 * 2 ^ 14 + 3, 1000000000, 0, 0, 0], false⟩)] { ObsTile.off with grid := ⟨4, some 0⟩, open_ := some 1000000000, ctxs := [⟨1, 0, ⟨[], false, none, 0, 0, 0⟩, { (⟨[], false, none, 0, 0, 0⟩ : ObsArm) with prev := true }⟩] } []).taken 22 0x20).outsDrain 0).newCtx 0 0 5).map (fun z => z.1)).getD world : State), (⟨0, 0, ⟨[], false, none, 0, 0, 0⟩, ⟨[], false, none, 0, 0, 0⟩⟩ : ObsCtx)) ∧
    ((((obsWorld [(1, ⟨0x2000, [5 * 2 ^ 14 + 3, 1000000000, 0, 0, 0], false⟩)] { ObsTile.off with grid := ⟨4, some 0⟩, open_ := some 1000000000, ctxs := [⟨1, 0, ⟨[], false, none, 0, 0, 0⟩, { (⟨[], false, none, 0, 0, 0⟩ : ObsArm) with prev := true }⟩] } []).taken 22 0x20).outsDrain 0) : State).chAnt (itemChan ((⟨0x2000, [5 * 2 ^ 14 + 3, 1000000000, 0, 0, 0], false⟩ : QPkt).data.headD 0)) = 0 ∧ (⟨1, 0, ⟨[], false, none, 0, 0, 0⟩, { (⟨[], false, none, 0, 0, 0⟩ : ObsArm) with prev := true }⟩ : ObsCtx) ∈ (((((obsWorld [(1, ⟨0x2000, [5 * 2 ^ 14 + 3, 1000000000, 0, 0, 0], false⟩)] { ObsTile.off with grid := ⟨4, some 0⟩, open_ := some 1000000000, ctxs := [⟨1, 0, ⟨[], false, none, 0, 0, 0⟩, { (⟨[], false, none, 0, 0, 0⟩ : ObsArm) with prev := true }⟩] } []).taken 22 0x20).outsDrain 0) : State).ob 0).ctxs ∧ (⟨1, 0, ⟨[], false, none, 0, 0, 0⟩, { (⟨[], false, none, 0, 0, 0⟩ : ObsArm) with prev := true }⟩ : ObsCtx).b.prev = true ∧ (⟨1, 0, ⟨[], false, none, 0, 0, 0⟩, { (⟨[], false, none, 0, 0, 0⟩ : ObsArm) with prev := true }⟩ : ObsCtx).b.item = [] := by decide +kernel

theorem witness_ObservablesAreCollected_2 :
    (obsWorld [(1, ⟨0x2100, [5 * 2 ^ 14, 7], false⟩)] { ObsTile.off with ctxs := [⟨1, 0, ⟨[], false, none, 0, 0, 0⟩, ⟨[], false, none, 0, 0, 0⟩⟩] } [(ctxBase 0 1, Rg.OB_CTX.SVID, 5)] : State).item (obPos 0) 0x21 = some (2, (⟨0x2100, [5 * 2 ^ 14, 7], false⟩ : QPkt)) ∧ (obsWorld [(1, ⟨0x2100, [5 * 2 ^ 14, 7], false⟩)] { ObsTile.off with ctxs := [⟨1, 0, ⟨[], false, none, 0, 0, 0⟩, ⟨[], false, none, 0, 0, 0⟩⟩] } [(ctxBase 0 1, Rg.OB_CTX.SVID, 5)] : State).obOn 0 = true ∧ 0 < (obsWorld [(1, ⟨0x2100, [5 * 2 ^ 14, 7], false⟩)] { ObsTile.off with ctxs := [⟨1, 0, ⟨[], false, none, 0, 0, 0⟩, ⟨[], false, none, 0, 0, 0⟩⟩] } [(ctxBase 0 1, Rg.OB_CTX.SVID, 5)] : State).obs.length ∧ signals[itemSig ((⟨0x2100, [5 * 2 ^ 14, 7], false⟩ : QPkt).data.headD 0)]? = some (⟨0, 0, 15754200, 0, 1, 10230, false, true⟩ : Signal) ∧
    (∀ d ∈ ((obsWorld [(1, ⟨0x2100, [5 * 2 ^ 14, 7], false⟩)] { ObsTile.off with ctxs := [⟨1, 0, ⟨[], false, none, 0, 0, 0⟩, ⟨[], false, none, 0, 0, 0⟩⟩] } [(ctxBase 0 1, Rg.OB_CTX.SVID, 5)] : State).ob 0).ctxs, d.idx < 128) ∧
    (⟨1, 0, ⟨[], false, none, 0, 0, 0⟩, ⟨[], false, none, 0, 0, 0⟩⟩ : ObsCtx) ∈ ((obsWorld [(1, ⟨0x2100, [5 * 2 ^ 14, 7], false⟩)] { ObsTile.off with ctxs := [⟨1, 0, ⟨[], false, none, 0, 0, 0⟩, ⟨[], false, none, 0, 0, 0⟩⟩] } [(ctxBase 0 1, Rg.OB_CTX.SVID, 5)] : State).ob 0).ctxs ∧ (obsWorld [(1, ⟨0x2100, [5 * 2 ^ 14, 7], false⟩)] { ObsTile.off with ctxs := [⟨1, 0, ⟨[], false, none, 0, 0, 0⟩, ⟨[], false, none, 0, 0, 0⟩⟩] } [(ctxBase 0 1, Rg.OB_CTX.SVID, 5)] : State).get (ctxBase 0 (⟨1, 0, ⟨[], false, none, 0, 0, 0⟩, ⟨[], false, none, 0, 0, 0⟩⟩ : ObsCtx).idx) Rg.OB_CTX.SVID = itemSvid ((⟨0x2100, [5 * 2 ^ 14, 7], false⟩ : QPkt).data.headD 0) ∧
    signals[(obsWorld [(1, ⟨0x2100, [5 * 2 ^ 14, 7], false⟩)] { ObsTile.off with ctxs := [⟨1, 0, ⟨[], false, none, 0, 0, 0⟩, ⟨[], false, none, 0, 0, 0⟩⟩] } [(ctxBase 0 1, Rg.OB_CTX.SVID, 5)] : State).get (ctxBase 0 (⟨1, 0, ⟨[], false, none, 0, 0, 0⟩, ⟨[], false, none, 0, 0, 0⟩⟩ : ObsCtx).idx) Rg.OB_CTX.SIGNAL]?.map Signal.sys = some (⟨0, 0, 15754200, 0, 1, 10230, false, true⟩ : Signal).sys := by decide +kernel

theorem witness_ObservablesAreCollected_3 :
    (obsWorld [(1, ⟨0x2200, [5 * 2 ^ 14, 7, 0, 0, 0, 0], false⟩)] { ObsTile.off with ready := some 7 } [(obBase 0, Rg.OB_CFG.ENCODER, 1)] : State).item (obPos 0) 0x22 = some (2, (⟨0x2200, [5 * 2 ^ 14, 7, 0, 0, 0, 0], false⟩ : QPkt)) ∧ (obsWorld [(1, ⟨0x2200, [5 * 2 ^ 14, 7, 0, 0, 0, 0], false⟩)] { ObsTile.off with ready := some 7 } [(obBase 0, Rg.OB_CFG.ENCODER, 1)] : State).obOn 0 = true ∧ 0 < (obsWorld [(1, ⟨0x2200, [5 * 2 ^ 14, 7, 0, 0, 0, 0], false⟩)] { ObsTile.off with ready := some 7 } [(obBase 0, Rg.OB_CFG.ENCODER, 1)] : State).obs.length ∧ (obsWorld [(1, ⟨0x2200, [5 * 2 ^ 14, 7, 0, 0, 0, 0], false⟩)] { ObsTile.off with ready := some 7 } [(obBase 0, Rg.OB_CFG.ENCODER, 1)] : State).isEnc 0 = true ∧
    ((((obsWorld [(1, ⟨0x2200, [5 * 2 ^ 14, 7, 0, 0, 0, 0], false⟩)] { ObsTile.off with ready := some 7 } [(obBase 0, Rg.OB_CFG.ENCODER, 1)] : State).ob 0).ready = some (wordsRec (⟨0x2200, [5 * 2 ^ 14, 7, 0, 0, 0, 0], false⟩ : QPkt).data).epoch ∨ ((obsWorld [(1, ⟨0x2200, [5 * 2 ^ 14, 7, 0, 0, 0, 0], false⟩)] { ObsTile.off with ready := some 7 } [(obBase 0, Rg.OB_CFG.ENCODER, 1)] : State).ob 0).closed < (wordsRec (⟨0x2200, [5 * 2 ^ 14, 7, 0, 0, 0, 0], false⟩ : QPkt).data).epoch) ∧ bitOf 7 ((obsWorld [(1, ⟨0x2200, [5 * 2 ^ 14, 7, 0, 0, 0, 0], false⟩)] { ObsTile.off with ready := some 7 } [(obBase 0, Rg.OB_CFG.ENCODER, 1)] : State).pcvByte 0 (wordsRec (⟨0x2200, [5 * 2 ^ 14, 7, 0, 0, 0, 0], false⟩ : QPkt).data)) = false) := by decide +kernel

theorem witness_ObservablesAreCollected_4 :
    (({ obsWorld [] { ObsTile.off with open_ := some 0, sidcNext := (1, 2, 3), ctxs := [⟨1, 0, { (⟨[], false, none, 0, 0, 0⟩ : ObsArm) with item := [5 * 2 ^ 14, 0, 0, 0, 0] }, ⟨[], false, none, 0, 0, 0⟩⟩] } [(obBase 0, Rg.OB_CFG.ENCODER, 1)] with time := { world.time with ns := 1000000 } } : State).ob 0).nextEpoch = some 0 ∧ ({ obsWorld [] { ObsTile.off with open_ := some 0, sidcNext := (1, 2, 3), ctxs := [⟨1, 0, { (⟨[], false, none, 0, 0, 0⟩ : ObsArm) with item := [5 * 2 ^ 14, 0, 0, 0, 0] }, ⟨[], false, none, 0, 0, 0⟩⟩] } [(obBase 0, Rg.OB_CFG.ENCODER, 1)] with time := { world.time with ns := 1000000 } } : State).obOn 0 = true ∧ 0 < ({ obsWorld [] { ObsTile.off with open_ := some 0, sidcNext := (1, 2, 3), ctxs := [⟨1, 0, { (⟨[], false, none, 0, 0, 0⟩ : ObsArm) with item := [5 * 2 ^ 14, 0, 0, 0, 0] }, ⟨[], false, none, 0, 0, 0⟩⟩] } [(obBase 0, Rg.OB_CFG.ENCODER, 1)] with time := { world.time with ns := 1000000 } } : State).obs.length ∧ 0 + ({ obsWorld [] { ObsTile.off with open_ := some 0, sidcNext := (1, 2, 3), ctxs := [⟨1, 0, { (⟨[], false, none, 0, 0, 0⟩ : ObsArm) with item := [5 * 2 ^ 14, 0, 0, 0, 0] }, ⟨[], false, none, 0, 0, 0⟩⟩] } [(obBase 0, Rg.OB_CFG.ENCODER, 1)] with time := { world.time with ns := 1000000 } } : State).closeUs 0 * 1000 ≤ ({ obsWorld [] { ObsTile.off with open_ := some 0, sidcNext := (1, 2, 3), ctxs := [⟨1, 0, { (⟨[], false, none, 0, 0, 0⟩ : ObsArm) with item := [5 * 2 ^ 14, 0, 0, 0, 0] }, ⟨[], false, none, 0, 0, 0⟩⟩] } [(obBase 0, Rg.OB_CFG.ENCODER, 1)] with time := { world.time with ns := 1000000 } } : State).nowNs ∧ ({ obsWorld [] { ObsTile.off with open_ := some 0, sidcNext := (1, 2, 3), ctxs := [⟨1, 0, { (⟨[], false, none, 0, 0, 0⟩ : ObsArm) with item := [5 * 2 ^ 14, 0, 0, 0, 0] }, ⟨[], false, none, 0, 0, 0⟩⟩] } [(obBase 0, Rg.OB_CFG.ENCODER, 1)] with time := { world.time with ns := 1000000 } } : State).isEnc 0 = true := by decide +kernel

theorem witness_ObservablesAreCollected_5 :
    (obsWorld [(1, ⟨0x1100, [9], false⟩)] { ObsTile.off with recs := [wordsRec [0, 7, 0, 0, 0, 0]], looks := [⟨7, 0, none⟩] } [] : State).item (obPos 0) 0x11 = some (2, (⟨0x1100, [9], false⟩ : QPkt)) ∧ (obsWorld [(1, ⟨0x1100, [9], false⟩)] { ObsTile.off with recs := [wordsRec [0, 7, 0, 0, 0, 0]], looks := [⟨7, 0, none⟩] } [] : State).obOn 0 = true ∧ 0 < (obsWorld [(1, ⟨0x1100, [9], false⟩)] { ObsTile.off with recs := [wordsRec [0, 7, 0, 0, 0, 0]], looks := [⟨7, 0, none⟩] } [] : State).obs.length ∧ bitOf 48 ((⟨0x1100, [9], false⟩ : QPkt).data.headD 0) = false ∧
    ((obsWorld [(1, ⟨0x1100, [9], false⟩)] { ObsTile.off with recs := [wordsRec [0, 7, 0, 0, 0, 0]], looks := [⟨7, 0, none⟩] } [] : State).ob 0).looks.find? (fun k => k.tag == bits 32 16 ((⟨0x1100, [9], false⟩ : QPkt).data.headD 0) && k.reply == none) = some (⟨7, 0, none⟩ : PcvLook) := by decide +kernel

theorem witness_ObservablesAreCollected_6 :
    (obsWorld [(1, ⟨0x1100, [9 + 2 ^ 48], false⟩)] { ObsTile.off with recs := [wordsRec [0, 7, 0, 0, 0, 0]], looks := [⟨7, 0, none⟩] } [] : State).item (obPos 0) 0x11 = some (2, (⟨0x1100, [9 + 2 ^ 48], false⟩ : QPkt)) ∧ (obsWorld [(1, ⟨0x1100, [9 + 2 ^ 48], false⟩)] { ObsTile.off with recs := [wordsRec [0, 7, 0, 0, 0, 0]], looks := [⟨7, 0, none⟩] } [] : State).obOn 0 = true ∧ 0 < (obsWorld [(1, ⟨0x1100, [9 + 2 ^ 48], false⟩)] { ObsTile.off with recs := [wordsRec [0, 7, 0, 0, 0, 0]], looks := [⟨7, 0, none⟩] } [] : State).obs.length ∧ bitOf 48 ((⟨0x1100, [9 + 2 ^ 48], false⟩ : QPkt).data.headD 0) = true ∧
    ((obsWorld [(1, ⟨0x1100, [9 + 2 ^ 48], false⟩)] { ObsTile.off with recs := [wordsRec [0, 7, 0, 0, 0, 0]], looks := [⟨7, 0, none⟩] } [] : State).ob 0).looks.find? (fun k => k.tag == bits 32 16 ((⟨0x1100, [9 + 2 ^ 48], false⟩ : QPkt).data.headD 0) && k.reply == none) = some (⟨7, 0, none⟩ : PcvLook) := by decide +kernel

theorem witness_ObservablesAreCollected_7 :
    ((obsWorld [] { ObsTile.off with ready := some 0 } [(obBase 0, Rg.OB_CFG.ENCODER, 1)] : State).ob 0).ready = some 0 ∧ (obsWorld [] { ObsTile.off with ready := some 0 } [(obBase 0, Rg.OB_CFG.ENCODER, 1)] : State).obOn 0 = true ∧ 0 < (obsWorld [] { ObsTile.off with ready := some 0 } [(obBase 0, Rg.OB_CFG.ENCODER, 1)] : State).obs.length ∧ (obsWorld [] { ObsTile.off with ready := some 0 } [(obBase 0, Rg.OB_CFG.ENCODER, 1)] : State).isEnc 0 = true ∧ ((obsWorld [] { ObsTile.off with ready := some 0 } [(obBase 0, Rg.OB_CFG.ENCODER, 1)] : State).ob 0).outs = [[], [], [], []] ∧ ((obsWorld [] { ObsTile.off with ready := some 0 } [(obBase 0, Rg.OB_CFG.ENCODER, 1)] : State).ob 0).late = none ∧
    ((obsWorld [] { ObsTile.off with ready := some 0 } [(obBase 0, Rg.OB_CFG.ENCODER, 1)] : State).ob 0).looks.all (fun l => l.epoch != 0 || l.reply.isSome) = true ∧
    (∀ n ∈ List.range 4, (obsWorld [] { ObsTile.off with ready := some 0 } [(obBase 0, Rg.OB_CFG.ENCODER, 1)] : State).get (outBase 0 n) Rg.OB_OUT.STATUS ≠ 1) ∧
    (⟨0, 200, 77, 0, 0, 0, 1, 2, 3, 0, 0, 0, 0⟩ : EpochSol) = (obsWorld [] { ObsTile.off with ready := some 0 } [(obBase 0, Rg.OB_CFG.ENCODER, 1)] : State).solution 0 (((obsWorld [] { ObsTile.off with ready := some 0 } [(obBase 0, Rg.OB_CFG.ENCODER, 1)] : State).ob 0).recs.filter (fun r => r.epoch == 0)) ((((obsWorld [] { ObsTile.off with ready := some 0 } [(obBase 0, Rg.OB_CFG.ENCODER, 1)] : State).ob 0).recs.filter (fun r => r.epoch == 0)).map ((obsWorld [] { ObsTile.off with ready := some 0 } [(obBase 0, Rg.OB_CFG.ENCODER, 1)] : State).sidereal 0)) (⟨9, 200, 77, 0, 0, 0, 1, 2, 3, 0, 0, 0, 0⟩ : EpochSol) := by decide +kernel

theorem witness_SurveyAndPositionRun_1 :
    0 < 2 ∧ 0 < (obsWorld [] ObsTile.off [(obBase 0, Rg.OB_CFG.ENCODER, 1), (obBase 0, Rg.OB_SV_STAT.ELAPSED, 9)] : State).obs.length ∧ mayWriteService (obsWorld [] ObsTile.off [(obBase 0, Rg.OB_CFG.ENCODER, 1), (obBase 0, Rg.OB_SV_STAT.ELAPSED, 9)] : State) (.mp : Master) = true ∧ (obsWorld [] ObsTile.off [(obBase 0, Rg.OB_CFG.ENCODER, 1), (obBase 0, Rg.OB_SV_STAT.ELAPSED, 9)] : State).on .fa = true ∧ (obsWorld [] ObsTile.off [(obBase 0, Rg.OB_CFG.ENCODER, 1), (obBase 0, Rg.OB_SV_STAT.ELAPSED, 9)] : State).isEnc 0 = true ∧ (obsWorld [] ObsTile.off [(obBase 0, Rg.OB_CFG.ENCODER, 1), (obBase 0, Rg.OB_SV_STAT.ELAPSED, 9)] : State).get (obBase 0) Rg.OB_SV.MODE = 0 := by decide +kernel

theorem witness_SurveyAndPositionRun_2 :
    (obsWorld [] { ObsTile.off with survey := ⟨2, 10, 20, 30, 700⟩ } [(obBase 0, Rg.OB_CFG.ENCODER, 1), (obBase 0, Rg.OB_SV_STAT.STATE, 1), (obBase 0, Rg.OB_SV_STAT.ELAPSED, 90000), (obBase 0, Rg.OB_SV.ACC, 0)] : State).obOn 0 = true ∧ 0 < (obsWorld [] { ObsTile.off with survey := ⟨2, 10, 20, 30, 700⟩ } [(obBase 0, Rg.OB_CFG.ENCODER, 1), (obBase 0, Rg.OB_SV_STAT.STATE, 1), (obBase 0, Rg.OB_SV_STAT.ELAPSED, 90000), (obBase 0, Rg.OB_SV.ACC, 0)] : State).obs.length ∧ (obsWorld [] { ObsTile.off with survey := ⟨2, 10, 20, 30, 700⟩ } [(obBase 0, Rg.OB_CFG.ENCODER, 1), (obBase 0, Rg.OB_SV_STAT.STATE, 1), (obBase 0, Rg.OB_SV_STAT.ELAPSED, 90000), (obBase 0, Rg.OB_SV.ACC, 0)] : State).isEnc 0 = true ∧ (obsWorld [] { ObsTile.off with survey := ⟨2, 10, 20, 30, 700⟩ } [(obBase 0, Rg.OB_CFG.ENCODER, 1), (obBase 0, Rg.OB_SV_STAT.STATE, 1), (obBase 0, Rg.OB_SV_STAT.ELAPSED, 90000), (obBase 0, Rg.OB_SV.ACC, 0)] : State).get (obBase 0) Rg.OB_SV_STAT.STATE = 1 ∧
    1 ≤ ((obsWorld [] { ObsTile.off with survey := ⟨2, 10, 20, 30, 700⟩ } [(obBase 0, Rg.OB_CFG.ENCODER, 1), (obBase 0, Rg.OB_SV_STAT.STATE, 1), (obBase 0, Rg.OB_SV_STAT.ELAPSED, 90000), (obBase 0, Rg.OB_SV.ACC, 0)] : State).ob 0).survey.n ∧ ((obsWorld [] { ObsTile.off with survey := ⟨2, 10, 20, 30, 700⟩ } [(obBase 0, Rg.OB_CFG.ENCODER, 1), (obBase 0, Rg.OB_SV_STAT.STATE, 1), (obBase 0, Rg.OB_SV_STAT.ELAPSED, 90000), (obBase 0, Rg.OB_SV.ACC, 0)] : State).ob 0).survey.accurate ((obsWorld [] { ObsTile.off with survey := ⟨2, 10, 20, 30, 700⟩ } [(obBase 0, Rg.OB_CFG.ENCODER, 1), (obBase 0, Rg.OB_SV_STAT.STATE, 1), (obBase 0, Rg.OB_SV_STAT.ELAPSED, 90000), (obBase 0, Rg.OB_SV.ACC, 0)] : State).get (obBase 0) Rg.OB_SV.ACC) = true ∧ (obsWorld [] { ObsTile.off with survey := ⟨2, 10, 20, 30, 700⟩ } [(obBase 0, Rg.OB_CFG.ENCODER, 1), (obBase 0, Rg.OB_SV_STAT.STATE, 1), (obBase 0, Rg.OB_SV_STAT.ELAPSED, 90000), (obBase 0, Rg.OB_SV.ACC, 0)] : State).surveyDur 0 ≤ (obsWorld [] { ObsTile.off with survey := ⟨2, 10, 20, 30, 700⟩ } [(obBase 0, Rg.OB_CFG.ENCODER, 1), (obBase 0, Rg.OB_SV_STAT.STATE, 1), (obBase 0, Rg.OB_SV_STAT.ELAPSED, 90000), (obBase 0, Rg.OB_SV.ACC, 0)] : State).get (obBase 0) Rg.OB_SV_STAT.ELAPSED := by decide +kernel

theorem witness_SurveyAndPositionRun_3 :
    ({ obsWorld [] { ObsTile.off with check := ⟨1, 0, 0, 0, 0⟩ } [(obBase 0, Rg.OB_CFG.ENCODER, 1), (obBase 0, Rg.OB_SV_STAT.STATE, 2)] with time := { world.time with era := 20 } } : State).obOn 0 = true ∧ 0 < ({ obsWorld [] { ObsTile.off with check := ⟨1, 0, 0, 0, 0⟩ } [(obBase 0, Rg.OB_CFG.ENCODER, 1), (obBase 0, Rg.OB_SV_STAT.STATE, 2)] with time := { world.time with era := 20 } } : State).obs.length ∧ ({ obsWorld [] { ObsTile.off with check := ⟨1, 0, 0, 0, 0⟩ } [(obBase 0, Rg.OB_CFG.ENCODER, 1), (obBase 0, Rg.OB_SV_STAT.STATE, 2)] with time := { world.time with era := 20 } } : State).get (obBase 0) Rg.OB_SV_STAT.STATE = 2 ∧ (({ obsWorld [] { ObsTile.off with check := ⟨1, 0, 0, 0, 0⟩ } [(obBase 0, Rg.OB_CFG.ENCODER, 1), (obBase 0, Rg.OB_SV_STAT.STATE, 2)] with time := { world.time with era := 20 } } : State).ob 0).checkAt + 60000000000 ≤ ({ obsWorld [] { ObsTile.off with check := ⟨1, 0, 0, 0, 0⟩ } [(obBase 0, Rg.OB_CFG.ENCODER, 1), (obBase 0, Rg.OB_SV_STAT.STATE, 2)] with time := { world.time with era := 20 } } : State).nowNs ∧ ({ obsWorld [] { ObsTile.off with check := ⟨1, 0, 0, 0, 0⟩ } [(obBase 0, Rg.OB_CFG.ENCODER, 1), (obBase 0, Rg.OB_SV_STAT.STATE, 2)] with time := { world.time with era := 20 } } : State).checkPass 0 = true := by decide +kernel

theorem witness_SurveyAndPositionRun_4 :
    0 < 2 ∧ mayWriteService (obsWorld [] ObsTile.off [(obBase 0, Rg.OB_CFG.ENCODER, 1)] : State) (.mp : Master) = true ∧ (obsWorld [] ObsTile.off [(obBase 0, Rg.OB_CFG.ENCODER, 1)] : State).on .fa = true ∧ (obsWorld [] ObsTile.off [(obBase 0, Rg.OB_CFG.ENCODER, 1)] : State).isEnc 0 = true ∧ (obsWorld [] ObsTile.off [(obBase 0, Rg.OB_CFG.ENCODER, 1)] : State).get (obBase 0) Rg.OB_SV_STAT.STATE ≠ 3 := by decide +kernel

theorem witness_SurveyAndPositionRun_5 :
    0 < 2 ∧ 0 < (obsWorld [] ObsTile.off [(obBase 0, Rg.OB_CFG.ENCODER, 1), (obBase 0, Rg.OB_SV_STAT.STATE, 3)] : State).obs.length ∧ mayWriteService (obsWorld [] ObsTile.off [(obBase 0, Rg.OB_CFG.ENCODER, 1), (obBase 0, Rg.OB_SV_STAT.STATE, 3)] : State) (.mp : Master) = true ∧ (obsWorld [] ObsTile.off [(obBase 0, Rg.OB_CFG.ENCODER, 1), (obBase 0, Rg.OB_SV_STAT.STATE, 3)] : State).on .fa = true ∧ (obsWorld [] ObsTile.off [(obBase 0, Rg.OB_CFG.ENCODER, 1), (obBase 0, Rg.OB_SV_STAT.STATE, 3)] : State).isEnc 0 = true ∧ (obsWorld [] ObsTile.off [(obBase 0, Rg.OB_CFG.ENCODER, 1), (obBase 0, Rg.OB_SV_STAT.STATE, 3)] : State).get (obBase 0) Rg.OB_SV_STAT.STATE = 3 ∧
    ((0, 0, 6371000000) : Int × Int × Int) = ((obsWorld [] ObsTile.off [(obBase 0, Rg.OB_CFG.ENCODER, 1), (obBase 0, Rg.OB_SV_STAT.STATE, 3)] : State).getS (obBase 0) Rg.OB_POSX.MM, (obsWorld [] ObsTile.off [(obBase 0, Rg.OB_CFG.ENCODER, 1), (obBase 0, Rg.OB_SV_STAT.STATE, 3)] : State).getS (obBase 0) Rg.OB_POSY.MM, sgn 64 (6371000000 % 2 ^ 64)) ∧
    6355000000 * 6355000000 ≤ (((0, 0, 6371000000) : Int × Int × Int).1 * ((0, 0, 6371000000) : Int × Int × Int).1 + ((0, 0, 6371000000) : Int × Int × Int).2.1 * ((0, 0, 6371000000) : Int × Int × Int).2.1 + ((0, 0, 6371000000) : Int × Int × Int).2.2 * ((0, 0, 6371000000) : Int × Int × Int).2.2).toNat ∧ (((0, 0, 6371000000) : Int × Int × Int).1 * ((0, 0, 6371000000) : Int × Int × Int).1 + ((0, 0, 6371000000) : Int × Int × Int).2.1 * ((0, 0, 6371000000) : Int × Int × Int).2.1 + ((0, 0, 6371000000) : Int × Int × Int).2.2 * ((0, 0, 6371000000) : Int × Int × Int).2.2).toNat ≤ 6390000000 * 6390000000 := by decide +kernel

theorem witness_SurveyAndPositionRun_6 :
    0 < 2 ∧ mayWriteService (obsWorld [] ObsTile.off [(obBase 0, Rg.OB_CFG.ENCODER, 1)] : State) (.mp : Master) = true ∧ (obsWorld [] ObsTile.off [(obBase 0, Rg.OB_CFG.ENCODER, 1)] : State).on .fa = true ∧ (obsWorld [] ObsTile.off [(obBase 0, Rg.OB_CFG.ENCODER, 1)] : State).isEnc 0 = true ∧
    (sgn 21 (bits 0 21 1000)).natAbs ≤ 1000000 ∧ (sgn 21 (bits 21 21 1000)).natAbs ≤ 1000000 ∧ (sgn 21 (bits 42 21 1000)).natAbs ≤ 1000000 ∧
    40000 ≤ sgn 21 (bits 0 21 1000) * sgn 21 (bits 0 21 1000) + sgn 21 (bits 21 21 1000) * sgn 21 (bits 21 21 1000) + sgn 21 (bits 42 21 1000) * sgn 21 (bits 42 21 1000) := by decide +kernel

theorem witness_SurveyAndPositionRun_7 :
    (obsWorld [] { ObsTile.off with base := ⟨300, 3000, 6000, 9000, 0⟩, grid := ⟨4, none⟩ } [(obBase 0, Rg.OB_SV_STAT.BASE_STATE, 1)] : State).obOn 0 = true ∧ (obsWorld [] { ObsTile.off with base := ⟨300, 3000, 6000, 9000, 0⟩, grid := ⟨4, none⟩ } [(obBase 0, Rg.OB_SV_STAT.BASE_STATE, 1)] : State).get (obBase 0) Rg.OB_SV_STAT.BASE_STATE = 1 ∧ 300000000000 ≤ ((obsWorld [] { ObsTile.off with base := ⟨300, 3000, 6000, 9000, 0⟩, grid := ⟨4, none⟩ } [(obBase 0, Rg.OB_SV_STAT.BASE_STATE, 1)] : State).ob 0).base.n * epochStep ((obsWorld [] { ObsTile.off with base := ⟨300, 3000, 6000, 9000, 0⟩, grid := ⟨4, none⟩ } [(obBase 0, Rg.OB_SV_STAT.BASE_STATE, 1)] : State).ob 0).grid.period := by decide +kernel

theorem witness_SurveyAndPositionRun_8 :
    0 < 2 ∧ 0 < (obsWorld [] ObsTile.off [(obBase 0, Rg.OB_CFG.ENCODER, 1)] : State).obs.length ∧ mayWriteService (obsWorld [] ObsTile.off [(obBase 0, Rg.OB_CFG.ENCODER, 1)] : State) (.mp : Master) = true ∧ (obsWorld [] ObsTile.off [(obBase 0, Rg.OB_CFG.ENCODER, 1)] : State).on .fa = true ∧ (obsWorld [] ObsTile.off [(obBase 0, Rg.OB_CFG.ENCODER, 1)] : State).isEnc 0 = true := by decide +kernel

theorem witness_SurveyAndPositionRun_9 :
    0 < 2 ∧ 2 < 4 ∧ mayWriteService (obsWorld [] ObsTile.off [(obBase 0, Rg.OB_CFG.ENCODER, 1)] : State) (.mp : Master) = true ∧ (obsWorld [] ObsTile.off [(obBase 0, Rg.OB_CFG.ENCODER, 1)] : State).on .fa = true ∧ (obsWorld [] ObsTile.off [(obBase 0, Rg.OB_CFG.ENCODER, 1)] : State).isEnc 0 = true := by decide +kernel

theorem witness_IntegrityFollowsItsCauses_1 :
    0 < 2 ∧ mayWriteService (obsWorld [] ObsTile.off [(obBase 0, Rg.OB_CFG.ENCODER, 1), (obBase 0, Rg.OB_INT_STAT.CAUSE, 0x82)] : State) (.mp : Master) = true ∧ (obsWorld [] ObsTile.off [(obBase 0, Rg.OB_CFG.ENCODER, 1), (obBase 0, Rg.OB_INT_STAT.CAUSE, 0x82)] : State).on .fa = true ∧ (obsWorld [] ObsTile.off [(obBase 0, Rg.OB_CFG.ENCODER, 1), (obBase 0, Rg.OB_INT_STAT.CAUSE, 0x82)] : State).isEnc 0 = true ∧ (obsWorld [] ObsTile.off [(obBase 0, Rg.OB_CFG.ENCODER, 1), (obBase 0, Rg.OB_INT_STAT.CAUSE, 0x82)] : State).cause 0 cLatched = true := by decide +kernel

theorem witness_IntegrityFollowsItsCauses_2 :
    ({ obsWorld [] ObsTile.off [(obBase 0, Rg.OB_CFG.ENCODER, 1), (obBase 0, Rg.OB_INT2.UNMON_S, 2)] with time := { world.time with era := 9 } } : State).obOn 0 = true ∧ ({ obsWorld [] ObsTile.off [(obBase 0, Rg.OB_CFG.ENCODER, 1), (obBase 0, Rg.OB_INT2.UNMON_S, 2)] with time := { world.time with era := 9 } } : State).isEnc 0 = true ∧ ({ obsWorld [] ObsTile.off [(obBase 0, Rg.OB_CFG.ENCODER, 1), (obBase 0, Rg.OB_INT2.UNMON_S, 2)] with time := { world.time with era := 9 } } : State).get (obBase 0) Rg.OB_INT2.UNMON_S ≠ 0 ∧
    (({ obsWorld [] ObsTile.off [(obBase 0, Rg.OB_CFG.ENCODER, 1), (obBase 0, Rg.OB_INT2.UNMON_S, 2)] with time := { world.time with era := 9 } } : State).ob 0).monAt + ({ obsWorld [] ObsTile.off [(obBase 0, Rg.OB_CFG.ENCODER, 1), (obBase 0, Rg.OB_INT2.UNMON_S, 2)] with time := { world.time with era := 9 } } : State).get (obBase 0) Rg.OB_INT2.UNMON_S * 1000000000 ≤ ({ obsWorld [] ObsTile.off [(obBase 0, Rg.OB_CFG.ENCODER, 1), (obBase 0, Rg.OB_INT2.UNMON_S, 2)] with time := { world.time with era := 9 } } : State).nowNs := by decide +kernel

theorem witness_IntegrityFollowsItsCauses_3 :
    (obsWorld [] ObsTile.off [(obBase 0, Rg.OB_CFG.ENCODER, 1), (bMpc, Rg.MODE_STAT.MODE, 3)] : State).obOn 0 = true ∧ (obsWorld [] ObsTile.off [(obBase 0, Rg.OB_CFG.ENCODER, 1), (bMpc, Rg.MODE_STAT.MODE, 3)] : State).isEnc 0 = true ∧ (obsWorld [] ObsTile.off [(obBase 0, Rg.OB_CFG.ENCODER, 1), (bMpc, Rg.MODE_STAT.MODE, 3)] : State).mode = .holdover ∧ max 1 ((obsWorld [] ObsTile.off [(obBase 0, Rg.OB_CFG.ENCODER, 1), (bMpc, Rg.MODE_STAT.MODE, 3)] : State).get (obBase 0) Rg.OB_HO.TERR_MAX) * 100 < (obsWorld [] ObsTile.off [(obBase 0, Rg.OB_CFG.ENCODER, 1), (bMpc, Rg.MODE_STAT.MODE, 3)] : State).terr := by decide +kernel

end Sys2Proof.Tests
end

