-- ==== Sys2Proof/Tests/Witness09.lean ====
section
/-! SUPPORT. Witnesses: for each clause of a statement a state and operands that meet its hypotheses. -/

set_option Elab.async false

open Sys2Proof Sys2Proof.Machine

namespace Sys2Proof.Tests

theorem witness_FilterLanesAreControlled_1 :
    10 < 64 ∧ mayWriteService (put { withLink { testLink with rc := ⟨1, 96, 41, 0, 0, false, false, 13, 0, 0xFF⟩ } with img := { fullImg with modclk := 2 ^ 64 - 1 } } [(flBase 10, Rg.FL_CFG.R, 64), (flBase 10, Rg.FL_CFG.DEC, 3), (flBase 10, Rg.FL_CFG.TAPS, 9), (flBase 10, Rg.FL_CFG.FAST_EN, 0)] : State) (.mp : Master) = true ∧ (put { withLink { testLink with rc := ⟨1, 96, 41, 0, 0, false, false, 13, 0, 0xFF⟩ } with img := { fullImg with modclk := 2 ^ 64 - 1 } } [(flBase 10, Rg.FL_CFG.R, 64), (flBase 10, Rg.FL_CFG.DEC, 3), (flBase 10, Rg.FL_CFG.TAPS, 9), (flBase 10, Rg.FL_CFG.FAST_EN, 0)] : State).chanOn .filt 10 = true ∧ (put { withLink { testLink with rc := ⟨1, 96, 41, 0, 0, false, false, 13, 0, 0xFF⟩ } with img := { fullImg with modclk := 2 ^ 64 - 1 } } [(flBase 10, Rg.FL_CFG.R, 64), (flBase 10, Rg.FL_CFG.DEC, 3), (flBase 10, Rg.FL_CFG.TAPS, 9), (flBase 10, Rg.FL_CFG.FAST_EN, 0)] : State).flag (flBase 10) Rg.FL_CTRL.EN = false ∧ (put { withLink { testLink with rc := ⟨1, 96, 41, 0, 0, false, false, 13, 0, 0xFF⟩ } with img := { fullImg with modclk := 2 ^ 64 - 1 } } [(flBase 10, Rg.FL_CFG.R, 64), (flBase 10, Rg.FL_CFG.DEC, 3), (flBase 10, Rg.FL_CFG.TAPS, 9), (flBase 10, Rg.FL_CFG.FAST_EN, 0)] : State).flRefusal 10 = 0 := by decide +kernel

theorem witness_FilterLanesAreControlled_2 :
    10 < 64 ∧ (put { world with waves := { world.waves with lanes := [(10, { (FiltLane.off) with next := 1 })] } } [(flBase 10, Rg.FL_CTRL.EN, 1), (flBase 10, Rg.FL_CTRL.SRC, 3), (flBase 10, Rg.FL_CFG.R, 16)] : State).flEn 10 = true ∧ (put { world with waves := { world.waves with lanes := [(10, { (FiltLane.off) with next := 1 })] } } [(flBase 10, Rg.FL_CTRL.EN, 1), (flBase 10, Rg.FL_CTRL.SRC, 3), (flBase 10, Rg.FL_CFG.R, 16)] : State).srcWaits 10 = true ∧ (put { world with waves := { world.waves with lanes := [(10, { (FiltLane.off) with next := 1 })] } } [(flBase 10, Rg.FL_CTRL.EN, 1), (flBase 10, Rg.FL_CTRL.SRC, 3), (flBase 10, Rg.FL_CFG.R, 16)] : State).toGrid 10 = 0 := by decide +kernel

theorem witness_FilterLanesAreControlled_3 :
    9 < 64 ∧ (put world [(bWv, Rg.WV_MCLK_STAT.ON, 0xFF)] : State).sdOn 9 = true ∧ (put world [(bWv, Rg.WV_MCLK_STAT.ON, 0xFF)] : State).clkOn (9 / 8) = true ∧ (⟨0, 2000, false, some 300, 0⟩ : WvObs).ones = some 300 ∧
    wvState (⟨0, 2000, false, some 300, 0⟩ : WvObs) (bitOf (9 / 8) ((put world [(bWv, Rg.WV_MCLK_STAT.ON, 0xFF)] : State).get bWv Rg.WV_MCLK_STAT.CONTEND)) = some 2 := by decide +kernel

theorem witness_FilterLanesAreControlled_4 :
    3 < 8 ∧ (put world [(bWv, Rg.WV_MCLK_STAT.ON, 0xFF)] : State).clkOn 3 = true ∧ 64 ≤ 70 := by decide +kernel

theorem witness_FilterLanesAreControlled_5 :
    10 < 64 ∧ mayWriteService (put world [(flBase 10, Rg.FL_CTRL.EN, 1)] : State) (.mp : Master) = true ∧ (put world [(flBase 10, Rg.FL_CTRL.EN, 1)] : State).chanOn .filt 10 = true ∧ (put world [(flBase 10, Rg.FL_CTRL.EN, 1)] : State).flag (flBase 10) Rg.FL_CTRL.EN = true ∧ ((put world [(flBase 10, Rg.FL_CTRL.EN, 1)] : State).fl 10).fade = none := by decide +kernel

theorem witness_FilterLanesAreControlled_6 :
    10 < 64 ∧ ((put { world with waves := { world.waves with lanes := [(10, { (FiltLane.off) with req := some 16 })] } } [(flBase 10, Rg.FL_CTRL.EN, 1)] : State).fl 10).due = none ∧ ((put { world with waves := { world.waves with lanes := [(10, { (FiltLane.off) with req := some 16 })] } } [(flBase 10, Rg.FL_CTRL.EN, 1)] : State).fl 10).req = some 16 ∧ (put { world with waves := { world.waves with lanes := [(10, { (FiltLane.off) with req := some 16 })] } } [(flBase 10, Rg.FL_CTRL.EN, 1)] : State).flEn 10 = true ∧ ((put { world with waves := { world.waves with lanes := [(10, { (FiltLane.off) with req := some 16 })] } } [(flBase 10, Rg.FL_CTRL.EN, 1)] : State).fl 10).fade = none ∧ (put { world with waves := { world.waves with lanes := [(10, { (FiltLane.off) with req := some 16 })] } } [(flBase 10, Rg.FL_CTRL.EN, 1)] : State).bankOk 10 (1 - (put { world with waves := { world.waves with lanes := [(10, { (FiltLane.off) with req := some 16 })] } } [(flBase 10, Rg.FL_CTRL.EN, 1)] : State).flActive 10) = true := by decide +kernel

theorem witness_FilterLanesAreControlled_7 :
    10 < 64 ∧ ((put { world with waves := { world.waves with lanes := [(10, { (FiltLane.off) with due := some 0 })] } } [(flBase 10, Rg.FL_CTRL.EN, 1)] : State).fl 10).due = some 0 ∧ ((put { world with waves := { world.waves with lanes := [(10, { (FiltLane.off) with due := some 0 })] } } [(flBase 10, Rg.FL_CTRL.EN, 1)] : State).fl 10).req = none ∧ (put { world with waves := { world.waves with lanes := [(10, { (FiltLane.off) with due := some 0 })] } } [(flBase 10, Rg.FL_CTRL.EN, 1)] : State).flEn 10 = true ∧ ((put { world with waves := { world.waves with lanes := [(10, { (FiltLane.off) with due := some 0 })] } } [(flBase 10, Rg.FL_CTRL.EN, 1)] : State).fl 10).fade = none ∧ (put { world with waves := { world.waves with lanes := [(10, { (FiltLane.off) with due := some 0 })] } } [(flBase 10, Rg.FL_CTRL.EN, 1)] : State).bankOk 10 (1 - (put { world with waves := { world.waves with lanes := [(10, { (FiltLane.off) with due := some 0 })] } } [(flBase 10, Rg.FL_CTRL.EN, 1)] : State).flActive 10) = true := by decide +kernel

theorem witness_FilterLanesAreControlled_8 :
    10 < 64 ∧ (({ world with waves := { world.waves with lanes := [(10, { (FiltLane.off) with fade := some (16, 16), queued := some 4 })] } } : State).fl 10).fade = some (16, 16) ∧ 16 ≤ 16 := by decide +kernel

theorem witness_FilterLanesAreControlled_9 :
    10 < 64 ∧ (({ world with waves := { world.waves with lanes := [(10, { (FiltLane.off) with pend := [⟨1, 0, 0, true, 5, 9⟩] })] } } : State).fl 10).pend = (⟨1, 0, 0, true, 5, 9⟩ : ThrEv) :: ([] : List ThrEv) ∧ (⟨1, 0, 0, true, 5, 9⟩ : ThrEv).k < 2 := by decide +kernel

theorem witness_SamplesAreComputed_1 :
    1 < 8 ∧ 2 < 8 ∧ (put { withLink { testLink with rc := ⟨1, 96, 41, 0, 0, false, false, 13, 0, 0xFF⟩ } with rx := [(1, ⟨2 * 2 ^ 32, [0x123456789ABCDEF], false⟩)], waves := { world.waves with pos := List.replicate 64 0, words := List.replicate 64 0, lanes := [(10, { (FiltLane.off) with src := 2 })] } } [(flBase 10, Rg.FL_CTRL.EN, 1), (flBase 10, Rg.FL_CTRL.SRC, 2), (flBase 10, Rg.FL_CFG.R, 16)] : State).rx.find? (fun x => ((put { withLink { testLink with rc := ⟨1, 96, 41, 0, 0, false, false, 13, 0, 0xFF⟩ } with rx := [(1, ⟨2 * 2 ^ 32, [0x123456789ABCDEF], false⟩)], waves := { world.waves with pos := List.replicate 64 0, words := List.replicate 64 0, lanes := [(10, { (FiltLane.off) with src := 2 })] } } [(flBase 10, Rg.FL_CTRL.EN, 1), (flBase 10, Rg.FL_CTRL.SRC, 2), (flBase 10, Rg.FL_CFG.R, 16)] : State).link x.1).any (fun l => l.rc.dst == flPos (1 * 8) && l.rc.src == 96 && l.rc.port == 0)) = some (1, (⟨2 * 2 ^ 32, [0x123456789ABCDEF], false⟩ : QPkt)) ∧
    10 = 1 * 8 + pktLane (⟨2 * 2 ^ 32, [0x123456789ABCDEF], false⟩ : QPkt).lw % 8 ∧ (put { withLink { testLink with rc := ⟨1, 96, 41, 0, 0, false, false, 13, 0, 0xFF⟩ } with rx := [(1, ⟨2 * 2 ^ 32, [0x123456789ABCDEF], false⟩)], waves := { world.waves with pos := List.replicate 64 0, words := List.replicate 64 0, lanes := [(10, { (FiltLane.off) with src := 2 })] } } [(flBase 10, Rg.FL_CTRL.EN, 1), (flBase 10, Rg.FL_CTRL.SRC, 2), (flBase 10, Rg.FL_CFG.R, 16)] : State).waves.pos[10]? = some 0 ∧ 10 < (put { withLink { testLink with rc := ⟨1, 96, 41, 0, 0, false, false, 13, 0, 0xFF⟩ } with rx := [(1, ⟨2 * 2 ^ 32, [0x123456789ABCDEF], false⟩)], waves := { world.waves with pos := List.replicate 64 0, words := List.replicate 64 0, lanes := [(10, { (FiltLane.off) with src := 2 })] } } [(flBase 10, Rg.FL_CTRL.EN, 1), (flBase 10, Rg.FL_CTRL.SRC, 2), (flBase 10, Rg.FL_CFG.R, 16)] : State).waves.words.length ∧ ((put { withLink { testLink with rc := ⟨1, 96, 41, 0, 0, false, false, 13, 0, 0xFF⟩ } with rx := [(1, ⟨2 * 2 ^ 32, [0x123456789ABCDEF], false⟩)], waves := { world.waves with pos := List.replicate 64 0, words := List.replicate 64 0, lanes := [(10, { (FiltLane.off) with src := 2 })] } } [(flBase 10, Rg.FL_CTRL.EN, 1), (flBase 10, Rg.FL_CTRL.SRC, 2), (flBase 10, Rg.FL_CFG.R, 16)] : State).fl (1 * 8 + 2)).next = 0 ∧
    (put { withLink { testLink with rc := ⟨1, 96, 41, 0, 0, false, false, 13, 0, 0xFF⟩ } with rx := [(1, ⟨2 * 2 ^ 32, [0x123456789ABCDEF], false⟩)], waves := { world.waves with pos := List.replicate 64 0, words := List.replicate 64 0, lanes := [(10, { (FiltLane.off) with src := 2 })] } } [(flBase 10, Rg.FL_CTRL.EN, 1), (flBase 10, Rg.FL_CTRL.SRC, 2), (flBase 10, Rg.FL_CFG.R, 16)] : State).flEn (1 * 8 + 2) = true ∧ (put { withLink { testLink with rc := ⟨1, 96, 41, 0, 0, false, false, 13, 0, 0xFF⟩ } with rx := [(1, ⟨2 * 2 ^ 32, [0x123456789ABCDEF], false⟩)], waves := { world.waves with pos := List.replicate 64 0, words := List.replicate 64 0, lanes := [(10, { (FiltLane.off) with src := 2 })] } } [(flBase 10, Rg.FL_CTRL.EN, 1), (flBase 10, Rg.FL_CTRL.SRC, 2), (flBase 10, Rg.FL_CFG.R, 16)] : State).flInput (1 * 8 + 2) = 10 ∧ (put { withLink { testLink with rc := ⟨1, 96, 41, 0, 0, false, false, 13, 0, 0xFF⟩ } with rx := [(1, ⟨2 * 2 ^ 32, [0x123456789ABCDEF], false⟩)], waves := { world.waves with pos := List.replicate 64 0, words := List.replicate 64 0, lanes := [(10, { (FiltLane.off) with src := 2 })] } } [(flBase 10, Rg.FL_CTRL.EN, 1), (flBase 10, Rg.FL_CTRL.SRC, 2), (flBase 10, Rg.FL_CFG.R, 16)] : State).srcWaits (1 * 8 + 2) = false := by decide +kernel

theorem witness_SamplesAreComputed_2 :
    10 < 64 ∧ (put { world with waves := { world.waves with lanes := [(10, { (FiltLane.off) with fine := { (FiltLane.off).fine with q := [⟨16, 5000, false⟩] } })] } } [(flBase 10, Rg.FL_CTRL.EN, 1), (flBase 10, Rg.FL_CFG.R, 16), (flBase 10, Rg.FL_CFG.HB1, 0), (flBase 10, Rg.FL_CFG.HB2, 0)] : State).flEn 10 = true ∧ fineTake ((put { world with waves := { world.waves with lanes := [(10, { (FiltLane.off) with fine := { (FiltLane.off).fine with q := [⟨16, 5000, false⟩] } })] } } [(flBase 10, Rg.FL_CTRL.EN, 1), (flBase 10, Rg.FL_CFG.R, 16), (flBase 10, Rg.FL_CFG.HB1, 0), (flBase 10, Rg.FL_CFG.HB2, 0)] : State).flR 10) ((put { world with waves := { world.waves with lanes := [(10, { (FiltLane.off) with fine := { (FiltLane.off).fine with q := [⟨16, 5000, false⟩] } })] } } [(flBase 10, Rg.FL_CTRL.EN, 1), (flBase 10, Rg.FL_CFG.R, 16), (flBase 10, Rg.FL_CFG.HB1, 0), (flBase 10, Rg.FL_CFG.HB2, 0)] : State).flM 10) ((put { world with waves := { world.waves with lanes := [(10, { (FiltLane.off) with fine := { (FiltLane.off).fine with q := [⟨16, 5000, false⟩] } })] } } [(flBase 10, Rg.FL_CTRL.EN, 1), (flBase 10, Rg.FL_CFG.R, 16), (flBase 10, Rg.FL_CFG.HB1, 0), (flBase 10, Rg.FL_CFG.HB2, 0)] : State).flH1 10) ((put { world with waves := { world.waves with lanes := [(10, { (FiltLane.off) with fine := { (FiltLane.off).fine with q := [⟨16, 5000, false⟩] } })] } } [(flBase 10, Rg.FL_CTRL.EN, 1), (flBase 10, Rg.FL_CFG.R, 16), (flBase 10, Rg.FL_CFG.HB1, 0), (flBase 10, Rg.FL_CFG.HB2, 0)] : State).flH2 10) ((put { world with waves := { world.waves with lanes := [(10, { (FiltLane.off) with fine := { (FiltLane.off).fine with q := [⟨16, 5000, false⟩] } })] } } [(flBase 10, Rg.FL_CTRL.EN, 1), (flBase 10, Rg.FL_CFG.R, 16), (flBase 10, Rg.FL_CFG.HB1, 0), (flBase 10, Rg.FL_CFG.HB2, 0)] : State).fl 10).fine.q ⟨(put { world with waves := { world.waves with lanes := [(10, { (FiltLane.off) with fine := { (FiltLane.off).fine with q := [⟨16, 5000, false⟩] } })] } } [(flBase 10, Rg.FL_CTRL.EN, 1), (flBase 10, Rg.FL_CFG.R, 16), (flBase 10, Rg.FL_CFG.HB1, 0), (flBase 10, Rg.FL_CFG.HB2, 0)] : State).fl 10, false, 0⟩ = some ((⟨{ (FiltLane.off) with fir := [5000] }, false, 0⟩ : FineRun), 16) ∧ ((put { world with waves := { world.waves with lanes := [(10, { (FiltLane.off) with fine := { (FiltLane.off).fine with q := [⟨16, 5000, false⟩] } })] } } [(flBase 10, Rg.FL_CTRL.EN, 1), (flBase 10, Rg.FL_CFG.R, 16), (flBase 10, Rg.FL_CFG.HB1, 0), (flBase 10, Rg.FL_CFG.HB2, 0)] : State).fl 10).fade = none := by decide +kernel

theorem witness_SamplesAreComputed_3 :
    10 < 64 ∧ (put { world with waves := { world.waves with lanes := [(10, { (FiltLane.off) with fast := { (FiltLane.off).fast with q := [⟨16, 5000, false⟩] } })] } } [(flBase 10, Rg.FL_CTRL.EN, 1), (flBase 10, Rg.FL_CFG.R, 16)] : State).flEn 10 = true ∧ fastTake ((put { world with waves := { world.waves with lanes := [(10, { (FiltLane.off) with fast := { (FiltLane.off).fast with q := [⟨16, 5000, false⟩] } })] } } [(flBase 10, Rg.FL_CTRL.EN, 1), (flBase 10, Rg.FL_CFG.R, 16)] : State).flR 10 * (put { world with waves := { world.waves with lanes := [(10, { (FiltLane.off) with fast := { (FiltLane.off).fast with q := [⟨16, 5000, false⟩] } })] } } [(flBase 10, Rg.FL_CTRL.EN, 1), (flBase 10, Rg.FL_CFG.R, 16)] : State).flFastDec 10) ((put { world with waves := { world.waves with lanes := [(10, { (FiltLane.off) with fast := { (FiltLane.off).fast with q := [⟨16, 5000, false⟩] } })] } } [(flBase 10, Rg.FL_CTRL.EN, 1), (flBase 10, Rg.FL_CFG.R, 16)] : State).fl 10).fast.q ((put { world with waves := { world.waves with lanes := [(10, { (FiltLane.off) with fast := { (FiltLane.off).fast with q := [⟨16, 5000, false⟩] } })] } } [(flBase 10, Rg.FL_CTRL.EN, 1), (flBase 10, Rg.FL_CFG.R, 16)] : State).fl 10) false = some (({ (FiltLane.off) with fastH := [5000] } : FiltLane), 16, false) := by decide +kernel

end Sys2Proof.Tests
end

