-- ==== Sys2Proof/Tests/Witness10.lean ====
section
/-! SUPPORT. Witnesses: for each clause of a statement a state and operands that meet its hypotheses. -/

set_option Elab.async false

open Sys2Proof Sys2Proof.Machine

namespace Sys2Proof.Tests

theorem witness_PhasorsAreEstimated_1 :
    20 < 64 ∧ mayWriteService (put (withLink { testLink with rc := ⟨1, 41, 45, 0, 0, false, false, 13, 0, 0xFF⟩ }) [(phBase 20, Rg.PH_CFG.SRC_CH, 10), (phBase 20, Rg.PH_CFG.FS, 50)] : State) (.mp : Master) = true ∧ (put (withLink { testLink with rc := ⟨1, 41, 45, 0, 0, false, false, 13, 0, 0xFF⟩ }) [(phBase 20, Rg.PH_CFG.SRC_CH, 10), (phBase 20, Rg.PH_CFG.FS, 50)] : State).chanOn .phs 20 = true ∧ (put (withLink { testLink with rc := ⟨1, 41, 45, 0, 0, false, false, 13, 0, 0xFF⟩ }) [(phBase 20, Rg.PH_CFG.SRC_CH, 10), (phBase 20, Rg.PH_CFG.FS, 50)] : State).flag (phBase 20) Rg.PH_CTRL.EN = false ∧ (put (withLink { testLink with rc := ⟨1, 41, 45, 0, 0, false, false, 13, 0, 0xFF⟩ }) [(phBase 20, Rg.PH_CFG.SRC_CH, 10), (phBase 20, Rg.PH_CFG.FS, 50)] : State).phRefusal 20 = 0 := by decide +kernel

theorem witness_PhasorsAreEstimated_2 :
    20 < 64 ∧ (put { world with img := { fullImg with modclk := 2 ^ 64 - 1 }, phs := [(20, { (PhsLane.off) with fine := (⟨0, 5, 0, false⟩ : PhsSample) :: (List.range 80).map (fun i => ⟨(i + 1) * 500000, 5, 0, false⟩), nxt := 20000000 })] } [(phBase 20, Rg.PH_CTRL.EN, 1), (phBase 20, Rg.PH_CFG.SRC_CH, 10), (phBase 20, Rg.PH_CFG.FS, 50)] : State).phEn 20 = true ∧ ((State.phRate (State.phAbsorb (put { world with img := { fullImg with modclk := 2 ^ 64 - 1 }, phs := [(20, { (PhsLane.off) with fine := (⟨0, 5, 0, false⟩ : PhsSample) :: (List.range 80).map (fun i => ⟨(i + 1) * 500000, 5, 0, false⟩), nxt := 20000000 })] } [(phBase 20, Rg.PH_CTRL.EN, 1), (phBase 20, Rg.PH_CFG.SRC_CH, 10), (phBase 20, Rg.PH_CFG.FS, 50)]) (phPos 20)) 20) : State) = ((put { world with img := { fullImg with modclk := 2 ^ 64 - 1 }, phs := [(20, { (PhsLane.off) with fine := (⟨0, 5, 0, false⟩ : PhsSample) :: (List.range 80).map (fun i => ⟨(i + 1) * 500000, 5, 0, false⟩), nxt := 20000000 })] } [(phBase 20, Rg.PH_CTRL.EN, 1), (phBase 20, Rg.PH_CFG.SRC_CH, 10), (phBase 20, Rg.PH_CFG.FS, 50)] : State).phAbsorb (phPos 20)).phRate 20 ∧ ((State.phRate (State.phAbsorb (put { world with img := { fullImg with modclk := 2 ^ 64 - 1 }, phs := [(20, { (PhsLane.off) with fine := (⟨0, 5, 0, false⟩ : PhsSample) :: (List.range 80).map (fun i => ⟨(i + 1) * 500000, 5, 0, false⟩), nxt := 20000000 })] } [(phBase 20, Rg.PH_CTRL.EN, 1), (phBase 20, Rg.PH_CFG.SRC_CH, 10), (phBase 20, Rg.PH_CFG.FS, 50)]) (phPos 20)) 20) : State).phRateOk 20 = true ∧ (((State.phRate (State.phAbsorb (put { world with img := { fullImg with modclk := 2 ^ 64 - 1 }, phs := [(20, { (PhsLane.off) with fine := (⟨0, 5, 0, false⟩ : PhsSample) :: (List.range 80).map (fun i => ⟨(i + 1) * 500000, 5, 0, false⟩), nxt := 20000000 })] } [(phBase 20, Rg.PH_CTRL.EN, 1), (phBase 20, Rg.PH_CFG.SRC_CH, 10), (phBase 20, Rg.PH_CFG.FS, 50)]) (phPos 20)) 20) : State).ph 20).fine = (⟨0, 5, 0, false⟩ : PhsSample) :: ((List.range 80).map (fun i => ⟨(i + 1) * 500000, 5, 0, false⟩) : List PhsSample) ∧
    20000000 = (((State.phRate (State.phAbsorb (put { world with img := { fullImg with modclk := 2 ^ 64 - 1 }, phs := [(20, { (PhsLane.off) with fine := (⟨0, 5, 0, false⟩ : PhsSample) :: (List.range 80).map (fun i => ⟨(i + 1) * 500000, 5, 0, false⟩), nxt := 20000000 })] } [(phBase 20, Rg.PH_CTRL.EN, 1), (phBase 20, Rg.PH_CFG.SRC_CH, 10), (phBase 20, Rg.PH_CFG.FS, 50)]) (phPos 20)) 20) : State).ph 20).nxt ∧ 20000000 = ((State.phRate (State.phAbsorb (put { world with img := { fullImg with modclk := 2 ^ 64 - 1 }, phs := [(20, { (PhsLane.off) with fine := (⟨0, 5, 0, false⟩ : PhsSample) :: (List.range 80).map (fun i => ⟨(i + 1) * 500000, 5, 0, false⟩), nxt := 20000000 })] } [(phBase 20, Rg.PH_CTRL.EN, 1), (phBase 20, Rg.PH_CFG.SRC_CH, 10), (phBase 20, Rg.PH_CFG.FS, 50)]) (phPos 20)) 20) : State).phHalf 20 ∧ max (⟨0, 5, 0, false⟩ : PhsSample).ts (((State.phRate (State.phAbsorb (put { world with img := { fullImg with modclk := 2 ^ 64 - 1 }, phs := [(20, { (PhsLane.off) with fine := (⟨0, 5, 0, false⟩ : PhsSample) :: (List.range 80).map (fun i => ⟨(i + 1) * 500000, 5, 0, false⟩), nxt := 20000000 })] } [(phBase 20, Rg.PH_CTRL.EN, 1), (phBase 20, Rg.PH_CFG.SRC_CH, 10), (phBase 20, Rg.PH_CFG.FS, 50)]) (phPos 20)) 20) : State).ph 20).since + 20000000 ≤ 20000000 ∧
    (((State.phRate (State.phAbsorb (put { world with img := { fullImg with modclk := 2 ^ 64 - 1 }, phs := [(20, { (PhsLane.off) with fine := (⟨0, 5, 0, false⟩ : PhsSample) :: (List.range 80).map (fun i => ⟨(i + 1) * 500000, 5, 0, false⟩), nxt := 20000000 })] } [(phBase 20, Rg.PH_CTRL.EN, 1), (phBase 20, Rg.PH_CFG.SRC_CH, 10), (phBase 20, Rg.PH_CFG.FS, 50)]) (phPos 20)) 20) : State).phPhases 20).all (fun p => covers (20000000 - 20000000) (20000000 + 20000000) (((State.phRate (State.phAbsorb (put { world with img := { fullImg with modclk := 2 ^ 64 - 1 }, phs := [(20, { (PhsLane.off) with fine := (⟨0, 5, 0, false⟩ : PhsSample) :: (List.range 80).map (fun i => ⟨(i + 1) * 500000, 5, 0, false⟩), nxt := 20000000 })] } [(phBase 20, Rg.PH_CTRL.EN, 1), (phBase 20, Rg.PH_CFG.SRC_CH, 10), (phBase 20, Rg.PH_CFG.FS, 50)]) (phPos 20)) 20) : State).ph p).fine) = true := by decide +kernel

theorem witness_PhasorsAreEstimated_3 :
    20 < 64 ∧ (put { world with img := { fullImg with modclk := 2 ^ 64 - 1 }, phs := [(20, { (PhsLane.off) with fine := (⟨0, 5, 0, false⟩ : PhsSample) :: (List.range 80).map (fun i => ⟨(i + 1) * 500000, 5, 0, false⟩), fast := (⟨0, 5, 0, false⟩ : PhsSample) :: (List.range 80).map (fun i => ⟨(i + 1) * 500000, 5, 0, false⟩), fnxt := 20000000 })] } [(phBase 20, Rg.PH_CTRL.EN, 1), (phBase 20, Rg.PH_CFG.FAST_EN, 1), (phBase 20, Rg.PH_CFG.SRC_CH, 10), (phBase 20, Rg.PH_CFG.FS, 50)] : State).phEn 20 = true ∧ (put { world with img := { fullImg with modclk := 2 ^ 64 - 1 }, phs := [(20, { (PhsLane.off) with fine := (⟨0, 5, 0, false⟩ : PhsSample) :: (List.range 80).map (fun i => ⟨(i + 1) * 500000, 5, 0, false⟩), fast := (⟨0, 5, 0, false⟩ : PhsSample) :: (List.range 80).map (fun i => ⟨(i + 1) * 500000, 5, 0, false⟩), fnxt := 20000000 })] } [(phBase 20, Rg.PH_CTRL.EN, 1), (phBase 20, Rg.PH_CFG.FAST_EN, 1), (phBase 20, Rg.PH_CFG.SRC_CH, 10), (phBase 20, Rg.PH_CFG.FS, 50)] : State).flag (phBase 20) Rg.PH_CFG.FAST_EN = true ∧ ((State.phRate (State.phAbsorb (put { world with img := { fullImg with modclk := 2 ^ 64 - 1 }, phs := [(20, { (PhsLane.off) with fine := (⟨0, 5, 0, false⟩ : PhsSample) :: (List.range 80).map (fun i => ⟨(i + 1) * 500000, 5, 0, false⟩), fast := (⟨0, 5, 0, false⟩ : PhsSample) :: (List.range 80).map (fun i => ⟨(i + 1) * 500000, 5, 0, false⟩), fnxt := 20000000 })] } [(phBase 20, Rg.PH_CTRL.EN, 1), (phBase 20, Rg.PH_CFG.FAST_EN, 1), (phBase 20, Rg.PH_CFG.SRC_CH, 10), (phBase 20, Rg.PH_CFG.FS, 50)]) (phPos 20)) 20) : State) = ((put { world with img := { fullImg with modclk := 2 ^ 64 - 1 }, phs := [(20, { (PhsLane.off) with fine := (⟨0, 5, 0, false⟩ : PhsSample) :: (List.range 80).map (fun i => ⟨(i + 1) * 500000, 5, 0, false⟩), fast := (⟨0, 5, 0, false⟩ : PhsSample) :: (List.range 80).map (fun i => ⟨(i + 1) * 500000, 5, 0, false⟩), fnxt := 20000000 })] } [(phBase 20, Rg.PH_CTRL.EN, 1), (phBase 20, Rg.PH_CFG.FAST_EN, 1), (phBase 20, Rg.PH_CFG.SRC_CH, 10), (phBase 20, Rg.PH_CFG.FS, 50)] : State).phAbsorb (phPos 20)).phRate 20 ∧ ((State.phRate (State.phAbsorb (put { world with img := { fullImg with modclk := 2 ^ 64 - 1 }, phs := [(20, { (PhsLane.off) with fine := (⟨0, 5, 0, false⟩ : PhsSample) :: (List.range 80).map (fun i => ⟨(i + 1) * 500000, 5, 0, false⟩), fast := (⟨0, 5, 0, false⟩ : PhsSample) :: (List.range 80).map (fun i => ⟨(i + 1) * 500000, 5, 0, false⟩), fnxt := 20000000 })] } [(phBase 20, Rg.PH_CTRL.EN, 1), (phBase 20, Rg.PH_CFG.FAST_EN, 1), (phBase 20, Rg.PH_CFG.SRC_CH, 10), (phBase 20, Rg.PH_CFG.FS, 50)]) (phPos 20)) 20) : State).phRateOk 20 = true ∧
    (((State.phRate (State.phAbsorb (put { world with img := { fullImg with modclk := 2 ^ 64 - 1 }, phs := [(20, { (PhsLane.off) with fine := (⟨0, 5, 0, false⟩ : PhsSample) :: (List.range 80).map (fun i => ⟨(i + 1) * 500000, 5, 0, false⟩), fast := (⟨0, 5, 0, false⟩ : PhsSample) :: (List.range 80).map (fun i => ⟨(i + 1) * 500000, 5, 0, false⟩), fnxt := 20000000 })] } [(phBase 20, Rg.PH_CTRL.EN, 1), (phBase 20, Rg.PH_CFG.FAST_EN, 1), (phBase 20, Rg.PH_CFG.SRC_CH, 10), (phBase 20, Rg.PH_CFG.FS, 50)]) (phPos 20)) 20) : State).ph 20).path (((State.phRate (State.phAbsorb (put { world with img := { fullImg with modclk := 2 ^ 64 - 1 }, phs := [(20, { (PhsLane.off) with fine := (⟨0, 5, 0, false⟩ : PhsSample) :: (List.range 80).map (fun i => ⟨(i + 1) * 500000, 5, 0, false⟩), fast := (⟨0, 5, 0, false⟩ : PhsSample) :: (List.range 80).map (fun i => ⟨(i + 1) * 500000, 5, 0, false⟩), fnxt := 20000000 })] } [(phBase 20, Rg.PH_CTRL.EN, 1), (phBase 20, Rg.PH_CFG.FAST_EN, 1), (phBase 20, Rg.PH_CFG.SRC_CH, 10), (phBase 20, Rg.PH_CFG.FS, 50)]) (phPos 20)) 20) : State).flag (phBase 20) Rg.PH_CFG.FAST_SRC) = (⟨0, 5, 0, false⟩ : PhsSample) :: ((List.range 80).map (fun i => ⟨(i + 1) * 500000, 5, 0, false⟩) : List PhsSample) ∧ 20000000 = (((State.phRate (State.phAbsorb (put { world with img := { fullImg with modclk := 2 ^ 64 - 1 }, phs := [(20, { (PhsLane.off) with fine := (⟨0, 5, 0, false⟩ : PhsSample) :: (List.range 80).map (fun i => ⟨(i + 1) * 500000, 5, 0, false⟩), fast := (⟨0, 5, 0, false⟩ : PhsSample) :: (List.range 80).map (fun i => ⟨(i + 1) * 500000, 5, 0, false⟩), fnxt := 20000000 })] } [(phBase 20, Rg.PH_CTRL.EN, 1), (phBase 20, Rg.PH_CFG.FAST_EN, 1), (phBase 20, Rg.PH_CFG.SRC_CH, 10), (phBase 20, Rg.PH_CFG.FS, 50)]) (phPos 20)) 20) : State).ph 20).fnxt ∧ max (⟨0, 5, 0, false⟩ : PhsSample).ts (((State.phRate (State.phAbsorb (put { world with img := { fullImg with modclk := 2 ^ 64 - 1 }, phs := [(20, { (PhsLane.off) with fine := (⟨0, 5, 0, false⟩ : PhsSample) :: (List.range 80).map (fun i => ⟨(i + 1) * 500000, 5, 0, false⟩), fast := (⟨0, 5, 0, false⟩ : PhsSample) :: (List.range 80).map (fun i => ⟨(i + 1) * 500000, 5, 0, false⟩), fnxt := 20000000 })] } [(phBase 20, Rg.PH_CTRL.EN, 1), (phBase 20, Rg.PH_CFG.FAST_EN, 1), (phBase 20, Rg.PH_CFG.SRC_CH, 10), (phBase 20, Rg.PH_CFG.FS, 50)]) (phPos 20)) 20) : State).ph 20).since + ((State.phRate (State.phAbsorb (put { world with img := { fullImg with modclk := 2 ^ 64 - 1 }, phs := [(20, { (PhsLane.off) with fine := (⟨0, 5, 0, false⟩ : PhsSample) :: (List.range 80).map (fun i => ⟨(i + 1) * 500000, 5, 0, false⟩), fast := (⟨0, 5, 0, false⟩ : PhsSample) :: (List.range 80).map (fun i => ⟨(i + 1) * 500000, 5, 0, false⟩), fnxt := 20000000 })] } [(phBase 20, Rg.PH_CTRL.EN, 1), (phBase 20, Rg.PH_CFG.FAST_EN, 1), (phBase 20, Rg.PH_CFG.SRC_CH, 10), (phBase 20, Rg.PH_CFG.FS, 50)]) (phPos 20)) 20) : State).phCycle 20 ≤ 20000000 ∧
    (((State.phRate (State.phAbsorb (put { world with img := { fullImg with modclk := 2 ^ 64 - 1 }, phs := [(20, { (PhsLane.off) with fine := (⟨0, 5, 0, false⟩ : PhsSample) :: (List.range 80).map (fun i => ⟨(i + 1) * 500000, 5, 0, false⟩), fast := (⟨0, 5, 0, false⟩ : PhsSample) :: (List.range 80).map (fun i => ⟨(i + 1) * 500000, 5, 0, false⟩), fnxt := 20000000 })] } [(phBase 20, Rg.PH_CTRL.EN, 1), (phBase 20, Rg.PH_CFG.FAST_EN, 1), (phBase 20, Rg.PH_CFG.SRC_CH, 10), (phBase 20, Rg.PH_CFG.FS, 50)]) (phPos 20)) 20) : State).phPhases 20).all (fun p => covers (20000000 - ((State.phRate (State.phAbsorb (put { world with img := { fullImg with modclk := 2 ^ 64 - 1 }, phs := [(20, { (PhsLane.off) with fine := (⟨0, 5, 0, false⟩ : PhsSample) :: (List.range 80).map (fun i => ⟨(i + 1) * 500000, 5, 0, false⟩), fast := (⟨0, 5, 0, false⟩ : PhsSample) :: (List.range 80).map (fun i => ⟨(i + 1) * 500000, 5, 0, false⟩), fnxt := 20000000 })] } [(phBase 20, Rg.PH_CTRL.EN, 1), (phBase 20, Rg.PH_CFG.FAST_EN, 1), (phBase 20, Rg.PH_CFG.SRC_CH, 10), (phBase 20, Rg.PH_CFG.FS, 50)]) (phPos 20)) 20) : State).phCycle 20) 20000000 ((((State.phRate (State.phAbsorb (put { world with img := { fullImg with modclk := 2 ^ 64 - 1 }, phs := [(20, { (PhsLane.off) with fine := (⟨0, 5, 0, false⟩ : PhsSample) :: (List.range 80).map (fun i => ⟨(i + 1) * 500000, 5, 0, false⟩), fast := (⟨0, 5, 0, false⟩ : PhsSample) :: (List.range 80).map (fun i => ⟨(i + 1) * 500000, 5, 0, false⟩), fnxt := 20000000 })] } [(phBase 20, Rg.PH_CTRL.EN, 1), (phBase 20, Rg.PH_CFG.FAST_EN, 1), (phBase 20, Rg.PH_CFG.SRC_CH, 10), (phBase 20, Rg.PH_CFG.FS, 50)]) (phPos 20)) 20) : State).ph p).path (((State.phRate (State.phAbsorb (put { world with img := { fullImg with modclk := 2 ^ 64 - 1 }, phs := [(20, { (PhsLane.off) with fine := (⟨0, 5, 0, false⟩ : PhsSample) :: (List.range 80).map (fun i => ⟨(i + 1) * 500000, 5, 0, false⟩), fast := (⟨0, 5, 0, false⟩ : PhsSample) :: (List.range 80).map (fun i => ⟨(i + 1) * 500000, 5, 0, false⟩), fnxt := 20000000 })] } [(phBase 20, Rg.PH_CTRL.EN, 1), (phBase 20, Rg.PH_CFG.FAST_EN, 1), (phBase 20, Rg.PH_CFG.SRC_CH, 10), (phBase 20, Rg.PH_CFG.FS, 50)]) (phPos 20)) 20) : State).flag (phBase 20) Rg.PH_CFG.FAST_SRC))) = true := by decide +kernel

theorem witness_StreamsTakeFrames_1 :
    600 < 4096 ∧ mayWriteService (put (withLink { testLink with rc := ⟨1, 27, 51, 0, 0, false, false, 13, 0, 0xFF⟩ }) [(alBase 600, Rg.AL_CFG.RATE, 50), (alBase 600, Rg.AL_WAIT.WMIN, 10), (alBase 600, Rg.AL_WAIT.WMAX, 100), (alBase 600, Rg.AL_WAIT.MARGIN, 5)] : State) (.mp : Master) = true ∧ 600 % 512 < (put (withLink { testLink with rc := ⟨1, 27, 51, 0, 0, false, false, 13, 0, 0xFF⟩ }) [(alBase 600, Rg.AL_CFG.RATE, 50), (alBase 600, Rg.AL_WAIT.WMIN, 10), (alBase 600, Rg.AL_WAIT.WMAX, 100), (alBase 600, Rg.AL_WAIT.MARGIN, 5)] : State).lanesAt (atPos (600 / 512)) ∧ (put (withLink { testLink with rc := ⟨1, 27, 51, 0, 0, false, false, 13, 0, 0xFF⟩ }) [(alBase 600, Rg.AL_CFG.RATE, 50), (alBase 600, Rg.AL_WAIT.WMIN, 10), (alBase 600, Rg.AL_WAIT.WMAX, 100), (alBase 600, Rg.AL_WAIT.MARGIN, 5)] : State).on (domOf (islandOf (atPos (600 / 512)))) = true ∧
    (put (withLink { testLink with rc := ⟨1, 27, 51, 0, 0, false, false, 13, 0, 0xFF⟩ }) [(alBase 600, Rg.AL_CFG.RATE, 50), (alBase 600, Rg.AL_WAIT.WMIN, 10), (alBase 600, Rg.AL_WAIT.WMAX, 100), (alBase 600, Rg.AL_WAIT.MARGIN, 5)] : State).flag (alBase 600) Rg.AL_CFG.EN = false ∧ (put (withLink { testLink with rc := ⟨1, 27, 51, 0, 0, false, false, 13, 0, 0xFF⟩ }) [(alBase 600, Rg.AL_CFG.RATE, 50), (alBase 600, Rg.AL_WAIT.WMIN, 10), (alBase 600, Rg.AL_WAIT.WMAX, 100), (alBase 600, Rg.AL_WAIT.MARGIN, 5)] : State).streamRefusal 600 = 0 := by decide +kernel

theorem witness_StreamsTakeFrames_2 :
    600 < 4096 ∧ mayWriteService (put { world with align := { world.align with streams := [⟨600, 0, 0, []⟩] } } [(alBase 600, Rg.AL_CFG.EN, 1)] : State) (.mp : Master) = true ∧ 600 % 512 < (put { world with align := { world.align with streams := [⟨600, 0, 0, []⟩] } } [(alBase 600, Rg.AL_CFG.EN, 1)] : State).lanesAt (atPos (600 / 512)) ∧ (put { world with align := { world.align with streams := [⟨600, 0, 0, []⟩] } } [(alBase 600, Rg.AL_CFG.EN, 1)] : State).on (domOf (islandOf (atPos (600 / 512)))) = true ∧
    (put { world with align := { world.align with streams := [⟨600, 0, 0, []⟩] } } [(alBase 600, Rg.AL_CFG.EN, 1)] : State).flag (alBase 600) Rg.AL_CFG.EN = true := by decide +kernel

theorem witness_StreamsTakeFrames_3 :
    1 < 8 ∧ (put { withLink { testLink with rc := ⟨1, 27, 51, 0, 0, false, false, 13, 0, 5⟩ } with img := { fullImg with areas := [⟨0, 5, 0, 0, 0, 4096, 256, 4⟩] }, rx := [(1, ⟨0x5200 + 88 * 2 ^ 32, [30 * 2 ^ 12, 0], false⟩)], align := { world.align with streams := [⟨600, 0, 0, []⟩] } } [(alBase 600, Rg.AL_CFG.EN, 1), (alBase 600, Rg.AL_PORT.TIME_BASE, 1000), (bTime, Rg.UTC_CTRL.UTC_OFS, 37)] : State).item (atPos 1) 0x52 = some (27, (⟨0x5200 + 88 * 2 ^ 32, [30 * 2 ^ 12, 0], false⟩ : QPkt)) ∧ (put { withLink { testLink with rc := ⟨1, 27, 51, 0, 0, false, false, 13, 0, 5⟩ } with img := { fullImg with areas := [⟨0, 5, 0, 0, 0, 4096, 256, 4⟩] }, rx := [(1, ⟨0x5200 + 88 * 2 ^ 32, [30 * 2 ^ 12, 0], false⟩)], align := { world.align with streams := [⟨600, 0, 0, []⟩] } } [(alBase 600, Rg.AL_CFG.EN, 1), (alBase 600, Rg.AL_PORT.TIME_BASE, 1000), (bTime, Rg.UTC_CTRL.UTC_OFS, 37)] : State).stream (1 * 512 + pktLane (⟨0x5200 + 88 * 2 ^ 32, [30 * 2 ^ 12, 0], false⟩ : QPkt).lw) = some (⟨600, 0, 0, []⟩ : Stream) ∧ (⟨600, 0, 0, []⟩ : Stream).st = 1 * 512 + pktLane (⟨0x5200 + 88 * 2 ^ 32, [30 * 2 ^ 12, 0], false⟩ : QPkt).lw ∧
    ((put { withLink { testLink with rc := ⟨1, 27, 51, 0, 0, false, false, 13, 0, 5⟩ } with img := { fullImg with areas := [⟨0, 5, 0, 0, 0, 4096, 256, 4⟩] }, rx := [(1, ⟨0x5200 + 88 * 2 ^ 32, [30 * 2 ^ 12, 0], false⟩)], align := { world.align with streams := [⟨600, 0, 0, []⟩] } } [(alBase 600, Rg.AL_CFG.EN, 1), (alBase 600, Rg.AL_PORT.TIME_BASE, 1000), (bTime, Rg.UTC_CTRL.UTC_OFS, 37)] : State).taken (atPos 1) 0x52).memRead ((put { withLink { testLink with rc := ⟨1, 27, 51, 0, 0, false, false, 13, 0, 5⟩ } with img := { fullImg with areas := [⟨0, 5, 0, 0, 0, 4096, 256, 4⟩] }, rx := [(1, ⟨0x5200 + 88 * 2 ^ 32, [30 * 2 ^ 12, 0], false⟩)], align := { world.align with streams := [⟨600, 0, 0, []⟩] } } [(alBase 600, Rg.AL_CFG.EN, 1), (alBase 600, Rg.AL_PORT.TIME_BASE, 1000), (bTime, Rg.UTC_CTRL.UTC_OFS, 37)] : State).slotAddr 27 (atPos 1) (bits 0 12 ((⟨0x5200 + 88 * 2 ^ 32, [30 * 2 ^ 12, 0], false⟩ : QPkt).data.headD 0))) (bits 12 14 ((⟨0x5200 + 88 * 2 ^ 32, [30 * 2 ^ 12, 0], false⟩ : QPkt).data.headD 0)) = (((State.memRead (State.taken (put { withLink { testLink with rc := ⟨1, 27, 51, 0, 0, false, false, 13, 0, 5⟩ } with img := { fullImg with areas := [⟨0, 5, 0, 0, 0, 4096, 256, 4⟩] }, rx := [(1, ⟨0x5200 + 88 * 2 ^ 32, [30 * 2 ^ 12, 0], false⟩)], align := { world.align with streams := [⟨600, 0, 0, []⟩] } } [(alBase 600, Rg.AL_CFG.EN, 1), (alBase 600, Rg.AL_PORT.TIME_BASE, 1000), (bTime, Rg.UTC_CTRL.UTC_OFS, 37)]) (atPos 1) 0x52) (State.slotAddr (put { withLink { testLink with rc := ⟨1, 27, 51, 0, 0, false, false, 13, 0, 5⟩ } with img := { fullImg with areas := [⟨0, 5, 0, 0, 0, 4096, 256, 4⟩] }, rx := [(1, ⟨0x5200 + 88 * 2 ^ 32, [30 * 2 ^ 12, 0], false⟩)], align := { world.align with streams := [⟨600, 0, 0, []⟩] } } [(alBase 600, Rg.AL_CFG.EN, 1), (alBase 600, Rg.AL_PORT.TIME_BASE, 1000), (bTime, Rg.UTC_CTRL.UTC_OFS, 37)]) 27 (atPos 1) 0) 30).1 : State), some (List.replicate 30 0 : List Byte)) ∧
    beVal (((List.replicate 30 0 : List Byte).drop 11).take 3) < ((State.memRead (State.taken (put { withLink { testLink with rc := ⟨1, 27, 51, 0, 0, false, false, 13, 0, 5⟩ } with img := { fullImg with areas := [⟨0, 5, 0, 0, 0, 4096, 256, 4⟩] }, rx := [(1, ⟨0x5200 + 88 * 2 ^ 32, [30 * 2 ^ 12, 0], false⟩)], align := { world.align with streams := [⟨600, 0, 0, []⟩] } } [(alBase 600, Rg.AL_CFG.EN, 1), (alBase 600, Rg.AL_PORT.TIME_BASE, 1000), (bTime, Rg.UTC_CTRL.UTC_OFS, 37)]) (atPos 1) 0x52) (State.slotAddr (put { withLink { testLink with rc := ⟨1, 27, 51, 0, 0, false, false, 13, 0, 5⟩ } with img := { fullImg with areas := [⟨0, 5, 0, 0, 0, 4096, 256, 4⟩] }, rx := [(1, ⟨0x5200 + 88 * 2 ^ 32, [30 * 2 ^ 12, 0], false⟩)], align := { world.align with streams := [⟨600, 0, 0, []⟩] } } [(alBase 600, Rg.AL_CFG.EN, 1), (alBase 600, Rg.AL_PORT.TIME_BASE, 1000), (bTime, Rg.UTC_CTRL.UTC_OFS, 37)]) 27 (atPos 1) 0) 30).1 : State).get (alBase (⟨600, 0, 0, []⟩ : Stream).st) Rg.AL_PORT.TIME_BASE ∧
    37000000000 = ((State.memRead (State.taken (put { withLink { testLink with rc := ⟨1, 27, 51, 0, 0, false, false, 13, 0, 5⟩ } with img := { fullImg with areas := [⟨0, 5, 0, 0, 0, 4096, 256, 4⟩] }, rx := [(1, ⟨0x5200 + 88 * 2 ^ 32, [30 * 2 ^ 12, 0], false⟩)], align := { world.align with streams := [⟨600, 0, 0, []⟩] } } [(alBase 600, Rg.AL_CFG.EN, 1), (alBase 600, Rg.AL_PORT.TIME_BASE, 1000), (bTime, Rg.UTC_CTRL.UTC_OFS, 37)]) (atPos 1) 0x52) (State.slotAddr (put { withLink { testLink with rc := ⟨1, 27, 51, 0, 0, false, false, 13, 0, 5⟩ } with img := { fullImg with areas := [⟨0, 5, 0, 0, 0, 4096, 256, 4⟩] }, rx := [(1, ⟨0x5200 + 88 * 2 ^ 32, [30 * 2 ^ 12, 0], false⟩)], align := { world.align with streams := [⟨600, 0, 0, []⟩] } } [(alBase 600, Rg.AL_CFG.EN, 1), (alBase 600, Rg.AL_PORT.TIME_BASE, 1000), (bTime, Rg.UTC_CTRL.UTC_OFS, 37)]) 27 (atPos 1) 0) 30).1 : State).frameTime (beVal (((List.replicate 30 0 : List Byte).drop 6).take 4)) (beVal (((List.replicate 30 0 : List Byte).drop 11).take 3)) (((State.memRead (State.taken (put { withLink { testLink with rc := ⟨1, 27, 51, 0, 0, false, false, 13, 0, 5⟩ } with img := { fullImg with areas := [⟨0, 5, 0, 0, 0, 4096, 256, 4⟩] }, rx := [(1, ⟨0x5200 + 88 * 2 ^ 32, [30 * 2 ^ 12, 0], false⟩)], align := { world.align with streams := [⟨600, 0, 0, []⟩] } } [(alBase 600, Rg.AL_CFG.EN, 1), (alBase 600, Rg.AL_PORT.TIME_BASE, 1000), (bTime, Rg.UTC_CTRL.UTC_OFS, 37)]) (atPos 1) 0x52) (State.slotAddr (put { withLink { testLink with rc := ⟨1, 27, 51, 0, 0, false, false, 13, 0, 5⟩ } with img := { fullImg with areas := [⟨0, 5, 0, 0, 0, 4096, 256, 4⟩] }, rx := [(1, ⟨0x5200 + 88 * 2 ^ 32, [30 * 2 ^ 12, 0], false⟩)], align := { world.align with streams := [⟨600, 0, 0, []⟩] } } [(alBase 600, Rg.AL_CFG.EN, 1), (alBase 600, Rg.AL_PORT.TIME_BASE, 1000), (bTime, Rg.UTC_CTRL.UTC_OFS, 37)]) 27 (atPos 1) 0) 30).1 : State).get (alBase (⟨600, 0, 0, []⟩ : Stream).st) Rg.AL_PORT.TIME_BASE) ∧ (⟨600, 0, 0, []⟩ : Stream).reconf ≤ 37000000000 ∧ (put { withLink { testLink with rc := ⟨1, 27, 51, 0, 0, false, false, 13, 0, 5⟩ } with img := { fullImg with areas := [⟨0, 5, 0, 0, 0, 4096, 256, 4⟩] }, rx := [(1, ⟨0x5200 + 88 * 2 ^ 32, [30 * 2 ^ 12, 0], false⟩)], align := { world.align with streams := [⟨600, 0, 0, []⟩] } } [(alBase 600, Rg.AL_CFG.EN, 1), (alBase 600, Rg.AL_PORT.TIME_BASE, 1000), (bTime, Rg.UTC_CTRL.UTC_OFS, 37)] : State).memberOf (⟨600, 0, 0, []⟩ : Stream).st = [] := by decide +kernel

theorem witness_StreamsTakeFrames_4 :
    1 < 8 ∧ (put { withLink { testLink with rc := ⟨1, 27, 51, 0, 0, false, false, 13, 0, 5⟩ } with img := { fullImg with areas := [⟨0, 5, 0, 0, 0, 4096, 256, 4⟩] }, rx := [(1, ⟨0x5200 + 88 * 2 ^ 32, [30 * 2 ^ 12, 0], false⟩)], align := { world.align with streams := [⟨600, 0, 0, []⟩], concs := [⟨3, 1, [⟨600, 0, 16⟩], 38000000000, [⟨37000000000, 0, [], [], [], none⟩], [(0, 0)], 0⟩] } } [(alBase 600, Rg.AL_CFG.EN, 1), (alBase 600, Rg.AL_PORT.TIME_BASE, 1000), (bTime, Rg.UTC_CTRL.UTC_OFS, 37), (acBase 1 3, Rg.AC_CFG.RATE, 50), (acBase 1 3, Rg.AC_CFG.TOL, 5)] : State).item (atPos 1) 0x52 = some (27, (⟨0x5200 + 88 * 2 ^ 32, [30 * 2 ^ 12, 0], false⟩ : QPkt)) ∧ (put { withLink { testLink with rc := ⟨1, 27, 51, 0, 0, false, false, 13, 0, 5⟩ } with img := { fullImg with areas := [⟨0, 5, 0, 0, 0, 4096, 256, 4⟩] }, rx := [(1, ⟨0x5200 + 88 * 2 ^ 32, [30 * 2 ^ 12, 0], false⟩)], align := { world.align with streams := [⟨600, 0, 0, []⟩], concs := [⟨3, 1, [⟨600, 0, 16⟩], 38000000000, [⟨37000000000, 0, [], [], [], none⟩], [(0, 0)], 0⟩] } } [(alBase 600, Rg.AL_CFG.EN, 1), (alBase 600, Rg.AL_PORT.TIME_BASE, 1000), (bTime, Rg.UTC_CTRL.UTC_OFS, 37), (acBase 1 3, Rg.AC_CFG.RATE, 50), (acBase 1 3, Rg.AC_CFG.TOL, 5)] : State).stream (1 * 512 + pktLane (⟨0x5200 + 88 * 2 ^ 32, [30 * 2 ^ 12, 0], false⟩ : QPkt).lw) = some (⟨600, 0, 0, []⟩ : Stream) ∧ (⟨600, 0, 0, []⟩ : Stream).st = 1 * 512 + pktLane (⟨0x5200 + 88 * 2 ^ 32, [30 * 2 ^ 12, 0], false⟩ : QPkt).lw ∧
    ((put { withLink { testLink with rc := ⟨1, 27, 51, 0, 0, false, false, 13, 0, 5⟩ } with img := { fullImg with areas := [⟨0, 5, 0, 0, 0, 4096, 256, 4⟩] }, rx := [(1, ⟨0x5200 + 88 * 2 ^ 32, [30 * 2 ^ 12, 0], false⟩)], align := { world.align with streams := [⟨600, 0, 0, []⟩], concs := [⟨3, 1, [⟨600, 0, 16⟩], 38000000000, [⟨37000000000, 0, [], [], [], none⟩], [(0, 0)], 0⟩] } } [(alBase 600, Rg.AL_CFG.EN, 1), (alBase 600, Rg.AL_PORT.TIME_BASE, 1000), (bTime, Rg.UTC_CTRL.UTC_OFS, 37), (acBase 1 3, Rg.AC_CFG.RATE, 50), (acBase 1 3, Rg.AC_CFG.TOL, 5)] : State).taken (atPos 1) 0x52).memRead ((put { withLink { testLink with rc := ⟨1, 27, 51, 0, 0, false, false, 13, 0, 5⟩ } with img := { fullImg with areas := [⟨0, 5, 0, 0, 0, 4096, 256, 4⟩] }, rx := [(1, ⟨0x5200 + 88 * 2 ^ 32, [30 * 2 ^ 12, 0], false⟩)], align := { world.align with streams := [⟨600, 0, 0, []⟩], concs := [⟨3, 1, [⟨600, 0, 16⟩], 38000000000, [⟨37000000000, 0, [], [], [], none⟩], [(0, 0)], 0⟩] } } [(alBase 600, Rg.AL_CFG.EN, 1), (alBase 600, Rg.AL_PORT.TIME_BASE, 1000), (bTime, Rg.UTC_CTRL.UTC_OFS, 37), (acBase 1 3, Rg.AC_CFG.RATE, 50), (acBase 1 3, Rg.AC_CFG.TOL, 5)] : State).slotAddr 27 (atPos 1) (bits 0 12 ((⟨0x5200 + 88 * 2 ^ 32, [30 * 2 ^ 12, 0], false⟩ : QPkt).data.headD 0))) (bits 12 14 ((⟨0x5200 + 88 * 2 ^ 32, [30 * 2 ^ 12, 0], false⟩ : QPkt).data.headD 0)) = (((State.memRead (State.taken (put { withLink { testLink with rc := ⟨1, 27, 51, 0, 0, false, false, 13, 0, 5⟩ } with img := { fullImg with areas := [⟨0, 5, 0, 0, 0, 4096, 256, 4⟩] }, rx := [(1, ⟨0x5200 + 88 * 2 ^ 32, [30 * 2 ^ 12, 0], false⟩)], align := { world.align with streams := [⟨600, 0, 0, []⟩], concs := [⟨3, 1, [⟨600, 0, 16⟩], 38000000000, [⟨37000000000, 0, [], [], [], none⟩], [(0, 0)], 0⟩] } } [(alBase 600, Rg.AL_CFG.EN, 1), (alBase 600, Rg.AL_PORT.TIME_BASE, 1000), (bTime, Rg.UTC_CTRL.UTC_OFS, 37), (acBase 1 3, Rg.AC_CFG.RATE, 50), (acBase 1 3, Rg.AC_CFG.TOL, 5)]) (atPos 1) 0x52) (State.slotAddr (put { withLink { testLink with rc := ⟨1, 27, 51, 0, 0, false, false, 13, 0, 5⟩ } with img := { fullImg with areas := [⟨0, 5, 0, 0, 0, 4096, 256, 4⟩] }, rx := [(1, ⟨0x5200 + 88 * 2 ^ 32, [30 * 2 ^ 12, 0], false⟩)], align := { world.align with streams := [⟨600, 0, 0, []⟩], concs := [⟨3, 1, [⟨600, 0, 16⟩], 38000000000, [⟨37000000000, 0, [], [], [], none⟩], [(0, 0)], 0⟩] } } [(alBase 600, Rg.AL_CFG.EN, 1), (alBase 600, Rg.AL_PORT.TIME_BASE, 1000), (bTime, Rg.UTC_CTRL.UTC_OFS, 37), (acBase 1 3, Rg.AC_CFG.RATE, 50), (acBase 1 3, Rg.AC_CFG.TOL, 5)]) 27 (atPos 1) 0) 30).1 : State), some (List.replicate 30 0 : List Byte)) ∧
    beVal (((List.replicate 30 0 : List Byte).drop 11).take 3) < ((State.memRead (State.taken (put { withLink { testLink with rc := ⟨1, 27, 51, 0, 0, false, false, 13, 0, 5⟩ } with img := { fullImg with areas := [⟨0, 5, 0, 0, 0, 4096, 256, 4⟩] }, rx := [(1, ⟨0x5200 + 88 * 2 ^ 32, [30 * 2 ^ 12, 0], false⟩)], align := { world.align with streams := [⟨600, 0, 0, []⟩], concs := [⟨3, 1, [⟨600, 0, 16⟩], 38000000000, [⟨37000000000, 0, [], [], [], none⟩], [(0, 0)], 0⟩] } } [(alBase 600, Rg.AL_CFG.EN, 1), (alBase 600, Rg.AL_PORT.TIME_BASE, 1000), (bTime, Rg.UTC_CTRL.UTC_OFS, 37), (acBase 1 3, Rg.AC_CFG.RATE, 50), (acBase 1 3, Rg.AC_CFG.TOL, 5)]) (atPos 1) 0x52) (State.slotAddr (put { withLink { testLink with rc := ⟨1, 27, 51, 0, 0, false, false, 13, 0, 5⟩ } with img := { fullImg with areas := [⟨0, 5, 0, 0, 0, 4096, 256, 4⟩] }, rx := [(1, ⟨0x5200 + 88 * 2 ^ 32, [30 * 2 ^ 12, 0], false⟩)], align := { world.align with streams := [⟨600, 0, 0, []⟩], concs := [⟨3, 1, [⟨600, 0, 16⟩], 38000000000, [⟨37000000000, 0, [], [], [], none⟩], [(0, 0)], 0⟩] } } [(alBase 600, Rg.AL_CFG.EN, 1), (alBase 600, Rg.AL_PORT.TIME_BASE, 1000), (bTime, Rg.UTC_CTRL.UTC_OFS, 37), (acBase 1 3, Rg.AC_CFG.RATE, 50), (acBase 1 3, Rg.AC_CFG.TOL, 5)]) 27 (atPos 1) 0) 30).1 : State).get (alBase (⟨600, 0, 0, []⟩ : Stream).st) Rg.AL_PORT.TIME_BASE ∧
    37000000000 = ((State.memRead (State.taken (put { withLink { testLink with rc := ⟨1, 27, 51, 0, 0, false, false, 13, 0, 5⟩ } with img := { fullImg with areas := [⟨0, 5, 0, 0, 0, 4096, 256, 4⟩] }, rx := [(1, ⟨0x5200 + 88 * 2 ^ 32, [30 * 2 ^ 12, 0], false⟩)], align := { world.align with streams := [⟨600, 0, 0, []⟩], concs := [⟨3, 1, [⟨600, 0, 16⟩], 38000000000, [⟨37000000000, 0, [], [], [], none⟩], [(0, 0)], 0⟩] } } [(alBase 600, Rg.AL_CFG.EN, 1), (alBase 600, Rg.AL_PORT.TIME_BASE, 1000), (bTime, Rg.UTC_CTRL.UTC_OFS, 37), (acBase 1 3, Rg.AC_CFG.RATE, 50), (acBase 1 3, Rg.AC_CFG.TOL, 5)]) (atPos 1) 0x52) (State.slotAddr (put { withLink { testLink with rc := ⟨1, 27, 51, 0, 0, false, false, 13, 0, 5⟩ } with img := { fullImg with areas := [⟨0, 5, 0, 0, 0, 4096, 256, 4⟩] }, rx := [(1, ⟨0x5200 + 88 * 2 ^ 32, [30 * 2 ^ 12, 0], false⟩)], align := { world.align with streams := [⟨600, 0, 0, []⟩], concs := [⟨3, 1, [⟨600, 0, 16⟩], 38000000000, [⟨37000000000, 0, [], [], [], none⟩], [(0, 0)], 0⟩] } } [(alBase 600, Rg.AL_CFG.EN, 1), (alBase 600, Rg.AL_PORT.TIME_BASE, 1000), (bTime, Rg.UTC_CTRL.UTC_OFS, 37), (acBase 1 3, Rg.AC_CFG.RATE, 50), (acBase 1 3, Rg.AC_CFG.TOL, 5)]) 27 (atPos 1) 0) 30).1 : State).frameTime (beVal (((List.replicate 30 0 : List Byte).drop 6).take 4)) (beVal (((List.replicate 30 0 : List Byte).drop 11).take 3)) (((State.memRead (State.taken (put { withLink { testLink with rc := ⟨1, 27, 51, 0, 0, false, false, 13, 0, 5⟩ } with img := { fullImg with areas := [⟨0, 5, 0, 0, 0, 4096, 256, 4⟩] }, rx := [(1, ⟨0x5200 + 88 * 2 ^ 32, [30 * 2 ^ 12, 0], false⟩)], align := { world.align with streams := [⟨600, 0, 0, []⟩], concs := [⟨3, 1, [⟨600, 0, 16⟩], 38000000000, [⟨37000000000, 0, [], [], [], none⟩], [(0, 0)], 0⟩] } } [(alBase 600, Rg.AL_CFG.EN, 1), (alBase 600, Rg.AL_PORT.TIME_BASE, 1000), (bTime, Rg.UTC_CTRL.UTC_OFS, 37), (acBase 1 3, Rg.AC_CFG.RATE, 50), (acBase 1 3, Rg.AC_CFG.TOL, 5)]) (atPos 1) 0x52) (State.slotAddr (put { withLink { testLink with rc := ⟨1, 27, 51, 0, 0, false, false, 13, 0, 5⟩ } with img := { fullImg with areas := [⟨0, 5, 0, 0, 0, 4096, 256, 4⟩] }, rx := [(1, ⟨0x5200 + 88 * 2 ^ 32, [30 * 2 ^ 12, 0], false⟩)], align := { world.align with streams := [⟨600, 0, 0, []⟩], concs := [⟨3, 1, [⟨600, 0, 16⟩], 38000000000, [⟨37000000000, 0, [], [], [], none⟩], [(0, 0)], 0⟩] } } [(alBase 600, Rg.AL_CFG.EN, 1), (alBase 600, Rg.AL_PORT.TIME_BASE, 1000), (bTime, Rg.UTC_CTRL.UTC_OFS, 37), (acBase 1 3, Rg.AC_CFG.RATE, 50), (acBase 1 3, Rg.AC_CFG.TOL, 5)]) 27 (atPos 1) 0) 30).1 : State).get (alBase (⟨600, 0, 0, []⟩ : Stream).st) Rg.AL_PORT.TIME_BASE) ∧ (⟨600, 0, 0, []⟩ : Stream).reconf ≤ 37000000000 ∧
    ((put { withLink { testLink with rc := ⟨1, 27, 51, 0, 0, false, false, 13, 0, 5⟩ } with img := { fullImg with areas := [⟨0, 5, 0, 0, 0, 4096, 256, 4⟩] }, rx := [(1, ⟨0x5200 + 88 * 2 ^ 32, [30 * 2 ^ 12, 0], false⟩)], align := { world.align with streams := [⟨600, 0, 0, []⟩], concs := [⟨3, 1, [⟨600, 0, 16⟩], 38000000000, [⟨37000000000, 0, [], [], [], none⟩], [(0, 0)], 0⟩] } } [(alBase 600, Rg.AL_CFG.EN, 1), (alBase 600, Rg.AL_PORT.TIME_BASE, 1000), (bTime, Rg.UTC_CTRL.UTC_OFS, 37), (acBase 1 3, Rg.AC_CFG.RATE, 50), (acBase 1 3, Rg.AC_CFG.TOL, 5)] : State).align.concs = [(⟨3, 1, [⟨600, 0, 16⟩], 38000000000, [⟨37000000000, 0, [], [], [], none⟩], [(0, 0)], 0⟩ : Conc)] ∧ (⟨3, 1, [⟨600, 0, 16⟩], 38000000000, [⟨37000000000, 0, [], [], [], none⟩], [(0, 0)], 0⟩ : Conc).members.find? (fun x => x.st == (⟨600, 0, 0, []⟩ : Stream).st) = some (⟨600, 0, 16⟩ : Member) ∧ (⟨600, 0, 16⟩ : Member).st = (⟨600, 0, 0, []⟩ : Stream).st ∧ (put { withLink { testLink with rc := ⟨1, 27, 51, 0, 0, false, false, 13, 0, 5⟩ } with img := { fullImg with areas := [⟨0, 5, 0, 0, 0, 4096, 256, 4⟩] }, rx := [(1, ⟨0x5200 + 88 * 2 ^ 32, [30 * 2 ^ 12, 0], false⟩)], align := { world.align with streams := [⟨600, 0, 0, []⟩], concs := [⟨3, 1, [⟨600, 0, 16⟩], 38000000000, [⟨37000000000, 0, [], [], [], none⟩], [(0, 0)], 0⟩] } } [(alBase 600, Rg.AL_CFG.EN, 1), (alBase 600, Rg.AL_PORT.TIME_BASE, 1000), (bTime, Rg.UTC_CTRL.UTC_OFS, 37), (acBase 1 3, Rg.AC_CFG.RATE, 50), (acBase 1 3, Rg.AC_CFG.TOL, 5)] : State).matchFrame (⟨3, 1, [⟨600, 0, 16⟩], 38000000000, [⟨37000000000, 0, [], [], [], none⟩], [(0, 0)], 0⟩ : Conc) (⟨600, 0, 0, []⟩ : Stream).st 37000000000 = .put (⟨37000000000, 0, [], [], [], none⟩ : Bucket) ∧ (⟨37000000000, 0, [], [], [], none⟩ : Bucket) ∈ (⟨3, 1, [⟨600, 0, 16⟩], 38000000000, [⟨37000000000, 0, [], [], [], none⟩], [(0, 0)], 0⟩ : Conc).buckets) := by decide +kernel

theorem witness_StreamsTakeFrames_5 :
    1 < 8 ∧ (put { withLink { testLink with rc := ⟨1, 45, 51, 0, 0, false, false, 13, 0, 5⟩ } with rx := [(1, ⟨0x5000, [18, 9, 1, 2], false⟩)], align := { world.align with streams := [⟨600, 0, 0, []⟩] } } [(alBase 600, Rg.AL_CFG.EN, 1), (alBase 600, Rg.AL_CFG.LOCAL, 1), (alBase 600, Rg.AL_CFG.PKT, 1), (alBase 600, Rg.AL_ADDR.ADDR, 4)] : State).item (atPos 1) 0x50 = some (45, (⟨0x5000, [18, 9, 1, 2], false⟩ : QPkt)) ∧ (put { withLink { testLink with rc := ⟨1, 45, 51, 0, 0, false, false, 13, 0, 5⟩ } with rx := [(1, ⟨0x5000, [18, 9, 1, 2], false⟩)], align := { world.align with streams := [⟨600, 0, 0, []⟩] } } [(alBase 600, Rg.AL_CFG.EN, 1), (alBase 600, Rg.AL_CFG.LOCAL, 1), (alBase 600, Rg.AL_CFG.PKT, 1), (alBase 600, Rg.AL_ADDR.ADDR, 4)] : State).align.streams = [(⟨600, 0, 0, []⟩ : Stream)] ∧ (⟨600, 0, 0, []⟩ : Stream).st / 512 = 1 ∧ (put { withLink { testLink with rc := ⟨1, 45, 51, 0, 0, false, false, 13, 0, 5⟩ } with rx := [(1, ⟨0x5000, [18, 9, 1, 2], false⟩)], align := { world.align with streams := [⟨600, 0, 0, []⟩] } } [(alBase 600, Rg.AL_CFG.EN, 1), (alBase 600, Rg.AL_CFG.LOCAL, 1), (alBase 600, Rg.AL_CFG.PKT, 1), (alBase 600, Rg.AL_ADDR.ADDR, 4)] : State).isLocal (⟨600, 0, 0, []⟩ : Stream).st = true ∧
    (put { withLink { testLink with rc := ⟨1, 45, 51, 0, 0, false, false, 13, 0, 5⟩ } with rx := [(1, ⟨0x5000, [18, 9, 1, 2], false⟩)], align := { world.align with streams := [⟨600, 0, 0, []⟩] } } [(alBase 600, Rg.AL_CFG.EN, 1), (alBase 600, Rg.AL_CFG.LOCAL, 1), (alBase 600, Rg.AL_CFG.PKT, 1), (alBase 600, Rg.AL_ADDR.ADDR, 4)] : State).localChans (⟨600, 0, 0, []⟩ : Stream).st = [bits 0 6 ((⟨0x5000, [18, 9, 1, 2], false⟩ : QPkt).data.headD 0)] ∧ 9 = (⟨0x5000, [18, 9, 1, 2], false⟩ : QPkt).data.getD 1 0 ∧ (⟨600, 0, 0, []⟩ : Stream).reconf ≤ 9 ∧ (put { withLink { testLink with rc := ⟨1, 45, 51, 0, 0, false, false, 13, 0, 5⟩ } with rx := [(1, ⟨0x5000, [18, 9, 1, 2], false⟩)], align := { world.align with streams := [⟨600, 0, 0, []⟩] } } [(alBase 600, Rg.AL_CFG.EN, 1), (alBase 600, Rg.AL_CFG.LOCAL, 1), (alBase 600, Rg.AL_CFG.PKT, 1), (alBase 600, Rg.AL_ADDR.ADDR, 4)] : State).memberOf (⟨600, 0, 0, []⟩ : Stream).st = [] := by decide +kernel

theorem witness_StreamsTakeFrames_6 :
    600 < 4096 ∧ (put { world with align := { world.align with streams := [⟨600, 0, 0, []⟩] } } [(alBase 600, Rg.AL_STAT.QUAR, 1)] : State).stream 600 = some (⟨600, 0, 0, []⟩ : Stream) ∧ (⟨600, 0, 0, []⟩ : Stream).quar ≤ (put { world with align := { world.align with streams := [⟨600, 0, 0, []⟩] } } [(alBase 600, Rg.AL_STAT.QUAR, 1)] : State).nowNs := by decide +kernel

theorem witness_ConcentrationsFillBuckets_1 :
    1 < 8 ∧ 3 < 16 ∧ mayWriteService (put { withLink { testLink with rc := ⟨1, 51, 83, 0, 0, false, false, 13, 0, 5⟩ } with img := { fullImg with lanes := [(51, 100)] } } [(alBase 600, Rg.AL_MEMB.MEMB, 8), (alBase 600, Rg.AL_CFG.RATE, 50), (acBase 1 3, Rg.AC_CFG.RATE, 50), (acBase 1 3, Rg.AC_CFG.TOL, 5), (acBase 1 3, Rg.AC_CFG.WAIT_CAP, 100), (acBase 1 3, Rg.AC_BUF.ADDR, ddrBase), (acBase 1 3, Rg.AC_BUF.SLOT64, 60), (acBase 1 3, Rg.AC_BUF.NSLOT, 20), (bDdr, Rg.DDR_CFG.SIZE, 2)] : State) (.mp : Master) = true ∧ (put { withLink { testLink with rc := ⟨1, 51, 83, 0, 0, false, false, 13, 0, 5⟩ } with img := { fullImg with lanes := [(51, 100)] } } [(alBase 600, Rg.AL_MEMB.MEMB, 8), (alBase 600, Rg.AL_CFG.RATE, 50), (acBase 1 3, Rg.AC_CFG.RATE, 50), (acBase 1 3, Rg.AC_CFG.TOL, 5), (acBase 1 3, Rg.AC_CFG.WAIT_CAP, 100), (acBase 1 3, Rg.AC_BUF.ADDR, ddrBase), (acBase 1 3, Rg.AC_BUF.SLOT64, 60), (acBase 1 3, Rg.AC_BUF.NSLOT, 20), (bDdr, Rg.DDR_CFG.SIZE, 2)] : State).instanced (atPos 1) = true ∧ (put { withLink { testLink with rc := ⟨1, 51, 83, 0, 0, false, false, 13, 0, 5⟩ } with img := { fullImg with lanes := [(51, 100)] } } [(alBase 600, Rg.AL_MEMB.MEMB, 8), (alBase 600, Rg.AL_CFG.RATE, 50), (acBase 1 3, Rg.AC_CFG.RATE, 50), (acBase 1 3, Rg.AC_CFG.TOL, 5), (acBase 1 3, Rg.AC_CFG.WAIT_CAP, 100), (acBase 1 3, Rg.AC_BUF.ADDR, ddrBase), (acBase 1 3, Rg.AC_BUF.SLOT64, 60), (acBase 1 3, Rg.AC_BUF.NSLOT, 20), (bDdr, Rg.DDR_CFG.SIZE, 2)] : State).on (domOf (islandOf (atPos 1))) = true ∧
    (put { withLink { testLink with rc := ⟨1, 51, 83, 0, 0, false, false, 13, 0, 5⟩ } with img := { fullImg with lanes := [(51, 100)] } } [(alBase 600, Rg.AL_MEMB.MEMB, 8), (alBase 600, Rg.AL_CFG.RATE, 50), (acBase 1 3, Rg.AC_CFG.RATE, 50), (acBase 1 3, Rg.AC_CFG.TOL, 5), (acBase 1 3, Rg.AC_CFG.WAIT_CAP, 100), (acBase 1 3, Rg.AC_BUF.ADDR, ddrBase), (acBase 1 3, Rg.AC_BUF.SLOT64, 60), (acBase 1 3, Rg.AC_BUF.NSLOT, 20), (bDdr, Rg.DDR_CFG.SIZE, 2)] : State).flag (acBase 1 3) Rg.AC_CFG.EN = false ∧ (put { withLink { testLink with rc := ⟨1, 51, 83, 0, 0, false, false, 13, 0, 5⟩ } with img := { fullImg with lanes := [(51, 100)] } } [(alBase 600, Rg.AL_MEMB.MEMB, 8), (alBase 600, Rg.AL_CFG.RATE, 50), (acBase 1 3, Rg.AC_CFG.RATE, 50), (acBase 1 3, Rg.AC_CFG.TOL, 5), (acBase 1 3, Rg.AC_CFG.WAIT_CAP, 100), (acBase 1 3, Rg.AC_BUF.ADDR, ddrBase), (acBase 1 3, Rg.AC_BUF.SLOT64, 60), (acBase 1 3, Rg.AC_BUF.NSLOT, 20), (bDdr, Rg.DDR_CFG.SIZE, 2)] : State).concRefusal 1 3 ((put { withLink { testLink with rc := ⟨1, 51, 83, 0, 0, false, false, 13, 0, 5⟩ } with img := { fullImg with lanes := [(51, 100)] } } [(alBase 600, Rg.AL_MEMB.MEMB, 8), (alBase 600, Rg.AL_CFG.RATE, 50), (acBase 1 3, Rg.AC_CFG.RATE, 50), (acBase 1 3, Rg.AC_CFG.TOL, 5), (acBase 1 3, Rg.AC_CFG.WAIT_CAP, 100), (acBase 1 3, Rg.AC_BUF.ADDR, ddrBase), (acBase 1 3, Rg.AC_BUF.SLOT64, 60), (acBase 1 3, Rg.AC_BUF.NSLOT, 20), (bDdr, Rg.DDR_CFG.SIZE, 2)] : State).layout 0 ((put { withLink { testLink with rc := ⟨1, 51, 83, 0, 0, false, false, 13, 0, 5⟩ } with img := { fullImg with lanes := [(51, 100)] } } [(alBase 600, Rg.AL_MEMB.MEMB, 8), (alBase 600, Rg.AL_CFG.RATE, 50), (acBase 1 3, Rg.AC_CFG.RATE, 50), (acBase 1 3, Rg.AC_CFG.TOL, 5), (acBase 1 3, Rg.AC_CFG.WAIT_CAP, 100), (acBase 1 3, Rg.AC_BUF.ADDR, ddrBase), (acBase 1 3, Rg.AC_BUF.SLOT64, 60), (acBase 1 3, Rg.AC_BUF.NSLOT, 20), (bDdr, Rg.DDR_CFG.SIZE, 2)] : State).memberStreams 3)) = 0 := by decide +kernel

theorem witness_ConcentrationsFillBuckets_2 :
    1 < 8 ∧ 3 < 16 ∧ mayWriteService (put { world with align := { world.align with concs := [⟨3, 1, [], 0, [], [], 0⟩] } } [(acBase 1 3, Rg.AC_CFG.EN, 1)] : State) (.mp : Master) = true ∧ (put { world with align := { world.align with concs := [⟨3, 1, [], 0, [], [], 0⟩] } } [(acBase 1 3, Rg.AC_CFG.EN, 1)] : State).instanced (atPos 1) = true ∧ (put { world with align := { world.align with concs := [⟨3, 1, [], 0, [], [], 0⟩] } } [(acBase 1 3, Rg.AC_CFG.EN, 1)] : State).on (domOf (islandOf (atPos 1))) = true ∧
    (put { world with align := { world.align with concs := [⟨3, 1, [], 0, [], [], 0⟩] } } [(acBase 1 3, Rg.AC_CFG.EN, 1)] : State).conc 3 = some (⟨3, 1, [], 0, [], [], 0⟩ : Conc) ∧ (⟨3, 1, [], 0, [], [], 0⟩ : Conc).home = 1 := by decide +kernel

theorem witness_ConcentrationsFillBuckets_3 :
    3 < 16 ∧ (put { world with align := { world.align with concs := [⟨3, 1, [], 5, [], [(0, 0)], 0⟩] } } [(acBase 1 3, Rg.AC_CFG.EN, 1), (acBase 1 3, Rg.AC_BUF.NSLOT, 4), (acBase 1 3, Rg.AC_CFG.RATE, 50)] : State).conc 3 = some (⟨3, 1, [], 5, [], [(0, 0)], 0⟩ : Conc) ∧ (⟨3, 1, [], 5, [], [(0, 0)], 0⟩ : Conc).home < 8 ∧ (⟨3, 1, [], 5, [], [(0, 0)], 0⟩ : Conc).nxt ≤ (put { world with align := { world.align with concs := [⟨3, 1, [], 5, [], [(0, 0)], 0⟩] } } [(acBase 1 3, Rg.AC_CFG.EN, 1), (acBase 1 3, Rg.AC_BUF.NSLOT, 4), (acBase 1 3, Rg.AC_CFG.RATE, 50)] : State).nowNs + 100000000 ∧
    (List.range ((put { world with align := { world.align with concs := [⟨3, 1, [], 5, [], [(0, 0)], 0⟩] } } [(acBase 1 3, Rg.AC_CFG.EN, 1), (acBase 1 3, Rg.AC_BUF.NSLOT, 4), (acBase 1 3, Rg.AC_CFG.RATE, 50)] : State).slotCount (⟨3, 1, [], 5, [], [(0, 0)], 0⟩ : Conc))).find? (fun j => !(⟨3, 1, [], 5, [], [(0, 0)], 0⟩ : Conc).slots.any (fun p => p.1 == j)) = some 1 := by decide +kernel

theorem witness_ConcentrationsFillBuckets_4 :
    1 < 8 ∧ ({ world with align := { world.align with concs := [⟨3, 1, [⟨600, 0, 16⟩], 5, [⟨0, 0, [600], [], [], none⟩], [(0, 0)], 0⟩] } } : State).conc 3 = some (⟨3, 1, [⟨600, 0, 16⟩], 5, [⟨0, 0, [600], [], [], none⟩], [(0, 0)], 0⟩ : Conc) ∧ (⟨3, 1, [⟨600, 0, 16⟩], 5, [⟨0, 0, [600], [], [], none⟩], [(0, 0)], 0⟩ : Conc).buckets.find? (({ world with align := { world.align with concs := [⟨3, 1, [⟨600, 0, 16⟩], 5, [⟨0, 0, [600], [], [], none⟩], [(0, 0)], 0⟩] } } : State).partDue (⟨3, 1, [⟨600, 0, 16⟩], 5, [⟨0, 0, [600], [], [], none⟩], [(0, 0)], 0⟩ : Conc) 1) = some (⟨0, 0, [600], [], [], none⟩ : Bucket) := by decide +kernel

theorem witness_ConcentrationsFillBuckets_5 :
    ({ withLink { testLink with rc := ⟨1, 52, 51, 0, 0, false, false, 13, 0, 5⟩ } with rx := [(1, ⟨0x5300, [3 + 2 * 2 ^ 8, 9], false⟩)], align := { world.align with concs := [⟨3, 1, [⟨1100, 0, 16⟩], 5, [⟨9, 0, [1100], [], [], none⟩], [(0, 0)], 0⟩] } } : State).item (atPos 1) 0x53 = some (52, (⟨0x5300, [3 + 2 * 2 ^ 8, 9], false⟩ : QPkt)) ∧ ({ withLink { testLink with rc := ⟨1, 52, 51, 0, 0, false, false, 13, 0, 5⟩ } with rx := [(1, ⟨0x5300, [3 + 2 * 2 ^ 8, 9], false⟩)], align := { world.align with concs := [⟨3, 1, [⟨1100, 0, 16⟩], 5, [⟨9, 0, [1100], [], [], none⟩], [(0, 0)], 0⟩] } } : State).conc (bits 0 4 ((⟨0x5300, [3 + 2 * 2 ^ 8, 9], false⟩ : QPkt).data.headD 0)) = some (⟨3, 1, [⟨1100, 0, 16⟩], 5, [⟨9, 0, [1100], [], [], none⟩], [(0, 0)], 0⟩ : Conc) ∧ (⟨3, 1, [⟨1100, 0, 16⟩], 5, [⟨9, 0, [1100], [], [], none⟩], [(0, 0)], 0⟩ : Conc).buckets = [(⟨9, 0, [1100], [], [], none⟩ : Bucket)] ∧ (⟨9, 0, [1100], [], [], none⟩ : Bucket).tk = (⟨0x5300, [3 + 2 * 2 ^ 8, 9], false⟩ : QPkt).data.getD 1 0 ∧
    (⟨9, 0, [1100], [], [], none⟩ : Bucket).done = none ∧ (⟨9, 0, [1100], [], [], none⟩ : Bucket).parts = [] ∧ memberTiles (⟨3, 1, [⟨1100, 0, 16⟩], 5, [⟨9, 0, [1100], [], [], none⟩], [(0, 0)], 0⟩ : Conc).members = [bits 8 3 ((⟨0x5300, [3 + 2 * 2 ^ 8, 9], false⟩ : QPkt).data.headD 0)] := by decide +kernel

theorem witness_ConcentrationsFillBuckets_6 :
    ({ world with time := { world.time with era := 3 }, align := { world.align with concs := [⟨3, 1, [], 5, [⟨9, 0, [], [], [], none⟩], [(0, 0)], 0⟩] } } : State).conc 3 = some (⟨3, 1, [], 5, [⟨9, 0, [], [], [], none⟩], [(0, 0)], 0⟩ : Conc) ∧ (⟨3, 1, [], 5, [⟨9, 0, [], [], [], none⟩], [(0, 0)], 0⟩ : Conc).home < 8 ∧
    (⟨3, 1, [], 5, [⟨9, 0, [], [], [], none⟩], [(0, 0)], 0⟩ : Conc).buckets.find? (fun y => y.done.isNone && decide (y.tk + (({ world with time := { world.time with era := 3 }, align := { world.align with concs := [⟨3, 1, [], 5, [⟨9, 0, [], [], [], none⟩], [(0, 0)], 0⟩] } } : State).get (acBase (⟨3, 1, [], 5, [⟨9, 0, [], [], [], none⟩], [(0, 0)], 0⟩ : Conc).home 3) Rg.AC_CFG.WAIT_CAP + 1) * 1000000 ≤ ({ world with time := { world.time with era := 3 }, align := { world.align with concs := [⟨3, 1, [], 5, [⟨9, 0, [], [], [], none⟩], [(0, 0)], 0⟩] } } : State).nowNs)) = some (⟨9, 0, [], [], [], none⟩ : Bucket) := by decide +kernel

theorem witness_ConcentrationsFillBuckets_7 :
    3 < 16 ∧ ({ world with align := { world.align with concs := [⟨3, 1, [], 5, [⟨9, 0, [], [], [], some 10⟩], [(0, 0)], 0⟩] } } : State).conc 3 = some (⟨3, 1, [], 5, [⟨9, 0, [], [], [], some 10⟩], [(0, 0)], 0⟩ : Conc) ∧ (⟨3, 1, [], 5, [⟨9, 0, [], [], [], some 10⟩], [(0, 0)], 0⟩ : Conc).home < 8 ∧ (⟨3, 1, [], 5, [⟨9, 0, [], [], [], some 10⟩], [(0, 0)], 0⟩ : Conc).buckets = (⟨9, 0, [], [], [], some 10⟩ : Bucket) :: ([] : List Bucket) ∧ (⟨9, 0, [], [], [], some 10⟩ : Bucket).done = some 10 := by decide +kernel

theorem witness_ConcentrationsFillBuckets_8 :
    3 < 16 ∧ ({ world with align := { world.align with concs := [⟨3, 1, [], 5, [], [(2, 1)], 0⟩] } } : State).conc 3 = some (⟨3, 1, [], 5, [], [(2, 1)], 0⟩ : Conc) ∧ (⟨3, 1, [], 5, [], [(2, 1)], 0⟩ : Conc).home < 8 ∧ lookupD 0 2 (⟨3, 1, [], 5, [], [(2, 1)], 0⟩ : Conc).slots = 1 := by decide +kernel

end Sys2Proof.Tests
end

