-- ==== Sys2Proof/Tests/Witness11.lean ====
section
/-! SUPPORT. Witnesses: for each clause of a statement a state and operands that meet its hypotheses. -/

set_option Elab.async false

open Sys2Proof Sys2Proof.Machine

namespace Sys2Proof.Tests

theorem witness_GroupsEvaluateFrames_1 :
    20 < 64 ∧ mayWriteService (put (withLink { testLink with rc := ⟨1, 45, 61, 0, 0, false, false, 13, 0, 0xFF⟩ }) [(mgBase 20, Rg.MG_CFG.FEED, 1), (mgBase 20, Rg.MG_CFG.KIND, 1), (mgSig 20 0, Rg.MG_SIG.EN, 1), (mgSig 20 0, Rg.MG_SIG.CH, 20), (mgSig 20 1, Rg.MG_SIG.EN, 1), (mgSig 20 1, Rg.MG_SIG.CH, 20), (mgSig 20 1, Rg.MG_SIG.QTY, 1), (mgSig 20 2, Rg.MG_SIG.EN, 1), (mgSig 20 2, Rg.MG_SIG.CH, 20), (mgSig 20 3, Rg.MG_SIG.EN, 1), (mgSig 20 3, Rg.MG_SIG.CH, 20), (mgSig 20 3, Rg.MG_SIG.QTY, 1), (mgBase 20, Rg.MG_ISL.REF_SITE, 1), (phBase 20, Rg.PH_CTRL.EN, 1), (phBase 20, Rg.PH_CFG.FS, 50)] : State) (.mp : Master) = true ∧ 20 % 16 < (put (withLink { testLink with rc := ⟨1, 45, 61, 0, 0, false, false, 13, 0, 0xFF⟩ }) [(mgBase 20, Rg.MG_CFG.FEED, 1), (mgBase 20, Rg.MG_CFG.KIND, 1), (mgSig 20 0, Rg.MG_SIG.EN, 1), (mgSig 20 0, Rg.MG_SIG.CH, 20), (mgSig 20 1, Rg.MG_SIG.EN, 1), (mgSig 20 1, Rg.MG_SIG.CH, 20), (mgSig 20 1, Rg.MG_SIG.QTY, 1), (mgSig 20 2, Rg.MG_SIG.EN, 1), (mgSig 20 2, Rg.MG_SIG.CH, 20), (mgSig 20 3, Rg.MG_SIG.EN, 1), (mgSig 20 3, Rg.MG_SIG.CH, 20), (mgSig 20 3, Rg.MG_SIG.QTY, 1), (mgBase 20, Rg.MG_ISL.REF_SITE, 1), (phBase 20, Rg.PH_CTRL.EN, 1), (phBase 20, Rg.PH_CFG.FS, 50)] : State).lanesAt (mgPos 20) ∧ (put (withLink { testLink with rc := ⟨1, 45, 61, 0, 0, false, false, 13, 0, 0xFF⟩ }) [(mgBase 20, Rg.MG_CFG.FEED, 1), (mgBase 20, Rg.MG_CFG.KIND, 1), (mgSig 20 0, Rg.MG_SIG.EN, 1), (mgSig 20 0, Rg.MG_SIG.CH, 20), (mgSig 20 1, Rg.MG_SIG.EN, 1), (mgSig 20 1, Rg.MG_SIG.CH, 20), (mgSig 20 1, Rg.MG_SIG.QTY, 1), (mgSig 20 2, Rg.MG_SIG.EN, 1), (mgSig 20 2, Rg.MG_SIG.CH, 20), (mgSig 20 3, Rg.MG_SIG.EN, 1), (mgSig 20 3, Rg.MG_SIG.CH, 20), (mgSig 20 3, Rg.MG_SIG.QTY, 1), (mgBase 20, Rg.MG_ISL.REF_SITE, 1), (phBase 20, Rg.PH_CTRL.EN, 1), (phBase 20, Rg.PH_CFG.FS, 50)] : State).on (domOf (islandOf (mgPos 20))) = true ∧
    (put (withLink { testLink with rc := ⟨1, 45, 61, 0, 0, false, false, 13, 0, 0xFF⟩ }) [(mgBase 20, Rg.MG_CFG.FEED, 1), (mgBase 20, Rg.MG_CFG.KIND, 1), (mgSig 20 0, Rg.MG_SIG.EN, 1), (mgSig 20 0, Rg.MG_SIG.CH, 20), (mgSig 20 1, Rg.MG_SIG.EN, 1), (mgSig 20 1, Rg.MG_SIG.CH, 20), (mgSig 20 1, Rg.MG_SIG.QTY, 1), (mgSig 20 2, Rg.MG_SIG.EN, 1), (mgSig 20 2, Rg.MG_SIG.CH, 20), (mgSig 20 3, Rg.MG_SIG.EN, 1), (mgSig 20 3, Rg.MG_SIG.CH, 20), (mgSig 20 3, Rg.MG_SIG.QTY, 1), (mgBase 20, Rg.MG_ISL.REF_SITE, 1), (phBase 20, Rg.PH_CTRL.EN, 1), (phBase 20, Rg.PH_CFG.FS, 50)] : State).flag (mgBase 20) Rg.MG_CTRL.EN = false ∧ (put (withLink { testLink with rc := ⟨1, 45, 61, 0, 0, false, false, 13, 0, 0xFF⟩ }) [(mgBase 20, Rg.MG_CFG.FEED, 1), (mgBase 20, Rg.MG_CFG.KIND, 1), (mgSig 20 0, Rg.MG_SIG.EN, 1), (mgSig 20 0, Rg.MG_SIG.CH, 20), (mgSig 20 1, Rg.MG_SIG.EN, 1), (mgSig 20 1, Rg.MG_SIG.CH, 20), (mgSig 20 1, Rg.MG_SIG.QTY, 1), (mgSig 20 2, Rg.MG_SIG.EN, 1), (mgSig 20 2, Rg.MG_SIG.CH, 20), (mgSig 20 3, Rg.MG_SIG.EN, 1), (mgSig 20 3, Rg.MG_SIG.CH, 20), (mgSig 20 3, Rg.MG_SIG.QTY, 1), (mgBase 20, Rg.MG_ISL.REF_SITE, 1), (phBase 20, Rg.PH_CTRL.EN, 1), (phBase 20, Rg.PH_CFG.FS, 50)] : State).mgRefusal 20 = 0 := by decide +kernel

theorem witness_GroupsEvaluateFrames_2 :
    20 < 64 ∧ (put { world with groups := [(20, { (Group.off) with pend := [⟨5, [], [none], false⟩, ⟨9, [], [none], false⟩] })] } [(mgBase 20, Rg.MG_CTRL.EN, 1), (mgBase 20, Rg.MG_CFG.KIND, 1), (mgSig 20 0, Rg.MG_SIG.EN, 1), (mgSig 20 1, Rg.MG_SIG.EN, 1)] : State).mgEn 20 = true ∧ (put { world with groups := [(20, { (Group.off) with pend := [⟨5, [], [none], false⟩, ⟨9, [], [none], false⟩] })] } [(mgBase 20, Rg.MG_CTRL.EN, 1), (mgBase 20, Rg.MG_CFG.KIND, 1), (mgSig 20 0, Rg.MG_SIG.EN, 1), (mgSig 20 1, Rg.MG_SIG.EN, 1)] : State).inbox = [] ∧ (put { world with groups := [(20, { (Group.off) with pend := [⟨5, [], [none], false⟩, ⟨9, [], [none], false⟩] })] } [(mgBase 20, Rg.MG_CTRL.EN, 1), (mgBase 20, Rg.MG_CFG.KIND, 1), (mgSig 20 0, Rg.MG_SIG.EN, 1), (mgSig 20 1, Rg.MG_SIG.EN, 1)] : State).mg 20 Rg.MG_CFG.FEED = 0 ∧ (put { world with groups := [(20, { (Group.off) with pend := [⟨5, [], [none], false⟩, ⟨9, [], [none], false⟩] })] } [(mgBase 20, Rg.MG_CTRL.EN, 1), (mgBase 20, Rg.MG_CFG.KIND, 1), (mgSig 20 0, Rg.MG_SIG.EN, 1), (mgSig 20 1, Rg.MG_SIG.EN, 1)] : State).mg 20 Rg.MG_CFG.KIND = 1 ∧ ((put { world with groups := [(20, { (Group.off) with pend := [⟨5, [], [none], false⟩, ⟨9, [], [none], false⟩] })] } [(mgBase 20, Rg.MG_CTRL.EN, 1), (mgBase 20, Rg.MG_CFG.KIND, 1), (mgSig 20 0, Rg.MG_SIG.EN, 1), (mgSig 20 1, Rg.MG_SIG.EN, 1)] : State).grp 20).pend = (⟨5, [], [none], false⟩ : GridFrame) :: ([⟨9, [], [none], false⟩] : List GridFrame) := by decide +kernel

theorem witness_GroupsEvaluateFrames_3 :
    20 < 64 ∧ (put { world with time := { world.time with era := 3 }, groups := [(20, Group.off)] } [(mgBase 20, Rg.MG_CTRL.EN, 1), (mgBase 20, Rg.MG_CFG.FEED, 1), (mgBase 20, Rg.MG_CFG.DECIM, 3), (mgSig 20 0, Rg.MG_SIG.EN, 1), (mgSig 20 0, Rg.MG_SIG.CH, 20), (phBase 20, Rg.PH_CFG.FS, 50)] : State).mgEn 20 = true ∧ (put { world with time := { world.time with era := 3 }, groups := [(20, Group.off)] } [(mgBase 20, Rg.MG_CTRL.EN, 1), (mgBase 20, Rg.MG_CFG.FEED, 1), (mgBase 20, Rg.MG_CFG.DECIM, 3), (mgSig 20 0, Rg.MG_SIG.EN, 1), (mgSig 20 0, Rg.MG_SIG.CH, 20), (phBase 20, Rg.PH_CFG.FS, 50)] : State).inbox = [] ∧ (put { world with time := { world.time with era := 3 }, groups := [(20, Group.off)] } [(mgBase 20, Rg.MG_CTRL.EN, 1), (mgBase 20, Rg.MG_CFG.FEED, 1), (mgBase 20, Rg.MG_CFG.DECIM, 3), (mgSig 20 0, Rg.MG_SIG.EN, 1), (mgSig 20 0, Rg.MG_SIG.CH, 20), (phBase 20, Rg.PH_CFG.FS, 50)] : State).mg 20 Rg.MG_CFG.FEED = 1 ∧ (put { world with time := { world.time with era := 3 }, groups := [(20, Group.off)] } [(mgBase 20, Rg.MG_CTRL.EN, 1), (mgBase 20, Rg.MG_CFG.FEED, 1), (mgBase 20, Rg.MG_CFG.DECIM, 3), (mgSig 20 0, Rg.MG_SIG.EN, 1), (mgSig 20 0, Rg.MG_SIG.CH, 20), (phBase 20, Rg.PH_CFG.FS, 50)] : State).mg 20 Rg.MG_CFG.KIND = 0 ∧ ((put { world with time := { world.time with era := 3 }, groups := [(20, Group.off)] } [(mgBase 20, Rg.MG_CTRL.EN, 1), (mgBase 20, Rg.MG_CFG.FEED, 1), (mgBase 20, Rg.MG_CFG.DECIM, 3), (mgSig 20 0, Rg.MG_SIG.EN, 1), (mgSig 20 0, Rg.MG_SIG.CH, 20), (phBase 20, Rg.PH_CFG.FS, 50)] : State).grp 20).pend = [] ∧ (put { world with time := { world.time with era := 3 }, groups := [(20, Group.off)] } [(mgBase 20, Rg.MG_CTRL.EN, 1), (mgBase 20, Rg.MG_CFG.FEED, 1), (mgBase 20, Rg.MG_CFG.DECIM, 3), (mgSig 20 0, Rg.MG_SIG.EN, 1), (mgSig 20 0, Rg.MG_SIG.CH, 20), (phBase 20, Rg.PH_CFG.FS, 50)] : State).entries 20 ≠ [] ∧
    (⟨20000000, [], [], false⟩ : GridFrame) = ⟨(put { world with time := { world.time with era := 3 }, groups := [(20, Group.off)] } [(mgBase 20, Rg.MG_CTRL.EN, 1), (mgBase 20, Rg.MG_CFG.FEED, 1), (mgBase 20, Rg.MG_CFG.DECIM, 3), (mgSig 20 0, Rg.MG_SIG.EN, 1), (mgSig 20 0, Rg.MG_SIG.CH, 20), (phBase 20, Rg.PH_CFG.FS, 50)] : State).gridAfter ((put { world with time := { world.time with era := 3 }, groups := [(20, Group.off)] } [(mgBase 20, Rg.MG_CTRL.EN, 1), (mgBase 20, Rg.MG_CFG.FEED, 1), (mgBase 20, Rg.MG_CFG.DECIM, 3), (mgSig 20 0, Rg.MG_SIG.EN, 1), (mgSig 20 0, Rg.MG_SIG.CH, 20), (phBase 20, Rg.PH_CFG.FS, 50)] : State).mgRate 20) ((put { world with time := { world.time with era := 3 }, groups := [(20, Group.off)] } [(mgBase 20, Rg.MG_CTRL.EN, 1), (mgBase 20, Rg.MG_CFG.FEED, 1), (mgBase 20, Rg.MG_CFG.DECIM, 3), (mgSig 20 0, Rg.MG_SIG.EN, 1), (mgSig 20 0, Rg.MG_SIG.CH, 20), (phBase 20, Rg.PH_CFG.FS, 50)] : State).grp 20).last, [], [], false⟩ ∧ (⟨20000000, [], [], false⟩ : GridFrame).tk + 300000 ≤ (put { world with time := { world.time with era := 3 }, groups := [(20, Group.off)] } [(mgBase 20, Rg.MG_CTRL.EN, 1), (mgBase 20, Rg.MG_CFG.FEED, 1), (mgBase 20, Rg.MG_CFG.DECIM, 3), (mgSig 20 0, Rg.MG_SIG.EN, 1), (mgSig 20 0, Rg.MG_SIG.CH, 20), (phBase 20, Rg.PH_CFG.FS, 50)] : State).nowNs ∧ ((put { world with time := { world.time with era := 3 }, groups := [(20, Group.off)] } [(mgBase 20, Rg.MG_CTRL.EN, 1), (mgBase 20, Rg.MG_CFG.FEED, 1), (mgBase 20, Rg.MG_CFG.DECIM, 3), (mgSig 20 0, Rg.MG_SIG.EN, 1), (mgSig 20 0, Rg.MG_SIG.CH, 20), (phBase 20, Rg.PH_CFG.FS, 50)] : State).grp 20).passed + 1 < (put { world with time := { world.time with era := 3 }, groups := [(20, Group.off)] } [(mgBase 20, Rg.MG_CTRL.EN, 1), (mgBase 20, Rg.MG_CFG.FEED, 1), (mgBase 20, Rg.MG_CFG.DECIM, 3), (mgSig 20 0, Rg.MG_SIG.EN, 1), (mgSig 20 0, Rg.MG_SIG.CH, 20), (phBase 20, Rg.PH_CFG.FS, 50)] : State).decim 20 := by decide +kernel

theorem witness_GroupsEvaluateFrames_4 :
    20 < 64 ∧ (put { world with groups := [(20, { (Group.off) with skips := 200, hist := [[]] })] } [(mgBase 20, Rg.MG_CTRL.EN, 1), (mgBase 20, Rg.MG_CFG.FEED, 1), (mgSig 20 0, Rg.MG_SIG.EN, 1), (mgSig 20 0, Rg.MG_SIG.CH, 20), (phBase 20, Rg.PH_CFG.FS, 50), (mgBase 20, Rg.MG_STAT.VALID, 1)] : State).mgEn 20 = true ∧ (put { world with groups := [(20, { (Group.off) with skips := 200, hist := [[]] })] } [(mgBase 20, Rg.MG_CTRL.EN, 1), (mgBase 20, Rg.MG_CFG.FEED, 1), (mgSig 20 0, Rg.MG_SIG.EN, 1), (mgSig 20 0, Rg.MG_SIG.CH, 20), (phBase 20, Rg.PH_CFG.FS, 50), (mgBase 20, Rg.MG_STAT.VALID, 1)] : State).mg 20 Rg.MG_CFG.KIND = 0 ∧ 0 < ((put { world with groups := [(20, { (Group.off) with skips := 200, hist := [[]] })] } [(mgBase 20, Rg.MG_CTRL.EN, 1), (mgBase 20, Rg.MG_CFG.FEED, 1), (mgSig 20 0, Rg.MG_SIG.EN, 1), (mgSig 20 0, Rg.MG_SIG.CH, 20), (phBase 20, Rg.PH_CFG.FS, 50), (mgBase 20, Rg.MG_STAT.VALID, 1)] : State).grp 20).skips ∧ 2 * (put { world with groups := [(20, { (Group.off) with skips := 200, hist := [[]] })] } [(mgBase 20, Rg.MG_CTRL.EN, 1), (mgBase 20, Rg.MG_CFG.FEED, 1), (mgSig 20 0, Rg.MG_SIG.EN, 1), (mgSig 20 0, Rg.MG_SIG.CH, 20), (phBase 20, Rg.PH_CFG.FS, 50), (mgBase 20, Rg.MG_STAT.VALID, 1)] : State).mgRate 20 ≤ ((put { world with groups := [(20, { (Group.off) with skips := 200, hist := [[]] })] } [(mgBase 20, Rg.MG_CTRL.EN, 1), (mgBase 20, Rg.MG_CFG.FEED, 1), (mgSig 20 0, Rg.MG_SIG.EN, 1), (mgSig 20 0, Rg.MG_SIG.CH, 20), (phBase 20, Rg.PH_CFG.FS, 50), (mgBase 20, Rg.MG_STAT.VALID, 1)] : State).grp 20).skips * (put { world with groups := [(20, { (Group.off) with skips := 200, hist := [[]] })] } [(mgBase 20, Rg.MG_CTRL.EN, 1), (mgBase 20, Rg.MG_CFG.FEED, 1), (mgSig 20 0, Rg.MG_SIG.EN, 1), (mgSig 20 0, Rg.MG_SIG.CH, 20), (phBase 20, Rg.PH_CFG.FS, 50), (mgBase 20, Rg.MG_STAT.VALID, 1)] : State).decim 20 := by decide +kernel

theorem witness_GroupsEvaluateFrames_5 :
    20 < 64 ∧ mayWriteService (put { world with groups := [(20, { (Group.off) with skips := 2, hist := [[]] })] } [(mgBase 20, Rg.MG_CTRL.EN, 1), (mgBase 20, Rg.MG_STAT.VALID, 1)] : State) (.mp : Master) = true ∧ 20 % 16 < (put { world with groups := [(20, { (Group.off) with skips := 2, hist := [[]] })] } [(mgBase 20, Rg.MG_CTRL.EN, 1), (mgBase 20, Rg.MG_STAT.VALID, 1)] : State).lanesAt (mgPos 20) ∧ (put { world with groups := [(20, { (Group.off) with skips := 2, hist := [[]] })] } [(mgBase 20, Rg.MG_CTRL.EN, 1), (mgBase 20, Rg.MG_STAT.VALID, 1)] : State).on (domOf (islandOf (mgPos 20))) = true ∧
    (put { world with groups := [(20, { (Group.off) with skips := 2, hist := [[]] })] } [(mgBase 20, Rg.MG_CTRL.EN, 1), (mgBase 20, Rg.MG_STAT.VALID, 1)] : State).mgEn 20 = true ∧ (put { world with groups := [(20, { (Group.off) with skips := 2, hist := [[]] })] } [(mgBase 20, Rg.MG_CTRL.EN, 1), (mgBase 20, Rg.MG_STAT.VALID, 1)] : State).mg 20 Rg.MG_CFG.KIND = 0 := by decide +kernel

theorem witness_GroupsEvaluateFrames_6 :
    20 < 64 ∧ (put { world with time := { world.time with era := 3 }, groups := [(20, Group.off)] } [(mgBase 20, Rg.MG_CTRL.EN, 1), (mgBase 20, Rg.MG_CFG.KIND, 1)] : State).mgEn 20 = true ∧ (put { world with time := { world.time with era := 3 }, groups := [(20, Group.off)] } [(mgBase 20, Rg.MG_CTRL.EN, 1), (mgBase 20, Rg.MG_CFG.KIND, 1)] : State).mg 20 Rg.MG_CFG.KIND = 1 ∧ ((put { world with time := { world.time with era := 3 }, groups := [(20, Group.off)] } [(mgBase 20, Rg.MG_CTRL.EN, 1), (mgBase 20, Rg.MG_CFG.KIND, 1)] : State).grp 20).monAt + 1000000000 ≤ (put { world with time := { world.time with era := 3 }, groups := [(20, Group.off)] } [(mgBase 20, Rg.MG_CTRL.EN, 1), (mgBase 20, Rg.MG_CFG.KIND, 1)] : State).nowNs := by decide +kernel

theorem witness_AlarmPinsAndLines_1 :
    3 < 8 ∧ (put world [(aoBase 3, Rg.AO_CFG.EN, 1), (aoBase 3, Rg.AO_CFG.STATE, 1)] : State).pins.length = 8 ∧ (put world [(aoBase 3, Rg.AO_CFG.EN, 1), (aoBase 3, Rg.AO_CFG.STATE, 1)] : State).pinOn 3 = true ∧ (put world [(aoBase 3, Rg.AO_CFG.EN, 1), (aoBase 3, Rg.AO_CFG.STATE, 1)] : State).pinSource 3 = false ∧ (put world [(aoBase 3, Rg.AO_CFG.EN, 1), (aoBase 3, Rg.AO_CFG.STATE, 1)] : State).flag (aoBase 3) Rg.AO_CFG.STATE = true ∧
    ((put world [(aoBase 3, Rg.AO_CFG.EN, 1), (aoBase 3, Rg.AO_CFG.STATE, 1)] : State).pin 3).minEnd ≤ (put world [(aoBase 3, Rg.AO_CFG.EN, 1), (aoBase 3, Rg.AO_CFG.STATE, 1)] : State).nowNs ∧ (((put world [(aoBase 3, Rg.AO_CFG.EN, 1), (aoBase 3, Rg.AO_CFG.STATE, 1)] : State).pin 3).latched && (put world [(aoBase 3, Rg.AO_CFG.EN, 1), (aoBase 3, Rg.AO_CFG.STATE, 1)] : State).flag (aoBase 3) Rg.AO_CFG.LATCH) = false := by decide +kernel

theorem witness_AlarmPinsAndLines_2 :
    3 < 8 ∧ (put { world with pins := listSet world.pins 3 ⟨0, 0, true⟩ } [(aoBase 3, Rg.AO_CFG.EN, 1), (aoBase 3, Rg.AO_CFG.LATCH, 1), (aoBase 3, Rg.AO_CFG.STATE, 1)] : State).pins.length = 8 ∧ mayWriteService (put { world with pins := listSet world.pins 3 ⟨0, 0, true⟩ } [(aoBase 3, Rg.AO_CFG.EN, 1), (aoBase 3, Rg.AO_CFG.LATCH, 1), (aoBase 3, Rg.AO_CFG.STATE, 1)] : State) (.mp : Master) = true ∧ (put { world with pins := listSet world.pins 3 ⟨0, 0, true⟩ } [(aoBase 3, Rg.AO_CFG.EN, 1), (aoBase 3, Rg.AO_CFG.LATCH, 1), (aoBase 3, Rg.AO_CFG.STATE, 1)] : State).pinOn 3 = true ∧ (put { world with pins := listSet world.pins 3 ⟨0, 0, true⟩ } [(aoBase 3, Rg.AO_CFG.EN, 1), (aoBase 3, Rg.AO_CFG.LATCH, 1), (aoBase 3, Rg.AO_CFG.STATE, 1)] : State).pinSource 3 = false ∧ ((put { world with pins := listSet world.pins 3 ⟨0, 0, true⟩ } [(aoBase 3, Rg.AO_CFG.EN, 1), (aoBase 3, Rg.AO_CFG.LATCH, 1), (aoBase 3, Rg.AO_CFG.STATE, 1)] : State).pin 3).minEnd ≤ (put { world with pins := listSet world.pins 3 ⟨0, 0, true⟩ } [(aoBase 3, Rg.AO_CFG.EN, 1), (aoBase 3, Rg.AO_CFG.LATCH, 1), (aoBase 3, Rg.AO_CFG.STATE, 1)] : State).nowNs := by decide +kernel

theorem witness_AlarmPinsAndLines_3 :
    1 < 2 ∧ (put world [(tlBase 1, Rg.TL_CFG.PULSE_US, 7)] : State).lines.length = 2 ∧ mayWriteService (put world [(tlBase 1, Rg.TL_CFG.PULSE_US, 7)] : State) (.mp : Master) = true ∧ (put world [(tlBase 1, Rg.TL_CFG.PULSE_US, 7)] : State).lineOn 1 = true := by decide +kernel

theorem witness_AlarmPinsAndLines_4 :
    1 < 2 ∧ (put world [(tlBase 1, Rg.TL_CFG.DRIVING, 1)] : State).flag (tlBase 1) Rg.TL_CFG.DRIVING = true ∧ ((put world [(tlBase 1, Rg.TL_CFG.DRIVING, 1)] : State).line 1).pulseEnd ≤ (put world [(tlBase 1, Rg.TL_CFG.DRIVING, 1)] : State).nowNs := by decide +kernel

theorem witness_AlarmPinsAndLines_5 :
    1 < 2 ∧ 5 < 8 ∧ (put world [(tlBase 1, Rg.TL_CFG.RX_EN, 1), (tgBase 5, Rg.TG_TSRC.SRC, 32)] : State).lines.length = 2 ∧ (put world [(tlBase 1, Rg.TL_CFG.RX_EN, 1), (tgBase 5, Rg.TG_TSRC.SRC, 32)] : State).engines.length = 8 ∧ (put world [(tlBase 1, Rg.TL_CFG.RX_EN, 1), (tgBase 5, Rg.TG_TSRC.SRC, 32)] : State).lineOn 1 = true ∧ (put world [(tlBase 1, Rg.TL_CFG.RX_EN, 1), (tgBase 5, Rg.TG_TSRC.SRC, 32)] : State).flag (tlBase 1) Rg.TL_CFG.LOW = false ∧ (put world [(tlBase 1, Rg.TL_CFG.RX_EN, 1), (tgBase 5, Rg.TG_TSRC.SRC, 32)] : State).flag (tlBase 1) Rg.TL_CFG.RX_EN = true ∧
    (put world [(tlBase 1, Rg.TL_CFG.RX_EN, 1), (tgBase 5, Rg.TG_TSRC.SRC, 32)] : State).flag (tlBase 1) Rg.TL_CFG.STUCK = false ∧ bitOf (4 + 1) ((put world [(tlBase 1, Rg.TL_CFG.RX_EN, 1), (tgBase 5, Rg.TG_TSRC.SRC, 32)] : State).tg 5 Rg.TG_TSRC.SRC) = true := by decide +kernel

theorem witness_AlarmPinsAndLines_6 :
    1 < 2 ∧ (put { world with time := { world.time with era := 3 } } [(tlBase 1, Rg.TL_CFG.LOW, 1)] : State).lineOn 1 = true ∧ (put { world with time := { world.time with era := 3 } } [(tlBase 1, Rg.TL_CFG.LOW, 1)] : State).flag (tlBase 1) Rg.TL_CFG.LOW = true ∧ ((put { world with time := { world.time with era := 3 } } [(tlBase 1, Rg.TL_CFG.LOW, 1)] : State).line 1).lowAt + 1000000000 < (put { world with time := { world.time with era := 3 } } [(tlBase 1, Rg.TL_CFG.LOW, 1)] : State).nowNs := by decide +kernel

theorem witness_AlarmPinsAndLines_7 :
    1 < 2 ∧ (put world [(tlBase 1, Rg.TL_CFG.LOW, 1)] : State).lines.length = 2 ∧ (put world [(tlBase 1, Rg.TL_CFG.LOW, 1)] : State).lineOn 1 = true ∧ (put world [(tlBase 1, Rg.TL_CFG.LOW, 1)] : State).flag (tlBase 1) Rg.TL_CFG.DRIVING = false ∧ (put world [(tlBase 1, Rg.TL_CFG.LOW, 1)] : State).flag (tlBase 1) Rg.TL_CFG.LOW = true := by decide +kernel

theorem witness_CaptureEnginesRecord_1 :
    5 < 8 ∧ (put { withLink { testLink with rc := ⟨1, 45, 67, 0, 0, false, false, 13, 0, 0xFF⟩ } with links := [{ testLink with rc := ⟨1, 45, 67, 0, 0, false, false, 13, 0, 0xFF⟩ }, { testLink with rc := ⟨2, 67, 24, 0, 0, false, false, 13, 0, 0xFF⟩ }] } [(tgBase 5, Rg.TG_CFG.CLASS, 2), (tgBase 5, Rg.TG_CH.MASK, 2 ^ 20), (phBase 20, Rg.PH_CTRL.EN, 1), (phBase 20, Rg.PH_CFG.FS, 50), (tgBase 5, Rg.TG_CFG.FRAME_WAIT, 5), (tgBase 5, Rg.TG_AREA.ADDR, ddrBase), (tgBase 5, Rg.TG_AREA.NSLOT, 3), (tgBase 5, Rg.TG_SLOT.SLOT_BYTES, 4096), (tgBase 5, Rg.TG_LEN.PRE, 4), (tgBase 5, Rg.TG_LEN.POST, 9), (tgBase 5, Rg.TG_STAT.FULL, 1), (bDdr, Rg.DDR_CFG.SIZE, 2)] : State).engines.length = 8 ∧ mayWriteService (put { withLink { testLink with rc := ⟨1, 45, 67, 0, 0, false, false, 13, 0, 0xFF⟩ } with links := [{ testLink with rc := ⟨1, 45, 67, 0, 0, false, false, 13, 0, 0xFF⟩ }, { testLink with rc := ⟨2, 67, 24, 0, 0, false, false, 13, 0, 0xFF⟩ }] } [(tgBase 5, Rg.TG_CFG.CLASS, 2), (tgBase 5, Rg.TG_CH.MASK, 2 ^ 20), (phBase 20, Rg.PH_CTRL.EN, 1), (phBase 20, Rg.PH_CFG.FS, 50), (tgBase 5, Rg.TG_CFG.FRAME_WAIT, 5), (tgBase 5, Rg.TG_AREA.ADDR, ddrBase), (tgBase 5, Rg.TG_AREA.NSLOT, 3), (tgBase 5, Rg.TG_SLOT.SLOT_BYTES, 4096), (tgBase 5, Rg.TG_LEN.PRE, 4), (tgBase 5, Rg.TG_LEN.POST, 9), (tgBase 5, Rg.TG_STAT.FULL, 1), (bDdr, Rg.DDR_CFG.SIZE, 2)] : State) (.mp : Master) = true ∧ 5 % 4 < (put { withLink { testLink with rc := ⟨1, 45, 67, 0, 0, false, false, 13, 0, 0xFF⟩ } with links := [{ testLink with rc := ⟨1, 45, 67, 0, 0, false, false, 13, 0, 0xFF⟩ }, { testLink with rc := ⟨2, 67, 24, 0, 0, false, false, 13, 0, 0xFF⟩ }] } [(tgBase 5, Rg.TG_CFG.CLASS, 2), (tgBase 5, Rg.TG_CH.MASK, 2 ^ 20), (phBase 20, Rg.PH_CTRL.EN, 1), (phBase 20, Rg.PH_CFG.FS, 50), (tgBase 5, Rg.TG_CFG.FRAME_WAIT, 5), (tgBase 5, Rg.TG_AREA.ADDR, ddrBase), (tgBase 5, Rg.TG_AREA.NSLOT, 3), (tgBase 5, Rg.TG_SLOT.SLOT_BYTES, 4096), (tgBase 5, Rg.TG_LEN.PRE, 4), (tgBase 5, Rg.TG_LEN.POST, 9), (tgBase 5, Rg.TG_STAT.FULL, 1), (bDdr, Rg.DDR_CFG.SIZE, 2)] : State).lanesAt (tgPos 5) ∧ (put { withLink { testLink with rc := ⟨1, 45, 67, 0, 0, false, false, 13, 0, 0xFF⟩ } with links := [{ testLink with rc := ⟨1, 45, 67, 0, 0, false, false, 13, 0, 0xFF⟩ }, { testLink with rc := ⟨2, 67, 24, 0, 0, false, false, 13, 0, 0xFF⟩ }] } [(tgBase 5, Rg.TG_CFG.CLASS, 2), (tgBase 5, Rg.TG_CH.MASK, 2 ^ 20), (phBase 20, Rg.PH_CTRL.EN, 1), (phBase 20, Rg.PH_CFG.FS, 50), (tgBase 5, Rg.TG_CFG.FRAME_WAIT, 5), (tgBase 5, Rg.TG_AREA.ADDR, ddrBase), (tgBase 5, Rg.TG_AREA.NSLOT, 3), (tgBase 5, Rg.TG_SLOT.SLOT_BYTES, 4096), (tgBase 5, Rg.TG_LEN.PRE, 4), (tgBase 5, Rg.TG_LEN.POST, 9), (tgBase 5, Rg.TG_STAT.FULL, 1), (bDdr, Rg.DDR_CFG.SIZE, 2)] : State).on (domOf (islandOf (tgPos 5))) = true ∧
    (put { withLink { testLink with rc := ⟨1, 45, 67, 0, 0, false, false, 13, 0, 0xFF⟩ } with links := [{ testLink with rc := ⟨1, 45, 67, 0, 0, false, false, 13, 0, 0xFF⟩ }, { testLink with rc := ⟨2, 67, 24, 0, 0, false, false, 13, 0, 0xFF⟩ }] } [(tgBase 5, Rg.TG_CFG.CLASS, 2), (tgBase 5, Rg.TG_CH.MASK, 2 ^ 20), (phBase 20, Rg.PH_CTRL.EN, 1), (phBase 20, Rg.PH_CFG.FS, 50), (tgBase 5, Rg.TG_CFG.FRAME_WAIT, 5), (tgBase 5, Rg.TG_AREA.ADDR, ddrBase), (tgBase 5, Rg.TG_AREA.NSLOT, 3), (tgBase 5, Rg.TG_SLOT.SLOT_BYTES, 4096), (tgBase 5, Rg.TG_LEN.PRE, 4), (tgBase 5, Rg.TG_LEN.POST, 9), (tgBase 5, Rg.TG_STAT.FULL, 1), (bDdr, Rg.DDR_CFG.SIZE, 2)] : State).flag (tgBase 5) Rg.TG_CTRL.ARM = false ∧ (put { withLink { testLink with rc := ⟨1, 45, 67, 0, 0, false, false, 13, 0, 0xFF⟩ } with links := [{ testLink with rc := ⟨1, 45, 67, 0, 0, false, false, 13, 0, 0xFF⟩ }, { testLink with rc := ⟨2, 67, 24, 0, 0, false, false, 13, 0, 0xFF⟩ }] } [(tgBase 5, Rg.TG_CFG.CLASS, 2), (tgBase 5, Rg.TG_CH.MASK, 2 ^ 20), (phBase 20, Rg.PH_CTRL.EN, 1), (phBase 20, Rg.PH_CFG.FS, 50), (tgBase 5, Rg.TG_CFG.FRAME_WAIT, 5), (tgBase 5, Rg.TG_AREA.ADDR, ddrBase), (tgBase 5, Rg.TG_AREA.NSLOT, 3), (tgBase 5, Rg.TG_SLOT.SLOT_BYTES, 4096), (tgBase 5, Rg.TG_LEN.PRE, 4), (tgBase 5, Rg.TG_LEN.POST, 9), (tgBase 5, Rg.TG_STAT.FULL, 1), (bDdr, Rg.DDR_CFG.SIZE, 2)] : State).tgRefusal 5 = 0 ∧ (put { withLink { testLink with rc := ⟨1, 45, 67, 0, 0, false, false, 13, 0, 0xFF⟩ } with links := [{ testLink with rc := ⟨1, 45, 67, 0, 0, false, false, 13, 0, 0xFF⟩ }, { testLink with rc := ⟨2, 67, 24, 0, 0, false, false, 13, 0, 0xFF⟩ }] } [(tgBase 5, Rg.TG_CFG.CLASS, 2), (tgBase 5, Rg.TG_CH.MASK, 2 ^ 20), (phBase 20, Rg.PH_CTRL.EN, 1), (phBase 20, Rg.PH_CFG.FS, 50), (tgBase 5, Rg.TG_CFG.FRAME_WAIT, 5), (tgBase 5, Rg.TG_AREA.ADDR, ddrBase), (tgBase 5, Rg.TG_AREA.NSLOT, 3), (tgBase 5, Rg.TG_SLOT.SLOT_BYTES, 4096), (tgBase 5, Rg.TG_LEN.PRE, 4), (tgBase 5, Rg.TG_LEN.POST, 9), (tgBase 5, Rg.TG_STAT.FULL, 1), (bDdr, Rg.DDR_CFG.SIZE, 2)] : State).nextSlot 5 = some 1 := by decide +kernel

theorem witness_CaptureEnginesRecord_2 :
    5 < 8 ∧ (put { world with engines := listSet world.engines 5 { (Engine.off) with way := [⟨4, 5, 0, false⟩] } } [(tgBase 5, Rg.TG_CTRL.ARM, 1), (tgBase 5, Rg.TG_STAT.STATE, 1)] : State).engines.length = 8 ∧ mayWriteService (put { world with engines := listSet world.engines 5 { (Engine.off) with way := [⟨4, 5, 0, false⟩] } } [(tgBase 5, Rg.TG_CTRL.ARM, 1), (tgBase 5, Rg.TG_STAT.STATE, 1)] : State) (.mp : Master) = true ∧ 5 % 4 < (put { world with engines := listSet world.engines 5 { (Engine.off) with way := [⟨4, 5, 0, false⟩] } } [(tgBase 5, Rg.TG_CTRL.ARM, 1), (tgBase 5, Rg.TG_STAT.STATE, 1)] : State).lanesAt (tgPos 5) ∧ (put { world with engines := listSet world.engines 5 { (Engine.off) with way := [⟨4, 5, 0, false⟩] } } [(tgBase 5, Rg.TG_CTRL.ARM, 1), (tgBase 5, Rg.TG_STAT.STATE, 1)] : State).on (domOf (islandOf (tgPos 5))) = true ∧
    (put { world with engines := listSet world.engines 5 { (Engine.off) with way := [⟨4, 5, 0, false⟩] } } [(tgBase 5, Rg.TG_CTRL.ARM, 1), (tgBase 5, Rg.TG_STAT.STATE, 1)] : State).tgState 5 ≠ 0 ∧ (put { world with engines := listSet world.engines 5 { (Engine.off) with way := [⟨4, 5, 0, false⟩] } } [(tgBase 5, Rg.TG_CTRL.ARM, 1), (tgBase 5, Rg.TG_STAT.STATE, 1)] : State).tgState 5 ≠ 2 := by decide +kernel

theorem witness_CaptureEnginesRecord_3 :
    5 < 8 ∧ (put { world with engines := listSet world.engines 5 { (Engine.off) with post := 3 } } [(tgBase 5, Rg.TG_TSRC.SRC, 128), (tgBase 5, Rg.TG_STAT.STATE, 1)] : State).engines.length = 8 ∧ mayWriteService (put { world with engines := listSet world.engines 5 { (Engine.off) with post := 3 } } [(tgBase 5, Rg.TG_TSRC.SRC, 128), (tgBase 5, Rg.TG_STAT.STATE, 1)] : State) (.mp : Master) = true ∧ 5 % 4 < (put { world with engines := listSet world.engines 5 { (Engine.off) with post := 3 } } [(tgBase 5, Rg.TG_TSRC.SRC, 128), (tgBase 5, Rg.TG_STAT.STATE, 1)] : State).lanesAt (tgPos 5) ∧ (put { world with engines := listSet world.engines 5 { (Engine.off) with post := 3 } } [(tgBase 5, Rg.TG_TSRC.SRC, 128), (tgBase 5, Rg.TG_STAT.STATE, 1)] : State).on (domOf (islandOf (tgPos 5))) = true ∧
    (put { world with engines := listSet world.engines 5 { (Engine.off) with post := 3 } } [(tgBase 5, Rg.TG_TSRC.SRC, 128), (tgBase 5, Rg.TG_STAT.STATE, 1)] : State).tgState 5 = 1 ∧ bitOf 7 ((put { world with engines := listSet world.engines 5 { (Engine.off) with post := 3 } } [(tgBase 5, Rg.TG_TSRC.SRC, 128), (tgBase 5, Rg.TG_STAT.STATE, 1)] : State).tg 5 Rg.TG_TSRC.SRC) = true ∧ ((put { world with engines := listSet world.engines 5 { (Engine.off) with post := 3 } } [(tgBase 5, Rg.TG_TSRC.SRC, 128), (tgBase 5, Rg.TG_STAT.STATE, 1)] : State).eng 5).rearm ≤ (put { world with engines := listSet world.engines 5 { (Engine.off) with post := 3 } } [(tgBase 5, Rg.TG_TSRC.SRC, 128), (tgBase 5, Rg.TG_STAT.STATE, 1)] : State).nowNs ∧ ((put { world with engines := listSet world.engines 5 { (Engine.off) with post := 3 } } [(tgBase 5, Rg.TG_TSRC.SRC, 128), (tgBase 5, Rg.TG_STAT.STATE, 1)] : State).eng 5).fixed = false ∧ ((put { world with engines := listSet world.engines 5 { (Engine.off) with post := 3 } } [(tgBase 5, Rg.TG_TSRC.SRC, 128), (tgBase 5, Rg.TG_STAT.STATE, 1)] : State).eng 5).trig = none ∧
    (put { world with engines := listSet world.engines 5 { (Engine.off) with post := 3 } } [(tgBase 5, Rg.TG_TSRC.SRC, 128), (tgBase 5, Rg.TG_STAT.STATE, 1)] : State).get (tgBase 5) Rg.TG_CFG.LINE_OUT = 0 ∧ (List.range 8).all (fun n => !bitOf 5 ((put { world with engines := listSet world.engines 5 { (Engine.off) with post := 3 } } [(tgBase 5, Rg.TG_TSRC.SRC, 128), (tgBase 5, Rg.TG_STAT.STATE, 1)] : State).get (aoBase n) Rg.AO_CFG.TRIG_SEL)) = true ∧ ((put { world with engines := listSet world.engines 5 { (Engine.off) with post := 3 } } [(tgBase 5, Rg.TG_TSRC.SRC, 128), (tgBase 5, Rg.TG_STAT.STATE, 1)] : State).eng 5).pres = [] ∧ ((put { world with engines := listSet world.engines 5 { (Engine.off) with post := 3 } } [(tgBase 5, Rg.TG_TSRC.SRC, 128), (tgBase 5, Rg.TG_STAT.STATE, 1)] : State).eng 5).post ≠ 0 := by decide +kernel

theorem witness_CaptureEnginesRecord_4 :
    5 < 8 ∧ (put { world with engines := listSet world.engines 5 { (Engine.off) with way := [⟨4, 5, 0, false⟩, ⟨5, 5, 0, false⟩] } } [(tgBase 5, Rg.TG_TSRC.SRC, 48), (tgBase 5, Rg.TG_STAT.STATE, 4)] : State).engines.length = 8 ∧ (put { world with engines := listSet world.engines 5 { (Engine.off) with way := [⟨4, 5, 0, false⟩, ⟨5, 5, 0, false⟩] } } [(tgBase 5, Rg.TG_TSRC.SRC, 48), (tgBase 5, Rg.TG_STAT.STATE, 4)] : State).inbox = [] ∧ ((put { world with engines := listSet world.engines 5 { (Engine.off) with way := [⟨4, 5, 0, false⟩, ⟨5, 5, 0, false⟩] } } [(tgBase 5, Rg.TG_TSRC.SRC, 48), (tgBase 5, Rg.TG_STAT.STATE, 4)] : State).eng 5).way = (⟨4, 5, 0, false⟩ : Trig) :: ([⟨5, 5, 0, false⟩] : List Trig) ∧ bitOf (⟨4, 5, 0, false⟩ : Trig).src ((put { world with engines := listSet world.engines 5 { (Engine.off) with way := [⟨4, 5, 0, false⟩, ⟨5, 5, 0, false⟩] } } [(tgBase 5, Rg.TG_TSRC.SRC, 48), (tgBase 5, Rg.TG_STAT.STATE, 4)] : State).tg 5 Rg.TG_TSRC.SRC) = true ∧ ((⟨4, 5, 0, false⟩ : Trig).own && (put { world with engines := listSet world.engines 5 { (Engine.off) with way := [⟨4, 5, 0, false⟩, ⟨5, 5, 0, false⟩] } } [(tgBase 5, Rg.TG_TSRC.SRC, 48), (tgBase 5, Rg.TG_STAT.STATE, 4)] : State).flag (tgBase 5) Rg.TG_CFG.IGN_OWN) = false ∧
    (3 ≤ (put { world with engines := listSet world.engines 5 { (Engine.off) with way := [⟨4, 5, 0, false⟩, ⟨5, 5, 0, false⟩] } } [(tgBase 5, Rg.TG_TSRC.SRC, 48), (tgBase 5, Rg.TG_STAT.STATE, 4)] : State).tgState 5 ∨ ((put { world with engines := listSet world.engines 5 { (Engine.off) with way := [⟨4, 5, 0, false⟩, ⟨5, 5, 0, false⟩] } } [(tgBase 5, Rg.TG_TSRC.SRC, 48), (tgBase 5, Rg.TG_STAT.STATE, 4)] : State).tgState 5 ≠ 0 ∧ (⟨4, 5, 0, false⟩ : Trig).at_ < ((put { world with engines := listSet world.engines 5 { (Engine.off) with way := [⟨4, 5, 0, false⟩, ⟨5, 5, 0, false⟩] } } [(tgBase 5, Rg.TG_TSRC.SRC, 48), (tgBase 5, Rg.TG_STAT.STATE, 4)] : State).eng 5).rearm)) := by decide +kernel

theorem witness_CaptureEnginesRecord_5 :
    5 < 8 ∧ (put { world with engines := listSet world.engines 5 { (Engine.off) with post := 3, way := [⟨4, 5, 0, false⟩, ⟨5, 5, 0, false⟩] } } [(tgBase 5, Rg.TG_TSRC.SRC, 48), (tgBase 5, Rg.TG_STAT.STATE, 1)] : State).engines.length = 8 ∧ (put { world with engines := listSet world.engines 5 { (Engine.off) with post := 3, way := [⟨4, 5, 0, false⟩, ⟨5, 5, 0, false⟩] } } [(tgBase 5, Rg.TG_TSRC.SRC, 48), (tgBase 5, Rg.TG_STAT.STATE, 1)] : State).inbox = [] ∧ ((put { world with engines := listSet world.engines 5 { (Engine.off) with post := 3, way := [⟨4, 5, 0, false⟩, ⟨5, 5, 0, false⟩] } } [(tgBase 5, Rg.TG_TSRC.SRC, 48), (tgBase 5, Rg.TG_STAT.STATE, 1)] : State).eng 5).way = (⟨4, 5, 0, false⟩ : Trig) :: ([⟨5, 5, 0, false⟩] : List Trig) ∧ bitOf (⟨4, 5, 0, false⟩ : Trig).src ((put { world with engines := listSet world.engines 5 { (Engine.off) with post := 3, way := [⟨4, 5, 0, false⟩, ⟨5, 5, 0, false⟩] } } [(tgBase 5, Rg.TG_TSRC.SRC, 48), (tgBase 5, Rg.TG_STAT.STATE, 1)] : State).tg 5 Rg.TG_TSRC.SRC) = true ∧ ((⟨4, 5, 0, false⟩ : Trig).own && (put { world with engines := listSet world.engines 5 { (Engine.off) with post := 3, way := [⟨4, 5, 0, false⟩, ⟨5, 5, 0, false⟩] } } [(tgBase 5, Rg.TG_TSRC.SRC, 48), (tgBase 5, Rg.TG_STAT.STATE, 1)] : State).flag (tgBase 5) Rg.TG_CFG.IGN_OWN) = false ∧
    (put { world with engines := listSet world.engines 5 { (Engine.off) with post := 3, way := [⟨4, 5, 0, false⟩, ⟨5, 5, 0, false⟩] } } [(tgBase 5, Rg.TG_TSRC.SRC, 48), (tgBase 5, Rg.TG_STAT.STATE, 1)] : State).tgState 5 = 1 ∧ ((put { world with engines := listSet world.engines 5 { (Engine.off) with post := 3, way := [⟨4, 5, 0, false⟩, ⟨5, 5, 0, false⟩] } } [(tgBase 5, Rg.TG_TSRC.SRC, 48), (tgBase 5, Rg.TG_STAT.STATE, 1)] : State).eng 5).rearm ≤ (⟨4, 5, 0, false⟩ : Trig).at_ ∧ ((put { world with engines := listSet world.engines 5 { (Engine.off) with post := 3, way := [⟨4, 5, 0, false⟩, ⟨5, 5, 0, false⟩] } } [(tgBase 5, Rg.TG_TSRC.SRC, 48), (tgBase 5, Rg.TG_STAT.STATE, 1)] : State).eng 5).fixed = false ∧ ((put { world with engines := listSet world.engines 5 { (Engine.off) with post := 3, way := [⟨4, 5, 0, false⟩, ⟨5, 5, 0, false⟩] } } [(tgBase 5, Rg.TG_TSRC.SRC, 48), (tgBase 5, Rg.TG_STAT.STATE, 1)] : State).eng 5).trig = none ∧
    (put { world with engines := listSet world.engines 5 { (Engine.off) with post := 3, way := [⟨4, 5, 0, false⟩, ⟨5, 5, 0, false⟩] } } [(tgBase 5, Rg.TG_TSRC.SRC, 48), (tgBase 5, Rg.TG_STAT.STATE, 1)] : State).get (tgBase 5) Rg.TG_CFG.LINE_OUT = 0 ∧ (List.range 8).all (fun n => !bitOf 5 ((put { world with engines := listSet world.engines 5 { (Engine.off) with post := 3, way := [⟨4, 5, 0, false⟩, ⟨5, 5, 0, false⟩] } } [(tgBase 5, Rg.TG_TSRC.SRC, 48), (tgBase 5, Rg.TG_STAT.STATE, 1)] : State).get (aoBase n) Rg.AO_CFG.TRIG_SEL)) = true ∧ ((put { world with engines := listSet world.engines 5 { (Engine.off) with post := 3, way := [⟨4, 5, 0, false⟩, ⟨5, 5, 0, false⟩] } } [(tgBase 5, Rg.TG_TSRC.SRC, 48), (tgBase 5, Rg.TG_STAT.STATE, 1)] : State).eng 5).pres = [] ∧ ((put { world with engines := listSet world.engines 5 { (Engine.off) with post := 3, way := [⟨4, 5, 0, false⟩, ⟨5, 5, 0, false⟩] } } [(tgBase 5, Rg.TG_TSRC.SRC, 48), (tgBase 5, Rg.TG_STAT.STATE, 1)] : State).eng 5).post ≠ 0 := by decide +kernel

theorem witness_CaptureEnginesRecord_6 :
    5 < 8 ∧ (put { world with engines := listSet world.engines 5 { (Engine.off) with frames := [⟨5, 0, [(0, [1, 2, 3, 4])], 0⟩, ⟨9, 0, [], 0⟩] } } [(tgBase 5, Rg.TG_CH.MASK, 16), (tgBase 5, Rg.TG_LVL.LIDX, 3), (tgBase 5, Rg.TG_STAT.STATE, 1)] : State).engines.length = 8 ∧ (put { world with engines := listSet world.engines 5 { (Engine.off) with frames := [⟨5, 0, [(0, [1, 2, 3, 4])], 0⟩, ⟨9, 0, [], 0⟩] } } [(tgBase 5, Rg.TG_CH.MASK, 16), (tgBase 5, Rg.TG_LVL.LIDX, 3), (tgBase 5, Rg.TG_STAT.STATE, 1)] : State).inbox = [] ∧ (put { world with engines := listSet world.engines 5 { (Engine.off) with frames := [⟨5, 0, [(0, [1, 2, 3, 4])], 0⟩, ⟨9, 0, [], 0⟩] } } [(tgBase 5, Rg.TG_CH.MASK, 16), (tgBase 5, Rg.TG_LVL.LIDX, 3), (tgBase 5, Rg.TG_STAT.STATE, 1)] : State).tgState 5 = 1 ∧ (put { world with engines := listSet world.engines 5 { (Engine.off) with frames := [⟨5, 0, [(0, [1, 2, 3, 4])], 0⟩, ⟨9, 0, [], 0⟩] } } [(tgBase 5, Rg.TG_CH.MASK, 16), (tgBase 5, Rg.TG_LVL.LIDX, 3), (tgBase 5, Rg.TG_STAT.STATE, 1)] : State).tgClass 5 ≠ 3 ∧ ((put { world with engines := listSet world.engines 5 { (Engine.off) with frames := [⟨5, 0, [(0, [1, 2, 3, 4])], 0⟩, ⟨9, 0, [], 0⟩] } } [(tgBase 5, Rg.TG_CH.MASK, 16), (tgBase 5, Rg.TG_LVL.LIDX, 3), (tgBase 5, Rg.TG_STAT.STATE, 1)] : State).eng 5).fixed = false ∧ ((put { world with engines := listSet world.engines 5 { (Engine.off) with frames := [⟨5, 0, [(0, [1, 2, 3, 4])], 0⟩, ⟨9, 0, [], 0⟩] } } [(tgBase 5, Rg.TG_CH.MASK, 16), (tgBase 5, Rg.TG_LVL.LIDX, 3), (tgBase 5, Rg.TG_STAT.STATE, 1)] : State).eng 5).frames = (⟨5, 0, [(0, [1, 2, 3, 4])], 0⟩ : CapFrame) :: ([⟨9, 0, [], 0⟩] : List CapFrame) ∧
    ((put { world with engines := listSet world.engines 5 { (Engine.off) with frames := [⟨5, 0, [(0, [1, 2, 3, 4])], 0⟩, ⟨9, 0, [], 0⟩] } } [(tgBase 5, Rg.TG_CH.MASK, 16), (tgBase 5, Rg.TG_LVL.LIDX, 3), (tgBase 5, Rg.TG_STAT.STATE, 1)] : State).tgChans 5).length ≤ (⟨5, 0, [(0, [1, 2, 3, 4])], 0⟩ : CapFrame).parts.length ∧ ((put { world with engines := listSet world.engines 5 { (Engine.off) with frames := [⟨5, 0, [(0, [1, 2, 3, 4])], 0⟩, ⟨9, 0, [], 0⟩] } } [(tgBase 5, Rg.TG_CH.MASK, 16), (tgBase 5, Rg.TG_LVL.LIDX, 3), (tgBase 5, Rg.TG_STAT.STATE, 1)] : State).eng 5).pre = 0 ∧ ((put { world with engines := listSet world.engines 5 { (Engine.off) with frames := [⟨5, 0, [(0, [1, 2, 3, 4])], 0⟩, ⟨9, 0, [], 0⟩] } } [(tgBase 5, Rg.TG_CH.MASK, 16), (tgBase 5, Rg.TG_LVL.LIDX, 3), (tgBase 5, Rg.TG_STAT.STATE, 1)] : State).eng 5).trig = none ∧ capValue ((put { world with engines := listSet world.engines 5 { (Engine.off) with frames := [⟨5, 0, [(0, [1, 2, 3, 4])], 0⟩, ⟨9, 0, [], 0⟩] } } [(tgBase 5, Rg.TG_CH.MASK, 16), (tgBase 5, Rg.TG_LVL.LIDX, 3), (tgBase 5, Rg.TG_STAT.STATE, 1)] : State).tgClass 5) ((put { world with engines := listSet world.engines 5 { (Engine.off) with frames := [⟨5, 0, [(0, [1, 2, 3, 4])], 0⟩, ⟨9, 0, [], 0⟩] } } [(tgBase 5, Rg.TG_CH.MASK, 16), (tgBase 5, Rg.TG_LVL.LIDX, 3), (tgBase 5, Rg.TG_STAT.STATE, 1)] : State).tg 5 Rg.TG_LVL.LIDX) ((put { world with engines := listSet world.engines 5 { (Engine.off) with frames := [⟨5, 0, [(0, [1, 2, 3, 4])], 0⟩, ⟨9, 0, [], 0⟩] } } [(tgBase 5, Rg.TG_CH.MASK, 16), (tgBase 5, Rg.TG_LVL.LIDX, 3), (tgBase 5, Rg.TG_STAT.STATE, 1)] : State).tg 5 Rg.TG_LVL.LQTY) ((put { world with engines := listSet world.engines 5 { (Engine.off) with frames := [⟨5, 0, [(0, [1, 2, 3, 4])], 0⟩, ⟨9, 0, [], 0⟩] } } [(tgBase 5, Rg.TG_CH.MASK, 16), (tgBase 5, Rg.TG_LVL.LIDX, 3), (tgBase 5, Rg.TG_STAT.STATE, 1)] : State).tg 5 Rg.TG_LVL.LOFS) (⟨5, 0, [(0, [1, 2, 3, 4])], 0⟩ : CapFrame) = none := by decide +kernel

theorem witness_CaptureEnginesRecord_7 :
    5 < 8 ∧ (put world [(tgBase 5, Rg.TG_STAT.STATE, 3), (tgBase 5, Rg.TG_AREA.ADDR, ddrBase), (tgBase 5, Rg.TG_STAT.CUR, 2), (tgBase 5, Rg.TG_SLOT.SLOT_BYTES, 4096)] : State).engines.length = 8 ∧ (put world [(tgBase 5, Rg.TG_STAT.STATE, 3), (tgBase 5, Rg.TG_AREA.ADDR, ddrBase), (tgBase 5, Rg.TG_STAT.CUR, 2), (tgBase 5, Rg.TG_SLOT.SLOT_BYTES, 4096)] : State).tgState 5 = 3 := by decide +kernel

theorem witness_CaptureEnginesRecord_8 :
    5 < 8 ∧ (put world [(tgBase 5, Rg.TG_STAT.STATE, 4), (tgBase 5, Rg.TG_CTRL.ARM, 1)] : State).engines.length = 8 ∧ (put world [(tgBase 5, Rg.TG_STAT.STATE, 4), (tgBase 5, Rg.TG_CTRL.ARM, 1)] : State).tgState 5 = 4 ∧ ((put world [(tgBase 5, Rg.TG_STAT.STATE, 4), (tgBase 5, Rg.TG_CTRL.ARM, 1)] : State).eng 5).rearm ≤ (put world [(tgBase 5, Rg.TG_STAT.STATE, 4), (tgBase 5, Rg.TG_CTRL.ARM, 1)] : State).nowNs ∧ (put world [(tgBase 5, Rg.TG_STAT.STATE, 4), (tgBase 5, Rg.TG_CTRL.ARM, 1)] : State).flag (tgBase 5) Rg.TG_CFG.AUTO = false := by decide +kernel

theorem witness_CaptureEnginesRecord_9 :
    5 < 8 ∧ (put world [(tgBase 5, Rg.TG_STAT.STATE, 4), (tgBase 5, Rg.TG_CFG.AUTO, 1), (tgBase 5, Rg.TG_AREA.ADDR, ddrBase), (tgBase 5, Rg.TG_AREA.NSLOT, 3), (tgBase 5, Rg.TG_STAT.FULL, 1), (tgBase 5, Rg.TG_SLOT.SLOT_BYTES, 4096)] : State).engines.length = 8 ∧ (put world [(tgBase 5, Rg.TG_STAT.STATE, 4), (tgBase 5, Rg.TG_CFG.AUTO, 1), (tgBase 5, Rg.TG_AREA.ADDR, ddrBase), (tgBase 5, Rg.TG_AREA.NSLOT, 3), (tgBase 5, Rg.TG_STAT.FULL, 1), (tgBase 5, Rg.TG_SLOT.SLOT_BYTES, 4096)] : State).tgState 5 = 4 ∧ ((put world [(tgBase 5, Rg.TG_STAT.STATE, 4), (tgBase 5, Rg.TG_CFG.AUTO, 1), (tgBase 5, Rg.TG_AREA.ADDR, ddrBase), (tgBase 5, Rg.TG_AREA.NSLOT, 3), (tgBase 5, Rg.TG_STAT.FULL, 1), (tgBase 5, Rg.TG_SLOT.SLOT_BYTES, 4096)] : State).eng 5).rearm ≤ (put world [(tgBase 5, Rg.TG_STAT.STATE, 4), (tgBase 5, Rg.TG_CFG.AUTO, 1), (tgBase 5, Rg.TG_AREA.ADDR, ddrBase), (tgBase 5, Rg.TG_AREA.NSLOT, 3), (tgBase 5, Rg.TG_STAT.FULL, 1), (tgBase 5, Rg.TG_SLOT.SLOT_BYTES, 4096)] : State).nowNs ∧ (put world [(tgBase 5, Rg.TG_STAT.STATE, 4), (tgBase 5, Rg.TG_CFG.AUTO, 1), (tgBase 5, Rg.TG_AREA.ADDR, ddrBase), (tgBase 5, Rg.TG_AREA.NSLOT, 3), (tgBase 5, Rg.TG_STAT.FULL, 1), (tgBase 5, Rg.TG_SLOT.SLOT_BYTES, 4096)] : State).flag (tgBase 5) Rg.TG_CFG.AUTO = true ∧ (put world [(tgBase 5, Rg.TG_STAT.STATE, 4), (tgBase 5, Rg.TG_CFG.AUTO, 1), (tgBase 5, Rg.TG_AREA.ADDR, ddrBase), (tgBase 5, Rg.TG_AREA.NSLOT, 3), (tgBase 5, Rg.TG_STAT.FULL, 1), (tgBase 5, Rg.TG_SLOT.SLOT_BYTES, 4096)] : State).nextSlot 5 = some 1 := by decide +kernel

theorem witness_CaptureEnginesRecord_10 :
    5 < 8 ∧ mayWriteService (put world [(tgBase 5, Rg.TG_STAT.FULL, 7)] : State) (.mp : Master) = true ∧ 5 % 4 < (put world [(tgBase 5, Rg.TG_STAT.FULL, 7)] : State).lanesAt (tgPos 5) ∧ (put world [(tgBase 5, Rg.TG_STAT.FULL, 7)] : State).on (domOf (islandOf (tgPos 5))) = true ∧ (put world [(tgBase 5, Rg.TG_STAT.FULL, 7)] : State).tgState 5 ≠ 5 := by decide +kernel

end Sys2Proof.Tests
end

