-- ==== Sys2Proof/Tests/Witness12.lean ====
section
/-! SUPPORT. Witnesses: for each clause of a statement a state and operands that meet its hypotheses. -/

set_option Elab.async false

open Sys2Proof Sys2Proof.Machine

namespace Sys2Proof.Tests

theorem witness_RadioPortsAndLanes_1 :
    3 < 8 ∧ (put world [(rpBase 3, Rg.RP_CFG.PRE_US, 20), (rpBase 3, Rg.RP_CFG.CH_US, 5), (rpBase 3, Rg.RP_CFG.RATE, 2000)] : State).radio.lanes.length = 8 ∧ mayWriteService (put world [(rpBase 3, Rg.RP_CFG.PRE_US, 20), (rpBase 3, Rg.RP_CFG.CH_US, 5), (rpBase 3, Rg.RP_CFG.RATE, 2000)] : State) (.mp : Master) = true ∧ (put world [(rpBase 3, Rg.RP_CFG.PRE_US, 20), (rpBase 3, Rg.RP_CFG.CH_US, 5), (rpBase 3, Rg.RP_CFG.RATE, 2000)] : State).on .io = true ∧ bitOf (16 + 3) (put world [(rpBase 3, Rg.RP_CFG.PRE_US, 20), (rpBase 3, Rg.RP_CFG.CH_US, 5), (rpBase 3, Rg.RP_CFG.RATE, 2000)] : State).img.io0 = true ∧
    (((put world [(rpBase 3, Rg.RP_CFG.PRE_US, 20), (rpBase 3, Rg.RP_CFG.CH_US, 5), (rpBase 3, Rg.RP_CFG.RATE, 2000)] : State).flag (rpBase 3) Rg.RP_CFG.EN = false ∨ (put world [(rpBase 3, Rg.RP_CFG.PRE_US, 20), (rpBase 3, Rg.RP_CFG.CH_US, 5), (rpBase 3, Rg.RP_CFG.RATE, 2000)] : State).get (rpBase 3) Rg.RP_STAT.STATE = 3) ∧ ([0x53, 0x46, 1, 5, 0, 6, 0, 1] : List Byte).length = 8 ∧ leAt ([0x53, 0x46, 1, 5, 0, 6, 0, 1] : List Byte) 0 1 = 0x53 ∧ leAt ([0x53, 0x46, 1, 5, 0, 6, 0, 1] : List Byte) 1 1 = 0x46 ∧ leAt ([0x53, 0x46, 1, 5, 0, 6, 0, 1] : List Byte) 2 1 = 1 ∧ (put world [(rpBase 3, Rg.RP_CFG.PRE_US, 20), (rpBase 3, Rg.RP_CFG.CH_US, 5), (rpBase 3, Rg.RP_CFG.RATE, 2000)] : State).profileOk 3 (leAt ([0x53, 0x46, 1, 5, 0, 6, 0, 1] : List Byte) 7 1) = true) := by decide +kernel

theorem witness_RadioPortsAndLanes_2 :
    3 < 8 ∧ mayWriteService (put world [(rpBase 3, Rg.RP_RAW.LEN, 3), (rpBase 3, Rg.RP_RAW.DATA, 0xAABBCCDDEE)] : State) (.mp : Master) = true ∧ (put world [(rpBase 3, Rg.RP_RAW.LEN, 3), (rpBase 3, Rg.RP_RAW.DATA, 0xAABBCCDDEE)] : State).on .io = true ∧ bitOf (16 + 3) (put world [(rpBase 3, Rg.RP_RAW.LEN, 3), (rpBase 3, Rg.RP_RAW.DATA, 0xAABBCCDDEE)] : State).img.io0 = true ∧
    (put world [(rpBase 3, Rg.RP_RAW.LEN, 3), (rpBase 3, Rg.RP_RAW.DATA, 0xAABBCCDDEE)] : State).flag (rpBase 3) Rg.RP_CFG.EN = false ∧ 3 = (put world [(rpBase 3, Rg.RP_RAW.LEN, 3), (rpBase 3, Rg.RP_RAW.DATA, 0xAABBCCDDEE)] : State).get (rpBase 3) Rg.RP_RAW.LEN ∧ 0 < 3 ∧ 3 ≤ 6 := by decide +kernel

theorem witness_RadioPortsAndLanes_3 :
    mayWriteService world (.mp : Master) = true ∧ world.on .io = true ∧ 5000000000 % 1000000000 = 0 ∧ ((List.range 8).map macBase).all (fun y => !world.flag y Rg.FR_CTRL.EN) = true := by decide +kernel

theorem witness_RadioPortsAndLanes_4 :
    3 < 8 ∧ (put { keyed world 9 with links := [{ testLink with rc := ⟨1, 31, 94, 0, 0, false, false, 13, 0, 5⟩ }, { testLink with rc := ⟨2, 94, 31, 0, 0, false, false, 13, 0, 5⟩ }, { testLink with rc := ⟨3, 31, 82, 0, 0, false, false, 13, 0, 5⟩ }] } [(macBase 3, Rg.FR_CFG.NET_SLOT, 9), (rpBase 3, Rg.RP_STAT.STATE, 2), (macBase 3, Rg.FR_CELL.EN, 1)] : State).radio.lanes.length = 8 ∧ mayWriteService (put { keyed world 9 with links := [{ testLink with rc := ⟨1, 31, 94, 0, 0, false, false, 13, 0, 5⟩ }, { testLink with rc := ⟨2, 94, 31, 0, 0, false, false, 13, 0, 5⟩ }, { testLink with rc := ⟨3, 31, 82, 0, 0, false, false, 13, 0, 5⟩ }] } [(macBase 3, Rg.FR_CFG.NET_SLOT, 9), (rpBase 3, Rg.RP_STAT.STATE, 2), (macBase 3, Rg.FR_CELL.EN, 1)] : State) (.mp : Master) = true ∧ 3 % 2 < (put { keyed world 9 with links := [{ testLink with rc := ⟨1, 31, 94, 0, 0, false, false, 13, 0, 5⟩ }, { testLink with rc := ⟨2, 94, 31, 0, 0, false, false, 13, 0, 5⟩ }, { testLink with rc := ⟨3, 31, 82, 0, 0, false, false, 13, 0, 5⟩ }] } [(macBase 3, Rg.FR_CFG.NET_SLOT, 9), (rpBase 3, Rg.RP_STAT.STATE, 2), (macBase 3, Rg.FR_CELL.EN, 1)] : State).lanesAt (macPos 3) ∧ (put { keyed world 9 with links := [{ testLink with rc := ⟨1, 31, 94, 0, 0, false, false, 13, 0, 5⟩ }, { testLink with rc := ⟨2, 94, 31, 0, 0, false, false, 13, 0, 5⟩ }, { testLink with rc := ⟨3, 31, 82, 0, 0, false, false, 13, 0, 5⟩ }] } [(macBase 3, Rg.FR_CFG.NET_SLOT, 9), (rpBase 3, Rg.RP_STAT.STATE, 2), (macBase 3, Rg.FR_CELL.EN, 1)] : State).on (domOf (islandOf (macPos 3))) = true ∧
    (put { keyed world 9 with links := [{ testLink with rc := ⟨1, 31, 94, 0, 0, false, false, 13, 0, 5⟩ }, { testLink with rc := ⟨2, 94, 31, 0, 0, false, false, 13, 0, 5⟩ }, { testLink with rc := ⟨3, 31, 82, 0, 0, false, false, 13, 0, 5⟩ }] } [(macBase 3, Rg.FR_CFG.NET_SLOT, 9), (rpBase 3, Rg.RP_STAT.STATE, 2), (macBase 3, Rg.FR_CELL.EN, 1)] : State).flag (macBase 3) Rg.FR_CTRL.EN = false ∧ (put { keyed world 9 with links := [{ testLink with rc := ⟨1, 31, 94, 0, 0, false, false, 13, 0, 5⟩ }, { testLink with rc := ⟨2, 94, 31, 0, 0, false, false, 13, 0, 5⟩ }, { testLink with rc := ⟨3, 31, 82, 0, 0, false, false, 13, 0, 5⟩ }] } [(macBase 3, Rg.FR_CFG.NET_SLOT, 9), (rpBase 3, Rg.RP_STAT.STATE, 2), (macBase 3, Rg.FR_CELL.EN, 1)] : State).laneRefusal 3 = 0 ∧ (put { keyed world 9 with links := [{ testLink with rc := ⟨1, 31, 94, 0, 0, false, false, 13, 0, 5⟩ }, { testLink with rc := ⟨2, 94, 31, 0, 0, false, false, 13, 0, 5⟩ }, { testLink with rc := ⟨3, 31, 82, 0, 0, false, false, 13, 0, 5⟩ }] } [(macBase 3, Rg.FR_CFG.NET_SLOT, 9), (rpBase 3, Rg.RP_STAT.STATE, 2), (macBase 3, Rg.FR_CELL.EN, 1)] : State).liveKey ((put { keyed world 9 with links := [{ testLink with rc := ⟨1, 31, 94, 0, 0, false, false, 13, 0, 5⟩ }, { testLink with rc := ⟨2, 94, 31, 0, 0, false, false, 13, 0, 5⟩ }, { testLink with rc := ⟨3, 31, 82, 0, 0, false, false, 13, 0, 5⟩ }] } [(macBase 3, Rg.FR_CFG.NET_SLOT, 9), (rpBase 3, Rg.RP_STAT.STATE, 2), (macBase 3, Rg.FR_CELL.EN, 1)] : State).get (macBase 3) Rg.FR_CFG.NET_SLOT) = some (⟨List.replicate 32 7, List.replicate 32 1, 0⟩ : Key) := by decide +kernel

theorem witness_RadioPortsAndLanes_5 :
    3 < 8 ∧ (put { world with radio := { world.radio with lanes := listSet world.radio.lanes 3 { (MacLane.off) with reqs := [⟨5, 6, 30, true, [], 0, none, 0⟩] } } } [(macBase 3, Rg.FR_CTRL.EN, 1), (macBase 3, Rg.FR_STAT.RUN, 1)] : State).radio.lanes.length = 8 ∧ mayWriteService (put { world with radio := { world.radio with lanes := listSet world.radio.lanes 3 { (MacLane.off) with reqs := [⟨5, 6, 30, true, [], 0, none, 0⟩] } } } [(macBase 3, Rg.FR_CTRL.EN, 1), (macBase 3, Rg.FR_STAT.RUN, 1)] : State) (.mp : Master) = true ∧ 3 % 2 < (put { world with radio := { world.radio with lanes := listSet world.radio.lanes 3 { (MacLane.off) with reqs := [⟨5, 6, 30, true, [], 0, none, 0⟩] } } } [(macBase 3, Rg.FR_CTRL.EN, 1), (macBase 3, Rg.FR_STAT.RUN, 1)] : State).lanesAt (macPos 3) ∧ (put { world with radio := { world.radio with lanes := listSet world.radio.lanes 3 { (MacLane.off) with reqs := [⟨5, 6, 30, true, [], 0, none, 0⟩] } } } [(macBase 3, Rg.FR_CTRL.EN, 1), (macBase 3, Rg.FR_STAT.RUN, 1)] : State).on (domOf (islandOf (macPos 3))) = true ∧
    (put { world with radio := { world.radio with lanes := listSet world.radio.lanes 3 { (MacLane.off) with reqs := [⟨5, 6, 30, true, [], 0, none, 0⟩] } } } [(macBase 3, Rg.FR_CTRL.EN, 1), (macBase 3, Rg.FR_STAT.RUN, 1)] : State).flag (macBase 3) Rg.FR_CTRL.EN = true := by decide +kernel

theorem witness_RadioPortsAndLanes_6 :
    3 < 8 ∧ (put { world with sec := { world.sec with copies := [⟨31, 1, 9, ⟨[], [], 0⟩, some ⟨[1], [2], 3⟩, false⟩] } } [(macBase 3, Rg.FR_STAT.RUN, 1), (macBase 3, Rg.FR_TXFCNT.FCNT, 77), (entBase 3 7, Rg.MSTAT.STATE, 3)] : State).radio.lanes.length = 8 ∧ (put { world with sec := { world.sec with copies := [⟨31, 1, 9, ⟨[], [], 0⟩, some ⟨[1], [2], 3⟩, false⟩] } } [(macBase 3, Rg.FR_STAT.RUN, 1), (macBase 3, Rg.FR_TXFCNT.FCNT, 77), (entBase 3 7, Rg.MSTAT.STATE, 3)] : State).flag (macBase 3) Rg.FR_STAT.RUN = true ∧ (put { world with sec := { world.sec with copies := [⟨31, 1, 9, ⟨[], [], 0⟩, some ⟨[1], [2], 3⟩, false⟩] } } [(macBase 3, Rg.FR_STAT.RUN, 1), (macBase 3, Rg.FR_TXFCNT.FCNT, 77), (entBase 3 7, Rg.MSTAT.STATE, 3)] : State).keyCopy (macPos 3) (3 % 2) = some (⟨31, 1, 9, ⟨[], [], 0⟩, some ⟨[1], [2], 3⟩, false⟩ : KeyCopy) ∧ (⟨31, 1, 9, ⟨[], [], 0⟩, some ⟨[1], [2], 3⟩, false⟩ : KeyCopy).nxt = some (⟨[1], [2], 3⟩ : Key) ∧ (⟨31, 1, 9, ⟨[], [], 0⟩, some ⟨[1], [2], 3⟩, false⟩ : KeyCopy).gone = false ∧ (put { world with sec := { world.sec with copies := [⟨31, 1, 9, ⟨[], [], 0⟩, some ⟨[1], [2], 3⟩, false⟩] } } [(macBase 3, Rg.FR_STAT.RUN, 1), (macBase 3, Rg.FR_TXFCNT.FCNT, 77), (entBase 3 7, Rg.MSTAT.STATE, 3)] : State).asn % 10 = 0 ∧ (put { world with sec := { world.sec with copies := [⟨31, 1, 9, ⟨[], [], 0⟩, some ⟨[1], [2], 3⟩, false⟩] } } [(macBase 3, Rg.FR_STAT.RUN, 1), (macBase 3, Rg.FR_TXFCNT.FCNT, 77), (entBase 3 7, Rg.MSTAT.STATE, 3)] : State).slotPhase < 5 ∧
    (put { world with sec := { world.sec with copies := [⟨31, 1, 9, ⟨[], [], 0⟩, some ⟨[1], [2], 3⟩, false⟩] } } [(macBase 3, Rg.FR_STAT.RUN, 1), (macBase 3, Rg.FR_TXFCNT.FCNT, 77), (entBase 3 7, Rg.MSTAT.STATE, 3)] : State).sec.copies.all (fun y => !y.gone) = true := by decide +kernel

theorem witness_SlotsAndFramesRun_1 :
    3 < 8 ∧ (put { world with time := { world.time with ns := 1900000 }, radio := { world.radio with lanes := listSet world.radio.lanes 3 ({ (MacLane.off) with stopped := true }) } } [(bMpc, Rg.FS_STAT.LATCHED, 0), (macBase 3, Rg.FR_STAT.RUN, 1)] : State).radio.lanes.length = 8 ∧ 2000000 = (put { world with time := { world.time with ns := 1900000 }, radio := { world.radio with lanes := listSet world.radio.lanes 3 ({ (MacLane.off) with stopped := true }) } } [(bMpc, Rg.FS_STAT.LATCHED, 0), (macBase 3, Rg.FR_STAT.RUN, 1)] : State).slotStart ((put { world with time := { world.time with ns := 1900000 }, radio := { world.radio with lanes := listSet world.radio.lanes 3 ({ (MacLane.off) with stopped := true }) } } [(bMpc, Rg.FS_STAT.LATCHED, 0), (macBase 3, Rg.FR_STAT.RUN, 1)] : State).nowNs + 100000) ∧ (put { world with time := { world.time with ns := 1900000 }, radio := { world.radio with lanes := listSet world.radio.lanes 3 ({ (MacLane.off) with stopped := true }) } } [(bMpc, Rg.FS_STAT.LATCHED, 0), (macBase 3, Rg.FR_STAT.RUN, 1)] : State).nowNs + 100000 - 2000000 < 5 ∧ ((put { world with time := { world.time with ns := 1900000 }, radio := { world.radio with lanes := listSet world.radio.lanes 3 ({ (MacLane.off) with stopped := true }) } } [(bMpc, Rg.FS_STAT.LATCHED, 0), (macBase 3, Rg.FR_STAT.RUN, 1)] : State).mac 3).cut ≠ some ((put { world with time := { world.time with ns := 1900000 }, radio := { world.radio with lanes := listSet world.radio.lanes 3 ({ (MacLane.off) with stopped := true }) } } [(bMpc, Rg.FS_STAT.LATCHED, 0), (macBase 3, Rg.FR_STAT.RUN, 1)] : State).asnAt 2000000) ∧
    (put { world with time := { world.time with ns := 1900000 }, radio := { world.radio with lanes := listSet world.radio.lanes 3 ({ (MacLane.off) with stopped := true }) } } [(bMpc, Rg.FS_STAT.LATCHED, 0), (macBase 3, Rg.FR_STAT.RUN, 1)] : State).flag (macBase 3) Rg.FR_STAT.RUN = true ∧ ((put { world with time := { world.time with ns := 1900000 }, radio := { world.radio with lanes := listSet world.radio.lanes 3 ({ (MacLane.off) with stopped := true }) } } [(bMpc, Rg.FS_STAT.LATCHED, 0), (macBase 3, Rg.FR_STAT.RUN, 1)] : State).mac 3).waiting = none ∧ ((put { world with time := { world.time with ns := 1900000 }, radio := { world.radio with lanes := listSet world.radio.lanes 3 ({ (MacLane.off) with stopped := true }) } } [(bMpc, Rg.FS_STAT.LATCHED, 0), (macBase 3, Rg.FR_STAT.RUN, 1)] : State).mac 3).agreed = [] ∧ (put { world with time := { world.time with ns := 1900000 }, radio := { world.radio with lanes := listSet world.radio.lanes 3 ({ (MacLane.off) with stopped := true }) } } [(bMpc, Rg.FS_STAT.LATCHED, 0), (macBase 3, Rg.FR_STAT.RUN, 1)] : State).flag bMpc Rg.FS_STAT.LATCHED = false := by decide +kernel

theorem witness_SlotsAndFramesRun_2 :
    3 < 8 ∧ (put { (keyedCopy world 31 1 9) with time := { world.time with ns := 1900000 } } [(macBase 3, Rg.FR_CFG.NET_SLOT, 9), (macBase 3, Rg.FR_STAT.RUN, 1), (rpBase 3, Rg.RP_STAT.STATE, 2), (rpBase 3, Rg.RP_CFG.RATE, 2000), (bMpc, Rg.FS_STAT.LATCHED, 1), (bMpc, Rg.FS_CAUSE.STOP_ID, 5)] : State).radio.lanes.length = 8 ∧ 2000000 = (put { (keyedCopy world 31 1 9) with time := { world.time with ns := 1900000 } } [(macBase 3, Rg.FR_CFG.NET_SLOT, 9), (macBase 3, Rg.FR_STAT.RUN, 1), (rpBase 3, Rg.RP_STAT.STATE, 2), (rpBase 3, Rg.RP_CFG.RATE, 2000), (bMpc, Rg.FS_STAT.LATCHED, 1), (bMpc, Rg.FS_CAUSE.STOP_ID, 5)] : State).slotStart ((put { (keyedCopy world 31 1 9) with time := { world.time with ns := 1900000 } } [(macBase 3, Rg.FR_CFG.NET_SLOT, 9), (macBase 3, Rg.FR_STAT.RUN, 1), (rpBase 3, Rg.RP_STAT.STATE, 2), (rpBase 3, Rg.RP_CFG.RATE, 2000), (bMpc, Rg.FS_STAT.LATCHED, 1), (bMpc, Rg.FS_CAUSE.STOP_ID, 5)] : State).nowNs + 100000) ∧ (put { (keyedCopy world 31 1 9) with time := { world.time with ns := 1900000 } } [(macBase 3, Rg.FR_CFG.NET_SLOT, 9), (macBase 3, Rg.FR_STAT.RUN, 1), (rpBase 3, Rg.RP_STAT.STATE, 2), (rpBase 3, Rg.RP_CFG.RATE, 2000), (bMpc, Rg.FS_STAT.LATCHED, 1), (bMpc, Rg.FS_CAUSE.STOP_ID, 5)] : State).nowNs + 100000 - 2000000 < 5 ∧ ((put { (keyedCopy world 31 1 9) with time := { world.time with ns := 1900000 } } [(macBase 3, Rg.FR_CFG.NET_SLOT, 9), (macBase 3, Rg.FR_STAT.RUN, 1), (rpBase 3, Rg.RP_STAT.STATE, 2), (rpBase 3, Rg.RP_CFG.RATE, 2000), (bMpc, Rg.FS_STAT.LATCHED, 1), (bMpc, Rg.FS_CAUSE.STOP_ID, 5)] : State).mac 3).cut ≠ some ((put { (keyedCopy world 31 1 9) with time := { world.time with ns := 1900000 } } [(macBase 3, Rg.FR_CFG.NET_SLOT, 9), (macBase 3, Rg.FR_STAT.RUN, 1), (rpBase 3, Rg.RP_STAT.STATE, 2), (rpBase 3, Rg.RP_CFG.RATE, 2000), (bMpc, Rg.FS_STAT.LATCHED, 1), (bMpc, Rg.FS_CAUSE.STOP_ID, 5)] : State).asnAt 2000000) ∧
    (put { (keyedCopy world 31 1 9) with time := { world.time with ns := 1900000 } } [(macBase 3, Rg.FR_CFG.NET_SLOT, 9), (macBase 3, Rg.FR_STAT.RUN, 1), (rpBase 3, Rg.RP_STAT.STATE, 2), (rpBase 3, Rg.RP_CFG.RATE, 2000), (bMpc, Rg.FS_STAT.LATCHED, 1), (bMpc, Rg.FS_CAUSE.STOP_ID, 5)] : State).flag (macBase 3) Rg.FR_STAT.RUN = true ∧ ((put { (keyedCopy world 31 1 9) with time := { world.time with ns := 1900000 } } [(macBase 3, Rg.FR_CFG.NET_SLOT, 9), (macBase 3, Rg.FR_STAT.RUN, 1), (rpBase 3, Rg.RP_STAT.STATE, 2), (rpBase 3, Rg.RP_CFG.RATE, 2000), (bMpc, Rg.FS_STAT.LATCHED, 1), (bMpc, Rg.FS_CAUSE.STOP_ID, 5)] : State).mac 3).waiting = none ∧ ((put { (keyedCopy world 31 1 9) with time := { world.time with ns := 1900000 } } [(macBase 3, Rg.FR_CFG.NET_SLOT, 9), (macBase 3, Rg.FR_STAT.RUN, 1), (rpBase 3, Rg.RP_STAT.STATE, 2), (rpBase 3, Rg.RP_CFG.RATE, 2000), (bMpc, Rg.FS_STAT.LATCHED, 1), (bMpc, Rg.FS_CAUSE.STOP_ID, 5)] : State).mac 3).agreed = [] ∧ (put { (keyedCopy world 31 1 9) with time := { world.time with ns := 1900000 } } [(macBase 3, Rg.FR_CFG.NET_SLOT, 9), (macBase 3, Rg.FR_STAT.RUN, 1), (rpBase 3, Rg.RP_STAT.STATE, 2), (rpBase 3, Rg.RP_CFG.RATE, 2000), (bMpc, Rg.FS_STAT.LATCHED, 1), (bMpc, Rg.FS_CAUSE.STOP_ID, 5)] : State).flag bMpc Rg.FS_STAT.LATCHED = true ∧ ((put { (keyedCopy world 31 1 9) with time := { world.time with ns := 1900000 } } [(macBase 3, Rg.FR_CFG.NET_SLOT, 9), (macBase 3, Rg.FR_STAT.RUN, 1), (rpBase 3, Rg.RP_STAT.STATE, 2), (rpBase 3, Rg.RP_CFG.RATE, 2000), (bMpc, Rg.FS_STAT.LATCHED, 1), (bMpc, Rg.FS_CAUSE.STOP_ID, 5)] : State).mac 3).silent ≤ 2000000 ∧
    ((put { (keyedCopy world 31 1 9) with time := { world.time with ns := 1900000 } } [(macBase 3, Rg.FR_CFG.NET_SLOT, 9), (macBase 3, Rg.FR_STAT.RUN, 1), (rpBase 3, Rg.RP_STAT.STATE, 2), (rpBase 3, Rg.RP_CFG.RATE, 2000), (bMpc, Rg.FS_STAT.LATCHED, 1), (bMpc, Rg.FS_CAUSE.STOP_ID, 5)] : State).sendKey 3).isSome = true ∧ (put { (keyedCopy world 31 1 9) with time := { world.time with ns := 1900000 } } [(macBase 3, Rg.FR_CFG.NET_SLOT, 9), (macBase 3, Rg.FR_STAT.RUN, 1), (rpBase 3, Rg.RP_STAT.STATE, 2), (rpBase 3, Rg.RP_CFG.RATE, 2000), (bMpc, Rg.FS_STAT.LATCHED, 1), (bMpc, Rg.FS_CAUSE.STOP_ID, 5)] : State).airtime 3 48 ≤ 1880 ∧ (put { (keyedCopy world 31 1 9) with time := { world.time with ns := 1900000 } } [(macBase 3, Rg.FR_CFG.NET_SLOT, 9), (macBase 3, Rg.FR_STAT.RUN, 1), (rpBase 3, Rg.RP_STAT.STATE, 2), (rpBase 3, Rg.RP_CFG.RATE, 2000), (bMpc, Rg.FS_STAT.LATCHED, 1), (bMpc, Rg.FS_CAUSE.STOP_ID, 5)] : State).slotStart (2000000 + 20000) = 2000000 := by decide +kernel

theorem witness_SlotsAndFramesRun_3 :
    3 < 8 ∧ (put (keyedCopy world 31 1 9) [(bMpc, Rg.FS_STAT.LATCHED, 0), (rpBase 3, Rg.RP_CFG.RATE, 2000), (macBase 3, Rg.FR_CFG.NET_SLOT, 9), (macBase 3, Rg.FR_STAT.RUN, 1), (rpBase 3, Rg.RP_STAT.STATE, 2)] : State).radio.lanes.length = 8 ∧ (put (keyedCopy world 31 1 9) [(bMpc, Rg.FS_STAT.LATCHED, 0), (rpBase 3, Rg.RP_CFG.RATE, 2000), (macBase 3, Rg.FR_CFG.NET_SLOT, 9), (macBase 3, Rg.FR_STAT.RUN, 1), (rpBase 3, Rg.RP_STAT.STATE, 2)] : State).flag (macBase 3) Rg.FR_STAT.RUN = true ∧ (put (keyedCopy world 31 1 9) [(bMpc, Rg.FS_STAT.LATCHED, 0), (rpBase 3, Rg.RP_CFG.RATE, 2000), (macBase 3, Rg.FR_CFG.NET_SLOT, 9), (macBase 3, Rg.FR_STAT.RUN, 1), (rpBase 3, Rg.RP_STAT.STATE, 2)] : State).portRuns 3 = true ∧ 0 ≠ 0xFF ∧ bitOf 2 0 = false ∧ (put (keyedCopy world 31 1 9) [(bMpc, Rg.FS_STAT.LATCHED, 0), (rpBase 3, Rg.RP_CFG.RATE, 2000), (macBase 3, Rg.FR_CFG.NET_SLOT, 9), (macBase 3, Rg.FR_STAT.RUN, 1), (rpBase 3, Rg.RP_STAT.STATE, 2)] : State).asn % 10 = 0 ∧
    (put (keyedCopy world 31 1 9) [(bMpc, Rg.FS_STAT.LATCHED, 0), (rpBase 3, Rg.RP_CFG.RATE, 2000), (macBase 3, Rg.FR_CFG.NET_SLOT, 9), (macBase 3, Rg.FR_STAT.RUN, 1), (rpBase 3, Rg.RP_STAT.STATE, 2)] : State).slotPhase < 5 ∧ ((put (keyedCopy world 31 1 9) [(bMpc, Rg.FS_STAT.LATCHED, 0), (rpBase 3, Rg.RP_CFG.RATE, 2000), (macBase 3, Rg.FR_CFG.NET_SLOT, 9), (macBase 3, Rg.FR_STAT.RUN, 1), (rpBase 3, Rg.RP_STAT.STATE, 2)] : State).mac 3).slot ≠ some (put (keyedCopy world 31 1 9) [(bMpc, Rg.FS_STAT.LATCHED, 0), (rpBase 3, Rg.RP_CFG.RATE, 2000), (macBase 3, Rg.FR_CFG.NET_SLOT, 9), (macBase 3, Rg.FR_STAT.RUN, 1), (rpBase 3, Rg.RP_STAT.STATE, 2)] : State).asn ∧ 0 = (put (keyedCopy world 31 1 9) [(bMpc, Rg.FS_STAT.LATCHED, 0), (rpBase 3, Rg.RP_CFG.RATE, 2000), (macBase 3, Rg.FR_CFG.NET_SLOT, 9), (macBase 3, Rg.FR_STAT.RUN, 1), (rpBase 3, Rg.RP_STAT.STATE, 2)] : State).slotStart (put (keyedCopy world 31 1 9) [(bMpc, Rg.FS_STAT.LATCHED, 0), (rpBase 3, Rg.RP_CFG.RATE, 2000), (macBase 3, Rg.FR_CFG.NET_SLOT, 9), (macBase 3, Rg.FR_STAT.RUN, 1), (rpBase 3, Rg.RP_STAT.STATE, 2)] : State).nowNs ∧ (put (keyedCopy world 31 1 9) [(bMpc, Rg.FS_STAT.LATCHED, 0), (rpBase 3, Rg.RP_CFG.RATE, 2000), (macBase 3, Rg.FR_CFG.NET_SLOT, 9), (macBase 3, Rg.FR_STAT.RUN, 1), (rpBase 3, Rg.RP_STAT.STATE, 2)] : State).slotStart (0 + 300000) = 0 ∧ (put (keyedCopy world 31 1 9) [(bMpc, Rg.FS_STAT.LATCHED, 0), (rpBase 3, Rg.RP_CFG.RATE, 2000), (macBase 3, Rg.FR_CFG.NET_SLOT, 9), (macBase 3, Rg.FR_STAT.RUN, 1), (rpBase 3, Rg.RP_STAT.STATE, 2)] : State).airtime 3 35 ≤ 1600 ∧
    ((put (keyedCopy world 31 1 9) [(bMpc, Rg.FS_STAT.LATCHED, 0), (rpBase 3, Rg.RP_CFG.RATE, 2000), (macBase 3, Rg.FR_CFG.NET_SLOT, 9), (macBase 3, Rg.FR_STAT.RUN, 1), (rpBase 3, Rg.RP_STAT.STATE, 2)] : State).mac 3).silent ≤ 0 ∧ ((put (keyedCopy world 31 1 9) [(bMpc, Rg.FS_STAT.LATCHED, 0), (rpBase 3, Rg.RP_CFG.RATE, 2000), (macBase 3, Rg.FR_CFG.NET_SLOT, 9), (macBase 3, Rg.FR_STAT.RUN, 1), (rpBase 3, Rg.RP_STAT.STATE, 2)] : State).mac 3).stopped = false ∧ (put (keyedCopy world 31 1 9) [(bMpc, Rg.FS_STAT.LATCHED, 0), (rpBase 3, Rg.RP_CFG.RATE, 2000), (macBase 3, Rg.FR_CFG.NET_SLOT, 9), (macBase 3, Rg.FR_STAT.RUN, 1), (rpBase 3, Rg.RP_STAT.STATE, 2)] : State).flag bMpc Rg.FS_STAT.LATCHED = false ∧ (put (keyedCopy world 31 1 9) [(bMpc, Rg.FS_STAT.LATCHED, 0), (rpBase 3, Rg.RP_CFG.RATE, 2000), (macBase 3, Rg.FR_CFG.NET_SLOT, 9), (macBase 3, Rg.FR_STAT.RUN, 1), (rpBase 3, Rg.RP_STAT.STATE, 2)] : State).sendKey 3 = some (⟨List.replicate 32 7, List.replicate 32 1, 0⟩ : Key) ∧ (put (keyedCopy world 31 1 9) [(bMpc, Rg.FS_STAT.LATCHED, 0), (rpBase 3, Rg.RP_CFG.RATE, 2000), (macBase 3, Rg.FR_CFG.NET_SLOT, 9), (macBase 3, Rg.FR_STAT.RUN, 1), (rpBase 3, Rg.RP_STAT.STATE, 2)] : State).keyCopy (macPos 3) (3 % 2) = some (⟨31, 1, 9, ⟨List.replicate 32 7, List.replicate 32 1, 0⟩, none, false⟩ : KeyCopy) ∧ (⟨31, 1, 9, ⟨List.replicate 32 7, List.replicate 32 1, 0⟩, none, false⟩ : KeyCopy).nxt = none := by decide +kernel

theorem witness_SlotsAndFramesRun_4 :
    3 < 8 ∧ (put { world with time := { world.time with ns := 4000000 }, radio := { world.radio with lanes := listSet world.radio.lanes 3 ({ (MacLane.off) with cells := [0x285] }) } } [(bMpc, Rg.FS_STAT.LATCHED, 0), (macBase 3, Rg.FR_STAT.RUN, 1), (rpBase 3, Rg.RP_STAT.STATE, 2), (entBase 3 5, Rg.MSTAT.STATE, 3), (entBase 3 5, Rg.MCAP.CAP, 2 ^ 56)] : State).radio.lanes.length = 8 ∧ (put { world with time := { world.time with ns := 4000000 }, radio := { world.radio with lanes := listSet world.radio.lanes 3 ({ (MacLane.off) with cells := [0x285] }) } } [(bMpc, Rg.FS_STAT.LATCHED, 0), (macBase 3, Rg.FR_STAT.RUN, 1), (rpBase 3, Rg.RP_STAT.STATE, 2), (entBase 3 5, Rg.MSTAT.STATE, 3), (entBase 3 5, Rg.MCAP.CAP, 2 ^ 56)] : State).flag (macBase 3) Rg.FR_STAT.RUN = true ∧ (put { world with time := { world.time with ns := 4000000 }, radio := { world.radio with lanes := listSet world.radio.lanes 3 ({ (MacLane.off) with cells := [0x285] }) } } [(bMpc, Rg.FS_STAT.LATCHED, 0), (macBase 3, Rg.FR_STAT.RUN, 1), (rpBase 3, Rg.RP_STAT.STATE, 2), (entBase 3 5, Rg.MSTAT.STATE, 3), (entBase 3 5, Rg.MCAP.CAP, 2 ^ 56)] : State).portRuns 3 = true ∧ 0 ≠ 0xFF ∧ bitOf 2 0 = false ∧ 2 ≤ (put { world with time := { world.time with ns := 4000000 }, radio := { world.radio with lanes := listSet world.radio.lanes 3 ({ (MacLane.off) with cells := [0x285] }) } } [(bMpc, Rg.FS_STAT.LATCHED, 0), (macBase 3, Rg.FR_STAT.RUN, 1), (rpBase 3, Rg.RP_STAT.STATE, 2), (entBase 3 5, Rg.MSTAT.STATE, 3), (entBase 3 5, Rg.MCAP.CAP, 2 ^ 56)] : State).asn % 10 ∧
    (put { world with time := { world.time with ns := 4000000 }, radio := { world.radio with lanes := listSet world.radio.lanes 3 ({ (MacLane.off) with cells := [0x285] }) } } [(bMpc, Rg.FS_STAT.LATCHED, 0), (macBase 3, Rg.FR_STAT.RUN, 1), (rpBase 3, Rg.RP_STAT.STATE, 2), (entBase 3 5, Rg.MSTAT.STATE, 3), (entBase 3 5, Rg.MCAP.CAP, 2 ^ 56)] : State).slotPhase < 5 ∧ ((put { world with time := { world.time with ns := 4000000 }, radio := { world.radio with lanes := listSet world.radio.lanes 3 ({ (MacLane.off) with cells := [0x285] }) } } [(bMpc, Rg.FS_STAT.LATCHED, 0), (macBase 3, Rg.FR_STAT.RUN, 1), (rpBase 3, Rg.RP_STAT.STATE, 2), (entBase 3 5, Rg.MSTAT.STATE, 3), (entBase 3 5, Rg.MCAP.CAP, 2 ^ 56)] : State).mac 3).slot ≠ some (put { world with time := { world.time with ns := 4000000 }, radio := { world.radio with lanes := listSet world.radio.lanes 3 ({ (MacLane.off) with cells := [0x285] }) } } [(bMpc, Rg.FS_STAT.LATCHED, 0), (macBase 3, Rg.FR_STAT.RUN, 1), (rpBase 3, Rg.RP_STAT.STATE, 2), (entBase 3 5, Rg.MSTAT.STATE, 3), (entBase 3 5, Rg.MCAP.CAP, 2 ^ 56)] : State).asn ∧ 4000000 = (put { world with time := { world.time with ns := 4000000 }, radio := { world.radio with lanes := listSet world.radio.lanes 3 ({ (MacLane.off) with cells := [0x285] }) } } [(bMpc, Rg.FS_STAT.LATCHED, 0), (macBase 3, Rg.FR_STAT.RUN, 1), (rpBase 3, Rg.RP_STAT.STATE, 2), (entBase 3 5, Rg.MSTAT.STATE, 3), (entBase 3 5, Rg.MCAP.CAP, 2 ^ 56)] : State).slotStart (put { world with time := { world.time with ns := 4000000 }, radio := { world.radio with lanes := listSet world.radio.lanes 3 ({ (MacLane.off) with cells := [0x285] }) } } [(bMpc, Rg.FS_STAT.LATCHED, 0), (macBase 3, Rg.FR_STAT.RUN, 1), (rpBase 3, Rg.RP_STAT.STATE, 2), (entBase 3 5, Rg.MSTAT.STATE, 3), (entBase 3 5, Rg.MCAP.CAP, 2 ^ 56)] : State).nowNs ∧ ((put { world with time := { world.time with ns := 4000000 }, radio := { world.radio with lanes := listSet world.radio.lanes 3 ({ (MacLane.off) with cells := [0x285] }) } } [(bMpc, Rg.FS_STAT.LATCHED, 0), (macBase 3, Rg.FR_STAT.RUN, 1), (rpBase 3, Rg.RP_STAT.STATE, 2), (entBase 3 5, Rg.MSTAT.STATE, 3), (entBase 3 5, Rg.MCAP.CAP, 2 ^ 56)] : State).mac 3).silent ≤ 4000000 ∧ ((put { world with time := { world.time with ns := 4000000 }, radio := { world.radio with lanes := listSet world.radio.lanes 3 ({ (MacLane.off) with cells := [0x285] }) } } [(bMpc, Rg.FS_STAT.LATCHED, 0), (macBase 3, Rg.FR_STAT.RUN, 1), (rpBase 3, Rg.RP_STAT.STATE, 2), (entBase 3 5, Rg.MSTAT.STATE, 3), (entBase 3 5, Rg.MCAP.CAP, 2 ^ 56)] : State).mac 3).stopped = false ∧ (put { world with time := { world.time with ns := 4000000 }, radio := { world.radio with lanes := listSet world.radio.lanes 3 ({ (MacLane.off) with cells := [0x285] }) } } [(bMpc, Rg.FS_STAT.LATCHED, 0), (macBase 3, Rg.FR_STAT.RUN, 1), (rpBase 3, Rg.RP_STAT.STATE, 2), (entBase 3 5, Rg.MSTAT.STATE, 3), (entBase 3 5, Rg.MCAP.CAP, 2 ^ 56)] : State).flag bMpc Rg.FS_STAT.LATCHED = false ∧
    ((put { world with time := { world.time with ns := 4000000 }, radio := { world.radio with lanes := listSet world.radio.lanes 3 ({ (MacLane.off) with cells := [0x285] }) } } [(bMpc, Rg.FS_STAT.LATCHED, 0), (macBase 3, Rg.FR_STAT.RUN, 1), (rpBase 3, Rg.RP_STAT.STATE, 2), (entBase 3 5, Rg.MSTAT.STATE, 3), (entBase 3 5, Rg.MCAP.CAP, 2 ^ 56)] : State).mac 3).cells.filter (fun y => cellIn y (put { world with time := { world.time with ns := 4000000 }, radio := { world.radio with lanes := listSet world.radio.lanes 3 ({ (MacLane.off) with cells := [0x285] }) } } [(bMpc, Rg.FS_STAT.LATCHED, 0), (macBase 3, Rg.FR_STAT.RUN, 1), (rpBase 3, Rg.RP_STAT.STATE, 2), (entBase 3 5, Rg.MSTAT.STATE, 3), (entBase 3 5, Rg.MCAP.CAP, 2 ^ 56)] : State).asn) = [(0x285 : Nat)] ∧ cellDir (0x285 : Nat) = 0 ∧ (put { world with time := { world.time with ns := 4000000 }, radio := { world.radio with lanes := listSet world.radio.lanes 3 ({ (MacLane.off) with cells := [0x285] }) } } [(bMpc, Rg.FS_STAT.LATCHED, 0), (macBase 3, Rg.FR_STAT.RUN, 1), (rpBase 3, Rg.RP_STAT.STATE, 2), (entBase 3 5, Rg.MSTAT.STATE, 3), (entBase 3 5, Rg.MCAP.CAP, 2 ^ 56)] : State).covered 3 4000000 = false := by decide +kernel

theorem witness_SlotsAndFramesRun_5 :
    3 < 8 ∧ (put world [(macBase 3, Rg.FR_STAT.RUN, 1), (rpBase 3, Rg.RP_STAT.STATE, 2)] : State).flag (macBase 3) Rg.FR_STAT.RUN = true ∧ (put world [(macBase 3, Rg.FR_STAT.RUN, 1), (rpBase 3, Rg.RP_STAT.STATE, 2)] : State).portRuns 3 = true := by decide +kernel

theorem witness_SlotsAndFramesRun_6 :
    3 < 8 ∧ (put { (keyedCopy world 31 1 9) with time := { world.time with ns := 4700000 }, radio := { world.radio with lanes := listSet world.radio.lanes 3 ({ (MacLane.off) with cells := [0x385], shr := some 4300000 }) } } [(macBase 3, Rg.FR_CFG.NET_SLOT, 9), (macBase 3, Rg.FR_STAT.RUN, 1), (rpBase 3, Rg.RP_STAT.STATE, 2), (entBase 3 7, Rg.MCFG.PROV, 1), (entBase 3 7, Rg.MID.EUI, 99), (entBase 3 7, Rg.MSTAT.STATE, 3), (entBase 3 7, Rg.MSTAT.WIDEN, 2)] : State).radio.lanes.length = 8 ∧ (put { (keyedCopy world 31 1 9) with time := { world.time with ns := 4700000 }, radio := { world.radio with lanes := listSet world.radio.lanes 3 ({ (MacLane.off) with cells := [0x385], shr := some 4300000 }) } } [(macBase 3, Rg.FR_CFG.NET_SLOT, 9), (macBase 3, Rg.FR_STAT.RUN, 1), (rpBase 3, Rg.RP_STAT.STATE, 2), (entBase 3 7, Rg.MCFG.PROV, 1), (entBase 3 7, Rg.MID.EUI, 99), (entBase 3 7, Rg.MSTAT.STATE, 3), (entBase 3 7, Rg.MSTAT.WIDEN, 2)] : State).flag (macBase 3) Rg.FR_STAT.RUN = true ∧ (put { (keyedCopy world 31 1 9) with time := { world.time with ns := 4700000 }, radio := { world.radio with lanes := listSet world.radio.lanes 3 ({ (MacLane.off) with cells := [0x385], shr := some 4300000 }) } } [(macBase 3, Rg.FR_CFG.NET_SLOT, 9), (macBase 3, Rg.FR_STAT.RUN, 1), (rpBase 3, Rg.RP_STAT.STATE, 2), (entBase 3 7, Rg.MCFG.PROV, 1), (entBase 3 7, Rg.MID.EUI, 99), (entBase 3 7, Rg.MSTAT.STATE, 3), (entBase 3 7, Rg.MSTAT.WIDEN, 2)] : State).portRuns 3 = true ∧ ((put { (keyedCopy world 31 1 9) with time := { world.time with ns := 4700000 }, radio := { world.radio with lanes := listSet world.radio.lanes 3 ({ (MacLane.off) with cells := [0x385], shr := some 4300000 }) } } [(macBase 3, Rg.FR_CFG.NET_SLOT, 9), (macBase 3, Rg.FR_STAT.RUN, 1), (rpBase 3, Rg.RP_STAT.STATE, 2), (entBase 3 7, Rg.MCFG.PROV, 1), (entBase 3 7, Rg.MID.EUI, 99), (entBase 3 7, Rg.MSTAT.STATE, 3), (entBase 3 7, Rg.MSTAT.WIDEN, 2)] : State).mac 3).shr = some 4300000 ∧ leAt (([0x32, 0, 0, 7, 0xFE, 1, 9, 0, 0, 0] ++ ccmFrame (Key.bytes ⟨List.replicate 32 7, List.replicate 32 1, 0⟩) (frameNonce 99 9 0x32) [0x32, 0, 0, 7, 0xFE, 1, 9, 0, 0, 0] [5, 6] 8 true) : List Byte) 0 1 = 0x32 ∧ leAt (([0x32, 0, 0, 7, 0xFE, 1, 9, 0, 0, 0] ++ ccmFrame (Key.bytes ⟨List.replicate 32 7, List.replicate 32 1, 0⟩) (frameNonce 99 9 0x32) [0x32, 0, 0, 7, 0xFE, 1, 9, 0, 0, 0] [5, 6] 8 true) : List Byte) 1 2 = (put { (keyedCopy world 31 1 9) with time := { world.time with ns := 4700000 }, radio := { world.radio with lanes := listSet world.radio.lanes 3 ({ (MacLane.off) with cells := [0x385], shr := some 4300000 }) } } [(macBase 3, Rg.FR_CFG.NET_SLOT, 9), (macBase 3, Rg.FR_STAT.RUN, 1), (rpBase 3, Rg.RP_STAT.STATE, 2), (entBase 3 7, Rg.MCFG.PROV, 1), (entBase 3 7, Rg.MID.EUI, 99), (entBase 3 7, Rg.MSTAT.STATE, 3), (entBase 3 7, Rg.MSTAT.WIDEN, 2)] : State).get (macBase 3) Rg.FR_CFG.NET ∧ leAt (([0x32, 0, 0, 7, 0xFE, 1, 9, 0, 0, 0] ++ ccmFrame (Key.bytes ⟨List.replicate 32 7, List.replicate 32 1, 0⟩) (frameNonce 99 9 0x32) [0x32, 0, 0, 7, 0xFE, 1, 9, 0, 0, 0] [5, 6] 8 true) : List Byte) 3 1 = 7 ∧ leAt (([0x32, 0, 0, 7, 0xFE, 1, 9, 0, 0, 0] ++ ccmFrame (Key.bytes ⟨List.replicate 32 7, List.replicate 32 1, 0⟩) (frameNonce 99 9 0x32) [0x32, 0, 0, 7, 0xFE, 1, 9, 0, 0, 0] [5, 6] 8 true) : List Byte) 4 1 = 0xFE ∧
    7 < 32 ∧ (put { (keyedCopy world 31 1 9) with time := { world.time with ns := 4700000 }, radio := { world.radio with lanes := listSet world.radio.lanes 3 ({ (MacLane.off) with cells := [0x385], shr := some 4300000 }) } } [(macBase 3, Rg.FR_CFG.NET_SLOT, 9), (macBase 3, Rg.FR_STAT.RUN, 1), (rpBase 3, Rg.RP_STAT.STATE, 2), (entBase 3 7, Rg.MCFG.PROV, 1), (entBase 3 7, Rg.MID.EUI, 99), (entBase 3 7, Rg.MSTAT.STATE, 3), (entBase 3 7, Rg.MSTAT.WIDEN, 2)] : State).netOpen 3 (([0x32, 0, 0, 7, 0xFE, 1, 9, 0, 0, 0] ++ ccmFrame (Key.bytes ⟨List.replicate 32 7, List.replicate 32 1, 0⟩) (frameNonce 99 9 0x32) [0x32, 0, 0, 7, 0xFE, 1, 9, 0, 0, 0] [5, 6] 8 true) : List Byte) = some ([5, 6] : List Byte) ∧ (put { (keyedCopy world 31 1 9) with time := { world.time with ns := 4700000 }, radio := { world.radio with lanes := listSet world.radio.lanes 3 ({ (MacLane.off) with cells := [0x385], shr := some 4300000 }) } } [(macBase 3, Rg.FR_CFG.NET_SLOT, 9), (macBase 3, Rg.FR_STAT.RUN, 1), (rpBase 3, Rg.RP_STAT.STATE, 2), (entBase 3 7, Rg.MCFG.PROV, 1), (entBase 3 7, Rg.MID.EUI, 99), (entBase 3 7, Rg.MSTAT.STATE, 3), (entBase 3 7, Rg.MSTAT.WIDEN, 2)] : State).upWindow 3 7 4300000 = some ((4000000, 0x385) : Nat × Nat) ∧ (put { (keyedCopy world 31 1 9) with time := { world.time with ns := 4700000 }, radio := { world.radio with lanes := listSet world.radio.lanes 3 ({ (MacLane.off) with cells := [0x385], shr := some 4300000 }) } } [(macBase 3, Rg.FR_CFG.NET_SLOT, 9), (macBase 3, Rg.FR_STAT.RUN, 1), (rpBase 3, Rg.RP_STAT.STATE, 2), (entBase 3 7, Rg.MCFG.PROV, 1), (entBase 3 7, Rg.MID.EUI, 99), (entBase 3 7, Rg.MSTAT.STATE, 3), (entBase 3 7, Rg.MSTAT.WIDEN, 2)] : State).entState 3 7 = 3 ∧
    (put { (keyedCopy world 31 1 9) with time := { world.time with ns := 4700000 }, radio := { world.radio with lanes := listSet world.radio.lanes 3 ({ (MacLane.off) with cells := [0x385], shr := some 4300000 }) } } [(macBase 3, Rg.FR_CFG.NET_SLOT, 9), (macBase 3, Rg.FR_STAT.RUN, 1), (rpBase 3, Rg.RP_STAT.STATE, 2), (entBase 3 7, Rg.MCFG.PROV, 1), (entBase 3 7, Rg.MID.EUI, 99), (entBase 3 7, Rg.MSTAT.STATE, 3), (entBase 3 7, Rg.MSTAT.WIDEN, 2)] : State).get (entBase 3 7) Rg.MSTAT.RX_FCNT < leAt (([0x32, 0, 0, 7, 0xFE, 1, 9, 0, 0, 0] ++ ccmFrame (Key.bytes ⟨List.replicate 32 7, List.replicate 32 1, 0⟩) (frameNonce 99 9 0x32) [0x32, 0, 0, 7, 0xFE, 1, 9, 0, 0, 0] [5, 6] 8 true) : List Byte) 6 4 ∧ ((put { (keyedCopy world 31 1 9) with time := { world.time with ns := 4700000 }, radio := { world.radio with lanes := listSet world.radio.lanes 3 ({ (MacLane.off) with cells := [0x385], shr := some 4300000 }) } } [(macBase 3, Rg.FR_CFG.NET_SLOT, 9), (macBase 3, Rg.FR_STAT.RUN, 1), (rpBase 3, Rg.RP_STAT.STATE, 2), (entBase 3 7, Rg.MCFG.PROV, 1), (entBase 3 7, Rg.MID.EUI, 99), (entBase 3 7, Rg.MSTAT.STATE, 3), (entBase 3 7, Rg.MSTAT.WIDEN, 2)] : State).mac 3).box = [] ∧ ((put { (keyedCopy world 31 1 9) with time := { world.time with ns := 4700000 }, radio := { world.radio with lanes := listSet world.radio.lanes 3 ({ (MacLane.off) with cells := [0x385], shr := some 4300000 }) } } [(macBase 3, Rg.FR_CFG.NET_SLOT, 9), (macBase 3, Rg.FR_STAT.RUN, 1), (rpBase 3, Rg.RP_STAT.STATE, 2), (entBase 3 7, Rg.MCFG.PROV, 1), (entBase 3 7, Rg.MID.EUI, 99), (entBase 3 7, Rg.MSTAT.STATE, 3), (entBase 3 7, Rg.MSTAT.WIDEN, 2)] : State).linkTo (macPos 3) posDsp).isNone = true := by decide +kernel

theorem witness_SlotsAndFramesRun_7 :
    3 < 8 ∧ (put { (keyedCopy world 31 1 9) with links := [{ testLink with rc := ⟨1, 31, 82, 0, 3, false, false, 13, 0, 5⟩, slots := 4 }], img := { fullImg with areas := [⟨0, 5, 0, 0, 0, 32768, 8192, 4⟩] }, time := { world.time with ns := 4700000 }, radio := { world.radio with lanes := listSet world.radio.lanes 3 ({ (MacLane.off) with cells := [0x385], shr := some 4300000 }) } } [(macBase 3, Rg.FR_CFG.NET_SLOT, 9), (macBase 3, Rg.FR_STAT.RUN, 1), (rpBase 3, Rg.RP_STAT.STATE, 2), (entBase 3 7, Rg.MCFG.PROV, 1), (entBase 3 7, Rg.MID.EUI, 99), (entBase 3 7, Rg.MSTAT.STATE, 3), (entBase 3 7, Rg.MSTAT.WIDEN, 2)] : State).radio.lanes.length = 8 ∧ (put { (keyedCopy world 31 1 9) with links := [{ testLink with rc := ⟨1, 31, 82, 0, 3, false, false, 13, 0, 5⟩, slots := 4 }], img := { fullImg with areas := [⟨0, 5, 0, 0, 0, 32768, 8192, 4⟩] }, time := { world.time with ns := 4700000 }, radio := { world.radio with lanes := listSet world.radio.lanes 3 ({ (MacLane.off) with cells := [0x385], shr := some 4300000 }) } } [(macBase 3, Rg.FR_CFG.NET_SLOT, 9), (macBase 3, Rg.FR_STAT.RUN, 1), (rpBase 3, Rg.RP_STAT.STATE, 2), (entBase 3 7, Rg.MCFG.PROV, 1), (entBase 3 7, Rg.MID.EUI, 99), (entBase 3 7, Rg.MSTAT.STATE, 3), (entBase 3 7, Rg.MSTAT.WIDEN, 2)] : State).flag (macBase 3) Rg.FR_STAT.RUN = true ∧ (put { (keyedCopy world 31 1 9) with links := [{ testLink with rc := ⟨1, 31, 82, 0, 3, false, false, 13, 0, 5⟩, slots := 4 }], img := { fullImg with areas := [⟨0, 5, 0, 0, 0, 32768, 8192, 4⟩] }, time := { world.time with ns := 4700000 }, radio := { world.radio with lanes := listSet world.radio.lanes 3 ({ (MacLane.off) with cells := [0x385], shr := some 4300000 }) } } [(macBase 3, Rg.FR_CFG.NET_SLOT, 9), (macBase 3, Rg.FR_STAT.RUN, 1), (rpBase 3, Rg.RP_STAT.STATE, 2), (entBase 3 7, Rg.MCFG.PROV, 1), (entBase 3 7, Rg.MID.EUI, 99), (entBase 3 7, Rg.MSTAT.STATE, 3), (entBase 3 7, Rg.MSTAT.WIDEN, 2)] : State).portRuns 3 = true ∧ ((put { (keyedCopy world 31 1 9) with links := [{ testLink with rc := ⟨1, 31, 82, 0, 3, false, false, 13, 0, 5⟩, slots := 4 }], img := { fullImg with areas := [⟨0, 5, 0, 0, 0, 32768, 8192, 4⟩] }, time := { world.time with ns := 4700000 }, radio := { world.radio with lanes := listSet world.radio.lanes 3 ({ (MacLane.off) with cells := [0x385], shr := some 4300000 }) } } [(macBase 3, Rg.FR_CFG.NET_SLOT, 9), (macBase 3, Rg.FR_STAT.RUN, 1), (rpBase 3, Rg.RP_STAT.STATE, 2), (entBase 3 7, Rg.MCFG.PROV, 1), (entBase 3 7, Rg.MID.EUI, 99), (entBase 3 7, Rg.MSTAT.STATE, 3), (entBase 3 7, Rg.MSTAT.WIDEN, 2)] : State).mac 3).shr = some 4300000 ∧ leAt (([0x32, 0, 0, 7, 0xFE, 1, 9, 0, 0, 0] ++ ccmFrame (Key.bytes ⟨List.replicate 32 7, List.replicate 32 1, 0⟩) (frameNonce 99 9 0x32) [0x32, 0, 0, 7, 0xFE, 1, 9, 0, 0, 0] [5, 6] 8 true) : List Byte) 0 1 = 0x32 ∧ leAt (([0x32, 0, 0, 7, 0xFE, 1, 9, 0, 0, 0] ++ ccmFrame (Key.bytes ⟨List.replicate 32 7, List.replicate 32 1, 0⟩) (frameNonce 99 9 0x32) [0x32, 0, 0, 7, 0xFE, 1, 9, 0, 0, 0] [5, 6] 8 true) : List Byte) 1 2 = (put { (keyedCopy world 31 1 9) with links := [{ testLink with rc := ⟨1, 31, 82, 0, 3, false, false, 13, 0, 5⟩, slots := 4 }], img := { fullImg with areas := [⟨0, 5, 0, 0, 0, 32768, 8192, 4⟩] }, time := { world.time with ns := 4700000 }, radio := { world.radio with lanes := listSet world.radio.lanes 3 ({ (MacLane.off) with cells := [0x385], shr := some 4300000 }) } } [(macBase 3, Rg.FR_CFG.NET_SLOT, 9), (macBase 3, Rg.FR_STAT.RUN, 1), (rpBase 3, Rg.RP_STAT.STATE, 2), (entBase 3 7, Rg.MCFG.PROV, 1), (entBase 3 7, Rg.MID.EUI, 99), (entBase 3 7, Rg.MSTAT.STATE, 3), (entBase 3 7, Rg.MSTAT.WIDEN, 2)] : State).get (macBase 3) Rg.FR_CFG.NET ∧ leAt (([0x32, 0, 0, 7, 0xFE, 1, 9, 0, 0, 0] ++ ccmFrame (Key.bytes ⟨List.replicate 32 7, List.replicate 32 1, 0⟩) (frameNonce 99 9 0x32) [0x32, 0, 0, 7, 0xFE, 1, 9, 0, 0, 0] [5, 6] 8 true) : List Byte) 3 1 = 7 ∧ leAt (([0x32, 0, 0, 7, 0xFE, 1, 9, 0, 0, 0] ++ ccmFrame (Key.bytes ⟨List.replicate 32 7, List.replicate 32 1, 0⟩) (frameNonce 99 9 0x32) [0x32, 0, 0, 7, 0xFE, 1, 9, 0, 0, 0] [5, 6] 8 true) : List Byte) 4 1 = 0xFE ∧
    7 < 32 ∧ (put { (keyedCopy world 31 1 9) with links := [{ testLink with rc := ⟨1, 31, 82, 0, 3, false, false, 13, 0, 5⟩, slots := 4 }], img := { fullImg with areas := [⟨0, 5, 0, 0, 0, 32768, 8192, 4⟩] }, time := { world.time with ns := 4700000 }, radio := { world.radio with lanes := listSet world.radio.lanes 3 ({ (MacLane.off) with cells := [0x385], shr := some 4300000 }) } } [(macBase 3, Rg.FR_CFG.NET_SLOT, 9), (macBase 3, Rg.FR_STAT.RUN, 1), (rpBase 3, Rg.RP_STAT.STATE, 2), (entBase 3 7, Rg.MCFG.PROV, 1), (entBase 3 7, Rg.MID.EUI, 99), (entBase 3 7, Rg.MSTAT.STATE, 3), (entBase 3 7, Rg.MSTAT.WIDEN, 2)] : State).netOpen 3 (([0x32, 0, 0, 7, 0xFE, 1, 9, 0, 0, 0] ++ ccmFrame (Key.bytes ⟨List.replicate 32 7, List.replicate 32 1, 0⟩) (frameNonce 99 9 0x32) [0x32, 0, 0, 7, 0xFE, 1, 9, 0, 0, 0] [5, 6] 8 true) : List Byte) = some ([5, 6] : List Byte) ∧ (put { (keyedCopy world 31 1 9) with links := [{ testLink with rc := ⟨1, 31, 82, 0, 3, false, false, 13, 0, 5⟩, slots := 4 }], img := { fullImg with areas := [⟨0, 5, 0, 0, 0, 32768, 8192, 4⟩] }, time := { world.time with ns := 4700000 }, radio := { world.radio with lanes := listSet world.radio.lanes 3 ({ (MacLane.off) with cells := [0x385], shr := some 4300000 }) } } [(macBase 3, Rg.FR_CFG.NET_SLOT, 9), (macBase 3, Rg.FR_STAT.RUN, 1), (rpBase 3, Rg.RP_STAT.STATE, 2), (entBase 3 7, Rg.MCFG.PROV, 1), (entBase 3 7, Rg.MID.EUI, 99), (entBase 3 7, Rg.MSTAT.STATE, 3), (entBase 3 7, Rg.MSTAT.WIDEN, 2)] : State).upWindow 3 7 4300000 = some ((4000000, 0x385) : Nat × Nat) ∧ (put { (keyedCopy world 31 1 9) with links := [{ testLink with rc := ⟨1, 31, 82, 0, 3, false, false, 13, 0, 5⟩, slots := 4 }], img := { fullImg with areas := [⟨0, 5, 0, 0, 0, 32768, 8192, 4⟩] }, time := { world.time with ns := 4700000 }, radio := { world.radio with lanes := listSet world.radio.lanes 3 ({ (MacLane.off) with cells := [0x385], shr := some 4300000 }) } } [(macBase 3, Rg.FR_CFG.NET_SLOT, 9), (macBase 3, Rg.FR_STAT.RUN, 1), (rpBase 3, Rg.RP_STAT.STATE, 2), (entBase 3 7, Rg.MCFG.PROV, 1), (entBase 3 7, Rg.MID.EUI, 99), (entBase 3 7, Rg.MSTAT.STATE, 3), (entBase 3 7, Rg.MSTAT.WIDEN, 2)] : State).entState 3 7 = 3 ∧
    (put { (keyedCopy world 31 1 9) with links := [{ testLink with rc := ⟨1, 31, 82, 0, 3, false, false, 13, 0, 5⟩, slots := 4 }], img := { fullImg with areas := [⟨0, 5, 0, 0, 0, 32768, 8192, 4⟩] }, time := { world.time with ns := 4700000 }, radio := { world.radio with lanes := listSet world.radio.lanes 3 ({ (MacLane.off) with cells := [0x385], shr := some 4300000 }) } } [(macBase 3, Rg.FR_CFG.NET_SLOT, 9), (macBase 3, Rg.FR_STAT.RUN, 1), (rpBase 3, Rg.RP_STAT.STATE, 2), (entBase 3 7, Rg.MCFG.PROV, 1), (entBase 3 7, Rg.MID.EUI, 99), (entBase 3 7, Rg.MSTAT.STATE, 3), (entBase 3 7, Rg.MSTAT.WIDEN, 2)] : State).get (entBase 3 7) Rg.MSTAT.RX_FCNT < leAt (([0x32, 0, 0, 7, 0xFE, 1, 9, 0, 0, 0] ++ ccmFrame (Key.bytes ⟨List.replicate 32 7, List.replicate 32 1, 0⟩) (frameNonce 99 9 0x32) [0x32, 0, 0, 7, 0xFE, 1, 9, 0, 0, 0] [5, 6] 8 true) : List Byte) 6 4 ∧ ((put { (keyedCopy world 31 1 9) with links := [{ testLink with rc := ⟨1, 31, 82, 0, 3, false, false, 13, 0, 5⟩, slots := 4 }], img := { fullImg with areas := [⟨0, 5, 0, 0, 0, 32768, 8192, 4⟩] }, time := { world.time with ns := 4700000 }, radio := { world.radio with lanes := listSet world.radio.lanes 3 ({ (MacLane.off) with cells := [0x385], shr := some 4300000 }) } } [(macBase 3, Rg.FR_CFG.NET_SLOT, 9), (macBase 3, Rg.FR_STAT.RUN, 1), (rpBase 3, Rg.RP_STAT.STATE, 2), (entBase 3 7, Rg.MCFG.PROV, 1), (entBase 3 7, Rg.MID.EUI, 99), (entBase 3 7, Rg.MSTAT.STATE, 3), (entBase 3 7, Rg.MSTAT.WIDEN, 2)] : State).mac 3).box = [] ∧ (put { (keyedCopy world 31 1 9) with links := [{ testLink with rc := ⟨1, 31, 82, 0, 3, false, false, 13, 0, 5⟩, slots := 4 }], img := { fullImg with areas := [⟨0, 5, 0, 0, 0, 32768, 8192, 4⟩] }, time := { world.time with ns := 4700000 }, radio := { world.radio with lanes := listSet world.radio.lanes 3 ({ (MacLane.off) with cells := [0x385], shr := some 4300000 }) } } [(macBase 3, Rg.FR_CFG.NET_SLOT, 9), (macBase 3, Rg.FR_STAT.RUN, 1), (rpBase 3, Rg.RP_STAT.STATE, 2), (entBase 3 7, Rg.MCFG.PROV, 1), (entBase 3 7, Rg.MID.EUI, 99), (entBase 3 7, Rg.MSTAT.STATE, 3), (entBase 3 7, Rg.MSTAT.WIDEN, 2)] : State).linkTo (macPos 3) posDsp = some ({ testLink with rc := ⟨1, 31, 82, 0, 3, false, false, 13, 0, 5⟩, slots := 4 } : Link) ∧ ((put { (keyedCopy world 31 1 9) with links := [{ testLink with rc := ⟨1, 31, 82, 0, 3, false, false, 13, 0, 5⟩, slots := 4 }], img := { fullImg with areas := [⟨0, 5, 0, 0, 0, 32768, 8192, 4⟩] }, time := { world.time with ns := 4700000 }, radio := { world.radio with lanes := listSet world.radio.lanes 3 ({ (MacLane.off) with cells := [0x385], shr := some 4300000 }) } } [(macBase 3, Rg.FR_CFG.NET_SLOT, 9), (macBase 3, Rg.FR_STAT.RUN, 1), (rpBase 3, Rg.RP_STAT.STATE, 2), (entBase 3 7, Rg.MCFG.PROV, 1), (entBase 3 7, Rg.MID.EUI, 99), (entBase 3 7, Rg.MSTAT.STATE, 3), (entBase 3 7, Rg.MSTAT.WIDEN, 2)] : State).takeSlot (macPos 3) posDsp).isSome = true := by decide +kernel

theorem witness_SlotsAndFramesRun_8 :
    3 < 8 ∧ (put { (keyedCopy world 31 1 9) with time := { world.time with ns := 4700000 }, radio := { world.radio with lanes := listSet world.radio.lanes 3 ({ (MacLane.off) with cells := [0x385], shr := some 4300000 }) } } [(macBase 3, Rg.FR_CFG.NET_SLOT, 9), (macBase 3, Rg.FR_STAT.RUN, 1), (rpBase 3, Rg.RP_STAT.STATE, 2), (entBase 3 7, Rg.MCFG.PROV, 1), (entBase 3 7, Rg.MID.EUI, 99), (entBase 3 7, Rg.MSTAT.STATE, 3), (entBase 3 7, Rg.MSTAT.WIDEN, 2), (entBase 3 7, Rg.MSTAT.RX_FCNT, 20)] : State).radio.lanes.length = 8 ∧ (put { (keyedCopy world 31 1 9) with time := { world.time with ns := 4700000 }, radio := { world.radio with lanes := listSet world.radio.lanes 3 ({ (MacLane.off) with cells := [0x385], shr := some 4300000 }) } } [(macBase 3, Rg.FR_CFG.NET_SLOT, 9), (macBase 3, Rg.FR_STAT.RUN, 1), (rpBase 3, Rg.RP_STAT.STATE, 2), (entBase 3 7, Rg.MCFG.PROV, 1), (entBase 3 7, Rg.MID.EUI, 99), (entBase 3 7, Rg.MSTAT.STATE, 3), (entBase 3 7, Rg.MSTAT.WIDEN, 2), (entBase 3 7, Rg.MSTAT.RX_FCNT, 20)] : State).flag (macBase 3) Rg.FR_STAT.RUN = true ∧ (put { (keyedCopy world 31 1 9) with time := { world.time with ns := 4700000 }, radio := { world.radio with lanes := listSet world.radio.lanes 3 ({ (MacLane.off) with cells := [0x385], shr := some 4300000 }) } } [(macBase 3, Rg.FR_CFG.NET_SLOT, 9), (macBase 3, Rg.FR_STAT.RUN, 1), (rpBase 3, Rg.RP_STAT.STATE, 2), (entBase 3 7, Rg.MCFG.PROV, 1), (entBase 3 7, Rg.MID.EUI, 99), (entBase 3 7, Rg.MSTAT.STATE, 3), (entBase 3 7, Rg.MSTAT.WIDEN, 2), (entBase 3 7, Rg.MSTAT.RX_FCNT, 20)] : State).portRuns 3 = true ∧ ((put { (keyedCopy world 31 1 9) with time := { world.time with ns := 4700000 }, radio := { world.radio with lanes := listSet world.radio.lanes 3 ({ (MacLane.off) with cells := [0x385], shr := some 4300000 }) } } [(macBase 3, Rg.FR_CFG.NET_SLOT, 9), (macBase 3, Rg.FR_STAT.RUN, 1), (rpBase 3, Rg.RP_STAT.STATE, 2), (entBase 3 7, Rg.MCFG.PROV, 1), (entBase 3 7, Rg.MID.EUI, 99), (entBase 3 7, Rg.MSTAT.STATE, 3), (entBase 3 7, Rg.MSTAT.WIDEN, 2), (entBase 3 7, Rg.MSTAT.RX_FCNT, 20)] : State).mac 3).shr = some 4300000 ∧ leAt (([0x32, 0, 0, 7, 0xFE, 1, 9, 0, 0, 0] ++ ccmFrame (Key.bytes ⟨List.replicate 32 7, List.replicate 32 1, 0⟩) (frameNonce 99 9 0x32) [0x32, 0, 0, 7, 0xFE, 1, 9, 0, 0, 0] [5, 6] 8 true) : List Byte) 0 1 = 0x32 ∧ leAt (([0x32, 0, 0, 7, 0xFE, 1, 9, 0, 0, 0] ++ ccmFrame (Key.bytes ⟨List.replicate 32 7, List.replicate 32 1, 0⟩) (frameNonce 99 9 0x32) [0x32, 0, 0, 7, 0xFE, 1, 9, 0, 0, 0] [5, 6] 8 true) : List Byte) 1 2 = (put { (keyedCopy world 31 1 9) with time := { world.time with ns := 4700000 }, radio := { world.radio with lanes := listSet world.radio.lanes 3 ({ (MacLane.off) with cells := [0x385], shr := some 4300000 }) } } [(macBase 3, Rg.FR_CFG.NET_SLOT, 9), (macBase 3, Rg.FR_STAT.RUN, 1), (rpBase 3, Rg.RP_STAT.STATE, 2), (entBase 3 7, Rg.MCFG.PROV, 1), (entBase 3 7, Rg.MID.EUI, 99), (entBase 3 7, Rg.MSTAT.STATE, 3), (entBase 3 7, Rg.MSTAT.WIDEN, 2), (entBase 3 7, Rg.MSTAT.RX_FCNT, 20)] : State).get (macBase 3) Rg.FR_CFG.NET ∧ leAt (([0x32, 0, 0, 7, 0xFE, 1, 9, 0, 0, 0] ++ ccmFrame (Key.bytes ⟨List.replicate 32 7, List.replicate 32 1, 0⟩) (frameNonce 99 9 0x32) [0x32, 0, 0, 7, 0xFE, 1, 9, 0, 0, 0] [5, 6] 8 true) : List Byte) 3 1 = 7 ∧ leAt (([0x32, 0, 0, 7, 0xFE, 1, 9, 0, 0, 0] ++ ccmFrame (Key.bytes ⟨List.replicate 32 7, List.replicate 32 1, 0⟩) (frameNonce 99 9 0x32) [0x32, 0, 0, 7, 0xFE, 1, 9, 0, 0, 0] [5, 6] 8 true) : List Byte) 4 1 = 0xFE ∧
    7 < 32 ∧ (put { (keyedCopy world 31 1 9) with time := { world.time with ns := 4700000 }, radio := { world.radio with lanes := listSet world.radio.lanes 3 ({ (MacLane.off) with cells := [0x385], shr := some 4300000 }) } } [(macBase 3, Rg.FR_CFG.NET_SLOT, 9), (macBase 3, Rg.FR_STAT.RUN, 1), (rpBase 3, Rg.RP_STAT.STATE, 2), (entBase 3 7, Rg.MCFG.PROV, 1), (entBase 3 7, Rg.MID.EUI, 99), (entBase 3 7, Rg.MSTAT.STATE, 3), (entBase 3 7, Rg.MSTAT.WIDEN, 2), (entBase 3 7, Rg.MSTAT.RX_FCNT, 20)] : State).netOpen 3 (([0x32, 0, 0, 7, 0xFE, 1, 9, 0, 0, 0] ++ ccmFrame (Key.bytes ⟨List.replicate 32 7, List.replicate 32 1, 0⟩) (frameNonce 99 9 0x32) [0x32, 0, 0, 7, 0xFE, 1, 9, 0, 0, 0] [5, 6] 8 true) : List Byte) = some ([5, 6] : List Byte) ∧ (put { (keyedCopy world 31 1 9) with time := { world.time with ns := 4700000 }, radio := { world.radio with lanes := listSet world.radio.lanes 3 ({ (MacLane.off) with cells := [0x385], shr := some 4300000 }) } } [(macBase 3, Rg.FR_CFG.NET_SLOT, 9), (macBase 3, Rg.FR_STAT.RUN, 1), (rpBase 3, Rg.RP_STAT.STATE, 2), (entBase 3 7, Rg.MCFG.PROV, 1), (entBase 3 7, Rg.MID.EUI, 99), (entBase 3 7, Rg.MSTAT.STATE, 3), (entBase 3 7, Rg.MSTAT.WIDEN, 2), (entBase 3 7, Rg.MSTAT.RX_FCNT, 20)] : State).upWindow 3 7 4300000 = some ((4000000, 0x385) : Nat × Nat) ∧ (put { (keyedCopy world 31 1 9) with time := { world.time with ns := 4700000 }, radio := { world.radio with lanes := listSet world.radio.lanes 3 ({ (MacLane.off) with cells := [0x385], shr := some 4300000 }) } } [(macBase 3, Rg.FR_CFG.NET_SLOT, 9), (macBase 3, Rg.FR_STAT.RUN, 1), (rpBase 3, Rg.RP_STAT.STATE, 2), (entBase 3 7, Rg.MCFG.PROV, 1), (entBase 3 7, Rg.MID.EUI, 99), (entBase 3 7, Rg.MSTAT.STATE, 3), (entBase 3 7, Rg.MSTAT.WIDEN, 2), (entBase 3 7, Rg.MSTAT.RX_FCNT, 20)] : State).entState 3 7 = 3 ∧
    leAt (([0x32, 0, 0, 7, 0xFE, 1, 9, 0, 0, 0] ++ ccmFrame (Key.bytes ⟨List.replicate 32 7, List.replicate 32 1, 0⟩) (frameNonce 99 9 0x32) [0x32, 0, 0, 7, 0xFE, 1, 9, 0, 0, 0] [5, 6] 8 true) : List Byte) 6 4 < (put { (keyedCopy world 31 1 9) with time := { world.time with ns := 4700000 }, radio := { world.radio with lanes := listSet world.radio.lanes 3 ({ (MacLane.off) with cells := [0x385], shr := some 4300000 }) } } [(macBase 3, Rg.FR_CFG.NET_SLOT, 9), (macBase 3, Rg.FR_STAT.RUN, 1), (rpBase 3, Rg.RP_STAT.STATE, 2), (entBase 3 7, Rg.MCFG.PROV, 1), (entBase 3 7, Rg.MID.EUI, 99), (entBase 3 7, Rg.MSTAT.STATE, 3), (entBase 3 7, Rg.MSTAT.WIDEN, 2), (entBase 3 7, Rg.MSTAT.RX_FCNT, 20)] : State).get (entBase 3 7) Rg.MSTAT.RX_FCNT := by decide +kernel

theorem witness_SlotsAndFramesRun_9 :
    3 < 8 ∧ (put { keyed world 9 with links := [{ testLink with rc := ⟨1, 31, 28, 0, 0, false, false, 13, 0, 5⟩ }, { testLink with rc := ⟨2, 28, 31, 0, 0, false, false, 13, 0, 5⟩ }], radio := { world.radio with lanes := listSet world.radio.lanes 3 { (MacLane.off) with shr := some 9 } } } [(macBase 3, Rg.FR_STAT.RUN, 1), (rpBase 3, Rg.RP_STAT.STATE, 2), (macBase 3, Rg.FR_CTRL.JOIN_OPEN, 1), (entBase 3 7, Rg.MCFG.PROV, 1), (entBase 3 7, Rg.MCFG.JKEY, 9), (entBase 3 7, Rg.MID.EUI, 99)] : State).radio.lanes.length = 8 ∧ (put { keyed world 9 with links := [{ testLink with rc := ⟨1, 31, 28, 0, 0, false, false, 13, 0, 5⟩ }, { testLink with rc := ⟨2, 28, 31, 0, 0, false, false, 13, 0, 5⟩ }], radio := { world.radio with lanes := listSet world.radio.lanes 3 { (MacLane.off) with shr := some 9 } } } [(macBase 3, Rg.FR_STAT.RUN, 1), (rpBase 3, Rg.RP_STAT.STATE, 2), (macBase 3, Rg.FR_CTRL.JOIN_OPEN, 1), (entBase 3 7, Rg.MCFG.PROV, 1), (entBase 3 7, Rg.MCFG.JKEY, 9), (entBase 3 7, Rg.MID.EUI, 99)] : State).flag (macBase 3) Rg.FR_STAT.RUN = true ∧ (put { keyed world 9 with links := [{ testLink with rc := ⟨1, 31, 28, 0, 0, false, false, 13, 0, 5⟩ }, { testLink with rc := ⟨2, 28, 31, 0, 0, false, false, 13, 0, 5⟩ }], radio := { world.radio with lanes := listSet world.radio.lanes 3 { (MacLane.off) with shr := some 9 } } } [(macBase 3, Rg.FR_STAT.RUN, 1), (rpBase 3, Rg.RP_STAT.STATE, 2), (macBase 3, Rg.FR_CTRL.JOIN_OPEN, 1), (entBase 3 7, Rg.MCFG.PROV, 1), (entBase 3 7, Rg.MCFG.JKEY, 9), (entBase 3 7, Rg.MID.EUI, 99)] : State).portRuns 3 = true ∧ ((put { keyed world 9 with links := [{ testLink with rc := ⟨1, 31, 28, 0, 0, false, false, 13, 0, 5⟩ }, { testLink with rc := ⟨2, 28, 31, 0, 0, false, false, 13, 0, 5⟩ }], radio := { world.radio with lanes := listSet world.radio.lanes 3 { (MacLane.off) with shr := some 9 } } } [(macBase 3, Rg.FR_STAT.RUN, 1), (rpBase 3, Rg.RP_STAT.STATE, 2), (macBase 3, Rg.FR_CTRL.JOIN_OPEN, 1), (entBase 3 7, Rg.MCFG.PROV, 1), (entBase 3 7, Rg.MCFG.JKEY, 9), (entBase 3 7, Rg.MID.EUI, 99)] : State).mac 3).shr = some 9 ∧ leAt (([0x34, 0, 0, 0xFD, 0xFE, 44, 4, 0, 0, 0, 0, 0, 0, 0, 0, 0, 0, 99] ++ ccmFrame (Key.bytes ⟨List.replicate 32 7, List.replicate 32 1, 0⟩) (frameNonce 99 4 0x34) [0x34, 0, 0, 0xFD, 0xFE, 44, 4, 0, 0, 0, 0, 0, 0, 0, 0, 0, 0, 99] (leBytes 8 5 ++ [1] ++ List.replicate 31 0) 8 true) : List Byte) 0 1 % 128 = 0x34 ∧ leAt (([0x34, 0, 0, 0xFD, 0xFE, 44, 4, 0, 0, 0, 0, 0, 0, 0, 0, 0, 0, 99] ++ ccmFrame (Key.bytes ⟨List.replicate 32 7, List.replicate 32 1, 0⟩) (frameNonce 99 4 0x34) [0x34, 0, 0, 0xFD, 0xFE, 44, 4, 0, 0, 0, 0, 0, 0, 0, 0, 0, 0, 99] (leBytes 8 5 ++ [1] ++ List.replicate 31 0) 8 true) : List Byte) 1 2 = (put { keyed world 9 with links := [{ testLink with rc := ⟨1, 31, 28, 0, 0, false, false, 13, 0, 5⟩ }, { testLink with rc := ⟨2, 28, 31, 0, 0, false, false, 13, 0, 5⟩ }], radio := { world.radio with lanes := listSet world.radio.lanes 3 { (MacLane.off) with shr := some 9 } } } [(macBase 3, Rg.FR_STAT.RUN, 1), (rpBase 3, Rg.RP_STAT.STATE, 2), (macBase 3, Rg.FR_CTRL.JOIN_OPEN, 1), (entBase 3 7, Rg.MCFG.PROV, 1), (entBase 3 7, Rg.MCFG.JKEY, 9), (entBase 3 7, Rg.MID.EUI, 99)] : State).get (macBase 3) Rg.FR_CFG.NET ∧ leAt (([0x34, 0, 0, 0xFD, 0xFE, 44, 4, 0, 0, 0, 0, 0, 0, 0, 0, 0, 0, 99] ++ ccmFrame (Key.bytes ⟨List.replicate 32 7, List.replicate 32 1, 0⟩) (frameNonce 99 4 0x34) [0x34, 0, 0, 0xFD, 0xFE, 44, 4, 0, 0, 0, 0, 0, 0, 0, 0, 0, 0, 99] (leBytes 8 5 ++ [1] ++ List.replicate 31 0) 8 true) : List Byte) 3 1 = 0xFD ∧ leAt (([0x34, 0, 0, 0xFD, 0xFE, 44, 4, 0, 0, 0, 0, 0, 0, 0, 0, 0, 0, 99] ++ ccmFrame (Key.bytes ⟨List.replicate 32 7, List.replicate 32 1, 0⟩) (frameNonce 99 4 0x34) [0x34, 0, 0, 0xFD, 0xFE, 44, 4, 0, 0, 0, 0, 0, 0, 0, 0, 0, 0, 99] (leBytes 8 5 ++ [1] ++ List.replicate 31 0) 8 true) : List Byte) 4 1 = 0xFE ∧
    7 < 32 ∧ (List.range 32).find? (fun n => (put { keyed world 9 with links := [{ testLink with rc := ⟨1, 31, 28, 0, 0, false, false, 13, 0, 5⟩ }, { testLink with rc := ⟨2, 28, 31, 0, 0, false, false, 13, 0, 5⟩ }], radio := { world.radio with lanes := listSet world.radio.lanes 3 { (MacLane.off) with shr := some 9 } } } [(macBase 3, Rg.FR_STAT.RUN, 1), (rpBase 3, Rg.RP_STAT.STATE, 2), (macBase 3, Rg.FR_CTRL.JOIN_OPEN, 1), (entBase 3 7, Rg.MCFG.PROV, 1), (entBase 3 7, Rg.MCFG.JKEY, 9), (entBase 3 7, Rg.MID.EUI, 99)] : State).flag (entBase 3 n) Rg.MCFG.PROV && (put { keyed world 9 with links := [{ testLink with rc := ⟨1, 31, 28, 0, 0, false, false, 13, 0, 5⟩ }, { testLink with rc := ⟨2, 28, 31, 0, 0, false, false, 13, 0, 5⟩ }], radio := { world.radio with lanes := listSet world.radio.lanes 3 { (MacLane.off) with shr := some 9 } } } [(macBase 3, Rg.FR_STAT.RUN, 1), (rpBase 3, Rg.RP_STAT.STATE, 2), (macBase 3, Rg.FR_CTRL.JOIN_OPEN, 1), (entBase 3 7, Rg.MCFG.PROV, 1), (entBase 3 7, Rg.MCFG.JKEY, 9), (entBase 3 7, Rg.MID.EUI, 99)] : State).get (entBase 3 n) Rg.MID.EUI == leVal (((([0x34, 0, 0, 0xFD, 0xFE, 44, 4, 0, 0, 0, 0, 0, 0, 0, 0, 0, 0, 99] ++ ccmFrame (Key.bytes ⟨List.replicate 32 7, List.replicate 32 1, 0⟩) (frameNonce 99 4 0x34) [0x34, 0, 0, 0xFD, 0xFE, 44, 4, 0, 0, 0, 0, 0, 0, 0, 0, 0, 0, 99] (leBytes 8 5 ++ [1] ++ List.replicate 31 0) 8 true) : List Byte).drop 10).take 8).reverse) = some 7 ∧
    ((put { keyed world 9 with links := [{ testLink with rc := ⟨1, 31, 28, 0, 0, false, false, 13, 0, 5⟩ }, { testLink with rc := ⟨2, 28, 31, 0, 0, false, false, 13, 0, 5⟩ }], radio := { world.radio with lanes := listSet world.radio.lanes 3 { (MacLane.off) with shr := some 9 } } } [(macBase 3, Rg.FR_STAT.RUN, 1), (rpBase 3, Rg.RP_STAT.STATE, 2), (macBase 3, Rg.FR_CTRL.JOIN_OPEN, 1), (entBase 3 7, Rg.MCFG.PROV, 1), (entBase 3 7, Rg.MCFG.JKEY, 9), (entBase 3 7, Rg.MID.EUI, 99)] : State).joinCry 3).isSome = true ∧ (put { keyed world 9 with links := [{ testLink with rc := ⟨1, 31, 28, 0, 0, false, false, 13, 0, 5⟩ }, { testLink with rc := ⟨2, 28, 31, 0, 0, false, false, 13, 0, 5⟩ }], radio := { world.radio with lanes := listSet world.radio.lanes 3 { (MacLane.off) with shr := some 9 } } } [(macBase 3, Rg.FR_STAT.RUN, 1), (rpBase 3, Rg.RP_STAT.STATE, 2), (macBase 3, Rg.FR_CTRL.JOIN_OPEN, 1), (entBase 3 7, Rg.MCFG.PROV, 1), (entBase 3 7, Rg.MCFG.JKEY, 9), (entBase 3 7, Rg.MID.EUI, 99)] : State).joinKey 3 7 = some (⟨List.replicate 32 7, List.replicate 32 1, 0⟩ : Key) ∧ ccmOpen (⟨List.replicate 32 7, List.replicate 32 1, 0⟩ : Key).bytes (frameNonce (leVal (((([0x34, 0, 0, 0xFD, 0xFE, 44, 4, 0, 0, 0, 0, 0, 0, 0, 0, 0, 0, 99] ++ ccmFrame (Key.bytes ⟨List.replicate 32 7, List.replicate 32 1, 0⟩) (frameNonce 99 4 0x34) [0x34, 0, 0, 0xFD, 0xFE, 44, 4, 0, 0, 0, 0, 0, 0, 0, 0, 0, 0, 99] (leBytes 8 5 ++ [1] ++ List.replicate 31 0) 8 true) : List Byte).drop 10).take 8).reverse) (leAt (([0x34, 0, 0, 0xFD, 0xFE, 44, 4, 0, 0, 0, 0, 0, 0, 0, 0, 0, 0, 99] ++ ccmFrame (Key.bytes ⟨List.replicate 32 7, List.replicate 32 1, 0⟩) (frameNonce 99 4 0x34) [0x34, 0, 0, 0xFD, 0xFE, 44, 4, 0, 0, 0, 0, 0, 0, 0, 0, 0, 0, 99] (leBytes 8 5 ++ [1] ++ List.replicate 31 0) 8 true) : List Byte) 6 4) (leAt (([0x34, 0, 0, 0xFD, 0xFE, 44, 4, 0, 0, 0, 0, 0, 0, 0, 0, 0, 0, 99] ++ ccmFrame (Key.bytes ⟨List.replicate 32 7, List.replicate 32 1, 0⟩) (frameNonce 99 4 0x34) [0x34, 0, 0, 0xFD, 0xFE, 44, 4, 0, 0, 0, 0, 0, 0, 0, 0, 0, 0, 99] (leBytes 8 5 ++ [1] ++ List.replicate 31 0) 8 true) : List Byte) 0 1)) ((([0x34, 0, 0, 0xFD, 0xFE, 44, 4, 0, 0, 0, 0, 0, 0, 0, 0, 0, 0, 99] ++ ccmFrame (Key.bytes ⟨List.replicate 32 7, List.replicate 32 1, 0⟩) (frameNonce 99 4 0x34) [0x34, 0, 0, 0xFD, 0xFE, 44, 4, 0, 0, 0, 0, 0, 0, 0, 0, 0, 0, 99] (leBytes 8 5 ++ [1] ++ List.replicate 31 0) 8 true) : List Byte).take 18) ((([0x34, 0, 0, 0xFD, 0xFE, 44, 4, 0, 0, 0, 0, 0, 0, 0, 0, 0, 0, 99] ++ ccmFrame (Key.bytes ⟨List.replicate 32 7, List.replicate 32 1, 0⟩) (frameNonce 99 4 0x34) [0x34, 0, 0, 0xFD, 0xFE, 44, 4, 0, 0, 0, 0, 0, 0, 0, 0, 0, 0, 99] (leBytes 8 5 ++ [1] ++ List.replicate 31 0) 8 true) : List Byte).drop 18) 8 true = some (leBytes 8 5 ++ [1] ++ List.replicate 31 0 : List Byte) ∧ (leBytes 8 5 ++ [1] ++ List.replicate 31 0 : List Byte).length = 40 ∧
    ((put { keyed world 9 with links := [{ testLink with rc := ⟨1, 31, 28, 0, 0, false, false, 13, 0, 5⟩ }, { testLink with rc := ⟨2, 28, 31, 0, 0, false, false, 13, 0, 5⟩ }], radio := { world.radio with lanes := listSet world.radio.lanes 3 { (MacLane.off) with shr := some 9 } } } [(macBase 3, Rg.FR_STAT.RUN, 1), (rpBase 3, Rg.RP_STAT.STATE, 2), (macBase 3, Rg.FR_CTRL.JOIN_OPEN, 1), (entBase 3 7, Rg.MCFG.PROV, 1), (entBase 3 7, Rg.MCFG.JKEY, 9), (entBase 3 7, Rg.MID.EUI, 99)] : State).mac 3).joins.find? (fun j => j.k == 7 && j.seq == leAt (([0x34, 0, 0, 0xFD, 0xFE, 44, 4, 0, 0, 0, 0, 0, 0, 0, 0, 0, 0, 99] ++ ccmFrame (Key.bytes ⟨List.replicate 32 7, List.replicate 32 1, 0⟩) (frameNonce 99 4 0x34) [0x34, 0, 0, 0xFD, 0xFE, 44, 4, 0, 0, 0, 0, 0, 0, 0, 0, 0, 0, 99] (leBytes 8 5 ++ [1] ++ List.replicate 31 0) 8 true) : List Byte) 5 1 && j.fcnt == leAt (([0x34, 0, 0, 0xFD, 0xFE, 44, 4, 0, 0, 0, 0, 0, 0, 0, 0, 0, 0, 99] ++ ccmFrame (Key.bytes ⟨List.replicate 32 7, List.replicate 32 1, 0⟩) (frameNonce 99 4 0x34) [0x34, 0, 0, 0xFD, 0xFE, 44, 4, 0, 0, 0, 0, 0, 0, 0, 0, 0, 0, 99] (leBytes 8 5 ++ [1] ++ List.replicate 31 0) 8 true) : List Byte) 6 4) = none ∧ (put { keyed world 9 with links := [{ testLink with rc := ⟨1, 31, 28, 0, 0, false, false, 13, 0, 5⟩ }, { testLink with rc := ⟨2, 28, 31, 0, 0, false, false, 13, 0, 5⟩ }], radio := { world.radio with lanes := listSet world.radio.lanes 3 { (MacLane.off) with shr := some 9 } } } [(macBase 3, Rg.FR_STAT.RUN, 1), (rpBase 3, Rg.RP_STAT.STATE, 2), (macBase 3, Rg.FR_CTRL.JOIN_OPEN, 1), (entBase 3 7, Rg.MCFG.PROV, 1), (entBase 3 7, Rg.MCFG.JKEY, 9), (entBase 3 7, Rg.MID.EUI, 99)] : State).entState 3 7 ≠ 3 ∧
    (put { keyed world 9 with links := [{ testLink with rc := ⟨1, 31, 28, 0, 0, false, false, 13, 0, 5⟩ }, { testLink with rc := ⟨2, 28, 31, 0, 0, false, false, 13, 0, 5⟩ }], radio := { world.radio with lanes := listSet world.radio.lanes 3 { (MacLane.off) with shr := some 9 } } } [(macBase 3, Rg.FR_STAT.RUN, 1), (rpBase 3, Rg.RP_STAT.STATE, 2), (macBase 3, Rg.FR_CTRL.JOIN_OPEN, 1), (entBase 3 7, Rg.MCFG.PROV, 1), (entBase 3 7, Rg.MCFG.JKEY, 9), (entBase 3 7, Rg.MID.EUI, 99)] : State).flag (macBase 3) Rg.FR_CTRL.JOIN_OPEN = true ∧ capBad ((leBytes 8 5 ++ [1] ++ List.replicate 31 0 : List Byte).drop 8) = false ∧ leAt ((leBytes 8 5 ++ [1] ++ List.replicate 31 0 : List Byte).drop 8) 18 1 % 16 = (put { keyed world 9 with links := [{ testLink with rc := ⟨1, 31, 28, 0, 0, false, false, 13, 0, 5⟩ }, { testLink with rc := ⟨2, 28, 31, 0, 0, false, false, 13, 0, 5⟩ }], radio := { world.radio with lanes := listSet world.radio.lanes 3 { (MacLane.off) with shr := some 9 } } } [(macBase 3, Rg.FR_STAT.RUN, 1), (rpBase 3, Rg.RP_STAT.STATE, 2), (macBase 3, Rg.FR_CTRL.JOIN_OPEN, 1), (entBase 3 7, Rg.MCFG.PROV, 1), (entBase 3 7, Rg.MCFG.JKEY, 9), (entBase 3 7, Rg.MID.EUI, 99)] : State).get (macBase 3) Rg.FR_CFG.PROFILE_ID := by decide +kernel

theorem witness_SlotsAndFramesRun_10 :
    3 < 8 ∧ 7 < 32 ∧ (put { world with time := { world.time with ns := 2500000000 }, radio := { world.radio with lanes := listSet world.radio.lanes 3 ({ (MacLane.off) with joins := [⟨7, 1, 2, 3, 0, 9, 400000000, 0, none, false⟩] }) } } [(entBase 3 7, Rg.MSTAT.STATE, 2), (entBase 3 7, Rg.MSTAT.SEQ_MODE, 1)] : State).entState 3 7 = 2 ∧ ((put { world with time := { world.time with ns := 2500000000 }, radio := { world.radio with lanes := listSet world.radio.lanes 3 ({ (MacLane.off) with joins := [⟨7, 1, 2, 3, 0, 9, 400000000, 0, none, false⟩] }) } } [(entBase 3 7, Rg.MSTAT.STATE, 2), (entBase 3 7, Rg.MSTAT.SEQ_MODE, 1)] : State).mac 3).joins.any (fun j => j.k == 7 && decide (j.since + 2000000000 ≤ (put { world with time := { world.time with ns := 2500000000 }, radio := { world.radio with lanes := listSet world.radio.lanes 3 ({ (MacLane.off) with joins := [⟨7, 1, 2, 3, 0, 9, 400000000, 0, none, false⟩] }) } } [(entBase 3 7, Rg.MSTAT.STATE, 2), (entBase 3 7, Rg.MSTAT.SEQ_MODE, 1)] : State).nowNs)) = true := by decide +kernel

theorem witness_SlotsAndFramesRun_11 :
    3 < 8 ∧ 5 < 32 ∧ (put { world with time := { world.time with ns := 2500000000 }, radio := { world.radio with lanes := listSet world.radio.lanes 3 ({ (MacLane.off) with cells := [0x287], reqs := [⟨5, 6, 30, true, [], 0, none, 0⟩] }) } } [(entBase 3 5, Rg.MSTAT.STATE, 3), (entBase 3 5, Rg.MLAST.INSTANT, 400000000)] : State).radio.lanes.length = 8 ∧ (put { world with time := { world.time with ns := 2500000000 }, radio := { world.radio with lanes := listSet world.radio.lanes 3 ({ (MacLane.off) with cells := [0x287], reqs := [⟨5, 6, 30, true, [], 0, none, 0⟩] }) } } [(entBase 3 5, Rg.MSTAT.STATE, 3), (entBase 3 5, Rg.MLAST.INSTANT, 400000000)] : State).entState 3 5 = 3 ∧
    ((if (put { world with time := { world.time with ns := 2500000000 }, radio := { world.radio with lanes := listSet world.radio.lanes 3 ({ (MacLane.off) with cells := [0x287], reqs := [⟨5, 6, 30, true, [], 0, none, 0⟩] }) } } [(entBase 3 5, Rg.MSTAT.STATE, 3), (entBase 3 5, Rg.MLAST.INSTANT, 400000000)] : State).sleepy 3 5 then ((put { world with time := { world.time with ns := 2500000000 }, radio := { world.radio with lanes := listSet world.radio.lanes 3 ({ (MacLane.off) with cells := [0x287], reqs := [⟨5, 6, 30, true, [], 0, none, 0⟩] }) } } [(entBase 3 5, Rg.MSTAT.STATE, 3), (entBase 3 5, Rg.MLAST.INSTANT, 400000000)] : State).mac 3).miss4.contains 5 = true else ((put { world with time := { world.time with ns := 2500000000 }, radio := { world.radio with lanes := listSet world.radio.lanes 3 ({ (MacLane.off) with cells := [0x287], reqs := [⟨5, 6, 30, true, [], 0, none, 0⟩] }) } } [(entBase 3 5, Rg.MSTAT.STATE, 3), (entBase 3 5, Rg.MLAST.INSTANT, 400000000)] : State).mac 3).cells.any (fun w => cellOn w && cellDir w == 0 && cellOwner w == 5) = true ∧ (put { world with time := { world.time with ns := 2500000000 }, radio := { world.radio with lanes := listSet world.radio.lanes 3 ({ (MacLane.off) with cells := [0x287], reqs := [⟨5, 6, 30, true, [], 0, none, 0⟩] }) } } [(entBase 3 5, Rg.MSTAT.STATE, 3), (entBase 3 5, Rg.MLAST.INSTANT, 400000000)] : State).get (entBase 3 5) Rg.MLAST.INSTANT + 2000000000 ≤ (put { world with time := { world.time with ns := 2500000000 }, radio := { world.radio with lanes := listSet world.radio.lanes 3 ({ (MacLane.off) with cells := [0x287], reqs := [⟨5, 6, 30, true, [], 0, none, 0⟩] }) } } [(entBase 3 5, Rg.MSTAT.STATE, 3), (entBase 3 5, Rg.MLAST.INSTANT, 400000000)] : State).nowNs)) := by decide +kernel

theorem witness_SlotsAndFramesRun_12 :
    1 < 4 ∧ (put { withLink { testLink with rc := ⟨1, 22, 31, 0, 0, false, false, 13, 0, 5⟩ } with img := { fullImg with areas := [⟨0, 5, 0, 0, 0, 4096, 256, 4⟩] }, rx := [(1, ⟨0x3000, [20 * 2 ^ 12], false⟩)] } [(macBase 2, Rg.FR_CFG.CORR_EN, 1), (macBase 2, Rg.FR_STAT.RUN, 1), (rpBase 2, Rg.RP_STAT.MAXPSDU_B, 200)] : State).item ((tilePositions .mac).getD 1 99) 0x30 = some (22, (⟨0x3000, [20 * 2 ^ 12], false⟩ : QPkt)) ∧ (put { withLink { testLink with rc := ⟨1, 22, 31, 0, 0, false, false, 13, 0, 5⟩ } with img := { fullImg with areas := [⟨0, 5, 0, 0, 0, 4096, 256, 4⟩] }, rx := [(1, ⟨0x3000, [20 * 2 ^ 12], false⟩)] } [(macBase 2, Rg.FR_CFG.CORR_EN, 1), (macBase 2, Rg.FR_STAT.RUN, 1), (rpBase 2, Rg.RP_STAT.MAXPSDU_B, 200)] : State).radio.corr = [] ∧ lookupD 0 1 (put { withLink { testLink with rc := ⟨1, 22, 31, 0, 0, false, false, 13, 0, 5⟩ } with img := { fullImg with areas := [⟨0, 5, 0, 0, 0, 4096, 256, 4⟩] }, rx := [(1, ⟨0x3000, [20 * 2 ^ 12], false⟩)] } [(macBase 2, Rg.FR_CFG.CORR_EN, 1), (macBase 2, Rg.FR_STAT.RUN, 1), (rpBase 2, Rg.RP_STAT.MAXPSDU_B, 200)] : State).radio.idx = 0 ∧ bits 12 11 ((⟨0x3000, [20 * 2 ^ 12], false⟩ : QPkt).data.headD 0) ≤ 16384 ∧
    (put { withLink { testLink with rc := ⟨1, 22, 31, 0, 0, false, false, 13, 0, 5⟩ } with img := { fullImg with areas := [⟨0, 5, 0, 0, 0, 4096, 256, 4⟩] }, rx := [(1, ⟨0x3000, [20 * 2 ^ 12], false⟩)] } [(macBase 2, Rg.FR_CFG.CORR_EN, 1), (macBase 2, Rg.FR_STAT.RUN, 1), (rpBase 2, Rg.RP_STAT.MAXPSDU_B, 200)] : State).corrFirst (1 * 2) (bits 12 11 ((⟨0x3000, [20 * 2 ^ 12], false⟩ : QPkt).data.headD 0)) = some 0 ∧ (put { withLink { testLink with rc := ⟨1, 22, 31, 0, 0, false, false, 13, 0, 5⟩ } with img := { fullImg with areas := [⟨0, 5, 0, 0, 0, 4096, 256, 4⟩] }, rx := [(1, ⟨0x3000, [20 * 2 ^ 12], false⟩)] } [(macBase 2, Rg.FR_CFG.CORR_EN, 1), (macBase 2, Rg.FR_STAT.RUN, 1), (rpBase 2, Rg.RP_STAT.MAXPSDU_B, 200)] : State).corrFirst (1 * 2 + 1) (bits 12 11 ((⟨0x3000, [20 * 2 ^ 12], false⟩ : QPkt).data.headD 0)) = none ∧ (put { withLink { testLink with rc := ⟨1, 22, 31, 0, 0, false, false, 13, 0, 5⟩ } with img := { fullImg with areas := [⟨0, 5, 0, 0, 0, 4096, 256, 4⟩] }, rx := [(1, ⟨0x3000, [20 * 2 ^ 12], false⟩)] } [(macBase 2, Rg.FR_CFG.CORR_EN, 1), (macBase 2, Rg.FR_STAT.RUN, 1), (rpBase 2, Rg.RP_STAT.MAXPSDU_B, 200)] : State).corrLong (1 * 2 + 1) (bits 12 11 ((⟨0x3000, [20 * 2 ^ 12], false⟩ : QPkt).data.headD 0)) = false ∧
    (((put { withLink { testLink with rc := ⟨1, 22, 31, 0, 0, false, false, 13, 0, 5⟩ } with img := { fullImg with areas := [⟨0, 5, 0, 0, 0, 4096, 256, 4⟩] }, rx := [(1, ⟨0x3000, [20 * 2 ^ 12], false⟩)] } [(macBase 2, Rg.FR_CFG.CORR_EN, 1), (macBase 2, Rg.FR_STAT.RUN, 1), (rpBase 2, Rg.RP_STAT.MAXPSDU_B, 200)] : State).taken ((tilePositions .mac).getD 1 99) 0x30).corrNewer 1 (bits 40 8 ((⟨0x3000, [20 * 2 ^ 12], false⟩ : QPkt).data.headD 0)) 2).memRead ((put { withLink { testLink with rc := ⟨1, 22, 31, 0, 0, false, false, 13, 0, 5⟩ } with img := { fullImg with areas := [⟨0, 5, 0, 0, 0, 4096, 256, 4⟩] }, rx := [(1, ⟨0x3000, [20 * 2 ^ 12], false⟩)] } [(macBase 2, Rg.FR_CFG.CORR_EN, 1), (macBase 2, Rg.FR_STAT.RUN, 1), (rpBase 2, Rg.RP_STAT.MAXPSDU_B, 200)] : State).slotAddr 22 ((tilePositions .mac).getD 1 99) (bits 0 12 ((⟨0x3000, [20 * 2 ^ 12], false⟩ : QPkt).data.headD 0))) (bits 12 11 ((⟨0x3000, [20 * 2 ^ 12], false⟩ : QPkt).data.headD 0)) = (((State.memRead (State.corrNewer (State.taken (put { withLink { testLink with rc := ⟨1, 22, 31, 0, 0, false, false, 13, 0, 5⟩ } with img := { fullImg with areas := [⟨0, 5, 0, 0, 0, 4096, 256, 4⟩] }, rx := [(1, ⟨0x3000, [20 * 2 ^ 12], false⟩)] } [(macBase 2, Rg.FR_CFG.CORR_EN, 1), (macBase 2, Rg.FR_STAT.RUN, 1), (rpBase 2, Rg.RP_STAT.MAXPSDU_B, 200)]) 31 0x30) 1 0 2) (State.slotAddr (put { withLink { testLink with rc := ⟨1, 22, 31, 0, 0, false, false, 13, 0, 5⟩ } with img := { fullImg with areas := [⟨0, 5, 0, 0, 0, 4096, 256, 4⟩] }, rx := [(1, ⟨0x3000, [20 * 2 ^ 12], false⟩)] } [(macBase 2, Rg.FR_CFG.CORR_EN, 1), (macBase 2, Rg.FR_STAT.RUN, 1), (rpBase 2, Rg.RP_STAT.MAXPSDU_B, 200)]) 22 31 0) 20).1 : State), some (List.replicate 20 0 : List Byte)) := by decide +kernel

theorem witness_SlotsAndFramesRun_13 :
    1 < 4 ∧ (put { withLink { testLink with rc := ⟨1, 40, 31, 0, 0, false, false, 13, 0, 5⟩ } with img := { fullImg with areas := [⟨0, 5, 0, 0, 0, 4096, 256, 4⟩] }, rx := [(1, ⟨0x6100, [69 + 16 * 2 ^ 8 + 7 * 2 ^ 32], false⟩)] } [(macBase 2, Rg.FR_STAT.RUN, 1), (rpBase 2, Rg.RP_STAT.MAXPSDU_B, 200), (entBase 2 5, Rg.MSTAT.STATE, 3)] : State).radio.lanes.length = 8 ∧ (put { withLink { testLink with rc := ⟨1, 40, 31, 0, 0, false, false, 13, 0, 5⟩ } with img := { fullImg with areas := [⟨0, 5, 0, 0, 0, 4096, 256, 4⟩] }, rx := [(1, ⟨0x6100, [69 + 16 * 2 ^ 8 + 7 * 2 ^ 32], false⟩)] } [(macBase 2, Rg.FR_STAT.RUN, 1), (rpBase 2, Rg.RP_STAT.MAXPSDU_B, 200), (entBase 2 5, Rg.MSTAT.STATE, 3)] : State).item ((tilePositions .mac).getD 1 99) 0x61 = some (40, (⟨0x6100, [69 + 16 * 2 ^ 8 + 7 * 2 ^ 32], false⟩ : QPkt)) ∧ 2 = bits 0 8 ((⟨0x6100, [69 + 16 * 2 ^ 8 + 7 * 2 ^ 32], false⟩ : QPkt).data.headD 0) / 32 ∧ 5 = bits 0 8 ((⟨0x6100, [69 + 16 * 2 ^ 8 + 7 * 2 ^ 32], false⟩ : QPkt).data.headD 0) % 32 ∧ 2 / 2 = 1 ∧
    (put { withLink { testLink with rc := ⟨1, 40, 31, 0, 0, false, false, 13, 0, 5⟩ } with img := { fullImg with areas := [⟨0, 5, 0, 0, 0, 4096, 256, 4⟩] }, rx := [(1, ⟨0x6100, [69 + 16 * 2 ^ 8 + 7 * 2 ^ 32], false⟩)] } [(macBase 2, Rg.FR_STAT.RUN, 1), (rpBase 2, Rg.RP_STAT.MAXPSDU_B, 200), (entBase 2 5, Rg.MSTAT.STATE, 3)] : State).flag (macBase 2) Rg.FR_STAT.RUN = true ∧ (put { withLink { testLink with rc := ⟨1, 40, 31, 0, 0, false, false, 13, 0, 5⟩ } with img := { fullImg with areas := [⟨0, 5, 0, 0, 0, 4096, 256, 4⟩] }, rx := [(1, ⟨0x6100, [69 + 16 * 2 ^ 8 + 7 * 2 ^ 32], false⟩)] } [(macBase 2, Rg.FR_STAT.RUN, 1), (rpBase 2, Rg.RP_STAT.MAXPSDU_B, 200), (entBase 2 5, Rg.MSTAT.STATE, 3)] : State).entState 2 5 = 3 ∧ (((put { withLink { testLink with rc := ⟨1, 40, 31, 0, 0, false, false, 13, 0, 5⟩ } with img := { fullImg with areas := [⟨0, 5, 0, 0, 0, 4096, 256, 4⟩] }, rx := [(1, ⟨0x6100, [69 + 16 * 2 ^ 8 + 7 * 2 ^ 32], false⟩)] } [(macBase 2, Rg.FR_STAT.RUN, 1), (rpBase 2, Rg.RP_STAT.MAXPSDU_B, 200), (entBase 2 5, Rg.MSTAT.STATE, 3)] : State).mac 2).reqs.filter (fun r => r.k == 5)).length < 4 ∧
    (bits 8 11 ((⟨0x6100, [69 + 16 * 2 ^ 8 + 7 * 2 ^ 32], false⟩ : QPkt).data.headD 0) ≤ (if bitOf 31 ((⟨0x6100, [69 + 16 * 2 ^ 8 + 7 * 2 ^ 32], false⟩ : QPkt).data.headD 0) then (put { withLink { testLink with rc := ⟨1, 40, 31, 0, 0, false, false, 13, 0, 5⟩ } with img := { fullImg with areas := [⟨0, 5, 0, 0, 0, 4096, 256, 4⟩] }, rx := [(1, ⟨0x6100, [69 + 16 * 2 ^ 8 + 7 * 2 ^ 32], false⟩)] } [(macBase 2, Rg.FR_STAT.RUN, 1), (rpBase 2, Rg.RP_STAT.MAXPSDU_B, 200), (entBase 2 5, Rg.MSTAT.STATE, 3)] : State).get (rpBase 2) Rg.RP_STAT.MAXPSDU_A else (put { withLink { testLink with rc := ⟨1, 40, 31, 0, 0, false, false, 13, 0, 5⟩ } with img := { fullImg with areas := [⟨0, 5, 0, 0, 0, 4096, 256, 4⟩] }, rx := [(1, ⟨0x6100, [69 + 16 * 2 ^ 8 + 7 * 2 ^ 32], false⟩)] } [(macBase 2, Rg.FR_STAT.RUN, 1), (rpBase 2, Rg.RP_STAT.MAXPSDU_B, 200), (entBase 2 5, Rg.MSTAT.STATE, 3)] : State).get (rpBase 2) Rg.RP_STAT.MAXPSDU_B) - 22) ∧
    ((put { withLink { testLink with rc := ⟨1, 40, 31, 0, 0, false, false, 13, 0, 5⟩ } with img := { fullImg with areas := [⟨0, 5, 0, 0, 0, 4096, 256, 4⟩] }, rx := [(1, ⟨0x6100, [69 + 16 * 2 ^ 8 + 7 * 2 ^ 32], false⟩)] } [(macBase 2, Rg.FR_STAT.RUN, 1), (rpBase 2, Rg.RP_STAT.MAXPSDU_B, 200), (entBase 2 5, Rg.MSTAT.STATE, 3)] : State).taken ((tilePositions .mac).getD 1 99) 0x61).memRead ((put { withLink { testLink with rc := ⟨1, 40, 31, 0, 0, false, false, 13, 0, 5⟩ } with img := { fullImg with areas := [⟨0, 5, 0, 0, 0, 4096, 256, 4⟩] }, rx := [(1, ⟨0x6100, [69 + 16 * 2 ^ 8 + 7 * 2 ^ 32], false⟩)] } [(macBase 2, Rg.FR_STAT.RUN, 1), (rpBase 2, Rg.RP_STAT.MAXPSDU_B, 200), (entBase 2 5, Rg.MSTAT.STATE, 3)] : State).slotAddr 40 ((tilePositions .mac).getD 1 99) (bits 19 12 ((⟨0x6100, [69 + 16 * 2 ^ 8 + 7 * 2 ^ 32], false⟩ : QPkt).data.headD 0))) (bits 8 11 ((⟨0x6100, [69 + 16 * 2 ^ 8 + 7 * 2 ^ 32], false⟩ : QPkt).data.headD 0)) = (((State.memRead (State.taken (put { withLink { testLink with rc := ⟨1, 40, 31, 0, 0, false, false, 13, 0, 5⟩ } with img := { fullImg with areas := [⟨0, 5, 0, 0, 0, 4096, 256, 4⟩] }, rx := [(1, ⟨0x6100, [69 + 16 * 2 ^ 8 + 7 * 2 ^ 32], false⟩)] } [(macBase 2, Rg.FR_STAT.RUN, 1), (rpBase 2, Rg.RP_STAT.MAXPSDU_B, 200), (entBase 2 5, Rg.MSTAT.STATE, 3)]) 31 0x61) (State.slotAddr (put { withLink { testLink with rc := ⟨1, 40, 31, 0, 0, false, false, 13, 0, 5⟩ } with img := { fullImg with areas := [⟨0, 5, 0, 0, 0, 4096, 256, 4⟩] }, rx := [(1, ⟨0x6100, [69 + 16 * 2 ^ 8 + 7 * 2 ^ 32], false⟩)] } [(macBase 2, Rg.FR_STAT.RUN, 1), (rpBase 2, Rg.RP_STAT.MAXPSDU_B, 200), (entBase 2 5, Rg.MSTAT.STATE, 3)]) 40 31 0) 16).1 : State), some (List.replicate 16 0 : List Byte)) := by decide +kernel

theorem witness_SlotsAndFramesRun_14 :
    1 < 4 ∧ (put { withLink { testLink with rc := ⟨1, 31, 33, 0, 0, false, false, 13, 0, 5⟩ } with rx := [(1, ⟨0x6200, [7], false⟩)], tracks := { world.tracks with lanes := [(71, { (TrkLane.off) with way := [(7, ⟨[0x12], true⟩)] })] } } [(tmBase 71, Rg.TM_STAT.STATE, 3)] : State).item (trkPos 1) 0x62 = some (31, (⟨0x6200, [7], false⟩ : QPkt)) ∧ 71 = 1 * 64 + pktLane (⟨0x6200, [7], false⟩ : QPkt).lw % 2 * 32 + bits 0 32 ((⟨0x6200, [7], false⟩ : QPkt).data.headD 0) % 32 ∧
    ((put { withLink { testLink with rc := ⟨1, 31, 33, 0, 0, false, false, 13, 0, 5⟩ } with rx := [(1, ⟨0x6200, [7], false⟩)], tracks := { world.tracks with lanes := [(71, { (TrkLane.off) with way := [(7, ⟨[0x12], true⟩)] })] } } [(tmBase 71, Rg.TM_STAT.STATE, 3)] : State).mach 71).way.find? (fun p => p.1 == bits 0 32 ((⟨0x6200, [7], false⟩ : QPkt).data.headD 0)) = some (bits 0 32 ((⟨0x6200, [7], false⟩ : QPkt).data.headD 0), (⟨[0x12], true⟩ : DlFrame)) ∧ bits 32 4 ((⟨0x6200, [7], false⟩ : QPkt).data.headD 0) = 0 ∧ ((put { withLink { testLink with rc := ⟨1, 31, 33, 0, 0, false, false, 13, 0, 5⟩ } with rx := [(1, ⟨0x6200, [7], false⟩)], tracks := { world.tracks with lanes := [(71, { (TrkLane.off) with way := [(7, ⟨[0x12], true⟩)] })] } } [(tmBase 71, Rg.TM_STAT.STATE, 3)] : State).mach 71).out = [] := by decide +kernel

end Sys2Proof.Tests
end

