-- ==== Sys2Proof/Tests/Witness13.lean ====
section
/-! SUPPORT. Witnesses: for each clause of a statement a state and operands that meet its hypotheses. -/

set_option Elab.async false

open Sys2Proof Sys2Proof.Machine

namespace Sys2Proof.Tests

theorem witness_StopLatchesAtOnce_1 :
    (2 < 4 ∧ (put { world with stop := { world.stop with pins := 9 } } [(bMpc, Rg.FS_STAT.LATCHED, 0)] : State).on .aon = true ∧ 13 = putBits 2 1 (put { world with stop := { world.stop with pins := 9 } } [(bMpc, Rg.FS_STAT.LATCHED, 0)] : State).stop.pins (b2n true) ∧ 0 = stopChan (bitOf 0 13) (bitOf 1 13) ∧ 2 = stopChan (bitOf 2 13) (bitOf 3 13) ∧ (0 ≠ 0 ∨ 2 ≠ 0)) := by decide +kernel

theorem witness_StopLatchesAtOnce_2 :
    2 < 4 ∧ ({ world with stop := { world.stop with pins := 1 } } : State).on .aon = true ∧ 5 = putBits 2 1 ({ world with stop := { world.stop with pins := 1 } } : State).stop.pins (b2n true) ∧ stopChan (bitOf 0 5) (bitOf 1 5) = 0 ∧ stopChan (bitOf 2 5) (bitOf 3 5) = 0 := by decide +kernel

theorem witness_StopLatchesAtOnce_3 :
    1 < 2 ∧ 2 ≤ ({ world with time := { world.time with ns := 20000000 }, stop := { world.stop with pins := 12, disAt := [none, some 5] } } : State).chanOf 1 ∧ ({ world with time := { world.time with ns := 20000000 }, stop := { world.stop with pins := 12, disAt := [none, some 5] } } : State).stop.disAt.getD 1 none = some 5 ∧ ({ world with time := { world.time with ns := 20000000 }, stop := { world.stop with pins := 12, disAt := [none, some 5] } } : State).passed 5 10 = true := by decide +kernel

theorem witness_StopLatchesAtOnce_4 :
    (((({ world with time := { world.time with ns := 2000000000 }, stop := { world.stop with pins := 9, xmisAt := some 5 } } : State).chanOf 0 = 0 ∧ ({ world with time := { world.time with ns := 2000000000 }, stop := { world.stop with pins := 9, xmisAt := some 5 } } : State).chanOf 1 = 1) ∨ (({ world with time := { world.time with ns := 2000000000 }, stop := { world.stop with pins := 9, xmisAt := some 5 } } : State).chanOf 0 = 1 ∧ ({ world with time := { world.time with ns := 2000000000 }, stop := { world.stop with pins := 9, xmisAt := some 5 } } : State).chanOf 1 = 0)) ∧ ({ world with time := { world.time with ns := 2000000000 }, stop := { world.stop with pins := 9, xmisAt := some 5 } } : State).stop.xmisAt = some 5 ∧ ({ world with time := { world.time with ns := 2000000000 }, stop := { world.stop with pins := 9, xmisAt := some 5 } } : State).passed 5 (max 1 (({ world with time := { world.time with ns := 2000000000 }, stop := { world.stop with pins := 9, xmisAt := some 5 } } : State).get bMpc Rg.FS_CFG.XMIS_MS)) = true) := by decide +kernel

theorem witness_StopLatchesAtOnce_5 :
    mayIsland (put world [(bMpc, Rg.FS_STAT.LATCHED, 0)] : State) (.mp : Master) = true ∧ (put world [(bMpc, Rg.FS_STAT.LATCHED, 0)] : State).on .aon = true := by decide +kernel

theorem witness_StopLatchesAtOnce_6 :
    (put { world with time := { world.time with ns := 4600000 } } [(bMpc, Rg.FS_STAT.LATCHED, 0)] : State).flag bMpc Rg.FS_STAT.SS_OK = true ∧ 500000 ≤ (put { world with time := { world.time with ns := 4600000 } } [(bMpc, Rg.FS_STAT.LATCHED, 0)] : State).slotPhase ∧ (put { world with time := { world.time with ns := 4600000 } } [(bMpc, Rg.FS_STAT.LATCHED, 0)] : State).slotPhase < 1900000 ∧ (put { world with time := { world.time with ns := 4600000 } } [(bMpc, Rg.FS_STAT.LATCHED, 0)] : State).stop.checked ≠ some (put { world with time := { world.time with ns := 4600000 } } [(bMpc, Rg.FS_STAT.LATCHED, 0)] : State).asn ∧ (put { world with time := { world.time with ns := 4600000 } } [(bMpc, Rg.FS_STAT.LATCHED, 0)] : State).slotStopped = false := by decide +kernel

theorem witness_StopLatchesAtOnce_7 :
    ((put { world with time := { world.time with ns := 4600000 }, stop := { world.stop with test := some (4, true), seen := (2, 3) } } [(bMpc, Rg.FS_PORT.ACTIVE, 7)] : State).flag bMpc Rg.FS_STAT.SS_OK = true ∧ 500000 ≤ (put { world with time := { world.time with ns := 4600000 }, stop := { world.stop with test := some (4, true), seen := (2, 3) } } [(bMpc, Rg.FS_PORT.ACTIVE, 7)] : State).slotPhase ∧ (put { world with time := { world.time with ns := 4600000 }, stop := { world.stop with test := some (4, true), seen := (2, 3) } } [(bMpc, Rg.FS_PORT.ACTIVE, 7)] : State).slotPhase < 1900000 ∧ (put { world with time := { world.time with ns := 4600000 }, stop := { world.stop with test := some (4, true), seen := (2, 3) } } [(bMpc, Rg.FS_PORT.ACTIVE, 7)] : State).stop.checked ≠ some (put { world with time := { world.time with ns := 4600000 }, stop := { world.stop with test := some (4, true), seen := (2, 3) } } [(bMpc, Rg.FS_PORT.ACTIVE, 7)] : State).asn ∧ (put { world with time := { world.time with ns := 4600000 }, stop := { world.stop with test := some (4, true), seen := (2, 3) } } [(bMpc, Rg.FS_PORT.ACTIVE, 7)] : State).slotStopped = true ∧ 3 = (if (put { world with time := { world.time with ns := 4600000 }, stop := { world.stop with test := some (4, true), seen := (2, 3) } } [(bMpc, Rg.FS_PORT.ACTIVE, 7)] : State).stop.seen.1 = (put { world with time := { world.time with ns := 4600000 }, stop := { world.stop with test := some (4, true), seen := (2, 3) } } [(bMpc, Rg.FS_PORT.ACTIVE, 7)] : State).asn then (put { world with time := { world.time with ns := 4600000 }, stop := { world.stop with test := some (4, true), seen := (2, 3) } } [(bMpc, Rg.FS_PORT.ACTIVE, 7)] : State).stop.seen.2 else 0)) ∧
    (put { world with time := { world.time with ns := 4600000 }, stop := { world.stop with test := some (4, true), seen := (2, 3) } } [(bMpc, Rg.FS_PORT.ACTIVE, 7)] : State).stop.testFrom ≤ (put { world with time := { world.time with ns := 4600000 }, stop := { world.stop with test := some (4, true), seen := (2, 3) } } [(bMpc, Rg.FS_PORT.ACTIVE, 7)] : State).asn ∧ (put { world with time := { world.time with ns := 4600000 }, stop := { world.stop with test := some (4, true), seen := (2, 3) } } [(bMpc, Rg.FS_PORT.ACTIVE, 7)] : State).flag bMpc Rg.FS_STAT.LATCHED = true ∧ (put { world with time := { world.time with ns := 4600000 }, stop := { world.stop with test := some (4, true), seen := (2, 3) } } [(bMpc, Rg.FS_PORT.ACTIVE, 7)] : State).stop.test = some (4, true) ∧ 4 = (put { world with time := { world.time with ns := 4600000 }, stop := { world.stop with test := some (4, true), seen := (2, 3) } } [(bMpc, Rg.FS_PORT.ACTIVE, 7)] : State).get bMpc Rg.FS_PORT.ACTIVE - ((put { world with time := { world.time with ns := 4600000 }, stop := { world.stop with test := some (4, true), seen := (2, 3) } } [(bMpc, Rg.FS_PORT.ACTIVE, 7)] : State).get bMpc Rg.FS_PORT.ACTIVE &&& 3) := by decide +kernel

theorem witness_StopLatchesAtOnce_8 :
    mayIsland (put world [(bMpc, Rg.FS_STAT.CH0, 0), (bMpc, Rg.FS_STAT.CH1, 0)] : State) (.mp : Master) = true ∧ (put world [(bMpc, Rg.FS_STAT.CH0, 0), (bMpc, Rg.FS_STAT.CH1, 0)] : State).on .aon = true ∧ (put world [(bMpc, Rg.FS_STAT.CH0, 0), (bMpc, Rg.FS_STAT.CH1, 0)] : State).flag bMpc Rg.FS_STAT.LATCHED = true ∧ (put world [(bMpc, Rg.FS_STAT.CH0, 0), (bMpc, Rg.FS_STAT.CH1, 0)] : State).get bMpc Rg.FS_STAT.CH0 = 0 ∧ (put world [(bMpc, Rg.FS_STAT.CH0, 0), (bMpc, Rg.FS_STAT.CH1, 0)] : State).get bMpc Rg.FS_STAT.CH1 = 0 := by decide +kernel

theorem witness_StopLatchesAtOnce_9 :
    (put { world with stop := { world.stop with test := some (10, true) } } [(bMpc, Rg.FS_STAT.TEST, 1)] : State).stop.test = some (10, true) ∧ 10 ≤ 10 ∧ (put { world with stop := { world.stop with test := some (10, true) } } [(bMpc, Rg.FS_STAT.TEST, 1)] : State).get bMpc Rg.FS_STAT.TEST = 1 := by decide +kernel

theorem witness_StopLatchesAtOnce_10 :
    (put (serving 0x50 []) [(bMpc, Rg.FS_STAT.LATCHED, 0)] : State).on .io = true ∧ (put (serving 0x50 []) [(bMpc, Rg.FS_STAT.LATCHED, 0)] : State).fstopOk false = true ∧ (put (serving 0x50 []) [(bMpc, Rg.FS_STAT.LATCHED, 0)] : State).yx.serving = some (yxReq 0x50 [] : YxReq) ∧ yxOp (yxReq 0x50 [] : YxReq).frame = 0x50 := by decide +kernel

theorem witness_StopLatchesAtOnce_11 :
    (put { world with time := { world.time with ns := 200000000 }, stop := { world.stop with runAt := some 5 } } [(bMpc, Rg.FS_STAT.CH0, 0), (bMpc, Rg.FS_STAT.CH1, 0)] : State).stop.runAt = some 5 ∧ (put { world with time := { world.time with ns := 200000000 }, stop := { world.stop with runAt := some 5 } } [(bMpc, Rg.FS_STAT.CH0, 0), (bMpc, Rg.FS_STAT.CH1, 0)] : State).passed 5 (put { world with time := { world.time with ns := 200000000 }, stop := { world.stop with runAt := some 5 } } [(bMpc, Rg.FS_STAT.CH0, 0), (bMpc, Rg.FS_STAT.CH1, 0)] : State).runMin = true ∧ (put { world with time := { world.time with ns := 200000000 }, stop := { world.stop with runAt := some 5 } } [(bMpc, Rg.FS_STAT.CH0, 0), (bMpc, Rg.FS_STAT.CH1, 0)] : State).get bMpc Rg.FS_STAT.CH0 = 0 ∧ (put { world with time := { world.time with ns := 200000000 }, stop := { world.stop with runAt := some 5 } } [(bMpc, Rg.FS_STAT.CH0, 0), (bMpc, Rg.FS_STAT.CH1, 0)] : State).get bMpc Rg.FS_STAT.CH1 = 0 := by decide +kernel

theorem witness_StopReleaseIsChecked_1 :
    (serving 0x51 [] : State).yx.serving = some (yxReq 0x51 [] : YxReq) ∧ yxOp (yxReq 0x51 [] : YxReq).frame = 0x51 := by decide +kernel

theorem witness_StopReleaseIsChecked_2 :
    (put { world with time := { world.time with era := 20 }, stop := { world.stop with chal := true, chalAt := 5 } } [(bMpc, Rg.FS_CHAL.CHAL, 77)] : State).stop.chal = true ∧ (put { world with time := { world.time with era := 20 }, stop := { world.stop with chal := true, chalAt := 5 } } [(bMpc, Rg.FS_CHAL.CHAL, 77)] : State).passed (put { world with time := { world.time with era := 20 }, stop := { world.stop with chal := true, chalAt := 5 } } [(bMpc, Rg.FS_CHAL.CHAL, 77)] : State).stop.chalAt 60000 = true := by decide +kernel

theorem witness_StopReleaseIsChecked_3 :
    (put (keyed { serving 0x52 relPay with stop := { world.stop with pins := 5, chal := true } } 9) [(bMpc, Rg.FS_STAT.RUN_OK, 1), (bMpc, Rg.FS_STAT.TEST, 2), (bMpc, Rg.FS_CFG.REL_SLOT, 9)] : State).yx.serving = some (yxReq 0x52 relPay : YxReq) ∧ (put (keyed { serving 0x52 relPay with stop := { world.stop with pins := 5, chal := true } } 9) [(bMpc, Rg.FS_STAT.RUN_OK, 1), (bMpc, Rg.FS_STAT.TEST, 2), (bMpc, Rg.FS_CFG.REL_SLOT, 9)] : State).yxServing 0x52 = some relPay ∧ (put (keyed { serving 0x52 relPay with stop := { world.stop with pins := 5, chal := true } } 9) [(bMpc, Rg.FS_STAT.RUN_OK, 1), (bMpc, Rg.FS_STAT.TEST, 2), (bMpc, Rg.FS_CFG.REL_SLOT, 9)] : State).releaseCheck (relPay.take 16) 0 = 0 := by decide +kernel

theorem witness_StopReleaseIsChecked_4 :
    (serving 0x52 (List.replicate 16 0) : State).yx.serving = some (yxReq 0x52 (List.replicate 16 0) : YxReq) ∧ (serving 0x52 (List.replicate 16 0) : State).yxServing 0x52 = some (List.replicate 16 0 : List Byte) ∧ 3 = (serving 0x52 (List.replicate 16 0) : State).releaseCheck ((List.replicate 16 0 : List Byte).take 16) 0 ∧ 0 < 3 ∧ 3 < 7 := by decide +kernel

theorem witness_StopReleaseIsChecked_5 :
    (serving 0x53 [] : State).yx.serving = some (yxReq 0x53 [] : YxReq) ∧ yxOp (yxReq 0x53 [] : YxReq).frame = 0x53 := by decide +kernel

end Sys2Proof.Tests
end

