-- ==== Sys2Proof/Tests/Witness14.lean ====
section
/-! SUPPORT. Witnesses: for each clause of a statement a state and operands that meet its hypotheses. -/

set_option Elab.async false

open Sys2Proof Sys2Proof.Machine

namespace Sys2Proof.Tests

theorem witness_TrackTilesAreControlled_1 :
    0 < 4 ∧ mayWriteService (put { world with links := [{ testLink with rc := ⟨1, 32, 83, 0, 0, false, false, 13, 0, 5⟩ }, { testLink with rc := ⟨2, 83, 32, 0, 0, false, false, 13, 0, 5⟩ }, { testLink with rc := ⟨3, 32, 82, 0, 0, false, false, 13, 0, 5⟩ }, { testLink with rc := ⟨4, 82, 32, 0, 0, false, false, 13, 0, 5⟩ }, { testLink with rc := ⟨5, 32, 30, 0, 0, false, false, 13, 0, 5⟩ }, { testLink with rc := ⟨6, 30, 32, 0, 0, false, false, 13, 0, 5⟩ }] } [(bDdr, Rg.DDR_CFG.SIZE, 2), (trkBase 0, Rg.TK_AREA.ADDR, ddrBase), (trkBase 0, Rg.TR_AREA.ADDR, ddrBase), (trkBase 0, Rg.CV_AREA.ADDR, ddrBase), (trkBase 0, Rg.CV_GEOM.CS, 200), (obBase 0, Rg.OB_SV_STAT.STATE, 3), (obBase 0, Rg.OB_CFG.ENCODER, 1), (obBase 0, Rg.OB_SV_STAT.IODS, 5)] : State) (.mp : Master) = true ∧ 0 < (put { world with links := [{ testLink with rc := ⟨1, 32, 83, 0, 0, false, false, 13, 0, 5⟩ }, { testLink with rc := ⟨2, 83, 32, 0, 0, false, false, 13, 0, 5⟩ }, { testLink with rc := ⟨3, 32, 82, 0, 0, false, false, 13, 0, 5⟩ }, { testLink with rc := ⟨4, 82, 32, 0, 0, false, false, 13, 0, 5⟩ }, { testLink with rc := ⟨5, 32, 30, 0, 0, false, false, 13, 0, 5⟩ }, { testLink with rc := ⟨6, 30, 32, 0, 0, false, false, 13, 0, 5⟩ }] } [(bDdr, Rg.DDR_CFG.SIZE, 2), (trkBase 0, Rg.TK_AREA.ADDR, ddrBase), (trkBase 0, Rg.TR_AREA.ADDR, ddrBase), (trkBase 0, Rg.CV_AREA.ADDR, ddrBase), (trkBase 0, Rg.CV_GEOM.CS, 200), (obBase 0, Rg.OB_SV_STAT.STATE, 3), (obBase 0, Rg.OB_CFG.ENCODER, 1), (obBase 0, Rg.OB_SV_STAT.IODS, 5)] : State).lanesAt (trkPos 0) ∧ (put { world with links := [{ testLink with rc := ⟨1, 32, 83, 0, 0, false, false, 13, 0, 5⟩ }, { testLink with rc := ⟨2, 83, 32, 0, 0, false, false, 13, 0, 5⟩ }, { testLink with rc := ⟨3, 32, 82, 0, 0, false, false, 13, 0, 5⟩ }, { testLink with rc := ⟨4, 82, 32, 0, 0, false, false, 13, 0, 5⟩ }, { testLink with rc := ⟨5, 32, 30, 0, 0, false, false, 13, 0, 5⟩ }, { testLink with rc := ⟨6, 30, 32, 0, 0, false, false, 13, 0, 5⟩ }] } [(bDdr, Rg.DDR_CFG.SIZE, 2), (trkBase 0, Rg.TK_AREA.ADDR, ddrBase), (trkBase 0, Rg.TR_AREA.ADDR, ddrBase), (trkBase 0, Rg.CV_AREA.ADDR, ddrBase), (trkBase 0, Rg.CV_GEOM.CS, 200), (obBase 0, Rg.OB_SV_STAT.STATE, 3), (obBase 0, Rg.OB_CFG.ENCODER, 1), (obBase 0, Rg.OB_SV_STAT.IODS, 5)] : State).on (domOf (islandOf (trkPos 0))) = true ∧
    (put { world with links := [{ testLink with rc := ⟨1, 32, 83, 0, 0, false, false, 13, 0, 5⟩ }, { testLink with rc := ⟨2, 83, 32, 0, 0, false, false, 13, 0, 5⟩ }, { testLink with rc := ⟨3, 32, 82, 0, 0, false, false, 13, 0, 5⟩ }, { testLink with rc := ⟨4, 82, 32, 0, 0, false, false, 13, 0, 5⟩ }, { testLink with rc := ⟨5, 32, 30, 0, 0, false, false, 13, 0, 5⟩ }, { testLink with rc := ⟨6, 30, 32, 0, 0, false, false, 13, 0, 5⟩ }] } [(bDdr, Rg.DDR_CFG.SIZE, 2), (trkBase 0, Rg.TK_AREA.ADDR, ddrBase), (trkBase 0, Rg.TR_AREA.ADDR, ddrBase), (trkBase 0, Rg.CV_AREA.ADDR, ddrBase), (trkBase 0, Rg.CV_GEOM.CS, 200), (obBase 0, Rg.OB_SV_STAT.STATE, 3), (obBase 0, Rg.OB_CFG.ENCODER, 1), (obBase 0, Rg.OB_SV_STAT.IODS, 5)] : State).flag (trkBase 0) Rg.TK_CTRL.EN = false ∧ (put { world with links := [{ testLink with rc := ⟨1, 32, 83, 0, 0, false, false, 13, 0, 5⟩ }, { testLink with rc := ⟨2, 83, 32, 0, 0, false, false, 13, 0, 5⟩ }, { testLink with rc := ⟨3, 32, 82, 0, 0, false, false, 13, 0, 5⟩ }, { testLink with rc := ⟨4, 82, 32, 0, 0, false, false, 13, 0, 5⟩ }, { testLink with rc := ⟨5, 32, 30, 0, 0, false, false, 13, 0, 5⟩ }, { testLink with rc := ⟨6, 30, 32, 0, 0, false, false, 13, 0, 5⟩ }] } [(bDdr, Rg.DDR_CFG.SIZE, 2), (trkBase 0, Rg.TK_AREA.ADDR, ddrBase), (trkBase 0, Rg.TR_AREA.ADDR, ddrBase), (trkBase 0, Rg.CV_AREA.ADDR, ddrBase), (trkBase 0, Rg.CV_GEOM.CS, 200), (obBase 0, Rg.OB_SV_STAT.STATE, 3), (obBase 0, Rg.OB_CFG.ENCODER, 1), (obBase 0, Rg.OB_SV_STAT.IODS, 5)] : State).trkRefusal 0 = 0 := by decide +kernel

theorem witness_TrackTilesAreControlled_2 :
    1 < 4 ∧ mayWriteService (put { world with tracks := ⟨[], [], [1, 2], [(1, 5), (0, 3)]⟩ } [(trkBase 1, Rg.TK_CTRL.EN, 1)] : State) (.mp : Master) = true ∧ 0 < (put { world with tracks := ⟨[], [], [1, 2], [(1, 5), (0, 3)]⟩ } [(trkBase 1, Rg.TK_CTRL.EN, 1)] : State).lanesAt (trkPos 1) ∧ (put { world with tracks := ⟨[], [], [1, 2], [(1, 5), (0, 3)]⟩ } [(trkBase 1, Rg.TK_CTRL.EN, 1)] : State).on (domOf (islandOf (trkPos 1))) = true ∧
    (put { world with tracks := ⟨[], [], [1, 2], [(1, 5), (0, 3)]⟩ } [(trkBase 1, Rg.TK_CTRL.EN, 1)] : State).flag (trkBase 1) Rg.TK_CTRL.EN = true ∧ (List.range 64).all (fun n => (put { world with tracks := ⟨[], [], [1, 2], [(1, 5), (0, 3)]⟩ } [(trkBase 1, Rg.TK_CTRL.EN, 1)] : State).tmState (1 * 64 + n) == 0) = true := by decide +kernel

theorem witness_TrackTilesAreControlled_3 :
    (put world [(trkBase 1, Rg.TK_CTRL.EN, 1), (trkBase 1, Rg.TK_STAT.IODS, 5)] : State).trkOn 1 = true ∧ (put world [(trkBase 1, Rg.TK_CTRL.EN, 1), (trkBase 1, Rg.TK_STAT.IODS, 5)] : State).iods ≠ (put world [(trkBase 1, Rg.TK_CTRL.EN, 1), (trkBase 1, Rg.TK_STAT.IODS, 5)] : State).get (trkBase 1) Rg.TK_STAT.IODS ∧ (put world [(trkBase 1, Rg.TK_CTRL.EN, 1), (trkBase 1, Rg.TK_STAT.IODS, 5)] : State).tracks.frozen.contains 1 = false ∧ (List.range 64).all (fun n => (put world [(trkBase 1, Rg.TK_CTRL.EN, 1), (trkBase 1, Rg.TK_STAT.IODS, 5)] : State).tmState (1 * 64 + n) != 4) = true := by decide +kernel

theorem witness_TrackTilesAreControlled_4 :
    1 < 4 ∧ 31 < 32 ∧ mayWriteService world (.mp : Master) = true ∧ 0 < world.lanesAt (trkPos 1) ∧ world.on (domOf (islandOf (trkPos 1))) = true ∧
    bits 48 16 (0x1388_03E8_0064_00C8 : Nat) ≠ 0 ∧ bits 0 16 (0x1388_03E8_0064_00C8 : Nat) ≤ bits 32 16 (0x1388_03E8_0064_00C8 : Nat) ∧ bits 16 16 (0x1388_03E8_0064_00C8 : Nat) ≤ bits 32 16 (0x1388_03E8_0064_00C8 : Nat) ∧ bits 32 16 (0x1388_03E8_0064_00C8 : Nat) ≤ bits 48 16 (0x1388_03E8_0064_00C8 : Nat) ∧ world.lanesUsing 1 31 = [] := by decide +kernel

theorem witness_TrackTilesAreControlled_5 :
    1 < 4 ∧ 31 < 32 ∧ mayWriteService world (.mp : Master) = true ∧ 0 < world.lanesAt (trkPos 1) ∧ world.on (domOf (islandOf (trkPos 1))) = true ∧ bits 48 16 5 = 0 := by decide +kernel

theorem witness_TrackTilesAreControlled_6 :
    1 < 4 ∧ 31 < 32 ∧ mayWriteService world (.mp : Master) = true ∧ 0 < world.lanesAt (trkPos 1) ∧ world.on (domOf (islandOf (trkPos 1))) = true ∧
    bits 0 16 (0x1388_03E8_0064_00C8 : Nat) ≠ 0 ∧ bits 16 16 (0x1388_03E8_0064_00C8 : Nat) ≠ 0 ∧ bits 32 16 (0x1388_03E8_0064_00C8 : Nat) ≠ 0 ∧ bits 48 16 (0x1388_03E8_0064_00C8 : Nat) ≠ 0 ∧ world.lanesUsing 1 31 = [] := by decide +kernel

theorem witness_TrackTilesAreControlled_7 :
    1 < 4 ∧ mayWriteService world (.mp : Master) = true ∧ 0 < world.lanesAt (trkPos 1) ∧ world.on (domOf (islandOf (trkPos 1))) = true ∧ world.get (trkBase 1) Rg.TK_SUBRES.STATUS ≠ 15 := by decide +kernel

theorem witness_TrackTilesAreControlled_8 :
    1 < 4 ∧ (put { ((put world [(bDdr, Rg.DDR_CFG.SIZE, 2)]).memWrite (ddrBase + 128) ([2] ++ List.replicate 23 0 ++ [9] ++ List.replicate 39 0)).1 with disp := { world.disp with flows := [⟨9, 1, 33, 4, 7⟩] }, tracks := ⟨[], [], [], [(1, 2 + 7 * 2 ^ 20)]⟩ } [(trkBase 1, Rg.TK_AREA.ADDR, ddrBase), (trkBase 1, Rg.TK_AREA.COUNT, 4), (trkBase 1, Rg.TK_CTRL.EN, 1), (trkBase 1, Rg.TK_PROFV.V_MAX, 100), (tmBase 71, Rg.TM_CFG.TASK_FLOW, 9)] : State).tracks.subs.find? (fun p => p.1 == 1) = some (1, (2 + 7 * 2 ^ 20 : Nat)) ∧ 71 = 1 * 64 + bits 20 6 (2 + 7 * 2 ^ 20 : Nat) ∧ 0 < (put { ((put world [(bDdr, Rg.DDR_CFG.SIZE, 2)]).memWrite (ddrBase + 128) ([2] ++ List.replicate 23 0 ++ [9] ++ List.replicate 39 0)).1 with disp := { world.disp with flows := [⟨9, 1, 33, 4, 7⟩] }, tracks := ⟨[], [], [], [(1, 2 + 7 * 2 ^ 20)]⟩ } [(trkBase 1, Rg.TK_AREA.ADDR, ddrBase), (trkBase 1, Rg.TK_AREA.COUNT, 4), (trkBase 1, Rg.TK_CTRL.EN, 1), (trkBase 1, Rg.TK_PROFV.V_MAX, 100), (tmBase 71, Rg.TM_CFG.TASK_FLOW, 9)] : State).disp.freeCount 1 ∧ bits 0 20 (2 + 7 * 2 ^ 20 : Nat) < (put { ((put world [(bDdr, Rg.DDR_CFG.SIZE, 2)]).memWrite (ddrBase + 128) ([2] ++ List.replicate 23 0 ++ [9] ++ List.replicate 39 0)).1 with disp := { world.disp with flows := [⟨9, 1, 33, 4, 7⟩] }, tracks := ⟨[], [], [], [(1, 2 + 7 * 2 ^ 20)]⟩ } [(trkBase 1, Rg.TK_AREA.ADDR, ddrBase), (trkBase 1, Rg.TK_AREA.COUNT, 4), (trkBase 1, Rg.TK_CTRL.EN, 1), (trkBase 1, Rg.TK_PROFV.V_MAX, 100), (tmBase 71, Rg.TM_CFG.TASK_FLOW, 9)] : State).get (trkBase 1) Rg.TK_AREA.COUNT ∧
    (put { ((put world [(bDdr, Rg.DDR_CFG.SIZE, 2)]).memWrite (ddrBase + 128) ([2] ++ List.replicate 23 0 ++ [9] ++ List.replicate 39 0)).1 with disp := { world.disp with flows := [⟨9, 1, 33, 4, 7⟩] }, tracks := ⟨[], [], [], [(1, 2 + 7 * 2 ^ 20)]⟩ } [(trkBase 1, Rg.TK_AREA.ADDR, ddrBase), (trkBase 1, Rg.TK_AREA.COUNT, 4), (trkBase 1, Rg.TK_CTRL.EN, 1), (trkBase 1, Rg.TK_PROFV.V_MAX, 100), (tmBase 71, Rg.TM_CFG.TASK_FLOW, 9)] : State).trkLaneOn 71 = true ∧ (put { ((put world [(bDdr, Rg.DDR_CFG.SIZE, 2)]).memWrite (ddrBase + 128) ([2] ++ List.replicate 23 0 ++ [9] ++ List.replicate 39 0)).1 with disp := { world.disp with flows := [⟨9, 1, 33, 4, 7⟩] }, tracks := ⟨[], [], [], [(1, 2 + 7 * 2 ^ 20)]⟩ } [(trkBase 1, Rg.TK_AREA.ADDR, ddrBase), (trkBase 1, Rg.TK_AREA.COUNT, 4), (trkBase 1, Rg.TK_CTRL.EN, 1), (trkBase 1, Rg.TK_PROFV.V_MAX, 100), (tmBase 71, Rg.TM_CFG.TASK_FLOW, 9)] : State).disp.assigned ((put { ((put world [(bDdr, Rg.DDR_CFG.SIZE, 2)]).memWrite (ddrBase + 128) ([2] ++ List.replicate 23 0 ++ [9] ++ List.replicate 39 0)).1 with disp := { world.disp with flows := [⟨9, 1, 33, 4, 7⟩] }, tracks := ⟨[], [], [], [(1, 2 + 7 * 2 ^ 20)]⟩ } [(trkBase 1, Rg.TK_AREA.ADDR, ddrBase), (trkBase 1, Rg.TK_AREA.COUNT, 4), (trkBase 1, Rg.TK_CTRL.EN, 1), (trkBase 1, Rg.TK_PROFV.V_MAX, 100), (tmBase 71, Rg.TM_CFG.TASK_FLOW, 9)] : State).get (tmBase 71) Rg.TM_CFG.TASK_FLOW) = true ∧ ((put { ((put world [(bDdr, Rg.DDR_CFG.SIZE, 2)]).memWrite (ddrBase + 128) ([2] ++ List.replicate 23 0 ++ [9] ++ List.replicate 39 0)).1 with disp := { world.disp with flows := [⟨9, 1, 33, 4, 7⟩] }, tracks := ⟨[], [], [], [(1, 2 + 7 * 2 ^ 20)]⟩ } [(trkBase 1, Rg.TK_AREA.ADDR, ddrBase), (trkBase 1, Rg.TK_AREA.COUNT, 4), (trkBase 1, Rg.TK_CTRL.EN, 1), (trkBase 1, Rg.TK_PROFV.V_MAX, 100), (tmBase 71, Rg.TM_CFG.TASK_FLOW, 9)] : State).readTask 1 (bits 0 20 (2 + 7 * 2 ^ 20 : Nat)) 0).2 = some ((⟨0, 2, 0, 0, 0, 0, 0, 0, 0, 9⟩ : TrkTask), ([2] ++ List.replicate 23 0 ++ [9] ++ List.replicate 39 0 : List Byte), ([] : List Byte)) ∧ (put { ((put world [(bDdr, Rg.DDR_CFG.SIZE, 2)]).memWrite (ddrBase + 128) ([2] ++ List.replicate 23 0 ++ [9] ++ List.replicate 39 0)).1 with disp := { world.disp with flows := [⟨9, 1, 33, 4, 7⟩] }, tracks := ⟨[], [], [], [(1, 2 + 7 * 2 ^ 20)]⟩ } [(trkBase 1, Rg.TK_AREA.ADDR, ddrBase), (trkBase 1, Rg.TK_AREA.COUNT, 4), (trkBase 1, Rg.TK_CTRL.EN, 1), (trkBase 1, Rg.TK_PROFV.V_MAX, 100), (tmBase 71, Rg.TM_CFG.TASK_FLOW, 9)] : State).recordCode 1 ([2] ++ List.replicate 23 0 ++ [9] ++ List.replicate 39 0 : List Byte) (⟨0, 2, 0, 0, 0, 0, 0, 0, 0, 9⟩ : TrkTask) ([] : List Byte) = 0 ∧
    0 < (put { ((put world [(bDdr, Rg.DDR_CFG.SIZE, 2)]).memWrite (ddrBase + 128) ([2] ++ List.replicate 23 0 ++ [9] ++ List.replicate 39 0)).1 with disp := { world.disp with flows := [⟨9, 1, 33, 4, 7⟩] }, tracks := ⟨[], [], [], [(1, 2 + 7 * 2 ^ 20)]⟩ } [(trkBase 1, Rg.TK_AREA.ADDR, ddrBase), (trkBase 1, Rg.TK_AREA.COUNT, 4), (trkBase 1, Rg.TK_CTRL.EN, 1), (trkBase 1, Rg.TK_PROFV.V_MAX, 100), (tmBase 71, Rg.TM_CFG.TASK_FLOW, 9)] : State).disp.freeCount ((put { ((put world [(bDdr, Rg.DDR_CFG.SIZE, 2)]).memWrite (ddrBase + 128) ([2] ++ List.replicate 23 0 ++ [9] ++ List.replicate 39 0)).1 with disp := { world.disp with flows := [⟨9, 1, 33, 4, 7⟩] }, tracks := ⟨[], [], [], [(1, 2 + 7 * 2 ^ 20)]⟩ } [(trkBase 1, Rg.TK_AREA.ADDR, ddrBase), (trkBase 1, Rg.TK_AREA.COUNT, 4), (trkBase 1, Rg.TK_CTRL.EN, 1), (trkBase 1, Rg.TK_PROFV.V_MAX, 100), (tmBase 71, Rg.TM_CFG.TASK_FLOW, 9)] : State).disp.flowOf ((put { ((put world [(bDdr, Rg.DDR_CFG.SIZE, 2)]).memWrite (ddrBase + 128) ([2] ++ List.replicate 23 0 ++ [9] ++ List.replicate 39 0)).1 with disp := { world.disp with flows := [⟨9, 1, 33, 4, 7⟩] }, tracks := ⟨[], [], [], [(1, 2 + 7 * 2 ^ 20)]⟩ } [(trkBase 1, Rg.TK_AREA.ADDR, ddrBase), (trkBase 1, Rg.TK_AREA.COUNT, 4), (trkBase 1, Rg.TK_CTRL.EN, 1), (trkBase 1, Rg.TK_PROFV.V_MAX, 100), (tmBase 71, Rg.TM_CFG.TASK_FLOW, 9)] : State).get (tmBase 71) Rg.TM_CFG.TASK_FLOW)).part ∧ (put { ((put world [(bDdr, Rg.DDR_CFG.SIZE, 2)]).memWrite (ddrBase + 128) ([2] ++ List.replicate 23 0 ++ [9] ++ List.replicate 39 0)).1 with disp := { world.disp with flows := [⟨9, 1, 33, 4, 7⟩] }, tracks := ⟨[], [], [], [(1, 2 + 7 * 2 ^ 20)]⟩ } [(trkBase 1, Rg.TK_AREA.ADDR, ddrBase), (trkBase 1, Rg.TK_AREA.COUNT, 4), (trkBase 1, Rg.TK_CTRL.EN, 1), (trkBase 1, Rg.TK_PROFV.V_MAX, 100), (tmBase 71, Rg.TM_CFG.TASK_FLOW, 9)] : State).disp.entries = [] := by decide +kernel

theorem witness_TrackTilesAreControlled_9 :
    (put { world with tracks := ⟨[], [⟨0, 3, 5, 6, 7, 8, 18, 200, 300, false, false⟩], [], []⟩ } [(trkBase 0, Rg.TR_REQ0.E, 5), (trkBase 0, Rg.TR_REQ0.N, 6), (trkBase 0, Rg.TR_REQ1.E, 7), (trkBase 0, Rg.TR_REQ1.N, 8), (trkBase 0, Rg.TR_REQ2.T_START, 100), (trkBase 0, Rg.TR_REQ3.T_END, 200), (trkBase 0, Rg.TR_REQ4.HALF_W, 9)] : State).trkHome = some 0 ∧ mayWriteService (put { world with tracks := ⟨[], [⟨0, 3, 5, 6, 7, 8, 18, 200, 300, false, false⟩], [], []⟩ } [(trkBase 0, Rg.TR_REQ0.E, 5), (trkBase 0, Rg.TR_REQ0.N, 6), (trkBase 0, Rg.TR_REQ1.E, 7), (trkBase 0, Rg.TR_REQ1.N, 8), (trkBase 0, Rg.TR_REQ2.T_START, 100), (trkBase 0, Rg.TR_REQ3.T_END, 200), (trkBase 0, Rg.TR_REQ4.HALF_W, 9)] : State) (.mp : Master) = true ∧ 0 < (put { world with tracks := ⟨[], [⟨0, 3, 5, 6, 7, 8, 18, 200, 300, false, false⟩], [], []⟩ } [(trkBase 0, Rg.TR_REQ0.E, 5), (trkBase 0, Rg.TR_REQ0.N, 6), (trkBase 0, Rg.TR_REQ1.E, 7), (trkBase 0, Rg.TR_REQ1.N, 8), (trkBase 0, Rg.TR_REQ2.T_START, 100), (trkBase 0, Rg.TR_REQ3.T_END, 200), (trkBase 0, Rg.TR_REQ4.HALF_W, 9)] : State).lanesAt (trkPos 0) ∧ (put { world with tracks := ⟨[], [⟨0, 3, 5, 6, 7, 8, 18, 200, 300, false, false⟩], [], []⟩ } [(trkBase 0, Rg.TR_REQ0.E, 5), (trkBase 0, Rg.TR_REQ0.N, 6), (trkBase 0, Rg.TR_REQ1.E, 7), (trkBase 0, Rg.TR_REQ1.N, 8), (trkBase 0, Rg.TR_REQ2.T_START, 100), (trkBase 0, Rg.TR_REQ3.T_END, 200), (trkBase 0, Rg.TR_REQ4.HALF_W, 9)] : State).on (domOf (islandOf (trkPos 0))) = true ∧ (put { world with tracks := ⟨[], [⟨0, 3, 5, 6, 7, 8, 18, 200, 300, false, false⟩], [], []⟩ } [(trkBase 0, Rg.TR_REQ0.E, 5), (trkBase 0, Rg.TR_REQ0.N, 6), (trkBase 0, Rg.TR_REQ1.E, 7), (trkBase 0, Rg.TR_REQ1.N, 8), (trkBase 0, Rg.TR_REQ2.T_START, 100), (trkBase 0, Rg.TR_REQ3.T_END, 200), (trkBase 0, Rg.TR_REQ4.HALF_W, 9)] : State).get (trkBase 0) Rg.TR_RES.STATUS ≠ 15 ∧
    (⟨0, ownerSw, 5, 6, 7, 8, 18, 100, 200, false, false⟩ : Resv) = ⟨0, ownerSw, (put { world with tracks := ⟨[], [⟨0, 3, 5, 6, 7, 8, 18, 200, 300, false, false⟩], [], []⟩ } [(trkBase 0, Rg.TR_REQ0.E, 5), (trkBase 0, Rg.TR_REQ0.N, 6), (trkBase 0, Rg.TR_REQ1.E, 7), (trkBase 0, Rg.TR_REQ1.N, 8), (trkBase 0, Rg.TR_REQ2.T_START, 100), (trkBase 0, Rg.TR_REQ3.T_END, 200), (trkBase 0, Rg.TR_REQ4.HALF_W, 9)] : State).getS (trkBase 0) Rg.TR_REQ0.E, (put { world with tracks := ⟨[], [⟨0, 3, 5, 6, 7, 8, 18, 200, 300, false, false⟩], [], []⟩ } [(trkBase 0, Rg.TR_REQ0.E, 5), (trkBase 0, Rg.TR_REQ0.N, 6), (trkBase 0, Rg.TR_REQ1.E, 7), (trkBase 0, Rg.TR_REQ1.N, 8), (trkBase 0, Rg.TR_REQ2.T_START, 100), (trkBase 0, Rg.TR_REQ3.T_END, 200), (trkBase 0, Rg.TR_REQ4.HALF_W, 9)] : State).getS (trkBase 0) Rg.TR_REQ0.N, (put { world with tracks := ⟨[], [⟨0, 3, 5, 6, 7, 8, 18, 200, 300, false, false⟩], [], []⟩ } [(trkBase 0, Rg.TR_REQ0.E, 5), (trkBase 0, Rg.TR_REQ0.N, 6), (trkBase 0, Rg.TR_REQ1.E, 7), (trkBase 0, Rg.TR_REQ1.N, 8), (trkBase 0, Rg.TR_REQ2.T_START, 100), (trkBase 0, Rg.TR_REQ3.T_END, 200), (trkBase 0, Rg.TR_REQ4.HALF_W, 9)] : State).getS (trkBase 0) Rg.TR_REQ1.E, (put { world with tracks := ⟨[], [⟨0, 3, 5, 6, 7, 8, 18, 200, 300, false, false⟩], [], []⟩ } [(trkBase 0, Rg.TR_REQ0.E, 5), (trkBase 0, Rg.TR_REQ0.N, 6), (trkBase 0, Rg.TR_REQ1.E, 7), (trkBase 0, Rg.TR_REQ1.N, 8), (trkBase 0, Rg.TR_REQ2.T_START, 100), (trkBase 0, Rg.TR_REQ3.T_END, 200), (trkBase 0, Rg.TR_REQ4.HALF_W, 9)] : State).getS (trkBase 0) Rg.TR_REQ1.N, 2 * (put { world with tracks := ⟨[], [⟨0, 3, 5, 6, 7, 8, 18, 200, 300, false, false⟩], [], []⟩ } [(trkBase 0, Rg.TR_REQ0.E, 5), (trkBase 0, Rg.TR_REQ0.N, 6), (trkBase 0, Rg.TR_REQ1.E, 7), (trkBase 0, Rg.TR_REQ1.N, 8), (trkBase 0, Rg.TR_REQ2.T_START, 100), (trkBase 0, Rg.TR_REQ3.T_END, 200), (trkBase 0, Rg.TR_REQ4.HALF_W, 9)] : State).get (trkBase 0) Rg.TR_REQ4.HALF_W, (put { world with tracks := ⟨[], [⟨0, 3, 5, 6, 7, 8, 18, 200, 300, false, false⟩], [], []⟩ } [(trkBase 0, Rg.TR_REQ0.E, 5), (trkBase 0, Rg.TR_REQ0.N, 6), (trkBase 0, Rg.TR_REQ1.E, 7), (trkBase 0, Rg.TR_REQ1.N, 8), (trkBase 0, Rg.TR_REQ2.T_START, 100), (trkBase 0, Rg.TR_REQ3.T_END, 200), (trkBase 0, Rg.TR_REQ4.HALF_W, 9)] : State).get (trkBase 0) Rg.TR_REQ2.T_START, (put { world with tracks := ⟨[], [⟨0, 3, 5, 6, 7, 8, 18, 200, 300, false, false⟩], [], []⟩ } [(trkBase 0, Rg.TR_REQ0.E, 5), (trkBase 0, Rg.TR_REQ0.N, 6), (trkBase 0, Rg.TR_REQ1.E, 7), (trkBase 0, Rg.TR_REQ1.N, 8), (trkBase 0, Rg.TR_REQ2.T_START, 100), (trkBase 0, Rg.TR_REQ3.T_END, 200), (trkBase 0, Rg.TR_REQ4.HALF_W, 9)] : State).get (trkBase 0) Rg.TR_REQ3.T_END, false, false⟩ ∧
    (⟨0, ownerSw, 5, 6, 7, 8, 18, 100, 200, false, false⟩ : Resv).from_ < (⟨0, ownerSw, 5, 6, 7, 8, 18, 100, 200, false, false⟩ : Resv).till ∧ (⟨0, ownerSw, 5, 6, 7, 8, 18, 100, 200, false, false⟩ : Resv).half2 ≠ 0 ∧ (put { world with tracks := ⟨[], [⟨0, 3, 5, 6, 7, 8, 18, 200, 300, false, false⟩], [], []⟩ } [(trkBase 0, Rg.TR_REQ0.E, 5), (trkBase 0, Rg.TR_REQ0.N, 6), (trkBase 0, Rg.TR_REQ1.E, 7), (trkBase 0, Rg.TR_REQ1.N, 8), (trkBase 0, Rg.TR_REQ2.T_START, 100), (trkBase 0, Rg.TR_REQ3.T_END, 200), (trkBase 0, Rg.TR_REQ4.HALF_W, 9)] : State).tracks.table.all (fun y => !(⟨0, ownerSw, 5, 6, 7, 8, 18, 100, 200, false, false⟩ : Resv).conflicts y) = true ∧ (put { world with tracks := ⟨[], [⟨0, 3, 5, 6, 7, 8, 18, 200, 300, false, false⟩], [], []⟩ } [(trkBase 0, Rg.TR_REQ0.E, 5), (trkBase 0, Rg.TR_REQ0.N, 6), (trkBase 0, Rg.TR_REQ1.E, 7), (trkBase 0, Rg.TR_REQ1.N, 8), (trkBase 0, Rg.TR_REQ2.T_START, 100), (trkBase 0, Rg.TR_REQ3.T_END, 200), (trkBase 0, Rg.TR_REQ4.HALF_W, 9)] : State).tracks.table.length < 65536 := by decide +kernel

theorem witness_TrackTilesAreControlled_10 :
    (put { world with tracks := ⟨[], [⟨3, 3, 5, 6, 7, 8, 18, 200, 300, false, false⟩], [], []⟩ } [(trkBase 0, Rg.TR_REQ4.ID, 3)] : State).trkHome = some 0 ∧ mayWriteService (put { world with tracks := ⟨[], [⟨3, 3, 5, 6, 7, 8, 18, 200, 300, false, false⟩], [], []⟩ } [(trkBase 0, Rg.TR_REQ4.ID, 3)] : State) (.mp : Master) = true ∧ 0 < (put { world with tracks := ⟨[], [⟨3, 3, 5, 6, 7, 8, 18, 200, 300, false, false⟩], [], []⟩ } [(trkBase 0, Rg.TR_REQ4.ID, 3)] : State).lanesAt (trkPos 0) ∧ (put { world with tracks := ⟨[], [⟨3, 3, 5, 6, 7, 8, 18, 200, 300, false, false⟩], [], []⟩ } [(trkBase 0, Rg.TR_REQ4.ID, 3)] : State).on (domOf (islandOf (trkPos 0))) = true ∧ (put { world with tracks := ⟨[], [⟨3, 3, 5, 6, 7, 8, 18, 200, 300, false, false⟩], [], []⟩ } [(trkBase 0, Rg.TR_REQ4.ID, 3)] : State).get (trkBase 0) Rg.TR_RES.STATUS ≠ 15 ∧
    3 = (put { world with tracks := ⟨[], [⟨3, 3, 5, 6, 7, 8, 18, 200, 300, false, false⟩], [], []⟩ } [(trkBase 0, Rg.TR_REQ4.ID, 3)] : State).get (trkBase 0) Rg.TR_REQ4.ID := by decide +kernel

theorem witness_TrackTilesAreControlled_11 :
    (({ world with time := { world.time with era := 3 }, tracks := ⟨[], [⟨3, 3, 5, 6, 7, 8, 18, 200, 300, false, false⟩, ⟨4, 3, 5, 6, 7, 8, 18, 200, 300, false, false⟩], [], []⟩ } : State).tracks.table.any (fun y => y.id == 3 && !y.held && decide (y.till ≤ ({ world with time := { world.time with era := 3 }, tracks := ⟨[], [⟨3, 3, 5, 6, 7, 8, 18, 200, 300, false, false⟩, ⟨4, 3, 5, 6, 7, 8, 18, 200, 300, false, false⟩], [], []⟩ } : State).nowNs))) = true := by decide +kernel

theorem witness_MachineLanesFollowTheirTasks_1 :
    (put { ((put world [(bDdr, Rg.DDR_CFG.SIZE, 2)]).memWrite (ddrBase + 128) ([2] ++ List.replicate 23 0 ++ [9] ++ List.replicate 39 0)).1 with disp := { world.disp with flows := [⟨9, 1, 33, 4, 7⟩], entries := [⟨0, 0, 1, 9, 0, 2, 0, false, false, .inService, 0, none, [], none, none, 0, none⟩] } } [(trkBase 1, Rg.TK_AREA.ADDR, ddrBase), (trkBase 1, Rg.TK_CTRL.EN, 1), (tmBase 71, Rg.TM_CFG.TASK_FLOW, 9)] : State).disp.find 0 = some (⟨0, 0, 1, 9, 0, 2, 0, false, false, .inService, 0, none, [], none, none, 0, none⟩ : Entry) ∧ (⟨0, 0, 1, 9, 0, 2, 0, false, false, .inService, 0, none, [], none, none, 0, none⟩ : Entry).handle = 0 ∧ (put { ((put world [(bDdr, Rg.DDR_CFG.SIZE, 2)]).memWrite (ddrBase + 128) ([2] ++ List.replicate 23 0 ++ [9] ++ List.replicate 39 0)).1 with disp := { world.disp with flows := [⟨9, 1, 33, 4, 7⟩], entries := [⟨0, 0, 1, 9, 0, 2, 0, false, false, .inService, 0, none, [], none, none, 0, none⟩] } } [(trkBase 1, Rg.TK_AREA.ADDR, ddrBase), (trkBase 1, Rg.TK_CTRL.EN, 1), (tmBase 71, Rg.TM_CFG.TASK_FLOW, 9)] : State).flowMachine (⟨0, 0, 1, 9, 0, 2, 0, false, false, .inService, 0, none, [], none, none, 0, none⟩ : Entry).flow = some 71 ∧ (⟨0, 0, 1, 9, 0, 2, 0, false, false, .inService, 0, none, [], none, none, 0, none⟩ : Entry).st = EState.inService ∧ (put { ((put world [(bDdr, Rg.DDR_CFG.SIZE, 2)]).memWrite (ddrBase + 128) ([2] ++ List.replicate 23 0 ++ [9] ++ List.replicate 39 0)).1 with disp := { world.disp with flows := [⟨9, 1, 33, 4, 7⟩], entries := [⟨0, 0, 1, 9, 0, 2, 0, false, false, .inService, 0, none, [], none, none, 0, none⟩] } } [(trkBase 1, Rg.TK_AREA.ADDR, ddrBase), (trkBase 1, Rg.TK_CTRL.EN, 1), (tmBase 71, Rg.TM_CFG.TASK_FLOW, 9)] : State).trkLaneOn 71 = true ∧ (put { ((put world [(bDdr, Rg.DDR_CFG.SIZE, 2)]).memWrite (ddrBase + 128) ([2] ++ List.replicate 23 0 ++ [9] ++ List.replicate 39 0)).1 with disp := { world.disp with flows := [⟨9, 1, 33, 4, 7⟩], entries := [⟨0, 0, 1, 9, 0, 2, 0, false, false, .inService, 0, none, [], none, none, 0, none⟩] } } [(trkBase 1, Rg.TK_AREA.ADDR, ddrBase), (trkBase 1, Rg.TK_CTRL.EN, 1), (tmBase 71, Rg.TM_CFG.TASK_FLOW, 9)] : State).get (tmBase 71) Rg.TM_CFG.TASK_FLOW = (⟨0, 0, 1, 9, 0, 2, 0, false, false, .inService, 0, none, [], none, none, 0, none⟩ : Entry).flow ∧ (put { ((put world [(bDdr, Rg.DDR_CFG.SIZE, 2)]).memWrite (ddrBase + 128) ([2] ++ List.replicate 23 0 ++ [9] ++ List.replicate 39 0)).1 with disp := { world.disp with flows := [⟨9, 1, 33, 4, 7⟩], entries := [⟨0, 0, 1, 9, 0, 2, 0, false, false, .inService, 0, none, [], none, none, 0, none⟩] } } [(trkBase 1, Rg.TK_AREA.ADDR, ddrBase), (trkBase 1, Rg.TK_CTRL.EN, 1), (tmBase 71, Rg.TM_CFG.TASK_FLOW, 9)] : State).tmState 71 = 0 ∧ (put { ((put world [(bDdr, Rg.DDR_CFG.SIZE, 2)]).memWrite (ddrBase + 128) ([2] ++ List.replicate 23 0 ++ [9] ++ List.replicate 39 0)).1 with disp := { world.disp with flows := [⟨9, 1, 33, 4, 7⟩], entries := [⟨0, 0, 1, 9, 0, 2, 0, false, false, .inService, 0, none, [], none, none, 0, none⟩] } } [(trkBase 1, Rg.TK_AREA.ADDR, ddrBase), (trkBase 1, Rg.TK_CTRL.EN, 1), (tmBase 71, Rg.TM_CFG.TASK_FLOW, 9)] : State).mode ≠ .maintenance ∧
    ((put { ((put world [(bDdr, Rg.DDR_CFG.SIZE, 2)]).memWrite (ddrBase + 128) ([2] ++ List.replicate 23 0 ++ [9] ++ List.replicate 39 0)).1 with disp := { world.disp with flows := [⟨9, 1, 33, 4, 7⟩], entries := [⟨0, 0, 1, 9, 0, 2, 0, false, false, .inService, 0, none, [], none, none, 0, none⟩] } } [(trkBase 1, Rg.TK_AREA.ADDR, ddrBase), (trkBase 1, Rg.TK_CTRL.EN, 1), (tmBase 71, Rg.TM_CFG.TASK_FLOW, 9)] : State).readTask (71 / 64) (⟨0, 0, 1, 9, 0, 2, 0, false, false, .inService, 0, none, [], none, none, 0, none⟩ : Entry).tag (⟨0, 0, 1, 9, 0, 2, 0, false, false, .inService, 0, none, [], none, none, 0, none⟩ : Entry).handle).2 = some ((⟨0, 2, 0, 0, 0, 0, 0, 0, 0, 9⟩ : TrkTask), ([2] ++ List.replicate 23 0 ++ [9] ++ List.replicate 39 0 : List Byte), ([] : List Byte)) ∧ (⟨0, 0, 1, 9, 0, 2, 0, false, false, .inService, 0, none, [], none, none, 0, none⟩ : Entry).depCan = false ∧ (put { ((put world [(bDdr, Rg.DDR_CFG.SIZE, 2)]).memWrite (ddrBase + 128) ([2] ++ List.replicate 23 0 ++ [9] ++ List.replicate 39 0)).1 with disp := { world.disp with flows := [⟨9, 1, 33, 4, 7⟩], entries := [⟨0, 0, 1, 9, 0, 2, 0, false, false, .inService, 0, none, [], none, none, 0, none⟩] } } [(trkBase 1, Rg.TK_AREA.ADDR, ddrBase), (trkBase 1, Rg.TK_CTRL.EN, 1), (tmBase 71, Rg.TM_CFG.TASK_FLOW, 9)] : State).machReady 71 = false := by decide +kernel

theorem witness_MachineLanesFollowTheirTasks_2 :
    71 < 256 ∧ ((put { world with tracks := ⟨[(71, { (TrkLane.off) with task := some ⟨0, 0, 0, 0, 0, 1, 0, 0, 0, 0⟩, req := true, segs := [⟨0, 0, 1000, 0, 0, 0, 0, 1000⟩], plans := [⟨5000, 0, 1000, false, []⟩] })], [⟨3, 3, 50000, 60000, 70000, 80000, 18, 200, 300, false, false⟩], [], []⟩ } [(trkBase 1, Rg.TK_CTRL.EN, 1), (tmBase 71, Rg.TM_STAT.STATE, 2)] : State).mach 71).req = true ∧ (put { world with tracks := ⟨[(71, { (TrkLane.off) with task := some ⟨0, 0, 0, 0, 0, 1, 0, 0, 0, 0⟩, req := true, segs := [⟨0, 0, 1000, 0, 0, 0, 0, 1000⟩], plans := [⟨5000, 0, 1000, false, []⟩] })], [⟨3, 3, 50000, 60000, 70000, 80000, 18, 200, 300, false, false⟩], [], []⟩ } [(trkBase 1, Rg.TK_CTRL.EN, 1), (tmBase 71, Rg.TM_STAT.STATE, 2)] : State).tmState 71 = 2 ∧ ((put { world with tracks := ⟨[(71, { (TrkLane.off) with task := some ⟨0, 0, 0, 0, 0, 1, 0, 0, 0, 0⟩, req := true, segs := [⟨0, 0, 1000, 0, 0, 0, 0, 1000⟩], plans := [⟨5000, 0, 1000, false, []⟩] })], [⟨3, 3, 50000, 60000, 70000, 80000, 18, 200, 300, false, false⟩], [], []⟩ } [(trkBase 1, Rg.TK_CTRL.EN, 1), (tmBase 71, Rg.TM_STAT.STATE, 2)] : State).mach 71).task = some (⟨0, 0, 0, 0, 0, 1, 0, 0, 0, 0⟩ : TrkTask) ∧ bitOf 0 (⟨0, 0, 0, 0, 0, 1, 0, 0, 0, 0⟩ : TrkTask).flags = false ∧
    (put { world with tracks := ⟨[(71, { (TrkLane.off) with task := some ⟨0, 0, 0, 0, 0, 1, 0, 0, 0, 0⟩, req := true, segs := [⟨0, 0, 1000, 0, 0, 0, 0, 1000⟩], plans := [⟨5000, 0, 1000, false, []⟩] })], [⟨3, 3, 50000, 60000, 70000, 80000, 18, 200, 300, false, false⟩], [], []⟩ } [(trkBase 1, Rg.TK_CTRL.EN, 1), (tmBase 71, Rg.TM_STAT.STATE, 2)] : State).tracks.table.all (fun y => ((put { world with tracks := ⟨[(71, { (TrkLane.off) with task := some ⟨0, 0, 0, 0, 0, 1, 0, 0, 0, 0⟩, req := true, segs := [⟨0, 0, 1000, 0, 0, 0, 0, 1000⟩], plans := [⟨5000, 0, 1000, false, []⟩] })], [⟨3, 3, 50000, 60000, 70000, 80000, 18, 200, 300, false, false⟩], [], []⟩ } [(trkBase 1, Rg.TK_CTRL.EN, 1), (tmBase 71, Rg.TM_STAT.STATE, 2)] : State).resvOf 71).all (fun r => !r.conflicts y)) = true ∧ (put { world with tracks := ⟨[(71, { (TrkLane.off) with task := some ⟨0, 0, 0, 0, 0, 1, 0, 0, 0, 0⟩, req := true, segs := [⟨0, 0, 1000, 0, 0, 0, 0, 1000⟩], plans := [⟨5000, 0, 1000, false, []⟩] })], [⟨3, 3, 50000, 60000, 70000, 80000, 18, 200, 300, false, false⟩], [], []⟩ } [(trkBase 1, Rg.TK_CTRL.EN, 1), (tmBase 71, Rg.TM_STAT.STATE, 2)] : State).tracks.table.length + ((put { world with tracks := ⟨[(71, { (TrkLane.off) with task := some ⟨0, 0, 0, 0, 0, 1, 0, 0, 0, 0⟩, req := true, segs := [⟨0, 0, 1000, 0, 0, 0, 0, 1000⟩], plans := [⟨5000, 0, 1000, false, []⟩] })], [⟨3, 3, 50000, 60000, 70000, 80000, 18, 200, 300, false, false⟩], [], []⟩ } [(trkBase 1, Rg.TK_CTRL.EN, 1), (tmBase 71, Rg.TM_STAT.STATE, 2)] : State).resvOf 71).length ≤ 65536 := by decide +kernel

theorem witness_MachineLanesFollowTheirTasks_3 :
    71 < 256 ∧ ((put { world with tracks := ⟨[(71, { (TrkLane.off) with task := some ⟨0, 0, 0, 0, 0, 1, 0, 0, 0, 0⟩, req := true, segs := [⟨0, 0, 1000, 0, 0, 0, 0, 1000⟩], plans := [⟨5000, 0, 1000, false, [⟨0, 0, 5, 1000⟩]⟩] })], [⟨3, 3, 0, 0, 1000, 0, 18, 0, 30000000000, false, false⟩], [], []⟩ } [(trkBase 1, Rg.TK_CTRL.EN, 1), (tmBase 71, Rg.TM_STAT.STATE, 2)] : State).mach 71).req = true ∧ (put { world with tracks := ⟨[(71, { (TrkLane.off) with task := some ⟨0, 0, 0, 0, 0, 1, 0, 0, 0, 0⟩, req := true, segs := [⟨0, 0, 1000, 0, 0, 0, 0, 1000⟩], plans := [⟨5000, 0, 1000, false, [⟨0, 0, 5, 1000⟩]⟩] })], [⟨3, 3, 0, 0, 1000, 0, 18, 0, 30000000000, false, false⟩], [], []⟩ } [(trkBase 1, Rg.TK_CTRL.EN, 1), (tmBase 71, Rg.TM_STAT.STATE, 2)] : State).tmState 71 = 2 ∧ ((put { world with tracks := ⟨[(71, { (TrkLane.off) with task := some ⟨0, 0, 0, 0, 0, 1, 0, 0, 0, 0⟩, req := true, segs := [⟨0, 0, 1000, 0, 0, 0, 0, 1000⟩], plans := [⟨5000, 0, 1000, false, [⟨0, 0, 5, 1000⟩]⟩] })], [⟨3, 3, 0, 0, 1000, 0, 18, 0, 30000000000, false, false⟩], [], []⟩ } [(trkBase 1, Rg.TK_CTRL.EN, 1), (tmBase 71, Rg.TM_STAT.STATE, 2)] : State).mach 71).task = some (⟨0, 0, 0, 0, 0, 1, 0, 0, 0, 0⟩ : TrkTask) ∧ bitOf 0 (⟨0, 0, 0, 0, 0, 1, 0, 0, 0, 0⟩ : TrkTask).flags = false ∧
    (put { world with tracks := ⟨[(71, { (TrkLane.off) with task := some ⟨0, 0, 0, 0, 0, 1, 0, 0, 0, 0⟩, req := true, segs := [⟨0, 0, 1000, 0, 0, 0, 0, 1000⟩], plans := [⟨5000, 0, 1000, false, [⟨0, 0, 5, 1000⟩]⟩] })], [⟨3, 3, 0, 0, 1000, 0, 18, 0, 30000000000, false, false⟩], [], []⟩ } [(trkBase 1, Rg.TK_CTRL.EN, 1), (tmBase 71, Rg.TM_STAT.STATE, 2)] : State).tracks.table.any (fun y => ((put { world with tracks := ⟨[(71, { (TrkLane.off) with task := some ⟨0, 0, 0, 0, 0, 1, 0, 0, 0, 0⟩, req := true, segs := [⟨0, 0, 1000, 0, 0, 0, 0, 1000⟩], plans := [⟨5000, 0, 1000, false, [⟨0, 0, 5, 1000⟩]⟩] })], [⟨3, 3, 0, 0, 1000, 0, 18, 0, 30000000000, false, false⟩], [], []⟩ } [(trkBase 1, Rg.TK_CTRL.EN, 1), (tmBase 71, Rg.TM_STAT.STATE, 2)] : State).resvOf 71).any (fun r => r.conflicts y)) = true := by decide +kernel

theorem witness_MachineLanesFollowTheirTasks_4 :
    71 < 256 ∧ ((put { world with time := { world.time with era := 3 }, tracks := ⟨[(71, { (TrkLane.off) with refused := some 5 })], [], [], []⟩ } [(trkBase 1, Rg.TK_CTRL.EN, 1), (tmBase 71, Rg.TM_STAT.STATE, 2)] : State).mach 71).refused = some 5 ∧ (put { world with time := { world.time with era := 3 }, tracks := ⟨[(71, { (TrkLane.off) with refused := some 5 })], [], [], []⟩ } [(trkBase 1, Rg.TK_CTRL.EN, 1), (tmBase 71, Rg.TM_STAT.STATE, 2)] : State).tmState 71 = 2 ∧ 5 + 100000000 ≤ (put { world with time := { world.time with era := 3 }, tracks := ⟨[(71, { (TrkLane.off) with refused := some 5 })], [], [], []⟩ } [(trkBase 1, Rg.TK_CTRL.EN, 1), (tmBase 71, Rg.TM_STAT.STATE, 2)] : State).nowNs ∧ (put { world with time := { world.time with era := 3 }, tracks := ⟨[(71, { (TrkLane.off) with refused := some 5 })], [], [], []⟩ } [(trkBase 1, Rg.TK_CTRL.EN, 1), (tmBase 71, Rg.TM_STAT.STATE, 2)] : State).tracks.frozen.contains (71 / 64) = false := by decide +kernel

theorem witness_MachineLanesFollowTheirTasks_5 :
    (put { ({ withLink { testLink with rc := ⟨1, 31, 82, 0, 3, false, false, 13, 0, 5⟩ } with img := { fullImg with areas := [⟨0, 5, 0, 0, 0, 6144, 64, 4⟩] } }.memWrite 0x10000000 ([1, 8, 5] ++ List.replicate 35 0)).1 with disp := { world.disp with flows := [⟨8, 1, 33, 4, 7⟩], entries := [⟨0, 0, 1, 8, 0, 71 + 38 * 2 ^ 8, 0, false, false, .inService, 0, none, [], none, none, 0, some (0x60, [5, 900, 7])⟩] } } [(trkBase 1, Rg.TK_CTRL.EN, 1)] : State).disp.find 0 = some (⟨0, 0, 1, 8, 0, 71 + 38 * 2 ^ 8, 0, false, false, .inService, 0, none, [], none, none, 0, some (0x60, [5, 900, 7])⟩ : Entry) ∧ (⟨0, 0, 1, 8, 0, 71 + 38 * 2 ^ 8, 0, false, false, .inService, 0, none, [], none, none, 0, some (0x60, [5, 900, 7])⟩ : Entry).st = EState.inService ∧ (⟨0, 0, 1, 8, 0, 71 + 38 * 2 ^ 8, 0, false, false, .inService, 0, none, [], none, none, 0, some (0x60, [5, 900, 7])⟩ : Entry).item = some ((0x60 : Nat), ([5, 900, 7] : List Nat)) ∧ 900 = ([5, 900, 7] : List Nat).getD 1 0 ∧ 71 = (⟨0, 0, 1, 8, 0, 71 + 38 * 2 ^ 8, 0, false, false, .inService, 0, none, [], none, none, 0, some (0x60, [5, 900, 7])⟩ : Entry).tag % 256 ∧ (put { ({ withLink { testLink with rc := ⟨1, 31, 82, 0, 3, false, false, 13, 0, 5⟩ } with img := { fullImg with areas := [⟨0, 5, 0, 0, 0, 6144, 64, 4⟩] } }.memWrite 0x10000000 ([1, 8, 5] ++ List.replicate 35 0)).1 with disp := { world.disp with flows := [⟨8, 1, 33, 4, 7⟩], entries := [⟨0, 0, 1, 8, 0, 71 + 38 * 2 ^ 8, 0, false, false, .inService, 0, none, [], none, none, 0, some (0x60, [5, 900, 7])⟩] } } [(trkBase 1, Rg.TK_CTRL.EN, 1)] : State).flowMachine (⟨0, 0, 1, 8, 0, 71 + 38 * 2 ^ 8, 0, false, false, .inService, 0, none, [], none, none, 0, some (0x60, [5, 900, 7])⟩ : Entry).flow = some 71 ∧ (put { ({ withLink { testLink with rc := ⟨1, 31, 82, 0, 3, false, false, 13, 0, 5⟩ } with img := { fullImg with areas := [⟨0, 5, 0, 0, 0, 6144, 64, 4⟩] } }.memWrite 0x10000000 ([1, 8, 5] ++ List.replicate 35 0)).1 with disp := { world.disp with flows := [⟨8, 1, 33, 4, 7⟩], entries := [⟨0, 0, 1, 8, 0, 71 + 38 * 2 ^ 8, 0, false, false, .inService, 0, none, [], none, none, 0, some (0x60, [5, 900, 7])⟩] } } [(trkBase 1, Rg.TK_CTRL.EN, 1)] : State).trkLaneOn 71 = true ∧ (put { ({ withLink { testLink with rc := ⟨1, 31, 82, 0, 3, false, false, 13, 0, 5⟩ } with img := { fullImg with areas := [⟨0, 5, 0, 0, 0, 6144, 64, 4⟩] } }.memWrite 0x10000000 ([1, 8, 5] ++ List.replicate 35 0)).1 with disp := { world.disp with flows := [⟨8, 1, 33, 4, 7⟩], entries := [⟨0, 0, 1, 8, 0, 71 + 38 * 2 ^ 8, 0, false, false, .inService, 0, none, [], none, none, 0, some (0x60, [5, 900, 7])⟩] } } [(trkBase 1, Rg.TK_CTRL.EN, 1)] : State).get (tmBase 71) Rg.TM_CFG.TASK_FLOW ≠ (⟨0, 0, 1, 8, 0, 71 + 38 * 2 ^ 8, 0, false, false, .inService, 0, none, [], none, none, 0, some (0x60, [5, 900, 7])⟩ : Entry).flow ∧
    ((put { ({ withLink { testLink with rc := ⟨1, 31, 82, 0, 3, false, false, 13, 0, 5⟩ } with img := { fullImg with areas := [⟨0, 5, 0, 0, 0, 6144, 64, 4⟩] } }.memWrite 0x10000000 ([1, 8, 5] ++ List.replicate 35 0)).1 with disp := { world.disp with flows := [⟨8, 1, 33, 4, 7⟩], entries := [⟨0, 0, 1, 8, 0, 71 + 38 * 2 ^ 8, 0, false, false, .inService, 0, none, [], none, none, 0, some (0x60, [5, 900, 7])⟩] } } [(trkBase 1, Rg.TK_CTRL.EN, 1)] : State).memRead ((put { ({ withLink { testLink with rc := ⟨1, 31, 82, 0, 3, false, false, 13, 0, 5⟩ } with img := { fullImg with areas := [⟨0, 5, 0, 0, 0, 6144, 64, 4⟩] } }.memWrite 0x10000000 ([1, 8, 5] ++ List.replicate 35 0)).1 with disp := { world.disp with flows := [⟨8, 1, 33, 4, 7⟩], entries := [⟨0, 0, 1, 8, 0, 71 + 38 * 2 ^ 8, 0, false, false, .inService, 0, none, [], none, none, 0, some (0x60, [5, 900, 7])⟩] } } [(trkBase 1, Rg.TK_CTRL.EN, 1)] : State).slotAddr (macPos (71 / 32)) posDsp (bits 19 12 (⟨0, 0, 1, 8, 0, 71 + 38 * 2 ^ 8, 0, false, false, .inService, 0, none, [], none, none, 0, some (0x60, [5, 900, 7])⟩ : Entry).tag)) (bits 8 11 (⟨0, 0, 1, 8, 0, 71 + 38 * 2 ^ 8, 0, false, false, .inService, 0, none, [], none, none, 0, some (0x60, [5, 900, 7])⟩ : Entry).tag)).2 = some ([1, 8, 5] ++ List.replicate 35 0 : List Byte) ∧ leAt ([1, 8, 5] ++ List.replicate 35 0 : List Byte) 0 1 = 1 ∧ 38 ≤ ([1, 8, 5] ++ List.replicate 35 0 : List Byte).length ∧ (put { ({ withLink { testLink with rc := ⟨1, 31, 82, 0, 3, false, false, 13, 0, 5⟩ } with img := { fullImg with areas := [⟨0, 5, 0, 0, 0, 6144, 64, 4⟩] } }.memWrite 0x10000000 ([1, 8, 5] ++ List.replicate 35 0)).1 with disp := { world.disp with flows := [⟨8, 1, 33, 4, 7⟩], entries := [⟨0, 0, 1, 8, 0, 71 + 38 * 2 ^ 8, 0, false, false, .inService, 0, none, [], none, none, 0, some (0x60, [5, 900, 7])⟩] } } [(trkBase 1, Rg.TK_CTRL.EN, 1)] : State).disp.hwq = [] ∧ (put { ({ withLink { testLink with rc := ⟨1, 31, 82, 0, 3, false, false, 13, 0, 5⟩ } with img := { fullImg with areas := [⟨0, 5, 0, 0, 0, 6144, 64, 4⟩] } }.memWrite 0x10000000 ([1, 8, 5] ++ List.replicate 35 0)).1 with disp := { world.disp with flows := [⟨8, 1, 33, 4, 7⟩], entries := [⟨0, 0, 1, 8, 0, 71 + 38 * 2 ^ 8, 0, false, false, .inService, 0, none, [], none, none, 0, some (0x60, [5, 900, 7])⟩] } } [(trkBase 1, Rg.TK_CTRL.EN, 1)] : State).tmState 71 = 0 ∧ ((put { ({ withLink { testLink with rc := ⟨1, 31, 82, 0, 3, false, false, 13, 0, 5⟩ } with img := { fullImg with areas := [⟨0, 5, 0, 0, 0, 6144, 64, 4⟩] } }.memWrite 0x10000000 ([1, 8, 5] ++ List.replicate 35 0)).1 with disp := { world.disp with flows := [⟨8, 1, 33, 4, 7⟩], entries := [⟨0, 0, 1, 8, 0, 71 + 38 * 2 ^ 8, 0, false, false, .inService, 0, none, [], none, none, 0, some (0x60, [5, 900, 7])⟩] } } [(trkBase 1, Rg.TK_CTRL.EN, 1)] : State).mach 71).task = none ∧ ((put { ({ withLink { testLink with rc := ⟨1, 31, 82, 0, 3, false, false, 13, 0, 5⟩ } with img := { fullImg with areas := [⟨0, 5, 0, 0, 0, 6144, 64, 4⟩] } }.memWrite 0x10000000 ([1, 8, 5] ++ List.replicate 35 0)).1 with disp := { world.disp with flows := [⟨8, 1, 33, 4, 7⟩], entries := [⟨0, 0, 1, 8, 0, 71 + 38 * 2 ^ 8, 0, false, false, .inService, 0, none, [], none, none, 0, some (0x60, [5, 900, 7])⟩] } } [(trkBase 1, Rg.TK_CTRL.EN, 1)] : State).mach 71).abortAt = none := by decide +kernel

theorem witness_MachineLanesFollowTheirTasks_6 :
    3 < 8 ∧ (put { world with time := { world.time with ns := 400000 }, radio := { world.radio with lanes := listSet world.radio.lanes 3 { (MacLane.off) with sent := [⟨300000, 5, List.replicate 15 0 ++ [0xF0, 0, 0, 0], .beacon, true, false, false⟩] } } } [(trkBase 1, Rg.TK_CTRL.EN, 1)] : State).asn % 10 = 0 ∧ 300000 ≤ (put { world with time := { world.time with ns := 400000 }, radio := { world.radio with lanes := listSet world.radio.lanes 3 { (MacLane.off) with sent := [⟨300000, 5, List.replicate 15 0 ++ [0xF0, 0, 0, 0], .beacon, true, false, false⟩] } } } [(trkBase 1, Rg.TK_CTRL.EN, 1)] : State).slotPhase ∧ (List.range 32).all (fun n => (put { world with time := { world.time with ns := 400000 }, radio := { world.radio with lanes := listSet world.radio.lanes 3 { (MacLane.off) with sent := [⟨300000, 5, List.replicate 15 0 ++ [0xF0, 0, 0, 0], .beacon, true, false, false⟩] } } } [(trkBase 1, Rg.TK_CTRL.EN, 1)] : State).trkLaneOn (3 * 32 + n) && (put { world with time := { world.time with ns := 400000 }, radio := { world.radio with lanes := listSet world.radio.lanes 3 { (MacLane.off) with sent := [⟨300000, 5, List.replicate 15 0 ++ [0xF0, 0, 0, 0], .beacon, true, false, false⟩] } } } [(trkBase 1, Rg.TK_CTRL.EN, 1)] : State).tmState (3 * 32 + n) == 0 && ((put { world with time := { world.time with ns := 400000 }, radio := { world.radio with lanes := listSet world.radio.lanes 3 { (MacLane.off) with sent := [⟨300000, 5, List.replicate 15 0 ++ [0xF0, 0, 0, 0], .beacon, true, false, false⟩] } } } [(trkBase 1, Rg.TK_CTRL.EN, 1)] : State).mach (3 * 32 + n)).task == none) = true := by decide +kernel

theorem witness_MachineLanesFollowTheirTasks_7 :
    71 < 256 ∧ mayWriteService (put { world with tracks := ⟨[], [⟨3, 71, 0, 0, 1000, 0, 18, 0, 30000000000, false, false⟩, ⟨4, 71, 0, 0, 1000, 0, 18, 9, 30000000000, false, false⟩], [], []⟩ } [(trkBase 1, Rg.TK_CTRL.EN, 1), (tmBase 71, Rg.TM_STAT.STATE, 4)] : State) (.mp : Master) = true ∧ (put { world with tracks := ⟨[], [⟨3, 71, 0, 0, 1000, 0, 18, 0, 30000000000, false, false⟩, ⟨4, 71, 0, 0, 1000, 0, 18, 9, 30000000000, false, false⟩], [], []⟩ } [(trkBase 1, Rg.TK_CTRL.EN, 1), (tmBase 71, Rg.TM_STAT.STATE, 4)] : State).on (domOf (islandOf (trkPos (71 / 64)))) = true ∧ (put { world with tracks := ⟨[], [⟨3, 71, 0, 0, 1000, 0, 18, 0, 30000000000, false, false⟩, ⟨4, 71, 0, 0, 1000, 0, 18, 9, 30000000000, false, false⟩], [], []⟩ } [(trkBase 1, Rg.TK_CTRL.EN, 1), (tmBase 71, Rg.TM_STAT.STATE, 4)] : State).trkLaneOn 71 = true ∧ (put { world with tracks := ⟨[], [⟨3, 71, 0, 0, 1000, 0, 18, 0, 30000000000, false, false⟩, ⟨4, 71, 0, 0, 1000, 0, 18, 9, 30000000000, false, false⟩], [], []⟩ } [(trkBase 1, Rg.TK_CTRL.EN, 1), (tmBase 71, Rg.TM_STAT.STATE, 4)] : State).tmState 71 = 4 := by decide +kernel

theorem witness_MachineLanesFollowTheirTasks_8 :
    71 < 256 ∧ mayWriteService (put world [(trkBase 1, Rg.TK_CTRL.EN, 1), (tmBase 71, Rg.TM_STAT.STATE, 7), (tmBase 71, Rg.TM_STAT.HOLD_CAUSE, 2)] : State) (.mp : Master) = true ∧ (put world [(trkBase 1, Rg.TK_CTRL.EN, 1), (tmBase 71, Rg.TM_STAT.STATE, 7), (tmBase 71, Rg.TM_STAT.HOLD_CAUSE, 2)] : State).on (domOf (islandOf (trkPos (71 / 64)))) = true ∧ (put world [(trkBase 1, Rg.TK_CTRL.EN, 1), (tmBase 71, Rg.TM_STAT.STATE, 7), (tmBase 71, Rg.TM_STAT.HOLD_CAUSE, 2)] : State).trkLaneOn 71 = true ∧ (put world [(trkBase 1, Rg.TK_CTRL.EN, 1), (tmBase 71, Rg.TM_STAT.STATE, 7), (tmBase 71, Rg.TM_STAT.HOLD_CAUSE, 2)] : State).tmState 71 = 7 ∧ (put world [(trkBase 1, Rg.TK_CTRL.EN, 1), (tmBase 71, Rg.TM_STAT.STATE, 7), (tmBase 71, Rg.TM_STAT.HOLD_CAUSE, 2)] : State).machReady 71 = false := by decide +kernel

theorem witness_MachineLanesFollowTheirTasks_9 :
    71 < 256 ∧ (put { world with tracks := ⟨[(71, { (TrkLane.off) with remain := some 0 })], [], [], []⟩ } [(bMpc, Rg.FS_STAT.LATCHED, 0), (trkBase 1, Rg.TK_CTRL.EN, 1), (tmBase 71, Rg.TM_STAT.STATE, 5), (tmBase 71, Rg.TM_CFG.AUTO_RESUME, 1), (tmBase 71, Rg.TM_STAT.PERMIT, 1), (entBase 2 7, Rg.MSTAT.STATE, 3)] : State).trkLaneOn 71 = true ∧ (put { world with tracks := ⟨[(71, { (TrkLane.off) with remain := some 0 })], [], [], []⟩ } [(bMpc, Rg.FS_STAT.LATCHED, 0), (trkBase 1, Rg.TK_CTRL.EN, 1), (tmBase 71, Rg.TM_STAT.STATE, 5), (tmBase 71, Rg.TM_CFG.AUTO_RESUME, 1), (tmBase 71, Rg.TM_STAT.PERMIT, 1), (entBase 2 7, Rg.MSTAT.STATE, 3)] : State).flag (tmBase 71) Rg.TM_CFG.AUTO_RESUME = true ∧ (put { world with tracks := ⟨[(71, { (TrkLane.off) with remain := some 0 })], [], [], []⟩ } [(bMpc, Rg.FS_STAT.LATCHED, 0), (trkBase 1, Rg.TK_CTRL.EN, 1), (tmBase 71, Rg.TM_STAT.STATE, 5), (tmBase 71, Rg.TM_CFG.AUTO_RESUME, 1), (tmBase 71, Rg.TM_STAT.PERMIT, 1), (entBase 2 7, Rg.MSTAT.STATE, 3)] : State).tmState 71 = 5 ∧ (put { world with tracks := ⟨[(71, { (TrkLane.off) with remain := some 0 })], [], [], []⟩ } [(bMpc, Rg.FS_STAT.LATCHED, 0), (trkBase 1, Rg.TK_CTRL.EN, 1), (tmBase 71, Rg.TM_STAT.STATE, 5), (tmBase 71, Rg.TM_CFG.AUTO_RESUME, 1), (tmBase 71, Rg.TM_STAT.PERMIT, 1), (entBase 2 7, Rg.MSTAT.STATE, 3)] : State).machReady 71 = true ∧ ((put { world with tracks := ⟨[(71, { (TrkLane.off) with remain := some 0 })], [], [], []⟩ } [(bMpc, Rg.FS_STAT.LATCHED, 0), (trkBase 1, Rg.TK_CTRL.EN, 1), (tmBase 71, Rg.TM_STAT.STATE, 5), (tmBase 71, Rg.TM_CFG.AUTO_RESUME, 1), (tmBase 71, Rg.TM_STAT.PERMIT, 1), (entBase 2 7, Rg.MSTAT.STATE, 3)] : State).mach 71).remain.isSome = true ∧ ((put { world with tracks := ⟨[(71, { (TrkLane.off) with remain := some 0 })], [], [], []⟩ } [(bMpc, Rg.FS_STAT.LATCHED, 0), (trkBase 1, Rg.TK_CTRL.EN, 1), (tmBase 71, Rg.TM_STAT.STATE, 5), (tmBase 71, Rg.TM_CFG.AUTO_RESUME, 1), (tmBase 71, Rg.TM_STAT.PERMIT, 1), (entBase 2 7, Rg.MSTAT.STATE, 3)] : State).mach 71).abortAt = none ∧
    (put { world with tracks := ⟨[(71, { (TrkLane.off) with remain := some 0 })], [], [], []⟩ } [(bMpc, Rg.FS_STAT.LATCHED, 0), (trkBase 1, Rg.TK_CTRL.EN, 1), (tmBase 71, Rg.TM_STAT.STATE, 5), (tmBase 71, Rg.TM_CFG.AUTO_RESUME, 1), (tmBase 71, Rg.TM_STAT.PERMIT, 1), (entBase 2 7, Rg.MSTAT.STATE, 3)] : State).flag bMpc Rg.FS_STAT.LATCHED = false ∧ (put { world with tracks := ⟨[(71, { (TrkLane.off) with remain := some 0 })], [], [], []⟩ } [(bMpc, Rg.FS_STAT.LATCHED, 0), (trkBase 1, Rg.TK_CTRL.EN, 1), (tmBase 71, Rg.TM_STAT.STATE, 5), (tmBase 71, Rg.TM_CFG.AUTO_RESUME, 1), (tmBase 71, Rg.TM_STAT.PERMIT, 1), (entBase 2 7, Rg.MSTAT.STATE, 3)] : State).mode ≠ .maintenance ∧ (put { world with tracks := ⟨[(71, { (TrkLane.off) with remain := some 0 })], [], [], []⟩ } [(bMpc, Rg.FS_STAT.LATCHED, 0), (trkBase 1, Rg.TK_CTRL.EN, 1), (tmBase 71, Rg.TM_STAT.STATE, 5), (tmBase 71, Rg.TM_CFG.AUTO_RESUME, 1), (tmBase 71, Rg.TM_STAT.PERMIT, 1), (entBase 2 7, Rg.MSTAT.STATE, 3)] : State).tracks.frozen.contains (71 / 64) = false := by decide +kernel

theorem witness_MachineLanesFollowTheirTasks_10 :
    71 < 256 ∧ mayWriteService (put { world with tracks := ⟨[(71, { (TrkLane.off) with task := some ⟨5, 2, 0, 0, 0, 0, 0, 0, 0, 9⟩ })], [], [], []⟩ } [(trkBase 1, Rg.TK_CTRL.EN, 1), (tmBase 71, Rg.TM_STAT.STATE, 7)] : State) (.mp : Master) = true ∧ (put { world with tracks := ⟨[(71, { (TrkLane.off) with task := some ⟨5, 2, 0, 0, 0, 0, 0, 0, 0, 9⟩ })], [], [], []⟩ } [(trkBase 1, Rg.TK_CTRL.EN, 1), (tmBase 71, Rg.TM_STAT.STATE, 7)] : State).on (domOf (islandOf (trkPos (71 / 64)))) = true ∧ (put { world with tracks := ⟨[(71, { (TrkLane.off) with task := some ⟨5, 2, 0, 0, 0, 0, 0, 0, 0, 9⟩ })], [], [], []⟩ } [(trkBase 1, Rg.TK_CTRL.EN, 1), (tmBase 71, Rg.TM_STAT.STATE, 7)] : State).trkLaneOn 71 = true ∧ (put { world with tracks := ⟨[(71, { (TrkLane.off) with task := some ⟨5, 2, 0, 0, 0, 0, 0, 0, 0, 9⟩ })], [], [], []⟩ } [(trkBase 1, Rg.TK_CTRL.EN, 1), (tmBase 71, Rg.TM_STAT.STATE, 7)] : State).tmState 71 = 7 ∧ ((put { world with tracks := ⟨[(71, { (TrkLane.off) with task := some ⟨5, 2, 0, 0, 0, 0, 0, 0, 0, 9⟩ })], [], [], []⟩ } [(trkBase 1, Rg.TK_CTRL.EN, 1), (tmBase 71, Rg.TM_STAT.STATE, 7)] : State).mach 71).abortAt = none ∧ ((put { world with tracks := ⟨[(71, { (TrkLane.off) with task := some ⟨5, 2, 0, 0, 0, 0, 0, 0, 0, 9⟩ })], [], [], []⟩ } [(trkBase 1, Rg.TK_CTRL.EN, 1), (tmBase 71, Rg.TM_STAT.STATE, 7)] : State).mach 71).task = some (⟨5, 2, 0, 0, 0, 0, 0, 0, 0, 9⟩ : TrkTask) := by decide +kernel

theorem witness_MachineLanesFollowTheirTasks_11 :
    71 < 256 ∧ mayWriteService (put world [(trkBase 1, Rg.TK_CTRL.EN, 1), (tmBase 71, Rg.TM_STAT.STATE, 4)] : State) (.mp : Master) = true ∧ (put world [(trkBase 1, Rg.TK_CTRL.EN, 1), (tmBase 71, Rg.TM_STAT.STATE, 4)] : State).on (domOf (islandOf (trkPos (71 / 64)))) = true ∧ (put world [(trkBase 1, Rg.TK_CTRL.EN, 1), (tmBase 71, Rg.TM_STAT.STATE, 4)] : State).trkLaneOn 71 = true ∧ (put world [(trkBase 1, Rg.TK_CTRL.EN, 1), (tmBase 71, Rg.TM_STAT.STATE, 4)] : State).tmState 71 ≠ 0 ∧ (put world [(trkBase 1, Rg.TK_CTRL.EN, 1), (tmBase 71, Rg.TM_STAT.STATE, 4)] : State).tmState 71 ≠ 7 ∧ ((put world [(trkBase 1, Rg.TK_CTRL.EN, 1), (tmBase 71, Rg.TM_STAT.STATE, 4)] : State).mach 71).abortAt = none := by decide +kernel

theorem witness_MachineLanesFollowTheirTasks_12 :
    71 < 256 ∧ ((put { world with time := { world.time with era := 3 }, tracks := ⟨[(71, { (TrkLane.off) with abortAt := some 5, task := some ⟨5, 2, 0, 0, 0, 0, 0, 0, 0, 9⟩ })], [], [], []⟩ } [(trkBase 1, Rg.TK_CTRL.EN, 1), (tmBase 71, Rg.TM_STAT.STATE, 4)] : State).mach 71).abortAt = some 5 ∧ 5 + 5000000000 ≤ (put { world with time := { world.time with era := 3 }, tracks := ⟨[(71, { (TrkLane.off) with abortAt := some 5, task := some ⟨5, 2, 0, 0, 0, 0, 0, 0, 0, 9⟩ })], [], [], []⟩ } [(trkBase 1, Rg.TK_CTRL.EN, 1), (tmBase 71, Rg.TM_STAT.STATE, 4)] : State).nowNs ∧ ((put { world with time := { world.time with era := 3 }, tracks := ⟨[(71, { (TrkLane.off) with abortAt := some 5, task := some ⟨5, 2, 0, 0, 0, 0, 0, 0, 0, 9⟩ })], [], [], []⟩ } [(trkBase 1, Rg.TK_CTRL.EN, 1), (tmBase 71, Rg.TM_STAT.STATE, 4)] : State).mach 71).task = some (⟨5, 2, 0, 0, 0, 0, 0, 0, 0, 9⟩ : TrkTask) := by decide +kernel

end Sys2Proof.Tests
end

