-- ==== Sys2Proof/Tests/Witness15.lean ====
section
/-! SUPPORT. Witnesses: for each clause of a statement a state and operands that meet its hypotheses. -/

set_option Elab.async false

open Sys2Proof Sys2Proof.Machine

namespace Sys2Proof.Tests

theorem witness_EthernetPortsCarryFrames_1 :
    2 < 4 ∧ (put world [(ethBase 2, Rg.ETH_CFG.EN, 1)] : State).ethOn 2 = true ∧ (put world [(ethBase 2, Rg.ETH_CFG.EN, 1)] : State).flag (ethBase 2) Rg.ETH_STAT.LINK ≠ true ∧ (put world [(ethBase 2, Rg.ETH_CFG.EN, 1)] : State).inPair 2 = false := by decide +kernel

theorem witness_EthernetPortsCarryFrames_2 :
    2 < 4 ∧ (put world [(ethBase 2, Rg.ETH_CFG.EN, 1), (ethBase 2, Rg.ETH_STAT.LINK, 1)] : State).linkOn 2 = true := by decide +kernel

theorem witness_EthernetPortsCarryFrames_3 :
    2 < 4 ∧ (put world [(ethBase 2, Rg.ETH_CFG.EN, 1), (ethBase 2, Rg.ETH_STAT.LINK, 1)] : State).eth.ports.length = 4 ∧ (put world [(ethBase 2, Rg.ETH_CFG.EN, 1), (ethBase 2, Rg.ETH_STAT.LINK, 1)] : State).linkOn 2 = true ∧ (List.replicate 12 0 ++ [0x88, 0xF7, 0] : List Byte).length + 4 ≤ (put world [(ethBase 2, Rg.ETH_CFG.EN, 1), (ethBase 2, Rg.ETH_STAT.LINK, 1)] : State).maxFrame 2 ∧ etherType (List.replicate 12 0 ++ [0x88, 0xF7, 0] : List Byte) ≠ 0x88B5 ∧ ((put world [(ethBase 2, Rg.ETH_CFG.EN, 1), (ethBase 2, Rg.ETH_STAT.LINK, 1)] : State).ptpAt 2 (List.replicate 12 0 ++ [0x88, 0xF7, 0] : List Byte)).isSome = true := by decide +kernel

theorem witness_EthernetPortsCarryFrames_4 :
    2 < 4 ∧ (put world [(ethBase 2, Rg.ETH_CFG.EN, 1), (ethBase 2, Rg.ETH_STAT.LINK, 1)] : State).linkOn 2 = true ∧ (udpFrame 900 4742 [1, 2, 3] : List Byte).length + 4 ≤ (put world [(ethBase 2, Rg.ETH_CFG.EN, 1), (ethBase 2, Rg.ETH_STAT.LINK, 1)] : State).maxFrame 2 ∧ etherType (udpFrame 900 4742 [1, 2, 3] : List Byte) ≠ 0x88B5 ∧ ((put world [(ethBase 2, Rg.ETH_CFG.EN, 1), (ethBase 2, Rg.ETH_STAT.LINK, 1)] : State).ptpAt 2 (udpFrame 900 4742 [1, 2, 3] : List Byte)).isSome = false ∧ udpDst (udpFrame 900 4742 [1, 2, 3] : List Byte) = some 4742 ∧ (put world [(ethBase 2, Rg.ETH_CFG.EN, 1), (ethBase 2, Rg.ETH_STAT.LINK, 1)] : State).yx.queue.length < 4 := by decide +kernel

theorem witness_EthernetPortsCarryFrames_5 :
    2 < 4 ∧ (put (ringWorld 27 86 [1, 2, 3] [3 * 2 ^ 12 + 2 ^ 26] 0x70) [(ethBase 2, Rg.ETH_CFG.EN, 1)] : State).eth.ports.length = 4 ∧ (put (ringWorld 27 86 [1, 2, 3] [3 * 2 ^ 12 + 2 ^ 26] 0x70) [(ethBase 2, Rg.ETH_CFG.EN, 1)] : State).waitingItem (ethPos 2) 0x70 = some (1, (⟨0x7000, [3 * 2 ^ 12 + 2 ^ 26], false⟩ : QPkt)) ∧ (put (ringWorld 27 86 [1, 2, 3] [3 * 2 ^ 12 + 2 ^ 26] 0x70) [(ethBase 2, Rg.ETH_CFG.EN, 1)] : State).producer 1 = 27 ∧ (put (ringWorld 27 86 [1, 2, 3] [3 * 2 ^ 12 + 2 ^ 26] 0x70) [(ethBase 2, Rg.ETH_CFG.EN, 1)] : State).ethOn 2 = true ∧ (put (ringWorld 27 86 [1, 2, 3] [3 * 2 ^ 12 + 2 ^ 26] 0x70) [(ethBase 2, Rg.ETH_CFG.EN, 1)] : State).inPair 2 = false ∧
    ((put (ringWorld 27 86 [1, 2, 3] [3 * 2 ^ 12 + 2 ^ 26] 0x70) [(ethBase 2, Rg.ETH_CFG.EN, 1)] : State).pulled (ethPos 2) 0x70).memRead ((put (ringWorld 27 86 [1, 2, 3] [3 * 2 ^ 12 + 2 ^ 26] 0x70) [(ethBase 2, Rg.ETH_CFG.EN, 1)] : State).slotAddr 27 (ethPos 2) (bits 0 12 ((⟨0x7000, [3 * 2 ^ 12 + 2 ^ 26], false⟩ : QPkt).data.headD 0))) (bits 12 14 ((⟨0x7000, [3 * 2 ^ 12 + 2 ^ 26], false⟩ : QPkt).data.headD 0)) = (((State.memRead (State.pulled (put (ringWorld 27 86 [1, 2, 3] [3 * 2 ^ 12 + 2 ^ 26] 0x70) [(ethBase 2, Rg.ETH_CFG.EN, 1)]) (ethPos 2) 0x70) (State.slotAddr (ringWorld 27 86 [1, 2, 3] [3 * 2 ^ 12 + 2 ^ 26] 0x70) 27 (ethPos 2) 0) 3).1 : State), some ([1, 2, 3] : List Byte)) ∧ ([1, 2, 3] : List Byte).length + 4 ≤ (put (ringWorld 27 86 [1, 2, 3] [3 * 2 ^ 12 + 2 ^ 26] 0x70) [(ethBase 2, Rg.ETH_CFG.EN, 1)] : State).maxFrame 2 := by decide +kernel

theorem witness_EthernetPortsCarryFrames_6 :
    2 < 4 ∧ (put world [(ethBase 2, Rg.ETH_CFG.EN, 1), (ethBase 2, Rg.ETH_SWTX_CTL.FREE, 16), (ethBase 2, Rg.ETH_SWTX.ADDR, ddrBase), (ethBase 2, Rg.ETH_SWTX.LEN, 3), (bDdr, Rg.DDR_STAT.TRAINED, 1), (bDdr, Rg.DDR_CFG.SIZE, 2)] : State).eth.ports.length = 4 ∧ (mayWriteService (put world [(ethBase 2, Rg.ETH_CFG.EN, 1), (ethBase 2, Rg.ETH_SWTX_CTL.FREE, 16), (ethBase 2, Rg.ETH_SWTX.ADDR, ddrBase), (ethBase 2, Rg.ETH_SWTX.LEN, 3), (bDdr, Rg.DDR_STAT.TRAINED, 1), (bDdr, Rg.DDR_CFG.SIZE, 2)] : State) (.tp : Master) || (.tp : Master) == .tp) = true ∧ (put world [(ethBase 2, Rg.ETH_CFG.EN, 1), (ethBase 2, Rg.ETH_SWTX_CTL.FREE, 16), (ethBase 2, Rg.ETH_SWTX.ADDR, ddrBase), (ethBase 2, Rg.ETH_SWTX.LEN, 3), (bDdr, Rg.DDR_STAT.TRAINED, 1), (bDdr, Rg.DDR_CFG.SIZE, 2)] : State).ethOn 2 = true ∧ (put world [(ethBase 2, Rg.ETH_CFG.EN, 1), (ethBase 2, Rg.ETH_SWTX_CTL.FREE, 16), (ethBase 2, Rg.ETH_SWTX.ADDR, ddrBase), (ethBase 2, Rg.ETH_SWTX.LEN, 3), (bDdr, Rg.DDR_STAT.TRAINED, 1), (bDdr, Rg.DDR_CFG.SIZE, 2)] : State).inPair 2 = false ∧
    0 < (put world [(ethBase 2, Rg.ETH_CFG.EN, 1), (ethBase 2, Rg.ETH_SWTX_CTL.FREE, 16), (ethBase 2, Rg.ETH_SWTX.ADDR, ddrBase), (ethBase 2, Rg.ETH_SWTX.LEN, 3), (bDdr, Rg.DDR_STAT.TRAINED, 1), (bDdr, Rg.DDR_CFG.SIZE, 2)] : State).get (ethBase 2) Rg.ETH_SWTX_CTL.FREE ∧ ddrBase ≤ (put world [(ethBase 2, Rg.ETH_CFG.EN, 1), (ethBase 2, Rg.ETH_SWTX_CTL.FREE, 16), (ethBase 2, Rg.ETH_SWTX.ADDR, ddrBase), (ethBase 2, Rg.ETH_SWTX.LEN, 3), (bDdr, Rg.DDR_STAT.TRAINED, 1), (bDdr, Rg.DDR_CFG.SIZE, 2)] : State).get (ethBase 2) Rg.ETH_SWTX.ADDR ∧ (put world [(ethBase 2, Rg.ETH_CFG.EN, 1), (ethBase 2, Rg.ETH_SWTX_CTL.FREE, 16), (ethBase 2, Rg.ETH_SWTX.ADDR, ddrBase), (ethBase 2, Rg.ETH_SWTX.LEN, 3), (bDdr, Rg.DDR_STAT.TRAINED, 1), (bDdr, Rg.DDR_CFG.SIZE, 2)] : State).memFault ((put world [(ethBase 2, Rg.ETH_CFG.EN, 1), (ethBase 2, Rg.ETH_SWTX_CTL.FREE, 16), (ethBase 2, Rg.ETH_SWTX.ADDR, ddrBase), (ethBase 2, Rg.ETH_SWTX.LEN, 3), (bDdr, Rg.DDR_STAT.TRAINED, 1), (bDdr, Rg.DDR_CFG.SIZE, 2)] : State).get (ethBase 2) Rg.ETH_SWTX.ADDR) (max ((put world [(ethBase 2, Rg.ETH_CFG.EN, 1), (ethBase 2, Rg.ETH_SWTX_CTL.FREE, 16), (ethBase 2, Rg.ETH_SWTX.ADDR, ddrBase), (ethBase 2, Rg.ETH_SWTX.LEN, 3), (bDdr, Rg.DDR_STAT.TRAINED, 1), (bDdr, Rg.DDR_CFG.SIZE, 2)] : State).get (ethBase 2) Rg.ETH_SWTX.LEN) 1) = none ∧
    ((put world [(ethBase 2, Rg.ETH_CFG.EN, 1), (ethBase 2, Rg.ETH_SWTX_CTL.FREE, 16), (ethBase 2, Rg.ETH_SWTX.ADDR, ddrBase), (ethBase 2, Rg.ETH_SWTX.LEN, 3), (bDdr, Rg.DDR_STAT.TRAINED, 1), (bDdr, Rg.DDR_CFG.SIZE, 2)] : State).memRead ((put world [(ethBase 2, Rg.ETH_CFG.EN, 1), (ethBase 2, Rg.ETH_SWTX_CTL.FREE, 16), (ethBase 2, Rg.ETH_SWTX.ADDR, ddrBase), (ethBase 2, Rg.ETH_SWTX.LEN, 3), (bDdr, Rg.DDR_STAT.TRAINED, 1), (bDdr, Rg.DDR_CFG.SIZE, 2)] : State).get (ethBase 2) Rg.ETH_SWTX.ADDR) ((put world [(ethBase 2, Rg.ETH_CFG.EN, 1), (ethBase 2, Rg.ETH_SWTX_CTL.FREE, 16), (ethBase 2, Rg.ETH_SWTX.ADDR, ddrBase), (ethBase 2, Rg.ETH_SWTX.LEN, 3), (bDdr, Rg.DDR_STAT.TRAINED, 1), (bDdr, Rg.DDR_CFG.SIZE, 2)] : State).get (ethBase 2) Rg.ETH_SWTX.LEN)).2 = some ([0, 0, 0] : List Byte) ∧ ([0, 0, 0] : List Byte).length + 4 ≤ (put world [(ethBase 2, Rg.ETH_CFG.EN, 1), (ethBase 2, Rg.ETH_SWTX_CTL.FREE, 16), (ethBase 2, Rg.ETH_SWTX.ADDR, ddrBase), (ethBase 2, Rg.ETH_SWTX.LEN, 3), (bDdr, Rg.DDR_STAT.TRAINED, 1), (bDdr, Rg.DDR_CFG.SIZE, 2)] : State).maxFrame 2 := by decide +kernel

theorem witness_EthernetPortsCarryFrames_7 :
    2 < 4 ∧ (put { withLink { testLink with busy := [2, 3], slots := 4 } with eth := { world.eth with ports := listSet world.eth.ports 2 { (EthPort.off) with fifo := [⟨0, some 2, some (1, 3), false, false, none, [1, 2]⟩] } } } [(ethBase 2, Rg.ETH_CFG.EN, 1), (ethBase 2, Rg.ETH_STAT.LINK, 1)] : State).eth.ports.length = 4 ∧ (put { withLink { testLink with busy := [2, 3], slots := 4 } with eth := { world.eth with ports := listSet world.eth.ports 2 { (EthPort.off) with fifo := [⟨0, some 2, some (1, 3), false, false, none, [1, 2]⟩] } } } [(ethBase 2, Rg.ETH_CFG.EN, 1), (ethBase 2, Rg.ETH_STAT.LINK, 1)] : State).linkOn 2 = true ∧ nextTx ((put { withLink { testLink with busy := [2, 3], slots := 4 } with eth := { world.eth with ports := listSet world.eth.ports 2 { (EthPort.off) with fifo := [⟨0, some 2, some (1, 3), false, false, none, [1, 2]⟩] } } } [(ethBase 2, Rg.ETH_CFG.EN, 1), (ethBase 2, Rg.ETH_STAT.LINK, 1)] : State).port 2).prod ((put { withLink { testLink with busy := [2, 3], slots := 4 } with eth := { world.eth with ports := listSet world.eth.ports 2 { (EthPort.off) with fifo := [⟨0, some 2, some (1, 3), false, false, none, [1, 2]⟩] } } } [(ethBase 2, Rg.ETH_CFG.EN, 1), (ethBase 2, Rg.ETH_STAT.LINK, 1)] : State).port 2).fifo = some (⟨0, some 2, some (1, 3), false, false, none, [1, 2]⟩ : TxFrame) ∧ ((put { withLink { testLink with busy := [2, 3], slots := 4 } with eth := { world.eth with ports := listSet world.eth.ports 2 { (EthPort.off) with fifo := [⟨0, some 2, some (1, 3), false, false, none, [1, 2]⟩] } } } [(ethBase 2, Rg.ETH_CFG.EN, 1), (ethBase 2, Rg.ETH_STAT.LINK, 1)] : State).ptpAt 2 (⟨0, some 2, some (1, 3), false, false, none, [1, 2]⟩ : TxFrame).data).isSome = false ∧ (⟨0, some 2, some (1, 3), false, false, none, [1, 2]⟩ : TxFrame).sw = some 2 ∧ 2 < 4 := by decide +kernel

theorem witness_EthernetPortsCarryFrames_8 :
    2 < 4 ∧ (put { withLink { testLink with busy := [2, 3], slots := 4 } with eth := { world.eth with ports := listSet world.eth.ports 2 { (EthPort.off) with fifo := [⟨0, none, some (1, 3), false, false, none, [1, 2]⟩] } } } [(ethBase 2, Rg.ETH_CFG.EN, 1), (ethBase 2, Rg.ETH_STAT.LINK, 1)] : State).eth.ports.length = 4 ∧ (put { withLink { testLink with busy := [2, 3], slots := 4 } with eth := { world.eth with ports := listSet world.eth.ports 2 { (EthPort.off) with fifo := [⟨0, none, some (1, 3), false, false, none, [1, 2]⟩] } } } [(ethBase 2, Rg.ETH_CFG.EN, 1), (ethBase 2, Rg.ETH_STAT.LINK, 1)] : State).linkOn 2 = true ∧ nextTx ((put { withLink { testLink with busy := [2, 3], slots := 4 } with eth := { world.eth with ports := listSet world.eth.ports 2 { (EthPort.off) with fifo := [⟨0, none, some (1, 3), false, false, none, [1, 2]⟩] } } } [(ethBase 2, Rg.ETH_CFG.EN, 1), (ethBase 2, Rg.ETH_STAT.LINK, 1)] : State).port 2).prod ((put { withLink { testLink with busy := [2, 3], slots := 4 } with eth := { world.eth with ports := listSet world.eth.ports 2 { (EthPort.off) with fifo := [⟨0, none, some (1, 3), false, false, none, [1, 2]⟩] } } } [(ethBase 2, Rg.ETH_CFG.EN, 1), (ethBase 2, Rg.ETH_STAT.LINK, 1)] : State).port 2).fifo = some (⟨0, none, some (1, 3), false, false, none, [1, 2]⟩ : TxFrame) ∧ ((put { withLink { testLink with busy := [2, 3], slots := 4 } with eth := { world.eth with ports := listSet world.eth.ports 2 { (EthPort.off) with fifo := [⟨0, none, some (1, 3), false, false, none, [1, 2]⟩] } } } [(ethBase 2, Rg.ETH_CFG.EN, 1), (ethBase 2, Rg.ETH_STAT.LINK, 1)] : State).ptpAt 2 (⟨0, none, some (1, 3), false, false, none, [1, 2]⟩ : TxFrame).data).isSome = false ∧ (⟨0, none, some (1, 3), false, false, none, [1, 2]⟩ : TxFrame).sw = none := by decide +kernel

theorem witness_EthernetPortsCarryFrames_9 :
    2 < 4 ∧ ({ world with eth := { world.eth with ports := listSet world.eth.ports 2 { (EthPort.off) with stamps := [⟨1, 2, 3, 4, 5, false⟩, ⟨6, 7, 8, 9, 1, true⟩] } } } : State).eth.ports.length = 4 ∧ ({ world with eth := { world.eth with ports := listSet world.eth.ports 2 { (EthPort.off) with stamps := [⟨1, 2, 3, 4, 5, false⟩, ⟨6, 7, 8, 9, 1, true⟩] } } } : State).on .io = true := by decide +kernel

theorem witness_UplinkPairFailsOver_1 :
    (pairWorld 1 2 : State).eth.ports.length = 4 ∧ (pairWorld 1 2 : State).inPair 1 = true ∧ (pairWorld 1 2 : State).linkOn 1 = true ∧ (pairWorld 1 2 : State).flag (ethBase 0) Rg.UP_CFG.HB_EN = true ∧ (pairWorld 1 2 : State).onMilli = true ∧ ((pairWorld 1 2 : State).port 1).hbAt ≠ some (pairWorld 1 2 : State).nowNs := by decide +kernel

theorem witness_UplinkPairFailsOver_2 :
    (put { pairWorld 1 2 with eth := { world.eth with ports := listSet world.eth.ports 0 { (EthPort.off) with hit := true } } } [(ethBase 1, Rg.ETH_STAT.MISS, 1)] : State).eth.ports.length = 4 ∧ (put { pairWorld 1 2 with eth := { world.eth with ports := listSet world.eth.ports 0 { (EthPort.off) with hit := true } } } [(ethBase 1, Rg.ETH_STAT.MISS, 1)] : State).paired = true ∧ (put { pairWorld 1 2 with eth := { world.eth with ports := listSet world.eth.ports 0 { (EthPort.off) with hit := true } } } [(ethBase 1, Rg.ETH_STAT.MISS, 1)] : State).flag (ethBase 0) Rg.UP_CFG.HB_EN = true ∧ (put { pairWorld 1 2 with eth := { world.eth with ports := listSet world.eth.ports 0 { (EthPort.off) with hit := true } } } [(ethBase 1, Rg.ETH_STAT.MISS, 1)] : State).onMilli = true ∧ (put { pairWorld 1 2 with eth := { world.eth with ports := listSet world.eth.ports 0 { (EthPort.off) with hit := true } } } [(ethBase 1, Rg.ETH_STAT.MISS, 1)] : State).eth.winAt ≠ some (put { pairWorld 1 2 with eth := { world.eth with ports := listSet world.eth.ports 0 { (EthPort.off) with hit := true } } } [(ethBase 1, Rg.ETH_STAT.MISS, 1)] : State).nowNs ∧ ((put { pairWorld 1 2 with eth := { world.eth with ports := listSet world.eth.ports 0 { (EthPort.off) with hit := true } } } [(ethBase 1, Rg.ETH_STAT.MISS, 1)] : State).port 0).hit = true ∧ ((put { pairWorld 1 2 with eth := { world.eth with ports := listSet world.eth.ports 0 { (EthPort.off) with hit := true } } } [(ethBase 1, Rg.ETH_STAT.MISS, 1)] : State).port 1).hit = false ∧ 1 = (put { pairWorld 1 2 with eth := { world.eth with ports := listSet world.eth.ports 0 { (EthPort.off) with hit := true } } } [(ethBase 1, Rg.ETH_STAT.MISS, 1)] : State).get (ethBase 1) Rg.ETH_STAT.MISS ∧ 1 ≠ 2 ∧ (put { pairWorld 1 2 with eth := { world.eth with ports := listSet world.eth.ports 0 { (EthPort.off) with hit := true } } } [(ethBase 1, Rg.ETH_STAT.MISS, 1)] : State).role 1 ≠ 4 := by decide +kernel

theorem witness_UplinkPairFailsOver_3 :
    (put { pairWorld 1 2 with eth := { world.eth with ports := listSet world.eth.ports 1 { (EthPort.off) with hit := true } } } [(ethBase 0, Rg.ETH_STAT.MISS, 2)] : State).eth.ports.length = 4 ∧ (put { pairWorld 1 2 with eth := { world.eth with ports := listSet world.eth.ports 1 { (EthPort.off) with hit := true } } } [(ethBase 0, Rg.ETH_STAT.MISS, 2)] : State).paired = true ∧ (put { pairWorld 1 2 with eth := { world.eth with ports := listSet world.eth.ports 1 { (EthPort.off) with hit := true } } } [(ethBase 0, Rg.ETH_STAT.MISS, 2)] : State).flag (ethBase 0) Rg.UP_CFG.HB_EN = true ∧ (put { pairWorld 1 2 with eth := { world.eth with ports := listSet world.eth.ports 1 { (EthPort.off) with hit := true } } } [(ethBase 0, Rg.ETH_STAT.MISS, 2)] : State).onMilli = true ∧ (put { pairWorld 1 2 with eth := { world.eth with ports := listSet world.eth.ports 1 { (EthPort.off) with hit := true } } } [(ethBase 0, Rg.ETH_STAT.MISS, 2)] : State).eth.winAt ≠ some (put { pairWorld 1 2 with eth := { world.eth with ports := listSet world.eth.ports 1 { (EthPort.off) with hit := true } } } [(ethBase 0, Rg.ETH_STAT.MISS, 2)] : State).nowNs ∧ ((put { pairWorld 1 2 with eth := { world.eth with ports := listSet world.eth.ports 1 { (EthPort.off) with hit := true } } } [(ethBase 0, Rg.ETH_STAT.MISS, 2)] : State).port 0).hit = false ∧ ((put { pairWorld 1 2 with eth := { world.eth with ports := listSet world.eth.ports 1 { (EthPort.off) with hit := true } } } [(ethBase 0, Rg.ETH_STAT.MISS, 2)] : State).port 1).hit = true ∧ (put { pairWorld 1 2 with eth := { world.eth with ports := listSet world.eth.ports 1 { (EthPort.off) with hit := true } } } [(ethBase 0, Rg.ETH_STAT.MISS, 2)] : State).get (ethBase 0) Rg.ETH_STAT.MISS = 2 ∧ (put { pairWorld 1 2 with eth := { world.eth with ports := listSet world.eth.ports 1 { (EthPort.off) with hit := true } } } [(ethBase 0, Rg.ETH_STAT.MISS, 2)] : State).role 0 = 1 ∧ (put { pairWorld 1 2 with eth := { world.eth with ports := listSet world.eth.ports 1 { (EthPort.off) with hit := true } } } [(ethBase 0, Rg.ETH_STAT.MISS, 2)] : State).role 1 = 2 := by decide +kernel

theorem witness_UplinkPairFailsOver_4 :
    ({ pairWorld 3 1 with time := { world.time with era := 3 }, eth := { world.eth with drain := some (0, 5), ports := listSet world.eth.ports 0 { (EthPort.off) with fifo := [⟨0, some 0, none, false, false, none, [1]⟩, ⟨3, none, some (1, 3), false, false, none, [2]⟩] } } } : State).eth.ports.length = 4 ∧ ({ pairWorld 3 1 with time := { world.time with era := 3 }, eth := { world.eth with drain := some (0, 5), ports := listSet world.eth.ports 0 { (EthPort.off) with fifo := [⟨0, some 0, none, false, false, none, [1]⟩, ⟨3, none, some (1, 3), false, false, none, [2]⟩] } } } : State).eth.drain = some (0, 5) ∧ 0 < 4 ∧ 5 + 2000000 ≤ ({ pairWorld 3 1 with time := { world.time with era := 3 }, eth := { world.eth with drain := some (0, 5), ports := listSet world.eth.ports 0 { (EthPort.off) with fifo := [⟨0, some 0, none, false, false, none, [1]⟩, ⟨3, none, some (1, 3), false, false, none, [2]⟩] } } } : State).nowNs := by decide +kernel

theorem witness_UplinkPairFailsOver_5 :
    ({ pairWorld 1 4 with time := { world.time with era := 3 } } : State).eth.ports.length = 4 ∧ ({ pairWorld 1 4 with time := { world.time with era := 3 } } : State).inPair 1 = true ∧ ({ pairWorld 1 4 with time := { world.time with era := 3 } } : State).role 1 = 4 ∧ ({ pairWorld 1 4 with time := { world.time with era := 3 } } : State).linkOn 1 = true ∧ (({ pairWorld 1 4 with time := { world.time with era := 3 } } : State).port 1).since + ({ pairWorld 1 4 with time := { world.time with era := 3 } } : State).repairTime ≤ ({ pairWorld 1 4 with time := { world.time with era := 3 } } : State).nowNs ∧ ({ pairWorld 1 4 with time := { world.time with era := 3 } } : State).ptpReady 1 = true ∧ ({ pairWorld 1 4 with time := { world.time with era := 3 } } : State).activePath = some 0 := by decide +kernel

theorem witness_UplinkPairFailsOver_6 :
    ({ pairWorld 3 4 with time := { world.time with era := 3 }, eth := { world.eth with queue := [⟨0, some 0, none, false, false, none, [1]⟩] } } : State).eth.ports.length = 4 ∧ ({ pairWorld 3 4 with time := { world.time with era := 3 }, eth := { world.eth with queue := [⟨0, some 0, none, false, false, none, [1]⟩] } } : State).inPair 1 = true ∧ ({ pairWorld 3 4 with time := { world.time with era := 3 }, eth := { world.eth with queue := [⟨0, some 0, none, false, false, none, [1]⟩] } } : State).role 1 = 4 ∧ ({ pairWorld 3 4 with time := { world.time with era := 3 }, eth := { world.eth with queue := [⟨0, some 0, none, false, false, none, [1]⟩] } } : State).linkOn 1 = true ∧ (({ pairWorld 3 4 with time := { world.time with era := 3 }, eth := { world.eth with queue := [⟨0, some 0, none, false, false, none, [1]⟩] } } : State).port 1).since + ({ pairWorld 3 4 with time := { world.time with era := 3 }, eth := { world.eth with queue := [⟨0, some 0, none, false, false, none, [1]⟩] } } : State).repairTime ≤ ({ pairWorld 3 4 with time := { world.time with era := 3 }, eth := { world.eth with queue := [⟨0, some 0, none, false, false, none, [1]⟩] } } : State).nowNs ∧ ({ pairWorld 3 4 with time := { world.time with era := 3 }, eth := { world.eth with queue := [⟨0, some 0, none, false, false, none, [1]⟩] } } : State).ptpReady 1 = true ∧ ({ pairWorld 3 4 with time := { world.time with era := 3 }, eth := { world.eth with queue := [⟨0, some 0, none, false, false, none, [1]⟩] } } : State).activePath = none := by decide +kernel

theorem witness_UplinkPairFailsOver_7 :
    (pairWorld 1 2 : State).eth.ports.length = 4 ∧ (mayWriteService (pairWorld 1 2 : State) (.mp : Master) || (.mp : Master) == .tp) = true ∧ (pairWorld 1 2 : State).on .io = true ∧ (pairWorld 1 2 : State).ethPcs 0 ≠ 0 ∧ (pairWorld 1 2 : State).eth.drain = none ∧ (pairWorld 1 2 : State).activePath = some 0 ∧ (pairWorld 1 2 : State).role (1 - 0) = 2 := by decide +kernel

theorem witness_UplinkPairFailsOver_8 :
    (mayWriteService ({ pairWorld 1 2 with eth := { world.eth with drain := some (1, 5) } } : State) (.mp : Master) || (.mp : Master) == .tp) = true ∧ ({ pairWorld 1 2 with eth := { world.eth with drain := some (1, 5) } } : State).on .io = true ∧ ({ pairWorld 1 2 with eth := { world.eth with drain := some (1, 5) } } : State).ethPcs 0 ≠ 0 ∧ ({ pairWorld 1 2 with eth := { world.eth with drain := some (1, 5) } } : State).eth.drain.isSome = true := by decide +kernel

theorem witness_PacketContextsTakeFrames_1 :
    1 < 8 ∧ 7 < 1024 ∧ (put (ringWorld 86 34 (udpFrame 900 901 [1, 2, 3]) [45 * 2 ^ 12, 9] 0x71) [(pcBase 1 7, Rg.PC_CFG.EN, 1), (pcBase 1 7, Rg.PC_CFG.KIND, 1), (pcBase 1 7, Rg.PC_CFG.WILD, 1), (pcBase 1 7, Rg.PC_PORTS.LPORT, 901)] : State).item (pkPos 1) 0x71 = some (86, (⟨0x7100, [45 * 2 ^ 12, 9], false⟩ : QPkt)) ∧ ((put (ringWorld 86 34 (udpFrame 900 901 [1, 2, 3]) [45 * 2 ^ 12, 9] 0x71) [(pcBase 1 7, Rg.PC_CFG.EN, 1), (pcBase 1 7, Rg.PC_CFG.KIND, 1), (pcBase 1 7, Rg.PC_CFG.WILD, 1), (pcBase 1 7, Rg.PC_PORTS.LPORT, 901)] : State).taken (pkPos 1) 0x71).memRead ((put (ringWorld 86 34 (udpFrame 900 901 [1, 2, 3]) [45 * 2 ^ 12, 9] 0x71) [(pcBase 1 7, Rg.PC_CFG.EN, 1), (pcBase 1 7, Rg.PC_CFG.KIND, 1), (pcBase 1 7, Rg.PC_CFG.WILD, 1), (pcBase 1 7, Rg.PC_PORTS.LPORT, 901)] : State).slotAddr 86 (pkPos 1) (bits 0 12 ((⟨0x7100, [45 * 2 ^ 12, 9], false⟩ : QPkt).data.headD 0))) (bits 12 14 ((⟨0x7100, [45 * 2 ^ 12, 9], false⟩ : QPkt).data.headD 0)) = (((State.memRead (State.taken (put (ringWorld 86 34 (udpFrame 900 901 [1, 2, 3]) [45 * 2 ^ 12, 9] 0x71) [(pcBase 1 7, Rg.PC_CFG.EN, 1), (pcBase 1 7, Rg.PC_CFG.KIND, 1), (pcBase 1 7, Rg.PC_CFG.WILD, 1), (pcBase 1 7, Rg.PC_PORTS.LPORT, 901)]) (pkPos 1) 0x71) (State.slotAddr (put (ringWorld 86 34 (udpFrame 900 901 [1, 2, 3]) [45 * 2 ^ 12, 9] 0x71) [(pcBase 1 7, Rg.PC_CFG.EN, 1), (pcBase 1 7, Rg.PC_CFG.KIND, 1), (pcBase 1 7, Rg.PC_CFG.WILD, 1), (pcBase 1 7, Rg.PC_PORTS.LPORT, 901)]) 86 (pkPos 1) 0) 45).1 : State), some (udpFrame 900 901 [1, 2, 3] : List Byte)) ∧
    ipGram (udpFrame 900 901 [1, 2, 3] : List Byte) = some (⟨(udpFrame 900 901 [1, 2, 3]).drop 14, false, [10, 0, 0, 1], [10, 0, 0, 2], 17, false, ((udpFrame 900 901 [1, 2, 3]).drop 34)⟩ : IpGram) ∧ (⟨(udpFrame 900 901 [1, 2, 3]).drop 14, false, [10, 0, 0, 1], [10, 0, 0, 2], 17, false, ((udpFrame 900 901 [1, 2, 3]).drop 34)⟩ : IpGram).sumOk = true ∧ (⟨(udpFrame 900 901 [1, 2, 3]).drop 14, false, [10, 0, 0, 1], [10, 0, 0, 2], 17, false, ((udpFrame 900 901 [1, 2, 3]).drop 34)⟩ : IpGram).frag = false ∧ (⟨(udpFrame 900 901 [1, 2, 3]).drop 14, false, [10, 0, 0, 1], [10, 0, 0, 2], 17, false, ((udpFrame 900 901 [1, 2, 3]).drop 34)⟩ : IpGram).proto = 17 ∧ ((State.memRead (State.taken (put (ringWorld 86 34 (udpFrame 900 901 [1, 2, 3]) [45 * 2 ^ 12, 9] 0x71) [(pcBase 1 7, Rg.PC_CFG.EN, 1), (pcBase 1 7, Rg.PC_CFG.KIND, 1), (pcBase 1 7, Rg.PC_CFG.WILD, 1), (pcBase 1 7, Rg.PC_PORTS.LPORT, 901)]) (pkPos 1) 0x71) (State.slotAddr (put (ringWorld 86 34 (udpFrame 900 901 [1, 2, 3]) [45 * 2 ^ 12, 9] 0x71) [(pcBase 1 7, Rg.PC_CFG.EN, 1), (pcBase 1 7, Rg.PC_CFG.KIND, 1), (pcBase 1 7, Rg.PC_CFG.WILD, 1), (pcBase 1 7, Rg.PC_PORTS.LPORT, 901)]) 86 (pkPos 1) 0) 45).1 : State).rxContext 1 (⟨(udpFrame 900 901 [1, 2, 3]).drop 14, false, [10, 0, 0, 1], [10, 0, 0, 2], 17, false, ((udpFrame 900 901 [1, 2, 3]).drop 34)⟩ : IpGram) = some 7 ∧ ((State.memRead (State.taken (put (ringWorld 86 34 (udpFrame 900 901 [1, 2, 3]) [45 * 2 ^ 12, 9] 0x71) [(pcBase 1 7, Rg.PC_CFG.EN, 1), (pcBase 1 7, Rg.PC_CFG.KIND, 1), (pcBase 1 7, Rg.PC_CFG.WILD, 1), (pcBase 1 7, Rg.PC_PORTS.LPORT, 901)]) (pkPos 1) 0x71) (State.slotAddr (put (ringWorld 86 34 (udpFrame 900 901 [1, 2, 3]) [45 * 2 ^ 12, 9] 0x71) [(pcBase 1 7, Rg.PC_CFG.EN, 1), (pcBase 1 7, Rg.PC_CFG.KIND, 1), (pcBase 1 7, Rg.PC_CFG.WILD, 1), (pcBase 1 7, Rg.PC_PORTS.LPORT, 901)]) 86 (pkPos 1) 0) 45).1 : State).ctxProto 1 7 = 0 := by decide +kernel

theorem witness_PacketContextsTakeFrames_2 :
    1 < 8 ∧ (ringWorld 86 34 [1, 2, 3, 4] [4 * 2 ^ 12, 9] 0x71 : State).item (pkPos 1) 0x71 = some (86, (⟨0x7100, [4 * 2 ^ 12, 9], false⟩ : QPkt)) ∧ ((ringWorld 86 34 [1, 2, 3, 4] [4 * 2 ^ 12, 9] 0x71 : State).taken (pkPos 1) 0x71).memRead ((ringWorld 86 34 [1, 2, 3, 4] [4 * 2 ^ 12, 9] 0x71 : State).slotAddr 86 (pkPos 1) (bits 0 12 ((⟨0x7100, [4 * 2 ^ 12, 9], false⟩ : QPkt).data.headD 0))) (bits 12 14 ((⟨0x7100, [4 * 2 ^ 12, 9], false⟩ : QPkt).data.headD 0)) = (((State.memRead (State.taken (ringWorld 86 34 [1, 2, 3, 4] [4 * 2 ^ 12, 9] 0x71) (pkPos 1) 0x71) (State.slotAddr (ringWorld 86 34 [1, 2, 3, 4] [4 * 2 ^ 12, 9] 0x71) 86 (pkPos 1) 0) 4).1 : State), some ([1, 2, 3, 4] : List Byte)) ∧ ipGram ([1, 2, 3, 4] : List Byte) = none := by decide +kernel

theorem witness_PacketContextsTakeFrames_3 :
    1 < 8 ∧ 7 < 1024 ∧ (put (ringWorld 22 34 [1, 2, 3, 4] [4 * 2 ^ 12, 9] 0x30) [(pcBase 1 7, Rg.PC_CFG.EN, 1), (pcBase 1 7, Rg.PC_CFG.KIND, 4), (pcBase 1 7, Rg.PC_CFG.PROTO, 2)] : State).rx.find? (fun p => (put (ringWorld 22 34 [1, 2, 3, 4] [4 * 2 ^ 12, 9] 0x30) [(pcBase 1 7, Rg.PC_CFG.EN, 1), (pcBase 1 7, Rg.PC_CFG.KIND, 4), (pcBase 1 7, Rg.PC_CFG.PROTO, 2)] : State).isItem (pkPos 1) 0x54 p || (put (ringWorld 22 34 [1, 2, 3, 4] [4 * 2 ^ 12, 9] 0x30) [(pcBase 1 7, Rg.PC_CFG.EN, 1), (pcBase 1 7, Rg.PC_CFG.KIND, 4), (pcBase 1 7, Rg.PC_CFG.PROTO, 2)] : State).isItem (pkPos 1) 0x30 p) = some (1, (⟨0x3000, [4 * 2 ^ 12, 9], false⟩ : QPkt)) ∧ pktType (⟨0x3000, [4 * 2 ^ 12, 9], false⟩ : QPkt).lw = 0x30 ∧
    ((put (ringWorld 22 34 [1, 2, 3, 4] [4 * 2 ^ 12, 9] 0x30) [(pcBase 1 7, Rg.PC_CFG.EN, 1), (pcBase 1 7, Rg.PC_CFG.KIND, 4), (pcBase 1 7, Rg.PC_CFG.PROTO, 2)] : State).taken (pkPos 1) 0x30).memRead ((put (ringWorld 22 34 [1, 2, 3, 4] [4 * 2 ^ 12, 9] 0x30) [(pcBase 1 7, Rg.PC_CFG.EN, 1), (pcBase 1 7, Rg.PC_CFG.KIND, 4), (pcBase 1 7, Rg.PC_CFG.PROTO, 2)] : State).slotAddr ((put (ringWorld 22 34 [1, 2, 3, 4] [4 * 2 ^ 12, 9] 0x30) [(pcBase 1 7, Rg.PC_CFG.EN, 1), (pcBase 1 7, Rg.PC_CFG.KIND, 4), (pcBase 1 7, Rg.PC_CFG.PROTO, 2)] : State).producer 1) (pkPos 1) (bits 0 12 ((⟨0x3000, [4 * 2 ^ 12, 9], false⟩ : QPkt).data.headD 0))) (bits 12 11 ((⟨0x3000, [4 * 2 ^ 12, 9], false⟩ : QPkt).data.headD 0)) = (((State.memRead (State.taken (put (ringWorld 22 34 [1, 2, 3, 4] [4 * 2 ^ 12, 9] 0x30) [(pcBase 1 7, Rg.PC_CFG.EN, 1), (pcBase 1 7, Rg.PC_CFG.KIND, 4), (pcBase 1 7, Rg.PC_CFG.PROTO, 2)]) (pkPos 1) 0x30) (State.slotAddr (put (ringWorld 22 34 [1, 2, 3, 4] [4 * 2 ^ 12, 9] 0x30) [(pcBase 1 7, Rg.PC_CFG.EN, 1), (pcBase 1 7, Rg.PC_CFG.KIND, 4), (pcBase 1 7, Rg.PC_CFG.PROTO, 2)]) 22 (pkPos 1) 0) 4).1 : State), some ([1, 2, 3, 4] : List Byte)) ∧
    ((State.memRead (State.taken (put (ringWorld 22 34 [1, 2, 3, 4] [4 * 2 ^ 12, 9] 0x30) [(pcBase 1 7, Rg.PC_CFG.EN, 1), (pcBase 1 7, Rg.PC_CFG.KIND, 4), (pcBase 1 7, Rg.PC_CFG.PROTO, 2)]) (pkPos 1) 0x30) (State.slotAddr (put (ringWorld 22 34 [1, 2, 3, 4] [4 * 2 ^ 12, 9] 0x30) [(pcBase 1 7, Rg.PC_CFG.EN, 1), (pcBase 1 7, Rg.PC_CFG.KIND, 4), (pcBase 1 7, Rg.PC_CFG.PROTO, 2)]) 22 (pkPos 1) 0) 4).1 : State).txContexts 1 ((put (ringWorld 22 34 [1, 2, 3, 4] [4 * 2 ^ 12, 9] 0x30) [(pcBase 1 7, Rg.PC_CFG.EN, 1), (pcBase 1 7, Rg.PC_CFG.KIND, 4), (pcBase 1 7, Rg.PC_CFG.PROTO, 2)] : State).inputPort (pkPos 1) 1) 2 0 = [7] ∧ ((State.memRead (State.taken (put (ringWorld 22 34 [1, 2, 3, 4] [4 * 2 ^ 12, 9] 0x30) [(pcBase 1 7, Rg.PC_CFG.EN, 1), (pcBase 1 7, Rg.PC_CFG.KIND, 4), (pcBase 1 7, Rg.PC_CFG.PROTO, 2)]) (pkPos 1) 0x30) (State.slotAddr (put (ringWorld 22 34 [1, 2, 3, 4] [4 * 2 ^ 12, 9] 0x30) [(pcBase 1 7, Rg.PC_CFG.EN, 1), (pcBase 1 7, Rg.PC_CFG.KIND, 4), (pcBase 1 7, Rg.PC_CFG.PROTO, 2)]) 22 (pkPos 1) 0) 4).1 : State).ctxKind 1 7 = 4 := by decide +kernel

theorem witness_PacketContextsTakeFrames_4 :
    1 < 8 ∧ 7 < 1024 ∧ mayWriteService (put (withLink { testLink with rc := ⟨1, 34, 84, 0, 0, false, false, 13, 0, 5⟩ }) [(pcBase 1 7, Rg.PC_CFG.KIND, 3), (pcBase 1 7, Rg.PC_CFG.PROTO, 1), (pcBase 1 7, Rg.PC_TX.PORT, 84)] : State) (.mp : Master) = true ∧ 7 < (put (withLink { testLink with rc := ⟨1, 34, 84, 0, 0, false, false, 13, 0, 5⟩ }) [(pcBase 1 7, Rg.PC_CFG.KIND, 3), (pcBase 1 7, Rg.PC_CFG.PROTO, 1), (pcBase 1 7, Rg.PC_TX.PORT, 84)] : State).lanesAt (pkPos 1) ∧ (put (withLink { testLink with rc := ⟨1, 34, 84, 0, 0, false, false, 13, 0, 5⟩ }) [(pcBase 1 7, Rg.PC_CFG.KIND, 3), (pcBase 1 7, Rg.PC_CFG.PROTO, 1), (pcBase 1 7, Rg.PC_TX.PORT, 84)] : State).on (domOf (islandOf (pkPos 1))) = true ∧
    (put (withLink { testLink with rc := ⟨1, 34, 84, 0, 0, false, false, 13, 0, 5⟩ }) [(pcBase 1 7, Rg.PC_CFG.KIND, 3), (pcBase 1 7, Rg.PC_CFG.PROTO, 1), (pcBase 1 7, Rg.PC_TX.PORT, 84)] : State).flag (pcBase 1 7) Rg.PC_CFG.OWNED = false ∧ (put (withLink { testLink with rc := ⟨1, 34, 84, 0, 0, false, false, 13, 0, 5⟩ }) [(pcBase 1 7, Rg.PC_CFG.KIND, 3), (pcBase 1 7, Rg.PC_CFG.PROTO, 1), (pcBase 1 7, Rg.PC_TX.PORT, 84)] : State).ctxOn 1 7 = false ∧ (put (withLink { testLink with rc := ⟨1, 34, 84, 0, 0, false, false, 13, 0, 5⟩ }) [(pcBase 1 7, Rg.PC_CFG.KIND, 3), (pcBase 1 7, Rg.PC_CFG.PROTO, 1), (pcBase 1 7, Rg.PC_TX.PORT, 84)] : State).ctxRefusal 1 7 = 0 := by decide +kernel

theorem witness_PacketContextsTakeFrames_5 :
    1 < 8 ∧ 7 < 1024 ∧ mayWriteService (put { world with pkt := [(1031, ⟨[1, 2], true, 5⟩)] } [(pcBase 1 7, Rg.PC_STAT.GAP, 1)] : State) (.mp : Master) = true ∧ 7 < (put { world with pkt := [(1031, ⟨[1, 2], true, 5⟩)] } [(pcBase 1 7, Rg.PC_STAT.GAP, 1)] : State).lanesAt (pkPos 1) ∧ (put { world with pkt := [(1031, ⟨[1, 2], true, 5⟩)] } [(pcBase 1 7, Rg.PC_STAT.GAP, 1)] : State).on (domOf (islandOf (pkPos 1))) = true := by decide +kernel

end Sys2Proof.Tests
end

