-- ==== Sys2Proof/Tests/Witness16.lean ====
section
/-! SUPPORT. Witnesses: for each clause of a statement a state and operands that meet its hypotheses. -/

set_option Elab.async false

open Sys2Proof Sys2Proof.Machine

namespace Sys2Proof.Tests

theorem witness_CanControllersTakePart_1 :
    1 < 4 ∧ (put world [(cnBase 1, Rg.CN_STAT.TEC, 5)] : State).cans.length = 4 ∧ mayWriteService (put world [(cnBase 1, Rg.CN_STAT.TEC, 5)] : State) (.mp : Master) = true ∧ (put world [(cnBase 1, Rg.CN_STAT.TEC, 5)] : State).canFitted 1 = true ∧ (put world [(cnBase 1, Rg.CN_STAT.TEC, 5)] : State).flag (cnBase 1) Rg.CN_CTRL.EN = false ∧ (put world [(cnBase 1, Rg.CN_STAT.TEC, 5)] : State).badTiming 1 = false ∧ (put world [(cnBase 1, Rg.CN_STAT.TEC, 5)] : State).badTt 1 = false ∧ ((put world [(cnBase 1, Rg.CN_STAT.TEC, 5)] : State).can 1).adr = none := by decide +kernel

theorem witness_CanControllersTakePart_2 :
    1 < 4 ∧ mayWriteService (put world [(cnBase 1, Rg.CN_NBT.BRP, 0), (cnBase 1, Rg.CN_NBT.TSEG1, 1)] : State) (.mp : Master) = true ∧ (put world [(cnBase 1, Rg.CN_NBT.BRP, 0), (cnBase 1, Rg.CN_NBT.TSEG1, 1)] : State).canFitted 1 = true ∧ (put world [(cnBase 1, Rg.CN_NBT.BRP, 0), (cnBase 1, Rg.CN_NBT.TSEG1, 1)] : State).flag (cnBase 1) Rg.CN_CTRL.EN = false ∧ (put world [(cnBase 1, Rg.CN_NBT.BRP, 0), (cnBase 1, Rg.CN_NBT.TSEG1, 1)] : State).badTiming 1 = true := by decide +kernel

theorem witness_CanControllersTakePart_3 :
    (put world [(cnBase 1, Rg.CN_CTRL.EN, 1), (cnBase 1, Rg.CN_STAT.STATE, 1)] : State).cans.length = 4 ∧ (put world [(cnBase 1, Rg.CN_CTRL.EN, 1), (cnBase 1, Rg.CN_STAT.STATE, 1)] : State).canOn 1 = true ∧ (put world [(cnBase 1, Rg.CN_CTRL.EN, 1), (cnBase 1, Rg.CN_STAT.STATE, 1)] : State).cnState 1 = 1 ∧ (put world [(cnBase 1, Rg.CN_CTRL.EN, 1), (cnBase 1, Rg.CN_STAT.STATE, 1)] : State).get (cnBase 1) Rg.CN_STAT.TEC ≤ 127 ∧ (put world [(cnBase 1, Rg.CN_CTRL.EN, 1), (cnBase 1, Rg.CN_STAT.STATE, 1)] : State).get (cnBase 1) Rg.CN_STAT.REC ≤ 127 ∧ ((put world [(cnBase 1, Rg.CN_CTRL.EN, 1), (cnBase 1, Rg.CN_STAT.STATE, 1)] : State).can 1).objs = [] := by decide +kernel

theorem witness_CanControllersTakePart_4 :
    (1 < 4 ∧ (canWorld { (Can.off) with objs := [(3, { rxObj with isNew := true })] } [] : State).cans.length = 4 ∧ (canWorld { (Can.off) with objs := [(3, { rxObj with isNew := true })] } [] : State).canActive 1 = true ∧ ((canWorld { (Can.off) with objs := [(3, { rxObj with isNew := true })] } [] : State).can 1).adr = none ∧ (false = false ∨ (canWorld { (Can.off) with objs := [(3, { rxObj with isNew := true })] } [] : State).flag (cnBase 1) Rg.CN_CFG.FD_EN = true) ∧ (canWorld { (Can.off) with objs := [(3, { rxObj with isNew := true })] } [] : State).get (cnBase 1) Rg.CN_CFG.OPMODE ≠ 2) ∧
    ((canWorld { (Can.off) with objs := [(3, { rxObj with isNew := true })] } [] : State).can 1).tx = none ∧ ((canWorld { (Can.off) with objs := [(3, { rxObj with isNew := true })] } [] : State).can 1).lock = none ∧ (canWorld { (Can.off) with objs := [(3, { rxObj with isNew := true })] } [] : State).ttOn 1 = false ∧ ((canWorld { (Can.off) with objs := [(3, { rxObj with isNew := true })] } [] : State).can 1).objs = [(3, ({ rxObj with isNew := true } : CanObj))] ∧ ({ rxObj with isNew := true } : CanObj).tx = false ∧ ({ rxObj with isNew := true } : CanObj).id = (0x100 : Nat) ∧ ({ rxObj with isNew := true } : CanObj).ide = false := by decide +kernel

theorem witness_CanControllersTakePart_5 :
    (1 < 4 ∧ (canWorld Can.off [] : State).cans.length = 4 ∧ (canWorld Can.off [] : State).canActive 1 = true ∧ ((canWorld Can.off [] : State).can 1).adr = none ∧ (false = false ∨ (canWorld Can.off [] : State).flag (cnBase 1) Rg.CN_CFG.FD_EN = true) ∧ (canWorld Can.off [] : State).get (cnBase 1) Rg.CN_CFG.OPMODE ≠ 2) ∧
    ((canWorld Can.off [] : State).can 1).objs = [] ∧ ((canWorld Can.off [] : State).can 1).tx = none := by decide +kernel

theorem witness_CanControllersTakePart_6 :
    1 < 4 ∧ (canWorld { (Can.off) with tx := some (3, .request, [5, 5]), objs := [(3, { txObj with pend := true })] } [(cnBase 1, Rg.CN_STAT.TEC, 4)] : State).cans.length = 4 ∧ (canWorld { (Can.off) with tx := some (3, .request, [5, 5]), objs := [(3, { txObj with pend := true })] } [(cnBase 1, Rg.CN_STAT.TEC, 4)] : State).canSends 1 = true ∧ ((canWorld { (Can.off) with tx := some (3, .request, [5, 5]), objs := [(3, { txObj with pend := true })] } [(cnBase 1, Rg.CN_STAT.TEC, 4)] : State).can 1).tx = some (3, CanTx.request, ([5, 5] : List Byte)) ∧ ((canWorld { (Can.off) with tx := some (3, .request, [5, 5]), objs := [(3, { txObj with pend := true })] } [(cnBase 1, Rg.CN_STAT.TEC, 4)] : State).can 1).objs = [(3, ({ txObj with pend := true } : CanObj))] ∧ (canWorld { (Can.off) with tx := some (3, .request, [5, 5]), objs := [(3, { txObj with pend := true })] } [(cnBase 1, Rg.CN_STAT.TEC, 4)] : State).get (cnBase 1) Rg.CN_CFG.OPMODE ≠ 2 := by decide +kernel

theorem witness_CanControllersTakePart_7 :
    1 < 4 ∧ (canWorld Can.off [(cnBase 1, Rg.CN_STAT.TEC, 120)] : State).cans.length = 4 ∧ ((canWorld Can.off [(cnBase 1, Rg.CN_STAT.TEC, 120)] : State).can 1).adr = none ∧ (canWorld Can.off [(cnBase 1, Rg.CN_STAT.TEC, 120)] : State).canActive 1 = true ∧ ((canWorld Can.off [(cnBase 1, Rg.CN_STAT.TEC, 120)] : State).can 1).objs = [] ∧ ((canWorld Can.off [(cnBase 1, Rg.CN_STAT.TEC, 120)] : State).can 1).tx = none := by decide +kernel

theorem witness_CanControllersTakePart_8 :
    1 < 4 ∧ (canWorld { (Can.off) with adr := some ⟨1, 0, 5, 3, false⟩ } [] : State).cans.length = 4 ∧ ((canWorld { (Can.off) with adr := some ⟨1, 0, 5, 3, false⟩ } [] : State).can 1).adr = some (⟨1, 0, 5, 3, false⟩ : CanAdr) := by decide +kernel

theorem witness_CanControllersTakePart_9 :
    1 < 4 ∧ (canWorld { (Can.off) with tx := some (3, .request, []) } [(cnBase 1, Rg.CN_STAT.TEC, 256)] : State).cans.length = 4 ∧ (canWorld { (Can.off) with tx := some (3, .request, []) } [(cnBase 1, Rg.CN_STAT.TEC, 256)] : State).canActive 1 = true ∧ 255 < (canWorld { (Can.off) with tx := some (3, .request, []) } [(cnBase 1, Rg.CN_STAT.TEC, 256)] : State).get (cnBase 1) Rg.CN_STAT.TEC := by decide +kernel

theorem witness_CanControllersTakePart_10 :
    1 < 4 ∧ mayWriteService (canWorld Can.off [(cnBase 1, Rg.CN_STAT.STATE, 4)] : State) (.mp : Master) = true ∧ (canWorld Can.off [(cnBase 1, Rg.CN_STAT.STATE, 4)] : State).canOn 1 = true ∧ (canWorld Can.off [(cnBase 1, Rg.CN_STAT.STATE, 4)] : State).cnState 1 = 4 := by decide +kernel

theorem witness_CanControllersTakePart_11 :
    (canWorld { (Can.off) with objs := [(3, { txObj with pend := true })] } [(cnBase 1, Rg.CN_STAT.STATE, 5), (cnBase 1, Rg.CN_STAT.TEC, 300)] : State).cans.length = 4 ∧ (canWorld { (Can.off) with objs := [(3, { txObj with pend := true })] } [(cnBase 1, Rg.CN_STAT.STATE, 5), (cnBase 1, Rg.CN_STAT.TEC, 300)] : State).canOn 1 = true ∧ (canWorld { (Can.off) with objs := [(3, { txObj with pend := true })] } [(cnBase 1, Rg.CN_STAT.STATE, 5), (cnBase 1, Rg.CN_STAT.TEC, 300)] : State).cnState 1 = 5 := by decide +kernel

theorem witness_CanControllersTakePart_12 :
    1 < 4 ∧ world.cans.length = 4 ∧ mayWriteService world (.mp : Master) = true ∧ world.canFitted 1 = true ∧ world.flag (cnBase 1) Rg.CN_CTRL.EN = false ∧ (world.can 1).adr = none := by decide +kernel

theorem witness_CanControllersTakePart_13 :
    1 < 4 ∧ ({ world with cans := listSet world.cans 1 { (Can.off) with adr := some ⟨1, 0, 5, 3, false⟩ } } : State).cans.length = 4 ∧ mayWriteService ({ world with cans := listSet world.cans 1 { (Can.off) with adr := some ⟨1, 0, 5, 3, false⟩ } } : State) (.mp : Master) = true ∧ ({ world with cans := listSet world.cans 1 { (Can.off) with adr := some ⟨1, 0, 5, 3, false⟩ } } : State).canFitted 1 = true ∧ (({ world with cans := listSet world.cans 1 { (Can.off) with adr := some ⟨1, 0, 5, 3, false⟩ } } : State).can 1).adr = some (⟨1, 0, 5, 3, false⟩ : CanAdr) := by decide +kernel

theorem witness_CanControllersTakePart_14 :
    (1 < 4 ∧ (put { world with cans := listSet world.cans 1 { (Can.off) with adr := some ⟨1, 0, 5, 8, false⟩ } } [(cnBase 1, Rg.CN_ADR.COUNT, 3)] : State).cans.length = 4 ∧ ((put { world with cans := listSet world.cans 1 { (Can.off) with adr := some ⟨1, 0, 5, 8, false⟩ } } [(cnBase 1, Rg.CN_ADR.COUNT, 3)] : State).can 1).adr = some (⟨1, 0, 5, 8, false⟩ : CanAdr) ∧ (8 ≤ (⟨1, 0, 5, 8, false⟩ : CanAdr).errs ∨ (⟨1, 0, 5, 8, false⟩ : CanAdr).since + max ((put { world with cans := listSet world.cans 1 { (Can.off) with adr := some ⟨1, 0, 5, 8, false⟩ } } [(cnBase 1, Rg.CN_ADR.COUNT, 3)] : State).get (cnBase 1) Rg.CN_ADR.DWELL_MS) 1 * 1000000 ≤ (put { world with cans := listSet world.cans 1 { (Can.off) with adr := some ⟨1, 0, 5, 8, false⟩ } } [(cnBase 1, Rg.CN_ADR.COUNT, 3)] : State).nowNs) ∧ (⟨1, 0, 5, 8, false⟩ : CanAdr).good = false ∧ (⟨1, 0, 5, 8, false⟩ : CanAdr).idx < (put { world with cans := listSet world.cans 1 { (Can.off) with adr := some ⟨1, 0, 5, 8, false⟩ } } [(cnBase 1, Rg.CN_ADR.COUNT, 3)] : State).get (cnBase 1) Rg.CN_ADR.COUNT) := by decide +kernel

theorem witness_CanControllersTakePart_15 :
    1 < 4 ∧ (canWorld Can.off [] : State).canOn 1 = true := by decide +kernel

theorem witness_CanObjectsAndSchedules_1 :
    1 < 4 ∧ (put world [(cnBase 1, Rg.CN_OBJ_SEL.OBJ, 7)] : State).cans.length = 4 ∧ mayWriteService (put world [(cnBase 1, Rg.CN_OBJ_SEL.OBJ, 7)] : State) (.mp : Master) = true ∧ (put world [(cnBase 1, Rg.CN_OBJ_SEL.OBJ, 7)] : State).canFitted 1 = true ∧ 7 = (put world [(cnBase 1, Rg.CN_OBJ_SEL.OBJ, 7)] : State).canSel 1 ∧ bitOf 30 (0x100 + 2 ^ 30 + 8 * 2 ^ 32 : Nat) = true ∧ ((put world [(cnBase 1, Rg.CN_OBJ_SEL.OBJ, 7)] : State).can 1).obj 7 = none ∧ ((put world [(cnBase 1, Rg.CN_OBJ_SEL.OBJ, 7)] : State).can 1).objs.all (fun p => p.2.id != bits 0 29 (0x100 + 2 ^ 30 + 8 * 2 ^ 32 : Nat) || p.2.ide != bitOf 29 (0x100 + 2 ^ 30 + 8 * 2 ^ 32 : Nat)) = true ∧
    ((bitOf 29 (0x100 + 2 ^ 30 + 8 * 2 ^ 32 : Nat) = true ∨ bits 0 29 (0x100 + 2 ^ 30 + 8 * 2 ^ 32 : Nat) ≤ 0x7FF) ∧ (bitOf 36 (0x100 + 2 ^ 30 + 8 * 2 ^ 32 : Nat) = true ∨ bits 32 4 (0x100 + 2 ^ 30 + 8 * 2 ^ 32 : Nat) ≤ 8) ∧ ((bitOf 36 (0x100 + 2 ^ 30 + 8 * 2 ^ 32 : Nat) = false ∧ bitOf 37 (0x100 + 2 ^ 30 + 8 * 2 ^ 32 : Nat) = false) ∨ (put world [(cnBase 1, Rg.CN_OBJ_SEL.OBJ, 7)] : State).flag (cnBase 1) Rg.CN_CFG.FD_EN = true)) := by decide +kernel

theorem witness_CanObjectsAndSchedules_2 :
    1 < 4 ∧ (canWorld { (Can.off) with lock := some (3, 5), objs := [(3, rxObj)] } [(cnBase 1, Rg.CN_STAT.LOCKED, 1)] : State).cans.length = 4 ∧ mayWriteService (canWorld { (Can.off) with lock := some (3, 5), objs := [(3, rxObj)] } [(cnBase 1, Rg.CN_STAT.LOCKED, 1)] : State) (.mp : Master) = true ∧ (canWorld { (Can.off) with lock := some (3, 5), objs := [(3, rxObj)] } [(cnBase 1, Rg.CN_STAT.LOCKED, 1)] : State).canFitted 1 = true := by decide +kernel

theorem witness_CanObjectsAndSchedules_3 :
    1 < 4 ∧ (canWorld { (Can.off) with objs := [(3, rxObj)] } [(cnBase 1, Rg.CN_OBJ_SEL.OBJ, 3)] : State).cans.length = 4 ∧ (canWorld { (Can.off) with objs := [(3, rxObj)] } [(cnBase 1, Rg.CN_OBJ_SEL.OBJ, 3)] : State).canFitted 1 = true ∧ 3 = (canWorld { (Can.off) with objs := [(3, rxObj)] } [(cnBase 1, Rg.CN_OBJ_SEL.OBJ, 3)] : State).canSel 1 ∧ ((canWorld { (Can.off) with objs := [(3, rxObj)] } [(cnBase 1, Rg.CN_OBJ_SEL.OBJ, 3)] : State).can 1).obj 3 = some rxObj ∧ ((canWorld { (Can.off) with objs := [(3, rxObj)] } [(cnBase 1, Rg.CN_OBJ_SEL.OBJ, 3)] : State).can 1).lock = none := by decide +kernel

theorem witness_CanObjectsAndSchedules_4 :
    1 < 4 ∧ (canWorld { (Can.off) with lock := some (3, 5), objs := [(3, { rxObj with isNew := true })] } [(cnBase 1, Rg.CN_OBJ_SEL.OBJ, 3)] : State).cans.length = 4 ∧ (canWorld { (Can.off) with lock := some (3, 5), objs := [(3, { rxObj with isNew := true })] } [(cnBase 1, Rg.CN_OBJ_SEL.OBJ, 3)] : State).canFitted 1 = true ∧ 3 = (canWorld { (Can.off) with lock := some (3, 5), objs := [(3, { rxObj with isNew := true })] } [(cnBase 1, Rg.CN_OBJ_SEL.OBJ, 3)] : State).canSel 1 ∧ ((canWorld { (Can.off) with lock := some (3, 5), objs := [(3, { rxObj with isNew := true })] } [(cnBase 1, Rg.CN_OBJ_SEL.OBJ, 3)] : State).can 1).obj 3 = some ({ rxObj with isNew := true } : CanObj) ∧ ((canWorld { (Can.off) with lock := some (3, 5), objs := [(3, { rxObj with isNew := true })] } [(cnBase 1, Rg.CN_OBJ_SEL.OBJ, 3)] : State).can 1).lock = some (3, 5) ∧ ({ rxObj with isNew := true } : CanObj).shadow = none := by decide +kernel

theorem witness_CanObjectsAndSchedules_5 :
    1 < 4 ∧ ({ canWorld { (Can.off) with lock := some (3, 5), objs := [(3, { rxObj with shadow := some (⟨0x100, false, 2, false, false, false, [1, 2], 9, 0⟩, true) })] } [] with time := { world.time with era := 3 } } : State).cans.length = 4 ∧ (({ canWorld { (Can.off) with lock := some (3, 5), objs := [(3, { rxObj with shadow := some (⟨0x100, false, 2, false, false, false, [1, 2], 9, 0⟩, true) })] } [] with time := { world.time with era := 3 } } : State).can 1).lock = some (3, 5) ∧ 5 + max (({ canWorld { (Can.off) with lock := some (3, 5), objs := [(3, { rxObj with shadow := some (⟨0x100, false, 2, false, false, false, [1, 2], 9, 0⟩, true) })] } [] with time := { world.time with era := 3 } } : State).get (cnBase 1) Rg.CN_CFG.LOCK_MS) 1 * 1000000 ≤ ({ canWorld { (Can.off) with lock := some (3, 5), objs := [(3, { rxObj with shadow := some (⟨0x100, false, 2, false, false, false, [1, 2], 9, 0⟩, true) })] } [] with time := { world.time with era := 3 } } : State).nowNs ∧ (({ canWorld { (Can.off) with lock := some (3, 5), objs := [(3, { rxObj with shadow := some (⟨0x100, false, 2, false, false, false, [1, 2], 9, 0⟩, true) })] } [] with time := { world.time with era := 3 } } : State).can 1).obj 3 = some ({ rxObj with shadow := some (⟨0x100, false, 2, false, false, false, [1, 2], 9, 0⟩, true) } : CanObj) ∧ ({ rxObj with shadow := some (⟨0x100, false, 2, false, false, false, [1, 2], 9, 0⟩, true) } : CanObj).shadow = some ((⟨0x100, false, 2, false, false, false, [1, 2], 9, 0⟩ : CanFrame), true) := by decide +kernel

theorem witness_CanObjectsAndSchedules_6 :
    1 < 4 ∧ (canWorld { (Can.off) with objs := [(3, txObj)] } [] : State).cans.length = 4 ∧ mayWriteService (canWorld { (Can.off) with objs := [(3, txObj)] } [] : State) (.mp : Master) = true ∧ (canWorld { (Can.off) with objs := [(3, txObj)] } [] : State).canSends 1 = true ∧ (canWorld { (Can.off) with objs := [(3, txObj)] } [] : State).ttOn 1 = false ∧ ((canWorld { (Can.off) with objs := [(3, txObj)] } [] : State).can 1).objs = [(515 % 512, txObj)] ∧ txObj.tx = true ∧ txObj.pend = false ∧ ((canWorld { (Can.off) with objs := [(3, txObj)] } [] : State).can 1).tx = none := by decide +kernel

theorem witness_CanObjectsAndSchedules_7 :
    1 < 4 ∧ (canWorld { (Can.off) with objs := [(3, { txObj with pend := true })] } [] : State).cans.length = 4 ∧ mayWriteService (canWorld { (Can.off) with objs := [(3, { txObj with pend := true })] } [] : State) (.mp : Master) = true ∧ (canWorld { (Can.off) with objs := [(3, { txObj with pend := true })] } [] : State).canFitted 1 = true ∧ ((canWorld { (Can.off) with objs := [(3, { txObj with pend := true })] } [] : State).can 1).obj (3 % 512) = some ({ txObj with pend := true } : CanObj) ∧ ((canWorld { (Can.off) with objs := [(3, { txObj with pend := true })] } [] : State).can 1).tx = none := by decide +kernel

theorem witness_CanObjectsAndSchedules_8 :
    1 < 4 ∧ (canWorld { (Can.off) with cycAt := some 0, objs := [(3, txObj)] } [(cnBase 1, Rg.CN_CFG.TT_EN, 1), (cnBase 1, Rg.CN_CFG.TT_MASTER, 1), (cnBase 1, Rg.CN_TT_CFG.REF_OBJ, 3), (cnBase 1, Rg.CN_TT_CFG.CYCLES, 2), (cnBase 1, Rg.CN_TT_STAT.CYCLE, 3)] : State).cans.length = 4 ∧ (canWorld { (Can.off) with cycAt := some 0, objs := [(3, txObj)] } [(cnBase 1, Rg.CN_CFG.TT_EN, 1), (cnBase 1, Rg.CN_CFG.TT_MASTER, 1), (cnBase 1, Rg.CN_TT_CFG.REF_OBJ, 3), (cnBase 1, Rg.CN_TT_CFG.CYCLES, 2), (cnBase 1, Rg.CN_TT_STAT.CYCLE, 3)] : State).ttMaster 1 = true ∧ (canWorld { (Can.off) with cycAt := some 0, objs := [(3, txObj)] } [(cnBase 1, Rg.CN_CFG.TT_EN, 1), (cnBase 1, Rg.CN_CFG.TT_MASTER, 1), (cnBase 1, Rg.CN_TT_CFG.REF_OBJ, 3), (cnBase 1, Rg.CN_TT_CFG.CYCLES, 2), (cnBase 1, Rg.CN_TT_STAT.CYCLE, 3)] : State).canSends 1 = true ∧ (canWorld { (Can.off) with cycAt := some 0, objs := [(3, txObj)] } [(cnBase 1, Rg.CN_CFG.TT_EN, 1), (cnBase 1, Rg.CN_CFG.TT_MASTER, 1), (cnBase 1, Rg.CN_TT_CFG.REF_OBJ, 3), (cnBase 1, Rg.CN_TT_CFG.CYCLES, 2), (cnBase 1, Rg.CN_TT_STAT.CYCLE, 3)] : State).cycleDue 1 = true ∧ 3 = (canWorld { (Can.off) with cycAt := some 0, objs := [(3, txObj)] } [(cnBase 1, Rg.CN_CFG.TT_EN, 1), (cnBase 1, Rg.CN_CFG.TT_MASTER, 1), (cnBase 1, Rg.CN_TT_CFG.REF_OBJ, 3), (cnBase 1, Rg.CN_TT_CFG.CYCLES, 2), (cnBase 1, Rg.CN_TT_STAT.CYCLE, 3)] : State).get (cnBase 1) Rg.CN_TT_CFG.REF_OBJ ∧ ((canWorld { (Can.off) with cycAt := some 0, objs := [(3, txObj)] } [(cnBase 1, Rg.CN_CFG.TT_EN, 1), (cnBase 1, Rg.CN_CFG.TT_MASTER, 1), (cnBase 1, Rg.CN_TT_CFG.REF_OBJ, 3), (cnBase 1, Rg.CN_TT_CFG.CYCLES, 2), (cnBase 1, Rg.CN_TT_STAT.CYCLE, 3)] : State).can 1).obj 3 = some txObj ∧ ((canWorld { (Can.off) with cycAt := some 0, objs := [(3, txObj)] } [(cnBase 1, Rg.CN_CFG.TT_EN, 1), (cnBase 1, Rg.CN_CFG.TT_MASTER, 1), (cnBase 1, Rg.CN_TT_CFG.REF_OBJ, 3), (cnBase 1, Rg.CN_TT_CFG.CYCLES, 2), (cnBase 1, Rg.CN_TT_STAT.CYCLE, 3)] : State).can 1).tx = none ∧ ((canWorld { (Can.off) with cycAt := some 0, objs := [(3, txObj)] } [(cnBase 1, Rg.CN_CFG.TT_EN, 1), (cnBase 1, Rg.CN_CFG.TT_MASTER, 1), (cnBase 1, Rg.CN_TT_CFG.REF_OBJ, 3), (cnBase 1, Rg.CN_TT_CFG.CYCLES, 2), (cnBase 1, Rg.CN_TT_STAT.CYCLE, 3)] : State).can 1).cycAt.isSome = true := by decide +kernel

theorem witness_CanObjectsAndSchedules_9 :
    1 < 4 ∧ (({ canWorld { (Can.off) with cycAt := some 5 } [(cnBase 1, Rg.CN_CFG.TT_EN, 1), (cnBase 1, Rg.CN_TT_STAT.SYNC, 1)] with time := { world.time with era := 3 } } : State).can 1).cycAt = some 5 ∧ ({ canWorld { (Can.off) with cycAt := some 5 } [(cnBase 1, Rg.CN_CFG.TT_EN, 1), (cnBase 1, Rg.CN_TT_STAT.SYNC, 1)] with time := { world.time with era := 3 } } : State).ttOn 1 = true ∧ ({ canWorld { (Can.off) with cycAt := some 5 } [(cnBase 1, Rg.CN_CFG.TT_EN, 1), (cnBase 1, Rg.CN_TT_STAT.SYNC, 1)] with time := { world.time with era := 3 } } : State).ttMaster 1 = false ∧ ({ canWorld { (Can.off) with cycAt := some 5 } [(cnBase 1, Rg.CN_CFG.TT_EN, 1), (cnBase 1, Rg.CN_TT_STAT.SYNC, 1)] with time := { world.time with era := 3 } } : State).flag (cnBase 1) Rg.CN_TT_STAT.SYNC = true ∧ 5 * 10 + ({ canWorld { (Can.off) with cycAt := some 5 } [(cnBase 1, Rg.CN_CFG.TT_EN, 1), (cnBase 1, Rg.CN_TT_STAT.SYNC, 1)] with time := { world.time with era := 3 } } : State).get (cnBase 1) Rg.CN_TT_CFG.CYC_US * 11000 ≤ ({ canWorld { (Can.off) with cycAt := some 5 } [(cnBase 1, Rg.CN_CFG.TT_EN, 1), (cnBase 1, Rg.CN_TT_STAT.SYNC, 1)] with time := { world.time with era := 3 } } : State).nowNs * 10 := by decide +kernel

theorem witness_CanObjectsAndSchedules_10 :
    1 < 4 ∧ 7 < 32 ∧ (canWorld { (Can.off) with cycAt := some 0, objs := [(3, txObj)] } [(cnBase 1, Rg.CN_CFG.TT_EN, 1), (cnBase 1, Rg.CN_TT_STAT.SYNC, 1), (cnBase 1 + 56, Rg.CN_TT_WIN.EN, 1), (cnBase 1 + 56, Rg.CN_TT_WIN.OBJ, 3)] : State).cans.length = 4 ∧ (canWorld { (Can.off) with cycAt := some 0, objs := [(3, txObj)] } [(cnBase 1, Rg.CN_CFG.TT_EN, 1), (cnBase 1, Rg.CN_TT_STAT.SYNC, 1), (cnBase 1 + 56, Rg.CN_TT_WIN.EN, 1), (cnBase 1 + 56, Rg.CN_TT_WIN.OBJ, 3)] : State).ttOn 1 = true ∧ (canWorld { (Can.off) with cycAt := some 0, objs := [(3, txObj)] } [(cnBase 1, Rg.CN_CFG.TT_EN, 1), (cnBase 1, Rg.CN_TT_STAT.SYNC, 1), (cnBase 1 + 56, Rg.CN_TT_WIN.EN, 1), (cnBase 1 + 56, Rg.CN_TT_WIN.OBJ, 3)] : State).canSends 1 = true ∧ (canWorld { (Can.off) with cycAt := some 0, objs := [(3, txObj)] } [(cnBase 1, Rg.CN_CFG.TT_EN, 1), (cnBase 1, Rg.CN_TT_STAT.SYNC, 1), (cnBase 1 + 56, Rg.CN_TT_WIN.EN, 1), (cnBase 1 + 56, Rg.CN_TT_WIN.OBJ, 3)] : State).windowDue 1 7 = true ∧ (canWorld { (Can.off) with cycAt := some 0, objs := [(3, txObj)] } [(cnBase 1, Rg.CN_CFG.TT_EN, 1), (cnBase 1, Rg.CN_TT_STAT.SYNC, 1), (cnBase 1 + 56, Rg.CN_TT_WIN.EN, 1), (cnBase 1 + 56, Rg.CN_TT_WIN.OBJ, 3)] : State).flag (cnBase 1) Rg.CN_TT_STAT.SYNC = true ∧
    (canWorld { (Can.off) with cycAt := some 0, objs := [(3, txObj)] } [(cnBase 1, Rg.CN_CFG.TT_EN, 1), (cnBase 1, Rg.CN_TT_STAT.SYNC, 1), (cnBase 1 + 56, Rg.CN_TT_WIN.EN, 1), (cnBase 1 + 56, Rg.CN_TT_WIN.OBJ, 3)] : State).get (cnBase 1 + 7 * 8) Rg.CN_TT_WIN.KIND = 0 ∧ 3 = (canWorld { (Can.off) with cycAt := some 0, objs := [(3, txObj)] } [(cnBase 1, Rg.CN_CFG.TT_EN, 1), (cnBase 1, Rg.CN_TT_STAT.SYNC, 1), (cnBase 1 + 56, Rg.CN_TT_WIN.EN, 1), (cnBase 1 + 56, Rg.CN_TT_WIN.OBJ, 3)] : State).get (cnBase 1 + 7 * 8) Rg.CN_TT_WIN.OBJ ∧ ((canWorld { (Can.off) with cycAt := some 0, objs := [(3, txObj)] } [(cnBase 1, Rg.CN_CFG.TT_EN, 1), (cnBase 1, Rg.CN_TT_STAT.SYNC, 1), (cnBase 1 + 56, Rg.CN_TT_WIN.EN, 1), (cnBase 1 + 56, Rg.CN_TT_WIN.OBJ, 3)] : State).can 1).obj 3 = some txObj ∧ txObj.tx = true ∧ ((canWorld { (Can.off) with cycAt := some 0, objs := [(3, txObj)] } [(cnBase 1, Rg.CN_CFG.TT_EN, 1), (cnBase 1, Rg.CN_TT_STAT.SYNC, 1), (cnBase 1 + 56, Rg.CN_TT_WIN.EN, 1), (cnBase 1 + 56, Rg.CN_TT_WIN.OBJ, 3)] : State).can 1).tx = none := by decide +kernel

end Sys2Proof.Tests
end

