-- ==== Sys2Proof/Tests/Witness17.lean ====
section
/-! SUPPORT. Witnesses: for each clause of a statement a state and operands that meet its hypotheses. -/

set_option Elab.async false

open Sys2Proof Sys2Proof.Machine

namespace Sys2Proof.Tests

theorem witness_DmaChannelsMoveData_1 :
    20 < 64 ∧ mayWriteService world (.mp : Master) = true ∧ 20 % 16 < world.lanesAt (dmPos 20) ∧ world.on (domOf (islandOf (dmPos 20))) = true ∧ (List.range 16).all (fun n => world.dmState (20 / 16 * 16 + n) != 1) = true ∧
    world.dmState 20 = 0 ∧ world.dmRefusal 20 = 0 ∧ world.get (dmBase 20) Rg.DM_COUNT.COUNT = 0 ∧ world.flag (dmBase 20) Rg.DM_CREC.CREC_EN = false ∧ world.flag (dmBase 20) Rg.DM_CREC.IRQ = false := by decide +kernel

theorem witness_DmaChannelsMoveData_2 :
    20 < 64 ∧ mayWriteService (put world [(dmBase 20, Rg.DM_COUNT.COUNT, 100), (dmBase 20, Rg.DM_SRC.ADDR, 0x10000020), (dmBase 20, Rg.DM_DST.ADDR, 0x10001000)] : State) (.mp : Master) = true ∧ 20 % 16 < (put world [(dmBase 20, Rg.DM_COUNT.COUNT, 100), (dmBase 20, Rg.DM_SRC.ADDR, 0x10000020), (dmBase 20, Rg.DM_DST.ADDR, 0x10001000)] : State).lanesAt (dmPos 20) ∧ (put world [(dmBase 20, Rg.DM_COUNT.COUNT, 100), (dmBase 20, Rg.DM_SRC.ADDR, 0x10000020), (dmBase 20, Rg.DM_DST.ADDR, 0x10001000)] : State).on (domOf (islandOf (dmPos 20))) = true ∧ (List.range 16).all (fun n => (put world [(dmBase 20, Rg.DM_COUNT.COUNT, 100), (dmBase 20, Rg.DM_SRC.ADDR, 0x10000020), (dmBase 20, Rg.DM_DST.ADDR, 0x10001000)] : State).dmState (20 / 16 * 16 + n) != 1 && ((put world [(dmBase 20, Rg.DM_COUNT.COUNT, 100), (dmBase 20, Rg.DM_SRC.ADDR, 0x10000020), (dmBase 20, Rg.DM_DST.ADDR, 0x10001000)] : State).dm (20 / 16 * 16 + n)).beats == []) = true ∧
    (put world [(dmBase 20, Rg.DM_COUNT.COUNT, 100), (dmBase 20, Rg.DM_SRC.ADDR, 0x10000020), (dmBase 20, Rg.DM_DST.ADDR, 0x10001000)] : State).dmState 20 = 0 ∧ (put world [(dmBase 20, Rg.DM_COUNT.COUNT, 100), (dmBase 20, Rg.DM_SRC.ADDR, 0x10000020), (dmBase 20, Rg.DM_DST.ADDR, 0x10001000)] : State).dmRefusal 20 = 0 ∧ 0 < (put world [(dmBase 20, Rg.DM_COUNT.COUNT, 100), (dmBase 20, Rg.DM_SRC.ADDR, 0x10000020), (dmBase 20, Rg.DM_DST.ADDR, 0x10001000)] : State).get (dmBase 20) Rg.DM_COUNT.COUNT ∧ (put world [(dmBase 20, Rg.DM_COUNT.COUNT, 100), (dmBase 20, Rg.DM_SRC.ADDR, 0x10000020), (dmBase 20, Rg.DM_DST.ADDR, 0x10001000)] : State).flag (dmBase 20) Rg.DM_SRC.LIST = false ∧ (put world [(dmBase 20, Rg.DM_COUNT.COUNT, 100), (dmBase 20, Rg.DM_SRC.ADDR, 0x10000020), (dmBase 20, Rg.DM_DST.ADDR, 0x10001000)] : State).flag (dmBase 20) Rg.DM_DST.LIST = false := by decide +kernel

theorem witness_DmaChannelsMoveData_3 :
    20 < 64 ∧ mayWriteService (put world [(dmBase 20, Rg.DM_STAT.STATE, 2)] : State) (.mp : Master) = true ∧ 20 % 16 < (put world [(dmBase 20, Rg.DM_STAT.STATE, 2)] : State).lanesAt (dmPos 20) ∧ (put world [(dmBase 20, Rg.DM_STAT.STATE, 2)] : State).on (domOf (islandOf (dmPos 20))) = true ∧ (put world [(dmBase 20, Rg.DM_STAT.STATE, 2)] : State).dmState 20 = 2 := by decide +kernel

theorem witness_DmaChannelsMoveData_4 :
    20 < 64 ∧ mayWriteService (put { world with dma := { world.dma with lanes := [(20, { (DmaLane.off) with bytes := 77 })] } } [(dmBase 20, Rg.DM_STAT.STATE, 1), (dmBase 20, Rg.DM_CREC.IRQ, 1)] : State) (.mp : Master) = true ∧ 20 % 16 < (put { world with dma := { world.dma with lanes := [(20, { (DmaLane.off) with bytes := 77 })] } } [(dmBase 20, Rg.DM_STAT.STATE, 1), (dmBase 20, Rg.DM_CREC.IRQ, 1)] : State).lanesAt (dmPos 20) ∧ (put { world with dma := { world.dma with lanes := [(20, { (DmaLane.off) with bytes := 77 })] } } [(dmBase 20, Rg.DM_STAT.STATE, 1), (dmBase 20, Rg.DM_CREC.IRQ, 1)] : State).on (domOf (islandOf (dmPos 20))) = true ∧
    (((put { world with dma := { world.dma with lanes := [(20, { (DmaLane.off) with bytes := 77 })] } } [(dmBase 20, Rg.DM_STAT.STATE, 1), (dmBase 20, Rg.DM_CREC.IRQ, 1)] : State).dmState 20 = 1 ∨ (put { world with dma := { world.dma with lanes := [(20, { (DmaLane.off) with bytes := 77 })] } } [(dmBase 20, Rg.DM_STAT.STATE, 1), (dmBase 20, Rg.DM_CREC.IRQ, 1)] : State).dmState 20 = 3) ∧ ((put { world with dma := { world.dma with lanes := [(20, { (DmaLane.off) with bytes := 77 })] } } [(dmBase 20, Rg.DM_STAT.STATE, 1), (dmBase 20, Rg.DM_CREC.IRQ, 1)] : State).dm 20).beats = [] ∧ ((put { world with dma := { world.dma with lanes := [(20, { (DmaLane.off) with bytes := 77 })] } } [(dmBase 20, Rg.DM_STAT.STATE, 1), (dmBase 20, Rg.DM_CREC.IRQ, 1)] : State).dm 20).fail = none ∧ (put { world with dma := { world.dma with lanes := [(20, { (DmaLane.off) with bytes := 77 })] } } [(dmBase 20, Rg.DM_STAT.STATE, 1), (dmBase 20, Rg.DM_CREC.IRQ, 1)] : State).flag (dmBase 20) Rg.DM_CREC.CREC_EN = false) := by decide +kernel

theorem witness_DmaChannelsMoveData_5 :
    20 < 64 ∧ mayWriteService (put world [(dmBase 20, Rg.DM_STAT.STATE, 2), (dmBase 20, Rg.DM_STAT.SH_VALID, 1), (dmBase 20, Rg.DS_COUNT.COUNT, 100), (dmBase 20, Rg.DS_SRC.ADDR, 0x10000020), (dmBase 20, Rg.DS_DST.ADDR, 0x10001000), (dmBase 20, Rg.DS_TAG.TAG, 9)] : State) (.mp : Master) = true ∧ 20 % 16 < (put world [(dmBase 20, Rg.DM_STAT.STATE, 2), (dmBase 20, Rg.DM_STAT.SH_VALID, 1), (dmBase 20, Rg.DS_COUNT.COUNT, 100), (dmBase 20, Rg.DS_SRC.ADDR, 0x10000020), (dmBase 20, Rg.DS_DST.ADDR, 0x10001000), (dmBase 20, Rg.DS_TAG.TAG, 9)] : State).lanesAt (dmPos 20) ∧ (put world [(dmBase 20, Rg.DM_STAT.STATE, 2), (dmBase 20, Rg.DM_STAT.SH_VALID, 1), (dmBase 20, Rg.DS_COUNT.COUNT, 100), (dmBase 20, Rg.DS_SRC.ADDR, 0x10000020), (dmBase 20, Rg.DS_DST.ADDR, 0x10001000), (dmBase 20, Rg.DS_TAG.TAG, 9)] : State).on (domOf (islandOf (dmPos 20))) = true ∧ (List.range 16).all (fun n => (put world [(dmBase 20, Rg.DM_STAT.STATE, 2), (dmBase 20, Rg.DM_STAT.SH_VALID, 1), (dmBase 20, Rg.DS_COUNT.COUNT, 100), (dmBase 20, Rg.DS_SRC.ADDR, 0x10000020), (dmBase 20, Rg.DS_DST.ADDR, 0x10001000), (dmBase 20, Rg.DS_TAG.TAG, 9)] : State).dmState (20 / 16 * 16 + n) != 1 && ((put world [(dmBase 20, Rg.DM_STAT.STATE, 2), (dmBase 20, Rg.DM_STAT.SH_VALID, 1), (dmBase 20, Rg.DS_COUNT.COUNT, 100), (dmBase 20, Rg.DS_SRC.ADDR, 0x10000020), (dmBase 20, Rg.DS_DST.ADDR, 0x10001000), (dmBase 20, Rg.DS_TAG.TAG, 9)] : State).dm (20 / 16 * 16 + n)).beats == []) = true ∧
    (put world [(dmBase 20, Rg.DM_STAT.STATE, 2), (dmBase 20, Rg.DM_STAT.SH_VALID, 1), (dmBase 20, Rg.DS_COUNT.COUNT, 100), (dmBase 20, Rg.DS_SRC.ADDR, 0x10000020), (dmBase 20, Rg.DS_DST.ADDR, 0x10001000), (dmBase 20, Rg.DS_TAG.TAG, 9)] : State).dmState 20 = 2 ∧ (put world [(dmBase 20, Rg.DM_STAT.STATE, 2), (dmBase 20, Rg.DM_STAT.SH_VALID, 1), (dmBase 20, Rg.DS_COUNT.COUNT, 100), (dmBase 20, Rg.DS_SRC.ADDR, 0x10000020), (dmBase 20, Rg.DS_DST.ADDR, 0x10001000), (dmBase 20, Rg.DS_TAG.TAG, 9)] : State).flag (dmBase 20) Rg.DM_STAT.SH_VALID = true ∧ ((put world [(dmBase 20, Rg.DM_STAT.STATE, 2), (dmBase 20, Rg.DM_STAT.SH_VALID, 1), (dmBase 20, Rg.DS_COUNT.COUNT, 100), (dmBase 20, Rg.DS_SRC.ADDR, 0x10000020), (dmBase 20, Rg.DS_DST.ADDR, 0x10001000), (dmBase 20, Rg.DS_TAG.TAG, 9)] : State).dmCopy 20).dmRefusal 20 = 0 ∧ 0 < (put world [(dmBase 20, Rg.DM_STAT.STATE, 2), (dmBase 20, Rg.DM_STAT.SH_VALID, 1), (dmBase 20, Rg.DS_COUNT.COUNT, 100), (dmBase 20, Rg.DS_SRC.ADDR, 0x10000020), (dmBase 20, Rg.DS_DST.ADDR, 0x10001000), (dmBase 20, Rg.DS_TAG.TAG, 9)] : State).get (dmBase 20) Rg.DS_COUNT.COUNT ∧ (put world [(dmBase 20, Rg.DM_STAT.STATE, 2), (dmBase 20, Rg.DM_STAT.SH_VALID, 1), (dmBase 20, Rg.DS_COUNT.COUNT, 100), (dmBase 20, Rg.DS_SRC.ADDR, 0x10000020), (dmBase 20, Rg.DS_DST.ADDR, 0x10001000), (dmBase 20, Rg.DS_TAG.TAG, 9)] : State).flag (dmBase 20) Rg.DS_SRC.LIST = false ∧ (put world [(dmBase 20, Rg.DM_STAT.STATE, 2), (dmBase 20, Rg.DM_STAT.SH_VALID, 1), (dmBase 20, Rg.DS_COUNT.COUNT, 100), (dmBase 20, Rg.DS_SRC.ADDR, 0x10000020), (dmBase 20, Rg.DS_DST.ADDR, 0x10001000), (dmBase 20, Rg.DS_TAG.TAG, 9)] : State).flag (dmBase 20) Rg.DS_DST.LIST = false := by decide +kernel

theorem witness_DmaChannelsMoveData_6 :
    20 < 64 ∧ mayWriteService (put { world with dma := { world.dma with lanes := [(20, { (DmaLane.off) with bytes := 77, src := ⟨0x10000020, 100, false, true, []⟩, dst := ⟨0x10001000, 100, false, true, []⟩ })] } } [(dmBase 20, Rg.DM_STAT.STATE, 4), (dmBase 20, Rg.DM_COUNT.COUNT, 100), (dmBase 20, Rg.DM_SRC.ADDR, 0x10000020), (dmBase 20, Rg.DM_DST.ADDR, 0x10001000)] : State) (.mp : Master) = true ∧ 20 % 16 < (put { world with dma := { world.dma with lanes := [(20, { (DmaLane.off) with bytes := 77, src := ⟨0x10000020, 100, false, true, []⟩, dst := ⟨0x10001000, 100, false, true, []⟩ })] } } [(dmBase 20, Rg.DM_STAT.STATE, 4), (dmBase 20, Rg.DM_COUNT.COUNT, 100), (dmBase 20, Rg.DM_SRC.ADDR, 0x10000020), (dmBase 20, Rg.DM_DST.ADDR, 0x10001000)] : State).lanesAt (dmPos 20) ∧ (put { world with dma := { world.dma with lanes := [(20, { (DmaLane.off) with bytes := 77, src := ⟨0x10000020, 100, false, true, []⟩, dst := ⟨0x10001000, 100, false, true, []⟩ })] } } [(dmBase 20, Rg.DM_STAT.STATE, 4), (dmBase 20, Rg.DM_COUNT.COUNT, 100), (dmBase 20, Rg.DM_SRC.ADDR, 0x10000020), (dmBase 20, Rg.DM_DST.ADDR, 0x10001000)] : State).on (domOf (islandOf (dmPos 20))) = true ∧ (List.range 16).all (fun n => (put { world with dma := { world.dma with lanes := [(20, { (DmaLane.off) with bytes := 77, src := ⟨0x10000020, 100, false, true, []⟩, dst := ⟨0x10001000, 100, false, true, []⟩ })] } } [(dmBase 20, Rg.DM_STAT.STATE, 4), (dmBase 20, Rg.DM_COUNT.COUNT, 100), (dmBase 20, Rg.DM_SRC.ADDR, 0x10000020), (dmBase 20, Rg.DM_DST.ADDR, 0x10001000)] : State).dmState (20 / 16 * 16 + n) != 1 && ((put { world with dma := { world.dma with lanes := [(20, { (DmaLane.off) with bytes := 77, src := ⟨0x10000020, 100, false, true, []⟩, dst := ⟨0x10001000, 100, false, true, []⟩ })] } } [(dmBase 20, Rg.DM_STAT.STATE, 4), (dmBase 20, Rg.DM_COUNT.COUNT, 100), (dmBase 20, Rg.DM_SRC.ADDR, 0x10000020), (dmBase 20, Rg.DM_DST.ADDR, 0x10001000)] : State).dm (20 / 16 * 16 + n)).beats == []) = true ∧
    (put { world with dma := { world.dma with lanes := [(20, { (DmaLane.off) with bytes := 77, src := ⟨0x10000020, 100, false, true, []⟩, dst := ⟨0x10001000, 100, false, true, []⟩ })] } } [(dmBase 20, Rg.DM_STAT.STATE, 4), (dmBase 20, Rg.DM_COUNT.COUNT, 100), (dmBase 20, Rg.DM_SRC.ADDR, 0x10000020), (dmBase 20, Rg.DM_DST.ADDR, 0x10001000)] : State).dmState 20 = 4 ∧ (put { world with dma := { world.dma with lanes := [(20, { (DmaLane.off) with bytes := 77, src := ⟨0x10000020, 100, false, true, []⟩, dst := ⟨0x10001000, 100, false, true, []⟩ })] } } [(dmBase 20, Rg.DM_STAT.STATE, 4), (dmBase 20, Rg.DM_COUNT.COUNT, 100), (dmBase 20, Rg.DM_SRC.ADDR, 0x10000020), (dmBase 20, Rg.DM_DST.ADDR, 0x10001000)] : State).dmDomainOff 20 = false ∧ (put { world with dma := { world.dma with lanes := [(20, { (DmaLane.off) with bytes := 77, src := ⟨0x10000020, 100, false, true, []⟩, dst := ⟨0x10001000, 100, false, true, []⟩ })] } } [(dmBase 20, Rg.DM_STAT.STATE, 4), (dmBase 20, Rg.DM_COUNT.COUNT, 100), (dmBase 20, Rg.DM_SRC.ADDR, 0x10000020), (dmBase 20, Rg.DM_DST.ADDR, 0x10001000)] : State).namedOff ((put { world with dma := { world.dma with lanes := [(20, { (DmaLane.off) with bytes := 77, src := ⟨0x10000020, 100, false, true, []⟩, dst := ⟨0x10001000, 100, false, true, []⟩ })] } } [(dmBase 20, Rg.DM_STAT.STATE, 4), (dmBase 20, Rg.DM_COUNT.COUNT, 100), (dmBase 20, Rg.DM_SRC.ADDR, 0x10000020), (dmBase 20, Rg.DM_DST.ADDR, 0x10001000)] : State).dm 20).src.host ((put { world with dma := { world.dma with lanes := [(20, { (DmaLane.off) with bytes := 77, src := ⟨0x10000020, 100, false, true, []⟩, dst := ⟨0x10001000, 100, false, true, []⟩ })] } } [(dmBase 20, Rg.DM_STAT.STATE, 4), (dmBase 20, Rg.DM_COUNT.COUNT, 100), (dmBase 20, Rg.DM_SRC.ADDR, 0x10000020), (dmBase 20, Rg.DM_DST.ADDR, 0x10001000)] : State).dm 20).src.cur = false ∧ (put { world with dma := { world.dma with lanes := [(20, { (DmaLane.off) with bytes := 77, src := ⟨0x10000020, 100, false, true, []⟩, dst := ⟨0x10001000, 100, false, true, []⟩ })] } } [(dmBase 20, Rg.DM_STAT.STATE, 4), (dmBase 20, Rg.DM_COUNT.COUNT, 100), (dmBase 20, Rg.DM_SRC.ADDR, 0x10000020), (dmBase 20, Rg.DM_DST.ADDR, 0x10001000)] : State).namedOff ((put { world with dma := { world.dma with lanes := [(20, { (DmaLane.off) with bytes := 77, src := ⟨0x10000020, 100, false, true, []⟩, dst := ⟨0x10001000, 100, false, true, []⟩ })] } } [(dmBase 20, Rg.DM_STAT.STATE, 4), (dmBase 20, Rg.DM_COUNT.COUNT, 100), (dmBase 20, Rg.DM_SRC.ADDR, 0x10000020), (dmBase 20, Rg.DM_DST.ADDR, 0x10001000)] : State).dm 20).dst.host ((put { world with dma := { world.dma with lanes := [(20, { (DmaLane.off) with bytes := 77, src := ⟨0x10000020, 100, false, true, []⟩, dst := ⟨0x10001000, 100, false, true, []⟩ })] } } [(dmBase 20, Rg.DM_STAT.STATE, 4), (dmBase 20, Rg.DM_COUNT.COUNT, 100), (dmBase 20, Rg.DM_SRC.ADDR, 0x10000020), (dmBase 20, Rg.DM_DST.ADDR, 0x10001000)] : State).dm 20).dst.cur = false ∧
    0 < (put { world with dma := { world.dma with lanes := [(20, { (DmaLane.off) with bytes := 77, src := ⟨0x10000020, 100, false, true, []⟩, dst := ⟨0x10001000, 100, false, true, []⟩ })] } } [(dmBase 20, Rg.DM_STAT.STATE, 4), (dmBase 20, Rg.DM_COUNT.COUNT, 100), (dmBase 20, Rg.DM_SRC.ADDR, 0x10000020), (dmBase 20, Rg.DM_DST.ADDR, 0x10001000)] : State).get (dmBase 20) Rg.DM_COUNT.COUNT ∧ (put { world with dma := { world.dma with lanes := [(20, { (DmaLane.off) with bytes := 77, src := ⟨0x10000020, 100, false, true, []⟩, dst := ⟨0x10001000, 100, false, true, []⟩ })] } } [(dmBase 20, Rg.DM_STAT.STATE, 4), (dmBase 20, Rg.DM_COUNT.COUNT, 100), (dmBase 20, Rg.DM_SRC.ADDR, 0x10000020), (dmBase 20, Rg.DM_DST.ADDR, 0x10001000)] : State).flag (dmBase 20) Rg.DM_SRC.LIST = false ∧ (put { world with dma := { world.dma with lanes := [(20, { (DmaLane.off) with bytes := 77, src := ⟨0x10000020, 100, false, true, []⟩, dst := ⟨0x10001000, 100, false, true, []⟩ })] } } [(dmBase 20, Rg.DM_STAT.STATE, 4), (dmBase 20, Rg.DM_COUNT.COUNT, 100), (dmBase 20, Rg.DM_SRC.ADDR, 0x10000020), (dmBase 20, Rg.DM_DST.ADDR, 0x10001000)] : State).flag (dmBase 20) Rg.DM_DST.LIST = false ∧ 0 < ((put { world with dma := { world.dma with lanes := [(20, { (DmaLane.off) with bytes := 77, src := ⟨0x10000020, 100, false, true, []⟩, dst := ⟨0x10001000, 100, false, true, []⟩ })] } } [(dmBase 20, Rg.DM_STAT.STATE, 4), (dmBase 20, Rg.DM_COUNT.COUNT, 100), (dmBase 20, Rg.DM_SRC.ADDR, 0x10000020), (dmBase 20, Rg.DM_DST.ADDR, 0x10001000)] : State).dm 20).src.left ∧ 0 < ((put { world with dma := { world.dma with lanes := [(20, { (DmaLane.off) with bytes := 77, src := ⟨0x10000020, 100, false, true, []⟩, dst := ⟨0x10001000, 100, false, true, []⟩ })] } } [(dmBase 20, Rg.DM_STAT.STATE, 4), (dmBase 20, Rg.DM_COUNT.COUNT, 100), (dmBase 20, Rg.DM_SRC.ADDR, 0x10000020), (dmBase 20, Rg.DM_DST.ADDR, 0x10001000)] : State).dm 20).dst.left ∧ ((put { world with dma := { world.dma with lanes := [(20, { (DmaLane.off) with bytes := 77, src := ⟨0x10000020, 100, false, true, []⟩, dst := ⟨0x10001000, 100, false, true, []⟩ })] } } [(dmBase 20, Rg.DM_STAT.STATE, 4), (dmBase 20, Rg.DM_COUNT.COUNT, 100), (dmBase 20, Rg.DM_SRC.ADDR, 0x10000020), (dmBase 20, Rg.DM_DST.ADDR, 0x10001000)] : State).dm 20).stop = none ∧ ((put { world with dma := { world.dma with lanes := [(20, { (DmaLane.off) with bytes := 77, src := ⟨0x10000020, 100, false, true, []⟩, dst := ⟨0x10001000, 100, false, true, []⟩ })] } } [(dmBase 20, Rg.DM_STAT.STATE, 4), (dmBase 20, Rg.DM_COUNT.COUNT, 100), (dmBase 20, Rg.DM_SRC.ADDR, 0x10000020), (dmBase 20, Rg.DM_DST.ADDR, 0x10001000)] : State).dm 20).fail = none := by decide +kernel

theorem witness_DmaChannelsMoveData_7 :
    20 < 64 ∧ mayWriteService (put { world with power := { world.power with fb := false } } [(dmBase 20, Rg.DM_STAT.STATE, 4), (dmBase 20, Rg.DM_SRC.ADDR, stageBase + 15 * halfSize)] : State) (.mp : Master) = true ∧ 20 % 16 < (put { world with power := { world.power with fb := false } } [(dmBase 20, Rg.DM_STAT.STATE, 4), (dmBase 20, Rg.DM_SRC.ADDR, stageBase + 15 * halfSize)] : State).lanesAt (dmPos 20) ∧ (put { world with power := { world.power with fb := false } } [(dmBase 20, Rg.DM_STAT.STATE, 4), (dmBase 20, Rg.DM_SRC.ADDR, stageBase + 15 * halfSize)] : State).on (domOf (islandOf (dmPos 20))) = true ∧ (put { world with power := { world.power with fb := false } } [(dmBase 20, Rg.DM_STAT.STATE, 4), (dmBase 20, Rg.DM_SRC.ADDR, stageBase + 15 * halfSize)] : State).dmState 20 = 4 ∧ (put { world with power := { world.power with fb := false } } [(dmBase 20, Rg.DM_STAT.STATE, 4), (dmBase 20, Rg.DM_SRC.ADDR, stageBase + 15 * halfSize)] : State).dmDomainOff 20 = true := by decide +kernel

theorem witness_DmaChannelsMoveData_8 :
    20 < 64 ∧ mayWriteService world (.mp : Master) = true ∧ 20 % 16 < world.lanesAt (dmPos 20) ∧ world.on (domOf (islandOf (dmPos 20))) = true := by decide +kernel

theorem witness_DmaChannelsMoveData_9 :
    20 < 64 ∧ mayWriteService (put world [(dmBase 20, Rg.DM_STAT.SH_VALID, 1)] : State) (.mp : Master) = true ∧ 20 % 16 < (put world [(dmBase 20, Rg.DM_STAT.SH_VALID, 1)] : State).lanesAt (dmPos 20) ∧ (put world [(dmBase 20, Rg.DM_STAT.SH_VALID, 1)] : State).on (domOf (islandOf (dmPos 20))) = true := by decide +kernel

theorem witness_DmaChannelsMoveData_10 :
    20 < 64 ∧ (put { (world.memWrite 0x10000020 [1, 2, 3, 4, 5, 6, 7, 8, 9, 10, 11, 12, 13]).1 with dma := { world.dma with lanes := [(20, { (DmaLane.off) with bytes := 77, beats := [⟨.data, 0x10000020, 0x10001004, false, false, 12⟩] })] } } [(dmBase 20, Rg.DM_STAT.STATE, 1)] : State).dmState 20 = 1 ∧ ((put { (world.memWrite 0x10000020 [1, 2, 3, 4, 5, 6, 7, 8, 9, 10, 11, 12, 13]).1 with dma := { world.dma with lanes := [(20, { (DmaLane.off) with bytes := 77, beats := [⟨.data, 0x10000020, 0x10001004, false, false, 12⟩] })] } } [(dmBase 20, Rg.DM_STAT.STATE, 1)] : State).dm 20).beats = [(⟨.data, 0x10000020, 0x10001004, false, false, 12⟩ : DmaBeat)] ∧ ((put { (world.memWrite 0x10000020 [1, 2, 3, 4, 5, 6, 7, 8, 9, 10, 11, 12, 13]).1 with dma := { world.dma with lanes := [(20, { (DmaLane.off) with bytes := 77, beats := [⟨.data, 0x10000020, 0x10001004, false, false, 12⟩] })] } } [(dmBase 20, Rg.DM_STAT.STATE, 1)] : State).dm 20).fail = none ∧ ((put { (world.memWrite 0x10000020 [1, 2, 3, 4, 5, 6, 7, 8, 9, 10, 11, 12, 13]).1 with dma := { world.dma with lanes := [(20, { (DmaLane.off) with bytes := 77, beats := [⟨.data, 0x10000020, 0x10001004, false, false, 12⟩] })] } } [(dmBase 20, Rg.DM_STAT.STATE, 1)] : State).dm 20).stop = none ∧ (put { (world.memWrite 0x10000020 [1, 2, 3, 4, 5, 6, 7, 8, 9, 10, 11, 12, 13]).1 with dma := { world.dma with lanes := [(20, { (DmaLane.off) with bytes := 77, beats := [⟨.data, 0x10000020, 0x10001004, false, false, 12⟩] })] } } [(dmBase 20, Rg.DM_STAT.STATE, 1)] : State).get (dmBase 20) Rg.DM_COUNT.COUNT = 0 ∧ (put { (world.memWrite 0x10000020 [1, 2, 3, 4, 5, 6, 7, 8, 9, 10, 11, 12, 13]).1 with dma := { world.dma with lanes := [(20, { (DmaLane.off) with bytes := 77, beats := [⟨.data, 0x10000020, 0x10001004, false, false, 12⟩] })] } } [(dmBase 20, Rg.DM_STAT.STATE, 1)] : State).flag (dmBase 20) Rg.DM_CREC.CREC_EN = false ∧ (put { (world.memWrite 0x10000020 [1, 2, 3, 4, 5, 6, 7, 8, 9, 10, 11, 12, 13]).1 with dma := { world.dma with lanes := [(20, { (DmaLane.off) with bytes := 77, beats := [⟨.data, 0x10000020, 0x10001004, false, false, 12⟩] })] } } [(dmBase 20, Rg.DM_STAT.STATE, 1)] : State).flag (dmBase 20) Rg.DM_STAT.SH_VALID = false ∧
    (⟨.data, 0x10000020, 0x10001004, false, false, 12⟩ : DmaBeat).kind = DmaKind.data ∧ (⟨.data, 0x10000020, 0x10001004, false, false, 12⟩ : DmaBeat).sh = false ∧ (⟨.data, 0x10000020, 0x10001004, false, false, 12⟩ : DmaBeat).dh = false ∧ 0 < (⟨.data, 0x10000020, 0x10001004, false, false, 12⟩ : DmaBeat).n ∧ ((put { (world.memWrite 0x10000020 [1, 2, 3, 4, 5, 6, 7, 8, 9, 10, 11, 12, 13]).1 with dma := { world.dma with lanes := [(20, { (DmaLane.off) with bytes := 77, beats := [⟨.data, 0x10000020, 0x10001004, false, false, 12⟩] })] } } [(dmBase 20, Rg.DM_STAT.STATE, 1)] : State).dmAccess 20 (⟨.data, 0x10000020, 0x10001004, false, false, 12⟩ : DmaBeat).src (⟨.data, 0x10000020, 0x10001004, false, false, 12⟩ : DmaBeat).n).isNone = true ∧ ((put { (world.memWrite 0x10000020 [1, 2, 3, 4, 5, 6, 7, 8, 9, 10, 11, 12, 13]).1 with dma := { world.dma with lanes := [(20, { (DmaLane.off) with bytes := 77, beats := [⟨.data, 0x10000020, 0x10001004, false, false, 12⟩] })] } } [(dmBase 20, Rg.DM_STAT.STATE, 1)] : State).dmAccess 20 (⟨.data, 0x10000020, 0x10001004, false, false, 12⟩ : DmaBeat).dst (⟨.data, 0x10000020, 0x10001004, false, false, 12⟩ : DmaBeat).n).isNone = true ∧ (put { (world.memWrite 0x10000020 [1, 2, 3, 4, 5, 6, 7, 8, 9, 10, 11, 12, 13]).1 with dma := { world.dma with lanes := [(20, { (DmaLane.off) with bytes := 77, beats := [⟨.data, 0x10000020, 0x10001004, false, false, 12⟩] })] } } [(dmBase 20, Rg.DM_STAT.STATE, 1)] : State).poison = [] ∧ (put { (world.memWrite 0x10000020 [1, 2, 3, 4, 5, 6, 7, 8, 9, 10, 11, 12, 13]).1 with dma := { world.dma with lanes := [(20, { (DmaLane.off) with bytes := 77, beats := [⟨.data, 0x10000020, 0x10001004, false, false, 12⟩] })] } } [(dmBase 20, Rg.DM_STAT.STATE, 1)] : State).flips = [] ∧ (put { (world.memWrite 0x10000020 [1, 2, 3, 4, 5, 6, 7, 8, 9, 10, 11, 12, 13]).1 with dma := { world.dma with lanes := [(20, { (DmaLane.off) with bytes := 77, beats := [⟨.data, 0x10000020, 0x10001004, false, false, 12⟩] })] } } [(dmBase 20, Rg.DM_STAT.STATE, 1)] : State).flag bDdr Rg.DDR_INJ.ARMED = false := by decide +kernel

theorem witness_DmaChannelsMoveData_11 :
    50 < 64 ∧ (put { world with power := { world.power with holdAt := some 5 }, dma := { world.dma with lanes := [(50, { (DmaLane.off) with beats := [⟨.data, 0x10000020, 0x10001004, false, false, 12⟩] }), (51, DmaLane.off)] } } [(dmBase 50, Rg.DM_STAT.STATE, 1), (dmBase 51, Rg.DM_STAT.STATE, 1), (dmBase 51, Rg.DM_COUNT.COUNT, 9)] : State).dmState 50 = 1 ∧ (put { world with power := { world.power with holdAt := some 5 }, dma := { world.dma with lanes := [(50, { (DmaLane.off) with beats := [⟨.data, 0x10000020, 0x10001004, false, false, 12⟩] }), (51, DmaLane.off)] } } [(dmBase 50, Rg.DM_STAT.STATE, 1), (dmBase 51, Rg.DM_STAT.STATE, 1), (dmBase 51, Rg.DM_COUNT.COUNT, 9)] : State).dmAffected (.fb : Dom) 50 = true ∧ ((put { world with power := { world.power with holdAt := some 5 }, dma := { world.dma with lanes := [(50, { (DmaLane.off) with beats := [⟨.data, 0x10000020, 0x10001004, false, false, 12⟩] }), (51, DmaLane.off)] } } [(dmBase 50, Rg.DM_STAT.STATE, 1), (dmBase 51, Rg.DM_STAT.STATE, 1), (dmBase 51, Rg.DM_COUNT.COUNT, 9)] : State).dm 50).beats ≠ [] ∧ (put { world with power := { world.power with holdAt := some 5 }, dma := { world.dma with lanes := [(50, { (DmaLane.off) with beats := [⟨.data, 0x10000020, 0x10001004, false, false, 12⟩] }), (51, DmaLane.off)] } } [(dmBase 50, Rg.DM_STAT.STATE, 1), (dmBase 51, Rg.DM_STAT.STATE, 1), (dmBase 51, Rg.DM_COUNT.COUNT, 9)] : State).power.holdAt.isSome = true := by decide +kernel

theorem witness_DmaChannelsMoveData_12 :
    50 < 64 ∧ (put { world with time := { world.time with ns := 30000 }, power := { world.power with holdAt := some 5 }, dma := { world.dma with lanes := [(50, { (DmaLane.off) with beats := [⟨.data, 0x10000020, 0x10001004, false, false, 12⟩] })] } } [(dmBase 50, Rg.DM_STAT.STATE, 3)] : State).power.holdAt = some 5 ∧ 5 + 20000 ≤ (put { world with time := { world.time with ns := 30000 }, power := { world.power with holdAt := some 5 }, dma := { world.dma with lanes := [(50, { (DmaLane.off) with beats := [⟨.data, 0x10000020, 0x10001004, false, false, 12⟩] })] } } [(dmBase 50, Rg.DM_STAT.STATE, 3)] : State).nowNs ∧ (put { world with time := { world.time with ns := 30000 }, power := { world.power with holdAt := some 5 }, dma := { world.dma with lanes := [(50, { (DmaLane.off) with beats := [⟨.data, 0x10000020, 0x10001004, false, false, 12⟩] })] } } [(dmBase 50, Rg.DM_STAT.STATE, 3)] : State).dmState 50 = 3 ∧ (put { world with time := { world.time with ns := 30000 }, power := { world.power with holdAt := some 5 }, dma := { world.dma with lanes := [(50, { (DmaLane.off) with beats := [⟨.data, 0x10000020, 0x10001004, false, false, 12⟩] })] } } [(dmBase 50, Rg.DM_STAT.STATE, 3)] : State).dmAffected (.fb : Dom) 50 = true := by decide +kernel

theorem witness_MemoryIsScrubbed_1 :
    (put world [(bDdr, Rg.DDR_CFG.SIZE, 2), (bDdr, Rg.DDR_STAT.TRAINED, 1), (bDdr, Rg.DDR_SCRUB.LINE, 5)] : State).on .io = true ∧ (put world [(bDdr, Rg.DDR_CFG.SIZE, 2), (bDdr, Rg.DDR_STAT.TRAINED, 1), (bDdr, Rg.DDR_SCRUB.LINE, 5)] : State).flag bDdr Rg.DDR_STAT.TRAINED = true ∧ (put world [(bDdr, Rg.DDR_CFG.SIZE, 2), (bDdr, Rg.DDR_STAT.TRAINED, 1), (bDdr, Rg.DDR_SCRUB.LINE, 5)] : State).flag bDdr Rg.DDR_CFG.SCRUB_EN = true ∧ 5 = (put world [(bDdr, Rg.DDR_CFG.SIZE, 2), (bDdr, Rg.DDR_STAT.TRAINED, 1), (bDdr, Rg.DDR_SCRUB.LINE, 5)] : State).get bDdr Rg.DDR_SCRUB.LINE ∧ (put world [(bDdr, Rg.DDR_CFG.SIZE, 2), (bDdr, Rg.DDR_STAT.TRAINED, 1), (bDdr, Rg.DDR_SCRUB.LINE, 5)] : State).scrub.ddr ≤ (put world [(bDdr, Rg.DDR_CFG.SIZE, 2), (bDdr, Rg.DDR_STAT.TRAINED, 1), (bDdr, Rg.DDR_SCRUB.LINE, 5)] : State).nowNs * 2 ^ 28 := by decide +kernel

theorem witness_MemoryIsScrubbed_2 :
    (3 < 16 ∧ lookupD (0, 0) 3 ({ world with scrub := { world.scrub with half := [(3, 20, 5)] } } : State).scrub.half = (20, 5) ∧ 20 < halfSize / 8 ∧ (20 ≠ 0 ∨ 5 = 0 ∨ 5 + 600000000000 ≤ ({ world with scrub := { world.scrub with half := [(3, 20, 5)] } } : State).nowNs) ∧ ({ world with scrub := { world.scrub with half := [(3, 20, 5)] } } : State).on (halfDom 3) = true ∧ ({ world with scrub := { world.scrub with half := [(3, 20, 5)] } } : State).flips = [] ∧ ({ world with scrub := { world.scrub with half := [(3, 20, 5)] } } : State).poison = []) := by decide +kernel

theorem witness_MemoryIsScrubbed_3 :
    (3 < 16 ∧ lookupD (0, 0) 3 ({ world with time := { world.time with era := 300 }, scrub := { world.scrub with half := [(3, 0, 5)] } } : State).scrub.half = (0, 5) ∧ 0 < halfSize / 8 ∧ (0 ≠ 0 ∨ 5 = 0 ∨ 5 + 600000000000 ≤ ({ world with time := { world.time with era := 300 }, scrub := { world.scrub with half := [(3, 0, 5)] } } : State).nowNs) ∧ ({ world with time := { world.time with era := 300 }, scrub := { world.scrub with half := [(3, 0, 5)] } } : State).on (halfDom 3) = true ∧ ({ world with time := { world.time with era := 300 }, scrub := { world.scrub with half := [(3, 0, 5)] } } : State).flips = [] ∧ ({ world with time := { world.time with era := 300 }, scrub := { world.scrub with half := [(3, 0, 5)] } } : State).poison = [] ∧ 3 ≤ 3) := by decide +kernel

theorem witness_MemoryIsScrubbed_4 :
    mayInject (put world [(bMpc, Rg.MODE_STAT.MODE, 5)] : State) (.mp : Master) = true ∧ (put world [(bMpc, Rg.MODE_STAT.MODE, 5)] : State).on .io = true := by decide +kernel

end Sys2Proof.Tests
end

