-- ==== Sys2Proof/Tests/Witness18.lean ====
section
/-! SUPPORT. Witnesses: for each clause of a statement a state and operands that meet its hypotheses. -/

set_option Elab.async false

open Sys2Proof Sys2Proof.Machine

namespace Sys2Proof.Tests

theorem witness_KeysAreMadeAndPlaced_1 :
    (put (keyed world 5) [(gmBase 0, Rg.GM_REQ.DATA, 1), (gmBase 0, Rg.GM_STAT.BUSY, 1)] : State).on .sec = true ∧ (put (keyed world 5) [(gmBase 0, Rg.GM_REQ.DATA, 1), (gmBase 0, Rg.GM_STAT.BUSY, 1)] : State).gmTurn 0 = true ∧ (put (keyed world 5) [(gmBase 0, Rg.GM_REQ.DATA, 1), (gmBase 0, Rg.GM_STAT.BUSY, 1)] : State).get (gmBase 0) Rg.GM_REQ.DATA % 256 = 1 ∧ (put (keyed world 5) [(gmBase 0, Rg.GM_REQ.DATA, 1), (gmBase 0, Rg.GM_STAT.BUSY, 1)] : State).keySlot 9 = none ∧ (put (keyed world 5) [(gmBase 0, Rg.GM_REQ.DATA, 1), (gmBase 0, Rg.GM_STAT.BUSY, 1)] : State).newKeyCheck 0 9 (⟨true, 3, 7, 0x1FF, true, false, false⟩ : KeyAttr) false false = 0 ∧ (⟨true, 3, 7, 0x1FF, true, false, false⟩ : KeyAttr).persist = false ∧ (⟨true, 3, 7, 0x1FF, true, false, false⟩ : KeyAttr).parent = 0x1FF ∧
    (4 = (if (⟨true, 3, 7, 0x1FF, true, false, false⟩ : KeyAttr).len256 then 4 else 2)) := by decide +kernel

theorem witness_KeysAreMadeAndPlaced_2 :
    0 < 4 ∧ (put (keyed world 5) [(gmBase 0, Rg.GM_REQ.DATA, 1), (gmBase 0, Rg.GM_STAT.BUSY, 1)] : State).on .sec = true ∧ (put (keyed world 5) [(gmBase 0, Rg.GM_REQ.DATA, 1), (gmBase 0, Rg.GM_STAT.BUSY, 1)] : State).gmTurn 0 = true ∧ (put (keyed world 5) [(gmBase 0, Rg.GM_REQ.DATA, 1), (gmBase 0, Rg.GM_STAT.BUSY, 1)] : State).get (gmBase 0) Rg.GM_REQ.DATA % 256 = 1 ∧ (put (keyed world 5) [(gmBase 0, Rg.GM_REQ.DATA, 1), (gmBase 0, Rg.GM_STAT.BUSY, 1)] : State).keySlot 5 = some (⟨5, ⟨List.replicate 32 7, List.replicate 32 1, 0⟩, none⟩ : KeySlot) ∧ (put (keyed world 5) [(gmBase 0, Rg.GM_REQ.DATA, 1), (gmBase 0, Rg.GM_STAT.BUSY, 1)] : State).newKeyCheck 0 5 (⟨true, 3, 7, 0x1FF, true, false, false⟩ : KeyAttr) true false = 0 ∧ (put (keyed world 5) [(gmBase 0, Rg.GM_REQ.DATA, 1), (gmBase 0, Rg.GM_STAT.BUSY, 1)] : State).flag (ksBase 5) Rg.KS_ATTR.PERSIST = false ∧
    (2 = (if (put (keyed world 5) [(gmBase 0, Rg.GM_REQ.DATA, 1), (gmBase 0, Rg.GM_STAT.BUSY, 1)] : State).flag (ksBase 5) Rg.KS_ATTR.LEN256 then 4 else 2) ∧ (put (keyed world 5) [(gmBase 0, Rg.GM_REQ.DATA, 1), (gmBase 0, Rg.GM_STAT.BUSY, 1)] : State).sec.slots = [(⟨5, ⟨List.replicate 32 7, List.replicate 32 1, 0⟩, none⟩ : KeySlot)] ∧ (⟨5, ⟨List.replicate 32 7, List.replicate 32 1, 0⟩, none⟩ : KeySlot).slot = 5 ∧ (put (keyed world 5) [(gmBase 0, Rg.GM_REQ.DATA, 1), (gmBase 0, Rg.GM_STAT.BUSY, 1)] : State).ksState 5 = 1) := by decide +kernel

theorem witness_KeysAreMadeAndPlaced_3 :
    1 < 4 ∧ (put (keyed world 5) [(gmBase 1, Rg.GM_REQ.DATA, 1), (gmBase 1, Rg.GM_STAT.BUSY, 1)] : State).on .sec = true ∧ (put (keyed world 5) [(gmBase 1, Rg.GM_REQ.DATA, 1), (gmBase 1, Rg.GM_STAT.BUSY, 1)] : State).gmTurn 1 = true ∧ (put (keyed world 5) [(gmBase 1, Rg.GM_REQ.DATA, 1), (gmBase 1, Rg.GM_STAT.BUSY, 1)] : State).get (gmBase 1) Rg.GM_REQ.DATA % 256 = 1 ∧ (put (keyed world 5) [(gmBase 1, Rg.GM_REQ.DATA, 1), (gmBase 1, Rg.GM_STAT.BUSY, 1)] : State).newKeyCheck 1 5 (⟨true, 3, 7, 0x1FF, true, false, false⟩ : KeyAttr) false false ≠ 0 := by decide +kernel

theorem witness_KeysAreMadeAndPlaced_4 :
    (put (keyed world 5) [(gmBase 2, Rg.GM_REQ.DATA, 2), (gmBase 2, Rg.GM_STAT.BUSY, 1), (ksBase 5, Rg.KS_ATTR.DBG_SENS, 1)] : State).on .sec = true ∧ (put (keyed world 5) [(gmBase 2, Rg.GM_REQ.DATA, 2), (gmBase 2, Rg.GM_STAT.BUSY, 1), (ksBase 5, Rg.KS_ATTR.DBG_SENS, 1)] : State).gmTurn 2 = true ∧ (put (keyed world 5) [(gmBase 2, Rg.GM_REQ.DATA, 2), (gmBase 2, Rg.GM_STAT.BUSY, 1), (ksBase 5, Rg.KS_ATTR.DBG_SENS, 1)] : State).get (gmBase 2) Rg.GM_REQ.DATA % 256 = 2 ∧ (put (keyed world 5) [(gmBase 2, Rg.GM_REQ.DATA, 2), (gmBase 2, Rg.GM_STAT.BUSY, 1), (ksBase 5, Rg.KS_ATTR.DBG_SENS, 1)] : State).keySlot 9 = none ∧ (put (keyed world 5) [(gmBase 2, Rg.GM_REQ.DATA, 2), (gmBase 2, Rg.GM_STAT.BUSY, 1), (ksBase 5, Rg.KS_ATTR.DBG_SENS, 1)] : State).newKeyCheck 2 9 (⟨false, 3, 3, 5, false, false, false⟩ : KeyAttr) false true = 0 ∧ (⟨false, 3, 3, 5, false, false, false⟩ : KeyAttr).persist = false ∧ (⟨false, 3, 3, 5, false, false, false⟩ : KeyAttr).parent < 256 ∧ (put (keyed world 5) [(gmBase 2, Rg.GM_REQ.DATA, 2), (gmBase 2, Rg.GM_STAT.BUSY, 1), (ksBase 5, Rg.KS_ATTR.DBG_SENS, 1)] : State).keySlot (⟨false, 3, 3, 5, false, false, false⟩ : KeyAttr).parent = some (⟨5, ⟨List.replicate 32 7, List.replicate 32 1, 0⟩, none⟩ : KeySlot) ∧
    1 ≤ ([1, 2] : List Byte).length ∧ ([1, 2] : List Byte).length ≤ 32 ∧ ([3] : List Byte).length ≤ 64 := by decide +kernel

theorem witness_KeysAreMadeAndPlaced_5 :
    (put { (keyed world 5) with sec := { (keyed world 5).sec with slots := [] } } [(gmBase 2, Rg.GM_REQ.DATA, 2), (gmBase 2, Rg.GM_STAT.BUSY, 1)] : State).on .sec = true ∧ (put { (keyed world 5) with sec := { (keyed world 5).sec with slots := [] } } [(gmBase 2, Rg.GM_REQ.DATA, 2), (gmBase 2, Rg.GM_STAT.BUSY, 1)] : State).gmTurn 2 = true ∧ (put { (keyed world 5) with sec := { (keyed world 5).sec with slots := [] } } [(gmBase 2, Rg.GM_REQ.DATA, 2), (gmBase 2, Rg.GM_STAT.BUSY, 1)] : State).get (gmBase 2) Rg.GM_REQ.DATA % 256 = 2 ∧ (put { (keyed world 5) with sec := { (keyed world 5).sec with slots := [] } } [(gmBase 2, Rg.GM_REQ.DATA, 2), (gmBase 2, Rg.GM_STAT.BUSY, 1)] : State).sec.slots = [] ∧ (put { (keyed world 5) with sec := { (keyed world 5).sec with slots := [] } } [(gmBase 2, Rg.GM_REQ.DATA, 2), (gmBase 2, Rg.GM_STAT.BUSY, 1)] : State).newKeyCheck 2 9 (⟨false, 3, 3, 0x100, false, false, true⟩ : KeyAttr) false true = 0 ∧ (⟨false, 3, 3, 0x100, false, false, true⟩ : KeyAttr).parent = 0x100 ∧ (put { (keyed world 5) with sec := { (keyed world 5).sec with slots := [] } } [(gmBase 2, Rg.GM_REQ.DATA, 2), (gmBase 2, Rg.GM_STAT.BUSY, 1)] : State).selRoot = some ([] : List Byte) ∧ (put { (keyed world 5) with sec := { (keyed world 5).sec with slots := [] } } [(gmBase 2, Rg.GM_REQ.DATA, 2), (gmBase 2, Rg.GM_STAT.BUSY, 1)] : State).rootCode = 1 ∧ (⟨false, 3, 3, 0x100, false, false, true⟩ : KeyAttr).persist = true ∧
    1 ≤ ([1, 2] : List Byte).length ∧ ([1, 2] : List Byte).length ≤ 32 ∧ ([3] : List Byte).length ≤ 64 := by decide +kernel

theorem witness_KeysAreMadeAndPlaced_6 :
    (put (keyed world 5) [(gmBase 2, Rg.GM_REQ.DATA, 3), (gmBase 2, Rg.GM_STAT.BUSY, 1)] : State).on .sec = true ∧ (put (keyed world 5) [(gmBase 2, Rg.GM_REQ.DATA, 3), (gmBase 2, Rg.GM_STAT.BUSY, 1)] : State).gmTurn 2 = true ∧ (put (keyed world 5) [(gmBase 2, Rg.GM_REQ.DATA, 3), (gmBase 2, Rg.GM_STAT.BUSY, 1)] : State).get (gmBase 2) Rg.GM_REQ.DATA % 256 = 3 ∧ (put (keyed world 5) [(gmBase 2, Rg.GM_REQ.DATA, 3), (gmBase 2, Rg.GM_STAT.BUSY, 1)] : State).keySlot 9 = none ∧ (put (keyed world 5) [(gmBase 2, Rg.GM_REQ.DATA, 3), (gmBase 2, Rg.GM_STAT.BUSY, 1)] : State).newKeyCheck 2 9 (⟨false, 3, 3, 0x1FF, false, false, false⟩ : KeyAttr) false false = 0 ∧ (⟨false, 3, 3, 0x1FF, false, false, false⟩ : KeyAttr).persist = false ∧ (⟨false, 3, 3, 0x1FF, false, false, false⟩ : KeyAttr).parent = 0x1FF ∧
    ((put (keyed world 5) [(gmBase 2, Rg.GM_REQ.DATA, 3), (gmBase 2, Rg.GM_STAT.BUSY, 1)] : State).helperCheck 5 useWrap = 0 ∧ (put (keyed world 5) [(gmBase 2, Rg.GM_REQ.DATA, 3), (gmBase 2, Rg.GM_STAT.BUSY, 1)] : State).liveKey 5 = some (⟨List.replicate 32 7, List.replicate 32 1, 0⟩ : Key) ∧ (([193, 74, 64, 174, 4, 2, 58, 96, 23, 234, 16, 214, 188, 7, 131, 73, 5, 77, 173, 192, 28, 63, 178, 13] : List Byte).length = 24 ∨ ([193, 74, 64, 174, 4, 2, 58, 96, 23, 234, 16, 214, 188, 7, 131, 73, 5, 77, 173, 192, 28, 63, 178, 13] : List Byte).length = 40) ∧ kwUnwrap (⟨List.replicate 32 7, List.replicate 32 1, 0⟩ : Key).bytes ([193, 74, 64, 174, 4, 2, 58, 96, 23, 234, 16, 214, 188, 7, 131, 73, 5, 77, 173, 192, 28, 63, 178, 13] : List Byte) = some (List.replicate 16 9 : List Byte) ∧ (List.replicate 16 9 : List Byte).length = (if (⟨false, 3, 3, 0x1FF, false, false, false⟩ : KeyAttr).len256 then 32 else 16)) := by decide +kernel

theorem witness_KeysAreMadeAndPlaced_7 :
    (2 < 4 ∧ (put (keyed world 5) [(gmBase 2, Rg.GM_REQ.DATA, 3), (gmBase 2, Rg.GM_STAT.BUSY, 1)] : State).on .sec = true ∧ (put (keyed world 5) [(gmBase 2, Rg.GM_REQ.DATA, 3), (gmBase 2, Rg.GM_STAT.BUSY, 1)] : State).gmTurn 2 = true ∧ (put (keyed world 5) [(gmBase 2, Rg.GM_REQ.DATA, 3), (gmBase 2, Rg.GM_STAT.BUSY, 1)] : State).get (gmBase 2) Rg.GM_REQ.DATA % 256 = 3 ∧ (put (keyed world 5) [(gmBase 2, Rg.GM_REQ.DATA, 3), (gmBase 2, Rg.GM_STAT.BUSY, 1)] : State).newKeyCheck 2 9 (⟨false, 3, 3, 0x1FF, false, false, false⟩ : KeyAttr) false false = 0 ∧ (put (keyed world 5) [(gmBase 2, Rg.GM_REQ.DATA, 3), (gmBase 2, Rg.GM_STAT.BUSY, 1)] : State).helperCheck 5 useWrap = 0 ∧ (put (keyed world 5) [(gmBase 2, Rg.GM_REQ.DATA, 3), (gmBase 2, Rg.GM_STAT.BUSY, 1)] : State).liveKey 5 = some (⟨List.replicate 32 7, List.replicate 32 1, 0⟩ : Key) ∧ ((List.replicate 24 0 : List Byte).length = 24 ∨ (List.replicate 24 0 : List Byte).length = 40) ∧ kwUnwrap (⟨List.replicate 32 7, List.replicate 32 1, 0⟩ : Key).bytes (List.replicate 24 0 : List Byte) = none) := by decide +kernel

theorem witness_KeysAreMadeAndPlaced_8 :
    2 < 4 ∧ (put (keyed world 5) [(gmBase 2, Rg.GM_REQ.DATA, 4), (gmBase 2, Rg.GM_STAT.BUSY, 1), (ksBase 5, Rg.KS_ATTR.OWNER, 2)] : State).on .sec = true ∧ (put (keyed world 5) [(gmBase 2, Rg.GM_REQ.DATA, 4), (gmBase 2, Rg.GM_STAT.BUSY, 1), (ksBase 5, Rg.KS_ATTR.OWNER, 2)] : State).gmTurn 2 = true ∧ (put (keyed world 5) [(gmBase 2, Rg.GM_REQ.DATA, 4), (gmBase 2, Rg.GM_STAT.BUSY, 1), (ksBase 5, Rg.KS_ATTR.OWNER, 2)] : State).get (gmBase 2) Rg.GM_REQ.DATA % 256 = 4 ∧ (put (keyed world 5) [(gmBase 2, Rg.GM_REQ.DATA, 4), (gmBase 2, Rg.GM_STAT.BUSY, 1), (ksBase 5, Rg.KS_ATTR.OWNER, 2)] : State).slotCheck 2 5 true false = 0 ∧ (put (keyed world 5) [(gmBase 2, Rg.GM_REQ.DATA, 4), (gmBase 2, Rg.GM_STAT.BUSY, 1), (ksBase 5, Rg.KS_ATTR.OWNER, 2)] : State).flag (ksBase 5) Rg.KS_ATTR.EXPORT_NEVER = false ∧ (put (keyed world 5) [(gmBase 2, Rg.GM_REQ.DATA, 4), (gmBase 2, Rg.GM_STAT.BUSY, 1), (ksBase 5, Rg.KS_ATTR.OWNER, 2)] : State).helperCheck 5 useWrap = 0 ∧ (put (keyed world 5) [(gmBase 2, Rg.GM_REQ.DATA, 4), (gmBase 2, Rg.GM_STAT.BUSY, 1), (ksBase 5, Rg.KS_ATTR.OWNER, 2)] : State).keySlot 5 = some (⟨5, ⟨List.replicate 32 7, List.replicate 32 1, 0⟩, none⟩ : KeySlot) ∧ (put (keyed world 5) [(gmBase 2, Rg.GM_REQ.DATA, 4), (gmBase 2, Rg.GM_STAT.BUSY, 1), (ksBase 5, Rg.KS_ATTR.OWNER, 2)] : State).keySlot 5 = some (⟨5, ⟨List.replicate 32 7, List.replicate 32 1, 0⟩, none⟩ : KeySlot) := by decide +kernel

theorem witness_KeysAreMadeAndPlaced_9 :
    (put { world with sec := { world.sec with cur := some ⟨2, [4], []⟩ } } [(gmBase 2, Rg.GM_STAT.BUSY, 1)] : State).sec.cur = some (⟨2, [4], []⟩ : GmPend) ∧ (⟨2, [4], []⟩ : GmPend).ch < 4 := by decide +kernel

theorem witness_KeysAreReplacedAndRevoked_1 :
    2 < 4 ∧ 5 < 256 ∧ (put { (keyedCopy world 44 1 5) with sec := { (keyedCopy world 44 1 5).sec with slots := [⟨5, ⟨[7], [1], 0⟩, some ⟨[8], [2], 77⟩⟩] } } [(gmBase 2, Rg.GM_REQ.DATA, 5), (gmBase 2, Rg.GM_STAT.BUSY, 1), (ksBase 5, Rg.KS_ATTR.OWNER, 2), (ksBase 5, Rg.KS_ATTR.PENDING, 1)] : State).on .sec = true ∧ (put { (keyedCopy world 44 1 5) with sec := { (keyedCopy world 44 1 5).sec with slots := [⟨5, ⟨[7], [1], 0⟩, some ⟨[8], [2], 77⟩⟩] } } [(gmBase 2, Rg.GM_REQ.DATA, 5), (gmBase 2, Rg.GM_STAT.BUSY, 1), (ksBase 5, Rg.KS_ATTR.OWNER, 2), (ksBase 5, Rg.KS_ATTR.PENDING, 1)] : State).gmTurn 2 = true ∧ (put { (keyedCopy world 44 1 5) with sec := { (keyedCopy world 44 1 5).sec with slots := [⟨5, ⟨[7], [1], 0⟩, some ⟨[8], [2], 77⟩⟩] } } [(gmBase 2, Rg.GM_REQ.DATA, 5), (gmBase 2, Rg.GM_STAT.BUSY, 1), (ksBase 5, Rg.KS_ATTR.OWNER, 2), (ksBase 5, Rg.KS_ATTR.PENDING, 1)] : State).get (gmBase 2) Rg.GM_REQ.DATA % 256 = 5 ∧ (put { (keyedCopy world 44 1 5) with sec := { (keyedCopy world 44 1 5).sec with slots := [⟨5, ⟨[7], [1], 0⟩, some ⟨[8], [2], 77⟩⟩] } } [(gmBase 2, Rg.GM_REQ.DATA, 5), (gmBase 2, Rg.GM_STAT.BUSY, 1), (ksBase 5, Rg.KS_ATTR.OWNER, 2), (ksBase 5, Rg.KS_ATTR.PENDING, 1)] : State).slotCheck 2 5 true false = 0 ∧ (put { (keyedCopy world 44 1 5) with sec := { (keyedCopy world 44 1 5).sec with slots := [⟨5, ⟨[7], [1], 0⟩, some ⟨[8], [2], 77⟩⟩] } } [(gmBase 2, Rg.GM_REQ.DATA, 5), (gmBase 2, Rg.GM_STAT.BUSY, 1), (ksBase 5, Rg.KS_ATTR.OWNER, 2), (ksBase 5, Rg.KS_ATTR.PENDING, 1)] : State).sec.slots = [(⟨5, ⟨[7], [1], 0⟩, some ⟨[8], [2], 77⟩⟩ : KeySlot)] ∧ (⟨5, ⟨[7], [1], 0⟩, some ⟨[8], [2], 77⟩⟩ : KeySlot).slot = 5 ∧ (⟨5, ⟨[7], [1], 0⟩, some ⟨[8], [2], 77⟩⟩ : KeySlot).pend = some (⟨[8], [2], 77⟩ : Key) ∧ (put { (keyedCopy world 44 1 5) with sec := { (keyedCopy world 44 1 5).sec with slots := [⟨5, ⟨[7], [1], 0⟩, some ⟨[8], [2], 77⟩⟩] } } [(gmBase 2, Rg.GM_REQ.DATA, 5), (gmBase 2, Rg.GM_STAT.BUSY, 1), (ksBase 5, Rg.KS_ATTR.OWNER, 2), (ksBase 5, Rg.KS_ATTR.PENDING, 1)] : State).flag (ksBase 5) Rg.KS_ATTR.PERSIST = false := by decide +kernel

theorem witness_KeysAreReplacedAndRevoked_2 :
    2 < 4 ∧ 5 < 256 ∧ (put { (keyedCopy world 44 1 5) with sec := { (keyedCopy world 44 1 5).sec with slots := [⟨5, ⟨[7], [1], 0⟩, some ⟨[8], [2], 77⟩⟩] } } [(gmBase 2, Rg.GM_REQ.DATA, 5), (gmBase 2, Rg.GM_STAT.BUSY, 1), (ksBase 5, Rg.KS_ATTR.OWNER, 2), (ksBase 5, Rg.KS_ATTR.PENDING, 1)] : State).on .sec = true ∧ (put { (keyedCopy world 44 1 5) with sec := { (keyedCopy world 44 1 5).sec with slots := [⟨5, ⟨[7], [1], 0⟩, some ⟨[8], [2], 77⟩⟩] } } [(gmBase 2, Rg.GM_REQ.DATA, 5), (gmBase 2, Rg.GM_STAT.BUSY, 1), (ksBase 5, Rg.KS_ATTR.OWNER, 2), (ksBase 5, Rg.KS_ATTR.PENDING, 1)] : State).gmTurn 2 = true ∧ (put { (keyedCopy world 44 1 5) with sec := { (keyedCopy world 44 1 5).sec with slots := [⟨5, ⟨[7], [1], 0⟩, some ⟨[8], [2], 77⟩⟩] } } [(gmBase 2, Rg.GM_REQ.DATA, 5), (gmBase 2, Rg.GM_STAT.BUSY, 1), (ksBase 5, Rg.KS_ATTR.OWNER, 2), (ksBase 5, Rg.KS_ATTR.PENDING, 1)] : State).get (gmBase 2) Rg.GM_REQ.DATA % 256 = 5 ∧ (put { (keyedCopy world 44 1 5) with sec := { (keyedCopy world 44 1 5).sec with slots := [⟨5, ⟨[7], [1], 0⟩, some ⟨[8], [2], 77⟩⟩] } } [(gmBase 2, Rg.GM_REQ.DATA, 5), (gmBase 2, Rg.GM_STAT.BUSY, 1), (ksBase 5, Rg.KS_ATTR.OWNER, 2), (ksBase 5, Rg.KS_ATTR.PENDING, 1)] : State).slotCheck 2 5 true false = 0 ∧ (put { (keyedCopy world 44 1 5) with sec := { (keyedCopy world 44 1 5).sec with slots := [⟨5, ⟨[7], [1], 0⟩, some ⟨[8], [2], 77⟩⟩] } } [(gmBase 2, Rg.GM_REQ.DATA, 5), (gmBase 2, Rg.GM_STAT.BUSY, 1), (ksBase 5, Rg.KS_ATTR.OWNER, 2), (ksBase 5, Rg.KS_ATTR.PENDING, 1)] : State).sec.slots = [(⟨5, ⟨[7], [1], 0⟩, some ⟨[8], [2], 77⟩⟩ : KeySlot)] ∧ (⟨5, ⟨[7], [1], 0⟩, some ⟨[8], [2], 77⟩⟩ : KeySlot).slot = 5 ∧ (⟨5, ⟨[7], [1], 0⟩, some ⟨[8], [2], 77⟩⟩ : KeySlot).pend = some (⟨[8], [2], 77⟩ : Key) ∧ (put { (keyedCopy world 44 1 5) with sec := { (keyedCopy world 44 1 5).sec with slots := [⟨5, ⟨[7], [1], 0⟩, some ⟨[8], [2], 77⟩⟩] } } [(gmBase 2, Rg.GM_REQ.DATA, 5), (gmBase 2, Rg.GM_STAT.BUSY, 1), (ksBase 5, Rg.KS_ATTR.OWNER, 2), (ksBase 5, Rg.KS_ATTR.PENDING, 1)] : State).flag (ksBase 5) Rg.KS_ATTR.PERSIST = false ∧ 76 ≠ (⟨[8], [2], 77⟩ : Key).chk := by decide +kernel

theorem witness_KeysAreReplacedAndRevoked_3 :
    2 < 4 ∧ 5 < 256 ∧ (put { (keyedCopy world 44 1 5) with sec := { (keyedCopy world 44 1 5).sec with slots := [⟨5, ⟨[7], [1], 0⟩, some ⟨[8], [2], 77⟩⟩] } } [(gmBase 2, Rg.GM_REQ.DATA, 6), (gmBase 2, Rg.GM_STAT.BUSY, 1), (ksBase 5, Rg.KS_ATTR.OWNER, 2), (ksBase 5, Rg.KS_ATTR.PENDING, 1)] : State).on .sec = true ∧ (put { (keyedCopy world 44 1 5) with sec := { (keyedCopy world 44 1 5).sec with slots := [⟨5, ⟨[7], [1], 0⟩, some ⟨[8], [2], 77⟩⟩] } } [(gmBase 2, Rg.GM_REQ.DATA, 6), (gmBase 2, Rg.GM_STAT.BUSY, 1), (ksBase 5, Rg.KS_ATTR.OWNER, 2), (ksBase 5, Rg.KS_ATTR.PENDING, 1)] : State).gmTurn 2 = true ∧ (put { (keyedCopy world 44 1 5) with sec := { (keyedCopy world 44 1 5).sec with slots := [⟨5, ⟨[7], [1], 0⟩, some ⟨[8], [2], 77⟩⟩] } } [(gmBase 2, Rg.GM_REQ.DATA, 6), (gmBase 2, Rg.GM_STAT.BUSY, 1), (ksBase 5, Rg.KS_ATTR.OWNER, 2), (ksBase 5, Rg.KS_ATTR.PENDING, 1)] : State).get (gmBase 2) Rg.GM_REQ.DATA % 256 = 6 ∧ (put { (keyedCopy world 44 1 5) with sec := { (keyedCopy world 44 1 5).sec with slots := [⟨5, ⟨[7], [1], 0⟩, some ⟨[8], [2], 77⟩⟩] } } [(gmBase 2, Rg.GM_REQ.DATA, 6), (gmBase 2, Rg.GM_STAT.BUSY, 1), (ksBase 5, Rg.KS_ATTR.OWNER, 2), (ksBase 5, Rg.KS_ATTR.PENDING, 1)] : State).slotCheck 2 5 true false = 0 ∧ (put { (keyedCopy world 44 1 5) with sec := { (keyedCopy world 44 1 5).sec with slots := [⟨5, ⟨[7], [1], 0⟩, some ⟨[8], [2], 77⟩⟩] } } [(gmBase 2, Rg.GM_REQ.DATA, 6), (gmBase 2, Rg.GM_STAT.BUSY, 1), (ksBase 5, Rg.KS_ATTR.OWNER, 2), (ksBase 5, Rg.KS_ATTR.PENDING, 1)] : State).sec.slots = [(⟨5, ⟨[7], [1], 0⟩, some ⟨[8], [2], 77⟩⟩ : KeySlot)] ∧ (⟨5, ⟨[7], [1], 0⟩, some ⟨[8], [2], 77⟩⟩ : KeySlot).slot = 5 ∧ (⟨5, ⟨[7], [1], 0⟩, some ⟨[8], [2], 77⟩⟩ : KeySlot).pend ≠ none ∧ (put { (keyedCopy world 44 1 5) with sec := { (keyedCopy world 44 1 5).sec with slots := [⟨5, ⟨[7], [1], 0⟩, some ⟨[8], [2], 77⟩⟩] } } [(gmBase 2, Rg.GM_REQ.DATA, 6), (gmBase 2, Rg.GM_STAT.BUSY, 1), (ksBase 5, Rg.KS_ATTR.OWNER, 2), (ksBase 5, Rg.KS_ATTR.PENDING, 1)] : State).flag (ksBase 5) Rg.KS_ATTR.PERSIST = false := by decide +kernel

theorem witness_KeysAreReplacedAndRevoked_4 :
    2 < 4 ∧ 5 < 256 ∧ 200 < 256 ∧ 5 ≠ 200 ∧ (put { (keyedCopy world 44 1 5) with sec := { (keyedCopy world 44 1 5).sec with slots := [⟨5, ⟨[7], [1], 0⟩, some ⟨[8], [2], 77⟩⟩, ⟨200, ⟨[7], [1], 0⟩, none⟩] } } [(gmBase 2, Rg.GM_REQ.DATA, 7), (gmBase 2, Rg.GM_STAT.BUSY, 1), (ksBase 5, Rg.KS_ATTR.OWNER, 2), (ksBase 200, Rg.KS_ATTR.PARENT, 5), (ksBase 200, Rg.KS_ATTR.STATE, 1)] : State).on .sec = true ∧ (put { (keyedCopy world 44 1 5) with sec := { (keyedCopy world 44 1 5).sec with slots := [⟨5, ⟨[7], [1], 0⟩, some ⟨[8], [2], 77⟩⟩, ⟨200, ⟨[7], [1], 0⟩, none⟩] } } [(gmBase 2, Rg.GM_REQ.DATA, 7), (gmBase 2, Rg.GM_STAT.BUSY, 1), (ksBase 5, Rg.KS_ATTR.OWNER, 2), (ksBase 200, Rg.KS_ATTR.PARENT, 5), (ksBase 200, Rg.KS_ATTR.STATE, 1)] : State).gmTurn 2 = true ∧ (put { (keyedCopy world 44 1 5) with sec := { (keyedCopy world 44 1 5).sec with slots := [⟨5, ⟨[7], [1], 0⟩, some ⟨[8], [2], 77⟩⟩, ⟨200, ⟨[7], [1], 0⟩, none⟩] } } [(gmBase 2, Rg.GM_REQ.DATA, 7), (gmBase 2, Rg.GM_STAT.BUSY, 1), (ksBase 5, Rg.KS_ATTR.OWNER, 2), (ksBase 200, Rg.KS_ATTR.PARENT, 5), (ksBase 200, Rg.KS_ATTR.STATE, 1)] : State).get (gmBase 2) Rg.GM_REQ.DATA % 256 = 7 ∧ (put { (keyedCopy world 44 1 5) with sec := { (keyedCopy world 44 1 5).sec with slots := [⟨5, ⟨[7], [1], 0⟩, some ⟨[8], [2], 77⟩⟩, ⟨200, ⟨[7], [1], 0⟩, none⟩] } } [(gmBase 2, Rg.GM_REQ.DATA, 7), (gmBase 2, Rg.GM_STAT.BUSY, 1), (ksBase 5, Rg.KS_ATTR.OWNER, 2), (ksBase 200, Rg.KS_ATTR.PARENT, 5), (ksBase 200, Rg.KS_ATTR.STATE, 1)] : State).slotCheck 2 5 true true = 0 ∧ (put { (keyedCopy world 44 1 5) with sec := { (keyedCopy world 44 1 5).sec with slots := [⟨5, ⟨[7], [1], 0⟩, some ⟨[8], [2], 77⟩⟩, ⟨200, ⟨[7], [1], 0⟩, none⟩] } } [(gmBase 2, Rg.GM_REQ.DATA, 7), (gmBase 2, Rg.GM_STAT.BUSY, 1), (ksBase 5, Rg.KS_ATTR.OWNER, 2), (ksBase 200, Rg.KS_ATTR.PARENT, 5), (ksBase 200, Rg.KS_ATTR.STATE, 1)] : State).sec.slots = [(⟨5, ⟨[7], [1], 0⟩, some ⟨[8], [2], 77⟩⟩ : KeySlot), (⟨200, ⟨[7], [1], 0⟩, none⟩ : KeySlot)] ∧ (⟨5, ⟨[7], [1], 0⟩, some ⟨[8], [2], 77⟩⟩ : KeySlot).slot = 5 ∧ (⟨200, ⟨[7], [1], 0⟩, none⟩ : KeySlot).slot = 200 ∧ (put { (keyedCopy world 44 1 5) with sec := { (keyedCopy world 44 1 5).sec with slots := [⟨5, ⟨[7], [1], 0⟩, some ⟨[8], [2], 77⟩⟩, ⟨200, ⟨[7], [1], 0⟩, none⟩] } } [(gmBase 2, Rg.GM_REQ.DATA, 7), (gmBase 2, Rg.GM_STAT.BUSY, 1), (ksBase 5, Rg.KS_ATTR.OWNER, 2), (ksBase 200, Rg.KS_ATTR.PARENT, 5), (ksBase 200, Rg.KS_ATTR.STATE, 1)] : State).ksState 200 = 1 ∧ (put { (keyedCopy world 44 1 5) with sec := { (keyedCopy world 44 1 5).sec with slots := [⟨5, ⟨[7], [1], 0⟩, some ⟨[8], [2], 77⟩⟩, ⟨200, ⟨[7], [1], 0⟩, none⟩] } } [(gmBase 2, Rg.GM_REQ.DATA, 7), (gmBase 2, Rg.GM_STAT.BUSY, 1), (ksBase 5, Rg.KS_ATTR.OWNER, 2), (ksBase 200, Rg.KS_ATTR.PARENT, 5), (ksBase 200, Rg.KS_ATTR.STATE, 1)] : State).get (ksBase 200) Rg.KS_ATTR.PARENT = 5 ∧
    (put { (keyedCopy world 44 1 5) with sec := { (keyedCopy world 44 1 5).sec with slots := [⟨5, ⟨[7], [1], 0⟩, some ⟨[8], [2], 77⟩⟩, ⟨200, ⟨[7], [1], 0⟩, none⟩] } } [(gmBase 2, Rg.GM_REQ.DATA, 7), (gmBase 2, Rg.GM_STAT.BUSY, 1), (ksBase 5, Rg.KS_ATTR.OWNER, 2), (ksBase 200, Rg.KS_ATTR.PARENT, 5), (ksBase 200, Rg.KS_ATTR.STATE, 1)] : State).flag (ksBase 5) Rg.KS_ATTR.PERSIST = false ∧ (put { (keyedCopy world 44 1 5) with sec := { (keyedCopy world 44 1 5).sec with slots := [⟨5, ⟨[7], [1], 0⟩, some ⟨[8], [2], 77⟩⟩, ⟨200, ⟨[7], [1], 0⟩, none⟩] } } [(gmBase 2, Rg.GM_REQ.DATA, 7), (gmBase 2, Rg.GM_STAT.BUSY, 1), (ksBase 5, Rg.KS_ATTR.OWNER, 2), (ksBase 200, Rg.KS_ATTR.PARENT, 5), (ksBase 200, Rg.KS_ATTR.STATE, 1)] : State).flag (ksBase 200) Rg.KS_ATTR.PERSIST = false := by decide +kernel

theorem witness_KeysAreReplacedAndRevoked_5 :
    2 < 4 ∧ (put { (keyedCopy world 44 1 5) with sec := { (keyedCopy world 44 1 5).sec with slots := [⟨5, ⟨[7], [1], 9⟩, some ⟨[8], [2], 77⟩⟩] } } [(gmBase 2, Rg.GM_REQ.DATA, 8), (gmBase 2, Rg.GM_STAT.BUSY, 1)] : State).on .sec = true ∧ (put { (keyedCopy world 44 1 5) with sec := { (keyedCopy world 44 1 5).sec with slots := [⟨5, ⟨[7], [1], 9⟩, some ⟨[8], [2], 77⟩⟩] } } [(gmBase 2, Rg.GM_REQ.DATA, 8), (gmBase 2, Rg.GM_STAT.BUSY, 1)] : State).gmTurn 2 = true ∧ (put { (keyedCopy world 44 1 5) with sec := { (keyedCopy world 44 1 5).sec with slots := [⟨5, ⟨[7], [1], 9⟩, some ⟨[8], [2], 77⟩⟩] } } [(gmBase 2, Rg.GM_REQ.DATA, 8), (gmBase 2, Rg.GM_STAT.BUSY, 1)] : State).get (gmBase 2) Rg.GM_REQ.DATA % 256 = 8 ∧ (put { (keyedCopy world 44 1 5) with sec := { (keyedCopy world 44 1 5).sec with slots := [⟨5, ⟨[7], [1], 9⟩, some ⟨[8], [2], 77⟩⟩] } } [(gmBase 2, Rg.GM_REQ.DATA, 8), (gmBase 2, Rg.GM_STAT.BUSY, 1)] : State).slotCheck 2 5 false false = 0 ∧ (put { (keyedCopy world 44 1 5) with sec := { (keyedCopy world 44 1 5).sec with slots := [⟨5, ⟨[7], [1], 9⟩, some ⟨[8], [2], 77⟩⟩] } } [(gmBase 2, Rg.GM_REQ.DATA, 8), (gmBase 2, Rg.GM_STAT.BUSY, 1)] : State).keySlot 5 = some (⟨5, ⟨[7], [1], 9⟩, some ⟨[8], [2], 77⟩⟩ : KeySlot) := by decide +kernel

theorem witness_KeysAreReplacedAndRevoked_6 :
    2 < 4 ∧ gmOwner 2 (.ac2 : Master) = true ∧ (put world [(gmBase 2, Rg.GM_STAT.DONE, 1)] : State).on .sec = true := by decide +kernel

theorem witness_KeysAreReplacedAndRevoked_7 :
    ({ (keyedCopy world 44 1 5) with time := { world.time with era := 99 } } : State).on .sec = true ∧ ({ (keyedCopy world 44 1 5) with time := { world.time with era := 99 } } : State).sec.maskAt + min (max (({ (keyedCopy world 44 1 5) with time := { world.time with era := 99 } } : State).get bSec Rg.KS_CFG.REMASK) 1) 600 * 100000000 ≤ ({ (keyedCopy world 44 1 5) with time := { world.time with era := 99 } } : State).nowNs ∧ ({ (keyedCopy world 44 1 5) with time := { world.time with era := 99 } } : State).sec.slots.all (fun y => y.live.x.length == y.live.m.length && y.live.m.length % 8 == 0 && (y.pend.all (fun z => z.x.length == z.m.length && z.m.length % 8 == 0))) = true := by decide +kernel

theorem witness_KeysAreReplacedAndRevoked_8 :
    (keyedCopy world 44 1 5 : State).nowNs < (keyedCopy world 44 1 5 : State).sec.maskAt + min (max ((keyedCopy world 44 1 5 : State).get bSec Rg.KS_CFG.REMASK) 1) 600 * 100000000 := by decide +kernel

theorem witness_LifeCycleAndTamper_1 :
    ((fused world 3 16 1 : State).on .sec = true ∧ (fused world 3 16 1 : State).gmTurn 3 = true ∧ (fused world 3 16 1 : State).get (gmBase 3) Rg.GM_REQ.DATA % 256 = 0x10 ∧ (fused world 3 16 1 : State).signed 2 ((leBytes 4 0x5444_5841 ++ [2, 1, 0, 0] ++ leBytes 8 0 ++ leBytes 8 99 ++ List.replicate 8 0 ++ fusedSig 2 : List Byte).take 0x20) ((leBytes 4 0x5444_5841 ++ [2, 1, 0, 0] ++ leBytes 8 0 ++ leBytes 8 99 ++ List.replicate 8 0 ++ fusedSig 2 : List Byte).drop 0x20) = true ∧ (leBytes 4 0x5444_5841 ++ [2, 1, 0, 0] ++ leBytes 8 0 ++ leBytes 8 99 ++ List.replicate 8 0 ++ fusedSig 2 : List Byte).length = 128 ∧ leAt (leBytes 4 0x5444_5841 ++ [2, 1, 0, 0] ++ leBytes 8 0 ++ leBytes 8 99 ++ List.replicate 8 0 ++ fusedSig 2 : List Byte) 0 4 = 0x5444_5841 ∧ (leAt (leBytes 4 0x5444_5841 ++ [2, 1, 0, 0] ++ leBytes 8 0 ++ leBytes 8 99 ++ List.replicate 8 0 ++ fusedSig 2 : List Byte) 4 1 = 1 ∨ leAt (leBytes 4 0x5444_5841 ++ [2, 1, 0, 0] ++ leBytes 8 0 ++ leBytes 8 99 ++ List.replicate 8 0 ++ fusedSig 2 : List Byte) 4 1 = 2) ∧ leAt (leBytes 4 0x5444_5841 ++ [2, 1, 0, 0] ++ leBytes 8 0 ++ leBytes 8 99 ++ List.replicate 8 0 ++ fusedSig 2 : List Byte) 5 1 = (fused world 3 16 1 : State).get bSec Rg.SEC_STAT.LC ∧ leAt (leBytes 4 0x5444_5841 ++ [2, 1, 0, 0] ++ leBytes 8 0 ++ leBytes 8 99 ++ List.replicate 8 0 ++ fusedSig 2 : List Byte) 6 2 = 0 ∧ leAt (leBytes 4 0x5444_5841 ++ [2, 1, 0, 0] ++ leBytes 8 0 ++ leBytes 8 99 ++ List.replicate 8 0 ++ fusedSig 2 : List Byte) 8 8 = (fused world 3 16 1 : State).sec.serial ∧ leAt (leBytes 4 0x5444_5841 ++ [2, 1, 0, 0] ++ leBytes 8 0 ++ leBytes 8 99 ++ List.replicate 8 0 ++ fusedSig 2 : List Byte) 0x10 8 = (fused world 3 16 1 : State).get bSec Rg.SEC_CHAL.CHAL ∧ leAt (leBytes 4 0x5444_5841 ++ [2, 1, 0, 0] ++ leBytes 8 0 ++ leBytes 8 99 ++ List.replicate 8 0 ++ fusedSig 2 : List Byte) 0x18 8 = 0) := by decide +kernel

theorem witness_LifeCycleAndTamper_2 :
    (put world [(bSec, Rg.SEC_STAT.LC, 1), (bSec, Rg.SEC_CHAL.CHAL, 99), (gmBase 3, Rg.GM_REQ.DATA, 16), (gmBase 3, Rg.GM_STAT.BUSY, 1)] : State).on .sec = true ∧ (put world [(bSec, Rg.SEC_STAT.LC, 1), (bSec, Rg.SEC_CHAL.CHAL, 99), (gmBase 3, Rg.GM_REQ.DATA, 16), (gmBase 3, Rg.GM_STAT.BUSY, 1)] : State).gmTurn 3 = true ∧ (put world [(bSec, Rg.SEC_STAT.LC, 1), (bSec, Rg.SEC_CHAL.CHAL, 99), (gmBase 3, Rg.GM_REQ.DATA, 16), (gmBase 3, Rg.GM_STAT.BUSY, 1)] : State).get (gmBase 3) Rg.GM_REQ.DATA % 256 = 0x10 ∧ (List.replicate 128 0 : List Byte).length = 128 ∧ (put world [(bSec, Rg.SEC_STAT.LC, 1), (bSec, Rg.SEC_CHAL.CHAL, 99), (gmBase 3, Rg.GM_REQ.DATA, 16), (gmBase 3, Rg.GM_STAT.BUSY, 1)] : State).signed 2 ((List.replicate 128 0 : List Byte).take 0x20) ((List.replicate 128 0 : List Byte).drop 0x20) = false := by decide +kernel

theorem witness_LifeCycleAndTamper_3 :
    (0 < 4 ∧ (fused world 0 16 1 : State).on .sec = true ∧ (fused world 0 16 1 : State).gmTurn 0 = true ∧ (fused world 0 16 1 : State).get (gmBase 0) Rg.GM_REQ.DATA % 256 = 0x10 ∧ (0 ≠ 3 ∨ ([] : List Byte).length ≠ 128)) := by decide +kernel

theorem witness_LifeCycleAndTamper_4 :
    0 < 4 ∧ (fused { (keyed world 5) with sec := { (keyed world 5).sec with slots := [] } } 0 17 2 : State).on .sec = true ∧ (fused { (keyed world 5) with sec := { (keyed world 5).sec with slots := [] } } 0 17 2 : State).gmTurn 0 = true ∧ (fused { (keyed world 5) with sec := { (keyed world 5).sec with slots := [] } } 0 17 2 : State).get (gmBase 0) Rg.GM_REQ.DATA % 256 = 0x11 ∧ (fused { (keyed world 5) with sec := { (keyed world 5).sec with slots := [] } } 0 17 2 : State).sec.slots = [] ∧ (fused { (keyed world 5) with sec := { (keyed world 5).sec with slots := [] } } 0 17 2 : State).sec.stored = [] ∧ (fused { (keyed world 5) with sec := { (keyed world 5).sec with slots := [] } } 0 17 2 : State).sec.burned < 3 ∧ (fused { (keyed world 5) with sec := { (keyed world 5).sec with slots := [] } } 0 17 2 : State).sec.roots.length = 3 ∧
    (((fused { (keyed world 5) with sec := { (keyed world 5).sec with slots := [] } } 0 17 2 : State).get bSec Rg.SEC_STAT.LC = 1 ∧ 3 = 2) ∨ ((fused { (keyed world 5) with sec := { (keyed world 5).sec with slots := [] } } 0 17 2 : State).get bSec Rg.SEC_STAT.LC = 2 ∧ 3 = 3)) ∧
    (fused { (keyed world 5) with sec := { (keyed world 5).sec with slots := [] } } 0 17 2 : State).signed 0 ((fused { (keyed world 5) with sec := { (keyed world 5).sec with slots := [] } } 0 17 2 : State).lcBytes 3) (fusedSig 3 : List Byte) = true := by decide +kernel

theorem witness_LifeCycleAndTamper_5 :
    0 < 4 ∧ (fused { (keyed world 5) with sec := { (keyed world 5).sec with slots := [] } } 0 17 1 : State).on .sec = true ∧ (fused { (keyed world 5) with sec := { (keyed world 5).sec with slots := [] } } 0 17 1 : State).gmTurn 0 = true ∧ (fused { (keyed world 5) with sec := { (keyed world 5).sec with slots := [] } } 0 17 1 : State).get (gmBase 0) Rg.GM_REQ.DATA % 256 = 0x11 ∧ (fused { (keyed world 5) with sec := { (keyed world 5).sec with slots := [] } } 0 17 1 : State).sec.slots = [] ∧ (fused { (keyed world 5) with sec := { (keyed world 5).sec with slots := [] } } 0 17 1 : State).sec.burned < 4 ∧ 1 ≤ (fused { (keyed world 5) with sec := { (keyed world 5).sec with slots := [] } } 0 17 1 : State).get bSec Rg.SEC_STAT.LC ∧ (fused { (keyed world 5) with sec := { (keyed world 5).sec with slots := [] } } 0 17 1 : State).get bSec Rg.SEC_STAT.LC ≤ 3 ∧ (fused { (keyed world 5) with sec := { (keyed world 5).sec with slots := [] } } 0 17 1 : State).sec.stored = [] ∧
    (fused { (keyed world 5) with sec := { (keyed world 5).sec with slots := [] } } 0 17 1 : State).signed 0 ((fused { (keyed world 5) with sec := { (keyed world 5).sec with slots := [] } } 0 17 1 : State).lcBytes 4) (fusedSig 4 : List Byte) = true := by decide +kernel

theorem witness_LifeCycleAndTamper_6 :
    0 < 4 ∧ (put (keyed world 5) [(gmBase 0, Rg.GM_REQ.DATA, 17), (gmBase 0, Rg.GM_STAT.BUSY, 1), (bSec, Rg.SEC_STAT.LC, 2)] : State).on .sec = true ∧ (put (keyed world 5) [(gmBase 0, Rg.GM_REQ.DATA, 17), (gmBase 0, Rg.GM_STAT.BUSY, 1), (bSec, Rg.SEC_STAT.LC, 2)] : State).gmTurn 0 = true ∧ (put (keyed world 5) [(gmBase 0, Rg.GM_REQ.DATA, 17), (gmBase 0, Rg.GM_STAT.BUSY, 1), (bSec, Rg.SEC_STAT.LC, 2)] : State).get (gmBase 0) Rg.GM_REQ.DATA % 256 = 0x11 ∧ (put (keyed world 5) [(gmBase 0, Rg.GM_REQ.DATA, 17), (gmBase 0, Rg.GM_STAT.BUSY, 1), (bSec, Rg.SEC_STAT.LC, 2)] : State).sec.burned < 3 ∧
    (((put (keyed world 5) [(gmBase 0, Rg.GM_REQ.DATA, 17), (gmBase 0, Rg.GM_STAT.BUSY, 1), (bSec, Rg.SEC_STAT.LC, 2)] : State).get bSec Rg.SEC_STAT.LC = 1 ∧ 3 = 2) ∨ ((put (keyed world 5) [(gmBase 0, Rg.GM_REQ.DATA, 17), (gmBase 0, Rg.GM_STAT.BUSY, 1), (bSec, Rg.SEC_STAT.LC, 2)] : State).get bSec Rg.SEC_STAT.LC = 2 ∧ 3 = 3)) ∧
    ((put (keyed world 5) [(gmBase 0, Rg.GM_REQ.DATA, 17), (gmBase 0, Rg.GM_STAT.BUSY, 1), (bSec, Rg.SEC_STAT.LC, 2)] : State).signed 0 ((put (keyed world 5) [(gmBase 0, Rg.GM_REQ.DATA, 17), (gmBase 0, Rg.GM_STAT.BUSY, 1), (bSec, Rg.SEC_STAT.LC, 2)] : State).lcBytes 3) ([] : List Byte) = false ∨ false = true) := by decide +kernel

theorem witness_LifeCycleAndTamper_7 :
    0 < 4 ∧ (put world [(gmBase 0, Rg.GM_REQ.DATA, 18), (gmBase 0, Rg.GM_STAT.BUSY, 1)] : State).on .sec = true ∧ (put world [(gmBase 0, Rg.GM_REQ.DATA, 18), (gmBase 0, Rg.GM_STAT.BUSY, 1)] : State).gmTurn 0 = true ∧ (put world [(gmBase 0, Rg.GM_REQ.DATA, 18), (gmBase 0, Rg.GM_STAT.BUSY, 1)] : State).get (gmBase 0) Rg.GM_REQ.DATA % 256 = 0x12 ∧ (put world [(gmBase 0, Rg.GM_REQ.DATA, 18), (gmBase 0, Rg.GM_STAT.BUSY, 1)] : State).get bSec Rg.SEC_STAT.LC = 0 ∧ (put world [(gmBase 0, Rg.GM_REQ.DATA, 18), (gmBase 0, Rg.GM_STAT.BUSY, 1)] : State).sec.burned = 0 ∧ (put world [(gmBase 0, Rg.GM_REQ.DATA, 18), (gmBase 0, Rg.GM_STAT.BUSY, 1)] : State).sec.digests = [] ∧ (put world [(gmBase 0, Rg.GM_REQ.DATA, 18), (gmBase 0, Rg.GM_STAT.BUSY, 1)] : State).sec.hashes = [] ∧ (List.replicate 3 (List.replicate 97 4) : List (List Byte)).length = 3 ∧ (List.replicate 3 (List.replicate 97 4) : List (List Byte)).all (fun k => k.length == 97) = true ∧ (put world [(gmBase 0, Rg.GM_REQ.DATA, 18), (gmBase 0, Rg.GM_STAT.BUSY, 1)] : State).sec.roots.length = 3 := by decide +kernel

theorem witness_LifeCycleAndTamper_8 :
    0 < 4 ∧ (put (fused world 0 19 2) [(bSec, Rg.SEC_STAT.REROOT_LEFT, 2)] : State).on .sec = true ∧ (put (fused world 0 19 2) [(bSec, Rg.SEC_STAT.REROOT_LEFT, 2)] : State).gmTurn 0 = true ∧ (put (fused world 0 19 2) [(bSec, Rg.SEC_STAT.REROOT_LEFT, 2)] : State).get (gmBase 0) Rg.GM_REQ.DATA % 256 = 0x13 ∧ (put (fused world 0 19 2) [(bSec, Rg.SEC_STAT.REROOT_LEFT, 2)] : State).rootsHeld = false ∧ 0 < (put (fused world 0 19 2) [(bSec, Rg.SEC_STAT.REROOT_LEFT, 2)] : State).get bSec Rg.SEC_STAT.REROOT_LEFT ∧ (put (fused world 0 19 2) [(bSec, Rg.SEC_STAT.REROOT_LEFT, 2)] : State).get bSec Rg.TAMP_STAT.LATCHED = 0 ∧ (put (fused world 0 19 2) [(bSec, Rg.SEC_STAT.REROOT_LEFT, 2)] : State).sec.slots = [] ∧ (put (fused world 0 19 2) [(bSec, Rg.SEC_STAT.REROOT_LEFT, 2)] : State).sec.stored = [] ∧ (put (fused world 0 19 2) [(bSec, Rg.SEC_STAT.REROOT_LEFT, 2)] : State).get bSec Rg.SEC_STAT.LC = 2 ∧ (put (fused world 0 19 2) [(bSec, Rg.SEC_STAT.REROOT_LEFT, 2)] : State).sec.roots = [none, none, none] ∧
    (put (fused world 0 19 2) [(bSec, Rg.SEC_STAT.REROOT_LEFT, 2)] : State).signed 0 ((put (fused world 0 19 2) [(bSec, Rg.SEC_STAT.REROOT_LEFT, 2)] : State).lcBytes 0xFF) (fusedSig 0xFF : List Byte) = true := by decide +kernel

theorem witness_LifeCycleAndTamper_9 :
    2 < 8 ∧ (put (keyedCopy world 44 1 5) [(bSec, Rg.TAMP_CFG.PIN_EN, 4), (bSec, Rg.SEC_STAT.DEBUG, 2)] : State).tamperOn 2 = true ∧ (put (keyedCopy world 44 1 5) [(bSec, Rg.TAMP_CFG.PIN_EN, 4), (bSec, Rg.SEC_STAT.DEBUG, 2)] : State).tamperSees 2 (0 : Int) 10000000 = true ∧ bitOf 2 ((put (keyedCopy world 44 1 5) [(bSec, Rg.TAMP_CFG.PIN_EN, 4), (bSec, Rg.SEC_STAT.DEBUG, 2)] : State).get bSec Rg.TAMP_STAT.ACTIVE) = false ∧ (put (keyedCopy world 44 1 5) [(bSec, Rg.TAMP_CFG.PIN_EN, 4), (bSec, Rg.SEC_STAT.DEBUG, 2)] : State).power.vdd = true ∧ (put (keyedCopy world 44 1 5) [(bSec, Rg.TAMP_CFG.PIN_EN, 4), (bSec, Rg.SEC_STAT.DEBUG, 2)] : State).sec.cur = none ∧ (put (keyedCopy world 44 1 5) [(bSec, Rg.TAMP_CFG.PIN_EN, 4), (bSec, Rg.SEC_STAT.DEBUG, 2)] : State).mode ≠ .dormant ∧ (put (keyedCopy world 44 1 5) [(bSec, Rg.TAMP_CFG.PIN_EN, 4), (bSec, Rg.SEC_STAT.DEBUG, 2)] : State).entering = false ∧ (put (keyedCopy world 44 1 5) [(bSec, Rg.TAMP_CFG.PIN_EN, 4), (bSec, Rg.SEC_STAT.DEBUG, 2)] : State).committing = false := by decide +kernel

theorem witness_LifeCycleAndTamper_10 :
    ((2 < 8 ∧ bitOf 2 ((put (keyedCopy world 44 1 5) [(bSec, Rg.TAMP_CFG.PIN_EN, 4), (bSec, Rg.TAMP_STAT.ACTIVE, 4)] : State).get bSec Rg.TAMP_STAT.ACTIVE) = true) ∨ (put (keyedCopy world 44 1 5) [(bSec, Rg.TAMP_CFG.PIN_EN, 4), (bSec, Rg.TAMP_STAT.ACTIVE, 4)] : State).tamperSees 2 (0 : Int) 10000000 = false ∨ (put (keyedCopy world 44 1 5) [(bSec, Rg.TAMP_CFG.PIN_EN, 4), (bSec, Rg.TAMP_STAT.ACTIVE, 4)] : State).tamperOn 2 = false) := by decide +kernel

theorem witness_LifeCycleAndTamper_11 :
    2 < 8 ∧ bitOf 2 ((put world [(bSec, Rg.TAMP_STAT.ACTIVE, 6)] : State).get bSec Rg.TAMP_STAT.ACTIVE) = true := by decide +kernel

theorem witness_CipherSessionsRun_1 :
    39 < 100 ∧ 3 < 32 ∧ kindAt 39 = some .cry ∧ mayWriteService (put (keyed world 5) [(csBase 39 3, Rg.CS_CFG.ALG, 1), (csBase 39 3, Rg.CS_CFG.KEY_SLOT, 5)] : State) (.mp : Master) = true ∧ 3 < (put (keyed world 5) [(csBase 39 3, Rg.CS_CFG.ALG, 1), (csBase 39 3, Rg.CS_CFG.KEY_SLOT, 5)] : State).lanesAt 39 ∧ (put (keyed world 5) [(csBase 39 3, Rg.CS_CFG.ALG, 1), (csBase 39 3, Rg.CS_CFG.KEY_SLOT, 5)] : State).on (domOf (islandOf 39)) = true ∧ (put (keyed world 5) [(csBase 39 3, Rg.CS_CFG.ALG, 1), (csBase 39 3, Rg.CS_CFG.KEY_SLOT, 5)] : State).flag (csBase 39 3) Rg.CS_CFG.EN = false ∧ (put (keyed world 5) [(csBase 39 3, Rg.CS_CFG.ALG, 1), (csBase 39 3, Rg.CS_CFG.KEY_SLOT, 5)] : State).cryRefusal 39 3 = 0 ∧ (put (keyed world 5) [(csBase 39 3, Rg.CS_CFG.ALG, 1), (csBase 39 3, Rg.CS_CFG.KEY_SLOT, 5)] : State).get (csBase 39 3) Rg.CS_CFG.ALG < 2 ∧ (put (keyed world 5) [(csBase 39 3, Rg.CS_CFG.ALG, 1), (csBase 39 3, Rg.CS_CFG.KEY_SLOT, 5)] : State).liveKey ((put (keyed world 5) [(csBase 39 3, Rg.CS_CFG.ALG, 1), (csBase 39 3, Rg.CS_CFG.KEY_SLOT, 5)] : State).get (csBase 39 3) Rg.CS_CFG.KEY_SLOT) = some (⟨List.replicate 32 7, List.replicate 32 1, 0⟩ : Key) := by decide +kernel

theorem witness_CipherSessionsRun_2 :
    (39 < 100 ∧ 28 < 32 ∧ kindAt 39 = some .cry ∧ mayWriteService (put world [(csBase 39 28, Rg.CS_CFG.ALG, 2)] : State) (.mp : Master) = true ∧ 28 < (put world [(csBase 39 28, Rg.CS_CFG.ALG, 2)] : State).lanesAt 39 ∧ (put world [(csBase 39 28, Rg.CS_CFG.ALG, 2)] : State).on (domOf (islandOf 39)) = true ∧ (put world [(csBase 39 28, Rg.CS_CFG.ALG, 2)] : State).flag (csBase 39 28) Rg.CS_CFG.EN = false ∧ 28 ≤ 28 ∧ ((put world [(csBase 39 28, Rg.CS_CFG.ALG, 2)] : State).get (csBase 39 28) Rg.CS_CFG.ALG = 2 ∨ (put world [(csBase 39 28, Rg.CS_CFG.ALG, 2)] : State).get (csBase 39 28) Rg.CS_CFG.ALG = 3)) := by decide +kernel

theorem witness_CipherSessionsRun_3 :
    39 < 100 ∧ 3 < 32 ∧ kindAt 39 = some .cry ∧ (put { withEntries [⟨7, 0, 0, 12, 0, 2, 0, false, false, .inService, 0, none, [], none, none, 0, none⟩] with disp := { (withEntries [⟨7, 0, 0, 12, 0, 2, 0, false, false, .inService, 0, none, [], none, none, 0, none⟩]).disp with flows := [⟨12, 0, 39, 0, 3⟩] } } [(csBase 39 3, Rg.CS_CFG.ALG, 2), (csBase 39 3, Rg.CS_STAT.RUN, 1), (csBase 39 3, Rg.CS_JOBS.ADDR, 0x10000000), (csBase 39 3, Rg.CS_JOBS.COUNT, 4)] : State).laneOn 39 3 = true ∧ (put { withEntries [⟨7, 0, 0, 12, 0, 2, 0, false, false, .inService, 0, none, [], none, none, 0, none⟩] with disp := { (withEntries [⟨7, 0, 0, 12, 0, 2, 0, false, false, .inService, 0, none, [], none, none, 0, none⟩]).disp with flows := [⟨12, 0, 39, 0, 3⟩] } } [(csBase 39 3, Rg.CS_CFG.ALG, 2), (csBase 39 3, Rg.CS_STAT.RUN, 1), (csBase 39 3, Rg.CS_JOBS.ADDR, 0x10000000), (csBase 39 3, Rg.CS_JOBS.COUNT, 4)] : State).flag (csBase 39 3) Rg.CS_STAT.RUN = true ∧ (put { withEntries [⟨7, 0, 0, 12, 0, 2, 0, false, false, .inService, 0, none, [], none, none, 0, none⟩] with disp := { (withEntries [⟨7, 0, 0, 12, 0, 2, 0, false, false, .inService, 0, none, [], none, none, 0, none⟩]).disp with flows := [⟨12, 0, 39, 0, 3⟩] } } [(csBase 39 3, Rg.CS_CFG.ALG, 2), (csBase 39 3, Rg.CS_STAT.RUN, 1), (csBase 39 3, Rg.CS_JOBS.ADDR, 0x10000000), (csBase 39 3, Rg.CS_JOBS.COUNT, 4)] : State).flag (csBase 39 3) Rg.CS_STAT.BUSY = false ∧
    (put { withEntries [⟨7, 0, 0, 12, 0, 2, 0, false, false, .inService, 0, none, [], none, none, 0, none⟩] with disp := { (withEntries [⟨7, 0, 0, 12, 0, 2, 0, false, false, .inService, 0, none, [], none, none, 0, none⟩]).disp with flows := [⟨12, 0, 39, 0, 3⟩] } } [(csBase 39 3, Rg.CS_CFG.ALG, 2), (csBase 39 3, Rg.CS_STAT.RUN, 1), (csBase 39 3, Rg.CS_JOBS.ADDR, 0x10000000), (csBase 39 3, Rg.CS_JOBS.COUNT, 4)] : State).disp.find 7 = some (⟨7, 0, 0, 12, 0, 2, 0, false, false, .inService, 0, none, [], none, none, 0, none⟩ : Entry) ∧ (⟨7, 0, 0, 12, 0, 2, 0, false, false, .inService, 0, none, [], none, none, 0, none⟩ : Entry).st = EState.inService ∧ (⟨7, 0, 0, 12, 0, 2, 0, false, false, .inService, 0, none, [], none, none, 0, none⟩ : Entry).agent = none ∧ ((put { withEntries [⟨7, 0, 0, 12, 0, 2, 0, false, false, .inService, 0, none, [], none, none, 0, none⟩] with disp := { (withEntries [⟨7, 0, 0, 12, 0, 2, 0, false, false, .inService, 0, none, [], none, none, 0, none⟩]).disp with flows := [⟨12, 0, 39, 0, 3⟩] } } [(csBase 39 3, Rg.CS_CFG.ALG, 2), (csBase 39 3, Rg.CS_STAT.RUN, 1), (csBase 39 3, Rg.CS_JOBS.ADDR, 0x10000000), (csBase 39 3, Rg.CS_JOBS.COUNT, 4)] : State).disp.flowOf (⟨7, 0, 0, 12, 0, 2, 0, false, false, .inService, 0, none, [], none, none, 0, none⟩ : Entry).flow).consumer = 39 ∧ ((put { withEntries [⟨7, 0, 0, 12, 0, 2, 0, false, false, .inService, 0, none, [], none, none, 0, none⟩] with disp := { (withEntries [⟨7, 0, 0, 12, 0, 2, 0, false, false, .inService, 0, none, [], none, none, 0, none⟩]).disp with flows := [⟨12, 0, 39, 0, 3⟩] } } [(csBase 39 3, Rg.CS_CFG.ALG, 2), (csBase 39 3, Rg.CS_STAT.RUN, 1), (csBase 39 3, Rg.CS_JOBS.ADDR, 0x10000000), (csBase 39 3, Rg.CS_JOBS.COUNT, 4)] : State).disp.flowOf (⟨7, 0, 0, 12, 0, 2, 0, false, false, .inService, 0, none, [], none, none, 0, none⟩ : Entry).flow).lane = 3 ∧ (⟨7, 0, 0, 12, 0, 2, 0, false, false, .inService, 0, none, [], none, none, 0, none⟩ : Entry).tag < (put { withEntries [⟨7, 0, 0, 12, 0, 2, 0, false, false, .inService, 0, none, [], none, none, 0, none⟩] with disp := { (withEntries [⟨7, 0, 0, 12, 0, 2, 0, false, false, .inService, 0, none, [], none, none, 0, none⟩]).disp with flows := [⟨12, 0, 39, 0, 3⟩] } } [(csBase 39 3, Rg.CS_CFG.ALG, 2), (csBase 39 3, Rg.CS_STAT.RUN, 1), (csBase 39 3, Rg.CS_JOBS.ADDR, 0x10000000), (csBase 39 3, Rg.CS_JOBS.COUNT, 4)] : State).get (csBase 39 3) Rg.CS_JOBS.COUNT ∧
    (put { withEntries [⟨7, 0, 0, 12, 0, 2, 0, false, false, .inService, 0, none, [], none, none, 0, none⟩] with disp := { (withEntries [⟨7, 0, 0, 12, 0, 2, 0, false, false, .inService, 0, none, [], none, none, 0, none⟩]).disp with flows := [⟨12, 0, 39, 0, 3⟩] } } [(csBase 39 3, Rg.CS_CFG.ALG, 2), (csBase 39 3, Rg.CS_STAT.RUN, 1), (csBase 39 3, Rg.CS_JOBS.ADDR, 0x10000000), (csBase 39 3, Rg.CS_JOBS.COUNT, 4)] : State).memFault ((put { withEntries [⟨7, 0, 0, 12, 0, 2, 0, false, false, .inService, 0, none, [], none, none, 0, none⟩] with disp := { (withEntries [⟨7, 0, 0, 12, 0, 2, 0, false, false, .inService, 0, none, [], none, none, 0, none⟩]).disp with flows := [⟨12, 0, 39, 0, 3⟩] } } [(csBase 39 3, Rg.CS_CFG.ALG, 2), (csBase 39 3, Rg.CS_STAT.RUN, 1), (csBase 39 3, Rg.CS_JOBS.ADDR, 0x10000000), (csBase 39 3, Rg.CS_JOBS.COUNT, 4)] : State).get (csBase 39 3) Rg.CS_JOBS.ADDR + (⟨7, 0, 0, 12, 0, 2, 0, false, false, .inService, 0, none, [], none, none, 0, none⟩ : Entry).tag * 64) 64 = none ∧ (put { withEntries [⟨7, 0, 0, 12, 0, 2, 0, false, false, .inService, 0, none, [], none, none, 0, none⟩] with disp := { (withEntries [⟨7, 0, 0, 12, 0, 2, 0, false, false, .inService, 0, none, [], none, none, 0, none⟩]).disp with flows := [⟨12, 0, 39, 0, 3⟩] } } [(csBase 39 3, Rg.CS_CFG.ALG, 2), (csBase 39 3, Rg.CS_STAT.RUN, 1), (csBase 39 3, Rg.CS_JOBS.ADDR, 0x10000000), (csBase 39 3, Rg.CS_JOBS.COUNT, 4)] : State).memRead ((put { withEntries [⟨7, 0, 0, 12, 0, 2, 0, false, false, .inService, 0, none, [], none, none, 0, none⟩] with disp := { (withEntries [⟨7, 0, 0, 12, 0, 2, 0, false, false, .inService, 0, none, [], none, none, 0, none⟩]).disp with flows := [⟨12, 0, 39, 0, 3⟩] } } [(csBase 39 3, Rg.CS_CFG.ALG, 2), (csBase 39 3, Rg.CS_STAT.RUN, 1), (csBase 39 3, Rg.CS_JOBS.ADDR, 0x10000000), (csBase 39 3, Rg.CS_JOBS.COUNT, 4)] : State).get (csBase 39 3) Rg.CS_JOBS.ADDR + (⟨7, 0, 0, 12, 0, 2, 0, false, false, .inService, 0, none, [], none, none, 0, none⟩ : Entry).tag * 64) 64 = ((put { withEntries [⟨7, 0, 0, 12, 0, 2, 0, false, false, .inService, 0, none, [], none, none, 0, none⟩] with disp := { (withEntries [⟨7, 0, 0, 12, 0, 2, 0, false, false, .inService, 0, none, [], none, none, 0, none⟩]).disp with flows := [⟨12, 0, 39, 0, 3⟩] } } [(csBase 39 3, Rg.CS_CFG.ALG, 2), (csBase 39 3, Rg.CS_STAT.RUN, 1), (csBase 39 3, Rg.CS_JOBS.ADDR, 0x10000000), (csBase 39 3, Rg.CS_JOBS.COUNT, 4)] : State), some (List.replicate 64 0 : List Byte)) := by decide +kernel

theorem witness_CipherSessionsRun_4 :
    39 < 100 ∧ 3 < 32 ∧ kindAt 39 = some .cry ∧ (put { withLink { testLink with rc := ⟨1, 27, 39, 0, 0, false, false, 13, 0, 5⟩ } with rx := [(1, ⟨0x8000 + 3 * 2 ^ 32, [0, 0, 0, 0, 0, 0, 0, 0], false⟩)] } [(csBase 39 3, Rg.CS_CFG.ALG, 2), (csBase 39 3, Rg.CS_STAT.RUN, 1)] : State).laneOn 39 3 = true ∧ (put { withLink { testLink with rc := ⟨1, 27, 39, 0, 0, false, false, 13, 0, 5⟩ } with rx := [(1, ⟨0x8000 + 3 * 2 ^ 32, [0, 0, 0, 0, 0, 0, 0, 0], false⟩)] } [(csBase 39 3, Rg.CS_CFG.ALG, 2), (csBase 39 3, Rg.CS_STAT.RUN, 1)] : State).flag (csBase 39 3) Rg.CS_STAT.RUN = true ∧ (put { withLink { testLink with rc := ⟨1, 27, 39, 0, 0, false, false, 13, 0, 5⟩ } with rx := [(1, ⟨0x8000 + 3 * 2 ^ 32, [0, 0, 0, 0, 0, 0, 0, 0], false⟩)] } [(csBase 39 3, Rg.CS_CFG.ALG, 2), (csBase 39 3, Rg.CS_STAT.RUN, 1)] : State).flag (csBase 39 3) Rg.CS_STAT.BUSY = false ∧
    (put { withLink { testLink with rc := ⟨1, 27, 39, 0, 0, false, false, 13, 0, 5⟩ } with rx := [(1, ⟨0x8000 + 3 * 2 ^ 32, [0, 0, 0, 0, 0, 0, 0, 0], false⟩)] } [(csBase 39 3, Rg.CS_CFG.ALG, 2), (csBase 39 3, Rg.CS_STAT.RUN, 1)] : State).item 39 0x80 = some (27, (⟨0x8000 + 3 * 2 ^ 32, [0, 0, 0, 0, 0, 0, 0, 0], false⟩ : QPkt)) ∧ (⟨0x8000 + 3 * 2 ^ 32, [0, 0, 0, 0, 0, 0, 0, 0], false⟩ : QPkt).data.length = 8 ∧ pktLane (⟨0x8000 + 3 * 2 ^ 32, [0, 0, 0, 0, 0, 0, 0, 0], false⟩ : QPkt).lw = 3 ∧ (put { withLink { testLink with rc := ⟨1, 27, 39, 0, 0, false, false, 13, 0, 5⟩ } with rx := [(1, ⟨0x8000 + 3 * 2 ^ 32, [0, 0, 0, 0, 0, 0, 0, 0], false⟩)] } [(csBase 39 3, Rg.CS_CFG.ALG, 2), (csBase 39 3, Rg.CS_STAT.RUN, 1)] : State).sec.copies = [] := by decide +kernel

theorem witness_CipherSessionsRun_5 :
    39 < 100 ∧ 3 < 32 ∧ (put { world with sec := { world.sec with jobs := [⟨39, 3, [0, 0, 0, 0, 16, 0, 0, 0] ++ leBytes 5 0x10000200 ++ List.replicate 12 0 ++ leBytes 5 0x10000100 ++ List.replicate 34 0, some 0x10000040, 7, 0, none, 0⟩] } } [(csBase 39 3, Rg.CS_CFG.ALG, 2), (csBase 39 3, Rg.CS_STAT.BUSY, 1)] : State).sec.jobs.find? (fun z => z.pos == 39 && z.lane == 3) = some (⟨39, 3, [0, 0, 0, 0, 16, 0, 0, 0] ++ leBytes 5 0x10000200 ++ List.replicate 12 0 ++ leBytes 5 0x10000100 ++ List.replicate 34 0, some 0x10000040, 7, 0, none, 0⟩ : CryJob) ∧ (⟨39, 3, [0, 0, 0, 0, 16, 0, 0, 0] ++ leBytes 5 0x10000200 ++ List.replicate 12 0 ++ leBytes 5 0x10000100 ++ List.replicate 34 0, some 0x10000040, 7, 0, none, 0⟩ : CryJob).status = 0 ∧ (⟨39, 3, [0, 0, 0, 0, 16, 0, 0, 0] ++ leBytes 5 0x10000200 ++ List.replicate 12 0 ++ leBytes 5 0x10000100 ++ List.replicate 34 0, some 0x10000040, 7, 0, none, 0⟩ : CryJob).at_ = some (0x10000040 : Nat) ∧ (put { world with sec := { world.sec with jobs := [⟨39, 3, [0, 0, 0, 0, 16, 0, 0, 0] ++ leBytes 5 0x10000200 ++ List.replicate 12 0 ++ leBytes 5 0x10000100 ++ List.replicate 34 0, some 0x10000040, 7, 0, none, 0⟩] } } [(csBase 39 3, Rg.CS_CFG.ALG, 2), (csBase 39 3, Rg.CS_STAT.BUSY, 1)] : State).get (csBase 39 3) Rg.CS_CFG.ALG = 2 ∧ (put { world with sec := { world.sec with jobs := [⟨39, 3, [0, 0, 0, 0, 16, 0, 0, 0] ++ leBytes 5 0x10000200 ++ List.replicate 12 0 ++ leBytes 5 0x10000100 ++ List.replicate 34 0, some 0x10000040, 7, 0, none, 0⟩] } } [(csBase 39 3, Rg.CS_CFG.ALG, 2), (csBase 39 3, Rg.CS_STAT.BUSY, 1)] : State).flag (csBase 39 3) Rg.CS_CFG.DONE_EN = false ∧ (put { world with sec := { world.sec with jobs := [⟨39, 3, [0, 0, 0, 0, 16, 0, 0, 0] ++ leBytes 5 0x10000200 ++ List.replicate 12 0 ++ leBytes 5 0x10000100 ++ List.replicate 34 0, some 0x10000040, 7, 0, none, 0⟩] } } [(csBase 39 3, Rg.CS_CFG.ALG, 2), (csBase 39 3, Rg.CS_STAT.BUSY, 1)] : State).disp.entries = [] ∧
    (cryBad 2 (⟨39, 3, [0, 0, 0, 0, 16, 0, 0, 0] ++ leBytes 5 0x10000200 ++ List.replicate 12 0 ++ leBytes 5 0x10000100 ++ List.replicate 34 0, some 0x10000040, 7, 0, none, 0⟩ : CryJob).rec_ = false ∧ (put { world with sec := { world.sec with jobs := [⟨39, 3, [0, 0, 0, 0, 16, 0, 0, 0] ++ leBytes 5 0x10000200 ++ List.replicate 12 0 ++ leBytes 5 0x10000100 ++ List.replicate 34 0, some 0x10000040, 7, 0, none, 0⟩] } } [(csBase 39 3, Rg.CS_CFG.ALG, 2), (csBase 39 3, Rg.CS_STAT.BUSY, 1)] : State).cryRanges 39 2 (⟨39, 3, [0, 0, 0, 0, 16, 0, 0, 0] ++ leBytes 5 0x10000200 ++ List.replicate 12 0 ++ leBytes 5 0x10000100 ++ List.replicate 34 0, some 0x10000040, 7, 0, none, 0⟩ : CryJob).rec_ = true ∧ leAt (⟨39, 3, [0, 0, 0, 0, 16, 0, 0, 0] ++ leBytes 5 0x10000200 ++ List.replicate 12 0 ++ leBytes 5 0x10000100 ++ List.replicate 34 0, some 0x10000040, 7, 0, none, 0⟩ : CryJob).rec_ 0 1 = 0 ∧ (0x10000100 : Nat) = leAt (⟨39, 3, [0, 0, 0, 0, 16, 0, 0, 0] ++ leBytes 5 0x10000200 ++ List.replicate 12 0 ++ leBytes 5 0x10000100 ++ List.replicate 34 0, some 0x10000040, 7, 0, none, 0⟩ : CryJob).rec_ 25 5 ∧ (0x10000200 : Nat) = leAt (⟨39, 3, [0, 0, 0, 0, 16, 0, 0, 0] ++ leBytes 5 0x10000200 ++ List.replicate 12 0 ++ leBytes 5 0x10000100 ++ List.replicate 34 0, some 0x10000040, 7, 0, none, 0⟩ : CryJob).rec_ 8 5 ∧ 16 = leAt (⟨39, 3, [0, 0, 0, 0, 16, 0, 0, 0] ++ leBytes 5 0x10000200 ++ List.replicate 12 0 ++ leBytes 5 0x10000100 ++ List.replicate 34 0, some 0x10000040, 7, 0, none, 0⟩ : CryJob).rec_ 4 4 ∧ (put { world with sec := { world.sec with jobs := [⟨39, 3, [0, 0, 0, 0, 16, 0, 0, 0] ++ leBytes 5 0x10000200 ++ List.replicate 12 0 ++ leBytes 5 0x10000100 ++ List.replicate 34 0, some 0x10000040, 7, 0, none, 0⟩] } } [(csBase 39 3, Rg.CS_CFG.ALG, 2), (csBase 39 3, Rg.CS_STAT.BUSY, 1)] : State).memRead (0x10000200 : Nat) 16 = ((put { world with sec := { world.sec with jobs := [⟨39, 3, [0, 0, 0, 0, 16, 0, 0, 0] ++ leBytes 5 0x10000200 ++ List.replicate 12 0 ++ leBytes 5 0x10000100 ++ List.replicate 34 0, some 0x10000040, 7, 0, none, 0⟩] } } [(csBase 39 3, Rg.CS_CFG.ALG, 2), (csBase 39 3, Rg.CS_STAT.BUSY, 1)] : State), some (List.replicate 16 0 : List Byte)) ∧ (put { world with sec := { world.sec with jobs := [⟨39, 3, [0, 0, 0, 0, 16, 0, 0, 0] ++ leBytes 5 0x10000200 ++ List.replicate 12 0 ++ leBytes 5 0x10000100 ++ List.replicate 34 0, some 0x10000040, 7, 0, none, 0⟩] } } [(csBase 39 3, Rg.CS_CFG.ALG, 2), (csBase 39 3, Rg.CS_STAT.BUSY, 1)] : State).memFault (0x10000040 : Nat) 64 = none ∧ ((0x10000040 : Nat) + 64 ≤ (0x10000100 : Nat) ∨ (0x10000100 : Nat) + 32 ≤ (0x10000040 : Nat)) ∧ (put { world with sec := { world.sec with jobs := [⟨39, 3, [0, 0, 0, 0, 16, 0, 0, 0] ++ leBytes 5 0x10000200 ++ List.replicate 12 0 ++ leBytes 5 0x10000100 ++ List.replicate 34 0, some 0x10000040, 7, 0, none, 0⟩] } } [(csBase 39 3, Rg.CS_CFG.ALG, 2), (csBase 39 3, Rg.CS_STAT.BUSY, 1)] : State).poison = [] ∧ (put { world with sec := { world.sec with jobs := [⟨39, 3, [0, 0, 0, 0, 16, 0, 0, 0] ++ leBytes 5 0x10000200 ++ List.replicate 12 0 ++ leBytes 5 0x10000100 ++ List.replicate 34 0, some 0x10000040, 7, 0, none, 0⟩] } } [(csBase 39 3, Rg.CS_CFG.ALG, 2), (csBase 39 3, Rg.CS_STAT.BUSY, 1)] : State).flips = []) := by decide +kernel

theorem witness_CipherSessionsRun_6 :
    39 < 100 ∧ 3 < 32 ∧ (put { world with sec := { world.sec with jobs := [⟨39, 3, [], some 0x10000040, 7, 0, none, 2⟩] } } [(csBase 39 3, Rg.CS_CFG.ALG, 2), (csBase 39 3, Rg.CS_STAT.BUSY, 1)] : State).sec.jobs.find? (fun z => z.pos == 39 && z.lane == 3) = some (⟨39, 3, [], some 0x10000040, 7, 0, none, 2⟩ : CryJob) ∧ 1 < (⟨39, 3, [], some 0x10000040, 7, 0, none, 2⟩ : CryJob).status ∧ (⟨39, 3, [], some 0x10000040, 7, 0, none, 2⟩ : CryJob).at_ = some (0x10000040 : Nat) ∧ (put { world with sec := { world.sec with jobs := [⟨39, 3, [], some 0x10000040, 7, 0, none, 2⟩] } } [(csBase 39 3, Rg.CS_CFG.ALG, 2), (csBase 39 3, Rg.CS_STAT.BUSY, 1)] : State).flag (csBase 39 3) Rg.CS_CFG.DONE_EN = false ∧ (put { world with sec := { world.sec with jobs := [⟨39, 3, [], some 0x10000040, 7, 0, none, 2⟩] } } [(csBase 39 3, Rg.CS_CFG.ALG, 2), (csBase 39 3, Rg.CS_STAT.BUSY, 1)] : State).disp.entries = [] := by decide +kernel

theorem witness_CipherSessionsRun_7 :
    39 < 100 ∧ 3 < 32 ∧ (put { withLink { testLink with rc := ⟨1, 39, 27, 0, 0, false, false, 13, 0, 5⟩ } with sec := { world.sec with jobs := [⟨39, 3, [], none, 7, 27, none, 2⟩] } } [(csBase 39 3, Rg.CS_STAT.BUSY, 1)] : State).sec.jobs.find? (fun z => z.pos == 39 && z.lane == 3) = some (⟨39, 3, [], none, 7, 27, none, 2⟩ : CryJob) ∧ 1 < (⟨39, 3, [], none, 7, 27, none, 2⟩ : CryJob).status ∧ (⟨39, 3, [], none, 7, 27, none, 2⟩ : CryJob).at_ = none ∧
    ({ (put { withLink { testLink with rc := ⟨1, 39, 27, 0, 0, false, false, 13, 0, 5⟩ } with sec := { world.sec with jobs := [⟨39, 3, [], none, 7, 27, none, 2⟩] } } [(csBase 39 3, Rg.CS_STAT.BUSY, 1)] : State) with sec := { (put { withLink { testLink with rc := ⟨1, 39, 27, 0, 0, false, false, 13, 0, 5⟩ } with sec := { world.sec with jobs := [⟨39, 3, [], none, 7, 27, none, 2⟩] } } [(csBase 39 3, Rg.CS_STAT.BUSY, 1)] : State).sec with jobs := (put { withLink { testLink with rc := ⟨1, 39, 27, 0, 0, false, false, 13, 0, 5⟩ } with sec := { world.sec with jobs := [⟨39, 3, [], none, 7, 27, none, 2⟩] } } [(csBase 39 3, Rg.CS_STAT.BUSY, 1)] : State).sec.jobs.erase (⟨39, 3, [], none, 7, 27, none, 2⟩ : CryJob) } } : State).sendItem 39 (⟨39, 3, [], none, 7, 27, none, 2⟩ : CryJob).link 0x81 0 0 3 false [(⟨39, 3, [], none, 7, 27, none, 2⟩ : CryJob).status + leAt (⟨39, 3, [], none, 7, 27, none, 2⟩ : CryJob).rec_ 56 4 * 2 ^ 32, (put { withLink { testLink with rc := ⟨1, 39, 27, 0, 0, false, false, 13, 0, 5⟩ } with sec := { world.sec with jobs := [⟨39, 3, [], none, 7, 27, none, 2⟩] } } [(csBase 39 3, Rg.CS_STAT.BUSY, 1)] : State).now] = some (((put { withLink { testLink with rc := ⟨1, 39, 27, 0, 0, false, false, 13, 0, 5⟩ } with sec := world.sec } [(csBase 39 3, Rg.CS_STAT.BUSY, 1)]).sendItem 39 27 0x81 0 0 3 false [2, world.now]).getD world : State) := by decide +kernel

end Sys2Proof.Tests
end

