-- ==== Sys2Proof/Tests/Witness19.lean ====
section
/-! SUPPORT. Witnesses: for each clause of a statement a state and operands that meet its hypotheses. -/

set_option Elab.async false

open Sys2Proof Sys2Proof.Machine

namespace Sys2Proof.Tests

theorem witness_EventsReachTheirTargets_1 :
    (put { world with toggles := [3, 130] } [(bEr + 130 * 8, Rg.ER_ROUTE.TARGET, 117)] : State).on .mgmt = true ∧ (put { world with toggles := [3, 130] } [(bEr + 130 * 8, Rg.ER_ROUTE.TARGET, 117)] : State).toggles.contains 130 = true ∧ 130 < 256 ∧ 117 = (put { world with toggles := [3, 130] } [(bEr + 130 * 8, Rg.ER_ROUTE.TARGET, 117)] : State).targets 130 := by decide +kernel

theorem witness_EventsReachTheirTargets_2 :
    (({ world with toggles := [3] } : State).on .mgmt = false ∨ ({ world with toggles := [3] } : State).toggles.contains 130 = false) := by decide +kernel

theorem witness_EventsReachTheirTargets_3 :
    mayWriteService world (.ac3 : Master) = true ∧ world.on .mgmt = true := by decide +kernel

theorem witness_RecordsAreAdmitted_1 :
    (3 < 6 ∧ swOwner 3 = some (.ac1 : Master) ∧ (put world [(rcSw 3, Rg.RC_SW_HDR.CODE, 0x801), (rcSw 3, Rg.RC_SW_HDR.DLEN, 3)] : State).on .mgmt = true ∧ (put world [(rcSw 3, Rg.RC_SW_HDR.CODE, 0x801), (rcSw 3, Rg.RC_SW_HDR.DLEN, 3)] : State).log.reqs.length < 64 ∧ (put world [(rcSw 3, Rg.RC_SW_HDR.CODE, 0x801), (rcSw 3, Rg.RC_SW_HDR.DLEN, 3)] : State).get (rcSw 3) Rg.RC_SW_HDR.CODE ≠ 0 ∧ (3 < 2 ∨ 0x800 ≤ (put world [(rcSw 3, Rg.RC_SW_HDR.CODE, 0x801), (rcSw 3, Rg.RC_SW_HDR.DLEN, 3)] : State).get (rcSw 3) Rg.RC_SW_HDR.CODE) ∧ (put world [(rcSw 3, Rg.RC_SW_HDR.CODE, 0x801), (rcSw 3, Rg.RC_SW_HDR.DLEN, 3)] : State).get (rcSw 3) Rg.RC_SW_HDR.DLEN ≤ 40 ∧ (put world [(rcSw 3, Rg.RC_SW_HDR.CODE, 0x801), (rcSw 3, Rg.RC_SW_HDR.DLEN, 3)] : State).get (rcSw 3) Rg.RC_SW_HDR.SEV ≤ 4) := by decide +kernel

theorem witness_RecordsAreAdmitted_2 :
    (3 < 6 ∧ swOwner 3 = some (.ac1 : Master) ∧ (put world [(rcSw 3, Rg.RC_SW_HDR.CODE, 0x7FF), (rcSw 3, Rg.RC_SW_HDR.DLEN, 3)] : State).on .mgmt = true ∧ ((put world [(rcSw 3, Rg.RC_SW_HDR.CODE, 0x7FF), (rcSw 3, Rg.RC_SW_HDR.DLEN, 3)] : State).get (rcSw 3) Rg.RC_SW_HDR.CODE = 0 ∨ (2 ≤ 3 ∧ (put world [(rcSw 3, Rg.RC_SW_HDR.CODE, 0x7FF), (rcSw 3, Rg.RC_SW_HDR.DLEN, 3)] : State).get (rcSw 3) Rg.RC_SW_HDR.CODE < 0x800) ∨ 40 < (put world [(rcSw 3, Rg.RC_SW_HDR.CODE, 0x7FF), (rcSw 3, Rg.RC_SW_HDR.DLEN, 3)] : State).get (rcSw 3) Rg.RC_SW_HDR.DLEN ∨ 4 < (put world [(rcSw 3, Rg.RC_SW_HDR.CODE, 0x7FF), (rcSw 3, Rg.RC_SW_HDR.DLEN, 3)] : State).get (rcSw 3) Rg.RC_SW_HDR.SEV)) := by decide +kernel

theorem witness_RecordsAreAdmitted_3 :
    (put { world with log := { world.log with reqs := [⟨5, 0x801, 2, true, 255, 4, [1, 2], some 3⟩], seq := 9 } } [(rcRate 0x801, Rg.RC_RATE.SUPPR, 4), (rcSw 3, Rg.RC_SW_GO.STATUS, 2), (rcRate 0x801, Rg.RC_RATE.BURST, 10)] : State).log.running = true ∧ (put { world with log := { world.log with reqs := [⟨5, 0x801, 2, true, 255, 4, [1, 2], some 3⟩], seq := 9 } } [(rcRate 0x801, Rg.RC_RATE.SUPPR, 4), (rcSw 3, Rg.RC_SW_GO.STATUS, 2), (rcRate 0x801, Rg.RC_RATE.BURST, 10)] : State).log.reqs = (⟨5, 0x801, 2, true, 255, 4, [1, 2], some 3⟩ : RecReq) :: ([] : List RecReq) ∧ (⟨5, 0x801, 2, true, 255, 4, [1, 2], some 3⟩ : RecReq).sw = some 3 ∧ 3 < 6 ∧ (⟨5, 0x801, 2, true, 255, 4, [1, 2], some 3⟩ : RecReq).code < 4096 ∧ (⟨5, 0x801, 2, true, 255, 4, [1, 2], some 3⟩ : RecReq).sev < 4 ∧ 1000 ≤ (put { world with log := { world.log with reqs := [⟨5, 0x801, 2, true, 255, 4, [1, 2], some 3⟩], seq := 9 } } [(rcRate 0x801, Rg.RC_RATE.SUPPR, 4), (rcSw 3, Rg.RC_SW_GO.STATUS, 2), (rcRate 0x801, Rg.RC_RATE.BURST, 10)] : State).refill.bucket (⟨5, 0x801, 2, true, 255, 4, [1, 2], some 3⟩ : RecReq).code ∧ (put { world with log := { world.log with reqs := [⟨5, 0x801, 2, true, 255, 4, [1, 2], some 3⟩], seq := 9 } } [(rcRate 0x801, Rg.RC_RATE.SUPPR, 4), (rcSw 3, Rg.RC_SW_GO.STATUS, 2), (rcRate 0x801, Rg.RC_RATE.BURST, 10)] : State).log.unflushed < 31 ∧ (put { world with log := { world.log with reqs := [⟨5, 0x801, 2, true, 255, 4, [1, 2], some 3⟩], seq := 9 } } [(rcRate 0x801, Rg.RC_RATE.SUPPR, 4), (rcSw 3, Rg.RC_SW_GO.STATUS, 2), (rcRate 0x801, Rg.RC_RATE.BURST, 10)] : State).log.recs.length < 32768 ∧ (put { world with log := { world.log with reqs := [⟨5, 0x801, 2, true, 255, 4, [1, 2], some 3⟩], seq := 9 } } [(rcRate 0x801, Rg.RC_RATE.SUPPR, 4), (rcSw 3, Rg.RC_SW_GO.STATUS, 2), (rcRate 0x801, Rg.RC_RATE.BURST, 10)] : State).log.loss = false := by decide +kernel

theorem witness_RecordsAreAdmitted_4 :
    (put { world with log := { world.log with reqs := [⟨5, 0x801, 2, true, 255, 4, [1, 2], some 3⟩], buckets := [(0x801, 999)] } } [(rcRate 0x801, Rg.RC_RATE.SUPPR, 4)] : State).log.running = true ∧ (put { world with log := { world.log with reqs := [⟨5, 0x801, 2, true, 255, 4, [1, 2], some 3⟩], buckets := [(0x801, 999)] } } [(rcRate 0x801, Rg.RC_RATE.SUPPR, 4)] : State).log.reqs = (⟨5, 0x801, 2, true, 255, 4, [1, 2], some 3⟩ : RecReq) :: ([] : List RecReq) ∧ (⟨5, 0x801, 2, true, 255, 4, [1, 2], some 3⟩ : RecReq).sw = some 3 ∧ 3 < 6 ∧ (⟨5, 0x801, 2, true, 255, 4, [1, 2], some 3⟩ : RecReq).code < 4096 ∧ (⟨5, 0x801, 2, true, 255, 4, [1, 2], some 3⟩ : RecReq).sev ≠ 4 ∧ (put { world with log := { world.log with reqs := [⟨5, 0x801, 2, true, 255, 4, [1, 2], some 3⟩], buckets := [(0x801, 999)] } } [(rcRate 0x801, Rg.RC_RATE.SUPPR, 4)] : State).refill.bucket (⟨5, 0x801, 2, true, 255, 4, [1, 2], some 3⟩ : RecReq).code < 1000 := by decide +kernel

theorem witness_RecordsAreAdmitted_5 :
    ({ world with log := { world.log with reqs := [⟨5, 0x801, 2, true, 255, 4, [1, 2], none⟩], recs := List.replicate 256 ⟨⟨5, 0x801, 2, true, 255, 4, [1, 2], none⟩, 1, 0, false, false, 0⟩ } } : State).log.running = true ∧ ({ world with log := { world.log with reqs := [⟨5, 0x801, 2, true, 255, 4, [1, 2], none⟩], recs := List.replicate 256 ⟨⟨5, 0x801, 2, true, 255, 4, [1, 2], none⟩, 1, 0, false, false, 0⟩ } } : State).log.reqs = (⟨5, 0x801, 2, true, 255, 4, [1, 2], none⟩ : RecReq) :: ([] : List RecReq) ∧ (⟨5, 0x801, 2, true, 255, 4, [1, 2], none⟩ : RecReq).sw = none ∧ (⟨5, 0x801, 2, true, 255, 4, [1, 2], none⟩ : RecReq).code < 4096 ∧ (⟨5, 0x801, 2, true, 255, 4, [1, 2], none⟩ : RecReq).sev < 4 ∧ 1000 ≤ ({ world with log := { world.log with reqs := [⟨5, 0x801, 2, true, 255, 4, [1, 2], none⟩], recs := List.replicate 256 ⟨⟨5, 0x801, 2, true, 255, 4, [1, 2], none⟩, 1, 0, false, false, 0⟩ } } : State).refill.bucket (⟨5, 0x801, 2, true, 255, 4, [1, 2], none⟩ : RecReq).code ∧ 256 ≤ ({ world with log := { world.log with reqs := [⟨5, 0x801, 2, true, 255, 4, [1, 2], none⟩], recs := List.replicate 256 ⟨⟨5, 0x801, 2, true, 255, 4, [1, 2], none⟩, 1, 0, false, false, 0⟩ } } : State).log.unflushed := by decide +kernel

theorem witness_RecordsAreAdmitted_6 :
    (put { world with time := { world.time with ns := 3000000 }, log := { world.log with buckets := [(0x801, 7), (0x802, 999)] } } [(rcRate 0x801, Rg.RC_RATE.BURST, 10)] : State).log.running = true ∧ Rising (put { world with time := { world.time with ns := 3000000 }, log := { world.log with buckets := [(0x801, 7), (0x802, 999)] } } [(rcRate 0x801, Rg.RC_RATE.BURST, 10)] : State).log.buckets := by decide +kernel

theorem witness_RecordsAreAdmitted_7 :
    mayWriteService world (.mp : Master) = true ∧ world.on .mgmt = true := by decide +kernel

theorem witness_RecordsAreAdmitted_8 :
    mayWriteService world (.mp : Master) = true ∧ world.on .mgmt = true := by decide +kernel

theorem witness_RecordsAreFlushed_1 :
    mayWriteService ({ world with log := { world.log with recs := [⟨⟨5, 0x801, 2, true, 255, 4, [1, 2], none⟩, 1, 0, false, false, 0⟩] } } : State) (.mp : Master) = true ∧ ({ world with log := { world.log with recs := [⟨⟨5, 0x801, 2, true, 255, 4, [1, 2], none⟩, 1, 0, false, false, 0⟩] } } : State).on .mgmt = true ∧ ({ world with log := { world.log with recs := [⟨⟨5, 0x801, 2, true, 255, 4, [1, 2], none⟩, 1, 0, false, false, 0⟩] } } : State).log.running = true ∧ ({ world with log := { world.log with recs := [⟨⟨5, 0x801, 2, true, 255, 4, [1, 2], none⟩, 1, 0, false, false, 0⟩] } } : State).log.flush = .none ∧ 0 < ({ world with log := { world.log with recs := [⟨⟨5, 0x801, 2, true, 255, 4, [1, 2], none⟩, 1, 0, false, false, 0⟩] } } : State).log.unflushed := by decide +kernel

theorem witness_RecordsAreFlushed_2 :
    (({ world with time := { world.time with ns := 100000001 }, log := { world.log with recs := [⟨⟨5, 0x801, 2, true, 255, 4, [1, 2], none⟩, 1, 0, false, false, 0⟩] } } : State).log.running = true ∧ ({ world with time := { world.time with ns := 100000001 }, log := { world.log with recs := [⟨⟨5, 0x801, 2, true, 255, 4, [1, 2], none⟩, 1, 0, false, false, 0⟩] } } : State).log.flush = .none ∧ (32 ≤ ({ world with time := { world.time with ns := 100000001 }, log := { world.log with recs := [⟨⟨5, 0x801, 2, true, 255, 4, [1, 2], none⟩, 1, 0, false, false, 0⟩] } } : State).log.unflushed ∨ (({ world with time := { world.time with ns := 100000001 }, log := { world.log with recs := [⟨⟨5, 0x801, 2, true, 255, 4, [1, 2], none⟩, 1, 0, false, false, 0⟩] } } : State).log.recs.find? (fun r => !r.flushed)).any (fun r => decide (r.at_ + 100000000 ≤ ({ world with time := { world.time with ns := 100000001 }, log := { world.log with recs := [⟨⟨5, 0x801, 2, true, 255, 4, [1, 2], none⟩, 1, 0, false, false, 0⟩] } } : State).nowNs)) = true)) := by decide +kernel

theorem witness_RecordsAreFlushed_3 :
    (({ world with log := { world.log with recs := [⟨⟨5, 0x801, 4, true, 255, 4, [1, 2], none⟩, 1, 0, false, false, 0⟩] } } : State).log.running = true ∧ (({ world with log := { world.log with recs := [⟨⟨5, 0x801, 4, true, 255, 4, [1, 2], none⟩, 1, 0, false, false, 0⟩] } } : State).flag bMpc Rg.PWR_STAT.PFAIL = true ∨ ({ world with log := { world.log with recs := [⟨⟨5, 0x801, 4, true, 255, 4, [1, 2], none⟩, 1, 0, false, false, 0⟩] } } : State).log.recs.any (fun r => !r.flushed && r.req.sev == 4) = true)) := by decide +kernel

theorem witness_RecordsAreFlushed_4 :
    ({ world with log := { world.log with place := 1, flush := .background, recs := List.replicate 3 ⟨⟨5, 0x801, 4, true, 255, 4, [1, 2], none⟩, 1, 0, false, false, 0⟩ } } : State).log.flush ≠ .none ∧ ({ world with log := { world.log with place := 1, flush := .background, recs := List.replicate 3 ⟨⟨5, 0x801, 4, true, 255, 4, [1, 2], none⟩, 1, 0, false, false, 0⟩ } } : State).log.place < 1023 ∧ 2 = min (min (4 - (({ world with log := { world.log with place := 1, flush := .background, recs := List.replicate 3 ⟨⟨5, 0x801, 4, true, 255, 4, [1, 2], none⟩, 1, 0, false, false, 0⟩ } } : State).log.place + 1) % 4) ({ world with log := { world.log with place := 1, flush := .background, recs := List.replicate 3 ⟨⟨5, 0x801, 4, true, 255, 4, [1, 2], none⟩, 1, 0, false, false, 0⟩ } } : State).log.unflushed) (1023 - ({ world with log := { world.log with place := 1, flush := .background, recs := List.replicate 3 ⟨⟨5, 0x801, 4, true, 255, 4, [1, 2], none⟩, 1, 0, false, false, 0⟩ } } : State).log.place) := by decide +kernel

theorem witness_RecordsAreFlushed_5 :
    ({ world with log := { world.log with place := 1023, nxt := 1023, erased := true, flush := .background, recs := List.replicate 5 ⟨⟨5, 0x801, 4, true, 255, 4, [1, 2], none⟩, 1, 0, false, false, 0⟩ } } : State).log.flush ≠ .none ∧ 1023 ≤ ({ world with log := { world.log with place := 1023, nxt := 1023, erased := true, flush := .background, recs := List.replicate 5 ⟨⟨5, 0x801, 4, true, 255, 4, [1, 2], none⟩, 1, 0, false, false, 0⟩ } } : State).log.place ∧ 3 = min 3 ({ world with log := { world.log with place := 1023, nxt := 1023, erased := true, flush := .background, recs := List.replicate 5 ⟨⟨5, 0x801, 4, true, 255, 4, [1, 2], none⟩, 1, 0, false, false, 0⟩ } } : State).log.unflushed ∧ (({ world with log := { world.log with place := 1023, nxt := 1023, erased := true, flush := .background, recs := List.replicate 5 ⟨⟨5, 0x801, 4, true, 255, 4, [1, 2], none⟩, 1, 0, false, false, 0⟩ } } : State).log.recs.filter (fun r => !r.flushed)).take 3 = (⟨⟨5, 0x801, 4, true, 255, 4, [1, 2], none⟩, 1, 0, false, false, 0⟩ : Rec) :: (List.replicate 2 ⟨⟨5, 0x801, 4, true, 255, 4, [1, 2], none⟩, 1, 0, false, false, 0⟩ : List Rec) := by decide +kernel

theorem witness_RecordsAreFlushed_6 :
    ({ world with log := { world.log with place := 9, nxt := 1023, erased := true, flush := .background, recs := List.replicate 5 ⟨⟨5, 0x801, 4, true, 255, 4, [1, 2], none⟩, 1, 0, false, false, 0⟩ } } : State).log.flush ≠ .none := by decide +kernel

theorem witness_RecordsAreFlushed_7 :
    ({ world with log := { world.log with erased := false } } : State).log.erased = false := by decide +kernel

theorem witness_RecordsAreFlushed_8 :
    ({ world with log := { world.log with erased := false, nxt := 1023 } } : State).log.erased = false := by decide +kernel

theorem witness_RecordsAreFlushed_9 :
    (put { world with log := { world.log with recs := [⟨⟨5, 0x801, 2, true, 255, 4, [1, 2], none⟩, 1, 0, false, false, 0⟩] } } [(bRc, Rg.RC_STAT.PF_DONE, 1)] : State).log.running = true ∧ 1000 ≤ (put { world with log := { world.log with recs := [⟨⟨5, 0x801, 2, true, 255, 4, [1, 2], none⟩, 1, 0, false, false, 0⟩] } } [(bRc, Rg.RC_STAT.PF_DONE, 1)] : State).refill.bucket 0x079 ∧ (put { world with log := { world.log with recs := [⟨⟨5, 0x801, 2, true, 255, 4, [1, 2], none⟩, 1, 0, false, false, 0⟩] } } [(bRc, Rg.RC_STAT.PF_DONE, 1)] : State).log.unflushed < 256 ∧ (put { world with log := { world.log with recs := [⟨⟨5, 0x801, 2, true, 255, 4, [1, 2], none⟩, 1, 0, false, false, 0⟩] } } [(bRc, Rg.RC_STAT.PF_DONE, 1)] : State).log.recs.length < 32768 ∧ (put { world with log := { world.log with recs := [⟨⟨5, 0x801, 2, true, 255, 4, [1, 2], none⟩, 1, 0, false, false, 0⟩] } } [(bRc, Rg.RC_STAT.PF_DONE, 1)] : State).log.loss = false := by decide +kernel

theorem witness_RecordsAreFlushed_10 :
    (put { world with log := { world.log with pfail := true, flush := .emergency, recs := [⟨⟨5, 0x801, 2, true, 255, 4, [1, 2], none⟩, 1, 0, false, false, 0⟩] } } [(bMpc, Rg.PWR_STAT.PFAIL, 1)] : State).log.flush = .emergency ∧ 0 < (put { world with log := { world.log with pfail := true, flush := .emergency, recs := [⟨⟨5, 0x801, 2, true, 255, 4, [1, 2], none⟩, 1, 0, false, false, 0⟩] } } [(bMpc, Rg.PWR_STAT.PFAIL, 1)] : State).log.unflushed := by decide +kernel

theorem witness_RecordsAreFlushed_11 :
    ({ world with log := { world.log with pfail := true, flush := .emergency } } : State).log.pfail = true ∧ ({ world with log := { world.log with pfail := true, flush := .emergency } } : State).log.unflushed = 0 := by decide +kernel

theorem witness_HealthIsMeasured_1 :
    (put world [(bHl, Rg.HL_CFG.AUTO, 0)] : State).on .mgmt = true ∧ (put world [(bHl, Rg.HL_CFG.AUTO, 0)] : State).mode ≠ .bootstrap ∧ (put world [(bHl, Rg.HL_CFG.AUTO, 0)] : State).health.passAt ≤ (put world [(bHl, Rg.HL_CFG.AUTO, 0)] : State).nowNs ∧ (put world [(bHl, Rg.HL_CFG.AUTO, 0)] : State).on (domOf (⟨3, [1, 2, 3, 4], 9, 65535, 7⟩ : IslMeas).isl) = true ∧ (⟨3, [1, 2, 3, 4], 9, 65535, 7⟩ : IslMeas).isl < 44 ∧ (put world [(bHl, Rg.HL_CFG.AUTO, 0)] : State).get (islBase (⟨3, [1, 2, 3, 4], 9, 65535, 7⟩ : IslMeas).isl) Rg.ISL_STAT.CLK_LOCK ≠ 0 ∧ (put world [(bHl, Rg.HL_CFG.AUTO, 0)] : State).flag bHl Rg.HL_CFG.AUTO = false := by decide +kernel

theorem witness_HealthIsMeasured_2 :
    (put world [(bHl, Rg.HL_CFG.AUTO, 1), (bHl, Rg.HL_CFG.TGT, 200), (bHl, Rg.HL_STAT.FROZEN_FB, 1), (bHl, Rg.HL_VLIM.VMAX_FA, 800)] : State).on .mgmt = true ∧ (put world [(bHl, Rg.HL_CFG.AUTO, 1), (bHl, Rg.HL_CFG.TGT, 200), (bHl, Rg.HL_STAT.FROZEN_FB, 1), (bHl, Rg.HL_VLIM.VMAX_FA, 800)] : State).mode ≠ .bootstrap ∧ (put world [(bHl, Rg.HL_CFG.AUTO, 1), (bHl, Rg.HL_CFG.TGT, 200), (bHl, Rg.HL_STAT.FROZEN_FB, 1), (bHl, Rg.HL_VLIM.VMAX_FA, 800)] : State).health.passAt ≤ (put world [(bHl, Rg.HL_CFG.AUTO, 1), (bHl, Rg.HL_CFG.TGT, 200), (bHl, Rg.HL_STAT.FROZEN_FB, 1), (bHl, Rg.HL_VLIM.VMAX_FA, 800)] : State).nowNs ∧ (put world [(bHl, Rg.HL_CFG.AUTO, 1), (bHl, Rg.HL_CFG.TGT, 200), (bHl, Rg.HL_STAT.FROZEN_FB, 1), (bHl, Rg.HL_VLIM.VMAX_FA, 800)] : State).flag bHl Rg.HL_CFG.AUTO = true ∧ (put world [(bHl, Rg.HL_CFG.AUTO, 1), (bHl, Rg.HL_CFG.TGT, 200), (bHl, Rg.HL_STAT.FROZEN_FB, 1), (bHl, Rg.HL_VLIM.VMAX_FA, 800)] : State).flag bMpc Rg.MODE_STAT.CHANGING = false ∧ (put world [(bHl, Rg.HL_CFG.AUTO, 1), (bHl, Rg.HL_CFG.TGT, 200), (bHl, Rg.HL_STAT.FROZEN_FB, 1), (bHl, Rg.HL_VLIM.VMAX_FA, 800)] : State).flag bMpc Rg.MODE_STAT.MAINT_DIRTY = false ∧ (put world [(bHl, Rg.HL_CFG.AUTO, 1), (bHl, Rg.HL_CFG.TGT, 200), (bHl, Rg.HL_STAT.FROZEN_FB, 1), (bHl, Rg.HL_VLIM.VMAX_FA, 800)] : State).flag bHl Rg.HL_STAT.FROZEN_FA = false ∧ (put world [(bHl, Rg.HL_CFG.AUTO, 1), (bHl, Rg.HL_CFG.TGT, 200), (bHl, Rg.HL_STAT.FROZEN_FB, 1), (bHl, Rg.HL_VLIM.VMAX_FA, 800)] : State).flag bHl Rg.HL_STAT.FROZEN_FB = true ∧
    (put world [(bHl, Rg.HL_CFG.AUTO, 1), (bHl, Rg.HL_CFG.TGT, 200), (bHl, Rg.HL_STAT.FROZEN_FB, 1), (bHl, Rg.HL_VLIM.VMAX_FA, 800)] : State).worst ((put world [(bHl, Rg.HL_CFG.AUTO, 1), (bHl, Rg.HL_CFG.TGT, 200), (bHl, Rg.HL_STAT.FROZEN_FB, 1), (bHl, Rg.HL_VLIM.VMAX_FA, 800)] : State).planIsles .fa) = some (((put world [(bHl, Rg.HL_CFG.AUTO, 1), (bHl, Rg.HL_CFG.TGT, 200), (bHl, Rg.HL_STAT.FROZEN_FB, 1), (bHl, Rg.HL_VLIM.VMAX_FA, 800)]).worst ((put world []).planIsles .fa)).getD 0 : Nat) ∧ (put world [(bHl, Rg.HL_CFG.AUTO, 1), (bHl, Rg.HL_CFG.TGT, 200), (bHl, Rg.HL_STAT.FROZEN_FB, 1), (bHl, Rg.HL_VLIM.VMAX_FA, 800)] : State).derated (((put world [(bHl, Rg.HL_CFG.AUTO, 1), (bHl, Rg.HL_CFG.TGT, 200), (bHl, Rg.HL_STAT.FROZEN_FB, 1), (bHl, Rg.HL_VLIM.VMAX_FA, 800)]).worst ((put world []).planIsles .fa)).getD 0 : Nat) < ((put world [(bHl, Rg.HL_CFG.AUTO, 1), (bHl, Rg.HL_CFG.TGT, 200), (bHl, Rg.HL_STAT.FROZEN_FB, 1), (bHl, Rg.HL_VLIM.VMAX_FA, 800)] : State).get bHl Rg.HL_CFG.TGT * 16 : Int) ∧ (put world [(bHl, Rg.HL_CFG.AUTO, 1), (bHl, Rg.HL_CFG.TGT, 200), (bHl, Rg.HL_STAT.FROZEN_FB, 1), (bHl, Rg.HL_VLIM.VMAX_FA, 800)] : State).volt .fa + 5 ≤ vlim ((put world [(bHl, Rg.HL_CFG.AUTO, 1), (bHl, Rg.HL_CFG.TGT, 200), (bHl, Rg.HL_STAT.FROZEN_FB, 1), (bHl, Rg.HL_VLIM.VMAX_FA, 800)] : State).get bHl Rg.HL_VLIM.VMAX_FA) := by decide +kernel

theorem witness_HealthIsMeasured_3 :
    (((.fb : Dom) = .fa ∨ (.fb : Dom) = .fb) ∧ pairGet (.fb : Dom) ({ world with time := { world.time with ns := 1000000 }, health := { world.health with pmbWait := (false, true), pmbFails := (0, 2) } } : State).health.pmbWait = true ∧ near10 760 (({ world with time := { world.time with ns := 1000000 }, health := { world.health with pmbWait := (false, true), pmbFails := (0, 2) } } : State).volt (.fb : Dom)) = true ∧ near10 740 (({ world with time := { world.time with ns := 1000000 }, health := { world.health with pmbWait := (false, true), pmbFails := (0, 2) } } : State).volt (.fb : Dom)) = true ∧ pairGet (.fb : Dom) ({ world with time := { world.time with ns := 1000000 }, health := { world.health with pmbWait := (false, true), pmbFails := (0, 2) } } : State).health.pmbAt + 1000000 ≤ ({ world with time := { world.time with ns := 1000000 }, health := { world.health with pmbWait := (false, true), pmbFails := (0, 2) } } : State).nowNs) := by decide +kernel

theorem witness_HealthIsMeasured_4 :
    (((.fb : Dom) = .fa ∨ (.fb : Dom) = .fb) ∧ pairGet (.fb : Dom) ({ world with time := { world.time with ns := 1000000 }, health := { world.health with pmbWait := (false, true), pmbFails := (0, 2) } } : State).health.pmbWait = true ∧ near10 761 (({ world with time := { world.time with ns := 1000000 }, health := { world.health with pmbWait := (false, true), pmbFails := (0, 2) } } : State).volt (.fb : Dom)) = false ∧ pairGet (.fb : Dom) ({ world with time := { world.time with ns := 1000000 }, health := { world.health with pmbWait := (false, true), pmbFails := (0, 2) } } : State).health.pmbFails = 2 ∧ pairGet (.fb : Dom) ({ world with time := { world.time with ns := 1000000 }, health := { world.health with pmbWait := (false, true), pmbFails := (0, 2) } } : State).health.pmbAt + 1000000 ≤ ({ world with time := { world.time with ns := 1000000 }, health := { world.health with pmbWait := (false, true), pmbFails := (0, 2) } } : State).nowNs) := by decide +kernel

theorem witness_HealthIsMeasured_5 :
    (((.fa : Dom) = .fa ∨ (.fa : Dom) = .fb) ∧ pairGet (.fa : Dom) ({ world with time := { world.time with ns := 1000000 }, health := { world.health with pmbWait := (true, false), pmbFails := (1, 0) } } : State).health.pmbWait = true ∧ near10 739 (({ world with time := { world.time with ns := 1000000 }, health := { world.health with pmbWait := (true, false), pmbFails := (1, 0) } } : State).volt (.fa : Dom)) = false ∧ pairGet (.fa : Dom) ({ world with time := { world.time with ns := 1000000 }, health := { world.health with pmbWait := (true, false), pmbFails := (1, 0) } } : State).health.pmbFails < 2 ∧ pairGet (.fa : Dom) ({ world with time := { world.time with ns := 1000000 }, health := { world.health with pmbWait := (true, false), pmbFails := (1, 0) } } : State).health.pmbAt + 1000000 ≤ ({ world with time := { world.time with ns := 1000000 }, health := { world.health with pmbWait := (true, false), pmbFails := (1, 0) } } : State).nowNs) := by decide +kernel

theorem witness_HealthIsMeasured_6 :
    ((put { world with time := { world.time with ns := 1000000 }, health := { world.health with railOut := 2 :: List.replicate 15 0, railIn := List.replicate 16 0 } } [(bHl, Rg.HL_RAIL.LO, 700), (bHl, Rg.HL_RAIL.HI, 800)] : State).on .mgmt = true ∧ (put { world with time := { world.time with ns := 1000000 }, health := { world.health with railOut := 2 :: List.replicate 15 0, railIn := List.replicate 16 0 } } [(bHl, Rg.HL_RAIL.LO, 700), (bHl, Rg.HL_RAIL.HI, 800)] : State).health.railAt + 1000000 ≤ (put { world with time := { world.time with ns := 1000000 }, health := { world.health with railOut := 2 :: List.replicate 15 0, railIn := List.replicate 16 0 } } [(bHl, Rg.HL_RAIL.LO, 700), (bHl, Rg.HL_RAIL.HI, 800)] : State).nowNs ∧ 7 < 65536 ∧ (7 < (put { world with time := { world.time with ns := 1000000 }, health := { world.health with railOut := 2 :: List.replicate 15 0, railIn := List.replicate 16 0 } } [(bHl, Rg.HL_RAIL.LO, 700), (bHl, Rg.HL_RAIL.HI, 800)] : State).get bHl Rg.HL_RAIL.LO ∨ (put { world with time := { world.time with ns := 1000000 }, health := { world.health with railOut := 2 :: List.replicate 15 0, railIn := List.replicate 16 0 } } [(bHl, Rg.HL_RAIL.LO, 700), (bHl, Rg.HL_RAIL.HI, 800)] : State).get bHl Rg.HL_RAIL.HI < 7) ∧ (put { world with time := { world.time with ns := 1000000 }, health := { world.health with railOut := 2 :: List.replicate 15 0, railIn := List.replicate 16 0 } } [(bHl, Rg.HL_RAIL.LO, 700), (bHl, Rg.HL_RAIL.HI, 800)] : State).health.railOut.getD 0 0 = 2 ∧ bitOf 0 ((put { world with time := { world.time with ns := 1000000 }, health := { world.health with railOut := 2 :: List.replicate 15 0, railIn := List.replicate 16 0 } } [(bHl, Rg.HL_RAIL.LO, 700), (bHl, Rg.HL_RAIL.HI, 800)] : State).get bHl Rg.HL_STAT.RAIL_BAD) = false ∧ 0 < (put { world with time := { world.time with ns := 1000000 }, health := { world.health with railOut := 2 :: List.replicate 15 0, railIn := List.replicate 16 0 } } [(bHl, Rg.HL_RAIL.LO, 700), (bHl, Rg.HL_RAIL.HI, 800)] : State).health.railOut.length ∧ 0 < (put { world with time := { world.time with ns := 1000000 }, health := { world.health with railOut := 2 :: List.replicate 15 0, railIn := List.replicate 16 0 } } [(bHl, Rg.HL_RAIL.LO, 700), (bHl, Rg.HL_RAIL.HI, 800)] : State).health.railIn.length) := by decide +kernel

theorem witness_HealthIsMeasured_7 :
    (put { world with time := { world.time with ns := 1000000 }, health := { world.health with railIn := 2 :: List.replicate 15 0, railOut := List.replicate 16 0 } } [(bHl, Rg.HL_RAIL.LO, 700), (bHl, Rg.HL_RAIL.HI, 800), (bHl, Rg.HL_STAT.RAIL_BAD, 5)] : State).on .mgmt = true ∧ (put { world with time := { world.time with ns := 1000000 }, health := { world.health with railIn := 2 :: List.replicate 15 0, railOut := List.replicate 16 0 } } [(bHl, Rg.HL_RAIL.LO, 700), (bHl, Rg.HL_RAIL.HI, 800), (bHl, Rg.HL_STAT.RAIL_BAD, 5)] : State).health.railAt + 1000000 ≤ (put { world with time := { world.time with ns := 1000000 }, health := { world.health with railIn := 2 :: List.replicate 15 0, railOut := List.replicate 16 0 } } [(bHl, Rg.HL_RAIL.LO, 700), (bHl, Rg.HL_RAIL.HI, 800), (bHl, Rg.HL_STAT.RAIL_BAD, 5)] : State).nowNs ∧ 750 < 65536 ∧ (put { world with time := { world.time with ns := 1000000 }, health := { world.health with railIn := 2 :: List.replicate 15 0, railOut := List.replicate 16 0 } } [(bHl, Rg.HL_RAIL.LO, 700), (bHl, Rg.HL_RAIL.HI, 800), (bHl, Rg.HL_STAT.RAIL_BAD, 5)] : State).get bHl Rg.HL_RAIL.LO ≤ 750 ∧ 750 ≤ (put { world with time := { world.time with ns := 1000000 }, health := { world.health with railIn := 2 :: List.replicate 15 0, railOut := List.replicate 16 0 } } [(bHl, Rg.HL_RAIL.LO, 700), (bHl, Rg.HL_RAIL.HI, 800), (bHl, Rg.HL_STAT.RAIL_BAD, 5)] : State).get bHl Rg.HL_RAIL.HI ∧ (put { world with time := { world.time with ns := 1000000 }, health := { world.health with railIn := 2 :: List.replicate 15 0, railOut := List.replicate 16 0 } } [(bHl, Rg.HL_RAIL.LO, 700), (bHl, Rg.HL_RAIL.HI, 800), (bHl, Rg.HL_STAT.RAIL_BAD, 5)] : State).health.railIn.getD 0 0 = 2 ∧ bitOf 0 ((put { world with time := { world.time with ns := 1000000 }, health := { world.health with railIn := 2 :: List.replicate 15 0, railOut := List.replicate 16 0 } } [(bHl, Rg.HL_RAIL.LO, 700), (bHl, Rg.HL_RAIL.HI, 800), (bHl, Rg.HL_STAT.RAIL_BAD, 5)] : State).get bHl Rg.HL_STAT.RAIL_BAD) = true ∧ 0 < (put { world with time := { world.time with ns := 1000000 }, health := { world.health with railIn := 2 :: List.replicate 15 0, railOut := List.replicate 16 0 } } [(bHl, Rg.HL_RAIL.LO, 700), (bHl, Rg.HL_RAIL.HI, 800), (bHl, Rg.HL_STAT.RAIL_BAD, 5)] : State).health.railOut.length ∧ 0 < (put { world with time := { world.time with ns := 1000000 }, health := { world.health with railIn := 2 :: List.replicate 15 0, railOut := List.replicate 16 0 } } [(bHl, Rg.HL_RAIL.LO, 700), (bHl, Rg.HL_RAIL.HI, 800), (bHl, Rg.HL_STAT.RAIL_BAD, 5)] : State).health.railIn.length := by decide +kernel

theorem witness_HealthIsMeasured_8 :
    (put { world with time := { world.time with ns := 10000000 } } [(bHl, Rg.HL_TLIM.WARN, 400), (bHl, Rg.HL_TLIM.CRIT, 440)] : State).on .mgmt = true ∧ (put { world with time := { world.time with ns := 10000000 } } [(bHl, Rg.HL_TLIM.WARN, 400), (bHl, Rg.HL_TLIM.CRIT, 440)] : State).health.tempAt + 10000000 ≤ (put { world with time := { world.time with ns := 10000000 } } [(bHl, Rg.HL_TLIM.WARN, 400), (bHl, Rg.HL_TLIM.CRIT, 440)] : State).nowNs ∧ 7 < 44 ∧ 404 < 1024 ∧ (put { world with time := { world.time with ns := 10000000 } } [(bHl, Rg.HL_TLIM.WARN, 400), (bHl, Rg.HL_TLIM.CRIT, 440)] : State).getS bHl Rg.HL_TLIM.WARN < sgn 10 404 ∧ sgn 10 404 ≤ (put { world with time := { world.time with ns := 10000000 } } [(bHl, Rg.HL_TLIM.WARN, 400), (bHl, Rg.HL_TLIM.CRIT, 440)] : State).getS bHl Rg.HL_TLIM.CRIT - 8 ∧ (put { world with time := { world.time with ns := 10000000 } } [(bHl, Rg.HL_TLIM.WARN, 400), (bHl, Rg.HL_TLIM.CRIT, 440)] : State).health.warned.contains 7 = false := by decide +kernel

theorem witness_HealthIsMeasured_9 :
    (put { world with time := { world.time with ns := 10000000 }, health := { world.health with warned := [7] } } [(bHl, Rg.HL_TLIM.WARN, 400), (bHl, Rg.HL_TLIM.CRIT, 440)] : State).on .mgmt = true ∧ (put { world with time := { world.time with ns := 10000000 }, health := { world.health with warned := [7] } } [(bHl, Rg.HL_TLIM.WARN, 400), (bHl, Rg.HL_TLIM.CRIT, 440)] : State).health.tempAt + 10000000 ≤ (put { world with time := { world.time with ns := 10000000 }, health := { world.health with warned := [7] } } [(bHl, Rg.HL_TLIM.WARN, 400), (bHl, Rg.HL_TLIM.CRIT, 440)] : State).nowNs ∧ 7 < 44 ∧ 392 < 1024 ∧ sgn 10 392 ≤ (put { world with time := { world.time with ns := 10000000 }, health := { world.health with warned := [7] } } [(bHl, Rg.HL_TLIM.WARN, 400), (bHl, Rg.HL_TLIM.CRIT, 440)] : State).getS bHl Rg.HL_TLIM.WARN ∧ sgn 10 392 ≤ (put { world with time := { world.time with ns := 10000000 }, health := { world.health with warned := [7] } } [(bHl, Rg.HL_TLIM.WARN, 400), (bHl, Rg.HL_TLIM.CRIT, 440)] : State).getS bHl Rg.HL_TLIM.CRIT := by decide +kernel

theorem witness_HealthIsMeasured_10 :
    4 < 8 ∧ ({ world with health := { world.health with pinBad := [(4, 63)] } } : State).on .mgmt = true ∧ ({ world with health := { world.health with pinBad := [(4, 63)] } } : State).pinDriven 4 = true ∧ lookupD 0 4 ({ world with health := { world.health with pinBad := [(4, 63)] } } : State).health.pinBad = 63 ∧ bitOf 4 (({ world with health := { world.health with pinBad := [(4, 63)] } } : State).get bHl Rg.HL_PINFLT.ALARM_OUT) = false := by decide +kernel

theorem witness_HealthIsMeasured_11 :
    4 < 8 ∧ (put { world with health := { world.health with pinGood := [(4, 255)] } } [(bHl, Rg.HL_PINFLT.ALARM_OUT, 16)] : State).on .mgmt = true ∧ (put { world with health := { world.health with pinGood := [(4, 255)] } } [(bHl, Rg.HL_PINFLT.ALARM_OUT, 16)] : State).pinDriven 4 = true ∧ lookupD 0 4 (put { world with health := { world.health with pinGood := [(4, 255)] } } [(bHl, Rg.HL_PINFLT.ALARM_OUT, 16)] : State).health.pinGood = 255 ∧ bitOf 4 ((put { world with health := { world.health with pinGood := [(4, 255)] } } [(bHl, Rg.HL_PINFLT.ALARM_OUT, 16)] : State).get bHl Rg.HL_PINFLT.ALARM_OUT) = true := by decide +kernel

end Sys2Proof.Tests
end

section
/-! SUPPORT. What every command keeps: one lemma for each operation of the model, in the model's order. A command's lemma is put together
from the lemmas of the operations it is made of, so none of them opens an operation that another one speaks of. -/

set_option Elab.async false

namespace Sys2Proof.Machine

/-! ### Rising lists -/

theorem Rising.assocSet {α : Type} {k : Nat} {v : α} {l : List (Nat × α)} (h : Rising l) : Rising (assocSet k v l) :=
  assocSet_rising k v l h

theorem Rising.filter {α : Type} {l : List (Nat × α)} (p : Nat × α → Bool) (h : Rising l) : Rising (l.filter p) :=
  List.Pairwise.filter p h

theorem Rising.assocDel {α : Type} {k : Nat} {l : List (Nat × α)} (h : Rising l) : Rising (assocDel k l) := h.filter _

/-- A fold whose steps keep a rising list rising. -/
theorem Rising.foldl {α β : Type} {f : List (Nat × α) → β → List (Nat × α)} (hf : ∀ l b, Rising l → Rising (f l b)) (m : List β)
    {l : List (Nat × α)} (h : Rising l) : Rising (m.foldl f l) := by
  induction m generalizing l with
  | nil => exact h
  | cons b m ih => exact ih (hf l b h)

/-! ### What is kept -/

/-- What every operation keeps of a state `s₀`: the waiting commands, what is burned into the fuses, and the canonical form. -/
structure Keeps (s₀ s : State) : Prop where
  queue : s.pending = s₀.pending
  burned : s₀.sec.burned ≤ s.sec.burned
  digests : s₀.sec.digests <+: s.sec.digests
  canonical : Canonical s₀ → Canonical s

variable {s₀ s t : State}

theorem Keeps.refl : Keeps s s := ⟨rfl, le_rfl, ⟨[], List.append_nil _⟩, id⟩

/-- None of it rests on the other parts of the state, the fuses in `sec` apart: whatever they become, it stays. -/
theorem Keeps.frame {power modes boot upd cores resp staged caught img links rx outq disp toggles toTp toSs log health time stop radio
    loops samples gnss obs waves inbox phs align groups engines pins lines tracks eth cans pkt sec pcie yx dma scrub free : _}
    (h : Keeps s₀ s) (hb : sec.burned = s.sec.burned := by exact rfl) (hd : sec.digests = s.sec.digests := by exact rfl) :
    Keeps s₀ ⟨s.pending, s.cells, s.mem, s.poison, s.flips, power, modes, boot, upd, cores, s.cocoon, resp, staged, caught, img, links,
      rx, outq, disp, toggles, toTp, toSs, log, health, time, stop, radio, loops, samples, gnss, obs, waves, inbox, phs, align, groups,
      engines, pins, lines, tracks, eth, cans, pkt, sec, pcie, yx, dma, scrub, free⟩ :=
  ⟨h.queue, h.burned.trans hb.ge, h.digests.trans (by rw [hd]), h.canonical⟩

/-- The parts that the canonical form speaks of, changed so that it stays. -/
theorem Keeps.sparse {cells mem poison flips cocoon : _} (h : Keeps s₀ s)
    (hc : Canonical s → Canonical { s with cells := cells, mem := mem, poison := poison, flips := flips, cocoon := cocoon }) :
    Keeps s₀ { s with cells := cells, mem := mem, poison := poison, flips := flips, cocoon := cocoon } :=
  ⟨h.queue, h.burned, h.digests, hc ∘ h.canonical⟩

theorem Keeps.cells {l : List (Nat × Nat)} (h : Keeps s₀ s) (hl : Rising s.cells → Rising l) : Keeps s₀ { s with cells := l } :=
  h.sparse fun ⟨hm, hc, hr⟩ => ⟨hm, hl hc, hr⟩

theorem Keeps.cocoon {l : List (Nat × Nat)} (h : Keeps s₀ s) (hl : Rising s.cocoon → Rising l) : Keeps s₀ { s with cocoon := l } :=
  h.sparse fun ⟨hm, hc, hp, hf, hk⟩ => ⟨hm, hc, hp, hf, hl hk⟩

theorem Keeps.ite {c : Prop} {_ : Decidable c} (hs : Keeps s₀ s) (ht : Keeps s₀ t) : Keeps s₀ (if c then s else t) := by
  split
  · exact hs
  · exact ht

theorem Keeps.when {c : Prop} {_ : Decidable c} (hs : Keeps s₀ s) (ht : Keeps s₀ s → Keeps s₀ t) : Keeps s₀ (if c then t else s) :=
  .ite (ht hs) hs

theorem Keeps.unless {c : Prop} {_ : Decidable c} (hs : Keeps s₀ s) (ht : Keeps s₀ s → Keeps s₀ t) : Keeps s₀ (if c then s else t) :=
  .ite hs (ht hs)

theorem Keeps.ite_fst {α : Type} {c : Prop} {_ : Decidable c} {p q : State × α} (hp : Keeps s₀ p.1) (hq : Keeps s₀ q.1) :
    Keeps s₀ (if c then p else q).1 := by
  split
  · exact hp
  · exact hq

theorem Keeps.foldl {β : Type} {f : State → β → State} {l : List β} (h : Keeps s₀ s) (hf : ∀ s b, Keeps s₀ s → Keeps s₀ (f s b)) :
    Keeps s₀ (l.foldl f s) := by
  induction l generalizing s with
  | nil => exact h
  | cons b l ih => exact ih (hf s b h)

theorem Keeps.foldl_fst {α β : Type} {f : State × α → β → State × α} {l : List β} {p : State × α} (h : Keeps s₀ p.1)
    (hf : ∀ p b, Keeps s₀ p.1 → Keeps s₀ (f p b).1) : Keeps s₀ (l.foldl f p).1 := by
  induction l generalizing p with
  | nil => exact h
  | cons b l ih => exact ih (hf p b h)

theorem Keeps.of_fst {α : Type} {p : State × α} {x : α} (h : Keeps s₀ p.1) (e : p = (t, x)) : Keeps s₀ t := by
  subst e
  exact h

theorem Keeps.getD {o : Option State} (ho : ∀ t, o = some t → Keeps s₀ t) (h : Keeps s₀ s) : Keeps s₀ (o.getD s) := by
  cases o with
  | none => exact h
  | some t => exact ho t rfl

/-- A command completes, and what it leaves keeps what every operation keeps. -/
def Completes (s : State) (o : Host.Outcome State Fault Refusal) : Prop := ∃ t, o = .next t ∧ Keeps s t

theorem Completes.next (h : Keeps s s → Keeps s t) : Completes s (.next t) := ⟨t, rfl, h .refl⟩

theorem Completes.same : Completes s (.next s) := .next id

theorem Completes.ite {c : Prop} {_ : Decidable c} {o p : Host.Outcome State Fault Refusal} (ho : Completes s o) (hp : Completes s p) :
    Completes s (if c then o else p) := by
  split
  · exact ho
  · exact hp

/-! ### Register fields and memory -/

theorem Keeps.set {b v : Nat} {f : Fld} (h : Keeps s₀ s) : Keeps s₀ (s.set b f v) := by
  refine h.cells fun hc => ?_
  split
  · exact hc.assocDel
  · exact hc.assocSet

theorem Keeps.clearCells {p : Nat → Bool} (h : Keeps s₀ s) : Keeps s₀ (s.clearCells p) := h.cells (.filter _)

theorem Keeps.store {a : Nat} {l : List Byte} (h : Keeps s₀ s) : Keeps s₀ (s.store a l) :=
  h.sparse fun ⟨hm, hr⟩ => ⟨Memory.wf_store s a l hm, hr⟩

/-! ### Registers, records and answers -/

theorem Keeps.setB {base : Nat} {f : Fld} {b : Bool} (h : Keeps s₀ s) : Keeps s₀ (s.setB base f b) := h.set

theorem Keeps.setS {base : Nat} {f : Fld} {i : Int} (h : Keeps s₀ s) : Keeps s₀ (s.setS base f i) := h.set

theorem Keeps.count {base : Nat} {f : Fld} {n : Nat} (h : Keeps s₀ s) : Keeps s₀ (s.count base f n) := h.set

theorem Keeps.sets {base : Nat} {l : List (Fld × Nat)} (h : Keeps s₀ s) : Keeps s₀ (s.sets base l) := .foldl h fun _ _ ht => ht.set

theorem Keeps.putBuf {base : Nat} {f : Fld} {i : Nat} {l : List Byte} (h : Keeps s₀ s) : Keeps s₀ (s.putBuf base f i l) := by
  fun_induction State.putBuf s base f i l with
  | case1 s i _ _ _ _ _ _ _ _ _ ih => exact ih h.set
  | case2 => exact h
  | case3 => exact h.set

theorem Keeps.toggle {ev : Nat} (h : Keeps s₀ s) : Keeps s₀ (s.toggle ev) := .ite h h.frame

theorem Keeps.event {ev base : Nat} {f : Fld} (h : Keeps s₀ s) : Keeps s₀ (s.event ev base f) := .ite h h.set.toggle

theorem Keeps.eventIf {c : Bool} {ev base : Nat} {f : Fld} (h : Keeps s₀ s) : Keeps s₀ (s.eventIf c ev base f) := .ite h.event h

theorem Keeps.request {r : RecReq} (h : Keeps s₀ s) : Keeps s₀ (s.request r) := .ite (.ite h.count.event.frame h.frame) (.ite h.frame h)

theorem Keeps.record {code sev source : Nat} {data : List Byte} (h : Keeps s₀ s) : Keeps s₀ (s.record code sev source data) := h.request

theorem Keeps.recordBy {origin code sev source : Nat} {data : List Byte} (h : Keeps s₀ s)
    : Keeps s₀ (s.recordBy origin code sev source data) :=
  h.request

theorem Keeps.raise {code sev ev : Nat} {data : List Byte} (h : Keeps s₀ s) : Keeps s₀ (s.raise code sev ev data) := h.toggle.record

theorem Keeps.accessEvent {code : Nat} {m : Master} {addr : Nat} (h : Keeps s₀ s) : Keeps s₀ (s.accessEvent code m addr) := h.record

theorem Keeps.answer {how : Done} {val : Nat} (h : Keeps s₀ s) : Keeps s₀ (s.answer how val) := h.frame

theorem Keeps.violation {m : Master} {addr : Nat} (h : Keeps s₀ s) : Keeps s₀ (s.violation m addr) := h.accessEvent.answer

theorem Keeps.relock {isl code : Nat} (h : Keeps s₀ s) : Keeps s₀ (s.relock isl code) := h.set.set

theorem Keeps.msix {v : Nat} (h : Keeps s₀ s) : Keeps s₀ (s.msix v) := .ite h.frame h

theorem Keeps.drawn {n : Nat} (h : Keeps s₀ s) : Keeps s₀ (s.drawn n) := h.frame

theorem Keeps.fresh (h : Keeps s₀ s) : Keeps s₀ s.fresh := h.frame

/-! ### The event router and the recorder -/

theorem Keeps.setPend {t n : Nat} (h : Keeps s₀ s) : Keeps s₀ (s.setPend t n) := h.set

theorem Keeps.pendAll {n tg k : Nat} (h : Keeps s₀ s) : Keeps s₀ (s.pendAll n tg k) := by
  induction k with
  | zero => exact h
  | succ k ih => exact .ite ih.setPend ih

theorem Keeps.route {n : Nat} (h : Keeps s₀ s) : Keeps s₀ (s.route n) := h.count.pendAll.frame

theorem execEventPulse_completes {ev : Nat} : Completes s (execEventPulse ev s) := .ite (.next fun h => h.frame.route) .same

theorem Keeps.actWrite {m : Master} {ok : Bool} {d : Dom} {addr : Nat} {f : State → State} (h : Keeps s₀ s)
    (hf : ∀ t, Keeps s₀ t → Keeps s₀ (f t)) : Keeps s₀ (s.actWrite m ok d addr f) :=
  .ite (.ite h.event.answer h.violation) (.ite h.accessEvent.answer (.answer (hf _ h)))

theorem Keeps.tileWrite {m : Master} {pos lane off : Nat} {f : State → State} (h : Keeps s₀ s) (hf : ∀ t, Keeps s₀ t → Keeps s₀ (f t))
    : Keeps s₀ (s.tileWrite m pos lane off f) :=
  h.actWrite fun _ ht => .ite (hf _ ht) ht

theorem Keeps.swPulse {n : Nat} (h : Keeps s₀ s) : Keeps s₀ (s.swPulse n) := h.toggle

theorem execSwRaise_completes {m : Master} {n : Nat} : Completes s (execSwRaise m n s) := .next fun h => h.actWrite fun _ ht => ht.swPulse

theorem Keeps.setBucket {c v : Nat} (h : Keeps s₀ s) : Keeps s₀ (s.setBucket c v) := h.frame

theorem Keeps.keepBucket {c v : Nat} (h : Keeps s₀ s) : Keeps s₀ (s.keepBucket c v) := .ite h.frame h.setBucket

theorem Keeps.refill (h : Keeps s₀ s) : Keeps s₀ s.refill := .ite h h.frame

theorem Keeps.lose {f : Fld} (h : Keeps s₀ s) : Keeps s₀ (s.lose f) := h.count.event.frame

theorem Keeps.placeRec {s t : State} {q : RecReq} {suppr : Nat} (h : Keeps s₀ s) (e : s.placeRec q suppr = some t) : Keeps s₀ t := by
  unfold State.placeRec at e
  extract_lets put at e
  have hput : ∀ t, Keeps s₀ t → Keeps s₀ (put t) := fun _ ht => ht.frame
  split at e
  · cases e
    exact hput _ h
  split at e
  · cases e
  · cases e
    exact hput _ (.ite h.frame.lose h.frame)

theorem Keeps.flushAfter {sev : Nat} (h : Keeps s₀ s) : Keeps s₀ (s.flushAfter sev) := .ite h.frame (.ite h.frame h)

theorem Keeps.lossRecord (h : Keeps s₀ s) : Keeps s₀ s.lossRecord := .ite (.getD (fun _ e => h.placeRec e) h) h

theorem Keeps.admitPlace {q : RecReq} (h : Keeps s₀ s) : Keeps s₀ (s.admitPlace q).1 := by
  unfold State.admitPlace
  refine .ite_fst h.lose ?_
  refine .ite_fst h.lose ?_
  dsimp only
  split
  · exact h.lossRecord.lose
  · next e => exact .flushAfter (.set (h.lossRecord.placeRec e))

theorem Keeps.takeReq {q : RecReq} (h : Keeps s₀ s) : Keeps s₀ (s.takeReq q).1 := .ite_fst h.refill.count h.refill.setBucket.admitPlace

theorem Keeps.admitNext (h : Keeps s₀ s) : Keeps s₀ s.admitNext := by
  unfold State.admitNext
  split
  · exact h
  · next q t _ =>
    suffices key : ∀ r : State × Nat, Keeps s₀ r.1 →
        Keeps s₀ (match q.sw with | some k => r.1.set (rcSw k) Rg.RC_SW_GO.STATUS r.2 | none => r.1) from
      key _ (.takeReq h.frame)
    intro r hr
    split
    · exact hr.set
    · exact hr

theorem Keeps.admitAll {n : Nat} (h : Keeps s₀ s) : Keeps s₀ (State.admitAll n s) := by
  induction n generalizing s with
  | zero => exact h
  | succ n ih => exact ih h.admitNext

theorem execRecordRequest_completes : Completes s (execRecordRequest s) := .ite (.next fun h => h.admitNext) .same

theorem Keeps.swGo {k : Nat} (h : Keeps s₀ s) : Keeps s₀ (s.swGo k) := .ite h.set (.ite h.lose.set h.frame)

theorem execRecordGo_completes {m : Master} {k : Nat} : Completes s (execRecordGo m k s) := .next fun h => h.actWrite fun _ ht => ht.swGo

theorem execBucketRefill_completes : Completes s (execBucketRefill s) := .ite (.next fun h => h.refill) .same

theorem Keeps.ackTo {seq : Nat} (h : Keeps s₀ s) : Keeps s₀ (s.ackTo seq) := h.frame

theorem execRecordAck_completes {m : Master} {seq : Nat} : Completes s (execRecordAck m seq s) :=
  .next fun h => h.actWrite fun _ ht => ht.ackTo

theorem execRecordSelect_completes {m : Master} {seq : Nat} : Completes s (execRecordSelect m seq s) :=
  .next fun h => h.actWrite fun _ ht => ht.set

theorem Keeps.startFlush (h : Keeps s₀ s) : Keeps s₀ s.startFlush := .ite h.frame h

theorem execFlushCmd_completes {m : Master} : Completes s (execFlushCmd m s) := .next fun h => h.actWrite fun _ ht => ht.startFlush

theorem execFlushStart_completes : Completes s (execFlushStart s) := .ite (.next fun h => h.startFlush) .same

theorem Keeps.startEmergency (h : Keeps s₀ s) : Keeps s₀ s.startEmergency := .ite h.frame h

theorem execEmergencyFlush_completes : Completes s (execEmergencyFlush s) := .ite (.next fun h => h.startEmergency) .same

theorem execFlushWriteDone_completes {ok : Bool} : Completes s (execFlushWriteDone ok s) :=
  .ite .same (.ite (.next fun h => h.frame) (.next fun h => h.event.toggle.frame))

theorem execPfailAssert_completes : Completes s (execPfailAssert s) :=
  .ite (.next fun h => h.setB.set.startEmergency.frame.takeReq) (.next fun h => h.setB)

theorem execPfailDeassert_completes : Completes s (execPfailDeassert s) := .next fun h => h.setB.frame

theorem execPfFlushDone_completes : Completes s (execPfFlushDone s) := .ite (.next fun h => h.set.event.frame) .same

theorem execRingEraseDone_completes {ok : Bool} : Completes s (execRingEraseDone ok s) :=
  .ite .same (.ite (.next fun h => h.frame) (.next fun h => h.event.toggle.frame))

/-! ### Memory, poison and the memory code -/

theorem Keeps.memCE {w : Nat} (h : Keeps s₀ s) : Keeps s₀ (s.memCE w) := by
  unfold State.memCE
  extract_lets +onlyGivenNames a s1
  have hs1 : Keeps s₀ s1 := by
    unfold s1
    split
    · exact h.count.sets.event
    · exact h.count.set.event
  exact hs1.record

theorem Keeps.memUE {w : Nat} (h : Keeps s₀ s) : Keeps s₀ (s.memUE w) := by
  unfold State.memUE
  extract_lets +onlyGivenNames a s1
  have hs1 : Keeps s₀ s1 := by
    unfold s1
    split
    · exact h.count.sets.event
    · exact h.count.set.event
  exact hs1.record

theorem Keeps.setPoison {w : Nat} (h : Keeps s₀ s) : Keeps s₀ (s.setPoison w) :=
  h.sparse fun ⟨hm, hc, hp, hf, hk⟩ => ⟨hm, hc, hp.assocSet, hf.assocDel, hk⟩

theorem Keeps.clean {w : Nat} (h : Keeps s₀ s) : Keeps s₀ (s.clean w) :=
  h.sparse fun ⟨hm, hc, hp, hf, hk⟩ => ⟨hm, hc, hp.assocDel, hf.assocDel, hk⟩

theorem Keeps.readWord {w : Nat} (h : Keeps s₀ s) : Keeps s₀ (s.readWord w).1 := by
  unfold State.readWord
  refine .ite_fst h.setPoison.memUE (.ite_fst ?_ (.ite_fst h (.ite ?_ h.memCE)))
  · dsimp only
    split
    · exact h.count
    · exact h
  · exact h.memCE.sparse fun ⟨hm, hc, hp, hf, hk⟩ => ⟨hm, hc, hp, hf.assocDel, hk⟩

theorem Keeps.readWords {n w : Nat} (h : Keeps s₀ s) : Keeps s₀ (readWords n w s).1 := by
  induction n generalizing w s with
  | zero => exact h
  | succ n ih => exact ih h.readWord

theorem Keeps.memRead {a n : Nat} (h : Keeps s₀ s) : Keeps s₀ (s.memRead a n).1 := h.readWords

theorem Keeps.inject {w : Nat} (h : Keeps s₀ s) : Keeps s₀ (s.inject w) := by
  unfold State.inject
  refine .ite ?_ h
  extract_lets t u
  have ht : Keeps s₀ t := h.set
  have hu : Keeps s₀ u := .ite ht (ht.sparse fun ⟨hm, hc, hp, hf, hk⟩ => ⟨hm, hc, hp, hf.assocSet, hk⟩)
  exact .ite (hu.sparse fun ⟨hm, hc, hp, hf, hk⟩ => ⟨hm, hc, hp.assocSet, hf, hk⟩) hu

theorem Keeps.writeWord {a : Nat} {l : List Byte} (h : Keeps s₀ s) : Keeps s₀ (s.writeWord a l).1 :=
  .ite_fst h.clean.store.inject (.ite_fst h.readWord.clean.store h.readWord)

theorem Keeps.memWriteN {n a : Nat} {l : List Byte} (h : Keeps s₀ s) : Keeps s₀ (memWriteN n a l s).1 := by
  induction n generalizing a l s with
  | zero => exact h
  | succ n ih =>
    cases l with
    | nil => exact h
    | cons b l => exact ih h.writeWord

theorem Keeps.memWrite {a : Nat} {l : List Byte} (h : Keeps s₀ s) : Keeps s₀ (s.memWrite a l).1 := h.memWriteN

theorem Keeps.poisonWords {n w : Nat} (h : Keeps s₀ s) : Keeps s₀ (poisonWords n w s) := by
  induction n generalizing w s with
  | zero => exact h
  | succ n ih => exact ih h.setPoison

theorem Keeps.memPoison {a : Nat} {l : List Byte} (h : Keeps s₀ s) : Keeps s₀ (s.memPoison a l) := h.store.poisonWords

theorem Keeps.poisonDrop {pos a : Nat} (h : Keeps s₀ s) : Keeps s₀ (s.poisonDrop pos a) := h.record

theorem Keeps.upset {l : List (Nat × Nat)} (h : Keeps s₀ s) : Keeps s₀ (s.upset l) := by
  refine h.sparse fun ⟨hm, hc, hp, hf, hk⟩ => ⟨hm, hc, hp, Rising.foldl (fun f p hl => ?_) l hf, hk⟩
  split
  · exact hl
  · exact hl.assocSet

theorem execDdrScrubLine_completes {ups : List (Nat × Nat)} : Completes s (execDdrScrubLine ups s) :=
  .ite (.ite (.next fun h => h.frame.upset.readWords.sets.event) (.next fun h => h.frame.upset.readWords.set)) .same

theorem execStageScrub_completes {n bitsBad : Nat} : Completes s (execStageScrub n bitsBad s) :=
  .ite (.next fun h => h.frame.upset.readWord) .same

theorem Keeps.scrubShift {off : Int} (h : Keeps s₀ s) : Keeps s₀ (s.scrubShift off) := h.frame

theorem Keeps.armInject {v : Nat} (h : Keeps s₀ s) : Keeps s₀ (s.armInject v) := h.sets

theorem execDdrInject_completes {m : Master} {v : Nat} : Completes s (execDdrInject m v s) :=
  .next fun h => h.actWrite fun _ ht => ht.armInject

theorem Keeps.loseHalf {k : Nat} (h : Keeps s₀ s) : Keeps s₀ (s.loseHalf k) :=
  h.sparse fun ⟨hm, hc, hp, hf, hk⟩ => ⟨Memory.wf_filter _ _ hm, hc, hp.filter _, hf.filter _, hk⟩

theorem Keeps.loseDdr (h : Keeps s₀ s) : Keeps s₀ s.loseDdr :=
  h.sparse fun ⟨hm, hc, hp, hf, hk⟩ => ⟨Memory.wf_filter _ _ hm, hc, hp.filter _, hf.filter _, hk⟩

/-! ### The dispatcher -/

theorem Keeps.busyPool {part : Nat} (h : Keeps s₀ s) : Keeps s₀ (s.busyPool part) := h.event

theorem Keeps.lowMark {before : Disp} {part : Nat} (h : Keeps s₀ s) : Keeps s₀ (s.lowMark before part) := .ite h.event h

theorem Keeps.create {s t : State} {part flow prio tag x : Nat} {hold : Bool} {owner : Option Nat} {item : Option (Nat × List Nat)}
    (h : Keeps s₀ s) (e : s.create part flow prio tag hold owner item = some (t, x)) : Keeps s₀ t := by
  unfold State.create at e
  split at e
  · cases e
  · cases e
    exact h.frame.lowMark

theorem Keeps.doSubmit {p : Nat} (h : Keeps s₀ s) : Keeps s₀ (s.doSubmit p).1 := by
  unfold State.doSubmit
  dsimp only
  refine .ite_fst h ?_
  refine .ite_fst h ?_
  split
  · exact h.busyPool
  · next e => exact h.create e

theorem Keeps.doAddDep {n pred : Nat} (h : Keeps s₀ s) : Keeps s₀ (s.doAddDep n pred).1 := by
  unfold State.doAddDep
  split
  · exact h
  · refine .ite_fst h ?_
    refine .ite_fst h.busyPool ?_
    split
    · exact h
    · exact .ite_fst h (.ite_fst h.busyPool h.frame.lowMark)

theorem Keeps.doRelease {n : Nat} (h : Keeps s₀ s) : Keeps s₀ (s.doRelease n).1 := by
  unfold State.doRelease
  split
  · exact h
  · exact .ite_fst h h.frame

theorem Keeps.freeSlot {id slot : Nat} (h : Keeps s₀ s) : Keeps s₀ (s.freeSlot id slot) := h.frame

theorem Keeps.freeRing {e : Entry} (h : Keeps s₀ s) : Keeps s₀ (s.freeRing e) := by
  unfold State.freeRing
  split
  · exact h
  · exact h.freeSlot

theorem Keeps.setAln {a : Align} (h : Keeps s₀ s) : Keeps s₀ (s.setAln a) := h.frame

theorem Keeps.setConc {c : Conc} (h : Keeps s₀ s) : Keeps s₀ (s.setConc c) := h.setAln

theorem Keeps.showFree {n : Nat} (h : Keeps s₀ s) : Keeps s₀ (s.showFree n) := by
  unfold State.showFree
  split
  · exact h
  · exact h.set

theorem Keeps.slotRelease {n slot : Nat} (h : Keeps s₀ s) : Keeps s₀ (s.slotRelease n slot) := by
  unfold State.slotRelease
  split
  · exact h
  · exact .ite h (.ite h.setConc.showFree h.setConc)

theorem Keeps.freeBucket {e : Entry} (h : Keeps s₀ s) : Keeps s₀ (s.freeBucket e) := by
  unfold State.freeBucket
  split
  · exact h.slotRelease
  · exact h

theorem Keeps.hwSubmit {flow prio tag : Nat} {item : Option (Nat × List Nat)} (h : Keeps s₀ s)
    : Keeps s₀ (s.hwSubmit flow prio tag item) := by
  unfold State.hwSubmit
  refine .ite h ?_
  extract_lets +onlyGivenNames part
  split
  · exact h.busyPool.frame
  · next e => exact h.create e

theorem Keeps.hwRetry (h : Keeps s₀ s) : Keeps s₀ s.hwRetry := by
  unfold State.hwRetry
  split
  · exact h
  · exact h.frame.hwSubmit

theorem Keeps.doCancel {n : Nat} {rel same : Bool} (h : Keeps s₀ s) : Keeps s₀ (s.doCancel n rel same).1 := by
  unfold State.doCancel
  split
  · exact h
  · exact .ite_fst h h.frame.freeRing.eventIf.hwRetry

theorem Keeps.doComplete {p n : Nat} (h : Keeps s₀ s) : Keeps s₀ (s.doComplete p n).1 := by
  unfold State.doComplete
  split
  · exact h
  · exact .ite_fst h (.ite_fst h h.frame.freeRing.freeBucket.hwRetry)

theorem Keeps.doTake {p : Nat} (h : Keeps s₀ s) : Keeps s₀ (s.doTake p).1 := h.frame

theorem Keeps.portOp {m : Master} {p : Nat} {f : State → State × Nat × Option Nat} (h : Keeps s₀ s)
    (hf : ∀ t, Keeps s₀ t → Keeps s₀ (f t).1) : Keeps s₀ (s.portOp m p f) :=
  h.actWrite fun _ ht => .ite ht (.frame (.set (.eventIf (.eventIf (hf _ ht)))))

theorem execSubmit_completes {m : Master} {port : Nat} : Completes s (execSubmit m port s) :=
  .next fun h => h.portOp fun _ ht => ht.doSubmit

theorem execAddDep_completes {m : Master} {port handle pred : Nat} : Completes s (execAddDep m port handle pred s) :=
  .next fun h => h.portOp fun _ ht => ht.doAddDep

theorem execRelease_completes {m : Master} {port handle : Nat} : Completes s (execRelease m port handle s) :=
  .next fun h => h.portOp fun _ ht => ht.doRelease

theorem execCancel_completes {m : Master} {port handle : Nat} {relDeps sameCycle : Bool}
    : Completes s (execCancel m port handle relDeps sameCycle s) :=
  .next fun h => h.portOp fun _ ht => ht.doCancel

theorem execComplete_completes {m : Master} {port handle : Nat} : Completes s (execComplete m port handle s) :=
  .next fun h => h.portOp fun _ ht => ht.doComplete

theorem execTake_completes {m : Master} {port : Nat} : Completes s (execTake m port s) := .next fun h => h.portOp fun _ ht => ht.doTake

theorem execBadOp_completes {m : Master} {port op : Nat} : Completes s (execBadOp m port op s) :=
  .ite (.next fun h => h.portOp (fun _ ht => ht)) .same

theorem Keeps.portOpWrite {m : Master} {p v : Nat} (h : Keeps s₀ s) : Keeps s₀ (s.portOpWrite m p v) := by
  unfold State.portOpWrite
  extract_lets +onlyGivenNames x
  split
  · exact h.portOp fun _ ht => ht.doSubmit
  · exact h.portOp fun _ ht => ht.doAddDep
  · exact h.portOp fun _ ht => ht.doRelease
  · exact h.portOp fun _ ht => ht.doCancel
  · exact h.portOp fun _ ht => ht.doComplete
  · exact h.portOp fun _ ht => ht.doTake
  · exact h.portOp fun _ ht => ht

theorem execPortOpDone_completes {port : Nat} : Completes s (execPortOpDone port s) := by
  unfold execPortOpDone
  split
  · exact .same
  · refine .next fun h => ?_
    split
    · exact h.frame.set.set
    · exact h.frame.set

theorem execHwSubmit_completes {flow prio tag : Nat} : Completes s (execHwSubmit flow prio tag s) := .next fun h => h.hwSubmit

theorem Keeps.tileDone {n : Nat} (h : Keeps s₀ s) : Keeps s₀ (s.tileDone n) := by
  unfold State.tileDone
  split
  · exact .ite h.frame.freeRing.hwRetry h
  · exact h

theorem execTileComplete_completes {handle : Nat} : Completes s (execTileComplete handle s) := .next fun h => h.tileDone

theorem execSuccessorDecrement_completes : Completes s (execSuccessorDecrement s) := .next fun h => h.frame

theorem Keeps.flowData {v : Nat} (h : Keeps s₀ s) : Keeps s₀ (s.flowData v) := .ite h.event h.frame

theorem execFlowDataWrite_completes {m : Master} {v : Nat} : Completes s (execFlowDataWrite m v s) :=
  .next fun h => h.actWrite fun _ ht => ht.flowData

/-! ### Islands and queues -/

theorem Keeps.freqWrite {isl code : Nat} (h : Keeps s₀ s) : Keeps s₀ (s.freqWrite isl code) := .ite h (.ite h.relock h.event)

theorem execIslClkWrite_completes {m : Master} {isl v : Nat} : Completes s (execIslClkWrite m isl v s) :=
  .next fun h => h.actWrite fun _ ht => ht.freqWrite

theorem execClockRelockDone_completes {isl : Nat} : Completes s (execClockRelockDone isl s) := .ite (.next fun h => h.set) .same

theorem Keeps.setLink {l : Link} (h : Keeps s₀ s) : Keeps s₀ (s.setLink l) := h.frame

theorem Keeps.trySend {s t : State} {l : Link} {p : PktHead} {data : List Nat} (h : Keeps s₀ s) (e : s.trySend l p data = some t)
    : Keeps s₀ t := by
  unfold State.trySend at e
  dsimp only at e
  split at e
  · cases e
    exact h.setLink
  · cases e

theorem execPacketSend_completes {link : Nat} {n : PktHead} {data : List Nat} : Completes s (execPacketSend link n data s) := by
  unfold execPacketSend
  split
  · exact .same
  · next e => exact .next fun h => .getD (fun _ e => h.trySend e) h

theorem Keeps.sendItem {s t : State} {src dst typ flow prio lane : Nat} {depCan : Bool} {data : List Nat} (h : Keeps s₀ s)
    (e : s.sendItem src dst typ flow prio lane depCan data = some t) : Keeps s₀ t := by
  unfold State.sendItem at e
  split at e
  · cases e
  · exact h.trySend e

theorem Keeps.drainLink {src dst n : Nat} (h : Keeps s₀ s) : Keeps s₀ (drainLink src dst n s) := by
  induction n generalizing s with
  | zero => exact h
  | succ n ih =>
    unfold Machine.drainLink
    split
    · exact h
    · split
      · exact h
      · next e => exact ih (h.sendItem e).frame

theorem Keeps.emitDep {src dst typ flow prio lane : Nat} {depCan : Bool} {data : List Nat} (h : Keeps s₀ s)
    : Keeps s₀ (s.emitDep src dst typ flow prio lane depCan data) := by
  unfold State.emitDep
  split
  · exact h
  · exact h.frame.drainLink

theorem Keeps.emit {src dst typ flow prio lane : Nat} {data : List Nat} (h : Keeps s₀ s)
    : Keeps s₀ (s.emit src dst typ flow prio lane data) :=
  h.emitDep

theorem Keeps.sendMask {pos mask typ : Nat} {data : List Nat} (h : Keeps s₀ s) : Keeps s₀ (s.sendMask pos mask typ data).1 := by
  unfold State.sendMask
  refine .foldl_fst h fun t _ ht => ?_
  split
  · exact ht
  · refine .ite_fst ht ?_
    split
    · exact ht
    · split
      · next e => exact ht.trySend e
      · exact ht

theorem Keeps.takeSlot {s t : State} {src dst k : Nat} (h : Keeps s₀ s) (e : s.takeSlot src dst = some (t, k)) : Keeps s₀ t := by
  unfold State.takeSlot at e
  split at e
  · cases e
  · split at e
    · cases e
    · cases e
      exact h.setLink

theorem Keeps.freeItem {p : Nat × QPkt} (h : Keeps s₀ s) : Keeps s₀ (s.freeItem p) := by
  unfold State.freeItem
  split
  · exact h.freeSlot
  · exact h

theorem Keeps.pulled {pos typ : Nat} (h : Keeps s₀ s) : Keeps s₀ (s.pulled pos typ) := by
  unfold State.pulled
  split
  · exact h.frame
  · exact h

theorem Keeps.taken {pos typ : Nat} (h : Keeps s₀ s) : Keeps s₀ (s.taken pos typ) := by
  unfold State.taken
  split
  · exact h.frame.freeItem
  · exact h

theorem Keeps.dispatchItem {l : Link} {q : QPkt} {n : Nat} (h : Keeps s₀ s) : Keeps s₀ (s.dispatchItem l q n) := by
  unfold State.dispatchItem
  extract_lets +onlyGivenNames f
  refine .ite h.setLink.freeItem ?_
  extract_lets +onlyGivenNames part
  split
  · exact h.busyPool
  · next e =>
      extract_lets +onlyGivenNames t1
      have ht1 : Keeps s₀ t1 := .setLink (h.create e)
      split
      · exact ht1.frame
      · exact ht1

theorem Keeps.keep {l : Link} {q : QPkt} (h : Keeps s₀ s) : Keeps s₀ (s.keep l q) := .ite h.freeItem.frame (.ite h.frame h.freeItem)

theorem Keeps.collect {pos : Nat} (h : Keeps s₀ s) : Keeps s₀ (s.collect pos).1 := h.frame

theorem execPacketArrive_completes {link : Nat} {upset : Option (Nat × List Nat)} : Completes s (execPacketArrive link upset s) := by
  unfold execPacketArrive
  split
  · exact .same
  · split
    · exact .same
    · refine .ite .same (.ite ?_ (.ite ?_ (.ite ?_ ?_)))
      · exact .next fun h => h.setLink.freeItem.event
      · exact .next fun h => h.event
      · exact .next fun h => h.dispatchItem
      · exact .next fun h => h.setLink.keep

theorem Keeps.creditBack {link : Nat} (h : Keeps s₀ s) : Keeps s₀ (s.creditBack link) := by
  unfold State.creditBack
  split
  · exact h
  · exact .ite h.event h.setLink.drainLink

theorem Keeps.resetLink {l : Link} (h : Keeps s₀ s) : Keeps s₀ (s.resetLink l) := h.setLink.count.event

theorem execLinkReset_completes {link : Nat} : Completes s (execLinkReset link s) := by
  unfold execLinkReset
  split
  · exact .same
  · exact .next fun h => h.resetLink

theorem execLinkResetDone_completes {link : Nat} : Completes s (execLinkResetDone link s) := by
  unfold execLinkResetDone
  split
  · exact .same
  · exact .ite (.next fun h => h.setLink) .same

theorem Keeps.linksDown {d : Dom} (h : Keeps s₀ s) : Keeps s₀ (s.linksDown d) := .frame (.foldl h fun _ _ ht => ht.resetLink)

theorem Keeps.serve {e : Entry} (h : Keeps s₀ s) : Keeps s₀ (s.serve e) := .ite (.ite h.frame.toggle h.frame) h.frame.emitDep

theorem execDispatch_completes {stalled : List Nat} : Completes s (execDispatch stalled s) := by
  unfold execDispatch
  refine .ite .same ?_
  split
  · exact .same
  · exact .next fun h => h.serve

/-! ### The time core -/

theorem Keeps.wrapEra (h : Keeps s₀ s) : Keeps s₀ s.wrapEra := .ite h.frame.frame.set h.frame.event.raise

theorem Keeps.applyStep {a : StepArm} (h : Keeps s₀ s) : Keeps s₀ (s.applyStep a) := h.frame.sets.event.raise

theorem Keeps.takeLeap (h : Keeps s₀ s) : Keeps s₀ s.takeLeap := .ite h.frame.set.event h

theorem Keeps.second (h : Keeps s₀ s) : Keeps s₀ s.second := by
  unfold State.second
  extract_lets +onlyGivenNames sec pps s1 s2
  have hs2 : Keeps s₀ s2 := h.frame
  extract_lets +onlyGivenNames s3
  have hs3 : Keeps s₀ s3 := hs2.takeLeap
  split
  · exact .ite hs3.applyStep hs3
  · exact hs3

theorem Keeps.addEdges {n : Nat} (h : Keeps s₀ s) : Keeps s₀ (s.addEdges n) :=
  .when (.when (.when h.frame fun h => h.takeLeap) fun h => h.wrapEra) fun h => h.second

theorem Keeps.takeInc {v : Nat} (h : Keeps s₀ s) : Keeps s₀ (s.takeInc v) := .ite h.set h.event

theorem Keeps.incWrite {v : Nat} (h : Keeps s₀ s) : Keeps s₀ (s.incWrite v) := .ite h.event h.takeInc

theorem Keeps.eraNextWrite {v : Nat} (h : Keeps s₀ s) : Keeps s₀ (s.eraNextWrite v) := .ite h.event h.set.set

theorem Keeps.adjWrite {v : Nat} (h : Keeps s₀ s) : Keeps s₀ (s.adjWrite v) := .frame (.ite h h.event)

theorem Keeps.stepCancelOp {abs : Bool} (h : Keeps s₀ s) : Keeps s₀ (s.stepCancelOp abs) := h.setB.sets.frame

theorem Keeps.stepGo {abs : Bool} (h : Keeps s₀ s) : Keeps s₀ (s.stepGo abs) := .ite h.setB.sets.frame h.setB.set.event

theorem Keeps.terrW {v : Nat} (h : Keeps s₀ s) : Keeps s₀ (s.terrW v) := .ite (.ite h.frame h) h.frame

theorem Keeps.terrStep (h : Keeps s₀ s) : Keeps s₀ s.terrStep := .ite h.count.frame h

theorem Keeps.setTimeState {c : Nat} (h : Keeps s₀ s) : Keeps s₀ (s.setTimeState c) := .ite h (.ite h.set.set.frame h.set.set)

theorem Keeps.ctrlWrite {v : Nat} (h : Keeps s₀ s) : Keeps s₀ (s.ctrlWrite v) := h.set.set.setTimeState

theorem Keeps.refLost (h : Keeps s₀ s) : Keeps s₀ s.refLost := h.setTimeState.sets.frame.event.raise

theorem Keeps.select {src : Nat} (h : Keeps s₀ s) : Keeps s₀ (s.select src) := by
  unfold State.select
  extract_lets +onlyGivenNames t t1
  have ht1 : Keeps s₀ t1 := h.frame
  split
  · exact ht1.setTimeState
  · exact ht1.setTimeState
  · exact ht1

theorem Keeps.reselect (h : Keeps s₀ s) : Keeps s₀ s.reselect := .ite h (.ite (.ite h h.select) (.ite h.select h))

theorem Keeps.holdRate {rate : Nat} (h : Keeps s₀ s) : Keeps s₀ (s.holdRate rate) := .ite h.set h

theorem Keeps.srcValid {src rate : Nat} (h : Keeps s₀ s) : Keeps s₀ (s.srcValid src rate) :=
  .ite h (.reselect (.ite h.frame.holdRate h.frame))

theorem Keeps.srcLost {src rate : Nat} (h : Keeps s₀ s) : Keeps s₀ (s.srcLost src rate) :=
  .ite h (.ite h.frame (.ite h.frame.select (.holdRate (.ite h.frame.frame h.frame.frame.setTimeState))))

theorem Keeps.ppsStamp {at_ : Nat} (h : Keeps s₀ s) : Keeps s₀ (s.ppsStamp at_) := h.frame

theorem Keeps.fly {x : Stamp} (h : Keeps s₀ s) : Keeps s₀ (s.fly x) := h.frame

theorem Keeps.tdc {ch : Nat} {falling : Bool} {stamp sub : Nat} (h : Keeps s₀ s) : Keeps s₀ (s.tdc ch falling stamp sub) := by
  unfold State.tdc
  extract_lets +onlyGivenNames b
  refine .unless h fun h => ?_
  extract_lets +onlyGivenNames e at_ _ t t1 t2 t3
  have ht : Keeps s₀ t := h.frame
  have ht3 : Keeps s₀ t3 := .event (.set (.set (.when ht fun h => h.set.event)))
  exact .ite ht (.ite ht.set.event (.ite ht3.ppsStamp ht3.fly))

theorem Keeps.deliver {pos : Nat} {x : Nat × Stamp} (h : Keeps s₀ s) : Keeps s₀ (s.deliver pos x) := h.frame

theorem Keeps.setPps {n : Nat} {o : PpsOut} (h : Keeps s₀ s) : Keeps s₀ (s.setPps n o) := h.frame

theorem Keeps.ppsRise {n : Nat} (h : Keeps s₀ s) : Keeps s₀ (s.ppsRise n) := .ite h.setPps h.setPps

theorem Keeps.measure {n : Nat} (h : Keeps s₀ s) : Keeps s₀ (s.measure n) := .ite h (.ite h.set h.set.setPps)

theorem Keeps.cable {n : Nat} {e : CableEcho} (h : Keeps s₀ s) : Keeps s₀ (s.cable n e) := h.setPps.sets.eventIf.eventIf

/-! ### The loop engine -/

theorem Keeps.setLoop {l : Nat} {a : LoopLane} (h : Keeps s₀ s) : Keeps s₀ (s.setLoop l a) := h.frame

theorem Keeps.loopEvent {l : Nat} {f : Fld} (h : Keeps s₀ s) : Keeps s₀ (s.loopEvent l f) := h.event

theorem Keeps.loopEventIf {c : Bool} {l : Nat} {f : Fld} (h : Keeps s₀ s) : Keeps s₀ (s.loopEventIf c l f) := .ite h.loopEvent h

theorem Keeps.word32 {a : Nat} (h : Keeps s₀ s) : Keeps s₀ (s.word32 a).1 := by
  unfold State.word32
  dsimp only
  split
  · exact h.memRead
  · exact h.memRead

theorem Keeps.readTable {l : List Nat} (h : Keeps s₀ s) : Keeps s₀ (readTable l s).1 := by
  induction l generalizing s with
  | nil => exact h
  | cons a l ih => exact ih h.word32

theorem Keeps.look2 {base az : Nat} {el : Int} (h : Keeps s₀ s) : Keeps s₀ (s.look2 base az el).1 := h.readTable

theorem Keeps.look1 {base count step : Nat} {x0 x : Int} (h : Keeps s₀ s) : Keeps s₀ (s.look1 base count step x0 x).1 :=
  .ite_fst h.readTable (.ite_fst h.readTable h.readTable)

theorem Keeps.lookAt {l az : Nat} {el x : Int} (h : Keeps s₀ s) : Keeps s₀ (s.lookAt l az el x).1 := by
  unfold State.lookAt
  dsimp only
  split
  · exact h
  · exact .ite_fst h.look1 h.look2

theorem Keeps.tableFF {l : Nat} {pv : Int} (h : Keeps s₀ s) : Keeps s₀ (s.tableFF l pv).1 := .ite_fst h.lookAt h

theorem Keeps.rcFF {l : Nat} (h : Keeps s₀ s) : Keeps s₀ (s.rcFF l).1 := .ite_fst h.word32 h

theorem Keeps.rcLearn {l : Nat} {e : Int} (h : Keeps s₀ s) : Keeps s₀ (s.rcLearn l e) := h.word32.memWrite.loopEventIf

theorem Keeps.rcNext {l : Nat} (h : Keeps s₀ s) : Keeps s₀ (s.rcNext l) := .ite h.set.count h.set

theorem Keeps.loopStart {l : Nat} (h : Keeps s₀ s) : Keeps s₀ (s.loopStart l) := .ite h.setLoop.sets h.set.loopEvent

theorem Keeps.loopStop {l : Nat} (h : Keeps s₀ s) : Keeps s₀ (s.loopStop l) := h.sets.setLoop

theorem Keeps.rcClear {l : Nat} (h : Keeps s₀ s) : Keeps s₀ (s.rcClear l) := h.set

theorem Keeps.loopCtl {l : Nat} {auto freeze : Bool} (h : Keeps s₀ s) : Keeps s₀ (s.loopCtl l auto freeze) := h.setB.setB

theorem Keeps.loopEnWrite {l : Nat} {auto freeze : Bool} (h : Keeps s₀ s) : Keeps s₀ (s.loopEnWrite l auto freeze) :=
  .ite h.loopCtl h.loopCtl.loopStart

theorem Keeps.loopDisWrite {l : Nat} {auto freeze : Bool} (h : Keeps s₀ s) : Keeps s₀ (s.loopDisWrite l auto freeze) := h.loopCtl.loopStop

theorem Keeps.loopCtrlWrite {l v : Nat} (h : Keeps s₀ s) : Keeps s₀ (s.loopCtrlWrite l v) :=
  .ite (.rcClear (.ite h.loopEnWrite h.loopDisWrite)) (.ite h.loopEnWrite h.loopDisWrite)

theorem Keeps.loopWrite {m : Master} {l off : Nat} {f : State → State} (h : Keeps s₀ s) (hf : ∀ t, Keeps s₀ t → Keeps s₀ (f t))
    : Keeps s₀ (s.loopWrite m l off f) :=
  h.actWrite fun _ ht => .ite (hf _ ht) ht

theorem execLoopEnable_completes {m : Master} {l : Nat} {auto freeze : Bool} : Completes s (execLoopEnable m l auto freeze s) :=
  .next fun h => h.loopWrite fun _ ht => ht.loopEnWrite

theorem execLoopDisable_completes {m : Master} {l : Nat} {auto freeze : Bool} : Completes s (execLoopDisable m l auto freeze s) :=
  .next fun h => h.loopWrite fun _ ht => ht.loopDisWrite

theorem execRcClear_completes {m : Master} {l : Nat} : Completes s (execRcClear m l s) :=
  .next fun h => h.loopWrite fun _ ht => ht.rcClear

theorem Keeps.zeroWords {n a : Nat} (h : Keeps s₀ s) : Keeps s₀ (zeroWords n a s) := by
  induction n generalizing a s with
  | zero => exact h
  | succ n ih => exact ih h.memWrite

theorem execRcClearDone_completes {l : Nat} : Completes s (execRcClearDone l s) := .ite (.next fun h => .sets (.ite h.zeroWords h)) .same

theorem Keeps.leaveHold {l : Nat} (h : Keeps s₀ s) : Keeps s₀ (s.leaveHold l) := .ite h.set.setLoop h

theorem Keeps.pvSample {l : Nat} (h : Keeps s₀ s) : Keeps s₀ (s.pvSample l) := h.setLoop.set.set.leaveHold

theorem Keeps.offer {code idx l : Nat} (h : Keeps s₀ s) : Keeps s₀ (s.offer code idx l) := .ite h.pvSample h

theorem Keeps.offerAll {code idx l n : Nat} (h : Keeps s₀ s) : Keeps s₀ (offerAll code idx l n s) := by
  induction n generalizing s with
  | zero => exact h
  | succ n ih => exact ih h.offer

theorem Keeps.sample {code idx : Nat} {v : Int} (h : Keeps s₀ s) : Keeps s₀ (s.sample code idx v) := h.frame.offerAll

theorem Keeps.tdcSample {x : Stamp} (h : Keeps s₀ s) : Keeps s₀ (s.tdcSample x) := h.sample

theorem Keeps.fastSample {ch : Nat} {code : Int} (h : Keeps s₀ s) : Keeps s₀ (s.fastSample ch code) := h.sample

theorem Keeps.fineSample {ch : Nat} {code : Int} (h : Keeps s₀ s) : Keeps s₀ (s.fineSample ch code) := h.sample

theorem Keeps.regSample {l : Nat} (h : Keeps s₀ s) : Keeps s₀ (s.regSample l) := .ite h.pvSample h

theorem Keeps.satTime {l : Nat} {auto sat : Bool} (h : Keeps s₀ s) : Keeps s₀ (s.satTime l auto sat) := h.setLoop.sets

theorem Keeps.satClear {l : Nat} (h : Keeps s₀ s) : Keeps s₀ (s.satClear l) := h.setLoop.set

theorem Keeps.loopOut {l st : Nat} {a : LoopIn} {i u raw x : Int} (h : Keeps s₀ s) : Keeps s₀ (s.loopOut l st a i u raw x) := by
  unfold State.loopOut
  extract_lets +onlyGivenNames b s1
  have hs1 : Keeps s₀ s1 := h.sets
  extract_lets +onlyGivenNames s2
  have hs2 : Keeps s₀ s2 := .ite hs1.set hs1
  exact .offerAll (.setLoop (.ite (.rcNext (.ite hs2.satTime.rcLearn hs2.satTime)) (.ite hs2.satTime.rcLearn hs2.satTime)))

theorem Keeps.loopLaw {l : Nat} (h : Keeps s₀ s) : Keeps s₀ (s.loopLaw l) := by
  unfold State.loopLaw
  extract_lets +onlyGivenNames b c pv e x xp s1
  have hs1 : Keeps s₀ s1 := h.loopEventIf
  extract_lets +onlyGivenNames s2
  have hs2 : Keeps s₀ s2 := .ite hs1.set hs1.count
  extract_lets +onlyGivenNames n d tb rc s3
  have hs3 : Keeps s₀ s3 := hs2.tableFF.rcFF.loopEventIf
  split
  · exact hs3.poisonDrop.setLoop
  · extract_lets +onlyGivenNames a i
    split
    · exact .ite hs3.loopEventIf.loopOut hs3.loopOut
    · exact hs3.loopOut
    · exact hs3.loopOut

theorem execLoopUpdate_completes {l : Nat} : Completes s (execLoopUpdate l s) := .ite (.next fun h => h.loopLaw) .same

theorem Keeps.loopApply {tgt sel : Nat} {u : Int} (h : Keeps s₀ s) : Keeps s₀ (s.loopApply tgt sel u) := by
  unfold State.loopApply
  split
  · exact .ite h.set h
  · exact .ite h.takeInc h
  · exact .ite h.setS h.event
  · exact h

theorem execLoopOutputApply_completes {l : Nat} : Completes s (execLoopOutputApply l s) := by
  unfold execLoopOutputApply
  split
  · exact .same
  · exact .next fun h => h.loopApply.setLoop

theorem execLoopStaleTimeout_completes {l : Nat} : Completes s (execLoopStaleTimeout l s) :=
  .ite (.next fun h => h.satClear.sets.loopEvent) .same

theorem execLoopSatLimit_completes {l : Nat} : Completes s (execLoopSatLimit l s) := by
  unfold execLoopSatLimit
  extract_lets +onlyGivenNames b
  refine .ite ?_ .same
  extract_lets +onlyGivenNames t t1
  split
  · exact .next fun h => h.setLoop.loopEvent.satClear.sets
  · exact .next fun h => h.setLoop.loopEvent.loopStop
  · exact .next fun h => h.setLoop.loopEvent

theorem Keeps.loopSecond (h : Keeps s₀ s) : Keeps s₀ s.loopSecond := h.frame

theorem Keeps.loopRelabel {off : Int} (h : Keeps s₀ s) : Keeps s₀ (s.loopRelabel off) := h.frame

theorem Keeps.loopStepped {off : Int} (h : Keeps s₀ s) : Keeps s₀ (s.loopStepped off) := h.loopRelabel.frame

theorem Keeps.loopMode {new : Mode} (h : Keeps s₀ s) : Keeps s₀ (s.loopMode new) := .ite h (.ite h.satClear.sets (.ite h.set.leaveHold h))

theorem execLookupRequest_completes {inst : Nat} : Completes s (execLookupRequest inst s) := by
  unfold execLookupRequest
  extract_lets +onlyGivenNames pos
  split
  · exact .same
  · extract_lets +onlyGivenNames lane l w s1 send
    have hsend : ∀ t v clamp, Keeps s t → Keeps s (send t v clamp) := fun _ _ _ h => h.emit
    refine .ite ?_ (.next fun h => hsend _ _ _ h.taken)
    extract_lets +onlyGivenNames r
    split
    · exact .next fun h => h.taken.lookAt.poisonDrop
    · exact .next fun h => hsend _ _ _ h.taken.lookAt.loopEventIf

/-! ### Waveform inputs and the filter chain -/

theorem Keeps.setFl {c : Nat} {a : FiltLane} (h : Keeps s₀ s) : Keeps s₀ (s.setFl c a) := h.frame

theorem Keeps.flEvent {c : Nat} {f : Fld} (h : Keeps s₀ s) : Keeps s₀ (s.flEvent c f) := h.event

theorem Keeps.flEventIf {b : Bool} {c : Nat} {f : Fld} (h : Keeps s₀ s) : Keeps s₀ (s.flEventIf b c f) := .ite h.flEvent h

theorem Keeps.clkStart {k : Nat} (h : Keeps s₀ s) : Keeps s₀ (s.clkStart k) := h.frame

theorem Keeps.clkUpdate {k : Nat} (h : Keeps s₀ s) : Keeps s₀ (s.clkUpdate k) := .ite h (.ite h.set.clkStart h.set)

theorem Keeps.flGrid {c : Nat} (h : Keeps s₀ s) : Keeps s₀ (s.flGrid c) := h.setFl

theorem Keeps.settle {c e : Nat} (h : Keeps s₀ s) : Keeps s₀ (s.settle c e) := h.setFl.sets

theorem Keeps.flFault {c : Nat} (h : Keeps s₀ s) : Keeps s₀ (s.flFault c) := h.set

theorem Keeps.flFigures {c : Nat} (h : Keeps s₀ s) : Keeps s₀ (s.flFigures c) := h.sets

theorem Keeps.flEnable {c : Nat} (h : Keeps s₀ s) : Keeps s₀ (s.flEnable c) :=
  .ite h (.ite h.set.flEvent h.sets.clkUpdate.setFl.flFigures.flGrid.settle.flFault)

theorem Keeps.routeItem {c mask typ : Nat} {data : List Nat} (h : Keeps s₀ s) : Keeps s₀ (s.routeItem c mask typ data) :=
  .ite h.sendMask h.sendMask.count.flEvent

theorem Keeps.showThr {c : Nat} {e : ThrEv} (h : Keeps s₀ s) : Keeps s₀ (s.showThr c e) := h.set.flEvent.routeItem

theorem execThresholdChange_completes {c : Nat} : Completes s (execThresholdChange c s) := by
  unfold execThresholdChange
  split
  · exact .same
  · exact .next fun h => h.setFl.showThr

theorem Keeps.flDisable {c : Nat} (h : Keeps s₀ s) : Keeps s₀ (s.flDisable c) :=
  .clkUpdate (.setFl (.sets (.foldl h fun _ _ ht => ht.showThr)))

theorem Keeps.flWrite {m : Master} {c off : Nat} {f : State → State} (h : Keeps s₀ s) (hf : ∀ t, Keeps s₀ t → Keeps s₀ (f t))
    : Keeps s₀ (s.flWrite m c off f) :=
  h.tileWrite fun _ ht => hf _ ht

theorem execFiltEnable_completes {m : Master} {c : Nat} : Completes s (execFiltEnable m c s) :=
  .next fun h => h.flWrite fun _ ht => ht.flEnable

theorem Keeps.wvSet {n st : Nat} (h : Keeps s₀ s) : Keeps s₀ (s.wvSet n st) :=
  .ite h (.foldl (.ite h.set h.set.set.toggle) fun _ _ ht => .ite (.ite ht.set.settle ht.set) ht)

theorem execWvInputState_completes {n : Nat} {o : WvObs} : Completes s (execWvInputState n o s) := by
  unfold execWvInputState
  refine .ite ?_ .same
  extract_lets t
  have ht : Keeps s s → Keeps s t := by
    intro h
    unfold t
    split
    · exact h.set
    · exact h
  split
  · exact .next fun h => (ht h).wvSet
  · exact .next ht

theorem execMclkContend_completes {k wrong : Nat} : Completes s (execMclkContend k wrong s) :=
  .ite (.ite (.next fun h => .foldl h.set fun _ _ ht => .ite ht.wvSet ht) (.ite (.next fun h => h.set) .same)) .same

theorem Keeps.feedLane {c : Nat} (h : Keeps s₀ s) : Keeps s₀ (s.feedLane c) := h.setFl.count

theorem Keeps.srcApply {c : Nat} (h : Keeps s₀ s) : Keeps s₀ (s.srcApply c) := .ite h.setFl.settle.flFault.feedLane h

theorem execFiltSrcChange_completes {c : Nat} : Completes s (execFiltSrcChange c s) := .next fun h => h.srcApply

theorem execBitstreamItem_completes {inst : Nat} : Completes s (execBitstreamItem inst s) := by
  unfold execBitstreamItem
  extract_lets +onlyGivenNames pos
  split
  · exact .same
  · exact .ite (.next fun h => .foldl (.frame (.foldl h.frame fun _ _ ht => ht.srcApply)) fun _ _ ht => .ite ht.feedLane ht) .same

theorem Keeps.closeBatch {c : Nat} {fast : Bool} (h : Keeps s₀ s) : Keeps s₀ (s.closeBatch c fast) := by
  unfold State.closeBatch
  extract_lets +onlyGivenNames p
  split
  · exact h
  · exact h.setFl.routeItem

theorem Keeps.addSample {c : Nat} {fast : Bool} {flags ts : Nat} {y : Int} (h : Keeps s₀ s) : Keeps s₀ (s.addSample c fast flags ts y) :=
  .ite (.closeBatch (.setFl (.ite h.closeBatch h))) (.setFl (.ite h.closeBatch h))

theorem Keeps.thrEval {c k ts : Nat} {fast : Bool} (h : Keeps s₀ s) : Keeps s₀ (s.thrEval c k ts fast) :=
  .ite h (.ite (.ite h.setFl h.setFl) h.setFl)

theorem Keeps.leaveUnset {c : Nat} {fast ok : Bool} (h : Keeps s₀ s) : Keeps s₀ (s.leaveUnset c fast ok) := .ite h.set.flEventIf h

theorem Keeps.sampleOut {c : Nat} {fast ok sat fade : Bool} {ts : Nat} {y : Int} (h : Keeps s₀ s)
    : Keeps s₀ (s.sampleOut c fast ok sat fade ts y) :=
  h.setFl.set.leaveUnset.thrEval.thrEval.addSample

theorem execFastSample_completes {c : Nat} : Completes s (execFastSample c s) := by
  unfold execFastSample
  refine .ite .same ?_
  split
  · exact .same
  · exact .next fun h => h.setFl.count.sampleOut.fastSample

theorem execFineSample_completes {c : Nat} : Completes s (execFineSample c s) := by
  unfold execFineSample
  refine .ite .same ?_
  split
  · exact .same
  · exact .next fun h => .ite h.setFl.count.sampleOut.fineSample h.setFl.count.sampleOut

theorem Keeps.swapNow {c f : Nat} (h : Keeps s₀ s) : Keeps s₀ (s.swapNow c f) := .ite h.flEvent (.ite h.sets.setFl.set h.sets.setFl)

theorem Keeps.swapAsk {c fade : Nat} (h : Keeps s₀ s) : Keeps s₀ (s.swapAsk c fade) := by
  unfold State.swapAsk
  extract_lets +onlyGivenNames f a
  refine .ite h.swapNow ?_
  split
  · exact .ite h.flEventIf.setFl.set h.setFl
  · exact h.setFl

theorem execFiltSwap_completes {m : Master} {c fade : Nat} : Completes s (execFiltSwap m c fade s) :=
  .next fun h => h.flWrite fun _ ht => ht.swapAsk

theorem execSwapApply_completes {c : Nat} : Completes s (execSwapApply c s) := by
  unfold execSwapApply
  extract_lets +onlyGivenNames a
  refine .ite .same ?_
  split
  · extract_lets +onlyGivenNames t
    split
    · exact .next fun h => h.setFl.swapNow.setFl.set
    · exact .next fun h => h.setFl.swapNow
  · exact .next fun h => h.setFl.swapNow
  · exact .same

theorem execFadeEnd_completes {c : Nat} : Completes s (execFadeEnd c s) := by
  unfold execFadeEnd
  extract_lets +onlyGivenNames a
  split
  · exact .same
  · exact .ite (.next fun h => h.setFl.sets.set) .same

theorem Keeps.filtRelabel {off : Int} (h : Keeps s₀ s) : Keeps s₀ (s.filtRelabel off) := h.frame

theorem Keeps.filtStepped (h : Keeps s₀ s) : Keeps s₀ s.filtStepped :=
  .foldl (.foldl h.frame fun _ _ ht => .ite ht.clkStart ht) fun _ _ ht => .ite ht.setFl.settle ht

theorem Keeps.filtMode {new : Mode} (h : Keeps s₀ s) : Keeps s₀ (s.filtMode new) :=
  .foldl (.ite (.foldl h fun _ _ ht => .ite ht.flDisable ht) h) fun _ _ ht => ht.clkUpdate

/-! ### Phasors -/

theorem Keeps.setPh {c : Nat} {a : PhsLane} (h : Keeps s₀ s) : Keeps s₀ (s.setPh c a) := h.frame

theorem Keeps.phEvent {c : Nat} {f : Fld} (h : Keeps s₀ s) : Keeps s₀ (s.phEvent c f) := h.event

theorem Keeps.phShow {c : Nat} (h : Keeps s₀ s) : Keeps s₀ (s.phShow c) := h.sets

theorem Keeps.phRate {c : Nat} (h : Keeps s₀ s) : Keeps s₀ (s.phRate c) := by
  unfold State.phRate
  extract_lets +onlyGivenNames t
  have ht : Keeps s₀ t := h.phShow
  split
  · exact ht
  · exact .ite ht ht.phEvent.setPh

theorem Keeps.phMembers {c v : Nat} (h : Keeps s₀ s) : Keeps s₀ (s.phMembers c v) := .ite h.set.set h

theorem Keeps.phEnable {c : Nat} (h : Keeps s₀ s) : Keeps s₀ (s.phEnable c) := .ite h (.ite h.set.phEvent h.sets.phMembers.setPh.phRate)

theorem Keeps.phDisable {c : Nat} (h : Keeps s₀ s) : Keeps s₀ (s.phDisable c) := .ite h (.ite h.phEvent h.phMembers.sets.frame)

theorem execPhasorEnable_completes {m : Master} {c : Nat} : Completes s (execPhasorEnable m c s) :=
  .next fun h => h.tileWrite fun _ ht => ht.phEnable

theorem Keeps.phTake {c at_ : Nat} {q : QPkt} (h : Keeps s₀ s) : Keeps s₀ (s.phTake c at_ q) := .ite h (.ite h.setPh (.ite h.setPh h))

theorem Keeps.phAbsorb {pos : Nat} (h : Keeps s₀ s) : Keeps s₀ (s.phAbsorb pos) :=
  .foldl h.collect fun _ _ ht => .foldl ht fun _ _ hu => .ite hu.phTake hu

theorem Keeps.phSend {c mask typ : Nat} {data : List Nat} (h : Keeps s₀ s) : Keeps s₀ (s.phSend c mask typ data) :=
  .ite h.sendMask h.sendMask.count.phEvent

theorem Keeps.phNote {c : Nat} {frange gap : Bool} (h : Keeps s₀ s) : Keeps s₀ (s.phNote c frange gap) :=
  .ite (.phEvent (.count (.ite h.phEvent h))) (.ite h.phEvent h)

theorem Keeps.phEstimate {c tk lo hi : Nat} (h : Keeps s₀ s) : Keeps s₀ (s.phEstimate c tk lo hi) := h.setPh.sets.phNote.phSend

theorem execPhasorEstimate_completes {c : Nat} : Completes s (execPhasorEstimate c s) := by
  unfold execPhasorEstimate
  refine .ite .same ?_
  extract_lets +onlyGivenNames t
  refine .ite (.next fun h => h.phAbsorb.phRate) ?_
  extract_lets +onlyGivenNames x a
  split
  · exact .next fun h => h.phAbsorb.phRate
  · exact .ite (.next fun h => h.phAbsorb.phRate.setPh.phEstimate) (.next fun h => h.phAbsorb.phRate.setPh)

theorem Keeps.phFast {c g lo : Nat} (h : Keeps s₀ s) : Keeps s₀ (s.phFast c g lo) := h.setPh.sets.phNote.phSend

theorem execFastEstimate_completes {c : Nat} : Completes s (execFastEstimate c s) := by
  unfold execFastEstimate
  refine .ite .same ?_
  extract_lets +onlyGivenNames t
  refine .ite (.next fun h => h.phAbsorb.phRate) ?_
  extract_lets +onlyGivenNames src a
  split
  · exact .next fun h => h.phAbsorb.phRate
  · exact .ite (.next fun h => h.phAbsorb.phRate.setPh.phFast) (.next fun h => h.phAbsorb.phRate.setPh)

theorem Keeps.phRelabel {off : Int} (h : Keeps s₀ s) : Keeps s₀ (s.phRelabel off) := h.frame

theorem Keeps.phStepped (h : Keeps s₀ s) : Keeps s₀ s.phStepped := .foldl h fun _ _ ht => .ite ht.setPh ht

theorem Keeps.phOff (h : Keeps s₀ s) : Keeps s₀ s.phOff :=
  .foldl (.foldl h fun _ _ ht => .ite ht.phDisable ht) fun _ _ ht => .ite ht.phDisable ht

/-! ### Stream alignment -/

theorem Keeps.atEvent {i : Nat} {f : Fld} (h : Keeps s₀ s) : Keeps s₀ (s.atEvent i f) := h.event

theorem Keeps.setStream {x : Stream} (h : Keeps s₀ s) : Keeps s₀ (s.setStream x) := h.setAln

theorem Keeps.setQ {st q : Nat} (h : Keeps s₀ s) : Keeps s₀ (s.setQ st q) := h.sets

theorem Keeps.ownContext {st : Nat} (h : Keeps s₀ s) : Keeps s₀ (s.ownContext st) := h.sets.set.frame

theorem Keeps.localLayout {st : Nat} (h : Keeps s₀ s) : Keeps s₀ (s.localLayout st) := h.sets

theorem Keeps.streamOn {st : Nat} (h : Keeps s₀ s) : Keeps s₀ (s.streamOn st) :=
  .ite h (.ite h.set.atEvent (.setAln (.setQ (.sets (.ite h.localLayout h.ownContext)))))

theorem Keeps.streamOff {st : Nat} (h : Keeps s₀ s) : Keeps s₀ (s.streamOff st) := .ite h (.setAln (.sets (.ite h h.sets)))

theorem Keeps.streamWrite {m : Master} {st : Nat} {f : State → State} (h : Keeps s₀ s) (hf : ∀ t, Keeps s₀ t → Keeps s₀ (f t))
    : Keeps s₀ (s.streamWrite m st f) :=
  h.tileWrite fun _ ht => hf _ ht

theorem execStreamEnable_completes {m : Master} {st : Nat} : Completes s (execStreamEnable m st s) :=
  .next fun h => h.streamWrite fun _ ht => ht.streamOn

theorem execStreamDisable_completes {m : Master} {st : Nat} : Completes s (execStreamDisable m st s) :=
  .next fun h => h.streamWrite fun _ ht => ht.streamOff

theorem execQuarantineEnd_completes {st : Nat} : Completes s (execQuarantineEnd st s) := by
  unfold execQuarantineEnd
  split
  · exact .same
  · exact .ite (.next fun h => h.set) .same

theorem Keeps.copyTo {c : Conc} {m : Member} {b : Bucket} {blocks : List Byte} (h : Keeps s₀ s) : Keeps s₀ (s.copyTo c m b blocks) :=
  h.memWrite.setConc

theorem Keeps.frameIn {x : Stream} {ts arrival : Nat} {blocks : List Byte} (h : Keeps s₀ s)
    : Keeps s₀ (s.frameIn x ts arrival blocks) := by
  unfold State.frameIn
  extract_lets +onlyGivenNames b i found has t
  have ht : Keeps s₀ t := h.count.set
  extract_lets +onlyGivenNames t1
  have ht1 : Keeps s₀ t1 := .ite ht ht.setQ
  extract_lets +onlyGivenNames t2
  have ht2 : Keeps s₀ t2 := .ite ht1.count ht1
  extract_lets +onlyGivenNames t3
  have ht3 : Keeps s₀ t3 := .ite ht2.count ht2
  extract_lets +onlyGivenNames t4
  have ht4 : Keeps s₀ t4 := .ite ht3.count.atEvent ht3
  extract_lets +onlyGivenNames t5
  have ht5 : Keeps s₀ t5 := .ite ht4.count ht4
  refine .foldl ht5 fun _ _ hu => ?_
  split
  · split
    · exact hu.copyTo
    · exact hu
  · exact hu

theorem Keeps.frameAt {x : Stream} {ts arrival : Nat} {blocks : List Byte} (h : Keeps s₀ s) : Keeps s₀ (s.frameAt x ts arrival blocks) :=
  .ite h.count.atEvent h.frameIn

theorem execStreamFrame_completes {inst : Nat} : Completes s (execStreamFrame inst s) := by
  unfold execStreamFrame
  split
  · exact .same
  · extract_lets +onlyGivenNames t
    split
    · exact .next fun h => h.taken
    · extract_lets +onlyGivenNames a r
      split
      · exact .next fun h => h.taken.memRead.poisonDrop
      · exact .ite (.next fun h => h.taken.memRead.count) (.next fun h => h.taken.memRead.frameAt)

theorem Keeps.localEst {x : Stream} {c : Nat} {ws : List Nat} (h : Keeps s₀ s) : Keeps s₀ (s.localEst x c ws) :=
  .ite h.setStream.frameAt h.setStream

theorem execLocalEstimateItem_completes {inst : Nat} : Completes s (execLocalEstimateItem inst s) := by
  unfold execLocalEstimateItem
  split
  · exact .same
  · refine .next fun h => ?_
    refine .foldl h.taken fun _ _ hu => ?_
    refine .ite ?_ hu
    split
    · exact hu.localEst
    · exact hu

theorem Keeps.copyConc {home n : Nat} {l : List Member} {i : Nat} (h : Keeps s₀ s) : Keeps s₀ (s.copyConc home n l i) := h.sets.sets

theorem Keeps.concOn {i n : Nat} (h : Keeps s₀ s) : Keeps s₀ (s.concOn i n) :=
  .ite h (.ite h.set.atEvent (.showFree (.setAln (.set (.foldl h fun _ _ ht => ht.copyConc)))))

theorem Keeps.concStop {c : Conc} (h : Keeps s₀ s) : Keeps s₀ (s.concStop c) := .setAln (.foldl h fun _ _ ht => ht.sets)

theorem Keeps.concOff {i n : Nat} (h : Keeps s₀ s) : Keeps s₀ (s.concOff i n) := by
  unfold State.concOff
  split
  · exact h
  · exact .ite h.concStop h

theorem Keeps.concWrite {m : Master} {i n : Nat} {f : State → State} (h : Keeps s₀ s) (hf : ∀ t, Keeps s₀ t → Keeps s₀ (f t))
    : Keeps s₀ (s.concWrite m i n f) :=
  h.actWrite fun _ ht => .ite (hf _ ht) ht

theorem execConcEnable_completes {m : Master} {inst n : Nat} : Completes s (execConcEnable m inst n s) :=
  .next fun h => h.concWrite fun _ ht => ht.concOn

theorem execConcDisable_completes {m : Master} {inst n : Nat} : Completes s (execConcDisable m inst n s) :=
  .next fun h => h.concWrite fun _ ht => ht.concOff

theorem execBucketOpen_completes {n : Nat} : Completes s (execBucketOpen n s) := by
  unfold execBucketOpen
  split
  · exact .same
  · refine .ite .same ?_
    extract_lets +onlyGivenNames b d
    split
    · exact .next fun h => h.setConc.count.atEvent
    · exact .next fun h => h.setConc.showFree

theorem Keeps.fillAbsent {c : Conc} {b : Bucket} {l : List Member} (h : Keeps s₀ s) : Keeps s₀ (s.fillAbsent c b l) :=
  .foldl h fun _ _ ht => .ite ht ht.memWrite

theorem Keeps.partHome {n i tk at_ : Nat} (h : Keeps s₀ s) : Keeps s₀ (s.partHome n i tk at_) := by
  unfold State.partHome
  split
  · exact h
  · split
    · exact h
    · exact .ite h h.setConc

theorem Keeps.closePart {c : Conc} {i : Nat} {b : Bucket} (h : Keeps s₀ s) : Keeps s₀ (s.closePart c i b) :=
  .ite (.partHome (.ite h.fillAbsent.setConc.atEvent h.fillAbsent.setConc))
    (.emit (.ite h.fillAbsent.setConc.atEvent h.fillAbsent.setConc))

theorem execPartClose_completes {inst n : Nat} : Completes s (execPartClose inst n s) := by
  unfold execPartClose
  split
  · exact .same
  · split
    · exact .same
    · exact .next fun h => h.closePart

theorem execPartItem_completes {inst : Nat} : Completes s (execPartItem inst s) := by
  unfold execPartItem
  split
  · exact .same
  · exact .next fun h => h.taken.partHome

theorem Keeps.closeMissing {c : Conc} {b : Bucket} {at_ : Nat} (h : Keeps s₀ s) : Keeps s₀ (s.closeMissing c b at_) :=
  h.fillAbsent.setConc

theorem execBucketCapTimeout_completes {n : Nat} : Completes s (execBucketCapTimeout n s) := by
  unfold execBucketCapTimeout
  split
  · exact .same
  · extract_lets +onlyGivenNames cap
    split
    · exact .same
    · exact .next fun h => h.closeMissing.atEvent

theorem Keeps.emitBucket {c : Conc} {b : Bucket} {at_ : Nat} (h : Keeps s₀ s) : Keeps s₀ (s.emitBucket c b at_) :=
  .when (.foldl h.setConc.count.count.set.showFree fun _ _ ht => ht.emit) fun h => h.hwSubmit

theorem execBucketEmit_completes {n : Nat} : Completes s (execBucketEmit n s) := by
  unfold execBucketEmit
  split
  · exact .same
  · split
    · exact .same
    · split
      · exact .same
      · exact .next fun h => h.emitBucket

theorem execConcSlotRelease_completes {n slot : Nat} : Completes s (execConcSlotRelease n slot s) := .next fun h => h.slotRelease

theorem Keeps.flushBuckets {n at_ f : Nat} (h : Keeps s₀ s) : Keeps s₀ (flushBuckets n at_ f s) := by
  induction f generalizing s with
  | zero => exact h
  | succ f ih =>
    unfold Machine.flushBuckets
    split
    · exact h
    · split
      · exact h
      · extract_lets gone t
        have ht : Keeps s₀ t := h.fillAbsent.setConc
        split
        · exact ht
        · exact ih ht.emitBucket

theorem Keeps.alignStepped {off : Int} (h : Keeps s₀ s) : Keeps s₀ (s.alignStepped off) := by
  unfold State.alignStepped
  extract_lets +onlyGivenNames old t
  have ht : Keeps s₀ t := by
    unfold t
    refine .foldl h fun _ _ hu => ?_
    extract_lets +onlyGivenNames v
    have hv : Keeps s₀ v := hu.flushBuckets
    split
    · exact hv
    · exact hv.setConc
  exact ht.setAln

theorem Keeps.alignRelabel {off : Int} (h : Keeps s₀ s) : Keeps s₀ (s.alignRelabel off) := h.setAln

theorem Keeps.alignOff (h : Keeps s₀ s) : Keeps s₀ s.alignOff := by
  unfold State.alignOff
  extract_lets t
  have ht : Keeps s₀ t := h.foldl fun _ _ hu => hu.concStop
  exact (ht.foldl fun _ _ hu => hu.streamOff).phOff

/-! ### CAN controllers -/

theorem Keeps.setCan {n : Nat} {c : Can} (h : Keeps s₀ s) : Keeps s₀ (s.setCan n c) := h.frame

theorem Keeps.cnEvent {n : Nat} {f : Fld} (h : Keeps s₀ s) : Keeps s₀ (s.cnEvent n f) := h.event

theorem Keeps.putObj {n o : Nat} {x : CanObj} (h : Keeps s₀ s) : Keeps s₀ (s.putObj n o x) := h.setCan

theorem Keeps.showPend {n : Nat} (h : Keeps s₀ s) : Keeps s₀ (s.showPend n) := h.set

theorem Keeps.showLock {n : Nat} (h : Keeps s₀ s) : Keeps s₀ (s.showLock n) := by
  unfold State.showLock
  split
  · exact h.sets
  · exact h.sets

theorem Keeps.lostFrame {n : Nat} (h : Keeps s₀ s) : Keeps s₀ (s.lostFrame n) := h.count.cnEvent

theorem Keeps.storeFrame {n o : Nat} {x : CanObj} {f : CanFrame} (h : Keeps s₀ s) : Keeps s₀ (s.storeFrame n o x f) :=
  .ite (.showLock (.ite h.putObj.lostFrame h.putObj)) (.eventIf (.ite h.putObj.lostFrame h.putObj))

theorem Keeps.release_ {n : Nat} (h : Keeps s₀ s) : Keeps s₀ (s.release_ n) := by
  unfold State.release_
  extract_lets +onlyGivenNames c
  split
  · exact h
  · extract_lets +onlyGivenNames t
    have ht : Keeps s₀ t := h.setCan
    split
    · exact ht.showLock
    · extract_lets +onlyGivenNames y
      split
      · exact ht.putObj.showLock
      · exact ht.putObj.eventIf.showLock

theorem Keeps.refRx {n o : Nat} {f : CanFrame} (h : Keeps s₀ s) : Keeps s₀ (s.refRx n o f) := .ite h.sets.setCan h

theorem Keeps.rxGood {n : Nat} (h : Keeps s₀ s) : Keeps s₀ (s.rxGood n) := .ite h.set.fresh h.set

theorem Keeps.confine {n : Nat} (h : Keeps s₀ s) : Keeps s₀ (s.confine n) := .ite h.set.cnEvent (.ite h.set h)

theorem Keeps.busOffer {n : Nat} (h : Keeps s₀ s) : Keeps s₀ (s.busOffer n) := by
  unfold State.busOffer
  extract_lets +onlyGivenNames c
  refine .ite h ?_
  split
  · exact h
  · exact h.setCan

theorem Keeps.ttFail {n : Nat} (h : Keeps s₀ s) : Keeps s₀ (s.ttFail n) := h.count.cnEvent

theorem Keeps.endRequest {n o : Nat} (h : Keeps s₀ s) : Keeps s₀ (s.endRequest n o) := by
  unfold State.endRequest
  split
  · exact h.putObj.showPend
  · exact h

theorem Keeps.txLost {n : Nat} (h : Keeps s₀ s) : Keeps s₀ (s.txLost n) := by
  unfold State.txLost
  extract_lets +onlyGivenNames c
  split
  · exact h
  · extract_lets +onlyGivenNames t
    have ht : Keeps s₀ t := h.setCan
    split
    · exact .ite ht.endRequest ht
    · exact ht.ttFail

theorem Keeps.adrEnd {n r : Nat} (h : Keeps s₀ s) : Keeps s₀ (s.adrEnd n r) := h.sets.setCan.cnEvent

theorem Keeps.adrFound {n i r : Nat} (h : Keeps s₀ s) : Keeps s₀ (s.adrFound n i r) := h.sets.adrEnd

theorem Keeps.adrFrame {n : Nat} {a : CanAdr} {fdf brs : Bool} (h : Keeps s₀ s) : Keeps s₀ (s.adrFrame n a fdf brs) :=
  .ite h (.ite h.adrFound h.setCan)

theorem Keeps.adrNext {n : Nat} {a : CanAdr} (h : Keeps s₀ s) : Keeps s₀ (s.adrNext n a) := .ite h.setCan (.ite h.setCan h.adrEnd)

theorem execAdrDwellExpiry_completes {n : Nat} : Completes s (execAdrDwellExpiry n s) := by
  unfold execAdrDwellExpiry
  split
  · exact .same
  · exact .ite .same (.ite (.next fun h => h.adrFound) (.next fun h => h.adrNext))

theorem Keeps.canWrite {m : Master} {n off : Nat} {f : State → State} (h : Keeps s₀ s) (hf : ∀ t, Keeps s₀ t → Keeps s₀ (f t))
    : Keeps s₀ (s.canWrite m n off f) :=
  h.actWrite fun _ ht => .ite (hf _ ht) ht

theorem Keeps.adrGo {n : Nat} (h : Keeps s₀ s) : Keeps s₀ (s.adrGo n) := .ite h.cnEvent (.ite h h.sets.setCan)

theorem execAdrGo_completes {m : Master} {n : Nat} : Completes s (execAdrGo m n s) := .next fun h => h.canWrite fun _ ht => ht.adrGo

theorem execAdrAbort_completes {m : Master} {n : Nat} : Completes s (execAdrAbort m n s) :=
  .next fun h => h.canWrite fun _ ht => .ite ht.adrEnd ht

theorem Keeps.rxFrameCan {n : Nat} {f : CanFrame} (h : Keeps s₀ s) : Keeps s₀ (s.rxFrameCan n f) := by
  unfold State.rxFrameCan
  split
  · exact h.storeFrame.refRx
  · exact h.count

theorem execCanFrameRx_completes {n id : Nat} {ide fdf brs esi remote : Bool} {dlc : Nat} {data : List Byte} {sof : Nat}
    : Completes s (execCanFrameRx n id ide fdf brs esi remote dlc data sof s) := by
  unfold execCanFrameRx
  split
  · exact .next fun h => h.adrFrame
  · exact .ite .same (.next fun h => .busOffer (.ite (.confine (.rxGood (.ite h.txLost h)))
      (.rxFrameCan (.confine (.rxGood (.ite h.txLost h))))))

theorem Keeps.termCheck {n dom rec_ : Nat} (h : Keeps s₀ s) : Keeps s₀ (s.termCheck n dom rec_) :=
  .ite h.setCan.set.cnEvent (.ite h.setCan.set h.setCan)

theorem Keeps.txSent {n sof loop dom rec_ : Nat} (h : Keeps s₀ s) : Keeps s₀ (s.txSent n sof loop dom rec_) := by
  unfold State.txSent
  extract_lets +onlyGivenNames b c
  split
  · exact h
  · extract_lets +onlyGivenNames t
    have ht : Keeps s₀ t := h.setCan
    extract_lets +onlyGivenNames t1
    have ht1 : Keeps s₀ t1 := by
      unfold t1
      split
      · exact ht
      · exact ht.putObj.showPend.eventIf
    exact .busOffer (.confine (.ite (.count (.ite ht1.set.setCan ht1.set)) (.termCheck (.sets (.ite ht1.set.setCan ht1.set)))))

theorem execCanTxDone_completes {n sof loop dom rec_ : Nat} : Completes s (execCanTxDone n sof loop dom rec_ s) :=
  .ite (.next fun h => h.txSent) .same

theorem Keeps.busError {n kind : Nat} (h : Keeps s₀ s) : Keeps s₀ (s.busError n kind) := by
  unfold State.busError
  extract_lets +onlyGivenNames b
  split
  · exact h.count.confine.busOffer
  · exact h.count.confine.busOffer
  · exact h.count.confine.txLost.busOffer
  · exact h.txLost.count.cnEvent.set
  · exact h.txLost.busOffer

theorem execCanProtocolError_completes {n kind : Nat} : Completes s (execCanProtocolError n kind s) := by
  unfold execCanProtocolError
  split
  · exact .next fun h => h.setCan
  · exact .ite (.next fun h => h.busError) .same

theorem execCanBusOff_completes {n : Nat} : Completes s (execCanBusOff n s) := .ite (.next fun h => h.setCan.set.cnEvent) .same

theorem execBorReq_completes {m : Master} {n : Nat} : Completes s (execBorReq m n s) :=
  .next fun h => h.canWrite fun _ ht => .ite ht.set ht

theorem execBusOffRecovered_completes {n : Nat} : Completes s (execBusOffRecovered n s) := .ite (.next fun h => h.sets.busOffer) .same

theorem execCanBusIntegrated_completes {n : Nat} : Completes s (execCanBusIntegrated n s) :=
  .ite (.next fun h => h.set.confine.busOffer) .same

theorem execCanStuckDominant_completes {n : Nat} {dominant : Bool} : Completes s (execCanStuckDominant n dominant s) :=
  .ite .same (.ite (.next fun h => .ite h h.set.cnEvent) (.next fun h => h.set))

theorem Keeps.canEnable {n : Nat} (h : Keeps s₀ s) : Keeps s₀ (s.canEnable n) :=
  .ite h (.ite h.set.cnEvent (.setCan (.sets (.ite h.adrEnd h))))

theorem execCanEnable_completes {m : Master} {n : Nat} : Completes s (execCanEnable m n s) :=
  .next fun h => h.canWrite fun _ ht => ht.canEnable

theorem Keeps.canDisable {n : Nat} (h : Keeps s₀ s) : Keeps s₀ (s.canDisable n) := .ite h h.release_.sets.setCan

theorem Keeps.objConfig {n v : Nat} (h : Keeps s₀ s) : Keeps s₀ (s.objConfig n v) :=
  .ite h.set (.ite h.set.cnEvent (.ite h.set (.ite h.putObj.showPend.set h.setCan.showPend.showLock.set)))

theorem execObjConfig_completes {m : Master} {n v : Nat} : Completes s (execObjConfig m n v s) :=
  .next fun h => h.canWrite fun _ ht => ht.objConfig

theorem execObjSelWrite_completes {m : Master} {n v : Nat} : Completes s (execObjSelWrite m n v s) :=
  .next fun h => h.canWrite fun _ ht => ht.release_.set

theorem Keeps.objWordWrite {n w v : Nat} (h : Keeps s₀ s) : Keeps s₀ (s.objWordWrite n w v) := by
  unfold State.objWordWrite
  extract_lets +onlyGivenNames o
  split
  · exact .ite h.putObj h
  · exact h

theorem Keeps.lockRead {n : Nat} (h : Keeps s₀ s) : Keeps s₀ (s.lockRead n) := by
  unfold State.lockRead
  extract_lets +onlyGivenNames o
  split
  · exact h
  · exact .ite h h.release_.setCan.showLock

theorem Keeps.canRead {m : Master} {n off val : Nat} {f : State → State} (h : Keeps s₀ s) (hf : ∀ t, Keeps s₀ t → Keeps s₀ (f t))
    : Keeps s₀ (s.canRead m n off val f) :=
  .ite h.accessEvent.answer (.ite (.answer (hf _ h)) h.answer)

theorem execObjLockRead_completes {m : Master} {n : Nat} {wide : Bool} : Completes s (execObjLockRead m n wide s) :=
  .next fun h => h.canRead fun _ ht => ht.lockRead

theorem execObjReleaseRead_completes {m : Master} {n : Nat} {wide : Bool} : Completes s (execObjReleaseRead m n wide s) :=
  .next fun h => h.canRead fun _ ht => .ite ht.release_ ht

theorem execObjLockTimeout_completes {n : Nat} : Completes s (execObjLockTimeout n s) := by
  unfold execObjLockTimeout
  split
  · exact .same
  · exact .ite (.next fun h => h.release_.cnEvent) .same

theorem Keeps.txRequest {n o : Nat} {idle : Bool} (h : Keeps s₀ s) : Keeps s₀ (s.txRequest n o idle) := by
  unfold State.txRequest
  split
  · exact h.cnEvent
  · exact .ite h.cnEvent (.ite h (.ite h.putObj.showPend.busOffer h.putObj.showPend))

theorem execCanTxRequest_completes {m : Master} {n obj : Nat} {idle : Bool} : Completes s (execCanTxRequest m n obj idle s) :=
  .next fun h => h.canWrite fun _ ht => ht.txRequest

theorem Keeps.txCancel {n o : Nat} (h : Keeps s₀ s) : Keeps s₀ (s.txCancel n o) := .ite h h.endRequest

theorem execCanTxCancel_completes {m : Master} {n obj : Nat} : Completes s (execCanTxCancel m n obj s) :=
  .next fun h => h.canWrite fun _ ht => ht.txCancel

theorem execTtCycleStart_completes {n : Nat} : Completes s (execTtCycleStart n s) := by
  unfold execTtCycleStart
  extract_lets +onlyGivenNames b c o
  refine .ite .same ?_
  extract_lets +onlyGivenNames cyc t c1 t1
  split
  · exact .next fun h => h.sets.setCan.ttFail
  · exact .ite (.next fun h => h.sets.setCan.ttFail) (.next fun h => h.sets.setCan.setCan)

theorem execTtRefTimeout_completes {n : Nat} : Completes s (execTtRefTimeout n s) := by
  unfold execTtRefTimeout
  split
  · exact .same
  · exact .ite (.next fun h => h.set.cnEvent) .same

theorem execTtWindowStart_completes {n w : Nat} {idle : Bool} : Completes s (execTtWindowStart n w idle s) := by
  unfold execTtWindowStart
  extract_lets +onlyGivenNames v
  refine .ite .same ?_
  extract_lets +onlyGivenNames c c1 t
  refine .ite (.next fun h => .ite h.setCan.busOffer h.setCan) ?_
  refine .ite (.next fun h => h.setCan) ?_
  split
  · exact .next fun h => h.setCan.ttFail
  · exact .ite (.next fun h => h.setCan.ttFail) (.next fun h => h.setCan.setCan)

theorem Keeps.canShift {off : Int} (h : Keeps s₀ s) : Keeps s₀ (s.canShift off) := h.frame

theorem Keeps.canStepped {off : Int} (h : Keeps s₀ s) : Keeps s₀ (s.canStepped off) := .foldl h.canShift fun _ _ ht => .ite ht.setCan ht

theorem Keeps.canOff (h : Keeps s₀ s) : Keeps s₀ s.canOff := h.clearCells.frame

/-! ### Oscillation and island detection, alarm pins -/

theorem Keeps.setGrp {g : Nat} {x : Group} (h : Keeps s₀ s) : Keeps s₀ (s.setGrp g x) := h.frame

theorem Keeps.mgEvent {g : Nat} {f : Fld} (h : Keeps s₀ s) : Keeps s₀ (s.mgEvent g f) := h.event

theorem Keeps.groupOn {g : Nat} (h : Keeps s₀ s) : Keeps s₀ (s.groupOn g) := .ite h (.ite h.set.mgEvent h.sets.setGrp)

theorem Keeps.setPin {n : Nat} {p : AlarmPin} (h : Keeps s₀ s) : Keeps s₀ (s.setPin n p) := h.frame

theorem Keeps.pinUpdate {n : Nat} (h : Keeps s₀ s) : Keeps s₀ (s.pinUpdate n) :=
  .ite h.set.setPin (.ite h.set.setPin (.ite h h.set.setPin))

theorem Keeps.pinsUpdate (h : Keeps s₀ s) : Keeps s₀ s.pinsUpdate := .foldl h fun _ _ ht => ht.pinUpdate

theorem Keeps.pinPulse {e : Nat} (h : Keeps s₀ s) : Keeps s₀ (s.pinPulse e) := .foldl h fun _ _ ht => .ite ht.setPin.pinUpdate ht

theorem execAlarmPinMinExpiry_completes {n : Nat} : Completes s (execAlarmPinMinExpiry n s) := .ite (.next fun h => h.pinUpdate) .same

theorem Keeps.pinClear {n : Nat} (h : Keeps s₀ s) : Keeps s₀ (s.pinClear n) := .ite h h.setPin.pinUpdate

theorem execAlarmClr_completes {m : Master} {n : Nat} : Completes s (execAlarmClr m n s) :=
  .next fun h => h.actWrite fun _ ht => .ite ht.pinClear ht

theorem Keeps.setAlarm {g : Nat} {v tflag : Bool} {w tk : Nat} (h : Keeps s₀ s) : Keeps s₀ (s.setAlarm g v tflag w tk) :=
  .ite h (.ite h.sets.mgEvent.toggle.pinsUpdate.sendMask h.sets.mgEvent.toggle.pinsUpdate.sendMask.mgEvent)

theorem Keeps.showModes {g : Nat} {l : List (Nat × Int)} (h : Keeps s₀ s) : Keeps s₀ (s.showModes g l) :=
  .set (.foldl h fun _ _ ht => ht.sets)

theorem Keeps.damping {g tk : Nat} {tflag : Bool} {l : List (Nat × Int)} (h : Keeps s₀ s) : Keeps s₀ (s.damping g tk tflag l) :=
  .ite h.setGrp.setAlarm (.ite h.setGrp.setAlarm h.setGrp)

theorem Keeps.solve {g tk : Nat} {tflag : Bool} (h : Keeps s₀ s) : Keeps s₀ (s.solve g tk tflag) := by
  unfold State.solve
  split
  · exact h.count.mgEvent
  · exact h.showModes.damping

theorem Keeps.sampleDone {g tk : Nat} {tflag : Bool} (h : Keeps s₀ s) : Keeps s₀ (s.sampleDone g tk tflag) :=
  .ite h.setGrp.count.set (.ite (.solve (.ite h.setGrp.set.set h.setGrp.set)) (.ite h.setGrp.set.set h.setGrp.set))

theorem Keeps.oscFrame {g tk : Nat} {tflag : Bool} {v : List (Option Int)} (h : Keeps s₀ s) : Keeps s₀ (s.oscFrame g tk tflag v) :=
  .ite h.setGrp.sampleDone h.setGrp

theorem Keeps.restart {g : Nat} (h : Keeps s₀ s) : Keeps s₀ (s.restart g) := h.setGrp.set.count.mgEvent

theorem execModelRestart_completes {g : Nat} : Completes s (execModelRestart g s) := .ite (.next fun h => h.restart) .same

theorem Keeps.restartCmd {g : Nat} (h : Keeps s₀ s) : Keeps s₀ (s.restartCmd g) := .ite h.restart h

theorem Keeps.mgWrite {m : Master} {g : Nat} {f : State → State} (h : Keeps s₀ s) (hf : ∀ t, Keeps s₀ t → Keeps s₀ (f t))
    : Keeps s₀ (s.mgWrite m g f) :=
  h.tileWrite fun _ ht => hf _ ht

theorem execGroupEnable_completes {m : Master} {g : Nat} : Completes s (execGroupEnable m g s) :=
  .next fun h => h.mgWrite fun _ ht => ht.groupOn

theorem execModelRestartCmd_completes {m : Master} {g : Nat} : Completes s (execModelRestartCmd m g s) :=
  .next fun h => h.mgWrite fun _ ht => ht.restartCmd

theorem Keeps.groupOff {g : Nat} (h : Keeps s₀ s) : Keeps s₀ (s.groupOff g) := h.sets.frame.pinsUpdate

theorem Keeps.islandSeen {g tk : Nat} {tflag : Bool} {cs : List Clu} (h : Keeps s₀ s) : Keeps s₀ (s.islandSeen g tk tflag cs) :=
  .ite h.sets.sets.setGrp.setAlarm (.ite h.sets.sets.setGrp.setAlarm h.sets.sets.setGrp)

theorem Keeps.islandFrame {g tk : Nat} {tflag : Bool} {v : List (Option Int)} (h : Keeps s₀ s) : Keeps s₀ (s.islandFrame g tk tflag v) :=
  .setGrp (.ite h.set h.islandSeen)

theorem execGroupStale_completes {g : Nat} : Completes s (execGroupStale g s) := .ite (.next fun h => h.set.mgEvent) .same

theorem Keeps.queueBucket {g tk : Nat} {tflag : Bool} {l : List Byte} (h : Keeps s₀ s) : Keeps s₀ (s.queueBucket g tk tflag l) := h.setGrp

theorem Keeps.takeBucket {inst : Nat} {q : QPkt} (h : Keeps s₀ s) : Keeps s₀ (s.takeBucket inst q) := by
  unfold State.takeBucket
  extract_lets +onlyGivenNames w n
  split
  · exact h
  · extract_lets +onlyGivenNames a r t
    have ht : Keeps s₀ t := by
      unfold t
      split
      · exact h.memRead.poisonDrop
      · exact .foldl h.memRead fun _ _ ht => .ite ht.queueBucket ht
    exact ht.slotRelease

theorem Keeps.queueEst {g : Nat} {ws : List Nat} (h : Keeps s₀ s) : Keeps s₀ (s.queueEst g ws) := .ite h h.setGrp

theorem Keeps.mgAbsorb {inst : Nat} (h : Keeps s₀ s) : Keeps s₀ (s.mgAbsorb inst) :=
  .foldl h.collect fun _ _ ht => .ite ht.takeBucket (.ite (.foldl ht fun _ _ hu => .ite hu.queueEst hu) ht)

theorem Keeps.evalFrame {g : Nat} {f : GridFrame} (h : Keeps s₀ s) : Keeps s₀ (s.evalFrame g f) :=
  .ite h.setGrp.count.oscFrame h.setGrp.count.islandFrame

theorem execGroupFrameEval_completes {g : Nat} : Completes s (execGroupFrameEval g s) := by
  unfold execGroupFrameEval
  refine .ite .same ?_
  extract_lets +onlyGivenNames t
  refine .ite ?_ (.ite (.next fun h => h.mgAbsorb.evalFrame) (.next fun h => h.mgAbsorb))
  split
  · exact .next fun h => h.mgAbsorb
  · exact .next fun h => h.mgAbsorb.evalFrame

theorem execGroupFrameTimeout_completes {g : Nat} : Completes s (execGroupFrameTimeout g s) :=
  .ite .same (.ite (.next fun h => h.mgAbsorb.evalFrame) (.next fun h => h.mgAbsorb))

theorem Keeps.groupsStepped (h : Keeps s₀ s) : Keeps s₀ s.groupsStepped := .foldl h fun _ _ ht => .ite ht (.setGrp (.ite ht.restart ht))

theorem Keeps.groupsRelabel {off : Int} (h : Keeps s₀ s) : Keeps s₀ (s.groupsRelabel off) := h.frame

theorem Keeps.groupsOff (h : Keeps s₀ s) : Keeps s₀ s.groupsOff :=
  .foldl (.foldl h fun _ _ ht => .ite ht.groupOff ht) fun _ _ ht => ht.set.setPin

/-! ### Capture engines and trigger lines -/

theorem Keeps.setEng {e : Nat} {x : Engine} (h : Keeps s₀ s) : Keeps s₀ (s.setEng e x) := h.frame

theorem Keeps.tgEvent {e : Nat} {f : Fld} (h : Keeps s₀ s) : Keeps s₀ (s.tgEvent e f) := .ite h h.set.toggle.toggle

theorem Keeps.setTg {e v : Nat} (h : Keeps s₀ s) : Keeps s₀ (s.setTg e v) := h.set

theorem Keeps.setLine {n : Nat} {x : TrigLine} (h : Keeps s₀ s) : Keeps s₀ (s.setLine n x) := h.frame

theorem Keeps.lineDrive {n : Nat} (h : Keeps s₀ s) : Keeps s₀ (s.lineDrive n) := .ite h h.setLine.set

theorem execTlDrive_completes {m : Master} {n : Nat} : Completes s (execTlDrive m n s) :=
  .next fun h => h.actWrite fun _ ht => ht.lineDrive

theorem execTlPulseEnd_completes {n : Nat} : Completes s (execTlPulseEnd n s) := .ite (.next fun h => h.set) .same

theorem Keeps.sendTrig {e : Nat} {x : Trig} (h : Keeps s₀ s) : Keeps s₀ (s.sendTrig e x) := .ite h.setEng h

theorem Keeps.sendTrigs {x : Trig} (h : Keeps s₀ s) : Keeps s₀ (s.sendTrigs x) := .foldl h fun _ _ ht => ht.sendTrig

theorem Keeps.unstick {n : Nat} (h : Keeps s₀ s) : Keeps s₀ (s.unstick n) := .ite h.set h

theorem execTrigLineEdge_completes {n : Nat} : Completes s (execTrigLineEdge n s) :=
  .ite .same (.ite (.next fun h => h.unstick.setLine.set)
    (.next fun h => .ite h.unstick.setLine.set.set h.unstick.setLine.set.set.sendTrigs))

theorem execTlStuck_completes {n : Nat} : Completes s (execTlStuck n s) := .ite (.next fun h => h.set.event) .same

theorem execTrigLineHigh_completes {n : Nat} : Completes s (execTrigLineHigh n s) :=
  .ite .same (.ite (.next fun h => h.set.setLine) (.next fun h => h.unstick))

theorem Keeps.fill {e k : Nat} (h : Keeps s₀ s) : Keeps s₀ (s.fill e k) := h.setEng.sets.memWrite

theorem Keeps.fillOrWait {e : Nat} (h : Keeps s₀ s) : Keeps s₀ (s.fillOrWait e) := by
  unfold State.fillOrWait
  split
  · exact h.fill
  · exact h.setTg

theorem Keeps.arm {e : Nat} (h : Keeps s₀ s) : Keeps s₀ (s.arm e) := .ite h (.ite h.set.tgEvent h.sets.setEng.fillOrWait)

theorem Keeps.tgWrite {m : Master} {e : Nat} {f : State → State} (h : Keeps s₀ s) (hf : ∀ t, Keeps s₀ t → Keeps s₀ (f t))
    : Keeps s₀ (s.tgWrite m e f) :=
  h.tileWrite fun _ ht => hf _ ht

theorem execEngineArm_completes {m : Master} {e : Nat} : Completes s (execEngineArm m e s) := .next fun h => h.tgWrite fun _ ht => ht.arm

theorem Keeps.writePlace {e i : Nat} {f : CapFrame} (h : Keeps s₀ s) : Keeps s₀ (s.writePlace e i f) := h.memWrite

theorem Keeps.writePlaces {e i : Nat} {l : List CapFrame} (h : Keeps s₀ s) : Keeps s₀ (writePlaces e i l s) := by
  induction l generalizing i s with
  | nil => exact h
  | cons f l ih => exact ih h.writePlace

theorem Keeps.addPart {e tk k flags : Nat} {d : List Byte} (h : Keeps s₀ s) : Keeps s₀ (s.addPart e tk k flags d) := .ite h h.setEng

theorem Keeps.tgTake {e : Nat} {q : QPkt} (h : Keeps s₀ s) : Keeps s₀ (s.tgTake e q) :=
  .ite (.ite h.sendTrig h) (.ite (.ite h.sendTrig h) (.ite h (.ite (.foldl h fun _ _ ht => ht.addPart) (.ite h.addPart h))))

theorem Keeps.tgBucket {inst : Nat} {q : QPkt} (h : Keeps s₀ s) : Keeps s₀ (s.tgBucket inst q) := by
  unfold State.tgBucket
  extract_lets +onlyGivenNames w n
  split
  · exact h
  · extract_lets +onlyGivenNames a r t
    have ht : Keeps s₀ t := by
      unfold t
      split
      · exact h.memRead.poisonDrop
      · exact .foldl h.memRead fun _ _ ht => .ite ht.addPart ht
    exact ht.slotRelease

theorem Keeps.tgAbsorb {inst : Nat} (h : Keeps s₀ s) : Keeps s₀ (s.tgAbsorb inst) :=
  .foldl h.collect fun _ _ ht => .ite ht.tgBucket (.foldl ht fun _ _ hu => hu.tgTake)

theorem Keeps.tgMissed {e at_ : Nat} (h : Keeps s₀ s) : Keeps s₀ (s.tgMissed e at_) := .tgEvent (.count (.ite h.setEng.set h.setEng))

theorem Keeps.tdcTrig {pos : Nat} {x : Stamp} (h : Keeps s₀ s) : Keeps s₀ (s.tdcTrig pos x) := by
  unfold State.tdcTrig
  split
  · exact .ite (.foldl h fun _ _ ht => .ite ht.sendTrig (.ite ht.tgMissed ht)) h
  · exact h

theorem Keeps.tgFix {e : Nat} {keep rest : List CapFrame} {late : Bool} (h : Keeps s₀ s) : Keeps s₀ (s.tgFix e keep rest late) := by
  unfold State.tgFix
  extract_lets +onlyGivenNames x a full room posts y y1 t
  have ht : Keeps s₀ t := h.setEng
  extract_lets +onlyGivenNames t1
  have ht1 : Keeps s₀ t1 := .ite ht ht.writePlaces.writePlaces
  exact .setTg (.ite (.tgEvent (.ite ht1.tgEvent ht1)) (.ite ht1.tgEvent ht1))

theorem Keeps.tgPlace {e : Nat} (h : Keeps s₀ s) : Keeps s₀ (s.tgPlace e) := by
  unfold State.tgPlace
  extract_lets +onlyGivenNames x
  split
  · exact h
  · exact .ite h.setEng.setTg (.ite h h.tgFix)

theorem Keeps.tgAct {e : Nat} (h : Keeps s₀ s) : Keeps s₀ (s.tgAct e) := .pinPulse (.foldl h fun _ _ ht => .ite ht.lineDrive ht)

theorem Keeps.trigger {e : Nat} {g : Trig} (h : Keeps s₀ s) : Keeps s₀ (s.trigger e g) := by
  unfold State.trigger
  extract_lets +onlyGivenNames x st
  refine .ite h ?_
  refine .ite h.tgMissed ?_
  refine .ite h.setEng.count ?_
  extract_lets +onlyGivenNames src
  split
  · exact h.setEng.setTg.set.tgAct.tgPlace
  · exact .ite h.setEng.set.tgPlace h.setEng

theorem execSwtrig_completes {m : Master} {e : Nat} : Completes s (execSwtrig m e s) := .next fun h => h.tgWrite fun _ ht => ht.trigger

theorem execTriggerReceive_completes {e : Nat} : Completes s (execTriggerReceive e s) := by
  unfold execTriggerReceive
  refine .ite .same ?_
  extract_lets +onlyGivenNames t
  split
  · exact .next fun h => h.tgAbsorb
  · exact .next fun h => h.tgAbsorb.setEng.trigger

theorem Keeps.level {e : Nat} {f : CapFrame} (h : Keeps s₀ s) : Keeps s₀ (s.level e f) := by
  unfold State.level
  extract_lets +onlyGivenNames x cls
  split
  · extract_lets +onlyGivenNames down x4 beyond hit t
    have ht : Keeps s₀ t := h.setEng
    refine .ite ht ?_
    split
    · exact ht
    · exact ht.trigger
  · exact h

theorem Keeps.prePlace {e : Nat} {f : CapFrame} (h : Keeps s₀ s) : Keeps s₀ (s.prePlace e f) := .ite h h.setEng.writePlace

theorem Keeps.putFrame {e : Nat} {f : CapFrame} (h : Keeps s₀ s) : Keeps s₀ (s.putFrame e f) := by
  unfold State.putFrame
  extract_lets +onlyGivenNames x
  refine .ite (.ite h.setEng.writePlace.setTg h.setEng.writePlace) ?_
  split
  · exact .ite (.ite h.tgFix (.ite h.tgFix.setEng.writePlace.setTg h.tgFix.setEng.writePlace)) h.prePlace
  · exact h.prePlace

theorem Keeps.closeFrame {e : Nat} {f : CapFrame} (h : Keeps s₀ s) : Keeps s₀ (s.closeFrame e f) :=
  .ite h.setEng.level.putFrame h.setEng.level

theorem execCaptureFrameClose_completes {e : Nat} {behind : Bool} : Completes s (execCaptureFrameClose e behind s) := by
  unfold execCaptureFrameClose
  refine .ite .same ?_
  extract_lets +onlyGivenNames t
  refine .ite (.next fun h => h.tgAbsorb) ?_
  refine .ite (.next fun h => h.tgAbsorb.setEng.setTg.tgEvent) ?_
  split
  · exact .next fun h => h.tgAbsorb
  · exact .ite (.next fun h => h.tgAbsorb.closeFrame) (.next fun h => h.tgAbsorb)

theorem Keeps.commitRec {e flags : Nat} (h : Keeps s₀ s) : Keeps s₀ (s.commitRec e flags) :=
  .tgEvent (.ite h.setEng.memWrite.sets.setEng.tgEvent h.setEng.memWrite.sets.setEng)

theorem execCaptureCommit_completes {e : Nat} : Completes s (execCaptureCommit e s) := .ite (.next fun h => h.commitRec) .same

theorem Keeps.tgIdle {e : Nat} (h : Keeps s₀ s) : Keeps s₀ (s.tgIdle e) := h.sets.setEng

theorem execCaptureRearm_completes {e : Nat} : Completes s (execCaptureRearm e s) :=
  .ite (.next fun h => .ite h.fillOrWait h.tgIdle) .same

theorem Keeps.tgAbort {e : Nat} (h : Keeps s₀ s) : Keeps s₀ (s.tgAbort e) := .ite h (.ite h.commitRec.tgIdle h.tgIdle)

theorem execEngineAbort_completes {m : Master} {e : Nat} : Completes s (execEngineAbort m e s) :=
  .next fun h => h.tgWrite fun _ ht => ht.tgAbort

theorem Keeps.tgRelease {e rel : Nat} (h : Keeps s₀ s) : Keeps s₀ (s.tgRelease e rel) := .ite h.set.fillOrWait h.set

theorem execCaptureSlotRelease_completes {m : Master} {e rel : Nat} : Completes s (execCaptureSlotRelease m e rel s) :=
  .next fun h => h.tgWrite fun _ ht => ht.tgRelease

theorem Keeps.captureStepped (h : Keeps s₀ s) : Keeps s₀ s.captureStepped :=
  .foldl h fun _ _ ht => .ite ht (.setEng (.foldl (.ite ht.commitRec (.ite ht.fill ht)) fun _ _ hu => hu.tgMissed))

theorem Keeps.captureRelabel {off : Int} (h : Keeps s₀ s) : Keeps s₀ (s.captureRelabel off) := h.frame

theorem Keeps.captureOff (h : Keeps s₀ s) : Keeps s₀ s.captureOff := .foldl (.foldl h fun _ _ ht => ht.tgAbort) fun _ _ ht => ht.set

/-! ### Supplies, temperatures and margins -/

theorem Keeps.measureIsl {m : IslMeas} (h : Keeps s₀ s) : Keeps s₀ (s.measureIsl m) := .ite h h.sets.frame

theorem Keeps.replanned {d : Dom} {isl old new : Nat} (h : Keeps s₀ s) : Keeps s₀ (s.replanned d isl old new) := h.event.recordBy

theorem Keeps.setVolt {d : Dom} {v : Nat} (h : Keeps s₀ s) : Keeps s₀ (s.setVolt d v) := h.set.replanned.frame

theorem Keeps.setFreq {d : Dom} {i c : Nat} (h : Keeps s₀ s) : Keeps s₀ (s.setFreq d i c) := h.relock.replanned.frame

theorem Keeps.replan {d : Dom} (h : Keeps s₀ s) : Keeps s₀ (s.replan d) := by
  unfold State.replan
  refine .ite h ?_
  split
  · exact h
  · extract_lets +onlyGivenNames m tgt hyst
    refine .ite (.ite h.frame.setVolt (.ite h.frame.setFreq h.frame.recordBy)) ?_
    refine .ite ?_ h.frame
    extract_lets +onlyGivenNames n s1 s2
    have hs2 : Keeps s₀ s2 := h.frame
    refine .ite hs2 ?_
    split
    · exact hs2.setFreq
    · exact .ite hs2.setVolt hs2

theorem execHealthPass_completes {meas : List IslMeas} : Completes s (execHealthPass meas s) := by
  unfold execHealthPass
  refine .ite ?_ ?_
  · exact .same
  · extract_lets +onlyGivenNames s1 s2 t t1
    refine .ite ?_ ?_
    · exact .next fun h => .replan (.replan (.event (.count (.foldl h.frame fun _ _ ht => ht.measureIsl))))
    · exact .next fun h => .event (.count (.foldl h.frame fun _ _ ht => ht.measureIsl))

theorem execPmbusVerify_completes {d : Dom} {vout adc : Nat} : Completes s (execPmbusVerify d vout adc s) :=
  .ite (.ite (.next fun h => h.frame) (.ite (.next fun h => h.frame) (.next fun h => h.setB.event.recordBy.frame))) .same

theorem Keeps.railOne {n mv : Nat} (h : Keeps s₀ s) : Keeps s₀ (s.railOne n mv) := by
  unfold State.railOne
  extract_lets +onlyGivenNames b s1
  have hs1 : Keeps s₀ s1 := h.set
  refine .ite ?_ ?_
  · exact hs1
  · exact .ite (.record (.event (.set (.ite hs1.frame.setB hs1.frame))))
      (.ite (.set (.ite hs1.frame.setB hs1.frame)) (.ite hs1.frame.setB hs1.frame))

theorem Keeps.rails {n : Nat} {l : List Nat} (h : Keeps s₀ s) : Keeps s₀ (s.rails n l) := by
  induction l generalizing n s with
  | nil => exact h
  | cons v l ih => exact .ite (ih h.railOne) h

theorem execRailSample_completes {mv : List Nat} : Completes s (execRailSample mv s) := .ite (.next fun h => h.frame.rails) .same

theorem Keeps.tempOne {i raw : Nat} (h : Keeps s₀ s) : Keeps s₀ (s.tempOne i raw) := by
  unfold State.tempOne
  extract_lets +onlyGivenNames b t s1
  have hs1 : Keeps s₀ s1 := h.set
  extract_lets +onlyGivenNames s2
  have hs2 : Keeps s₀ s2 := .ite hs1.set hs1
  exact .ite (.record (.event (.ite hs2.frame.event.record hs2.frame))) (.ite hs2.frame.event.record hs2.frame)

theorem execTempSample_completes {temps : List (Nat × Nat)} : Completes s (execTempSample temps s) :=
  .ite (.next fun h => .foldl h.frame fun _ _ ht => ht.tempOne) .same

theorem execPinReadback_completes {pin : Nat} {agree : Bool} : Completes s (execPinReadback pin agree s) := by
  unfold execPinReadback
  split
  · exact .same
  · exact .ite .same (.ite (.next fun h => h.frame.set.event.record) (.ite (.next fun h => h.frame.set) (.next fun h => h.frame)))

theorem Keeps.partner {kind idx new : Nat} (h : Keeps s₀ s) : Keeps s₀ (s.partner kind idx new) := .ite h (.ite h h.frame.recordBy)

/-! ### Integrity state -/

theorem Keeps.setOb {i : Nat} {o : ObsTile} (h : Keeps s₀ s) : Keeps s₀ (s.setOb i o) := h.frame

theorem Keeps.obEvent {i : Nat} {f : Fld} (h : Keeps s₀ s) : Keeps s₀ (s.obEvent i f) := h.event

theorem Keeps.obEventIf {c : Bool} {i : Nat} {f : Fld} (h : Keeps s₀ s) : Keeps s₀ (s.obEventIf c i f) := .ite h.obEvent h

theorem Keeps.setCause {i n : Nat} {b : Bool} (h : Keeps s₀ s) : Keeps s₀ (s.setCause i n b) := h.set

theorem Keeps.intUpdate {i : Nat} (h : Keeps s₀ s) : Keeps s₀ (s.intUpdate i) := .ite h (.ite h.set.obEvent.obEvent.record h.set.obEvent)

/-! ### The satellite signal chain -/

theorem Keeps.setRf {p : Nat} {x : RfPort} (h : Keeps s₀ s) : Keeps s₀ (s.setRf p x) := h.frame

theorem Keeps.refPorts (h : Keeps s₀ s) : Keeps s₀ s.refPorts := by
  unfold State.refPorts
  split
  · exact h
  · exact h.setCause.intUpdate

theorem Keeps.setTrk {c : Nat} {x : TrkChan} (h : Keeps s₀ s) : Keeps s₀ (s.setTrk c x) := h.frame

theorem Keeps.chTo {c st : Nat} (h : Keeps s₀ s) : Keeps s₀ (s.chTo c st) := h.set

theorem Keeps.chEvent {c : Nat} {f : Fld} (h : Keeps s₀ s) : Keeps s₀ (s.chEvent c f) := h.event

theorem Keeps.eachOf {f : Nat → State → State} {n : Nat} (h : Keeps s₀ s) (hf : ∀ n t, Keeps s₀ t → Keeps s₀ (f n t))
    : Keeps s₀ (eachOf f n s) := by
  induction n with
  | zero => exact h
  | succ n ih => exact hf n _ ih

theorem Keeps.toReacq {c : Nat} (h : Keeps s₀ s) : Keeps s₀ (s.toReacq c) := h.setTrk.chTo

theorem Keeps.portReacq {p : Nat} (h : Keeps s₀ s) : Keeps s₀ (s.portReacq p) := h.eachOf fun _ _ ht => .ite ht.toReacq ht

theorem Keeps.acqEnd {q r : Nat} (h : Keeps s₀ s) : Keeps s₀ (s.acqEnd q r) := h.sets.event

theorem Keeps.portAbort {p : Nat} (h : Keeps s₀ s) : Keeps s₀ (s.portAbort p) := h.eachOf fun _ _ ht => .ite ht.acqEnd ht

theorem Keeps.rfFail {p code : Nat} (h : Keeps s₀ s) : Keeps s₀ (s.rfFail p code) := by
  unfold State.rfFail
  exact .refPorts (.portAbort (.portReacq h.sets.event))

theorem Keeps.takeDesc {p : Nat} {d : List Byte} (h : Keeps s₀ s) : Keeps s₀ (s.takeDesc p d) := h.sets

theorem Keeps.feSpi {p : Nat} {f : RfPort → RfPort} (h : Keeps s₀ s) : Keeps s₀ (s.feSpi p f) := h.setRf

theorem Keeps.setAlign {p : Nat} {a : Alignment} (h : Keeps s₀ s) : Keeps s₀ (s.setAlign p a) := h.sets

theorem Keeps.pullIn {c code dop inst : Nat} {win : Option (Nat × Nat)} (h : Keeps s₀ s) : Keeps s₀ (s.pullIn c code dop inst win) :=
  h.setTrk.sets

theorem Keeps.chEnable {m : Master} {c : Nat} (h : Keeps s₀ s) : Keeps s₀ (s.chEnable m c) := by
  unfold State.chEnable
  extract_lets +onlyGivenNames b
  refine .ite h ?_
  extract_lets +onlyGivenNames r
  refine .ite h.set ?_
  extract_lets +onlyGivenNames t
  have ht : Keeps s₀ t := h.sets
  split
  · exact ht.pullIn
  · split
    · exact .ite ht.pullIn ht
    · exact ht

theorem Keeps.hintStart {x : ChHint} (h : Keeps s₀ s) : Keeps s₀ (s.hintStart x) :=
  .ite h (.when (.chEnable (.setTrk (.sets (.foldl h fun _ _ ht => ht.set)))) fun h => h.setTrk)

theorem Keeps.useHints {p : Nat} (h : Keeps s₀ s) : Keeps s₀ (s.useHints p) := .foldl h.frame fun _ _ ht => ht.hintStart

theorem Keeps.useKeep {p : Nat} (h : Keeps s₀ s) : Keeps s₀ (s.useKeep p) := by
  unfold State.useKeep
  split
  · exact h
  · exact .ite h.frame (.foldl h.frame.sets fun _ _ ht => ht.sets)

theorem Keeps.rfGoRun {p : Nat} (h : Keeps s₀ s) : Keeps s₀ (s.rfGoRun p) := .refPorts (.useHints (.useKeep (.ite h.sets.feSpi h.sets)))

theorem Keeps.rfTrain {p : Nat} {fe : FeProbe} {train : Bool} (h : Keeps s₀ s) : Keeps s₀ (s.rfTrain p fe train) := by
  unfold State.rfTrain
  refine .ite ?_ h.setAlign.rfGoRun
  extract_lets +onlyGivenNames t
  have ht : Keeps s₀ t := h.feSpi
  split
  · exact h.feSpi.rfFail
  · exact ht.setAlign.rfGoRun

theorem Keeps.rfSequence {p : Nat} {fe : FeProbe} (h : Keeps s₀ s) : Keeps s₀ (s.rfSequence p fe) := by
  unfold State.rfSequence
  extract_lets +onlyGivenNames b
  refine .ite ?_ ?_
  · exact h.rfFail
  · refine .ite ?_ ?_
    · exact h.rfTrain
    · extract_lets +onlyGivenNames t
      have ht : Keeps s₀ t := h.feSpi
      exact .ite ht.rfFail (.ite ht.takeDesc.partner.rfFail
        (.ite ht.takeDesc.partner.feSpi.sets.rfFail ht.takeDesc.partner.feSpi.sets.rfTrain))

theorem Keeps.rfEnable {m : Master} {p : Nat} {fe : FeProbe} (h : Keeps s₀ s) : Keeps s₀ (s.rfEnable m p fe) := .ite h h.set.rfSequence

theorem Keeps.rfWrite {m : Master} {p off : Nat} {f : State → State} (h : Keeps s₀ s) (hf : ∀ t, Keeps s₀ t → Keeps s₀ (f t))
    : Keeps s₀ (s.rfWrite m p off f) :=
  h.actWrite fun _ ht => .ite (hf _ ht) ht

theorem execRfPortEnable_completes {m : Master} {p : Nat} {fe : FeProbe} : Completes s (execRfPortEnable m p fe s) :=
  .next fun h => h.rfWrite fun _ ht => ht.rfEnable

theorem Keeps.rfRetrain {m : Master} {p : Nat} {fe : FeProbe} (h : Keeps s₀ s) : Keeps s₀ (s.rfRetrain m p fe) :=
  .ite h.portReacq.rfSequence h

theorem execRfRetrain_completes {m : Master} {p : Nat} {fe : FeProbe} : Completes s (execRfRetrain m p fe s) :=
  .next fun h => h.rfWrite fun _ ht => ht.rfRetrain

theorem execRfClockLoss_completes {p : Nat} : Completes s (execRfClockLoss p s) := .ite (.next fun h => h.rfFail) .same

theorem execRfAutoRetrain_completes {p : Nat} {fe : FeProbe} : Completes s (execRfAutoRetrain p fe s) :=
  .ite (.next fun h => h.rfRetrain) .same

theorem execRfRateCheck_completes {p sps : Nat} : Completes s (execRfRateCheck p sps s) :=
  .ite (.ite (.next fun h => h.set.set.event) (.next fun h => h.set.set)) .same

theorem Keeps.chPortOff {c : Nat} (h : Keeps s₀ s) : Keeps s₀ (s.chPortOff c) := .ite h h.chTo.chEvent

theorem Keeps.rfDisable {p : Nat} (h : Keeps s₀ s) : Keeps s₀ (s.rfDisable p) := by
  unfold State.rfDisable
  extract_lets t u
  have hu : Keeps s₀ u := h.sets.feSpi
  exact .refPorts (.portAbort (hu.eachOf fun _ _ hv => .ite hv.chPortOff hv))

theorem Keeps.jamLearn {p : Nat} (h : Keeps s₀ s) : Keeps s₀ (s.jamLearn p) := .ite h.setRf h

theorem execJamLearn_completes {m : Master} {p : Nat} : Completes s (execJamLearn m p s) :=
  .next fun h => h.rfWrite fun _ ht => ht.jamLearn

theorem execJamLearnDone_completes {p : Nat} : Completes s (execJamLearnDone p s) := by
  unfold execJamLearnDone
  split
  · exact .same
  · exact .ite .same (.next fun h => h.setRf.setS.set)

theorem Keeps.jamUpdate {p : Nat} {pow : Int} {sfm : Nat} (h : Keeps s₀ s) : Keeps s₀ (s.jamUpdate p pow sfm) := h.sets.setRf.eventIf

theorem Keeps.notchTrack {p : Nat} {bins : List Nat} {k : Nat} (h : Keeps s₀ s) : Keeps s₀ (s.notchTrack p bins k) :=
  .ite (.ite h.setRf.set h.setRf.setS.fresh) h

theorem Keeps.placeNotches {p : Nat} {ks cs : List Nat} (h : Keeps s₀ s) : Keeps s₀ (placeNotches p ks cs s) := by
  induction ks generalizing cs s with
  | nil => exact h
  | cons k ks ih =>
    cases cs with
    | nil => exact h
    | cons c cs => exact ih h.sets.setRf

theorem execNotchDetect_completes {p : Nat} {bins : List Nat} : Completes s (execNotchDetect p bins s) :=
  .ite (.next fun h => .jamUpdate (.eventIf (.placeNotches (.foldl h fun _ _ ht => ht.notchTrack)))) .same

theorem Keeps.biasShort {p : Nat} (h : Keeps s₀ s) : Keeps s₀ (s.biasShort p) := h.feSpi.set.refPorts

theorem Keeps.biasTry {p left : Nat} {all hi : Bool} (h : Keeps s₀ s) : Keeps s₀ (s.biasTry p left all hi) :=
  .ite h.setRf (.ite h.biasShort h.setRf.set.refPorts)

theorem execBiasSample_completes {p current : Nat} : Completes s (execBiasSample p current s) := by
  unfold execBiasSample
  extract_lets +onlyGivenNames b
  refine .ite ?_ .same
  extract_lets +onlyGivenNames cur t r hi under
  have ht : Keeps s t := .set .refl
  split
  · exact .next fun _ => ht.biasTry
  · refine .ite (.next fun _ => ht) (.ite (.next fun _ => ht.biasShort.event) (.ite ?_ ?_))
    · exact .ite (.next fun _ => ht.setRf.set.event) (.next fun _ => ht.setRf)
    · exact .ite (.next fun _ => ht.setRf.set) (.next fun _ => ht.setRf)

theorem execBiasRetry_completes {p : Nat} : Completes s (execBiasRetry p s) := .ite (.next fun h => h.feSpi) .same

theorem Keeps.acqGo {m : Master} {q : Nat} (h : Keeps s₀ s) : Keeps s₀ (s.acqGo m q) :=
  .ite h (.ite h.event (.ite h.sets.eventIf h.acqEnd))

theorem Keeps.acqAbort {q : Nat} (h : Keeps s₀ s) : Keeps s₀ (s.acqAbort q) := .ite h.acqEnd h

theorem execAcqGo_completes {m : Master} {q : Nat} : Completes s (execAcqGo m q s) := .next fun h => h.tileWrite fun _ ht => ht.acqGo

theorem execAcqAbort_completes {m : Master} {q : Nat} : Completes s (execAcqAbort m q s) :=
  .next fun h => h.tileWrite fun _ ht => ht.acqAbort

theorem Keeps.acqHand {q c : Nat} (h : Keeps s₀ s) : Keeps s₀ (s.acqHand q c) := by
  unfold State.acqHand
  extract_lets +onlyGivenNames b
  split
  · exact h
  · exact h.pullIn

theorem execAcqDone_completes {q : Nat} {capture : List Byte} {cells : AcqCells} {cn0 arrive : Nat}
    : Completes s (execAcqDone q capture cells cn0 arrive s) := by
  unfold execAcqDone
  extract_lets +onlyGivenNames b
  refine .ite ?_ ?_
  · extract_lets +onlyGivenNames s1 side nb m r hit t
    refine .ite ?_ ?_
    · extract_lets +onlyGivenNames at_ code edge step fine dop t1 c
      refine .ite ?_ ?_
      · exact .next fun h => h.memWrite.set.sets.acqEnd
      · exact .ite (.next fun h => h.memWrite.set.sets.acqHand.acqEnd) (.next fun h => h.memWrite.set.sets.acqEnd)
    · exact .next fun h => h.memWrite.set.acqEnd
  · exact .same

theorem Keeps.chDisable {c : Nat} (h : Keeps s₀ s) : Keeps s₀ (s.chDisable c) := h.set.chTo.setTrk

theorem execChEnable_completes {m : Master} {c : Nat} : Completes s (execChEnable m c s) :=
  .next fun h => h.tileWrite fun _ ht => ht.chEnable

theorem execChDisable_completes {m : Master} {c : Nat} : Completes s (execChDisable m c s) :=
  .next fun h => h.tileWrite fun _ ht => ht.chDisable

theorem Keeps.chAid {m : Master} {c at_ : Nat} (h : Keeps s₀ s) : Keeps s₀ (s.chAid m c at_) :=
  .ite (.ite h.set.pullIn h.set.setTrk) h.chEvent

theorem execChAidSubmit_completes {m : Master} {c at_ : Nat} : Completes s (execChAidSubmit m c at_ s) :=
  .next fun h => h.tileWrite fun _ ht => ht.chAid

theorem Keeps.chShow {c pli cn0 : Nat} (h : Keeps s₀ s) : Keeps s₀ (s.chShow c pli cn0) := h.sets

theorem execChTrackLock_completes {c pli cn0 freqErr : Nat} {dcode ddop : Int}
    : Completes s (execChTrackLock c pli cn0 freqErr dcode ddop s) :=
  .ite .same (.ite (.next fun h => h.chTo.chShow.setTrk) (.ite (.next fun h => h.chTo.chShow.setTrk.chEvent) .same))

theorem execChPullinFail_completes {c cn0 : Nat} : Completes s (execChPullinFail c cn0 s) :=
  .ite (.next fun h => h.chTo.set.chEvent) .same

theorem Keeps.aidTime {c : Nat} (h : Keeps s₀ s) : Keeps s₀ (s.aidTime c) := .ite h.chTo.set h

theorem execChSync_completes {c : Nat} {frame tow polarity : Bool} : Completes s (execChSync c frame tow polarity s) :=
  .ite (.next fun h => .aidTime (.ite (.set (.ite (.set (.ite h.chTo h)) (.ite h.chTo h)))
    (.ite (.set (.ite h.chTo h)) (.ite h.chTo h)))) .same

theorem execChLockLoss_completes {c pli cn0 : Nat} : Completes s (execChLockLoss c pli cn0 s) :=
  .ite (.next fun h => h.toReacq.chShow) .same

theorem execChReacqTimeout_completes {c : Nat} : Completes s (execChReacqTimeout c s) := .ite (.next fun h => h.chTo.chEvent) .same

theorem Keeps.measItem {inst epoch : Nat} {ms : List ChMeas} {lane : Nat} (h : Keeps s₀ s)
    : Keeps s₀ (s.measItem inst epoch ms lane) := by
  unfold State.measItem
  extract_lets +onlyGivenNames c
  refine .ite ?_ h
  extract_lets +onlyGivenNames t r x _ u v
  have hr : Keeps s₀ r.1 := by
    unfold r
    split
    · exact h.aidTime
    · exact h.aidTime.drawn
  have hv : Keeps s₀ v := hr.setTrk.set
  split
  · exact hv
  · exact hv.emit

theorem Keeps.navSyms {inst : Nat} {n : NavSyms} (h : Keeps s₀ s) : Keeps s₀ (s.navSyms inst n) := by
  unfold State.navSyms
  extract_lets +onlyGivenNames c b
  split
  · exact .ite h.emit h
  · exact h

theorem execMeasEpoch_completes {inst : Nat} {ms : List ChMeas} {nav : List NavSyms} : Completes s (execMeasEpoch inst ms nav s) := by
  unfold execMeasEpoch
  extract_lets +onlyGivenNames g
  split
  · exact .same
  · exact .ite (.next fun h => .frame (.foldl (.foldl h fun _ _ ht => ht.measItem) fun _ _ ht => ht.navSyms)) .same

theorem Keeps.gnssSecond (h : Keeps s₀ s) : Keeps s₀ s.gnssSecond := h.frame

theorem Keeps.gnssRelabel {off : Int} (h : Keeps s₀ s) : Keeps s₀ (s.gnssRelabel off) := h.frame

theorem Keeps.gnssStepped {off : Int} (h : Keeps s₀ s) : Keeps s₀ (s.gnssStepped off) := h.gnssRelabel.frame

theorem Keeps.gnssOff (h : Keeps s₀ s) : Keeps s₀ s.gnssOff :=
  .refPorts (.eachOf (.eachOf (h.eachOf (fun _ _ ht => ht.acqAbort)) (fun _ _ ht => .ite ht ht.chTo))
    (fun _ _ ht => .ite ht.sets.feSpi ht))

/-! ### The reference station -/

theorem Keeps.outSend {s t : State} {i n : Nat} {c : CorrOut} (h : Keeps s₀ s) (e : s.outSend i n c = some t) : Keeps s₀ t := by
  unfold State.outSend at e
  dsimp only at e
  split at e
  · cases e
  · next e1 => exact (h.takeSlot e1).memWrite.sendItem e

theorem Keeps.outDrain {i n f : Nat} (h : Keeps s₀ s) : Keeps s₀ (outDrain i n f s) := by
  induction f generalizing s with
  | zero => exact h
  | succ f ih =>
    unfold Machine.outDrain
    split
    · exact h
    · split
      · exact h
      · next e => exact ih (h.outSend e).setOb

theorem Keeps.latency {i e : Nat} (h : Keeps s₀ s) : Keeps s₀ (s.latency i e) := h.sets.obEventIf

theorem Keeps.queued {i : Nat} (h : Keeps s₀ s) : Keeps s₀ (s.queued i) := by
  unfold State.queued
  split
  · exact h
  · exact .ite h.setOb.latency h

theorem Keeps.outsDrain {i : Nat} (h : Keeps s₀ s) : Keeps s₀ (s.outsDrain i) := .ite (.queued (.foldl h fun _ _ ht => ht.outDrain)) h

theorem Keeps.outPut {i n : Nat} {l : List CorrOut} (h : Keeps s₀ s) : Keeps s₀ (s.outPut i n l) := h.count.obEventIf.setOb.outDrain

theorem execCreditReturn_completes {link : Nat} : Completes s (execCreditReturn link s) := .next fun h => h.creditBack.outsDrain.outsDrain

theorem Keeps.pcvReply {i e tag : Nat} {v : Option Int} (h : Keeps s₀ s) : Keeps s₀ (s.pcvReply i e tag v) := .ite h.setOb.count h.setOb

theorem Keeps.askPcv {i : Nat} {r : ObsRec} (h : Keeps s₀ s) : Keeps s₀ (s.askPcv i r) := .ite h.setOb.emit h.setOb.pcvReply

theorem Keeps.addRec {i : Nat} {r : ObsRec} (h : Keeps s₀ s) : Keeps s₀ (s.addRec i r) := by
  unfold State.addRec
  extract_lets +onlyGivenNames keep
  have hkeep : ∀ t x, Keeps s₀ t → Keeps s₀ (keep t x) := fun _ _ ht => ht.setOb
  refine .ite (hkeep _ _ h) ?_
  split
  · split
    · exact hkeep _ _ h
    · exact .count (hkeep _ _ h)
  · exact .askPcv (hkeep _ _ h)

theorem Keeps.freeCtxs {i : Nat} (h : Keeps s₀ s) : Keeps s₀ (s.freeCtxs i) := .setOb (.foldl h fun _ _ ht => ht.sets)

theorem Keeps.forward {i : Nat} {l : List ObsRec} (h : Keeps s₀ s) : Keeps s₀ (s.forward i l) := by
  unfold State.forward
  split
  · exact h
  · exact .foldl h fun _ _ ht => ht.emit

theorem Keeps.closeAt {i e : Nat} (h : Keeps s₀ s) : Keeps s₀ (s.closeAt i e) :=
  .ite (.foldl h.setOb.freeCtxs.count.setOb fun _ _ ht => ht.addRec) h.setOb.freeCtxs.count.forward

theorem Keeps.closeEpoch {i : Nat} (h : Keeps s₀ s) : Keeps s₀ (s.closeEpoch i) := by
  unfold State.closeEpoch
  split
  · exact h
  · exact h.closeAt

theorem Keeps.newCtx {s t : State} {i sig svid : Nat} {x : ObsCtx} (h : Keeps s₀ s) (e : s.newCtx i sig svid = some (t, x))
    : Keeps s₀ t := by
  unfold State.newCtx at e
  split at e
  · cases e
  · cases e
    exact h.sets

theorem Keeps.fileIn {i : Nat} {c : ObsCtx} {words : List Nat} (h : Keeps s₀ s) : Keeps s₀ (s.fileIn i c words) :=
  .ite (.ite h.count h) (.setOb (.set (.ite h.count h)))

theorem Keeps.catchUp {i e f : Nat} (h : Keeps s₀ s) : Keeps s₀ (State.catchUp i e f s) := by
  induction f generalizing s with
  | zero => exact h
  | succ f ih =>
    unfold State.catchUp
    split
    · exact .ite (ih h.closeAt) h
    · exact h

theorem Keeps.fileItem {i : Nat} {words : List Nat} (h : Keeps s₀ s) : Keeps s₀ (s.fileItem i words) := by
  unfold State.fileItem
  extract_lets +onlyGivenNames e o
  refine .ite h.count ?_
  refine .ite h.count ?_
  extract_lets +onlyGivenNames s1
  have hs1 : Keeps s₀ s1 := h.catchUp
  extract_lets +onlyGivenNames s2 s3
  have hs3 : Keeps s₀ s3 := hs1.setOb
  extract_lets +onlyGivenNames sig svid t
  have ht : Keeps s₀ t := by
    unfold t
    split
    · exact hs3.fileIn
    · split
      · next e2 => exact .fileIn (hs3.newCtx e2)
      · exact hs3.count.obEvent
  exact .ite ht.closeEpoch ht

theorem execMeasItem_completes {inst : Nat} : Completes s (execMeasItem inst s) := by
  unfold execMeasItem
  split
  · exact .same
  · exact .next fun h => .ite h.taken.outsDrain.fileItem h.taken

theorem Keeps.setDir {i : Nat} {d : SatDir} (h : Keeps s₀ s) : Keeps s₀ (s.setDir i d) := .setOb (.foldl h fun _ _ ht => ht.sets)

theorem execNavItem_completes {inst : Nat} {azel : Option (Nat × Int)} : Completes s (execNavItem inst azel s) := by
  unfold execNavItem
  split
  · exact .same
  · extract_lets +onlyGivenNames t
    split
    · exact .next fun h => .ite h.taken.setDir h.taken
    · exact .next fun h => h.taken

theorem execObsForwardItem_completes {inst : Nat} : Completes s (execObsForwardItem inst s) := by
  unfold execObsForwardItem
  split
  · exact .same
  · exact .next fun h => .ite h.taken.addRec h.taken

theorem execEpochCloseTimeout_completes {inst : Nat} : Completes s (execEpochCloseTimeout inst s) := by
  unfold execEpochCloseTimeout
  split
  · exact .same
  · exact .ite (.next fun h => h.outsDrain.closeAt) .same

theorem execLookupReply_completes {inst : Nat} : Completes s (execLookupReply inst s) := by
  unfold execLookupReply
  split
  · exact .same
  · extract_lets +onlyGivenNames w t
    split
    · exact .next fun h => .ite h.taken.pcvReply h.taken
    · exact .next fun h => h.taken

theorem Keeps.svState {i st : Nat} (h : Keeps s₀ s) : Keeps s₀ (s.svState i st) := h.set.setCause.intUpdate

theorem Keeps.timeCause {i : Nat} (h : Keeps s₀ s) : Keeps s₀ (s.timeCause i) := .ite h.setCause h

theorem Keeps.monitor {i : Nat} {x : EpochSol} (h : Keeps s₀ s) : Keeps s₀ (s.monitor i x) :=
  .setCause (.setCause (.setCause (.ite h.set.setOb.set.setCause h.set.setOb)))

theorem Keeps.obWrite {m : Master} {i off : Nat} {f : State → State} (h : Keeps s₀ s) (hf : ∀ t, Keeps s₀ t → Keeps s₀ (f t))
    : Keeps s₀ (s.obWrite m i off f) :=
  h.actWrite fun _ ht => .ite (hf _ ht) ht

theorem Keeps.intClear {i : Nat} (h : Keeps s₀ s) : Keeps s₀ (s.intClear i) := .ite h.setCause.setCause.intUpdate h

theorem execIntClear_completes {m : Master} {inst : Nat} : Completes s (execIntClear m inst s) :=
  .next fun h => h.obWrite fun _ ht => ht.intClear

theorem execUnmonTimeout_completes {inst : Nat} : Completes s (execUnmonTimeout inst s) :=
  .ite (.next fun h => h.setCause.intUpdate) .same

theorem execHoldoverTimeLimit_completes {inst : Nat} : Completes s (execHoldoverTimeLimit inst s) :=
  .ite (.next fun h => h.timeCause.intUpdate) .same

theorem Keeps.fixPos {i src : Nat} {p : Int × Int × Int} (h : Keeps s₀ s) : Keeps s₀ (s.fixPos i src p) :=
  .svState (.obEvent (.setOb (.ite (.set (.ite h.sets h.sets.set)) (.ite h.sets h.sets.set))))

theorem Keeps.checkStart {i : Nat} (h : Keeps s₀ s) : Keeps s₀ (s.checkStart i) := .ite h.setOb.svState h.setOb.obEvent.svState

theorem Keeps.surveyStart {i : Nat} (h : Keeps s₀ s) : Keeps s₀ (s.surveyStart i) := by
  unfold State.surveyStart
  extract_lets +onlyGivenNames b
  split
  · exact h.sets.setOb.svState
  · exact h.obEvent
  · exact h.checkStart

theorem execSurveyStart_completes {m : Master} {inst : Nat} : Completes s (execSurveyStart m inst s) :=
  .next fun h => h.obWrite fun _ ht => ht.surveyStart

theorem execSurveyComplete_completes {inst : Nat} : Completes s (execSurveyComplete inst s) :=
  .ite (.next fun h => .fixPos (.ite h h.set.obEvent)) .same

theorem execPositionCheckDone_completes {inst : Nat} : Completes s (execPositionCheckDone inst s) :=
  .ite (.ite (.next fun h => h.fixPos) (.next fun h => h.obEvent.svState)) .same

theorem Keeps.poszWrite {i v : Nat} (h : Keeps s₀ s) : Keeps s₀ (s.poszWrite i v) := .ite h.set.checkStart h.set

theorem execPoszWrite_completes {m : Master} {inst v : Nat} : Completes s (execPoszWrite m inst v s) :=
  .next fun h => h.obWrite fun _ ht => ht.poszWrite

theorem Keeps.baseWrite {i v : Nat} (h : Keeps s₀ s) : Keeps s₀ (s.baseWrite i v) := .ite h.sets.intUpdate h.obEvent

theorem execBaseWrite_completes {m : Master} {inst v : Nat} : Completes s (execBaseWrite m inst v s) :=
  .next fun h => h.obWrite fun _ ht => ht.baseWrite

theorem execBaselineAvgDone_completes {inst : Nat} : Completes s (execBaselineAvgDone inst s) :=
  .ite (.next fun h => h.sets.intUpdate) .same

theorem Keeps.sidcCommit {i v : Nat} (h : Keeps s₀ s) : Keeps s₀ (s.sidcCommit i v) := h.sets.setOb

theorem execSidcCommit_completes {m : Master} {inst v : Nat} : Completes s (execSidcCommit m inst v s) :=
  .next fun h => h.obWrite fun _ ht => ht.sidcCommit

theorem Keeps.outEnable {i n : Nat} (h : Keeps s₀ s) : Keeps s₀ (s.outEnable i n) := .ite h.sets h.sets

theorem Keeps.outDisable {i n : Nat} (h : Keeps s₀ s) : Keeps s₀ (s.outDisable i n) := h.sets.setOb

theorem execOutEnable_completes {m : Master} {inst n : Nat} : Completes s (execOutEnable m inst n s) :=
  .next fun h => h.obWrite fun _ ht => .ite ht.outEnable ht

theorem Keeps.outAll {i e : Nat} {ms : List RtcmMsg} (h : Keeps s₀ s) : Keeps s₀ (s.outAll i e ms) :=
  .foldl h fun _ _ ht => .ite (.ite ht ht.outPut) ht

theorem Keeps.report {i e : Nat} {x : EpochSol} (h : Keeps s₀ s) : Keeps s₀ (s.report i e x) := .ite h.sets.sets h.sets

theorem Keeps.accumulate {i e : Nat} {x : EpochSol} (h : Keeps s₀ s) : Keeps s₀ (s.accumulate i e x) := .ite h.setOb.sets h.setOb

theorem Keeps.outEpoch {i e : Nat} {ms : List RtcmMsg} (h : Keeps s₀ s) : Keeps s₀ (s.outEpoch i e ms) := by
  unfold State.outEpoch
  extract_lets +onlyGivenNames t
  have ht : Keeps s₀ t := by
    unfold t
    split
    · exact h.latency
    · exact h
  exact ht.setOb.outAll.queued

theorem execCorrectionEncode_completes {inst : Nat} {sol : EpochSol} : Completes s (execCorrectionEncode inst sol s) := by
  unfold execCorrectionEncode
  split
  · exact .same
  · exact .ite (.next fun h => h.report.accumulate.monitor.timeCause.intUpdate.refPorts.outEpoch.setOb) .same

theorem Keeps.obsSecond (h : Keeps s₀ s) : Keeps s₀ s.obsSecond := .foldl h fun _ _ ht => .ite ht.setOb.count ht.setOb

theorem Keeps.obsRelabel {off : Int} (h : Keeps s₀ s) : Keeps s₀ (s.obsRelabel off) := h.frame

theorem Keeps.obsStepped {off : Int} (h : Keeps s₀ s) : Keeps s₀ (s.obsStepped off) := h.frame

theorem Keeps.obsClear {i : Nat} (h : Keeps s₀ s) : Keeps s₀ (s.obsClear i) := .setOb (.foldl h fun _ _ ht => ht.sets)

theorem Keeps.obsModeAt {i : Nat} {old new : Mode} (h : Keeps s₀ s) : Keeps s₀ (s.obsModeAt i old new) := by
  unfold State.obsModeAt
  extract_lets +onlyGivenNames b one t t1
  have ht1 : Keeps s₀ t1 := .ite h.setOb.obEventIf h
  extract_lets +onlyGivenNames t2
  have ht2 : Keeps s₀ t2 := .ite (.ite ht1.obsClear.svState ht1.obsClear) ht1
  extract_lets +onlyGivenNames t3
  have ht3 : Keeps s₀ t3 := ht2.setCause
  exact .ite (.ite (.surveyStart (.intUpdate (.ite ht3.setCause ht3))) (.intUpdate (.ite ht3.setCause ht3))) (.ite ht3.setCause ht3)

theorem Keeps.obsMode {old new : Mode} (h : Keeps s₀ s) : Keeps s₀ (s.obsMode old new) := h.obsModeAt.obsModeAt

/-! ### Cocoon -/

theorem Keeps.coNext (h : Keeps s₀ s) : Keeps s₀ s.coNext := h.set

theorem Keeps.coPut {v : Nat} (h : Keeps s₀ s) : Keeps s₀ (s.coPut v) := by
  unfold State.coPut
  extract_lets +onlyGivenNames i w
  have hw (hk : Rising s.cocoon) : Rising w := by
    unfold w
    split
    · exact hk.assocDel
    · exact hk.assocSet
  exact .coNext (.set (h.cocoon hw).frame)

theorem Keeps.coGet (h : Keeps s₀ s) : Keeps s₀ s.coGet.1 := .ite_fst h.sets.coNext h.coNext

theorem execCocDataWrite_completes {m : Master} {v : Nat} : Completes s (execCocDataWrite m v s) :=
  .next fun h => h.actWrite fun _ ht => ht.coPut

theorem execCocDataRead_completes {m : Master} {bad : Bool} : Completes s (execCocDataRead m bad s) :=
  .ite (.next fun h => .answer (.coGet (.ite h.frame h))) (.next fun h => h.violation)

/-- Words put into a store that rises leave it rising. -/
theorem Rising.putWords {l m : List (Nat × Nat)} (h : Rising m) : Rising (putWords l m) := by
  refine Rising.foldl (fun m w hm => ?_) l h
  split
  · exact hm.assocDel
  · exact hm.assocSet

theorem Keeps.cocoonWrite {nav : List (Nat × Nat)} (h : Keeps s₀ s) : Keeps s₀ (s.cocoonWrite nav) := by
  delta State.cocoonWrite
  extract_lets +onlyGivenNames body t
  have ht : Keeps s₀ t := h.sets
  have hb : Rising (putWords (s.cocHeader body) body) := .putWords (.putWords .nil)
  generalize putWords (s.cocHeader body) body = words at hb ⊢
  exact (ht.cocoon fun _ => hb).frame

theorem Keeps.takeDirs (h : Keeps s₀ s) : Keeps s₀ s.takeDirs := .drawn (.foldl h fun _ _ ht => .ite ht.setOb ht)

/-! ### DMA channels -/

theorem Keeps.setDm {ch : Nat} {l : DmaLane} (h : Keeps s₀ s) : Keeps s₀ (s.setDm ch l) := h.frame

theorem Keeps.post {a : Nat} {l : List Byte} (h : Keeps s₀ s) : Keeps s₀ (s.post a l) := h.frame

theorem Keeps.dmWriteRec {ch : Nat} {r : List Byte} (h : Keeps s₀ s) : Keeps s₀ (s.dmWriteRec ch r) :=
  .ite (.ite h.post (.ite h.memWrite h)) h

theorem Keeps.dmEnd {ch status : Nat} (h : Keeps s₀ s) : Keeps s₀ (s.dmEnd ch status) :=
  .ite (.msix (.ite h.dmWriteRec.sets.setDm.toggle h.dmWriteRec.sets.setDm)) (.ite h.dmWriteRec.sets.setDm.toggle h.dmWriteRec.sets.setDm)

theorem Keeps.dmStart {ch : Nat} (h : Keeps s₀ s) : Keeps s₀ (s.dmStart ch) := .ite h.sets.event (.ite h.sets.setDm.dmEnd h.sets.setDm)

theorem Keeps.dmCopy {ch : Nat} (h : Keeps s₀ s) : Keeps s₀ (s.dmCopy ch) := h.sets

theorem Keeps.dmFinish {ch status : Nat} (h : Keeps s₀ s) : Keeps s₀ (s.dmFinish ch status) := .ite h.dmEnd.dmCopy.dmStart h.dmEnd

theorem Keeps.dmPrepSide {ch : Nat} {fa fl fe : Fld} {sd : DmaSide} (h : Keeps s₀ s) : Keeps s₀ (s.dmPrepSide ch fa fl fe sd).1 :=
  .ite_fst h.sets h

theorem Keeps.dmPrep {ch : Nat} (h : Keeps s₀ s) : Keeps s₀ (s.dmPrep ch).1 := .ite_fst h.dmPrepSide.dmPrepSide.setDm h

theorem Keeps.dmIssue {ch : Nat} {x : DmaBeat} (h : Keeps s₀ s) : Keeps s₀ (s.dmIssue ch x) := by
  unfold State.dmIssue
  extract_lets +onlyGivenNames b l
  split
  · exact .setDm (.ite (.ite h.set h.set.set) (.set (.ite h.set h.set.set)))
  · exact h.setDm

theorem Keeps.dmPick {s t : State} {tile ch : Nat} {x : DmaBeat} (h : Keeps s₀ s) (e : s.dmPick tile = some (ch, t, x)) : Keeps s₀ t := by
  unfold State.dmPick at e
  have hmem := List.mem_of_find?_eq_some e
  simp only [List.mem_filterMap, Option.map_eq_some_iff, Prod.mk.injEq] at hmem
  obtain ⟨c, -, b, -, -, rfl, -⟩ := hmem
  exact h.dmPrep

theorem Keeps.dmServe {tile n : Nat} (h : Keeps s₀ s) : Keeps s₀ (s.dmServe tile n) := by
  induction n generalizing s with
  | zero => exact h
  | succ n ih =>
    unfold State.dmServe
    refine .ite h ?_
    split
    · next e => exact ih (h.dmPick e).dmIssue.frame
    · exact h

theorem Keeps.dmSettle {ch : Nat} (h : Keeps s₀ s) : Keeps s₀ (s.dmSettle ch) := by
  unfold State.dmSettle
  extract_lets +onlyGivenNames l st
  refine .ite ?_ h
  split
  · exact h.dmFinish
  · exact h.dmFinish
  · exact .ite h.dmFinish (.ite h.set.event h)

theorem Keeps.dmRound {ch : Nat} (h : Keeps s₀ s) : Keeps s₀ (s.dmRound ch) := h.dmPrep.dmServe.dmSettle

theorem Keeps.dmKick {ch : Nat} (h : Keeps s₀ s) : Keeps s₀ (s.dmKick ch) := h.dmRound.dmRound

theorem Keeps.readUntil {n w : Nat} (h : Keeps s₀ s) : Keeps s₀ (readUntil n w s).1 := by
  induction n generalizing w s with
  | zero => exact h
  | succ n ih => exact ih h.readWord

theorem Keeps.dmAccess {s t : State} {ch a n : Nat} (h : Keeps s₀ s) (e : s.dmAccess ch a n = some t) : Keeps s₀ t := by
  unfold State.dmAccess at e
  dsimp only at e
  split at e
  · cases e
    exact h.accessEvent
  · obtain ⟨f, -, rfl⟩ := Option.map_eq_some_iff.mp e
    exact h.accessEvent

theorem Keeps.dmRead {ch a n : Nat} {h1 : Bool} {host : Option (List Byte)} (h : Keeps s₀ s) : Keeps s₀ (s.dmRead ch a n h1 host).1 := by
  unfold State.dmRead
  refine .ite_fst ?_ ?_
  · split
    · exact h
    · exact h.event
  · split
    · next e => exact h.dmAccess e
    · exact .ite_fst h.readUntil h.readUntil

theorem Keeps.dmWrite {ch a : Nat} {n : Bool} {l : List Byte} (h : Keeps s₀ s) : Keeps s₀ (s.dmWrite ch a n l).1 := by
  unfold State.dmWrite
  refine .ite_fst h ?_
  refine .ite_fst h.post ?_
  split
  · next e => exact h.dmAccess e
  · exact h.memWrite

theorem Keeps.dmAnswer {ch : Nat} {x : DmaBeat} {host : Option (List Byte)} (h : Keeps s₀ s) : Keeps s₀ (s.dmAnswer ch x host) := by
  unfold State.dmAnswer
  extract_lets +onlyGivenNames r l failed
  have hfailed : ∀ t c, Keeps s₀ t → Keeps s₀ (failed t c) := fun _ _ ht => ht.setDm
  refine .ite (hfailed _ _ h.dmRead) ?_
  split
  · exact .ite (.ite (hfailed _ _ h.dmRead.dmWrite.set.setDm) h.dmRead.dmWrite.set.setDm) (hfailed _ _ h.dmRead.dmWrite)
  · exact .ite (hfailed _ _ h.dmRead) h.dmRead.setDm

theorem execDmaBeatComplete_completes {ch : Nat} {host : Option (List Byte)} : Completes s (execDmaBeatComplete ch host s) := by
  unfold execDmaBeatComplete
  extract_lets +onlyGivenNames l
  split
  · exact .same
  · exact .next fun h => .dmKick (.ite h.setDm h.setDm.dmAnswer)

theorem Keeps.dmArm {ch : Nat} (h : Keeps s₀ s) : Keeps s₀ (s.dmArm ch) := .ite h.dmStart.dmKick (.ite h.set h)

theorem Keeps.dmAbort {ch : Nat} (h : Keeps s₀ s) : Keeps s₀ (s.dmAbort ch) := .ite h.setDm.dmSettle (.ite h.dmFinish h)

theorem Keeps.dmContinue {ch : Nat} (h : Keeps s₀ s) : Keeps s₀ (s.dmContinue ch) := .ite h.dmCopy.dmStart.dmKick h

theorem Keeps.dmResume {ch : Nat} (h : Keeps s₀ s) : Keeps s₀ (s.dmResume ch) := .ite (.ite h.event h.set.dmKick) h

theorem Keeps.dmShGo {ch : Nat} (h : Keeps s₀ s) : Keeps s₀ (s.dmShGo ch) := h.set

theorem Keeps.dmShClr {ch : Nat} (h : Keeps s₀ s) : Keeps s₀ (s.dmShClr ch) := h.set

theorem Keeps.dmCtl {m : Master} {ch : Nat} {f : State → State} (h : Keeps s₀ s) (hf : ∀ t, Keeps s₀ t → Keeps s₀ (f t))
    : Keeps s₀ (s.dmCtl m ch f) :=
  h.tileWrite fun _ ht => hf _ ht

theorem execDmaArm_completes {m : Master} {ch : Nat} : Completes s (execDmaArm m ch s) :=
  .ite (.next fun h => h.dmCtl (fun _ ht => ht.dmArm)) .same

theorem execDmaAbort_completes {m : Master} {ch : Nat} : Completes s (execDmaAbort m ch s) :=
  .ite (.next fun h => h.dmCtl (fun _ ht => ht.dmAbort)) .same

theorem execDmaContinue_completes {m : Master} {ch : Nat} : Completes s (execDmaContinue m ch s) :=
  .ite (.next fun h => h.dmCtl (fun _ ht => ht.dmContinue)) .same

theorem execDmaResume_completes {m : Master} {ch : Nat} : Completes s (execDmaResume m ch s) :=
  .ite (.next fun h => h.dmCtl (fun _ ht => ht.dmResume)) .same

theorem execShGo_completes {m : Master} {ch : Nat} : Completes s (execShGo m ch s) :=
  .ite (.next fun h => h.dmCtl (fun _ ht => ht.dmShGo)) .same

theorem execShClr_completes {m : Master} {ch : Nat} : Completes s (execShClr m ch s) :=
  .ite (.next fun h => h.dmCtl (fun _ ht => ht.dmShClr)) .same

theorem Keeps.dmHoldAll {d : Dom} {l : List Nat} (h : Keeps s₀ s) : Keeps s₀ (s.dmHoldAll d l) := by
  induction l generalizing s with
  | nil => exact h
  | cons c l ih => exact ih (.ite h.set.dmSettle h)

theorem execDmaSuspend_completes {d : Dom} : Completes s (execDmaSuspend d s) := .ite (.next fun h => h.dmHoldAll) .same

theorem Keeps.dmAbortAll {d : Dom} {l : List Nat} (h : Keeps s₀ s) : Keeps s₀ (s.dmAbortAll d l) := by
  induction l generalizing s with
  | nil => exact h
  | cons c l ih => exact ih (.ite h.dmFinish h)

theorem execDmaPowerAbort_completes {d : Dom} : Completes s (execDmaPowerAbort d s) := .ite (.next fun h => h.dmAbortAll) .same

theorem Keeps.dmPowerDown {ds : List Dom} (h : Keeps s₀ s) : Keeps s₀ (s.dmPowerDown ds) := .foldl h fun _ _ ht => ht.dmHoldAll.dmAbortAll

/-! ### Ethernet ports -/

theorem Keeps.setPort {p : Nat} {e : EthPort} (h : Keeps s₀ s) : Keeps s₀ (s.setPort p e) := h.frame

theorem Keeps.ethEvent {p : Nat} {f : Fld} (h : Keeps s₀ s) : Keeps s₀ (s.ethEvent p f) := h.event

theorem Keeps.showPair (h : Keeps s₀ s) : Keeps s₀ s.showPair := .ite h.set h.set.set

theorem Keeps.setRole {p r : Nat} (h : Keeps s₀ s) : Keeps s₀ (s.setRole p r) := h.set.showPair

theorem Keeps.pairStart (h : Keeps s₀ s) : Keeps s₀ s.pairStart := h.setRole.setRole.frame

theorem Keeps.pairEnd (h : Keeps s₀ s) : Keeps s₀ s.pairEnd := h.setRole.setRole.frame

theorem Keeps.txFree {f : TxFrame} (h : Keeps s₀ s) : Keeps s₀ (s.txFree f) := by
  unfold State.txFree
  extract_lets +onlyGivenNames s1
  have hs1 : Keeps s₀ s1 := by
    unfold s1
    split
    · exact h.freeSlot
    · exact h
  split
  · exact hs1.set
  · exact hs1

theorem Keeps.moveTo {p q oldRole : Nat} (h : Keeps s₀ s) : Keeps s₀ (s.moveTo p q oldRole) :=
  h.setPort.setPort.frame.setRole.setRole.count

theorem Keeps.pairDown {p : Nat} (h : Keeps s₀ s) : Keeps s₀ (s.pairDown p) := h.setPort.setRole.frame

theorem Keeps.detect {a b : Bool} (h : Keeps s₀ s) : Keeps s₀ (s.detect a b) := by
  unfold State.detect
  extract_lets +onlyGivenNames hit live s1
  have hs1 : Keeps s₀ s1 := .ite h.set h
  extract_lets +onlyGivenNames s2
  have hs2 : Keeps s₀ s2 := .foldl hs1 fun _ _ ht => .ite ht.setRole ht
  split
  · exact hs2
  · exact .ite hs2 (.ite hs2.moveTo.ethEvent.record hs2.pairDown)

theorem Keeps.repairing {p : Nat} (h : Keeps s₀ s) : Keeps s₀ (s.repairing p) := h.setPort.setRole

theorem Keeps.linkChange {p : Nat} {up : Bool} {speed word : Nat} (h : Keeps s₀ s) : Keeps s₀ (s.linkChange p up speed word) := by
  unfold State.linkChange
  extract_lets +onlyGivenNames b rate s1
  have hs1 : Keeps s₀ s1 := .ite h.sets h.set
  extract_lets +onlyGivenNames s2
  have hs2 : Keeps s₀ s2 := .ite hs1.sets hs1
  exact .ite hs2.ethEvent (.ite hs2.ethEvent.detect (.ite hs2.ethEvent.repairing hs2.ethEvent))

theorem execEthLinkChange_completes {port : Nat} {up : Bool} {speed word : Nat} : Completes s (execEthLinkChange port up speed word s) :=
  .ite (.next fun h => h.linkChange) .same

theorem Keeps.heartbeat {p : Nat} {f : List Byte} (h : Keeps s₀ s) : Keeps s₀ (s.heartbeat p f) :=
  .ite (.ite h.setPort.repairing h.setPort) h

theorem Keeps.sendRing {s t : State} {src dst typ flow lane : Nat} {payload : List Byte} {w0 w1 len : Nat} (h : Keeps s₀ s)
    (e : s.sendRing src dst typ flow lane payload w0 w1 len = some t) : Keeps s₀ t := by
  unfold State.sendRing at e
  split at e
  · cases e
  · split at e
    · cases e
    · next e1 => exact (h.takeSlot e1).memWrite.sendItem e

theorem Keeps.deliver71 {p dst flow rule : Nat} {f : List Byte} (h : Keeps s₀ s) : Keeps s₀ (s.deliver71 p dst flow rule f) := by
  unfold State.deliver71
  split
  · next e => exact h.sendRing e
  · exact h.count

theorem Keeps.udpYupex {p : Nat} {f : List Byte} (h : Keeps s₀ s) : Keeps s₀ (s.udpYupex p f) := .ite h.count h.frame

theorem Keeps.lldp {p : Nat} {f : List Byte} (h : Keeps s₀ s) : Keeps s₀ (s.lldp p f) := .ite h h.set.set.partner

theorem Keeps.claim {p sub : Nat} {f : List Byte} (h : Keeps s₀ s) : Keeps s₀ (s.claim p sub f) := by
  unfold State.claim
  refine .ite h.heartbeat ?_
  refine .ite h.setPort ?_
  refine .ite h.udpYupex ?_
  extract_lets +onlyGivenNames s1
  have hs1 : Keeps s₀ s1 := h.lldp
  extract_lets +onlyGivenNames b
  split
  · exact .ite hs1.deliver71 hs1.deliver71
  · exact .ite hs1 hs1.deliver71

theorem execEthFrameReceive_completes {port : Nat} {f : List Byte} {fcsOk : Bool} {sub : Nat}
    : Completes s (execEthFrameReceive port f fcsOk sub s) :=
  .ite .same (.ite (.next fun h => h.count) (.next fun h => h.count.claim))

theorem Keeps.txDrop {p : Nat} {f : TxFrame} (h : Keeps s₀ s) : Keeps s₀ (s.txDrop p f) := h.count.ethEvent.txFree

theorem Keeps.txQueue {p : Nat} {own : Bool} {f : TxFrame} (h : Keeps s₀ s) : Keeps s₀ (s.txQueue p own f) := by
  unfold State.txQueue
  refine .ite h.txDrop ?_
  refine .ite ?_ h.setPort
  split
  · exact h.setPort
  · exact .ite h.txDrop h.frame

theorem execEthTxItem_completes {port : Nat} : Completes s (execEthTxItem port s) := by
  unfold execEthTxItem
  split
  · extract_lets +onlyGivenNames src w s1 a
    split
    · next e1 => exact .next fun h => .ethEvent (.count (.poisonDrop (.freeItem (.of_fst h.pulled.memRead e1))))
    · next e1 =>
        exact .ite (.next fun h => .txQueue (.of_fst h.pulled.memRead e1)) (.next fun h => .freeItem (.of_fst h.pulled.memRead e1))
  · exact .same

theorem Keeps.swtxGo {p : Nat} (h : Keeps s₀ s) : Keeps s₀ (s.swtxGo p) := by
  unfold State.swtxGo
  extract_lets +onlyGivenNames b free a n
  refine .ite h.ethEvent ?_
  split
  · next e => exact .ethEvent (.count (.poisonDrop (.of_fst h.memRead e)))
  · next e => exact .txQueue (.set (.of_fst h.memRead e))

theorem Keeps.ethWrite {m : Master} {p off : Nat} {f : State → State} (h : Keeps s₀ s) (hf : ∀ t, Keeps s₀ t → Keeps s₀ (f t))
    : Keeps s₀ (s.ethWrite m p off f) :=
  h.actWrite fun _ ht => .ite (hf _ ht) ht

theorem execEthSwtxGo_completes {m : Master} {port : Nat} : Completes s (execEthSwtxGo m port s) :=
  .next fun h => h.ethWrite fun _ ht => .ite ht.swtxGo ht

theorem Keeps.showStamp {p : Nat} (h : Keeps s₀ s) : Keeps s₀ (s.showStamp p) := by
  unfold State.showStamp
  extract_lets +onlyGivenNames b
  split
  · exact h.sets
  · exact h.sets

theorem Keeps.stampIn {p ts sub seq typ : Nat} (h : Keeps s₀ s) : Keeps s₀ (s.stampIn p ts sub seq typ) :=
  .ite h.setPort.ethEvent h.setPort.showStamp

theorem Keeps.egress {p sub : Nat} {f : TxFrame} (h : Keeps s₀ s) : Keeps s₀ (s.egress p sub f).1 := by
  unfold State.egress
  split
  · exact h
  · exact .ite_fst h (.ite_fst h h.stampIn)

theorem Keeps.dupCount {f : TxFrame} (h : Keeps s₀ s) : Keeps s₀ (s.dupCount f) := by
  unfold State.dupCount
  split
  · exact .ite h.count h.frame
  · exact h

theorem Keeps.txDone {p sub : Nat} (h : Keeps s₀ s) : Keeps s₀ (s.txDone p sub) := by
  unfold State.txDone
  extract_lets +onlyGivenNames e
  split
  · exact h
  · exact h.setPort.egress.setPort.count.dupCount.txFree

theorem execEthTxDone_completes {port sub : Nat} : Completes s (execEthTxDone port sub s) := .ite (.next fun h => h.txDone) .same

theorem execTsfifoPop_completes {m : Master} {port : Nat} : Completes s (execTsfifoPop m port s) :=
  .ite (.next fun h => h.accessEvent.answer) (.ite .same (.next fun h => h.answer.setPort.showStamp))

theorem execHeartbeatSend_completes {port : Nat} : Completes s (execHeartbeatSend port s) := .ite (.next fun h => h.setPort.count) .same

theorem Keeps.windowEnd {p : Nat} (h : Keeps s₀ s) : Keeps s₀ (s.windowEnd p).1 :=
  .ite_fst h.setPort.set (.ite (.setRole (.ite h.setPort.set.ethEvent h.setPort.set)) (.ite h.setPort.set.ethEvent h.setPort.set))

theorem execHbWindowEnd_completes : Completes s (execHbWindowEnd s) := .ite (.next fun h => h.frame.windowEnd.windowEnd.detect) .same

theorem execFailoverFlush_completes : Completes s (execFailoverFlush s) := by
  unfold execFailoverFlush
  split
  · exact .same
  · exact .ite .same (.next fun h => .ethEvent (.frame (.foldl h.setPort.count fun _ _ ht => ht.txFree)))

theorem Keeps.repaired {p : Nat} (h : Keeps s₀ s) : Keeps s₀ (s.repaired p) := by
  unfold State.repaired
  extract_lets +onlyGivenNames t t1
  have ht1 : Keeps s₀ t1 := h.setPort
  split
  · exact ht1.setRole.ethEvent
  · exact ht1.setPort.setRole.frame

theorem execRepairComplete_completes {port : Nat} : Completes s (execRepairComplete port s) := .ite (.next fun h => h.repaired) .same

theorem Keeps.uplinkSwitch (h : Keeps s₀ s) : Keeps s₀ s.uplinkSwitch := by
  unfold State.uplinkSwitch
  refine .ite h.set ?_
  split
  · exact h.set
  · exact .ite h.moveTo.set h.set

theorem execUplinkSwitch_completes {m : Master} : Completes s (execUplinkSwitch m s) :=
  .next fun h => h.ethWrite fun _ ht => ht.uplinkSwitch

theorem Keeps.ethEnable {p : Nat} {on : Bool} (h : Keeps s₀ s) : Keeps s₀ (s.ethEnable p on) := by
  unfold State.ethEnable
  extract_lets +onlyGivenNames was t
  have ht : Keeps s₀ t := h.set
  extract_lets +onlyGivenNames t1
  have ht1 : Keeps s₀ t1 := .foldl ht.sets fun _ _ hu => hu.txFree
  extract_lets +onlyGivenNames t2 t3
  have ht3 : Keeps s₀ t3 := ht1.setPort
  exact .ite (.pairStart (.ite ht (.ite ht3.detect ht3)))
    (.ite (.pairEnd (.ite ht (.ite ht3.detect ht3))) (.ite ht (.ite ht3.detect ht3)))

theorem Keeps.ethOff (h : Keeps s₀ s) : Keeps s₀ s.ethOff := .frame (.sets (.foldl h fun _ _ ht => ht.sets))

theorem Keeps.ethShift {off : Int} (h : Keeps s₀ s) : Keeps s₀ (s.ethShift off) := h.frame

theorem Keeps.ethStepped {off : Int} (h : Keeps s₀ s) : Keeps s₀ (s.ethStepped off) :=
  .ethShift (.foldl h.frame fun _ _ ht => ht.setPort.set)

/-! ### Packet tiles -/

theorem Keeps.pkEvent {p : Nat} {f : Fld} (h : Keeps s₀ s) : Keeps s₀ (s.pkEvent p f) := h.event

theorem Keeps.setCtx {p x : Nat} {c : PktCtx} (h : Keeps s₀ s) : Keeps s₀ (s.setCtx p x c) := h.frame

theorem Keeps.toSoft {s t : State} {p x flow reason port w1 : Nat} {bytes : List Byte} (h : Keeps s₀ s)
    (e : s.toSoft p x flow reason port w1 bytes = some t) : Keeps s₀ t :=
  h.sendRing e

theorem Keeps.rxSoft {p x flow reason port w1 : Nat} {bytes : List Byte} (h : Keeps s₀ s)
    : Keeps s₀ (s.rxSoft p x flow reason port w1 bytes) := by
  unfold State.rxSoft
  split
  · next e => exact h.toSoft e
  · exact h.count

theorem Keeps.streamCount {p x : Nat} {f : Fld} (h : Keeps s₀ s) : Keeps s₀ (s.streamCount p x f) := h.count

theorem Keeps.c37Frame {p x port w1 last : Nat} {f : List Byte} (h : Keeps s₀ s) : Keeps s₀ (s.c37Frame p x port w1 last f) := by
  unfold State.c37Frame
  extract_lets +onlyGivenNames b st
  refine .ite h.streamCount ?_
  extract_lets +onlyGivenNames f1
  refine .ite h.rxSoft ?_
  refine .ite h.rxSoft ?_
  refine .ite h.streamCount.atEvent ?_
  split
  · next e => exact h.sendRing e
  · exact h.streamCount

theorem Keeps.delimit {p x port w1 last n : Nat} (h : Keeps s₀ s) : Keeps s₀ (delimit p x port w1 last n s) := by
  induction n generalizing s with
  | zero => exact h
  | succ n ih =>
    unfold Machine.delimit
    extract_lets c cut
    have hcut : ∀ n search, Keeps s₀ (cut n search) := fun _ _ => h.setCtx
    have hskip := ih (hcut 1 true)
    refine .ite h (.ite (.ite h (.ite hskip (.ite h (.ite hskip (ih (hcut _ _).c37Frame)))))
      (.ite (ih (hcut _ _).streamCount) (.ite h ?_)))
    exact .ite hskip (.ite h (.ite (ih (hcut _ _)) (ih (hcut _ _).c37Frame)))

theorem Keeps.takeSegment {p x port w1 last seq : Nat} {pl : List Byte} (h : Keeps s₀ s)
    : Keeps s₀ (s.takeSegment p x port w1 last seq pl) :=
  .ite h (.ite (.ite h h.setCtx.set.delimit) h.setCtx.streamCount.sets.delimit)

theorem Keeps.rxData {p x port w1 flen : Nat} {g : IpGram} (h : Keeps s₀ s) : Keeps s₀ (s.rxData p x port w1 flen g) :=
  .ite (.ite h.count.rxSoft.takeSegment h.count.rxSoft) (.ite (.ite h.count.c37Frame h.count) h.count.rxSoft)

theorem Keeps.rxFrame {p port w1 : Nat} {f : List Byte} (h : Keeps s₀ s) : Keeps s₀ (s.rxFrame p port w1 f) := by
  unfold State.rxFrame
  extract_lets +onlyGivenNames k soft
  have hsoft : ∀ t reason bytes, Keeps s₀ t → Keeps s₀ (soft t reason bytes) := fun _ _ _ ht => ht.rxSoft
  split
  · exact h.count.pkEvent
  · refine .ite h.count.pkEvent ?_
    refine .ite (hsoft _ _ _ h) ?_
    split
    · exact h.rxData
    · exact .ite (hsoft _ _ _ h) h.count

theorem execPktRxItem_completes {pkt : Nat} : Completes s (execPktRxItem pkt s) := by
  unfold execPktRxItem
  split
  · exact .same
  · extract_lets +onlyGivenNames w s1 a
    split
    · next e1 => exact .next fun h => .poisonDrop (.of_fst h.taken.memRead e1)
    · next e1 => exact .next fun h => .rxFrame (.of_fst h.taken.memRead e1)

theorem Keeps.copyDrop {p x : Nat} {long : Bool} (h : Keeps s₀ s) : Keeps s₀ (s.copyDrop p x long) :=
  .ite h.count.count.count.pkEvent h.count.count.pkEvent

theorem Keeps.txCopy {p : Nat} {payload : List Byte} {w1 x : Nat} (h : Keeps s₀ s) : Keeps s₀ (s.txCopy p payload w1 x) := by
  unfold State.txCopy
  extract_lets +onlyGivenNames b
  refine .ite ?_ ?_
  · extract_lets +onlyGivenNames dst f s1 s2
    have hs2 : Keeps s₀ s2 := h.setCtx
    refine .ite hs2.copyDrop ?_
    split
    · next e => exact .count (hs2.sendRing e)
    · exact hs2.copyDrop
  · split
    · next e => exact .count (h.toSoft e)
    · exact h.copyDrop

theorem Keeps.txConc {p port : Nat} {data : List Nat} (h : Keeps s₀ s) : Keeps s₀ (s.txConc p port data) := by
  unfold State.txConc
  extract_lets +onlyGivenNames w n tk
  split
  · exact h
  · extract_lets +onlyGivenNames a
    split
    · next e1 => exact .slotRelease (.poisonDrop (.of_fst h.memRead e1))
    · next e1 => exact .slotRelease (.foldl (.of_fst h.memRead e1) fun _ _ ht => ht.txCopy)

theorem Keeps.txCorr {p port src : Nat} {data : List Nat} (h : Keeps s₀ s) : Keeps s₀ (s.txCorr p port src data) := by
  unfold State.txCorr
  extract_lets +onlyGivenNames w a
  split
  · next e => exact .poisonDrop (.of_fst h.memRead e)
  · next e => exact .foldl (.of_fst h.memRead e) fun _ _ ht => ht.txCopy

theorem execPktTxItem_completes {pkt : Nat} : Completes s (execPktTxItem pkt s) := by
  unfold execPktTxItem
  split
  · exact .same
  · exact .ite (.next fun h => h.taken.txConc) (.next fun h => h.taken.txCorr)

theorem Keeps.ctxEnable {p x : Nat} (h : Keeps s₀ s) : Keeps s₀ (s.ctxEnable p x) := .ite h (.ite h.set.pkEvent h.sets.setCtx)

theorem Keeps.ctxDisable {p x : Nat} (h : Keeps s₀ s) : Keeps s₀ (s.ctxDisable p x) := h.sets.frame

theorem Keeps.ctxWrite {m : Master} {p x off : Nat} {f : State → State} (h : Keeps s₀ s) (hf : ∀ t, Keeps s₀ t → Keeps s₀ (f t))
    : Keeps s₀ (s.ctxWrite m p x off f) :=
  h.tileWrite fun _ ht => hf _ ht

theorem execPktCtxEnable_completes {m : Master} {pkt x : Nat} : Completes s (execPktCtxEnable m pkt x s) :=
  .ite (.next fun h => h.ctxWrite (fun _ ht => .ite ht.pkEvent ht.ctxEnable)) .same

theorem Keeps.rcvNxt {p x v : Nat} (h : Keeps s₀ s) : Keeps s₀ (s.rcvNxt p x v) := h.sets.setCtx

theorem execRcvNxtWrite_completes {m : Master} {pkt x v : Nat} : Completes s (execRcvNxtWrite m pkt x v s) :=
  .ite (.next fun h => h.ctxWrite (fun _ ht => ht.rcvNxt)) .same

theorem Keeps.pktOff (h : Keeps s₀ s) : Keeps s₀ s.pktOff := h.clearCells.frame

/-! ### Life cycle, roots and keys -/

theorem Keeps.setSlot {k : KeySlot} (h : Keeps s₀ s) : Keeps s₀ (s.setSlot k) := h.frame

theorem Keeps.deliverKey {pos lane slot : Nat} (h : Keeps s₀ s) : Keeps s₀ (s.deliverKey pos lane slot) := by
  unfold State.deliverKey
  split
  · exact h
  · exact h.frame

theorem Keeps.dropKey {pos lane : Nat} (h : Keeps s₀ s) : Keeps s₀ (s.dropKey pos lane) := h.frame

theorem Keeps.keyBoundary {pos lane : Nat} (h : Keeps s₀ s) : Keeps s₀ (s.keyBoundary pos lane) := h.frame

theorem Keeps.revoke {slot : Nat} (h : Keeps s₀ s) : Keeps s₀ (s.revoke slot) := h.frame

theorem Keeps.gmFinish {c code : Nat} {data : List Byte} (h : Keeps s₀ s) : Keeps s₀ (s.gmFinish c code data) := h.putBuf.set.event

theorem Keeps.gmGo {c : Nat} (h : Keeps s₀ s) : Keeps s₀ (s.gmGo c) := .ite h (.ite h.set h.set.gmFinish)

theorem Keeps.gmAck {c : Nat} (h : Keeps s₀ s) : Keeps s₀ (s.gmAck c) := h.set

theorem execGmAck_completes {m : Master} {ch : Nat} : Completes s (execGmAck m ch s) :=
  .next fun h => h.actWrite fun _ ht => .ite ht.gmAck ht

theorem Keeps.gmServe {c code : Nat} {f : State → State × Nat × List Byte} (h : Keeps s₀ s) (hf : ∀ t, Keeps s₀ t → Keeps s₀ (f t).1)
    : Keeps s₀ (s.gmServe c code f) :=
  .ite h (.ite (.frame (.putBuf (hf _ h.frame))) (.gmFinish (hf _ h.frame)))

theorem execKeyPersistDone_completes : Completes s (execKeyPersistDone s) := by
  unfold execKeyPersistDone
  split
  · exact .same
  · exact .next fun h => h.frame.gmFinish

theorem Keeps.placeKey {c n : Nat} {a : KeyAttr} {pend : Bool} {k : List Byte} (h : Keeps s₀ s) : Keeps s₀ (s.placeKey c n a pend k) := by
  unfold State.placeKey
  extract_lets +onlyGivenNames key s1
  have hs1 : Keeps s₀ s1 := h.drawn
  refine .ite ?_ hs1.setSlot.sets
  split
  · exact hs1.setSlot.set
  · exact hs1

theorem Keeps.keyGen {c n : Nat} {a : KeyAttr} {pend : Bool} (h : Keeps s₀ s) : Keeps s₀ (s.keyGen c n a pend).1 :=
  .ite_fst h h.drawn.placeKey

theorem execKeyGen_completes {ch slot : Nat} {a : KeyAttr} {pend : Bool} : Completes s (execKeyGen ch slot a pend s) :=
  .next fun h => h.gmServe fun _ ht => ht.keyGen

theorem Keeps.keyDerive {c n : Nat} {a : KeyAttr} {pend : Bool} {label ctx : List Byte} (h : Keeps s₀ s)
    : Keeps s₀ (s.keyDerive c n a pend label ctx).1 := by
  unfold State.keyDerive
  extract_lets e par
  refine .ite_fst h (.ite_fst h ?_)
  generalize (if par = 0x100 then s.selRoot else (s.liveKey par).map Key.bytes) = o
  cases o with
  | none => exact h
  | some p => exact h.placeKey

theorem execKeyDerive_completes {ch slot : Nat} {a : KeyAttr} {pend : Bool} {label ctx : List Byte}
    : Completes s (execKeyDerive ch slot a pend label ctx s) :=
  .next fun h => h.gmServe fun _ ht => ht.keyDerive

theorem Keeps.keyImport {c n : Nat} {a : KeyAttr} {pend : Bool} {wrap : Nat} {blob : List Byte} (h : Keeps s₀ s)
    : Keeps s₀ (s.keyImport c n a pend wrap blob).1 := by
  unfold State.keyImport
  dsimp only
  refine .ite_fst h ?_
  refine .ite_fst h ?_
  refine .ite_fst h ?_
  split
  · exact h
  · exact .ite_fst h.placeKey h

theorem execKeyImport_completes {ch slot : Nat} {a : KeyAttr} {pend : Bool} {wrap : Nat} {blob : List Byte}
    : Completes s (execKeyImport ch slot a pend wrap blob s) :=
  .next fun h => h.gmServe fun _ ht => ht.keyImport

theorem Keeps.keyExport {c n wrap : Nat} (h : Keeps s₀ s) : Keeps s₀ (s.keyExport c n wrap).1 := by
  unfold State.keyExport
  dsimp only
  refine .ite_fst h ?_
  refine .ite_fst h ?_
  refine .ite_fst h ?_
  split
  · exact h
  · exact h

theorem execKeyExport_completes {ch slot wrap : Nat} : Completes s (execKeyExport ch slot wrap s) :=
  .next fun h => h.gmServe fun _ ht => ht.keyExport

theorem Keeps.offerKey {n : Nat} {k : Key} (h : Keeps s₀ s) : Keeps s₀ (s.offerKey n k) := h.frame

theorem Keeps.keyCommit {c n check : Nat} (h : Keeps s₀ s) : Keeps s₀ (s.keyCommit c n check).1 := by
  unfold State.keyCommit
  dsimp only
  refine .ite_fst h ?_
  split
  · exact h
  · split
    · exact h
    · exact .ite_fst h.set.setSlot h.set.setSlot.set.offerKey

theorem execKeyCommit_completes {ch slot check : Nat} : Completes s (execKeyCommit ch slot check s) :=
  .next fun h => h.gmServe fun _ ht => ht.keyCommit

theorem Keeps.keyDiscard {c n : Nat} (h : Keeps s₀ s) : Keeps s₀ (s.keyDiscard c n).1 := by
  unfold State.keyDiscard
  dsimp only
  refine .ite_fst h ?_
  split
  · exact h
  · exact .ite_fst h h.setSlot.set

theorem execKeyDiscard_completes {ch slot : Nat} : Completes s (execKeyDiscard ch slot s) :=
  .next fun h => h.gmServe fun _ ht => ht.keyDiscard

theorem Keeps.emptySlot {n : Nat} (h : Keeps s₀ s) : Keeps s₀ (s.emptySlot n) := .revoke (.frame (.foldl h fun _ _ ht => ht.set))

theorem Keeps.orphan {n : Nat} (h : Keeps s₀ s) : Keeps s₀ (s.orphan n) := h.set.revoke

theorem Keeps.keyInvalidate {c n : Nat} (h : Keeps s₀ s) : Keeps s₀ (s.keyInvalidate c n).1 :=
  .ite_fst h (.emptySlot (.foldl h fun _ _ ht => ht.orphan))

theorem execKeyInvalidate_completes {ch slot : Nat} : Completes s (execKeyInvalidate ch slot s) :=
  .next fun h => h.gmServe fun _ ht => ht.keyInvalidate

theorem Keeps.keyCheck {c n : Nat} (h : Keeps s₀ s) : Keeps s₀ (s.keyCheck c n).1 := by
  unfold State.keyCheck
  dsimp only
  refine .ite_fst h ?_
  split
  · exact h
  · exact h

theorem execKeyCheck_completes {ch slot : Nat} : Completes s (execKeyCheck ch slot s) := .next fun h => h.gmServe fun _ ht => ht.keyCheck

theorem Keeps.newChal (h : Keeps s₀ s) : Keeps s₀ s.newChal := h.set.drawn

theorem Keeps.dbgUnlock {token : List Byte} (h : Keeps s₀ s) : Keeps s₀ (s.dbgUnlock token).1 :=
  .ite_fst h.newChal (.ite_fst h.set.newChal h.newChal)

theorem execDbgUnlock_completes {ch : Nat} {token : List Byte} : Completes s (execDbgUnlock ch token s) :=
  .next fun h => h.gmServe fun _ ht => .ite_fst ht.dbgUnlock ht.newChal

theorem Keeps.orphanRoot (h : Keeps s₀ s) : Keeps s₀ s.orphanRoot := .foldl h fun _ _ ht => ht.orphan

theorem Keeps.zeroRoot {i : Nat} (h : Keeps s₀ s) : Keeps s₀ (s.zeroRoot i) := h.orphanRoot.frame

theorem Keeps.zeroRoots (h : Keeps s₀ s) : Keeps s₀ s.zeroRoots := h.orphanRoot.frame

theorem Keeps.askReset {cause : Nat} (h : Keeps s₀ s) : Keeps s₀ (s.askReset cause) := h.frame

theorem Keeps.lcMove {target : Nat} (h : Keeps s₀ s) : Keeps s₀ (s.lcMove target) := by
  obtain ⟨hq, hb, hd, hc⟩ : Keeps s₀ (s.sets bSec [(Rg.SEC_STAT.DEBUG, 0), (Rg.SEC_STAT.DBG_NEXT, 0)]) := h.sets
  exact .askReset ⟨hq, hb.trans (Nat.le_max_left _ _), hd, hc⟩

theorem Keeps.lcAdvance {target : Nat} {sig : List Byte} {cut : Bool} (h : Keeps s₀ s) : Keeps s₀ (s.lcAdvance target sig cut).1 := by
  unfold State.lcAdvance
  refine .ite_fst ?_ ?_
  · exact h.newChal
  · refine .ite_fst ?_ ?_
    · exact h.newChal
    · exact .ite_fst h.newChal (.lcMove (.ite (.ite h.newChal.zeroRoots h.newChal.zeroRoot)
        (.frame (.ite h.newChal.zeroRoots h.newChal.zeroRoot))))

theorem execLcAdvance_completes {ch target : Nat} {sig : List Byte} {cut : Bool} : Completes s (execLcAdvance ch target sig cut s) :=
  .next fun h => h.gmServe fun _ ht => ht.lcAdvance

theorem Keeps.drawRoots {l : List Nat} (h : Keeps s₀ s) : Keeps s₀ (s.drawRoots l) := by
  induction l generalizing s with
  | nil => exact h
  | cons i l ih => exact ih h.drawn.frame

theorem Keeps.burnDigests (h : Keeps s₀ s) : Keeps s₀ s.burnDigests := by
  obtain ⟨hq, hb, hd, hc⟩ := h
  exact .set ⟨hq, hb, hd.trans ⟨_, rfl⟩, hc⟩

theorem Keeps.provision {keys : List (List Byte)} {compat cut : Bool} (h : Keeps s₀ s) : Keeps s₀ (s.provision keys compat cut).1 :=
  .ite_fst h (.ite_fst h (.ite_fst h (.ite_fst h.frame.setB.drawRoots.burnDigests.zeroRoots h.frame.setB.drawRoots.burnDigests.lcMove)))

theorem execProvision_completes {ch : Nat} {keys : List (List Byte)} {compat cut : Bool}
    : Completes s (execProvision ch keys compat cut s) :=
  .next fun h => h.gmServe fun _ ht => ht.provision

theorem Keeps.reroot {sig : List Byte} (h : Keeps s₀ s) : Keeps s₀ (s.reroot sig).1 :=
  .ite_fst h.newChal (.ite_fst h.newChal (.frame (.foldl h.newChal.drawRoots.burnDigests fun _ _ ht => ht.emptySlot)))

theorem execReroot_completes {ch : Nat} {sig : List Byte} : Completes s (execReroot ch sig s) :=
  .next fun h => h.gmServe fun _ ht => ht.reroot

theorem execKeyRemask_completes : Completes s (execKeyRemask s) := .ite .same (.next fun h => h.frame.drawn)

/-! ### Yupex frames -/

theorem Keeps.yxSend {r : YxReq} {fstat : Nat} {payload : List Byte} (h : Keeps s₀ s) : Keeps s₀ (s.yxSend r fstat payload) := by
  unfold State.yxSend
  extract_lets +onlyGivenNames f
  split
  · exact h.frame
  · exact .ite h.frame.set (.ite h.putBuf.set h.putBuf.set.set.toggle.msix)

theorem Keeps.yxKeep {r : YxReq} {fstat : Nat} {payload : List Byte} (h : Keeps s₀ s) : Keeps s₀ (s.yxKeep r fstat payload) := h.frame

theorem Keeps.yxReply {op fstat status : Nat} {data : List Byte} (h : Keeps s₀ s) : Keeps s₀ (s.yxReply op fstat status data) := by
  unfold State.yxReply
  split
  · exact .ite h.yxSend.yxKeep.frame h
  · exact h

theorem Keeps.yxFinish {op status : Nat} {data : List Byte} (h : Keeps s₀ s) : Keeps s₀ (s.yxFinish op status data) := h.frame

/-! ### Fleet stop -/

theorem Keeps.stopLatch {srcs : Nat} (h : Keeps s₀ s) : Keeps s₀ (s.stopLatch srcs) := .ite h.set h.set.sets.frame.event.msix.record

theorem Keeps.stopPin {pin : Nat} {level : Bool} (h : Keeps s₀ s) : Keeps s₀ (s.stopPin pin level) :=
  .ite (.ite h.frame.frame.sets.set h.frame.frame.sets) (.stopLatch (.ite h.frame.frame.sets.set h.frame.frame.sets))

theorem execStopInputChange_completes {pin : Nat} {level : Bool} : Completes s (execStopInputChange pin level s) :=
  .ite (.next fun h => h.stopPin) .same

theorem execStopDisagTimeout_completes {ch : Nat} : Completes s (execStopDisagTimeout ch s) := by
  unfold execStopDisagTimeout
  split
  · exact .same
  · exact .ite (.next fun h => h.event.record.frame) .same

theorem execStopXmisTimeout_completes : Completes s (execStopXmisTimeout s) := by
  unfold execStopXmisTimeout
  split
  · exact .same
  · exact .ite (.next fun h => h.event.record.frame) .same

theorem execSwStop_completes {m : Master} : Completes s (execSwStop m s) := .next fun h => h.actWrite fun _ ht => ht.stopLatch

theorem Keeps.pathTest {inputsOk : Bool} (h : Keeps s₀ s) : Keeps s₀ (s.pathTest inputsOk) := .ite h.set (.ite h.set.frame h.set.event)

theorem execPathTest_completes {m : Master} {inputsOk : Bool} : Completes s (execPathTest m inputsOk s) :=
  .next fun h => h.actWrite fun _ ht => ht.pathTest

theorem execPathTestDone_completes : Completes s (execPathTestDone s) := by
  unfold execPathTestDone
  split
  · exact .same
  · exact .ite .same (.next fun h => h.frame.set.event)

theorem Keeps.lapsePass (h : Keeps s₀ s) : Keeps s₀ s.lapsePass := .ite h.set h

theorem Keeps.ssMismatch (h : Keeps s₀ s) : Keeps s₀ s.ssMismatch := h.event.lapsePass.frame

theorem Keeps.hawkCheck {seen : Nat} (h : Keeps s₀ s) : Keeps s₀ (s.hawkCheck seen) := by
  unfold State.hawkCheck
  extract_lets +onlyGivenNames act miss t
  have ht : Keeps s₀ t := h.set
  extract_lets +onlyGivenNames t1 t2
  have ht2 : Keeps s₀ t2 := by
    unfold t2
    split
    · exact .ite ht ht.frame
    · exact ht
  exact .ite ht2 ht2.set.event.record

theorem Keeps.sfdSeen {p stamp sub : Nat} (h : Keeps s₀ s) : Keeps s₀ (s.sfdSeen p stamp sub) := .ite h.frame h

theorem execSsSlotCheck_completes {decA decB agree : Bool} : Completes s (execSsSlotCheck decA decB agree s) := by
  unfold execSsSlotCheck
  refine .ite .same ?_
  extract_lets +onlyGivenNames _ t t1 u t2 t3 t4
  have ht1 : Keeps s t1 := .sets (Keeps.refl.frame)
  have ht2 : Keeps s t2 := .when ht1 fun h => h.ssMismatch.record
  have ht4 : Keeps s t4 := .when (.when ht2 fun h => h.ssMismatch) fun h => h.hawkCheck
  exact .ite (.next fun _ => ht4) (.next fun _ => ht4.set.event.record)

theorem execFstop_completes {udp : Bool} : Completes s (execFstop udp s) := .ite (.next fun h => h.stopLatch.yxReply) .same

theorem Keeps.drawChallenge (h : Keeps s₀ s) : Keeps s₀ s.drawChallenge := h.set.drawn.frame

theorem execFstopChal_completes : Completes s (execFstopChal s) := .ite (.next fun h => h.drawChallenge.yxReply) .same

theorem execChallengeExpiry_completes : Completes s (execChallengeExpiry s) := .ite (.next fun h => h.set.frame) .same

theorem Keeps.releaseCommit (h : Keeps s₀ s) : Keeps s₀ s.releaseCommit := .ite h.sets.event h.sets.event.msix

theorem Keeps.release {tag : List Byte} {race : Nat} (h : Keeps s₀ s) : Keeps s₀ (s.release tag race) :=
  .ite h.set.set.frame.releaseCommit (.ite h.set.set.frame.event.stopLatch h.set.set.frame.event)

theorem execFstopRelease_completes {race : Nat} : Completes s (execFstopRelease race s) := by
  unfold execFstopRelease
  split
  · exact .same
  · exact .next fun h => h.release.yxReply

theorem execFstopStatus_completes : Completes s (execFstopStatus s) := .next fun h => h.yxReply

theorem execRunMinElapsed_completes : Completes s (execRunMinElapsed s) := by
  unfold execRunMinElapsed
  split
  · exact .same
  · exact .ite (.next fun h => h.set) .same

theorem Keeps.stopShift {off : Int} (h : Keeps s₀ s) : Keeps s₀ (s.stopShift off) := h.frame

theorem Keeps.portActive {p : Nat} {on : Bool} (h : Keeps s₀ s) : Keeps s₀ (s.portActive p on) := .ite h h.set.lapsePass

/-! ### Domains losing and gaining power -/

theorem Keeps.resetRegs {d : Dom} (h : Keeps s₀ s) : Keeps s₀ (s.resetRegs d) := h.clearCells

theorem Keeps.dropHeld {d : Dom} (h : Keeps s₀ s) : Keeps s₀ (s.dropHeld d) := h.frame

theorem Keeps.lockIslands {l : List Nat} (h : Keeps s₀ s) : Keeps s₀ (s.lockIslands l) := .foldl h fun _ _ ht => ht.set

theorem Keeps.fabricDown (h : Keeps s₀ s) : Keeps s₀ s.fabricDown :=
  .frame (.foldl h.linksDown.linksDown.resetRegs.resetRegs.dropHeld.dropHeld fun _ _ ht => ht.loseHalf)

theorem Keeps.ioDown (h : Keeps s₀ s) : Keeps s₀ s.ioDown := h.linksDown.resetRegs.dropHeld.loseDdr.frame

theorem Keeps.mgmtDown (h : Keeps s₀ s) : Keeps s₀ s.mgmtDown := h.linksDown.resetRegs.dropHeld.frame

theorem Keeps.secDown (h : Keeps s₀ s) : Keeps s₀ s.secDown := h.linksDown.resetRegs.dropHeld.frame

theorem Keeps.switchOff (h : Keeps s₀ s) : Keeps s₀ s.switchOff := h.fabricDown.ioDown.mgmtDown.secDown

theorem Keeps.bootstrap (h : Keeps s₀ s) : Keeps s₀ s.bootstrap := h.clearCells.sets.frame

theorem Keeps.resetEpochs (h : Keeps s₀ s) : Keeps s₀ s.resetEpochs := .frame (.sets (.foldl h fun _ _ ht => ht.set))

theorem Keeps.warmDown (h : Keeps s₀ s) : Keeps s₀ s.warmDown := h.switchOff.bootstrap.resetEpochs.stopLatch

theorem Keeps.powerUp {vbat : Bool} (h : Keeps s₀ s) : Keeps s₀ (s.powerUp vbat) := by
  unfold State.powerUp
  extract_lets +onlyGivenNames t u
  have hu : Keeps s₀ u := h.switchOff.clearCells
  clear_value u
  exact .setB (.lockIslands (hu.cocoon fun _ => .nil).frame)

theorem Keeps.vbatDown (h : Keeps s₀ s) : Keeps s₀ s.vbatDown := h.clearCells.set.frame

theorem execVbatLoss_completes : Completes s (execVbatLoss s) := .next fun h => h.vbatDown

theorem execPowerDown_completes : Completes s (execPowerDown s) := .next fun h => .frame (.ite h.powerUp h.powerUp.vbatDown)

/-! ### Tamper response and cipher tiles -/

theorem Keeps.tamperLog {src : Nat} (h : Keeps s₀ s) : Keeps s₀ (s.tamperLog src) :=
  .ite (.ite h.sets.frame.sets h.sets.frame.sets.toggle) (.record (.ite h.sets.frame.sets h.sets.frame.sets.toggle))

theorem Keeps.tamper {src : Nat} (h : Keeps s₀ s) : Keeps s₀ (s.tamper src) := by
  unfold State.tamper
  extract_lets +onlyGivenNames act
  refine .ite h ?_
  extract_lets +onlyGivenNames t
  have ht : Keeps s₀ t := h.set
  extract_lets +onlyGivenNames t1
  have ht1 : Keeps s₀ t1 := .ite ht.stopLatch ht
  extract_lets +onlyGivenNames t2
  have ht2 : Keeps s₀ t2 := ht1.sets
  extract_lets +onlyGivenNames t3 t4
  have ht4 : Keeps s₀ t4 := by
    unfold t4
    split
    · exact ht2.frame.gmFinish
    · exact ht2
  exact .tamperLog (.frame (.foldl ht4 fun _ _ hu => hu.emptySlot))

theorem execTamperSourceRelease_completes {src : Nat} : Completes s (execTamperSourceRelease src s) := .ite (.next fun h => h.set) .same

theorem Keeps.cryEnable {pos q : Nat} (h : Keeps s₀ s) : Keeps s₀ (s.cryEnable pos q) :=
  .ite h (.ite (.ite h.sets h.sets.deliverKey) h.set.event)

theorem Keeps.cryDisable {pos q : Nat} (h : Keeps s₀ s) : Keeps s₀ (s.cryDisable pos q) := h.sets.dropKey.frame

theorem execCrySessionEnable_completes {m : Master} {pos q : Nat} : Completes s (execCrySessionEnable m pos q s) :=
  .ite (.next fun h => h.tileWrite (fun _ ht => ht.cryEnable)) .same

theorem Keeps.cryCount {pos q status : Nat} (h : Keeps s₀ s) : Keeps s₀ (s.cryCount pos q status) :=
  .ite h.count.set.set (.ite h.count.set.set.count.event h.count.set.set.count.event)

theorem Keeps.cryComplete {pos q n : Nat} (h : Keeps s₀ s) : Keeps s₀ (s.cryComplete pos q n) := .ite h.tileDone.hwSubmit h.tileDone

theorem Keeps.cryStart {pos q : Nat} {rec_ : List Byte} {at_ : Option Nat} {n link : Nat} (h : Keeps s₀ s)
    : Keeps s₀ (s.cryStart pos q rec_ at_ n link) :=
  h.keyBoundary.set.frame

theorem Keeps.crySoft {pos q n : Nat} (h : Keeps s₀ s) : Keeps s₀ (s.crySoft pos q n) := by
  unfold State.crySoft
  extract_lets +onlyGivenNames b
  split
  · exact h
  · extract_lets +onlyGivenNames r
    refine .ite h ?_
    refine .ite h.cryCount.cryComplete ?_
    extract_lets +onlyGivenNames a
    refine .ite h.cryCount.cryComplete ?_
    extract_lets +onlyGivenNames m
    split
    · exact h.memRead.cryCount.cryComplete
    · exact h.memRead.cryStart

theorem execCryJob_completes {pos q : Nat} {handle : Option Nat} : Completes s (execCryJob pos q handle s) := by
  unfold execCryJob
  refine .ite .same ?_
  split
  · exact .next fun h => h.crySoft
  · split
    · exact .same
    · exact .ite (.next fun h => h.taken.cryStart) .same

theorem Keeps.cryWork {pos alg : Nat} {r k : List Byte} (h : Keeps s₀ s) : Keeps s₀ (s.cryWork pos alg r k).1 := by
  unfold State.cryWork
  extract_lets +onlyGivenNames op n tn
  refine .ite_fst h (.ite_fst h ?_)
  extract_lets +onlyGivenNames di da dt
  have ht : Keeps s₀ dt.1 := h.memRead.memRead.memRead
  split
  · extract_lets +onlyGivenNames t nonce out cover made tagOk w u
    have hw : Keeps s₀ w.1 := .ite_fst ht.memWrite ht
    exact .ite_fst hw.memWrite hw
  · exact ht

theorem execCryJobDone_completes {pos q : Nat} : Completes s (execCryJobDone pos q s) := by
  unfold execCryJobDone
  split
  · exact .same
  · extract_lets +onlyGivenNames alg k r t t1 t2
    split
    · exact .next fun h => .cryComplete (.cryCount (.memWrite (.memWrite (.frame (.ite_fst h h.cryWork)))))
    · split
      · next e2 => exact .next fun h => .cryCount (.sendItem (.frame (.ite_fst h h.cryWork)) e2)
      · exact .same

/-! ### Fleet radio access -/

theorem Keeps.setMac {p : Nat} {l : MacLane} (h : Keeps s₀ s) : Keeps s₀ (s.setMac p l) := h.frame

theorem Keeps.dropPend {p : Nat} (h : Keeps s₀ s) : Keeps s₀ (s.dropPend p) := h.setMac

theorem Keeps.portFail {p code : Nat} (h : Keeps s₀ s) : Keeps s₀ (s.portFail p code) := h.dropPend.sets.event.portActive

theorem Keeps.portEnable {p : Nat} {id : List Byte} (h : Keeps s₀ s) : Keeps s₀ (s.portEnable p id) :=
  .ite h (.ite h.sets.portFail (.ite h.sets.sets.partner.sets.setMac h.sets.sets.partner.portFail))

theorem Keeps.portDisable {p : Nat} (h : Keeps s₀ s) : Keeps s₀ (s.portDisable p) := h.dropPend.sets.portActive

theorem Keeps.portWrite {m : Master} {p off : Nat} {f : State → State} (h : Keeps s₀ s) (hf : ∀ t, Keeps s₀ t → Keeps s₀ (f t))
    : Keeps s₀ (s.portWrite m p off f) :=
  h.actWrite fun _ ht => .ite (hf _ ht) ht

theorem execRadioPortEnable_completes {m : Master} {p : Nat} {id : List Byte} : Completes s (execRadioPortEnable m p id s) :=
  .next fun h => h.portWrite fun _ ht => ht.portEnable

theorem Keeps.rawGo {p rx : Nat} (h : Keeps s₀ s) : Keeps s₀ (s.rawGo p rx) := .ite h.event (.ite h h.set)

theorem execRawExchange_completes {m : Master} {p rx : Nat} : Completes s (execRawExchange m p rx s) :=
  .next fun h => h.portWrite fun _ ht => ht.rawGo

theorem Keeps.asnBaseWrite {v : Nat} (h : Keeps s₀ s) : Keeps s₀ (s.asnBaseWrite v) := .ite h.event h.set

theorem execAsnBaseWrite_completes {m : Master} {v : Nat} : Completes s (execAsnBaseWrite m v s) :=
  .next fun h => h.actWrite fun _ ht => ht.asnBaseWrite

theorem Keeps.laneEnable {p : Nat} (h : Keeps s₀ s) : Keeps s₀ (s.laneEnable p) :=
  .ite h (.ite h.sets.deliverKey.portActive.setMac h.set.event)

theorem execMacLaneEnable_completes {m : Master} {p : Nat} : Completes s (execMacLaneEnable m p s) :=
  .ite (.next fun h => h.tileWrite (fun _ ht => ht.laneEnable)) .same

theorem Keeps.dlDone {p : Nat} {r : DlReq} {status : Nat} (h : Keeps s₀ s) : Keeps s₀ (s.dlDone p r status) := h.emit

theorem Keeps.dlFlush {p status : Nat} {sel : DlReq → Bool} (h : Keeps s₀ s) : Keeps s₀ (s.dlFlush p status sel) :=
  .foldl h.setMac fun _ _ ht => ht.dlDone

theorem Keeps.corrLeave {p : Nat} (h : Keeps s₀ s) : Keeps s₀ (s.corrLeave p) := h.frame

theorem Keeps.laneDisable {p : Nat} (h : Keeps s₀ s) : Keeps s₀ (s.laneDisable p) := h.sets.dropKey.portActive.dlFlush.corrLeave.setMac

theorem execMacLaneDisable_completes {m : Master} {p : Nat} : Completes s (execMacLaneDisable m p s) :=
  .ite (.next fun h => h.tileWrite (fun _ ht => .ite ht.laneDisable ht)) .same

theorem Keeps.entLeave {p k st : Nat} (h : Keeps s₀ s) : Keeps s₀ (s.entLeave p k st) := .ite h.sets.dlFlush h.sets

theorem Keeps.schedule {p : Nat} {f : AirFrame} (h : Keeps s₀ s) : Keeps s₀ (s.schedule p f) := .ite h h.setMac

theorem Keeps.sendNet {p ftype mic : Nat} {enc ack : Bool} {dst at_ chan : Nat} {act : AirAct} {stop : Bool} {payload : List Byte}
    (h : Keeps s₀ s) : Keeps s₀ (s.sendNet p ftype mic enc ack dst at_ chan act stop payload) := by
  unfold State.sendNet
  split
  · exact h.schedule
  · exact h

theorem Keeps.airDone {p : Nat} {f : AirFrame} (h : Keeps s₀ s) : Keeps s₀ (s.airDone p f) := by
  unfold State.airDone
  extract_lets +onlyGivenNames l
  split
  · exact h
  · exact h
  · exact h.set
  · exact h.frame
  · split
    · exact h
    · exact .ite h.setMac h.setMac.dlDone
  · exact h.setMac

theorem Keeps.fire {p : Nat} {f : AirFrame} (h : Keeps s₀ s) : Keeps s₀ (s.fire p f) :=
  .ite h (.airDone (.ite h.count.setMac.set.eventIf h.count.setMac))

theorem Keeps.beacon {p map at_ : Nat} {stop : Bool} (h : Keeps s₀ s) : Keeps s₀ (s.beacon p map at_ stop) := h.sendNet

theorem Keeps.hawk {p b rep : Nat} (h : Keeps s₀ s) : Keeps s₀ (s.hawk p b rep) := by
  unfold State.hawk
  extract_lets +onlyGivenNames asn at_ info body
  split
  · exact h.schedule
  · exact h

theorem Keeps.dlTimeout {p : Nat} (h : Keeps s₀ s) : Keeps s₀ (s.dlTimeout p) := by
  unfold State.dlTimeout
  extract_lets +onlyGivenNames l
  split
  · exact h
  · extract_lets +onlyGivenNames s1
    have hs1 : Keeps s₀ s1 := h.setMac
    split
    · exact hs1
    · exact .ite hs1 hs1.setMac.count.dlDone

theorem Keeps.sleepyMiss {p : Nat} (h : Keeps s₀ s) : Keeps s₀ (s.sleepyMiss p) :=
  .foldl h.setMac fun _ _ ht => .ite ht (.ite ht.set ht.setMac)

theorem execSlotCutoff_completes {p : Nat} : Completes s (execSlotCutoff p s) :=
  .ite .same (.ite (.next fun h => h.setMac.dlTimeout.sleepyMiss.setMac.hawk) (.next fun h => h.setMac.dlTimeout.sleepyMiss.setMac))

theorem Keeps.cellOf {p asn : Nat} (h : Keeps s₀ s) : Keeps s₀ (s.cellOf p asn).1 := h.count.eventIf

theorem Keeps.dlSend {p k at_ chan : Nat} (h : Keeps s₀ s) : Keeps s₀ (s.dlSend p k at_ chan) := by
  unfold State.dlSend
  split
  · exact h
  · split
    · exact .ite h.schedule h
    · exact h.sendNet

theorem Keeps.joinSend {p at_ chan : Nat} (h : Keeps s₀ s) : Keeps s₀ (s.joinSend p at_ chan) := by
  unfold State.joinSend
  split
  · exact h
  · split
    · exact h
    · exact h.drawn.schedule

theorem Keeps.corrSend {p at_ chan : Nat} (h : Keeps s₀ s) : Keeps s₀ (s.corrSend p at_ chan) := by
  unfold State.corrSend
  extract_lets +onlyGivenNames per
  split
  · exact h
  · exact h.sendNet

theorem Keeps.slotFrame {p : Nat} (h : Keeps s₀ s) : Keeps s₀ (s.slotFrame p) := by
  unfold State.slotFrame
  extract_lets +onlyGivenNames b asn at_ bc
  refine .ite h.beacon ?_
  refine .ite (.ite h.corrSend h) ?_
  split
  · next e => exact .of_fst h.cellOf e
  · next e =>
      extract_lets +onlyGivenNames k chan
      refine .ite (.count (.of_fst h.cellOf e)) ?_
      split
      · exact .ite (.setMac (.of_fst h.cellOf e)) (.of_fst h.cellOf e)
      · exact .ite (.dlSend (.of_fst h.cellOf e)) (.of_fst h.cellOf e)
      · exact .joinSend (.of_fst h.cellOf e)

theorem Keeps.statusPoll {p status : Nat} (h : Keeps s₀ s) : Keeps s₀ (s.statusPoll p status) :=
  .ite (.ite h.setMac h.setMac.portFail) h.setMac

theorem Keeps.keyRotate {p : Nat} (h : Keeps s₀ s) : Keeps s₀ (s.keyRotate p) := by
  unfold State.keyRotate
  split
  · exact h
  · exact .ite h (.foldl (.ite h.keyBoundary.set.setMac.hawk h.keyBoundary.set.setMac) fun _ _ ht => ht.entLeave)

theorem execSlotBoundary_completes {p status : Nat} : Completes s (execSlotBoundary p status s) := by
  unfold execSlotBoundary
  refine .ite .same ?_
  extract_lets +onlyGivenNames _ s1 s2 _ s3 s4 l b
  have hs2 : Keeps s s2 := .statusPoll (.setMac .refl)
  have hs4 : Keeps s s4 := .portActive (.when hs2 fun h => h.keyRotate.setMac)
  refine .ite (.next fun _ => hs2) (.ite (.next fun _ => hs4) (.ite ?_ ?_))
  · split
    · exact .next fun _ => .when hs4 fun h => h.beacon
    · exact .next fun _ => hs4
  · exact .ite (.next fun _ => hs4) (.next fun _ => hs4.slotFrame)

theorem Keeps.micFail {p : Nat} (h : Keeps s₀ s) : Keeps s₀ (s.micFail p) := h.count.event

theorem Keeps.deliverData {s t : State} {p : Nat} {u : UpItem} (h : Keeps s₀ s) (e : s.deliverData p u = some t) : Keeps s₀ t := by
  unfold State.deliverData at e
  split at e
  · cases e
  · next e1 =>
    cases e
    exact (h.takeSlot e1).memWrite.emit

theorem Keeps.unbox {p n : Nat} (h : Keeps s₀ s) : Keeps s₀ (s.unbox p n) := by
  induction n generalizing s with
  | zero => exact h
  | succ n ih =>
    unfold State.unbox
    split
    · exact h
    · split
      · exact h
      · next e => exact ih (h.deliverData e).setMac

theorem Keeps.laneDue {p : Nat} (h : Keeps s₀ s) : Keeps s₀ (s.laneDue p) := .ite h (.unbox (.foldl h.setMac fun _ _ ht => ht.fire))

theorem Keeps.radioDue (h : Keeps s₀ s) : Keeps s₀ s.radioDue := .foldl h fun _ _ ht => ht.laneDue

theorem Keeps.entJoin {p k : Nat} (h : Keeps s₀ s) : Keeps s₀ (s.entJoin p k) := h.sets.event

theorem Keeps.verified {p k n shr : Nat} (h : Keeps s₀ s) : Keeps s₀ (s.verified p k n shr) := .ite h.set.set.entJoin h.set.set

theorem Keeps.ackData {p k fcnt shr len b cell : Nat} (h : Keeps s₀ s) : Keeps s₀ (s.ackData p k fcnt shr len b cell) := h.sendNet

theorem Keeps.dataFrame {p k : Nat} {f payload : List Byte} {shr rssi len b cell : Nat} (h : Keeps s₀ s) :
    Keeps s₀ (s.dataFrame p k f payload shr rssi len b cell) :=
  .ite h.verified.count.event (.when (.ite h.verified.set.setMac.unbox h.verified.count) fun h => h.ackData)

theorem Keeps.ackFrame {p k : Nat} {body : List Byte} (h : Keeps s₀ s) : Keeps s₀ (s.ackFrame p k body) := by
  unfold State.ackFrame
  extract_lets +onlyGivenNames l
  refine .ite h ?_
  split
  · exact h
  · exact .ite h h.setMac.dlDone

theorem Keeps.takeShr {p : Nat} (h : Keeps s₀ s) : Keeps s₀ (s.takeShr p).1 := by
  unfold State.takeShr
  split
  · exact h.setMac
  · exact h.fresh

theorem Keeps.netReceive {p : Nat} {f : List Byte} {rssi shr : Nat} (h : Keeps s₀ s) : Keeps s₀ (s.netReceive p f rssi shr) := by
  unfold State.netReceive
  extract_lets +onlyGivenNames fctl lv k
  refine .ite h.micFail ?_
  split
  · exact h.micFail
  · refine .ite h ?_
    refine .ite h.verified.ackFrame ?_
    refine .ite ?_ h
    split
    · exact h
    · exact h.dataFrame

theorem Keeps.setCap {p k : Nat} {c : List Byte} (h : Keeps s₀ s) : Keeps s₀ (s.setCap p k c) := h.set.set.set.set.partner

theorem Keeps.joinReq {p k seq fcnt nonce : Nat} {cap : List Byte} {shr : Nat} (h : Keeps s₀ s)
    : Keeps s₀ (s.joinReq p k seq fcnt nonce cap shr) := by
  unfold State.joinReq
  extract_lets +onlyGivenNames e l
  split
  · exact h.setMac
  · exact .ite h.setMac.set.entLeave.set.setCap h.setMac.set

theorem Keeps.joinReceive {p : Nat} {f : List Byte} {shr : Nat} (h : Keeps s₀ s) : Keeps s₀ (s.joinReceive p f shr) := by
  unfold State.joinReceive
  extract_lets +onlyGivenNames fctl eui
  refine .ite h ?_
  refine .ite h.count ?_
  refine .ite h.micFail ?_
  split
  · exact h
  · split
    · exact h.micFail
    · exact .ite h.joinReq h

theorem Keeps.receive {p : Nat} {f : List Byte} {rssi : Nat} {fcsOk : Bool} (h : Keeps s₀ s) : Keeps s₀ (s.receive p f rssi fcsOk) :=
  .ite h (.ite h.takeShr.count (.ite h.takeShr (.ite h.takeShr.joinReceive h.takeShr.netReceive)))

theorem execRadioFrameReceive_completes {p : Nat} {f : List Byte} {rssi : Nat} {fcsOk : Bool}
    : Completes s (execRadioFrameReceive p f rssi fcsOk s) :=
  .next fun h => h.receive

theorem execJoinReqReceive_completes {p : Nat} {f : List Byte} : Completes s (execJoinReqReceive p f s) :=
  .ite (.next fun h => h.receive) .same

theorem Keeps.sfdStamp {x : Stamp} (h : Keeps s₀ s) : Keeps s₀ (s.sfdStamp x) := by
  unfold State.sfdStamp
  extract_lets +onlyGivenNames p
  refine .ite h ?_
  extract_lets +onlyGivenNames fine shr l early
  split
  · exact h.setMac
  · exact .ite h.setMac.count.event h.setMac

theorem execJoinTimeout_completes {p k : Nat} : Completes s (execJoinTimeout p k s) := .ite (.next fun h => h.entLeave) .same

theorem execMachineLostTimeout_completes {p k : Nat} : Completes s (execMachineLostTimeout p k s) :=
  .ite (.next fun h => h.setMac.entLeave.event) .same

theorem Keeps.corrNewer {mac seq i : Nat} (h : Keeps s₀ s) : Keeps s₀ (s.corrNewer mac seq i) := by
  induction i with
  | zero => exact h
  | succ i ih => exact ih.frame.setMac.count.eventIf

theorem execCorrItemReceive_completes {mac : Nat} : Completes s (execCorrItemReceive mac s) := by
  unfold execCorrItemReceive
  extract_lets +onlyGivenNames pos
  split
  · exact .same
  · extract_lets +onlyGivenNames w n
    refine .ite .same ?_
    extract_lets +onlyGivenNames seq t u
    have hu : Keeps s u.1 := .memRead (.corrNewer (.taken .refl))
    split
    · exact .next fun _ => hu.poisonDrop
    · extract_lets +onlyGivenNames t1 t2 t3 at_ idx _ t4 nxt
      have ht4 : Keeps s t4 := .frame (.when (.when hu fun h => h.count) fun h => h.count)
      exact .ite (.next fun _ => ht4.frame) (.next fun _ => ht4)

theorem execDownlinkRequest_completes {mac : Nat} : Completes s (execDownlinkRequest mac s) := by
  unfold execDownlinkRequest
  extract_lets +onlyGivenNames pos
  split
  · exact .same
  · extract_lets +onlyGivenNames w p k n ack r0 s1 lim
    refine .ite (.next fun h => h.taken) ?_
    refine .ite (.next fun h => h.taken.dlDone) ?_
    refine .ite (.next fun h => h.taken.dlDone) ?_
    refine .ite (.next fun h => h.taken.dlDone) ?_
    refine .ite (.next fun h => h.taken.dlDone) ?_
    extract_lets +onlyGivenNames m
    split
    · exact .next fun h => h.taken.memRead.poisonDrop
    · exact .next fun h => h.taken.memRead.setMac

theorem execKeyRotateApply_completes {p : Nat} : Completes s (execKeyRotateApply p s) := .ite (.next fun h => h.keyRotate) .same

theorem Keeps.radioStepped (h : Keeps s₀ s) : Keeps s₀ s.radioStepped := h.frame

theorem Keeps.radioRelabel {off : Int} (h : Keeps s₀ s) : Keeps s₀ (s.radioRelabel off) := h.frame

theorem Keeps.radioOff (h : Keeps s₀ s) : Keeps s₀ s.radioOff := h.frame.clearCells.set

/-! ### Tracks, coverage and tasks -/

theorem Keeps.setMach {m : Nat} {l : TrkLane} (h : Keeps s₀ s) : Keeps s₀ (s.setMach m l) := h.frame

theorem Keeps.tkEvent {t : Nat} {f : Fld} (h : Keeps s₀ s) : Keeps s₀ (s.tkEvent t f) := h.event

theorem Keeps.tmEvent {m : Nat} {f : Fld} (h : Keeps s₀ s) : Keeps s₀ (s.tmEvent m f) := h.event

theorem Keeps.homeEvent {f : Fld} (h : Keeps s₀ s) : Keeps s₀ (s.homeEvent f) := h.tkEvent

theorem Keeps.setTm {m st : Nat} (h : Keeps s₀ s) : Keeps s₀ (s.setTm m st) := h.set

theorem Keeps.trkPump {m n : Nat} (h : Keeps s₀ s) : Keeps s₀ (trkPump m n s) := by
  induction n generalizing s with
  | zero => exact h
  | succ n ih =>
    unfold Machine.trkPump
    dsimp only
    split
    · exact h
    · refine .ite h ?_
      split
      · exact h
      · next e => exact ih (h.takeSlot e).memWrite.emit.setMach

theorem Keeps.trkSend {m : Nat} {fs : List DlFrame} (h : Keeps s₀ s) : Keeps s₀ (s.trkSend m fs) := h.setMach.trkPump

theorem Keeps.sendControl {m op : Nat} {must : Bool} (h : Keeps s₀ s) : Keeps s₀ (s.sendControl m op must) := h.trkSend

theorem Keeps.giveSegs {m sNow : Nat} {must : Bool} {n : Nat} (h : Keeps s₀ s) : Keeps s₀ (s.giveSegs m sNow must n) := by
  induction n generalizing s with
  | zero => exact h
  | succ n ih =>
    unfold State.giveSegs
    dsimp only
    split
    · exact h
    · exact .ite h (ih h.setMach.trkSend)

theorem Keeps.planLane {m : Nat} (h : Keeps s₀ s) : Keeps s₀ (s.planLane m) := .ite h h.setMach

theorem Keeps.setTable {l : List Resv} (h : Keeps s₀ s) : Keeps s₀ (s.setTable l) := h.set.frame

theorem Keeps.tryReserve {rs : List Resv} (h : Keeps s₀ s) : Keeps s₀ (s.tryReserve rs).1 := by
  unfold State.tryReserve
  dsimp only
  split
  · exact h
  · exact .ite_fst h h.setTable

theorem Keeps.refusedResv {r : Nat} (h : Keeps s₀ s) : Keeps s₀ (s.refusedResv r) := .ite h.count.homeEvent.homeEvent h.count.homeEvent

theorem Keeps.accepted {m : Nat} (h : Keeps s₀ s) : Keeps s₀ (s.accepted m) := by
  unfold State.accepted
  extract_lets +onlyGivenNames l
  split
  · exact h
  · extract_lets +onlyGivenNames sNow whole first u
    have hu : Keeps s₀ u := h.setMach.setTm
    exact .setMach (.ite (.sendControl (.ite hu.set.trkSend.giveSegs hu.set)) (.ite hu.set.trkSend.giveSegs hu.set))

theorem Keeps.reserveLane {m : Nat} (h : Keeps s₀ s) : Keeps s₀ (s.reserveLane m) := by
  unfold State.reserveLane
  extract_lets +onlyGivenNames l
  refine .ite h ?_
  refine .ite h.accepted ?_
  extract_lets +onlyGivenNames old
  split
  · next e => exact .accepted (.setTable (.of_fst h.tryReserve e))
  · next e => exact .tmEvent (.refusedResv (.setMach (.of_fst h.tryReserve e)))

theorem execReservationRequest_completes {mach : Nat} : Completes s (execReservationRequest mach s) :=
  .ite (.next fun h => h.reserveLane) .same

theorem execReservationRetry_completes {mach : Nat} : Completes s (execReservationRetry mach s) := by
  unfold execReservationRetry
  split
  · exact .ite (.next fun h => h.planLane) .same
  · exact .same

theorem execReservationExpire_completes {id : Nat} : Completes s (execReservationExpire id s) := .next fun h => .ite h.setTable h

theorem Keeps.holdLane {m cause : Nat} (h : Keeps s₀ s) : Keeps s₀ (s.holdLane m cause) := h.setTm.set.tmEvent

theorem Keeps.leaveWait {m : Nat} (h : Keeps s₀ s) : Keeps s₀ (s.leaveWait m) := by
  unfold State.leaveWait
  extract_lets +onlyGivenNames l
  split
  · exact h
  · exact .ite h (.ite h.holdLane h.setTm.planLane)

theorem Keeps.endTask {m : Nat} {aborted : Bool} (h : Keeps s₀ s) : Keeps s₀ (s.endTask m aborted) := by
  unfold State.endTask
  extract_lets +onlyGivenNames l
  split
  · exact h
  · exact h.setTable.setMach.sets.tileDone.tmEvent

theorem Keeps.pauseLane {m : Nat} (h : Keeps s₀ s) : Keeps s₀ (s.pauseLane m) := .ite h h.setTable.setMach.setTm.set.tmEvent.sendControl

theorem Keeps.resumeLane {m : Nat} (h : Keeps s₀ s) : Keeps s₀ (s.resumeLane m) := .ite h h.setMach.setTm.planLane

theorem Keeps.levels {m : Nat} (h : Keeps s₀ s) : Keeps s₀ (s.levels m) :=
  .ite (.resumeLane (.ite (.pauseLane (.ite h.setMach h)) (.ite h.setMach h))) (.ite (.pauseLane (.ite h.setMach h)) (.ite h.setMach h))

theorem Keeps.laneWrite {w : Master} {m off : Nat} {f : State → State} (h : Keeps s₀ s) (hf : ∀ t, Keeps s₀ t → Keeps s₀ (f t))
    : Keeps s₀ (s.laneWrite w m off f) :=
  h.tileWrite fun _ ht => .ite (hf _ ht) ht

theorem execTaskPause_completes {by_ : Option Master} {mach : Nat} : Completes s (execTaskPause by_ mach s) := by
  unfold execTaskPause
  split
  · exact .next fun h => h.laneWrite fun _ ht => ht.pauseLane
  · exact .next fun h => .ite h.levels h

theorem Keeps.resumeWrite {m : Nat} (h : Keeps s₀ s) : Keeps s₀ (s.resumeWrite m) := .ite h.setTm.set.setMach.leaveWait h.resumeLane

theorem execTaskResume_completes {by_ : Option Master} {mach : Nat} : Completes s (execTaskResume by_ mach s) := by
  unfold execTaskResume
  split
  · exact .next fun h => h.laneWrite fun _ ht => ht.resumeWrite
  · exact .next fun h => .ite h.resumeLane h

theorem Keeps.abortLane {m : Nat} (h : Keeps s₀ s) : Keeps s₀ (s.abortLane m) := .ite h (.ite h.endTask h.setMach.sendControl)

theorem execTaskAbort_completes {m : Master} {mach : Nat} : Completes s (execTaskAbort m mach s) :=
  .next fun h => h.laneWrite fun _ ht => ht.abortLane

theorem execAbortTimeout_completes {mach : Nat} : Completes s (execAbortTimeout mach s) := by
  unfold execAbortTimeout
  split
  · exact .ite (.next fun h => h.endTask) .same
  · exact .same

theorem Keeps.laneActs {m : Nat} (h : Keeps s₀ s) : Keeps s₀ (s.laneActs m) := .ite h.levels.leaveWait.trkPump h

theorem Keeps.tracksDue (h : Keeps s₀ s) : Keeps s₀ s.tracksDue := .foldl h fun _ _ ht => ht.laneActs

theorem execPermitBitmap_completes {p : Nat} : Completes s (execPermitBitmap p s) :=
  .ite .same (.next fun h => .foldl h fun _ _ ht => .ite ht.setB.levels.leaveWait ht)

theorem execDownlinkResult_completes {trk : Nat} : Completes s (execDownlinkResult trk s) := by
  unfold execDownlinkResult
  split
  · exact .same
  · extract_lets +onlyGivenNames w tag m s1 l
    split
    · exact .next fun h => h.taken
    · exact .next fun h => .ite h.taken.setMach.trkPump.setTm h.taken.setMach.trkPump

theorem Keeps.trkEnable {t : Nat} (h : Keeps s₀ s) : Keeps s₀ (s.trkEnable t) := .ite h (.ite h.sets h.set.tkEvent)

theorem Keeps.trkWrite {m : Master} {t off : Nat} {f : State → State} (h : Keeps s₀ s) (hf : ∀ t, Keeps s₀ t → Keeps s₀ (f t))
    : Keeps s₀ (s.trkWrite m t off f) :=
  h.tileWrite fun _ ht => hf _ ht

theorem execTkEnable_completes {m : Master} {trk : Nat} : Completes s (execTkEnable m trk s) :=
  .ite (.next fun h => h.trkWrite (fun _ ht => ht.trkEnable)) .same

theorem Keeps.trkDisable {t : Nat} (h : Keeps s₀ s) : Keeps s₀ (s.trkDisable t) :=
  .ite h (.frame (.sets (.foldl h fun _ _ ht => .ite ht (.endTask (.ite ht ht.sendControl)))))

theorem execTkDisable_completes {m : Master} {trk : Nat} : Completes s (execTkDisable m trk s) :=
  .ite (.next fun h => h.trkWrite (fun _ ht => ht.trkDisable)) .same

theorem Keeps.pauseTile {t : Nat} (h : Keeps s₀ s) : Keeps s₀ (s.pauseTile t) := .foldl h fun _ _ ht => ht.pauseLane

theorem execOriginChange_completes {trk : Nat} : Completes s (execOriginChange trk s) :=
  .ite (.next fun h => h.tkEvent.pauseTile.frame) .same

theorem Keeps.tracksMode {md : Mode} (h : Keeps s₀ s) : Keeps s₀ (s.tracksMode md) := .ite (.foldl h fun _ _ ht => ht.pauseTile) h

theorem Keeps.tracksOff (h : Keeps s₀ s) : Keeps s₀ s.tracksOff := h.clearCells.frame

theorem Keeps.tracksRelabel {ofs : Int} (h : Keeps s₀ s) : Keeps s₀ (s.tracksRelabel ofs) := h.frame

theorem Keeps.tracksStepped {ofs : Int} (h : Keeps s₀ s) : Keeps s₀ (s.tracksStepped ofs) := by
  unfold State.tracksStepped
  extract_lets +onlyGivenNames lanes tr
  refine .foldl h.frame fun _ _ hu => ?_
  split
  · exact .ite hu hu.set
  · exact hu

theorem Keeps.replanMove {m : Nat} {p : Prof} (h : Keeps s₀ s) : Keeps s₀ (s.replanMove m p) := by
  unfold State.replanMove
  split
  · exact h
  · exact h.setMach

theorem Keeps.profResult {t r j lane : Nat} (h : Keeps s₀ s) : Keeps s₀ (s.profResult t r j lane) := .ite h.sets h.sets.tkEvent

theorem Keeps.profStore {t j : Nat} {p : Prof} {fs : List (Fld × Nat)} (h : Keeps s₀ s) : Keeps s₀ (s.profStore t j p fs) := by
  unfold State.profStore
  extract_lets +onlyGivenNames ls
  split
  · exact h.profResult
  · exact .profResult (.foldl h.sets fun _ _ ht => ht.replanMove)

theorem Keeps.profV {t j v : Nat} (h : Keeps s₀ s) : Keeps s₀ (s.profV t j v) := .ite h.profResult (.ite h.profResult h.profStore)

theorem Keeps.profA {t j v : Nat} (h : Keeps s₀ s) : Keeps s₀ (s.profA t j v) := .ite h.profResult h.profStore

theorem execProfileVWrite_completes {m : Master} {trk j v : Nat} : Completes s (execProfileVWrite m trk j v s) :=
  .ite (.next fun h => h.trkWrite (fun _ ht => ht.profV)) .same

theorem execProfileAWrite_completes {m : Master} {trk j v : Nat} : Completes s (execProfileAWrite m trk j v s) :=
  .ite (.next fun h => h.trkWrite (fun _ ht => ht.profA)) .same

theorem Keeps.submitTask {t v : Nat} (h : Keeps s₀ s) : Keeps s₀ (s.submitTask t v) := .ite h h.sets.frame

theorem execTaskSubmit_completes {m : Master} {trk v : Nat} : Completes s (execTaskSubmit m trk v s) :=
  .ite (.next fun h => h.trkWrite (fun _ ht => ht.submitTask)) .same

theorem Keeps.readTask {t index handle : Nat} (h : Keeps s₀ s) : Keeps s₀ (s.readTask t index handle).1 := by
  unfold State.readTask
  dsimp only
  split
  · next e => exact (h.memRead.of_fst e).poisonDrop
  · next e =>
    have hu := h.memRead.of_fst e
    refine .ite_fst hu ?_
    split
    · next e1 => exact (hu.memRead.of_fst e1).poisonDrop
    · next e1 => exact hu.memRead.of_fst e1

theorem Keeps.checkTask {t v : Nat} (h : Keeps s₀ s) : Keeps s₀ (s.checkTask t v) := by
  unfold State.checkTask
  extract_lets +onlyGivenNames b m flow done
  have hdone : ∀ u c x, Keeps s₀ u → Keeps s₀ (done u c x) := fun _ _ _ ht => ht.sets
  refine .ite (hdone _ _ _ h.busyPool) ?_
  refine .ite (hdone _ _ _ h) ?_
  split
  · next e => exact hdone _ _ _ (.of_fst h.readTask e)
  · next e =>
      extract_lets +onlyGivenNames c
      refine .ite (hdone _ _ _ (.of_fst h.readTask e)) ?_
      split
      · exact hdone _ _ _ (.busyPool (.of_fst h.readTask e))
      · next e1 => exact hdone _ _ _ (.create (.of_fst h.readTask e) e1)

theorem execTaskSubmitChecked_completes {trk : Nat} : Completes s (execTaskSubmitChecked trk s) := by
  unfold execTaskSubmitChecked
  split
  · exact .same
  · exact .next fun h => h.frame.checkTask

theorem Keeps.takeTask {m : Nat} {e : Entry} (h : Keeps s₀ s) : Keeps s₀ (s.takeTask m e) := by
  unfold State.takeTask
  extract_lets +onlyGivenNames s1
  have hs1 : Keeps s₀ s1 := h.sets
  split
  · next e1 => exact .holdLane (.setMach (.of_fst hs1.readTask e1))
  · next e1 => exact .leaveWait (.setMach (.of_fst hs1.readTask e1))

theorem execTaskDispatch_completes {handle : Nat} : Completes s (execTaskDispatch handle s) := by
  unfold execTaskDispatch
  split
  · exact .same
  · split
    · exact .same
    · exact .next fun h => .ite h.takeTask h

theorem Keeps.coverCell {a layer : Nat} (h : Keeps s₀ s) : Keeps s₀ (s.coverCell a layer) := by
  unfold State.coverCell
  split
  · next e => exact .of_fst h.memRead e
  · next e => exact .ite (.memWrite (.of_fst h.memRead e)) (.of_fst h.memRead e)

theorem Keeps.sweepSection {m : Nat} {g : Raster} {layer : Nat} {p r : Report} {i : Nat} (h : Keeps s₀ s)
    : Keeps s₀ (s.sweepSection m g layer p r i) :=
  .foldl h fun _ _ ht => .foldl ht fun _ _ hu => .ite hu.coverCell hu

theorem Keeps.sweep {m : Nat} {r : Report} (h : Keeps s₀ s) : Keeps s₀ (s.sweep m r) := by
  unfold State.sweep
  extract_lets +onlyGivenNames l
  split
  · exact .ite h (.ite h.count (.foldl h fun _ _ ht => ht.sweepSection))
  · exact h

theorem Keeps.switchList {m x : Nat} (h : Keeps s₀ s) : Keeps s₀ (s.switchList m x) := by
  unfold State.switchList
  extract_lets +onlyGivenNames l
  split
  · exact h
  · exact .ite h (.ite h (.trkSend (.setMach (.ite h.count h.count.tkEvent))))

theorem Keeps.runReport {m : Nat} {r : Report} (h : Keeps s₀ s) : Keeps s₀ (s.runReport m r) :=
  .ite h.endTask (.ite h.count.tkEvent.pauseLane h.setMach.set.giveSegs.switchList)

theorem Keeps.haltReport {m : Nat} {r : Report} (h : Keeps s₀ s) : Keeps s₀ (s.haltReport m r) := by
  unfold State.haltReport
  extract_lets +onlyGivenNames l
  refine .ite h ?_
  refine .ite h.endTask ?_
  refine .ite ?_ h
  split
  · exact h.setMach
  · exact h.setMach.setS

theorem Keeps.takeReport {m : Nat} {r : Report} (h : Keeps s₀ s) : Keeps s₀ (s.takeReport m r) :=
  .levels (.ite h.sets.sweep.setMach.haltReport.runReport h.sets.sweep.setMach.haltReport)

theorem Keeps.resubmit {m : Nat} {e : Entry} (h : Keeps s₀ s) : Keeps s₀ (s.resubmit m e) := by
  unfold State.resubmit
  extract_lets +onlyGivenNames f
  refine .ite h.tileDone ?_
  extract_lets +onlyGivenNames part
  split
  · exact h.busyPool
  · next e1 => exact .hwRetry (.frame (h.create e1))

theorem execMachineReport_completes {handle : Nat} : Completes s (execMachineReport handle s) := by
  unfold execMachineReport
  split
  · exact .same
  · extract_lets +onlyGivenNames m shr
    refine .ite .same ?_
    extract_lets +onlyGivenNames a
    split
    · next e1 => exact .next fun h => .tileDone (.poisonDrop (.of_fst h.memRead e1))
    · next e1 =>
        refine .ite ?_ ?_
        · exact .next fun h => .resubmit (.of_fst h.memRead e1)
        · exact .ite (.next fun h => .tileDone (.of_fst h.memRead e1)) (.next fun h => .tileDone (.takeReport (.of_fst h.memRead e1)))

theorem Keeps.homeWrite {m : Master} {f : State → State} (h : Keeps s₀ s) (hf : ∀ t, Keeps s₀ t → Keeps s₀ (f t))
    : Keeps s₀ (s.homeWrite m f) := by
  unfold State.homeWrite
  split
  · exact h
  · exact h.trkWrite fun _ ht => .ite ht (hf _ ht)

theorem Keeps.trResult {st id with_ owner : Nat} (h : Keeps s₀ s) : Keeps s₀ (s.trResult st id with_ owner) := h.sets

theorem Keeps.swReserve (h : Keeps s₀ s) : Keeps s₀ s.swReserve := by
  unfold State.swReserve
  extract_lets +onlyGivenNames b r
  refine .ite h.trResult ?_
  split
  · next e => exact .trResult (.of_fst h.tryReserve e)
  · next e1 => exact .trResult (.refusedResv (.of_fst h.tryReserve e1))
  · next e => exact .trResult (.refusedResv (.of_fst h.tryReserve e))

theorem execTrReserve_completes {m : Master} : Completes s (execTrReserve m s) := .next fun h => h.homeWrite fun _ ht => ht.swReserve

theorem Keeps.swFree (h : Keeps s₀ s) : Keeps s₀ s.swFree := .ite h.setTable.trResult h.trResult

theorem execTrFree_completes {m : Master} : Completes s (execTrFree m s) := .next fun h => h.homeWrite fun _ ht => ht.swFree

/-! ### Mode changes -/

theorem Keeps.modeRes {r : Nat} (h : Keeps s₀ s) : Keeps s₀ (s.modeRes r) := h.set

theorem Keeps.modeRefuse {r : Nat} (h : Keeps s₀ s) : Keeps s₀ (s.modeRefuse r) := h.modeRes.event

theorem Keeps.prepare {target : Mode} {cause : Nat} {dirty : Bool} (h : Keeps s₀ s) : Keeps s₀ (s.prepare target cause dirty) :=
  h.sets.frame

theorem Keeps.modeBegin {target : Mode} {cause : Nat} (h : Keeps s₀ s) : Keeps s₀ (s.modeBegin target cause) := .ite h.frame h.prepare

theorem Keeps.setPending {w : Option ModeWait} (h : Keeps s₀ s) : Keeps s₀ (s.setPending w) := h.set.frame

theorem Keeps.modeQueue {w : ModeWait} (h : Keeps s₀ s) : Keeps s₀ (s.modeQueue w) := by
  unfold State.modeQueue
  split
  · exact .ite h.modeRes h.setPending.modeRes
  · exact h.setPending.modeRes

theorem Keeps.modeAsk {code cause : Nat} {ask : Ask} (h : Keeps s₀ s) : Keeps s₀ (s.modeAsk code cause ask) :=
  .ite h.modeQueue (.ite h.modeRefuse h.modeBegin.modeRes)

theorem Keeps.modeReq {code cause : Nat} (h : Keeps s₀ s) : Keeps s₀ (s.modeReq code cause) := h.modeAsk

theorem execModeRequest_completes {m : Master} {v : Nat} : Completes s (execModeRequest m v s) :=
  .next fun h => h.actWrite fun _ ht => ht.modeReq

theorem execServiceConditionsMet_completes : Completes s (execServiceConditionsMet s) := .ite (.next fun h => h.modeReq) .same

theorem Keeps.sendCommit {c : Change} (h : Keeps s₀ s) : Keeps s₀ (s.sendCommit c) := h.set.frame

theorem execModeAck_completes {isl : Nat} : Completes s (execModeAck isl s) := by
  unfold execModeAck
  split
  · exact .ite (.next fun h => .ite h.frame.sendCommit h.frame) .same
  · exact .same

theorem execAckWaitExpiry_completes : Completes s (execAckWaitExpiry s) := by
  unfold execAckWaitExpiry
  split
  · exact .ite (.next fun h => h.sendCommit) .same
  · exact .same

theorem Keeps.timeMode {old new : Mode} (h : Keeps s₀ s) : Keeps s₀ (s.timeMode old new) :=
  .ite h.setTimeState.frame (.when (.when h fun h => .foldl h fun _ _ ht => .when ht fun ht => ht.measure) fun h => h.reselect)

theorem Keeps.modeEffects {old new : Mode} (h : Keeps s₀ s) : Keeps s₀ (s.modeEffects old new) := by
  unfold State.modeEffects
  extract_lets +onlyGivenNames t
  have ht : Keeps s₀ t := h.timeMode.loopMode
  extract_lets +onlyGivenNames t1
  have ht1 : Keeps s₀ t1 := .ite ht.gnssOff.captureOff.groupsOff.alignOff ht
  extract_lets +onlyGivenNames t2
  have ht2 : Keeps s₀ t2 := ht1.obsMode.filtMode.tracksMode
  exact .ite ht2.radioOff.tracksOff.ethOff.pktOff.canOff (.ite ht2.stopLatch ht2)

/-- Entries taken from one of two lists rise where the second does. -/
theorem Rising.pickKey {α : Type} {sel : Nat → Bool} {old new : List (Nat × α)} (h : Rising new) : Rising (pickKey sel old new) :=
  Rising.foldl (fun _ _ hl => hl.assocSet) _ (h.filter _)

theorem Keeps.keepIsles {sel : Nat → Bool} {old : State} (h : Keeps s₀ s) : Keeps s₀ (State.keepIsles sel old s) := by
  unfold State.keepIsles
  generalize hl : pickKey _ old.cells s.cells = l
  have hc (h : Rising s.cells) : Rising l := hl ▸ Rising.pickKey h
  exact (h.cells hc).frame

theorem Keeps.dormantOff (h : Keeps s₀ s) : Keeps s₀ s.dormantOff := h.dmPowerDown.switchOff.set

theorem Keeps.showEpoch {l : List Nat} (h : Keeps s₀ s) : Keeps s₀ (s.showEpoch l) := .foldl h fun _ _ ht => ht.set

theorem Keeps.skewClear (h : Keeps s₀ s) : Keeps s₀ s.skewClear := .ite h.set h

theorem Keeps.startPending (h : Keeps s₀ s) : Keeps s₀ s.startPending := by
  unfold State.startPending
  split
  · exact h
  · exact .ite h.setPending.modeRefuse h.setPending.modeBegin.modeRes

theorem Keeps.modeFinish {c : Change} (h : Keeps s₀ s) : Keeps s₀ (s.modeFinish c) :=
  .startPending (.skewClear (.when (.record (.unless h.set.frame fun h => h.event.msix)) fun h => h.modeRes))

theorem Keeps.modeSettle (h : Keeps s₀ s) : Keeps s₀ s.modeSettle := by
  unfold State.modeSettle
  split
  · exact .ite h.modeFinish h
  · exact h

theorem Keeps.commitApply {c : Change} {late : List Nat} (h : Keeps s₀ s) : Keeps s₀ (s.commitApply c late) := by
  unfold State.commitApply
  extract_lets +onlyGivenNames t
  have ht : Keeps s₀ t := h.showEpoch
  extract_lets +onlyGivenNames t1
  have ht1 : Keeps s₀ t1 := ht.set
  extract_lets +onlyGivenNames t2
  have ht2 : Keeps s₀ t2 := ht1.set
  extract_lets +onlyGivenNames t3 t4
  have ht4 : Keeps s₀ t4 := .ite ht2.frame ht1
  exact .ite (.ite ht4.set ht4) (.frame (.ite (.modeEffects (.ite ht4.set ht4)) (.keepIsles (.modeEffects (.ite ht4.set ht4)))))

theorem Keeps.applyLate {isl : Nat} (h : Keeps s₀ s) : Keeps s₀ (s.applyLate isl) := by
  unfold State.applyLate
  split
  · exact h
  · exact .frame (.ite h h.modeEffects.keepIsles)

theorem execLateApply_completes {isl : Nat} : Completes s (execLateApply isl s) :=
  .ite (.next fun h => h.applyLate.showEpoch.event.set.event.skewClear) .same

theorem Keeps.structTest {fa fb : Bool} (h : Keeps s₀ s) : Keeps s₀ (s.structTest fa fb) := .ite h.dmPowerDown.fabricDown.set.frame h

theorem execModeChangeComplete_completes {test : Option (Bool × Bool)} : Completes s (execModeChangeComplete test s) := by
  unfold execModeChangeComplete
  split
  · exact .next fun h => h.modeSettle.structTest
  · exact .next fun h => h.modeSettle

theorem Keeps.modeSkew {isls : List Nat} (h : Keeps s₀ s) : Keeps s₀ (s.modeSkew isls) := by
  unfold State.modeSkew
  extract_lets +onlyGivenNames m t
  have ht : Keeps s₀ t := h.sets.event
  extract_lets +onlyGivenNames t1
  have ht1 : Keeps s₀ t1 := ht.record
  extract_lets +onlyGivenNames kept
  split
  · exact .ite ht1 ht1.setPending
  · exact .ite (.ite ht1 ht1.modeReq) ht1

theorem execEpochHoldTimeout_completes {link : Nat} : Completes s (execEpochHoldTimeout link s) := by
  unfold execEpochHoldTimeout
  split
  · split
    · exact .ite (.next fun h => h.modeSkew) .same
    · exact .same
  · exact .same

theorem Keeps.isolate {isl at_ : Nat} (h : Keeps s₀ s) : Keeps s₀ (s.isolate isl at_) := by
  unfold State.isolate
  extract_lets +onlyGivenNames t
  have ht : Keeps s₀ t := by
    unfold t
    refine .foldl h fun _ _ hu => ?_
    split
    · extract_lets +onlyGivenNames v
      have hv : Keeps s₀ v := hu.resetLink
      split
      · exact hv.setLink
      · exact hv
    · exact hu
  exact ht.frame

theorem execSkewTimeout_completes : Completes s (execSkewTimeout s) := by
  unfold execSkewTimeout
  split
  · split
    · exact .ite (.ite (.next fun h => h.modeFinish) (.next fun h => .modeFinish (.modeSkew (.foldl h fun _ _ ht => ht.isolate)))) .same
    · exact .same
  · exact .same

theorem execIslandReadmit_completes {isl : Nat} : Completes s (execIslandReadmit isl s) := .ite (.next fun h => h.frame.skewClear) .same

theorem execIsolationTimeout_completes {isl : Nat} : Completes s (execIsolationTimeout isl s) := by
  unfold execIsolationTimeout
  split
  · exact .ite (.next fun h => h.frame.modeSkew) .same
  · exact .same

theorem Keeps.flushAll (h : Keeps s₀ s) : Keeps s₀ s.flushAll := .ite h.frame h

theorem execDormantGraceExpiry_completes {nav : List (Nat × Nat)} : Completes s (execDormantGraceExpiry nav s) := by
  unfold execDormantGraceExpiry
  split
  · exact .ite (.next fun h => .prepare (.frame (.foldl h.cocoonWrite.flushAll fun _ _ ht => ht.dmHoldAll))) .same
  · exact .same

theorem Keeps.dormantAbort (h : Keeps s₀ s) : Keeps s₀ s.dormantAbort := by
  unfold State.dormantAbort
  extract_lets +onlyGivenNames t
  have ht : Keeps s₀ t := h.event.event
  extract_lets +onlyGivenNames t1 t2
  have ht2 : Keeps s₀ t2 := ht.frame
  split
  · exact ht2.frame.set
  · exact ht2.prepare

theorem execCocoonRefresh_completes {nav : List (Nat × Nat)} : Completes s (execCocoonRefresh nav s) :=
  .ite (.next fun h => h.cocoonWrite) .same

/-! ### Updates -/

theorem Keeps.updReply {op status : Nat} {data : List Byte} (h : Keeps s₀ s) : Keeps s₀ (s.updReply op status data) := h.yxReply.frame

theorem Keeps.updDeny {op : Nat} (h : Keeps s₀ s) : Keeps s₀ (s.updDeny op) := by
  unfold State.updDeny
  split
  · exact .ite h.yxSend.yxKeep.frame h
  · exact h

theorem Keeps.updOp {op : Nat} {f : List Byte → State} (h : Keeps s₀ s) (hf : ∀ n, Keeps s₀ (f n)) : Keeps s₀ (s.updOp op f) := by
  unfold State.updOp
  split
  · exact .ite (hf _) h.updDeny
  · exact h

theorem Keeps.updBegin (h : Keeps s₀ s) : Keeps s₀ s.updBegin := by
  unfold State.updBegin
  refine .ite h.updReply ?_
  split
  · exact h.updReply
  · exact h.fresh.frame.updReply

theorem execUpdBegin_completes : Completes s (execUpdBegin s) := .next fun h => h.updOp fun _ => h.updBegin

theorem execBankEraseDone_completes {ok : Bool} : Completes s (execBankEraseDone ok s) := by
  unfold execBankEraseDone
  split
  · exact .ite .same (.ite (.next fun h => h.frame.yxFinish) (.next fun h => h.frame.toggle.yxFinish))
  · exact .same

theorem Keeps.session {s t : State} {p : List Byte} {x : UpdSess} (h : Keeps s₀ s) (e : s.session p = some (t, x)) : Keeps s₀ t := by
  unfold State.session at e
  split at e
  · split at e
    · cases e
      exact h.frame
    · cases e
  · cases e

theorem execUpdHeader_completes : Completes s (execUpdHeader s) := by
  unfold execUpdHeader
  refine .next fun h => ?_
  refine .updOp h fun _ => ?_
  split
  · exact h.updReply
  · next e => exact .updReply (.ite (.frame (h.session e)) (h.session e))

theorem execUpdBlock_completes {flashOk : Bool} : Completes s (execUpdBlock flashOk s) := by
  unfold execUpdBlock
  refine .next fun h => ?_
  refine .updOp h fun _ => ?_
  split
  · exact h.updReply
  · next e =>
      extract_lets +onlyGivenNames typ off data b
      split
      · exact .updReply (h.session e)
      · refine .ite (.updReply (h.session e)) ?_
        split
        · exact .updReply (h.session e)
        · exact .ite (.updReply (.frame (h.session e))) (.updReply (.toggle (h.session e)))

theorem Keeps.structRes {stat : Bool} {r : StructRes} (h : Keeps s₀ s) : Keeps s₀ (s.structRes stat r) := h.sets.toggle

theorem Keeps.finalCheck {b : Bank} (h : Keeps s₀ s) : Keeps s₀ (s.finalCheck b).1 := by
  unfold State.finalCheck
  refine .ite_fst h ?_
  split
  · exact h
  · split
    · exact h
    · extract_lets hs pairs
      have hp : ∀ t, Keeps s₀ t → Keeps s₀ (pairs t).1 := by
        intro t ht
        unfold pairs
        split
        · exact ht
        · exact ht
      split
      · exact hp _ h
      · refine .ite_fst h ?_
        split
        · exact h.structRes
        · exact hp _ h.structRes

theorem execUpdFinalize_completes : Completes s (execUpdFinalize s) := by
  unfold execUpdFinalize
  refine .next fun h => ?_
  refine .updOp h fun _ => ?_
  split
  · exact h.updReply
  · next e => exact .updReply (.ite (.frame (.finalCheck (h.session e))) (.finalCheck (h.session e)))

theorem Keeps.updAbort (h : Keeps s₀ s) : Keeps s₀ s.updAbort := by
  unfold State.updAbort
  split
  · exact h.frame
  · exact h

theorem execUpdAbort_completes : Completes s (execUpdAbort s) := by
  unfold execUpdAbort
  refine .next fun h => ?_
  refine .updOp h fun _ => ?_
  split
  · exact h.updReply
  · next e => exact .updReply (.updAbort (h.session e))

theorem execSessionTimeout_completes : Completes s (execSessionTimeout s) := by
  unfold execSessionTimeout
  split
  · exact .ite (.next fun h => h.updAbort) .same
  · exact .same

theorem execUpdStatus_completes : Completes s (execUpdStatus s) := by
  unfold execUpdStatus
  split
  · exact .next fun h => h.yxReply
  · exact .same

/-! ### The Yupex mailbox -/

theorem Keeps.linkSet {up : Bool} {speed width : Nat} (h : Keeps s₀ s) : Keeps s₀ (s.linkSet up speed width) :=
  .ite h.sets h.sets.event.partner

theorem execPciePerstAssert_completes {low : Bool} : Completes s (execPciePerstAssert low s) :=
  .ite (.next fun h => h.frame) (.ite (.next fun h => h.frame.set.event.linkSet.frame) (.next fun h => h.frame.set))

theorem execPcieLinkChange_completes {up : Bool} {speed width : Nat} {vecs : List Nat}
    : Completes s (execPcieLinkChange up speed width vecs s) :=
  .ite .same (.ite (.ite (.next fun h => h.linkSet.frame) .same) (.next fun h => h.linkSet))

theorem Keeps.yxGo (h : Keeps s₀ s) : Keeps s₀ s.yxGo := .ite h.event h.set.frame

theorem Keeps.yxAck (h : Keeps s₀ s) : Keeps s₀ s.yxAck := h.set

theorem Keeps.yxCtl {m : Master} {f : State → State} (h : Keeps s₀ s) (hf : ∀ t, Keeps s₀ t → Keeps s₀ (f t)) : Keeps s₀ (s.yxCtl m f) :=
  .ite h (h.actWrite (fun _ ht => hf _ ht))

theorem execYupexGo_completes {m : Master} : Completes s (execYupexGo m s) := .next fun h => h.yxCtl fun _ ht => ht.yxGo

theorem execYupexAck_completes {m : Master} : Completes s (execYupexAck m s) := .next fun h => h.yxCtl fun _ ht => ht.yxAck

theorem Keeps.yxRefuse {r : YxReq} {c : Nat} (h : Keeps s₀ s) : Keeps s₀ (s.yxRefuse r c) :=
  .yxSend (.ite h.count (.ite h.count.event (.ite h.count h)))

theorem Keeps.yxTake {r : YxReq} (h : Keeps s₀ s) : Keeps s₀ (s.yxTake r) := by
  unfold State.yxTake
  refine .ite (.ite h.count.set.frame h.count) ?_
  split
  · exact h.yxSend
  · split
    · exact h.yxRefuse
    · exact .frame (.ite h.set h)

theorem execYupexRequest_completes : Completes s (execYupexRequest s) := by
  unfold execYupexRequest
  refine .ite .same ?_
  split
  · exact .same
  · exact .next fun h => h.frame.yxTake
  · exact .next fun h => h.frame.yxTake
  · exact .ite (.next fun h => h.frame.yxTake) (.next fun h => h.frame.yxTake)

theorem execHello_completes : Completes s (execHello s) := .next fun h => h.yxReply

theorem Keeps.hostMode {target : Nat} (h : Keeps s₀ s) : Keeps s₀ (s.hostMode target) := by
  unfold State.hostMode
  split
  · exact h.modeAsk
  · exact h.modeReq
  · exact h.modeReq
  · exact h.modeReq
  · exact h.modeAsk
  · exact h.modeReq

theorem execYupexMode_completes : Completes s (execYupexMode s) := by
  unfold execYupexMode
  split
  · exact .next fun h => h.hostMode.yxReply
  · exact .same

theorem execYupexReset_completes : Completes s (execYupexReset s) := by
  unfold execYupexReset
  split
  · exact .next fun h => .frame (.askReset (.set (.ite h.yxReply.set h.yxReply)))
  · exact .same

theorem execSetRead_completes : Completes s (execSetRead s) := by
  unfold execSetRead
  split
  · extract_lets +onlyGivenNames typ
    split
    · exact .next fun h => h.yxReply
    · exact .next fun h => h.yxReply
    · exact .next fun h => h.yxReply
  · exact .same

theorem execSetWrite_completes : Completes s (execSetWrite s) := by
  unfold execSetWrite
  split
  · exact .ite (.next fun h => h.yxReply) (.ite (.next fun h => h.yxReply) (.next fun h => h.frame.yxReply))
  · exact .same

/-! ### Register writes -/

theorem Keeps.putFld {base v : Nat} {f : Fld} (h : Keeps s₀ s) : Keeps s₀ (s.putFld base v f) := by
  unfold State.putFld
  extract_lets +onlyGivenNames x
  split
  · exact h.set
  · exact h.set
  · exact h.set
  · exact h.set
  · exact h
  · exact h
  · exact h

theorem Keeps.putRwl {lock : Option (Nat × Fld × Fld)} {locked : Bool} {base v : Nat} {l : List Fld} (h : Keeps s₀ s)
    : Keeps s₀ (s.putRwl lock locked base v l) := by
  unfold State.putRwl
  refine .ite ?_ (.foldl h fun _ _ ht => ht.set)
  split
  · exact .ite h.set h
  · exact h

theorem Keeps.putWord {p : Place} {base : Nat} {r : Reg} {v : Nat} (h : Keeps s₀ s) : Keeps s₀ (s.putWord p base r v) :=
  .putRwl (.foldl h fun _ _ ht => ht.putFld)

theorem Keeps.zeroReg {base : Nat} {r : Reg} (h : Keeps s₀ s) : Keeps s₀ (s.zeroReg base r) := .foldl h fun _ _ ht => ht.set

theorem Keeps.structural {locked : Bool} {ev f : State → State} (h : Keeps s₀ s) (hev : ∀ t, Keeps s₀ t → Keeps s₀ (ev t))
    (hf : ∀ t, Keeps s₀ t → Keeps s₀ (f t)) : Keeps s₀ (s.structural locked ev f) :=
  .ite (hev _ h) (hf _ h)

theorem Keeps.cocCtrl {p : Place} {v : Nat} (h : Keeps s₀ s) : Keeps s₀ (s.cocCtrl p v) := .ite h.putWord.set.frame h.putWord

theorem Keeps.resetCtrl {v : Nat} (h : Keeps s₀ s) : Keeps s₀ (s.resetCtrl v) := .ite (.askReset (.set (.ite h.set h))) h

theorem Keeps.fsCtrl {v : Nat} (h : Keeps s₀ s) : Keeps s₀ (s.fsCtrl v) :=
  .ite (.fresh (.pathTest (.ite h.stopLatch h))) (.ite h.stopLatch h)

theorem Keeps.wMpc {p : Place} {n : Hit} {v : Nat} (h : Keeps s₀ s) : Keeps s₀ (s.wMpc p n v) := by
  unfold State.wMpc
  split
  · exact h.modeReq
  · exact h.resetCtrl
  · exact h.cocCtrl
  · exact h.coPut
  · exact h.fsCtrl
  · exact h.putWord

theorem Keeps.wDsp {m : Master} {p : Place} {n : Hit} {v : Nat} (h : Keeps s₀ s) : Keeps s₀ (s.wDsp m p n v) := by
  unfold State.wDsp
  split
  · exact h.putWord
  · exact h.flowData
  · exact h.portOpWrite
  · exact h.putWord

theorem Keeps.timeCtrl {v : Nat} (h : Keeps s₀ s) : Keeps s₀ (s.timeCtrl v) := .ite h.ctrlWrite.modeReq h.ctrlWrite

theorem Keeps.stepCtrl {v : Nat} (h : Keeps s₀ s) : Keeps s₀ (s.stepCtrl v) := .ite h.stepCancelOp (.ite h.stepGo h.setB)

theorem Keeps.leapWrite {v : Nat} (h : Keeps s₀ s) : Keeps s₀ (s.leapWrite v) := h.set.frame

theorem Keeps.wTime {p : Place} {n : Hit} {v : Nat} (h : Keeps s₀ s) : Keeps s₀ (s.wTime p n v) := by
  unfold State.wTime
  split
  · exact h.timeCtrl
  · exact h.incWrite
  · exact h.eraNextWrite
  · exact h.adjWrite
  · exact h.stepCtrl
  · exact h.terrW
  · exact h.leapWrite
  · exact h.putWord.reselect
  · exact .ite h.putWord.measure h.putWord
  · exact h.putWord
  · exact h.putWord

theorem Keeps.rfCfg {m : Master} {p : Place} {n v : Nat} (h : Keeps s₀ s) : Keeps s₀ (s.rfCfg m p n v) :=
  .ite (.ite h.putWord h.putWord.rfEnable.drawn) (.ite h.putWord.rfDisable h.putWord)

theorem Keeps.rfCtrl {m : Master} {n v : Nat} (h : Keeps s₀ s) : Keeps s₀ (s.rfCtrl m n v) :=
  .ite (.jamLearn (.ite h.rfRetrain.drawn h)) (.ite h.rfRetrain.drawn h)

theorem Keeps.wRf {m : Master} {p : Place} {n : Hit} {v : Nat} (h : Keeps s₀ s) : Keeps s₀ (s.wRf m p n v) := by
  unfold State.wRf
  extract_lets +onlyGivenNames n man
  split
  · exact h.rfCfg
  · exact h.rfCtrl
  · exact .ite h.putWord h.set
  · exact h.putWord
  · exact h.putWord
  · exact h.putWord

theorem Keeps.wWv {p : Place} {n : Hit} {v : Nat} (h : Keeps s₀ s) : Keeps s₀ (s.wWv p n v) := by
  unfold State.wWv
  extract_lets +onlyGivenNames n
  split
  · exact .pinUpdate (.ite h.putWord.pinClear h.putWord)
  · exact h.putWord.pinUpdate
  · exact .ite h.putWord.lineDrive h.putWord
  · exact h.putWord

theorem Keeps.rpCfg {p : Place} {n v : Nat} (h : Keeps s₀ s) : Keeps s₀ (s.rpCfg p n v) :=
  .ite (.ite h h.portDisable) (.ite h.putWord.portEnable.fresh h.putWord)

theorem Keeps.wRadio {p : Place} {n : Hit} {v : Nat} (h : Keeps s₀ s) : Keeps s₀ (s.wRadio p n v) := by
  unfold State.wRadio
  extract_lets +onlyGivenNames n
  split
  · exact h.asnBaseWrite
  · exact h.rpCfg
  · exact .ite h.putWord.rawGo.fresh h.putWord
  · exact h.putWord

theorem Keeps.ethCfg {p : Place} {n v : Nat} (h : Keeps s₀ s) : Keeps s₀ (s.ethCfg p n v) :=
  .ite (.ite h.ethEvent h.ethEvent.ethEnable) (.ite h.putWord.ethEnable h.putWord)

theorem Keeps.wEth {m : Master} {p : Place} {n : Hit} {v : Nat} (h : Keeps s₀ s) : Keeps s₀ (s.wEth m p n v) := by
  unfold State.wEth
  extract_lets +onlyGivenNames n tp
  split
  · exact h.ethCfg
  · exact .ite h.putWord h
  · exact .ite h.putWord h
  · exact .ite h h.putWord
  · exact .ite h h.putWord
  · exact h.zeroReg.zeroReg
  · exact .ite h.swtxGo h
  · exact .ite h.uplinkSwitch h
  · exact h.putWord

theorem Keeps.cnCtrl {n v : Nat} (h : Keeps s₀ s) : Keeps s₀ (s.cnCtrl n v) := by
  unfold State.cnCtrl
  extract_lets +onlyGivenNames t
  have ht : Keeps s₀ t := .ite h.adrEnd h
  extract_lets +onlyGivenNames t1
  have ht1 : Keeps s₀ t1 := .ite ht.adrGo ht
  extract_lets +onlyGivenNames t2
  have ht2 : Keeps s₀ t2 := .ite ht1.canEnable ht1.canDisable
  exact .ite (.zeroReg (.ite ht2.set ht2)) (.ite ht2.set ht2)

theorem Keeps.wCan {p : Place} {n : Hit} {v : Nat} (h : Keeps s₀ s) : Keeps s₀ (s.wCan p n v) := by
  unfold State.wCan
  extract_lets +onlyGivenNames n lock
  have hlock : ∀ t, Keeps s₀ t → Keeps s₀ (lock t) := fun _ ht => ht.structural (fun _ hu => hu.cnEvent) fun _ hu => hu.putWord
  split
  · exact hlock _ h
  · exact hlock _ h
  · exact hlock _ h
  · exact hlock _ h
  · exact hlock _ h
  · exact h.cnCtrl
  · exact h.release_.set
  · exact h.objConfig
  · exact h.objWordWrite
  · exact .ite h.txCancel h.txRequest.fresh
  · exact h.putWord

theorem Keeps.wYx {p : Place} {n : Hit} {v : Nat} (h : Keeps s₀ s) : Keeps s₀ (s.wYx p n v) := by
  unfold State.wYx
  split
  · exact .ite (.yxGo (.ite h.yxAck h)) (.ite h.yxAck h)
  · exact h.putWord

theorem Keeps.wDdr {p : Place} {n : Hit} {v : Nat} (h : Keeps s₀ s) : Keeps s₀ (s.wDdr p n v) := by
  unfold State.wDdr
  split
  · exact h.zeroReg
  · exact h.armInject
  · exact h.putWord

theorem Keeps.wSec {p : Place} {n : Hit} {v : Nat} (h : Keeps s₀ s) : Keeps s₀ (s.wSec p n v) := by
  unfold State.wSec
  split
  · exact h.putWord
  · exact h.putWord
  · exact .ite (.gmGo (.ite h.gmAck h)) (.ite h.gmAck h)
  · exact h.putWord

theorem Keeps.wEr {p : Place} {n : Hit} {v : Nat} (h : Keeps s₀ s) : Keeps s₀ (s.wEr p n v) := by
  unfold State.wEr
  split
  · exact .ite (.foldl h.putWord fun _ _ ht => ht.set) h.putWord
  · exact h.swPulse
  · exact h.set.putWord
  · exact h.putWord

theorem Keeps.wRc {p : Place} {n : Hit} {v : Nat} (h : Keeps s₀ s) : Keeps s₀ (s.wRc p n v) := by
  unfold State.wRc
  split
  · exact .ite h.putWord.startFlush h.putWord
  · exact h.ackTo
  · exact h.zeroReg
  · exact .ite h.swGo h
  · exact h.refill.putWord.keepBucket
  · exact h.putWord

theorem Keeps.wLoop {p : Place} {n : Hit} {v : Nat} (h : Keeps s₀ s) : Keeps s₀ (s.wLoop p n v) := by
  unfold State.wLoop
  extract_lets +onlyGivenNames l lock
  have hlock : ∀ t, Keeps s₀ t → Keeps s₀ (lock t) := fun _ ht => ht.structural (fun _ hu => hu.loopEvent) fun _ hu => hu.putWord
  split
  · exact hlock _ h
  · exact hlock _ h
  · exact hlock _ h
  · exact h.loopCtrlWrite
  · exact .ite h.putWord.setLoop h.putWord
  · exact h.putWord.regSample
  · exact h.putWord
  · exact h.putWord

theorem Keeps.wAcq {m : Master} {p : Place} {n : Hit} {v : Nat} (h : Keeps s₀ s) : Keeps s₀ (s.wAcq m p n v) := by
  unfold State.wAcq
  extract_lets +onlyGivenNames q
  split
  · exact .ite h.putWord.acqAbort (.ite h.putWord.acqGo h.putWord)
  · exact h.putWord

theorem Keeps.wCor {m : Master} {p : Place} {n : Hit} {v : Nat} (h : Keeps s₀ s) : Keeps s₀ (s.wCor m p n v) := by
  unfold State.wCor
  extract_lets +onlyGivenNames c
  split
  · exact h.structural (fun _ ht => ht.chEvent) fun _ ht => ht.putWord
  · exact .ite h.putWord.chEnable (.ite h.putWord.chDisable h.putWord)
  · exact .ite h.putWord h.chEvent
  · exact h.chAid
  · exact h.putWord

theorem Keeps.wObs {p : Place} {n : Hit} {v : Nat} (h : Keeps s₀ s) : Keeps s₀ (s.wObs p n v) := by
  unfold State.wObs
  extract_lets +onlyGivenNames i
  split
  · exact .ite h.putWord.zeroReg.zeroReg.set h.putWord
  · exact .ite h.putWord.surveyStart h.putWord
  · exact h.poszWrite
  · exact h.baseWrite
  · exact .ite h.putWord.intClear h.putWord
  · exact h.sidcCommit
  · exact .ite (.ite h.putWord h.putWord.outEnable) h.putWord.outDisable
  · exact h.putWord

theorem Keeps.flBank {p : Place} {c base v : Nat} (h : Keeps s₀ s) : Keeps s₀ (s.flBank p c base v) := h.flEventIf.putWord

theorem Keeps.flCoef {c k base : Nat} {f : Fld} {v : Nat} (h : Keeps s₀ s) : Keeps s₀ (s.flCoef c k base f v) := .ite h.flEvent h.set

theorem Keeps.flCtrl {p : Place} {c v : Nat} (h : Keeps s₀ s) : Keeps s₀ (s.flCtrl p c v) := by
  unfold State.flCtrl
  extract_lets +onlyGivenNames b t
  have ht : Keeps s₀ t := h.putWord
  extract_lets +onlyGivenNames t1
  have ht1 : Keeps s₀ t1 := .ite ht.flEnable (.ite ht.flDisable ht)
  exact .ite (.zeroReg (.ite ht1.swapAsk ht1)) (.ite ht1.swapAsk ht1)

theorem Keeps.wFilt {p : Place} {n : Hit} {v : Nat} (h : Keeps s₀ s) : Keeps s₀ (s.wFilt p n v) := by
  unfold State.wFilt
  extract_lets +onlyGivenNames c
  split
  · exact h.structural (fun _ ht => ht.flEvent) fun _ ht => ht.putWord
  · exact h.flCtrl
  · exact h.flBank
  · exact h.flCoef
  · exact h.flCoef
  · exact h.putWord

theorem Keeps.wPhs {p : Place} {n : Hit} {v : Nat} (h : Keeps s₀ s) : Keeps s₀ (s.wPhs p n v) := by
  unfold State.wPhs
  extract_lets +onlyGivenNames c
  split
  · exact h.structural (fun _ ht => ht.phEvent) fun _ ht => ht.putWord
  · exact .ite (.zeroReg (.ite h.phEnable h.phDisable)) (.ite h.phEnable h.phDisable)
  · exact h.putWord

theorem Keeps.alCfg {p : Place} {st v : Nat} (h : Keeps s₀ s) : Keeps s₀ (s.alCfg p st v) :=
  .ite (.ite (.ite h.atEvent h) (.streamOff (.ite h.atEvent h))) (.ite h.putWord.streamOn h.putWord)

theorem Keeps.alMemb {p : Place} {b v : Nat} (h : Keeps s₀ s) : Keeps s₀ (s.alMemb p b v) := .set (.ite h h.atEvent)

theorem Keeps.acCfg {p : Place} {n base v : Nat} (h : Keeps s₀ s) : Keeps s₀ (s.acCfg p n base v) :=
  .ite (.ite (.ite (.ite h.atEvent h) (.concOff (.ite h.atEvent h))) h) (.ite h.putWord.concOn h.putWord)

theorem Keeps.wAln {p : Place} {n : Hit} {b v : Nat} (h : Keeps s₀ s) : Keeps s₀ (s.wAln p n b v) := by
  unfold State.wAln
  extract_lets +onlyGivenNames st n ev
  have hev : ∀ u, Keeps s₀ u → Keeps s₀ (ev u) := fun _ ht => ht.atEvent
  extract_lets +onlyGivenNames lock
  have hlock : ∀ t, Keeps s₀ t → Keeps s₀ (lock t) := fun _ ht => ht.structural (fun _ hu => hev _ hu) fun _ hu => hu.putWord
  extract_lets +onlyGivenNames conc
  have hconc : ∀ t, Keeps s₀ t → Keeps s₀ (conc t) := fun _ ht => .ite (.ite (hev _ ht) ht) ht.putWord
  split
  · exact h.alCfg
  · exact hlock _ h
  · exact hlock _ h
  · exact hlock _ h
  · exact hlock _ h
  · exact h.alMemb
  · exact h.zeroReg.zeroReg
  · exact h.acCfg
  · exact hconc _ h
  · exact hconc _ h
  · exact h.putWord

theorem Keeps.wModa {p : Place} {n : Hit} {v : Nat} (h : Keeps s₀ s) : Keeps s₀ (s.wModa p n v) := by
  unfold State.wModa
  extract_lets +onlyGivenNames g lock
  have hlock : ∀ t, Keeps s₀ t → Keeps s₀ (lock t) := fun _ ht => ht.structural (fun _ hu => hu.mgEvent) fun _ hu => hu.putWord
  split
  · exact hlock _ h
  · exact hlock _ h
  · extract_lets +onlyGivenNames t
    have ht : Keeps s₀ t := .ite h.groupOn (.ite h.groupOff h)
    exact .ite (.zeroReg (.ite ht.restartCmd ht)) (.ite ht.restartCmd ht)
  · exact h.putWord

theorem Keeps.tgCtrl {e v : Nat} (h : Keeps s₀ s) : Keeps s₀ (s.tgCtrl e v) := by
  unfold State.tgCtrl
  extract_lets +onlyGivenNames b t
  have ht : Keeps s₀ t := .ite h h.tgRelease
  extract_lets +onlyGivenNames t1
  have ht1 : Keeps s₀ t1 := .ite ht.tgAbort (.ite ht.arm (.ite ht.tgAbort ht))
  exact .ite (.zeroReg (.ite ht1.trigger ht1)) (.ite ht1.trigger ht1)

theorem Keeps.wTrig {p : Place} {n : Hit} {v : Nat} (h : Keeps s₀ s) : Keeps s₀ (s.wTrig p n v) := by
  unfold State.wTrig
  extract_lets +onlyGivenNames e lock
  have hlock : ∀ t, Keeps s₀ t → Keeps s₀ (lock t) := fun _ ht => ht.structural (fun _ hu => hu.tgEvent) fun _ hu => hu.putWord
  split
  · exact hlock _ h
  · exact hlock _ h
  · exact hlock _ h
  · exact hlock _ h
  · exact h.tgCtrl
  · exact h.putWord

theorem Keeps.mcfg {p : Place} {l k base v : Nat} (h : Keeps s₀ s) : Keeps s₀ (s.mcfg p l k base v) :=
  .ite (.ite h h.putWord.entLeave) (.ite h.putWord.set h.putWord)

theorem Keeps.wMac {p : Place} {n : Hit} {v : Nat} (h : Keeps s₀ s) : Keeps s₀ (s.wMac p n v) := by
  unfold State.wMac
  extract_lets +onlyGivenNames l lock
  have hlock : ∀ t, Keeps s₀ t → Keeps s₀ (lock t) := fun _ ht => ht.structural (fun _ hu => hu.event) fun _ hu => hu.putWord
  split
  · exact hlock _ h
  · exact hlock _ h
  · exact hlock _ h
  · extract_lets +onlyGivenNames t
    have ht : Keeps s₀ t := h.putWord
    exact .ite (.zeroReg (.zeroReg (.ite ht.laneEnable (.ite ht.laneDisable ht)))) (.ite ht.laneEnable (.ite ht.laneDisable ht))
  · exact .ite h h.putWord
  · exact h.mcfg
  · exact h.putWord

theorem Keeps.trReq {p : Place} {base v : Nat} (h : Keeps s₀ s) : Keeps s₀ (s.trReq p base v) :=
  .ite (.ite h.putWord.swFree h.putWord.swReserve) h.putWord

theorem Keeps.tmCtrl {m v : Nat} (h : Keeps s₀ s) : Keeps s₀ (s.tmCtrl m v) :=
  .ite h (.ite h.abortLane (.ite h.pauseLane (.ite h.resumeWrite h)))

theorem Keeps.wTrk {p : Place} {n : Hit} {v : Nat} (h : Keeps s₀ s) : Keeps s₀ (s.wTrk p n v) := by
  unfold State.wTrk
  extract_lets +onlyGivenNames t m lock
  have hlock : ∀ x, Keeps s₀ x → Keeps s₀ (lock x) := fun _ ht => ht.structural (fun _ hu => hu.tkEvent) fun _ hu => hu.putWord
  split
  · exact hlock _ h
  · exact hlock _ h
  · exact hlock _ h
  · exact hlock _ h
  · exact hlock _ h
  · exact .ite (.zeroReg (.ite h.trkEnable h.trkDisable)) (.ite h.trkEnable h.trkDisable)
  · exact h.submitTask
  · exact h.profV
  · exact h.profA
  · exact h.trReq
  · exact h.structural (fun _ ht => ht.tmEvent) fun _ ht => ht.putWord
  · exact h.tmCtrl
  · exact h.putWord

theorem Keeps.wCtx {p : Place} {r : Reg} {b v : Nat} (h : Keeps s₀ s) : Keeps s₀ (s.wCtx p r b v) := by
  unfold State.wCtx
  extract_lets +onlyGivenNames n x owned own
  have hown : ∀ t, Keeps s₀ t → Keeps s₀ (own t) := fun _ ht => ht.pkEvent
  split
  · exact h.rcvNxt
  · exact .ite (.ite h.set (hown _ h.set)) h.putWord
  · exact h.zeroReg
  · exact .ite (hown _ h) (.ite (.ite h.pkEvent h.pkEvent.ctxDisable) (.ite h.putWord.ctxEnable h.putWord))
  · exact .ite (hown _ h) h.putWord

theorem Keeps.wPkt {p : Place} {n : Hit} {b v : Nat} (h : Keeps s₀ s) : Keeps s₀ (s.wPkt p n b v) := by
  unfold State.wPkt
  refine .ite h.wCtx ?_
  split
  · exact h.zeroReg
  · exact h.putWord

theorem Keeps.dmCtlWrite {ch v : Nat} (h : Keeps s₀ s) : Keeps s₀ (s.dmCtlWrite ch v) := by
  unfold State.dmCtlWrite
  extract_lets +onlyGivenNames t
  have ht : Keeps s₀ t := h.set
  extract_lets +onlyGivenNames t1
  have ht1 : Keeps s₀ t1 := .ite ht.dmAbort ht
  extract_lets +onlyGivenNames t2
  have ht2 : Keeps s₀ t2 := .ite ht1.dmShClr ht1
  extract_lets +onlyGivenNames t3
  have ht3 : Keeps s₀ t3 := .ite ht2.dmShGo ht2
  exact .ite (.dmResume (.ite (.dmContinue (.ite ht3.dmArm ht3)) (.ite ht3.dmArm ht3)))
    (.ite (.dmContinue (.ite ht3.dmArm ht3)) (.ite ht3.dmArm ht3))

theorem Keeps.wDma {p : Place} {n : Hit} {v : Nat} (h : Keeps s₀ s) : Keeps s₀ (s.wDma p n v) := by
  unfold State.wDma
  extract_lets +onlyGivenNames ch st put
  have hput : ∀ t, Keeps s₀ t → Keeps s₀ (put t) := fun _ ht => ht.putWord
  extract_lets +onlyGivenNames act
  have hact : ∀ t, Keeps s₀ t → Keeps s₀ (act t) := fun _ ht => ht.structural (fun _ hu => hu.event) fun _ hu => hput _ hu
  extract_lets +onlyGivenNames shd
  have hshd : ∀ t, Keeps s₀ t → Keeps s₀ (shd t) := fun _ ht => ht.structural (fun _ hu => hu.event) fun _ hu => hput _ hu
  split
  · exact hact _ h
  · exact hact _ h
  · exact hact _ h
  · exact hact _ h
  · exact hact _ h
  · exact hshd _ h
  · exact hshd _ h
  · exact hshd _ h
  · exact hshd _ h
  · exact hshd _ h
  · exact h.dmCtlWrite
  · exact hput _ h

theorem Keeps.wCry {p : Place} {n : Hit} {v : Nat} (h : Keeps s₀ s) : Keeps s₀ (s.wCry p n v) := by
  unfold State.wCry
  extract_lets +onlyGivenNames pos q en ev
  have hev : ∀ u, Keeps s₀ u → Keeps s₀ (ev u) := fun _ ht => ht.event
  split
  · exact .ite (.ite (hev _ h) (.cryDisable (hev _ h))) (.ite h.putWord.cryEnable h.putWord)
  · exact h.structural (fun _ ht => hev _ ht) fun _ ht => ht.putWord
  · exact h.zeroReg
  · exact h.putWord

theorem Keeps.regWrite {m : Master} {p : Place} {n : Hit} {v : Nat} (h : Keeps s₀ s) : Keeps s₀ (s.regWrite m p n v) := by
  unfold State.regWrite
  split
  · exact .ite h.freqWrite h.putWord
  · exact h.wMpc
  · exact h.wDsp
  · exact h.wTime
  · exact h.wRf
  · exact h.wWv
  · exact h.wRadio
  · exact h.wEth
  · exact h.wCan
  · exact h.wYx
  · exact h.wDdr
  · exact h.wSec
  · exact h.wEr
  · exact h.wRc
  · exact h.putWord
  · exact h.putWord
  · exact h.putWord
  · exact h.wLoop
  · exact h.wAcq
  · exact h.wCor
  · exact h.wObs
  · exact h.wFilt
  · exact h.wPhs
  · exact h.wAln
  · exact h.wModa
  · exact h.wTrig
  · exact h.wMac
  · exact h.wTrk
  · exact h.wPkt
  · exact h.wDma
  · exact h.wCry

/-! ### The bus -/

theorem Keeps.noRight {m : Master} {a : Nat} {write : Bool} (h : Keeps s₀ s) : Keeps s₀ (s.noRight m a write) :=
  .ite h.event.answer h.violation

theorem Keeps.addrErr {m : Master} {a : Nat} (h : Keeps s₀ s) : Keeps s₀ (s.addrErr m a) := h.accessEvent.answer

theorem Keeps.domOff {m : Master} {a : Nat} (h : Keeps s₀ s) : Keeps s₀ (s.domOff m a) := h.accessEvent.answer

theorem Keeps.stageOff {m : Master} {a : Nat} (h : Keeps s₀ s) : Keeps s₀ (s.stageOff m a) := h.accessEvent.answer

theorem Keeps.readEffect {n : Hit} (h : Keeps s₀ s) : Keeps s₀ (s.readEffect n) := by
  unfold State.readEffect
  extract_lets +onlyGivenNames n
  split
  · exact h.coGet
  · exact h.setPort.showStamp
  · exact .ite h.lockRead (.ite h.release_ h)
  · exact h

theorem Keeps.readWait {m : Master} {n : Hit} (h : Keeps s₀ s) : Keeps s₀ (s.readWait m n) := .ite h.admitAll h

theorem Keeps.regRead {m : Master} {p : Place} {n : Hit} (h : Keeps s₀ s) : Keeps s₀ (s.regRead m p n).1 :=
  .ite_fst h (.ite_fst h h.readWait.readEffect)

theorem Keeps.regStore {m : Master} {p : Place} {n : Hit} {v : Nat} (h : Keeps s₀ s) : Keeps s₀ (s.regStore m p n v) := .ite h h.regWrite

theorem Keeps.attend {m : Master} {blk a : Nat} (h : Keeps s₀ s) : Keeps s₀ (s.attend m blk a) := h.frame

theorem Keeps.lowRead {m : Master} {p : Place} {n : Hit} {a : Nat} (h : Keeps s₀ s) : Keeps s₀ (s.lowRead m p n a).1 :=
  h.attend.regRead.frame

theorem Keeps.highRead {m : Master} {p : Place} {n : Hit} {a : Nat} (h : Keeps s₀ s) : Keeps s₀ (s.highRead m p n a).1 := by
  unfold State.highRead
  dsimp only
  split
  · exact h.attend.frame
  · exact h.attend.regRead

theorem Keeps.lowWrite {m : Master} {p : Place} {a v : Nat} (h : Keeps s₀ s) : Keeps s₀ (s.lowWrite m p a v) := h.attend.frame

theorem Keeps.highWrite {m : Master} {p : Place} {n : Hit} {a v : Nat} (h : Keeps s₀ s) : Keeps s₀ (s.highWrite m p n a v) :=
  h.attend.frame.regStore

theorem Keeps.bufRead {m : Master} {p : Place} {n : Hit} (h : Keeps s₀ s) : Keeps s₀ (s.bufRead m p n).1 := h.regRead

theorem Keeps.bufWrite {m : Master} {p : Place} {n : Hit} {v : Nat} (h : Keeps s₀ s) : Keeps s₀ (s.bufWrite m p n v) := h.regStore

theorem Keeps.read32 {m : Master} {p : Place} {a : Nat} (h : Keeps s₀ s) : Keeps s₀ (s.read32 m p a).1 := by
  unfold State.read32
  split
  · exact h
  · exact .ite_fst h.bufRead (.ite_fst (.ite_fst h.highRead h.lowRead) h.regRead)

theorem Keeps.write32 {m : Master} {p : Place} {a v : Nat} (h : Keeps s₀ s) : Keeps s₀ (s.write32 m p a v) := by
  unfold State.write32
  split
  · exact h
  · exact .ite h.bufWrite (.ite (.ite h.highWrite h.lowWrite) h.regStore)

theorem Keeps.read64 {m : Master} {p : Place} {a : Nat} (h : Keeps s₀ s) : Keeps s₀ (s.read64 m p a).1 := by
  unfold State.read64
  split
  · exact .ite_fst h.regRead h.regRead.read32
  · exact h.read32

theorem Keeps.write64 {m : Master} {p : Place} {a v : Nat} (h : Keeps s₀ s) : Keeps s₀ (s.write64 m p a v) := by
  unfold State.write64
  split
  · exact .ite h.regStore h.regStore.write32
  · exact h.write32

theorem Keeps.window {m : Master} {a n : Nat} {f : State → Place → State} (h : Keeps s₀ s) (hf : ∀ t n, Keeps s₀ t → Keeps s₀ (f t n))
    : Keeps s₀ (s.window m a n f) := by
  unfold State.window
  refine .ite h.addrErr ?_
  split
  · exact h.addrErr
  · exact .ite h.domOff (hf _ _ h)

theorem Keeps.winRead {m : Master} {a n : Nat} (h : Keeps s₀ s) : Keeps s₀ (s.winRead m a n) :=
  h.window fun _ _ ht => .ite ht.read32.answer (.ite ht.read64.answer ht.answer)

theorem Keeps.winWrite {m : Master} {a n v : Nat} (h : Keeps s₀ s) : Keeps s₀ (s.winWrite m a n v) :=
  h.window fun _ _ ht => .answer (.ite ht.write32 (.ite ht.write64 ht))

theorem Keeps.memory {m : Master} {a n : Nat} {f : State → State} (h : Keeps s₀ s) (hf : ∀ t, Keeps s₀ t → Keeps s₀ (f t))
    : Keeps s₀ (s.memory m a n f) := by
  unfold State.memory
  split
  · exact h.addrErr
  · exact h.stageOff
  · exact h.domOff
  · exact hf _ h

theorem Keeps.memLoad {m : Master} {a n : Nat} (h : Keeps s₀ s) : Keeps s₀ (s.memLoad m a n) := by
  unfold State.memLoad
  extract_lets +onlyGivenNames r
  split
  · exact h.memRead.answer
  · exact h.memRead.answer

theorem Keeps.busRead {m : Master} {a n : Nat} (h : Keeps s₀ s) : Keeps s₀ (s.busRead m a n) :=
  .ite h.noRight (.ite (h.memory (fun _ ht => ht.memLoad)) (.ite (.ite h.answer h.addrErr) h.winRead))

theorem Keeps.memSave {a : Nat} {l : List Byte} (h : Keeps s₀ s) : Keeps s₀ (s.memSave a l) := h.memWrite.answer

theorem Keeps.busWrite {m : Master} {a : Nat} {l : List Byte} (h : Keeps s₀ s) : Keeps s₀ (s.busWrite m a l) :=
  .ite h.noRight (.ite (h.memory (fun _ ht => ht.memSave)) h.winWrite)

theorem Keeps.busPut {m : Master} {a : Nat} {wide : Bool} {v : Nat} (h : Keeps s₀ s) : Keeps s₀ (s.busPut m a wide v) := h.busWrite

theorem Keeps.keepSet {s t : State} {p : Place} {q : Hit} {same : Nat} (h : Keeps s₀ t) : Keeps s₀ (s.keepSet t p q same) :=
  h.foldl fun _ _ hu => hu.set

theorem Keeps.keepAt {s t : State} {a : Nat} {wide : Bool} {same : Nat} (h : Keeps s₀ t) : Keeps s₀ (s.keepAt t a wide same) := by
  unfold State.keepAt
  split
  · exact h
  · extract_lets u
    have hu : Keeps s₀ u := by
      unfold u
      split
      · exact h.keepSet
      · exact h
    refine .ite hu ?_
    split
    · exact .ite hu hu.keepSet
    · exact hu

theorem execBusAccess_completes {m : Master} {addr : Nat} {op : MemOp} : Completes s (execBusAccess m addr op s) := by
  unfold execBusAccess
  split
  · exact .next fun h => h.busRead
  · exact .next fun h => h.busWrite

theorem execRegisterWrite_completes {m : Master} {addr : Nat} {wide : Bool} {v same : Nat}
    : Completes s (execRegisterWrite m addr wide v same s) :=
  .next fun h => h.busPut.keepAt

theorem execRwlLock_completes {m : Master} {addr v : Nat} : Completes s (execRwlLock m addr v s) := .ite (.next fun h => h.busPut) .same

theorem execCounterClear_completes {m : Master} {addr : Nat} {wide : Bool} {v : Nat}
    : Completes s (execCounterClear m addr wide v s) := by
  unfold execCounterClear
  split
  · exact .ite (.next fun h => h.busPut) .same
  · exact .same

theorem execLowWordWrite_completes {m : Master} {addr v : Nat} : Completes s (execLowWordWrite m addr v s) :=
  .ite (.next fun h => h.busPut) .same

theorem execHighWordWrite_completes {m : Master} {addr v same : Nat} : Completes s (execHighWordWrite m addr v same s) :=
  .ite (.next fun h => h.busPut.keepAt) .same

theorem execLowWordRead_completes {m : Master} {addr : Nat} : Completes s (execLowWordRead m addr s) :=
  .ite (.next fun h => h.busRead) .same

theorem execHighWordRead_completes {m : Master} {addr : Nat} : Completes s (execHighWordRead m addr s) :=
  .ite (.next fun h => h.busRead) .same

theorem execResetCtrlWrite_completes {m : Master} {v : Nat} : Completes s (execResetCtrlWrite m v s) :=
  .next fun h => h.actWrite fun _ ht => ht.resetCtrl

/-! ### Start-up -/

theorem Keeps.rootCheck (h : Keeps s₀ s) : Keeps s₀ s.rootCheck := .ite h h.frame.record

theorem Keeps.takeDebug (h : Keeps s₀ s) : Keeps s₀ s.takeDebug := .ite h h.sets

theorem Keeps.takeLc (h : Keeps s₀ s) : Keeps s₀ s.takeLc := h.set

theorem Keeps.bootSec {env : BootEnv} (h : Keeps s₀ s) : Keeps s₀ (s.bootSec env) :=
  h.frame.lockIslands.takeLc.rootCheck.newChal.sets.frame

theorem Keeps.copySet {bad : List Nat} {b : Nat} {l : List Nat} (h : Keeps s₀ s) : Keeps s₀ (copySet bad b l s).1 := by
  induction l generalizing s with
  | nil => exact h
  | cons t l ih =>
    unfold Machine.copySet
    dsimp only
    split
    · exact ih h
    · exact .ite_fst (ih h) (.ite_fst h.frame.record (ih h.frame.frame))

theorem Keeps.copyBank {bad : List Nat} {b : Nat} (h : Keeps s₀ s) : Keeps s₀ (s.copyBank bad b).1 :=
  .ite_fst h.copySet.set.frame h.copySet

theorem Keeps.applyUpdate {env : BootEnv} (h : Keeps s₀ s) : Keeps s₀ (s.applyUpdate env).1 := by
  unfold State.applyUpdate
  split
  · dsimp only
    split
    · exact h.frame.record
    · exact h.frame.copyBank
  · split
    · exact h.copyBank
    · exact h

theorem Keeps.bootStat {code typ : Nat} (h : Keeps s₀ s) : Keeps s₀ (s.bootStat code typ) := h.sets

theorem Keeps.halt {code typ : Nat} (h : Keeps s₀ s) : Keeps s₀ (s.halt code typ) := h.bootStat.frame

theorem Keeps.verifyFw {typ : Nat} (h : Keeps s₀ s) : Keeps s₀ (s.verifyFw typ) := by
  unfold State.verifyFw
  refine .ite h ?_
  split
  · exact h.frame.bootStat.record
  · exact h.halt

theorem Keeps.verifyStop (h : Keeps s₀ s) : Keeps s₀ s.verifyStop := .ite h.set.frame h.set.bootStat.frame.record

theorem Keeps.newSettings {typ : Nat} (h : Keeps s₀ s) : Keeps s₀ (s.newSettings typ) := by
  unfold State.newSettings
  split
  · exact h
  · split
    · exact h.frame
    · exact .ite h (.recordBy (.ite h.frame.frame (.ite h.frame.frame h.frame)))

theorem Keeps.started {typ : Nat} (h : Keeps s₀ s) : Keeps s₀ (s.started typ) := h.newSettings.frame

theorem Keeps.loadSlot {x : StoredSlot} (h : Keeps s₀ s) : Keeps s₀ (s.loadSlot x) :=
  .ite (.set (.setSlot (.drawn (.foldl h fun _ _ ht => ht.set)))) (.setSlot (.drawn (.foldl h fun _ _ ht => ht.set)))

theorem Keeps.loadSlots (h : Keeps s₀ s) : Keeps s₀ s.loadSlots := by
  unfold State.loadSlots
  split
  · refine .ite ?_ h
    refine .foldl h fun _ _ hu => ?_
    split
    · exact hu.loadSlot
    · exact hu
  · exact h

theorem Keeps.bootFw (h : Keeps s₀ s) : Keeps s₀ s.bootFw :=
  .ite h.verifyFw (.ite h.verifyFw.started.loadSlots.verifyFw h.verifyFw.started.loadSlots.verifyFw.verifyStop)

theorem Keeps.bootMgmt (h : Keeps s₀ s) : Keeps s₀ s.bootMgmt :=
  .ite h.frame.lockIslands.verifyFw (.started (.ite h.frame.lockIslands.verifyFw.frame.started
    h.frame.lockIslands.verifyFw.frame.started.started))

theorem Keeps.bootIo {env : BootEnv} (h : Keeps s₀ s) : Keeps s₀ (s.bootIo env) :=
  .frame (.setB (.drawn (.sets (.ite h.frame.lockIslands.set h.frame.lockIslands.set.event.record))))

theorem Keeps.structRefused {r : StructRes} (h : Keeps s₀ s) : Keeps s₀ (s.structRefused r) := h.frame.structRes.set.record.frame

theorem Keeps.showLanes {p : Nat × Nat} (h : Keeps s₀ s) : Keeps s₀ (s.showLanes p) := by
  unfold State.showLanes
  split
  · exact h.set
  · exact h

theorem Keeps.instance_ {l : List Byte} (h : Keeps s₀ s) : Keeps s₀ (s.instance_ l) :=
  .foldl (.set (.lockIslands (.foldl h.frame fun _ _ ht => ht.set))) fun _ _ ht => ht.showLanes

theorem Keeps.unlocked (h : Keeps s₀ s) : Keeps s₀ s.unlocked := h.clearCells

theorem Keeps.relocked {old : State} (h : Keeps s₀ s) : Keeps s₀ (s.relocked old) := h.cells (Rising.foldl (fun _ _ hl => hl.assocSet) _)

theorem Keeps.uninit {old : State} {l : List RegInit} (h : Keeps s₀ s) : Keeps s₀ (s.uninit old l) := by
  unfold State.uninit
  extract_lets +onlyGivenNames of_ kept back
  exact .set (h.cells fun hc => Rising.foldl (fun _ _ hl => hl.assocSet) _ (hc.filter _)).frame

theorem Keeps.runInits {l : List RegInit} {i : Nat} (h : Keeps s₀ s) : Keeps s₀ (runInits l i s).1 := by
  induction l generalizing i s with
  | nil => exact h
  | cons r l ih => exact .ite_fst (ih h.busPut) h.busPut

theorem Keeps.structDone {l : List Byte} (h : Keeps s₀ s) : Keeps s₀ (s.structDone l) :=
  .set (.ite h.sets.structRes h.sets.structRes.frame.linkSet)

theorem Keeps.bootStruct (h : Keeps s₀ s) : Keeps s₀ s.bootStruct.1 := by
  unfold State.bootStruct
  extract_lets +onlyGivenNames im others
  split
  · exact h.structRefused
  · extract_lets +onlyGivenNames r _ t
    have hr : Keeps s₀ r.1 := h.instance_.unlocked.runInits
    have ht : Keeps s₀ t := hr.relocked.frame
    split
    · exact ht.structDone
    · exact ht.fabricDown.uninit.structRefused

theorem Keeps.bootApp {env : BootEnv} (h : Keeps s₀ s) : Keeps s₀ (s.bootApp env).1 :=
  .ite_fst h (.ite_fst h.frame.started h.bootStat.record)

theorem Keeps.applyPlan (h : Keeps s₀ s) : Keeps s₀ s.applyPlan :=
  .foldl (.ite (.ite h h.set.frame) (.frame (.set (.ite h h.set.frame)))) fun _ _ ht => ht.set

theorem Keeps.restoreRegs {l : List (Nat × Nat)} (h : Keeps s₀ s) : Keeps s₀ (s.restoreRegs l) :=
  .frame (.foldl h fun _ _ ht => ht.busPut)

theorem Keeps.cocoonItems (h : Keeps s₀ s) : Keeps s₀ s.cocoonItems := by
  unfold State.cocoonItems
  extract_lets +onlyGivenNames t
  have ht : Keeps s₀ t := .ite h.restoreRegs h
  split
  · exact .ite ht.restoreRegs.takeDirs ht
  · exact ht

theorem Keeps.narrowSearch (h : Keeps s₀ s) : Keeps s₀ s.narrowSearch := .foldl h fun _ _ ht => .ite ht.set ht

theorem Keeps.cocoonStart (h : Keeps s₀ s) : Keeps s₀ s.cocoonStart :=
  .ite h (.ite h.sets (.ite h.set (.ite (.cocoonItems (.frame (.ite h.drawn h.set)))
    (.narrowSearch (.cocoonItems (.frame (.ite h.drawn h.set)))))))

theorem Keeps.bootEnd {env : BootEnv} {bad : Bool} (h : Keeps s₀ s) : Keeps s₀ (s.bootEnd env bad) := by
  unfold State.bootEnd
  extract_lets +onlyGivenNames r a t
  have ht : Keeps s₀ t := .ite h.bootStruct.bootApp.applyPlan h.bootStruct.bootApp
  exact .ite (.prepare (.foldl ht fun _ _ hu => hu.partner)) (.prepare (.foldl ht fun _ _ hu => hu.partner))

theorem Keeps.boot3 {env : BootEnv} {fresh : Bool} (h : Keeps s₀ s) : Keeps s₀ (s.boot3 env fresh) := by
  unfold State.boot3
  extract_lets +onlyGivenNames t t1
  have ht1 : Keeps s₀ t1 := h.frame.bootSec
  extract_lets +onlyGivenNames r
  refine .ite ?_ ?_
  · exact .halt (.ite_fst ht1.applyUpdate ht1)
  · extract_lets +onlyGivenNames t2
    have ht2 : Keeps s₀ t2 := .bootFw (.ite_fst ht1.applyUpdate ht1)
    exact .ite ht2 (.ite ht2.bootMgmt ht2.bootMgmt.bootIo.bootEnd)

theorem Keeps.timeLock (h : Keeps s₀ s) : Keeps s₀ s.timeLock := h.lockIslands.frame

theorem execPowerOnReset_completes {vbat : Bool} {env : Option BootEnv} : Completes s (execPowerOnReset vbat env s) := by
  unfold execPowerOnReset
  extract_lets +onlyGivenNames t t1
  split
  · exact .next fun h => .frame (.ite h.powerUp h.powerUp.vbatDown)
  · exact .next fun h => .boot3 (.timeLock (.ite h.powerUp h.powerUp.vbatDown))

theorem execRefClockLock_completes {env : BootEnv} : Completes s (execRefClockLock env s) := .ite (.next fun h => h.timeLock.boot3) .same

theorem execWarmReset_completes {env : BootEnv} : Completes s (execWarmReset env s) :=
  .ite .same (.next fun h => .boot3 (.takeDebug (.warmDown (.frame (.foldl h fun _ _ ht => ht.set)))))

theorem execWatchdogExpiry_completes {sec : Bool} : Completes s (execWatchdogExpiry sec s) :=
  .ite (.next fun h => h.startEmergency.flushAll.askReset) .same

theorem Keeps.commitNow {c : Change} {late : List Nat} (h : Keeps s₀ s) : Keeps s₀ (s.commitNow c late) :=
  .ite h.commitApply.modeSettle.dormantOff.modeSettle (.ite h.commitApply.cocoonStart h.commitApply)

theorem Keeps.wakeMark {bit : Nat} (h : Keeps s₀ s) : Keeps s₀ (s.wakeMark bit) := .ite h.event (.ite h.event (.ite h.event h.set.toggle))

theorem Keeps.wakeUp {bits_ : Nat} {env : BootEnv} (h : Keeps s₀ s) : Keeps s₀ (s.wakeUp bits_ env) := by
  unfold State.wakeUp
  extract_lets t u
  have ht : Keeps s₀ t := h.foldl fun _ _ hu => hu.wakeMark
  have hu : Keeps s₀ u := ht.set.event
  exact hu.bootstrap.boot3

theorem execModeCommitInstant_completes {late : List Nat} : Completes s (execModeCommitInstant late s) := by
  unfold execModeCommitInstant
  split
  · refine .ite ?_ .same
    extract_lets +onlyGivenNames t
    split
    · exact .next fun h => .ite h.commitNow h.commitNow.wakeUp
    · exact .next fun h => h.commitNow
  · exact .same

theorem Keeps.wake {bit : Nat} {env : BootEnv} (h : Keeps s₀ s) : Keeps s₀ (s.wake bit env) :=
  .ite h.dormantAbort (.ite h.frame (.ite h.wakeUp h))

theorem execWakeTimerFire_completes {env : BootEnv} : Completes s (execWakeTimerFire env s) := .ite (.next fun h => h.wake) .same

theorem execWakePin_completes {pin : Nat} {rise : Bool} {env : BootEnv} : Completes s (execWakePin pin rise env s) :=
  .ite (.next fun h => h.wake) .same

theorem execWakeHost_completes {env : BootEnv} : Completes s (execWakeHost env s) := .ite (.next fun h => h.wake) .same

theorem execTamperDetect_completes {src : Nat} {v : Int} {held : Nat} {env : BootEnv} : Completes s (execTamperDetect src v held env s) :=
  .ite (.next fun h => h.tamper.wake) .same

/-! ### The host's accesses -/

theorem Keeps.unsupported (h : Keeps s₀ s) : Keeps s₀ s.unsupported := h.answer

theorem Keeps.hostRead {a n : Nat} (h : Keeps s₀ s) : Keeps s₀ (s.hostRead a n) := .ite h.unsupported h.busRead

theorem Keeps.hostWrite {a : Nat} {l : List Byte} {ep : Bool} (h : Keeps s₀ s) : Keeps s₀ (s.hostWrite a l ep) :=
  .ite h.unsupported (.ite h.busWrite (.ite h.noRight (.ite (h.memory (fun _ ht => ht.memPoison.answer)) h.answer)))

theorem execHostAccess_completes {bar2 : Bool} {off : Nat} {op : MemOp} {ep : Bool} {same : Nat}
    : Completes s (execHostAccess bar2 off op ep same s) := by
  unfold execHostAccess
  refine .ite .same ?_
  refine .ite ?_ ?_
  · refine .ite (.next fun h => h.unsupported) ?_
    split
    · exact .next fun h => h.winRead
    · exact .ite (.next fun h => h.answer) (.next fun h => h.winWrite.keepAt)
  · split
    · exact .next fun h => h.unsupported
    · split
      · exact .next fun h => h.hostRead
      · exact .next fun h => h.hostWrite.keepAt

theorem Keeps.yxStop {op fstat : Nat} (h : Keeps s₀ s) : Keeps s₀ (s.yxStop op fstat) := by
  unfold State.yxStop
  split
  · exact .ite h.yxSend.yxKeep.frame h
  · exact h

theorem Keeps.regOp {op : Nat} {p : List Byte} {f : Nat → Nat → State → State} {data : State → List Byte} (h : Keeps s₀ s)
    (hf : ∀ n k t, Keeps s₀ t → Keeps s₀ (f n k t)) : Keeps s₀ (s.regOp op p f data) :=
  .ite h.yxStop (.ite h.yxReply (.yxReply (.frame (hf _ _ _ h))))

theorem execRegRead_completes : Completes s (execRegRead s) := by
  unfold execRegRead
  split
  · exact .next fun h => h.regOp fun _ _ _ ht => ht.busRead
  · exact .same

theorem execRegWrite_completes : Completes s (execRegWrite s) := by
  unfold execRegWrite
  split
  · exact .next fun h => h.regOp fun _ _ _ ht => ht.busWrite
  · exact .same

/-! ### Commands of the time core and second boundaries -/

theorem Keeps.shiftPower {off : Int} (h : Keeps s₀ s) : Keeps s₀ (s.shiftPower off) := h.frame.scrubShift

theorem Keeps.relabelMs {off : Int} (h : Keeps s₀ s) : Keeps s₀ (s.relabelMs off) := h.frame

theorem Keeps.reacted {off : Int} (h : Keeps s₀ s) : Keeps s₀ (s.reacted off) := by
  unfold State.reacted
  extract_lets +onlyGivenNames t t1
  have ht1 : Keeps s₀ t1 := h.frame
  extract_lets +onlyGivenNames t2
  have ht2 : Keeps s₀ t2 := ht1.loopStepped.gnssStepped.obsStepped.filtStepped.phStepped.alignStepped
  extract_lets +onlyGivenNames t3
  have ht3 : Keeps s₀ t3 := ht2.groupsStepped.captureStepped.radioStepped.stopShift.tracksStepped.ethStepped
  exact .refill (.shiftPower (.ite ht3.canStepped ht3))

theorem Keeps.relabelled {off : Int} (h : Keeps s₀ s) : Keeps s₀ (s.relabelled off) := by
  unfold State.relabelled
  extract_lets +onlyGivenNames t t1
  have ht1 : Keeps s₀ t1 := h.frame
  extract_lets +onlyGivenNames t2
  have ht2 : Keeps s₀ t2 := ht1.loopRelabel.gnssRelabel.obsRelabel.filtRelabel.phRelabel.alignRelabel
  exact ht2.groupsRelabel.captureRelabel.radioRelabel.stopShift.tracksRelabel.ethShift.canShift.shiftPower.relabelMs

theorem Keeps.secondActs (h : Keeps s₀ s) : Keeps s₀ s.secondActs := h.reselect.loopSecond.gnssSecond.obsSecond

theorem Keeps.runEdges {n : Nat} (h : Keeps s₀ s) : Keeps s₀ (s.runEdges n) := by
  unfold State.runEdges
  extract_lets +onlyGivenNames t
  have ht : Keeps s₀ t := h.addEdges
  extract_lets +onlyGivenNames t1
  have ht1 : Keeps s₀ t1 := by
    unfold t1
    split
    · exact ht.relabelled
    · exact ht
  extract_lets +onlyGivenNames t2
  have ht2 : Keeps s₀ t2 := by
    unfold t2
    split
    · exact ht1.reacted
    · exact .ite ht1 ht1.secondActs
  exact ht2.radioDue.tracksDue

theorem Keeps.ticks {f n : Nat} (h : Keeps s₀ s) : Keeps s₀ (State.ticks f n s) := by
  induction f generalizing n s with
  | zero => exact h
  | succ f ih => exact .ite h (ih h.runEdges)

theorem Keeps.toSecond {f : Nat} (h : Keeps s₀ s) : Keeps s₀ (State.toSecond f s) := by
  induction f generalizing s with
  | zero => exact h
  | succ f ih => exact .ite h.runEdges (ih h.runEdges)

theorem Keeps.toWrap {f : Nat} (h : Keeps s₀ s) : Keeps s₀ (State.toWrap f s) := by
  induction f generalizing s with
  | zero => exact h
  | succ f ih => exact .ite h.runEdges (ih h.runEdges)

theorem Keeps.toSlewEnd {f : Nat} (h : Keeps s₀ s) : Keeps s₀ (State.toSlewEnd f s) := by
  induction f generalizing s with
  | zero => exact h
  | succ f ih => exact .ite h (ih h.runEdges)

theorem Keeps.idle (h : Keeps s₀ s) : Keeps s₀ s.idle := .ite h.ticks h

theorem execSecondBoundary_completes : Completes s (execSecondBoundary s) := .ite (.next fun h => h.toSecond) .same

theorem execEraWrap_completes : Completes s (execEraWrap s) := .ite (.next fun h => h.toWrap) .same

theorem execSlewDone_completes : Completes s (execSlewDone s) := .ite (.next fun h => h.toSlewEnd) .same

theorem execStepApply_completes : Completes s (execStepApply s) := .ite (.next fun h => .ite h.toSecond.toSecond h.toSecond) .same

theorem execLeapApply_completes : Completes s (execLeapApply s) := .ite (.next fun h => h.toSecond) .same

theorem Keeps.timeWrite {m : Master} {off : Nat} {f : State → State} (h : Keeps s₀ s) (hf : ∀ t, Keeps s₀ t → Keeps s₀ (f t))
    : Keeps s₀ (s.timeWrite m off f) :=
  h.actWrite fun _ ht => hf _ ht

theorem execTimeIncWrite_completes {m : Master} {v : Nat} : Completes s (execTimeIncWrite m v s) :=
  .next fun h => h.timeWrite fun _ ht => ht.incWrite

theorem execTimeEraNextWrite_completes {m : Master} {v : Nat} : Completes s (execTimeEraNextWrite m v s) :=
  .next fun h => h.timeWrite fun _ ht => ht.eraNextWrite

theorem execTimeAdjWrite_completes {m : Master} {v : Nat} : Completes s (execTimeAdjWrite m v s) :=
  .next fun h => h.timeWrite fun _ ht => ht.adjWrite

theorem execStepArm_completes {m : Master} {abs : Bool} : Completes s (execStepArm m abs s) :=
  .next fun h => h.timeWrite fun _ ht => ht.stepGo

theorem execStepCancel_completes {m : Master} {abs : Bool} : Completes s (execStepCancel m abs s) :=
  .next fun h => h.timeWrite fun _ ht => ht.stepCancelOp

theorem execTimeStateWrite_completes {m : Master} {v : Nat} : Completes s (execTimeStateWrite m v s) :=
  .next fun h => h.timeWrite fun _ ht => ht.timeCtrl

theorem execTerrWrite_completes {m : Master} {v : Nat} : Completes s (execTerrWrite m v s) :=
  .next fun h => h.timeWrite fun _ ht => ht.terrW

theorem execTerrEval_completes : Completes s (execTerrEval s) := .next fun h => h.terrStep

theorem Keeps.askHoldover {s t : State} (h : Keeps s₀ t) : Keeps s₀ (s.askHoldover t) := .ite h.modeReq h

theorem execRefFail_completes : Completes s (execRefFail s) := .ite (.next fun h => h.refLost.askHoldover) .same

theorem execRefRecover_completes : Completes s (execRefRecover s) :=
  .ite (.ite (.next fun h => h.set.select) (.next fun h => h.set)) .same

theorem execSourceValid_completes {src rate : Nat} : Completes s (execSourceValid src rate s) := .next fun h => h.srcValid

theorem execSourceLost_completes {src rate : Nat} : Completes s (execSourceLost src rate s) := .next fun h => h.srcLost.askHoldover

theorem execTdcEdge_completes {ch : Nat} {falling : Bool} {stamp sub : Nat} : Completes s (execTdcEdge ch falling stamp sub s) :=
  .ite (.next fun h => .ite (.ite h.tdc.tdcSample.sfdSeen h.tdc.tdcSample) h.tdc) .same

theorem execStampDelivery_completes {pos : Nat} : Completes s (execStampDelivery pos s) := by
  unfold execStampDelivery
  split
  · exact .same
  · exact .next fun h => .ite h.deliver.tdcTrig.sfdStamp h.deliver.tdcTrig

theorem execPpsOutputEdge_completes {n : Nat} : Completes s (execPpsOutputEdge n s) := .ite (.next fun h => h.ppsRise) .same

theorem execPpsPulseEnd_completes {n : Nat} : Completes s (execPpsPulseEnd n s) := .ite (.next fun h => h.setPps) .same

theorem execMeasGo_completes {m : Master} {n : Nat} : Completes s (execMeasGo m n s) := .next fun h => h.timeWrite fun _ ht => ht.measure

theorem execCableLaunch_completes {n : Nat} : Completes s (execCableLaunch n s) := by
  unfold execCableLaunch
  extract_lets +onlyGivenNames o
  split
  · exact .ite (.next fun h => h.setPps) .same
  · exact .same

theorem execCableResult_completes {n : Nat} {out : CableEcho} : Completes s (execCableResult n out s) :=
  .ite (.next fun h => h.cable) .same

/-! ### Every command -/

/-- Every command completes, whatever the state, and keeps what every operation keeps. -/
theorem exec_completes : ∀ i : Instr, Completes s (exec i s)
  | .powerOnReset .. => execPowerOnReset_completes
  | .warmReset .. => execWarmReset_completes
  | .watchdogExpiry .. => execWatchdogExpiry_completes
  | .resetCtrlWrite .. => execResetCtrlWrite_completes
  | .refClockLock .. => execRefClockLock_completes
  | .registerWrite .. => execRegisterWrite_completes
  | .rwlLock .. => execRwlLock_completes
  | .counterClear .. => execCounterClear_completes
  | .lowWordWrite .. => execLowWordWrite_completes
  | .highWordWrite .. => execHighWordWrite_completes
  | .lowWordRead .. => execLowWordRead_completes
  | .highWordRead .. => execHighWordRead_completes
  | .busAccess .. => execBusAccess_completes
  | .islClkWrite .. => execIslClkWrite_completes
  | .clockRelockDone .. => execClockRelockDone_completes
  | .packetSend .. => execPacketSend_completes
  | .packetArrive .. => execPacketArrive_completes
  | .creditReturn .. => execCreditReturn_completes
  | .linkReset .. => execLinkReset_completes
  | .linkResetDone .. => execLinkResetDone_completes
  | .submit .. => execSubmit_completes
  | .addDep .. => execAddDep_completes
  | .release .. => execRelease_completes
  | .cancel .. => execCancel_completes
  | .complete .. => execComplete_completes
  | .take .. => execTake_completes
  | .badOp .. => execBadOp_completes
  | .portOpDone .. => execPortOpDone_completes
  | .hwSubmit .. => execHwSubmit_completes
  | .tileComplete .. => execTileComplete_completes
  | .successorDecrement => execSuccessorDecrement_completes
  | .dispatch .. => execDispatch_completes
  | .flowDataWrite .. => execFlowDataWrite_completes
  | .modeRequest .. => execModeRequest_completes
  | .modeAck .. => execModeAck_completes
  | .ackWaitExpiry => execAckWaitExpiry_completes
  | .modeCommitInstant .. => execModeCommitInstant_completes
  | .lateApply .. => execLateApply_completes
  | .modeChangeComplete .. => execModeChangeComplete_completes
  | .epochHoldTimeout .. => execEpochHoldTimeout_completes
  | .skewTimeout => execSkewTimeout_completes
  | .islandReadmit .. => execIslandReadmit_completes
  | .isolationTimeout .. => execIsolationTimeout_completes
  | .serviceConditionsMet => execServiceConditionsMet_completes
  | .dormantGraceExpiry .. => execDormantGraceExpiry_completes
  | .wakeTimerFire .. => execWakeTimerFire_completes
  | .wakePin .. => execWakePin_completes
  | .wakeHost .. => execWakeHost_completes
  | .cocDataWrite .. => execCocDataWrite_completes
  | .cocDataRead .. => execCocDataRead_completes
  | .cocoonRefresh .. => execCocoonRefresh_completes
  | .updBegin => execUpdBegin_completes
  | .bankEraseDone .. => execBankEraseDone_completes
  | .updHeader => execUpdHeader_completes
  | .updBlock .. => execUpdBlock_completes
  | .updFinalize => execUpdFinalize_completes
  | .updAbort => execUpdAbort_completes
  | .updStatus => execUpdStatus_completes
  | .sessionTimeout => execSessionTimeout_completes
  | .secondBoundary => execSecondBoundary_completes
  | .eraWrap => execEraWrap_completes
  | .timeIncWrite .. => execTimeIncWrite_completes
  | .timeEraNextWrite .. => execTimeEraNextWrite_completes
  | .timeAdjWrite .. => execTimeAdjWrite_completes
  | .slewDone => execSlewDone_completes
  | .stepArm .. => execStepArm_completes
  | .stepCancel .. => execStepCancel_completes
  | .stepApply => execStepApply_completes
  | .timeStateWrite .. => execTimeStateWrite_completes
  | .terrWrite .. => execTerrWrite_completes
  | .terrEval => execTerrEval_completes
  | .refFail => execRefFail_completes
  | .refRecover => execRefRecover_completes
  | .sourceValid .. => execSourceValid_completes
  | .sourceLost .. => execSourceLost_completes
  | .leapApply => execLeapApply_completes
  | .tdcEdge .. => execTdcEdge_completes
  | .stampDelivery .. => execStampDelivery_completes
  | .ppsOutputEdge .. => execPpsOutputEdge_completes
  | .ppsPulseEnd .. => execPpsPulseEnd_completes
  | .measGo .. => execMeasGo_completes
  | .cableLaunch .. => execCableLaunch_completes
  | .cableResult .. => execCableResult_completes
  | .loopEnable .. => execLoopEnable_completes
  | .loopDisable .. => execLoopDisable_completes
  | .loopUpdate .. => execLoopUpdate_completes
  | .loopOutputApply .. => execLoopOutputApply_completes
  | .loopStaleTimeout .. => execLoopStaleTimeout_completes
  | .loopSatLimit .. => execLoopSatLimit_completes
  | .rcClear .. => execRcClear_completes
  | .rcClearDone .. => execRcClearDone_completes
  | .lookupRequest .. => execLookupRequest_completes
  | .rfPortEnable .. => execRfPortEnable_completes
  | .rfRetrain .. => execRfRetrain_completes
  | .rfClockLoss .. => execRfClockLoss_completes
  | .rfAutoRetrain .. => execRfAutoRetrain_completes
  | .rfRateCheck .. => execRfRateCheck_completes
  | .jamLearn .. => execJamLearn_completes
  | .jamLearnDone .. => execJamLearnDone_completes
  | .notchDetect .. => execNotchDetect_completes
  | .biasSample .. => execBiasSample_completes
  | .biasRetry .. => execBiasRetry_completes
  | .acqGo .. => execAcqGo_completes
  | .acqAbort .. => execAcqAbort_completes
  | .acqDone .. => execAcqDone_completes
  | .chEnable .. => execChEnable_completes
  | .chDisable .. => execChDisable_completes
  | .chAidSubmit .. => execChAidSubmit_completes
  | .chTrackLock .. => execChTrackLock_completes
  | .chPullinFail .. => execChPullinFail_completes
  | .chSync .. => execChSync_completes
  | .chLockLoss .. => execChLockLoss_completes
  | .chReacqTimeout .. => execChReacqTimeout_completes
  | .measEpoch .. => execMeasEpoch_completes
  | .measItem .. => execMeasItem_completes
  | .navItem .. => execNavItem_completes
  | .obsForwardItem .. => execObsForwardItem_completes
  | .epochCloseTimeout .. => execEpochCloseTimeout_completes
  | .lookupReply .. => execLookupReply_completes
  | .correctionEncode .. => execCorrectionEncode_completes
  | .surveyStart .. => execSurveyStart_completes
  | .surveyComplete .. => execSurveyComplete_completes
  | .positionCheckDone .. => execPositionCheckDone_completes
  | .poszWrite .. => execPoszWrite_completes
  | .baseWrite .. => execBaseWrite_completes
  | .baselineAvgDone .. => execBaselineAvgDone_completes
  | .sidcCommit .. => execSidcCommit_completes
  | .intClear .. => execIntClear_completes
  | .unmonTimeout .. => execUnmonTimeout_completes
  | .holdoverTimeLimit .. => execHoldoverTimeLimit_completes
  | .outEnable .. => execOutEnable_completes
  | .wvInputState .. => execWvInputState_completes
  | .mclkContend .. => execMclkContend_completes
  | .bitstreamItem .. => execBitstreamItem_completes
  | .filtEnable .. => execFiltEnable_completes
  | .filtSrcChange .. => execFiltSrcChange_completes
  | .filtSwap .. => execFiltSwap_completes
  | .swapApply .. => execSwapApply_completes
  | .fadeEnd .. => execFadeEnd_completes
  | .fineSample .. => execFineSample_completes
  | .fastSample .. => execFastSample_completes
  | .thresholdChange .. => execThresholdChange_completes
  | .phasorEnable .. => execPhasorEnable_completes
  | .phasorEstimate .. => execPhasorEstimate_completes
  | .fastEstimate .. => execFastEstimate_completes
  | .streamEnable .. => execStreamEnable_completes
  | .streamDisable .. => execStreamDisable_completes
  | .streamFrame .. => execStreamFrame_completes
  | .localEstimateItem .. => execLocalEstimateItem_completes
  | .quarantineEnd .. => execQuarantineEnd_completes
  | .concEnable .. => execConcEnable_completes
  | .concDisable .. => execConcDisable_completes
  | .bucketOpen .. => execBucketOpen_completes
  | .partClose .. => execPartClose_completes
  | .partItem .. => execPartItem_completes
  | .bucketCapTimeout .. => execBucketCapTimeout_completes
  | .bucketEmit .. => execBucketEmit_completes
  | .concSlotRelease .. => execConcSlotRelease_completes
  | .groupEnable .. => execGroupEnable_completes
  | .groupFrameEval .. => execGroupFrameEval_completes
  | .groupFrameTimeout .. => execGroupFrameTimeout_completes
  | .modelRestart .. => execModelRestart_completes
  | .modelRestartCmd .. => execModelRestartCmd_completes
  | .groupStale .. => execGroupStale_completes
  | .alarmPinMinExpiry .. => execAlarmPinMinExpiry_completes
  | .alarmClr .. => execAlarmClr_completes
  | .engineArm .. => execEngineArm_completes
  | .engineAbort .. => execEngineAbort_completes
  | .swtrig .. => execSwtrig_completes
  | .triggerReceive .. => execTriggerReceive_completes
  | .captureFrameClose .. => execCaptureFrameClose_completes
  | .captureCommit .. => execCaptureCommit_completes
  | .captureRearm .. => execCaptureRearm_completes
  | .captureSlotRelease .. => execCaptureSlotRelease_completes
  | .tlDrive .. => execTlDrive_completes
  | .tlPulseEnd .. => execTlPulseEnd_completes
  | .trigLineEdge .. => execTrigLineEdge_completes
  | .tlStuck .. => execTlStuck_completes
  | .radioPortEnable .. => execRadioPortEnable_completes
  | .rawExchange .. => execRawExchange_completes
  | .asnBaseWrite .. => execAsnBaseWrite_completes
  | .macLaneEnable .. => execMacLaneEnable_completes
  | .macLaneDisable .. => execMacLaneDisable_completes
  | .slotCutoff .. => execSlotCutoff_completes
  | .slotBoundary .. => execSlotBoundary_completes
  | .radioFrameReceive .. => execRadioFrameReceive_completes
  | .joinReqReceive .. => execJoinReqReceive_completes
  | .joinTimeout .. => execJoinTimeout_completes
  | .machineLostTimeout .. => execMachineLostTimeout_completes
  | .corrItemReceive .. => execCorrItemReceive_completes
  | .downlinkRequest .. => execDownlinkRequest_completes
  | .downlinkResult .. => execDownlinkResult_completes
  | .keyRotateApply .. => execKeyRotateApply_completes
  | .stopInputChange .. => execStopInputChange_completes
  | .stopDisagTimeout .. => execStopDisagTimeout_completes
  | .stopXmisTimeout => execStopXmisTimeout_completes
  | .swStop .. => execSwStop_completes
  | .ssSlotCheck .. => execSsSlotCheck_completes
  | .pathTest .. => execPathTest_completes
  | .pathTestDone => execPathTestDone_completes
  | .fstop .. => execFstop_completes
  | .fstopChal => execFstopChal_completes
  | .fstopRelease .. => execFstopRelease_completes
  | .fstopStatus => execFstopStatus_completes
  | .tkEnable .. => execTkEnable_completes
  | .tkDisable .. => execTkDisable_completes
  | .originChange .. => execOriginChange_completes
  | .profileVWrite .. => execProfileVWrite_completes
  | .profileAWrite .. => execProfileAWrite_completes
  | .taskSubmit .. => execTaskSubmit_completes
  | .taskSubmitChecked .. => execTaskSubmitChecked_completes
  | .taskDispatch .. => execTaskDispatch_completes
  | .reservationRequest .. => execReservationRequest_completes
  | .reservationRetry .. => execReservationRetry_completes
  | .machineReport .. => execMachineReport_completes
  | .permitBitmap .. => execPermitBitmap_completes
  | .taskPause .. => execTaskPause_completes
  | .taskResume .. => execTaskResume_completes
  | .taskAbort .. => execTaskAbort_completes
  | .abortTimeout .. => execAbortTimeout_completes
  | .reservationExpire .. => execReservationExpire_completes
  | .trReserve .. => execTrReserve_completes
  | .trFree .. => execTrFree_completes
  | .ethLinkChange .. => execEthLinkChange_completes
  | .ethFrameReceive .. => execEthFrameReceive_completes
  | .ethTxItem .. => execEthTxItem_completes
  | .ethSwtxGo .. => execEthSwtxGo_completes
  | .ethTxDone .. => execEthTxDone_completes
  | .tsfifoPop .. => execTsfifoPop_completes
  | .heartbeatSend .. => execHeartbeatSend_completes
  | .hbWindowEnd => execHbWindowEnd_completes
  | .failoverFlush => execFailoverFlush_completes
  | .repairComplete .. => execRepairComplete_completes
  | .uplinkSwitch .. => execUplinkSwitch_completes
  | .pktRxItem .. => execPktRxItem_completes
  | .pktTxItem .. => execPktTxItem_completes
  | .pktCtxEnable .. => execPktCtxEnable_completes
  | .rcvNxtWrite .. => execRcvNxtWrite_completes
  | .canEnable .. => execCanEnable_completes
  | .canFrameRx .. => execCanFrameRx_completes
  | .objConfig .. => execObjConfig_completes
  | .objSelWrite .. => execObjSelWrite_completes
  | .objLockRead .. => execObjLockRead_completes
  | .objReleaseRead .. => execObjReleaseRead_completes
  | .objLockTimeout .. => execObjLockTimeout_completes
  | .canTxRequest .. => execCanTxRequest_completes
  | .canTxCancel .. => execCanTxCancel_completes
  | .canTxDone .. => execCanTxDone_completes
  | .canBusOff .. => execCanBusOff_completes
  | .borReq .. => execBorReq_completes
  | .busOffRecovered .. => execBusOffRecovered_completes
  | .adrGo .. => execAdrGo_completes
  | .adrAbort .. => execAdrAbort_completes
  | .adrDwellExpiry .. => execAdrDwellExpiry_completes
  | .ttCycleStart .. => execTtCycleStart_completes
  | .ttRefTimeout .. => execTtRefTimeout_completes
  | .ttWindowStart .. => execTtWindowStart_completes
  | .canStuckDominant .. => execCanStuckDominant_completes
  | .pciePerstAssert .. => execPciePerstAssert_completes
  | .pcieLinkChange .. => execPcieLinkChange_completes
  | .hostAccess .. => execHostAccess_completes
  | .yupexGo .. => execYupexGo_completes
  | .yupexAck .. => execYupexAck_completes
  | .yupexRequest => execYupexRequest_completes
  | .hello => execHello_completes
  | .yupexMode => execYupexMode_completes
  | .yupexReset => execYupexReset_completes
  | .regRead => execRegRead_completes
  | .regWrite => execRegWrite_completes
  | .setRead => execSetRead_completes
  | .setWrite => execSetWrite_completes
  | .dmaArm .. => execDmaArm_completes
  | .dmaAbort .. => execDmaAbort_completes
  | .dmaContinue .. => execDmaContinue_completes
  | .dmaResume .. => execDmaResume_completes
  | .shGo .. => execShGo_completes
  | .shClr .. => execShClr_completes
  | .dmaBeatComplete .. => execDmaBeatComplete_completes
  | .dmaSuspend .. => execDmaSuspend_completes
  | .dmaPowerAbort .. => execDmaPowerAbort_completes
  | .ddrScrubLine .. => execDdrScrubLine_completes
  | .stageScrub .. => execStageScrub_completes
  | .ddrInject .. => execDdrInject_completes
  | .keyGen .. => execKeyGen_completes
  | .keyDerive .. => execKeyDerive_completes
  | .keyImport .. => execKeyImport_completes
  | .keyExport .. => execKeyExport_completes
  | .keyCommit .. => execKeyCommit_completes
  | .keyDiscard .. => execKeyDiscard_completes
  | .keyInvalidate .. => execKeyInvalidate_completes
  | .keyCheck .. => execKeyCheck_completes
  | .dbgUnlock .. => execDbgUnlock_completes
  | .lcAdvance .. => execLcAdvance_completes
  | .provision .. => execProvision_completes
  | .reroot .. => execReroot_completes
  | .gmAck .. => execGmAck_completes
  | .keyPersistDone => execKeyPersistDone_completes
  | .keyRemask => execKeyRemask_completes
  | .tamperDetect .. => execTamperDetect_completes
  | .crySessionEnable .. => execCrySessionEnable_completes
  | .cryJob .. => execCryJob_completes
  | .cryJobDone .. => execCryJobDone_completes
  | .eventPulse .. => execEventPulse_completes
  | .swRaise .. => execSwRaise_completes
  | .recordGo .. => execRecordGo_completes
  | .recordRequest => execRecordRequest_completes
  | .bucketRefill => execBucketRefill_completes
  | .recordAck .. => execRecordAck_completes
  | .recordSelect .. => execRecordSelect_completes
  | .flushCmd .. => execFlushCmd_completes
  | .flushStart => execFlushStart_completes
  | .emergencyFlush => execEmergencyFlush_completes
  | .flushWriteDone .. => execFlushWriteDone_completes
  | .pfailAssert => execPfailAssert_completes
  | .pfailDeassert => execPfailDeassert_completes
  | .pfFlushDone => execPfFlushDone_completes
  | .healthPass .. => execHealthPass_completes
  | .pmbusVerify .. => execPmbusVerify_completes
  | .railSample .. => execRailSample_completes
  | .tempSample .. => execTempSample_completes
  | .pinReadback .. => execPinReadback_completes
  | .powerDown => execPowerDown_completes
  | .vbatLoss => execVbatLoss_completes
  | .tamperSourceRelease .. => execTamperSourceRelease_completes
  | .trigLineHigh .. => execTrigLineHigh_completes
  | .runMinElapsed => execRunMinElapsed_completes
  | .challengeExpiry => execChallengeExpiry_completes
  | .canBusIntegrated .. => execCanBusIntegrated_completes
  | .canProtocolError .. => execCanProtocolError_completes
  | .ringEraseDone .. => execRingEraseDone_completes

/-! ### One step -/

/-- A step takes the front command from the queue, completes, and keeps what every operation keeps. -/
theorem step_completes : Completes { s with pending := s.pending.tail } (step s) := by
  unfold step
  split
  · next e =>
    have hs : { s with pending := s.pending.tail } = s := by rw [e, List.tail_nil, ← e]
    rw [hs]
    exact .next fun h => h.idle
  · next e =>
    rw [e]
    exact exec_completes _

end Sys2Proof.Machine
end

section
/-! PROOF. The two statements about every command: the canonical form, and the runs without end. -/

open Sys2Proof Sys2Proof.Machine

/-- Settles O4: what a step keeps (`step_completes`), the canonical form is part of. -/
theorem everyStepKeepsTheStateCanonical : Obligations.EveryStepKeepsTheStateCanonical := by
  intro s t hs ht
  obtain ⟨u, hu, hk⟩ := step_completes (s := s)
  obtain rfl : u = t := Host.Outcome.next.inj (hu.symm.trans ht)
  exact hk.canonical hs

/-- Settles O5, by induction on the number of steps: each of them completes, whatever command is in front (log entry 4: no command faults
or is refused). -/
theorem everyRunContinues : Obligations.EveryRunContinues := by
  intro s k
  induction k generalizing s with
  | zero => exact ⟨s, rfl⟩
  | succ k ih =>
    obtain ⟨u, hu, -⟩ := step_completes (s := s)
    have hc : Sys2Proof.core.step s = .next u := hu
    simpa only [Host.Core.run, hc] using ih u

end

section
/-! PROOF. The reset state. -/

namespace Sys2Proof.Machine

/-- No register field has been written at reset, so each holds its default. -/
theorem State.get_reset (b : Nat) (f : Fld) : State.reset.get b f = fldDflt f b := rfl

theorem fldDflt_of_val {f : Fld} (h : f.src = .val) (b : Nat) : fldDflt f b = f.rst := by simp [fldDflt, h]

theorem fldDflt_of_img {f : Fld} (h : f.src = .img) (b : Nat) : fldDflt f b = 0 := by simp [fldDflt, h]

theorem Canonical.reset : Canonical State.reset := by simp [Canonical, Memory.wf, State.reset]

end Sys2Proof.Machine

open Sys2Proof Sys2Proof.Machine

/-- Settles O3: the register fields by their defaults, every other part by the reset state as written. -/
theorem resetStateIsAsStated : Obligations.ResetStateIsAsStated := by
  refine ⟨fun b f h => (State.get_reset b f).trans (fldDflt_of_val h b), fun b f h => (State.get_reset b f).trans (fldDflt_of_img h b),
    rfl, rfl, ?_, ?_, rfl, rfl, rfl, rfl, rfl, rfl, rfl, rfl, rfl, Canonical.reset⟩
  · decide
  · decide

end

section
/-! PROOF. Accesses on the bus. -/

namespace Sys2Proof.Machine

/-- The reset state with MGMT powered: the dispatcher takes writes, LOCK is clear and FLEET_RSV is 0. -/
def State.mgmtUp : State := { State.reset with power := { State.reset.power with mgmt := true } }

/-- The dispatcher takes no FLEET_RSV above 64: a write of DSP_CTRL with LOCK 1 and FLEET_RSV 65 leaves FLEET_RSV at 0. -/
theorem execRwlLock_fleetRsv_65 :
    ∃ t, execRwlLock .gauntlet 0x30020008 0x282 State.mgmtUp = .next t ∧ t.get bDsp Rg.DSP_CTRL.FLEET_RSV = 0 :=
  ⟨_, rfl, by decide⟩

end Sys2Proof.Machine

open Sys2Proof Sys2Proof.Machine

/-- Refutes O13: its third clause says that a write of DSP_CTRL with LOCK takes every value of FLEET_RSV, and the dispatcher keeps the
old one where the value is above 64 (the register table of spec 01); 65 is written here and 0 stays. -/
theorem not_busAccessesTakeEffect : ¬ Obligations.BusAccessesTakeEffect := by
  intro h
  obtain ⟨-, -, lockWrite, -⟩ := h
  obtain ⟨t, ht, -, hrsv, -⟩ := lockWrite .gauntlet 0x282 State.mgmtUp (by decide) (by decide)
  obtain ⟨u, hu, hzero⟩ := execRwlLock_fleetRsv_65
  obtain rfl : t = u := Host.Outcome.next.inj (ht.symm.trans hu)
  exact absurd (hrsv.symm.trans hzero) (by decide)

end

section
/-! PROOF. Resets. -/

namespace Sys2Proof.Machine

/-- A firmware that does not verify and has no fallback halts the device. -/
theorem State.verifyFw_eq_halt {s : State} {typ : Nat} (hi : s.imgFault typ ≠ 0) (hf : s.fallback typ = none) :
    s.verifyFw typ = s.halt 5 typ := by
  simp [State.verifyFw, hi, hf]

theorem State.halt_cells (s : State) (code typ : Nat) :
    (s.halt code typ).cells = ((s.set bSec Rg.BOOT_STAT.CODE code).set bSec Rg.BOOT_STAT.TYPE typ).cells := rfl

theorem State.get_halt_code (s : State) (code typ : Nat) : (s.halt code typ).get bSec Rg.BOOT_STAT.CODE = code % 2 ^ 4 := by
  rw [State.get_congr_cells _ _ (State.halt_cells s code typ), State.get_set_off _ _ _ _ _ (by decide), State.get_set_same]
  rfl

theorem State.bootFw_of_halted {s : State} (h : (s.verifyFw 1).sec.halted = true) : s.bootFw = s.verifyFw 1 := by
  simp [State.bootFw, h]

/-- A start without SECFW: past the key page, which BLANK does not check, the device halts with BOOT_STAT.CODE 5. -/
theorem State.get_boot3_code {s : State} {env : BootEnv} {t : State} (ht : ({ s with upd := { s.upd with fell := [] } }).bootSec env = t)
    (hu : t.applyUpdate env = (t, false)) (hlc : t.get bSec Rg.SEC_STAT.LC = 0) (hi : t.imgFault 1 ≠ 0) (hf : t.fallback 1 = none) :
    (s.boot3 env true).get bSec Rg.BOOT_STAT.CODE = 5 := by
  have hv : t.verifyFw 1 = t.halt 5 1 := State.verifyFw_eq_halt hi hf
  have hb : t.bootFw = t.halt 5 1 := (State.bootFw_of_halted (by rw [hv]; rfl)).trans hv
  have hh : (t.halt 5 1).sec.halted = true := rfl
  simp only [State.boot3, ht, if_true, hu, hlc, ne_eq, not_true_eq_false, and_false, if_false, hb, hh]
  exact State.get_halt_code _ _ _

theorem State.get_newChal_lc (s : State) : s.newChal.get bSec Rg.SEC_STAT.LC = s.get bSec Rg.SEC_STAT.LC :=
  State.get_set_off _ _ _ _ _ (by decide)

/-- After the life-cycle state is taken from the fuses, step 3 does not change it. -/
theorem State.get_bootSec_lc (s : State) (env : BootEnv) : (s.bootSec env).get bSec Rg.SEC_STAT.LC =
    (({ s with power := { s.power with sec := true } }.lockIslands [2]).takeLc.rootCheck).get bSec Rg.SEC_STAT.LC := by
  generalize ht : ({ s with power := { s.power with sec := true } }.lockIslands [2]).takeLc.rootCheck = t
  have hc : (s.bootSec env).cells = (t.newChal.sets bSec [(Rg.SEC_BOOTCNT.COUNT, (t.newChal.sec.boots + 1) % 2 ^ 32),
      (Rg.BOOT_STAT.CODE, 0), (Rg.BOOT_STAT.TYPE, 0)]).cells := by rw [State.bootSec, ht]
  rw [State.get_congr_cells _ _ hc, ← State.get_newChal_lc t]
  simp (disch := decide) only [State.sets, List.foldl_cons, List.foldl_nil, State.get_set_off]

/-- The reset state at a warm reset asked for, SEC_STAT.LC 1, no key page, and fuses that hold 8, which SEC_STAT.LC has no bits for. -/
def State.fusesFull : State :=
  { State.reset with cells := [(fldKey Rg.SEC_STAT.LC bSec, 1)], power := { State.reset.power with due := [1] },
                     sec := { State.reset.sec with burned := 8 } }

/-- A start that finds nothing outside the device. -/
def bareEnv : BootEnv := ⟨[], [], true, []⟩

/-- `State.fusesFull` at step 3 of its warm reset. -/
def State.fusesFullDown : State :=
  let t := State.fusesFull.set bMpc Rg.RESET_CAUSE.WARM_SW 1
  { t with power := { t.power with due := [] } }.warmDown.takeDebug

theorem exec_warmReset_fusesFull :
    exec (.warmReset bareEnv) State.fusesFull = .next (State.fusesFullDown.boot3 bareEnv true) := rfl

/-- The fuses' 8 reads as 0, which is BLANK, so that the key page is not checked and the missing SECFW halts the device. -/
theorem State.get_boot3_fusesFullDown : (State.fusesFullDown.boot3 bareEnv true).get bSec Rg.BOOT_STAT.CODE = 5 :=
  State.get_boot3_code rfl rfl ((State.get_bootSec_lc _ _).trans (by decide +kernel)) (by decide +kernel) (by decide +kernel)

end Sys2Proof.Machine

open Sys2Proof Sys2Proof.Machine

/-- Refutes O16: its clause on a wrong key page does not bound what the life-cycle fuses hold. SEC_STAT.LC has three bits, so that fuses
that hold 8 read as BLANK at the start, the key page is not checked, and the halt is that of the missing SECFW, BOOT_STAT.CODE 5. -/
theorem not_resetsAndPower : ¬ Obligations.ResetsAndPower := by
  intro h
  obtain ⟨-, -, -, -, -, -, keyPageWrong, -⟩ := h
  obtain ⟨t, ht, hrest⟩ := keyPageWrong bareEnv 1 State.fusesFull ⟨rfl, rfl, .inl (by decide)⟩
    ⟨by decide +kernel, by decide +kernel, rfl, rfl⟩
  obtain ⟨-, hcode, -⟩ := hrest
  have e : t = _ := Host.Outcome.next.inj (ht.symm.trans exec_warmReset_fusesFull)
  rw [e, State.get_boot3_fusesFullDown] at hcode
  exact absurd hcode (by decide)

end

section
/-! SUPPORT. What setting fields and raising events can do to a state, and the registers of the dispatcher, its ports and the time
core among the windows of a frame. -/

set_option Elab.async false

namespace Sys2Proof.Machine

variable {s t : State} {ws : List (Nat × Nat)}

/-! ### Register fields and events -/

/-- Register fields and pending toggles apart, `t` is `s`: all that writes of fields and events can do. -/
def RegShape (s t : State) : Prop := ∃ c g, t = { s with cells := c, toggles := g }

theorem RegShape.refl (s : State) : RegShape s s := ⟨_, _, rfl⟩

theorem RegShape.set (h : RegShape s t) (b : Nat) (f : Fld) (v : Nat) : RegShape s (t.set b f v) := by
  obtain ⟨c, g, rfl⟩ := h
  exact ⟨_, _, rfl⟩

theorem State.toggle_eq (s : State) (ev : Nat) : ∃ g, s.toggle ev = { s with toggles := g } := by
  unfold State.toggle
  split
  · exact ⟨_, rfl⟩
  · exact ⟨_, rfl⟩

theorem RegShape.toggle (h : RegShape s t) (ev : Nat) : RegShape s (t.toggle ev) := by
  obtain ⟨c, g, rfl⟩ := h
  obtain ⟨g', hg⟩ := State.toggle_eq { s with cells := c, toggles := g } ev
  exact ⟨c, g', hg⟩

theorem RegShape.event (h : RegShape s t) (ev b : Nat) (f : Fld) : RegShape s (t.event ev b f) := by
  unfold State.event
  split
  · exact h
  · exact (h.set b f 1).toggle ev

theorem RegShape.eventIf (h : RegShape s t) (c : Bool) (ev b : Nat) (f : Fld) : RegShape s (t.eventIf c ev b f) := by
  cases c with
  | false => exact h
  | true => exact h.event ev b f

/-- With the register cells as they were. -/
theorem RegsKept.of_cells (e : t.cells = s.cells) : RegsKept ws s t := (RegsKept.refl ws s).cells e

theorem RegsKept.eventIf (h : RegsKept ws s t) (c : Bool) (ev b : Nat) (f : Fld) (w : Nat × Nat) (hm : w ∈ ws)
    (h1 : w.1 ≤ (b + f.off) % 2 ^ 48) (h2 : (b + f.off) % 2 ^ 48 < w.2) (hl : f.lo < 64) : RegsKept ws s (t.eventIf c ev b f) := by
  cases c with
  | false => exact h
  | true => exact h.event ev b f w hm h1 h2 hl

/-- The value that a list of fields to set gives a field. -/
def lastSet (f : Fld) : List (Fld × Nat) → Option Nat
  | [] => none
  | p :: l => (lastSet f l).or (if p.1 = f then some p.2 else none)

/-- A field set among others of its register block, whose offsets differ from its own. -/
theorem State.get_sets {b : Nat} {f : Fld} {l : List (Fld × Nat)}
    (hl : l.all (fun p => decide (p.1 = f) || !(p.1.off == f.off && p.1.lo == f.lo) && decide (p.1.lo < 64 ∧ f.lo < 64)) = true) :
    (s.sets b l).get b f = ((lastSet f l).map (· % 2 ^ f.w)).getD (s.get b f) := by
  induction l generalizing s with
  | nil => rfl
  | cons p l ih =>
    obtain ⟨hp, hl⟩ := Bool.and_eq_true_iff.1 hl
    refine (ih (s := s.set b p.1 p.2) hl).trans ?_
    rw [lastSet]
    by_cases h : p.1 = f
    · rw [h, State.get_set_same]
      cases lastSet f l <;> simp
    · have apart : f.off * 64 + f.lo ≠ p.1.off * 64 + p.1.lo := by
        simp only [h, decide_false, Bool.false_or, Bool.and_eq_true, Bool.not_eq_true', Bool.and_eq_false_iff, beq_eq_false_iff_ne,
          decide_eq_true_eq] at hp
        omega
      rw [State.get_set_off _ _ _ _ _ apart]
      cases lastSet f l <;> simp [h]

/-- An event bit not yet set leaves every other field as it is, where the bit does. -/
theorem State.get_eventIf_ne (s : State) (c : Bool) (e b k : Nat) (f g : Fld) (h : fldKey g k ≠ fldKey f b) :
    (s.eventIf c e b f).get k g = s.get k g := by
  cases c with
  | false => rfl
  | true => exact State.get_event_ne s e b k f g h

end Sys2Proof.Machine
end

section
/-! SUPPORT. The dispatcher: entries and handles, the ports' registers, and what each port operation gives. -/

set_option Elab.async false

namespace Sys2Proof.Machine

variable {s t : State} {ws : List (Nat × Nat)} {d : Disp} {e q : Entry} {h p : Nat} {m : Master}

/-! ### Entries -/

theorem Disp.mem_of_find (he : d.find h = some e) : e ∈ d.entries := List.mem_of_find?_eq_some he

theorem Disp.handle_of_find (he : d.find h = some e) : e.handle = h := by simpa using List.find?_some he

/-- An entry with the index of one in the list stands in the list once it has been put there. -/
theorem Disp.mem_put (he : e ∈ d.entries) (hi : q.idx = e.idx) : q ∈ (d.put q).entries :=
  List.mem_map.2 ⟨e, he, if_pos hi.symm⟩

theorem Disp.mem_put_of_ne (he : e ∈ d.entries) (hi : e.idx ≠ q.idx) : e ∈ (d.put q).entries :=
  List.mem_map.2 ⟨e, he, if_neg hi⟩

/-- Putting an entry whose handle is not looked up leaves the entry found where it is. -/
theorem Disp.find_put_of_ne (hq : d.find h = some q) (hi : q.idx ≠ e.idx) (hh : e.handle ≠ h) : (d.put e).find h = some q := by
  obtain ⟨hp, as, bs, hl, has⟩ := List.find?_eq_some_iff_append.1 hq
  refine List.find?_eq_some_iff_append.2
    ⟨hp, as.map (fun x => if x.idx = e.idx then e else x), bs.map (fun x => if x.idx = e.idx then e else x), ?_, ?_⟩
  · simp [Disp.put, hl, hi]
  · intro x hx
    obtain ⟨y, hy, rfl⟩ := List.mem_map.1 hx
    split
    · simpa using hh
    · exact has y hy

/-- A freed entry's index stands in the list no more. -/
theorem Disp.idx_ne_of_mem_free {x : Entry} (hx : x ∈ (d.free e).entries) : x.idx ≠ e.idx := by
  simpa using (List.mem_filter.1 hx).2

theorem Disp.lowerBy_mem (n : Nat) (he : e ∈ d.entries) (hi : q.idx = e.idx) :
    ∃ x ∈ (d.lowerBy n q).entries, x.idx = e.idx ∧ x.held = q.held ∧ x.lost = q.lost ∧ x.depCan = q.depCan ∧
      (if q.counter ≤ n then x.st = EState.ready ∧ x.counter = 0 else x.st = q.st ∧ x.counter = q.counter - n) := by
  unfold Disp.lowerBy
  split
  · next hc => exact ⟨{ q with counter := 0, st := .ready, seq := d.seq }, Disp.mem_put he hi, hi, rfl, rfl, rfl, rfl, rfl⟩
  · next hc => exact ⟨{ q with counter := q.counter - n }, Disp.mem_put he hi, hi, rfl, rfl, rfl, rfl, rfl⟩

theorem Disp.lowerBy_work (d : Disp) (n : Nat) (q : Entry) : (d.lowerBy n q).work = d.work := by
  unfold Disp.lowerBy
  split <;> rfl

theorem Disp.lowerBy_pend (d : Disp) (n : Nat) (q : Entry) : (d.lowerBy n q).pend = d.pend := by
  unfold Disp.lowerBy
  split <;> rfl

/-- The frame of a register access that writes fields and events alone. -/
theorem RegShape.frame_answer (hs : RegShape s t) (hk : RegsKept ws s t) :
    Frame ws s (t.answer .ok 0) { s with cells := t.cells, toggles := t.toggles, resp := ⟨.ok, 0⟩ } := by
  obtain ⟨c, g, rfl⟩ := hs
  exact ⟨rfl, .of_mem rfl, hk.cells rfl⟩

end Sys2Proof.Machine
end

section
/-! SUPPORT. The dispatcher's port operations: the registers they write, and the state each of them leaves. -/

set_option Elab.async false

namespace Sys2Proof.Machine

variable {s t : State} {ws : List (Nat × Nat)} {d : Disp} {e q : Entry} {h p : Nat} {m : Master}

/-! ### Registers of the dispatcher -/

theorem portBase_in_wDsp {off : Nat} (hp : p < 6) (ho : off < 0x1000) :
    wDsp.1 ≤ (portBase p + off) % 2 ^ 48 ∧ (portBase p + off) % 2 ^ 48 < wDsp.2 := by
  simp only [portBase, bDsp, wDsp]
  omega

theorem RegsKept.setPort (hk : RegsKept ws s t) (hw : wDsp ∈ ws) (hp : p < 6) (f : Fld) (v : Nat) (ho : f.off < 0x1000)
    (hl : f.lo < 64) : RegsKept ws s (t.set (portBase p) f v) :=
  hk.set _ _ _ wDsp hw (portBase_in_wDsp hp ho).1 (portBase_in_wDsp hp ho).2 hl

theorem bDsp_in_wDsp {off : Nat} (ho : off < 0x1000) : wDsp.1 ≤ (bDsp + off) % 2 ^ 48 ∧ (bDsp + off) % 2 ^ 48 < wDsp.2 := by
  simp only [bDsp, wDsp]
  omega

theorem RegsKept.dspEvent (hk : RegsKept ws s t) (hw : wDsp ∈ ws) (ev : Nat) (f : Fld) (ho : f.off < 0x1000) (hl : f.lo < 64) :
    RegsKept ws s (t.event ev bDsp f) :=
  hk.event _ _ _ wDsp hw (bDsp_in_wDsp ho).1 (bDsp_in_wDsp ho).2 hl

theorem RegsKept.dspEventIf (hk : RegsKept ws s t) (hw : wDsp ∈ ws) (c : Bool) (ev : Nat) (f : Fld) (ho : f.off < 0x1000)
    (hl : f.lo < 64) : RegsKept ws s (t.eventIf c ev bDsp f) := by
  cases c with
  | false => exact hk
  | true => exact hk.dspEvent hw ev f ho hl

/-! ### The frame of a port operation (R65, R67) -/

/-- The state `t` that an operation leaves with port `p` PENDING, its status and handle waiting, and the access answered. -/
def State.posted (t : State) (p st : Nat) (handle : Option Nat) : State :=
  State.answer { t.set (portBase p) Rg.PORT_RES.STATUS 0xF with disp := { t.disp with pend := t.disp.pend ++ [⟨p, st, handle⟩] } } .ok 0

/-- An operation from the port's own agent while the port is not PENDING, with an outcome that sets no event bit. -/
theorem State.portOp_eq_posted {f : State → State × Nat × Option Nat} {st : Nat} {handle : Option Nat} (hm : portAgent p = some m)
    (hon : s.on .mgmt = true) (hp : s.get (portBase p) Rg.PORT_RES.STATUS ≠ 15) (hf : f s = (t, st, handle)) (h3 : st ≠ stStale)
    (h4 : st ≠ stDepOvf) : s.portOp m p f = t.posted p st handle := by
  have e3 : (st == stStale) = false := beq_false_of_ne h3
  have e4 : (st == stDepOvf) = false := beq_false_of_ne h4
  rw [State.portOp, State.actWrite_ok _ _ _ _ _ _ (by simp [hm]) hon, if_neg hp, hf]
  simp only [e3, e4, State.eventIf, Bool.false_eq_true, if_false, State.set_disp]
  rfl

/-- The same with the outcome STALE, which sets its event bit. -/
theorem State.portOp_eq_stale {f : State → State × Nat × Option Nat} (hm : portAgent p = some m) (hon : s.on .mgmt = true)
    (hp : s.get (portBase p) Rg.PORT_RES.STATUS ≠ 15) (hf : f s = (t, stStale, none)) :
    s.portOp m p f = (t.event 10 bDsp Rg.DSP_EVT.STALE).posted p stStale none := by
  rw [State.portOp, State.actWrite_ok _ _ _ _ _ _ (by simp [hm]) hon, if_neg hp, hf]
  rfl

@[simp] theorem State.posted_disp (t : State) (p st : Nat) (o : Option Nat) :
    (t.posted p st o).disp = { t.disp with pend := t.disp.pend ++ [⟨p, st, o⟩] } := rfl
@[simp] theorem State.posted_mem (t : State) (p st : Nat) (o : Option Nat) : (t.posted p st o).mem = t.mem := rfl

theorem State.get_posted_status (t : State) (p st : Nat) (o : Option Nat) :
    (t.posted p st o).get (portBase p) Rg.PORT_RES.STATUS = 15 := State.get_set_same t (portBase p) 15 Rg.PORT_RES.STATUS

theorem State.get_posted_ne (t : State) (p st b : Nat) (o : Option Nat) (f : Fld) (hk : fldKey f b ≠ fldKey Rg.PORT_RES.STATUS (portBase p)) :
    (t.posted p st o).get b f = t.get b f := State.get_set_ne t _ _ 15 _ _ hk

theorem RegsKept.posted (hk : RegsKept ws s t) (hw : wDsp ∈ ws) (hp : p < 6) (st : Nat) (o : Option Nat) :
    RegsKept ws s (t.posted p st o) :=
  (hk.setPort hw hp Rg.PORT_RES.STATUS 15 (by decide) (by decide)).cells rfl

/-- The frame of an operation that changes registers, toggles and the dispatcher. -/
theorem Frame.posted {d : Disp} {st : Nat} {o : Option Nat} {u : State} (hu : u = t.posted p st o) (hs : RegShape { s with disp := d } t)
    (hk : RegsKept [wDsp] s t) (hp : p < 6) :
    Frame [wDsp] s u { s with cells := u.cells, toggles := u.toggles, disp := u.disp, resp := ⟨.ok, 0⟩ } := by
  subst hu
  obtain ⟨c, g, rfl⟩ := hs
  exact ⟨rfl, .of_mem rfl, hk.posted (by decide) hp st o⟩

/-- The frame of an operation that changes nothing but the dispatcher. -/
theorem Frame.posted_disp {d : Disp} {st : Nat} {o : Option Nat} {u : State} (hu : u = State.posted { s with disp := d } p st o) (hp : p < 6) :
    Frame [wDsp] s u { s with cells := u.cells, disp := u.disp, resp := ⟨.ok, 0⟩ } := by
  subst hu
  exact ⟨rfl, .of_mem rfl, RegsKept.posted (.of_cells rfl) (by decide) hp st o⟩

/-! ### SUBMIT and hardware submits (R60, R66) -/

/-- The low-water bit of a partition. -/
def lowBit (part : Nat) : Fld := if part = 0 then Rg.DSP_EVT.LOW_P else Rg.DSP_EVT.LOW_F

theorem lowBit_place (part : Nat) : (lowBit part).off = 0x28 ∧ (lowBit part).lo < 64 := by
  unfold lowBit
  split <;> decide

theorem State.lowMark_eq (s : State) (d : Disp) (part : Nat) : ∃ c, s.lowMark d part = s.eventIf c 10 bDsp (lowBit part) := by
  unfold State.lowMark
  extract_lets lw
  split
  · exact ⟨true, rfl⟩
  · exact ⟨false, rfl⟩

theorem State.lowMark_shape (s : State) (d : Disp) (part : Nat) : RegShape s (s.lowMark d part) := by
  obtain ⟨c, hc⟩ := s.lowMark_eq d part
  exact hc ▸ (RegShape.refl s).eventIf _ _ _ _

theorem RegsKept.lowMark (hk : RegsKept ws s t) (hw : wDsp ∈ ws) (d : Disp) (part : Nat) : RegsKept ws s (t.lowMark d part) := by
  obtain ⟨c, hc⟩ := t.lowMark_eq d part
  obtain ⟨ho, hl⟩ := lowBit_place part
  exact hc ▸ hk.dspEventIf hw _ _ _ (by rw [ho]; decide) hl

@[simp] theorem State.lowMark_disp (s : State) (d : Disp) (part : Nat) : (s.lowMark d part).disp = s.disp := by
  obtain ⟨c, hc⟩ := s.lowMark_eq d part
  rw [hc, State.eventIf_disp]

/-- The frame of an operation that takes entries from a pool. -/
theorem Frame.posted_lowMark {d before : Disp} {part st : Nat} {o : Option Nat} {u : State}
    (hu : u = (State.lowMark { s with disp := d } before part).posted p st o) (hp : p < 6) :
    Frame [wDsp] s u { s with cells := u.cells, toggles := u.toggles, disp := u.disp, resp := ⟨.ok, 0⟩ } :=
  Frame.posted hu (State.lowMark_shape _ _ _) (RegsKept.lowMark (t := { s with disp := d }) (.of_cells rfl) (by decide) _ _) hp

/-- The entry that `create` makes, before it joins its ready list. -/
def State.newEntry (s : State) (part flow prio tag : Nat) (hold : Bool) (owner : Option Nat) (item : Option (Nat × List Nat)) : Entry :=
  ⟨s.disp.freeIdx part, lookupD 0 (s.disp.freeIdx part) s.disp.gens, part, flow, prio, tag, if hold then 1 else 0, hold, false, .waiting, 0,
    none, [], owner, none, 0, item⟩

/-- The dispatcher with a new entry: held, or at the end of its ready list. -/
def Disp.withNew (d : Disp) (e : Entry) (hold : Bool) : Disp :=
  if hold then { d with entries := d.entries ++ [e] } else { d with entries := d.entries ++ [e] }.makeReady e

theorem Disp.withNew_pend (d : Disp) (e : Entry) (hold : Bool) : (d.withNew e hold).pend = d.pend := by
  cases hold <;> rfl

/-- With a free entry `create` answers the new entry's handle; beside the dispatcher it can only set a low-water bit. -/
theorem State.create_eq_some {part flow prio tag : Nat} {hold : Bool} {owner : Option Nat} {item : Option (Nat × List Nat)}
    (hf : 0 < s.disp.freeCount part) :
    s.create part flow prio tag hold owner item =
      some (State.lowMark { s with disp := s.disp.withNew (s.newEntry part flow prio tag hold owner item) hold } s.disp part,
        (s.newEntry part flow prio tag hold owner item).handle) := by
  rw [State.create, if_neg hf.ne']
  cases hold <;> rfl

/-- A new entry as it stands in the dispatcher: held, or ready with its ready number. -/
def Disp.placed (d : Disp) (e : Entry) (hold : Bool) : Entry := if hold then e else { e with st := .ready, seq := d.seq }

theorem Disp.placed_mem (d : Disp) (e : Entry) (hold : Bool) : d.placed e hold ∈ (d.withNew e hold).entries := by
  cases hold with
  | true => exact List.mem_append_right _ (List.mem_singleton.2 rfl)
  | false => exact Disp.mem_put (e := e) (List.mem_append_right _ (List.mem_singleton.2 rfl)) rfl

/-- Joining the ready list changes neither what was submitted nor the handle. -/
theorem Disp.placed_fields (d : Disp) (e : Entry) (hold : Bool) :
    (d.placed e hold).part = e.part ∧ (d.placed e hold).tag = e.tag ∧ (d.placed e hold).held = e.held ∧
      (d.placed e hold).owner = e.owner ∧ (d.placed e hold).handle = e.handle ∧
      (d.placed e hold).st = if hold then e.st else .ready := by
  cases hold with
  | true => exact ⟨rfl, rfl, rfl, rfl, rfl, rfl⟩
  | false => exact ⟨rfl, rfl, rfl, rfl, rfl, rfl⟩

end Sys2Proof.Machine
end

section
/-! PROOF. DSP_FLOW_DATA, and the port operations (R60–R69). -/

set_option Elab.async false

namespace Sys2Proof

/-- The element of a list that `listSet` has replaced. -/
theorem listSet_getD_same {α : Type} (v x : α) : ∀ (l : List α) (i : Nat), i < l.length → (listSet l i v).getD i x = v
  | [], _, h => absurd h (Nat.not_lt_zero _)
  | _ :: _, 0, _ => rfl
  | _ :: t, i + 1, h => by
    simpa [listSet] using listSet_getD_same v x t i (by simpa using h)

end Sys2Proof

namespace Sys2Proof.Machine

variable {s t : State} {ws : List (Nat × Nat)} {d : Disp} {e q : Entry} {h p : Nat} {m : Master}

/-! ### DSP_FLOW_DATA (R68) -/

/-- The selected flow has an entry in service or one that waits. -/
abbrev State.flowActive (s : State) : Prop :=
  s.disp.busyFlow (s.get bDsp Rg.DSP_FLOW_SEL.FLOW) = true ∨ 0 < s.disp.waitingOf (s.get bDsp Rg.DSP_FLOW_SEL.FLOW)

theorem State.flowData_of_active (hb : s.flowActive) (v : Nat) : s.flowData v = s.event 10 bDsp Rg.DSP_EVT.FLOW_BUSY := if_pos hb

theorem State.get_flowBusy (s : State) : (s.event 10 bDsp Rg.DSP_EVT.FLOW_BUSY).get bDsp Rg.DSP_EVT.FLOW_BUSY = 1 :=
  State.get_event_same _ _ _ _ (by decide)

/-- The window of the dispatcher as an address names it. -/
def dspPlace : Place := ⟨.dsp, bDsp, 6, none⟩

/-- A 64-bit write at DSP_FLOW_DATA's address writes the register at once. -/
theorem State.write64_flowData (s : State) (m : Master) (v : Nat) :
    s.write64 m dspPlace 0x30020038 v = s.flowData (v % 2 ^ 64) := rfl

/-- A bus write of DSP_FLOW_DATA by MP or Gauntlet is a write of the register's value. -/
theorem State.busWrite_flowData (hm : m = .mp ∨ m = .gauntlet) (hon : s.on .mgmt = true) (v : Nat) :
    s.busWrite m 0x30020038 (leBytes 8 v) = (s.flowData (leVal (leBytes 8 v) % 2 ^ 64)).answer .ok 0 := by
  have right : mayWrite s m 0x30020038 = true := by
    obtain rfl | rfl := hm
    · rfl
    · rfl
  have place : placeOf 0x30020038 = some dspPlace := by decide
  have window : s.busWrite m 0x30020038 (leBytes 8 v) = s.winWrite m 0x30020038 8 (leVal (leBytes 8 v)) := by
    rw [State.busWrite, right]
    rfl
  have on : (!s.on (domOf dspPlace.isl)) = false := congrArg Bool.not hon
  rw [window, State.winWrite, State.window, if_neg (by decide), place]
  simp only [on]
  exact congrArg (State.answer · .ok 0) (s.write64_flowData m _)

/-- The frame of a write that sets FLOW_BUSY. -/
theorem flowBusy_frame (s : State) : Frame [wDsp] s ((s.event 10 bDsp Rg.DSP_EVT.FLOW_BUSY).answer .ok 0)
    { s with cells := (s.event 10 bDsp Rg.DSP_EVT.FLOW_BUSY).cells, toggles := (s.event 10 bDsp Rg.DSP_EVT.FLOW_BUSY).toggles,
             resp := ⟨.ok, 0⟩ } :=
  ((RegShape.refl s).event _ _ _).frame_answer
    ((RegsKept.refl _ _).dspEvent (by decide) 10 Rg.DSP_EVT.FLOW_BUSY (by decide) (by decide))

/-! ### Operations that name an entry (R63, R66, R69) -/

/-- The dispatcher with the head of agent `p`'s queue taken. -/
def Disp.taken (d : Disp) (p : Nat) : Disp := { d with queues := listSet d.queues p (d.queues.getD p []).tail }

theorem Disp.taken_queue (hp : p < d.queues.length) : (d.taken p).queues.getD p [] = (d.queues.getD p []).tail :=
  listSet_getD_same _ _ _ _ hp

theorem State.doTake_eq (s : State) (p : Nat) : s.doTake p = ({ s with disp := s.disp.taken p }, stOk, none) := rfl

/-- PORT_DISP shows the entry at the head of its agent's queue. -/
theorem State.dispView_of_queue {n nx : Nat} {l : List Nat} (hq : s.disp.queues.getD n [] = nx :: l) :
    s.dispView n = (match s.disp.find nx with
      | some y => 1 + b2n y.depCan * 2 + y.handle * 2 ^ 4 + y.tag % 2 ^ 32 * 2 ^ 32
      | none => 0) := by
  rw [State.dispView, hq]
  rfl

theorem State.doComplete_notOwner (he : s.disp.find h = some e) (hs : e.st = .inService) (ha : e.agent ≠ some p) :
    s.doComplete p h = (s, stNotOwner, none) := by
  simp [State.doComplete, he, hs, ha]

theorem State.doComplete_stale (he : s.disp.find h = some e) (hs : e.st ≠ .inService) : s.doComplete p h = (s, stStale, none) := by
  simp [State.doComplete, he, hs]

end Sys2Proof.Machine

open Sys2Proof Sys2Proof.Machine

/-- Settles O8: either access writes the value to a flow that is active, which sets FLOW_BUSY and nothing else. -/
theorem flowDataWriteWhileActiveIsIgnored : Obligations.FlowDataWriteWhileActiveIsIgnored := by
  refine ⟨fun m v s ⟨hm, hon⟩ hb => ?_, fun m v s ⟨hm, hon⟩ hb => ?_⟩
  · refine ⟨_, rfl, ?_⟩
    rw [State.actWrite_ok _ _ _ _ _ _ hm hon, State.flowData_of_active hb]
    exact ⟨s.get_flowBusy, flowBusy_frame s⟩
  · refine ⟨_, rfl, ?_⟩
    rw [State.busWrite_flowData hm hon, State.flowData_of_active hb]
    refine ⟨s.get_flowBusy, ?_⟩
    have staged : ((s.event 10 bDsp Rg.DSP_EVT.FLOW_BUSY).answer .ok 0).staged = s.staged := s.event_staged _ _ _
    rw [staged]
    exact flowBusy_frame s

/-- Settles O9: TAKE advances the agent's queue; the two COMPLETEs change nothing, and their codes wait for the port. -/
theorem takeAndCompleteAnswerByTheirRule : Obligations.TakeAndCompleteAnswerByTheirRule := by
  refine ⟨fun m port hd nx l s ⟨hp, hm, hon, hst, hl, hq⟩ => ⟨_, rfl, ?_⟩,
    fun m port handle y s ⟨hp, hm, hon, hst, hy, hin, ha⟩ => ⟨_, rfl, ?_⟩,
    fun m port handle y s ⟨hp, hm, hon, hst, hy, hin⟩ => ⟨_, rfl, ?_⟩⟩
  · rw [State.portOp_eq_posted hm hon hst (s.doTake_eq port) (by decide) (by decide)]
    have queue : (s.disp.taken port).queues.getD port [] = nx :: l := by rw [Disp.taken_queue hl, hq]; rfl
    exact ⟨⟨queue, State.dispView_of_queue queue⟩, Frame.posted_disp rfl hp⟩
  · rw [State.portOp_eq_posted hm hon hst (State.doComplete_notOwner (p := port) hy hin ha) (by decide) (by decide)]
    exact ⟨State.get_posted_status _ _ _ _, rfl, Frame.posted_disp (d := s.disp) rfl hp⟩
  · rw [State.portOp_eq_stale hm hon hst (State.doComplete_stale (p := port) hy hin)]
    refine ⟨State.get_posted_status _ _ _ _, ?_, ?_, ?_⟩
    · rw [State.posted_disp, State.event_disp]
    · rw [State.get_posted_ne]
      · exact State.get_event_same _ _ _ _ (by decide)
      · simp only [fldKey, portBase, bDsp, Rg.PORT_RES.STATUS, Rg.DSP_EVT.STALE]
        omega
    · exact Frame.posted (d := s.disp) rfl ((RegShape.refl s).event 10 bDsp Rg.DSP_EVT.STALE)
        ((RegsKept.refl _ _).dspEvent (by decide) 10 Rg.DSP_EVT.STALE (by decide) (by decide)) hp

end

section
/-! SUPPORT. What each operation of the dispatcher leaves (R55–R66), and where the windows of the tiles lie. -/

set_option Elab.async false

namespace Sys2Proof.Machine

variable {s t : State} {ws : List (Nat × Nat)} {d : Disp} {e q : Entry} {h p : Nat} {m : Master}

/-! ### Windows of the tiles -/

theorem tilePositions_lt (k : Blk) : ∀ p ∈ tilePositions k, p < 80 := by
  cases k <;> decide

theorem tileBase_range {pos : Nat} (hp : pos < 80) : 0x2000_0000 ≤ tileBase pos ∧ tileBase pos < 0x202C_0000 := by
  unfold tileBase islandOf slotOf
  dsimp only
  split_ifs <;> omega

/-- Every tile of a kind lies in the windows of the tiles, whatever its number. -/
theorem kindBase_range (k : Blk) (inst : Nat) : 0x2000_0000 ≤ kindBase k inst ∧ kindBase k inst < 0x202C_0000 := by
  refine tileBase_range ?_
  rw [List.getD_eq_getElem?_getD]
  cases hg : (tilePositions k)[inst]? with
  | none => decide
  | some q => exact tilePositions_lt k q (List.mem_of_getElem? hg)

/-- A write of a tile's register, counted from the base of its tile. -/
theorem RegsKept.setTile (hk : RegsKept ws s t) (hw : wTiles ∈ ws) (k : Blk) (inst x v : Nat) (f : Fld) (hx : x + f.off < 0x100_0000)
    (hl : f.lo < 64) : RegsKept ws s (t.set (kindBase k inst + x) f v) := by
  have hr := kindBase_range k inst
  refine hk.set _ _ _ wTiles hw ?_ ?_ hl
  · simp only [wTiles]
    omega
  · simp only [wTiles]
    omega

/-! ### Flows (R89) -/

theorem Disp.flowOf_of_find {f : Nat} {r : FlowRec} (hr : d.flows.find? (fun x => x.flow == f) = some r) : d.flowOf f = r := by
  rw [Disp.flowOf, hr]

theorem Disp.assigned_of_find {f : Nat} {r : FlowRec} (hr : d.flows.find? (fun x => x.flow == f) = some r) (hc : r.consumer ≠ 0x7E) :
    d.assigned f = true := by
  refine List.any_eq_true.2 ⟨r, List.mem_of_find?_eq_some hr, ?_⟩
  simpa [hc] using List.find?_some hr

/-! ### SUBMIT (R60, R66) and ADD_DEP (R56) -/

/-- The entry that port `p`'s descriptor asks for. -/
def State.portEntry (s : State) (p : Nat) : Entry :=
  s.newEntry (s.get (portBase p) Rg.PORT_DESC.PART) (s.get (portBase p) Rg.PORT_DESC.FLOW) (s.get (portBase p) Rg.PORT_DESC.PRIO)
    (s.get (portBase p) Rg.PORT_DESC.TAG) (s.flag (portBase p) Rg.PORT_DESC.HOLD) (some p) none

/-- SUBMIT on a flow assigned to an agent in the descriptor's partition, with a free entry. -/
theorem State.doSubmit_eq {r : FlowRec} (hr : s.disp.flows.find? (fun x => x.flow == s.get (portBase p) Rg.PORT_DESC.FLOW) = some r)
    (hpart : r.part = s.get (portBase p) Rg.PORT_DESC.PART) (hc : r.consumer = 127) (ha : r.agent ≤ 5) (hf : 0 < s.disp.freeCount r.part) :
    s.doSubmit p = (State.lowMark { s with disp := s.disp.withNew (s.portEntry p) (s.flag (portBase p) Rg.PORT_DESC.HOLD) } s.disp
      (s.get (portBase p) Rg.PORT_DESC.PART), stOk, some (s.portEntry p).handle) := by
  have assigned := Disp.assigned_of_find hr (by omega)
  rw [hpart] at hf
  simp only [State.doSubmit, Disp.flowOf_of_find hr, assigned, hpart, hc, State.create_eq_some hf, Bool.not_true, Bool.false_eq_true,
    not_lt.2 ha, ne_eq, not_true_eq_false, and_false, false_and, or_self, if_false]
  rfl

/-- An inline link needs no extension entry. -/
theorem extOf_inline {n : Nat} (h : n ≤ 4) : extOf n = 0 := by
  unfold extOf
  omega

/-- The dispatcher with `e` waiting for one more predecessor, `q`. -/
def Disp.withDep (d : Disp) (e q : Entry) (h : Nat) : Disp := (d.put { e with counter := e.counter + 1 }).put { q with succ := q.succ ++ [h] }

theorem Disp.withDep_mem (he : e ∈ d.entries) (hi : q.idx ≠ e.idx) : { e with counter := e.counter + 1 } ∈ (d.withDep e q h).entries :=
  Disp.mem_put_of_ne (Disp.mem_put he rfl) hi.symm

/-- ADD_DEP on a held target with a live predecessor that has a link free inline. -/
theorem State.doAddDep_eq {pred : Nat} (he : s.disp.find h = some e) (hh : e.held = true) (hc : e.counter < 4095)
    (hf : s.disp.freeCount e.part ≠ 0) (hq : s.disp.find pred = some q) (hn : q.succ.length < 4) (hi : q.idx ≠ e.idx) :
    s.doAddDep h pred = (State.lowMark { s with disp := s.disp.withDep e q h } s.disp q.part, stOk, none) := by
  have other : e.handle ≠ pred := by
    intro hp
    rw [← hp, Disp.handle_of_find he, he] at hq
    exact hi (congrArg Entry.idx (Option.some.inj hq).symm)
  have found : (s.disp.put { e with counter := e.counter + 1 }).find pred = some q := Disp.find_put_of_ne hq hi other
  have more : extOf (q.succ.length + 1) - extOf q.succ.length = 0 := by rw [extOf_inline (by omega), Nat.zero_sub]
  rw [State.doAddDep, he]
  dsimp only
  rw [if_neg (by simp [hh]), if_neg hf, hq]
  dsimp only
  rw [if_neg (by omega), more, if_neg (Nat.not_lt_zero _), found]
  split
  · rfl
  · rfl

/-! ### RELEASE (R63, R66) -/

/-- RELEASE of a held entry. -/
theorem State.doRelease_eq (he : s.disp.find h = some e) (hh : e.held = true) :
    s.doRelease h = ({ s with disp := s.disp.lowerBy (1 + e.lost) { e with held := false, lost := 0 } }, stOk, none) := by
  simp [State.doRelease, he, hh, b2n]

/-! ### Ring slots and buckets of an ended entry (R86, R308) -/

theorem State.freeRing_eq (s : State) (e : Entry) : ∃ l, s.freeRing e = { s with links := l } := by
  unfold State.freeRing
  split
  · exact ⟨_, rfl⟩
  · exact ⟨_, rfl⟩

/-- Giving a slot back changes the concentration's record and its AC_STAT.FREE alone. -/
theorem State.slotRelease_eq (s : State) (n slot : Nat) : ∃ c a, s.slotRelease n slot = { s with cells := c, align := a } := by
  unfold State.slotRelease
  split
  · exact ⟨_, _, rfl⟩
  · extract_lets k
    split
    · exact ⟨_, _, rfl⟩
    · split
      · unfold State.showFree
        split
        · exact ⟨_, _, rfl⟩
        · exact ⟨_, _, rfl⟩
      · exact ⟨_, _, rfl⟩

theorem RegsKept.slotRelease (hk : RegsKept ws s t) (hw : wTiles ∈ ws) {n : Nat} (hn : n < 16) (slot : Nat) :
    RegsKept ws s (t.slotRelease n slot) := by
  have showFree (u : State) (hu : RegsKept ws s u) : RegsKept ws s (u.showFree n) := by
    unfold State.showFree
    split
    · exact hu
    · next c hc =>
      have hcn : c.n = n := by simpa using List.find?_some hc
      rw [acBase, atBase, ← hcn]
      exact hu.setTile hw .aln _ _ _ Rg.AC_STAT.FREE (by simp only [Rg.AC_STAT.FREE]; omega) (by decide)
  unfold State.slotRelease
  split
  · exact hk
  · extract_lets k
    split
    · exact hk
    · split
      · exact showFree _ (hk.cells rfl)
      · exact hk.cells rfl

/-- The concentration and the slot of a bucket's item are 4 and 8 bits of its first word. -/
theorem State.freeBucket_cases (s : State) (e : Entry) :
    s.freeBucket e = s ∨ ∃ n slot, n < 16 ∧ s.freeBucket e = s.slotRelease n slot := by
  unfold State.freeBucket
  split
  · exact .inr ⟨_, _, Nat.mod_lt _ (by decide), rfl⟩
  · exact .inl rfl

theorem State.freeBucket_eq (s : State) (e : Entry) : ∃ c a, s.freeBucket e = { s with cells := c, align := a } := by
  obtain hs | ⟨n, slot, -, hs⟩ := s.freeBucket_cases e
  · exact ⟨_, _, hs⟩
  · exact hs ▸ s.slotRelease_eq n slot

theorem RegsKept.freeBucket (hk : RegsKept ws s t) (hw : wTiles ∈ ws) (e : Entry) : RegsKept ws s (t.freeBucket e) := by
  obtain ht | ⟨n, slot, hn, ht⟩ := t.freeBucket_cases e
  · rw [ht]
    exact hk
  · rw [ht]
    exact hk.slotRelease hw hn slot

/-! ### CANCEL (R61–R64) and completion (R56) -/

theorem State.hwRetry_of_nil (hq : s.disp.hwq = []) : s.hwRetry = s := by
  rw [State.hwRetry, hq]
  rfl

/-- Losing a predecessor changes entries alone, and no index. -/
theorem Disp.lose_eq (d : Disp) (h : Nat) : ∃ l, d.lose h = { d with entries := l } ∧ ∀ x ∈ l, ∃ y ∈ d.entries, y.idx = x.idx := by
  unfold Disp.lose
  split
  · exact ⟨_, rfl, fun x hx => ⟨x, hx, rfl⟩⟩
  · refine ⟨_, rfl, fun x hx => ?_⟩
    obtain ⟨y, hy, rfl⟩ := List.mem_map.1 hx
    refine ⟨y, hy, ?_⟩
    split
    · assumption
    · rfl

theorem Disp.foldl_lose_eq (l : List Nat) :
    ∀ d : Disp, ∃ k, l.foldl Disp.lose d = { d with entries := k } ∧ ∀ x ∈ k, ∃ y ∈ d.entries, y.idx = x.idx := by
  induction l with
  | nil => exact fun d => ⟨_, rfl, fun x hx => ⟨x, hx, rfl⟩⟩
  | cons h l ih =>
    intro d
    obtain ⟨k, hk, hd⟩ := d.lose_eq h
    obtain ⟨k', hk', hd'⟩ := ih (d.lose h)
    refine ⟨k', by rw [List.foldl_cons, hk', hk], fun x hx => ?_⟩
    obtain ⟨y, hy, hyx⟩ := hd' x hx
    rw [hk] at hy
    obtain ⟨z, hz, hzy⟩ := hd y hy
    exact ⟨z, hz, hzy.trans hyx⟩

/-- The dispatcher without a cancelled entry: with RELEASE_DEPENDENTS its successors are queued for marked decrements, else they have
lost a predecessor. -/
def Disp.cancelled (d : Disp) (e : Entry) (rel : Bool) : Disp :=
  if rel then { d.free e with work := d.work ++ e.succ.map (fun x => (x, true)) } else e.succ.foldl Disp.lose (d.free e)

theorem Disp.cancelled_eq (d : Disp) (e : Entry) (rel : Bool) : ∃ k, (∀ x ∈ k, x.idx ≠ e.idx) ∧ d.cancelled e rel =
    { d.free e with entries := k, work := d.work ++ (if rel then e.succ.map (fun y => (y, true)) else []) } := by
  cases rel with
  | true => exact ⟨_, fun _ => Disp.idx_ne_of_mem_free, rfl⟩
  | false =>
    obtain ⟨k, hk, hd⟩ := Disp.foldl_lose_eq e.succ (d.free e)
    refine ⟨k, fun x hx => ?_, ?_⟩
    · obtain ⟨y, hy, hyx⟩ := hd x hx
      exact hyx ▸ Disp.idx_ne_of_mem_free hy
    · simp only [Disp.cancelled, Bool.false_eq_true, if_false, hk, List.append_nil]
      rfl

/-- CANCEL of an entry not in service, with no hardware submit waiting for room. -/
theorem State.doCancel_eq (he : s.disp.find h = some e) (hs : e.st ≠ .inService) (hq : s.disp.hwq = []) (rel same : Bool) :
    s.doCancel h rel same = ((State.freeRing { s with disp := s.disp.cancelled e rel } e).eventIf (same && e.st == .ready) 10 bDsp
      Rg.DSP_EVT.CANCEL_WON, stOk, none) := by
  have hwq : ((State.freeRing { s with disp := s.disp.cancelled e rel } e).eventIf (same && e.st == .ready) 10 bDsp
      Rg.DSP_EVT.CANCEL_WON).disp.hwq = [] := by
    obtain ⟨l, hl⟩ := State.freeRing_eq { s with disp := s.disp.cancelled e rel } e
    obtain ⟨k, -, hk⟩ := s.disp.cancelled_eq e rel
    rw [State.eventIf_disp, hl, hk]
    exact hq
  rw [State.doCancel, he]
  dsimp only
  rw [if_neg hs]
  exact congrArg (·, stOk, none) (State.hwRetry_of_nil hwq)

/-- COMPLETE of the agent's own entry in service, with no hardware submit waiting for room. -/
theorem State.doComplete_eq (he : s.disp.find h = some e) (hs : e.st = .inService) (ha : e.agent = some p) (hq : s.disp.hwq = []) :
    s.doComplete p h = ((State.freeRing { s with disp := s.disp.finish e } e).freeBucket e, stOk, none) := by
  have hwq : ((State.freeRing { s with disp := s.disp.finish e } e).freeBucket e).disp.hwq = [] := by
    obtain ⟨l, hl⟩ := State.freeRing_eq { s with disp := s.disp.finish e } e
    obtain ⟨c, a, hc⟩ := ((State.freeRing { s with disp := s.disp.finish e } e).freeBucket_eq e)
    rw [hc, hl]
    exact hq
  simp only [State.doComplete, he, hs, ha, ne_eq, not_true_eq_false, if_false, State.hwRetry_of_nil hwq]

end Sys2Proof.Machine
end

section
/-! PROOF. What each accepted port operation does (R60–R69). -/

set_option Elab.async false

open Sys2Proof Sys2Proof.Machine

/-- Settles O10: each operation's own rule gives the state before the port is PENDING, and that state has its frame. -/
theorem portOperationsTakeEffect : Obligations.PortOperationsTakeEffect := by
  refine ⟨fun m port r s hp hm hon hst hr ⟨hpart, hc, ha⟩ hf => ⟨_, rfl, ?submit⟩,
    fun m port handle pred e q s hp hm hon hst ⟨he, hh, hc, hf⟩ ⟨hq, hn, hi⟩ => ⟨_, rfl, ?addDep⟩,
    fun m port handle e s hp hm hon hst ⟨he, hh⟩ => ⟨_, rfl, ?release⟩,
    fun m port handle rel same e s hp hm hon hst ⟨he, hs⟩ hq => ⟨_, rfl, ?cancel⟩,
    fun m port handle e s hp hm hon hst ⟨he, hs, ha⟩ hq => ⟨_, rfl, ?complete⟩,
    fun m port s hp hm hon hst hl => ⟨_, rfl, ?take⟩,
    fun m port op s hp hm hon hst hop => ?badOp⟩
  case submit =>
    rw [State.portOp_eq_posted hm hon hst (State.doSubmit_eq hr hpart hc ha hf) (by decide) (by decide)]
    obtain ⟨part, tag, held, owner, handle, st⟩ := s.disp.placed_fields (s.portEntry port) (s.flag (portBase port) Rg.PORT_DESC.HOLD)
    refine ⟨⟨_, ?_, part.trans hpart.symm, tag, held, owner, st, ?_⟩, State.get_posted_status _ _ _ _, Frame.posted_lowMark rfl hp⟩
    · rw [State.posted_disp, State.lowMark_disp]
      exact s.disp.placed_mem _ _
    · rw [State.posted_disp, State.lowMark_disp, Disp.withNew_pend, handle]
      rfl
  case addDep =>
    rw [State.portOp_eq_posted hm hon hst (State.doAddDep_eq he hh hc hf hq hn hi) (by decide) (by decide)]
    refine ⟨?_, ?_, State.get_posted_status _ _ _ _, Frame.posted_lowMark rfl hp⟩
    · rw [State.posted_disp, State.lowMark_disp]
      exact Disp.withDep_mem (Disp.mem_of_find he) hi
    · rw [State.posted_disp, State.lowMark_disp]
      rfl
  case release =>
    rw [State.portOp_eq_posted hm hon hst (State.doRelease_eq he hh) (by decide) (by decide)]
    obtain ⟨x, hx, hidx, hheld, hlost, -, hcount⟩ :=
      Disp.lowerBy_mem (q := { e with held := false, lost := 0 }) (1 + e.lost) (Disp.mem_of_find he) rfl
    refine ⟨⟨x, hx, hidx, hheld, hlost, hcount⟩, ?_, Frame.posted_disp rfl hp⟩
    rw [State.posted_disp]
    exact congrArg (· ++ _) (Disp.lowerBy_pend _ _ _)
  case cancel =>
    rw [State.portOp_eq_posted hm hon hst (State.doCancel_eq he hs hq rel same) (by decide) (by decide)]
    obtain ⟨l, hl⟩ := State.freeRing_eq { s with disp := s.disp.cancelled e rel } e
    obtain ⟨k, hk, hd⟩ := s.disp.cancelled_eq e rel
    have kept : RegsKept [wDsp] s (State.freeRing { s with disp := s.disp.cancelled e rel } e) := by
      rw [hl]
      exact .of_cells rfl
    have regs := kept.dspEventIf (by decide) (same && e.st == .ready) 10 Rg.DSP_EVT.CANCEL_WON (by decide) (by decide)
    obtain ⟨c, g, hshape⟩ := (RegShape.refl (State.freeRing { s with disp := s.disp.cancelled e rel } e)).eventIf
      (same && e.st == .ready) 10 bDsp Rg.DSP_EVT.CANCEL_WON
    rw [hshape] at regs
    rw [hshape, hl, hd]
    rw [hl, hd] at regs
    exact ⟨hk, rfl, rfl, rfl, .of_mem rfl, regs.posted (by decide) hp _ _⟩
  case complete =>
    rw [State.portOp_eq_posted hm hon hst (State.doComplete_eq he hs ha hq) (by decide) (by decide)]
    obtain ⟨l, hl⟩ := State.freeRing_eq { s with disp := s.disp.finish e } e
    have kept : RegsKept [wDsp, wTiles] s ((State.freeRing { s with disp := s.disp.finish e } e).freeBucket e) :=
      RegsKept.freeBucket (by rw [hl]; exact .of_cells rfl) (by decide) e
    obtain ⟨c, a, hc⟩ := (State.freeRing { s with disp := s.disp.finish e } e).freeBucket_eq e
    rw [hc, hl] at kept
    rw [hc, hl]
    exact ⟨fun x hx => Disp.idx_ne_of_mem_free hx, rfl, rfl, rfl, .of_mem rfl, kept.posted (by decide) hp _ _⟩
  case take =>
    rw [State.portOp_eq_posted hm hon hst (s.doTake_eq port) (by decide) (by decide)]
    exact ⟨Disp.taken_queue hl, rfl, rfl, Frame.posted_disp rfl hp⟩
  case badOp =>
    refine ⟨_, if_pos hop, ?_⟩
    rw [State.portOp_eq_posted hm hon hst (f := fun t => (t, stBadOp, none)) rfl (by decide) (by decide)]
    exact ⟨rfl, Frame.posted_disp (d := s.disp) rfl hp⟩

end

section
/-! PROOF. How the dispatcher moves entries on (R55–R68). -/

set_option Elab.async false

namespace Sys2Proof.Machine

variable {s t : State} {d : Disp} {e : Entry} {h : Nat}

/-! ### Items on their way to a consumer (R46, R52) -/

/-- Sending an item changes the links alone. -/
theorem State.trySend_eq_some {l : Link} {k : PktHead} {w : List Nat} (ht : s.trySend l k w = some t) : ∃ ls, t = { s with links := ls } := by
  unfold State.trySend at ht
  extract_lets slot words ep at ht
  split at ht
  · exact ⟨_, (Option.some.inj ht).symm⟩
  · cases ht

theorem State.sendItem_eq_some {src dst typ flow prio lane : Nat} {c : Bool} {w : List Nat}
    (ht : s.sendItem src dst typ flow prio lane c w = some t) : ∃ ls, t = { s with links := ls } := by
  unfold State.sendItem at ht
  split at ht
  · cases ht
  · exact State.trySend_eq_some ht

/-- Draining a link's items changes the links and the items held back. -/
theorem drainLink_eq (src dst n : Nat) : ∀ s : State, ∃ ls q, drainLink src dst n s = { s with links := ls, outq := q } := by
  induction n with
  | zero => exact fun s => ⟨_, _, rfl⟩
  | succ n ih =>
    intro s
    unfold drainLink
    split
    · exact ⟨_, _, rfl⟩
    · next o _ =>
      split
      · exact ⟨_, _, rfl⟩
      · next t ht =>
        obtain ⟨ls, rfl⟩ := State.sendItem_eq_some ht
        obtain ⟨ls', q', hd⟩ := ih { s with links := ls, outq := s.outq.erase o }
        exact ⟨ls', q', hd⟩

theorem State.emitDep_eq (s : State) (src dst typ flow prio lane : Nat) (c : Bool) (w : List Nat) :
    ∃ ls q, s.emitDep src dst typ flow prio lane c w = { s with links := ls, outq := q } := by
  unfold State.emitDep
  split
  · exact ⟨_, _, rfl⟩
  · obtain ⟨ls, q, hd⟩ := drainLink_eq src dst (s.outq ++ [(⟨src, dst, typ, flow, prio, lane, c, w⟩ : OutItem)]).length
      { s with outq := s.outq ++ [⟨src, dst, typ, flow, prio, lane, c, w⟩] }
    exact ⟨ls, q, hd⟩

/-! ### Dispatch (R58) -/

theorem bestEntry_mem {l : List Entry} (hb : bestEntry l = some e) : e ∈ l := by
  induction l generalizing e with
  | nil => cases hb
  | cons x l ih =>
    unfold bestEntry at hb
    split at hb
    · cases hb
      exact List.mem_cons_self
    · next b hl =>
      split at hb
      · cases hb
        exact List.mem_cons_self
      · cases hb
        exact List.mem_cons_of_mem _ (ih hl)

/-- An entry served stands in the dispatcher, in service; its item and an agent's pulse change the links, what is held back for them,
and the toggles alone. -/
theorem State.serve_eq (he : e ∈ s.disp.entries) : ∃ d g ls q, s.serve e = { s with disp := d, toggles := g, links := ls, outq := q } ∧
    ∃ x ∈ d.entries, x.idx = e.idx ∧ x.flow = e.flow ∧ x.st = EState.inService := by
  unfold State.serve
  extract_lets r q d t w
  split
  · have served : ∃ x ∈ t.disp.entries, x.idx = e.idx ∧ x.flow = e.flow ∧ x.st = EState.inService :=
      ⟨_, Disp.mem_put (q := { e with st := .inService, agent := some r.agent }) he rfl, rfl, rfl, rfl⟩
    split
    · obtain ⟨g, hg⟩ := t.toggle_eq (11 + r.agent)
      exact ⟨t.disp, g, t.links, t.outq, hg, served⟩
    · exact ⟨_, _, _, _, rfl, served⟩
  · obtain ⟨ls, oq, hd⟩ := State.emitDep_eq { s with disp := s.disp.put { e with st := .inService } } 82 r.consumer w.1 e.flow e.prio
      r.lane e.depCan w.2
    exact ⟨_, _, ls, oq, hd, _, Disp.mem_put (q := { e with st := .inService }) he rfl, rfl, rfl, rfl⟩

/-! ### Hardware submits, completions and flows (R56, R60, R68) -/

/-- The entry that a hardware producer's submit asks for. -/
def State.hwEntry (s : State) (flow prio tag : Nat) : Entry :=
  s.newEntry (s.disp.flowOf flow).part flow (prio % 8) (tag % 2 ^ 32) false none none

theorem State.hwSubmit_eq {flow : Nat} (hon : s.on .mgmt = true) (ha : s.disp.assigned flow = true)
    (hf : 0 < s.disp.freeCount (s.disp.flowOf flow).part) (prio tag : Nat) :
    s.hwSubmit flow prio tag none =
      State.lowMark { s with disp := s.disp.withNew (s.hwEntry flow prio tag) false } s.disp (s.disp.flowOf flow).part := by
  simp only [State.hwSubmit, hon, ha, Bool.not_true, Bool.false_eq_true, or_self, if_false, State.create_eq_some hf]
  rfl

/-- A tile's completion of its entry, with no hardware submit waiting for room. -/
theorem State.tileDone_eq (he : s.disp.find h = some e) (hs : e.st = .inService) (ha : e.agent = none) (hq : s.disp.hwq = []) :
    s.tileDone h = State.freeRing { s with disp := s.disp.finish e } e := by
  have hwq : (State.freeRing { s with disp := s.disp.finish e } e).disp.hwq = [] := by
    obtain ⟨l, hl⟩ := State.freeRing_eq { s with disp := s.disp.finish e } e
    rw [hl]
    exact hq
  rw [State.tileDone, he]
  exact (if_pos ⟨hs, ha⟩).trans (State.hwRetry_of_nil hwq)

/-- The assignment that a DSP_FLOW_DATA value gives a flow. -/
def flowWritten (f v : Nat) : FlowRec := ⟨f, bits 0 1 v, bits 4 7 v, bits 11 3 v, bits 32 16 v⟩

theorem State.flowData_of_idle (hb : ¬ s.flowActive) (v : Nat) : s.flowData v = { s with disp := { s.disp with
    flows := flowWritten (s.get bDsp Rg.DSP_FLOW_SEL.FLOW) v :: s.disp.flows.filter (fun x => x.flow != s.get bDsp Rg.DSP_FLOW_SEL.FLOW) } } :=
  if_neg hb

theorem Disp.flowOf_cons (d : Disp) (r : FlowRec) (l : List FlowRec) : ({ d with flows := r :: l } : Disp).flowOf r.flow = r :=
  Disp.flowOf_of_find (List.find?_cons_of_pos (beq_self_eq_true r.flow))

/-- A successor that waits is lowered, with the mark of a cancelled predecessor. -/
theorem Disp.decrement_eq {mark : Bool} {l : List (Nat × Bool)} (hw : d.work = (h, mark) :: l) (he : d.find h = some e)
    (hs : e.st = .waiting) : d.decrement = ({ d with work := l } : Disp).lowerBy 1 { e with depCan := e.depCan || mark } := by
  have found : ({ d with work := l } : Disp).find h = some e := he
  simp only [Disp.decrement, hw, found, hs, if_true]
  rfl

/-! ### Results shown (R67) -/

/-- The state in which a port shows the status of a result that has waited. -/
def State.shown (s : State) (port : Nat) (r : PortPend) : State :=
  State.set { s with disp := { s.disp with pend := s.disp.pend.erase r } } (portBase port) Rg.PORT_RES.STATUS r.status

theorem execPortOpDone_eq {port : Nat} {r : PortPend} (hr : s.disp.pend.find? (fun x => x.port == port) = some r) :
    execPortOpDone port s = .next ((r.handle.map ((s.shown port r).set (portBase port) Rg.PORT_RES.HANDLE)).getD (s.shown port r)) := by
  rw [execPortOpDone, hr]
  dsimp only
  cases r.handle with
  | none => rfl
  | some k => rfl

end Sys2Proof.Machine

open Sys2Proof Sys2Proof.Machine

/-- Settles O11: each command's rule gives the state it leaves. -/
theorem dispatcherMovesEntriesOn : Obligations.DispatcherMovesEntriesOn := by
  refine ⟨fun port r s ⟨hp, hr⟩ hst => ⟨_, execPortOpDone_eq hr, ?opDone⟩, fun flow prio tag s ⟨hon, ha⟩ hf => ⟨_, rfl, ?hwSubmit⟩,
    fun handle e s ⟨he, hs, ha⟩ hq => ⟨_, rfl, ?tileComplete⟩, fun h mark l e s hw ⟨he, hs⟩ => ⟨_, rfl, ?decrement⟩,
    fun stalled e s hen hb => ?dispatch, fun m v s ⟨hm, hon⟩ ⟨hbusy, hwait⟩ => ⟨_, rfl, ?flowData⟩⟩
  case opDone =>
    have status : (s.shown port r).get (portBase port) Rg.PORT_RES.STATUS = r.status :=
      (State.get_set_same _ _ _ _).trans (Nat.mod_eq_of_lt hst)
    have kept : RegsKept [wDsp] s (s.shown port r) :=
      RegsKept.setPort (.of_cells rfl) (by decide) hp Rg.PORT_RES.STATUS _ (by decide) (by decide)
    cases r.handle with
    | none => exact ⟨status, rfl, rfl, rfl, .of_mem rfl, kept⟩
    | some k =>
      exact ⟨(State.get_set_off _ _ _ _ _ (by decide)).trans status, rfl, rfl, rfl, .of_mem rfl,
        kept.setPort (by decide) hp Rg.PORT_RES.HANDLE k (by decide) (by decide)⟩
  case hwSubmit =>
    rw [State.hwSubmit_eq hon ha hf]
    obtain ⟨c, g, hc⟩ := State.lowMark_shape { s with disp := s.disp.withNew (s.hwEntry flow prio tag) false } s.disp
      (s.disp.flowOf flow).part
    have kept := RegsKept.lowMark (ws := [wDsp]) (s := s) (t := { s with disp := s.disp.withNew (s.hwEntry flow prio tag) false })
      (.of_cells rfl) (by decide) s.disp (s.disp.flowOf flow).part
    rw [hc] at kept
    rw [hc]
    exact ⟨⟨_, s.disp.placed_mem (s.hwEntry flow prio tag) false, rfl, rfl, rfl, rfl, rfl, rfl⟩, rfl, .of_mem rfl, kept⟩
  case tileComplete =>
    rw [State.tileDone_eq he hs ha hq]
    obtain ⟨ls, hl⟩ := State.freeRing_eq { s with disp := s.disp.finish e } e
    rw [hl]
    exact ⟨fun x hx => Disp.idx_ne_of_mem_free hx, rfl, rfl, .of_mem rfl, .of_cells rfl⟩
  case decrement =>
    rw [Disp.decrement_eq hw he hs]
    obtain ⟨x, hx, hidx, -, -, hdep, hcount⟩ := Disp.lowerBy_mem (d := { s.disp with work := l })
      (q := { e with depCan := e.depCan || mark }) 1 (Disp.mem_of_find he) rfl
    refine ⟨⟨Disp.lowerBy_work _ _ _, x, hx, hidx, hdep, ?_⟩, rfl, .of_mem rfl, .of_cells rfl⟩
    rw [← hs]
    exact hcount
  case dispatch =>
    obtain ⟨d, g, ls, q, hd, served⟩ := State.serve_eq (List.mem_filter.1 (bestEntry_mem hb)).1
    have dispatched : exec (.dispatch stalled) s = .next (s.serve e) := by
      show execDispatch stalled s = _
      rw [execDispatch, hen, if_neg (by decide), hb]
    rw [dispatched, hd]
    exact ⟨_, rfl, served, rfl, .of_mem rfl, .of_cells rfl⟩
  case flowData =>
    rw [State.actWrite_ok _ _ _ _ _ _ hm hon, State.flowData_of_idle (by simp [State.flowActive, hbusy, hwait])]
    refine ⟨(Disp.flowOf_cons _ (flowWritten (s.get bDsp Rg.DSP_FLOW_SEL.FLOW) v) _).trans ?_, rfl, rfl, .of_mem rfl, .of_cells rfl⟩
    simp [flowWritten, bits]

end

section
/-! PROOF. Writes of the time core's registers (R144–R156). -/

set_option Elab.async false

namespace Sys2Proof.Machine

variable {s t : State} {ws : List (Nat × Nat)} {m : Master}

/-! ### Registers of the time core -/

theorem bTime_in_wTime {x off : Nat} (ho : x + off < 0x1_0000) :
    wTime.1 ≤ (bTime + x + off) % 2 ^ 48 ∧ (bTime + x + off) % 2 ^ 48 < wTime.2 := by
  simp only [bTime, wTime]
  omega

/-- A write of a register of the time core, `x` bytes from the first of its kind. -/
theorem RegsKept.setTime (hk : RegsKept ws s t) (hw : wTime ∈ ws) (x v : Nat) (f : Fld) (ho : x + f.off < 0x1_0000) (hl : f.lo < 64) :
    RegsKept ws s (t.set (bTime + x) f v) :=
  hk.set _ _ _ wTime hw (bTime_in_wTime ho).1 (bTime_in_wTime ho).2 hl

/-- An event bit of the time core. -/
theorem RegsKept.timeEvent (hk : RegsKept ws s t) (hw : wTime ∈ ws) (ev x : Nat) (f : Fld) (ho : x + f.off < 0x1_0000) (hl : f.lo < 64) :
    RegsKept ws s (t.event ev (bTime + x) f) :=
  hk.event _ _ _ wTime hw (bTime_in_wTime ho).1 (bTime_in_wTime ho).2 hl

/-- Several registers of the time core. -/
theorem RegsKept.setsTime (hk : RegsKept ws s t) (hw : wTime ∈ ws) {l : List (Fld × Nat)}
    (hl : l.all (fun p => decide (p.1.off < 0x1_0000 ∧ p.1.lo < 64)) = true) : RegsKept ws s (t.sets bTime l) := by
  induction l generalizing t with
  | nil => exact hk
  | cons p l ih =>
    obtain ⟨hp, hl⟩ := Bool.and_eq_true_iff.1 hl
    obtain ⟨ho, hlo⟩ := of_decide_eq_true hp
    exact ih (hk.setTime hw 0 p.2 p.1 (by omega) hlo) hl

@[simp] theorem State.get_withTime (s : State) (c : TimeCore) (b : Nat) (f : Fld) : State.get { s with time := c } b f = s.get b f := rfl

/-- A write by a master of R74. -/
theorem State.timeWrite_ok (hm : mayTime s m = true) (hon : s.on .time = true) (off : Nat) (f : State → State) :
    s.timeWrite m off f = (f s).answer .ok 0 := State.actWrite_ok _ _ _ _ _ _ hm hon

/-! ### What each write does -/

theorem State.incWrite_eq {v : Nat} (hs : s.flag bTime Rg.TIME_CTRL.INC_SRC = false) (h1 : 0x3_FFCB_923A ≤ v) (h2 : v ≤ 0x4_0034_6DC6) :
    s.incWrite v = s.set bTime Rg.TIME_INC.INC v := by
  rw [State.incWrite, hs, State.takeInc, if_neg (by decide), if_pos ⟨h1, h2⟩]

theorem State.eraNextWrite_eq (hn : s.time.ns < 0xFFF0_BDC0) (v : Nat) :
    s.eraNextWrite v = s.sets bTime [(Rg.TIME_ERA_NEXT.ERA, v), (Rg.TIME_STAT.ERA_PEND, 1)] := if_neg (not_le.2 hn)

/-- A write of TIME_ADJ replaces the remainder, and a slew in progress sets ADJ_REPLACED. -/
theorem State.adjWrite_eq (s : State) (v : Nat) : s.adjWrite v =
    { s.eventIf (s.time.rem != 0) 8 bTime Rg.TIME_EVT.ADJ_REPLACED with time := { s.time with rem := sgn 64 v, spare := 0 } } := by
  unfold State.adjWrite State.eventIf
  by_cases h : s.time.rem = 0
  · simp [h]
  · simp [h]

/-- The refusal of a step rests on the mode and TPOL_SRC, which a write of TIME_STEP_CTRL.ABS does not reach. -/
theorem State.stepRefusal_setAbs (s : State) (abs b : Bool) (v : Nat) :
    (s.setB bTime Rg.TIME_STEP_CTRL.ABS b).stepRefusal abs v = s.stepRefusal abs v := by
  have mode : (s.setB bTime Rg.TIME_STEP_CTRL.ABS b).mode = s.mode := congrArg Mode.ofCode (State.get_set_ne _ _ _ _ _ _ (by decide))
  have stepOk : (s.setB bTime Rg.TIME_STEP_CTRL.ABS b).flag bTime Rg.TPOL_SRC.STEP_OK = s.flag bTime Rg.TPOL_SRC.STEP_OK :=
    congrArg (· == 1) (State.get_set_ne _ _ _ _ _ _ (by decide))
  rw [State.stepRefusal, State.stepRefusal, mode, stepOk]

/-- GO arms an accepted step. -/
theorem State.stepGo_eq {abs : Bool} (hr : s.stepRefusal abs (s.get bTime Rg.TIME_STEP.VALUE) = 0) : s.stepGo abs =
    { s.sets bTime [(Rg.TIME_STEP_CTRL.ABS, b2n abs), (Rg.TIME_STEP_CTRL.RESULT, 1), (Rg.TIME_STAT.STEP_ARMED, 1)] with
      time := { s.time with armed := some ⟨abs, s.get bTime Rg.TIME_STEP.VALUE, 1000000 * 2 ^ 32⟩ } } := by
  have value : (s.setB bTime Rg.TIME_STEP_CTRL.ABS abs).get bTime Rg.TIME_STEP.VALUE = s.get bTime Rg.TIME_STEP.VALUE :=
    State.get_set_ne _ _ _ _ _ _ (by decide)
  simp only [State.stepGo, value, State.stepRefusal_setAbs, hr, if_true]
  rfl

/-- CANCEL disarms a step. -/
theorem State.stepCancelOp_eq (s : State) (abs : Bool) : s.stepCancelOp abs =
    { s.sets bTime [(Rg.TIME_STEP_CTRL.ABS, b2n abs), (Rg.TIME_STEP_CTRL.RESULT, 6), (Rg.TIME_STAT.STEP_ARMED, 0)] with
      time := { s.time with armed := none } } := rfl

/-- STATE set to a code that is neither the present one nor HOLDOVER, outside HOLDOVER. -/
theorem State.setTimeState_eq {c : Nat} (hc : c < 5) (h3 : c ≠ 3) (ho : s.get bTime Rg.TIME_CTRL.STATE ≠ 3)
    (hn : c ≠ s.get bTime Rg.TIME_CTRL.STATE) :
    s.setTimeState c = (s.set bTime Rg.TIME_CTRL.STATE c).set bTime Rg.TIME_HO_T.ELAPSED 0 := by
  simp [State.setTimeState, not_le.2 hc, h3, ho, hn]

/-- A write of TIME_CTRL that moves STATE from UNSET to ACQUIRING. -/
theorem State.timeCtrl_eq {v : Nat} (hs : s.get bTime Rg.TIME_CTRL.STATE = 0) (hv : v / 2 % 8 = 1) : s.timeCtrl v =
    s.sets bTime [(Rg.TIME_CTRL.INC_SRC, v % 2), (Rg.TIME_CTRL.QUAL, v / 16 % 16), (Rg.TIME_CTRL.STATE, 1), (Rg.TIME_HO_T.ELAPSED, 0)] := by
  have old : ((s.set bTime Rg.TIME_CTRL.INC_SRC (bits 0 1 v)).set bTime Rg.TIME_CTRL.QUAL (bits 4 4 v)).get bTime Rg.TIME_CTRL.STATE = 0 := by
    rw [State.get_set_off _ _ _ _ _ (by decide), State.get_set_off _ _ _ _ _ (by decide), hs]
  have state : bits 1 3 v = 1 := hv
  have ctrl : s.ctrlWrite v = s.sets bTime [(Rg.TIME_CTRL.INC_SRC, v % 2), (Rg.TIME_CTRL.QUAL, v / 16 % 16), (Rg.TIME_CTRL.STATE, 1),
      (Rg.TIME_HO_T.ELAPSED, 0)] := by
    rw [State.ctrlWrite, state, State.setTimeState_eq (by decide) (by decide) (by rw [old]; decide) (by rw [old]; decide)]
    simp [State.sets, bits]
  have now : (s.ctrlWrite v).get bTime Rg.TIME_CTRL.STATE = 1 := by
    rw [ctrl, State.get_sets (by rfl)]
    rfl
  have held : heldOver s (s.ctrlWrite v) = false := by simp [heldOver, now]
  rw [State.timeCtrl, held, ← ctrl]
  rfl

end Sys2Proof.Machine

open Sys2Proof Sys2Proof.Machine

/-- Settles O23: each write by a master of R74 acts by its own rule, and the access completes. -/
theorem timeRegistersTakeWrites : Obligations.TimeRegistersTakeWrites := by
  refine ⟨fun m v s ⟨hm, hon, hsrc⟩ ⟨h1, h2⟩ => ⟨_, rfl, ?inc⟩, fun m v s ⟨hm, hon, hns⟩ => ⟨_, rfl, ?era⟩,
    fun m v s ⟨hm, hon⟩ => ⟨_, rfl, ?adj⟩, fun m abs s ⟨hm, hon, hr⟩ => ⟨_, rfl, ?arm⟩, fun m abs s ⟨hm, hon⟩ => ⟨_, rfl, ?cancel⟩,
    fun m v s ⟨hm, hon, hs, hv⟩ => ⟨_, rfl, ?state⟩, fun m v s ⟨hm, hon, hs⟩ => ⟨_, rfl, ?terr⟩,
    fun m v s ⟨hm, hon, hs, hv⟩ => ⟨_, rfl, ?terrDown⟩⟩
  case inc =>
    rw [State.timeWrite_ok hm hon, State.incWrite_eq hsrc h1 h2]
    refine ⟨?_, rfl, .of_mem rfl, (RegsKept.refl _ s).setTime (by decide) 0 v Rg.TIME_INC.INC (by decide) (by decide)⟩
    exact (State.get_set_same _ _ _ _).trans (Nat.mod_eq_of_lt (by simp only [Rg.TIME_INC.INC]; omega))
  case era =>
    rw [State.timeWrite_ok hm hon, State.eraNextWrite_eq hns]
    refine ⟨?_, ?_, rfl, .of_mem rfl, ((RegsKept.refl _ s).setsTime (by decide) rfl).cells (State.answer_cells _ _ _)⟩
    · rw [State.get_answer, State.get_sets (by rfl)]
      rfl
    · rw [State.get_answer, State.get_sets (by rfl)]
      rfl
  case adj =>
    rw [State.timeWrite_ok hm hon, State.adjWrite_eq]
    obtain ⟨c, g, hc⟩ := (RegShape.refl s).eventIf (s.time.rem != 0) 8 bTime Rg.TIME_EVT.ADJ_REPLACED
    have kept : RegsKept [wTime] s (s.eventIf (s.time.rem != 0) 8 bTime Rg.TIME_EVT.ADJ_REPLACED) :=
      (RegsKept.refl _ s).eventIf _ 8 bTime Rg.TIME_EVT.ADJ_REPLACED wTime (by decide) (by decide) (by decide) (by decide)
    refine ⟨rfl, fun hrem => ?_, ?_, .of_mem (State.eventIf_mem _ _ _ _ _), kept.cells rfl⟩
    · have slewing : (s.time.rem != 0) = true := bne_iff_ne.2 hrem
      rw [State.get_answer, State.get_withTime, slewing]
      exact State.get_event_same _ _ _ _ (by decide)
    · rw [hc]
      rfl
  case arm =>
    rw [State.timeWrite_ok hm hon, State.stepGo_eq hr]
    refine ⟨rfl, ?_, ?_, rfl, .of_mem rfl, ((RegsKept.refl _ s).setsTime (by decide) rfl).cells (State.answer_cells _ _ _)⟩
    · rw [State.get_answer, State.get_withTime, State.get_sets (by rfl)]
      rfl
    · rw [State.get_answer, State.get_withTime, State.get_sets (by rfl)]
      rfl
  case cancel =>
    rw [State.timeWrite_ok hm hon, State.stepCancelOp_eq]
    refine ⟨rfl, ?_, ?_, rfl, .of_mem rfl, ((RegsKept.refl _ s).setsTime (by decide) rfl).cells (State.answer_cells _ _ _)⟩
    · rw [State.get_answer, State.get_withTime, State.get_sets (by rfl)]
      rfl
    · rw [State.get_answer, State.get_withTime, State.get_sets (by rfl)]
      rfl
  case state =>
    rw [State.timeWrite_ok hm hon, State.timeCtrl_eq hs hv]
    refine ⟨?_, ?_, ?_, rfl, .of_mem rfl, ((RegsKept.refl _ s).setsTime (by decide) rfl).cells (State.answer_cells _ _ _)⟩
    · rw [State.get_answer, State.get_sets (by rfl)]
      rfl
    · rw [State.get_answer, State.get_sets (by rfl)]
      exact Nat.mod_mod _ 2
    · rw [State.get_answer, State.get_sets (by rfl)]
      exact Nat.mod_mod _ 16
  case terr =>
    rw [State.timeWrite_ok hm hon, State.terrW, if_neg hs]
    exact ⟨rfl, rfl, .of_mem rfl, .of_cells rfl⟩
  case terrDown =>
    rw [State.timeWrite_ok hm hon, State.terrW, if_pos hs, if_neg (not_lt.2 hv)]
    exact ⟨rfl, .of_mem rfl, .of_cells rfl⟩

end

section
/-! PROOF. Credits of a link whose producer is an output of the encoder (R43, R251). -/

set_option Elab.async false

namespace Sys2Proof.Machine

/-- A link from the OBS tile at position 22 to the PKT tile at position 27, with a ring of one slot and 2 of the 3 credits that a message
of the encoder takes. -/
def encLink : Link := ⟨⟨1, 22, 27, 0, 0, false, false, 13, 0, 0⟩, 2, 12, 1, [], 0, [], none, false⟩

/-- The reset state in SERVICE with the fabric powered and that OBS tile instanced; a message on its output 0 waits for a credit. -/
def State.encStalled : State :=
  let s := { State.reset with
    power := ⟨true, true, true, true, true, true, true, [], 0, false, none⟩,
    img := { State.reset.img with lanes := [(22, 1)] },
    links := [encLink],
    obs := [{ ObsTile.off with outs := [[⟨[], 0, 0⟩], [], [], []] }, .off] }
  (s.set bMpc Rg.MODE_STAT.MODE Mode.service.code).set (outBase 0 0) Rg.OB_OUT.DST 27

/-- The credit that comes back lets the message go, which takes all 3. -/
theorem execCreditReturn_encStalled :
    ∃ t, exec (.creditReturn 1) State.encStalled = .next t ∧ (t.link 1).map (·.credits) = some 0 :=
  ⟨_, rfl, by rfl⟩

end Sys2Proof.Machine

open Sys2Proof Sys2Proof.Machine

/-- Refutes O12: its third clause looks for items that wait in the queue `outq` alone, and a message of the encoder waits in its OBS tile
(R251). The returned credit raises the count from 2 to 3 and the waiting message takes 3, so that 0 are left. -/
theorem not_linksCarryPackets : ¬ Obligations.LinksCarryPackets := by
  intro h
  obtain ⟨-, -, creditReturn, -⟩ := h
  obtain ⟨t, ht, hlink, -⟩ := creditReturn 1 encLink State.encStalled ⟨rfl, by decide⟩ rfl
  obtain ⟨u, hu, hzero⟩ := execCreditReturn_encStalled
  obtain rfl : t = u := Host.Outcome.next.inj (ht.symm.trans hu)
  rw [hlink] at hzero
  exact absurd hzero (by decide)

end

section
/-! PROOF. TDC stamps, PPS outputs and cable measurements (R51, R158–R163). -/

set_option Elab.async false

namespace Sys2Proof.Machine

variable {s t : State} {ws : List (Nat × Nat)} {n : Nat}

theorem RegsKept.mono {vs : List (Nat × Nat)} (h : RegsKept ws s t) (hs : ws ⊆ vs) : RegsKept vs s t :=
  fun b f hl hw => h b f hl (fun w hm => hw w (hs hm))

/-! ### PPS outputs (R160–R163) -/

theorem State.ppsOut_setPps (hn : n < s.time.pps.length) (o : PpsOut) : (s.setPps n o).ppsOut n = o :=
  listSet_getD_same _ _ _ _ hn

@[simp] theorem State.get_setPps (s : State) (n b : Nat) (o : PpsOut) (f : Fld) : (s.setPps n o).get b f = s.get b f := rfl

/-- The rising edge of an output that pulses, when no step suppresses it. -/
theorem State.ppsRise_eq (hp : s.ppsPulses n = true) (hd : (s.ppsOut n).due = true ∨ s.stepNext = false) :
    ∃ early wait, s.ppsRise n = s.setPps n { s.ppsOut n with
      high := true, rose := s.nowNs, due := false, early := early, ofs := s.ppsOfs n, comp := s.ppsComp n,
      placed := ((s.ppsOut n).shift * 64 + 1000) / 2000,
      drive := ((s.ppsOut n).shift * 64 + 1000) / 2000 * 125 - 4 * s.get (ppsBase n) Rg.PPS_OUTDLY.DLY, meas := wait } := by
  have shown : ¬ ((!s.ppsPulses n) = true ∨ (!(s.ppsOut n).due) = true ∧ s.stepNext = true) := by
    obtain hd | hd := hd
    · simp [hp, hd]
    · simp [hp, hd]
  unfold State.ppsRise
  extract_lets o wait next p
  rw [if_neg shown]
  exact ⟨_, wait, rfl⟩

/-- A measurement asked for on an enabled output of allowed width. -/
theorem State.measure_eq (hn : n < 4) (hw : s.get (ppsBase n) Rg.PPS_CFG.WIDTH ≤ 400000) (he : s.ppsEn n = true) :
    s.measure n = (s.set (ppsBase n) Rg.PPS_CABLE.STATE 4).setPps n { s.ppsOut n with meas := some none, launch := false } := by
  simp only [State.measure, if_neg (show ¬ 3 < n by omega), he, not_lt.2 hw, Bool.not_true, Bool.false_eq_true, or_self, if_false]

/-- Half the time from the launch to the echo, less the fused path delay. -/
def echoDelay (n gap : Nat) : Nat := (rnd 90 ((gap : Int) - 2 * Config.cablePath n) 2).toNat

theorem cableResult_rise {gap : Nat} (hg : gap ≤ 20000000) : cableResult n (.rise gap) = (1, echoDelay n gap) := if_neg (not_lt.2 hg)

/-- The registers and the record of a measurement that saw a rising echo after `gap` ps. -/
def State.cabled (s : State) (n gap : Nat) : State :=
  (s.setPps n { s.ppsOut n with meas := none, launch := false, last := (1, echoDelay n gap) }).sets (ppsBase n)
    [(Rg.PPS_CABLE.DELAY, echoDelay n gap), (Rg.PPS_CABLE.STATE, 1)]

theorem pps_inside {f : Fld} (hn : n < 4) (ho : f.off ≤ 0x300) : n * 0x20 + f.off < 0x1_0000 := by omega

theorem RegsKept.cabled (hn : n < 4) (gap : Nat) : RegsKept [wTime] s (s.cabled n gap) :=
  ((RegsKept.of_cells (t := s.setPps n _) rfl).setTime (by decide) (n * 0x20) _ Rg.PPS_CABLE.DELAY (pps_inside hn (by decide))
    (by decide)).setTime (by decide) (n * 0x20) 1 Rg.PPS_CABLE.STATE (pps_inside hn (by decide)) (by decide)

theorem State.cabled_ppsOut (hn : n < s.time.pps.length) (gap : Nat) :
    (s.cabled n gap).ppsOut n = { s.ppsOut n with meas := none, launch := false, last := (1, echoDelay n gap) } :=
  State.ppsOut_setPps hn _

/-- A rising echo within 20 µs; PPS_CHG is set where the result differs from the last. -/
theorem State.cable_rise {gap : Nat} (hg : gap ≤ 20000000) :
    ∃ chg, s.cable n (.rise gap) = (s.cabled n gap).eventIf chg 8 bTime Rg.TIME_EVT.PPS_CHG := by
  unfold State.cable
  rw [cableResult_rise hg]
  exact ⟨_, rfl⟩

/-! ### Stamps (R158) -/

/-- What a stamp shows in the registers of its channel, at `b`. -/
def State.stampShown (s : State) (b stamp sub : Nat) : State :=
  let t := if s.flag b Rg.TDC_SUB.NEW then (s.set b Rg.TDC_SUB.OVR 1).event 8 bTime Rg.TIME_EVT.TDC_OVR else s
  ((t.set b Rg.TDC_TS.TS stamp).set b Rg.TDC_SUB.SUB sub).event 9 b Rg.TDC_SUB.NEW

/-- A stamp not yet read is lost, which OVR and TDC_OVR show. -/
theorem State.stampShown_eq (s : State) (b stamp sub : Nat) : ∃ u, (u = s ∨ u = (s.set b Rg.TDC_SUB.OVR 1).event 8 bTime Rg.TIME_EVT.TDC_OVR) ∧
    s.stampShown b stamp sub = ((u.set b Rg.TDC_TS.TS stamp).set b Rg.TDC_SUB.SUB sub).event 9 b Rg.TDC_SUB.NEW := by
  unfold State.stampShown
  extract_lets u
  refine ⟨u, ?_, rfl⟩
  by_cases hn : s.flag b Rg.TDC_SUB.NEW = true
  · exact .inr (if_pos hn)
  · exact .inl (if_neg hn)

theorem State.stampShown_shape (s : State) (b stamp sub : Nat) : RegShape s (s.stampShown b stamp sub) := by
  obtain ⟨u, hu, he⟩ := s.stampShown_eq b stamp sub
  have shape : RegShape s u := by
    obtain rfl | rfl := hu
    · exact .refl _
    · exact ((RegShape.refl s).set _ _ _).event _ _ _
  rw [he]
  exact ((shape.set _ _ _).set _ _ _).event _ _ _

theorem RegsKept.stampShown (hk : RegsKept ws s t) (hw : wTime ∈ ws) {ch : Nat} (hc : ch ≤ 12) (stamp sub : Nat) :
    RegsKept ws s (t.stampShown (bTime + ch * 0x10) stamp sub) := by
  have inside {f : Fld} (hf : f.off ≤ 0x108) : ch * 0x10 + f.off < 0x1_0000 := by omega
  obtain ⟨u, hu, he⟩ := t.stampShown_eq (bTime + ch * 0x10) stamp sub
  have kept : RegsKept ws s u := by
    obtain rfl | rfl := hu
    · exact hk
    · exact (hk.setTime hw _ 1 Rg.TDC_SUB.OVR (inside (by decide)) (by decide)).timeEvent hw 8 0 Rg.TIME_EVT.TDC_OVR (by decide) (by decide)
  rw [he]
  exact ((kept.setTime hw _ stamp Rg.TDC_TS.TS (inside (by decide)) (by decide)).setTime hw _ sub Rg.TDC_SUB.SUB (inside (by decide))
    (by decide)).timeEvent hw 9 _ Rg.TDC_SUB.NEW (inside (by decide)) (by decide)

/-- The channel's registers after a stamp. -/
theorem State.get_stampShown (s : State) (b stamp sub : Nat) :
    (s.stampShown b stamp sub).get b Rg.TDC_TS.TS = stamp % 2 ^ 64 ∧ (s.stampShown b stamp sub).get b Rg.TDC_SUB.SUB = sub % 2 ^ 8 ∧
      (s.stampShown b stamp sub).get b Rg.TDC_SUB.NEW = 1 := by
  have apart {f g : Fld} (h : f.off * 64 + f.lo ≠ g.off * 64 + g.lo) : fldKey f b ≠ fldKey g b := by
    unfold fldKey
    omega
  obtain ⟨u, -, he⟩ := s.stampShown_eq b stamp sub
  rw [he]
  refine ⟨?_, ?_, State.get_event_same _ _ _ _ (by decide)⟩
  · rw [State.get_event_ne _ _ _ _ _ _ (apart (by decide)), State.get_set_off _ _ _ _ _ (by decide), State.get_set_same]
    rfl
  · rw [State.get_event_ne _ _ _ _ _ _ (apart (by decide)), State.get_set_same]
    rfl

theorem State.ppsStamp_eq (s : State) (at_ : Nat) : ∃ d, s.ppsStamp at_ = { s with time := d } := ⟨_, rfl⟩

theorem State.fly_eq (s : State) (x : Stamp) : ∃ d, s.fly x = { s with time := d } := ⟨_, rfl⟩

/-- The first edge of the channel's polarity is stamped; beside its registers only the time core's inner state changes. -/
theorem State.tdc_eq {ch : Nat} {falling : Bool} (hc : ch ≤ 12) (hp : s.flag (bTime + ch * 0x10) Rg.TDC_SUB.POL = falling)
    (he : s.time.edges.getD ch (none, none) = (none, none)) (stamp sub : Nat) :
    s.tdcTakes ch falling (stamp * 256 + sub % 256) = true ∧
      ∃ c d, s.tdc ch falling stamp sub = { State.stampShown { s with time := c } (bTime + ch * 0x10) stamp sub with time := d } := by
  have takes : s.tdcTakes ch falling (stamp * 256 + sub % 256) = true := by
    rw [State.tdcTakes, he, hp]
    cases falling <;> simp [hc]
  refine ⟨takes, ?_⟩
  have sameEdge : (s.flag (bTime + ch * 0x10) Rg.TDC_SUB.POL != falling) = false := by rw [hp, bne_self_eq_false]
  have taken : (!s.tdcTakes ch falling (stamp * 256 + sub % 256)) = false := by rw [takes]; rfl
  unfold State.tdc
  extract_lets b e at_ old t
  rw [if_neg (not_lt.2 hc), sameEdge, taken]
  show ∃ c d, (if ch = 0 then (t.stampShown b stamp sub).ppsStamp stamp
    else (t.stampShown b stamp sub).fly ⟨ch, stamp, sub % 256, (t.stampShown b stamp sub).get bTime Rg.TIME_STAT.GEN⟩) = _
  by_cases h0 : ch = 0
  · obtain ⟨d, h⟩ := (t.stampShown b stamp sub).ppsStamp_eq stamp
    exact ⟨t.time, d, (if_pos h0).trans h⟩
  · obtain ⟨d, h⟩ := (t.stampShown b stamp sub).fly_eq ⟨ch, stamp, sub % 256, (t.stampShown b stamp sub).get bTime Rg.TIME_STAT.GEN⟩
    exact ⟨t.time, d, (if_neg h0).trans h⟩

/-! ### Samples of the loops (R167) -/

theorem State.leaveHold_eq (s : State) (l : Nat) : ∃ c k, s.leaveHold l = { s with cells := c, loops := k } := by
  unfold State.leaveHold
  extract_lets b auto
  split
  · exact ⟨_, _, rfl⟩
  · exact ⟨_, _, rfl⟩

theorem State.pvSample_eq (s : State) (l : Nat) : ∃ c k, s.pvSample l = { s with cells := c, loops := k } := by
  unfold State.pvSample
  extract_lets _ t c
  obtain ⟨c', k, h⟩ := ((t.set (lpBase l) Rg.LP_STAT.STALE 0).set (lpBase l) Rg.LP_STAT.HOLD_CAUSE (c / 2 * 2)).leaveHold_eq l
  exact ⟨c', k, h⟩

theorem State.offer_eq (s : State) (code idx l : Nat) : ∃ c k, s.offer code idx l = { s with cells := c, loops := k } := by
  unfold State.offer
  extract_lets b
  split
  · exact s.pvSample_eq l
  · exact ⟨_, _, rfl⟩

/-- A register of a loop. -/
theorem RegsKept.setLoop (hk : RegsKept ws s t) (hw : wTiles ∈ ws) (l v : Nat) (f : Fld) (ho : f.off < 0x4000) (hl : f.lo < 64) :
    RegsKept ws s (t.set (lpBase l) f v) :=
  hk.setTile hw .loop _ _ v f (by have := Nat.mod_lt l (show 0 < tileLanes .loop by decide); simp only [tileLanes] at *; omega) hl

theorem RegsKept.offer (hk : RegsKept ws s t) (hw : wTiles ∈ ws) (code idx l : Nat) : RegsKept ws s (t.offer code idx l) := by
  have leaveHold {u : State} (hu : RegsKept ws s u) : RegsKept ws s (u.leaveHold l) := by
    unfold State.leaveHold
    extract_lets b auto
    split
    · exact (hu.setLoop hw l _ Rg.LP_STAT.STATE (by decide) (by decide)).cells rfl
    · exact hu
  unfold State.offer
  extract_lets b
  split
  · refine leaveHold (RegsKept.setLoop (RegsKept.setLoop (hk.cells ?_) hw l _ Rg.LP_STAT.STALE (by decide) (by decide)) hw l _
      Rg.LP_STAT.HOLD_CAUSE (by decide) (by decide))
    rfl
  · exact hk

theorem offerAll_eq (code idx l n : Nat) : ∀ s : State, ∃ c k, offerAll code idx l n s = { s with cells := c, loops := k } := by
  induction n with
  | zero => exact fun s => ⟨_, _, rfl⟩
  | succ n ih =>
    intro s
    obtain ⟨c, k, ho⟩ := s.offer_eq code idx (l + n)
    obtain ⟨c', k', ht⟩ := ih (s.offer code idx (l + n))
    exact ⟨c', k', by rw [offerAll, ht, ho]⟩

theorem RegsKept.offerAll (hw : wTiles ∈ ws) (code idx l n : Nat) :
    ∀ t : State, RegsKept ws s t → RegsKept ws s (Machine.offerAll code idx l n t) := by
  induction n with
  | zero => exact fun t hk => hk
  | succ n ih => exact fun t hk => ih _ (hk.offer hw code idx (l + n))

/-- A sample of a TDC channel reaches the loops that take it. -/
theorem State.tdcSample_eq (s : State) (x : Stamp) : ∃ c k m, s.tdcSample x = { s with cells := c, loops := k, samples := m } := by
  obtain ⟨c, k, h⟩ := offerAll_eq 1 x.chan 0 64 { s with samples := assocSet (1 * 128 + x.chan) (s.phaseOf x * 256) s.samples }
  exact ⟨c, k, _, h⟩

theorem RegsKept.tdcSample (hk : RegsKept ws s t) (hw : wTiles ∈ ws) (x : Stamp) : RegsKept ws s (t.tdcSample x) :=
  RegsKept.offerAll hw 1 x.chan 0 64 _ (hk.cells rfl)

theorem RegsKept.setStop (hk : RegsKept ws s t) (k : Stop) : RegsKept ws s { t with stop := k } := hk.cells rfl

theorem State.sfdSeen_eq (s : State) (p stamp sub : Nat) : ∃ k, s.sfdSeen p stamp sub = { s with stop := k } := by
  unfold State.sfdSeen
  extract_lets shr b a m
  split
  · exact ⟨_, rfl⟩
  · exact ⟨_, rfl⟩

/-- The supervisor sees the stamps of the radio ports alone. -/
theorem State.sfdSeenIf_eq (s : State) (c : Prop) [Decidable c] (p stamp sub : Nat) :
    ∃ k, (if c then s.sfdSeen p stamp sub else s) = { s with stop := k } := by
  by_cases h : c
  · rw [if_pos h]
    exact s.sfdSeen_eq p stamp sub
  · rw [if_neg h]
    exact ⟨_, rfl⟩

/-- TDC_EDGE on a fitted channel whose edge is stamped: the sample reaches the loops, and the supervisor where the channel is a
radio port's. -/
theorem execTdcEdge_eq {ch stamp sub : Nat} {falling : Bool} (hr : s.timeRuns = true) (hf : s.tdcFitted ch = true)
    (ht : s.tdcTakes ch falling (stamp * 256 + sub % 256) = true) :
    ∃ x k, exec (.tdcEdge ch falling stamp sub) s = .next { (s.tdc ch falling stamp sub).tdcSample x with stop := k } := by
  refine ⟨⟨ch, stamp, sub % 256, (s.tdc ch falling stamp sub).get bTime Rg.TIME_STAT.GEN⟩, ?_⟩
  show ∃ k, execTdcEdge ch falling stamp sub s = _
  rw [execTdcEdge, if_pos ⟨hr, hf⟩]
  obtain ⟨k, h⟩ := State.sfdSeenIf_eq ((s.tdc ch falling stamp sub).tdcSample
    ⟨ch, stamp, sub % 256, (s.tdc ch falling stamp sub).get bTime Rg.TIME_STAT.GEN⟩) (5 ≤ ch) (ch - 5) stamp (sub % 256)
  exact ⟨k, congrArg _ ((if_pos ht).trans h)⟩

/-- What a stamped edge leaves: its registers, what the time core, the loops and the supervisor keep, and nothing else. -/
theorem Frame.tdcEdge {u : State} {c d : TimeCore} {k : Stop} (hu : RegShape { s with time := c } u) (hk : RegsKept ws s u) (hw : wTiles ∈ ws)
    (x : Stamp) (ht : t = { State.tdcSample { u with time := d } x with stop := k }) :
    Frame ws s t { s with cells := t.cells, time := t.time, toggles := t.toggles, loops := t.loops, samples := t.samples, stop := t.stop } := by
  obtain ⟨c1, l, m, hm⟩ := State.tdcSample_eq { u with time := d } x
  have before : RegsKept ws s { u with time := d } := hk.cells rfl
  have kept := before.tdcSample hw x
  obtain ⟨c2, g, rfl⟩ := hu
  rw [hm] at ht kept
  rw [ht]
  exact ⟨rfl, .of_mem rfl, kept.cells rfl⟩

/-! ### Delivery of stamps (R51, R337) -/

/-- Register fields, pending toggles and the engines' records apart, `t` is `s`. -/
def EngineShape (s t : State) : Prop := ∃ c g k, t = { s with cells := c, toggles := g, engines := k }

theorem EngineShape.shape {u : State} (h : EngineShape s t) (hu : RegShape t u) : EngineShape s u := by
  obtain ⟨c, g, k, rfl⟩ := h
  obtain ⟨c', g', rfl⟩ := hu
  exact ⟨c', g', k, rfl⟩

theorem EngineShape.setEng (h : EngineShape s t) (e : Nat) (x : Engine) : EngineShape s (t.setEng e x) := by
  obtain ⟨c, g, k, rfl⟩ := h
  exact ⟨c, g, _, rfl⟩

theorem EngineShape.sendTrig (h : EngineShape s t) (e : Nat) (x : Trig) : EngineShape s (t.sendTrig e x) := by
  unfold State.sendTrig
  split
  · exact h.setEng _ _
  · exact h

theorem State.tgEvent_shape (s : State) (e : Nat) (f : Fld) : RegShape s (s.tgEvent e f) := by
  unfold State.tgEvent
  split
  · exact .refl s
  · exact (((RegShape.refl s).set _ _ _).toggle _).toggle _

theorem EngineShape.tgMissed (h : EngineShape s t) (e at_ : Nat) : EngineShape s (t.tgMissed e at_) := by
  unfold State.tgMissed
  extract_lets x t1 t2
  have first : EngineShape s t2 := by
    have missed : EngineShape s t1 := h.setEng _ _
    by_cases hx : x.missed = 0
    · rw [show t2 = t1.set (tgBase e) Rg.TG_MISS_TS.AT at_ from if_pos hx]
      exact missed.shape ((RegShape.refl _).set _ _ _)
    · rwa [show t2 = t1 from if_neg hx]
  exact (first.shape ((RegShape.refl _).set _ _ _)).shape (State.tgEvent_shape _ _ _)

/-- A register of an engine. -/
theorem RegsKept.setEngine (hk : RegsKept ws s t) (hw : wTiles ∈ ws) (e v : Nat) (f : Fld) (ho : f.off < 0x4000) (hl : f.lo < 64) :
    RegsKept ws s (t.set (tgBase e) f v) :=
  hk.setTile hw .trig _ _ v f (by have := Nat.mod_lt e (show 0 < tileLanes .trig by decide); simp only [tileLanes] at *; omega) hl

theorem RegsKept.sendTrig (hk : RegsKept ws s t) (e : Nat) (x : Trig) : RegsKept ws s (t.sendTrig e x) := by
  unfold State.sendTrig
  split
  · exact hk.cells rfl
  · exact hk

theorem RegsKept.tgMissed (hk : RegsKept ws s t) (hw : wTiles ∈ ws) (e at_ : Nat) : RegsKept ws s (t.tgMissed e at_) := by
  unfold State.tgMissed
  extract_lets x t1 t2
  have first : RegsKept ws s t2 := by
    have missed : RegsKept ws s t1 := hk.cells rfl
    by_cases hx : x.missed = 0
    · rw [show t2 = t1.set (tgBase e) Rg.TG_MISS_TS.AT at_ from if_pos hx]
      exact missed.setEngine hw e at_ Rg.TG_MISS_TS.AT (by decide) (by decide)
    · rwa [show t2 = t1 from if_neg hx]
  have counted : RegsKept ws s (t2.count (tgBase e) Rg.TG_MISS.MISSED 1) :=
    first.setEngine hw e _ Rg.TG_MISS.MISSED (by decide) (by decide)
  unfold State.tgEvent
  split
  · exact counted
  · refine (counted.setEngine hw e 1 Rg.TG_EVT.MISSED (by decide) (by decide)).cells ?_
    rw [State.toggle_cells, State.toggle_cells]

/-- A stamp reaches the engines of a TRIG tile: it is sent to one, missed by it, or passes it by. -/
theorem tdcTrig_keeps (s : State) (pos : Nat) (x : Stamp) :
    EngineShape s (s.tdcTrig pos x) ∧ RegsKept [wTiles] s (s.tdcTrig pos x) := by
  have same : EngineShape s s ∧ RegsKept [wTiles] s s := ⟨⟨_, _, _, rfl⟩, .refl _ _⟩
  unfold State.tdcTrig
  split
  · split
    · refine List.foldlRecOn (motive := fun t => EngineShape s t ∧ RegsKept [wTiles] s t) (List.range 4) _ same
        (fun t ⟨shape, kept⟩ k _ => ?_)
      extract_lets e
      split
      · exact ⟨shape.sendTrig _ _, kept.sendTrig _ _⟩
      · split
        · exact ⟨shape.tgMissed _ _, kept.tgMissed (by decide) _ _⟩
        · exact ⟨shape, kept⟩
    · exact same
  · exact same

theorem rpBase_in_wRadio {p off : Nat} (hp : p < 8) (ho : off < 0x9000) :
    wRadio.1 ≤ (rpBase p + off) % 2 ^ 48 ∧ (rpBase p + off) % 2 ^ 48 < wRadio.2 := by
  simp only [rpBase, bRadio, wRadio]
  omega

/-- A stamp of a radio port's channel in its lane: a late frame is counted and shown in the port's registers. -/
theorem sfdStamp_keeps (s : State) (x : Stamp) : (∃ c g r, s.sfdStamp x = { s with cells := c, toggles := g, radio := r }) ∧
    RegsKept [wRadio] s (s.sfdStamp x) := by
  unfold State.sfdStamp
  extract_lets p fine shr l early
  split
  · exact ⟨⟨_, _, _, rfl⟩, .refl _ _⟩
  · next hx =>
    have hp : p < 8 := by omega
    split
    · exact ⟨⟨_, _, _, rfl⟩, .of_cells rfl⟩
    · next f _ =>
      extract_lets t
      have kept : RegsKept [wRadio] s t := .of_cells rfl
      split
      · obtain ⟨c, g, h⟩ := ((RegShape.refl t).set (rpBase p) Rg.RP_CNT.TX_LATE (satAdd Rg.RP_CNT.TX_LATE.w (t.get (rpBase p)
          Rg.RP_CNT.TX_LATE) 1)).event 29 (rpBase p) Rg.RP_EVT.TX_LATE
        exact ⟨⟨c, g, _, h⟩, (kept.set _ _ Rg.RP_CNT.TX_LATE wRadio (by decide) (rpBase_in_wRadio hp (by decide)).1
          (rpBase_in_wRadio hp (by decide)).2 (by decide)).event _ _ _ wRadio (by decide)
          (rpBase_in_wRadio hp (by decide)).1 (rpBase_in_wRadio hp (by decide)).2 (by decide)⟩
      · exact ⟨⟨_, _, _, rfl⟩, kept⟩

theorem sfdStampIf_keeps (s : State) (c : Prop) [Decidable c] (x : Stamp) :
    (∃ k g r, (if c then s.sfdStamp x else s) = { s with cells := k, toggles := g, radio := r }) ∧
      RegsKept [wRadio] s (if c then s.sfdStamp x else s) := by
  by_cases h : c
  · rw [if_pos h]
    exact sfdStamp_keeps s x
  · rw [if_neg h]
    exact ⟨⟨_, _, _, rfl⟩, .refl _ _⟩

/-- What a delivered stamp leaves in the engines and the radio ports, once it stands among those that arrived. -/
theorem Frame.delivered {c : TimeCore} {u v : State} (hu : EngineShape { s with time := c } u) (hk : RegsKept [wTiles] { s with time := c } u)
    (hv : ∃ k g r, v = { u with cells := k, toggles := g, radio := r }) (hk' : RegsKept [wRadio] u v) : v.time = c ∧
      Frame [wTiles, wRadio] s v { s with cells := v.cells, time := v.time, toggles := v.toggles, radio := v.radio, engines := v.engines } := by
  have kept : RegsKept [wTiles, wRadio] { s with time := c } v := (hk.mono (by decide)).trans (hk'.mono (by decide))
  obtain ⟨_, _, _, rfl⟩ := hu
  obtain ⟨_, _, _, rfl⟩ := hv
  exact ⟨rfl, rfl, .of_mem rfl, kept⟩

end Sys2Proof.Machine

open Sys2Proof Sys2Proof.Machine

/-- Settles O25: a stamp stands in its channel's registers and what it reaches later lies in other windows; the pulse outputs and the
cable measurements follow their rules. -/
theorem stampsAndPulses : Obligations.StampsAndPulses := by
  refine ⟨fun ch stamp sub falling s ⟨hr, hc, hf, hp, he⟩ => ?edge, fun pos y s hy => ?delivery,
    fun n s ⟨hn, hl, hr, hready, hp⟩ hd => ?rise, fun n s ⟨hn, hl, hh, hw⟩ => ?fall,
    fun m n s ⟨hm, hon, hn, hl⟩ ⟨hw, hen⟩ => ⟨_, rfl, ?measure⟩, fun n a s ⟨hn, hl, hm, ha, hb, hmv⟩ => ?launch,
    fun n gap s ⟨hn, hl, hb, hg⟩ => ?result⟩
  case edge =>
    obtain ⟨takes, c, d, ht⟩ := State.tdc_eq hc hp he stamp sub
    obtain ⟨x, k, hx⟩ := execTdcEdge_eq hr hf takes
    have kept : RegsKept [wTime, wTiles] s (State.stampShown { s with time := c } (bTime + ch * 0x10) stamp sub) :=
      RegsKept.stampShown (.of_cells rfl) (by decide) hc stamp sub
    have shape := State.stampShown_shape { s with time := c } (bTime + ch * 0x10) stamp sub
    obtain ⟨hts, hsub, hnew⟩ := State.get_stampShown { s with time := c } (bTime + ch * 0x10) stamp sub
    rw [ht] at hx
    generalize State.stampShown { s with time := c } (bTime + ch * 0x10) stamp sub = u at *
    have before : RegsKept [wTiles] u { u with time := d } := .of_cells rfl
    have later : RegsKept [wTiles] u { State.tdcSample { u with time := d } x with stop := k } :=
      (before.tdcSample (by decide) x).setStop k
    have apart {f : Fld} (ho : f.off ≤ 0x108) : ∀ w ∈ [wTiles], ¬ (w.1 ≤ (bTime + ch * 0x10 + f.off) % 2 ^ 48 ∧
        (bTime + ch * 0x10 + f.off) % 2 ^ 48 < w.2) := by
      simp only [List.mem_singleton, forall_eq, bTime, wTiles]
      omega
    exact ⟨_, hx, (later _ Rg.TDC_TS.TS (by decide) (apart (by decide))).trans hts,
      (later _ Rg.TDC_SUB.SUB (by decide) (apart (by decide))).trans hsub,
      (later _ Rg.TDC_SUB.NEW (by decide) (apart (by decide))).trans hnew, Frame.tdcEdge shape kept (by decide) x rfl⟩
  case delivery =>
    have delivered : exec (.stampDelivery pos) s = .next (if 5 ≤ y.2.chan ∧ macPos (y.2.chan - 5) = pos
        then ((s.deliver pos y).tdcTrig pos y.2).sfdStamp y.2 else (s.deliver pos y).tdcTrig pos y.2) := by
      show execStampDelivery pos s = _
      rw [execStampDelivery, hy]
    obtain ⟨shape, kept⟩ := tdcTrig_keeps (s.deliver pos y) pos y.2
    obtain ⟨shape', kept'⟩ := sfdStampIf_keeps ((s.deliver pos y).tdcTrig pos y.2)
      (5 ≤ y.2.chan ∧ macPos (y.2.chan - 5) = pos) y.2
    exact ⟨_, delivered, Frame.delivered shape kept shape' kept'⟩
  case rise =>
    obtain ⟨early, wait, h⟩ := State.ppsRise_eq hp hd
    have rises : exec (.ppsOutputEdge n) s = .next (s.ppsRise n) := if_pos ⟨hn, hr, hready⟩
    refine ⟨_, rises, ?_⟩
    rw [h, State.ppsOut_setPps hl]
    exact ⟨rfl, rfl, rfl, rfl, rfl, rfl, rfl, .of_mem rfl, .of_cells rfl⟩
  case fall =>
    have falls : exec (.ppsPulseEnd n) s = .next (s.setPps n { s.ppsOut n with high := false }) := if_pos ⟨hn, hh, hw⟩
    exact ⟨_, falls, State.ppsOut_setPps hl _, rfl, .of_mem rfl, .of_cells rfl⟩
  case measure =>
    rw [State.timeWrite_ok hm hon, State.measure_eq hn hw hen]
    refine ⟨?_, ?_, ?_, rfl, .of_mem rfl, ?_⟩
    · rw [State.get_answer, State.get_setPps, State.get_set_same]
      rfl
    · exact congrArg PpsOut.meas (State.ppsOut_setPps (s := s.set (ppsBase n) Rg.PPS_CABLE.STATE 4) hl _)
    · exact congrArg PpsOut.launch (State.ppsOut_setPps (s := s.set (ppsBase n) Rg.PPS_CABLE.STATE 4) hl _)
    · exact ((RegsKept.refl _ s).setTime (by decide) (n * 0x20) 4 Rg.PPS_CABLE.STATE (pps_inside hn (by decide)) (by decide)).cells
        (State.answer_cells _ _ _)
  case launch =>
    have launches : exec (.cableLaunch n) s = .next (s.setPps n { s.ppsOut n with launch := true }) := by
      show execCableLaunch n s = _
      simp [execCableLaunch, hm, hn, ha, hb, hmv]
    exact ⟨_, launches, State.ppsOut_setPps hl _, rfl, .of_mem rfl, .of_cells rfl⟩
  case result =>
    obtain ⟨chg, h⟩ := State.cable_rise (s := s) (n := n) hg
    have echoes : exec (.cableResult n (.rise gap)) s = .next (s.cable n (.rise gap)) := if_pos ⟨hn, hb⟩
    refine ⟨_, echoes, ?_⟩
    obtain ⟨c, g, hc⟩ := (RegShape.refl (s.cabled n gap)).eventIf chg 8 bTime Rg.TIME_EVT.PPS_CHG
    have apart {f : Fld} (ho : 0x200 ≤ f.off) : fldKey f (ppsBase n) ≠ fldKey Rg.TIME_EVT.PPS_CHG bTime := by
      simp only [fldKey, ppsBase, Rg.TIME_EVT.PPS_CHG]
      omega
    have kept : RegsKept [wTime] s ((s.cabled n gap).eventIf chg 8 bTime Rg.TIME_EVT.PPS_CHG) :=
      (RegsKept.cabled hn gap).eventIf chg 8 bTime _ wTime (by decide) (by decide) (by decide) (by decide)
    rw [h]
    refine ⟨?_, ?_, ?_⟩
    · rw [State.get_eventIf_ne _ _ _ _ _ _ _ (apart (by decide)), State.cabled, State.get_sets (by rfl)]
      rfl
    · rw [State.get_eventIf_ne _ _ _ _ _ _ _ (apart (by decide)), State.cabled, State.get_sets (by rfl)]
      rfl
    rw [hc] at kept ⊢
    have out := s.cabled_ppsOut hl gap
    exact ⟨congrArg PpsOut.meas out, congrArg PpsOut.launch out, congrArg PpsOut.last out, rfl, .of_mem rfl, kept⟩

end

section
/-! PROOF. Mode changes (R112–R114). -/

set_option Elab.async false

namespace Sys2Proof.Machine

variable {s : State}

@[simp] theorem State.showEpoch_modes (s : State) (l : List Nat) : (s.showEpoch l).modes = s.modes :=
  List.foldlRecOn (motive := fun t : State => t.modes = s.modes) l _ rfl fun _ ht _ _ => ht

@[simp] theorem State.skewClear_modes (s : State) : s.skewClear.modes = s.modes := by
  unfold State.skewClear
  split
  · rfl
  · rfl

/-- An island that has applied the present mode late is behind no more. -/
theorem State.fst_ne_of_mem_applyLate_behind {isl : Nat} {x : Nat × Mode} (hx : x ∈ (s.applyLate isl).modes.behind) : x.1 ≠ isl := by
  unfold State.applyLate at hx
  split at hx
  · next hf => simpa using List.find?_eq_none.1 hf x hx
  · exact bne_iff_ne.1 (List.mem_filter.1 hx).2

/-- LATE_APPLY of a participant that lags past the commit instant leaves the modes as the late change does. -/
theorem execLateApply_modes {isl k : Nat} {c : Change} (hc : s.modes.change = some c) (hp : c.parts.contains isl = true)
    (hk : c.commit = some k) (hn : k ≤ s.now) (hi : isl < 44) (hl : s.lagging [isl] ≠ []) :
    ∃ t, exec (.lateApply isl) s = .next t ∧ t.modes = (s.applyLate isl).modes := by
  have due : (c.parts.contains isl && c.commit.any (fun j => decide (j ≤ s.now))) = true := by
    rw [hp, hk, Option.any_some, decide_eq_true hn, Bool.and_self]
  show ∃ t, execLateApply isl s = .next t ∧ t.modes = (s.applyLate isl).modes
  rw [execLateApply, hc]
  refine ⟨_, if_pos ⟨due, hi, hl⟩, ?_⟩
  rw [State.skewClear_modes, State.event_modes, State.set_modes, State.event_modes, State.showEpoch_modes]

/-- The reset state with MGMT powered, in HOLDOVER after the commit instant of a change from SERVICE under epoch 1, which island 4 has not
applied. -/
def State.islandBehind : State :=
  let s := { State.mgmtUp with modes := { State.reset.modes with
    change := some ⟨.holdover, 2, .service, [4], [4], some 0, false, 0⟩, behind := [(4, .service)] } }
  s.sets bMpc [(Rg.MODE_STAT.MODE, 3), (Rg.MODE_STAT.CHANGING, 1), (Rg.MODE_STAT.TARGET, 3), (Rg.MODE_STAT.EPOCH, 1)]

end Sys2Proof.Machine

open Sys2Proof Sys2Proof.Machine

/-- Refutes O14: the frame of its clause on LATE_APPLY keeps `State.modes`, which lists the islands behind the present mode. An island
that missed the commit of a change from SERVICE to HOLDOVER stands in that list, and applying the change late takes it out (R114). -/
theorem not_modeChangesRunTheirSteps : ¬ Obligations.ModeChangesRunTheirSteps := by
  intro h
  obtain ⟨-, -, -, -, -, -, lateApply, -⟩ := h
  have lags : 4 < 44 ∧ State.islandBehind.lagging [4] ≠ [] := by decide +kernel
  obtain ⟨t, ht, -, -, -, -, frame, -⟩ := lateApply 4 _ 0 State.islandBehind ⟨rfl, rfl, rfl, by decide⟩ lags
  obtain ⟨u, hu, modes⟩ := execLateApply_modes (s := State.islandBehind) rfl rfl rfl (by decide) lags.1 lags.2
  obtain rfl : t = u := Host.Outcome.next.inj (ht.symm.trans hu)
  have kept : t.modes = State.islandBehind.modes := (congrArg State.modes frame :)
  have behind : (4, Mode.service) ∈ t.modes.behind := by rw [kept]; exact List.mem_singleton.2 rfl
  rw [modes] at behind
  exact State.fst_ne_of_mem_applyLate_behind behind rfl

end

section
/-! SUPPORT. The registers of the mode controller, PREPARE, record requests, and what the frame of a command says of the mode. -/

set_option Elab.async false

namespace Sys2Proof.Machine

variable {s t : State} {ws : List (Nat × Nat)}

/-! ### Registers of the mode controller -/

theorem bMpc_in_wMpc {off : Nat} (ho : off < 0x1_0000) : wMpc.1 ≤ (bMpc + off) % 2 ^ 48 ∧ (bMpc + off) % 2 ^ 48 < wMpc.2 := by
  simp only [bMpc, wMpc]
  omega

theorem RegsKept.setMpc (hk : RegsKept ws s t) (hw : wMpc ∈ ws) (f : Fld) (v : Nat) (ho : f.off < 0x1_0000) (hl : f.lo < 64) :
    RegsKept ws s (t.set bMpc f v) :=
  hk.set _ _ _ wMpc hw (bMpc_in_wMpc ho).1 (bMpc_in_wMpc ho).2 hl

theorem RegsKept.mpcEvent (hk : RegsKept ws s t) (hw : wMpc ∈ ws) (ev : Nat) (f : Fld) (ho : f.off < 0x1_0000) (hl : f.lo < 64) :
    RegsKept ws s (t.event ev bMpc f) :=
  hk.event _ _ _ wMpc hw (bMpc_in_wMpc ho).1 (bMpc_in_wMpc ho).2 hl

theorem RegsKept.setsMpc (hk : RegsKept ws s t) (hw : wMpc ∈ ws) {l : List (Fld × Nat)}
    (hl : l.all (fun p => decide (p.1.off < 0x1_0000 ∧ p.1.lo < 64)) = true) : RegsKept ws s (t.sets bMpc l) := by
  induction l generalizing t with
  | nil => exact hk
  | cons p l ih =>
    obtain ⟨hp, hl⟩ := Bool.and_eq_true_iff.1 hl
    obtain ⟨ho, hlo⟩ := of_decide_eq_true hp
    exact ih (hk.setMpc hw p.1 p.2 ho hlo) hl

/-- A register of the mode controller reads as before where its window is left alone. -/
theorem RegsKept.get_mpc (hk : RegsKept ws s t) (hw : ∀ w ∈ ws, w.2 ≤ wMpc.1 ∨ wMpc.2 ≤ w.1) (f : Fld) (ho : f.off < 0x1_0000)
    (hl : f.lo < 64) : t.get bMpc f = s.get bMpc f := by
  obtain ⟨low, high⟩ := bMpc_in_wMpc ho
  refine hk bMpc f hl fun w hm h => ?_
  have apart := hw w hm
  omega

theorem RegsKept.mode_eq (hk : RegsKept ws s t) (hw : ∀ w ∈ ws, w.2 ≤ wMpc.1 ∨ wMpc.2 ≤ w.1) : t.mode = s.mode :=
  congrArg Mode.ofCode (hk.get_mpc hw Rg.MODE_STAT.MODE (by decide) (by decide))

/-! ### PREPARE (R112) -/

/-- The registers that PREPARE writes. -/
def State.prepared (s : State) (target : Mode) : State :=
  s.sets bMpc [(Rg.MODE_STAT.EPOCH, s.epoch + 1), (Rg.MODE_STAT.CHANGING, 1), (Rg.MODE_STAT.TARGET, target.code),
    (Rg.MODE_LATE.ISLANDS, 0), (Rg.MODE_SKEWED.ISLANDS, 0)]

/-- The change that PREPARE starts. -/
def State.newChange (s : State) (target : Mode) (cause : Nat) (dirty : Bool) : Change :=
  ⟨target, cause, s.mode, s.participants, [], none, dirty, s.now⟩

theorem State.prepare_eq (s : State) (target : Mode) (cause : Nat) (dirty : Bool) : s.prepare target cause dirty =
    { s.prepared target with modes := { s.modes with change := some (s.newChange target cause dirty), sleep := none },
                             power := { s.power with dormPrep := target == .dormant } } := by
  unfold State.prepare State.prepared State.newChange
  simp only [State.sets_modes, State.sets_power]

theorem State.prepare_cells (s : State) (target : Mode) (cause : Nat) (dirty : Bool) :
    (s.prepare target cause dirty).cells = (s.prepared target).cells := by rw [State.prepare_eq]

@[simp] theorem State.get_prepare (s : State) (target : Mode) (cause : Nat) (dirty : Bool) (b : Nat) (f : Fld) :
    (s.prepare target cause dirty).get b f = (s.prepared target).get b f :=
  State.get_congr_cells _ _ (s.prepare_cells target cause dirty) b f

theorem RegsKept.prepare (hk : RegsKept ws s t) (hw : wMpc ∈ ws) (target : Mode) (cause : Nat) (dirty : Bool) :
    RegsKept ws s (t.prepare target cause dirty) :=
  (hk.setsMpc hw (by rfl)).cells (t.prepare_cells target cause dirty)

theorem RegShape.sets (h : RegShape s t) (b : Nat) (l : List (Fld × Nat)) : RegShape s (t.sets b l) := by
  induction l generalizing t with
  | nil => exact h
  | cons p l ih => exact ih (h.set b p.1 p.2)

/-- What PREPARE leaves beside the registers of the mode controller. -/
theorem State.prepare_shape (s : State) (target : Mode) (cause : Nat) (dirty : Bool) : ∃ c g m p,
    s.prepare target cause dirty = { s with cells := c, toggles := g, modes := m, power := p } := by
  obtain ⟨c, g, hc⟩ : RegShape s (s.prepared target) := (RegShape.refl s).sets _ _
  rw [State.prepare_eq, hc]
  exact ⟨_, _, _, _, rfl⟩

theorem State.prepared_mem (s : State) (target : Mode) : (s.prepared target).mem = s.mem := State.sets_mem _ _ _

theorem State.prepare_mem (s : State) (target : Mode) (cause : Nat) (dirty : Bool) : (s.prepare target cause dirty).mem = s.mem := by
  have same : (s.prepare target cause dirty).mem = (s.prepared target).mem := by rw [State.prepare_eq]
  rw [same, State.prepared_mem]

@[simp] theorem State.modeRes_mem (s : State) (r : Nat) : (s.modeRes r).mem = s.mem := rfl
@[simp] theorem State.modeRes_modes (s : State) (r : Nat) : (s.modeRes r).modes = s.modes := rfl

/-- A request that passes its check while MP is not busy, for another mode than DORMANT. -/
theorem State.modeReq_eq {code cause : Nat} (hb : s.modeBusy = false) (hc : code ≤ 5) (hr : s.modeCheck (.ofCode code) cause = 0)
    (ht : Mode.ofCode code ≠ .dormant) : s.modeReq code cause = (s.prepare (.ofCode code) cause false).modeRes 5 := by
  have check : s.modeCheckAs (.ofCode code) cause .any = 0 := hr
  simp [State.modeReq, State.modeAsk, hb, not_lt.2 hc, check, State.modeBegin, ht]

/-! ### Records -/

/-- Register fields, pending toggles and the recorder apart, `t` is `s`. -/
def RecShape (s t : State) : Prop := ∃ c g l, t = { s with cells := c, toggles := g, log := l }

theorem RecShape.refl (s : State) : RecShape s s := ⟨_, _, _, rfl⟩

theorem RecShape.shape {u : State} (h : RecShape s t) (hu : RegShape t u) : RecShape s u := by
  obtain ⟨c, g, l, rfl⟩ := h
  obtain ⟨c', g', rfl⟩ := hu
  exact ⟨c', g', l, rfl⟩

theorem RecShape.request (h : RecShape s t) (r : RecReq) : RecShape s (t.request r) := by
  obtain ⟨c, g, l, rfl⟩ := h
  unfold State.request
  split
  · split
    · obtain ⟨c', g', h⟩ := ((RegShape.refl { s with cells := c, toggles := g, log := l }).set bRc Rg.RC_LOSS.INPUT
        (satAdd Rg.RC_LOSS.INPUT.w (State.get { s with cells := c, toggles := g, log := l } bRc Rg.RC_LOSS.INPUT) 1)).event 17 bRc
        Rg.RC_EVT.LOSS
      exact ⟨c', g', _, congrArg (fun u : State => { u with log := { l with loss := true } }) h⟩
    · exact ⟨c, g, _, rfl⟩
  · split
    · exact ⟨c, g, _, rfl⟩
    · exact ⟨c, g, l, rfl⟩

theorem RecShape.raise (h : RecShape s t) (code sev ev : Nat) (data : List Byte) : RecShape s (t.raise code sev ev data) :=
  (h.shape ((RegShape.refl t).toggle ev)).request _

theorem RegsKept.raise (hk : RegsKept ws s t) (hw : wRc ∈ ws) (code sev ev : Nat) (data : List Byte) :
    RegsKept ws s (t.raise code sev ev data) :=
  RegsKept.request (hk.cells (State.toggle_cells _ _)) _ hw

/-- A record touches no register outside the recorder. -/
theorem State.get_raise (s : State) (code sev ev : Nat) (data : List Byte) {b : Nat} {f : Fld}
    (h1 : fldKey f b ≠ fldKey Rg.RC_LOSS.INPUT bRc) (h2 : fldKey f b ≠ fldKey Rg.RC_EVT.LOSS bRc) :
    (s.raise code sev ev data).get b f = s.get b f :=
  (State.get_request_ne _ _ _ _ h1 h2).trans (State.get_toggle _ _ _ _)

end Sys2Proof.Machine
end

section
/-! PROOF. HOLDOVER, the reference and the discipline sources (R108, R153–R157). -/

set_option Elab.async false

namespace Sys2Proof.Machine

variable {s t : State} {ws : List (Nat × Nat)}

/-! ### The estimate of HOLDOVER (R156) -/

theorem satAdd_lt (w a b : Nat) : satAdd w a b < 2 ^ w := by
  have := Nat.two_pow_pos w
  unfold satAdd
  omega

theorem State.get_count_same (s : State) (b n : Nat) (f : Fld) : (s.count b f n).get b f = satAdd f.w (s.get b f) n :=
  (State.get_set_same _ _ _ _).trans (Nat.mod_eq_of_lt (satAdd_lt _ _ _))

/-- The estimate set by the evaluation of a millisecond does not enter it. -/
theorem State.holdEstimate_withTerr (s : State) (e ms : Nat) : State.holdEstimate { s with time := { s.time with terr := e } } ms =
    s.holdEstimate ms := rfl

/-- The evaluation of a millisecond in HOLDOVER. -/
theorem State.terrStep_hold (hs : s.get bTime Rg.TIME_CTRL.STATE = 3) : ∃ c e, s.terrStep = { c with time := { c.time with terr := e } } ∧
    c = s.count bTime Rg.TIME_HO_T.ELAPSED 1 ∧ e = c.holdEstimate (c.get bTime Rg.TIME_HO_T.ELAPSED) :=
  ⟨_, _, if_pos hs, rfl, rfl⟩

/-! ### STATE becomes HOLDOVER (R153) -/

/-- STATE set to HOLDOVER outside it. -/
theorem State.setTimeState_hold_of_ne (h3 : s.get bTime Rg.TIME_CTRL.STATE ≠ 3) : s.setTimeState 3 =
    { s.sets bTime [(Rg.TIME_CTRL.STATE, 3), (Rg.TIME_HO_T.ELAPSED, 0)] with time := { s.time with terr0 := s.terr, terr := s.terr } } := by
  simp [State.setTimeState, h3, Ne.symm h3, State.sets]

/-- STATE set to HOLDOVER: in HOLDOVER nothing changes. -/
theorem State.setTimeState_hold (s : State) : ∃ l e₀ e,
    s.setTimeState 3 = { s.sets bTime l with time := { s.time with terr0 := e₀, terr := e } } ∧
      (l = [] ∧ s.get bTime Rg.TIME_CTRL.STATE = 3 ∨ l = [(Rg.TIME_CTRL.STATE, 3), (Rg.TIME_HO_T.ELAPSED, 0)]) := by
  by_cases h3 : s.get bTime Rg.TIME_CTRL.STATE = 3
  · exact ⟨[], s.time.terr0, s.time.terr, if_pos (.inr (.inl h3.symm)), .inl ⟨rfl, h3⟩⟩
  · exact ⟨_, s.terr, s.terr, State.setTimeState_hold_of_ne h3, .inr rfl⟩

theorem State.get_setTimeState_hold (s : State) : (s.setTimeState 3).get bTime Rg.TIME_CTRL.STATE = 3 := by
  obtain ⟨l, e₀, e, hs, ⟨rfl, h3⟩ | rfl⟩ := s.setTimeState_hold
  · rw [hs]
    exact h3
  · rw [hs, State.get_withTime, State.get_sets (by rfl)]
    rfl

theorem RegsKept.setTimeState_hold (s : State) : RegsKept [wTime] s (s.setTimeState 3) := by
  obtain ⟨l, e₀, e, hs, ⟨rfl, -⟩ | rfl⟩ := s.setTimeState_hold
  · rw [hs]
    exact .of_cells rfl
  · rw [hs]
    exact ((RegsKept.refl _ s).setsTime (by decide) (by rfl)).cells rfl

/-! ### The reference fails (R157) -/

/-- What REF_FAIL writes before its event and record. -/
def State.refDown (s : State) : State :=
  let t := (s.setTimeState 3).sets bTime [(Rg.TIME_STAT.REF_OK, 0), (Rg.TIME_HO.RATE, 20000 * 65536)]
  { t with boot := { t.boot with refKept := false } }

theorem State.refLost_eq (s : State) : ∃ data, s.refLost = (s.refDown.event 8 bTime Rg.TIME_EVT.REF_FAIL).raise 0x012 4 8 data :=
  ⟨_, rfl⟩

/-- A register of the time core but TIME_EVT.REF_FAIL after a loss of the reference reads what was written before the event. -/
theorem State.get_refLost (s : State) {f : Fld} (ho : f.off < 0x88) (hl : f.lo < 64) :
    s.refLost.get bTime f = ((s.setTimeState 3).sets bTime [(Rg.TIME_STAT.REF_OK, 0), (Rg.TIME_HO.RATE, 20000 * 65536)]).get bTime f := by
  have apart {c : Nat} {g : Fld} (hg : 0x3000_0088 ≤ c + g.off) : fldKey f bTime ≠ fldKey g c := by
    simp only [fldKey, bTime]
    omega
  obtain ⟨data, h⟩ := s.refLost_eq
  rw [h, State.get_raise _ _ _ _ _ (apart (by decide)) (apart (by decide)), State.get_event_ne _ _ _ _ _ _ (apart (by decide))]
  rfl

/-- What a loss of the reference leaves beside the registers of the time core and of the recorder. -/
theorem State.refLost_shape (s : State) : ∃ c b g l e₀ e, s.refLost =
    { s with cells := c, boot := b, toggles := g, log := l, time := { s.time with terr0 := e₀, terr := e } } := by
  obtain ⟨data, h⟩ := s.refLost_eq
  obtain ⟨l, e₀, e, hs, -⟩ := s.setTimeState_hold
  obtain ⟨c, g, l', hc⟩ := ((RecShape.refl s.refDown).shape ((RegShape.refl _).event 8 bTime Rg.TIME_EVT.REF_FAIL)).raise 0x012 4 8 data
  obtain ⟨c₁, g₁, h₁⟩ := (RegShape.refl s).sets bTime l
  obtain ⟨c₂, g₂, h₂⟩ := (RegShape.refl { s with cells := c₁, toggles := g₁, time := { s.time with terr0 := e₀, terr := e } }).sets bTime
    [(Rg.TIME_STAT.REF_OK, 0), (Rg.TIME_HO.RATE, 20000 * 65536)]
  rw [h, hc, State.refDown, hs, h₁]
  simp only [h₂]
  exact ⟨_, _, _, _, _, _, rfl⟩

theorem RegsKept.refLost (s : State) : RegsKept [wTime, wRc] s s.refLost := by
  obtain ⟨data, h⟩ := s.refLost_eq
  have down : RegsKept [wTime, wRc] s s.refDown :=
    ((RegsKept.setTimeState_hold s).mono (by decide)).setsTime (by decide) (by rfl) |>.cells rfl
  rw [h]
  exact (down.timeEvent (by decide) 8 0 Rg.TIME_EVT.REF_FAIL (by decide) (by decide)).raise (by decide) _ _ _ _

theorem State.refLost_frame (s : State) : s.refLost =
    { s with cells := s.refLost.cells, time := s.refLost.time, boot := s.refLost.boot, toggles := s.refLost.toggles, log := s.refLost.log } := by
  obtain ⟨c, b, g, l, e₀, e, h⟩ := s.refLost_shape
  rw [h]

theorem execRefFail_eq (hv : s.power.vdd = true) (hok : s.flag bTime Rg.TIME_STAT.REF_OK = true) :
    execRefFail s = .next (s.askHoldover s.refLost) := if_pos ⟨hv, hok⟩

theorem State.refLost_mem (s : State) : s.refLost.mem = s.mem := by
  obtain ⟨c, b, g, l, e₀, e, h⟩ := s.refLost_shape
  rw [h]

theorem State.refLost_hold (s : State) : s.refLost.get bTime Rg.TIME_CTRL.STATE = 3 := by
  rw [s.get_refLost (by decide) (by decide), State.get_sets (by rfl)]
  exact s.get_setTimeState_hold

theorem State.refLost_event (s : State) : s.refLost.get bTime Rg.TIME_EVT.REF_FAIL = 1 := by
  obtain ⟨data, h⟩ := s.refLost_eq
  rw [h, State.get_raise _ _ _ _ _ (by decide) (by decide)]
  exact State.get_event_same _ _ _ _ (by decide)

/-! ### HOLDOVER asked for in SERVICE (R153) -/

theorem State.mode_refLost (s : State) : s.refLost.mode = s.mode := (RegsKept.refLost s).mode_eq (by decide)

theorem State.participants_refLost (s : State) : s.refLost.participants = s.participants := by
  obtain ⟨c, b, g, l, e₀, e, h⟩ := s.refLost_shape
  rw [h]
  rfl

theorem State.newChange_refLost (s : State) (target : Mode) (cause : Nat) (dirty : Bool) :
    s.refLost.newChange target cause dirty = s.newChange target cause dirty := by
  have now : s.refLost.now = s.now := by
    obtain ⟨c, b, g, l, e₀, e, h⟩ := s.refLost_shape
    rw [h]
    rfl
  rw [State.newChange, State.newChange, s.mode_refLost, s.participants_refLost, now]

theorem State.modeBusy_refLost (s : State) : s.refLost.modeBusy = s.modeBusy := by
  have changing := (RegsKept.refLost s).get_mpc (by decide) Rg.MODE_STAT.CHANGING (by decide) (by decide)
  have sleep : s.refLost.modes.sleep = s.modes.sleep := by
    obtain ⟨c, b, g, l, e₀, e, h⟩ := s.refLost_shape
    rw [h]
  rw [State.modeBusy, State.modeBusy, State.flag, State.flag, changing, sleep]

/-- In SERVICE TP may ask for HOLDOVER. -/
theorem State.modeCheck_holdover (hm : s.mode = .service) : s.modeCheck .holdover 2 = 0 := by
  simp [State.modeCheck, State.modeCheckAs, hm, modeCauses, askFits]

theorem State.askHoldover_none (hm : t.mode ≠ .service) : s.askHoldover t = t := by
  simp [State.askHoldover, heldOver, hm]

/-- HOLDOVER entered in SERVICE while MP is not busy: the change is prepared. -/
theorem State.askHoldover_service (hs : s.get bTime Rg.TIME_CTRL.STATE ≠ 3) (ht : t.get bTime Rg.TIME_CTRL.STATE = 3)
    (hm : t.mode = .service) (hb : t.modeBusy = false) : s.askHoldover t = (t.prepare .holdover 2 false).modeRes 5 := by
  have held : heldOver s t = true := by simp [heldOver, hs, ht, hm]
  rw [State.askHoldover, held, if_pos rfl]
  exact State.modeReq_eq hb (by decide) (State.modeCheck_holdover hm) (by decide)

/-! ### The choice of sources (R155) -/

/-- With no source valid none is best. -/
theorem State.bestSource_of_none (hv : s.time.valid = []) : s.bestSource = 0 := by
  simp [State.bestSource, State.bestOf, State.srcIs, hv]

theorem execRefRecover_eq (hv : s.power.vdd = true) (hok : s.flag bTime Rg.TIME_STAT.REF_OK = false) (hnone : s.time.valid = []) :
    execRefRecover s = .next (s.set bTime Rg.TIME_STAT.REF_OK 1) := by
  have best : (s.set bTime Rg.TIME_STAT.REF_OK 1).bestSource = 0 := State.bestSource_of_none hnone
  simp [execRefRecover, hv, hok, best]

/-- The only valid source, a configured phase source, is best. -/
theorem State.bestSource_of_only {v : SrcValid} (hv : s.time.valid = [v]) (h1 : 1 ≤ v.src) (h4 : v.src ≤ 4) (hr : s.srcRank v.src < 4) :
    s.bestSource = v.src := by
  have is (c : Nat) : s.srcIs c = (v.src == c) := by simp [State.srcIs, hv]
  have codes : v.src = 1 ∨ v.src = 2 ∨ v.src = 3 ∨ v.src = 4 := by omega
  rw [State.bestSource, State.bestOf]
  rcases codes with h | h | h | h <;> rw [h] at hr <;> simp [is, h, hr]

/-- From UNSET the selection of a source leads to ACQUIRING. -/
theorem State.select_unset (src : Nat) (hs : s.get bTime Rg.TIME_CTRL.STATE = 0) : s.select src =
    (({ s with time := { s.time with sel := src } } : State).set bTime Rg.TIME_CTRL.STATE 1).set bTime Rg.TIME_HO_T.ELAPSED 0 := by
  rw [State.select, hs]
  exact State.setTimeState_eq (by decide) (by decide) (by rw [State.get_withTime, hs]; decide) (by rw [State.get_withTime, hs]; decide)

/-- While none is selected the best source is. -/
theorem State.reselect_first (hb : s.mode ≠ .bootstrap) (hd : s.mode ≠ .dormant) (hsel : s.time.sel = 0) (hbest : s.bestSource ≠ 0) :
    s.reselect = s.select s.bestSource := by
  rw [State.reselect, if_neg (not_or.2 ⟨hb, hd⟩), if_pos hsel, if_neg hbest]

/-- A first valid source: it is noted and selected. -/
theorem State.srcValid_first {src rate : Nat} (h1 : 1 ≤ src) (h4 : src ≤ 4) (hr : s.srcRank src < 4) (hmeets : s.srcMeets src = true)
    (hv : s.time.valid = []) (hsel : s.time.sel = 0) (hb : s.mode ≠ .bootstrap) (hd : s.mode ≠ .dormant)
    (hs : s.get bTime Rg.TIME_CTRL.STATE = 0) : s.srcValid src rate =
      { s.sets bTime [(Rg.TIME_CTRL.STATE, 1), (Rg.TIME_HO_T.ELAPSED, 0)] with
        time := { s.time with valid := [⟨src, s.nowNs, s.time.lost.contains src⟩], sel := src } } := by
  have known : s.srcIs src = false := by simp [State.srcIs, hv]
  have best := State.bestSource_of_only (v := ⟨src, s.nowNs, s.time.lost.contains src⟩)
    (s := { s with time := { s.time with valid := [⟨src, s.nowNs, s.time.lost.contains src⟩] } }) rfl h1 h4 hr
  have taken : s.srcValid src rate =
      ({ s with time := { s.time with valid := [⟨src, s.nowNs, s.time.lost.contains src⟩] } } : State).reselect := by
    rw [State.srcValid, if_neg (by simp [hmeets]; omega), known, hv]
    exact congrArg State.reselect (if_neg (by omega))
  have chosen := State.reselect_first (s := { s with time := { s.time with valid := [⟨src, s.nowNs, s.time.lost.contains src⟩] } })
    hb hd hsel (by rw [best]; show src ≠ 0; omega)
  rw [taken, chosen, best]
  exact State.select_unset _ hs

/-- The sources lost, with one more. -/
def State.lostAnd (s : State) (src : Nat) : List Nat := if s.time.lost.contains src then s.time.lost else src :: s.time.lost

theorem State.contains_lostAnd (s : State) (src : Nat) : (s.lostAnd src).contains src = true := by
  unfold State.lostAnd
  split
  · assumption
  · simp

/-- The only source, which is selected, is lost: none is selected, and STATE becomes HOLDOVER. -/
theorem State.srcLost_only {src rate : Nat} {v : SrcValid} (hsel : s.time.sel = src) (hv : s.time.valid = [v]) (hsrc : v.src = src)
    (hg : s.srcGone src = true) (hs : s.get bTime Rg.TIME_CTRL.STATE = 2) : s.srcLost src rate =
      { s.sets bTime [(Rg.TIME_CTRL.STATE, 3), (Rg.TIME_HO_T.ELAPSED, 0)] with
        time := { s.time with valid := [], lost := s.lostAnd src, sel := 0, terr0 := s.terr, terr := s.terr } } := by
  have is : s.srcIs src = true := by simp [State.srcIs, hv, hsrc]
  have dropped : s.time.valid.filter (fun v => v.src != src) = [] := by simp [hv, hsrc]
  have none_best (u : State) (hu : u.time.valid = []) : u.bestSource = 0 ∧ ∀ r, u.holdRate r = u :=
    ⟨State.bestSource_of_none hu, fun r => if_neg (by simp [State.srcIs, hu])⟩
  have hold : ({ s with time := { s.time with valid := [], lost := s.lostAnd src, sel := 0 } } : State).setTimeState 3 = _ :=
    State.setTimeState_hold_of_ne (by rw [State.get_withTime, hs]; decide)
  rw [State.srcLost, if_neg (by simp [is, hg]), dropped]
  refine (if_neg (not_not.2 hsel)).trans ((if_neg (not_not.2 (none_best _ rfl).1)).trans ?_)
  refine Eq.trans (congrArg (State.holdRate · rate) ((if_neg fun h0 => absurd (hs.symm.trans h0) (by decide)).trans hold)) ?_
  exact (none_best _ rfl).2 rate

end Sys2Proof.Machine

open Sys2Proof Sys2Proof.Machine

/-- Settles O24: each command takes the one branch of its rule that its hypotheses name. -/
theorem disciplineFollowsItsSources : Obligations.DisciplineFollowsItsSources := by
  refine ⟨fun s hs => ⟨_, rfl, ?eval⟩, fun s ⟨hv, hok, hm⟩ => ⟨_, execRefFail_eq hv hok, ?fail⟩,
    fun s ⟨hv, hok, hm, hb, hs⟩ => ⟨_, execRefFail_eq hv hok, ?failService⟩,
    fun s ⟨hv, hok, hnone⟩ => ⟨_, execRefRecover_eq hv hok hnone, ?recover⟩,
    fun src rate s ⟨h1, h4, hr, hmeets, hv, hsel⟩ ⟨hb, hd, hs⟩ => ⟨_, rfl, ?valid⟩,
    fun src rate v s ⟨_, _, hsel, hv, hsrc, hg, hs, hm⟩ => ⟨_, rfl, ?lost⟩⟩
  case eval =>
    obtain ⟨c, e, ht, hc, he⟩ := State.terrStep_hold hs
    have kept : RegsKept [wTime] s c := by
      rw [hc]
      exact (RegsKept.refl _ s).setTime (by decide) 0 _ Rg.TIME_HO_T.ELAPSED (by decide) (by decide)
    rw [ht]
    refine ⟨?_, ?_, ?_, .of_mem ?_, kept.cells rfl⟩
    · rw [State.get_withTime, hc, State.get_count_same]
    · rw [State.get_withTime, State.holdEstimate_withTerr, he]
    · rw [hc]
      rfl
    · rw [hc]
      rfl
  case fail =>
    rw [State.askHoldover_none (by rw [s.mode_refLost]; exact hm)]
    refine ⟨s.refLost_hold, ?_, ?_, s.refLost_event, s.refLost_frame, .of_mem s.refLost_mem, .refLost s⟩
    · rw [s.get_refLost (by decide) (by decide), State.get_sets (by rfl)]
      rfl
    · rw [s.get_refLost (by decide) (by decide), State.get_sets (by rfl)]
      simp [lastSet, Rg.TIME_HO.RATE]
  case failService =>
    rw [State.askHoldover_service (by rw [hs]; decide) s.refLost_hold (by rw [s.mode_refLost, hm]) (by rw [s.modeBusy_refLost, hb])]
    have kept : RegsKept [wTime, wRc, wMpc] s ((s.refLost.prepare .holdover 2 false).modeRes 5) :=
      (((RegsKept.refLost s).mono (by decide)).prepare (by decide) _ _ _).setMpc (by decide) Rg.MODE_RES.RESULT 5 (by decide) (by decide)
    have started : ((s.refLost.prepare .holdover 2 false).modeRes 5).modes.change = some (s.newChange .holdover 2 false) := by
      rw [State.modeRes_modes, State.prepare_eq, State.newChange_refLost]
    refine ⟨?_, started.trans ?_, ?_, .of_mem ?_, kept⟩
    · rw [State.modeRes, State.get_set_ne _ _ _ _ _ _ (by decide), State.get_prepare, State.prepared]
      exact ((RegsKept.refl [wMpc] s.refLost).setsMpc (by decide) (by rfl) bTime Rg.TIME_CTRL.STATE (by decide) (by decide)).trans
        s.refLost_hold
    · rw [State.newChange, hm]
    · obtain ⟨c, b, g, l, e₀, e, h⟩ := s.refLost_shape
      obtain ⟨c', g', m', p', h'⟩ := s.refLost.prepare_shape .holdover 2 false
      rw [h', h]
      rfl
    · rw [State.modeRes_mem, State.prepare_mem, State.refLost_mem]
  case recover =>
    refine ⟨State.get_set_same _ _ _ _, rfl, .of_mem rfl, ?_⟩
    exact (RegsKept.refl _ s).setTime (by decide) 0 1 Rg.TIME_STAT.REF_OK (by decide) (by decide)
  case valid =>
    rw [State.srcValid_first h1 h4 hr hmeets hv hsel hb hd hs]
    refine ⟨rfl, ?_, rfl, .of_mem (State.sets_mem _ _ _), ((RegsKept.refl _ s).setsTime (by decide) (by rfl)).cells rfl⟩
    rw [State.get_withTime, State.get_sets (by rfl)]
    rfl
  case lost =>
    have kept : RegsKept [wTime] s (s.srcLost src rate) := by
      rw [State.srcLost_only hsel hv hsrc hg hs]
      exact ((RegsKept.refl _ s).setsTime (by decide) (by rfl)).cells rfl
    rw [State.askHoldover_none (by rw [kept.mode_eq (by decide)]; exact hm)]
    rw [State.srcLost_only hsel hv hsrc hg hs] at kept ⊢
    refine ⟨rfl, s.contains_lostAnd src, rfl, ?_, ?_, rfl, .of_mem (State.sets_mem _ _ _), kept⟩
    · rw [State.get_withTime, State.get_sets (by rfl)]
      rfl
    · rw [State.get_withTime, State.get_sets (by rfl)]
      rfl

end

section
/-! SUPPORT. A power-down holds DMA channels: what decides a mode change, and the Cocoon flags, are not reached (R124, R486). -/

set_option Elab.async false

namespace Sys2Proof.Machine

/-- What a change of mode is prepared from, and the start's own state, are as in `s₀`. -/
structure Unmoved (s₀ s : State) : Prop where
  power : s.power = s₀.power
  modes : s.modes = s₀.modes
  boot : s.boot = s₀.boot
  img : s.img = s₀.img
  time : s.time = s₀.time
  code : s.get bMpc Rg.MODE_STAT.MODE = s₀.get bMpc Rg.MODE_STAT.MODE

variable {s₀ s t : State} {b ch : Nat} {f : Fld}

theorem Unmoved.refl : Unmoved s s := ⟨rfl, rfl, rfl, rfl, rfl, rfl⟩

/-- The other parts of the state may become anything. -/
theorem Unmoved.frame {pending mem poison flips upd cores cocoon resp staged caught links rx outq disp toggles toTp toSs log health stop
    radio loops samples gnss obs waves inbox phs align groups engines pins lines tracks eth cans pkt sec pcie yx dma scrub free : _}
    (h : Unmoved s₀ s) : Unmoved s₀ ⟨pending, s.cells, mem, poison, flips, s.power, s.modes, s.boot, upd, cores, cocoon, resp, staged,
      caught, s.img, links, rx, outq, disp, toggles, toTp, toSs, log, health, s.time, stop, radio, loops, samples, gnss, obs, waves,
      inbox, phs, align, groups, engines, pins, lines, tracks, eth, cans, pkt, sec, pcie, yx, dma, scrub, free⟩ :=
  ⟨h.power, h.modes, h.boot, h.img, h.time, h.code⟩

theorem Unmoved.ite {c : Prop} {_ : Decidable c} (hs : Unmoved s₀ s) (ht : Unmoved s₀ t) : Unmoved s₀ (if c then s else t) := by
  split
  · exact hs
  · exact ht

theorem Unmoved.ite_fst {α : Type} {c : Prop} {_ : Decidable c} {p q : State × α} (hp : Unmoved s₀ p.1) (hq : Unmoved s₀ q.1) :
    Unmoved s₀ (if c then p else q).1 := by
  split
  · exact hp
  · exact hq

/-! ### Registers below those of the mode controller -/

theorem fldKey_mode_ne (h : b + f.off < bMpc) (hl : f.lo < 64) : fldKey Rg.MODE_STAT.MODE bMpc ≠ fldKey f b := by
  simp only [fldKey, Rg.MODE_STAT.MODE, bMpc] at *
  omega

theorem Unmoved.set (h : Unmoved s₀ s) (hb : b + f.off < bMpc) (hl : f.lo < 64) (v : Nat) : Unmoved s₀ (s.set b f v) :=
  ⟨h.power, h.modes, h.boot, h.img, h.time, (State.get_set_ne _ _ _ _ _ _ (fldKey_mode_ne hb hl)).trans h.code⟩

theorem Unmoved.toggle (h : Unmoved s₀ s) (e : Nat) : Unmoved s₀ (s.toggle e) := .ite h h.frame

theorem Unmoved.event (h : Unmoved s₀ s) (hb : b + f.off < bMpc) (hl : f.lo < 64) (e : Nat) : Unmoved s₀ (s.event e b f) :=
  .ite h ((h.set hb hl 1).toggle e)

theorem Unmoved.sets (h : Unmoved s₀ s) (hb : b < 0x3007_0000) {l : List (Fld × Nat)}
    (hl : l.all (fun p => decide (p.1.off < 0x1_0000 ∧ p.1.lo < 64)) = true) : Unmoved s₀ (s.sets b l) := by
  induction l generalizing s with
  | nil => exact h
  | cons p l ih =>
    obtain ⟨hp, hl⟩ := Bool.and_eq_true_iff.1 hl
    obtain ⟨ho, hlo⟩ := of_decide_eq_true hp
    exact ih (h.set (by simp only [bMpc]; omega) hlo p.2) hl

theorem Unmoved.request (h : Unmoved s₀ s) (r : RecReq) : Unmoved s₀ (s.request r) := by
  unfold State.request
  refine .ite (.ite ?_ h.frame) (.ite h.frame h)
  exact ((h.set (by decide) (by decide) _).event (f := Rg.RC_EVT.LOSS) (by decide) (by decide) 17).frame

theorem Unmoved.record (h : Unmoved s₀ s) (code sev src : Nat) (data : List Byte) : Unmoved s₀ (s.record code sev src data) :=
  Unmoved.request h _

/-! ### Memory -/

theorem regionOf_stage_lt {a k off : Nat} (h : regionOf a = .stage k off) : k < 16 := by
  unfold regionOf at h
  split at h
  · simp only [stageBase, halfSize] at *
    obtain ⟨hk, -⟩ := Region.stage.inj h
    omega
  · split at h <;> exact absurd h (by simp)

theorem Unmoved.memCE (h : Unmoved s₀ s) (w : Nat) : Unmoved s₀ (s.memCE w) := by
  unfold State.memCE
  extract_lets +onlyGivenNames a s1
  have hs1 : Unmoved s₀ s1 := by
    unfold s1
    split
    · next k off hr =>
      have hk := regionOf_stage_lt hr
      refine .event (.sets (.set h ?_ (by decide) _) ?_ (by rfl)) (by decide) (by decide) 19
      · simp only [bDdr, bMpc, Rg.SM_ECC.CE]
        omega
      · simp only [bDdr]
        omega
    · exact .event (.set (.set h (by decide) (by decide) _) (by decide) (by decide) _) (by decide) (by decide) 19
  exact hs1.record _ _ _ _

theorem Unmoved.memUE (h : Unmoved s₀ s) (w : Nat) : Unmoved s₀ (s.memUE w) := by
  unfold State.memUE
  extract_lets +onlyGivenNames a s1
  have hs1 : Unmoved s₀ s1 := by
    unfold s1
    split
    · next k off hr =>
      have hk := regionOf_stage_lt hr
      refine .event (.sets (.set h ?_ (by decide) _) ?_ (by rfl)) (by decide) (by decide) 19
      · simp only [bDdr, bMpc, Rg.SM_ECC.UE]
        omega
      · simp only [bDdr]
        omega
    · exact .event (.set (.set h (by decide) (by decide) _) (by decide) (by decide) _) (by decide) (by decide) 19
  exact hs1.record _ _ _ _

theorem Unmoved.readWord (h : Unmoved s₀ s) (w : Nat) : Unmoved s₀ (s.readWord w).1 := by
  unfold State.readWord
  refine .ite_fst (.memUE h.frame w) (.ite_fst ?_ (.ite_fst h (.ite (h.memCE w).frame (h.memCE w))))
  dsimp only
  split
  · exact h.set (by decide) (by decide) _
  · exact h

theorem Unmoved.inject (h : Unmoved s₀ s) (w : Nat) : Unmoved s₀ (s.inject w) := by
  unfold State.inject
  refine .ite ?_ h
  extract_lets t u
  have ht : Unmoved s₀ t := h.set (by decide) (by decide) 0
  have hu : Unmoved s₀ u := .ite ht ht.frame
  exact .ite hu.frame hu

theorem Unmoved.writeWord (h : Unmoved s₀ s) (a : Nat) (l : List Byte) : Unmoved s₀ (s.writeWord a l).1 :=
  .ite_fst (.inject h.frame _) (.ite_fst (h.readWord _).frame (h.readWord _))

theorem Unmoved.memWriteN (h : Unmoved s₀ s) (n a : Nat) (l : List Byte) : Unmoved s₀ (memWriteN n a l s).1 := by
  induction n generalizing a l s with
  | zero => exact h
  | succ n ih =>
    cases l with
    | nil => exact h
    | cons b l => exact ih (h.writeWord a _) _ _

/-! ### DMA channels -/

theorem dmBase_lt (ch : Nat) : dmBase ch < 0x2030_0000 := by
  have range := kindBase_range .dma (ch / tileLanes .dma)
  have lane : ch % tileLanes .dma < 16 := Nat.mod_lt _ (by decide)
  unfold dmBase laneBase
  omega

theorem Unmoved.setDma (h : Unmoved s₀ s) (ch : Nat) (v : Nat) (ho : f.off < 0x1_0000) (hl : f.lo < 64) :
    Unmoved s₀ (s.set (dmBase ch) f v) := by
  have low := dmBase_lt ch
  exact h.set (by simp only [bMpc]; omega) hl v

theorem Unmoved.dmaEvent (h : Unmoved s₀ s) (ch : Nat) (ho : f.off < 0x1_0000) (hl : f.lo < 64) :
    Unmoved s₀ (s.event (dmEv ch) (dmBase ch) f) := by
  have low := dmBase_lt ch
  exact h.event (by simp only [bMpc]; omega) hl _

theorem Unmoved.setsDma (h : Unmoved s₀ s) (ch : Nat) {l : List (Fld × Nat)}
    (hl : l.all (fun p => decide (p.1.off < 0x1_0000 ∧ p.1.lo < 64)) = true) : Unmoved s₀ (s.sets (dmBase ch) l) := by
  have low := dmBase_lt ch
  exact h.sets (by omega) hl

theorem Unmoved.dmWriteRec (h : Unmoved s₀ s) (ch : Nat) (r : List Byte) : Unmoved s₀ (s.dmWriteRec ch r) :=
  .ite (.ite h.frame (.ite (h.memWriteN _ _ _) h)) h

theorem Unmoved.dmEnd (h : Unmoved s₀ s) (ch status : Nat) : Unmoved s₀ (s.dmEnd ch status) := by
  unfold State.dmEnd
  extract_lets +onlyGivenNames b l comps irq t₀ t₁ t₂ t₃
  have ended : Unmoved s₀ t₂ := ((h.dmWriteRec ch _).setsDma ch (by rfl)).frame
  have raised : Unmoved s₀ t₃ := .ite (ended.toggle _) ended
  exact .ite (.ite raised.frame raised) raised

theorem Unmoved.dmStart (h : Unmoved s₀ s) (ch : Nat) : Unmoved s₀ (s.dmStart ch) := by
  unfold State.dmStart
  extract_lets +onlyGivenNames b c l t
  have started : Unmoved s₀ t := (h.setsDma ch (by rfl)).frame
  exact .ite ((h.setsDma ch (by rfl)).dmaEvent ch (by decide) (by decide)) (.ite (started.dmEnd ch 0) started)

theorem Unmoved.dmCopy (h : Unmoved s₀ s) (ch : Nat) : Unmoved s₀ (s.dmCopy ch) := h.setsDma ch (by rfl)

theorem Unmoved.dmFinish (h : Unmoved s₀ s) (ch status : Nat) : Unmoved s₀ (s.dmFinish ch status) :=
  .ite (((h.dmEnd ch status).dmCopy ch).dmStart ch) (h.dmEnd ch status)

theorem Unmoved.dmSettle (h : Unmoved s₀ s) (ch : Nat) : Unmoved s₀ (s.dmSettle ch) := by
  unfold State.dmSettle
  extract_lets +onlyGivenNames l st
  refine .ite ?_ h
  split
  · exact h.dmFinish ch _
  · exact h.dmFinish ch _
  · exact .ite (h.dmFinish ch 0) (.ite ((h.setDma ch 4 (by decide) (by decide)).dmaEvent ch (by decide) (by decide)) h)

theorem Unmoved.dmHoldAll (h : Unmoved s₀ s) (d : Dom) (l : List Nat) : Unmoved s₀ (s.dmHoldAll d l) := by
  induction l generalizing s with
  | nil => exact h
  | cons ch l ih => exact ih (.ite ((h.setDma ch 3 (by decide) (by decide)).dmSettle ch) h)

theorem Unmoved.holdDomains (h : Unmoved s₀ s) (ds : List Dom) (l : List Nat) :
    Unmoved s₀ (ds.foldl (fun u d => u.dmHoldAll d l) s) := by
  induction ds generalizing s with
  | nil => exact h
  | cons d ds ih => exact ih (h.dmHoldAll d l)

/-! ### The change that PREPARE starts -/

theorem Unmoved.mode (h : Unmoved s₀ s) : s.mode = s₀.mode := congrArg Mode.ofCode h.code

theorem Unmoved.newChange (h : Unmoved s₀ s) (target : Mode) (cause : Nat) (dirty : Bool) :
    s.newChange target cause dirty = s₀.newChange target cause dirty := by
  have on (d : Dom) : s.on d = s₀.on d := by cases d <;> simp only [State.on, h.power]
  have inst (p : Nat) : s.instanced p = s₀.instanced p := by simp only [State.instanced, State.lanesAt, h.img]
  have parts : s.participants = s₀.participants := by simp only [State.participants, on, inst, h.modes]
  have now : s.now = s₀.now := by simp only [State.now, h.time]
  rw [State.newChange, State.newChange, h.mode, parts, now]

end Sys2Proof.Machine
end

section
/-! PROOF. The entry to DORMANT, the wake, and the Cocoon store (R124–R128, R219, R472). -/

set_option Elab.async false

namespace Sys2Proof.Machine

variable {s t : State} {ws : List (Nat × Nat)}

/-! ### What a prepared change shows (R112) -/

theorem State.get_prepared_changing (s : State) (target : Mode) : (s.prepared target).get bMpc Rg.MODE_STAT.CHANGING = 1 := by
  rw [State.prepared, State.get_sets (by rfl)]
  rfl

theorem State.get_prepared_target (s : State) (target : Mode) : (s.prepared target).get bMpc Rg.MODE_STAT.TARGET = target.code := by
  rw [State.prepared, State.get_sets (by rfl)]
  cases target <;> rfl

theorem State.prepare_boot (s : State) (target : Mode) (cause : Nat) (dirty : Bool) : (s.prepare target cause dirty).boot = s.boot := by
  have prepared : (s.prepared target).boot = s.boot := State.sets_boot _ _ _
  rw [State.prepare_eq, ← prepared]

/-! ### The Cocoon store (R128, R219) -/

/-- Fields set change the register cells alone. -/
theorem State.sets_eq (s : State) (b : Nat) (l : List (Fld × Nat)) : ∃ c, s.sets b l = { s with cells := c } := by
  induction l generalizing s with
  | nil => exact ⟨_, rfl⟩
  | cons p l ih =>
    obtain ⟨c, h⟩ := ih (s.set b p.1 p.2)
    exact ⟨c, h⟩

/-- The last value that a list of fields sets is read, to the field's width. -/
theorem State.get_sets_last {b v : Nat} {f : Fld} {l : List (Fld × Nat)}
    (hl : l.all (fun p => decide (p.1 = f) || !(p.1.off == f.off && p.1.lo == f.lo) && decide (p.1.lo < 64 ∧ f.lo < 64)) = true)
    (hv : lastSet f l = some v) : (s.sets b l).get b f = v % 2 ^ f.w := by
  rw [State.get_sets hl, hv]
  rfl


/-- MP's write of the whole store. -/
theorem State.cocoonWrite_eq (s : State) (nav : List (Nat × Nat)) : ∃ w b, b.coBad = [] ∧ s.cocoonWrite nav =
    { s.sets bMpc [(Rg.COC_CTRL.VALID, 1), (Rg.COC_CTRL.FMT, 1), (Rg.COC_ADDR.WORD, 0), (Rg.COC_TIME.INSTANT, s.now)] with
      cocoon := w, boot := b } :=
  ⟨_, { (s.sets bMpc [(Rg.COC_CTRL.VALID, 1), (Rg.COC_CTRL.FMT, 1), (Rg.COC_ADDR.WORD, 0), (Rg.COC_TIME.INSTANT, s.now)]).boot with
    coBad := [], refKept := s.flag bTime Rg.TIME_STAT.REF_OK }, rfl, rfl⟩

@[simp] theorem State.get_withCocoon (s : State) (w : List (Nat × Nat)) (x : BootCtl) (b : Nat) (f : Fld) :
    State.get { s with cocoon := w, boot := x } b f = s.get b f := rfl

theorem lookupD_eq_cellGet (d k : Nat) (l : List (Nat × Nat)) : lookupD d k l = (cellGet k l).getD d := by
  induction l with
  | nil => rfl
  | cons c l ih =>
    rw [lookupD, cellGet, ih]
    split <;> rfl

/-- A word other than 0 put into the store at COC_ADDR. -/
theorem State.coPut_eq {v : Nat} (hv : v % 2 ^ 64 ≠ 0) : ∃ b, s.coPut v =
    ({ s with cocoon := assocSet (s.get bMpc Rg.COC_ADDR.WORD) (v % 2 ^ 64) s.cocoon, boot := b } : State).sets bMpc
      [(Rg.COC_CTRL.VALID, 0), (Rg.COC_ADDR.WORD, (s.get bMpc Rg.COC_ADDR.WORD + 1) % 32768)] := by
  have word (w : List (Nat × Nat)) (b : BootCtl) : (({ s with cocoon := w, boot := b } : State).set bMpc Rg.COC_CTRL.VALID 0).get bMpc
      Rg.COC_ADDR.WORD = s.get bMpc Rg.COC_ADDR.WORD := State.get_set_off _ _ _ _ _ (by decide)
  rw [State.coPut, if_neg hv]
  simp only [State.coNext, word]
  exact ⟨_, rfl⟩

theorem lookupD_assocSet_same (d k v : Nat) (l : List (Nat × Nat)) : lookupD d k (assocSet k v l) = v := by
  rw [lookupD_eq_cellGet, cellGet_assocSet, if_pos rfl]
  rfl

/-- A read of a good word by a processor or the host. -/
theorem execCocDataRead_eq {m : Master} (hm : m = .mp ∨ m = .tp ∨ m = .host)
    (hgood : s.boot.coBad.contains (s.get bMpc Rg.COC_ADDR.WORD) = false) :
    execCocDataRead m false s = .next (s.coNext.answer .ok (s.coWord (s.get bMpc Rg.COC_ADDR.WORD))) := by
  have word : s.coGet = (s.coNext, s.coWord (s.get bMpc Rg.COC_ADDR.WORD)) := if_neg (by rw [hgood]; decide)
  rcases hm with rfl | rfl | rfl <;> simp [execCocDataRead, word]

theorem Unmoved.mpcEvent (e : Nat) {f : Fld} (hf : fldKey Rg.MODE_STAT.MODE bMpc ≠ fldKey f bMpc) : Unmoved s (s.event e bMpc f) :=
  ⟨State.event_power _ _ _ _, State.event_modes _ _ _ _, State.event_boot _ _ _ _, State.event_img _ _ _ _, State.event_time _ _ _ _,
    State.get_event_ne _ _ _ _ _ _ hf⟩

/-- A held power-down does not enter a change. -/
theorem State.newChange_holdAt (s : State) (h : Option Nat) (target : Mode) (cause : Nat) (dirty : Bool) :
    State.newChange { s with power := { s.power with holdAt := h } } target cause dirty = s.newChange target cause dirty := rfl

/-! ### The end of the notice (R124) -/

theorem State.flushAll_eq (s : State) : ∃ l, s.flushAll = { s with log := l } := by
  unfold State.flushAll
  split
  · exact ⟨_, rfl⟩
  · exact ⟨_, rfl⟩

/-- The notice's end before PREPARE: the Cocoon store written, the recorder flushed, and the DMA channels held. -/
def State.graceOver (s : State) (nav : List (Nat × Nat)) : State :=
  [Dom.fa, .fb, .io, .mgmt, .sec].foldl (fun u d => u.dmHoldAll d (List.range 64)) (s.cocoonWrite nav).flushAll

theorem execDormantGraceExpiry_eq {at_ cause : Nat} (nav : List (Nat × Nat)) (hs : s.modes.sleep = some (at_, cause))
    (hat : at_ + s.get bMpc Rg.MODE_CFG.DORM_GRACE * 10000000 ≤ s.now) : execDormantGraceExpiry nav s =
      .next (State.prepare { s.graceOver nav with power := { (s.graceOver nav).power with holdAt := some s.nowNs } } .dormant cause
        false) := by
  simp only [execDormantGraceExpiry, hs, if_pos hat, State.graceOver]

theorem Unmoved.withBoot {s₀ : State} (h : Unmoved s₀ s) (b : BootCtl) : Unmoved { s₀ with boot := b } { s with boot := b } :=
  ⟨h.power, h.modes, rfl, h.img, h.time, h.code⟩

theorem Unmoved.setsMpc {l : List (Fld × Nat)}
    (hl : (s.sets bMpc l).get bMpc Rg.MODE_STAT.MODE = s.get bMpc Rg.MODE_STAT.MODE) : Unmoved s (s.sets bMpc l) :=
  ⟨State.sets_power _ _ _, State.sets_modes _ _ _, State.sets_boot _ _ _, State.sets_img _ _ _, State.sets_time _ _ _, hl⟩

/-- The store written and the recorder flushed, what a change is prepared from is as before. -/
theorem State.cocoonWrite_unmoved (s : State) (nav : List (Nat × Nat)) :
    ∃ b, b.coBad = [] ∧ Unmoved { s with boot := b } (s.cocoonWrite nav).flushAll := by
  obtain ⟨w, b, hb, hw⟩ := s.cocoonWrite_eq nav
  obtain ⟨l, hl⟩ := (s.cocoonWrite nav).flushAll_eq
  have written : Unmoved s (s.sets bMpc [(Rg.COC_CTRL.VALID, 1), (Rg.COC_CTRL.FMT, 1), (Rg.COC_ADDR.WORD, 0),
      (Rg.COC_TIME.INSTANT, s.now)]) := by
    refine .setsMpc ?_
    rw [State.get_sets (by rfl)]
    rfl
  rw [hl, hw]
  exact ⟨b, hb, (written.withBoot b).frame⟩

theorem State.graceOver_unmoved (s : State) (nav : List (Nat × Nat)) :
    ∃ b, b.coBad = [] ∧ Unmoved { s with boot := b } (s.graceOver nav) := by
  obtain ⟨b, hb, hu⟩ := s.cocoonWrite_unmoved nav
  exact ⟨b, hb, hu.holdDomains [.fa, .fb, .io, .mgmt, .sec] (List.range 64)⟩

/-! ### A wake source during the notice (R126) -/

/-- The events that a cancelled entry shows, its power-down no longer held. -/
def State.abortShown (s : State) : State :=
  let t := (s.event 0 bMpc Rg.MODE_EVT.DORMANT_ABORT).event 2 bMpc Rg.WAKE_STAT.EARLY
  { t with power := { t.power with holdAt := none } }

theorem State.abortShown_shape (s : State) : ∃ c g p, s.abortShown = { s with cells := c, toggles := g, power := p } := by
  obtain ⟨c, g, h⟩ := ((RegShape.refl s).event 0 bMpc Rg.MODE_EVT.DORMANT_ABORT).event 2 bMpc Rg.WAKE_STAT.EARLY
  rw [State.abortShown, h]
  exact ⟨_, _, _, rfl⟩

/-- During the notice no change runs, and the present mode is prepared again. -/
theorem State.dormantAbort_eq (hc : s.modes.change = none) : s.dormantAbort = s.abortShown.prepare s.mode 4 false := by
  rw [State.dormantAbort]
  simp only [hc]
  rfl

theorem State.newChange_abortShown (s : State) (target : Mode) : s.abortShown.newChange target 4 false = s.newChange target 4 false := by
  rw [State.abortShown, State.newChange_holdAt, (Unmoved.mpcEvent 2 (by decide)).newChange, (Unmoved.mpcEvent 0 (by decide)).newChange]

theorem State.get_abortShown (s : State) : s.abortShown.get bMpc Rg.MODE_EVT.DORMANT_ABORT = 1 ∧
    s.abortShown.get bMpc Rg.WAKE_STAT.EARLY = 1 :=
  ⟨(State.get_event_ne _ _ _ _ _ _ (by decide)).trans (State.get_event_same _ _ _ _ (by decide)),
    State.get_event_same _ _ _ _ (by decide)⟩

theorem RegsKept.abortShown (s : State) : RegsKept [wMpc] s s.abortShown :=
  (((RegsKept.refl _ s).mpcEvent (by decide) 0 Rg.MODE_EVT.DORMANT_ABORT (by decide) (by decide)).mpcEvent (by decide) 2
    Rg.WAKE_STAT.EARLY (by decide) (by decide)).cells rfl

/-- What a wake source during the notice leaves. -/
theorem wake_notice {at_ cause : Nat} (bit : Nat) (env : BootEnv) (hs : s.modes.sleep = some (at_, cause)) (hc : s.modes.change = none)
    (ht : s.wake bit env = t) : t.modes.sleep = none ∧
      t.modes.change = some (⟨s.mode, 4, s.mode, s.participants, [], none, false, s.now⟩ : Change) ∧
      t.get bMpc Rg.MODE_EVT.DORMANT_ABORT = 1 ∧ t.get bMpc Rg.WAKE_STAT.EARLY = 1 ∧
      Frame [wMpc] s t { s with cells := t.cells, toggles := t.toggles, modes := t.modes, power := t.power } := by
  have entering : s.entering = true := by simp [State.entering, hs]
  have prepared : t = s.abortShown.prepare s.mode 4 false := by
    rw [← ht, State.wake, if_pos entering, State.dormantAbort_eq hc]
  have show_ (f : Fld) (hf : (s.abortShown.prepared s.mode).get bMpc f = s.abortShown.get bMpc f) :
      t.get bMpc f = s.abortShown.get bMpc f := by rw [prepared, State.get_prepare, hf]
  obtain ⟨aborted, early⟩ := s.get_abortShown
  refine ⟨?_, ?_, (show_ _ ?_).trans aborted, (show_ _ ?_).trans early, ?_, .of_mem ?_, ?_⟩
  · rw [prepared, State.prepare_eq]
  · rw [prepared, State.prepare_eq, s.newChange_abortShown]
    rfl
  · rw [State.prepared, State.get_sets (by rfl)]
    rfl
  · rw [State.prepared, State.get_sets (by rfl)]
    rfl
  · obtain ⟨c, g, p, h⟩ := s.abortShown_shape
    obtain ⟨c', g', m', p', h'⟩ := s.abortShown.prepare_shape s.mode 4 false
    rw [prepared, h', h]
  · obtain ⟨c, g, p, h⟩ := s.abortShown_shape
    rw [prepared, State.prepare_mem, h]
  · rw [prepared]
    exact (RegsKept.abortShown s).prepare (by decide) _ _ _

/-! ### The start (R121, R127, R500) -/

/-- Where a firmware check has halted the device it shows CODE 5. -/
def FwHeld (s : State) : Prop := s.sec.halted = true → s.get bSec Rg.BOOT_STAT.CODE = 5

theorem FwHeld.verifyFw (h : s.sec.halted = false) (typ : Nat) : FwHeld (s.verifyFw typ) := by
  unfold State.verifyFw
  split
  · exact fun hh => absurd (h.symm.trans hh) (by decide)
  · split
    · intro hh
      simp [State.bootStat, h] at hh
    · exact fun _ => State.get_halt_code _ _ _

theorem State.halted_newSettings (s : State) (typ : Nat) : (s.newSettings typ).sec.halted = s.sec.halted := by
  unfold State.newSettings
  split
  · rfl
  · split
    · rfl
    · split
      · rfl
      · split_ifs <;> simp

theorem State.halted_started (s : State) (typ : Nat) : (s.started typ).sec.halted = s.sec.halted := s.halted_newSettings typ

theorem State.halted_foldl_set {α : Type} (b : Nat) (f : α → Fld) (v : α → Nat) (l : List α) (s : State) :
    (l.foldl (fun u x => u.set b (f x) (v x)) s).sec.halted = s.sec.halted := by
  induction l generalizing s with
  | nil => rfl
  | cons x l ih => exact ih _

theorem State.halted_setSlot (s : State) (n : Nat) (k : KeySlot) : ((s.drawn n).setSlot k).sec.halted = s.sec.halted := rfl

theorem State.halted_loadSlot (s : State) (x : StoredSlot) : (s.loadSlot x).sec.halted = s.sec.halted := by
  unfold State.loadSlot
  generalize Reg.KS_ATTR.desc.flds = l
  extract_lets b t w v p
  have attr : t.sec.halted = s.sec.halted := State.halted_foldl_set b (fun f : Fld => f) (fun f => bits f.lo f.w x.attr) l s
  have kept : v.sec.halted = s.sec.halted := (State.halted_setSlot t w _).trans attr
  split
  · rw [State.set_sec, kept]
  · exact kept

theorem State.halted_loadSlots (s : State) : s.loadSlots.sec.halted = s.sec.halted := by
  have loaded (l : List Nat) (f : Nat → Option StoredSlot) (t : State) :
      (l.foldl (fun t n => match f n with | some x => t.loadSlot x | none => t) t).sec.halted = t.sec.halted := by
    induction l generalizing t with
    | nil => rfl
    | cons n l ih =>
      refine (ih _).trans ?_
      dsimp only
      split
      · exact State.halted_loadSlot _ _
      · rfl
  unfold State.loadSlots
  split
  · split
    · exact loaded _ _ _
    · rfl
  · rfl

theorem State.halted_verifyStop (s : State) : s.verifyStop.sec.halted = s.sec.halted := by
  unfold State.verifyStop
  extract_lets c u p t q
  split
  · rfl
  · simp [t, State.bootStat]

theorem State.halted_lockIslands (s : State) (l : List Nat) : (s.lockIslands l).sec.halted = s.sec.halted := by
  induction l generalizing s with
  | nil => rfl
  | cons i l ih => exact ih _

theorem FwHeld.of_up (h : s.sec.halted = false) : FwHeld s := fun hh => absurd (h.symm.trans hh) (by decide)

theorem FwHeld.bootFw (h : s.sec.halted = false) : FwHeld s.bootFw := by
  unfold State.bootFw
  extract_lets t u
  split
  · exact .verifyFw h 1
  · next ht =>
    have up : ((t.started 1).loadSlots).sec.halted = false := by
      rw [State.halted_loadSlots, State.halted_started, Bool.eq_false_of_not_eq_true ht]
    split
    · exact .verifyFw up 3
    · next hu => exact .of_up ((State.halted_verifyStop u).trans (Bool.eq_false_of_not_eq_true hu))

theorem FwHeld.bootMgmt (h : s.sec.halted = false) : FwHeld s.bootMgmt := by
  unfold State.bootMgmt
  extract_lets p t u log v w
  have up : t.sec.halted = false := (State.halted_lockIslands _ _).trans h
  split
  · exact .verifyFw up 2
  · next hu =>
    have upv : w.sec.halted = false := (State.halted_started v 3).trans (Bool.eq_false_of_not_eq_true hu)
    refine .of_up ((State.halted_started _ 2).trans ?_)
    split
    · exact upv
    · exact (State.halted_started _ 5).trans upv

theorem Started.of_held (h : FwHeld s) (hh : s.sec.halted = true) : Started s := .inl ⟨hh, .inr (h hh)⟩

theorem Started.prepare (s : State) {target : Mode} (ht : target = .survey ∨ target = .maintenance) (dirty : Bool) :
    Started (s.prepare target 4 dirty) := by
  refine .inr ⟨s.newChange target 4 dirty, ?_, rfl, rfl, rfl, ht, ?_, ?_⟩
  · rw [State.prepare_eq]
  · rw [State.get_prepare, State.get_prepared_changing]
  · rw [State.get_prepare]
    exact State.get_prepared_target s target

theorem Started.bootEnd (s : State) (env : BootEnv) (bad : Bool) : Started (s.bootEnd env bad) := by
  unfold State.bootEnd
  extract_lets r a t u dirty
  split
  · exact .prepare u (.inr rfl) _
  · exact .prepare u (.inl rfl) _

/-- A wake's start: no update set is applied (R127). -/
theorem State.boot3_wake {env : BootEnv} (ht : ({ s with upd := { s.upd with fell := [] } }).bootSec env = t) : s.boot3 env false =
    if !t.keyPageOk ∧ t.get bSec Rg.SEC_STAT.LC ≠ 0 then t.halt 1 0
    else if t.bootFw.sec.halted then t.bootFw
    else if t.bootFw.bootMgmt.sec.halted then t.bootFw.bootMgmt
    else (t.bootFw.bootMgmt.bootIo env).bootEnd env false := by
  simp only [State.boot3, ht, Bool.false_eq_true, if_false]

/-- A wake's start ends as every start does. -/
theorem Started.boot3 (s : State) (env : BootEnv) : Started (s.boot3 env false) := by
  generalize ht : ({ s with upd := { s.upd with fell := [] } }).bootSec env = t
  have up : t.sec.halted = false := by
    rw [← ht]
    rfl
  rw [State.boot3_wake ht]
  split
  · exact .inl ⟨rfl, .inl (State.get_halt_code _ _ _)⟩
  · split
    · next hh => exact .of_held (.bootFw up) hh
    · next hfw =>
      split
      · next hh => exact .of_held (.bootMgmt (Bool.eq_false_of_not_eq_true hfw)) hh
      · exact .bootEnd _ env false

theorem Started.wakeUp (s : State) (bits_ : Nat) (env : BootEnv) : Started (s.wakeUp bits_ env) := by
  unfold State.wakeUp
  exact .boot3 _ env

theorem Started.wake (bit : Nat) (env : BootEnv) (hm : s.mode = .dormant) (hs : s.modes.sleep = none) (hc : s.modes.change = none) :
    Started (s.wake bit env) := by
  have entering : s.entering = false := by simp [State.entering, hs, hc]
  have committing : s.committing = false := by simp [State.committing, hc]
  have woken : s.wake bit env = s.wakeUp (2 ^ bit) env := by simp [State.wake, entering, committing, hm]
  rw [woken]
  exact .wakeUp _ _ env

end Sys2Proof.Machine

open Sys2Proof Sys2Proof.Machine

/-- Settles O17: the notice ends in PREPARE with what the DMA hold does not reach, a wake source before COMMIT prepares the present mode,
one in DORMANT starts the device, and the accesses of the Cocoon store are the writes of its registers. -/
theorem dormantEntryAndWake : Obligations.DormantEntryAndWake := by
  refine ⟨fun nav at_ cause s ⟨hs, hat⟩ => ?grace,
    fun env at_ cause s ⟨hs, hc⟩ ⟨hen, hnow, hasked⟩ => ⟨_, if_pos ⟨hen, hnow, .inr hasked⟩, wake_notice 0 env hs hc rfl⟩,
    fun pin rise env at_ cause s ⟨hs, hc⟩ hpin => ⟨_, if_pos hpin, wake_notice (2 + pin) env hs hc rfl⟩,
    fun env at_ cause s ⟨hs, hc⟩ hen => ⟨_, if_pos hen, wake_notice 1 env hs hc rfl⟩,
    fun env s ⟨hm, hs, hc⟩ ⟨hen, hnow⟩ => ⟨_, ?timer, .wake 0 env hm hs hc, (Keeps.wake .refl).queue⟩,
    fun pin rise env s ⟨hm, hs, hc⟩ hpin => ⟨_, if_pos hpin, .wake (2 + pin) env hm hs hc, (Keeps.wake .refl).queue⟩,
    fun env s ⟨hm, hs, hc⟩ hen => ⟨_, if_pos hen, .wake 1 env hm hs hc, (Keeps.wake .refl).queue⟩,
    fun m v s ⟨hm, hv⟩ hw => ⟨_, rfl, ?write⟩, fun m s hm hgood => ⟨_, execCocDataRead_eq hm hgood, rfl, ?read⟩,
    fun nav s hm => ⟨_, if_pos hm, ?refresh⟩⟩
  case grace =>
    obtain ⟨b, hb, hu⟩ := s.graceOver_unmoved nav
    obtain ⟨t, ht, keeps⟩ := execDormantGraceExpiry_completes (nav := nav) (s := s)
    have eq := Host.Outcome.next.inj (ht.symm.trans (execDormantGraceExpiry_eq nav hs hat))
    have change := hu.newChange .dormant cause false
    have boot : t.boot = (s.graceOver nav).boot := by
      rw [eq, State.prepare_boot]
    refine ⟨t, ht, ?_, ?_, ?_, ?_, keeps.queue⟩
    · rw [eq, State.prepare_eq]
    · rw [eq, State.prepare_eq, State.newChange_holdAt, change]
      rfl
    · rw [eq, State.prepare_eq]
      rfl
    · rw [boot, hu.boot, hb]
  case timer =>
    have entering : s.entering = false := by simp [State.entering, hs, hc]
    exact if_pos ⟨hen, hnow, .inl (by rw [entering]; rfl)⟩
  case write =>
    have may : (m == .mp || m == .gauntlet || (m == .jtag && s.debugFull)) = true := by rcases hm with rfl | rfl <;> rfl
    obtain ⟨b, hb⟩ := State.coPut_eq (s := s) hw
    have written : s.actWrite m _ .aon (bMpc + 0x150) (fun t => t.coPut v) = _ := State.actWrite_ok _ _ _ _ _ _ may hv
    rw [written, hb]
    refine ⟨?_, ?_, ?_, ?_, .of_mem ?_, ?_⟩
    · rw [State.answer_cocoon, State.sets_cocoon, lookupD_assocSet_same]
    · rw [State.get_answer, State.get_sets (by rfl)]
      rfl
    · rw [State.get_answer, State.get_sets_last (by rfl) rfl]
      exact Nat.mod_eq_of_lt (Nat.mod_lt _ (by decide))
    · obtain ⟨c, h⟩ := State.sets_eq { s with cocoon := assocSet (s.get bMpc Rg.COC_ADDR.WORD) (v % 2 ^ 64) s.cocoon, boot := b } bMpc
        [(Rg.COC_CTRL.VALID, 0), (Rg.COC_ADDR.WORD, (s.get bMpc Rg.COC_ADDR.WORD + 1) % 32768)]
      rw [h]
      rfl
    · rw [State.answer_mem, State.sets_mem]
    · have kept : RegsKept [wMpc] s { s with cocoon := assocSet (s.get bMpc Rg.COC_ADDR.WORD) (v % 2 ^ 64) s.cocoon, boot := b } :=
        .of_cells rfl
      exact (kept.setsMpc (by decide) (by rfl)).cells (State.answer_cells _ _ _)
  case read =>
    refine ⟨?_, rfl, .of_mem rfl, ?_⟩
    · exact (State.get_set_same _ _ _ _).trans (Nat.mod_eq_of_lt (Nat.mod_lt _ (by decide)))
    · exact ((RegsKept.refl _ s).setMpc (by decide) Rg.COC_ADDR.WORD _ (by decide) (by decide)).cells rfl
  case refresh =>
    obtain ⟨w, b, hb, hw⟩ := s.cocoonWrite_eq nav
    have kept : RegsKept [wMpc] s (s.sets bMpc [(Rg.COC_CTRL.VALID, 1), (Rg.COC_CTRL.FMT, 1), (Rg.COC_ADDR.WORD, 0),
        (Rg.COC_TIME.INSTANT, s.now)]) := (RegsKept.refl _ s).setsMpc (by decide) (by rfl)
    rw [hw]
    refine ⟨?_, ?_, hb, ?_, ?_, kept.cells rfl⟩
    · rw [State.get_withCocoon, State.get_sets_last (by rfl) rfl]
      rfl
    · rw [State.get_withCocoon, State.get_sets_last (by rfl) rfl]
      rfl
    · obtain ⟨c, h⟩ := s.sets_eq bMpc [(Rg.COC_CTRL.VALID, 1), (Rg.COC_CTRL.FMT, 1), (Rg.COC_ADDR.WORD, 0),
        (Rg.COC_TIME.INSTANT, s.now)]
      rw [h]
    · exact .of_mem (State.sets_mem _ _ _)

end

section
/-! SUPPORT. The answer of a Yupex operation (R475, R476): what it sends, what it keeps, and what it leaves alone. -/

set_option Elab.async false

namespace Sys2Proof.Machine

variable {s t : State} {ws : List (Nat × Nat)} {r : YxReq} {op fstat status : Nat} {data : List Byte}

/-! ### Response frames -/

theorem length_leBytes (n v : Nat) : (leBytes n v).length = n := by
  induction n generalizing v with
  | zero => rfl
  | succ n ih => rw [leBytes, List.length_cons, ih]

theorem length_padTo (n : Nat) (l : List Byte) : (padTo n l).length = n := by
  simp only [padTo, List.length_take, List.length_append, List.length_replicate]
  omega

theorem length_yxFrame (op seq fstat : Nat) (p : List Byte) (tag : Option (List Byte → List Byte)) :
    (yxFrame op seq fstat p tag).length = 32 + p.length := by
  cases tag <;> simp [yxFrame, length_leBytes, length_padTo] <;> omega

/-! ### The response buffer -/

theorem RegShape.putBuf {b : Nat} {f : Fld} {i : Nat} {l : List Byte} (h : RegShape s t) : RegShape s (t.putBuf b f i l) := by
  fun_induction State.putBuf t b f i l with
  | case1 t i _ _ _ _ _ _ _ _ _ ih => exact ih (h.set _ _ _)
  | case2 => exact h
  | case3 => exact h.set _ _ _

theorem bYx_in_wYx {off : Nat} (ho : off < 0x1_0000) : wYx.1 ≤ (bYx + off) % 2 ^ 48 ∧ (bYx + off) % 2 ^ 48 < wYx.2 := by
  simp only [bYx, wYx]
  omega

theorem RegsKept.setYx (hk : RegsKept ws s t) (hw : wYx ∈ ws) (x v : Nat) (f : Fld) (ho : x + f.off < 0x1_0000) (hl : f.lo < 64) :
    RegsKept ws s (t.set (bYx + x) f v) := by
  obtain ⟨low, high⟩ := bYx_in_wYx ho
  exact hk.set _ _ _ wYx hw (by rwa [Nat.add_assoc]) (by rwa [Nat.add_assoc]) hl

/-- A response written from word `i` on, within the mailbox. -/
theorem RegsKept.putBuf (hk : RegsKept ws s t) (hw : wYx ∈ ws) {i : Nat} {l : List Byte} (hi : i * 8 + l.length ≤ 0x1000) :
    RegsKept ws s (t.putBuf bYx Rg.YX_RESPBUF.DATA i l) := by
  have word {t : State} (h : RegsKept ws s t) (j v : Nat) (hj : j * 8 ≤ 0x1000) :
      RegsKept ws s (t.set (bYx + j * 8) Rg.YX_RESPBUF.DATA v) :=
    h.setYx hw (j * 8) v _ (by simp only [Rg.YX_RESPBUF.DATA]; omega) (by decide)
  generalize hb : bYx = b at *
  generalize hf : Rg.YX_RESPBUF.DATA = f at *
  fun_induction State.putBuf t b f i l with
  | case1 t i _ _ _ _ _ _ _ _ _ ih =>
    simp only [List.length_cons] at hi
    exact ih (word hk i _ (by omega)) (by omega)
  | case2 => exact hk
  | case3 t i => exact word hk i _ (by omega)

/-! ### The answer -/

/-- The request `r` has been answered from `s` on: its response is the last of its source, no operation is served, and the registers of
the mailbox, pending toggles, the mailbox and the endpoint apart nothing has changed. -/
def Answered (r : YxReq) (fstat : Nat) (p : List Byte) (s t : State) : Prop :=
  ∃ c g y q, t = { s with cells := c, toggles := g, yx := y, pcie := q } ∧ y.serving = none ∧ y.last.getLast? = some ⟨r, fstat, p⟩ ∧
    RegsKept [wYx] s t

theorem State.msix_eq (s : State) (v : Nat) : ∃ q, s.msix v = { s with pcie := q } := by
  unfold State.msix
  split
  · exact ⟨_, rfl⟩
  · exact ⟨_, rfl⟩

/-- What a response sent leaves beside the mailbox and the endpoint. -/
theorem State.yxSend_shape (s : State) (r : YxReq) (fstat : Nat) (p : List Byte) :
    ∃ c g x a q, s.yxSend r fstat p = { s with cells := c, toggles := g, yx := { s.yx with sent := x, abandoned := a }, pcie := q } := by
  unfold State.yxSend
  extract_lets f y t
  split
  · exact ⟨_, _, _, _, _, rfl⟩
  · split
    · exact ⟨_, _, _, _, _, rfl⟩
    · obtain ⟨c, g, ht⟩ : RegShape s t := (RegShape.putBuf (.refl s)).set _ _ _
      obtain ⟨c', g', hu⟩ : RegShape s ((t.set bYx Rg.YX_STAT.RESP_RDY 1).toggle 25) :=
        (((RegShape.putBuf (.refl s)).set _ _ _).set _ _ _).toggle 25
      split
      · exact ⟨c, g, _, _, _, ht⟩
      · obtain ⟨q, hq⟩ := ((t.set bYx Rg.YX_STAT.RESP_RDY 1).toggle 25).msix_eq 0
        rw [hq, hu]
        exact ⟨_, _, _, _, _, rfl⟩

theorem RegsKept.yxSend (s : State) (r : YxReq) (fstat : Nat) {p : List Byte} (hp : p.length ≤ 0xF00) :
    RegsKept [wYx] s (s.yxSend r fstat p) := by
  unfold State.yxSend
  extract_lets f y t
  have length : f.length = 32 + p.length := length_yxFrame _ _ _ _ _
  have sent : RegsKept [wYx] s t :=
    ((RegsKept.refl _ s).putBuf (by decide) (by omega)).setYx (by decide) 0 0 Rg.YX_STAT.BUSY (by decide) (by decide)
  split
  · exact .of_cells rfl
  · split
    · exact (RegsKept.of_cells rfl).setYx (by decide) 0 0 Rg.YX_STAT.BUSY (by decide) (by decide)
    · split
      · exact sent
      · exact ((sent.setYx (by decide) 0 1 Rg.YX_STAT.RESP_RDY (by decide) (by decide)).cells (State.toggle_cells _ _)).cells
          (State.msix_cells _ _)

/-- An operation answered, of the request now served. -/
theorem Answered.yxReply (hs : s.yx.serving = some r) (ho : yxOp r.frame = op) (hd : data.length ≤ 0x800) :
    Answered r fstat (BitVec.ofNat 8 status :: data) s (s.yxReply op fstat status data) := by
  obtain ⟨c, g, x, a, q, h⟩ := s.yxSend_shape r fstat (BitVec.ofNat 8 status :: data)
  have sent : RegsKept [wYx] s (s.yxSend r fstat (BitVec.ofNat 8 status :: data)) := .yxSend s r fstat (by rw [List.length_cons]; omega)
  have reply : s.yxReply op fstat status data =
      let t := (s.yxSend r fstat (BitVec.ofNat 8 status :: data)).yxKeep r fstat (BitVec.ofNat 8 status :: data)
      { t with yx := { t.yx with serving := none } } := by
    simp only [State.yxReply, hs, ho, if_true]
  generalize s.yxSend r fstat (BitVec.ofNat 8 status :: data) = u at h sent reply
  subst h
  rw [reply]
  exact ⟨_, _, _, _, rfl, rfl, List.getLast?_concat .., sent.cells rfl⟩

/-- An update operation answered: its status is the last one (R476). -/
theorem Answered.updReply (hs : s.yx.serving = some r) (ho : yxOp r.frame = op) (hd : data.length ≤ 0x800) :
    Answered r (b2n (status == 1)) (BitVec.ofNat 8 status :: data) { s with upd := { s.upd with last := status } }
      (s.updReply op status data) := by
  obtain ⟨c, g, y, q, h, serving, last, kept⟩ := Answered.yxReply (fstat := b2n (status == 1)) (status := status) hs ho hd
  refine ⟨c, g, y, q, ?_, serving, last, ?_⟩
  · rw [State.updReply, h]
  · exact kept

/-- What an update operation shows that has made `v` of the update state: the answer, its status as the last one, and its frame. -/
theorem updReply_shown {v : Upd} {n : Nat} (hs : s.yx.serving = some r) (ho : yxOp r.frame = op) (hd : data.length ≤ 0x800)
    (ht : State.updReply { s with upd := v, free := n } op status data = t) :
    t.upd = { v with last := status } ∧ t.yx.serving = none ∧
      t.yx.last.getLast? = some ⟨r, b2n (status == 1), BitVec.ofNat 8 status :: data⟩ ∧
      Frame [wYx] s t { s with cells := t.cells, upd := t.upd, yx := t.yx, toggles := t.toggles, pcie := t.pcie, free := n } := by
  obtain ⟨c, g, y, q, hc, serving, last, kept⟩ :=
    Answered.updReply (s := { s with upd := v, free := n }) (status := status) (data := data) hs ho hd
  rw [hc] at kept
  obtain rfl := ht.symm.trans hc
  exact ⟨rfl, serving, last, rfl, .of_mem rfl, RegsKept.trans (.of_cells rfl) kept⟩

end Sys2Proof.Machine
end

section
/-! PROOF. Update sessions (R132–R135, R476, R477). -/

set_option Elab.async false

namespace Sys2Proof.Machine

variable {s t : State} {r : YxReq} {u : UpdSess}

/-! ### Banks and sessions (R132, R133) -/

theorem Upd.bank_setBank {u : Upd} {b : Nat} (hb : b < u.banks.length) (x : Bank) : (u.setBank b x).bank b = x :=
  listSet_getD_same _ _ _ _ hb

/-- A staging operation of the request now served. -/
theorem State.updOp_eq {op : Nat} (hs : s.yx.serving = some r) (ho : yxOp r.frame = op) (hm : s.staging = true) (f : List Byte → State) :
    s.updOp op f = f (yxPayload r.frame) := by
  simp only [State.updOp, State.yxServing, hs, ho, hm, if_true]

/-- The session, renewed by an operation. -/
def UpdSess.renewed (u : UpdSess) (s : State) : UpdSess := { u with last := s.now }

/-- The update state with its session renewed. -/
def State.updRenewed (s : State) (u : UpdSess) : Upd := { s.upd with sess := some (u.renewed s) }

theorem State.session_eq (hs : s.upd.sess = some u) (ho : u.open_ = true) {p : List Byte} (hid : leAt p 0 2 = u.id) :
    s.session p = some ({ s with upd := s.updRenewed u }, u.renewed s) := by
  simp only [State.session, hs]
  exact if_pos ⟨ho, hid⟩

/-- The update state with a bank replaced and the session renewed. -/
def State.updStored (s : State) (u : UpdSess) (b : Bank) : Upd := (s.updRenewed u).setBank u.bank b

theorem State.bank_updStored (hb : u.bank < s.upd.banks.length) (b : Bank) : (s.updStored u b).bank u.bank = b :=
  Upd.bank_setBank hb b

/-! ### The operations of a session (R133–R135) -/

theorem execUpdBegin_eq {b : Nat} (hr : s.yx.serving = some r) (ho : yxOp r.frame = 0x40) (hm : s.staging = true)
    (hs : s.upd.sess = none) (hp : s.upd.pick = some b) : execUpdBegin s = .next (State.updReply { s with
      upd := { s.upd.setBank b { (Bank.empty) with st := 1 } with sess := some ⟨(Config.sessionId s.free).toNat, b, false, s.now⟩ }
      free := s.free + 1 } 0x40 1 []) := by
  rw [execUpdBegin, State.updOp_eq hr ho hm]
  simp only [State.updBegin, hs, hp]
  rfl

theorem execBankEraseDone_eq (hs : s.upd.sess = some u) (hopen : u.open_ = false) : execBankEraseDone true s =
    .next (State.yxFinish { s with upd := { s.upd with sess := some { u with open_ := true, last := s.now }, last := 0 } } 0x40 0
      (leBytes 2 u.id ++ leBytes 1 u.bank)) := by
  simp [execBankEraseDone, hs, hopen]

/-- A bank with one more header. -/
def Bank.withHead (b : Bank) (h : List Byte) : Bank := { b with heads := b.heads ++ [(hdrType h, h)] }

theorem execUpdHeader_eq (hr : s.yx.serving = some r) (ho : yxOp r.frame = 0x41) (hm : s.staging = true) (hs : s.upd.sess = some u)
    (hopen : u.open_ = true) (hid : leAt (yxPayload r.frame) 0 2 = u.id) {h : List Byte}
    (hh : padTo 4096 ((yxPayload r.frame).drop 2) = h) {c : Nat} (hc : s.headerStatus (s.upd.bank u.bank) h = c) :
    execUpdHeader s = .next (State.updReply (if c = 0 then { s with upd := s.updStored u ((s.upd.bank u.bank).withHead h) }
      else { s with upd := s.updRenewed u }) 0x41 c []) := by
  subst hh hc
  rw [execUpdHeader, State.updOp_eq hr ho hm]
  simp only [State.session_eq hs hopen hid]
  rfl

/-- A bank with one more block. -/
def Bank.withBlock (b : Bank) (typ off : Nat) (data : List Byte) : Bank := { b with blocks := b.blocks ++ [(typ, off, data)] }

/-- A block stored is held. -/
theorem Bank.block_withBlock {b : Bank} {typ off : Nat} (hb : b.block typ off = none) (data : List Byte) :
    (b.withBlock typ off data).block typ off = some data := by
  have missing : b.blocks.find? (fun x => x.1 == typ && x.2.1 == off) = none := Option.map_eq_none_iff.1 hb
  simp [Bank.withBlock, Bank.block, List.find?_append, missing]

theorem execUpdBlock_eq (hfl : s.log.flush ≠ .emergency) (hr : s.yx.serving = some r) (ho : yxOp r.frame = 0x42)
    (hm : s.staging = true) (hs : s.upd.sess = some u) (hopen : u.open_ = true) {p : List Byte} (hp : yxPayload r.frame = p)
    (hid : leAt p 0 2 = u.id) {hd : List Byte} (hh : (s.upd.bank u.bank).head (leAt p 2 1) = some hd) (ha : leAt p 3 4 % 4096 = 0)
    (hlt : leAt p 3 4 < hdrLen hd) (hnew : (s.upd.bank u.bank).block (leAt p 2 1) (leAt p 3 4) = none) :
    execUpdBlock true s = .next (State.updReply { s with
      upd := s.updStored u ((s.upd.bank u.bank).withBlock (leAt p 2 1) (leAt p 3 4) (padTo 4096 (p.drop 7))) } 0x42 0 []) := by
  subst hp
  have bank : (s.updRenewed u).bank (u.renewed s).bank = s.upd.bank u.bank := rfl
  have inside : ¬(leAt (yxPayload r.frame) 3 4 % 4096 ≠ 0 ∨ hdrLen hd ≤ leAt (yxPayload r.frame) 3 4) := by omega
  rw [execUpdBlock, State.updOp_eq hr ho hm]
  simp only [State.session_eq hs hopen hid, bank, hh, if_neg inside, hnew, true_and, if_pos hfl]
  rfl

/-- A session ended, its bank ABORTED. -/
theorem State.updAbort_eq (hs : s.upd.sess = some u) :
    s.updAbort = { s with upd := { s.upd.setBank u.bank { s.upd.bank u.bank with st := 7 } with sess := none } } := by
  simp only [State.updAbort, hs]

theorem execUpdAbort_eq (hr : s.yx.serving = some r) (ho : yxOp r.frame = 0x44) (hm : s.staging = true) (hs : s.upd.sess = some u)
    (hopen : u.open_ = true) (hid : leAt (yxPayload r.frame) 0 2 = u.id) : execUpdAbort s = .next (State.updReply { s with
      upd := { s.updStored u { s.upd.bank u.bank with st := 7 } with sess := none } } 0x44 0 []) := by
  rw [execUpdAbort, State.updOp_eq hr ho hm]
  simp only [State.session_eq hs hopen hid]
  rfl

theorem execUpdStatus_eq (hr : s.yx.serving = some r) (ho : yxOp r.frame = 0x45) :
    execUpdStatus s = .next (s.yxReply 0x45 0 0 s.updStatus) := by
  simp only [execUpdStatus, State.yxServing, hr, ho, if_true]

theorem State.length_updStatus (s : State) : s.updStatus.length = 17 := by
  simp [State.updStatus, length_leBytes]

theorem execSessionTimeout_eq (hs : s.upd.sess = some u) (hlast : u.last + 600000000000 ≤ s.now) :
    execSessionTimeout s = .next s.updAbort := by
  simp only [execSessionTimeout, hs, if_pos hlast]

end Sys2Proof.Machine

open Sys2Proof Sys2Proof.Machine

/-- Settles O18: each operation answers through the mailbox what it has made of the banks and the session. -/
theorem updateSessionsRun : Obligations.UpdateSessionsRun := by
  refine ⟨?start, ?erased, ?refused, ?kept, ?block, ?abort, ?status, ?timeout⟩
  case start =>
    rintro r b s ⟨hr, ho, hm⟩ ⟨hs, hp, hb⟩
    refine ⟨_, execUpdBegin_eq hr ho hm hs hp, ?_⟩
    obtain ⟨upd, serving, last, frame⟩ := updReply_shown (data := []) hr ho (by decide) rfl
    have bank := Upd.bank_setBank hb { (Bank.empty) with st := 1 }
    refine ⟨?_, ?_, ?_, serving, last, ?_, frame⟩
    · rw [upd]
    · rw [upd]
      exact congrArg Bank.st bank
    · rw [upd]
      exact congrArg Bank.blocks bank
    · rw [upd]
  case erased =>
    rintro ok u s ⟨rfl, hs, hopen⟩
    exact ⟨_, execBankEraseDone_eq hs hopen, rfl, rfl, rfl, .of_mem rfl, .of_cells rfl⟩
  case refused =>
    rintro r u s ⟨hr, ho, hm⟩ ⟨hs, hopen, hid, hb⟩ hc
    refine ⟨_, execUpdHeader_eq hr ho hm hs hopen hid rfl rfl, ?_⟩
    rw [if_neg hc]
    obtain ⟨upd, serving, -, frame⟩ := updReply_shown (data := []) hr ho (by decide) rfl
    exact ⟨upd, serving, frame⟩
  case kept =>
    rintro r u s ⟨hr, ho, hm⟩ ⟨hs, hopen, hid, hb⟩ hc
    refine ⟨_, execUpdHeader_eq hr ho hm hs hopen hid rfl hc, ?_⟩
    rw [if_pos rfl]
    obtain ⟨upd, serving, -, frame⟩ := updReply_shown (data := []) hr ho (by decide) rfl
    refine ⟨?_, serving, ?_, ?_, frame⟩
    · rw [upd]
      exact congrArg Bank.heads (State.bank_updStored hb _)
    · rw [upd]
    · rw [upd]
      rfl
  case block =>
    rintro ok r u hd s ⟨rfl, hfl, hr, ho, hm⟩ ⟨hs, hopen, hid, hb⟩ ⟨hh, ha, hlt⟩ hnew
    refine ⟨_, execUpdBlock_eq hfl hr ho hm hs hopen rfl hid hh ha hlt hnew, ?_⟩
    obtain ⟨upd, serving, -, frame⟩ := updReply_shown (data := []) hr ho (by decide) rfl
    refine ⟨?_, serving, ?_, frame⟩
    · rw [upd]
      exact (congrArg (Bank.block · _ _) (State.bank_updStored hb _)).trans (Bank.block_withBlock hnew _)
    · rw [upd]
  case abort =>
    rintro r u s ⟨hr, ho, hm⟩ ⟨hs, hopen, hid, hb⟩
    refine ⟨_, execUpdAbort_eq hr ho hm hs hopen hid, ?_⟩
    obtain ⟨upd, serving, -, frame⟩ := updReply_shown (data := []) hr ho (by decide) rfl
    refine ⟨?_, ?_, ?_, serving, frame⟩
    · rw [upd]
    · rw [upd]
      exact congrArg Bank.st (State.bank_updStored hb _)
    · rw [upd]
  case status =>
    rintro r s ⟨hr, ho⟩
    refine ⟨_, execUpdStatus_eq hr ho, ?_⟩
    obtain ⟨c, g, y, q, h, serving, last, kept⟩ :=
      Answered.yxReply (fstat := 0) (status := 0) hr ho (s.length_updStatus.trans_le (by decide))
    rw [h] at kept ⊢
    exact ⟨serving, last, rfl, .of_mem rfl, kept⟩
  case timeout =>
    rintro u s ⟨hs, hlast, hb⟩
    refine ⟨_, execSessionTimeout_eq hs hlast, ?_⟩
    rw [State.updAbort_eq hs]
    exact ⟨rfl, congrArg Bank.st (Upd.bank_setBank hb _), rfl, rfl, .of_mem rfl, .of_cells rfl⟩

end

section
/-! PROOF. FINALIZE (R136). -/

set_option Elab.async false

namespace Sys2Proof.Machine

variable {s t : State} {r : YxReq} {u : UpdSess}

/-! ### The checks of a set -/

theorem State.finalCheck_of_empty {b : Bank} (hb : b.heads = []) : s.finalCheck b = (s, 0x35, 0) := if_pos hb

/-- A set without a structure image that passes every check. -/
theorem State.finalCheck_of_ok {b : Bank} (hb : b.heads ≠ []) (hfull : b.heads.all (fun y => b.full y.1 y.2) = true)
    (hhash : b.heads.all (fun y => hashOk y.2 (b.image y.1 y.2)) = true) (h4 : b.head 4 = none)
    (hif : ifConflict (s.upd.merged b.heads) = none) : s.finalCheck b = (s, 0, 0) := by
  have whole : b.heads.find? (fun x => !b.full x.1 x.2) = none := by
    simpa [List.find?_eq_none] using hfull
  have hashed : b.heads.find? (fun x => !hashOk x.2 (b.image x.1 x.2)) = none := by
    simpa [List.find?_eq_none] using hhash
  simp only [State.finalCheck, if_neg hb, whole, hashed, h4, hif]

/-! ### The banks after FINALIZE -/

/-- What becomes of a bank when a set becomes FINAL: an earlier FINAL one is SUPERSEDED. -/
def Bank.superseded (b : Bank) : Bank := if b.st = 2 then { b with st := 6 } else b

/-- The update state with the session's bank FINAL. -/
def Upd.final (v : Upd) (n : Nat) (b : Bank) : Upd :=
  { ({ v with banks := v.banks.map Bank.superseded }).setBank n { b with st := 2 } with sess := none }

theorem Upd.bank_final_same {v : Upd} {n : Nat} (hn : n < v.banks.length) (b : Bank) : (v.final n b).bank n = { b with st := 2 } :=
  Upd.bank_setBank (u := { v with banks := v.banks.map Bank.superseded }) (by simpa using hn) _

theorem listSet_getD_ne {α : Type} (v x : α) : ∀ (l : List α) (i j : Nat), i ≠ j → (listSet l i v).getD j x = l.getD j x
  | [], _, _, _ => rfl
  | _ :: _, 0, 0, h => absurd rfl h
  | _ :: _, 0, _ + 1, _ => rfl
  | _ :: _, _ + 1, 0, _ => rfl
  | _ :: t, i + 1, j + 1, h => by
    simpa [listSet] using listSet_getD_ne v x t i j (by omega)

theorem Upd.bank_final_ne {v : Upd} {n k : Nat} (hk : n ≠ k) (b : Bank) : (v.final n b).bank k = (v.bank k).superseded := by
  refine (listSet_getD_ne _ _ _ _ _ hk).trans ?_
  exact List.getD_map v.banks Bank.empty Bank.superseded

theorem Bank.st_superseded (b : Bank) : b.superseded.st = if b.st = 2 then 6 else b.st := by
  unfold Bank.superseded
  split <;> rfl

/-! ### UPD_FINALIZE -/

theorem execUpdFinalize_refused (hr : s.yx.serving = some r) (ho : yxOp r.frame = 0x43) (hm : s.staging = true)
    (hs : s.upd.sess = some u) (hopen : u.open_ = true) (hid : leAt (yxPayload r.frame) 0 2 = u.id) {c k : Nat} (hc : c ≠ 0)
    (hf : State.finalCheck { s with upd := s.updRenewed u } (s.upd.bank u.bank) = ({ s with upd := s.updRenewed u }, c, k)) :
    execUpdFinalize s = .next (State.updReply { s with upd := s.updRenewed u } 0x43 c (leBytes 1 k)) := by
  have bank : (s.updRenewed u).bank (u.renewed s).bank = s.upd.bank u.bank := rfl
  rw [execUpdFinalize, State.updOp_eq hr ho hm]
  simp only [State.session_eq hs hopen hid, bank, hf, if_neg hc]

theorem execUpdFinalize_final (hr : s.yx.serving = some r) (ho : yxOp r.frame = 0x43) (hm : s.staging = true)
    (hs : s.upd.sess = some u) (hopen : u.open_ = true) (hid : leAt (yxPayload r.frame) 0 2 = u.id)
    (hf : State.finalCheck { s with upd := s.updRenewed u } (s.upd.bank u.bank) = ({ s with upd := s.updRenewed u }, 0, 0)) :
    execUpdFinalize s = .next (State.updReply { s with upd := (s.updRenewed u).final u.bank (s.upd.bank u.bank) } 0x43 0
      (leBytes 1 0)) := by
  have bank : (s.updRenewed u).bank (u.renewed s).bank = s.upd.bank u.bank := rfl
  rw [execUpdFinalize, State.updOp_eq hr ho hm]
  simp only [State.session_eq hs hopen hid, bank, hf, if_true]
  rfl

end Sys2Proof.Machine

open Sys2Proof Sys2Proof.Machine

/-- Settles O19: an empty set answers 0x35 and renews the session; a set that passes every check becomes FINAL. -/
theorem finalizeChecksTheSet : Obligations.FinalizeChecksTheSet := by
  refine ⟨?empty, ?final⟩
  case empty =>
    rintro r u s ⟨hr, ho, hm⟩ ⟨hs, hopen, hid⟩ hb
    refine ⟨_, execUpdFinalize_refused hr ho hm hs hopen hid (by decide) (State.finalCheck_of_empty hb), ?_⟩
    obtain ⟨upd, serving, -, frame⟩ := updReply_shown (data := leBytes 1 0) hr ho (by decide) rfl
    exact ⟨upd, serving, frame⟩
  case final =>
    rintro r u s ⟨hr, ho, hm, hs, hopen, hid, hb, hlen⟩ ⟨hne, hfull, h4, hif⟩ hhash
    refine ⟨_, execUpdFinalize_final hr ho hm hs hopen hid (State.finalCheck_of_ok hne hfull hhash h4 hif), ?_⟩
    obtain ⟨upd, serving, -, frame⟩ := updReply_shown (data := leBytes 1 0) hr ho (by decide) rfl
    refine ⟨⟨?_, ?_⟩, ?_, ?_, ?_, serving, frame⟩
    · rw [upd]
      exact Upd.bank_final_same (v := s.updRenewed u) (hb.trans_eq hlen.symm) _
    · rw [upd]
      exact (congrArg Bank.st (Upd.bank_final_ne (v := s.updRenewed u) (by omega) _)).trans (Bank.st_superseded _)
    · rw [upd]
      rfl
    · rw [upd]
    · rw [upd]
      rfl

end

section
/-! PROOF. A step with no command waiting, and the runs of the scale to its instants (R142, R143, R164). -/

set_option Elab.async false

namespace Sys2Proof.Machine

variable {s : State}

theorem step_of_empty (h : s.pending = []) : step s = .next s.idle := by rw [step, h]

theorem State.idle_of_runs (h : s.timeRuns = true) : s.idle = s.ticks 1 1 := if_pos h

theorem State.idle_of_stopped (h : s.timeRuns = false) : s.idle = s := if_neg (by simp [h])

/-- Where the next special edge is a second boundary, the run to the boundary ends on that edge. -/
theorem State.toSecond_succ (h : s.edgesToNext = s.edgesToSecond) (f : Nat) : s.toSecond (f + 1) = s.runEdges s.edgesToNext := if_pos h

/-- LEAP_APPLY where the next special edge is the second boundary on which the armed leap is taken. -/
theorem execLeapApply_eq (hr : s.timeRuns = true) (hb : s.edgesToNext = s.edgesToSecond) (hl : s.time.leap = true)
    (ht : (s.runEdges s.edgesToNext).time.leap = false) : execLeapApply s = .next (s.runEdges s.edgesToNext) := by
  simp only [execLeapApply, State.toSecond_succ hb, hr, hl, ht, Bool.not_false, and_self, if_true]

/-- A leap taken: UTC_OFS takes NEXT_OFS, of which its 16 bits hold the low 16. -/
theorem State.get_takeLeap_utcOfs (hl : s.time.leap = true) (hd : s.get bTime Rg.LEAP_AT.INSTANT ≤ s.now) :
    s.takeLeap.get bTime Rg.UTC_CTRL.UTC_OFS = s.get bTime Rg.UTC_CTRL.NEXT_OFS % 2 ^ 16 := by
  rw [State.takeLeap, if_pos ⟨hl, hd⟩, State.get_event_ne _ _ _ _ _ _ (by decide), State.get_set_same]
  rfl

/-- The reset state with the TIME clock locked, one edge before a second boundary, a leap armed for 1 ns, and 2^16 for NEXT_OFS, which
is one more than its 16 bits can hold. -/
def State.leapWide : State :=
  { State.reset with
    cells := [(fldKey Rg.ISL_STAT.CLK_LOCK (islBase 3), 1), (fldKey Rg.UTC_CTRL.NEXT_OFS bTime, 2 ^ 16),
      (fldKey Rg.LEAP_AT.INSTANT bTime, 1)],
    time := { State.reset.time with ns := 999999996, sec := 999999996 * 2 ^ 32, leap := true } }

theorem State.edgesToNext_leapWide : State.leapWide.edgesToNext = 1 := by decide +kernel

theorem State.edgesToSecond_leapWide : State.leapWide.edgesToSecond = 1 := by decide +kernel

theorem exec_leapApply_leapWide : exec .leapApply State.leapWide = .next (State.leapWide.runEdges 1) := by
  have taken : (State.leapWide.runEdges State.leapWide.edgesToNext).time.leap = false := by decide +kernel
  refine (execLeapApply_eq (by decide +kernel) ?_ rfl taken).trans ?_
  · rw [State.edgesToNext_leapWide, State.edgesToSecond_leapWide]
  · rw [State.edgesToNext_leapWide]

/-- `State.leapWide` on the boundary, before the leap is taken. -/
def State.leapWideDue : State :=
  { State.leapWide with
    time := { State.leapWide.time with ns := 1000000000, sec := 0, bound := 1000000000 } }

/-- Of what happens on that edge the leap alone writes registers. -/
theorem State.cells_runEdges_leapWide : (State.leapWide.runEdges 1).cells = State.leapWideDue.takeLeap.cells := rfl

theorem State.get_leapWide : State.leapWide.get bTime Rg.UTC_CTRL.NEXT_OFS = 2 ^ 16 := by decide

theorem State.get_runEdges_leapWide : (State.leapWide.runEdges 1).get bTime Rg.UTC_CTRL.UTC_OFS = 0 := by
  have next : State.leapWideDue.get bTime Rg.UTC_CTRL.NEXT_OFS = 2 ^ 16 := State.get_leapWide
  rw [State.get_congr_cells _ _ State.cells_runEdges_leapWide, State.get_takeLeap_utcOfs rfl (by decide), next, Nat.mod_self]

end Sys2Proof.Machine

open Sys2Proof Sys2Proof.Machine

/-- Settles O2: a step runs `idle`, which is one edge while the clock runs (log entry 3). -/
theorem idleStepTakesOneEdge : Obligations.IdleStepTakesOneEdge := by
  intro s hq
  refine ⟨fun hr => ?_, fun hr => ?_⟩
  · rw [step_of_empty hq, State.idle_of_runs hr]
  · rw [step_of_empty hq, State.idle_of_stopped hr]

/-- Refutes O22: its last clause does not bound what NEXT_OFS holds. A field of the model is cut to its width when it is written and
not when it is read, and the clause ranges over every state, so that UTC_OFS takes 0 from a NEXT_OFS of 2^16. -/
theorem not_scaleRunsToItsInstants : ¬ Obligations.ScaleRunsToItsInstants := by
  intro h
  obtain ⟨-, -, -, -, -, leapApply⟩ := h
  obtain ⟨t, ht, -, hofs, -⟩ := leapApply 1 State.leapWide
    ⟨by decide +kernel, State.edgesToNext_leapWide, State.edgesToSecond_leapWide, rfl, rfl, rfl, rfl, rfl, rfl, by decide +kernel⟩
    ⟨by decide +kernel, by decide +kernel⟩ ⟨rfl, by decide +kernel⟩
  obtain rfl : t = _ := Host.Outcome.next.inj (ht.symm.trans exec_leapApply_leapWide)
  rw [State.get_runEdges_leapWide, State.get_leapWide] at hofs
  exact absurd hofs (by decide)

end

section
/-! PROOF. An epoch of a COR tile of whose tracking channels one has no measurement (R217, log entry 7). -/

namespace Sys2Proof.Machine

/-- COR tile 0 with two lanes, both in SYNCED, and an epoch of its grid due. -/
def State.twoTracking : State :=
  { State.reset with
    cells := [(fldKey Rg.CH_STAT.STATE (chBase 0), 3), (fldKey Rg.CH_STAT.STATE (chBase 1), 3)]
    power := { State.reset.power with fa := true }
    img := { State.reset.img with lanes := [(chPos 0, 2)] }
    gnss := { State.reset.gnss with grids := [⟨0, some 0⟩] } }

/-- A measurement of lane 0. -/
def laneZeroMeas : ChMeas := ⟨0, 0, 0, 0, 0⟩

/-- The items of COR tile `inst` at an epoch, in the order of its lanes. -/
def State.laneItems (s : State) (inst epoch : Nat) (ms : List ChMeas) : State :=
  (List.range 32).foldl (fun u l => u.measItem inst epoch ms l) s

/-- An epoch that is due, without navigation symbols, draws the free values that its items draw. -/
theorem exec_measEpoch_free {s : State} {inst e : Nat} {g : Grid} {ms : List ChMeas} (hg : s.gnss.grids.getD inst ⟨0, none⟩ = g)
    (hn : g.nxt = some e) (hi : inst < 16) (he : e ≤ s.nowNs) (hon : s.instanced (chPos (inst * 32)) = true) :
    ∃ t, exec (.measEpoch inst ms []) s = .next t ∧ t.free = (s.laneItems inst e ms).free := by
  have pos : chPos (inst * 32) = (tilePositions .cor).getD inst 99 :=
    congrArg ((tilePositions .cor).getD · 99) (Nat.mul_div_cancel inst (by decide : 0 < 32))
  rw [pos] at hon
  show ∃ t, execMeasEpoch inst ms [] s = .next t ∧ _
  simp only [execMeasEpoch, hg, hn, hi, he, hon, and_self, if_true, List.foldl_nil]
  exact ⟨_, rfl, rfl⟩

/-- Lane 1 tracks and the command brings no measurement of it: its correlators hold free values, and four are drawn. -/
theorem State.free_laneItems_twoTracking :
    (State.twoTracking.laneItems 0 0 [laneZeroMeas]).free = State.twoTracking.free + 4 := by decide +kernel

end Sys2Proof.Machine

open Sys2Proof Sys2Proof.Machine

/-- Refutes O28: in its clause on the epoch of a COR tile the premise about the other lanes stands under `∀ k` together with all that
follows it, so that it need hold of one lane alone, and lane `x.lane` itself meets it. A second lane that tracks then has no measurement
and draws free values, and the frame keeps `State.free`. -/
theorem not_searchesAndChannelsRun : ¬ Obligations.SearchesAndChannelsRun := by
  intro h
  obtain ⟨-, -, -, -, -, -, -, -, -, -, -, -, -, measEpoch⟩ := h
  obtain ⟨t, ht, -, -, -, -, frame, -⟩ := measEpoch 0 0 ⟨0, some 0⟩ laneZeroMeas State.twoTracking
    ⟨by decide, rfl, rfl, by decide +kernel, by decide +kernel⟩ 0 (by decide) (.inl rfl)
    ⟨by decide, by decide +kernel, by decide +kernel⟩
  obtain ⟨u, hu, hfree⟩ := exec_measEpoch_free (s := State.twoTracking) (inst := 0) (ms := [laneZeroMeas]) rfl rfl (by decide)
    (by decide +kernel) (by decide +kernel)
  obtain rfl : t = u := Host.Outcome.next.inj (ht.symm.trans hu)
  have kept : t.free = State.twoTracking.free := (congrArg State.free frame :)
  have drawn := State.free_laneItems_twoTracking
  omega

end

section
/-! SUPPORT. Register blocks that lie in a window of a frame: RF sample ports, and the lanes of tiles. -/

set_option Elab.async false

namespace Sys2Proof.Machine

variable {s t : State} {ws : List (Nat × Nat)} {b n p : Nat} {f : Fld}

/-! ### Blocks in windows -/

/-- The first `n` bytes of the register block at `b` lie in one of the windows. -/
def Within (ws : List (Nat × Nat)) (b n : Nat) : Prop :=
  ∃ w ∈ ws, ∀ off < n, w.1 ≤ (b + off) % 2 ^ 48 ∧ (b + off) % 2 ^ 48 < w.2

theorem RegsKept.setIn (hk : RegsKept ws s t) (hb : Within ws b n) (v : Nat) (ho : f.off < n) (hl : f.lo < 64) :
    RegsKept ws s (t.set b f v) := by
  obtain ⟨w, hw, inside⟩ := hb
  exact hk.set b v f w hw (inside _ ho).1 (inside _ ho).2 hl

theorem RegsKept.setsIn (hk : RegsKept ws s t) (hb : Within ws b n) {l : List (Fld × Nat)}
    (hl : l.all (fun p => decide (p.1.off < n ∧ p.1.lo < 64)) = true) : RegsKept ws s (t.sets b l) := by
  induction l generalizing t with
  | nil => exact hk
  | cons p l ih =>
    obtain ⟨hp, hl⟩ := Bool.and_eq_true_iff.1 hl
    obtain ⟨ho, hlo⟩ := of_decide_eq_true hp
    exact ih (hk.setIn hb p.2 ho hlo) hl

theorem RegsKept.eventIn (hk : RegsKept ws s t) (hb : Within ws b n) (e : Nat) (ho : f.off < n) (hl : f.lo < 64) :
    RegsKept ws s (t.event e b f) := by
  obtain ⟨w, hw, inside⟩ := hb
  exact hk.event e b f w hw (inside _ ho).1 (inside _ ho).2 hl

theorem RegsKept.eventIfIn (hk : RegsKept ws s t) (hb : Within ws b n) (i : Bool) (e : Nat) (ho : f.off < n) (hl : f.lo < 64) :
    RegsKept ws s (t.eventIf i e b f) := by
  cases i with
  | false => exact hk
  | true => exact hk.eventIn hb e ho hl

/-- A command that writes registers in the windows, and stores nothing. -/
theorem RegShape.frame {s₀ : State} (hs : RegShape s t) (hm : s.mem = s₀.mem) (hk : RegsKept ws s₀ t) :
    Frame ws s₀ t { s with cells := t.cells, toggles := t.toggles } := by
  obtain ⟨c, g, rfl⟩ := hs
  exact ⟨rfl, .of_mem hm, hk⟩

/-- An event bit leaves the fields at other offsets of its register block alone. -/
theorem State.get_event_off (s : State) (e b : Nat) (f g : Fld) (h : g.off * 64 + g.lo ≠ f.off * 64 + f.lo) :
    (s.event e b f).get b g = s.get b g := by
  apply State.get_event_ne
  unfold fldKey
  omega

theorem State.get_eventIf_off (s : State) (i : Bool) (e b : Nat) (f g : Fld) (h : g.off * 64 + g.lo ≠ f.off * 64 + f.lo) :
    (s.eventIf i e b f).get b g = s.get b g := by
  cases i with
  | false => rfl
  | true => exact s.get_event_off e b f g h

/-! ### The blocks of the satellite chain -/

theorem rfBase_within (hw : wRf ∈ ws) (hp : p < 8) : Within ws (rfBase p) 0x1000 := by
  refine ⟨wRf, hw, fun off ho => ?_⟩
  simp only [wRf, rfBase, bRf]
  omega

theorem kindBase_within (hw : wTiles ∈ ws) (k : Blk) (inst x : Nat) (hx : x + n ≤ 0x100_0000) : Within ws (kindBase k inst + x) n := by
  have range := kindBase_range k inst
  refine ⟨wTiles, hw, fun off ho => ?_⟩
  simp only [wTiles]
  omega

theorem chBase_within (hw : wTiles ∈ ws) (c : Nat) : Within ws (chBase c) 0x2000 :=
  kindBase_within hw .cor (c / 32) (c % 32 * 0x80) (by omega)

theorem aqBase_within (hw : wTiles ∈ ws) (q : Nat) : Within ws (aqBase q) 0x2000 :=
  kindBase_within hw .acq (q / 8) (q % 8 * 0x100) (by omega)

theorem obBase_within (hw : wTiles ∈ ws) (i : Nat) : Within ws (obBase i) 0x4000 :=
  kindBase_within hw .obs i 0 (by decide)

end Sys2Proof.Machine
end

section
/-! SUPPORT. What the searches and channels of a port do when it fails, retrains or starts (R199, R213, R215, R221, R239). -/

set_option Elab.async false

namespace Sys2Proof.Machine

variable {s t u : State} {b n p : Nat} {f : Fld}

/-- What the searches, the channels and the encoder's causes can change of `s`: the registers of tiles and of the recorder, the channels'
own records, records and toggles; no port's own record. -/
structure ChanKept (s t : State) : Prop where
  shape : ∃ c g l k, t = { s with cells := c, gnss := g, log := l, toggles := k }
  ports : t.gnss.ports = s.gnss.ports
  regs : RegsKept [wRc, wTiles] s t

theorem ChanKept.refl (s : State) : ChanKept s s := ⟨⟨_, _, _, _, rfl⟩, rfl, .refl _ _⟩

theorem ChanKept.trans (h : ChanKept s t) (g : ChanKept t u) : ChanKept s u := by
  obtain ⟨⟨_, _, _, _, rfl⟩, ports, regs⟩ := h
  obtain ⟨⟨_, _, _, _, rfl⟩, ports', regs'⟩ := g
  exact ⟨⟨_, _, _, _, rfl⟩, ports'.trans ports, regs.trans regs'⟩

theorem ChanKept.ite {i : Prop} {_ : Decidable i} (ht : ChanKept s t) (hu : ChanKept s u) : ChanKept s (if i then t else u) := by
  split
  · exact ht
  · exact hu

theorem ChanKept.recShape (hs : RecShape s t) (hk : RegsKept [wRc, wTiles] s t) : ChanKept s t := by
  obtain ⟨c, g, l, rfl⟩ := hs
  exact ⟨⟨_, s.gnss, _, _, rfl⟩, rfl, hk⟩

theorem ChanKept.eachOf (h : ChanKept s t) {f : Nat → State → State} (hf : ∀ k u, ChanKept s u → ChanKept s (f k u)) (n : Nat) :
    ChanKept s (eachOf f n t) := by
  induction n with
  | zero => exact h
  | succ n ih => exact hf n _ ih

/-! ### Registers and records -/

theorem ChanKept.set (h : ChanKept s t) (hb : Within [wRc, wTiles] b n) (v : Nat) (ho : f.off < n) (hl : f.lo < 64) :
    ChanKept s (t.set b f v) :=
  h.trans (.recShape ((RecShape.refl t).shape ((RegShape.refl t).set _ _ _)) ((RegsKept.refl _ t).setIn hb v ho hl))

theorem ChanKept.sets (h : ChanKept s t) (hb : Within [wRc, wTiles] b n) {l : List (Fld × Nat)}
    (hl : l.all (fun p => decide (p.1.off < n ∧ p.1.lo < 64)) = true) : ChanKept s (t.sets b l) :=
  h.trans (.recShape ((RecShape.refl t).shape ((RegShape.refl t).sets _ _)) ((RegsKept.refl _ t).setsIn hb hl))

theorem ChanKept.event (h : ChanKept s t) (hb : Within [wRc, wTiles] b n) (e : Nat) (ho : f.off < n) (hl : f.lo < 64) :
    ChanKept s (t.event e b f) :=
  h.trans (.recShape ((RecShape.refl t).shape ((RegShape.refl t).event _ _ _)) ((RegsKept.refl _ t).eventIn hb e ho hl))

theorem ChanKept.record (h : ChanKept s t) (code sev src : Nat) (data : List Byte) : ChanKept s (t.record code sev src data) :=
  h.trans (.recShape ((RecShape.refl t).request _) ((RegsKept.refl _ t).request _ (by simp)))

theorem ChanKept.setTrk (h : ChanKept s t) (c : Nat) (k : TrkChan) : ChanKept s (t.setTrk c k) :=
  h.trans ⟨⟨_, _, _, _, rfl⟩, rfl, .of_cells rfl⟩

theorem chBase_kept (c : Nat) : Within [wRc, wTiles] (chBase c) 0x2000 := chBase_within (by simp) c
theorem aqBase_kept (q : Nat) : Within [wRc, wTiles] (aqBase q) 0x2000 := aqBase_within (by simp) q
theorem obBase_kept (i : Nat) : Within [wRc, wTiles] (obBase i) 0x4000 := obBase_within (by simp) i

/-! ### The end of what a port feeds (R199, R213, R215, R239) -/

theorem ChanKept.portReacq (h : ChanKept s t) (p : Nat) : ChanKept s (t.portReacq p) :=
  h.eachOf (fun c _ hu => .ite ((hu.setTrk c _).set (chBase_kept c) 4 (by decide) (by decide)) hu) 512

theorem ChanKept.portAbort (h : ChanKept s t) (p : Nat) : ChanKept s (t.portAbort p) :=
  h.eachOf (fun q _ hu => .ite ((hu.sets (aqBase_kept q) (by rfl)).event (aqBase_kept q) _ (by decide) (by decide)) hu) 32

theorem ChanKept.intUpdate (h : ChanKept s t) (i : Nat) : ChanKept s (t.intUpdate i) := by
  unfold State.intUpdate
  extract_lets +onlyGivenNames b n t₁
  have shown : ChanKept s t₁ := (h.set (obBase_kept i) n (by decide) (by decide)).event (obBase_kept i) _ (by decide) (by decide)
  exact .ite h (.ite ((shown.event (obBase_kept i) _ (by decide) (by decide)).record _ _ _ _) shown)

theorem ChanKept.refPorts (h : ChanKept s t) : ChanKept s t.refPorts := by
  unfold State.refPorts
  split
  · exact h
  · next i _ => exact (h.set (obBase_kept i) _ (by decide) (by decide)).intUpdate i

/-! ### The channels that a hot start hints at (R221) -/

theorem ChanKept.pullIn (h : ChanKept s t) (c code dop at_ : Nat) (win : Option (Nat × Nat)) :
    ChanKept s (t.pullIn c code dop at_ win) :=
  (h.setTrk c _).sets (chBase_kept c) (by rfl)

theorem ChanKept.chEnable (h : ChanKept s t) (m : Master) (c : Nat) : ChanKept s (t.chEnable m c) := by
  unfold State.chEnable
  extract_lets b r u
  have enabled : ChanKept s u := h.sets (chBase_kept c) (by rfl)
  refine .ite h (.ite (h.set (chBase_kept c) _ (by decide) (by decide)) ?_)
  split
  · exact enabled.pullIn _ _ _ _ _
  · split
    · exact .ite (enabled.pullIn _ _ _ _ _) enabled
    · exact enabled

theorem ChanKept.hintStart (h : ChanKept s t) (x : ChHint) : ChanKept s (t.hintStart x) := by
  unfold State.hintStart
  extract_lets +onlyGivenNames b u₁ u₂ old u₃ chips
  have config : ChanKept s u₁ := by
    refine List.foldlRecOn _ _ h fun u hu f hf => ?_
    have place : ∀ f ∈ Reg.CH_CFG.desc.flds, f.off < 0x2000 ∧ f.lo < 64 := by decide
    exact hu.set (chBase_kept x.chan) _ (place f hf).1 (place f hf).2
  have aided : ChanKept s u₂ := config.sets (chBase_kept x.chan) (by rfl)
  have started : ChanKept s u₃ := (aided.setTrk _ _).chEnable _ _
  exact .ite h (.ite (started.setTrk _ _) started)

theorem ChanKept.useHints (s : State) (p : Nat) : ∃ b, ChanKept { s with boot := b } (s.useHints p) :=
  ⟨_, List.foldlRecOn _ _ (.refl _) fun _ hu x _ => hu.hintStart x⟩

/-! ### The ports' registers stand -/

theorem ChanKept.get_rf (h : ChanKept s t) (hp : p < 8) (ho : f.off < 0x1000) (hl : f.lo < 64) :
    t.get (rfBase p) f = s.get (rfBase p) f := by
  refine h.regs _ f hl fun w hw => ?_
  simp only [List.mem_cons, List.not_mem_nil, or_false] at hw
  rcases hw with rfl | rfl
  · simp only [wRc, rfBase, bRf]
    omega
  · simp only [wTiles, rfBase, bRf]
    omega

theorem ChanKept.rfPort (h : ChanKept s t) (p : Nat) : t.rfPort p = s.rfPort p := congrArg (fun l : List RfPort => l.getD p .off) h.ports

end Sys2Proof.Machine
end

section
/-! SUPPORT. The enable sequence of an RF sample port, its failure, its notches and its bias (R197–R205). -/

set_option Elab.async false

namespace Sys2Proof.Machine

variable {s t u : State} {ws : List (Nat × Nat)} {b n p : Nat} {f : Fld} {m : Master} {fe : FeProbe} {a : Alignment}

/-! ### A port's record and its control SPI (R196) -/

@[simp] theorem State.get_setRf (s : State) (p : Nat) (r : RfPort) (b : Nat) (f : Fld) : (s.setRf p r).get b f = s.get b f := rfl
@[simp] theorem State.get_feSpi (s : State) (p : Nat) (g : RfPort → RfPort) (b : Nat) (f : Fld) :
    (s.feSpi p g).get b f = s.get b f := rfl

theorem State.rfPort_setRf (hp : p < s.gnss.ports.length) (r : RfPort) : (s.setRf p r).rfPort p = r := listSet_getD_same _ _ _ _ hp

theorem State.lt_of_rfFitted (h : s.rfFitted p = true) : p < 8 := of_decide_eq_true (Bool.and_eq_true_iff.1 h).1

theorem State.fitted_of_rfRun (h : s.rfRun p = true) : s.rfFitted p = true := (Bool.and_eq_true_iff.1 h).1

theorem State.rfWrite_eq (hm : mayWriteService s m = true) (hon : s.on .io = true) (hf : s.rfFitted p = true) (off : Nat)
    (g : State → State) : s.rfWrite m p off g = (g s).answer .ok 0 :=
  (State.actWrite_ok _ _ _ _ _ _ hm hon).trans (by rw [if_pos hf])

/-! ### RUN (R197) -/

/-- The register cells, the chain's own record, what a hot start left, records and toggles apart, `t` is `s`. -/
def PortShape (s t : State) : Prop := ∃ c g o l k, t = { s with cells := c, gnss := g, boot := o, log := l, toggles := k }

theorem PortShape.refl (s : State) : PortShape s s := ⟨_, _, _, _, _, rfl⟩

theorem PortShape.trans (h : PortShape s t) (g : PortShape t u) : PortShape s u := by
  obtain ⟨_, _, _, _, _, rfl⟩ := h
  obtain ⟨_, _, _, _, _, rfl⟩ := g
  exact ⟨_, _, _, _, _, rfl⟩

theorem PortShape.sets (h : PortShape s t) (b : Nat) (l : List (Fld × Nat)) : PortShape s (t.sets b l) := by
  obtain ⟨c, e⟩ := t.sets_eq b l
  exact h.trans (e ▸ ⟨_, t.gnss, t.boot, t.log, t.toggles, rfl⟩)

theorem PortShape.recShape (h : RecShape s t) : PortShape s t := by
  obtain ⟨c, g, l, rfl⟩ := h
  exact ⟨c, s.gnss, s.boot, l, g, rfl⟩

theorem PortShape.withHealth (h : PortShape s t) (x : Health) : PortShape { s with health := x } { t with health := x } := by
  obtain ⟨_, _, _, _, _, rfl⟩ := h
  exact ⟨_, _, _, _, _, rfl⟩

theorem PortShape.feSpi (h : PortShape s t) (p : Nat) (g : RfPort → RfPort) : PortShape s (t.feSpi p g) :=
  h.trans ⟨t.cells, _, t.boot, t.log, t.toggles, rfl⟩

/-- What a port that comes to RUN can change of `s`: fields of its own block from 0x40 on, the registers of tiles and of the recorder,
the chain's own record, what a hot start left for it, records and toggles. -/
structure RunKept (p : Nat) (s t : State) : Prop where
  shape : PortShape s t
  regs : RegsKept [wRf, wRc, wTiles] s t
  low : ∀ f : Fld, f.off < 0x40 → f.lo < 64 → t.get (rfBase p) f = s.get (rfBase p) f

theorem RunKept.trans (h : RunKept p s t) (g : RunKept p t u) : RunKept p s u := by
  obtain ⟨⟨_, _, _, _, _, rfl⟩, regs, low⟩ := h
  obtain ⟨⟨_, _, _, _, _, rfl⟩, regs', low'⟩ := g
  exact ⟨⟨_, _, _, _, _, rfl⟩, regs.trans regs', fun f ho hl => (low' f ho hl).trans (low f ho hl)⟩

theorem RunKept.refl (p : Nat) (s : State) : RunKept p s s := ⟨⟨_, _, _, _, _, rfl⟩, .refl _ _, fun _ _ _ => rfl⟩

theorem RunKept.ite {i : Prop} {_ : Decidable i} (ht : RunKept p s t) (hu : RunKept p s u) : RunKept p s (if i then t else u) := by
  split
  · exact ht
  · exact hu

theorem RunKept.chans (h : ChanKept s t) (hp : p < 8) : RunKept p s t := by
  obtain ⟨c, g, l, k, ht⟩ := h.shape
  exact ⟨⟨c, g, s.boot, l, k, ht⟩, h.regs.mono (by simp), fun f ho hl => h.get_rf hp (by omega) hl⟩

theorem RunKept.withBoot (p : Nat) (s : State) (o : BootCtl) : RunKept p s { s with boot := o } :=
  ⟨⟨_, _, _, _, _, rfl⟩, .of_cells rfl, fun _ _ _ => rfl⟩

theorem RunKept.setRf (h : RunKept p s t) (k : Nat) (r : RfPort) : RunKept p s (t.setRf k r) :=
  h.trans ⟨⟨_, _, _, _, _, rfl⟩, .of_cells rfl, fun _ _ _ => rfl⟩

/-- Fields of the port's block from 0x40 on. -/
theorem RunKept.sets (h : RunKept p s t) (hp : p < 8) {x : Nat} (hx : x < 0x100) {l : List (Fld × Nat)}
    (hl : l.all (fun q => decide (0x40 ≤ q.1.off ∧ q.1.off < 0x100 ∧ q.1.lo < 64)) = true) : RunKept p s (t.sets (rfBase p + x) l) := by
  have inside : Within [wRf, wRc, wTiles] (rfBase p + x) 0x100 := by
    refine ⟨wRf, by simp, fun off ho => ?_⟩
    simp only [wRf, rfBase, bRf]
    omega
  induction l generalizing t with
  | nil => exact h
  | cons q l ih =>
    obtain ⟨hq, hl⟩ := Bool.and_eq_true_iff.1 hl
    obtain ⟨h1, h2, hlo⟩ := of_decide_eq_true hq
    refine ih (h.trans ⟨⟨_, t.gnss, t.boot, t.log, t.toggles, rfl⟩, (RegsKept.refl _ t).setIn inside q.2 h2 hlo, fun g ho hg => ?_⟩) hl
    refine State.get_set_ne _ _ _ _ _ _ ?_
    unfold fldKey
    omega

/-- The notches and the JI baseline that Cocoon kept (R220). -/
theorem RunKept.useKeep (h : RunKept p s t) (hp : p < 8) : RunKept p s (t.useKeep p) := by
  unfold State.useKeep
  split
  · exact h
  · extract_lets old u v
    have taken : RunKept p s u := h.trans (.withBoot p t _)
    have baseline : RunKept p s v := taken.sets hp (x := 0) (by decide) (by rfl)
    refine RunKept.ite taken (List.foldlRecOn _ _ baseline fun w hw i hi => ?_)
    have number : i < 4 := List.mem_range.1 hi
    exact hw.sets hp (x := i * 8) (by omega) (by rfl)

theorem RunKept.useHints (h : RunKept p s t) (hp : p < 8) : RunKept p s (t.useHints p) := by
  obtain ⟨o, hints⟩ := ChanKept.useHints t p
  exact (h.trans (.withBoot p t o)).trans (.chans hints hp)

/-- RF_STAT of a port in RUN. -/
def State.rfRunning (s : State) (p : Nat) : State :=
  s.sets (rfBase p) [(Rg.RF_STAT.STATE, 3), (Rg.RF_STAT.FAIL_CODE, 0), (Rg.RF_STAT.RATE_OK, 1)]

theorem RunKept.rfGoRun (s : State) (hp : p < 8) : RunKept p (s.rfRunning p) (s.rfGoRun p) := by
  unfold State.rfGoRun
  extract_lets feed u v
  have fed : RunKept p u v := .ite ((RunKept.refl p u).setRf _ _) (.refl p u)
  exact (((fed.useKeep hp).useHints hp).trans (.chans (ChanKept.refPorts (.refl _)) hp))

/-! ### The sequence (R197, R198) -/

theorem State.rfTrain_manual (s : State) (p : Nat) (fe : FeProbe) :
    s.rfTrain p fe false = (s.setAlign p ⟨false, false, false, false, 0⟩).rfGoRun p := by
  simp only [State.rfTrain, Bool.false_eq_true, if_false]

theorem State.rfTrain_aligned (ha : alignOf fe = some a) : s.rfTrain p fe true =
    ((s.feSpi p (fun r => { r with train := 0 })).setAlign p a).rfGoRun p := by
  simp only [State.rfTrain, if_true, ha]

/-- The sequence of a front end that is set by hand and not trained. -/
theorem State.rfSequence_manual (hd : s.feedDup p = false) (hm : s.flag (rfBase p) Rg.RF_CFG.FE_MANUAL = true)
    (ht : s.flag (rfBase p) Rg.RF_CFG.MAN_TRAIN = false) :
    s.rfSequence p fe = (s.setAlign p ⟨false, false, false, false, 0⟩).rfGoRun p := by
  simp only [State.rfSequence, hd, hm, ht, Bool.false_eq_true, if_false, if_true, State.rfTrain_manual]

/-- Steps 1 and 2 of a sequence: the descriptor is shown, and MP compares the front end with the one it saved. -/
def State.rfDescribed (s : State) (p : Nat) (fe : FeProbe) : State :=
  ((s.feSpi p id).takeDesc p fe.desc).partner 0 p (((s.feSpi p id).takeDesc p fe.desc).word (rfBase p) .RF_FE)

/-- Step 3: the front end is set up, and CENTRE and RATE are read again. -/
def State.rfConfigured (s : State) (p : Nat) (fe : FeProbe) : State :=
  ((s.rfDescribed p fe).feSpi p (fun r => { r with band := p % 4, fmt := b2n (bitOf (8 + p) (s.rfDescribed p fe).img.io0) })).sets (rfBase p)
    [(Rg.RF_FE_FREQ.CENTRE, leAt fe.again 0 4), (Rg.RF_FE_FREQ.RATE, leAt fe.again 4 3)]

theorem State.partner_shape (s : State) (kind idx new : Nat) : ∃ h, RecShape { s with health := h } (s.partner kind idx new) := by
  unfold State.partner
  split
  · exact ⟨s.health, .refl s⟩
  · extract_lets k old
    split
    · exact ⟨s.health, .refl s⟩
    · exact ⟨_, (RecShape.refl _).request _⟩

theorem RegsKept.partner (hk : RegsKept ws s t) (hw : wRc ∈ ws) (kind idx new : Nat) : RegsKept ws s (t.partner kind idx new) := by
  unfold State.partner
  split
  · exact hk
  · extract_lets +onlyGivenNames k old e u
    have saved : RegsKept ws s u := hk.cells rfl
    split
    · exact hk
    · exact saved.request _ hw

theorem State.partner_img (s : State) (kind idx new : Nat) : (s.partner kind idx new).img = s.img := by
  obtain ⟨h, c, g, l, e⟩ := s.partner_shape kind idx new
  rw [e]

theorem State.rfDescribed_img (s : State) (p : Nat) (fe : FeProbe) : (s.rfDescribed p fe).img = s.img :=
  (State.partner_img _ _ _ _).trans (State.sets_img _ _ _)

/-- The sequence of a front end that is known and fits, with lanes that align. -/
theorem State.rfSequence_trained (hd : s.feedDup p = false) (hm : s.flag (rfBase p) Rg.RF_CFG.FE_MANUAL = false)
    (hk : descKnown fe.desc = true) (hf : s.descFits p fe.desc = true) (hr : rateOk (leAt fe.again 4 3) (leAt fe.desc 9 1) = true)
    (ha : alignOf fe = some a) : s.rfSequence p fe =
      (((s.rfConfigured p fe).feSpi p (fun r => { r with train := 0 })).setAlign p a).rfGoRun p := by
  rw [← State.rfTrain_aligned ha]
  simp only [State.rfSequence, hd, hm, hk, hf, hr, Bool.not_true, Bool.false_eq_true, if_false]
  rw [State.rfConfigured, State.rfDescribed_img]
  rfl

/-! ### What a sequence that ends in RUN shows -/

/-- A field that a list of writes does not name. -/
theorem State.get_sets_none {l : List (Fld × Nat)}
    (hl : l.all (fun q => decide (q.1 = f) || !(q.1.off == f.off && q.1.lo == f.lo) && decide (q.1.lo < 64 ∧ f.lo < 64)) = true)
    (hn : lastSet f l = none) : (s.sets b l).get b f = s.get b f := by
  rw [State.get_sets hl, hn]
  rfl

/-- Step 5 after an alignment, from the state `s` in which the lanes were aligned. -/
def State.rfAligned (s : State) (p : Nat) (a : Alignment) : State := (s.setAlign p a).rfGoRun p

theorem State.rfAligned_low (s : State) (hp : p < 8) (a : Alignment) (ho : f.off < 0x40) (hl : f.lo < 64) :
    (s.rfAligned p a).get (rfBase p) f = ((s.setAlign p a).rfRunning p).get (rfBase p) f := (RunKept.rfGoRun _ hp).low f ho hl

theorem State.get_rfAligned_run (s : State) (hp : p < 8) (a : Alignment) : (s.rfAligned p a).get (rfBase p) Rg.RF_STAT.STATE = 3 ∧
    (s.rfAligned p a).get (rfBase p) Rg.RF_STAT.FAIL_CODE = 0 ∧ (s.rfAligned p a).get (rfBase p) Rg.RF_STAT.RATE_OK = 1 := by
  refine ⟨?_, ?_, ?_⟩
  · exact (s.rfAligned_low hp a (by decide) (by decide)).trans (State.get_sets_last (v := 3) (by rfl) rfl)
  · exact (s.rfAligned_low hp a (by decide) (by decide)).trans (State.get_sets_last (v := 0) (by rfl) rfl)
  · exact (s.rfAligned_low hp a (by decide) (by decide)).trans (State.get_sets_last (v := 1) (by rfl) rfl)

theorem State.get_rfAligned_align (s : State) (hp : p < 8) (a : Alignment) :
    (s.rfAligned p a).get (rfBase p) Rg.RF_STAT.INV_I = b2n a.invI ∧
      (s.rfAligned p a).get (rfBase p) Rg.RF_STAT.SLIP = a.slip % 2 ^ Rg.RF_STAT.SLIP.w := by
  refine ⟨?_, ?_⟩
  · refine (s.rfAligned_low hp a (by decide) (by decide)).trans
      ((State.get_sets_none (by rfl) rfl).trans ((State.get_sets_last (by rfl) rfl).trans ?_))
    cases a.invI <;> rfl
  · exact (s.rfAligned_low hp a (by decide) (by decide)).trans ((State.get_sets_none (by rfl) rfl).trans (State.get_sets_last (by rfl) rfl))

/-- EN and what was read of the front end stand. -/
theorem State.get_rfAligned_frontEnd (s : State) (hp : p < 8) (a : Alignment) :
    (s.rfAligned p a).get (rfBase p) Rg.RF_CFG.EN = s.get (rfBase p) Rg.RF_CFG.EN ∧
      (s.rfAligned p a).get (rfBase p) Rg.RF_FE_FREQ.CENTRE = s.get (rfBase p) Rg.RF_FE_FREQ.CENTRE ∧
      (s.rfAligned p a).get (rfBase p) Rg.RF_FE.VENDOR = s.get (rfBase p) Rg.RF_FE.VENDOR := by
  refine ⟨?_, ?_, ?_⟩
  · exact (s.rfAligned_low hp a (by decide) (by decide)).trans ((State.get_sets_none (by rfl) rfl).trans (State.get_sets_none (by rfl) rfl))
  · exact (s.rfAligned_low hp a (by decide) (by decide)).trans ((State.get_sets_none (by rfl) rfl).trans (State.get_sets_none (by rfl) rfl))
  · exact (s.rfAligned_low hp a (by decide) (by decide)).trans ((State.get_sets_none (by rfl) rfl).trans (State.get_sets_none (by rfl) rfl))

theorem PortShape.rfAligned (h : PortShape s t) (hp : p < 8) (a : Alignment) : PortShape s (t.rfAligned p a) :=
  ((h.sets _ _).sets _ _).trans (RunKept.rfGoRun _ hp).shape

theorem RegsKept.rfAligned (hk : RegsKept [wRf, wRc, wTiles] s t) (hp : p < 8) (a : Alignment) :
    RegsKept [wRf, wRc, wTiles] s (t.rfAligned p a) := by
  have inside : Within [wRf, wRc, wTiles] (rfBase p) 0x1000 := rfBase_within (by simp) hp
  exact ((hk.setsIn inside (by rfl)).setsIn inside (by rfl)).trans (RunKept.rfGoRun _ hp).regs

/-! ### The front end's values (R197) -/

theorem leVal_lt (l : List Byte) : leVal l < 256 ^ l.length := by
  induction l with
  | nil => decide
  | cons v l ih =>
    have hv := v.isLt
    rw [leVal, List.length_cons, Nat.pow_succ]
    omega

theorem leAt_lt (l : List Byte) (o k : Nat) : leAt l o k < 256 ^ k :=
  (leVal_lt _).trans_le (Nat.pow_le_pow_right (by decide) (List.length_take_le _ _))

theorem RegsKept.rfConfigured (hk : RegsKept [wRf, wRc, wTiles] s t) (hp : p < 8) (fe : FeProbe) :
    RegsKept [wRf, wRc, wTiles] s (t.rfConfigured p fe) := by
  have inside : Within [wRf, wRc, wTiles] (rfBase p) 0x1000 := rfBase_within (by simp) hp
  have described : RegsKept [wRf, wRc, wTiles] s (t.rfDescribed p fe) :=
    RegsKept.partner (RegsKept.setsIn (t := t.feSpi p id) (hk.cells rfl) inside (by rfl)) (by simp) _ _ _
  exact RegsKept.setsIn (t := State.feSpi _ p _) (described.cells rfl) inside (by rfl)

theorem State.rfConfigured_shape (s : State) (p : Nat) (fe : FeProbe) : ∃ h, PortShape { s with health := h } (s.rfConfigured p fe) := by
  have shown : PortShape s ((s.feSpi p id).takeDesc p fe.desc) := ((PortShape.refl s).feSpi p id).sets _ _
  obtain ⟨h, compared⟩ := State.partner_shape ((s.feSpi p id).takeDesc p fe.desc) 0 p
    (((s.feSpi p id).takeDesc p fe.desc).word (rfBase p) .RF_FE)
  exact ⟨h, (((shown.withHealth h).trans (.recShape compared)).feSpi p _).sets _ _⟩

theorem State.get_rfConfigured_centre (s : State) (p : Nat) (fe : FeProbe) :
    (s.rfConfigured p fe).get (rfBase p) Rg.RF_FE_FREQ.CENTRE = leAt fe.again 0 4 :=
  (State.get_sets_last (by rfl) rfl).trans (Nat.mod_eq_of_lt (leAt_lt fe.again 0 4))

/-- MP's comparison leaves the port's registers as the descriptor gave them. -/
theorem State.get_rfDescribed (s : State) (hp : p < 8) (fe : FeProbe) (ho : f.off < 0x1000) (hl : f.lo < 64) :
    (s.rfDescribed p fe).get (rfBase p) f = ((s.feSpi p id).takeDesc p fe.desc).get (rfBase p) f := by
  have compared : RegsKept [Machine.wRc] ((s.feSpi p id).takeDesc p fe.desc) (s.rfDescribed p fe) :=
    RegsKept.partner (t := (s.feSpi p id).takeDesc p fe.desc) (.refl _ _) (List.mem_singleton.2 rfl) _ _ _
  refine compared _ f hl fun w hw => ?_
  obtain rfl := List.mem_singleton.1 hw
  simp only [Machine.wRc, rfBase, bRf]
  omega

theorem State.get_rfConfigured_vendor (s : State) (hp : p < 8) (fe : FeProbe) :
    (s.rfConfigured p fe).get (rfBase p) Rg.RF_FE.VENDOR = leAt fe.desc 3 2 :=
  (State.get_sets_none (by rfl) rfl).trans ((s.get_rfDescribed hp fe (by decide) (by decide)).trans
    ((State.get_sets_last (by rfl) rfl).trans (Nat.mod_eq_of_lt (leAt_lt fe.desc 3 2))))

theorem State.get_rfConfigured_en (s : State) (hp : p < 8) (fe : FeProbe) :
    (s.rfConfigured p fe).get (rfBase p) Rg.RF_CFG.EN = s.get (rfBase p) Rg.RF_CFG.EN :=
  (State.get_sets_none (by rfl) rfl).trans ((s.get_rfDescribed hp fe (by decide) (by decide)).trans (State.get_sets_none (by rfl) rfl))

/-! ### Enabling and retraining (R197, R199) -/

theorem State.feedDup_eq (hc : t.flag (rfBase p) Rg.RF_CFG.BIAS_FEED = s.flag (rfBase p) Rg.RF_CFG.BIAS_FEED) (hi : t.img = s.img)
    (hr : t.gnss.ports = s.gnss.ports) : t.feedDup p = s.feedDup p := by
  simp only [State.feedDup, State.rfFitted, State.rfPort, hc, hi, hr]

/-- The port after an enable whose lanes align as `a`. -/
def State.rfTrained (s : State) (p : Nat) (fe : FeProbe) (a : Alignment) : State :=
  (((s.set (rfBase p) Rg.RF_CFG.EN 1).rfConfigured p fe).feSpi p (fun r => { r with train := 0 })).rfAligned p a

/-- EN set on a port whose front end is known and fits, with lanes that align. -/
theorem State.rfEnable_eq (he : s.flag (rfBase p) Rg.RF_CFG.EN = false) (hoff : s.chainOff m = false) (hd : s.feedDup p = false)
    (hm : s.flag (rfBase p) Rg.RF_CFG.FE_MANUAL = false) (hk : descKnown fe.desc = true) (hf : s.descFits p fe.desc = true)
    (hr : rateOk (leAt fe.again 4 3) (leAt fe.desc 9 1) = true) (ha : alignOf fe = some a) :
    s.rfEnable m p fe = s.rfTrained p fe a := by
  have other (f : Fld) (h : f.off * 64 + f.lo ≠ 0) : (s.set (rfBase p) Rg.RF_CFG.EN 1).flag (rfBase p) f = s.flag (rfBase p) f :=
    congrArg (· == 1) (State.get_set_off _ _ _ _ _ h)
  have single : (s.set (rfBase p) Rg.RF_CFG.EN 1).feedDup p = false := (State.feedDup_eq (other _ (by decide)) rfl rfl).trans hd
  rw [State.rfEnable, if_neg (by simp [he, hoff]),
    State.rfSequence_trained single ((other _ (by decide)).trans hm) hk (by exact hf) hr ha, State.rfTrained, State.rfAligned]

/-- RF_STAT after an enable: RUN, and what the alignment found. -/
theorem State.get_rfTrained_stat (s : State) (hp : p < 8) (fe : FeProbe) (a : Alignment) :
    (s.rfTrained p fe a).get (rfBase p) Rg.RF_STAT.STATE = 3 ∧ (s.rfTrained p fe a).get (rfBase p) Rg.RF_STAT.FAIL_CODE = 0 ∧
      (s.rfTrained p fe a).get (rfBase p) Rg.RF_STAT.RATE_OK = 1 ∧ (s.rfTrained p fe a).get (rfBase p) Rg.RF_STAT.INV_I = b2n a.invI ∧
      (s.rfTrained p fe a).get (rfBase p) Rg.RF_STAT.SLIP = a.slip % 2 ^ Rg.RF_STAT.SLIP.w := by
  unfold State.rfTrained
  obtain ⟨run, code, rate⟩ := State.get_rfAligned_run
    (((s.set (rfBase p) Rg.RF_CFG.EN 1).rfConfigured p fe).feSpi p (fun r => { r with train := 0 })) hp a
  exact ⟨run, code, rate, State.get_rfAligned_align _ hp a⟩

/-- The front end's values after an enable. -/
theorem State.get_rfTrained (s : State) (hp : p < 8) (fe : FeProbe) (a : Alignment) :
    (s.rfTrained p fe a).get (rfBase p) Rg.RF_CFG.EN = 1 ∧
      (s.rfTrained p fe a).get (rfBase p) Rg.RF_FE_FREQ.CENTRE = leAt fe.again 0 4 ∧
      (s.rfTrained p fe a).get (rfBase p) Rg.RF_FE.VENDOR = leAt fe.desc 3 2 := by
  obtain ⟨en, centre, vendor⟩ := State.get_rfAligned_frontEnd
    (((s.set (rfBase p) Rg.RF_CFG.EN 1).rfConfigured p fe).feSpi p (fun r => { r with train := 0 })) hp a
  unfold State.rfTrained
  rw [en, centre, vendor]
  simp only [State.get_feSpi, State.get_rfConfigured_en _ hp, State.get_set_same, State.get_rfConfigured_centre,
    State.get_rfConfigured_vendor _ hp]
  exact ⟨rfl, trivial, trivial⟩

theorem State.rfTrained_shape (s : State) (hp : p < 8) (fe : FeProbe) (a : Alignment) :
    ∃ h, PortShape { s with health := h } (s.rfTrained p fe a) := by
  obtain ⟨h, configured⟩ := State.rfConfigured_shape (s.set (rfBase p) Rg.RF_CFG.EN 1) p fe
  have enabled : PortShape { s with health := h } { s.set (rfBase p) Rg.RF_CFG.EN 1 with health := h } := ⟨_, _, _, _, _, rfl⟩
  exact ⟨h, ((enabled.trans configured).feSpi p _).rfAligned hp a⟩

theorem RegsKept.rfTrained (s : State) (hp : p < 8) (fe : FeProbe) (a : Alignment) :
    RegsKept [wRf, wRc, wTiles] s (s.rfTrained p fe a) := by
  have enabled : RegsKept [wRf, wRc, wTiles] s (s.set (rfBase p) Rg.RF_CFG.EN 1) :=
    (RegsKept.refl _ s).setIn (rfBase_within (by simp) hp) 1 (by decide) (by decide)
  exact RegsKept.rfAligned (t := State.feSpi _ p _) ((enabled.rfConfigured hp fe).cells rfl) hp a

theorem Frame.rfTrained (s : State) (hp : p < 8) (fe : FeProbe) (a : Alignment) {t : State} (ht : s.rfTrained p fe a = t) :
    Frame [wRf, wRc, wTiles] s (t.answer .ok 0)
      { s with cells := t.cells, gnss := t.gnss, boot := t.boot, health := t.health, log := t.log, toggles := t.toggles, resp := ⟨.ok, 0⟩ } := by
  have kept := RegsKept.rfTrained s hp fe a
  obtain ⟨h, _, _, _, _, _, e⟩ := s.rfTrained_shape hp fe a
  rw [ht] at kept e
  subst e
  exact ⟨rfl, .of_mem rfl, kept.cells rfl⟩

/-- The port after a retrain without training. -/
def State.rfResumed (s : State) (p : Nat) : State := (s.portReacq p).rfAligned p ⟨false, false, false, false, 0⟩

theorem State.rfResumed_shape (s : State) (hp : p < 8) : PortShape s (s.rfResumed p) :=
  (RunKept.chans ((ChanKept.refl s).portReacq p) hp).shape.rfAligned hp _

theorem RegsKept.rfResumed (s : State) (hp : p < 8) : RegsKept [wRf, wRc, wTiles] s (s.rfResumed p) :=
  RegsKept.rfAligned (RunKept.chans ((ChanKept.refl s).portReacq p) hp).regs hp _

theorem Frame.rfResumed (s : State) (hp : p < 8) {t : State} (ht : s.rfResumed p = t) :
    Frame [wRf, wRc, wTiles] s t { s with cells := t.cells, gnss := t.gnss, boot := t.boot, log := t.log, toggles := t.toggles } := by
  have kept := RegsKept.rfResumed s hp
  obtain ⟨_, _, _, _, _, e⟩ := s.rfResumed_shape hp
  rw [ht] at kept e
  subst e
  exact ⟨rfl, .of_mem rfl, kept⟩

theorem State.get_rfResumed (s : State) (hp : p < 8) : (s.rfResumed p).get (rfBase p) Rg.RF_STAT.STATE = 3 ∧
    (s.rfResumed p).get (rfBase p) Rg.RF_STAT.FAIL_CODE = 0 ∧ (s.rfResumed p).get (rfBase p) Rg.RF_STAT.SLIP = 0 := by
  unfold State.rfResumed
  obtain ⟨run, code, -⟩ := State.get_rfAligned_run (s.portReacq p) hp ⟨false, false, false, false, 0⟩
  exact ⟨run, code, (State.get_rfAligned_align _ hp _).2⟩

/-- RETRAIN of a front end that is set by hand and not trained. -/
theorem State.rfRetrain_eq (hp : p < 8) (he : s.flag (rfBase p) Rg.RF_CFG.EN = true) (hoff : s.chainOff m = false)
    (hd : s.feedDup p = false) (hm : s.flag (rfBase p) Rg.RF_CFG.FE_MANUAL = true) (ht : s.flag (rfBase p) Rg.RF_CFG.MAN_TRAIN = false) :
    s.rfRetrain m p fe = s.rfResumed p := by
  have lost : ChanKept s (s.portReacq p) := (ChanKept.refl s).portReacq p
  have same (f : Fld) (ho : f.off < 0x1000) (hl : f.lo < 64) : (s.portReacq p).flag (rfBase p) f = s.flag (rfBase p) f :=
    congrArg (· == 1) (lost.get_rf hp ho hl)
  have img : (s.portReacq p).img = s.img := by
    obtain ⟨_, _, _, _, e⟩ := lost.shape
    rw [e]
  have single := (State.feedDup_eq (same Rg.RF_CFG.BIAS_FEED (by decide) (by decide)) img lost.ports).trans hd
  rw [State.rfRetrain, if_pos (by simp [he, hoff]), State.rfSequence_manual single ((same _ (by decide) (by decide)).trans hm)
    ((same _ (by decide) (by decide)).trans ht)]
  rfl

/-! ### Failure and rate (R195, R199) -/

/-- The port's registers in FAIL. -/
def State.rfFailed (s : State) (p code : Nat) : State :=
  (s.sets (rfBase p) [(Rg.RF_STAT.STATE, 4), (Rg.RF_STAT.FAIL_CODE, code)]).event 28 (rfBase p) Rg.RF_EVT.FAIL

theorem ChanKept.rfFail (s : State) (p code : Nat) : ChanKept (s.rfFailed p code) (s.rfFail p code) :=
  (((ChanKept.refl _).portReacq p).portAbort p).refPorts

theorem State.get_rfFail (s : State) (hp : p < 8) (code : Nat) : (s.rfFail p code).get (rfBase p) Rg.RF_STAT.STATE = 4 ∧
    (s.rfFail p code).get (rfBase p) Rg.RF_STAT.FAIL_CODE = code % 8 ∧ (s.rfFail p code).get (rfBase p) Rg.RF_EVT.FAIL = 1 := by
  have kept := ChanKept.rfFail s p code
  refine ⟨?_, ?_, ?_⟩
  · rw [kept.get_rf hp (by decide) (by decide), State.rfFailed, State.get_event_off _ _ _ _ _ (by decide), State.get_sets_last (by rfl) rfl]
    rfl
  · rw [kept.get_rf hp (by decide) (by decide), State.rfFailed, State.get_event_off _ _ _ _ _ (by decide), State.get_sets_last (by rfl) rfl]
    rfl
  · rw [kept.get_rf hp (by decide) (by decide)]
    exact State.get_event_same _ _ _ _ (by decide)

theorem RegsKept.rfFail (s : State) (hp : p < 8) (code : Nat) : RegsKept [wRf, wRc, wTiles] s (s.rfFail p code) := by
  have inside : Within [wRf, wRc, wTiles] (rfBase p) 0x1000 := rfBase_within (by simp) hp
  exact (((RegsKept.refl _ s).setsIn inside (by rfl)).eventIn inside 28 (by decide) (by decide)).trans
    ((ChanKept.rfFail s p code).regs.mono (by simp))

theorem Frame.rfFail (s : State) (hp : p < 8) (code : Nat) {t : State} (ht : s.rfFail p code = t) :
    Frame [wRf, wRc, wTiles] s t { s with cells := t.cells, gnss := t.gnss, log := t.log, toggles := t.toggles } := by
  have kept := RegsKept.rfFail s hp code
  obtain ⟨_, _, shown⟩ : RegShape s (s.rfFailed p code) := ((RegShape.refl s).sets _ _).event _ _ _
  obtain ⟨_, _, _, _, e⟩ := (ChanKept.rfFail s p code).shape
  rw [shown, ht] at e
  rw [ht] at kept
  subst e
  exact ⟨rfl, .of_mem rfl, kept⟩

/-- A rate in kHz that differs by more than 100 ppm from `sps` samples a second (R195). -/
def rateOff (rate sps : Nat) : Bool := decide (100 * (rate * 1000) < 1000000 * ((sps : Int) - (rate * 1000 : Nat)).natAbs)

theorem execRfRateCheck_eq {sps : Nat} (hr : s.rfRun p = true) : execRfRateCheck p sps s = .next
    (((s.set (rfBase p) Rg.RF_RATE.SPS sps).set (rfBase p) Rg.RF_STAT.RATE_OK (b2n !rateOff (s.get (rfBase p) Rg.RF_FE_FREQ.RATE) sps)).eventIf
      (rateOff (s.get (rfBase p) Rg.RF_FE_FREQ.RATE) sps) 28 (rfBase p) Rg.RF_EVT.RATE_ERR) := by
  rw [execRfRateCheck, if_pos hr]
  dsimp only
  split
  · next h => rw [rateOff, decide_eq_true h]; rfl
  · next h => rw [rateOff, decide_eq_false h]; rfl

theorem State.get_rateCheck (s : State) (p v sps : Nat) (i : Bool) :
    (((s.set (rfBase p) Rg.RF_RATE.SPS sps).set (rfBase p) Rg.RF_STAT.RATE_OK v).eventIf i 28 (rfBase p) Rg.RF_EVT.RATE_ERR).get (rfBase p)
      Rg.RF_STAT.RATE_OK = v % 2 ^ Rg.RF_STAT.RATE_OK.w ∧
    (((s.set (rfBase p) Rg.RF_RATE.SPS sps).set (rfBase p) Rg.RF_STAT.RATE_OK v).eventIf i 28 (rfBase p) Rg.RF_EVT.RATE_ERR).get (rfBase p)
      Rg.RF_RATE.SPS = sps % 2 ^ Rg.RF_RATE.SPS.w := by
  refine ⟨?_, ?_⟩
  · rw [State.get_eventIf_off _ _ _ _ _ _ (by decide), State.get_set_same]
  · rw [State.get_eventIf_off _ _ _ _ _ _ (by decide), State.get_set_off _ _ _ _ _ (by decide), State.get_set_same]

/-! ### Notches (R203) -/

theorem notchBase_zero (p : Nat) : notchBase p 0 = rfBase p := rfl

/-- With no notch engaged the trackers do nothing. -/
theorem State.foldl_notchTrack_of_free {bins : List Nat} {l : List Nat} (h : ∀ k ∈ l, s.notchHeld p k = false) :
    l.foldl (fun u k => u.notchTrack p bins k) s = s := by
  induction l with
  | nil => rfl
  | cons k l ih =>
    have first : s.notchTrack p bins k = s := by rw [State.notchTrack, if_neg (by simp [h k])]
    rw [List.foldl_cons, first, ih fun k hk => h k (List.mem_cons_of_mem _ hk)]

/-- Notch 0 of port `p` placed at a centre. -/
def State.notchPlaced (s : State) (p centre : Nat) : State :=
  (s.sets (rfBase p) [(Rg.RF_NOTCH.CENTRE, centre), (Rg.RF_NOTCH.ENGAGED, 1)]).setRf p
    { s.rfPort p with under := listSet (s.rfPort p).under 0 0 }

/-- A spectrum whose strongest peak goes to notch 0, the port's one ADAPTIVE notch, which is free. -/
theorem execNotchDetect_eq {bins : List Nat} {j lvl : Nat} {ps : List (Nat × Nat)} (hr : s.rfRun p = true)
    (hm : s.get (notchBase p 0) Rg.RF_NOTCH.MODE = 2) (he : s.get (notchBase p 0) Rg.RF_NOTCH.ENGAGED = 0)
    (h1 : s.get (notchBase p 1) Rg.RF_NOTCH.MODE ≠ 2) (h2 : s.get (notchBase p 2) Rg.RF_NOTCH.MODE ≠ 2)
    (h3 : s.get (notchBase p 3) Rg.RF_NOTCH.MODE ≠ 2)
    (hp : specPeaks (s.get (rfBase p) Rg.RF_NOTCH_CFG.DET_THR) bins = (j, lvl) :: ps) :
    ∃ i, execNotchDetect p bins s = .next (((s.notchPlaced p (wordOf j)).eventIf i 28 (rfBase p) Rg.RF_EVT.NOTCH_FULL).jamUpdate p
      (specPower bins) (specFlat bins)) := by
  have none_held : ∀ k ∈ List.range 4, s.notchHeld p k = false := by
    intro k hk
    have number : k < 4 := List.mem_range.1 hk
    obtain rfl | rfl | rfl | rfl : k = 0 ∨ k = 1 ∨ k = 2 ∨ k = 3 := by omega
    · simp [State.notchHeld, State.flag, he]
    · simp [State.notchHeld, h1]
    · simp [State.notchHeld, h2]
    · simp [State.notchHeld, h3]
  have free : s.freeNotches p = [0] := by
    simp [State.freeNotches, show List.range 4 = [0, 1, 2, 3] from rfl, hm, h1, h2, h3, none_held 0 (by decide)]
  have clear (i : Nat) : (List.range 4).any (fun k => s.notchHeld p k && s.underNotch p k i) = false :=
    List.any_eq_false.2 fun k hk => by simp [none_held k hk]
  rw [execNotchDetect, if_pos hr]
  simp only [State.foldl_notchTrack_of_free none_held, hp, free, clear, Bool.not_false, List.filter_true, List.map_cons, placeNotches]
  exact ⟨_, rfl⟩

/-! ### Jamming (R204) -/

/-- What a spectrum shows of jamming. -/
def State.jamShown (s : State) (p : Nat) (pow : Int) (sfm : Nat) : State :=
  s.sets (rfBase p) [(Rg.RF_JAM.JI, jamIndex pow (s.getS (rfBase p) Rg.RF_JAM_BASE.P0) sfm (s.get (rfBase p) Rg.RF_JAM_BASE.SFM0)),
    (Rg.RF_JAM.SFM, min 255 (rnd 12 ((sfm * 255 : Nat) : Int) 65536).toNat),
    (Rg.RF_JAM.PREL, (clampI 0 255 (rnd 13 (pow - s.getS (rfBase p) Rg.RF_JAM_BASE.P0) 25)).toNat)]

theorem State.jamUpdate_eq (s : State) (p : Nat) (pow : Int) (sfm : Nat) :
    ∃ r i, s.jamUpdate p pow sfm = ((s.jamShown p pow sfm).setRf p r).eventIf i 28 (rfBase p) Rg.RF_EVT.JAM := ⟨_, _, rfl⟩

theorem State.get_jamUpdate_ji (s : State) (p : Nat) (pow : Int) (sfm : Nat) : (s.jamUpdate p pow sfm).get (rfBase p) Rg.RF_JAM.JI =
    (s.jamShown p pow sfm).get (rfBase p) Rg.RF_JAM.JI := by
  obtain ⟨r, i, e⟩ := s.jamUpdate_eq p pow sfm
  rw [e, State.get_eventIf_off _ _ _ _ _ _ (by decide), State.get_setRf]

theorem jamIndex_lt (pow p0 : Int) (sfm sfm0 : Nat) : jamIndex pow p0 sfm sfm0 < 256 := by
  unfold jamIndex clampI
  extract_lets a b
  split
  · decide
  · split
    · decide
    · omega

theorem State.get_jamShown_ji (s : State) (p : Nat) (pow : Int) (sfm : Nat) : (s.jamShown p pow sfm).get (rfBase p) Rg.RF_JAM.JI =
    jamIndex pow (s.getS (rfBase p) Rg.RF_JAM_BASE.P0) sfm (s.get (rfBase p) Rg.RF_JAM_BASE.SFM0) :=
  (State.get_sets_last (by rfl) rfl).trans (Nat.mod_eq_of_lt (jamIndex_lt _ _ _ _))

theorem RegShape.setRf (h : RegShape s t) (p : Nat) (r : RfPort) : RegShape (s.setRf p r) (t.setRf p r) := by
  obtain ⟨_, _, rfl⟩ := h
  exact ⟨_, _, rfl⟩

/-- A spectrum's notch is placed before JI is computed against the baseline. -/
theorem State.get_notchPlaced (s : State) (p c sfm : Nat) (pow : Int) (i : Bool) {t : State}
    (ht : ((s.notchPlaced p c).eventIf i 28 (rfBase p) Rg.RF_EVT.NOTCH_FULL).jamUpdate p pow sfm = t) :
    t.get (notchBase p 0) Rg.RF_NOTCH.ENGAGED = 1 ∧ t.get (notchBase p 0) Rg.RF_NOTCH.CENTRE = c % 2 ^ Rg.RF_NOTCH.CENTRE.w ∧
      t.get (rfBase p) Rg.RF_JAM.JI =
        jamIndex pow (s.getS (rfBase p) Rg.RF_JAM_BASE.P0) sfm (s.get (rfBase p) Rg.RF_JAM_BASE.SFM0) := by
  subst ht
  rw [notchBase_zero]
  obtain ⟨r, k, e⟩ := ((s.notchPlaced p c).eventIf i 28 (rfBase p) Rg.RF_EVT.NOTCH_FULL).jamUpdate_eq p pow sfm
  refine ⟨?_, ?_, ?_⟩
  · rw [e, State.get_eventIf_off _ _ _ _ _ _ (by decide), State.get_setRf, State.jamShown, State.get_sets_none (by rfl) rfl,
      State.get_eventIf_off _ _ _ _ _ _ (by decide), State.notchPlaced, State.get_setRf, State.get_sets_last (by rfl) rfl]
    rfl
  · rw [e, State.get_eventIf_off _ _ _ _ _ _ (by decide), State.get_setRf, State.jamShown, State.get_sets_none (by rfl) rfl,
      State.get_eventIf_off _ _ _ _ _ _ (by decide), State.notchPlaced, State.get_setRf, State.get_sets_last (by rfl) rfl]
  · rw [State.get_jamUpdate_ji, State.get_jamShown_ji, State.getS, State.get_eventIf_off _ _ _ _ _ _ (by decide),
      State.get_eventIf_off _ _ _ _ _ _ (by decide), State.notchPlaced, State.get_setRf, State.get_setRf, State.get_sets_none (by rfl) rfl,
      State.get_sets_none (by rfl) rfl, State.getS]

theorem Frame.notchPlaced (s : State) (hp : p < 8) (c sfm : Nat) (pow : Int) (i : Bool) {t : State}
    (ht : ((s.notchPlaced p c).eventIf i 28 (rfBase p) Rg.RF_EVT.NOTCH_FULL).jamUpdate p pow sfm = t) :
    Frame [wRf] s t { s with cells := t.cells, gnss := t.gnss, toggles := t.toggles } := by
  have inside : Within [wRf] (rfBase p) 0x1000 := rfBase_within (List.mem_singleton.2 rfl) hp
  have placed : RegsKept [wRf] s (s.notchPlaced p c) := ((RegsKept.refl _ s).setsIn inside (by rfl)).cells rfl
  have full := placed.eventIfIn (f := Rg.RF_EVT.NOTCH_FULL) inside i 28 (by decide) (by decide)
  obtain ⟨r, k, e⟩ := ((s.notchPlaced p c).eventIf i 28 (rfBase p) Rg.RF_EVT.NOTCH_FULL).jamUpdate_eq p pow sfm
  have regs : RegsKept [wRf] s t :=
    ht ▸ e ▸ RegsKept.eventIfIn (t := State.setRf _ p r) ((full.setsIn inside (by rfl)).cells rfl) inside k 28 (by decide) (by decide)
  have shape : RegShape ((s.setRf p _).setRf p r) t :=
    ht ▸ e ▸ ((((((RegShape.refl s).sets _ _).setRf p _).eventIf i _ _ _).sets _ _).setRf p r).eventIf k _ _ _
  obtain ⟨_, _, rfl⟩ := shape
  exact ⟨rfl, .of_mem rfl, regs⟩

/-- A port that learns a baseline is one of the unit's. -/
theorem State.lt_of_learn {x : Int × Nat × Nat} (h : (s.rfPort p).learn = some x) : p < s.gnss.ports.length := by
  by_contra hp
  have off : s.rfPort p = .off := List.getD_eq_default _ _ (Nat.le_of_not_lt hp)
  rw [off] at h
  exact nomatch h

/-- Port `p` with the baseline learned from 1,000 spectra or more. -/
def State.jamLearned (s : State) (p : Nat) (p0 : Int) (sfm0 : Nat) : State :=
  ((s.setRf p { s.rfPort p with learn := none }).setS (rfBase p) Rg.RF_JAM_BASE.P0 p0).set (rfBase p) Rg.RF_JAM_BASE.SFM0 sfm0

theorem State.get_jamLearned (s : State) (p : Nat) (p0 : Int) (sfm0 : Nat) :
    (s.jamLearned p p0 sfm0).get (rfBase p) Rg.RF_JAM_BASE.P0 = pat 16 p0 ∧
      (s.jamLearned p p0 sfm0).get (rfBase p) Rg.RF_JAM_BASE.SFM0 = sfm0 % 256 := by
  refine ⟨?_, State.get_set_same _ _ _ _⟩
  rw [State.jamLearned, State.get_set_off _ _ _ _ _ (by decide), State.setS, State.get_set_same]
  refine Nat.mod_eq_of_lt ?_
  have pos := Int.emod_nonneg p0 (show ((2 ^ 16 : Nat) : Int) ≠ 0 by decide)
  have small := Int.emod_lt_of_pos p0 (show (0 : Int) < (2 ^ 16 : Nat) by decide)
  exact (Int.toNat_lt pos).2 small

theorem Frame.jamLearned (s : State) (hp : p < 8) (p0 : Int) (sfm0 : Nat) {t : State} (ht : s.jamLearned p p0 sfm0 = t) :
    Frame [wRf] s t { s with cells := t.cells, gnss := t.gnss } := by
  have inside : Within [wRf] (rfBase p) 0x1000 := rfBase_within (List.mem_singleton.2 rfl) hp
  subst ht
  exact ⟨rfl, .of_mem rfl, (RegsKept.setIn (t := State.setRf _ p _) ((RegsKept.refl _ s).cells rfl) inside _ (by decide) (by decide)).setIn
    inside _ (by decide) (by decide)⟩

theorem execJamLearnDone_eq {f n : Nat} {y : Int} (h : (s.rfPort p).learn = some (y, f, n)) (hn : 1000 ≤ n) : execJamLearnDone p s =
    .next (s.jamLearned p (satS 16 (rnd 10 y n)) (min 255 (rnd 11 ((f * 255 : Nat) : Int) (n * 65536)).toNat)) := by
  unfold execJamLearnDone
  rw [h]
  exact if_neg (Nat.not_lt.2 hn)

/-! ### Bias (R205) -/

/-- A port found short before the encoder's causes follow. -/
def State.biasCut (s : State) (p : Nat) : State :=
  (s.feSpi p (fun r => { r with bias := 2, low := 0, mid := 0, retry := none, short := s.nowNs })).set (rfBase p) Rg.RF_BIAS.STATE 3

theorem ChanKept.biasShort (s : State) (p : Nat) : ChanKept (s.biasCut p) (s.biasShort p) := (ChanKept.refl _).refPorts

theorem execBiasSample_short {current : Nat} (hf : s.feeding p = true) (hr : (s.rfPort p).retry = none)
    (hs : s.get (rfBase p) Rg.RF_BIAS.STATE ≠ 3) (hi : s.get (rfBase p) Rg.RF_BIAS.SHORT_MA * 4 < min current 1023) :
    execBiasSample p current s =
      .next (((s.set (rfBase p) Rg.RF_BIAS.CURRENT (min current 1023)).biasShort p).event 28 (rfBase p) Rg.RF_EVT.BIAS_SHORT) := by
  have retry : ((s.set (rfBase p) Rg.RF_BIAS.CURRENT (min current 1023)).rfPort p).retry = none := hr
  rw [execBiasSample, if_pos hf]
  simp only [retry, hs, hi, if_false, decide_true, if_true]

theorem State.lt_of_feeding (h : s.feeding p = true) : p < 8 :=
  State.lt_of_rfFitted (Bool.and_eq_true_iff.1 (Bool.and_eq_true_iff.1 h).1).1

/-- A bias sample above SHORT_MA leaves the port short. -/
theorem State.get_biasShort (s : State) (hp : p < 8) (cur : Nat) {t : State}
    (ht : ((s.set (rfBase p) Rg.RF_BIAS.CURRENT cur).biasShort p).event 28 (rfBase p) Rg.RF_EVT.BIAS_SHORT = t) :
    t.get (rfBase p) Rg.RF_BIAS.STATE = 3 ∧ t.get (rfBase p) Rg.RF_EVT.BIAS_SHORT = 1 ∧
      t.get (rfBase p) Rg.RF_BIAS.CURRENT = cur % 2 ^ Rg.RF_BIAS.CURRENT.w := by
  subst ht
  have kept := ChanKept.biasShort (s.set (rfBase p) Rg.RF_BIAS.CURRENT cur) p
  refine ⟨?_, State.get_event_same _ _ _ _ (by decide), ?_⟩
  · rw [State.get_event_off _ _ _ _ _ (by decide), kept.get_rf hp (by decide) (by decide), State.biasCut, State.get_set_same]
    rfl
  · rw [State.get_event_off _ _ _ _ _ (by decide), kept.get_rf hp (by decide) (by decide), State.biasCut,
      State.get_set_off _ _ _ _ _ (by decide), State.get_feSpi, State.get_set_same]

theorem RegShape.rfPort (h : RegShape s t) (p : Nat) : t.rfPort p = s.rfPort p := by
  obtain ⟨_, _, rfl⟩ := h
  rfl

theorem State.rfPort_biasShort (s : State) (hl : p < s.gnss.ports.length) (cur : Nat) {t : State}
    (ht : ((s.set (rfBase p) Rg.RF_BIAS.CURRENT cur).biasShort p).event 28 (rfBase p) Rg.RF_EVT.BIAS_SHORT = t) :
    (t.rfPort p).bias = 2 ∧ (t.rfPort p).short = s.nowNs := by
  have shown : RegShape ((s.set (rfBase p) Rg.RF_BIAS.CURRENT cur).biasShort p) t := ht ▸ (RegShape.refl _).event _ _ _
  have own : t.rfPort p = _ := (shown.rfPort p).trans (((ChanKept.biasShort _ p).rfPort p).trans (State.rfPort_setRf hl _))
  rw [own]
  exact ⟨rfl, rfl⟩

theorem Frame.biasShort (s : State) (hp : p < 8) (cur : Nat) {t : State}
    (ht : ((s.set (rfBase p) Rg.RF_BIAS.CURRENT cur).biasShort p).event 28 (rfBase p) Rg.RF_EVT.BIAS_SHORT = t) :
    Frame [wRf, wRc, wTiles] s t { s with cells := t.cells, gnss := t.gnss, log := t.log, toggles := t.toggles } := by
  have inside : Within [wRf, wRc, wTiles] (rfBase p) 0x1000 := rfBase_within (by simp) hp
  have kept := ChanKept.biasShort (s.set (rfBase p) Rg.RF_BIAS.CURRENT cur) p
  have measured : RegsKept [wRf, wRc, wTiles] s (s.set (rfBase p) Rg.RF_BIAS.CURRENT cur) :=
    (RegsKept.refl _ s).setIn inside cur (by decide) (by decide)
  have cut : RegsKept [wRf, wRc, wTiles] s ((s.set (rfBase p) Rg.RF_BIAS.CURRENT cur).biasCut p) :=
    RegsKept.setIn (t := State.feSpi _ p _) (measured.cells rfl) inside 3 (by decide) (by decide)
  have regs := (cut.trans (kept.regs.mono (by simp))).eventIn (f := Rg.RF_EVT.BIAS_SHORT) inside 28 (by decide) (by decide)
  obtain ⟨_, _, shown⟩ : RegShape ((s.set (rfBase p) Rg.RF_BIAS.CURRENT cur).biasShort p) t := ht ▸ (RegShape.refl _).event _ _ _
  obtain ⟨_, _, _, _, e⟩ := kept.shape
  rw [e] at shown
  rw [ht] at regs
  subst shown
  exact ⟨rfl, .of_mem rfl, regs⟩

end Sys2Proof.Machine
end

section
/-! PROOF. RF sample ports (R195–R205, R223). -/

set_option Elab.async false

open Sys2Proof Sys2Proof.Machine

/-- Settles O27: each command takes the one branch of its rule that its hypotheses name; what the port's searches, channels and causes do
then lies in other windows (`ChanKept`). RF_STAT.SLIP is the offset that the alignment found (log entry 39). -/
theorem rfPortsRunAndFail : Obligations.RfPortsRunAndFail := by
  refine ⟨?enable, ?retrain, ?clockLoss, ?autoRetrain, ?rateCheck, ?learn, ?learnDone, ?notch, ?biasSample, ?biasRetry⟩
  case enable =>
    intro m p fe a s ⟨hm, hon, hfit, hoff, hd⟩ ⟨he, hman⟩ ⟨hk, hf, hr, ha⟩
    have hp := State.lt_of_rfFitted hfit
    refine ⟨_, congrArg Host.Outcome.next (State.rfWrite_eq hm hon hfit 0 _), ?_⟩
    rw [State.rfEnable_eq he hoff hd hman hk hf hr ha]
    obtain ⟨run, code, rate, inv, slip⟩ := s.get_rfTrained_stat hp fe a
    obtain ⟨en, centre, vendor⟩ := s.get_rfTrained hp fe a
    generalize ht : s.rfTrained p fe a = t at *
    exact ⟨run, en, code, rate, centre, vendor, inv, slip, Frame.rfTrained s hp fe a ht⟩
  case retrain =>
    intro m p fe s ⟨hm, hon, hfit, hoff, hd⟩ ⟨he, hman, ht⟩
    have hp := State.lt_of_rfFitted hfit
    refine ⟨_, congrArg Host.Outcome.next (State.rfWrite_eq hm hon hfit 8 _), ?_⟩
    rw [State.rfRetrain_eq hp he hoff hd hman ht]
    obtain ⟨run, code, slip⟩ := s.get_rfResumed hp
    generalize ht : s.rfResumed p = t at *
    obtain ⟨e, bytes, regs⟩ := Frame.rfResumed s hp ht
    exact ⟨run, code, slip, congrArg (·.answer .ok 0) e, bytes, regs.cells rfl⟩
  case clockLoss =>
    intro p s hr
    have hp := State.lt_of_rfFitted (State.fitted_of_rfRun hr)
    obtain ⟨fail, code, event⟩ := s.get_rfFail hp 4
    exact ⟨s.rfFail p 4, if_pos hr, fail, code, event, Frame.rfFail s hp 4 rfl⟩
  case autoRetrain =>
    intro p fe s ⟨hfit, hfail, hcode, hauto⟩ ⟨he, hman, ht, hd, hoff⟩
    have hp := State.lt_of_rfFitted hfit
    refine ⟨_, if_pos ⟨hfit, hfail, hcode, hauto⟩, ?_⟩
    rw [State.rfRetrain_eq hp he hoff hd hman ht]
    obtain ⟨run, code, -⟩ := s.get_rfResumed hp
    exact ⟨run, code, Frame.rfResumed s hp rfl⟩
  case rateCheck =>
    intro p sps s hr
    have hp := State.lt_of_rfFitted (State.fitted_of_rfRun hr)
    have inside : Within [wRf] (rfBase p) 0x1000 := rfBase_within (by simp) hp
    obtain ⟨ok, rate⟩ := s.get_rateCheck p (b2n !rateOff (s.get (rfBase p) Rg.RF_FE_FREQ.RATE) sps) sps
      (rateOff (s.get (rfBase p) Rg.RF_FE_FREQ.RATE) sps)
    refine ⟨_, execRfRateCheck_eq hr, ⟨ok.trans ?_, rate⟩, ?_⟩
    · rw [rateOff]
      split
      · next h => rw [decide_eq_true h]; rfl
      · next h => rw [decide_eq_false h]; rfl
    · exact ((((RegShape.refl s).set _ _ _).set _ _ _).eventIf _ _ _ _).frame rfl
        ((((RegsKept.refl _ s).setIn inside _ (by decide) (by decide)).setIn inside _ (by decide) (by decide)).eventIfIn inside _ _
          (by decide) (by decide))
  case learn =>
    intro m p s ⟨hm, hon, hr, hl⟩
    refine ⟨_, congrArg Host.Outcome.next (State.rfWrite_eq hm hon (State.fitted_of_rfRun hr) 8 _), ?_⟩
    rw [State.jamLearn, if_pos hr]
    exact ⟨congrArg RfPort.learn (State.rfPort_setRf hl _), rfl, .of_mem rfl, .of_cells rfl⟩
  case learnDone =>
    intro p n f a s ⟨hlearn, hn, hp⟩
    obtain ⟨p0, sfm0⟩ := s.get_jamLearned p (satS 16 (rnd 10 a n)) (min 255 (rnd 11 ((f * 255 : Nat) : Int) (n * 65536)).toNat)
    refine ⟨_, execJamLearnDone_eq hlearn hn, p0, sfm0.trans (Nat.mod_eq_of_lt ?_), ?_, Frame.jamLearned s hp _ _ rfl⟩
    · exact Nat.lt_succ_of_le (Nat.min_le_left _ _)
    · exact congrArg RfPort.learn (State.rfPort_setRf (State.lt_of_learn hlearn) _)
  case notch =>
    intro p lvl j bins ps s ⟨hr, hm, he⟩ ⟨h1, h2, h3⟩ hpk
    have hp := State.lt_of_rfFitted (State.fitted_of_rfRun hr)
    obtain ⟨i, hx⟩ := execNotchDetect_eq hr hm he h1 h2 h3 hpk
    obtain ⟨engaged, centre, ji⟩ := s.get_notchPlaced p (wordOf j) (specFlat bins) (specPower bins) i rfl
    exact ⟨_, hx, engaged, centre, ji, Frame.notchPlaced s hp _ _ _ i rfl⟩
  case biasSample =>
    intro p current s ⟨hf, hretry, hst⟩ hi
    have hp := State.lt_of_feeding hf
    obtain ⟨state, event, cur⟩ := s.get_biasShort hp (min current 1023) rfl
    refine ⟨_, execBiasSample_short hf hretry hst hi, state, event, cur.trans (Nat.mod_eq_of_lt ?_), fun hl => ?_, ?_⟩
    · exact Nat.lt_succ_of_le (Nat.min_le_right _ _)
    · exact s.rfPort_biasShort hl (min current 1023) rfl
    · exact Frame.biasShort s hp _ rfl
  case biasRetry =>
    intro p s ⟨hf, hst, hretry, hl⟩ hw
    have own : (s.feSpi p (fun r => { r with retry := some (10, true), bias := 1 })).rfPort p = _ := State.rfPort_setRf hl _
    exact ⟨_, if_pos ⟨hf, hst, hretry, hw⟩, congrArg RfPort.retry own, congrArg RfPort.bias own, rfl, .of_mem rfl, .of_cells rfl⟩

end

section
/-! SUPPORT. The registers of an OBS tile, its causes and its integrity state, and what the frame of its commands is put together
from (R224, R239, R240). -/

set_option Elab.async false

namespace Sys2Proof

/-! ### One bit of a word -/

theorem bitOf_eq_testBit (n v : Nat) : bitOf n v = v.testBit n := by
  rw [bitOf, Nat.testBit_eq_decide_div_mod_eq]
  rfl

/-- A word with one bit replaced: what stands above the bit, the bit, and what stands below it. -/
theorem putBits_one (k v x : Nat) : putBits k 1 v x = 2 ^ k * (2 * (v / 2 ^ k / 2) + x % 2) + v % 2 ^ k := by
  have whole := Nat.div_add_mod v (2 ^ k)
  have upper := Nat.div_add_mod (v / 2 ^ k) 2
  have parts : 2 ^ k * (v / 2 ^ k) = 2 ^ k * (2 * (v / 2 ^ k / 2)) + v / 2 ^ k % 2 * 2 ^ k := by
    conv_lhs => rw [← upper]
    ring
  rw [putBits, bits, pow_one, mul_add, mul_comm (2 ^ k) (x % 2)]
  omega

/-- One bit replaced reads as put, and the others read as before. -/
theorem bitOf_putBits_one (n k v : Nat) (b : Bool) : bitOf n (putBits k 1 v (b2n b)) = if n = k then b else bitOf n v := by
  rw [bitOf_eq_testBit, bitOf_eq_testBit, putBits_one, Nat.testBit_two_pow_mul_add _ (Nat.mod_lt _ (Nat.two_pow_pos k))]
  rcases lt_trichotomy n k with h | rfl | h
  · rw [if_pos h, if_neg h.ne, Nat.testBit_mod_two_pow, decide_eq_true h, Bool.true_and]
  · rw [if_neg (lt_irrefl n), if_pos rfl, Nat.sub_self]
    cases b <;> simp [b2n, Nat.testBit_zero, Nat.add_mod]
  · obtain ⟨j, rfl⟩ := Nat.exists_eq_add_of_lt h
    have shift : k + j + 1 - k = j + 1 := by omega
    have low : (2 * (v / 2 ^ k / 2) + b2n b % 2) / 2 = v / 2 ^ k / 2 := by omega
    rw [if_neg (by omega), if_neg (by omega), shift, Nat.testBit_succ, low, ← Nat.testBit_succ, Nat.testBit_div_two_pow]
    congr 1
    omega

end Sys2Proof

namespace Sys2Proof.Machine

variable {s t : State} {ws : List (Nat × Nat)} {i n : Nat} {f : Fld} {m : Master}

/-! ### The block of a tile -/

theorem obBase_eq (hi : i < 2) : obBase i = tileBase (obPos i) := by
  interval_cases i <;> rfl

/-- A block at an offset of an OBS tile's registers lies in the window of the tile. -/
theorem obBlock_within (hw : wTile (obPos i) ∈ ws) (hi : i < 2) (x : Nat) (hx : x + n ≤ 0x4000) : Within ws (obBase i + x) n := by
  have range := kindBase_range .obs i
  refine ⟨wTile (obPos i), hw, fun off ho => ?_⟩
  simp only [wTile, ← obBase_eq hi]
  unfold obBase
  omega

theorem obTile_within (hw : wTile (obPos i) ∈ ws) (hi : i < 2) : Within ws (obBase i) 0x4000 := by
  have whole := obBlock_within hw hi 0 (n := 0x4000) le_rfl
  rwa [Nat.add_zero] at whole

theorem outBase_within (hw : wTile (obPos i) ∈ ws) (hi : i < 2) (hn : n < 4) : Within ws (outBase i n) 0x3000 :=
  obBlock_within hw hi _ (by omega)

theorem State.lt_of_obOn (h : s.obOn i = true) : i < 2 := by
  simp only [State.obOn, Bool.and_eq_true, decide_eq_true_eq] at h
  omega

/-- A write of the encoder's register by a master that has the right, while FA is powered. -/
theorem State.obWrite_ok (hi : i < 2) (hm : mayWriteService s m = true) (hon : s.on .fa = true) (he : s.isEnc i = true) (off : Nat)
    (f : State → State) : s.obWrite m i off f = (f s).answer .ok 0 := by
  rw [State.obWrite, State.actWrite_ok _ _ _ _ _ _ (by rw [hm, decide_eq_true hi]; rfl) hon, if_pos he]

theorem State.ob_setOb (hi : i < s.obs.length) (o : ObsTile) : (s.setOb i o).ob i = o := listSet_getD_same _ _ _ _ hi

@[simp] theorem State.get_setOb (s : State) (i : Nat) (o : ObsTile) (b : Nat) (f : Fld) : (s.setOb i o).get b f = s.get b f := rfl

@[simp] theorem State.ob_answer (s : State) (h : Done) (v i : Nat) : (s.answer h v).ob i = s.ob i := rfl
@[simp] theorem State.cause_answer (s : State) (h : Done) (v i n : Nat) : (s.answer h v).cause i n = s.cause i n := rfl
@[simp] theorem State.intState_answer (s : State) (h : Done) (v i : Nat) : (s.answer h v).intState i = s.intState i := rfl

theorem RegShape.ob (h : RegShape s t) (i : Nat) : t.ob i = s.ob i := by
  obtain ⟨c, g, rfl⟩ := h
  rfl

theorem RegShape.obs_length (h : RegShape s t) : t.obs.length = s.obs.length := by
  obtain ⟨c, g, rfl⟩ := h
  rfl

theorem RecShape.ob (h : RecShape s t) (i : Nat) : t.ob i = s.ob i := by
  obtain ⟨c, g, l, rfl⟩ := h
  rfl

theorem RegShape.recShape (h : RegShape s t) : RecShape s t := (RecShape.refl s).shape h

/-- A tile's record replaced beside writes of fields and events. -/
theorem RecShape.setOb (h : RecShape s t) (i : Nat) (o : ObsTile) : RecShape (s.setOb i o) (t.setOb i o) := by
  obtain ⟨c, g, l, rfl⟩ := h
  exact ⟨c, g, l, rfl⟩

theorem RegsKept.setOb (hk : RegsKept ws s t) (i : Nat) (o : ObsTile) : RegsKept ws s (t.setOb i o) := hk.cells rfl

/-! ### The frame of a command of an OBS tile -/

/-- A command that writes fields and events and requests records. -/
theorem RecShape.frame (h : RecShape s t) (hk : RegsKept ws s t) :
    Frame ws s t { s with cells := t.cells, toggles := t.toggles, log := t.log } := by
  obtain ⟨c, g, l, rfl⟩ := h
  exact ⟨rfl, .of_mem rfl, hk⟩

/-- The same of a command that replaces a tile's record too. -/
theorem RecShape.frame_setOb {o : ObsTile} (h : RecShape (s.setOb i o) t) (hk : RegsKept ws s t) :
    Frame ws s t { s with cells := t.cells, obs := t.obs, toggles := t.toggles, log := t.log } := by
  obtain ⟨c, g, l, rfl⟩ := h
  exact ⟨rfl, .of_mem rfl, hk⟩

/-- A command's frame with the answer to the access that brought it. -/
theorem Frame.answer {u : State} (h : Frame ws s t u) : Frame ws s (t.answer .ok 0) { u with resp := ⟨.ok, 0⟩ } := by
  obtain ⟨rfl, bytes, regs⟩ := h
  exact ⟨rfl, bytes, regs⟩

/-! ### Causes (R239) -/

theorem RegShape.setCause (h : RegShape s t) (i k : Nat) (b : Bool) : RegShape s (t.setCause i k b) := h.set _ _ _

theorem RegsKept.setCause (hk : RegsKept ws s t) (hb : Within ws (obBase i) 0x4000) (k : Nat) (b : Bool) :
    RegsKept ws s (t.setCause i k b) := hk.setIn hb _ (by decide) (by decide)

theorem State.get_setCause_off (s : State) (i k : Nat) (b : Bool)
    (h : f.off * 64 + f.lo ≠ Rg.OB_INT_STAT.CAUSE.off * 64 + Rg.OB_INT_STAT.CAUSE.lo) :
    (s.setCause i k b).get (obBase i) f = s.get (obBase i) f := s.get_set_off _ _ _ _ h

/-- A cause bit set or cleared reads so, and the others stand. -/
theorem State.cause_setCause (s : State) (i k n : Nat) (b : Bool) (hn : n < 8) :
    (s.setCause i k b).cause i n = if n = k then b else s.cause i n := by
  have width : Rg.OB_INT_STAT.CAUSE.w = 8 := rfl
  rw [State.cause, State.setCause, State.get_set_same, width, bitOf_eq_testBit, Nat.testBit_mod_two_pow, decide_eq_true hn,
    Bool.true_and, ← bitOf_eq_testBit, bitOf_putBits_one]
  rfl

/-! ### The integrity state (R240) -/

/-- The bits of an OBS tile that INT_STAT's update writes. -/
def intFlds : List Fld := [Rg.OB_INT_STAT.STATE, Rg.OB_EVT.INT_CHG, Rg.OB_EVT.WITHHELD]

/-- A field that INT_STAT's update does not write: its place in the tile is none of theirs. -/
abbrev NotInt (f : Fld) : Prop := (∀ g ∈ intFlds, f.off * 64 + f.lo ≠ g.off * 64 + g.lo) ∧ f.off < 0x4000 ∧ f.lo < 64

/-- A record touches no register of an OBS tile. -/
theorem State.get_record_ob (s : State) (i code sev src : Nat) (data : List Byte) (ho : f.off < 0x4000) (hl : f.lo < 64) :
    (s.record code sev src data).get (obBase i) f = s.get (obBase i) f := by
  have range := kindBase_range .obs i
  apply State.get_request_ne
  · simp only [fldKey, obBase, bRc, Rg.RC_LOSS.INPUT]
    omega
  · simp only [fldKey, obBase, bRc, Rg.RC_EVT.LOSS]
    omega

/-- The integrity state `n` shown, with INT_CHG. -/
def State.intShown (s : State) (i n : Nat) : State := (s.set (obBase i) Rg.OB_INT_STAT.STATE n).obEvent i Rg.OB_EVT.INT_CHG

/-- What INT_STAT's update does: nothing where the state stands, otherwise the new state shown, and with WITHHELD a record. -/
theorem State.intUpdate_cases (s : State) (i : Nat) :
    (s.intUpdate i = s ∧ s.get (obBase i) Rg.OB_INT_STAT.STATE = s.intState i) ∨ s.intUpdate i = s.intShown i (s.intState i) ∨
    ∃ data, s.intUpdate i = ((s.intShown i (s.intState i)).obEvent i Rg.OB_EVT.WITHHELD).record 0x030 3 (tileEv (obPos i)) data := by
  unfold State.intUpdate
  extract_lets b n
  by_cases same : n = s.get b Rg.OB_INT_STAT.STATE
  · rw [if_pos same]
    exact .inl ⟨rfl, same.symm⟩
  · rw [if_neg same]
    by_cases withheld : n = 4
    · exact .inr (.inr ⟨_, if_pos withheld⟩)
    · exact .inr (.inl (if_neg withheld))

theorem RegShape.intShown (h : RegShape s t) (i n : Nat) : RegShape s (t.intShown i n) := (h.set _ _ _).event _ _ _

theorem RegsKept.intShown (hk : RegsKept ws s t) (hb : Within ws (obBase i) 0x4000) (n : Nat) : RegsKept ws s (t.intShown i n) :=
  (hk.setIn hb n (by decide) (by decide)).eventIn hb _ (by decide) (by decide)

theorem State.get_intShown (s : State) (i n : Nat) (h : NotInt f) : (s.intShown i n).get (obBase i) f = s.get (obBase i) f := by
  obtain ⟨apart, -, -⟩ := h
  exact (State.get_event_off _ _ _ _ _ (apart _ (by decide))).trans (State.get_set_off _ _ _ _ _ (apart _ (by decide)))

/-- The codes of the integrity state fit its three bits. -/
theorem State.intState_lt (s : State) (i : Nat) : s.intState i < 8 := by
  unfold State.intState
  extract_lets b
  split_ifs <;> omega

theorem State.get_intShown_state (s : State) (i : Nat) :
    (s.intShown i (s.intState i)).get (obBase i) Rg.OB_INT_STAT.STATE = s.intState i :=
  (State.get_event_off _ _ _ _ _ (by decide)).trans ((State.get_set_same _ _ _ _).trans (Nat.mod_eq_of_lt (s.intState_lt i)))

theorem RecShape.intUpdate (h : RecShape s t) (i : Nat) : RecShape s (t.intUpdate i) := by
  have shown : RecShape s (t.intShown i (t.intState i)) := h.shape ((RegShape.refl t).intShown i _)
  rcases t.intUpdate_cases i with ⟨e, -⟩ | e | ⟨data, e⟩
  · rwa [e]
  · rwa [e]
  · rw [e]
    exact (shown.shape ((RegShape.refl _).event _ _ _)).request _

theorem RegsKept.intUpdate (hk : RegsKept ws s t) (hb : Within ws (obBase i) 0x4000) (hw : wRc ∈ ws) :
    RegsKept ws s (t.intUpdate i) := by
  have shown := hk.intShown hb (t.intState i)
  rcases t.intUpdate_cases i with ⟨e, -⟩ | e | ⟨data, e⟩
  · rwa [e]
  · rwa [e]
  · rw [e]
    exact (shown.eventIn hb _ (by decide) (by decide)).request _ hw

theorem State.get_intUpdate (s : State) (i : Nat) (h : NotInt f) : (s.intUpdate i).get (obBase i) f = s.get (obBase i) f := by
  obtain ⟨apart, ho, hl⟩ := h
  rcases s.intUpdate_cases i with ⟨e, -⟩ | e | ⟨data, e⟩
  · rw [e]
  · rw [e, State.get_intShown _ _ _ ⟨apart, ho, hl⟩]
  · rw [e, State.get_record_ob _ _ _ _ _ _ ho hl]
    exact (State.get_event_off _ _ _ _ _ (apart _ (by decide))).trans (State.get_intShown _ _ _ ⟨apart, ho, hl⟩)

theorem State.get_intUpdate_state (s : State) (i : Nat) : (s.intUpdate i).get (obBase i) Rg.OB_INT_STAT.STATE = s.intState i := by
  rcases s.intUpdate_cases i with ⟨e, same⟩ | e | ⟨data, e⟩
  · rw [e, same]
  · rw [e, State.get_intShown_state]
  · rw [e, State.get_record_ob _ _ _ _ _ _ (by decide) (by decide)]
    exact (State.get_event_off _ _ _ _ _ (by decide)).trans (s.get_intShown_state i)

theorem State.cause_intUpdate (s : State) (i n : Nat) : (s.intUpdate i).cause i n = s.cause i n :=
  congrArg (bitOf n) (s.get_intUpdate i (by decide))

/-- The integrity state follows from the causes, MON_EN, BASE_STATE and the tile's record. -/
theorem State.intState_congr (hc : ∀ n, t.cause i n = s.cause i n)
    (hm : t.flag (obBase i) Rg.OB_INT.MON_EN = s.flag (obBase i) Rg.OB_INT.MON_EN)
    (hb : t.get (obBase i) Rg.OB_SV_STAT.BASE_STATE = s.get (obBase i) Rg.OB_SV_STAT.BASE_STATE) (ho : t.ob i = s.ob i) :
    t.intState i = s.intState i := by
  simp only [State.intState, hc, hm, hb, ho]

/-- After the update INT_STAT shows what the causes give. -/
theorem State.intUpdate_follows (s : State) (i : Nat) :
    (s.intUpdate i).get (obBase i) Rg.OB_INT_STAT.STATE = (s.intUpdate i).intState i := by
  have stands : (s.intUpdate i).intState i = s.intState i := State.intState_congr (s.cause_intUpdate i)
    (congrArg (· == 1) (s.get_intUpdate i (by decide))) (s.get_intUpdate i (by decide)) (((RecShape.refl s).intUpdate i).ob i)
  rw [stands, State.get_intUpdate_state]

end Sys2Proof.Machine
end

section
/-! PROOF. The integrity state: CLEAR, an unmonitored encoder, and the limits of HOLDOVER (R238–R241). -/

set_option Elab.async false

namespace Sys2Proof.Machine

variable {s : State} {i : Nat}

/-- BASELINE_WH and LATCHED cleared. -/
def State.latchCleared (s : State) (i : Nat) : State := (s.setCause i cWh false).setCause i cLatched false

theorem State.intClear_of_latched (h : s.cause i cLatched = true) : s.intClear i = (s.latchCleared i).intUpdate i := if_pos h

theorem State.cause_latchCleared_wh (s : State) (i : Nat) : (s.latchCleared i).cause i cWh = false := by
  rw [State.latchCleared, State.cause_setCause _ _ _ _ _ (by decide), if_neg (by decide), State.cause_setCause _ _ _ _ _ (by decide),
    if_pos rfl]

theorem State.cause_latchCleared_latched (s : State) (i : Nat) : (s.latchCleared i).cause i cLatched = false := by
  rw [State.latchCleared, State.cause_setCause _ _ _ _ _ (by decide), if_pos rfl]

/-- In HOLDOVER with the time uncertainty past its limit the TIME cause is set. -/
theorem State.timeCause_of_far (hm : s.mode = .holdover) (ht : max 1 (s.get (obBase i) Rg.OB_HO.TERR_MAX) * 100 < s.terr) :
    s.timeCause i = s.setCause i cTime true := by
  unfold State.timeCause
  extract_lets b far long
  exact if_pos ⟨hm, .inl (decide_eq_true ht)⟩

/-- A command that sets or clears causes of tile `i`, reaching `t`, and brings the integrity state up to date. -/
theorem Frame.causes {t : State} (hi : i < 2) (hs : RegShape s t) (hk : RegsKept [wTile (obPos i), wRc] s t) :
    Frame [wTile (obPos i), wRc] s (t.intUpdate i)
      { s with cells := (t.intUpdate i).cells, toggles := (t.intUpdate i).toggles, log := (t.intUpdate i).log } :=
  (hs.recShape.intUpdate i).frame (hk.intUpdate (obTile_within (by simp) hi) (by simp))

theorem Frame.setCause (s : State) (hi : i < 2) (k : Nat) (b : Bool) :
    Frame [wTile (obPos i), wRc] s ((s.setCause i k b).intUpdate i)
      { s with cells := ((s.setCause i k b).intUpdate i).cells, toggles := ((s.setCause i k b).intUpdate i).toggles,
               log := ((s.setCause i k b).intUpdate i).log } :=
  .causes hi ((RegShape.refl s).setCause _ _ _) ((RegsKept.refl _ s).setCause (obTile_within (by simp) hi) _ _)

theorem Frame.latchCleared (s : State) (hi : i < 2) :
    Frame [wTile (obPos i), wRc] s ((s.latchCleared i).intUpdate i)
      { s with cells := ((s.latchCleared i).intUpdate i).cells, toggles := ((s.latchCleared i).intUpdate i).toggles,
               log := ((s.latchCleared i).intUpdate i).log } :=
  have inside := obTile_within (ws := [wTile (obPos i), wRc]) (by simp) hi
  .causes hi (((RegShape.refl s).setCause _ _ _).setCause _ _ _) (((RegsKept.refl _ s).setCause inside _ _).setCause inside _ _)

/-- The cause set stands after the update. -/
theorem State.cause_set_intUpdate (s : State) (i k : Nat) (hk : k < 8) : ((s.setCause i k true).intUpdate i).cause i k = true := by
  rw [State.cause_intUpdate, State.cause_setCause _ _ _ _ _ hk, if_pos rfl]

end Sys2Proof.Machine

open Sys2Proof Sys2Proof.Machine

/-- Settles O31: each command changes causes and then brings the integrity state up to date. -/
theorem integrityFollowsItsCauses : Obligations.IntegrityFollowsItsCauses := by
  unfold Obligations.IntegrityFollowsItsCauses
  refine ⟨fun m inst s ⟨hi, hm, hon, he, hl⟩ => ?clear, fun inst s ⟨hon, he, hn⟩ ht => ?unmonitored,
    fun inst s ⟨hon, he, hm, ht⟩ => ?holdover⟩
  case clear =>
    refine ⟨_, rfl, ?_⟩
    rw [State.obWrite_ok hi hm hon he, State.intClear_of_latched hl]
    simp only [State.get_answer, State.cause_answer, State.intState_answer]
    refine ⟨?_, ?_, (s.latchCleared inst).intUpdate_follows inst, (Frame.latchCleared s hi).answer⟩
    · exact (State.cause_intUpdate _ _ _).trans (s.cause_latchCleared_wh inst)
    · exact (State.cause_intUpdate _ _ _).trans (s.cause_latchCleared_latched inst)
  case unmonitored =>
    exact ⟨_, if_pos ⟨hon, he, hn, ht⟩, s.cause_set_intUpdate inst cUnmon (by decide), State.intUpdate_follows _ _,
      Frame.setCause s (State.lt_of_obOn hon) _ _⟩
  case holdover =>
    refine ⟨(s.setCause inst cTime true).intUpdate inst, ?_, s.cause_set_intUpdate inst cTime (by decide), State.intUpdate_follows _ _,
      Frame.setCause s (State.lt_of_obOn hon) _ _⟩
    rw [← State.timeCause_of_far hm ht]
    exact if_pos ⟨hon, he⟩

end

section
/-! SUPPORT. The survey state, a position that becomes fixed, and the start of a check (R232–R236). -/

set_option Elab.async false

namespace Sys2Proof.Machine

variable {s t : State} {ws : List (Nat × Nat)} {i st src : Nat} {f : Fld} {p : Int × Int × Int} {o : ObsTile}

/-! ### The survey state and the POS cause (R239) -/

/-- The fields of an OBS tile that a change of the survey state writes. -/
def svFlds : List Fld := Rg.OB_SV_STAT.STATE :: Rg.OB_INT_STAT.CAUSE :: intFlds

/-- A field that a change of the survey state does not write. -/
abbrev NotSv (f : Fld) : Prop := (∀ g ∈ svFlds, f.off * 64 + f.lo ≠ g.off * 64 + g.lo) ∧ f.off < 0x4000 ∧ f.lo < 64

theorem NotSv.notInt (h : NotSv f) : NotInt f :=
  ⟨fun g hg => h.1 g (List.mem_cons_of_mem _ (List.mem_cons_of_mem _ hg)), h.2⟩

theorem RecShape.svState (h : RecShape s t) (i st : Nat) : RecShape s (t.svState i st) :=
  (h.shape (((RegShape.refl t).set _ _ _).setCause _ _ _)).intUpdate i

theorem RegsKept.svState (hk : RegsKept ws s t) (hb : Within ws (obBase i) 0x4000) (hw : wRc ∈ ws) (st : Nat) :
    RegsKept ws s (t.svState i st) :=
  ((hk.setIn hb st (by decide) (by decide)).setCause hb _ _).intUpdate hb hw

theorem State.ob_svState (s : State) (i st : Nat) : (s.svState i st).ob i = s.ob i := ((RecShape.refl s).svState i st).ob i

theorem State.get_svState (s : State) (i st : Nat) (h : NotSv f) : (s.svState i st).get (obBase i) f = s.get (obBase i) f := by
  rw [State.svState, State.get_intUpdate _ _ h.notInt, State.get_setCause_off _ _ _ _ (h.1 _ (by decide)),
    State.get_set_off _ _ _ _ _ (h.1 _ (by decide))]

theorem State.get_svState_state (s : State) (i st : Nat) : (s.svState i st).get (obBase i) Rg.OB_SV_STAT.STATE = st % 2 ^ 3 := by
  rw [State.svState, State.get_intUpdate _ _ (by decide), State.get_setCause_off _ _ _ _ (by decide), State.get_set_same]
  rfl

/-- POS stands unless the position is fixed. -/
theorem State.cause_svState (s : State) (i st : Nat) : (s.svState i st).cause i cPos = (st != 3) := by
  rw [State.svState, State.cause_intUpdate, State.cause_setCause _ _ _ _ _ (by decide), if_pos rfl]

/-- A command that replaces the record of tile `i`, writes its registers and ends with a new survey state. -/
theorem Frame.svState (hi : i < 2) (hs : RecShape (s.setOb i o) t) (hk : RegsKept [wTile (obPos i), wRc] s t) (st : Nat) :
    Frame [wTile (obPos i), wRc] s (t.svState i st)
      { s with cells := (t.svState i st).cells, obs := (t.svState i st).obs, toggles := (t.svState i st).toggles,
               log := (t.svState i st).log } :=
  (hs.svState i st).frame_setOb (hk.svState (obTile_within (by simp) hi) (by simp) st)

/-! ### A position that becomes fixed (R235, R236) -/

/-- The position and its SOURCE as they are shown. -/
def fixFlds (src : Nat) (p : Int × Int × Int) : List (Fld × Nat) :=
  [(Rg.OB_POSX.MM, pat 64 p.1), (Rg.OB_POSY.MM, pat 64 p.2.1), (Rg.OB_POSZ.MM, pat 64 p.2.2), (Rg.OB_POS_UNC.SOURCE, src)]

/-- The fixed position shown, with IODS raised for a new one and BASE_STATE 1 where no baseline is set. -/
def State.fixShown (s : State) (i src : Nat) (p : Int × Int × Int) : State :=
  let t := s.sets (obBase i) (fixFlds src p)
  let u := if (s.ob i).fixed = some p then t else t.set (obBase i) Rg.OB_SV_STAT.IODS (s.get (obBase i) Rg.OB_SV_STAT.IODS + 1)
  if s.get (obBase i) Rg.OB_SV_STAT.BASE_STATE = 0 then u.set (obBase i) Rg.OB_SV_STAT.BASE_STATE 1 else u

/-- A position that becomes fixed: shown, taken into the tile's record, and SURVEY_DONE before the survey state is FIXED. -/
theorem State.fixPos_eq (s : State) (i src : Nat) (p : Int × Int × Int) :
    ∃ v, s.fixPos i src p = (((s.fixShown i src p).setOb i { s.ob i with triple := p, fixed := some p, base := v }).obEvent i
      Rg.OB_EVT.SURVEY_DONE).svState i 3 := ⟨_, rfl⟩

theorem RegShape.ite {c : Prop} {_ : Decidable c} {t u : State} (ht : RegShape s t) (hu : RegShape s u) :
    RegShape s (if c then t else u) := by
  split
  · exact ht
  · exact hu

theorem RegsKept.ite {c : Prop} {_ : Decidable c} {t u : State} (ht : RegsKept ws s t) (hu : RegsKept ws s u) :
    RegsKept ws s (if c then t else u) := by
  split
  · exact ht
  · exact hu

theorem State.fixShown_shape (s : State) (i src : Nat) (p : Int × Int × Int) : RegShape s (s.fixShown i src p) := by
  unfold State.fixShown
  extract_lets t u
  have ht : RegShape s t := (RegShape.refl s).sets _ _
  have hu : RegShape s u := ht.ite (ht.set _ _ _)
  exact (hu.set _ _ _).ite hu

theorem RegsKept.fixShown (s : State) (hb : Within ws (obBase i) 0x4000) (src : Nat) (p : Int × Int × Int) :
    RegsKept ws s (s.fixShown i src p) := by
  unfold State.fixShown
  extract_lets t u
  have ht : RegsKept ws s t := (RegsKept.refl ws s).setsIn hb rfl
  have hu : RegsKept ws s u := ht.ite (ht.setIn hb _ (by decide) (by decide))
  exact (hu.setIn hb _ (by decide) (by decide)).ite hu

/-- The fields shown of the position stand beside IODS and BASE_STATE. -/
theorem State.get_fixShown (s : State) (i src : Nat) (p : Int × Int × Int)
    (h : ∀ g ∈ [Rg.OB_SV_STAT.IODS, Rg.OB_SV_STAT.BASE_STATE], f.off * 64 + f.lo ≠ g.off * 64 + g.lo) :
    (s.fixShown i src p).get (obBase i) f = (s.sets (obBase i) (fixFlds src p)).get (obBase i) f := by
  unfold State.fixShown
  extract_lets t u
  have hu : u.get (obBase i) f = t.get (obBase i) f := by
    unfold u
    split
    · rfl
    · exact State.get_set_off _ _ _ _ _ (h _ (by decide))
  split
  · exact (State.get_set_off _ _ _ _ _ (h _ (by decide))).trans hu
  · exact hu

/-- A field shown with a position, as it reads once the position is fixed. -/
theorem State.get_fixPos (s : State) (i src : Nat) (p : Int × Int × Int) (h : NotSv f)
    (hf : ∀ g ∈ [Rg.OB_EVT.SURVEY_DONE, Rg.OB_SV_STAT.IODS, Rg.OB_SV_STAT.BASE_STATE], f.off * 64 + f.lo ≠ g.off * 64 + g.lo) :
    (s.fixPos i src p).get (obBase i) f = (s.sets (obBase i) (fixFlds src p)).get (obBase i) f := by
  obtain ⟨v, e⟩ := s.fixPos_eq i src p
  rw [e, State.get_svState _ _ _ h]
  exact (State.get_event_off _ _ _ _ _ (hf _ (by decide))).trans
    (State.get_fixShown s i src p fun g hg => hf g (List.mem_cons_of_mem _ hg))

theorem State.get_fixPos_source (s : State) (i : Nat) (p : Int × Int × Int) (hs : src < 4) :
    (s.fixPos i src p).get (obBase i) Rg.OB_POS_UNC.SOURCE = src := by
  rw [State.get_fixPos _ _ _ _ (by decide) (by decide), State.get_sets rfl]
  exact Nat.mod_eq_of_lt hs

theorem State.get_fixPos_state (s : State) (i src : Nat) (p : Int × Int × Int) :
    (s.fixPos i src p).get (obBase i) Rg.OB_SV_STAT.STATE = 3 := by
  obtain ⟨v, e⟩ := s.fixPos_eq i src p
  rw [e, State.get_svState_state]
  rfl

theorem State.get_fixPos_done (s : State) (i src : Nat) (p : Int × Int × Int) :
    (s.fixPos i src p).get (obBase i) Rg.OB_EVT.SURVEY_DONE = 1 := by
  obtain ⟨v, e⟩ := s.fixPos_eq i src p
  rw [e, State.get_svState _ _ _ (by decide)]
  exact State.get_event_same _ _ _ _ (by decide)

theorem State.cause_fixPos (s : State) (i src : Nat) (p : Int × Int × Int) : (s.fixPos i src p).cause i cPos = false := by
  obtain ⟨v, e⟩ := s.fixPos_eq i src p
  rw [e, State.cause_svState]
  rfl

theorem sgn_pat_mod (w : Nat) (x : Int) : sgn w (pat w x % 2 ^ w) = sgn w (pat w x) := by
  simp only [sgn, Nat.mod_mod]

theorem State.posRegs_fixPos (s : State) (i src : Nat) (p : Int × Int × Int) :
    (s.fixPos i src p).posRegs i = (sgn 64 (pat 64 p.1), sgn 64 (pat 64 p.2.1), sgn 64 (pat 64 p.2.2)) := by
  simp only [State.posRegs, State.getS]
  rw [State.get_fixPos _ _ _ _ (by decide) (by decide), State.get_fixPos _ _ _ _ (by decide) (by decide),
    State.get_fixPos _ _ _ _ (by decide) (by decide), State.get_sets rfl, State.get_sets rfl, State.get_sets rfl]
  exact congrArg₂ Prod.mk (sgn_pat_mod 64 _) (congrArg₂ Prod.mk (sgn_pat_mod 64 _) (sgn_pat_mod 64 _))

/-- The record of a tile whose position is fixed. -/
theorem State.ob_fixPos (hl : i < s.obs.length) (src : Nat) (p : Int × Int × Int) :
    ∃ v, (s.fixPos i src p).ob i = { s.ob i with triple := p, fixed := some p, base := v } := by
  obtain ⟨v, e⟩ := s.fixPos_eq i src p
  refine ⟨v, ?_⟩
  have length := (s.fixShown_shape i src p).obs_length
  rw [e, State.ob_svState]
  exact (((RegShape.refl _).event _ _ _).ob i).trans (State.ob_setOb (by rwa [length]) _)

theorem Frame.fixPos (s : State) (hi : i < 2) (src : Nat) (p : Int × Int × Int) :
    Frame [wTile (obPos i), wRc] s (s.fixPos i src p)
      { s with cells := (s.fixPos i src p).cells, obs := (s.fixPos i src p).obs, toggles := (s.fixPos i src p).toggles,
               log := (s.fixPos i src p).log } := by
  obtain ⟨v, e⟩ := s.fixPos_eq i src p
  have inside : Within [wTile (obPos i), wRc] (obBase i) 0x4000 := obTile_within (by simp) hi
  rw [e]
  refine .svState hi (((s.fixShown_shape i src p).recShape.setOb i _).shape ((RegShape.refl _).event _ _ _)) ?_ 3
  exact ((RegsKept.fixShown s inside src p).setOb i _).eventIn (f := Rg.OB_EVT.SURVEY_DONE) inside _ (by decide) (by decide)

/-! ### The start of a survey and of a check (R232, R234) -/

/-- A survey started from nothing, before its state shows it. -/
def State.surveyCleared (s : State) (i : Nat) : State :=
  (s.sets (obBase i) [(Rg.OB_SV_STAT.ELAPSED, 0), (Rg.OB_SV_STAT.EPOCHS, 0), (Rg.OB_SV_STAT.ACC_MISS, 0)]).setOb i
    { s.ob i with survey := .zero }

theorem State.get_surveyCleared (s : State) (i : Nat) :
    (s.surveyCleared i).get (obBase i) Rg.OB_SV_STAT.ELAPSED = 0 ∧ (s.surveyCleared i).get (obBase i) Rg.OB_SV_STAT.EPOCHS = 0 := by
  rw [State.surveyCleared, State.get_setOb, State.get_setOb]
  exact ⟨State.get_sets rfl, State.get_sets rfl⟩

theorem State.ob_surveyCleared (hl : i < s.obs.length) (st : Nat) :
    ((s.surveyCleared i).svState i st).ob i = { s.ob i with survey := .zero } := by
  rw [State.ob_svState]
  exact State.ob_setOb (by rwa [State.sets_obs]) _

theorem State.surveyStart_of_mode0 (h : s.get (obBase i) Rg.OB_SV.MODE = 0) : s.surveyStart i = (s.surveyCleared i).svState i 1 := by
  simp only [State.surveyStart, h]
  rfl

theorem Frame.surveyCleared (s : State) (hi : i < 2) (st : Nat) :
    Frame [wTile (obPos i), wRc] s ((s.surveyCleared i).svState i st)
      { s with cells := ((s.surveyCleared i).svState i st).cells, obs := ((s.surveyCleared i).svState i st).obs,
               toggles := ((s.surveyCleared i).svState i st).toggles, log := ((s.surveyCleared i).svState i st).log } :=
  .svState hi (((RegShape.refl s).sets _ _).recShape.setOb i _)
    (((RegsKept.refl _ s).setsIn (obTile_within (by simp) hi) rfl).setOb i _) st

/-- Whether a position lies where a base station can stand: its distance from the earth's centre, in mm (R234). -/
abbrev OnEarth (p : Int × Int × Int) : Prop :=
  6355000000 * 6355000000 ≤ (p.1 * p.1 + p.2.1 * p.2.1 + p.2.2 * p.2.2).toNat ∧
    (p.1 * p.1 + p.2.1 * p.2.1 + p.2.2 * p.2.2).toNat ≤ 6390000000 * 6390000000

/-- The triple `p` taken and its check begun, before the survey state shows it. -/
def State.checkBegun (s : State) (i : Nat) (p : Int × Int × Int) : State :=
  s.setOb i { s.ob i with triple := p, check := .zero, checkAt := s.nowNs }

theorem State.ob_checkBegun (hl : i < s.obs.length) (p : Int × Int × Int) (st : Nat) :
    ((s.checkBegun i p).svState i st).ob i = { s.ob i with triple := p, check := .zero, checkAt := s.nowNs } := by
  rw [State.ob_svState]
  exact State.ob_setOb hl _

theorem State.checkStart_eq (hp : s.posRegs i = p) (he : OnEarth p) : s.checkStart i = (s.checkBegun i p).svState i 2 := by
  subst hp
  exact if_pos he

/-- OB_POSZ written beside the other two. -/
theorem State.posRegs_setPosz (s : State) (i v : Nat) :
    (s.set (obBase i) Rg.OB_POSZ.MM v).posRegs i =
      (s.getS (obBase i) Rg.OB_POSX.MM, s.getS (obBase i) Rg.OB_POSY.MM, sgn 64 (v % 2 ^ 64)) := by
  simp only [State.posRegs, State.getS]
  rw [State.get_set_off _ _ _ _ _ (by decide), State.get_set_off _ _ _ _ _ (by decide), State.get_set_same]
  rfl

theorem State.poszWrite_of_fixed (hs : s.get (obBase i) Rg.OB_SV_STAT.STATE = 3) (v : Nat)
    (hp : p = (s.getS (obBase i) Rg.OB_POSX.MM, s.getS (obBase i) Rg.OB_POSY.MM, sgn 64 (v % 2 ^ 64))) (he : OnEarth p) :
    s.poszWrite i v = ((s.set (obBase i) Rg.OB_POSZ.MM v).checkBegun i p).svState i 2 :=
  (if_pos hs).trans (State.checkStart_eq ((s.posRegs_setPosz i v).trans hp.symm) he)

theorem State.poszWrite_of_not_fixed (hs : s.get (obBase i) Rg.OB_SV_STAT.STATE ≠ 3) (v : Nat) :
    s.poszWrite i v = s.set (obBase i) Rg.OB_POSZ.MM v := if_neg hs

theorem Frame.checkBegun (s : State) (hi : i < 2) (v : Nat) (p : Int × Int × Int) (st : Nat) {t : State}
    (ht : t = ((s.set (obBase i) Rg.OB_POSZ.MM v).checkBegun i p).svState i st) :
    Frame [wTile (obPos i), wRc] s t { s with cells := t.cells, obs := t.obs, toggles := t.toggles, log := t.log } := by
  subst ht
  exact .svState hi (((RegShape.refl s).set _ _ _).recShape.setOb i _)
    (((RegsKept.refl _ s).setIn (obTile_within (by simp) hi) v (by decide) (by decide)).setOb i _) st

end Sys2Proof.Machine
end

section
/-! PROOF. The survey, positions, the baseline, the sidereal vector and the encoder's outputs (R224–R249). -/

set_option Elab.async false

namespace Sys2Proof.Machine

variable {s : State} {i n : Nat}

/-! ### The survey's end and the check's end (R233, R234) -/

theorem execSurveyComplete_accurate (hon : s.obOn i = true) (he : s.isEnc i = true) (hs : s.get (obBase i) Rg.OB_SV_STAT.STATE = 1)
    (hn : 1 ≤ (s.ob i).survey.n) (ha : (s.ob i).survey.accurate (s.get (obBase i) Rg.OB_SV.ACC) = true)
    (hd : s.surveyDur i ≤ s.get (obBase i) Rg.OB_SV_STAT.ELAPSED) :
    execSurveyComplete i s = .next (s.fixPos i 1 (s.ob i).survey.mean) := by
  simp only [execSurveyComplete, hon, he, hs, hn, ha, hd, and_self, true_or, if_true]

theorem execPositionCheckDone_pass (hon : s.obOn i = true) (hs : s.get (obBase i) Rg.OB_SV_STAT.STATE = 2)
    (ht : (s.ob i).checkAt + 60000000000 ≤ s.nowNs) (hp : s.checkPass i = true) :
    execPositionCheckDone i s = .next (s.fixPos i (s.checkSource i) (s.ob i).triple) :=
  (if_pos ⟨hon, hs, ht⟩).trans (if_pos hp)

theorem State.checkSource_lt (s : State) (i : Nat) : s.checkSource i < 4 := by
  unfold State.checkSource
  split <;> decide

/-! ### The baseline (R236) -/

/-- The baseline set to three patterns of 21 bits, and BASE_STATE 2. -/
def baseFlds (e n u : Nat) : List (Fld × Nat) :=
  [(Rg.OB_BASE.E, e), (Rg.OB_BASE.N, n), (Rg.OB_BASE.U, u), (Rg.OB_SV_STAT.BASE_STATE, 2)]

/-- The baseline set, and the integrity state brought up to date. -/
def State.baseSet (s : State) (i e n u : Nat) : State := (s.sets (obBase i) (baseFlds e n u)).intUpdate i

/-- The baseline and its state as they read once it is set. -/
theorem State.get_baseSet (s : State) (i e n u : Nat) :
    (s.baseSet i e n u).get (obBase i) Rg.OB_BASE.E = e % 2 ^ 21 ∧ (s.baseSet i e n u).get (obBase i) Rg.OB_BASE.N = n % 2 ^ 21 ∧
      (s.baseSet i e n u).get (obBase i) Rg.OB_BASE.U = u % 2 ^ 21 ∧
      (s.baseSet i e n u).get (obBase i) Rg.OB_SV_STAT.BASE_STATE = 2 :=
  ⟨(State.get_intUpdate _ _ (by decide)).trans (State.get_sets rfl), (State.get_intUpdate _ _ (by decide)).trans (State.get_sets rfl),
    (State.get_intUpdate _ _ (by decide)).trans (State.get_sets rfl), (State.get_intUpdate _ _ (by decide)).trans (State.get_sets rfl)⟩

theorem Frame.baseSet (s : State) (hi : i < 2) (e n u : Nat) :
    Frame [wTile (obPos i), wRc] s (s.baseSet i e n u)
      { s with cells := (s.baseSet i e n u).cells, toggles := (s.baseSet i e n u).toggles, log := (s.baseSet i e n u).log } :=
  .causes hi ((RegShape.refl s).sets _ _) ((RegsKept.refl _ s).setsIn (obTile_within (by simp) hi) rfl)

theorem State.baseWrite_eq {v : Nat}
    (hr : (sgn 21 (bits 0 21 v)).natAbs ≤ 1000000 ∧ (sgn 21 (bits 21 21 v)).natAbs ≤ 1000000 ∧
      (sgn 21 (bits 42 21 v)).natAbs ≤ 1000000)
    (hl : 40000 ≤ sgn 21 (bits 0 21 v) * sgn 21 (bits 0 21 v) + sgn 21 (bits 21 21 v) * sgn 21 (bits 21 21 v) +
      sgn 21 (bits 42 21 v) * sgn 21 (bits 42 21 v)) :
    s.baseWrite i v = s.baseSet i (bits 0 21 v) (bits 21 21 v) (bits 42 21 v) := by
  obtain ⟨he, hn, hu⟩ := hr
  exact if_pos ⟨he, hn, hu, hl⟩

theorem execBaselineAvgDone_eq (hon : s.obOn i = true) (hs : s.get (obBase i) Rg.OB_SV_STAT.BASE_STATE = 1)
    (ht : 300000000000 ≤ (s.ob i).base.n * epochStep (s.ob i).grid.period) :
    execBaselineAvgDone i s = .next (s.baseSet i (pat 21 (s.ob i).base.mean.1) (pat 21 (s.ob i).base.mean.2.1)
      (pat 21 (s.ob i).base.mean.2.2)) := if_pos ⟨hon, hs, ht⟩

theorem pat_mod (w : Nat) (x : Int) : pat w x % 2 ^ w = pat w x := by
  have positive : (0 : Int) < (2 ^ w : Nat) := by positivity
  have low := Int.emod_nonneg x positive.ne'
  have high := Int.emod_lt_of_pos x positive
  refine Nat.mod_eq_of_lt ?_
  rw [pat]
  omega

/-! ### The sidereal vector (R230) -/

/-- OB_SIDC_U written. -/
def State.sidcWritten (s : State) (i v : Nat) : State :=
  s.sets (obBase i) [(Rg.OB_SIDC_U.U, bits 0 32 v), (Rg.OB_SIDC_U.EN, bits 32 1 v)]

theorem bits_zero_mod (w v : Nat) : bits 0 w v % 2 ^ w = v % 2 ^ w := by
  rw [bits, pow_zero, Nat.div_one, Nat.mod_mod]

theorem State.get_sidcWritten (s : State) (i v : Nat) :
    (s.sidcWritten i v).get (obBase i) Rg.OB_SIDC_U.U = v % 2 ^ 32 ∧
      (s.sidcWritten i v).get (obBase i) Rg.OB_SIDC_U.EN = v / 2 ^ 32 % 2 :=
  ⟨(State.get_sets rfl).trans (bits_zero_mod 32 v), (State.get_sets rfl).trans (Nat.mod_mod _ _)⟩

/-- The vector that OB_SIDC holds once OB_SIDC_U is written. -/
theorem State.getS_sidcWritten (s : State) (i v : Nat) :
    ((s.sidcWritten i v).getS (obBase i) Rg.OB_SIDC.E, (s.sidcWritten i v).getS (obBase i) Rg.OB_SIDC.N,
      (s.sidcWritten i v).getS (obBase i) Rg.OB_SIDC_U.U) =
    (s.getS (obBase i) Rg.OB_SIDC.E, s.getS (obBase i) Rg.OB_SIDC.N, sgn 32 (v % 2 ^ 32)) := by
  have east : (s.sidcWritten i v).get (obBase i) Rg.OB_SIDC.E = s.get (obBase i) Rg.OB_SIDC.E := State.get_sets rfl
  have north : (s.sidcWritten i v).get (obBase i) Rg.OB_SIDC.N = s.get (obBase i) Rg.OB_SIDC.N := State.get_sets rfl
  have up := (s.get_sidcWritten i v).1
  simp only [State.getS, east, north, up]
  rfl

theorem State.sidcCommit_eq (s : State) (i v : Nat) :
    s.sidcCommit i v = (s.sidcWritten i v).setOb i { s.ob i with
      sidcNext := (s.getS (obBase i) Rg.OB_SIDC.E, s.getS (obBase i) Rg.OB_SIDC.N, sgn 32 (v % 2 ^ 32)) } := by
  rw [← State.getS_sidcWritten]
  rfl

theorem State.get_sidcCommit (s : State) (i v : Nat) :
    (s.sidcCommit i v).get (obBase i) Rg.OB_SIDC_U.U = v % 2 ^ 32 ∧
      (s.sidcCommit i v).get (obBase i) Rg.OB_SIDC_U.EN = v / 2 ^ 32 % 2 := by
  rw [State.sidcCommit_eq, State.get_setOb, State.get_setOb]
  exact s.get_sidcWritten i v

theorem State.ob_sidcCommit (hl : i < s.obs.length) (v : Nat) :
    (s.sidcCommit i v).ob i = { s.ob i with
      sidcNext := (s.getS (obBase i) Rg.OB_SIDC.E, s.getS (obBase i) Rg.OB_SIDC.N, sgn 32 (v % 2 ^ 32)) } := by
  rw [State.sidcCommit_eq]
  exact State.ob_setOb (by rwa [State.sidcWritten, State.sets_obs]) _

theorem Frame.sidcCommit (s : State) (hi : i < 2) (v : Nat) {t : State} (ht : t = s.sidcCommit i v) :
    Frame [wTile (obPos i)] s (t.answer .ok 0)
      { s with cells := (t.answer .ok 0).cells, obs := (t.answer .ok 0).obs, resp := ⟨.ok, 0⟩ } := by
  rw [State.sidcCommit_eq] at ht
  obtain ⟨c, hc⟩ : ∃ c, s.sidcWritten i v = { s with cells := c } := ⟨_, rfl⟩
  have kept : RegsKept [wTile (obPos i)] s t := by
    rw [ht]
    exact ((RegsKept.refl _ s).setsIn (obTile_within (by simp) hi) rfl).setOb i _
  rw [hc] at ht
  subst ht
  exact ⟨rfl, .of_mem rfl, kept⟩

/-! ### Outputs (R249) -/

/-- EN set: the output is active where its settings are in order, otherwise it stays off. -/
theorem State.get_outEnable (s : State) (i n : Nat) :
    (s.outEnable i n).get (outBase i n) Rg.OB_OUT.EN = (if s.outOk i n then 1 else 0) ∧
      (s.outEnable i n).get (outBase i n) Rg.OB_OUT.STATUS = (if s.outOk i n then 1 else 2) := by
  unfold State.outEnable
  split
  · exact ⟨State.get_sets rfl, State.get_sets rfl⟩
  · exact ⟨State.get_sets rfl, State.get_sets rfl⟩

theorem RegShape.outEnable (s : State) (i n : Nat) : RegShape s (s.outEnable i n) :=
  ((RegShape.refl s).sets _ _).ite ((RegShape.refl s).sets _ _)

theorem RegsKept.outEnable (s : State) (hi : i < 2) (hn : n < 4) : RegsKept [wTile (obPos i)] s (s.outEnable i n) :=
  have inside := outBase_within (ws := [wTile (obPos i)]) (by simp) hi hn
  ((RegsKept.refl _ s).setsIn inside rfl).ite ((RegsKept.refl _ s).setsIn inside rfl)

/-- The frame of a write of fields alone, with its answer. -/
theorem Frame.of_cells {ws : List (Nat × Nat)} {t : State} (ht : ∃ c, t = { s with cells := c }) (hk : RegsKept ws s t) :
    Frame ws s (t.answer .ok 0) { s with cells := t.cells, resp := ⟨.ok, 0⟩ } := by
  obtain ⟨c, rfl⟩ := ht
  exact ⟨rfl, .of_mem rfl, hk⟩

end Sys2Proof.Machine

open Sys2Proof Sys2Proof.Machine

/-- Settles O30: the survey, the two ends, the written position, the baseline, the sidereal vector and an output's EN, each through the
state that its command leaves. -/
theorem surveyAndPositionRun : Obligations.SurveyAndPositionRun := by
  unfold Obligations.SurveyAndPositionRun
  refine ⟨fun m inst s ⟨hi, hl, hm, hon, he, h0⟩ => ?surveyStart, fun inst s ⟨hon, hl, he, hs⟩ ⟨hn, ha, hd⟩ => ?surveyComplete,
    fun inst s ⟨hon, hl, hs, ht, hp⟩ => ?checkDone, fun m inst v s ⟨hi, hm, hon, he, hs⟩ => ?poszStaged,
    fun m inst v p s ⟨hi, hl, hm, hon, he, hs⟩ hp hr => ?poszTaken, fun m inst v s ⟨hi, hm, hon, he⟩ hr hl => ?baseWrite,
    fun inst s ⟨hon, hs, ht⟩ => ?baseAveraged, fun m inst v s ⟨hi, hl, hm, hon, he⟩ => ?sidcCommit,
    fun m inst n s ⟨hi, hn, hm, hon, he⟩ => ?outEnable⟩
  case surveyStart =>
    refine ⟨_, rfl, ?_⟩
    rw [State.obWrite_ok hi hm hon he, State.surveyStart_of_mode0 h0]
    simp only [State.get_answer, State.ob_answer, State.cause_answer]
    refine ⟨State.get_svState_state _ _ _, ?_, ?_, ?_, State.cause_svState _ _ _, (Frame.surveyCleared s hi 1).answer⟩
    · exact (State.get_svState _ _ _ (by decide)).trans (s.get_surveyCleared inst).1
    · exact (State.get_svState _ _ _ (by decide)).trans (s.get_surveyCleared inst).2
    · exact congrArg ObsTile.survey (State.ob_surveyCleared hl 1)
  case surveyComplete =>
    obtain ⟨v, record⟩ := State.ob_fixPos hl 1 (s.ob inst).survey.mean
    exact ⟨_, execSurveyComplete_accurate hon he hs hn ha hd, State.get_fixPos_state _ _ _ _, congrArg ObsTile.fixed record,
      congrArg ObsTile.triple record, State.get_fixPos_source _ _ _ (by decide), State.get_fixPos_done _ _ _ _,
      State.cause_fixPos _ _ _ _, State.posRegs_fixPos _ _ _ _, Frame.fixPos s (State.lt_of_obOn hon) _ _⟩
  case checkDone =>
    obtain ⟨v, record⟩ := State.ob_fixPos hl (s.checkSource inst) (s.ob inst).triple
    exact ⟨_, execPositionCheckDone_pass hon hs ht hp, State.get_fixPos_state _ _ _ _, congrArg ObsTile.fixed record,
      State.get_fixPos_source _ _ _ (s.checkSource_lt inst), Frame.fixPos s (State.lt_of_obOn hon) _ _⟩
  case poszStaged =>
    refine ⟨_, rfl, ?_⟩
    rw [State.obWrite_ok hi hm hon he, State.poszWrite_of_not_fixed hs]
    simp only [State.get_answer]
    exact ⟨State.get_set_same _ _ _ _,
      .of_cells ⟨_, rfl⟩ ((RegsKept.refl _ s).setIn (obTile_within (by simp) hi) v (by decide) (by decide))⟩
  case poszTaken =>
    refine ⟨_, rfl, ?_⟩
    rw [State.obWrite_ok hi hm hon he, State.poszWrite_of_fixed hs v hp hr]
    simp only [State.get_answer, State.ob_answer, State.cause_answer]
    have record := State.ob_checkBegun (s := s.set (obBase inst) Rg.OB_POSZ.MM v) hl p 2
    exact ⟨State.get_svState_state _ _ _, congrArg ObsTile.triple record, congrArg ObsTile.checkAt record,
      (congrArg ObsTile.fixed record :), State.cause_svState _ _ _, (Frame.checkBegun s hi v p 2 rfl).answer⟩
  case baseWrite =>
    refine ⟨_, rfl, ?_⟩
    rw [State.obWrite_ok hi hm hon he, State.baseWrite_eq hr hl]
    simp only [State.get_answer]
    obtain ⟨east, north, up, state⟩ := s.get_baseSet inst (bits 0 21 v) (bits 21 21 v) (bits 42 21 v)
    exact ⟨east.trans (bits_zero_mod 21 v), north.trans (Nat.mod_mod _ _), up.trans (Nat.mod_mod _ _), state,
      (Frame.baseSet s hi _ _ _).answer⟩
  case baseAveraged =>
    obtain ⟨east, -, up, state⟩ := s.get_baseSet inst (pat 21 (s.ob inst).base.mean.1) (pat 21 (s.ob inst).base.mean.2.1)
      (pat 21 (s.ob inst).base.mean.2.2)
    exact ⟨_, execBaselineAvgDone_eq hon hs ht, east.trans (pat_mod _ _), up.trans (pat_mod _ _), state,
      Frame.baseSet s (State.lt_of_obOn hon) _ _ _⟩
  case sidcCommit =>
    refine ⟨_, rfl, ?_⟩
    rw [State.obWrite_ok hi hm hon he, State.get_answer, State.get_answer, State.ob_answer]
    obtain ⟨up, enabled⟩ := s.get_sidcCommit inst v
    have record := State.ob_sidcCommit hl v
    exact ⟨up, enabled, congrArg ObsTile.sidcNext record, (congrArg ObsTile.sidc record :), Frame.sidcCommit s hi v rfl⟩
  case outEnable =>
    refine ⟨_, rfl, ?_⟩
    rw [State.obWrite_ok hi hm hon he, if_pos hn]
    simp only [State.get_answer]
    refine ⟨s.get_outEnable inst n, .of_cells ?_ (RegsKept.outEnable s hi hn)⟩
    unfold State.outEnable
    split
    · exact ⟨_, rfl⟩
    · exact ⟨_, rfl⟩

end

section
/-! PROOF. Navigation symbols for a satellite with a context beyond the tile's (R225, R228). -/

set_option Elab.async false

namespace Sys2Proof.Machine

/-- A context that no item has come for. -/
def ctxAt (k : Nat) : ObsCtx := ⟨k, 0, ⟨[], false, none, 0, 0, 0⟩, ⟨[], false, none, 0, 0, 0⟩⟩

/-- A navigation item of the satellite with signal 0 and SVID 0. -/
def navZero : QPkt := ⟨0x2100, [0], false⟩

/-- OBS tile 0 in SURVEY with two contexts of that satellite, 0 and 512, of which the tile's registers have no place for the second, and
a navigation item waiting. -/
def State.farContext : State :=
  { State.reset with
    cells := [(fldKey Rg.MODE_STAT.MODE bMpc, 1)]
    power := { State.reset.power with fa := true }
    img := { State.reset.img with lanes := [(obPos 0, 1)] }
    links := [⟨⟨1, 2, obPos 0, 0, 0, false, false, 13, 0, 0xFF⟩, 0, 0, 0, [], 0, [], none, false⟩]
    rx := [(1, navZero)]
    obs := [{ ObsTile.off with ctxs := [ctxAt 0, ctxAt 512] }, .off] }

/-- The item sets the azimuth of context 512 too, which lies outside the window of the tile. -/
theorem exec_navItem_farContext :
    ∃ t, exec (.navItem 0 (some (1, 0))) State.farContext = .next t ∧ t.get (ctxBase 0 512) Rg.OB_CTX.AZ = 1 :=
  ⟨_, rfl, by decide +kernel⟩

theorem State.get_farContext : State.farContext.get (ctxBase 0 512) Rg.OB_CTX.AZ = 0 := by decide +kernel

end Sys2Proof.Machine

open Sys2Proof Sys2Proof.Machine

/-- Refutes O29: in its clause on a navigation item the premise that contexts lie below 128 stands under `∀ d` together with all that
follows it, so that it need hold of one context alone. Of two contexts of the satellite, 0 meets it and 512 does not; the item sets the
azimuth of both, and the frame keeps what lies where the second is shown. -/
theorem not_observablesAreCollected : ¬ Obligations.ObservablesAreCollected := by
  unfold Obligations.ObservablesAreCollected
  intro h
  obtain ⟨-, navItem, -⟩ := h
  obtain ⟨t, ht, -, -, -, -, -, kept⟩ := navItem 0 2 1 0 navZero (ctxAt 0) (signals.getD 0 ⟨0, 0, 0, 0, 0, 0, false, false⟩)
    State.farContext ⟨by decide +kernel, by decide +kernel, by decide, rfl⟩ (ctxAt 0) (by decide) (by decide)
    ⟨by decide, by decide +kernel⟩ (by decide +kernel)
  obtain ⟨u, hu, moved⟩ := exec_navItem_farContext
  obtain rfl : t = u := Host.Outcome.next.inj (ht.symm.trans hu)
  have stands := kept (ctxBase 0 512) Rg.OB_CTX.AZ (by decide) (by decide)
  exact absurd ((moved.symm.trans stands).trans State.get_farContext) (by decide)

end

section
/-! SUPPORT. The lanes of the filter chain: their records and register blocks, and what an operation of some lanes leaves (R253–R285). -/

set_option Elab.async false

namespace Sys2Proof

/-- A key of an association list set reads as set, and the others read as before. -/
theorem lookupD_assocSet {α : Type} (d v : α) (j k : Nat) (l : List (Nat × α)) :
    lookupD d j (assocSet k v l) = if j = k then v else lookupD d j l := by
  induction l with
  | nil => rfl
  | cons p l ih =>
    obtain ⟨i, w⟩ := p
    rw [assocSet]
    split
    · rfl
    · split
      · next heq =>
        subst heq
        simp only [lookupD]
        split
        · rfl
        · rfl
      · next heq =>
        simp only [lookupD, ih]
        split
        · next hj => rw [if_neg fun e : j = k => heq (e.symm.trans hj)]
        · rfl

end Sys2Proof

namespace Sys2Proof.Machine

variable {s t u : State} {ws : List (Nat × Nat)} {L : Set Nat} {c : Nat} {f : Fld}

/-! ### A lane's record -/

@[simp] theorem State.fl_setFl_same (s : State) (c : Nat) (a : FiltLane) : (s.setFl c a).fl c = a :=
  (lookupD_assocSet _ _ _ _ _).trans (if_pos rfl)

theorem State.fl_setFl_ne {j : Nat} (h : j ≠ c) (s : State) (a : FiltLane) : (s.setFl c a).fl j = s.fl j :=
  (lookupD_assocSet _ _ _ _ _).trans (if_neg h)

theorem State.fl_congr (h : t.waves = s.waves) (c : Nat) : t.fl c = s.fl c := by
  unfold State.fl
  rw [h]

@[simp] theorem State.get_setFl (s : State) (c : Nat) (a : FiltLane) (b : Nat) (f : Fld) : (s.setFl c a).get b f = s.get b f := rfl

@[simp] theorem State.fl_set (s : State) (b v c : Nat) (f : Fld) : (s.set b f v).fl c = s.fl c := rfl

@[simp] theorem State.fl_sets (s : State) (b c : Nat) (l : List (Fld × Nat)) : (s.sets b l).fl c = s.fl c :=
  State.fl_congr (State.sets_waves _ _ _) c

@[simp] theorem State.fl_answer (s : State) (h : Done) (v c : Nat) : (s.answer h v).fl c = s.fl c := rfl

/-! ### A lane's register block -/

theorem RegsKept.widen {vs : List (Nat × Nat)} (h : RegsKept vs s t) (inside : ∀ v ∈ vs, ∃ w ∈ ws, w.1 ≤ v.1 ∧ v.2 ≤ w.2) :
    RegsKept ws s t := by
  refine fun b f hl hw => h b f hl fun v hv range => ?_
  obtain ⟨w, hm, low, high⟩ := inside v hv
  exact hw w hm ⟨low.trans range.1, range.2.trans_le high⟩

/-- The registers of lane `c` that its operations write, FL_CFG to FL_EVT. -/
def wLane (c : Nat) : Nat × Nat := (flBase c + 0x1000, flBase c + 0x1100)

/-- A field of that block. -/
abbrev LaneFld (f : Fld) : Prop := 0x1000 ≤ f.off ∧ f.off < 0x1100 ∧ f.lo < 64

theorem flBase_range (c : Nat) : 0x2000_0000 ≤ flBase c ∧ flBase c < 0x202C_0800 := by
  have range := kindBase_range .filt (c / 8)
  simp only [flBase, laneBase, tileLanes]
  omega

theorem laneFld_addr (c : Nat) (hf : LaneFld f) : (flBase c + f.off) % 2 ^ 48 = flBase c + f.off := by
  have range := flBase_range c
  omega

theorem RegsKept.setLane (hk : RegsKept ws s t) (hw : wLane c ∈ ws) (v : Nat) (hf : LaneFld f) : RegsKept ws s (t.set (flBase c) f v) := by
  have addr := laneFld_addr c hf
  refine hk.set _ _ _ (wLane c) hw ?_ ?_ hf.2.2
  · simp only [wLane]
    omega
  · simp only [wLane]
    omega

theorem RegsKept.laneEvent (hk : RegsKept ws s t) (hw : wLane c ∈ ws) (e : Nat) (hf : LaneFld f) :
    RegsKept ws s (t.event e (flBase c) f) := by
  unfold State.event
  split
  · exact hk
  · exact (hk.setLane hw 1 hf).cells (State.toggle_cells _ _)

theorem flBase_eq (hc : c < 64) : flBase c = tileBase (flPos c) + c % 8 * 0x100 := by
  have hi : c / 8 < (tilePositions .filt).length := by
    show c / 8 < 8
    omega
  simp only [flBase, flPos, laneBase, chanPos, kindBase, tileLanes, List.getD_eq_getElem _ _ hi]

theorem flPos_of_tile {j : Nat} (h : j / 8 = c / 8) : flPos j = flPos c := by
  simp only [flPos, chanPos, tileLanes, h]

/-- The block of a lane lies in the window of its tile, and this one in the windows of the tiles. -/
theorem wLane_in_tile (hc : c < 64) : (wTile (flPos c)).1 ≤ (wLane c).1 ∧ (wLane c).2 ≤ (wTile (flPos c)).2 := by
  have base := flBase_eq hc
  simp only [wTile, wLane]
  omega

theorem wLane_in_tiles (c : Nat) : wTiles.1 ≤ (wLane c).1 ∧ (wLane c).2 ≤ wTiles.2 := by
  have range := flBase_range c
  simp only [wTiles, wLane]
  omega

/-- The registers of a lane are none of the blocks of the other lanes of its tile. -/
theorem laneFld_other {j : Nat} (hf : LaneFld f) (ht : c / 8 = j / 8) (hne : c ≠ j) :
    ¬((wLane c).1 ≤ (flBase j + f.off) % 2 ^ 48 ∧ (flBase j + f.off) % 2 ^ 48 < (wLane c).2) := by
  rw [laneFld_addr j hf]
  simp only [wLane, flBase, laneBase, tileLanes, ht]
  omega

/-! ### What operations of the lanes in a set leave -/

/-- Register fields and records of lanes apart, `t` is `s`, and of these the lanes outside `L` keep theirs. -/
structure LanesKept (L : Set Nat) (s t : State) : Prop where
  shape : ∃ l w, t = { s with cells := l, waves := { s.waves with lanes := w } }
  others : ∀ j ∉ L, t.fl j = s.fl j
  regs : ∀ b f, f.lo < 64 → (∀ c ∈ L, ¬((wLane c).1 ≤ (b + f.off) % 2 ^ 48 ∧ (b + f.off) % 2 ^ 48 < (wLane c).2)) →
    t.get b f = s.get b f

theorem LanesKept.refl (L : Set Nat) (s : State) : LanesKept L s s := ⟨⟨_, _, rfl⟩, fun _ _ => rfl, fun _ _ _ _ => rfl⟩

theorem LanesKept.trans (h : LanesKept L s t) (g : LanesKept L t u) : LanesKept L s u := by
  refine ⟨?_, fun j hj => (g.others j hj).trans (h.others j hj), fun b f hl hw => (g.regs b f hl hw).trans (h.regs b f hl hw)⟩
  obtain ⟨l, w, rfl⟩ := h.shape
  obtain ⟨l', w', rfl⟩ := g.shape
  exact ⟨l', w', rfl⟩

theorem LanesKept.ite {p : Prop} {_ : Decidable p} {v : State} (ht : LanesKept L s t) (hv : LanesKept L s v) :
    LanesKept L s (if p then t else v) := by
  split
  · exact ht
  · exact hv

theorem LanesKept.set (h : LanesKept L s t) (hc : c ∈ L) (v : Nat) (hf : LaneFld f) : LanesKept L s (t.set (flBase c) f v) := by
  have kept : RegsKept [wLane c] t (t.set (flBase c) f v) := (RegsKept.refl _ t).setLane (by simp) v hf
  refine h.trans ⟨⟨_, _, rfl⟩, fun _ _ => rfl, fun b g hl hw => kept b g hl fun w hm => ?_⟩
  rw [List.mem_singleton.1 hm]
  exact hw c hc

theorem LanesKept.sets (h : LanesKept L s t) (hc : c ∈ L) {l : List (Fld × Nat)}
    (hl : l.all (fun p => decide (LaneFld p.1)) = true) : LanesKept L s (t.sets (flBase c) l) := by
  induction l generalizing t with
  | nil => exact h
  | cons p l ih =>
    obtain ⟨hp, hl⟩ := Bool.and_eq_true_iff.1 hl
    exact ih (h.set hc p.2 (of_decide_eq_true hp)) hl

theorem LanesKept.setFl (h : LanesKept L s t) (hc : c ∈ L) (a : FiltLane) : LanesKept L s (t.setFl c a) :=
  h.trans ⟨⟨_, _, rfl⟩, fun _ hj => State.fl_setFl_ne (ne_of_mem_of_not_mem hc hj).symm _ _, fun _ _ _ _ => rfl⟩

/-- A lane outside the set, in a tile whose lanes the set may hold, reads as before. -/
theorem LanesKept.get_other (h : LanesKept L s t) (hc : c ∉ L) (hL : ∀ j ∈ L, j / 8 = c / 8) (hf : LaneFld f) :
    t.get (flBase c) f = s.get (flBase c) f :=
  h.regs _ _ hf.2.2 fun j hj => laneFld_other hf (hL j hj) fun e => hc (e ▸ hj)

theorem LanesKept.regsKept (h : LanesKept L s t) (inside : ∀ c ∈ L, ∃ w ∈ ws, w.1 ≤ (wLane c).1 ∧ (wLane c).2 ≤ w.2) :
    RegsKept ws s t := by
  refine fun b f hl hw => h.regs b f hl fun c hc range => ?_
  obtain ⟨w, hm, low, high⟩ := inside c hc
  exact hw w hm ⟨low.trans range.1, range.2.trans_le high⟩

theorem LanesKept.tile (h : LanesKept L s t) (hc : c < 64) (hL : ∀ j ∈ L, j / 8 = c / 8) : RegsKept [wTile (flPos c)] s t := by
  refine h.regsKept fun j hj => ⟨_, List.mem_singleton_self _, ?_⟩
  have same := hL j hj
  rw [← flPos_of_tile same]
  exact wLane_in_tile (by omega)

theorem LanesKept.frame (h : LanesKept {c} s t) (hc : c < 64) :
    Frame [wTile (flPos c)] s t { s with cells := t.cells, waves := t.waves } := by
  have regs := h.tile hc fun j hj => congrArg (· / 8) hj
  obtain ⟨l, w, rfl⟩ := h.shape
  exact ⟨rfl, .of_mem rfl, regs⟩

/-! ### Settling, faults, swaps (R271–R277) -/

theorem LanesKept.settle (h : LanesKept L s t) (hc : c ∈ L) (e : Nat) : LanesKept L s (t.settle c e) :=
  (h.setFl hc _).sets hc (by decide)

theorem LanesKept.flFault (h : LanesKept L s t) (hc : c ∈ L) : LanesKept L s (t.flFault c) := h.set hc _ (by decide)

/-- From a settling event on both paths are unsettled. -/
theorem State.get_settle_unset (s : State) (c e : Nat) :
    (s.settle c e).get (flBase c) Rg.FL_STAT.FINE_UNSET = 1 ∧ (s.settle c e).get (flBase c) Rg.FL_STAT.FAST_UNSET = 1 :=
  ⟨State.get_sets rfl, State.get_sets rfl⟩

theorem State.fl_settle (s : State) (c e : Nat) : (s.settle c e).fl c = { s.fl c with
    ev := e, fine := { (s.fl c).fine with disc := true }, fast := { (s.fl c).fast with disc := true },
    thr := (s.fl c).thr.map (fun x => { x with cnt := 0 }) } :=
  (State.fl_sets _ _ _ _).trans (State.fl_setFl_same _ _ _)

/-- FAULT set leaves the other fields of the lane. -/
theorem State.get_flFault_off (s : State) (c : Nat)
    (h : f.off * 64 + f.lo ≠ Rg.FL_STAT.FAULT.off * 64 + Rg.FL_STAT.FAULT.lo) : (s.flFault c).get (flBase c) f = s.get (flBase c) f :=
  s.get_set_off _ _ _ _ h

@[simp] theorem State.fl_flFault (s : State) (c j : Nat) : (s.flFault c).fl j = s.fl j := rfl

/-- The lane whose other bank becomes active, over `n` fade samples. -/
def FiltLane.fading (a : FiltLane) (n : Nat) : FiltLane := { a with fade := if n = 0 then none else some (0, n) }

/-- The lane with its other bank active, before a swap without a fade computes GD. -/
def State.swapped (s : State) (c n : Nat) : State :=
  (s.sets (flBase c) [(Rg.FL_STAT.ACTIVE, 1 - s.flActive c), (Rg.FL_STAT.FADING, b2n (n != 0))]).setFl c ((s.fl c).fading n)

/-- A swap to a bank that meets R266 (R275). -/
theorem State.swapNow_eq (hb : s.bankOk c (1 - s.flActive c) = true) (n : Nat) : ∃ v, s.swapNow c n =
    if n = 0 then (s.swapped c n).set (flBase c) Rg.FL_GD.GD v else s.swapped c n := by
  rw [State.swapNow, hb]
  exact ⟨_, rfl⟩

theorem State.get_swapped (s : State) (c n : Nat) : (s.swapped c n).flActive c = 1 - s.flActive c ∧
    (s.swapped c n).get (flBase c) Rg.FL_STAT.FADING = b2n (n != 0) := by
  have active : (1 - s.flActive c) % 2 = 1 - s.flActive c := by omega
  have fading : b2n (n != 0) % 2 = b2n (n != 0) := by
    cases n != 0
    · rfl
    · rfl
  rw [State.swapped, State.flActive, State.get_setFl, State.get_setFl]
  exact ⟨(State.get_sets rfl).trans active, (State.get_sets rfl).trans fading⟩

theorem LanesKept.swapped (s : State) (c n : Nat) : LanesKept {c} s (s.swapped c n) :=
  ((LanesKept.refl _ s).sets (Set.mem_singleton c) rfl).setFl (Set.mem_singleton c) _

/-- What such a swap leaves and shows: the bank becomes active, and with a fade both are in use until it ends. -/
theorem State.swapNow_ok (hb : s.bankOk c (1 - s.flActive c) = true) (n : Nat) :
    LanesKept {c} s (s.swapNow c n) ∧ (s.swapNow c n).flActive c = 1 - s.flActive c ∧
      (s.swapNow c n).get (flBase c) Rg.FL_STAT.FADING = b2n (n != 0) ∧ (s.swapNow c n).fl c = (s.fl c).fading n := by
  have kept := LanesKept.swapped s c n
  obtain ⟨active, fading⟩ := s.get_swapped c n
  have lane : (s.swapped c n).fl c = (s.fl c).fading n := State.fl_setFl_same _ _ _
  obtain ⟨v, swap⟩ := State.swapNow_eq hb n
  rw [swap]
  split
  · exact ⟨kept.set (Set.mem_singleton c) v (by decide), (State.get_set_off _ _ _ _ _ (by decide)).trans active,
      (State.get_set_off _ _ _ _ _ (by decide)).trans fading, (State.fl_set _ _ _ _ _).trans lane⟩
  · exact ⟨kept, active, fading, lane⟩

end Sys2Proof.Machine
end

section
/-! SUPPORT. A lane's bits and a new source, its enable, and the supervision of inputs and clocks (R254–R263, R269–R271, R283). -/

set_option Elab.async false

namespace Sys2Proof.Machine

variable {s t u : State} {ws : List (Nat × Nat)} {L : Set Nat} {c n : Nat} {f : Fld}

/-! ### Bits of a lane (R257, R261) -/

/-- The CIC moves on, and its outputs are queued for the paths. -/
theorem FiltLane.bit_eq (a : FiltLane) (r e : Nat) (one fast : Bool) : ∃ g k x y, a.bit r e one fast =
    { a with integ := g, comb := k, fine := { a.fine with q := x }, fast := { a.fast with q := y } } := by
  unfold FiltLane.bit
  extract_lets g k y o
  split
  · cases fast with
    | false => exact ⟨_, _, _, _, rfl⟩
    | true => exact ⟨_, _, _, _, rfl⟩
  · exact ⟨_, _, _, _, rfl⟩

theorem feedBits_eq (r w e : Nat) (fast : Bool) (n i : Nat) (a : FiltLane) : ∃ g k x y, feedBits r w e fast n i a =
    { a with integ := g, comb := k, fine := { a.fine with q := x }, fast := { a.fast with q := y } } := by
  induction n generalizing i a with
  | zero => exact ⟨_, _, _, _, rfl⟩
  | succ n ih =>
    obtain ⟨g, k, x, y, one⟩ := a.bit_eq r (e + i) (bitOf i w) fast
    obtain ⟨g', k', x', y', rest⟩ := ih (i + 1) (a.bit r (e + i) (bitOf i w) fast)
    rw [feedBits, rest, one]
    exact ⟨_, _, _, _, rfl⟩

theorem LanesKept.count (h : LanesKept L s t) (hc : c ∈ L) (n : Nat) (hf : LaneFld f) : LanesKept L s (t.count (flBase c) f n) :=
  h.set hc _ hf

theorem LanesKept.feedLane (h : LanesKept L s t) (hc : c ∈ L) : LanesKept L s (t.feedLane c) := (h.setFl hc _).count hc _ (by decide)

/-- What a lane's bits leave of its record: the input, the grids and the last settling event. -/
theorem State.fl_feedLane_eq (s : State) (c : Nat) : ∃ e g k x y, (s.feedLane c).fl c =
    { s.fl c with next := e, integ := g, comb := k, fine := { (s.fl c).fine with q := x }, fast := { (s.fl c).fast with q := y } } := by
  unfold State.feedLane
  extract_lets a p w e n x
  obtain ⟨g, k, y, z, fed⟩ := feedBits_eq (s.flR c) (w / 2 ^ (e + 64 - p)) e (s.flag (flBase c) Rg.FL_CFG.FAST_EN) n 0
    { a with next := e + n }
  exact ⟨_, g, k, y, z, (State.fl_setFl_same s c x).trans fed⟩

/-- With no new SRC waiting a lane that stands at the start of its input's last word takes all of it. -/
theorem State.fl_feedLane_word {w : Nat} (hp : s.waves.pos.getD (s.flInput c) 0 = (s.fl c).next + 64)
    (hw : s.waves.words.getD (s.flInput c) 0 = w) (hs : s.srcWaits c = false) :
    (s.feedLane c).fl c = feedBits (s.flR c) w (s.fl c).next (s.flag (flBase c) Rg.FL_CFG.FAST_EN) 64 0
      { s.fl c with next := (s.fl c).next + 64 } := by
  refine (State.fl_setFl_same s c _).trans ?_
  simp only [hp, hw, hs, Bool.false_eq_true, if_false, Nat.add_sub_cancel, max_self, Nat.add_sub_cancel_left, Nat.sub_self, pow_zero,
    Nat.div_one]

theorem State.get_feedLane_off (s : State) (c : Nat) (h : f.off * 64 + f.lo ≠ Rg.FL_CNT.SAT.off * 64 + Rg.FL_CNT.SAT.lo) :
    (s.feedLane c).get (flBase c) f = s.get (flBase c) f := by
  rw [State.feedLane, State.count, State.get_set_off _ _ _ _ _ h, State.get_setFl]

/-! ### A new source (R271) -/

/-- The new SRC in force, its lane settling, before the lane takes bits of its new input. -/
def State.sourced (s : State) (c : Nat) : State :=
  ((s.setFl c { (s.fl c).cleared with src := s.get (flBase c) Rg.FL_CTRL.SRC }).settle c (s.fl c).next).flFault c

theorem State.srcApply_eq (he : s.flEn c = true) (hs : s.srcWaits c = true) (hg : s.toGrid c = 0) :
    s.srcApply c = (s.sourced c).feedLane c := by
  rw [State.srcApply, if_pos ⟨he, hs, hg⟩]
  rfl

theorem State.srcApply_of_same (hs : s.srcWaits c = false) : s.srcApply c = s :=
  if_neg fun ⟨_, waits, _⟩ => Bool.false_ne_true (hs.symm.trans waits)

theorem LanesKept.srcApply (h : LanesKept L s t) (hc : c ∈ L) : LanesKept L s (t.srcApply c) :=
  .ite (((h.setFl hc _).settle hc _).flFault hc |>.feedLane hc) h

theorem State.fl_sourced (s : State) (c : Nat) : ((s.sourced c).fl c).src = s.get (flBase c) Rg.FL_CTRL.SRC ∧
    ((s.sourced c).fl c).ev = (s.fl c).next ∧ ((s.sourced c).fl c).org = (s.fl c).org ∧
    ((s.sourced c).fl c).fine.org = (s.fl c).fine.org := by
  rw [State.sourced, State.fl_flFault, State.fl_settle, State.fl_setFl_same]
  exact ⟨rfl, rfl, rfl, rfl⟩

theorem State.get_sourced_unset (s : State) (c : Nat) :
    (s.sourced c).get (flBase c) Rg.FL_STAT.FINE_UNSET = 1 ∧ (s.sourced c).get (flBase c) Rg.FL_STAT.FAST_UNSET = 1 := by
  obtain ⟨fine, fast⟩ := State.get_settle_unset (s.setFl c { (s.fl c).cleared with src := s.get (flBase c) Rg.FL_CTRL.SRC }) c (s.fl c).next
  exact ⟨(State.get_flFault_off _ _ (by decide)).trans fine, (State.get_flFault_off _ _ (by decide)).trans fast⟩

/-! ### Registers of the inputs and clocks -/

theorem wvBlock_within (hw : wWv ∈ ws) {x : Nat} (hx : x + n ≤ 0x1_0000) : Within ws (bWv + x) n := by
  refine ⟨wWv, hw, fun off ho => ?_⟩
  simp only [wWv, bWv]
  omega

theorem wvBase_within (hw : wWv ∈ ws) : Within ws bWv 0x1_0000 := wvBlock_within hw (x := 0) le_rfl

/-- A lane's registers are not among those of the inputs. -/
theorem RegsKept.get_lane (h : RegsKept [wWv] s t) (hf : LaneFld f) : t.get (flBase c) f = s.get (flBase c) f := by
  refine h _ _ hf.2.2 fun w hm range => ?_
  have below := flBase_range c
  rw [List.mem_singleton.1 hm, laneFld_addr c hf] at range
  simp only [wWv] at range
  omega

/-- The clocks' and inputs' registers are not among those of the tiles. -/
theorem RegsKept.get_wv (h : RegsKept [wTiles] s t) {x : Nat} (hx : x + f.off < 0x1_0000) (hl : f.lo < 64) :
    t.get (bWv + x) f = s.get (bWv + x) f := by
  refine h _ _ hl fun w hm range => ?_
  rw [List.mem_singleton.1 hm] at range
  simp only [wTiles, bWv] at range
  omega

/-! ### The clock of a group and the enable of a lane (R255, R283) -/

theorem State.clkUpdate_eq (s : State) (k : Nat) : ∃ l w, s.clkUpdate k = { s with cells := l, waves := w } := by
  unfold State.clkUpdate
  extract_lets w t
  have shown : ∃ l, t = { s with cells := l } := ⟨_, rfl⟩
  clear_value t
  obtain ⟨l, rfl⟩ := shown
  split_ifs
  · exact ⟨_, _, rfl⟩
  · exact ⟨_, _, rfl⟩
  · exact ⟨_, _, rfl⟩

theorem RegsKept.clkUpdate (s : State) (k : Nat) : RegsKept [wWv] s (s.clkUpdate k) := by
  have kept := (RegsKept.refl [wWv] s).setIn (f := Rg.WV_MCLK_STAT.ON) (wvBase_within (List.mem_singleton_self _))
    (putBits k 1 (s.get bWv Rg.WV_MCLK_STAT.ON) (b2n (s.clkWanted k))) (by decide) (by decide)
  exact .ite (.refl _ _) (.ite (kept.cells rfl) kept)

/-- EN and RUN shown, and the clock of the lane's group started. -/
def State.laneStarted (s : State) (c : Nat) : State :=
  (s.sets (flBase c) [(Rg.FL_CTRL.EN, 1), (Rg.FL_STAT.RUN, 1), (Rg.FL_STAT.REFUSE, 0)]).clkUpdate (c / 8)

/-- The figures, grids and settling of a lane that starts with the record `a` at edge `e`. -/
def State.begun (s : State) (c e : Nat) (a : FiltLane) : State := ((((s.setFl c a).flFigures c).flGrid c).settle c e).flFault c

theorem State.flEnable_eq (he : s.flag (flBase c) Rg.FL_CTRL.EN = false) (hr : s.flRefusal c = 0) :
    ∃ e thr, s.flEnable c =
      (s.laneStarted c).begun c e { FiltLane.off with src := s.get (flBase c) Rg.FL_CTRL.SRC, next := e, thr := thr } := by
  rw [State.flEnable, he, hr]
  exact ⟨_, _, rfl⟩

theorem State.get_started (s : State) (c : Nat) :
    (s.laneStarted c).get (flBase c) Rg.FL_CTRL.EN = 1 ∧ (s.laneStarted c).get (flBase c) Rg.FL_STAT.RUN = 1 ∧
      (s.laneStarted c).get (flBase c) Rg.FL_STAT.REFUSE = 0 ∧ (s.laneStarted c).flR c = s.flR c := by
  obtain ⟨l, hl⟩ : ∃ l, l = [(Rg.FL_CTRL.EN, 1), (Rg.FL_STAT.RUN, 1), (Rg.FL_STAT.REFUSE, 0)] := ⟨_, rfl⟩
  have clock (f : Fld) (hf : LaneFld f) : (s.laneStarted c).get (flBase c) f = (s.sets (flBase c) l).get (flBase c) f := by
    rw [hl]
    exact (RegsKept.clkUpdate _ _).get_lane hf
  subst hl
  exact ⟨(clock _ (by decide)).trans (State.get_sets rfl), (clock _ (by decide)).trans (State.get_sets rfl),
    (clock _ (by decide)).trans (State.get_sets rfl), (clock Rg.FL_CFG.R (by decide)).trans (State.get_sets_none rfl rfl)⟩

theorem LanesKept.begun (s : State) (c e : Nat) (a : FiltLane) : LanesKept {c} s (s.begun c e a) :=
  have own := Set.mem_singleton c
  ((((((LanesKept.refl _ s).setFl own a).sets own rfl).setFl own _).settle own e).flFault own)

/-- A field at another place than those of a list of writes. -/
theorem State.get_sets_off {b : Nat} {l : List (Fld × Nat)} (h : ∀ g ∈ l.map Prod.fst, f.off * 64 + f.lo ≠ g.off * 64 + g.lo) :
    (s.sets b l).get b f = s.get b f := by
  induction l generalizing s with
  | nil => rfl
  | cons p l ih =>
    exact (ih fun g hg => h g (List.mem_cons_of_mem _ hg)).trans (State.get_set_off _ _ _ _ _ (h _ List.mem_cons_self))

theorem State.get_settle_off (s : State) (c e : Nat)
    (h : ∀ g ∈ [Rg.FL_STAT.FINE_UNSET, Rg.FL_STAT.FAST_UNSET], f.off * 64 + f.lo ≠ g.off * 64 + g.lo) :
    (s.settle c e).get (flBase c) f = s.get (flBase c) f := by
  rw [State.settle]
  exact State.get_sets_off (l := [(Rg.FL_STAT.FINE_UNSET, 1), (Rg.FL_STAT.FAST_UNSET, 1)]) h

/-- The fields that hold a lane's figures. -/
def figureFlds : List Fld :=
  [Rg.FL_CIC.NORM, Rg.FL_CIC.B, Rg.FL_GD.GD, Rg.FL_SETTLE.FAST, Rg.FL_SETTLE.FINE, Rg.FL_STAT.FAST_OK, Rg.FL_STAT.ALIGNED]

theorem State.flFigures_eq (s : State) (c : Nat) : ∃ gd fast fine ok aligned, s.flFigures c = s.sets (flBase c)
    [(Rg.FL_CIC.NORM, cicNorm (s.flR c)), (Rg.FL_CIC.B, cicBits (s.flR c)), (Rg.FL_GD.GD, gd), (Rg.FL_SETTLE.FAST, fast),
      (Rg.FL_SETTLE.FINE, fine), (Rg.FL_STAT.FAST_OK, ok), (Rg.FL_STAT.ALIGNED, aligned)] := ⟨_, _, _, _, _, rfl⟩

theorem State.get_flFigures_off (s : State) (c : Nat) (h : ∀ g ∈ figureFlds, f.off * 64 + f.lo ≠ g.off * 64 + g.lo) :
    (s.flFigures c).get (flBase c) f = s.get (flBase c) f := by
  obtain ⟨gd, fast, fine, ok, aligned, figures⟩ := s.flFigures_eq c
  rw [figures]
  exact State.get_sets_off h

theorem State.get_flFigures_norm (s : State) (c : Nat) :
    (s.flFigures c).get (flBase c) Rg.FL_CIC.NORM = cicNorm (s.flR c) % 2 ^ Rg.FL_CIC.NORM.w := by
  obtain ⟨gd, fast, fine, ok, aligned, figures⟩ := s.flFigures_eq c
  have last : lastSet Rg.FL_CIC.NORM [(Rg.FL_CIC.NORM, cicNorm (s.flR c)), (Rg.FL_CIC.B, cicBits (s.flR c)), (Rg.FL_GD.GD, gd),
      (Rg.FL_SETTLE.FAST, fast), (Rg.FL_SETTLE.FINE, fine), (Rg.FL_STAT.FAST_OK, ok), (Rg.FL_STAT.ALIGNED, aligned)] =
        some (cicNorm (s.flR c)) := rfl
  rw [figures, State.get_sets rfl, last, Option.map_some, Option.getD_some]

/-- The fields that a start of a lane writes beside EN, RUN and REFUSE: the figures, the marks of both paths, and FAULT. -/
def startFlds : List Fld := figureFlds ++ [Rg.FL_STAT.FINE_UNSET, Rg.FL_STAT.FAST_UNSET] ++ [Rg.FL_STAT.FAULT]

theorem State.get_begun_off (s : State) (c e : Nat) (a : FiltLane) (h : ∀ g ∈ startFlds, f.off * 64 + f.lo ≠ g.off * 64 + g.lo) :
    (s.begun c e a).get (flBase c) f = s.get (flBase c) f := by
  simp only [startFlds, List.forall_mem_append] at h
  obtain ⟨⟨figures, unset⟩, fault⟩ := h
  rw [State.begun, State.get_flFault_off _ _ (fault _ (List.mem_singleton_self _)), State.get_settle_off _ _ _ unset, State.flGrid,
    State.get_setFl, State.get_flFigures_off _ _ figures, State.get_setFl]

/-- A start shows NORM, and both paths unsettled. -/
theorem State.get_begun (s : State) (c e : Nat) (a : FiltLane) :
    (s.begun c e a).get (flBase c) Rg.FL_CIC.NORM = cicNorm (s.flR c) % 2 ^ Rg.FL_CIC.NORM.w ∧
      (s.begun c e a).get (flBase c) Rg.FL_STAT.FINE_UNSET = 1 ∧ (s.begun c e a).get (flBase c) Rg.FL_STAT.FAST_UNSET = 1 := by
  obtain ⟨fine, fast⟩ := State.get_settle_unset (((s.setFl c a).flFigures c).flGrid c) c e
  refine ⟨?_, (State.get_flFault_off _ _ (by decide)).trans fine, (State.get_flFault_off _ _ (by decide)).trans fast⟩
  rw [State.begun, State.get_flFault_off _ _ (by decide), State.get_settle_off _ _ _ (by decide), State.flGrid, State.get_setFl,
    State.get_flFigures_norm]
  rfl

theorem State.fl_begun_src (s : State) (c e : Nat) (a : FiltLane) : ((s.begun c e a).fl c).src = a.src := by
  have figures : ((s.setFl c a).flFigures c).fl c = a :=
    (State.fl_sets _ _ _ _).trans (State.fl_setFl_same _ _ _)
  rw [State.begun, State.fl_flFault, State.fl_settle, State.flGrid, State.fl_setFl_same, figures]

end Sys2Proof.Machine
end

section
/-! SUPPORT. Inputs and clocks that supervision marks, items a lane sends, and what follows a sample's value (R258, R259, R278–R281). -/

set_option Elab.async false

namespace Sys2Proof.Machine

variable {s t u : State} {ws : List (Nat × Nat)} {c k n st : Nat} {f g : Fld}

/-! ### An input's state (R258–R260) -/

/-- An input's new state and its bit in WV_EVT, before the lanes it feeds show it. -/
def State.inputShown (s : State) (n st : Nat) : State :=
  let t := s.set (bWv + n * 0x10) Rg.WV_IN_STAT.STATE st
  if bitOf n (s.get bWv Rg.WV_EVT.CHG) then t else (t.set bWv Rg.WV_EVT.CHG (s.get bWv Rg.WV_EVT.CHG + 2 ^ n)).toggle 30

theorem State.inputShown_shape (s : State) (n st : Nat) : RegShape s (s.inputShown n st) :=
  have shown : RegShape s (s.set (bWv + n * 0x10) Rg.WV_IN_STAT.STATE st) := (RegShape.refl s).set _ _ _
  shown.ite ((shown.set _ _ _).toggle _)

theorem RegsKept.inputShown (s : State) (hn : n < 64) (st : Nat) : RegsKept [wWv] s (s.inputShown n st) := by
  have input : Within [wWv] (bWv + n * 0x10) 0x200 := wvBlock_within (List.mem_singleton_self _) (by omega)
  have shown := (RegsKept.refl _ s).setIn (f := Rg.WV_IN_STAT.STATE) input st (by decide) (by decide)
  exact .ite shown ((shown.setIn (wvBase_within (List.mem_singleton_self _)) _ (by decide) (by decide)).cells (State.toggle_cells _ _))

theorem State.get_inputShown_ne {b : Nat} (s : State) (n st : Nat) (hs : fldKey f b ≠ fldKey Rg.WV_IN_STAT.STATE (bWv + n * 0x10))
    (he : fldKey f b ≠ fldKey Rg.WV_EVT.CHG bWv) : (s.inputShown n st).get b f = s.get b f := by
  have shown : (s.set (bWv + n * 0x10) Rg.WV_IN_STAT.STATE st).get b f = s.get b f := State.get_set_ne _ _ _ _ _ _ hs
  unfold State.inputShown
  split
  · exact shown
  · rw [State.get_toggle, State.get_set_ne _ _ _ _ _ _ he, shown]

theorem State.get_inputShown_state (s : State) (n st : Nat) :
    (s.inputShown n st).get (bWv + n * 0x10) Rg.WV_IN_STAT.STATE = st % 2 ^ 3 := by
  have shown : (s.set (bWv + n * 0x10) Rg.WV_IN_STAT.STATE st).get (bWv + n * 0x10) Rg.WV_IN_STAT.STATE = st % 2 ^ 3 :=
    State.get_set_same _ _ _ _
  have apart : fldKey Rg.WV_IN_STAT.STATE (bWv + n * 0x10) ≠ fldKey Rg.WV_EVT.CHG bWv := by
    simp only [fldKey, Rg.WV_IN_STAT.STATE, Rg.WV_EVT.CHG]
    omega
  unfold State.inputShown
  split
  · exact shown
  · rw [State.get_toggle, State.get_set_ne _ _ _ _ _ _ apart, shown]

/-- A new state is shown at the input, and then by the lanes it feeds. -/
theorem State.wvSet_cases (s : State) (n st : Nat) :
    (s.get (bWv + n * 0x10) Rg.WV_IN_STAT.STATE = st ∧ s.wvSet n st = s) ∨ LanesKept Set.univ (s.inputShown n st) (s.wvSet n st) := by
  unfold State.wvSet
  extract_lets b ev t t'
  split
  · next same => exact .inl ⟨same, rfl⟩
  · refine .inr (List.foldlRecOn (motive := LanesKept Set.univ t') (List.range 8) _ (.refl _ _) fun u hu l _ => ?_)
    have fault := hu.set (c := n / 8 * 8 + l) (f := Rg.FL_STAT.FAULT) (Set.mem_univ _) (b2n (st != 1)) (by decide)
    exact .ite (.ite (fault.settle (Set.mem_univ _) _) fault) hu

theorem LanesKept.tiles {L : Set Nat} (h : LanesKept L s t) : RegsKept [wTiles] s t :=
  h.regsKept fun j _ => ⟨_, List.mem_singleton_self _, wLane_in_tiles j⟩

/-- Register fields of inputs and tiles, lanes and pending toggles apart, `t` is `s`. -/
structure InputsKept (s t : State) : Prop where
  shape : ∃ l w g, t = { s with cells := l, waves := w, toggles := g }
  regs : RegsKept [wWv, wTiles] s t

theorem InputsKept.trans (h : InputsKept s t) (g : InputsKept t u) : InputsKept s u := by
  refine ⟨?_, h.regs.trans g.regs⟩
  obtain ⟨l, w, g₁, rfl⟩ := h.shape
  obtain ⟨l', w', g₂, rfl⟩ := g.shape
  exact ⟨l', w', g₂, rfl⟩

theorem InputsKept.refl (s : State) : InputsKept s s := ⟨⟨_, _, _, rfl⟩, .refl _ _⟩

theorem InputsKept.set (h : InputsKept s t) {x : Nat} (hx : x + f.off < 0x1_0000) (hl : f.lo < 64) (v : Nat) :
    InputsKept s (t.set (bWv + x) f v) := by
  refine h.trans ⟨⟨_, _, _, rfl⟩, (RegsKept.refl _ t).set _ _ _ wWv (by simp) ?_ ?_ hl⟩
  · simp only [wWv, bWv]
    omega
  · simp only [wWv, bWv]
    omega

theorem InputsKept.wvSet (h : InputsKept s t) (hn : n < 64) (st : Nat) : InputsKept s (t.wvSet n st) := by
  obtain ⟨-, same⟩ | lanes := t.wvSet_cases n st
  · rw [same]
    exact h
  · refine h.trans ⟨?_, ((RegsKept.inputShown t hn st).mono (by simp)).trans (lanes.tiles.mono (by simp))⟩
    obtain ⟨l, g, shown⟩ := t.inputShown_shape n st
    obtain ⟨l', w, fed⟩ := lanes.shape
    rw [fed, shown]
    exact ⟨_, _, _, rfl⟩

theorem InputsKept.frame (h : InputsKept s t) :
    Frame [wWv, wTiles] s t { s with cells := t.cells, waves := t.waves, toggles := t.toggles } := by
  have regs := h.regs
  obtain ⟨l, w, g, rfl⟩ := h.shape
  exact ⟨rfl, .of_mem rfl, regs⟩

/-- The other registers of inputs and clocks stand. -/
theorem State.get_wvSet_ne {x : Nat} (s : State) (n st : Nat) (hx : x + f.off < 0x1_0000) (hl : f.lo < 64)
    (hs : fldKey f (bWv + x) ≠ fldKey Rg.WV_IN_STAT.STATE (bWv + n * 0x10)) (he : fldKey f (bWv + x) ≠ fldKey Rg.WV_EVT.CHG bWv) :
    (s.wvSet n st).get (bWv + x) f = s.get (bWv + x) f := by
  obtain ⟨-, same⟩ | lanes := s.wvSet_cases n st
  · rw [same]
  · exact (lanes.tiles.get_wv hx hl).trans (s.get_inputShown_ne n st hs he)

theorem State.get_wvSet_state (s : State) (hn : n < 64) (hst : st < 8) : (s.wvSet n st).get (bWv + n * 0x10) Rg.WV_IN_STAT.STATE = st := by
  obtain ⟨shown, same⟩ | lanes := s.wvSet_cases n st
  · rw [same, shown]
  · have inside : n * 0x10 + Rg.WV_IN_STAT.STATE.off < 0x1_0000 := by
      simp only [Rg.WV_IN_STAT.STATE]
      omega
    exact (lanes.tiles.get_wv inside (by decide)).trans ((s.get_inputShown_state n st).trans (Nat.mod_eq_of_lt hst))

/-- The rows of R258 give states 1 to 6. -/
theorem wvState_lt {o : WvObs} {contend : Bool} (h : wvState o contend = some st) : st < 8 := by
  unfold wvState at h
  split_ifs at h <;> simp only [Option.some.injEq] at h <;> omega

/-! ### Items a lane sends (R280) -/

/-- What a lane sends changes the links alone. -/
theorem State.sendMask_links (s : State) (pos mask typ : Nat) (data : List Nat) :
    ∃ ls, (s.sendMask pos mask typ data).1 = { s with links := ls } := by
  unfold State.sendMask
  extract_lets ls
  refine List.foldlRecOn (motive := fun p : State × Nat => ∃ ls, p.1 = { s with links := ls }) (List.range 8) _ ⟨_, rfl⟩ ?_
  rintro ⟨t, drops⟩ ⟨ks, rfl⟩ j -
  dsimp only
  split
  · exact ⟨_, rfl⟩
  · split
    · exact ⟨_, rfl⟩
    · split
      · exact ⟨_, rfl⟩
      · split
        · next sent =>
          obtain ⟨ls', rfl⟩ := State.trySend_eq_some sent
          exact ⟨_, rfl⟩
        · exact ⟨_, rfl⟩

/-- Register fields, lanes, pending toggles and links apart, `t` is `s`, and the registers lie in the block of lane `c`. -/
structure ChainKept (c : Nat) (s t : State) : Prop where
  shape : ∃ l w g k, t = { s with cells := l, waves := w, toggles := g, links := k }
  regs : RegsKept [wLane c] s t

theorem ChainKept.refl (c : Nat) (s : State) : ChainKept c s s := ⟨⟨_, _, _, _, rfl⟩, .refl _ _⟩

theorem ChainKept.trans (h : ChainKept c s t) (g : ChainKept c t u) : ChainKept c s u := by
  refine ⟨?_, h.regs.trans g.regs⟩
  obtain ⟨l, w, g₁, k, rfl⟩ := h.shape
  obtain ⟨l', w', g₂, k', rfl⟩ := g.shape
  exact ⟨l', w', g₂, k', rfl⟩

theorem ChainKept.set (h : ChainKept c s t) (v : Nat) (hf : LaneFld f) : ChainKept c s (t.set (flBase c) f v) :=
  h.trans ⟨⟨_, _, _, _, rfl⟩, (RegsKept.refl _ t).setLane (by simp) v hf⟩

theorem ChainKept.event (h : ChainKept c s t) (hf : LaneFld f) : ChainKept c s (t.flEvent c f) := by
  refine h.trans ⟨?_, (RegsKept.refl _ t).laneEvent (by simp) _ hf⟩
  obtain ⟨l, g, shown⟩ := (RegShape.refl t).event (tileEv (flPos c)) (flBase c) f
  exact ⟨l, _, g, _, shown⟩

theorem ChainKept.setFl (h : ChainKept c s t) (a : FiltLane) : ChainKept c s (t.setFl c a) :=
  h.trans ⟨⟨_, _, _, _, rfl⟩, .of_cells rfl⟩

theorem ChainKept.withLinks (h : ChainKept c s t) (ls : List Link) : ChainKept c s { t with links := ls } :=
  h.trans ⟨⟨_, _, _, _, rfl⟩, .of_cells rfl⟩

/-! ### What follows a sample's value (R278–R281) -/

/-- The fields of a lane that are written once a sample's value is shown. -/
def afterFlds : List Fld :=
  [Rg.FL_STAT.FINE_UNSET, Rg.FL_STAT.FAST_UNSET, Rg.FL_EVT.SETTLED, Rg.FL_CNT.OUT_DROP, Rg.FL_EVT.OUT_DROP]

/-- What follows a sample's value in lane `c`: marks and drops shown, its thresholds and batches moved on. -/
structure SampleKept (c : Nat) (s t : State) : Prop extends ChainKept c s t where
  own : ∀ f, (∀ g ∈ afterFlds, f.off * 64 + f.lo ≠ g.off * 64 + g.lo) → t.get (flBase c) f = s.get (flBase c) f
  queues : (t.fl c).fine.q = (s.fl c).fine.q ∧ (t.fl c).fast.q = (s.fl c).fast.q

theorem SampleKept.refl (c : Nat) (s : State) : SampleKept c s s := ⟨.refl c s, fun _ _ => rfl, rfl, rfl⟩

theorem SampleKept.trans (h : SampleKept c s t) (g : SampleKept c t u) : SampleKept c s u :=
  ⟨h.toChainKept.trans g.toChainKept, fun f hf => (g.own f hf).trans (h.own f hf), g.queues.1.trans h.queues.1,
    g.queues.2.trans h.queues.2⟩

theorem SampleKept.ite {p : Prop} {_ : Decidable p} (ht : SampleKept c s t) (hu : SampleKept c s u) :
    SampleKept c s (if p then t else u) := by
  split
  · exact ht
  · exact hu

theorem afterFlds_lane : ∀ g ∈ afterFlds, LaneFld g := by decide

theorem SampleKept.set (h : SampleKept c s t) (hg : g ∈ afterFlds) (v : Nat) : SampleKept c s (t.set (flBase c) g v) :=
  h.trans ⟨(ChainKept.refl c t).set v (afterFlds_lane g hg), fun _ hf => State.get_set_off _ _ _ _ _ (hf g hg), rfl, rfl⟩

theorem State.flEvent_waves (s : State) (c : Nat) (f : Fld) : (s.flEvent c f).waves = s.waves := by
  obtain ⟨l, g, shown⟩ := (RegShape.refl s).event (tileEv (flPos c)) (flBase c) f
  rw [State.flEvent, shown]

theorem SampleKept.event (h : SampleKept c s t) (hg : g ∈ afterFlds) : SampleKept c s (t.flEvent c g) := by
  have record := State.fl_congr (t.flEvent_waves c g) c
  exact h.trans ⟨(ChainKept.refl c t).event (afterFlds_lane g hg), fun _ hf => State.get_event_off _ _ _ _ _ (hf g hg), by rw [record],
    by rw [record]⟩

/-- A record put in place of another that holds the same outputs of the CIC. -/
theorem SampleKept.setFl (h : SampleKept c s t) {a : FiltLane} (fine : a.fine.q = (t.fl c).fine.q) (fast : a.fast.q = (t.fl c).fast.q) :
    SampleKept c s (t.setFl c a) :=
  h.trans ⟨(ChainKept.refl c t).setFl a, fun _ _ => rfl, by rw [State.fl_setFl_same, fine], by rw [State.fl_setFl_same, fast]⟩

theorem SampleKept.withLinks (h : SampleKept c s t) (ls : List Link) : SampleKept c s { t with links := ls } :=
  h.trans ⟨(ChainKept.refl c t).withLinks ls, fun _ _ => rfl, rfl, rfl⟩

theorem SampleKept.routeItem (h : SampleKept c s t) (mask typ : Nat) (data : List Nat) :
    SampleKept c s (t.routeItem c mask typ data) := by
  obtain ⟨ls, sent⟩ := t.sendMask_links (flPos c) mask typ data
  unfold State.routeItem
  extract_lets r
  have kept : SampleKept c s r.1 := by
    rw [show r.1 = _ from sent]
    exact h.withLinks ls
  exact .ite kept ((kept.set (by decide) _).event (by decide))

theorem FiltLane.queues_setPath {a : FiltLane} {fast : Bool} {p : FiltPath} (h : p.q = (a.path fast).q) :
    (a.setPath fast p).fine.q = a.fine.q ∧ (a.setPath fast p).fast.q = a.fast.q := by
  cases fast with
  | false => exact ⟨h, rfl⟩
  | true => exact ⟨rfl, h⟩

/-- A path of the lane put in place of another with the same outputs of the CIC. -/
theorem SampleKept.setPath (h : SampleKept c s t) {fast : Bool} {p : FiltPath} (hp : p.q = ((t.fl c).path fast).q) :
    SampleKept c s (t.setFl c ((t.fl c).setPath fast p)) :=
  h.setFl (FiltLane.queues_setPath hp).1 (FiltLane.queues_setPath hp).2

theorem SampleKept.closeBatch (h : SampleKept c s t) (fast : Bool) : SampleKept c s (t.closeBatch c fast) := by
  unfold State.closeBatch
  extract_lets p
  split
  · exact h
  · have taken : SampleKept c s (t.setFl c ((t.fl c).setPath fast { p with batch := none })) := h.setPath rfl
    exact taken.routeItem _ _ _

theorem SampleKept.addSample (h : SampleKept c s t) (fast : Bool) (flags ts : Nat) (y : Int) :
    SampleKept c s (t.addSample c fast flags ts y) := by
  unfold State.addSample
  extract_lets p t' q b t''
  have closed : SampleKept c s t' := .ite (h.closeBatch fast) h
  have added : SampleKept c s t'' := closed.setPath rfl
  exact .ite (added.closeBatch fast) added

theorem SampleKept.thrEval (h : SampleKept c s t) (k ts : Nat) (fast : Bool) : SampleKept c s (t.thrEval c k ts fast) :=
  .ite h (.ite (.ite (h.setFl rfl rfl) (h.setFl rfl rfl)) (h.setFl rfl rfl))

theorem SampleKept.leaveUnset (h : SampleKept c s t) (fast ok : Bool) : SampleKept c s (t.leaveUnset c fast ok) := by
  unfold State.leaveUnset
  extract_lets f
  have mark : f ∈ afterFlds := by
    cases fast with
    | false => decide
    | true => decide
  exact .ite (.ite ((h.set mark 0).event (by decide)) (h.set mark 0)) h

/-- The field of FL_LAST that shows a path's newest sample. -/
def lastFld (fast : Bool) : Fld := if fast then Rg.FL_LAST.FAST else Rg.FL_LAST.FINE

/-- A sample's value taken into its path's history and shown. -/
def State.valueShown (s : State) (c : Nat) (fast ok : Bool) (y : Int) : State :=
  (s.setFl c ((s.fl c).setPath fast { (s.fl c).path fast with hist := ((y, ok) :: ((s.fl c).path fast).hist).take 256 })).set (flBase c)
    (lastFld fast) (pat 32 y)

theorem SampleKept.sampleOut (s : State) (c : Nat) (fast ok sat fade : Bool) (ts : Nat) (y : Int) :
    SampleKept c (s.valueShown c fast ok y) (s.sampleOut c fast ok sat fade ts y) := by
  unfold State.sampleOut
  exact ((((SampleKept.refl _ _).leaveUnset fast ok).thrEval 0 ts fast).thrEval 1 ts fast).addSample fast _ ts y

/-- A sample leaves its value in FL_LAST and the paths' outputs of the CIC as they were. -/
theorem State.sampleOut_shows (s : State) (c : Nat) (fast ok sat fade : Bool) (ts : Nat) (y : Int) :
    ChainKept c s (s.sampleOut c fast ok sat fade ts y) ∧
      (s.sampleOut c fast ok sat fade ts y).get (flBase c) (lastFld fast) = pat 32 y ∧
      ((s.sampleOut c fast ok sat fade ts y).fl c).fine.q = (s.fl c).fine.q ∧
      ((s.sampleOut c fast ok sat fade ts y).fl c).fast.q = (s.fl c).fast.q := by
  have after := SampleKept.sampleOut s c fast ok sat fade ts y
  have field : LaneFld (lastFld fast) ∧ (lastFld fast).w = 32 ∧
      ∀ g ∈ afterFlds, (lastFld fast).off * 64 + (lastFld fast).lo ≠ g.off * 64 + g.lo := by
    cases fast with
    | false => decide
    | true => decide
  obtain ⟨inside, width, apart⟩ := field
  have shown : (s.valueShown c fast ok y).get (flBase c) (lastFld fast) = pat 32 y := by
    rw [State.valueShown, State.get_set_same, width, pat_mod]
  have queues : ((s.valueShown c fast ok y).fl c).fine.q = (s.fl c).fine.q ∧
      ((s.valueShown c fast ok y).fl c).fast.q = (s.fl c).fast.q := by
    have record : (s.valueShown c fast ok y).fl c = _ := State.fl_setFl_same s c _
    rw [record]
    exact FiltLane.queues_setPath rfl
  exact ⟨(((ChainKept.refl c s).setFl _).set _ inside).trans after.toChainKept, (after.own _ apart).trans shown,
    after.queues.1.trans queues.1, after.queues.2.trans queues.2⟩

/-! ### Samples told to the loops (R167) -/

theorem State.sample_eq (s : State) (code idx : Nat) (v : Int) :
    ∃ l k m, s.sample code idx v = { s with cells := l, loops := k, samples := m } := by
  obtain ⟨l, k, told⟩ := offerAll_eq code idx 0 64 { s with samples := assocSet (code * 128 + idx) v s.samples }
  exact ⟨l, k, _, told⟩

theorem RegsKept.sample (hk : RegsKept ws s t) (hw : wTiles ∈ ws) (code idx : Nat) (v : Int) : RegsKept ws s (t.sample code idx v) :=
  RegsKept.offerAll hw code idx 0 64 _ (hk.cells rfl)

/-- FILT tiles and LOOP tiles have windows of their own. -/
theorem filt_loop_apart : ∀ i < 8, ∀ j < 4,
    kindBase .filt i + 0x4000 ≤ kindBase .loop j ∨ kindBase .loop j + 0x4000 ≤ kindBase .filt i := by
  decide

theorem laneFld_loop_ne {l : Nat} (hc : c < 64) (hl : l < 64) (hf : LaneFld f) (hg : g.off < 0x2000 ∧ g.lo < 64) :
    fldKey f (flBase c) ≠ fldKey g (lpBase l) := by
  have apart := filt_loop_apart (c / 8) (by omega) (l / 16) (by omega)
  simp only [fldKey, flBase, lpBase, laneBase, tileLanes]
  omega

/-- A loop that takes a sample writes no register of a lane. -/
theorem State.get_offer_lane {l : Nat} (s : State) (code idx : Nat) (hc : c < 64) (hl : l < 64) (hf : LaneFld f) :
    (s.offer code idx l).get (flBase c) f = s.get (flBase c) f := by
  have apart {g : Fld} (hg : g.off < 0x2000 ∧ g.lo < 64) : fldKey f (flBase c) ≠ fldKey g (lpBase l) := laneFld_loop_ne hc hl hf hg
  have hold (u : State) : (u.leaveHold l).get (flBase c) f = u.get (flBase c) f := by
    unfold State.leaveHold
    extract_lets b auto
    split
    · exact State.get_set_ne _ _ _ _ _ _ (apart (by decide))
    · rfl
  unfold State.offer
  extract_lets b
  split
  · exact (hold _).trans ((State.get_set_ne _ _ _ _ _ _ (apart (by decide))).trans (State.get_set_ne _ _ _ _ _ _ (apart (by decide))))
  · rfl

theorem get_offerAll_lane (code idx l n : Nat) (hc : c < 64) (hn : l + n ≤ 64) (hf : LaneFld f) :
    ∀ s : State, (offerAll code idx l n s).get (flBase c) f = s.get (flBase c) f := by
  induction n with
  | zero => exact fun s => rfl
  | succ n ih => exact fun s => (ih (by omega) _).trans (s.get_offer_lane code idx hc (by omega) hf)

theorem State.get_sample_lane (s : State) (code idx : Nat) (v : Int) (hc : c < 64) (hf : LaneFld f) :
    (s.sample code idx v).get (flBase c) f = s.get (flBase c) f :=
  get_offerAll_lane code idx 0 64 hc le_rfl hf _

theorem State.fl_sample (s : State) (code idx c : Nat) (v : Int) : (s.sample code idx v).fl c = s.fl c := by
  obtain ⟨l, k, m, told⟩ := s.sample_eq code idx v
  rw [told]
  rfl

end Sys2Proof.Machine
end

section
/-! PROOF. Filter lanes: enable, source, supervision, swaps and thresholds (R255–R283). -/

set_option Elab.async false

namespace Sys2Proof.Machine

variable {s t : State} {c k n f : Nat} {m : Master}

/-! ### Enable and source (R271, R283) -/

/-- A write of an action register of a lane that is enabled in the image and powered, by a master that has the right. -/
theorem State.flWrite_ok (hm : mayWriteService s m = true) (hon : s.chanOn .filt c = true) (off : Nat) (act : State → State) :
    s.flWrite m c off act = (act s).answer .ok 0 := by
  obtain ⟨-, lane⟩ := Bool.and_eq_true_iff.1 hon
  exact State.tileWrite_ok _ _ _ _ _ _ hm lane

theorem RegsKept.laneStarted (s : State) (hc : c < 64) : RegsKept [wTile (flPos c), wWv] s (s.laneStarted c) := by
  have own := Set.mem_singleton c
  have shown := ((LanesKept.refl {c} s).sets own (l := [(Rg.FL_CTRL.EN, 1), (Rg.FL_STAT.RUN, 1), (Rg.FL_STAT.REFUSE, 0)]) rfl).tile hc
    fun j hj => congrArg (· / 8) hj
  exact (shown.mono (by simp)).trans ((RegsKept.clkUpdate _ _).mono (by simp))

theorem Frame.begun (s : State) (hc : c < 64) (e : Nat) (a : FiltLane) : Frame [wTile (flPos c), wWv] s ((s.laneStarted c).begun c e a)
    { s with cells := ((s.laneStarted c).begun c e a).cells, waves := ((s.laneStarted c).begun c e a).waves } := by
  have lane := LanesKept.begun (s.laneStarted c) c e a
  have tile := lane.tile hc fun j hj => congrArg (· / 8) hj
  have regs := (RegsKept.laneStarted s hc).trans (tile.mono (by simp))
  obtain ⟨l, w, clock⟩ := State.clkUpdate_eq (s.sets (flBase c) [(Rg.FL_CTRL.EN, 1), (Rg.FL_STAT.RUN, 1), (Rg.FL_STAT.REFUSE, 0)]) (c / 8)
  obtain ⟨l', w', begun⟩ := lane.shape
  have whole : (s.laneStarted c).begun c e a = { s with cells := l', waves := { w with lanes := w' } } := by
    rw [begun, State.laneStarted, clock]
    rfl
  exact ⟨by rw [whole], .of_mem (by rw [whole]), regs⟩

/-- What an accepted enable leaves and shows (R263, R271, R283). -/
theorem flEnable_shows (hc : c < 64) (he : s.flag (flBase c) Rg.FL_CTRL.EN = false) (hr : s.flRefusal c = 0) :
    ∃ u, s.flEnable c = u ∧
      (u.get (flBase c) Rg.FL_CTRL.EN = 1 ∧ u.get (flBase c) Rg.FL_STAT.RUN = 1 ∧ u.get (flBase c) Rg.FL_STAT.REFUSE = 0) ∧
      u.get (flBase c) Rg.FL_CIC.NORM = cicNorm (s.flR c) % 2 ^ Rg.FL_CIC.NORM.w ∧
      (u.get (flBase c) Rg.FL_STAT.FINE_UNSET = 1 ∧ u.get (flBase c) Rg.FL_STAT.FAST_UNSET = 1) ∧
      (u.fl c).src = s.get (flBase c) Rg.FL_CTRL.SRC ∧
      Frame [wTile (flPos c), wWv] s u { s with cells := u.cells, waves := u.waves } := by
  obtain ⟨e, thr, started⟩ := State.flEnable_eq he hr
  obtain ⟨en, run, refuse, r⟩ := s.get_started c
  obtain ⟨norm, unset⟩ := (s.laneStarted c).get_begun c e
    { FiltLane.off with src := s.get (flBase c) Rg.FL_CTRL.SRC, next := e, thr := thr }
  rw [r] at norm
  exact ⟨_, started, ⟨(State.get_begun_off _ _ _ _ (by decide)).trans en, (State.get_begun_off _ _ _ _ (by decide)).trans run,
    (State.get_begun_off _ _ _ _ (by decide)).trans refuse⟩, norm, unset, State.fl_begun_src _ _ _ _, Frame.begun s hc e _⟩

/-! ### Swaps (R275–R277) -/

/-- SWAP on an enabled lane without a fade leaves a request for the next boundary. -/
theorem State.swapAsk_eq (he : s.flag (flBase c) Rg.FL_CTRL.EN = true) (hf : (s.fl c).fade = none) (fade : Nat) :
    s.swapAsk c fade = s.setFl c { s.fl c with req := some (min fade 1024) } := by
  simp [State.swapAsk, he, hf]

theorem execSwapApply_req (hd : (s.fl c).due = none) (hr : (s.fl c).req = some f) (he : s.flEn c = true) (hf : (s.fl c).fade = none) :
    exec (.swapApply c) s = .next ((s.setFl c { s.fl c with req := none }).swapNow c f) := by
  show execSwapApply c s = _
  simp [execSwapApply, hd, hr, he, hf]

theorem execSwapApply_due (hd : (s.fl c).due = some f) (hr : (s.fl c).req = none) (he : s.flEn c = true) (hf : (s.fl c).fade = none) :
    exec (.swapApply c) s = .next ((s.setFl c { s.fl c with due := none }).swapNow c f) := by
  show execSwapApply c s = _
  simp [execSwapApply, hd, hr, he, hf]

/-- A request taken from the lane's record and applied: the swap it asks for, and its frame. -/
theorem State.swapNow_taken (hc : c < 64) (hb : s.bankOk c (1 - s.flActive c) = true) (a : FiltLane) (f : Nat) :
    ((s.setFl c a).swapNow c f).flActive c = 1 - s.flActive c ∧
      ((s.setFl c a).swapNow c f).get (flBase c) Rg.FL_STAT.FADING = b2n (f != 0) ∧
      ((s.setFl c a).swapNow c f).fl c = a.fading f ∧
      Frame [wTile (flPos c)] s ((s.setFl c a).swapNow c f)
        { s with cells := ((s.setFl c a).swapNow c f).cells, waves := ((s.setFl c a).swapNow c f).waves } := by
  obtain ⟨kept, active, fading, lane⟩ := State.swapNow_ok (s := s.setFl c a) hb f
  rw [State.fl_setFl_same] at lane
  exact ⟨active, fading, lane, (((LanesKept.refl _ s).setFl (Set.mem_singleton c) a).trans kept).frame hc⟩

/-- A lane whose fade has ended, with GD that of the new bank. -/
def State.faded (s : State) (c gd : Nat) : State :=
  ((s.setFl c { s.fl c with fade := none, due := (s.fl c).queued, queued := none }).sets (flBase c)
    [(Rg.FL_STAT.FADING, 0), (Rg.FL_STAT.QUEUED, 0)]).set (flBase c) Rg.FL_GD.GD gd

theorem execFadeEnd_eq (hf : (s.fl c).fade = some (n, f)) (hn : f ≤ n) : ∃ gd, exec (.fadeEnd c) s = .next (s.faded c gd) := by
  show ∃ gd, execFadeEnd c s = _
  simp only [execFadeEnd, hf, if_pos hn]
  exact ⟨_, rfl⟩

theorem State.get_faded (s : State) (c gd : Nat) :
    (s.faded c gd).get (flBase c) Rg.FL_STAT.FADING = 0 ∧ (s.faded c gd).get (flBase c) Rg.FL_STAT.QUEUED = 0 :=
  ⟨(State.get_set_off _ _ _ _ _ (by decide)).trans (State.get_sets rfl),
    (State.get_set_off _ _ _ _ _ (by decide)).trans (State.get_sets rfl)⟩

theorem State.fl_faded (s : State) (c gd : Nat) :
    (s.faded c gd).fl c = { s.fl c with fade := none, due := (s.fl c).queued, queued := none } := by
  rw [State.faded, State.fl_set, State.fl_sets, State.fl_setFl_same]

theorem LanesKept.faded (s : State) (c gd : Nat) : LanesKept {c} s (s.faded c gd) :=
  have own := Set.mem_singleton c
  (((LanesKept.refl _ s).setFl own _).sets own (by decide)).set own gd (by decide)

/-! ### Supervision (R258, R259) -/

theorem execWvInputState_eq {st x : Nat} {o : WvObs} (hn : n < 64) (hs : s.sdOn n = true) (hk : s.clkOn (n / 8) = true)
    (ho : o.ones = some x)
    (hst : wvState o (bitOf (n / 8) (s.get bWv Rg.WV_MCLK_STAT.CONTEND)) = some st) :
    exec (.wvInputState n o) s = .next ((s.set (bWv + n * 0x10) Rg.WV_IN_STAT.DENSITY (min (rnd 35 x 16).toNat 255)).wvSet n st) := by
  show execWvInputState n o s = _
  rw [execWvInputState, if_pos ⟨hn, hs, hk⟩, ho, hst]

/-- MOD_CLK `k` in contention, before its inputs show it. -/
def State.contended (s : State) (k : Nat) : State :=
  s.set bWv Rg.WV_MCLK_STAT.CONTEND (putBits k 1 (s.get bWv Rg.WV_MCLK_STAT.CONTEND) 1)

/-- A bit of a word cut to a width that holds it. -/
theorem bitOf_mod {w i : Nat} (v : Nat) (hi : i < w) : bitOf i (v % 2 ^ w) = bitOf i v := by
  rw [bitOf_eq_testBit, bitOf_eq_testBit, Nat.testBit_mod_two_pow, decide_eq_true hi, Bool.true_and]

theorem State.contend_contended (s : State) (hk : k < 8) : bitOf k ((s.contended k).get bWv Rg.WV_MCLK_STAT.CONTEND) = true := by
  have width : k < Rg.WV_MCLK_STAT.CONTEND.w := hk
  rw [State.contended, State.get_set_same, bitOf_mod _ width]
  exact (bitOf_putBits_one k k _ true).trans (if_pos rfl)

/-- 64 wrong cycles mark the clock, and its inputs show state 5 (R258, R259). -/
theorem execMclkContend_eq {wrong : Nat} (hk : k < 8) (hon : s.clkOn k = true) (hw : 64 ≤ wrong) :
    ∃ t, exec (.mclkContend k wrong) s = .next t ∧ InputsKept s t ∧
      t.get bWv Rg.WV_MCLK_STAT.CONTEND = (s.contended k).get bWv Rg.WV_MCLK_STAT.CONTEND := by
  refine ⟨(List.range 8).foldl (fun u i => if u.sdOn (k * 8 + i) then u.wvSet (k * 8 + i) 5 else u) (s.contended k), ?_, ?_⟩
  · show execMclkContend k wrong s = _
    rw [execMclkContend, if_pos ⟨hk, hon⟩]
    exact if_pos hw
  · refine List.foldlRecOn (motive := fun u => InputsKept s u ∧
      u.get bWv Rg.WV_MCLK_STAT.CONTEND = (s.contended k).get bWv Rg.WV_MCLK_STAT.CONTEND) (List.range 8) _
      ⟨(InputsKept.refl s).set (x := 0) (by decide) (by decide) _, rfl⟩ fun u ⟨kept, contend⟩ i hi => ?_
    have input : k * 8 + i < 64 := by
      have := List.mem_range.1 hi
      omega
    have apart : fldKey Rg.WV_MCLK_STAT.CONTEND (bWv + 0) ≠ fldKey Rg.WV_IN_STAT.STATE (bWv + (k * 8 + i) * 0x10) := by
      simp only [fldKey, Rg.WV_MCLK_STAT.CONTEND, Rg.WV_IN_STAT.STATE]
      omega
    split
    · exact ⟨kept.wvSet input 5, (u.get_wvSet_ne (x := 0) _ 5 (by decide) (by decide) apart (by decide)).trans contend⟩
    · exact ⟨kept, contend⟩

/-! ### Thresholds (R279) -/

/-- A completed dwell's threshold shown with its event, before its item is sent. -/
def State.thrShown (s : State) (c : Nat) (d : ThrEv) : State :=
  (s.set (flBase c) Rg.FL_STAT.THR_ACTIVE (putBits d.k 1 (s.get (flBase c) Rg.FL_STAT.THR_ACTIVE) (b2n d.new))).flEvent c
    (if d.k = 0 then Rg.FL_EVT.THR0 else Rg.FL_EVT.THR1)

theorem State.showThr_kept (s : State) (c : Nat) (d : ThrEv) : SampleKept c (s.thrShown c d) (s.showThr c d) :=
  (SampleKept.refl c (s.thrShown c d)).routeItem _ _ _

theorem State.fl_routeItem (s : State) (c mask typ : Nat) (data : List Nat) : (s.routeItem c mask typ data).fl c = s.fl c := by
  obtain ⟨ls, sent⟩ := s.sendMask_links (flPos c) mask typ data
  unfold State.routeItem
  extract_lets r
  have same : r.1.fl c = s.fl c := by
    rw [show r.1 = _ from sent]
    rfl
  split
  · exact same
  · exact (State.fl_congr (State.flEvent_waves _ _ _) c).trans same

theorem State.fl_showThr (s : State) (c : Nat) (d : ThrEv) : (s.showThr c d).fl c = s.fl c :=
  (State.fl_routeItem _ _ _ _ _).trans (State.fl_congr (State.flEvent_waves _ _ _) c)

/-- The event bit of a threshold. -/
theorem thrEvt_place (k : Nat) :
    LaneFld (if k = 0 then Rg.FL_EVT.THR0 else Rg.FL_EVT.THR1) ∧ (if k = 0 then Rg.FL_EVT.THR0 else Rg.FL_EVT.THR1).w ≠ 0 ∧
      ∀ g ∈ Rg.FL_STAT.THR_ACTIVE :: afterFlds, (if k = 0 then Rg.FL_EVT.THR0 else Rg.FL_EVT.THR1).off * 64 +
        (if k = 0 then Rg.FL_EVT.THR0 else Rg.FL_EVT.THR1).lo ≠ g.off * 64 + g.lo := by
  split
  · decide
  · decide

theorem State.get_showThr (s : State) (c : Nat) {d : ThrEv} (hd : d.k < 2) :
    bitOf d.k ((s.showThr c d).get (flBase c) Rg.FL_STAT.THR_ACTIVE) = d.new ∧
      (s.showThr c d).get (flBase c) (if d.k = 0 then Rg.FL_EVT.THR0 else Rg.FL_EVT.THR1) = 1 := by
  have after := s.showThr_kept c d
  obtain ⟨-, wide, apart⟩ := thrEvt_place d.k
  obtain ⟨active, sent⟩ := List.forall_mem_cons.1 apart
  have width : d.k < Rg.FL_STAT.THR_ACTIVE.w := hd
  constructor
  · rw [after.own _ (by decide), State.thrShown, State.flEvent, State.get_event_off _ _ _ _ _ active.symm, State.get_set_same,
      bitOf_mod _ width, bitOf_putBits_one, if_pos rfl]
  · rw [after.own _ sent]
    exact State.get_event_same _ _ _ _ wide

theorem ChainKept.showThr (h : ChainKept c s t) (d : ThrEv) : ChainKept c s (t.showThr c d) :=
  ((h.set _ (by decide)).event (thrEvt_place d.k).1).trans (t.showThr_kept c d).toChainKept

theorem ChainKept.frame (h : ChainKept c s t) (hc : c < 64) : Frame [wTile (flPos c)] s t
    { s with cells := t.cells, waves := t.waves, toggles := t.toggles, links := t.links } := by
  have regs : RegsKept [wTile (flPos c)] s t := h.regs.widen fun v hv => by
    rw [List.mem_singleton.1 hv]
    exact ⟨_, List.mem_singleton_self _, wLane_in_tile hc⟩
  obtain ⟨l, w, g, k, rfl⟩ := h.shape
  exact ⟨rfl, .of_mem rfl, regs⟩

theorem execThresholdChange_eq {d : ThrEv} {rest : List ThrEv} (hp : (s.fl c).pend = d :: rest) :
    exec (.thresholdChange c) s = .next ((s.setFl c { s.fl c with pend := rest }).showThr c d) := by
  show execThresholdChange c s = _
  rw [execThresholdChange, hp]

end Sys2Proof.Machine

open Sys2Proof Sys2Proof.Machine

/-- Settles O32: each command of a lane, an input or a clock through the state that it leaves. -/
theorem filterLanesAreControlled : Obligations.FilterLanesAreControlled := by
  unfold Obligations.FilterLanesAreControlled
  refine ⟨fun m c s ⟨hc, hm, hon, he, hr⟩ => ?enable, fun c s ⟨hc, he, hs, hg⟩ => ?source, fun n x st o s ⟨hn, hsd, hk, ho⟩ hst => ?input,
    fun k wrong s ⟨hk, hon, hw⟩ => ?clock, fun m c fade s ⟨_, hm, hon, he, hf⟩ => ?swap, fun c f s ⟨hc, hd, hr, he, hf, hb⟩ => ?request,
    fun c f s ⟨hc, hd, hr, he, hf, hb⟩ => ?due, fun c n f s ⟨hc, hf, hn⟩ => ?fadeEnd, fun c d rest s ⟨hc, hp, hd⟩ => ?threshold⟩
  case enable =>
    obtain ⟨u, started, ⟨en, run, refuse⟩, norm, ⟨fine, fast⟩, src, frame⟩ := flEnable_shows hc he hr
    have ran : exec (.filtEnable m c) s = .next (u.answer .ok 0) :=
      congrArg Host.Outcome.next ((State.flWrite_ok hm hon 8 (State.flEnable · c)).trans (congrArg (State.answer · .ok 0) started))
    exact ⟨_, ran, en, run, refuse, norm, fine, fast, src, frame.answer⟩
  case source =>
    have applied := State.srcApply_eq he hs hg
    have kept : LanesKept {c} s ((s.sourced c).feedLane c) := applied ▸ (LanesKept.refl _ s).srcApply (Set.mem_singleton c)
    obtain ⟨src, ev, org, fineOrg⟩ := s.fl_sourced c
    obtain ⟨fine, fast⟩ := s.get_sourced_unset c
    obtain ⟨e, g, k, x, y, fed⟩ := (s.sourced c).fl_feedLane_eq c
    exact ⟨_, congrArg Host.Outcome.next applied, (congrArg FiltLane.src fed).trans src,
      (State.get_feedLane_off _ _ (by decide)).trans fine, (State.get_feedLane_off _ _ (by decide)).trans fast,
      (congrArg FiltLane.ev fed).trans ev, (congrArg FiltLane.org fed).trans org, (congrArg (·.fine.org) fed).trans fineOrg, kept.frame hc⟩
  case input =>
    have inside : n * 0x10 + Rg.WV_IN_STAT.DENSITY.off < 0x1_0000 := by
      simp only [Rg.WV_IN_STAT.DENSITY]
      omega
    have apart : fldKey Rg.WV_IN_STAT.DENSITY (bWv + n * 0x10) ≠ fldKey Rg.WV_EVT.CHG bWv := by
      simp only [fldKey, Rg.WV_IN_STAT.DENSITY, Rg.WV_EVT.CHG]
      omega
    refine ⟨_, execWvInputState_eq hn hsd hk ho hst, State.get_wvSet_state _ hn (wvState_lt hst), ?_,
      (((InputsKept.refl s).set inside (by decide) _).wvSet hn st).frame⟩
    rw [State.get_wvSet_ne _ _ _ inside (by decide) (by simp [fldKey, Rg.WV_IN_STAT.DENSITY, Rg.WV_IN_STAT.STATE]) apart,
      State.get_set_same]
    exact Nat.mod_eq_of_lt (lt_of_le_of_lt (min_le_right _ _) (by decide))
  case clock =>
    obtain ⟨t, ran, kept, contend⟩ := execMclkContend_eq hk hon hw
    exact ⟨t, ran, by rw [contend]; exact s.contend_contended hk, kept.frame⟩
  case swap =>
    refine ⟨_, rfl, ?_⟩
    rw [State.flWrite_ok hm hon, State.swapAsk_eq he hf]
    exact ⟨by rw [State.fl_answer, State.fl_setFl_same], rfl, .of_mem rfl, .of_cells rfl⟩
  case request =>
    obtain ⟨active, fading, lane, frame⟩ := State.swapNow_taken hc hb { s.fl c with req := none } f
    exact ⟨_, execSwapApply_req hd hr he hf, ⟨active, fading, congrArg FiltLane.req lane, congrArg FiltLane.fade lane⟩, frame⟩
  case due =>
    obtain ⟨active, fading, lane, frame⟩ := State.swapNow_taken hc hb { s.fl c with due := none } f
    exact ⟨_, execSwapApply_due hd hr he hf, ⟨active, fading, congrArg FiltLane.due lane, congrArg FiltLane.fade lane⟩, frame⟩
  case fadeEnd =>
    obtain ⟨gd, ran⟩ := execFadeEnd_eq hf hn
    have lane := s.fl_faded c gd
    obtain ⟨fading, queued⟩ := s.get_faded c gd
    exact ⟨_, ran, congrArg FiltLane.fade lane, (congrArg FiltLane.req lane :), congrArg FiltLane.due lane, congrArg FiltLane.queued lane,
      fading, queued, (LanesKept.faded s c gd).frame hc⟩
  case threshold =>
    refine ⟨_, execThresholdChange_eq hp, ?_, (((ChainKept.refl c s).setFl _).showThr d).frame hc⟩
    obtain ⟨active, event⟩ := (s.setFl c { s.fl c with pend := rest }).get_showThr c hd
    exact ⟨active, event, by rw [State.fl_showThr, State.fl_setFl_same]⟩

end

section
/-! PROOF. A word of a bit stream through the lanes of its tile, and the samples of a lane (R257, R261–R270, R275). -/

set_option Elab.async false

namespace Sys2Proof.Machine

variable {s t u : State} {L : Set Nat} {c k n p inst : Nat} {f : Fld}

/-! ### The other lanes of a tile -/

/-- The lanes of a tile. -/
def tileSet (inst : Nat) : Set Nat := {j | j / 8 = inst}

/-- The lanes beside lane `c` in its tile. -/
def mates (c : Nat) : Set Nat := {j | j / 8 = c / 8 ∧ j ≠ c}

theorem mem_tileSet (hk : k < 8) : inst * 8 + k ∈ tileSet inst := by
  show (inst * 8 + k) / 8 = inst
  omega

theorem mem_mates {j : Nat} (hk : k < 8) (hj : j < 8) (h : j ≠ k) : inst * 8 + j ∈ mates (inst * 8 + k) := by
  constructor
  · omega
  · omega

theorem not_mem_mates (c : Nat) : c ∉ mates c := fun h => h.2 rfl

theorem LanesKept.get_mates (h : LanesKept (mates c) s t) (hf : LaneFld f) : t.get (flBase c) f = s.get (flBase c) f :=
  h.get_other (not_mem_mates c) (fun _ hj => hj.1) hf

theorem LanesKept.fl_mates (h : LanesKept (mates c) s t) : t.fl c = s.fl c := h.others c (not_mem_mates c)

/-- The positions and last words of the inputs stand. -/
theorem LanesKept.inputs (h : LanesKept L s t) : t.waves.pos = s.waves.pos ∧ t.waves.words = s.waves.words := by
  obtain ⟨l, w, rfl⟩ := h.shape
  exact ⟨rfl, rfl⟩

theorem LanesKept.srcWaits_mates (h : LanesKept (mates c) s t) : t.srcWaits c = s.srcWaits c := by
  rw [State.srcWaits, State.srcWaits, h.fl_mates, h.get_mates (by decide)]

theorem LanesKept.flInput_mates (h : LanesKept (mates c) s t) : t.flInput c = s.flInput c := by
  rw [State.flInput, State.flInput, h.fl_mates]

theorem LanesKept.flEn_mates (h : LanesKept (mates c) s t) : t.flEn c = s.flEn c := by
  have en : t.flag (flBase c) Rg.FL_CTRL.EN = s.flag (flBase c) Rg.FL_CTRL.EN := by
    rw [State.flag, State.flag, h.get_mates (by decide)]
  have on : t.chanOn .filt c = s.chanOn .filt c := by
    obtain ⟨l, w, rfl⟩ := h.shape
    rfl
  rw [State.flEn, State.flEn, en, on]

theorem LanesKept.flR_mates (h : LanesKept (mates c) s t) : t.flR c = s.flR c := h.get_mates (by decide)

theorem LanesKept.fastEn_mates (h : LanesKept (mates c) s t) :
    t.flag (flBase c) Rg.FL_CFG.FAST_EN = s.flag (flBase c) Rg.FL_CFG.FAST_EN := congrArg (· == 1) (h.get_mates (by decide))

/-! ### A word of a bit stream (R257) -/

/-- The lanes of a tile that wait at a fine-grid instant take their new source. -/
def State.tileSources (s : State) (inst : Nat) : State := (List.range 8).foldl (fun u k => u.srcApply (inst * 8 + k)) s

/-- Lane `c` takes its input's word where it is enabled and input `n` is its own. -/
def State.feedFrom (s : State) (n c : Nat) : State := if s.flEn c ∧ s.flInput c = n then s.feedLane c else s

/-- The lanes in `l` of a tile take the word of input `n`. -/
def State.tileFed (s : State) (inst n : Nat) (l : List Nat) : State := l.foldl (fun u k => u.feedFrom n (inst * 8 + k)) s

theorem LanesKept.feedFrom (h : LanesKept L s t) (hc : c ∈ L) (n : Nat) : LanesKept L s (t.feedFrom n c) := .ite (h.feedLane hc) h

/-- A lane with no new SRC waiting is left alone while the others of its tile take theirs. -/
theorem LanesKept.tileSources_mates (hk : k < 8) (hs : s.srcWaits (inst * 8 + k) = false) :
    LanesKept (mates (inst * 8 + k)) s (s.tileSources inst) := by
  refine List.foldlRecOn (motive := LanesKept (mates (inst * 8 + k)) s) (List.range 8) _ (.refl _ _) fun u kept j hj => ?_
  by_cases own : j = k
  · rw [own, State.srcApply_of_same (kept.srcWaits_mates.trans hs)]
    exact kept
  · exact kept.srcApply (mem_mates hk (List.mem_range.1 hj) own)

theorem LanesKept.tileSources (s : State) (inst : Nat) : LanesKept (tileSet inst) s (s.tileSources inst) :=
  List.foldlRecOn (motive := LanesKept (tileSet inst) s) (List.range 8) _ (.refl _ _) fun _ kept _ hj =>
    kept.srcApply (mem_tileSet (List.mem_range.1 hj))

theorem LanesKept.tileFed (s : State) (inst n : Nat) {l : List Nat} (hl : l ⊆ List.range 8) :
    LanesKept (tileSet inst) s (s.tileFed inst n l) :=
  List.foldlRecOn (motive := LanesKept (tileSet inst) s) l _ (.refl _ _) fun _ kept _ hj =>
    kept.feedFrom (mem_tileSet (List.mem_range.1 (hl hj))) n

theorem LanesKept.tileFed_mates (s : State) (n : Nat) {l : List Nat} (hl : l ⊆ List.range 8) (hk : k < 8) (hn : k ∉ l) :
    LanesKept (mates (inst * 8 + k)) s (s.tileFed inst n l) :=
  List.foldlRecOn (motive := LanesKept (mates (inst * 8 + k)) s) l _ (.refl _ _) fun _ kept _ hj =>
    kept.feedFrom (mem_mates hk (List.mem_range.1 (hl hj)) (ne_of_mem_of_not_mem hj hn)) n

/-- Of the lanes of a tile an enabled one that takes input `n` is fed from what it holds: the lanes before and after it do not
touch it. -/
theorem State.fl_tileFed (hk : k < 8) (he : s.flEn (inst * 8 + k) = true) (hi : s.flInput (inst * 8 + k) = n) : ∃ u,
    LanesKept (mates (inst * 8 + k)) s u ∧
      (s.tileFed inst n (List.range 8)).fl (inst * 8 + k) = (u.feedLane (inst * 8 + k)).fl (inst * 8 + k) := by
  obtain ⟨before, after, split⟩ := List.append_of_mem (List.mem_range.2 hk)
  have once : (before ++ k :: after).Nodup := split ▸ List.nodup_range
  obtain ⟨-, tail, apart⟩ := List.nodup_append.1 once
  have notBefore : k ∉ before := fun h => apart k h k List.mem_cons_self rfl
  have notAfter : k ∉ after := (List.nodup_cons.1 tail).1
  have beforeIn : before ⊆ List.range 8 := split ▸ List.subset_append_left _ _
  have afterIn : after ⊆ List.range 8 := split ▸ fun _ h => List.mem_append_right _ (List.mem_cons_of_mem _ h)
  have kept := LanesKept.tileFed_mates (inst := inst) s n beforeIn hk notBefore
  refine ⟨_, kept, ?_⟩
  have fed : (s.tileFed inst n before).feedFrom n (inst * 8 + k) = (s.tileFed inst n before).feedLane (inst * 8 + k) :=
    if_pos ⟨kept.flEn_mates.trans he, kept.flInput_mates.trans hi⟩
  have whole : s.tileFed inst n (List.range 8) = ((s.tileFed inst n before).feedLane (inst * 8 + k)).tileFed inst n after := by
    rw [split, State.tileFed, List.foldl_append, List.foldl_cons, ← fed]
    rfl
  rw [whole]
  exact (LanesKept.tileFed_mates _ n afterIn hk notAfter).fl_mates

/-- The word of input `n` noted: its position is 64 bits on. -/
def State.wordNoted (s : State) (n p w : Nat) : State :=
  { s with waves := { s.waves with pos := listSet s.waves.pos n (p + 64), words := listSet s.waves.words n w } }

/-- What a word `w` of input `n` at edge `p` leaves of a tile: new sources first, then the lanes of the input. -/
def State.wordTaken (s : State) (inst n p w : Nat) : State := ((s.tileSources inst).wordNoted n p w).tileFed inst n (List.range 8)

theorem flPos_tile (inst : Nat) : flPos (inst * 8) = (tilePositions .filt).getD inst 99 := by
  rw [flPos, chanPos, tileLanes, Nat.mul_div_cancel _ (by decide)]

theorem execBitstreamItem_eq {id : Nat} {q : QPkt} (hi : inst < 8)
    (hr : s.rx.find? (fun x => (s.link x.1).any (fun l => l.rc.dst == flPos (inst * 8) && l.rc.src == 96 && l.rc.port == 0)) = some (id, q))
    (hn : n = inst * 8 + pktLane q.lw % 8) (hp : s.waves.pos[n]? = some p) :
    exec (.bitstreamItem inst) s = .next (State.wordTaken { s with rx := s.rx.erase (id, q) } inst n p (q.data.headD 0)) := by
  have pos : (State.tileSources { s with rx := s.rx.erase (id, q) } inst).waves.pos.getD n 0 = p := by
    rw [(LanesKept.tileSources _ _).inputs.1, List.getD_eq_getElem?_getD, hp]
    rfl
  rw [flPos_tile] at hr
  show execBitstreamItem inst s = _
  rw [execBitstreamItem, hr]
  dsimp only
  rw [if_pos hi, ← hn]
  change Host.Outcome.next ((State.wordNoted _ n ((State.tileSources _ inst).waves.pos.getD n 0) _).tileFed inst n (List.range 8)) = _
  rw [pos]
  rfl

/-- An enabled lane that stands at the position of its input, with no new SRC waiting, takes the whole word. -/
theorem State.fl_wordFed {w : Nat} (hk : k < 8) (hp : n < s.waves.pos.length) (hw : n < s.waves.words.length)
    (hnext : (s.fl (inst * 8 + k)).next = p) (he : s.flEn (inst * 8 + k) = true) (hi : s.flInput (inst * 8 + k) = n)
    (hs : s.srcWaits (inst * 8 + k) = false) :
    ((s.wordNoted n p w).tileFed inst n (List.range 8)).fl (inst * 8 + k) = feedBits (s.flR (inst * 8 + k)) w p
      (s.flag (flBase (inst * 8 + k)) Rg.FL_CFG.FAST_EN) 64 0 { s.fl (inst * 8 + k) with next := p + 64 } := by
  obtain ⟨u, kept, fed⟩ := State.fl_tileFed (s := s.wordNoted n p w) hk he hi
  have lane : u.fl (inst * 8 + k) = s.fl (inst * 8 + k) := kept.fl_mates
  have input : u.flInput (inst * 8 + k) = n := kept.flInput_mates.trans hi
  have pos : u.waves.pos.getD (u.flInput (inst * 8 + k)) 0 = (u.fl (inst * 8 + k)).next + 64 := by
    rw [input, lane, hnext, kept.inputs.1]
    exact listSet_getD_same _ _ _ _ hp
  have word : u.waves.words.getD (u.flInput (inst * 8 + k)) 0 = w := by
    rw [input, kept.inputs.2]
    exact listSet_getD_same _ _ _ _ hw
  rw [fed, State.fl_feedLane_word pos word (kept.srcWaits_mates.trans hs), lane, hnext, kept.flR_mates, kept.fastEn_mates]
  rfl

theorem State.fl_wordTaken {w : Nat} (hk : k < 8) (hp : n < s.waves.pos.length) (hw : n < s.waves.words.length)
    (hnext : (s.fl (inst * 8 + k)).next = p) (he : s.flEn (inst * 8 + k) = true) (hi : s.flInput (inst * 8 + k) = n)
    (hs : s.srcWaits (inst * 8 + k) = false) :
    (s.wordTaken inst n p w).fl (inst * 8 + k) = feedBits (s.flR (inst * 8 + k)) w p
      (s.flag (flBase (inst * 8 + k)) Rg.FL_CFG.FAST_EN) 64 0 { s.fl (inst * 8 + k) with next := p + 64 } := by
  have kept := LanesKept.tileSources_mates hk hs
  have fed := State.fl_wordFed (w := w) hk (kept.inputs.1 ▸ hp) (kept.inputs.2 ▸ hw) (kept.fl_mates ▸ hnext) (kept.flEn_mates.trans he)
    (kept.flInput_mates.trans hi) (kept.srcWaits_mates.trans hs)
  rw [State.wordTaken, fed, kept.fl_mates, kept.flR_mates, kept.fastEn_mates]

theorem State.inputs_wordTaken (s : State) (inst n p w : Nat) : (s.wordTaken inst n p w).waves.pos = listSet s.waves.pos n (p + 64) ∧
    (s.wordTaken inst n p w).waves.words = listSet s.waves.words n w := by
  obtain ⟨pos, words⟩ := (LanesKept.tileSources s inst).inputs
  obtain ⟨pos', words'⟩ := (LanesKept.tileFed ((s.tileSources inst).wordNoted n p w) inst n (List.Subset.refl _)).inputs
  rw [State.wordTaken, pos', words', ← pos, ← words]
  exact ⟨rfl, rfl⟩

/-- A word of an input changes nothing but lanes and inputs, and writes registers of the tile alone. -/
theorem Frame.wordTaken (s : State) (hi : inst < 8) (r : List (Nat × QPkt)) (n p w : Nat) :
    Frame [wTile (flPos (inst * 8))] s (State.wordTaken { s with rx := r } inst n p w)
      { s with cells := (State.wordTaken { s with rx := r } inst n p w).cells,
               waves := (State.wordTaken { s with rx := r } inst n p w).waves, rx := r } := by
  obtain ⟨v, hv⟩ : ∃ v, v = State.tileSources { s with rx := r } inst := ⟨_, rfl⟩
  have sources : LanesKept (tileSet inst) { s with rx := r } v := hv ▸ LanesKept.tileSources _ _
  have fed := LanesKept.tileFed (v.wordNoted n p w) inst n (List.Subset.refl _)
  have tile : ∀ j ∈ tileSet inst, j / 8 = inst * 8 / 8 := fun j hj => hj.trans (Nat.mul_div_cancel _ (by decide)).symm
  have before : RegsKept [wTile (flPos (inst * 8))] s v := sources.tile (by omega) tile
  have noted : RegsKept [wTile (flPos (inst * 8))] s (v.wordNoted n p w) := before.cells rfl
  have regs := noted.trans (fed.tile (by omega) tile)
  obtain ⟨l, x, hx⟩ := sources.shape
  obtain ⟨l', x', hx'⟩ := fed.shape
  have whole : State.wordTaken { s with rx := r } inst n p w = (v.wordNoted n p w).tileFed inst n (List.range 8) := by
    rw [hv]
    rfl
  rw [whole]
  refine ⟨?_, .of_mem ?_, regs⟩
  · rw [hx', hx]
    rfl
  · rw [hx', hx]
    rfl

/-! ### Samples (R268–R275) -/

/-- A sample of state `t` is told to the loops or not. -/
inductive LoopsTold (t : State) : State → Prop
  | none : LoopsTold t t
  | sample (code idx : Nat) (v : Int) : LoopsTold t (t.sample code idx v)

theorem LoopsTold.get (h : LoopsTold t u) (hc : c < 64) (hf : LaneFld f) : u.get (flBase c) f = t.get (flBase c) f := by
  cases h with
  | none => rfl
  | sample code idx v => exact t.get_sample_lane code idx v hc hf

theorem LoopsTold.fl (h : LoopsTold t u) (c : Nat) : u.fl c = t.fl c := by
  cases h with
  | none => rfl
  | sample code idx v => exact t.fl_sample code idx c v

theorem LoopsTold.shape (h : LoopsTold t u) : ∃ l k m, u = { t with cells := l, loops := k, samples := m } := by
  cases h with
  | none => exact ⟨_, _, _, rfl⟩
  | sample code idx v => exact t.sample_eq code idx v

theorem LoopsTold.regs (h : LoopsTold t u) : RegsKept [wTiles] t u := by
  cases h with
  | none => exact .refl _ _
  | sample code idx v => exact (RegsKept.refl _ t).sample (List.mem_singleton_self _) code idx v

/-- The frame of a sample: its lane, the items it sends, and the loops that take it. -/
theorem LoopsTold.frame (h : LoopsTold t u) (chain : ChainKept c s t) : Frame [wTiles] s u
    { s with cells := u.cells, waves := u.waves, links := u.links, loops := u.loops, samples := u.samples, toggles := u.toggles } := by
  have lane : RegsKept [wTiles] s t := chain.regs.widen fun v hv => by
    rw [List.mem_singleton.1 hv]
    exact ⟨_, List.mem_singleton_self _, wLane_in_tiles c⟩
  have regs := lane.trans h.regs
  obtain ⟨l, w, g, ls, rfl⟩ := chain.shape
  obtain ⟨l', k, m, rfl⟩ := h.shape
  exact ⟨rfl, .of_mem rfl, regs⟩

/-- The lane with the record `a` that a sample's filters leave, its saturations counted. -/
def State.filtered (s : State) (c n : Nat) (a : FiltLane) : State := (s.setFl c a).count (flBase c) Rg.FL_CNT.SAT n

theorem ChainKept.filtered (s : State) (c n : Nat) (a : FiltLane) : ChainKept c s (s.filtered c n a) :=
  ((ChainKept.refl c s).setFl a).set _ (by decide)

/-- A sample of a lane: its value in FL_LAST, the outputs of the CIC that its filters left, and its frame. -/
theorem LoopsTold.shows {a : FiltLane} {fast ok sat fade : Bool} {ts : Nat} {y : Int} (hc : c < 64)
    (h : LoopsTold ((s.filtered c n a).sampleOut c fast ok sat fade ts y) u) :
    u.get (flBase c) (lastFld fast) = pat 32 y ∧ (u.fl c).fine.q = a.fine.q ∧ (u.fl c).fast.q = a.fast.q ∧ Frame [wTiles] s u
      { s with cells := u.cells, waves := u.waves, links := u.links, loops := u.loops, samples := u.samples, toggles := u.toggles } := by
  obtain ⟨chain, value, fine, fastq⟩ := (s.filtered c n a).sampleOut_shows c fast ok sat fade ts y
  have field : LaneFld (lastFld fast) := by
    cases fast with
    | false => decide
    | true => decide
  have record : (s.filtered c n a).fl c = a := State.fl_setFl_same s c a
  rw [record] at fine fastq
  exact ⟨(h.get hc field).trans value, (congrArg (·.fine.q) (h.fl c)).trans fine, (congrArg (·.fast.q) (h.fl c)).trans fastq,
    h.frame ((ChainKept.filtered s c n a).trans chain)⟩

theorem LoopsTold.fineIf (t : State) (c : Nat) (ok : Bool) (y : Int) : LoopsTold t (if ok then t.fineSample c y else t) := by
  split
  · exact .sample 3 c _
  · exact .none

/-- A fine sample without a fade is the value of the active bank (R268, R275); a settled one is told to the loops. -/
theorem execFineSample_eq {z : FineRun} {ed : Nat} (he : s.flEn c = true)
    (hz : fineTake (s.flR c) (s.flM c) (s.flH1 c) (s.flH2 c) (s.fl c).fine.q ⟨s.fl c, false, 0⟩ = some (z, ed))
    (hf : (s.fl c).fade = none) : ∃ n ok sat ts u, exec (.fineSample c) s = .next u ∧
      LoopsTold ((s.filtered c n { z.a with fade := none }).sampleOut c false ok sat false ts (s.firOut c (s.flActive c) z.a.fir).1) u := by
  have value : s.fineValue c z.a.fir =
      ((s.firOut c (s.flActive c) z.a.fir).1, (s.firOut c (s.flActive c) z.a.fir).2, false, none) := by
    rw [State.fineValue, hf]
  show ∃ n ok sat ts u, execFineSample c s = _ ∧ _
  simp only [execFineSample, he, hz, value, Bool.not_true, Bool.false_eq_true, if_false]
  exact ⟨_, _, _, _, _, rfl, .fineIf _ _ _ _⟩

/-- A fast sample is the mean of the last sixteen outputs of the CIC, told to the loops (R270). -/
theorem execFastSample_eq {a : FiltLane} {ed : Nat} {sat : Bool} (he : s.flEn c = true)
    (ha : fastTake (s.flR c * s.flFastDec c) (s.fl c).fast.q (s.fl c) false = some (a, ed, sat)) : ∃ n ok sat' ts u,
      exec (.fastSample c) s = .next u ∧
      LoopsTold ((s.filtered c n a).sampleOut c true ok sat' false ts (fastOut a.fastH).1) u := by
  show ∃ n ok sat' ts u, execFastSample c s = _ ∧ _
  simp only [execFastSample, he, ha, Bool.not_true, Bool.false_eq_true, if_false]
  exact ⟨_, _, _, _, _, rfl, .sample _ _ _⟩

end Sys2Proof.Machine

open Sys2Proof Sys2Proof.Machine

/-- Settles O33: the lanes of a tile do not touch each other, so that one that takes an input holds what its CIC makes of the word; a
sample's value stands in FL_LAST whatever follows it. -/
theorem samplesAreComputed : Obligations.SamplesAreComputed := by
  unfold Obligations.SamplesAreComputed
  refine ⟨fun inst id k n p q s ⟨hi, hk, hr⟩ ⟨hn, hp, hw, hnext⟩ ⟨he, hin, hs⟩ => ?word, fun c ed z s ⟨hc, he, hz, hf⟩ => ?fine,
    fun c ed a sat s ⟨hc, he, ha⟩ => ?fast⟩
  case word =>
    obtain ⟨inPos, -⟩ := List.getElem?_eq_some_iff.1 hp
    obtain ⟨pos, words⟩ := State.inputs_wordTaken { s with rx := s.rx.erase (id, q) } inst n p (q.data.headD 0)
    exact ⟨_, execBitstreamItem_eq hi hr hn hp, State.fl_wordTaken hk inPos hw hnext he hin hs, pos, words, Frame.wordTaken s hi _ n p _⟩
  case fine =>
    obtain ⟨n, ok, sat, ts, u, ran, told⟩ := execFineSample_eq he hz hf
    obtain ⟨value, fine, -, frame⟩ := told.shows hc
    exact ⟨u, ran, value, fine, frame⟩
  case fast =>
    obtain ⟨n, ok, sat', ts, u, ran, told⟩ := execFastSample_eq he ha
    obtain ⟨value, -, fast, frame⟩ := told.shows hc
    exact ⟨u, ran, value, fast, frame⟩

end

section
/-! SUPPORT. The lanes of the PHS tiles: their records and register blocks, the input rate, and what an estimate notes (R288–R296). -/

set_option Elab.async false

namespace Sys2Proof.Machine

variable {s t u : State} {ws : List (Nat × Nat)} {c j : Nat} {f g : Fld}

/-! ### A lane's record -/

@[simp] theorem State.ph_setPh_same (s : State) (c : Nat) (a : PhsLane) : (s.setPh c a).ph c = a :=
  (lookupD_assocSet _ _ _ _ _).trans (if_pos rfl)

/-- A lane's record put in its own place changes no lane. -/
theorem State.ph_reput (s : State) (c p : Nat) : (s.setPh c (s.ph c)).ph p = s.ph p := by
  refine (lookupD_assocSet _ _ _ _ _).trans ?_
  split
  · next same => rw [same]
  · rfl

theorem State.ph_congr (h : t.phs = s.phs) (c : Nat) : t.ph c = s.ph c := by
  unfold State.ph
  rw [h]

@[simp] theorem State.ph_sets (s : State) (b c : Nat) (l : List (Fld × Nat)) : (s.sets b l).ph c = s.ph c :=
  State.ph_congr (State.sets_phs _ _ _) c

/-! ### A lane's register block -/

theorem phBase_eq (hc : c < 64) : phBase c = tileBase (phPos c) + c % 16 * 0x80 := by
  have hi : c / 16 < (tilePositions .phs).length := by
    show c / 16 < 4
    omega
  simp only [phBase, phPos, laneBase, chanPos, kindBase, tileLanes, List.getD_eq_getElem _ _ hi]

theorem phPos_of_tile (h : j / 16 = c / 16) : phPos j = phPos c := by
  simp only [phPos, chanPos, tileLanes, h]

/-- The registers of a lane lie in the window of its tile. -/
theorem phBase_within (hw : wTile (phPos c) ∈ ws) (hj : j < 64) (h : j / 16 = c / 16) : Within ws (phBase j) 0x1080 := by
  have base := phBase_eq hj
  have range := kindBase_range .phs (j / 16)
  have lane : phBase j = kindBase .phs (j / 16) + j % 16 * 0x80 := rfl
  rw [← phPos_of_tile h] at hw
  refine ⟨_, hw, fun off ho => ?_⟩
  simp only [wTile]
  omega

theorem phLane_within (hc : c < 64) : Within [wTile (phPos c)] (phBase c) 0x1080 :=
  phBase_within (List.mem_singleton_self _) hc rfl

/-! ### The input rate (R288) -/

/-- The measured rate rests on the fine samples, when the last came, the time, and F0. -/
theorem State.phMeasured_congr (ht : t.time = s.time) (hf : (t.ph c).fine = (s.ph c).fine) (hh : (t.ph c).heard = (s.ph c).heard)
    (h0 : t.get (phBase c) Rg.PH_CFG.F0 = s.get (phBase c) Rg.PH_CFG.F0) : t.phMeasured c = s.phMeasured c := by
  have now : t.nowNs = s.nowNs := by rw [State.nowNs, ht, State.nowNs]
  have nominal : t.phF0 c = s.phF0 c := by rw [State.phF0, State.flag, h0, State.phF0, State.flag]
  unfold State.phMeasured
  dsimp only
  rw [hf, hh, now, nominal]

/-- Outside a measured rate beyond the range the rate is shown and nothing else happens. -/
theorem State.phRate_eq_phShow (h : ∀ n, s.phMeasured c = some n → 32 ≤ n ∧ n ≤ 2000) : s.phRate c = s.phShow c := by
  unfold State.phRate
  extract_lets t
  split
  · rfl
  · next n measured => exact if_pos (h n measured)

theorem State.phRate_of_ok (h : s.phRateOk c = true) : s.phRate c = s.phShow c := by
  refine State.phRate_eq_phShow fun n measured => ?_
  simpa [State.phRateOk, measured] using h

theorem State.phMeasured_phShow (s : State) (c : Nat) : (s.phShow c).phMeasured c = s.phMeasured c :=
  State.phMeasured_congr (State.sets_time _ _ _) (by rw [State.phShow, State.ph_sets]) (by rw [State.phShow, State.ph_sets])
    (State.get_sets_none rfl rfl)

theorem RegsKept.phShow (hk : RegsKept ws s t) (hb : Within ws (phBase c) 0x1080) : RegsKept ws s (t.phShow c) :=
  hk.setsIn hb rfl

/-- Showing the rate does not change it. -/
theorem State.phMeasured_phRate (s : State) (c : Nat) : (s.phRate c).phMeasured c = s.phMeasured c := by
  unfold State.phRate
  extract_lets t
  have shown : t.phMeasured c = s.phMeasured c := s.phMeasured_phShow c
  split
  · exact shown
  · split
    · exact shown
    · refine (State.phMeasured_congr (s := t) ?_ ?_ ?_ ?_).trans shown
      · exact State.event_time _ _ _ _
      · rw [State.ph_setPh_same]
      · rw [State.ph_setPh_same]
      · exact State.get_event_off _ _ _ _ _ (by decide)

theorem State.phRateOk_phRate (s : State) (c : Nat) : (s.phRate c).phRateOk c = s.phRateOk c := by
  rw [State.phRateOk, State.phMeasured_phRate]
  rfl

/-- A lane whose rate is in the range shows so. -/
theorem State.get_phRate_ok (h : (s.phRate c).phRateOk c = true) : (s.phRate c).get (phBase c) Rg.PH_STAT.IN_RATE_OK = 1 := by
  rw [State.phRateOk_phRate] at h
  rw [State.phRate_of_ok h, State.phShow, h]
  exact State.get_sets_last (v := 1) rfl rfl

/-! ### What an estimate notes and sends (R293, R296) -/

/-- The fields of a lane that are written once an estimate's values are shown. -/
def noteFlds : List Fld := [Rg.PH_EVT.FRANGE, Rg.PH_CNT.GAP, Rg.PH_EVT.GAP, Rg.PH_CNT.OUT_DROP, Rg.PH_EVT.OUT_DROP]

/-- What follows an estimate's values in lane `c`: marks and drops shown, and an item on its links. -/
structure NotedKept (c : Nat) (s t : State) : Prop where
  shape : ∃ l g k, t = { s with cells := l, toggles := g, links := k }
  regs : ∀ ws, Within ws (phBase c) 0x1080 → RegsKept ws s t
  own : ∀ f, (∀ g ∈ noteFlds, f.off * 64 + f.lo ≠ g.off * 64 + g.lo) → t.get (phBase c) f = s.get (phBase c) f

theorem NotedKept.refl (c : Nat) (s : State) : NotedKept c s s := ⟨⟨_, _, _, rfl⟩, fun _ _ => .refl _ _, fun _ _ => rfl⟩

theorem NotedKept.trans (h : NotedKept c s t) (g : NotedKept c t u) : NotedKept c s u := by
  refine ⟨?_, fun ws hw => (h.regs ws hw).trans (g.regs ws hw), fun f hf => (g.own f hf).trans (h.own f hf)⟩
  obtain ⟨l, g₁, k, rfl⟩ := h.shape
  obtain ⟨l', g₂, k', rfl⟩ := g.shape
  exact ⟨l', g₂, k', rfl⟩

theorem NotedKept.ite {p : Prop} {_ : Decidable p} (ht : NotedKept c s t) (hu : NotedKept c s u) :
    NotedKept c s (if p then t else u) := by
  split
  · exact ht
  · exact hu

theorem noteFlds_lane : ∀ g ∈ noteFlds, g.off < 0x1080 ∧ g.lo < 64 := by decide

theorem NotedKept.event (h : NotedKept c s t) (hg : g ∈ noteFlds) : NotedKept c s (t.phEvent c g) := by
  obtain ⟨ho, hl⟩ := noteFlds_lane g hg
  obtain ⟨l, k, shown⟩ := (RegShape.refl t).event (tileEv (phPos c)) (phBase c) g
  exact h.trans ⟨⟨l, k, _, shown⟩, fun ws hw => (RegsKept.refl ws t).eventIn hw _ ho hl,
    fun f hf => State.get_event_off _ _ _ _ _ (hf g hg)⟩

theorem NotedKept.count (h : NotedKept c s t) (hg : g ∈ noteFlds) (n : Nat) : NotedKept c s (t.count (phBase c) g n) := by
  obtain ⟨ho, hl⟩ := noteFlds_lane g hg
  exact h.trans ⟨⟨_, _, _, rfl⟩, fun ws hw => (RegsKept.refl ws t).setIn hw _ ho hl,
    fun f hf => State.get_set_off _ _ _ _ _ (hf g hg)⟩

theorem NotedKept.phNote (h : NotedKept c s t) (frange gap : Bool) : NotedKept c s (t.phNote c frange gap) := by
  unfold State.phNote
  extract_lets u
  have ranged : NotedKept c s u := .ite (h.event (by decide)) h
  exact .ite ((ranged.count (by decide) 1).event (by decide)) ranged

theorem NotedKept.phSend (h : NotedKept c s t) (mask typ : Nat) (data : List Nat) : NotedKept c s (t.phSend c mask typ data) := by
  obtain ⟨ls, sent⟩ := t.sendMask_links (phPos c) mask typ data
  unfold State.phSend
  extract_lets r
  have kept : NotedKept c s r.1 := by
    rw [show r.1 = _ from sent]
    exact h.trans ⟨⟨_, _, _, rfl⟩, fun _ _ => .of_cells rfl, fun _ _ => rfl⟩
  exact .ite kept ((kept.count (by decide) _).event (by decide))

theorem NotedKept.ph (h : NotedKept c s t) (j : Nat) : t.ph j = s.ph j := by
  obtain ⟨l, g, k, rfl⟩ := h.shape
  rfl

end Sys2Proof.Machine
end

section
/-! PROOF. Phasor channels: enable, reporting estimates and fast estimates (R288–R296). -/

set_option Elab.async false

namespace Sys2Proof.Machine

variable {s t u : State} {c k n tk hw g : Nat} {f : Fld} {m : Master} {x : PhsSample} {l : List PhsSample}

/-! ### Enable (R288, R289, R291) -/

/-- An accepted enable of a sequence lane leaves room for its two partners in the tile. -/
theorem State.phSeq_room (hr : s.phRefusal c = 0) (hs : s.flag (phBase c) Rg.PH_CFG.SEQ = true) : c % 16 ≤ 13 := by
  have ok : s.phSeqOk c = true := by
    unfold State.phRefusal at hr
    split_ifs at hr with _ _ bad
    simpa [hs] using bad
  simp only [State.phSeqOk, Bool.and_eq_true, decide_eq_true_eq] at ok
  exact ok.1

/-- EN and RUN shown on a lane, and its partners marked. -/
def State.phStarted (s : State) (c : Nat) : State :=
  (s.sets (phBase c) [(Rg.PH_CTRL.EN, 1), (Rg.PH_STAT.RUN, 1), (Rg.PH_STAT.REFUSE, 0)]).phMembers c 1

/-- The record of a lane that starts now: its next instants are those of its grids. -/
def State.phFirst (s : State) (c : Nat) : PhsLane :=
  { PhsLane.off with nxt := s.gridAfter (s.phFs c) s.nowNs, fnxt := s.gridAfter (8 * s.phF0 c) s.nowNs, heard := s.nowNs }

/-- A lane that has just been enabled, without samples, measures no rate. -/
theorem State.phMeasured_of_empty (hf : (s.ph c).fine = []) (hh : (s.ph c).heard = s.nowNs) : s.phMeasured c = none := by
  unfold State.phMeasured
  dsimp only
  rw [hf, hh, Nat.sub_self, zero_mul]
  rfl

/-- Before samples have come a lane that has just been enabled shows no rate. -/
theorem State.phEnable_eq (he : s.flag (phBase c) Rg.PH_CTRL.EN = false) (hr : s.phRefusal c = 0) :
    s.phEnable c = ((s.phStarted c).setPh c ((s.phStarted c).phFirst c)).phShow c := by
  rw [State.phEnable, he, hr]
  refine State.phRate_eq_phShow fun n measured => ?_
  rw [State.phMeasured_of_empty] at measured
  · cases measured
  · rw [State.ph_setPh_same]
    rfl
  · rw [State.ph_setPh_same]
    rfl

theorem State.phMembers_cells (s : State) (c v : Nat) : ∃ l, s.phMembers c v = { s with cells := l } := by
  unfold State.phMembers
  split
  · exact ⟨_, rfl⟩
  · exact ⟨_, rfl⟩

theorem State.phStarted_cells (s : State) (c : Nat) : ∃ l, s.phStarted c = { s with cells := l } := by
  obtain ⟨l, marked⟩ := (s.sets (phBase c) [(Rg.PH_CTRL.EN, 1), (Rg.PH_STAT.RUN, 1), (Rg.PH_STAT.REFUSE, 0)]).phMembers_cells c 1
  exact ⟨l, marked⟩

/-- The mark of a partner does not lie among the registers of the sequence lane. -/
theorem State.get_phMembers (hs : s.flag (phBase c) Rg.PH_CFG.SEQ = true → c % 16 ≤ 13) (v : Nat) (hf : f.off < 0x1080 ∧ f.lo < 64) :
    (s.phMembers c v).get (phBase c) f = s.get (phBase c) f := by
  unfold State.phMembers
  split
  · next seq =>
    have room := hs seq
    have apart (i : Nat) (hi : 1 ≤ i ∧ i ≤ 2) : fldKey f (phBase c) ≠ fldKey Rg.PH_STAT.SEQ_MEMBER (phBase (c + i)) := by
      have tile : (c + i) / 16 = c / 16 := by omega
      simp only [fldKey, phBase, laneBase, tileLanes, tile, Rg.PH_STAT.SEQ_MEMBER]
      omega
    rw [State.get_set_ne _ _ _ _ _ _ (apart 2 (by decide)), State.get_set_ne _ _ _ _ _ _ (apart 1 (by decide))]
  · rfl

theorem State.get_phStarted (hs : s.flag (phBase c) Rg.PH_CFG.SEQ = true → c % 16 ≤ 13) (hf : f.off < 0x1080 ∧ f.lo < 64) :
    (s.phStarted c).get (phBase c) f =
      (s.sets (phBase c) [(Rg.PH_CTRL.EN, 1), (Rg.PH_STAT.RUN, 1), (Rg.PH_STAT.REFUSE, 0)]).get (phBase c) f := by
  refine State.get_phMembers (fun seq => hs ?_) 1 hf
  rwa [State.flag, State.get_sets_none rfl rfl] at seq

theorem RegsKept.phStarted (s : State) (hc : c < 64) (hs : s.flag (phBase c) Rg.PH_CFG.SEQ = true → c % 16 ≤ 13) :
    RegsKept [wTile (phPos c)] s (s.phStarted c) := by
  have shown := (RegsKept.refl _ s).setsIn (phLane_within hc)
    (l := [(Rg.PH_CTRL.EN, 1), (Rg.PH_STAT.RUN, 1), (Rg.PH_STAT.REFUSE, 0)]) (by decide)
  unfold State.phStarted State.phMembers
  split
  · next seq =>
    have room := hs (by rwa [State.flag, State.get_sets_none rfl rfl] at seq)
    have partner (i : Nat) (hi : 1 ≤ i ∧ i ≤ 2) : Within [wTile (phPos c)] (phBase (c + i)) 0x1080 :=
      phBase_within (List.mem_singleton_self _) (by omega) (by omega)
    exact (shown.setIn (partner 1 (by decide)) 1 (by decide) (by decide)).setIn (partner 2 (by decide)) 1 (by decide) (by decide)
  · exact shown

/-- What an accepted enable leaves and shows. -/
theorem phEnable_shows (hc : c < 64) (he : s.flag (phBase c) Rg.PH_CTRL.EN = false) (hr : s.phRefusal c = 0) :
    ∃ u, s.phEnable c = u ∧
      (u.get (phBase c) Rg.PH_CTRL.EN = 1 ∧ u.get (phBase c) Rg.PH_STAT.RUN = 1 ∧ u.get (phBase c) Rg.PH_STAT.REFUSE = 0) ∧
      u.ph c = s.phFirst c ∧
      Frame [wTile (phPos c)] s u { s with cells := u.cells, phs := u.phs, toggles := u.toggles } := by
  have room := State.phSeq_room hr
  have first : (s.phStarted c).phFirst c = s.phFirst c := by
    have cfg {f : Fld} (hf : f.off < 0x1080 ∧ f.lo < 64)
        (off : ∀ g ∈ [Rg.PH_CTRL.EN, Rg.PH_STAT.RUN, Rg.PH_STAT.REFUSE], f.off * 64 + f.lo ≠ g.off * 64 + g.lo) :
        (s.phStarted c).get (phBase c) f = s.get (phBase c) f := (State.get_phStarted room hf).trans (State.get_sets_off off)
    have fs : (s.phStarted c).phFs c = s.phFs c := cfg (by decide) (by decide)
    have f0 : (s.phStarted c).phF0 c = s.phF0 c := by rw [State.phF0, State.flag, cfg (by decide) (by decide)]; rfl
    obtain ⟨l, started⟩ := s.phStarted_cells c
    rw [State.phFirst, fs, f0, started]
    rfl
  have shown {f : Fld} (v : Nat) (hf : f.off < 0x1080 ∧ f.lo < 64)
      (off : ∀ g ∈ [Rg.PH_STAT.SPC, Rg.PH_STAT.IN_RATE_OK], f.off * 64 + f.lo ≠ g.off * 64 + g.lo)
      (hv : (s.sets (phBase c) [(Rg.PH_CTRL.EN, 1), (Rg.PH_STAT.RUN, 1), (Rg.PH_STAT.REFUSE, 0)]).get (phBase c) f = v) :
      (((s.phStarted c).setPh c ((s.phStarted c).phFirst c)).phShow c).get (phBase c) f = v :=
    (State.get_sets_off (l := [(Rg.PH_STAT.SPC, _), (Rg.PH_STAT.IN_RATE_OK, _)]) off).trans ((State.get_phStarted room hf).trans hv)
  refine ⟨_, State.phEnable_eq he hr, ⟨shown 1 (by decide) (by decide) (State.get_sets_last (v := 1) rfl rfl),
    shown 1 (by decide) (by decide) (State.get_sets_last (v := 1) rfl rfl), shown 0 (by decide) (by decide) (State.get_sets_last (v := 0) rfl rfl)⟩, ?_, ?_⟩
  · rw [State.phShow, State.ph_sets, State.ph_setPh_same, first]
  · have kept := ((RegsKept.phStarted s hc room).cells (u := (s.phStarted c).setPh c ((s.phStarted c).phFirst c)) rfl).phShow
      (phLane_within hc)
    obtain ⟨l, started⟩ := s.phStarted_cells c
    refine ⟨?_, .of_mem ?_, kept⟩
    · rw [started]
      rfl
    · rw [started]
      rfl

/-! ### The values of an estimate (R289–R292) -/

theorem State.phWin_reput (s : State) (c j : Nat) : (s.setPh j (s.ph j)).phWin c = s.phWin c := by
  funext k fast p
  simp only [State.phWin, State.ph_reput]
  rfl

theorem State.phFiltered_reput (s : State) (c j : Nat) : (s.setPh j (s.ph j)).phFiltered c = s.phFiltered c := by
  funext k fast p
  simp only [State.phFiltered, State.phWin_reput]
  rfl

theorem State.phX_reput (s : State) (c j : Nat) : (s.setPh j (s.ph j)).phX c = s.phX c := by
  funext k fast
  simp only [State.phX, State.phFiltered_reput]
  rfl

theorem State.phRates_reput (s : State) (c j : Nat) : (s.setPh j (s.ph j)).phRates c = s.phRates c := by
  funext k fast
  simp only [State.phRates, State.phWin_reput]
  rfl

/-- The values rest on what the lanes hold, not on how their records are kept. -/
theorem State.phValues_reput (s : State) (c j : Nat) : (s.setPh j (s.ph j)).phValues c = s.phValues c := by
  funext k fast
  simp only [State.phValues, State.phMag, State.phAng, State.phX_reput, State.phRates_reput]
  rfl

/-! ### Reporting estimates (R289, R290) -/

/-- A lane with a new record and the values of an estimate shown. -/
def State.phShown (s : State) (c : Nat) (a : PhsLane) (val frq unset fault range : Nat) : State :=
  (s.setPh c a).sets (phBase c) [(Rg.PH_VAL.W, val), (Rg.PH_FRQ.W, frq), (Rg.PH_STAT.UNSETTLED, unset), (Rg.PH_STAT.FAULT, fault),
    (Rg.PH_STAT.FRANGE, range)]

/-- What an estimate's values leave of the lane, marks and item included. -/
theorem NotedKept.shows {a : PhsLane} {val frq unset fault range : Nat} (h : NotedKept c (s.phShown c a val frq unset fault range) t)
    (hc : c < 64) : t.ph c = a ∧ t.get (phBase c) Rg.PH_VAL.W = val % 2 ^ 64 ∧ t.get (phBase c) Rg.PH_FRQ.W = frq % 2 ^ 64 ∧
      t.get (phBase c) Rg.PH_STAT.IN_RATE_OK = s.get (phBase c) Rg.PH_STAT.IN_RATE_OK ∧
      Frame [wTile (phPos c)] s t { s with cells := t.cells, phs := t.phs, toggles := t.toggles, links := t.links } := by
  refine ⟨?_, (h.own _ (by decide)).trans (State.get_sets_last rfl rfl), (h.own _ (by decide)).trans (State.get_sets_last rfl rfl),
    (h.own _ (by decide)).trans (State.get_sets_none rfl rfl), ?_⟩
  · rw [h.ph, State.phShown, State.ph_sets, State.ph_setPh_same]
  · have shown : RegsKept [wTile (phPos c)] s (s.phShown c a val frq unset fault range) :=
      (RegsKept.of_cells rfl).setsIn (phLane_within hc) rfl
    have regs := shown.trans (h.regs _ (phLane_within hc))
    obtain ⟨l, g, k, rfl⟩ := h.shape
    exact ⟨rfl, .of_mem rfl, regs⟩

theorem State.phEstimate_kept (s : State) (c tk lo hi : Nat) : ∃ unset fault range, NotedKept c
    (s.phShown c { s.ph c with nxt := s.gridAfter (s.phFs c) tk, seq := ((s.ph c).seq + 1) % 2 ^ 32 } (s.phValues c tk false).1
      (s.phValues c tk false).2.1 unset fault range) (s.phEstimate c tk lo hi) := by
  unfold State.phEstimate
  exact ⟨_, _, _, ((NotedKept.refl c _).phNote _ _).phSend _ _ _⟩

/-- With a reporting instant whose window the samples reach, the estimate for it is made. -/
theorem execPhasorEstimate_eq (he : s.phEn c = true) (hu : u = (s.phAbsorb (phPos c)).phRate c) (hr : u.phRateOk c = true)
    (hf : (u.ph c).fine = x :: l) (hs : max x.ts (u.ph c).since + u.phHalf c ≤ (u.ph c).nxt)
    (hcov : (u.phPhases c).all (fun p => covers ((u.ph c).nxt - u.phHalf c) ((u.ph c).nxt + u.phHalf c) (u.ph p).fine) = true) :
    exec (.phasorEstimate c) s =
      .next ((u.setPh c (u.ph c)).phEstimate c (u.ph c).nxt ((u.ph c).nxt - u.phHalf c) ((u.ph c).nxt + u.phHalf c)) := by
  have reached (n : Nat) : u.phSkip c (u.phHalf c) (max x.ts (u.ph c).since) (n + 1) (u.ph c).nxt = (u.ph c).nxt := if_pos hs
  have covered : ((u.setPh c (u.ph c)).phPhases c).all (fun p =>
      covers ((u.ph c).nxt - u.phHalf c) ((u.ph c).nxt + u.phHalf c) ((u.setPh c (u.ph c)).ph p).fine) = true := by
    simp only [State.ph_reput]
    exact hcov
  show execPhasorEstimate c s = _
  unfold execPhasorEstimate
  rw [if_neg (by simp [he]), ← hu]
  dsimp only
  rw [if_neg (by simp [hr])]
  split
  · next none => exact absurd (none.symm.trans hf) (by simp)
  · next y r held =>
    obtain ⟨rfl, -⟩ := List.cons.inj (held.symm.trans hf)
    rw [reached 511]
    exact if_pos covered

/-! ### Fast estimates (R292) -/

/-- A lane with a new record and the values of a fast estimate shown. -/
def State.phFastShown (s : State) (c : Nat) (a : PhsLane) (mag frq : Nat) : State :=
  (s.setPh c a).sets (phBase c) [(Rg.PH_FVAL.MAG, mag), (Rg.PH_FVAL.FREQ, frq)]

theorem NotedKept.shows_fast {a : PhsLane} {mag frq : Nat} (h : NotedKept c (s.phFastShown c a mag frq) t) (hc : c < 64) :
    t.ph c = a ∧ t.get (phBase c) Rg.PH_FVAL.MAG = mag % 2 ^ 32 ∧ t.get (phBase c) Rg.PH_FVAL.FREQ = frq % 2 ^ 32 ∧
      Frame [wTile (phPos c)] s t { s with cells := t.cells, phs := t.phs, toggles := t.toggles, links := t.links } := by
  refine ⟨?_, (h.own _ (by decide)).trans (State.get_sets_last rfl rfl), (h.own _ (by decide)).trans (State.get_sets_last rfl rfl), ?_⟩
  · rw [h.ph, State.phFastShown, State.ph_sets, State.ph_setPh_same]
  · have shown : RegsKept [wTile (phPos c)] s (s.phFastShown c a mag frq) := (RegsKept.of_cells rfl).setsIn (phLane_within hc) rfl
    have regs := shown.trans (h.regs _ (phLane_within hc))
    obtain ⟨l, g, k, rfl⟩ := h.shape
    exact ⟨rfl, .of_mem rfl, regs⟩

theorem State.phFast_kept (s : State) (c g lo : Nat) : NotedKept c
    (s.phFastShown c { s.ph c with fnxt := s.gridAfter (8 * s.phF0 c) g, fseq := ((s.ph c).fseq + 1) % 2 ^ 32 }
      ((s.phValues c g true).1 % 2 ^ 32) (s.phValues c g true).2.1) (s.phFast c g lo) := by
  unfold State.phFast
  exact ((NotedKept.refl c _).phNote _ _).phSend _ _ _

/-- With a fast instant whose cycle the samples reach, the fast estimate for it is made. -/
theorem execFastEstimate_eq (he : s.phEn c = true) (hfe : s.flag (phBase c) Rg.PH_CFG.FAST_EN = true)
    (hu : u = (s.phAbsorb (phPos c)).phRate c) (hr : u.phRateOk c = true)
    (hf : (u.ph c).path (u.flag (phBase c) Rg.PH_CFG.FAST_SRC) = x :: l) (hs : max x.ts (u.ph c).since + u.phCycle c ≤ (u.ph c).fnxt)
    (hcov : (u.phPhases c).all (fun p => covers ((u.ph c).fnxt - u.phCycle c) (u.ph c).fnxt
      ((u.ph p).path (u.flag (phBase c) Rg.PH_CFG.FAST_SRC))) = true) :
    exec (.fastEstimate c) s = .next ((u.setPh c (u.ph c)).phFast c (u.ph c).fnxt ((u.ph c).fnxt - u.phCycle c)) := by
  have reached (n : Nat) : u.phFastSkip c (max x.ts (u.ph c).since) (n + 1) (u.ph c).fnxt = (u.ph c).fnxt := if_pos hs
  have covered : ((u.setPh c (u.ph c)).phPhases c).all (fun p => covers ((u.ph c).fnxt - u.phCycle c) (u.ph c).fnxt
      (((u.setPh c (u.ph c)).ph p).path (u.flag (phBase c) Rg.PH_CFG.FAST_SRC))) = true := by
    simp only [State.ph_reput]
    exact hcov
  show execFastEstimate c s = _
  unfold execFastEstimate
  rw [if_neg (by simp [he, hfe]), ← hu]
  dsimp only
  rw [if_neg (by simp [hr])]
  split
  · next none => exact absurd (none.symm.trans hf) (by simp)
  · next y r held =>
    obtain ⟨rfl, -⟩ := List.cons.inj (held.symm.trans hf)
    rw [reached 511]
    exact if_pos covered

end Sys2Proof.Machine

open Sys2Proof Sys2Proof.Machine

/-- Settles O34: each command through the state that it leaves; an estimate's values rest on what the lanes hold (`phValues_reput`). -/
theorem phasorsAreEstimated : Obligations.PhasorsAreEstimated := by
  unfold Obligations.PhasorsAreEstimated
  refine ⟨fun m c s ⟨hc, hm, hon, he, hr⟩ => ?enable, fun c tk hw x l u s ⟨hc, he, hu, hr, hf⟩ ⟨htk, hhw, hs⟩ hcov => ?estimate,
    fun c g x l u s ⟨hc, he, hfe, hu, hr⟩ ⟨hf, hg, hs⟩ hcov => ?fast⟩
  case enable =>
    obtain ⟨u, started, ⟨en, run, refuse⟩, record, frame⟩ := phEnable_shows hc he hr
    obtain ⟨-, lane⟩ := Bool.and_eq_true_iff.1 hon
    have ran : exec (.phasorEnable m c) s = .next (u.answer .ok 0) :=
      congrArg Host.Outcome.next ((State.tileWrite_ok _ _ _ _ _ _ hm lane).trans (congrArg (State.answer · .ok 0) started))
    exact ⟨_, ran, en, run, refuse, (congrArg PhsLane.nxt record :), (congrArg PhsLane.fnxt record :), (congrArg PhsLane.seq record :),
      frame.answer⟩
  case estimate =>
    subst htk hhw
    obtain ⟨unset, fault, range, kept⟩ := (u.setPh c (u.ph c)).phEstimate_kept c (u.ph c).nxt ((u.ph c).nxt - u.phHalf c)
      ((u.ph c).nxt + u.phHalf c)
    rw [State.phValues_reput, State.ph_reput] at kept
    obtain ⟨record, val, frq, ok, frame⟩ := kept.shows hc
    have rate : u.get (phBase c) Rg.PH_STAT.IN_RATE_OK = 1 := by
      rw [hu] at hr ⊢
      exact State.get_phRate_ok hr
    exact ⟨_, execPhasorEstimate_eq he hu hr hf hs hcov, congrArg PhsLane.seq record, congrArg PhsLane.nxt record, val, frq, ok.trans rate,
      frame⟩
  case fast =>
    subst hg
    have kept := (u.setPh c (u.ph c)).phFast_kept c (u.ph c).fnxt ((u.ph c).fnxt - u.phCycle c)
    rw [State.phValues_reput, State.ph_reput] at kept
    obtain ⟨record, mag, frq, frame⟩ := kept.shows_fast hc
    exact ⟨_, execFastEstimate_eq he hfe hu hr hf hs hcov, congrArg PhsLane.fseq record, congrArg PhsLane.fnxt record, frq,
      mag.trans (Nat.mod_mod _ _), frame⟩

end

section
/-! SUPPORT. Memory: what reads and writes leave of the state, and which register fields a read that returns data writes
(R489–R491). -/

set_option Elab.async false

namespace Sys2Proof.Machine

variable {s t u : State} {b v w : Nat} {f g : Fld}

/-! ### The parts that memory operations change -/

/-- Register fields, memory with its poison and errors, pending toggles and the recorder apart, `t` is `s`. -/
def MemShape (s t : State) : Prop := ∃ c m p x g l, t = { s with cells := c, mem := m, poison := p, flips := x, toggles := g, log := l }

theorem MemShape.refl (s : State) : MemShape s s := ⟨_, _, _, _, _, _, rfl⟩

theorem MemShape.trans (h : MemShape s t) (g : MemShape t u) : MemShape s u := by
  obtain ⟨c, m, p, x, k, l, rfl⟩ := h
  obtain ⟨c', m', p', x', k', l', rfl⟩ := g
  exact ⟨c', m', p', x', k', l', rfl⟩

theorem MemShape.ite {c : Prop} {_ : Decidable c} (ht : MemShape s t) (hu : MemShape s u) : MemShape s (if c then t else u) := by
  split
  · exact ht
  · exact hu

theorem MemShape.ite_fst {α : Type} {c : Prop} {_ : Decidable c} {p q : State × α} (hp : MemShape s p.1) (hq : MemShape s q.1) :
    MemShape s (if c then p else q).1 := by
  split
  · exact hp
  · exact hq

/-- A change of memory, its poison and its errors alone. -/
theorem MemShape.sparse {m : List Host.Cell} {p : List (Nat × Unit)} {x : List (Nat × Nat)} (h : MemShape s t) :
    MemShape s { t with mem := m, poison := p, flips := x } :=
  h.trans ⟨_, _, _, _, _, _, rfl⟩

theorem MemShape.shape (h : MemShape s t) (hu : RegShape t u) : MemShape s u := by
  obtain ⟨c, g, rfl⟩ := hu
  exact h.trans ⟨_, _, _, _, _, _, rfl⟩

theorem MemShape.set (h : MemShape s t) (b : Nat) (f : Fld) (v : Nat) : MemShape s (t.set b f v) := h.shape ((RegShape.refl t).set b f v)

theorem MemShape.sets (h : MemShape s t) (b : Nat) (l : List (Fld × Nat)) : MemShape s (t.sets b l) :=
  h.shape ((RegShape.refl t).sets b l)

theorem MemShape.event (h : MemShape s t) (e b : Nat) (f : Fld) : MemShape s (t.event e b f) := h.shape ((RegShape.refl t).event e b f)

theorem MemShape.record (h : MemShape s t) (code sev source : Nat) (data : List Byte) : MemShape s (t.record code sev source data) := by
  obtain ⟨c, g, l, recorded⟩ := (RecShape.refl t).request ⟨t.now, code, sev, !t.locked, source, 0, data, none⟩
  exact h.trans ⟨_, _, _, _, _, _, recorded⟩

theorem MemShape.memCE (h : MemShape s t) (w : Nat) : MemShape s (t.memCE w) := by
  unfold State.memCE
  extract_lets +onlyGivenNames a noted
  refine MemShape.record ?_ _ _ _ _
  unfold noted
  split
  · exact ((h.set _ _ _).sets _ _).event _ _ _
  · exact ((h.set _ _ _).set _ _ _).event _ _ _

theorem MemShape.memUE (h : MemShape s t) (w : Nat) : MemShape s (t.memUE w) := by
  unfold State.memUE
  extract_lets +onlyGivenNames a noted
  refine MemShape.record ?_ _ _ _ _
  unfold noted
  split
  · exact ((h.set _ _ _).sets _ _).event _ _ _
  · exact ((h.set _ _ _).set _ _ _).event _ _ _

theorem MemShape.readWord (h : MemShape s t) (w : Nat) : MemShape s (t.readWord w).1 := by
  have poisonRead : MemShape s (match regionOf (w * 8) with
      | .ddr _ => t.count bDdr Rg.DDR_ECC.POISON_RD 1
      | _ => t) := by
    split
    · exact h.set _ _ _
    · exact h
  exact .ite_fst (MemShape.memUE h.sparse w) (.ite_fst poisonRead (.ite_fst h (.ite (h.memCE w).sparse (h.memCE w))))

theorem MemShape.inject (h : MemShape s t) (w : Nat) : MemShape s (t.inject w) := by
  unfold State.inject
  refine .ite ?_ h
  extract_lets disarmed flipped
  have hd : MemShape s disarmed := h.set _ _ _
  have hf : MemShape s flipped := .ite hd hd.sparse
  exact .ite hf.sparse hf

theorem MemShape.writeWord (h : MemShape s t) (a : Nat) (l : List Byte) : MemShape s (t.writeWord a l).1 :=
  .ite_fst (MemShape.inject h.sparse _) (.ite_fst (h.readWord _).sparse (h.readWord _))

theorem MemShape.memWriteN (n : Nat) : ∀ (a : Nat) (l : List Byte) {t : State}, MemShape s t → MemShape s (memWriteN n a l t).1 := by
  induction n with
  | zero => exact fun _ _ _ h => h
  | succ n ih =>
    intro a l t h
    cases l with
    | nil => exact h
    | cons b l => exact ih _ _ (h.writeWord a _)

theorem MemShape.memWrite (h : MemShape s t) (a : Nat) (l : List Byte) : MemShape s (t.memWrite a l).1 :=
  MemShape.memWriteN _ _ _ h

theorem MemShape.readWords (n : Nat) : ∀ (w : Nat) {t : State}, MemShape s t → MemShape s (readWords n w t).1 := by
  induction n with
  | zero => exact fun _ _ h => h
  | succ n ih => exact fun w t h => ih _ (h.readWord w)

theorem MemShape.memRead (h : MemShape s t) (a n : Nat) : MemShape s (t.memRead a n).1 := MemShape.readWords _ _ h

theorem MemShape.align (h : MemShape s t) : t.align = s.align := by
  obtain ⟨c, m, p, x, g, l, rfl⟩ := h
  rfl

theorem MemShape.time (h : MemShape s t) : t.time = s.time := by
  obtain ⟨c, m, p, x, g, l, rfl⟩ := h
  rfl

/-! ### Reads that return data (R489) -/

/-- Where a read that returns data may write: a register of the DDR block or the recorder, at the bit where the number of corrected
errors, their last address, or an event of theirs or of a lost record lies. -/
def Corrected (b : Nat) (f : Fld) : Prop :=
  (f.lo ∈ [0, 2, 32, 53]) ∧ ∃ w ∈ [wDdr, wRc], w.1 ≤ (b + f.off) % 2 ^ 48 ∧ (b + f.off) % 2 ^ 48 < w.2

/-- Every field elsewhere reads as before. -/
def ReadKept (s t : State) : Prop := ∀ (b : Nat) (f : Fld), f.lo < 64 → ¬ Corrected b f → t.get b f = s.get b f

theorem ReadKept.refl (s : State) : ReadKept s s := fun _ _ _ _ => rfl

theorem ReadKept.trans (h : ReadKept s t) (g : ReadKept t u) : ReadKept s u := fun b f hl hc => (g b f hl hc).trans (h b f hl hc)

theorem ReadKept.cells (h : ReadKept s t) (e : u.cells = t.cells) : ReadKept s u :=
  h.trans fun b f _ _ => State.get_congr_cells t u e b f

theorem Corrected.lo_lt (h : Corrected b f) : f.lo < 64 := by
  obtain ⟨lo, -⟩ := h
  simp only [List.mem_cons, List.not_mem_nil, or_false] at lo
  omega

theorem ReadKept.set (h : ReadKept s t) (hb : Corrected b f) (v : Nat) : ReadKept s (t.set b f v) := by
  refine h.trans fun c g hl hc => State.get_set_ne _ _ _ _ _ _ fun key => hc ?_
  have low := hb.lo_lt
  have place : c + g.off = b + f.off ∧ g.lo = f.lo := by
    unfold fldKey at key
    omega
  rw [Corrected, place.1, place.2]
  exact hb

theorem ReadKept.sets (h : ReadKept s t) {l : List (Fld × Nat)} (hl : ∀ p ∈ l, Corrected b p.1) : ReadKept s (t.sets b l) := by
  induction l generalizing t with
  | nil => exact h
  | cons p l ih => exact ih (h.set (hl p List.mem_cons_self) p.2) fun q hq => hl q (List.mem_cons_of_mem _ hq)

theorem ReadKept.event (h : ReadKept s t) (hb : Corrected b f) (e : Nat) : ReadKept s (t.event e b f) := by
  unfold State.event
  split
  · exact h
  · exact (h.set hb 1).cells (State.toggle_cells _ _)

theorem corrected_ddr {x : Nat} (hx : x + f.off < 0x1_0000) (hl : f.lo ∈ [0, 2, 32, 53]) : Corrected (bDdr + x) f := by
  refine ⟨hl, wDdr, by simp, ?_⟩
  simp only [wDdr, bDdr]
  omega

theorem ReadKept.record (h : ReadKept s t) (code sev source : Nat) (data : List Byte) : ReadKept s (t.record code sev source data) := by
  refine h.trans fun b f hl hc => State.get_request_ne _ _ _ _ (fun key => hc ?_) (fun key => hc ?_)
  · have place : b + f.off = bRc + Rg.RC_LOSS.INPUT.off ∧ f.lo = Rg.RC_LOSS.INPUT.lo := by
      simp only [fldKey, Rg.RC_LOSS.INPUT] at *
      omega
    rw [Corrected, place.1, place.2]
    exact ⟨by decide, wRc, by simp, by decide⟩
  · have place : b + f.off = bRc + Rg.RC_EVT.LOSS.off ∧ f.lo = Rg.RC_EVT.LOSS.lo := by
      simp only [fldKey, Rg.RC_EVT.LOSS] at *
      omega
    rw [Corrected, place.1, place.2]
    exact ⟨by decide, wRc, by simp, by decide⟩

theorem ReadKept.memCE (h : ReadKept s t) (w : Nat) : ReadKept s (t.memCE w) := by
  unfold State.memCE
  extract_lets +onlyGivenNames a noted
  refine ReadKept.record ?_ _ _ _ _
  unfold noted
  split
  · next k off region =>
    have half := regionOf_stage_lt region
    have inside {f : Fld} (ho : f.off = 0x100) (hl : f.lo ∈ [0, 2, 32, 53]) : Corrected (bDdr + k * 8) f :=
      corrected_ddr (by omega) hl
    refine ((h.set (inside rfl (by decide)) _).sets ?_).event (corrected_ddr (x := 0) (by decide) (by decide)) _
    simp only [List.mem_cons, List.not_mem_nil, or_false]
    rintro p (rfl | rfl)
    · exact inside (f := Rg.SM_ECC.LAST) rfl (by decide)
    · exact inside (f := Rg.SM_ECC.LAST_UE) rfl (by decide)
  · exact ((h.set (corrected_ddr (x := 0) (by decide) (by decide)) _).set (corrected_ddr (x := 0) (by decide) (by decide)) _).event
      (corrected_ddr (x := 0) (by decide) (by decide)) _

/-- A word that is returned was read without error, or its error was corrected. -/
theorem ReadKept.readWord (hr : (s.readWord w).2 = true) : ReadKept s (s.readWord w).1 := by
  unfold State.readWord at hr ⊢
  dsimp only at hr ⊢
  split_ifs at hr ⊢
  · exact .refl s
  · exact (ReadKept.memCE (.refl s) w).cells rfl
  · exact ReadKept.memCE (.refl s) w

theorem ReadKept.readWords (n : Nat) : ∀ (w : Nat) (s : State), (readWords n w s).2 = true → ReadKept s (readWords n w s).1 := by
  induction n with
  | zero => exact fun _ s _ => .refl s
  | succ n ih =>
    intro w s hr
    obtain ⟨first, rest⟩ := Bool.and_eq_true_iff.1 hr
    exact (ReadKept.readWord first).trans (ih _ _ rest)

/-- A read that returns bytes. -/
theorem ReadKept.memRead {a n : Nat} {l : List Byte} (hr : s.memRead a n = (u, some l)) : ReadKept s u := by
  have first : (s.memRead a n).1 = u := congrArg Prod.fst hr
  have second : (s.memRead a n).2 = some l := congrArg Prod.snd hr
  rw [← first]
  refine ReadKept.readWords _ _ s ?_
  unfold State.memRead at second
  dsimp only at second
  split at second
  · assumption
  · cases second

theorem ReadKept.get_tiles (h : ReadKept s t) (hl : f.lo < 64) {n : Nat} (hb : Within [wTiles] b n) (ho : f.off < n) :
    t.get b f = s.get b f := by
  refine h b f hl fun ⟨_, w, hw, range⟩ => ?_
  obtain ⟨tiles, member, inside⟩ := hb
  have low := inside _ ho
  rw [List.mem_singleton.1 member] at low
  simp only [List.mem_cons, List.not_mem_nil, or_false] at hw
  obtain rfl | rfl := hw
  · simp only [wTiles, wDdr] at low range
    omega
  · simp only [wTiles, wRc] at low range
    omega

end Sys2Proof.Machine
end

section
/-! SUPPORT. The registers of the ALN tiles, the records of streams and concentrations, and items that a stage takes (R46, R86,
R297–R312). -/

set_option Elab.async false

namespace Sys2Proof.Machine

variable {s t u : State} {ws : List (Nat × Nat)} {c : Conc} {i n st pos typ ts : Nat} {f : Fld}

/-! ### Register blocks -/

/-- Fields set change the register cells alone. -/
theorem State.sets_cells (s : State) (b : Nat) (l : List (Fld × Nat)) : ∃ k, s.sets b l = { s with cells := k } := by
  induction l generalizing s with
  | nil => exact ⟨_, rfl⟩
  | cons p l ih =>
    obtain ⟨k, rest⟩ := ih (s.set b p.1 p.2)
    exact ⟨k, rest⟩

/-- A selected register's block lies in the windows of the tiles, whichever bank is selected. -/
theorem banked_within (hw : wTiles ∈ ws) (k : Blk) (inst n x : Nat) (hx : x ≤ 0x1000) :
    Within ws (banked (kindBase k inst) n + x) 0x1000 := by
  have range := kindBase_range k inst
  refine ⟨wTiles, hw, fun off ho => ?_⟩
  simp only [wTiles, banked]
  omega

theorem alBase_within (hw : wTiles ∈ ws) (st : Nat) : Within ws (alBase st) 0x1000 := by
  have block := banked_within hw .aln (st / 512) (st % 512) 0 (by decide)
  rwa [Nat.add_zero] at block

theorem connBase_within (hw : wTiles ∈ ws) (s : State) (st : Nat) : Within ws (s.connBase st) 0x1000 := by
  have block := banked_within hw .pkt (s.get (alBase st) Rg.AL_CFG.PKT) (s.get (alBase st) Rg.AL_CFG.CONN) 0 (by decide)
  rwa [Nat.add_zero] at block

theorem acBase_within (hw : wTiles ∈ ws) (i : Nat) (hn : n < 16) : Within ws (acBase i n) 0x1000 :=
  kindBase_within hw .aln i (n * 0x40) (by omega)

/-! ### Items (R46, R86) -/

theorem State.freeItem_eq (s : State) (p : Nat × QPkt) : s.freeItem p = s ∨ ∃ k, s.freeItem p = s.freeSlot p.1 k := by
  unfold State.freeItem
  split
  · exact .inr ⟨_, rfl⟩
  · exact .inl rfl

/-- An item used up leaves its queue, and its ring slot is free again. -/
theorem State.taken_eq (s : State) (pos typ : Nat) : ∃ q ls, s.taken pos typ = { s with rx := q, links := ls } ∧
    ∀ src dst slot, (s.taken pos typ).slotAddr src dst slot = s.slotAddr src dst slot := by
  unfold State.taken
  split
  · next p _ =>
    obtain same | ⟨k, freed⟩ := State.freeItem_eq { s with rx := s.rx.erase p } p
    · rw [same]
      exact ⟨_, _, rfl, fun _ _ _ => rfl⟩
    · rw [freed]
      refine ⟨_, _, rfl, fun src dst slot => ?_⟩
      have link (g : Link → Link) (hg : ∀ l, (g l).rc = l.rc) (ls : List Link) :
          (ls.map g).find? (fun l => l.rc.src == src && l.rc.dst == dst) =
            (ls.find? (fun l => l.rc.src == src && l.rc.dst == dst)).map g := by
        rw [List.find?_map]
        simp only [Function.comp_def, hg]
      unfold State.slotAddr State.linkTo State.freeSlot
      dsimp only
      rw [link _ fun l => by split <;> rfl]
      cases s.links.find? (fun l => l.rc.src == src && l.rc.dst == dst) with
      | none => rfl
      | some l =>
        have rc : (if l.rc.id = p.1 then { l with busy := l.busy.erase k } else l).rc = l.rc := by split <;> rfl
        simp only [Option.map_some, rc]
        rfl
  · exact ⟨_, _, rfl, fun _ _ _ => rfl⟩

/-! ### Records of concentrations -/

/-- The number of a running concentration found is the one sought. -/
theorem State.conc_n (h : s.conc n = some c) : c.n = n := by simpa using List.find?_some h

theorem State.conc_mem (h : s.conc n = some c) : c ∈ s.align.concs := List.mem_of_find?_eq_some h

theorem State.conc_congr (h : t.align = s.align) (n : Nat) : t.conc n = s.conc n := by
  unfold State.conc
  rw [h]

/-- A record put in place of the one of its number. -/
theorem State.conc_setConc {d : Conc} (h : s.conc n = some d) (hc : c.n = n) : (s.setConc c).conc n = some c := by
  subst hc
  have number (x : Conc) : ((if x.n = c.n then c else x).n == c.n) = (x.n == c.n) := by
    split
    · next same => rw [same]
    · rfl
  have replaced : (s.setConc c).conc c.n = (s.conc c.n).map (fun x => if x.n = c.n then c else x) := by
    simp only [State.conc, State.setConc, State.setAln, List.find?_map, Function.comp_def, number]
  rw [replaced, h]
  exact congrArg some (if_pos (State.conc_n h))

theorem State.mem_setConc {d : Conc} (h : s.conc n = some d) (hc : c.n = n) : c ∈ (s.setConc c).align.concs :=
  State.conc_mem (State.conc_setConc h hc)

/-- A bucket replaced stands among those of its instant. -/
theorem Conc.mem_put {b k : Bucket} (hb : b ∈ c.buckets) (hk : k.tk = b.tk) : k ∈ (c.put k).buckets :=
  List.mem_map.2 ⟨b, hb, if_pos hk.symm⟩

end Sys2Proof.Machine
end

section
/-! PROOF. Streams: enable, disable, frames, estimates of local streams, and the quarantine (R297–R313). -/

set_option Elab.async false

namespace Sys2Proof.Machine

variable {s t u : State} {ws : List (Nat × Nat)} {st : Nat}

/-! ### Enable and disable (R297, R303, R313) -/

/-- The layout of a local stream shown, or the connection context of a remote one loaded. -/
def State.streamLaid (s : State) (st : Nat) : State := if s.isLocal st then s.localLayout st else s.ownContext st

theorem State.streamLaid_shape (s : State) (st : Nat) : ∃ l p, s.streamLaid st = { s with cells := l, pkt := p } := by
  unfold State.streamLaid
  split
  · obtain ⟨l, shown⟩ := State.sets_cells s (alBase st) _
    exact ⟨l, _, shown⟩
  · unfold State.ownContext
    extract_lets b c t₁ t₂
    obtain ⟨l, loaded⟩ : ∃ l, t₁ = { s with cells := l } := s.sets_cells _ _
    unfold t₂
    rw [loaded]
    exact ⟨_, _, rfl⟩

theorem RegsKept.streamLaid (s : State) (st : Nat) : RegsKept [wTiles] s (s.streamLaid st) := by
  have tiles := List.mem_singleton_self wTiles
  unfold State.streamLaid
  split
  · exact (RegsKept.refl _ s).setsIn (alBase_within tiles st) (by rfl)
  · unfold State.ownContext
    extract_lets b c t₁ t₂
    have loaded : RegsKept [wTiles] s t₁ := (RegsKept.refl _ s).setsIn (connBase_within tiles s st) (by rfl)
    have address : RegsKept [wTiles] s t₂ := loaded.setIn (banked_within tiles .pkt _ _ 8 (by decide)) _ (by decide) (by decide)
    exact address.cells rfl

/-- The fields that show a stream started, with its length and the end of its quarantine. -/
def startedFields (len stop : Nat) : List (Fld × Nat) :=
  [(Rg.AL_CFG.EN, 1), (Rg.AL_STAT.RUN, 1), (Rg.AL_STAT.REFUSE, 0), (Rg.AL_STAT.QUAR, 1), (Rg.AL_STAT.LEN, len),
    (Rg.AL_STAT.QUAR_END, stop)]

/-- A stream shown as started, with its first latency estimate. -/
def State.streamShown (s : State) (st len stop q : Nat) : State :=
  ((s.streamLaid st).sets (alBase st) (startedFields len stop)).setQ st q

theorem State.streamShown_shape (s : State) (st len stop q : Nat) :
    ∃ l p, s.streamShown st len stop q = { s with cells := l, pkt := p } := by
  obtain ⟨l, p, laid⟩ := s.streamLaid_shape st
  unfold State.streamShown
  rw [laid]
  obtain ⟨l₁, shown⟩ := State.sets_cells { s with cells := l, pkt := p } (alBase st) (startedFields len stop)
  rw [shown]
  obtain ⟨l₂, estimated⟩ := State.sets_cells { s with cells := l₁, pkt := p } (alBase st)
    [(Rg.AL_Q.Q, q), (Rg.AL_Q.W, State.waitOf { s with cells := l₁, pkt := p } st q)]
  exact ⟨l₂, p, estimated⟩

theorem RegsKept.setQ (h : RegsKept [wTiles] s t) (st q : Nat) : RegsKept [wTiles] s (t.setQ st q) :=
  h.setsIn (alBase_within (List.mem_singleton_self _) st) (by rfl)

theorem RegsKept.streamShown (s : State) (st len stop q : Nat) : RegsKept [wTiles] s (s.streamShown st len stop q) :=
  ((RegsKept.streamLaid s st).setsIn (alBase_within (List.mem_singleton_self _) st) (by rfl)).setQ st q

theorem State.get_streamShown (s : State) (st len stop q : Nat) :
    (s.streamShown st len stop q).get (alBase st) Rg.AL_CFG.EN = 1 ∧ (s.streamShown st len stop q).get (alBase st) Rg.AL_STAT.RUN = 1 ∧
      (s.streamShown st len stop q).get (alBase st) Rg.AL_STAT.QUAR = 1 ∧
      (s.streamShown st len stop q).get (alBase st) Rg.AL_STAT.REFUSE = 0 :=
  ⟨(State.get_sets_none rfl rfl).trans (State.get_sets_last (v := 1) rfl rfl),
    (State.get_sets_none rfl rfl).trans (State.get_sets_last (v := 1) rfl rfl),
    (State.get_sets_none rfl rfl).trans (State.get_sets_last (v := 1) rfl rfl),
    (State.get_sets_none rfl rfl).trans (State.get_sets_last (v := 0) rfl rfl)⟩

/-- The record of a stream that starts now. -/
def State.streamFirst (s : State) (st : Nat) : Stream :=
  ⟨st, max (s.get (alBase st) Rg.AL_RECONF.AT) s.nowNs, max (s.get (alBase st) Rg.AL_RECONF.AT) s.nowNs + s.quarTime st, []⟩

/-- The first latency estimate is the whole wait time but its margin. -/
def State.firstQ (s : State) (st : Nat) : Nat := (s.get (alBase st) Rg.AL_WAIT.WMAX - s.get (alBase st) Rg.AL_WAIT.MARGIN) * 1000

/-- The stream shown as started, with the values that its registers give. -/
def State.streamStarted (s : State) (st : Nat) : State :=
  s.streamShown st (s.streamLen st) (s.streamFirst st).quar
    (((s.streamLaid st).sets (alBase st) (startedFields (s.streamLen st) (s.streamFirst st).quar)).firstQ st)

theorem State.streamOn_cases (s : State) (st : Nat) : s.streamOn st =
    if s.flag (alBase st) Rg.AL_CFG.EN then s
    else if s.streamRefusal st ≠ 0 then
      (s.set (alBase st) Rg.AL_STAT.REFUSE (s.streamRefusal st)).atEvent (st / 512) Rg.AT_EVT.REFUSED
    else (s.streamStarted st).setAln
      { (s.streamStarted st).align with streams := (s.streamStarted st).align.streams ++ [s.streamFirst st] } := by
  delta State.streamStarted
  delta State.streamOn State.streamShown State.streamLaid State.streamFirst startedFields State.firstQ
  with_reducible rfl

/-- An accepted enable. -/
theorem State.streamOn_eq (he : s.flag (alBase st) Rg.AL_CFG.EN = false) (hr : s.streamRefusal st = 0) :
    s.streamOn st = (s.streamStarted st).setAln { s.align with streams := s.align.streams ++ [s.streamFirst st] } := by
  obtain ⟨l, p, shown⟩ : ∃ l p, s.streamStarted st = { s with cells := l, pkt := p } := s.streamShown_shape st _ _ _
  have same : (s.streamStarted st).align = s.align := by rw [shown]
  rw [State.streamOn_cases, if_neg (by simp [he]), if_neg (by simp [hr]), same]

theorem RegsKept.setAln (h : RegsKept ws s t) (a : Align) : RegsKept ws s (t.setAln a) := h.cells rfl

theorem Frame.setAln {u : State} (h : Frame ws s t u) (a : Align) : Frame ws s (t.setAln a) { u with align := a } := by
  obtain ⟨rfl, bytes, regs⟩ := h
  exact ⟨rfl, bytes, regs.setAln a⟩

/-- Records replaced first, then register fields set. -/
theorem Frame.of_setAln {a : Align} (h : Frame ws (s.setAln a) t { s.setAln a with cells := t.cells }) :
    Frame ws s t { s with cells := t.cells, align := t.align } := by
  obtain ⟨same, bytes, regs⟩ := h
  exact ⟨by rw [same]; rfl, bytes, (RegsKept.of_cells rfl).trans regs⟩

/-- Register fields and connection contexts are all that the registers' part of an enable changes. -/
theorem Frame.streamShown (s : State) (st len stop q : Nat) : Frame [wTiles] s (s.streamShown st len stop q)
    { s with cells := (s.streamShown st len stop q).cells, pkt := (s.streamShown st len stop q).pkt } := by
  obtain ⟨l, p, shown⟩ := s.streamShown_shape st len stop q
  exact ⟨by rw [shown], .of_mem (by rw [shown]), RegsKept.streamShown s st len stop q⟩

/-- What an accepted enable shows. -/
theorem State.streamOn_shows (he : s.flag (alBase st) Rg.AL_CFG.EN = false) (hr : s.streamRefusal st = 0) : ∃ u,
    s.streamOn st = u.setAln { s.align with streams := s.align.streams ++ [s.streamFirst st] } ∧
      (u.get (alBase st) Rg.AL_CFG.EN = 1 ∧ u.get (alBase st) Rg.AL_STAT.RUN = 1 ∧ u.get (alBase st) Rg.AL_STAT.QUAR = 1 ∧
        u.get (alBase st) Rg.AL_STAT.REFUSE = 0) ∧
      Frame [wTiles] s u { s with cells := u.cells, pkt := u.pkt } :=
  ⟨s.streamStarted st, State.streamOn_eq he hr, s.get_streamShown _ _ _ _, .streamShown s st _ _ _⟩

/-- The connection context of a remote stream OFF. -/
def State.contextOff (s : State) (st : Nat) : State :=
  if s.isLocal st then s else
    s.sets (s.connBase st) [(Rg.PC_CFG.EN, 0), (Rg.PC_CFG.KIND, 0), (Rg.PC_CFG.OWNED, 0), (Rg.PC_STAT.RUN, 0)]

/-- EN, RUN and QUAR of a stream cleared. -/
def State.streamCleared (s : State) (st : Nat) : State :=
  (s.contextOff st).sets (alBase st) [(Rg.AL_CFG.EN, 0), (Rg.AL_STAT.RUN, 0), (Rg.AL_STAT.QUAR, 0)]

theorem State.streamCleared_cells (s : State) (st : Nat) : ∃ l, s.streamCleared st = { s with cells := l } := by
  have context : ∃ l, s.contextOff st = { s with cells := l } := by
    unfold State.contextOff
    split
    · exact ⟨_, rfl⟩
    · exact s.sets_cells _ _
  obtain ⟨l, off⟩ := context
  rw [State.streamCleared, off]
  exact State.sets_cells { s with cells := l } _ _

theorem State.streamOff_eq (he : s.flag (alBase st) Rg.AL_CFG.EN = true) :
    s.streamOff st = (s.streamCleared st).setAln { s.align with streams := s.align.streams.filter (fun y => y.st != st) } := by
  have off : s.streamOff st = (s.streamCleared st).setAln
      { (s.streamCleared st).align with streams := (s.streamCleared st).align.streams.filter (fun y => y.st != st) } := by
    rw [State.streamOff, he]
    rfl
  obtain ⟨l, cleared⟩ := s.streamCleared_cells st
  have same : (s.streamCleared st).align = s.align := by rw [cleared]
  rw [off, same]

theorem RegsKept.streamCleared (s : State) (st : Nat) : RegsKept [wTiles] s (s.streamCleared st) := by
  have tiles := List.mem_singleton_self wTiles
  have context : RegsKept [wTiles] s (s.contextOff st) :=
    .ite (.refl _ s) ((RegsKept.refl _ s).setsIn (connBase_within tiles s st) (by rfl))
  exact context.setsIn (alBase_within tiles st) (by rfl)

/-- What a disable shows. -/
theorem State.streamOff_shows (he : s.flag (alBase st) Rg.AL_CFG.EN = true) : ∃ u,
    s.streamOff st = u.setAln { s.align with streams := s.align.streams.filter (fun y => y.st != st) } ∧
      (u.get (alBase st) Rg.AL_CFG.EN = 0 ∧ u.get (alBase st) Rg.AL_STAT.RUN = 0) ∧
      Frame [wTiles] s u { s with cells := u.cells } := by
  refine ⟨s.streamCleared st, State.streamOff_eq he,
    ⟨State.get_sets_last (v := 0) rfl rfl, State.get_sets_last (v := 0) rfl rfl⟩, ?_⟩
  obtain ⟨l, cleared⟩ := s.streamCleared_cells st
  exact ⟨by rw [cleared], .of_mem (by rw [cleared]), RegsKept.streamCleared s st⟩

/-- A write of AL_CFG by a master that has the right, for a stream whose lane is enabled. -/
theorem State.streamWrite_ok {m : Master} (hm : mayWriteService s m = true) (hl : st % 512 < s.lanesAt (atPos (st / 512)))
    (hon : s.on (domOf (islandOf (atPos (st / 512)))) = true) (act : State → State) : s.streamWrite m st act = (act s).answer .ok 0 :=
  State.tileWrite_ok _ _ _ _ _ _ hm (by rw [State.laneOn, hon, decide_eq_true hl]; rfl)

end Sys2Proof.Machine
end

section
/-! PROOF. Frames of streams and the estimates of local ones (R300–R306). -/

set_option Elab.async false

namespace Sys2Proof.Machine

variable {s t u : State} {ws : List (Nat × Nat)} {c d : Conc} {b : Bucket} {m : Member} {x y : Stream} {ts arrival : Nat}
  {blocks : List Byte} {k : Match}

/-! ### A frame counted (R300, R305) -/

/-- A frame counted, with its instant. -/
def State.frameCounted (s : State) (st ts : Nat) : State := (s.count (alBase st) Rg.AL_CNT.RX 1).set (alBase st) Rg.AL_LAST.AT ts

/-- A frame counted that no concentration refuses, with the latency estimate that it moves. -/
def State.frameNoted (s : State) (st ts arrival : Nat) : State :=
  if arrival < s.align.noQ then s.frameCounted st ts
  else (s.frameCounted st ts).setQ st (nextQ ((s.frameCounted st ts).get (alBase st) Rg.AL_Q.Q) (latencyOf arrival ts)
    (max ((s.frameCounted st ts).get (alBase st) Rg.AL_WAIT.Q_STEP) 1))

theorem State.frameNoted_cells (s : State) (st ts arrival : Nat) : ∃ l, s.frameNoted st ts arrival = { s with cells := l } := by
  unfold State.frameNoted
  split
  · exact ⟨_, rfl⟩
  · exact State.sets_cells _ _ _

theorem RegsKept.frameNoted (h : RegsKept [wTiles] s t) (st ts arrival : Nat) : RegsKept [wTiles] s (t.frameNoted st ts arrival) := by
  have block := alBase_within (List.mem_singleton_self wTiles) st
  have counted : RegsKept [wTiles] s (t.frameCounted st ts) :=
    (h.setIn block _ (by decide) (by decide)).setIn block _ (by decide) (by decide)
  exact .ite counted (counted.setQ st _)

/-- A frame counted changes register fields of the tiles alone. -/
theorem Frame.frameNoted (s : State) (st ts arrival : Nat) :
    Frame [wTiles] s (s.frameNoted st ts arrival) { s with cells := (s.frameNoted st ts arrival).cells } := by
  obtain ⟨l, noted⟩ := s.frameNoted_cells st ts arrival
  exact ⟨by rw [noted], .of_mem (by rw [noted]), (RegsKept.refl _ s).frameNoted st ts arrival⟩

theorem State.get_frameNoted (s : State) (st ts arrival : Nat) :
    (s.frameNoted st ts arrival).get (alBase st) Rg.AL_CNT.RX = satAdd Rg.AL_CNT.RX.w (s.get (alBase st) Rg.AL_CNT.RX) 1 ∧
      (s.frameNoted st ts arrival).get (alBase st) Rg.AL_LAST.AT = ts % 2 ^ 64 := by
  have rx : (s.frameCounted st ts).get (alBase st) Rg.AL_CNT.RX = satAdd Rg.AL_CNT.RX.w (s.get (alBase st) Rg.AL_CNT.RX) 1 :=
    (State.get_set_off _ _ _ _ _ (by decide)).trans (State.get_count_same _ _ _ _)
  have last : (s.frameCounted st ts).get (alBase st) Rg.AL_LAST.AT = ts % 2 ^ 64 := State.get_set_same _ _ _ _
  unfold State.frameNoted
  split
  · exact ⟨rx, last⟩
  · exact ⟨(State.get_sets_none rfl rfl).trans rx, (State.get_sets_none rfl rfl).trans last⟩

/-! ### What it meets in the concentrations (R306) -/

/-- Blocks copied to where a frame matches. -/
def State.copyMatched (blocks : List Byte) (u : State) (r : (Conc × Member) × Match) : State :=
  match r.2 with
  | .put k => (match u.conc r.1.1.n with
    | some c => u.copyTo c r.1.2 k blocks
    | none => u)
  | _ => u

/-- A frame for which every concentration of its stream has a place. -/
theorem State.frameIn_eq (hp : ∀ p ∈ s.memberOf x.st, ∃ k, s.matchFrame p.1 x.st ts = .put k) :
    s.frameIn x ts arrival blocks = ((s.memberOf x.st).map (fun p => (p, s.matchFrame p.1 x.st ts))).foldl (State.copyMatched blocks)
      (s.frameNoted x.st ts arrival) := by
  have placed (k : Match) (hk : ∀ b, k ≠ .put b) :
      ((s.memberOf x.st).map (fun p => (p, s.matchFrame p.1 x.st ts))).any (fun r => decide (r.2 = k)) = false := by
    simp only [List.any_eq_false, List.mem_map, decide_eq_true_eq]
    rintro _ ⟨p, member, rfl⟩ same
    obtain ⟨b, place⟩ := hp p member
    exact hk b (same.symm.trans place)
  unfold State.frameIn
  dsimp only
  simp only [placed .dup nofun, placed .offgrid nofun, placed .future nofun, placed .late nofun, Bool.false_or, decide_eq_true_eq,
    Bool.false_eq_true, if_false]
  rfl

/-- A stream whose frames no concentration takes. -/
theorem State.frameIn_alone (h : s.memberOf x.st = []) : s.frameIn x ts arrival blocks = s.frameNoted x.st ts arrival := by
  rw [State.frameIn_eq (by rw [h]; exact nofun), h]
  rfl

/-- The bucket that holds a stream's blocks. -/
def Bucket.with (b : Bucket) (st : Nat) : Bucket := { b with present := b.present ++ [st] }

/-- A frame that fits a bucket makes its stream present there. -/
theorem State.frameIn_present (hc : s.align.concs = [c]) (hm : c.members.find? (fun y => y.st == x.st) = some m)
    (hf : s.matchFrame c x.st ts = .put b) : c.put (b.with m.st) ∈ (s.frameIn x ts arrival blocks).align.concs := by
  have members : s.memberOf x.st = [(c, m)] := by rw [State.memberOf, hc, List.filterMap_cons, hm]; rfl
  have running : (s.frameNoted x.st ts arrival).conc c.n = some c := by
    obtain ⟨l, noted⟩ := s.frameNoted_cells x.st ts arrival
    have same : (s.frameNoted x.st ts arrival).align = s.align := by rw [noted]
    rw [State.conc, same, hc, List.find?_cons_of_pos (by simp)]
  have copied : s.frameIn x ts arrival blocks = (s.frameNoted x.st ts arrival).copyTo c m b blocks := by
    rw [State.frameIn_eq (by rw [members]; exact List.forall_mem_singleton.2 ⟨b, hf⟩), members, List.map_singleton, List.foldl_cons,
      List.foldl_nil, State.copyMatched, hf]
    dsimp only
    rw [running]
  rw [copied]
  exact State.mem_setConc (n := c.n) ((State.conc_congr ((MemShape.refl _).memWrite _ _).align _).trans running) rfl

/-! ### Frames that a tile takes (R300) -/

theorem State.gridAfter_congr (h : t.time = s.time) (fs n : Nat) : t.gridAfter fs n = s.gridAfter fs n := by
  unfold State.gridAfter State.secondBefore State.lastSecond
  rw [h]

/-- A frame that is not older than its stream's reconfiguration. -/
theorem State.frameAt_eq (hz : x.reconf ≤ ts) : s.frameAt x ts arrival blocks = s.frameIn x ts arrival blocks :=
  if_neg (Nat.not_lt.2 hz)

/-- What a frame meets rests on the time and the concentration's grid and tolerance, which a read that returns data leaves. -/
theorem ReadKept.matchFrame (h : ReadKept s t) (ht : t.time = s.time) (c : Conc) (st ts : Nat) :
    t.matchFrame c st ts = s.matchFrame c st ts := by
  have rate : t.get (acBase c.home c.n) Rg.AC_CFG.RATE = s.get (acBase c.home c.n) Rg.AC_CFG.RATE :=
    h _ _ (by decide) fun ⟨lo, _⟩ => absurd lo (by decide)
  have tol : t.get (acBase c.home c.n) Rg.AC_CFG.TOL = s.get (acBase c.home c.n) Rg.AC_CFG.TOL :=
    h _ _ (by decide) fun ⟨lo, _⟩ => absurd lo (by decide)
  simp only [State.matchFrame, rate, tol, State.gridAfter_congr ht]

/-- A frame read whose instant is not older than its stream's reconfiguration. -/
theorem execStreamFrame_eq {inst src : Nat} {q : QPkt} {z : Stream} {f : List Byte}
    (hi : s.item (atPos inst) 0x52 = some (src, q)) (hx : s.stream (inst * 512 + pktLane q.lw) = some z)
    (hr : (s.taken (atPos inst) 0x52).memRead (s.slotAddr src (atPos inst) (bits 0 12 (q.data.headD 0)))
      (bits 12 14 (q.data.headD 0)) = (u, some f))
    (hb : beVal ((f.drop 11).take 3) < u.get (alBase z.st) Rg.AL_PORT.TIME_BASE)
    (ht : ts = u.frameTime (beVal ((f.drop 6).take 4)) (beVal ((f.drop 11).take 3)) (u.get (alBase z.st) Rg.AL_PORT.TIME_BASE))
    (hz : z.reconf ≤ ts) : ∃ blocks, execStreamFrame inst s = .next (u.frameIn z ts (q.data.getD 1 0) blocks) := by
  subst ht
  obtain ⟨rx, links, taken, address⟩ := s.taken_eq (atPos inst) 0x52
  have held : (s.taken (atPos inst) 0x52).stream (inst * 512 + pktLane q.lw) = some z := by rw [taken]; exact hx
  rw [← address] at hr
  refine ⟨(f.drop 14).take (u.get (alBase z.st) Rg.AL_STAT.LEN), ?_⟩
  unfold execStreamFrame
  simp only [hi, held, hr]
  rw [if_neg (Nat.not_le.2 hb), State.frameAt_eq hz]

/-- The read of a frame by a tile leaves the streams, the concentrations, the time and the tiles' registers. -/
theorem frameRead_kept {pos typ a n : Nat} {f : List Byte} (hr : (s.taken pos typ).memRead a n = (u, some f)) :
    u.align = s.align ∧ u.time = s.time ∧ ReadKept s u := by
  obtain ⟨rx, links, taken, -⟩ := s.taken_eq pos typ
  have shape : MemShape (s.taken pos typ) u := by
    have read := (MemShape.refl (s.taken pos typ)).memRead a n
    rwa [hr] at read
  have kept : ReadKept (s.taken pos typ) u := .memRead hr
  rw [taken] at shape kept
  exact ⟨shape.align, shape.time, ((ReadKept.refl s).cells rfl).trans kept⟩

/-! ### Local streams (R303) -/

theorem assocSet_any {α : Type} (k : Nat) (v : α) (l : List (Nat × α)) : (assocSet k v l).any (fun e => e.1 == k) = true := by
  induction l with
  | nil => simp [assocSet]
  | cons p l ih =>
    obtain ⟨j, w⟩ := p
    unfold assocSet
    split_ifs
    · simp
    · simp
    · simp [ih]

/-- A stream's record with another list of frames under way. -/
def Stream.withFrames (x : Stream) (l : List LocalFrame) : Stream := { x with loc := l }

/-- The estimate of a stream's only channel completes a frame. -/
theorem State.localEst_eq {k : Nat} {ws : List Nat} (hc : s.localChans x.st = [k]) : ∃ l blocks,
    s.localEst x k ws = (s.setStream (x.withFrames l)).frameAt (x.withFrames l) (ws.getD 1 0) s.nowNs blocks := by
  unfold State.localEst
  extract_lets tk f rest y
  have complete : (s.localChans x.st).all (fun k => f.ests.any (fun e => e.1 == k)) = true := by
    rw [hc, List.all_cons, List.all_nil, Bool.and_true]
    unfold f
    split
    · exact assocSet_any _ _ _
    · simp
  rw [if_pos complete]
  exact ⟨_, _, rfl⟩

/-- An estimate for the only stream, which is local and whose only channel it is. -/
theorem execLocalEstimateItem_eq {inst src tk : Nat} {q : QPkt} (hi : s.item (atPos inst) 0x50 = some (src, q))
    (hs : s.align.streams = [y]) (hp : y.st / 512 = inst) (hl : s.isLocal y.st = true)
    (hc : s.localChans y.st = [bits 0 6 (q.data.headD 0)]) (ht : tk = q.data.getD 1 0) (hz : y.reconf ≤ tk) : ∃ l blocks,
    execLocalEstimateItem inst s = .next (((s.taken (atPos inst) 0x50).setStream (y.withFrames l)).frameIn (y.withFrames l) tk
      s.nowNs blocks) := by
  subst ht
  obtain ⟨rx, links, taken, -⟩ := s.taken_eq (atPos inst) 0x50
  have chans : (s.taken (atPos inst) 0x50).localChans y.st = [bits 0 6 (q.data.headD 0)] := by rw [taken]; exact hc
  have isLocal : (s.taken (atPos inst) 0x50).isLocal y.st = true := by rw [taken]; exact hl
  have now : (s.taken (atPos inst) 0x50).nowNs = s.nowNs := by rw [taken]; rfl
  have held : (s.taken (atPos inst) 0x50).stream y.st = some y := by
    have streams : (s.taken (atPos inst) 0x50).align.streams = [y] := by rw [taken]; exact hs
    rw [State.stream, streams, List.find?_cons_of_pos (by simp)]
  obtain ⟨l, blocks, estimated⟩ := State.localEst_eq (ws := q.data) chans
  refine ⟨l, blocks, ?_⟩
  unfold execLocalEstimateItem
  simp only [hi, hs, List.foldl_cons, List.foldl_nil, held]
  rw [if_pos ⟨hp, isLocal, by rw [chans]; simp⟩, estimated, State.frameAt_eq (x := y.withFrames l) hz, now]

end Sys2Proof.Machine

open Sys2Proof Sys2Proof.Machine

/-- Settles O35: a command or an item through the state that it leaves; a frame that fits a bucket is copied there
(`frameIn_present`). -/
theorem streamsTakeFrames : Obligations.StreamsTakeFrames := by
  unfold Obligations.StreamsTakeFrames
  refine ⟨fun m st s ⟨_, hm, hl, hon⟩ ⟨he, hr⟩ => ?enable, fun m st s ⟨_, hm, hl, hon⟩ he => ?disable,
    fun inst src ts q u z f s ⟨_, hi, hx, _⟩ hr hb ⟨ht, hz, hn⟩ => ?frame,
    fun inst src ts q u z f c m b s ⟨_, hi, hx, _⟩ hr hb ⟨ht, hz⟩ ⟨hc, hm, hst, hf, hbk⟩ => ?present,
    fun inst src tk q y s ⟨_, hi, hs, hp, hl⟩ ⟨hc, ht, hz, hn⟩ => ?estimate, fun st y s ⟨_, hy, hq⟩ => ?quarantine⟩
  case enable =>
    obtain ⟨u, on, ⟨en, run, quar, refuse⟩, frame⟩ := State.streamOn_shows he hr
    have ran : exec (.streamEnable m st) s = .next (_ : State) :=
      congrArg Host.Outcome.next ((State.streamWrite_ok hm hl hon _).trans (congrArg (State.answer · .ok 0) on))
    exact ⟨_, ran, en, run, quar, refuse, rfl, (frame.setAln _).answer⟩
  case disable =>
    obtain ⟨u, off, ⟨en, run⟩, frame⟩ := State.streamOff_shows he
    have ran : exec (.streamDisable m st) s = .next (_ : State) :=
      congrArg Host.Outcome.next ((State.streamWrite_ok hm hl hon _).trans (congrArg (State.answer · .ok 0) off))
    exact ⟨_, ran, en, run, rfl, (frame.setAln _).answer⟩
  case frame =>
    obtain ⟨blocks, ran⟩ := execStreamFrame_eq hi hx hr hb ht hz
    obtain ⟨align, -, kept⟩ := frameRead_kept hr
    have alone : u.memberOf z.st = [] := by rw [State.memberOf, align]; exact hn
    obtain ⟨rx, last⟩ := u.get_frameNoted z.st ts (q.data.getD 1 0)
    rw [kept.get_tiles (by decide) (alBase_within (List.mem_singleton_self _) z.st) (by decide)] at rx
    rw [State.frameIn_alone alone] at ran
    exact ⟨_, ran, rx, last, .frameNoted u _ _ _⟩
  case present =>
    obtain ⟨blocks, ran⟩ := execStreamFrame_eq hi hx hr hb ht hz
    obtain ⟨align, time, kept⟩ := frameRead_kept hr
    have fits : u.matchFrame c z.st ts = .put b := (kept.matchFrame time c z.st ts).trans hf
    exact ⟨_, ran, _, State.frameIn_present (align ▸ hc) hm fits, rfl, _, Conc.mem_put hbk rfl, by simp [Bucket.with, hst]⟩
  case estimate =>
    obtain ⟨l, blocks, ran⟩ := execLocalEstimateItem_eq hi hs hp hl hc ht hz
    obtain ⟨_, _, taken, -⟩ := s.taken_eq (atPos inst) 0x50
    have before : (s.taken (atPos inst) 0x50).get (alBase y.st) Rg.AL_CNT.RX = s.get (alBase y.st) Rg.AL_CNT.RX :=
      State.get_congr_cells _ _ (by rw [taken]) _ _
    rw [State.frameIn_alone (x := y.withFrames l) (by rw [taken]; exact hn)] at ran
    obtain ⟨rx, last⟩ := ((s.taken (atPos inst) 0x50).setStream (y.withFrames l)).get_frameNoted y.st tk s.nowNs
    exact ⟨_, ran, rx.trans (congrArg (satAdd _ · 1) before), last, .of_setAln (.frameNoted _ y.st tk s.nowNs)⟩
  case quarantine =>
    have ended : exec (.quarantineEnd st) s = .next (s.set (alBase st) Rg.AL_STAT.QUAR 0) := by
      show execQuarantineEnd st s = _
      unfold execQuarantineEnd
      rw [hy]
      exact if_pos hq
    exact ⟨_, ended, State.get_set_same _ _ 0 _, rfl, .of_mem rfl,
      (RegsKept.refl _ s).setIn (alBase_within (List.mem_singleton_self _) st) _ (by decide) (by decide)⟩

end

section
/-! PROOF. Buckets of concentrations: opened, parts closed and collected, closed by the home, and their slots (R306–R308). -/

set_option Elab.async false

namespace Sys2Proof.Machine

variable {s t u : State} {ws : List (Nat × Nat)} {c d : Conc} {b k : Bucket} {n i tk : Nat} {f : Fld}

/-! ### AC_STAT.FREE -/

theorem State.showFree_eq (h : s.conc n = some c) :
    s.showFree n = s.set (acBase c.home n) Rg.AC_STAT.FREE (s.slotCount c - c.slots.length) := by
  rw [State.showFree, h]

theorem State.showFree_cells (s : State) (n : Nat) : ∃ l, s.showFree n = { s with cells := l } := by
  unfold State.showFree
  split
  · exact ⟨_, rfl⟩
  · exact ⟨_, rfl⟩

@[simp] theorem State.conc_showFree (s : State) (n j : Nat) : (s.showFree n).conc j = s.conc j := by
  obtain ⟨l, shown⟩ := s.showFree_cells n
  rw [shown]
  rfl

theorem RegsKept.showFree (h : RegsKept [wTiles] s t) (hn : n < 16) : RegsKept [wTiles] s (t.showFree n) := by
  unfold State.showFree
  split
  · exact h
  · exact h.setIn (acBase_within (List.mem_singleton_self _) _ hn) _ (by decide) (by decide)

/-- A record replaced and the free slots shown. -/
theorem Frame.setConc_showFree (s : State) (c : Conc) (hn : n < 16) : Frame [wTiles] s ((s.setConc c).showFree n)
    { s with cells := ((s.setConc c).showFree n).cells, align := ((s.setConc c).showFree n).align } := by
  have regs : RegsKept [wTiles] s ((s.setConc c).showFree n) := ((RegsKept.refl _ s).setAln _).showFree hn
  obtain ⟨l, shown⟩ := (s.setConc c).showFree_cells n
  rw [shown] at regs ⊢
  exact ⟨rfl, .of_mem rfl, regs⟩

/-! ### Slots and new buckets (R306, R308) -/

/-- The last release of a slot. -/
theorem State.slotRelease_last {slot : Nat} (h : s.conc n = some c) (hl : lookupD 0 slot c.slots = 1) :
    s.slotRelease n slot = (s.setConc { c with slots := c.slots.filter (fun p => p.1 != slot) }).showFree n := by
  unfold State.slotRelease
  rw [h]
  dsimp only
  rw [hl]
  rfl

theorem execBucketOpen_eq {j : Nat} (h : s.conc n = some c) (hd : c.nxt ≤ s.nowNs + 100000000)
    (hj : (List.range (s.slotCount c)).find? (fun j => !c.slots.any (fun p => p.1 == j)) = some j) :
    execBucketOpen n s = .next ((s.setConc { c with
      nxt := s.gridAfter (s.get (acBase c.home n) Rg.AC_CFG.RATE) c.nxt,
      buckets := c.buckets ++ [⟨c.nxt, j, [], [], [], none⟩], slots := (j, 0) :: c.slots }).showFree n) := by
  unfold execBucketOpen
  rw [h]
  dsimp only
  rw [if_neg (Nat.not_lt.2 hd), hj]

/-! ### Parts (R307, R308) -/

theorem State.fillAbsent_align (s : State) (c : Conc) (b : Bucket) (l : List Member) : (s.fillAbsent c b l).align = s.align := by
  unfold State.fillAbsent
  refine List.foldlRecOn l _ (motive := fun t : State => t.align = s.align) rfl fun t same m _ => ?_
  split
  · exact same
  · exact ((MemShape.refl t).memWrite _ _).align.trans same

theorem Conc.put_n (h : s.conc n = some c) (k : Bucket) : (c.put k).n = n := (State.conc_n h : c.n = n)

/-- The absent members filled, and a bucket's new record put in its place. -/
theorem State.conc_put_filled (h : s.conc n = some c) (x k : Bucket) (l : List Member) :
    ((s.fillAbsent c x l).setConc (c.put k)).conc n = some (c.put k) :=
  State.conc_setConc ((State.conc_congr (s.fillAbsent_align c x l) n).trans h) (Conc.put_n h k)

/-- The concentration has a bucket of instant `tk`, and tile `i` has closed its part of every such bucket. -/
def Conc.partClosed (c : Conc) (i tk : Nat) : Prop := (∃ k ∈ c.buckets, k.tk = tk) ∧ ∀ k ∈ c.buckets, k.tk = tk → i ∈ k.closed

theorem Conc.partClosed_put (hb : b ∈ c.buckets) (hi : i ∈ k.closed) (ht : k.tk = b.tk) : (c.put k).partClosed i b.tk := by
  refine ⟨⟨k, Conc.mem_put hb ht, ht⟩, fun x hx same => ?_⟩
  obtain ⟨y, -, rfl⟩ := List.mem_map.1 hx
  split_ifs at same ⊢ with other
  · exact hi
  · exact absurd (same.trans ht.symm) other

/-- A part that the home collects is still closed in its tile. -/
theorem State.partHome_closed {j at_ : Nat} (h : s.conc n = some c) (hp : c.partClosed i tk) :
    ∃ d, (s.partHome n j tk at_).conc n = some d ∧ d.partClosed i tk := by
  unfold State.partHome
  rw [h]
  dsimp only
  split
  · exact ⟨c, h, hp⟩
  · next b found =>
    have member := List.mem_of_find?_eq_some found
    have instant : b.tk = tk := by simpa using List.find?_some found
    subst instant
    split
    · exact ⟨c, h, hp⟩
    · exact ⟨_, State.conc_setConc h (Conc.put_n h _), Conc.partClosed_put member (hp.2 b member rfl) rfl⟩

theorem State.closePart_closed (h : s.conc n = some c) (hb : b ∈ c.buckets) :
    ∃ d, (s.closePart c i b).conc n = some d ∧ d.partClosed i b.tk := by
  unfold State.closePart
  extract_lets a cap t₁ t₂
  have closed : (c.put { b with closed := i :: b.closed }).partClosed i b.tk := Conc.partClosed_put hb List.mem_cons_self rfl
  have put : t₁.conc n = some (c.put { b with closed := i :: b.closed }) := State.conc_put_filled h _ _ _
  have same : t₂.align = t₁.align := by
    unfold t₂
    split
    · exact State.event_align _ _ _ _
    · rfl
  have told : t₂.conc n = some (c.put { b with closed := i :: b.closed }) := (State.conc_congr same n).trans put
  split
  · rw [State.conc_n h]
    exact State.partHome_closed told closed
  · obtain ⟨ls, q, emitted⟩ := t₂.emitDep_eq (atPos i) (atPos c.home) 0x53 0 0 0 false [c.n + i * 2 ^ 8 + a.length * 2 ^ 16, b.tk]
    exact ⟨_, (State.conc_congr (by rw [State.emit, emitted]) n).trans told, closed⟩

/-- The only part of a concentration's only bucket. -/
theorem State.partHome_only {at_ : Nat} (h : s.conc n = some c) (hb : c.buckets = [b]) (ht : b.tk = tk) (hd : b.done = none)
    (hp : b.parts = []) (hm : memberTiles c.members = [i]) :
    s.partHome n i tk at_ = s.setConc (c.put { b with parts := [i], done := some at_ }) := by
  unfold State.partHome
  rw [h]
  dsimp only
  rw [hb, List.find?_cons_of_pos (by simp [ht])]
  simp [hd, hp, hm]

theorem Conc.put_only (hb : c.buckets = [b]) (ht : k.tk = b.tk) : (c.put k).buckets = [k] := by
  rw [Conc.put, hb, List.map_singleton, if_pos ht.symm]

/-- A bucket that the home closes with parts missing. -/
theorem State.closeMissing_done {at_ : Nat} (h : s.conc n = some c) (hb : b ∈ c.buckets) :
    ∃ d ∈ (s.closeMissing c b at_).align.concs, d.n = n ∧ ∃ k ∈ d.buckets, k.tk = b.tk ∧ k.done = some at_ := by
  unfold State.closeMissing
  extract_lets gone x
  exact ⟨_, State.conc_mem (State.conc_put_filled h x x gone), Conc.put_n h x, x, Conc.mem_put hb rfl, rfl, rfl⟩

end Sys2Proof.Machine
end

section
/-! PROOF. Concentrations: enable and disable (R311, R312). -/

set_option Elab.async false

namespace Sys2Proof.Machine

variable {s t u : State} {ws : List (Nat × Nat)} {c d : Conc} {l : List Member} {n i j : Nat} {f : Fld}

/-! ### The blocks of a concentration in the tiles -/

theorem acBase_inTile (hj : j < 8) (hn : n < 16) : Within [wTile (atPos j)] (acBase j n) 0x1000 := by
  have base : atBase j = tileBase (atPos j) := by
    revert hj
    revert j
    decide
  have low : tileBase (atPos j) < 2 ^ 32 := base ▸ (kindBase_range .aln j).2.trans (by decide)
  refine ⟨_, List.mem_singleton_self _, fun off ho => ?_⟩
  simp only [wTile, acBase, base]
  omega

/-- The tiles of a concentration hold its settings apart. -/
theorem RegsKept.get_otherTile (h : RegsKept [wTile (atPos j)] s t) (hi : i < 8) (hj : j < 8) (ne : j ≠ i) (hn : n < 16)
    (ho : f.off < 0x1000) (hl : f.lo < 64) : t.get (acBase i n) f = s.get (acBase i n) f := by
  have apart : ∀ i < 8, ∀ j < 8, j ≠ i →
      tileBase (atPos j) + 0x4000 ≤ tileBase (atPos i) ∨ tileBase (atPos i) + 0x4000 ≤ tileBase (atPos j) := by
    decide
  obtain ⟨w, own, inside⟩ := acBase_inTile hi hn
  refine h _ _ hl fun v hv range => ?_
  have place := inside _ ho
  rw [List.mem_singleton.1 own] at place
  rw [List.mem_singleton.1 hv] at range
  have tiles := apart i hi j hj ne
  simp only [wTile] at place range
  omega

theorem memberTiles_lt (hj : j ∈ memberTiles l) : j < 8 := List.mem_range.1 (List.mem_of_mem_filter hj)

/-! ### Enable (R311) -/

theorem State.copyConc_cells (s : State) (i n : Nat) (l : List Member) (j : Nat) : ∃ k, s.copyConc i n l j = { s with cells := k } := by
  unfold State.copyConc
  extract_lets b fs t
  obtain ⟨k, copied⟩ : ∃ k, t = { s with cells := k } := s.sets_cells _ _
  rw [copied]
  exact State.sets_cells { s with cells := k } _ _

theorem RegsKept.copyConc (h : RegsKept ws s t) (hb : Within ws (acBase j n) 0x1000) (i : Nat) (l : List Member) :
    RegsKept ws s (t.copyConc i n l j) := by
  unfold State.copyConc
  extract_lets b fs u
  have copied : RegsKept ws s u := h.setsIn hb (by rfl)
  exact copied.setsIn hb (by rfl)

/-- What the home's own copy shows. -/
theorem State.get_copyConc_home (s : State) (i n : Nat) (l : List Member) :
    (s.copyConc i n l i).get (acBase i n) Rg.AC_CFG.EN = 1 ∧ (s.copyConc i n l i).get (acBase i n) Rg.AC_STAT.RUN = 1 ∧
      (s.copyConc i n l i).get (acBase i n) Rg.AC_STAT.HOME = 1 ∧
      (s.copyConc i n l i).get (acBase i n) Rg.AC_CFG.RATE = s.get (acBase i n) Rg.AC_CFG.RATE % 2 ^ 8 := by
  unfold State.copyConc
  extract_lets b fs u
  refine ⟨State.get_sets_last (v := 1) rfl rfl, State.get_sets_last (v := 1) rfl rfl, ?_, ?_⟩
  · rw [beq_self_eq_true]
    exact State.get_sets_last (v := 1) rfl rfl
  · exact (State.get_sets_none rfl rfl).trans (State.get_sets_last rfl rfl)

/-- The settings copied to the other tiles with members. -/
def State.copyOthers (s : State) (i n : Nat) (l : List Member) : State :=
  ((memberTiles l).filter (· != i)).foldl (fun u k => u.copyConc i n l k) s

theorem State.copyOthers_kept (s : State) (hi : i < 8) (hn : n < 16) (l : List Member) :
    (∃ k, s.copyOthers i n l = { s with cells := k }) ∧ RegsKept [wTiles] s (s.copyOthers i n l) ∧
      (s.copyOthers i n l).get (acBase i n) Rg.AC_CFG.RATE = s.get (acBase i n) Rg.AC_CFG.RATE := by
  unfold State.copyOthers
  refine List.foldlRecOn _ _ (motive := fun t : State => (∃ k, t = { s with cells := k }) ∧ RegsKept [wTiles] s t ∧
    t.get (acBase i n) Rg.AC_CFG.RATE = s.get (acBase i n) Rg.AC_CFG.RATE) ⟨⟨_, rfl⟩, .refl _ s, rfl⟩ fun t ⟨cells, regs, rate⟩ j hj => ?_
  obtain ⟨member, other⟩ := List.mem_filter.1 hj
  have tile := memberTiles_lt member
  refine ⟨?_, regs.copyConc (acBase_within (List.mem_singleton_self _) j hn) i l, ?_⟩
  · obtain ⟨k, rfl⟩ := cells
    exact State.copyConc_cells { s with cells := k } i n l j
  · have apart := ((RegsKept.refl _ t).copyConc (acBase_inTile tile hn) i l).get_otherTile (f := Rg.AC_CFG.RATE) hi tile
      (by simpa using other) hn (by decide) (by decide)
    exact apart.trans rate

/-- The settings copied everywhere, the home's last, and REFUSE cleared. -/
def State.concCopied (s : State) (i n : Nat) (l : List Member) : State :=
  ((s.copyOthers i n l).copyConc i n l i).set (acBase i n) Rg.AC_STAT.REFUSE 0

/-- What an accepted enable shows before the concentration runs. -/
theorem State.concCopied_shows (s : State) (hi : i < 8) (hn : n < 16) (l : List Member) :
    ((s.concCopied i n l).get (acBase i n) Rg.AC_CFG.EN = 1 ∧ (s.concCopied i n l).get (acBase i n) Rg.AC_STAT.RUN = 1 ∧
      (s.concCopied i n l).get (acBase i n) Rg.AC_STAT.HOME = 1 ∧ (s.concCopied i n l).get (acBase i n) Rg.AC_STAT.REFUSE = 0 ∧
      (s.concCopied i n l).get (acBase i n) Rg.AC_CFG.RATE = s.get (acBase i n) Rg.AC_CFG.RATE % 2 ^ 8) ∧
      (∃ k, s.concCopied i n l = { s with cells := k }) ∧ RegsKept [wTiles] s (s.concCopied i n l) := by
  obtain ⟨⟨k, others⟩, regs, before⟩ := s.copyOthers_kept hi hn l
  obtain ⟨en, run, home, rate⟩ := (s.copyOthers i n l).get_copyConc_home i n l
  have block := acBase_within (List.mem_singleton_self wTiles) i hn
  unfold State.concCopied
  refine ⟨⟨(State.get_set_off _ _ _ _ _ (by decide)).trans en, (State.get_set_off _ _ _ _ _ (by decide)).trans run,
    (State.get_set_off _ _ _ _ _ (by decide)).trans home, State.get_set_same _ _ 0 _,
    (State.get_set_off _ _ _ _ _ (by decide)).trans (rate.trans (congrArg (· % 2 ^ 8) before))⟩, ?_,
    (regs.copyConc block i l).setIn block _ (by decide) (by decide)⟩
  obtain ⟨k', own⟩ := (s.copyOthers i n l).copyConc_cells i n l i
  rw [own, others]
  exact ⟨_, rfl⟩

/-- The record of a concentration that starts. -/
def State.concFirst (s : State) (i n : Nat) (l : List Member) : Conc :=
  ⟨n, i, l, s.firstBucket (s.get (acBase i n) Rg.AC_CFG.RATE), [], [], 0⟩

theorem State.firstBucket_congr (h : t.time = s.time) (rate : Nat) : t.firstBucket rate = s.firstBucket rate := by
  unfold State.firstBucket State.nowNs
  rw [State.gridAfter_congr h, h]

theorem State.concFirst_congr (h : t.time = s.time)
    (hr : t.get (acBase i n) Rg.AC_CFG.RATE = s.get (acBase i n) Rg.AC_CFG.RATE) (l : List Member) :
    t.concFirst i n l = s.concFirst i n l := by
  unfold State.concFirst
  rw [hr, State.firstBucket_congr h]

theorem State.concOn_cases (s : State) (i n : Nat) : s.concOn i n =
    if s.flag (acBase i n) Rg.AC_CFG.EN then s
    else if s.concRefusal i n (s.layout 0 (s.memberStreams n)) ≠ 0 then
      (s.set (acBase i n) Rg.AC_STAT.REFUSE (s.concRefusal i n (s.layout 0 (s.memberStreams n)))).atEvent i Rg.AT_EVT.REFUSED
    else ((s.concCopied i n (s.layout 0 (s.memberStreams n))).setAln { (s.concCopied i n (s.layout 0 (s.memberStreams n))).align with
      concs := (s.concCopied i n (s.layout 0 (s.memberStreams n))).align.concs ++
        [(s.concCopied i n (s.layout 0 (s.memberStreams n))).concFirst i n (s.layout 0 (s.memberStreams n))] }).showFree n := by
  unfold State.concOn State.concCopied State.copyOthers State.concFirst
  simp only [List.foldl_append, List.foldl_cons, List.foldl_nil]

/-- What an enable that is accepted tells of the concentration. -/
theorem State.concRefusal_ok (h : s.concRefusal i n l = 0) : s.get (acBase i n) Rg.AC_CFG.RATE ≤ 240 ∧ s.conc n = none := by
  unfold State.concRefusal at h
  extract_lets b g tiles rate addr at h
  split_ifs at h with linked settings rates payload slots running
  exact ⟨show rate ≤ 240 by omega, by simpa using running⟩

/-- A concentration added to those that run, with its free slots shown. -/
theorem State.showFree_added {a : Align} (h : s.conc c.n = none) (ha : a.concs = s.align.concs ++ [c]) :
    ∃ v, (s.setAln a).showFree c.n = (s.setAln a).set (acBase c.home c.n) Rg.AC_STAT.FREE v := by
  have added : (s.setAln a).conc c.n = some c := by
    have found : (s.align.concs ++ [c]).find? (fun d => d.n == c.n) = some c := by
      rw [List.find?_append, show s.align.concs.find? (fun d => d.n == c.n) = none from h, Option.none_or,
        List.find?_cons_of_pos (by simp)]
    rw [State.conc, ← found, ← ha]
    rfl
  exact ⟨_, State.showFree_eq added⟩

theorem State.get_free_off (s : State) (a : Align) (b v : Nat) (hf : f.off * 64 + f.lo ≠ Rg.AC_STAT.FREE.off * 64 + Rg.AC_STAT.FREE.lo) :
    ((s.setAln a).set b Rg.AC_STAT.FREE v).get b f = s.get b f :=
  State.get_set_off _ _ _ _ _ hf

/-- What an accepted enable shows. -/
theorem State.concOn_shows (hi : i < 8) (hn : n < 16) (he : s.flag (acBase i n) Rg.AC_CFG.EN = false)
    (hr : s.concRefusal i n (s.layout 0 (s.memberStreams n)) = 0) : ∃ t, s.concOn i n = t ∧
      (t.get (acBase i n) Rg.AC_CFG.EN = 1 ∧ t.get (acBase i n) Rg.AC_STAT.RUN = 1 ∧ t.get (acBase i n) Rg.AC_STAT.HOME = 1 ∧
        t.get (acBase i n) Rg.AC_STAT.REFUSE = 0) ∧
      t.align.concs = s.align.concs ++ [s.concFirst i n (s.layout 0 (s.memberStreams n))] ∧
      Frame [wTiles] s t { s with cells := t.cells, align := t.align } := by
  refine ⟨_, rfl, ?_⟩
  rw [State.concOn_cases, if_neg (by simp [he]), if_neg (by simp [hr])]
  obtain ⟨small, free⟩ := State.concRefusal_ok hr
  obtain ⟨⟨en, run, home, refuse, rate⟩, cells, regs⟩ := s.concCopied_shows hi hn (s.layout 0 (s.memberStreams n))
  generalize s.layout 0 (s.memberStreams n) = l at *
  generalize s.concCopied i n l = u at *
  obtain ⟨k, same⟩ := cells
  have align : u.align = s.align := by rw [same]
  have first : u.concFirst i n l = s.concFirst i n l :=
    State.concFirst_congr (by rw [same]) (rate.trans (Nat.mod_eq_of_lt (by omega))) l
  rw [first, align]
  obtain ⟨v, shown⟩ := State.showFree_added (s := u) (c := s.concFirst i n l)
    (a := { s.align with concs := s.align.concs ++ [s.concFirst i n l] }) ((State.conc_congr align n).trans free) (by rw [align])
  have running : State.showFree _ n = _ := shown
  rw [running]
  refine ⟨⟨(State.get_free_off _ _ _ _ (by decide)).trans en, (State.get_free_off _ _ _ _ (by decide)).trans run,
    (State.get_free_off _ _ _ _ (by decide)).trans home, (State.get_free_off _ _ _ _ (by decide)).trans refuse⟩, rfl, ?_⟩
  have all : RegsKept [wTiles] s ((u.setAln { s.align with concs := s.align.concs ++ [s.concFirst i n l] }).set (acBase i n)
      Rg.AC_STAT.FREE v) :=
    (regs.setAln _).setIn (acBase_within (List.mem_singleton_self _) i hn) v (by decide) (by decide)
  subst same
  exact ⟨rfl, .of_mem rfl, all⟩

/-! ### Disable (R312) -/

/-- The fields that a stopped concentration shows in a tile. -/
def stoppedFields : List (Fld × Nat) := [(Rg.AC_CFG.EN, 0), (Rg.AC_STAT.RUN, 0), (Rg.AC_STAT.HOME, 0), (Rg.AC_STAT.FREE, 0)]

/-- A concentration shown as stopped in its tiles, the home's last. -/
def State.concShownOff (s : State) (c : Conc) : State :=
  ((memberTiles c.members).filter (· != c.home) ++ [c.home]).foldl (fun u k => u.sets (acBase k c.n) stoppedFields) s

theorem State.concStop_eq (s : State) (c : Conc) : s.concStop c = (s.concShownOff c).setAln { (s.concShownOff c).align with
    concs := (s.concShownOff c).align.concs.filter (fun d => d.n != c.n) } := rfl

theorem State.concShownOff_shows (s : State) (c : Conc) (hn : c.n < 16) :
    ((s.concShownOff c).get (acBase c.home c.n) Rg.AC_CFG.EN = 0 ∧ (s.concShownOff c).get (acBase c.home c.n) Rg.AC_STAT.RUN = 0) ∧
      (∃ k, s.concShownOff c = { s with cells := k }) ∧ RegsKept [wTiles] s (s.concShownOff c) := by
  refine ⟨?_, ?_⟩
  · unfold State.concShownOff
    rw [List.foldl_append, List.foldl_cons, List.foldl_nil]
    exact ⟨State.get_sets_last (v := 0) rfl rfl, State.get_sets_last (v := 0) rfl rfl⟩
  · unfold State.concShownOff
    refine List.foldlRecOn _ _ (motive := fun t : State => (∃ k, t = { s with cells := k }) ∧ RegsKept [wTiles] s t)
      ⟨⟨_, rfl⟩, .refl _ s⟩ fun t ⟨cells, regs⟩ j _ => ?_
    refine ⟨?_, regs.setsIn (acBase_within (List.mem_singleton_self _) j hn) (by rfl)⟩
    obtain ⟨k, rfl⟩ := cells
    exact State.sets_cells { s with cells := k } _ _

/-- What a disable in the home shows. -/
theorem State.concOff_shows (hn : n < 16) (h : s.conc n = some c) (hh : c.home = i) : ∃ t, s.concOff i n = t ∧
    (t.get (acBase i n) Rg.AC_CFG.EN = 0 ∧ t.get (acBase i n) Rg.AC_STAT.RUN = 0) ∧ t.conc n = none ∧
      Frame [wTiles] s t { s with cells := t.cells, align := t.align } := by
  subst hh
  obtain rfl := State.conc_n h
  obtain ⟨⟨en, run⟩, cells, regs⟩ := s.concShownOff_shows c hn
  have stopped : s.concOff c.home c.n = s.concStop c := by
    rw [State.concOff, h]
    exact if_pos rfl
  rw [State.concStop_eq] at stopped
  generalize s.concShownOff c = u at *
  refine ⟨_, stopped, ⟨en, run⟩, ?_, ?_⟩
  · have align : u.align = s.align := by
      obtain ⟨k, rfl⟩ := cells
      rfl
    rw [align]
    exact List.find?_eq_none.2 fun d hd => by simpa using (List.mem_filter.1 hd).2
  · obtain ⟨k, rfl⟩ := cells
    exact ⟨rfl, .of_mem rfl, regs.setAln _⟩

/-- A write of AC_CFG by a master that has the right, for a tile that is there. -/
theorem State.concWrite_ok {m : Master} (hm : mayWriteService s m = true) (hi : s.instanced (atPos i) = true)
    (hon : s.on (domOf (islandOf (atPos i))) = true) (hn : n < 16) (act : State → State) :
    s.concWrite m i n act = (act s).answer .ok 0 :=
  (State.actWrite_ok _ _ _ _ _ _ hm hon).trans (by rw [if_pos ⟨hi, hn⟩])

end Sys2Proof.Machine
end

section
/-! PROOF. Buckets emitted (R308, R310), and O36. -/

set_option Elab.async false

namespace Sys2Proof.Machine

variable {s t u : State} {ws : List (Nat × Nat)} {c d : Conc} {b : Bucket} {n i at_ : Nat} {f : Fld}

/-! ### What an item sent and a hardware submit change -/

/-- A hardware producer's submit changes the dispatcher, with its registers and their events. -/
theorem hwSubmit_kept (s : State) (flow prio tag : Nat) (item : Option (Nat × List Nat)) :
    (∃ l g d, s.hwSubmit flow prio tag item = { s with cells := l, toggles := g, disp := d }) ∧
      RegsKept [wDsp] s (s.hwSubmit flow prio tag item) := by
  have dsp := List.mem_singleton_self wDsp
  unfold State.hwSubmit
  split
  · exact ⟨⟨_, _, _, rfl⟩, .refl _ s⟩
  · extract_lets +onlyGivenNames part
    by_cases hf : s.disp.freeCount part = 0
    · have full : s.create part flow (prio % 8) (tag % 2 ^ 32) false none item = none := if_pos hf
      rw [full]
      dsimp only
      have regs : RegsKept [wDsp] s (s.busyPool part) := by
        unfold State.busyPool
        split
        · exact (RegsKept.refl _ s).dspEvent dsp _ _ (by decide) (by decide)
        · exact (RegsKept.refl _ s).dspEvent dsp _ _ (by decide) (by decide)
      obtain ⟨l, g, busy⟩ : RegShape s (s.busyPool part) := (RegShape.refl s).event _ _ _
      rw [busy] at regs ⊢
      exact ⟨⟨_, _, _, rfl⟩, regs.cells rfl⟩
    · rw [State.create_eq_some (Nat.pos_of_ne_zero hf)]
      dsimp only
      generalize Disp.withNew _ _ _ = d
      have regs : RegsKept [wDsp] s (State.lowMark { s with disp := d } s.disp part) :=
        RegsKept.lowMark (t := { s with disp := d }) (.of_cells rfl) dsp _ _
      obtain ⟨l, g, low⟩ := State.lowMark_shape { s with disp := d } s.disp part
      rw [low] at regs ⊢
      exact ⟨⟨_, _, _, rfl⟩, regs⟩

/-- An item sent to each of some positions. -/
theorem State.emitAll_eq (s : State) (ds : List Nat) (pos typ : Nat) (w : List Nat) :
    ∃ ls q, ds.foldl (fun u d => u.emit pos d typ 0 0 0 w) s = { s with links := ls, outq := q } := by
  refine List.foldlRecOn ds _ (motive := fun t : State => ∃ ls q, t = { s with links := ls, outq := q }) ⟨_, _, rfl⟩
    fun t ⟨ls, q, sent⟩ d _ => ?_
  obtain ⟨ls', q', more⟩ := t.emitDep_eq pos d typ 0 0 0 false w
  exact ⟨ls', q', by rw [State.emit, more, sent]⟩

/-! ### Emission -/

/-- The record of a concentration whose bucket is emitted to `refs` destinations. -/
def Conc.emitted (c : Conc) (b : Bucket) (refs : Nat) : Conc :=
  { c with buckets := c.buckets.filter (fun x => x.tk != b.tk), seq := (c.seq + 1) % 2 ^ 16,
           slots := if refs = 0 then c.slots.filter (fun p => p.1 != b.slot)
             else (b.slot, refs) :: c.slots.filter (fun p => p.1 != b.slot) }

/-- A bucket counted as emitted, and its instant shown. -/
def State.emitCounted (s : State) (r partial_ tk : Nat) : State :=
  ((s.count r Rg.AC_CNT.EMITTED 1).count r Rg.AC_CNT.PARTIAL partial_).set r Rg.AC_LAST.AT tk

/-- A change of register cells and then of one register. -/
theorem Frame.set_setConc {d : Conc} {l : List (Nat × Nat)} {r v : Nat} (same : t = { s.setConc d with cells := l })
    (regs : RegsKept ws s (t.set r f v)) :
    Frame ws s (t.set r f v) { s with cells := (t.set r f v).cells, align := (t.set r f v).align } := by
  subst same
  exact ⟨rfl, .of_mem rfl, regs⟩

@[simp] theorem State.conc_set (s : State) (b v n : Nat) (f : Fld) : (s.set b f v).conc n = s.conc n := rfl

theorem State.emitCounted_cells (s : State) (r p tk : Nat) : ∃ l, s.emitCounted r p tk = { s with cells := l } := ⟨_, rfl⟩

theorem State.get_emitCounted (s : State) (r p tk v : Nat) :
    ((s.emitCounted r p tk).set r Rg.AC_STAT.FREE v).get r Rg.AC_CNT.EMITTED =
        satAdd Rg.AC_CNT.EMITTED.w (s.get r Rg.AC_CNT.EMITTED) 1 ∧
      ((s.emitCounted r p tk).set r Rg.AC_STAT.FREE v).get r Rg.AC_LAST.AT = tk % 2 ^ 64 := by
  refine ⟨?_, (State.get_set_off _ _ _ _ _ (by decide)).trans (State.get_set_same _ _ _ _)⟩
  have shown : ((s.emitCounted r p tk).set r Rg.AC_STAT.FREE v).get r Rg.AC_CNT.EMITTED =
      ((s.count r Rg.AC_CNT.EMITTED 1).count r Rg.AC_CNT.PARTIAL p).get r Rg.AC_CNT.EMITTED :=
    (State.get_set_off _ _ _ _ _ (by decide)).trans (State.get_set_off _ _ _ _ _ (by decide))
  exact shown.trans ((State.get_set_off _ _ _ _ _ (by decide)).trans (State.get_count_same _ _ _ _))

/-- The destinations of a bucket, the flow included. -/
def State.emitRefs (s : State) (c : Conc) : Nat := (s.concDests c).length + b2n (s.flag (acBase c.home c.n) Rg.AC_CFG.FLOW_EN)

/-- A bucket emitted, before its items go out. -/
def State.emitShown (s : State) (c : Conc) (b : Bucket) : State :=
  ((s.setConc (c.emitted b (s.emitRefs c))).emitCounted (acBase c.home c.n) (b2n (!(absentOf b c.members).isEmpty)) b.tk).showFree c.n

/-- A bucket emitted, with an item for each position that its route selects. -/
def State.emitSent (s : State) (c : Conc) (b : Bucket) (at_ : Nat) : State :=
  (s.concDests c).foldl (fun u d => u.emit (atPos c.home) d 0x54 0 0 0 (s.bucketWords c b at_)) (s.emitShown c b)

theorem State.emitBucket_eq (s : State) (c : Conc) (b : Bucket) (at_ : Nat) : s.emitBucket c b at_ =
    if s.flag (acBase c.home c.n) Rg.AC_CFG.FLOW_EN then
      (s.emitSent c b at_).hwSubmit (s.get (acBase c.home c.n) Rg.AC_FLOW.FLOW) 0 ((s.bucketWords c b at_).headD 0 % 2 ^ 32)
        (some (0x54, s.bucketWords c b at_))
    else s.emitSent c b at_ := by
  delta State.emitBucket State.emitSent State.emitShown State.emitCounted Conc.emitted State.emitRefs
  with_reducible rfl

/-- What is shown before the items go out. -/
theorem State.emitShown_shows (h : s.conc n = some c) (hn : n < 16) (b : Bucket) : ∃ t, s.emitShown c b = t ∧
    t.get (acBase c.home n) Rg.AC_CNT.EMITTED = satAdd Rg.AC_CNT.EMITTED.w (s.get (acBase c.home n) Rg.AC_CNT.EMITTED) 1 ∧
      t.get (acBase c.home n) Rg.AC_LAST.AT = b.tk % 2 ^ 64 ∧ t.conc n = some (c.emitted b (s.emitRefs c)) ∧
      Frame [wTiles] s t { s with cells := t.cells, align := t.align } := by
  obtain rfl := State.conc_n h
  have running : (s.setConc (c.emitted b (s.emitRefs c))).conc c.n = some (c.emitted b (s.emitRefs c)) := State.conc_setConc h rfl
  have home : (c.emitted b (s.emitRefs c)).home = c.home := rfl
  refine ⟨_, rfl, ?_⟩
  unfold State.emitShown
  generalize c.emitted b (s.emitRefs c) = d at running home ⊢
  generalize b2n _ = p
  have counting : ((s.setConc d).emitCounted (acBase c.home c.n) p b.tk).conc c.n = some d := running
  obtain ⟨v, shown⟩ : ∃ v, ((s.setConc d).emitCounted (acBase c.home c.n) p b.tk).showFree c.n =
      ((s.setConc d).emitCounted (acBase c.home c.n) p b.tk).set (acBase c.home c.n) Rg.AC_STAT.FREE v :=
    ⟨_, home ▸ State.showFree_eq counting⟩
  rw [shown]
  obtain ⟨emitted, last⟩ := (s.setConc d).get_emitCounted (acBase c.home c.n) p b.tk v
  have block := acBase_within (List.mem_singleton_self wTiles) c.home hn
  have counted : RegsKept [wTiles] s ((s.setConc d).emitCounted (acBase c.home c.n) p b.tk) :=
    ((((RegsKept.refl _ s).setAln _).setIn block _ (by decide) (by decide)).setIn block _ (by decide) (by decide)).setIn block _
      (by decide) (by decide)
  obtain ⟨l, same⟩ := (s.setConc d).emitCounted_cells (acBase c.home c.n) p b.tk
  exact ⟨emitted, last, (State.conc_set _ _ _ _ _).trans counting, .set_setConc same (counted.setIn block _ (by decide) (by decide))⟩

/-- What goes out leaves what is shown. -/
theorem emitBucket_sent (s : State) (c : Conc) (b : Bucket) (at_ : Nat) :
    (∃ l ls q g d, s.emitBucket c b at_ = { s.emitShown c b with cells := l, links := ls, outq := q, toggles := g, disp := d }) ∧
      RegsKept [wDsp] (s.emitShown c b) (s.emitBucket c b at_) := by
  rw [State.emitBucket_eq, State.emitSent]
  generalize s.emitShown c b = t
  obtain ⟨ls, q, sent⟩ := t.emitAll_eq (s.concDests c) (atPos c.home) 0x54 (s.bucketWords c b at_)
  rw [sent]
  split
  · obtain ⟨⟨l, g, d, submitted⟩, regs⟩ := hwSubmit_kept { t with links := ls, outq := q } (s.get (acBase c.home c.n) Rg.AC_FLOW.FLOW) 0
      ((s.bucketWords c b at_).headD 0 % 2 ^ 32) (some (0x54, s.bucketWords c b at_))
    exact ⟨⟨l, ls, q, g, d, submitted⟩, (RegsKept.of_cells rfl).trans regs⟩
  · exact ⟨⟨_, ls, q, _, _, rfl⟩, .of_cells rfl⟩

/-- What an emission shows, and what it changes. -/
theorem emitBucket_shows (h : s.conc n = some c) (hn : n < 16) (b : Bucket) (at_ : Nat) : ∃ t, s.emitBucket c b at_ = t ∧
    t.get (acBase c.home n) Rg.AC_CNT.EMITTED = satAdd Rg.AC_CNT.EMITTED.w (s.get (acBase c.home n) Rg.AC_CNT.EMITTED) 1 ∧
      t.get (acBase c.home n) Rg.AC_LAST.AT = b.tk % 2 ^ 64 ∧ t.conc n = some (c.emitted b (s.emitRefs c)) ∧
      Frame [wTiles, wDsp] s t
        { s with cells := t.cells, align := t.align, links := t.links, outq := t.outq, disp := t.disp, toggles := t.toggles } := by
  obtain ⟨u, shown, emitted, last, running, same, bytes, regs⟩ := State.emitShown_shows h hn b
  obtain ⟨⟨l, ls, q, g, d, sent⟩, kept⟩ := emitBucket_sent s c b at_
  rw [shown] at sent kept
  generalize s.emitBucket c b at_ = t at sent kept
  have block {f : Fld} (ho : f.off < 0x1000) (hl : f.lo < 64) : t.get (acBase c.home n) f = u.get (acBase c.home n) f := by
    obtain ⟨w, tiles, inside⟩ := acBase_within (List.mem_singleton_self wTiles) c.home hn
    refine kept _ _ hl fun v hv range => ?_
    have place := inside _ ho
    rw [List.mem_singleton.1 tiles] at place
    rw [List.mem_singleton.1 hv] at range
    simp only [wTiles, wDsp] at place range
    omega
  have both : RegsKept [wTiles, wDsp] s t := (regs.mono (by simp)).trans (kept.mono (by simp))
  refine ⟨t, rfl, (block (by decide) (by decide)).trans emitted, (block (by decide) (by decide)).trans last, ?_, ?_, ?_, both⟩
  · rw [sent]
    exact running
  · rw [same] at sent
    subst sent
    rfl
  · rw [sent]
    exact bytes

end Sys2Proof.Machine

open Sys2Proof Sys2Proof.Machine

/-- Settles O36: a command through the state that it leaves; a record replaced is the one that runs (`conc_setConc`), and a part
closed in its tile stays closed when the home collects it (`partHome_closed`). -/
theorem concentrationsFillBuckets : Obligations.ConcentrationsFillBuckets := by
  unfold Obligations.ConcentrationsFillBuckets
  refine ⟨fun m inst n s ⟨hi, hn, hm, hin, hon⟩ ⟨he, hr⟩ => ?enable, fun m inst n c s ⟨_, hn, hm, hin, hon⟩ ⟨hc, hh⟩ => ?disable,
    fun n k c s ⟨hn, hc, _, hd⟩ hk => ?opened, fun inst n c b s ⟨_, hc, hb⟩ => ?part,
    fun inst src q c b s ⟨hi, hc, hb, ht⟩ ⟨hd, hp, hm⟩ => ?item, fun n c b s ⟨hc, _⟩ hb => ?cap,
    fun n at_ c b l s ⟨hn, hc, _, hb, hd⟩ => ?emission, fun n slot c s ⟨hn, hc, _, hl⟩ => ?release⟩
  case enable =>
    obtain ⟨u, on, ⟨en, run, home, refuse⟩, added, frame⟩ := State.concOn_shows hi hn he hr
    have ran : exec (.concEnable m inst n) s = .next (_ : State) :=
      congrArg Host.Outcome.next ((State.concWrite_ok hm hin hon hn _).trans (congrArg (State.answer · .ok 0) on))
    exact ⟨_, ran, en, run, home, refuse, added, frame.answer⟩
  case disable =>
    obtain ⟨u, off, ⟨en, run⟩, ended, frame⟩ := State.concOff_shows hn hc hh
    have ran : exec (.concDisable m inst n) s = .next (_ : State) :=
      congrArg Host.Outcome.next ((State.concWrite_ok hm hin hon hn _).trans (congrArg (State.answer · .ok 0) off))
    exact ⟨_, ran, en, run, ended, frame.answer⟩
  case opened =>
    exact ⟨_, execBucketOpen_eq hc hd hk, (State.conc_showFree _ _ _).trans (State.conc_setConc hc (State.conc_n hc :)),
      .setConc_showFree s _ hn⟩
  case part =>
    have ran : exec (.partClose inst n) s = .next (s.closePart c inst b) := by
      show execPartClose inst n s = _
      unfold execPartClose
      rw [hc]
      dsimp only
      rw [hb]
    obtain ⟨d, running, ⟨k, member, instant⟩, closed⟩ := State.closePart_closed (i := inst) hc (List.mem_of_find?_eq_some hb)
    exact ⟨_, ran, d, State.conc_mem running, State.conc_n running, k, member, instant, closed k member instant⟩
  case item =>
    obtain ⟨rx, links, taken, -⟩ := s.taken_eq (atPos inst) 0x53
    have held : (s.taken (atPos inst) 0x53).conc (bits 0 4 (q.data.headD 0)) = some c := by rw [taken]; exact hc
    have ran : exec (.partItem inst) s = .next ((s.taken (atPos inst) 0x53).setConc
        (c.put { b with parts := [bits 8 3 (q.data.headD 0)], done := some s.nowNs })) := by
      show execPartItem inst s = _
      unfold execPartItem
      rw [hi]
      exact congrArg Host.Outcome.next (State.partHome_only held hb ht hd hp hm)
    refine ⟨_, ran, ⟨_, State.mem_setConc held (Conc.put_n held _), rfl, Conc.put_only hb rfl⟩, rfl, .of_mem rfl, .of_cells rfl⟩
  case cap =>
    have ran : exec (.bucketCapTimeout n) s = .next ((s.closeMissing c b s.nowNs).atEvent c.home Rg.AT_EVT.PART_MISS) := by
      show execBucketCapTimeout n s = _
      unfold execBucketCapTimeout
      rw [hc]
      dsimp only
      rw [hb]
    refine ⟨_, ran, State.get_event_same _ _ _ _ (by decide), ?_⟩
    rw [State.atEvent, State.event_align]
    exact State.closeMissing_done hc (List.mem_of_find?_eq_some hb)
  case emission =>
    obtain ⟨t, sent, emitted, last, running, frame⟩ := emitBucket_shows hc hn b at_
    have ran : exec (.bucketEmit n) s = .next t := by
      show execBucketEmit n s = _
      unfold execBucketEmit
      rw [hc]
      dsimp only
      rw [hb]
      dsimp only
      rw [hd]
      exact congrArg Host.Outcome.next sent
    exact ⟨t, ran, ⟨_, State.conc_mem running, State.conc_n running, rfl, rfl⟩, emitted, last, frame⟩
  case release =>
    exact ⟨_, congrArg Host.Outcome.next (State.slotRelease_last hc hl),
      (State.conc_showFree _ _ _).trans (State.conc_setConc hc (State.conc_n hc :)), .setConc_showFree s _ hn⟩

end

section
/-! PROOF. Alarm pins released (R331). -/

set_option Elab.async false

namespace Sys2Proof.Machine

variable {s : State} {n : Nat}

theorem aoBase_within (hn : n < 8) : Within [wWv] (aoBase n) 0x1000 := wvBlock_within (List.mem_singleton_self _) (by omega)

theorem State.pin_setPin (h : n < s.pins.length) (p : AlarmPin) : (s.setPin n p).pin n = p := listSet_getD_same _ _ _ _ h

/-- Pin `n` deasserted, its latch open. -/
def State.pinReleased (s : State) (n : Nat) : State :=
  (s.set (aoBase n) Rg.AO_CFG.STATE 0).setPin n { s.pin n with latched := false }

theorem State.pinUpdate_released (hon : s.pinOn n = true) (hs : s.pinSource n = false) (hm : (s.pin n).minEnd ≤ s.nowNs)
    (hl : ((s.pin n).latched && s.flag (aoBase n) Rg.AO_CFG.LATCH) = false) : s.pinUpdate n = s.pinReleased n := by
  have held : ¬(s.flag (aoBase n) Rg.AO_CFG.STATE = true ∧
      (s.nowNs < (s.pin n).minEnd ∨ ((s.pin n).latched = true ∧ s.flag (aoBase n) Rg.AO_CFG.LATCH = true))) := by
    rintro ⟨-, early | ⟨latched, holds⟩⟩
    · omega
    · rw [latched, holds] at hl
      exact absurd hl (by decide)
  unfold State.pinUpdate
  dsimp only
  rw [hon, hs, if_neg (by decide), if_neg (by decide), if_neg held]
  rfl

/-- CLR opens the latch before the pin follows its sources. -/
theorem State.pinClear_released (hn : n < s.pins.length) (hon : s.pinOn n = true) (hs : s.pinSource n = false)
    (hm : (s.pin n).minEnd ≤ s.nowNs) : s.pinClear n = (s.setPin n { s.pin n with latched := false }).pinReleased n := by
  have opened : (s.setPin n { s.pin n with latched := false }).pin n = { s.pin n with latched := false } := State.pin_setPin hn _
  have same : (s.setPin n { s.pin n with latched := false }).pinSource n = s.pinSource n := by
    unfold State.pinSource
    rw [opened]
    rfl
  rw [State.pinClear, if_neg (by rw [hs]; decide)]
  refine State.pinUpdate_released hon (same.trans hs) ?_ ?_
  · rw [opened]
    exact hm
  · rw [opened]
    rfl

theorem State.pinReleased_shows (hn : n < 8) (hp : s.pins.length = 8) :
    (s.pinReleased n).get (aoBase n) Rg.AO_CFG.STATE = 0 ∧ (s.pinReleased n).pin n = { s.pin n with latched := false } ∧
      Frame [Machine.wWv] s (s.pinReleased n) { s with cells := (s.pinReleased n).cells, pins := (s.pinReleased n).pins } :=
  ⟨State.get_set_same _ _ 0 _, State.pin_setPin (hn.trans_eq hp.symm) _, rfl, .of_mem rfl,
    ((RegsKept.refl _ s).setIn (f := Rg.AO_CFG.STATE) (aoBase_within hn) 0 (by decide) (by decide)).cells rfl⟩

end Sys2Proof.Machine
end

section
/-! PROOF. Trigger lines driven, observed and stuck, and the triggers they send (R337, R338). -/

set_option Elab.async false

namespace Sys2Proof

theorem listSet_length {α : Type} (v : α) : ∀ (l : List α) (i : Nat), (listSet l i v).length = l.length
  | [], _ => rfl
  | _ :: _, 0 => rfl
  | _ :: t, i + 1 => congrArg (· + 1) (listSet_length v t i)

end Sys2Proof

namespace Sys2Proof.Machine

variable {s t : State} {ws : List (Nat × Nat)} {n e k : Nat} {x : Trig}

theorem tlBase_within (hn : n < 2) : Within [wWv] (tlBase n) 0x1000 := wvBlock_within (List.mem_singleton_self _) (by omega)

theorem State.line_setLine (h : n < s.lines.length) (x : TrigLine) : (s.setLine n x).line n = x := listSet_getD_same _ _ _ _ h

/-! ### The device's pulse -/

/-- Line `n` pulled low by the device. -/
def State.lineDriven (s : State) (n : Nat) : State :=
  (s.setLine n { s.line n with pulseEnd := s.nowNs + max (s.get (tlBase n) Rg.TL_CFG.PULSE_US) 1 * 1000,
                               own := if s.flag (tlBase n) Rg.TL_CFG.LOW then (s.line n).own else true }).set
    (tlBase n) Rg.TL_CFG.DRIVING 1

theorem State.lineDrive_on (h : s.lineOn n = true) : s.lineDrive n = s.lineDriven n := by
  rw [State.lineDrive, if_neg (by rw [h]; decide)]
  rfl

theorem State.io_of_lineOn (h : s.lineOn n = true) : s.on .io = true := (Bool.and_eq_true_iff.1 h).2

theorem execTlPulseEnd_eq (hd : s.flag (tlBase n) Rg.TL_CFG.DRIVING = true) (he : (s.line n).pulseEnd ≤ s.nowNs) (hn : n < 2) :
    execTlPulseEnd n s = .next (s.set (tlBase n) Rg.TL_CFG.DRIVING 0) := if_pos ⟨hd, he, hn⟩

/-! ### Triggers sent -/

/-- The state once a trigger has been sent to the engines below `k`. -/
def State.sentBelow (s : State) (k : Nat) (x : Trig) : State := (List.range k).foldl (fun t e => t.sendTrig e x) s

theorem State.sentBelow_succ (s : State) (k : Nat) (x : Trig) : s.sentBelow (k + 1) x = (s.sentBelow k x).sendTrig k x := by
  rw [State.sentBelow, List.range_succ, List.foldl_append]
  rfl

theorem State.sendTrig_engines (s : State) (e : Nat) (x : Trig) :
    ∃ l, s.sendTrig e x = { s with engines := l } ∧ l.length = s.engines.length := by
  unfold State.sendTrig
  split
  · exact ⟨_, rfl, listSet_length _ _ _⟩
  · exact ⟨_, rfl, rfl⟩

theorem State.sentBelow_engines (s : State) (k : Nat) (x : Trig) :
    ∃ l, s.sentBelow k x = { s with engines := l } ∧ l.length = s.engines.length := by
  induction k with
  | zero => exact ⟨_, rfl, rfl⟩
  | succ k ih =>
    obtain ⟨l, sent, same⟩ := ih
    obtain ⟨l', next, same'⟩ := State.sendTrig_engines { s with engines := l } k x
    exact ⟨l', by rw [State.sentBelow_succ, sent, next], same'.trans same⟩

theorem State.eng_sendTrig_ne (h : k ≠ e) : (s.sendTrig k x).eng e = s.eng e := by
  unfold State.sendTrig
  split
  · exact listSet_getD_ne _ _ _ _ _ h
  · rfl

theorem State.eng_sendTrig_same (he : e < s.engines.length) (hx : bitOf x.src (s.tg e Rg.TG_TSRC.SRC) = true) :
    (s.sendTrig e x).eng e = { s.eng e with way := (s.eng e).way ++ [x] } := by
  rw [State.sendTrig, if_pos hx]
  exact listSet_getD_same _ _ _ _ he

/-- An engine that selects the source has the trigger on its way once, after its turn. -/
theorem State.eng_sentBelow (he : e < s.engines.length) (hx : bitOf x.src (s.tg e Rg.TG_TSRC.SRC) = true) :
    (s.sentBelow k x).eng e = if e < k then { s.eng e with way := (s.eng e).way ++ [x] } else s.eng e := by
  induction k with
  | zero => rfl
  | succ k ih =>
    rw [State.sentBelow_succ]
    by_cases turn : k = e
    · subst turn
      rw [if_neg (Nat.lt_irrefl _)] at ih
      obtain ⟨l, sent, same⟩ := s.sentBelow_engines k x
      rw [if_pos (Nat.lt_succ_self k), State.eng_sendTrig_same (by rw [sent]; exact he.trans_eq same.symm) (by rw [sent]; exact hx), ih]
    · rw [State.eng_sendTrig_ne turn, ih]
      simp only [show (e < k + 1) = (e < k) from propext (by omega)]

theorem State.way_sendTrigs (he : e < 8) (hl : s.engines.length = 8) (hx : bitOf x.src (s.tg e Rg.TG_TSRC.SRC) = true) :
    ((s.sendTrigs x).eng e).way = (s.eng e).way ++ [x] := by
  have sent : (s.sendTrigs x).eng e = _ := State.eng_sentBelow (k := 8) (he.trans_eq hl.symm) hx
  rw [sent, if_pos he]

theorem State.sendTrigs_engines (s : State) (x : Trig) : ∃ l, s.sendTrigs x = { s with engines := l } :=
  let ⟨l, sent, _⟩ := s.sentBelow_engines 8 x
  ⟨l, sent⟩

theorem State.get_sendTrigs (s : State) (x : Trig) (b : Nat) (f : Fld) : (s.sendTrigs x).get b f = s.get b f := by
  obtain ⟨l, sent⟩ := s.sendTrigs_engines x
  rw [sent]
  rfl

theorem State.line_sendTrigs (s : State) (x : Trig) (n : Nat) : (s.sendTrigs x).line n = s.line n := by
  obtain ⟨l, sent⟩ := s.sendTrigs_engines x
  rw [sent]
  rfl

/-- Triggers sent once registers and the lines' records have changed. -/
theorem Frame.sendTrigs {u : State} (hu : ∃ c k, u = { s with cells := c, lines := k }) (hk : RegsKept ws s u) (x : Trig) :
    Frame ws s (u.sendTrigs x)
      { s with cells := (u.sendTrigs x).cells, lines := (u.sendTrigs x).lines, engines := (u.sendTrigs x).engines } := by
  obtain ⟨l, sent⟩ := u.sendTrigs_engines x
  obtain ⟨c, k, rfl⟩ := hu
  rw [sent]
  exact ⟨rfl, .of_mem rfl, hk.cells rfl⟩

/-! ### Edges -/

/-- A falling edge on line `n` shown with its instant. -/
def State.lineFell (s : State) (n : Nat) : State :=
  ((s.setLine n { s.line n with lowAt := s.nowNs, own := false }).set (tlBase n) Rg.TL_CFG.LOW 1).set (tlBase n) Rg.TL_TS.AT s.now

theorem execTrigLineEdge_eq (hon : s.lineOn n = true) (hl : s.flag (tlBase n) Rg.TL_CFG.LOW = false)
    (hr : s.flag (tlBase n) Rg.TL_CFG.RX_EN = true) (hs : s.flag (tlBase n) Rg.TL_CFG.STUCK = false) :
    execTrigLineEdge n s = .next ((s.lineFell n).sendTrigs
      ⟨4 + n, s.nowNs, 0, (s.line n).own && s.flag (tlBase n) Rg.TL_CFG.DRIVING⟩) := by
  have free : s.unstick n = s := if_neg fun ⟨stuck, _⟩ => by rw [hs] at stuck; exact absurd stuck (by decide)
  unfold execTrigLineEdge
  dsimp only
  rw [free, hon, hl, hr, hs, if_neg (by decide), if_neg (by decide), if_neg (by decide)]
  rfl

/-- What a falling edge changes, and what is read after it. -/
theorem State.lineFell_shows (hn : n < 2) (hl : s.lines.length = 2) : ∃ t, s.lineFell n = t ∧
    (∃ c k, t = { s with cells := c, lines := k }) ∧ t.get (tlBase n) Rg.TL_CFG.LOW = 1 ∧
      t.get (tlBase n) Rg.TL_TS.AT = s.now % 2 ^ 64 ∧ (t.line n).lowAt = s.nowNs ∧ RegsKept [Machine.wWv] s t := by
  have moved : RegsKept [Machine.wWv] s (s.setLine n { s.line n with lowAt := s.nowNs, own := false }) := .of_cells rfl
  exact ⟨_, rfl, ⟨_, _, rfl⟩, (State.get_set_off _ _ _ _ _ (by decide)).trans (State.get_set_same _ _ 1 _),
    State.get_set_same _ _ s.now _, congrArg TrigLine.lowAt (listSet_getD_same _ _ _ _ (hn.trans_eq hl.symm)),
    (moved.setIn (tlBase_within hn) 1 (by decide) (by decide)).setIn (tlBase_within hn) _ (by decide) (by decide)⟩

theorem RegsKept.tg_src (h : RegsKept [wWv] s t) (e : Nat) : t.tg e Rg.TG_TSRC.SRC = s.tg e Rg.TG_TSRC.SRC := by
  have range := kindBase_range .trig (e / tileLanes .trig)
  have lane : tgBase e = kindBase .trig (e / tileLanes .trig) + e % tileLanes .trig * 0x100 := rfl
  have lanes : e % tileLanes .trig < 4 := Nat.mod_lt _ (by decide)
  refine h _ _ (by decide) fun w hw inside => ?_
  rw [List.mem_singleton.1 hw] at inside
  simp only [wWv, Rg.TG_TSRC.SRC] at inside
  omega

theorem execTlStuck_eq (hon : s.lineOn n = true) (hl : s.flag (tlBase n) Rg.TL_CFG.LOW = true)
    (hs : (s.line n).lowAt + 1000000000 < s.nowNs) : execTlStuck n s =
      .next ((s.set (tlBase n) Rg.TL_CFG.STUCK 1).event 30 bWv (if n = 0 then Rg.TL_EVT.STUCK0 else Rg.TL_EVT.STUCK1)) :=
  if_pos ⟨hon, hl, hs⟩

/-- The two bits of TL_EVT. -/
theorem stuckBit_place (n : Nat) : (if n = 0 then Rg.TL_EVT.STUCK0 else Rg.TL_EVT.STUCK1).off = 0x980 ∧
    (if n = 0 then Rg.TL_EVT.STUCK0 else Rg.TL_EVT.STUCK1).lo < 2 ∧ (if n = 0 then Rg.TL_EVT.STUCK0 else Rg.TL_EVT.STUCK1).w = 1 := by
  split
  · decide
  · decide

theorem execTrigLineHigh_eq (hon : s.lineOn n = true) (hd : s.flag (tlBase n) Rg.TL_CFG.DRIVING = false)
    (hl : s.flag (tlBase n) Rg.TL_CFG.LOW = true) : execTrigLineHigh n s =
      .next ((s.set (tlBase n) Rg.TL_CFG.LOW 0).setLine n { s.line n with highAt := s.nowNs }) := by
  rw [execTrigLineHigh, hon, hd, if_neg (by decide), if_pos hl]

end Sys2Proof.Machine

open Sys2Proof Sys2Proof.Machine

/-- Settles O38: each command takes the branch that its hypotheses name; a trigger reaches an engine in the engine's turn
(`way_sendTrigs`). -/
theorem alarmPinsAndLines : Obligations.AlarmPinsAndLines := by
  unfold Obligations.AlarmPinsAndLines
  refine ⟨fun n s ⟨hn, hp, hon, hs, _⟩ ⟨hm, hl⟩ => ?expiry, fun m n s ⟨hn, hp, hw, hon, hs, hm⟩ => ?clear,
    fun m n s ⟨hn, hl, hw, hon⟩ => ?drive, fun n s ⟨hn, hd, he⟩ => ?pulseEnd,
    fun n e s ⟨hn, he, hl, hk, hon, hlow, hr⟩ ⟨hs, hx⟩ => ?edge, fun n s ⟨hn, hon, hlow, hs⟩ => ?stuck,
    fun n s ⟨hn, hl, hon, hd, hlow⟩ => ?high⟩
  case expiry =>
    have ran : exec (.alarmPinMinExpiry n) s = .next (s.pinReleased n) :=
      (if_pos hn).trans (congrArg Host.Outcome.next (State.pinUpdate_released hon hs hm hl))
    obtain ⟨state, pin, frame⟩ := State.pinReleased_shows hn hp
    exact ⟨_, ran, state, pin, frame⟩
  case clear =>
    have io : s.on .io = true := (Bool.and_eq_true_iff.1 hon).2
    have ran : exec (.alarmClr m n) s = .next (((s.setPin n { s.pin n with latched := false }).pinReleased n).answer .ok 0) := by
      refine congrArg Host.Outcome.next ((State.actWrite_ok _ _ _ _ _ _ hw io).trans ?_)
      rw [if_pos hn, State.pinClear_released (hn.trans_eq hp.symm) hon hs hm]
    have opened := State.pin_setPin (hn.trans_eq hp.symm) { s.pin n with latched := false }
    obtain ⟨state, pin, frame⟩ := State.pinReleased_shows (s := s.setPin n { s.pin n with latched := false }) hn
      ((listSet_length _ _ _).trans hp)
    exact ⟨_, ran, state, pin.trans (by rw [opened]), frame.answer⟩
  case drive =>
    have ran : exec (.tlDrive m n) s = .next ((s.lineDriven n).answer .ok 0) := by
      refine congrArg Host.Outcome.next ((State.actWrite_ok _ _ _ _ _ _ hw (State.io_of_lineOn hon)).trans ?_)
      rw [State.lineDrive_on hon]
    have line : (s.lineDriven n).line n = _ := State.line_setLine (hn.trans_eq hl.symm) _
    exact ⟨_, ran, State.get_set_same _ _ 1 _, congrArg TrigLine.pulseEnd line, congrArg TrigLine.own line, rfl, .of_mem rfl,
      RegsKept.setIn (f := Rg.TL_CFG.DRIVING) (.of_cells rfl) (tlBase_within hn) 1 (by decide) (by decide)⟩
  case pulseEnd =>
    exact ⟨_, execTlPulseEnd_eq hd he hn, State.get_set_same _ _ 0 _, rfl, .of_mem rfl,
      (RegsKept.refl _ s).setIn (tlBase_within hn) 0 (by decide) (by decide)⟩
  case edge =>
    obtain ⟨u, fell, shape, low, at_, lowAt, kept⟩ := State.lineFell_shows hn hl
    have ran : exec (.trigLineEdge n) s = .next (u.sendTrigs
        ⟨4 + n, s.nowNs, 0, (s.line n).own && s.flag (tlBase n) Rg.TL_CFG.DRIVING⟩) :=
      fell ▸ execTrigLineEdge_eq hon hlow hr hs
    have way : ((u.sendTrigs ⟨4 + n, s.nowNs, 0, (s.line n).own && s.flag (tlBase n) Rg.TL_CFG.DRIVING⟩).eng e).way = _ :=
      State.way_sendTrigs he (by obtain ⟨c, k, rfl⟩ := shape; exact hk) ((kept.tg_src e).symm ▸ hx)
    have before : u.eng e = s.eng e := by obtain ⟨c, k, rfl⟩ := shape; rfl
    exact ⟨_, ran, (State.get_sendTrigs _ _ _ _).trans low, (State.get_sendTrigs _ _ _ _).trans at_,
      (congrArg TrigLine.lowAt (State.line_sendTrigs _ _ _)).trans lowAt, before ▸ way, .sendTrigs shape kept _⟩
  case stuck =>
    obtain ⟨off, lo, w⟩ := stuckBit_place n
    have ran : exec (.tlStuck n) s = _ := execTlStuck_eq hon hlow hs
    refine ⟨_, ran, ⟨(State.get_event_ne _ _ _ _ _ _ ?_).trans (State.get_set_same _ _ 1 _),
      State.get_event_same _ _ _ _ (by rw [w]; decide)⟩, ?_⟩
    · simp only [fldKey, tlBase, Rg.TL_CFG.STUCK, off]
      omega
    · have shown := (RegsKept.refl _ s).setIn (f := Rg.TL_CFG.STUCK) (tlBase_within hn) 1 (by decide) (by decide)
      exact (((RegShape.refl s).set _ _ _).event _ _ _).frame rfl
        (shown.eventIn (wvBase_within (List.mem_singleton_self _)) 30 (by rw [off]; decide) (by omega))
  case high =>
    have line : ((s.set (tlBase n) Rg.TL_CFG.LOW 0).setLine n { s.line n with highAt := s.nowNs }).line n = _ :=
      State.line_setLine (hn.trans_eq hl.symm) _
    exact ⟨_, execTrigLineHigh_eq hon hd hlow, State.get_set_same _ _ 0 _, line, rfl, .of_mem rfl,
      ((RegsKept.refl _ s).setIn (f := Rg.TL_CFG.LOW) (tlBase_within hn) 0 (by decide) (by decide)).cells rfl⟩

end

section
/-! SUPPORT. Analysis groups: their register blocks, their records, and what an alarm can change (R317, R330, R331). -/

set_option Elab.async false

namespace Sys2Proof.Machine

variable {s t u : State} {ws : List (Nat × Nat)} {fs : List Fld} {f : Fld} {g n : Nat}

/-! ### Register blocks -/

theorem mgBase_eq (hg : g < 64) : mgBase g = tileBase (mgPos g) + g % 16 * 0x80 := by
  have hi : g / 16 < (tilePositions .moda).length := by
    show g / 16 < 4
    omega
  simp only [mgBase, mgPos, laneBase, chanPos, kindBase, tileLanes, List.getD_eq_getElem _ _ hi]

theorem mgBase_range (g : Nat) : 0x2000_0000 ≤ mgBase g ∧ mgBase g < 0x202D_0000 := by
  have range := kindBase_range .moda (g / 16)
  have lane : mgBase g = kindBase .moda (g / 16) + g % 16 * 0x80 := rfl
  omega

/-- The registers of a group, counted from some place in its block, lie in the window of its tile. -/
theorem mgBlock_within (hw : wTile (mgPos g) ∈ ws) (hg : g < 64) (x : Nat) (hx : x + n ≤ 0x1100) : Within ws (mgBase g + x) n := by
  have base := mgBase_eq hg
  have range := mgBase_range g
  refine ⟨_, hw, fun off ho => ?_⟩
  simp only [wTile]
  omega

theorem mgBase_within (hw : wTile (mgPos g) ∈ ws) (hg : g < 64) : Within ws (mgBase g) 0x1100 := mgBlock_within hw hg 0 le_rfl

/-- The pins' registers are not among those of a group. -/
theorem RegsKept.get_mg (h : RegsKept [wWv] s t) (ho : f.off < 0x1100) (hl : f.lo < 64) :
    t.get (mgBase g) f = s.get (mgBase g) f := by
  have range := mgBase_range g
  refine h _ _ hl fun w hw inside => ?_
  rw [List.mem_singleton.1 hw] at inside
  simp only [wWv] at inside
  omega

/-! ### Records and writes -/

@[simp] theorem State.grp_setGrp_same (s : State) (g : Nat) (x : Group) : (s.setGrp g x).grp g = x :=
  (lookupD_assocSet _ _ _ _ _).trans (if_pos rfl)

@[simp] theorem State.get_setGrp (s : State) (g : Nat) (x : Group) (b : Nat) (f : Fld) : (s.setGrp g x).get b f = s.get b f := rfl

theorem RegShape.grp (h : RegShape s t) (g : Nat) : t.grp g = s.grp g := by
  obtain ⟨c, k, rfl⟩ := h
  rfl

theorem RegShape.mgEvent (h : RegShape s t) (g : Nat) (f : Fld) : RegShape s (t.mgEvent g f) := h.event _ _ _

/-- A write of MG_CTRL by a master that has the right, for a lane that is enabled. -/
theorem State.mgWrite_ok {m : Master} (hm : mayWriteService s m = true) (hl : g % 16 < s.lanesAt (mgPos g))
    (hon : s.on (domOf (islandOf (mgPos g))) = true) (k : State → State) : s.mgWrite m g k = (k s).answer .ok 0 :=
  State.tileWrite_ok _ _ _ _ _ _ hm (Bool.and_eq_true_iff.2 ⟨decide_eq_true hl, hon⟩)

/-! ### Pins (R331) -/

theorem State.pinUpdate_shape (s : State) (n : Nat) : ∃ c p, s.pinUpdate n = { s with cells := c, pins := p } := by
  unfold State.pinUpdate
  extract_lets x was
  split
  · exact ⟨_, _, rfl⟩
  · split
    · exact ⟨_, _, rfl⟩
    · split
      · exact ⟨_, _, rfl⟩
      · exact ⟨_, _, rfl⟩

theorem RegsKept.pinUpdate (h : RegsKept [wWv] s t) (hn : n < 8) : RegsKept [wWv] s (t.pinUpdate n) := by
  have shown (v : Nat) (x : AlarmPin) : RegsKept [wWv] s ((t.set (aoBase n) Rg.AO_CFG.STATE v).setPin n x) :=
    (h.setIn (f := Rg.AO_CFG.STATE) (aoBase_within hn) v (by decide) (by decide)).cells rfl
  exact .ite (shown _ _) (.ite (shown _ _) (.ite h (shown _ _)))

theorem State.pinsUpdate_shape (s : State) : ∃ c p, s.pinsUpdate = { s with cells := c, pins := p } := by
  refine List.foldlRecOn (motive := fun t : State => ∃ c p, t = { s with cells := c, pins := p }) (List.range 8) _ ⟨_, _, rfl⟩ ?_
  rintro t ⟨c, p, rfl⟩ n -
  exact State.pinUpdate_shape { s with cells := c, pins := p } n

theorem RegsKept.pinsUpdate (s : State) : RegsKept [wWv] s s.pinsUpdate :=
  List.foldlRecOn (motive := fun t : State => RegsKept [wWv] s t) (List.range 8) _ (.refl _ s) fun _ kept _ hn =>
    kept.pinUpdate (List.mem_range.1 hn)

/-! ### What an evaluated frame can change -/

/-- What a frame of group `g` changes once it has been taken: registers of the group's tile and of the pins, records of groups
beside the frames that wait, pins, and items on links. The fields `fs` of the group stay. -/
structure FrameKept (fs : List Fld) (g : Nat) (s t : State) : Prop where
  shape : ∃ c k p l e, t = { s with cells := c, groups := k, pins := p, links := l, toggles := e }
  regs : RegsKept [wTile (mgPos g), wWv] s t
  own : ∀ f ∈ fs, t.get (mgBase g) f = s.get (mgBase g) f
  last : (t.grp g).last = (s.grp g).last
  pend : (t.grp g).pend = (s.grp g).pend

theorem FrameKept.refl (fs : List Fld) (g : Nat) (s : State) : FrameKept fs g s s :=
  ⟨⟨_, _, _, _, _, rfl⟩, .refl _ s, fun _ _ => rfl, rfl, rfl⟩

theorem FrameKept.trans (h : FrameKept fs g s t) (k : FrameKept fs g t u) : FrameKept fs g s u := by
  refine ⟨?_, h.regs.trans k.regs, fun f hf => (k.own f hf).trans (h.own f hf), k.last.trans h.last, k.pend.trans h.pend⟩
  obtain ⟨c, gr, p, l, e, rfl⟩ := h.shape
  obtain ⟨c', gr', p', l', e', rfl⟩ := k.shape
  exact ⟨c', gr', p', l', e', rfl⟩

theorem FrameKept.mono {gs : List Fld} (h : FrameKept fs g s t) (hs : gs ⊆ fs) : FrameKept gs g s t :=
  ⟨h.shape, h.regs, fun f hf => h.own f (hs hf), h.last, h.pend⟩

theorem FrameKept.ite {c : Prop} {_ : Decidable c} (ht : FrameKept fs g s t) (hu : FrameKept fs g s u) :
    FrameKept fs g s (if c then t else u) := by
  split
  · exact ht
  · exact hu

theorem FrameKept.of_shape (hs : RegShape s t) (hr : RegsKept [wTile (mgPos g), wWv] s t)
    (ho : ∀ f ∈ fs, t.get (mgBase g) f = s.get (mgBase g) f) : FrameKept fs g s t := by
  refine ⟨?_, hr, ho, by rw [hs.grp], by rw [hs.grp]⟩
  obtain ⟨c, e, rfl⟩ := hs
  exact ⟨_, _, _, _, _, rfl⟩

theorem FrameKept.set (h : FrameKept fs g s t) (hg : g < 64) (ho : f.off < 0x1100) (hl : f.lo < 64)
    (off : ∀ k ∈ fs, k.off * 64 + k.lo ≠ f.off * 64 + f.lo) (v : Nat) : FrameKept fs g s (t.set (mgBase g) f v) :=
  h.trans (.of_shape ((RegShape.refl t).set _ _ _) ((RegsKept.refl _ t).setIn (mgBase_within List.mem_cons_self hg) v ho hl)
    fun k hk => State.get_set_off _ _ _ _ _ (off k hk))

theorem FrameKept.sets (h : FrameKept fs g s t) (hg : g < 64) {l : List (Fld × Nat)}
    (hl : l.all (fun p => decide (p.1.off < 0x1100 ∧ p.1.lo < 64)) = true)
    (off : fs.all (fun k => decide (k.lo < 64) && l.all (fun p => !(k.off == p.1.off && k.lo == p.1.lo))) = true) :
    FrameKept fs g s (t.sets (mgBase g) l) := by
  refine h.trans (.of_shape ((RegShape.refl t).sets _ _) ((RegsKept.refl _ t).setsIn (mgBase_within List.mem_cons_self hg) hl)
    fun k hk => State.get_sets_off fun f hf => ?_)
  obtain ⟨p, hp, rfl⟩ := List.mem_map.1 hf
  obtain ⟨low, apart⟩ := Bool.and_eq_true_iff.1 (List.all_eq_true.1 off k hk)
  have place := of_decide_eq_true (List.all_eq_true.1 hl p hp)
  have other := List.all_eq_true.1 apart p hp
  simp only [Bool.not_eq_true', Bool.and_eq_false_iff, beq_eq_false_iff_ne, decide_eq_true_eq] at low other
  omega

theorem FrameKept.event (h : FrameKept fs g s t) (hg : g < 64) (ho : f.off < 0x1100) (hl : f.lo < 64)
    (off : ∀ k ∈ fs, k.off * 64 + k.lo ≠ f.off * 64 + f.lo) : FrameKept fs g s (t.mgEvent g f) :=
  h.trans (.of_shape ((RegShape.refl t).mgEvent _ _) ((RegsKept.refl _ t).eventIn (mgBase_within List.mem_cons_self hg) _ ho hl)
    fun k hk => State.get_event_off _ _ _ _ _ (off k hk))

theorem FrameKept.toggle (h : FrameKept fs g s t) (ev : Nat) : FrameKept fs g s (t.toggle ev) :=
  h.trans (.of_shape ((RegShape.refl t).toggle ev) (.of_cells (State.toggle_cells _ _)) fun _ _ => State.get_toggle _ _ _ _)

theorem FrameKept.setGrp {x : Group} (h : FrameKept fs g s t) (hl : x.last = (t.grp g).last) (hp : x.pend = (t.grp g).pend) :
    FrameKept fs g s (t.setGrp g x) :=
  h.trans ⟨⟨_, _, _, _, _, rfl⟩, .of_cells rfl, fun _ _ => rfl, by rw [State.grp_setGrp_same, hl],
    by rw [State.grp_setGrp_same, hp]⟩

theorem FrameKept.pinsUpdate (h : FrameKept fs g s t) (hf : ∀ f ∈ fs, f.off < 0x1100 ∧ f.lo < 64) :
    FrameKept fs g s t.pinsUpdate := by
  have regs := RegsKept.pinsUpdate t
  obtain ⟨c, p, shown⟩ := t.pinsUpdate_shape
  rw [shown] at regs ⊢
  exact h.trans ⟨⟨_, _, _, _, _, rfl⟩, regs.mono (by simp), fun f m => regs.get_mg (hf f m).1 (hf f m).2, rfl, rfl⟩

theorem FrameKept.sendMask (h : FrameKept fs g s t) (pos mask typ : Nat) (data : List Nat) :
    FrameKept fs g s (t.sendMask pos mask typ data).1 := by
  obtain ⟨ls, sent⟩ := t.sendMask_links pos mask typ data
  rw [sent]
  exact h.trans ⟨⟨_, _, _, _, _, rfl⟩, .of_cells rfl, fun _ _ => rfl, rfl, rfl⟩

/-- The fields of a frame that its alarm leaves alone. -/
def frameFlds : List Fld := [Rg.MG_CNT.ABSENT, Rg.MG_STAT.MONITORED]

/-- A change of ALARM shown, with its instant and its events. -/
def State.alarmShown (s : State) (g : Nat) (v : Bool) : State :=
  ((s.sets (mgBase g) [(Rg.MG_STAT.ALARM, b2n v), (Rg.MG_ALTS.AT, s.now)]).mgEvent g Rg.MG_EVT.ALARM_CHG).toggle (152 + g)

/-- The pins after a change of ALARM, and its item on the links, with the number of drops. -/
def State.alarmSent (s : State) (g : Nat) (v tflag : Bool) (w tk : Nat) : State × Nat :=
  (s.alarmShown g v).pinsUpdate.sendMask (mgPos g) ((s.alarmShown g v).mg g Rg.MG_CFG.ALARM_ROUTE) 0x55
    [g + (s.alarmShown g v).mg g Rg.MG_CFG.KIND * 2 ^ 6 + b2n v * 2 ^ 7 + b2n tflag * 2 ^ 8 + w, tk]

theorem State.setAlarm_eq (s : State) (g : Nat) (v tflag : Bool) (w tk : Nat) : s.setAlarm g v tflag w tk =
    if s.flag (mgBase g) Rg.MG_STAT.ALARM = v then s
    else if (s.alarmSent g v tflag w tk).2 = 0 then (s.alarmSent g v tflag w tk).1
    else (s.alarmSent g v tflag w tk).1.mgEvent g Rg.MG_EVT.OUT_DROP := rfl

theorem FrameKept.alarmSent (h : FrameKept frameFlds g s t) (hg : g < 64) (v tflag : Bool) (w tk : Nat) :
    FrameKept frameFlds g s (t.alarmSent g v tflag w tk).1 := by
  have shown : FrameKept frameFlds g s (t.alarmShown g v) :=
    ((h.sets hg (by rfl) (by rfl)).event hg (by decide) (by decide) (by decide)).toggle _
  exact (shown.pinsUpdate (by decide)).sendMask _ _ _ _

theorem FrameKept.setAlarm (h : FrameKept frameFlds g s t) (hg : g < 64) (v tflag : Bool) (w tk : Nat) :
    FrameKept frameFlds g s (t.setAlarm g v tflag w tk) := by
  have sent := h.alarmSent hg v tflag w tk
  rw [State.setAlarm_eq]
  exact .ite h (.ite sent (sent.event hg (by decide) (by decide) (by decide)))

end Sys2Proof.Machine
end

section
/-! PROOF. Analysis groups: enabled, evaluated, restarted and stale (R318–R329). -/

set_option Elab.async false

namespace Sys2Proof.Machine

variable {s : State} {f : Fld} {g : Nat} {y : GridFrame}

/-! ### Enable (R321) -/

/-- The rate that an enabled group shows. -/
def State.mgShownRate (s : State) (g : Nat) : Nat :=
  if s.mg g Rg.MG_CFG.KIND = 0 then (rnd 50 (s.mgRate g) (s.decim g)).toNat else s.mgRate g

/-- The fields that an accepted enable sets. -/
def State.mgStarted (s : State) (g : Nat) : List (Fld × Nat) :=
  [(Rg.MG_CTRL.EN, 1), (Rg.MG_STAT.RUN, 1), (Rg.MG_STAT.REFUSE, 0), (Rg.MG_STAT.VALID, 0), (Rg.MG_STAT.ALARM, 0),
    (Rg.MG_STAT.STALE, 0), (Rg.MG_STAT.MONITORED, 0), (Rg.MG_STAT.NMODE, 0), (Rg.MG_STAT.RATE, s.mgShownRate g)]

theorem State.groupOn_eq (he : s.flag (mgBase g) Rg.MG_CTRL.EN = false) (hr : s.mgRefusal g = 0) :
    s.groupOn g = (s.sets (mgBase g) (s.mgStarted g)).setGrp g { Group.off with last := s.nowNs, monAt := s.nowNs } := by
  have now : (s.sets (mgBase g) (s.mgStarted g)).nowNs = s.nowNs := by rw [State.nowNs, State.sets_time, State.nowNs]
  rw [← now]
  unfold State.groupOn
  dsimp only
  rw [he, hr, if_neg (by decide), if_neg (fun h : (0 : Nat) ≠ 0 => h rfl)]
  rfl

/-- What an accepted enable leaves and shows. -/
theorem State.groupOn_shows (hg : g < 64) (he : s.flag (mgBase g) Rg.MG_CTRL.EN = false) (hr : s.mgRefusal g = 0) :
    ∃ t, s.groupOn g = t ∧
      (t.get (mgBase g) Rg.MG_CTRL.EN = 1 ∧ t.get (mgBase g) Rg.MG_STAT.RUN = 1 ∧ t.get (mgBase g) Rg.MG_STAT.REFUSE = 0 ∧
        t.get (mgBase g) Rg.MG_STAT.VALID = 0 ∧ t.get (mgBase g) Rg.MG_STAT.ALARM = 0 ∧
        t.get (mgBase g) Rg.MG_STAT.RATE = s.mgShownRate g % 2 ^ Rg.MG_STAT.RATE.w) ∧
      t.grp g = { Group.off with last := s.nowNs, monAt := s.nowNs } ∧
      Frame [wTile (mgPos g)] s t { s with cells := t.cells, groups := t.groups } := by
  have shown {f : Fld} {v : Nat} (hl : _) (hv : lastSet f (s.mgStarted g) = some v) :
      ((s.sets (mgBase g) (s.mgStarted g)).setGrp g { Group.off with last := s.nowNs, monAt := s.nowNs }).get (mgBase g) f =
        v % 2 ^ f.w := (State.get_setGrp _ _ _ _ _).trans (State.get_sets_last hl hv)
  have regs : RegsKept [wTile (mgPos g)] s (s.sets (mgBase g) (s.mgStarted g)) :=
    (RegsKept.refl _ s).setsIn (mgBase_within (List.mem_singleton_self _) hg) rfl
  refine ⟨_, State.groupOn_eq he hr, ⟨shown (v := 1) (by rfl) (by rfl), shown (v := 1) (by rfl) (by rfl),
    shown (v := 0) (by rfl) (by rfl), shown (v := 0) (by rfl) (by rfl), shown (v := 0) (by rfl) (by rfl), shown (by rfl) (by rfl)⟩,
    State.grp_setGrp_same _ _ _, ?_⟩
  obtain ⟨c, started⟩ := s.sets_cells (mgBase g) (s.mgStarted g)
  rw [started] at regs ⊢
  exact ⟨rfl, .of_mem rfl, regs.cells rfl⟩

/-! ### Restarts (R325) -/

/-- A group's record with its model forgotten. -/
def Group.forgotten (x : Group) : Group := { x with frames := [], passed := 0, hist := [], skips := 0 }

/-- The model forgotten and counted, before the event. -/
def State.modelForgotten (s : State) (g : Nat) : State :=
  ((s.setGrp g (s.grp g).forgotten).set (mgBase g) Rg.MG_STAT.VALID 0).count (mgBase g) Rg.MG_CNT.RESTARTS 1

theorem State.restart_eq (s : State) (g : Nat) : s.restart g = (s.modelForgotten g).mgEvent g Rg.MG_EVT.RESTART := rfl

theorem State.get_modelForgotten (s : State) (g : Nat) : (s.modelForgotten g).get (mgBase g) Rg.MG_STAT.VALID = 0 ∧
    (s.modelForgotten g).get (mgBase g) Rg.MG_CNT.RESTARTS =
      satAdd Rg.MG_CNT.RESTARTS.w (s.get (mgBase g) Rg.MG_CNT.RESTARTS) 1 := by
  have before : ((s.setGrp g (s.grp g).forgotten).set (mgBase g) Rg.MG_STAT.VALID 0).get (mgBase g) Rg.MG_CNT.RESTARTS =
      s.get (mgBase g) Rg.MG_CNT.RESTARTS := State.get_set_off _ _ _ _ _ (by decide)
  exact ⟨(State.get_set_off _ _ _ _ _ (by decide)).trans (State.get_set_same _ _ 0 _),
    (State.get_count_same _ _ _ _).trans (by rw [before])⟩

theorem RegsKept.modelForgotten (s : State) (hg : g < 64) : RegsKept [wTile (mgPos g)] s (s.modelForgotten g) := by
  have block : Within [wTile (mgPos g)] (mgBase g) 0x1100 := mgBase_within (List.mem_singleton_self _) hg
  have forgot : RegsKept [wTile (mgPos g)] s (s.setGrp g (s.grp g).forgotten) := .of_cells rfl
  exact (forgot.setIn block 0 (by decide) (by decide)).setIn block _ (by decide) (by decide)

/-- What a restart of the model leaves and shows. -/
theorem State.restart_shows (s : State) (hg : g < 64) : ∃ t, s.restart g = t ∧ t.grp g = (s.grp g).forgotten ∧
    (t.get (mgBase g) Rg.MG_STAT.VALID = 0 ∧ t.get (mgBase g) Rg.MG_EVT.RESTART = 1 ∧
      t.get (mgBase g) Rg.MG_CNT.RESTARTS = satAdd Rg.MG_CNT.RESTARTS.w (s.get (mgBase g) Rg.MG_CNT.RESTARTS) 1) ∧
    Frame [wTile (mgPos g)] s t { s with cells := t.cells, groups := t.groups, toggles := t.toggles } := by
  obtain ⟨valid, count⟩ := s.get_modelForgotten g
  have shape : RegShape (s.setGrp g (s.grp g).forgotten) ((s.modelForgotten g).mgEvent g Rg.MG_EVT.RESTART) :=
    (((RegShape.refl _).set _ _ _).set _ _ _).mgEvent _ _
  have regs : RegsKept [wTile (mgPos g)] s ((s.modelForgotten g).mgEvent g Rg.MG_EVT.RESTART) :=
    (RegsKept.modelForgotten s hg).eventIn (mgBase_within (List.mem_singleton_self _) hg) _ (by decide) (by decide)
  refine ⟨_, s.restart_eq g, (shape.grp g).trans (State.grp_setGrp_same _ _ _),
    ⟨(State.get_event_off _ _ _ _ _ (by decide)).trans valid, State.get_event_same _ _ _ _ (by decide),
      (State.get_event_off _ _ _ _ _ (by decide)).trans count⟩, ?_⟩
  obtain ⟨c, e, restarted⟩ := shape
  exact ⟨restarted ▸ rfl, .of_mem (restarted ▸ rfl), regs⟩

/-! ### A frame taken (R320) -/

theorem State.mgAbsorb_nil (h : s.inbox = []) (i : Nat) : s.mgAbsorb i = s := by
  have kept (p : Inbound → Bool) : s.inbox.filter p = s.inbox := by rw [h, List.filter_nil]
  unfold State.mgAbsorb State.collect
  dsimp only
  rw [kept, kept, h]
  exact congrArg (fun l => { s with inbox := l }) h.symm

/-- The absent values of a frame. -/
def State.mgAbsent (s : State) (g : Nat) (v : List (Option Int)) : Nat := ((s.entries g).filter (fun j => (v.getD j none).isNone)).length

/-- A frame marked as the last one evaluated, with its absent values counted. -/
def State.frameTaken (s : State) (g : Nat) (y : GridFrame) : State :=
  (s.setGrp g { s.grp g with last := y.tk, pend := (s.grp g).pend.filter (fun k => decide (y.tk < k.tk)) }).count (mgBase g)
    Rg.MG_CNT.ABSENT (s.mgAbsent g (s.frameValues g y))

theorem State.evalFrame_eq (s : State) (g : Nat) (y : GridFrame) : s.evalFrame g y =
    if (s.frameTaken g y).mg g Rg.MG_CFG.KIND = 0 then (s.frameTaken g y).oscFrame g y.tk y.tflag (s.frameValues g y)
    else (s.frameTaken g y).islandFrame g y.tk y.tflag (s.frameValues g y) := rfl

theorem State.mg_frameTaken (hf : f.off * 64 + f.lo ≠ Rg.MG_CNT.ABSENT.off * 64 + Rg.MG_CNT.ABSENT.lo) :
    (s.frameTaken g y).mg g f = s.mg g f := State.get_set_off _ _ _ _ _ hf

theorem State.absent_frameTaken (s : State) (g : Nat) (y : GridFrame) : (s.frameTaken g y).get (mgBase g) Rg.MG_CNT.ABSENT =
    satAdd Rg.MG_CNT.ABSENT.w (s.get (mgBase g) Rg.MG_CNT.ABSENT) (s.mgAbsent g (s.frameValues g y)) := State.get_count_same _ _ _ _

theorem State.grp_frameTaken (s : State) (g : Nat) (y : GridFrame) : (s.frameTaken g y).grp g =
    { s.grp g with last := y.tk, pend := (s.grp g).pend.filter (fun k => decide (y.tk < k.tk)) } := State.grp_setGrp_same _ _ _

theorem RegsKept.frameTaken (s : State) (hg : g < 64) (y : GridFrame) : RegsKept [wTile (mgPos g)] s (s.frameTaken g y) := by
  have marked : RegsKept [wTile (mgPos g)] s
      (s.setGrp g { s.grp g with last := y.tk, pend := (s.grp g).pend.filter (fun k => decide (y.tk < k.tk)) }) := .of_cells rfl
  exact marked.setIn (mgBase_within (List.mem_singleton_self _) hg) _ (by decide) (by decide)

theorem State.frameTaken_shape (s : State) (g : Nat) (y : GridFrame) : ∃ c k, s.frameTaken g y = { s with cells := c, groups := k } :=
  ⟨_, _, rfl⟩

/-- The entries' registers are not the group's counters. -/
theorem State.entries_frameTaken (s : State) (g : Nat) (y : GridFrame) : (s.frameTaken g y).entries g = s.entries g := by
  have enabled (j : Nat) : (s.frameTaken g y).flag (mgSig g j) Rg.MG_SIG.EN = s.flag (mgSig g j) Rg.MG_SIG.EN := by
    refine congrArg (· == 1) (State.get_set_ne _ _ _ _ _ _ ?_)
    simp only [fldKey, mgSig, mgBase, laneBase, tileLanes, Rg.MG_SIG.EN, Rg.MG_CNT.ABSENT]
    omega
  unfold State.entries
  simp only [enabled]

/-! ### Frames of an OSC group (R322) -/

/-- A frame that does not complete its sample. -/
theorem State.oscFrame_passing {tk : Nat} {tflag : Bool} {v : List (Option Int)} (hv : (s.entries g).length < 4 * s.mgAbsent g v)
    (hp : (s.grp g).passed + 1 < s.decim g) :
    s.oscFrame g tk tflag v = s.setGrp g { s.grp g with passed := (s.grp g).passed + 1 } := by
  unfold State.mgAbsent at hv
  unfold State.oscFrame
  dsimp only
  rw [if_pos hv]
  exact if_neg (Nat.not_le.2 hp)

/-- A frame of estimates to which none has come has no values. -/
theorem State.frameValues_none (hf : s.mg g Rg.MG_CFG.FEED = 1) (he : y.ests = []) (j : Nat) :
    (s.frameValues g y).getD j none = none := by
  unfold State.frameValues
  rw [if_neg (by omega), he]
  simp only [lookupD, ite_self]
  exact List.getD_map _ 0 (fun _ => none)

theorem State.mgAbsent_none {v : List (Option Int)} (h : ∀ j, v.getD j none = none) : s.mgAbsent g v = (s.entries g).length := by
  unfold State.mgAbsent
  simp only [h, Option.isNone_none, List.filter_true]

theorem execGroupFrameTimeout_eq (hen : s.mgEn g = true) (hin : s.inbox = []) (hf : s.mg g Rg.MG_CFG.FEED = 1) (hp : (s.grp g).pend = [])
    (hy : y = ⟨s.gridAfter (s.mgRate g) (s.grp g).last, [], [], false⟩) (ht : y.tk + 300000 ≤ s.nowNs) :
    execGroupFrameTimeout g s = .next (s.evalFrame g y) := by
  have nxt : s.nextFrame g = y := by
    rw [State.nextFrame, hp, hy]
    rfl
  unfold execGroupFrameTimeout
  dsimp only
  rw [State.mgAbsorb_nil hin, nxt, if_neg (by simp [hen, hf]), if_pos ht]

/-- What a frame without estimates leaves of an OSC group whose sample goes on. -/
theorem State.evalFrame_passing (hg : g < 64) (hf : s.mg g Rg.MG_CFG.FEED = 1) (hk : s.mg g Rg.MG_CFG.KIND = 0) (he : s.entries g ≠ [])
    (hy : y.ests = []) (hp : (s.grp g).passed + 1 < s.decim g) : ∃ t, s.evalFrame g y = t ∧
      ((t.grp g).last = y.tk ∧ (t.grp g).passed = (s.grp g).passed + 1 ∧ (t.grp g).frames = (s.grp g).frames) ∧
      t.get (mgBase g) Rg.MG_CNT.ABSENT = satAdd Rg.MG_CNT.ABSENT.w (s.get (mgBase g) Rg.MG_CNT.ABSENT) (s.entries g).length ∧
      Frame [wTile (mgPos g)] s t { s with cells := t.cells, groups := t.groups } := by
  have enabled : 0 < (s.entries g).length := List.length_pos_iff.2 he
  have gone := State.frameValues_none hf hy
  have after : (s.frameTaken g y).mgAbsent g (s.frameValues g y) = (s.entries g).length := by
    rw [State.mgAbsent_none gone, State.entries_frameTaken]
  have record := s.grp_frameTaken g y
  have counted := s.absent_frameTaken g y
  have regs := RegsKept.frameTaken s hg y
  have decim : (s.frameTaken g y).decim g = s.decim g := congrArg (· + 1) (State.mg_frameTaken (by decide))
  have passing : s.evalFrame g y =
      (s.frameTaken g y).setGrp g { (s.frameTaken g y).grp g with passed := (s.grp g).passed + 1 } := by
    rw [State.evalFrame_eq, State.mg_frameTaken (by decide), if_pos hk,
      State.oscFrame_passing (by rw [after, State.entries_frameTaken]; omega) (by rw [record, decim]; exact hp), record]
  rw [State.mgAbsent_none gone] at counted
  refine ⟨_, passing, ?_, counted, ?_⟩
  · rw [State.grp_setGrp_same, record]
    exact ⟨rfl, rfl, rfl⟩
  · obtain ⟨c, k, taken⟩ := s.frameTaken_shape g y
    rw [taken] at regs ⊢
    exact ⟨rfl, .of_mem rfl, regs.cells rfl⟩

/-! ### Frames of an ISLAND group (R326–R328) -/

/-- Which sites are present rests on the frame alone. -/
theorem State.map_sites (s : State) (g : Nat) (v : List (Option Int)) :
    (s.sites g v).map Prod.fst = (List.range 32).filterMap (fun i => (v.getD (2 * i) none).map (fun _ => i)) := by
  simp only [State.sites, List.map_filterMap, Option.map_map, Function.comp_def]

theorem State.length_sites (s t : State) (g : Nat) (v : List (Option Int)) : (s.sites g v).length = (t.sites g v).length := by
  rw [← List.length_map (f := Prod.fst), State.map_sites, ← State.map_sites t, List.length_map]

/-- The registers that show a monitored frame's clusters. -/
def State.clustersShown (s : State) (g : Nat) (cs : List Clu) : State :=
  let at_ (i : Nat) : Nat := (cs[i]?).elim 0 (·.bits_)
  (s.sets (mgBase g) [(Rg.MG_ISLR.NCLU, min cs.length 4), (Rg.MG_ISLR.MORE, b2n (decide (4 < cs.length))),
    (Rg.MG_ISLR.DF, min (rnd 52 ((spread cs).1 : Int) (2 ^ 149)).toNat 0xFFF),
    (Rg.MG_ISLR.SLIP, min (rnd 53 ((10 * (spread cs).2 : Nat) : Int) (2 ^ 20)).toNat 0xFFFF), (Rg.MG_CLU.C0, at_ 0),
    (Rg.MG_CLU.C1, at_ 1), (Rg.MG_STAT.MONITORED, 1), (Rg.MG_STAT.STALE, 0)]).sets (mgBase g + 8)
    [(Rg.MG_CLU.C0, at_ 2), (Rg.MG_CLU.C1, at_ 3)]

/-- A monitored frame shows its clusters, notes them in the group's record, and sets or clears the alarm. -/
theorem State.islandSeen_eq (s : State) (g tk : Nat) (tflag : Bool) (cs : List Clu) : ∃ (x : Group) (w : Nat) (on off : Bool),
    x.last = ((s.clustersShown g cs).grp g).last ∧ x.pend = ((s.clustersShown g cs).grp g).pend ∧ s.islandSeen g tk tflag cs =
      if on then ((s.clustersShown g cs).setGrp g x).setAlarm g true tflag w tk
      else if off then ((s.clustersShown g cs).setGrp g x).setAlarm g false tflag w tk
      else (s.clustersShown g cs).setGrp g x := by
  unfold State.islandSeen
  extract_lets b d df sl at_ s₁ s₂ sep x x' s₃ w al n
  exact ⟨x', w, !al && decide (n ≤ x'.sep), al && decide (n ≤ x'.one), rfl, rfl, rfl⟩

theorem State.clustersShown_kept (s : State) (hg : g < 64) (cs : List Clu) :
    FrameKept [Rg.MG_CNT.ABSENT] g s (s.clustersShown g cs) ∧ (s.clustersShown g cs).get (mgBase g) Rg.MG_STAT.MONITORED = 1 := by
  unfold State.clustersShown
  extract_lets at_
  have apart {f k : Fld} (hf : f.off = 0x1028 ∨ f.off = 0x1068) (hl : f.lo < 64) (hk : k.off = 0x1058) (hm : k.lo < 64) :
      fldKey f (mgBase g) ≠ fldKey k (mgBase g + 8) := by
    unfold fldKey
    omega
  have high {f : Fld} (hf : f.off = 0x1028 ∨ f.off = 0x1068) (hl : f.lo < 64) (u : State) :
      (u.sets (mgBase g + 8) [(Rg.MG_CLU.C0, at_ 2), (Rg.MG_CLU.C1, at_ 3)]).get (mgBase g) f = u.get (mgBase g) f :=
    (State.get_set_ne _ _ _ _ _ _ (apart (k := Rg.MG_CLU.C1) hf hl rfl (by decide))).trans
      (State.get_set_ne _ _ _ _ _ _ (apart (k := Rg.MG_CLU.C0) hf hl rfl (by decide)))
  refine ⟨((FrameKept.refl _ g s).sets hg (by rfl) (by rfl)).trans (.of_shape ((RegShape.refl _).sets _ _)
    ((RegsKept.refl _ _).setsIn (mgBlock_within (n := 0x1060) List.mem_cons_self hg 8 (by decide)) (by rfl)) fun f hf => ?_),
    (high (.inl rfl) (by decide) _).trans (State.get_sets_last (v := 1) (by rfl) (by rfl))⟩
  rw [List.mem_singleton.1 hf]
  exact high (.inr rfl) (by decide) _

/-- A monitored frame leaves the count of absent values and shows the group as monitored. -/
theorem State.islandSeen_kept (s : State) (hg : g < 64) (tk : Nat) (tflag : Bool) (cs : List Clu) :
    FrameKept [Rg.MG_CNT.ABSENT] g s (s.islandSeen g tk tflag cs) ∧
      (s.islandSeen g tk tflag cs).get (mgBase g) Rg.MG_STAT.MONITORED = 1 := by
  obtain ⟨shown, monitored⟩ := s.clustersShown_kept hg cs
  obtain ⟨x, w, on, off, last, pend, seen⟩ := s.islandSeen_eq g tk tflag cs
  have noted : FrameKept frameFlds g (s.clustersShown g cs) ((s.clustersShown g cs).setGrp g x) := (FrameKept.refl _ g _).setGrp last pend
  have alarm : FrameKept frameFlds g (s.clustersShown g cs) (s.islandSeen g tk tflag cs) := by
    rw [seen]
    exact .ite (noted.setAlarm hg _ _ _ _) (.ite (noted.setAlarm hg _ _ _ _) noted)
  exact ⟨shown.trans (alarm.mono (by decide)), (alarm.own _ (by decide)).trans monitored⟩

theorem State.islandFrame_shows (s : State) (hg : g < 64) (tk : Nat) (tflag : Bool) (v : List (Option Int)) :
    ∃ t, s.islandFrame g tk tflag v = t ∧ FrameKept [Rg.MG_CNT.ABSENT] g s t ∧ (t.grp g).prev = v ∧
      t.get (mgBase g) Rg.MG_STAT.MONITORED = if (s.sites g v).length < 2 then 0 else 1 := by
  unfold State.islandFrame
  extract_lets l t
  have seen : FrameKept [Rg.MG_CNT.ABSENT] g s t ∧ t.get (mgBase g) Rg.MG_STAT.MONITORED = if l.length < 2 then 0 else 1 := by
    unfold t
    split
    · exact ⟨(FrameKept.refl _ g s).set hg (by decide) (by decide) (by decide) 0, State.get_set_same _ _ 0 _⟩
    · exact s.islandSeen_kept hg tk tflag _
  exact ⟨_, rfl, seen.1.setGrp rfl rfl, by rw [State.grp_setGrp_same], seen.2⟩

theorem execGroupFrameEval_eq {l : List GridFrame} (hen : s.mgEn g = true) (hin : s.inbox = []) (hf : s.mg g Rg.MG_CFG.FEED = 0)
    (hp : (s.grp g).pend = y :: l) : execGroupFrameEval g s = .next (s.evalFrame g y) := by
  unfold execGroupFrameEval
  dsimp only
  rw [State.mgAbsorb_nil hin, hen, hf, hp, if_neg (by decide), if_pos rfl]

/-- What a bucket's frame leaves of an ISLAND group. -/
theorem State.evalFrame_island (hg : g < 64) (hf : s.mg g Rg.MG_CFG.FEED = 0) (hk : s.mg g Rg.MG_CFG.KIND = 1) :
    ∃ t, s.evalFrame g y = t ∧
    ((t.grp g).last = y.tk ∧ (t.grp g).pend = (s.grp g).pend.filter (fun k => decide (y.tk < k.tk)) ∧ (t.grp g).prev = y.vals) ∧
    t.get (mgBase g) Rg.MG_CNT.ABSENT = satAdd Rg.MG_CNT.ABSENT.w (s.get (mgBase g) Rg.MG_CNT.ABSENT) (s.mgAbsent g y.vals) ∧
    t.get (mgBase g) Rg.MG_STAT.MONITORED = (if (s.sites g y.vals).length < 2 then 0 else 1) ∧
    Frame [wTile (mgPos g), Machine.wWv] s t
      { s with cells := t.cells, groups := t.groups, pins := t.pins, links := t.links, toggles := t.toggles } := by
  have values : s.frameValues g y = y.vals := if_pos hf
  have record := s.grp_frameTaken g y
  have counted := s.absent_frameTaken g y
  have taken := RegsKept.frameTaken s hg y
  obtain ⟨t, seen, kept, prev, monitored⟩ := (s.frameTaken g y).islandFrame_shows hg y.tk y.tflag y.vals
  have evaluated : s.evalFrame g y = t := by
    rw [State.evalFrame_eq, State.mg_frameTaken (by decide), if_neg (by omega), values, seen]
  rw [values] at counted
  rw [State.length_sites _ s] at monitored
  refine ⟨t, evaluated, ⟨kept.last.trans (by rw [record]), kept.pend.trans (by rw [record]), prev⟩,
    (kept.own _ (List.mem_singleton_self _)).trans counted, monitored, ?_⟩
  have regs : RegsKept [wTile (mgPos g), Machine.wWv] s t := (taken.mono (by simp)).trans kept.regs
  obtain ⟨c, k, shape⟩ := s.frameTaken_shape g y
  obtain ⟨c', k', p, l, e, rfl⟩ := kept.shape
  rw [shape] at regs ⊢
  exact ⟨rfl, .of_mem rfl, regs⟩

end Sys2Proof.Machine

open Sys2Proof Sys2Proof.Machine

/-- Settles O37: each command takes the branch that its hypotheses name; an alarm leaves what its frame shows (`FrameKept.setAlarm`). -/
theorem groupsEvaluateFrames : Obligations.GroupsEvaluateFrames := by
  unfold Obligations.GroupsEvaluateFrames
  refine ⟨fun m g s ⟨hg, hm, hl, hon⟩ ⟨he, hr⟩ => ?enable, fun g y l s ⟨hg, hen, hin, hf, hk, hp⟩ => ?bucket,
    fun g y s ⟨hg, hen, hin, hf, hk, hp, he⟩ ⟨hy, ht, hd⟩ => ?timeout, fun g s ⟨hg, hen, hk, hs, hr⟩ => ?skipped,
    fun m g s ⟨hg, hm, hl, hon⟩ ⟨hen, hk⟩ => ?restart, fun g s ⟨hg, hen, hk, hm⟩ => ?stale⟩
  case enable =>
    obtain ⟨u, on, ⟨en, run, refuse, valid, alarm, rate⟩, record, frame⟩ := State.groupOn_shows hg he hr
    have ran : exec (.groupEnable m g) s = .next (u.answer .ok 0) :=
      congrArg Host.Outcome.next ((State.mgWrite_ok hm hl hon _).trans (congrArg (State.answer · .ok 0) on))
    exact ⟨_, ran, en, run, refuse, valid, alarm, rate, record, frame.answer⟩
  case bucket =>
    obtain ⟨t, evaluated, ⟨last, pend, prev⟩, absent, monitored, same, bytes, regs⟩ := State.evalFrame_island (y := y) hg hf hk
    have ran : exec (.groupFrameEval g) s = .next t :=
      (execGroupFrameEval_eq hen hin hf hp).trans (congrArg Host.Outcome.next evaluated)
    have outq : t.outq = s.outq := (congrArg State.outq same :)
    have disp : t.disp = s.disp := (congrArg State.disp same :)
    exact ⟨t, ran, last, pend, prev, absent, monitored, by rw [outq, disp]; exact same, bytes, regs.mono (by simp)⟩
  case timeout =>
    obtain ⟨t, evaluated, ⟨last, passed, frames⟩, absent, frame⟩ :=
      State.evalFrame_passing hg hf hk he (congrArg GridFrame.ests hy) hd
    have ran : exec (.groupFrameTimeout g) s = .next t :=
      (execGroupFrameTimeout_eq hen hin hf hp hy ht).trans (congrArg Host.Outcome.next evaluated)
    exact ⟨t, ran, last, passed, frames, absent, frame⟩
  case skipped =>
    obtain ⟨t, restarted, record, ⟨valid, event, count⟩, frame⟩ := s.restart_shows hg
    have ran : exec (.modelRestart g) s = .next t := (if_pos ⟨hen, hk, hs, hr⟩).trans (congrArg Host.Outcome.next restarted)
    exact ⟨t, ran, record, valid, event, count, frame⟩
  case restart =>
    obtain ⟨t, restarted, record, ⟨valid, event, count⟩, frame⟩ := s.restart_shows hg
    have asked : s.restartCmd g = t := (if_pos ⟨hen, hk⟩).trans restarted
    have ran : exec (.modelRestartCmd m g) s = .next (t.answer .ok 0) :=
      congrArg Host.Outcome.next ((State.mgWrite_ok hm hl hon _).trans (congrArg (State.answer · .ok 0) asked))
    exact ⟨_, ran, record, valid, event, count, frame.answer⟩
  case stale =>
    have block : Within [wTile (mgPos g)] (mgBase g) 0x1100 := mgBase_within (List.mem_singleton_self _) hg
    have ran : exec (.groupStale g) s = .next ((s.set (mgBase g) Rg.MG_STAT.STALE 1).mgEvent g Rg.MG_EVT.STALE) :=
      if_pos ⟨hen, hk, hm⟩
    have shown := (RegsKept.refl _ s).setIn (f := Rg.MG_STAT.STALE) block 1 (by decide) (by decide)
    exact ⟨_, ran, (State.get_event_off _ _ _ _ _ (by decide)).trans (State.get_set_same _ _ 1 _),
      State.get_event_same _ _ _ _ (by decide),
      (((RegShape.refl s).set _ _ _).mgEvent _ _).frame rfl (shown.eventIn block _ (by decide) (by decide))⟩

end
